-- ==== Sys2Proof/Word.lean ====
section
/-! DEFINITION. The byte and the plainest types every other file uses: a byte, a rein, a severity. -/
namespace Sys2Proof

/-- A byte of a device structure, a flash frame or host memory. -/
abbrev Byte := BitVec 8

/-- One of the two reins (host ports), 10_reins. -/
inductive Rein where
  | a
  | b
  deriving DecidableEq, Repr, Inhabited

/-- The rein's number in records and masks: 0 A, 1 B (0x0A02, 0x0A03, 0x0A09). -/
def Rein.num : Rein → Nat
  | .a => 0
  | .b => 1

/-- The other rein. -/
def Rein.other : Rein → Rein
  | .a => .b
  | .b => .a

end Sys2Proof
end

