-- ==== Sys2Proof/Config.lean ====
section
/-! DEFINITION. What the spec fixes for every part, and the FREE VALUES it leaves open: opaque constants with no body,
so that nothing can be proved about what they are. -/
namespace Sys2Proof.Config

/-- Identity and JTAG code of stepping B1 (R2, R464). -/
def idcode : Nat := 0x296041B3
/-- The stepping byte of IDENT_REC and of IMG_HDR (R427, R466). -/
def steppingB1 : Nat := 0xB1
/-- Teeth in a round (R30). -/
def roundTeeth : Nat := 1024
/-- Bytes of the saddlebag ring (R397) and of its holding buffer (R402). -/
def ringBytes : Nat := 8388608
def holdBytes : Nat := 262144
/-- Data granules of the write buffer, granules of a chunk, number of chunks (R208). -/
def wbGranules : Nat := 31457280
def chunkGranules : Nat := 4096
def chunkCount : Nat := 7680
/-- Largest segment pool (R160). -/
def maxSegments : Nat := 122880
/-- Submission and completion queues of the drive's pool (R241). -/
def queuePool : Nat := 1280

/-- FREE VALUE: the fields of the identity fuses that the spec does not fix (R466), as the number of the 64-byte record
with STEPPING, IDCODE and the reserved bits left to the record's own definition. -/
opaque fuseRecord : Nat
/-- FREE VALUE: the 256-bit fuse root key (R290). -/
opaque fuseRootKey : BitVec 256
/-- FREE VALUE: 64 bits drawn from the random source, for the n-th draw (R288). -/
opaque randomSalt : Nat → BitVec 64
/-- FREE VALUE: 32 bits that seed a DRAM channel's activate LFSR at a reset, for the n-th draw (R350). -/
opaque randomSeed : Nat → BitVec 32
/-- FREE VALUE: byte `off` of the Identify data of a CNS, for a namespace or controller, where the spec names no value (R262). -/
opaque identifyByte : (cns sel off : Nat) → Byte
/-- FREE VALUE: byte `off` of log page `lid` where the spec names no value (R269), for the n-th draw. -/
opaque logByte : (lid off n : Nat) → Byte
/-- FREE VALUE: the response body of an NVMe-MI request whose content NVMe-MI and not this manual gives (R456). -/
opaque miByte : (request off n : Nat) → Byte
/-- FREE VALUE: the length of such a response body. -/
opaque miLength : (request n : Nat) → Nat
/-- FREE VALUES: the ROM's plans for the geometry found, GEOM and the dies that answer: how many, header number of plan `p` packed as PLAN_HDR,
byte `i` of its slot array, and entry `i` of the selection table (R25, R77). The model takes them only where they meet R75. -/
opaque romPlanCount : (geom : Nat) → (dies : List Nat) → Nat
opaque romPlanHdr : (geom : Nat) → (dies : List Nat) → (p : Nat) → Nat
opaque romPlanByte : (geom : Nat) → (dies : List Nat) → (p i : Nat) → Byte
opaque romSelect : (geom : Nat) → (dies : List Nat) → (i : Nat) → Nat
/-- FREE VALUE: whether a pattern of 13 or more errors is miscorrected (R340), for the n-th draw, and in which lanes the decoder then
believes it corrected symbols, as a mask. -/
opaque miscorrects : (addr n : Nat) → Bool
opaque miscorrectedLanes : (addr n : Nat) → Nat
/-- FREE VALUE: the next pattern of a DRAM channel's 32-bit activate LFSR, whose polynomial the spec does not give, and whether a pattern
is one of the 2^-k that schedule a neighbour refresh (R350). -/
opaque lfsrNext : BitVec 32 → BitVec 32
opaque drawsNeighbour : (k : Nat) → BitVec 32 → Bool
/-- FREE VALUE: the write DQ delay of an entry of DRAM_TRAIN once it has been adjusted by its rank's DQS oscillator, for the n-th draw (R353). -/
opaque dqDelay : (entry n : Nat) → BitVec 10
/-- FREE VALUE: the value of a standard feature before the host sets it (R267 gives no defaults). -/
opaque defaultFeature : (fid : Nat) → Nat
/-- FREE VALUE: AVAIL for U usable blocks when U0 does not exceed S, where the quotient of R175 has no value. -/
opaque availDegenerate : (u u0 spare : Nat) → Nat
/-- FREE VALUE: the reason field of code 0x1109 for an update that fails after its write has begun (R423 states no reason). -/
opaque updateFailReason : Nat
/-- FREE VALUE: the application and reference tag of a unit that a stream command writes to a namespace with protection information (R335 gives
the command no tags). -/
opaque streamTag : (nsx unit : Nat) → Nat
/-- FREE VALUE: blocks that a reclaim unit can still take, in Reclaim Unit Handle Status (R264 gives no value). -/
opaque ruhRoom : (handle n : Nat) → Nat
/-- FREE VALUE: the result field of code 0x0B06 when a self-test begins (R282 gives it a result only at its end). -/
opaque selfTestBegunResult : Nat

end Sys2Proof.Config
end

