-- ==== Sys2Proof/Syntax.lean ====
section
/-! DEFINITION. The commands: one constructor of `Instr` per row of spec/opcode_table.json. The table gives its rows no
fields, so each constructor's operands are what the environment alone knows at that step: which die, queue or rein the
step is about, what a host put in memory, and what a measurement, a decoder or an array answered (log 10). A host
command is named by its TAG, the row of the command table that ENTRY_FETCH filled with its submission entry. -/
namespace Sys2Proof

/-- A function of a rein: what a host register or a queue belongs to (R240, R241). -/
structure Port where
  rein : Rein
  func : Nat
  deriving DecidableEq, Repr, Inhabited

/-- The straps as sampled at step 1 of R418 (R461). -/
structure Straps where
  halterN : Bool
  linkMerge : Bool
  deriving DecidableEq, Repr, Inhabited

/-- What the parameter page of die 0.0.0 gives in bareback operation (R84). -/
structure ParamPage where
  planes : Nat
  bitsPerCell : Nat
  rowCycles : Nat
  ipr : Bool
  pagesPerBlock : Nat
  blocksPerLun : Nat
  planeBits : Nat
  spareBytes : Nat
  fcPages : Nat
  tR : Nat
  tProgMax : Nat
  tProgFcMax : Nat
  tBersMax : Nat
  endurance : Nat
  deriving DecidableEq, Repr, Inhabited

/-- What the part meets at a step of the boot order; each step reads the fields its own work finds (R418). -/
structure BootFound where
  /-- Step 3: words of the image that do not read (check 1 of R440). -/
  imageUnreadable : Bool
  /-- Step 3 (R467, step 2): the factory area reads with a correct CRC; its record and date. -/
  factory : Option (Nat × Nat)
  /-- Step 5: fitted size of each DRAM channel in GiB, ranks of each, and the RFM and row-bit mode registers (R339, R355). -/
  dramGiB : List Nat
  dramRanks : Nat
  rfm : Bool
  rowBits : Nat
  /-- Step 5 (R353): the rate, channel and rank of each check of loaded values that fails and of each full training that fails, and the values that
  full training gives, by entry of DRAM_TRAIN. -/
  dramCheckFails : List (Nat × Nat × Nat)
  dramTrainFails : List (Nat × Nat × Nat)
  dramTrained : List (Nat × Nat)
  /-- Step 6: engines and core pairs whose known-answer vectors fail (R297, R313, R337). -/
  failedCompressors : List Nat
  failedDecompressors : List Nat
  failedPairs : List Nat
  /-- Step 6: key-store slots whose record fails its check (R297). -/
  unreadableSlots : List Nat
  /-- Step 7 (R80, R81): the parameter page of die 0.0.0 and those of dies that differ from it, the dies that answer Read ID, the dies with no page of
  correct CRC, with a Read ID that differs or without a feature of R79, the channels whose ZQ calibration long fails twice, the rate that each channel
  reaches (a channel not listed reaches none), and its targets that fail at MT1600. -/
  page : ParamPage
  otherPages : List (Nat × ParamPage)
  diesAnswering : List Nat
  diesFailing : List Nat
  zqFailing : List Nat
  channelRate : List (Nat × Nat)
  targetsFailing : List (Nat × Nat)
  deriving DecidableEq, Repr, Inhabited

/-- What restart finds in flash at its steps (R229 to R233): whether parts 1 to 7 of the dump, and its index alone, are recovered, which slots are not, and which
wear-copy frames do not read. -/
structure RestartFound where
  partsOk : Bool
  indexOk : Bool
  lostSlots : List Nat
  badWearDies : List (Nat × Nat)
  deriving DecidableEq, Repr, Inhabited

/-- The MR4 refresh-rate field of one rank at a round boundary: above 85 °C or not, and the upper bound of its band (R349, R379). -/
structure Mr4Reading where
  ch : Nat
  rank : Nat
  hot : Bool
  band : Int
  deriving DecidableEq, Repr, Inhabited

/-- A rein self-test's measurement: the eye of every trained lane, and whether the link went down during it (R252). -/
structure EyeFound where
  width : List Nat
  height : List Nat
  interrupted : Bool
  deriving DecidableEq, Repr, Inhabited

/-- What a rein trains to: rate code 1 to 6, lanes, FLIT mode, and the self-test's eyes (R237, R252, R254); with it the FLITs or TLPs replayed and the
errors that AER has taken as correctable or uncorrectable since the link last trained. -/
structure LinkFound where
  rate : Nat
  width : Nat
  flit : Bool
  eyes : EyeFound
  replays : Nat
  corrErrors : Nat
  uncorrErrors : Nat
  deriving DecidableEq, Repr, Inhabited

/-- What the element of a device self-test that ends in this tooth found (R280, R281): its check found no error that no code corrects, it was the
last of its segment, the reins' eyes, and the engines and core pairs whose known-answer vectors fail. -/
structure TestFound where
  ok : Bool
  last : Bool
  eyesA : EyeFound
  eyesB : EyeFound
  failedCompressors : List Nat
  failedDecompressors : List Nat
  failedPairs : List Nat
  deriving DecidableEq, Repr, Inhabited

/-- Host registers of a controller without a row of their own (R283, R6), the configuration-space bits this manual names
(PTM Enable, R238; ASPM L1, R387; MSI-X and everything else), and any register of no meaning here. -/
inductive HostReg where
  | aqa
  | asq
  | acq
  | cc
  | intms
  | intmc
  | ptmEnable
  | aspmL1
  | vfEnable
  | readOnly
  deriving DecidableEq, Repr, Inhabited

/-- The fields of the Namespace Management create buffer this device uses (R131, R139, R144, R293). -/
structure NsCreate where
  nsze : Nat
  flbas : Nat
  piType : Nat
  handles : List Nat
  deriving DecidableEq, Repr, Inhabited

/-- Protection information of one logical block as the host sends it (R139, R142). -/
structure ProtInfo where
  guardTag : Nat
  appTag : Nat
  refTag : Nat
  deriving DecidableEq, Repr, Inhabited

/-- A range of Dataset Management or Secure Discard: context attributes are ignored (R149). -/
structure LbaRange where
  slba : Nat
  nlb : Nat
  deriving DecidableEq, Repr, Inhabited

/-- An NVMe-MI request: the subsystem or controller health poll, an identity read, a tunnelled admin command, or any other
request, whose answer NVMe-MI gives (R453, R456, R468). -/
inductive MiRequest where
  | healthStatus
  | identity
  | tunnel (entry : BitVec 512)
  | other (code : Nat)
  deriving DecidableEq, Repr, Inhabited

/-- What a DRAM burst belongs to (the rows of 'Answer to an uncorrectable burst', R341). -/
inductive DramPlace where
  | segmentPool (seg block : Nat)
  | writeBuffer (granule : Nat)
  | plan (number : Nat)
  | setRec (setId : Nat)
  | vtGroup (group : Nat)
  | fixedOther
  deriving DecidableEq, Repr, Inhabited

/-- An error of the map cache's own codes met by a request (R366). -/
inductive CacheError where
  | none
  | oneSymbol (set : Nat)
  | twoSymbols (la : Nat)
  | tagOneCopy (set : Nat)
  | tagBothCopies (set : Nat)
  deriving DecidableEq, Repr, Inhabited

/-- Who holds a DMA channel's PAUSE bit (R373). -/
inductive DmaHolder where
  | owner
  | faultSequencer
  | freqChange
  deriving DecidableEq, Repr, Inhabited

/-- One conversion of every sensor, in units of 0.25 °C: the 16 controller sensors, the 32 channel sensors, the oscillator,
the reserve domain and the two rein sensors (R379); none: that sensor gave no reading. -/
structure SensorReadings where
  ctrl : List (Option Int)
  flash : List (Option Int)
  osc : Option Int
  resv : Option Int
  reinA : Option Int
  reinB : Option Int
  deriving DecidableEq, Repr, Inhabited

/-- How an array operation of the tree store ends (R405, R407, R410, R412). -/
inductive ArrayResult where
  | ok
  | failed
  | doubleProgram
  | readBackBad
  deriving DecidableEq, Repr, Inhabited

/-- What a scrub read finds (R417). -/
inductive ScrubFound where
  | clean
  | corrected (offset : Nat)
  | uncorrectable (offset : Nat)
  deriving DecidableEq, Repr, Inhabited

/-- The commands of the block, one constructor per row of the opcode table. -/
inductive Instr where
  /-- POWER_ON_RESET (R418). The later of the last supply arriving in range and PERST release starts the boot order; the reserve domain runs, reads the fuses and samples the straps. -/
  | powerOnReset (straps : Straps)
  /-- BOOT_STEP_DONE (R418). A boot step ends, and the next step of the boot order begins, or halter mode is entered on a failure at step 3 or 5. -/
  | bootStepDone (found : BootFound)
  /-- RESTART_STEP_DONE (R229). A restart step ends, and the next restart step begins, up to admission of commands at step 7. -/
  | restartStepDone (found : RestartFound)
  /-- SEGMENT_RESTORE_DONE (R234). A background or on-demand segment restore ends, RESTORED is set, and the waiting lookups and map changes resume. -/
  | segmentRestoreDone (seg : Nat) (lost : List Nat)
  /-- CHANNEL_STARTUP_STEP_TIMEOUT (R81). A channel start-up step exceeds its bound and fails for the targets that have not finished it. -/
  | channelStartupStepTimeout (ch step : Nat) (targets : List Nat) (trainedAtLower : Option Nat)
  /-- FLASH_RATE_TRAINING (R389). After start-up each awl trains its channel at each lower flash rate that the power-state table names. -/
  | flashRateTraining (ch rate : Nat) (passed : Bool)
  /-- TOOTH_BOUNDARY (R32). A tooth ends; WT and LT advance and the per-tooth work of every subsystem runs. -/
  | toothBoundary (senseCode : Nat) (test : TestFound)
  /-- LOCAL_ROUND_BOUNDARY (R33). LT returns to 0 and the per-round work runs: plan swap, band, heartbeat, refresh reads and other round rules. -/
  | localRoundBoundary (mr4 : List Mr4Reading) (vcorePass : Nat)
  /-- PLAN_SAMPLE (R22). At tooth 1,016 the selector samples PS, BAND and RB, looks up the plan and starts loading it when it differs. -/
  | planSample
  /-- PLAN_LOAD_DONE (R72). A plan load into the inactive buffer ends, with the SLOT_CRC checked; a failure counts toward the shadow reload. -/
  | planLoadDone (poisoned : Bool)
  /-- PLAN_SHADOW_RELOAD_DONE (R74). The reload of the DRAM plans from the tree-store shadow ends, and DEFER_RUN returns to 0. -/
  | planShadowReloadDone
  /-- PACE_EDGE (R35). A rising edge on PACE is filtered, classed as good, fast or stray, and drives the wheel's phase loop and state. -/
  | paceEdge (time highNs : Nat)
  /-- PTM_EXCHANGE_DONE (R33). A completed PTM exchange is taken as an edge of the PTM source. -/
  | ptmExchangeDone (rein : Rein) (completed : Bool) (time masterNs : Nat)
  /-- EDGE_WINDOW_CLOSE (R39). An acceptance window closes without a good edge, and the edge counts as missed. -/
  | edgeWindowClose
  /-- HOLDOVER_GUARD_EXCEEDED (R40). ERR_BOUND passes the guard and the wheel falls to FREE. -/
  | holdoverGuardExceeded
  /-- FREQ_CLAMP_PERSIST (R31). FREQ_CORR has stayed at its clamp for 64 local rounds, and code 0x020C is left. -/
  | freqClampPersist
  /-- CRYSTAL_STOP_DETECT (R449). No crystal edge for 2 µs makes the reserve domain report a fatal fault and enter fault stop. -/
  | crystalStopDetect
  /-- WT_RESERVE (R51). WT reaches the last RES_TOP, and a new WT reservation record is written. -/
  | wtReserve
  /-- HRQ_ENTRY (R62). A host read moves into its die's HRQ, possibly suspending a running operation at once. -/
  | hrqEntry (die : Nat)
  /-- SUSPEND_LATENCY_DONE (R67). tSUS after a suspend command elapses, and the waiting read may start. -/
  | suspendLatencyDone (die : Nat)
  /-- ARRAY_READ_DONE (R89). T_R after a read's start elapses, and its frames become ready for data-out. -/
  | arrayReadDone (die read : Nat)
  /-- FRAME_DATA_OUT_DONE (R69). A frame's data-out ends and the frame enters read staging for decoding. -/
  | frameDataOutDone (die read : Nat)
  /-- DATA_IN_PAGE_DONE (R65). One page of program data-in ends; the last page leads to the confirm. -/
  | dataInPageDone (die : Nat)
  /-- STATUS_POLL (R93). At each POLL_INTERVAL of running time the awl polls status and judges success or failure per plane. -/
  | statusPoll (die : Nat) (ready : Bool) (failPlanes : List Nat) (writeProtected : Bool)
  /-- OPERATION_TIMEOUT (R94). A program or erase's running time passes its limit; it fails and Reset LUN is sent. -/
  | operationTimeout (die : Nat)
  /-- RESET_LUN_DONE (R94). The LUN reads ready after Reset LUN, or T_RST_MAX passes and the die is isolated. -/
  | resetLunDone (die : Nat) (ready : Bool)
  /-- ZQ_CAL_SHORT (R83). Every 4,096 local rounds per target the awl sends ZQ calibration short. -/
  | zqCalShort (ch target : Nat) (passed : Bool)
  /-- FRAME_DECODE_DONE (R112). A decoder finishes a frame, and the ladder succeeds, moves to the next rung or passes the frame to the girth engine. -/
  | frameDecodeDone (job : Nat) (converged : Bool) (corrected : Nat)
  /-- RECAL_START (R122). A free recalibration place takes the head of the hint or age queue and starts trial reads. -/
  | recalStart
  /-- PATROL_VISIT (R123). The paced patrol cursor visits a group, sampling frames and applying the age checks. -/
  | patrolVisit
  /-- RECONSTRUCT_DONE (R198). A reconstruction engine finishes a frame, which is then checked, or is judged unrecoverable. -/
  | reconstructDone (job : Nat)
  /-- UNIT_ADMIT (R15). A write unit passes admission when the dirty window, bucket, chunk and counter allow, and enters the buffer and index. -/
  | unitAdmit (unit : Nat)
  /-- SKIVER_UNIT_DONE (R323). The inline compressor and check decoder finish a unit, which is kept coded or stored raw. -/
  | skiverUnitDone (unit engine : Nat) (checkOk : Bool)
  /-- CIPHER_REQUEST_DONE (R313). A core pair finishes a request with both outputs compared, or reruns it on a mismatch. -/
  | cipherRequestDone (request pair : Nat) (outputsMatch : Bool)
  /-- SLOT_REWRITE_INSTALL (R310). When no old-SGEN request holds the slot, the new keys are installed and waiting requests released. -/
  | slotRewriteInstall (slot : Nat)
  /-- GIRTH_CLOSE_START (R184). A girth stops filling when full, aged, awaited, ended or at dump, and its programs proceed. -/
  | girthCloseStart (stream : Nat)
  /-- GIRTH_CLOSE_AGE (R184). A girth's oldest unit has waited CLOSE_AGE teeth and the girth closes. -/
  | girthCloseAge (stream : Nat)
  /-- SET_OPEN (R181). A stream opens a block set, placing members across channels and taking blocks from free lists. -/
  | setOpen (stream : Nat)
  /-- HOST_GIRTH_OPEN_WAIT_END (R165). A die's free pool rises above HOST_FLOOR and a waiting host girth opens. -/
  | hostGirthOpenWaitEnd (stream : Nat)
  /-- LEDGER_PAGE_WRITE (R193). A ledger page is written when its oldest entry has waited LEDGER_AGE, frames 0 to 7 are full, or a waiter needs it. -/
  | ledgerPageWrite
  /-- REBUILD_TAKE (R202). The girth engine takes the next set from the rebuild or reshape list for evacuation. -/
  | rebuildTake
  /-- VICTIM_TAKE (R169). Reclaim takes the next victim in the victim order when fewer than ACTIVE_VICTIMS are evacuated. -/
  | victimTake
  /-- ERASE_GATE_OPEN (R171). A block's valid granules, awaited runs and reads reach 0, and the erase intent is written. -/
  | eraseGateOpen (block : Nat)
  /-- JOURNAL_STAGE_AGE (R154). A staging run's oldest record has waited STAGE_AGE teeth, and the run is written. -/
  | journalStageAge (seg : Nat)
  /-- ROOT_SNAPSHOT (R158). After 2^20 root records or 4,096 local rounds a new root snapshot with table copies is written. -/
  | rootSnapshot
  /-- BACKUP_FAIL_ENTER (R216). An energy shortfall lasting 100,000 teeth enters the backup-failed state. -/
  | backupFailEnter
  /-- BACKUP_FAIL_END (R216). E_AVAIL covers a 64 MiB window for 100,000 teeth and the backup-failed state ends. -/
  | backupFailEnd
  /-- PWRFAIL_N_FALL (R218). PWRFAIL_N goes low and its filter starts. -/
  | pwrfailNFall
  /-- PWRFAIL_FILTER_EXPIRE (R218). PWRFAIL_N has been low for PWRFAIL_FILTER and the dump starts. -/
  | pwrfailFilterExpire
  /-- PWRFAIL_N_RISE (R226). PWRFAIL_N goes high; a short pulse counts as a runt, and after the filter a hold on reset ends. -/
  | pwrfailNRise
  /-- DUMP_UNIT_PROGRAM_DONE (R222). A dump unit program ends or fails, becoming a lost member of its dump girth on failure. -/
  | dumpUnitProgramDone (girth member : Nat) (ok : Bool)
  /-- PERST_ASSERT (R251). PERST low for 100 ns takes the rein out of service and the reserve domain quiesces it. -/
  | perstAssert (rein : Rein)
  /-- PERST_RELEASE (R251). PERST goes high and the rein leaves reset and trains. -/
  | perstRelease (rein : Rein)
  /-- HOT_RESET (R251). A hot reset takes the rein out of service. -/
  | hotReset (rein : Rein)
  /-- LINK_DOWN (R251). The rein's link goes down and the rein leaves service. -/
  | linkDown (rein : Rein)
  /-- LINK_UP (R252). The rein's link trains up and a rein self-test runs. -/
  | linkUp (rein : Rein) (link : LinkFound)
  /-- LINK_RECOVERY (R253). A link recovery is counted and may change rein health. -/
  | linkRecovery (rein : Rein) (link : LinkFound)
  /-- FUNCTION_LEVEL_RESET (R251). A function level reset takes one function out of service. -/
  | functionLevelReset (port : Port)
  /-- CC_EN_SET (R236). CC.EN goes from 0 to 1 and the controller becomes ready, restarting from a shutdown dump when one stands. -/
  | ccEnSet (port : Port)
  /-- CC_EN_CLEAR (R251). CC.EN is cleared and that rein's sides leave service. -/
  | ccEnClear (port : Port)
  /-- CC_SHN_WRITE (R236). CC.SHN set to 01b or 10b starts a shutdown dump. -/
  | ccShnWrite (port : Port) (value : Nat)
  /-- SQ_TAIL_DOORBELL (R244). A submission tail doorbell write advances the side's virtual tail or is answered as invalid. -/
  | sqTailDoorbell (port : Port) (qid value : Nat)
  /-- CQ_HEAD_DOORBELL (R273). A completion head doorbell write frees slots and lets waiting reservations proceed. -/
  | cqHeadDoorbell (port : Port) (cqid value : Nat)
  /-- REGISTER_WRITE (R283). A write to a host register without a row of its own is applied or ignored and counted. -/
  | registerWrite (port : Port) (reg : HostReg) (value : Nat)
  /-- ENTRY_FETCH (R246). The front end fetches a submission entry when a tag is free; a twin copy executes, is a shadow or mismatches. -/
  | entryFetch (port : Port) (qid : Nat) (entry : BitVec 512)
  /-- TWIN_LAG_EXPIRE (R248). A twin side whose fetch point has not advanced for LAG_TEETH becomes DETACHED. -/
  | twinLagExpire (ctrl qid : Nat) (side : Rein)
  /-- KEEPER_FILTER_EXPIRE (R258). A keeper ball has held its level for KEEPER_FILTER, and the fence is set or lifted. -/
  | keeperFilterExpire (rein : Rein)
  /-- LEASE_START (R257). A granted lease's START_WT arrives and authority begins. -/
  | leaseStart (rein : Rein)
  /-- LEASE_END (R257). The tooth whose WT equals a lease end begins and the lease ends. -/
  | leaseEnd (rein : Rein)
  /-- REIN_SELF_TEST_PERIODIC (R252). Every 65,536 local rounds a rein self-test measures every lane's eye. -/
  | reinSelfTestPeriodic (rein : Rein) (eyes : EyeFound)
  /-- DELETE_IO_SQ (R245). Delete I/O Submission Queue removes a queue, or one side of a twin queue. -/
  | deleteIoSq (tag : Nat)
  /-- CREATE_IO_SQ (R245). Create I/O Submission Queue creates a queue or attaches a twin side at E. -/
  | createIoSq (tag : Nat)
  /-- DELETE_IO_CQ (R262). Delete I/O Completion Queue removes a completion queue with no bound submission queue. -/
  | deleteIoCq (tag : Nat)
  /-- CREATE_IO_CQ (R262). Create I/O Completion Queue creates a physically contiguous completion queue. -/
  | createIoCq (tag : Nat)
  /-- ABORT (R276). Abort marks a command, which stops unless its completion reservation came first. -/
  | abort (tag : Nat)
  /-- ASYNC_EVENT_REQUEST (R270). Asynchronous Event Request is held outstanding until an event is posted. -/
  | asyncEventRequest (tag : Nat)
  /-- IDENTIFY_NAMESPACE (R262). Identify CNS 0x00 returns the namespace data with NSX and DLFEAT. -/
  | identifyNamespace (tag : Nat)
  /-- IDENTIFY_CONTROLLER (R262). Identify CNS 0x01 returns the controller data with the device's values. -/
  | identifyController (tag : Nat)
  /-- IDENTIFY_ACTIVE_NS_LIST (R262). Identify CNS 0x02 returns the active namespace list. -/
  | identifyActiveNsList (tag : Nat)
  /-- IDENTIFY_NS_ID_DESCRIPTORS (R262). Identify CNS 0x03 returns the namespace identification descriptors. -/
  | identifyNsIdDescriptors (tag : Nat)
  /-- IDENTIFY_CSS_NAMESPACE (R262). Identify CNS 0x05 returns the I/O command set specific namespace data. -/
  | identifyCssNamespace (tag : Nat)
  /-- IDENTIFY_CSS_CONTROLLER (R262). Identify CNS 0x06 returns the I/O command set specific controller data. -/
  | identifyCssController (tag : Nat)
  /-- IDENTIFY_CSS_INDEPENDENT_NS (R262). Identify CNS 0x08 returns the command set independent namespace data. -/
  | identifyCssIndependentNs (tag : Nat)
  /-- IDENTIFY_ALLOCATED_NS_LIST (R262). Identify CNS 0x10 returns the allocated namespace list. -/
  | identifyAllocatedNsList (tag : Nat)
  /-- IDENTIFY_ALLOCATED_NAMESPACE (R262). Identify CNS 0x11 returns the data of an allocated namespace. -/
  | identifyAllocatedNamespace (tag : Nat)
  /-- IDENTIFY_ATTACHED_CTRL_LIST (R262). Identify CNS 0x12 returns the controllers attached to a namespace. -/
  | identifyAttachedCtrlList (tag : Nat)
  /-- IDENTIFY_CONTROLLER_LIST (R262). Identify CNS 0x13 returns the controller list. -/
  | identifyControllerList (tag : Nat)
  /-- IDENTIFY_PRIMARY_CTRL_CAPS (R262). Identify CNS 0x14 returns the primary controller capabilities. -/
  | identifyPrimaryCtrlCaps (tag : Nat)
  /-- IDENTIFY_SECONDARY_CTRL_LIST (R262). Identify CNS 0x15 returns the secondary controller list. -/
  | identifySecondaryCtrlList (tag : Nat)
  /-- IDENTIFY_IO_CMD_SET (R262). Identify CNS 0x1C returns the I/O command set data structure. -/
  | identifyIoCmdSet (tag : Nat)
  /-- GET_LOG_SUPPORTED_PAGES (R269). Get Log Page 0x00 returns the supported log pages. -/
  | getLogSupportedPages (tag : Nat)
  /-- GET_LOG_ERROR_INFO (R269). Get Log Page 0x01 returns the 64 Error Information entries. -/
  | getLogErrorInfo (tag : Nat)
  /-- GET_LOG_SMART (R175). Get Log Page 0x02 returns SMART / Health Information. -/
  | getLogSmart (tag : Nat)
  /-- GET_LOG_FW_SLOT (R269). Get Log Page 0x03 returns the firmware slot page with FR in slot 1. -/
  | getLogFwSlot (tag : Nat)
  /-- GET_LOG_CMD_EFFECTS (R269). Get Log Page 0x05 returns Commands Supported and Effects. -/
  | getLogCmdEffects (tag : Nat)
  /-- GET_LOG_SELF_TEST (R269). Get Log Page 0x06 returns the Device Self-test log. -/
  | getLogSelfTest (tag : Nat)
  /-- GET_LOG_ENDURANCE (R175). Get Log Page 0x09 returns Endurance Group Information. -/
  | getLogEndurance (tag : Nat)
  /-- GET_LOG_LBA_STATUS (R269). Get Log Page 0x0E returns the LBA Status Information of UNC units. -/
  | getLogLbaStatus (tag : Nat)
  /-- GET_LOG_FDP_CONFIGS (R144). Get Log Page 0x20 returns the FDP configuration. -/
  | getLogFdpConfigs (tag : Nat)
  /-- GET_LOG_RUH_USAGE (R144). Get Log Page 0x21 returns Reclaim Unit Handle Usage. -/
  | getLogRuhUsage (tag : Nat)
  /-- GET_LOG_FDP_STATS (R144). Get Log Page 0x22 returns FDP Statistics. -/
  | getLogFdpStats (tag : Nat)
  /-- GET_LOG_FDP_EVENTS (R144). Get Log Page 0x23 returns FDP Events. -/
  | getLogFdpEvents (tag : Nat)
  /-- GET_LOG_SANITIZE_STATUS (R269). Get Log Page 0x81 returns Sanitize Status. -/
  | getLogSanitizeStatus (tag : Nat)
  /-- GET_LOG_WHEEL_PLAN (R74). Get Log Page 0xC0 returns WHEEL_STATUS and PLAN_STATUS. -/
  | getLogWheelPlan (tag : Nat)
  /-- GET_LOG_GIRTH_HEALTH (R206). Get Log Page 0xC1 returns GIRTH_HEALTH and the DIE_STATUS records. -/
  | getLogGirthHealth (tag : Nat)
  /-- GET_LOG_EVENT_COUNTERS (R396). Get Log Page 0xC2 captures the counters, DRAM and DMA status. -/
  | getLogEventCounters (tag : Nat)
  /-- GET_LOG_EVENT_COUNTERS_CLEAR (R396). Get Log Page 0xC2 with LSP bit 0 captures and then clears every enabled counter. -/
  | getLogEventCountersClear (tag : Nat)
  /-- GET_LOG_SADDLEBAG_RING (R401). Get Log Page 0xC3 with LSP 0 returns the ring as captured, holding new records meanwhile. -/
  | getLogSaddlebagRing (tag : Nat)
  /-- GET_LOG_SADDLEBAG_RELEASE (R403). Get Log Page 0xC3 with LSP 1 returns the ring and releases up to the captured write position. -/
  | getLogSaddlebagRelease (tag : Nat)
  /-- GET_LOG_SADDLEBAG_PERSISTED (R401). Get Log Page 0xC3 with LSP 2 returns the tree-store persisted records. -/
  | getLogSaddlebagPersisted (tag : Nat)
  /-- SADDLEBAG_TRANSFER_END (R402). A 0xC3 transfer ends; held records move into the ring and a release takes effect. -/
  | saddlebagTransferEnd (tag : Nat)
  /-- GET_LOG_IDENTITY (R467). Get Log Page 0xC4 returns the fuse and factory identity records. -/
  | getLogIdentity (tag : Nat)
  /-- GET_LOG_SECURE_DISCARD (R152). Get Log Page 0xC5 returns the 16 secure-discard job records. -/
  | getLogSecureDiscard (tag : Nat)
  /-- GET_LOG_REIN_HEALTH (R254). Get Log Page 0xC6 returns the REIN_HEALTH records of both reins. -/
  | getLogReinHealth (tag : Nat)
  /-- SET_FEATURES_ARBITRATION (R267). Set Features 0x01 sets the arbitration burst and stores the weights. -/
  | setFeaturesArbitration (tag : Nat)
  /-- GET_FEATURES_ARBITRATION (R267). Get Features 0x01 returns the arbitration settings. -/
  | getFeaturesArbitration (tag : Nat)
  /-- SET_FEATURES_PS_OPERATIONAL (R278). Set Features 0x02 selecting PS 0 to 3 puts the state in force at once. -/
  | setFeaturesPsOperational (tag : Nat)
  /-- SET_FEATURES_PS4 (R279). Set Features 0x02 selecting PS 4 begins entry to the non-operational state. -/
  | setFeaturesPs4 (tag : Nat)
  /-- PS4_ENTRY_END (R279). PS 4 entry ends at the later of the plan swap and the commanding of L1. -/
  | ps4EntryEnd
  /-- PS4_EXIT_DONE (R279). EXLAT after entry ends elapses; held completions post and the last operational state returns. -/
  | ps4ExitDone
  /-- GET_FEATURES_POWER_MGMT (R267). Get Features 0x02 returns the host-selected power state. -/
  | getFeaturesPowerMgmt (tag : Nat)
  /-- SET_FEATURES_TEMP_THRESHOLD (R385). Set Features 0x04 sets an over or under threshold of a sensor. -/
  | setFeaturesTempThreshold (tag : Nat)
  /-- GET_FEATURES_TEMP_THRESHOLD (R385). Get Features 0x04 returns a sensor threshold. -/
  | getFeaturesTempThreshold (tag : Nat)
  /-- SET_FEATURES_NUM_QUEUES (R241). Set Features 0x07 grants queues from the shared pool. -/
  | setFeaturesNumQueues (tag : Nat)
  /-- GET_FEATURES_NUM_QUEUES (R241). Get Features 0x07 returns the queue grant. -/
  | getFeaturesNumQueues (tag : Nat)
  /-- SET_FEATURES_INT_COALESCING (R267). Set Features 0x08 sets interrupt coalescing. -/
  | setFeaturesIntCoalescing (tag : Nat)
  /-- GET_FEATURES_INT_COALESCING (R267). Get Features 0x08 returns interrupt coalescing. -/
  | getFeaturesIntCoalescing (tag : Nat)
  /-- SET_FEATURES_INT_VECTOR_CFG (R267). Set Features 0x09 sets interrupt vector configuration. -/
  | setFeaturesIntVectorCfg (tag : Nat)
  /-- GET_FEATURES_INT_VECTOR_CFG (R267). Get Features 0x09 returns interrupt vector configuration. -/
  | getFeaturesIntVectorCfg (tag : Nat)
  /-- SET_FEATURES_ASYNC_EVENT_CFG (R267). Set Features 0x0B sets asynchronous event configuration. -/
  | setFeaturesAsyncEventCfg (tag : Nat)
  /-- GET_FEATURES_ASYNC_EVENT_CFG (R267). Get Features 0x0B returns asynchronous event configuration. -/
  | getFeaturesAsyncEventCfg (tag : Nat)
  /-- SET_FEATURES_FDP (R144). Set Features 0x1D enables or disables FDP with configuration 0. -/
  | setFeaturesFdp (tag : Nat)
  /-- GET_FEATURES_FDP (R144). Get Features 0x1D returns the FDP setting. -/
  | getFeaturesFdp (tag : Nat)
  /-- SET_FEATURES_FDP_EVENTS (R267). Set Features 0x1E enables FDP events. -/
  | setFeaturesFdpEvents (tag : Nat) (types : List Byte)
  /-- GET_FEATURES_FDP_EVENTS (R267). Get Features 0x1E returns the FDP events setting. -/
  | getFeaturesFdpEvents (tag : Nat)
  /-- SET_FEATURES_WHEEL_CFG (R37). Set Features 0xC0 changes the wheel configuration or arms REF_SECOND, after range and plan checks. -/
  | setFeaturesWheelCfg (tag : Nat) (buf : BitVec 256)
  /-- GET_FEATURES_WHEEL_CFG (R37). Get Features 0xC0 returns WHEEL_CFG. -/
  | getFeaturesWheelCfg (tag : Nat)
  /-- SET_FEATURES_TWIN_REIN (R242). Set Features 0xC1 changes TWIN_CFG, refused while the lease is enforced. -/
  | setFeaturesTwinRein (tag : Nat) (buf : BitVec 256)
  /-- GET_FEATURES_TWIN_REIN (R242). Get Features 0xC1 returns TWIN_CFG. -/
  | getFeaturesTwinRein (tag : Nat)
  /-- SET_FEATURES_THROTTLE_GRACE (R384). Set Features 0xC2 sets the throttle grace times. -/
  | setFeaturesThrottleGrace (tag : Nat) (buf : BitVec 256)
  /-- GET_FEATURES_THROTTLE_GRACE (R384). Get Features 0xC2 returns THROTTLE_CFG. -/
  | getFeaturesThrottleGrace (tag : Nat)
  /-- SET_FEATURES_COUNTER_SELECT (R394). Set Features 0xC3 selects a counter's source and instance, or clears it. -/
  | setFeaturesCounterSelect (tag : Nat) (buf : BitVec 256)
  /-- GET_FEATURES_COUNTER_SELECT (R393). Get Features 0xC3 returns COUNTER_SEL of one counter. -/
  | getFeaturesCounterSelect (tag : Nat)
  /-- SET_FEATURES_DIRTY_WINDOW (R212). Set Features 0xC4 sets the configured dirty window. -/
  | setFeaturesDirtyWindow (tag : Nat) (buf : BitVec 256)
  /-- GET_FEATURES_DIRTY_WINDOW (R212). Get Features 0xC4 returns DIRTY_WIN. -/
  | getFeaturesDirtyWindow (tag : Nat)
  /-- SET_FEATURES_SKIVER (R327). Set Features 0xC5 sets SKIVER_CFG. -/
  | setFeaturesSkiver (tag : Nat) (buf : BitVec 256)
  /-- GET_FEATURES_SKIVER (R327). Get Features 0xC5 returns SKIVER_CFG. -/
  | getFeaturesSkiver (tag : Nat)
  /-- CIPHER_BIND_SET (R293). Cipher policy OP 0 Set binds a namespace to a DATA slot. -/
  | cipherBindSet (tag : Nat) (buf : BitVec 256)
  /-- CIPHER_BIND_GET (R292). Cipher policy OP 0 Get returns the namespace's CIPHER_NS binding. -/
  | cipherBindGet (tag : Nat)
  /-- CIPHER_BLOB_PART (R296). Cipher policy OP 1 stores one part of a blob; part 3 checks and installs it. -/
  | cipherBlobPart (tag : Nat) (buf : BitVec 256)
  /-- CIPHER_ERASE (R311). Cipher policy OP 2 revokes a slot, zeroizes its keys and erases its key-store records. -/
  | cipherErase (tag : Nat)
  /-- CIPHER_LABEL (R310). Cipher policy OP 3 sets a derived slot's label and derives its keys. -/
  | cipherLabel (tag : Nat) (buf : BitVec 256)
  /-- CIPHER_STATUS (R294). Cipher policy OP 4 returns CIPHER_SLOT for a slot. -/
  | cipherStatus (tag : Nat)
  /-- NAMESPACE_CREATE (R293). Namespace Management create assigns an NSX and binds a derived key slot. -/
  | namespaceCreate (tag : Nat) (spec : NsCreate)
  /-- NAMESPACE_DELETE (R132). Namespace Management delete returns every segment of the namespace. -/
  | namespaceDelete (tag : Nat)
  /-- NAMESPACE_ATTACH (R262). Namespace Attachment attaches a namespace to controllers. -/
  | namespaceAttach (tag : Nat) (ctrls : List Nat)
  /-- NAMESPACE_DETACH (R262). Namespace Attachment detaches a namespace from controllers. -/
  | namespaceDetach (tag : Nat) (ctrls : List Nat)
  /-- SELF_TEST_SHORT (R280). Device Self-test STC 0x1 starts a short test. -/
  | selfTestShort (tag : Nat)
  /-- SELF_TEST_EXTENDED (R280). Device Self-test STC 0x2 starts an extended test. -/
  | selfTestExtended (tag : Nat)
  /-- SELF_TEST_ABORT (R282). Device Self-test STC 0xF ends the running test with result 1. -/
  | selfTestAbort (tag : Nat)
  /-- NVME_MI_SEND (R262). NVMe-MI Send carries a sideband NVMe-MI command in-band. -/
  | nvmeMiSend (tag : Nat) (request : MiRequest)
  /-- NVME_MI_RECEIVE (R262). NVMe-MI Receive carries a sideband NVMe-MI response in-band. -/
  | nvmeMiReceive (tag : Nat)
  /-- FORMAT_NVM_ERASE (R262). Format NVM with SES 0 or 1 erases every block of the namespace's data. -/
  | formatNvmErase (tag : Nat)
  /-- FORMAT_NVM_CRYPTO (R312). Format NVM with SES 2 crypto-erases the namespace's derived key context. -/
  | formatNvmCrypto (tag : Nat)
  /-- SANITIZE_BLOCK_ERASE (R262). Sanitize Block Erase erases every block and ends open secure-discard jobs. -/
  | sanitizeBlockErase (tag : Nat)
  /-- SANITIZE_CRYPTO_ERASE (R312). Sanitize Crypto Erase erases every DATA slot and returns to the fuse root. -/
  | sanitizeCryptoErase (tag : Nat)
  /-- SANITIZE_EXIT_FAILURE (R262). Sanitize Exit Failure Mode leaves the sanitize failure state. -/
  | sanitizeExitFailure (tag : Nat)
  /-- SANITIZE_OVERWRITE (R262). Sanitize Overwrite completes with Invalid Field in Command. -/
  | sanitizeOverwrite (tag : Nat)
  /-- GET_LBA_STATUS (R262). Get LBA Status reports units with MAP_ENTRY.UNC set. -/
  | getLbaStatus (tag : Nat)
  /-- UNSUPPORTED_ADMIN_COMMAND (R262). An admin opcode not supported completes with Invalid Command Opcode. -/
  | unsupportedAdminCommand (tag : Nat)
  /-- TACK_LEASE (R256). Tack Lease checks a lease packet and grants, releases or disables leases. -/
  | tackLease (tag : Nat) (packet : BitVec 512)
  /-- WHEEL_STATUS (R54). Wheel Status returns the WHEEL_STATUS structure. -/
  | wheelStatus (tag : Nat)
  /-- TS_STATUS (R422). Tree Store Access OP 0 returns TS_STATUS. -/
  | tsStatus (tag : Nat)
  /-- TS_READ_IMAGE (R421). Tree Store Access OP 1 returns bytes of the running image from the shadow. -/
  | tsReadImage (tag : Nat)
  /-- TS_UPD_BEGIN (R423). Tree Store Access OP 2 opens an update staging area. -/
  | tsUpdBegin (tag : Nat)
  /-- TS_UPD_DATA (R423). Tree Store Access OP 3 copies data into staging. -/
  | tsUpdData (tag : Nat) (data : List Byte)
  /-- TS_UPD_COMMIT (R423). Tree Store Access OP 4 validates the staged image and starts writing it. -/
  | tsUpdCommit (tag : Nat)
  /-- TS_UPD_CANCEL (R421). Tree Store Access OP 5 discards staging. -/
  | tsUpdCancel (tag : Nat)
  /-- TS_SET_KEY (R421). Tree Store Access OP 6 programs a new key hash into the lowest blank slot. -/
  | tsSetKey (tag : Nat) (data : List Byte)
  /-- TS_LOCK (R421). Tree Store Access OP 7 writes a LOCK record with OWNER_LOCK 1. -/
  | tsLock (tag : Nat)
  /-- TS_UNLOCK (R421). Tree Store Access OP 8 writes a LOCK record with OWNER_LOCK 0 in STRAP halter mode. -/
  | tsUnlock (tag : Nat)
  /-- TS_ERASE_IMAGE (R421). Tree Store Access OP 9 erases the image slot. -/
  | tsEraseImage (tag : Nat)
  /-- TS_SET_ID (R421). Tree Store Access OP 10 programs blank SN and MN fields. -/
  | tsSetId (tag : Nat) (data : List Byte)
  /-- TS_REFRESH (R421). Tree Store Access OP 11 rewrites the image slot from the shadow. -/
  | tsRefresh (tag : Nat)
  /-- FLUSH (R14). Flush completes without waiting for any program. -/
  | flush (tag : Nat)
  /-- WRITE (R14). Write splits into units, admits them, and completes once every unit has passed step 4. -/
  | write (tag : Nat) (data : List Byte) (pi : List ProtInfo)
  /-- READ (R16). Read looks each unit up and returns it from the write buffer or flash. -/
  | read (tag : Nat)
  /-- COMPARE (R264). Compare reads whole units and compares them with the host data. -/
  | compare (tag : Nat) (data : List Byte)
  /-- WRITE_ZEROES (R147). Write Zeroes unmaps units or writes zero-filled units with tags. -/
  | writeZeroes (tag : Nat)
  /-- DSM_DEALLOCATE (R147). Dataset Management with Deallocate discards the covered units. -/
  | dsmDeallocate (tag : Nat) (ranges : List LbaRange)
  /-- DSM_NO_DEALLOCATE (R264). Dataset Management without Deallocate completes with no effect. -/
  | dsmNoDeallocate (tag : Nat)
  /-- VERIFY (R264). Verify reads units through the ladder and keyed check without transfer. -/
  | verify (tag : Nat)
  /-- IO_MGMT_RECEIVE (R264). I/O Management Receive returns Reclaim Unit Handle Status. -/
  | ioMgmtReceive (tag : Nat)
  /-- RUH_UPDATE (R266). I/O Management Send Reclaim Unit Handle Update ends the handle's open girth. -/
  | ruhUpdate (tag : Nat) (handles : List Nat)
  /-- SKIVE_STREAM (R331). Skive Stream compresses input window by window into a chain or a namespace. -/
  | skiveStream (tag : Nat) (input : List Byte) (chain : List (BitVec 128))
  /-- UNSKIVE_STREAM (R333). Unskive Stream decompresses a skived stream into a chain or a namespace. -/
  | unskiveStream (tag : Nat) (input : List Byte) (chain : List (BitVec 128))
  /-- KEYED_CHECK_COMPUTE (R314). Keyed Check computes the CMAC of the data under a CHECK slot. -/
  | keyedCheckCompute (tag : Nat) (data : List Byte)
  /-- KEYED_CHECK_VERIFY (R314). Keyed Check in verify mode compares the CMAC with the expected tag. -/
  | keyedCheckVerify (tag : Nat) (data : List Byte)
  /-- SECURE_DISCARD (R149). Secure Discard discards units, sets SDP and opens a job. -/
  | secureDiscard (tag : Nat) (ranges : List LbaRange)
  /-- UNSUPPORTED_IO_COMMAND (R264). An I/O opcode not supported completes with Invalid Command Opcode. -/
  | unsupportedIoCommand (tag : Nat)
  /-- DRAM_BURST_DECODE (R341). A DRAM burst is decoded, corrected or returned poisoned with the region's answer. -/
  | dramBurstDecode (addr : Nat) (badSymbols : List Nat) (place : DramPlace)
  /-- LANE_COUNTER_WINDOW (R343). Every RETIRE_ROUNDS local rounds the lane counters clear. -/
  | laneCounterWindow
  /-- DRAM_SCRUB_READ (R345). The scrubber reads the next burst and writes back a corrected one. -/
  | dramScrubRead (badSymbols : List Nat)
  /-- DRAM_REFRESH_DUE (R348). A bank's refresh interval expires; the refresh issues or is postponed up to 4 intervals. -/
  | dramRefreshDue (ch rank bank : Nat)
  /-- NEIGHBOUR_REFRESH (R350). A scheduled neighbour refresh issues to a bank. -/
  | neighbourRefresh (ch rank bank : Nat)
  /-- RANK_POWER_DOWN (R351). A rank idle for PD_IDLE enters power-down, or self-refresh after 100 µs in PS 4. -/
  | rankPowerDown (ch rank : Nat) (idleNs : Nat)
  /-- MC_FILL_DONE (R359). A map cache miss fill completes, is checked and installed, and waiting requests proceed. -/
  | mcFillDone (bank : Nat) (crcOk : Bool) (err : CacheError)
  /-- MC_WRITEBACK_DONE (R360). A dirty line's DRAM write completes and frees its write-back buffer entry. -/
  | mcWritebackDone (bank : Nat)
  /-- MC_DISABLE_REQUEST (R365). A request to disable a cache bank starts its drain. -/
  | mcDisableRequest (banks : List Nat)
  /-- MC_ENABLE_REQUEST (R365). A request to enable a bank ends a drain or enables a disabled bank. -/
  | mcEnableRequest (banks : List Nat)
  /-- DMA_DESC_APPEND (R369). An owner appends a descriptor to its channel's ring. -/
  | dmaDescAppend (ch : Nat) (desc : BitVec 256)
  /-- DMA_BURST_DONE (R371). A DMA burst completes and the arbiter grants the next burst. -/
  | dmaBurstDone (poisoned : Bool)
  /-- DMA_FIFO_DRAINED (R372). A paced destination drains to LOW and its held channel becomes ready. -/
  | dmaFifoDrained (fifo fill : Nat)
  /-- DMA_PAUSE (R373). A holder sets a channel's PAUSE bit and no further burst is granted. -/
  | dmaPause (ch : Nat) (holder : DmaHolder)
  /-- DMA_RELEASE (R373). A pause is released and the channel continues from DONE. -/
  | dmaRelease (ch : Nat) (holder : DmaHolder)
  /-- DMA_ABORT (R374). An owner aborts its channel, dropping its ring. -/
  | dmaAbort (ch : Nat)
  /-- SENSOR_CONVERSION (R379). Every 100 µs every sensor converts and the thermal level may rise or a trip be detected. -/
  | sensorConversion (readings : SensorReadings)
  /-- SENSOR_NO_CONVERSION (R380). A die sensor gives no conversion for 1 ms and is broken. -/
  | sensorNoConversion (sensor : Nat)
  /-- SENSOR_WORKS_AGAIN (R380). A broken sensor has worked again for 1 s. -/
  | sensorWorksAgain (sensor : Nat)
  /-- THERMAL_LEVEL_FALL (R381). Every domain has stayed below the level's threshold less HYST for 1 s and the level falls. -/
  | thermalLevelFall
  /-- GRACE_EXPIRE (R383). A grace timer expires while the level stands and the thermal floor rises. -/
  | graceExpire (second : Bool)
  /-- TRIP_RESUME (R386). Sensor 1 has stayed below RESUME for 10 s and a power-on reset follows. -/
  | tripResume
  /-- RESERVE_COMP_UPDATE (R390). Every 1 ms the reserve oscillator and converter reference corrections are recomputed. -/
  | reserveCompUpdate
  /-- TS_OP_DONE (R408). A tree-store array operation completes and the sequencer starts the next by precedence. -/
  | tsOpDone (result : ArrayResult)
  /-- TS_SCRUB_READ (R417). The scrub reads the next programmed word and handles corrected or uncorrectable words. -/
  | tsScrubRead (found : ScrubFound)
  /-- FAULT_REPORT (R444). A report of severity 2 to 4 reaches the sequencer's queue or overflows. -/
  | faultReport (code sev : Nat)
  /-- FAULT_STEP_DONE (R445). A handling step ends, and the sequencer runs the next step or takes the next report. -/
  | faultStepDone
  /-- FATAL_COMPLETIONS_WRITTEN (R450). Every fatal-handling completion is written or dropped, or 2 ms pass, and fault stop is entered. -/
  | fatalCompletionsWritten
  /-- MAIN_DOMAIN_STALL (R452). No tooth boundary within twice the nominal tooth enters fault stop with code 0x0103. -/
  | mainDomainStall
  /-- VDD_IO_FALL (R463). VDD_IO below 1.50 V enters power-on reset and stops the reserve domain. -/
  | vddIoFall
  /-- JTAG_TAP_RESET (R464). TRST_N low or five TMS-high cycles reset the JTAG port to IDCODE. -/
  | jtagTapReset
  /-- JTAG_BYPASS (R464). The BYPASS instruction is loaded. -/
  | jtagBypass
  /-- JTAG_IDCODE (R464). The IDCODE instruction returns 0x2960_41B3. -/
  | jtagIdcode
  /-- JTAG_SAMPLE_PRELOAD (R464). The SAMPLE/PRELOAD instruction samples the boundary cells. -/
  | jtagSamplePreload (cells : List Bool)
  /-- JTAG_EXTEST (R465). Loading EXTEST dumps, zeroizes keys, holds the main domain in reset and takes the balls. -/
  | jtagExtest
  /-- JTAG_CLAMP (R465). Loading CLAMP dumps, zeroizes keys, holds the main domain in reset and clamps the balls. -/
  | jtagClamp
  /-- JTAG_HIGHZ (R465). Loading HIGHZ dumps, zeroizes keys, holds the main domain in reset and floats the balls. -/
  | jtagHighz
  /-- SIDEBAND_MI_COMMAND (R456). An NVMe-MI command arrives over SMBus or I3C and is answered by the reserve domain. -/
  | sidebandMiCommand (request : MiRequest)
  /-- I3C_BROADCAST (R456). The first I3C broadcast after reset switches the sideband to I3C. -/
  | i3cBroadcast
  /-- KEEPER_BALL_CHANGE (R258). A KEEPER ball changes level and its filter starts timing toward a fence or a lift. -/
  | keeperBallChange (rein : Rein) (level : Bool)
  /-- PWRFAIL_N_HIGH_FILTER_EXPIRE (R226). PWRFAIL_N has been high for PWRFAIL_FILTER and the hold of the main domain in reset is released. -/
  | pwrfailNHighFilterExpire
  /-- I3C_RESET_ACTION (R456). An I3C reset action returns the sideband from I3C to SMBus operation. -/
  | i3cResetAction
  /-- DUMP_ROW_STEP (R219). During a dump the reserve domain advances to the next dump-plan row after one nominal tooth of its own timing. -/
  | dumpRowStep
  /-- HOST_MEMORY_ERROR (R283). A host memory read for data returns UR, CA or poisoned data, and the command completes with Data Transfer Error. -/
  | hostMemoryError (tag addr : Nat)
  /-- MALFORMED_TLP (R283). A malformed TLP or an ECRC error arrives and is handled under AER and counted. -/
  | malformedTlp (rein : Rein)
  /-- IDENTIFY_UNSUPPORTED_CNS (R262). Identify with a CNS value not listed completes with Invalid Field in Command. -/
  | identifyUnsupportedCns (tag : Nat)
  /-- GET_LOG_UNSUPPORTED_PAGE (R269). Get Log Page with an identifier not served completes with Invalid Log Page. -/
  | getLogUnsupportedPage (tag : Nat)
  /-- FEATURES_UNSUPPORTED_ID (R267). Set or Get Features with an unsupported standard identifier completes with Invalid Field in Command. -/
  | featuresUnsupportedId (tag : Nat)
  /-- TS_ACCESS_UNLISTED_OP (R421). Tree Store Access with an OP that is not listed completes with Invalid Field in Command. -/
  | tsAccessUnlistedOp (tag : Nat)
  deriving DecidableEq, Repr

end Sys2Proof
end

