-- ==== Sys2Proof/Machine/Bits.lean ====
section
/-! DEFINITION. Bit fields, byte order, saturating counters and finite tables: the helpers every chapter's layout and
state use. A structure of the manual is a number whose bit 0 is bit 0 of its first byte (R5). -/
namespace Sys2Proof.Machine

/-- Field of `w` bits whose lowest bit is bit `lo` of `x`. -/
def bitField (x lo w : Nat) : Nat := x / 2 ^ lo % 2 ^ w

/-- One field of a field map to be packed: lowest bit, width, value. -/
structure Field where
  lo : Nat
  width : Nat
  value : Nat
  deriving DecidableEq, Repr

/-- The number of a structure from its fields; a value is cut to its field's width, and every bit no field covers is 0 (R8). -/
def packFields : List Field → Nat
  | [] => 0
  | f :: fs => f.value % 2 ^ f.width * 2 ^ f.lo + packFields fs

/-- A short spelling of a field for field maps. -/
def fld (lo width value : Nat) : Field := ⟨lo, width, value⟩

/-- A Boolean as the bit it is reported by. -/
def bit (b : Bool) : Nat := if b then 1 else 0

/-- A signed value in two's complement over `w` bits. -/
def toSigned (w : Nat) (i : Int) : Nat := (i % (2 ^ w : Int)).toNat

/-- The signed reading of a `w`-bit field. -/
def ofSigned (w x : Nat) : Int := if x < 2 ^ (w - 1) then (x : Int) else (x : Int) - 2 ^ w

/-- The first `len` bytes of a structure's number, lowest byte first (R5). -/
def toBytes : (len x : Nat) → List Byte
  | 0, _ => []
  | n + 1, x => BitVec.ofNat 8 x :: toBytes n (x / 256)

/-- The number of a little-endian byte string (R5). -/
def ofBytes : List Byte → Nat
  | [] => 0
  | b :: bs => b.toNat + 256 * ofBytes bs

/-- The number of a big-endian byte string (the exceptions of R5: digests, signatures, keys). -/
def ofBytesBE (bs : List Byte) : Nat := ofBytes bs.reverse

/-- `len` bytes, highest first. -/
def toBytesBE (len x : Nat) : List Byte := (toBytes len x).reverse

/-- A counter of `w` bits that saturates. -/
def satAdd (w x n : Nat) : Nat := min (x + n) (2 ^ w - 1)

/-- Little-endian `n` bytes of a part of a byte string. -/
def sliceBytes (bs : List Byte) (off len : Nat) : List Byte := (bs.drop off).take len

/-- Ceiling division. -/
def ceilDiv (a b : Nat) : Nat := (a + b - 1) / b

/-- The least `b` with 2^b at least `n`; GEOM's PAGE_BITS and BLOCK_BITS (R84). -/
def ceilLog2 (n : Nat) : Nat := if n ≤ 1 then 0 else Nat.log2 (n - 1) + 1

/-! ### Finite tables -/

/-- A finite table: keys strictly rising. A key that is not listed has no entry. -/
abbrev Table (α : Type) := List (Nat × α)

/-- The entry of a key. -/
def Table.find {α : Type} : Table α → Nat → Option α
  | [], _ => none
  | (k', v) :: t, k => if k = k' then some v else Table.find t k

/-- The entry of a key, or a default. -/
def Table.getD {α : Type} (t : Table α) (k : Nat) (d : α) : α := (Table.find t k).getD d

/-- Set the entry of a key. -/
def Table.set {α : Type} : Table α → Nat → α → Table α
  | [], k, v => [(k, v)]
  | (k', v') :: t, k, v =>
    if k < k' then (k, v) :: (k', v') :: t
    else if k = k' then (k, v) :: t
    else (k', v') :: Table.set t k v

/-- Remove the entry of a key. -/
def Table.del {α : Type} : Table α → Nat → Table α
  | [], _ => []
  | (k', v') :: t, k => if k = k' then Table.del t k else (k', v') :: Table.del t k

/-- Change the entry of a key that has one. -/
def Table.modify {α : Type} (t : Table α) (k : Nat) (f : α → α) : Table α :=
  match Table.find t k with
  | some v => Table.set t k (f v)
  | none => t

/-- Set the entry of a key, or remove it when the value is what an unlisted key reads as. -/
def Table.put {α : Type} [DecidableEq α] (dflt : α) (t : Table α) (k : Nat) (v : α) : Table α :=
  if v = dflt then Table.del t k else Table.set t k v

/-- Keys strictly rise: the one canonical form of a table. -/
def Table.wf {α : Type} : Table α → Bool
  | [] => true
  | [_] => true
  | (k, _) :: (k', v') :: t => decide (k < k') && Table.wf ((k', v') :: t)

/-- Change entry `i` of a list. -/
def updAt {α : Type} : List α → Nat → (α → α) → List α
  | [], _, _ => []
  | x :: xs, 0, f => f x :: xs
  | x :: xs, n + 1, f => x :: updAt xs n f

/-- Entry `i` of a list of numbers, 0 past its end. -/
def natAt (xs : List Nat) (i : Nat) : Nat := xs.getD i 0

/-- Entry `i` of a list of integers, 0 past its end. -/
def intAt (xs : List Int) (i : Nat) : Int := xs.getD i 0

/-! ### Codes over bytes -/

/-- One step of CRC-32C over a bit-reflected register, eight times per byte. -/
def crcStep : (n : Nat) → BitVec 32 → BitVec 32
  | 0, c => c
  | n + 1, c => crcStep n (if c.getLsbD 0 then (c >>> 1) ^^^ 0x82F63B78#32 else c >>> 1)

/-- The CRC-32C register after a byte string. -/
def crcRun : BitVec 32 → List Byte → BitVec 32
  | c, [] => c
  | c, b :: bs => crcRun (crcStep 8 (c ^^^ b.setWidth 32)) bs

/-- CRC-32C of a byte string (R57, R129, R135, R156, R188, R246, R427) (PRESUMED, log 6). -/
def crc32c (bs : List Byte) : Nat := (~~~ (crcRun 0xFFFFFFFF#32 bs)).toNat

/-- A byte string padded with zeros to `n` bytes. -/
def padTo (n : Nat) (bs : List Byte) : List Byte := bs ++ List.replicate (n - bs.length) 0#8

/-- Multiplication by x in GF(2^8) with the polynomial 0x11D (R187, R340, R407). -/
def gfDouble (a : Byte) : Byte := if a.getLsbD 7 then (a <<< 1) ^^^ 0x1D#8 else a <<< 1

/-- Multiplication in GF(2^8), 0x11D, over the low `n` bits of `b`. -/
def gfMulAux : (n : Nat) → Byte → Byte → Byte
  | 0, _, _ => 0#8
  | n + 1, a, b => (if b.getLsbD 0 then a else 0#8) ^^^ gfMulAux n (gfDouble a) (b >>> 1)

/-- Multiplication in GF(2^8) with the polynomial x^8 + x^4 + x^3 + x^2 + 1 (R187). -/
def gfMul (a b : Byte) : Byte := gfMulAux 8 a b

/-- g^n with g = 0x02 (R187). -/
def gfPow : Nat → Byte
  | 0 => 1#8
  | n + 1 => gfDouble (gfPow n)

/-- `a` raised to the power `n` in GF(2^8). -/
def gfExp (a : Byte) : Nat → Byte
  | 0 => 1#8
  | n + 1 => gfMul a (gfExp a n)

/-- The inverse in GF(2^8): a^254. -/
def gfInv (a : Byte) : Byte := gfExp a 254

end Sys2Proof.Machine
end

