-- ==== Sys2Proof/Machine/Aes.lean ====
section
/-! DEFINITION. The cipher engine's algorithms (12_cipher R289, R295, R298, R300): AES-256, AES-CMAC, XTS-AES-256, the SP 800-108
counter-mode KDF's PRF and the AES-KW unwrap, from their standards, which the spec names and does not repeat (log 6). -/
namespace Sys2Proof.Machine

/-! ### The field of AES -/

def aesDouble (a : Byte) : Byte := if a.getLsbD 7 then (a <<< 1) ^^^ 0x1B#8 else a <<< 1
def aesMulAux : (n : Nat) → Byte → Byte → Byte
  | 0, _, _ => 0#8
  | n + 1, a, b => (if b.getLsbD 0 then a else 0#8) ^^^ aesMulAux n (aesDouble a) (b >>> 1)
def aesMul (a b : Byte) : Byte := aesMulAux 8 a b
def aesSquare (a : Byte) : Byte := aesMul a a
/-- a^254, the inverse of a non-zero byte. -/
def aesInv (a : Byte) : Byte :=
  let a2 := aesSquare a
  let a3 := aesMul a2 a
  let a12 := aesSquare (aesSquare a3)
  let a15 := aesMul a12 a3
  let a240 := aesSquare (aesSquare (aesSquare (aesSquare a15)))
  aesMul (aesMul a240 a12) a2

/-- The byte substitution: inverse, then the affine map. -/
def subByte (a : Byte) : Byte :=
  let b := aesInv a
  b ^^^ b.rotateLeft 1 ^^^ b.rotateLeft 2 ^^^ b.rotateLeft 3 ^^^ b.rotateLeft 4 ^^^ 0x63#8
def invSubByte (a : Byte) : Byte := aesInv (a.rotateLeft 1 ^^^ a.rotateLeft 3 ^^^ a.rotateLeft 6 ^^^ 0x05#8)

/-- The substitution as a table, so that a run looks it up. -/
def subTable : Array Byte := (Array.range 256).map fun i => subByte (BitVec.ofNat 8 i)
def invSubTable : Array Byte := (Array.range 256).map fun i => invSubByte (BitVec.ofNat 8 i)
def sub (a : Byte) : Byte := subTable.getD a.toNat 0#8
def invSub (a : Byte) : Byte := invSubTable.getD a.toNat 0#8

def xorBytes : List Byte → List Byte → List Byte
  | [], _ => []
  | _, [] => []
  | a :: as, b :: bs => (a ^^^ b) :: xorBytes as bs

/-! ### AES-256 -/

/-- The round-constant word `n`, x^(n-1). -/
def rcon : Nat → Byte
  | 0 => 0x8D#8
  | n + 1 => aesDouble (rcon n)

/-- Key expansion: `n` further words from the words so far, newest first, `i` the next word's number. -/
def expandKey : (n i : Nat) → List (List Byte) → List (List Byte)
  | 0, _, ws => ws
  | n + 1, i, ws =>
    let prev := ws.getD 0 []
    let back := ws.getD 7 []
    let t :=
      if i % 8 = 0 then
        match (prev.drop 1 ++ prev.take 1).map sub with
        | b :: bs => (b ^^^ rcon (i / 8)) :: bs
        | [] => []
      else if i % 8 = 4 then prev.map sub
      else prev
    expandKey n (i + 1) (xorBytes back t :: ws)

/-- Bytes in groups of `n`. -/
def groupsAux (n : Nat) : (fuel : Nat) → List Byte → List (List Byte)
  | 0, _ => []
  | f + 1, bs => if bs = [] then [] else bs.take n :: groupsAux n f (bs.drop n)
def groups (n : Nat) (bs : List Byte) : List (List Byte) := groupsAux n bs.length bs

/-- The 15 round keys of 16 bytes. -/
def roundKeys (key : List Byte) : List (List Byte) :=
  groups 16 ((expandKey 52 8 (groups 4 key).reverse).reverse.flatten)

/-- Byte `i` of a block. -/
def byteAt (bs : List Byte) (i : Nat) : Byte := bs.getD i 0#8

def shiftRows (b : List Byte) : List Byte := [0, 5, 10, 15, 4, 9, 14, 3, 8, 13, 2, 7, 12, 1, 6, 11].map (byteAt b)
def invShiftRows (b : List Byte) : List Byte := [0, 13, 10, 7, 4, 1, 14, 11, 8, 5, 2, 15, 12, 9, 6, 3].map (byteAt b)

def mixColumn (m : List Byte) (c : List Byte) : List Byte :=
  (List.range 4).map fun r => (List.range 4).foldl (fun acc k => acc ^^^ aesMul (byteAt c k) (byteAt m ((k + 4 - r) % 4))) 0#8
def mixColumns (b : List Byte) : List Byte := (groups 4 b).flatMap (mixColumn [2#8, 3#8, 1#8, 1#8])
def invMixColumns (b : List Byte) : List Byte := (groups 4 b).flatMap (mixColumn [14#8, 11#8, 13#8, 9#8])

def encRounds : List (List Byte) → List Byte → List Byte
  | [], b => b
  | [k], b => xorBytes (shiftRows (b.map sub)) k
  | k :: ks, b => encRounds ks (xorBytes (mixColumns (shiftRows (b.map sub))) k)

/-- Encrypt a block under expanded keys. -/
def aesEncWith (ks : List (List Byte)) (b : List Byte) : List Byte := encRounds (ks.drop 1) (xorBytes b (ks.getD 0 []))

def decRounds : List (List Byte) → List Byte → List Byte
  | [], b => b
  | [k], b => xorBytes ((invShiftRows b).map invSub) k
  | k :: ks, b => decRounds ks (invMixColumns (xorBytes ((invShiftRows b).map invSub) k))

/-- Decrypt a block under expanded keys. -/
def aesDecWith (ks : List (List Byte)) (b : List Byte) : List Byte := decRounds (ks.reverse.drop 1) (xorBytes b (ks.getLastD []))

/-- A key of 32 bytes as it stands in a register, first byte highest. -/
def keyBytes (k : BitVec 256) : List Byte := toBytesBE 32 k.toNat
def keyOfBytes (bs : List Byte) : BitVec 256 := BitVec.ofNat 256 (ofBytesBE bs)

/-! ### AES-CMAC (SP 800-38B) -/

def cmacDouble (b : List Byte) : List Byte :=
  let x := ofBytesBE b
  let y := if x < 2 ^ 127 then 2 * x else (2 * x - 2 ^ 128) ^^^ 0x87
  toBytesBE 16 y

def cmacBlocks (ks : List (List Byte)) (sub1 sub2 : List Byte) : List (List Byte) → List Byte → List Byte
  | [], acc => aesEncWith ks (xorBytes (xorBytes (0x80#8 :: List.replicate 15 0#8) sub2) acc)
  | [m], acc =>
    if m.length = 16 then aesEncWith ks (xorBytes (xorBytes m sub1) acc)
    else aesEncWith ks (xorBytes (xorBytes (m ++ 0x80#8 :: List.replicate (15 - m.length) 0#8) sub2) acc)
  | m :: ms, acc => cmacBlocks ks sub1 sub2 ms (aesEncWith ks (xorBytes m acc))

/-- AES-256-CMAC of a byte string. -/
def cmac (key : BitVec 256) (msg : List Byte) : List Byte :=
  let ks := roundKeys (keyBytes key)
  let s1 := cmacDouble (aesEncWith ks (List.replicate 16 0#8))
  cmacBlocks ks s1 (cmacDouble s1) (groups 16 msg) (List.replicate 16 0#8)

/-- The first 8 bytes of a CMAC as a number, first byte lowest (R300, R314). -/
def cmacTag (key : BitVec 256) (msg : List Byte) : Nat := ofBytes ((cmac key msg).take 8)

/-! ### XTS-AES-256 (SP 800-38E) -/

/-- The next block's tweak: multiplied by x, little-endian, polynomial 0x87. -/
def xtsDouble (t : List Byte) : List Byte :=
  let x := ofBytes t
  toBytes 16 (if x < 2 ^ 127 then 2 * x else (2 * x - 2 ^ 128) ^^^ 0x87)

def xtsBlocks (f : List Byte → List Byte) : List (List Byte) → List Byte → List Byte
  | [], _ => []
  | b :: bs, t => xorBytes (f (xorBytes b t)) t ++ xtsBlocks f bs (xtsDouble t)

/-- XTS encryption of a data unit of whole blocks under a data key, a tweak key and a 16-byte tweak. -/
def xtsEncrypt (k1 k2 : BitVec 256) (tweak data : List Byte) : List Byte :=
  xtsBlocks (aesEncWith (roundKeys (keyBytes k1))) (groups 16 data) (aesEncWith (roundKeys (keyBytes k2)) tweak)
def xtsDecrypt (k1 k2 : BitVec 256) (tweak data : List Byte) : List Byte :=
  xtsBlocks (aesDecWith (roundKeys (keyBytes k1))) (groups 16 data) (aesEncWith (roundKeys (keyBytes k2)) tweak)

/-! ### AES-KW unwrap (SP 800-38F) -/

/-- One step of the unwrap: A and the n semiblocks, the step number t. -/
def kwStep (ks : List (List Byte)) (st : List Byte × List (List Byte)) (t : Nat) : List Byte × List (List Byte) :=
  let n := st.2.length
  let i := (t - 1) % n
  let b := aesDecWith ks (xorBytes st.1 (toBytesBE 8 t) ++ st.2.getD i [])
  (b.take 8, st.2.set i (b.drop 8))

/-- AES-KW unwrap of a ciphertext of n + 1 semiblocks; none when the integrity check fails. -/
def kwUnwrap (key : BitVec 256) (c : List Byte) : Option (List Byte) :=
  let ks := roundKeys (keyBytes key)
  let semis := groups 8 c
  let n := semis.length - 1
  let steps := ((List.range (6 * n)).map (· + 1)).reverse
  let (a, r) := steps.foldl (kwStep ks) (semis.getD 0 [], semis.drop 1)
  if a = List.replicate 8 0xA6#8 then some r.flatten else none

end Sys2Proof.Machine
end

