-- ==== Sys2Proof/Machine/State/Obs.lean ====
section
/-! DEFINITION. State of 17_observability (event counters and the saddlebag), 20_faults (the fault sequencer and fault stop)
and 21_package_and_identity (balls, fuses, JTAG, sideband). Each field's comment reads: name | width | rule | reset value. -/
namespace Sys2Proof.Machine

/-- One event counter, COUNTER_SEL (R393). -/
structure Counter where
  /-- COUNTER_SEL.SRC | 9 | 17_observability R393 | Image, bareback 0 -/
  src : Nat := 0
  /-- COUNTER_SEL.ENABLE | 1 | 17_observability R393 | Image, bareback 0 -/
  enable : Bool := false
  /-- COUNTER_SEL.INST | 11 | 17_observability R393 | Image, bareback 0x7FF -/
  inst : Nat := 0x7FF
  /-- COUNTER_SEL.VALUE | 48 | 17_observability R392 | 0 -/
  value : Nat := 0
  /-- COUNTER_SEL.SAT | 1 | 17_observability R392 | 0 -/
  sat : Bool := false
  deriving DecidableEq, Repr, Inhabited

/-- A saddlebag record: SB_HDR, SB_EXT and the fields of its code (R398). -/
structure SbRec where
  code : Nat
  sev : Nat
  wt : Nat
  suppressed : Nat
  fields : List Nat
  deriving DecidableEq, Repr, Inhabited

/-- A transfer of log page 0xC3 in progress (R402, R403). -/
structure SbTransfer where
  tag : Nat
  captured : Nat
  release : Bool
  deriving DecidableEq, Repr, Inhabited

/-- Event counters and the saddlebag. -/
structure ObsState where
  /-- the 64 event counters | 64 x COUNTER_SEL | 17_observability R392 | disabled, 0 -/
  counters : List Counter := List.replicate 64 {}
  /-- counters whose saturation has not yet left code 0x0003 | 64 | 17_observability R392 | none -/
  satDue : List Nat := []
  /-- LAST_CLEAR_WT | 64 | 17_observability R396 | 0 -/
  lastClearWt : Nat := 0
  /-- the records whose bytes the 8 MiB ring still holds, oldest first, with their positions | 8 MiB | 17_observability R397 | none -/
  ring : List (Nat × SbRec) := []
  /-- SB_STATUS.WRITE_POS | 64 | 17_observability R401 | 0 -/
  writePos : Nat := 0
  /-- SB_STATUS.RELEASE_POS | 64 | 17_observability R403 | 0 -/
  releasePos : Nat := 0
  /-- SB_STATUS.LOST | 32 | 17_observability R402 | 0 -/
  lost : Nat := 0
  /-- records of the holding buffer, oldest first | 256 KiB | 17_observability R402 | none -/
  holding : List SbRec := []
  /-- records lost while the present holding lasts | 32 | 17_observability R402 | 0 -/
  holdLost : Nat := 0
  /-- the ring has been started (step 6 of R229) | 1 | 17_observability R404 | 0 -/
  ringOn : Bool := false
  /-- 0xC3 transfers in progress | list | 17_observability R402 | none -/
  transfers : List SbTransfer := []
  /-- no record is written any more (fault stop) | 1 | 20_faults R453 | 0 -/
  frozen : Bool := false
  /-- tokens taken from each code's bucket: severity and count; a code not listed has a full bucket | 8 each | 17_observability R400 | full -/
  spent : Table (Nat × Nat) := []
  /-- SB_EXT.SUPPRESSED of each code | 32 each | 17_observability R398 | 0 -/
  suppressed : Table Nat := []
  /-- local rounds since power-on reset | 64 | 17_observability R400 | 0 -/
  rounds : Nat := 0
  deriving DecidableEq, Repr, Inhabited

/-- A report waiting or in hand (R445, R447): the steps of its handling already ended. -/
structure Report where
  code : Nat
  sev : Nat
  steps : Nat
  deriving DecidableEq, Repr, Inhabited

/-- Fault stop (R451, R454). -/
structure FaultStop where
  cause : Nat
  path : Nat
  dump : Nat
  pending : Nat
  lost : Nat
  firstFatal : Nat
  deriving DecidableEq, Repr, Inhabited

/-- The fault sequencer. -/
structure FaultState where
  /-- reports made by subsystems and not yet arrived at the sequencer | list | 20_faults R444 | none -/
  made : List (Nat × Nat) := []
  /-- report queue | 16 entries | 20_faults R447 | empty -/
  queue : List Report := []
  /-- report in hand with its step | 1 entry | 20_faults R445 | none -/
  inHand : Option Report := none
  /-- the report in hand is to stop at its next step boundary | 1 | 20_faults R447 | 0 -/
  preempt : Bool := false
  /-- preempted reports | 2 entries | 20_faults R447 | none -/
  preempted : List Report := []
  /-- latched overflow report of code 0x0102 | 1 | 20_faults R448 | 0 -/
  overflow : Bool := false
  /-- LOST, reports lost by overflow | 32 | 20_faults R448 | 0 -/
  lost : Nat := 0
  /-- severity of the last dropped report | 3 | 20_faults R448 | 0 -/
  lastDropped : Nat := 0
  /-- reports counted at severity 2 | 32 | 20_faults R445 | 0 -/
  count2 : Nat := 0
  /-- reports counted at severity 3 | 32 | 20_faults R445 | 0 -/
  count3 : Nat := 0
  /-- reports counted at severity 4 | 32 | 20_faults R445 | 0 -/
  count4 : Nat := 0
  /-- Critical Warning bit 2 | 1 | 20_faults R445 | 0 -/
  degraded : Bool := false
  /-- fatal handling in progress, its code (FIRST_FATAL) | 16 | 20_faults R450 | none -/
  fatal : Option Nat := none
  /-- first severity-4 report made during a dump | 16 | 20_faults R451 | none -/
  dumpFatal : Option Nat := none
  /-- fault stop entered, with the fields of its record | record | 20_faults R451 | none -/
  stop : Option FaultStop := none
  deriving DecidableEq, Repr, Inhabited

/-- JTAG instructions (R464). -/
inductive JtagInstr where
  | idcode
  | bypass
  | samplePreload
  | extest
  | clamp
  | highz
  deriving DecidableEq, Repr, Inhabited

/-- System balls, fuses, JTAG port and sideband. -/
structure PkgState where
  /-- HALTER_N and LINK_MERGE as sampled at step 1 | 2 | 21_package_and_identity R461 | internal pulls: high, low -/
  straps : Straps := ⟨true, false⟩
  /-- KEEPER_A, KEEPER_B ball levels | 2 | 21_package_and_identity R457 | low (internal pull) -/
  keeperA : Bool := false
  keeperB : Bool := false
  /-- PWRFAIL_N ball level | 1 | 21_package_and_identity R457 | high (internal pull) -/
  pwrfailN : Bool := true
  /-- VDD_IO at or above 1.50 V | 1 | 21_package_and_identity R463 | 1 -/
  vddIo : Bool := true
  /-- VCORE_REQ[4:0] | 5 | 21_package_and_identity R459 | 20 -/
  vcoreReq : Nat := 20
  /-- IDENT_REC of the fuses | 512 | 21_package_and_identity R466 | Fuse (free value, log 4) -/
  identRec : Nat := 0
  /-- the fuses have been read (step 1 of R418) | 1 | 21_package_and_identity R466 | 0 -/
  fusesRead : Bool := false
  /-- factory identity area: record and date, none when blank or failing its CRC | 512 + 64 | 21_package_and_identity R467 | none -/
  factory : Option (Nat × Nat) := none
  /-- JTAG instruction in force | 3 | 21_package_and_identity R464 | IDCODE -/
  jtag : JtagInstr := .idcode
  /-- what the selected JTAG data register shifts out: IDCODE or boundary cells | 32 / cells | 21_package_and_identity R464 | IDCODE -/
  jtagOut : List Bool := (List.range 32).map (Nat.testBit 0x296041B3)
  /-- an EXTEST, CLAMP or HIGHZ waits for the dump's end to take the balls | 1 | 21_package_and_identity R465 | none -/
  jtagWaiting : Option JtagInstr := none
  /-- the boundary scan holds the balls | 1 | 21_package_and_identity R465 | 0 -/
  ballsTaken : Bool := false
  /-- sideband in I3C rather than SMBus | 1 | 21_package_and_identity R456 | 0 (SMBus) -/
  i3c : Bool := false
  /-- answers the sideband has given, newest last: request code and response bytes | list | 21_package_and_identity R456 | none -/
  sbAnswers : List (List Byte) := []
  /-- sideband commands waiting for the dump's end in fault stop | list | 20_faults R453 | none -/
  sbWaiting : List MiRequest := []
  /-- NVMe-MI responses waiting for NVMe-MI Receive | list | 11_commands R262 | none -/
  miReady : List (List Byte) := []
  deriving DecidableEq, Repr, Inhabited

end Sys2Proof.Machine
end

