-- ==== Sys2Proof/Machine/State/TreeStore.lean ====
section
/-! DEFINITION. State of 18_tree_store_and_update and 19_tree_image_format: the array's regions as rings of typed records,
the image slot as bytes, the sequencer's pending array operations, boot and halter, update staging, and the tables in force.
Each field's comment reads: name | width | rule | reset value. -/
namespace Sys2Proof.Machine

/-- A record of a ring of the tree store (R410, R413, R415, R416, R303, R225, R405). -/
inductive TsRec where
  | sectorStat (sector type : Nat)
  | wtRes (top : Nat)
  | ctrRes (slot gen top : Nat)
  | ledgerAnchor (copyA copyB page cycle : Nat)
  | dumpAnchor (type set serial chMask wt : Nat)
  | holdList (serial : Nat) (entries : List (Nat × Nat))
  | optFeature (fid sel : Nat) (buf : BitVec 256)
  | optU0 (u0 : Nat)
  | optLane (ch rank lane : Nat)
  | optLock (lock : Bool)
  | optIsolated (die cause : Nat)
  | keyLabel (slot : Nat) (label : BitVec 256)
  | keyGen (slot gen : Nat) (sweep : Bool)
  | keyBlob (slot : Nat) (blob : List Byte)
  | keyRoot (blob : List Byte)
  | saddlebag (rec : SbRec)
  deriving DecidableEq, Repr, Inhabited

/-- The rings of the tree store (R411). -/
inductive Region where
  | status
  | persistence
  | wtRes
  | ctrRes
  | ledgerAnchor
  | dumpAnchor
  | hold
  | keyStore
  | optionLog
  deriving DecidableEq, Repr, Inhabited

/-- One opened sector of a ring: its number, SSEQ, words programmed (its RING_HDR included), and its readable records with
the word each starts at, oldest first (R412). -/
structure RingSector where
  sector : Nat
  sseq : Nat
  fill : Nat
  recs : List (Nat × TsRec)
  deriving DecidableEq, Repr, Inhabited

/-- What an array operation does. -/
inductive ArrayKind where
  /-- Program a record at a ring's head. -/
  | append (region : Region) (rec : TsRec)
  /-- The erase of R410: BEGUN record, erase, DONE record (stage 0, 1, 2). -/
  | erase (sector stage : Nat)
  /-- Program option-block data at an offset of sector 0 (R414). -/
  | option (offset : Nat) (bytes : List Byte)
  /-- Program 16 words of the image (R423 step 6); read a sector back. -/
  | imageProgram (offset : Nat)
  | imageVerify (sector : Nat)
  /-- A scrub read (R417) or a read of segment 5 of the self-test (R280). -/
  | read (offset : Nat)
  deriving DecidableEq, Repr, Inhabited

/-- A pending or running array operation with its class of precedence (R408). -/
structure ArrayOp where
  cls : Nat
  kind : ArrayKind
  deriving DecidableEq, Repr, Inhabited

/-- The update's staging area and progress (R423). -/
structure Staging where
  ctrl : Nat
  len : Nat
  bytes : List Host.Cell
  covered : List (Nat × Nat)
  deriving DecidableEq, Repr, Inhabited

/-- The tree store's array, its sequencer, boot and update. Reset: a part as it leaves the factory (log 3). -/
structure TsState where
  /-- rings of the array, oldest sector first | 84 sectors + persistence | 18_tree_store_and_update R411, R412 | Kept; blank (log 3) -/
  rings : List (Region × List RingSector) := []
  /-- sectors that are not blank (a word programmed since their last erase) in the image slot | 768 | 18_tree_store_and_update R410 | Kept; none (log 3) -/
  imageUsed : List Nat := []
  /-- image slot contents, offsets from the slot's start; an unlisted byte reads 0xFF | 48 MiB | 18_tree_store_and_update R411 | Kept; blank (log 3) -/
  image : List Host.Cell := []
  /-- option block: MAGIC, SN, MN and KEY_HASH words, offsets from 0; an unlisted byte is blank | 512 B | 18_tree_store_and_update R414 | Kept; blank (log 3) -/
  option : List Host.Cell := []
  /-- option-block offsets whose code word reads uncorrectable | list | 18_tree_store_and_update R414, R417 | Kept; none (log 3) -/
  optionBad : List Nat := []
  /-- erases of each sector's region head: sectors ever erased, BAD sectors follow from the status ring | list | 18_tree_store_and_update R410 | Kept; none (log 3) -/
  bad : List Nat := []
  /-- pending array operations, oldest first | list | 18_tree_store_and_update R408 | none -/
  queue : List ArrayOp := []
  /-- operation running | 1 | 18_tree_store_and_update R408 | none -/
  running : Option ArrayOp := none
  /-- operations suspended by one of higher precedence, last suspended first | list | 18_tree_store_and_update R408 | none -/
  suspended : List ArrayOp := []
  /-- unlock register: values written toward the next program or erase | 2 | 18_tree_store_and_update R408 | 0 -/
  unlock : Nat := 0
  /-- programs and erases are accepted (shadowing has ended) | 1 | 18_tree_store_and_update R409 | 0 -/
  accept : Bool := false
  /-- boot step running (R418), 0 before POWER_ON_RESET, 9 when start-up has ended | 4 | 18_tree_store_and_update R418 | 0 -/
  bootStep : Nat := 0
  /-- TS_STATUS.MODE | 2 | 18_tree_store_and_update R422 | 0 -/
  mode : Nat := 0
  /-- TS_STATUS.HALTER_REASON | 4 | 18_tree_store_and_update R422 | 0 -/
  halterReason : Nat := 0
  /-- TS_STATUS.UPD_STATE | 3 | 18_tree_store_and_update R422 | 0 -/
  updState : Nat := 0
  /-- TS_STATUS.IMAGE_FAULT | 1 | 18_tree_store_and_update R422 | 0 -/
  imageFault : Bool := false
  /-- TS_STATUS.LAST_REASON | 8 | 18_tree_store_and_update R422 | 0 -/
  lastReason : Nat := 0
  /-- TS_STATUS.UPD_DONE | 32 | 18_tree_store_and_update R422 | 0 -/
  updDone : Nat := 0
  /-- TS_STATUS.UPD_LEN | 32 | 18_tree_store_and_update R422 | 0 -/
  updLen : Nat := 0
  /-- TS_STATUS.HALF_ERASED | 16 | 18_tree_store_and_update R422 | 0 -/
  halfErased : Nat := 0
  /-- TS_STATUS.SCRUB_CORRECTED | 32 | 18_tree_store_and_update R422 | 0 -/
  scrubCorrected : Nat := 0
  /-- TS_STATUS.SCRUB_UNCORR | 32 | 18_tree_store_and_update R422 | 0 -/
  scrubUncorr : Nat := 0
  /-- scrub cursor (next offset) | 26 | 18_tree_store_and_update R417 | 0 -/
  scrubAt : Nat := 0
  /-- update staging area | 48 MiB | 18_tree_store_and_update R423 | none -/
  staging : Option Staging := none
  /-- bytes being written to the slot by an update or refresh | 48 MiB | 18_tree_store_and_update R423 | none -/
  writing : Option (Nat × List Host.Cell) := none
  /-- an ERASE_IMAGE is in progress | 1 | 18_tree_store_and_update R421 | 0 -/
  erasing : Bool := false
  /-- the image slot has been written or erased since reset | 1 | 18_tree_store_and_update R421 | 0 -/
  written : Bool := false
  /-- shadow SRAM: the running image's bytes, unlisted 0xFF, and its length | 48 MiB | 18_tree_store_and_update R419 | none -/
  shadow : List Host.Cell := []
  shadowLen : Nat := 0
  deriving DecidableEq, Repr, Inhabited

/-- The tables in force: the image's values, or the bareback ones (R9, R419, R429). A table laid out as a field map is held
as that map's number. -/
structure ImgState where
  /-- Identify FR of the running mode | 64 | 19_tree_image_format R427 | Image -/
  fr : List Byte := []
  /-- GEOM | 2,048 | 04_awls R84 | Image; bareback from the parameter page -/
  geom : Nat := 0
  /-- plan selection table | 80 x 6 | 19_tree_image_format R430 | Image; bareback ROM (free value) -/
  planSelect : List Nat := []
  /-- PS_TABLE | 5 x 128 | 16_thermal_and_power R387 | Image; bareback -/
  psTable : List Nat := []
  /-- CODEC_POLICY | 512 | 05_frames_and_ldpc R120 | Image; bareback -/
  codec : Nat := 0
  /-- RETRY_TABLE | 18 x 16 signed bytes | 05_frames_and_ldpc R119 | Image; bareback -/
  retry : List (List Int) := []
  /-- WEAR_POLICY | 512 | 07_reclaim_and_wear R177 | Image; bareback -/
  wear : Nat := 0
  /-- GIRTH_POLICY | 512 | 08_girths R189 | Image; bareback -/
  girth : Nat := 0
  /-- HOLDUP_POLICY | 512 | 09_write_buffer_and_power_loss R214 | Image; bareback -/
  holdup : Nat := 0
  /-- MAP_POLICY | 512 | 19_tree_image_format R433 | Image; bareback -/
  map : Nat := 0
  /-- FC_TARGET | 17 x 16 | 06_map R145 | Image; bareback -/
  fcTarget : List Nat := []
  /-- REIN_POLICY | 256 | 10_reins R243 | Image; bareback -/
  rein : Nat := 0
  /-- DRAM_POLICY | 512 | 14_dram_and_map_cache R355 | Image; bareback -/
  dram : Nat := 0
  /-- DRAM_TRAIN, entries by index; an unlisted entry is 0 (VALID 0) | 400 x 64 | 19_tree_image_format R435 | Image; VALID 0 -/
  dramTrain : Table Nat := []
  /-- DMA_POLICY | 512 | 15_dma R377 | Image; bareback -/
  dma : Nat := 0
  /-- THERMAL_LADDER | 512 | 16_thermal_and_power R382 | Image; bareback -/
  ladder : Nat := 0
  /-- SB_POLICY | 512 | 17_observability R400 | Image; bareback -/
  sb : Nat := 0
  /-- WHEEL_POLICY | 512 | 19_tree_image_format R436 | Image; bareback -/
  wheel : Nat := 0
  /-- WHEEL_COMP | 33 x 16 | 19_tree_image_format R437 | Image; bareback 0 -/
  wheelComp : List Int := []
  /-- RESV_COMP | 33 x 16 | 19_tree_image_format R437 | Image; bareback 0 -/
  resvComp : List Int := []
  /-- VREF_COMP | 33 x 16 | 19_tree_image_format R437 | Image; bareback 0 -/
  vrefComp : List Int := []
  /-- LABELS of the image | COUNT x 256 | 19_tree_image_format R439 | Image; none -/
  labels : List (BitVec 256) := []
  deriving DecidableEq, Repr, Inhabited

end Sys2Proof.Machine
end

