-- ==== Sys2Proof/Machine/State/Wheel.lean ====
section
/-! DEFINITION. State of 02_wheel (time base). Each field's comment reads: name | width | rule | reset value. -/
namespace Sys2Proof.Machine

/-- WHEEL_CFG, feature 0xC0 (R37). -/
structure WheelCfg where
  /-- WHEEL_CFG.SOURCE | 3 | 02_wheel R37 | Image, bareback 0 -/
  source : Nat := 0
  /-- WHEEL_CFG.FAILOVER | 1 | 02_wheel R37 | Image, bareback 0 -/
  failover : Bool := false
  /-- WHEEL_CFG.PACE_MODE | 2 | 02_wheel R37 | Image, bareback 0 -/
  paceMode : Nat := 0
  /-- WHEEL_CFG.SLEW_MAX | 8 | 02_wheel R37 | Image, bareback 50 -/
  slewMax : Nat := 50
  /-- WHEEL_CFG.TOOTH_CYCLES | 16 | 02_wheel R37 | Image, bareback 2,000 -/
  toothCycles : Nat := 2000
  /-- WHEEL_CFG.STATION | 10 | 02_wheel R37 | Image, bareback 0 -/
  station : Nat := 0
  /-- WHEEL_CFG.PHASE_STRIDE | 10 | 02_wheel R37 | Image, bareback 0 -/
  phaseStride : Nat := 0
  /-- WHEEL_CFG.STEP_THRESHOLD | 10 | 02_wheel R37 | Image, bareback 2 -/
  stepThreshold : Nat := 2
  /-- WHEEL_CFG.GUARD_TEETH | 10 | 02_wheel R37 | Image, bareback 4 -/
  guardTeeth : Nat := 4
  /-- WHEEL_CFG.LOCK_WINDOW | 16 | 02_wheel R37 | Image, bareback 100 -/
  lockWindow : Nat := 100
  /-- WHEEL_CFG.REF_SECOND | 48 | 02_wheel R37 | 0 -/
  refSecond : Nat := 0
  deriving DecidableEq, Repr, Inhabited

/-- Wheel states (R40). -/
inductive WheelMode where
  | free
  | acquire
  | locked
  | holdover
  deriving DecidableEq, Repr, Inhabited

/-- The wheel. -/
structure WheelState where
  /-- WHEEL_CFG in force | 256 | 02_wheel R37 | Image; bareback -/
  cfg : WheelCfg := {}
  /-- WHEEL_CFG last set, whose SOURCE, PACE_MODE, TOOTH_CYCLES, STATION and PHASE_STRIDE wait for the next local round boundary | 256 | 02_wheel R38 | none -/
  next : Option WheelCfg := none
  /-- REF_ARM, the load of REF_SECOND is armed | 1 | 02_wheel R35 | 0 -/
  refArm : Bool := false
  /-- WHEEL_STATUS.WT | 64 | 02_wheel R32, R51 | Kept; 0 in a part that never ran (log 3) -/
  wt : Nat := 0
  /-- WHEEL_STATUS.LT | 10 | 02_wheel R33 | TARGET of the first tooth: 0 -/
  lt : Nat := 0
  /-- WHEEL_STATUS.SYS_PHASE | 10 | 02_wheel R33 | 0 -/
  sysPhase : Nat := 0
  /-- the round's last tooth has ended and the round boundary's work is due | 1 | 02_wheel R33 | 0 -/
  roundDue : Bool := false
  /-- WHEEL_STATUS.STATE | 2 | 02_wheel R54 | 0 FREE (SOURCE XTAL) -/
  mode : WheelMode := .free
  /-- WHEEL_STATUS.SOURCE_IN_USE | 3 | 02_wheel R54 | Image; bareback 0 -/
  sourceInUse : Nat := 0
  /-- WHEEL_STATUS.GOOD_COUNT | 8 | 02_wheel R54 | 0 -/
  good : Nat := 0
  /-- WHEEL_STATUS.FILLER_LAST | 16 | 02_wheel R54 | 0 -/
  fillerLast : Nat := 0
  /-- filler teeth still to pass | 10 | 02_wheel R46 | 0 -/
  filler : Nat := 0
  /-- a phase step is due at the next local round boundary | 1 | 02_wheel R45 | 0 -/
  stepDue : Bool := false
  /-- WHEEL_STATUS.PHASE_ERR in ns | 32 signed | 02_wheel R54 | 0 -/
  phaseErr : Int := 0
  /-- WHEEL_STATUS.FREQ_CORR in ppb | 32 signed | 02_wheel R30, R54 | 0 -/
  freqCorr : Int := 0
  /-- INTEG in ppb | 32 signed | 02_wheel R42 | 0 -/
  integ : Int := 0
  /-- INTEG at the last local round boundaries of LOCKED, newest first | 64 entries | 02_wheel R48 | empty -/
  integHist : List Int := []
  /-- comp(T) in ppb | 32 signed | 02_wheel R47 | 0 -/
  comp : Int := 0
  /-- last good reading of the oscillator sensor, 0.25 degC | 16 signed | 02_wheel R49 | none; comp(T) 0 until read -/
  oscTemp : Option Int := none
  /-- time since HOLDOVER entry in ns (WHEEL_STATUS.HOLD_TIME) | 64 | 02_wheel R54 | 0 -/
  holdNs : Nat := 0
  /-- ERR_BOUND in ps (WHEEL_STATUS.ERR_BOUND in ns) | 64 | 02_wheel R40, R54 | 0 -/
  errBoundPs : Nat := 0
  /-- ERR_BOUND grows: HOLDOVER, or ACQUIRE entered under R44, or FREE fallen to from them | 1 | 02_wheel R40, R44 | 0 -/
  errGrows : Bool := false
  /-- WHEEL_STATUS.MISSED | 32 | 02_wheel R54 | 0 -/
  missed : Nat := 0
  /-- WHEEL_STATUS.FAST | 32 | 02_wheel R54 | 0 -/
  fast : Nat := 0
  /-- consecutive missed edges | 2 | 02_wheel R43 | 0 -/
  missRun : Nat := 0
  /-- ignored fast edges in this local round | 16 | 02_wheel R43 | 0 -/
  fastRound : Nat := 0
  /-- ACQUIRE was entered under R44 | 1 | 02_wheel R40 | 0 -/
  failedOver : Bool := false
  /-- time of the last accepted edge, 2.5 ns | 64 | 02_wheel R35 | none -/
  lastEdge : Option Nat := none
  /-- predicted time of the next edge, 2.5 ns divided by 10^9, so that no fraction of a corrected period is lost | 94 | 02_wheel R30, R39 | none -/
  predicted : Option Nat := none
  /-- reference second count S | 48 | 02_wheel R35 | none until the first accepted edge -/
  refSecondS : Option Nat := none
  /-- SYS_PHASE at the last accepted PACE edge, from which 1 pulse per tooth counts on | 10 | 02_wheel R33, R35 | 0 -/
  refPhase : Nat := 0
  /-- the error below STEP_THRESHOLD is being removed by slewing | 1 | 02_wheel R45 | 0 -/
  slewing : Bool := false
  /-- phase slewed since the last whole tooth of it, in millionths of a tooth | 20 | 02_wheel R45 | 0 -/
  slewAcc : Nat := 0
  /-- FREQ_CORR without the slew, in ppb | 32 signed | 02_wheel R42, R45, R48 | 0 -/
  baseCorr : Int := 0
  /-- FREQ_CORR is kept until the wheel locks, since a configuration changed it | 1 | 02_wheel R38 | 0 -/
  keepCorr : Bool := false
  /-- FREQ_CORR has been at its clamp since the local round in progress began | 1 | 02_wheel R31 | 0 -/
  clampedRound : Bool := false
  /-- whole local rounds FREQ_CORR has stayed at its clamp | 7 | 02_wheel R31 | 0 -/
  clampRounds : Nat := 0
  /-- last RES_TOP written | 64 | 02_wheel R51 | Kept -/
  resTop : Nat := 0
  /-- WT of the last dump | 64 | 02_wheel R51 | Kept -/
  dumpedWt : Nat := 0
  /-- no tooth boundary occurs any more: the crystal has stopped | 1 | 02_wheel R469 | 0 -/
  stopped : Bool := false
  deriving DecidableEq, Repr, Inhabited

end Sys2Proof.Machine
end

