-- ==== Sys2Proof/Machine/State/Flash.lean ====
section
/-! DEFINITION. State of 03_stitch_plans, 04_awls and 05_frames_and_ldpc: plans, die queues and operations, channels, frames
being decoded and read-voltage groups. Each field's comment reads: name | width | rule | reset value. -/
namespace Sys2Proof.Machine

/-- A plan as held in DRAM or in a plan buffer: PLAN_HDR as its number (R57) and the slot array's bytes by offset; an unlisted
byte is 0, two REST slots without SUSPEND_OK (R55). -/
structure Plan where
  hdr : Nat
  slots : List Host.Cell
  deriving DecidableEq, Repr, Inhabited

/-- The plan selector and its buffers. -/
structure PlanState where
  /-- the plans in DRAM by position | 64 plans | 03_stitch_plans R55, 01_architecture R20 | Image; ROM plans (free values) -/
  dram : Table Plan := []
  /-- the dump plan in the reserve domain | 1 plan | 01_architecture R24 | Image; ROM -/
  dump : Option Plan := none
  /-- running plan buffer | 1 plan | 03_stitch_plans R74 | Image, from step 6 of R418 -/
  running : Option Plan := none
  /-- inactive plan buffer | 1 plan | 03_stitch_plans R72 | none -/
  inactive : Option Plan := none
  /-- PLAN_STATUS.RUNNING_PLAN | 6 | 03_stitch_plans R74 | Image, from step 6 of R418 -/
  runningNo : Nat := 0
  /-- plan number being loaded or loaded for the swap | 6 | 01_architecture R22 | none -/
  pendingNo : Option Nat := none
  /-- the inactive buffer holds the pending plan, checked | 1 | 03_stitch_plans R72 | 0 -/
  loaded : Bool := false
  /-- PLAN_STATUS.LOADING | 1 | 03_stitch_plans R74 | 0 -/
  loading : Bool := false
  /-- PLAN_STATUS.LAST_INDEX | 7 | 03_stitch_plans R74 | 0 -/
  lastIndex : Nat := 0
  /-- PLAN_STATUS.PS | 3 | 03_stitch_plans R74 | 0 -/
  ps : Nat := 0
  /-- PLAN_STATUS.BAND | 3 | 03_stitch_plans R74 | 0 -/
  band : Nat := 0
  /-- PLAN_STATUS.RB | 1 | 03_stitch_plans R74 | 0 -/
  rb : Bool := false
  /-- a sample has been taken whose DRAM and flash rates wait for the round boundary | 1 | 01_architecture R22 | 0 -/
  sampled : Bool := false
  /-- PLAN_STATUS.DEFER_RUN | 2 | 03_stitch_plans R74 | 0 -/
  deferRun : Nat := 0
  /-- PLAN_STATUS.SWAPS | 32 | 03_stitch_plans R74 | 0 -/
  swaps : Nat := 0
  /-- PLAN_STATUS.LAST_SWAP_WT | 64 | 03_stitch_plans R74 | 0 -/
  lastSwapWt : Nat := 0
  /-- PLAN_STATUS.DEFERRED | 32 | 03_stitch_plans R74 | 0 -/
  deferred : Nat := 0
  /-- a reload of the DRAM plans from the shadow is in progress | 1 | 03_stitch_plans R74 | 0 -/
  reloading : Bool := false
  deriving DecidableEq, Repr, Inhabited

/-- The kinds of read (the columns of R63). -/
inductive ReadKind where
  | host
  | copy
  | patrol
  deriving DecidableEq, Repr, Inhabited

/-- What a read is for: a unit of a host command, a copy of reclaim, rebuild or reshape, a member of a reconstruction, a
patrol sample, or a trial of a recalibration. -/
inductive ReadUse where
  | unit (ticket : Nat)
  | copy (ticket : Nat)
  | member (job : Nat)
  | sample (group block : Nat)
  | trial (group : Nat)
  deriving DecidableEq, Repr, Inhabited

/-- An entry of HRQ or IRQ: a read of the run of `glen` granules at `gran` (R59). A read of the decode ladder reads one frame of the run. -/
structure ReadReq where
  id : Nat
  /-- the read it belongs to: the identifier of the first read of the run -/
  job : Nat
  kind : ReadKind
  use : ReadUse
  gran : Nat
  glen : Nat
  rung : Nat
  step : Nat
  entered : Nat
  /-- the part of a two-frame run it reads: 1 for the second frame -/
  part : Nat := 0
  deriving DecidableEq, Repr, Inhabited

/-- A read in progress on a die: sensing, or sensed with frames still to move (R69, R89); the offset step copied when it
started (R117). -/
structure ReadRun where
  req : ReadReq
  plane : Nat
  sensed : Bool
  framesLeft : Nat
  row : List Int
  deriving DecidableEq, Repr, Inhabited

/-- What a channel is moving: a frame of a read, or a page of a die's program (R69). -/
inductive Xfer where
  | frame (die read : Nat)
  | page (die : Nat)
  deriving DecidableEq, Repr, Inhabited

/-- One cycle on the CA pins: a command byte or an address byte. -/
inductive CaCycle where
  | cmd (byte : Nat)
  | addr (byte : Nat)
  deriving DecidableEq, Repr, Inhabited

/-- A sequence of cycles for a die (R88). -/
structure CaSeq where
  die : Nat
  hostRead : Bool
  cycles : List CaCycle
  deriving DecidableEq, Repr, Inhabited

/-- What a program or erase is for. -/
inductive WorkUse where
  /-- Member position `pos` of girth `girth` (R185). -/
  | member (girth pos : Nat)
  /-- Page `page` of ledger copy A (false) or B (true), written for ledger page `seq` (R190). -/
  | ledger (seq : Nat) (copyB : Bool)
  /-- Erase in the wanted mode before a set's first program (R164). -/
  | modeErase
  /-- Erase of a reclaimed block (R171), of a hold block (R220) or of a retired block's one attempt (R150, R173). -/
  | erase
  deriving DecidableEq, Repr, Inhabited

/-- An entry of WKQ (R59): operation 1 program, 2 erase, as DIE_STATUS.OP. -/
structure WorkReq where
  id : Nat
  op : Nat
  cls : Nat
  fc : Bool
  block : Nat
  wl : Nat
  pages : Nat
  use : WorkUse
  since : Nat
  deriving DecidableEq, Repr, Inhabited

/-- Why an operation is suspended: for a host read (R66) or at a boundary into a slot of another class (R64). -/
inductive Suspended where
  | running
  | forRead
  | classExit
  deriving DecidableEq, Repr, Inhabited

/-- The program or erase in progress on a die (R61, R64, R66, R68). -/
structure DieOp where
  work : WorkReq
  state : Suspended
  /-- a suspension of it began in this tooth -/
  thisTooth : Bool
  /-- it has reached its suspend limit and runs to completion -/
  atLimit : Bool
  /-- the awl has sent a suspend command whose tSUS has not elapsed -/
  latency : Bool
  /-- its suspensions, which R68 compares with the part's limit -/
  count : Nat := 0
  deriving DecidableEq, Repr, Inhabited

/-- Die states of DIE_STATUS (R96). -/
inductive DieMode where
  | absent
  | active
  | watch
  | isolated
  deriving DecidableEq, Repr, Inhabited

/-- One die: its queues, its operation and DIE_STATUS. -/
structure Die where
  /-- HRQ | 4 entries | 03_stitch_plans R59 | empty -/
  hrq : List ReadReq := []
  /-- entries at HRQ's head that waited when the tooth opened | 2 | 03_stitch_plans R62 | 0 -/
  hrqOpen : Nat := 0
  /-- IRQ | 2 entries | 03_stitch_plans R59 | empty -/
  irq : List ReadReq := []
  /-- WKQ | 2 entries | 03_stitch_plans R59 | empty -/
  wkq : List WorkReq := []
  /-- the front end's list of host reads waiting for HRQ | list | 03_stitch_plans R59 | empty -/
  feList : List ReadReq := []
  /-- the reclaim and girth lists of reads waiting for IRQ | list | 03_stitch_plans R59 | empty -/
  irList : List ReadReq := []
  /-- the placement list of work waiting for WKQ | list | 03_stitch_plans R59 | empty -/
  wkList : List WorkReq := []
  /-- programs that wait for the extra erase of their block to be queued | list | 07_reclaim_and_wear R164 | empty -/
  behind : List WorkReq := []
  /-- reads in progress, by plane | 6 | 03_stitch_plans R62 | none -/
  reads : List ReadRun := []
  /-- operation in progress; DIE_STATUS.OP follows it | 1 | 03_stitch_plans R61 | none -/
  op : Option DieOp := none
  /-- pages of WKQ's head loaded and not confirmed | 6 | 03_stitch_plans R65 | 0 -/
  loaded : Nat := 0
  /-- Reset LUN outstanding (not answered ready) | 1 | 04_awls R94 | 0 -/
  resetting : Bool := false
  /-- an operation of WKQ's head or IRQ's head was blocked in this tooth | 2 | 03_stitch_plans R60 | 0 -/
  wkBlocked : Bool := false
  irBlocked : Bool := false
  /-- DIE_STATUS.STATE | 2 | 04_awls R96 | Kept; ABSENT until GEOM is in force -/
  mode : DieMode := .absent
  /-- DIE_STATUS.CAUSE | 4 | 04_awls R96 | Kept -/
  cause : Nat := 0
  /-- DIE_STATUS.SUSPENDS | 8 | 04_awls R96 | 0 -/
  suspends : Nat := 0
  /-- rounds of the timeouts of the last 64 local rounds (DIE_STATUS.TIMEOUTS counts them) | 4 x 64 | 04_awls R96, R97 | none -/
  timeouts : List Nat := []
  /-- DIE_STATUS.PROG_FAILS | 16 | 04_awls R96 | 0 -/
  progFails : Nat := 0
  /-- DIE_STATUS.ERASE_FAILS | 16 | 04_awls R96 | 0 -/
  eraseFails : Nat := 0
  /-- DIE_STATUS.LUN_RESETS | 16 | 04_awls R96 | 0 -/
  lunResets : Nat := 0
  /-- WT when the die was isolated, its low 48 bits; DIE_STATUS.ISOLATED_WT shows the low 32 | 48 | 04_awls R96, 08_girths R192 | Kept -/
  isolatedWt : Nat := 0
  /-- blocks with a status failure and its local round, last 64 rounds | list | 04_awls R97 | none -/
  failRounds : List (Nat × Nat) := []
  /-- consecutive uncorrectable frame reads and the blocks they span | 16 + list | 04_awls R97 | 0 -/
  badFrames : Nat := 0
  badBlocks : List Nat := []
  /-- the local round in which a criterion 1, 2, 3 or 5 was met | 64 | 04_awls R98 | none -/
  metRound : Option Nat := none
  deriving DecidableEq, Repr, Inhabited

/-- One flash channel. -/
structure Channel where
  /-- start-up step of R81 running, 0 before step 7 of R418, 7 when ended | 3 | 04_awls R81 | 0 -/
  step : Nat := 0
  /-- data rate in force | 3 | 04_awls R80 | GEOM.RATE -/
  rate : Nat := 4
  /-- rate ceiling of channel start-up and rates trained since | 3 + 5 | 16_thermal_and_power R389 | GEOM.RATE; none -/
  ceiling : Nat := 4
  trained : List Nat := []
  /-- rates whose training failed | 5 | 16_thermal_and_power R389 | none -/
  failed : List Nat := []
  /-- CHn_WP_N high | 1 | 04_awls R82 | 0 -/
  wpHigh : Bool := false
  /-- CHn_CE_N[7:0] all held high | 1 | 04_awls R81 | 1 -/
  ceHigh : Bool := true
  /-- targets deselected for good | 8 | 04_awls R101 | none -/
  deselected : List Nat := []
  /-- the channel is isolated, with its criterion | 4 | 04_awls R98, R100 | 0; from the isolated-die list -/
  isolated : Nat := 0
  /-- ZQ calibration attempts that failed in a row | 2 | 04_awls R98 | 0 -/
  zqFails : Nat := 0
  /-- local round of each target's last ZQ calibration short | 8 x 64 | 04_awls R83 | 0 -/
  zqRound : Table Nat := []
  /-- sensed frames waiting for data-out in the order their sensing ended: die and read, host first | list | 03_stitch_plans R69 | empty -/
  outHost : List (Nat × Nat) := []
  outInternal : List (Nat × Nat) := []
  /-- the frame or page being moved | 1 | 03_stitch_plans R69 | none -/
  busy : Option Xfer := none
  /-- codewords of the page last taken for data-in, scrambled, frame 0 first | 4 x 37,504 | 05_frames_and_ldpc R109 | none -/
  encoded : List Nat := []
  /-- sequences that wait for the CA pins, in start order | list | 04_awls R88 | none -/
  caWait : List CaSeq := []
  /-- sequences sent on the CA pins since the last tooth boundary, oldest first (the model's own window on the pins, log 81) | list | 04_awls R88 | none -/
  caSent : List CaSeq := []
  /-- die within the channel whose host-read sequence was sent last | 5 | 04_awls R88 | 31 (log 81) -/
  caTurn : Nat := 31
  /-- a status read stands at the present boundary between transfers | 1 | 04_awls R88 | 0 -/
  polled : Bool := false
  /-- the NV-LPDDR4 timing mode is set; before that SDR timing mode 0 | 1 | 04_awls R78, R81 | 0 -/
  lpddr4 : Bool := false
  /-- on-die termination enabled, PHY powered | 2 | 04_awls R81, R100 | 0, 1 -/
  odt : Bool := false
  phyOn : Bool := true
  /-- host frames moved in this tooth (READ_CAP) | 16 | 16_thermal_and_power R383 | 0 -/
  hostFrames : Nat := 0
  /-- pair cursor: the channel's next die in cursor order | 5 | 08_girths R181 | 0 -/
  cursor : Nat := 0
  deriving DecidableEq, Repr, Inhabited

/-- The awls. -/
structure AwlState where
  /-- dies by index; a die not listed is as at reset | 1,024 | 04_awls R96 | at reset -/
  dies : Table Die := []
  /-- channels by number; a channel not listed is as at reset | 32 | 04_awls R81 | at reset -/
  chans : Table Channel := []
  /-- next identifier of a queue entry (the model's own name for it) | - | log 16 | 0 -/
  nextId : Nat := 0
  deriving DecidableEq, Repr, Inhabited

/-- VT_GROUP (R116). -/
structure VtGroup where
  /-- VT_GROUP.ROW0_OFF | 120 | 05_frames_and_ldpc R116 | Kept; 0 when not restored -/
  row0 : List Int := []
  /-- VT_GROUP.ROW0_GEN | 8 | 05_frames_and_ldpc R116 | Kept; 0 -/
  gen0 : Nat := 0
  /-- VT_GROUP.ROW1_OFF | 120 | 05_frames_and_ldpc R116 | Kept; 0 -/
  row1 : List Int := []
  /-- VT_GROUP.ROW1_GEN | 8 | 05_frames_and_ldpc R116 | Kept; 0 -/
  gen1 : Nat := 0
  /-- VT_GROUP.SEL | 1 | 05_frames_and_ldpc R116 | Kept; 0 -/
  sel : Bool := false
  /-- VT_GROUP.QUEUED | 1 | 05_frames_and_ldpc R116 | 0 -/
  queued : Bool := false
  /-- VT_GROUP.VALID | 1 | 05_frames_and_ldpc R116 | Kept; 0 when not restored -/
  valid : Bool := false
  /-- VT_GROUP.CAL_TEMP | 8 signed | 05_frames_and_ldpc R116 | Kept; 0 -/
  calTemp : Int := 0
  /-- VT_GROUP.LAST_RETRY | 4 | 05_frames_and_ldpc R116 | Kept; 0 -/
  lastRetry : Nat := 0
  /-- VT_GROUP.CAL_ROUND | 32 | 05_frames_and_ldpc R116 | Kept; 0 -/
  calRound : Nat := 0
  /-- VT_GROUP.GROUP_READS | 32 | 05_frames_and_ldpc R116 | Kept; 0 -/
  reads : Nat := 0
  deriving DecidableEq, Repr, Inhabited

/-- A frame in read staging, on the ladder (R110, R112). -/
structure FrameJob where
  req : ReadReq
  die : Nat
  rung : Nat
  step : Nat
  /-- soft reads of rung 2 still to arrive -/
  softLeft : Nat
  /-- 0 waits for array reads, 1 waits for a decoder, 2 in a hard decoder, 3 in a soft decoder -/
  stage : Nat
  /-- frame buffers it holds: its first read and those of its present rung -/
  held : Nat
  /-- order of its last arrival in read staging -/
  order : Nat
  deriving DecidableEq, Repr, Inhabited

/-- A recalibration in progress (R122). -/
structure Recal where
  group : Nat
  block : Nat
  type : Nat
  centre : Int
  pass : Nat
  newRow : List Int
  /-- results of the trials of this pass by k + 3; none: the frame did not decode -/
  results : Table (Option Nat)
  deriving DecidableEq, Repr, Inhabited

/-- The frame codec. -/
structure CodecState where
  /-- VT_GROUP entries by group index; an unlisted entry is as not restored | 64 B each | 05_frames_and_ldpc R116 | Kept; VALID 0 -/
  vt : Table VtGroup := []
  /-- frames in read staging, by read and part | 7,158 | 05_frames_and_ldpc R110 | none -/
  jobs : Table FrameJob := []
  /-- runs of two frames being read, with the frames not yet good or lost, and whether one is lost | list | 05_frames_and_ldpc R112, 08_girths R198 | none -/
  runs : Table (ReadReq × Nat × Bool) := []
  /-- groups being visited, with the samples whose judgement is outstanding | list | 05_frames_and_ldpc R123 | none -/
  visits : Table Nat := []
  /-- hint queue: group and block that caused the hint | list | 05_frames_and_ldpc R121 | empty -/
  hint : List (Nat × Nat) := []
  /-- age queue | list | 05_frames_and_ldpc R121 | empty -/
  age : List Nat := []
  /-- recalibrations in progress | 64 | 05_frames_and_ldpc R122 | none -/
  recals : List Recal := []
  /-- patrol cursor (group index) | 20 | 05_frames_and_ldpc R123 | 0 -/
  cursor : Nat := 0
  /-- patrol fast list | list | 05_frames_and_ldpc R125 | empty -/
  fast : List Nat := []
  deriving DecidableEq, Repr, Inhabited

end Sys2Proof.Machine
end

