-- ==== Sys2Proof/Machine/State/Map.lean ====
section
/-! DEFINITION. State of 06_map, 07_reclaim_and_wear, 08_girths and 09_write_buffer_and_power_loss. Each field's comment
reads: name | width | rule | reset value. -/
namespace Sys2Proof.Machine

/-- The fields of FRAME_DESC that are the same in each of a unit's descriptors (R105); POS and KIND stand in `GranDesc`. -/
structure UnitDesc where
  nsx : Nat
  unit : Nat
  dseq : Nat
  tag : Nat
  glen : Nat
  raw : Bool
  slot : Nat
  kgen : Bool
  deriving DecidableEq, Repr, Inhabited

/-- MAP_ENTRY (R127). -/
structure MapEntry where
  /-- MAP_ENTRY.GADDR | 39 | 06_map R127 | Kept; 0 -/
  gaddr : Nat := 0
  /-- MAP_ENTRY.GLEN | 4 | 06_map R127 | Kept; 0 -/
  glen : Nat := 0
  /-- MAP_ENTRY.RAW | 1 | 06_map R127 | Kept; 0 -/
  raw : Bool := false
  /-- MAP_ENTRY.UNC | 1 | 06_map R127 | Kept; 0 -/
  unc : Bool := false
  /-- MAP_ENTRY.SDP | 1 | 06_map R127 | Kept; 0 -/
  sdp : Bool := false
  /-- MAP_ENTRY.KGEN | 1 | 06_map R127 | Kept; 0 -/
  kgen : Bool := false
  deriving DecidableEq, Repr, Inhabited

/-- JRNL_REC (R153): an index within the segment and the new map entry or tag record; the pad records stand for themselves. -/
inductive JrnlRec where
  | entry (index : Nat) (value : MapEntry)
  | tag (index value : Nat)
  deriving DecidableEq, Repr, Inhabited

/-- SEG_DESC (R156). -/
structure SegDesc where
  /-- SEG_DESC.NSX | 10 | 06_map R156 | Kept -/
  nsx : Nat := 0
  /-- SEG_DESC.KIND, 1 tag segment | 1 | 06_map R156 | Kept -/
  tagKind : Bool := false
  /-- SEG_DESC.ALLOC | 1 | 06_map R156 | Kept -/
  alloc : Bool := false
  /-- SEG_DESC.RESTORED | 1 | 06_map R156 | 0 -/
  restored : Bool := false
  /-- SEG_DESC.CKPT_BUSY | 1 | 06_map R156 | 0 -/
  ckptBusy : Bool := false
  /-- SEG_DESC.DIR_POS | 32 | 06_map R156 | Kept -/
  dirPos : Nat := 0
  /-- SEG_DESC.MAPPED | 20 | 06_map R156 | Kept -/
  mapped : Nat := 0
  /-- SEG_DESC.CKPT_RUN | 32 | 06_map R156 | Kept -/
  ckptRun : Nat := 0
  /-- SEG_DESC.NEXT_RUN | 32 | 06_map R156 | Kept -/
  nextRun : Nat := 0
  /-- SEG_DESC.CKPT_UNITS, addresses of the checkpoint's units | 22 x 40 | 06_map R156 | Kept -/
  ckptUnits : List Nat := []
  /-- SEG_DESC.RUN_ADDR with each run's RUN_SEQ, oldest first, its address once placed; RUNS is its length | 127 x 40 | 06_map R156 | Kept -/
  runs : List (Nat × Option Nat) := []
  /-- SEG_DESC.BUFFERED | 20 | 06_map R156 | 0 -/
  buffered : Nat := 0
  /-- addresses of the checkpoint being written by unit, those of its units durable, and its CKPT_RUN | 22 x 40 + 22 + 32 | 06_map R155 | none -/
  ckptNew : Table Nat := []
  ckptSafe : List Nat := []
  ckptNext : Nat := 0
  /-- staging run: records in order and the WT of the oldest | 2 KiB | 06_map R154 | empty -/
  staging : List JrnlRec := []
  stagingWt : Nat := 0
  deriving DecidableEq, Repr, Inhabited

/-- A secure-discard job, SD_JOB (R152), with its ranges (first unit, units) and its scan set. -/
structure SdJob where
  /-- SD_JOB.JOB | 4 | 06_map R152 | 0 -/
  job : Nat := 0
  /-- SD_JOB.STATE | 3 | 06_map R152 | Kept; 0 -/
  state : Nat := 0
  /-- SD_JOB.NSX | 10 | 06_map R152 | Kept; 0 -/
  nsx : Nat := 0
  /-- SD_JOB.SERIAL | 16 | 06_map R152 | Kept; 0 -/
  serial : Nat := 0
  /-- SD_JOB.RANGES and the ranges | 256 | 06_map R152 | Kept; none -/
  ranges : List (Nat × Nat) := []
  /-- SD_JOB.START_WT | 64 | 06_map R152 | Kept; 0 -/
  startWt : Nat := 0
  /-- SD_JOB.END_WT | 64 | 06_map R152 | Kept; 0 -/
  endWt : Nat := 0
  /-- SD_JOB.SCAN_SET: blocks of the scan set still to scan and their count at the start | 32 | 06_map R152 | 0 -/
  toScan : List Nat := []
  scanSet : Nat := 0
  /-- SD_JOB.SCANNED | 32 | 06_map R152 | 0 -/
  scanned : Nat := 0
  /-- SD_JOB.MARKED: marked blocks not yet erased, and their count | 32 | 06_map R152 | 0 -/
  markedLeft : List Nat := []
  marked : Nat := 0
  /-- SD_JOB.ERASED | 32 | 06_map R152 | 0 -/
  erased : Nat := 0
  /-- SD_JOB.OPEN_WAIT: blocks of the set still open | 32 | 06_map R152 | 0 -/
  openWait : List Nat := []
  /-- SD_JOB.RESIDUE | 32 | 06_map R152 | 0 -/
  residue : Nat := 0
  deriving DecidableEq, Repr, Inhabited

/-- Root records (R158). -/
inductive RootRec where
  | runWritten (seg seq addr : Nat)
  | ckptUnit (seg i addr : Nat)
  | ckptDone (seg ckptRun : Nat)
  | segAlloc (seg nsx : Nat) (tagKind : Bool) (dirPos : Nat)
  | segReturn (seg : Nat)
  | dirEntry (nsx : Nat) (tagKind : Bool) (pos : Nat) (seg : Option Nat)
  | jobOpened (job : SdJob)
  | jobState (job state endWt : Nat)
  /-- a block summary's frame (kind 2), a snapshot frame (3, 5, 6) or a root journal frame (4) has moved (R159) -/
  | renamed (kind index addr : Nat)
  deriving DecidableEq, Repr, Inhabited

/-- What one frame of a root snapshot covers: segments 4 f to 4 f + 3, directory entries of 1,024 keys, the job table, the ranges of a job, 64
voltage groups, or 1,024 wear entries (R158). -/
inductive SnapPart where
  | segs (f : Nat)
  | dirs (f : Nat)
  | jobs
  | ranges (job : Nat)
  | vt (f : Nat)
  | wear (f : Nat)
  deriving DecidableEq, Repr, Inhabited

/-- What frames of a snapshot hold, as copied. -/
structure SnapData where
  segs : Table SegDesc := []
  dirs : Table Nat := []
  jobs : List SdJob := []
  vt : Table VtGroup := []
  wear : Table (Nat × Nat × Bool × Bool) := []
  deriving DecidableEq, Repr, Inhabited

/-- Data that placement puts into a girth: a buffered host unit, a copy, or stream 6 content. -/
inductive Payload where
  /-- the host unit in buffer slot `gran`, as programmed -/
  | buffered (gran : Nat) (desc : UnitDesc) (tag : Nat) (data : List Byte)
  /-- a copy of the run at `source`, with its descriptor, ciphertext and tag record; `fold` new writes of a rekey take R307 -/
  | copy (source : Nat) (desc : UnitDesc) (tag : Nat) (entry : MapEntry) (data : List Byte)
  /-- a journal run of a segment -/
  | run (seg seq : Nat) (recs : List JrnlRec)
  /-- one of the 22 units of a checkpoint; its map blocks are copied when it is placed (R155) -/
  | ckpt (seg i ckptRun : Nat) (entries : Table MapEntry) (tags : Table Nat)
  /-- a block summary, with WT at the block's close -/
  | summary (block frame : Nat) (units : List (Nat × Nat × Nat)) (wt : Nat)
  /-- a root journal frame: records, the previous frame's address and the root epoch -/
  | root (number : Nat) (recs : List RootRec) (prev : Option Nat) (epoch : Nat)
  /-- frame `index` of a snapshot, of kind 3 root, 5 voltage table, 6 wear table (R157); its content is copied when it is placed (R158) -/
  | snapFrame (epoch kind index : Nat) (part : SnapPart) (data : SnapData)
  /-- a root snapshot's index frame: the kind and index of its frames (`base`: the first root journal frame after it) -/
  | snapshot (epoch base : Nat) (frames : List (Nat × Nat))
  /-- a copy of stream 6 content from `source` (R159) -/
  | moved (source : Nat) (content : Payload)
  /-- bytes 0 to 4,287 of one frame of a P (false) or Q (true) member, as a number whose bit 0 is bit 0 of byte 0 (R107, R187) -/
  | parity (q : Bool) (info : Nat)
  deriving DecidableEq, Repr, Inhabited

/-- A payload placed at a granule address. -/
structure Placed where
  gaddr : Nat
  glen : Nat
  pos : Nat
  payload : Payload
  deriving DecidableEq, Repr, Inhabited

/-- The map. -/
structure MapState where
  /-- map entries in DRAM, by segment × 2^20 + index; an unlisted entry is 0 | 48 each | 06_map R127 | Kept through R229 -/
  entries : Table MapEntry := []
  /-- tag records in DRAM, by segment × 2^20 + index; an unlisted record is 0 | 64 each | 06_map R141 | Kept through R229 -/
  tags : Table Nat := []
  /-- map blocks whose CRC fails, by segment × 2^16 + block | list | 06_map R129 | none -/
  badBlocks : List Nat := []
  /-- SEG_DESC table; an unlisted segment is free | 1 KiB each | 06_map R156 | Kept through R229 -/
  segs : Table SegDesc := []
  /-- namespace and tag directories, by (NSX × 2 + kind) × 2^20 + position | 32 each | 06_map R131 | Kept through R229; none -/
  dirs : Table Nat := []
  /-- free-segment FIFO: returned segments, and the next segment never taken | list | 06_map R132 | the whole pool -/
  freeSegs : List Nat := []
  nextSeg : Nat := 0
  /-- segments of the pool | 17 | 06_map R160 | 0 until step 5 of R418 -/
  poolSize : Nat := 0
  /-- write-buffer index, by bucket × 8 + place: NSX, UNIT, BUF_GRAN, GLEN | 2^26 x 128 | 06_map R134 | VALID 0 -/
  wbi : Table (Nat × Nat × Nat × Nat) := []
  /-- secure-discard jobs | 16 | 06_map R152 | free -/
  jobs : List SdJob := []
  /-- serial of the next secure-discard job | 16 | 06_map R152 | Kept; 0 -/
  nextSerial : Nat := 0
  /-- root staging frame | 4 KiB | 06_map R158 | empty -/
  rootStaging : List RootRec := []
  rootStagingWt : Nat := 0
  /-- root frame number and address of the last root journal frame | 38 + 40 | 06_map R157 | Kept; none -/
  rootFrames : Nat := 0
  rootLast : Option Nat := none
  /-- root records since the last snapshot | 21 | 06_map R158 | 0 -/
  rootSince : Nat := 0
  /-- local round of the last snapshot, and root epoch | 64 + 48 | 06_map R158 | 0 -/
  snapRound : Nat := 0
  epoch : Nat := 0
  /-- code 0x0603 has been left in this round | 1 | 06_map R132 | 0 -/
  poolTold : Bool := false
  /-- fullness of R145 in units of 2^-16, and the fast-cell target in 0.01 % as an exact fraction | 17 + 14 | 06_map R145 | 0, 600 -/
  fullness : Nat := 0
  fcTarget : Nat := 600
  fcTargetDiv : Nat := 1
  /-- FDP enabled in the endurance group (feature 0x1D) | 1 | 06_map R144 | 0 (log 7) -/
  fdp : Bool := false
  /-- runs asked for under the third or fourth trigger whose girths are to close, by segment and RUN_SEQ | list | 06_map R154, 08_girths R184 | none -/
  awaitedRuns : List (Nat × Nat) := []
  /-- runs of closed girths whose map changes wait for a restore or for room in the journal chain, in close order | list | 06_map R155, 09_write_buffer_and_power_loss R235 | none -/
  closing : List Placed := []
  /-- root journal frames and snapshot frames that the root names: number or frame index and address | list | 06_map R158, R159 | none -/
  rootChain : Table Nat := []
  snapFrames : Table Nat := []
  /-- a snapshot being written: frames durable, frames left, root journal frames written before it | list + 32 + 38 | 06_map R158 | none -/
  snapNew : Table Nat := []
  snapLeft : Nat := 0
  snapRoot : Nat := 0
  /-- units whose entry is to lose SDP (0), or to be set UNC (granules of the lost copy), once their segments may take the change, in order | list | 06_map R155 | none -/
  marks : List (Nat × Nat × Nat) := []
  /-- segments whose checkpoint is to be written anew once the present one is durable | list | 08_girths R202 | none -/
  ckptAgain : List Nat := []
  /-- segments being restored: on demand, and the one of the background restore | list + 17 | 09_write_buffer_and_power_loss R234 | none -/
  onDemand : List Nat := []
  background : Option Nat := none
  /-- the background restore has not yet ended | 1 | 09_write_buffer_and_power_loss R234 | 0 -/
  restoring : Bool := false
  deriving DecidableEq, Repr, Inhabited

/-- Block states (R162). -/
inductive BlockMode where
  | free
  | opened
  | closed
  | victim
  | eraseWait
  | suspect
  | retired
  | held
  deriving DecidableEq, Repr, Inhabited

/-- BLOCK_REC (R161). The list links VC_NEXT, VC_PREV, EC_NEXT and EC_PREV stand as the lists themselves. -/
structure BlockRec where
  /-- BLOCK_REC.STATE | 3 | 07_reclaim_and_wear R161 | Kept; FREE -/
  mode : BlockMode := .free
  /-- BLOCK_REC.FC | 1 | 07_reclaim_and_wear R161 | Kept; 0 -/
  fc : Bool := false
  /-- BLOCK_REC.STREAM | 3 | 07_reclaim_and_wear R161 | Kept; 0 -/
  stream : Nat := 0
  /-- BLOCK_REC.SD_MARK | 1 | 07_reclaim_and_wear R161 | Kept; 0 -/
  sdMark : Bool := false
  /-- BLOCK_REC.ERASE_COUNT | 20 | 07_reclaim_and_wear R161 | Kept; 0 -/
  eraseCount : Nat := 0
  /-- BLOCK_REC.UNREAD_CYCLES | 2 | 07_reclaim_and_wear R161 | Kept; 0 -/
  unreadCycles : Nat := 0
  /-- BLOCK_REC.UNREAD_THIS | 1 | 07_reclaim_and_wear R161 | Kept; 0 -/
  unreadThis : Bool := false
  /-- BLOCK_REC.VALID_GRAN | 16 | 07_reclaim_and_wear R161 | Kept; 0 -/
  valid : Nat := 0
  /-- BLOCK_REC.FORCED | 3 | 07_reclaim_and_wear R161 | Kept; 0 -/
  forced : Nat := 0
  /-- BLOCK_REC.SUMMARY: the summary has been written to stream 6 | 40 | 07_reclaim_and_wear R161 | Kept; 0 -/
  summary : Option Nat := none
  /-- addresses of the summary's frames | 48 x 39 | 06_map R146 | none -/
  summaryAt : Table Nat := []
  /-- the block's summary: NSX, unit and granule offset of each unit, in write order | 48 frames | 06_map R146 | empty -/
  units : List (Nat × Nat × Nat) := []
  /-- BLOCK_REC.INFLIGHT | 16 | 07_reclaim_and_wear R161 | 0 -/
  inflight : Nat := 0
  /-- BLOCK_REC.FLUSH_WAIT: journal runs awaited, by segment and RUN_SEQ | 16 | 07_reclaim_and_wear R161 | 0 -/
  flushWait : List (Nat × Nat) := []
  /-- BLOCK_REC.OPEN_WT | 48 | 07_reclaim_and_wear R161 | Kept; 0 -/
  openWt : Nat := 0
  /-- BLOCK_REC.CLOSE_WT | 48 | 07_reclaim_and_wear R161 | Kept; 0 -/
  closeWt : Nat := 0
  /-- the erase wanted is in fast-cell mode; it returns the block to HELD; it follows a failed program | 3 | 07_reclaim_and_wear R164, R173, 09 R230 | 0 -/
  wantFc : Bool := false
  toHeld : Bool := false
  progFailed : Bool := false
  /-- its erase intent is written; its summary has been walked since restart | 2 | 07_reclaim_and_wear R171, 09 R235 | 0 -/
  intent : Bool := false
  walked : Bool := false
  /-- word lines programmed | 16 | 05_frames_and_ldpc R123 | 0 -/
  programmed : Nat := 0
  deriving DecidableEq, Repr, Inhabited

/-- One die's lists (R163, R166). -/
structure DieLists where
  /-- 64 normal-mode free lists by erase-count bucket | lists | 07_reclaim_and_wear R163 | rebuilt; block numbers never used stand at the head of list 0 -/
  normal : Table (List Nat) := []
  /-- lowest block number never used | 16 | 07_reclaim_and_wear R163 | 0 (log 17) -/
  fresh : Nat := 0
  /-- fast-cell free list | list | 07_reclaim_and_wear R163 | empty -/
  fastCell : List Nat := []
  /-- 64 closed lists by erase-count bucket | lists | 07_reclaim_and_wear R166 | empty -/
  closed : Table (List Nat) := []
  /-- a wear victim waits or is evacuated | 1 | 07_reclaim_and_wear R166 | none -/
  wear : Option Nat := none
  deriving DecidableEq, Repr, Inhabited

/-- Reclaim and wear. -/
structure BlkState where
  /-- BLOCK_REC by BLK_ID; an unlisted record is of a block never used | 64 B each | 07_reclaim_and_wear R161 | Kept through R229 -/
  recs : Table BlockRec := []
  /-- the lists of each die | 1,024 | 07_reclaim_and_wear R163 | rebuilt -/
  dies : Table DieLists := []
  /-- valid-count lists, by stream × 64 + bucket | lists | 07_reclaim_and_wear R167 | empty -/
  vc : Table (List Nat) := []
  /-- forced lists 1 SUSPECT, 2 refresh, 3 secure discard, 4 fold, 5 wear | lists | 07_reclaim_and_wear R168 | empty -/
  forced : Table (List Nat) := []
  /-- victims being evacuated, and those of the rebuild or reshape list | 255 | 07_reclaim_and_wear R169, 08 R202 | none -/
  active : List Nat := []
  /-- FREE in 0.01 % and BAND | 14 + 3 | 07_reclaim_and_wear R172 | 0 -/
  freePct : Nat := 0
  band : Nat := 0
  /-- AVAIL | 7 | 07_reclaim_and_wear R175 | 100 -/
  avail : Nat := 100
  /-- U0 of the option area | 32 | 07_reclaim_and_wear R175 | Kept; none before the first start -/
  u0 : Option Nat := none
  /-- Critical Warning bit 0 | 1 | 07_reclaim_and_wear R176 | 0 -/
  spareLow : Bool := false
  /-- Critical Warning bit 3, AVAIL 0 | 1 | 07_reclaim_and_wear R176 | 0 -/
  readOnly : Bool := false
  deriving DecidableEq, Repr, Inhabited

/-- SET_REC (R188). -/
structure SetRec where
  /-- SET_REC.STREAM | 3 | 08_girths R188 | Kept -/
  stream : Nat := 0
  /-- SET_REC.FC | 1 | 08_girths R188 | Kept -/
  fc : Bool := false
  /-- SET_REC.W | 5 | 08_girths R188 | Kept -/
  w : Nat := 0
  /-- SET_REC.STATE | 3 | 08_girths R188 | Kept; 0 -/
  state : Nat := 0
  /-- SET_REC.END_REASON | 4 | 08_girths R188 | Kept -/
  endReason : Nat := 0
  /-- SET_REC.NEXT_WL | 16 | 08_girths R188 | Kept -/
  nextWl : Nat := 0
  /-- SET_REC.LAST_ABSENT | 32 | 08_girths R188 | Kept -/
  lastAbsent : List Nat := []
  /-- SET_REC.MEMBER, BLK_IDs by position | 32 x 32 | 08_girths R188 | Kept -/
  member : List Nat := []
  /-- SET_REC.ABS_WL, first lost word line by position; an unlisted position is 0xFFFF | 32 x 16 | 08_girths R188 | Kept; none -/
  absWl : Table Nat := []
  deriving DecidableEq, Repr, Inhabited

/-- Ledger entries (R192). -/
inductive LedgerEntry where
  | setOpen (set : Nat) (rec : SetRec)
  | girthClose (set wl : Nat) (absent : List Nat) (empty : Nat)
  | setEnd (set reason : Nat)
  | setReleased (set : Nat)
  | memberLost (set pos wl : Nat)
  | eraseIntent (block : Nat) (fc : Bool)
  | eraseDone (block count cycles : Nat)
  | dieIsolated (die cause wt : Nat)
  | rootPtr (kind addr : Nat)
  | layout (wOld wNew reason phase : Nat)
  | setRefresh (set : Nat) (rec : SetRec)
  | cycleBegin (cycle : Nat)
  | link (copyA copyB : Nat)
  | blockRetired (block reason : Nat)
  deriving DecidableEq, Repr, Inhabited

/-- A ledger page: its first LSEQ, the pair and page it was written to, entries of frames 0 to 7 and of frames 8 to 15, and which copies decode. -/
structure LedgerPage where
  seq : Nat
  copyA : Nat
  copyB : Nat
  page : Nat
  wt : Nat
  entries : List LedgerEntry
  refresh : List LedgerEntry
  /-- each copy's program has succeeded -/
  okA : Bool := true
  okB : Bool := true
  deriving DecidableEq, Repr, Inhabited

/-- What a data or parity member of a girth has come to. -/
inductive MemberMode where
  | waiting
  | queued
  | done
  | failed
  deriving DecidableEq, Repr, Inhabited

/-- A girth filling or waiting for its close (R183 to R185). -/
structure Girth where
  stream : Nat
  set : Nat
  wl : Nat
  w : Nat
  fc : Bool
  /-- fill cursor: page unit, data member, granule within the page -/
  pageUnit : Nat
  mem : Nat
  gran : Nat
  /-- data members taken whole by a checkpoint unit -/
  whole : List Nat
  placed : List Placed
  oldestWt : Option Nat
  closing : Bool
  awaited : Bool
  members : List MemberMode
  /-- P and Q have been queued; the GIRTH_CLOSE entry has been appended, in this ledger page -/
  parity : Bool
  closeSeq : Option Nat
  empty : Nat
  /-- P and Q accumulated over bytes 0 to 4,287 of each frame of a member unit (R185) -/
  acc : Table (Nat × Nat) := []
  deriving DecidableEq, Repr, Inhabited

/-- One placement stream (R143). -/
structure Stream where
  /-- payloads waiting to be placed | list | 06_map R143, 03_stitch_plans R59 | empty -/
  list : List Payload := []
  /-- the girth filling | 1 | 06_map R143 | none -/
  filling : Option Nat := none
  /-- the block set filling | 1 | 08_girths R180 | none -/
  set : Option Nat := none
  /-- next word line of that set to open a girth in | 16 | 08_girths R180 | 0 -/
  nextWl : Nat := 0
  /-- the set being opened waits for this die at the floor, with the members already taken and its mode | 10 | 07_reclaim_and_wear R165 | none -/
  floorDie : Option Nat := none
  taken : List Nat := []
  takingFc : Bool := false
  takingW : Nat := 0
  takingNo : Nat := 0
  /-- girths that stopped filling and whose close is not durable | 16 | 08_girths R184 | none -/
  inflight : List Nat := []
  /-- write-buffer chunk filling and its next granule | 13 + 12 | 09_write_buffer_and_power_loss R210 | none -/
  chunk : Option (Nat × Nat) := none
  deriving DecidableEq, Repr, Inhabited

/-- A degraded read being reconstructed (R198). -/
structure Recon where
  /-- the read it answers and whether it is a host's -/
  req : ReadReq
  die : Nat
  set : Nat
  wl : Nat
  /-- unknown positions, positions still to decode, and whether Q has been asked for -/
  unknown : List Nat
  toRead : List Nat
  askedQ : Bool
  /-- it holds one of the 8 reconstruction engines -/
  engine : Bool
  deriving DecidableEq, Repr, Inhabited

/-- The girth engine. -/
structure GirthState where
  /-- SET_REC by SET_ID | 256 B each | 08_girths R188 | Kept through R229 -/
  sets : Table SetRec := []
  /-- SET_OF by BLK_ID | 32 each | 08_girths R188 | Kept through R229 -/
  setOf : Table Nat := []
  /-- free-record FIFO and the next SET_ID never used | list | 08_girths R188 | all free -/
  freeSets : List Nat := []
  nextSet : Nat := 0
  /-- girths filling or closing, by the model's number | table | 08_girths R183 | none -/
  girths : Table Girth := []
  nextGirth : Nat := 0
  /-- streams 0 to 7 | 8 | 06_map R143 | none open -/
  streams : List Stream := List.replicate 8 {}
  /-- sets opened since the last layout switch | 32 | 08_girths R181 | 0 -/
  opened : Nat := 0
  /-- W in force, W of the last LAYOUT entry | 5 | 08_girths R203 | Image / Kept; 30 -/
  w : Nat := 30
  /-- a layout switch is due at the next round boundary, to W_T with its reason | 5 + 2 | 08_girths R203 | none -/
  switch : Option (Nat × Nat) := none
  /-- no set can open (N below 8) | 1 | 08_girths R205 | 0 -/
  noSets : Bool := false
  /-- rebuild list in order: set and row of R201; a new ledger pair is due (row 1) | list | 08_girths R201 | empty -/
  rebuild : List (Nat × Nat) := []
  ledgerLost : Bool := false
  /-- reshape list | list | 08_girths R204 | empty -/
  reshape : List Nat := []
  /-- sets in evacuation by rebuild, and by reshape | 255 each | 08_girths R202, R204 | none -/
  rebuilding : List Nat := []
  reshaping : List Nat := []
  /-- RB | 1 | 08_girths R197 | 0 -/
  rb : Bool := false
  /-- GIRTH_HEALTH.UNC_UNITS | 32 | 08_girths R206 | 0 -/
  uncUnits : Nat := 0
  /-- GIRTH_HEALTH.DEGRADED_READS | 32 | 08_girths R206 | 0 -/
  degradedReads : Nat := 0
  /-- degraded reads being reconstructed, by the read's identifier | 8 engines | 08_girths R198 | none -/
  recons : Table Recon := []
  /-- ledger entries appended and not yet in a page, and the WT at which each was appended | 8 frames | 08_girths R193 | empty -/
  ledgerNew : List LedgerEntry := []
  ledgerWts : List Nat := []
  /-- ledger pages being programmed, with the copies that have ended | list | 08_girths R193 | none -/
  ledgerBusy : List (LedgerPage × Option Bool × Option Bool) := []
  /-- ledger pages whose programs have ended since the last release, with their copies that programmed | list | 08_girths R195 | Kept; none -/
  ledgerPages : List LedgerPage := []
  /-- GIRTH_HEALTH.LSEQ | 48 | 08_girths R206 | Kept; 0 -/
  lseq : Nat := 0
  /-- current pair: copy A, copy B (BLK_IDs) and next page | 26 + 26 + 16 | 08_girths R190, R206 | Kept; none -/
  pair : Option (Nat × Nat × Nat) := none
  /-- old pairs, with their last page, that take a LINK once page 0 of the next pair has programmed | list | 08_girths R195, R207 | none -/
  linkDue : List (Nat × Nat × Nat) := []
  /-- blocks of ledger pairs not yet released, oldest first: copy A, copy B | list | 08_girths R195 | Kept; none -/
  ledgerBlocks : List (Nat × Nat) := []
  /-- pairs opened | 48 | 08_girths R190 | Kept; 0 -/
  pairs : Nat := 0
  /-- GIRTH_HEALTH.CYCLE and the refresh cursor (next SET_ID), when a cycle runs | 48 | 08_girths R194, R206 | Kept; 0 -/
  cycle : Nat := 0
  refreshAt : Option Nat := none
  /-- pair and page of the CYCLE_BEGIN of this cycle and of the last one | 68 | 08_girths R195 | Kept; none -/
  cycleAt : Option (Nat × Nat × Nat) := none
  lastCycleAt : Option (Nat × Nat × Nat) := none
  /-- blocks whose erase intent has no erase done, blocks retired since the last snapshot | lists | 08_girths R194 | none -/
  intents : List (Nat × Bool) := []
  retiredSince : List (Nat × Nat) := []
  /-- latest ROOT_PTR of each kind and last LAYOUT | 40 + 40 + 20 | 08_girths R194 | none -/
  rootPtr : List (Nat × Nat) := []
  lastLayout : Option (Nat × Nat × Nat × Nat) := none
  /-- pages or LSEQ that a waiter needs durable | list | 08_girths R193 | none -/
  waiters : Nat := 0
  deriving DecidableEq, Repr, Inhabited

/-- A write-buffer slot: WB_HDR.DESC and TAGS, its ciphertext, and reads in progress from it (R209, R136). -/
structure WbSlot where
  /-- WB_HDR.DESC | 192 | 09_write_buffer_and_power_loss R209 | 0 -/
  desc : UnitDesc
  /-- WB_HDR.TAGS | 64 | 09_write_buffer_and_power_loss R209 | 0 -/
  tags : Nat
  data : List Byte
  readers : Nat
  deriving DecidableEq, Repr, Inhabited

/-- Write buffer and dirty window. -/
structure WbState where
  /-- occupied slots by first granule | 31,457,280 granules | 09_write_buffer_and_power_loss R209 | none -/
  slots : Table WbSlot := []
  /-- free-chunk FIFO: returned chunks, and the next chunk never used | list | 09_write_buffer_and_power_loss R210 | all chunks -/
  freeChunks : List Nat := []
  nextChunk : Nat := 0
  /-- chunks left by their stream and not yet returned | list | 09_write_buffer_and_power_loss R210 | none -/
  leftChunks : List Nat := []
  /-- DIRTY_WIN.DW_MIB | 16 | 09_write_buffer_and_power_loss R212 | Image; bareback 512 -/
  dwMib : Nat := 512
  /-- DIRTY_WIN.EFF_MIB | 16 | 09_write_buffer_and_power_loss R212 | 0 -/
  effMib : Nat := 0
  /-- DIRTY_WIN.DIRTY_GRAN | 32 | 09_write_buffer_and_power_loss R212 | 0 -/
  dirty : Nat := 0
  /-- DIRTY_WIN.E_AVAIL in mJ | 32 | 09_write_buffer_and_power_loss R212 | 0 -/
  eAvail : Nat := 0
  /-- DIRTY_WIN.E_NEED in mJ | 32 | 09_write_buffer_and_power_loss R212 | 0 -/
  eNeed : Nat := 0
  /-- DIRTY_WIN.BACKUP_FAIL | 1 | 09_write_buffer_and_power_loss R212 | 0 -/
  backupFail : Bool := false
  /-- HOLDUP_SENSE sample | 12 | 09_write_buffer_and_power_loss R213 | 0 -/
  sense : Nat := 0
  /-- consecutive teeth of E_NEED above E_AVAIL, of EFF_MIB 0, and of E_AVAIL covering a 64 MiB window | 17 + 17 + 17 | 09_write_buffer_and_power_loss R216 | 0 -/
  shortTeeth : Nat := 0
  zeroTeeth : Nat := 0
  coverTeeth : Nat := 0
  /-- causes of Critical Warning bit 4 besides BACKUP_FAIL: a partial dump, a restart without a dump | 2 | 09_write_buffer_and_power_loss R216 | Kept; 0 -/
  warnPartial : Bool := false
  warnNoDump : Bool := false
  deriving DecidableEq, Repr, Inhabited

/-- What a dump saves, from which its frames follow (R221, R223). -/
structure DumpImage where
  /-- DUMP_HDR: SERIAL, CAUSE, SET, WT, W_D, CH_MASK -/
  serial : Nat
  cause : Nat
  set : Nat
  wt : Nat
  wd : Nat
  chMask : Nat
  /-- populated dies, blocks of each, and the wear table -/
  dies : List Nat
  blocks : Nat
  wear : Table (Nat × Nat × Bool × Bool)
  /-- journal staging runs, and stream 6 content of girths not closed -/
  runs : List (Nat × Nat × List JrnlRec)
  metaFrames : List Payload
  /-- the root staging frame with its number, the frame before it and the root epoch -/
  root : List RootRec
  rootNo : Nat
  rootPrev : Option Nat
  epoch : Nat
  /-- the ledger staging page with its LSEQ, and the pages not durable on both copies -/
  ledger : List LedgerEntry
  lseq : Nat
  ledgerPages : List LedgerPage
  saddlebag : List SbRec
  /-- index and data: slots in index order -/
  units : List WbSlot
  deriving DecidableEq, Repr, Inhabited

/-- A running dump. -/
structure DumpRun where
  /-- dump cause: 0 power loss, 1 shutdown or boundary scan, 2 thermal trip, 3 fault stop | 2 | 09_write_buffer_and_power_loss R218 -/
  cause : Nat
  serial : Nat
  set : Nat
  image : DumpImage
  girths : Nat
  wd : Nat
  /-- units whose program has ended, and those that failed: girth and member -/
  ended : List (Nat × Nat)
  lost : List (Nat × Nat)
  /-- row of the dump plan -/
  row : Nat
  boundaryScan : Bool
  deriving DecidableEq, Repr, Inhabited

/-- Power loss, dump and restart. -/
structure DumpState where
  /-- the running dump | 1 | 09_write_buffer_and_power_loss R218 | none -/
  run : Option DumpRun := none
  /-- a dump has run since the last restart | 1 | 09_write_buffer_and_power_loss R218 | 0 -/
  since : Bool := false
  /-- the last dump has ended, with its cause | 2 | 09_write_buffer_and_power_loss R226 | none -/
  ended : Option Nat := none
  /-- dump image in flash | hold set | 09_write_buffer_and_power_loss R221 | Kept; none -/
  image : Option DumpImage := none
  /-- members lost of the dump in flash | list | 09_write_buffer_and_power_loss R227 | Kept; none -/
  lost : List (Nat × Nat) := []
  /-- NSX and unit of each unit of the last dump in each hold set (0 A, 1 B) | hold sets | 06_map R150 | Kept; none -/
  dumped : Table (List (Nat × Nat)) := []
  /-- hold blocks of sets A and B | lists of BLK_ID | 09_write_buffer_and_power_loss R220 | Kept; none -/
  holdA : List Nat := []
  holdB : List Nat := []
  /-- active hold set, B when true; none before step 7 of R229 | 1 | 09_write_buffer_and_power_loss R220 | none -/
  active : Option Bool := none
  /-- hold-list version, dump serial | 32 + 32 | 09_write_buffer_and_power_loss R225 | Kept; 0 -/
  holdSerial : Nat := 0
  serial : Nat := 0
  /-- PWRFAIL_N is low and its filter runs; it is high again and the release filter runs | 2 | 09_write_buffer_and_power_loss R218, R226 | 0 -/
  filterLow : Bool := false
  filterHigh : Bool := false
  /-- holds of the main domain at a dump's end: PWRFAIL_N, thermal trip, fault stop, boundary scan, shutdown | 5 | 09_write_buffer_and_power_loss R226 | none -/
  holds : List Nat := []
  /-- the main domain is held in reset | 1 | 09_write_buffer_and_power_loss R226 | 0 -/
  inReset : Bool := false
  /-- restart step of R229 running (0 none, 10 ended) | 4 | 09_write_buffer_and_power_loss R229 | 0 -/
  step : Nat := 0
  /-- restart case of R228 | 3 | 09_write_buffer_and_power_loss R228 | 0 -/
  case : Nat := 0
  /-- what step 8 of R229 has still to make durable before the dump is consumed | list | 09_write_buffer_and_power_loss R230 | none -/
  toConsume : Bool := false
  consumeRuns : List (Nat × Nat) := []
  consumeRoot : Option Nat := none
  consumeLedger : List LedgerEntry := []
  /-- a new hold list is due once its blocks are HELD; the set that a HOLD record is to name; that record is durable | 1 + 2 + 1 | 09_write_buffer_and_power_loss R220, R229 | none -/
  holdDue : Bool := false
  holdTarget : Option Bool := none
  holdSafe : Bool := false
  /-- what step 3 of R229 found of the dump: parts 1 to 7, and index entries whose granules are lost | 1 + list | 09_write_buffer_and_power_loss R231 | 0 -/
  partsOk : Bool := false
  unitsOk : Bool := false
  lostSlots : List Nat := []
  /-- a shutdown dump stands from which CC.EN restarts | 1 | 09_write_buffer_and_power_loss R236 | 0 -/
  shutdown : Bool := false
  /-- a restart used a complete dump (a clean restart for write counters) | 1 | 12_cipher R303 | 0 -/
  clean : Bool := false
  deriving DecidableEq, Repr, Inhabited

/-- Flash contents: what the programmed granules hold, by the first granule of each run. -/
structure MediaState where
  /-- programmed runs of granules | flash | 05_frames_and_ldpc R103 | Kept; erased -/
  items : Table Payload := []
  /-- host units: their ciphertext stands in `items` as a copy payload | flash | 05_frames_and_ldpc R105 | Kept; erased -/
  tags : Table Nat := []
  deriving DecidableEq, Repr, Inhabited

end Sys2Proof.Machine
end

