-- ==== Sys2Proof/Machine/State/HostSide.lean ====
section
/-! DEFINITION. State of 10_reins and 11_commands: links, write authority, queues, the command table, features, logs and power
states. Each field's comment reads: name | width | rule | reset value. -/
namespace Sys2Proof.Machine

/-- TWIN_CFG, feature 0xC1 (R242). -/
structure TwinCfg where
  /-- TWIN_CFG.MODE | 2 | 10_reins R242 | Image, bareback 0 -/
  mode : Nat := 0
  /-- TWIN_CFG.MODE_IN_FORCE | 2 | 10_reins R242 | from MODE -/
  inForce : Nat := 0
  /-- TWIN_CFG.MERGED | 1 | 10_reins R242 | strap -/
  merged : Bool := false
  /-- TWIN_CFG.LEASE_ENFORCE | 1 | 10_reins R242 | Image, bareback 0 -/
  enforce : Bool := false
  /-- TWIN_CFG.LEASE_SLOT | 12 | 10_reins R242 | Image, bareback 0 -/
  slot : Nat := 0
  /-- TWIN_CFG.LAG_TEETH | 24 | 10_reins R242 | Image, bareback 50,000 -/
  lagTeeth : Nat := 50000
  /-- TWIN_CFG.LEASE_EPOCH | 64 | 10_reins R242 | Kept; 0 (log 3) -/
  epoch : Nat := 0
  deriving DecidableEq, Repr, Inhabited

/-- A tack lease (R257). -/
structure Lease where
  live : Bool
  startWt : Nat
  endWt : Nat
  epoch : Nat
  deriving DecidableEq, Repr, Inhabited

/-- An accepted lease packet whose completion is not yet posted (R257): its command, the WT and the live leases at acceptance, and whether the
completion has been posted since. -/
structure LeaseDue where
  tag : Nat
  pkt : BitVec 512
  wt : Nat
  liveA : Bool
  liveB : Bool
  posted : Bool
  deriving DecidableEq, Repr, Inhabited

/-- One rein: REIN_HEALTH (R254), its resets, keeper and lease. -/
structure ReinPort where
  /-- REIN_HEALTH.LINK | 3 | 10_reins R254 | 4 -/
  link : Nat := 4
  /-- REIN_HEALTH.RATE | 3 | 10_reins R254 | 0 -/
  rate : Nat := 0
  /-- REIN_HEALTH.WIDTH | 5 | 10_reins R254 | 0 -/
  width : Nat := 0
  /-- REIN_HEALTH.FLIT | 1 | 10_reins R254 | 0 -/
  flit : Bool := false
  /-- REIN_HEALTH.HEALTH | 2 | 10_reins R254 | 0 -/
  health : Nat := 0
  /-- REIN_HEALTH.SELFTEST | 3 | 10_reins R254 | 0 -/
  selftest : Nat := 0
  /-- REIN_HEALTH.LINK_DOWNS | 32 | 10_reins R254 | 0 -/
  linkDowns : Nat := 0
  /-- REIN_HEALTH.RECOVERIES | 32 | 10_reins R254 | 0 -/
  recoveries : Nat := 0
  /-- link recoveries of this local round, and of the last one | 16 + 16 | 10_reins R253 | 0 -/
  recRound : Nat := 0
  recLast : Nat := 0
  /-- REIN_HEALTH.REPLAYS | 32 | 10_reins R254 | 0 -/
  replays : Nat := 0
  /-- REIN_HEALTH.CORR_ERRORS | 32 | 10_reins R254 | 0 -/
  corrErrors : Nat := 0
  /-- REIN_HEALTH.UNCORR_ERRORS | 32 | 10_reins R254 | 0 -/
  uncorrErrors : Nat := 0
  /-- REIN_HEALTH.LAST_DOWN_WT | 48 | 10_reins R254 | 0 -/
  lastDownWt : Nat := 0
  /-- REIN_HEALTH.EYE_WIDTH in mUI | 16 x 8 | 10_reins R254 | 0 -/
  eyeWidth : List Nat := []
  /-- REIN_HEALTH.EYE_HEIGHT in mV | 16 x 8 | 10_reins R254 | 0 -/
  eyeHeight : List Nat := []
  /-- PERST is low | 1 | 10_reins R251 | 1 -/
  perst : Bool := true
  /-- PTM Enable of the host | 1 | 10_reins R238 | 0 (log 7) -/
  ptm : Bool := false
  /-- a PTM exchange has been started | 1 | 10_reins R238 | 0 -/
  ptmBusy : Bool := false
  /-- ASPM L1 permitted by the host | 1 | 16_thermal_and_power R387 | 0 (log 7) -/
  aspmL1 : Bool := false
  /-- VFs that the host has enabled through SR-IOV | 6 | 10_reins R237, R241 | 0 (log 7) -/
  vfs : Nat := 0
  /-- the tack lease held or granted | 225 | 10_reins R257 | none -/
  lease : Option Lease := none
  /-- the keeper filter is timing toward this level | 2 | 10_reins R258 | none -/
  keeperTiming : Option Bool := none
  /-- REIN_HEALTH.FENCED_KEEPER | 1 | 10_reins R254 | 0 -/
  fencedKeeper : Bool := false
  /-- REIN_HEALTH.FENCED_LEASE | 1 | 10_reins R254 | 0 -/
  fencedLease : Bool := false
  /-- HBEAT output level | 1 | 10_reins R261 | low -/
  hbeat : Bool := false
  /-- local round of the last rein self-test | 64 | 10_reins R252 | 0 -/
  testRound : Nat := 0
  deriving DecidableEq, Repr, Inhabited

/-- One side of a submission queue (R244): its completion queue, counts, and when its fetch point last advanced. -/
structure SqSide where
  attached : Bool
  tail : BitVec 32
  fetch : BitVec 32
  cq : Nat
  advanced : Nat
  deriving DecidableEq, Repr, Inhabited

/-- A submission queue: QSIZE, priority, execution point, sides, and the hashes recorded for positions (R244 to R246). -/
structure Sq where
  ctrl : Nat
  qid : Nat
  admin : Bool
  qsize : Nat
  prio : Nat
  exec : BitVec 32
  sideA : Option SqSide
  sideB : Option SqSide
  hashes : List (BitVec 32 × BitVec 64)
  deriving DecidableEq, Repr, Inhabited

/-- A completion entry as written: DW0, DW1, SQ head pointer, SQID, CID, status (SCT, SC, DNR); and beside it what the device has written to
the host's buffers for the command through this side's rein, which the host may read once the entry is there (R249; log 46). -/
structure CqEntry where
  dw0 : Nat
  dw1 : Nat
  sqHead : Nat
  sqid : Nat
  cid : Nat
  sct : Nat
  sc : Nat
  dnr : Bool
  data : List Byte := []
  deriving DecidableEq, Repr, Inhabited

/-- A completion queue (R273): the entries posted and not yet freed by the head doorbell, and the reservations that wait. -/
structure Cq where
  size : Nat
  head : Nat
  tail : Nat
  entries : List CqEntry
  /-- entries posted since the last head doorbell, not yet consumed -/
  used : Nat
  deriving DecidableEq, Repr, Inhabited

/-- A status with its DW0 and DW1. -/
structure CmdResult where
  sct : Nat
  sc : Nat
  dnr : Bool
  dw0 : Nat
  dw1 : Nat
  deriving DecidableEq, Repr, Inhabited

/-- A row of the command table (R271). -/
structure Cmd where
  /-- the submission queue's key, the VPOS and the controller -/
  sq : Nat
  pos : BitVec 32
  ctrl : Nat
  admin : Bool
  /-- the rein of the executing side, and the function -/
  port : Port
  /-- the submission entry -/
  entry : BitVec 512
  /-- its meaning has begun -/
  started : Bool
  /-- abort mark (R276) -/
  aborted : Bool
  /-- moved data or units run on without a completion (R249, R251) -/
  orphan : Bool
  /-- status proposed, and reserved under R273 -/
  result : Option CmdResult
  reserved : Bool
  /-- sides that owe a completion with their copies' CIDs -/
  owed : List (Rein × Nat)
  /-- unit jobs not yet ended -/
  units : List Nat
  /-- data fetched from the host for an engine, and data returned to the host -/
  input : List Byte
  out : List Byte
  /-- completion is held until PS 4 entry ends and EXLAT passes (R279) -/
  held : Bool
  deriving DecidableEq, Repr, Inhabited

/-- What a unit job does. -/
inductive UnitKind where
  | write
  | read
  | compare
  | verify
  | discard
  | copy
  deriving DecidableEq, Repr, Inhabited

/-- Where a unit job stands. -/
inductive UnitStage where
  /-- waits for the insertion of earlier writes to the unit before its merge read (R140) -/
  | mergeWait
  /-- waits for its segment's restore (R234), or for a segment or lookup -/
  | lookup
  /-- waits for its flash read, the ladder or the girth engine -/
  | flash
  /-- waits for the cipher engine: encryption, or check and decryption -/
  | cipher
  /-- waits for the skiver: compression, or decompression -/
  | skiver
  /-- waits in admission (R15, R135, R210) -/
  | admission
  deriving DecidableEq, Repr, Inhabited

/-- One 4 KiB unit of work of a command or of reclaim. -/
structure UnitJob where
  tag : Option Nat
  kind : UnitKind
  stage : UnitStage
  nsx : Nat
  unit : Nat
  /-- position of the unit's data in the command's data, and the LBAs it covers: first byte within the unit and bytes -/
  index : Nat
  first : Nat
  len : Nat
  /-- host data to store or compare; the merged unit; then what the skiver and the cipher made of it -/
  data : List Byte
  tagRec : Nat
  /-- the map entry met at lookup, or buffer slot read -/
  entry : MapEntry
  slot : Option Nat
  desc : UnitDesc
  stored : List Byte
  /-- destination stream and source block of a copy -/
  stream : Nat
  source : Nat
  /-- where its protection information goes in the data returned -/
  metaAt : Option Nat
  /-- the unit still has to be merged into its old content -/
  merge : Bool
  /-- flash has been read again at rung 3 after a keyed check failed (R301) -/
  rechecked : Bool
  /-- its wait for an entry of its bucket has been counted (R135) -/
  told : Bool := false
  /-- the zeros of a partly covered unit of a secure discard, whose SDP is set when the write gives the unit its segment (R149) -/
  secure : Bool := false
  deriving DecidableEq, Repr, Inhabited

/-- A namespace (R131, R139, R144, R262). -/
structure Namespace where
  /-- NSX | 10 | 06_map R127, 11_commands R262 | Kept; none -/
  nsx : Nat
  /-- NSZE in logical blocks | 64 | 06_map R131 | Kept -/
  nsze : Nat
  /-- FLBAS: format and extended metadata | 8 | 06_map R139 | Kept -/
  flbas : Nat
  /-- protection information type | 2 | 06_map R139 | Kept -/
  piType : Nat
  /-- placement handle list | 4 | 06_map R144 | Kept -/
  handles : List Nat
  /-- controllers attached | 128 | 11_commands R262 | Kept -/
  attached : List Nat
  /-- CIPHER_NS.SLOT | 13 | 12_cipher R292 | Kept; NSX -/
  slot : Nat
  /-- CIPHER_NS.PAD_MODE | 1 | 12_cipher R292 | Kept; 0 -/
  padMode : Nat
  deriving DecidableEq, Repr, Inhabited

/-- A controller's registers that this manual names (R236, R250, R283). -/
structure Ctrl where
  /-- CC.EN of rein A and of rein B | 1 + 1 | 10_reins R250 | 0 -/
  enA : Bool := false
  enB : Bool := false
  /-- CC.SHN | 2 | 09_write_buffer_and_power_loss R236 | 0 -/
  shn : Nat := 0
  /-- AQA, ASQ, ACQ per rein | 32 + 64 + 64 | 11_commands R283 | 0 (log 7) -/
  regsA : List Nat := [0, 0, 0]
  regsB : List Nat := [0, 0, 0]
  /-- CC of rein A and rein B, its bits but EN and SHN | 32 + 32 | 11_commands R283 | 0 (log 7) -/
  ccA : Nat := 0
  ccB : Nat := 0
  /-- interrupt mask | 32 | 11_commands R283 | 0 (log 7) -/
  intMask : Nat := 0
  /-- Number of Queues granted: submission, completion | 9 + 9 | 10_reins R241 | 0 -/
  grantSq : Nat := 0
  grantCq : Nat := 0
  deriving DecidableEq, Repr, Inhabited

/-- An Asynchronous Event Request outstanding: its tag, controller and rein (R262). -/
structure Aer where
  tag : Nat
  ctrl : Nat
  rein : Rein
  deriving DecidableEq, Repr, Inhabited

/-- An asynchronous event: type, information, log page (R270). -/
structure Event where
  type : Nat
  info : Nat
  page : Nat
  deriving DecidableEq, Repr, Inhabited

/-- An Error Information entry (R283, R446). -/
structure ErrorEntry where
  count : Nat
  sqid : Nat
  cid : Nat
  status : Nat
  location : Nat
  lba : Nat
  nsid : Nat
  vendor : Nat
  deriving DecidableEq, Repr, Inhabited

/-- A device self-test running (R280, R281). -/
structure SelfTest where
  extended : Bool
  ctrl : Nat
  rein : Rein
  nsid : Nat
  segment : Nat
  element : Nat
  /-- the test has asked the bank of segment 1 to be disabled -/
  asked : Bool := false
  deriving DecidableEq, Repr, Inhabited

/-- A result of the Device Self-test log. -/
structure TestResult where
  result : Nat
  extended : Bool
  segment : Nat
  nsid : Nat
  wt : Nat
  deriving DecidableEq, Repr, Inhabited

/-- A sanitize in progress or failed, or a format: what it erases and whom it answers. -/
structure SanitizeRun where
  crypto : Bool
  /-- blocks still to erase, or key slots of a crypto erase -/
  left : List Nat
  /-- a block of it could not be erased -/
  failed : Bool
  deriving DecidableEq, Repr, Inhabited

/-- A Format NVM in progress: its command, the blocks still to erase, and the key slots of SES 2 that are erased and derived again. -/
structure FormatRun where
  tag : Nat
  blocks : List Nat
  slots : List Nat
  crypto : Bool
  deriving DecidableEq, Repr, Inhabited

/-- What the end of a command waits for besides its units: the job of a Secure Discard with its ranges in units, the closes of a Reclaim Unit
Handle Update's girths, the end of a stream command whose output goes to a namespace with its context and status. -/
inductive LateEnd where
  | discard (nsx : Nat) (ranges : List (Nat × Nat))
  | handles (girths : List Nat)
  | stream (ctx : Nat) (result : CmdResult) (keep : Bool)
  deriving DecidableEq, Repr, Inhabited

/-- The reins. -/
structure ReinState where
  /-- rein A | REIN_HEALTH | 10_reins R254 | LINK 4 -/
  a : ReinPort := {}
  /-- rein B | REIN_HEALTH | 10_reins R254 | LINK 4 -/
  b : ReinPort := {}
  /-- TWIN_CFG | 256 | 10_reins R242 | Image; bareback -/
  twin : TwinCfg := {}
  deriving DecidableEq, Repr, Inhabited

/-- The command front end. -/
structure FeState where
  /-- submission queues by controller × 2^17 + queue | 1,280 + admin | 10_reins R241 | none -/
  sqs : Table Sq := []
  /-- completion queues by controller × 2^17 + rein × 2^16 + queue | 1,280 + admin | 10_reins R241 | none -/
  cqs : Table Cq := []
  /-- controllers by CNTLID; an unlisted one is as at reset | 128 | 10_reins R250 | at reset -/
  ctrls : Table Ctrl := []
  /-- command table by tag | 40,960 + admin | 11_commands R271 | none -/
  cmds : Table Cmd := []
  nextTag : Nat := 0
  /-- the I/O queue whose turn it is to be fetched from, and the entries fetched in its turn | key + 8 | 11_commands R271 | 0 -/
  turn : Nat := 0
  burst : Nat := 0
  /-- commands whose proposed completion waits for a slot, a fetch or PS 4, oldest first | list | 11_commands R273 | none -/
  ready : List Nat := []
  /-- mismatch completions waiting for a slot: side, completion queue, entry | list | 10_reins R246 | none -/
  mismatches : List (Nat × Rein × BitVec 32 × CqEntry) := []
  /-- unit jobs by number | table | 11_commands R274 | none -/
  jobs : Table UnitJob := []
  nextJob : Nat := 0
  /-- Asynchronous Event Requests outstanding | 8 per controller and rein | 11_commands R262 | none -/
  aers : List Aer := []
  /-- events waiting for a request, and events posted and not yet cleared | list | 11_commands R270 | none -/
  events : List (Nat × Rein × Event) := []
  masked : List (Nat × Rein × Nat) := []
  /-- Error Information log of each controller, newest first, and its error count | 64 entries + 64 | 11_commands R269 | empty; Kept (log 7) -/
  errors : Table (List ErrorEntry) := []
  errorCount : Table Nat := []
  /-- namespaces by NSID | 1,024 | 11_commands R262 | Kept; none -/
  spaces : Table Namespace := []
  /-- standard features 0x01, 0x08, 0x09, 0x0B and 0x1E, by FID × 2^32 + controller × 2^16 + instance: current values | 32 each | 11_commands R267 | NVMe's default (free value) -/
  features : Table Nat := []
  /-- saved values of vendor features stand in the option log; the command that is being saved | - | 02_wheel R37 | none -/
  saving : List (Nat × Nat) := []
  /-- host-selected power state and last operational power state | 3 + 3 | 11_commands R278 | 0 -/
  ps : Nat := 0
  lastPs : Nat := 0
  /-- PS 4 entry: 0 not entered, 1 entering, 2 entered; a return is due; the state asked for during entry | 2 + 1 + 3 | 11_commands R279 | 0 -/
  ps4 : Nat := 0
  ps4Exit : Bool := false
  ps4Next : Option Nat := none
  /-- LBA Status log: units set UNC, by NSX × 2^38 + unit | list | 08_girths R199 | empty -/
  lbaStatus : List Nat := []
  /-- FDP events: event, handle or namespace, WT; host and media bytes written | list + 64 x 2 | 11_commands R269 | empty -/
  fdpEvents : List (Nat × Nat × Nat) := []
  hostGran : Nat := 0
  mediaGran : Nat := 0
  /-- SMART: host read and write commands, 512-byte data units read and written | 4 x 128 | 11_commands R269 | Kept; 0 (log 7) -/
  hostReads : Nat := 0
  hostWrites : Nat := 0
  unitsRead : Nat := 0
  unitsWritten : Nat := 0
  /-- self-test running, its results newest first | 1 + 20 | 11_commands R280 | none -/
  test : Option SelfTest := none
  results : List TestResult := []
  /-- sanitize in progress; sanitize status (SSTAT) and completed count | 16 | 11_commands R262 | idle -/
  sanitize : Option SanitizeRun := none
  sanitizeStatus : Nat := 0
  sanitizeFailed : Bool := false
  /-- commands whose end waits for something besides their units, by tag | list | 06_map R149, 11_commands R266, 13_skiver R335 | none -/
  late : Table LateEnd := []
  /-- accepted lease packets whose action waits for their completion to be posted | list | 10_reins R257 | none -/
  leases : List LeaseDue := []
  /-- formats in progress | list | 11_commands R262 | none -/
  formats : List FormatRun := []
  /-- CSTS.SHST | 2 | 09_write_buffer_and_power_loss R236 | 0 -/
  shst : Nat := 0
  /-- CSTS.CFS | 1 | 20_faults R451 | 0 -/
  cfs : Bool := false
  /-- CSTS.RDY may read 1: commands are admitted (step 7 of R229, or halter mode) | 1 | 18_tree_store_and_update R418 | 0 -/
  admits : Bool := false
  /-- fetching has stopped: dump entry, fatal handling or fault stop | 1 | 09_write_buffer_and_power_loss R219, 20_faults R450 | 0 -/
  stopped : Bool := false
  deriving DecidableEq, Repr, Inhabited

end Sys2Proof.Machine
end

