-- ==== Sys2Proof/Machine/State/Engines.lean ====
section
/-! DEFINITION. State of 12_cipher, 13_skiver, 14_dram_and_map_cache, 15_dma and 16_thermal_and_power. Each field's comment
reads: name | width | rule | reset value. -/
namespace Sys2Proof.Machine

/-- A key set: K1, K2, K3 (R286). -/
structure KeySet where
  k1 : BitVec 256
  k2 : BitVec 256
  k3 : BitVec 256
  deriving DecidableEq, Repr, Inhabited

/-- A key slot, CIPHER_SLOT (R294). -/
structure KeySlot where
  /-- CIPHER_SLOT.KIND | 2 | 12_cipher R294 | Kept; 0 -/
  kind : Nat := 0
  /-- CIPHER_SLOT.PURPOSE | 3 | 12_cipher R294 | Kept; 0 -/
  purpose : Nat := 0
  /-- CIPHER_SLOT.PENDING with the rewrite that waits: label or key set, and its command | 1 | 12_cipher R310 | 0 -/
  pendingLabel : Option (BitVec 256) := none
  pendingKeys : Option KeySet := none
  pendingTag : Option Nat := none
  pendingBlob : List Byte := []
  pendingPurpose : Nat := 0
  /-- CIPHER_SLOT.REVOKING | 1 | 12_cipher R311 | 0 -/
  revoking : Bool := false
  /-- DERIV_LABEL | 256 | 12_cipher R288 | Kept; none -/
  label : BitVec 256 := 0
  /-- UNWRAP_BLOB as received, unwrapped slots | 1,024 | 12_cipher R295 | Kept; none -/
  blob : List Byte := []
  /-- current key set | 768 | 12_cipher R286 | lost at power loss, derived again -/
  current : Option KeySet := none
  /-- previous key set; CIPHER_SLOT.PREV_VALID is its presence | 768 | 12_cipher R286 | Kept -/
  previous : Option KeySet := none
  /-- CIPHER_SLOT.SGEN | 32 | 12_cipher R294 | 0 -/
  sgen : Nat := 0
  /-- CIPHER_SLOT.GEN | 32 | 12_cipher R294 | Kept; 0 -/
  gen : Nat := 0
  /-- CIPHER_SLOT.COUNTER | 48 | 12_cipher R294 | Kept; 0 -/
  counter : Nat := 0
  /-- CIPHER_SLOT.RES_TOP | 49 | 12_cipher R294 | Kept; 0 -/
  resTop : Nat := 0
  /-- CIPHER_NS.SWEEP | 1 | 12_cipher R292 | Kept; 0 -/
  sweep : Bool := false
  /-- unit number the sweep has reached, its closing record is being written, and units rewritten | 38 + 1 + 38 | 12_cipher R307 | 0 -/
  sweepAt : Nat := 0
  sweepEnding : Bool := false
  sweepDone : Nat := 0
  /-- a generation's roll waits for its records; the write counter warning has been given; exhaustion has been told | 3 | 12_cipher R305, R306, R309 | 0 -/
  rolling : Bool := false
  warned : Bool := false
  exhausted : Bool := false
  deriving DecidableEq, Repr, Inhabited

/-- What a cipher request does. -/
inductive CipherWork where
  /-- encrypt and tag a unit (R298), check and decrypt one (R301), rekey a copy (R307), check a copy (R114) -/
  | encrypt (job : Nat)
  | check (job : Nat)
  | decrypt (job : Nat)
  | rekey (job : Nat)
  /-- a Keyed Check command, or a lease packet's MAC -/
  | mac (tag : Nat)
  deriving DecidableEq, Repr, Inhabited

/-- A request queued or running in a core pair (R310, R313): the slot's SGEN it captured, and pairs it has mismatched on. -/
structure CipherReq where
  work : CipherWork
  slot : Nat
  sgen : Nat
  keys : Option KeySet
  read : Bool
  arrived : Nat
  pair : Option Nat
  mismatches : List Nat
  deriving DecidableEq, Repr, Inhabited

/-- A blob in assembly (R296). -/
structure BlobPart where
  slot : Nat
  parts : List (List Byte)
  deriving DecidableEq, Repr, Inhabited

/-- An erase of a slot that runs (R311, R416): the commands that wait for it, sectors left and erased in all, and the label that is
installed when it ends (R312). -/
structure EraseRun where
  slot : Nat
  tags : List Nat
  left : List Nat
  total : Nat
  again : Option (BitVec 256)
  deriving DecidableEq, Repr, Inhabited

/-- The cipher engine. -/
structure CipherState where
  /-- key slots by number; an unlisted slot is empty | 4,160 | 12_cipher R286 | Kept; empty (log 3) -/
  slots : Table KeySlot := []
  /-- owner root blob's key; none: the fuse root key | 256 | 12_cipher R290 | Kept; none -/
  owner : Option (BitVec 256) := none
  /-- requests by number | table | 12_cipher R313 | none -/
  reqs : Table CipherReq := []
  nextReq : Nat := 0
  /-- mismatches of each core pair since reset | 8 x 3 | 12_cipher R313 | 0 -/
  pairMiss : List Nat := [0, 0, 0, 0, 0, 0, 0, 0]
  /-- core pairs in service | 8 | 12_cipher R313 | all, less those that fail step 6 of R418 -/
  pairs : List Nat := [0, 1, 2, 3, 4, 5, 6, 7]
  /-- blobs in assembly by controller | 128 | 12_cipher R296 | none -/
  blobs : Table BlobPart := []
  /-- erases of slots that run | list | 12_cipher R291, R311 | none -/
  erasing : List EraseRun := []
  /-- requests since the CTR_DRBG was reseeded | 21 | 12_cipher R288 | 0 -/
  drbg : Nat := 0
  deriving DecidableEq, Repr, Inhabited

/-- SKIVER_CFG, feature 0xC5 (R327). -/
structure SkiverCfg where
  /-- SKIVER_CFG.INLINE_EN | 1 | 13_skiver R327 | Image, bareback 1 -/
  inlineEn : Bool := true
  /-- SKIVER_CFG.STREAM_WCODE | 3 | 13_skiver R327 | Image, bareback 7 -/
  wcode : Nat := 7
  /-- SKIVER_CFG.RESET_PCT | 8 | 13_skiver R327 | Image, bareback 90 -/
  resetPct : Nat := 90
  /-- SKIVER_CFG.OUT_MAX_KIB | 32 | 13_skiver R327 | Image, bareback 0 -/
  outMaxKib : Nat := 0
  deriving DecidableEq, Repr, Inhabited

/-- A stream context (R328): who holds it, its dictionary, carried bytes and totals, and what it was when the command began. -/
structure SkiveCtx where
  ctrl : Nat
  decode : Bool
  wmax : Nat
  /-- dictionary entries from code 258, oldest first; NEXT is 258 plus its length -/
  entries : List (List Byte)
  carry : List Byte
  total : Nat
  header : Bool
  /-- the previous window was STORED or coded beyond RESET_PCT (R321) -/
  poor : Bool
  deriving DecidableEq, Repr, Inhabited

/-- The skiver. -/
structure SkiverState where
  /-- SKIVER_CFG | 256 | 13_skiver R327 | Image; bareback -/
  cfg : SkiverCfg := {}
  /-- compressors in service (SKIVER_CFG.COMP_IN_SERVICE counts them) | 16 | 13_skiver R327 | 0; 16 after step 6 of R418 -/
  comps : List Nat := []
  /-- decompressors in service (SKIVER_CFG.DECOMP_IN_SERVICE counts them) | 24 | 13_skiver R327 | 0; 24 after step 6 of R418 -/
  decomps : List Nat := []
  /-- check mismatches of each compressor since reset | 16 x 3 | 13_skiver R324 | 0 -/
  compMiss : Table Nat := []
  /-- stream contexts by number (SKIVER_CFG.CTX_ACTIVE counts them) | 16 | 13_skiver R328 | free -/
  ctxs : Table SkiveCtx := []
  deriving DecidableEq, Repr, Inhabited

/-- One DRAM rank (R343, R348, R349, R351). -/
structure Rank where
  /-- lane correction counters | 5 x 8 | 14_dram_and_map_cache R343 | 0 -/
  lanes : List Nat := [0, 0, 0, 0, 0]
  /-- DRAM_STATUS.RETIRED lane | 4 | 14_dram_and_map_cache R367 | Kept; none -/
  retired : Option Nat := none
  /-- refresh at the doubled rate; consecutive cool readings | 1 + 8 | 14_dram_and_map_cache R349 | 0 -/
  hot : Bool := false
  cool : Nat := 0
  /-- MR4 band's upper bound, °C | 8 signed | 16_thermal_and_power R379 | 0 (log 18) -/
  band : Int := 0
  /-- refreshes postponed per bank | 16 x 3 | 14_dram_and_map_cache R348 | 0 -/
  postponed : List Nat := List.replicate 16 0
  /-- neighbour refreshes scheduled per bank: the activated row | 16 lists | 14_dram_and_map_cache R350 | none -/
  neighbour : Table (List Nat) := []
  /-- open row of each bank and the consecutive hits it has had | 16 x (20 + 3) | 14_dram_and_map_cache R347 | none open -/
  rows : Table (Nat × Nat) := []
  /-- 0 active, 1 power-down, 2 self-refresh | 2 | 14_dram_and_map_cache R351 | 0 -/
  power : Nat := 0
  deriving DecidableEq, Repr, Inhabited

/-- The DRAM controller. -/
structure DramState where
  /-- size used in GiB (eight times the smallest channel) | 10 | 14_dram_and_map_cache R339 | 0 until step 5 of R418 -/
  gib : Nat := 0
  /-- ranks per channel | 2 | 14_dram_and_map_cache R339 | 0 until step 5 of R418 -/
  ranksPer : Nat := 0
  /-- DRAM_STATUS.RATE | 3 | 14_dram_and_map_cache R367 | Image; bareback 0 -/
  rate : Nat := 0
  /-- DRAM_STATUS.RATE_MAX_EFF | 3 | 14_dram_and_map_cache R367 | Image; bareback 0 -/
  rateMaxEff : Nat := 0
  /-- trained values in SRAM, by entry of DRAM_TRAIN | 400 x 64 | 14_dram_and_map_cache R353, R354 | none -/
  train : Table Nat := []
  /-- ranks by channel × 2 + rank | 16 | 14_dram_and_map_cache R339 | at reset -/
  ranks : Table Rank := []
  /-- activate LFSR of each channel | 8 x 32 | 14_dram_and_map_cache R350 | seeded from the random source (free value) -/
  lfsr : List (BitVec 32) := []
  /-- local round of the last clear of the lane counters | 64 | 14_dram_and_map_cache R343 | 0 -/
  laneRound : Nat := 0
  /-- poison bits of write-buffer granules | 31,457,280 | 14_dram_and_map_cache R342 | none set -/
  poison : List Nat := []
  /-- scrub cursor, burst number | 34 | 14_dram_and_map_cache R345 | 0 -/
  scrub : Nat := 0
  /-- a frequency change is in progress | 1 | 14_dram_and_map_cache R352 | 0 -/
  changing : Bool := false
  /-- self-refresh held by the reserve domain | 1 | 20_faults R451 | 0 -/
  selfRefresh : Bool := false
  /-- DRAM_STATUS.CORRECTED | 32 | 14_dram_and_map_cache R367 | 0 -/
  corrected : Nat := 0
  /-- DRAM_STATUS.UNCORRECTABLE | 32 | 14_dram_and_map_cache R367 | 0 -/
  uncorrectable : Nat := 0
  /-- DRAM_STATUS.NEIGHBOUR | 32 | 14_dram_and_map_cache R367 | 0 -/
  neighbours : Nat := 0
  /-- DRAM_STATUS.FREQ_CHANGES | 32 | 14_dram_and_map_cache R367 | 0 -/
  freqChanges : Nat := 0
  deriving DecidableEq, Repr, Inhabited

/-- A request of a map cache bank (R359, R363): 0 read, 1 write, 2 clean, 3 invalidate, 4 flush; hint 0 NORMAL, 1 STREAM, 2 NO_ALLOC. -/
structure McReq where
  kind : Nat
  la : Nat
  hint : Nat
  source : Nat
  deriving DecidableEq, Repr, Inhabited

/-- A map cache tag entry (R357). -/
structure McTag where
  tag : Nat
  valid : Bool
  dirty : Bool
  deriving DecidableEq, Repr, Inhabited

/-- One map cache bank. -/
structure McBank where
  /-- tags by set × 16 + way; an unlisted way is not VALID | 32,768 | 14_dram_and_map_cache R357 | not VALID -/
  tags : Table McTag := []
  /-- pseudo-LRU bits of each set | 2,048 x 15 | 14_dram_and_map_cache R357 | 0 (log 18) -/
  plru : Table Nat := []
  /-- request queue | list | 14_dram_and_map_cache R359 | empty -/
  queue : List McReq := []
  /-- outstanding miss register | LA and request | 14_dram_and_map_cache R359 | none -/
  miss : Option McReq := none
  /-- write-back buffer | 4 LAs | 14_dram_and_map_cache R360 | empty -/
  wbb : List Nat := []
  /-- DRAM_STATUS.MC_EN | 1 | 14_dram_and_map_cache R367 | CACHE_EN -/
  en : Bool := true
  /-- DRAM_STATUS.MC_DRAINING | 1 | 14_dram_and_map_cache R367 | 0 -/
  draining : Bool := false
  /-- DRAM_STATUS.MC_OUT | 1 | 14_dram_and_map_cache R367 | 0 -/
  out : Bool := false
  /-- two-symbol and two-copy error events | 5 | 14_dram_and_map_cache R366 | 0 -/
  events : Nat := 0
  deriving DecidableEq, Repr, Inhabited

/-- A streaming tracker (R361). -/
structure Tracker where
  source : Nat
  next : Nat
  run : Nat
  deriving DecidableEq, Repr, Inhabited

/-- The map cache. -/
structure McState where
  /-- banks by number; an unlisted bank is as at reset | 32 | 14_dram_and_map_cache R357 | at reset -/
  banks : Table McBank := []
  /-- streaming trackers, most recently advanced first | 16 | 14_dram_and_map_cache R361 | none -/
  trackers : List Tracker := []
  /-- DRAM_STATUS.MC_CORRECTED | 32 | 14_dram_and_map_cache R367 | 0 -/
  corrected : Nat := 0
  /-- DRAM_STATUS.MC_UNCORRECTABLE | 32 | 14_dram_and_map_cache R367 | 0 -/
  uncorrectable : Nat := 0
  deriving DecidableEq, Repr, Inhabited

/-- One internal DMA channel, DMA_CH_STATUS (R378). -/
structure DmaCh where
  /-- ring of descriptors from the head, as DMA_DESC numbers | 8 | 15_dma R369 | empty -/
  ring : List (BitVec 256) := []
  /-- DMA_CH_STATUS.HEAD | 3 | 15_dma R378 | 0 -/
  head : Nat := 0
  /-- DMA_CH_STATUS.RESULT | 2 | 15_dma R378 | 0 -/
  result : Nat := 0
  /-- DMA_CH_STATUS.DONE | 24 | 15_dma R378 | 0 -/
  done : Nat := 0
  /-- DMA_CH_STATUS.BURSTS | 32 | 15_dma R378 | 0 -/
  bursts : Nat := 0
  /-- DMA_CH_STATUS.PAUSES | 32 | 15_dma R378 | 0 -/
  pauses : Nat := 0
  /-- HELD for pacing (DMA_CH_STATUS.STATE 2): the FIFO watched and the LOW mark that ends it | 1 + 5 + 5 | 15_dma R372 | not HELD -/
  held : Option (Nat × Nat) := none
  /-- its owner has aborted it and the burst already granted is completing | 1 | 15_dma R374 | 0 -/
  aborting : Bool := false
  /-- ERROR (DMA_CH_STATUS.STATE 4) | 1 | 15_dma R370 | 0 -/
  error : Bool := false
  /-- PAUSE held by the owner, the fault sequencer, the frequency change | 3 | 15_dma R373 | 0 -/
  pauseOwner : Bool := false
  pauseFault : Bool := false
  pauseFreq : Bool := false
  /-- the owner's completion signals | list | 15_dma R369 | none -/
  notified : Nat := 0
  deriving DecidableEq, Repr, Inhabited

/-- The internal DMA. -/
structure DmaState where
  /-- channels by number; an unlisted channel is idle | 64 | 15_dma R368 | idle -/
  chans : Table DmaCh := []
  /-- FIFO fills in bursts | 32 x 5 | 15_dma R372 | 0 -/
  fifo : Table Nat := []
  /-- grants made, for STARVE_PERIOD | 8 | 15_dma R371 | 0 -/
  grants : Nat := 0
  /-- channel last granted at each priority | 8 x 6 | 15_dma R371 | none -/
  last : Table Nat := []
  /-- channel whose burst is granted | 6 | 15_dma R371 | none -/
  granted : Option Nat := none
  deriving DecidableEq, Repr, Inhabited

/-- Temperature and power. -/
structure ThermState where
  /-- last readings of the 16 controller sensors, 0.25 °C | 16 x 12 signed | 16_thermal_and_power R379 | none -/
  ctrl : List (Option Int) := List.replicate 16 none
  /-- last readings of the 32 channel sensors | 32 x 12 signed | 16_thermal_and_power R379 | none -/
  chan : List (Option Int) := List.replicate 32 none
  /-- last readings of the oscillator, reserve domain, rein A and rein B sensors | 4 x 12 signed | 16_thermal_and_power R379 | none -/
  osc : Option Int := none
  reserve : Option Int := none
  reinA : Option Int := none
  reinB : Option Int := none
  /-- die sensors broken, by number (0 to 15 controller, 16 to 47 channels, 48 oscillator, 49 reserve, 50 and 51 reins) | 52 | 16_thermal_and_power R380 | none -/
  brokenDie : List Nat := []
  /-- conversions in a row by which a die sensor differs from its group | 52 x 4 | 16_thermal_and_power R380 | 0 -/
  differs : Table Nat := []
  /-- THROTTLE_CFG.BROKEN: NVMe sensors broken | 8 | 16_thermal_and_power R384 | none -/
  broken : List Nat := []
  /-- last good reading of the reserve sensor | 12 signed | 16_thermal_and_power R390 | none -/
  reserveGood : Option Int := none
  /-- last good flash estimate of each channel, 0.25 °C | 32 x 12 signed | 05_frames_and_ldpc R121 | none -/
  flashGood : Table Int := []
  /-- THROTTLE_CFG.GRACE_S | 6 | 16_thermal_and_power R384 | Image, bareback 10 -/
  grace : Nat := 10
  /-- THROTTLE_CFG.GRACE2_S | 4 | 16_thermal_and_power R384 | Image, bareback 2 -/
  grace2 : Nat := 2
  /-- THROTTLE_CFG.LEVEL | 3 | 16_thermal_and_power R384 | 0 -/
  level : Nat := 0
  /-- THROTTLE_CFG.FLOOR | 3 | 16_thermal_and_power R384 | 0 -/
  floor : Nat := 0
  /-- THROTTLE_CFG.ASK1 with its time left (GRACE_LEFT) in 100 µs conversions | 1 + 16 | 16_thermal_and_power R384 | 0 -/
  ask1 : Option Nat := none
  /-- THROTTLE_CFG.ASK2 with its time left | 1 + 16 | 16_thermal_and_power R384 | 0 -/
  ask2 : Option Nat := none
  /-- conversions for which every domain has stayed below the level's threshold less HYST | 14 | 16_thermal_and_power R381 | 0 -/
  below : Nat := 0
  /-- throttle level whose floor is enforced: 0, 2 or 3 | 2 | 16_thermal_and_power R383 | 0 -/
  enforced : Nat := 0
  /-- die sensors that gave no reading at the last conversion | 52 | 16_thermal_and_power R380 | none -/
  silent : List Nat := []
  /-- Critical Warning bit 1 | 1 | 16_thermal_and_power R385 | 0 -/
  tempWarn : Bool := false
  /-- hot spot at the release of a trip's hold, until the power-on reset tells it | 16 | 16_thermal_and_power R386 | none -/
  resumed : Option Nat := none
  /-- consecutive trip readings per domain | 3 x 2 | 16_thermal_and_power R386 | 0 -/
  tripRun : List Nat := [0, 0, 0]
  /-- a trip has been detected, with conversions since sensor 1 fell below RESUME | 1 + 17 | 16_thermal_and_power R386 | none -/
  tripped : Bool := false
  coolFor : Nat := 0
  /-- thresholds of feature 0x04: over and under, by sensor 0 (composite) to 8, kelvin; unlisted at their defaults | 18 x 16 | 16_thermal_and_power R385 | WCTEMP; 273 -/
  overTemp : Table Nat := []
  underTemp : Table Nat := []
  /-- transitions to FLOOR1 and FLOOR2, and conversions each floor stood | 2 x 32 + 2 x 64 | 16_thermal_and_power R385 | 0 -/
  tmt1 : Nat := 0
  tmt2 : Nat := 0
  tmtTime1 : Nat := 0
  tmtTime2 : Nat := 0
  /-- reserve oscillator and converter reference correction terms | 2 x 16 signed | 16_thermal_and_power R390 | 0 -/
  resvTerm : Int := 0
  vrefTerm : Int := 0
  deriving DecidableEq, Repr, Inhabited

end Sys2Proof.Machine
end

