-- ==== Sys2Proof/Machine/Tables.lean ====
section
/-! DEFINITION. The tables of the tree image: their fields (by name, with the field map's places) and their bareback values
(R9, R429). -/
namespace Sys2Proof.Machine

/-! ### GEOM (R84) -/

def ImgState.planes (i : ImgState) : Nat := bitField i.geom 0 4
def ImgState.bitsPerCell (i : ImgState) : Nat := bitField i.geom 4 4
def ImgState.rowCycles (i : ImgState) : Nat := bitField i.geom 8 3
def ImgState.ipr (i : ImgState) : Bool := bitField i.geom 11 1 = 1
def ImgState.pagesPerBlock (i : ImgState) : Nat := bitField i.geom 16 16
def ImgState.blocksPerPlane (i : ImgState) : Nat := bitField i.geom 32 16
def ImgState.pageBits (i : ImgState) : Nat := bitField i.geom 48 4
def ImgState.planeBits (i : ImgState) : Nat := bitField i.geom 52 4
def ImgState.blockBits (i : ImgState) : Nat := bitField i.geom 56 5
def ImgState.lunShift (i : ImgState) : Nat := bitField i.geom 64 5
def ImgState.geomRate (i : ImgState) : Nat := bitField i.geom 72 3
def ImgState.fcPages (i : ImgState) : Nat := bitField i.geom 96 16
def ImgState.tR (i : ImgState) : Nat := bitField i.geom 128 32
def ImgState.tRFc (i : ImgState) : Nat := bitField i.geom 160 32
def ImgState.tProgMax (i : ImgState) : Nat := bitField i.geom 192 32
def ImgState.tProgFcMax (i : ImgState) : Nat := bitField i.geom 224 32
def ImgState.tBersMax (i : ImgState) : Nat := bitField i.geom 256 32
def ImgState.tSusProg (i : ImgState) : Nat := bitField i.geom 288 32
def ImgState.tSusErase (i : ImgState) : Nat := bitField i.geom 320 32
def ImgState.tRstMax (i : ImgState) : Nat := bitField i.geom 352 32
def ImgState.suspendLimit (i : ImgState) : Nat := bitField i.geom 384 16
def ImgState.pollInterval (i : ImgState) : Nat := bitField i.geom 400 16
def ImgState.timeoutPct (i : ImgState) : Nat := bitField i.geom 536 8
def ImgState.populated (i : ImgState) (d : Nat) : Bool := d < 1024 && bitField i.geom (1024 + d) 1 = 1

/-- GEOM in bareback operation: the part's fields from its parameter page, the row layout formed from them, the opcode and
policy fields at their bareback values, POPULATED the dies that answer Read ID (R84). -/
def barebackGeom (p : ParamPage) (dies : List Nat) : Nat :=
  let planeBits := max p.planeBits 2
  let pageBits := ceilLog2 p.pagesPerBlock
  let blocks := if p.planes = 0 then 0 else p.blocksPerLun / p.planes
  let blockBits := ceilLog2 blocks
  packFields [fld 0 4 p.planes, fld 4 4 p.bitsPerCell, fld 8 3 p.rowCycles, fld 11 1 (bit p.ipr), fld 12 1 1,
    fld 16 16 p.pagesPerBlock, fld 32 16 blocks, fld 48 4 pageBits, fld 52 4 planeBits, fld 56 5 blockBits,
    fld 64 5 (pageBits + planeBits + blockBits), fld 72 3 4, fld 80 16 p.spareBytes, fld 96 16 p.fcPages,
    fld 128 32 p.tR, fld 160 32 p.tR, fld 192 32 p.tProgMax, fld 224 32 p.tProgFcMax, fld 256 32 p.tBersMax,
    fld 288 32 100000, fld 320 32 100000, fld 352 32 10000000, fld 384 16 0, fld 400 16 20000,
    fld 448 8 0xA7, fld 456 8 0xA8, fld 464 8 0xA9, fld 472 8 0xAA, fld 480 8 0xA2, fld 488 8 0xAB,
    fld 496 32 0x04030201, fld 528 8 0x1A, fld 536 8 125]
  + packFields ((dies.filter (· < 1024)).eraseDups.map fun d => fld (1024 + d) 1 1)

/-- GEOM before the parameter page has been read: the bareback policy fields alone (DEDUCED, log 19). -/
def barebackGeomEmpty : Nat := barebackGeom ⟨0, 0, 0, false, 0, 0, 2, 0, 0, 0, 0, 0, 0, 0⟩ []

/-! ### PS_TABLE (R387) -/

def ImgState.psEntry (i : ImgState) (ps : Nat) : Nat := natAt i.psTable ps
def ImgState.psMp (i : ImgState) (ps : Nat) : Nat := bitField (i.psEntry ps) 0 16
def ImgState.psArray (i : ImgState) (ps : Nat) : Nat := bitField (i.psEntry ps) 16 16
def ImgState.psCtrl (i : ImgState) (ps : Nat) : Nat := bitField (i.psEntry ps) 32 16
def ImgState.psDramRate (i : ImgState) (ps : Nat) : Nat := bitField (i.psEntry ps) 48 3
def ImgState.psFlashRate (i : ImgState) (ps : Nat) : Nat := bitField (i.psEntry ps) 51 3
def ImgState.psNops (i : ImgState) (ps : Nat) : Nat := bitField (i.psEntry ps) 54 1
def ImgState.psL1 (i : ImgState) (ps : Nat) : Bool := bitField (i.psEntry ps) 55 1 = 1
def ImgState.psExlat (i : ImgState) (ps : Nat) : Nat := bitField (i.psEntry ps) 64 16
def ImgState.psEnlatExtra (i : ImgState) (ps : Nat) : Nat := bitField (i.psEntry ps) 80 16

/-- One PS_TABLE entry. -/
def psPack (mp arr ctrl dram flash nops l1 l0p exlat extra : Nat) : Nat :=
  packFields [fld 0 16 mp, fld 16 16 arr, fld 32 16 ctrl, fld 48 3 dram, fld 51 3 flash, fld 54 1 nops, fld 55 1 l1,
    fld 56 2 l0p, fld 64 16 exlat, fld 80 16 extra]

/-- PS_TABLE in bareback operation, flash rates limited to GEOM.RATE (R388). -/
def barebackPs : List Nat :=
  [psPack 7000 3000 3100 0 4 0 0 0 0 500, psPack 5500 2000 2600 0 4 0 0 0 0 500, psPack 4000 1200 1900 2 4 0 0 0 0 500,
   psPack 2500 600 1000 3 2 0 0 1 0 500, psPack 1000 150 450 4 1 1 1 2 1000 500]

/-! ### CODEC_POLICY (R120) and RETRY_TABLE (R119) -/

def ImgState.retrySteps (i : ImgState) : Nat := bitField i.codec 0 4
def ImgState.softDelta (i : ImgState) : Nat := bitField i.codec 24 8
def ImgState.recalStep (i : ImgState) : Nat := bitField i.codec 32 8
def ImgState.recalTemp (i : ImgState) : Nat := bitField i.codec 40 8
def ImgState.groupShift (i : ImgState) : Nat := bitField i.codec 48 8
def ImgState.recalCbc (i : ImgState) : Nat := bitField i.codec 64 16
def ImgState.refreshCbc (i : ImgState) : Nat := bitField i.codec 80 16
def ImgState.patrolDays (i : ImgState) : Nat := bitField i.codec 96 16
def ImgState.patrolFrames (i : ImgState) : Nat := bitField i.codec 112 8
def ImgState.recalAge (i : ImgState) : Nat := bitField i.codec 128 32
def ImgState.disturbLimit (i : ImgState) : Nat := bitField i.codec 160 32
def ImgState.typeMask (i : ImgState) (t : Nat) : Nat := bitField i.codec (224 + 16 * t) 16

/-- CODEC_POLICY in bareback operation; the TYPE_MASK of TLC or of QLC. -/
def barebackCodec (bitsPerCell : Nat) : Nat :=
  packFields [fld 0 4 8, fld 8 8 24, fld 16 8 40, fld 24 8 6, fld 32 8 2, fld 40 8 15, fld 48 8 5, fld 64 16 56, fld 80 16 150,
    fld 96 16 7, fld 112 8 8, fld 128 32 4218750, fld 160 32 2000000, fld 192 32 0x7531FDB9,
    fld 224 64 (if bitsPerCell = 4 then 0x5555222208080080 else 0x0000005500220008)]

/-- RETRY_TABLE in bareback operation: row 0 is 0, row s holds -4s on every threshold (R119). -/
def barebackRetry : List (List Int) :=
  let rows := (List.range 9).map fun (s : Nat) => List.replicate 16 (-4 * Int.ofNat s)
  rows ++ rows

/-- Row `s` of RETRY_TABLE for a block mode. -/
def ImgState.retryRow (i : ImgState) (fc : Bool) (s : Nat) : List Int := i.retry.getD (s + if fc then 9 else 0) []

/-! ### WEAR_POLICY (R177) -/

def ImgState.ecWidth (i : ImgState) : Nat := bitField i.wear 0 16
def ImgState.wearGap (i : ImgState) : Nat := bitField i.wear 16 8
def ImgState.hostFloor (i : ImgState) : Nat := bitField i.wear 24 8
def ImgState.fcFreeMax (i : ImgState) : Nat := bitField i.wear 32 8
def ImgState.activeVictims (i : ImgState) : Nat := bitField i.wear 40 8
def ImgState.unreadRetire (i : ImgState) : Nat := bitField i.wear 48 2
def ImgState.bandHyst (i : ImgState) : Nat := bitField i.wear 56 8
/-- BAND_LIMIT of band b, 1 to 7. -/
def ImgState.bandLimit (i : ImgState) (b : Nat) : Nat := bitField i.wear (64 + 16 * (b - 1)) 16
def ImgState.ecLimit (i : ImgState) : Nat := bitField i.wear 192 32
def ImgState.ecRated (i : ImgState) : Nat := bitField i.wear 224 32
def ImgState.spareBase (i : ImgState) : Nat := bitField i.wear 256 32

/-- WEAR_POLICY in bareback operation; EC_RATED from the parameter page, or 3,000 (R177). -/
def barebackWear (endurance : Nat) : Nat :=
  packFields [fld 0 16 64, fld 16 8 4, fld 24 8 8, fld 32 8 4, fld 40 8 32, fld 48 2 2, fld 56 8 50, fld 64 16 2000,
    fld 80 16 1200, fld 96 16 800, fld 112 16 600, fld 128 16 400, fld 144 16 300, fld 160 16 200,
    fld 224 32 (if 1 ≤ endurance ∧ endurance ≤ 1048576 then endurance else 3000)]

/-! ### GIRTH_POLICY (R189) -/

def ImgState.girthW (i : ImgState) : Nat := bitField i.girth 0 5
def ImgState.inflightMax (i : ImgState) : Nat := bitField i.girth 8 8
def ImgState.rebuildSets (i : ImgState) : Nat := bitField i.girth 16 8
def ImgState.reshapeSets (i : ImgState) : Nat := bitField i.girth 24 8
def ImgState.ledgerAge (i : ImgState) : Nat := bitField i.girth 32 16
def ImgState.closeAge (i : ImgState) : Nat := bitField i.girth 64 32
def barebackGirth : Nat := packFields [fld 0 5 30, fld 8 8 8, fld 16 8 32, fld 24 8 8, fld 32 16 64, fld 64 32 4096]

/-! ### HOLDUP_POLICY (R214) -/

def ImgState.cBank (i : ImgState) : Nat := bitField i.holdup 0 16
def ImgState.vCut (i : ImgState) : Nat := bitField i.holdup 16 16
def ImgState.senseRatio (i : ImgState) : Nat := bitField i.holdup 32 16
def ImgState.effPct (i : ImgState) : Nat := bitField i.holdup 48 7
def ImgState.marginPct (i : ImgState) : Nat := bitField i.holdup 56 8
def ImgState.pDump (i : ImgState) : Nat := bitField i.holdup 64 16
def ImgState.pwrfailFilter (i : ImgState) : Nat := bitField i.holdup 80 16
def ImgState.dwDefault (i : ImgState) : Nat := bitField i.holdup 96 16
def ImgState.updateMj (i : ImgState) : Nat := bitField i.holdup 112 16
def barebackHoldup : Nat := packFields [fld 0 16 4700, fld 16 16 14000, fld 32 16 10240, fld 48 7 85, fld 56 8 25, fld 64 16 700,
  fld 80 16 1000, fld 96 16 512, fld 112 16 2000]

/-! ### MAP_POLICY (R433), FC_TARGET (R145, R434), REIN_POLICY (R243) -/

def ImgState.stageAge (i : ImgState) : Nat := bitField i.map 0 32
def barebackMap : Nat := packFields [fld 0 32 1048576]
/-- FC_TARGET in bareback operation: entry i is 600 - floor(550 i / 16). -/
def barebackFcTarget : List Nat := (List.range 17).map fun i => 600 - 550 * i / 16
def ImgState.keeperUse (i : ImgState) (r : Rein) : Bool := bitField i.rein r.num 1 = 1
def ImgState.keeperFilter (i : ImgState) : Nat := bitField i.rein 16 10
def ImgState.recoveryLimit (i : ImgState) : Nat := bitField i.rein 32 16
def ImgState.eyeMin (i : ImgState) : Nat := bitField i.rein 48 16
def barebackRein : Nat := packFields [fld 16 10 500, fld 32 16 4, fld 48 16 250]

/-! ### DRAM_POLICY (R355) -/

def ImgState.rateMax (i : ImgState) : Nat := bitField i.dram 0 3
def ImgState.trainFull (i : ImgState) : Bool := bitField i.dram 3 1 = 1
def ImgState.adjMode (i : ImgState) : Bool := bitField i.dram 4 1 = 1
def ImgState.cacheEn (i : ImgState) : Bool := bitField i.dram 5 1 = 1
def ImgState.nrK (i : ImgState) : Nat := bitField i.dram 8 4
def ImgState.colBits (i : ImgState) : Nat := bitField i.dram 12 3
def ImgState.rowBits (i : ImgState) : Nat := bitField i.dram 16 5
def ImgState.pdIdle (i : ImgState) : Nat := bitField i.dram 24 16
def ImgState.retireCnt (i : ImgState) : Nat := bitField i.dram 40 8
def ImgState.retireRounds (i : ImgState) : Nat := bitField i.dram 48 32
def ImgState.scrubHours (i : ImgState) : Nat := bitField i.dram 80 8
def ImgState.streamRun (i : ImgState) : Nat := bitField i.dram 88 8
def ImgState.streamLag (i : ImgState) : Nat := bitField i.dram 96 8
/-- DRAM_POLICY in bareback operation; ADJ_MODE and ROW_BITS from the mode registers (R355). -/
def barebackDram (rfm : Bool) (rowBits : Nat) : Nat :=
  packFields [fld 3 1 1, fld 4 1 (bit rfm), fld 5 1 1, fld 8 4 11, fld 12 3 6, fld 16 5 rowBits, fld 24 16 1000, fld 40 8 64,
    fld 48 32 4218750, fld 80 8 24, fld 88 8 16, fld 96 8 8]

/-! ### DMA_POLICY (R377) -/

def ImgState.dmaPrio (i : ImgState) (c : Nat) : Nat := bitField i.dma (4 * c) 3
def ImgState.starvePeriod (i : ImgState) : Nat := bitField i.dma 256 8
/-- The bareback priority of a channel (R368). -/
def barebackPrio (c : Nat) : Nat :=
  if c ≤ 1 then 6 else if c ≤ 3 then 5 else if c ≤ 11 then 3 else if c ≤ 43 then 4 else if c ≤ 51 then 0
  else if c ≤ 59 then 1 else 0
def barebackDma : Nat := packFields ((List.range 64).map fun c => fld (4 * c) 3 (barebackPrio c)) + packFields [fld 256 8 16]

/-! ### THERMAL_LADDER (R382) -/

/-- Threshold of a domain (0 controller, 1 flash, 2 DRAM) for a level (1 WARN to 4 TRIP), °C. -/
def ImgState.threshold (i : ImgState) (domain level : Nat) : Nat := bitField i.ladder (32 * domain + 8 * (level - 1)) 8
def ImgState.hyst (i : ImgState) : Nat := bitField i.ladder 96 4
def ImgState.floor1 (i : ImgState) : Nat := bitField i.ladder 100 3
def ImgState.floor2 (i : ImgState) : Nat := bitField i.ladder 103 3
def ImgState.readCap1 (i : ImgState) : Nat := bitField i.ladder 112 8
def ImgState.readCap2 (i : ImgState) : Nat := bitField i.ladder 120 8
def ImgState.resume (i : ImgState) : Nat := bitField i.ladder 128 8
def ImgState.flashOfs (i : ImgState) (c : Nat) : Int := ofSigned 4 (bitField i.ladder (136 + 4 * c) 4)
def barebackLadder : Nat :=
  packFields [fld 0 8 90, fld 8 8 95, fld 16 8 100, fld 24 8 115, fld 32 8 75, fld 40 8 80, fld 48 8 85, fld 56 8 95,
    fld 64 8 85, fld 72 8 95, fld 80 8 100, fld 88 8 105, fld 96 4 3, fld 100 3 2, fld 103 3 3, fld 112 8 0, fld 120 8 12,
    fld 128 8 95]

/-! ### SB_POLICY (R400), WHEEL_POLICY (R436) -/

def ImgState.burst (i : ImgState) (sev : Nat) : Nat := bitField i.sb (8 * sev) 8
def ImgState.refill (i : ImgState) (sev : Nat) : Nat := bitField i.sb (32 + 16 * sev) 16
def barebackSb : Nat :=
  packFields [fld 0 8 16, fld 8 8 16, fld 16 8 32, fld 24 8 64, fld 32 16 64, fld 48 16 16, fld 64 16 4, fld 80 16 1]
def ImgState.kpShift (i : ImgState) : Nat := bitField i.wheel 0 5
def ImgState.kiShift (i : ImgState) : Nat := bitField i.wheel 8 5
def barebackWheel : Nat := packFields [fld 0 5 3, fld 8 5 8]

/-- Every table at its bareback value, as from power-on reset to the end of step 3 of R418 (R9). -/
def barebackTables : ImgState where
  fr := "BAREBACK".toList.map fun c => BitVec.ofNat 8 c.toNat
  geom := barebackGeomEmpty
  planSelect := List.replicate 80 0
  psTable := barebackPs
  codec := barebackCodec 3
  retry := barebackRetry
  wear := barebackWear 0
  girth := barebackGirth
  holdup := barebackHoldup
  map := barebackMap
  fcTarget := barebackFcTarget
  rein := barebackRein
  dram := barebackDram false 14
  dma := barebackDma
  ladder := barebackLadder
  sb := barebackSb
  wheel := barebackWheel
  wheelComp := List.replicate 33 0
  resvComp := List.replicate 33 0
  vrefComp := List.replicate 33 0

end Sys2Proof.Machine
end

