-- ==== Sys2Proof/Machine/State.lean ====
section
/-! DEFINITION. The machine's State: every register, queue, table, counter and pin the spec gives the block, as plain data, with
the queue of waiting commands; the reasons a step can stop; and the state right after reset. The parts' fields, each with its
width, rule and reset value, stand in Sys2Proof/Machine/State/. -/
namespace Sys2Proof.Machine

/-- The state of the KT9600. -/
structure State where
  /-- the commands waiting, first in, first out (the model's own field) -/
  pending : List Instr := []
  /-- the model's own counter: how many free values have been drawn (log 5) -/
  free : Nat := 0
  /-- 02_wheel -/
  wheel : WheelState := {}
  /-- 03_stitch_plans, 01_architecture -/
  plan : PlanState := {}
  /-- 04_awls, 03_stitch_plans -/
  awl : AwlState := {}
  /-- 05_frames_and_ldpc -/
  codec : CodecState := {}
  /-- 06_map -/
  map : MapState := {}
  /-- 07_reclaim_and_wear -/
  blk : BlkState := {}
  /-- 08_girths -/
  girth : GirthState := {}
  /-- 09_write_buffer_and_power_loss: the buffer and the dirty window -/
  wb : WbState := {}
  /-- 09_write_buffer_and_power_loss: dump and restart -/
  dump : DumpState := {}
  /-- 10_reins -/
  rein : ReinState := {}
  /-- 11_commands -/
  fe : FeState := {}
  /-- 12_cipher -/
  cipher : CipherState := {}
  /-- 13_skiver -/
  skv : SkiverState := {}
  /-- 14_dram_and_map_cache: the controller -/
  dram : DramState := {}
  /-- 14_dram_and_map_cache: the map cache -/
  mc : McState := {}
  /-- 15_dma -/
  dma : DmaState := {}
  /-- 16_thermal_and_power -/
  therm : ThermState := {}
  /-- 17_observability -/
  obs : ObsState := {}
  /-- 18_tree_store_and_update -/
  ts : TsState := {}
  /-- 19_tree_image_format and the tables in force -/
  img : ImgState := {}
  /-- 20_faults -/
  fault : FaultState := {}
  /-- 21_package_and_identity -/
  pkg : PkgState := {}
  /-- what flash holds -/
  media : MediaState := {}
  deriving DecidableEq, Repr

/-- Faults of the MODEL. The spec's own faults are severities and codes of 20_faults: effects on State, never a stop of the
model, so there is one constructor and no meaning raises it. -/
inductive Fault where
  /-- Raised by no command; a machine that never faults. Safe: it stops nothing. -/
  | never
  deriving DecidableEq, Repr

/-- Refusals of the MODEL. -/
inductive Refusal where
  /-- Raised by the dispatcher for a command that has no meaning yet. Safe: the model stops where the hardware goes on. -/
  | notModelled (mnemonic : String)
  deriving DecidableEq, Repr

/-- The state right after power-on reset of a part that has never run: every register at the value the spec states, and at the
value the log names where it states none; no command waits; step 1 of R418 awaits POWER_ON_RESET (DESIGN CHOICE, log 3). -/
def State.reset : State := { img := barebackTables }

end Sys2Proof.Machine
end

