-- ==== Sys2Proof/Machine/Layouts.lean ====
section
/-! DEFINITION. The structures that flash and DRAM hold as bytes: map blocks, journal runs, SEG_DESC and root records (06_map), SET_REC and the
ledger's entries (08_girths), VT_GROUP (05), WEAR_ENT and DUMP_IX (09). A structure is a number whose bit 0 is bit 0 of its first byte. -/
namespace Sys2Proof.Machine

/-- Values of one width side by side, the first at bit 0. -/
def packRow (w : Nat) : List Nat → Nat
  | [] => 0
  | x :: xs => x % 2 ^ w + 2 ^ w * packRow w xs
/-- A structure followed by the CRC-32C over its first `n` bytes, at bit 8 n. -/
def withCrc (n x : Nat) : Nat := x + crc32c (toBytes n x) * 2 ^ (8 * n)
/-- A 40-bit address field: a granule address in [38:0] and a valid bit in [39] (R156). -/
def addrField : Option Nat → Nat
  | some a => a % 2 ^ 39 + 2 ^ 39
  | none => 0

/-! ### Map blocks (R127, R129, R141) -/

/-- MAP_ENTRY (R127). -/
def MapEntry.pack (e : MapEntry) : Nat :=
  packFields [fld 0 39 e.gaddr, fld 39 4 e.glen, fld 43 1 (bit e.raw), fld 44 1 (bit e.unc), fld 45 1 (bit e.sdp), fld 46 1 (bit e.kgen)]
/-- The 8-byte segment tag that the CRC covers after the block's 60 bytes. -/
def segTag (seg block : Nat) : List Byte := toBytes 4 seg ++ toBytes 2 block ++ [0#8, 0#8]
/-- A 64-byte block of a segment from its 60 bytes. -/
def blockImage (seg block body : Nat) : Nat := body + crc32c (toBytes 60 body ++ segTag seg block) * 2 ^ 480
/-- A map block of ten entries, and a tag block of seven records and four reserved bytes. -/
def mapBlock (seg block : Nat) (es : List MapEntry) : Nat := blockImage seg block (packRow 48 (es.map MapEntry.pack))
def tagBlock (seg block : Nat) (ts : List Nat) : Nat := blockImage seg block (packRow 64 ts)
/-- What the device checks of a block it reads from DRAM: its CRC, and that no entry of a map block has bit 47 set (R128, R129). -/
def blockOk (tag : Bool) (seg block x : Nat) : Bool :=
  decide (bitField x 480 32 = crc32c (toBytes 60 x ++ segTag seg block)) && (tag || (List.range 10).all fun i => decide (bitField x (48 * i + 47) 1 = 0))
/-- Block `block` of a segment from the entries or tag records of a table. -/
def blockOf (tag : Bool) (es : Table MapEntry) (ts : Table Nat) (seg block : Nat) : Nat :=
  if tag then tagBlock seg block ((List.range 7).map fun i => Table.getD ts (seg * 1048576 + block * 7 + i) 0)
  else mapBlock seg block ((List.range 10).map fun i => Table.getD es (seg * 1048576 + block * 10 + i) {})

/-! ### Journal runs (R153, R154) -/

/-- JRNL_REC, 16 bytes. A TYPE 0 record, the pad, is 0. -/
def JrnlRec.pack : JrnlRec → Nat
  | .entry i e => packFields [fld 0 20 i, fld 20 4 1, fld 24 48 e.pack]
  | .tag i v => packFields [fld 0 20 i, fld 20 4 2, fld 24 64 v]
/-- A run of 2,048 bytes: header, records, and TYPE 0 records up to 127. -/
def runImage (seg seq : Nat) (recs : List JrnlRec) : Nat :=
  packRow 128 (packFields [fld 0 32 seg, fld 32 32 seq, fld 64 8 recs.length] :: recs.map JrnlRec.pack)

/-! ### SEG_DESC, the job table and root records (R152, R156, R158) -/

/-- SEG_DESC, 1 KiB with its CRC. -/
def SegDesc.pack (d : SegDesc) : Nat :=
  withCrc 1020 (packFields [fld 0 10 d.nsx, fld 10 1 (bit d.tagKind), fld 11 1 (bit d.alloc), fld 12 1 (bit d.restored), fld 13 1 (bit d.ckptBusy),
    fld 16 32 d.dirPos, fld 48 20 d.mapped, fld 68 7 d.runs.length, fld 80 32 d.ckptRun, fld 112 32 d.nextRun,
    fld 144 880 (packRow 40 (d.ckptUnits.map fun a => addrField (some a))), fld 1024 5080 (packRow 40 (d.runs.map fun (_, a) => addrField a)),
    fld 6104 20 d.buffered])

/-- SD_JOB (R152). -/
def SdJob.pack (j : SdJob) : Nat :=
  packFields [fld 0 4 j.job, fld 4 3 j.state, fld 8 10 j.nsx, fld 32 16 j.serial, fld 48 9 j.ranges.length, fld 64 64 j.startWt, fld 128 64 j.endWt,
    fld 192 32 j.scanSet, fld 224 32 j.scanned, fld 256 32 j.marked, fld 288 32 j.erased, fld 320 32 j.openWait.length, fld 352 32 j.residue]

/-- A root record, 16 bytes: the number, the change type in the rule's order, and the data; the places within the data are the model's
(DESIGN CHOICE, log 84). -/
def RootRec.pack : RootRec → Nat
  | .runWritten seg seq a => packFields [fld 0 32 seg, fld 32 4 0, fld 36 32 seq, fld 68 40 (addrField (some a))]
  | .ckptUnit seg i a => packFields [fld 0 32 seg, fld 32 4 1, fld 36 5 i, fld 68 40 (addrField (some a))]
  | .ckptDone seg r => packFields [fld 0 32 seg, fld 32 4 2, fld 36 32 r]
  | .segAlloc seg nsx tag pos => packFields [fld 0 32 seg, fld 32 4 3, fld 36 10 nsx, fld 46 1 (bit tag), fld 68 32 pos]
  | .segReturn seg => packFields [fld 0 32 seg, fld 32 4 4]
  | .dirEntry nsx tag pos seg => packFields [fld 0 32 (seg.getD (2 ^ 32 - 1)), fld 32 4 5, fld 36 10 nsx, fld 46 1 (bit tag), fld 68 32 pos]
  | .jobOpened j => packFields [fld 0 32 j.job, fld 32 4 6, fld 36 10 j.nsx, fld 46 16 j.serial, fld 62 9 j.ranges.length]
  | .jobState job st wt => packFields [fld 0 32 job, fld 32 4 7, fld 36 3 st, fld 64 64 wt]
  | .renamed kind i a => packFields [fld 0 32 i, fld 32 4 8, fld 36 3 kind, fld 68 40 (addrField (some a))]

/-- A block summary's entry (R146). -/
def summaryEntry (u : Nat × Nat × Nat) : Nat := packFields [fld 0 10 u.1, fld 10 38 u.2.1, fld 48 16 u.2.2]

/-! ### VT_GROUP and WEAR_ENT (R116, R224) -/

def VtGroup.pack (v : VtGroup) : Nat :=
  let row (xs : List Int) : Nat := packRow 8 ((List.range 15).map fun i => toSigned 8 (intAt xs i))
  packFields [fld 0 120 (row v.row0), fld 120 8 v.gen0, fld 128 120 (row v.row1), fld 248 8 v.gen1, fld 256 1 (bit v.sel), fld 257 1 (bit v.queued),
    fld 258 1 (bit v.valid), fld 264 8 (toSigned 8 v.calTemp), fld 272 4 v.lastRetry, fld 288 32 v.calRound, fld 320 32 v.reads]
def wearEnt (w : Nat × Nat × Bool × Bool) : Nat := packFields [fld 0 20 w.1, fld 20 2 w.2.1, fld 22 1 (bit w.2.2.1), fld 23 1 (bit w.2.2.2)]

/-! ### SET_REC and ledger entries (R188, R192) -/

/-- SET_REC, 256 bytes with its CRC. -/
def SetRec.pack (k : Nat) (r : SetRec) : Nat :=
  withCrc 252 (packFields [fld 0 32 k, fld 32 3 r.stream, fld 35 1 (bit r.fc), fld 36 5 r.w, fld 41 3 r.state, fld 44 4 r.endReason, fld 48 16 r.nextWl,
    fld 64 32 ((r.lastAbsent.map (2 ^ ·)).sum), fld 128 1024 (packRow 32 ((List.range 32).map fun i => r.member.getD i (2 ^ 32 - 1))),
    fld 1152 512 (packRow 16 ((List.range 32).map fun i => (Table.find r.absWl i).getD 0xFFFF))])

/-- A ledger entry as its 16-byte records: TYPE, EXT, payload, then the extension records (R192). -/
def memberRows (r : SetRec) : List Nat :=
  (List.range (ceilDiv (r.w + 2) 4)).map fun i => packRow 32 (((List.range 4).filter fun k => 4 * i + k < r.w + 2).map fun k => natAt r.member (4 * i + k))
def absRows (r : SetRec) : List Nat :=
  (List.range (ceilDiv (r.w + 2) 8)).map fun i => packRow 16 (((List.range 8).filter fun k => 8 * i + k < r.w + 2).map fun k => (Table.find r.absWl (8 * i + k)).getD 0xFFFF)
def ledgerRec (type ext : Nat) (fs : List Field) : Nat := packFields (fld 0 4 type :: fld 4 4 ext :: fs)
def LedgerEntry.pack : LedgerEntry → List Nat
  | .setOpen k r => ledgerRec 1 (memberRows r).length [fld 8 32 k, fld 40 3 r.stream, fld 43 1 (bit r.fc), fld 44 5 r.w] :: memberRows r
  | .girthClose k wl absent empty => [ledgerRec 2 0 [fld 8 32 k, fld 40 16 wl, fld 56 32 ((absent.map (2 ^ ·)).sum), fld 88 16 empty]]
  | .setEnd k reason => [ledgerRec 3 0 [fld 8 32 k, fld 40 4 reason]]
  | .setReleased k => [ledgerRec 4 0 [fld 8 32 k]]
  | .memberLost k pos wl => [ledgerRec 5 0 [fld 8 32 k, fld 40 5 pos, fld 45 16 wl]]
  | .eraseIntent b fc => [ledgerRec 6 0 [fld 8 32 b, fld 40 1 (bit fc)]]
  | .eraseDone b n c => [ledgerRec 7 0 [fld 8 32 b, fld 40 20 n, fld 60 2 c]]
  | .dieIsolated d cause wt => [ledgerRec 8 0 [fld 8 10 d, fld 18 4 cause, fld 22 48 wt]]
  | .rootPtr kind a => [ledgerRec 9 0 [fld 8 1 kind, fld 9 39 a]]
  | .layout o n reason phase => [ledgerRec 10 0 [fld 8 5 o, fld 13 5 n, fld 18 2 reason, fld 20 1 phase]]
  | .setRefresh k r =>
    ledgerRec 11 ((memberRows r).length + (absRows r).length) [fld 8 32 k, fld 40 3 r.stream, fld 43 1 (bit r.fc), fld 44 5 r.w, fld 49 16 r.nextWl,
      fld 65 32 ((r.lastAbsent.map (2 ^ ·)).sum)] :: (memberRows r ++ absRows r)
  | .cycleBegin n => [ledgerRec 12 0 [fld 8 48 n]]
  | .link a b => [ledgerRec 13 0 [fld 8 32 a, fld 40 32 b]]
  | .blockRetired b reason => [ledgerRec 14 0 [fld 8 32 b, fld 40 3 reason]]

/-- The 256 records of a ledger frame: the frames of a run of entries are filled in order, and an entry that does not fit leaves PAD records
(TYPE 0) to the frame's end (R192). -/
def fillFrames (xs : List LedgerEntry) : List (List Nat) :=
  let step (acc : List (List Nat) × List Nat) (e : LedgerEntry) : List (List Nat) × List Nat :=
    let r := e.pack
    if acc.2.length + r.length ≤ 256 then (acc.1, acc.2 ++ r) else (acc.1 ++ [acc.2], r)
  let (done, last) := xs.foldl step ([], [])
  done ++ [last]
/-- Frame f of a ledger page: frames 0 to 7 new entries, frames 8 to 15 refresh entries. -/
def LedgerPage.frame (p : LedgerPage) (f : Nat) : Nat :=
  packRow 128 (if f < 8 then (fillFrames p.entries).getD f [] else (fillFrames p.refresh).getD (f - 8) [])

end Sys2Proof.Machine
end

