-- ==== Sys2Proof/Machine/Ldpc.lean ====
section
/-! DEFINITION. The frame code and the scrambler (05_frames_and_ldpc R103, R104, R108), and the Reed-Solomon codes of DRAM bursts and of tree-store words
(14_dram_and_map_cache R340, 18_tree_store_and_update R407). A string of bits is a number whose bit j is bit j
of the string: codeword bit 8b + k is bit k of byte b. -/
namespace Sys2Proof.Machine

/-- Bits of a codeword, of its information part, and of a block of the base matrix. -/
def codeBits : Nat := 37504
def infoBits : Nat := 34304
def blockBits : Nat := 128
/-- Information columns and rows of the base matrix. -/
def infoColumns : Nat := 268
def baseRows : Nat := 25

/-- Row of the m-th non-zero entry of information column j, and the shift of the entry (i, j) (R108). -/
def infoRow (j m : Nat) : Nat := (j + m * (1 + j % 6)) % 25
def baseShift (i j : Nat) : Nat := (13 * i + 7 * j * j + i * j) % 128
/-- Whether the base matrix has a non-zero entry at (i, j). -/
def baseEntry (i j : Nat) : Bool :=
  if j < infoColumns then (List.range 4).any fun m => infoRow j m = i
  else decide (j - infoColumns = i) || decide (j - infoColumns + 1 = i)

/-- The identity shifted right by k, applied to 128 bits: bit r of the product is bit (r + k) mod 128 of the block. -/
def shiftBlock (k x : Nat) : Nat := x / 2 ^ k + x % 2 ^ k * 2 ^ (128 - k)
/-- Block j of a bit string. -/
def codeBlock (x j : Nat) : Nat := bitField x (128 * j) 128

/-- S_i: the sum of the shifted information blocks in row i. -/
def rowSum (info i : Nat) : Nat :=
  (List.range infoColumns).foldl (fun s j => if baseEntry i j then s ^^^ shiftBlock (baseShift i j) (codeBlock info j) else s) 0

/-- The parity blocks: p_0 = S_0 and p_t = S_t XOR p_(t-1), the first `n` of them as one bit string, with the last of them. -/
def parityBlocks (info : Nat) : (n : Nat) → Nat × Nat
  | 0 => (0, 0)
  | t + 1 =>
    let (bits, prev) := parityBlocks info t
    let p := rowSum info t ^^^ prev
    (bits + p * 2 ^ (128 * t), p)

/-- The codeword of an information part: the 400 parity bytes follow it. -/
def encode (info : Nat) : Nat := info % 2 ^ infoBits + (parityBlocks info baseRows).1 * 2 ^ infoBits

/-- The product of row i of the parity-check matrix with a codeword; 0 in every row of a codeword. -/
def syndrome (word i : Nat) : Nat :=
  (List.range 293).foldl (fun s j =>
    if baseEntry i j then s ^^^ shiftBlock (if j < infoColumns then baseShift i j else 0) (codeBlock word j) else s) 0

/-- `n` bits of the PRBS31 generator x^31 + x^28 + 1 from a register: the bit shifted in is the exclusive or of register bits 30 and 27, and is
the output (DESIGN CHOICE, log 84). -/
def prbs31 : (n reg : Nat) → Nat
  | 0, _ => 0
  | n + 1, reg =>
    let b := (bitField reg 30 1 + bitField reg 27 1) % 2
    b + 2 * prbs31 n (reg * 2 % 2 ^ 31 + b)

/-- Scrambling, and its removal: the codeword XORed with the generator's output (R104). -/
def scramble (seed word : Nat) : Nat := word ^^^ prbs31 codeBits seed

/-! ### Reed-Solomon codes over GF(2^8), 0x11D. A polynomial is the list of its coefficients, the highest first, and symbol 0 of a codeword is
its highest (DESIGN CHOICE, log 89) -/

/-- A polynomial times x - r. -/
def polyTimes (p : List Byte) (r : Byte) : List Byte := List.zipWith (· ^^^ ·) (p ++ [0#8]) (0#8 :: p.map (gfMul r))
/-- The generator polynomial with `n` check symbols: the product of x - 2^i for the first `n` i. -/
def rsGenerator : (n : Nat) → List Byte
  | 0 => [1#8]
  | n + 1 => polyTimes (rsGenerator n) (gfPow n)
/-- One step of the division by the generator, whose leading coefficient is 1, with the next data symbol. -/
def rsStep (g rem : List Byte) (d : Byte) : List Byte :=
  let f := d ^^^ rem.headD 0#8
  List.zipWith (· ^^^ ·) (rem.drop 1 ++ [0#8]) ((g.drop 1).map (gfMul f))
/-- The `n` check symbols of data: the remainder of the data, raised by `n` places. -/
def rsCheck (n : Nat) (data : List Byte) : List Byte := data.foldl (rsStep (rsGenerator n)) (List.replicate n 0#8)
/-- Syndrome i of a received word: its value at 2^i; those of a codeword are 0. -/
def rsSyndrome (word : List Byte) (i : Nat) : Byte := word.foldl (fun a d => gfMul (gfPow i) a ^^^ d) 0#8

/-- A burst's codeword: 64 data symbols and 16 check symbols (R340). -/
def burstWord (data : List Byte) : List Byte := data ++ rsCheck 16 data
/-- A tree-store word: 16 data bytes and 3 check bytes (R407; the generator is a DESIGN CHOICE, log 89). -/
def storeWord (data : List Byte) : List Byte := data ++ rsCheck 3 data

end Sys2Proof.Machine
end

