-- ==== Sys2Proof/Machine/Observe.lean ====
section
/-! DEFINITION. Event counters and the saddlebag (17_observability): counting an event, leaving a record, the ring and its
holding buffer, and the report a record of severity 2 and above makes to the fault sequencer (R444). -/
namespace Sys2Proof.Machine

/-! ### Counters -/

/-- Largest value of a counter (R392). -/
def counterMax : Nat := 2 ^ 48 - 1

/-- Whether a counter counts events of a source at an instance (R392, R393). -/
def Counter.counts (c : Counter) (src inst : Nat) : Bool :=
  c.enable && decide (c.src = src) && decide (src ≠ 0) && (decide (c.inst = 0x7FF) || decide (c.inst = inst))

/-- A counter after `n` events that it counts: it saturates and sets SAT (R392). -/
def Counter.add (c : Counter) (n : Nat) : Counter :=
  if counterMax ≤ c.value + n then { c with value := counterMax, sat := true } else { c with value := c.value + n }

/-- The counters after `n` events of a source at an instance. -/
def ObsState.counted (o : ObsState) (src inst n : Nat) : List Counter :=
  o.counters.map fun c => if c.counts src inst then c.add n else c

/-- Numbers of the counters that these events saturate for the first time, whose code 0x0003 is due. -/
def ObsState.newlySaturated (o : ObsState) (src inst n : Nat) : List Nat :=
  (List.range o.counters.length).filter fun i =>
    let c := o.counters.getD i {}
    c.counts src inst && !c.sat && decide (counterMax ≤ c.value + n)

/-- `n` events of counter source `src` at instance `inst` (R392); a source without instances counts at 0x7FF. -/
def ObsState.count (o : ObsState) (src inst n : Nat) : ObsState :=
  { o with counters := o.counted src inst n, satDue := o.satDue ++ o.newlySaturated src inst n }

def State.count (s : State) (src inst n : Nat) : State := { s with obs := s.obs.count src inst n }

/-- One event of a source without instances. -/
def State.count1 (s : State) (src : Nat) : State := s.count src 0x7FF 1

/-! ### The layout of a record (R398) -/

/-- Length of a record in 8-byte words; a PAD record has the length it was given. -/
def SbRec.len (r : SbRec) : Nat := if r.code = 0 then r.suppressed else 2 + r.fields.length

/-- SB_HDR, word 0 (R398): WT bits [35:0]. -/
def SbRec.hdr (r : SbRec) : Nat := packFields [fld 0 16 r.code, fld 16 8 r.len, fld 24 4 r.sev, fld 28 36 r.wt]

/-- SB_EXT, word 1 (R398). -/
def SbRec.ext (r : SbRec) : Nat := packFields [fld 0 32 r.suppressed, fld 32 28 (r.wt / 2 ^ 36)]

/-- The words of a record: header, extension, one word a field; a PAD record has its header and no extension (R399). -/
def SbRec.words (r : SbRec) : List Nat :=
  if r.code = 0 then r.hdr :: List.replicate (r.len - 1) 0 else r.hdr :: r.ext :: r.fields.map (· % 2 ^ 64)

/-- The bytes of a record. -/
def SbRec.bytes (r : SbRec) : List Byte := r.words.flatMap (toBytes 8)

/-- Bytes a record takes. -/
def SbRec.size (r : SbRec) : Nat := 8 * r.len

/-- A PAD record of `n` bytes, with the WT of the record that follows it (R399). -/
def padRec (n wt : Nat) : SbRec := { code := 0, sev := 0, wt := wt, suppressed := n / 8, fields := [] }

/-! ### Ring and holding buffer -/

/-- Records whose bytes the ring still holds once it has been written up to `pos` (R397). -/
def keepRecords (pos : Nat) (ring : List (Nat × SbRec)) : List (Nat × SbRec) :=
  ring.filter fun (p, r) => decide (pos < p + r.size + Config.ringBytes)

/-- Write a record at the ring's write position, behind a PAD record when it does not fit before the ring's end (R397). -/
def ObsState.ringWrite (o : ObsState) (r : SbRec) : ObsState :=
  let room := Config.ringBytes - o.writePos % Config.ringBytes
  if r.size ≤ room then
    { o with writePos := o.writePos + r.size, ring := keepRecords (o.writePos + r.size) (o.ring ++ [(o.writePos, r)]) }
  else
    let p := o.writePos + room
    { o with writePos := p + r.size,
             ring := keepRecords (p + r.size) (o.ring ++ [(o.writePos, padRec room r.wt), (p, r)]) }

/-- Bytes in the holding buffer. -/
def ObsState.held (o : ObsState) : Nat := (o.holding.map SbRec.size).sum

/-- New records go to the holding buffer: a 0xC3 transfer is in progress, or the ring has not been started (R402, R404). -/
def ObsState.holds (o : ObsState) : Bool := !o.ringOn || !o.transfers.isEmpty

/-- Of one WT, records of a lower code stand first: those that follow at their WT are of one wheel-clock cycle (R397) (DESIGN CHOICE, log 91). -/
def SbRec.precedes (r x : SbRec) : Bool := decide (x.wt = r.wt) && decide (r.code < x.code)

/-- Write a record into the ring, before the records of its cycle with a higher code that the host has not released (R397). -/
def ObsState.ringInsert (o : ObsState) (r : SbRec) : ObsState :=
  let n := o.ring.length - (o.ring.reverse.takeWhile fun (p, x) => decide (o.releasePos ≤ p) && r.precedes x).length
  match o.ring.drop n with
  | [] => o.ringWrite r
  | (p, x) :: rest => ((p, x) :: rest).foldl (fun o x => o.ringWrite x.2) (({ o with writePos := p, ring := o.ring.take n } : ObsState).ringWrite r)

/-- Put a record into the holding buffer, or lose it when the buffer is full: LOST rises and source 0x0C2 counts (R402). -/
def ObsState.holdRecord (o : ObsState) (r : SbRec) : ObsState :=
  if o.held + r.size ≤ Config.holdBytes then
    let n := o.holding.length - (o.holding.reverse.takeWhile r.precedes).length
    { o with holding := o.holding.take n ++ r :: o.holding.drop n }
  else { o.count 0x0C2 0x7FF 1 with lost := satAdd 32 o.lost 1, holdLost := satAdd 32 o.holdLost 1 }

/-- Write a record: into the ring, or into the holding buffer while the ring may not be written; source 0x0C0 counts it. -/
def ObsState.put (o : ObsState) (r : SbRec) : ObsState :=
  if o.holds then o.holdRecord r else (o.count 0x0C0 0x7FF 1).ringInsert r

/-- Holding ends (R402): the held records move into the ring in order, and a 0x0002 record tells how many were lost after
them; it takes no token. -/
def ObsState.endHolding (o : ObsState) (wt : Nat) : ObsState :=
  let recs := o.holding ++ (if o.holdLost = 0 then [] else [{ code := 0x0002, sev := 2, wt := wt, suppressed := 0, fields := [o.holdLost] }])
  (recs.foldl (fun o r => (o.count 0x0C0 0x7FF 1).ringWrite r) { o with holding := [], holdLost := 0 })

/-- OLDEST_POS: the first record position at or above RELEASE_POS and WRITE_POS - 8 MiB (R401). -/
def ObsState.oldestPos (o : ObsState) : Nat :=
  ((o.ring.map (·.1)).find? fun p => decide (o.releasePos ≤ p) && decide (o.writePos ≤ p + Config.ringBytes)).getD o.writePos

/-! ### Rate limit (R400) -/

/-- Tokens taken from a code's bucket. -/
def ObsState.taken (o : ObsState) (code : Nat) : Nat := (Table.getD o.spent code (0, 0)).2

/-- A record of the code may be written: severity 4 always, others while a token is left (R400). -/
def State.mayWrite (s : State) (code sev : Nat) : Bool := decide (4 ≤ sev) || decide (s.obs.taken code < s.img.burst sev)

/-- Take a token; severity 4 takes none. -/
def ObsState.take (o : ObsState) (code sev : Nat) : ObsState :=
  if 4 ≤ sev then o else { o with spent := Table.set o.spent code (sev, o.taken code + 1) }

/-- The token refill of a local round boundary: the bucket of a code of severity `sev` gains a token when the count of rounds
is a multiple of REFILL[sev] (R400). -/
def refillTokens (img : ImgState) (rounds : Nat) (spent : Table (Nat × Nat)) : Table (Nat × Nat) :=
  (spent.map fun (c, (sev, n)) => (c, (sev, if rounds % (max 1 (img.refill sev)) = 0 then n - 1 else n))).filter
    fun (_, (_, n)) => decide (0 < n)

/-! ### Leaving a record -/

/-- The record of a code as it would be written now. -/
def State.record (s : State) (code sev : Nat) (fields : List Nat) : SbRec :=
  { code := code, sev := sev, wt := s.wheel.wt, suppressed := Table.getD s.obs.suppressed code 0, fields := fields }

/-- The record is also programmed into the persistence region: severity 3 and 4 (R405). -/
def persistOp (r : SbRec) : List ArrayOp := if 3 ≤ r.sev then [⟨5, .append .persistence (.saddlebag r)⟩] else []

/-- The report a record's fault makes to the sequencer: severity 2 to 4; the sequencer's own codes make none (R444). -/
def reportOf (code sev : Nat) : List (Nat × Nat) := if 2 ≤ sev ∧ code / 256 ≠ 1 then [(code, sev)] else []

/-- Write a record that has passed the rate limit: into the ring or the holding buffer, with its persisted copy. -/
def State.putRecord (s : State) (r : SbRec) : State :=
  { s with obs := { s.obs.put r with suppressed := Table.del (s.obs.put r).suppressed r.code },
           ts := { s.ts with queue := s.ts.queue ++ persistOp r } }

/-- The record of a code under the rate limit of R400: written with a token, or suppressed. No record is written in fault
stop (R453). -/
def State.recordEvent (s : State) (code sev : Nat) (fields : List Nat) : State :=
  if s.obs.frozen then s
  else if s.mayWrite code sev then
    let s' := s.putRecord (s.record code sev fields)
    { s' with obs := s'.obs.take code sev }
  else
    let o := s.obs.count 0x0C1 0x7FF 1
    { s with obs := { o with suppressed := Table.set o.suppressed code (satAdd 32 (Table.getD o.suppressed code 0) 1) } }

/-- The device leaves a code: its record under R400, and its report to the fault sequencer at severity 2 and above, made even
when the record is suppressed (R444) (DEDUCED, log 25). -/
def State.leave (s : State) (code sev : Nat) (fields : List Nat) : State :=
  { s.recordEvent code sev fields with fault := { s.fault with made := s.fault.made ++ reportOf code sev } }

/-- Holding ends; a record of lost ones is a report of its severity too (R402, R444). -/
def State.endHolding (s : State) : State :=
  { s with obs := s.obs.endHolding s.wheel.wt, fault := { s.fault with made := s.fault.made ++ (if s.obs.holdLost = 0 then [] else reportOf 0x0002 2) } }

/-- Leave code 0x0003 for every counter whose saturation is due (R392): counter, source. -/
def State.leaveSaturations (s : State) : State :=
  let due := s.obs.satDue
  due.foldl (fun s i => s.leave 0x0003 0 [i, (s.obs.counters.getD i {}).src]) { s with obs := { s.obs with satDue := [] } }

/-! ### Layouts -/

/-- SB_STATUS (R401). -/
def State.sbStatus (s : State) (persisted : Nat) : Nat :=
  packFields [fld 0 64 s.obs.writePos, fld 64 64 s.obs.oldestPos, fld 128 64 s.wheel.wt, fld 192 64 s.obs.releasePos,
    fld 256 32 s.obs.lost, fld 288 32 persisted]

/-- COUNTER_SEL of a counter (R393); CLEAR reads 0. -/
def Counter.pack (c : Counter) : Nat :=
  packFields [fld 0 9 c.src, fld 16 1 (bit c.enable), fld 32 11 c.inst, fld 48 48 c.value, fld 96 1 (bit c.sat)]

/-- The kinds of instance a counter source may be restricted to: how many there are, or none (the table of R395). A source that
is not listed is reserved. -/
def sourceInstances (src : Nat) : Option Nat :=
  if src ∈ [0x010, 0x011, 0x015, 0x016, 0x017, 0x018, 0x01A, 0x01B, 0x01D] then some 2
  else if src ∈ [0x030, 0x031, 0x032, 0x033, 0x034, 0x035, 0x036, 0x037, 0x040, 0x041, 0x042, 0x043] then some 32
  else if src ∈ [0x0A0, 0x0A1] then some 8
  else if src ∈ [0x000, 0x001, 0x002, 0x012, 0x013, 0x014, 0x019, 0x01C, 0x020, 0x021, 0x022, 0x023, 0x024, 0x038, 0x050,
    0x051, 0x052, 0x053, 0x060, 0x061, 0x070, 0x071, 0x080, 0x090, 0x091, 0x092, 0x0A2, 0x0A3, 0x0B0, 0x0C0, 0x0C1, 0x0C2,
    0x0D0, 0x0D1, 0x0D2, 0x0D3] then some 0
  else none

/-! ### Sparse pages -/

/-- A page of the device as the parts that are not zero: offset and bytes. -/
abbrev Page := List (Nat × List Byte)

/-- Put bytes over a byte string from an offset on. -/
def patch : List Byte → Nat → List Byte → List Byte
  | [], _, _ => []
  | bs, _, [] => bs
  | _ :: bs, 0, x :: xs => x :: patch bs 0 xs
  | b :: bs, n + 1, xs => b :: patch bs n xs

/-- `len` bytes of a page from `off` on; a byte that no part covers is its base's. -/
def pageOver (base : Nat → Byte) (pg : Page) (off len : Nat) : List Byte :=
  pg.foldl (fun acc (at_, bs) =>
    if at_ + bs.length ≤ off ∨ off + len ≤ at_ then acc
    else if off ≤ at_ then patch acc (at_ - off) bs
    else patch acc 0 (bs.drop (off - at_))) ((List.range len).map fun i => base (off + i))

/-- A page whose bytes that no part covers are 0. -/
def pageSlice (pg : Page) (off len : Nat) : List Byte := pageOver (fun _ => 0#8) pg off len

/-- A structure of `len` bytes as a page's part. -/
def part (off len x : Nat) : Nat × List Byte := (off, toBytes len x)

end Sys2Proof.Machine
end

