-- ==== Sys2Proof/Machine/Array.lean ====
section
/-! DEFINITION. The tree store's array and its sequencer (18_tree_store_and_update R406 to R417): rings, live records, the
order of precedence, erases, and what the end of an array operation does to the array (DEDUCED, log 26). -/
namespace Sys2Proof.Machine

/-! ### Regions (R411) -/

/-- First sector of a ring. -/
def Region.first : Region → Nat
  | .status => 1 | .persistence => 776 | .wtRes => 904 | .ctrRes => 906 | .ledgerAnchor => 938 | .dumpAnchor => 946
  | .hold => 948 | .keyStore => 952 | .optionLog => 976

/-- Sectors of a ring. -/
def Region.sectors : Region → Nat
  | .status => 4 | .persistence => 128 | .wtRes => 2 | .ctrRes => 32 | .ledgerAnchor => 8 | .dumpAnchor => 2
  | .hold => 4 | .keyStore => 24 | .optionLog => 4

/-- Precedence of the operations on a ring (R408): 3 reservations and ledger anchors, 2 dump anchors, 4 key store,
5 persistence, 6 option log and hold lists. A sector-status record has the class of the erase or update it belongs to. -/
def Region.cls : Region → Nat
  | .status => 7 | .persistence => 5 | .wtRes => 3 | .ctrRes => 3 | .ledgerAnchor => 3 | .dumpAnchor => 2
  | .hold => 6 | .keyStore => 4 | .optionLog => 6

def allRegions : List Region := [.status, .persistence, .wtRes, .ctrRes, .ledgerAnchor, .dumpAnchor, .hold, .keyStore, .optionLog]

/-- The ring a sector belongs to. -/
def regionOfSector (sector : Nat) : Option Region :=
  allRegions.find? fun r => decide (r.first ≤ sector) && decide (sector < r.first + r.sectors)

/-- Words of a record in its ring: 16 bytes each (R413, R415, R416, R398). -/
def TsRec.words : TsRec → Nat
  | .holdList _ es => 1 + ceilDiv es.length 4
  | .optFeature .. => 3
  | .keyLabel .. => 3
  | .keyGen .. => 3
  | .keyBlob .. => 9
  | .keyRoot .. => 9
  | .saddlebag r => ceilDiv r.size 16
  | _ => 1

/-! ### What a record programs: 16-byte code words, word 0 first (R407, R410, R412, R413, R225, R303, R415, R416, R405) -/

/-- RING_HDR of a ring's sector. -/
def ringHdr (r : Region) (sseq : Nat) : Nat := packFields [fld 0 16 0x7EE5, fld 16 8 r.first, fld 24 32 sseq]
/-- The 16-byte words of a byte string, the last one filled with zeros. -/
def wordsOf (bs : List Byte) : List Nat := (List.range (ceilDiv bs.length 16)).map fun i => ofBytes ((bs.drop (16 * i)).take 16)
/-- OPT_REC: a header with KIND, FID, SEL, the code of WORDS and VALUE, its CRC over bits [63:0] and the data words, then those words. -/
def optRec (kind fid sel code value : Nat) (data : List Byte) : List Nat :=
  let h := packFields [fld 0 4 kind, fld 4 8 fid, fld 12 6 sel, fld 18 2 code, fld 20 44 value]
  (h + crc32c (toBytes 8 h ++ data) * 2 ^ 64) :: wordsOf data
/-- The words of a hold list: HOLD_HDR with the CRC over the entry words, then four entries a word. -/
def holdWords (serial : Nat) (es : List (Nat × Nat)) : List Nat :=
  let rows := (List.range (ceilDiv es.length 4)).map fun i => packRow 32 (((es.drop (4 * i)).take 4).map fun (b, set) => b % 2 ^ 26 + set % 2 * 2 ^ 26)
  packFields [fld 0 32 serial, fld 32 13 es.length, fld 64 32 (crc32c (rows.flatMap (toBytes 16)))] :: rows
/-- The words of a record. -/
def TsRec.image : TsRec → List Nat
  | .sectorStat s ty => [packFields [fld 0 10 s, fld 10 3 ty]]
  | .wtRes top => [packFields [fld 0 64 top]]
  | .ctrRes n g top => [packFields [fld 0 13 n, fld 16 32 g, fld 48 49 top]]
  | .ledgerAnchor a b page cycle => [packFields [fld 0 26 a, fld 26 26 b, fld 52 16 page, fld 68 48 cycle]]
  | .dumpAnchor ty set serial mask wt => [packFields [fld 0 4 ty, fld 4 1 set, fld 8 32 serial, fld 40 32 mask, fld 72 48 wt]]
  | .holdList serial es => holdWords serial es
  | .optFeature fid sel buf => optRec 1 fid sel 1 0 (toBytes 32 buf.toNat)
  | .optU0 u => optRec 2 0 0 0 u []
  | .optLane ch rank lane => optRec 3 0 0 0 (ch % 8 + 8 * (rank % 2) + 16 * (lane % 8)) []
  | .optLock l => optRec 4 0 0 0 (bit l) []
  | .optIsolated d c => optRec 9 0 0 0 (d % 1024 + 1024 * (c % 16)) []
  | .keyLabel n l => optRec 5 0 0 1 (n % 8192) (toBytes 32 l.toNat)
  | .keyGen n g w => optRec 6 0 0 1 (n % 8192) (toBytes 32 (g % 2 ^ 32 + bit w * 2 ^ 32))
  | .keyBlob n b => optRec 7 0 0 2 (n % 8192) (padTo 128 b)
  | .keyRoot b => optRec 8 0 0 2 0x1FFF (padTo 128 b)
  | .saddlebag r => wordsOf r.bytes
/-- The 19 bytes of a code word in the array: its data and its check bytes. -/
def codeWord (x : Nat) : List Byte := storeWord (toBytes 16 x)

/-! ### Reading the rings -/

/-- The opened sectors of a ring, oldest first. -/
def TsState.ring (t : TsState) (r : Region) : List RingSector := ((t.rings.find? fun (r', _) => r' = r).map (·.2)).getD []

/-- The readable records of a ring, oldest first. -/
def TsState.records (t : TsState) (r : Region) : List TsRec := (t.ring r).flatMap fun sec => sec.recs.map (·.2)

/-- The newest record of a ring that a test accepts. -/
def TsState.newest (t : TsState) (r : Region) (p : TsRec → Bool) : Option TsRec := (t.records r).reverse.find? p

/-- The newest SECTOR_STAT TYPE of a sector: 1 BEGUN, 2 DONE, 3 BAD, 4 UPD_BEGUN, 5 UPD_DONE, 0 none (R410) (DEDUCED, log 48). -/
def TsState.sectorType (t : TsState) (sector : Nat) : Nat :=
  match t.newest .status (fun r => match r with | .sectorStat s _ => s = sector | _ => false) with
  | some (.sectorStat _ ty) => ty
  | _ => 0

/-- Whether the newest erase record of a sector is BEGUN: half-erased (R410). -/
def TsState.halfErasedSector (t : TsState) (sector : Nat) : Bool :=
  match t.newest .status (fun r => match r with | .sectorStat s ty => decide (s = sector) && decide (ty ≤ 3) | _ => false) with
  | some (.sectorStat _ 1) => true
  | _ => false

/-- The highest RES_TOP that the WT reservation ring holds (R51). -/
def TsState.wtTop (t : TsState) : Option Nat :=
  ((t.records .wtRes).filterMap fun r => match r with | .wtRes x => some x | _ => none).max?

/-- The counter reservation of a slot: the record of highest GEN and then highest RES_TOP (R411). -/
def TsState.ctrTop (t : TsState) (slot : Nat) : Option (Nat × Nat) :=
  (t.records .ctrRes).foldl (fun best r =>
    match r with
    | .ctrRes s g top =>
      if s = slot then
        match best with
        | some (g', top') => if g' < g ∨ (g' = g ∧ top' < top) then some (g, top) else best
        | none => some (g, top)
      else best
    | _ => best) none

/-- The saved buffer of a feature and selector (R268, R415). -/
def TsState.feature (t : TsState) (fid sel : Nat) : Option (BitVec 256) :=
  match t.newest .optionLog (fun r => match r with | .optFeature f s _ => decide (f = fid) && decide (s = sel) | _ => false) with
  | some (.optFeature _ _ b) => some b
  | _ => none

def TsState.u0 (t : TsState) : Option Nat :=
  match t.newest .optionLog (fun r => match r with | .optU0 _ => true | _ => false) with | some (.optU0 x) => some x | _ => none

/-- OWNER_LOCK in force: the newest LOCK record (R415). -/
def TsState.ownerLock (t : TsState) : Bool :=
  match t.newest .optionLog (fun r => match r with | .optLock _ => true | _ => false) with | some (.optLock b) => b | _ => false

/-- Retired DRAM lanes and isolated dies of the option log. -/
def TsState.lanes (t : TsState) : List (Nat × Nat × Nat) :=
  (t.records .optionLog).filterMap fun r => match r with | .optLane c k l => some (c, k, l) | _ => none
def TsState.isolated (t : TsState) : List (Nat × Nat) :=
  (t.records .optionLog).filterMap fun r => match r with | .optIsolated d c => some (d, c) | _ => none

/-- The newest LABEL, GEN, BLOB of a slot and the newest ROOT (R416). -/
def TsState.label (t : TsState) (slot : Nat) : Option (BitVec 256) :=
  match t.newest .keyStore (fun r => match r with | .keyLabel s _ => s = slot | _ => false) with
  | some (.keyLabel _ l) => some l
  | _ => none
def TsState.gen (t : TsState) (slot : Nat) : Option (Nat × Bool) :=
  match t.newest .keyStore (fun r => match r with | .keyGen s _ _ => s = slot | _ => false) with
  | some (.keyGen _ g w) => some (g, w)
  | _ => none
def TsState.blobs (t : TsState) (slot : Nat) : List (List Byte) :=
  (t.records .keyStore).filterMap fun r => match r with | .keyBlob s b => if s = slot then some b else none | _ => none
def TsState.rootBlob (t : TsState) : Option (List Byte) :=
  match t.newest .keyStore (fun r => match r with | .keyRoot _ => true | _ => false) with | some (.keyRoot b) => some b | _ => none

/-! ### Live records (R411, R415, R416) -/

/-- Two records of which the newer replaces the older. -/
def TsRec.sameKey : TsRec → TsRec → Bool
  | .wtRes _, .wtRes _ => true
  | .ledgerAnchor .., .ledgerAnchor .. => true
  | .dumpAnchor t .., .dumpAnchor t' .. => t = t'
  | .holdList .., .holdList .. => true
  | .optFeature f s _, .optFeature f' s' _ => decide (f = f') && decide (s = s')
  | .optU0 _, .optU0 _ => true
  | .optLock _, .optLock _ => true
  | .optLane c r l, .optLane c' r' l' => decide (c = c') && decide (r = r') && decide (l = l')
  | .optIsolated d _, .optIsolated d' _ => d = d'
  | .keyLabel s _, .keyLabel s' _ => s = s'
  | .keyGen s .., .keyGen s' .. => s = s'
  | .keyBlob s _, .keyBlob s' _ => s = s'
  | .keyRoot _, .keyRoot _ => true
  | _, _ => false

/-- Whether a record of a ring is live, given the records that follow it. -/
def TsState.isLive (t : TsState) (r : TsRec) (later : List TsRec) : Bool :=
  match r with
  | .sectorStat s 3 => !(later.any fun x => match x with | .sectorStat s' 3 => s = s' | _ => false)
  | .sectorStat s 4 => !(later.any fun x => match x with | .sectorStat s' ty => decide (s = s') && decide (4 ≤ ty) | _ => false)
  | .sectorStat .. => false
  | .saddlebag _ => false
  | .ctrRes s g top => t.ctrTop s = some (g, top)
  | .keyBlob s _ =>
    let newer := (later.filter fun x => r.sameKey x).length
    decide (newer = 0) || (decide (newer = 1) && ((t.gen s).map (·.2)).getD false)
  | _ => !(later.any fun x => r.sameKey x)

/-- The live ones of a list of records followed by further records. -/
def TsState.liveOf (t : TsState) : (recs rest : List TsRec) → List TsRec
  | [], _ => []
  | r :: rs, rest => (if t.isLive r (rs ++ rest) then [r] else []) ++ TsState.liveOf t rs rest

/-! ### Appending (R412) -/

/-- Set the sectors of a ring. -/
def TsState.setRing (t : TsState) (r : Region) (secs : List RingSector) : TsState :=
  { t with rings := (r, secs) :: t.rings.filter fun (r', _) => r' ≠ r }

/-- Put records one after another into a sector from its fill on. -/
def RingSector.push (sec : RingSector) : List TsRec → RingSector
  | [] => sec
  | r :: rs => RingSector.push { sec with fill := sec.fill + r.words, recs := sec.recs ++ [(sec.fill, r)] } rs

/-- A sector as it is opened: its RING_HDR programmed. -/
def openedSector (sector sseq : Nat) : RingSector := { sector := sector, sseq := sseq, fill := 1, recs := [] }

/-- The next sector of a ring behind its head that is blank and not BAD. -/
def TsState.nextSector (t : TsState) (r : Region) : Option Nat :=
  let secs := t.ring r
  let head := (secs.getLast?.map (·.sector)).getD (r.first + r.sectors - 1)
  ((List.range r.sectors).map fun k => r.first + (head + 1 - r.first + k) % r.sectors).find? fun x =>
    !(secs.any fun sec => sec.sector = x) && !(t.bad.contains x)

/-- Sectors of a ring that are blank and not BAD. -/
def TsState.blankCount (t : TsState) (r : Region) : Nat :=
  ((List.range r.sectors).filter fun k =>
    !((t.ring r).any fun sec => sec.sector = r.first + k) && !(t.bad.contains (r.first + k))).length

/-- Open the next sector of a ring: its header, and, when it was the last erased one, the live records of the oldest sector,
whose erase then becomes due (R412 item 3); the persistence region copies none (DESIGN CHOICE, log 27). -/
def TsState.openSector (t : TsState) (r : Region) : TsState :=
  match t.nextSector r with
  | none => t
  | some x =>
    let secs := t.ring r
    let sseq := (secs.getLast?.map (·.sseq)).getD 0 + 1
    let fresh := openedSector x sseq
    if 1 < t.blankCount r then t.setRing r (secs ++ [fresh])
    else
      match secs with
      | [] => t.setRing r [fresh]
      | oldest :: rest =>
        let later := rest.flatMap fun sec => sec.recs.map (·.2)
        let live := if r = .persistence then [] else t.liveOf (oldest.recs.map (·.2)) later
        let t' := t.setRing r (secs ++ [fresh.push live])
        { t' with queue := t'.queue ++ [⟨r.cls, .erase oldest.sector 0⟩] }

/-- Words still free in a ring's head sector. -/
def TsState.headRoom (t : TsState) (r : Region) : Nat := ((t.ring r).getLast?.map fun sec => 4096 - sec.fill).getD 0

/-- The ring made ready for a record: its head sector has room for it. -/
def TsState.ready (t : TsState) (r : Region) (rec : TsRec) : TsState := if rec.words ≤ t.headRoom r then t else t.openSector r

/-- Change the head sector of a ring. -/
def TsState.modifyHead (t : TsState) (r : Region) (f : RingSector → RingSector) : TsState :=
  match (t.ring r).getLast? with
  | some sec => t.setRing r ((t.ring r).dropLast ++ [f sec])
  | none => t

/-- The record stands at the ring's head. -/
def TsState.append (t : TsState) (r : Region) (rec : TsRec) : TsState := (t.ready r rec).modifyHead r fun sec => sec.push [rec]

/-- The word at the ring's head is spent and holds no readable record (R412 item 4). -/
def TsState.burn (t : TsState) (r : Region) (rec : TsRec) : TsState :=
  (t.ready r rec).modifyHead r fun sec => { sec with fill := sec.fill + 1 }

/-- Byte offset in the array at which the ring's next record goes. -/
def TsState.headOffset (t : TsState) (r : Region) (rec : TsRec) : Nat :=
  (((t.ready r rec).ring r).getLast?.map fun sec => sec.sector * 65536 + 16 * sec.fill).getD (r.first * 65536)

/-! ### The image slot and the option block -/

/-- A byte of a sparse area whose blank bytes read 0xFF. -/
def blankByte (cells : List Host.Cell) (a : Nat) : Byte := Table.getD cells a 0xFF#8

/-- Bytes of a sparse area. -/
def blankBytes (cells : List Host.Cell) (off len : Nat) : List Byte := (List.range len).map fun i => blankByte cells (off + i)

/-- Program bytes into a sparse area; a byte that reads 0xFF is not listed. -/
def programBytes (cells : List Host.Cell) (off : Nat) : List Byte → List Host.Cell
  | [] => cells
  | b :: bs => programBytes (Table.put 0xFF#8 cells off b) (off + 1) bs

/-- The one form of a sparse area: addresses strictly rise, and no listed byte is one that an unlisted address reads as. -/
def Memory.wf (cells : List Host.Cell) : Bool := Table.wf cells && cells.all fun (_, b) => decide (b ≠ 0xFF#8)

/-- Erase a sector: a ring's records of it go, or the image slot's bytes in it. -/
def TsState.eraseSector (t : TsState) (sector : Nat) : TsState :=
  match regionOfSector sector with
  | some r => t.setRing r ((t.ring r).filter fun sec => sec.sector ≠ sector)
  | none =>
    if 8 ≤ sector ∧ sector ≤ 775 then
      { t with image := t.image.filter (fun (a, _) => a / 65536 ≠ sector - 8), imageUsed := t.imageUsed.filter (· ≠ sector) }
    else t

/-! ### The sequencer (R408, R409) -/

/-- Operations that program or erase. -/
def ArrayKind.writes : ArrayKind → Bool
  | .imageVerify _ => false
  | .read _ => false
  | _ => true

/-- The oldest pending operation of the highest precedence: its place in the queue. -/
def bestOp (allowed : ArrayOp → Bool) (q : List ArrayOp) : Option ArrayOp :=
  q.foldl (fun best op =>
    if allowed op then
      match best with
      | some b => if op.cls < b.cls then some op else best
      | none => some op
    else best) none

/-- Whether a running operation gives way to a pending one: an erase to a higher precedence, a program of class 7 to classes 1
and 2 (R408); a program or erase to a read of R409. -/
def ArrayOp.yields (running op : ArrayOp) : Bool :=
  match running.kind, op.kind with
  | .read _, _ => false
  | .imageVerify _, _ => false
  | _, .read _ => false
  | .erase _ 1, _ => decide (op.cls < running.cls)
  | _, _ => decide (running.cls = 7) && decide (op.cls ≤ 2)

/-- A ring has a writable place for a record: in its head sector, or in a further sector that is blank. -/
def TsState.hasRoom (t : TsState) (r : Region) (rec : TsRec) : Bool := decide (rec.words ≤ t.headRoom r) || (t.nextSector r).isSome
/-- Operations the sequencer may start: before shadowing ends it starts no program and no erase (R409); a record whose ring holds no writable
place waits until a sector of the ring has been erased (R52, R412). -/
def TsState.mayStart (t : TsState) (op : ArrayOp) : Bool :=
  (t.accept || !op.kind.writes) && (match op.kind with | .append r rec => t.hasRoom r rec | _ => true)

/-- Start the operation of highest precedence among the pending and the suspended, when none runs; a running one is suspended
where it gives way. The unlock values are written before each program or erase (R408). -/
def TsState.pump (t : TsState) : TsState :=
  match bestOp t.mayStart t.queue with
  | none =>
    match t.running, t.suspended with
    | none, op :: rest => { t with running := some op, suspended := rest, unlock := if op.kind.writes then 2 else 0 }
    | _, _ => t
  | some op =>
    let start (t : TsState) : TsState := { t with running := some op, queue := t.queue.erase op, unlock := if op.kind.writes then 2 else 0 }
    match t.running with
    | none =>
      match t.suspended with
      | sus :: rest =>
        if sus.cls ≤ op.cls then { t with running := some sus, suspended := rest, unlock := if sus.kind.writes then 2 else 0 }
        else start t
      | [] => start t
    | some run => if run.yields op then { start t with suspended := run :: t.suspended } else t

/-- Put an operation behind the pending ones. -/
def TsState.enqueue (t : TsState) (op : ArrayOp) : TsState := { t with queue := t.queue ++ [op] }

/-- A record is to be written to its ring. -/
def State.writeRec (s : State) (r : Region) (rec : TsRec) : State := { s with ts := s.ts.enqueue ⟨r.cls, .append r rec⟩ }

/-- Let the sequencer start what it may. -/
def State.arrayPump (s : State) : State := { s with ts := s.ts.pump }

/-- A running program was cut short: the word it stood at is spent (R407). -/
def TsState.cutShort (t : TsState) : TsState :=
  let burnOne (t : TsState) (op : ArrayOp) : TsState :=
    match op.kind with
    | .append r rec => t.burn r rec
    | .erase sector 0 => t.burn .status (.sectorStat sector 1)
    | .erase sector 2 => t.burn .status (.sectorStat sector 2)
    | _ => t
  match t.running with
  | some op => burnOne t op
  | none => t

/-! ### The end of an operation, on the array alone -/

/-- What the end of an erase's stage does: BEGUN programmed, sector erased, DONE programmed; the next stage follows as the next
operation of its class (R410). -/
def TsState.eraseDone (t : TsState) (cls sector stage : Nat) : TsState :=
  match stage with
  | 0 => let t := t.append .status (.sectorStat sector 1); { t with queue := ⟨cls, .erase sector 1⟩ :: t.queue }
  | 1 => let t := t.eraseSector sector; { t with queue := ⟨cls, .erase sector 2⟩ :: t.queue }
  | _ => t.append .status (.sectorStat sector 2)

/-- A failed erase: a BAD record, and the sector is never used again (R410). -/
def TsState.eraseFailed (t : TsState) (cls sector : Nat) : TsState :=
  { t with bad := sector :: t.bad, queue := ⟨cls, .append .status (.sectorStat sector 3)⟩ :: t.queue }

/-- KEY_HASH slot `i` is programmed (R414). -/
def TsState.keySlotUsed (t : TsState) (i : Nat) : Bool := t.option.any fun (a, _) => decide (0x100 + 64 * i ≤ a) && decide (a < 0x130 + 64 * i)

/-- The option block has its MAGIC and VERSION (R414). -/
def TsState.optionValid (t : TsState) : Bool := blankBytes t.option 0 4 = [0xA7#8, 0xB0#8, 0x01#8, 0x00#8]

/-- The key in force: the highest-numbered KEY_HASH slot that is programmed and reads without an uncorrectable word (R414). -/
def TsState.keyInForce (t : TsState) : Option (List Byte) :=
  if t.optionValid then
    (([3, 2, 1, 0].find? fun i => t.keySlotUsed i && !(t.optionBad.any fun o => decide (0x100 + 64 * i ≤ o) && decide (o < 0x130 + 64 * i))).map
      fun i => blankBytes t.option (0x100 + 64 * i) 48)
  else none

/-- Identify SN and MN (R414). -/
def TsState.serialNumber (t : TsState) : List Byte :=
  if t.optionValid ∧ t.option.any (fun (a, _) => decide (0x10 ≤ a) && decide (a < 0x30)) then blankBytes t.option 0x10 20
  else List.replicate 20 0x20#8
def asciiPadded (str : String) (n : Nat) : List Byte :=
  let bs := str.toList.map fun c => BitVec.ofNat 8 c.toNat
  bs.take n ++ List.replicate (n - bs.length) 0x20#8
def TsState.modelNumber (t : TsState) : List Byte :=
  if t.optionValid ∧ t.option.any (fun (a, _) => decide (0x30 ≤ a) && decide (a < 0x60)) then blankBytes t.option 0x30 40
  else asciiPadded "KT9600" 40

/-- KEY_SLOTS of TS_STATUS. -/
def TsState.keySlots (t : TsState) : Nat := packFields ((List.range 4).map fun i => fld i 1 (bit (t.keySlotUsed i)))

/-- Records in the persistence region (SB_STATUS.PERSISTED). -/
def TsState.persisted (t : TsState) : List SbRec :=
  (t.records .persistence).filterMap fun r => match r with | .saddlebag x => some x | _ => none

end Sys2Proof.Machine
end

