-- ==== Sys2Proof/Machine/Host.lean ====
section
/-! DEFINITION. The command front end's shared operations (10_reins R241 to R251, 11_commands R262 to R285): submission-entry
fields, queue names, statuses with their DNR, the completion pump with its reservations, error entries, asynchronous events and
the detachment of a twin side. -/
namespace Sys2Proof.Machine

/-! ### Fields of a submission entry (log 7) -/

/-- Dword `n` of a submission entry. -/
def dw (e : BitVec 512) (n : Nat) : Nat := bitField e.toNat (32 * n) 32
def sqeOpc (e : BitVec 512) : Nat := bitField e.toNat 0 8
def sqeFuse (e : BitVec 512) : Nat := bitField e.toNat 8 2
def sqePsdt (e : BitVec 512) : Nat := bitField e.toNat 14 2
def sqeCid (e : BitVec 512) : Nat := bitField e.toNat 16 16
def sqeNsid (e : BitVec 512) : Nat := bitField e.toNat 32 32
/-- PRP1, or the low half of SGL1. -/
def sqePrp1 (e : BitVec 512) : Nat := bitField e.toNat 192 64
/-- Type of SGL1's descriptor. -/
def sqeSglType (e : BitVec 512) : Nat := bitField e.toNat 316 4
def sqeSlba (e : BitVec 512) : Nat := bitField e.toNat 320 64
/-- Number of logical blocks, the field being one less. -/
def sqeNlb (e : BitVec 512) : Nat := bitField e.toNat 384 16 + 1

/-- The hash of a fetched entry: CRC-32C of bytes 0 to 31, then of bytes 32 to 63 (R246). -/
def entryHash (e : BitVec 512) : BitVec 64 :=
  let bs := toBytes 64 e.toNat
  BitVec.ofNat 64 (crc32c (bs.take 32) + 2 ^ 32 * crc32c (bs.drop 32))

/-! ### Names of controllers and queues (R240, R241) -/

def ReinState.port (r : ReinState) : Rein → ReinPort
  | .a => r.a
  | .b => r.b

def ReinState.setPort (r : ReinState) (x : Rein) (p : ReinPort) : ReinState :=
  match x with
  | .a => { r with a := p }
  | .b => { r with b := p }

def State.port (s : State) (x : Rein) : ReinPort := s.rein.port x
def State.modPort (s : State) (x : Rein) (f : ReinPort → ReinPort) : State :=
  { s with rein := s.rein.setPort x (f (s.rein.port x)) }

/-- TWIN mode is in force (the table of rein modes). -/
def State.twinMode (s : State) : Bool := decide (s.rein.twin.inForce = 1) && !s.rein.twin.merged

/-- Functions of the two reins share a controller: TWIN mode or merged (R240). -/
def State.sharedCtrl (s : State) : Bool := s.twinMode || s.rein.twin.merged

/-- CNTLID of a function of a rein. -/
def State.ctrlOf (s : State) (p : Port) : Nat := if s.sharedCtrl then p.func else 64 * p.rein.num + p.func

/-- The rein and function of a SEPARATE controller number. -/
def State.sqKey (s : State) (p : Port) (qid : Nat) : Nat :=
  s.ctrlOf p * 131072 + (if qid = 0 then p.rein.num * 65536 else qid)
def State.cqKey (s : State) (p : Port) (cqid : Nat) : Nat := s.ctrlOf p * 131072 + p.rein.num * 65536 + cqid

def State.ctrl (s : State) (c : Nat) : Ctrl := Table.getD s.fe.ctrls c {}
def State.modCtrl (s : State) (c : Nat) (f : Ctrl → Ctrl) : State :=
  { s with fe := { s.fe with ctrls := Table.set s.fe.ctrls c (f (s.ctrl c)) } }
def Ctrl.en (c : Ctrl) : Rein → Bool
  | .a => c.enA
  | .b => c.enB
def Ctrl.setEn (c : Ctrl) (r : Rein) (v : Bool) : Ctrl :=
  match r with
  | .a => { c with enA := v }
  | .b => { c with enB := v }

def Sq.side (q : Sq) : Rein → Option SqSide
  | .a => q.sideA
  | .b => q.sideB
def Sq.setSide (q : Sq) (r : Rein) (x : Option SqSide) : Sq :=
  match r with
  | .a => { q with sideA := x }
  | .b => { q with sideB := x }

def State.sq (s : State) (k : Nat) : Option Sq := Table.find s.fe.sqs k
def State.setSq (s : State) (k : Nat) (q : Sq) : State := { s with fe := { s.fe with sqs := Table.set s.fe.sqs k q } }
def State.cq (s : State) (k : Nat) : Option Cq := Table.find s.fe.cqs k
def State.setCq (s : State) (k : Nat) (q : Cq) : State := { s with fe := { s.fe with cqs := Table.set s.fe.cqs k q } }
def State.cmd (s : State) (tag : Nat) : Option Cmd := Table.find s.fe.cmds tag
def State.setCmd (s : State) (tag : Nat) (c : Cmd) : State := { s with fe := { s.fe with cmds := Table.set s.fe.cmds tag c } }
def State.modCmd (s : State) (tag : Nat) (f : Cmd → Cmd) : State :=
  { s with fe := { s.fe with cmds := Table.modify s.fe.cmds tag f } }

/-- `a < b` for counts kept modulo 2^32 (R244). -/
def posLt (a b : BitVec 32) : Bool := decide (1 ≤ (b - a).toNat) && decide ((b - a).toNat < 2 ^ 31)

/-! ### Statuses -/

/-- DNR of the generic and command-specific statuses (R470) and of the device's own (R284). -/
def dnrOf (sct sc : Nat) : Bool :=
  match sct with
  | 0 => sc ∈ [0x01, 0x02, 0x0B, 0x11, 0x13, 0x20, 0x80, 0x81]
  | 1 => sc ∈ [0x00, 0x01, 0x02, 0x08, 0x09, 0x0A, 0x0C, 0x15, 0x18, 0x1A, 0x1C]
  | 2 => sc ∈ [0x81, 0x82, 0x83, 0x84, 0x85]
  | 7 => sc ∈ [0xC1, 0xC3, 0xC8, 0xC9]
  | _ => false

/-- A status with the DNR its table gives. -/
def stat (sct sc : Nat) : CmdResult := { sct := sct, sc := sc, dnr := dnrOf sct sc, dw0 := 0, dw1 := 0 }
/-- Success. -/
def ok : CmdResult := stat 0 0
/-- Success with a DW0. -/
def okDw0 (x : Nat) : CmdResult := { ok with dw0 := x }
/-- 0:0x02 Invalid Field in Command. -/
def invalidField : CmdResult := stat 0 0x02
/-- 0:0x0C Command Sequence Error. -/
def sequenceError : CmdResult := stat 0 0x0C
/-- 7:0xC2 Lease Fenced, DNR 0 under R260. -/
def leaseFenced : CmdResult := stat 7 0xC2

/-! ### Counting, errors -/

/-- I/O opcodes of the write class (R259); Dataset Management is one when its Deallocate attribute is set, the skiver's when the
output goes to a namespace (CDW10 bit 11, R328). -/
def isWriteClass (admin : Bool) (e : BitVec 512) : Bool :=
  if admin then decide (sqeOpc e ∈ [0x80, 0x84, 0x0D, 0x15])
  else decide (sqeOpc e ∈ [0x01, 0x08, 0x89]) || (decide (sqeOpc e = 0x09) && decide (bitField (dw e 11) 2 1 = 1))
    || (decide (sqeOpc e ∈ [0x83, 0x87]) && decide (bitField (dw e 10) 11 1 = 1))

/-- Data units of 512 bytes that a command names, by its namespace's format. -/
def State.dataUnits (s : State) (c : Cmd) : Nat :=
  match Table.find s.fe.spaces (sqeNsid c.entry) with
  | some n => sqeNlb c.entry * (if n.flbas % 16 = 0 then 1 else 8)
  | none => 0

/-- SMART's counts of commands and data units (log 7): Read, Compare and Verify read; Write and the other write commands write. -/
def State.smartCount (s : State) (c : Cmd) (ok : Bool) : State :=
  if sqeOpc c.entry ∈ [0x02, 0x05, 0x0C] then
    { s with fe := { s.fe with hostReads := s.fe.hostReads + 1, unitsRead := s.fe.unitsRead + if ok then s.dataUnits c else 0 } }
  else if sqeOpc c.entry = 0x01 then
    { s with fe := { s.fe with hostWrites := s.fe.hostWrites + 1, unitsWritten := s.fe.unitsWritten + if ok then s.dataUnits c else 0 } }
  else s

/-- Count a completed command: sources 0x010 and 0x011 (R395). -/
def State.countCompleted (s : State) (c : Cmd) : State :=
  if c.admin then s
  else
    let s := s.smartCount c (match c.result with | some r => decide (r.sct = 0) && decide (r.sc = 0) | none => false)
    if sqeOpc c.entry = 0x02 then s.count 0x010 c.port.rein.num 1
    else if isWriteClass false c.entry then s.count 0x011 c.port.rein.num 1
    else s

/-- The parameter byte location that NVMe defines: the byte of the submission entry that a status names, where it names one field; else 0xFFFF (PRESUMED, log 28). -/
def errorLocation (status : Nat) : Nat :=
  match bitField status 0 11 with
  | 0x01 => 0    -- opcode
  | 0x03 => 2    -- CID
  | 0x0B => 4    -- NSID
  | 0x13 => 24   -- PRP1
  | 0x11 => 39   -- SGL1's descriptor type
  | 0x80 => 40   -- SLBA
  | _ => 0xFFFF

/-- Write an Error Information entry; the log keeps 64 (R269, R283) (DEDUCED, log 28). -/
def State.addError (s : State) (ctrl sqid cid status nsid lba vendor : Nat) : State :=
  let n := Table.getD s.fe.errorCount ctrl 0 + 1
  let e : ErrorEntry := { count := n, sqid := sqid, cid := cid, status := status, location := if sqid = 0xFFFF then 0xFFFF else errorLocation status, lba := lba, nsid := nsid, vendor := vendor }
  { s with fe := { s.fe with errorCount := Table.set s.fe.errorCount ctrl n, errors := Table.set s.fe.errors ctrl ((e :: Table.getD s.fe.errors ctrl []).take 64) } }

/-- Status field of a completion: SC [7:0], SCT [10:8], DNR [14] of the 15 bits above the phase tag. -/
def statusWord (r : CmdResult) : Nat := packFields [fld 0 8 r.sc, fld 8 3 r.sct, fld 14 1 (bit r.dnr)]

/-! ### Completions (R247, R273) -/

/-- A completion queue has a free slot. -/
def Cq.room (q : Cq) : Bool := decide (q.used + 1 < q.size)

/-- Write an entry at the tail. -/
def Cq.post (q : Cq) (e : CqEntry) : Cq :=
  { q with tail := (q.tail + 1) % q.size, used := q.used + 1, entries := q.entries ++ [e] }

/-- A CID not yet known: the side has not fetched its copy. -/
def noCid : Nat := 65536

/-- The completion entry of a command on a side, with the data that has moved through that side's rein. -/
def sideEntry (q : Sq) (side : SqSide) (cid : Nat) (r : CmdResult) (data : List Byte) : CqEntry :=
  { data := data, dw0 := r.dw0, dw1 := r.dw1, sqHead := side.fetch.toNat % q.qsize, sqid := q.qid, cid := cid, sct := r.sct, sc := r.sc, dnr := r.dnr }

/-- The link is up: L0, L0p or L1. -/
def ReinPort.up (p : ReinPort) : Bool := decide (p.link = 2) || decide (p.link = 3)
/-- What a dump lets the front end post: completions of commands whose units have all passed step 4 of the write path, over a rein that is up (R219). -/
def State.dumpPosts (s : State) (c : Cmd) (r : CmdResult) (side : Rein) : Bool :=
  !s.dump.since || (!c.admin && decide (sqeOpc c.entry = 0x01) && decide (r.sct = 0) && decide (r.sc = 0) && (s.port side).up)

/-- The completion of an accepted lease packet's command has been posted (R257). -/
def postLeases (tag : Nat) (ls : List LeaseDue) : List LeaseDue := ls.map fun l => if l.tag = tag then { l with posted := true } else l
def State.leasePosted (s : State) (tag : Nat) : State := { s with fe := { s.fe with leases := postLeases tag s.fe.leases } }

/-- Reserve a slot and write the completion of command `tag` on one side that owes it, when its copy has been fetched, a slot
is free and neither PS 4 nor a dump holds it (R219, R247, R273, R279) (DEDUCED, log 72). -/
def State.postSide (s : State) (tag : Nat) (r : CmdResult) (owed : Rein × Nat) : State :=
  match s.cmd tag with
  | none => s
  | some c =>
    match s.sq c.sq with
    | none => s
    | some q =>
      match q.side owed.1 with
      | none => s
      | some side =>
        match s.cq side.cq with
        | none => s
        | some cq =>
          if owed.2 < noCid ∧ cq.room ∧ s.dumpPosts c r owed.1 then
            let s := if c.reserved then s else s.countCompleted c
            ((s.setCq side.cq (cq.post (sideEntry q side owed.2 r (if owed.1 = c.port.rein then c.out else [])))).modCmd tag fun c =>
              { c with reserved := true, owed := c.owed.filter (· ≠ owed) }).leasePosted tag
          else s

/-- The rows of commands that NVMe-MI carries name no submission queue: over the sideband, and by NVMe-MI Send (R262, R456). -/
def sidebandKey : Nat := 1099511627776
def inBandKey : Nat := 1099511627777
/-- Such a row. -/
def Cmd.tunnelled (c : Cmd) : Bool := decide (c.sq = sidebandKey) || decide (c.sq = inBandKey)
/-- What NVMe-MI gives back of a tunnelled command: status, DW0 and the data (log 7). -/
def tunnelAnswer (r : CmdResult) (out : List Byte) : List Byte := toBytes 4 (statusWord r) ++ toBytes 4 r.dw0 ++ out
/-- A tunnelled command's answer leaves over the sideband, or waits for NVMe-MI Receive. -/
def State.tunnelEnds (s : State) (c : Cmd) (r : CmdResult) : State :=
  if c.sq = sidebandKey then { s with pkg := { s.pkg with sbAnswers := s.pkg.sbAnswers ++ [tunnelAnswer r c.out] } }
  else if c.sq = inBandKey then { s with pkg := { s.pkg with miReady := s.pkg.miReady ++ [tunnelAnswer r c.out] } }
  else s

/-- Free a tag whose completion is posted on every side that owes it (R247). -/
def State.freeIfDone (s : State) (tag : Nat) : State :=
  match s.cmd tag with
  | some c =>
    if c.result.isSome ∧ c.owed = [] then
      let s := s.tunnelEnds c (c.result.getD ok)
      let s := if c.tunnelled then s.leasePosted tag else s
      { s with fe := { s.fe with cmds := Table.del s.fe.cmds tag, ready := s.fe.ready.filter (· ≠ tag) } }
    else s
  | none => { s with fe := { s.fe with ready := s.fe.ready.filter (· ≠ tag) } }

/-- Post what can be posted of one command that has ended. -/
def State.postCmd (s : State) (tag : Nat) : State :=
  match s.cmd tag with
  | some c =>
    match c.result with
    | some r => if c.held then s else ((c.owed.foldl (fun s o => s.postSide tag r o) s).freeIfDone tag)
    | none => s
  | none => s.freeIfDone tag

/-- Post one waiting mismatch completion when its queue has a slot (R246). -/
def State.postMismatch (s : State) (m : Nat × Rein × BitVec 32 × CqEntry) : State :=
  match s.sq m.1 with
  | none => { s with fe := { s.fe with mismatches := s.fe.mismatches.erase m } }
  | some q =>
    match q.side m.2.1 with
    | none => { s with fe := { s.fe with mismatches := s.fe.mismatches.erase m } }
    | some side =>
      match s.cq side.cq with
      | none => s
      | some cq =>
        if cq.room then
          let s := s.setCq side.cq (cq.post { m.2.2.2 with sqHead := side.fetch.toNat % q.qsize })
          { s with fe := { s.fe with mismatches := s.fe.mismatches.erase m } }
        else s

/-- Post every completion that can be posted, oldest first. -/
def State.postAll (s : State) : State :=
  let s := if s.dump.since then s else s.fe.mismatches.foldl State.postMismatch s
  s.fe.ready.foldl State.postCmd s

/-- A command ends with a status: its completion is due, and its status is fixed once a slot is reserved (R273). The first
status stands (R274). An Error Information entry is written for an error, with the saddlebag code (R283). -/
def State.finishCode (s : State) (tag : Nat) (r : CmdResult) (code : Nat) : State :=
  match s.cmd tag with
  | none => s
  | some c =>
    if c.result.isSome then s
    else
      let s := s.modCmd tag fun c => { c with result := some r, started := true }
      let s := if r.sct = 0 ∧ r.sc = 0 then s
        else s.addError c.ctrl ((s.sq c.sq).map (·.qid) |>.getD 0) (sqeCid c.entry) (statusWord r) (sqeNsid c.entry) (sqeSlba c.entry) code
      { s with fe := { s.fe with ready := s.fe.ready ++ [tag] } }

/-- A command ends with a status that leaves no code. -/
def State.finish (s : State) (tag : Nat) (r : CmdResult) : State := s.finishCode tag r 0

/-- A command ends with success and data returned to the host. -/
def State.answer (s : State) (tag : Nat) (data : List Byte) : State := (s.modCmd tag fun c => { c with out := data }).finish tag ok

/-- A malformed command (R283): counted, code 0x0B02, and the status. -/
def State.malformed (s : State) (tag : Nat) (c : Cmd) (r : CmdResult) : State :=
  ((s.count 0x017 c.port.rein.num 1).leave 0x0B02 0 [((s.sq c.sq).map (·.qid)).getD 0, sqeCid c.entry, statusWord r]).finishCode tag r 0x0B02

/-! ### Commands that NVMe-MI carries (R262, R453, R456) -/

/-- A tunnelled admin command takes a row of the command table; it belongs to controller 0 and to no queue (log 7) (DEDUCED, log 59). -/
def State.tunnelIn (s : State) (key : Nat) (entry : BitVec 512) : Nat × State :=
  let t := s.fe.nextTag
  let c : Cmd := { sq := key, pos := 0, ctrl := 0, admin := true, port := ⟨.a, 0⟩, entry := entry, started := false, aborted := false, orphan := false,
                   result := none, reserved := false, owed := [], units := [], input := [], out := [], held := false }
  (t, { s.setCmd t c with fe := { (s.setCmd t c).fe with nextTag := t + 1 } })
/-- What fault stop still serves: Get Log Page of pages 0x02, 0xC4, and 0xC3 with LSP 0 or 2 (R453). -/
def servedInStop (e : BitVec 512) : Bool :=
  let lid := bitField (dw e 10) 0 8
  let lsp := bitField (dw e 10) 8 7
  decide (sqeOpc e = 0x02) && (decide (lid = 0x02) || decide (lid = 0xC4) || (decide (lid = 0xC3) && (decide (lsp = 0) || decide (lsp = 2))))
/-- A tunnelled command while the main domain is stopped. -/
def State.tunnelStopped (s : State) (key : Nat) (entry : BitVec 512) : State :=
  let (t, s) := s.tunnelIn key entry
  if servedInStop entry then s else s.finish t sequenceError

/-! ### Asynchronous events (R262, R270) -/

/-- DW0 of an Asynchronous Event Request's completion: type, information, log page. -/
def Event.dw0 (e : Event) : Nat := packFields [fld 0 3 e.type, fld 8 8 e.info, fld 16 8 e.page]

/-- Whether a controller's rein has been told of this type and has not yet read the page (NVMe's masking, log 8). -/
def FeState.isMasked (f : FeState) (c : Nat) (r : Rein) (page : Nat) : Bool := f.masked.any fun m => m = (c, r, page)

/-- Raise an event on one rein of a controller: an outstanding request takes it, or it waits for one (PRESUMED, log 8). -/
def State.eventOn (s : State) (c : Nat) (r : Rein) (e : Event) : State :=
  if s.fe.isMasked c r e.page then s
  else
    match s.fe.aers.find? fun a => decide (a.ctrl = c) && decide (a.rein = r) with
    | some a =>
      let s := { s with fe := { s.fe with aers := s.fe.aers.erase a, masked := (c, r, e.page) :: s.fe.masked } }
      s.finish a.tag (okDw0 e.dw0)
    | none =>
      if s.fe.events.contains (c, r, e) then s else { s with fe := { s.fe with events := s.fe.events ++ [(c, r, e)] } }

/-- The controllers' reins that are enabled: where an event is raised. -/
def State.enabledPorts (s : State) : List (Nat × Rein) :=
  s.fe.ctrls.flatMap fun (c, x) => (if x.enA then [(c, Rein.a)] else []) ++ (if x.enB then [(c, Rein.b)] else [])

/-- Raise an event on every enabled rein of every controller; none is posted during fatal handling or after it (R450). -/
def State.event (s : State) (e : Event) : State :=
  if s.fault.fatal.isSome ∨ s.fault.stop.isSome then s
  else s.enabledPorts.foldl (fun s (c, r) => s.eventOn c r e) s

/-- Raise an event on each enabled rein of one controller (R283). -/
def State.ctrlEvent (s : State) (c : Nat) (e : Event) : State :=
  if s.fault.fatal.isSome ∨ s.fault.stop.isSome then s
  else (s.enabledPorts.filter (·.1 = c)).foldl (fun s (c, r) => s.eventOn c r e) s

/-- A vendor-specific event (R270). -/
def State.vendorEvent (s : State) (info page : Nat) : State := s.event { type := 7, info := info, page := page }

/-- Key of a standard feature's value: identifier, controller and instance. -/
def featKey (fid ctrl n : Nat) : Nat := fid * 4294967296 + ctrl * 65536 + n
/-- The value in force; until it is set, NVMe's default (a free value) (DESIGN CHOICE, log 52). -/
def State.feat (s : State) (fid ctrl n : Nat) : Nat := Table.getD s.fe.features (featKey fid ctrl n) (Config.defaultFeature fid)
def State.setFeat (s : State) (fid ctrl n v : Nat) : State := { s with fe := { s.fe with features := Table.set s.fe.features (featKey fid ctrl n) v } }

/-- Whether an FDP event of a handle is enabled. -/
def State.fdpEnabled (s : State) (h t : Nat) : Bool := decide (s.feat 0x1E 0 (256 * h + t) % 2 = 1)

/-- An FDP event of a handle, when it is enabled (R269). -/
def State.fdpEvent (s : State) (event handle : Nat) : State :=
  if s.map.fdp ∧ s.fdpEnabled handle event then { s with fe := { s.fe with fdpEvents := s.fe.fdpEvents ++ [(event, handle, s.wheel.wt)] } } else s

/-- A SMART / Health Status event for Critical Warning bit `b`, on each controller whose feature 0x0B enables it: information 0 reliability,
1 temperature, 2 spare (log 7). -/
def State.smartEvent (s : State) (b info : Nat) : State :=
  if s.fault.fatal.isSome ∨ s.fault.stop.isSome then s
  else s.enabledPorts.foldl (fun s (c, r) =>
    if bitField (s.feat 0x0B c 0) b 1 = 1 then s.eventOn c r { type := 1, info := info, page := 0x02 } else s) s

/-- A Get Log Page of a page with RAE 0 clears its events on the controller (R250, R270). -/
def State.clearEvents (s : State) (c page : Nat) : State :=
  { s with fe := { s.fe with masked := s.fe.masked.filter (fun m => !(decide (m.1 = c) && decide (m.2.2 = page))),
                             events := s.fe.events.filter (fun x => !(decide (x.1 = c) && decide (x.2.2.page = page))) } }

/-! ### Detachment (R248, R249) -/

/-- Drop what one side of a queue is still owed: completions of commands, and mismatches. -/
def State.dropOwed (s : State) (k : Nat) (r : Rein) : State :=
  { s with fe := { s.fe with
      cmds := s.fe.cmds.map (fun (t, c) =>
        (t, if c.sq = k then { c with owed := c.owed.filter (·.1 ≠ r) } else c)),
      mismatches := s.fe.mismatches.filter (fun m => !(decide (m.1 = k) && decide (m.2.1 = r))) } }

/-- Commands of a queue whose executing side is `r` and whose completion has not been posted there. -/
def State.executingOn (s : State) (k : Nat) (r : Rein) : List Nat :=
  (s.fe.cmds.filter fun (_, c) => decide (c.sq = k) && decide (c.port.rein = r) && decide (c.owed.any (·.1 = r))).map (·.1)

/-- The executing side of a command moves to the other rein, with code 0x0A05; its data movement starts again there. -/
def State.moveCmd (s : State) (dest : Rein) (tag : Nat) : State :=
  match s.cmd tag with
  | some c =>
    (s.modCmd tag fun c => { c with port := { c.port with rein := dest } }).leave 0x0A05 1
      [((s.sq c.sq).map (·.qid)).getD 0, c.pos.toNat]
  | none => s

/-- Commands that lose their last side fetch no more data and are not completed; one that has not begun ends here, without effect, and its
tag frees (R249, R251) (DEDUCED, log 54). -/
def State.orphanCmds (s : State) (k : Nat) : State :=
  let lost (c : Cmd) : Bool := decide (c.sq = k) && decide (c.owed = [])
  { s with fe := { s.fe with cmds := (s.fe.cmds.filter fun (_, c) => !(lost c && !c.started && c.result.isNone)).map fun (t, c) =>
                                       (t, if lost c then { c with orphan := true } else c) } }

/-- A side becomes DETACHED for a reason (0 E - F reached QSIZE, 1 lag, 2 rein out of service): its pending completions are
dropped, its commands move to the other side when that is ATTACHED, and code 0x0A03 is left (R248, R249). -/
def State.detachSide (s : State) (k : Nat) (r : Rein) (reason : Nat) : State :=
  match s.sq k with
  | none => s
  | some q =>
    match q.side r with
    | none => s
    | some side =>
      if side.attached then
        let moved := s.executingOn k r
        let s := s.setSq k (q.setSide r (some { side with attached := false }))
        let s := (s.leave 0x0A03 2 [q.qid, r.num, reason]).dropOwed k r
        let otherOn := ((q.side r.other).map (·.attached)).getD false
        let s := if otherOn then moved.foldl (fun s t => s.moveCmd r.other t) s else s
        let s := s.orphanCmds k
        s.fe.ready.foldl (fun s t => s.freeIfDone t) s
      else s

/-! ### Beginning a command -/

/-- A command in hand: its row is there, its meaning has not begun and it has no status. -/
def Cmd.waits (c : Cmd) (admin : Bool) (opc : Nat) : Bool :=
  !c.started && c.result.isNone && decide (c.admin = admin) && decide (sqeOpc c.entry = opc)

/-- A host command's meaning: when its row waits with this opcode and passes `sel`, it begins and `f` gives its effect; what can
then be posted is posted. Otherwise nothing happens, as when the front end has stopped (R219, R450, R451) (DESIGN CHOICE, log 1). -/
def State.begin (s : State) (tag : Nat) (admin : Bool) (opc : Nat) (sel : Cmd → Bool) (f : State → Cmd → State) : State :=
  match s.cmd tag with
  | some c =>
    if c.waits admin opc && sel c && (!s.fe.stopped || c.tunnelled) then
      ((f (s.modCmd tag fun c => { c with started := true }) c).postAll).arrayPump
    else s
  | none => s

end Sys2Proof.Machine
end

