-- ==== Sys2Proof/Machine/Geometry.lean ====
section
/-! DEFINITION. Granule addresses, blocks and member units (04_awls R86, R87, R95; 08_girths R182), the slot codes of the running
plan (03_stitch_plans R55 to R63), and access to dies, channels and block records. -/
namespace Sys2Proof.Machine

/-! ### Addresses (R86) -/

def dieOf (gran : Nat) : Nat := gran / 2 ^ 29
def chOfDie (die : Nat) : Nat := die / 32
def tgtOfDie (die : Nat) : Nat := die / 4 % 8
def lunOfDie (die : Nat) : Nat := die % 4
/-- Page unit within the die. -/
def pageUnitOf (gran : Nat) : Nat := gran % 2 ^ 29 / 32
def frameOf (gran : Nat) : Nat := gran / 8 % 4
def granuleOf (gran : Nat) : Nat := gran % 8
def ImgState.planeOf (i : ImgState) (gran : Nat) : Nat := pageUnitOf gran % i.planes
def ImgState.pageOf (i : ImgState) (gran : Nat) : Nat := pageUnitOf gran / i.planes % i.pagesPerBlock
def ImgState.blockOf (i : ImgState) (gran : Nat) : Nat := pageUnitOf gran / i.planes / i.pagesPerBlock
/-- BLK_ID of the block that holds a granule (R161). -/
def ImgState.blkOf (i : ImgState) (gran : Nat) : Nat := dieOf gran * 65536 + i.blockOf gran
/-- Row address (R86). -/
def ImgState.rowOf (i : ImgState) (gran : Nat) : Nat :=
  lunOfDie (dieOf gran) * 2 ^ i.lunShift + ((i.blockOf gran * 2 ^ i.planeBits + i.planeOf gran) * 2 ^ i.pageBits + i.pageOf gran)
/-- Column address of the granule's frame. -/
def columnOf (gran : Nat) : Nat := frameOf gran * 4688
/-- Seed of the scrambler for a frame (R104). -/
def ImgState.seedOf (i : ImgState) (gran : Nat) : Nat :=
  let x := ((i.rowOf gran * 4 + frameOf gran) ^^^ 0x5A5A5A5A) % 2 ^ 31
  if x = 0 then 1 else x
/-- Granules of a block in the order of its page units: pages times planes times 32. -/
def ImgState.granPerBlock (i : ImgState) : Nat := i.pagesPerBlock * i.planes * 32
/-- Granule offset of an address within its block (R146). -/
def ImgState.offsetOf (i : ImgState) (gran : Nat) : Nat := gran % 2 ^ 29 % i.granPerBlock
/-- Granule address of an offset in a block. -/
def ImgState.granAt (i : ImgState) (blk off : Nat) : Nat := blk / 65536 * 2 ^ 29 + blk % 65536 * i.granPerBlock + off
/-- Granules a block holds in its mode. -/
def ImgState.blockGran (i : ImgState) (fc : Bool) : Nat := (if fc then i.fcPages else i.pagesPerBlock) * i.planes * 32
/-- Word lines of a block in its mode (R87, R180). -/
def ImgState.wordLines (i : ImgState) (fc : Bool) : Nat := if fc then i.fcPages else i.pagesPerBlock / i.bitsPerCell
/-- Page units of a one-shot program unit (R87). -/
def ImgState.unitPages (i : ImgState) (fc : Bool) : Nat := (if fc then 1 else i.bitsPerCell) * i.planes
/-- Word line of a page. -/
def ImgState.wordLineOf (i : ImgState) (fc : Bool) (page : Nat) : Nat := if fc then page else page / i.bitsPerCell
/-- Granule address of granule `g` of page unit `j` of word line `wl` of a block. -/
def ImgState.memberGran (i : ImgState) (fc : Bool) (blk wl j g : Nat) : Nat :=
  i.granAt blk ((wl * (if fc then 1 else i.bitsPerCell) * i.planes + j) * 32 + g)
/-- Frames a run of granules touches (R87). -/
def framesOf (gran glen : Nat) : Nat := if granuleOf gran + glen ≤ 8 then 1 else 2
/-- The read of one frame of a run: the granules of the run in that frame. -/
def ReadReq.frame (q : ReadReq) (part : Nat) : ReadReq :=
  if granuleOf q.gran + q.glen ≤ 8 then q
  else if part = 0 then { q with glen := 8 - granuleOf q.gran, part := 0 }
  else { q with gran := (q.gran / 8 + 1) * 8, glen := granuleOf q.gran + q.glen - 8, part := 1 }
/-- The frames of a read. -/
def ReadReq.frames (q : ReadReq) : List ReadReq := (List.range (framesOf q.gran q.glen)).map q.frame
/-- The name of a frame of a read, by read and part. -/
def ReadReq.key (q : ReadReq) : Nat := 64 * q.job + q.part
/-- Frames a queue entry moves: the six reads of rung 2 stand in it as one group (R113). -/
def ReadReq.moves (q : ReadReq) : Nat := if q.rung = 2 then 6 else framesOf q.gran q.glen

/-! ### Girth positions (R182) -/

def pPos (w wl : Nat) : Nat := 2 * wl % (w + 2)
def qPos (w wl : Nat) : Nat := (pPos w wl + 1) % (w + 2)
/-- Data positions of word line `wl` in ascending order: entry j is data member j. -/
def dataPositions (w wl : Nat) : List Nat := (List.range (w + 2)).filter fun p => decide (p ≠ pPos w wl) && decide (p ≠ qPos w wl)

/-! ### Slot codes (R55, R56, R63) -/

/-- The class of work a WKQ entry carries: 2 HOST_PROG, 3 COPY_PROG, 4 ERASE, 7 DUMP (R59). -/
def Plan.slot (p : Plan) (die lt : Nat) : Nat :=
  let b := (Table.getD p.slots (lt * 512 + die / 2) 0#8).toNat
  if die % 2 = 0 then b % 16 else b / 16

/-- The slot code of a die now: a filler tooth is a READ slot with SUSPEND_OK (R46); without a plan, REST. -/
def State.slotCode (s : State) (die : Nat) : Nat :=
  if 0 < s.wheel.filler then 9
  else
    match s.plan.running with
    | some p => p.slot die s.wheel.lt
    | none => 0

def State.slotClass (s : State) (die : Nat) : Nat := s.slotCode die % 8
def State.suspendOk (s : State) (die : Nat) : Bool := decide (8 ≤ s.slotCode die)

/-! ### Dies, channels, blocks -/

def State.die (s : State) (d : Nat) : Die := Table.getD s.awl.dies d {}
def State.setDie (s : State) (d : Nat) (x : Die) : State := { s with awl := { s.awl with dies := Table.set s.awl.dies d x } }
def State.modDie (s : State) (d : Nat) (f : Die → Die) : State := s.setDie d (f (s.die d))
def State.chan (s : State) (c : Nat) : Channel := Table.getD s.awl.chans c {}
def State.setChan (s : State) (c : Nat) (x : Channel) : State := { s with awl := { s.awl with chans := Table.set s.awl.chans c x } }
def State.modChan (s : State) (c : Nat) (f : Channel → Channel) : State := s.setChan c (f (s.chan c))

/-- A die in service: populated and not isolated (R96). -/
def State.dieServes (s : State) (d : Nat) : Bool := decide ((s.die d).mode = .active) || decide ((s.die d).mode = .watch)
/-- Dies the geometry populates. -/
def State.populatedDies (s : State) : List Nat := (List.range 1024).filter s.img.populated
/-- Channels in service: not isolated, with a die in service (R98, R181). -/
def State.channelsInService (s : State) : List Nat :=
  (List.range 32).filter fun c => decide ((s.chan c).isolated = 0) && (List.range 32).any fun k => s.dieServes (32 * c + k)

def State.blkRec (s : State) (b : Nat) : BlockRec := Table.getD s.blk.recs b {}
def State.setBlk (s : State) (b : Nat) (r : BlockRec) : State := { s with blk := { s.blk with recs := Table.set s.blk.recs b r } }
def State.modBlk (s : State) (b : Nat) (f : BlockRec → BlockRec) : State := s.setBlk b (f (s.blkRec b))

/-- A granule address the awl refuses: its die is not populated, its block is beyond the plane, or its page lies beyond a fast-cell
block (R86, R95). -/
def State.addressFault (s : State) (gran : Nat) : Bool :=
  !s.img.populated (dieOf gran) || decide (s.img.blocksPerPlane ≤ s.img.blockOf gran) ||
    ((s.blkRec (s.img.blkOf gran)).fc && decide (s.img.fcPages ≤ s.img.pageOf gran))

/-- Identifier for a queue entry, and the state that has given it out (log 16). -/
def State.newId (s : State) : Nat × State := (s.awl.nextId, { s with awl := { s.awl with nextId := s.awl.nextId + 1 } })

/-! ### Read voltages (R115 to R117) -/

/-- Group index of a block of a die. -/
def State.groupOf (s : State) (die block : Nat) : Nat := block / 2 ^ s.img.groupShift * 1024 + die
def State.vtGroup (s : State) (g : Nat) : VtGroup := Table.getD s.codec.vt g {}
def State.modVt (s : State) (g : Nat) (f : VtGroup → VtGroup) : State :=
  { s with codec := { s.codec with vt := Table.set s.codec.vt g (f (s.vtGroup g)) } }

def clampByte (x : Int) : Int := max (-128) (min 127 x)
/-- The sum of two rows, threshold by threshold. -/
def addRows (a b : List Int) : List Int := (List.range 15).map fun i => intAt a i + intAt b i
/-- A row as its 15 signed bytes. -/
def clampRow (a : List Int) : List Int := (List.range 15).map fun i => clampByte (intAt a i)

/-- The row a group's SEL selects. -/
def VtGroup.selected (g : VtGroup) : List Int := if g.sel then g.row1 else g.row0

/-- The page-type thresholds moved by a rung-2 or trial delta (R112, R122). -/
def State.typeDelta (s : State) (pageType : Nat) (x : Int) : List Int :=
  (List.range 15).map fun i => if bitField (s.img.typeMask pageType) i 1 = 1 then x else 0

/-- Offset row of a read: the selected row, plus the RETRY_TABLE row of the rung's step or of LAST_RETRY, plus the rung's own delta, the sum
clamped; a fast-cell block reads at fast-cell row 0 plus the rung's delta, a group not VALID at row 0 of its mode (R116, R117). -/
def State.offsetRow (s : State) (gran rung step : Nat) (delta : List Int) : List Int :=
  let blk := s.img.blkOf gran
  let fc := (s.blkRec blk).fc
  let g := s.vtGroup (s.groupOf (dieOf gran) (s.img.blockOf gran))
  if fc then clampRow (addRows (addRows (s.img.retryRow true 0) (if rung = 1 then s.img.retryRow true step else [])) delta)
  else
    let base := if g.valid then g.selected else s.img.retryRow false 0
    let row := if rung = 1 then step else g.lastRetry
    clampRow (addRows (if row = 0 then base else addRows base (s.img.retryRow false row)) delta)

end Sys2Proof.Machine
end

