-- ==== Sys2Proof/Machine/Pins.lean ====
section
/-! DEFINITION. What the awls send on the CA pins (04_awls R78, R86 to R92): the cycles of every operation, and the order in which waiting
sequences take the pins. -/
namespace Sys2Proof.Machine

/-! ### Opcodes of GEOM (R84) -/

def ImgState.opProgSuspend (i : ImgState) : Nat := bitField i.geom 448 8
def ImgState.opProgResume (i : ImgState) : Nat := bitField i.geom 456 8
def ImgState.opEraseSuspend (i : ImgState) : Nat := bitField i.geom 464 8
def ImgState.opEraseResume (i : ImgState) : Nat := bitField i.geom 472 8
def ImgState.opFcPrefix (i : ImgState) : Nat := bitField i.geom 480 8
def ImgState.opOffsetPrefix (i : ImgState) : Nat := bitField i.geom 488 8
def ImgState.opPagePrefix (i : ImgState) (type : Nat) : Nat := bitField i.geom (496 + 8 * type) 8
def ImgState.opPageChain (i : ImgState) : Nat := bitField i.geom 528 8

/-! ### Address cycles (R86): lowest byte first -/

/-- Row cycles: before bareback operation has read the parameter page, the three that every part takes (PRESUMED, log 81). -/
def ImgState.rowCa (i : ImgState) (row : Nat) : List CaCycle := (List.range (max 3 i.rowCycles)).map fun k => .addr (bitField row (8 * k) 8)
def columnCa (column : Nat) : List CaCycle := [.addr (bitField column 0 8), .addr (bitField column 8 8)]
/-- Row address of a page of a block on a plane. -/
def ImgState.pageRow (i : ImgState) (blk plane page : Nat) : Nat :=
  lunOfDie (blk / 65536) * 2 ^ i.lunShift + ((blk % 65536 * 2 ^ i.planeBits + plane) * 2 ^ i.pageBits + page)
/-- Row cycles that name a LUN. -/
def ImgState.lunCa (i : ImgState) (die : Nat) : List CaCycle := i.rowCa (lunOfDie die * 2 ^ i.lunShift)

/-! ### Sequences (R89 to R92) -/

/-- OP_FC_PREFIX in fast-cell mode. -/
def ImgState.fcCa (i : ImgState) (fc : Bool) : List CaCycle := if fc then [.cmd i.opFcPrefix] else []
/-- OP_OFFSET_PREFIX and the row's first 2^BITS_PER_CELL - 1 bytes, when the row is not zero. -/
def ImgState.offsetCa (i : ImgState) (row : List Int) : List CaCycle :=
  let bytes := (List.range (2 ^ i.bitsPerCell - 1)).map fun k => toSigned 8 (intAt row k)
  if bytes.all (· = 0) then [] else .cmd i.opOffsetPrefix :: bytes.map .addr
/-- A read of the page that holds a granule, steps 1 to 3 of R89. -/
def ImgState.readCa (i : ImgState) (fc : Bool) (row : List Int) (gran : Nat) : List CaCycle :=
  i.fcCa fc ++ i.offsetCa row ++ [.cmd 0x00] ++ columnCa (columnOf gran) ++ i.rowCa (i.rowOf gran) ++ [.cmd 0x30]
/-- Change Read Column Enhanced before a frame's data-out, step 5 of R89. -/
def ImgState.outCa (i : ImgState) (gran : Nat) : List CaCycle := [.cmd 0x06] ++ columnCa (columnOf gran) ++ i.rowCa (i.rowOf gran) ++ [.cmd 0xE0]
/-- Page type and plane of page unit j of a word line, and its page (R87, R90). -/
def ImgState.unitPage (i : ImgState) (fc : Bool) (wl j : Nat) : Nat := if fc then wl else wl * i.bitsPerCell + j / max 1 i.planes
/-- One page unit of a program (R90): prefix, 80h with its address, and the cycle that closes it; the last one is left unclosed. -/
def ImgState.programCa (i : ImgState) (fc : Bool) (blk wl j : Nat) : List CaCycle :=
  let type := j / max 1 i.planes
  let plane := j % max 1 i.planes
  let prefix_ : List CaCycle := if fc then [.cmd i.opFcPrefix] else if i.opPagePrefix type = 0 then [] else [.cmd (i.opPagePrefix type)]
  let close : List CaCycle := if plane + 1 < i.planes then [.cmd 0x11] else if j + 1 < i.unitPages fc then [.cmd i.opPageChain] else []
  prefix_ ++ [.cmd 0x80] ++ columnCa 0 ++ i.rowCa (i.pageRow blk plane (i.unitPage fc wl j)) ++ close
/-- The confirm of a program. -/
def confirmCa : List CaCycle := [.cmd 0x10]
/-- An erase on one plane (R91): D1h, and D0h on the last plane. -/
def ImgState.eraseCa (i : ImgState) (fc : Bool) (blk plane : Nat) : List CaCycle :=
  i.fcCa fc ++ [.cmd 0x60] ++ i.rowCa (i.pageRow blk plane 0) ++ [.cmd (if plane + 1 < i.planes then 0xD1 else 0xD0)]
/-- Suspend and resume of a program (1) or an erase (2) on a LUN (R92). -/
def ImgState.suspendCa (i : ImgState) (op die : Nat) : List CaCycle := .cmd (if op = 2 then i.opEraseSuspend else i.opProgSuspend) :: i.lunCa die
def ImgState.resumeCa (i : ImgState) (op die : Nat) : List CaCycle := .cmd (if op = 2 then i.opEraseResume else i.opProgResume) :: i.lunCa die
/-- Read Status Enhanced (78h), Reset LUN (FAh), Reset (FFh) of a target, ZQ calibration short (D9h) and long (F9h) (R78). The address cycles of
78h, FAh, D9h and F9h are ONFI's (PRESUMED, log 81). -/
def ImgState.statusCa (i : ImgState) (die : Nat) : List CaCycle := .cmd 0x78 :: i.lunCa die
def ImgState.resetLunCa (i : ImgState) (die : Nat) : List CaCycle := .cmd 0xFA :: i.lunCa die
def resetCa : List CaCycle := [.cmd 0xFF]
def zqShortCa (die : Nat) : List CaCycle := [.cmd 0xD9, .addr (lunOfDie die)]
def zqLongCa (die : Nat) : List CaCycle := [.cmd 0xF9, .addr (lunOfDie die)]
/-- Read ID (90h), Read Parameter Page (ECh), Set Features (EFh) (R78), each with its address cycle, which is ONFI's (PRESUMED, log 81). -/
def readIdCa : List CaCycle := [.cmd 0x90, .addr 0]
def pageCa : List CaCycle := [.cmd 0xEC, .addr 0]
def setFeatureCa (feature : Nat) : List CaCycle := [.cmd 0xEF, .addr feature]

/-! ### The CA pins (R88) -/

/-- A sequence for a die is formed, and waits for its channel's CA pins. -/
def State.ca (s : State) (die : Nat) (hostRead : Bool) (cycles : List CaCycle) : State :=
  s.modChan (chOfDie die) fun x => { x with caWait := x.caWait ++ [⟨die, hostRead, cycles⟩] }

/-- The sequence that takes the pins next: host-read sequences first, the dies in turn by die index, one sequence a turn; the others in start order. -/
def Channel.nextCa (x : Channel) : Option CaSeq :=
  let turn (k : Nat) : Option CaSeq := x.caWait.find? fun q => q.hostRead && decide (q.die % 32 = (x.caTurn + 1 + k) % 32)
  match (List.range 32).findSome? turn with
  | some q => some q
  | none => x.caWait.head?
/-- Waiting sequences are sent, as many as n. -/
def Channel.sendCa (x : Channel) : (n : Nat) → Channel
  | 0 => x
  | n + 1 =>
    match x.nextCa with
    | some q => Channel.sendCa { x with caWait := x.caWait.erase q, caSent := x.caSent ++ [q], caTurn := if q.hostRead then q.die % 32 else x.caTurn } n
    | none => x
/-- Command cycles never wait for DQ, so every waiting sequence is sent. -/
def State.sendCa (s : State) : State :=
  { s with awl := { s.awl with chans := s.awl.chans.map fun (c, x) => (c, if x.caWait = [] then x else x.sendCa x.caWait.length) } }

end Sys2Proof.Machine
end

