-- ==== Sys2Proof/Machine/Cache.lean ====
section
/-! DEFINITION. The map cache's shared operations (14_dram_and_map_cache R356 to R365): where a line lies, the pseudo-LRU tree, the
streaming detector, serving a bank's queue, fills, write-backs and drains. The model keeps the lines' tags; their content is the
map's own (DESIGN CHOICE, log 15). -/
namespace Sys2Proof.Machine

/-! ### Lines (R356, R357) -/

def laOf (seg block : Nat) : Nat := seg * 65536 + block
def laHash (la : Nat) : Nat := la % 65536 ^^^ la / 65536 % 65536
def bankOf (la : Nat) : Nat := laHash la % 32
def setOfLa (la : Nat) : Nat := laHash la / 32
def tagOfLa (la : Nat) : Nat := la / 65536 % 2 ^ 17

/-- The line address that a tag of a bank's set stands for: la[15:0] is the hash's bits over la[31:16]. -/
def laOfTag (bank set tag : Nat) : Nat := tag * 65536 + ((set * 32 + bank) ^^^ tag % 65536)

def McState.bank (m : McState) (b : Nat) : McBank := Table.getD m.banks b {}
def McState.setBank (m : McState) (b : Nat) (x : McBank) : McState := { m with banks := Table.set m.banks b x }
def State.bank (s : State) (b : Nat) : McBank := s.mc.bank b
def State.setBank (s : State) (b : Nat) (x : McBank) : State := { s with mc := s.mc.setBank b x }

/-- The way of a set that holds a line. -/
def McBank.wayOf (k : McBank) (la : Nat) : Option Nat :=
  (List.range 16).find? fun w =>
    match Table.find k.tags (setOfLa la * 16 + w) with
    | some t => t.valid && decide (t.tag = tagOfLa la)
    | none => false

def McBank.holds (k : McBank) (la : Nat) : Bool := (k.wayOf la).isSome

/-! ### Pseudo-LRU (R357): 15 tree bits, node n's children 2n+1 and 2n+2; a bit of 1 names the right half -/

/-- The way the tree names. -/
def plruVictim (bits : Nat) : Nat :=
  let step (n : Nat) : Nat := 2 * n + 1 + bitField bits n 1
  step (step (step (step 0))) - 15

/-- Set one tree bit. -/
def setTreeBit (bits n v : Nat) : Nat := bits - bitField bits n 1 * 2 ^ n + v * 2 ^ n

/-- The tree after a use of a way: every node on its path names the other half. -/
def plruTouch (bits way : Nat) : Nat :=
  let n0 := 0
  let b0 := way / 8 % 2
  let n1 := 2 * n0 + 1 + b0
  let b1 := way / 4 % 2
  let n2 := 2 * n1 + 1 + b1
  let b2 := way / 2 % 2
  let n3 := 2 * n2 + 1 + b2
  let b3 := way % 2
  setTreeBit (setTreeBit (setTreeBit (setTreeBit bits n0 (1 - b0)) n1 (1 - b1)) n2 (1 - b2)) n3 (1 - b3)

def McBank.touch (k : McBank) (set way : Nat) : McBank :=
  { k with plru := Table.put 0 k.plru set (plruTouch (Table.getD k.plru set 0) way) }

/-! ### Streaming (R361) -/

/-- The trackers after an access, and whether the access streams. -/
def trackAccess (run : Nat) (ts : List Tracker) (source la : Nat) : List Tracker × Bool :=
  match ts.find? fun t => decide (t.source = source) && decide (t.next = la) with
  | some t =>
    let t' : Tracker := { t with next := la + 1, run := min 255 (t.run + 1) }
    (t' :: ts.erase t, decide (run ≤ t'.run))
  | none => (({ source := source, next := la + 1, run := 1 } :: ts).take 16, decide (run ≤ 1))

/-! ### Serving requests (R359, R360, R363, R364) -/

/-- Put a line's DRAM write into the write-back buffer when it has room. -/
def McBank.writeBack (k : McBank) (la : Nat) : McBank := if k.wbb.length < 4 ∧ !k.wbb.contains la then { k with wbb := k.wbb ++ [la] } else k

/-- Mark a held line clean or dirty. -/
def McBank.setDirty (k : McBank) (la : Nat) (d : Bool) : McBank :=
  match k.wayOf la with
  | some w => { k with tags := Table.modify k.tags (setOfLa la * 16 + w) fun t => { t with dirty := d } }
  | none => k

def McBank.isDirty (k : McBank) (la : Nat) : Bool :=
  match k.wayOf la with
  | some w => ((Table.find k.tags (setOfLa la * 16 + w)).map (·.dirty)).getD false
  | none => false

/-- Drop a line, dirty data included (INVALIDATE). -/
def McBank.drop (k : McBank) (la : Nat) : McBank :=
  match k.wayOf la with
  | some w => { k with tags := Table.del k.tags (setOfLa la * 16 + w) }
  | none => k

/-- What serving the head gives: the bank, and whether it was a hit (some true), a miss (some false) or neither. -/
def McBank.serveHead (k : McBank) (r : McReq) (streams : Bool) : McBank × Option Bool :=
  if 2 ≤ r.kind then
    let k := if r.kind ≠ 3 ∧ k.isDirty r.la then (k.setDirty r.la false).writeBack r.la else k
    (if r.kind = 2 then k else k.drop r.la, none)
  else
    match k.wayOf r.la with
    | some w =>
      let k := if streams then k else k.touch (setOfLa r.la) w
      (if r.kind = 1 then k.setDirty r.la (!k.draining) else k, some true)
    | none =>
      if r.hint = 2 ∨ k.draining ∨ !k.en then (k, some false)
      else ({ k with miss := some r }, some false)

/-- Whether the head waits: it misses while a miss is pending, or names the pending line (R359 items 3 and 4, R364), or it would write back a dirty
line while the write-back buffer is full (R360) (DEDUCED: as a fill's victim does, log 15). -/
def McBank.headWaits (k : McBank) (r : McReq) : Bool :=
  (match k.miss with
    | none => false
    | some m => decide (m.la = r.la) || (decide (r.kind < 2) && !k.holds r.la && decide (r.hint ≠ 2) && !k.draining && k.en))
  || ((decide (r.kind = 2) || decide (r.kind = 4)) && k.isDirty r.la && decide (4 ≤ k.wbb.length) && !k.wbb.contains r.la)

/-- Serve a bank's queue, head first, until its head waits; `n` bounds the requests served. -/
def State.serveBank (s : State) (b : Nat) : (n : Nat) → State
  | 0 => s
  | n + 1 =>
    let k := s.bank b
    match k.queue with
    | [] => s
    | r :: rest =>
      if k.headWaits r then s
      else
        let streams := decide (r.hint = 1) || (s.mc.trackers.any fun t => decide (t.next = r.la + 1) && decide (s.img.streamRun ≤ t.run))
        let (k', hit) := ({ k with queue := rest } : McBank).serveHead r streams
        let s := s.setBank b k'
        let s := match hit with
          | some true => s.count1 0x0A2
          | some false => s.count1 0x0A3
          | none => s
        State.serveBank s b n

/-- A request to the cache: it joins its bank's queue, the detector sees it, a dirty line STREAM_LAG below a streaming tracker is
written back, and the bank serves what it can. -/
def State.mcRequest (s : State) (r : McReq) : State :=
  let (ts, streams) := trackAccess s.img.streamRun s.mc.trackers r.source r.la
  let s := { s with mc := { s.mc with trackers := ts } }
  let lag := r.la + 1 - s.img.streamLag
  let kl := s.bank (bankOf lag)
  let s := if (streams ∨ r.hint = 1) ∧ s.img.streamLag ≤ r.la + 1 ∧ kl.isDirty lag ∧ kl.wbb.length < 4 then s.setBank (bankOf lag) ((kl.setDirty lag false).writeBack lag) else s
  let b := bankOf r.la
  let k := s.bank b
  (s.setBank b { k with queue := k.queue ++ [r] }).serveBank b (k.queue.length + 1)

/-- A read or a write of one map block by a source (R362 gives the hint: 0 NORMAL, 1 STREAM, 2 NO_ALLOC). -/
def State.mcAccess (s : State) (seg block : Nat) (write : Bool) (hint source : Nat) : State :=
  s.mcRequest ⟨bit write, laOf seg block, hint, source⟩

/-- Maintenance of a bank's lines: the operations join the bank's queue behind every other request (R364). -/
def State.mcMaintain (s : State) (b kind : Nat) (las : List Nat) : State :=
  let k := s.bank b
  (s.setBank b { k with queue := k.queue ++ las.map fun la => ⟨kind, la, 0, 0⟩ }).serveBank b (k.queue.length + las.length)

/-- The lines that a bank holds, in set order. -/
def McBank.lines (k : McBank) (b : Nat) : List Nat := (k.tags.filter fun (_, t) => t.valid).map fun (sw, t) => laOfTag b (sw / 16) t.tag

/-- INV_SEGMENT (R363): INVALIDATE of the segment's lines that each bank holds, or that its queue or its pending miss names; of any other line
it does nothing. -/
def State.mcInvalidateSegment (s : State) (seg : Nat) : State :=
  s.mc.banks.foldl (fun s (b, k) =>
    s.mcMaintain b 3 (((k.lines b ++ k.queue.map (·.la) ++ k.miss.toList.map (·.la)).filter fun la => la / 65536 = seg).eraseDups)) s

/-- FLUSH_BANK (R363). -/
def State.flushBank (s : State) (b : Nat) : State := s.mcMaintain b 4 ((s.bank b).lines b)

/-! ### Drains (R365) -/

/-- The dirty lines of a bank in set order. -/
def McBank.dirtyLines (k : McBank) (b : Nat) : List Nat := (k.tags.filter fun (_, t) => t.valid && t.dirty).map fun (sw, t) => laOfTag b (sw / 16) t.tag

/-- A draining bank puts its next dirty lines into the write-back buffer; when none is left and every write has completed, its lines
are dropped, it is disabled and code 0x0E0E is left. A frequency change pauses it (R352). -/
def State.drainStep (s : State) (b : Nat) : State :=
  let k := s.bank b
  if k.draining ∧ !s.dram.changing then
    let room := 4 - k.wbb.length
    let k := ((k.dirtyLines b).take room).foldl (fun k la => (k.setDirty la false).writeBack la) k
    if k.wbb = [] ∧ k.dirtyLines b = [] then
      (s.setBank b { k with tags := [], en := false, draining := false }).leave 0x0E0E 0 [b]
    else s.setBank b k
  else s

/-- A request to disable a bank: it drains (R365). -/
def State.disableBank (s : State) (b : Nat) : State :=
  if (s.bank b).en ∧ !(s.bank b).draining then (s.setBank b { s.bank b with draining := true }).drainStep b else s

end Sys2Proof.Machine
end

