-- ==== Sys2Proof/Machine/MapOps.lean ====
section
/-! DEFINITION. The map's shared operations (06_map): directories and lookup, the write-buffer index, valid counts, map changes
with their journal records, runs, checkpoints, root records, segments' allocation and return. An operation that makes flash
content only appends a payload to its stream's placement list. -/
namespace Sys2Proof.Machine

/-! ### Segments and directories (R130, R131, R141) -/

def segUnits (tag : Bool) : Nat := if tag then 458752 else 655360
def perBlock (tag : Bool) : Nat := if tag then 7 else 10
def dirKey (nsx : Nat) (tag : Bool) (pos : Nat) : Nat := (nsx * 2 + bit tag) * 1048576 + pos
def entryKey (seg idx : Nat) : Nat := seg * 1048576 + idx
/-- Index of a unit within its segment, and the map block that holds it. -/
def indexIn (tag : Bool) (unit : Nat) : Nat := unit % segUnits tag
def blockIn (tag : Bool) (unit : Nat) : Nat := indexIn tag unit / perBlock tag

def State.seg (s : State) (n : Nat) : SegDesc := Table.getD s.map.segs n {}
def State.setSeg (s : State) (n : Nat) (d : SegDesc) : State := { s with map := { s.map with segs := Table.set s.map.segs n d } }
def State.modSeg (s : State) (n : Nat) (f : SegDesc → SegDesc) : State := s.setSeg n (f (s.seg n))
/-- Segment of a unit: none while its directory position is unallocated. -/
def State.segOf (s : State) (nsx : Nat) (tag : Bool) (unit : Nat) : Option Nat :=
  Table.find s.map.dirs (dirKey nsx tag (unit / segUnits tag))
def State.entryAt (s : State) (seg idx : Nat) : MapEntry := Table.getD s.map.entries (entryKey seg idx) {}
def State.tagAt (s : State) (seg idx : Nat) : Nat := Table.getD s.map.tags (entryKey seg idx) 0

/-- The namespace of an NSX. -/
def State.spaceOf (s : State) (nsx : Nat) : Option Namespace := (s.fe.spaces.find? fun (_, n) => n.nsx = nsx).map (·.2)
/-- Bytes of a logical block and of its metadata, whether it carries protection information, and blocks of a unit (R139). -/
def Namespace.lbaBytes (n : Namespace) : Nat := if n.flbas % 16 = 0 then 512 else 4096
def Namespace.perUnit (n : Namespace) : Nat := 4096 / n.lbaBytes
def Namespace.metaBytes (n : Namespace) : Nat := match n.flbas % 16 with | 2 => 8 | 3 => 16 | _ => 0
def Namespace.hasTags (n : Namespace) : Bool := decide (n.flbas % 16 = 2) || decide (n.flbas % 16 = 3)
def Namespace.units (n : Namespace) : Nat := ceilDiv n.nsze n.perUnit
/-- Directory entries a namespace of this size and format takes (R131, R141). -/
def dirEntries (nsze flbas : Nat) : Nat :=
  let units := if flbas % 16 = 0 then ceilDiv nsze 8 else nsze
  ceilDiv units 655360 + (if flbas % 16 = 2 ∨ flbas % 16 = 3 then ceilDiv units 458752 else 0)
def State.dirsUsed (s : State) : Nat := (s.fe.spaces.map fun (_, n) => dirEntries n.nsze n.flbas).sum

/-! ### On-demand restore (R234) -/

/-- A lookup or map change needs a segment that is not restored: its restore starts at once, unless one runs already. -/
def State.needSeg (s : State) (seg : Nat) : State :=
  if s.map.background = some seg ∨ s.map.onDemand.contains seg then s
  else { s.count1 0x053 with map := { s.map with onDemand := s.map.onDemand ++ [seg] } }

/-- The CRC of a block, or bit 47 of one of its entries, fails the check of R128 and R129. -/
def State.blockBad (s : State) (seg block : Nat) : Bool := s.map.badBlocks.contains (seg * 65536 + block)
/-- A map or tag block whose CRC fails marks its segment not restored (06_map, 'A lookup finds a map block whose CRC fails'). -/
def State.checkBlock (s : State) (seg block : Nat) : State :=
  if (s.seg seg).restored ∧ s.blockBad seg block then (s.modSeg seg fun d => { d with restored := false }).leave 0x0601 2 [seg, block] else s
/-- The blocks that hold a unit's entry and its tag record are read. -/
def State.checkUnit (s : State) (nsx unit : Nat) : State :=
  [false, true].foldl (fun s tag => match s.segOf nsx tag unit with | some g => s.checkBlock g (blockIn tag unit) | none => s) s
/-- A unit's segment is not ready to be read: it is restored first in line. -/
def State.needUnit (s : State) (nsx unit g : Nat) : State := (s.checkUnit nsx unit).needSeg g

/-! ### The write-buffer index (R133 to R135) -/

/-- Bucket of a unit. -/
def bucketOf (nsx unit : Nat) : Nat := crc32c (toBytes 6 (nsx % 1024 + unit * 1024)) % 8388608

/-- The places of a bucket in order, with their entries. -/
def MapState.bucket (m : MapState) (b : Nat) : List (Nat × Option (Nat × Nat × Nat × Nat)) :=
  (List.range 8).map fun i => (b * 8 + i, Table.find m.wbi (b * 8 + i))

/-- The index entry of a unit: its place, BUF_GRAN and GLEN. -/
def MapState.wbiFind (m : MapState) (nsx unit : Nat) : Option (Nat × Nat × Nat) :=
  (m.bucket (bucketOf nsx unit)).findSome? fun (k, e) =>
    match e with
    | some (n, u, g, l) => if n = nsx ∧ u = unit then some (k, g, l) else none
    | none => none

/-- The place where a unit's entry goes: in place, or the lowest free one; none when all 8 are VALID. -/
def MapState.wbiPlace (m : MapState) (nsx unit : Nat) : Option Nat :=
  match m.wbiFind nsx unit with
  | some (k, _, _) => some k
  | none => ((m.bucket (bucketOf nsx unit)).find? fun (_, e) => e.isNone).map (·.1)

/-- BUFFERED of the segments that a unit lies in changes (R132, R156). -/
def State.addBuffered (s : State) (nsx unit : Nat) (up : Bool) : State :=
  [false, true].foldl (fun s tag =>
    match s.segOf nsx tag unit with
    | some g => s.modSeg g fun d => { d with buffered := if up then d.buffered + 1 else d.buffered - 1 }
    | none => s) s

/-- DIRTY is the sum of GLEN over the index (R211). -/
def State.sumDirty (s : State) : State :=
  { s with wb := { s.wb with dirty := (s.map.wbi.map fun (_, (_, _, _, l)) => l).sum } }

/-- Set an entry VALID 0. -/
def State.wbiRelease (s : State) (nsx unit : Nat) : State :=
  match s.map.wbiFind nsx unit with
  | some (k, _, _) => ({ s with map := { s.map with wbi := Table.del s.map.wbi k } }.addBuffered nsx unit false).sumDirty
  | none => s

/-- Insert a unit's entry. -/
def State.wbiInsert (s : State) (nsx unit gran glen : Nat) : State :=
  match s.map.wbiPlace nsx unit with
  | some k =>
    let s := if (s.map.wbiFind nsx unit).isSome then s else s.addBuffered nsx unit true
    { s with map := { s.map with wbi := Table.set s.map.wbi k (nsx, unit, gran, glen) } }.sumDirty
  | none => s

/-! ### Valid counts (R138, R167) -/

/-- VC_BUCKET of a block. -/
def ImgState.vcBucket (i : ImgState) (r : BlockRec) : Nat := min 63 (r.valid * 64 / max 1 (i.blockGran r.fc))
def vcKey (stream bucket : Nat) : Nat := stream * 64 + bucket
def State.vcRemove (s : State) (b : Nat) : State :=
  let k := vcKey (s.blkRec b).stream (s.img.vcBucket (s.blkRec b))
  { s with blk := { s.blk with vc := Table.put [] s.blk.vc k ((Table.getD s.blk.vc k []).filter (· ≠ b)) } }
def State.vcAdd (s : State) (b : Nat) : State :=
  let k := vcKey (s.blkRec b).stream (s.img.vcBucket (s.blkRec b))
  { s with blk := { s.blk with vc := Table.set s.blk.vc k (Table.getD s.blk.vc k [] ++ [b]) } }

/-- VALID_GRAN changes; a CLOSED block of streams 0 to 6 that changes bucket joins the tail of the new list, but one of an isolated die none (R162). -/
def State.setValid (s : State) (b valid : Nat) : State :=
  let r := s.blkRec b
  let r' := { r with valid := valid }
  if r.mode = .closed ∧ r.stream ≤ 6 ∧ s.img.vcBucket r ≠ s.img.vcBucket r' ∧ s.dieServes (b / 65536) then ((s.vcRemove b).setBlk b r').vcAdd b
  else s.setBlk b r'

/-- A run becomes valid, or is freed, in granules. -/
def State.validRun (s : State) (gaddr glen : Nat) : State :=
  if glen = 0 then s else let b := s.img.blkOf gaddr; s.setValid b ((s.blkRec b).valid + glen)
def State.freeRun (s : State) (gaddr glen : Nat) : State :=
  if glen = 0 then s else let b := s.img.blkOf gaddr; s.setValid b ((s.blkRec b).valid - glen)

/-! ### Placement lists, root records, runs, checkpoints (R154, R155, R158) -/

/-- Stream n. -/
def State.stream (s : State) (n : Nat) : Stream := s.girth.streams.getD n {}
def State.modStream (s : State) (n : Nat) (f : Stream → Stream) : State :=
  { s with girth := { s.girth with streams := updAt s.girth.streams n f } }
/-- A payload joins a stream's placement list. -/
def State.queuePayload (s : State) (n : Nat) (p : Payload) : State := s.modStream n fun x => { x with list := x.list ++ [p] }

/-- The root staging frame is written to stream 6 (R158). -/
def State.writeRootFrame (s : State) : State :=
  if s.map.rootStaging = [] then s
  else
    let s' := s.queuePayload 6 (.root s.map.rootFrames s.map.rootStaging s.map.rootLast s.map.epoch)
    { s' with map := { s'.map with rootStaging := [], rootFrames := s.map.rootFrames + 1 } }

/-- A root record joins the staging frame; a full frame (256 records of 16 bytes) is written. -/
def State.rootRec (s : State) (r : RootRec) : State :=
  let wt := if s.map.rootStaging = [] then s.wheel.wt else s.map.rootStagingWt
  let s := { s with map := { s.map with rootStaging := s.map.rootStaging ++ [r], rootStagingWt := wt, rootSince := s.map.rootSince + 1 } }
  if 256 ≤ s.map.rootStaging.length then s.writeRootFrame else s

/-- A segment's staging run is written to stream 6 and the next one started (R154). -/
def State.writeRunOnly (s : State) (seg : Nat) : State :=
  let d := s.seg seg
  if d.staging = [] then s
  else
    (s.queuePayload 6 (.run seg d.nextRun d.staging)).setSeg seg
      { d with staging := [], nextRun := d.nextRun + 1, runs := d.runs ++ [(d.nextRun, none)] }

/-- Map blocks 3072 i to 3072 i + 3071 of a segment: what the i-th unit of its checkpoint holds. -/
def ckptSlice {α : Type} (tag : Bool) (t : Table α) (seg i : Nat) : Table α :=
  t.filter fun (k, _) => decide (k / 1048576 = seg) && decide (k % 1048576 / perBlock tag / 3072 = i)
/-- Granules of the i-th checkpoint unit: 48 frames, the last one 16. -/
def ckptGran (i : Nat) : Nat := if i < 21 then 384 else 128

/-- A run that a girth is to close for (R184 case 3). -/
def State.awaitOne (s : State) (k : Nat × Nat) : State :=
  { s with map := { s.map with awaitedRuns := if s.map.awaitedRuns.contains k then s.map.awaitedRuns else s.map.awaitedRuns ++ [k] } }

/-- A checkpoint of a segment starts (R155): its staging run is written and awaited, and its 22 units are queued; each takes its map blocks
from DRAM as it is placed. -/
def State.startCkpt (s : State) (seg : Nat) : State :=
  let s := if (s.seg seg).staging = [] then s else (s.writeRunOnly seg).awaitOne (seg, (s.seg seg).nextRun)
  let d := s.seg seg
  let s := s.setSeg seg { d with ckptBusy := true, ckptNew := [], ckptSafe := [], ckptNext := d.nextRun }
  (List.range 22).foldl (fun s i => s.queuePayload 6 (.ckpt seg i d.nextRun [] [])) s

/-- A staging run is written; a chain of 96 runs starts a checkpoint. `awaited`: its girth is to close (R184 case 3). -/
def State.writeRun (s : State) (seg : Nat) (awaited : Bool) : State :=
  let d := s.seg seg
  if d.staging = [] then s
  else
    let s := s.writeRunOnly seg
    let s := if awaited then s.awaitOne (seg, d.nextRun) else s
    if 96 ≤ (s.seg seg).runs.length ∧ !(s.seg seg).ckptBusy then s.startCkpt seg else s

/-- A further record of the segment may be appended: its chain is below 127 runs (R155). -/
def SegDesc.mayJournal (d : SegDesc) : Bool := decide (d.runs.length < 127)

/-- A journal record joins the staging run; a full run (127 records) is written. -/
def State.journal (s : State) (seg : Nat) (r : JrnlRec) : State :=
  let d := s.seg seg
  let wt := if d.staging = [] then s.wheel.wt else d.stagingWt
  let s := s.setSeg seg { d with staging := d.staging ++ [r], stagingWt := wt }
  if 127 ≤ (s.seg seg).staging.length then s.writeRun seg false else s

/-! ### Map changes (R127, R128, R138) -/

/-- An entry counts as a valid run of granules. -/
def MapEntry.isRun (e : MapEntry) : Bool := decide (e.glen ≠ 0) && !e.unc
def MapEntry.counts (e : MapEntry) : Bool := decide (e.glen ≠ 0) || e.sdp

/-- A run, or the root staging frame, awaited by the erase of a block (R171 step 1). -/
def State.awaitFlush (s : State) (b : Nat) (k : Nat × Nat) : State :=
  s.modBlk b fun r => { r with flushWait := if r.flushWait.contains k then r.flushWait else r.flushWait ++ [k] }
/-- The staging run awaited by the erase of the block that a record moves an entry out of. -/
def State.awaitRun (s : State) (b seg : Nat) : State := s.awaitFlush b (seg, (s.seg seg).nextRun)
/-- A root journal frame, in the place of a run of a segment (R158). -/
def rootFrameKey (n : Nat) : Nat × Nat := (2 ^ 32, n)

/-- Write a map entry: the DRAM map through the cache, the valid counts, MAPPED, and the journal record. -/
def State.writeEntry (s : State) (seg idx : Nat) (e : MapEntry) (hint source : Nat) : State :=
  let old := s.entryAt seg idx
  let s := { s with map := { s.map with entries := Table.put {} s.map.entries (entryKey seg idx) e } }
  let s := s.modSeg seg fun d => { d with mapped := d.mapped + bit e.counts - bit old.counts }
  let s := if old.isRun then (s.freeRun old.gaddr old.glen).awaitRun (s.img.blkOf old.gaddr) seg else s
  let s := if e.isRun then s.validRun e.gaddr e.glen else s
  (s.mcAccess seg (idx / 10) true hint source).journal seg (.entry idx e)
/-- Write a map entry that changes. -/
def State.setEntry (s : State) (seg idx : Nat) (e : MapEntry) (hint source : Nat) : State :=
  if s.entryAt seg idx = e then s else s.writeEntry seg idx e hint source

/-- Write a tag record (R141). -/
def State.setTag (s : State) (seg idx v : Nat) (hint source : Nat) : State :=
  let old := s.tagAt seg idx
  if old = v then s
  else
    let s := { s with map := { s.map with tags := Table.put 0 s.map.tags (entryKey seg idx) v } }
    let s := s.modSeg seg fun d => { d with mapped := d.mapped + bit (decide (v ≠ 0)) - bit (decide (old ≠ 0)) }
    (s.mcAccess seg (idx / 7) true hint source).journal seg (.tag idx v)

/-! ### Allocation and return (R132) -/

/-- The head of the free-segment FIFO: segments never taken come first, in order of number. -/
def State.takeSeg (s : State) : Option (Nat × State) :=
  if s.map.nextSeg < s.map.poolSize then
    some (s.map.nextSeg, { s with map := { s.map with nextSeg := s.map.nextSeg + 1 } })
  else
    match s.map.freeSegs with
    | g :: rest => some (g, { s with map := { s.map with freeSegs := rest } })
    | [] => none

/-- The segment of a directory position, taken and zero-filled when it is unallocated; none when the pool is empty, with code
0x0603 at most once a round. -/
def State.allocSeg (s : State) (nsx : Nat) (tag : Bool) (unit : Nat) : Option Nat × State :=
  match s.segOf nsx tag unit with
  | some g => (some g, s)
  | none =>
    match s.takeSeg with
    | none => (none, if s.map.poolTold then s else { s.leave 0x0603 0 [nsx] with map := { s.map with poolTold := true } })
    | some (g, s) =>
      let pos := unit / segUnits tag
      let s := s.setSeg g { nsx := nsx, tagKind := tag, alloc := true, restored := true, dirPos := pos,
                            buffered := (s.map.wbi.filter fun (_, (n, u, _, _)) => decide (n = nsx) && decide (u / segUnits tag = pos)).length }
      let s := { s with map := { s.map with dirs := Table.set s.map.dirs (dirKey nsx tag pos) g } }
      (some g, (s.rootRec (.segAlloc g nsx tag pos)).rootRec (.dirEntry nsx tag pos (some g)))

/-- Runs of stream 6 that a segment's checkpoint and chain name become invalid. -/
def State.freeChain (s : State) (d : SegDesc) (below : Nat) : State :=
  let s := (d.ckptUnits.zipIdx).foldl (fun s (a, i) => s.freeRun a (ckptGran i)) s
  d.runs.foldl (fun s (seq, a) => match a with | some g => if seq < below then s.freeRun g 4 else s | none => s) s

/-- A payload of a segment's chain or checkpoint. -/
def Payload.ofSeg (g : Nat) : Payload → Bool
  | .run seg _ _ => decide (seg = g)
  | .ckpt seg .. => decide (seg = g)
  | _ => false

/-- A segment's runs are written no more: an erase that waited for one of them waits for the root frame that will hold the return (R171). -/
def State.dropRuns (s : State) (g : Nat) : State :=
  let swap (k : List (Nat × Nat)) : List (Nat × Nat) :=
    if k.any (·.1 = g) then (k.filter (·.1 ≠ g)) ++ (if k.contains (rootFrameKey s.map.rootFrames) then [] else [rootFrameKey s.map.rootFrames]) else k
  let s := s.modStream 6 fun x => { x with list := x.list.filter fun p => !p.ofSeg g }
  { s with blk := { s.blk with recs := s.blk.recs.map fun (b, r) => (b, { r with flushWait := swap r.flushWait }) },
           map := { s.map with awaitedRuns := s.map.awaitedRuns.filter (·.1 ≠ g) },
           dump := { s.dump with consumeRuns := s.dump.consumeRuns.filter (·.1 ≠ g) } }

/-- A segment returns to the free FIFO: its directory entry goes, its cache lines are invalidated (R132, R363). -/
def State.returnSeg (s : State) (g : Nat) : State :=
  let d := s.seg g
  let s := s.freeChain d (d.nextRun + 1)
  let s := d.ckptSafe.foldl (fun s i => s.freeRun (Table.getD d.ckptNew i 0) (ckptGran i)) s
  let s : State := { s with map := { s.map with
      dirs := Table.del s.map.dirs (dirKey d.nsx d.tagKind d.dirPos)
      segs := Table.del s.map.segs g
      entries := s.map.entries.filter (fun (k, _) => k / 1048576 ≠ g)
      tags := s.map.tags.filter (fun (k, _) => k / 1048576 ≠ g)
      badBlocks := s.map.badBlocks.filter (fun k => k / 65536 ≠ g)
      freeSegs := s.map.freeSegs ++ [g] } }
  (((s.dropRuns g).mcInvalidateSegment g).rootRec (.segReturn g)).rootRec (.dirEntry d.nsx d.tagKind d.dirPos none)

/-- Return a segment that nothing is mapped or buffered in (R132). -/
def State.returnIfEmpty (s : State) (g : Nat) : State :=
  let d := s.seg g
  if d.alloc ∧ d.restored ∧ d.mapped = 0 ∧ d.buffered = 0 then s.returnSeg g else s

/-- Return the segments a unit lies in when they are empty. -/
def State.returnUnitSegs (s : State) (nsx unit : Nat) : State :=
  let s := match s.segOf nsx false unit with | some g => s.returnIfEmpty g | none => s
  match s.segOf nsx true unit with | some g => s.returnIfEmpty g | none => s

/-- Every segment of a namespace returns, its buffered units' entries with it (namespace deletion, Format NVM). -/
def State.returnSpace (s : State) (nsx : Nat) : State :=
  let gone := (s.map.wbi.filter fun (_, (n, _, _, _)) => n = nsx).map fun (_, (_, u, _, _)) => u
  let s := gone.foldl (fun s u => s.wbiRelease nsx u) s
  let segs := (s.map.segs.filter fun (_, d) => d.alloc && decide (d.nsx = nsx)).map (·.1)
  segs.foldl (fun s g =>
    let d := s.seg g
    let s := if d.tagKind then s
      else (s.map.entries.filter fun (k, _) => k / 1048576 = g).foldl (fun s (_, e) => if e.isRun then s.freeRun e.gaddr e.glen else s) s
    s.returnSeg g) s

/-! ### Lookup of the map (R132, R133) -/

inductive Looked where
  /-- the directory position is unallocated: reads as unmapped -/
  | unalloc
  /-- its segment is not restored -/
  | restore (seg : Nat)
  | entry (seg : Nat) (e : MapEntry) (tag : Nat)
  deriving DecidableEq, Repr

/-- The DRAM map's answer for a unit; `tags` the unit's namespace keeps tag records. -/
def State.lookMap (s : State) (nsx unit : Nat) (tags : Bool) : Looked :=
  match s.segOf nsx false unit with
  | none => .unalloc
  | some g =>
    if !(s.seg g).restored ∨ s.blockBad g (blockIn false unit) then .restore g
    else
      match (if tags then s.segOf nsx true unit else none) with
      | none => .entry g (s.entryAt g (indexIn false unit)) 0
      | some t =>
        if (s.seg t).restored ∧ !s.blockBad t (blockIn true unit) then .entry g (s.entryAt g (indexIn false unit)) (s.tagAt t (indexIn true unit)) else .restore t

/-- A lookup's access to the map cache; hint 0 for host lookups, 1 for walks, patrol and scans (R362). -/
def State.touchMap (s : State) (nsx unit hint source : Nat) : State :=
  match s.segOf nsx false unit with
  | some g => (s.checkUnit nsx unit).mcAccess g (blockIn false unit) false hint source
  | none => s

/-! ### Discard of a unit (R148) -/

/-- Discard a unit: the entry with GLEN 0 keeping SDP (`sdp` sets it), then the index entry, then the journal record, whatever the entry held; a
tag record goes with the entry. The unit's segment is restored. -/
def State.discardUnit (s : State) (nsx unit : Nat) (sdp : Bool) (source : Nat) : State :=
  let s := match s.segOf nsx false unit with
    | some g =>
      let e := s.entryAt g (indexIn false unit)
      s.writeEntry g (indexIn false unit) { ({} : MapEntry) with sdp := e.sdp || sdp } 0 source
    | none => s
  let s := match s.segOf nsx true unit with
    | some t => s.setTag t (indexIn true unit) 0 0 source
    | none => s
  (s.wbiRelease nsx unit).returnUnitSegs nsx unit

/-- SDP of a unit that a secure discard touches (R149); a unit of an unallocated position has no entry to hold it, until the write of its zeros gives it
one. -/
def State.markSdp (s : State) (nsx unit : Nat) : State :=
  match s.segOf nsx false unit with
  | some g => s.setEntry g (indexIn false unit) { s.entryAt g (indexIn false unit) with sdp := true } 0 3
  | none => s

end Sys2Proof.Machine
end

