-- ==== Sys2Proof/Machine/Block.lean ====
section
/-! DEFINITION. Blocks and their lists (07_reclaim_and_wear): free pools and takes, forced lists, the erase gate, erases and
retirement; the ledger's staging (08_girths R192, R193); the release of sets (R188); secure-discard jobs (06_map R150). -/
namespace Sys2Proof.Machine

def dieOfBlk (b : Nat) : Nat := b / 65536
def blkNo (b : Nat) : Nat := b % 65536

/-! ### The ledger's staging page (R193) -/

/-- Append an entry to the ledger's staging page; `waits`: a waiter needs it durable. -/
def State.ledger (s : State) (e : LedgerEntry) (waits : Bool) : State :=
  { s with girth := { s.girth with
      ledgerNew := s.girth.ledgerNew ++ [e],
      ledgerWts := s.girth.ledgerWts ++ [s.wheel.wt],
      waiters := s.girth.waiters + bit waits } }

/-- 16-byte records of an entry: 1 and its EXT records (R192). -/
def LedgerEntry.records : LedgerEntry → Nat
  | .setOpen _ r => 1 + ceilDiv (r.w + 2) 4
  | .setRefresh _ r => 1 + ceilDiv (r.w + 2) 4 + ceilDiv (r.w + 2) 8
  | _ => 1

/-- Whether entries fill eight frames of 256 records, an entry never crossing a frame: the frame and record reached. -/
def ledgerFill : List LedgerEntry → (frame at_ : Nat) → Nat × Nat
  | [], f, a => (f, a)
  | e :: es, f, a => if a + e.records ≤ 256 then ledgerFill es f (a + e.records) else ledgerFill es (f + 1) e.records

/-- The entries that fit in eight frames, and the rest. -/
def splitEight : List LedgerEntry → (frame at_ : Nat) → List LedgerEntry × List LedgerEntry
  | [], _, _ => ([], [])
  | e :: es, f, a =>
    let (f', a') := if a + e.records ≤ 256 then (f, a + e.records) else (f + 1, e.records)
    if 8 ≤ f' then ([], e :: es) else let (x, y) := splitEight es f' a'; (e :: x, y)

/-- A block that holds programmed data and is not retired (R173). -/
def State.readable (s : State) (b : Nat) : Bool := decide (0 < (s.blkRec b).programmed) && decide ((s.blkRec b).mode ≠ .retired)

/-! ### Free pools (R163 to R165) -/

def State.lists (s : State) (die : Nat) : DieLists := Table.getD s.blk.dies die {}
def State.modLists (s : State) (die : Nat) (f : DieLists → DieLists) : State :=
  { s with blk := { s.blk with dies := Table.set s.blk.dies die (f (s.lists die)) } }

/-- EC_BUCKET of an erase count. -/
def ImgState.ecBucket (i : ImgState) (count : Nat) : Nat := min 63 (count / max 1 i.ecWidth)

/-- Blocks of a die's free pool, both modes. -/
def State.pool (s : State) (die : Nat) : Nat :=
  let l := s.lists die
  (s.img.blocksPerPlane - l.fresh) + (l.normal.map fun (_, x) => x.length).sum + l.fastCell.length

/-- The lowest, or the highest, non-empty normal free list of a die; blocks never used stand in list 0. -/
def State.normalList (s : State) (die : Nat) (highest : Bool) : Option Nat :=
  let l := s.lists die
  let keys := (if l.fresh < s.img.blocksPerPlane ∧ (Table.getD l.normal 0 []) = [] then [0] else []) ++ (l.normal.filter fun (_, x) => x ≠ []).map (·.1)
  if highest then keys.getLast? else keys.head?

/-- Take the head of a normal list. -/
def State.takeNormal (s : State) (die : Nat) (highest : Bool) : Option (Nat × State) :=
  match s.normalList die highest with
  | none => none
  | some k =>
    let l := s.lists die
    if k = 0 ∧ l.fresh < s.img.blocksPerPlane then
      some (die * 65536 + l.fresh, s.modLists die fun l => { l with fresh := l.fresh + 1 })
    else
      match Table.getD l.normal k [] with
      | b :: rest => some (b, s.modLists die fun l => { l with normal := Table.put [] l.normal k rest })
      | [] => none

/-- Take the head of the fast-cell list. -/
def State.takeFast (s : State) (die : Nat) : Option (Nat × State) :=
  match (s.lists die).fastCell with
  | b :: rest => some (b, s.modLists die fun l => { l with fastCell := rest })
  | [] => none

/-- A requester takes a block of a die in the mode it wants; the Boolean tells that the block first needs an erase in that mode
(R163, R164). -/
def State.takeBlock (s : State) (die : Nat) (fc highest : Bool) : Option (Nat × Bool × State) :=
  if fc then
    match s.takeFast die with
    | some (b, s) => some (b, false, s)
    | none => (s.takeNormal die highest).map fun (b, s) => (b, true, s)
  else
    match s.takeNormal die highest with
    | some (b, s) => some (b, false, s)
    | none => (s.takeFast die).map fun (b, s) => (b, true, s)

/-- A die at the host floor: its pool holds HOST_FLOOR blocks or fewer (R165). -/
def State.atFloor (s : State) (die : Nat) : Bool := decide (s.pool die ≤ s.img.hostFloor)

/-- A block enters its die's free pool at the tail of its list (R163). -/
def State.freeBlock (s : State) (b : Nat) : State :=
  let r := s.blkRec b
  s.modLists (dieOfBlk b) fun l =>
    if r.fc then { l with fastCell := l.fastCell ++ [b] }
    else { l with normal := Table.set l.normal (s.img.ecBucket r.eraseCount) (Table.getD l.normal (s.img.ecBucket r.eraseCount) [] ++ [b]) }

/-! ### Counts of the drive (R145, R172, R175) -/

/-- Usable blocks: neither retired nor on an isolated die (R145). -/
def State.usable (s : State) : Nat :=
  let dies := s.populatedDies.filter s.dieServes
  dies.length * s.img.blocksPerPlane -
    (s.blk.recs.filter fun (b, r) => decide (r.mode = .retired) && decide (dieOfBlk b ∈ dies)).length

/-- Free blocks of all dies in service, both lists. -/
def State.freeBlocks (s : State) : Nat := ((s.populatedDies.filter s.dieServes).map s.pool).sum

/-- Blocks in fast-cell mode in use. -/
def State.fcInUse (s : State) : Nat :=
  (s.blk.recs.filter fun (_, r) => r.fc && decide (r.mode ∈ [BlockMode.opened, .closed, .victim, .suspect, .eraseWait])).length

/-- Usable blocks already in fast-cell mode: those in use, free and HELD (R145) (DEDUCED, log 86). -/
def State.fcBlocks (s : State) : Nat := (s.blk.recs.filter fun (b, r) => r.fc && decide (r.mode ≠ .retired) && s.dieServes (dieOfBlk b)).length

/-- The fast-cell target in blocks. -/
def State.fcTargetBlocks (s : State) : Nat := s.map.fcTarget * s.usable / (10000 * s.map.fcTargetDiv)

/-! ### Lists of closed blocks and forced lists (R166 to R168) -/

def State.closedAdd (s : State) (b : Nat) : State :=
  s.modLists (dieOfBlk b) fun l =>
    let k := s.img.ecBucket (s.blkRec b).eraseCount
    { l with closed := Table.set l.closed k (Table.getD l.closed k [] ++ [b]) }
def State.closedRemove (s : State) (b : Nat) : State :=
  s.modLists (dieOfBlk b) fun l =>
    let k := s.img.ecBucket (s.blkRec b).eraseCount
    { l with closed := Table.put [] l.closed k ((Table.getD l.closed k []).filter (· ≠ b)) }

/-- Row of the victim order of a forced list. -/
def forcedRow : Nat → Nat
  | 1 => 1 | 2 => 2 | 3 => 4 | 4 => 5 | 5 => 6 | _ => 8

def State.unforce (s : State) (b : Nat) : State :=
  let k := (s.blkRec b).forced
  if k = 0 then s
  else { s.modBlk b (fun r => { r with forced := 0 }) with
    blk := { (s.modBlk b (fun r => { r with forced := 0 })).blk with forced := Table.put [] s.blk.forced k ((Table.getD s.blk.forced k []).filter (· ≠ b)) } }

/-- A block joins a forced list; a lower or the same row is ignored (R168), and one of an isolated die stands in no list (R162). -/
def State.force (s : State) (b list : Nat) : State :=
  if forcedRow list < forcedRow (s.blkRec b).forced ∧ s.dieServes (dieOfBlk b) then
    let s := (s.unforce b).modBlk b fun r => { r with forced := list }
    { s with blk := { s.blk with forced := Table.set s.blk.forced list (Table.getD s.blk.forced list [] ++ [b]) } }
  else s

/-- A block is handed to reclaim for refresh: only a CLOSED block joins the list (07, 'Patrol hands over a block ...'). -/
def State.refresh (s : State) (b : Nat) : State := if (s.blkRec b).mode = .closed then s.force b 2 else s

/-- A frame reaches rung 3 (R112; 07, UNREAD_THIS): its block is marked, handed to refresh, and the rung's source counts one (DEDUCED, log 71). -/
def State.reachRung3 (s : State) (gran : Nat) : State :=
  let b := s.img.blkOf gran
  (((s.count 0x042 (chOfDie (dieOf gran)) 1).modBlk b fun r => { r with unreadThis := true })).refresh b

/-- A block leaves every list. -/
def State.unlist (s : State) (b : Nat) : State :=
  let r := s.blkRec b
  let s := s.unforce b
  let s := if r.mode = .closed then (s.vcRemove b).closedRemove b else s
  let s := s.modLists (dieOfBlk b) fun l =>
    { l with fastCell := l.fastCell.filter (· ≠ b), normal := (l.normal.map fun (k, x) => (k, x.filter (· ≠ b))).filter (fun (_, x) => x ≠ []),
             wear := if l.wear = some b then none else l.wear }
  { s with blk := { s.blk with active := s.blk.active.filter (· ≠ b) } }

/-- A block becomes CLOSED (R146, R162); one of an isolated die stands in no list. -/
def State.closeBlock (s : State) (b : Nat) : State :=
  let s := s.modBlk b fun r => { r with mode := .closed, closeWt := s.wheel.wt % 2 ^ 48 }
  if !s.dieServes (dieOfBlk b) then s
  else
    let s := if (s.blkRec b).stream ≤ 6 then s.vcAdd b else s
    let s := s.closedAdd b
    -- a closed fast-cell block of streams 0 to 3 stands in the fold list (R168 row 5)
    if (s.blkRec b).fc ∧ (s.blkRec b).stream ≤ 3 then s.force b 4 else s

/-! ### Sets (R188) -/

def State.setRec (s : State) (n : Nat) : SetRec := Table.getD s.girth.sets n {}
def State.modSet (s : State) (n : Nat) (f : SetRec → SetRec) : State :=
  { s with girth := { s.girth with sets := Table.modify s.girth.sets n f } }
def State.setOfBlk (s : State) (b : Nat) : Option Nat := Table.find s.girth.setOf b

/-- A set in use holds no valid granule, judged on restored segments (R235). -/
def State.setEmpty (s : State) (n : Nat) : Bool :=
  (s.setRec n).member.all fun b => decide ((s.blkRec b).valid = 0) && (!s.map.restoring || (s.blkRec b).walked)

/-- Girths filling or closing of a set. -/
def State.girthsOf (s : State) (n : Nat) : List (Nat × Girth) := s.girth.girths.filter fun (_, g) => g.set = n

/-- A set is released once each of its blocks has been erased, retired, or lies on an isolated die and holds no valid granule; its
record returns to the FIFO and SET_RELEASED is appended. -/
def State.releaseSet (s : State) (n : Nat) : State :=
  let gone (b : Nat) : Bool := s.setOfBlk b ≠ some n || (!s.dieServes (dieOfBlk b) && decide ((s.blkRec b).valid = 0))
  if (s.setRec n).state ≥ 2 ∧ (s.setRec n).member.all gone ∧ s.girthsOf n = [] then
    let s := (s.setRec n).member.foldl (fun s b =>
      if s.setOfBlk b = some n then { s with girth := { s.girth with setOf := Table.del s.girth.setOf b } } else s) s
    { s.ledger (.setReleased n) false with girth := { (s.ledger (.setReleased n) false).girth with
        sets := Table.del s.girth.sets n, freeSets := s.girth.freeSets ++ [n],
        rebuild := s.girth.rebuild.filter (·.1 ≠ n), reshape := s.girth.reshape.filter (· ≠ n),
        rebuilding := s.girth.rebuilding.filter (· ≠ n), reshaping := s.girth.reshaping.filter (· ≠ n) } }
  else s

/-- A block leaves its set: it has been erased or retired. -/
def State.leaveSet (s : State) (b : Nat) : State :=
  match s.setOfBlk b with
  | some n => ({ s with girth := { s.girth with setOf := Table.del s.girth.setOf b } }).releaseSet n
  | none => s

/-- When the rebuild and reshape lists are empty, RB returns to 0 and code 0x0806 is left; an empty reshape list after a switch ends
the layout change with a phase 1 entry and 0x0809 (R202, R204). Sets in evacuation still stand on their list, one of another width that is evacuated
as a rebuild on both. -/
def State.rebuildCheck (s : State) : State :=
  let s : State := match s.girth.lastLayout with
    | some (o, n, r, 0) =>
      if s.girth.reshape = [] ∧ s.girth.reshaping = [] ∧ (s.girth.rebuilding.all fun k => decide ((s.setRec k).w = s.girth.w)) then
        let s := (s.ledger (.layout o n r 1) false).leave 0x0809 0 []
        { s with girth := { s.girth with lastLayout := some (o, n, r, 1) } }
      else s
    | _ => s
  if s.girth.rb ∧ s.girth.rebuild = [] ∧ s.girth.reshape = [] ∧ s.girth.rebuilding = [] ∧ s.girth.reshaping = [] then
    let s := s.leave 0x0806 0 []
    { s with girth := { s.girth with rb := false } }
  else s

/-! ### Secure-discard jobs (R150) -/

def State.modJob (s : State) (j : Nat) (f : SdJob → SdJob) : State :=
  { s with map := { s.map with jobs := s.map.jobs.map fun x => if x.job = j then f x else x } }
def SdJob.isOpen (j : SdJob) : Bool := decide (j.state = 1) || decide (j.state = 2)
def SdJob.covers (j : SdJob) (nsx unit : Nat) : Bool :=
  decide (j.nsx = nsx) && j.ranges.any fun (u, n) => decide (u ≤ unit) && decide (unit < u + n)

/-- The segments of a unit that a map change needs, restored and with room in their chains; none when it must wait, with the
segment to restore if that is why. -/
def State.changeReady (s : State) (nsx unit : Nat) : Bool × Option Nat :=
  [false, true].foldl (fun acc tag =>
    match s.segOf nsx tag unit with
    | none => acc
    | some g =>
      if !(s.seg g).restored ∨ s.blockBad g (blockIn tag unit) then (false, acc.2.or (some g))
      else if (s.seg g).mayJournal then acc else (false, acc.2)) (true, none)

/-- A unit loses SDP (0), or is set UNC; an entry without a run takes the granules of the lost copy, so that no entry is UNC with GLEN 0 (R128, log 85).
Nothing where its position is unallocated. -/
def State.markNow (s : State) (nsx unit lost : Nat) : State :=
  match s.segOf nsx false unit with
  | some g =>
    let e := s.entryAt g (indexIn false unit)
    if 0 < lost then s.setEntry g (indexIn false unit) { e with unc := true, glen := if e.glen = 0 then lost else e.glen } 0 2
    else if e.sdp then (s.setEntry g (indexIn false unit) { e with sdp := false } 1 6).returnIfEmpty g
    else s
  | none => s
/-- A mark is made at once where the unit's segments may take the change, and waits otherwise (R155). -/
def State.markUnit (s : State) (nsx unit lost : Nat) : State :=
  match s.changeReady nsx unit with
  | (true, _) => s.markNow nsx unit lost
  | (false, g) =>
    let s : State := { s with map := { s.map with marks := s.map.marks ++ [(nsx, unit, lost)] } }
    match g with | some g => s.needUnit nsx unit g | none => s
/-- The marks that waited, in order. -/
def State.stepMarks (s : State) : State :=
  s.map.marks.foldl (fun s (n, u, lost) => s.markUnit n u lost) { s with map := { s.map with marks := [] } }

/-- A unit loses SDP. -/
def State.clearSdp (s : State) (nsx unit : Nat) : State := s.markUnit nsx unit 0

/-- The units of a segment that carry SDP and lie in a job's ranges. -/
def State.sdpUnits (s : State) (j : SdJob) : List Nat :=
  s.map.entries.filterMap fun (k, e) =>
    let d := s.seg (k / 1048576)
    let u := d.dirPos * 655360 + k % 1048576
    if e.sdp ∧ d.alloc ∧ j.covers d.nsx u then some u else none

/-- A job whose scan has ended and whose marked blocks are all erased or residue completes: SDP clears where no other open job covers
the unit, the end WT is recorded, the root takes the change and the event is raised. -/
def State.sdCheck (s : State) (n : Nat) : State :=
  match s.map.jobs.find? (·.job = n) with
  | none => s
  | some j =>
    if j.isOpen ∧ j.toScan = [] ∧ j.openWait = [] then
      if j.markedLeft = [] then
        let others := s.map.jobs.filter fun k => k.isOpen && decide (k.job ≠ n)
        let s := (s.sdpUnits j).foldl (fun s u => if others.any (·.covers j.nsx u) then s else s.clearSdp j.nsx u) s
        let s := s.modJob n fun j => { j with state := 3, endWt := s.wheel.wt }
        (s.rootRec (.jobState n 3 s.wheel.wt)).vendorEvent 0x03 0xC5
      else if j.state = 1 then (s.modJob n fun j => { j with state := 2 }).rootRec (.jobState n 2 0)
      else s
    else s

/-- A marked block has been erased. -/
def State.sdErased (s : State) (b : Nat) : State :=
  s.map.jobs.foldl (fun s j =>
    if j.markedLeft.contains b then
      (s.modJob j.job fun j => { j with erased := j.erased + 1, markedLeft := j.markedLeft.filter (· ≠ b) }).sdCheck j.job
    else s) s

/-- A marked block cannot be erased: it counts as residue, with code 0x0606. -/
def State.sdResidue (s : State) (b : Nat) : State :=
  s.map.jobs.foldl (fun s j =>
    if j.markedLeft.contains b then
      ((s.modJob j.job fun j => { j with residue := j.residue + 1, markedLeft := j.markedLeft.filter (· ≠ b) }).leave 0x0606 2
        [j.job, dieOfBlk b, blkNo b]).sdCheck j.job
    else s) s

/-- An erase joins its die's placement list. -/
def State.queueErase (s : State) (b : Nat) (fc : Bool) (use : WorkUse) : State :=
  let (id, s) := s.newId
  s.modDie (dieOfBlk b) fun d => { d with wkList := d.wkList ++
    [{ id := id, op := 2, cls := 4, fc := fc, block := b, wl := 0, pages := 0, use := use, since := s.wheel.wt }] }

/-- The units of the last dump in the hold set of a block (R150 step 1; DEDUCED, log 62: a dump has no block summaries, so each of its blocks answers for
the whole dump). -/
def State.dumpedIn (s : State) (b : Nat) : List (Nat × Nat) :=
  (if s.dump.holdA.contains b then Table.getD s.dump.dumped 0 [] else []) ++ (if s.dump.holdB.contains b then Table.getD s.dump.dumped 1 [] else [])
/-- A block's summary is scanned for a job: it is marked when an entry lies in the job's ranges and the unit's map entry does not name
that place (R150 step 2), as none names a place of a dump. -/
def State.sdScan (s : State) (n b : Nat) : State :=
  match s.map.jobs.find? (·.job = n) with
  | none => s
  | some j =>
    let hit := if (s.blkRec b).mode = .held then (s.dumpedIn b).any fun (nsx, u) => j.covers nsx u
      else (s.blkRec b).units.any fun (nsx, u, off) =>
        j.covers nsx u &&
          (match s.segOf nsx false u with
           | some g => let e := s.entryAt g (indexIn false u); decide (e.glen = 0) || decide (e.gaddr ≠ s.img.granAt b off)
           | none => true)
    let s := s.modJob n fun j => { j with scanned := j.scanned + 1, toScan := j.toScan.filter (· ≠ b), openWait := j.openWait.filter (· ≠ b),
                                          marked := j.marked + bit hit, markedLeft := if hit then j.markedLeft ++ [b] else j.markedLeft }
    if hit then
      let s := s.modBlk b fun r => { r with sdMark := true }
      -- a retired block receives one erase attempt, one of an isolated die cannot: residue (step 5)
      if !s.dieServes (dieOfBlk b) then s.sdResidue b
      else if (s.blkRec b).mode = .retired then s.queueErase b (s.blkRec b).fc .erase
      else if (s.blkRec b).mode = .closed then s.force b 3
      else s
    else s

/-- Blocks of every open job's scan that can be scanned now: an open one once it closes, any other once no girth of its set is in progress. -/
def State.sdStep (s : State) : State :=
  s.map.jobs.foldl (fun s j =>
    if j.isOpen then
      let ready := (j.toScan ++ j.openWait).filter fun b => decide ((s.blkRec b).mode ≠ .opened) && (s.setOfBlk b).all fun n => s.girthsOf n = []
      (ready.foldl (fun s b => s.sdScan j.job b) s).sdCheck j.job
    else s) s

/-- The latest WT that has these low 48 bits. -/
def State.wtOf (s : State) (low : Nat) : Nat := s.wheel.wt - (s.wheel.wt + 2 ^ 48 - low) % 2 ^ 48
/-- Blocks of a secure-discard job's scan set (06_map R150): every block that holds data and was opened no later than the job. -/
def State.scanSetOf (s : State) (startWt : Nat) : List Nat :=
  (s.blk.recs.filter fun (_, r) => decide (r.mode ≠ .free) && decide (s.wtOf r.openWt ≤ startWt) &&
    (decide (r.mode ≠ .held) || decide (r.programmed ≠ 0)) && (decide (r.units ≠ []) || decide (r.mode = .held) || (decide (r.mode = .opened) && decide (r.stream ≤ 5)))).map (·.1)
/-- A job of secure discard starts its scan: every block that holds data, opened no later than its start (R150; DEDUCED, log 62). -/
def State.jobScan (s : State) (j : SdJob) : SdJob :=
  let set := s.scanSetOf j.startWt
  let (o, c) := set.partition fun b => decide ((s.blkRec b).mode = .opened)
  { j with state := 1, toScan := c, openWait := o, scanSet := set.length, scanned := 0, markedLeft := [], marked := 0, erased := 0, residue := 0 }

/-- The record of the next job: a free one, the lowest number first (DESIGN CHOICE, log 88), else the oldest that has ended; none while 16 are open (R149). -/
def State.jobSlot (s : State) : Option Nat :=
  match (List.range 16).find? fun n => !(s.map.jobs.any fun j => decide (j.job = n) && decide (j.state ≠ 0)) with
  | some n => some n
  | none =>
    let done := s.map.jobs.filter fun j => !j.isOpen
    (done.find? fun j => done.all fun k => j.endWt ≤ k.endWt).map (·.job)
/-- A job is opened and written to the map root, with code 0x0604 (R149 step 2). -/
def State.openJob (s : State) (n nsx : Nat) (ranges : List (Nat × Nat)) : State :=
  let j : SdJob := { job := n, state := 1, nsx := nsx, serial := s.map.nextSerial, ranges := ranges, startWt := s.wheel.wt }
  let j := s.jobScan j
  let s : State := { s with map := { s.map with jobs := s.map.jobs.filter (·.job ≠ n) ++ [j], nextSerial := (s.map.nextSerial + 1) % 65536 } }
  (s.rootRec (.jobOpened j)).leave 0x0604 0 [n, j.serial, ranges.length]

/-! ### Retirement (R173) -/

/-- A block is retired: it leaves every list, BLOCK_RETIRED is appended and code 0x0702 is left. -/
def State.retire (s : State) (b reason : Nat) : State :=
  let s := (s.unlist b).modBlk b fun r => { r with mode := .retired, toHeld := false }
  let s := (s.ledger (.blockRetired b reason) false).leave 0x0702 2 [dieOfBlk b, blkNo b, reason]
  let s := { s with girth := { s.girth with retiredSince := s.girth.retiredSince ++ [(b, reason)],
                                            intents := s.girth.intents.filter (·.1 ≠ b) } }
  s.leaveSet b

/-! ### The erase gate and erases (R170, R171) -/

/-- A girth that awaits a run is to close (R184 case 3): its run lies in it already, or will when it is placed. -/
def State.awaitKey (s : State) (k : Nat × Nat) : State :=
  let holds (g : Girth) : Bool := g.placed.any fun p => match p.payload with
    | .run seg seq _ => decide ((seg, seq) = k) | .root n .. => decide (rootFrameKey n = k) | _ => false
  { s.awaitOne k with girth := { s.girth with girths := s.girth.girths.map fun (n, g) => (n, if holds g then { g with awaited := true } else g) } }

/-- Reclaim asks for the runs, and the root frame, that hold records of entries moved out of a block (R154, third trigger; R158). -/
def State.requestRuns (s : State) (b : Nat) : State :=
  (s.blkRec b).flushWait.foldl (fun s (seg, seq) =>
    let s := if (seg, seq) = rootFrameKey s.map.rootFrames then s.writeRootFrame
      else if (s.seg seg).nextRun = seq then s.writeRun seg true else s
    s.awaitKey (seg, seq)) s

/-- The runs and the root frame that a dump gave back and that are not durable yet: which of them moved an entry out of a block is not known any more, so
that an erase awaits them all (DEDUCED, log 86). -/
def State.loadedRuns (s : State) : List (Nat × Nat) := s.dump.consumeRuns ++ (match s.dump.consumeRoot with | some n => [rootFrameKey n] | none => [])

/-- VALID_GRAN of a victim has reached 0 and nothing of it is still being written or walked: ERASE_WAIT (R170 step 6). -/
def State.victimDone (s : State) (b : Nat) : State :=
  let r := s.blkRec b
  let busy := match s.setOfBlk b with | some n => s.girthsOf n ≠ [] | none => false
  let walking := s.fe.jobs.any fun (_, j) => decide (j.kind = .copy) && decide (j.source = b)
  if (r.mode = .victim ∨ r.mode = .suspect) ∧ r.valid = 0 ∧ r.walked ∧ !busy ∧ !walking ∧ s.dieServes (dieOfBlk b) then
    let s := s.unlist b
    let fast := decide ((s.lists (dieOfBlk b)).fastCell.length < s.img.fcFreeMax) && decide (s.fcInUse < s.fcTargetBlocks)
    (s.modBlk b fun r => { r with mode := .eraseWait, wantFc := fast, flushWait := r.flushWait ++ s.loadedRuns.filter fun k => !r.flushWait.contains k }).requestRuns b
  else s

/-- The gate of R171 step 2 is open for a block. -/
def State.gateOpen (s : State) (b : Nat) : Bool :=
  let r := s.blkRec b
  decide (r.mode = .eraseWait) && decide (r.valid = 0) && decide (r.flushWait = []) && decide (r.inflight = 0) && !r.intent
    && (!s.map.restoring || r.walked || r.toHeld) && s.dieServes (dieOfBlk b)

/-- What an erased block's record holds: counts updated, its data gone. -/
def BlockRec.erased (r : BlockRec) (fc : Bool) : BlockRec :=
  { r with fc := fc, eraseCount := satAdd 20 r.eraseCount 1, unreadCycles := min 3 (r.unreadCycles + bit r.unreadThis),
           unreadThis := false, sdMark := false, valid := 0, summary := none, summaryAt := [], units := [], intent := false, programmed := 0, walked := false }

/-- The programmed content of a block is gone. -/
def State.wipe (s : State) (b : Nat) : State :=
  let lo := s.img.granAt b 0
  let inside (k : Nat) : Bool := decide (lo ≤ k) && decide (k < lo + s.img.granPerBlock)
  { s with media := { items := s.media.items.filter (fun (k, _) => !inside k), tags := s.media.tags.filter (fun (k, _) => !inside k) } }

/-- An erase of a block succeeds (R171 steps 5 and 6, R173); a block erased for the mode its set wants stays with its set, unless it is retired or the set
was never opened (R164, R203). -/
def State.eraseOk (s : State) (b : Nat) (fc modeErase : Bool) : State :=
  let r := s.blkRec b
  let r' := r.erased fc
  let s := r.summaryAt.foldl (fun s (_, a) => s.freeRun a 8) s
  let s := ((s.wipe b).setBlk b { r' with mode := r.mode }).sdErased b
  let s := (s.ledger (.eraseDone b r'.eraseCount r'.unreadCycles) false)
  let s := { s with girth := { s.girth with intents := s.girth.intents.filter (·.1 ≠ b) } }
  if r.mode = .retired then s
  else if r.progFailed then s.retire b 2
  else if s.img.unreadRetire ≤ r'.unreadCycles ∧ 0 < r'.unreadCycles then s.retire b 3
  else if s.img.ecLimit ≠ 0 ∧ s.img.ecLimit ≤ r'.eraseCount then s.retire b 4
  else if modeErase ∧ r.mode = .opened then s
  else if r.toHeld then (s.leaveSet b).modBlk b fun r => { r with mode := .held, stream := 0, toHeld := false }
  else ((s.leaveSet b).modBlk b fun r => { r with mode := .free, stream := 0, progFailed := false }).freeBlock b

/-- An erase of a block fails: retired at once with reason 1; a marked block is residue (R173, R150). -/
def State.eraseBad (s : State) (b : Nat) : State :=
  let r := s.blkRec b
  let s := s.sdResidue b
  if r.mode = .retired then s else s.retire b (if r.progFailed then 2 else 1)

/-- A program failed in a block: SUSPECT, first in the victim order (R174 step 2). -/
def State.suspect (s : State) (b wl : Nat) : State :=
  let r := s.blkRec b
  if r.mode = .suspect ∨ r.mode = .retired ∨ !s.dieServes (dieOfBlk b) then s
  else
    let s := s.unlist b
    let s := (s.modBlk b fun r => { r with mode := .suspect, progFailed := true, walked := false }).force b 1
    s.leave 0x0701 1 [dieOfBlk b, blkNo b, wl]

end Sys2Proof.Machine
end

