-- ==== Sys2Proof/Machine/Frames.lean ====
section
/-! DEFINITION. What the frames of a page hold (05_frames_and_ldpc R103 to R107; 06_map R157; 08_girths R186, R187, R191): payload,
descriptors, parity members, and the solution for lost members. -/
namespace Sys2Proof.Machine

/-- Granules of a payload's run. -/
def Payload.gran : Payload → Nat
  | .buffered _ d _ _ => d.glen
  | .copy _ d _ _ _ => d.glen
  | .run _ _ _ => 4
  | .ckpt _ i _ _ _ => ckptGran i
  | .moved _ p => p.gran
  | _ => 8

/-! ### Descriptors (R105, R106) -/

/-- FRAME_DESC of one granule. -/
structure GranDesc where
  nsx : Nat := 0
  lba : Nat := 0
  dseq : Nat := 0
  tag : Nat := 0
  glen : Nat := 0
  pos : Nat := 0
  raw : Bool := false
  kind : Nat := 0
  slot : Nat := 0
  kgen : Bool := false
  deriving DecidableEq, Repr, Inhabited

/-- Its 24 bytes. -/
def GranDesc.pack (d : GranDesc) : Nat :=
  packFields [fld 0 10 d.nsx, fld 10 38 d.lba, fld 48 48 d.dseq, fld 96 64 d.tag, fld 160 4 d.glen, fld 164 3 d.pos, fld 167 1 (bit d.raw),
    fld 168 3 d.kind, fld 176 13 d.slot, fld 189 1 (bit d.kgen)]
/-- A descriptor as read from its 24 bytes; reserved bits are ignored (R8). -/
def GranDesc.ofBits (x : Nat) : GranDesc :=
  { nsx := bitField x 0 10, lba := bitField x 10 38, dseq := bitField x 48 48, tag := bitField x 96 64, glen := bitField x 160 4, pos := bitField x 164 3,
    raw := decide (bitField x 167 1 = 1), kind := bitField x 168 3, slot := bitField x 176 13, kgen := decide (bitField x 189 1 = 1) }

/-- The descriptor of granule `pos` of a host unit. -/
def UnitDesc.gran (d : UnitDesc) (pos : Nat) : GranDesc :=
  { nsx := d.nsx, lba := d.unit, dseq := d.dseq, tag := d.tag, glen := d.glen, pos := pos, raw := d.raw, kind := 1, slot := d.slot, kgen := d.kgen }
/-- The descriptor of granule `pos` of stream 6 content (R157). -/
def mapDesc (nsx lba dseq tag glen pos : Nat) : GranDesc :=
  { nsx := nsx, lba := lba, dseq := dseq, tag := tag, glen := glen, pos := pos, raw := true, kind := 2 }
/-- The descriptor of the granules of ledger frame LSEQ of a page written at WT `wt` (R191). -/
def ledgerDesc (wt lseq pos : Nat) : GranDesc := { lba := wt % 2 ^ 38, dseq := lseq, glen := 8, pos := pos, raw := true, kind := 3 }

/-- The descriptor of granule k of a payload. A snapshot's index frame takes frame index 0 of NSX 3, and its root frames follow
(DESIGN CHOICE, log 84). -/
def Payload.granDesc (k : Nat) : Payload → GranDesc
  | .buffered _ d _ _ => d.gran k
  | .copy _ d _ _ _ => d.gran k
  | .run seg seq _ => mapDesc 1 seg seq 0 4 k
  | .ckpt seg i r _ _ => mapDesc 0 (seg * 1024 + 48 * i + k / 8) r 0 8 (k % 8)
  | .summary b f _ wt => mapDesc 2 (b / 65536 * 2 ^ 23 + b % 65536 * 2 ^ 7 + f) (wt % 2 ^ 48) 0 8 k
  | .root n _ prev epoch => mapDesc 4 n epoch (prev.getD 0) 8 k
  | .snapFrame e kind i _ _ => mapDesc kind (if kind = 3 then i + 1 else i) e 0 8 k
  | .snapshot e .. => mapDesc 3 0 e 0 8 k
  | .moved _ p => p.granDesc k
  | .parity .. => {}

/-! ### Payload (R129, R141, R146, R153 to R158) -/

/-- What a frame of a snapshot holds, as a number. -/
def snapImage (part : SnapPart) (d : SnapData) : Nat :=
  match part with
  | .segs f => packRow 8192 ((List.range 4).map fun i => (Table.getD d.segs (4 * f + i) {}).pack)
  | .dirs f => packRow 32 ((List.range 1024).map fun i => (Table.find d.dirs (1024 * f + i)).getD (2 ^ 32 - 1))
  | .jobs => packRow 512 ((List.range 16).map fun i => match d.jobs.find? (·.job = i) with | some j => j.pack | none => i)
  | .ranges job => packRow 128 (((d.jobs.find? (·.job = job)).map fun j => j.ranges.map fun (u, n) => u + n * 2 ^ 64).getD [])
  | .vt f => packRow 512 ((List.range 64).map fun i => (Table.getD d.vt (64 * f + i) {}).pack)
  | .wear f => packRow 32 ((List.range 1024).map fun i => wearEnt (Table.getD d.wear (1024 * f + i) (0, 0, false, false)))

/-- The content of granule k of a payload, 512 bytes; the places in a snapshot's index frame and root frames are the model's (DESIGN CHOICE, log 84). -/
def Payload.granImage (k : Nat) : Payload → Nat
  | .buffered _ _ _ x => ofBytes (sliceBytes x (512 * k) 512)
  | .copy _ _ _ _ x => ofBytes (sliceBytes x (512 * k) 512)
  | .run seg seq recs => bitField (runImage seg seq recs) (4096 * k) 4096
  | .ckpt seg i _ es ts => packRow 512 ((List.range 8).map fun t => blockOf (decide (ts ≠ [])) es ts seg (3072 * i + 8 * k + t))
  | .summary _ _ us _ => bitField (packRow 64 (us.map summaryEntry)) (4096 * k) 4096
  | .root _ recs _ _ => bitField (packRow 128 (recs.map RootRec.pack)) (4096 * k) 4096
  | .snapFrame _ _ _ part d => bitField (snapImage part d) (4096 * k) 4096
  | .snapshot _ base fs => bitField (packRow 64 (base :: fs.map fun (kind, i) => kind * 2 ^ 32 + i)) (4096 * k) 4096
  | .moved _ p => p.granImage k
  | .parity .. => 0

/-! ### Frames (R103, R107) -/

/-- The run that covers a granule address, with the granule's place in it. -/
def runAt (items : List (Nat × Payload)) (a : Nat) : Option (Payload × Nat) :=
  (items.find? fun (k, p) => decide (k ≤ a) && decide (a < k + p.gran)).map fun (k, p) => (p, a - k)
/-- Descriptor and content of a granule; one that no run covers is of kind EMPTY (R106). -/
def descAt (items : List (Nat × Payload)) (a : Nat) : GranDesc := match runAt items a with | some (p, k) => p.granDesc k | none => {}
def imageAt (items : List (Nat × Payload)) (a : Nat) : Nat := match runAt items a with | some (p, k) => p.granImage k | none => 0
/-- Bytes 0 to 4,287 of a frame from its granules' contents and descriptors. -/
def frameBits (payload desc : Nat → Nat) : Nat :=
  packRow 4096 ((List.range 8).map payload) + packRow 192 ((List.range 8).map desc) * 2 ^ 32768
/-- Bytes 0 to 4,287 of the frame at granule address `a`. -/
def frameAt (items : List (Nat × Payload)) (a : Nat) : Nat :=
  match Table.find items a with
  | some (.parity _ info) => info
  | _ => frameBits (fun g => imageAt items (a + g)) fun g => (descAt items (a + g)).pack
/-- The frame as flash holds it. -/
def State.frameInfo (s : State) (a : Nat) : Nat := frameAt s.media.items a
/-- Descriptor g of a frame's information part. -/
def frameDesc (info g : Nat) : GranDesc := GranDesc.ofBits (bitField info (32768 + 192 * g) 192)
/-- A frame of a ledger page (R191). -/
def LedgerPage.info (p : LedgerPage) (f : Nat) : Nat :=
  frameBits (fun g => bitField (p.frame f) (4096 * g) 4096) fun g => (ledgerDesc p.wt (p.seq + f) g).pack

/-! ### Parity over frames (R186, R187) -/

/-- A byte at every byte offset of an information part. -/
def everyByte (b : Nat) : Nat := b * ((2 ^ infoBits - 1) / 255)
/-- Every byte multiplied by g. -/
def gfDoubleAll (x : Nat) : Nat := ((x &&& everyByte 0x7F) * 2) ^^^ (((x / 128) &&& everyByte 0x01) * 0x1D)
/-- Every byte multiplied by a constant, over its low `n` bits. -/
def gfScaleAux : (n c x : Nat) → Nat
  | 0, _, _ => 0
  | n + 1, c, x => (if c % 2 = 1 then x else 0) ^^^ gfScaleAux n (c / 2) (gfDoubleAll x)
def gfScale (c : Byte) (x : Nat) : Nat := gfScaleAux 8 c.toNat x
/-- P and Q of a list of data members' frames, member j with its place; an absent member is not in the list, and so contributes zero (R186). -/
def parityP (ds : List (Nat × Nat)) : Nat := ds.foldl (fun p (_, x) => p ^^^ x) 0
def parityQ (ds : List (Nat × Nat)) : Nat := ds.foldl (fun q (j, x) => q ^^^ gfScale (gfPow j) x) 0

/-- The data member x from P' and Q', with the known members removed: P alone, Q alone where P is unknown, or both where member y is
unknown too (R187). -/
def solveMember (x : Nat) (y : Option Nat) (pKnown : Bool) (p' q' : Nat) : Nat :=
  match y with
  | some y => gfScale (gfInv (gfPow x ^^^ gfPow y)) (q' ^^^ gfScale (gfPow y) p')
  | none => if pKnown then p' else gfScale (gfInv (gfPow x)) q'

end Sys2Proof.Machine
end

