-- ==== Sys2Proof/Machine/Place.lean ====
section
/-! DEFINITION. Placement and girths (06_map R136 to R138, R143 to R146, R159; 08_girths R180 to R188, R197): filling, closing, the
ends of member programs, and what a durable close changes (DESIGN CHOICE, log 31). -/
namespace Sys2Proof.Machine

/-! ### Payloads -/

/-- A checkpoint unit fills a data member unit of its own (R155). -/
def Payload.whole : Payload → Bool
  | .ckpt .. => true
  | .moved _ p => p.whole
  | _ => false

/-! ### Filling (R183) -/

/-- The next data member at or after `m` that no checkpoint unit fills. -/
def Girth.memberFrom (g : Girth) (m : Nat) : Option Nat := ((List.range g.w).filter (m ≤ ·)).find? fun j => !g.whole.contains j

/-- The cursor on the next page unit of the fill order. -/
def Girth.nextPage (g : Girth) : Girth :=
  match g.memberFrom (g.mem + 1) with
  | some j => { g with mem := j, gran := 0 }
  | none => { g with pageUnit := g.pageUnit + 1, mem := (g.memberFrom 0).getD 0, gran := 0 }

/-- No granule remains. -/
def Girth.full (g : Girth) (pages : Nat) : Bool := decide (pages ≤ g.pageUnit) || decide (g.whole.length = g.w)

/-- The cursor where a run of `n` granules fits: a run never crosses a page. -/
def Girth.seek (g : Girth) (n : Nat) : Girth := if g.gran + n ≤ 32 then g else g.nextPage

/-- A data member not begun yet, for a checkpoint unit. -/
def Girth.freshMember (g : Girth) : Option Nat :=
  if g.pageUnit = 0 then g.memberFrom (if g.gran = 0 then g.mem else g.mem + 1) else none

/-- Girth n. -/
def State.girthRec (s : State) (n : Nat) : Option Girth := Table.find s.girth.girths n
def State.setGirth (s : State) (n : Nat) (g : Girth) : State := { s with girth := { s.girth with girths := Table.set s.girth.girths n g } }
def State.modGirth (s : State) (n : Nat) (f : Girth → Girth) : State := { s with girth := { s.girth with girths := Table.modify s.girth.girths n f } }

/-- Member position of data member j of a girth, and the block there. -/
def Girth.posOf (g : Girth) (j : Nat) : Nat := natAt (dataPositions g.w g.wl) j
def State.memberBlk (s : State) (g : Girth) (pos : Nat) : Nat := natAt (s.setRec g.set).member pos

/-- What placing a payload at an address settles at once: the address of a run or of a checkpoint unit, and the chain of root frames. -/
def State.addressed (s : State) (p : Payload) (a : Nat) : State :=
  match p with
  | .run seg seq _ => s.modSeg seg fun d => { d with runs := d.runs.map fun (q, x) => if q = seq then (q, some a) else (q, x) }
  | .ckpt seg i r _ _ => s.modSeg seg fun d => if d.ckptBusy ∧ d.ckptNext = r then { d with ckptNew := Table.set d.ckptNew i a } else d
  | .root n .. => { s with map := { s.map with rootLast := some a, rootChain := Table.set s.map.rootChain n a } }
  | _ => s

/-- What a frame of a snapshot takes from DRAM as it is copied (R158). -/
def State.snapData (s : State) : SnapPart → SnapData
  | .segs f => { segs := s.map.segs.filter fun (k, _) => k / 4 = f }
  | .dirs f => { dirs := s.map.dirs.filter fun (k, _) => k / 1024 = f }
  | .jobs => { jobs := s.map.jobs }
  | .ranges j => { jobs := s.map.jobs.filter (·.job = j) }
  | .vt f => { vt := s.codec.vt.filter fun (k, _) => k / 64 = f }
  | .wear f => { wear := (s.blk.recs.filter fun (b, _) => b / 1024 = f).map fun (b, r) =>
      (b, (r.eraseCount, r.unreadCycles, r.unreadThis, decide (r.mode = .retired))) }

/-- The payload as it is placed: a root journal frame names the previous one, and a unit of a checkpoint or a frame of a snapshot takes its
content from DRAM now, while changes go on (R155, R158). -/
def State.asPlaced (s : State) : Payload → Payload
  | .root n recs _ e => .root n recs s.map.rootLast e
  | .ckpt seg i r _ _ => .ckpt seg i r (ckptSlice (s.seg seg).tagKind s.map.entries seg i) (ckptSlice (s.seg seg).tagKind s.map.tags seg i)
  | .snapFrame e k i part _ => .snapFrame e k i part (s.snapData part)
  | p => p

/-- The blocks that a checkpoint unit copies, one of which fails its CRC: the segment is restored first, and the unit waits (R155). -/
def State.badCopy (s : State) : Payload → Option (Nat × Nat)
  | .ckpt seg i _ _ _ => (s.map.badBlocks.find? fun k => decide (k / 65536 = seg) && decide (k % 65536 / 3072 = i)).map fun k => (seg, k % 65536)
  | _ => none

/-- A run of the journal, or a root journal frame, that the map engine awaits (R184 case 3). -/
def State.isAwaited (s : State) : Payload → Bool
  | .run seg seq _ => s.map.awaitedRuns.contains (seg, seq)
  | .root n .. => s.map.awaitedRuns.contains (rootFrameKey n)
  | _ => false

/-- The girth with data member j taken whole; the cursor leaves it. -/
def Girth.takeWhole (g : Girth) (j : Nat) : Girth :=
  let g' := { g with whole := g.whole ++ [j] }
  if g.mem = j then g'.nextPage else g'

/-- Where a payload goes: the girth after it, its data member, page unit and granule; none when it has no room. -/
def Girth.spot (g : Girth) (pages : Nat) (p : Payload) : Option (Girth × Nat × Nat × Nat) :=
  if p.whole then g.freshMember.map fun j => (g.takeWhole j, j, 0, 0)
  else
    let h := g.seek p.gran
    if h.full pages then none else some ({ h with gran := h.gran + p.gran }, h.mem, h.pageUnit, h.gran)

/-- Place one payload into girth n; none when it has no room. -/
def State.placeIn (s : State) (n : Nat) (g : Girth) (p : Payload) : Option State :=
  match g.spot (s.img.unitPages g.fc) p with
  | none => none
  | some (g', j, pu, gr) =>
    let pos := g.posOf j
    let a := s.img.memberGran g.fc (s.memberBlk g pos) g.wl pu gr
    let p := s.asPlaced p
    let g' := if 32 ≤ g'.gran then g'.nextPage else g'
    let g' := { g' with placed := g'.placed ++ [⟨a, p.gran, pos, p⟩], oldestWt := some (g'.oldestWt.getD s.wheel.wt), awaited := g'.awaited || s.isAwaited p }
    some ((s.setGirth n g').addressed p a)

/-- A stream opens the next girth of its set, when it holds fewer than INFLIGHT girths awaiting close (R184). -/
def State.openGirth (s : State) (n : Nat) : State :=
  let x := s.stream n
  match x.filling, x.set with
  | none, some k =>
    let r := s.setRec k
    if x.list ≠ [] ∧ x.inflight.length < s.img.inflightMax ∧ r.state = 1 ∧ x.nextWl < s.img.wordLines r.fc ∧ x.floorDie.isNone then
      let g : Girth := { stream := n, set := k, wl := x.nextWl, w := r.w, fc := r.fc, pageUnit := 0, mem := 0, gran := 0, whole := [], placed := [],
                         oldestWt := none, closing := false, awaited := false, members := List.replicate (r.w + 2) .waiting, parity := false, closeSeq := none, empty := 0 }
      let id := s.girth.nextGirth
      ({ s.setGirth id g with girth := { (s.setGirth id g).girth with nextGirth := id + 1 } }).modStream n fun x => { x with filling := some id, nextWl := x.nextWl + 1 }
    else s
  | _, _ => s

/-- Place the waiting payloads of a stream in order while they fit; a payload that does not fit fills the girth up. -/
def State.placeList (s : State) (n : Nat) : List Payload → State
  | [] => s.modStream n fun x => { x with list := [] }
  | p :: ps =>
    match s.badCopy p, (s.stream n).filling with
    | some (g, b), _ => ((s.modStream n fun x => { x with list := p :: ps }).checkBlock g b).needSeg g
    | none, none => s.modStream n fun x => { x with list := p :: ps }
    | none, some id =>
      match s.girthRec id with
      | none => s.modStream n fun x => { x with list := p :: ps }
      | some g =>
        match s.placeIn id g p with
        | some s' => State.placeList s' n ps
        | none => (s.modGirth id fun g => { g with pageUnit := s.img.unitPages g.fc }).modStream n fun x => { x with list := p :: ps }

/-- Placement of streams 0 to 6. -/
def State.place (s : State) : State :=
  (List.range 7).foldl (fun s n => let s := s.openGirth n; s.placeList n (s.stream n).list) s

/-! ### Sets end (R180) -/

/-- A set ends for a reason: SET_END is appended, the stream opens a new set for its next girth, and the girth in progress closes. -/
def State.endSet (s : State) (k reason : Nat) : State :=
  if (s.setRec k).state = 1 then
    let s := (s.modSet k fun r => { r with state := 2, endReason := reason }).ledger (.setEnd k reason) false
    { s with girth := { s.girth with
        streams := s.girth.streams.map (fun x => if x.set = some k then { x with set := none, nextWl := 0 } else x),
        girths := s.girth.girths.map fun (n, g) => (n, if g.set = k then { g with awaited := true } else g) } }
  else s

/-! ### Members (R174, R185, R197) -/

/-- The class of the programs of a stream (R143). -/
def streamClass (n : Nat) : Nat := if n = 4 ∨ n = 5 then 3 else 2

/-- A block taken in the other mode awaits its extra erase, whose intent is not durable yet (R164, R171 step 3). -/
def State.awaitsErase (s : State) (b : Nat) : Bool := decide ((s.blkRec b).mode = .opened) && (s.blkRec b).intent && !(s.girth.intents.any fun (x, _) => x = b)

/-- Queue one member's program on its die's placement list; behind the extra erase of its block, where that is still to be queued. -/
def State.queueMember (s : State) (n : Nat) (g : Girth) (pos : Nat) : State :=
  let b := s.memberBlk g pos
  let (id, s) := s.newId
  let w : WorkReq := { id := id, op := 1, cls := streamClass g.stream, fc := g.fc, block := b, wl := g.wl, pages := s.img.unitPages g.fc,
                       use := .member n pos, since := s.wheel.wt }
  s.modDie (dieOfBlk b) fun d => if s.awaitsErase b then { d with behind := d.behind ++ [w] } else { d with wkList := d.wkList ++ [w] }

/-- Row of the rebuild order (R201). -/
def SetRec.row (r : SetRec) : Nat := if 2 ≤ r.absWl.length then 2 else if r.stream = 6 then 3 else 4
/-- A set with a lost position that still holds valid granules joins the rebuild list: row 2 two positions lost, row 3 stream 6,
row 4 others; a set that moves to a higher row leaves its place (R201). -/
def State.joinRebuild (s : State) (k : Nat) : State :=
  let r := s.setRec k
  let row := r.row
  if s.girth.rebuilding.contains k ∨ (s.setEmpty k ∧ s.girthsOf k = []) then s
  else
    match s.girth.rebuild.find? (·.1 = k) with
    | some (_, old) =>
      if row < old then { s with girth := { s.girth with rebuild := s.girth.rebuild.filter (·.1 ≠ k) ++ [(k, row)], rb := true } } else s
    | none => { s with girth := { s.girth with rebuild := s.girth.rebuild ++ [(k, row)], rb := true } }

/-- A position of a set is lost from a word line on (R197). -/
def State.memberLost (s : State) (k pos wl : Nat) : State :=
  match Table.find (s.setRec k).absWl pos with
  | some old => if wl < old then (s.modSet k fun r => { r with absWl := Table.set r.absWl pos wl }).ledger (.memberLost k pos wl) false else s
  | none => ((s.modSet k fun r => { r with absWl := Table.set r.absWl pos wl }).ledger (.memberLost k pos wl) false).joinRebuild k

/-- Data positions of a girth whose program failed: its ABSENT mask. -/
def Girth.absent (g : Girth) : List Nat := (dataPositions g.w g.wl).filter fun p => g.members.getD p .waiting = .failed

/-- A copy job for a unit of a block (R170 step 3). -/
def State.addJob (s : State) (j : UnitJob) : Nat × State :=
  let n := s.fe.nextJob
  (n, { s with fe := { s.fe with jobs := Table.set s.fe.jobs n j, nextJob := n + 1 } })

def copyJob (nsx unit source gaddr glen stream : Nat) : UnitJob :=
  { tag := none, kind := .copy, stage := .lookup, nsx := nsx, unit := unit, index := 0, first := 0, len := 0, data := [], tagRec := 0,
    entry := { ({} : MapEntry) with gaddr := gaddr, glen := glen }, slot := none, desc := default, stored := [], stream := stream, source := source,
    metaAt := none, merge := false, rechecked := false }

/-- The stream a block's copies go to: 6 for a stream 6 block, 5 for one of stream 4 or 5 or a wear victim, otherwise 4 (R170 step 4). -/
def State.copyStream (s : State) (b : Nat) : Nat :=
  let n := (s.blkRec b).stream
  if n = 6 then 6 else if n = 4 ∨ n = 5 ∨ (s.lists (dieOfBlk b)).wear = some b then 5 else 4

/-- A payload of an absent member goes into the stream's next open girth: host units from the write buffer and stream 6 content from
DRAM at the head of the list, copies again from their sources (R174 steps 3 and 4). -/
def State.replace (s : State) (n : Nat) (p : Payload) : State :=
  match p with
  | .copy source d _ e _ => (s.addJob (copyJob d.nsx d.unit (s.img.blkOf source) source e.glen n)).2
  | _ => s.modStream n fun x => { x with list := p :: x.list }

/-- Address of frame f of the member unit at a position: frame f mod 4 of page unit f div 4. -/
def State.unitFrame (s : State) (g : Girth) (pos f : Nat) : Nat := s.img.memberGran g.fc (s.memberBlk g pos) g.wl (f / 4) (8 * (f % 4))
/-- Frames of a member unit. -/
def State.unitFrames (s : State) (g : Girth) : List Nat := List.range (4 * s.img.unitPages g.fc)
/-- Frame f of a data member as placement filled it, EMPTY where it did not. -/
def State.placedFrame (s : State) (g : Girth) (pos f : Nat) : Nat := frameAt (g.placed.map fun p => (p.gaddr, p.payload)) (s.unitFrame g pos f)
/-- P and Q accumulated over the data members of a girth that stops filling (R185 step 1). -/
def State.accumulate (s : State) (g : Girth) : Table (Nat × Nat) :=
  (s.unitFrames g).map fun f =>
    let ds := (dataPositions g.w g.wl).zipIdx.map fun (pos, j) => (j, s.placedFrame g pos f)
    (f, (parityP ds, parityQ ds))
/-- The contribution of an absent data member is removed (R185 step 3). -/
def State.unaccumulate (s : State) (g : Girth) (pos : Nat) : Girth :=
  let j := ((dataPositions g.w g.wl).findIdx? (· = pos)).getD 0
  { g with acc := g.acc.map fun (f, (p, q)) => (f, (p ^^^ s.placedFrame g pos f, q ^^^ gfScale (gfPow j) (s.placedFrame g pos f))) }

/-- What the programmed member holds from now on: its runs, or the frames of P or of Q. -/
def State.programmedItems (s : State) (g : Girth) (pos : Nat) : State :=
  let mine := g.placed.filter (·.pos = pos)
  let content : Payload → Payload := fun p => match p with | .moved _ q => q | q => q
  let tagOf : Payload → Nat := fun p => match p with | .buffered _ _ t _ => t | .copy _ _ t _ _ => t | _ => 0
  let m := mine.foldl (fun m p => { items := Table.set m.items p.gaddr (content p.payload), tags := Table.put 0 m.tags p.gaddr (tagOf p.payload) }) s.media
  let q := decide (pos = qPos g.w g.wl)
  let m := if pos = pPos g.w g.wl ∨ q then
      g.acc.foldl (fun m (f, x) => { m with items := Table.set m.items (s.unitFrame g pos f) (.parity q (if q then x.2 else x.1)) }) m
    else m
  { s with media := m }

/-- Every data member has completed: P and Q are queued (R185 step 4). Once they have ended, GIRTH_CLOSE is appended with a waiter. -/
def State.girthStep (s : State) (n : Nat) : State :=
  match s.girthRec n with
  | none => s
  | some g =>
    let ended (p : Nat) : Bool := g.members.getD p .waiting = .done || g.members.getD p .waiting = .failed
    if !g.closing ∨ !(dataPositions g.w g.wl).all ended then s
    else if !g.parity then
      let s := s.setGirth n { g with parity := true, members := updAt (updAt g.members (pPos g.w g.wl) fun _ => .queued) (qPos g.w g.wl) fun _ => .queued }
      (s.queueMember n g (pPos g.w g.wl)).queueMember n g (qPos g.w g.wl)
    else if ended (pPos g.w g.wl) ∧ ended (qPos g.w g.wl) ∧ g.closeSeq.isNone then
      (s.setGirth n { g with closeSeq := some 0 }).ledger (.girthClose g.set g.wl g.absent g.empty) true
    else s

/-- The program of a member of a girth ends. -/
def State.memberEnd (s : State) (n pos : Nat) (ok : Bool) : State :=
  match s.girthRec n with
  | none => s
  | some g =>
    let b := s.memberBlk g pos
    let g' := { g with members := updAt g.members pos fun _ => if ok then .done else .failed }
    let s := s.setGirth n g'
    if ok then
      ((s.programmedItems g pos).modBlk b fun r => { r with programmed := max r.programmed (g.wl + 1) }).girthStep n
    else
      let s := s.suspect b g.wl
      if (dataPositions g.w g.wl).contains pos then
        let s := s.setGirth n (s.unaccumulate g' pos)
        let s := (g.placed.filter (·.pos = pos)).reverse.foldl (fun s p => s.replace g.stream p.payload) s
        (s.endSet g.set 1).girthStep n
      else
        (((s.memberLost g.set pos g.wl).endSet g.set 1).leave 0x0802 2 [g.set, pos]).girthStep n

/-- A girth stops filling: what is not filled becomes EMPTY and its data members are queued; its set ends when its word lines are
used up (R180, R184). -/
def State.stopFilling (s : State) (id : Nat) : State :=
  match s.girthRec id with
  | none => s
  | some g =>
    let used := (g.placed.map (·.glen)).sum
    let g' := { g with closing := true, acc := s.accumulate g, empty := g.w * s.img.unitPages g.fc * 32 - used,
                       members := (List.range (g.w + 2)).map fun p => if (dataPositions g.w g.wl).contains p then .queued else .waiting }
    let s := (s.setGirth id g').modStream g.stream fun x => { x with filling := none, inflight := x.inflight ++ [id] }
    let s := (dataPositions g.w g.wl).foldl (fun s p => s.queueMember id g p) s
    if s.img.wordLines g.fc ≤ g.wl + 1 then s.endSet g.set 0 else s

/-! ### Blocks of an ended set close (R146) -/

/-- Frames of a block summary: 512 entries each. -/
def summaryFrames (units : List (Nat × Nat × Nat)) : List (Nat × List (Nat × Nat × Nat)) :=
  (List.range (max 1 (ceilDiv units.length 512))).map fun i => (i, (units.drop (512 * i)).take 512)

/-- The last girth of an ended set has closed: the summary of each of its open blocks is written before the block counts as closed; a
stream 6 block has none. -/
def State.closeSetBlocks (s : State) (k : Nat) : State :=
  let r := s.setRec k
  if r.state ≥ 2 ∧ s.girthsOf k = [] then
    r.member.foldl (fun s b =>
      if (s.blkRec b).mode = .opened then
        if r.stream = 6 then s.closeBlock b
        else (summaryFrames (s.blkRec b).units).foldl (fun s (i, us) => s.queuePayload 6 (.summary b i us s.wheel.wt)) s
      else s.victimDone b) s
  else s

/-- A set ends; when none of its girths is still in progress its blocks close at once. -/
def State.endSetNow (s : State) (k reason : Nat) : State := (s.endSet k reason).closeSetBlocks k

/-! ### A girth is closed (R136, R137, R185) -/

/-- Whether a payload is a unit of a namespace, and which. -/
def Payload.unit : Payload → Option UnitDesc
  | .buffered _ d _ _ => some d
  | .copy _ d _ _ _ => some d
  | _ => none

/-- A unit of a closing girth joins its block's list; where the block's walk has gone by already, the unit is walked now (R170 step 2). -/
def State.closeUnit (s : State) (g : Girth) (p : Placed) : State :=
  match p.payload.unit with
  | some d =>
    let b := s.memberBlk g p.pos
    let s := s.modBlk b fun r => { r with units := r.units ++ [(d.nsx, d.unit, s.img.offsetOf p.gaddr)] }
    if (s.blkRec b).walked ∧ ((s.blkRec b).mode = .suspect ∨ (s.blkRec b).mode = .victim) then
      (s.addJob (copyJob d.nsx d.unit b p.gaddr p.glen (s.copyStream b))).2
    else s
  | none => s

/-- The GIRTH_CLOSE of a girth is durable: its blocks' summaries take its units, and its runs wait for their map changes; code 0x0801 carries the
ABSENT mask of a girth closed with absent members. -/
def State.girthClosed (s : State) (k wl : Nat) : State :=
  match s.girth.girths.find? fun (_, g) => decide (g.set = k) && decide (g.wl = wl) with
  | none => s
  | some (n, g) =>
    let s := if g.absent = [] then s else s.leave 0x0801 1 [k, wl, (g.absent.map (2 ^ ·)).sum]
    let good := g.placed.filter fun p => g.members.getD p.pos .waiting = .done
    let s := s.modSet k fun r => { r with nextWl := max r.nextWl (wl + 1), lastAbsent := if r.nextWl ≤ wl then g.absent else r.lastAbsent }
    let s := good.foldl (fun s p => s.closeUnit g p) s
    let s := { s with girth := { s.girth with girths := Table.del s.girth.girths n }, map := { s.map with closing := s.map.closing ++ good },
                      fe := { s.fe with mediaGran := s.fe.mediaGran + (g.w + 2) * s.img.unitPages g.fc * 32 } }
    (s.modStream g.stream fun x => { x with inflight := x.inflight.filter (· ≠ n) }).closeSetBlocks k

/-! ### Stream 6 names (R155, R157, R159) -/

def snapKey (kind index : Nat) : Nat := kind * 16777216 + index

/-- The root, SEG_DESC or the block records still name this content at this address. -/
def State.names6 (s : State) (p : Payload) (a : Nat) : Bool :=
  match p with
  | .run seg seq _ => (s.seg seg).runs.contains (seq, some a)
  | .ckpt seg i _ _ _ => decide ((s.seg seg).ckptUnits[i]? = some a)
  | .summary b f .. => decide (Table.find (s.blkRec b).summaryAt f = some a)
  | .root n .. => decide (Table.find s.map.rootChain n = some a)
  | .snapFrame _ k i .. => decide (Table.find s.map.snapFrames (snapKey k i) = some a)
  | .snapshot .. => decide (Table.find s.map.snapFrames 0 = some a)
  | _ => false

/-- The latest ROOT_PTR of a kind. -/
def State.setRootPtr (s : State) (kind a : Nat) : State :=
  let s := s.ledger (.rootPtr kind a) false
  { s with girth := { s.girth with rootPtr := Table.set s.girth.rootPtr kind a } }

/-- Name a moved content at its new address, with its root record; the change types of R158 name none for a frame of a summary, of a snapshot or of
the root journal, which take one of their own (DESIGN CHOICE, log 84). -/
def State.rename6 (s : State) (p : Payload) (a : Nat) : State :=
  match p with
  | .run seg seq _ =>
    (s.modSeg seg fun d => { d with runs := d.runs.map fun (q, x) => if q = seq then (q, some a) else (q, x) }).rootRec (.runWritten seg seq a)
  | .ckpt seg i r _ _ =>
    ((s.modSeg seg fun d => { d with ckptUnits := updAt d.ckptUnits i fun _ => a }).rootRec (.ckptUnit seg i a)).rootRec (.ckptDone seg r)
  | .summary b f .. =>
    (s.modBlk b fun r => { r with summaryAt := Table.set r.summaryAt f a, summary := if f = 0 then some a else r.summary }).rootRec (.renamed 2 b a)
  | .root n .. =>
    let s := { s with map := { s.map with rootChain := Table.set s.map.rootChain n a } }
    (if n + 1 = s.map.rootFrames then ({ s with map := { s.map with rootLast := some a } }).setRootPtr 0 a else s).rootRec (.renamed 4 n a)
  | .snapFrame _ k i .. => ({ s with map := { s.map with snapFrames := Table.set s.map.snapFrames (snapKey k i) a } }).rootRec (.renamed k i a)
  | .snapshot .. => (({ s with map := { s.map with snapFrames := Table.set s.map.snapFrames 0 a } }).setRootPtr 1 a).rootRec (.renamed 3 0 a)
  | _ => s

/-- A checkpoint's last unit is durable: the new addresses and CKPT_RUN replace the old ones, and the runs before it leave the chain. -/
def State.ckptDone (s : State) (seg : Nat) : State :=
  let d := s.seg seg
  let s := s.freeChain d d.ckptNext
  let s := s.setSeg seg { s.seg seg with ckptUnits := (List.range 22).map fun i => Table.getD d.ckptNew i 0, ckptRun := d.ckptNext, ckptBusy := false,
                                          ckptNew := [], ckptSafe := [], runs := d.runs.filter fun (q, _) => d.ckptNext ≤ q }
  let s := s.rootRec (.ckptDone seg d.ckptNext)
  let s : State := if s.map.ckptAgain.contains seg then
      ({ s with map := { s.map with ckptAgain := s.map.ckptAgain.filter (· ≠ seg) } } : State).startCkpt seg
    else s
  s.returnIfEmpty seg

/-- Every frame of a snapshot is durable: the ledger takes its index frame's address, and it replaces the last one and the root journal
frames before it. -/
def State.snapDone (s : State) : State :=
  let s := s.setRootPtr 1 (Table.getD s.map.snapNew 0 0)
  let s := s.map.snapFrames.foldl (fun s (_, a) => s.freeRun a 8) s
  let s := (s.map.rootChain.filter (·.1 < s.map.snapRoot)).foldl (fun s (_, a) => s.freeRun a 8) s
  { s with map := { s.map with snapFrames := s.map.snapNew, snapNew := [], rootChain := s.map.rootChain.filter fun (n, _) => s.map.snapRoot ≤ n },
           girth := { s.girth with retiredSince := [] } }

/-- A snapshot frame is durable. -/
def State.snapFrameSafe (s : State) (epoch key a : Nat) : State :=
  if epoch = s.map.epoch ∧ 0 < s.map.snapLeft then
    let s := { s.validRun a 8 with map := { (s.validRun a 8).map with snapNew := Table.set s.map.snapNew key a, snapLeft := s.map.snapLeft - 1 } }
    if s.map.snapLeft = 0 then s.snapDone else s
  else s

/-- A journal run is durable: no erase waits for it any more (R154, R171). -/
def State.runSafe (s : State) (seg seq : Nat) : State :=
  { s with blk := { s.blk with recs := s.blk.recs.map fun (b, r) => (b, { r with flushWait := r.flushWait.filter (· ≠ (seg, seq)) }) },
           map := { s.map with awaitedRuns := s.map.awaitedRuns.filter (· ≠ (seg, seq)) },
           dump := { s.dump with consumeRuns := s.dump.consumeRuns.filter (· ≠ (seg, seq)) } }

/-! ### Map changes at a close -/

/-- Write a unit's entry and tag record as one step. -/
def State.changeUnit (s : State) (d : UnitDesc) (e : MapEntry) (tag hint source : Nat) : State :=
  let s := match s.segOf d.nsx false d.unit with
    | some g => s.setEntry g (indexIn false d.unit) e hint source
    | none => s
  match s.segOf d.nsx true d.unit with
  | some t => s.setTag t (indexIn true d.unit) tag hint source
  | none => s

/-- The map entry of a unit; unmapped when its position is unallocated. -/
def State.entryOf (s : State) (nsx unit : Nat) : MapEntry :=
  match s.segOf nsx false unit with | some g => s.entryAt g (indexIn false unit) | none => {}

/-- The change that one run of a closed girth makes; the Boolean tells that it must wait. -/
def State.applyClosed (s : State) (p : Placed) : Bool × State :=
  match p.payload with
  | .buffered slot d tag _ =>
    match s.map.wbiFind d.nsx d.unit with
    | some (_, g, _) =>
      if g ≠ slot then (false, s)
      else
        match s.changeReady d.nsx d.unit with
        | (true, _) =>
          let e : MapEntry := { gaddr := p.gaddr, glen := d.glen, raw := d.raw, unc := false, sdp := (s.entryOf d.nsx d.unit).sdp, kgen := d.kgen }
          (false, ((s.changeUnit d e tag 0 0).wbiRelease d.nsx d.unit).returnUnitSegs d.nsx d.unit)
        | (false, g) => (true, match g with | some g => s.needUnit d.nsx d.unit g | none => s)
    | none => (false, s)
  | .copy source d tag was _ =>
    match s.changeReady d.nsx d.unit with
    | (true, _) =>
      let cur := s.entryOf d.nsx d.unit
      if cur.gaddr = source ∧ cur.glen = was.glen ∧ !cur.unc then
        let s : State := if was.kgen = d.kgen then s else
          { s with cipher := { s.cipher with slots := Table.modify s.cipher.slots d.slot fun k => { k with sweepDone := k.sweepDone + 1 } } }
        (false, s.changeUnit d { cur with gaddr := p.gaddr, glen := d.glen, raw := d.raw, kgen := d.kgen } tag 1 1)
      else (false, s.count1 0x051)
    | (false, g) => (true, match g with | some g => s.needUnit d.nsx d.unit g | none => s)
  | .run seg seq _ =>
    let s := s.runSafe seg seq
    (false, if (s.seg seg).runs.contains (seq, some p.gaddr) then (s.validRun p.gaddr 4).rootRec (.runWritten seg seq p.gaddr) else s)
  | .ckpt seg i r _ _ =>
    let d := s.seg seg
    if d.ckptBusy ∧ d.ckptNext = r then
      let s := ((s.validRun p.gaddr p.glen).modSeg seg fun d => { d with ckptSafe := d.ckptSafe ++ [i] }).rootRec (.ckptUnit seg i p.gaddr)
      (false, if (s.seg seg).ckptSafe.length = 22 then s.ckptDone seg else s)
    else (false, s)
  | .summary b f .. =>
    if (s.blkRec b).mode = .opened then
      let s := (s.validRun p.gaddr 8).modBlk b fun r => { r with summaryAt := Table.set r.summaryAt f p.gaddr, summary := if f = 0 then some p.gaddr else r.summary }
      (false, if (s.blkRec b).summaryAt.length = (summaryFrames (s.blkRec b).units).length then s.closeBlock b else s)
    else (false, s)
  | .root n .. =>
    let s := s.runSafe (rootFrameKey n).1 (rootFrameKey n).2
    let s : State := { s with dump := { s.dump with consumeRoot := if s.dump.consumeRoot = some n then none else s.dump.consumeRoot } }
    (false, (s.validRun p.gaddr 8).setRootPtr 0 p.gaddr)
  | .snapFrame e k i .. => (false, s.snapFrameSafe e (snapKey k i) p.gaddr)
  | .snapshot e .. => (false, s.snapFrameSafe e 0 p.gaddr)
  | .moved source q =>
    if s.names6 q source then
      let n := s.map.rootFrames
      let s := (s.awaitFlush (s.img.blkOf source) (rootFrameKey n)).rename6 q p.gaddr
      let s := if s.map.rootFrames ≠ n ∧ s.map.rootStaging ≠ [] then s.awaitFlush (s.img.blkOf source) (rootFrameKey s.map.rootFrames) else s
      (false, (s.freeRun source p.glen).validRun p.gaddr p.glen)
    else (false, s.count1 0x051)
  | .parity .. => (false, s)

/-- The map changes of closed girths, in close order; what must wait stays (R235). -/
def State.applyClosing (s : State) : State :=
  let due := s.map.closing
  due.foldl (fun s p =>
    let (waits, s) := s.applyClosed p
    if waits then { s with map := { s.map with closing := s.map.closing ++ [p] } } else s) { s with map := { s.map with closing := [] } }

/-! ### Evacuation (R170, R202) -/

/-- The walk of a block (R170 step 2): each summary entry, or each programmed frame of a stream 6 block, is judged for a copy. -/
def State.walk (s : State) (b : Nat) : State :=
  let dest := s.copyStream b
  let s : State :=
    if (s.blkRec b).stream = 6 then
      let lo := s.img.granAt b 0
      let items := s.media.items.filter fun (k, _) => decide (lo ≤ k) && decide (k < lo + s.img.granPerBlock)
      items.foldl (fun s (a, p) => if s.names6 p a then (s.addJob (copyJob 1024 0 b a p.gran 6)).2 else s) s
    else (s.blkRec b).units.foldl (fun s (nsx, u, off) => (s.addJob (copyJob nsx u b (s.img.granAt b off) 0 dest)).2) s
  s.modBlk b fun r => { r with walked := true }

/-- A segment whose checkpoint is in progress is checkpointed anew after it. -/
def State.againCkpt (s : State) (seg : Nat) : State :=
  if s.map.ckptAgain.contains seg then s else { s with map := { s.map with ckptAgain := s.map.ckptAgain ++ [seg] } }
/-- Units of a checkpoint in progress that lie in a block: they will be named there. -/
def State.newUnitsIn (s : State) (lo hi : Nat) : List Nat :=
  (s.map.segs.filter fun (_, d) => d.ckptBusy && d.ckptNew.any fun (_, a) => decide (lo ≤ a) && decide (a < hi)).map (·.1)

/-- One frame of stream 6 that a set in evacuation holds at an address: a segment is checkpointed anew, after its present checkpoint where that does not
move its content; another frame that is still named is copied. -/
def State.evacuateItem (s : State) (b a : Nat) (p : Payload) : State :=
  match p with
  | .run seg seq _ => if (s.seg seg).ckptBusy then (if (s.seg seg).ckptNext ≤ seq then s.againCkpt seg else s) else s.startCkpt seg
  | .ckpt seg .. => if (s.seg seg).ckptBusy then s else s.startCkpt seg
  | _ => (s.addJob (copyJob 1024 0 b a p.gran 6)).2

/-- Stream 6 content of a set that is still named (R202 step 3). -/
def State.evacuateMap (s : State) (b : Nat) : State :=
  let lo := s.img.granAt b 0
  let items := s.media.items.filter fun (k, _) => decide (lo ≤ k) && decide (k < lo + s.img.granPerBlock)
  let s := items.foldl (fun s (a, p) => if s.names6 p a then s.evacuateItem b a p else s) s
  let s := (s.newUnitsIn lo (lo + s.img.granPerBlock)).foldl State.againCkpt s
  s.modBlk b fun r => { r with walked := true }

/-- A block of a set in evacuation that has closed (R202 steps 1 and 2): one of an isolated die is walked once. -/
def State.evacuateBlock (s : State) (b : Nat) : State :=
  let r := s.blkRec b
  if r.mode ≠ .closed then s
  else if !s.dieServes (dieOfBlk b) then if r.walked then s else if r.stream = 6 then s.evacuateMap b else s.walk b
  else
    let wear := (s.lists (dieOfBlk b)).wear
    let s := (s.unlist b).modLists (dieOfBlk b) fun l => { l with wear := wear }
    let s := s.modBlk b fun r => { r with mode := .victim }
    if r.stream = 6 then s.evacuateMap b else s.walk b

/-- A set in evacuation, and its blocks that have closed; a block that closes later follows then (DEDUCED, log 86). -/
def State.evacuateSet (s : State) (k : Nat) : State :=
  (s.setRec k).member.foldl State.evacuateBlock (s.modSet k fun r => { r with state := if r.state = 2 then 3 else r.state })

/-- Victims that have nothing left, sets in evacuation, and sets that can be released. -/
def State.settleBlocks (s : State) : State :=
  let s := (s.girth.rebuilding ++ s.girth.reshaping).foldl State.evacuateSet s
  let vs := (s.blk.recs.filter fun (_, r) => (decide (r.mode = .victim) || decide (r.mode = .suspect)) && decide (r.valid = 0)).map (·.1)
  let s := vs.foldl State.victimDone s
  ((s.girth.rebuilding ++ s.girth.reshaping).foldl State.releaseSet s).rebuildCheck.sdStep

end Sys2Proof.Machine
end

