-- ==== Sys2Proof/Machine/Degraded.lean ====
section
/-! DEFINITION. Reads handed to the dies, unit jobs that fail, degraded reads and frames that nothing rebuilds (08_girths R186, R198,
R199; 05_frames_and_ldpc R114; 06_map R159). -/
namespace Sys2Proof.Machine

/-! ### Unit jobs -/

def State.job (s : State) (t : Nat) : Option UnitJob := Table.find s.fe.jobs t
def State.setJob (s : State) (t : Nat) (j : UnitJob) : State := { s with fe := { s.fe with jobs := Table.set s.fe.jobs t j } }

/-- A read from a buffer slot ends. -/
def State.slotRead (s : State) (gran : Nat) : State :=
  { s with wb := { s.wb with slots := Table.modify s.wb.slots gran fun w => { w with readers := w.readers - 1 } } }

/-- The buffer slot a job is reading: a read, or the merge read of a write. -/
def UnitJob.reads (j : UnitJob) : Option Nat := if j.kind = .copy ∨ (j.kind = .write ∧ !j.merge) then none else j.slot

/-- The read of a buffer slot by a job is over. -/
def State.jobLeavesSlot (s : State) (t : Nat) : State :=
  match (s.job t).bind UnitJob.reads with | some g => s.slotRead g | none => s

/-- A unit job ends. -/
def State.dropJob (s : State) (t : Nat) : State :=
  let tag := (s.job t).bind (·.tag)
  let s := s.jobLeavesSlot t
  let s : State := { s with fe := { s.fe with jobs := Table.del s.fe.jobs t } }
  match tag with
  | some g => s.modCmd g fun c => { c with units := c.units.filter (· ≠ t) }
  | none => s

/-- A unit job ends with an error status of its command. -/
def State.jobFails (s : State) (t : Nat) (r : CmdResult) : State :=
  match (s.job t).bind (·.tag) with
  | some g => (s.dropJob t).finish g r
  | none => s.dropJob t

/-- Host reads enter HRQ: a unit read of a command (R59). -/
def UnitJob.readKind (j : UnitJob) : ReadKind := if j.kind = .copy then .copy else .host

/-! ### Reads (R59, R161) -/

/-- A read takes its granule address: INFLIGHT of its block rises until its data-out ends, and it waits in the list of its die. -/
def State.enterRead (s : State) (r : ReadReq) : State :=
  let s := s.modBlk (s.img.blkOf r.gran) fun b => { b with inflight := satAdd 16 b.inflight 1 }
  s.modDie (dieOf r.gran) fun d => if r.kind = .host then { d with feList := d.feList ++ [r] } else { d with irList := d.irList ++ [r] }
def State.issueRead (s : State) (kind : ReadKind) (use : ReadUse) (gran glen rung step : Nat) (job : Option Nat) : State :=
  let (id, s) := s.newId
  s.enterRead { id := id, job := job.getD id, kind := kind, use := use, gran := gran, glen := glen, rung := rung, step := step, entered := s.wheel.wt }

/-- A run of more than two frames is read frame by frame (log 83). -/
def State.issueFrames (s : State) (kind : ReadKind) (use : ReadUse) (gran glen : Nat) : State :=
  let (job, s) := s.newId
  let q : ReadReq := { id := job, job := job, kind := kind, use := use, gran := gran, glen := glen, rung := 0, step := 0, entered := s.wheel.wt }
  let n := ceilDiv glen 8
  let s : State := if n ≤ 1 then s else { s with codec := { s.codec with runs := Table.set s.codec.runs job (q, n, false) } }
  (List.range n).foldl (fun s k =>
    let (id, s) := s.newId
    s.enterRead { q with id := id, gran := gran + 8 * k, glen := min 8 (glen - 8 * k), part := k }) s

/-- A read no longer holds its block. -/
def State.readGone (s : State) (gran : Nat) : State :=
  s.modBlk (s.img.blkOf gran) fun b => { b with inflight := b.inflight - 1 }

/-! ### What flash holds -/

/-- The descriptor content of a programmed run (R105). -/
def Payload.desc? : Payload → Option UnitDesc
  | .buffered _ d _ _ => some d
  | .copy _ d _ _ _ => some d
  | _ => none
def Payload.data : Payload → List Byte
  | .buffered _ _ _ x => x
  | .copy _ _ _ _ x => x
  | _ => []

/-- The check of R114 on the descriptor of granule `pos` of a run: KIND HOST, NSX, LBA, GLEN, POS, RAW and KGEN against the unit and its map entry. -/
def descOk (nsx unit : Nat) (e : MapEntry) (pos : Nat) (d : GranDesc) : Bool :=
  decide (d.kind = 1) && decide (d.nsx = nsx) && decide (d.lba = unit) && decide (d.glen = e.glen) && decide (d.pos = pos) && decide (d.raw = e.raw)
    && decide (d.kgen = e.kgen)

/-! ### Runs of two frames (R87) -/

/-- The read that a frame's read is a part of. -/
def State.runOf (s : State) (q : ReadReq) : ReadReq := match Table.find s.codec.runs q.job with | some (r, _) => r | none => q
/-- A run of two frames is being read. -/
def State.openRun (s : State) (q : ReadReq) : State :=
  if framesOf q.gran q.glen = 1 ∨ (Table.find s.codec.runs q.job).isSome then s
  else { s with codec := { s.codec with runs := Table.set s.codec.runs q.job (q, framesOf q.gran q.glen, false) } }
/-- A frame of a run is good or lost: the state after it, and what the run comes to: none while frames are outstanding, else whether all are good. -/
def State.frameEnd (s : State) (q : ReadReq) (lost : Bool) : Option Bool × State :=
  match Table.find s.codec.runs q.job with
  | none => (some !lost, s)
  | some (r, n, was) =>
    if n ≤ 1 then (some (!lost && !was), { s with codec := { s.codec with runs := Table.del s.codec.runs q.job } })
    else (none, { s with codec := { s.codec with runs := Table.set s.codec.runs q.job (r, n - 1, was || lost) } })

/-! ### Visits and recalibrations end (R121 to R123) -/

/-- The age checks of R121 on a visited group. -/
def State.ageCheck (s : State) (g : Nat) : State :=
  let v := s.vtGroup g
  let round := s.wheel.wt / 1024 % 2 ^ 32
  let hot : Bool := match Table.find s.therm.flashGood (chOfDie (g % 1024)) with
    | some t => decide (s.img.recalTemp ≤ (t / 4 - v.calTemp).natAbs)
    | none => false
  let old : Bool := decide (s.img.recalAge ≤ (round + 2 ^ 32 - v.calRound) % 2 ^ 32)
  if !v.queued && (!v.valid || old || hot) then
    let s := s.modVt g fun v => { v with queued := true }
    { s with codec := { s.codec with age := s.codec.age ++ [g] } }
  else s
/-- A visit's reads are done: the age checks, then GROUP_READS 0 (R123). -/
def State.visitEnd (s : State) (g : Nat) : State := (s.ageCheck g).modVt g fun v => { v with reads := 0 }
/-- A sample of a visit has been judged, or dropped. -/
def State.sampleEnd (s : State) (g : Nat) : State :=
  match Table.find s.codec.visits g with
  | none => s
  | some n =>
    if n ≤ 1 then ({ s with codec := { s.codec with visits := Table.del s.codec.visits g } } : State).visitEnd g
    else { s with codec := { s.codec with visits := Table.set s.codec.visits g (n - 1) } }
def State.modRecal (s : State) (g : Nat) (f : Recal → Recal) : State :=
  { s with codec := { s.codec with recals := s.codec.recals.map fun c => if c.group = g then f c else c } }
def State.endRecal (s : State) (g : Nat) : State := { s with codec := { s.codec with recals := s.codec.recals.filter (·.group ≠ g) } }
/-- A recalibration is abandoned: QUEUED clears, the row in use stays, the reference block goes to refresh, code 0x0507 (R122). -/
def State.abandonRecal (s : State) (g : Nat) : State :=
  match s.codec.recals.find? (·.group = g) with
  | none => s
  | some c => (((s.modVt g fun v => { v with queued := false }).endRecal g).refresh c.block).leave 0x0507 2 [g, c.type]

/-! ### Frames that nothing rebuilds (R199) -/

/-- The units whose map entry names a granule of the frames of a run, as the block's summary lists them. -/
def State.unitsOfFrames (s : State) (gran glen : Nat) : List (Nat × Nat) :=
  let b := s.img.blkOf gran
  let lo := gran / 8 * 8
  let hi := (gran + glen + 7) / 8 * 8
  ((s.blkRec b).units.filterMap fun (nsx, u, off) =>
    let a := s.img.granAt b off
    let e := s.entryOf nsx u
    if e.gaddr = a ∧ e.isRun ∧ a < hi ∧ lo < a + e.glen then some (nsx, u) else none).eraseDups

/-- A unit is set UNC: journalled, listed in the LBA Status log (R128, R199); `lost` granules of a copy that no entry names. -/
def State.setUncOf (s : State) (nsx unit lost : Nat) : State :=
  match s.segOf nsx false unit with
  | some _ => { s.markUnit nsx unit (max 1 lost) with fe := { (s.markUnit nsx unit (max 1 lost)).fe with lbaStatus := s.fe.lbaStatus ++ [nsx * 2 ^ 38 + unit] } }
  | none => s
def State.setUnc (s : State) (nsx unit : Nat) : State := s.setUncOf nsx unit 1

/-- The entries that a lost journal run or checkpoint unit would have rebuilt are set UNC, with code 0x0602 (06_map). -/
def State.lost6 (s : State) (p : Payload) : State :=
  let idxs : List (Nat × Nat) := match p with
    | .run seg _ recs => recs.filterMap fun r => match r with | .entry i _ => some (seg, i) | .tag .. => none
    | .ckpt seg _ _ es _ => es.map fun (k, _) => (seg, k % 1048576)
    | _ => []
  match idxs with
  | [] => s
  | (seg, _) :: _ =>
    (idxs.foldl (fun s (g, i) => s.setUnc (s.seg g).nsx ((s.seg g).dirPos * 655360 + i)) s).leave 0x0602 3 [seg, idxs.length]

/-- The owner of a read that has lost a frame: a host read fails, a copy is dropped. -/
def State.readLost (s : State) (r : ReadReq) : State :=
  let s := (s.frameEnd r true).2
  match r.use with
  | .unit t => s.jobFails t (stat 2 0x81)
  | .copy t => s.dropJob t
  | _ => s

/-- A frame is unrecoverable: its units are set UNC with code 0x0804, and the read fails. -/
def State.unrecoverable (s : State) (r : ReadReq) : State :=
  let us := s.unitsOfFrames r.gran r.glen
  let s := us.foldl (fun s (n, u) => s.setUnc n u) s
  let a := (s.runOf r).gran
  let s := match Table.find s.media.items a with
    | some p => if p.desc?.isNone ∧ s.names6 p a then s.lost6 p else s
    | none => s
  let s := { s.leave 0x0804 3 [r.gran, us.length] with girth := { (s.leave 0x0804 3 [r.gran, us.length]).girth with uncUnits := satAdd 32 s.girth.uncUnits us.length } }
  s.readLost r

/-! ### Degraded reads (R198) -/

/-- Position of a block in a set. -/
def SetRec.posOf (r : SetRec) (b : Nat) : Nat := (r.member.findIdx? (· = b)).getD 0

/-- The co-located frame on another member. -/
def State.coGran (s : State) (k pos gran : Nat) : Nat :=
  s.img.granAt (natAt (s.setRec k).member pos) (s.img.offsetOf gran / 8 * 8)

/-- Positions unknown at a word line: every lost position (R198 step 2). -/
def SetRec.lostAt (r : SetRec) (wl : Nat) : List Nat := (r.absWl.filter fun (_, w) => w ≤ wl).map (·.1)
/-- Positions taken as zero and not read. -/
def SetRec.zeroAt (r : SetRec) (wl : Nat) : List Nat := if wl + 1 = r.nextWl then r.lastAbsent else []

def State.modRecon (s : State) (n : Nat) (f : Recon → Recon) : State :=
  { s with girth := { s.girth with recons := Table.modify s.girth.recons n f } }
def State.dropRecon (s : State) (n : Nat) : State := { s with girth := { s.girth with recons := Table.del s.girth.recons n } }

/-- Free reconstruction engines go to frames whose members have all decoded, host frames first (R198). -/
def State.giveEngines (s : State) : State :=
  let ready := s.girth.recons.filter fun (_, r) => decide (r.toRead = []) && !r.engine
  let order := (ready.filter fun (_, r) => r.req.kind = .host) ++ ready.filter fun (_, r) => r.req.kind ≠ .host
  let free := 8 - (s.girth.recons.filter fun (_, r) => r.engine).length
  (order.take free).foldl (fun s (n, _) => s.modRecon n fun r => { r with engine := true }) s

/-- Read member positions of a reconstruction: rungs 0 to 2, in HRQ for a host read and IRQ for an internal one. -/
def State.readMembers (s : State) (n : Nat) (r : Recon) (ps : List Nat) : State :=
  ps.foldl (fun s p =>
    s.issueRead (if r.req.kind = .host then .host else .copy) (.member n) (s.coGran r.set p r.req.gran) 8 0 0 none) s

/-- The read of a frame becomes degraded: the girth's other members are read (steps 1 to 3). -/
def State.degrade (s : State) (q : ReadReq) : State :=
  let b := s.img.blkOf q.gran
  if (Table.find s.girth.recons q.key).isSome then s
  else
  match s.setOfBlk b with
  | none => s.unrecoverable q
  | some k =>
    let r := s.setRec k
    let wl := s.img.wordLineOf r.fc (s.img.pageOf q.gran)
    let pos := r.posOf b
    let u := (pos :: r.lostAt wl).eraseDups
    if 3 ≤ u.length then s.unrecoverable q
    else
      let p := pPos r.w wl
      let qp := qPos r.w wl
      let zero := r.zeroAt wl
      let data := (dataPositions r.w wl).filter fun x => !u.contains x && !zero.contains x
      let askQ := u.contains p || decide (2 ≤ u.length)
      let reads := data ++ (if u.contains p then [] else [p]) ++ (if askQ ∧ !u.contains qp then [qp] else [])
      let rec' : Recon := { req := q, die := dieOf q.gran, set := k, wl := wl, unknown := u, toRead := reads, askedQ := askQ, engine := false }
      let s := { s with girth := { s.girth with recons := Table.set s.girth.recons q.key rec' } }
      (s.readMembers q.key rec' reads).giveEngines
/-- Every frame of a read becomes degraded. -/
def State.degradeRun (s : State) (q : ReadReq) : State := q.frames.foldl State.degrade (s.openRun q)

/-- A member read of a reconstruction ends (step 4). -/
def State.memberRead (s : State) (n gran : Nat) (ok : Bool) : State :=
  match Table.find s.girth.recons n with
  | none => s
  | some r =>
    let pos := (s.setRec r.set).posOf (s.img.blkOf gran)
    let r' := { r with toRead := r.toRead.filter (· ≠ pos) }
    if ok then (s.modRecon n fun _ => r').giveEngines
    else
      let u := r.unknown ++ [pos]
      if 3 ≤ u.length then (s.dropRecon n).unrecoverable r.req
      else
        let qp := qPos (s.setRec r.set).w r.wl
        if r.askedQ ∨ u.contains qp then (s.modRecon n fun _ => { r' with unknown := u }).giveEngines
        else
          let r'' := { r' with unknown := u, askedQ := true, toRead := r'.toRead ++ [qp] }
          (s.modRecon n fun _ => r'').readMembers n r'' [qp]

end Sys2Proof.Machine
end

