-- ==== Sys2Proof/Machine/Skive.lean ====
section
/-! DEFINITION. The skiver's format (13_skiver R315 to R325): its dictionary, the decoder's procedure of R319 and the device's
encoder of R321. The dictionary is the list of entries from code 258 on, oldest first; NEXT is 258 plus its length (R317). -/
namespace Sys2Proof.Machine

/-- Code width for a NEXT: max(9, min(WMAX, bitlen(NEXT))) (R318). -/
def codeWidth (wmax next : Nat) : Nat := max 9 (min wmax (Nat.log2 next + 1))

def nextCode (entries : List (List Byte)) : Nat := 258 + entries.length
/-- LIMIT - 258: entries the dictionary can hold (R317). -/
def dictRoom (wmax : Nat) : Nat := 2 ^ wmax - 258

/-- The string of a code below NEXT; 256 and 257 have none. -/
def entryOf (entries : List (List Byte)) (k : Nat) : Option (List Byte) :=
  if k < 256 then some [BitVec.ofNat 8 k]
  else if k < 258 then none
  else if k - 258 < entries.length then some (entries.getD (k - 258) []) else none

/-! ### Decoding -/

/-- What decoding one window gives: its output, the dictionary and the bytes it took; END; a format error; or input that ends
inside it. -/
inductive WinResult where
  | window (out : List Byte) (entries : List (List Byte)) (used : Nat)
  | stop (used : Nat)
  | error
  | short
  deriving DecidableEq, Repr

/-- Add an entry unless the dictionary is full (R317). -/
def addEntry (wmax : Nat) (entries : List (List Byte)) (e : List Byte) : List (List Byte) :=
  if entries.length < dictRoom wmax then entries ++ [e] else entries

/-- The loop of R319 over a code area given as a number of `nbits` bits, from bit `pos` on. A window's output beyond 256 bytes is
a format error (R320), so 257 codes and EOW bound the loop. -/
def decodeCodes (wmax area nbits : Nat) : (fuel pos : Nat) → (entries : List (List Byte)) → (prev : Option (List Byte)) →
    (out : List Byte) → WinResult
  | 0, _, _, _, _ => .error
  | fuel + 1, pos, entries, prev, out =>
    let next := nextCode entries
    let w := codeWidth wmax next
    if nbits < pos + w then .short
    else
      let k := bitField area pos w
      if k = 256 then
        match prev with
        | none => .error
        | some _ =>
          let used := ceilDiv (pos + w) 8
          if bitField area (pos + w) (8 * used - (pos + w)) = 0 then .window out entries (used + 1) else .error
      else if k = 257 ∨ next < k then .error
      else
        match prev with
        | none =>
          if k = next then .error
          else
            match entryOf entries k with
            | some e => decodeCodes wmax area nbits fuel (pos + w) entries (some e) (out ++ e)
            | none => .error
        | some p =>
          let e := if k < next then (entryOf entries k).getD [] else p ++ p.take 1
          if 256 < (out ++ e).length then .error
          else decodeCodes wmax area nbits fuel (pos + w) (addEntry wmax entries (p ++ e.take 1)) (some e) (out ++ e)

/-- Bytes of input the longest coded window can take: 257 codes of WMAX bits. -/
def maxCodedArea : Nat := 514

/-- Decode the window at the start of the input (R316, R319, R320). -/
def decodeWindow (wmax : Nat) (entries : List (List Byte)) (input : List Byte) : WinResult :=
  match input with
  | [] => .short
  | h :: rest =>
    let hd := h.toNat
    let ty := hd % 4
    let reset := bitField hd 2 1 = 1
    if ty = 3 ∨ 8 ≤ hd ∨ (ty = 2 ∧ reset) then .error
    else
      let entries := if reset then [] else entries
      if ty = 2 then .stop 1
      else if ty = 1 then
        if rest.length < 2 then .short
        else
          let len := ofBytes (rest.take 2)
          if len = 0 ∨ 256 < len then .error
          else if rest.length < 2 + len then .short
          else .window ((rest.drop 2).take len) entries (3 + len)
      else
        let area := rest.take maxCodedArea
        decodeCodes wmax (ofBytes area) (8 * area.length) 258 0 entries none []

/-- SKIVE_HDR fields (R315): none when MAGIC, VERSION or a reserved bit is wrong. -/
def parseHeader (h : List Byte) : Option (Nat × Bool) :=
  let x := ofBytes h
  if h.length = 4 ∧ bitField x 0 8 = 0xD5 ∧ bitField x 8 4 = 1 ∧ bitField x 16 16 = 0 then
    some (bitField x 12 3, decide (bitField x 15 1 = 1))
  else none

/-- SKIVE_HDR (R315). -/
def skiveHeader (wcode : Nat) (inline : Bool) : List Byte :=
  toBytes 4 (packFields [fld 0 8 0xD5, fld 8 4 1, fld 12 3 wcode, fld 15 1 (bit inline)])

/-- Decode windows until END; none on a format error or when the input ends first (R320 item 7). -/
def decodeWindows (wmax : Nat) : (fuel : Nat) → List (List Byte) → List Byte → List Byte → Option (List Byte)
  | 0, _, _, _ => none
  | fuel + 1, entries, input, out =>
    match decodeWindow wmax entries input with
    | .window o es used => decodeWindows wmax fuel es (input.drop used) (out ++ o)
    | .stop _ => some out
    | _ => none

/-- Decode an inline unit: INLINE 1, WCODE 3, exactly 4,096 bytes (R325). -/
def decodeInline (stored : List Byte) : Option (List Byte) :=
  if parseHeader (stored.take 4) = some (3, true) then
    match decodeWindows 12 stored.length [] (stored.drop 4) [] with
    | some out => if out.length = 4096 then some out else none
    | none => none
  else none

/-! ### Encoding (R321) -/

/-- The code of a string, if it has one. -/
def codeOf (entries : List (List Byte)) (s : List Byte) : Option Nat :=
  match s with
  | [b] => some b.toNat
  | _ => (entries.findIdx? (· = s)).map (· + 258)

/-- The encoder's loop: codes of a window, newest first, and the dictionary after it. -/
def encodeCodes (wmax : Nat) : (rest s : List Byte) → List (List Byte) → (codes : List Nat) → List Nat × List (List Byte)
  | [], s, entries, codes => (256 :: (codeOf entries s).getD 0 :: codes, entries)
  | x :: xs, s, entries, codes =>
    match codeOf entries (s ++ [x]) with
    | some _ => encodeCodes wmax xs (s ++ [x]) entries codes
    | none => encodeCodes wmax xs [x] (addEntry wmax entries (s ++ [x])) ((codeOf entries s).getD 0 :: codes)

/-- Pack codes with the widths the decoder will use: the first code leaves DNEXT as it is, each later one raises it. -/
def packCodes (wmax : Nat) : (codes : List Nat) → (dnext : Nat) → (first : Bool) → (pos acc : Nat) → Nat × Nat
  | [], _, _, pos, acc => (pos, acc)
  | k :: ks, dnext, first, pos, acc =>
    packCodes wmax ks (if first then dnext else min (dnext + 1) (2 ^ wmax)) false (pos + codeWidth wmax dnext) (acc + k * 2 ^ pos)

/-- The window header: TYPE and RESET (R316). -/
def windowHeader (ty : Nat) (reset : Bool) : Byte := BitVec.ofNat 8 (ty + 4 * bit reset)

/-- A window as STORED. -/
def storedWindow (reset : Bool) (x : List Byte) : List Byte := windowHeader 1 reset :: toBytes 2 x.length ++ x

/-- The device's encoding of one window: its bytes, the dictionary after it, and whether it was STORED (R321). -/
def encodeWindow (wmax : Nat) (reset : Bool) (entries : List (List Byte)) (x : List Byte) : List Byte × List (List Byte) × Bool :=
  let entries := if reset then [] else entries
  let (codes, entries') := encodeCodes wmax (x.drop 1) (x.take 1) entries []
  let (nbits, acc) := packCodes wmax codes.reverse (nextCode entries) true 0 0
  let coded := windowHeader 0 reset :: toBytes (ceilDiv nbits 8) acc
  if x.length + 3 ≤ coded.length then (storedWindow reset x, entries, true) else (coded, entries', false)

/-- END (R316). -/
def endByte : Byte := 2#8

/-- Encode windows of 256 bytes with one dictionary and no RESET. -/
def encodeWindows (wmax : Nat) : (fuel : Nat) → List (List Byte) → List Byte → List Byte
  | 0, _, _ => []
  | fuel + 1, entries, x =>
    if x = [] then []
    else
      let (bs, es, _) := encodeWindow wmax false entries (x.take 256)
      bs ++ encodeWindows wmax fuel es (x.drop 256)

/-- The inline encoding of a unit (R323): INLINE 1, WCODE 3, a fresh dictionary, 16 windows. -/
def encodeInline (data : List Byte) : List Byte := skiveHeader 3 true ++ encodeWindows 12 17 [] data ++ [endByte]

/-- GLEN and RAW of a unit from its skiver output length, PAD_MODE and INLINE_EN (R299, R323). -/
def unitLength (padMode : Nat) (inlineEn : Bool) (len : Nat) : Nat × Bool :=
  if !inlineEn || decide (padMode = 2) then (8, true)
  else if padMode = 1 then
    if 2048 < len then (8, true)
    else
      let g := ceilDiv len 512
      (if g ≤ 1 then 1 else if g ≤ 2 then 2 else 4, false)
  else if 3584 < len then (8, true) else (ceilDiv len 512, false)

end Sys2Proof.Machine
end

