-- ==== Sys2Proof/Machine/Unit.lean ====
section
/-! DEFINITION. Unit jobs (01_architecture R14 to R19, 06_map R140 to R142, 09 R208 to R211, 12_cipher R298 to R313, 13_skiver R323):
the stages a unit of a command or of a copy passes, its requests to the cipher engine, and write-buffer slots. -/
namespace Sys2Proof.Machine

/-! ### Key slots (R286, R294, R301) -/

def State.keySlot (s : State) (n : Nat) : KeySlot := Table.getD s.cipher.slots n {}
def State.modSlot (s : State) (n : Nat) (f : KeySlot → KeySlot) : State :=
  { s with cipher := { s.cipher with slots := Table.set s.cipher.slots n (f (s.keySlot n)) } }
/-- KGEN of a context: the parity of its generation. -/
def KeySlot.kgen (k : KeySlot) : Bool := decide (k.gen % 2 = 1)
/-- The key set a KGEN names. -/
def KeySlot.keysFor (k : KeySlot) (kgen : Bool) : Option KeySet := if kgen = k.kgen then k.current else k.previous
/-- A rewrite waits for the old requests (PENDING, R294). -/
def KeySlot.pending (k : KeySlot) : Bool := k.pendingLabel.isSome || k.pendingKeys.isSome

/-! ### Tweak, tag, padding (R298 to R300) -/

def tweakOf (nsx unit dseq : Nat) : List Byte := toBytes 2 (nsx % 1024) ++ toBytes 6 (unit % 2 ^ 38) ++ toBytes 6 dseq ++ [0#8, 0#8]
def checkMessage (nsx unit dseq glen : Nat) (raw kgen : Bool) (ct : List Byte) : List Byte :=
  toBytes 2 (nsx % 1024) ++ toBytes 6 (unit % 2 ^ 38) ++ toBytes 6 dseq ++ [BitVec.ofNat 8 glen, BitVec.ofNat 8 (bit raw + 2 * bit kgen)] ++ ct
/-- Ciphertext and TAG of a padded unit. -/
def sealUnit (k : KeySet) (d : UnitDesc) (plain : List Byte) : List Byte × Nat :=
  let ct := xtsEncrypt k.k1 k.k2 (tweakOf d.nsx d.unit d.dseq) plain
  (ct, cmacTag k.k3 (checkMessage d.nsx d.unit d.dseq d.glen d.raw d.kgen ct))
/-- The stored TAG agrees with the recomputed one. -/
def tagAgrees (k : KeySet) (d : UnitDesc) (ct : List Byte) : Bool :=
  decide (cmacTag k.k3 (checkMessage d.nsx d.unit d.dseq d.glen d.raw d.kgen ct) = d.tag)
def openUnit (k : KeySet) (d : UnitDesc) (ct : List Byte) : List Byte := xtsDecrypt k.k1 k.k2 (tweakOf d.nsx d.unit d.dseq) ct

/-! ### Protection information (R139, R141, R142) -/

/-- CRC-16 of T10, polynomial 0x8BB7, over bytes (format 2's guard). -/
def crc16Step : (n : Nat) → BitVec 16 → BitVec 16
  | 0, c => c
  | n + 1, c => crc16Step n (if c.getLsbD 15 then (c <<< 1) ^^^ 0x8BB7#16 else c <<< 1)
def crc16 (bs : List Byte) : Nat := (bs.foldl (fun c b => crc16Step 8 (c ^^^ (BitVec.setWidth 16 b).shiftLeft 8)) 0#16).toNat
/-- CRC-64 of NVMe, reflected polynomial 0x9A6C9329AC4BC9B5 (format 3's guard). -/
def crc64Step : (n : Nat) → BitVec 64 → BitVec 64
  | 0, c => c
  | n + 1, c => crc64Step n (if c.getLsbD 0 then (c >>> 1) ^^^ 0x9A6C9329AC4BC9B5#64 else c >>> 1)
def crc64 (bs : List Byte) : Nat := (~~~ (bs.foldl (fun c b => crc64Step 8 (c ^^^ b.setWidth 64)) 0xFFFFFFFFFFFFFFFF#64)).toNat
/-- Guard of a logical block's data for a format. -/
def guardOf (format : Nat) (data : List Byte) : Nat := if format = 3 then crc64 data else crc16 data
/-- A tag record from its tags; format 2 writes bits [63:48] as 0. -/
def tagRecord (format app ref : Nat) : Nat := packFields [fld 0 16 app, fld 16 48 (if format = 2 then ref % 2 ^ 32 else ref)]
def recApp (r : Nat) : Nat := bitField r 0 16
def recRef (r : Nat) : Nat := bitField r 16 48
/-- The metadata bytes of a block as returned: guard, application tag and reference tag, most significant byte first as NVMe has
them (log 7). -/
def piBytes (format guard app ref : Nat) : List Byte :=
  if format = 3 then toBytesBE 8 guard ++ toBytesBE 2 app ++ toBytesBE 6 ref else toBytesBE 2 guard ++ toBytesBE 2 app ++ toBytesBE 4 ref

/-- The command's protection fields (log 7): PRACT and PRCHK of CDW12; application tag and mask of CDW15; initial reference tag of CDW14, with
CDW2's low half above it in format 3. -/
def cmdPract (c : Cmd) : Bool := bitField (dw c.entry 12) 29 1 = 1
def cmdChkRef (c : Cmd) : Bool := bitField (dw c.entry 12) 26 1 = 1
def cmdChkApp (c : Cmd) : Bool := bitField (dw c.entry 12) 27 1 = 1
def cmdChkGuard (c : Cmd) : Bool := bitField (dw c.entry 12) 28 1 = 1
def cmdApp (c : Cmd) : Nat := bitField (dw c.entry 15) 0 16
def cmdAppMask (c : Cmd) : Nat := bitField (dw c.entry 15) 16 16
def refModulus (format : Nat) : Nat := if format = 3 then 2 ^ 48 else 2 ^ 32
/-- Reference tag of the command's block `i`: it counts up, but for protection type 3. -/
def cmdRef (n : Namespace) (c : Cmd) (i : Nat) : Nat :=
  let first := dw c.entry 14 + (if n.flbas % 16 = 3 then 2 ^ 32 * bitField (dw c.entry 2) 0 16 else 0)
  (first + if n.piType = 3 then 0 else i) % refModulus (n.flbas % 16)
/-- Tags that disable checking. -/
def tagsEscape (n : Namespace) (app ref : Nat) : Bool :=
  decide (app = 0xFFFF) && (decide (n.piType ≠ 3) || decide (ref = refModulus (n.flbas % 16) - 1))
/-- The failure of the tag checks that PRCHK selects. -/
def tagFailure (n : Namespace) (c : Cmd) (i app ref : Nat) : Option CmdResult :=
  if n.piType = 0 ∨ tagsEscape n app ref then none
  else if cmdChkApp c ∧ app &&& cmdAppMask c ≠ cmdApp c &&& cmdAppMask c then some (stat 2 0x83)
  else if cmdChkRef c ∧ n.piType ≠ 3 ∧ ref ≠ cmdRef n c i then some (stat 2 0x84)
  else none
/-- The failure of a read's tag checks: the stored tags against the command's (PRESUMED, log 43). -/
def State.readFailure (s : State) (j : UnitJob) (mapped : Bool) : Option CmdResult :=
  match s.spaceOf j.nsx, j.tag.bind s.cmd with
  | some n, some c =>
    if mapped ∧ n.hasTags ∧ j.kind ≠ .write ∧ j.kind ≠ .copy then tagFailure n c (j.unit - sqeSlba c.entry) (recApp j.tagRec) (recRef j.tagRec) else none
  | _, _ => none

/-! ### Cipher requests (R310, R313) -/

/-- A request joins the engine's queue; it captures the slot's SGEN and, unless a rewrite is pending, its keys. -/
def State.cipherAsk (s : State) (work : CipherWork) (slot : Nat) (keys : Option KeySet) (read : Bool) : State :=
  let n := s.cipher.nextReq
  let k := s.keySlot slot
  let r : CipherReq := { work := work, slot := slot, sgen := k.sgen, keys := if k.pending then none else keys, read := read, arrived := n, pair := none, mismatches := [] }
  { s with cipher := { s.cipher with reqs := Table.set s.cipher.reqs n r, nextReq := n + 1 } }

/-- The next request a free pair takes: the oldest read, otherwise the oldest other; not on a pair it has mismatched on. -/
def CipherState.nextFor (c : CipherState) (pair : Nat) : Option Nat :=
  let ready := c.reqs.filter fun (_, r) => r.pair.isNone && r.keys.isSome && !r.mismatches.contains pair
  match ready.find? fun (_, r) => r.read with
  | some (n, _) => some n
  | none => ready.head?.map (·.1)

/-- Free pairs take requests. -/
def State.pumpPairs (s : State) : State :=
  s.cipher.pairs.foldl (fun s p =>
    if s.cipher.reqs.any fun (_, r) => r.pair = some p then s
    else
      match s.cipher.nextFor p with
      | some n => { s with cipher := { s.cipher with reqs := Table.modify s.cipher.reqs n fun r => { r with pair := some p } } }
      | none => s) s

/-! ### Commands of units -/

/-- A command all of whose units have ended completes with success, unless it has its status or its end waits for something else. -/
def State.cmdStep (s : State) (tag : Nat) : State :=
  match s.cmd tag with
  | some c => if c.units = [] ∧ c.result.isNone ∧ (Table.find s.fe.late tag).isNone then s.finish tag ok else s
  | none => s

/-- A unit of a command ends well. -/
def State.endUnit (s : State) (t : Nat) : State :=
  match (s.job t).bind (·.tag) with
  | some g => (s.dropJob t).cmdStep g
  | none => s.dropJob t

/-- A unit's plain data has been read, with its tag record: returned, compared, or merged into (R140, R142). -/
def State.unitData (s : State) (t : Nat) (data : List Byte) (mapped : Bool) : State :=
  match s.job t with
  | none => s
  | some j =>
    let part := sliceBytes data j.first j.len
    match s.readFailure j mapped with
    | some r => s.jobFails t r
    | none =>
    match j.kind with
    | .write => (s.jobLeavesSlot t).setJob t { j with data := patch data j.first j.data, merge := false, slot := none, stage := .skiver }
    | .compare =>
      match j.tag with
      | some g => if part = j.data then s.endUnit t else (s.dropJob t).finish g (stat 2 0x85)
      | none => s.dropJob t
    | .verify => s.endUnit t
    | _ =>
      match j.tag with
      | some g =>
        let format := ((s.spaceOf j.nsx).map (·.flbas % 16)).getD 0
        let meta_ := if mapped then piBytes format (guardOf format part) (recApp j.tagRec) (recRef j.tagRec)
          else piBytes format (guardOf format part) 0xFFFF (2 ^ 48 - 1)
        let s := s.modCmd g fun c =>
          let out := patch c.out j.index part
          { c with out := match j.metaAt with | some m => patch out m meta_ | none => out }
        s.endUnit t
      | none => s.dropJob t

/-! ### Lookup (R17, R19, R133) -/

/-- A read's keyed check fails (R301): a frame from flash goes to rung 3; one rebuilt there, or a buffered unit, is set UNC and its
read fails (DEDUCED, log 47). -/
def State.checkFailed (s : State) (t : Nat) (j : UnitJob) : State :=
  let gran := match j.slot with | some g => g | none => j.entry.gaddr
  if j.rechecked ∨ (j.slot.isSome ∧ j.kind ≠ .copy) then
    let s := (s.leave 0x0C0A 3 [gran]).setUnc j.nsx j.unit
    let s : State := { s with girth := { s.girth with uncUnits := satAdd 32 s.girth.uncUnits 1 } }
    s.jobFails t (stat 2 0x81)
  else
    let (id, s) := ((s.leave 0x0C09 2 [j.entry.gaddr]).reachRung3 j.entry.gaddr).newId
    let host := decide (j.kind ≠ .copy)
    let q : ReadReq := { id := id, job := id, kind := if host then .host else .copy, use := if host then .unit t else .copy t, gran := j.entry.gaddr,
                         glen := j.entry.glen, rung := 3, step := 0, entered := s.wheel.wt }
    (s.setJob t { j with stage := .flash, slot := none }).degradeRun q

/-- A read of a unit goes to the cipher engine with its stored bytes; a slot without a key, or one being revoked, answers 7:0xC3
(R301). -/
def State.askDecrypt (s : State) (t : Nat) : State :=
  match s.job t with
  | none => s
  | some j =>
    let slot := ((s.spaceOf j.nsx).map (·.slot)).getD j.nsx
    let k := s.keySlot slot
    if k.revoking ∨ k.current.isNone then s.jobFails t (stat 7 0xC3)
    else
      match k.keysFor j.desc.kgen with
      | some keys => (s.setJob t { j with stage := .cipher }).cipherAsk (.decrypt t) slot (some keys) true
      | none => s.checkFailed t j

/-- A unit is read from its write-buffer slot. -/
def State.readSlot (s : State) (t : Nat) (j : UnitJob) (gran : Nat) : State :=
  match Table.find s.wb.slots gran with
  | none => s.unitData t (List.replicate 4096 0#8) false
  | some w =>
    let s := { s with wb := { s.wb with slots := Table.set s.wb.slots gran { w with readers := w.readers + 1 } } }
    ((s.setJob t { j with slot := some gran, desc := w.desc, tagRec := w.tags, stored := w.data }).count1 0x013).askDecrypt t

/-- The slot of a namespace holds no key, or is REVOKING (R301). -/
def State.keyGone (s : State) (nsx : Nat) : Bool :=
  match s.spaceOf nsx with
  | some n => decide ((s.keySlot n.slot).kind = 0) || (s.keySlot n.slot).revoking
  | none => false

/-- Look a unit up for a read: index, then map (R133). It stays while its segment is restored. Without a key it is not read (R293, R301). -/
def State.lookRead (s : State) (t : Nat) (j : UnitJob) : State :=
  if s.keyGone j.nsx then s.jobFails t (stat 7 0xC3) else
  match s.map.wbiFind j.nsx j.unit with
  | some (_, g, _) => s.readSlot t j g
  | none =>
    let s := s.touchMap j.nsx j.unit 0 (16 + j.nsx % 16)
    let tags := ((s.spaceOf j.nsx).map (·.hasTags)).getD false
    match s.lookMap j.nsx j.unit tags with
    | .unalloc => s.unitData t (List.replicate 4096 0#8) false
    | .restore g => s.needUnit j.nsx j.unit g
    | .entry _ e tag =>
      if e.unc then s.jobFails t (stat 2 0x81)
      else if e.glen = 0 then s.unitData t (List.replicate 4096 0#8) false
      else (s.setJob t { j with entry := e, tagRec := tag, stage := .flash }).issueRead .host (.unit t) e.gaddr e.glen 0 0 none

/-- Judge a summary entry of a block being evacuated (R170 step 2): a valid unit is read, any other is passed over. Stream 6 content,
which no unit names, is judged by the root (R159). -/
def State.lookCopy (s : State) (t : Nat) (j : UnitJob) : State :=
  if 1024 ≤ j.nsx then
    match Table.find s.media.items j.entry.gaddr with
    | some p =>
      if s.names6 p j.entry.gaddr then (s.setJob t { j with stage := .flash }).issueFrames .copy (.copy t) j.entry.gaddr j.entry.glen
      else s.dropJob t
    | none => s.dropJob t
  else
    let s := s.touchMap j.nsx j.unit 1 1
    match s.lookMap j.nsx j.unit (((s.spaceOf j.nsx).map (·.hasTags)).getD false) with
    | .unalloc => s.dropJob t
    | .restore g => s.needUnit j.nsx j.unit g
    | .entry _ e tag =>
      if e.isRun ∧ e.gaddr = j.entry.gaddr then
        (s.setJob t { j with entry := e, tagRec := tag, stage := .flash }).issueRead .copy (.copy t) e.gaddr e.glen 0 0 none
      else if s.map.closing.any fun p => p.gaddr = j.entry.gaddr then s
      else s.dropJob t

/-- Discard a unit once its segments are restored and may journal (R148, R235); `merge` asks for SDP, and a range that touches only a part of the
unit just sets it (R149). -/
def State.lookDiscard (s : State) (t : Nat) (j : UnitJob) : State :=
  match s.changeReady j.nsx j.unit with
  | (true, _) => (if j.len < 4096 then s.markSdp j.nsx j.unit else s.discardUnit j.nsx j.unit j.merge 3).endUnit t
  | (false, some g) => s.needUnit j.nsx j.unit g
  | (false, none) => s

/-- Earlier writes to a unit that have not been inserted (R140). -/
def State.earlierWrite (s : State) (t : Nat) (j : UnitJob) : Bool :=
  s.fe.jobs.any fun (n, i) => decide (n < t) && decide (i.kind = .write) && decide (i.nsx = j.nsx) && decide (i.unit = j.unit)

/-- Take one waiting job forward. -/
def State.jobStep (s : State) (t : Nat) : State :=
  match s.job t with
  | none => s
  | some j =>
    match j.stage with
    | .mergeWait => if s.earlierWrite t j then s else s.lookRead t { j with stage := .lookup }
    | .lookup =>
      match j.kind with
      | .copy => s.lookCopy t j
      | .discard => s.lookDiscard t j
      | _ => s.lookRead t j
    | _ => s

/-- Take every waiting job forward, in order. -/
def State.stepJobs (s : State) : State :=
  ((s.fe.jobs.filter fun (_, j) => decide (j.stage = .lookup) || decide (j.stage = .mergeWait)).map (·.1)).foldl State.jobStep s

/-! ### The write path: steps 2 and 3 (R299, R302, R303, R308, R309, R323) -/

/-- A context may give out a value now: below RES_TOP, not rolling, not exhausted. -/
def KeySlot.mayAssign (k : KeySlot) : Bool := decide (k.counter < k.resTop) && !k.rolling && !k.pending

/-- COUNTER passes what R303 and R305 watch: a further reservation, and the write counter warning. -/
def State.afterCount (s : State) (slot : Nat) : State :=
  let k := s.keySlot slot
  let gen := k.gen
  let s := if k.counter + 2 ^ 23 = k.resTop ∧ k.resTop + 2 ^ 24 ≤ 2 ^ 48 then s.writeRec .ctrRes (.ctrRes slot k.gen (k.resTop + 2 ^ 24)) else s
  if 2 ^ 48 - 2 ^ 36 ≤ k.counter ∧ !k.warned then
    ((s.modSlot slot fun k => { k with warned := true }).leave 0x0C05 0 [slot, gen]).vendorEvent 0x05 0xC3
  else s

/-- A generation rolls (R306 steps 2 and 3): the current set becomes the previous one, GEN rises, the GEN record is written. The new set
is derived when the record is durable. -/
def State.rollStart (s : State) (slot : Nat) : State :=
  let k := s.keySlot slot
  let s := s.modSlot slot fun k => { k with previous := k.current, gen := k.gen + 1, rolling := true, warned := false, sweepAt := 0 }
  (s.leave 0x0C06 0 [slot, k.gen + 1]).writeRec .keyStore (.keyGen slot (k.gen + 1) true)

/-- The value 2^48 - 1 has been taken: a derived context rolls, unless its sweep still runs (R306, R308); an unwrapped one is exhausted
(R309). -/
def State.countEnds (s : State) (slot : Nat) : State :=
  let k := s.keySlot slot
  if k.counter < 2 ^ 48 ∨ k.rolling then s
  else if k.kind = 2 then
    if k.exhausted then s else (s.modSlot slot fun k => { k with exhausted := true }).leave 0x0C0B 2 [slot]
  else if k.sweep then s
  else s.rollStart slot

/-- Step 3 of a unit: it takes its DSEQ and goes to the engine; it waits while its context gives out no value. -/
def State.askEncrypt (s : State) (t : Nat) : State :=
  match s.job t with
  | none => s
  | some j =>
    let slot := ((s.spaceOf j.nsx).map (·.slot)).getD j.nsx
    let k := s.keySlot slot
    if k.revoking ∨ (k.current.isNone ∧ !k.rolling) then s.jobFails t (stat 7 0xC3)
    else if k.exhausted ∧ j.kind ≠ .copy then s.jobFails t (stat 7 0xC4)
    else if k.mayAssign then
      let d := { j.desc with nsx := j.nsx, unit := j.unit, dseq := k.counter, slot := slot, kgen := k.kgen }
      let s := s.modSlot slot fun k => { k with counter := k.counter + 1 }
      let s := (s.afterCount slot).countEnds slot
      (s.setJob t { j with desc := d, stage := .cipher, slot := some 0 }).cipherAsk (if j.kind = .copy then .rekey t else .encrypt t) slot k.current false
    else s.setJob t { j with stage := .cipher, slot := none }

/-- Jobs whose unit waits for a value of its context. -/
def State.waitsValue (j : UnitJob) : Bool := decide (j.stage = .cipher) && j.slot.isNone && (decide (j.kind = .write) || decide (j.kind = .copy)) && decide (j.stored ≠ [])
def State.stepValues (s : State) : State :=
  ((s.fe.jobs.filter fun (_, j) => State.waitsValue j).map (·.1)).foldl State.askEncrypt s

/-! ### The rekey sweep (R307) -/

/-- Units of a namespace that are still mapped under the other generation, in unit order. -/
def State.sweepLeft (s : State) (nsx : Nat) (kgen : Bool) : List (Nat × MapEntry) :=
  (s.map.entries.foldl (fun (t : Table MapEntry) (k, e) =>
    let d := s.seg (k / 1048576)
    if d.alloc ∧ !d.tagKind ∧ d.nsx = nsx ∧ e.isRun ∧ e.kgen ≠ kgen then Table.set t (d.dirPos * 655360 + k % 1048576) e else t) [])

/-- Units of a namespace that a copy in flight carries. -/
def State.copiesOf (s : State) (nsx : Nat) : List Nat :=
  let ofPay (p : Payload) : List Nat := match p with | .copy _ d _ _ _ => if d.nsx = nsx then [d.unit] else [] | _ => []
  (s.fe.jobs.flatMap fun (_, j) => if j.kind = .copy ∧ j.nsx = nsx then [j.unit] else [])
    ++ (s.girth.streams.flatMap fun x => x.list.flatMap ofPay)
    ++ (s.girth.girths.flatMap fun (_, g) => g.placed.flatMap fun p => ofPay p.payload) ++ s.map.closing.flatMap fun p => ofPay p.payload

/-- The sweep of a context goes on: further copies, at most 4,096 in flight, or its end when nothing is left under the other
generation. -/
def State.sweepSlot (s : State) (slot : Nat) : State :=
  let k := s.keySlot slot
  if !k.sweep ∨ k.rolling ∨ k.sweepEnding then s
  else
    match s.fe.spaces.find? fun (_, n) => n.slot = slot with
    | none => (s.modSlot slot fun k => { k with sweepEnding := true }).writeRec .keyStore (.keyGen slot k.gen false)
    | some (_, n) =>
      let dark := (s.map.segs.filter fun (_, d) => d.alloc && decide (d.nsx = n.nsx) && !d.restored).map (·.1)
      let busy := s.copiesOf n.nsx
      let left := (s.sweepLeft n.nsx k.kgen).filter fun (u, _) => !busy.contains u
      if dark ≠ [] then dark.foldl State.needSeg s
      else if left = [] then
        if busy = [] ∧ !(s.wb.slots.any fun (_, w) => decide (w.desc.nsx = n.nsx) && decide (w.desc.kgen ≠ k.kgen)) then
          (s.modSlot slot fun k => { k with sweepEnding := true }).writeRec .keyStore (.keyGen slot k.gen false)
        else s
      else
        let now := (left.filter fun (u, _) => k.sweepAt ≤ u).take (4096 - busy.length)
        let s := now.foldl (fun s (u, e) => (s.addJob (copyJob n.nsx u (s.img.blkOf e.gaddr) e.gaddr e.glen 5)).2) s
        s.modSlot slot fun k => { k with sweepAt := match now.getLast? with | some (u, _) => u + 1 | none => if busy = [] then 0 else k.sweepAt }

/-- Every sweep. -/
def State.sweeps (s : State) : State := ((s.cipher.slots.filter fun (_, k) => k.sweep).map (·.1)).foldl State.sweepSlot s

/-! ### Slots of the write buffer (R209, R210) -/

/-- Take the head of the free-chunk FIFO. -/
def WbState.takeChunk (w : WbState) : Option (Nat × WbState) :=
  if w.nextChunk < Config.chunkCount then some (w.nextChunk, { w with nextChunk := w.nextChunk + 1 })
  else
    match w.freeChunks with
    | c :: rest => some (c, { w with freeChunks := rest })
    | [] => none

/-- A slot of `glen` granules for a stream; none when no chunk is free. -/
def State.takeSlot (s : State) (n glen : Nat) : Option (Nat × State) :=
  match (s.stream n).chunk with
  | some (c, g) =>
    if g + glen ≤ Config.chunkGranules then some (c * 4096 + g, s.modStream n fun x => { x with chunk := some (c, g + glen) })
    else
      (s.wb.takeChunk).map fun (c', w) =>
        (c' * 4096, { s.modStream n (fun x => { x with chunk := some (c', glen) }) with wb := { w with leftChunks := w.leftChunks ++ [c] } })
  | none => (s.wb.takeChunk).map fun (c', w) => (c' * 4096, { s.modStream n (fun x => { x with chunk := some (c', glen) }) with wb := w })

/-- Release what nothing holds: slots without an index entry and without readers, then chunks left by their stream with no slot (R136,
R210). A slot in an open secure-discard job's range is overwritten with zeros, which leaves nothing of it in the buffer (R151). -/
def State.sweepBuffer (s : State) : State :=
  let named := s.map.wbi.map fun (_, (_, _, g, _)) => g
  let slots := s.wb.slots.filter fun (g, w) => named.contains g || decide (0 < w.readers)
  let freed := s.wb.leftChunks.filter fun c => !(slots.any fun (g, _) => g / 4096 = c)
  { s with wb := { s.wb with slots := slots, leftChunks := s.wb.leftChunks.filter (fun c => !freed.contains c), freeChunks := s.wb.freeChunks ++ freed } }

/-! ### Flash data arrives -/

/-- A checked copy takes its place in the destination stream. -/
def State.copyOut (s : State) (t : Nat) (j : UnitJob) : State := (s.dropJob t).queuePayload j.stream (.copy j.entry.gaddr j.desc j.tagRec j.entry j.stored)

/-- A copy of a unit passes the keyed check (R114) and takes its place in the destination stream, or is written under the current keys first when its
generation is the previous one (R170 step 4, R307). A copy whose context holds no key is not checked (DEDUCED, log 85). -/
def State.copyRead (s : State) (t : Nat) (j : UnitJob) (p : Payload) : State :=
  if 1024 ≤ j.nsx then (s.dropJob t).queuePayload 6 (.moved j.entry.gaddr p)
  else
    match p.desc? with
    | none => s.dropJob t
    | some d =>
      let slot := ((s.spaceOf j.nsx).map (·.slot)).getD j.nsx
      let k := s.keySlot slot
      let j := { j with desc := d, stored := p.data }
      if d.kgen ≠ k.kgen ∧ k.previous.isSome then
        (s.setJob t { j with stage := .cipher, slot := some 0 }).cipherAsk (.decrypt t) slot (some ((k.keysFor d.kgen).getD ⟨0, 0, 0⟩)) false
      else if k.revoking ∨ k.current.isNone then s.copyOut t j
      else
        match k.keysFor d.kgen with
        | some keys => (s.setJob t { j with stage := .cipher, slot := some 0 }).cipherAsk (.check t) slot (some keys) false
        | none => s.checkFailed t j

/-- A read's frames have decoded and passed R114: its unit goes on. -/
def State.flashData (s : State) (q : ReadReq) : State :=
  let p := Table.find s.media.items q.gran
  match q.use, p with
  | .unit t, some p =>
    match s.job t with
    | some j => ((s.setJob t { j with desc := p.desc?.getD default, stored := p.data }).count1 0x012).askDecrypt t
    | none => s
  | .copy t, some p =>
    match s.job t with
    | some j => s.copyRead t j p
    | none => s
  | _, _ => s

/-- A frame of a read is good; with the last one the read's data goes on. -/
def State.frameGood (s : State) (q : ReadReq) : State :=
  let r := s.runOf q
  match s.frameEnd q false with
  | (some true, s) => s.flashData r
  | (_, s) => s

end Sys2Proof.Machine
end

