-- ==== Sys2Proof/Machine/Keys.lean ====
section
/-! DEFINITION. Keys and write authority: derivation and unwrapping of keys, slots, labels, roots and erases (12_cipher R286 to R312,
18 R416), the Keyed Check (R314), and leases and fences of the reins (10_reins R255 to R260). -/
namespace Sys2Proof.Machine

/-! ### Key derivation (R288 to R290) -/

/-- IDENT_REC of the fuses: the fields the spec fixes, its reserved bits 0, and the others free (R466) (DESIGN CHOICE, log 4). -/
def identRec : Nat :=
  let f (lo w : Nat) : Field := fld lo w (bitField Config.fuseRecord lo w)
  packFields [f 0 53, f 56 24, fld 80 8 Config.steppingB1, f 88 1, fld 96 32 Config.idcode, f 128 128]
/-- The 128-bit unique ID of the identity fuses as its byte string (R466). -/
def uniqueId : List Byte := sliceBytes (toBytes 64 identRec) 16 16
/-- DRIVE_ID: the first 8 bytes of the unique ID, as a little-endian field (R468). -/
def driveId : Nat := ofBytes (uniqueId.take 8)

/-- The KDF input of iteration i. -/
def kdfInput (label : BitVec 256) (gen i : Nat) : List Byte :=
  toBytesBE 4 i ++ toBytes 32 label.toNat ++ [0#8] ++ toBytesBE 4 gen ++ uniqueId ++ toBytesBE 4 0x300
/-- The key set of a label under a root key and a generation. -/
def deriveKeys (root label : BitVec 256) (gen : Nat) : KeySet :=
  let block (i : Nat) : List Byte := cmac root (kdfInput label gen i)
  { k1 := keyOfBytes (block 1 ++ block 2), k2 := keyOfBytes (block 3 ++ block 4), k3 := keyOfBytes (block 5 ++ block 6) }

/-- Fields of DERIV_LABEL. -/
def labelVersion (l : BitVec 256) : Nat := bitField l.toNat 0 16
def labelSlot (l : BitVec 256) : Nat := bitField l.toNat 16 13
def labelPurpose (l : BitVec 256) : Nat := bitField l.toNat 32 3
def labelLimit (l : BitVec 256) : Nat := bitField l.toNat 48 16
/-- A label the host may set on a slot; its reserved bits are ignored (R8). -/
def labelOk (l : BitVec 256) (slot : Nat) : Bool :=
  decide (labelVersion l = 1) && decide (labelSlot l = slot) && decide (slot < 4096) && decide (1 ≤ labelPurpose l) && decide (labelPurpose l ≤ 4)
    && (decide (labelPurpose l = 3) || decide (labelLimit l = 0))
/-- A label with its SALT. -/
def withSalt (l : BitVec 256) (salt : BitVec 64) : BitVec 256 :=
  BitVec.ofNat 256 (l.toNat - bitField l.toNat 64 64 * 2 ^ 64 + salt.toNat * 2 ^ 64)

/-- Draw 64 bits from the random source: a free value; the source reseeds after 2^20 requests (R288) (DESIGN CHOICE, log 5). -/
def State.drawSalt (s : State) : BitVec 64 × State :=
  (Config.randomSalt s.free, { s with free := s.free + 1, cipher := { s.cipher with drbg := (s.cipher.drbg + 1) % 1048576 } })

/-- The root key. -/
def State.rootKey (s : State) : BitVec 256 := s.cipher.owner.getD Config.fuseRootKey

/-- Keys of a derived slot for a generation; only DATA slots have one. -/
def State.slotKeys (s : State) (n gen : Nat) : KeySet :=
  deriveKeys s.rootKey (s.keySlot n).label (if (s.keySlot n).purpose = 1 then gen else 0)
/-- A derived slot is derived, its previous set too while a sweep runs (R307). -/
def State.deriveSlot (s : State) (n : Nat) : State :=
  let g := (s.keySlot n).gen
  let cur := s.slotKeys n g
  let prev := s.slotKeys n (g - 1)
  s.modSlot n fun k => { k with current := some cur, previous := if k.sweep && decide (0 < k.gen) then some prev else none }

/-! ### Unwrapping (R295; SP 800-38F) -/

/-- Fields of UNWRAP_BLOB. -/
def blobField (b : List Byte) (lo w : Nat) : Nat := bitField (ofBytes (b.take 16)) lo w
def blobTarget (b : List Byte) : Nat := blobField b 32 16
def blobPurpose (b : List Byte) : Nat := blobField b 48 3

/-- The checks of R295: the reason of the first failure, or the key set. -/
def State.checkBlob (s : State) (slot : Nat) (b : List Byte) : Nat ⊕ KeySet :=
  let t := blobTarget b
  let root := decide (t = 0x1FFF)
  if !(decide (blobField b 0 16 = 1) && decide (blobField b 51 13 = 0) && decide (t = slot) && (root || (decide (4096 ≤ t) && decide (t ≤ 4159)))
      && (root || decide (blobPurpose b = 1) || decide (blobPurpose b = 3))) then .inl 1
  else
    let kek := s.keySlot (blobField b 16 16)
    match kek.current with
    | none => .inl 2
    | some ks =>
      if kek.kind ≠ 1 ∨ kek.purpose ≠ 4 ∨ (root ∧ s.cipher.owner.isSome) then .inl 2
      else if blobField b 64 64 ≠ driveId then .inl 3
      else
        match kwUnwrap ks.k1 (b.drop 16) with
        | none => .inl 4
        | some plain =>
          if plain.take 8 ≠ b.take 8 then .inl 5
          else
            let k : KeySet := { k1 := keyOfBytes (sliceBytes plain 8 32), k2 := keyOfBytes (sliceBytes plain 40 32), k3 := keyOfBytes (sliceBytes plain 72 32) }
            if k.k1 = k.k2 then .inl 6 else .inr k

/-! ### Contexts (R286, R310, R471) -/

/-- The namespace bound to a slot. -/
def State.boundTo (s : State) (slot : Nat) : Option Namespace := (s.fe.spaces.find? fun (_, n) => n.slot = slot).map (·.2)

/-- A namespace holds a mapped unit, in the map or the write buffer. -/
def State.holdsMapped (s : State) (nsx : Nat) : Bool :=
  (s.map.wbi.any fun (_, (n, _, _, _)) => n = nsx) ||
    s.map.entries.any fun (k, e) => decide (e.glen ≠ 0) && (let d := s.seg (k / 1048576); d.alloc && !d.tagKind && decide (d.nsx = nsx))

/-- A DATA context starts afresh: its GEN is above every GEN of its reservation records, COUNTER 0, nothing reserved until the GEN record
and then a CTR_RES record are durable. -/
def State.startContext (s : State) (n : Nat) : State :=
  let gen := match s.ts.ctrTop n with | some (g, _) => g + 1 | none => 0
  let s := s.modSlot n fun k => { k with gen := gen, counter := 0, resTop := 0, sweep := false, sweepEnding := false, rolling := false, warned := false,
                                         exhausted := false, previous := none }
  s.writeRec .keyStore (.keyGen n gen false)

/-- Install a label on a derived slot: the record, the context of a DATA slot, the keys, code 0x0C01; a slot of another purpose has no GEN (R471). -/
def State.installLabel (s : State) (n : Nat) (l : BitVec 256) : State :=
  let s := s.modSlot n fun k => { k with kind := 1, purpose := labelPurpose l, label := l, previous := none, gen := 0, counter := 0, resTop := 0, sweep := false, sweepEnding := false, rolling := false }
  let s := s.writeRec .keyStore (.keyLabel n l)
  let s := if labelPurpose l = 1 then s.startContext n else s
  let s := s.deriveSlot n
  s.leave 0x0C01 0 [n, (s.keySlot n).sgen]

/-- A zero HOST_LABEL of purpose DATA for a slot (R293). -/
def dataLabel (n : Nat) : BitVec 256 := BitVec.ofNat 256 (packFields [fld 0 16 1, fld 16 13 n, fld 32 3 1])

/-- The device gives an empty slot a label: a SALT is drawn. -/
def State.labelEmpty (s : State) (n : Nat) (l : BitVec 256) : State :=
  let (salt, s) := s.drawSalt
  s.installLabel n (withSalt l salt)

/-- A rewrite is due: SGEN rises and PENDING is set (R310 step 2). -/
def State.pendLabel (s : State) (n : Nat) (l : BitVec 256) (tag : Nat) : State :=
  s.modSlot n fun k => { k with sgen := (k.sgen + 1) % 2 ^ 32, pendingLabel := some l, pendingTag := some tag }
def State.pendKeys (s : State) (n : Nat) (ks : KeySet) (blob : List Byte) (tag : Nat) : State :=
  s.modSlot n fun k => { k with sgen := (k.sgen + 1) % 2 ^ 32, pendingKeys := some ks, pendingBlob := blob, pendingPurpose := blobPurpose blob, pendingTag := some tag }

/-- No request with an older SGEN holds the slot. -/
def State.slotQuiet (s : State) (n : Nat) : Bool := !s.cipher.reqs.any fun (_, r) => decide (r.slot = n) && decide (r.sgen ≠ (s.keySlot n).sgen)

/-- Install an unwrapped slot's keys (R310 step 4, R471). -/
def State.installKeys (s : State) (n : Nat) (ks : KeySet) (blob : List Byte) (purpose : Nat) : State :=
  let s := s.modSlot n fun k => { k with kind := 2, purpose := purpose, blob := blob, current := some ks, previous := none, gen := 0, counter := 0, resTop := 0, sweep := false, sweepEnding := false, rolling := false }
  let s := s.writeRec .keyStore (.keyBlob n blob)
  let s := if purpose = 1 then s.startContext n else s
  s.leave 0x0C01 0 [n, (s.keySlot n).sgen]

/-- Step 4 of R310: the new keys are installed and the waiting requests released; the command completes. -/
def State.installPending (s : State) (n : Nat) : State :=
  let k := s.keySlot n
  let s := s.modSlot n fun k => { k with pendingLabel := none, pendingKeys := none, pendingTag := none, pendingBlob := [], pendingPurpose := 0 }
  let s := match k.pendingLabel, k.pendingKeys with
    | some l, _ => s.installLabel n l
    | none, some ks => s.installKeys n ks k.pendingBlob k.pendingPurpose
    | none, none => s
  let cur := (s.keySlot n).current
  let s : State := { s with cipher := { s.cipher with reqs := s.cipher.reqs.map fun (i, r) => (i, if r.slot = n ∧ r.keys.isNone then { r with keys := cur } else r) } }
  match k.pendingTag with | some t => s.finish t ok | none => s

/-- A new blob takes the place of a roll (R309): steps 2 to 5 of R306 with the blob's keys (DEDUCED, log 76). -/
def State.rollKeys (s : State) (n : Nat) (ks : KeySet) (blob : List Byte) : State :=
  let g := (s.keySlot n).gen + 1
  let s := s.modSlot n fun k => { k with previous := k.current, current := some ks, blob := blob, gen := g, rolling := true, warned := false, exhausted := false, sweepAt := 0 }
  let s := (s.leave 0x0C06 0 [n, g]).writeRec .keyStore (.keyBlob n blob)
  s.writeRec .keyStore (.keyGen n g true)

/-- The root changes: every derived slot is derived again (R290). -/
def State.setRoot (s : State) (root : Option (BitVec 256)) : State :=
  let s : State := { s with cipher := { s.cipher with owner := root } }
  ((s.cipher.slots.filter fun (_, k) => k.kind = 1).map (·.1)).foldl State.deriveSlot s
/-- A change of root is refused: a namespace bound to a derived DATA slot holds a mapped unit. -/
def State.rootHeld (s : State) : Bool := s.fe.spaces.any fun (_, n) => decide ((s.keySlot n.slot).kind = 1) && s.holdsMapped n.nsx

/-! ### Erasing a slot (R311, R416) -/

/-- Key-store records of a slot; slot 0x1FFF stands for the owner root (R290, R295). -/
def TsRec.ofSlot (n : Nat) : TsRec → Bool
  | .keyLabel s _ => s = n
  | .keyGen s _ _ => s = n
  | .keyBlob s _ => s = n
  | .keyRoot _ => n = 0x1FFF
  | _ => false

/-- The live records of other slots are copied out of each sector that holds a record of the slot; the sectors to erase. -/
def TsState.purge (t : TsState) (n : Nat) : List Nat × TsState :=
  let holds (sec : RingSector) : Bool := sec.recs.any fun (_, r) => r.ofSlot n
  let old := (t.ring .keyStore).filter holds
  let sectors := old.map (·.sector)
  if sectors = [] then ([], t)
  else
    let headHeld := match (t.ring .keyStore).getLast? with | some sec => holds sec | none => false
    let all := t.records .keyStore
    let live := (t.liveOf all []).filter fun r => !r.ofSlot n && old.any fun sec => sec.recs.any fun (_, x) => decide (x = r)
    let t := if headHeld then (t.openSector .keyStore).modifyHead .keyStore (fun sec => { sec with recs := sec.recs.filter fun (_, r) => !r.ofSlot n }) else t
    let t := live.foldl (fun t r => t.append .keyStore r) t
    (sectors, { t with queue := t.queue ++ sectors.map fun x => ⟨Region.cls .keyStore, .erase x 0⟩ })

/-- A slot's key-store records are gone: the slot is empty; a label to be installed again is installed with a new SALT (R312). -/
def State.eraseEnds (s : State) (e : EraseRun) : State :=
  let s := if e.slot < 4160 then s.modSlot e.slot fun k => { ({} : KeySlot) with sgen := k.sgen } else s
  let s : State := { s with cipher := { s.cipher with erasing := s.cipher.erasing.filter (·.slot ≠ e.slot) } }
  let s := match e.again with | some l => s.labelEmpty e.slot l | none => s
  e.tags.foldl (fun s t => s.finish t (okDw0 e.total)) s

/-- A request of an erased slot fails with 7:0xC3. -/
def State.failRequest (s : State) (w : CipherWork) : State :=
  match w with
  | .encrypt t => s.jobFails t (stat 7 0xC3)
  | .decrypt t => s.jobFails t (stat 7 0xC3)
  | .rekey t => s.jobFails t (stat 7 0xC3)
  | .check t => match s.job t with | some j => s.copyOut t j | none => s
  | .mac g => s.finish g (stat 7 0xC3)

/-- Revoke a slot: SGEN rises, REVOKING is set, its requests fail, both key sets are zeroized, its records' sectors are erased. -/
def State.revoke (s : State) (n : Nat) (tags : List Nat) (again : Option (BitVec 256)) : State :=
  let mine := s.cipher.reqs.filter fun (_, r) => r.slot = n
  let waiting := (s.keySlot n).pendingTag
  let s := s.modSlot n fun k => { k with sgen := (k.sgen + 1) % 2 ^ 32, revoking := true, current := none, previous := none, pendingLabel := none,
                                         pendingKeys := none, pendingTag := none, rolling := false, sweep := false }
  let s : State := { s with cipher := { s.cipher with reqs := s.cipher.reqs.filter fun (_, r) => r.slot ≠ n } }
  let s := mine.foldl (fun s (_, r) => s.failRequest r.work) s
  let s := match waiting with | some t => s.finish t (stat 7 0xC3) | none => s
  let s := s.leave 0x0C03 0 [n, mine.length]
  -- a record of the slot that still waits to be programmed is not programmed any more
  let t : TsState := { s.ts with queue := s.ts.queue.filter fun op => match op.kind with | .append _ r => !r.ofSlot n | _ => true }
  let (sectors, t) := t.purge n
  let e : EraseRun := { slot := n, tags := tags, left := sectors, total := sectors.length, again := again }
  let s : State := { s with ts := t, cipher := { s.cipher with erasing := s.cipher.erasing ++ [e] } }
  if sectors = [] then s.eraseEnds e else s

/-- A sector of the key store has been erased. -/
def State.keySectorErased (s : State) (sector : Nat) : State :=
  let runs := s.cipher.erasing.map fun e => { e with left := e.left.filter (· ≠ sector) }
  let s : State := { s with cipher := { s.cipher with erasing := runs } }
  (runs.filter fun e => e.left = []).foldl State.eraseEnds s

/-! ### Fences and leases (R255 to R260) -/

def ReinPort.fenced (p : ReinPort) : Bool := p.fencedKeeper || p.fencedLease

/-- Commands of the write class in progress on a fenced rein end with 7:0xC2, DNR 0, unless every unit has passed step 4 or their status
stands; an admin command of the class that has started goes on (R260). -/
def State.endFenced (s : State) (r : Rein) : State :=
  s.fe.cmds.foldl (fun s (tag, c) =>
    if c.port.rein = r ∧ c.result.isNone ∧ isWriteClass c.admin c.entry ∧ (!c.started ∨ (!c.admin ∧ c.units ≠ [])) then
      (c.units.foldl State.dropJob s).finish tag leaseFenced
    else s) s

/-- Commands that have moved to a fenced rein meet its fence there (R249, R260). -/
def State.fenceMoved (s : State) (r : Rein) : State := if (s.port r).fenced then s.endFenced r else s

/-- A fence of one cause, 0 keeper or 1 lease, is set or lifted. -/
def State.setFence (s : State) (r : Rein) (cause : Nat) (on : Bool) : State :=
  let was := (s.port r).fenced
  let s := s.modPort r fun p => if cause = 0 then { p with fencedKeeper := on } else { p with fencedLease := on }
  if on then (s.leave 0x0A09 2 [r.num, cause]).endFenced r
  else if was ∧ !(s.port r).fenced then s.leave 0x0A0A 0 [r.num] else s

def ReinPort.leaseLive (p : ReinPort) : Bool := match p.lease with | some l => l.live | none => false
/-- The lease fence follows LEASE_ENFORCE and the live lease (R258). -/
def State.leaseFence (s : State) (r : Rein) : State :=
  let want := s.rein.twin.enforce && !(s.port r).leaseLive
  if want = (s.port r).fencedLease then s else s.setFence r 1 want

/-- Fields of TACK_PKT. -/
def pktAction (p : BitVec 512) : Nat := bitField p.toNat 8 4
def pktMask (p : BitVec 512) : Nat := bitField p.toNat 12 2
def pktEpoch (p : BitVec 512) : Nat := bitField p.toNat 32 64
def pktStart (p : BitVec 512) : Nat := bitField p.toNat 96 64
def pktDuration (p : BitVec 512) : Nat := bitField p.toNat 160 32
/-- Check 1 of R256. -/
def pktWell (p : BitVec 512) : Bool :=
  decide (bitField p.toNat 0 8 = 1) && decide (pktAction p ≤ 2) && decide (bitField p.toNat 14 2 = 0) && decide (bitField p.toNat 256 192 = 0)
    && (decide (pktAction p ≠ 0) || decide (1 ≤ pktDuration p)) && decide (pktMask p ≠ 0)
/-- End of a lease granted at a WT (check 6). -/
def leaseEndAt (wt : Nat) (p : BitVec 512) : Nat := (if pktStart p = 0 then wt else pktStart p) + pktDuration p
def State.leaseEnd (s : State) (p : BitVec 512) : Nat := leaseEndAt s.wheel.wt p

/-- Checks 3 to 6 of R256: the reason and status of the first failure. -/
def State.leaseCheck (s : State) (p : BitVec 512) : Option CmdResult :=
  let fail (n : Nat) : CmdResult := { stat 7 0xC2 with dnr := true, dw0 := n }
  if bitField p.toNat 192 64 ≠ driveId then some (fail 3)
  else if pktEpoch p ≤ s.rein.twin.epoch then some (fail 2)
  else if pktStart p ≠ 0 ∧ s.wheel.mode ≠ .locked ∧ s.wheel.mode ≠ .acquire then some { stat 7 0xC6 with dw0 := 5 }
  else if pktAction p = 0 ∧ s.leaseEnd p ≤ s.wheel.wt then some (fail 4)
  else none

/-- What an accepted packet does to one rein: the end counts from the WT of acceptance, and a lease live then goes on. -/
def State.leaseOn (s : State) (l : LeaseDue) (r : Rein) : State :=
  match pktAction l.pkt with
  | 0 =>
    let live := match r with | .a => l.liveA | .b => l.liveB
    let x : Lease := { live := live || decide (pktStart l.pkt ≤ s.wheel.wt), startWt := pktStart l.pkt, endWt := leaseEndAt l.wt l.pkt, epoch := pktEpoch l.pkt }
    (s.modPort r fun q => { q with lease := some x }).leaseFence r
  | _ => (s.modPort r fun q => { q with lease := none }).leaseFence r

/-- The action of an accepted packet on the reins of its mask (R257). -/
def State.leaseAct (s : State) (l : LeaseDue) : State :=
  if pktAction l.pkt = 2 then
    let s : State := { s with rein := { s.rein with twin := { s.rein.twin with enforce := false } } }
    (s.leaseOn l .a).leaseOn l .b
  else
    let s := if pktMask l.pkt % 2 = 1 then s.leaseOn l .a else s
    if 2 ≤ pktMask l.pkt then s.leaseOn l .b else s

/-- The actions whose completions have been posted take effect; one whose command has ended without a completion has none (R257). -/
def State.leasesDue (s : State) : State :=
  let due := s.fe.leases.filter (·.posted)
  let s : State := { s with fe := { s.fe with leases := s.fe.leases.filter fun l => !l.posted && (s.cmd l.tag).isSome } }
  if due = [] then s else (due.foldl State.leaseAct s).postAll

/-- A packet that passes: the epoch, code 0x0A07, and its action, which waits for the completion (R256, R257). -/
def State.leaseAccept (s : State) (tag : Nat) (p : BitVec 512) : State :=
  let l : LeaseDue := { tag := tag, pkt := p, wt := s.wheel.wt, liveA := s.rein.a.leaseLive, liveB := s.rein.b.leaseLive, posted := false }
  let s : State := { s with rein := { s.rein with twin := { s.rein.twin with epoch := pktEpoch p } }, fe := { s.fe with leases := s.fe.leases ++ [l] } }
  s.leave 0x0A07 0 [pktAction p, pktMask p, pktEpoch p, s.leaseEnd p]

/-- A lease packet's MAC has been computed: check 2, then the others. -/
def State.leasePacket (s : State) (tag : Nat) (p : BitVec 512) (macOk : Bool) : State :=
  let refuse (r : CmdResult) : State := (s.leave 0x0A08 2 [r.dw0]).finish tag r
  if !macOk then refuse { stat 7 0xC2 with dnr := true, dw0 := 1 }
  else
    match s.leaseCheck p with
    | some r => refuse r
    | none => (s.finish tag ok).leaseAccept tag p

/-! ### The end of a MAC request (R255, R314) -/

/-- The MAC of a command's data is known: a lease packet is checked, a Keyed Check completes. -/
def State.macEnds (s : State) (tag : Nat) (keys : KeySet) : State :=
  match s.cmd tag with
  | none => s
  | some c =>
    if c.admin then
      let p : BitVec 512 := BitVec.ofNat 512 (ofBytes c.input)
      s.leasePacket tag p (decide (cmacTag keys.k3 (c.input.take 56) = bitField p.toNat 448 64))
    else
      let v := cmacTag keys.k3 c.input
      if bitField (dw c.entry 10) 15 1 = 1 then
        s.finish tag (if v = dw c.entry 14 + 2 ^ 32 * dw c.entry 15 then ok else stat 2 0x85)
      else s.finish tag { ok with dw0 := v % 2 ^ 32, dw1 := v / 2 ^ 32 }

end Sys2Proof.Machine
end

