-- ==== Sys2Proof/Machine/Awl.lean ====
section
/-! DEFINITION. The awls' engine (03_stitch_plans R58 to R69, 04_awls R86, R89 to R95): queues, starts in order of precedence, suspends
and resumes, data-in, and the order in which a channel moves frames and pages. -/
namespace Sys2Proof.Machine

/-! ### What a slot permits (R63) -/

/-- Host reads of HRQ that may start in a slot class: in XFER_ONLY those that waited when the tooth opened, in DUMP none. -/
def Die.startable (d : Die) (cls : Nat) : Nat := if cls = 7 then 0 else if cls = 6 then min d.hrqOpen d.hrq.length else d.hrq.length
/-- An internal read may start in a slot class. -/
def internalReadClass (k : ReadKind) (cls : Nat) : Bool :=
  match k with
  | .host => false
  | .copy => decide (cls = 1) || decide (cls = 3)
  | .patrol => decide (cls = 5)
/-- Data-in is allowed in a slot class; in XFER_ONLY only with no operation in progress, which R65 requires anyway. -/
def dataInClass (cls : Nat) : Bool := decide (cls = 2) || decide (cls = 3) || decide (cls = 6)

/-- Whether an operation's class is granted: in filler teeth one that R64 did not suspend keeps its place (R46, R64). -/
def State.classGranted (s : State) (d : Nat) (o : DieOp) : Bool :=
  if 0 < s.wheel.filler then decide (o.state ≠ .classExit) else decide (s.slotClass d = o.work.cls)

/-! ### Queues (R59) -/

/-- IRQ and WKQ take from their lists as entries free. -/
def Die.fill (d : Die) : Die :=
  let ni := 2 - d.irq.length
  let nw := 2 - d.wkq.length
  { d with irq := d.irq ++ d.irList.take ni, irList := d.irList.drop ni, wkq := d.wkq ++ d.wkList.take nw, wkList := d.wkList.drop nw }

/-- Dies that have an entry waiting in one of their lists. -/
def State.fillDies (s : State) : State :=
  { s with awl := { s.awl with dies := s.awl.dies.map fun (n, d) => (n, if d.irList = [] ∧ d.wkList = [] then d else d.fill) } }

/-! ### Starting reads (R62, R86, R89) -/

/-- A plane is free; without IPR a die runs one read at a time. -/
def State.planeFree (s : State) (d : Die) (gran : Nat) : Bool :=
  if s.img.ipr then d.reads.all fun r => decide (r.plane ≠ s.img.planeOf gran) else decide (d.reads = [])

/-- Reads may run: the die is idle or its operation suspended and settled, and no Reset LUN is outstanding. -/
def Die.ready (d : Die) : Bool :=
  !d.resetting && (match d.op with | none => true | some o => decide (o.state ≠ .running) && !o.latency)

/-- The thresholds of the rung-2 read `k` of 6: -3, -2, -1, 1, 2, 3 times SOFT_DELTA (R112). -/
def softK (k : Nat) : Int := if k < 3 then (k : Int) - 3 else (k : Int) - 2

/-- The rung's own delta of a read: rung 2's soft spacing on the thresholds of the page's type; a fast-cell block has one threshold. -/
def State.ownDelta (s : State) (r : ReadReq) : List Int :=
  let x := softK r.step * (s.img.softDelta : Int)
  if r.rung ≠ 2 then []
  else if (s.blkRec (s.img.blkOf r.gran)).fc then [x]
  else s.typeDelta (s.img.pageOf r.gran % max 1 s.img.bitsPerCell) x

/-- The bin of a bit: how many of its seven reads give 1; and the soft value that CODEC_POLICY.LLR maps a bin to (R112, log 83). -/
def softBin (reads : List Bool) : Nat := (reads.filter id).length
def ImgState.softValue (i : ImgState) (reads : List Bool) : Int := ofSigned 4 (bitField i.codec (192 + 4 * softBin reads) 4)

/-- The offset row a read takes: a trial's own, or that of R117. -/
def State.readRow (s : State) (r : ReadReq) : List Int :=
  match r.use with
  | .trial g =>
    match s.codec.recals.find? (·.group = g) with
    | some c => clampRow (addRows c.newRow (s.typeDelta c.type ((c.centre + (r.step : Int) - 3) * (s.img.recalStep : Int))))
    | none => s.offsetRow r.gran 0 0 []
  | _ => s.offsetRow r.gran r.rung r.step (s.ownDelta r)

/-- An array read counts on its group (R125); at DISTURB_LIMIT the group joins the patrol fast list. -/
def State.groupRead (s : State) (gran : Nat) : State :=
  let g := s.groupOf (dieOf gran) (s.img.blockOf gran)
  let v := s.vtGroup g
  let s := s.modVt g fun v => { v with reads := satAdd 32 v.reads 1 }
  if s.img.disturbLimit ≤ v.reads + 1 ∧ !s.codec.fast.contains g then { s with codec := { s.codec with fast := s.codec.fast ++ [g] } } else s

/-- A read that the awl refuses with an address fault is answered as an unreadable frame; a refused trial ends its recalibration (R86, R95). -/
def State.refuseRead (s : State) (r : ReadReq) : State :=
  let s := (s.readGone r.gran).leave 0x040B 2 [r.gran]
  match r.use with
  | .member n => s.memberRead n r.gran false
  | .sample g _ => s.sampleEnd g
  | .trial g => s.abandonRecal g
  | _ => s.degradeRun r

/-- The read is sent, steps 1 to 3 of R89. -/
def State.sendRead (s : State) (d : Nat) (r : ReadReq) : State :=
  s.ca d (decide (r.kind = .host)) (s.img.readCa (s.blkRec (s.img.blkOf r.gran)).fc (s.readRow r) r.gran)

/-- Start an array read on a die: the offset row is copied into it (R117). -/
def State.startRead (s : State) (d : Nat) (r : ReadReq) : State :=
  if s.addressFault r.gran then s.refuseRead r
  else
    let run : ReadRun := { req := r, plane := s.img.planeOf r.gran, sensed := false, framesLeft := framesOf r.gran r.glen,
                           row := s.readRow r }
    (((s.sendRead d r).modDie d fun x => { x with reads := x.reads ++ [run] }).count 0x035 (chOfDie d) 1).groupRead r.gran

/-- The read of rung 2 that follows one of the group, at once: the six reads stand in a queue as one entry (R113, log 83). -/
def State.softNext (s : State) (r : ReadReq) : List ReadReq × State :=
  if r.rung = 2 ∧ r.step < 5 then
    let (id, s) := s.newId
    ([{ r with id := id, step := r.step + 1 }], s.modBlk (s.img.blkOf r.gran) fun b => { b with inflight := satAdd 16 b.inflight 1 })
  else ([], s)

/-- A data-in unit of the die's program is on the channel: it completes before a read starts (R65). -/
def State.pageMoves (s : State) (d : Nat) : Bool := decide ((s.chan (chOfDie d)).busy = some (.page d))

/-- Host reads start in order from HRQ's head while their planes are free; loaded, unconfirmed data is discarded (R62, R65). -/
def State.startHost (s : State) (d : Nat) : (n : Nat) → State
  | 0 => s
  | n + 1 =>
    let x := s.die d
    match x.hrq with
    | [] => s
    | r :: rest =>
      if x.ready ∧ !s.pageMoves d ∧ s.planeFree x r.gran then
        let s := if 0 < x.loaded then (s.modDie d fun x => { x with loaded := 0 }).count 0x032 (chOfDie d) 1 else s
        let (more, s) := s.softNext r
        State.startHost ((s.modDie d fun x => { x with hrq := more ++ rest, hrqOpen := x.hrqOpen - (1 - more.length) }).startRead d r) d n
      else s

/-- Internal reads start from IRQ's head; none starts on a die that holds loaded, unconfirmed data (R62, R65). -/
def State.startInternal (s : State) (d cls : Nat) : (n : Nat) → State
  | 0 => s
  | n + 1 =>
    let x := s.die d
    match x.irq with
    | [] => s
    | r :: rest =>
      if x.ready ∧ x.loaded = 0 ∧ !s.pageMoves d ∧ s.planeFree x r.gran ∧ internalReadClass r.kind cls then
        let (more, s) := s.softNext r
        State.startInternal ((s.modDie d fun x => { ({ x with irq := more ++ rest } : Die).fill with irBlocked := false }).startRead d r) d cls n
      else s

/-! ### Operations (R61, R64 to R68) -/

/-- An operation at its part's limit is suspended no further: code 0x0304 once (R68). -/
def State.suspendOp (s : State) (d : Nat) (why : Suspended) : State :=
  match (s.die d).op with
  | none => s
  | some o =>
    if o.state ≠ .running ∨ o.atLimit then s
    else if s.img.suspendLimit ≠ 0 ∧ s.img.suspendLimit ≤ o.count + 1 then
      (s.modDie d fun x => { x with op := some { o with atLimit := true } }).leave 0x0304 1 [d, o.work.op]
    else
      let s := (s.ca d false (s.img.suspendCa o.work.op d)).modDie d fun x =>
        { x with op := some { o with state := why, thisTooth := true, latency := true, count := o.count + 1 }, suspends := satAdd 8 x.suspends 1 }
      if why = .forRead then s.count (if o.work.op = 2 then 0x033 else 0x034) (chOfDie d) 1 else s

/-- Resume: HRQ is empty, no read is in progress and the class is granted (R66). -/
def State.resumeOp (s : State) (d : Nat) : State :=
  let x := s.die d
  match x.op with
  | some o =>
    if o.state ≠ .running ∧ !o.latency ∧ x.hrq = [] ∧ x.reads = [] ∧ s.classGranted d o then
      (s.ca d false (s.img.resumeCa o.work.op d)).modDie d fun x => { x with op := some { o with state := .running } }
    else s
  | none => s

/-- The address an operation names is refused (R86, R95). -/
def State.workFault (s : State) (w : WorkReq) : Bool :=
  !s.img.populated (dieOfBlk w.block) || decide (s.img.blocksPerPlane ≤ blkNo w.block) || (decide (w.op = 1) && decide (s.img.wordLines w.fc ≤ w.wl))

/-- What starts an operation on the CA pins: the confirm of the loaded pages, or an erase on every plane (R90, R91). -/
def State.sendWork (s : State) (d : Nat) (w : WorkReq) : State :=
  if w.op = 2 then (List.range s.img.planes).foldl (fun s p => s.ca d false (s.img.eraseCa w.fc w.block p)) s else s.ca d false confirmCa

/-- WKQ's head starts: an erase at once, a program when all its pages are loaded, in a slot of its class with no operation and no read
in progress (R61, R62, R65). -/
def State.startWork (s : State) (d : Nat) : State :=
  let x := s.die d
  match x.op, x.wkq with
  | none, w :: rest =>
    if !x.resetting ∧ x.reads = [] ∧ s.slotClass d = w.cls ∧ s.wheel.filler = 0 ∧ (w.op = 2 ∨ (0 < w.pages ∧ w.pages ≤ x.loaded)) ∧ !s.workFault w then
      let o : DieOp := { work := w, state := .running, thisTooth := false, atLimit := false, latency := false }
      ((s.sendWork d w).modDie d fun x => { ({ x with wkq := rest } : Die).fill with op := some o, suspends := 0, loaded := 0, wkBlocked := false }).count
        (if w.op = 2 then 0x037 else 0x036) (chOfDie d) 1
    else s
  | _, _ => s

/-- AWL_DISPATCH (R62): the heads are started in order of precedence (DEDUCED, log 67). -/
def State.dispatch (s : State) (d : Nat) : State :=
  if !s.dieServes d ∨ s.dump.run.isSome then s
  else
    let cls := s.slotClass d
    let s := s.startHost d ((s.die d).startable cls)
    let s := s.startInternal d cls 4
    (s.resumeOp d).startWork d

/-! ### The channel (R69, R110) -/

/-- Frame buffers of read staging in use, all and by internal reads, those of the data-outs on the channels among them (R110). -/
def State.movingFrames (s : State) (internal : Bool) : Nat :=
  (s.awl.chans.filter fun (_, x) => match x.busy with
    | some (.frame d r) => !internal || (s.die d).reads.any fun y => decide (y.req.id = r) && decide (y.req.kind ≠ ReadKind.host)
    | _ => false).length
def State.staging (s : State) : Nat := (s.codec.jobs.map fun (_, j) => j.held).sum + s.movingFrames false
def State.stagingInternal (s : State) : Nat := (s.codec.jobs.map fun (_, j) => if j.req.kind = .host then 0 else j.held).sum + s.movingFrames true

/-- The cap on host frames per tooth and channel in force: READ_CAP of the throttle level that has taken effect (R383). -/
def State.readCap (s : State) : Nat :=
  if s.therm.enforced = 3 then s.img.readCap2 else if s.therm.enforced = 2 then s.img.readCap1 else 0

/-- The die of a channel whose WKQ head is a program that takes data now and has waited longest; the lower index on a tie (R65, R69). -/
def State.dataInDie (s : State) (c : Nat) : Option Nat :=
  ((List.range 32).map fun k => 32 * c + k).foldl (fun best d =>
    let x := s.die d
    match x.wkq with
    | w :: _ =>
      if w.op = 1 ∧ x.op.isNone ∧ !x.resetting ∧ x.reads = [] ∧ dataInClass (s.slotClass d) ∧ x.loaded < w.pages ∧ s.dieServes d ∧ !s.workFault w then
        match best with
        | some b =>
          match (s.die b).wkq with
          | v :: _ => if w.since < v.since then some d else best
          | [] => some d
        | none => some d
      else best
    | [] => best) none

/-- The frame of a read in progress that moves next. -/
def ReadRun.nextFrame (r : ReadRun) : ReadReq := r.req.frame (framesOf r.req.gran r.req.glen - r.framesLeft)

/-- A frame's data-out starts, step 5 of R89. -/
def State.startFrame (s : State) (c d id : Nat) : State :=
  let s := match (s.die d).reads.find? (·.req.id = id) with
    | some r => s.ca d (decide (r.req.kind = ReadKind.host)) (s.img.outCa r.nextFrame.gran)
    | none => s
  s.modChan c fun x => { x with busy := some (.frame d id), polled := false }

/-- Bytes 0 to 4,287 of frame f of page unit j of a program: a data member's as placed, P's or Q's as accumulated, or a ledger frame (R109, R185, R191). -/
def State.pageFrame (s : State) (w : WorkReq) (j f : Nat) : Nat :=
  match w.use with
  | .member n pos =>
    match s.girthRec n with
    | some g =>
      let x := Table.getD g.acc (4 * j + f) (0, 0)
      if pos = pPos g.w g.wl then x.1 else if pos = qPos g.w g.wl then x.2 else s.placedFrame g pos (4 * j + f)
    | none => 0
  | .ledger seq _ => match s.girth.ledgerBusy.find? fun (p, _) => p.seq = seq with | some (p, _) => p.info (4 * j + f) | none => 0
  | _ => 0
/-- The encoder's codeword of that frame, scrambled (R104, R108, R109). -/
def State.codeword (s : State) (w : WorkReq) (j f : Nat) : Nat :=
  scramble (s.img.seedOf (s.img.memberGran w.fc w.block w.wl j (8 * f))) (encode (s.pageFrame w j f))

/-- A page's data-in starts: its frames have been encoded, and its page unit's sequence is sent (R90, R109). -/
def State.startPage (s : State) (c d : Nat) : State :=
  match (s.die d).wkq with
  | w :: _ =>
    let j := (s.die d).loaded
    (s.ca d false (s.img.programCa w.fc w.block w.wl j)).modChan c fun x =>
      { x with busy := some (.page d), polled := false, encoded := (List.range 4).map fun f => s.codeword w j f }
  | [] => s

/-- A free channel takes its next transfer: host frames in the order their sensing ended, internal frames, then one page of
data-in (R69); a frame starts only while a staging buffer is free. -/
def State.pumpChannel (s : State) (c : Nat) : State :=
  let x := s.chan c
  if x.busy.isSome ∨ x.isolated ≠ 0 ∨ s.dump.run.isSome then s
  else
    match x.outHost with
    | (d, r) :: _ => if s.staging < 7158 then s.startFrame c d r else s
    | [] =>
      match x.outInternal with
      | (d, r) :: _ => if s.staging < 7158 ∧ s.stagingInternal < 3579 then s.startFrame c d r else s
      | [] =>
        match s.dataInDie c with
        | some d => s.startPage c d
        | none => s

/-- Every channel that has a die with work or frames. -/
def State.pumpChannels (s : State) : State :=
  let ds : List Nat := s.awl.dies.map fun (d, _) => chOfDie d
  let cs := (ds ++ s.awl.chans.map (·.1)).eraseDups
  cs.foldl State.pumpChannel s

/-- Let every listed die start what it may. -/
def State.dispatchAll (s : State) : State := (s.awl.dies.map (·.1)).foldl State.dispatch s

/-! ### A tooth boundary on a die (R60, R64, R66) -/

/-- Events of the tooth that ended: unused heads. -/
def State.countBlocked (s : State) (d : Nat) : State :=
  let x := s.die d
  let s := if x.wkBlocked ∧ x.wkq ≠ [] then s.count 0x030 (chOfDie d) 1 else s
  if x.irBlocked ∧ x.irq ≠ [] then s.count 0x031 (chOfDie d) 1 else s

/-- The new tooth opens: an operation outside its class is suspended, one with host reads waiting is suspended, and the heads start. A queue
whose head has started by the tooth's end, or whose operation is in progress, has not gone unused (R60, log 83). -/
def State.dieTooth (s : State) (d : Nat) : State :=
  if !s.dieServes d then s
  else
    let s := s.countBlocked d
    let s := s.modDie d fun x => { x with wkBlocked := decide (x.wkq ≠ []) && x.op.isNone, irBlocked := decide (x.irq ≠ []) }
    let s := s.modDie d fun x => { x with op := x.op.map (fun o => { o with thisTooth := false }), hrqOpen := x.hrq.length }
    let s : State := match (s.die d).op with
      | some (o : DieOp) =>
        if s.wheel.filler = 0 ∧ s.slotClass d ≠ o.work.cls then
          if o.state = .running then s.suspendOp d .classExit
          else s.modDie d fun x => { x with op := some { o with state := .classExit } }
        else if (s.die d).hrq ≠ [] then s.suspendOp d .forRead
        else s
      | none => s
    s.dispatch d

/-- The wheel has moved by one tooth on every die; READ_CAP counts afresh. -/
def State.awlTooth (s : State) : State :=
  let s : State := { s with awl := { s.awl with chans := s.awl.chans.map fun (c, x) => (c, { x with hostFrames := 0, caSent := [] }) } }
  (s.awl.dies.map (·.1)).foldl State.dieTooth s

/-- A host read waits for no cap: a retry of the ladder, or a member of a reconstruction (R383). -/
def ReadReq.uncapped (r : ReadReq) : Bool := decide (r.rung ≠ 0) || (match r.use with | .member _ => true | _ => false)

/-- The read's frames fit under READ_CAP in this tooth; a read of more frames than the cap takes a tooth of its own (R383). -/
def State.underCap (s : State) (c : Nat) (r : ReadReq) : Bool :=
  let n := framesOf r.gran r.glen
  let used := (s.chan c).hostFrames
  decide (s.readCap = 0) || r.uncapped || decide (used + n ≤ s.readCap) || (decide (s.readCap < n) && decide (used = 0))

/-- A host read enters HRQ: a suspension at once where the slot permits, and the heads start (R62, R66). -/
def State.hrqArrived (s : State) (d : Nat) : State :=
  let s : State := match (s.die d).op with
    | some (o : DieOp) => if o.state = .running ∧ s.suspendOk d ∧ !o.thisTooth then s.suspendOp d .forRead else s
    | none => s
  s.dispatch d

end Sys2Proof.Machine
end

