-- ==== Sys2Proof/Machine/Ledger.lean ====
section
/-! DEFINITION. The girth ledger's pages (08_girths R190 to R195, R207): pairs, pages, refresh cycles, and what a page's success on both
copies makes durable; the choice of a member's die (R181) (DEDUCED, log 75). -/
namespace Sys2Proof.Machine

/-! ### Choosing a die (R181) -/

/-- The die of a cursor place of a channel: target 0 to 7 for LUN 0, then for LUN 1, and so on. -/
def cursorDie (c k : Nat) : Nat := 32 * c + 4 * (k % 8) + k / 8 % 4

/-- The channel's next die in cursor order, isolated dies skipped; the cursor moves past it. -/
def State.nextDie (s : State) (c : Nat) : Option (Nat × State) :=
  let k := (s.chan c).cursor
  match ((List.range 32).map fun i => (k + i) % 32).find? fun i => s.dieServes (cursorDie c i) with
  | some i => some (cursorDie c i, s.setChan c { s.chan c with cursor := (i + 1) % 32 })
  | none => none

/-- A block is taken for a stream: OPEN. One in the other mode receives an extra erase under R171 steps 3 to 6: its intent goes to the ledger, and the
erase is queued when that is durable (R164). The ledger's own pair is erased at once: its first page carries the intent (DEDUCED, log 69). -/
def State.openBlock (s : State) (b stream : Nat) (fc erase : Bool) : State :=
  let s := s.modBlk b fun r => { r with mode := .opened, stream := stream, openWt := s.wheel.wt % 2 ^ 48, fc := if erase then r.fc else fc, wantFc := fc, intent := erase }
  if !erase then s
  else if stream = 7 then (s.ledger (.eraseIntent b fc) false).queueErase b fc .modeErase
  else s.ledger (.eraseIntent b fc) true

/-! ### Pairs (R190) -/

/-- Open a ledger pair: two fast-cell blocks on dies of channels N/2 apart. -/
def State.openPair (s : State) : State :=
  let cs := s.channelsInService
  let n := cs.length
  if n < 2 then s
  else
    let i := s.girth.pairs % n
    match s.nextDie (natAt cs i) with
    | none => s
    | some (da, s) =>
      match s.takeBlock da true false with
      | none => s
      | some (a, ea, s) =>
        match s.nextDie (natAt cs ((i + n / 2) % n)) with
        | none => s
        | some (db, s) =>
          match s.takeBlock db true false with
          | none => s
          | some (b, eb, s) =>
            let s := (s.openBlock a 7 true ea).openBlock b 7 true eb
            { s with girth := { s.girth with pair := some (a, b, 0), pairs := s.girth.pairs + 1, ledgerBlocks := s.girth.ledgerBlocks ++ [(a, b)] } }

/-! ### Refresh cycles (R194) -/

/-- The entries a cycle begins with. -/
def State.cycleEntries (s : State) (cycle : Nat) : List LedgerEntry :=
  let dies := (s.awl.dies.filter fun (_, d) => d.mode = .isolated).map fun (n, d) => LedgerEntry.dieIsolated n d.cause d.isolatedWt
  let roots := s.girth.rootPtr.map fun (k, a) => LedgerEntry.rootPtr k a
  let lay := match s.girth.lastLayout with | some (o, n, r, p) => [LedgerEntry.layout o n r p] | none => []
  let begun := (s.girth.ledgerBusy.flatMap fun (p, _, _) => p.entries).filterMap fun e =>
    match e with | .eraseIntent b fc => if s.girth.intents.any (fun (x, _) => x = b) then none else some (b, fc) | _ => none
  [.cycleBegin cycle] ++ dies ++ roots ++ lay ++ ((s.girth.intents ++ begun).map fun (b, fc) => .eraseIntent b fc) ++ s.girth.retiredSince.map fun (b, r) => .blockRetired b r

/-- A cycle begins: its entries join the staging page, and the anchor record names the last cycle's beginning (R194, R195). -/
def State.beginCycle (s : State) (at_ : Nat × Nat × Nat) : State :=
  let n := s.girth.cycle + 1
  let es := s.cycleEntries n
  let s : State := { s with girth := { s.girth with cycle := n, refreshAt := some 0, ledgerNew := es ++ s.girth.ledgerNew, ledgerWts := es.map (fun _ => s.wheel.wt) ++ s.girth.ledgerWts, lastCycleAt := s.girth.cycleAt, cycleAt := some at_ } }
  match s.girth.lastCycleAt with
  | some (a, b, p) => s.writeRec .ledgerAnchor (.ledgerAnchor a b p (n - 1))
  | none => s

/-- SET_REFRESH entries of the sets in use from a SET_ID on that fit in eight frames, and the SET_ID that follows; none at the end. -/
def State.refreshEntries (s : State) (from_ : Nat) : List LedgerEntry × Option Nat :=
  let all := (s.girth.sets.filter fun (k, _) => from_ ≤ k).map fun (k, r) => LedgerEntry.setRefresh k r
  let (now, rest) := splitEight all 0 0
  match rest with
  | .setRefresh k _ :: _ => (now, some k)
  | _ => (now, none)

/-! ### Pages (R190, R193, R207) -/

/-- The two programs of a page. -/
def State.queuePage (s : State) (p : LedgerPage) : State :=
  let put (s : State) (b : Nat) (isB : Bool) : State :=
    let (id, s) := s.newId
    let w : WorkReq := { id := id, op := 1, cls := 2, fc := true, block := b, wl := p.page, pages := s.img.unitPages true, use := .ledger p.seq isB, since := s.wheel.wt }
    s.modDie (dieOfBlk b) fun d => { d with wkList := d.wkList ++ [w] }
  put (put s p.copyA false) p.copyB true

/-- A page with CYCLE_BEGIN of cycle n stands at a place: the cycle's own, or the last cycle's, which the anchor then names anew (R195). -/
def State.beginsAt (s : State) (at_ : Nat × Nat × Nat) (e : LedgerEntry) : State :=
  match e with
  | .cycleBegin n =>
    if n = s.girth.cycle then { s with girth := { s.girth with cycleAt := some at_ } }
    else if n + 1 = s.girth.cycle then
      ({ s with girth := { s.girth with lastCycleAt := some at_ } } : State).writeRec .ledgerAnchor (.ledgerAnchor at_.1 at_.2.1 at_.2.2 n)
    else s
  | _ => s

/-- Write a page of entries to a pair. -/
def State.writePage (s : State) (a b page : Nat) (new refresh : List LedgerEntry) : State :=
  let p : LedgerPage := { seq := s.girth.lseq, copyA := a, copyB := b, page := page, wt := s.wheel.wt, entries := new, refresh := refresh, okA := false, okB := false }
  let s : State := { s with girth := { s.girth with lseq := s.girth.lseq + 16, ledgerBusy := s.girth.ledgerBusy ++ [(p, none, none)] } }
  (new.foldl (fun s e => s.beginsAt (a, b, page) e) s).queuePage p

/-- A block can take a further page: no program has failed in it and its die serves. -/
def State.takesPage (s : State) (b : Nat) : Bool := decide ((s.blkRec b).mode = .opened) && s.dieServes (dieOfBlk b)
/-- A pair that still has its last page takes the LINK there once a further pair stands (R195, R207). -/
def State.owesLink (s : State) (a b page : Nat) : State :=
  if page < s.img.fcPages then { s with girth := { s.girth with linkDue := s.girth.linkDue ++ [(a, b, s.img.fcPages - 1)] } } else s
/-- The LINK of an old pair, on its copies that can take it. -/
def State.writeLink (s : State) (a b page na nb : Nat) : State :=
  let p : LedgerPage := { seq := s.girth.lseq, copyA := a, copyB := b, page := page, wt := s.wheel.wt, entries := [.link na nb], refresh := [], okA := false, okB := false }
  let put (s : State) (x : Nat) (isB : Bool) : State :=
    if s.takesPage x then
      let (id, s) := s.newId
      let w : WorkReq := { id := id, op := 1, cls := 2, fc := true, block := x, wl := page, pages := s.img.unitPages true, use := .ledger p.seq isB, since := s.wheel.wt }
      s.modDie (dieOfBlk x) fun d => { d with wkList := d.wkList ++ [w] }
    else s
  let out (x : Nat) : Option Bool := if s.takesPage x then none else some false
  if !s.takesPage a ∧ !s.takesPage b then s
  else
    put (put { s with girth := { s.girth with lseq := s.girth.lseq + 16, ledgerBusy := s.girth.ledgerBusy ++ [(p, out a, out b)] } } a false) b true

/-- The current pair lost a copy: a new pair, on which a full cycle begins at once, and code 0x0807 (R201 row 1). The old pair's LINK follows (R195). -/
def State.replacePair (s : State) : State :=
  let s := match s.girth.pair with | some (a, b, p) => s.owesLink a b p | none => s
  let s := s.openPair.leave 0x0807 2 []
  { s with girth := { s.girth with ledgerLost := false, refreshAt := none } }

/-- A waiter needs the entry durable: a girth's close, or an erase intent that is not durable yet (R193). -/
def State.hasWaiter (s : State) : LedgerEntry → Bool
  | .girthClose .. => true
  | .eraseIntent b _ => !(s.girth.intents.any fun (x, _) => x = b)
  | _ => false

/-- LEDGER_PAGE_WRITE: the staging page goes to the current pair, a new one when there is none, it is full or it lost a copy. -/
def State.ledgerPage (s : State) : State :=
  let last := s.img.fcPages - 1
  let s : State := match s.girth.pair with
    | some (a, b, p) =>
      if s.girth.ledgerLost then s.replacePair
      else if last ≤ p then (s.owesLink a b p).openPair
      else s
    | none => s.openPair
  match s.girth.pair with
  | none => s
  | some (a, b, p) =>
    let s := if s.girth.refreshAt.isNone then s.beginCycle (a, b, p) else s
    let (now, rest) := splitEight s.girth.ledgerNew 0 0
    let (refresh, next) := s.refreshEntries (s.girth.refreshAt.getD 0)
    let s : State := { s with girth := { s.girth with ledgerNew := rest, ledgerWts := s.girth.ledgerWts.drop now.length, waiters := rest.countP s.hasWaiter,
                                                      refreshAt := next, pair := some (a, b, p + 1) } }
    s.writePage a b p now refresh

/-- The extra erase of a block stands in its die's list: the programs that waited for that follow it (R164) (DEDUCED, log 68). -/
def State.releaseBehind (s : State) (b : Nat) : State :=
  s.modDie (dieOfBlk b) fun d => { d with wkList := d.wkList ++ d.behind.filter (·.block = b), behind := d.behind.filter (·.block ≠ b) }

/-- What an entry's durability releases: a girth's close (R185), an erase (R171 step 4). -/
def State.entryDurable (s : State) (e : LedgerEntry) : State :=
  match e with
  | .girthClose k wl _ _ => s.girthClosed k wl
  | .eraseIntent b fc =>
    let r := s.blkRec b
    if (r.mode = .eraseWait ∨ r.mode = .opened) ∧ r.intent ∧ !(s.girth.intents.any fun (x, _) => x = b) then
      let s : State := { s with girth := { s.girth with intents := s.girth.intents ++ [(b, fc)] } }
      if r.mode = .eraseWait then s.queueErase b fc .erase
      else if r.stream = 7 then s
      else (s.queueErase b fc .modeErase).releaseBehind b
    else s
  | _ => s

/-- A page has programmed on both copies: its entries are durable in order. -/
def State.pageDurable (s : State) (p : LedgerPage) : State :=
  let s : State := { s with girth := { s.girth with ledgerPages := s.girth.ledgerPages ++ [{ p with okA := true, okB := true }] },
                            dump := { s.dump with consumeLedger := s.dump.consumeLedger.filter fun e => !p.entries.contains e } }
  let s := p.entries.foldl State.entryDurable s
  match s.girth.pair with
  | some (na, nb, _) =>
    if p.copyA = na ∧ p.page = 0 then
      s.girth.linkDue.foldl (fun s (a, b, page) => s.writeLink a b page na nb) { s with girth := { s.girth with linkDue := [] } }
    else s
  | none => s

/-- A page that carries only the LINK of its pair (R195). -/
def LedgerPage.isLink (p : LedgerPage) : Bool := match p.entries with | [.link _ _] => true | _ => false

/-- The entries of a page are written in a new page of the current pair; where that has no page to give, they lead the staging page. -/
def State.rewritePage (s : State) (p : LedgerPage) : State :=
  let again : State := { s with girth := { s.girth with ledgerNew := p.entries ++ s.girth.ledgerNew, ledgerWts := p.entries.map (fun _ => p.wt) ++ s.girth.ledgerWts,
                                                        waiters := s.girth.waiters + 1 } }
  match s.girth.pair with
  | some (x, y, n) =>
    if (x = p.copyA ∧ y = p.copyB) ∨ s.img.fcPages - 1 ≤ n then again
    else ({ s with girth := { s.girth with pair := some (x, y, n + 1) } } : State).writePage x y n p.entries p.refresh
  | none => again

/-- A page has failed on a copy: its entries are not durable and are written again on a new pair, which the old one's last page names where that can still
be written: on both copies, or on the one that programmed (R207). A LINK page stands on the copy that programmed; what was not programmed on purpose has
not failed. -/
def State.pageFailed (s : State) (p : LedgerPage) (a b : Bool) : State :=
  let s : State := { s with girth := { s.girth with ledgerPages := s.girth.ledgerPages ++ [{ p with okA := a, okB := b }] } }
  let failed := (if a then [] else [p.copyA]) ++ if b then [] else [p.copyB]
  if p.isLink then
    let bad := failed.filter s.takesPage
    bad.foldl (fun s x => s.suspect x p.page) (if bad = [] then s else s.leave 0x080A 1 [])
  else
    let s := failed.foldl (fun s x => s.suspect x p.page) (s.leave 0x080A 1 [])
    let s : State := match s.girth.pair with
      | some (x, y, n) => if x = p.copyA ∧ y = p.copyB then (s.owesLink x y n).openPair else s
      | none => s
    s.rewritePage p

/-- The program of one copy of a page ends. -/
def State.ledgerEnd (s : State) (seq : Nat) (isB ok : Bool) : State :=
  match s.girth.ledgerBusy.find? fun (p, _, _) => p.seq = seq with
  | none => s
  | some (p, a, b) =>
    let a' := if isB then a else some ok
    let b' := if isB then some ok else b
    match a', b' with
    | some x, some y =>
      let s : State := { s with girth := { s.girth with ledgerBusy := s.girth.ledgerBusy.filter fun (q, _, _) => q.seq ≠ seq } }
      if x ∧ y then s.pageDurable p else s.pageFailed p x y
    | _, _ => { s with girth := { s.girth with ledgerBusy := s.girth.ledgerBusy.map fun (q, c, d) => if q.seq = seq then (q, a', b') else (q, c, d) } }

/-- An anchor is durable: ledger blocks that hold only frames before the cycle it names go to ERASE_WAIT (R195). -/
def State.anchorDurable (s : State) (a : Nat) : State :=
  let old := s.girth.ledgerBlocks.takeWhile fun (x, _) => x ≠ a
  if old.length = s.girth.ledgerBlocks.length then s
  else
    let s : State := { s with girth := { s.girth with ledgerBlocks := s.girth.ledgerBlocks.drop old.length,
                                                      ledgerPages := s.girth.ledgerPages.filter fun p => !(old.any fun (x, _) => x = p.copyA) } }
    old.foldl (fun s (x, y) =>
      [x, y].foldl (fun s b => if (s.blkRec b).mode = .opened then s.modBlk b fun r => { r with mode := .eraseWait, wantFc := true, walked := true }
                               else s.modBlk b fun r => { r with walked := true }) s) s

/-! ### The ledger state (R196) -/

/-- What the ledger pages tell, in LSEQ order; `rebuild` and `setOf` are the rebuild list and SET_OF that its entries form (R188, R201). -/
structure LedgerView where
  sets : Table SetRec := []
  closes : List (Nat × Nat) := []
  intents : List (Nat × Bool) := []
  done : Table (Nat × Nat) := []
  retired : List (Nat × Nat) := []
  roots : Table Nat := []
  layout : Option (Nat × Nat × Nat × Nat) := none
  dies : List (Nat × Nat × Nat) := []
  setOf : Table Nat := []
  rebuild : List (Nat × Nat) := []
  deriving DecidableEq, Repr

/-- A set with a lost position joins the rebuild list, or leaves its place for a higher row. -/
def LedgerView.lost (v : LedgerView) (k : Nat) : LedgerView :=
  let row := (Table.getD v.sets k {}).row
  match v.rebuild.find? fun (x, _) => x = k with
  | some (_, old) => if row < old then { v with rebuild := v.rebuild.filter (fun (x, _) => x ≠ k) ++ [(k, row)] } else v
  | none => { v with rebuild := v.rebuild ++ [(k, row)] }

def LedgerView.take (v : LedgerView) : LedgerEntry → LedgerView
  | .setOpen k r => { v with sets := Table.set v.sets k { r with state := 1, nextWl := 0, lastAbsent := [], absWl := [] },
                             setOf := r.member.foldl (fun t b => Table.set t b k) v.setOf }
  | .setRefresh k r =>
    let seen := (Table.find v.sets k).isSome
    let v : LedgerView := { v with sets := Table.set v.sets k r,
                                   setOf := if seen then v.setOf else r.member.foldl (fun t b => if (Table.find t b).isSome then t else Table.set t b k) v.setOf }
    if r.absWl = [] then v else v.lost k
  | .girthClose k wl absent _ =>
    { v with sets := Table.modify v.sets k fun r => { r with nextWl := max r.nextWl (wl + 1), lastAbsent := absent }, closes := v.closes ++ [(k, wl)] }
  | .setEnd k reason => { v with sets := Table.modify v.sets k fun r => { r with state := 2, endReason := reason } }
  | .setReleased k => { v with sets := Table.del v.sets k, closes := v.closes.filter (·.1 ≠ k), setOf := v.setOf.filter (·.2 ≠ k), rebuild := v.rebuild.filter (·.1 ≠ k) }
  | .memberLost k pos wl =>
    ({ v with sets := Table.modify v.sets k fun r => { r with absWl := Table.set r.absWl pos (min wl (Table.getD r.absWl pos wl)) } } : LedgerView).lost k
  | .eraseIntent b fc => { v with intents := (v.intents.filter (·.1 ≠ b)) ++ [(b, fc)] }
  | .eraseDone b n c => { v with intents := v.intents.filter (·.1 ≠ b), done := Table.set v.done b (n, c) }
  | .dieIsolated d c wt => { v with dies := (v.dies.filter (·.1 ≠ d)) ++ [(d, c, wt)] }
  | .rootPtr k a => { v with roots := Table.set v.roots k a }
  | .layout o n r p => { v with layout := some (o, n, r, p) }
  | .cycleBegin _ => v
  | .link _ _ => v
  | .blockRetired b reason => { v with retired := (v.retired.filter (·.1 ≠ b)) ++ [(b, reason)], intents := v.intents.filter (·.1 ≠ b), setOf := Table.del v.setOf b }

/-- A page decodes on a copy whose program has succeeded and whose die can be read. -/
def State.pageReads (s : State) (p : LedgerPage) : Bool := (p.okA && s.dieServes (dieOfBlk p.copyA)) || (p.okB && s.dieServes (dieOfBlk p.copyB))
/-- The pages in LSEQ order, those in program with the copies that have ended. -/
def State.pagesInOrder (s : State) : List LedgerPage :=
  let busy := s.girth.ledgerBusy.map fun (p, a, b) => { p with okA := decide (a = some true), okB := decide (b = some true) }
  ((s.girth.ledgerPages ++ busy).foldl (fun (t : Table LedgerPage) p => Table.set t p.seq p) []).map (·.2)
/-- From the anchor's CYCLE_BEGIN onward, up to the first page of which neither copy decodes. -/
def State.readable7 (s : State) : List LedgerPage :=
  let ps := s.pagesInOrder
  let from_ := match s.ts.newest .ledgerAnchor fun _ => true with
    | some (.ledgerAnchor a b n _) => ps.dropWhile fun p => !(decide (p.copyA = a) && decide (p.copyB = b) && decide (p.page = n))
    | _ => ps
  (if from_ = [] then ps else from_).takeWhile s.pageReads
def State.ledgerView (s : State) : LedgerView := (s.readable7.flatMap fun p => p.entries ++ p.refresh).foldl LedgerView.take {}

/-- A SET_REC whose CRC fails is rebuilt from the DRAM copy of the ledger: its pages, those being programmed and the staging page (R188, R193). -/
def State.rebuildSet (s : State) (k : Nat) : State :=
  let es := (s.pagesInOrder.flatMap fun p => p.entries ++ p.refresh) ++ s.girth.ledgerNew
  match Table.find (es.foldl LedgerView.take {}).sets k with
  | some r => s.modSet k fun old => { r with state := if old.state = 3 then 3 else r.state }
  | none => s

/-- The end of a program or erase reaches whoever asked for it. -/
def State.workEnd (s : State) (w : WorkReq) (ok : Bool) : State :=
  match w.use with
  | .member n pos => s.memberEnd n pos ok
  | .ledger seq isB => s.ledgerEnd seq isB ok
  | .modeErase => if ok then s.eraseOk w.block w.fc true else s.eraseBad w.block
  | .erase => if ok then s.eraseOk w.block w.fc false else s.eraseBad w.block

end Sys2Proof.Machine
end

