-- ==== Sys2Proof/Machine/Isolate.lean ====
section
/-! DEFINITION. Isolation of dies and channels (04_awls R97 to R102, 08_girths R197, R203, R205) and the end of an operation on a die. -/
namespace Sys2Proof.Machine

/-! ### Layout (R203, R205) -/

/-- N, channels in service. -/
def State.channelCount (s : State) : Nat := s.channelsInService.length
/-- W_T. -/
def State.wTarget (s : State) : Nat := min s.img.girthW (s.channelCount - 2)

/-- N has changed: fewer than 8 channels open no set; a target width other than the one in force is switched to at the next round
boundary. Reason 0 image, 1 channel loss. -/
def State.checkLayout (s : State) (reason : Nat) : State :=
  if s.channelCount < 8 then
    if s.girth.noSets then s else ({ s.leave 0x080B 3 [] with girth := { s.girth with noSets := true } } : State).smartEvent 3 0
  else
    let s : State := { s with girth := { s.girth with noSets := false } }
    if s.wTarget ≠ s.girth.w then { s with girth := { s.girth with switch := some (s.wTarget, reason) } }
    else { s with girth := { s.girth with switch := none } }

/-! ### Isolating a die (R99, R101, R197) -/

/-- A read of an isolated die: host and copy reads become degraded, member reads fail, patrol reads are dropped (step 3). -/
def State.redirect (s : State) (r : ReadReq) : State :=
  let s : State := { s with codec := { s.codec with jobs := Table.del s.codec.jobs r.key } }
  match r.use with
  | .member n => s.memberRead n r.gran false
  | .unit _ => s.degradeRun r
  | .copy _ => s.degradeRun r
  | .sample g _ => s.sampleEnd g
  | .trial g => (s.modVt g fun v => { v with queued := false }).endRecal g

/-- Reads of one frame among a die's entries count once: the rung-2 reads of a frame are one group. -/
def onceEach : List ReadReq → List ReadReq
  | [] => []
  | r :: rs => if rs.any fun q => decide (q.key = r.key) then onceEach rs else r :: onceEach rs

/-- A read in progress on a die that is isolated: the frame on the channel completes and goes to the codec (step 2); what remains of the read is
redirected. -/
def State.keptRun (s : State) (d : Nat) (r : ReadRun) : Option ReadRun :=
  if (s.chan (chOfDie d)).busy = some (.frame d r.req.id) then some { r with req := r.nextFrame, framesLeft := 1 } else none
def State.leftOf (s : State) (d : Nat) (r : ReadRun) : List ReadReq :=
  let k := framesOf r.req.gran r.req.glen
  let left := (List.range k).filter fun p => decide (k ≤ p + r.framesLeft)
  (if (s.keptRun d r).isSome then left.drop 1 else left).map r.req.frame

/-- Work of a die out of service: programs mark their member absent, erases are dropped (step 4). -/
def State.deadWork (s : State) (w : WorkReq) : State := if w.op = 1 then s.workEnd w false else s

/-- Every entry of a die out of service goes where R99 sends it. -/
def State.drainDie (s : State) (d : Nat) : State :=
  let x := s.die d
  let works := (match x.op with | some o => [o.work] | none => []) ++ x.wkq ++ x.wkList ++ x.behind
  let kept := x.reads.filterMap (s.keptRun d)
  let waiting := x.hrq ++ x.feList ++ x.irq ++ x.irList
  let reads := onceEach (x.reads.flatMap (s.leftOf d) ++ waiting)
  let gone := ((x.reads.filter fun r => !(s.keptRun d r).isSome).map (·.req)) ++ waiting
  let s := x.reads.foldl (fun s r => s.openRun r.req) s
  let s := s.setDie d { x with op := none, wkq := [], wkList := [], behind := [], reads := kept, hrq := [], feList := [], irq := [], irList := [], loaded := 0, resetting := false }
  let c := chOfDie d
  let stays (p : Nat × Nat) : Bool := decide (p.1 ≠ d) || kept.any fun r => decide (r.req.id = p.2)
  let s := s.modChan c fun y => { y with outHost := y.outHost.filter stays, outInternal := y.outInternal.filter stays, busy := if y.busy = some (.page d) then none else y.busy }
  let s := gone.foldl (fun s r => s.readGone r.gran) s
  works.foldl State.deadWork (reads.foldl State.redirect s)

/-- A program for a block that has been retired: its extra erase failed (R164, R173). -/
def State.deadProgram (s : State) (w : WorkReq) : Bool := decide (w.op = 1) && decide ((s.blkRec w.block).mode = .retired)
/-- Programs of retired blocks end as failed. -/
def State.drainRetired (s : State) (d : Nat) : State :=
  let x := s.die d
  let gone := (x.wkq ++ x.wkList).filter s.deadProgram
  gone.foldl State.deadWork
    (s.setDie d { x with wkq := x.wkq.filter (fun w => !s.deadProgram w), wkList := x.wkList.filter fun w => !s.deadProgram w })

/-- An operation that the awl refuses with an address fault: nothing is sent, and a program marks its member absent (R86, R95; 04, edge cases). -/
def State.refuseWork (s : State) (w : WorkReq) : State := (s.leave 0x040B 2 [s.img.memberGran w.fc w.block w.wl 0 0]).deadWork w
def State.refuseWorks (s : State) (d : Nat) : State :=
  let x := s.die d
  let gone := (x.wkq ++ x.wkList).filter s.workFault
  gone.foldl State.refuseWork (s.setDie d { x with wkq := x.wkq.filter (fun w => !s.workFault w), wkList := x.wkList.filter fun w => !s.workFault w })
/-- Reads of a die that is not populated are refused as they come (R86). -/
def State.refuseReads (s : State) (d : Nat) : State :=
  let x := s.die d
  (x.hrq ++ x.feList ++ x.irq ++ x.irList).foldl State.refuseRead (s.setDie d { x with hrq := [], feList := [], irq := [], irList := [] })

/-- Entries that reached dies already out of service or not populated, operations at addresses that do not exist, and programs of retired blocks. -/
def State.drainDead (s : State) : State :=
  let s := (s.awl.dies.filter fun (_, x) => decide (x.mode = .isolated) &&
      (decide (x.wkList ≠ []) || decide (x.wkq ≠ []) || decide (x.behind ≠ []) || decide (x.irList ≠ []) || decide (x.feList ≠ []))).foldl (fun s (d, _) => s.drainDie d) s
  let s := (s.awl.dies.filter fun (d, x) => !s.img.populated d && (decide (x.irList ≠ []) || decide (x.feList ≠ []))).foldl (fun s (d, _) => s.refuseReads d) s
  let s := (s.awl.dies.filter fun (_, x) => (x.wkq ++ x.wkList).any s.workFault).foldl (fun s (d, _) => s.refuseWorks d) s
  (s.awl.dies.filter fun (_, x) => (x.wkq ++ x.wkList).any s.deadProgram).foldl (fun s (d, _) => s.drainRetired d) s

/-- The die's blocks leave every list (07, 'Block states'). -/
def State.unlistDie (s : State) (d : Nat) : State :=
  let keep (x : List Nat) : List Nat := x.filter fun b => dieOfBlk b ≠ d
  let s := s.modLists d fun l => { ({} : DieLists) with fresh := l.fresh }
  { s with blk := { s.blk with recs := s.blk.recs.map fun (b, r) => (b, if dieOfBlk b = d then { r with forced := 0 } else r),
                               vc := (s.blk.vc.map fun (k, x) => (k, keep x)).filter (fun (_, x) => x ≠ []),
                               forced := (s.blk.forced.map fun (k, x) => (k, keep x)).filter (fun (_, x) => x ≠ []),
                               active := keep s.blk.active } }

/-- Every set in use with a member on the die loses that position from word line 0 (R197); code 0x0805 when any joins the list. -/
def State.loseSets (s : State) (d name : Nat) : State :=
  let hit := s.girth.sets.filterMap fun (k, r) => (r.member.findIdx? fun b => dieOfBlk b = d).map fun p => (k, p)
  let before := s.girth.rebuild.length
  let s := hit.foldl (fun s (k, p) => s.memberLost k p 0) s
  if before < s.girth.rebuild.length then s.leave 0x0805 3 [name, s.girth.rebuild.length - before] else s

/-- The ledger pairs of the current refresh cycle, from the one that holds its CYCLE_BEGIN on (R201 row 1). -/
def GirthState.cycleBlocks (g : GirthState) : List (Nat × Nat) :=
  match g.cycleAt with
  | some (a, _, _) => if g.ledgerBlocks.any (·.1 = a) then g.ledgerBlocks.dropWhile fun (x, _) => decide (x ≠ a) else g.ledgerBlocks
  | none => g.ledgerBlocks

/-- A target whose every populated LUN is isolated: Reset is sent to it once, and it is deselected for good (R101); the CA pins of a channel that is
itself being isolated carry nothing more (DEDUCED, log 83). -/
def State.deselect (s : State) (d : Nat) : State :=
  let c := chOfDie d
  if (s.chan c).deselected.contains (tgtOfDie d) then s
  else
    let s := if (s.chan c).isolated = 0 then s.ca d false resetCa else s
    s.modChan c fun x => { x with deselected := x.deselected ++ [tgtOfDie d] }

/-- Steps 1 to 4 of R99 on a die. -/
def State.isolateCore (s : State) (d cause name : Nat) : State :=
  if (s.die d).mode = .isolated then s
  else
    let s := s.modDie d fun x => { x with mode := .isolated, cause := cause, isolatedWt := s.wheel.wt % 2 ^ 48 }
    let s := ((s.unlistDie d).drainDie d).loseSets d name
    let pairLost := s.girth.cycleBlocks.any fun (a, b) => dieOfBlk a = d ∨ dieOfBlk b = d
    let s : State := if pairLost then { s with girth := { s.girth with ledgerLost := true } } else s
    let s := (s.map.jobs.flatMap fun j => j.markedLeft.filter fun b => dieOfBlk b = d).foldl State.sdResidue s
    let s := (s.girth.sets.map (·.1)).foldl State.releaseSet s
    let lunsOut := (List.range 4).all fun l => !s.img.populated (32 * chOfDie d + 4 * tgtOfDie d + l) || decide ((s.die (32 * chOfDie d + 4 * tgtOfDie d + l)).mode = .isolated)
    let s := if lunsOut then s.deselect d else s
    s.writeRec .optionLog (.optIsolated d cause)

/-- A channel meets an isolation criterion (R100): one record stands for it. -/
def State.isolateChannel (s : State) (c crit : Nat) : State :=
  if (s.chan c).isolated ≠ 0 then s
  else
    let s := s.setChan c { s.chan c with isolated := crit, ceHigh := true, wpHigh := false, odt := false, phyOn := false }
    let ds := ((List.range 32).map fun k => 32 * c + k).filter s.img.populated
    let s := ds.foldl (fun s d => s.isolateCore d (crit + 8) c) s
    (s.leave 0x0406 3 [c, crit + 8]).checkLayout 1

/-- Every populated die of the channel is isolated (channel criterion 3). -/
def State.channelDead (s : State) (c : Nat) : Bool :=
  ((List.range 32).map fun k => 32 * c + k).all fun d => !s.img.populated d || decide ((s.die d).mode = .isolated)

/-- A die meets a die criterion (R97, R98): alone, or with its channel. -/
def State.isolateDie (s : State) (d crit : Nat) : State :=
  if (s.die d).mode = .isolated then s
  else
    let c := chOfDie d
    let round := s.obs.rounds
    let s := if crit = 4 then s else s.modDie d fun x => { x with metRound := some round }
    let twoTargets := crit ≠ 4 && (s.chan c).step = 7 && (List.range 32).any fun k =>
      decide (tgtOfDie (32 * c + k) ≠ tgtOfDie d) && decide ((s.die (32 * c + k)).metRound = some round)
    if twoTargets then s.isolateChannel c 2
    else
      let s := (s.isolateCore d crit d).leave 0x0405 3 [d, crit]
      if s.channelDead c then s.isolateChannel c 3 else s

/-! ### Operations end (R93, R94, R97) -/

/-- A status failure on a block: criterion 5, eight distinct blocks within 64 rounds (R97); the die is on WATCH (R96). -/
def State.statusFail (s : State) (d block : Nat) : State :=
  let round := s.obs.rounds
  let recent := ((s.die d).failRounds.filter fun (_, r) => round < r + 64)
  let s := s.modDie d fun x => { x with failRounds := recent ++ [(block, round)], mode := if x.mode = .active then .watch else x.mode }
  if 8 ≤ ((recent ++ [(block, round)]).map (·.1)).eraseDups.length then s.isolateDie d 5 else s

/-- The operation in progress ends by status. -/
def State.opStatus (s : State) (d : Nat) (planes : List Nat) : State :=
  match (s.die d).op with
  | none => s
  | some o =>
    let w := o.work
    let ok := decide (planes = [])
    let s := s.modDie d fun x => { x with op := none, suspends := 0 }
    let s := if ok then s
      else if w.op = 2 then (s.modDie d fun x => { x with eraseFails := satAdd 16 x.eraseFails 1 }).leave 0x0402 2 [d, blkNo w.block]
      else (s.modDie d fun x => { x with progFails := satAdd 16 x.progFails 1 }).leave 0x0401 2 [d, blkNo w.block, (planes.map (2 ^ ·)).sum]
    let s := s.workEnd w ok
    let s := if ok then s else s.statusFail d w.block
    s.dispatch d

/-- The operation in progress times out (R94): failed on every plane, Reset LUN sent; a fourth timeout within 64 rounds isolates (DEDUCED, log 66). -/
def State.opTimeout (s : State) (d : Nat) : State :=
  match (s.die d).op with
  | none => s
  | some o =>
    let w := o.work
    let round := s.obs.rounds
    let recent := (s.die d).timeouts.filter fun r => round < r + 64
    let s := s.modDie d fun x => { x with op := none, suspends := 0, resetting := true, lunResets := satAdd 16 x.lunResets 1,
                                          timeouts := recent ++ [round], mode := if x.mode = .active then .watch else x.mode }
    let s := ((s.ca d false (s.img.resetLunCa d)).leave 0x0403 2 [d, w.op]).workEnd w false
    if 4 ≤ recent.length + 1 then s.isolateDie d 2 else s

/-- A frame read that no rung corrects, or one that decodes: criterion 3 (R97). -/
def State.badFrame (s : State) (gran : Nat) : State :=
  let d := dieOf gran
  let s := s.modDie d fun x => { x with badFrames := satAdd 16 x.badFrames 1, badBlocks := (s.img.blockOf gran :: x.badBlocks).eraseDups }
  if 16 ≤ (s.die d).badFrames ∧ 2 ≤ (s.die d).badBlocks.length then s.isolateDie d 3 else s
def State.goodFrame (s : State) (gran : Nat) : State :=
  if (s.die (dieOf gran)).badFrames = 0 then s else s.modDie (dieOf gran) fun x => { x with badFrames := 0, badBlocks := [] }

end Sys2Proof.Machine
end

