-- ==== Sys2Proof/Machine/Codec.lean ====
section
/-! DEFINITION. The frame codec (05_frames_and_ldpc R110 to R125): read staging and the decoder pool, the decode ladder, hints, patrol
judgement, recalibration, and what a decoded run answers. -/
namespace Sys2Proof.Machine

/-! ### Read staging and decoders (R110) -/

def State.fjob (s : State) (n : Nat) : Option FrameJob := Table.find s.codec.jobs n
def State.setFjob (s : State) (n : Nat) (j : FrameJob) : State := { s with codec := { s.codec with jobs := Table.set s.codec.jobs n j } }
def State.dropFjob (s : State) (n : Nat) : State := { s with codec := { s.codec with jobs := Table.del s.codec.jobs n } }

/-- A frame arrives in read staging; the soft rung waits for the frames of its six reads. A ladder read whose frame is no longer on the ladder is dropped. -/
def State.frameIn (s : State) (d : Nat) (q : ReadReq) : State :=
  let order := s.awl.nextId
  let s : State := { s with awl := { s.awl with nextId := order + 1 } }
  match s.fjob q.key with
  | some j =>
    if q.rung = 2 then
      s.setFjob q.key { j with softLeft := j.softLeft - 1, stage := if j.softLeft ≤ 1 then 1 else 0, held := j.held + 1, order := order }
    else s.setFjob q.key { j with stage := 1, held := j.held + 1, order := order }
  | none => if q.rung = 0 then s.setFjob q.key { req := q, die := d, rung := 0, step := 0, softLeft := 0, stage := 1, held := 1, order := order } else s

/-- The oldest waiting frame for a kind of decoder: host reads before internal ones. -/
def State.nextFrame (s : State) (soft : Bool) : Option Nat :=
  let ready := s.codec.jobs.filter fun (_, j) => decide (j.stage = 1) && decide ((j.rung = 2) = soft)
  let pick (xs : Table FrameJob) : Option Nat := (xs.foldl (fun (b : Option (Nat × Nat)) (n, j) =>
    match b with
    | some (_, o) => if j.order < o then some (n, j.order) else b
    | none => some (n, j.order)) none).map (·.1)
  match pick (ready.filter fun (_, j) => j.req.kind = .host) with
  | some n => some n
  | none => pick ready

/-- Free decoders take frames: 32 hard, 8 soft (DEDUCED, log 30). -/
def State.giveDecoders (s : State) (soft : Bool) : (n : Nat) → State
  | 0 => s
  | n + 1 =>
    let used := (s.codec.jobs.filter fun (_, j) => j.stage = if soft then 3 else 2).length
    if used < (if soft then 8 else 32) then
      match s.nextFrame soft with
      | some k => State.giveDecoders { s with codec := { s.codec with jobs := Table.modify s.codec.jobs k fun j => { j with stage := if soft then 3 else 2 } } } soft n
      | none => s
    else s
def State.decoders (s : State) : State := (s.giveDecoders false 32).giveDecoders true 8

/-! ### Hints (R113, R121, R124) -/

/-- A group joins the hint queue, unless it is queued or its block is a fast-cell one. -/
def State.hint (s : State) (gran : Nat) : State :=
  let b := s.img.blkOf gran
  let g := s.groupOf (dieOf gran) (s.img.blockOf gran)
  if (s.blkRec b).fc ∨ (s.vtGroup g).queued then s
  else
    let s := s.modVt g fun v => { v with queued := true }
    { s with codec := { s.codec with hint := s.codec.hint ++ [(g, b)] } }

/-! ### Recalibration (R122) -/

/-- The frame a trial reads: page type t of the middle programmed word line, plane 0, frame 0. Of an even number W of programmed word lines the lower of
the two middle ones, (W - 1) / 2, is taken (DESIGN CHOICE, log 82). -/
def State.trialGran (s : State) (block t : Nat) : Nat :=
  let r := s.blkRec block
  s.img.memberGran r.fc block ((r.programmed - 1) / 2) (t * s.img.planes) 0

/-- The seven trials of a pass. -/
def State.trials (s : State) (c : Recal) : State :=
  (List.range 7).foldl (fun s k => s.issueRead .patrol (.trial c.group) (s.trialGran c.block c.type) 8 0 k none) s

/-- The best of seven results: the least; ties go to the least |k|, then to negative k. None: no frame decoded. -/
def bestTrial (rs : Table (Option Nat)) : Option Int :=
  (([0, -1, 1, -2, 2, -3, 3] : List Int).foldl (fun (b : Option (Int × Nat)) k =>
    match Table.getD rs (k + 3).toNat none with
    | some c => match b with
      | some (_, c') => if c < c' then some (k, c) else b
      | none => some (k, c)
    | none => b) none).map (·.1)

/-- The row switch (R118): one entry write. CAL_TEMP is the flash reading of 0.25 °C rounded down to a whole °C, and 0 where the channel's sensor has never
given a good reading (DESIGN CHOICE, log 82). -/
def State.rowSwitch (s : State) (c : Recal) (row : List Int) : State :=
  let v := s.vtGroup c.group
  let gen := ((if v.sel then v.gen1 else v.gen0) + 1) % 256
  let temp := match Table.find s.therm.flashGood (chOfDie (c.group % 1024)) with | some t => t / 4 | none => 0
  let row := clampRow row
  let v := if v.sel then { v with row0 := row, gen0 := gen, sel := false } else { v with row1 := row, gen1 := gen, sel := true }
  let s := s.modVt c.group fun _ => { v with valid := true, lastRetry := 0, calTemp := temp, calRound := s.wheel.wt / 1024 % 2 ^ 32, queued := false }
  (s.leave 0x0505 0 [c.group, gen]).endRecal c.group

/-- A trial ends: at the seventh the pass is judged. -/
def State.trialEnd (s : State) (g k : Nat) (res : Option Nat) : State :=
  match s.codec.recals.find? (·.group = g) with
  | none => s
  | some c =>
    let rs := Table.set c.results k res
    if rs.length < 7 then s.modRecal g fun c => { c with results := rs }
    else
      match bestTrial rs with
      | none => s.abandonRecal g
      | some best =>
        let centre := c.centre + best
        if (best = -3 ∨ best = 3) ∧ c.pass + 1 < 4 then
          let c' := { c with centre := centre, pass := c.pass + 1, results := [] }
          (s.modRecal g fun _ => c').trials c'
        else
          let row := addRows c.newRow (s.typeDelta c.type (centre * (s.img.recalStep : Int)))
          if s.img.bitsPerCell ≤ c.type + 1 then s.rowSwitch c row
          else
            let c' := { c with newRow := row, type := c.type + 1, centre := 0, pass := 0, results := [] }
            (s.modRecal g fun _ => c').trials c'

/-! ### Patrol (R124) -/

/-- A sampled frame is judged: rung it succeeded on (none: unreadable) and its corrected bits. -/
def State.judge (s : State) (q : ReadReq) (rung : Option Nat) (cbc : Nat) : State :=
  let b := s.img.blkOf q.gran
  let hand (s : State) : State := (s.refresh b).leave 0x0506 1 [dieOfBlk b, blkNo b, cbc]
  match rung with
  | none => (s.refresh b).leave 0x0503 2 [q.gran]
  | some 0 =>
    if cbc ≤ s.img.recalCbc then s
    else if cbc ≤ s.img.refreshCbc then s.hint q.gran
    else hand (s.hint q.gran)
  | some _ => hand (s.hint q.gran)

/-! ### The ladder (R112, R113) -/

/-- The next retry step after `st`; a group's LAST_RETRY is skipped. -/
def State.nextStep (s : State) (gran st : Nat) : Option Nat :=
  let fc := (s.blkRec (s.img.blkOf gran)).fc
  let lr := if fc then 0 else (s.vtGroup (s.groupOf (dieOf gran) (s.img.blockOf gran))).lastRetry
  ((List.range 9).filter fun x => st < x ∧ x ≤ s.img.retrySteps).find? fun x => lr = 0 ∨ x ≠ lr

/-- A ladder read of a frame: a host read's enters HRQ at its head, an internal read's IRQ's tail; in an XFER_ONLY tooth it waits at the head for the
closing boundary (R62). -/
def State.retryRead (s : State) (q : ReadReq) (rung step : Nat) : State :=
  let (id, s) := s.newId
  let r : ReadReq := { q with id := id, rung := rung, step := step, entered := s.wheel.wt }
  let d := dieOf q.gran
  if !s.dieServes d then s.redirect r
  else
    let s := s.modBlk (s.img.blkOf q.gran) fun b => { b with inflight := satAdd 16 b.inflight 1 }
    if q.kind = .host then
      if (s.die d).hrq.length < 4 then
        let s := s.modChan (chOfDie d) fun y => { y with hostFrames := y.hostFrames + r.moves }
        (s.modDie d fun x => { x with hrq := r :: x.hrq, hrqOpen := 0 }).hrqArrived d
      else s.modDie d fun x => { x with feList := r :: x.feList }
    else s.modDie d fun x => { x with irList := x.irList ++ [r] }

/-- Rung 3 (R112): the frame passes to the girth engine. -/
def State.rung3 (s : State) (q : ReadReq) : State :=
  (((s.leave 0x0503 2 [q.gran]).reachRung3 q.gran).badFrame q.gran).degrade q

/-- A rung has failed on a frame: the next one. -/
def State.rungFail (s : State) (n : Nat) (j : FrameJob) : State :=
  let q := j.req
  match q.use with
  | .trial g => (s.dropFjob n).trialEnd g q.step none
  | _ =>
    let next := if j.rung = 2 then none else s.nextStep q.gran (if j.rung = 0 then 0 else j.step)
    match next with
    | some st => (s.setFjob n { j with rung := 1, step := st, stage := 0, held := 1 }).retryRead q 1 st
    | none =>
      if j.rung ≤ 1 then (s.setFjob n { j with rung := 2, step := 0, stage := 0, softLeft := 6, held := 1 }).retryRead q 2 0
      else
        let s := s.dropFjob n
        match q.use with
        | .member k => ((s.leave 0x0503 2 [q.gran]).badFrame q.gran).memberRead k q.gran false
        | .sample g _ => ((s.badFrame q.gran).judge q none 0).sampleEnd g
        | _ => s.rung3 q

/-- The check of R114 on the descriptors of a decoded frame's granules of the run; of a stream 6 copy, KIND alone (R106). -/
def State.frameOk (s : State) (q : ReadReq) (info : Nat) : Bool :=
  let a := (s.runOf q).gran
  let every (ok : Nat → GranDesc → Bool) : Bool := (List.range q.glen).all fun i => ok (q.gran + i - a) (frameDesc info (granuleOf q.gran + i))
  match q.use with
  | .unit t => (s.job t).elim true fun j => every (descOk j.nsx j.unit j.entry)
  | .copy t => (s.job t).elim true fun j => if 1024 ≤ j.nsx then every fun _ d => decide (d.kind = 2) else every (descOk j.nsx j.unit j.entry)
  | _ => true
/-- The frame as it was programmed passes that check. -/
def State.runOk (s : State) (q : ReadReq) : Bool :=
  match q.use with
  | .unit _ => s.frameOk q (s.frameInfo (q.gran / 8 * 8))
  | .copy _ => s.frameOk q (s.frameInfo (q.gran / 8 * 8))
  | _ => true

/-- A rung has succeeded on a frame: LAST_RETRY, hints, counts, and the answer. -/
def State.rungOk (s : State) (n : Nat) (j : FrameJob) (corrected : Nat) : State :=
  let q := j.req
  let g := s.groupOf (dieOf q.gran) (s.img.blockOf q.gran)
  let fc := (s.blkRec (s.img.blkOf q.gran)).fc
  let s := s.goodFrame q.gran
  let s := if j.rung = 1 then
      let s := if fc then s else (s.modVt g fun v => { v with lastRetry := j.step }).hint q.gran
      (s.leave 0x0501 1 [g, j.step]).count 0x040 (chOfDie (dieOf q.gran)) 1
    else if j.rung = 2 then ((s.hint q.gran).leave 0x0502 1 [g]).count 0x041 (chOfDie (dieOf q.gran)) 1
    else s
  let s := s.dropFjob n
  match q.use with
  | .member k => s.memberRead k q.gran true
  | .sample g' _ => (s.judge q (some j.rung) corrected).sampleEnd g'
  | .trial g => s.trialEnd g q.step (some corrected)
  | _ => s.frameGood q

/-- FRAME_DECODE_DONE: a decoder finishes a frame. -/
def State.decodeDone (s : State) (n : Nat) (converged : Bool) (corrected : Nat) : State :=
  match s.fjob n with
  | none => s
  | some j =>
    if j.stage ≠ 2 ∧ j.stage ≠ 3 then s
    else if converged && s.runOk j.req then (s.rungOk n j corrected).decoders
    else (s.rungFail n j).decoders

/-! ### A frame's data-out (R69, R161) -/

/-- The frame has left the channel: the read ends with its last frame. -/
def State.frameOut (s : State) (d : Nat) (run : ReadRun) : State :=
  let c := chOfDie d
  let id := run.req.id
  if run.framesLeft ≤ 1 then
    let s := s.modDie d fun x => { x with reads := x.reads.filter (·.req.id ≠ id) }
    let s := s.setChan c { s.chan c with outHost := (s.chan c).outHost.filter (· ≠ (d, id)), outInternal := (s.chan c).outInternal.filter (· ≠ (d, id)) }
    (s.readGone run.req.gran).dispatch d
  else s.modDie d fun x => { x with reads := x.reads.map fun r => if r.req.id = id then { r with framesLeft := r.framesLeft - 1 } else r }

/-- FRAME_DATA_OUT_DONE: the frame enters read staging; with the last one the read ends, its plane frees and the heads start. -/
def State.dataOut (s : State) (d id : Nat) : State :=
  let c := chOfDie d
  let s := s.modChan c fun x => { x with busy := none, polled := false }
  match (s.die d).reads.find? (·.req.id = id) with
  | none => s.pumpChannel c
  | some run => ((((s.openRun run.req).frameIn d run.nextFrame).frameOut d run).decoders).pumpChannel c

/-! ### The girth engine finishes a frame (R114, R187, R198) -/

/-- A rebuilt frame names another unit: code 0x0504 with both unit indices, the unit is set UNC, and the read fails (R114). -/
def State.misplaced (s : State) (q : ReadReq) (info : Nat) : State :=
  let wanted := match q.use with | .unit t => s.job t | .copy t => s.job t | _ => none
  let s := s.leave 0x0504 3 [q.gran, (wanted.map (·.unit)).getD 0, (frameDesc info (granuleOf q.gran)).lba]
  let s := match wanted with
    | some j => { s.setUnc j.nsx j.unit with girth := { (s.setUnc j.nsx j.unit).girth with uncUnits := satAdd 32 (s.setUnc j.nsx j.unit).girth.uncUnits 1 } }
    | none => s
  s.readLost q

/-- Bytes 0 to 4,287 of the target of a reconstruction, solved from the frames of the other members; absent members are taken as zero (R186, R187). -/
def State.solved (s : State) (r : Recon) : Nat :=
  let set := s.setRec r.set
  let data := dataPositions set.w r.wl
  let frame (p : Nat) : Nat := s.frameInfo (s.coGran r.set p r.req.gran)
  let zero := set.zeroAt r.wl
  let known := data.zipIdx.filterMap fun (p, j) => if r.unknown.contains p ∨ zero.contains p then none else some (j, frame p)
  let x := set.posOf (s.img.blkOf r.req.gran)
  let place (p : Nat) : Nat := (data.findIdx? (· = p)).getD 0
  let other := (r.unknown.find? fun p => decide (p ≠ x) && data.contains p).map place
  solveMember (place x) other (!r.unknown.contains (pPos set.w r.wl)) (frame (pPos set.w r.wl) ^^^ parityP known) (frame (qPos set.w r.wl) ^^^ parityQ known)

/-- RECONSTRUCT_DONE: the frame is solved and passes the check of R114, or is unrecoverable; a frame that differs from what was programmed is caught by
that check (DEDUCED, log 14). -/
def State.rebuilt (s : State) (n : Nat) : State :=
  match Table.find s.girth.recons n with
  | none => s
  | some r =>
    if !r.engine then s
    else
      let q := r.req
      let info := s.solved r
      let s := (s.dropRecon n).giveEngines
      if s.frameOk q info && decide (info = s.frameInfo (q.gran / 8 * 8)) then
        let s : State := { s with girth := { s.girth with degradedReads := satAdd 32 s.girth.degradedReads 1 } }
        let s := (s.count1 0x071).leave 0x0803 1 [q.gran, r.unknown.length]
        let s : State := match q.use with
          | .unit t => { s with fe := { s.fe with jobs := Table.modify s.fe.jobs t fun j => { j with rechecked := true } } }
          | .copy t => { s with fe := { s.fe with jobs := Table.modify s.fe.jobs t fun j => { j with rechecked := true } } }
          | _ => s
        s.frameGood q
      else s.misplaced q info

end Sys2Proof.Machine
end

