-- ==== Sys2Proof/Machine/Hold.lean ====
section
/-! DEFINITION. The blocks of the hold sets (09_write_buffer_and_power_loss R220): taken, erased in fast-cell mode, replaced, and named in
the hold list. -/
namespace Sys2Proof.Machine

/-- A block goes through R171 steps 3 to 6 in fast-cell mode on its way to HELD: its erase intent goes to the ledger. -/
def State.holdErase (s : State) (b : Nat) : State := (s.modBlk b fun r => { r with intent := true }).ledger (.eraseIntent b true) true

/-- Take a block of a die's free pool for a hold set; it is erased in fast-cell mode. -/
def State.takeHold (s : State) (die : Nat) : Option (Nat × State) :=
  match s.takeBlock die true false with
  | none => none
  | some (b, _, s) =>
    some (b, (s.modBlk b fun r => { r with mode := .eraseWait, toHeld := true, wantFc := true, walked := true }).holdErase b)

/-- A hold block that is lost to its set: retired, or its die isolated. -/
def State.holdLost (s : State) (b : Nat) : Bool := decide ((s.blkRec b).mode = .retired) || !s.dieServes (dieOfBlk b)

/-- A set with its lost blocks replaced from the same dies' pools, where a die still serves. -/
def State.mendHold (s : State) : List Nat → List Nat × State
  | [] => ([], s)
  | b :: bs =>
    if s.holdLost b then
      match (if s.dieServes (dieOfBlk b) then s.takeHold (dieOfBlk b) else none) with
      | some (b', s) => let (r, s) := State.mendHold s bs; (b' :: r, s)
      | none => State.mendHold s bs
    else let (r, s) := State.mendHold s bs; (b :: r, s)

/-- Every block of both sets is HELD, or waits for the erase of a consumed dump. -/
def State.holdReady (s : State) : Bool := (s.dump.holdA ++ s.dump.holdB).all fun b => decide ((s.blkRec b).mode = .held)

/-- Entries of the hold list: BLK_ID and set (R413). -/
def DumpState.holdEntries (d : DumpState) : List (Nat × Nat) := (d.holdA.map fun b => (b, 0)) ++ d.holdB.map fun b => (b, 1)

/-- Replace lost hold blocks; a changed list is written once its blocks are HELD, and a HOLD record follows it (R220). -/
def State.holdCheck (s : State) : State :=
  let s : State :=
    if (s.dump.holdA ++ s.dump.holdB).any s.holdLost then
      let (a, s) := s.mendHold s.dump.holdA
      let (b, s) := s.mendHold s.dump.holdB
      { s with dump := { s.dump with holdA := a, holdB := b, holdDue := true } }
    else s
  if s.dump.holdDue ∧ s.holdReady then
    let n := s.dump.holdSerial + 1
    let s : State := { s with dump := { s.dump with holdDue := false, holdSerial := n } }
    s.writeRec .hold (.holdList n s.dump.holdEntries)
  else s

/-- A HOLD record naming the set that is to be active (R225). -/
def State.writeHold (s : State) : State :=
  let set := match s.dump.active with | some b => b | none => s.dump.holdTarget.getD false
  s.writeRec .dumpAnchor (.dumpAnchor 1 (bit set) s.dump.holdSerial ((s.channelsInService.map fun c => 2 ^ c).sum) (s.wheel.wt % 2 ^ 48))

end Sys2Proof.Machine
end

