-- ==== Sys2Proof/Machine/Purge.lean ====
section
/-! DEFINITION. Erasing every block that holds data of namespaces: the part of Format NVM and Sanitize that goes on after their commands
have begun (11_commands R262, 06_map R152, 07_reclaim_and_wear R176, 17_observability R405). -/
namespace Sys2Proof.Machine

/-- The unit a payload holds belongs to a namespace that `p` takes. -/
def Payload.ofSpace (x : Payload) (p : Nat → Bool) : Bool := match x.unit with | some d => p d.nsx | none => false

/-- Blocks with programmed or placed units of such namespaces, each once. -/
def State.spaceBlocks (s : State) (p : Nat → Bool) : List Nat :=
  let media := (s.media.items.filter fun (_, x) => x.ofSpace p).map fun (g, _) => s.img.blkOf g
  let girths := s.girth.girths.flatMap fun (_, g) => (g.placed.filter fun x => x.payload.ofSpace p).map fun x => s.img.blkOf x.gaddr
  ((media ++ girths).eraseDups).filter fun b => decide ((s.blkRec b).mode ≠ .retired) && s.dieServes (dieOfBlk b)

/-- Every block of streams 0 to 5 that has been programmed since its last erase. -/
def State.dataBlocks (s : State) : List Nat :=
  (s.blk.recs.filter fun (b, r) => decide (0 < r.programmed) && decide (r.stream ≤ 5) && decide (r.mode ≠ .retired) && decide (r.mode ≠ .held) &&
    s.dieServes (dieOfBlk b)).map (·.1)

/-- The namespaces' data leaves the placement lists, and the sets that hold it take no further girth (DESIGN CHOICE, log 45). -/
def State.dropPlacement (s : State) (p : Nat → Bool) (blocks : List Nat) : State :=
  let s : State := { s with girth := { s.girth with streams := s.girth.streams.map fun x => { x with list := x.list.filter fun y => !y.ofSpace p } } }
  ((blocks.filterMap s.setOfBlk).eraseDups).foldl (fun s k => s.endSetNow k 0) s

/-- A block of the list is still to be erased. -/
def State.eraseLeft (s : State) (b : Nat) : Bool := decide ((s.blkRec b).programmed ≠ 0) && decide ((s.blkRec b).mode ≠ .retired) && s.dieServes (dieOfBlk b)
/-- Its blocks that have closed go to reclaim as forced victims. -/
def State.eraseForce (s : State) (blocks : List Nat) : State :=
  (blocks.filter fun b => decide ((s.blkRec b).mode = .closed)).foldl (fun s b => s.force b 3) s

/-- U0 is taken again when a completed Format or Sanitize has erased every block (R176). -/
def State.resetU0 (s : State) : State :=
  if s.blk.recs.all fun (_, r) => decide (r.programmed = 0) || decide (5 < r.stream) || decide (r.mode = .retired) || decide (r.mode = .held) then
    ({ s with blk := { s.blk with u0 := some s.usable } } : State).writeRec .optionLog (.optU0 s.usable)
  else s

/-- The erases of these key slots have ended. -/
def State.slotsErased (s : State) (slots : List Nat) : Bool := s.cipher.erasing.all fun e => !slots.contains e.slot

/-- Every unit of a namespace is unmapped, and leaves the LBA Status log. -/
def State.unmapSpace (s : State) (nsx : Nat) : State :=
  let s := s.returnSpace nsx
  { s with fe := { s.fe with lbaStatus := s.fe.lbaStatus.filter fun u => u / 2 ^ 38 ≠ nsx } }
/-- The namespaces of a key slot are unmapped once the slot has been erased (R312). -/
def State.unmapSlot (s : State) (slot : Nat) : State :=
  ((s.fe.spaces.filter fun (_, n) => n.slot = slot).map fun (_, n) => n.nsx).foldl State.unmapSpace s

/-- One format in progress: it completes when its blocks are erased and its slots derived again. -/
def State.stepFormat (s : State) (r : FormatRun) : State :=
  let left := r.blocks.filter s.eraseLeft
  if left = [] ∧ s.slotsErased r.slots then
    let s : State := { s with fe := { s.fe with formats := s.fe.formats.filter (·.tag ≠ r.tag) } }
    (if r.crypto then r.slots.foldl State.unmapSlot s else s.resetU0).finish r.tag ok
  else
    ({ s with fe := { s.fe with formats := s.fe.formats.map fun x => if x.tag = r.tag then { x with blocks := left } else x } } : State).eraseForce left

/-- A completed Sanitize ends every open secure-discard job with STATE 4 and the same event; END_WT is the WT of that end (R152; DESIGN CHOICE, log 88). -/
def State.endJobs (s : State) : State :=
  s.map.jobs.foldl (fun s j =>
    if j.isOpen then
      (((s.modJob j.job fun j => { j with state := 4, endWt := s.wheel.wt }).rootRec (.jobState j.job 4 s.wheel.wt)).vendorEvent 0x03 0xC5)
    else s) s

/-- The persistence region is cleared (R405). -/
def State.clearPersisted (s : State) : State :=
  let sectors := (s.ts.ring .persistence).map (·.sector)
  { s with ts := { s.ts with queue := s.ts.queue ++ sectors.map fun x => ⟨Region.cls .persistence, .erase x 0⟩ } }

/-- The sanitize in progress: it ends when its blocks are erased, or its slots derived again; a block retired on the way fails it. SSTAT takes
NVMe's values 1 completed and 3 failed, and the completion raises NVMe's event (log 7). -/
def State.stepSanitize (s : State) : State :=
  match s.fe.sanitize with
  | none => s
  | some r =>
    let left := if r.crypto then (if s.slotsErased r.left then [] else r.left) else r.left.filter s.eraseLeft
    let failed := r.failed || (!r.crypto && r.left.any fun b => decide ((s.blkRec b).programmed ≠ 0) && !s.eraseLeft b)
    if left = [] then
      let s : State := { s with fe := { s.fe with sanitize := none, sanitizeStatus := if failed then 3 else 1, sanitizeFailed := failed } }
      let s := if failed then s else ((if r.crypto then (s.fe.spaces.map fun (_, n) => n.nsx).foldl State.unmapSpace s else s.resetU0).endJobs).clearPersisted
      s.event { type := 6, info := 1, page := 0x81 }
    else
      ({ s with fe := { s.fe with sanitize := some { r with left := left, failed := failed } } } : State).eraseForce (if r.crypto then [] else left)

/-- What the erases of formats and of a sanitize make possible. -/
def State.stepErases (s : State) : State := (s.fe.formats.foldl State.stepFormat s).stepSanitize

/-! ### Ends that wait for more than units (06_map R149, 11_commands R266, 13_skiver R335) -/

/-- One such command: its end, once its units and what it waits for have ended. -/
def State.lateEnd (s : State) (tag : Nat) (e : LateEnd) : State :=
  let gone : State := { s with fe := { s.fe with late := Table.del s.fe.late tag } }
  match s.cmd tag with
  | none => gone
  | some c =>
    if c.result.isSome then gone
    else if c.units ≠ [] then s
    else
      match e with
      | .discard nsx ranges =>
        match s.jobSlot with
        | some n => (gone.openJob n nsx ranges).finish tag (okDw0 (n + 65536 * s.map.nextSerial))
        | none => gone.finish tag (stat 0 0x21)
      | .handles gs => if gs.any fun g => (Table.find s.girth.girths g).isSome then s else gone.finish tag ok
      | .stream ctx r keep => (if keep then gone else { gone with skv := { gone.skv with ctxs := Table.del gone.skv.ctxs ctx } }).finish tag r
/-- Every such command. -/
def State.stepLate (s : State) : State := s.fe.late.foldl (fun s (t, e) => s.lateEnd t e) s

end Sys2Proof.Machine
end

