-- ==== Sys2Proof/Machine/Settle.lean ====
section
/-! DEFINITION. What a step makes possible and the block does at once: map changes whose segments are there, waiting units, requests to
free engines, placement, reads and work that reach their dies, saturated counters' records, completions and array operations. -/
namespace Sys2Proof.Machine

/-- A unit that reaches its turn in admission and finds its bucket full begins a wait, and each wait counts once (R135). -/
def State.bucketWaits (s : State) : State :=
  (s.fe.jobs.filter fun (t, j) => decide (j.stage = .admission) && decide (j.kind = .write) && !j.told && !s.earlierWrite t j && (s.map.wbiPlace j.nsx j.unit).isNone).foldl
    (fun s (t, j) => (s.setJob t { j with told := true }).count1 0x050) s

/-- The map and flash engines work: restart has reached this step, and neither a dump, a hold on reset nor fault stop has stopped them (R219,
R226, R229, R451) (DEDUCED, log 63). -/
def State.engines (s : State) (step : Nat) : Bool :=
  decide (step ≤ s.dump.step) && s.dump.run.isNone && !s.dump.since && !s.dump.inReset && s.fault.stop.isNone

/-- The map side, from admission on: closed girths' changes, waiting jobs, values, placement, victims. -/
def State.settleUnits (s : State) : State :=
  if s.engines 8 then s.applyClosing.stepMarks.sweeps.stepJobs.stepValues.place.settleBlocks.sweepBuffer.bucketWaits.stepErases.stepLate else s
/-- The hold sets, from step 7 of restart on. -/
def State.settleMap (s : State) : State := let s := s.settleUnits; if s.engines 7 then s.holdCheck else s

/-- The flash side: queues take from their lists, dies out of service answer, heads start, channels move. -/
def State.settleFlash (s : State) : State :=
  if s.engines 7 then ((s.drainDead.fillDies.dispatchAll).decoders.giveEngines.pumpPairs).pumpChannels.sendCa else s

/-- Everything a step makes possible. -/
def State.settle (s : State) : State := (s.settleMap.settleFlash.leaveSaturations.postAll).arrayPump

/-- What a step on the front end or an engine without flash work makes possible. -/
def State.settleFront (s : State) : State := (s.leaveSaturations.postAll).arrayPump

end Sys2Proof.Machine
end

