-- ==== Sys2Proof/Machine/WritePath.lean ====
section
/-! DEFINITION. The write path's steps (01_architecture R14, R15, 06_map R132, R135, 09 R209 to R211, 12_cipher R298 to R302, R313,
13_skiver R323 to R325): skiver, cipher and admission of one unit. -/
namespace Sys2Proof.Machine

/-! ### The skiver (R323, R324) -/

/-- PAD_MODE of a unit's namespace. -/
def State.padMode (s : State) (nsx : Nat) : Nat := ((s.spaceOf nsx).map (·.padMode)).getD 0

/-- A unit is stored raw, and counted. -/
def State.storeRaw (s : State) (t : Nat) (j : UnitJob) : State :=
  ((s.count1 0x090).setJob t { j with stored := padTo 4096 j.data, desc := { j.desc with raw := true, glen := 8 } }).askEncrypt t

/-- An engine leaves service: code 0x0D02 with its kind (0 compressor, 1 decompressor), and what follows the last one (R337, R338). -/
def State.skiverLost (s : State) (kind engine : Nat) : State :=
  if kind = 0 then
    let s : State := { s with skv := { s.skv with comps := s.skv.comps.filter (· ≠ engine) } }
    let s := s.leave 0x0D02 3 [0, engine]
    if s.skv.comps = [] then s.leave 0x0D06 3 [] else s
  else
    let s : State := { s with skv := { s.skv with decomps := s.skv.decomps.filter (· ≠ engine) } }
    let s := s.leave 0x0D02 3 [1, engine]
    if s.skv.decomps = [] then s.leave 0x0D07 4 [] else s

/-- A compressor's check decoder disagrees. -/
def State.compMismatch (s : State) (engine : Nat) : State :=
  let n := Table.getD s.skv.compMiss engine 0 + 1
  let s := (s.leave 0x0D01 1 [engine]).count1 0x091
  let s : State := { s with skv := { s.skv with compMiss := Table.set s.skv.compMiss engine n } }
  if 4 ≤ n then s.skiverLost 0 engine else s

/-- SKIVER_UNIT_DONE (R299, R323, R324): the unit is coded and padded, or stored raw, and goes to the cipher engine. -/
def State.skiverUnit (s : State) (t engine : Nat) (checkOk : Bool) (j : UnitJob) : State :=
  let out := encodeInline j.data
  let inline := s.skv.cfg.inlineEn && decide (s.skv.comps ≠ [])
  let (glen, raw) := unitLength (s.padMode j.nsx) inline out.length
  if raw then s.storeRaw t j
  else if checkOk then (s.setJob t { j with stored := padTo (glen * 512) out, desc := { j.desc with raw := false, glen := glen } }).askEncrypt t
  else (s.compMismatch engine).storeRaw t j

def execSkiverUnitDone (unit engine : Nat) (checkOk : Bool) (s : State) : Host.Outcome State Fault Refusal :=
  match s.job unit with
  | some j =>
    if j.stage = .skiver ∧ j.kind = .write ∧ (s.skv.comps.contains engine ∨ s.skv.comps = []) then .next (s.skiverUnit unit engine checkOk j).settle else .next s
  | none => .next s

/-! ### The cipher engine (R298 to R301, R313) -/

/-- A unit's plain stored bytes have been released by the engine: RAW ones as they are, others through a decompressor (R325). -/
def State.plainUnit (s : State) (t : Nat) (j : UnitJob) (plain : List Byte) : State :=
  if j.desc.raw then s.unitData t (plain.take 4096) true
  else
    match decodeInline plain with
    | some data => s.unitData t data true
    | none =>
      let gran := match j.slot with | some g => g | none => j.entry.gaddr
      let s := (s.leave 0x0D03 3 [gran]).setUnc j.nsx j.unit
      let s : State := { s with girth := { s.girth with uncUnits := satAdd 32 s.girth.uncUnits 1 } }
      s.jobFails t (stat 2 0x81)

/-- The end of a request whose outputs agree. -/
def State.cipherEnds (s : State) (w : CipherWork) (keys : KeySet) : State :=
  match w with
  | .encrypt t =>
    match s.job t with
    | some j =>
      let (ct, tag) := sealUnit keys j.desc j.stored
      s.setJob t { j with stored := ct, desc := { j.desc with tag := tag }, stage := .admission }
    | none => s
  | .decrypt t =>
    match s.job t with
    | some j =>
      if tagAgrees keys j.desc j.stored then
        let plain := openUnit keys j.desc j.stored
        if j.kind = .copy then (s.setJob t { j with stored := plain }).askEncrypt t else s.plainUnit t j plain
      else s.checkFailed t j
    | none => s
  | .rekey t =>
    match s.job t with
    | some j =>
      let (ct, tag) := sealUnit keys j.desc j.stored
      (s.dropJob t).queuePayload j.stream (.copy j.entry.gaddr { j.desc with tag := tag } j.tagRec j.entry ct)
    | none => s
  | .check t =>
    match s.job t with
    | some j => if tagAgrees keys j.desc j.stored then s.copyOut t j else s.checkFailed t { j with slot := none }
    | none => s
  | .mac g => s.macEnds g keys

/-- A request that mismatched on two pairs fails (R313). -/
def State.cipherFails (s : State) (w : CipherWork) : State :=
  let s : State := { s with fault := { s.fault with made := s.fault.made ++ [(0x0C0C, 3)] } }
  match w with
  | .encrypt t => s.jobFails t (stat 0 0x06)
  | .decrypt t => s.jobFails t (stat 2 0x81)
  | .rekey t => s.jobFails t (stat 0 0x06)
  | .check t => s.jobFails t (stat 0 0x06)
  | .mac g => s.finish g (stat 0 0x06)

/-- A pair leaves service: severity 3; with none left, severity 4 with code 0x0C10 (R313). -/
def State.pairLost (s : State) (pair : Nat) : State :=
  let s : State := { s with cipher := { s.cipher with pairs := s.cipher.pairs.filter (· ≠ pair) },
                            fault := { s.fault with made := s.fault.made ++ [(0x0C0C, 3)] } }
  if s.cipher.pairs = [] then s.leave 0x0C10 4 [] else s

/-- The two cores of a pair differ. -/
def State.pairMismatch (s : State) (n pair : Nat) (r : CipherReq) : State :=
  let miss := natAt s.cipher.pairMiss pair + 1
  let s := s.leave 0x0C0C 2 [pair]
  let s : State := { s with cipher := { s.cipher with pairMiss := updAt s.cipher.pairMiss pair (· + 1) } }
  let s := if miss = 4 then s.pairLost pair else s
  if 1 ≤ r.mismatches.length then
    ({ s with cipher := { s.cipher with reqs := Table.del s.cipher.reqs n } } : State).cipherFails r.work
  else { s with cipher := { s.cipher with reqs := Table.set s.cipher.reqs n { r with pair := none, mismatches := r.mismatches ++ [pair] } } }

/-! ### Admission (R15, R132, R135, R155, R209, R210) -/

/-- GLEN of a unit's present index entry. -/
def State.oldGlen (s : State) (nsx unit : Nat) : Nat := match s.map.wbiFind nsx unit with | some (_, _, l) => l | none => 0

/-- Effective window in granules. -/
def State.windowGran (s : State) : Nat := s.wb.effMib * 2048

/-- The dirty window takes the unit. -/
def State.windowTakes (s : State) (j : UnitJob) : Bool :=
  decide (s.wb.dirty ≤ s.windowGran) && decide (s.wb.dirty - s.oldGlen j.nsx j.unit + j.desc.glen ≤ s.windowGran)

/-- The chains of the unit's allocated segments have room. -/
def State.chainTakes (s : State) (j : UnitJob) : Bool :=
  [false, true].all fun tag => match s.segOf j.nsx tag j.unit with | some g => (s.seg g).mayJournal | none => true

/-- A unit that may pass admission: its turn among writes to the unit, the window, the bucket, the chunk and the journal chain. -/
def State.mayAdmit (s : State) (t : Nat) (j : UnitJob) : Bool :=
  decide (j.stage = .admission) && decide (j.kind = .write) && !s.earlierWrite t j && s.windowTakes j && (s.map.wbiPlace j.nsx j.unit).isSome
    && (s.takeSlot j.stream j.desc.glen).isSome && s.chainTakes j && !s.dump.run.isSome

/-- The segments a unit needs, taken; none when the pool is empty. -/
def State.needSegs (s : State) (nsx unit : Nat) : Bool × State :=
  let (g, s) := s.allocSeg nsx false unit
  if g.isNone then (false, s)
  else if ((s.spaceOf nsx).map (·.hasTags)).getD false then
    let (h, s) := s.allocSeg nsx true unit
    (h.isSome, s)
  else (true, s)

/-- Step 4 of the write path: the unit takes a slot, its index entry is inserted, and placement has it. -/
def State.admitUnit (s : State) (t : Nat) (j : UnitJob) : State :=
  let (have_, s) := s.needSegs j.nsx j.unit
  if !have_ then s.jobFails t (stat 0 0x81)
  else
    match s.takeSlot j.stream j.desc.glen with
    | none => s
    | some (gran, s) =>
      let s := if j.secure then s.markSdp j.nsx j.unit else s
      let w : WbSlot := { desc := j.desc, tags := j.tagRec, data := j.stored, readers := 0 }
      let s : State := { s with wb := { s.wb with slots := Table.set s.wb.slots gran w },
                                fe := { s.fe with hostGran := s.fe.hostGran + ceilDiv j.len 512 } }
      let s := (s.wbiInsert j.nsx j.unit gran j.desc.glen).queuePayload j.stream (.buffered gran j.desc j.tagRec j.stored)
      (s.count1 0x014).endUnit t

/-- UNIT_ADMIT (R15, R132, R135, R209 to R211). -/
def execUnitAdmit (unit : Nat) (s : State) : Host.Outcome State Fault Refusal :=
  match s.job unit with
  | some j => if s.mayAdmit unit j then .next (s.admitUnit unit j).settle else .next s
  | none => .next s

end Sys2Proof.Machine
end

