-- ==== Sys2Proof/Machine/Cipher.lean ====
section
/-! DEFINITION. The cipher engine's commands (12_cipher R286 to R314) and Tack Lease (10_reins R255, R256): core pairs, rewrites, the
operations of feature 0xC6 and Keyed Check. -/
namespace Sys2Proof.Machine

/-! ### Get Features of a 32-byte feature (R267, R268) -/

/-- SEL of Get Features. -/
def getSel (c : Cmd) : Nat := bitField (dw c.entry 10) 8 3
/-- SV of Set Features. -/
def setSv (c : Cmd) : Bool := bitField (dw c.entry 10) 31 1 = 1
/-- Feature identifier of Set and Get Features. -/
def featId (c : Cmd) : Nat := bitField (dw c.entry 10) 0 8

/-- Answer a Get Features with the value its SEL names: 0 current, 1 bareback value, 2 saved; 3 answers the capabilities in DW0; another
SEL is refused (R262). -/
def State.getBuffer (s : State) (tag : Nat) (c : Cmd) (current bareback saved : Nat) (caps : Nat) : State :=
  match getSel c with
  | 0 => s.answer tag (toBytes 32 current)
  | 1 => s.answer tag (toBytes 32 bareback)
  | 2 => s.answer tag (toBytes 32 saved)
  | 3 => s.finish tag (okDw0 caps)
  | _ => s.finish tag invalidField

/-- Capabilities of a feature: saveable, namespace-specific, changeable (log 7). -/
def featCaps (saveable perSpace changeable : Bool) : Nat := packFields [fld 0 1 (bit saveable), fld 1 1 (bit perSpace), fld 2 1 (bit changeable)]

/-! ### Cipher policy operations (R291) -/

/-- Fields of CDW11 of feature 0xC6. -/
def cipherOp (c : Cmd) : Nat := bitField (dw c.entry 11) 0 4
def cipherPart (c : Cmd) : Nat := bitField (dw c.entry 11) 4 2
def cipherSlot (c : Cmd) : Nat := bitField (dw c.entry 11) 16 13
/-- The other bits of CDW11 are 0. -/
def cipherClean (c : Cmd) : Bool := decide (bitField (dw c.entry 11) 6 10 = 0) && decide (bitField (dw c.entry 11) 29 3 = 0)

/-- A Set or Get Features of 0xC6 with an operation. -/
def isCipherOp (op : Nat) (c : Cmd) : Bool := decide (featId c = 0xC6) && decide (cipherOp c = op)

/-- Run an operation whose CDW11 is well formed and whose SLOT is in a range. -/
def State.cipherCmd (s : State) (tag : Nat) (c : Cmd) (slotOk : Bool) (f : State) : State :=
  if cipherClean c && slotOk then f else s.finish tag invalidField

/-- CIPHER_NS of a namespace (R292). -/
def State.cipherNs (s : State) (n : Namespace) : Nat :=
  let k := s.keySlot n.slot
  packFields [fld 0 13 n.slot, fld 14 2 n.padMode, fld 16 1 (bit k.kgen), fld 17 1 (bit k.sweep), fld 32 32 k.gen, fld 64 48 k.counter]

/-- CIPHER_SLOT of a slot (R294). -/
def State.cipherSlotStatus (s : State) (n : Nat) : Nat :=
  let k := s.keySlot n
  let b := s.boundTo n
  let inFlight := (s.cipher.reqs.filter fun (_, r) => r.slot = n).length
  packFields [fld 0 2 k.kind, fld 2 3 (if k.kind = 0 then 0 else k.purpose), fld 5 1 (bit k.pending), fld 6 1 (bit k.revoking), fld 7 1 (bit b.isSome),
    fld 8 10 ((b.map (·.nsx)).getD 0), fld 18 1 (bit k.previous.isSome), fld 32 32 k.sgen, fld 64 32 k.gen, fld 96 48 k.counter, fld 144 49 k.resTop,
    fld 224 32 inFlight]

/-- Set BIND (R293). -/
def State.bindSet (s : State) (tag : Nat) (c : Cmd) (buf : Nat) : State :=
  let nsid := sqeNsid c.entry
  match Table.find s.fe.spaces nsid with
  | none => s.finish tag (stat 0 0x0B)
  | some n =>
    let slot := bitField buf 0 13
    let pad := bitField buf 14 2
    let k := s.keySlot slot
    if s.holdsMapped n.nsx ∨ (s.keySlot n.slot).sweep then s.finish tag sequenceError
    else if pad = 3 ∨ k.kind = 0 ∨ k.purpose ≠ 1 ∨ (s.fe.spaces.any fun (i, m) => decide (i ≠ nsid) && decide (m.slot = slot)) then s.finish tag invalidField
    else ({ s with fe := { s.fe with spaces := Table.set s.fe.spaces nsid { n with slot := slot, padMode := pad } } } : State).finish tag ok

/-- A blob is refused: its reason, code 0x0C0D (R295). -/
def State.blobRefused (s : State) (tag slot reason : Nat) : State := (s.leave 0x0C0D 2 [slot, reason]).finish tag { invalidField with dw0 := reason }

/-- A whole blob: its checks and its installation (R290, R295, R309, R310). -/
def State.blobWhole (s : State) (tag slot : Nat) (blob : List Byte) : State :=
  match s.checkBlob slot blob with
  | .inl reason => s.blobRefused tag slot reason
  | .inr ks =>
    if slot = 0x1FFF then
      if s.rootHeld then s.finish tag sequenceError
      else ((s.setRoot (some ks.k1)).writeRec .keyStore (.keyRoot blob)).finish tag ok
    else
      let k := s.keySlot slot
      let bound := (s.boundTo slot).isSome
      if k.pending ∨ k.revoking then s.finish tag sequenceError
      else if bound ∧ k.kind = 2 then
        if k.sweep ∨ k.rolling then s.finish tag sequenceError
        else if blobPurpose blob ≠ 1 then s.blobRefused tag slot 1
        else (s.rollKeys slot ks blob).finish tag ok
      else s.pendKeys slot ks blob tag

/-- One part of a blob (R296). -/
def State.blobPart (s : State) (tag : Nat) (c : Cmd) (buf : Nat) : State :=
  let slot := cipherSlot c
  let p := cipherPart c
  let bytes := toBytes 32 buf
  let before := match Table.find s.cipher.blobs c.ctrl with
    | some b => if b.slot = slot then b.parts else []
    | none => []
  if p ≠ 0 ∧ before.length ≠ p then s.finish tag sequenceError
  else
    let parts := if p = 0 then [bytes] else before ++ [bytes]
    if p = 3 then
      let s : State := { s with cipher := { s.cipher with blobs := Table.del s.cipher.blobs c.ctrl } }
      s.blobWhole tag slot parts.flatten
    else
      ({ s with cipher := { s.cipher with blobs := Table.set s.cipher.blobs c.ctrl { slot := slot, parts := parts } } } : State).finish tag ok

/-- OP 3, LABEL (R288, R310). -/
def State.labelSet (s : State) (tag slot : Nat) (l : BitVec 256) : State :=
  let k := s.keySlot slot
  let held : Bool := match s.boundTo slot with | some n => s.holdsMapped n.nsx | none => false
  if !labelOk l slot then s.finish tag invalidField
  else if held ∨ k.pending ∨ k.revoking then s.finish tag sequenceError
  else if k.kind = 0 then (s.labelEmpty slot l).finish tag ok
  else
    let (salt, s) := s.drawSalt
    s.pendLabel slot (withSalt l salt) tag

/-- OP 2, ERASE (R311). -/
def State.eraseSlot (s : State) (tag slot : Nat) : State :=
  let k := s.keySlot slot
  if k.revoking then
    { s with cipher := { s.cipher with erasing := s.cipher.erasing.map fun e => if e.slot = slot then { e with tags := e.tags ++ [tag] } else e } }
  else if k.kind = 0 ∧ !((s.ts.records .keyStore).any fun r => r.ofSlot slot) then s.finish tag ok
  else s.revoke slot [tag] none

/-- CIPHER_REQUEST_DONE (R313): a core pair finishes its request with both outputs compared. -/
def execCipherRequestDone (request pair : Nat) (outputsMatch : Bool) (s : State) : Host.Outcome State Fault Refusal :=
  match Table.find s.cipher.reqs request with
  | some r =>
    match r.keys with
    | some keys =>
      if r.pair = some pair then
        if outputsMatch then
          let s : State := { s with cipher := { s.cipher with reqs := Table.del s.cipher.reqs request } }
          .next (s.cipherEnds r.work keys).settle.leasesDue
        else .next (s.pairMismatch request pair r).settle
      else .next s
    | none => .next s
  | none => .next s

/-- SLOT_REWRITE_INSTALL (R310): no old-SGEN request holds a slot with PENDING set. -/
def execSlotRewriteInstall (slot : Nat) (s : State) : Host.Outcome State Fault Refusal :=
  if (s.keySlot slot).pending && s.slotQuiet slot then .next (s.installPending slot).settle else .next s

/-- CIPHER_BIND_SET (R293). -/
def execCipherBindSet (tag : Nat) (buf : BitVec 256) (s : State) : Host.Outcome State Fault Refusal :=
  .next (s.begin tag true 0x09 (isCipherOp 0) fun s c => s.cipherCmd tag c true (s.bindSet tag c buf.toNat))

/-- The binding of the namespace that the command names. -/
def State.bindGet (s : State) (tag : Nat) (c : Cmd) : State :=
  match Table.find s.fe.spaces (sqeNsid c.entry) with
  | some n => s.getBuffer tag c (s.cipherNs n) n.nsx (s.cipherNs n) (featCaps true true true)
  | none => s.finish tag (stat 0 0x0B)

/-- CIPHER_BIND_GET (R292). -/
def execCipherBindGet (tag : Nat) (s : State) : Host.Outcome State Fault Refusal :=
  .next (s.begin tag true 0x0A (isCipherOp 0) fun s c => s.cipherCmd tag c true (s.bindGet tag c))

/-- CIPHER_BLOB_PART (R296). -/
def execCipherBlobPart (tag : Nat) (buf : BitVec 256) (s : State) : Host.Outcome State Fault Refusal :=
  .next (s.begin tag true 0x09 (isCipherOp 1) fun s c => s.cipherCmd tag c true (s.blobPart tag c buf.toNat))

/-- CIPHER_ERASE (R311). -/
def execCipherErase (tag : Nat) (s : State) : Host.Outcome State Fault Refusal :=
  .next (s.begin tag true 0x09 (isCipherOp 2) fun s c => s.cipherCmd tag c (decide (cipherSlot c < 4160)) (s.eraseSlot tag (cipherSlot c)))

/-- CIPHER_LABEL (R310). -/
def execCipherLabel (tag : Nat) (buf : BitVec 256) (s : State) : Host.Outcome State Fault Refusal :=
  .next (s.begin tag true 0x09 (isCipherOp 3) fun s c => s.cipherCmd tag c true (s.labelSet tag (cipherSlot c) buf))

/-- CIPHER_STATUS (R294). -/
def execCipherStatus (tag : Nat) (s : State) : Host.Outcome State Fault Refusal :=
  .next (s.begin tag true 0x0A (isCipherOp 4) fun s c =>
    let v := s.cipherSlotStatus (cipherSlot c)
    s.cipherCmd tag c (decide (cipherSlot c < 4160)) (s.getBuffer tag c v 0 v (featCaps true false true)))

/-! ### Keyed Check (R314) -/

/-- The command's own checks, in order, and its request in the engine. -/
def State.keyedCheck (s : State) (tag : Nat) (c : Cmd) (data : List Byte) : State :=
  let slot := bitField (dw c.entry 10) 0 13
  let len := dw c.entry 11
  let k := s.keySlot slot
  if len = 0 then s.finish tag invalidField
  else if k.kind = 0 ∨ k.revoking then s.finish tag (stat 7 0xC3)
  else if k.purpose ≠ 3 then s.finish tag invalidField
  else if k.kind = 1 ∧ labelLimit k.label ≠ 0 ∧ labelLimit k.label * 1024 < len then s.finish tag (stat 7 0xC8)
  else ((s.modCmd tag fun c => { c with input := data.take len }).cipherAsk (.mac tag) slot k.current false).pumpPairs

/-- KEYED_CHECK_COMPUTE (R314). -/
def execKeyedCheckCompute (tag : Nat) (data : List Byte) (s : State) : Host.Outcome State Fault Refusal :=
  .next (s.begin tag false 0x85 (fun c => bitField (dw c.entry 10) 15 1 = 0) fun s c => s.keyedCheck tag c data)

/-- KEYED_CHECK_VERIFY (R314). -/
def execKeyedCheckVerify (tag : Nat) (data : List Byte) (s : State) : Host.Outcome State Fault Refusal :=
  .next (s.begin tag false 0x85 (fun c => bitField (dw c.entry 10) 15 1 = 1) fun s c => s.keyedCheck tag c data)

/-! ### Tack Lease (R255, R256) -/

/-- Check 1, then the packet's MAC is asked of the engine; a slot that is empty or serves another purpose fails check 2 (R287). -/
def State.tackLease (s : State) (tag : Nat) (packet : BitVec 512) : State :=
  let slot := s.rein.twin.slot
  let k := s.keySlot slot
  if !pktWell packet then s.finish tag invalidField
  else if k.kind = 0 ∨ k.revoking ∨ k.purpose ≠ 2 then s.leasePacket tag packet false
  else ((s.modCmd tag fun c => { c with input := toBytes 64 packet.toNat }).cipherAsk (.mac tag) slot k.current false).pumpPairs

/-- TACK_LEASE (R256). -/
def execTackLease (tag : Nat) (packet : BitVec 512) (s : State) : Host.Outcome State Fault Refusal :=
  .next (s.begin tag true 0xC1 (fun _ => true) fun s _ => s.tackLease tag packet)

end Sys2Proof.Machine
end

