-- ==== Sys2Proof/Machine/FeatureMaps.lean ====
section
/-! DEFINITION. The field maps of the vendor features 0xC0 to 0xC5: each map's number from State, and the settings a 32-byte buffer
carries with the ranges they must lie in (02_wheel R34, R37, 10_reins R242, 16_thermal_and_power R384, 17_observability R393,
09_write_buffer_and_power_loss R212, 13_skiver R327). Reserved and read-only bits of a buffer are ignored (R8). -/
namespace Sys2Proof.Machine

/-! ### WHEEL_CFG (R37) -/

/-- The settings a WHEEL_CFG buffer carries. -/
def wheelCfgOf (b : Nat) : WheelCfg :=
  { source := bitField b 0 3, failover := bitField b 3 1 = 1, paceMode := bitField b 4 2, slewMax := bitField b 8 8, toothCycles := bitField b 16 16,
    station := bitField b 32 10, phaseStride := bitField b 48 10, stepThreshold := bitField b 64 10, guardTeeth := bitField b 80 10,
    lockWindow := bitField b 96 16, refSecond := bitField b 128 48 }

/-- Every field in its range, and R34 in 1 pulse per second mode. -/
def WheelCfg.inRange (w : WheelCfg) : Bool :=
  decide (w.source ≤ 3) && decide (w.paceMode ≤ 2) && decide (1 ≤ w.slewMax) && decide (w.slewMax ≤ 200) && decide (500 ≤ w.toothCycles)
    && decide (w.toothCycles ≤ 16000) && decide (1 ≤ w.stepThreshold) && decide (w.stepThreshold ≤ 512) && decide (1 ≤ w.guardTeeth)
    && decide (10 ≤ w.lockWindow) && decide (w.lockWindow ≤ 1000)
    && (!(decide (w.source = 1) && decide (w.paceMode = 0)) || decide (100000000 % w.toothCycles = 0))

/-- WHEEL_CFG as read; REF_ARM reads 0. -/
def WheelCfg.pack (w : WheelCfg) : Nat :=
  packFields [fld 0 3 w.source, fld 3 1 (bit w.failover), fld 4 2 w.paceMode, fld 8 8 w.slewMax, fld 16 16 w.toothCycles, fld 32 10 w.station,
    fld 48 10 w.phaseStride, fld 64 10 w.stepThreshold, fld 80 10 w.guardTeeth, fld 96 16 w.lockWindow, fld 128 48 w.refSecond]

/-- REF_ARM of a buffer. -/
def refArmOf (b : Nat) : Bool := bitField b 176 1 = 1

/-! ### TWIN_CFG (R242) -/

/-- A TWIN_CFG with the settings a buffer carries. -/
def TwinCfg.set (t : TwinCfg) (b : Nat) : TwinCfg :=
  { t with mode := bitField b 0 2, enforce := bitField b 5 1 = 1, slot := bitField b 8 12, lagTeeth := bitField b 32 24 }
def TwinCfg.inRange (t : TwinCfg) : Bool := decide (t.mode ≤ 1) && decide (1024 ≤ t.lagTeeth)
def TwinCfg.pack (t : TwinCfg) : Nat :=
  packFields [fld 0 2 t.mode, fld 2 2 t.inForce, fld 4 1 (bit t.merged), fld 5 1 (bit t.enforce), fld 8 12 t.slot, fld 32 24 t.lagTeeth, fld 64 64 t.epoch]

/-! ### THROTTLE_CFG (R384) -/

/-- GRACE_S and GRACE2_S of a buffer. -/
def graceOf (b : Nat) : Nat × Nat := (bitField b 0 6, bitField b 8 4)
def graceInRange (g : Nat × Nat) : Bool := decide (g.1 ≤ 60) && decide (g.2 ≤ 10)

/-! ### SKIVER_CFG (R327) -/

def skiverCfgOf (b : Nat) : SkiverCfg := { inlineEn := bitField b 0 1 = 1, wcode := bitField b 4 3, resetPct := bitField b 8 8, outMaxKib := bitField b 16 16 }
def SkiverCfg.inRange (c : SkiverCfg) : Bool := decide (50 ≤ c.resetPct) && decide (c.resetPct ≤ 100)
def SkiverState.pack (k : SkiverState) : Nat :=
  packFields [fld 0 1 (bit k.cfg.inlineEn), fld 4 3 k.cfg.wcode, fld 8 8 k.cfg.resetPct, fld 16 16 k.cfg.outMaxKib, fld 32 5 k.ctxs.length,
    fld 40 5 k.comps.length, fld 48 5 k.decomps.length]

/-! ### COUNTER_SEL (R393) -/

/-- The selection a buffer carries: SRC, ENABLE, INST; and its CLEAR bit. -/
def counterOf (b : Nat) : Counter := { src := bitField b 0 9, enable := bitField b 16 1 = 1, inst := bitField b 32 11 }
def counterClearOf (b : Nat) : Bool := bitField b 17 1 = 1
/-- SRC is listed, and INST is 0x7FF or an instance of the source. -/
def Counter.inRange (c : Counter) : Bool :=
  match sourceInstances c.src with
  | some n => decide (c.inst = 0x7FF) || decide (c.inst < n)
  | none => false

/-! ### DIRTY_WIN (R212) -/

/-- DW_MIB of a buffer lies within 64 to 2,048 and is a multiple of 64. -/
def dwOf (b : Nat) : Nat := bitField b 0 16
def dwInRange (d : Nat) : Bool := decide (64 ≤ d) && decide (d ≤ 2048) && decide (d % 64 = 0)

end Sys2Proof.Machine
end

