-- ==== Sys2Proof/Machine/Sha384.lean ====
section
/-! DEFINITION. SHA-384 and the verification of an ECDSA P-384 signature (18_tree_store_and_update R425, 19_tree_image_format), from
their standards, which the spec names and does not repeat (log 6). -/
namespace Sys2Proof.Machine

/-! ### SHA-384 (FIPS 180-4) -/

def shaRound0 : List (BitVec 64) :=
  [0x428a2f98d728ae22#64, 0x7137449123ef65cd#64, 0xb5c0fbcfec4d3b2f#64, 0xe9b5dba58189dbbc#64,
   0x3956c25bf348b538#64, 0x59f111f1b605d019#64, 0x923f82a4af194f9b#64, 0xab1c5ed5da6d8118#64,
   0xd807aa98a3030242#64, 0x12835b0145706fbe#64, 0x243185be4ee4b28c#64, 0x550c7dc3d5ffb4e2#64,
   0x72be5d74f27b896f#64, 0x80deb1fe3b1696b1#64, 0x9bdc06a725c71235#64, 0xc19bf174cf692694#64]
def shaRound1 : List (BitVec 64) :=
  [0xe49b69c19ef14ad2#64, 0xefbe4786384f25e3#64, 0x0fc19dc68b8cd5b5#64, 0x240ca1cc77ac9c65#64,
   0x2de92c6f592b0275#64, 0x4a7484aa6ea6e483#64, 0x5cb0a9dcbd41fbd4#64, 0x76f988da831153b5#64,
   0x983e5152ee66dfab#64, 0xa831c66d2db43210#64, 0xb00327c898fb213f#64, 0xbf597fc7beef0ee4#64,
   0xc6e00bf33da88fc2#64, 0xd5a79147930aa725#64, 0x06ca6351e003826f#64, 0x142929670a0e6e70#64]
def shaRound2 : List (BitVec 64) :=
  [0x27b70a8546d22ffc#64, 0x2e1b21385c26c926#64, 0x4d2c6dfc5ac42aed#64, 0x53380d139d95b3df#64,
   0x650a73548baf63de#64, 0x766a0abb3c77b2a8#64, 0x81c2c92e47edaee6#64, 0x92722c851482353b#64,
   0xa2bfe8a14cf10364#64, 0xa81a664bbc423001#64, 0xc24b8b70d0f89791#64, 0xc76c51a30654be30#64,
   0xd192e819d6ef5218#64, 0xd69906245565a910#64, 0xf40e35855771202a#64, 0x106aa07032bbd1b8#64]
def shaRound3 : List (BitVec 64) :=
  [0x19a4c116b8d2d0c8#64, 0x1e376c085141ab53#64, 0x2748774cdf8eeb99#64, 0x34b0bcb5e19b48a8#64,
   0x391c0cb3c5c95a63#64, 0x4ed8aa4ae3418acb#64, 0x5b9cca4f7763e373#64, 0x682e6ff3d6b2b8a3#64,
   0x748f82ee5defb2fc#64, 0x78a5636f43172f60#64, 0x84c87814a1f0ab72#64, 0x8cc702081a6439ec#64,
   0x90befffa23631e28#64, 0xa4506cebde82bde9#64, 0xbef9a3f7b2c67915#64, 0xc67178f2e372532b#64]
def shaRound4 : List (BitVec 64) :=
  [0xca273eceea26619c#64, 0xd186b8c721c0c207#64, 0xeada7dd6cde0eb1e#64, 0xf57d4f7fee6ed178#64,
   0x06f067aa72176fba#64, 0x0a637dc5a2c898a6#64, 0x113f9804bef90dae#64, 0x1b710b35131c471b#64,
   0x28db77f523047d84#64, 0x32caab7b40c72493#64, 0x3c9ebe0a15c9bebc#64, 0x431d67c49c100d4c#64,
   0x4cc5d4becb3e42b6#64, 0x597f299cfc657e2a#64, 0x5fcb6fab3ad6faec#64, 0x6c44198c4a475817#64]
/-- The 80 round constants. -/
def shaRounds : List (BitVec 64) := shaRound0 ++ shaRound1 ++ shaRound2 ++ shaRound3 ++ shaRound4

/-- The initial hash value. -/
def shaInit : List (BitVec 64) :=
  [0xcbbb9d5dc1059ed8#64, 0x629a292a367cd507#64, 0x9159015a3070dd17#64, 0x152fecd8f70e5939#64,
   0x67332667ffc00b31#64, 0x8eb44a8768581511#64, 0xdb0c2e0d64f98fa7#64, 0x47b5481dbefa4fa4#64]

def shaRot (x : BitVec 64) (n : Nat) : BitVec 64 := x.rotateRight n

/-- Message padding: one bit, zeros, the 128-bit length. -/
def shaPad (msg : List Byte) : List Byte :=
  msg ++ 0x80#8 :: List.replicate ((239 - msg.length % 128) % 128) 0#8 ++ toBytesBE 16 (8 * msg.length)

/-- The 64-bit words of a byte string. -/
def shaWordsAux : (fuel : Nat) → List Byte → List (BitVec 64)
  | 0, _ => []
  | f + 1, bs => if bs = [] then [] else BitVec.ofNat 64 (ofBytesBE (bs.take 8)) :: shaWordsAux f (bs.drop 8)

/-- The next message-schedule word from the last 16, newest first. -/
def shaNext (w : List (BitVec 64)) : BitVec 64 :=
  let x := w.getD 1 0
  let y := w.getD 14 0
  let s1 := shaRot x 19 ^^^ shaRot x 61 ^^^ (x >>> 6)
  let s0 := shaRot y 1 ^^^ shaRot y 8 ^^^ (y >>> 7)
  s1 + w.getD 6 0 + s0 + w.getD 15 0

/-- `n` further words of the schedule, newest first. -/
def shaSchedule : (n : Nat) → List (BitVec 64) → List (BitVec 64)
  | 0, w => w
  | n + 1, w => shaSchedule n (shaNext w :: w)

/-- One round on the eight working variables. -/
def shaRoundStep (v : List (BitVec 64)) (kw : BitVec 64) : List (BitVec 64) :=
  match v with
  | [a, b, c, d, e, f, g, h] =>
    let t1 := h + (shaRot e 14 ^^^ shaRot e 18 ^^^ shaRot e 41) + ((e &&& f) ^^^ (~~~e &&& g)) + kw
    let t2 := (shaRot a 28 ^^^ shaRot a 34 ^^^ shaRot a 39) + ((a &&& b) ^^^ (a &&& c) ^^^ (b &&& c))
    [t1 + t2, a, b, c, d + t1, e, f, g]
  | _ => v

/-- One block of 16 words. -/
def shaBlock (h : List (BitVec 64)) (block : List (BitVec 64)) : List (BitVec 64) :=
  let w := (shaSchedule 64 block.reverse).reverse
  List.zipWith (· + ·) h ((List.zipWith (· + ·) shaRounds w).foldl shaRoundStep h)

def shaBlocks : (fuel : Nat) → List (BitVec 64) → List (BitVec 64) → List (BitVec 64)
  | 0, h, _ => h
  | f + 1, h, ws => if ws = [] then h else shaBlocks f (shaBlock h (ws.take 16)) (ws.drop 16)

/-- The SHA-384 digest of a byte string, 48 bytes. -/
def sha384 (msg : List Byte) : List Byte :=
  let padded := shaPad msg
  let ws := shaWordsAux padded.length padded
  ((shaBlocks ws.length shaInit ws).take 6).flatMap fun x => toBytesBE 8 x.toNat

/-! ### ECDSA P-384 (FIPS 186) -/

def p384P : Nat := 2 ^ 384 - 2 ^ 128 - 2 ^ 96 + 2 ^ 32 - 1
def p384N : Nat := 0xFFFFFFFFFFFFFFFFFFFFFFFFFFFFFFFFFFFFFFFFFFFFFFFFC7634D81F4372DDF581A0DB248B0A77AECEC196ACCC52973
def p384B : Nat := 0xB3312FA7E23EE7E4988E056BE3F82D19181D9C6EFE8141120314088F5013875AC656398D8A2ED19D2A85C8EDD3EC2AEF
def p384Gx : Nat := 0xAA87CA22BE8B05378EB1C71EF320AD746E1D3B628BA79B9859F741E082542A385502F25DBF55296C3A545E3872760AB7
def p384Gy : Nat := 0x3617DE4A96262C6F5D9E98BF9292DC29F8F41DBD289A147CE9DA3113B5F0B8C00A60B1CE1D7E819D7A431D7C90EA0E5F

/-- x^e mod m, over the low `n` bits of `e`. -/
def powMod (m : Nat) : (n x e : Nat) → Nat
  | 0, _, _ => 1 % m
  | n + 1, x, e =>
    let r := powMod m n (x * x % m) (e / 2)
    if e % 2 = 1 then x * r % m else r

/-- A point: none is the point at infinity. -/
abbrev Point := Option (Nat × Nat)

def subMod (m a b : Nat) : Nat := (a + m - b % m) % m
def invMod (m a : Nat) : Nat := powMod m 384 (a % m) (m - 2)

def pointAdd (a b : Point) : Point :=
  match a, b with
  | none, q => q
  | p, none => p
  | some (x1, y1), some (x2, y2) =>
    if x1 = x2 ∧ (y1 + y2) % p384P = 0 then none
    else
      let l :=
        if x1 = x2 then subMod p384P (3 * x1 * x1) 3 * invMod p384P (2 * y1) % p384P
        else subMod p384P y2 y1 * invMod p384P (subMod p384P x2 x1) % p384P
      let x3 := subMod p384P (subMod p384P (l * l) x1) x2
      some (x3, subMod p384P (l * subMod p384P x1 x3) y1)

/-- k times a point, over the low `n` bits of `k`. -/
def pointMul : (n : Nat) → (k : Nat) → Point → Point
  | 0, _, _ => none
  | n + 1, k, p =>
    let r := pointMul n (k / 2) (pointAdd p p)
    if k % 2 = 1 then pointAdd p r else r

/-- Verify a signature (r, s) over a digest under a public key (x, y). -/
def ecdsaVerify (x y r s : Nat) (digest : List Byte) : Bool :=
  let z := ofBytesBE digest
  if 1 ≤ r ∧ r < p384N ∧ 1 ≤ s ∧ s < p384N ∧ x < p384P ∧ y < p384P ∧
      y * y % p384P = (x * x * x + (p384P - 3) * x + p384B) % p384P then
    let w := invMod p384N s
    match pointAdd (pointMul 384 (z * w % p384N) (some (p384Gx, p384Gy))) (pointMul 384 (r * w % p384N) (some (x, y))) with
    | none => false
    | some (px, _) => decide (px % p384N = r)
  else false

end Sys2Proof.Machine
end

