-- ==== Sys2Proof/Machine/Image.lean ====
section
/-! DEFINITION. The tree image (19_tree_image_format R427 to R442, 18_tree_store_and_update R425): its container, its sections, the
validation checks in their order, the plan invariants of 03_stitch_plans R75, and the tables a valid image sets (DEDUCED, log 78). -/
namespace Sys2Proof.Machine

/-- An image's bytes from its offset 0; an unlisted byte reads 0xFF. -/
abbrev ImgBytes := List Host.Cell

/-- The number of a run of bytes, little-endian. -/
def imgNum (m : ImgBytes) (off len : Nat) : Nat := ofBytes (blankBytes m off len)

/-! ### Container (R427, R428) -/

def imgSectionCount (m : ImgBytes) : Nat := bitField (imgNum m 0 64) 56 8
def imgLen (m : ImgBytes) : Nat := bitField (imgNum m 0 64) 64 32
def imgSigOffset (m : ImgBytes) : Nat := bitField (imgNum m 0 64) 96 32
def imgFr (m : ImgBytes) : List Byte := blankBytes m 16 8

/-- A directory entry. -/
structure DirEnt where
  type : Nat
  count : Nat
  offset : Nat
  length : Nat
  crc : Nat
  reserved : Nat
  deriving DecidableEq, Repr, Inhabited

def dirEntAt (m : ImgBytes) (i : Nat) : DirEnt :=
  let x := imgNum m (64 + 16 * i) 16
  { type := bitField x 0 8, reserved := bitField x 8 8, count := bitField x 16 16, offset := bitField x 32 32, length := bitField x 64 32, crc := bitField x 96 32 }
def imgDir (m : ImgBytes) : List DirEnt := (List.range (imgSectionCount m)).map (dirEntAt m)

/-- The section of a type. -/
def imgSection (m : ImgBytes) (type : Nat) : Option DirEnt := (imgDir m).find? (·.type = type)
/-- A section's number. -/
def sectionNum (m : ImgBytes) (d : DirEnt) : Nat := imgNum m d.offset d.length

/-! ### Section types (R429) -/

/-- LENGTH of a type of fixed length. -/
def sectionLen : Nat → Option Nat
  | 0x01 => some 256 | 0x02 => some 80 | 0x04 => some 80 | 0x05 => some 64 | 0x06 => some 288 | 0x07 => some 64 | 0x08 => some 64
  | 0x09 => some 64 | 0x0A => some 64 | 0x0B => some 48 | 0x0C => some 32 | 0x0D => some 64 | 0x0E => some 3200 | 0x0F => some 64
  | 0x10 => some 64 | 0x11 => some 64 | 0x12 => some 64 | 0x13 => some 80 | 0x14 => some 80 | 0x15 => some 80 | 0x16 => some 2176
  | _ => none

/-- A plan in the image: header and slot array. -/
def planLength : Nat := 524352

/-- Type, count and length of an entry obey the table. -/
def DirEnt.obeys (d : DirEnt) : Bool :=
  if d.type = 0x03 then decide (2 ≤ d.count) && decide (d.count ≤ 64) && decide (d.length = d.count * planLength)
  else if d.type = 0x17 then decide (1 ≤ d.count) && decide (d.count ≤ 4096) && decide (d.length = 32 * d.count)
  else if d.type = 0xFF then decide (d.count = 0)
  else match sectionLen d.type with
    | some n => decide (d.count = 0) && decide (d.length = n)
    | none => false

/-- Required sections are there, none but NOTE twice. -/
def typesOk (ds : List DirEnt) : Bool :=
  ds.all DirEnt.obeys && [0x01, 0x02, 0x03, 0x04].all (fun t => ds.any (·.type = t))
    && decide (((ds.filter (·.type ≠ 0xFF)).map (·.type)).Nodup)

/-- Offsets ascend without overlap from `from_`, lengths and offsets are multiples of 16, all end by `top`. -/
def dirOrder (top : Nat) : (from_ : Nat) → List DirEnt → Bool
  | _, [] => true
  | from_, d :: ds => decide (from_ ≤ d.offset) && decide (d.offset % 16 = 0) && decide (d.length % 16 = 0) && decide (d.offset + d.length ≤ top)
      && decide (d.reserved = 0) && dirOrder top (d.offset + d.length) ds

/-- Gap bytes between the parts are 0. -/
def gapsZero (m : ImgBytes) (top : Nat) : (from_ : Nat) → List DirEnt → Bool
  | from_, [] => (blankBytes m from_ (top - from_)).all (· = 0#8)
  | from_, d :: ds => (blankBytes m from_ (d.offset - from_)).all (· = 0#8) && gapsZero m top (d.offset + d.length) ds

/-! ### Plans (R431, R57, R75) -/

def Plan.id (p : Plan) : Nat := bitField p.hdr 0 6
def Plan.isDump (p : Plan) : Bool := bitField p.hdr 6 1 = 1
def Plan.phased (p : Plan) : Bool := bitField p.hdr 7 1 = 1
def Plan.toothMin (p : Plan) : Nat := bitField p.hdr 16 16
def Plan.toothMax (p : Plan) : Nat := bitField p.hdr 32 16
def Plan.winFirst (p : Plan) : Nat := bitField p.hdr 48 10
def Plan.winLen (p : Plan) : Nat := bitField p.hdr 64 11
def Plan.powerCap (p : Plan) : Nat := bitField p.hdr 80 16
def Plan.weight (p : Plan) (cls : Nat) : Nat := bitField p.hdr (96 + 16 * cls) 16
def Plan.crc (p : Plan) : Nat := bitField p.hdr 224 32
def Plan.reserved (p : Plan) : Bool :=
  decide (bitField p.hdr 8 8 = 0) && decide (bitField p.hdr 58 6 = 0) && decide (bitField p.hdr 75 5 = 0) && decide (bitField p.hdr 288 224 = 0)
/-- Bytes of a plan's slot array. -/
def slotBytes : Nat := 524288
def Plan.bytes (p : Plan) : List Byte := (List.range slotBytes).map fun i => Table.getD p.slots i 0#8
/-- Invariant 1. -/
def Plan.crcOk (p : Plan) : Bool := decide (crc32c p.bytes = p.crc)
/-- Slot class of a die in a tooth. -/
def Plan.cls (p : Plan) (die lt : Nat) : Nat := p.slot die lt % 8

/-- A plan from its bytes: those that are 0 are not listed. -/
def planOfBytes (hdr : Nat) (f : Nat → Byte) : Plan :=
  { hdr := hdr, slots := (List.range slotBytes).filterMap fun i => let b := f i; if b = 0#8 then none else some (i, b) }
def imgPlan (m : ImgBytes) (d : DirEnt) (p : Nat) : Plan :=
  let at_ := d.offset + p * planLength
  planOfBytes (imgNum m at_ 64) fun i => blankByte m (at_ + 64 + i)
def imgPlans (m : ImgBytes) : List Plan :=
  match imgSection m 0x03 with
  | some d => (List.range d.count).map (imgPlan m d)
  | none => []

/-- A set of plans to be judged: the plans by position, the selection table, the dies of the geometry, the power-state table, the part's
suspend limit and maximum times. -/
structure PlanSet where
  plans : List Plan
  select : List Nat
  dies : List Nat
  psArray : List Nat
  limit : Nat
  opMaxNs : Nat
  deriving DecidableEq, Repr, Inhabited

def PlanSet.named (q : PlanSet) : List Nat := (List.range q.plans.length).filter fun p => q.select.contains p
/-- All teeth of a round. -/
def teeth : List Nat := List.range 1024

/-- Invariants that a plan meets by itself, and as the plan at its position. -/
def PlanSet.planOk (q : PlanSet) (tooth inv pos : Nat) : Bool :=
  let p := q.plans.getD pos default
  match inv with
  | 1 => p.crcOk
  | 2 => decide (p.id = pos)
  | 3 => p.reserved && decide (500 ≤ p.toothMin) && decide (p.toothMin ≤ p.toothMax) && decide (p.toothMax ≤ 16000)
      && (!p.phased || (decide (1 ≤ p.winLen) && decide (p.winLen ≤ 1024)))
  | 4 => teeth.all fun t => q.dies.all fun d => if p.isDump then decide (p.cls d t ∈ [0, 7]) else decide (p.cls d t ≠ 7)
  | 5 => teeth.all fun t => q.dies.all fun d => !(decide (p.cls d t = 6) && decide (p.cls d ((t + 1) % 1024) = 6))
  | 6 => teeth.all fun t => decide ((q.dies.map fun d => p.weight (p.cls d t)).sum ≤ p.powerCap * 10)
  | 7 => !p.phased || teeth.all fun t => decide ((t + 1024 - p.winFirst) % 1024 < p.winLen) || q.dies.all fun d => decide (p.cls d t ∉ [3, 4])
  | 8 => !q.select.contains pos || (!p.isDump &&
      (List.range q.select.length).all fun i => decide (natAt q.select i ≠ pos) || decide (p.powerCap ≤ natAt q.psArray (i / 16)))
  | 9 => !q.select.contains pos || (decide (p.toothMin ≤ tooth) && decide (tooth ≤ p.toothMax))
  | 10 => !q.select.contains pos || q.dies.all fun d => [2, 3, 4].all fun c => teeth.any fun t => decide (p.cls d t = c)
  | 11 => decide (q.limit = 0) || decide (p.toothMin = 0) || decide (2 * ceilDiv q.opMaxNs (p.toothMin * 10) ≤ q.limit)
  | _ => true

/-- The first failing plan of an invariant; invariant 4 also asks for exactly one dump plan, invariant 8 for positions in the set. Where no single plan
fails, 0x0303 carries plan 0 for the number of dump plans, and the low 6 bits of the entry that names no plan (DESIGN CHOICE, log 80). -/
def PlanSet.failing (q : PlanSet) (tooth inv : Nat) : Option Nat :=
  match (List.range q.plans.length).find? fun pos => !q.planOk tooth inv pos with
  | some pos => some pos
  | none =>
    if inv = 4 ∧ (q.plans.filter Plan.isDump).length ≠ 1 then some 0
    else if inv = 8 then (q.select.find? fun n => decide (q.plans.length ≤ n)).map (· % 64)
    else none

/-- The first invariant of a list that fails, and the plan's position. -/
def PlanSet.firstFail (q : PlanSet) (tooth : Nat) (invs : List Nat) : Option (Nat × Nat) :=
  invs.findSome? fun inv => (q.failing tooth inv).map fun pos => (inv, pos)

/-! ### Field ranges (check 10) -/

/-- Fields that must be 0. -/
def zeros (x : Nat) (fs : List (Nat × Nat)) : Bool := fs.all fun (lo, w) => bitField x lo w = 0
/-- A field within a range. -/
def within (x lo w a b : Nat) : Bool := decide (a ≤ bitField x lo w) && decide (bitField x lo w ≤ b)

def geomFields (x : Nat) : Bool :=
  zeros x [(13, 3), (61, 3), (69, 3), (75, 5), (112, 16), (416, 32), (544, 480)] && decide (bitField x 0 4 ∈ [4, 6]) && within x 4 4 3 4 && within x 8 3 3 4
    && decide (bitField x 12 1 = 1) && decide (bitField x 16 16 % bitField x 4 4 = 0) && within x 52 4 2 3 && within x 72 3 0 4 && within x 80 16 2368 65535
    && within x 528 16 0 65535 && within x 536 8 100 255
/-- R85. -/
def geomRule (x : Nat) : Bool :=
  let planes := bitField x 0 4
  let pages := bitField x 16 16
  let blocks := bitField x 32 16
  let bits := bitField x 48 4 + bitField x 52 4 + bitField x 56 5
  decide (planes * pages * blocks ≤ 16777216) && decide (pages ≤ 2 ^ bitField x 48 4) && decide (planes ≤ 2 ^ bitField x 52 4) && decide (blocks ≤ 2 ^ bitField x 56 5)
    && decide (bits ≤ bitField x 64 5) && decide (bitField x 64 5 + 2 ≤ 8 * bitField x 8 3) && within x 96 16 1 pages && decide (planes * pages ≤ 2047)
    && within x 80 16 2368 65535 && decide (bitField x 12 1 = 1)

def selectFields (x : Nat) : Bool := (List.range 80).all fun i => bitField x (8 * i + 6) 2 = 0

/-- Entry n of PS_TABLE. -/
def psOf (x n : Nat) : Nat := bitField x (128 * n) 128
def psFields (x : Nat) : Bool :=
  (List.range 5).all fun n => zeros (psOf x n) [(58, 6), (96, 32)] && within (psOf x n) 48 3 0 4 && within (psOf x n) 51 3 0 4 && within (psOf x n) 56 2 0 2
/-- R387 against GEOM.RATE and RATE_MAX. -/
def psRule (x flashMax dramMax : Nat) : Bool :=
  (List.range 5).all fun n =>
    let e := psOf x n
    (decide (n = 0) || decide (bitField e 0 16 ≤ bitField (psOf x (n - 1)) 0 16)) && decide (bitField e 16 16 + bitField e 32 16 ≤ bitField e 0 16)
      && (decide (n = 4) || decide (bitField e 54 1 = 0)) && decide (bitField e 51 3 ≤ flashMax) && decide (dramMax ≤ bitField e 48 3)

def codecFields (x : Nat) : Bool :=
  zeros x [(4, 4), (56, 8), (120, 8), (288, 224)] && within x 0 4 0 8 && within x 8 8 1 24 && within x 16 8 1 40 && within x 24 8 1 32 && within x 32 8 1 16
    && within x 40 8 5 60 && within x 48 8 3 7 && decide (bitField x 64 16 < bitField x 80 16) && within x 96 16 1 90 && within x 112 8 1 32
/-- TYPE_MASK for a cell density: disjoint masks whose union is every threshold. -/
def masksOk (x bits : Nat) : Bool :=
  let ms := (List.range bits).map fun t => bitField x (224 + 16 * t) 16
  (List.range 16).all fun t => decide ((ms.filter fun m => bitField m t 1 = 1).length = if t < 2 ^ bits - 1 then 1 else 0)

def retryFields (x bits : Nat) : Bool :=
  (List.range 18).all fun r => (List.range 16).all fun i => decide (i < if r < 9 then 2 ^ bits - 1 else 1) || decide (bitField x (8 * (16 * r + i)) 8 = 0)

def wearFields (x : Nat) : Bool :=
  zeros x [(50, 6), (176, 16), (288, 224)] && within x 0 16 1 4096 && within x 16 8 1 63 && within x 24 8 2 255 && within x 32 8 0 64 && within x 40 8 1 255
    && within x 48 2 1 3 && (List.range 7).all (fun b => within x (64 + 16 * b) 16 1 10000) && within x 224 32 1 1048576
    && (List.range 6).all fun b => decide (bitField x (64 + 16 * (b + 1)) 16 < bitField x (64 + 16 * b) 16)

def girthFields (x : Nat) : Bool :=
  zeros x [(5, 3), (48, 16), (96, 416)] && within x 0 5 6 30 && within x 8 8 1 16 && within x 16 8 1 255 && within x 24 8 1 255 && within x 32 16 1 4096
    && within x 64 32 16 1048576

def holdupFields (x : Nat) : Bool :=
  zeros x [(55, 1), (128, 384)] && within x 0 16 100 65535 && within x 16 16 1000 60000 && within x 32 16 256 65535 && within x 48 7 50 100 && within x 56 8 0 200
    && within x 64 16 10 2000 && within x 80 16 200 5000 && within x 96 16 64 2048 && decide (bitField x 96 16 % 64 = 0)

def mapFields (x : Nat) : Bool := zeros x [(32, 480)] && within x 0 32 1024 16777216
def fcFields (x : Nat) : Bool := (List.range 17).all (fun i => within x (16 * i) 16 0 10000) && decide (bitField x (8 * 34) (8 * 14) = 0)
def reinFields (x : Nat) : Bool := zeros x [(2, 14), (26, 6), (64, 192)] && within x 16 10 100 1000 && within x 32 16 1 1000 && within x 48 16 100 500

def dramFields (x : Nat) : Bool :=
  zeros x [(6, 2), (15, 1), (21, 3), (104, 408)] && within x 0 3 0 4 && within x 8 4 8 16 && within x 12 3 5 7 && within x 16 5 14 20 && within x 24 16 100 65535
    && within x 40 8 1 255 && within x 48 32 1024 4294967295 && within x 80 8 1 168 && within x 88 8 4 64 && within x 96 8 1 64

def trainFields (x : Nat) : Bool :=
  (List.range 400).all fun i => zeros (bitField x (64 * i) 64) [(44, 19)] && (decide (i % 5 = 0) || decide (bitField x (64 * i + 34) 10 = 0))

def dmaFields (x : Nat) : Bool := (List.range 64).all (fun c => decide (bitField x (4 * c + 3) 1 = 0)) && zeros x [(264, 248)] && within x 256 8 2 255

def ladderFields (x : Nat) : Bool :=
  zeros x [(106, 6), (264, 248)]
    && ([(0, 60, 125), (32, 40, 110), (64, 60, 115)].all fun (lo, a, b) =>
        ([0, 8, 16, 24].all fun k => within x (lo + k) 8 a b) && ([0, 8, 16].all fun k => decide (bitField x (lo + k) 8 < bitField x (lo + k + 8) 8)))
    && within x 96 4 1 15 && within x 100 3 1 4 && within x 103 3 (bitField x 100 3) 4 && within x 128 8 40 100

def sbFields (x : Nat) : Bool :=
  zeros x [(96, 416)] && ([0, 1, 2, 3].all fun k => within x (8 * k) 8 1 255) && [0, 1, 2, 3].all fun k => within x (32 + 16 * k) 16 1 65535

def wheelFields (x : Nat) : Bool := zeros x [(5, 3), (13, 499)] && within x 0 5 0 20 && within x 8 5 (bitField x 0 5 + 1) 24

/-- Entry j of a compensation table. -/
def compAt (x j : Nat) : Int := ofSigned 16 (bitField x (16 * j) 16)
def compFields (x : Nat) (limit : Option Int) : Bool :=
  decide (bitField x (8 * 66) (8 * 14) = 0) &&
    match limit with
    | some l => (List.range 33).all fun j => decide (-l ≤ compAt x j) && decide (compAt x j ≤ l)
    | none => true

/-- Buffer i of FEATURE_DEFAULTS. -/
def defaultBuf (x i : Nat) : Nat := bitField x (256 * i) 256
/-- Reserved, read-only and write-only bits of each buffer are 0. -/
def defaultFields (x : Nat) : Bool :=
  zeros (defaultBuf x 0) [(6, 2), (42, 6), (58, 6), (74, 6), (90, 6), (112, 16), (176, 80)]
    && zeros (defaultBuf x 1) [(2, 3), (6, 2), (20, 12), (56, 200)] && zeros (defaultBuf x 2) [(6, 2), (12, 244)]
    && zeros (defaultBuf x 3) [(1, 3), (7, 1), (32, 224)]
    && (List.range 64).all fun i => zeros (defaultBuf x (4 + i)) [(9, 7), (17, 15), (43, 213)]
/-- Rule d: the ranges of Set Features. -/
def defaultRule (x : Nat) : Bool :=
  (wheelCfgOf (defaultBuf x 0)).inRange && (({} : TwinCfg).set (defaultBuf x 1)).inRange && graceInRange (graceOf (defaultBuf x 2))
    && (skiverCfgOf (defaultBuf x 3)).inRange && (List.range 64).all fun i => (counterOf (defaultBuf x (4 + i))).inRange

/-- The labels of a section. -/
def labelsOf (m : ImgBytes) (d : DirEnt) : List (BitVec 256) := (List.range d.count).map fun i => BitVec.ofNat 256 (imgNum m (d.offset + 32 * i) 32)
/-- R439. -/
def labelsRule (ls : List (BitVec 256)) : Bool :=
  decide ((ls.map labelSlot).Nodup) && ls.all fun l => labelOk l (labelSlot l) && decide (bitField l.toNat 64 64 = 0)

/-- Check 10 on one section. -/
def sectionFields (m : ImgBytes) (bits : Nat) (d : DirEnt) : Bool :=
  let x := sectionNum m d
  match d.type with
  | 0x01 => geomFields x
  | 0x02 => selectFields x
  | 0x04 => psFields x
  | 0x05 => codecFields x
  | 0x06 => retryFields x bits
  | 0x07 => wearFields x
  | 0x08 => girthFields x
  | 0x09 => holdupFields x
  | 0x0A => mapFields x
  | 0x0B => fcFields x
  | 0x0C => reinFields x
  | 0x0D => dramFields x
  | 0x0E => trainFields x
  | 0x0F => dmaFields x
  | 0x10 => ladderFields x
  | 0x11 => sbFields x
  | 0x12 => wheelFields x
  | 0x13 => compFields x (some 20000)
  | 0x14 => compFields x (some 1000)
  | 0x15 => compFields x none
  | 0x16 => defaultFields x
  | 0x17 => (labelsOf m d).all fun l => zeros l.toNat [(29, 3), (35, 13)]
  | _ => true

/-! ### What an image sets (R429, R442) -/

/-- The number of an optional section, or its bareback value. -/
def tableOr (m : ImgBytes) (type dflt : Nat) : Nat := match imgSection m type with | some d => sectionNum m d | none => dflt
/-- Entries of a table of numbers. -/
def entries (x w n : Nat) : List Nat := (List.range n).map fun i => bitField x (w * i) w
def signedEntries (x w n : Nat) : List Int := (List.range n).map fun i => ofSigned w (bitField x (w * i) w)

/-- The tables of a valid image; an absent section leaves its bareback table. -/
def imgTables (m : ImgBytes) : ImgState :=
  let has (t : Nat) : Bool := (imgSection m t).isSome
  let geom := tableOr m 0x01 0
  { fr := imgFr m, geom := geom, planSelect := (entries (tableOr m 0x02 0) 8 80).map (· % 64), psTable := entries (tableOr m 0x04 0) 128 5,
    codec := tableOr m 0x05 (barebackCodec (bitField geom 4 4)),
    retry := if has 0x06 then (List.range 18).map (fun r => signedEntries (bitField (tableOr m 0x06 0) (128 * r) 128) 8 16) else barebackRetry,
    wear := tableOr m 0x07 (barebackWear 0), girth := tableOr m 0x08 barebackGirth, holdup := tableOr m 0x09 barebackHoldup, map := tableOr m 0x0A barebackMap,
    fcTarget := if has 0x0B then entries (tableOr m 0x0B 0) 16 17 else barebackFcTarget, rein := tableOr m 0x0C barebackRein,
    dram := tableOr m 0x0D (barebackDram false 14),
    dramTrain := if has 0x0E then (List.range 400).filterMap (fun i => let e := bitField (tableOr m 0x0E 0) (64 * i) 64; if e = 0 then none else some (i, e)) else [],
    dma := tableOr m 0x0F barebackDma, ladder := tableOr m 0x10 barebackLadder, sb := tableOr m 0x11 barebackSb, wheel := tableOr m 0x12 barebackWheel,
    wheelComp := signedEntries (tableOr m 0x13 0) 16 33, resvComp := signedEntries (tableOr m 0x14 0) 16 33, vrefComp := signedEntries (tableOr m 0x15 0) 16 33,
    labels := match imgSection m 0x17 with | some d => labelsOf m d | none => [] }

/-- The plan set an image brings. -/
def imgPlanSet (m : ImgBytes) : PlanSet :=
  let t := imgTables m
  { plans := imgPlans m, select := t.planSelect, dies := (List.range 1024).filter t.populated, psArray := (List.range 5).map t.psArray,
    limit := t.suspendLimit, opMaxNs := max t.tProgMax t.tBersMax }

/-- TOOTH_CYCLES of FEATURE_DEFAULTS, or the bareback 2,000. -/
def imgTooth (m : ImgBytes) : Nat := match imgSection m 0x16 with | some d => (wheelCfgOf (defaultBuf (sectionNum m d) 0)).toothCycles | none => 2000

/-- TOOTH_CYCLES in force under an image: the saved one when it passes invariants 9 and 11; with it the invariant the saved one fails and
the plan (R441). -/
def toothUnder (q : PlanSet) (imageTooth : Nat) (saved : Option Nat) : Nat × Option (Nat × Nat) :=
  match saved with
  | none => (imageTooth, none)
  | some t => match q.firstFail t [9, 11] with | none => (t, none) | some f => (imageTooth, some f)

/-- The saved TOOTH_CYCLES (R415). -/
def TsState.savedTooth (t : TsState) : Option Nat := (t.feature 0xC0 0).map fun b => (wheelCfgOf b.toNat).toothCycles

/-! ### Validation order (R440) -/

/-- Rules across tables (check 11): the section type of the first that fails. -/
def crossFail (m : ImgBytes) : Option Nat :=
  let t := imgTables m
  let defaults := imgSection m 0x16
  if !geomRule t.geom then some 0x01
  else if !masksOk t.codec t.bitsPerCell then some 0x05
  else if !psRule (tableOr m 0x04 0) t.geomRate t.rateMax then some 0x04
  else if !(match defaults with | some d => defaultRule (sectionNum m d) | none => true) then some 0x16
  else if !(match defaults with
      | some d =>
        let c := ({} : TwinCfg).set (defaultBuf (sectionNum m d) 1)
        !c.enforce || t.labels.any fun l => decide (labelSlot l = c.slot) && decide (labelPurpose l = 2)
      | none => true) then some 0x16
  else if !labelsRule t.labels then some 0x17
  else if !([60, 61, 62, 63].all fun c => decide (t.dmaPrio c = 0)) then some 0x0F
  else if !(t.planSelect.all fun n => decide (n < (imgPlans m).length)) then some 0x02
  else none

/-- R425: the key's hash is the key in force, the key lies on the curve, and the signature over the digest verifies. -/
def imgAuthentic (m : ImgBytes) (key : Option (List Byte)) : Bool :=
  let at_ := imgSigOffset m
  let pub := blankBytes m at_ 97
  match key with
  | none => false
  | some k =>
    decide (sha384 pub = k) && decide (byteAt pub 0 = 4#8)
      && ecdsaVerify (ofBytesBE (sliceBytes pub 1 48)) (ofBytesBE (sliceBytes pub 49 48)) (ofBytesBE (blankBytes m (at_ + 112) 48))
          (ofBytesBE (blankBytes m (at_ + 160) 48)) (sha384 (blankBytes m 0 at_))

/-- Checks 2 to 8: the first that fails. -/
def containerFail (m : ImgBytes) (commitLen : Option Nat) : Option Nat :=
  let h := imgNum m 0 64
  let fr := imgFr m
  let ds := imgDir m
  let top := imgSigOffset m
  let first := 64 + 16 * imgSectionCount m
  if !(decide (bitField h 0 32 = 0x7EE51A9C) && decide (bitField h 32 16 = 1) && decide (bitField h 480 32 = crc32c (blankBytes m 0 60)) && decide (bitField h 224 256 = 0))
  then some 2
  else if !(decide (bitField h 48 8 = Config.steppingB1) && fr.all (fun b => decide (0x20 ≤ b.toNat) && decide (b.toNat ≤ 0x7E))
      && decide (fr ≠ asciiPadded "BAREBACK" 8) && decide (fr ≠ asciiPadded "HALTER" 8)) then some 3
  else if !(decide (imgLen m % 16 = 0) && decide (208 ≤ imgLen m) && decide (imgLen m ≤ 50331648) && decide (top = imgLen m - 208)
      && (match commitLen with | some n => decide (imgLen m = n) | none => true)) then some 4
  else if !(decide (4 ≤ imgSectionCount m) && decide (imgSectionCount m ≤ 64) && decide (first ≤ top) && dirOrder top first ds) then some 5
  else if !typesOk ds then some 6
  else if !(ds.all fun d => decide (crc32c (blankBytes m d.offset d.length) = d.crc)) then some 7
  else if !(gapsZero m top first ds && (blankBytes m (top + 97) 15).all (· = 0#8)) then some 8
  else none

/-- How a validation ends: the failing check, and DW1 of a failed UPD_COMMIT. -/
structure ImgFail where
  check : Nat
  dw1 : Nat
  deriving DecidableEq, Repr, Inhabited

/-- The validation of R440 from check 2 on; none when the image is valid. -/
def imageFail (m : ImgBytes) (commitLen : Option Nat) (t : TsState) : Option ImgFail :=
  match containerFail m commitLen with
  | some n => some ⟨n, n⟩
  | none =>
    if !imgAuthentic m t.keyInForce then some ⟨9, 9⟩
    else
      let bits := bitField (tableOr m 0x01 0) 4 4
      match (imgDir m).find? fun d => !sectionFields m bits d with
      | some d => some ⟨10, packFields [fld 0 8 10, fld 8 8 d.type]⟩
      | none =>
        match crossFail m with
        | some ty => some ⟨11, packFields [fld 0 8 11, fld 8 8 ty]⟩
        | none =>
          let q := imgPlanSet m
          let tooth := (toothUnder q (imgTooth m) t.savedTooth).1
          match q.firstFail tooth ((List.range 11).map (· + 1)) with
          | some (inv, pos) => some ⟨12, packFields [fld 0 8 12, fld 8 8 inv, fld 16 6 pos]⟩
          | none => none

end Sys2Proof.Machine
end

