-- ==== Sys2Proof/Machine/Reclaim.lean ====
section
/-! DEFINITION. Reclaim, sets and rebuild (07_reclaim_and_wear R164 to R171, 08_girths R179 to R184, R201 to R205, 06_map R154, R158):
opening a set, taking and walking victims, evacuating sets, and the meanings of these steps. -/
namespace Sys2Proof.Machine

/-! ### Opening a set (R181, R163 to R165, R145) -/

/-- The channel of a member position: the one R181 names, or the next one on which the set has no member yet. -/
def State.memberChannel (s : State) (no w m : Nat) (taken : List Nat) : Option Nat :=
  let cs := s.channelsInService
  let start := no * (w + 2) + m
  ((List.range cs.length).map fun k => natAt cs ((start + k) % cs.length)).find? fun c => !(taken.any fun b => chOfDie (dieOfBlk b) = c)

/-- A host stream takes no block of a die at the floor; no stream takes one where there is none (DEDUCED, log 32). -/
def State.mustWait (s : State) (n d : Nat) : Bool := decide (s.pool d = 0) || (decide (n ≤ 3) && s.atFloor d)

/-- The set waits for a die: code 0x0708 once for the die and the wait of a host stream (R165). -/
def State.floorWait (s : State) (n d : Nat) : State :=
  let s := s.modStream n fun x => { x with floorDie := some d }
  if n ≤ 3 then s.leave 0x0708 0 [d] else s

/-- Take the block of the next member on a die. -/
def State.takeMember (s : State) (n d : Nat) : State :=
  let x := s.stream n
  match s.takeBlock d x.takingFc (decide (n = 5)) with
  | some (b, erase, s) => (s.openBlock b n x.takingFc erase).modStream n fun x => { x with taken := x.taken ++ [b], floorDie := none }
  | none => s.floorWait n d

/-- Every member has been taken: the set stands, and SET_OPEN is appended. -/
def State.setStands (s : State) (n : Nat) : State :=
  let x := s.stream n
  let (id, s) : Nat × State := match s.girth.freeSets with
    | k :: rest => (k, { s with girth := { s.girth with freeSets := rest } })
    | [] => (s.girth.nextSet, { s with girth := { s.girth with nextSet := s.girth.nextSet + 1 } })
  let r : SetRec := { stream := n, fc := x.takingFc, w := x.takingW, state := 1, endReason := 0, nextWl := 0, lastAbsent := [], member := x.taken, absWl := [] }
  let s : State := { s with girth := { s.girth with sets := Table.set s.girth.sets id r, opened := s.girth.opened + 1,
                                                    setOf := x.taken.foldl (fun t b => Table.set t b id) s.girth.setOf } }
  (s.modStream n fun x => { x with set := some id, nextWl := 0, taken := [] }).ledger (.setOpen id r) false

/-- Take the members that are still to be taken, at most `k` of them, until one waits. -/
def State.takeMembers (s : State) (n : Nat) : (k : Nat) → State
  | 0 => s
  | k + 1 =>
    let x := s.stream n
    if x.takingW + 2 ≤ x.taken.length then s.setStands n
    else
      match s.memberChannel x.takingNo x.takingW x.taken.length x.taken with
      | none => s
      | some c =>
        match s.nextDie c with
        | none => s
        | some (d, s) => if s.mustWait n d then s.floorWait n d else State.takeMembers (s.takeMember n d) n k

/-- A stream needs a set and may open one: it has payloads, no set and no girth filling; eight channels are in service, and the
switch that a lost channel requires has been made (R203, R205). -/
def State.wantsSet (s : State) (n : Nat) : Bool :=
  let x := s.stream n
  decide (n ≤ 6) && x.set.isNone && x.filling.isNone && decide (x.list ≠ []) && x.floorDie.isNone && decide (x.taken = [])
    && !s.girth.noSets && decide (s.girth.w + 2 ≤ s.channelCount)

/-- A host stream's set is of fast-cell blocks while these and the blocks already in that mode do not exceed the target (R145). -/
def State.fastSet (s : State) (n : Nat) : Bool := decide (n ≤ 3) && decide (s.fcBlocks + s.girth.w + 2 ≤ s.fcTargetBlocks)

/-- SET_OPEN (R145, R163 to R165, R181). -/
def execSetOpen (stream : Nat) (s : State) : Host.Outcome State Fault Refusal :=
  if s.engines 8 ∧ s.wantsSet stream = true then
    let fc := s.fastSet stream
    let s := s.modStream stream fun x => { x with takingFc := fc, takingW := s.girth.w, takingNo := s.girth.opened }
    .next (s.takeMembers stream (s.girth.w + 3)).settle
  else .next s

/-- HOST_GIRTH_OPEN_WAIT_END (R165): the die's pool is above the floor, or another die of its channel takes its place when it has gone out
of service; the set goes on opening. None does while fewer channels serve than it needs, or than eight (R203, R205). -/
def execHostGirthOpenWaitEnd (stream : Nat) (s : State) : Host.Outcome State Fault Refusal :=
  match (s.stream stream).floorDie with
  | some d =>
    let left := (s.stream stream).takingW + 3
    if !s.engines 8 ∨ s.girth.noSets ∨ s.channelCount < (s.stream stream).takingW + 2 then .next s
    else if !s.dieServes d then .next ((s.modStream stream fun x => { x with floorDie := none }).takeMembers stream left).settle
    else if s.mustWait stream d then .next s
    else .next ((s.takeMember stream d).takeMembers stream left).settle
  | none => .next s

/-! ### Girths stop filling (R184) -/

/-- A filling girth has a reason to close besides its age: no granule left, a journal run awaited, or its set ended. -/
def State.mustClose (s : State) (g : Girth) : Bool :=
  g.full (s.img.unitPages g.fc) || g.awaited || decide ((s.setRec g.set).state ≠ 1)

/-- GIRTH_CLOSE_START (R184 cases 1, 3 and 4). -/
def execGirthCloseStart (stream : Nat) (s : State) : Host.Outcome State Fault Refusal :=
  match (s.stream stream).filling.bind fun id => (s.girthRec id).map fun g => (id, g) with
  | some (id, g) => if s.engines 8 ∧ s.mustClose g = true then .next (s.stopFilling id).settle else .next s
  | none => .next s

/-- GIRTH_CLOSE_AGE (R184 case 2). -/
def execGirthCloseAge (stream : Nat) (s : State) : Host.Outcome State Fault Refusal :=
  match (s.stream stream).filling.bind fun id => (s.girthRec id).map fun g => (id, g) with
  | some (id, g) =>
    match g.oldestWt with
    | some wt => if s.engines 8 ∧ wt + s.img.closeAge ≤ s.wheel.wt then .next (s.stopFilling id).settle else .next s
    | none => .next s
  | none => .next s

/-! ### The ledger's pages (R193) -/

/-- A page is due: its oldest entry has waited, eight frames are full, or a waiter needs an entry. -/
def State.pageDue (s : State) : Bool :=
  decide (0 < s.girth.waiters) ||
    (decide (s.girth.ledgerNew ≠ []) && ((s.girth.ledgerWts.any fun wt => decide (wt + s.img.ledgerAge ≤ s.wheel.wt)) || decide (8 ≤ (ledgerFill s.girth.ledgerNew 0 0).1)))

/-- LEDGER_PAGE_WRITE (R190 to R195). -/
def execLedgerPageWrite (s : State) : Host.Outcome State Fault Refusal :=
  if s.engines 7 ∧ s.pageDue = true then .next s.ledgerPage.settle else .next s

/-! ### Victims (R168 to R170) -/

/-- The valid-count take: the head of the lowest non-empty list with index 0 to 62, the lowest stream first on a tie. -/
def State.validTake (s : State) : Option Nat :=
  (List.range 63).findSome? fun k => (List.range 7).findSome? fun n => (Table.getD s.blk.vc (vcKey n k) []).head?

/-- Valid-count takes begin once the last segment is restored (R235). -/
def State.validRows (s : State) : Bool := !s.map.restoring

/-- Head of a forced list. -/
def State.forcedHead (s : State) (k : Nat) : Option Nat := (Table.getD s.blk.forced k []).head?

/-- The victim the order of R168 yields. -/
def State.nextVictim (s : State) : Option Nat :=
  (s.forcedHead 1).or <| (s.forcedHead 2).or <|
    (if 6 ≤ s.blk.band ∧ s.validRows then s.validTake else none).or <| (s.forcedHead 3).or <|
      (if s.fcTargetBlocks < s.fcInUse then s.forcedHead 4 else none).or <| (s.forcedHead 5).or <|
        if 1 ≤ s.blk.band ∧ s.validRows then s.validTake else none

/-- A block is taken as a victim: VICTIM, or SUSPECT kept, out of its lists; a wear victim stays its die's one. A host stream's reclaim copy is
the FDP event Media Reallocated (R269). -/
def State.takeVictim (s : State) (b : Nat) : State :=
  let wear := (s.lists (dieOfBlk b)).wear
  let s := if (s.blkRec b).stream ≤ 3 ∧ (s.blkRec b).valid ≠ 0 then s.fdpEvent 0x80 (s.blkRec b).stream else s
  let s := (s.unlist b).modLists (dieOfBlk b) fun l => { l with wear := wear }
  (s.modBlk b fun r => { r with mode := if r.mode = .suspect then .suspect else .victim }).walk b

/-- Granules that the placement lists of streams 4 and 5 hold; two full girths of the width in force. -/
def State.copyLoad (s : State) : Nat := ((((s.stream 4).list ++ (s.stream 5).list).map Payload.gran)).sum
def State.twoGirths (s : State) : Nat := 2 * s.girth.w * s.img.unitPages false * 32

/-- VICTIM_TAKE (R168 to R170) (DEDUCED, log 57). -/
def execVictimTake (s : State) : Host.Outcome State Fault Refusal :=
  if s.engines 8 ∧ s.blk.active.length < s.img.activeVictims ∧ s.copyLoad < s.twoGirths then
    match s.nextVictim with
    | some b =>
      let s := (s.count1 0x070).takeVictim b
      .next ({ s with blk := { s.blk with active := s.blk.active ++ [b] } } : State).settle
    | none => .next s
  else .next s

/-- ERASE_GATE_OPEN (R171 steps 2 and 3): the erase intent goes to the ledger. -/
def execEraseGateOpen (block : Nat) (s : State) : Host.Outcome State Fault Refusal :=
  if s.engines 8 ∧ s.gateOpen block = true then
    let fc := (s.blkRec block).wantFc
    .next ((s.modBlk block fun r => { r with intent := true }).ledger (.eraseIntent block fc) true).settle
  else .next s

/-! ### Rebuild and reshape (R201 to R204) -/

/-- The rebuild list's first set: by row, then in order. -/
def State.nextRebuild (s : State) : Option Nat :=
  ([2, 3, 4].flatMap fun row => (s.girth.rebuild.filter (·.2 = row)).map (·.1)).head?

/-- REBUILD_TAKE (R201, R202, R204): a lost ledger copy first, then the next set. -/
def execRebuildTake (s : State) : Host.Outcome State Fault Refusal :=
  if !s.engines 8 ∨ s.girth.noSets then .next s
  else if s.girth.ledgerLost then
    .next ({ s.replacePair with girth := { s.replacePair.girth with waiters := s.replacePair.girth.waiters + 1 } } : State).settle
  else if s.copyLoad < s.twoGirths then
    match s.girth.rebuild with
    | _ :: _ =>
      match s.nextRebuild with
      | some k =>
        if s.girth.rebuilding.length < s.img.rebuildSets then
          let s : State := { s with girth := { s.girth with rebuild := s.girth.rebuild.filter (·.1 ≠ k), reshape := s.girth.reshape.filter (· ≠ k),
                                                            rebuilding := s.girth.rebuilding ++ [k] } }
          .next (s.evacuateSet k).settle
        else .next s
      | none => .next s
    | [] =>
      match s.girth.reshape.head? with
      | some k =>
        if s.girth.reshaping.length < s.img.reshapeSets then
          let s : State := { s with girth := { s.girth with reshape := s.girth.reshape.filter (· ≠ k), reshaping := s.girth.reshaping ++ [k] } }
          .next (s.evacuateSet k).settle
        else .next s
      | none => .next s
  else .next s

/-! ### Journal and root (R154, R158) -/

/-- JOURNAL_STAGE_AGE (R154, R158): a segment's staging run, or the root staging frame, named by the number past the last segment (DESIGN CHOICE, log 33). -/
def execJournalStageAge (seg : Nat) (s : State) : Host.Outcome State Fault Refusal :=
  if !s.engines 8 then .next s
  else if seg = Config.maxSegments then
    if s.map.rootStaging ≠ [] ∧ s.map.rootStagingWt + s.img.stageAge ≤ s.wheel.wt then .next s.writeRootFrame.settle else .next s
  else if (s.seg seg).staging ≠ [] ∧ (s.seg seg).stagingWt + s.img.stageAge ≤ s.wheel.wt then .next (s.writeRun seg false).settle
  else .next s

/-- The wear table's fields by BLK_ID (R158, R224): ERASE_COUNT, UNREAD_CYCLES, UNREAD_THIS, RETIRED. -/
def State.wearTable (s : State) : Table (Nat × Nat × Bool × Bool) :=
  s.blk.recs.map fun (b, r) => (b, (r.eraseCount, r.unreadCycles, r.unreadThis, decide (r.mode = .retired)))

/-- The parts of the root, one to a frame: four SEG_DESCs of the segments taken so far, 1,024 directory entries, the jobs, the ranges of each job
(DESIGN CHOICE, log 84). -/
def State.rootParts (s : State) : List SnapPart :=
  ((List.range (ceilDiv s.map.nextSeg 4)).map .segs) ++ ((s.map.dirs.map fun (k, _) => k / 1024).eraseDups.map .dirs) ++ [.jobs]
    ++ ((s.map.jobs.filter fun j => j.ranges ≠ []).map fun j => .ranges j.job)
/-- Frames of a snapshot besides its index frame, by kind and frame index: the root, the voltage table, 64 entries to a frame in group index order, and
the wear table, 1,024 to a frame and each die at a new frame (R158). -/
def State.snapshotFrames (s : State) : List (Nat × Nat × SnapPart) :=
  let dies := s.populatedDies.flatMap fun d => (List.range (ceilDiv s.img.blocksPerPlane 1024)).map fun i => SnapPart.wear (64 * d + i)
  (s.rootParts.zipIdx.map fun (p, i) => (3, i, p))
    ++ ((List.range (16 * ceilDiv s.img.blocksPerPlane (2 ^ s.img.groupShift))).map fun f => (5, f, .vt f))
    ++ (dies.zipIdx.map fun (p, i) => (6, i, p))

/-- A new root snapshot is written: the root staging frame first, the fourth trigger of R154 in the root's terms (DEDUCED, log 84), then its index frame and
its frames, each filled as it is placed. -/
def State.rootSnapshot (s : State) : State :=
  let n := s.map.rootFrames
  let s := if s.map.rootStaging = [] then s else s.writeRootFrame.awaitOne (rootFrameKey n)
  let epoch := s.map.epoch + 1
  let fs := s.snapshotFrames
  let s : State := { s with map := { s.map with epoch := epoch, rootSince := 0, snapRound := s.obs.rounds, snapNew := [], snapLeft := fs.length + 1, snapRoot := s.map.rootFrames } }
  let s := s.queuePayload 6 (.snapshot epoch s.map.rootFrames (fs.map fun (k, i, _) => (k, i)))
  fs.foldl (fun s (k, i, p) => s.queuePayload 6 (.snapFrame epoch k i p {})) s

/-- ROOT_SNAPSHOT (R158) (DESIGN CHOICE, log 29). -/
def execRootSnapshot (s : State) : Host.Outcome State Fault Refusal :=
  if s.engines 8 ∧ (1048576 ≤ s.map.rootSince ∨ s.map.snapRound + 4096 ≤ s.obs.rounds) ∧ s.map.snapLeft = 0 then .next s.rootSnapshot.settle else .next s

end Sys2Proof.Machine
end

