-- ==== Sys2Proof/Machine/DumpFrames.lean ====
section
/-! DEFINITION. The frames of a dump (09_write_buffer_and_power_loss R221 to R224, R227, R231): the parts in their order, the place of each frame, P and Q
of the dump girths, and the frames that lost members leave readable. -/
namespace Sys2Proof.Machine

/-! ### Parts (R221, R223, R224) -/

/-- A frame's information part from its 4,096 bytes and the descriptors of its granules. -/
def wholeFrame (x : Nat) (d : Nat → GranDesc) : Nat := frameBits (fun g => bitField x (4096 * g) 4096) fun g => (d g).pack
/-- The descriptor of a frame of kind DUMP: frame s of the dump. -/
def DumpImage.desc (m : DumpImage) (nsx s pos : Nat) : GranDesc :=
  { nsx := nsx, lba := s, dseq := m.wt % 2 ^ 48, tag := m.serial, glen := 8, pos := pos, raw := true, kind := 4 }

/-- Frames of the wear table of one die. -/
def DumpImage.wearPerDie (m : DumpImage) : Nat := ceilDiv (m.blocks * 4) 4096
def DumpImage.wearFrames (m : DumpImage) : Nat := m.dies.length * m.wearPerDie
/-- Journal runs of part 3: the staging runs, then those of girths that have not closed; two to a frame. -/
def DumpImage.allRuns (m : DumpImage) : List (Nat × Nat × List JrnlRec) :=
  m.runs ++ m.metaFrames.filterMap fun p => match p with | .run seg seq recs => some (seg, seq, recs) | _ => none
/-- The other frames of part 3: each payload with the number of the frame in it. -/
def DumpImage.otherFrames (m : DumpImage) : List (Payload × Nat) :=
  (m.metaFrames.filter fun p => match p with | .run .. => false | _ => true).flatMap fun p => (List.range (ceilDiv p.gran 8)).map fun j => (p, j)
def DumpImage.runFrames (m : DumpImage) : Nat := ceilDiv m.allRuns.length 2
def DumpImage.metaCount (m : DumpImage) : Nat := m.runFrames + m.otherFrames.length
def DumpImage.ledgerFrames (m : DumpImage) : Nat := 16 * (1 + m.ledgerPages.length)
def DumpImage.indexFrames (m : DumpImage) : Nat := ceilDiv m.units.length 256
def DumpImage.granules (m : DumpImage) : Nat := (m.units.map fun w => w.desc.glen).sum
def DumpImage.dataFrames (m : DumpImage) : Nat := ceilDiv m.granules 8
/-- Frames of each part, in order; the saddlebag takes its 256 KiB. -/
def DumpImage.partSizes (m : DumpImage) : List Nat := [1, m.wearFrames, m.metaCount, 1, m.ledgerFrames, 64, m.indexFrames, m.dataFrames]
def DumpImage.frames (m : DumpImage) : Nat := m.partSizes.sum
/-- Part (0 to 7) and place in it of frame s; none past the last. -/
def partOf : (sizes : List Nat) → (part s : Nat) → Option (Nat × Nat)
  | [], _, _ => none
  | n :: ns, p, s => if s < n then some (p, s) else partOf ns (p + 1) (s - n)

/-- DUMP_HDR. -/
def DumpImage.hdr (m : DumpImage) : Nat :=
  withCrc 4092 (packFields [fld 0 32 m.serial, fld 32 64 m.wt, fld 96 2 m.cause, fld 98 1 m.set, fld 99 5 m.wd, fld 104 32 m.chMask, fld 136 32 m.wearFrames,
    fld 168 32 m.metaCount, fld 200 16 m.ledgerFrames, fld 216 32 m.indexFrames, fld 248 32 m.dataFrames, fld 280 32 m.units.length, fld 312 32 m.frames])
/-- DUMP_IX of a slot. -/
def WbSlot.index (w : WbSlot) : Nat := packFields [fld 0 10 w.desc.nsx, fld 10 38 w.desc.unit, fld 48 4 w.desc.glen, fld 64 64 w.tags]
/-- The unit that holds granule k of part 8, with the granule's place in its run. -/
def slotAt : List WbSlot → (k : Nat) → Option (WbSlot × Nat)
  | [], _ => none
  | w :: ws, k => if k < w.desc.glen then some (w, k) else slotAt ws (k - w.desc.glen)

/-- Two runs of part 3 in one frame. -/
def DumpImage.runFrame (m : DumpImage) (i : Nat) : Nat :=
  let image (k : Nat) : Nat := match m.allRuns[k]? with | some (seg, seq, recs) => runImage seg seq recs | none => 0
  let desc (k pos : Nat) : GranDesc := match m.allRuns[k]? with | some (seg, seq, _) => mapDesc 1 seg seq 0 4 pos | none => {}
  wholeFrame (image (2 * i) + image (2 * i + 1) * 2 ^ 16384) fun g => desc (2 * i + g / 4) (g % 4)
/-- A frame of a payload. -/
def Payload.frame (p : Payload) (j : Nat) : Nat := frameBits (fun g => p.granImage (8 * j + g)) fun g => (p.granDesc (8 * j + g)).pack
/-- The ledger pages of part 5: the staging page, as the next page of the ledger, then those not durable on both copies. -/
def DumpImage.ledgerPart (m : DumpImage) : List LedgerPage :=
  { seq := m.lseq, copyA := 0, copyB := 0, page := 0, wt := m.wt, entries := m.ledger, refresh := [] } :: m.ledgerPages

/-- Bytes 0 to 4,287 of frame s. -/
def DumpImage.frame (m : DumpImage) (s : Nat) : Nat :=
  match partOf m.partSizes 0 s with
  | some (0, _) => wholeFrame m.hdr (m.desc 0 s)
  | some (1, i) =>
    let first := natAt m.dies (i / m.wearPerDie) * 65536 + i % m.wearPerDie * 1024
    wholeFrame (packRow 32 ((List.range 1024).map fun k => if i % m.wearPerDie * 1024 + k < m.blocks then wearEnt (Table.getD m.wear (first + k) (0, 0, false, false)) else 0)) (m.desc 1 s)
  | some (2, i) => if i < m.runFrames then m.runFrame i else match m.otherFrames[i - m.runFrames]? with | some (p, j) => p.frame j | none => 0
  | some (3, _) => (Payload.root m.rootNo m.root m.rootPrev m.epoch).frame 0
  | some (4, i) => (m.ledgerPart.getD (i / 16) default).info (i % 16)
  | some (5, i) => wholeFrame (ofBytes (sliceBytes (m.saddlebag.flatMap SbRec.bytes) (4096 * i) 4096)) (m.desc 5 s)
  | some (6, i) => wholeFrame (packRow 128 (((m.units.drop (256 * i)).take 256).map WbSlot.index)) (m.desc 6 s)
  | some (7, i) =>
    frameBits (fun g => match slotAt m.units (8 * i + g) with | some (w, k) => ofBytes (sliceBytes w.data (512 * k) 512) | none => 0)
      fun g => match slotAt m.units (8 * i + g) with | some (w, k) => (w.desc.gran k).pack | none => 0
  | _ => 0

/-! ### The place of a frame, P and Q (R222) -/

/-- Girth, data member, plane and frame in page of dump frame s, with `fpu` frames to a fast-cell unit. -/
structure DumpSpot where
  girth : Nat
  mem : Nat
  plane : Nat
  frame : Nat
  deriving DecidableEq, Repr, Inhabited
def dumpSpot (wd fpu s : Nat) : DumpSpot :=
  let r := s % (wd * fpu)
  { girth := s / (wd * fpu), mem := r / fpu, plane := r % fpu / 4, frame := r % 4 }
/-- The dump frame of a place. -/
def DumpSpot.index (wd fpu : Nat) (x : DumpSpot) : Nat := x.girth * (wd * fpu) + x.mem * fpu + x.plane * 4 + x.frame
/-- Member position of a data member of dump girth g: P stands at 2 g mod N, Q behind it. -/
def DumpSpot.pos (wd : Nat) (x : DumpSpot) : Nat := natAt (dataPositions wd x.girth) x.mem

/-- The frames of the data members that stand beside a place, with their member numbers; a frame past the dump's last is EMPTY. -/
def DumpImage.beside (m : DumpImage) (fpu : Nat) (x : DumpSpot) : List (Nat × Nat) :=
  (List.range m.wd).map fun j => (j, let k := ({ x with mem := j } : DumpSpot).index m.wd fpu; if k < m.frames then m.frame k else 0)
/-- A frame of a girth's P and Q units. -/
def DumpImage.parity (m : DumpImage) (fpu : Nat) (x : DumpSpot) : Nat × Nat := (parityP (m.beside fpu x), parityQ (m.beside fpu x))

/-! ### Reading a dump (R227, R231) -/

/-- A frame can be had: its member is not lost, or at most two members of its girth are. -/
def DumpImage.reads (m : DumpImage) (fpu : Nat) (lost : List (Nat × Nat)) (s : Nat) : Bool :=
  let x := dumpSpot m.wd fpu s
  !lost.contains (x.girth, x.pos m.wd) || decide ((lost.filter fun (g, _) => g = x.girth).length ≤ 2)
/-- The frame itself, solved from the other members where its own is lost. -/
def DumpImage.readFrame (m : DumpImage) (fpu : Nat) (lost : List (Nat × Nat)) (s : Nat) : Option Nat :=
  let x := dumpSpot m.wd fpu s
  let gone (pos : Nat) : Bool := lost.contains (x.girth, pos)
  if !gone (x.pos m.wd) then some (m.frame s)
  else if !m.reads fpu lost s then none
  else
    let data := dataPositions m.wd x.girth
    let known := (m.beside fpu x).filter fun (j, _) => !gone (natAt data j)
    let y := (List.range m.wd).find? fun j => decide (j ≠ x.mem) && gone (natAt data j)
    let (p, q) := m.parity fpu x
    some (solveMember x.mem y (!gone (pPos m.wd x.girth)) (p ^^^ parityP known) (q ^^^ parityQ known))

/-- Every frame from a to b can be had. -/
def DumpImage.readsAll (m : DumpImage) (fpu : Nat) (lost : List (Nat × Nat)) (a n : Nat) : Bool :=
  lost = [] || (List.range n).all fun i => m.reads fpu lost (a + i)
/-- Parts 1 to 7. -/
def DumpImage.partsWhole (m : DumpImage) (fpu : Nat) (lost : List (Nat × Nat)) : Bool := m.readsAll fpu lost 0 (m.partSizes.take 7).sum
/-- The index. -/
def DumpImage.indexWhole (m : DumpImage) (fpu : Nat) (lost : List (Nat × Nat)) : Bool := m.readsAll fpu lost (m.partSizes.take 6).sum m.indexFrames
/-- Index entries whose data granules are not all recovered; `at_`: the first granule of the list's first slot. -/
def DumpImage.slotsLost (m : DumpImage) (fpu : Nat) (lost : List (Nat × Nat)) : (i at_ : Nat) → List WbSlot → List Nat
  | _, _, [] => []
  | i, a, w :: ws =>
    let first := (m.partSizes.take 7).sum
    (if (List.range w.desc.glen).all fun k => m.reads fpu lost (first + (a + k) / 8) then [] else [i]) ++ m.slotsLost fpu lost (i + 1) (a + w.desc.glen) ws

end Sys2Proof.Machine
end

