-- ==== Sys2Proof/Machine/Dump.lean ====
section
/-! DEFINITION. Power loss and fault stop (09_write_buffer_and_power_loss R213 to R227, R236; 20_faults R451, R454): hold-up energy and
the effective window, the dump's start, its units and its end, entry to fault stop, and what a power-on reset keeps. -/
namespace Sys2Proof.Machine

/-! ### Hold sets (R220) -/

def DumpState.hold (d : DumpState) (b : Bool) : List Nat := if b then d.holdB else d.holdA
/-- A hold block that a dump can be written to: HELD, erased, on a die in service. -/
def State.holdUsable (s : State) (b : Nat) : Bool :=
  decide ((s.blkRec b).mode = .held) && decide ((s.blkRec b).programmed = 0) && s.dieServes (dieOfBlk b)
/-- Dies of a set in index order: a die without two usable hold blocks drops out. -/
def State.holdDies (s : State) (set : Bool) : List Nat :=
  let bs := (s.dump.hold set).filter s.holdUsable
  s.populatedDies.filter fun d => decide (2 ≤ (bs.filter fun b => dieOfBlk b = d).length)
/-- d_min: the fewest hold-set dies on a channel in service (R215). -/
def State.dMin (s : State) (set : Bool) : Nat :=
  let ds := s.holdDies set
  (s.channelsInService.map fun c => (ds.filter fun d => chOfDie d = c).length).foldl min 32

/-! ### The size of a dump (R221, R222) -/

/-- Frames of the wear table: 4 bytes a block, each die at a new frame. -/
def State.wearFrames (s : State) : Nat := s.populatedDies.length * ceilDiv (s.img.blocksPerPlane * 4) 4096
/-- Content that stands in a frame before it is placed; a checkpoint unit and a snapshot frame take theirs as they are placed. -/
def Payload.isFormed : Payload → Bool
  | .ckpt .. => false
  | .snapFrame .. => false
  | _ => true
/-- Stream 6 content whose girth has not closed: placed, or formed and waiting for placement. -/
def State.openPayloads (s : State) : List Payload :=
  (s.girth.girths.flatMap fun (_, g) => if g.stream = 6 then g.placed.map (·.payload) else []) ++ (s.stream 6).list.filter Payload.isFormed
/-- A journal run of 2 KiB. -/
def Payload.isRun : Payload → Bool | .run .. => true | _ => false
/-- Segments whose staging runs hold records. -/
def State.stagingSegs (s : State) : List (Nat × SegDesc) := s.map.segs.filter fun (_, d) => d.staging ≠ []
/-- Frames of part 3: two runs, or one other frame of stream 6, to a frame. -/
def State.metaFrameCount (s : State) : Nat :=
  ceilDiv (s.stagingSegs.length + (s.openPayloads.filter Payload.isRun).length) 2 + ((s.openPayloads.filter fun p => !p.isRun).map fun p => ceilDiv p.gran 8).sum
/-- Frames of part 5: the staging page and the pages not durable on both copies, 16 frames each. -/
def State.ledgerFrameCount (s : State) : Nat := 16 * (1 + s.girth.ledgerBusy.length)
/-- The newest whole records at or above RELEASE_POS, up to 256 KiB (R404). -/
def newestRecords : (room : Nat) → List SbRec → List SbRec
  | _, [] => []
  | room, r :: rs => if r.size ≤ room then r :: newestRecords (room - r.size) rs else []
def State.dumpRecords (s : State) : List SbRec :=
  (newestRecords Config.holdBytes ((s.obs.ring.filter fun (p, r) => decide (s.obs.releasePos ≤ p) && decide (r.code ≠ 0)).map (·.2)).reverse).reverse
/-- Frames of a dump with this many slots and data granules; part 6 is counted at its full 256 KiB (R215's example) (DEDUCED, log 39). -/
def State.dumpFrames (s : State) (slots gran : Nat) : Nat :=
  1 + s.wearFrames + s.metaFrameCount + 1 + s.ledgerFrameCount + 64 + ceilDiv slots 256 + ceilDiv gran 8
/-- W_D and the dump girths that a number of frames takes. -/
def State.dumpW (s : State) : Nat := s.channelsInService.length - 2
def State.dumpGirths (s : State) (f : Nat) : Nat := ceilDiv f (max 1 (s.dumpW * (4 * s.img.planes)))

/-! ### Energy (R213, R215) -/

/-- Page time of the slowest channel in service, ns (R69, R80). -/
def rateMts : Nat → Nat
  | 0 => 800 | 1 => 1600 | 2 => 2400 | 3 => 3600 | _ => 4800
def pageNs (rate : Nat) : Nat := if 4 ≤ rate then 4100 else ceilDiv (18752 * 1000) (rateMts rate) + 200
def State.tPage (s : State) : Nat := (s.channelsInService.map fun c => pageNs (s.chan c).rate).foldl max 4100

/-- E_NEED in mJ, rounded up, of a dump of this many frames into a set with d_min dies a channel. -/
def State.eNeedOf (s : State) (f dmin : Nat) : Nat :=
  let i := s.img
  let g := s.dumpGirths f
  let unit := i.planes * s.tPage
  let tCh := max (g * unit) (ceilDiv (g * (i.tProgFcMax + unit)) (max 1 dmin))
  ceilDiv (i.pDump * (10000 + i.tRstMax + tCh + i.tProgFcMax) * (100 + i.marginPct)) 1000000000

/-- E_AVAIL in mJ, rounded down (DESIGN CHOICE, log 34), of a converter code: one step is 1,200/4,096 mV (R460). -/
def State.eAvailOf (s : State) (code : Nat) : Nat :=
  let i := s.img
  let vSense := code % 4096 * 1200
  let vBank := vSense * i.senseRatio / (4096 * 256)
  i.cBank * (vBank * vBank - i.vCut * i.vCut) * i.effPct / 200000000000

/-- A window of this many MiB, held in 1-granule slots beside the current content, can be dumped. -/
def State.windowFits (s : State) (mib : Nat) : Bool :=
  match s.dump.active with
  | none => false
  | some set =>
    let dmin := s.dMin set
    let f := s.dumpFrames (mib * 2048) (mib * 2048)
    decide (0 < dmin) && decide (0 < s.dumpW) && decide (s.eNeedOf f dmin ≤ s.wb.eAvail) && decide (s.dumpGirths f ≤ dmin * 2 * s.img.fcPages)

/-- EFF_MIB: the largest multiple of 64 up to DW_MIB that fits; 64 while BACKUP_FAIL stands. -/
def State.effWindow (s : State) : Nat :=
  if s.wb.backupFail then 64
  else (((List.range (s.wb.dwMib / 64 + 1)).reverse.map (· * 64)).find? fun m => decide (0 < m) && s.windowFits m).getD 0

/-- The energy work of a tooth boundary (R213, R216): sample, compute, and count the teeth that each condition has lasted. -/
def State.energyTooth (s : State) (code : Nat) : State :=
  let dmin := s.dMin (s.dump.active.getD false)
  let s : State := { s with wb := { s.wb with sense := code % 4096, eAvail := s.eAvailOf code,
                                              eNeed := s.eNeedOf (s.dumpFrames s.map.wbi.length s.wb.dirty) dmin } }
  let s : State := { s with wb := { s.wb with effMib := s.effWindow } }
  let covers := decide (s.eNeedOf (s.dumpFrames (64 * 2048) (64 * 2048)) dmin ≤ s.wb.eAvail)
  { s with wb := { s.wb with shortTeeth := if s.wb.eAvail < s.wb.eNeed then min 100000 (s.wb.shortTeeth + 1) else 0,
                             zeroTeeth := if s.wb.effMib = 0 then min 100000 (s.wb.zeroTeeth + 1) else 0,
                             coverTeeth := if covers then min 100000 (s.wb.coverTeeth + 1) else 0 } }

/-- Critical Warning bit 4 (R216). -/
def State.backupWarning (s : State) : Bool := s.wb.backupFail || s.wb.warnPartial || s.wb.warnNoDump

/-- BACKUP_FAIL_ENTER (R216). -/
def execBackupFailEnter (s : State) : Host.Outcome State Fault Refusal :=
  if (100000 ≤ s.wb.shortTeeth ∨ 100000 ≤ s.wb.zeroTeeth) ∧ !s.wb.backupFail then
    let was := s.backupWarning
    let s := s.leave 0x0905 3 [s.wb.eAvail, s.wb.eNeed]
    let s : State := { s with wb := { s.wb with backupFail := true, effMib := 64, coverTeeth := 0 } }
    .next (if was then s else s.smartEvent 4 0).settle
  else .next s

/-- BACKUP_FAIL_END (R216). -/
def execBackupFailEnd (s : State) : Host.Outcome State Fault Refusal :=
  if 100000 ≤ s.wb.coverTeeth ∧ s.wb.backupFail then
    let s : State := { s with wb := { s.wb with backupFail := false, shortTeeth := 0, zeroTeeth := 0 } }
    .next ({ s with wb := { s.wb with effMib := s.effWindow } } : State).settle
  else .next s

/-! ### The dump starts (R218, R219, R221, R225) -/

/-- The slots the dump saves, in index order. -/
def State.dumpUnits (s : State) : List WbSlot :=
  s.map.wbi.filterMap fun (_, (_, _, g, _)) => Table.find s.wb.slots g

/-- Channels in service as a mask. -/
def State.chMask (s : State) : Nat := (s.channelsInService.map fun c => 2 ^ c).sum

/-- What the dump's frames hold. -/
def State.dumpImage (s : State) (cause serial set : Nat) : DumpImage :=
  { serial := serial, cause := cause, set := set, wt := s.wheel.wt, wd := s.dumpW, chMask := s.chMask, dies := s.populatedDies, blocks := s.img.blocksPerPlane,
    wear := s.wearTable, runs := s.stagingSegs.map fun (n, d) => (n, d.nextRun, d.staging), metaFrames := s.openPayloads,
    root := s.map.rootStaging, rootNo := s.map.rootFrames, rootPrev := s.map.rootLast, epoch := s.map.epoch,
    ledger := s.girth.ledgerNew, lseq := s.girth.lseq, ledgerPages := s.girth.ledgerBusy.map (·.1), saddlebag := s.dumpRecords, units := s.dumpUnits }
/-- Frames of a fast-cell unit. -/
def State.fpu (s : State) : Nat := 4 * s.img.planes

/-- Everything the awls hold is abandoned; a die with an operation takes Reset LUN (R219). -/
def Die.dumped (d : Die) : Die :=
  { d with hrq := [], irq := [], wkq := [], feList := [], irList := [], wkList := [], behind := [], reads := [], op := none, loaded := 0,
           resetting := d.resetting || d.op.isSome }

/-- Both heartbeats low (R261). -/
def State.heartbeatsLow (s : State) : State := (s.modPort .a fun p => { p with hbeat := false }).modPort .b fun p => { p with hbeat := false }

/-- The front end fetches nothing more, every unit of work in the main domain stands still, and the drains of map cache banks end (R365). -/
def State.stopFront (s : State) : State :=
  { s with fe := { s.fe with stopped := true, jobs := [] }, mc := { s.mc with banks := s.mc.banks.map fun (b, k) => (b, { k with draining := false }) },
           codec := { s.codec with jobs := [], recals := [] }, girth := { s.girth with recons := [] } }

/-- A dump starts, at most once between two restarts and only with an active hold set (R218, R220, R230). -/
def State.startDump (s : State) (cause : Nat) (boundaryScan : Bool) : State :=
  match s.dump.active with
  | none => s
  | some set =>
    if s.dump.since then s
    else
      let serial := s.dump.serial + 1
      let s := s.leave 0x0901 0 [serial, cause, s.wb.dirty]
      -- a dump trigger ends holding (R402)
      let s : State := if s.obs.ringOn then ({ s with obs := { s.obs with transfers := [] } } : State).endHolding else s
      let im := s.dumpImage cause serial (bit set)
      let g := if s.dumpW = 0 then 0 else s.dumpGirths im.frames
      let s := s.stopFront.heartbeatsLow
      let s : State :=
      { s with
        awl := { s.awl with dies := s.awl.dies.map fun (n, d) => (n, d.dumped),
                            chans := s.awl.chans.map fun (n, c) => (n, { c with outHost := [], outInternal := [], busy := none }) },
        plan := { s.plan with running := s.plan.dump, loading := false, loaded := false, sampled := false },
        cipher := { s.cipher with reqs := [] },
        wheel := { s.wheel with dumpedWt := s.wheel.wt },
        dump := { s.dump with since := true, serial := serial, image := some im, lost := [],
                              dumped := Table.set s.dump.dumped (bit set) (im.units.map fun w => (w.desc.nsx, w.desc.unit)),
                              run := some { cause := cause, serial := serial, set := bit set, image := im, girths := g, wd := s.dumpW, ended := [], lost := [],
                                            row := 0, boundaryScan := boundaryScan } } }
      let s := (s.dump.hold set).foldl (fun s b => s.modBlk b fun r => { r with programmed := 1 }) s
      let s := s.writeRec .dumpAnchor (.dumpAnchor 2 (bit set) serial s.chMask (s.wheel.wt % 2 ^ 48))
      if g = 0 then s.writeRec .dumpAnchor (.dumpAnchor 3 (bit set) serial s.chMask (s.wheel.wt % 2 ^ 48)) else s

/-! ### Fault stop (R451, R454) -/

/-- Key zeroization of both key sets of every slot (R217). -/
def State.zeroize (s : State) : State :=
  { s with cipher := { s.cipher with slots := s.cipher.slots.map fun (n, k) => (n, { k with current := none, previous := none }), reqs := [] } }

/-- A device self-test ends with a result (R282). -/
def State.endTest (s : State) (result : Nat) : State :=
  match s.fe.test with
  | none => s
  | some t =>
    let s := s.leave 0x0B06 0 [if t.extended then 2 else 1, result]
    let r : TestResult := { result := result, extended := t.extended, segment := t.segment, nsid := t.nsid, wt := s.wheel.wt }
    { s with fe := { s.fe with test := none, results := (r :: s.fe.results).take 20 } }

/-- A channel is paused while any holder holds its PAUSE (R373). -/
def DmaCh.paused (x : DmaCh) : Bool := x.pauseOwner || x.pauseFault || x.pauseFreq
/-- Set a holder's PAUSE; PAUSES counts a pause that begins. -/
def DmaCh.pause (x : DmaCh) (h : DmaHolder) : DmaCh :=
  let x := if x.paused then x else { x with pauses := satAdd 32 x.pauses 1 }
  match h with
  | .owner => { x with pauseOwner := true }
  | .faultSequencer => { x with pauseFault := true }
  | .freqChange => { x with pauseFreq := true }

/-- Every DMA channel paused by the fault sequencer (R375, R451). -/
def State.pauseDma (s : State) : State :=
  { s with dma := { s.dma with chans := (List.range 64).map fun c => (c, (Table.getD s.dma.chans c {}).pause .faultSequencer) } }

/-- The main domain is held in reset (R226, R451), and the VDD_CORE request jumps to code 20 (R459). -/
def State.holdMain (s : State) (holds : List Nat) : State :=
  { s.heartbeatsLow with pkg := { s.pkg with vcoreReq := 20 }, dump := { s.dump with inReset := true, holds := holds }, dram := { s.dram with selfRefresh := true } }

/-- Fields of the fault-stop record after its header and extension words. -/
def FaultStop.fields (f : FaultStop) : List Nat := [f.cause, f.path, f.dump, f.pending, f.lost, f.firstFatal]

/-- Fault stop is entered. PATH 0 to 4 as R454 gives them; the record is programmed with precedence 1. -/
def State.enterFaultStop (s : State) (cause path : Nat) : State :=
  if s.fault.stop.isSome then s
  else
    let possible := s.dump.active.isSome
    let dmp := if s.dump.since then 2 else if possible then 1 else 0
    let f : FaultStop := { cause := cause, path := path, dump := dmp, pending := s.fault.queue.length + s.fault.preempted.length,
                           lost := s.fault.lost, firstFatal := if path = 1 ∨ path = 2 then s.fault.fatal.getD 0 else 0 }
    let s := s.endTest 5
    let rec_ := s.record 0x0101 4 f.fields
    let s : State := { s with obs := s.obs.put rec_ }
    let s : State := { s with ts := s.ts.enqueue ⟨1, .append .persistence (.saddlebag rec_)⟩ }
    let s := if dmp = 1 then s.startDump 3 false else s
    let s := s.zeroize.pauseDma.heartbeatsLow
    let s : State :=
     { s with
      fe := { s.fe with cfs := true, stopped := true, jobs := [], ready := [], mismatches := [] },
      obs := { s.obs with frozen := true },
      fault := { s.fault with stop := some f, inHand := none, queue := [], preempted := [], made := [], fatal := none } }
    if s.dump.run.isNone then s.holdMain (s.dump.holds.filter (· ≠ 3) ++ [3]) else s

/-! ### Power-on reset: what is kept -/

def TsState.afterReset (t : TsState) : TsState :=
  let t := t.cutShort
  { ({} : TsState) with rings := t.rings, imageUsed := t.imageUsed, image := t.image, option := t.option, optionBad := t.optionBad, bad := t.bad }

/-- Members of a dump in flash that are lost: those that failed, and those whose programs had not ended when it was cut short. -/
def DumpState.lostNow (d : DumpState) : List (Nat × Nat) :=
  match d.run with
  | none => d.lost
  | some r => r.lost ++ ((List.range r.girths).flatMap fun g => (List.range (r.wd + 2)).map fun m => (g, m)).filter fun x => !r.ended.contains x

def DumpState.afterReset (d : DumpState) : DumpState :=
  { ({} : DumpState) with image := d.image, lost := d.lostNow, dumped := d.dumped, holdA := d.holdA, holdB := d.holdB, holdSerial := d.holdSerial, serial := d.serial }

/-- The rein after a power-on reset: its PERST ball keeps its level unless the supplies went. -/
def ReinPort.afterReset (p : ReinPort) (supplyLost : Bool) : ReinPort := { ({} : ReinPort) with perst := p.perst || supplyLost }

def PkgState.afterReset (p : PkgState) (supplyLost : Bool) : PkgState :=
  if supplyLost then { ({} : PkgState) with keeperA := p.keeperA, keeperB := p.keeperB, pwrfailN := p.pwrfailN, vddIo := p.vddIo }
  else { p with straps := ⟨true, false⟩, vcoreReq := 20, identRec := 0, fusesRead := false, factory := none, jtagWaiting := none, i3c := false,
                sbAnswers := [], sbWaiting := [], miReady := [] }

/-- What flash and the tree store keep of the map: tables stand for what a restart reads back (R229); what only DRAM or a register held
is gone with the next restart's own steps. -/
def KeySlot.afterReset (k : KeySlot) : KeySlot :=
  { ({} : KeySlot) with kind := k.kind, purpose := k.purpose, label := k.label, blob := k.blob, gen := k.gen, sweep := k.sweep }

/-- WT as it resumes: at the larger of the dumped WT + 1 and the highest RES_TOP found (R51). -/
def State.resumedWt (s : State) : Nat := if s.dump.serial = 0 ∧ s.ts.wtTop.isNone then 0 else max (s.wheel.dumpedWt + 1) (s.ts.wtTop.getD 0)

/-- The device after a power-on reset: the state of `State.reset` with what the drive keeps over it. A command that waits in the
queue waits on (DEDUCED, log 37). -/
def State.powerOnReset (s : State) (supplyLost : Bool) : State :=
  { State.reset with
    pending := s.pending
    free := s.free
    wheel := { wt := s.resumedWt, dumpedWt := s.wheel.dumpedWt, resTop := s.ts.wtTop.getD 0 }
    awl := { dies := (s.awl.dies.filter fun (_, d) => d.mode = .isolated).map fun (n, d) => (n, { cause := d.cause, isolatedWt := d.isolatedWt }) }
    codec := { vt := s.codec.vt.map fun (n, g) => (n, { g with queued := false }) }
    map := s.map
    blk := s.blk
    girth := { s.girth with uncUnits := 0, degradedReads := 0 }
    wb := { warnPartial := s.wb.warnPartial, warnNoDump := s.wb.warnNoDump }
    dump := s.dump.afterReset
    rein := { a := s.rein.a.afterReset supplyLost, b := s.rein.b.afterReset supplyLost, twin := { epoch := s.rein.twin.epoch } }
    fe := { spaces := s.fe.spaces, results := s.fe.results, errorCount := s.fe.errorCount, hostReads := s.fe.hostReads, hostWrites := s.fe.hostWrites,
            unitsRead := s.fe.unitsRead, unitsWritten := s.fe.unitsWritten, hostGran := s.fe.hostGran, mediaGran := s.fe.mediaGran,
            lbaStatus := s.fe.lbaStatus, sanitize := s.fe.sanitize, sanitizeStatus := s.fe.sanitizeStatus, sanitizeFailed := s.fe.sanitizeFailed }
    cipher := { slots := s.cipher.slots.map fun (n, k) => (n, k.afterReset), owner := s.cipher.owner }
    ts := s.ts.afterReset
    pkg := s.pkg.afterReset supplyLost
    media := s.media }

/-! ### The end of the dump (R226) -/

/-- The instruction that waits for the dump's end takes the balls (R465). -/
def State.takeBalls (s : State) : State :=
  match s.pkg.jtagWaiting with
  | some i => { s with pkg := { s.pkg with jtag := i, jtagWaiting := none, ballsTaken := true } }
  | none => s

/-- The main domain is held by the reasons that stand. -/
def State.holdAll (s : State) (scan : Bool) (holds : List Nat) : State := ((if scan then s.zeroize else s).holdMain holds).takeBalls

/-- The holds in force when a dump has ended: power failure, thermal trip, fault stop, boundary scan, shutdown notification. -/
def State.holdsAfter (s : State) (d : DumpRun) : List Nat :=
  let low := !s.pkg.pwrfailN
  (if low then [1] else []) ++ (if d.cause = 2 ∨ s.therm.tripped then [2] else [])
    ++ (if (d.cause = 3 ∨ s.fault.stop.isSome) ∧ !low then [3] else []) ++ (if d.boundaryScan ∨ s.pkg.jtagWaiting.isSome then [4] else [])
    ++ (if d.cause = 1 ∧ !d.boundaryScan ∧ !low then [5] else [])

/-- Shutdown is complete: no reset follows, and CC.EN restarts from the dump (R226 item 5, R236). -/
def State.shutDown (s : State) : State :=
  { s with fe := { s.fe with shst := 2 }, dump := { s.dump with shutdown := true, inReset := false, holds := [5] }, dram := { s.dram with selfRefresh := false } }

/-- What follows a dump: every hold in force is applied; a power-on reset where none is. -/
def State.afterDump (s : State) (d : DumpRun) : State :=
  if s.holdsAfter d = [] then s.powerOnReset false
  else if s.holdsAfter d = [5] then s.shutDown
  else s.holdAll (d.boundaryScan || s.pkg.jtagWaiting.isSome) (s.holdsAfter d)

/-- The sideband requests that waited for the dump are answered as in fault stop. -/
def State.answerWaiting (s : State) : State :=
  s.pkg.sbWaiting.foldl (fun s m => match m with | .tunnel e => s.tunnelStopped sidebandKey e | _ => s) { s with pkg := { s.pkg with sbWaiting := [] } }

/-- The run's end itself; a fatal fault that arose during it leads to fault stop. -/
def State.dumpOver (s : State) (d : DumpRun) : State :=
  let s : State := { s with dump := { s.dump with run := none, ended := some d.cause, lost := d.lost } }
  match s.fault.dumpFatal with | some c => s.enterFaultStop c 4 | none => s

/-- The DONE record is durable: the holds in force apply, or a power-on reset follows. -/
def State.dumpEnds (s : State) : State :=
  match s.dump.run with
  | none => s
  | some d => ((s.dumpOver d).answerWaiting).afterDump d

/-- A hold is released; the power-on reset follows the release of the last one. -/
def State.releaseHold (s : State) (h : Nat) : State :=
  if s.dump.holds.contains h then
    let left := s.dump.holds.filter fun x => decide (x ≠ h) && !(decide (h = 1) && decide (x = 3))
    if left = [] then
      match s.therm.resumed with
      | some h => (s.powerOnReset false).leave 0x1006 0 [h]
      | none => s.powerOnReset false
    else if left = [5] then s.shutDown
    else { s with dump := { s.dump with holds := left } }
  else s

/-! ### PWRFAIL_N (R218, R226) -/

/-- PWRFAIL_N_FALL (R218). -/
def execPwrfailNFall (s : State) : Host.Outcome State Fault Refusal :=
  if s.pkg.pwrfailN then
    .next { s with pkg := { s.pkg with pwrfailN := false }, dump := { s.dump with filterLow := true, filterHigh := false } }
  else .next s

/-- PWRFAIL_FILTER_EXPIRE (R218). -/
def execPwrfailFilterExpire (s : State) : Host.Outcome State Fault Refusal :=
  if !s.pkg.pwrfailN ∧ s.dump.filterLow then
    let s : State := { s with dump := { s.dump with filterLow := false } }
    .next (s.startDump 0 false).arrayPump
  else .next s

/-- PWRFAIL_N_RISE (R218, R226): a pulse shorter than the filter counts as a runt. -/
def execPwrfailNRise (s : State) : Host.Outcome State Fault Refusal :=
  if s.pkg.pwrfailN then .next s
  else
    let s := if s.dump.filterLow then s.count1 0x061 else s
    .next { s with pkg := { s.pkg with pwrfailN := true }, dump := { s.dump with filterLow := false, filterHigh := s.dump.holds.contains 1 || s.dump.run.isSome } }

/-- PWRFAIL_N_HIGH_FILTER_EXPIRE (R226). -/
def execPwrfailNHighFilterExpire (s : State) : Host.Outcome State Fault Refusal :=
  if s.pkg.pwrfailN ∧ s.dump.filterHigh then
    .next (({ s with dump := { s.dump with filterHigh := false } } : State).releaseHold 1)
  else .next s

/-! ### The running dump (R219, R222, R227) -/

/-- The die of a dump unit: unit g of channel c is on hold die g mod D_c. -/
def State.dumpDie (s : State) (d : DumpRun) (g m : Nat) : Option Nat :=
  let c := natAt s.channelsInService m
  let bs := (s.dump.hold (d.set = 1)).filter fun b => decide ((s.blkRec b).mode = .held) && s.dieServes (dieOfBlk b)
  let ds := s.populatedDies.filter fun x => decide (chOfDie x = c) && decide (2 ≤ (bs.filter fun b => dieOfBlk b = x).length)
  if ds = [] then none else ds[g % ds.length]?

/-- Hold block and fast-cell page of dump unit g of a die: its die-unit is g div D_c (R222). -/
def State.dumpPage (s : State) (d : DumpRun) (g m : Nat) : Option (Nat × Nat) :=
  match s.dumpDie d g m with
  | none => none
  | some x =>
    let c := natAt s.channelsInService m
    let bs := (s.dump.hold (d.set = 1)).filter fun b => decide ((s.blkRec b).mode = .held) && s.dieServes (dieOfBlk b)
    let n := (s.populatedDies.filter fun y => decide (chOfDie y = c) && decide (2 ≤ (bs.filter fun b => dieOfBlk b = y).length)).length
    let v := g / max 1 n
    (bs.filter fun b => dieOfBlk b = x)[v / max 1 s.img.fcPages]?.map fun b => (b, v % max 1 s.img.fcPages)

/-- A dump unit that may end: its girth is part of the run, and the unit of its channel before it has ended. -/
def DumpRun.mayEnd (d : DumpRun) (girth member : Nat) : Bool :=
  decide (girth < d.girths) && decide (member < d.wd + 2) && !d.ended.contains (girth, member) && (decide (girth = 0) || d.ended.contains (girth - 1, member))
/-- The run after a unit's end; a unit that failed, or that no die holds, is a lost member. -/
def DumpRun.unitEnd (d : DumpRun) (girth member : Nat) (good : Bool) : DumpRun :=
  { d with ended := d.ended ++ [(girth, member)], lost := if good then d.lost else d.lost ++ [(girth, member)] }
/-- Every unit of the run has ended. -/
def DumpRun.full (d : DumpRun) : Bool := decide (d.ended.length = d.girths * (d.wd + 2))

/-- A unit ends: its code when it failed; after the last one the DONE record is written. -/
def State.dumpUnitEnd (s : State) (d : DumpRun) (girth member : Nat) (ok : Bool) : State :=
  let die := s.dumpDie d girth member
  let d' := d.unitEnd girth member (ok && die.isSome)
  let s := if ok then s else s.leave 0x0909 2 [die.getD 0, girth]
  let s : State := { s with dump := { s.dump with run := some d' } }
  if d'.full then (s.writeRec .dumpAnchor (.dumpAnchor 3 d.set d.serial s.chMask (d.image.wt % 2 ^ 48))).arrayPump else s

/-- DUMP_UNIT_PROGRAM_DONE (R219, R222, R225, R227): units of a channel end in increasing g, on a die once it answers ready; a failed one is a lost
member. A unit's program begins when its data, of P and Q the girth's, has been gathered, which takes no command of its own (DEDUCED, log 87). -/
def execDumpUnitProgramDone (girth member : Nat) (ok : Bool) (s : State) : Host.Outcome State Fault Refusal :=
  match s.dump.run with
  | none => .next s
  | some d =>
    let busy := match s.dumpDie d girth member with | some x => (s.die x).resetting | none => false
    if d.mayEnd girth member ∧ !busy then .next (s.dumpUnitEnd d girth member ok) else .next s

/-- DUMP_ROW_STEP (R219): the next row of the dump plan, one nominal tooth of the reserve domain's own timing. -/
def execDumpRowStep (s : State) : Host.Outcome State Fault Refusal :=
  match s.dump.run with
  | none => .next s
  | some d => .next { s with dump := { s.dump with run := some { d with row := (d.row + 1) % 1024 } } }

end Sys2Proof.Machine
end

