-- ==== Sys2Proof/Machine/Restart.lean ====
section
/-! DEFINITION. Restart (09_write_buffer_and_power_loss R228 to R235): the case, the ledger state, the root, the map and blocks formed
again, the dumped units, the hold set, and the segment restores. After a usable dump the tables stand as the dump and flash give them
back; without one they are formed anew from the ledger pages, the snapshot, the root journal, the runs and the scan of R232. -/
namespace Sys2Proof.Machine

/-! ### Step 1: the case (R228) -/

/-- The newest anchor record of a type: set, serial, WT. -/
def TsState.anchor (t : TsState) (type : Nat) : Option (Nat × Nat × Nat) :=
  match t.newest .dumpAnchor (fun r => match r with | .dumpAnchor ty .. => ty = type | _ => false) with
  | some (.dumpAnchor _ set serial _ wt) => some (set, serial, wt)
  | _ => none
/-- The newest record of the ring is a HOLD or a BEGUN: its type. -/
def TsState.lastAnchor (t : TsState) : Nat :=
  match t.newest .dumpAnchor (fun r => match r with | .dumpAnchor ty .. => ty = 1 || ty = 2 | _ => false) with
  | some (.dumpAnchor ty ..) => ty
  | _ => 0

/-- The restart case: 1 first start, 2 no dump, 3 complete dump, 4 partial dump. A HOLD record is newer than BEGUN when its WT is later, at one WT when it
stands later in the ring (DEDUCED, log 35). -/
def TsState.restartCase (t : TsState) : Nat :=
  match t.anchor 1, t.anchor 2, t.anchor 3 with
  | none, none, none => 1
  | h, some (_, n, w), d =>
    if (match h with | some (_, _, wh) => decide (w < wh) || (decide (w = wh) && decide (t.lastAnchor = 1)) | none => false) then 2
    else if (match d with | some (_, nd, _) => decide (nd = n) | none => false) then 3 else 4
  | _, none, _ => 2

/-- The dump's parts 1 to 7 are used. -/
def State.usesDump (s : State) : Bool := (decide (s.dump.case = 3) || decide (s.dump.case = 4)) && s.dump.partsOk && s.dump.image.isSome
/-- The dump's index and data are used. -/
def State.usesUnits (s : State) : Bool := (decide (s.dump.case = 3) || decide (s.dump.case = 4)) && s.dump.unitsOk && s.dump.image.isSome

/-! ### The ledger state (R196) -/

/-- Pages were being programmed: the pair takes none after them, and a new one is opened, which the old one's last page names (DEDUCED, log 69). -/
def GirthState.freshPair (g : GirthState) (lastPage : Nat) : GirthState :=
  if g.ledgerBusy = [] then g
  else { g with linkDue := g.linkDue ++ g.pair.toList.map fun (a, b, _) => (a, b, lastPage), pair := none }

/-- Without a dump the girth engine's tables come from the ledger pages alone. A block of a set that holds no data any more has left it (DEDUCED, log 86). -/
def State.formLedger (s : State) : State :=
  let v := s.ledgerView
  let g := s.girth.freshPair (s.img.fcPages - 1)
  let next := (v.sets.map fun (k, _) => k + 1).foldl max 0
  let held (b k : Nat) : Bool := decide ((s.blkRec b).programmed ≠ 0) || decide ((Table.getD v.sets k {}).state = 1)
  { s with girth := { g with sets := v.sets, setOf := v.setOf.filter (fun (b, k) => (Table.find v.sets k).isSome && held b k), nextSet := next,
                             freeSets := (List.range next).filter (fun k => (Table.find v.sets k).isNone), ledgerNew := [], ledgerWts := [], ledgerPages := s.readable7,
                             ledgerBusy := [], intents := v.intents, retiredSince := v.retired, rootPtr := v.roots, lastLayout := v.layout } }

/-- W in force: that of the last LAYOUT entry, or of GIRTH_POLICY (R203). -/
def State.formWidth (s : State) : State :=
  { s with girth := { s.girth with w := match s.girth.lastLayout with | some (_, n, _, _) => n | none => s.img.girthW } }

/-- A die that the ledger state names and the option log does not is isolated under R99, with its channel where the cause says so (R102). -/
def State.isolateNamed (s : State) (d cause : Nat) : State :=
  if !s.dieServes d then s
  else if 9 ≤ cause then s.isolateChannel (chOfDie d) (cause - 8)
  else
    let s := (s.isolateCore d cause d).leave 0x0405 3 [d, cause]
    if s.channelDead (chOfDie d) then s.isolateChannel (chOfDie d) 3 else s
def State.isolateLedger (s : State) : State := s.ledgerView.dies.foldl (fun s (d, c, _) => s.isolateNamed d c) s

/-! ### The root and the map without a dump (R159, R229 step 4, R230) -/

/-- One root record applied. -/
def MapState.rootTake (m : MapState) (r : RootRec) : MapState :=
  let upd (n : Nat) (f : SegDesc → SegDesc) : MapState := { m with segs := Table.modify m.segs n f }
  match r with
  | .runWritten g q a => upd g fun d => { d with runs := (d.runs.filter fun (x, _) => x ≠ q) ++ [(q, some a)], nextRun := max d.nextRun (q + 1) }
  | .ckptUnit g i a => upd g fun d => { d with ckptNew := Table.set d.ckptNew i a }
  | .ckptDone g q => upd g fun d =>
      { d with ckptUnits := (List.range 22).map (fun i => (Table.find d.ckptNew i).getD (natAt d.ckptUnits i)), ckptNew := [], ckptRun := q,
               runs := d.runs.filter fun (x, _) => q ≤ x, nextRun := max d.nextRun q }
  | .segAlloc g nsx tag pos => { m with segs := Table.set m.segs g { nsx := nsx, tagKind := tag, alloc := true, dirPos := pos } }
  | .segReturn g => { m with segs := Table.del m.segs g }
  | .dirEntry nsx tag pos (some g) => { m with dirs := Table.set m.dirs (dirKey nsx tag pos) g }
  | .dirEntry nsx tag pos none => { m with dirs := Table.del m.dirs (dirKey nsx tag pos) }
  | .jobOpened j => { m with jobs := (m.jobs.filter (·.job ≠ j.job)) ++ [j] }
  | .jobState j st wt => { m with jobs := m.jobs.map fun x => if x.job = j then { x with state := st, endWt := wt } else x }
  | .renamed _ _ _ => m

/-- The snapshot that the ledger names by its index frame: its epoch and the first root journal frame after it. -/
def State.lastSnapshot (s : State) : Option (Nat × Nat) :=
  match (Table.find s.girth.rootPtr 1).bind fun a => Table.find s.media.items a with
  | some (.snapshot e base _) => some (e, base)
  | _ => none
/-- What its frames hold, those of it that flash still holds. -/
def State.snapshotData (s : State) : SnapData :=
  match s.lastSnapshot with
  | none => {}
  | some (e, _) =>
    s.media.items.foldl (fun (d : SnapData) (_, p) =>
      match p with
      | .snapFrame e' _ _ part x =>
        if e' ≠ e then d
        else
          match part with
          | .ranges _ => d
          | _ => { segs := x.segs.foldl (fun t (k, v) => Table.set t k v) d.segs, dirs := x.dirs.foldl (fun t (k, v) => Table.set t k v) d.dirs,
                   jobs := d.jobs ++ x.jobs, vt := x.vt.foldl (fun t (k, v) => Table.set t k v) d.vt, wear := x.wear.foldl (fun t (k, v) => Table.set t k v) d.wear }
      | _ => d) {}

/-- The root journal frames durable since a number, in order. -/
def State.rootFramesFrom (s : State) (base : Nat) : List (Nat × List RootRec × Nat) :=
  (s.media.items.filterMap fun (a, p) => match p with | .root n recs _ _ => if base ≤ n then some (n, (recs, a)) else none | _ => none).foldl
    (fun (t : Table (List RootRec × Nat)) (n, x) => Table.set t n x) []

/-- A segment's entries and tag records from its checkpoint units and runs. -/
def State.replaySeg (s : State) (m : MapState) (g : Nat) (d : SegDesc) : MapState :=
  let base (m : MapState) (a : Nat) : MapState :=
    match Table.find s.media.items a with
    | some (.ckpt _ _ _ es ts) => { m with entries := es.foldl (fun t (k, e) => Table.put {} t k e) m.entries, tags := ts.foldl (fun t (k, v) => Table.put 0 t k v) m.tags }
    | _ => m
  let apply (m : MapState) (r : JrnlRec) : MapState :=
    match r with
    | .entry i e => { m with entries := Table.put {} m.entries (entryKey g i) e }
    | .tag i v => { m with tags := Table.put 0 m.tags (entryKey g i) v }
  let m := d.ckptUnits.foldl base m
  d.runs.foldl (fun m (_, a) =>
    match a.bind fun a => Table.find s.media.items a with
    | some (.run _ _ recs) => recs.foldl apply m
    | _ => m) m

/-- The root from the snapshot and the root journal, and the map that its checkpoints and runs will restore. -/
def State.formRoot (s : State) : State :=
  let d := s.snapshotData
  let segs := d.segs.map fun (g, x) => (g, { x with staging := [], stagingWt := 0 })
  let (base, m) : Nat × MapState := match s.lastSnapshot with
    | some (e, b) => (b, { s.map with segs := segs, dirs := d.dirs, jobs := d.jobs, epoch := e })
    | none => (0, { s.map with segs := [], dirs := [], jobs := [] })
  let frames := s.rootFramesFrom base
  let m := (frames.flatMap fun (_, (recs, _)) => recs).foldl MapState.rootTake m
  let m : MapState := { m with entries := [], tags := [], rootStaging := [], rootChain := frames.map (fun (n, (_, a)) => (n, a)),
                               rootLast := frames.getLast?.map (fun (_, (_, a)) => a), rootFrames := ((frames.getLast?.map fun (n, _) => n + 1).getD base),
                               nextSeg := (m.segs.map fun (g, _) => g + 1).foldl max 0 }
  let m : MapState := { m with freeSegs := (List.range m.nextSeg).filter fun g => (Table.find m.segs g).isNone }
  let m := m.segs.foldl (fun m (g, d) => s.replaySeg m g d) m
  { s with map := m }

/-- The `VT_GROUP` entries of the latest snapshot (R158); the rest are as not restored. -/
def State.formVt (s : State) : State :=
  { s with codec := { s.codec with vt := s.snapshotData.vt.map fun (n, g) => (n, { g with queued := false }) } }

/-! ### The scan of R232 -/

/-- Descriptors of a closed girth's members that still hold it, in address order. -/
def State.girthUnits (s : State) (k wl : Nat) : List (Nat × UnitDesc) :=
  let r := s.setRec k
  let pages := s.img.unitPages r.fc * 32
  (dataPositions r.w wl).flatMap fun pos =>
    let b := natAt r.member pos
    if s.setOfBlk b ≠ some k then []
    else
      let lo := s.img.memberGran r.fc b wl 0 0
      s.media.items.filterMap fun (a, p) => if lo ≤ a ∧ a < lo + pages then p.unit.map fun d => (a, d) else none

/-- The tag record of a scanned unit, in a namespace with protection information. -/
def State.scanTag (s : State) (a : Nat) (d : UnitDesc) : State :=
  if ((s.spaceOf d.nsx).map Namespace.hasTags).getD false then
    match s.allocSeg d.nsx true d.unit with
    | (none, s) => s
    | (some t, s) =>
      let i := indexIn true d.unit
      let v := Table.getD s.media.tags a 0
      ({ s with map := { s.map with tags := Table.put 0 s.map.tags (entryKey t i) v } } : State).journal t (.tag i v)
  else s

/-- The descriptor's DSEQ lies at or above its context's RES_TOP, as the reservation records give it for the newest GEN (R301; DEDUCED, log 90). -/
def State.beyondTop (s : State) (d : UnitDesc) : Bool :=
  match s.ts.ctrTop d.slot with
  | some (g, top) => decide (d.kgen = decide (g % 2 = 1)) && decide (top ≤ d.dseq)
  | none => false

/-- A descriptor replaces the map entry, as a change with its journal record; `set`: units the scan itself has set, with their DSEQ. -/
def State.scanUnit (s : State) (set : Table Nat) (a : Nat) (d : UnitDesc) : Table Nat × State :=
  let key := d.nsx * 2 ^ 38 + d.unit
  let old := s.entryOf d.nsx d.unit
  let parity := (s.keySlot d.slot).kgen
  let wins : Bool := match Table.find set key with
    | none => true
    | some q => if old.kgen = d.kgen then decide (q < d.dseq) else decide (d.kgen = parity)
  if !wins ∨ s.beyondTop d then (set, s)
  else
    match s.allocSeg d.nsx false d.unit with
    | (none, s) => (set, s)
    | (some g, s) =>
      let e : MapEntry := { gaddr := a, glen := d.glen, raw := d.raw, unc := false, sdp := old.sdp, kgen := d.kgen }
      let idx := indexIn false d.unit
      let s : State := { s with map := { s.map with entries := Table.put {} s.map.entries (entryKey g idx) e } }
      (Table.set set key d.dseq, (s.journal g (.entry idx e)).scanTag a d)

/-- Array reads at addresses: each counts for its group (R125). -/
def State.readsAt (s : State) (as : List Nat) : State := as.foldl State.groupRead s
/-- The page reads of a closed girth's data members. -/
def State.girthReads (s : State) (k wl : Nat) : List Nat :=
  let r := s.setRec k
  (dataPositions r.w wl).flatMap fun pos => if s.setOfBlk (natAt r.member pos) = some k then (List.range (s.img.unitPages r.fc)).map fun p => s.img.memberGran r.fc (natAt r.member pos) wl p 0 else []

/-- Every closed girth of streams 0 to 3 in LSEQ order; the number scanned. -/
def State.scanGirths (s : State) (closes : List (Nat × Nat)) : Nat × State :=
  let mine := closes.filter fun (k, _) => decide ((s.setRec k).stream ≤ 3) && (Table.find s.girth.sets k).isSome
  let s := mine.foldl (fun s (k, wl) => s.readsAt (s.girthReads k wl)) s
  (mine.length, (mine.foldl (fun (set, s) (k, wl) => (s.girthUnits k wl).foldl (fun (set, s) (a, d) => State.scanUnit s set a d) (set, s)) (([] : Table Nat), s)).2)

/-- Restart scans the girths unless nothing was ever written or the dump holds the map; the number scanned. -/
def State.scanNow (s : State) : Nat × State := if s.dump.case = 1 ∨ s.usesDump then (0, s) else s.scanGirths s.ledgerView.closes

/-! ### Wear fields without a dump (R233) -/

def State.formWear (s : State) (bad : List (Nat × Nat)) : State :=
  let copy := s.snapshotData.wear
  let lost (b : Nat) : Bool := bad.contains (dieOfBlk b, blkNo b / 1024)
  let v := s.ledgerView
  let one (b : Nat) (r : BlockRec) : BlockRec :=
    let r := match Table.find copy b with
      | some (n, c, u, ret) => if lost b then { r with eraseCount := 0, unreadCycles := 0, unreadThis := false } else { r with eraseCount := n, unreadCycles := c, unreadThis := u, mode := if ret then .retired else r.mode }
      | none => { r with eraseCount := 0, unreadCycles := 0, unreadThis := false }
    let r := match Table.find v.done b with | some (n, c) => { r with eraseCount := n, unreadCycles := c, unreadThis := false } | none => r
    if v.retired.any (·.1 = b) then { r with mode := .retired } else r
  let recs := s.blk.recs.map fun (b, r) => (b, one b r)
  let top (d : Nat) : Nat := (recs.map fun (b, r) => if dieOfBlk b = d ∧ !lost b then r.eraseCount else 0).foldl max 0
  let recs := recs.map fun (b, r) => (b, if lost b then { r with eraseCount := top (dieOfBlk b), unreadCycles := 0 } else r)
  let s : State := { s with blk := { s.blk with recs := recs } }
  let dies := (bad.map (·.1)).eraseDups
  let s := dies.foldl (fun s d => s.leave 0x0906 2 [d, (bad.filter (·.1 = d)).length]) s
  s.leave 0x0907 0 [s.populatedDies.length * s.img.blocksPerPlane]

/-! ### Step 5: sets, blocks, pools and lists (R178, R229) -/

/-- A block's record at restart: only flash and the ledger state speak. A block in ERASE_WAIT without an intent is CLOSED until its valid granules are
known (R178 row 3; DEDUCED, log 86). -/
def State.blockBack (s : State) (b : Nat) (r : BlockRec) : BlockRec :=
  let hold := (s.dump.holdA ++ s.dump.holdB).contains b
  let ledgerBlk := s.girth.ledgerBlocks.any fun (x, y) => decide (x = b) || decide (y = b)
  let intent := s.girth.intents.any (·.1 = b)
  let inSet := (s.setOfBlk b).isSome
  let mode : BlockMode :=
    if r.mode = .retired then .retired
    else if hold then (if r.mode = .held then .held else .eraseWait)
    else if ledgerBlk then .opened
    else if intent then .eraseWait
    else if inSet then
      match r.mode with
      | .opened => .opened
      | .suspect => .suspect
      | _ => .closed
    else if r.mode = .free then .free else .eraseWait
  { r with mode := mode, toHeld := hold && decide (r.mode ≠ .held), inflight := 0, flushWait := [], forced := 0, valid := 0,
           intent := intent || (hold && decide (r.mode ≠ .held)), walked := !inSet && decide (mode = .eraseWait), summaryAt := if mode = .opened then [] else r.summaryAt }

/-- Rebuild the lists of all blocks, in BLK_ID order. -/
def State.listBlock (s : State) (b : Nat) : State :=
  let r := s.blkRec b
  if !s.dieServes (dieOfBlk b) then s
  else
    match r.mode with
    | .free => s.freeBlock b
    | .closed =>
      let s := (if r.stream ≤ 6 then s.vcAdd b else s).closedAdd b
      if r.sdMark then s.force b 3 else if r.fc ∧ r.stream ≤ 3 then s.force b 4 else s
    | .suspect => s.force b 1
    | _ => s

/-- A segment's checkpoint units and placed runs are valid. -/
def State.countChain (s : State) (d : SegDesc) : State :=
  let s := (d.ckptUnits.zipIdx).foldl (fun s (a, i) => s.validRun a (ckptGran i)) s
  d.runs.foldl (fun s (_, a) => match a with | some g => s.validRun g 4 | none => s) s

/-- What the map root and the block records name in stream 6 is valid. -/
def State.countNames (s : State) : State :=
  let s := s.map.segs.foldl (fun s (_, d) => s.countChain d) s
  let s := s.map.rootChain.foldl (fun s (_, a) => s.validRun a 8) s
  let s := s.map.snapFrames.foldl (fun s (_, a) => s.validRun a 8) s
  (s.blk.recs.flatMap fun (_, r) => r.summaryAt).foldl (fun s (_, a) => s.validRun a 8) s
/-- The girth engine as restart finds it: nothing fills or closes; entries of pages that were being programmed join the staging page. -/
def GirthState.back (g : GirthState) (lastPage wt : Nat) : GirthState :=
  let g := g.freshPair lastPage
  { g with girths := [], recons := [], streams := List.replicate 8 {}, rebuilding := [], reshaping := [], waiters := 0, refreshAt := none,
           ledgerNew := (g.ledgerBusy.flatMap fun (p, _, _) => p.entries) ++ g.ledgerNew, ledgerBusy := [],
           ledgerWts := ((g.ledgerBusy.flatMap fun (p, _, _) => p.entries) ++ g.ledgerNew).map fun _ => wt }

/-- The fold list by CLOSE_WT (R168). -/
def State.foldOrder (s : State) : State :=
  let t : Table Nat := (Table.getD s.blk.forced 4 []).foldl (fun t b => Table.set t (s.wtOf (s.blkRec b).closeWt * 67108864 + b) b) []
  { s with blk := { s.blk with forced := Table.put [] s.blk.forced 4 (t.map (·.2)) } }

/-- Block records and every list they stand in. -/
def State.formRecs (s : State) : State :=
  let recs := s.blk.recs.map fun (b, r) => (b, s.blockBack b r)
  let dies : Table DieLists := s.blk.dies.map fun (d, l) => (d, { fresh := l.fresh })
  let s : State := { s with blk := { s.blk with recs := recs, vc := [], forced := [], active := [], dies := dies } }
  ((recs.map (·.1)).foldl State.listBlock s).foldOrder.countNames

/-- Sets that were filling end with END_REASON 0; those being evacuated stand as ended (R229). -/
def State.endOpenSets (s : State) : State :=
  let s := ((s.girth.sets.filter fun (_, r) => r.state = 1).map (·.1)).foldl (fun s k => s.endSet k 0) s
  { s with girth := { s.girth with sets := s.girth.sets.map fun (k, r) => (k, { r with state := 2 }) } }

/-- The rebuild list, in the order of the MEMBER_LOST entries of the ledger state, the reshape list and RB (R201, R204). -/
def State.formRebuild (s : State) : State :=
  let entries := (s.readable7.flatMap fun p => p.entries ++ p.refresh) ++ s.girth.ledgerNew
  let rows := (entries.foldl LedgerView.take {}).rebuild.filter fun (k, _) => (Table.find s.girth.sets k).isSome && !s.setEmpty k
  let reshape := match s.girth.lastLayout with
    | some (_, _, _, 0) => (s.girth.sets.filter fun (_, r) => r.w ≠ s.girth.w).map (·.1)
    | _ => []
  { s with girth := { s.girth with rebuild := rows, reshape := reshape, rb := !rows.isEmpty || !reshape.isEmpty } }

/-- Step 5: set records, block records, pools and lists. -/
def State.formBlocks (s : State) : State :=
  let s : State := { s with girth := s.girth.back (s.img.fcPages - 1) s.wheel.wt }
  let s := (s.formRecs.endOpenSets).formRebuild
  State.checkLayout ((s.girth.sets.map (·.1)).foldl State.closeSetBlocks s) 0

/-- What only DRAM or a register held of the map and the buffer. -/
def State.clearVolatile (s : State) : State :=
  let open_ := s.dump.image.map (·.metaFrames)
  let pend (g q : Nat) : Bool := ((open_.getD []).any fun p => match p with | .run g' q' _ => decide (g' = g) && decide (q' = q) | _ => false)
  let roots := (open_.getD []).filterMap fun p => match p with | .root n _ _ _ => some n | _ => none
  let chain := s.map.rootChain.filter fun (n, _) => !roots.contains n
  { s with
    map := { s.map with
      segs := s.map.segs.map (fun (g, d) => (g, { d with restored := false, ckptBusy := false, buffered := 0, ckptNew := [], ckptSafe := [],
                                                         runs := d.runs.map fun (q, a) => (q, if pend g q then none else a) })),
      wbi := [], closing := [], awaitedRuns := [], snapNew := [], snapLeft := 0, ckptAgain := [], marks := [], onDemand := [], background := none, restoring := true, badBlocks := [],
      rootChain := chain, rootLast := chain.getLast?.map (·.2), poolTold := false },
    wb := { s.wb with slots := [], freeChunks := [], nextChunk := 0, leftChunks := [], dirty := 0 },
    fe := { s.fe with jobs := [] } }

/-! ### Step 6: the dumped units, staging and records -/

/-- The stream of a dumped unit: that of its namespace's placement handle 0 (R144) (DEDUCED, log 36). -/
def State.dumpStream (s : State) (nsx : Nat) : Nat :=
  if s.map.fdp then ((s.spaceOf nsx).map fun n => n.handles.headD 0).getD 0 else 0

/-- Insert one dumped unit into the buffer and the index. -/
def State.insertUnit (s : State) (w : WbSlot) : State :=
  let n := s.dumpStream w.desc.nsx
  match s.takeSlot n w.desc.glen with
  | none => s
  | some (g, s) =>
    let s : State := { s with wb := { s.wb with slots := Table.set s.wb.slots g { w with readers := 0 } } }
    (s.wbiInsert w.desc.nsx w.desc.unit g w.desc.glen).queuePayload n (.buffered g w.desc w.tags w.data)

/-- A dumped unit that is not recovered: UNC, once its segment may take the change, and listed (R231). -/
def State.loseUnit (s : State) (w : WbSlot) : State :=
  match s.allocSeg w.desc.nsx false w.desc.unit with
  | (some _, s) => { s with map := { s.map with marks := s.map.marks ++ [(w.desc.nsx, w.desc.unit, w.desc.glen)] },
                            fe := { s.fe with lbaStatus := s.fe.lbaStatus ++ [w.desc.nsx * 2 ^ 38 + w.desc.unit] } }
  | (none, s) => s

def State.loadUnits (s : State) : State :=
  match s.dump.image with
  | none => s
  | some im =>
    if !s.usesUnits then s
    else (im.units.zipIdx).foldl (fun s (w, i) => if s.dump.lostSlots.contains i then s.loseUnit w else s.insertUnit w) s

/-- Stream 6 content that is written again as it was: runs, root journal frames and moved frames. Checkpoints, summaries and snapshots that had not closed
are made anew (DEDUCED, log 36). -/
def Payload.writtenAgain : Payload → Bool
  | .run .. => true
  | .root .. => true
  | .moved .. => true
  | _ => false
/-- Stream 6 content whose girth had not closed is written again. -/
def State.loadMeta (s : State) : State :=
  match s.dump.image with
  | some im => if s.usesDump then (im.metaFrames.filter Payload.writtenAgain).foldl (fun s p => s.queuePayload 6 p) s else s
  | none => s

/-- The ring starts: the restored records, code 0x0001, the records held (R404). -/
def State.startRing (s : State) : State :=
  let recs := match s.dump.image with | some im => if s.usesDump then im.saddlebag else [] | none => []
  let serial := if s.usesDump then s.dump.serial else 0
  let o := recs.foldl (fun o r => o.ringWrite r) s.obs
  let o := (o.count 0x0C0 0x7FF 1).ringWrite (s.record 0x0001 0 [serial, recs.length])
  ({ s with obs := { o with ringOn := true } } : State).endHolding

/-- Codes and Critical Warning bit 4 of the restart (R216, R229, R231, R232). -/
def State.restartCodes (s : State) (girths : Nat) : State :=
  let was := s.backupWarning
  let partial_ := decide (s.dump.case = 4) || (decide (s.dump.case = 3) && (!s.usesDump || decide (s.dump.lostSlots ≠ [])))
  let none_ := decide (s.dump.case ≠ 1) && !s.usesDump
  let s := if s.dump.case = 3 ∧ s.usesDump then s.leave 0x0902 0 [s.dump.serial, (s.dump.image.map (·.frames)).getD 0] else s
  let s := if partial_ then s.leave 0x0903 3 [s.dump.lostSlots.length] else s
  let s := if none_ then s.leave 0x0904 3 [girths] else s
  let good := decide (s.dump.case = 3) && !partial_
  let s : State := { s with wb := { s.wb with warnPartial := if good then false else s.wb.warnPartial || partial_,
                                              warnNoDump := if good then false else s.wb.warnNoDump || none_ },
                            dump := { s.dump with clean := good } }
  if !was && s.backupWarning then s.smartEvent 4 0 else s

/-- Write counters resume (12_cipher R304); 16,777,216 is 2^24 and 281,474,976,710,656 is 2^48. -/
def State.resumeAt (s : State) (n g at_ top : Nat) : State :=
  let s := s.modSlot n fun k => { k with gen := g, counter := at_, resTop := top }
  if top < 281474976710656 then s.writeRec .ctrRes (.ctrRes n g (top + 16777216)) else s.countEnds n

def State.resumeCounter (s : State) (n : Nat) : State :=
  let best := s.ts.ctrTop n
  let g := max (s.keySlot n).gen ((best.map (·.1)).getD 0)
  let top := match best with | some (g', t) => if g' = g then t else 0 | none => 0
  if s.dump.clean || best.isNone then s.resumeAt n g top top
  else if top + 16777216 ≤ 281474976710656 then (s.leave 0x0C08 0 [n, 16777216]).resumeAt n g (top + 16777216) (top + 16777216)
  else (s.leave 0x0C08 0 [n, 281474976710656 - top]).resumeAt n g 281474976710656 281474976710656

/-! ### Step 7: the hold set and admission (R220, R229) -/

/-- First start: four blocks of each die, the first two for set A and the next two for set B. -/
def State.firstHold (s : State) : State :=
  (s.populatedDies.filter s.dieServes).foldl (fun s d =>
    (List.range 4).foldl (fun s i =>
      match s.takeHold d with
      | none => s
      | some (b, s) =>
        if i < 2 then { s with dump := { s.dump with holdA := s.dump.holdA ++ [b] } }
        else { s with dump := { s.dump with holdB := s.dump.holdB ++ [b] } }) s)
    { s with dump := { s.dump with holdDue := true, holdTarget := some false } }

/-- The set that step 7 makes active: the other one than the dump wrote, or than the newest HOLD record names where no dump is used. -/
def State.nextHold (s : State) : Bool :=
  match s.ts.anchor (if s.dump.case = 2 then 1 else 2) with
  | some (b, _, _) => decide (b ≠ 1)
  | none => true

/-- The end of step 6: step 7 writes its HOLD record. -/
def State.beginHold (s : State) : State :=
  if s.dump.case = 1 then s.firstHold.holdCheck
  else
    let s : State := { s with dump := { s.dump with holdTarget := some s.nextHold } }
    s.writeHold

/-- An open job of the root starts its scan again, with code 0x0605. -/
def State.restoreJobs (s : State) : State :=
  s.map.jobs.foldl (fun s j => if j.isOpen then (s.modJob j.job fun j => s.jobScan j).leave 0x0605 0 [j.job, j.serial] else s) s

/-- A CLOSED block without a valid granule once every segment is restored: it goes to ERASE_WAIT (R178 row 3). -/
def State.emptyBlock (s : State) (b : Nat) : State :=
  let r := s.blkRec b
  if r.mode = .closed ∧ r.valid = 0 ∧ r.stream ≤ 6 ∧ s.dieServes (dieOfBlk b) then ((s.unlist b).modBlk b fun r => { r with mode := .victim, walked := true }).victimDone b else s

/-- The background restore has ended: valid counts are final, and codes 0x0704 and 0x0908 are left (R178, R235). -/
def State.restoreEnds (s : State) : State :=
  let s := (s.blk.recs.map (·.1)).foldl State.emptyBlock s
  let n := s.map.segs.length
  (s.leave 0x0704 0 [n]).leave 0x0908 0 [n]

/-- The next segment of the background restore: the lowest not restored that no on-demand restore works on; none left, it ends. -/
def State.nextRestore (s : State) : State :=
  let left := (s.map.segs.filter fun (_, d) => d.alloc && !d.restored).map (·.1)
  match left.find? fun g => !s.map.onDemand.contains g with
  | some g => { s with map := { s.map with background := some g } }
  | none =>
    let s : State := { s with map := { s.map with background := none, restoring := decide (left ≠ []) } }
    if left = [] ∧ s.dump.case ≠ 1 then s.restoreEnds else s

/-- Erases whose intent was durable are made again, with code 0x0703 (R178). -/
def State.repeatErases (s : State) : State :=
  s.girth.intents.foldl (fun s (b, fc) =>
    if s.dieServes (dieOfBlk b) ∧ (s.blkRec b).mode = .eraseWait then (s.leave 0x0703 0 [dieOfBlk b, blkNo b]).queueErase b fc .erase else s) s

/-- The end of step 7: admission. -/
def State.admission (s : State) : State :=
  let s := if s.dump.case = 1 ∧ s.blk.u0.isNone then ({ s with blk := { s.blk with u0 := some s.usable } } : State).writeRec .optionLog (.optU0 s.usable) else s
  let s := (s.cipher.slots.map (·.1)).foldl State.resumeCounter s
  let staged := s.stagingSegs.map fun (g, d) => (g, d.nextRun)
  let s : State := { s with
    dump := { s.dump with active := s.dump.holdTarget, holdTarget := none, since := false, step := 8, shutdown := false, ended := none, holds := [], inReset := false,
                          consumeRuns := staged, consumeRoot := if s.map.rootStaging = [] then none else some s.map.rootFrames,
                          consumeLedger := if s.usesDump then (s.dump.image.map fun im => (im.ledgerPages.flatMap (·.entries)) ++ im.ledger).getD [] else [] },
    fe := { s.fe with admits := true, stopped := false, shst := 0 } }
  let s := s.repeatErases.restoreJobs.nextRestore
  -- hold blocks whose erase was due
  (s.dump.holdA ++ s.dump.holdB).foldl (fun s b =>
    if (s.blkRec b).toHeld ∧ s.dieServes (dieOfBlk b) ∧ s.dump.case ≠ 1 ∧ !(s.girth.intents.any (·.1 = b)) then s.holdErase b else s) s

/-! ### Step 8: the dump is consumed (R227, R230) -/

/-- Blocks of the dump whose programs failed: unit g of channel position m lies in hold block (g div D) div FC_PAGES of its die (R222). -/
def State.failedHold (s : State) (set : Bool) : List Nat :=
  (s.dump.lost.filterMap fun (g, m) =>
    let c := natAt s.channelsInService m
    let bs := (s.dump.hold set).filter fun b => chOfDie (dieOfBlk b) = c
    let ds := s.populatedDies.filter fun x => decide (chOfDie x = c) && decide (2 ≤ (bs.filter fun b => dieOfBlk b = x).length)
    if ds = [] then none
    else
      let d := natAt ds (g % ds.length)
      (bs.filter fun b => dieOfBlk b = d)[g / ds.length / max 1 s.img.fcPages]?).eraseDups

/-- The dump's blocks enter ERASE_WAIT, to return as the spare set; failing ones are retired. Hold blocks of either set that an earlier dump has written, which
is never taken again, go the same way. -/
def State.consume (s : State) : State :=
  let set := match s.dump.image with | some im => decide (im.set = 1) | none => !(s.dump.active.getD false)
  let s := (s.failedHold set).foldl (fun s b => if (s.blkRec b).mode = .retired then s else s.retire b 2) s
  let s := (s.dump.holdA ++ s.dump.holdB).foldl (fun s b =>
    if (s.blkRec b).mode = .held ∧ (s.blkRec b).programmed ≠ 0 then
      s.modBlk b fun r => { r with mode := .eraseWait, toHeld := true, wantFc := true, walked := true }
    else s) s
  { s with dump := { s.dump with step := 9, image := none, lost := [] } }

def State.mayConsume (s : State) : Bool := decide (s.dump.consumeRuns = []) && s.dump.consumeRoot.isNone && decide (s.dump.consumeLedger = [])

/-! ### The steps (R229) -/

/-- Step 6 of R229: the scan, the dumped units and other parts, the ring, and the restart's records. -/
def State.scanAndLoad (s : State) : State :=
  let (n, s) := s.scanNow
  ((s.loadUnits.loadMeta).startRing).restartCodes n

/-- Step 3: the dump is read, lost members rebuilt; `found`: what besides did not decode (R231). -/
def State.readDump (s : State) (found : RestartFound) : State :=
  let lost := s.dump.lost
  match s.dump.image with
  | none => { s with dump := { s.dump with partsOk := found.partsOk, unitsOk := found.partsOk || found.indexOk, lostSlots := found.lostSlots } }
  | some im =>
    let parts := found.partsOk && im.partsWhole s.fpu lost
    { s with dump := { s.dump with partsOk := parts, unitsOk := parts || (found.indexOk && im.indexWhole s.fpu lost),
                                   lostSlots := (found.lostSlots ++ im.slotsLost s.fpu lost 0 0 im.units).eraseDups } }

/-- RESTART_STEP_DONE (R229). The work of step k stands at its end; the ledger state of step 2 is formed at step 4, once step 3 has
told whether the dumped frames join it. -/
def execRestartStepDone (found : RestartFound) (s : State) : Host.Outcome State Fault Refusal :=
  match s.dump.step with
  | 1 => .next { s with dump := { s.dump with case := s.ts.restartCase, step := 2 } }
  | 2 => .next { s with dump := { s.dump with step := 3 } }
  | 3 => .next { s.readDump found with dump := { (s.readDump found).dump with step := 4 } }
  | 4 =>
    let s := s.clearVolatile
    let s := if s.dump.case = 1 then s else (if s.usesDump then s else s.formLedger.formRoot.clearVolatile).formVt
    .next { s.formWidth with dump := { s.formWidth.dump with step := 5 } }
  | 5 =>
    let s := if s.dump.case = 1 ∨ s.usesDump then s else s.formWear found.badWearDies
    .next (({ s with dump := { s.dump with step := 6 } } : State).formBlocks)
  | 6 =>
    let s := s.scanAndLoad.isolateLedger
    .next (({ s with dump := { s.dump with step := 7 } } : State).beginHold).arrayPump
  | 7 => if s.dump.holdSafe then .next ({ s.admission with dump := { s.admission.dump with holdSafe := false }, ts := { s.admission.ts with bootStep := 9 } } : State).settle else .next s
  | 8 => if s.mayConsume then .next s.consume.settle else .next s
  | _ => .next s

/-- The array reads of a segment's restore: 12 page reads to a checkpoint unit, 4 of the last one, and one to a run (R125, R234). -/
def State.segmentReads (s : State) (seg : Nat) : List Nat :=
  let d := s.seg seg
  (d.ckptUnits.zipIdx.flatMap fun (a, i) => (List.range (ckptGran i / 32)).map fun p => a + 32 * p) ++ d.runs.filterMap (·.2)

/-- SEGMENT_RESTORE_DONE (R234, R235): RESTORED is set, its runs count as valid, and what waited goes on. `lost`: indexes of entries
that could not be rebuilt; one without a run counts as one of eight granules (DESIGN CHOICE, log 85). -/
def execSegmentRestoreDone (seg : Nat) (lost : List Nat) (s : State) : Host.Outcome State Fault Refusal :=
  if (s.map.background = some seg ∨ s.map.onDemand.contains seg) ∧ (s.seg seg).alloc then
    let first := s.map.restoring
    let s := s.readsAt (s.segmentReads seg)
    let s := lost.foldl (fun s i =>
      let old := s.entryAt seg i
      let e : MapEntry := { old with unc := true, glen := if old.glen = 0 then 8 else old.glen }
      let u := (s.seg seg).dirPos * 655360 + i
      { s with map := { s.map with entries := Table.put {} s.map.entries (entryKey seg i) e },
               fe := { s.fe with lbaStatus := s.fe.lbaStatus ++ [(s.seg seg).nsx * 2 ^ 38 + u] } }) s
    let s := if lost = [] then s else s.leave 0x0602 3 [seg, lost.length]
    let mine := s.map.entries.filter fun (k, _) => k / 1048576 = seg
    let tags := (s.map.tags.filter fun (k, _) => k / 1048576 = seg).length
    let mapped := if (s.seg seg).tagKind then tags else (mine.filter fun (_, e) => e.counts).length
    let already := (s.seg seg).restored
    let s := if already || (s.seg seg).tagKind || !first then s
             else mine.foldl (fun s (_, e) => if e.isRun then s.validRun e.gaddr e.glen else s) s
    let s := s.modSeg seg fun d => { d with restored := true, mapped := mapped,
                                            buffered := (s.map.wbi.filter fun (_, (n, u, _, _)) => decide (n = d.nsx) && decide (u / segUnits d.tagKind = d.dirPos)).length }
    let s : State := { s with map := { s.map with onDemand := s.map.onDemand.filter (· ≠ seg), badBlocks := s.map.badBlocks.filter (fun k => k / 65536 ≠ seg),
                                                  background := if s.map.background = some seg then none else s.map.background } }
    let s := if s.map.restoring ∧ s.map.background.isNone then s.nextRestore else s
    .next s.settle
  else .next s

end Sys2Proof.Machine
end

