-- ==== Sys2Proof/Machine/Wheel.lean ====
section
/-! DEFINITION. The wheel's edges, states and phase (02_wheel R30 to R54): PACE_EDGE, PTM_EXCHANGE_DONE, EDGE_WINDOW_CLOSE,
HOLDOVER_GUARD_EXCEEDED, FREQ_CLAMP_PERSIST, WT_RESERVE and WHEEL_STATUS. Times of edges are in 2.5 ns (R35). -/
namespace Sys2Proof.Machine

/-! ### Quantities -/

/-- Nominal tooth in ns (R30). -/
def WheelCfg.toothNs (c : WheelCfg) : Nat := c.toothCycles * 10
/-- Nominal period of the configured source in 2.5 ns. -/
def WheelCfg.period (c : WheelCfg) : Nat :=
  if c.source = 1 then
    match c.paceMode with
    | 0 => 400000000
    | 1 => 1024 * c.toothCycles * 4
    | _ => c.toothCycles * 4
  else 1024 * c.toothCycles * 4
/-- OFFSET and TARGET (R33). -/
def WheelState.offset (w : WheelState) : Nat := w.cfg.station * w.cfg.phaseStride % 1024
def WheelState.target (w : WheelState) : Nat := (w.sysPhase + 1024 - w.offset) % 1024
/-- LT less TARGET modulo 1,024, and the shorter distance (R45). -/
def WheelState.lag (w : WheelState) : Nat := (w.lt + 1024 - w.target) % 1024
def WheelState.distance (w : WheelState) : Nat := min w.lag (1024 - w.lag)
/-- The guard in ps (R40). -/
def WheelState.guardPs (w : WheelState) : Nat := w.cfg.guardTeeth * w.cfg.toothNs * 1000 / 2
/-- Half-width of the acceptance window (R39). -/
def WheelState.halfWidth (w : WheelState) : Nat :=
  let base := w.cfg.lockWindow * 4
  match w.mode with
  | .locked => base
  | .holdover => base + w.errBoundPs / 2500
  | .free => base + w.errBoundPs / 2500
  | .acquire => base + w.cfg.period * 200 / 1000000

/-- A table of 33 entries for -40 to 120 degrees in steps of 5, interpolated at a temperature in 0.25 degrees; the end entry holds outside (R47);
what is below one unit of the table is cut off downward (DESIGN CHOICE, log 79). -/
def interpolate (t : List Int) (temp : Int) : Int :=
  if temp ≤ -160 then intAt t 0
  else if 480 ≤ temp then intAt t 32
  else
    let x := Int.toNat (temp + 160)
    let a := intAt t (x / 20)
    a + (intAt t (x / 20 + 1) - a) * (x % 20 : Nat) / 20
/-- comp(T) in ppb: the table's entries, in units of 10 ppb, are taken in ppb before they are interpolated. -/
def State.compNow (s : State) : Int := match s.wheel.oscTemp with | some t => interpolate (s.img.wheelComp.map (10 * ·)) t | none => 0

/-- Clamp between two bounds. -/
def clampInt (lo hi x : Int) : Int := max lo (min hi x)
/-- FREQ_CORR is held within ±200,000 ppb (R30). -/
def clampFreq (x : Int) : Int := clampInt (-200000) 200000 x

/-! ### Slewing (R38, R45) -/

/-- The slew in ppb: teeth last longer while LT leads TARGET and shorter while it trails, by SLEW_MAX. -/
def WheelState.slewCorr (w : WheelState) : Int :=
  if w.slewing then (if w.lag ≤ 512 then (w.cfg.slewMax : Int) * 1000 else -((w.cfg.slewMax : Int) * 1000)) else 0
/-- FREQ_CORR is the correction with the slew, within the clamp; a value off the clamp breaks the round at it (R30, R31). -/
def WheelState.steer (w : WheelState) : WheelState :=
  let f := clampFreq (w.baseCorr + w.slewCorr)
  { w with freqCorr := f, clampedRound := w.clampedRound && decide (f.natAbs = 200000) }
/-- The correction without the slew changes. -/
def WheelState.correct (w : WheelState) (base : Int) : WheelState := ({ w with baseCorr := base } : WheelState).steer
/-- The error that is left is removed by slewing; none is left when LT is at TARGET. -/
def WheelState.slew (w : WheelState) (on : Bool) : WheelState :=
  let on := on && decide (w.lag ≠ 0)
  ({ w with slewing := on, slewAcc := if on && w.slewing then w.slewAcc else 0 } : WheelState).steer
/-- LT is compared with TARGET: a distance above STEP_THRESHOLD is stepped at a local round boundary, any other is slewed. -/
def WheelState.comparePhase (w : WheelState) : WheelState :=
  let step := decide (w.cfg.stepThreshold < w.distance)
  ({ w with stepDue := step } : WheelState).slew (!step)
/-- A tooth that is slewed moves the reference by SLEW_MAX millionths of a tooth against it, and each whole tooth of that moves TARGET one
nearer to LT; the slew ends where they meet. -/
def WheelState.slewTooth (w : WheelState) : WheelState :=
  if w.slewing then
    let acc := w.slewAcc + w.cfg.slewMax
    if acc < 1000000 then (({ w with slewAcc := acc } : WheelState).slew true)
    else
      let phase := if w.lag = 0 then w.sysPhase else if w.lag ≤ 512 then (w.sysPhase + 1) % 1024 else (w.sysPhase + 1023) % 1024
      ({ w with slewAcc := acc - 1000000, sysPhase := phase } : WheelState).slew true
  else w
/-- The period as the corrected teeth measure it, in 2.5 ns divided by 10^9: the reference's edges do not follow a slew (R30, R39). -/
def WheelState.periodNow (w : WheelState) : Nat := Int.toNat ((w.cfg.period : Int) * (1000000000 + clampFreq w.baseCorr))
/-- The predicted time of the next edge in 2.5 ns, to the nearest (DESIGN CHOICE, log 79). -/
def nearest (p : Nat) : Nat := (p + 500000000) / 1000000000

/-! ### States (R40) -/

/-- A change of state: its record and its event. -/
def State.wheelTo (s : State) (m : WheelMode) (code sev : Nat) : State :=
  let s : State := { s with wheel := { s.wheel with mode := m, good := 0, missRun := 0 } }
  (s.leave code sev []).vendorEvent 0x02 0xC0

/-- A tooth's length of holdover passes (R40): ERR_BOUND grows by 0.5 µs for each second. -/
def WheelState.holdOn (w : WheelState) : WheelState :=
  if w.errGrows then
    let h := w.holdNs + w.cfg.toothNs
    { w with holdNs := h, errBoundPs := w.errBoundPs + (h / 2000 - w.holdNs / 2000) }
  else w

/-- Mean of INTEG over the last LOCKED round boundaries (R48), rounded down (DESIGN CHOICE, log 79). -/
def meanInteg (xs : List Int) : Int := if xs = [] then 0 else xs.foldl (· + ·) 0 / (xs.length : Int)

/-- LOCKED falls to HOLDOVER; a PTM source with FAILOVER moves to the other rein (R44, R48). -/
def State.toHoldover (s : State) (code : Nat) : State :=
  let w := s.wheel
  let integ := meanInteg w.integHist
  let s : State := { s with wheel := ((({ w with integ := integ, holdNs := 0, errBoundPs := w.phaseErr.natAbs * 1000, errGrows := true } : WheelState).slew false).correct (w.comp + integ)) }
  let s := s.wheelTo .holdover code 2
  if 2 ≤ w.sourceInUse ∧ w.cfg.failover then
    let s : State := { s with wheel := { s.wheel with sourceInUse := 5 - w.sourceInUse, failedOver := true, predicted := none } }
    s.wheelTo .acquire 0x0207 1
  else s

/-- LOCKED is reached: LT is compared with TARGET (R45); the bound of the holdover that ended returns to 0 (DESIGN CHOICE, log 79). -/
def State.toLocked (s : State) : State :=
  let s := s.wheelTo .locked 0x0201 0
  let w := s.wheel
  { s with wheel := ({ w with good := 8, errGrows := false, failedOver := false, keepCorr := false, holdNs := 0, errBoundPs := 0 } : WheelState).comparePhase }

/-- ACQUIRE or FREE is entered by a configuration; FREQ_CORR is kept until the wheel has locked again, and ERR_BOUND returns to 0
(R38, R40; DESIGN CHOICE, log 79). -/
def State.wheelSource (s : State) : State :=
  let s : State := { s with wheel := { s.wheel with sourceInUse := s.wheel.cfg.source, predicted := none, failedOver := false, errGrows := false, holdNs := 0, errBoundPs := 0,
                                                    stepDue := false, slewing := false, slewAcc := 0, baseCorr := s.wheel.freqCorr, keepCorr := true } }
  if s.wheel.cfg.source = 0 then s.wheelTo .free 0x0205 0 else s.wheelTo .acquire 0x020B 0

/-- The configuration is taken at the end of step 3 of R418; LT starts at TARGET (R9, R33, R54). -/
def State.startWheel (s : State) (c : WheelCfg) : State :=
  let w : WheelState := { s.wheel with cfg := c, next := none, sourceInUse := c.source, mode := if c.source = 0 then .free else .acquire }
  { s with wheel := { w with lt := w.target } }

/-! ### Edges (R35, R39, R42, R43) -/

/-- An expected edge is missed. -/
def State.missedEdge (s : State) : State :=
  let w := s.wheel
  let s : State := { s with wheel := { w with missed := satAdd 32 w.missed 1, missRun := w.missRun + 1, good := 0, predicted := w.predicted.map (· + w.periodNow) } }
  let s := s.count1 0x021
  if w.mode = .locked ∧ 2 ≤ s.wheel.missRun then s.toHoldover 0x0202 else s

/-- An edge too early after the last accepted one is ignored (R43 1, 2). -/
def State.fastEdge (s : State) : State :=
  let w := s.wheel
  let s : State := { s with wheel := { w with fast := satAdd 32 w.fast 1, fastRound := w.fastRound + 1, good := if w.mode = .holdover then 0 else w.good } }
  let s := s.count1 0x022
  if 16 < s.wheel.fastRound then
    if w.mode = .locked then s.toHoldover 0x0203
    else if w.mode = .acquire then { s with wheel := { s.wheel with good := 0 } }
    else s
  else s

/-- INTEG and FREQ_CORR at a good edge in LOCKED (R42); while the wheel slews, the slew stands in place of the proportional term, so that the
limit of SLEW_MAX holds for both (DEDUCED, log 79). -/
def State.phaseLoop (s : State) (err : Int) : State :=
  let w := s.wheel
  let integ := w.integ + Int.shiftRight err s.img.kiShift
  let base := w.comp + integ
  let slew : Int := (w.cfg.slewMax : Int) * 1000
  let want := if w.slewing then base else clampInt (base - slew) (base + slew) (base + Int.shiftRight err s.img.kpShift)
  { s with wheel := ({ w with integ := integ, phaseErr := err * 5 / 2 } : WheelState).correct want }

/-- The reference sets SYS_PHASE. Once LT has met TARGET in LOCKED, an edge that comes shortly before its own tooth begins leaves the count, which
reaches the value with that tooth; any other difference is slewed (R33; DEDUCED, log 79). -/
def WheelState.takePhase (w : WheelState) (phase : Nat) : WheelState :=
  if w.mode = .locked ∧ w.lag = 0 ∧ phase = (w.sysPhase + 1) % 1024 then w
  else
    let w : WheelState := { w with sysPhase := phase }
    if w.mode = .locked ∧ !w.stepDue ∧ w.filler = 0 then w.slew true else w

/-- SYS_PHASE and S at an accepted edge (R33, R35). In 1 pulse per tooth mode the first accepted edge before any arm is at phase 0
(DESIGN CHOICE, log 79). -/
def WheelState.edgePhase (w : WheelState) (t masterNs : Nat) : WheelState :=
  let p := max w.cfg.period 1
  let n := match w.lastEdge with | some l => (t - l + p / 2) / p | none => 0
  if w.cfg.source = 1 then
    let load := w.refArm && decide (w.cfg.paceMode < 2)
    let s := match w.refSecondS with | some x => if w.cfg.paceMode = 0 then x + n else x | none => 0
    let s := if load then w.cfg.refSecond else s
    let phase := match w.cfg.paceMode with
      | 0 => s * (100000000 / w.cfg.toothCycles) % 1024
      | 1 => 0
      | _ => if w.refArm then w.cfg.refSecond % 1024 else (w.refPhase + n) % 1024
    ({ w with refSecondS := some s, refArm := false, refPhase := phase } : WheelState).takePhase phase
  else w.takePhase (masterNs / max w.cfg.toothNs 1 % 1024)

/-- A good edge. -/
def State.goodEdge (s : State) (t masterNs : Nat) : State :=
  let w := s.wheel
  let s := match w.mode, w.predicted with
    | .locked, some p => s.phaseLoop ((t : Int) - nearest p)
    | _, _ => s
  let w := (s.wheel.edgePhase t masterNs)
  let next := match w.mode, w.predicted with
    | .locked, some p => p + w.periodNow
    | _, _ => t * 1000000000 + w.periodNow
  let s : State := { s with wheel := { w with lastEdge := some t, predicted := some next, missRun := 0, good := min 8 (w.good + 1) } }
  if s.wheel.mode ≠ .locked ∧ 8 ≤ s.wheel.good then s.toLocked else s

/-- An edge of the source in use: the first of ACQUIRE is the anchor; then fast, good or stray. A stray edge spends the window nearest to it; where
that one has closed, it was judged missed then (DEDUCED, log 65). -/
def State.edge (s : State) (t masterNs : Nat) (mayBeFast : Bool) : State :=
  let w := s.wheel
  match w.predicted with
  | none => s.goodEdge t masterNs
  | some x =>
    let p := nearest x
    let early := match w.lastEdge with | some l => decide (4 * t < 4 * l + 3 * w.cfg.period) | none => false
    if mayBeFast && early then s.fastEdge
    else if p ≤ t + w.halfWidth ∧ t ≤ p + w.halfWidth then s.goodEdge t masterNs
    else if t + w.cfg.period / 2 < p then s.count1 0x023
    else (s.count1 0x023).missedEdge

/-- PACE_EDGE (R35, R36): a rising edge on PACE with its high time. -/
def execPaceEdge (time highNs : Nat) (s : State) : Host.Outcome State Fault Refusal :=
  if highNs < 100 then .next (s.count1 0x020).settleFront
  else if s.wheel.sourceInUse = 1 then .next (s.edge time 0 true).settleFront
  else .next s

/-- PTM_EXCHANGE_DONE (R33, R43): an exchange started on a rein ends; one the rein cannot complete is a missed edge. -/
def execPtmExchangeDone (rein : Rein) (completed : Bool) (time masterNs : Nat) (s : State) : Host.Outcome State Fault Refusal :=
  if (s.port rein).ptmBusy then
    let s := s.modPort rein fun p => { p with ptmBusy := false }
    if s.wheel.sourceInUse = 2 + rein.num then
      if completed then .next (s.edge time masterNs false).settleFront else .next s.missedEdge.settleFront
    else .next s
  else .next s

/-- EDGE_WINDOW_CLOSE (R39): an expected edge's window closes without a good edge. -/
def execEdgeWindowClose (s : State) : Host.Outcome State Fault Refusal :=
  if s.wheel.sourceInUse ≠ 0 ∧ s.wheel.predicted.isSome then .next s.missedEdge.settleFront else .next s

/-- HOLDOVER_GUARD_EXCEEDED (R40): ERR_BOUND passes the guard. -/
def execHoldoverGuardExceeded (s : State) : Host.Outcome State Fault Refusal :=
  if s.wheel.guardPs < s.wheel.errBoundPs ∧ (s.wheel.mode = .holdover ∨ (s.wheel.mode = .acquire ∧ s.wheel.failedOver)) then
    .next (s.wheelTo .free 0x0206 2).settleFront
  else .next s

/-- FREQ_CLAMP_PERSIST (R31): FREQ_CORR has stayed at its clamp for 64 local rounds. -/
def execFreqClampPersist (s : State) : Host.Outcome State Fault Refusal :=
  if 64 ≤ s.wheel.clampRounds then
    .next (({ s with wheel := { s.wheel with clampRounds := 0 } } : State).leave 0x020C 2 []).settleFront
  else .next s

/-! ### Wheel time (R51) and status (R54) -/

/-- A reservation record of WT + 2^24 is written. -/
def State.reserveWt (s : State) : State :=
  let top := s.wheel.wt + 16777216
  ({ s with wheel := { s.wheel with resTop := top } } : State).writeRec .wtRes (.wtRes top)

/-- WT_RESERVE (R51): WT has reached the last RES_TOP. -/
def execWtReserve (s : State) : Host.Outcome State Fault Refusal :=
  if s.ts.accept ∧ s.wheel.resTop ≤ s.wheel.wt then .next s.reserveWt.arrayPump else .next s

/-- STATE of WHEEL_STATUS. -/
def WheelMode.num : WheelMode → Nat
  | .free => 0
  | .acquire => 1
  | .locked => 2
  | .holdover => 3

/-- WHEEL_STATUS. -/
def WheelState.status (w : WheelState) : Nat :=
  let held := decide (w.mode = .holdover) || decide (w.mode = .free)
  packFields [fld 0 2 w.mode.num, fld 2 3 w.sourceInUse, fld 8 8 w.good, fld 16 10 w.sysPhase, fld 32 10 w.lt, fld 48 16 w.fillerLast, fld 64 64 w.wt,
    fld 128 32 (toSigned 32 w.phaseErr), fld 160 32 (toSigned 32 w.freqCorr), fld 192 32 (if held then min (w.holdNs / 1000000) 4294967295 else 0),
    fld 224 32 (min (w.errBoundPs / 1000) 4294967295), fld 256 32 w.missed, fld 288 32 w.fast]

/-- WHEEL_STATUS command (R54). -/
def execWheelStatus (tag : Nat) (s : State) : Host.Outcome State Fault Refusal :=
  .next (s.begin tag true 0xC2 (fun _ => true) fun s _ => s.answer tag (toBytes 64 s.wheel.status))

end Sys2Proof.Machine
end

