-- ==== Sys2Proof/Machine/Boot.lean ====
section
/-! DEFINITION. Start-up (18_tree_store_and_update R418 to R420, 04_awls R80 to R85, 12_cipher R297, 13_skiver R337, 14 R339, R353, R355,
16 R389, 21 R461, R466): POWER_ON_RESET, BOOT_STEP_DONE, CHANNEL_STARTUP_STEP_TIMEOUT and FLASH_RATE_TRAINING. -/
namespace Sys2Proof.Machine

/-! ### Step 1 -/

/-- POWER_ON_RESET (R418): step 1 begins; the fuses are read, the straps sampled, and the keepers' filters start at their balls' levels (R258). A device
that runs has lost its supplies first. -/
def execPowerOnReset (straps : Straps) (s : State) : Host.Outcome State Fault Refusal :=
  let s := if s.ts.bootStep = 0 then s else s.powerOnReset true
  .next { s with
    ts := { s.ts with bootStep := 1 }
    pkg := { s.pkg with straps := straps, identRec := identRec, fusesRead := true, vddIo := true }
    rein := { s.rein with
      a := { s.rein.a with keeperTiming := some s.pkg.keeperA }
      b := { s.rein.b with keeperTiming := some s.pkg.keeperB }
      twin := { s.rein.twin with merged := straps.linkMerge } } }

/-! ### Halter mode (R420) -/

/-- Halter mode is entered for a reason. -/
def State.enterHalter (s : State) (reason : Nat) : State :=
  let s : State := { s with ts := { s.ts with mode := 2, halterReason := reason }, img := { s.img with fr := asciiPadded "HALTER" 8 } }
  s.leave 0x110A 3 [reason]

/-- Start-up has ended in halter mode: the front end serves the commands of R263. -/
def State.halterReady (s : State) : State := { s with fe := { s.fe with admits := true }, ts := { s.ts with bootStep := 9 } }

/-- Halter mode entered at step 5: the wheel runs with the bareback WHEEL_CFG overlaid by a saved one (R420), started again where that differs (DESIGN
CHOICE, log 49). -/
def State.enterHalterLate (s : State) (reason : Nat) : State :=
  let c : WheelCfg := { wheelCfgOf (match s.ts.feature 0xC0 0 with | some b => b.toNat | none => ({} : WheelCfg).pack) with refSecond := 0 }
  let s := s.enterHalter reason
  (if s.wheel.cfg = c then s else s.startWheel c).halterReady

/-! ### Step 3: the image and the features -/

/-- The image that UPD_BEGUN names was cut short: the newest update record of sector 8 (R419). -/
def TsState.updateCut (t : TsState) : Bool :=
  match t.newest .status (fun r => match r with | .sectorStat s ty => decide (s = 8) && decide (4 ≤ ty) | _ => false) with
  | some (.sectorStat _ 4) => true
  | _ => false

/-- What step 3 chooses. -/
inductive ImageChoice where
  | halter (reason : Nat) (fail : Option ImgFail)
  | bareback
  | image
  deriving DecidableEq, Repr, Inhabited

/-- R419. -/
def State.imageChoice (s : State) (unreadable : Bool) : ImageChoice :=
  if !s.pkg.straps.halterN then .halter 1 none
  else if s.ts.updateCut then .halter 2 none
  else if !s.ts.imageUsed.contains 8 ∧ !s.ts.halfErasedSector 8 then .bareback
  else if (List.range 768).any fun k => s.ts.halfErasedSector (8 + k) then .halter 3 none
  else if unreadable then .halter 4 none
  else
    match imageFail s.ts.image none s.ts with
    | none => .image
    | some f => .halter (if f.check = 9 then 5 else if f.check = 12 then 6 else 4) (some f)

/-- A rein of the part: rein B is none while merged (R239). -/
def State.reinExists (s : State) (r : Rein) : Bool := decide (r = .a) || !s.rein.twin.merged

/-- Level of a rein's keeper ball. -/
def PkgState.keeper (p : PkgState) : Rein → Bool
  | .a => p.keeperA
  | .b => p.keeperB

/-- A keeper that the image uses, whose ball has stood low since before the image was read, fences its rein (R258). -/
def State.keeperFence (s : State) (r : Rein) : State :=
  if s.reinExists r ∧ s.img.keeperUse r ∧ (s.port r).keeperTiming = none ∧ s.pkg.keeper r = false ∧ (s.port r).fencedKeeper = false then s.setFence r 0 true else s

/-- The features' values at the end of step 3: FEATURE_DEFAULTS or the bareback values, then those saved (R9, R438, R415); a saved WHEEL_CFG
whose TOOTH_CYCLES the plans do not serve stays unused (R441). -/
def State.loadFeatures (s : State) (defaults : Option Nat) (savedWheel : Bool) : State :=
  let buf (i fid sel dflt : Nat) : Nat :=
    match s.ts.feature fid sel with
    | some b => if fid = 0xC0 ∧ !savedWheel then (match defaults with | some x => defaultBuf x i | none => dflt) else b.toNat
    | none => match defaults with | some x => defaultBuf x i | none => dflt
  let wheel := { wheelCfgOf (buf 0 0xC0 0 ({} : WheelCfg).pack) with refSecond := 0 }
  let twin := s.rein.twin.set (buf 1 0xC1 0 ({} : TwinCfg).pack)
  let grace := graceOf (buf 2 0xC2 0 (packFields [fld 0 6 10, fld 8 4 2]))
  let skv := skiverCfgOf (buf 3 0xC5 0 (packFields [fld 0 1 1, fld 4 3 7, fld 8 8 90]))
  let dw := match s.ts.feature 0xC4 0 with | some b => dwOf b.toNat | none => s.img.dwDefault
  let counters := (List.range 64).map fun i => counterOf (buf (4 + i) 0xC3 i (packFields [fld 32 11 0x7FF]))
  let s : State := { s with
    rein := { s.rein with twin := { twin with inForce := if twin.merged then 0 else twin.mode } }
    therm := { s.therm with grace := grace.1, grace2 := grace.2 }
    skv := { s.skv with cfg := skv }
    wb := { s.wb with dwMib := dw }
    obs := { s.obs with counters := counters, spent := [] } }
  ((((s.startWheel wheel).leaseFence .a).leaseFence .b).keeperFence .a).keeperFence .b

/-- Step 3 ends with a valid image: its tables are in force, its bytes are in the shadow. -/
def State.takeImage (s : State) : State :=
  let m := s.ts.image
  let len := imgLen m
  let (_, failed) := toothUnder (imgPlanSet m) (imgTooth m) s.ts.savedTooth
  let s : State := { s with img := imgTables m, ts := { s.ts with mode := 0, shadow := m.filter (fun (a, _) => decide (a < len)), shadowLen := len } }
  let s := match failed with | some (inv, pos) => s.leave 0x0303 2 [pos, inv] | none => s
  s.loadFeatures ((imgSection m 0x16).map (sectionNum m)) failed.isNone

/-- Step 3 ends: shadowing ends, programs and erases are accepted, and step 4's work begins: half-erased sectors are erased again and WT
is reserved (R410, R418, R51). -/
def State.endShadow (s : State) : State :=
  let half := (List.range 1024).filter fun x => s.ts.halfErasedSector x && !s.ts.bad.contains x
  let s : State := { s with ts := { s.ts with accept := true, bootStep := 4, halfErased := half.length,
                                              queue := half.map (fun x => ⟨7, .erase x 0⟩) ++ s.ts.queue } }
  (half.foldl (fun s x => s.leave 0x1101 0 [x]) s).reserveWt

/-- Step 3. -/
def State.bootImage (s : State) (found : BootFound) : State :=
  match s.imageChoice found.imageUnreadable with
  | .halter reason f =>
    let s := match f with
      | some f => if f.check = 12 then s.leave 0x0303 2 [bitField f.dw1 16 6, bitField f.dw1 8 8] else s
      | none => s
    ((s.enterHalter reason).loadFeatures none true).endShadow
  | .bareback =>
    let s : State := { s with ts := { s.ts with mode := 1 } }
    ((s.leave 0x110B 0 []).loadFeatures none true).endShadow
  | .image => s.takeImage.endShadow

/-! ### Step 5: DRAM (R339, R353, R355, R160) -/

/-- Whether a table comes from the image. -/
def State.hasSection (s : State) (type : Nat) : Bool := decide (s.ts.mode = 0) && (imgSection s.ts.shadow type).isSome

/-- Seeds for the activate LFSRs: eight draws of the random source (R350). -/
def State.seedDram (s : State) : State :=
  { s with dram := { s.dram with lfsr := (List.range 8).map fun c => Config.randomSeed (s.free + c) }, free := s.free + 8, cipher := { s.cipher with drbg := 0 } }

/-- Number of a DRAM_TRAIN entry (R354). -/
def trainEntry (rate ch rank lane : Nat) : Nat := ((rate * 8 + ch) * 2 + rank) * 5 + lane
/-- The rates at which every channel is brought up, the highest first: RATE_MAX and those of the power-state table below it (R353). -/
def State.trainRates (s : State) : List Nat :=
  (List.range 5).filter fun r => decide (r = s.img.rateMax) || (decide (s.img.rateMax < r) && (List.range 5).any fun ps => s.img.psDramRate ps = r)
/-- R353 step 1: a rank whose entries are VALID in every lane takes them, and passes its check. -/
def State.trainLoads (s : State) (found : BootFound) (rate ch rank : Nat) : Bool :=
  !s.img.trainFull && ((List.range 5).all fun l => decide (bitField (Table.getD s.img.dramTrain (trainEntry rate ch rank l) 0) 63 1 = 1))
    && !found.dramCheckFails.contains (rate, ch, rank)
/-- The channels that fail at a rate: a rank neither passes its check nor trains in full. -/
def State.trainFailing (s : State) (found : BootFound) (rate : Nat) : List Nat :=
  (List.range 8).filter fun c => (List.range found.dramRanks).any fun k => !s.trainLoads found rate c k && found.dramTrainFails.contains (rate, c, k)
/-- The effective RATE_MAX: the highest rate such that every channel passes at it and at every lower one (R353 step 3). -/
def State.trainBest (s : State) (found : BootFound) : Option Nat :=
  s.trainRates.find? fun r => s.trainRates.all fun x => decide (x < r) || decide (s.trainFailing found x = [])
/-- The channel that code 0x0E09 names where no rate serves: one that passes at no rate, else one that fails at the lowest (DEDUCED, log 55). -/
def State.trainLost (s : State) (found : BootFound) : Nat :=
  (((List.range 8).find? fun c => s.trainRates.all fun r => (s.trainFailing found r).contains c).orElse
    fun _ => s.trainRates.getLast?.bind fun r => (s.trainFailing found r).head?).getD 0
/-- The values held in SRAM: the image's where they were loaded, else those of full training (R353). -/
def State.trainValues (s : State) (found : BootFound) : Table Nat :=
  (List.range 400).filterMap fun i =>
    if !s.trainRates.contains (i / 80) ∨ found.dramRanks ≤ i / 5 % 2 then none
    else if s.trainLoads found (i / 80) (i / 10 % 8) (i / 5 % 2) then (Table.find s.img.dramTrain i).map fun x => (i, x)
    else (Table.find found.dramTrained i).map fun x => (i, x)

/-- Step 5: the size and rate found; less than 64 GiB, or a channel that trains at no rate, enters halter mode. -/
def State.bootDram (s : State) (found : BootFound) : State :=
  let s : State := if s.hasSection 0x0D then s else { s with img := { s.img with dram := barebackDram found.rfm found.rowBits } }
  let small := found.dramGiB.foldl min ((found.dramGiB.head?).getD 0)
  let gib := 8 * small
  let ranks := found.dramRanks
  let lanes := s.ts.lanes
  let rankOf (k : Nat) : Rank := { retired := (lanes.find? fun (c, r, _) => 2 * c + r = k).map fun (_, _, l) => l }
  let s := s.seedDram
  let s : State := { s with
    dram := { s.dram with gib := gib, ranksPer := ranks, ranks := (List.range 16).map fun k => (k, rankOf k) }
    mc := { s.mc with banks := (List.range 32).map fun b => (b, { en := s.img.cacheEn }) }
    map := { s.map with poolSize := min Config.maxSegments ((gib - 32) * 256) } }
  let s := if found.dramGiB.any fun g => g ≠ small then s.leave 0x0E07 2 [gib] else s
  match s.trainBest found with
  | none => (s.recordEvent 0x0E09 4 [s.trainLost found]).enterHalterLate 8
  | some best =>
    let s := if s.trainRates.head? ≠ some best then s.leave 0x0E08 2 [best] else s
    let s : State := { s with dram := { s.dram with train := s.trainValues found, rateMaxEff := best, rate := max best (s.img.psDramRate s.fe.ps) } }
    if gib < 64 then s.enterHalterLate 7 else { s with ts := { s.ts with bootStep := 6 } }

/-! ### Step 6: plans, keys, engines -/

/-- The set of plans and the selection table as the state's geometry and power states judge it. -/
def State.planSet (s : State) (plans : List Plan) (select : List Nat) : PlanSet :=
  { plans := plans, select := select, dies := s.populatedDies, psArray := (List.range 5).map s.img.psArray, limit := s.img.suspendLimit,
    opMaxNs := max s.img.tProgMax s.img.tBersMax }
/-- A set meets every invariant of R75 at each TOOTH_CYCLES from 1,000 to 16,000: only invariant 9 depends on it, and it holds between
two values where it holds at both (R77). -/
def PlanSet.serves (q : PlanSet) : Bool :=
  decide (q.firstFail 1000 ((List.range 11).map (· + 1)) = none) && decide (q.firstFail 16000 [9] = none)
/-- The ROM's set for the geometry found: free values (DESIGN CHOICE, log 23). -/
def State.romFree (s : State) : PlanSet :=
  let g := s.img.geom
  let ds := s.populatedDies
  s.planSet ((List.range (min 64 (Config.romPlanCount g ds))).map fun p => planOfBytes (Config.romPlanHdr g ds p) (Config.romPlanByte g ds p))
    ((List.range 80).map (Config.romSelect g ds))
/-- A plan of given bytes that serves 1,000 to 16,000 cycles, without weights. -/
def plainPlan (id : Nat) (dump : Bool) (f : Nat → Byte) : Plan :=
  planOfBytes (packFields [fld 0 6 id, fld 6 1 (bit dump), fld 16 16 1000, fld 32 16 16000, fld 224 32 (crc32c ((List.range slotBytes).map f))]) f
/-- A set that meets R75 in any geometry: all dies run HOST_PROG, COPY_PROG, ERASE, READ and PATROL in turn, every slot with SUSPEND_OK; in the
dump plan all run DUMP (DESIGN CHOICE, log 23). -/
def plainPlans : List Plan :=
  [plainPlan 0 false fun i => BitVec.ofNat 8 (17 * natAt [10, 11, 12, 9, 10, 13, 10, 9] (i / 512 % 8)), plainPlan 1 true fun _ => 0x77#8]
/-- The ROM's set for the geometry found: a free one that serves every tooth length of R77; where the free values give none, the plain set (R25, R77)
(DESIGN CHOICE, log 23). -/
def State.romSet (s : State) : PlanSet := if s.romFree.serves then s.romFree else s.planSet plainPlans (List.replicate 80 0)
/-- The plans loaded into DRAM: the image's, or the ROM's. -/
def State.bootPlans (s : State) : List Plan := if s.ts.mode = 0 then imgPlans s.ts.shadow else s.romSet.plans
/-- The selection table: the image's, or the ROM's. -/
def State.bootSelect (s : State) : List Nat := if s.ts.mode = 0 then s.img.planSelect else s.romSet.select
/-- The dump plan. -/
def State.bootDumpPlan (_ : State) (ps : List Plan) : Option Plan := ps.find? Plan.isDump

/-- Effective PS: the host's, raised to the thermal floor. -/
def State.effPs (s : State) : Nat := max s.fe.ps s.therm.floor

/-- Plans are copied to DRAM, the dump plan to the reserve domain too, and the first plan to the running buffer (R25, R431). -/
def State.loadPlans (s : State) : State :=
  let ps := s.bootPlans
  let select := s.bootSelect
  let n := natAt select (s.effPs * 16)
  { s with img := { s.img with planSelect := select }, plan := { s.plan with dram := (List.range ps.length).map (fun i => (i, ps.getD i default)), dump := s.bootDumpPlan ps, running := ps[n]?, runningNo := n } }

/-- A slot as its key-store records give it: a label, or the newest blob, with GEN and SWEEP (R297, R307, R416). -/
def TsState.slotOf (t : TsState) (n : Nat) : KeySlot :=
  let (g, w) := (t.gen n).getD (0, false)
  match t.label n with
  | some l => { kind := 1, purpose := labelPurpose l, label := l, gen := g, sweep := w }
  | none =>
    match (t.blobs n).getLast? with
    | some b => { kind := 2, purpose := blobPurpose b, blob := b, gen := g, sweep := w }
    | none => {}

/-- Slots that have a label or a blob in the key store. -/
def TsState.keySlotsHeld (t : TsState) : List Nat :=
  ((t.records .keyStore).filterMap fun r => match r with | .keyLabel n _ => some n | .keyBlob n _ => some n | _ => none).eraseDups

/-- A stored blob is unwrapped; one that fails leaves its slot empty and code 0x0C0E. -/
def State.unwrapSlot (s : State) (n : Nat) : State :=
  match s.checkBlob n (s.keySlot n).blob with
  | .inr ks =>
    let old := if (s.keySlot n).sweep then (((s.ts.blobs n).dropLast.getLast?).bind fun b => match s.checkBlob n b with | .inr k => some k | .inl _ => none) else none
    s.modSlot n fun k => { k with current := some ks, previous := old }
  | .inl _ => ({ s with cipher := { s.cipher with slots := Table.del s.cipher.slots n } } : State).leave 0x0C0E 2 [n]

/-- R297: derived slots are derived and blobs unwrapped, the owner root first; an unreadable record leaves its slot empty. -/
def State.bootKeys (s : State) (unreadable : List Nat) : State :=
  let held := (s.ts.keySlotsHeld).filter fun n => !unreadable.contains n
  let s : State := { s with cipher := { s.cipher with owner := none, slots := held.map fun n => (n, s.ts.slotOf n) } }
  let s := unreadable.foldl (fun s n => s.leave 0x0C0E 2 [n]) s
  let derived := held.filter fun n => (s.keySlot n).kind = 1
  let s := derived.foldl State.deriveSlot s
  let s := match s.ts.rootBlob with
    | some b => (match s.checkBlob 0x1FFF b with | .inr k => s.setRoot (some k.k1) | .inl _ => s.leave 0x0C0E 2 [0x1FFF])
    | none => s
  (held.filter fun n => (s.keySlot n).kind = 2).foldl State.unwrapSlot s

/-- Image labels whose slot holds no LABEL record are installed (R439). -/
def State.bootLabels (s : State) : State :=
  s.img.labels.foldl (fun s l => if (s.ts.label (labelSlot l)).isSome then s else s.labelEmpty (labelSlot l) l) s

/-- Engines whose known-answer vectors fail leave service (R313, R337, R338). -/
def State.bootEngines (s : State) (found : BootFound) : State :=
  let comps := (List.range 16).filter fun e => !found.failedCompressors.contains e
  let decomps := (List.range 24).filter fun e => !found.failedDecompressors.contains e
  let s : State := { s with skv := { s.skv with comps := comps, decomps := decomps } }
  let s := found.failedCompressors.foldl (fun s e => s.leave 0x0D02 3 [0, e]) s
  let s := found.failedDecompressors.foldl (fun s e => s.leave 0x0D02 3 [1, e]) s
  let s := found.failedPairs.foldl State.pairLost s
  let s := if comps = [] then s.leave 0x0D06 3 [] else s
  if decomps = [] then s.leave 0x0D07 4 [] else s

/-! ### Step 7: the channels (R80, R81) -/

/-- A die of the isolated-die list (R102). -/
def State.listed (s : State) (d : Nat) : Bool := s.ts.isolated.any fun (x, _) => x = d
/-- The populated dies are in service (R58, R96) but those of the isolated-die list, which step 6 of R81 restores. -/
def State.startDies (s : State) : State :=
  ((List.range 1024).filter fun d => s.img.populated d && !s.listed d).foldl (fun s d => s.modDie d fun x => { x with mode := .active }) s

/-- The awls leave reset: step 1 of R81 holds CE high and WP low on each channel, at GEOM.RATE (R80, R82). -/
def State.startChannels (s : State) : State :=
  (List.range 32).foldl (fun s c => s.setChan c { rate := s.img.geomRate, ceiling := s.img.geomRate, step := 1 }) s

/-- The populated dies and targets of a channel. -/
def State.diesOfChan (s : State) (c : Nat) : List Nat := ((List.range 32).map fun k => 32 * c + k).filter s.img.populated
def State.targetsOfChan (s : State) (c : Nat) : List Nat := (List.range 8).filter fun t => (List.range 4).any fun l => s.img.populated (32 * c + 4 * t + l)
/-- The dies of targets of a channel that are populated and not in the isolated-die list. -/
def State.diesOfTargets (s : State) (c : Nat) (ts : List Nat) : List Nat := (s.diesOfChan c).filter fun d => ts.contains (tgtOfDie d) && !s.listed d

/-- What a step of R81 sends to a target, named by its LUN 0: FFh and a poll by 78h; Read ID and the parameter page; the timing mode, the interface,
drive strength and ODT, and ZQ calibration long. The feature addresses are ONFI's, and step 5's training sends nothing here (PRESUMED, log 81). -/
def ImgState.startupCa (i : ImgState) (step die : Nat) : List (List CaCycle) :=
  match step with
  | 2 => [resetCa, i.statusCa die]
  | 3 => [readIdCa, pageCa]
  | 4 => [setFeatureCa 0x01, setFeatureCa 0x02, setFeatureCa 0x10, zqLongCa die]
  | _ => []

/-- The isolated-die list is restored on a channel (R81 step 6, R101, R102): its dies with their causes, its targets with no LUN left; the channel itself
where a cause names it, or where every populated die is listed (criterion 3). A channel whose last dies fail this start-up meets criterion 3 now. -/
def State.restoreChan (s : State) (c : Nat) : State :=
  let listed := s.ts.isolated.filter fun (d, _) => decide (chOfDie d = c) && s.img.populated d
  let s := listed.foldl (fun s (d, cause) => s.modDie d fun x => { x with mode := .isolated, cause := cause }) s
  let out (t : Nat) : Bool := (s.diesOfChan c).all fun d => decide (tgtOfDie d ≠ t) || decide ((s.die d).mode = .isolated)
  let s := s.modChan c fun x => { x with deselected := (x.deselected ++ (s.targetsOfChan c).filter out).eraseDups }
  let cut := match listed.find? fun (_, cause) => decide (9 ≤ cause) with
    | some (_, cause) => cause - 8
    | none => if listed ≠ [] ∧ (s.diesOfChan c).all s.listed then 3 else 0
  if (s.chan c).isolated ≠ 0 then s
  else if cut ≠ 0 then s.modChan c fun x => { x with isolated := cut, ceHigh := true, wpHigh := false, odt := false, phyOn := false }
  else if listed ≠ [] ∧ s.channelDead c then s.isolateChannel c 3
  else s

/-- A channel begins a step of R81, with what it sends; 7 is its end, with WP high (R82). A channel that is isolated sends nothing. -/
def State.beginStep (s : State) (c k : Nat) : State :=
  let s := if k = 7 then s.restoreChan c else s
  if (s.chan c).isolated ≠ 0 then s.modChan c fun x => { x with step := k }
  else
    let s := s.modChan c fun x => { x with step := k, ceHigh := false, lpddr4 := decide (5 ≤ k), odt := decide (5 ≤ k), wpHigh := decide (k = 7) }
    (s.targetsOfChan c).foldl (fun s t => (s.img.startupCa k (32 * c + 4 * t)).foldl (fun s q => s.ca (32 * c + 4 * t) false q) s) s
/-- The steps up to k have begun. -/
def State.reachStep (s : State) (c k : Nat) : State :=
  ((List.range 8).filter fun j => decide ((s.chan c).step < j) && decide (j ≤ k)).foldl (fun s j => s.beginStep c j) s

/-- Targets fail training at MT1600: every one of the channel, criterion 1 of the channel; else their dies meet criterion 4 (R80, R97, R98). -/
def State.failTargets (s : State) (c : Nat) (ts : List Nat) : State :=
  if s.targetsOfChan c = [] ∨ (s.chan c).isolated ≠ 0 then s
  else if (s.targetsOfChan c).all ts.contains then s.isolateChannel c 1
  else (s.diesOfTargets c ts).foldl (fun s d => s.isolateDie d 4) s
/-- Retraining has reached a lower rate (R80). -/
def State.rateReached (s : State) (c r : Nat) : State :=
  if r < (s.chan c).rate then (s.setChan c { s.chan c with rate := r, ceiling := r }).leave 0x0407 2 [c, r] else s

/-- The rate that training reaches, one value lower at each retrain and none below MT1600 (R80). -/
def Channel.reaches (x : Channel) (r : Nat) : Nat := if x.rate ≤ 1 then x.rate else max 1 (min r x.rate)

/-- A channel ends its start-up: ZQ calibration long that failed twice is criterion 1 (R98); it trains at a rate, or at none. -/
def State.channelUp (s : State) (found : BootFound) (c : Nat) : State :=
  let s := s.reachStep c 4
  let s := if found.zqFailing.contains c ∧ s.targetsOfChan c ≠ [] then s.isolateChannel c 1 else s
  let s := s.reachStep c 5
  let s := if (s.chan c).isolated ≠ 0 then s
    else
      match found.channelRate.find? fun (x, _) => x = c with
      | some (_, r) => (s.rateReached c ((s.chan c).reaches r)).failTargets c ((found.targetsFailing.filter fun (x, _) => x = c).map (·.2))
      | none => (s.rateReached c ((s.chan c).reaches 1)).failTargets c (List.range 8)
  s.reachStep c 7

/-- In bareback operation GEOM and EC_RATED come from the parameter page, and the ROM's plans are formed for the geometry found (R25, R84, R177). -/
def State.barebackPage (s : State) (found : BootFound) : State :=
  if s.ts.mode = 1 then
    let p := found.page
    let s : State := { s with img := { s.img with geom := barebackGeom p found.diesAnswering, codec := barebackCodec p.bitsPerCell, wear := barebackWear p.endurance } }
    s.startDies.loadPlans
  else if s.hasSection 0x07 then s else { s with img := { s.img with wear := barebackWear found.page.endurance } }

/-- The comparison of a parameter page with GEOM (R85). -/
def ImgState.pageFits (i : ImgState) (p : ParamPage) : Bool :=
  decide (p.planes = i.planes) && decide (p.pagesPerBlock = i.pagesPerBlock) && decide (i.planes * i.blocksPerPlane ≤ p.blocksPerLun)
/-- The page of a die: its own, or that of die 0.0.0. -/
def pageOfDie (f : BootFound) (d : Nat) : ParamPage := ((f.otherPages.find? fun (x, _) => x = d).map (·.2)).getD f.page
/-- A die passes step 3 of R81: it answers Read ID, has a page with a correct CRC and every feature of R79, and the page fits GEOM; in bareback operation
GEOM must meet R85 itself (DEDUCED, log 19). -/
def State.passesStep3 (s : State) (found : BootFound) (d : Nat) : Bool :=
  geomRule s.img.geom && found.diesAnswering.contains d && !found.diesFailing.contains d && s.img.pageFits (pageOfDie found d)

/-- Step 7 ends: dies that fail step 3 of R81 meet criterion 4, every channel is up, and restart begins. -/
def State.bootChannels (s : State) (found : BootFound) : State :=
  let s := s.barebackPage found
  let s := (List.range 32).foldl (fun s c => s.reachStep c 3) s
  let bad := (List.range 1024).filter fun d => s.img.populated d && !s.listed d && !s.passesStep3 found d
  let s := bad.foldl (fun s d => s.isolateDie d 4) s
  let s := (List.range 32).foldl (fun s c => s.channelUp found c) s
  { s with ts := { s.ts with bootStep := 8 }, dump := { s.dump with step := 1 } }

/-- BOOT_STEP_DONE (R418): the step of the boot order that runs ends, with what the part met in it (DEDUCED, log 49). -/
def execBootStepDone (found : BootFound) (s : State) : Host.Outcome State Fault Refusal :=
  match s.ts.bootStep with
  | 1 => .next { s with ts := { s.ts with bootStep := 2 } }
  | 2 => .next { s with ts := { s.ts with bootStep := 3 }, pkg := { s.pkg with factory := found.factory } }
  | 3 => .next (s.bootImage found).arrayPump
  | 4 => .next (if s.ts.mode = 2 then s.halterReady else { s with ts := { s.ts with bootStep := 5 } }).arrayPump
  | 5 => .next (s.bootDram found).arrayPump
  | 6 =>
    let s := ((((s.loadPlans).bootKeys found.unreadableSlots).bootLabels).bootEngines found).startDies.startChannels
    .next ({ s with ts := { s.ts with bootStep := 7 } } : State).arrayPump
  | 7 => .next (s.bootChannels found).arrayPump
  | _ => .next s

/-- CHANNEL_STARTUP_STEP_TIMEOUT (R81): a step exceeds its bound for some targets. In steps 2 to 4 their dies meet criterion 4 (R97) and the next step
begins; in step 5 the channel is retrained one value lower at a time, which a rate reached or a failure at MT1600 ends (R80). -/
def execChannelStartupStepTimeout (ch step : Nat) (targets : List Nat) (trainedAtLower : Option Nat) (s : State) : Host.Outcome State Fault Refusal :=
  if s.ts.bootStep = 7 ∧ ch < 32 ∧ (s.chan ch).step ≤ step ∧ (s.chan ch).isolated = 0 then
    if 2 ≤ step ∧ step ≤ 4 then
      let s := s.reachStep ch step
      .next (((s.diesOfTargets ch targets).foldl (fun s d => s.isolateDie d 4) s).reachStep ch (step + 1)).arrayPump
    else if step = 5 then
      let s := s.reachStep ch 5
      match trainedAtLower with
      | some r => .next (if 1 ≤ r then s.rateReached ch r else s).arrayPump
      | none => .next ((s.rateReached ch ((s.chan ch).reaches 1)).failTargets ch targets).arrayPump
    else .next s
  else .next s

/-- FLASH_RATE_TRAINING (R389): after start-up a channel trains once at a lower rate that the power-state table names. -/
def execFlashRateTraining (ch rate : Nat) (passed : Bool) (s : State) : Host.Outcome State Fault Refusal :=
  let c := s.chan ch
  let named := (List.range 5).any fun n => s.img.psFlashRate n = rate
  if ch < 32 ∧ c.step = 7 ∧ c.isolated = 0 ∧ rate < c.ceiling ∧ named ∧ !c.trained.contains rate ∧ !c.failed.contains rate ∧ c.busy.isNone then
    if passed then .next (s.setChan ch { c with trained := c.trained ++ [rate] })
    else .next (((s.setChan ch { c with failed := c.failed ++ [rate] }).leave 0x0407 2 [ch, c.trained.foldl min c.ceiling]).arrayPump)
  else .next s

end Sys2Proof.Machine
end

