-- ==== Sys2Proof/Machine/TreeStore.lean ====
section
/-! DEFINITION. The tree store's sequencer, its scrub, Tree Store Access and the update (17_observability R405, 18_tree_store_and_update R406
to R426): TS_OP_DONE, TS_SCRUB_READ, the TS_* operations and TS_ACCESS_UNLISTED_OP. -/
namespace Sys2Proof.Machine

/-! ### Commands that wait for a record or an erase -/

/-- Keys of `FeState.saving`: a feature's saved buffer, LOCK and UNLOCK, ERASE_IMAGE, and the last word of a write to the option block. -/
def saveKey (fid sel : Nat) : Nat := fid * 64 + sel
def lockKey : Nat := 0x10000
def eraseKey : Nat := 0x20000
def optionKey (off : Nat) : Nat := 0x30000 + off

/-- A command waits under a key until what it asked for is durable. -/
def State.awaitSave (s : State) (key tag : Nat) : State := { s with fe := { s.fe with saving := s.fe.saving ++ [(key, tag)] } }

/-- The command that has waited longest under a key ends (DEDUCED, log 38). -/
def State.endSave (s : State) (key : Nat) (r : CmdResult) : State :=
  match s.fe.saving.find? fun x => x.1 = key with
  | some x => ({ s with fe := { s.fe with saving := s.fe.saving.erase x } } : State).finish x.2 r
  | none => s

/-- 0:0x06 Internal Error: an option block word that the array does not program. -/
def internalError : CmdResult := stat 0 0x06

/-! ### The update's steps (R423) -/

/-- UPD_STATE. -/
def State.updTo (s : State) (n : Nat) : State := { s with ts := { s.ts with updState := n } }

/-- An update ends in failure: UPD_STATE 7, code 0x1109; the slot is left as it is. -/
def State.updFails (s : State) : State :=
  ({ s with ts := { s.ts with updState := 7, writing := none } } : State).leave 0x1109 2 [Config.updateFailReason]

/-- The image's next program at an offset (step 6); its end is followed by UPD_DONE (step 7). A BAD sector is never used again. -/
def State.imageAt (s : State) (off : Nat) : State :=
  match s.ts.writing with
  | none => s
  | some (len, _) =>
    if len ≤ off then { s with ts := s.ts.enqueue ⟨7, .append .status (.sectorStat 8 5)⟩ }
    else if s.ts.bad.contains (8 + off / 65536) then (s.leave 0x1102 2 [8 + off / 65536, 0x80000 + off]).updFails
    else { s with ts := { s.ts.enqueue ⟨7, .imageProgram off⟩ with updState := 4 } }

/-- Sectors of the image slot that are not blank and not BAD, in order. -/
def TsState.usedSectors (t : TsState) : List Nat := ((List.range 768).map (8 + ·)).filter fun x => t.imageUsed.contains x && !t.bad.contains x

/-- The next erase of step 5: the lowest sector of the slot that is not blank; after the last one, programming begins. -/
def State.updErase (s : State) : State :=
  match s.ts.usedSectors with
  | x :: _ => { s with ts := { s.ts.enqueue ⟨7, .erase x 0⟩ with updState := 3 } }
  | [] => s.imageAt 0

/-- The write begins: UPD_BEGUN for sector 8 (step 4). -/
def State.updStart (s : State) (len : Nat) (bytes : List Host.Cell) : State :=
  { s with ts := { s.ts.enqueue ⟨7, .append .status (.sectorStat 8 4)⟩ with
      writing := some (len, bytes), staging := none, written := true, updState := 3, updDone := 0 } }

/-- Sixteen words of the image have been programmed. -/
def State.imageProgrammed (s : State) (off : Nat) : State :=
  match s.ts.writing with
  | none => s
  | some (len, bytes) =>
    let n := min 256 (len - off)
    let sector := 8 + off / 65536
    let used := if s.ts.imageUsed.contains sector then s.ts.imageUsed else s.ts.imageUsed ++ [sector]
    let s : State := { s with ts := { s.ts with image := programBytes s.ts.image off (blankBytes bytes off n), imageUsed := used } }
    if (off + 256) % 65536 = 0 ∨ len ≤ off + 256 then
      { s with ts := { s.ts.enqueue ⟨7, .imageVerify sector⟩ with updState := 5 } }
    else s.imageAt (off + 256)

/-- A sector of the image has read back as programmed. -/
def State.imageVerified (s : State) (sector : Nat) : State :=
  match s.ts.writing with
  | none => s
  | some (len, _) =>
    let at_ := (sector - 7) * 65536
    ({ s with ts := { s.ts with updDone := min len at_ } } : State).imageAt at_

/-- UPD_DONE is durable: UPD_STATE 6, code 0x1108. -/
def State.updEnds (s : State) : State :=
  match s.ts.writing with
  | none => s
  | some (len, _) => ({ s with ts := { s.ts with updState := 6, writing := none } } : State).leave 0x1108 0 [len]

/-! ### What a durable record brings about -/

/-- A GEN record is durable (R306 step 4, R307, R471): a rolling context derives its new keys and reserves; a sweep ends; a new context
reserves. 16,777,216 is 2^24. -/
def State.genDurable (s : State) (n g : Nat) (sweeping : Bool) : State :=
  let k := s.keySlot n
  if k.gen ≠ g then s
  else if sweeping then
    if k.rolling then
      let ks := s.slotKeys n g
      (s.modSlot n fun k => { k with current := if k.kind = 1 then some ks else k.current }).writeRec .ctrRes (.ctrRes n g 16777216)
    else s
  else if k.sweepEnding then
    ((s.modSlot n fun k => { k with previous := none, sweep := false, sweepEnding := false }).leave 0x0C07 0 [n, k.sweepDone]).countEnds n
  else if k.resTop = 0 then s.writeRec .ctrRes (.ctrRes n g 16777216)
  else s

/-- A CTR_RES record is durable (R303): RES_TOP follows it; a rolling context counts from 0 and its sweep begins (R306 step 5, R307). -/
def State.ctrDurable (s : State) (n g top : Nat) : State :=
  s.modSlot n fun k =>
    if k.gen ≠ g then k
    else if k.rolling then { k with counter := 0, resTop := top, rolling := false, sweep := true, sweepAt := 0, sweepDone := 0 }
    else { k with resTop := max k.resTop top }

/-- A record has been programmed. -/
def State.recDurable (s : State) (r : TsRec) : State :=
  match r with
  | .sectorStat 8 4 => s.updErase
  | .sectorStat 8 5 => s.updEnds
  | .sectorStat _ _ => s
  | .wtRes _ => s
  | .ctrRes n g top => s.ctrDurable n g top
  | .ledgerAnchor a _ _ _ => s.anchorDurable a
  | .dumpAnchor 1 _ _ _ _ => if s.dump.holdTarget.isSome then { s with dump := { s.dump with holdSafe := true } } else s
  | .dumpAnchor 3 _ _ _ _ => s.dumpEnds
  | .dumpAnchor _ _ _ _ _ => s
  | .holdList _ _ => s.writeHold
  | .optFeature fid sel _ => s.endSave (saveKey fid sel) ok
  | .optU0 _ => s
  | .optLane _ _ _ => s
  | .optLock _ => s.endSave lockKey ok
  | .optIsolated d cause => s.ledger (.dieIsolated d cause (s.die d).isolatedWt) false
  | .keyLabel _ _ => s
  | .keyGen n g w => s.genDurable n g w
  | .keyBlob _ _ => s
  | .keyRoot _ => s
  | .saddlebag _ => s

/-! ### The end of an array operation -/

/-- An erase of a sector has ended, DONE record included; with the last one that waits in the image slot, ERASE_IMAGE ends and an update goes on (DEDUCED, log 50). -/
def State.sectorErased (s : State) (sector : Nat) : State :=
  if 952 ≤ sector ∧ sector ≤ 975 then s.keySectorErased sector
  else if 8 ≤ sector ∧ sector ≤ 775 then
    if s.ts.queue.any fun op => match op.kind with | .erase x _ => decide (8 ≤ x) && decide (x ≤ 775) | _ => false then s
    else
      let s := if s.ts.erasing then ({ s with ts := { s.ts with erasing := false } } : State).endSave eraseKey ok else s
      if s.ts.writing.isSome ∧ s.ts.updState = 3 then s.updErase else s
  else s

/-- An operation has ended as it should. -/
def State.opOk (s : State) (op : ArrayOp) : State :=
  match op.kind with
  | .append r rec_ => ({ s with ts := s.ts.append r rec_ } : State).recDurable rec_
  | .erase sector stage =>
    let s : State := { s with ts := s.ts.eraseDone op.cls sector stage }
    if stage = 2 then s.sectorErased sector else s
  | .option off bytes => ({ s with ts := { s.ts with option := programBytes s.ts.option off bytes } } : State).endSave (optionKey off) ok
  | .imageProgram off => s.imageProgrammed off
  | .imageVerify sector => s.imageVerified sector
  | .read _ => s

/-- The code of a record that did not program (R52, R195, R303, R405, R407, R412): 0x1106 for a word programmed before, else the owner's. -/
def State.appendCode (s : State) (r : Region) (rec_ : TsRec) (double : Bool) : State :=
  let off := s.ts.headOffset r rec_
  if double then s.leave 0x1106 2 [off]
  else
    match r, rec_ with
    | .wtRes, _ => s.leave 0x0209 2 []
    | .ctrRes, .ctrRes n _ _ => s.leave 0x0C0F 2 [n]
    | .persistence, _ => s.leave 0x0004 2 [off]
    | .ledgerAnchor, _ => s.leave 0x080C 2 []
    | _, _ => s.leave 0x1102 2 [off / 65536, off]

/-- Put an operation back at the front of its class. -/
def State.again (s : State) (op : ArrayOp) : State := { s with ts := { s.ts with queue := op :: s.ts.queue } }

/-- An operation has failed: a record is written again in the next word; an erase makes its sector BAD; the image's write ends. -/
def State.opFailed (s : State) (op : ArrayOp) (double : Bool) : State :=
  match op.kind with
  | .append r rec_ =>
    let s := s.appendCode r rec_ double
    ({ s with ts := s.ts.burn r rec_ } : State).again op
  | .erase sector 1 =>
    let s := ({ s with ts := s.ts.eraseFailed op.cls sector } : State).leave 0x1102 2 [sector, sector * 65536]
    if s.ts.writing.isSome ∧ s.ts.updState = 3 ∧ 8 ≤ sector ∧ sector ≤ 775 then s.updFails else s.sectorErased sector
  | .erase sector stage =>
    let rec_ : TsRec := .sectorStat sector (if stage = 0 then 1 else 2)
    let s := s.appendCode .status rec_ double
    ({ s with ts := s.ts.burn .status rec_ } : State).again op
  | .option off _ =>
    let s := if double then s.leave 0x1106 2 [off] else s.leave 0x1102 2 [0, off]
    s.endSave (optionKey off) internalError
  | .imageProgram off =>
    let at_ := 0x80000 + off
    (if double then s.leave 0x1106 2 [at_] else s.leave 0x1102 2 [at_ / 65536, at_]).updFails
  | .imageVerify sector => (s.leave 0x1102 2 [sector, sector * 65536]).updFails
  | .read _ => s

/-- TS_OP_DONE (R408): the array operation that runs ends; the next one starts. -/
def execTsOpDone (result : ArrayResult) (s : State) : Host.Outcome State Fault Refusal :=
  match s.ts.running with
  | none => .next s
  | some op =>
    let s : State := { s with ts := { s.ts with running := none, unlock := 0 } }
    .next (match result with
      | .ok => s.opOk op
      | .failed => s.opFailed op false
      | .doubleProgram => s.opFailed op true
      | .readBackBad =>
        match op.kind with
        | .append .persistence rec_ => (({ s with ts := s.ts.burn .persistence rec_ } : State).appendCode .persistence rec_ false).again op
        | .imageVerify _ => s.opFailed op false
        | _ => s.opOk op).settle

/-! ### Scrub (R417) -/

/-- The readable record of a ring that covers an offset of the array. -/
def TsState.recordAt (t : TsState) (offset : Nat) : Option (Region × TsRec) :=
  (regionOfSector (offset / 65536)).bind fun r =>
    let w := offset % 65536 / 16
    ((t.ring r).find? fun sec => sec.sector = offset / 65536).bind fun sec =>
      (sec.recs.find? fun (at_, x) => decide (at_ ≤ w) && decide (w < at_ + x.words)).map fun (_, x) => (r, x)

/-- A record cannot be read any more. -/
def TsState.dropRecord (t : TsState) (r : Region) (offset : Nat) : TsState :=
  let w := offset % 65536 / 16
  t.setRing r ((t.ring r).map fun sec =>
    if sec.sector = offset / 65536 then { sec with recs := sec.recs.filter fun (at_, x) => !(decide (at_ ≤ w) && decide (w < at_ + x.words)) } else sec)

/-- Records of a ring that wait to be written behind those it holds. -/
def TsState.queued (t : TsState) (r : Region) : List TsRec :=
  (t.running.toList ++ t.suspended ++ t.queue).filterMap fun op => match op.kind with | .append r' x => if r' = r then some x else none | _ => none
/-- A word was corrected: a live record, one that no waiting record replaces, is copied to its ring's head. -/
def State.scrubOne (s : State) (offset : Nat) : State :=
  let s := ({ s with ts := { s.ts with scrubCorrected := satAdd 32 s.ts.scrubCorrected 1 } } : State).leave 0x1103 1 [offset]
  match s.ts.recordAt offset with
  | some (r, x) => if (s.ts.liveOf (s.ts.records r) (s.ts.queued r)).contains x then s.writeRec r x else s
  | none => s

def State.scrubLost (s : State) (offset : Nat) : State :=
  let s : State := { s with ts := { s.ts with scrubUncorr := satAdd 32 s.ts.scrubUncorr 1 } }
  let sector := offset / 65536
  if 8 ≤ sector ∧ sector ≤ 775 then
    ({ s with ts := { s.ts with imageFault := true } } : State).leave 0x1104 3 [offset]
  else
    let s : State := match regionOfSector sector with
      | some r => { s with ts := s.ts.dropRecord r offset }
      | none => if sector = 0 then { s with ts := { s.ts with optionBad := s.ts.optionBad ++ [offset] } } else s
    s.leave 0x1105 2 [((regionOfSector sector).map Region.first).getD sector, offset]

/-- TS_SCRUB_READ (R417): the scrub reads its next programmed word, once shadowing has ended. -/
def execTsScrubRead (found : ScrubFound) (s : State) : Host.Outcome State Fault Refusal :=
  if s.ts.accept then
    let goTo (o : Nat) (s : State) : State := { s with ts := { s.ts with scrubAt := (o + 16) % 67108864 } }
    .next (match found with
      | .clean => goTo s.ts.scrubAt s
      | .corrected o => if o < 67108864 ∧ o % 16 = 0 then goTo o (s.scrubOne o) else s
      | .uncorrectable o => if o < 67108864 ∧ o % 16 = 0 then goTo o (s.scrubLost o) else s).settle
  else .next s

/-! ### Tree Store Access (R421) -/

/-- CDW10 [3:0], the operation. -/
def tsOp (c : Cmd) : Nat := bitField (dw c.entry 10) 0 4
/-- CDW13 holds both unlock values. -/
def tsUnlocked (c : Cmd) : Bool := decide (dw c.entry 13 = 0x3C5AA5C3)

/-- An operation of Tree Store Access; one marked U needs the unlock value. -/
def State.tsAccess (s : State) (tag op : Nat) (u : Bool) (f : State → Cmd → State) : State :=
  s.begin tag true 0xC5 (fun c => decide (tsOp c = op)) fun s c => if u && !tsUnlocked c then s.finish tag invalidField else f s c

/-- TS_STATUS (R422). -/
def State.tsStatus (s : State) : Nat :=
  packFields [fld 0 2 s.ts.mode, fld 2 4 s.ts.halterReason, fld 6 3 s.ts.updState, fld 9 1 (bit s.ts.ownerLock), fld 10 4 s.ts.keySlots,
    fld 14 1 (bit s.ts.imageFault), fld 16 8 s.ts.lastReason, fld 32 32 s.ts.updDone, fld 64 32 s.ts.updLen, fld 96 64 (ofBytes s.img.fr),
    fld 160 16 s.ts.halfErased, fld 176 32 s.ts.scrubCorrected, fld 208 32 s.ts.scrubUncorr]

/-- TS_STATUS (R422). -/
def execTsStatus (tag : Nat) (s : State) : Host.Outcome State Fault Refusal :=
  .next (s.tsAccess tag 0 false fun s _ => s.answer tag (toBytes 64 s.tsStatus))

/-- TS_READ_IMAGE: bytes of the running image from the shadow. -/
def execTsReadImage (tag : Nat) (s : State) : Host.Outcome State Fault Refusal :=
  .next (s.tsAccess tag 1 false fun s c =>
    let off := dw c.entry 11
    let len := dw c.entry 12
    if s.ts.mode ≠ 0 then s.finish tag sequenceError
    else if off % 16 ≠ 0 ∨ len % 16 ≠ 0 ∨ s.ts.shadowLen < off + len then s.finish tag invalidField
    else s.answer tag (blankBytes s.ts.shadow off len))

/-- The reasons of R424 that do not look at staged data, in number order; in halter mode only reasons 1 and 6 of them. -/
def State.updReason (s : State) (ctrl : Nat) : Option Nat :=
  let halter := decide (s.ts.mode = 2)
  if s.ts.ownerLock ∧ !(halter && decide (s.ts.halterReason = 1)) then some 1
  else if !halter ∧ s.wb.eAvail < s.img.updateMj then some 2
  else if !halter ∧ (s.girth.rebuild ≠ [] ∨ s.girth.reshape ≠ []) then some 3
  else if !halter ∧ s.fe.sanitize.isSome then some 4
  else if !halter ∧ 3 ≤ s.therm.level then some 5
  else if s.ts.writing.isSome ∨ ((s.ts.staging.map fun g => decide (g.ctrl ≠ ctrl)).getD false) then some 6
  else none

/-- An update command is refused: 7:0xC5 with its reason, code 0x1109. -/
def State.updRefused (s : State) (tag reason dw1 : Nat) : State :=
  (({ s with ts := { s.ts with lastReason := reason } } : State).leave 0x1109 2 [reason]).finish tag { stat 7 0xC5 with dw0 := reason, dw1 := dw1 }

/-- TS_UPD_BEGIN: staging opens (R423 step 1). -/
def execTsUpdBegin (tag : Nat) (s : State) : Host.Outcome State Fault Refusal :=
  .next (s.tsAccess tag 2 false fun s c =>
    let len := dw c.entry 11
    if len % 16 ≠ 0 ∨ len < 64 ∨ 50331648 < len then s.finish tag invalidField
    else
      match s.updReason c.ctrl with
      | some r => s.updRefused tag r 0
      | none =>
        ({ s with ts := { s.ts with staging := some { ctrl := c.ctrl, len := len, bytes := [], covered := [] }, updState := 1, updLen := len } } : State).finish tag ok)

/-- TS_UPD_DATA: the buffer goes into staging. -/
def execTsUpdData (tag : Nat) (data : List Byte) (s : State) : Host.Outcome State Fault Refusal :=
  .next (s.tsAccess tag 3 false fun s c =>
    let off := dw c.entry 11
    let len := dw c.entry 12
    match s.ts.staging with
    | none => s.finish tag sequenceError
    | some g =>
      if g.ctrl ≠ c.ctrl then s.finish tag sequenceError
      else if off % 16 ≠ 0 ∨ len % 16 ≠ 0 ∨ 2097152 < len ∨ g.len < off + len ∨ data.length < len then s.finish tag invalidField
      else
        let g : Staging := { g with bytes := programBytes g.bytes off (data.take len), covered := g.covered ++ [(off, len)] }
        ({ s with ts := { s.ts with staging := some g } } : State).finish tag ok)

/-- How far the ranges reach without a gap from an offset on. -/
def coveredTo (rs : List (Nat × Nat)) : (fuel : Nat) → (at_ : Nat) → Nat
  | 0, p => p
  | n + 1, p => coveredTo rs n (rs.foldl (fun e (o, l) => if o ≤ p then max e (o + l) else e) p)

/-- TS_UPD_COMMIT: R424 again, the validation, and the write (R423 steps 2 to 4). -/
def execTsUpdCommit (tag : Nat) (s : State) : Host.Outcome State Fault Refusal :=
  .next (s.tsAccess tag 4 true fun s c =>
    match s.updReason c.ctrl with
    | some r => s.updRefused tag r 0
    | none =>
      match s.ts.staging with
      | none => s.finish tag sequenceError
      | some g =>
        if coveredTo g.covered g.covered.length 0 < g.len then s.updRefused tag 8 0
        else
          match imageFail g.bytes (some g.len) s.ts with
          | none => (s.updStart g.len g.bytes).finish tag ok
          | some f =>
            if f.check = 12 then
              (s.leave 0x0303 2 [bitField f.dw1 16 6, bitField f.dw1 8 8]).finish tag { stat 7 0xC9 with dw1 := f.dw1 }
            else if f.check = 9 then s.updRefused tag 7 f.dw1
            else s.updRefused tag 9 f.dw1)

/-- TS_UPD_CANCEL: the controller's staging is discarded. -/
def execTsUpdCancel (tag : Nat) (s : State) : Host.Outcome State Fault Refusal :=
  .next (s.tsAccess tag 5 false fun s c =>
    if s.ts.writing.isSome then s.finish tag sequenceError
    else
      let mine := (s.ts.staging.map fun g => decide (g.ctrl = c.ctrl)).getD false
      let s : State := if mine then { s with ts := { s.ts with staging := none, updState := 0, updLen := 0 } } else s
      s.finish tag ok)

/-- Words of the option block that are to be programmed: MAGIC first in a blank block; the command waits for the last of them. -/
def State.programOption (s : State) (tag : Nat) (parts : List (Nat × List Byte)) : State :=
  let pendingAt (off : Nat) : Bool := s.ts.queue.any fun op => match op.kind with | .option o _ => o = off | _ => false
  let parts := if s.ts.optionValid || pendingAt 0 then parts else (0, [0xA7#8, 0xB0#8, 0x01#8, 0x00#8] ++ List.replicate 12 0#8) :: parts
  match parts.getLast? with
  | none => s.finish tag ok
  | some (off, _) =>
    let s : State := { s with ts := { s.ts with queue := s.ts.queue ++ parts.map fun (o, bs) => ⟨6, .option o bs⟩ } }
    s.awaitSave (optionKey off) tag

/-- A field of the option block is not yet programmed, and no program of it waits. -/
def TsState.optionBlank (t : TsState) (off len : Nat) : Bool :=
  !(t.option.any fun (a, _) => decide (off ≤ a) && decide (a < off + len))
    && !((t.queue ++ t.running.toList ++ t.suspended).any fun op => match op.kind with | .option o _ => o = off | _ => false)

/-- TS_SET_KEY: the hash goes into the lowest blank KEY_HASH slot (R414). -/
def execTsSetKey (tag : Nat) (data : List Byte) (s : State) : Host.Outcome State Fault Refusal :=
  .next (s.tsAccess tag 6 true fun s _ =>
    if data.length < 48 then s.finish tag invalidField
    else if s.ts.ownerLock then s.finish tag sequenceError
    else
      match [0, 1, 2, 3].find? fun i => s.ts.optionBlank (0x100 + 64 * i) 48 with
      | none => s.finish tag sequenceError
      | some i => s.programOption tag [(0x100 + 64 * i, data.take 48)])

/-- TS_LOCK: a LOCK record with OWNER_LOCK 1; the command ends when it is durable. -/
def execTsLock (tag : Nat) (s : State) : Host.Outcome State Fault Refusal :=
  .next (s.tsAccess tag 7 true fun s _ => (s.writeRec .optionLog (.optLock true)).awaitSave lockKey tag)

/-- TS_UNLOCK: a LOCK record with OWNER_LOCK 0, in halter mode with reason STRAP. -/
def execTsUnlock (tag : Nat) (s : State) : Host.Outcome State Fault Refusal :=
  .next (s.tsAccess tag 8 true fun s _ =>
    if s.ts.mode = 2 ∧ s.ts.halterReason = 1 then (s.writeRec .optionLog (.optLock false)).awaitSave lockKey tag
    else s.finish tag sequenceError)

/-- TS_ERASE_IMAGE: every sector of the slot that is not blank is erased; the command ends with the last of them. -/
def execTsEraseImage (tag : Nat) (s : State) : Host.Outcome State Fault Refusal :=
  .next (s.tsAccess tag 9 true fun s _ =>
    if s.ts.ownerLock ∧ !(decide (s.ts.mode = 2) && decide (s.ts.halterReason = 1)) then s.finish tag sequenceError
    else
      if s.ts.usedSectors = [] then s.finish tag ok
      else
        let s : State := { s with ts := { s.ts with queue := s.ts.queue ++ s.ts.usedSectors.map fun x => ⟨7, .erase x 0⟩, erasing := true, written := true } }
        s.awaitSave eraseKey tag)

/-- TS_SET_ID: SN and MN, each where its words are blank. -/
def execTsSetId (tag : Nat) (data : List Byte) (s : State) : Host.Outcome State Fault Refusal :=
  .next (s.tsAccess tag 10 true fun s _ =>
    if data.length < 72 then s.finish tag invalidField
    else
      let sn := if s.ts.optionBlank 0x10 32 then [(0x10, data.take 20 ++ List.replicate 12 0#8)] else []
      let mn := if s.ts.optionBlank 0x30 48 then [(0x30, sliceBytes data 32 40 ++ List.replicate 8 0#8)] else []
      if sn ++ mn = [] then s.finish tag ok else s.programOption tag (sn ++ mn))

/-- TS_REFRESH: the slot is written again from the shadow. -/
def execTsRefresh (tag : Nat) (s : State) : Host.Outcome State Fault Refusal :=
  .next (s.tsAccess tag 11 true fun s c =>
    if s.ts.mode ≠ 0 ∨ s.ts.written then s.finish tag sequenceError
    else
      match s.updReason c.ctrl with
      | some r => s.updRefused tag r 0
      | none => (s.updStart s.ts.shadowLen s.ts.shadow).finish tag ok)

/-- TS_ACCESS_UNLISTED_OP: an OP that is not listed completes with 0:0x02 (R421, R283). -/
def execTsAccessUnlistedOp (tag : Nat) (s : State) : Host.Outcome State Fault Refusal :=
  .next (s.begin tag true 0xC5 (fun c => decide (12 ≤ tsOp c)) fun s c => s.malformed tag c invalidField)

end Sys2Proof.Machine
end

