-- ==== Sys2Proof/Machine/Thermal.lean ====
section
/-! DEFINITION. Temperature (16_thermal_and_power R379 to R386, R390): the sensors, the thermal level with its ask and its floor, the trip,
the reserve domain's correction terms, features 0x04 and 0xC2. -/
namespace Sys2Proof.Machine

/-! ### Die sensors (R379, R380): 0 to 15 controller, 16 to 47 channels, 48 oscillator, 49 reserve domain, 50 and 51 reins -/

/-- The last reading of a die sensor, 0.25 °C. -/
def ThermState.reading (t : ThermState) (i : Nat) : Option Int :=
  if i < 16 then t.ctrl.getD i none
  else if i < 48 then t.chan.getD (i - 16) none
  else if i = 48 then t.osc
  else if i = 49 then t.reserve
  else if i = 50 then t.reinA
  else if i = 51 then t.reinB
  else none

/-- The readings of one conversion in die sensor order. -/
def readingList (r : SensorReadings) : List (Option Int) :=
  (List.range 16).map (fun i => r.ctrl.getD i none) ++ (List.range 32).map (fun i => r.flash.getD i none) ++ [r.osc, r.resv, r.reinA, r.reinB]

/-- A reading within -60 to 150 °C. -/
def inSpan (x : Int) : Bool := decide (-240 ≤ x) && decide (x ≤ 600)

/-- Die sensors of the group of a sensor: the controller's, the channels', else itself (DEDUCED, log 40). -/
def groupSensors (i : Nat) : List Nat := if i < 16 then List.range 16 else if i < 48 then (List.range 32).map (· + 16) else [i]

/-- The NVMe sensor that a die sensor feeds first. -/
def nvmeOf (i : Nat) : Nat := if i < 16 then 1 else if i < 48 then 2 else i - 44

def ThermState.isBroken (t : ThermState) (i : Nat) : Bool := t.brokenDie.contains i

/-- A sensor differs by more than 20 °C from the mean of the others of its group that work. -/
def ThermState.deviates (t : ThermState) (i : Nat) : Bool :=
  let others := ((groupSensors i).filter fun j => decide (j ≠ i) && !t.isBroken j).filterMap t.reading
  match t.reading i with
  | some x => decide (others ≠ []) && decide (80 * others.length < (x * others.length - others.foldl (· + ·) 0).natAbs)
  | none => false

/-- The last readings: a sensor that gave none keeps its last one. -/
def ThermState.takeReadings (t : ThermState) (rs : List (Option Int)) : ThermState :=
  let at_ (i : Nat) : Option Int := match rs.getD i none with | some x => some x | none => t.reading i
  { t with ctrl := (List.range 16).map at_, chan := (List.range 32).map fun c => at_ (16 + c), osc := at_ 48, reserve := at_ 49, reinA := at_ 50, reinB := at_ 51,
           silent := (List.range 52).filter fun i => (rs.getD i none).isNone }

/-- Consecutive conversions by which each sensor differs from its group. -/
def ThermState.countDiffers (t : ThermState) : ThermState :=
  { t with differs := (List.range 52).filterMap fun i => if t.deviates i then some (i, min 10 (Table.getD t.differs i 0 + 1)) else none }

/-! ### The eight NVMe sensors (R379, R380) -/

/-- Working readings of die sensors. -/
def ThermState.working (t : ThermState) (is : List Nat) : List Int := (is.filter fun i => !t.isBroken i).filterMap t.reading

/-- Flash estimates of the channels in service whose sensor works. -/
def State.flashEstimates (s : State) : List Int :=
  (s.channelsInService.filter fun c => !s.therm.isBroken (16 + c)).filterMap fun c => (s.therm.reading (16 + c)).map (· + 4 * s.img.flashOfs c)

def maxOf : List Int → Option Int
  | [] => none
  | x :: xs => some (xs.foldl max x)
def minOf : List Int → Option Int
  | [] => none
  | x :: xs => some (xs.foldl min x)

/-- Sensor `n`'s source says it is broken. -/
def State.sourceBroken (s : State) (n : Nat) : Bool :=
  let t := s.therm
  if n = 1 then decide (((List.range 16).filter fun i => !t.isBroken i).length < 12)
  else if n = 2 ∨ n = 8 then decide (s.channelsInService ≠ []) && s.channelsInService.all fun c => t.isBroken (16 + c)
  else if n = 3 then false
  else t.isBroken (n + 44)

/-- What sensor `n` reads while it works; none before its first reading. -/
def State.sensorSource (s : State) (n : Nat) : Option Int :=
  let t := s.therm
  match n with
  | 1 => maxOf (t.working (List.range 16))
  | 2 => maxOf s.flashEstimates
  | 3 => (maxOf (s.dram.ranks.map fun (_, r) => r.band)).map (4 * ·)
  | 8 => minOf s.flashEstimates
  | k => t.reading (k + 44)

/-- NVMe sensor `n`, 0.25 °C: 150 °C when broken. -/
def State.sensor (s : State) (n : Nat) : Option Int := if s.therm.broken.contains n then some 600 else s.sensorSource n

/-- Its field in a status: 0 before the first reading. -/
def State.sensorField (s : State) (w n : Nat) : Nat := toSigned w ((s.sensor n).getD 0)

/-- A sensor's temperature in kelvin. -/
def kelvin (x : Int) : Nat := (x / 4 + 273).toNat

/-- The sensors that have just broken or work again (R380, R49, R391). -/
def State.nvmeCheck (s : State) (n : Nat) : State :=
  let now := s.sourceBroken n
  let was := s.therm.broken.contains n
  if now && !was then
    let s := ({ s with therm := { s.therm with broken := s.therm.broken ++ [n] } } : State).leave 0x1003 2 [n, if n = 1 then 3 else if n = 2 ∨ n = 8 then 4 else 5]
    let s : State := if n = 1 then { s with pkg := { s.pkg with vcoreReq := 20 } } else s
    if n = 4 then s.leave 0x0208 2 [] else s
  else if was && !now then ({ s with therm := { s.therm with broken := s.therm.broken.filter (· ≠ n) } } : State).leave 0x1004 0 [n]
  else s
def State.nvmeChecks (s : State) : State := [1, 2, 3, 4, 5, 6, 7, 8].foldl State.nvmeCheck s

/-- A die sensor breaks: cause 0 a reading out of range, 1 no conversion, 2 it differs from its group. -/
def State.dieBreaks (s : State) (i cause : Nat) : State :=
  if s.therm.isBroken i then s
  else ({ s with therm := { s.therm with brokenDie := s.therm.brokenDie ++ [i] } } : State).leave 0x1003 2 [nvmeOf i, cause]

/-- The sensors judged after a conversion. -/
def State.judgeSensors (s : State) : State :=
  let s := (List.range 52).foldl (fun s i =>
    match s.therm.reading i with
    | some x => if !inSpan x then s.dieBreaks i 0 else if 10 ≤ Table.getD s.therm.differs i 0 then s.dieBreaks i 2 else s
    | none => s) s
  s.nvmeChecks

/-- The last good readings that compensation and calibration use (R390, R121). -/
def State.goodReadings (s : State) : State :=
  let t := s.therm
  let good (i : Nat) : Option Int := if t.isBroken i then none else t.reading i
  { s with therm := { t with
      reserveGood := if (good 49).isSome then good 49 else t.reserveGood
      flashGood := (List.range 32).foldl (fun f c => match good (16 + c) with | some x => Table.set f c (x + 4 * s.img.flashOfs c) | none => f) t.flashGood } }

/-! ### The thermal level (R381) -/

/-- A domain's temperature for the level, 0.25 °C: a broken sensor counts as at the THROTTLE2 threshold (R380). -/
def State.domainTemp (s : State) (d : Nat) : Option Int :=
  if s.therm.broken.contains (d + 1) then some (4 * (s.img.threshold d 3 : Int)) else s.sensorSource (d + 1)

/-- The highest level whose threshold a domain reaches. -/
def State.domainLevel (s : State) (d : Nat) : Nat :=
  match s.domainTemp d with
  | none => 0
  | some x => ([4, 3, 2, 1].find? fun l => 4 * (s.img.threshold d l : Int) ≤ x).getD 0

/-- The level that the readings give, and the domain that gives it. -/
def State.levelNow (s : State) : Nat := max (s.domainLevel 0) (max (s.domainLevel 1) (s.domainLevel 2))
def State.levelDomain (s : State) : Nat := ([0, 1, 2].find? fun d => s.domainLevel d = s.levelNow).getD 0

/-- Every domain is below the level's threshold less HYST. -/
def State.belowLevel (s : State) : Bool :=
  [0, 1, 2].all fun d =>
    match s.domainTemp d with
    | none => true
    | some x => decide (x < 4 * ((s.img.threshold d s.therm.level : Int) - s.img.hyst))

/-- The floor rises for a throttle level (R21, R383): 2 THROTTLE1, 3 THROTTLE2. -/
def State.enforce (s : State) (l : Nat) : State :=
  let f := if l = 2 then s.img.floor1 else s.img.floor2
  let t := s.therm
  if t.enforced < l then
    let s : State := { s with therm := { t with floor := max t.floor f, enforced := l, tmt1 := if l = 2 then t.tmt1 + 1 else t.tmt1, tmt2 := if l = 3 then t.tmt2 + 1 else t.tmt2 } }
    s.leave 0x1002 2 [l, s.therm.floor]
  else s

/-- The device asks the host at a throttle level; with a grace of 0 it enforces at once (R383). -/
def State.ask (s : State) (l : Nat) : State :=
  let s := s.smartEvent 1 1
  let g := if l = 2 then s.therm.grace else s.therm.grace2
  if g = 0 then s.enforce l
  else if l = 2 then { s with therm := { s.therm with ask1 := some (g * 10000) } }
  else { s with therm := { s.therm with ask2 := some (g * 10000) } }

/-- The level rises (DEDUCED, log 70). -/
def State.levelRises (s : State) (new : Nat) : State :=
  let old := s.therm.level
  let s := ({ s with therm := { s.therm with level := new, below := 0 } } : State).leave 0x1001 0 [old, new, s.levelDomain]
  [2, 3].foldl (fun s l => if old < l ∧ l ≤ new then s.ask l else s) s

/-- The level falls to what the readings give: timers above it stop, the floor takes the new level's value (R383). -/
def State.levelFalls (s : State) : State :=
  let old := s.therm.level
  let new := s.levelNow
  let t := s.therm
  let e := if new < 2 then 0 else min t.enforced new
  let f := if e = 0 then 0 else min t.floor (if new = 2 then s.img.floor1 else s.img.floor2)
  ({ s with therm := { t with level := new, below := 0, enforced := e, floor := f, ask1 := if new < 2 then none else t.ask1, ask2 := if new < 3 then none else t.ask2 } } : State).leave
    0x1001 0 [old, new, s.levelDomain]

/-- The level follows the readings upward at once, and the time below it breaks off when a domain no longer stands below (R381). -/
def State.levelRise (s : State) : State :=
  let s : State := { s with therm := { s.therm with below := if s.belowLevel then s.therm.below else 0 } }
  if s.therm.level < s.levelNow then s.levelRises s.levelNow else s

/-- Timers, floor times and the time below the level at a conversion; the level then rises where it must. -/
def State.levelStep (s : State) : State :=
  let t := s.therm
  let s : State := { s with therm := { t with
      ask1 := t.ask1.map (· - 1), ask2 := t.ask2.map (· - 1)
      tmtTime1 := if t.enforced = 2 then t.tmtTime1 + 1 else t.tmtTime1
      tmtTime2 := if t.enforced = 3 then t.tmtTime2 + 1 else t.tmtTime2
      below := t.below + 1 } }
  s.levelRise

/-! ### Thresholds of feature 0x04 (R385) -/

/-- WCTEMP and CCTEMP. -/
def State.wctemp (s : State) : Nat := s.img.threshold 0 1 + 273
def State.cctemp (s : State) : Nat := s.img.threshold 0 4 + 273
/-- A threshold of the composite (0) or a sensor. -/
def State.overOf (s : State) (n : Nat) : Nat := Table.getD s.therm.overTemp n s.wctemp
def State.underOf (s : State) (n : Nat) : Nat := Table.getD s.therm.underTemp n 273

/-- Critical Warning bit 1: a temperature at or above its over threshold, or at or below its under threshold. -/
def State.tempWarning (s : State) : Bool :=
  (List.range 9).any fun n =>
    match s.sensor (max 1 n) with
    | some x => decide (s.overOf n ≤ kelvin x) || decide (kelvin x ≤ s.underOf n)
    | none => false

/-- The bit follows the readings and thresholds; its rise raises an event. -/
def State.tempCheck (s : State) : State :=
  let w := s.tempWarning
  let rise := w && !s.therm.tempWarn
  let s : State := { s with therm := { s.therm with tempWarn := w } }
  if rise then s.smartEvent 1 1 else s

/-! ### Trip (R386) -/

/-- A domain's working sensor stands at its TRIP threshold. -/
def State.atTrip (s : State) (d : Nat) : Bool :=
  !s.therm.broken.contains (d + 1) && (match s.sensorSource (d + 1) with | some x => decide (4 * (s.img.threshold d 4 : Int) ≤ x) | none => false)

/-- The trip: code 0x1005 and the dump of cause 2; without a dump to wait for, the main domain is held at once. -/
def State.trip (s : State) (d : Nat) : State :=
  let s := ({ s with therm := { s.therm with tripped := true, coolFor := 0 } } : State).leave 0x1005 3 [d + 1, s.sensorField 64 (d + 1)]
  let s := s.startDump 2 false
  if s.dump.run.isSome then s
  else if s.dump.inReset then { s with dump := { s.dump with holds := s.dump.holds ++ [2] } }
  else s.holdMain [2]

/-- Sensor 1 works and is below RESUME. -/
def State.coolEnough (s : State) : Bool :=
  !s.therm.broken.contains 1 && (match s.sensorSource 1 with | some x => decide (x < 4 * (s.img.resume : Int)) | none => false)

/-- Trip readings in a row, and the time below RESUME. -/
def State.tripStep (s : State) : State :=
  let runs := [0, 1, 2].map fun d => if s.atTrip d then min 2 (natAt s.therm.tripRun d + 1) else 0
  let s : State := { s with therm := { s.therm with tripRun := runs, coolFor := if s.therm.tripped && s.coolEnough then s.therm.coolFor + 1 else 0 } }
  match [0, 1, 2].find? fun d => natAt runs d = 2 with
  | some d => if s.therm.tripped then s else s.trip d
  | none => s

/-! ### The commands -/

/-- SENSOR_CONVERSION (R379): the reserve domain converts every sensor, once it runs. -/
def execSensorConversion (readings : SensorReadings) (s : State) : Host.Outcome State Fault Refusal :=
  if s.ts.bootStep = 0 then .next s
  else
    let s : State := { s with therm := (s.therm.takeReadings (readingList readings)).countDiffers }
    .next (s.judgeSensors.goodReadings.levelStep.tempCheck.tripStep).settleFront

/-- SENSOR_NO_CONVERSION (R380): a die sensor that gave no reading at the last conversion has given none for 1 ms. -/
def execSensorNoConversion (sensor : Nat) (s : State) : Host.Outcome State Fault Refusal :=
  if sensor < 52 ∧ s.therm.silent.contains sensor then .next ((s.dieBreaks sensor 1).nvmeChecks.levelRise.tempCheck).settleFront else .next s

/-- SENSOR_WORKS_AGAIN (R380): a broken die sensor has worked for 1 s. -/
def execSensorWorksAgain (sensor : Nat) (s : State) : Host.Outcome State Fault Refusal :=
  let good : Bool := match s.therm.reading sensor with | some x => inSpan x | none => false
  if s.therm.isBroken sensor ∧ good ∧ !s.therm.silent.contains sensor ∧ Table.getD s.therm.differs sensor 0 = 0 then
    let s := ({ s with therm := { s.therm with brokenDie := s.therm.brokenDie.filter (· ≠ sensor) } } : State).leave 0x1004 0 [nvmeOf sensor]
    .next s.nvmeChecks.tempCheck.settleFront
  else .next s

/-- THERMAL_LEVEL_FALL (R381, R383): every domain has stayed below the level for 1 s, which is 10,000 conversions. -/
def execThermalLevelFall (s : State) : Host.Outcome State Fault Refusal :=
  if s.therm.level ≠ 0 ∧ 10000 ≤ s.therm.below ∧ s.levelNow < s.therm.level then .next s.levelFalls.settleFront else .next s

/-- GRACE_EXPIRE (R383): THROTTLE1's timer, or (`second`) THROTTLE2's, expires, its time in conversions being over. -/
def execGraceExpire (second : Bool) (s : State) : Host.Outcome State Fault Refusal :=
  if second then
    if s.therm.ask2 = some 0 then .next (({ s with therm := { s.therm with ask2 := none } } : State).enforce 3).settleFront else .next s
  else if s.therm.ask1 = some 0 then .next (({ s with therm := { s.therm with ask1 := none } } : State).enforce 2).settleFront
  else .next s

/-- TRIP_RESUME (R386): sensor 1 has stayed below RESUME for 10 s, which is 100,000 conversions; the trip's hold ends. -/
def execTripResume (s : State) : Host.Outcome State Fault Refusal :=
  if s.therm.tripped ∧ s.dump.holds.contains 2 ∧ s.coolEnough ∧ 100000 ≤ s.therm.coolFor then
    .next (({ s with therm := { s.therm with tripped := false, resumed := some (s.sensorField 64 1) } } : State).releaseHold 2).settleFront
  else .next s

/-- RESERVE_COMP_UPDATE (R390). -/
def execReserveCompUpdate (s : State) : Host.Outcome State Fault Refusal :=
  match s.therm.reserveGood with
  | some x => .next { s with therm := { s.therm with resvTerm := interpolate s.img.resvComp x, vrefTerm := interpolate s.img.vrefComp x } }
  | none => .next s

/-! ### Feature 0x04 (R385) -/

/-- TMPSEL and THSEL of CDW11. -/
def tmpSel (c : Cmd) : Nat := bitField (dw c.entry 11) 16 4
def thSel (c : Cmd) : Nat := bitField (dw c.entry 11) 20 2

/-- SET_FEATURES_TEMP_THRESHOLD: TMPSEL 15 sets every sensor's. -/
def execSetFeaturesTempThreshold (tag : Nat) (s : State) : Host.Outcome State Fault Refusal :=
  .next (s.begin tag true 0x09 (fun c => decide (featId c = 0x04)) fun s c =>
    let th := bitField (dw c.entry 11) 0 16
    let which := if tmpSel c = 15 then List.range 9 else [tmpSel c]
    if (8 < tmpSel c ∧ tmpSel c ≠ 15) ∨ 1 < thSel c then s.malformed tag c invalidField
    else
      let put (t : Table Nat) : Table Nat := which.foldl (fun t n => Table.set t n th) t
      let s : State := if thSel c = 0 then { s with therm := { s.therm with overTemp := put s.therm.overTemp } } else { s with therm := { s.therm with underTemp := put s.therm.underTemp } }
      s.tempCheck.finish tag ok)

/-- GET_FEATURES_TEMP_THRESHOLD: SEL 0 the threshold, 1 and 2 its default, 3 the capabilities. -/
def execGetFeaturesTempThreshold (tag : Nat) (s : State) : Host.Outcome State Fault Refusal :=
  .next (s.begin tag true 0x0A (fun c => decide (featId c = 0x04)) fun s c =>
    if 8 < tmpSel c ∨ 1 < thSel c ∨ 3 < getSel c then s.malformed tag c invalidField
    else if getSel c = 3 then s.finish tag (okDw0 (featCaps false false true))
    else if getSel c = 0 then s.finish tag (okDw0 (if thSel c = 0 then s.overOf (tmpSel c) else s.underOf (tmpSel c)))
    else s.finish tag (okDw0 (if thSel c = 0 then s.wctemp else 273)))

end Sys2Proof.Machine
end

