-- ==== Sys2Proof/Machine/Features.lean ====
section
/-! DEFINITION. Set Features and Get Features (11_commands R267, R268, R277 to R279) but for 0x04 and 0xC6: arbitration, power states,
queues, interrupts, events, FDP, and the vendor features 0xC0 to 0xC5 (DEDUCED, log 77). -/
namespace Sys2Proof.Machine

/-! ### Shared forms -/

/-- Set Features of an identifier. -/
def State.setFeature (s : State) (tag fid : Nat) (f : State → Cmd → State) : State := s.begin tag true 0x09 (fun c => decide (featId c = fid)) f
/-- Get Features of an identifier. -/
def State.getFeature (s : State) (tag fid : Nat) (f : State → Cmd → State) : State := s.begin tag true 0x0A (fun c => decide (featId c = fid)) f

/-- Get Features of a standard feature: DW0 holds the current value, its default, or the capabilities (not saveable, changeable). -/
def State.getDw0 (s : State) (tag : Nat) (c : Cmd) (current dflt : Nat) : State :=
  match getSel c with
  | 0 => s.finish tag (okDw0 current)
  | 1 => s.finish tag (okDw0 dflt)
  | 2 => s.finish tag (okDw0 dflt)
  | 3 => s.finish tag (okDw0 (featCaps false false true))
  | _ => s.malformed tag c invalidField

/-- A vendor feature that has been set ends, with SV 1 once its FEATURE record is durable (R37, R268, R415). -/
def State.saveFeature (s : State) (tag : Nat) (c : Cmd) (fid sel : Nat) (buf : BitVec 256) : State :=
  if setSv c then (s.writeRec .optionLog (.optFeature fid sel buf)).awaitSave (saveKey fid sel) tag else s.finish tag ok

/-- A vendor feature's default: the image's FEATURE_DEFAULTS buffer `i`, or the bareback value (R9, R438). -/
def State.featDefault (s : State) (i bareback : Nat) : Nat :=
  if s.ts.mode = 0 then match imgSection s.ts.shadow 0x16 with | some d => defaultBuf (sectionNum s.ts.shadow d) i | none => bareback else bareback

/-- The saved buffer, or the default where none is saved. -/
def State.featSaved (s : State) (fid sel dflt : Nat) : Nat := match s.ts.feature fid sel with | some b => b.toNat | none => dflt

/-! ### 0x01 Arbitration, 0x08 and 0x09 interrupts, 0x0B events -/

def execSetFeaturesArbitration (tag : Nat) (s : State) : Host.Outcome State Fault Refusal :=
  .next (s.setFeature tag 0x01 fun s c => (s.setFeat 0x01 c.ctrl 0 (dw c.entry 11)).finish tag ok)
def execGetFeaturesArbitration (tag : Nat) (s : State) : Host.Outcome State Fault Refusal :=
  .next (s.getFeature tag 0x01 fun s c => s.getDw0 tag c (s.feat 0x01 c.ctrl 0) (Config.defaultFeature 0x01))

/-- Interrupt Coalescing: threshold and time, CDW11 [15:0]. -/
def execSetFeaturesIntCoalescing (tag : Nat) (s : State) : Host.Outcome State Fault Refusal :=
  .next (s.setFeature tag 0x08 fun s c => (s.setFeat 0x08 c.ctrl 0 (bitField (dw c.entry 11) 0 16)).finish tag ok)
def execGetFeaturesIntCoalescing (tag : Nat) (s : State) : Host.Outcome State Fault Refusal :=
  .next (s.getFeature tag 0x08 fun s c => s.getDw0 tag c (s.feat 0x08 c.ctrl 0) (Config.defaultFeature 0x08))

/-- Interrupt Vector Configuration: the vector in CDW11 [15:0], Coalescing Disable in bit 16. -/
def execSetFeaturesIntVectorCfg (tag : Nat) (s : State) : Host.Outcome State Fault Refusal :=
  .next (s.setFeature tag 0x09 fun s c => (s.setFeat 0x09 c.ctrl (bitField (dw c.entry 11) 0 16) (bitField (dw c.entry 11) 0 17)).finish tag ok)
def execGetFeaturesIntVectorCfg (tag : Nat) (s : State) : Host.Outcome State Fault Refusal :=
  .next (s.getFeature tag 0x09 fun s c => s.getDw0 tag c (s.feat 0x09 c.ctrl (bitField (dw c.entry 11) 0 16)) (Config.defaultFeature 0x09))

/-- Asynchronous Event Configuration: bits 31 and 0 to 9. -/
def aecMask (x : Nat) : Nat := packFields [fld 0 10 x, fld 31 1 (bitField x 31 1)]
def execSetFeaturesAsyncEventCfg (tag : Nat) (s : State) : Host.Outcome State Fault Refusal :=
  .next (s.setFeature tag 0x0B fun s c => (s.setFeat 0x0B c.ctrl 0 (aecMask (dw c.entry 11))).finish tag ok)
def execGetFeaturesAsyncEventCfg (tag : Nat) (s : State) : Host.Outcome State Fault Refusal :=
  .next (s.getFeature tag 0x0B fun s c => s.getDw0 tag c (s.feat 0x0B c.ctrl 0) (Config.defaultFeature 0x0B))

/-! ### 0x02 Power Management (R277 to R279) -/

/-- PS of CDW11; WH is ignored. -/
def psOf11 (c : Cmd) : Nat := bitField (dw c.entry 11) 0 5

/-- Entry to PS 4 begins. -/
def State.enterPs4 (s : State) : State :=
  ({ s with fe := { s.fe with lastPs := if s.fe.ps = 4 then s.fe.lastPs else s.fe.ps, ps := 4, ps4 := 1, ps4Exit := false, ps4Next := none } } : State).leave 0x0B08 0 [4]

/-- SET_FEATURES_PS_OPERATIONAL (R278): PS 0 to 3 is in force at once; during PS 4 entry it takes effect at the entry's end, and after it the
return leads there (R279). A PS above 4 is reserved. -/
def execSetFeaturesPsOperational (tag : Nat) (s : State) : Host.Outcome State Fault Refusal :=
  .next (s.begin tag true 0x09 (fun c => decide (featId c = 0x02) && decide (psOf11 c ≠ 4)) fun s c =>
    let p := psOf11 c
    if 4 < p then s.malformed tag c invalidField
    else
      let s : State := match s.fe.ps4 with
        | 0 => { s with fe := { s.fe with ps := p, lastPs := p } }
        | 1 => { s with fe := { s.fe with ps4Next := some p } }
        | _ => { s with fe := { s.fe with lastPs := p, ps4Next := none } }
      s.finish tag ok)

/-- SET_FEATURES_PS4 (R279): the command completes and entry begins; while PS 4 is entered or held, it is entered again after the return. -/
def execSetFeaturesPs4 (tag : Nat) (s : State) : Host.Outcome State Fault Refusal :=
  .next (s.begin tag true 0x09 (fun c => decide (featId c = 0x02) && decide (psOf11 c = 4)) fun s _ =>
    let s : State := if s.fe.ps4 = 0 then s.enterPs4 else { s with fe := { s.fe with ps4Next := some 4 } }
    s.finish tag ok)

/-- ASPM L1 is commanded on a rein in L0 whose host permits it, where PS_TABLE allows it in PS 4; the link leaves L1 at the return (R277, R279, R387). -/
def ReinPort.sleep (p : ReinPort) : ReinPort := if p.link = 2 ∧ p.aspmL1 then { p with link := 3 } else p
def ReinPort.wake (p : ReinPort) : ReinPort := if p.link = 3 then { p with link := 2 } else p
def State.sleepLinks (s : State) : State :=
  if s.img.psL1 4 then (s.modPort .a ReinPort.sleep).modPort .b ReinPort.sleep else s
def State.wakeLinks (s : State) : State := (s.modPort .a ReinPort.wake).modPort .b ReinPort.wake

/-- PS4_ENTRY_END (R279): the PS 4 plan runs and L1 is commanded; a state asked for during entry takes effect. -/
def execPs4EntryEnd (s : State) : Host.Outcome State Fault Refusal :=
  if s.fe.ps4 = 1 ∧ s.plan.ps = 4 ∧ s.plan.pendingNo.isNone then
    let s : State := s.sleepLinks
    let s : State := { s with fe := { s.fe with ps4 := 2 } }
    match s.fe.ps4Next with
    | some p => if p = 4 then .next s else .next { s with fe := { s.fe with ps := p, lastPs := p, ps4Next := none } }
    | none => .next s
  else .next s

/-- PS4_EXIT_DONE (R279): EXLAT has passed since a command was fetched in PS 4; the last operational state returns and the held
completions are posted. -/
def execPs4ExitDone (s : State) : Host.Outcome State Fault Refusal :=
  if s.fe.ps4 = 2 ∧ s.fe.ps4Exit then
    let again := decide (s.fe.ps4Next = some 4)
    let s : State := { s with fe := { s.fe with ps := s.fe.lastPs, ps4 := 0, ps4Exit := false, ps4Next := none,
                                                cmds := s.fe.cmds.map fun (t, c) => (t, { c with held := false }) } }
    let s := s.wakeLinks.leave 0x0B08 0 [s.fe.lastPs]
    .next (if again then s.enterPs4 else s).settleFront.leasesDue
  else .next s

/-- GET_FEATURES_POWER_MGMT: the state that the host selected. -/
def execGetFeaturesPowerMgmt (tag : Nat) (s : State) : Host.Outcome State Fault Refusal :=
  .next (s.getFeature tag 0x02 fun s c => s.getDw0 tag c (match s.fe.ps4Next with | some p => p | none => s.fe.ps) 0)

/-! ### 0x07 Number of Queues (R241) -/

/-- Queues of the pool that no controller holds. -/
def State.freeSqs (s : State) : Nat := Config.queuePool - (s.fe.ctrls.map fun (_, c) => c.grantSq).sum
def State.freeCqs (s : State) : Nat := Config.queuePool - (s.fe.ctrls.map fun (_, c) => c.grantCq).sum

/-- DW0: the queues granted less one, submission and completion. -/
def queuesDw0 (c : Ctrl) : Nat := packFields [fld 0 16 (c.grantSq - 1), fld 16 16 (c.grantCq - 1)]

def execSetFeaturesNumQueues (tag : Nat) (s : State) : Host.Outcome State Fault Refusal :=
  .next (s.setFeature tag 0x07 fun s c =>
    let x := s.ctrl c.ctrl
    let sq := min (bitField (dw c.entry 11) 0 16 + 1) (min 256 (s.freeSqs + x.grantSq))
    let cq := min (bitField (dw c.entry 11) 16 16 + 1) (min 256 (s.freeCqs + x.grantCq))
    let s := s.modCtrl c.ctrl fun x => { x with grantSq := sq, grantCq := cq }
    s.finish tag (okDw0 (queuesDw0 (s.ctrl c.ctrl))))

def execGetFeaturesNumQueues (tag : Nat) (s : State) : Host.Outcome State Fault Refusal :=
  .next (s.getFeature tag 0x07 fun s c => s.getDw0 tag c (queuesDw0 (s.ctrl c.ctrl)) (Config.defaultFeature 0x07))

/-! ### 0x1D and 0x1E Flexible Data Placement (R144, R267, R269) -/

/-- SET_FEATURES_FDP: FDPE in CDW12 bit 0, configuration index in bits [15:8], of which 0 alone exists. -/
def execSetFeaturesFdp (tag : Nat) (s : State) : Host.Outcome State Fault Refusal :=
  .next (s.setFeature tag 0x1D fun s c =>
    if bitField (dw c.entry 12) 8 8 ≠ 0 then s.malformed tag c invalidField
    else ({ s with map := { s.map with fdp := decide (bitField (dw c.entry 12) 0 1 = 1) } } : State).finish tag ok)
def execGetFeaturesFdp (tag : Nat) (s : State) : Host.Outcome State Fault Refusal :=
  .next (s.getFeature tag 0x1D fun s c => s.getDw0 tag c (bit s.map.fdp) 0)

/-- Events that FDP Events may name (the table of FDP events). -/
def fdpEventTypes : List Nat := [0x00, 0x02, 0x03, 0x80, 0x81]
/-- The handle that a placement handle index of a namespace names. -/
def State.fdpHandle (s : State) (c : Cmd) : Option Nat :=
  (Table.find s.fe.spaces (sqeNsid c.entry)).bind fun n => n.handles[bitField (dw c.entry 11) 0 16]?

/-- SET_FEATURES_FDP_EVENTS: the placement handle in CDW11 [15:0], the number of event types in [23:16], the types in the buffer, FDPEE in
CDW12 bit 0. -/
def execSetFeaturesFdpEvents (tag : Nat) (types : List Byte) (s : State) : Host.Outcome State Fault Refusal :=
  .next (s.setFeature tag 0x1E fun s c =>
    let ts := (types.take (bitField (dw c.entry 11) 16 8)).map (·.toNat)
    match s.fdpHandle c with
    | none => s.finish tag invalidField
    | some h =>
      if ts.length < bitField (dw c.entry 11) 16 8 ∨ ts.any (fun t => !fdpEventTypes.contains t) then s.finish tag invalidField
      else (ts.foldl (fun s t => s.setFeat 0x1E 0 (256 * h + t) (bitField (dw c.entry 12) 0 1)) s).finish tag ok)

/-- GET_FEATURES_FDP_EVENTS: one descriptor of two bytes for each event type, its number and whether it is enabled; DW0 counts them. -/
def execGetFeaturesFdpEvents (tag : Nat) (s : State) : Host.Outcome State Fault Refusal :=
  .next (s.getFeature tag 0x1E fun s c =>
    if 3 < getSel c then s.malformed tag c invalidField
    else if getSel c = 3 then s.finish tag (okDw0 (featCaps false true true))
    else
      match s.fdpHandle c with
      | none => s.finish tag invalidField
      | some h =>
        let on (t : Nat) : Bool := if getSel c = 0 then s.fdpEnabled h t else decide (Config.defaultFeature 0x1E % 2 = 1)
        let ts := fdpEventTypes.take (bitField (dw c.entry 11) 16 8)
        (s.modCmd tag fun c => { c with out := ts.flatMap fun t => toBytes 1 t ++ toBytes 1 (bit (on t)) }).finish tag (okDw0 ts.length))

/-! ### 0xC0 Wheel configuration (R34, R37, R38, R41, R76, R77) -/

/-- WHEEL_CFG as last set. -/
def WheelState.cfgSet (w : WheelState) : WheelCfg := w.next.getD w.cfg

/-- The check of R76 on a new TOOTH_CYCLES: the invariant and the plan that fail. In bareback operation 0x0303 carries plan 0, because R77 names the
invariant alone (DESIGN CHOICE, log 80). -/
def State.toothFail (s : State) (tooth : Nat) : Option (Nat × Nat) :=
  if s.ts.mode = 0 then (imgPlanSet s.ts.shadow).firstFail tooth [9, 11] else if tooth < 1000 then some (9, 0) else none

/-- A checked WHEEL_CFG is taken: the five fields of R38 wait for the round boundary, the others are in force. -/
def State.setWheel (s : State) (w : WheelCfg) (arm : Bool) : State :=
  let now := { s.wheel.cfg with failover := w.failover, slewMax := w.slewMax, stepThreshold := w.stepThreshold, guardTeeth := w.guardTeeth, lockWindow := w.lockWindow,
                                refSecond := w.refSecond }
  { s with wheel := { s.wheel with cfg := now, next := if w = now then none else some w, refArm := s.wheel.refArm || arm } }

/-- Set Features 0xC0. The arm of REF_SECOND is refused while the SOURCE in force is XTAL, whatever SOURCE the same write sets
(R37, R38, R41; DESIGN CHOICE, log 79). -/
def execSetFeaturesWheelCfg (tag : Nat) (buf : BitVec 256) (s : State) : Host.Outcome State Fault Refusal :=
  .next (s.setFeature tag 0xC0 fun s c =>
    let w := wheelCfgOf buf.toNat
    let arm := refArmOf buf.toNat
    let fails := if w.toothCycles = s.wheel.cfgSet.toothCycles then none else s.toothFail w.toothCycles
    if !w.inRange then s.malformed tag c invalidField
    else if arm ∧ s.wheel.cfg.source = 0 ∧ (s.wheel.mode = .free ∨ s.wheel.mode = .holdover) then s.finish tag (stat 7 0xC6)
    else
      match fails with
      | some (inv, pos) => (s.leave 0x0303 2 [pos, inv]).finish tag (stat 7 0xC9)
      | none => (s.setWheel w arm).saveFeature tag c 0xC0 0 buf)

def execGetFeaturesWheelCfg (tag : Nat) (s : State) : Host.Outcome State Fault Refusal :=
  .next (s.getFeature tag 0xC0 fun s c =>
    let d := (wheelCfgOf (s.featDefault 0 ({} : WheelCfg).pack)).pack
    s.getBuffer tag c s.wheel.cfgSet.pack d (wheelCfgOf (s.featSaved 0xC0 0 d)).pack (featCaps true false true))

/-! ### 0xC1 Twin rein (R242) -/

def execSetFeaturesTwinRein (tag : Nat) (buf : BitVec 256) (s : State) : Host.Outcome State Fault Refusal :=
  .next (s.setFeature tag 0xC1 fun s c =>
    let t := s.rein.twin.set buf.toNat
    if !t.inRange then s.malformed tag c invalidField
    else if s.rein.twin.enforce ∧ (!t.enforce ∨ t.slot ≠ s.rein.twin.slot) then s.finish tag { stat 7 0xC2 with dnr := true }
    else ((({ s with rein := { s.rein with twin := t } } : State).leaseFence .a).leaseFence .b).saveFeature tag c 0xC1 0 buf)

def execGetFeaturesTwinRein (tag : Nat) (s : State) : Host.Outcome State Fault Refusal :=
  .next (s.getFeature tag 0xC1 fun s c =>
    let d := (({} : TwinCfg).set (s.featDefault 1 ({} : TwinCfg).pack)).pack
    s.getBuffer tag c s.rein.twin.pack d (({} : TwinCfg).set (s.featSaved 0xC1 0 d)).pack (featCaps true false true))

/-! ### 0xC2 Throttle grace (R384) -/

/-- THROTTLE_CFG: the graces and what hardware reports. -/
def graceBits (g : Nat × Nat) : Nat := packFields [fld 0 6 g.1, fld 8 4 g.2]
def State.throttlePack (s : State) : Nat :=
  let t := s.therm
  let left := match t.ask1, t.ask2 with | some a, some b => min a b | some a, none => a | none, some b => b | none, none => 0
  packFields [fld 0 6 t.grace, fld 8 4 t.grace2, fld 16 3 t.level, fld 19 3 t.floor, fld 22 1 (bit t.ask1.isSome), fld 23 1 (bit t.ask2.isSome),
    fld 24 16 (left / 10), fld 40 16 (s.sensorField 16 1), fld 56 16 (s.sensorField 16 2), fld 72 16 (s.sensorField 16 3),
    fld 88 8 ((t.broken.map fun i => 2 ^ (i - 1)).sum)]

def execSetFeaturesThrottleGrace (tag : Nat) (buf : BitVec 256) (s : State) : Host.Outcome State Fault Refusal :=
  .next (s.setFeature tag 0xC2 fun s c =>
    let g := graceOf buf.toNat
    if !graceInRange g then s.malformed tag c invalidField
    else ({ s with therm := { s.therm with grace := g.1, grace2 := g.2 } } : State).saveFeature tag c 0xC2 0 buf)

def execGetFeaturesThrottleGrace (tag : Nat) (s : State) : Host.Outcome State Fault Refusal :=
  .next (s.getFeature tag 0xC2 fun s c =>
    let d := graceBits (graceOf (s.featDefault 2 (graceBits (10, 2))))
    s.getBuffer tag c s.throttlePack d (graceBits (graceOf (s.featSaved 0xC2 0 d))) (featCaps true false true))

/-! ### 0xC3 Counter select (R393, R394) -/

/-- The counter named in CDW11 [5:0]; the other bits must be 0. -/
def counterNo (c : Cmd) : Nat := bitField (dw c.entry 11) 0 6
def counterClean (c : Cmd) : Bool := decide (bitField (dw c.entry 11) 6 26 = 0)

/-- A selection applies: a change of SRC or INST clears the counter, as CLEAR does. -/
def Counter.select (k n : Counter) (clear : Bool) : Counter :=
  if clear ∨ k.src ≠ n.src ∨ k.inst ≠ n.inst then { n with value := 0, sat := false } else { n with value := k.value, sat := k.sat }

def execSetFeaturesCounterSelect (tag : Nat) (buf : BitVec 256) (s : State) : Host.Outcome State Fault Refusal :=
  .next (s.setFeature tag 0xC3 fun s c =>
    let n := counterOf buf.toNat
    let i := counterNo c
    if !counterClean c ∨ !n.inRange then s.malformed tag c invalidField
    else
      let s := s.saveFeature tag c 0xC3 i buf
      { s with obs := { s.obs with counters := updAt s.obs.counters i fun k => k.select n (counterClearOf buf.toNat) } })

def execGetFeaturesCounterSelect (tag : Nat) (s : State) : Host.Outcome State Fault Refusal :=
  .next (s.getFeature tag 0xC3 fun s c =>
    let i := counterNo c
    let d := (counterOf (s.featDefault (4 + i) (packFields [fld 32 11 0x7FF]))).pack
    if !counterClean c then s.malformed tag c invalidField
    else s.getBuffer tag c (s.obs.counters.getD i {}).pack d (counterOf (s.featSaved 0xC3 i d)).pack (featCaps true false true))

/-! ### 0xC4 Dirty window (R212) -/

/-- DIRTY_WIN. -/
def WbState.pack (w : WbState) : Nat :=
  packFields [fld 0 16 w.dwMib, fld 16 16 w.effMib, fld 32 32 w.dirty, fld 64 32 w.eAvail, fld 96 32 w.eNeed, fld 128 1 (bit w.backupFail)]

def execSetFeaturesDirtyWindow (tag : Nat) (buf : BitVec 256) (s : State) : Host.Outcome State Fault Refusal :=
  .next (s.setFeature tag 0xC4 fun s c =>
    let d := dwOf buf.toNat
    if !dwInRange d then s.malformed tag c invalidField
    else ({ s with wb := { s.wb with dwMib := d } } : State).saveFeature tag c 0xC4 0 buf)

def execGetFeaturesDirtyWindow (tag : Nat) (s : State) : Host.Outcome State Fault Refusal :=
  .next (s.getFeature tag 0xC4 fun s c =>
    s.getBuffer tag c s.wb.pack s.img.dwDefault (dwOf (s.featSaved 0xC4 0 s.img.dwDefault)) (featCaps true false true))

/-! ### 0xC5 Skiver (R327) -/

def skiverBits (c : SkiverCfg) : Nat := packFields [fld 0 1 (bit c.inlineEn), fld 4 3 c.wcode, fld 8 8 c.resetPct, fld 16 16 c.outMaxKib]

def execSetFeaturesSkiver (tag : Nat) (buf : BitVec 256) (s : State) : Host.Outcome State Fault Refusal :=
  .next (s.setFeature tag 0xC5 fun s c =>
    let k := skiverCfgOf buf.toNat
    if !k.inRange then s.malformed tag c invalidField
    else ({ s with skv := { s.skv with cfg := k } } : State).saveFeature tag c 0xC5 0 buf)

def execGetFeaturesSkiver (tag : Nat) (s : State) : Host.Outcome State Fault Refusal :=
  .next (s.getFeature tag 0xC5 fun s c =>
    let d := skiverBits (skiverCfgOf (s.featDefault 3 (skiverBits {})))
    s.getBuffer tag c s.skv.pack d (skiverBits (skiverCfgOf (s.featSaved 0xC5 0 d))) (featCaps true false true))

/-! ### Identifiers and operations that are not listed -/

/-- Identifiers that Set and Get Features serve (R267, R268). -/
def featureServed (fid : Nat) : Bool := [0x01, 0x02, 0x04, 0x07, 0x08, 0x09, 0x0B, 0x1D, 0x1E, 0xC0, 0xC1, 0xC2, 0xC3, 0xC4, 0xC5].contains fid

/-- The operations of feature 0xC6 that Set (R291) and Get Features serve. -/
def cipherServed (set : Bool) (op : Nat) : Bool := if set then [0, 1, 2, 3].contains op else [0, 4].contains op

/-- FEATURES_UNSUPPORTED_ID (R267, R268, R291): an identifier not supported, or an operation of 0xC6 not listed or used with the wrong
command, completes with 0:0x02. -/
def execFeaturesUnsupportedId (tag : Nat) (s : State) : Host.Outcome State Fault Refusal :=
  let bad (set : Bool) (c : Cmd) : Bool := if featId c = 0xC6 then !cipherServed set (cipherOp c) else !featureServed (featId c)
  let s1 := s.begin tag true 0x09 (bad true) fun s c => s.malformed tag c invalidField
  .next (s1.begin tag true 0x0A (bad false) fun s c => s.malformed tag c invalidField)

/-! ### A controller reset (R9) -/

/-- The vendor features take their power-on values, those saved or the defaults; VALUE and SAT of the counters return to 0, and a WHEEL_CFG with a TOOTH_CYCLES
that the plans do not serve is left out as at power-on (R441). The fields of R38 wait for the round boundary (DEDUCED, log 88). -/
def State.restoreFeatures (s : State) : State :=
  let buf (i fid sel bare : Nat) : Nat := s.featSaved fid sel (s.featDefault i bare)
  let dflt := wheelCfgOf (s.featDefault 0 ({} : WheelCfg).pack)
  let saved := wheelCfgOf (buf 0 0xC0 0 ({} : WheelCfg).pack)
  let wheel := if (s.toothFail saved.toothCycles).isSome then dflt else saved
  let grace := graceOf (buf 2 0xC2 0 (graceBits (10, 2)))
  let s : State := { s.setWheel { wheel with refSecond := 0 } false with
    rein := { s.rein with twin := s.rein.twin.set (buf 1 0xC1 0 ({} : TwinCfg).pack) }
    therm := { s.therm with grace := grace.1, grace2 := grace.2 }
    skv := { s.skv with cfg := skiverCfgOf (buf 3 0xC5 0 (packFields [fld 0 1 1, fld 4 3 7, fld 8 8 90])) }
    wb := { s.wb with dwMib := match s.ts.feature 0xC4 0 with | some b => dwOf b.toNat | none => s.img.dwDefault }
    obs := { s.obs with counters := (List.range 64).map fun i => counterOf (buf (4 + i) 0xC3 i (packFields [fld 32 11 0x7FF])) } }
  (({ s with wheel := { s.wheel with refArm := false } } : State).leaseFence .a).leaseFence .b

end Sys2Proof.Machine
end

