-- ==== Sys2Proof/Machine/Identify.lean ====
section
/-! DEFINITION. Identify (11_commands R262): the data structures of each CNS, as bytes the spec or NVMe's layout gives (log 7) over free
bytes where neither gives a value (log 9) (DEDUCED, log 77). -/
namespace Sys2Proof.Machine

/-! ### Shared forms -/

/-- CNS, CNTID and CSI of an Identify command. -/
def idCns (c : Cmd) : Nat := bitField (dw c.entry 10) 0 8
def idCntid (c : Cmd) : Nat := bitField (dw c.entry 10) 16 16
def idCsi (c : Cmd) : Nat := bitField (dw c.entry 11) 24 8

/-- The NSID that names every namespace. -/
def broadcast : Nat := 0xFFFFFFFF

/-- Namespaces that commands may name: none in halter mode, where NN is 0 (R263). -/
def State.spaces (s : State) : Table Namespace := if s.ts.mode = 2 then [] else s.fe.spaces
/-- The namespace of an NSID, when it is attached to a controller. -/
def State.attachedSpace (s : State) (ctrl nsid : Nat) : Option Namespace :=
  (Table.find s.spaces nsid).bind fun n => if n.attached.contains ctrl then some n else none

/-- Identify of a CNS. -/
def State.identify (s : State) (tag cns : Nat) (f : State → Cmd → State) : State := s.begin tag true 0x06 (fun c => decide (idCns c = cns)) f
/-- The 4,096 bytes of an Identify data structure: parts over free bytes. -/
def State.giveIdentify (s : State) (tag cns sel : Nat) (pg : Page) : State := s.answer tag (pageOver (Config.identifyByte cns sel) pg 0 4096)
/-- A list that fills its 4,096 bytes with zeros. -/
def State.giveList (s : State) (tag : Nat) (bs : List Byte) : State := s.answer tag (pageSlice [(0, bs)] 0 4096)
/-- 0:0x0B, an NSID that is invalid or not attached (R283). -/
def State.badNsid (s : State) (tag : Nat) (c : Cmd) : State := s.malformed tag c (stat 0 0x0B)

/-! ### Namespaces -/

/-- The four LBA formats (R139): metadata size, data size as a power of two. -/
def lbaFormats : List Nat := [packFields [fld 16 8 9], packFields [fld 16 8 12], packFields [fld 0 16 8, fld 16 8 12], packFields [fld 0 16 16, fld 16 8 12]]

/-- What every namespace's structure holds: four formats, both metadata forms, protection types 1 to 3 first or last, and DLFEAT 0x19 (R139, R148). -/
def commonSpacePage : Page :=
  [part 25 1 3, part 27 1 3, part 28 1 0x1F, part 33 1 0x19] ++ (List.range 4).map fun i => part (128 + 4 * i) 4 (natAt lbaFormats i)

/-- Blocks of a namespace that are mapped, for NUSE: mapped units by the blocks of a unit. -/
def State.mappedOf (s : State) (nsx : Nat) : Nat := ((s.map.segs.filter fun (_, d) => d.alloc && !d.tagKind && decide (d.nsx = nsx)).map fun (_, d) => d.mapped).sum
/-- Identify Namespace data of a namespace. -/
def State.spacePage (s : State) (n : Namespace) : Page :=
  commonSpacePage ++ [part 0 8 n.nsze, part 8 8 n.nsze, part 16 8 (min n.nsze (s.mappedOf n.nsx * n.perUnit)), part 26 1 n.flbas, part 29 1 n.piType,
    part 3840 2 n.nsx]

/-- CNS 0x00: a namespace attached to the controller, or what is common to all. -/
def execIdentifyNamespace (tag : Nat) (s : State) : Host.Outcome State Fault Refusal :=
  .next (s.identify tag 0x00 fun s c =>
    if sqeNsid c.entry = broadcast then s.giveIdentify tag 0x00 broadcast commonSpacePage
    else
      match s.attachedSpace c.ctrl (sqeNsid c.entry) with
      | some n => s.giveIdentify tag 0x00 (sqeNsid c.entry) (s.spacePage n)
      | none => s.badNsid tag c)

/-- CNS 0x11: a namespace that exists. -/
def execIdentifyAllocatedNamespace (tag : Nat) (s : State) : Host.Outcome State Fault Refusal :=
  .next (s.identify tag 0x11 fun s c =>
    match Table.find s.spaces (sqeNsid c.entry) with
    | some n => s.giveIdentify tag 0x00 (sqeNsid c.entry) (s.spacePage n)
    | none => s.badNsid tag c)

/-- NSIDs above one, lowest first, at most 1,024, as a list. -/
def nsidList (ids : List Nat) (above : Nat) : List Byte := ((ids.filter (above < ·)).take 1024).flatMap (toBytes 4)

/-- CNS 0x02: namespaces attached to the controller. -/
def execIdentifyActiveNsList (tag : Nat) (s : State) : Host.Outcome State Fault Refusal :=
  .next (s.identify tag 0x02 fun s c =>
    if 0xFFFFFFFE ≤ sqeNsid c.entry then s.badNsid tag c
    else s.giveList tag (nsidList ((s.spaces.filter fun (_, n) => n.attached.contains c.ctrl).map (·.1)) (sqeNsid c.entry)))

/-- CNS 0x10: namespaces that exist. -/
def execIdentifyAllocatedNsList (tag : Nat) (s : State) : Host.Outcome State Fault Refusal :=
  .next (s.identify tag 0x10 fun s c =>
    if 0xFFFFFFFE ≤ sqeNsid c.entry then s.badNsid tag c else s.giveList tag (nsidList (s.spaces.map (·.1)) (sqeNsid c.entry)))

/-- CNS 0x03: identification descriptors, whose identifiers the spec does not give; the Command Set Identifier descriptor is NVM's. -/
def execIdentifyNsIdDescriptors (tag : Nat) (s : State) : Host.Outcome State Fault Refusal :=
  .next (s.identify tag 0x03 fun s c =>
    match s.attachedSpace c.ctrl (sqeNsid c.entry) with
    | some _ => s.giveIdentify tag 0x03 (sqeNsid c.entry) [part 0 5 0x0000000104]
    | none => s.badNsid tag c)

/-- Extended formats of the NVM command set (R139): storage tag size 0, and the 64-bit guard of format 3. -/
def elbaFormats : List Nat := [0, 0, 0, packFields [fld 7 2 2]]
/-- CNS 0x05 with CSI 0. -/
def execIdentifyCssNamespace (tag : Nat) (s : State) : Host.Outcome State Fault Refusal :=
  .next (s.identify tag 0x05 fun s c =>
    if idCsi c ≠ 0 then s.malformed tag c invalidField
    else
      match s.attachedSpace c.ctrl (sqeNsid c.entry) with
      | some _ => s.giveIdentify tag 0x05 (sqeNsid c.entry) ((List.range 4).map fun i => part (12 + 4 * i) 4 (natAt elbaFormats i))
      | none => s.badNsid tag c)

/-- CNS 0x06 with CSI 0. -/
def execIdentifyCssController (tag : Nat) (s : State) : Host.Outcome State Fault Refusal :=
  .next (s.identify tag 0x06 fun s c => if idCsi c ≠ 0 then s.malformed tag c invalidField else s.giveIdentify tag 0x06 c.ctrl [])

/-- CNS 0x08. -/
def execIdentifyCssIndependentNs (tag : Nat) (s : State) : Host.Outcome State Fault Refusal :=
  .next (s.identify tag 0x08 fun s c =>
    match s.attachedSpace c.ctrl (sqeNsid c.entry) with
    | some _ => s.giveIdentify tag 0x08 (sqeNsid c.entry) []
    | none => s.badNsid tag c)

/-! ### Controllers -/

/-- ENLAT of a power state in µs (R277, R387): two rounds of the tooth in force and the entry margin, rounded up to a whole millisecond. -/
def State.enlat (s : State) (ps : Nat) : Nat := ceilDiv (2 * 1024 * s.wheel.cfg.toothCycles * 10 / 1000 + s.img.psEnlatExtra ps) 1000 * 1000
/-- The first 12 bytes of a power state descriptor. -/
def State.psDescriptor (s : State) (ps : Nat) : Nat :=
  packFields [fld 0 16 (s.img.psMp ps), fld 25 1 (s.img.psNops ps), fld 32 32 (s.enlat ps), fld 64 32 (s.img.psExlat ps)]

/-- Identify Controller: the table of values that the device sets. -/
def State.controllerPage (s : State) (ctrl : Nat) : Page :=
  let free (off : Nat) : Nat := (Config.identifyByte 0x01 ctrl off).toNat
  let ctratt := free 96 + 256 * free 97 + 65536 * (free 98 - bitField (free 98) 3 1 * 8 + 8) + 16777216 * free 99
  [(4, s.ts.serialNumber), (24, s.ts.modelNumber), (64, s.img.fr), part 76 1 (if s.rein.twin.merged then 2 else 3), part 77 1 9, part 78 2 ctrl,
   part 80 4 0x00020000, part 96 4 ctratt, part 256 2 0x025A, part 258 1 3, part 259 1 7, part 260 1 3, part 262 1 63, part 263 1 4,
   part 266 2 s.wctemp, part 268 2 s.cctemp, part 316 2 90, part 324 2 0, part 326 2 0, part 328 4 3,
   part 516 4 (if s.ts.mode = 2 then 0 else 1024), part 520 2 0x009D, part 525 1 0, part 536 4 1]
  ++ ((List.range 5).map fun p => part (2048 + 32 * p) 12 (s.psDescriptor p)) ++ [part 3072 64 s.pkg.identRec]

/-- CNS 0x01 (R262, R263, R277, R385, R387, R468). -/
def execIdentifyController (tag : Nat) (s : State) : Host.Outcome State Fault Refusal :=
  .next (s.identify tag 0x01 fun s c => s.giveIdentify tag 0x01 c.ctrl (s.controllerPage c.ctrl))

/-- Controllers of the device by CNTLID: 64 functions, of each rein in SEPARATE mode (R240). -/
def State.controllers (s : State) : List Nat := List.range (if s.sharedCtrl then 64 else 128)
/-- A controller list: its count and identifiers at or above one. -/
def ctrlList (ids : List Nat) (from_ : Nat) : List Byte :=
  let xs := (ids.filter (from_ ≤ ·)).take 2047
  toBytes 2 xs.length ++ xs.flatMap (toBytes 2)

/-- CNS 0x12: controllers a namespace is attached to. -/
def execIdentifyAttachedCtrlList (tag : Nat) (s : State) : Host.Outcome State Fault Refusal :=
  .next (s.identify tag 0x12 fun s c =>
    match Table.find s.spaces (sqeNsid c.entry) with
    | some n => s.giveList tag (ctrlList (s.controllers.filter n.attached.contains) (idCntid c))
    | none => s.badNsid tag c)

/-- CNS 0x13. -/
def execIdentifyControllerList (tag : Nat) (s : State) : Host.Outcome State Fault Refusal :=
  .next (s.identify tag 0x13 fun s c => s.giveList tag (ctrlList s.controllers (idCntid c)))

/-- The physical function's controller of a controller. -/
def State.primaryOf (_ : State) (ctrl : Nat) : Nat := ctrl / 64 * 64
/-- CNS 0x14: the primary controller's capabilities; the identifier alone is given. -/
def execIdentifyPrimaryCtrlCaps (tag : Nat) (s : State) : Host.Outcome State Fault Refusal :=
  .next (s.identify tag 0x14 fun s c => s.giveIdentify tag 0x14 c.ctrl [part 0 2 (s.primaryOf c.ctrl)])

/-- The virtual functions' controllers of a physical function at or above a CNTID: identifiers and function numbers. -/
def secondaryPage (p cntid : Nat) : Page :=
  let xs := ((List.range 63).map (p + 1 + ·)).filter (cntid ≤ ·)
  part 0 1 xs.length :: (List.range xs.length).flatMap fun i => [part (32 + 32 * i) 4 (natAt xs i + 65536 * p), part (40 + 32 * i) 2 (natAt xs i - p)]
/-- CNS 0x15: the virtual functions' controllers of the physical function at or above CNTID. -/
def execIdentifySecondaryCtrlList (tag : Nat) (s : State) : Host.Outcome State Fault Refusal :=
  .next (s.identify tag 0x15 fun s c => s.giveIdentify tag 0x15 c.ctrl (secondaryPage (s.primaryOf c.ctrl) (idCntid c)))

/-- CNS 0x1C: one combination, of the NVM command set alone. -/
def execIdentifyIoCmdSet (tag : Nat) (s : State) : Host.Outcome State Fault Refusal :=
  .next (s.identify tag 0x1C fun s _ => s.giveList tag (toBytes 8 1))

/-- The CNS values that Identify serves. -/
def cnsServed : List Nat := [0x00, 0x01, 0x02, 0x03, 0x05, 0x06, 0x08, 0x10, 0x11, 0x12, 0x13, 0x14, 0x15, 0x1C]
/-- IDENTIFY_UNSUPPORTED_CNS. -/
def execIdentifyUnsupportedCns (tag : Nat) (s : State) : Host.Outcome State Fault Refusal :=
  .next (s.begin tag true 0x06 (fun c => !cnsServed.contains (idCns c)) fun s c => s.malformed tag c invalidField)

end Sys2Proof.Machine
end

