-- ==== Sys2Proof/Machine/Logs.lean ====
section
/-! DEFINITION. Get Log Page (11_commands R269, R270): the standard pages, as bytes the spec or NVMe's layout gives (log 7) over free bytes
where neither gives a value (log 9), and the vendor pages 0xC0 to 0xC6 in the layouts of their chapters. -/
namespace Sys2Proof.Machine

/-! ### Shared forms -/

/-- Fields of a Get Log Page: identifier, LSP, RAE, offset and bytes asked for. -/
def logLid (c : Cmd) : Nat := bitField (dw c.entry 10) 0 8
def logLsp (c : Cmd) : Nat := bitField (dw c.entry 10) 8 7
def logRae (c : Cmd) : Bool := bitField (dw c.entry 10) 15 1 = 1
def logOff (c : Cmd) : Nat := dw c.entry 12 + 4294967296 * dw c.entry 13
def logLen (c : Cmd) : Nat := (bitField (dw c.entry 10) 16 16 + 65536 * bitField (dw c.entry 11) 0 16 + 1) * 4

/-- Get Log Page of an identifier. -/
def State.getLog (s : State) (tag lid : Nat) (sel : Cmd → Bool) (f : State → Cmd → State) : State :=
  s.begin tag true 0x02 (fun c => decide (logLid c = lid) && sel c) f

/-- With RAE 0 the page's events are cleared (R270). -/
def State.logRead (s : State) (c : Cmd) : State := if logRae c then s else s.clearEvents c.ctrl (logLid c)

/-- The bytes a command takes of a page of a length; none lie past the page's end. -/
def logSlice (c : Cmd) (length : Nat) (base : Nat → Byte) (pg : Page) : List Byte := pageOver base pg (logOff c) (min (logLen c) (length - logOff c))

/-- Answer with a page whose other bytes are free, or refuse an offset at or past its end (DESIGN CHOICE, log 9). -/
def State.giveFree (s : State) (tag : Nat) (c : Cmd) (length : Nat) (pg : Page) : State :=
  if length ≤ logOff c then s.finish tag invalidField
  else (({ s with free := s.free + 1 } : State).logRead c).answer tag (logSlice c length (fun i => Config.logByte (logLid c) i s.free) pg)

/-- Answer with a page whose other bytes are 0, or refuse an offset at or past its end. -/
def State.givePage (s : State) (tag : Nat) (c : Cmd) (length : Nat) (pg : Page) : State :=
  if length ≤ logOff c then s.finish tag invalidField else (s.logRead c).answer tag (logSlice c length (fun _ => 0#8) pg)

/-! ### Standard pages -/

/-- The pages served (R269). -/
def logServed : List Nat := [0x00, 0x01, 0x02, 0x03, 0x05, 0x06, 0x09, 0x0E, 0x20, 0x21, 0x22, 0x23, 0x81, 0xC0, 0xC1, 0xC2, 0xC3, 0xC4, 0xC5, 0xC6]
/-- The admin and I/O commands supported (R262, R264). -/
def adminServed : List Nat := [0x00, 0x01, 0x02, 0x04, 0x05, 0x06, 0x08, 0x09, 0x0A, 0x0C, 0x0D, 0x14, 0x15, 0x1D, 0x1E, 0x80, 0x84, 0x86, 0xC1, 0xC2, 0xC5]
def ioServed : List Nat := [0x00, 0x01, 0x02, 0x05, 0x08, 0x09, 0x0C, 0x12, 0x1D, 0x83, 0x85, 0x87, 0x89]

/-- 256 dwords, bit 0 set in those of a list; the rest of such a dword is free, the others are 0. -/
def supportedDwords (at_ : Nat) (served : List Nat) (free : Nat → Byte) : Page :=
  (List.range 256).map fun i =>
    if served.contains i then (at_ + 4 * i, [free (at_ + 4 * i) ||| 1#8, free (at_ + 4 * i + 1), free (at_ + 4 * i + 2), free (at_ + 4 * i + 3)])
    else part (at_ + 4 * i) 4 0

/-- 0x00 Supported Log Pages. -/
def execGetLogSupportedPages (tag : Nat) (s : State) : Host.Outcome State Fault Refusal :=
  .next (s.getLog tag 0x00 (fun _ => true) fun s c => s.giveFree tag c 1024 (supportedDwords 0 logServed fun i => Config.logByte 0x00 i s.free))

/-- An Error Information entry: counts, names, status above the phase tag, location, LBA, NSID and the saddlebag code (R283, R446). -/
def ErrorEntry.page (e : ErrorEntry) (at_ : Nat) : Page :=
  [part at_ 8 e.count, part (at_ + 8) 2 e.sqid, part (at_ + 10) 2 e.cid, part (at_ + 12) 2 (2 * e.status), part (at_ + 14) 2 e.location,
   part (at_ + 16) 8 e.lba, part (at_ + 24) 4 e.nsid, part (at_ + 28) 2 e.vendor]
/-- 0x01 Error Information: 64 entries, newest first; an entry not written is 0. -/
def State.errorPage (s : State) (ctrl : Nat) : Page :=
  let es := Table.getD s.fe.errors ctrl []
  (List.range es.length).flatMap fun i => (es[i]?.map fun e => e.page (64 * i)).getD []
def execGetLogErrorInfo (tag : Nat) (s : State) : Host.Outcome State Fault Refusal :=
  .next (s.getLog tag 0x01 (fun _ => true) fun s c => s.givePage tag c 4096 (s.errorPage c.ctrl))

/-- Critical Warning (R176, R205, R216, R385, R445). -/
def State.criticalWarning (s : State) : Nat :=
  bit s.blk.spareLow + 2 * bit s.therm.tempWarn + 4 * bit s.fault.degraded + 8 * bit (s.blk.readOnly || s.girth.noSets) + 16 * bit s.backupWarning
/-- Percentage Used (R175). -/
def State.percentUsed (s : State) : Nat :=
  let dies := s.populatedDies.filter s.dieServes
  let sum := ((s.blk.recs.filter fun (b, r) => decide (r.mode ≠ .retired) && dies.contains (dieOfBlk b)).map fun (_, r) => r.eraseCount).sum
  min 255 (100 * sum / max 1 (s.usable * s.img.ecRated))
/-- A sensor's reading in a log page, in kelvin; 0 before its first reading. -/
def State.sensorKelvin (s : State) (n : Nat) : Nat := match s.sensor n with | some x => kelvin x | none => 0
/-- 0x02 SMART / Health Information (R175, R176, R379, R385). -/
def State.smartPage (s : State) (ctrl : Nat) : Page :=
  [part 0 1 s.criticalWarning, part 1 2 (s.sensorKelvin 1), part 3 1 s.blk.avail, part 4 1 10, part 5 1 s.percentUsed,
   part 32 16 (ceilDiv s.fe.unitsRead 1000), part 48 16 (ceilDiv s.fe.unitsWritten 1000), part 64 16 s.fe.hostReads, part 80 16 s.fe.hostWrites,
   part 176 16 (Table.getD s.fe.errorCount ctrl 0), part 216 4 s.therm.tmt1, part 220 4 s.therm.tmt2,
   part 224 4 (s.therm.tmtTime1 / 10000), part 228 4 (s.therm.tmtTime2 / 10000)]
  ++ (List.range 8).map fun i => part (200 + 2 * i) 2 (s.sensorKelvin (i + 1))
def execGetLogSmart (tag : Nat) (s : State) : Host.Outcome State Fault Refusal :=
  .next (s.getLog tag 0x02 (fun _ => true) fun s c => s.giveFree tag c 512 (s.smartPage c.ctrl))

/-- 0x03 Firmware Slot Information: slot 1 is active and holds FR; there is no other slot. -/
def execGetLogFwSlot (tag : Nat) (s : State) : Host.Outcome State Fault Refusal :=
  .next (s.getLog tag 0x03 (fun _ => true) fun s c => s.givePage tag c 512 [part 0 1 1, (8, s.img.fr)])

/-- 0x05 Commands Supported and Effects. -/
def effectsPage (free : Nat → Byte) : Page := supportedDwords 0 adminServed free ++ supportedDwords 1024 ioServed free
def execGetLogCmdEffects (tag : Nat) (s : State) : Host.Outcome State Fault Refusal :=
  .next (s.getLog tag 0x05 (fun _ => true) fun s c => s.giveFree tag c 4096 (effectsPage fun i => Config.logByte 0x05 i s.free))

/-- A self-test result: its code and kind, the failed segment and the namespace. -/
def TestResult.page (r : TestResult) (at_ : Nat) : Page :=
  [part at_ 1 (r.result + 16 * (if r.extended then 2 else 1)), part (at_ + 1) 1 (if r.result = 7 then r.segment else 0), part (at_ + 12) 4 r.nsid]
/-- 0x06 Device Self-test: the test in progress, its percentage (a free value: no rule states it), and the last 20 results. -/
def State.selfTestPage (s : State) : Page :=
  (match s.fe.test with
    | some t => [part 0 1 (if t.extended then 2 else 1), (1, [Config.logByte 0x06 1 s.free &&& 0x7F#8])]
    | none => [part 0 2 0])
  ++ (List.range 20).flatMap fun i => match s.fe.results[i]? with | some r => r.page (4 + 28 * i) | none => [part (4 + 28 * i) 1 0x0F]
def execGetLogSelfTest (tag : Nat) (s : State) : Host.Outcome State Fault Refusal :=
  .next (s.getLog tag 0x06 (fun _ => true) fun s c => s.giveFree tag c 564 s.selfTestPage)

/-- 0x09 Endurance Group Information: Percentage Used (R175). -/
def execGetLogEndurance (tag : Nat) (s : State) : Host.Outcome State Fault Refusal :=
  .next (s.getLog tag 0x09 (fun _ => true) fun s c => s.giveFree tag c 512 [part 5 1 s.percentUsed])

/-- Units of the LBA Status log of a namespace. -/
def State.statusUnits (s : State) (nsx : Nat) : List Nat := (s.fe.lbaStatus.filter fun u => u / 2 ^ 38 = nsx).map (· % 2 ^ 38)
/-- A namespace's element: its header and one range descriptor a unit. -/
def State.lbaElement (s : State) (nsid : Nat) (n : Namespace) : List Byte :=
  let us := s.statusUnits n.nsx
  if us = [] then []
  else toBytes 16 (nsid + 2 ^ 32 * us.length) ++ us.flatMap fun u => toBytes 16 (u * n.perUnit + 2 ^ 64 * n.perUnit)
/-- The elements of the namespaces that have a unit in the log. -/
def State.lbaElements (s : State) : List (List Byte) := (s.spaces.map fun (id, n) => s.lbaElement id n).filter (· ≠ [])
/-- 0x0E LBA Status Information: the units set UNC (R199, R231). -/
def State.lbaStatusPage (s : State) : Page :=
  [part 0 4 (16 + (s.lbaElements.flatMap id).length), part 4 4 s.lbaElements.length, (16, s.lbaElements.flatMap id)]
def execGetLogLbaStatus (tag : Nat) (s : State) : Host.Outcome State Fault Refusal :=
  .next (s.getLog tag 0x0E (fun _ => true) fun s c => s.giveFree tag c (16 + (s.lbaElements.flatMap id).length) s.lbaStatusPage)

/-! ### Flexible Data Placement (R144) -/

/-- Reclaim unit nominal size in bytes: W data members of one normal block. -/
def State.reclaimUnit (s : State) : Nat := s.girth.w * s.img.blockGran false * 512
/-- 0x20 FDP Configurations: one configuration, one reclaim group, four handles of type Initially Isolated. -/
def State.fdpConfigsPage (s : State) : Page :=
  [part 0 2 0, part 4 4 96, part 16 2 80, part 18 1 0x80, part 20 4 1, part 24 2 4, part 26 2 3, part 28 4 1024, part 32 8 s.reclaimUnit]
  ++ (List.range 4).map fun i => part (80 + 4 * i) 1 1
def execGetLogFdpConfigs (tag : Nat) (s : State) : Host.Outcome State Fault Refusal :=
  .next (s.getLog tag 0x20 (fun _ => true) fun s c => s.giveFree tag c 96 s.fdpConfigsPage)

/-- How a handle is used: 0 unused, 1 host specified, 2 controller specified. -/
def State.handleUse (s : State) (h : Nat) : Nat :=
  if s.spaces.any fun (_, n) => n.handles.contains h then 1 else if h = 0 ∧ s.spaces.any (fun (_, n) => n.handles = []) then 2 else 0
/-- 0x21 Reclaim Unit Handle Usage. -/
def State.ruhUsagePage (s : State) : Page := part 0 2 4 :: (List.range 4).map fun i => part (8 + 8 * i) 1 (s.handleUse i)
def execGetLogRuhUsage (tag : Nat) (s : State) : Host.Outcome State Fault Refusal :=
  .next (s.getLog tag 0x21 (fun _ => true) fun s c => s.giveFree tag c 40 s.ruhUsagePage)

/-- 0x22 FDP Statistics: host and media bytes written. -/
def execGetLogFdpStats (tag : Nat) (s : State) : Host.Outcome State Fault Refusal :=
  .next (s.getLog tag 0x22 (fun _ => true) fun s c => s.giveFree tag c 64 [part 0 16 (s.fe.hostGran * 512), part 16 16 (s.fe.mediaGran * 512)])

/-- 0x23 FDP Events: host events with LSP bit 0, controller events without, newest last. -/
def State.fdpEventsFor (s : State) (c : Cmd) : List (Nat × Nat × Nat) := s.fe.fdpEvents.filter fun (e, _, _) => decide (e < 0x80) == decide (logLsp c % 2 = 1)
def fdpEventsPage (es : List (Nat × Nat × Nat)) : Page :=
  part 0 4 es.length :: (List.range es.length).flatMap fun i =>
    match es[i]? with
    | some (e, h, _) => [part (64 + 64 * i) 2 (e + 256 * 4), part (64 + 64 * i + 32) 3 (h * 65536)]
    | none => []
def execGetLogFdpEvents (tag : Nat) (s : State) : Host.Outcome State Fault Refusal :=
  .next (s.getLog tag 0x23 (fun _ => true) fun s c => s.giveFree tag c (64 + 64 * (s.fdpEventsFor c).length) (fdpEventsPage (s.fdpEventsFor c)))

/-- 0x81 Sanitize Status: SSTAT, and SPROG, 0xFFFF while none runs. -/
def State.sanitizePage (s : State) : Page := (if s.fe.sanitize.isSome then [] else [part 0 2 0xFFFF]) ++ [part 2 2 s.fe.sanitizeStatus]
def execGetLogSanitizeStatus (tag : Nat) (s : State) : Host.Outcome State Fault Refusal :=
  .next (s.getLog tag 0x81 (fun _ => true) fun s c => s.giveFree tag c 512 s.sanitizePage)

/-! ### Vendor pages -/

/-- PLAN_STATUS (R74). -/
def PlanState.status (p : PlanState) : Nat :=
  packFields [fld 0 6 p.runningNo, fld 8 7 p.lastIndex, fld 16 3 p.ps, fld 19 3 p.band, fld 22 1 (bit p.rb), fld 23 1 (bit p.loading), fld 24 2 p.deferRun,
    fld 32 32 p.swaps, fld 64 64 p.lastSwapWt, fld 128 32 p.deferred]
/-- 0xC0 Wheel and plan (R54, R74). -/
def execGetLogWheelPlan (tag : Nat) (s : State) : Host.Outcome State Fault Refusal :=
  .next (s.getLog tag 0xC0 (fun _ => true) fun s c => s.givePage tag c 128 [part 0 64 s.wheel.status, part 64 64 s.plan.status])

/-- STATE of DIE_STATUS. -/
def DieMode.num : DieMode → Nat
  | .absent => 0
  | .active => 1
  | .watch => 2
  | .isolated => 3
/-- DIE_STATUS (R96). -/
def Die.status (d : Die) : Nat :=
  packFields [fld 0 2 d.mode.num, fld 2 4 d.cause, fld 6 2 (match d.op with | some o => o.work.op | none => 0), fld 8 8 d.suspends, fld 16 3 (min 4 d.timeouts.length),
    fld 32 16 d.progFails, fld 48 16 d.eraseFails, fld 64 16 d.lunResets, fld 96 32 d.isolatedWt]
/-- GIRTH_HEALTH (R206). -/
def State.girthHealth (s : State) : Nat :=
  let g := s.girth
  let lost (p : Nat → Bool) : Nat := (g.sets.filter fun (_, r) => p r.absWl.length).length
  packFields [fld 0 5 g.w, fld 5 5 s.wTarget, fld 10 1 (bit (decide (g.rebuild ≠ []))), fld 11 1 (bit (decide (g.reshape ≠ []))), fld 12 1 (bit g.noSets),
    fld 16 6 s.channelCount, fld 32 32 g.rebuild.length, fld 64 32 g.reshape.length, fld 96 32 (lost (· = 1)), fld 128 32 (lost (2 ≤ ·)),
    fld 160 32 (min g.uncUnits 4294967295), fld 192 32 (min g.degradedReads 4294967295), fld 224 48 g.lseq,
    fld 288 10 (match g.pair with | some (a, _, _) => dieOfBlk a | none => 0), fld 304 10 (match g.pair with | some (_, b, _) => dieOfBlk b | none => 0),
    fld 320 48 g.cycle]
/-- 0xC1 Girth health: GIRTH_HEALTH, and DIE_STATUS of every die. -/
def State.girthHealthPage (s : State) : Page := part 0 512 s.girthHealth :: s.awl.dies.map fun (d, x) => part (512 + 16 * d) 16 x.status
def execGetLogGirthHealth (tag : Nat) (s : State) : Host.Outcome State Fault Refusal :=
  .next (s.getLog tag 0xC1 (fun _ => true) fun s c => s.givePage tag c 16896 s.girthHealthPage)

/-- DRAM_STATUS (R367). -/
def State.dramStatus (s : State) : Nat :=
  let d := s.dram
  let banks (p : McBank → Bool) : Nat := packFields ((List.range 32).map fun b => fld b 1 (bit (p (s.bank b))))
  let retired : Nat := packFields ((List.range 16).map fun r =>
    fld (8 * r) 4 (match (Table.getD d.ranks r {}).retired with | some l => l + 8 | none => 0))
  packFields [fld 0 3 d.rate, fld 3 3 d.rateMaxEff, fld 6 1 (bit (d.ranks.any fun (_, r) => r.hot)), fld 32 32 (banks (·.en)), fld 64 32 (banks (·.draining)),
    fld 96 32 (banks (·.out)), fld 128 128 retired, fld 256 32 d.corrected, fld 288 32 d.uncorrectable, fld 320 32 s.mc.corrected, fld 352 32 s.mc.uncorrectable,
    fld 384 32 d.neighbours, fld 416 32 d.freqChanges]

/-- DMA_CH_STATUS (R378). -/
def DmaCh.num (x : DmaCh) : Nat := if x.error then 4 else if x.paused then 3 else if x.held.isSome then 2 else if x.ring ≠ [] then 1 else 0
def DmaCh.status (x : DmaCh) (prio : Nat) : Nat :=
  packFields [fld 0 3 x.num, fld 3 4 prio, fld 8 3 x.head, fld 11 4 x.ring.length, fld 15 2 x.result, fld 17 24 x.done, fld 64 32 x.bursts, fld 96 32 x.pauses]

/-- Page 0xC2 as captured (R396). -/
def State.countersPage (s : State) : Page :=
  [part 0 16 (s.wheel.wt + 2 ^ 64 * s.obs.lastClearWt)]
  ++ ((List.range 64).map fun i => part (64 + 16 * i) 16 ((s.obs.counters.getD i {}).pack))
  ++ [part 1088 128 s.dramStatus]
  ++ ((List.range 64).map fun i => part (1216 + 16 * i) 16 ((Table.getD s.dma.chans i {}).status (s.img.dmaPrio i)))

/-- A clear by LSP: every enabled counter and its SAT (R392, R396). -/
def ObsState.clearCounters (o : ObsState) (wt : Nat) : ObsState :=
  { o with counters := o.counters.map (fun c => if c.enable then { c with value := 0, sat := false } else c), lastClearWt := wt }

/-- 0xC2 Event counters, LSP bit 0 clear. -/
def execGetLogEventCounters (tag : Nat) (s : State) : Host.Outcome State Fault Refusal :=
  .next (s.getLog tag 0xC2 (fun c => decide (logLsp c % 2 = 0)) fun s c => s.givePage tag c 2240 s.countersPage)
/-- 0xC2 with LSP bit 0: captured, then cleared. -/
def execGetLogEventCountersClear (tag : Nat) (s : State) : Host.Outcome State Fault Refusal :=
  .next (s.getLog tag 0xC2 (fun c => decide (logLsp c % 2 = 1)) fun s c =>
    if 2240 ≤ logOff c then s.finish tag invalidField
    else ({ s with obs := s.obs.clearCounters s.wheel.wt } : State).givePage tag c 2240 s.countersPage)

/-! ### 0xC3 Saddlebag (R401 to R403) -/

/-- SB_STATUS and the ring as they stand: ring offset k at page offset 64 + k. -/
def State.ringPage (s : State) : Page :=
  part 0 64 (s.sbStatus s.ts.persisted.length) :: s.obs.ring.map fun (p, r) => (64 + p % Config.ringBytes, r.bytes)
/-- SB_STATUS, the persisted records and a PAD record of one word. -/
def State.persistedBytes (s : State) : List Byte := s.ts.persisted.flatMap SbRec.bytes ++ (padRec 8 ((s.ts.persisted.getLast?.map (·.wt)).getD 0)).bytes
def State.persistedPage (s : State) : Page := [part 0 64 (s.sbStatus s.ts.persisted.length), (64, s.persistedBytes)]

/-- A transfer of page 0xC3 starts: its bytes are captured, and new records are held until it ends. -/
def State.startTransfer (s : State) (tag : Nat) (c : Cmd) (length : Nat) (pg : Page) (release : Bool) : State :=
  if length ≤ logOff c then s.finish tag invalidField
  else
    let s := (s.logRead c).modCmd tag fun x => { x with out := logSlice c length (fun _ => 0#8) pg }
    { s with obs := { s.obs with transfers := s.obs.transfers ++ [⟨tag, s.obs.writePos, release⟩] } }

def execGetLogSaddlebagRing (tag : Nat) (s : State) : Host.Outcome State Fault Refusal :=
  .next (s.getLog tag 0xC3 (fun c => decide (logLsp c % 4 = 0)) fun s c => s.startTransfer tag c (64 + Config.ringBytes) s.ringPage false)
def execGetLogSaddlebagRelease (tag : Nat) (s : State) : Host.Outcome State Fault Refusal :=
  .next (s.getLog tag 0xC3 (fun c => decide (logLsp c % 4 = 1)) fun s c => s.startTransfer tag c (64 + Config.ringBytes) s.ringPage true)
/-- LSP 2, and LSP 3, which is reserved. -/
def execGetLogSaddlebagPersisted (tag : Nat) (s : State) : Host.Outcome State Fault Refusal :=
  .next (s.getLog tag 0xC3 (fun c => decide (2 ≤ logLsp c % 4)) fun s c =>
    if logLsp c % 4 = 3 then s.malformed tag c invalidField else s.startTransfer tag c (64 + s.persistedBytes.length) s.persistedPage false)

/-- The records held move into the ring when no transfer is left and the ring has been started. -/
def State.holdingOver (s : State) : State := if s.obs.holds then s else s.endHolding

/-- SADDLEBAG_TRANSFER_END (R402, R403). -/
def execSaddlebagTransferEnd (tag : Nat) (s : State) : Host.Outcome State Fault Refusal :=
  match s.obs.transfers.find? fun t => t.tag = tag with
  | none => .next s
  | some t =>
    let s : State := { s with obs := { s.obs with transfers := s.obs.transfers.filter (fun x => x.tag ≠ tag),
                                                  releasePos := if t.release then max s.obs.releasePos t.captured else s.obs.releasePos } }
    .next (s.holdingOver.finish tag ok).settleFront

/-- 0xC4 Identity (R467). -/
def State.identityPage (s : State) : Page :=
  let (f, date) := s.pkg.factory.getD (0, 0)
  [part 0 64 s.pkg.identRec, part 64 64 f, part 128 8 date,
   part 136 1 (bit s.pkg.factory.isSome + 2 * bit (s.pkg.factory.isSome && decide (f = s.pkg.identRec)))]
def execGetLogIdentity (tag : Nat) (s : State) : Host.Outcome State Fault Refusal :=
  .next (s.getLog tag 0xC4 (fun _ => true) fun s c => s.givePage tag c 256 s.identityPage)

/-- 0xC5 Secure-discard progress: record j at 64 × j. -/
def State.discardPage (s : State) : Page :=
  (List.range 16).map fun i => part (64 * i) 64 (match s.map.jobs.find? (·.job = i) with | some j => j.pack | none => i)
def execGetLogSecureDiscard (tag : Nat) (s : State) : Host.Outcome State Fault Refusal :=
  .next (s.getLog tag 0xC5 (fun _ => true) fun s c => s.givePage tag c 1024 s.discardPage)

/-- REIN_HEALTH (R254): lanes 8 to 15 only in rein A's record when merged; the lease in force or granted. -/
def ReinPort.health8 (p : ReinPort) (merged : Bool) : Nat :=
  let lanes := if merged then 16 else 8
  let eye (xs : List Nat) (lo scale : Nat) : List Field := (List.range lanes).map fun i => fld (lo + 8 * i) 8 (min 255 (natAt xs i / scale))
  packFields ([fld 0 3 p.link, fld 3 3 p.rate, fld 6 5 p.width, fld 11 1 (bit p.flit), fld 12 2 p.health, fld 16 3 p.selftest, fld 32 32 p.linkDowns,
    fld 64 32 p.recoveries, fld 96 32 p.replays, fld 128 32 p.corrErrors, fld 160 32 p.uncorrErrors, fld 192 48 p.lastDownWt]
    ++ eye p.eyeWidth 256 4 ++ eye p.eyeHeight 384 1
    ++ [fld 512 64 (match p.lease with | some l => l.endWt | none => 0), fld 576 64 (match p.lease with | some l => l.epoch | none => 0),
        fld 640 1 (bit p.fencedKeeper), fld 641 1 (bit p.fencedLease)])
/-- 0xC6 Rein health. -/
def execGetLogReinHealth (tag : Nat) (s : State) : Host.Outcome State Fault Refusal :=
  .next (s.getLog tag 0xC6 (fun _ => true) fun s c =>
    s.givePage tag c 1024 [part 0 512 (s.rein.a.health8 s.rein.twin.merged), part 512 512 (s.rein.b.health8 false)])

/-- GET_LOG_UNSUPPORTED_PAGE (R269): 1:0x09. -/
def execGetLogUnsupportedPage (tag : Nat) (s : State) : Host.Outcome State Fault Refusal :=
  .next (s.begin tag true 0x02 (fun c => !logServed.contains (logLid c)) fun s _ => s.finish tag (stat 1 0x09))

end Sys2Proof.Machine
end

