-- ==== Sys2Proof/Machine/Link.lean ====
section
/-! DEFINITION. The reins (10_reins R237 to R261): links, resets, controllers' enable and shutdown, self-tests and health, keepers and
leases' starts and ends. -/
namespace Sys2Proof.Machine

/-! ### Health and self-tests (R252, R253) -/

/-- Full width of a rein: x8, x16 when merged. -/
def State.fullWidth (s : State) : Nat := if s.rein.twin.merged then 16 else 8
/-- The health of a rein as it stands: 0 GOOD, 1 WATCH, 2 DEGRADED. -/
def State.healthOf (s : State) (p : ReinPort) : Nat :=
  if p.rate < 6 ∨ p.width < s.fullWidth then 2
  else if p.selftest = 2 ∨ p.selftest = 3 ∨ s.img.recoveryLimit < p.recLast then 1
  else 0
/-- A change of health leaves code 0x0A06 and raises an event; a rein that is not trained keeps its health. -/
def State.healthCheck (s : State) (r : Rein) : State :=
  let h := s.healthOf (s.port r)
  if (s.port r).rate = 0 ∨ h = (s.port r).health then s
  else ((s.modPort r fun p => { p with health := h }).leave 0x0A06 2 [r.num, h]).vendorEvent 0x04 0xC6

/-- The result of a rein self-test over the trained lanes. -/
def State.eyeResult (s : State) (width : Nat) (e : EyeFound) : Nat :=
  let lanes := List.range width
  if e.interrupted then 4
  else if lanes.any fun i => natAt e.width i = 0 ∨ natAt e.height i = 0 then 3
  else if lanes.any fun i => natAt e.width i < s.img.eyeMin then 2
  else 1
/-- A rein self-test has measured every trained lane. -/
def State.reinTest (s : State) (r : Rein) (e : EyeFound) : State :=
  s.modPort r fun p => { p with selftest := s.eyeResult p.width e, eyeWidth := e.width, eyeHeight := e.height, testRound := s.obs.rounds }

/-! ### The link (R237, R240, R251 to R253) -/

/-- The capabilities of the table of R237 that are supported or not as a whole. -/
inductive PcieCap where
  | flitMode | laneReversal | polarityInversion | laneMargining | l0p | aspmL0s | aspmL1 | l11 | l12 | ptmRequester | ptmResponder | aer | srIov | ari | msix | msi
  | legacyIntx | tag10 | tag14 | relaxedOrdering | idOrdering | ats | pri | pasid | tph | doe | ide | resizableBar
  deriving DecidableEq, Repr, Inhabited

/-- What a rein advertises (R237). -/
def PcieCap.advertised : PcieCap → Bool
  | .aspmL0s | .ptmResponder | .msi | .legacyIntx | .ats | .pri | .pasid | .tph | .doe | .ide | .resizableBar => false
  | _ => true

/-- Payload sizes, read request sizes and VFs of a rein (R237). -/
def maxPayloads : List Nat := [128, 256, 512]
def maxReadRequests : List Nat := [128, 256, 512, 1024, 2048, 4096]
def maxVfs : Nat := 63

/-- The link as training leaves it: FLIT mode at 64.0 GT/s in every case, a width within the rein's (R237, R240); the counters of R254 take what the
link has counted since it last trained (log 10). -/
def State.trained (s : State) (link : LinkFound) (p : ReinPort) : ReinPort :=
  { p with rate := link.rate, width := min link.width s.fullWidth, flit := link.flit || decide (link.rate = 6),
           replays := satAdd 32 p.replays link.replays, corrErrors := satAdd 32 p.corrErrors link.corrErrors, uncorrErrors := satAdd 32 p.uncorrErrors link.uncorrErrors }

/-- LINK_UP (R252): code 0x0A01 and a rein self-test. -/
def execLinkUp (rein : Rein) (link : LinkFound) (s : State) : Host.Outcome State Fault Refusal :=
  let p := s.port rein
  if s.reinExists rein ∧ s.ts.bootStep ≠ 0 ∧ !p.perst ∧ !p.up then
    let s := s.modPort rein fun p => { s.trained link p with link := 2 }
    let s := s.leave 0x0A01 0 [rein.num, link.rate, (s.port rein).width]
    .next ((s.reinTest rein link.eyes).healthCheck rein).settleFront
  else .next s

/-- LINK_RECOVERY (R240, R253): the link retrains, at the rate and width it reaches. -/
def execLinkRecovery (rein : Rein) (link : LinkFound) (s : State) : Host.Outcome State Fault Refusal :=
  if (s.port rein).up then
    let s := s.modPort rein fun p => { s.trained link p with recoveries := satAdd 32 p.recoveries 1, recRound := satAdd 16 p.recRound 1 }
    .next (s.healthCheck rein).settleFront
  else .next s

/-- REIN_SELF_TEST_PERIODIC (R252): every 65,536 local rounds. -/
def execReinSelfTestPeriodic (rein : Rein) (eyes : EyeFound) (s : State) : Host.Outcome State Fault Refusal :=
  if (s.port rein).up ∧ (s.port rein).testRound + 65536 ≤ s.obs.rounds then .next ((s.reinTest rein eyes).healthCheck rein).settleFront else .next s

/-- MALFORMED_TLP (R283): AER's uncorrectable errors count, and source 0x01B. -/
def execMalformedTlp (rein : Rein) (s : State) : Host.Outcome State Fault Refusal :=
  if (s.port rein).up then
    .next ((s.modPort rein fun p => { p with uncorrErrors := satAdd 32 p.uncorrErrors 1 }).count 0x01B rein.num 1).settleFront
  else .next s

/-! ### Controller resets (R250, 13_skiver R336, 18 R423) -/

/-- A stream context ends by an abort or a reset, with code 0x0D05. -/
def State.endCtx (s : State) (n : Nat) : State :=
  ({ s with skv := { s.skv with ctxs := Table.del s.skv.ctxs n } } : State).leave 0x0D05 0 [n]

/-- Every command of a submission queue loses the sides it owes a completion to. -/
def State.cutQueue (s : State) (k : Nat) : State := (((s.dropOwed k .a).dropOwed k .b).orphanCmds k)

/-- Asynchronous Event Requests of a controller's rein are gone. -/
def State.dropAers (s : State) (c : Nat) (r : Rein) : State :=
  let mine := s.fe.aers.filter fun a => decide (a.ctrl = c) && decide (a.rein = r)
  { s with fe := { s.fe with aers := s.fe.aers.filter (fun a => !mine.contains a), cmds := s.fe.cmds.filter fun (t, _) => mine.all (·.tag ≠ t),
                             ready := s.fe.ready.filter (fun t => mine.all (·.tag ≠ t)) } }

/-- The controller resets: its queues end, its own features and the vendor features take their power-on values (R9), and what it held in assembly is
discarded. -/
def State.controllerReset (s : State) (c : Nat) : State :=
  let qs := s.fe.sqs.filter fun (_, q) => q.ctrl = c
  let s := qs.foldl (fun s (k, _) => s.cutQueue k) s
  let s := (s.dropAers c .a).dropAers c .b
  let s : State := { s with
    fe := { s.fe with sqs := s.fe.sqs.filter (fun (_, q) => q.ctrl ≠ c), cqs := s.fe.cqs.filter (fun (k, _) => k / 131072 ≠ c),
                      features := s.fe.features.filter (fun (k, _) => k / 65536 % 65536 ≠ c || decide (k / 4294967296 = 0x1E)),
                      events := s.fe.events.filter (fun x => x.1 ≠ c), masked := s.fe.masked.filter (fun x => x.1 ≠ c),
                      mismatches := s.fe.mismatches.filter (fun m => qs.all fun (k, _) => k ≠ m.1) },
    cipher := { s.cipher with blobs := Table.del s.cipher.blobs c },
    ts := if (s.ts.staging.map fun g => decide (g.ctrl = c)).getD false then { s.ts with staging := none, updState := 0, updLen := 0 } else s.ts }
  let s := s.modCtrl c fun x => { x with grantSq := 0, grantCq := 0, intMask := 0 }
  let s := ((s.skv.ctxs.filter fun (_, x) => x.ctrl = c).map (·.1)).foldl State.endCtx s
  let s := (List.range 4).foldl (fun s h => s.fdpEvent 0x02 h) s.restoreFeatures
  s.fe.ready.foldl (fun s t => s.freeIfDone t) s

/-- The registers of a controller's rein at its reset; CC, AQA, ASQ and ACQ stand where the reset keeps them (DEDUCED, log 73). -/
def Ctrl.sideReset (x : Ctrl) (r : Rein) (keepRegs : Bool) : Ctrl :=
  let x := x.setEn r false
  if keepRegs then x else match r with
    | .a => { x with regsA := [0, 0, 0], ccA := 0 }
    | .b => { x with regsB := [0, 0, 0], ccB := 0 }

/-- An admin queue of a controller's rein. -/
def adminSide (c : Nat) (r : Rein) (q : Sq) : Bool := decide (q.ctrl = c) && q.admin && (q.side r).isSome

/-- The admin queue, the completion queues and the events of a controller's rein are gone. -/
def State.dropSide (s : State) (c : Nat) (r : Rein) : State :=
  { s with fe := { s.fe with
      sqs := s.fe.sqs.filter (fun (_, q) => !adminSide c r q), cqs := s.fe.cqs.filter (fun (k, _) => k / 65536 ≠ 2 * c + r.num),
      events := s.fe.events.filter (fun x => !(decide (x.1 = c) && decide (x.2.1 = r))),
      masked := s.fe.masked.filter (fun x => !(decide (x.1 = c) && decide (x.2.1 = r))) } }

/-- A self-test that a controller's rein has started ends (R282). -/
def State.endTestOf (s : State) (c : Nat) (r : Rein) : State :=
  match s.fe.test with
  | some t => if t.ctrl = c ∧ t.rein = r then s.endTest 2 else s
  | none => s

/-- One controller's rein is reset: its enable, its admin and completion queues; the controller resets when no rein of it is enabled. -/
def State.resetSide (s : State) (c : Nat) (r : Rein) (keepRegs : Bool) : State :=
  let s := (s.fe.sqs.filter fun (_, q) => adminSide c r q).foldl (fun s (k, _) => s.cutQueue k) s
  let s := ((((s.dropAers c r).modCtrl c fun x => x.sideReset r keepRegs).dropSide c r).endTestOf c r)
  if (s.ctrl c).enA ∨ (s.ctrl c).enB then s else s.controllerReset c

/-- A rein, or one function of it, leaves service (R251): causes 0 PERST, 1 hot reset, 2 link down, 3 CC.EN cleared, 4 function level
reset. A link loss is no reset: enables and queues stand. -/
def State.leaveService (s : State) (r : Rein) (cause : Nat) (func : Option Nat) : State :=
  let hit (c : Nat) : Bool := match func with
    | some f => decide (c = s.ctrlOf ⟨r, f⟩)
    | none => s.sharedCtrl || decide (c / 64 = r.num)
  let qs := s.fe.sqs.filter fun (_, q) => hit q.ctrl && (q.side r).isSome
  let s := qs.foldl (fun s (k, q) =>
    if s.twinMode && !q.admin then (s.detachSide k r 2).fenceMoved r.other else (s.dropOwed k r).orphanCmds k) s
  let s := s.fe.ready.foldl (fun s t => s.freeIfDone t) s
  let aers := ((s.fe.aers.filter fun a => hit a.ctrl && decide (a.rein = r)).map (·.ctrl)).eraseDups
  let s := aers.foldl (fun s c => s.dropAers c r) s
  let s := if cause = 2 then s else ((s.fe.ctrls.map (·.1)).filter hit).foldl (fun s c => s.resetSide c r (decide (cause = 3))) s
  s.leave 0x0A02 2 ([r.num, cause] ++ (if cause = 4 then [func.getD 0] else []))

/-- The link's fields while it is not trained. -/
def ReinPort.untrained (p : ReinPort) (link : Nat) : ReinPort := { p with link := link, rate := 0, width := 0, flit := false }

/-- The link's fields in a reset of the rein: REIN_HEALTH takes its power-on values but for the counters (R9, R254); the lease, whose end R257 gives, and the
keeper's fence stand (DEDUCED, log 88). -/
def ReinPort.reinReset (p : ReinPort) (link : Nat) : ReinPort :=
  { p.untrained link with ptm := false, aspmL1 := false, vfs := 0, health := 0, selftest := 0, lastDownWt := 0, eyeWidth := [], eyeHeight := [] }

/-- PERST_ASSERT (R251): PERST low for 100 ns; the heartbeat is low from then on (R261). -/
def execPerstAssert (rein : Rein) (s : State) : Host.Outcome State Fault Refusal :=
  if s.reinExists rein ∧ !(s.port rein).perst then
    let s := s.modPort rein fun p => { p.reinReset 4 with perst := true, hbeat := false }
    .next (s.leaveService rein 0 none).settleFront
  else .next s

/-- PERST_RELEASE (R251): the rein leaves reset and trains. -/
def execPerstRelease (rein : Rein) (s : State) : Host.Outcome State Fault Refusal :=
  if s.reinExists rein ∧ (s.port rein).perst then .next (s.modPort rein fun p => { p with perst := false, link := 1 }) else .next s

/-- HOT_RESET (R251): the rein leaves service and trains again. -/
def execHotReset (rein : Rein) (s : State) : Host.Outcome State Fault Refusal :=
  if (s.port rein).up then
    let s := s.modPort rein fun p => p.reinReset 1
    .next (s.leaveService rein 1 none).settleFront
  else .next s

/-- LINK_DOWN (R251, R254). -/
def execLinkDown (rein : Rein) (s : State) : Host.Outcome State Fault Refusal :=
  if (s.port rein).up then
    let s := s.modPort rein fun p => { p.untrained 0 with linkDowns := satAdd 32 p.linkDowns 1, lastDownWt := s.wheel.wt % 2 ^ 48 }
    .next (s.leaveService rein 2 none).settleFront
  else .next s

/-- A function of a rein exists and may be used: the PF, and the VFs that the host has enabled (R237, R240, R241). -/
def State.portOk (s : State) (p : Port) : Bool :=
  s.reinExists p.rein && decide (p.func < 64) && decide (p.func ≤ (s.port p.rein).vfs) && (s.port p.rein).up

/-- The host sets how many VFs of a rein are enabled: a VF that is disabled leaves service as at a function level
reset (PRESUMED, log 7). -/
def State.setVfs (s : State) (r : Rein) (n : Nat) : State :=
  let gone := (List.range ((s.port r).vfs - n)).map (n + 1 + ·)
  let s := gone.foldl (fun s f => s.leaveService r 4 (some f)) s
  (s.modPort r fun p => { p with vfs := n }).settleFront

/-- FUNCTION_LEVEL_RESET (R251); one of the PF disables its VFs (PRESUMED, log 7). -/
def execFunctionLevelReset (port : Port) (s : State) : Host.Outcome State Fault Refusal :=
  if s.portOk port then
    let s := s.leaveService port.rein 4 (some port.func)
    .next (if port.func = 0 then s.setVfs port.rein 0 else s.settleFront)
  else .next s

/-! ### CC.EN and CC.SHN (R236, R250, R453) -/

/-- A register write that the device ignores and counts as an error (R10, R283, R453). -/
def State.regError (s : State) : State := s.count1 0x01C

/-- Registers of a controller's rein: AQA, ASQ, ACQ. -/
def Ctrl.regs (x : Ctrl) : Rein → List Nat
  | .a => x.regsA
  | .b => x.regsB

/-- The admin queues of a rein, sized by AQA and at most 64 entries (R241). -/
def State.openAdmin (s : State) (p : Port) : State :=
  let c := s.ctrlOf p
  let aqa := natAt ((s.ctrl c).regs p.rein) 0
  let size (lo : Nat) : Nat := min 64 (bitField aqa lo 12 + 1)
  let side : SqSide := { attached := true, tail := 0, fetch := 0, cq := s.cqKey p 0, advanced := s.wheel.wt }
  let q : Sq := { ctrl := c, qid := 0, admin := true, qsize := size 0, prio := 0, exec := 0, sideA := none, sideB := none, hashes := [] }
  (s.setSq (s.sqKey p 0) (q.setSide p.rein (some side))).setCq (s.cqKey p 0) { size := size 16, head := 0, tail := 0, entries := [], used := 0 }

/-- A restart from a shutdown dump (R236): what the front end and the engines had in hand is gone, and restart begins at its step 1 (DEDUCED, log 53). -/
def State.restartFromDump (s : State) : State :=
  { s with
    wheel := { s.wheel with wt := s.resumedWt, resTop := s.ts.wtTop.getD 0 },
    fe := { s.fe with cmds := [], ready := [], mismatches := [], jobs := [], aers := [], shst := 0, admits := false, formats := [] },
    cipher := { s.cipher with reqs := [] },
    obs := { s.obs with ringOn := false, ring := [], writePos := 0, releasePos := 0, transfers := [] },
    plan := { s.plan with running := Table.find s.plan.dram s.plan.runningNo },
    dump := { s.dump with step := 1, shutdown := false, since := false, active := none, ended := none, holds := [] } }

/-- CC_EN_SET (R236, R250): the controller's rein is enabled; a shutdown dump that stands is restarted from. -/
def execCcEnSet (port : Port) (s : State) : Host.Outcome State Fault Refusal :=
  if !s.portOk port then .next s
  else if s.fault.stop.isSome then .next s.regError.settleFront
  else if (s.ctrl (s.ctrlOf port)).en port.rein then .next s
  else
    let s := if s.dump.shutdown then s.restartFromDump else s
    let s := s.modCtrl (s.ctrlOf port) fun x => x.setEn port.rein true
    .next (s.openAdmin port)

/-- CC_EN_CLEAR (R250, R251). -/
def execCcEnClear (port : Port) (s : State) : Host.Outcome State Fault Refusal :=
  if !s.portOk port then .next s
  else if s.fault.stop.isSome then .next s.regError.settleFront
  else if (s.ctrl (s.ctrlOf port)).en port.rein then .next (s.leaveService port.rein 3 (some port.func)).settleFront
  else .next s

/-- CC_SHN_WRITE (R236): 01b and 10b start a dump of cause 1, device-wide; 11b is reserved (R10). Where no dump can be written there is
nothing to wait for. -/
def execCcShnWrite (port : Port) (value : Nat) (s : State) : Host.Outcome State Fault Refusal :=
  if !s.portOk port then .next s
  else if s.fault.stop.isSome ∨ 3 ≤ value then .next s.regError.settleFront
  else
    let s := s.modCtrl (s.ctrlOf port) fun x => { x with shn := value }
    if value = 0 ∨ s.dump.since then .next s
    else
      let s := ({ s with fe := { s.fe with shst := 1 } } : State).startDump 1 false
      .next (if s.dump.since then s.arrayPump else { s with fe := { s.fe with shst := 2 } })

/-- REGISTER_WRITE (R6, R10, R283, R453): registers without a row of their own. -/
def execRegisterWrite (port : Port) (reg : HostReg) (value : Nat) (s : State) : Host.Outcome State Fault Refusal :=
  let c := s.ctrlOf port
  let setReg (s : State) (i : Nat) : State := s.modCtrl c fun x =>
    match port.rein with
    | .a => { x with regsA := x.regsA.set i value }
    | .b => { x with regsB := x.regsB.set i value }
  let queueReg (i : Nat) : State :=
    if s.fault.stop.isSome then s.regError
    else if (s.ctrl c).en port.rein then s.regError.leave 0x0B09 0 [port.rein.num]
    else setReg s i
  if !s.portOk port then .next s
  else
    match reg with
    | .aqa => .next (queueReg 0).settleFront
    | .asq => .next (queueReg 1).settleFront
    | .acq => .next (queueReg 2).settleFront
    | .cc =>
      if s.fault.stop.isSome then .next s.regError.settleFront
      else
        let old := match port.rein with | .a => (s.ctrl c).ccA | .b => (s.ctrl c).ccB
        -- AMS other than 000b is reserved: CAP.AMS is 0 (R267); CSS 001b to 101b are reserved in NVMe (PRESUMED, log 7)
        let badAms := decide (bitField value 11 3 ≠ 0)
        let badCss := decide (1 ≤ bitField value 4 3) && decide (bitField value 4 3 ≤ 5)
        let v := packFields [fld 4 3 (bitField (if badCss then old else value) 4 3), fld 7 4 (bitField value 7 4),
          fld 11 3 (bitField (if badAms then old else value) 11 3), fld 16 8 (bitField value 16 8)]
        let s := s.modCtrl c fun x => match port.rein with | .a => { x with ccA := v } | .b => { x with ccB := v }
        let s := if badAms then s.regError else s
        .next (if badCss then s.regError else s).settleFront
    | .intms => .next (s.modCtrl c fun x => { x with intMask := x.intMask ||| value % 4294967296 })
    | .intmc => .next (s.modCtrl c fun x => { x with intMask := x.intMask &&& (4294967295 - value % 4294967296) })
    | .ptmEnable => .next (s.modPort port.rein fun p => { p with ptm := decide (value % 2 = 1) })
    | .aspmL1 => .next (s.modPort port.rein fun p => { p with aspmL1 := decide (value % 2 = 1) })
    | .vfEnable => .next (if port.func = 0 then s.setVfs port.rein (min value 63) else s)
    | .readOnly => .next s

/-! ### Keepers and leases (R257, R258, R260) -/

/-- KEEPER_BALL_CHANGE (R258): the ball's filter starts toward the new level. -/
def execKeeperBallChange (rein : Rein) (level : Bool) (s : State) : Host.Outcome State Fault Refusal :=
  let s := s.modPort rein fun p => { p with keeperTiming := some level }
  match rein with
  | .a => .next { s with pkg := { s.pkg with keeperA := level } }
  | .b => .next { s with pkg := { s.pkg with keeperB := level } }

/-- KEEPER_FILTER_EXPIRE (R258): a ball has held the level its filter times for KEEPER_FILTER: low fences the rein, high lifts its fence. With no filter
running nothing ends. -/
def execKeeperFilterExpire (rein : Rein) (s : State) : Host.Outcome State Fault Refusal :=
  match (s.port rein).keeperTiming with
  | none => .next s
  | some level =>
    let s := s.modPort rein fun p => { p with keeperTiming := none }
    if !s.reinExists rein ∨ !s.img.keeperUse rein then .next s
    else if level = (s.port rein).fencedKeeper then .next (s.setFence rein 0 (!level)).settle
    else .next s

/-- LEASE_START (R257): a granted lease's START_WT has come. -/
def execLeaseStart (rein : Rein) (s : State) : Host.Outcome State Fault Refusal :=
  match (s.port rein).lease with
  | some l =>
    if !l.live ∧ l.startWt ≤ s.wheel.wt then
      .next ((s.modPort rein fun p => { p with lease := some { l with live := true } }).leaseFence rein).settle
    else .next s
  | none => .next s

/-- LEASE_END (R257): the tooth whose WT is the lease's end has begun. -/
def execLeaseEnd (rein : Rein) (s : State) : Host.Outcome State Fault Refusal :=
  match (s.port rein).lease with
  | some l => if l.endWt ≤ s.wheel.wt then .next ((s.modPort rein fun p => { p with lease := none }).leaseFence rein).settle else .next s
  | none => .next s

end Sys2Proof.Machine
end

