-- ==== Sys2Proof/Machine/Queues.lean ====
section
/-! DEFINITION. Queues (10_reins R241, R244 to R248, 11_commands R262 to R285): doorbells, the fetch of submission entries with the checks of
R285, twin copies, queue creation and deletion, Abort, Asynchronous Event Request, and the answers to commands that are not supported. -/
namespace Sys2Proof.Machine

/-- MSI-X vectors of a function of a rein: 2,048 for the PF, 64 for a VF (R237). -/
def msixVectors (func : Nat) : Nat := if func = 0 then 2048 else 64

/-! ### Doorbells (R244, R273, R283, R453) -/

/-- An invalid doorbell: ignored, with source 0x016, code 0x0B01 and an event of type Error. -/
def State.badDoorbell (s : State) (p : Port) (qid value info : Nat) : State :=
  ((s.count 0x016 p.rein.num 1).leave 0x0B01 2 [p.func, qid, value]).ctrlEvent (s.ctrlOf p) { type := 0, info := info, page := 0x01 }

/-- SQ_TAIL_DOORBELL (R244): T advances by (v - T) mod QSIZE. -/
def execSqTailDoorbell (port : Port) (qid value : Nat) (s : State) : Host.Outcome State Fault Refusal :=
  if !s.portOk port then .next s
  else if s.fault.stop.isSome then .next s.regError.settleFront
  else
    let k := s.sqKey port qid
    match (s.sq k).bind fun q => (q.side port.rein).map fun x => (q, x) with
    | none => .next (s.badDoorbell port qid value 0x00).settleFront
    | some (q, x) =>
      let step := (value + q.qsize - x.tail.toNat % q.qsize) % q.qsize
      if !x.attached then .next (s.count 0x01D port.rein.num 1).settleFront
      else if q.qsize ≤ value ∨ q.qsize - 1 < (x.tail - x.fetch).toNat + step then .next (s.badDoorbell port qid value 0x01).settleFront
      else .next (s.setSq k (q.setSide port.rein (some { x with tail := x.tail + BitVec.ofNat 32 step })))

/-- CQ_HEAD_DOORBELL (R273): the slots up to the new head are free, and reservations that wait proceed. -/
def execCqHeadDoorbell (port : Port) (cqid value : Nat) (s : State) : Host.Outcome State Fault Refusal :=
  if !s.portOk port then .next s
  else if s.fault.stop.isSome then .next s.regError.settleFront
  else
    let k := s.cqKey port cqid
    match s.cq k with
    | none => .next (s.badDoorbell port cqid value 0x00).settleFront
    | some q =>
      let step := (value + q.size - q.head % q.size) % q.size
      if q.size ≤ value ∨ q.used < step then .next (s.badDoorbell port cqid value 0x01).settleFront
      else .next (s.setCq k { q with head := value, used := q.used - step, entries := q.entries.drop step }).settleFront.leasesDue

/-! ### The checks of R285, steps 1 to 7 -/

/-- The command's opcode is supported (R262, R264). -/
def Cmd.supported (c : Cmd) : Bool := if c.admin then adminServed.contains (sqeOpc c.entry) else ioServed.contains (sqeOpc c.entry)
/-- What completes normally in halter mode (R263). -/
def Cmd.inHalter (c : Cmd) : Bool :=
  c.admin && (decide (sqeOpc c.entry ∈ [0x00, 0x01, 0x04, 0x05, 0x06, 0x0A, 0x0C, 0x1D, 0x1E, 0xC2, 0xC5])
    || (decide (sqeOpc c.entry = 0x02) && decide (logLid c ∈ [0x00, 0x02, 0xC4])) || (decide (sqeOpc c.entry = 0x09) && decide (featId c = 0x07)))
/-- The values of a command's selecting field that have a meaning; any other is reserved (R10). -/
def Cmd.selectOk (c : Cmd) : Bool :=
  let x := dw c.entry 10
  if c.admin then
    match sqeOpc c.entry with
    | 0x0D => decide (bitField x 0 4 ≤ 1)
    | 0x14 => decide (bitField x 0 4 ∈ [1, 2, 15])
    | 0x15 => decide (bitField x 0 4 ≤ 1)
    | 0x80 => decide (bitField x 9 3 ≤ 2)
    | 0x84 => decide (1 ≤ bitField x 0 3) && decide (bitField x 0 3 ≤ 4)
    | _ => true
  else
    match sqeOpc c.entry with
    | 0x12 => decide (bitField x 0 8 = 1)
    | 0x1D => decide (bitField x 0 8 = 1)
    | _ => true
/-- Reserved fields: bits 13 to 10 of every entry, PSDT 3, and those of the stream commands (R328). -/
def Cmd.reservedOk (c : Cmd) : Bool :=
  let x := dw c.entry 10
  let stream := !c.admin && decide (sqeOpc c.entry ∈ [0x83, 0x87])
  let w := bitField x 12 4
  decide (bitField (dw c.entry 0) 10 4 = 0) && decide (sqePsdt c.entry ≠ 3) && c.selectOk &&
    (!stream || (decide (bitField x 4 4 = 0) && decide (bitField x 16 16 = 0) && decide (bitField x 8 2 ≠ 3) &&
      (decide (w = 0) || (decide (sqeOpc c.entry = 0x83) && decide (bitField x 10 1 = 1) && decide (w ≤ 8)))))
/-- The command names data in host memory. -/
def Cmd.hasData (c : Cmd) : Bool :=
  if c.admin then decide (sqeOpc c.entry ∈ [0x02, 0x06, 0x0D, 0x15, 0x1D, 0x1E, 0x86, 0xC1, 0xC2, 0xC5])
  else decide (sqeOpc c.entry ∈ [0x01, 0x02, 0x05, 0x09, 0x12, 0x1D, 0x83, 0x85, 0x87, 0x89])
/-- An SGL descriptor of a type other than Data Block, Segment and Last Segment (R265). -/
def Cmd.badSgl (c : Cmd) : Bool := c.hasData && decide (sqePsdt c.entry ≠ 0) && !decide (sqeSglType c.entry ∈ [0, 2, 3])
/-- A PRP offset that is not aligned to a dword (R283). -/
def Cmd.badPrp (c : Cmd) : Bool := c.hasData && decide (sqePsdt c.entry = 0) && decide (sqePrp1 c.entry % 4 ≠ 0)
/-- The command acts on the namespace of its NSID. -/
def Cmd.needsSpace (c : Cmd) : Bool :=
  if c.admin then decide (sqeOpc c.entry = 0x86)
  else decide (sqeOpc c.entry ∈ [0x01, 0x02, 0x05, 0x08, 0x09, 0x0C, 0x12, 0x1D, 0x89])
    || (decide (sqeOpc c.entry = 0x00) && decide (sqeNsid c.entry ≠ broadcast))
    || (decide (sqeOpc c.entry ∈ [0x83, 0x87]) && decide (bitField (dw c.entry 10) 11 1 = 1))
/-- NSID is not attached or invalid. -/
def State.badSpace (s : State) (c : Cmd) : Bool := c.needsSpace && (s.attachedSpace c.ctrl (sqeNsid c.entry)).isNone

/-- Bytes that a logical block takes in the command's data: its metadata too when it is extended. -/
def Namespace.xferBytes (n : Namespace) : Nat := n.lbaBytes + if n.flbas / 16 % 2 = 1 then n.metaBytes else 0
/-- Bytes the command transfers; streams and Keyed Check give them in CDW11. -/
def State.transferBytes (s : State) (c : Cmd) : Nat :=
  if c.admin then (if sqeOpc c.entry = 0x02 then logLen c else 0)
  else if sqeOpc c.entry ∈ [0x01, 0x02, 0x05] then sqeNlb c.entry * (((s.attachedSpace c.ctrl (sqeNsid c.entry)).map Namespace.xferBytes).getD 0)
  else if sqeOpc c.entry ∈ [0x83, 0x85, 0x87] then dw c.entry 11
  else 0
/-- The command's LBA range ends beyond NSZE; a stream to a namespace names its blocks in CDW13 to CDW15 (R328). -/
def State.beyondEnd (s : State) (c : Cmd) : Bool :=
  let stream := decide (sqeOpc c.entry ∈ [0x83, 0x87]) && decide (bitField (dw c.entry 10) 11 1 = 1)
  let top := if stream then dw c.entry 14 + 2 ^ 32 * dw c.entry 15 + dw c.entry 13 + 1 else sqeSlba c.entry + sqeNlb c.entry
  !c.admin && (decide (sqeOpc c.entry ∈ [0x01, 0x02, 0x05, 0x08, 0x0C]) || stream) &&
    (match s.attachedSpace c.ctrl (sqeNsid c.entry) with | some n => decide (n.nsze < top) | none => false)
/-- Another command of the queue holds a tag with this CID (R272). -/
def State.cidTaken (s : State) (tag : Nat) (c : Cmd) : Bool :=
  s.fe.cmds.any fun (t, x) => decide (t ≠ tag) && decide (x.sq = c.sq) && decide (sqeCid x.entry = sqeCid c.entry)

/-- Steps 1 to 7 in order; the first failure gives the status. An opcode that is not supported is left to the row that answers it. -/
def State.entryChecks (s : State) (tag : Nat) (c : Cmd) : State :=
  let qid := ((s.sq c.sq).map (·.qid)).getD 0
  if !c.supported then s
  else if s.ts.mode = 2 ∧ !c.inHalter then s.finish tag sequenceError
  else if sqeFuse c.entry ≠ 0 ∨ !c.reservedOk then s.malformed tag c invalidField
  else if c.badSgl then s.malformed tag c (stat 0 0x11)
  else if c.badPrp then s.malformed tag c (stat 0 0x13)
  else if s.badSpace c then s.malformed tag c (stat 0 0x0B)
  else if 2097152 < s.transferBytes c then s.finish tag invalidField
  else if s.beyondEnd c then s.malformed tag c (stat 0 0x80)
  else if s.cidTaken tag c then
    ((s.count 0x018 c.port.rein.num 1).leave 0x0B04 0 [qid, sqeCid c.entry]).finishCode tag (stat 0 0x03) 0x0B04
  else if (s.port c.port.rein).fenced ∧ isWriteClass c.admin c.entry then s.finish tag leaseFenced
  else s

/-! ### The fetch (R246 to R248, R271) -/

/-- Tags of a queue: 32, 16 of an admin queue; the commands that hold them (R241, R271). -/
def Sq.tags (q : Sq) : Nat := if q.admin then 16 else 32
def State.tagsUsed (s : State) (k : Nat) : Nat := (s.fe.cmds.filter fun (_, c) => c.sq = k).length

/-- Hashes are kept until every ATTACHED side has fetched past them (R244). -/
def Sq.prune (q : Sq) : Sq :=
  let passed (p : BitVec 32) (x : Option SqSide) : Bool := match x with | some x => !x.attached || posLt p x.fetch | none => true
  { q with hashes := q.hashes.filter fun (p, _) => !(passed p q.sideA && passed p q.sideB) }

/-- Every side's F falls behind E: the lag of a side that had reached E is counted from now (R248). -/
def Sq.lagFrom (q : Sq) (r : Rein) (wt : Nat) : Sq :=
  match q.side r with
  | some x => if x.fetch = q.exec then q.setSide r (some { x with advanced := wt }) else q
  | none => q

/-- Fetched: F of the side passes the position. -/
def Sq.fetched (q : Sq) (r : Rein) (x : SqSide) (wt : Nat) : Sq := q.setSide r (some { x with fetch := x.fetch + 1, advanced := wt })

/-- The entry executes: it takes a tag, its hash is recorded and E passes it (rule 1). -/
def State.fetchNew (s : State) (k : Nat) (q : Sq) (port : Port) (x : SqSide) (entry : BitVec 512) : State :=
  let r := port.rein
  let other := ((q.side r.other).map (·.attached)).getD false
  let q' := ((q.lagFrom r.other s.wheel.wt).fetched r x s.wheel.wt)
  let q' := ({ q' with exec := q.exec + 1, hashes := q'.hashes ++ [(x.fetch, entryHash entry)] } : Sq).prune
  let behind : Bool := match q'.side r.other with | some y => y.attached && decide (q.qsize ≤ (q'.exec - y.fetch).toNat) | none => false
  let s := s.setSq k q'
  let s := if behind then (s.detachSide k r.other 0).fenceMoved r else s
  let tag := s.fe.nextTag
  let asleep := decide (s.fe.ps4 ≠ 0)
  let c : Cmd := { sq := k, pos := x.fetch, ctrl := q.ctrl, admin := q.admin, port := port, entry := entry, started := false, aborted := false, orphan := false,
                   result := none, reserved := false, owed := (r, sqeCid entry) :: (if other && !behind then [(r.other, noCid)] else []), units := [], input := [], out := [],
                   held := asleep }
  let s : State := { s with fe := { s.fe with nextTag := tag + 1, cmds := Table.set s.fe.cmds tag c, ps4Exit := s.fe.ps4Exit || asleep } }
  s.entryChecks tag c

/-- The copy of an entry that has executed (rules 2 and 3). -/
def State.fetchCopy (s : State) (k : Nat) (q : Sq) (port : Port) (x : SqSide) (entry : BitVec 512) : State :=
  let r := port.rein
  let mine := (q.hashes.find? fun (p, _) => p = x.fetch).map (·.2)
  let s := s.setSq k (q.fetched r x s.wheel.wt).prune
  let at_ (c : Cmd) : Bool := decide (c.sq = k) && decide (c.pos = x.fetch)
  if mine = some (entryHash entry) then
    { s with fe := { s.fe with cmds := s.fe.cmds.map fun (t, c) =>
        (t, if at_ c then { c with owed := c.owed.map fun o => if o = (r, noCid) then (r, sqeCid entry) else o } else c) } }
  else
    let s := (s.count1 0x019).leave 0x0A04 2 [q.qid, x.fetch.toNat, (mine.getD 0).toNat, (entryHash entry).toNat]
    let bad := stat 7 0xC1
    let e : CqEntry := { dw0 := 0, dw1 := 0, sqHead := 0, sqid := q.qid, cid := sqeCid entry, sct := 7, sc := 0xC1, dnr := true }
    let s := s.addError q.ctrl q.qid (sqeCid entry) (statusWord bad) (sqeNsid entry) (sqeSlba entry) 0x0A04
    { s with fe := { s.fe with
        cmds := s.fe.cmds.map (fun (t, c) => (t, if at_ c then { c with owed := c.owed.filter (·.1 ≠ r) } else c)),
        mismatches := s.fe.mismatches ++ [(k, r, x.fetch, e)] } }

/-- Fetching is on: start-up or restart has admitted commands, and neither a dump nor a fatal fault has stopped it. -/
def State.fetches (s : State) : Bool :=
  s.fe.admits && !s.fe.stopped && !s.dump.inReset && decide (s.fault.fatal = none) && decide (s.fault.stop = none)

/-- A side of a queue can be fetched from: its rein is up and enabled, F < T, and F < E or a tag is free (R246, R271). -/
def State.sideWaits (s : State) (k : Nat) (q : Sq) (r : Rein) : Bool :=
  match q.side r with
  | some x => (s.port r).up && (s.ctrl q.ctrl).en r && x.attached && posLt x.fetch x.tail && (decide (x.fetch ≠ q.exec) || decide (s.tagsUsed k < q.tags))
  | none => false
def State.sqWaits (s : State) (k : Nat) (q : Sq) : Bool := s.sideWaits k q .a || s.sideWaits k q .b
/-- An admin queue of either rein can be fetched from: it goes ahead of I/O queues. -/
def State.adminWaits (s : State) : Bool := s.fe.sqs.any fun (k, q) => q.admin && s.sqWaits k q
/-- I/O queues that can be fetched from, by number. -/
def State.ioWaiting (s : State) : List Nat := (s.fe.sqs.filter fun (k, q) => !q.admin && s.sqWaits k q).map (·.1)
/-- The Arbitration Burst of a controller in entries: 2^AB, 111b without a limit. -/
def State.burstLeft (s : State) (ctrl : Nat) : Bool :=
  let ab := s.feat 0x01 ctrl 0 % 8
  decide (ab = 7) || decide (s.fe.burst < 2 ^ ab)
/-- The I/O queue whose turn it is: the one in its turn until its burst is fetched, then the next by number. -/
def State.fetchTurn (s : State) : Option Nat :=
  let w := s.ioWaiting
  if w.contains s.fe.turn ∧ s.burstLeft (s.fe.turn / 131072) then some s.fe.turn
  else match w.find? (s.fe.turn < ·) with
    | some k => some k
    | none => w.head?
/-- The front end takes the next entry from this queue (R271). -/
def State.mayFetch (s : State) (k : Nat) (admin : Bool) : Bool := admin || (!s.adminWaits && decide (s.fetchTurn = some k))
/-- An entry fetched counts in its queue's turn. -/
def State.turnTaken (s : State) (k : Nat) (admin : Bool) : State :=
  if admin then s
  else { s with fe := { s.fe with turn := k, burst := if s.fe.turn = k ∧ s.burstLeft (k / 131072) then s.fe.burst + 1 else 1 } }

/-- ENTRY_FETCH (R246, R271): side X fetches the entry at F when F < T, and F < E or a tag is free. -/
def execEntryFetch (port : Port) (qid : Nat) (entry : BitVec 512) (s : State) : Host.Outcome State Fault Refusal :=
  let k := s.sqKey port qid
  if !s.portOk port ∨ !s.fetches ∨ !(s.ctrl (s.ctrlOf port)).en port.rein then .next s
  else
    match (s.sq k).bind fun q => (q.side port.rein).map fun x => (q, x) with
    | none => .next s
    | some (q, x) =>
      if !x.attached ∨ !posLt x.fetch x.tail ∨ !s.mayFetch k q.admin then .next s
      else if x.fetch = q.exec then
        if s.tagsUsed k < q.tags then .next ((s.turnTaken k q.admin).fetchNew k q port x entry).settleFront else .next s
      else .next ((s.turnTaken k q.admin).fetchCopy k q port x entry).settleFront

/-- TWIN_LAG_EXPIRE (R248): a side behind E has not advanced for LAG_TEETH teeth. -/
def execTwinLagExpire (ctrl qid : Nat) (side : Rein) (s : State) : Host.Outcome State Fault Refusal :=
  let k := ctrl * 131072 + qid
  match (s.sq k).bind fun q => (q.side side).map fun x => (q, x) with
  | some (q, x) =>
    if s.twinMode ∧ qid ≠ 0 ∧ x.attached ∧ posLt x.fetch q.exec ∧ x.advanced + s.rein.twin.lagTeeth ≤ s.wheel.wt then .next ((s.detachSide k side 1).fenceMoved side.other).settleFront
    else .next s
  | none => .next s

/-! ### Queue creation and deletion (R241, R245, R262) -/

/-- QID, QSIZE, and in CDW11 PC, the priority or IEN, and the completion queue or vector. -/
def qcQid (c : Cmd) : Nat := bitField (dw c.entry 10) 0 16
def qcSize (c : Cmd) : Nat := bitField (dw c.entry 10) 16 16 + 1
def qcContiguous (c : Cmd) : Bool := bitField (dw c.entry 11) 0 1 = 1
def qcHigh (c : Cmd) : Nat := bitField (dw c.entry 11) 16 16
/-- A queue size that CAP.MQES admits (R241). -/
def qcSizeOk (c : Cmd) : Bool := decide (2 ≤ qcSize c) && decide (qcSize c ≤ 1024)
/-- A queue number within the grant; before a grant the pool alone limits it (R241). -/
def qcQidOk (c : Cmd) (grant used : Nat) : Bool := decide (1 ≤ qcQid c) && decide (if grant = 0 then used < Config.queuePool else qcQid c ≤ grant)

/-- CREATE_IO_CQ (R262). -/
def execCreateIoCq (tag : Nat) (s : State) : Host.Outcome State Fault Refusal :=
  .next (s.begin tag true 0x05 (fun _ => true) fun s c =>
    let k := s.cqKey c.port (qcQid c)
    let used := (s.fe.cqs.filter fun (k, _) => k % 65536 ≠ 0).length
    if !qcContiguous c then s.malformed tag c invalidField
    else if !qcQidOk c (s.ctrl c.ctrl).grantCq used ∨ (s.cq k).isSome then s.finish tag (stat 1 0x01)
    else if !qcSizeOk c then s.finish tag (stat 1 0x02)
    else if bitField (dw c.entry 11) 1 1 = 1 ∧ msixVectors c.port.func ≤ qcHigh c then s.finish tag (stat 1 0x08)
    else (s.setCq k { size := qcSize c, head := 0, tail := 0, entries := [], used := 0 }).finish tag ok)

/-- DELETE_IO_CQ (R262): a bound submission queue refuses it. -/
def execDeleteIoCq (tag : Nat) (s : State) : Host.Outcome State Fault Refusal :=
  .next (s.begin tag true 0x04 (fun _ => true) fun s c =>
    let k := s.cqKey c.port (qcQid c)
    if qcQid c = 0 ∨ (s.cq k).isNone then s.finish tag (stat 1 0x01)
    else if s.fe.sqs.any fun (_, q) => !q.admin && ((q.side c.port.rein).map fun x => decide (x.cq = k)).getD false then s.finish tag (stat 1 0x0C)
    else ({ s with fe := { s.fe with cqs := Table.del s.fe.cqs k } } : State).finish tag ok)

/-- The side of a new queue, or of one that the other rein has: F := T := E, and DW0 returns E (R245). -/
def State.attachSq (s : State) (tag : Nat) (c : Cmd) (k : Nat) (other : Option Sq) : State :=
  let prio := bitField (dw c.entry 11) 1 2
  let base : Sq := match other with
    | some q => q
    | none => { ctrl := c.ctrl, qid := qcQid c, admin := false, qsize := qcSize c, prio := prio, exec := 0, sideA := none, sideB := none, hashes := [] }
  let side : SqSide := { attached := true, tail := base.exec, fetch := base.exec, cq := s.cqKey c.port (qcHigh c), advanced := s.wheel.wt }
  if base.qsize ≠ qcSize c ∨ base.prio ≠ prio then s.finish tag invalidField
  else (s.setSq k (base.setSide c.port.rein (some side))).finish tag (okDw0 base.exec.toNat)

/-- CREATE_IO_SQ (R245). -/
def execCreateIoSq (tag : Nat) (s : State) : Host.Outcome State Fault Refusal :=
  .next (s.begin tag true 0x01 (fun _ => true) fun s c =>
    let k := s.sqKey c.port (qcQid c)
    let used := (s.fe.sqs.filter fun (_, q) => !q.admin).length
    let old := s.sq k
    let mine := old.bind fun q => q.side c.port.rein
    let other := old.bind fun q => if (q.side c.port.rein.other).isSome then some q else none
    if !qcContiguous c then s.malformed tag c invalidField
    else if !qcQidOk c (s.ctrl c.ctrl).grantSq (if other.isSome then 0 else used) ∨ ((mine.map (·.attached)).getD false) then s.finish tag (stat 1 0x01)
    else if !qcSizeOk c then s.finish tag (stat 1 0x02)
    else if qcHigh c = 0 ∨ (s.cq (s.cqKey c.port (qcHigh c))).isNone then s.finish tag (stat 1 0x00)
    else s.attachSq tag c k other)

/-- A side is removed: what it is owed is dropped, its commands move to the other side or run on without completions (R245, R249, R251). -/
def State.removeSide (s : State) (k : Nat) (r : Rein) (q : Sq) : State :=
  let moved := s.executingOn k r
  let q := q.setSide r none
  let s := (s.setSq k q).dropOwed k r
  let s := if ((q.side r.other).map (·.attached)).getD false then (moved.foldl (fun s t => s.moveCmd r.other t) s).fenceMoved r.other else s
  let s := s.orphanCmds k
  let s := s.fe.ready.foldl (fun s t => s.freeIfDone t) s
  if (q.side r.other).isSome then s else { s with fe := { s.fe with sqs := Table.del s.fe.sqs k } }

/-- DELETE_IO_SQ (R245). -/
def execDeleteIoSq (tag : Nat) (s : State) : Host.Outcome State Fault Refusal :=
  .next (s.begin tag true 0x00 (fun _ => true) fun s c =>
    let k := s.sqKey c.port (qcQid c)
    match s.sq k with
    | some q => if qcQid c ≠ 0 ∧ (q.side c.port.rein).isSome then (s.removeSide k c.port.rein q).finish tag ok else s.finish tag (stat 1 0x01)
    | none => s.finish tag (stat 1 0x01))

/-! ### Abort (R275, R276, R336) -/

/-- The CID of a command as its executing side knows it. -/
def Cmd.execCid (c : Cmd) : Nat :=
  match c.owed.find? fun o => o.1 = c.port.rein with
  | some o => if o.2 < noCid then o.2 else sqeCid c.entry
  | none => sqeCid c.entry

/-- A command's stream context. -/
def Cmd.ctx? (c : Cmd) : Option Nat := if !c.admin ∧ sqeOpc c.entry ∈ [0x83, 0x87] then some (bitField (dw c.entry 10) 0 4) else none

/-- The abort mark comes first: the command stops, and completes with 0:0x07 once a slot is reserved (step 2). -/
def State.abortCmd (s : State) (t : Nat) (c : Cmd) : State :=
  let qid := ((s.sq c.sq).map (·.qid)).getD 0
  let s := c.units.foldl State.dropJob s
  let s : State := { s with cipher := { s.cipher with reqs := s.cipher.reqs.filter fun (_, r) => r.work ≠ .mac t } }
  let s : State := match c.ctx? with
    | some n => if ((Table.find s.skv.ctxs n).map (·.ctrl)) = some c.ctrl then s.endCtx n else s
    | none => s
  let s := s.leave 0x0B05 0 [qid, c.execCid]
  if c.result.isSome then s.modCmd t fun x => { x with aborted := true, result := some (stat 0 0x07) }
  else (s.modCmd t fun x => { x with aborted := true }).finishCode t (stat 0 0x07) 0x0B05

/-- ABORT (R275, R276): the test and set on the tag, the reservation being the commit point. -/
def execAbort (tag : Nat) (s : State) : Host.Outcome State Fault Refusal :=
  .next (s.begin tag true 0x08 (fun _ => true) fun s c =>
    let sqid := bitField (dw c.entry 10) 0 16
    let cid := bitField (dw c.entry 10) 16 16
    let waiting := (s.fe.cmds.filter fun (t, x) => decide (t < tag) && x.admin && decide (x.ctrl = c.ctrl) && decide (sqeOpc x.entry = 0x08)).length
    let k := s.sqKey c.port sqid
    let target := s.fe.cmds.find? fun (_, x) => decide (x.sq = k) && !x.admin && !x.orphan && decide (x.execCid = cid)
    if 4 ≤ waiting then s.finish tag (stat 1 0x03)
    else
      match target with
      | none => s.finish tag (okDw0 1)
      | some (t, x) =>
        if sqid = 0 ∨ x.reserved then s.finish tag (okDw0 1)
        else if x.aborted then s.finish tag ok
        else (s.abortCmd t x).finish tag ok)

/-! ### Asynchronous Event Request (R262, R270) -/

/-- The first event that waits for a request of this rein and is not masked takes it. -/
def State.deliverEvent (s : State) (ctrl : Nat) (r : Rein) : State :=
  match s.fe.events.find? fun x => decide (x.1 = ctrl) && decide (x.2.1 = r) && !s.fe.isMasked ctrl r x.2.2.page with
  | some x => ({ s with fe := { s.fe with events := s.fe.events.erase x } } : State).eventOn ctrl r x.2.2
  | none => s

/-- ASYNC_EVENT_REQUEST: eight may be outstanding on a controller's rein. -/
def execAsyncEventRequest (tag : Nat) (s : State) : Host.Outcome State Fault Refusal :=
  .next (s.begin tag true 0x0C (fun _ => true) fun s c =>
    let r := c.port.rein
    if 8 ≤ (s.fe.aers.filter fun a => decide (a.ctrl = c.ctrl) && decide (a.rein = r)).length then s.finish tag (stat 1 0x05)
    else ({ s with fe := { s.fe with aers := s.fe.aers ++ [⟨tag, c.ctrl, r⟩] } } : State).deliverEvent c.ctrl r)

/-! ### Commands that are not supported, and host memory errors -/

/-- The opcode of a row. -/
def State.opcodeOf (s : State) (tag : Nat) : Nat := ((s.cmd tag).map fun c => sqeOpc c.entry).getD 0

/-- UNSUPPORTED_ADMIN_COMMAND (R262): 0:0x01. -/
def execUnsupportedAdminCommand (tag : Nat) (s : State) : Host.Outcome State Fault Refusal :=
  .next (s.begin tag true (s.opcodeOf tag) (fun c => !c.supported) fun s c => s.malformed tag c (stat 0 0x01))

/-- UNSUPPORTED_IO_COMMAND (R264): 0:0x01. -/
def execUnsupportedIoCommand (tag : Nat) (s : State) : Host.Outcome State Fault Refusal :=
  .next (s.begin tag false (s.opcodeOf tag) (fun c => !c.supported) fun s c => s.malformed tag c (stat 0 0x01))

/-- HOST_MEMORY_ERROR (R283): the command ends with 0:0x04; its units past step 4 remain. -/
def execHostMemoryError (tag addr : Nat) (s : State) : Host.Outcome State Fault Refusal :=
  match s.cmd tag with
  | some c =>
    if c.result.isSome ∨ c.orphan ∨ !c.supported then .next s
    else
      let s := c.units.foldl State.dropJob s
      let s := s.modPort c.port.rein fun p => { p with uncorrErrors := satAdd 32 p.uncorrErrors 1 }
      let s := (s.count 0x01A c.port.rein.num 1).leave 0x0B03 2 [((s.sq c.sq).map (·.qid)).getD 0, sqeCid c.entry, addr]
      .next (s.finishCode tag (stat 0 0x04) 0x0B03).settle
  | none => .next s

end Sys2Proof.Machine
end

