-- ==== Sys2Proof/Machine/Dma.lean ====
section
/-! DEFINITION. The internal DMA (15_dma): descriptors and their check, the arbiter, pacing, pause and abort. A channel's owner, the
engines that drain the FIFOs and the datapath's bursts are the commands' senders (log 10). -/
namespace Sys2Proof.Machine

/-! ### Descriptors (R369, R370) -/

def descSrc (d : BitVec 256) : Nat := bitField d.toNat 0 40
def descSrcSpace (d : BitVec 256) : Nat := bitField d.toNat 40 2
def descDst (d : BitVec 256) : Nat := bitField d.toNat 48 40
def descDstSpace (d : BitVec 256) : Nat := bitField d.toNat 88 2
def descPaced (d : BitVec 256) : Bool := bitField d.toNat 90 1 = 1
def descLength (d : BitVec 256) : Nat := bitField d.toNat 96 24
def descHigh (d : BitVec 256) : Nat := bitField d.toNat 120 5
def descLow (d : BitVec 256) : Nat := bitField d.toNat 125 5
def descNotify (d : BitVec 256) : Bool := bitField d.toNat 130 1 = 1

/-- A descriptor that obeys R370. -/
def descValid (d : BitVec 256) : Bool :=
  decide (descSrc d % 64 = 0) && (decide (descDstSpace d = 3) || decide (descDst d % 64 = 0)) && decide (descLength d % 64 = 0) && decide (64 ≤ descLength d)
    && decide (descDstSpace d ≠ 2) && decide (descSrcSpace d ≠ 3) && decide (descPaced d = decide (descDstSpace d = 3))
    && decide (bitField d.toNat 42 6 = 0) && decide (bitField d.toNat 91 5 = 0) && decide (bitField d.toNat 131 125 = 0)
    && decide (1 ≤ descHigh d) && decide (descHigh d ≤ 16) && decide (descLow d < descHigh d)

/-- A descriptor that reads or writes DRAM. -/
def descDram (d : BitVec 256) : Bool := decide (descSrcSpace d = 0) || decide (descDstSpace d = 0)

def State.dmaCh (s : State) (c : Nat) : DmaCh := Table.getD s.dma.chans c {}
def State.modDma (s : State) (c : Nat) (f : DmaCh → DmaCh) : State :=
  { s with dma := { s.dma with chans := Table.set s.dma.chans c (f (s.dmaCh c)) } }

/-- The descriptor at the head completes with a result; DONE belongs to the next one. -/
def DmaCh.completed (x : DmaCh) (result : Nat) : DmaCh := { x with ring := x.ring.tail, head := (x.head + 1) % 8, result := result, done := 0 }

/-! ### The arbiter (R371) -/

/-- A channel that may be granted a burst; channels 60 to 63 never are (R368). -/
def DmaState.ready (m : DmaState) (c : Nat) : Bool :=
  let x := Table.getD m.chans c {}
  decide (c < 60) && decide (x.ring ≠ []) && x.held.isNone && !x.paused && !x.error

/-- An invalid descriptor that a ready channel would execute moves no byte: INVALID, ERROR and code 0x0F01 (R370). -/
def State.dmaCheck (s : State) (c : Nat) : State :=
  let x := s.dmaCh c
  if s.dma.ready c then
    match x.ring with
    | d :: _ => if descValid d then s else (s.modDma c fun x => { x.completed 3 with error := true }).leave 0x0F01 2 [c, x.head]
    | [] => s
  else s

/-- The first channel of a list after the one last granted, in channel order and wrapping. -/
def nextAfter (last : Option Nat) (cs : List Nat) : Option Nat :=
  match last with
  | none => cs.head?
  | some l => match cs.find? (l < ·) with | some c => some c | none => cs.head?

/-- The channel the next grant goes to, with its priority. -/
def State.dmaChoice (s : State) : Option (Nat × Nat) :=
  let ready := (List.range 60).filter s.dma.ready
  let prios := ready.map s.img.dmaPrio
  match prios with
  | [] => none
  | p :: ps =>
    let q := if s.dma.grants + 1 = max 1 s.img.starvePeriod then ps.foldl min p else ps.foldl max p
    (nextAfter (Table.find s.dma.last q) (ready.filter fun c => s.img.dmaPrio c = q)).map fun c => (c, q)

/-- A burst boundary with no burst granted: the next burst is granted. -/
def State.dmaGrant (s : State) : State :=
  if s.dma.granted.isSome then s
  else
    let s := (s.dma.chans.map (·.1)).foldl State.dmaCheck s
    match s.dmaChoice with
    | some (c, q) =>
      { s with dma := { s.dma with granted := some c, last := Table.set s.dma.last q c, grants := (s.dma.grants + 1) % max 1 s.img.starvePeriod } }
    | none => s

/-- The ring is dropped; the descriptor in progress completes with ABORTED and DONE as it stood (R374). -/
def DmaCh.aborted (x : DmaCh) : DmaCh :=
  { x with ring := [], head := (x.head + x.ring.length) % 8, result := if x.ring = [] then x.result else 1, error := false, pauseOwner := false, held := none,
           aborting := false }

/-! ### The commands -/

/-- DMA_DESC_APPEND (R369): an owner appends at the tail of its channel's ring; while the ring is full it waits (DESIGN CHOICE, log 22). -/
def execDmaDescAppend (ch : Nat) (desc : BitVec 256) (s : State) : Host.Outcome State Fault Refusal :=
  if ch < 60 ∧ (s.dmaCh ch).ring.length < 8 ∧ !(s.dmaCh ch).aborting then
    .next ((s.modDma ch fun x => { x with ring := x.ring ++ [desc], done := if x.ring = [] then 0 else x.done }).dmaGrant).settleFront
  else .next s

/-- After a burst of a paced descriptor: the FIFO holds one more, and the channel is HELD at the high mark (R372). -/
def State.dmaPace (s : State) (c : Nat) (d : BitVec 256) : State :=
  if descPaced d then
    let fill := Table.getD s.dma.fifo (descDst d) 0 + 1
    let s : State := { s with dma := { s.dma with fifo := Table.set s.dma.fifo (descDst d) fill } }
    if descHigh d ≤ fill then (s.modDma c fun x => { x with held := some (descDst d, descLow d) }).count1 0x0B0 else s
  else s

/-- The granted burst of a channel has been written. -/
def State.dmaBurst (s : State) (c : Nat) (poisoned : Bool) : State :=
  match (s.dmaCh c).ring with
  | [] => s
  | d :: _ =>
    let done := (s.dmaCh c).done
    let bytes := min 512 (descLength d - done)
    let s := s.modDma c fun x => { x with done := done + bytes, bursts := satAdd 32 x.bursts 1 }
    let s := s.dmaPace c d
    let s := if poisoned ∧ descSrcSpace d = 0 then (s.modDma c fun x => x.completed 2).leave 0x0F02 2 [c, descSrc d + done]
      else if descLength d ≤ done + bytes then
        s.modDma c fun x => { x.completed 0 with notified := if descNotify d then x.notified + 1 else x.notified }
      else s
    if (s.dmaCh c).aborting then s.modDma c DmaCh.aborted else s

/-- DMA_BURST_DONE (R371, R372, R376): the burst granted completes, and the arbiter grants the next one. -/
def execDmaBurstDone (poisoned : Bool) (s : State) : Host.Outcome State Fault Refusal :=
  match s.dma.granted with
  | some c => .next ((({ s with dma := { s.dma with granted := none } } : State).dmaBurst c poisoned).dmaGrant).settleFront
  | none => .next s

/-- DMA_FIFO_DRAINED (R372): a consuming engine has drained its FIFO to `fill` bursts. -/
def execDmaFifoDrained (fifo fill : Nat) (s : State) : Host.Outcome State Fault Refusal :=
  if fill ≤ Table.getD s.dma.fifo fifo 0 then
    let chans := s.dma.chans.map fun (c, x) =>
      (c, match x.held with | some (f, low) => if f = fifo ∧ fill ≤ low then { x with held := none } else x | none => x)
    .next (({ s with dma := { s.dma with fifo := Table.set s.dma.fifo fifo fill, chans := chans } } : State).dmaGrant).settleFront
  else .next s

/-- DMA_PAUSE (R373): a burst already granted completes; no further one is granted. -/
def execDmaPause (ch : Nat) (holder : DmaHolder) (s : State) : Host.Outcome State Fault Refusal :=
  if ch < 60 ∨ (holder ≠ .owner ∧ ch < 64) then .next (s.modDma ch fun x => x.pause holder) else .next s

/-- Every channel released by the frequency change: it has ended, and the map cache's drains resume (R352, R365, R375). -/
def State.freqEnds (s : State) : State :=
  if s.dma.chans.any fun (_, x) => x.pauseFreq then s
  else
    let s : State := { s with dram := { s.dram with changing := false } }
    (s.mc.banks.map (·.1)).foldl State.drainStep s

/-- DMA_RELEASE (R373, R375): a holder releases its PAUSE; the fault sequencer never does. -/
def execDmaRelease (ch : Nat) (holder : DmaHolder) (s : State) : Host.Outcome State Fault Refusal :=
  if 64 ≤ ch then .next s
  else
    match holder with
    | .owner => .next ((s.modDma ch fun x => { x with pauseOwner := false }).dmaGrant).settleFront
    | .faultSequencer => .next s
    | .freqChange => .next ((s.modDma ch fun x => { x with pauseFreq := false }).freqEnds.dmaGrant).settleFront

/-- DMA_ABORT (R374): the owner's ring is dropped, after a burst already granted. -/
def execDmaAbort (ch : Nat) (s : State) : Host.Outcome State Fault Refusal :=
  if 60 ≤ ch then .next s
  else if s.dma.granted = some ch then .next (s.modDma ch fun x => { x with aborting := true })
  else .next ((s.modDma ch DmaCh.aborted).dmaGrant).settleFront

/-- Time 0 of a frequency change: PAUSE on every channel whose descriptors read or write DRAM (R375). -/
def State.dmaFreqPause (s : State) : State :=
  let s : State := { s with dma := { s.dma with chans := s.dma.chans.map fun (c, x) => (c, if x.ring.any descDram then x.pause .freqChange else x) } }
  { s with dram := { s.dram with changing := s.dma.chans.any fun (_, x) => x.pauseFreq } }

end Sys2Proof.Machine
end

