-- ==== Sys2Proof/Machine/Plans.lean ====
section
/-! DEFINITION. The plan selector (01_architecture R20 to R25, 03_stitch_plans R72 to R74): the sample at tooth 1,016, the load with its
check, the reload of the DRAM plans from the shadow, and the swap. -/
namespace Sys2Proof.Machine

/-- PLAN_INDEX (R20). -/
def planIndex (ps band : Nat) (rb : Bool) : Nat := (ps * 8 + band) * 2 + bit rb

/-- The main domain runs a plan: start-up has reached step 7, and no dump, hold or fault stop stands (R25, R46, R219, R451). -/
def State.wheelRuns (s : State) : Bool :=
  s.plan.running.isSome && decide (s.ts.mode ≠ 2) && s.dump.run.isNone && !s.dump.since && !s.dump.inReset && s.fault.stop.isNone && !s.wheel.stopped

/-- A load of the pending plan fails (01_architecture, 'The next plan cannot be loaded in time'). -/
def State.planLoadFails (s : State) : State :=
  let s : State := { s with plan := { s.plan with loading := false, loaded := false, deferRun := min 3 (s.plan.deferRun + 1), deferred := satAdd 32 s.plan.deferred 1 } }
  let s := s.leave 0x0302 2 []
  if s.plan.deferRun = 3 then ({ s with plan := { s.plan with reloading := true } } : State).leave 0x0305 3 [] else s

/-- PLAN_SAMPLE (R20, R22, R23): at the start of tooth 1,016 the selector samples PS, BAND and RB together, and starts loading the plan that
their entry names when it is not the running one. A reload from the shadow leaves the load to the next sample. -/
def execPlanSample (s : State) : Host.Outcome State Fault Refusal :=
  if s.wheelRuns ∧ s.wheel.lt = 1016 ∧ !s.plan.sampled then
    let ps := s.effPs
    let i := planIndex ps s.blk.band s.girth.rb
    let n := natAt s.img.planSelect i
    let s : State := { s with plan := { s.plan with sampled := true, ps := ps, band := s.blk.band, rb := s.girth.rb, lastIndex := i, loaded := false } }
    if n = s.plan.runningNo ∨ s.plan.reloading then .next s
    else .next { s with plan := { s.plan with loading := true, pendingNo := some n,
                                              deferRun := if s.plan.pendingNo = some n then s.plan.deferRun else 0 } }
  else .next s

/-- PLAN_LOAD_DONE (R72): the plan has moved into the inactive buffer, and its SLOT_CRC is compared; a poisoned burst is a failed load. -/
def execPlanLoadDone (poisoned : Bool) (s : State) : Host.Outcome State Fault Refusal :=
  if s.plan.loading then
    match s.plan.pendingNo.bind fun n => Table.find s.plan.dram n with
    | some p =>
      if !poisoned ∧ p.crcOk then
        .next { s with plan := { s.plan with loading := false, loaded := true, inactive := some p, deferRun := 0 } }
      else .next s.planLoadFails.settleFront
    | none => .next s.planLoadFails.settleFront
  else .next s

/-- PLAN_SHADOW_RELOAD_DONE (R74): the DRAM plans stand as in the shadow again. -/
def execPlanShadowReloadDone (s : State) : Host.Outcome State Fault Refusal :=
  if s.plan.reloading then
    let ps := s.bootPlans
    .next { s with plan := { s.plan with dram := (List.range ps.length).map (fun i => (i, ps.getD i default)), reloading := false, deferRun := 0 } }
  else .next s

/-- The round boundary (R22): a plan loaded and checked replaces the running one; one that is still loading has failed. -/
def State.planSwap (s : State) : State :=
  let s := if s.plan.loading then s.planLoadFails else s
  let s : State := { s with plan := { s.plan with sampled := false } }
  match s.plan.loaded, s.plan.pendingNo with
  | true, some n =>
    let old := s.plan.runningNo
    let s : State := { s with plan := { s.plan with running := s.plan.inactive, inactive := s.plan.running, runningNo := n, loaded := false, pendingNo := none,
                                                    swaps := satAdd 32 s.plan.swaps 1, lastSwapWt := s.wheel.wt } }
    (s.leave 0x0301 0 [old, n]).count1 0x038
  | _, _ => s

end Sys2Proof.Machine
end

