-- ==== Sys2Proof/Machine/Dram.lean ====
section
/-! DEFINITION. DRAM (14_dram_and_map_cache R339 to R352): addresses, the burst decoder with lane retirement and each region's answer,
the scrubber, refresh, activates and their neighbour refreshes, power-down; and the map cache's fills, write-backs, errors and enable
bits (R356 to R366). A burst's contents stand in the tables they hold (log 15). -/
namespace Sys2Proof.Machine

/-! ### Addresses (R346) -/

/-- Where a burst lies. -/
structure DramAt where
  ch : Nat
  rank : Nat
  bank : Nat
  row : Nat
  deriving DecidableEq, Repr

/-- The channel, rank, bank and row of a DRAM byte address. -/
def ImgState.dramAt (i : ImgState) (a : Nat) : DramAt :=
  let b := a / 64
  let r := b / 2 ^ (i.colBits + 3)
  let row := r / 16 % 2 ^ i.rowBits
  { ch := b / 2 ^ i.colBits % 8, rank := r / 2 ^ (4 + i.rowBits), bank := (r % 16) ^^^ (row % 16), row := row }

/-- The fitted bytes that are used. -/
def State.dramBytes (s : State) : Nat := s.dram.gib * 2 ^ 30
/-- DRAM address of a map cache line (R356). -/
def lineAddr (la : Nat) : Nat := 2 ^ 35 + la * 64

def rankKey (ch rank : Nat) : Nat := ch * 2 + rank
def State.rank (s : State) (k : Nat) : Rank := Table.getD s.dram.ranks k {}
def State.modRank (s : State) (k : Nat) (f : Rank → Rank) : State :=
  { s with dram := { s.dram with ranks := Table.set s.dram.ranks k (f (s.rank k)) } }
/-- A rank and bank that are fitted. -/
def State.bankFitted (s : State) (ch rank bank : Nat) : Bool := decide (ch < 8) && decide (rank < s.dram.ranksPer) && decide (bank < 16)

/-! ### Requests that wait in a bank's queue (R347): those of the miss registers, the write-back buffers and the granted DMA burst -/

/-- Addresses of the reads that wait. -/
def State.waitingReads (s : State) : List Nat :=
  (s.mc.banks.filterMap fun (_, k) => k.miss.map fun m => lineAddr m.la)
    ++ (match s.dma.granted with
        | some c => (match (s.dmaCh c).ring with | d :: _ => (if descSrcSpace d = 0 then [descSrc d + (s.dmaCh c).done] else []) | [] => [])
        | none => [])
/-- Addresses of the writes that wait. -/
def State.waitingWrites (s : State) : List Nat :=
  (s.mc.banks.flatMap fun (_, k) => k.wbb.map lineAddr)
    ++ (match s.dma.granted with
        | some c => (match (s.dmaCh c).ring with | d :: _ => (if descDstSpace d = 0 then [descDst d + (s.dmaCh c).done] else []) | [] => [])
        | none => [])
/-- An address of a rank, or of one bank of it. -/
def State.inRank (s : State) (ch rank : Nat) (a : Nat) : Bool := let x := s.img.dramAt a; decide (x.ch = ch) && decide (x.rank = rank)
def State.inBank (s : State) (ch rank bank : Nat) (a : Nat) : Bool := s.inRank ch rank a && decide ((s.img.dramAt a).bank = bank)

/-! ### Activates, refresh and power (R347 to R351) -/

/-- One activate of a row: its channel draws a pattern, which may schedule a neighbour refresh of the bank (R350). -/
def State.activate (s : State) (ch rank bank row : Nat) : State :=
  let x := Config.lfsrNext (s.dram.lfsr.getD ch 0)
  let s : State := { s with dram := { s.dram with lfsr := updAt s.dram.lfsr ch fun _ => x } }
  if Config.drawsNeighbour s.img.nrK x then
    s.modRank (rankKey ch rank) fun r => { r with neighbour := Table.set r.neighbour bank (Table.getD r.neighbour bank [] ++ [row]) }
  else s

/-- A burst issues: it wakes its rank, and activates its row unless that stands open with fewer than 4 hits (R347, R351). -/
def State.dramIssue (s : State) (a : Nat) : State :=
  let x := s.img.dramAt a
  let s := s.modRank (rankKey x.ch x.rank) fun r => { r with power := 0 }
  let r := s.rank (rankKey x.ch x.rank)
  match Table.find r.rows x.bank with
  | some (row, hits) =>
    if row = x.row ∧ hits < 4 then s.modRank (rankKey x.ch x.rank) fun r => { r with rows := Table.set r.rows x.bank (row, hits + 1) }
    else (s.modRank (rankKey x.ch x.rank) fun r => { r with rows := Table.set r.rows x.bank (x.row, 0) }).activate x.ch x.rank x.bank x.row
  | none => (s.modRank (rankKey x.ch x.rank) fun r => { r with rows := Table.set r.rows x.bank (x.row, 0) }).activate x.ch x.rank x.bank x.row

/-- Postponed refreshes issue once their bank's queue holds no read (R348). -/
def State.catchUp (s : State) : State :=
  let reads := s.waitingReads.map s.img.dramAt
  { s with dram := { s.dram with ranks := s.dram.ranks.map fun (k, r) =>
      (k, { r with postponed := (List.range 16).map fun b =>
              if reads.any fun x => decide (rankKey x.ch x.rank = k) && decide (x.bank = b) then natAt r.postponed b else 0 }) } }

/-- DRAM_REFRESH_DUE (R348): the refresh issues, with those postponed, unless the bank's queue holds a read and fewer than 4 are postponed.
A rank in self-refresh takes none (R351). -/
def execDramRefreshDue (ch rank bank : Nat) (s : State) : Host.Outcome State Fault Refusal :=
  let k := rankKey ch rank
  if s.bankFitted ch rank bank ∧ (s.rank k).power ≠ 2 ∧ !s.dram.changing then
    if s.waitingReads.any (s.inBank ch rank bank) ∧ natAt (s.rank k).postponed bank < 4 then
      .next (s.modRank k fun r => { r with postponed := updAt r.postponed bank (· + 1) })
    else .next (s.modRank k fun r => { r with postponed := updAt r.postponed bank fun _ => 0, rows := Table.del r.rows bank, power := 0 })
  else .next s

/-- NEIGHBOUR_REFRESH (R350): a scheduled neighbour refresh issues: the rows beside the activated one, or one RFM command. -/
def execNeighbourRefresh (ch rank bank : Nat) (s : State) : Host.Outcome State Fault Refusal :=
  let k := rankKey ch rank
  if s.bankFitted ch rank bank then
    match Table.getD (s.rank k).neighbour bank [] with
    | row :: rest =>
      let s := s.modRank k fun r => { r with neighbour := Table.put [] r.neighbour bank rest, rows := Table.del r.rows bank, power := 0 }
      let s := if s.img.adjMode then s
        else
          let s := if 0 < row then s.activate ch rank bank (row - 1) else s
          if row + 1 < 2 ^ s.img.rowBits then s.activate ch rank bank (row + 1) else s
      .next (({ s with dram := { s.dram with neighbours := satAdd 32 s.dram.neighbours 1 } } : State).count 0x0A1 ch 1).settleFront
    | [] => .next s
  else .next s

/-- RANK_POWER_DOWN (R351): a rank whose queues have been empty for PD_IDLE, with no refresh due, enters power-down; in PS 4 one idle for
100 µs enters self-refresh instead. -/
def execRankPowerDown (ch rank idleNs : Nat) (s : State) : Host.Outcome State Fault Refusal :=
  let k := rankKey ch rank
  let quiet := !(s.waitingReads.any (s.inRank ch rank)) && !(s.waitingWrites.any (s.inRank ch rank))
    && (s.rank k).postponed.all (fun n => decide (n = 0)) && decide ((s.rank k).neighbour = [])
  if s.bankFitted ch rank 0 ∧ quiet then
    if s.fe.ps4 = 2 then
      if 100000 ≤ idleNs then .next (s.modRank k fun r => { r with power := 2, rows := [] }) else .next s
    else if s.img.pdIdle ≤ idleNs ∧ (s.rank k).power = 0 then .next (s.modRank k fun r => { r with power := 1, rows := [] })
    else .next s
  else .next s

/-! ### Where a burst's symbols travel (R340) -/

/-- Lane of a symbol of a burst: data symbols 0 to 63, check symbols 64 to 79 (R340). -/
def laneOf (symbol : Nat) : Nat := if symbol < 64 then symbol % 4 else 4
/-- Beat in which a symbol of a burst travels. -/
def beatOf (symbol : Nat) : Nat := if symbol < 64 then symbol / 4 else symbol - 64
/-- The bytes that a burst's lanes carry in a beat, lane 0 first. -/
def burstBeat (data : List Byte) (beat : Nat) : List Byte :=
  (List.range 5).map fun lane => (burstWord data).getD (if lane < 4 then 4 * beat + lane else 64 + beat) 0#8

/-! ### Lanes (R343, R344) -/

/-- A lane of a rank has reached RETIRE_CNT: it is retired, or it is the second of its rank. -/
def State.retireLane (s : State) (ch rank lane : Nat) : State :=
  let k := rankKey ch rank
  if (s.rank k).retired.isSome then s.leave 0x0E04 4 [ch, rank, lane]
  else ((s.modRank k fun r => { r with retired := some lane }).writeRec .optionLog (.optLane ch rank lane)).leave 0x0E03 3 [ch, rank, lane]

/-- The decoder corrected symbols in a lane of a burst. -/
def State.countLane (s : State) (ch rank lane : Nat) : State :=
  let k := rankKey ch rank
  let n := natAt (s.rank k).lanes lane
  let s := s.modRank k fun r => { r with lanes := updAt r.lanes lane fun n => min 255 (n + 1) }
  if n + 1 = s.img.retireCnt then s.retireLane ch rank lane else s

/-- LANE_COUNTER_WINDOW (R343): every RETIRE_ROUNDS local rounds the counters clear. -/
def execLaneCounterWindow (s : State) : Host.Outcome State Fault Refusal :=
  if s.dram.laneRound + s.img.retireRounds ≤ s.obs.rounds ∧ s.dram.gib ≠ 0 then
    .next { s with dram := { s.dram with laneRound := s.obs.rounds, ranks := s.dram.ranks.map fun (k, r) => (k, { r with lanes := [0, 0, 0, 0, 0] }) } }
  else .next s

/-! ### The burst decoder (R340, R341) -/

/-- What the decoder answers. -/
inductive BurstEnd where
  | clean
  | corrected (lanes : List Nat)
  | uncorrectable
  deriving DecidableEq, Repr

/-- A burst of a rank with a retired lane is corrected by erasures alone; otherwise up to 4 errors are corrected, 5 to 12 reported, and more may be
miscorrected (a free value; R340, R343). -/
def State.burstEnd (s : State) (a : Nat) (bad : List Nat) : BurstEnd :=
  let x := s.img.dramAt a
  let bad := (bad.filter (· < 80)).eraseDups
  let lanes (m : Nat) : List Nat := (List.range 5).filter fun l => decide (bitField m l 1 = 1)
  if (s.rank (rankKey x.ch x.rank)).retired.isSome ∨ bad = [] then .clean
  else if bad.length ≤ 4 then .corrected ((List.range 5).filter fun l => bad.any fun b => laneOf b = l)
  else if bad.length ≤ 12 ∨ !Config.miscorrects a s.free then .uncorrectable
  else
    match lanes (Config.miscorrectedLanes a s.free) with
    | [] => .clean
    | ls => .corrected ls

/-- A corrected burst is counted and recorded, and its lanes are counted. -/
def State.burstCorrected (s : State) (a : Nat) (lanes : List Nat) : State :=
  let x := s.img.dramAt a
  let s : State := { s with dram := { s.dram with corrected := satAdd 32 s.dram.corrected 1 } }
  let s := (s.count 0x0A0 x.ch 1).leave 0x0E01 1 [x.ch, x.rank, (lanes.map fun l => 2 ^ l).sum]
  lanes.foldl (fun s l => s.countLane x.ch x.rank l) s

/-- An uncorrectable burst is counted and recorded with its region. -/
def State.burstLost (s : State) (a region : Nat) : State :=
  ({ s with dram := { s.dram with uncorrectable := satAdd 32 s.dram.uncorrectable 1 } } : State).leave 0x0E02 2 [a, region]

/-- Region of a burst: the rows of 'Answer to an uncorrectable burst' in order, 5 the scrubber's. -/
def placeRegion : DramPlace → Nat
  | .segmentPool _ _ => 0
  | .writeBuffer _ => 1
  | .plan _ => 2
  | .setRec _ => 3
  | .vtGroup _ => 4
  | .fixedOther => 6

/-- A map block that cannot be read: its segment is marked not restored and is restored first in line, with code 0x0601. -/
def State.blockLost (s : State) (seg block : Nat) : State :=
  if (s.seg seg).alloc then
    let s : State := { s with map := { s.map with badBlocks := (seg * 65536 + block) :: s.map.badBlocks } }
    ((s.checkBlock seg block).mcInvalidateSegment seg).needSeg seg
  else s

/-- The slot of the write buffer that holds a granule. -/
def State.slotAt (s : State) (g : Nat) : Option (Nat × WbSlot) := s.wb.slots.find? fun (a, w) => decide (a ≤ g) && decide (g < a + w.desc.glen)

/-- A poisoned read of a slot's data or header: poison bits, then the unit is set UNC, listed, and leaves the index; the reads of the slot end as R17
says (R342). -/
def State.slotPoisoned (s : State) (g : Nat) : State :=
  let s : State := { s with dram := { s.dram with poison := if s.dram.poison.contains g then s.dram.poison else g :: s.dram.poison } }
  match s.slotAt g with
  | none => s
  | some (a, w) =>
    let readers := (s.fe.jobs.filter fun (_, j) => decide (j.reads = some a)).map (·.1)
    let s := readers.foldl (fun s t => s.jobFails t (stat 2 0x81)) s
    match s.map.wbiFind w.desc.nsx w.desc.unit with
    | some (_, g', l) =>
      if g' = a then
        let s := match s.segOf w.desc.nsx false w.desc.unit with
          | some sg => s.setEntry sg (indexIn false w.desc.unit) { ({} : MapEntry) with glen := l, unc := true } 0 2
          | none => s
        let s : State := { s with fe := { s.fe with lbaStatus := s.fe.lbaStatus ++ [w.desc.nsx * 2 ^ 38 + w.desc.unit] } }
        s.wbiRelease w.desc.nsx w.desc.unit
      else s
    | none => s

/-- The region's answer; a set record is rebuilt from the DRAM ledger copy before it is used, with the code of R188 (DEDUCED, log 55). -/
def State.placeAnswer (s : State) (a : Nat) : DramPlace → State
  | .segmentPool seg block => s.blockLost seg block
  | .writeBuffer g => s.slotPoisoned g
  | .plan n => if s.plan.loading ∧ s.plan.pendingNo = some n then s.planLoadFails else s
  | .setRec k => (s.rebuildSet k).leave 0x080D 2 [k]
  | .vtGroup g => s.modVt g fun v => { v with valid := false }
  | .fixedOther => s.leave 0x0E0F 4 [a, placeRegion .fixedOther]

/-- DRAM_BURST_DECODE (R340 to R344). -/
def execDramBurstDecode (addr : Nat) (badSymbols : List Nat) (place : DramPlace) (s : State) : Host.Outcome State Fault Refusal :=
  if addr < s.dramBytes then
    let r := s.burstEnd addr badSymbols
    let s := ({ s with free := s.free + 1 } : State).dramIssue addr
    match r with
    | .clean => .next s
    | .corrected lanes => .next (s.burstCorrected addr lanes).settle
    | .uncorrectable => .next ((s.burstLost addr (placeRegion place)).placeAnswer addr place).settle
  else .next s

/-- DRAM_SCRUB_READ (R345): the next burst is read when its bank's queue is empty; a corrected one is written back, an uncorrectable one waits
for its region's next read. -/
def execDramScrubRead (badSymbols : List Nat) (s : State) : Host.Outcome State Fault Refusal :=
  let a := s.dram.scrub * 64
  let x := s.img.dramAt a
  if a < s.dramBytes ∧ !s.dram.changing ∧ !(s.waitingReads ++ s.waitingWrites).any (s.inBank x.ch x.rank x.bank) then
    let r := s.burstEnd a badSymbols
    let s := ({ s with free := s.free + 1, dram := { s.dram with scrub := if a + 64 < s.dramBytes then s.dram.scrub + 1 else 0 } } : State).dramIssue a
    match r with
    | .clean => .next s
    | .corrected lanes => .next (s.burstCorrected a lanes).settleFront
    | .uncorrectable => .next (s.burstLost a 5).settleFront
  else .next s

/-! ### The map cache (R358 to R366) -/

/-- Error events count toward a bank's end of service: at 16 it drains, and stays disabled until reset (R366). -/
def State.bankEvent (s : State) (b : Nat) : State :=
  let k := s.bank b
  let n := k.events + 1
  let s := s.setBank b { k with events := n }
  if n = 16 then ((s.setBank b { s.bank b with out := true }).disableBank b).leave 0x0E0D 3 [b] else s

/-- The cache's answer to its own errors (R366). -/
def State.cacheError (s : State) (b : Nat) : CacheError → State
  | .none => s
  | .oneSymbol set => ({ s with mc := { s.mc with corrected := satAdd 32 s.mc.corrected 1 } } : State).leave 0x0E0A 1 [b, set]
  | .tagOneCopy _ => s
  | .tagBothCopies set => (s.leave 0x0E0C 4 [b, set]).bankEvent b
  | .twoSymbols la =>
    let k := s.bank b
    if bankOf la = b ∧ k.holds la then
      let dirty := k.isDirty la
      let s : State := { s.setBank b (k.drop la) with mc := { (s.setBank b (k.drop la)).mc with uncorrectable := satAdd 32 s.mc.uncorrectable 1 } }
      let s := if dirty then
          (((s.modSeg (la / 65536) fun d => { d with restored := false }).leave 0x0E0B 2 [la, 1]).mcInvalidateSegment (la / 65536)).needSeg (la / 65536)
        else s.mcRequest ⟨0, la, 0, 0⟩
      s.bankEvent b
    else s

/-- A fill is installed in the way the tree names: a dirty victim goes to the write-back buffer; a streaming fill leaves the tree there; a write
miss writes the filled line (R359 to R361). -/
def McBank.install (k : McBank) (b : Nat) (m : McReq) (streams : Bool) : McBank :=
  let set := setOfLa m.la
  let way := plruVictim (Table.getD k.plru set 0)
  let k := match Table.find k.tags (set * 16 + way) with
    | some t => if t.valid ∧ t.dirty then k.writeBack (laOfTag b set t.tag) else k
    | none => k
  let k := { k with tags := Table.set k.tags (set * 16 + way) ⟨tagOfLa m.la, true, decide (m.kind = 1) && !k.draining⟩ }
  if streams then k else k.touch set way

/-- The victim of a fill is dirty and the write-back buffer is full: the fill waits (R360). -/
def McBank.fillWaits (k : McBank) (m : McReq) : Bool :=
  let set := setOfLa m.la
  match Table.find k.tags (set * 16 + plruVictim (Table.getD k.plru set 0)) with
  | some t => t.valid && t.dirty && decide (4 ≤ k.wbb.length)
  | none => false

/-- MC_FILL_DONE (R358, R359, R366): the fill of a bank's pending miss is checked and installed, and the requests behind it proceed; a
request may meet an error of the cache's own codes. -/
def execMcFillDone (bank : Nat) (crcOk : Bool) (err : CacheError) (s : State) : Host.Outcome State Fault Refusal :=
  if 32 ≤ bank then .next s
  else
    let k := s.bank bank
    match k.miss with
    | none => .next (s.cacheError bank err).settle
    | some m =>
      if k.fillWaits m ∧ k.en then .next s
      else
        let streams := decide (m.hint = 1) || (s.mc.trackers.any fun t => decide (t.source = m.source) && decide (t.next = m.la + 1) && decide (s.img.streamRun ≤ t.run))
        let s := if k.wbb.contains m.la then s else s.dramIssue (lineAddr m.la)
        let k := { k with miss := none }
        let s : State := if crcOk then s.setBank bank (if k.en then k.install bank m streams else k)
          else (s.setBank bank k).blockLost (m.la / 65536) (m.la % 65536)
        let s := s.cacheError bank err
        .next ((s.serveBank bank ((s.bank bank).queue.length + 1)).drainStep bank).catchUp.settle

/-- MC_WRITEBACK_DONE (R360, R365): the oldest write of a bank's write-back buffer completes; a head that waits for the entry is served, a drain goes on. -/
def execMcWritebackDone (bank : Nat) (s : State) : Host.Outcome State Fault Refusal :=
  let k := s.bank bank
  match k.wbb with
  | [] => .next s
  | la :: rest => .next ((((s.dramIssue (lineAddr la)).setBank bank { k with wbb := rest }).serveBank bank (k.queue.length + 1)).drainStep bank).settleFront

/-- MC_DISABLE_REQUEST (R365): the fault sequencer or the self-test asks for banks to be disabled. -/
def execMcDisableRequest (banks : List Nat) (s : State) : Host.Outcome State Fault Refusal :=
  .next ((banks.filter (· < 32)).foldl State.disableBank s).settleFront

/-- A request to enable a bank: it ends a drain or enables a disabled bank; one out of service stays so until reset (R365, R366). -/
def State.enableBank (s : State) (b : Nat) : State :=
  let k := s.bank b
  if k.out then s else s.setBank b { k with draining := false, en := true }

/-- MC_ENABLE_REQUEST (R365). -/
def execMcEnableRequest (banks : List Nat) (s : State) : Host.Outcome State Fault Refusal :=
  .next ((banks.filter (· < 32)).foldl State.enableBank s)

/-- Time 0 of a frequency change, at the round boundary after the sample: every rank's rows are closed, DRAM channels of the DMA pause, the
new rate is in force (R352, R375). -/
def State.freqChange (s : State) (rate : Nat) : State :=
  let old := s.dram.rate
  let s := s.dmaFreqPause
  let s : State := { s with dram := { s.dram with rate := rate, freqChanges := satAdd 32 s.dram.freqChanges 1,
                                                  ranks := s.dram.ranks.map fun (k, r) => (k, { r with rows := [], power := 0 }) } }
  s.leave 0x0E06 0 [old, rate]

end Sys2Proof.Machine
end

