-- ==== Sys2Proof/Machine/Rounds.lean ====
section
/-! DEFINITION. The tooth boundary (02_wheel R32, R33, R46 and the per-tooth work of every chapter), the device self-test's advance
(11_commands R280 to R282) and the local round boundary with its work. -/
namespace Sys2Proof.Machine

/-! ### The device self-test (R280 to R282) -/

/-- Every submission queue of both reins is empty: each side's tail is at its fetch point (R281). -/
def State.queuesEmpty (s : State) : Bool :=
  let empty (x : Option SqSide) : Bool := match x with | some y => decide (y.tail = y.fetch) | none => true
  s.fe.sqs.all fun (_, q) => empty q.sideA && empty q.sideB

/-- What an element of the test comes to: it has ended, it found no error that no code corrects, it was the last of its segment. -/
structure TestStep where
  done : Bool
  ok : Bool
  last : Bool
  next : State

/-- Segment 1, one bank: FLUSH_BANK; it drains, is tested once it is disabled, and is enabled again; a short test passes over a bank that is not idle,
and a bank out of service is passed over (R280, R363, R365). -/
def State.testBank (s : State) (t : SelfTest) : Bool × State :=
  let k := s.bank t.element
  if k.out ∨ (!t.extended ∧ !t.asked ∧ (k.queue ≠ [] ∨ k.miss.isSome)) then (true, s)
  else if t.asked then
    if k.en then (false, s)
    else (true, { s with fe := { s.fe with test := some { t with asked := false } } }.setBank t.element { k with en := true, draining := false })
  else if k.en then (false, ({ s with fe := { s.fe with test := some { t with asked := true } } }.flushBank t.element).disableBank t.element)
  else (true, s)

/-- The blocks of which segment 6 reads a frame: one on each die in service, or every block holding data. -/
def State.testBlocks (s : State) (extended : Bool) : List Nat :=
  let held := (s.blk.recs.filter fun (b, _) => s.readable b && s.dieServes (dieOfBlk b)).map (·.1)
  if extended then held else (s.populatedDies.filter s.dieServes).filterMap fun d => held.find? fun b => dieOfBlk b = d

/-- A rein self-test within the device self-test: a trained lane without an open eye fails it. -/
def State.testRein (s : State) (r : Rein) (e : EyeFound) : Bool × State :=
  if s.reinExists r ∧ (s.port r).up then
    let s := (s.reinTest r e).healthCheck r
    (decide ((s.port r).selftest ≠ 3), s)
  else (true, s)

/-- Engines and core pairs whose known-answer vectors fail leave service (R297, R337). -/
def State.testEngines (s : State) (f : TestFound) : State :=
  let s := (f.failedCompressors.filter s.skv.comps.contains).foldl (fun s e => s.skiverLost 0 e) s
  let s := (f.failedDecompressors.filter s.skv.decomps.contains).foldl (fun s e => s.skiverLost 1 e) s
  (f.failedPairs.filter s.cipher.pairs.contains).foldl State.pairLost s

/-- One element of the segment that runs. A frame of segment 6 is a patrol read, and waits for a PATROL slot of its die (R63) (DESIGN CHOICE, log 56). -/
def State.testElement (s : State) (t : SelfTest) (f : TestFound) : TestStep :=
  match t.segment with
  | 1 =>
    if t.element < 32 then let (d, s) := s.testBank t; { done := d, ok := f.ok, last := false, next := s }
    else { done := true, ok := f.ok, last := true, next := s }
  | 3 =>
    let r := if t.element = 0 then Rein.a else Rein.b
    let (ok, s) := s.testRein r (if t.element = 0 then f.eyesA else f.eyesB)
    { done := true, ok := ok, last := decide (t.element = 1), next := s }
  | 4 => { done := true, ok := f.ok && f.failedCompressors.isEmpty && f.failedDecompressors.isEmpty && f.failedPairs.isEmpty, last := true, next := s.testEngines f }
  | 6 =>
    let bs := s.testBlocks t.extended
    match bs[t.element]? with
    | none => { done := true, ok := true, last := true, next := s }
    | some b =>
      if s.slotClass (dieOfBlk b) = 5 then
        let gran := s.img.memberGran (s.blkRec b).fc b 0 0 0
        let s := (s.issueRead .patrol (.sample (2 ^ 30) b) gran 8 0 0 none).count 0x043 (chOfDie (dieOfBlk b)) 1
        { done := true, ok := f.ok, last := decide (bs.length ≤ t.element + 1), next := s }
      else { done := false, ok := true, last := false, next := s }
  | _ => { done := true, ok := f.ok, last := f.last, next := s }

/-- The test advances by one element in a tooth that finds every queue empty; a failing element ends it with result 7, the end of segment 7
with result 0. -/
def State.selfTest (s : State) (f : TestFound) : State :=
  match s.fe.test with
  | none => s
  | some t =>
    if !s.queuesEmpty then s
    else
      let e := s.testElement t f
      if !e.done then e.next
      else if !e.ok then (e.next.leave 0x0B07 2 [t.segment]).endTest 7
      else if !e.last then { e.next with fe := { e.next.fe with test := some { t with element := t.element + 1, asked := false } } }
      else if 7 ≤ t.segment then e.next.endTest 0
      else { e.next with fe := { e.next.fe with test := some { t with segment := t.segment + 1, element := 0, asked := false } } }

/-! ### Waits that count each tooth (R155, R210, R273, R303) -/

/-- Sides of ended commands, and mismatch completions, whose completion queue is full. -/
def State.fullWaits (s : State) : List Rein :=
  let full (k : Nat) (r : Rein) : Bool :=
    match ((s.sq k).bind fun q => q.side r).bind fun x => s.cq x.cq with | some cq => !cq.room | none => false
  (s.fe.ready.flatMap fun t => match s.cmd t with | some c => (c.owed.filter fun (r, cid) => decide (cid < noCid) && full c.sq r).map (·.1) | none => [])
    ++ (s.fe.mismatches.filter fun m => full m.1 m.2.1).map (·.2.1)

/-- Units in admission for a cause. -/
def State.admitWaits (s : State) (cause : UnitJob → Bool) : Nat :=
  (s.fe.jobs.filter fun (t, j) => decide (j.stage = .admission) && decide (j.kind = .write) && !s.earlierWrite t j && cause j).length

/-- Units whose write counter value would reach RES_TOP. -/
def State.valueWaits (s : State) : Nat :=
  (s.fe.jobs.filter fun (_, j) => State.waitsValue j &&
    (let k := s.keySlot (((s.spaceOf j.nsx).map (·.slot)).getD 0); decide (k.resTop ≤ k.counter))).length

/-- Each wait of the tooth that ends counts on its source. -/
def State.countWaits (s : State) : State :=
  let s := s.fullWaits.foldl (fun s r => s.count 0x015 r.num 1) s
  let chain := s.admitWaits fun j => !s.chainTakes j
  let chunk := s.admitWaits fun j => (s.takeSlot j.stream j.desc.glen).isNone
  let value := s.valueWaits
  let s := if chain = 0 then s else s.count 0x052 0x7FF chain
  let s := if chunk = 0 then s else s.count 0x060 0x7FF chunk
  if value = 0 then s else s.count 0x080 0x7FF value

/-! ### The tooth boundary -/

/-- Tooth boundaries occur: the tables are in force, and no dump, hold, fault stop or crystal stop stands. -/
def State.teethPass (s : State) : Bool :=
  decide (3 < s.ts.bootStep) && s.dump.run.isNone && !s.dump.since && !s.dump.inReset && s.fault.stop.isNone && !s.wheel.stopped

/-- The PTM requester starts an exchange at LT 512 on the source in use, while the host permits it (R238). -/
def State.ptmRequest (s : State) : State :=
  if s.wheel.lt = 512 ∧ 2 ≤ s.wheel.sourceInUse ∧ s.wheel.filler = 0 then
    let r := if s.wheel.sourceInUse = 2 then Rein.a else Rein.b
    if (s.port r).ptm ∧ (s.port r).up then s.modPort r fun p => { p with ptmBusy := true } else s
  else s

/-- WT, SYS_PHASE and LT advance; LT stays at 0 through filler teeth, and after tooth 1,023 the round boundary's work is due (R32, R33, R46). -/
def WheelState.tick (w : WheelState) : WheelState :=
  let w := { w with wt := w.wt + 1, sysPhase := (w.sysPhase + 1) % 1024 }
  if 0 < w.filler then { w with filler := w.filler - 1, lt := 0 }
  else if w.lt = 1023 then ({ w with lt := 0, roundDue := true } : WheelState).slewTooth
  else ({ w with lt := w.lt + 1 } : WheelState).slewTooth

/-- The hold-up sample is taken: an active hold set is known and the main power path runs (R213). -/
def State.senseTooth (s : State) (code : Nat) : State :=
  if s.dump.active.isSome ∧ s.ts.mode ≠ 2 then s.energyTooth code else s

/-- TOOTH_BOUNDARY (R32). The tooth that follows the last one of a round opens with the local round boundary's work (log 12). -/
def execToothBoundary (senseCode : Nat) (test : TestFound) (s : State) : Host.Outcome State Fault Refusal :=
  if s.teethPass ∧ !s.wheel.roundDue then
    let filler := decide (0 < s.wheel.filler)
    let s : State := { s with wheel := s.wheel.tick.holdOn }
    let s := s.count1 0x001
    let s := if filler then s.count1 0x024 else s
    let s := (((s.countWaits.ptmRequest).senseTooth senseCode).selfTest test)
    .next (if s.wheel.roundDue ∨ s.ts.mode = 2 then s.settle else s.awlTooth.settle)
  else .next s

/-! ### The local round boundary: the wheel (R38, R45 to R49, R31) -/

/-- A configuration that waits for the boundary takes effect (R38). -/
def State.wheelApply (s : State) : State :=
  match s.wheel.next with
  | none => s
  | some c =>
    let o := s.wheel.cfg
    let s : State := { s with wheel := { s.wheel with cfg := c, next := none } }
    let s := if c.source ≠ o.source ∨ (c.source ≠ 0 ∧ (c.paceMode ≠ o.paceMode ∨ c.toothCycles ≠ o.toothCycles)) then s.wheelSource else s
    if c.station ≠ o.station ∨ c.phaseStride ≠ o.phaseStride then { s with wheel := s.wheel.comparePhase } else s

/-- A phase step that is due inserts its filler teeth (R45, R46). -/
def State.phaseStep (s : State) : State :=
  if s.wheel.stepDue then
    let k := s.wheel.lag
    let s : State := { s with wheel := { s.wheel with stepDue := false, filler := k, fillerLast := k } }
    s.leave 0x0204 0 [k]
  else s

/-- comp(T) from the reading of the round that ends, the next reading, and the corrections that follow them (R31, R38, R47 to R49). Outside LOCKED
FREQ_CORR follows comp(T) and INTEG from reset on, ACQUIRE included, until a configuration has it kept (DESIGN CHOICE, log 79). -/
def State.wheelComp (s : State) : State :=
  let comp := s.compNow
  let w := { s.wheel with comp := comp, fastRound := 0, oscTemp := if s.therm.brokenDie.contains 48 then s.wheel.oscTemp else s.therm.osc.or s.wheel.oscTemp }
  let w : WheelState := { w with clampRounds := if w.mode = .locked ∧ w.clampedRound then min 64 (w.clampRounds + 1) else 0 }
  let w := if w.mode = .locked then { w with integHist := (w.integ :: w.integHist).take 64 } else if w.keepCorr then w.steer else w.correct (comp + w.integ)
  { s with wheel := { w with clampedRound := decide (w.freqCorr.natAbs = 200000) } }

/-! ### Heartbeats and rein health (R253, R261) -/

/-- HBEAT of a rein: it toggles while the main domain runs and the rein is not in reset. -/
def State.heartbeat (s : State) (r : Rein) : State :=
  s.modPort r fun p => { p with hbeat := if p.perst ∨ s.ts.mode = 2 ∨ !s.reinExists r then false else !p.hbeat }
/-- Link recoveries of the round that ends judge the rein's health. -/
def State.reinRound (s : State) (r : Rein) : State :=
  (s.modPort r fun p => { p with recLast := p.recRound, recRound := 0 }).healthCheck r

/-! ### DRAM and flash rates, MR4, VDD_CORE (R349, R352, R389, R391) -/

/-- One rank's MR4 reading: above 85 °C the intervals halve at once; they return after two readings at or below it. -/
def State.mr4Read (s : State) (m : Mr4Reading) : State :=
  if m.ch < 8 ∧ m.rank < s.dram.ranksPer then
    let k := rankKey m.ch m.rank
    let r := s.rank k
    let s := s.modRank k fun x => { x with band := m.band }
    if m.hot then
      let s := s.modRank k fun x => { x with hot := true, cool := 0 }
      if r.hot then s else s.leave 0x0E05 0 [m.ch, m.rank, 1]
    else if r.hot then
      if 1 ≤ r.cool then (s.modRank k fun x => { x with hot := false, cool := 0 }).leave 0x0E05 0 [m.ch, m.rank, 0]
      else s.modRank k fun x => { x with cool := r.cool + 1 }
    else s
  else s

/-- The write DQ delays of the rate in force follow each rank's DQS oscillator (R353); a delay is a free value (log 5). -/
def State.dqRound (s : State) : State :=
  if s.dram.train = [] then s
  else { s with free := s.free + 1, dram := { s.dram with train := s.dram.train.map fun (i, e) =>
    (i, if i / 80 = s.dram.rate then e - bitField e 10 10 * 1024 + (Config.dqDelay i s.free).toNat * 1024 else e) } }

/-- The DRAM rate of the sampled PS, limited to the effective RATE_MAX, takes effect (R352). -/
def State.dramRound (s : State) : State :=
  let rate := max (s.img.psDramRate s.plan.ps) s.dram.rateMaxEff
  if s.plan.sampled ∧ rate ≠ s.dram.rate ∧ !s.dram.changing then s.freqChange rate else s

/-- The rate a channel takes for a wanted one: not above its ceiling; untrained, the rate in force; failed, the lowest that passed (R389). -/
def Channel.rateFor (c : Channel) (want : Nat) : Nat :=
  if c.ceiling ≤ want then c.ceiling
  else if c.trained.contains want then want
  else if c.failed.contains want then c.trained.foldl min c.ceiling
  else c.rate
/-- The flash rate of the sampled PS takes effect on a channel, with code 0x1008. -/
def State.flashRound (s : State) (c : Nat) : State :=
  let x := s.chan c
  let rate := x.rateFor (s.img.psFlashRate s.plan.ps)
  if rate = x.rate then s else (s.setChan c { x with rate := rate }).leave 0x1008 0 [x.rate, rate]
def State.flashRates (s : State) : State := if s.plan.sampled then s.channelsInService.foldl State.flashRound s else s

/-- The VDD_CORE request moves by at most one step toward the lowest code at which the speed monitors pass (R391, R459). -/
def State.vcoreRound (s : State) (pass : Nat) : State :=
  let n := s.pkg.vcoreReq
  let want := min 20 pass
  let next := if s.therm.broken.contains 1 ∨ s.ts.bootStep < 7 then 20 else if n < want then n + 1 else if want < n then n - 1 else n
  { s with pkg := { s.pkg with vcoreReq := next } }

/-! ### Free space, spare and wear (R145, R166, R172, R175, R176) -/

/-- FREE in 0.01 %. -/
def State.freeNow (s : State) : Nat := s.freeBlocks * 10000 / max 1 s.usable
/-- The largest band b of 1 to 7 with FREE below its limit plus an allowance; 0 when there is none. -/
def ImgState.bandFor (i : ImgState) (free allow : Nat) : Nat :=
  ((List.range 8).filter fun b => decide (1 ≤ b) && decide (free < i.bandLimit b + allow)).foldl max 0
/-- FREE and BAND (R172). -/
def State.freeBand (s : State) : State :=
  let free := s.freeNow
  let rise := s.img.bandFor free 0
  let fall := s.img.bandFor free s.img.bandHyst
  let band := if s.blk.band ≤ rise then rise else min s.blk.band (max rise fall)
  { s with blk := { s.blk with freePct := free, band := band } }

/-- The fast-cell target at a fullness of v / d, in 0.01 % divided by d: linear between the entries of FC_TARGET (R145). -/
def fcTargetAt (t : List Nat) (v d : Nat) : Nat :=
  let i := 16 * v / d
  let frac := 16 * v % d
  natAt t i * (d - frac) + natAt t (min 16 (i + 1)) * frac
/-- Fullness, in units of 2^-16, and the fast-cell target at its exact value (R145). -/
def State.fcRound (s : State) : State :=
  let d := max 1 (s.usable * s.img.blockGran false)
  let valid := min d ((s.blk.recs.map fun (_, r) => r.valid).sum)
  { s with map := { s.map with fullness := valid * 65536 / d, fcTarget := fcTargetAt s.img.fcTarget valid d, fcTargetDiv := d } }

/-- AVAIL (R175). -/
def State.availNow (s : State) : Nat :=
  match s.blk.u0 with
  | none => s.blk.avail
  | some u0 =>
    let spare := if s.img.spareBase = 0 then u0 * 25 / 32 else s.img.spareBase
    if u0 ≤ spare then min 100 (Config.availDegenerate s.usable u0 spare) else min 100 (100 * (s.usable - spare) / (u0 - spare))
/-- AVAIL is compared with its threshold, and with 0 (R176). -/
def State.spareCheck (s : State) : State :=
  let avail := s.availNow
  let was := s.blk.spareLow
  let ro := s.blk.readOnly
  let s : State := { s with blk := { s.blk with avail := avail, spareLow := decide (avail < 10), readOnly := decide (avail = 0) } }
  let s := if avail < 10 ∧ !was then (s.leave 0x0706 3 [avail]).smartEvent 0 2 else s
  if avail = 0 ∧ !ro then (s.leave 0x0707 3 []).smartEvent 3 0 else s

/-- A die whose lowest free bucket lies WEAR_GAP above its lowest closed one gets a wear victim (R166). -/
def State.wearVictim (s : State) (d : Nat) : State :=
  let l := s.lists d
  match l.wear, s.normalList d false, (l.closed.filter fun (_, x) => x ≠ []).head? with
  | none, some f, some (c, b :: _) =>
    if c + s.img.wearGap ≤ f ∧ (s.blkRec b).forced = 0 then
      let s := (s.force b 5).modLists d fun l => { l with wear := some b }
      s.leave 0x0705 0 [d, b % 65536, f - c]
    else s
  | _, _, _ => s
def State.wearVictims (s : State) : State := (s.populatedDies.filter s.dieServes).foldl State.wearVictim s

/-! ### The layout switch (R203, R204) -/

/-- A block taken for a set that does not open returns to its die's pool: at once, or by the erase whose intent stands (DEDUCED, log 86). -/
def State.untake (s : State) (b : Nat) : State :=
  if (s.blkRec b).intent then s.modBlk b fun r => { r with mode := .eraseWait, walked := true }
  else (s.modBlk b fun r => { r with mode := .free, stream := 0 }).freeBlock b
/-- A set that waits at a floor is not opened in the old width: its stream opens one of the new width (R203 step 3). -/
def State.dropTaking (s : State) (n : Nat) : State :=
  if (s.stream n).floorDie.isSome then
    (s.stream n).taken.foldl State.untake (s.modStream n fun x => { x with taken := [], floorDie := none })
  else s
/-- Sets of another width that no evacuation holds yet. -/
def State.otherWidth (s : State) (w : Nat) : List Nat :=
  (s.girth.sets.filter fun (k, r) => decide (r.state ≠ 0) && decide (r.w ≠ w) && !s.girth.rebuilding.contains k && !s.girth.reshaping.contains k).map (·.1)

/-- A switch that is due: the LAYOUT entry, the filling sets end with reason 2, and sets of another width go to the reshape list. -/
def State.layoutRound (s : State) : State :=
  match s.girth.switch with
  | none => s
  | some (w, reason) =>
    let old := s.girth.w
    let s := (s.ledger (.layout old w reason 0) false).leave 0x0808 2 [old, w, reason]
    let s := (s.girth.streams.filterMap (·.set)).foldl (fun s k => s.endSetNow k 2) s
    let s := (List.range 7).foldl State.dropTaking s
    let s : State := { s with girth := { s.girth with w := w, opened := 0, switch := none, lastLayout := some (old, w, reason, 0), reshape := s.otherWidth w } }
    let s : State := if s.girth.reshape = [] then s else { s with girth := { s.girth with rb := true } }
    ((List.range 4).foldl (fun s h => s.fdpEvent 0x81 h) s).rebuildCheck

/-! ### The boundary -/

/-- Timeouts and status failures older than 64 rounds no longer count, and a die without any leaves WATCH (R96). -/
def Die.roundEnds (d : Die) (round : Nat) : Die :=
  let d := { d with timeouts := d.timeouts.filter (fun r => round < r + 64), failRounds := d.failRounds.filter (fun (_, r) => round < r + 64) }
  { d with mode := if d.mode = .watch ∧ d.timeouts = [] ∧ d.failRounds = [] then .active else d.mode }
def State.dieRounds (s : State) : State := { s with awl := { s.awl with dies := s.awl.dies.map fun (n, d) => (n, d.roundEnds s.obs.rounds) } }

/-- A floor of 4 has L1 commanded once the PS 4 plan runs; the links leave L1 when the plan of another state does (R383). -/
def State.floorLinks (s : State) : State :=
  if s.fe.ps4 = 0 then (if s.plan.ps = 4 ∧ s.plan.pendingNo = none then s.sleepLinks else s.wakeLinks) else s

/-- The round's work on the plan selector, DRAM and channels, and on the blocks once step 5 of R229 has formed their state. -/
def State.mediaRound (s : State) : State :=
  let s := ((s.dramRound.flashRates).planSwap).floorLinks
  if 6 ≤ s.dump.step then (s.layoutRound.freeBand.fcRound.spareCheck).wearVictims else s

/-- LOCAL_ROUND_BOUNDARY (R33): the work of a round that begins; its tooth 0 then opens on the dies (DEDUCED, log 12). -/
def execLocalRoundBoundary (mr4 : List Mr4Reading) (vcorePass : Nat) (s : State) : Host.Outcome State Fault Refusal :=
  if s.teethPass ∧ s.wheel.roundDue then
    let s : State := { s with wheel := { s.wheel with roundDue := false }, obs := { s.obs with rounds := s.obs.rounds + 1 }, map := { s.map with poolTold := false } }
    let s := s.count1 0x002
    let s : State := { s with obs := { s.obs with spent := refillTokens s.img s.obs.rounds s.obs.spent } }
    let s := (s.wheelApply.wheelComp).phaseStep
    let s := (s.heartbeat .a).heartbeat .b |>.dieRounds
    let s := if s.reinExists .b then (s.reinRound .a).reinRound .b else s.reinRound .a
    let s := ((mr4.foldl State.mr4Read s).dqRound).vcoreRound vcorePass
    if s.wheelRuns ∧ 7 < s.ts.bootStep then .next (s.mediaRound.awlTooth).settle else .next s.settleFront
  else .next s

end Sys2Proof.Machine
end

