-- ==== Sys2Proof/Machine/Spaces.lean ====
section
/-! DEFINITION. Namespaces (06_map R131, R132, R139, 11_commands R262, 12_cipher R293), Device Self-test (R280 to R282), Format NVM, Sanitize
(R262, R312, R152) and Get LBA Status. The entries' fields are NVMe's (log 7). -/
namespace Sys2Proof.Machine

/-! ### Namespace Management (R131, R132, R262, R293) -/

/-- Units of commands on a namespace that have not ended fail with a status. -/
def State.failSpaceUnits (s : State) (nsx : Nat) (r : CmdResult) : State :=
  ((s.fe.jobs.filter fun (_, j) => j.tag.isSome && decide (j.nsx = nsx)).map (·.1)).foldl (fun s t => s.jobFails t r) s

/-- Lowest NSX that no namespace has and no open secure-discard job names. -/
def State.freeNsx (s : State) : Option Nat :=
  (List.range 1024).find? fun n => !(s.fe.spaces.any fun (_, x) => decide (x.nsx = n)) && !(s.map.jobs.any fun j => j.isOpen && decide (j.nsx = n))
/-- Lowest NSID of 1 to 1,024 that is free (DESIGN CHOICE, log 41). -/
def State.freeNsid (s : State) : Option Nat := ((List.range 1024).map (· + 1)).find? fun n => (Table.find s.fe.spaces n).isNone

/-- The slot of a new namespace has a key: an empty one takes a label of purpose DATA; one that is being erased takes it once it is empty
(R293, R471). -/
def State.labelNew (s : State) (n : Nat) : State :=
  if (s.keySlot n).revoking then
    { s with cipher := { s.cipher with erasing := s.cipher.erasing.map fun e => if e.slot = n ∧ e.again.isNone then { e with again := some (dataLabel n) } else e } }
  else if (s.keySlot n).kind = 0 then s.labelEmpty n (dataLabel n)
  else s

/-- The format and protection of a namespace that is to be created or formatted: a format of R139, and protection only where the format has
room for it. -/
def formatOk (lbaf pi : Nat) : Bool := decide (lbaf ≤ 3) && (decide (pi = 0) || decide (lbaf = 2) || decide (lbaf = 3))
/-- Directories of so many entries fit in the area beside those in use (R131). -/
def State.dirsFit (s : State) (freed wanted : Nat) : Bool := decide (s.dirsUsed - freed + wanted ≤ 1048576)

/-- NAMESPACE_CREATE. -/
def execNamespaceCreate (tag : Nat) (spec : NsCreate) (s : State) : Host.Outcome State Fault Refusal :=
  .next (s.begin tag true 0x0D (fun c => decide (bitField (dw c.entry 10) 0 4 = 0)) fun s c =>
    if !formatOk (spec.flbas % 16) spec.piType then s.finish tag (stat 1 0x0A)
    else if 3 < spec.piType ∨ spec.nsze = 0 ∨ 4 < spec.handles.length ∨ spec.handles.any (3 < ·) then s.malformed tag c invalidField
    else if !s.dirsFit 0 (dirEntries spec.nsze spec.flbas) then s.finish tag (stat 1 0x15)
    else
      match s.freeNsx, s.freeNsid with
      | some nsx, some nsid =>
        let n : Namespace := { nsx := nsx, nsze := spec.nsze, flbas := spec.flbas % 32, piType := spec.piType, handles := spec.handles, attached := [], slot := nsx, padMode := 0 }
        let s : State := { s with fe := { s.fe with spaces := Table.set s.fe.spaces nsid n } }
        (s.labelNew nsx).finish tag (okDw0 nsid)
      | _, _ => s.finish tag (stat 1 0x16))

/-- One namespace is deleted: a self-test of it ends, its units in progress fail, its segments return; a secure-discard job that covers it and
its key slot go on. -/
def State.deleteSpace (s : State) (nsid : Nat) (n : Namespace) : State :=
  let s := if (s.fe.test.map (·.nsid)) = some nsid then s.endTest 3 else s
  let s := (s.failSpaceUnits n.nsx (stat 0 0x0B)).unmapSpace n.nsx
  { s with fe := { s.fe with spaces := Table.del s.fe.spaces nsid } }

/-- NAMESPACE_DELETE: one namespace, or every one. -/
def execNamespaceDelete (tag : Nat) (s : State) : Host.Outcome State Fault Refusal :=
  .next (s.begin tag true 0x0D (fun c => decide (bitField (dw c.entry 10) 0 4 = 1)) fun s c =>
    if sqeNsid c.entry = broadcast then ((s.fe.spaces.foldl (fun s (i, n) => s.deleteSpace i n) s).finish tag ok).settle
    else
      match Table.find s.fe.spaces (sqeNsid c.entry) with
      | some n => ((s.deleteSpace (sqeNsid c.entry) n).finish tag ok).settle
      | none => s.malformed tag c (stat 0 0x0B))

/-- A list of controllers that exist. -/
def State.ctrlsOk (s : State) (ctrls : List Nat) : Bool := decide (ctrls ≠ []) && ctrls.all s.controllers.contains
/-- Namespace Attachment on the namespace of NSID. -/
def State.attachCmd (s : State) (tag sel : Nat) (ctrls : List Nat) (f : Nat → Namespace → State → State) : State :=
  s.begin tag true 0x15 (fun c => decide (bitField (dw c.entry 10) 0 4 = sel)) fun s c =>
    match Table.find s.fe.spaces (sqeNsid c.entry) with
    | none => s.malformed tag c (stat 0 0x0B)
    | some n => if s.ctrlsOk ctrls then f (sqeNsid c.entry) n s else s.finish tag (stat 1 0x1C)
/-- The controllers a namespace is attached to. -/
def State.setAttached (s : State) (nsid : Nat) (n : Namespace) (xs : List Nat) : State :=
  { s with fe := { s.fe with spaces := Table.set s.fe.spaces nsid { n with attached := xs } } }

/-- NAMESPACE_ATTACH. -/
def execNamespaceAttach (tag : Nat) (ctrls : List Nat) (s : State) : Host.Outcome State Fault Refusal :=
  .next (s.attachCmd tag 0 ctrls fun nsid n s =>
    if ctrls.any n.attached.contains then s.finish tag (stat 1 0x18)
    else (s.setAttached nsid n (n.attached ++ ctrls.eraseDups)).finish tag ok)
/-- NAMESPACE_DETACH. -/
def execNamespaceDetach (tag : Nat) (ctrls : List Nat) (s : State) : Host.Outcome State Fault Refusal :=
  .next (s.attachCmd tag 1 ctrls fun nsid n s =>
    if !ctrls.all n.attached.contains then s.finish tag (stat 1 0x1A)
    else (s.setAttached nsid n (n.attached.filter fun x => !ctrls.contains x)).finish tag ok)

/-! ### Device Self-test (R280 to R282) -/

/-- The command's STC. -/
def isStc (n : Nat) (c : Cmd) : Bool := decide (bitField (dw c.entry 10) 0 4 = n)
/-- A test begins, unless one runs. -/
def State.beginTest (s : State) (tag : Nat) (extended : Bool) : State :=
  s.begin tag true 0x14 (isStc (if extended then 2 else 1)) fun s c =>
    let nsid := sqeNsid c.entry
    if s.fe.test.isSome then s.finish tag (stat 1 0x1D)
    else if nsid ≠ 0 ∧ nsid ≠ broadcast ∧ (s.attachedSpace c.ctrl nsid).isNone then s.malformed tag c (stat 0 0x0B)
    else
      let t : SelfTest := { extended := extended, ctrl := c.ctrl, rein := c.port.rein, nsid := nsid, segment := 1, element := 0 }
      let s : State := { s with fe := { s.fe with test := some t } }
      (s.leave 0x0B06 0 [if extended then 2 else 1, Config.selfTestBegunResult]).finish tag ok
/-- SELF_TEST_SHORT. -/
def execSelfTestShort (tag : Nat) (s : State) : Host.Outcome State Fault Refusal := .next (s.beginTest tag false)
/-- SELF_TEST_EXTENDED. -/
def execSelfTestExtended (tag : Nat) (s : State) : Host.Outcome State Fault Refusal := .next (s.beginTest tag true)
/-- SELF_TEST_ABORT. -/
def execSelfTestAbort (tag : Nat) (s : State) : Host.Outcome State Fault Refusal :=
  .next (s.begin tag true 0x14 (isStc 15) fun s _ => (s.endTest 1).finish tag ok)

/-! ### Format NVM (R131, R139, R262, R312) -/

/-- LBA format, metadata form and protection of CDW10, and SES. -/
def fmtLbaf (c : Cmd) : Nat := bitField (dw c.entry 10) 0 4
def fmtFlbas (c : Cmd) : Nat := fmtLbaf c + 16 * bitField (dw c.entry 10) 4 1
def fmtPi (c : Cmd) : Nat := bitField (dw c.entry 10) 5 3
def fmtSes (c : Cmd) : Nat := bitField (dw c.entry 10) 9 3

/-- The namespaces that a format names: one, or every one of the controller. -/
def State.formatSpaces (s : State) (c : Cmd) : Table Namespace :=
  (if s.ts.mode = 2 then [] else s.fe.spaces).filter fun (i, n) => n.attached.contains c.ctrl && (decide (sqeNsid c.entry = broadcast) || decide (sqeNsid c.entry = i))
/-- Their formats change; NSZE stays in blocks (log 42). -/
def State.setFormats (s : State) (c : Cmd) (xs : Table Namespace) : State :=
  xs.foldl (fun s (i, n) => { s with fe := { s.fe with spaces := Table.set s.fe.spaces i { n with flbas := fmtFlbas c, piType := fmtPi c } } }) s

/-- The checks that Format NVM makes, and what it does when they pass (DEDUCED, log 42). -/
def State.formatCmd (s : State) (tag : Nat) (c : Cmd) (f : Table Namespace → State → State) : State :=
  let xs := s.formatSpaces c
  let old := (xs.map fun (_, n) => dirEntries n.nsze n.flbas).sum
  let new := (xs.map fun (_, n) => dirEntries n.nsze (fmtFlbas c)).sum
  if xs = [] ∧ sqeNsid c.entry ≠ broadcast then s.malformed tag c (stat 0 0x0B)
  else if s.fe.sanitize.isSome then s.finish tag sequenceError
  else if !formatOk (fmtLbaf c) (fmtPi c) then s.finish tag (stat 1 0x0A)
  else if 3 < fmtPi c then s.malformed tag c invalidField
  else if !s.dirsFit old new then s.finish tag (stat 1 0x15)
  else f xs s

/-- A format begins: a self-test ends, the namespaces' units in progress are interrupted, the formats change. -/
def State.formatBegins (s : State) (c : Cmd) (xs : Table Namespace) (r : CmdResult) : State :=
  (xs.foldl (fun s (_, n) => s.failSpaceUnits n.nsx r) (s.endTest 4)).setFormats c xs

/-- FORMAT_NVM_ERASE (SES 0 and 1): every unit is unmapped, and every block that holds data of the namespace is erased before completion. -/
def execFormatNvmErase (tag : Nat) (s : State) : Host.Outcome State Fault Refusal :=
  .next (s.begin tag true 0x80 (fun c => decide (fmtSes c ≤ 1)) fun s c =>
    s.formatCmd tag c fun xs s =>
      let mine (nsx : Nat) : Bool := xs.any fun (_, n) => n.nsx = nsx
      let s := s.formatBegins c xs (stat 0 0x21)
      let blocks := s.spaceBlocks mine
      let s := (xs.foldl (fun s (_, n) => s.unmapSpace n.nsx) s).dropPlacement mine blocks
      ({ s with fe := { s.fe with formats := s.fe.formats ++ [⟨tag, blocks, [], false⟩] } } : State).settle)

/-- A derived slot is erased and derived again with a new SALT; an erase that runs takes the label too (R311, R312). -/
def State.freshSlot (s : State) (slot : Nat) (again : Option (BitVec 256)) : State :=
  if (s.keySlot slot).revoking then
    { s with cipher := { s.cipher with erasing := s.cipher.erasing.map fun e => if e.slot = slot then { e with again := again } else e } }
  else s.revoke slot [] again

/-- FORMAT_NVM_CRYPTO (SES 2). -/
def execFormatNvmCrypto (tag : Nat) (s : State) : Host.Outcome State Fault Refusal :=
  .next (s.begin tag true 0x80 (fun c => decide (fmtSes c = 2)) fun s c =>
    s.formatCmd tag c fun xs s =>
      if xs.any fun (_, n) => decide ((s.keySlot n.slot).kind = 2) || decide (4096 ≤ n.slot) then s.finish tag invalidField
      else
        let slots := (xs.map fun (_, n) => n.slot).eraseDups
        let s := s.formatBegins c xs (stat 7 0xC3)
        let s := slots.foldl (fun s k => s.freshSlot k (if (s.keySlot k).kind = 1 then some (s.keySlot k).label else none)) s
        ({ s with fe := { s.fe with formats := s.fe.formats ++ [⟨tag, [], slots, true⟩] } } : State).settle)

/-! ### Sanitize (R152, R176, R262, R312) -/

/-- A sanitize begins: none runs, the self-test ends, units in progress end, and the command completes; the operation goes on (DEDUCED, log 58). -/
def State.beginSanitize (s : State) (tag act : Nat) (r : CmdResult) (f : State → State) : State :=
  s.begin tag true 0x84 (fun c => decide (bitField (dw c.entry 10) 0 3 = act)) fun s _ =>
    if s.fe.sanitize.isSome then s.finish tag sequenceError
    else
      let s := s.fe.spaces.foldl (fun s (_, n) => s.failSpaceUnits n.nsx r) (s.endTest 9)
      let s : State := { s with fe := { s.fe with sanitizeStatus := 2 } }
      ((f s).finish tag ok).settle

/-- SANITIZE_BLOCK_ERASE: every unit is unmapped, and every block with data is erased. -/
def execSanitizeBlockErase (tag : Nat) (s : State) : Host.Outcome State Fault Refusal :=
  .next (s.beginSanitize tag 2 (stat 0 0x21) fun s =>
    let blocks := s.dataBlocks
    let s := (s.fe.spaces.foldl (fun s (_, n) => s.unmapSpace n.nsx) s).dropPlacement (fun _ => true) blocks
    { s with fe := { s.fe with sanitize := some ⟨false, blocks, false⟩ } })

/-- The owner root key is discarded: the root is the fuse root again, and the ROOT record is erased (R290, R416). -/
def State.dropRoot (s : State) : State :=
  if s.cipher.owner.isNone then s
  else
    let s := s.setRoot none
    let q : TsState := { s.ts with queue := s.ts.queue.filter fun op => match op.kind with | .append _ r => !r.ofSlot 0x1FFF | _ => true }
    let (sectors, t) := q.purge 0x1FFF
    let e : EraseRun := { slot := 0x1FFF, tags := [], left := sectors, total := sectors.length, again := none }
    { s with ts := t, cipher := { s.cipher with erasing := s.cipher.erasing ++ (if sectors = [] then [] else [e]) } }
/-- Slots that hold a DATA key. -/
def State.dataSlots (s : State) : List Nat := (s.cipher.slots.filter fun (_, k) => decide (k.kind ≠ 0) && decide (k.purpose = 1)).map (·.1)

/-- SANITIZE_CRYPTO_ERASE (R312): the root, then every DATA slot; a derived one that serves a namespace is derived again. -/
def execSanitizeCryptoErase (tag : Nat) (s : State) : Host.Outcome State Fault Refusal :=
  .next (s.beginSanitize tag 4 (stat 7 0xC3) fun s =>
    let s := s.dropRoot
    let slots := s.dataSlots
    let s := slots.foldl (fun s k => s.freshSlot k (if (s.keySlot k).kind = 1 ∧ (s.boundTo k).isSome then some (s.keySlot k).label else none)) s
    { s with fe := { s.fe with sanitize := some ⟨true, 0x1FFF :: slots, false⟩ } })

/-- SANITIZE_EXIT_FAILURE: the failure state ends. -/
def execSanitizeExitFailure (tag : Nat) (s : State) : Host.Outcome State Fault Refusal :=
  .next (s.begin tag true 0x84 (fun c => decide (bitField (dw c.entry 10) 0 3 = 1)) fun s _ =>
    if s.fe.sanitize.isSome then s.finish tag sequenceError
    else ({ s with fe := { s.fe with sanitizeFailed := false, sanitizeStatus := if s.fe.sanitizeFailed then 0 else s.fe.sanitizeStatus } } : State).finish tag ok)

/-- SANITIZE_OVERWRITE: not supported. -/
def execSanitizeOverwrite (tag : Nat) (s : State) : Host.Outcome State Fault Refusal :=
  .next (s.begin tag true 0x84 (fun c => decide (bitField (dw c.entry 10) 0 3 = 3)) fun s _ => s.finish tag invalidField)

/-! ### Get LBA Status (R262) -/

/-- Units of a namespace whose map entry has UNC set. -/
def State.uncUnitsOf (s : State) (nsx : Nat) : List Nat :=
  (s.map.entries.filterMap fun (k, e) =>
    let d := s.seg (k / 1048576)
    if e.unc ∧ d.alloc ∧ !d.tagKind ∧ d.nsx = nsx then some (d.dirPos * 655360 + k % 1048576) else none)

/-- The list of a namespace: one descriptor a unit of the range, in order, as many as the host takes; the header counts them and says whether
the range or the data length ended the list. -/
def State.lbaStatusList (s : State) (c : Cmd) (n : Namespace) : List Byte :=
  let slba := dw c.entry 10 + 2 ^ 32 * dw c.entry 11
  let room := 4 * (dw c.entry 12 + 1)
  let len := bitField (dw c.entry 13) 0 16
  let top := if len = 0 then n.nsze else min n.nsze (slba + len)
  let all := (s.uncUnitsOf n.nsx).filter fun u => decide (slba < (u + 1) * n.perUnit) && decide (u * n.perUnit < top)
  let us := all.take ((room - 8) / 16)
  (toBytes 8 (us.length + 2 ^ 32 * (if us.length < all.length then 1 else 2)) ++ us.flatMap fun u => toBytes 16 (u * n.perUnit + 2 ^ 64 * n.perUnit)).take room

/-- GET_LBA_STATUS. -/
def execGetLbaStatus (tag : Nat) (s : State) : Host.Outcome State Fault Refusal :=
  .next (s.begin tag true 0x86 (fun _ => true) fun s c =>
    match s.attachedSpace c.ctrl (sqeNsid c.entry) with
    | none => s.malformed tag c (stat 0 0x0B)
    | some n =>
      if n.nsze ≤ dw c.entry 10 + 2 ^ 32 * dw c.entry 11 then s.malformed tag c (stat 0 0x80) else s.answer tag (s.lbaStatusList c n))

end Sys2Proof.Machine
end

