-- ==== Sys2Proof/Machine/Faults.lean ====
section
/-! DEFINITION. The fault sequencer (20_faults R443 to R454): arrival of a report, the handling steps, preemption and overflow, fatal
handling, and the detections of the reserve domain that enter fault stop. -/
namespace Sys2Proof.Machine

/-! ### The queue (R447, R448) -/

/-- The overflow report of R448. -/
def overflowReport : Report := { code := 0x0102, sev := 3, steps := 0 }
/-- It stands latched and has not been taken. -/
def FaultState.overflowWaits (f : FaultState) : Bool :=
  f.overflow && decide ((f.inHand.map (·.code)) ≠ some 0x0102) && !(f.preempted.any fun r => decide (r.code = 0x0102))

/-- Highest severity that waits, in the queue, preempted or latched. -/
def FaultState.topSev (f : FaultState) : Nat :=
  ((f.queue ++ f.preempted ++ (if f.overflowWaits then [overflowReport] else [])).map (·.sev)).foldl max 0

/-- The report that is taken next, with the state that no longer holds it: the highest severity; of equals the latched overflow report, then
a preempted one, then the oldest of the queue. -/
def FaultState.next (f : FaultState) : Option (Report × FaultState) :=
  let top := f.topSev
  if top = 0 then none
  else if top = 3 ∧ f.overflowWaits then some (overflowReport, f)
  else
    match f.preempted.find? fun r => r.sev = top with
    | some r => some (r, { f with preempted := f.preempted.erase r })
    | none => (f.queue.find? fun r => r.sev = top).map fun r => (r, { f with queue := f.queue.erase r })

/-- The newest report of a severity leaves the queue. -/
def dropNewest (sev : Nat) (q : List Report) : List Report :=
  match q.reverse.find? fun r => r.sev = sev with
  | some r => (q.reverse.erase r).reverse
  | none => q

/-! ### Fatal handling (R450) -/

/-- A command's status is fixed by fatal handling: one that is reserved keeps its own, a write all of whose units have passed step 4 its success,
any other takes 0:0x06. -/
def State.fatalCmd (s : State) (tag : Nat) : State :=
  match s.cmd tag with
  | none => s
  | some c =>
    if c.reserved then s
    else
      match c.result with
      | some r =>
        if !c.admin ∧ sqeOpc c.entry = 0x01 ∧ r.sct = 0 ∧ r.sc = 0 then s
        else s.modCmd tag fun c => { c with result := some (stat 0 0x06) }
      | none => (c.units.foldl State.dropJob s).finish tag (stat 0 0x06)

/-- A report of severity 4 is taken: steps 1 and 2 at once, then fatal handling; a second one that waits enters fault stop (R445, R451). -/
def State.beginFatal (s : State) (r : Report) : State :=
  let s : State := { s with fault := { s.fault with count4 := satAdd 32 s.fault.count4 1, fatal := some r.code, inHand := some { r with steps := 2 }, preempt := false },
                            fe := { s.fe with stopped := true, aers := [] } }
  let s := (s.count1 0x0D2).leave 0x0104 4 [r.code, s.fe.cmds.length]
  let s := (s.fe.cmds.map (·.1)).foldl State.fatalCmd s
  match s.fault.next with
  | some (x, _) => if x.sev = 4 then s.enterFaultStop x.code 1 else s
  | none => s

/-! ### Taking and handling a report (R445 to R447) -/

/-- The sequencer, free, takes the next report. -/
def State.takeReport (s : State) : State :=
  match s.fault.next with
  | none => { s with fault := { s.fault with inHand := none, preempt := false } }
  | some (r, f) =>
    let s : State := { s with fault := { f with inHand := some r, preempt := false } }
    if r.sev = 4 then s.beginFatal r else s

/-- The effect of a handling step at its end. -/
def State.reportStep (s : State) (r : Report) (step : Nat) : State :=
  match step with
  | 1 =>
    if r.sev = 2 then ({ s with fault := { s.fault with count2 := satAdd 32 s.fault.count2 1 } } : State).count1 0x0D0
    else ({ s with fault := { s.fault with count3 := satAdd 32 s.fault.count3 1 } } : State).count1 0x0D1
  | 3 =>
    if s.fault.degraded then s else ({ s with fault := { s.fault with degraded := true } } : State).smartEvent 2 0
  | 4 => ((s.enabledPorts.map (·.1)).eraseDups).foldl (fun s c => s.addError c 0xFFFF 0xFFFF (statusWord (stat 0 0x06)) 0 0 r.code) s
  | 5 => s.vendorEvent 0x01 0xC3
  | _ => s

/-- Steps of a handling. -/
def Report.allSteps (r : Report) : Nat := if r.sev = 2 then 2 else 5

/-- A handling has ended; that of 0x0102 writes its record and releases the latch (R448). -/
def State.reportEnds (s : State) (r : Report) : State :=
  let s : State := { s with fault := { s.fault with inHand := none } }
  if r.code = 0x0102 then
    let s := s.recordEvent 0x0102 3 [s.fault.lost, s.fault.lastDropped]
    ({ s with fault := { s.fault with overflow := false } } : State).takeReport
  else s.takeReport

/-- FAULT_STEP_DONE: the step's effect; then the handling ends, a report of higher severity preempts it, or its next step begins (DEDUCED, log 61). -/
def execFaultStepDone (s : State) : Host.Outcome State Fault Refusal :=
  if s.fault.stop.isSome ∨ s.fault.fatal.isSome ∨ s.dump.run.isSome ∨ s.dump.inReset then .next s
  else
    match s.fault.inHand with
    | none => .next s
    | some r =>
      let s := s.reportStep r (r.steps + 1)
      let r := { r with steps := r.steps + 1 }
      if r.allSteps ≤ r.steps then .next (s.reportEnds r).settle
      else if r.sev < s.fault.topSev then
        .next ({ s with fault := { s.fault with inHand := none, preempted := s.fault.preempted ++ [r] } } : State).takeReport.settle
      else .next ({ s with fault := { s.fault with inHand := some r } } : State).settleFront

/-! ### Arrival of a report (R444, R447, R448) -/

/-- A report is lost: LOST rises, and fault stop is entered or the overflow report latched. -/
def State.loseReport (s : State) (r : Report) : State :=
  let s : State := { s with fault := { s.fault with lost := satAdd 32 s.fault.lost 1, lastDropped := r.sev } }
  let s := s.count1 0x0D3
  if r.sev = 4 ∨ s.fault.fatal.isSome then s.enterFaultStop r.code 2
  else { s with fault := { s.fault with overflow := true } }

/-- A report joins the queue of 16, or overflows. -/
def State.queueReport (s : State) (r : Report) : State :=
  let q := s.fault.queue
  if q.length < 16 then { s with fault := { s.fault with queue := q ++ [r] } }
  else
    let low := (q.map (·.sev)).foldl min 4
    if low < r.sev then
      match q.reverse.find? fun x => x.sev = low with
      | some x => ({ s with fault := { s.fault with queue := dropNewest low q ++ [r] } } : State).loseReport x
      | none => s.loseReport r
    else s.loseReport r

/-- A report reaches the sequencer: while a dump runs, or when the sequencer stands, in fatal handling, and otherwise. -/
def State.arrive (s : State) (r : Report) : State :=
  if s.dump.run.isSome then
    if r.sev = 4 then { s with fault := { s.fault with dumpFatal := s.fault.dumpFatal.or (some r.code) } } else s.queueReport r
  else if s.fault.fatal.isSome ∧ r.sev = 4 then s.enterFaultStop r.code 1
  else
    let s := s.queueReport r
    if s.fault.stop.isSome ∨ s.fault.fatal.isSome then s
    else
      match s.fault.inHand with
      | none => s.takeReport
      | some h => { s with fault := { s.fault with preempt := decide (h.sev < s.fault.topSev) } }

/-- FAULT_REPORT (R444). Before step 7 of R418 a report that names a halter reason enters halter mode (DEDUCED, log 21). -/
def execFaultReport (code sev : Nat) (s : State) : Host.Outcome State Fault Refusal :=
  if sev < 2 ∨ 4 < sev ∨ s.fault.stop.isSome ∨ s.dump.inReset then .next s
  else
    let s : State := { s with fault := { s.fault with made := s.fault.made.erase (code, sev) } }
    if code = 0x0E09 ∧ sev = 4 ∧ s.ts.bootStep < 7 then .next (s.enterHalterLate 8).settleFront
    else .next (s.arrive { code := code, sev := sev, steps := 0 }).settle

/-- FATAL_COMPLETIONS_WRITTEN (R450): fatal handling reaches its last step. -/
def execFatalCompletionsWritten (s : State) : Host.Outcome State Fault Refusal :=
  match s.fault.fatal with
  | some c => if s.fault.stop.isNone then .next (s.enterFaultStop c 0).arrayPump else .next s
  | none => .next s

/-! ### The reserve domain's detections (R449, R452) -/

/-- CRYSTAL_STOP_DETECT: code 0x020A; the main domain stops, and fault stop is entered. -/
def execCrystalStopDetect (s : State) : Host.Outcome State Fault Refusal :=
  if s.wheel.stopped ∨ s.ts.bootStep = 0 ∨ s.dump.inReset then .next s
  else
    let s := s.recordEvent 0x020A 4 []
    .next (({ s with wheel := { s.wheel with stopped := true } } : State).enterFaultStop 0x020A 3).arrayPump

/-- MAIN_DOMAIN_STALL: no tooth boundary within twice the nominal tooth while boundaries are due. -/
def execMainDomainStall (s : State) : Host.Outcome State Fault Refusal :=
  if s.teethPass then .next (((s.recordEvent 0x0103 4 [s.wheel.lt]).enterFaultStop 0x0103 3)).arrayPump else .next s

/-- VDD_IO_FALL (R463): the power-on reset of a device whose supply went. -/
def execVddIoFall (s : State) : Host.Outcome State Fault Refusal :=
  if s.pkg.vddIo then
    let s := s.powerOnReset true
    .next { s with pkg := { s.pkg with vddIo := false } }
  else .next s

end Sys2Proof.Machine
end

