-- ==== Sys2Proof/Machine/Flash.lean ====
section
/-! DEFINITION. Meanings of the die and codec steps (03_stitch_plans, 04_awls, 05_frames_and_ldpc). A step that does not apply to the
state leaves it unchanged (log 1). -/
namespace Sys2Proof.Machine

/-- HRQ_ENTRY (R59, R62, R64 to R66, R383): the head of the front end's list for a die moves into HRQ, a retry read to HRQ's head; a read
that READ_CAP holds back keeps the later ones waiting, but for those the cap does not hold. -/
def execHrqEntry (die : Nat) (s : State) : Host.Outcome State Fault Refusal :=
  let x := s.die die
  let c := chOfDie die
  let next := match x.feList with
    | r :: _ => if s.underCap c r then some r else x.feList.find? ReadReq.uncapped
    | [] => none
  match next with
  | some r =>
    if x.hrq.length < 4 ∧ s.dieServes die then
      let s := s.modChan c fun y => { y with hostFrames := y.hostFrames + r.moves }
      .next ((s.setDie die { x with feList := x.feList.erase r, hrq := if r.rung = 0 then x.hrq ++ [r] else r :: x.hrq, hrqOpen := if r.rung = 0 then x.hrqOpen else 0 }).hrqArrived die).settle
    else .next s
  | none => .next s

/-- SUSPEND_LATENCY_DONE (R67): tSUS has elapsed, and the reads that wait may start. -/
def execSuspendLatencyDone (die : Nat) (s : State) : Host.Outcome State Fault Refusal :=
  match (s.die die).op with
  | some o =>
    if o.latency then .next ((s.modDie die fun x => { x with op := some { o with latency := false } }).dispatch die).settle else .next s
  | none => .next s

/-- ARRAY_READ_DONE (R89): T_R has elapsed; the read's frames are ready for data-out, in the order sensing ended (R69). -/
def execArrayReadDone (die read : Nat) (s : State) : Host.Outcome State Fault Refusal :=
  match (s.die die).reads.find? fun r => decide (r.req.id = read) && !r.sensed with
  | some run =>
    let s := s.modDie die fun x => { x with reads := x.reads.map fun r => if r.req.id = read then { r with sensed := true } else r }
    let c := chOfDie die
    let x := s.chan c
    let s := s.setChan c (if run.req.kind = .host then { x with outHost := x.outHost ++ [(die, read)] } else { x with outInternal := x.outInternal ++ [(die, read)] })
    .next s.settle
  | none => .next s

/-- FRAME_DATA_OUT_DONE (R69): the frame the channel was moving has arrived. -/
def execFrameDataOutDone (die read : Nat) (s : State) : Host.Outcome State Fault Refusal :=
  if (s.chan (chOfDie die)).busy = some (.frame die read) then .next (s.dataOut die read).settle else .next s

/-- DATA_IN_PAGE_DONE (R65): one page has been loaded; the last one leads to the confirm. A page whose program lost its turn to a host
read is discarded with the rest. -/
def execDataInPageDone (die : Nat) (s : State) : Host.Outcome State Fault Refusal :=
  let c := chOfDie die
  if (s.chan c).busy = some (.page die) then
    let s := s.modChan c fun x => { x with busy := none, polled := false }
    let x := s.die die
    let keep : Bool := decide (x.reads = []) && x.op.isNone && (match x.wkq with | w :: _ => decide (w.op = 1) | [] => false)
    let s := if keep then s.modDie die fun x => { x with loaded := x.loaded + 1 } else s
    .next ((s.dispatch die).pumpChannel c).settle
  else .next s

/-- A status read is placed at the boundary before the channel's transfer; a boundary takes at most one (R88). -/
def State.pollFits (s : State) (die : Nat) : Bool := !((s.chan (chOfDie die)).polled && (s.chan (chOfDie die)).busy.isSome)
/-- The status read's sequence is sent. -/
def State.poll (s : State) (die : Nat) : State :=
  (s.ca die false (s.img.statusCa die)).modChan (chOfDie die) fun x => { x with polled := x.busy.isSome }

/-- STATUS_POLL (R82, R88, R93): with RDY the operation ends, judged per plane; write protection with WP_N high counts as FAIL. A poll that finds its
boundary taken moves to the next one. -/
def execStatusPoll (die : Nat) (ready : Bool) (failPlanes : List Nat) (writeProtected : Bool) (s : State) : Host.Outcome State Fault Refusal :=
  match (s.die die).op with
  | some o =>
    if o.state = .running ∧ s.pollFits die then
      let s := s.poll die
      let planes := if writeProtected ∧ (s.chan (chOfDie die)).wpHigh then List.range s.img.planes else failPlanes.filter (· < s.img.planes)
      .next (if ready then s.opStatus die planes else s).settle
    else .next s
  | none => .next s

/-- OPERATION_TIMEOUT (R94). -/
def execOperationTimeout (die : Nat) (s : State) : Host.Outcome State Fault Refusal :=
  match (s.die die).op with
  | some o => if o.state = .running then .next (s.opTimeout die).settle else .next s
  | none => .next s

/-- RESET_LUN_DONE (R94, R97): ready, code 0x0404; not ready within T_RST_MAX, criterion 1. -/
def execResetLunDone (die : Nat) (ready : Bool) (s : State) : Host.Outcome State Fault Refusal :=
  if (s.die die).resetting then
    let s := s.modDie die fun x => { x with resetting := false }
    if ready then .next ((s.leave 0x0404 1 [die]).dispatch die).settle else .next (s.isolateDie die 1).settle
  else .next s

/-- ZQ_CAL_SHORT (R83, R98): every 4,096 local rounds per target, with no transfer on the channel; two failures in a row isolate it. -/
def execZqCalShort (ch target : Nat) (passed : Bool) (s : State) : Host.Outcome State Fault Refusal :=
  let x := s.chan ch
  let fitted := (List.range 4).any fun l => s.img.populated (32 * ch + 4 * target + l)
  if ch < 32 ∧ target < 8 ∧ fitted ∧ x.isolated = 0 ∧ x.busy.isNone ∧ !x.deselected.contains target ∧ Table.getD x.zqRound target 0 + 4096 ≤ s.obs.rounds then
    let s := s.setChan ch { x with zqRound := Table.set x.zqRound target s.obs.rounds, zqFails := if passed then 0 else x.zqFails + 1 }
    let s := s.ca (32 * ch + 4 * target) false (zqShortCa (32 * ch + 4 * target))
    .next (if passed ∨ (s.chan ch).zqFails < 2 then s else s.isolateChannel ch 1).settle
  else .next s

/-- FRAME_DECODE_DONE (R112 to R114). -/
def execFrameDecodeDone (job : Nat) (converged : Bool) (corrected : Nat) (s : State) : Host.Outcome State Fault Refusal :=
  match s.fjob job with
  | some j => if j.stage = 2 ∨ j.stage = 3 then .next (s.decodeDone job converged corrected).settle else .next s
  | none => .next s

/-- The block a recalibration reads: the one that caused the hint, or the lowest-numbered one of the group that holds programmed data. -/
def State.referenceBlock (s : State) (g : Nat) (hinted : Option Nat) : Option Nat :=
  let die := g % 1024
  let first := g / 1024 * 2 ^ s.img.groupShift
  let has (b : Nat) : Bool := s.readable b && !(s.blkRec b).fc
  match hinted with
  | some b => if has b then some b else ((List.range (2 ^ s.img.groupShift)).map fun i => die * 65536 + first + i).find? has
  | none => ((List.range (2 ^ s.img.groupShift)).map fun i => die * 65536 + first + i).find? has

/-- A group taken from a recalibration queue (R122). -/
def State.startRecal (s : State) (g : Nat) (hinted : Option Nat) : State :=
  match s.referenceBlock g hinted with
  | none => s.modVt g fun v => { v with queued := false }
  | some b =>
    let v := s.vtGroup g
    let base := if v.valid then v.selected else s.img.retryRow false 0
    let row := if v.lastRetry = 0 then base else addRows base (s.img.retryRow false v.lastRetry)
    let c : Recal := { group := g, block := b, type := 0, centre := 0, pass := 0, newRow := row, results := [] }
    { s with codec := { s.codec with recals := s.codec.recals ++ [c] } }.trials c

/-- RECAL_START (R122): a free place takes the hint queue's head, or the age queue's; a head whose die is busy waits. -/
def execRecalStart (s : State) : Host.Outcome State Fault Refusal :=
  let busy (g : Nat) : Bool := s.codec.recals.any fun c => c.group % 1024 = g % 1024
  if !s.engines 8 ∨ 64 ≤ s.codec.recals.length then .next s
  else
    match s.codec.hint, s.codec.age with
    | (g, b) :: rest, _ => if busy g then .next s else .next ({ s with codec := { s.codec with hint := rest } }.startRecal g (some b)).settle
    | [], g :: rest => if busy g then .next s else .next ({ s with codec := { s.codec with age := rest } }.startRecal g none).settle
    | [], [] => .next s

/-- The samples of one block of a visited group (R123). -/
def State.sampleBlock (s : State) (g b : Nat) : State :=
  let r := s.blkRec b
  let n := s.img.patrolFrames
  (List.range n).foldl (fun s f =>
    let wl := (2 * f + 1) * r.programmed / (2 * n)
    let type := if r.fc then 0 else f % max 1 s.img.bitsPerCell
    let gran := s.img.memberGran r.fc b wl (type * s.img.planes + f % max 1 s.img.planes) (8 * (f % 4))
    (s.issueRead .patrol (.sample g b) gran 8 0 0 none).count 0x043 (chOfDie (dieOfBlk b)) 1) s

/-- The group a visit takes: the fast list's head, else the one at the cursor, which moves on. -/
def State.nextGroup (s : State) : Nat × State :=
  let groups := ceilDiv s.img.blocksPerPlane (2 ^ s.img.groupShift) * 1024
  match s.codec.fast with
  | g :: rest => (g, { s with codec := { s.codec with fast := rest } })
  | [] => (s.codec.cursor, { s with codec := { s.codec with cursor := if s.codec.cursor + 1 < groups then s.codec.cursor + 1 else 0 } })

/-- A group is visited: its programmed blocks that are not retired are sampled; when the last sample has been judged, the group's age is and its read count
clears, at once where there is nothing to sample. -/
def State.visitGroup (s : State) (g : Nat) : State :=
  let first := g / 1024 * 2 ^ s.img.groupShift
  let blocks := ((List.range (2 ^ s.img.groupShift)).map fun i => g % 1024 * 65536 + first + i).filter s.readable
  let n := blocks.length * s.img.patrolFrames + Table.getD s.codec.visits g 0
  if n = 0 then s.visitEnd g
  else blocks.foldl (fun s b => s.sampleBlock g b) { s with codec := { s.codec with visits := Table.set s.codec.visits g n } }

/-- PATROL_VISIT (R123, R125): a group is visited; isolated dies and blocks without data are passed over. -/
def execPatrolVisit (s : State) : Host.Outcome State Fault Refusal :=
  if !s.engines 8 then .next s
  else
  let (g, s) := s.nextGroup
  if s.dieServes (g % 1024) then .next (s.visitGroup g).settle else .next s

/-- RECONSTRUCT_DONE (R198). -/
def execReconstructDone (job : Nat) (s : State) : Host.Outcome State Fault Refusal :=
  match Table.find s.girth.recons job with
  | some r => if r.engine then .next (s.rebuilt job).settle else .next s
  | none => .next s

end Sys2Proof.Machine
end

