-- ==== Sys2Proof/Machine/Package.lean ====
section
/-! DEFINITION. Package (21_package_and_identity R456, R464, R465): the JTAG port and the sideband, with NVMe-MI Send and Receive (11_commands
R262) and what the sideband answers in fault stop (20_faults R453). -/
namespace Sys2Proof.Machine

/-! ### JTAG (R464, R465) -/

/-- What the data register of IDCODE shifts out, bit 0 first. -/
def idcodeBits : List Bool := (List.range 32).map Config.idcode.testBit
/-- An instruction that leaves the balls alone is loaded: it gives the balls back. A dump that EXTEST, CLAMP or HIGHZ waits for still ends with the
main domain held. -/
def State.jtagLoad (s : State) (i : JtagInstr) (out : List Bool) : State :=
  let run := match s.dump.run with | some d => some { d with boundaryScan := d.boundaryScan || s.pkg.jtagWaiting.isSome } | none => none
  { s with pkg := { s.pkg with jtag := i, jtagOut := out, jtagWaiting := none, ballsTaken := false }, dump := { s.dump with run := run } }
/-- The port runs while VDD_IO stands. -/
def State.jtagStep (s : State) (f : State → State) : State := if s.pkg.vddIo then f s else s

/-- JTAG_TAP_RESET: the port returns to IDCODE. -/
def execJtagTapReset (s : State) : Host.Outcome State Fault Refusal := .next (s.jtagStep fun s => s.jtagLoad .idcode idcodeBits)
/-- JTAG_BYPASS: the one-bit register, which captures 0. -/
def execJtagBypass (s : State) : Host.Outcome State Fault Refusal := .next (s.jtagStep fun s => s.jtagLoad .bypass [false])
/-- JTAG_IDCODE. -/
def execJtagIdcode (s : State) : Host.Outcome State Fault Refusal := .next (s.jtagStep fun s => s.jtagLoad .idcode idcodeBits)
/-- JTAG_SAMPLE_PRELOAD: the boundary cells as sampled. -/
def execJtagSamplePreload (cells : List Bool) (s : State) : Host.Outcome State Fault Refusal := .next (s.jtagStep fun s => s.jtagLoad .samplePreload cells)

/-- EXTEST, CLAMP or HIGHZ (R465): fetching stops; a dump that can run runs, or one that runs is waited for; the keys are zeroized, the main domain is
held in reset, and the instruction takes the balls. Before a first power-on reset only the balls are there to take. -/
def State.takeScan (s : State) (i : JtagInstr) (out : List Bool) : State :=
  let s : State := { s with pkg := { s.pkg with jtagOut := out } }
  if s.dump.run.isSome then { s with pkg := { s.pkg with jtagWaiting := some i } }
  else if s.dump.active.isSome ∧ !s.dump.since then
    (({ s with pkg := { s.pkg with jtagWaiting := some i } } : State).startDump 1 true).arrayPump
  else
    let s : State := { s with pkg := { s.pkg with jtag := i, ballsTaken := true } }
    if s.ts.bootStep = 0 then s else (s.stopFront.zeroize.holdMain (s.dump.holds.filter (· ≠ 4) ++ [4]))

/-- JTAG_EXTEST: the boundary cells stay selected. -/
def execJtagExtest (s : State) : Host.Outcome State Fault Refusal := .next (s.jtagStep fun s => s.takeScan .extest s.pkg.jtagOut)
/-- JTAG_CLAMP: the bypass register is selected. -/
def execJtagClamp (s : State) : Host.Outcome State Fault Refusal := .next (s.jtagStep fun s => s.takeScan .clamp [false])
/-- JTAG_HIGHZ: the bypass register is selected. -/
def execJtagHighz (s : State) : Host.Outcome State Fault Refusal := .next (s.jtagStep fun s => s.takeScan .highz [false])

/-! ### NVMe-MI (R262, R453, R456) -/

/-- The health status: bits 0 and 1 of byte 4 are ready and fatal status (log 7); what NVMe-MI alone gives is free (log 9). -/
def State.miHealth (s : State) : List Byte :=
  let rdy := s.fe.admits && s.fe.ctrls.any fun (_, c) => c.enA || c.enB
  pageOver (fun i => Config.miByte 1 i s.free) [part 4 1 (bit rdy + 2 * bit s.fe.cfs + 4 * ((Config.miByte 1 4 s.free).toNat / 4))] 0 8
/-- A response whose content NVMe-MI gives. -/
def State.miOther (s : State) (code : Nat) : List Byte := (List.range (Config.miLength code s.free)).map fun i => Config.miByte (code + 2) i s.free
/-- The response to a request that is not tunnelled. -/
def State.miAnswer (s : State) (m : MiRequest) : List Byte :=
  match m with
  | .healthStatus => s.miHealth
  | .identity => pageSlice s.identityPage 0 256
  | .tunnel _ => []
  | .other code => s.miOther code

/-- A tunnelled admin command that the main domain serves: its row is checked as any entry is. -/
def State.tunnelRun (s : State) (key : Nat) (e : BitVec 512) : State :=
  let (t, s) := s.tunnelIn key e
  match s.cmd t with
  | some c => s.entryChecks t c
  | none => s

/-- A tunnelled command over the sideband. -/
def State.sbTunnel (s : State) (e : BitVec 512) : State :=
  if s.dump.run.isSome then
    if servedInStop e then { s with pkg := { s.pkg with sbWaiting := s.pkg.sbWaiting ++ [.tunnel e] } } else s.tunnelStopped sidebandKey e
  else if s.fault.stop.isSome ∨ s.fe.stopped ∨ s.dump.inReset then s.tunnelStopped sidebandKey e
  else s.tunnelRun sidebandKey e

/-- SIDEBAND_MI_COMMAND: the sideband answers from step 1 of R418 on, in every state. -/
def execSidebandMiCommand (request : MiRequest) (s : State) : Host.Outcome State Fault Refusal :=
  if !s.pkg.vddIo ∨ s.ts.bootStep = 0 then .next s
  else
    match request with
    | .tunnel e => .next (s.sbTunnel e).settleFront
    | m => .next { s with pkg := { s.pkg with sbAnswers := s.pkg.sbAnswers ++ [s.miAnswer m] }, free := s.free + 1 }

/-- NVME_MI_SEND: the sideband's commands in-band; the response waits for NVMe-MI Receive. -/
def execNvmeMiSend (tag : Nat) (request : MiRequest) (s : State) : Host.Outcome State Fault Refusal :=
  .next (s.begin tag true 0x1D (fun _ => true) fun s _ =>
    let s := match request with
      | .tunnel e => s.tunnelRun inBandKey e
      | m => ({ s with pkg := { s.pkg with miReady := s.pkg.miReady ++ [s.miAnswer m] }, free := s.free + 1 } : State)
    s.finish tag ok)

/-- NVME_MI_RECEIVE: the oldest response. -/
def execNvmeMiReceive (tag : Nat) (s : State) : Host.Outcome State Fault Refusal :=
  .next (s.begin tag true 0x1E (fun _ => true) fun s _ =>
    match s.pkg.miReady with
    | x :: rest => ({ s with pkg := { s.pkg with miReady := rest } } : State).answer tag x
    | [] => s.answer tag [])

/-- I3C_BROADCAST: the sideband stays in I3C from its first broadcast on. -/
def execI3cBroadcast (s : State) : Host.Outcome State Fault Refusal :=
  if s.pkg.vddIo ∧ s.ts.bootStep ≠ 0 then .next { s with pkg := { s.pkg with i3c := true } } else .next s
/-- I3C_RESET_ACTION. -/
def execI3cResetAction (s : State) : Host.Outcome State Fault Refusal :=
  if s.pkg.vddIo ∧ s.ts.bootStep ≠ 0 then .next { s with pkg := { s.pkg with i3c := false } } else .next s

end Sys2Proof.Machine
end

