-- ==== Sys2Proof/Machine/Io.lean ====
section
/-! DEFINITION. I/O commands (01_architecture R14 to R19, 06_map R139 to R151, 11_commands R264, R266): how a command splits into units, its
placement and protection information, discards, secure discard and reclaim unit handles (DEDUCED, log 74). -/
namespace Sys2Proof.Machine

/-! ### Units of a command (R14, R139, R140) -/

/-- The units that a range of logical blocks touches: unit, first byte within it, bytes, and the offset of these bytes in the command's data. -/
def unitSpans (n : Namespace) (slba nlb : Nat) : List (Nat × Nat × Nat × Nat) :=
  if nlb = 0 then []
  else
    let p := n.perUnit
    let first := slba / p
    (List.range ((slba + nlb - 1) / p - first + 1)).map fun k =>
      let u := first + k
      let lo := max slba (u * p)
      let hi := min (slba + nlb) ((u + 1) * p)
      (u, (lo - u * p) * n.lbaBytes, (hi - lo) * n.lbaBytes, (lo - slba) * n.lbaBytes)

/-- A unit job of a command as it begins. -/
def ioJob (tag : Nat) (kind : UnitKind) (stage : UnitStage) (nsx unit index first len : Nat) : UnitJob :=
  { tag := some tag, kind := kind, stage := stage, nsx := nsx, unit := unit, index := index, first := first, len := len, data := [], tagRec := 0,
    entry := {}, slot := none, desc := default, stored := [], stream := 0, source := 0, metaAt := none, merge := false, rechecked := false }

/-- The job joins its command. -/
def State.addUnit (s : State) (tag : Nat) (j : UnitJob) : State :=
  let (t, s) := s.addJob j
  s.modCmd tag fun c => { c with units := c.units ++ [t] }

/-- A write of part of a unit, or of a whole one: the part is merged into the unit's content first (R140). -/
def State.addWrite (s : State) (tag nsx unit first : Nat) (data : List Byte) (tagRec stream : Nat) : State :=
  let whole := decide (data.length = 4096)
  s.addUnit tag { ioJob tag .write (if whole then .skiver else .mergeWait) nsx unit 0 first data.length with
    data := data, tagRec := tagRec, stream := stream, merge := !whole }
/-- Writes of a range; `tags` gives each unit's tag record. -/
def State.addWrites (s : State) (tag : Nat) (n : Namespace) (slba nlb : Nat) (data : List Byte) (stream : Nat) (tags : Nat → Nat) : State :=
  (unitSpans n slba nlb).foldl (fun s (u, first, len, off) => s.addWrite tag n.nsx u first (padTo len (sliceBytes data off len)) (tags u) stream) s

/-! ### What a command needs (R144, R176, R205, R293) -/

/-- The namespace of a command, which the checks of R285 have found attached. -/
def State.cmdSpace (s : State) (c : Cmd) : Option Namespace := s.attachedSpace c.ctrl (sqeNsid c.entry)
/-- An I/O command on its namespace. -/
def State.onSpace (s : State) (tag opc : Nat) (sel : Cmd → Bool) (f : State → Cmd → Namespace → State) : State :=
  s.begin tag false opc sel fun s c =>
    match s.cmdSpace c with
    | some n => f s c n
    | none => s.malformed tag c (stat 0 0x0B)
/-- The namespace's key serves: a slot without a key, or one being erased, answers 7:0xC3; one of another purpose cannot (DEDUCED, log 44). -/
def State.keyServes (s : State) (n : Namespace) : Option CmdResult :=
  let k := s.keySlot n.slot
  if k.kind = 0 ∨ k.revoking then some (stat 7 0xC3) else if k.purpose ≠ 1 then some invalidField else none
/-- Host writes are refused: AVAIL is 0, or no set can open. -/
def State.writeProtected (s : State) : Bool := s.blk.readOnly || s.girth.noSets

/-- DTYPE and DSPEC of a write. -/
def cmdDtype (c : Cmd) : Nat := bitField (dw c.entry 12) 20 4
def cmdDspec (c : Cmd) : Nat := bitField (dw c.entry 13) 16 16
/-- The stream of a write (R144): the handle that DSPEC names with DTYPE 2, else placement handle 0; stream 0 when FDP is disabled. -/
def State.placeStream (s : State) (n : Namespace) (c : Cmd) : Option Nat :=
  if !s.map.fdp then some 0
  else if n.handles = [] ∨ cmdDtype c ≠ 2 then some (n.handles.getD 0 0)
  else n.handles[cmdDspec c]?
/-- A placement handle that the namespace does not have: 0:0x02, with FDP event 0x03. -/
def State.badHandle (s : State) (tag : Nat) (n : Namespace) : State := (s.fdpEvent 0x03 (n.handles.getD 0 0)).finish tag invalidField

/-! ### Flush, Write (R14, R142) -/

/-- FLUSH: it waits for nothing. -/
def execFlush (tag : Nat) (s : State) : Host.Outcome State Fault Refusal := .next (s.begin tag false 0x00 (fun _ => true) fun s _ => s.finish tag ok)

/-- The tag record of block `i`: the command's tags with PRACT, else the host's. -/
def writeTags (n : Namespace) (c : Cmd) (i : Nat) (p : ProtInfo) : Nat :=
  let format := n.flbas % 16
  if !n.hasTags then 0
  else if n.piType ≠ 0 ∧ cmdPract c then tagRecord format (cmdApp c) (cmdRef n c i)
  else tagRecord format p.appTag p.refTag
/-- The failure of the checks that a write makes on block `i`: guard, application tag, reference tag; a block with NVMe's escape value of the application tag
is not checked (PRESUMED, log 43). -/
def writeFailure (n : Namespace) (c : Cmd) (i : Nat) (data : List Byte) (p : ProtInfo) : Option CmdResult :=
  if !n.hasTags ∨ n.piType = 0 ∨ cmdPract c ∨ tagsEscape n p.appTag p.refTag then none
  else if cmdChkGuard c ∧ p.guardTag ≠ guardOf (n.flbas % 16) data then some (stat 2 0x82)
  else tagFailure n c i p.appTag p.refTag
/-- The first block that fails, with its failure. -/
def writeCheck (n : Namespace) (c : Cmd) (data : List Byte) (pi : List ProtInfo) : Option (Nat × CmdResult) :=
  (List.range (sqeNlb c.entry)).findSome? fun i => (writeFailure n c i (padTo n.lbaBytes (sliceBytes data (i * n.lbaBytes) n.lbaBytes)) (pi.getD i default)).map fun r => (i, r)
/-- The field that code 0x0607 names: 0 guard, 1 application tag, 2 reference tag. -/
def CmdResult.piField (r : CmdResult) : Nat := r.sc - 0x82

/-- Write data is not fetched: the dirty window is full, or a unit at admission waits for room in it (R15; DEDUCED, log 88). -/
def State.fetchStops (s : State) : Bool :=
  decide (s.windowGran ≤ s.wb.dirty) || s.fe.jobs.any fun (_, j) => decide (j.stage = .admission) && decide (j.kind = .write) && !s.windowTakes j
/-- A write that would fetch data stays outstanding while fetching has stopped. -/
def State.writeWaits (s : State) (c : Cmd) : Bool :=
  s.fetchStops && !s.writeProtected && match s.cmdSpace c with
    | some n => (s.placeStream n c).isSome && (s.keyServes n).isNone
    | none => false

/-- WRITE: the checks, then its units; it completes when each has passed step 4. A failed check of one block ends the command before any of
its units is admitted. -/
def execWrite (tag : Nat) (data : List Byte) (pi : List ProtInfo) (s : State) : Host.Outcome State Fault Refusal :=
  .next (s.onSpace tag 0x01 (fun c => !s.writeWaits c) fun s c n =>
    if s.writeProtected then s.finish tag (stat 0 0x20)
    else
      match s.placeStream n c with
      | none => s.badHandle tag n
      | some stream =>
        match s.keyServes n with
        | some r => s.finish tag r
        | none =>
          match writeCheck n c data pi with
          | some (i, r) => (s.leave 0x0607 0 [sqeNsid c.entry, sqeSlba c.entry + i, r.piField]).finishCode tag r 0x0607
          | none =>
            (s.addWrites tag n (sqeSlba c.entry) (sqeNlb c.entry) data stream
              (fun u => writeTags n c (u - sqeSlba c.entry) (pi.getD (u - sqeSlba c.entry) default))).settle)

/-! ### Read, Compare, Verify (R16, R17, R142, R264) -/

/-- Where the data and the metadata of block `i` stand in the data returned: interleaved when the metadata is extended, after all the data when it
has a buffer of its own; none when PRACT strips it. -/
def readLayout (n : Namespace) (c : Cmd) (i : Nat) : Nat × Option Nat :=
  if !n.hasTags ∨ (n.piType ≠ 0 ∧ cmdPract c) then (i * n.lbaBytes, none)
  else if n.flbas / 16 % 2 = 1 then (i * (n.lbaBytes + n.metaBytes), some (i * (n.lbaBytes + n.metaBytes) + n.lbaBytes))
  else (i * n.lbaBytes, some (sqeNlb c.entry * n.lbaBytes + i * n.metaBytes))
/-- Bytes a read returns. -/
def readBytes (n : Namespace) (c : Cmd) : Nat := sqeNlb c.entry * (n.lbaBytes + if n.hasTags ∧ !(n.piType ≠ 0 ∧ cmdPract c) then n.metaBytes else 0)

/-- A command that reads units. -/
def State.readUnits (s : State) (tag : Nat) (c : Cmd) (n : Namespace) (kind : UnitKind) (data : List Byte) : State :=
  match s.keyServes n with
  | some r => s.finish tag r
  | none =>
    ((unitSpans n (sqeSlba c.entry) (sqeNlb c.entry)).foldl (fun s (u, first, len, off) =>
      let (at_, meta_) := readLayout n c (off / n.lbaBytes)
      s.addUnit tag { ioJob tag kind .lookup n.nsx u at_ first len with data := padTo len (sliceBytes data off len), metaAt := meta_ }) s).settle

/-- READ. -/
def execRead (tag : Nat) (s : State) : Host.Outcome State Fault Refusal :=
  .next (s.onSpace tag 0x02 (fun _ => true) fun s c n =>
    (s.modCmd tag fun c => { c with out := List.replicate (readBytes n c) 0#8 }).readUnits tag c n .read [])
/-- COMPARE. -/
def execCompare (tag : Nat) (data : List Byte) (s : State) : Host.Outcome State Fault Refusal :=
  .next (s.onSpace tag 0x05 (fun _ => true) fun s c n => s.readUnits tag c n .compare data)
/-- VERIFY: as a read, without transfer. -/
def execVerify (tag : Nat) (s : State) : Host.Outcome State Fault Refusal :=
  .next (s.onSpace tag 0x0C (fun _ => true) fun s c n => s.readUnits tag c n .verify [])

/-! ### Discards (R147 to R149) -/

/-- Discard a range: whole units become unmapped, the blocks of a partly covered one are written as zeros; `sdp` for a secure discard, which also
marks every unit it touches. -/
def State.addDiscards (s : State) (tag : Nat) (n : Namespace) (slba nlb : Nat) (sdp : Bool) : State :=
  (unitSpans n slba nlb).foldl (fun s (u, first, len, _) =>
    if len = 4096 then s.addUnit tag { ioJob tag .discard .lookup n.nsx u 0 0 4096 with merge := sdp }
    else
      let s := if sdp then s.addUnit tag { ioJob tag .discard .lookup n.nsx u 0 first len with merge := true } else s
      s.addUnit tag { ioJob tag .write .mergeWait n.nsx u 0 first len with
        data := List.replicate len 0#8, stream := (if s.map.fdp then n.handles[0]? else none).getD 0, merge := true, secure := sdp }) s

/-- WRITE_ZEROES: with PRACT in a format with protection information, zero-filled units with the command's tags; otherwise a discard. -/
def execWriteZeroes (tag : Nat) (s : State) : Host.Outcome State Fault Refusal :=
  .next (s.onSpace tag 0x08 (fun _ => true) fun s c n =>
    let slba := sqeSlba c.entry
    let stream := (if s.map.fdp then n.handles[0]? else none).getD 0
    if s.writeProtected then s.finish tag (stat 0 0x20)
    else
      match s.keyServes n with
      | some r => s.finish tag r
      | none =>
        if n.hasTags ∧ cmdPract c then
          (s.addWrites tag n slba (sqeNlb c.entry) [] stream (fun u => tagRecord (n.flbas % 16) (cmdApp c) (cmdRef n c (u - slba)))).settle
        else (s.addDiscards tag n slba (sqeNlb c.entry) false).settle)

/-- The ranges a command names: as many as NR says, those of NLB 0 ignored. -/
def cmdRanges (c : Cmd) (ranges : List LbaRange) : List LbaRange := (ranges.take (bitField (dw c.entry 10) 0 8 + 1)).filter (·.nlb ≠ 0)
/-- A range ends beyond NSZE. -/
def rangesBeyond (n : Namespace) (rs : List LbaRange) : Bool := rs.any fun r => n.nsze < r.slba + r.nlb

/-- DSM_DEALLOCATE: attribute AD of CDW11. -/
def execDsmDeallocate (tag : Nat) (ranges : List LbaRange) (s : State) : Host.Outcome State Fault Refusal :=
  .next (s.onSpace tag 0x09 (fun c => decide (bitField (dw c.entry 11) 2 1 = 1)) fun s c n =>
    let rs := cmdRanges c ranges
    if rangesBeyond n rs then s.malformed tag c (stat 0 0x80)
    else ((rs.foldl (fun s r => s.addDiscards tag n r.slba r.nlb false) s).cmdStep tag).settle)
/-- DSM_NO_DEALLOCATE: the other attributes are ignored. -/
def execDsmNoDeallocate (tag : Nat) (s : State) : Host.Outcome State Fault Refusal :=
  .next (s.onSpace tag 0x09 (fun c => decide (bitField (dw c.entry 11) 2 1 = 0)) fun s _ _ => s.finish tag ok)

/-- The units a range touches: the first and their number. -/
def rangeUnits (n : Namespace) (r : LbaRange) : Nat × Nat := (r.slba / n.perUnit, (r.slba + r.nlb - 1) / n.perUnit - r.slba / n.perUnit + 1)
/-- Jobs that are open, and commands whose job is still to open. -/
def State.jobsTaken (s : State) : Nat :=
  (s.map.jobs.filter SdJob.isOpen).length + (s.fe.late.filter fun (_, e) => match e with | .discard .. => true | _ => false).length
/-- SECURE_DISCARD. -/
def execSecureDiscard (tag : Nat) (ranges : List LbaRange) (s : State) : Host.Outcome State Fault Refusal :=
  .next (s.onSpace tag 0x89 (fun _ => true) fun s c n =>
    let rs := cmdRanges c ranges
    if s.writeProtected then s.finish tag (stat 0 0x20)
    else if rangesBeyond n rs then s.malformed tag c (stat 0 0x80)
    else if 16 ≤ s.jobsTaken then s.finish tag (stat 0 0x21)
    else
      let s : State := { s with fe := { s.fe with late := Table.set s.fe.late tag (.discard n.nsx (rs.map (rangeUnits n))) } }
      (rs.foldl (fun s r => s.addDiscards tag n r.slba r.nlb true) s).settle)

/-! ### Reclaim unit handles (R264, R266) -/

/-- IO_MGMT_RECEIVE: Reclaim Unit Handle Status, one descriptor for each placement handle of the namespace (log 7). -/
def execIoMgmtReceive (tag : Nat) (s : State) : Host.Outcome State Fault Refusal :=
  .next (s.onSpace tag 0x12 (fun _ => true) fun s c n =>
    if !s.map.fdp then s.finish tag invalidField
    else
      let hs := if n.handles = [] then [0] else n.handles
      let body := toBytes 16 (hs.length * 2 ^ 112) ++ (hs.zipIdx).flatMap fun (h, i) => toBytes 32 (i + 2 ^ 16 * h + 2 ^ 64 * Config.ruhRoom h s.free)
      ({ s with free := s.free + 1 } : State).answer tag (body.take (4 * (dw c.entry 11 + 1))))

/-- The stream of a handle closes its girth under R184 case 4: its set ends (END_REASON 0, log 45), with FDP event 0x00 when the set was not full. -/
def State.endHandle (s : State) (h : Nat) : State :=
  match (s.stream h).set with
  | none => s
  | some k => (s.fdpEvent 0x00 h).endSetNow k 0
/-- RUH_UPDATE: each handle that the placement identifiers name; it completes once the closes are durable. -/
def execRuhUpdate (tag : Nat) (handles : List Nat) (s : State) : Host.Outcome State Fault Refusal :=
  .next (s.onSpace tag 0x1D (fun _ => true) fun s c n =>
    let ids := handles.take (bitField (dw c.entry 10) 16 16 + 1)
    let list := if n.handles = [] then [0] else n.handles
    if !s.map.fdp then s.finish tag invalidField
    else if ids.any fun i => decide (list.length ≤ i) then s.badHandle tag n
    else
      let hs := (ids.filterMap fun i => list[i]?).eraseDups
      let gs := hs.flatMap fun h => (s.girth.girths.filter fun (_, g) => decide (g.stream = h)).map (·.1)
      let s := hs.foldl State.endHandle s
      ({ s with fe := { s.fe with late := Table.set s.fe.late tag (.handles gs) } } : State).settle)

end Sys2Proof.Machine
end

