-- ==== Sys2Proof/Machine/Streams.lean ====
section
/-! DEFINITION. Skive Stream and Unskive Stream (13_skiver R328 to R336): the command's fields, its context, the window-by-window work of both
engines, and output to a host chain or to a namespace (DEDUCED, log 60). -/
namespace Sys2Proof.Machine

/-! ### The command's fields (R328) -/

def skCtx (c : Cmd) : Nat := bitField (dw c.entry 10) 0 4
def skFlush (c : Cmd) : Nat := bitField (dw c.entry 10) 8 2
def skStart (c : Cmd) : Bool := bitField (dw c.entry 10) 10 1 = 1
def skDest (c : Cmd) : Bool := bitField (dw c.entry 10) 11 1 = 1
def skWidth (c : Cmd) : Nat := bitField (dw c.entry 10) 12 4
/-- The output limit in bytes: CDW12, else OUT_MAX_KIB; 0 for none. -/
def State.skLimit (s : State) (c : Cmd) : Nat := 1024 * (if dw c.entry 12 = 0 then s.skv.cfg.outMaxKib else dw c.entry 12)

/-! ### The output chain (R330) -/

/-- LEN, LINK, LAST and the reserved bits of a descriptor. -/
def chLen (d : BitVec 128) : Nat := bitField d.toNat 64 32
def chLink (d : BitVec 128) : Bool := bitField d.toNat 96 1 = 1
def chLast (d : BitVec 128) : Bool := bitField d.toNat 97 1 = 1
def chClean (d : BitVec 128) : Bool := bitField d.toNat 98 30 = 0
/-- Bytes of a chain up to its LAST descriptor; none when one has a reserved bit set, or 256 come before LAST. The operand gives the descriptors in
the order in which the device reads them, through links. -/
def chainRoom : (left : Nat) → List (BitVec 128) → Option Nat
  | 0, _ => none
  | _, [] => none
  | n + 1, d :: ds =>
    if !chClean d then none
    else
      let here := if chLink d then 0 else chLen d
      if chLast d then some here else (chainRoom n ds).map (here + ·)

/-! ### The engines, window by window (R321, R331 to R334) -/

/-- Why a stream command ends its work, beside the end of its input. -/
inductive StreamStop where
  | none
  | chain
  | limit
  | format (offset : Nat)
  | ended
  deriving DecidableEq, Repr

/-- A stream command at work: its context, input not yet taken, output, and input bytes taken. -/
structure StreamRun where
  ctx : SkiveCtx
  rest : List Byte
  out : List Byte
  taken : Nat
  stop : StreamStop
  deriving DecidableEq, Repr

/-- Output of `n` bytes passes the limit, or does not fit in the room left. -/
def outStops (r : StreamRun) (room limit n : Nat) : StreamStop :=
  if limit ≠ 0 ∧ limit < r.ctx.total + n then .limit else if room < r.out.length + n then .chain else .none

/-- A skive window's bytes: RESET when the dictionary is full and the previous window coded poorly. -/
def skiveWindow (x : SkiveCtx) (w : List Byte) : List Byte × List (List Byte) × Bool :=
  encodeWindow x.wmax (x.poor && decide (dictRoom x.wmax ≤ x.entries.length)) x.entries w

/-- Skive: windows of 256 bytes; at a flush the carried bytes as a shorter one; END after the last one of a FINAL. -/
def skiveRun (pct wcode room limit flush : Nat) : (fuel : Nat) → StreamRun → StreamRun
  | 0, r => r
  | fuel + 1, r =>
    let avail := r.ctx.carry.length + r.rest.length
    if avail < 256 ∧ flush = 0 ∨ (avail = 0 ∧ flush ≠ 2) then
      { r with ctx := { r.ctx with carry := r.ctx.carry ++ r.rest }, rest := [], taken := r.taken + r.rest.length }
    else
      let more := min (256 - r.ctx.carry.length) r.rest.length
      let w := r.ctx.carry ++ r.rest.take more
      let last := decide (flush = 2) && decide (r.rest.length = more)
      let (bytes, entries, stored) := if w = [] then ([], r.ctx.entries, false) else skiveWindow r.ctx w
      let piece := (if r.ctx.header then skiveHeader wcode false else []) ++ bytes ++ (if last then [endByte] else [])
      let r' : StreamRun := { r with rest := r.rest.drop more, taken := r.taken + more }
      match outStops r room limit piece.length with
      | .none =>
        let r' : StreamRun := { r' with
          out := r.out ++ piece
          ctx := { r.ctx with entries := entries, carry := [], total := r.ctx.total + piece.length, header := false, poor := stored || decide (w.length * pct < bytes.length * 100) } }
        if last then { r' with stop := .ended } else skiveRun pct wcode room limit flush fuel r'
      | stop => { r' with ctx := { r.ctx with carry := w }, stop := stop }

/-- Unskive: the header first, then windows as they lie whole in the carry, until END. -/
def unskiveRun (room limit flush : Nat) : (fuel : Nat) → StreamRun → StreamRun
  | 0, r => r
  | fuel + 1, r =>
    let buf := r.ctx.carry ++ r.rest
    let at_ := r.taken - r.ctx.carry.length
    let short : StreamRun :=
      if flush = 2 then { r with stop := .format at_ }
      else { r with ctx := { r.ctx with carry := buf }, rest := [], taken := r.taken + r.rest.length }
    -- `used` bytes of the carry and the input have been taken
    let step (used : Nat) (x : SkiveCtx) : StreamRun :=
      { r with ctx := { x with carry := r.ctx.carry.drop used }, rest := r.rest.drop (used - r.ctx.carry.length), taken := r.taken + (used - r.ctx.carry.length) }
    if r.ctx.header then
      if buf.length < 4 then short
      else
        match parseHeader (buf.take 4) with
        | some (wcode, _) => unskiveRun room limit flush fuel (step 4 { r.ctx with wmax := wcode + 9, header := false })
        | none => { r with stop := .format at_ }
    else
      match decodeWindow r.ctx.wmax r.ctx.entries buf with
      | .short => short
      | .error => { r with stop := .format at_ }
      | .stop used => { step used r.ctx with stop := .ended }
      | .window o es used =>
        match outStops r room limit o.length with
        | .none => unskiveRun room limit flush fuel { step used { r.ctx with entries := es, total := r.ctx.total + o.length } with out := r.out ++ o }
        | stop =>
          let kept := step used r.ctx
          { kept with ctx := { kept.ctx with carry := buf.take used }, stop := stop }

/-! ### The commands (R329, R331 to R336) -/

/-- An earlier command on the same context has not completed. -/
def State.ctxBusy (s : State) (tag : Nat) : Bool :=
  match s.cmd tag with
  | some c => s.fe.cmds.any fun (t, x) => decide (t < tag) && x.result.isNone && decide (x.ctx? = some (skCtx c))
  | none => false

/-- The command's own checks in order (R329); write protection and the namespace's key come with DEST 1, the chain without it. -/
def State.streamRefused (s : State) (c : Cmd) (decode : Bool) (chain : List (BitVec 128)) : Option CmdResult :=
  let held := Table.find s.skv.ctxs (skCtx c)
  if skDest c ∧ !(skStart c ∧ skFlush c = 2) then some invalidField
  else if skStart c ∧ held.isSome ∧ (held.map (·.ctrl)) ≠ some c.ctrl then some sequenceError
  else if !skStart c ∧ ((held.map (·.ctrl)) ≠ some c.ctrl ∨ (held.map (·.decode)) ≠ some decode) then some sequenceError
  else if (if decode then s.skv.decomps else s.skv.comps) = [] then some (stat 0 0x06)
  else if skDest c then
    if s.writeProtected then some (stat 0 0x20) else match s.cmdSpace c with | some n => s.keyServes n | none => some (stat 0 0x0B)
  else if (chainRoom 256 chain).isNone then some invalidField else none

/-- The context a command works on: a fresh one at START. -/
def State.streamCtx (s : State) (c : Cmd) (decode : Bool) : SkiveCtx :=
  let wmax := if skWidth c = 0 then s.skv.cfg.wcode + 9 else skWidth c + 8
  let fresh : SkiveCtx := { ctrl := c.ctrl, decode := decode, wmax := wmax, entries := [], carry := [], total := 0, header := true, poor := false }
  if skStart c then fresh else Table.getD s.skv.ctxs (skCtx c) fresh

/-- DW0 and DW1 of a stream command's completion. -/
def streamResult (r : CmdResult) (out taken : Nat) : CmdResult := { r with dw0 := out, dw1 := taken }

/-- How the command ends: its status, and whether its context goes on. -/
def StreamRun.ends (r : StreamRun) (decode : Bool) : CmdResult × Bool :=
  let res (x : CmdResult) : CmdResult := streamResult x r.out.length r.taken
  match r.stop with
  | .none => (res ok, true)
  | .ended => (res ok, false)
  | .chain => (res (stat 7 0xC7), true)
  | .limit => (res (stat 7 0xC8), false)
  | .format off => (if decode then streamResult invalidField r.out.length off else res invalidField, false)

/-- The end of a stream command with its output in the host's chain. -/
def State.streamEnds (s : State) (tag ctx : Nat) (r : StreamRun) (decode : Bool) : State :=
  let (res, keep) := r.ends decode
  let s : State := { s with skv := { s.skv with ctxs := if keep then Table.set s.skv.ctxs ctx r.ctx else Table.del s.skv.ctxs ctx } }
  let s := s.modCmd tag fun c => { c with out := r.out }
  match r.stop with
  | .chain => (s.count1 0x092).finish tag res
  | .format off => (s.leave 0x0D04 0 [ctx, off]).finishCode tag res 0x0D04
  | _ => s.finish tag res

/-- The output goes to the namespace in whole blocks from SLBA, the last one padded with zeros; a block beyond those available ends the command with
7:0xC7 and the blocks before it written (R335). -/
def State.streamToSpace (s : State) (tag : Nat) (c : Cmd) (n : Namespace) (r : StreamRun) (decode : Bool) : State :=
  let ctx := skCtx c
  let slba := dw c.entry 14 + 2 ^ 32 * dw c.entry 15
  let blocks := ceilDiv r.out.length n.lbaBytes
  let avail := dw c.entry 13 + 1
  let nlb := min blocks avail
  let (res, keep) := r.ends decode
  let (res, keep) := if avail < blocks then (streamResult (stat 7 0xC7) (nlb * n.lbaBytes) r.taken, true) else (res, keep)
  let s : State := { s with skv := { s.skv with ctxs := Table.set s.skv.ctxs ctx r.ctx },
                            fe := { s.fe with late := Table.set s.fe.late tag (.stream ctx res keep) } }
  let s := match r.stop with | .format off => s.leave 0x0D04 0 [ctx, off] | _ => if avail < blocks then s.count1 0x092 else s
  let stream := (if s.map.fdp then n.handles[0]? else none).getD 0
  let tags (u : Nat) : Nat := if n.hasTags then tagRecord (n.flbas % 16) (recApp (Config.streamTag n.nsx u)) (recRef (Config.streamTag n.nsx u)) else 0
  (s.addWrites tag n slba nlb r.out stream tags).settle

/-- A stream command once the earlier ones of its context have completed. -/
def State.streamCmd (s : State) (tag opc : Nat) (decode : Bool) (input : List Byte) (chain : List (BitVec 128)) : State :=
  if s.ctxBusy tag then s
  else
    s.begin tag false opc (fun _ => true) fun s c =>
      match s.streamRefused c decode chain with
      | some r => s.finish tag r
      | none =>
        let x := s.streamCtx c decode
        let data := padTo (dw c.entry 11) (input.take (dw c.entry 11))
        let start : StreamRun := { ctx := x, rest := data, out := [], taken := 0, stop := .none }
        let run (room : Nat) : StreamRun :=
          if decode then unskiveRun room (s.skLimit c) (skFlush c) (data.length + x.carry.length + 2) start
          else skiveRun s.skv.cfg.resetPct (x.wmax - 9) room (s.skLimit c) (skFlush c) (data.length + 2) start
        if skDest c then
          match s.cmdSpace c with
          -- windows are written to blocks, so nothing bounds the run but the limit; the blocks available bound what is written
          | some n => s.streamToSpace tag c n (run (2 ^ 64)) decode
          | none => s.malformed tag c (stat 0 0x0B)
        else s.streamEnds tag (skCtx c) (run ((chainRoom 256 chain).getD 0)) decode

/-- SKIVE_STREAM. -/
def execSkiveStream (tag : Nat) (input : List Byte) (chain : List (BitVec 128)) (s : State) : Host.Outcome State Fault Refusal :=
  .next (s.streamCmd tag 0x83 false input chain)
/-- UNSKIVE_STREAM. -/
def execUnskiveStream (tag : Nat) (input : List Byte) (chain : List (BitVec 128)) (s : State) : Host.Outcome State Fault Refusal :=
  .next (s.streamCmd tag 0x87 true input chain)

end Sys2Proof.Machine
end

