-- ==== Sys2Proof/Machine/Dispatch.lean ====
section
/-! DEFINITION. The effect of each command: one arm per constructor of Instr, each one call of its meaning. -/
namespace Sys2Proof.Machine

/-- The effect of a command on everything but the queue of waiting commands. -/
def exec (i : Instr) (s : State) : Host.Outcome State Fault Refusal :=
  match i with
  | .powerOnReset straps => Sys2Proof.Machine.execPowerOnReset straps s
  | .bootStepDone found => Sys2Proof.Machine.execBootStepDone found s
  | .restartStepDone found => Sys2Proof.Machine.execRestartStepDone found s
  | .segmentRestoreDone seg lost => Sys2Proof.Machine.execSegmentRestoreDone seg lost s
  | .channelStartupStepTimeout ch step targets trainedAtLower => Sys2Proof.Machine.execChannelStartupStepTimeout ch step targets trainedAtLower s
  | .flashRateTraining ch rate passed => Sys2Proof.Machine.execFlashRateTraining ch rate passed s
  | .toothBoundary senseCode test => Sys2Proof.Machine.execToothBoundary senseCode test s
  | .localRoundBoundary mr4 vcorePass => Sys2Proof.Machine.execLocalRoundBoundary mr4 vcorePass s
  | .planSample => Sys2Proof.Machine.execPlanSample s
  | .planLoadDone poisoned => Sys2Proof.Machine.execPlanLoadDone poisoned s
  | .planShadowReloadDone => Sys2Proof.Machine.execPlanShadowReloadDone s
  | .paceEdge time highNs => Sys2Proof.Machine.execPaceEdge time highNs s
  | .ptmExchangeDone rein completed time masterNs => Sys2Proof.Machine.execPtmExchangeDone rein completed time masterNs s
  | .edgeWindowClose => Sys2Proof.Machine.execEdgeWindowClose s
  | .holdoverGuardExceeded => Sys2Proof.Machine.execHoldoverGuardExceeded s
  | .freqClampPersist => Sys2Proof.Machine.execFreqClampPersist s
  | .crystalStopDetect => Sys2Proof.Machine.execCrystalStopDetect s
  | .wtReserve => Sys2Proof.Machine.execWtReserve s
  | .hrqEntry die => Sys2Proof.Machine.execHrqEntry die s
  | .suspendLatencyDone die => Sys2Proof.Machine.execSuspendLatencyDone die s
  | .arrayReadDone die read => Sys2Proof.Machine.execArrayReadDone die read s
  | .frameDataOutDone die read => Sys2Proof.Machine.execFrameDataOutDone die read s
  | .dataInPageDone die => Sys2Proof.Machine.execDataInPageDone die s
  | .statusPoll die ready failPlanes writeProtected => Sys2Proof.Machine.execStatusPoll die ready failPlanes writeProtected s
  | .operationTimeout die => Sys2Proof.Machine.execOperationTimeout die s
  | .resetLunDone die ready => Sys2Proof.Machine.execResetLunDone die ready s
  | .zqCalShort ch target passed => Sys2Proof.Machine.execZqCalShort ch target passed s
  | .frameDecodeDone job converged corrected => Sys2Proof.Machine.execFrameDecodeDone job converged corrected s
  | .recalStart => Sys2Proof.Machine.execRecalStart s
  | .patrolVisit => Sys2Proof.Machine.execPatrolVisit s
  | .reconstructDone job => Sys2Proof.Machine.execReconstructDone job s
  | .unitAdmit unit => Sys2Proof.Machine.execUnitAdmit unit s
  | .skiverUnitDone unit engine checkOk => Sys2Proof.Machine.execSkiverUnitDone unit engine checkOk s
  | .cipherRequestDone request pair outputsMatch => Sys2Proof.Machine.execCipherRequestDone request pair outputsMatch s
  | .slotRewriteInstall slot => Sys2Proof.Machine.execSlotRewriteInstall slot s
  | .girthCloseStart stream => Sys2Proof.Machine.execGirthCloseStart stream s
  | .girthCloseAge stream => Sys2Proof.Machine.execGirthCloseAge stream s
  | .setOpen stream => Sys2Proof.Machine.execSetOpen stream s
  | .hostGirthOpenWaitEnd stream => Sys2Proof.Machine.execHostGirthOpenWaitEnd stream s
  | .ledgerPageWrite => Sys2Proof.Machine.execLedgerPageWrite s
  | .rebuildTake => Sys2Proof.Machine.execRebuildTake s
  | .victimTake => Sys2Proof.Machine.execVictimTake s
  | .eraseGateOpen block => Sys2Proof.Machine.execEraseGateOpen block s
  | .journalStageAge seg => Sys2Proof.Machine.execJournalStageAge seg s
  | .rootSnapshot => Sys2Proof.Machine.execRootSnapshot s
  | .backupFailEnter => Sys2Proof.Machine.execBackupFailEnter s
  | .backupFailEnd => Sys2Proof.Machine.execBackupFailEnd s
  | .pwrfailNFall => Sys2Proof.Machine.execPwrfailNFall s
  | .pwrfailFilterExpire => Sys2Proof.Machine.execPwrfailFilterExpire s
  | .pwrfailNRise => Sys2Proof.Machine.execPwrfailNRise s
  | .dumpUnitProgramDone girth member ok => Sys2Proof.Machine.execDumpUnitProgramDone girth member ok s
  | .perstAssert rein => Sys2Proof.Machine.execPerstAssert rein s
  | .perstRelease rein => Sys2Proof.Machine.execPerstRelease rein s
  | .hotReset rein => Sys2Proof.Machine.execHotReset rein s
  | .linkDown rein => Sys2Proof.Machine.execLinkDown rein s
  | .linkUp rein link => Sys2Proof.Machine.execLinkUp rein link s
  | .linkRecovery rein link => Sys2Proof.Machine.execLinkRecovery rein link s
  | .functionLevelReset port => Sys2Proof.Machine.execFunctionLevelReset port s
  | .ccEnSet port => Sys2Proof.Machine.execCcEnSet port s
  | .ccEnClear port => Sys2Proof.Machine.execCcEnClear port s
  | .ccShnWrite port value => Sys2Proof.Machine.execCcShnWrite port value s
  | .sqTailDoorbell port qid value => Sys2Proof.Machine.execSqTailDoorbell port qid value s
  | .cqHeadDoorbell port cqid value => Sys2Proof.Machine.execCqHeadDoorbell port cqid value s
  | .registerWrite port reg value => Sys2Proof.Machine.execRegisterWrite port reg value s
  | .entryFetch port qid entry => Sys2Proof.Machine.execEntryFetch port qid entry s
  | .twinLagExpire ctrl qid side => Sys2Proof.Machine.execTwinLagExpire ctrl qid side s
  | .keeperFilterExpire rein => Sys2Proof.Machine.execKeeperFilterExpire rein s
  | .leaseStart rein => Sys2Proof.Machine.execLeaseStart rein s
  | .leaseEnd rein => Sys2Proof.Machine.execLeaseEnd rein s
  | .reinSelfTestPeriodic rein eyes => Sys2Proof.Machine.execReinSelfTestPeriodic rein eyes s
  | .deleteIoSq tag => Sys2Proof.Machine.execDeleteIoSq tag s
  | .createIoSq tag => Sys2Proof.Machine.execCreateIoSq tag s
  | .deleteIoCq tag => Sys2Proof.Machine.execDeleteIoCq tag s
  | .createIoCq tag => Sys2Proof.Machine.execCreateIoCq tag s
  | .abort tag => Sys2Proof.Machine.execAbort tag s
  | .asyncEventRequest tag => Sys2Proof.Machine.execAsyncEventRequest tag s
  | .identifyNamespace tag => Sys2Proof.Machine.execIdentifyNamespace tag s
  | .identifyController tag => Sys2Proof.Machine.execIdentifyController tag s
  | .identifyActiveNsList tag => Sys2Proof.Machine.execIdentifyActiveNsList tag s
  | .identifyNsIdDescriptors tag => Sys2Proof.Machine.execIdentifyNsIdDescriptors tag s
  | .identifyCssNamespace tag => Sys2Proof.Machine.execIdentifyCssNamespace tag s
  | .identifyCssController tag => Sys2Proof.Machine.execIdentifyCssController tag s
  | .identifyCssIndependentNs tag => Sys2Proof.Machine.execIdentifyCssIndependentNs tag s
  | .identifyAllocatedNsList tag => Sys2Proof.Machine.execIdentifyAllocatedNsList tag s
  | .identifyAllocatedNamespace tag => Sys2Proof.Machine.execIdentifyAllocatedNamespace tag s
  | .identifyAttachedCtrlList tag => Sys2Proof.Machine.execIdentifyAttachedCtrlList tag s
  | .identifyControllerList tag => Sys2Proof.Machine.execIdentifyControllerList tag s
  | .identifyPrimaryCtrlCaps tag => Sys2Proof.Machine.execIdentifyPrimaryCtrlCaps tag s
  | .identifySecondaryCtrlList tag => Sys2Proof.Machine.execIdentifySecondaryCtrlList tag s
  | .identifyIoCmdSet tag => Sys2Proof.Machine.execIdentifyIoCmdSet tag s
  | .getLogSupportedPages tag => Sys2Proof.Machine.execGetLogSupportedPages tag s
  | .getLogErrorInfo tag => Sys2Proof.Machine.execGetLogErrorInfo tag s
  | .getLogSmart tag => Sys2Proof.Machine.execGetLogSmart tag s
  | .getLogFwSlot tag => Sys2Proof.Machine.execGetLogFwSlot tag s
  | .getLogCmdEffects tag => Sys2Proof.Machine.execGetLogCmdEffects tag s
  | .getLogSelfTest tag => Sys2Proof.Machine.execGetLogSelfTest tag s
  | .getLogEndurance tag => Sys2Proof.Machine.execGetLogEndurance tag s
  | .getLogLbaStatus tag => Sys2Proof.Machine.execGetLogLbaStatus tag s
  | .getLogFdpConfigs tag => Sys2Proof.Machine.execGetLogFdpConfigs tag s
  | .getLogRuhUsage tag => Sys2Proof.Machine.execGetLogRuhUsage tag s
  | .getLogFdpStats tag => Sys2Proof.Machine.execGetLogFdpStats tag s
  | .getLogFdpEvents tag => Sys2Proof.Machine.execGetLogFdpEvents tag s
  | .getLogSanitizeStatus tag => Sys2Proof.Machine.execGetLogSanitizeStatus tag s
  | .getLogWheelPlan tag => Sys2Proof.Machine.execGetLogWheelPlan tag s
  | .getLogGirthHealth tag => Sys2Proof.Machine.execGetLogGirthHealth tag s
  | .getLogEventCounters tag => Sys2Proof.Machine.execGetLogEventCounters tag s
  | .getLogEventCountersClear tag => Sys2Proof.Machine.execGetLogEventCountersClear tag s
  | .getLogSaddlebagRing tag => Sys2Proof.Machine.execGetLogSaddlebagRing tag s
  | .getLogSaddlebagRelease tag => Sys2Proof.Machine.execGetLogSaddlebagRelease tag s
  | .getLogSaddlebagPersisted tag => Sys2Proof.Machine.execGetLogSaddlebagPersisted tag s
  | .saddlebagTransferEnd tag => Sys2Proof.Machine.execSaddlebagTransferEnd tag s
  | .getLogIdentity tag => Sys2Proof.Machine.execGetLogIdentity tag s
  | .getLogSecureDiscard tag => Sys2Proof.Machine.execGetLogSecureDiscard tag s
  | .getLogReinHealth tag => Sys2Proof.Machine.execGetLogReinHealth tag s
  | .setFeaturesArbitration tag => Sys2Proof.Machine.execSetFeaturesArbitration tag s
  | .getFeaturesArbitration tag => Sys2Proof.Machine.execGetFeaturesArbitration tag s
  | .setFeaturesPsOperational tag => Sys2Proof.Machine.execSetFeaturesPsOperational tag s
  | .setFeaturesPs4 tag => Sys2Proof.Machine.execSetFeaturesPs4 tag s
  | .ps4EntryEnd => Sys2Proof.Machine.execPs4EntryEnd s
  | .ps4ExitDone => Sys2Proof.Machine.execPs4ExitDone s
  | .getFeaturesPowerMgmt tag => Sys2Proof.Machine.execGetFeaturesPowerMgmt tag s
  | .setFeaturesTempThreshold tag => Sys2Proof.Machine.execSetFeaturesTempThreshold tag s
  | .getFeaturesTempThreshold tag => Sys2Proof.Machine.execGetFeaturesTempThreshold tag s
  | .setFeaturesNumQueues tag => Sys2Proof.Machine.execSetFeaturesNumQueues tag s
  | .getFeaturesNumQueues tag => Sys2Proof.Machine.execGetFeaturesNumQueues tag s
  | .setFeaturesIntCoalescing tag => Sys2Proof.Machine.execSetFeaturesIntCoalescing tag s
  | .getFeaturesIntCoalescing tag => Sys2Proof.Machine.execGetFeaturesIntCoalescing tag s
  | .setFeaturesIntVectorCfg tag => Sys2Proof.Machine.execSetFeaturesIntVectorCfg tag s
  | .getFeaturesIntVectorCfg tag => Sys2Proof.Machine.execGetFeaturesIntVectorCfg tag s
  | .setFeaturesAsyncEventCfg tag => Sys2Proof.Machine.execSetFeaturesAsyncEventCfg tag s
  | .getFeaturesAsyncEventCfg tag => Sys2Proof.Machine.execGetFeaturesAsyncEventCfg tag s
  | .setFeaturesFdp tag => Sys2Proof.Machine.execSetFeaturesFdp tag s
  | .getFeaturesFdp tag => Sys2Proof.Machine.execGetFeaturesFdp tag s
  | .setFeaturesFdpEvents tag types => Sys2Proof.Machine.execSetFeaturesFdpEvents tag types s
  | .getFeaturesFdpEvents tag => Sys2Proof.Machine.execGetFeaturesFdpEvents tag s
  | .setFeaturesWheelCfg tag buf => Sys2Proof.Machine.execSetFeaturesWheelCfg tag buf s
  | .getFeaturesWheelCfg tag => Sys2Proof.Machine.execGetFeaturesWheelCfg tag s
  | .setFeaturesTwinRein tag buf => Sys2Proof.Machine.execSetFeaturesTwinRein tag buf s
  | .getFeaturesTwinRein tag => Sys2Proof.Machine.execGetFeaturesTwinRein tag s
  | .setFeaturesThrottleGrace tag buf => Sys2Proof.Machine.execSetFeaturesThrottleGrace tag buf s
  | .getFeaturesThrottleGrace tag => Sys2Proof.Machine.execGetFeaturesThrottleGrace tag s
  | .setFeaturesCounterSelect tag buf => Sys2Proof.Machine.execSetFeaturesCounterSelect tag buf s
  | .getFeaturesCounterSelect tag => Sys2Proof.Machine.execGetFeaturesCounterSelect tag s
  | .setFeaturesDirtyWindow tag buf => Sys2Proof.Machine.execSetFeaturesDirtyWindow tag buf s
  | .getFeaturesDirtyWindow tag => Sys2Proof.Machine.execGetFeaturesDirtyWindow tag s
  | .setFeaturesSkiver tag buf => Sys2Proof.Machine.execSetFeaturesSkiver tag buf s
  | .getFeaturesSkiver tag => Sys2Proof.Machine.execGetFeaturesSkiver tag s
  | .cipherBindSet tag buf => Sys2Proof.Machine.execCipherBindSet tag buf s
  | .cipherBindGet tag => Sys2Proof.Machine.execCipherBindGet tag s
  | .cipherBlobPart tag buf => Sys2Proof.Machine.execCipherBlobPart tag buf s
  | .cipherErase tag => Sys2Proof.Machine.execCipherErase tag s
  | .cipherLabel tag buf => Sys2Proof.Machine.execCipherLabel tag buf s
  | .cipherStatus tag => Sys2Proof.Machine.execCipherStatus tag s
  | .namespaceCreate tag spec => Sys2Proof.Machine.execNamespaceCreate tag spec s
  | .namespaceDelete tag => Sys2Proof.Machine.execNamespaceDelete tag s
  | .namespaceAttach tag ctrls => Sys2Proof.Machine.execNamespaceAttach tag ctrls s
  | .namespaceDetach tag ctrls => Sys2Proof.Machine.execNamespaceDetach tag ctrls s
  | .selfTestShort tag => Sys2Proof.Machine.execSelfTestShort tag s
  | .selfTestExtended tag => Sys2Proof.Machine.execSelfTestExtended tag s
  | .selfTestAbort tag => Sys2Proof.Machine.execSelfTestAbort tag s
  | .nvmeMiSend tag request => Sys2Proof.Machine.execNvmeMiSend tag request s
  | .nvmeMiReceive tag => Sys2Proof.Machine.execNvmeMiReceive tag s
  | .formatNvmErase tag => Sys2Proof.Machine.execFormatNvmErase tag s
  | .formatNvmCrypto tag => Sys2Proof.Machine.execFormatNvmCrypto tag s
  | .sanitizeBlockErase tag => Sys2Proof.Machine.execSanitizeBlockErase tag s
  | .sanitizeCryptoErase tag => Sys2Proof.Machine.execSanitizeCryptoErase tag s
  | .sanitizeExitFailure tag => Sys2Proof.Machine.execSanitizeExitFailure tag s
  | .sanitizeOverwrite tag => Sys2Proof.Machine.execSanitizeOverwrite tag s
  | .getLbaStatus tag => Sys2Proof.Machine.execGetLbaStatus tag s
  | .unsupportedAdminCommand tag => Sys2Proof.Machine.execUnsupportedAdminCommand tag s
  | .tackLease tag packet => Sys2Proof.Machine.execTackLease tag packet s
  | .wheelStatus tag => Sys2Proof.Machine.execWheelStatus tag s
  | .tsStatus tag => Sys2Proof.Machine.execTsStatus tag s
  | .tsReadImage tag => Sys2Proof.Machine.execTsReadImage tag s
  | .tsUpdBegin tag => Sys2Proof.Machine.execTsUpdBegin tag s
  | .tsUpdData tag data => Sys2Proof.Machine.execTsUpdData tag data s
  | .tsUpdCommit tag => Sys2Proof.Machine.execTsUpdCommit tag s
  | .tsUpdCancel tag => Sys2Proof.Machine.execTsUpdCancel tag s
  | .tsSetKey tag data => Sys2Proof.Machine.execTsSetKey tag data s
  | .tsLock tag => Sys2Proof.Machine.execTsLock tag s
  | .tsUnlock tag => Sys2Proof.Machine.execTsUnlock tag s
  | .tsEraseImage tag => Sys2Proof.Machine.execTsEraseImage tag s
  | .tsSetId tag data => Sys2Proof.Machine.execTsSetId tag data s
  | .tsRefresh tag => Sys2Proof.Machine.execTsRefresh tag s
  | .flush tag => Sys2Proof.Machine.execFlush tag s
  | .write tag data pi => Sys2Proof.Machine.execWrite tag data pi s
  | .read tag => Sys2Proof.Machine.execRead tag s
  | .compare tag data => Sys2Proof.Machine.execCompare tag data s
  | .writeZeroes tag => Sys2Proof.Machine.execWriteZeroes tag s
  | .dsmDeallocate tag ranges => Sys2Proof.Machine.execDsmDeallocate tag ranges s
  | .dsmNoDeallocate tag => Sys2Proof.Machine.execDsmNoDeallocate tag s
  | .verify tag => Sys2Proof.Machine.execVerify tag s
  | .ioMgmtReceive tag => Sys2Proof.Machine.execIoMgmtReceive tag s
  | .ruhUpdate tag handles => Sys2Proof.Machine.execRuhUpdate tag handles s
  | .skiveStream tag input chain => Sys2Proof.Machine.execSkiveStream tag input chain s
  | .unskiveStream tag input chain => Sys2Proof.Machine.execUnskiveStream tag input chain s
  | .keyedCheckCompute tag data => Sys2Proof.Machine.execKeyedCheckCompute tag data s
  | .keyedCheckVerify tag data => Sys2Proof.Machine.execKeyedCheckVerify tag data s
  | .secureDiscard tag ranges => Sys2Proof.Machine.execSecureDiscard tag ranges s
  | .unsupportedIoCommand tag => Sys2Proof.Machine.execUnsupportedIoCommand tag s
  | .dramBurstDecode addr badSymbols place => Sys2Proof.Machine.execDramBurstDecode addr badSymbols place s
  | .laneCounterWindow => Sys2Proof.Machine.execLaneCounterWindow s
  | .dramScrubRead badSymbols => Sys2Proof.Machine.execDramScrubRead badSymbols s
  | .dramRefreshDue ch rank bank => Sys2Proof.Machine.execDramRefreshDue ch rank bank s
  | .neighbourRefresh ch rank bank => Sys2Proof.Machine.execNeighbourRefresh ch rank bank s
  | .rankPowerDown ch rank idleNs => Sys2Proof.Machine.execRankPowerDown ch rank idleNs s
  | .mcFillDone bank crcOk err => Sys2Proof.Machine.execMcFillDone bank crcOk err s
  | .mcWritebackDone bank => Sys2Proof.Machine.execMcWritebackDone bank s
  | .mcDisableRequest banks => Sys2Proof.Machine.execMcDisableRequest banks s
  | .mcEnableRequest banks => Sys2Proof.Machine.execMcEnableRequest banks s
  | .dmaDescAppend ch desc => Sys2Proof.Machine.execDmaDescAppend ch desc s
  | .dmaBurstDone poisoned => Sys2Proof.Machine.execDmaBurstDone poisoned s
  | .dmaFifoDrained fifo fill => Sys2Proof.Machine.execDmaFifoDrained fifo fill s
  | .dmaPause ch holder => Sys2Proof.Machine.execDmaPause ch holder s
  | .dmaRelease ch holder => Sys2Proof.Machine.execDmaRelease ch holder s
  | .dmaAbort ch => Sys2Proof.Machine.execDmaAbort ch s
  | .sensorConversion readings => Sys2Proof.Machine.execSensorConversion readings s
  | .sensorNoConversion sensor => Sys2Proof.Machine.execSensorNoConversion sensor s
  | .sensorWorksAgain sensor => Sys2Proof.Machine.execSensorWorksAgain sensor s
  | .thermalLevelFall => Sys2Proof.Machine.execThermalLevelFall s
  | .graceExpire second => Sys2Proof.Machine.execGraceExpire second s
  | .tripResume => Sys2Proof.Machine.execTripResume s
  | .reserveCompUpdate => Sys2Proof.Machine.execReserveCompUpdate s
  | .tsOpDone result => Sys2Proof.Machine.execTsOpDone result s
  | .tsScrubRead found => Sys2Proof.Machine.execTsScrubRead found s
  | .faultReport code sev => Sys2Proof.Machine.execFaultReport code sev s
  | .faultStepDone => Sys2Proof.Machine.execFaultStepDone s
  | .fatalCompletionsWritten => Sys2Proof.Machine.execFatalCompletionsWritten s
  | .mainDomainStall => Sys2Proof.Machine.execMainDomainStall s
  | .vddIoFall => Sys2Proof.Machine.execVddIoFall s
  | .jtagTapReset => Sys2Proof.Machine.execJtagTapReset s
  | .jtagBypass => Sys2Proof.Machine.execJtagBypass s
  | .jtagIdcode => Sys2Proof.Machine.execJtagIdcode s
  | .jtagSamplePreload cells => Sys2Proof.Machine.execJtagSamplePreload cells s
  | .jtagExtest => Sys2Proof.Machine.execJtagExtest s
  | .jtagClamp => Sys2Proof.Machine.execJtagClamp s
  | .jtagHighz => Sys2Proof.Machine.execJtagHighz s
  | .sidebandMiCommand request => Sys2Proof.Machine.execSidebandMiCommand request s
  | .i3cBroadcast => Sys2Proof.Machine.execI3cBroadcast s
  | .keeperBallChange rein level => Sys2Proof.Machine.execKeeperBallChange rein level s
  | .pwrfailNHighFilterExpire => Sys2Proof.Machine.execPwrfailNHighFilterExpire s
  | .i3cResetAction => Sys2Proof.Machine.execI3cResetAction s
  | .dumpRowStep => Sys2Proof.Machine.execDumpRowStep s
  | .hostMemoryError tag addr => Sys2Proof.Machine.execHostMemoryError tag addr s
  | .malformedTlp rein => Sys2Proof.Machine.execMalformedTlp rein s
  | .identifyUnsupportedCns tag => Sys2Proof.Machine.execIdentifyUnsupportedCns tag s
  | .getLogUnsupportedPage tag => Sys2Proof.Machine.execGetLogUnsupportedPage tag s
  | .featuresUnsupportedId tag => Sys2Proof.Machine.execFeaturesUnsupportedId tag s
  | .tsAccessUnlistedOp tag => Sys2Proof.Machine.execTsAccessUnlistedOp tag s

end Sys2Proof.Machine
end

