-- ==== Sys2Proof/Safety.lean ====
section
/-! DEFINITION. What statements say of runs: a host command that can be answered at once, its answer, the parts of the device that a command leaves
as they are, and the bounds the wheel stays within. -/
namespace Sys2Proof.Machine

/-- A host command in hand whose completion can be written as soon as it is proposed: its row waits, it owes its completion to the one side that
fetched it, that side's completion queue has a slot (R273), no other completion waits, the front end runs, and no dump has begun (R219). -/
structure AtHand (s : State) (tag : Nat) (c : Cmd) (q : Sq) (x : SqSide) (cq : Cq) (cid : Nat) : Prop where
  row : s.cmd tag = some c
  fresh : c.started = false ∧ c.result = none ∧ c.held = false
  owes : c.owed = [(c.port.rein, cid)]
  fetched : cid < noCid
  queue : s.sq c.sq = some q
  side : q.side c.port.rein = some x
  place : s.cq x.cq = some cq
  room : cq.room = true
  alone : s.fe.ready = [] ∧ s.fe.mismatches = []
  runs : s.fe.stopped = false
  awake : s.dump.since = false
  queued : c.tunnelled = false

/-- A command has been answered: its row is free, and its completion entry, with the status `r` and the data returned, stands at the tail of its side's
completion queue (R247, R273). -/
def Answered (t : State) (tag : Nat) (q : Sq) (x : SqSide) (cq : Cq) (cid : Nat) (r : CmdResult) (data : List Byte) : Prop :=
  t.cmd tag = none ∧ t.cq x.cq = some (cq.post (sideEntry q x cid r data))

/-- The wheel, the plan selector, the reins, DRAM, DMA, the thermal controller and the tables in force stand as they were. -/
def SameFrame (s t : State) : Prop :=
  t.pending = s.pending ∧ t.wheel = s.wheel ∧ t.plan = s.plan ∧ t.rein = s.rein ∧ t.dram = s.dram ∧ t.dma = s.dma ∧ t.therm = s.therm ∧ t.img = s.img

/-- The awls, the decoders, the map, the blocks, the girths, the write buffer, the dump, the keys, the skiver, the map cache and flash stand as they
were: nothing of the user's data has moved. -/
def SameData (s t : State) : Prop :=
  t.awl = s.awl ∧ t.codec = s.codec ∧ t.map = s.map ∧ t.blk = s.blk ∧ t.girth = s.girth ∧ t.wb = s.wb ∧ t.dump = s.dump ∧ t.cipher = s.cipher ∧ t.skv = s.skv
    ∧ t.mc = s.mc ∧ t.media = s.media

/-- The front end's tables stand as they were, but for the command's row, its completion queue, the Error Information log and SMART's counts; a lease that
waits for the completion sees it posted. -/
structure SameDesk (s t : State) (tag k : Nat) : Prop where
  rows : ∀ n, n ≠ tag → t.cmd n = s.cmd n
  queues : ∀ n, n ≠ k → t.cq n = s.cq n
  rest : { t.fe with cmds := s.fe.cmds, cqs := s.fe.cqs, errors := s.fe.errors, errorCount := s.fe.errorCount, hostReads := s.fe.hostReads,
                     hostWrites := s.fe.hostWrites, unitsRead := s.fe.unitsRead, unitsWritten := s.fe.unitsWritten, leases := s.fe.leases } = s.fe
  leases : t.fe.leases = postLeases tag s.fe.leases

/-- The command has been answered with status `r` and the data returned, and the rest of the device stands as it was: besides the command's row and its
completion queue only the counters, the records, the Error Information log and the tree store's queue may differ. -/
def Served (s t : State) (tag : Nat) (q : Sq) (x : SqSide) (cq : Cq) (cid : Nat) (r : CmdResult) (data : List Byte) : Prop :=
  Answered t tag q x cq cid r data ∧ SameFrame s t ∧ SameData s t ∧ SameDesk s t tag x.cq ∧ t.pkg = s.pkg ∧ t.fault = s.fault

/-- A Get Log Page has been answered: an offset at or past the page's end ends with 0:0x02; any other takes its bytes of the page, and with RAE 0 the page's
events of the controller are cleared (R269, R270). -/
def LogAnswered (s t : State) (tag : Nat) (c : Cmd) (q : Sq) (x : SqSide) (cq : Cq) (cid length : Nat) (base : Nat → Byte) (pg : Page) : Prop :=
  if length ≤ logOff c then Served s t tag q x cq cid invalidField c.out else Served (s.logRead c) t tag q x cq cid ok (logSlice c length base pg)

/-- A command at hand has begun in `u` and waits under a key until what it asked of the tree store is durable: no completion is posted. -/
def Parked (u t : State) (tag : Nat) (c : Cmd) (key : Nat) : Prop :=
  SameFrame u t ∧ SameData u t ∧ t.cmd tag = some { c with started := true } ∧ t.fe.cqs = u.fe.cqs ∧ t.fe.saving = u.fe.saving ++ [(key, tag)] ∧ t.ts = u.ts.pump

/-- A Set Features of a vendor feature whose setting stands in `u`: with SV 0 it has succeeded; with SV 1 its FEATURE record is on its way to the option
log, and the command waits for it (R37, R268, R415). -/
def FeatureTaken (u t : State) (tag : Nat) (c : Cmd) (q : Sq) (x : SqSide) (cq : Cq) (cid fid sel : Nat) (buf : BitVec 256) : Prop :=
  if setSv c then Parked (u.writeRec .optionLog (.optFeature fid sel buf)) t tag c (saveKey fid sel) else Served u t tag q x cq cid ok c.out

/-- An update command has been refused with 7:0xC5, its reason in DW0: staging and slot stand as they were (R424). -/
def UpdateRefused (s t : State) (tag : Nat) (c : Cmd) (q : Sq) (x : SqSide) (cq : Cq) (cid reason dw1 : Nat) : Prop :=
  Answered t tag q x cq cid { sct := 7, sc := 0xC5, dnr := false, dw0 := reason, dw1 := dw1 } c.out ∧ SameFrame s t ∧ SameData s t
    ∧ t.ts.lastReason = reason ∧ t.ts.staging = s.ts.staging ∧ t.ts.writing = s.ts.writing ∧ t.ts.image = s.ts.image ∧ t.ts.updState = s.ts.updState

/-- A Get Features of a standard feature has been answered in DW0: SEL 0 the value in force, 1 and 2 its default, 3 the capabilities; another SEL ends with
0:0x02 (R262, R267). -/
def Dw0Answered (s t : State) (tag : Nat) (c : Cmd) (q : Sq) (x : SqSide) (cq : Cq) (cid current dflt caps : Nat) : Prop :=
  Served s t tag q x cq cid (match getSel c with | 0 => okDw0 current | 1 => okDw0 dflt | 2 => okDw0 dflt | 3 => okDw0 caps | _ => invalidField) c.out

/-- A Get Features of a vendor feature has been answered with 32 bytes: SEL 0 the value in force, 1 its default, 2 the saved value; SEL 3 answers the
capabilities in DW0, another SEL ends with 0:0x02 (R262, R268). -/
def BufferAnswered (s t : State) (tag : Nat) (c : Cmd) (q : Sq) (x : SqSide) (cq : Cq) (cid current dflt saved : Nat) : Prop :=
  match getSel c with
  | 0 => Served s t tag q x cq cid ok (toBytes 32 current)
  | 1 => Served s t tag q x cq cid ok (toBytes 32 dflt)
  | 2 => Served s t tag q x cq cid ok (toBytes 32 saved)
  | 3 => Served s t tag q x cq cid (okDw0 5) c.out
  | _ => Served s t tag q x cq cid invalidField c.out

/-- A JTAG instruction that leaves the balls alone has been loaded: its data register is selected and the balls are given back; nothing else has changed,
but that a dump which a boundary-scan instruction waits for is marked as its own (R464, R465). -/
def ScanFreed (s t : State) (i : JtagInstr) (out : List Bool) : Prop :=
  t.pkg = { s.pkg with jtag := i, jtagOut := out, jtagWaiting := none, ballsTaken := false } ∧ { t with pkg := s.pkg, dump := s.dump } = s
    ∧ { t.dump with run := s.dump.run } = s.dump ∧ (s.pkg.jtagWaiting = none → t.dump = s.dump)

/-- A command at hand has begun and its units have been taken into work: its row names them, in order, after those it had, each stands as a job under the
next free numbers, no other job differs, and nothing else has changed but the row (R14, R140). -/
def UnitsTaken (s u : State) (tag : Nat) (row : Cmd) (jobs : List UnitJob) : Prop :=
  u.cmd tag = some { row with started := true, units := row.units ++ (List.range jobs.length).map (s.fe.nextJob + ·) }
    ∧ (∀ i j, jobs[i]? = some j → u.job (s.fe.nextJob + i) = some j) ∧ (∀ k, k < s.fe.nextJob ∨ s.fe.nextJob + jobs.length ≤ k → u.job k = s.job k)
    ∧ (∀ k, k ≠ tag → u.cmd k = s.cmd k) ∧ u.fe.cqs = s.fe.cqs ∧ u.fe.ready = s.fe.ready ∧ SameFrame s u ∧ SameData s u

/-- The job of a unit that a write touches: a whole unit goes to the skiver, part of one is merged into its old content first (R140). -/
def writeJob (tag : Nat) (n : Namespace) (data : List Byte) (stream : Nat) (tags : Nat → Nat) (x : Nat × Nat × Nat × Nat) : UnitJob :=
  { ioJob tag .write (if x.2.2.1 = 4096 then .skiver else .mergeWait) n.nsx x.1 0 x.2.1 x.2.2.1 with
    data := padTo x.2.2.1 (sliceBytes data x.2.2.2 x.2.2.1), tagRec := tags x.1, stream := stream, merge := decide (x.2.2.1 ≠ 4096) }

/-- The job of a unit that a read, compare or verify touches. -/
def readJob (tag : Nat) (c : Cmd) (n : Namespace) (kind : UnitKind) (data : List Byte) (x : Nat × Nat × Nat × Nat) : UnitJob :=
  { ioJob tag kind .lookup n.nsx x.1 (readLayout n c (x.2.2.2 / n.lbaBytes)).1 x.2.1 x.2.2.1 with
    data := padTo x.2.2.1 (sliceBytes data x.2.2.2 x.2.2.1), metaAt := (readLayout n c (x.2.2.2 / n.lbaBytes)).2 }

/-- The jobs of a unit that a discard touches: a whole unit is unmapped, the blocks of part of one are written as zeros; a secure discard marks it too
(R147 to R149). -/
def discardJobs (tag : Nat) (n : Namespace) (stream : Nat) (secure : Bool) (x : Nat × Nat × Nat × Nat) : List UnitJob :=
  if x.2.2.1 = 4096 then [{ ioJob tag .discard .lookup n.nsx x.1 0 0 4096 with merge := secure }]
  else (if secure then [{ ioJob tag .discard .lookup n.nsx x.1 0 x.2.1 x.2.2.1 with merge := true }] else [])
    ++ [{ ioJob tag .write .mergeWait n.nsx x.1 0 x.2.1 x.2.2.1 with data := List.replicate x.2.2.1 0#8, stream := stream, merge := true, secure := secure }]

/-- The stream of placement handle 0, where FDP is enabled (R144). -/
def State.handle0 (s : State) (n : Namespace) : Nat := (if s.map.fdp then n.handles[0]? else none).getD 0

/-- The commands that bring a power-on reset: the pin's own, the fall of VDD_IO, the end of a hold, and the end of a dump that leaves none. -/
def beginsPowerOn : Instr → Bool
  | .powerOnReset _ => true
  | .vddIoFall => true
  | .pwrfailNHighFilterExpire => true
  | .tripResume .. => true
  | .tsOpDone _ => true
  | _ => false

/-- The row of the command table whose command a host command's meaning is; none for the commands of links, dies, timers and engines, and for a transfer
that ends or a memory error, which meet a command that has begun. -/
def hostTag : Instr → Option Nat
  | .deleteIoSq tag => some tag
  | .createIoSq tag => some tag
  | .deleteIoCq tag => some tag
  | .createIoCq tag => some tag
  | .abort tag => some tag
  | .asyncEventRequest tag => some tag
  | .identifyNamespace tag => some tag
  | .identifyController tag => some tag
  | .identifyActiveNsList tag => some tag
  | .identifyNsIdDescriptors tag => some tag
  | .identifyCssNamespace tag => some tag
  | .identifyCssController tag => some tag
  | .identifyCssIndependentNs tag => some tag
  | .identifyAllocatedNsList tag => some tag
  | .identifyAllocatedNamespace tag => some tag
  | .identifyAttachedCtrlList tag => some tag
  | .identifyControllerList tag => some tag
  | .identifyPrimaryCtrlCaps tag => some tag
  | .identifySecondaryCtrlList tag => some tag
  | .identifyIoCmdSet tag => some tag
  | .getLogSupportedPages tag => some tag
  | .getLogErrorInfo tag => some tag
  | .getLogSmart tag => some tag
  | .getLogFwSlot tag => some tag
  | .getLogCmdEffects tag => some tag
  | .getLogSelfTest tag => some tag
  | .getLogEndurance tag => some tag
  | .getLogLbaStatus tag => some tag
  | .getLogFdpConfigs tag => some tag
  | .getLogRuhUsage tag => some tag
  | .getLogFdpStats tag => some tag
  | .getLogFdpEvents tag => some tag
  | .getLogSanitizeStatus tag => some tag
  | .getLogWheelPlan tag => some tag
  | .getLogGirthHealth tag => some tag
  | .getLogEventCounters tag => some tag
  | .getLogEventCountersClear tag => some tag
  | .getLogSaddlebagRing tag => some tag
  | .getLogSaddlebagRelease tag => some tag
  | .getLogSaddlebagPersisted tag => some tag
  | .getLogIdentity tag => some tag
  | .getLogSecureDiscard tag => some tag
  | .getLogReinHealth tag => some tag
  | .setFeaturesArbitration tag => some tag
  | .getFeaturesArbitration tag => some tag
  | .setFeaturesPsOperational tag => some tag
  | .setFeaturesPs4 tag => some tag
  | .getFeaturesPowerMgmt tag => some tag
  | .setFeaturesTempThreshold tag => some tag
  | .getFeaturesTempThreshold tag => some tag
  | .setFeaturesNumQueues tag => some tag
  | .getFeaturesNumQueues tag => some tag
  | .setFeaturesIntCoalescing tag => some tag
  | .getFeaturesIntCoalescing tag => some tag
  | .setFeaturesIntVectorCfg tag => some tag
  | .getFeaturesIntVectorCfg tag => some tag
  | .setFeaturesAsyncEventCfg tag => some tag
  | .getFeaturesAsyncEventCfg tag => some tag
  | .setFeaturesFdp tag => some tag
  | .getFeaturesFdp tag => some tag
  | .setFeaturesFdpEvents tag .. => some tag
  | .getFeaturesFdpEvents tag => some tag
  | .setFeaturesWheelCfg tag .. => some tag
  | .getFeaturesWheelCfg tag => some tag
  | .setFeaturesTwinRein tag .. => some tag
  | .getFeaturesTwinRein tag => some tag
  | .setFeaturesThrottleGrace tag .. => some tag
  | .getFeaturesThrottleGrace tag => some tag
  | .setFeaturesCounterSelect tag .. => some tag
  | .getFeaturesCounterSelect tag => some tag
  | .setFeaturesDirtyWindow tag .. => some tag
  | .getFeaturesDirtyWindow tag => some tag
  | .setFeaturesSkiver tag .. => some tag
  | .getFeaturesSkiver tag => some tag
  | .cipherBindSet tag .. => some tag
  | .cipherBindGet tag => some tag
  | .cipherBlobPart tag .. => some tag
  | .cipherErase tag => some tag
  | .cipherLabel tag .. => some tag
  | .cipherStatus tag => some tag
  | .namespaceCreate tag .. => some tag
  | .namespaceDelete tag => some tag
  | .namespaceAttach tag .. => some tag
  | .namespaceDetach tag .. => some tag
  | .selfTestShort tag => some tag
  | .selfTestExtended tag => some tag
  | .selfTestAbort tag => some tag
  | .nvmeMiSend tag .. => some tag
  | .nvmeMiReceive tag => some tag
  | .formatNvmErase tag => some tag
  | .formatNvmCrypto tag => some tag
  | .sanitizeBlockErase tag => some tag
  | .sanitizeCryptoErase tag => some tag
  | .sanitizeExitFailure tag => some tag
  | .sanitizeOverwrite tag => some tag
  | .getLbaStatus tag => some tag
  | .unsupportedAdminCommand tag => some tag
  | .tackLease tag .. => some tag
  | .wheelStatus tag => some tag
  | .tsStatus tag => some tag
  | .tsReadImage tag => some tag
  | .tsUpdBegin tag => some tag
  | .tsUpdData tag .. => some tag
  | .tsUpdCommit tag => some tag
  | .tsUpdCancel tag => some tag
  | .tsSetKey tag .. => some tag
  | .tsLock tag => some tag
  | .tsUnlock tag => some tag
  | .tsEraseImage tag => some tag
  | .tsSetId tag .. => some tag
  | .tsRefresh tag => some tag
  | .flush tag => some tag
  | .write tag .. => some tag
  | .read tag => some tag
  | .compare tag .. => some tag
  | .writeZeroes tag => some tag
  | .dsmDeallocate tag .. => some tag
  | .dsmNoDeallocate tag => some tag
  | .verify tag => some tag
  | .ioMgmtReceive tag => some tag
  | .ruhUpdate tag .. => some tag
  | .skiveStream tag .. => some tag
  | .unskiveStream tag .. => some tag
  | .keyedCheckCompute tag .. => some tag
  | .keyedCheckVerify tag .. => some tag
  | .secureDiscard tag .. => some tag
  | .unsupportedIoCommand tag => some tag
  | .identifyUnsupportedCns tag => some tag
  | .getLogUnsupportedPage tag => some tag
  | .featuresUnsupportedId tag => some tag
  | .tsAccessUnlistedOp tag => some tag
  | _ => none

/-- The commands that may change the tables in force: those that bring a power-on reset, a start-up step, and a report that enters halter mode. -/
def changesImage : Instr → Bool
  | .powerOnReset .. => true
  | .bootStepDone .. => true
  | .tripResume => true
  | .tsOpDone .. => true
  | .faultReport .. => true
  | .vddIoFall => true
  | .pwrfailNHighFilterExpire => true
  | _ => false

/-- The commands that may change the thermal controller: its own, features 0x04 and 0xC2, start-up, those that reset a controller (R9), and those that bring a
power-on reset. -/
def changesThermal : Instr → Bool
  | .powerOnReset .. => true
  | .bootStepDone .. => true
  | .setFeaturesTempThreshold .. => true
  | .setFeaturesThrottleGrace .. => true
  | .sensorConversion .. => true
  | .sensorNoConversion .. => true
  | .sensorWorksAgain .. => true
  | .thermalLevelFall => true
  | .graceExpire .. => true
  | .functionLevelReset .. => true
  | .perstAssert .. => true
  | .hotReset .. => true
  | .ccEnClear .. => true
  | .registerWrite .. => true
  | .tripResume => true
  | .reserveCompUpdate => true
  | .tsOpDone .. => true
  | .vddIoFall => true
  | .pwrfailNHighFilterExpire => true
  | _ => false

/-- The commands that may change the DMA: its own, the round boundary (a frequency change), those that may enter fault stop, and those that bring a power-on
reset. -/
def changesDma : Instr → Bool
  | .powerOnReset .. => true
  | .localRoundBoundary .. => true
  | .crystalStopDetect => true
  | .dmaDescAppend .. => true
  | .dmaBurstDone .. => true
  | .dmaFifoDrained .. => true
  | .dmaPause .. => true
  | .dmaRelease .. => true
  | .dmaAbort .. => true
  | .tripResume => true
  | .tsOpDone .. => true
  | .faultReport .. => true
  | .faultStepDone => true
  | .fatalCompletionsWritten => true
  | .mainDomainStall => true
  | .vddIoFall => true
  | .pwrfailNHighFilterExpire => true
  | _ => false

/-- The commands that may change the plan selector: its own, the round boundary, start-up, a poisoned plan read, those that may start or end a dump or enter
fault stop, and those that bring a power-on reset. -/
def changesPlan : Instr → Bool
  | .powerOnReset .. => true
  | .bootStepDone .. => true
  | .localRoundBoundary .. => true
  | .planSample => true
  | .planLoadDone .. => true
  | .planShadowReloadDone => true
  | .crystalStopDetect => true
  | .pwrfailFilterExpire => true
  | .ccEnSet .. => true
  | .ccShnWrite .. => true
  | .dramBurstDecode .. => true
  | .sensorConversion .. => true
  | .tripResume => true
  | .tsOpDone .. => true
  | .faultReport .. => true
  | .faultStepDone => true
  | .fatalCompletionsWritten => true
  | .mainDomainStall => true
  | .vddIoFall => true
  | .jtagExtest => true
  | .jtagClamp => true
  | .jtagHighz => true
  | .pwrfailNHighFilterExpire => true
  | _ => false

/-- The commands that may change the wheel: its own, feature 0xC0, start-up, those that reset a controller (R9) or restart from a shutdown dump, those that may
start or end a dump or enter fault stop, and those that bring a power-on reset. -/
def changesWheel : Instr → Bool
  | .powerOnReset .. => true
  | .bootStepDone .. => true
  | .toothBoundary .. => true
  | .localRoundBoundary .. => true
  | .paceEdge .. => true
  | .ptmExchangeDone .. => true
  | .edgeWindowClose => true
  | .holdoverGuardExceeded => true
  | .freqClampPersist => true
  | .crystalStopDetect => true
  | .wtReserve => true
  | .pwrfailFilterExpire => true
  | .functionLevelReset .. => true
  | .perstAssert .. => true
  | .hotReset .. => true
  | .ccEnClear .. => true
  | .registerWrite .. => true
  | .ccEnSet .. => true
  | .ccShnWrite .. => true
  | .setFeaturesWheelCfg .. => true
  | .sensorConversion .. => true
  | .tripResume => true
  | .tsOpDone .. => true
  | .faultReport .. => true
  | .faultStepDone => true
  | .fatalCompletionsWritten => true
  | .mainDomainStall => true
  | .vddIoFall => true
  | .jtagExtest => true
  | .jtagClamp => true
  | .jtagHighz => true
  | .pwrfailNHighFilterExpire => true
  | _ => false

/-- The bounds of the wheel: LT and SYS_PHASE name a tooth of the round (R30, R33), FREQ_CORR stays within 200 ppm (R30), the count of good edges and the
rounds at the clamp within theirs (R31, R43), the mean's window at 64 rounds (R48), and a phase step inserts less than a round of filler teeth (R45). -/
def WheelState.Bounded (w : WheelState) : Prop :=
  w.lt < 1024 ∧ w.sysPhase < 1024 ∧ w.freqCorr.natAbs ≤ 200000 ∧ w.good ≤ 8 ∧ w.clampRounds ≤ 64 ∧ w.integHist.length ≤ 64 ∧ w.filler < 1024

end Sys2Proof.Machine
end

