-- ==== Sys2Proof/WellFormed.lean ====
section
/-! DEFINITION. Which operands a command can carry: numbers of dies, channels, banks, ranks, engines, functions and sensors that exist, codes inside
their fields, and host data inside its widths. A meaning takes any operand; one that is not well formed names nothing of the device. -/
namespace Sys2Proof

/-! ### The parts of the device -/

/-- Dies 0 to 1,023: channel × 32 + target × 4 + LUN (00_scope). -/
def isDie (n : Nat) : Bool := decide (n < 1024)
/-- Channels 0 to 31 (00_scope). -/
def isChannel (n : Nat) : Bool := decide (n < 32)
/-- Targets 0 to 7 of a channel (00_scope). -/
def isTarget (n : Nat) : Bool := decide (n < 8)
/-- Planes 0 to 7 of a die (R84). -/
def isPlane (n : Nat) : Bool := decide (n < 8)
/-- Flash rate codes 0 to 4 (R80). -/
def isFlashRate (n : Nat) : Bool := decide (n < 5)
/-- Streams 0 to 7 (R143). -/
def isStream (n : Nat) : Bool := decide (n < 8)
/-- Members 0 to 31 of a girth (R179). -/
def isMember (n : Nat) : Bool := decide (n < 32)
/-- Segments 0 to 122,879 (R160). -/
def isSegment (n : Nat) : Bool := decide (n < 122880)
/-- Entries 0 to 655,359 of a segment (R130). -/
def isEntry (n : Nat) : Bool := decide (n < 655360)
/-- Key slots 0 to 4,159 (R286). -/
def isKeySlot (n : Nat) : Bool := decide (n < 4160)
/-- Core pairs 0 to 7 (R313). -/
def isPair (n : Nat) : Bool := decide (n < 8)
/-- Compressors 0 to 15 (R326). -/
def isCompressor (n : Nat) : Bool := decide (n < 16)
/-- Decompressors 0 to 23 (R326). -/
def isDecompressor (n : Nat) : Bool := decide (n < 24)
/-- DRAM channels 0 to 7 (R339). -/
def isDramChannel (n : Nat) : Bool := decide (n < 8)
/-- Ranks 0 and 1 (R339). -/
def isRank (n : Nat) : Bool := decide (n < 2)
/-- Banks 0 to 15 of a rank (R347). -/
def isDramBank (n : Nat) : Bool := decide (n < 16)
/-- Symbols 0 to 79 of a burst (R340). -/
def isSymbol (n : Nat) : Bool := decide (n < 80)
/-- Banks 0 to 31 of the map cache (R357). -/
def isCacheBank (n : Nat) : Bool := decide (n < 32)
/-- DMA channels 0 to 63 (R368). -/
def isDmaChannel (n : Nat) : Bool := decide (n < 64)
/-- Sensors in the order of a conversion: 16 of the controller, 32 of the channels, the oscillator's, the reserve domain's and the reins' (R379). -/
def isSensor (n : Nat) : Bool := decide (n < 52)
/-- Functions 0 to 63 of a rein (R241). -/
def Port.wellFormed (p : Port) : Bool := decide (p.func < 64)
/-- A byte address of a word of the 64 MiB tree store, whose words have 16 bytes (R406). -/
def isStoreWord (n : Nat) : Bool := decide (n < 67108864) && decide (n % 16 = 0)

/-! ### Measurements and codes -/

/-- A code of the 12-bit converter (R213). -/
def isSense (n : Nat) : Bool := decide (n < 4096)
/-- A VDD_CORE request code (R459). -/
def isVcore (n : Nat) : Bool := decide (n < 32)
/-- A saddlebag code (R397). -/
def isCode (n : Nat) : Bool := decide (n < 65536)
/-- A report's severity is 2 to 4 (R444). -/
def isReportSeverity (n : Nat) : Bool := decide (2 ≤ n) && decide (n ≤ 4)
/-- A 64-bit address or register value of a host. -/
def isHostAddress (n : Nat) : Bool := decide (n < 2 ^ 64)
/-- A 32-bit host register or doorbell value. -/
def isDword (n : Nat) : Bool := decide (n < 2 ^ 32)
/-- A queue identifier or a controller identifier. -/
def isQid (n : Nat) : Bool := decide (n < 65536)
/-- CC.SHN is two bits wide (R236). -/
def isShn (n : Nat) : Bool := decide (n < 4)
/-- Steps 1 to 7 of a channel's start-up (R81). -/
def isStartupStep (n : Nat) : Bool := decide (1 ≤ n) && decide (n ≤ 7)

/-- An eye for each lane, at most 16 (R252). -/
def EyeFound.wellFormed (e : EyeFound) : Bool := decide (e.width.length ≤ 16) && decide (e.height.length = e.width.length)
/-- Rate codes 1 to 6 and widths of 1 to 16 lanes (R237). -/
def LinkFound.wellFormed (l : LinkFound) : Bool :=
  decide (1 ≤ l.rate) && decide (l.rate ≤ 6) && [1, 2, 4, 8, 16].contains l.width && l.eyes.wellFormed
/-- The readings of one conversion: 16 controller sensors and 32 channel sensors (R379). -/
def SensorReadings.wellFormed (r : SensorReadings) : Bool := decide (r.ctrl.length = 16) && decide (r.flash.length = 32)
def Mr4Reading.wellFormed (m : Mr4Reading) : Bool := isDramChannel m.ch && isRank m.rank
/-- A page that names planes, pages and blocks (R84). -/
def ParamPage.wellFormed (p : ParamPage) : Bool := decide (1 ≤ p.planes) && decide (p.planes ≤ 8) && decide (1 ≤ p.pagesPerBlock) && decide (1 ≤ p.blocksPerLun)
/-- What a step of the boot order finds names engines, slots, dies and channels that exist. -/
def BootFound.wellFormed (b : BootFound) : Bool :=
  decide (b.dramGiB.length ≤ 8) && decide (1 ≤ b.dramRanks) && decide (b.dramRanks ≤ 2) && (b.dramTrained.all fun x => decide (x.1 < 400) && decide (x.2 < 2 ^ 64))
    && ((b.dramCheckFails ++ b.dramTrainFails).all fun x => decide (x.1 < 5) && isDramChannel x.2.1 && isRank x.2.2)
    && b.failedCompressors.all isCompressor && b.failedDecompressors.all isDecompressor && b.failedPairs.all isPair && b.unreadableSlots.all isKeySlot
    && b.page.wellFormed && b.diesAnswering.all isDie && b.diesFailing.all isDie && (b.channelRate.all fun x => isChannel x.1 && isFlashRate x.2)
    && (b.otherPages.all fun x => isDie x.1 && x.2.wellFormed) && b.zqFailing.all isChannel && b.targetsFailing.all fun x => isChannel x.1 && decide (x.2 < 8)
def RestartFound.wellFormed (r : RestartFound) : Bool := r.badWearDies.all fun x => isDie x.1
def TestFound.wellFormed (t : TestFound) : Bool :=
  t.eyesA.wellFormed && t.eyesB.wellFormed && t.failedCompressors.all isCompressor && t.failedDecompressors.all isDecompressor && t.failedPairs.all isPair
/-- A DRAM place names a segment, a granule slot or a plan inside its table. -/
def DramPlace.wellFormed : DramPlace → Bool
  | .segmentPool seg block => isSegment seg && decide (block < 65536)
  | .writeBuffer granule => decide (granule < 2 ^ 32)
  | .plan number => decide (number < 64)
  | .setRec _ => true
  | .vtGroup _ => true
  | .fixedOther => true
/-- Sets 0 to 2,047 of a bank, and the address of a line (R356, R357). -/
def CacheError.wellFormed : CacheError → Bool
  | .none => true
  | .oneSymbol set => decide (set < 2048)
  | .twoSymbols la => decide (la / 65536 < 122880)
  | .tagOneCopy set => decide (set < 2048)
  | .tagBothCopies set => decide (set < 2048)
def ScrubFound.wellFormed : ScrubFound → Bool
  | .clean => true
  | .corrected o => isStoreWord o
  | .uncorrectable o => isStoreWord o

/-! ### Host data -/

/-- A create buffer inside its fields: NSZE 64 bits, FLBAS 8, the protection type 3, placement handles 16 (R131). -/
def NsCreate.wellFormed (n : NsCreate) : Bool :=
  decide (n.nsze < 2 ^ 64) && decide (n.flbas < 256) && decide (n.piType < 8) && n.handles.all isQid && decide (n.handles.length ≤ 128)
/-- A range of blocks: SLBA 64 bits, length 32; at most 256 of them (R147, R149). -/
def LbaRange.wellFormed (r : LbaRange) : Bool := decide (r.slba < 2 ^ 64) && isDword r.nlb
def rangesFit (xs : List LbaRange) : Bool := decide (xs.length ≤ 256) && xs.all LbaRange.wellFormed
/-- Protection information: a guard of up to 64 bits, an application tag of 16, a reference tag of up to 48 (R139). -/
def ProtInfo.wellFormed (p : ProtInfo) : Bool := decide (p.guardTag < 2 ^ 64) && decide (p.appTag < 65536) && decide (p.refTag < 2 ^ 48)

/-! ### Commands -/

/-- The operands of a command name what exists and stay inside their fields. -/
def Instr.wellFormed : Instr → Bool
  | .powerOnReset _ => true
  | .bootStepDone found => found.wellFormed
  | .restartStepDone found => found.wellFormed
  | .segmentRestoreDone seg lost => isSegment seg && lost.all isEntry
  | .channelStartupStepTimeout ch step targets lower => isChannel ch && isStartupStep step && targets.all isTarget && lower.all isFlashRate
  | .flashRateTraining ch rate _ => isChannel ch && isFlashRate rate
  | .toothBoundary senseCode test => isSense senseCode && test.wellFormed
  | .localRoundBoundary mr4 vcorePass => mr4.all Mr4Reading.wellFormed && isVcore vcorePass
  | .planSample => true
  | .planLoadDone _ => true
  | .planShadowReloadDone => true
  | .paceEdge _ _ => true
  | .ptmExchangeDone _ _ _ _ => true
  | .edgeWindowClose => true
  | .holdoverGuardExceeded => true
  | .freqClampPersist => true
  | .crystalStopDetect => true
  | .wtReserve => true
  | .hrqEntry die => isDie die
  | .suspendLatencyDone die => isDie die
  | .arrayReadDone die _ => isDie die
  | .frameDataOutDone die _ => isDie die
  | .dataInPageDone die => isDie die
  | .statusPoll die _ failPlanes _ => isDie die && failPlanes.all isPlane
  | .operationTimeout die => isDie die
  | .resetLunDone die _ => isDie die
  | .zqCalShort ch target _ => isChannel ch && isTarget target
  | .frameDecodeDone _ _ _ => true
  | .recalStart => true
  | .patrolVisit => true
  | .reconstructDone _ => true
  | .unitAdmit _ => true
  | .skiverUnitDone _ engine _ => isCompressor engine
  | .cipherRequestDone _ pair _ => isPair pair
  | .slotRewriteInstall slot => isKeySlot slot
  | .girthCloseStart stream => isStream stream
  | .girthCloseAge stream => isStream stream
  | .setOpen stream => isStream stream
  | .hostGirthOpenWaitEnd stream => isStream stream
  | .ledgerPageWrite => true
  | .rebuildTake => true
  | .victimTake => true
  | .eraseGateOpen _ => true
  | .journalStageAge seg => isSegment seg || decide (seg = 122880)
  | .rootSnapshot => true
  | .backupFailEnter => true
  | .backupFailEnd => true
  | .pwrfailNFall => true
  | .pwrfailFilterExpire => true
  | .pwrfailNRise => true
  | .dumpUnitProgramDone _ member _ => isMember member
  | .perstAssert _ => true
  | .perstRelease _ => true
  | .hotReset _ => true
  | .linkDown _ => true
  | .linkUp _ link => link.wellFormed
  | .linkRecovery _ link => link.wellFormed
  | .functionLevelReset port => port.wellFormed
  | .ccEnSet port => port.wellFormed
  | .ccEnClear port => port.wellFormed
  | .ccShnWrite port value => port.wellFormed && isShn value
  | .sqTailDoorbell port qid value => port.wellFormed && isQid qid && isDword value
  | .cqHeadDoorbell port cqid value => port.wellFormed && isQid cqid && isDword value
  | .registerWrite port _ value => port.wellFormed && isHostAddress value
  | .entryFetch port qid _ => port.wellFormed && isQid qid
  | .twinLagExpire ctrl qid _ => isQid ctrl && isQid qid
  | .keeperFilterExpire _ => true
  | .leaseStart _ => true
  | .leaseEnd _ => true
  | .reinSelfTestPeriodic _ eyes => eyes.wellFormed
  | .deleteIoSq _ => true
  | .createIoSq _ => true
  | .deleteIoCq _ => true
  | .createIoCq _ => true
  | .abort _ => true
  | .asyncEventRequest _ => true
  | .identifyNamespace _ => true
  | .identifyController _ => true
  | .identifyActiveNsList _ => true
  | .identifyNsIdDescriptors _ => true
  | .identifyCssNamespace _ => true
  | .identifyCssController _ => true
  | .identifyCssIndependentNs _ => true
  | .identifyAllocatedNsList _ => true
  | .identifyAllocatedNamespace _ => true
  | .identifyAttachedCtrlList _ => true
  | .identifyControllerList _ => true
  | .identifyPrimaryCtrlCaps _ => true
  | .identifySecondaryCtrlList _ => true
  | .identifyIoCmdSet _ => true
  | .getLogSupportedPages _ => true
  | .getLogErrorInfo _ => true
  | .getLogSmart _ => true
  | .getLogFwSlot _ => true
  | .getLogCmdEffects _ => true
  | .getLogSelfTest _ => true
  | .getLogEndurance _ => true
  | .getLogLbaStatus _ => true
  | .getLogFdpConfigs _ => true
  | .getLogRuhUsage _ => true
  | .getLogFdpStats _ => true
  | .getLogFdpEvents _ => true
  | .getLogSanitizeStatus _ => true
  | .getLogWheelPlan _ => true
  | .getLogGirthHealth _ => true
  | .getLogEventCounters _ => true
  | .getLogEventCountersClear _ => true
  | .getLogSaddlebagRing _ => true
  | .getLogSaddlebagRelease _ => true
  | .getLogSaddlebagPersisted _ => true
  | .saddlebagTransferEnd _ => true
  | .getLogIdentity _ => true
  | .getLogSecureDiscard _ => true
  | .getLogReinHealth _ => true
  | .setFeaturesArbitration _ => true
  | .getFeaturesArbitration _ => true
  | .setFeaturesPsOperational _ => true
  | .setFeaturesPs4 _ => true
  | .ps4EntryEnd => true
  | .ps4ExitDone => true
  | .getFeaturesPowerMgmt _ => true
  | .setFeaturesTempThreshold _ => true
  | .getFeaturesTempThreshold _ => true
  | .setFeaturesNumQueues _ => true
  | .getFeaturesNumQueues _ => true
  | .setFeaturesIntCoalescing _ => true
  | .getFeaturesIntCoalescing _ => true
  | .setFeaturesIntVectorCfg _ => true
  | .getFeaturesIntVectorCfg _ => true
  | .setFeaturesAsyncEventCfg _ => true
  | .getFeaturesAsyncEventCfg _ => true
  | .setFeaturesFdp _ => true
  | .getFeaturesFdp _ => true
  | .setFeaturesFdpEvents _ _ => true
  | .getFeaturesFdpEvents _ => true
  | .setFeaturesWheelCfg _ _ => true
  | .getFeaturesWheelCfg _ => true
  | .setFeaturesTwinRein _ _ => true
  | .getFeaturesTwinRein _ => true
  | .setFeaturesThrottleGrace _ _ => true
  | .getFeaturesThrottleGrace _ => true
  | .setFeaturesCounterSelect _ _ => true
  | .getFeaturesCounterSelect _ => true
  | .setFeaturesDirtyWindow _ _ => true
  | .getFeaturesDirtyWindow _ => true
  | .setFeaturesSkiver _ _ => true
  | .getFeaturesSkiver _ => true
  | .cipherBindSet _ _ => true
  | .cipherBindGet _ => true
  | .cipherBlobPart _ _ => true
  | .cipherErase _ => true
  | .cipherLabel _ _ => true
  | .cipherStatus _ => true
  | .namespaceCreate _ spec => spec.wellFormed
  | .namespaceDelete _ => true
  | .namespaceAttach _ ctrls => ctrls.all isQid
  | .namespaceDetach _ ctrls => ctrls.all isQid
  | .selfTestShort _ => true
  | .selfTestExtended _ => true
  | .selfTestAbort _ => true
  | .nvmeMiSend _ _ => true
  | .nvmeMiReceive _ => true
  | .formatNvmErase _ => true
  | .formatNvmCrypto _ => true
  | .sanitizeBlockErase _ => true
  | .sanitizeCryptoErase _ => true
  | .sanitizeExitFailure _ => true
  | .sanitizeOverwrite _ => true
  | .getLbaStatus _ => true
  | .unsupportedAdminCommand _ => true
  | .tackLease _ _ => true
  | .wheelStatus _ => true
  | .tsStatus _ => true
  | .tsReadImage _ => true
  | .tsUpdBegin _ => true
  | .tsUpdData _ _ => true
  | .tsUpdCommit _ => true
  | .tsUpdCancel _ => true
  | .tsSetKey _ _ => true
  | .tsLock _ => true
  | .tsUnlock _ => true
  | .tsEraseImage _ => true
  | .tsSetId _ _ => true
  | .tsRefresh _ => true
  | .flush _ => true
  | .write _ _ tags => tags.all ProtInfo.wellFormed
  | .read _ => true
  | .compare _ _ => true
  | .writeZeroes _ => true
  | .dsmDeallocate _ ranges => rangesFit ranges
  | .dsmNoDeallocate _ => true
  | .verify _ => true
  | .ioMgmtReceive _ => true
  | .ruhUpdate _ handles => handles.all isQid
  | .skiveStream _ _ _ => true
  | .unskiveStream _ _ _ => true
  | .keyedCheckCompute _ _ => true
  | .keyedCheckVerify _ _ => true
  | .secureDiscard _ ranges => rangesFit ranges
  | .unsupportedIoCommand _ => true
  | .dramBurstDecode addr badSymbols place => isHostAddress addr && badSymbols.all isSymbol && place.wellFormed
  | .laneCounterWindow => true
  | .dramScrubRead badSymbols => badSymbols.all isSymbol
  | .dramRefreshDue ch rank bank => isDramChannel ch && isRank rank && isDramBank bank
  | .neighbourRefresh ch rank bank => isDramChannel ch && isRank rank && isDramBank bank
  | .rankPowerDown ch rank _ => isDramChannel ch && isRank rank
  | .mcFillDone bank _ err => isCacheBank bank && err.wellFormed
  | .mcWritebackDone bank => isCacheBank bank
  | .mcDisableRequest banks => banks.all isCacheBank
  | .mcEnableRequest banks => banks.all isCacheBank
  | .dmaDescAppend ch _ => isDmaChannel ch
  | .dmaBurstDone _ => true
  | .dmaFifoDrained _ _ => true
  | .dmaPause ch _ => isDmaChannel ch
  | .dmaRelease ch _ => isDmaChannel ch
  | .dmaAbort ch => isDmaChannel ch
  | .sensorConversion readings => readings.wellFormed
  | .sensorNoConversion sensor => isSensor sensor
  | .sensorWorksAgain sensor => isSensor sensor
  | .thermalLevelFall => true
  | .graceExpire _ => true
  | .tripResume => true
  | .reserveCompUpdate => true
  | .tsOpDone _ => true
  | .tsScrubRead found => found.wellFormed
  | .faultReport code sev => isCode code && isReportSeverity sev
  | .faultStepDone => true
  | .fatalCompletionsWritten => true
  | .mainDomainStall => true
  | .vddIoFall => true
  | .jtagTapReset => true
  | .jtagBypass => true
  | .jtagIdcode => true
  | .jtagSamplePreload _ => true
  | .jtagExtest => true
  | .jtagClamp => true
  | .jtagHighz => true
  | .sidebandMiCommand _ => true
  | .i3cBroadcast => true
  | .keeperBallChange _ _ => true
  | .pwrfailNHighFilterExpire => true
  | .i3cResetAction => true
  | .dumpRowStep => true
  | .hostMemoryError _ addr => isHostAddress addr
  | .malformedTlp _ => true
  | .identifyUnsupportedCns _ => true
  | .getLogUnsupportedPage _ => true
  | .featuresUnsupportedId _ => true
  | .tsAccessUnlistedOp _ => true

end Sys2Proof
end

