-- ==== Sys2Proof/Certificates/Slice0/Obligations.lean ====
section
/-! DEFINITION. The statements for the provers: what every command does, what it leaves alone, and the invariants of every step. -/
open Sys2Proof Sys2Proof.Machine

/-- While VDD_IO stands, TRST_N low or five TCK cycles with TMS high, JTAG_IDCODE, BYPASS and SAMPLE/PRELOAD each load their instruction, select its data register and
give back balls that another held, and nothing else changes unless a boundary-scan instruction waits for a dump. EXTEST, CLAMP and HIGHZ with no dump to run take the
balls (what else they do is R465's statement). The IDCODE register shifts out the 32 bits of 0x2960_41B3, bit 0 first: version 0x2, part 0x9604, manufacturer 0x0D9, 1.
The port has these six instructions alone. -/
def Obligations.JtagPortRunsItsPublicInstructions : Prop :=
  (∀ s, s.pkg.vddIo = true →
    (∃ t, exec .jtagTapReset s = .next t ∧ ScanFreed s t .idcode idcodeBits) ∧
    (∃ t, exec .jtagIdcode s = .next t ∧ ScanFreed s t .idcode idcodeBits) ∧
    (∃ t, exec .jtagBypass s = .next t ∧ ScanFreed s t .bypass [false]) ∧
    (∀ cells, ∃ t, exec (.jtagSamplePreload cells) s = .next t ∧ ScanFreed s t .samplePreload cells) ∧
    (s.dump.run = none → s.dump.active = none →
      (∃ t, exec .jtagExtest s = .next t ∧ t.pkg.jtag = .extest ∧ t.pkg.ballsTaken = true ∧ t.pkg.jtagOut = s.pkg.jtagOut) ∧
      (∃ t, exec .jtagClamp s = .next t ∧ t.pkg.jtag = .clamp ∧ t.pkg.ballsTaken = true ∧ t.pkg.jtagOut = [false]) ∧
      (∃ t, exec .jtagHighz s = .next t ∧ t.pkg.jtag = .highz ∧ t.pkg.ballsTaken = true ∧ t.pkg.jtagOut = [false]))) ∧
  (idcodeBits.length = 32 ∧ ∀ n < 32, idcodeBits[n]? = some ((0x296041B3 : Nat).testBit n)) ∧
  (Config.idcode / 2 ^ 28 = 0x2 ∧ Config.idcode / 2 ^ 12 % 2 ^ 16 = 0x9604 ∧ Config.idcode / 2 % 2 ^ 11 = 0x0D9 ∧ Config.idcode % 2 = 1) ∧
  (∀ i : JtagInstr, i ∈ [.bypass, .idcode, .samplePreload, .extest, .clamp, .highz])

/-- A boundary-scan instruction loaded while VDD_IO stands: (1) with a dump running it waits, and nothing else changes; (2) with an active hold set and no dump since the
last restart, fetching stops, the dump of R218 starts with CAUSE 1, and the instruction waits; (3) otherwise it takes the balls, and on a part that has begun its start-up
fetching stops, every key set is zeroized and the main domain is held in reset. The
instructions differ in the data register selected only. With VDD_IO down the port does nothing. -/
def Obligations.ScanInstructionsHoldTheDevice : Prop :=
  ∀ (s : State) i (j : JtagInstr) (out : List Bool),
    (i = .jtagExtest ∧ j = .extest ∧ out = s.pkg.jtagOut) ∨ (i = .jtagClamp ∧ j = .clamp ∧ out = [false]) ∨ (i = .jtagHighz ∧ j = .highz ∧ out = [false]) →
    (s.pkg.vddIo = false → exec i s = .next s) ∧
    (s.pkg.vddIo = true → s.dump.run.isSome → exec i s = .next { s with pkg := { s.pkg with jtagOut := out, jtagWaiting := some j } }) ∧
    (s.pkg.vddIo = true → s.dump.run = none → s.dump.active.isSome → s.dump.since = false → ∃ t r, exec i s = .next t ∧
      t.pkg = { s.pkg with jtagOut := out, jtagWaiting := some j } ∧ t.fe.stopped = true ∧ t.dump.since = true ∧ t.dump.run = some r ∧ r.cause = 1 ∧
      r.serial = s.dump.serial + 1 ∧ t.cipher.slots = s.cipher.slots ∧ t.dump.inReset = s.dump.inReset) ∧
    (s.pkg.vddIo = true → s.dump.run = none → (s.dump.active = none ∨ s.dump.since = true) →
      (s.ts.bootStep = 0 → exec i s = .next { s with pkg := { s.pkg with jtagOut := out, jtag := j, ballsTaken := true } }) ∧
      (s.ts.bootStep ≠ 0 → ∃ t, exec i s = .next t ∧ t.pkg = { s.pkg with jtagOut := out, jtag := j, ballsTaken := true, vcoreReq := 20 } ∧
        t.fe.stopped = true ∧ t.dump.inReset = true ∧ 4 ∈ t.dump.holds ∧ t.media = s.media ∧ t.ts = s.ts ∧
        ∀ n k, Table.find t.cipher.slots n = some k → k.current = none ∧ k.previous = none))

/-- From step 1 on, an I3C broadcast puts the sideband into I3C, an I3C reset action back to SMBus. A request that is not a tunnelled command is answered at once: identity
gives the 256 bytes of log page 0xC4, the health status reports CFS in bit 2 of byte 4 (byte places log 7; NVMe-MI's own content is free, log 9). A tunnelled command in
fault stop, with no dump running, takes a row and ends with 0:0x0C unless it is one that R453 serves; one of those waits for a running dump. NVMe-MI Send puts the response
behind those that wait and succeeds; NVMe-MI Receive answers the oldest, or no data. Nothing else changes. -/
def Obligations.SidebandAndMiAnswerRequests : Prop :=
  (∀ s, s.pkg.vddIo = true → s.ts.bootStep ≠ 0 →
    exec .i3cBroadcast s = .next { s with pkg := { s.pkg with i3c := true } } ∧
    exec .i3cResetAction s = .next { s with pkg := { s.pkg with i3c := false } } ∧
    (∀ m, (∀ e, m ≠ .tunnel e) → ∃ t a, exec (.sidebandMiCommand m) s = .next t ∧ t = { s with pkg := { s.pkg with sbAnswers := s.pkg.sbAnswers ++ [a] }, free := s.free + 1 } ∧
      (m = .identity → a = pageSlice s.identityPage 0 256) ∧
      (m = .healthStatus → ∃ b : Byte, a[4]? = some b ∧ b.toNat / 2 % 2 = bit s.fe.cfs)) ∧
    (∀ e, s.fault.stop.isSome → s.dump.run = none → servedInStop e = false →
      ∃ t, exec (.sidebandMiCommand (.tunnel e)) s = .next t ∧ SameFrame s t ∧ SameData s t ∧ t.fe.nextTag = s.fe.nextTag + 1) ∧
    (∀ e, s.dump.run.isSome → servedInStop e = true → ∃ u : State, exec (.sidebandMiCommand (.tunnel e)) s = .next u.settleFront ∧
      u = { s with pkg := { s.pkg with sbWaiting := s.pkg.sbWaiting ++ [.tunnel e] } })) ∧
  (∀ s, s.ts.bootStep = 0 → (∀ m, exec (.sidebandMiCommand m) s = .next s) ∧ exec .i3cBroadcast s = .next s ∧ exec .i3cResetAction s = .next s) ∧
  (∀ s tag c q x cq cid, AtHand s tag c q x cq cid →
    (c.waits true 0x1D = true → ∀ m, (∀ e, m ≠ .tunnel e) → ∃ t, exec (.nvmeMiSend tag m) s = .next t ∧
      Served { s with pkg := { s.pkg with miReady := s.pkg.miReady ++ [s.miAnswer m] }, free := s.free + 1 } t tag q x cq cid ok c.out) ∧
    (c.waits true 0x1E = true → (s.pkg.miReady = [] → ∃ t, exec (.nvmeMiReceive tag) s = .next t ∧ Served s t tag q x cq cid ok []) ∧
      (∀ a rest, s.pkg.miReady = a :: rest → ∃ t, exec (.nvmeMiReceive tag) s = .next t ∧
        Served { s with pkg := { s.pkg with miReady := rest } } t tag q x cq cid ok a)))

/-- POWER_ON_RESET begins step 1: fuses are read, the straps are taken, the keepers' filters start, and TWIN_CFG.MERGED follows LINK_MERGE; on a part that runs, flash, namespaces and waiting commands
stay and WT stands at the reserved top or above the dumped WT. BOOT_STEP_DONE ends the step that runs: 1 and 2 go on; 3 chooses by R419 (STRAP before UPDATE_CUT before a
blank slot before a half-erased one, unreadable words, and the checks) between halter mode with its reason, bareback operation and the image, and ends shadowing; 4 ends in
halter mode when that was chosen; 5 enters it with DRAM_TRAIN or DRAM_SIZE, else sets the effective RATE_MAX to the highest rate at which and below which every channel trains; 6 loads the plans and starts the channels at GEOM.RATE; 7 begins restart. At another time it
changes nothing. What the part meets is the command's operand (log 10). -/
def Obligations.StartUpRunsTheBootOrder : Prop :=
  (∀ s (p : Straps), s.ts.bootStep = 0 → exec (.powerOnReset p) s = .next { s with
    ts := { s.ts with bootStep := 1 }, pkg := { s.pkg with straps := p, identRec := identRec, fusesRead := true, vddIo := true },
    rein := { s.rein with a := { s.rein.a with keeperTiming := some s.pkg.keeperA }, b := { s.rein.b with keeperTiming := some s.pkg.keeperB },
                          twin := { s.rein.twin with merged := p.linkMerge } } }) ∧
  (∀ s (p : Straps), s.ts.bootStep ≠ 0 → ∃ t, exec (.powerOnReset p) s = .next t ∧ t.ts.bootStep = 1 ∧ t.pkg.straps = p ∧ t.rein.twin.merged = p.linkMerge ∧
    t.media = s.media ∧ t.pending = s.pending ∧ t.fe.spaces = s.fe.spaces ∧ t.wheel.mode = .free ∧ (∀ x, s.ts.wtTop = some x → x ≤ t.wheel.wt ∧ s.wheel.dumpedWt < t.wheel.wt)) ∧
  (∀ s f, s.ts.bootStep = 1 → exec (.bootStepDone f) s = .next { s with ts := { s.ts with bootStep := 2 } }) ∧
  (∀ s f, s.ts.bootStep = 2 → exec (.bootStepDone f) s = .next { s with ts := { s.ts with bootStep := 3 }, pkg := { s.pkg with factory := f.factory } }) ∧
  (∀ s f, s.ts.bootStep = 3 → ∃ t, exec (.bootStepDone f) s = .next t ∧ t.ts.bootStep = 4 ∧ t.ts.accept = true ∧
    (∀ r x, s.imageChoice f.imageUnreadable = .halter r x → t.ts.mode = 2 ∧ t.ts.halterReason = r ∧ t.img.fr = asciiPadded "HALTER" 8) ∧
    (s.imageChoice f.imageUnreadable = .bareback → t.ts.mode = 1 ∧ t.img = s.img) ∧
    (s.imageChoice f.imageUnreadable = .image → t.ts.mode = 0 ∧ t.img = imgTables s.ts.image ∧ t.ts.shadowLen = imgLen s.ts.image)) ∧
  (∀ (s : State) u,
    (s.pkg.straps.halterN = false → s.imageChoice u = .halter 1 none) ∧
    (s.pkg.straps.halterN = true → s.ts.updateCut = true → s.imageChoice u = .halter 2 none) ∧
    (s.pkg.straps.halterN = true → s.ts.updateCut = false → 8 ∉ s.ts.imageUsed → s.ts.halfErasedSector 8 = false → s.imageChoice u = .bareback) ∧
    (s.imageChoice u = .image → u = false ∧ imageFail s.ts.image none s.ts = none ∧ ∀ k < 768, s.ts.halfErasedSector (8 + k) = false)) ∧
  (∀ s f, s.ts.bootStep = 4 → ∃ t, exec (.bootStepDone f) s = .next t ∧ SameFrame s t ∧ SameData s t ∧
    (s.ts.mode = 2 → t.ts.bootStep = 9 ∧ t.fe.admits = true) ∧ (s.ts.mode ≠ 2 → t.ts.bootStep = 5 ∧ t.fe = s.fe)) ∧
  (∀ (s : State) f r, s.trainBest f = some r → r ∈ s.trainRates ∧ ∀ x ∈ s.trainRates, r ≤ x → s.trainFailing f x = []) ∧
  (∀ s f u, s.ts.bootStep = 5 → u = (if s.hasSection 0x0D then s else { s with img := { s.img with dram := barebackDram f.rfm f.rowBits } }) →
    ∃ t, exec (.bootStepDone f) s = .next t ∧ t.dram.gib = 8 * f.dramGiB.foldl min ((f.dramGiB.head?).getD 0) ∧
    (u.trainBest f = none → t.ts.bootStep = 9 ∧ t.ts.mode = 2 ∧ t.ts.halterReason = 8 ∧ t.fe.admits = true) ∧
    (∀ r, u.trainBest f = some r → t.dram.rateMaxEff = r ∧ t.dram.rate = max r (s.img.psDramRate s.fe.ps) ∧ t.dram.train = u.trainValues f) ∧
    ((u.trainBest f).isSome → t.dram.gib < 64 → t.ts.bootStep = 9 ∧ t.ts.mode = 2 ∧ t.ts.halterReason = 7 ∧ t.fe.admits = true) ∧
    ((u.trainBest f).isSome → 64 ≤ t.dram.gib → t.ts.bootStep = 6 ∧ t.ts.mode = s.ts.mode)) ∧
  (∀ s f, s.ts.bootStep = 6 → ∃ t, exec (.bootStepDone f) s = .next t ∧ t.ts.bootStep = 7 ∧ t.plan.dump = s.bootDumpPlan s.bootPlans ∧
    t.plan.running = s.bootPlans[natAt s.bootSelect (s.effPs * 16)]? ∧ (∀ c < 32, (t.chan c).step = 1 ∧ (t.chan c).rate = s.img.geomRate)) ∧
  (∀ s f, s.ts.bootStep = 7 → ∃ t, exec (.bootStepDone f) s = .next t ∧ t.ts.bootStep = 8 ∧ t.dump.step = 1) ∧
  (∀ s f, s.ts.bootStep = 0 ∨ 8 ≤ s.ts.bootStep → exec (.bootStepDone f) s = .next s)

/-- In step 7 of the boot order, a channel that serves and has not gone past a step: where that step exceeds its bound, steps 2 to 4 isolate the unlisted populated dies of
the targets that have not finished it (criterion 4) and the next step begins; step 5 lowers the rate and the ceiling to a lower rate that trains, never below MT1600, or
falls to MT1600, where every target failing is criterion 1 of the channel and some failing criterion 4 of their dies. At another time nothing happens. After start-up a
channel in service trains once at each rate below its ceiling that the power-state table names: a pass is remembered, and a failure too, so that neither rate is tried
again; nothing else of the channels changes. -/
def Obligations.ChannelsTrainAndStepDown : Prop :=
  (∀ s ch step targets lower, s.ts.bootStep = 7 → ch < 32 → (s.chan ch).step ≤ step → (s.chan ch).isolated = 0 →
    (2 ≤ step → step ≤ 4 → ∃ u : State, exec (.channelStartupStepTimeout ch step targets lower) s = .next u.arrayPump ∧
      u = (((((s.reachStep ch step).diesOfChan ch).filter fun d => targets.contains (tgtOfDie d) && !s.listed d).foldl (fun s d => s.isolateDie d 4)
        (s.reachStep ch step)).reachStep ch (step + 1))) ∧
    (∀ r, step = 5 → lower = some r → 1 ≤ r → r < (s.chan ch).rate → ∃ t, exec (.channelStartupStepTimeout ch step targets lower) s = .next t ∧
      (t.chan ch).rate = r ∧ (t.chan ch).ceiling = r ∧ (t.chan ch).step = 5 ∧ (∀ k, k ≠ ch → t.chan k = s.chan k) ∧ t.awl.dies = s.awl.dies) ∧
    (step = 5 → lower = none → ∃ u : State, exec (.channelStartupStepTimeout ch step targets lower) s = .next u.arrayPump ∧
      u = (((s.reachStep ch 5).rateReached ch ((s.chan ch).reaches 1)).failTargets ch targets))) ∧
  (∀ s ch step targets lower, s.ts.bootStep ≠ 7 ∨ 32 ≤ ch ∨ step < (s.chan ch).step ∨ (s.chan ch).isolated ≠ 0 ∨ step < 2 ∨ 5 < step →
    exec (.channelStartupStepTimeout ch step targets lower) s = .next s) ∧
  (∀ (s : State) c ts, s.targetsOfChan c ≠ [] → (s.chan c).isolated = 0 →
    ((∀ t ∈ s.targetsOfChan c, t ∈ ts) → s.failTargets c ts = s.isolateChannel c 1) ∧
    ((∃ t ∈ s.targetsOfChan c, t ∉ ts) → s.failTargets c ts = (s.diesOfTargets c ts).foldl (fun s d => s.isolateDie d 4) s)) ∧
  (∀ s ch rate, ch < 32 → (s.chan ch).step = 7 → (s.chan ch).isolated = 0 → rate < (s.chan ch).ceiling → (∃ n < 5, s.img.psFlashRate n = rate) →
    rate ∉ (s.chan ch).trained → rate ∉ (s.chan ch).failed → (s.chan ch).busy = none →
    (∃ t, exec (.flashRateTraining ch rate true) s = .next t ∧ t.chan ch = { s.chan ch with trained := (s.chan ch).trained ++ [rate] } ∧ { t with awl := s.awl } = s ∧
      t.awl.dies = s.awl.dies ∧ ∀ k, k ≠ ch → t.chan k = s.chan k) ∧
    (∃ t, exec (.flashRateTraining ch rate false) s = .next t ∧ t.chan ch = { s.chan ch with failed := (s.chan ch).failed ++ [rate] } ∧ SameFrame s t ∧
      t.awl.dies = s.awl.dies ∧ ∀ k, k ≠ ch → t.chan k = s.chan k)) ∧
  (∀ s ch rate passed, rate ∈ (s.chan ch).trained ∨ rate ∈ (s.chan ch).failed → exec (.flashRateTraining ch rate passed) s = .next s)

/-- RESTART_STEP_DONE ends the restart step that runs. Step 1 chooses the case from the newest HOLD, BEGUN and DONE records: none is a first start (1); a HOLD later than the
newest BEGUN, or no BEGUN, is no dump (2); DONE with BEGUN's serial is a complete dump (3); BEGUN alone is a partial one (4). Step 3 notes what of the dump is recovered: its parts and its index where every frame of them decodes or is rebuilt, and the slots that are lost;
after step 4 no segment is restored and no buffered unit stands, and flash is as it was; step 6 starts the ring and, after a dump, names the set that it did not use; step 7,
only once that HOLD record is durable, makes the set active and admits commands; step 8, only once what it loaded is durable, consumes the dump. At another step nothing
changes. Which record is newer is judged by WT, at one WT by the ring's order (DEDUCED, log 35). -/
def Obligations.RestartTakesItsSteps : Prop :=
  (∀ s f, s.dump.step = 1 → exec (.restartStepDone f) s = .next { s with dump := { s.dump with case := s.ts.restartCase, step := 2 } }) ∧
  (∀ t : TsState,
    (t.anchor 1 = none → t.anchor 2 = none → t.anchor 3 = none → t.restartCase = 1) ∧
    (∀ h, t.anchor 1 = some h → t.anchor 2 = none → t.restartCase = 2) ∧
    (∀ a n w b m v, t.anchor 1 = some (a, n, w) → t.anchor 2 = some (b, m, v) → v < w → t.restartCase = 2) ∧
    (∀ a n w b m, t.anchor 1 = some (a, n, w) → t.anchor 2 = some (b, m, w) → t.lastAnchor = 1 → t.restartCase = 2) ∧
    (∀ b m v c k x, t.anchor 2 = some (b, m, v) → t.anchor 3 = some (c, k, x) → (∀ a n w, t.anchor 1 = some (a, n, w) → w < v ∨ (w = v ∧ t.lastAnchor ≠ 1)) →
      t.restartCase = if k = m then 3 else 4) ∧
    (∀ b m v, t.anchor 2 = some (b, m, v) → t.anchor 3 = none → (∀ a n w, t.anchor 1 = some (a, n, w) → w < v ∨ (w = v ∧ t.lastAnchor ≠ 1)) → t.restartCase = 4)) ∧
  (∀ s f, s.dump.step = 2 → exec (.restartStepDone f) s = .next { s with dump := { s.dump with step := 3 } }) ∧
  (∀ s f, s.dump.step = 3 →
    (s.dump.image = none → exec (.restartStepDone f) s = .next { s with dump := { s.dump with
      step := 4, partsOk := f.partsOk, unitsOk := f.partsOk || f.indexOk, lostSlots := f.lostSlots } }) ∧
    (∀ im, s.dump.image = some im → ∃ t, exec (.restartStepDone f) s = .next t ∧ { t with dump := s.dump } = s ∧ t.dump.step = 4 ∧
      t.dump.partsOk = (f.partsOk && im.partsWhole s.fpu s.dump.lost) ∧ t.dump.unitsOk = (t.dump.partsOk || (f.indexOk && im.indexWhole s.fpu s.dump.lost)) ∧
      ∀ i, i ∈ t.dump.lostSlots ↔ i ∈ f.lostSlots ∨ i ∈ im.slotsLost s.fpu s.dump.lost 0 0 im.units)) ∧
  (∀ s f, s.dump.step = 4 → ∃ t, exec (.restartStepDone f) s = .next t ∧ t.dump = { s.dump with step := 5 } ∧ t.media = s.media ∧ t.ts = s.ts ∧
    (∀ g d, Table.find t.map.segs g = some d → d.restored = false) ∧ t.wb.slots = [] ∧ t.wb.dirty = 0 ∧ t.map.wbi = []) ∧
  (∀ s f, s.dump.step = 5 → ∃ t, exec (.restartStepDone f) s = .next t ∧ t.dump.step = 6 ∧ t.dump.case = s.dump.case ∧ t.fe.admits = s.fe.admits) ∧
  (∀ s f, s.dump.step = 6 → ∃ t, exec (.restartStepDone f) s = .next t ∧ t.dump.step = 7 ∧ t.obs.ringOn = true ∧ t.fe.admits = s.fe.admits ∧ t.dump.active = s.dump.active ∧
    (∀ b n w, s.dump.case = 3 ∨ s.dump.case = 4 → s.ts.anchor 2 = some (b, n, w) → t.dump.holdTarget = some (decide (b ≠ 1)))) ∧
  (∀ s f, s.dump.step = 7 → (s.dump.holdSafe = false → exec (.restartStepDone f) s = .next s) ∧
    (s.dump.holdSafe = true → ∃ u : State, exec (.restartStepDone f) s = .next u.settle ∧ u.dump.step = 8 ∧ u.dump.active = s.dump.holdTarget ∧ u.dump.since = false ∧
      u.fe.admits = true ∧ u.fe.stopped = false ∧ u.ts.bootStep = 9)) ∧
  (∀ s f, s.dump.step = 8 → (s.mayConsume = false → exec (.restartStepDone f) s = .next s) ∧
    (s.mayConsume = true → ∃ u : State, exec (.restartStepDone f) s = .next u.settle ∧ u.dump.step = 9 ∧ u.dump.image = none)) ∧
  (∀ s f, s.dump.step = 0 ∨ 8 < s.dump.step → exec (.restartStepDone f) s = .next s)

/-- The restore of a segment that the background restore or an on-demand restore works on ends: RESTORED is 1 for it and as it was for every other segment; each entry
named as not rebuilt has UNC set and a GLEN that is not 0 (8 where it had none: DESIGN CHOICE, log 85), and its unit is appended to the LBA Status Information log; the segment stands in neither list of restores any more. For a segment that no
restore works on, or that is not allocated, nothing changes. -/
def Obligations.SegmentRestoreMakesASegmentUsable : Prop :=
  (∀ s seg lost, (s.seg seg).alloc = true → s.map.background = some seg ∨ seg ∈ s.map.onDemand → ∃ u : State, exec (.segmentRestoreDone seg lost) s = .next u.settle ∧
    (u.seg seg).restored = true ∧ (∀ g, g ≠ seg → (u.seg g).restored = (s.seg g).restored) ∧ (∀ i ∈ lost, (u.entryAt seg i).unc = true ∧
      (u.entryAt seg i).glen = if (s.entryAt seg i).glen = 0 then 8 else (s.entryAt seg i).glen) ∧
    u.fe.lbaStatus = s.fe.lbaStatus ++ lost.map (fun i => (s.seg seg).nsx * 2 ^ 38 + ((s.seg seg).dirPos * 655360 + i)) ∧
    seg ∉ u.map.onDemand ∧ u.map.background ≠ some seg ∧ u.media = s.media) ∧
  (∀ s seg lost, (s.seg seg).alloc = false ∨ (s.map.background ≠ some seg ∧ seg ∉ s.map.onDemand) → exec (.segmentRestoreDone seg lost) s = .next s)

/-- TOOTH_BOUNDARY, where tooth boundaries occur, raises WT by one, whether or not the tooth is a filler tooth. No command changes WT in any other way, except that one that
brings a power-on reset begins a new power-on. So within one power-on WT never decreases and never skips a value. -/
def Obligations.WheelTimeCountsEveryTooth : Prop :=
  (∀ s code found, s.teethPass = true → s.wheel.roundDue = false → ∃ t, exec (.toothBoundary code found) s = .next t ∧ t.wheel.wt = s.wheel.wt + 1) ∧
  (∀ i s t, exec i s = .next t → t.wheel.wt = s.wheel.wt ∨ (∃ code found, i = .toothBoundary code found ∧ t.wheel.wt = s.wheel.wt + 1) ∨
    (beginsPowerOn i = true ∧ t.ts.bootStep ≤ 1))

/-- TOOTH_BOUNDARY advances WT and SYS_PHASE; LT advances, stays at 0 through filler teeth, and returns to 0 after tooth 1,023, when the round boundary is due; ERR_BOUND
grows in holdover; at LT 512 a PTM source in use whose rein permits it starts an exchange. While it slews, each tooth moves the reference by SLEW_MAX millionths of a tooth
against LT, each whole tooth of that brings LT one nearer to TARGET, and slewing ends where they meet. LOCAL_ROUND_BOUNDARY, when due, takes the configuration that waits (a
change of SOURCE keeps FREQ_CORR; one of STATION or PHASE_STRIDE compares LT with TARGET: a step, or slewing), inserts the filler teeth of a step that is due, sets FREQ_CORR
from comp(T) outside LOCKED unless it is kept, toggles the heartbeats of reins that are not in reset, moves VCORE_REQ by at most one step, and swaps to a plan that is loaded.
WT does not move at it. Where no boundary occurs, or none is due, nothing changes. The round boundary as a command of its own is
the model's choice (log 12). -/
def Obligations.ToothAndRoundBoundaries : Prop :=
  (∀ s code found, s.teethPass = true → s.wheel.roundDue = false → ∃ t, exec (.toothBoundary code found) s = .next t ∧ t.wheel = s.wheel.tick.holdOn ∧
    t.plan = s.plan ∧ t.dram = s.dram ∧ t.dma = s.dma ∧ t.therm = s.therm ∧ t.img = s.img ∧
    (s.fe.test = none → s.wheel.lt = 511 → s.wheel.filler = 0 → ∀ r : Rein, s.wheel.sourceInUse = 2 + r.num → (s.port r).ptm = true → (s.port r).up = true →
      (t.port r).ptmBusy = true)) ∧
  (∀ w : WheelState, (0 < w.filler ∨ w.slewing = false ∨ w.slewAcc + w.cfg.slewMax < 1000000 → w.tick.sysPhase = (w.sysPhase + 1) % 1024) ∧
    (w.filler = 0 → w.slewing = true → w.tick.slewing = decide (w.tick.lag ≠ 0) ∧ w.tick.freqCorr = clampFreq (w.baseCorr + w.tick.slewCorr) ∧
      (w.slewAcc + w.cfg.slewMax < 1000000 → w.tick.distance = w.distance) ∧ (1000000 ≤ w.slewAcc + w.cfg.slewMax → w.tick.distance = w.distance - 1)) ∧
    (0 < w.filler → w.tick.filler = w.filler - 1 ∧ w.tick.lt = 0 ∧ w.tick.roundDue = w.roundDue) ∧
    (w.filler = 0 → w.tick.filler = 0 ∧ w.tick.lt = (if w.lt = 1023 then 0 else w.lt + 1) ∧ w.tick.roundDue = (w.roundDue || decide (w.lt = 1023))) ∧
    (w.errGrows = true → w.holdOn.holdNs = w.holdNs + w.cfg.toothNs ∧ w.errBoundPs ≤ w.holdOn.errBoundPs) ∧ (w.errGrows = false → w.holdOn = w)) ∧
  (∀ s code found, s.teethPass = false ∨ s.wheel.roundDue = true → exec (.toothBoundary code found) s = .next s) ∧
  (∀ s mr4 pass, s.teethPass = true → s.wheel.roundDue = true → ∃ t, exec (.localRoundBoundary mr4 pass) s = .next t ∧ t.wheel.roundDue = false ∧
    t.wheel.wt = s.wheel.wt ∧ t.wheel.lt = s.wheel.lt ∧ t.wheel.sysPhase = s.wheel.sysPhase ∧ t.wheel.next = none ∧ t.therm = s.therm ∧ t.img = s.img ∧
    (∀ c, s.wheel.next = some c → t.wheel.cfg = c) ∧ (s.wheel.next = none → t.wheel.cfg = s.wheel.cfg) ∧
    (s.wheel.next = none → s.wheel.stepDue = true → t.wheel.filler = s.wheel.lag ∧ t.wheel.fillerLast = s.wheel.lag ∧ t.wheel.stepDue = false) ∧
    (s.wheel.next = none → s.wheel.stepDue = false → t.wheel.filler = s.wheel.filler) ∧
    (s.wheel.next = none → s.wheel.mode ≠ .locked → s.wheel.slewing = false →
      t.wheel.freqCorr = clampFreq (if s.wheel.keepCorr then s.wheel.baseCorr else s.compNow + s.wheel.integ)) ∧
    (∀ c, s.wheel.next = some c → c.source ≠ s.wheel.cfg.source → c.station = s.wheel.cfg.station → c.phaseStride = s.wheel.cfg.phaseStride →
      t.wheel.freqCorr = clampFreq s.wheel.freqCorr ∧ t.wheel.mode = (if c.source = 0 then .free else .acquire) ∧ t.wheel.sourceInUse = c.source) ∧
    (∀ c (w : WheelState), s.wheel.next = some c → w = { s.wheel with cfg := c } → c.station ≠ s.wheel.cfg.station ∨ c.phaseStride ≠ s.wheel.cfg.phaseStride →
      (c.stepThreshold < w.distance → t.wheel.filler = w.lag ∧ t.wheel.slewing = false) ∧
      (w.distance ≤ c.stepThreshold → t.wheel.slewing = decide (w.lag ≠ 0))) ∧
    (s.wheel.next = none → s.wheel.mode = .locked → t.wheel.freqCorr = s.wheel.freqCorr ∧ t.wheel.integHist = (s.wheel.integ :: s.wheel.integHist).take 64) ∧
    (∀ r, (t.port r).hbeat = if (s.port r).perst ∨ s.ts.mode = 2 ∨ !s.reinExists r then false else !(s.port r).hbeat) ∧
    t.pkg.vcoreReq = (if s.therm.broken.contains 1 ∨ s.ts.bootStep < 7 then 20 else if s.pkg.vcoreReq < min 20 pass then s.pkg.vcoreReq + 1
      else if min 20 pass < s.pkg.vcoreReq then s.pkg.vcoreReq - 1 else s.pkg.vcoreReq) ∧
    (∀ n p, s.wheelRuns = true → 7 < s.ts.bootStep → s.plan.loading = false → s.plan.loaded = true → s.plan.pendingNo = some n → s.plan.inactive = some p →
      t.plan.running = some p ∧ t.plan.runningNo = n ∧ t.plan.inactive = s.plan.running ∧ t.plan.swaps = satAdd 32 s.plan.swaps 1 ∧ t.plan.lastSwapWt = s.wheel.wt ∧
      t.plan.sampled = false)) ∧
  (∀ s mr4 pass, s.teethPass = false ∨ s.wheel.roundDue = false → exec (.localRoundBoundary mr4 pass) s = .next s)

/-- At tooth 1,016, once a round, the selector samples the effective PS, BAND and RB together; PLAN_INDEX is (PS × 8 + BAND) × 2 + RB, and a plan number other than the
running one starts a load, while no reload from the shadow runs. A loaded plan whose SLOT_CRC is right and whose burst is not poisoned becomes the inactive plan; another load
fails: it counts as deferred, and the third failure in a row of one plan starts a reload. The end of a reload puts the plans of the shadow back into DRAM. Nothing else changes
but counters, records and reports, and with no sample due, no load and no reload in progress nothing changes at all. -/
def Obligations.PlanIsSampledAndLoaded : Prop :=
  (∀ s, s.wheelRuns = true → s.wheel.lt = 1016 → s.plan.sampled = false → ∃ t i n, exec .planSample s = .next t ∧ i = (s.effPs * 8 + s.blk.band) * 2 + bit s.girth.rb ∧
    n = natAt s.img.planSelect i ∧ { t with plan := s.plan } = s ∧
    (n = s.plan.runningNo ∨ s.plan.reloading = true →
      t.plan = { s.plan with sampled := true, ps := s.effPs, band := s.blk.band, rb := s.girth.rb, lastIndex := i, loaded := false }) ∧
    (n ≠ s.plan.runningNo → s.plan.reloading = false →
      t.plan = { s.plan with sampled := true, ps := s.effPs, band := s.blk.band, rb := s.girth.rb, lastIndex := i, loaded := false, loading := true, pendingNo := some n,
                             deferRun := if s.plan.pendingNo = some n then s.plan.deferRun else 0 })) ∧
  (∀ s, s.wheelRuns = false ∨ s.wheel.lt ≠ 1016 ∨ s.plan.sampled = true → exec .planSample s = .next s) ∧
  (∀ s n p, s.plan.loading = true → s.plan.pendingNo = some n → Table.find s.plan.dram n = some p → p.crcOk = true →
    exec (.planLoadDone false) s = .next { s with plan := { s.plan with loading := false, loaded := true, inactive := some p, deferRun := 0 } }) ∧
  (∀ s poisoned, s.plan.loading = true → (∀ n p, s.plan.pendingNo = some n → Table.find s.plan.dram n = some p → p.crcOk = true → poisoned = true) →
    ∃ t, exec (.planLoadDone poisoned) s = .next t ∧
      t.plan = { s.plan with loading := false, loaded := false, deferRun := min 3 (s.plan.deferRun + 1), deferred := satAdd 32 s.plan.deferred 1,
                             reloading := s.plan.reloading || decide (2 ≤ s.plan.deferRun) } ∧ SameData s t ∧ t.wheel = s.wheel ∧ t.rein = s.rein ∧ t.dram = s.dram) ∧
  (∀ s poisoned, s.plan.loading = false → exec (.planLoadDone poisoned) s = .next s) ∧
  (∀ s, s.plan.reloading = true → exec .planShadowReloadDone s = .next { s with plan := { s.plan with
    dram := (List.range s.bootPlans.length).map (fun i => (i, s.bootPlans.getD i default)), reloading := false, deferRun := 0 } }) ∧
  (∀ s, s.plan.reloading = false → exec .planShadowReloadDone s = .next s)

/-- A PACE pulse under 100 ns only counts; one while PACE is not the source in use changes nothing. An edge of the source in use is: with none predicted, the anchor, a good
edge; under three quarters of a period after the last accepted one (PACE only), ignored as fast; inside the acceptance window, good; else stray, a missed edge, unless the
window nearest to it has closed (the model's choice, log 65). A good edge in LOCKED sets PHASE_ERR, INTEG and FREQ_CORR by the loop's shifts and clamps (while it slews, the slew stands for the proportional term: log 79); outside
LOCKED the eighth in a row locks, and LT is compared with TARGET: a distance above STEP_THRESHOLD is stepped, another is slewed. Two missed edges in a row, or more than 16 fast ones in a
round, take LOCKED to HOLDOVER, where FREQ_CORR is comp(T) plus the mean of INTEG, or on to ACQUIRE on the other rein with FAILOVER. A PTM exchange that ends is an edge of its
rein; one that cannot complete is a missed edge. Nothing but the wheel, counters, records, reports and events changes (and the requester). -/
def Obligations.EdgesSteerTheWheel : Prop :=
  (∀ s time high, high < 100 → ∃ t, exec (.paceEdge time high) s = .next t ∧ SameFrame s t ∧ SameData s t) ∧
  (∀ s time high, 100 ≤ high → s.wheel.sourceInUse ≠ 1 → exec (.paceEdge time high) s = .next s) ∧
  (∀ s time high, 100 ≤ high → s.wheel.sourceInUse = 1 → ∃ t, exec (.paceEdge time high) s = .next t ∧ SameData s t ∧ t.rein = s.rein ∧ t.plan = s.plan ∧
    t.wheel = (s.edge time 0 true).wheel) ∧
  (∀ s (r : Rein) ok time master, (s.port r).ptmBusy = true → ∃ t, exec (.ptmExchangeDone r ok time master) s = .next t ∧ SameData s t ∧ (t.port r).ptmBusy = false ∧
    (s.wheel.sourceInUse ≠ 2 + r.num → t.wheel = s.wheel) ∧
    (s.wheel.sourceInUse = 2 + r.num → t.wheel = if ok = true then (s.edge time master false).wheel else s.missedEdge.wheel)) ∧
  (∀ s (r : Rein) ok time master, (s.port r).ptmBusy = false → exec (.ptmExchangeDone r ok time master) s = .next s) ∧
  (∀ (s : State) time master fast, s.wheel.predicted = none → (s.edge time master fast).wheel = (s.goodEdge time master).wheel) ∧
  (∀ (s : State) time master p l, s.wheel.predicted = some p → s.wheel.lastEdge = some l → 4 * time < 4 * l + 3 * s.wheel.cfg.period →
    ((s.edge time master true).wheel.lastEdge = some l ∧ (s.edge time master true).wheel.missed = s.wheel.missed ∧
      (s.edge time master true).wheel.fast = satAdd 32 s.wheel.fast 1 ∧ (s.wheel.fastRound < 16 → (s.edge time master true).wheel.mode = s.wheel.mode)) ∧
    (16 ≤ s.wheel.fastRound → s.wheel.mode = .locked → s.wheel.sourceInUse = 1 → (s.edge time master true).wheel.mode = .holdover)) ∧
  (∀ (s : State) time master x p fast, s.wheel.predicted = some x → p = nearest x → (fast = true → ∀ l, s.wheel.lastEdge = some l → 4 * l + 3 * s.wheel.cfg.period ≤ 4 * time) →
    (p ≤ time + s.wheel.halfWidth → time ≤ p + s.wheel.halfWidth → (s.edge time master fast).wheel = (s.goodEdge time master).wheel) ∧
    (time + s.wheel.halfWidth < p ∨ p + s.wheel.halfWidth < time → p ≤ time + s.wheel.cfg.period / 2 → (s.edge time master fast).wheel = s.missedEdge.wheel) ∧
    (time + s.wheel.halfWidth < p → time + s.wheel.cfg.period / 2 < p → (s.edge time master fast).wheel = s.wheel)) ∧
  (∀ (s : State) (time master : Nat), s.wheel.mode = .locked → ∀ p, s.wheel.predicted = some p → ∃ err : Int, err = (time : Int) - nearest p ∧
    (s.goodEdge time master).wheel.mode = .locked ∧ (s.goodEdge time master).wheel.lastEdge = some time ∧ (s.goodEdge time master).wheel.missRun = 0 ∧
    (s.goodEdge time master).wheel.phaseErr = err * 5 / 2 ∧ (s.goodEdge time master).wheel.integ = s.wheel.integ + Int.shiftRight err s.img.kiShift ∧
    ((s.goodEdge time master).wheel.slewing = false → (s.goodEdge time master).wheel.freqCorr = clampFreq (s.goodEdge time master).wheel.baseCorr) ∧
    (s.goodEdge time master).wheel.baseCorr = (let base := s.wheel.comp + (s.wheel.integ + Int.shiftRight err s.img.kiShift)
      if s.wheel.slewing then base
      else clampInt (base - s.wheel.cfg.slewMax * 1000) (base + s.wheel.cfg.slewMax * 1000) (base + Int.shiftRight err s.img.kpShift))) ∧
  (∀ (s : State) time master, s.wheel.mode ≠ .locked → (s.goodEdge time master).wheel.lastEdge = some time ∧
    (s.wheel.good < 7 → (s.goodEdge time master).wheel.mode = s.wheel.mode ∧ (s.goodEdge time master).wheel.good = s.wheel.good + 1) ∧
    (7 ≤ s.wheel.good → (s.goodEdge time master).wheel.mode = .locked ∧ (s.goodEdge time master).wheel.errBoundPs = 0)) ∧
  (∀ w : WheelState, (w.cfg.stepThreshold < w.distance → w.comparePhase.stepDue = true ∧ w.comparePhase.slewing = false) ∧
    (w.distance ≤ w.cfg.stepThreshold → w.comparePhase.stepDue = false ∧ w.comparePhase.slewing = decide (w.lag ≠ 0))) ∧
  (∀ s : State, s.missedEdge.wheel.missed = satAdd 32 s.wheel.missed 1 ∧ s.missedEdge.wheel.good = 0 ∧
    (s.wheel.missRun = 0 ∨ s.wheel.mode ≠ .locked → s.missedEdge.wheel.mode = s.wheel.mode) ∧
    (1 ≤ s.wheel.missRun → s.wheel.mode = .locked → s.missedEdge.wheel.freqCorr = clampFreq (s.wheel.comp + meanInteg s.wheel.integHist) ∧
      (s.wheel.sourceInUse < 2 ∨ s.wheel.cfg.failover = false → s.missedEdge.wheel.mode = .holdover) ∧
      (2 ≤ s.wheel.sourceInUse → s.wheel.cfg.failover = true → s.missedEdge.wheel.mode = .acquire ∧ s.missedEdge.wheel.sourceInUse = 5 - s.wheel.sourceInUse)))

/-- The close of the window of an expected edge is a missed edge. When ERR_BOUND has passed the guard in HOLDOVER, or in ACQUIRE after a failover, the wheel falls to FREE. Sixty-four
local rounds at the clamp of FREQ_CORR begin their count anew. When WT reaches the last RES_TOP, WT_RESERVE queues a reservation record of WT + 2^24. Each changes nothing when its
cause does not stand. The WHEEL_STATUS command returns 64 bytes with STATE, SOURCE_IN_USE, SYS_PHASE, LT and WT at their bits, and changes nothing. -/
def Obligations.WheelGuardsAndReservation : Prop :=
  (∀ s, s.wheel.sourceInUse ≠ 0 → s.wheel.predicted.isSome → ∃ t, exec .edgeWindowClose s = .next t ∧ t.wheel = s.missedEdge.wheel ∧ t.rein = s.rein ∧ t.plan = s.plan ∧ SameData s t) ∧
  (∀ s, s.wheel.sourceInUse = 0 ∨ s.wheel.predicted = none → exec .edgeWindowClose s = .next s) ∧
  (∀ s, s.wheel.guardPs < s.wheel.errBoundPs → s.wheel.mode = .holdover ∨ (s.wheel.mode = .acquire ∧ s.wheel.failedOver = true) →
    ∃ t, exec .holdoverGuardExceeded s = .next t ∧ t.wheel = { s.wheel with mode := .free, good := 0, missRun := 0 } ∧ t.rein = s.rein ∧ t.plan = s.plan ∧ SameData s t) ∧
  (∀ s, s.wheel.errBoundPs ≤ s.wheel.guardPs → exec .holdoverGuardExceeded s = .next s) ∧
  (∀ s, 64 ≤ s.wheel.clampRounds → ∃ t, exec .freqClampPersist s = .next t ∧ t.wheel = { s.wheel with clampRounds := 0 } ∧ t.rein = s.rein ∧ t.plan = s.plan ∧ SameData s t) ∧
  (∀ s, s.wheel.clampRounds < 64 → exec .freqClampPersist s = .next s) ∧
  (∀ s, s.ts.accept = true → s.wheel.resTop ≤ s.wheel.wt → ∃ t, exec .wtReserve s = .next t ∧ t.wheel = { s.wheel with resTop := s.wheel.wt + 16777216 } ∧
    t.ts = (s.writeRec .wtRes (.wtRes (s.wheel.wt + 16777216))).ts.pump ∧ t.rein = s.rein ∧ SameData s t) ∧
  (∀ s, s.wheel.wt < s.wheel.resTop → exec .wtReserve s = .next s) ∧
  (∀ s tag c q x cq cid, AtHand s tag c q x cq cid → c.waits true 0xC2 = true → ∃ t, exec (.wheelStatus tag) s = .next t ∧
    Served s t tag q x cq cid ok (toBytes 64 s.wheel.status)) ∧
  (∀ w : WheelState, bitField w.status 0 2 = w.mode.num ∧ bitField w.status 2 3 = w.sourceInUse % 8 ∧ bitField w.status 16 10 = w.sysPhase % 1024 ∧
    bitField w.status 32 10 = w.lt % 1024 ∧ bitField w.status 64 64 = w.wt % 2 ^ 64)

/-- HRQ_ENTRY moves the next read of a die's list (held back by READ_CAP alone) into HRQ while it has room; on an idle die whose slot lets host reads start, the read starts.
After the suspend latency the waiting read starts. A read whose T_R has elapsed is sensed and queues its frames for data-out, host frames apart from internal ones. A frame moved
leaves one less to move; with the last, the read ends. A page loaded counts towards a program that still waits for it; with the last page the program starts in a slot of its class.
STATUS_POLL, at most one at a transfer's boundary, sends its sequence and ends a running operation that is ready, with every plane failed under write protection while WP_N is high; OPERATION_TIMEOUT ends it as failed and resets the die; the
reset's end frees the die, or isolates it under criterion 1. ZQ calibration runs once per 4,096 rounds and target; its second failure in a row isolates the channel. A step that does
not apply changes nothing (log 1). -/
def Obligations.DieOperationsRunTheirCourse : Prop :=
  (∀ s die r rest, (s.die die).feList = r :: rest → s.underCap (chOfDie die) r = true → (s.die die).hrq.length < 4 → s.dieServes die = true →
    ∃ u : State, exec (.hrqEntry die) s = .next u.settle ∧
      u = ((s.modChan (chOfDie die) fun y => { y with hostFrames := y.hostFrames + r.moves }).setDie die
            { s.die die with feList := rest, hrq := if r.rung = 0 then (s.die die).hrq ++ [r] else r :: (s.die die).hrq,
                                hrqOpen := if r.rung = 0 then (s.die die).hrqOpen else 0 }).hrqArrived die ∧
      ((s.die die).op = none → (s.die die).resetting = false → (s.die die).hrq = [] → (s.die die).irq = [] → (s.die die).reads = [] → (s.die die).wkq = [] → (s.die die).loaded = 0 →
        (s.chan (chOfDie die)).busy ≠ some (.page die) → s.dump.run = none → s.slotClass die < 6 → s.addressFault r.gran = false →
        ∃ run, (u.die die).reads = [run] ∧ run.req = r ∧ run.sensed = false ∧ (r.rung ≠ 2 → (u.die die).hrq = []))) ∧
  (∀ s die, (s.die die).feList = [] → exec (.hrqEntry die) s = .next s) ∧
  (∀ s die o, (s.die die).op = some o → o.latency = true → ∃ u : State, exec (.suspendLatencyDone die) s = .next u.settle ∧
    u = (s.modDie die fun x => { x with op := some { o with latency := false } }).dispatch die ∧
    (∀ r, (s.die die).hrq = [r] → (s.die die).irq = [] → (s.die die).reads = [] → (s.die die).loaded = 0 → (s.die die).resetting = false → o.state ≠ .running →
      (s.chan (chOfDie die)).busy ≠ some (.page die) → s.dieServes die = true → s.dump.run = none → s.slotClass die < 6 → s.addressFault r.gran = false →
      ∃ run, (u.die die).reads = [run] ∧ run.req = r)) ∧
  (∀ s die, (∀ o, (s.die die).op = some o → o.latency = false) → exec (.suspendLatencyDone die) s = .next s) ∧
  (∀ s die id run, (s.die die).reads.find? (fun r => decide (r.req.id = id) && !r.sensed) = some run → ∃ u : State, exec (.arrayReadDone die id) s = .next u.settle ∧
    u.die die = { s.die die with reads := (s.die die).reads.map fun r => if r.req.id = id then { r with sensed := true } else r } ∧ { u with awl := s.awl } = s ∧
    (run.req.kind = .host → u.chan (chOfDie die) = { s.chan (chOfDie die) with outHost := (s.chan (chOfDie die)).outHost ++ [(die, id)] }) ∧
    (run.req.kind ≠ .host → u.chan (chOfDie die) = { s.chan (chOfDie die) with outInternal := (s.chan (chOfDie die)).outInternal ++ [(die, id)] })) ∧
  (∀ s die id, (∀ r ∈ (s.die die).reads, r.req.id = id → r.sensed = true) → exec (.arrayReadDone die id) s = .next s) ∧
  (∀ s die id run, (s.chan (chOfDie die)).busy = some (.frame die id) → (s.die die).reads.find? (·.req.id = id) = some run → ∃ u : State,
    exec (.frameDataOutDone die id) s = .next u.settle ∧
    (1 < run.framesLeft → ∃ r', (u.die die).reads.find? (·.req.id = id) = some r' ∧ r'.framesLeft = run.framesLeft - 1) ∧
    (run.framesLeft ≤ 1 → (s.die die).hrq = [] → (s.die die).irq = [] → (u.die die).reads = (s.die die).reads.filter (·.req.id ≠ id))) ∧
  (∀ s die id, (s.chan (chOfDie die)).busy ≠ some (.frame die id) → exec (.frameDataOutDone die id) s = .next s) ∧
  (∀ s die, (s.chan (chOfDie die)).busy = some (.page die) → (s.die die).hrq = [] → ∃ u : State, exec (.dataInPageDone die) s = .next u.settle ∧
    (∀ w rest, (s.die die).reads = [] → (s.die die).op = none → (s.die die).wkq = w :: rest → w.op = 1 →
      ((s.die die).loaded + 1 < w.pages → (u.die die).loaded = (s.die die).loaded + 1 ∧ (u.die die).op = none) ∧
      (0 < w.pages → w.pages ≤ (s.die die).loaded + 1 → s.dieServes die = true → s.dump.run = none → (s.die die).resetting = false → s.slotClass die = w.cls → s.wheel.filler = 0 →
        s.workFault w = false → ∃ o, (u.die die).op = some o ∧ o.work = w ∧ o.state = .running ∧ (u.die die).loaded = 0)) ∧
    ((s.die die).op.isSome → (s.die die).irq = [] → (u.die die).loaded = (s.die die).loaded)) ∧
  (∀ s die, (s.chan (chOfDie die)).busy ≠ some (.page die) → exec (.dataInPageDone die) s = .next s) ∧
  (∀ s die o fails (wp : Bool), (s.die die).op = some o → o.state = .running → s.pollFits die = true → ∃ u : State,
    exec (.statusPoll die true fails wp) s = .next u.settle ∧ exec (.statusPoll die false fails wp) s = .next (s.poll die).settle ∧
    u = (s.poll die).opStatus die (if wp ∧ (s.chan (chOfDie die)).wpHigh then List.range s.img.planes else fails.filter (· < s.img.planes))) ∧
  (∀ s die ready fails wp, s.pollFits die = false → exec (.statusPoll die ready fails wp) s = .next s) ∧
  (∀ s die o, (s.die die).op = some o → o.state = .running → ∃ u : State, exec (.operationTimeout die) s = .next u.settle ∧ u = s.opTimeout die) ∧
  (∀ s die, (s.die die).op = none → exec (.operationTimeout die) s = .next s ∧ ∀ r f w, exec (.statusPoll die r f w) s = .next s) ∧
  (∀ s die, (s.die die).resetting = true → (∃ u : State, exec (.resetLunDone die true) s = .next u.settle ∧
      u = ((s.modDie die fun x => { x with resetting := false }).leave 0x0404 1 [die]).dispatch die) ∧
    (∃ u : State, exec (.resetLunDone die false) s = .next u.settle ∧ u = (s.modDie die fun x => { x with resetting := false }).isolateDie die 1)) ∧
  (∀ s die ready, (s.die die).resetting = false → exec (.resetLunDone die ready) s = .next s) ∧
  (∀ s ch target passed l, ch < 32 → target < 8 → l < 4 → s.img.populated (32 * ch + 4 * target + l) = true → (s.chan ch).isolated = 0 → (s.chan ch).busy = none → target ∉ (s.chan ch).deselected →
    Table.getD (s.chan ch).zqRound target 0 + 4096 ≤ s.obs.rounds → ∃ u : State, exec (.zqCalShort ch target passed) s = .next u.settle ∧
    (passed = true ∨ (s.chan ch).zqFails = 0 → u.chan ch = { s.chan ch with zqRound := Table.set (s.chan ch).zqRound target s.obs.rounds, zqFails := if passed then 0 else (s.chan ch).zqFails + 1, caWait := (s.chan ch).caWait ++ [⟨32 * ch + 4 * target, false, zqShortCa (32 * ch + 4 * target)⟩] }) ∧
    (passed = false → 1 ≤ (s.chan ch).zqFails → ∃ v : State, u = v.isolateChannel ch 1 ∧ v.chan ch = { s.chan ch with zqRound := Table.set (s.chan ch).zqRound target s.obs.rounds, zqFails := (s.chan ch).zqFails + 1, caWait := (s.chan ch).caWait ++ [⟨32 * ch + 4 * target, false, zqShortCa (32 * ch + 4 * target)⟩] })) ∧
  (∀ s ch target passed, s.obs.rounds < Table.getD (s.chan ch).zqRound target 0 + 4096 → exec (.zqCalShort ch target passed) s = .next s)

/-- A decoder's end judges its frame: one that converged and passes the check of R114 answers its read; another goes to the next rung. That is the lowest retry step above
the last one, not the group's LAST_RETRY; with none left, the soft rung with six reads. RECAL_START, while fewer than 64 recalibrations run, takes the head of the hint queue, else of the
age queue, unless a recalibration runs on its die; a group without programmed data leaves its queue unmeasured. PATROL_VISIT takes the head of the fast list, else the group at the cursor,
which moves on by one and wraps; a visited group's reads count from 0 once the last of its samples has been judged, at once when it has none. RECONSTRUCT_DONE ends a reconstruction that
has an engine: a frame that passes the check counts as a degraded read and is good, another is misplaced. With nothing to do each changes nothing (log 1). -/
def Obligations.FramesDecodeAndGroupsAreKept : Prop :=
  (∀ s job j conv n, s.fjob job = some j → j.stage = 2 ∨ j.stage = 3 → ∃ u : State, exec (.frameDecodeDone job conv n) s = .next u.settle ∧
    u = (if conv = true ∧ s.runOk j.req = true then s.rungOk job j n else s.rungFail job j).decoders) ∧
  (∀ s job j conv n, s.fjob job = some j → j.stage ≠ 2 → j.stage ≠ 3 → exec (.frameDecodeDone job conv n) s = .next s) ∧
  (∀ s job conv n, s.fjob job = none → exec (.frameDecodeDone job conv n) s = .next s) ∧
  (∀ (s : State) job (j : FrameJob), (∀ g, j.req.use ≠ .trial g) → s.dieServes (dieOf j.req.gran) = true → j.req.kind ≠ .host ∨ 4 ≤ (s.die (dieOf j.req.gran)).hrq.length →
    (∀ st, j.rung < 2 → s.nextStep j.req.gran (if j.rung = 0 then 0 else j.step) = some st →
      (s.rungFail job j).fjob job = some { j with rung := 1, step := st, stage := 0, held := 1 }) ∧
    (j.rung < 2 → s.nextStep j.req.gran (if j.rung = 0 then 0 else j.step) = none →
      (s.rungFail job j).fjob job = some { j with rung := 2, step := 0, stage := 0, softLeft := 6, held := 1 })) ∧
  (∀ (s : State) gran st k, s.nextStep gran st = some k → st < k ∧ k ≤ s.img.retrySteps ∧ k ≤ 8 ∧ ∀ j, st < j → j < k →
    (s.blkRec (s.img.blkOf gran)).fc = false ∧ (s.vtGroup (s.groupOf (dieOf gran) (s.img.blockOf gran))).lastRetry = j) ∧
  (∀ s g b rest, s.engines 8 = true → s.codec.recals.length < 64 → s.codec.hint = (g, b) :: rest →
    ((∃ c ∈ s.codec.recals, c.group % 1024 = g % 1024) → exec .recalStart s = .next s) ∧
    ((∀ c ∈ s.codec.recals, c.group % 1024 ≠ g % 1024) → ∃ u : State, exec .recalStart s = .next u.settle ∧ u.codec.hint = rest ∧ u.codec.age = s.codec.age ∧
      (s.referenceBlock g (some b) = none → (u.vtGroup g).queued = false ∧ u.codec.recals = s.codec.recals) ∧
      (∀ blk, s.referenceBlock g (some b) = some blk → ∃ c, u.codec.recals = s.codec.recals ++ [c] ∧ c.group = g ∧ c.block = blk ∧ c.type = 0 ∧ c.pass = 0))) ∧
  (∀ s g rest, s.engines 8 = true → s.codec.recals.length < 64 → s.codec.hint = [] → s.codec.age = g :: rest → (∀ c ∈ s.codec.recals, c.group % 1024 ≠ g % 1024) →
    ∃ u : State, exec .recalStart s = .next u.settle ∧ u.codec.age = rest ∧ u.codec.hint = []) ∧
  (∀ s, s.engines 8 = false ∨ 64 ≤ s.codec.recals.length ∨ (s.codec.hint = [] ∧ s.codec.age = []) → exec .recalStart s = .next s) ∧
  (∀ s g rest, s.engines 8 = true → s.codec.fast = g :: rest → s.dieServes (g % 1024) = true → ∃ v : State, v = { s with codec := { s.codec with fast := rest } } ∧
    exec .patrolVisit s = .next (v.visitGroup g).settle) ∧
  (∀ s g rest, s.engines 8 = true → s.codec.fast = g :: rest → s.dieServes (g % 1024) = false → exec .patrolVisit s = .next { s with codec := { s.codec with fast := rest } }) ∧
  (∀ s, s.engines 8 = false → exec .patrolVisit s = .next s) ∧
  (∀ s, s.engines 8 = true → s.codec.fast = [] → s.dieServes (s.codec.cursor % 1024) = true → ∃ v : State, exec .patrolVisit s = .next (v.visitGroup s.codec.cursor).settle ∧
    v = { s with codec := { s.codec with cursor := if s.codec.cursor + 1 < ceilDiv s.img.blocksPerPlane (2 ^ s.img.groupShift) * 1024 then s.codec.cursor + 1 else 0 } }) ∧
  (∀ (s : State) g, (∀ i < 2 ^ s.img.groupShift, s.readable (g % 1024 * 65536 + (g / 1024 * 2 ^ s.img.groupShift + i)) = false) → Table.getD s.codec.visits g 0 = 0 →
    ((s.visitGroup g).vtGroup g).reads = 0 ∧ ∀ k, k ≠ g → (s.visitGroup g).vtGroup k = s.vtGroup k) ∧
  (∀ (s : State) g i, i < 2 ^ s.img.groupShift → s.readable (g % 1024 * 65536 + (g / 1024 * 2 ^ s.img.groupShift + i)) = true → 0 < s.img.patrolFrames →
    (s.visitGroup g).codec.vt = s.codec.vt ∧ 0 < Table.getD (s.visitGroup g).codec.visits g 0) ∧
  (∀ (s : State) g, Table.find s.codec.visits g = some 1 → ((s.sampleEnd g).vtGroup g).reads = 0) ∧
  (∀ s job r, Table.find s.girth.recons job = some r → r.engine = true → ∃ u : State, exec (.reconstructDone job) s = .next u.settle ∧ u = s.rebuilt job ∧
    (s.frameOk r.req (s.solved r) = true → s.solved r = s.frameInfo (r.req.gran / 8 * 8) → u.girth.degradedReads = satAdd 32 s.girth.degradedReads 1) ∧
    (s.frameOk r.req (s.solved r) = false ∨ s.solved r ≠ s.frameInfo (r.req.gran / 8 * 8) → u = ((s.dropRecon job).giveEngines).misplaced r.req (s.solved r))) ∧
  (∀ s job, (∀ r, Table.find s.girth.recons job = some r → r.engine = false) → exec (.reconstructDone job) s = .next s)

/-- Every sequence of an awl fits in 25 cycles on parts of at most 4 bits a cell and 4 row cycles: reads, page units of programs, erases by plane, suspends, resumes, status, resets. A host read's
sequence takes the pins before every other, and the other sequences follow in the order in which they were formed. A granule descriptor reads back from its 24 bytes, and its reserved bits are 0. The encoder keeps the information part and its codeword
satisfies all 25 rows of the parity-check matrix; every information column of the base matrix has 4 entries. Scrambling twice gives a codeword back, and its seed is never 0. A dump frame's place
names it and lies within its girth. -/
def Obligations.FlashBytesFollowTheirLayouts : Prop :=
  (∀ (i : ImgState), i.bitsPerCell ≤ 4 → i.rowCycles ≤ 4 → (∀ fc row gran, (i.readCa fc row gran).length ≤ 25) ∧ (∀ gran, (i.outCa gran).length ≤ 25) ∧
    (∀ fc blk wl j, (i.programCa fc blk wl j ++ confirmCa).length ≤ 25) ∧ (∀ fc blk plane, (i.eraseCa fc blk plane).length ≤ 25) ∧
    (∀ op die, (i.suspendCa op die).length ≤ 25 ∧ (i.resumeCa op die).length ≤ 25 ∧ (i.statusCa die).length ≤ 25 ∧ (i.resetLunCa die).length ≤ 25)) ∧
  (∀ (x : Channel) sq, x.nextCa = some sq → sq ∈ x.caWait ∧ (sq.hostRead = false → (∀ r ∈ x.caWait, r.hostRead = false) ∧ x.caWait.head? = some sq)) ∧
  (∀ (x : Channel), x.caWait ≠ [] → x.nextCa.isSome) ∧
  (∀ d : GranDesc, d.nsx < 2 ^ 10 → d.lba < 2 ^ 38 → d.dseq < 2 ^ 48 → d.tag < 2 ^ 64 → d.glen < 16 → d.pos < 8 → d.kind < 8 → d.slot < 2 ^ 13 →
    GranDesc.ofBits d.pack = d ∧ d.pack < 2 ^ 190 ∧ bitField d.pack 171 5 = 0) ∧
  (∀ info, info < 2 ^ infoBits → encode info < 2 ^ codeBits ∧ encode info % 2 ^ infoBits = info ∧ ∀ i, i < baseRows → syndrome (encode info) i = 0) ∧
  (∀ j, j < infoColumns → ((List.range baseRows).filter fun i => baseEntry i j).length = 4) ∧
  (∀ seed word, scramble seed (scramble seed word) = word) ∧ (∀ (i : ImgState) a, 0 < i.seedOf a ∧ i.seedOf a < 2 ^ 31) ∧
  (∀ wd fpu k x, 0 < wd → 0 < fpu → fpu % 4 = 0 → x = dumpSpot wd fpu k → x.index wd fpu = k ∧ x.mem < wd ∧ 4 * x.plane + x.frame < fpu ∧ x.frame < 4)

/-- A write unit at the skiver takes its stored bytes: padded to GLEN by its namespace's PAD_MODE when it is coded and the check decoder agrees, else its 4,096 bytes raw with GLEN 8
(a disagreement counts on its compressor). Where its key context gives out values, it takes COUNTER as DSEQ, COUNTER rises by one, and it waits for the engine. A unit that may
pass admission takes a buffer slot holding its stored bytes and descriptor, the index names that slot, and the unit has ended. A unit that may not, a unit at another stage, or a
compressor out of service while one serves, changes nothing. -/
def Obligations.UnitsPassTheWritePath : Prop :=
  (∀ s unit engine (checkOk : Bool) j n k, s.job unit = some j → j.stage = .skiver → j.kind = .write → engine ∈ s.skv.comps ∨ s.skv.comps = [] →
    s.spaceOf j.nsx = some n → s.keySlot n.slot = k → k.revoking = false → k.current.isSome → k.exhausted = false → k.mayAssign = true →
    ∃ (u : State) (v : UnitJob) (glen : Nat) (raw : Bool), exec (.skiverUnitDone unit engine checkOk) s = .next u.settle ∧ u.job unit = some v ∧
      (glen, raw) = unitLength n.padMode (s.skv.cfg.inlineEn && decide (s.skv.comps ≠ [])) (encodeInline j.data).length ∧
      (raw = true ∨ checkOk = false → v.stored = padTo 4096 j.data ∧ v.desc.raw = true ∧ v.desc.glen = 8) ∧
      (raw = false → checkOk = true → v.stored = padTo (glen * 512) (encodeInline j.data) ∧ v.desc.raw = false ∧ v.desc.glen = glen) ∧
      (raw = false → checkOk = false → (Table.getD u.skv.compMiss engine 0) = Table.getD s.skv.compMiss engine 0 + 1) ∧
      v.stage = .cipher ∧ v.desc.nsx = j.nsx ∧ v.desc.unit = j.unit ∧ v.desc.dseq = k.counter ∧ v.desc.slot = n.slot ∧ v.desc.kgen = k.kgen ∧
      (u.keySlot n.slot).counter = k.counter + 1) ∧
  (∀ s unit engine checkOk, (∀ j, s.job unit = some j → j.stage ≠ .skiver ∨ j.kind ≠ .write) ∨ (engine ∉ s.skv.comps ∧ s.skv.comps ≠ []) →
    exec (.skiverUnitDone unit engine checkOk) s = .next s) ∧
  (∀ s unit j, s.job unit = some j → s.mayAdmit unit j = true → (s.needSegs j.nsx j.unit).1 = true → ∃ (u : State) (gran : Nat) (w : WbSlot), exec (.unitAdmit unit) s = .next u.settle ∧
    u.job unit = none ∧ Table.find u.wb.slots gran = some w ∧ w.data = j.stored ∧ w.desc = j.desc ∧ w.tags = j.tagRec ∧
    (∃ p, u.map.wbiFind j.nsx j.unit = some (p, gran, j.desc.glen)) ∧ u.wb.dirty = (u.map.wbi.map fun (_, (_, _, _, l)) => l).sum) ∧
  (∀ s unit j, s.job unit = some j → s.mayAdmit unit j = true → (s.needSegs j.nsx j.unit).1 = false → ∃ u : State, exec (.unitAdmit unit) s = .next u.settle ∧
    u = (s.needSegs j.nsx j.unit).2.jobFails unit (stat 0 0x81)) ∧
  (∀ s unit, (∀ j, s.job unit = some j → s.mayAdmit unit j = false) → exec (.unitAdmit unit) s = .next s) ∧
  (∀ (s : State) unit j, s.mayAdmit unit j = true → s.wb.dirty ≤ s.wb.effMib * 2048 ∧ s.wb.dirty - s.oldGlen j.nsx j.unit + j.desc.glen ≤ s.wb.effMib * 2048 ∧
    s.dump.run = none ∧ s.earlierWrite unit j = false)

/-- A pair that ends its request with equal outputs: a unit to be encrypted takes its ciphertext and tag and waits for admission; a copied unit whose tag agrees goes on as it stands, another has failed its check; a Keyed Check compute succeeds with the first 8 bytes
of the CMAC in DW0 and DW1, a verify succeeds on a match and ends with 2:0x85 otherwise. On a mismatch the pair's count rises and the request waits for another pair; its second one
fails it (a write with 0:0x06, a read with 2:0x81). The request leaves the engine in every other case. For another pair, or a request that waits for its keys, nothing changes. Keyed Check, compute or verify: length 0 ends with 0:02h, an empty slot or one being erased with 7:C3h, another purpose than CHECK with 0:02h, a length above LIMIT_KIB (when not 0)
with 7:C8h; otherwise the command waits and a MAC request of the slot, with its SGEN, stands in the engine. Tack Lease: a packet that breaks check 1 ends with 0:02h; with an empty,
erased or other-purpose lease slot it ends with 7:C2h, DNR 1 and reason 1; otherwise it waits for its MAC request. Lease state changes in none of these steps. -/
def Obligations.CipherPairsServeRequests : Prop :=
  (∀ s req pair r keys, Table.find s.cipher.reqs req = some r → r.keys = some keys → r.pair = some pair →
    (∃ u v : State, exec (.cipherRequestDone req pair true) s = .next u.settle.leasesDue ∧ v = { s with cipher := { s.cipher with reqs := Table.del s.cipher.reqs req } } ∧ u = v.cipherEnds r.work keys ∧
      (∀ t j, r.work = .encrypt t → s.job t = some j → u.job t = some { j with stored := (sealUnit keys j.desc j.stored).1, desc := { j.desc with tag := (sealUnit keys j.desc j.stored).2 }, stage := .admission }) ∧
      (∀ t j, r.work = .decrypt t → s.job t = some j → tagAgrees keys j.desc j.stored = false → u = v.checkFailed t j) ∧
      (∀ t j, r.work = .check t → s.job t = some j → u = if tagAgrees keys j.desc j.stored then v.copyOut t j else v.checkFailed t { j with slot := none }) ∧
      (∀ g c, r.work = .mac g → s.cmd g = some c → c.admin = false → c.result = none → ∃ d, u.cmd g = some d ∧ d.result = some (
        if bitField (dw c.entry 10) 15 1 = 1 then (if cmacTag keys.k3 c.input = dw c.entry 14 + 2 ^ 32 * dw c.entry 15 then ok else stat 2 0x85)
        else { ok with dw0 := cmacTag keys.k3 c.input % 2 ^ 32, dw1 := cmacTag keys.k3 c.input / 2 ^ 32 }))) ∧
    (r.mismatches = [] → natAt s.cipher.pairMiss pair + 1 ≠ 4 → ∃ u : State, exec (.cipherRequestDone req pair false) s = .next u.settle ∧
      Table.find u.cipher.reqs req = some { r with pair := none, mismatches := [pair] } ∧ u.cipher.pairMiss = updAt s.cipher.pairMiss pair (· + 1) ∧
      u.cipher.pairs = s.cipher.pairs) ∧
    (natAt s.cipher.pairMiss pair + 1 = 4 → ∃ u : State, exec (.cipherRequestDone req pair false) s = .next u.settle ∧ pair ∉ u.cipher.pairs) ∧
    (r.mismatches ≠ [] → ∃ u : State, exec (.cipherRequestDone req pair false) s = .next u.settle ∧ Table.find u.cipher.reqs req = none ∧
      (∀ t j, r.work = .encrypt t → s.job t = some j → u.job t = none))) ∧
  (∀ s req pair agree, (∀ r, Table.find s.cipher.reqs req = some r → r.keys = none ∨ r.pair ≠ some pair) → exec (.cipherRequestDone req pair agree) s = .next s) ∧
  (∀ s tag c q x cq cid (data : List Byte) i, AtHand s tag c q x cq cid → c.waits false 0x85 = true →
    (i = .keyedCheckCompute tag data ∧ bitField (dw c.entry 10) 15 1 = 0) ∨ (i = .keyedCheckVerify tag data ∧ bitField (dw c.entry 10) 15 1 = 1) →
    ∀ n k len, n = bitField (dw c.entry 10) 0 13 → k = s.keySlot n → len = dw c.entry 11 → ∃ t, exec i s = .next t ∧
      (len = 0 → Served s t tag q x cq cid invalidField c.out) ∧
      (len ≠ 0 → k.kind = 0 ∨ k.revoking = true → Served s t tag q x cq cid (stat 7 0xC3) c.out) ∧
      (len ≠ 0 → k.kind ≠ 0 → k.revoking = false → k.purpose ≠ 3 → Served s t tag q x cq cid invalidField c.out) ∧
      (len ≠ 0 → k.kind = 1 → k.revoking = false → k.purpose = 3 → labelLimit k.label ≠ 0 → labelLimit k.label * 1024 < len → Served s t tag q x cq cid (stat 7 0xC8) c.out) ∧
      (len ≠ 0 → k.kind ≠ 0 → k.revoking = false → k.purpose = 3 → k.kind ≠ 1 ∨ labelLimit k.label = 0 ∨ len ≤ labelLimit k.label * 1024 →
        t.cmd tag = some { c with started := true, input := data.take len } ∧ t.fe.cqs = s.fe.cqs ∧ SameFrame s t ∧
        ∃ r, Table.find t.cipher.reqs s.cipher.nextReq = some r ∧ r.work = .mac tag ∧ r.slot = n ∧ r.sgen = k.sgen ∧ (k.pending = false → r.keys = k.current))) ∧
  (∀ s tag c q x cq cid (p : BitVec 512), AtHand s tag c q x cq cid → c.waits true 0xC1 = true → ∀ n k, n = s.rein.twin.slot → k = s.keySlot n →
    ∃ t, exec (.tackLease tag p) s = .next t ∧ t.rein = s.rein ∧
      (pktWell p = false → Served s t tag q x cq cid invalidField c.out) ∧
      (pktWell p = true → k.kind = 0 ∨ k.revoking = true ∨ k.purpose ≠ 2 → Answered t tag q x cq cid { stat 7 0xC2 with dnr := true, dw0 := 1 } c.out ∧ SameFrame s t ∧ SameData s t) ∧
      (pktWell p = true → k.kind ≠ 0 → k.revoking = false → k.purpose = 2 → t.cmd tag = some { c with started := true, input := toBytes 64 p.toNat } ∧ t.fe.cqs = s.fe.cqs ∧
        ∃ r, Table.find t.cipher.reqs s.cipher.nextReq = some r ∧ r.work = .mac tag ∧ r.slot = n ∧ r.sgen = k.sgen))

/-- A LABEL whose fields break R288 ends with 0:02h; one on a slot that serves mapped units, is pending or is being erased ends with 0:0Ch; on an empty slot it installs the label
(its SALT a free value, log 5) and succeeds; otherwise SGEN rises, the label is pending and the command waits. Parts of a blob come in order 0 to 3: an out of order part ends with
0:0Ch; parts 0 to 2 are kept for the controller; the last one is checked: a refused blob ends with 0:02h and its reason in DW0; a good one for a slot that is not a bound unwrapped
one becomes pending the same way. When no request with an older SGEN holds the slot, SLOT_REWRITE_INSTALL installs what is pending, completes the command and hands the waiting
requests the new keys. -/
def Obligations.SlotsTakeLabelsAndBlobs : Prop :=
  (∀ s tag c q x cq cid (buf : BitVec 256), AtHand s tag c q x cq cid → c.waits true 0x09 = true → isCipherOp 3 c = true →
    (cipherClean c = false → ∃ t, exec (.cipherLabel tag buf) s = .next t ∧ Served s t tag q x cq cid invalidField c.out) ∧
    (cipherClean c = true → ∀ n k, n = cipherSlot c → k = s.keySlot n →
      (labelOk buf n = false → ∃ t, exec (.cipherLabel tag buf) s = .next t ∧ Served s t tag q x cq cid invalidField c.out) ∧
      (labelOk buf n = true → k.pending = true ∨ k.revoking = true → ∃ t, exec (.cipherLabel tag buf) s = .next t ∧ Served s t tag q x cq cid sequenceError c.out) ∧
      (labelOk buf n = true → (∃ m, s.boundTo n = some m ∧ s.holdsMapped m.nsx = true) → ∃ t, exec (.cipherLabel tag buf) s = .next t ∧
        Served s t tag q x cq cid sequenceError c.out) ∧
      (labelOk buf n = true → k.pending = false → k.revoking = false → s.boundTo n = none → k.kind = 0 → ∃ t, exec (.cipherLabel tag buf) s = .next t ∧
        Answered t tag q x cq cid ok c.out ∧ (t.keySlot n).kind = 1 ∧ (t.keySlot n).purpose = labelPurpose buf ∧ (t.keySlot n).label = withSalt buf (Config.randomSalt s.free) ∧
        (t.keySlot n).current.isSome ∧ ∀ m, m ≠ n → t.keySlot m = s.keySlot m) ∧
      (labelOk buf n = true → k.pending = false → k.revoking = false → s.boundTo n = none → k.kind ≠ 0 → ∃ t, exec (.cipherLabel tag buf) s = .next t ∧
        t.cmd tag = some { c with started := true } ∧ t.fe.cqs = s.fe.cqs ∧
        t.keySlot n = { k with sgen := (k.sgen + 1) % 2 ^ 32, pendingLabel := some (withSalt buf (Config.randomSalt s.free)), pendingTag := some tag }))) ∧
  (∀ s tag c q x cq cid (buf : BitVec 256), AtHand s tag c q x cq cid → c.waits true 0x09 = true → isCipherOp 1 c = true → cipherClean c = true →
    ∀ n p before, n = cipherSlot c → p = cipherPart c →
      before = (match Table.find s.cipher.blobs c.ctrl with | some b => if b.slot = n then b.parts else [] | none => []) →
    (p ≠ 0 → before.length ≠ p → ∃ t, exec (.cipherBlobPart tag buf) s = .next t ∧ Served s t tag q x cq cid sequenceError c.out) ∧
    (p < 3 → p = 0 ∨ before.length = p → ∃ t, exec (.cipherBlobPart tag buf) s = .next t ∧ Served { s with cipher := { s.cipher with blobs := Table.set s.cipher.blobs c.ctrl { slot := n, parts := (if p = 0 then [] else before) ++ [toBytes 32 buf.toNat] } } } t tag q x cq cid ok c.out) ∧
    (p = 3 → before.length = 3 → ∀ reason, s.checkBlob n (before ++ [toBytes 32 buf.toNat]).flatten = .inl reason → ∃ t, exec (.cipherBlobPart tag buf) s = .next t ∧
      Answered t tag q x cq cid { invalidField with dw0 := reason } c.out ∧ t.cipher.slots = s.cipher.slots ∧ Table.find t.cipher.blobs c.ctrl = none) ∧
    (p = 3 → before.length = 3 → ∀ ks, s.checkBlob n (before ++ [toBytes 32 buf.toNat]).flatten = .inr ks → n ≠ 0x1FFF → (s.keySlot n).pending = false →
      (s.keySlot n).revoking = false → s.boundTo n = none → ∃ t, exec (.cipherBlobPart tag buf) s = .next t ∧ t.cmd tag = some { c with started := true } ∧
        (t.keySlot n).pendingKeys = some ks ∧ (t.keySlot n).sgen = ((s.keySlot n).sgen + 1) % 2 ^ 32 ∧ (t.keySlot n).pendingTag = some tag)) ∧
  (∀ s n, (s.keySlot n).pending = true → s.slotQuiet n = true → ∃ u : State, exec (.slotRewriteInstall n) s = .next u.settle ∧ (u.keySlot n).pending = false ∧
    (∀ l, (s.keySlot n).pendingLabel = some l → (u.keySlot n).kind = 1 ∧ (u.keySlot n).label = l ∧ (u.keySlot n).purpose = labelPurpose l) ∧
    (∀ ks, (s.keySlot n).pendingLabel = none → (s.keySlot n).pendingKeys = some ks → (u.keySlot n).kind = 2 ∧ (u.keySlot n).current = some ks) ∧
    (∀ i r, Table.find s.cipher.reqs i = some r → r.slot = n → r.keys = none → Table.find u.cipher.reqs i = some { r with keys := (u.keySlot n).current }) ∧
    (∀ g c, (s.keySlot n).pendingTag = some g → s.cmd g = some c → c.result = none → u.cmd g = some { c with result := some ok, started := true })) ∧
  (∀ s n, (s.keySlot n).pending = false ∨ s.slotQuiet n = false → exec (.slotRewriteInstall n) s = .next s)

/-- BIND: reserved bits of CDW11 set end with 0:02h, an NSID that names no namespace with 0:0Bh, a namespace that holds a mapped unit or whose slot sweeps with 0:0Ch, a bad PAD_MODE, an
empty slot, one of another purpose or one bound elsewhere with 0:02h; otherwise the namespace takes slot and PAD_MODE, and nothing else changes. ERASE of a slot above 4,159 ends with
0:02h; of an empty slot without a record it succeeds and changes nothing; of one being erased it waits with that erase; otherwise SGEN rises and both key sets are gone at once.
Get Features returns CIPHER_NS of the namespace and CIPHER_SLOT of the slot, and changes nothing. -/
def Obligations.SlotsAreBoundErasedAndRead : Prop :=
  ∀ s tag c q x cq cid, AtHand s tag c q x cq cid →
    (c.waits true 0x09 = true → isCipherOp 0 c = true → ∀ buf : BitVec 256,
      (cipherClean c = false → ∃ t, exec (.cipherBindSet tag buf) s = .next t ∧ Served s t tag q x cq cid invalidField c.out) ∧
      (cipherClean c = true → Table.find s.fe.spaces (sqeNsid c.entry) = none → ∃ t, exec (.cipherBindSet tag buf) s = .next t ∧ Served s t tag q x cq cid (stat 0 0x0B) c.out) ∧
      (cipherClean c = true → ∀ n, Table.find s.fe.spaces (sqeNsid c.entry) = some n → ∃ t, exec (.cipherBindSet tag buf) s = .next t ∧
        if s.holdsMapped n.nsx = true ∨ (s.keySlot n.slot).sweep = true then Served s t tag q x cq cid sequenceError c.out
        else if bitField buf.toNat 14 2 = 3 ∨ (s.keySlot (bitField buf.toNat 0 13)).kind = 0 ∨ (s.keySlot (bitField buf.toNat 0 13)).purpose ≠ 1 ∨
          (s.fe.spaces.any fun (i, m) => decide (i ≠ sqeNsid c.entry) && decide (m.slot = bitField buf.toNat 0 13)) = true then Served s t tag q x cq cid invalidField c.out
        else Served { s with fe := { s.fe with spaces := Table.set s.fe.spaces (sqeNsid c.entry) { n with slot := bitField buf.toNat 0 13, padMode := bitField buf.toNat 14 2 } } }
          t tag q x cq cid ok c.out)) ∧
    (c.waits true 0x0A = true → isCipherOp 0 c = true → cipherClean c = true →
      (∀ n, Table.find s.fe.spaces (sqeNsid c.entry) = some n → getSel c = 0 → ∃ t, exec (.cipherBindGet tag) s = .next t ∧
        Served s t tag q x cq cid ok (toBytes 32 (s.cipherNs n))) ∧
      (Table.find s.fe.spaces (sqeNsid c.entry) = none → ∃ t, exec (.cipherBindGet tag) s = .next t ∧ Served s t tag q x cq cid (stat 0 0x0B) c.out)) ∧
    (c.waits true 0x09 = true → isCipherOp 2 c = true → cipherClean c = true →
      (4160 ≤ cipherSlot c → ∃ t, exec (.cipherErase tag) s = .next t ∧ Served s t tag q x cq cid invalidField c.out) ∧
      (cipherSlot c < 4160 → ∀ k, k = s.keySlot (cipherSlot c) →
        (k.revoking = false → k.kind = 0 → (∀ r ∈ s.ts.records .keyStore, r.ofSlot (cipherSlot c) = false) → ∃ t, exec (.cipherErase tag) s = .next t ∧
          Served s t tag q x cq cid ok c.out) ∧
        (k.revoking = true → ∃ t, exec (.cipherErase tag) s = .next t ∧ t.cmd tag = some { c with started := true } ∧ t.fe.cqs = s.fe.cqs ∧
          t.cipher.slots = s.cipher.slots ∧ ∀ e ∈ s.cipher.erasing, e.slot = cipherSlot c → { e with tags := e.tags ++ [tag] } ∈ t.cipher.erasing) ∧
        (k.revoking = false → k.kind ≠ 0 → ∃ t, exec (.cipherErase tag) s = .next t ∧ (t.keySlot (cipherSlot c)).current = none ∧
          (t.keySlot (cipherSlot c)).previous = none ∧ (t.keySlot (cipherSlot c)).sgen = (k.sgen + 1) % 2 ^ 32 ∧
          ∀ i r, Table.find t.cipher.reqs i = some r → r.slot ≠ cipherSlot c))) ∧
    (c.waits true 0x0A = true → isCipherOp 4 c = true → cipherClean c = true →
      (4160 ≤ cipherSlot c → ∃ t, exec (.cipherStatus tag) s = .next t ∧ Served s t tag q x cq cid invalidField c.out) ∧
      (cipherSlot c < 4160 → ∃ t, exec (.cipherStatus tag) s = .next t ∧
        BufferAnswered s t tag c q x cq cid (s.cipherSlotStatus (cipherSlot c)) 0 (s.cipherSlotStatus (cipherSlot c))))

/-- A stream that needs a set takes members one by one, and a set that stands then has its stream, the width in force, W + 2 members and state open; where a die is at its floor the
stream waits. The wait's end goes on with the same die once its pool is above the floor, or with the channel's next one when the die has left service, while the layout has the channels it needs. A filling girth that is full,
awaited, or of an ended set, or whose oldest unit has reached CLOSE_AGE, stops filling. A ledger page that is due takes entries for eight frames at most, its number the next LSEQ, and
the current pair moves on by a page. Where nothing is due, or restart, a dump, a hold on reset or fault stop keeps the engines from working (the model's deduction, log 63), nothing changes. -/
def Obligations.SetsOpenAndGirthsClose : Prop :=
  (∀ s n, s.engines 8 = true → s.wantsSet n = true → ∃ u : State, exec (.setOpen n) s = .next u.settle ∧
    u = (s.modStream n fun x => { x with takingFc := s.fastSet n, takingW := s.girth.w, takingNo := s.girth.opened }).takeMembers n (s.girth.w + 3) ∧
    (∀ id, (u.stream n).set = some id → ∃ r, Table.find u.girth.sets id = some r ∧ r.stream = n ∧ r.w = s.girth.w ∧ r.fc = s.fastSet n ∧ r.state = 1 ∧
      s.girth.w + 2 ≤ r.member.length)) ∧
  (∀ s n, s.wantsSet n = false → exec (.setOpen n) s = .next s) ∧
  (∀ (s : State) n, s.fastSet n = true → n ≤ 3 ∧ s.fcBlocks + s.girth.w + 2 ≤ s.fcTargetBlocks) ∧
  (∀ s n d, s.engines 8 = true → (s.stream n).floorDie = some d → s.girth.noSets = true ∨ s.channelCount < (s.stream n).takingW + 2 → exec (.hostGirthOpenWaitEnd n) s = .next s) ∧
  (∀ s n d, s.engines 8 = true → (s.stream n).floorDie = some d → s.girth.noSets = false → (s.stream n).takingW + 2 ≤ s.channelCount →
    (s.dieServes d = false → ∃ u : State, exec (.hostGirthOpenWaitEnd n) s = .next u.settle ∧
      u = (s.modStream n fun x => { x with floorDie := none }).takeMembers n ((s.stream n).takingW + 3)) ∧
    (s.dieServes d = true → s.mustWait n d = true → exec (.hostGirthOpenWaitEnd n) s = .next s) ∧
    (s.dieServes d = true → s.mustWait n d = false → ∃ u : State, exec (.hostGirthOpenWaitEnd n) s = .next u.settle ∧
      u = (s.takeMember n d).takeMembers n ((s.stream n).takingW + 3))) ∧
  (∀ s n, (s.stream n).floorDie = none → exec (.hostGirthOpenWaitEnd n) s = .next s) ∧
  (∀ s n id g, s.engines 8 = true → (s.stream n).filling = some id → s.girthRec id = some g →
    (s.mustClose g = true → ∃ u : State, exec (.girthCloseStart n) s = .next u.settle ∧ u = s.stopFilling id) ∧
    (s.mustClose g = false → exec (.girthCloseStart n) s = .next s) ∧
    (∀ wt, g.oldestWt = some wt → wt + s.img.closeAge ≤ s.wheel.wt → ∃ u : State, exec (.girthCloseAge n) s = .next u.settle ∧ u = s.stopFilling id) ∧
    (∀ wt, g.oldestWt = some wt → s.wheel.wt < wt + s.img.closeAge → exec (.girthCloseAge n) s = .next s) ∧
    (∃ h, (s.stopFilling id).girthRec id = some h ∧ h.closing = true)) ∧
  (∀ s n, (s.stream n).filling = none → exec (.girthCloseStart n) s = .next s ∧ exec (.girthCloseAge n) s = .next s) ∧
  (∀ s, s.engines 7 = true → s.pageDue = true → ∃ u : State, exec .ledgerPageWrite s = .next u.settle ∧
    (∀ a b p, s.girth.pair = some (a, b, p) → s.girth.ledgerLost = false → p < s.img.fcPages - 1 → s.girth.refreshAt.isSome →
      u.girth.pair = some (a, b, p + 1) ∧ u.girth.lseq = s.girth.lseq + 16 ∧
      u.girth.waiters = (splitEight s.girth.ledgerNew 0 0).2.countP s.hasWaiter ∧ u.girth.ledgerNew = (splitEight s.girth.ledgerNew 0 0).2 ∧
      ∃ pg, u.girth.ledgerBusy = s.girth.ledgerBusy ++ [(pg, none, none)] ∧ pg.seq = s.girth.lseq ∧ pg.copyA = a ∧ pg.copyB = b ∧ pg.page = p ∧
        pg.entries = (splitEight s.girth.ledgerNew 0 0).1)) ∧
  (∀ s, s.pageDue = false ∨ s.engines 7 = false → exec .ledgerPageWrite s = .next s) ∧
  (∀ s, s.engines 8 = false → ∀ n, exec (.setOpen n) s = .next s ∧ exec (.hostGirthOpenWaitEnd n) s = .next s ∧ exec (.girthCloseStart n) s = .next s ∧
    exec (.girthCloseAge n) s = .next s)

/-- While fewer than ACTIVE_VICTIMS are active and copies wait for less than two girths, the victim of R168's order is taken: SUSPECT blocks first, then refresh, then by valid count in
bands 6 and 7, then the other lists; it becomes VICTIM (SUSPECT stays so), active, and its walk is made. A block whose gate is open gets its erase intent into the ledger, awaited.
A lost ledger copy is answered before a rebuild; a set taken for rebuild or reshape is counted there, and one that has ended is in evacuation. A staging run of STAGE_AGE, and the root staging frame, is
written to stream 6; a snapshot that is due, the root staging frame first, while none starts a new epoch. Otherwise, and while restart, a dump, a hold on reset or fault stop keeps the engines from
working (the model's deduction, log 63), nothing changes. -/
def Obligations.VictimsRebuildsAndErasesAreTaken : Prop :=
  (∀ s b, s.engines 8 = true → s.blk.active.length < s.img.activeVictims → s.copyLoad < s.twoGirths → s.nextVictim = some b → ∃ u : State, exec .victimTake s = .next u.settle ∧
    u.blk.active = s.blk.active.filter (· ≠ b) ++ [b] ∧ (u.blkRec b).mode = (if (s.blkRec b).mode = .suspect then .suspect else .victim) ∧ (u.blkRec b).walked = true) ∧
  (∀ s, s.img.activeVictims ≤ s.blk.active.length ∨ s.twoGirths ≤ s.copyLoad ∨ s.nextVictim = none → exec .victimTake s = .next s) ∧
  (∀ (s : State) b, (s.forcedHead 1 = some b → s.nextVictim = some b) ∧
    (s.forcedHead 1 = none → s.forcedHead 2 = some b → s.nextVictim = some b) ∧
    (s.forcedHead 1 = none → s.forcedHead 2 = none → 6 ≤ s.blk.band → s.map.restoring = false → s.validTake = some b → s.nextVictim = some b) ∧
    (s.forcedHead 1 = none → s.forcedHead 2 = none → s.blk.band < 6 → s.forcedHead 3 = some b → s.nextVictim = some b) ∧
    ((∀ k < 6, s.forcedHead k = none) → s.blk.band = 0 → s.nextVictim = none)) ∧
  (∀ s b, s.engines 8 = true → s.gateOpen b = true → ∃ u : State, exec (.eraseGateOpen b) s = .next u.settle ∧ (u.blkRec b).intent = true ∧
    u.girth.ledgerNew = s.girth.ledgerNew ++ [.eraseIntent b (s.blkRec b).wantFc] ∧ u.girth.waiters = s.girth.waiters + 1 ∧ u.media = s.media ∧ u.awl = s.awl) ∧
  (∀ s b, s.gateOpen b = false → exec (.eraseGateOpen b) s = .next s) ∧
  (∀ (s : State) b, s.gateOpen b = true → (s.blkRec b).mode = .eraseWait ∧ (s.blkRec b).valid = 0 ∧ (s.blkRec b).inflight = 0 ∧ (s.blkRec b).intent = false) ∧
  (∀ s, s.girth.noSets = true → exec .rebuildTake s = .next s) ∧
  (∀ s, s.engines 8 = true → s.girth.noSets = false → s.girth.ledgerLost = true → ∃ u : State, exec .rebuildTake s = .next u.settle ∧ u.girth.ledgerLost = false ∧ u.girth.refreshAt = none ∧
    u.girth.waiters = s.girth.waiters + 1) ∧
  (∀ s k, s.engines 8 = true → s.girth.noSets = false → s.girth.ledgerLost = false → s.copyLoad < s.twoGirths → s.girth.rebuild ≠ [] → s.nextRebuild = some k →
    s.girth.rebuilding.length < s.img.rebuildSets → ∃ u : State, exec .rebuildTake s = .next u.settle ∧ ((s.setRec k).state = 2 → (u.setRec k).state = 3) ∧
      u.girth.rebuilding = s.girth.rebuilding ++ [k] ∧ u.girth.rebuild = s.girth.rebuild.filter (·.1 ≠ k)) ∧
  (∀ s k, s.engines 8 = true → s.girth.noSets = false → s.girth.ledgerLost = false → s.copyLoad < s.twoGirths → s.girth.rebuild = [] → s.girth.reshape.head? = some k →
    s.girth.reshaping.length < s.img.reshapeSets → ∃ u : State, exec .rebuildTake s = .next u.settle ∧ ((s.setRec k).state = 2 → (u.setRec k).state = 3) ∧ u.girth.reshaping = s.girth.reshaping ++ [k]) ∧
  (∀ s seg, s.engines 8 = true → seg ≠ Config.maxSegments → (s.seg seg).staging ≠ [] → (s.seg seg).stagingWt + s.img.stageAge ≤ s.wheel.wt → ∃ u : State,
    exec (.journalStageAge seg) s = .next u.settle ∧ (u.seg seg).staging = [] ∧ (u.seg seg).nextRun = (s.seg seg).nextRun + 1 ∧
    (6 < s.girth.streams.length → .run seg (s.seg seg).nextRun (s.seg seg).staging ∈ (u.stream 6).list)) ∧
  (∀ s seg, seg ≠ Config.maxSegments → (s.seg seg).staging = [] ∨ s.wheel.wt < (s.seg seg).stagingWt + s.img.stageAge → exec (.journalStageAge seg) s = .next s) ∧
  (∀ s, s.engines 8 = true → s.map.rootStaging ≠ [] → s.map.rootStagingWt + s.img.stageAge ≤ s.wheel.wt → ∃ u : State, exec (.journalStageAge Config.maxSegments) s = .next u.settle ∧
    u.map.rootStaging = [] ∧ u.map.rootFrames = s.map.rootFrames + 1 ∧
    (6 < s.girth.streams.length → .root s.map.rootFrames s.map.rootStaging s.map.rootLast s.map.epoch ∈ (u.stream 6).list)) ∧
  (∀ s, s.engines 8 = true → 1048576 ≤ s.map.rootSince ∨ s.map.snapRound + 4096 ≤ s.obs.rounds → s.map.snapLeft = 0 → ∃ u : State, exec .rootSnapshot s = .next u.settle ∧
    u.map.epoch = s.map.epoch + 1 ∧ u.map.rootSince = 0 ∧ u.map.snapLeft = s.snapshotFrames.length + 1 ∧ u.map.snapRound = s.obs.rounds ∧ u.map.segs = s.map.segs ∧ u.map.rootStaging = [] ∧
    u.map.snapRoot = u.map.rootFrames ∧ (6 < s.girth.streams.length → .snapshot (s.map.epoch + 1) u.map.rootFrames (s.snapshotFrames.map fun (k, i, _) => (k, i)) ∈ (u.stream 6).list)) ∧
  (∀ s, s.map.snapLeft ≠ 0 → exec .rootSnapshot s = .next s) ∧
  (∀ s, s.engines 8 = false → exec .victimTake s = .next s ∧ (∀ b, exec (.eraseGateOpen b) s = .next s) ∧ exec .rebuildTake s = .next s ∧
    (∀ seg, exec (.journalStageAge seg) s = .next s) ∧ exec .rootSnapshot s = .next s)

/-- A fall of PWRFAIL_N starts the filter; a rise before it expires counts a runt. At its expiry, with an active hold set and no dump since the last restart, the dump of CAUSE 0 starts:
fetching stops, the dump plan replaces the running one, both heartbeats are low, and every unit named by the index stands in the dump's image; otherwise only the filter ends. A dump
unit ends once, after the unit before it on its channel, on a die that is not being reset; one that failed, or that no die holds, is a lost member; the last one queues DONE. The row of the dump plan moves on by one.
When the dump has ended with PWRFAIL_N low the main domain is held; one of a shutdown, with no other hold in force, leaves shutdown complete and no reset; a high level that outlasts its filter ends that hold: the last hold released brings the power-on reset, which leaves
flash as it was. Where nothing is due nothing changes. -/
def Obligations.PowerLossStartsOneDump : Prop :=
  (∀ s, s.pkg.pwrfailN = true → exec .pwrfailNFall s = .next { s with pkg := { s.pkg with pwrfailN := false }, dump := { s.dump with filterLow := true, filterHigh := false } }) ∧
  (∀ s, s.pkg.pwrfailN = false → exec .pwrfailNFall s = .next s) ∧
  (∀ s, s.pkg.pwrfailN = true → exec .pwrfailNRise s = .next s) ∧
  (∀ s, s.pkg.pwrfailN = false → ∃ t, exec .pwrfailNRise s = .next t ∧ t.pkg = { s.pkg with pwrfailN := true } ∧
    t.dump = { s.dump with filterLow := false, filterHigh := s.dump.holds.contains 1 || s.dump.run.isSome } ∧ SameData { s with dump := t.dump } t ∧
    (s.dump.filterLow = false → t.obs = s.obs) ∧ (s.dump.filterLow = true → t.obs = (s.count1 0x061).obs)) ∧
  (∀ s, s.pkg.pwrfailN = true ∨ s.dump.filterLow = false → exec .pwrfailFilterExpire s = .next s) ∧
  (∀ s, s.pkg.pwrfailN = false → s.dump.filterLow = true → s.dump.active = none ∨ s.dump.since = true → ∃ t, exec .pwrfailFilterExpire s = .next t ∧
    t.dump = { s.dump with filterLow := false } ∧ SameFrame s t ∧ t.fe = s.fe) ∧
  (∀ s set, s.pkg.pwrfailN = false → s.dump.filterLow = true → s.dump.active = some set → s.dump.since = false → ∃ t r, exec .pwrfailFilterExpire s = .next t ∧
    t.dump.run = some r ∧ r.cause = 0 ∧ r.set = bit set ∧ r.serial = s.dump.serial + 1 ∧ r.ended = [] ∧ r.lost = [] ∧ r.image.units = s.dumpUnits ∧ r.image.wt = s.wheel.wt ∧
    t.dump.since = true ∧ t.dump.filterLow = false ∧ t.fe.stopped = true ∧ t.plan.running = s.plan.dump ∧ (∀ p, (t.port p).hbeat = false) ∧ t.media = s.media ∧ t.map = s.map) ∧
  (∀ s, s.dump.run = none → exec .dumpRowStep s = .next s ∧ ∀ g m good, exec (.dumpUnitProgramDone g m good) s = .next s) ∧
  (∀ s d, s.dump.run = some d → exec .dumpRowStep s = .next { s with dump := { s.dump with run := some { d with row := (d.row + 1) % 1024 } } }) ∧
  (∀ s d g m good, s.dump.run = some d → d.mayEnd g m = false ∨ (∃ x, s.dumpDie d g m = some x ∧ (s.die x).resetting = true) → exec (.dumpUnitProgramDone g m good) s = .next s) ∧
  (∀ s d g m good, s.dump.run = some d → d.mayEnd g m = true → (∀ x, s.dumpDie d g m = some x → (s.die x).resetting = false) → ∃ t e, exec (.dumpUnitProgramDone g m good) s = .next t ∧ t.dump = { s.dump with run := some e } ∧
    e = d.unitEnd g m (good && (s.dumpDie d g m).isSome) ∧ e.ended = d.ended ++ [(g, m)] ∧ e.mayEnd g m = false ∧ t.media = s.media ∧
    (good = true → e.ended.length = e.girths * (e.wd + 2) → t.ts = (s.writeRec .dumpAnchor (.dumpAnchor 3 d.set d.serial s.chMask (d.image.wt % 2 ^ 48))).ts.pump)) ∧
  (∀ (d : DumpRun) g m, d.mayEnd g m = true → g < d.girths ∧ m < d.wd + 2 ∧ (g, m) ∉ d.ended ∧ (0 < g → (g - 1, m) ∈ d.ended)) ∧
  (∀ (s : State) d, s.dump.run = some d → s.pkg.pwrfailN = false → s.fault.dumpFatal = none → s.dumpEnds.dump.run = none ∧ s.dumpEnds.dump.inReset = true ∧
    1 ∈ s.dumpEnds.dump.holds ∧ s.dumpEnds.media = s.media ∧ s.dumpEnds.pkg.vcoreReq = 20) ∧
  (∀ (s : State) d, s.dump.run = some d → d.cause = 1 → d.boundaryScan = false → s.pkg.pwrfailN = true → s.fault.dumpFatal = none → s.fault.stop = none → s.therm.tripped = false →
    s.pkg.jtagWaiting = none → s.dumpEnds.fe.shst = 2 ∧ s.dumpEnds.dump.shutdown = true ∧ s.dumpEnds.dump.holds = [5] ∧ s.dumpEnds.dump.inReset = false ∧ s.dumpEnds.media = s.media) ∧
  (∀ s, s.pkg.pwrfailN = false ∨ s.dump.filterHigh = false → exec .pwrfailNHighFilterExpire s = .next s) ∧
  (∀ s, s.pkg.pwrfailN = true → s.dump.filterHigh = true → ∃ t, exec .pwrfailNHighFilterExpire s = .next t ∧ t.media = s.media ∧
    (1 ∉ s.dump.holds → t = { s with dump := { s.dump with filterHigh := false } }) ∧
    (1 ∈ s.dump.holds → (∀ h ∈ s.dump.holds, h = 1 ∨ h = 3) →
      t.ts.bootStep = 0 ∧ t.pending = s.pending ∧ t.dump.holds = [] ∧ t.dump.inReset = false) ∧
    (∀ h ∈ s.dump.holds, 1 ∈ s.dump.holds → h ≠ 1 → h ≠ 3 → h ∈ t.dump.holds ∧ 1 ∉ t.dump.holds))

/-- After 100,000 tooth boundaries in a row with too little energy, or with no window that fits, each counted by itself, BACKUP_FAIL stands: the effective window is 64 MiB, the count of covering teeth starts again, and Critical Warning
bit 4 is set; code 0x0905 is left. After 100,000 in a row that cover a 64 MiB window it ends and the effective window is the largest that fits again. Before those counts nothing
changes. While BACKUP_FAIL stands EFF_MIB is 64; otherwise it is a multiple of 64 that fits and no greater than DW_MIB. -/
def Obligations.BackupEnergyFailsAndRecovers : Prop :=
  (∀ s, 100000 ≤ s.wb.shortTeeth ∨ 100000 ≤ s.wb.zeroTeeth → s.wb.backupFail = false → ∃ u : State, exec .backupFailEnter s = .next u.settle ∧
    u.wb = { s.wb with backupFail := true, effMib := 64, coverTeeth := 0 } ∧ u.backupWarning = true ∧ SameFrame s u ∧ u.map = s.map ∧ u.media = s.media) ∧
  (∀ s, (s.wb.shortTeeth < 100000 ∧ s.wb.zeroTeeth < 100000) ∨ s.wb.backupFail = true → exec .backupFailEnter s = .next s) ∧
  (∀ s, 100000 ≤ s.wb.coverTeeth → s.wb.backupFail = true → ∃ u : State, exec .backupFailEnd s = .next u.settle ∧
    { u with wb := s.wb } = s ∧ u.wb.backupFail = false ∧ u.wb.shortTeeth = 0 ∧ u.wb.zeroTeeth = 0 ∧ u.wb.effMib = u.effWindow) ∧
  (∀ s, s.wb.coverTeeth < 100000 ∨ s.wb.backupFail = false → exec .backupFailEnd s = .next s) ∧
  (∀ (s : State) code, ∃ u : State, s.energyTooth code = u ∧ u.wb.effMib = u.effWindow ∧
    u.wb.shortTeeth = (if u.wb.eAvail < u.wb.eNeed then min 100000 (s.wb.shortTeeth + 1) else 0) ∧
    u.wb.zeroTeeth = (if u.wb.effMib = 0 then min 100000 (s.wb.zeroTeeth + 1) else 0)) ∧
  (∀ s : State, (s.wb.backupFail = true → s.effWindow = 64) ∧
    (s.wb.backupFail = false → s.effWindow % 64 = 0 ∧ s.effWindow ≤ s.wb.dwMib ∧ (0 < s.effWindow → s.windowFits s.effWindow = true) ∧
      ∀ m, 0 < m → m % 64 = 0 → m ≤ s.wb.dwMib → s.windowFits m = true → m ≤ s.effWindow))

/-- A link that comes up takes its rate and width and runs a self-test; a recovery counts and takes the rate and width it reaches; each is followed by the health check, which a trained
rein's health then meets. The periodic self-test runs after 65,536 rounds; a malformed TLP counts. PERST low untrains the rein, lowers its heartbeat and disables every controller of it,
a hot reset does the same and trains again: both return REIN_HEALTH but its counters to the power-on values (R9) and disable the VFs. A function level reset disables that controller
alone, one of the PF the rein's VFs too (PRESUMED, log 7); a link loss counts and leaves every enable as it is. PERST high begins training. The other rein's fields stand as they were in
all of these, but for the lease fence, which follows LEASE_ENFORCE where a controller's reset restores it. On a rein that does not exist, or where the link stands otherwise, nothing changes. -/
def Obligations.ReinLinksTrainAndReset : Prop :=
  (∀ s (r : Rein) (k : LinkFound), s.reinExists r = true → s.ts.bootStep ≠ 0 → (s.port r).perst = false → (s.port r).up = false → ∃ t, exec (.linkUp r k) s = .next t ∧
    (t.port r).link = 2 ∧ (t.port r).rate = k.rate ∧ (t.port r).width = min k.width s.fullWidth ∧ (t.port r).flit = (k.flit || decide (k.rate = 6)) ∧
    (t.port r).replays = satAdd 32 (s.port r).replays k.replays ∧ (t.port r).corrErrors = satAdd 32 (s.port r).corrErrors k.corrErrors ∧
    (t.port r).uncorrErrors = satAdd 32 (s.port r).uncorrErrors k.uncorrErrors ∧ (t.port r).selftest = s.eyeResult (min k.width s.fullWidth) k.eyes ∧ (t.port r).testRound = s.obs.rounds ∧
    (k.rate ≠ 0 → (t.port r).health = s.healthOf (t.port r)) ∧ t.port r.other = s.port r.other ∧ SameData s t) ∧
  (∀ s (r : Rein) k, (s.port r).up = true ∨ (s.port r).perst = true ∨ s.reinExists r = false → exec (.linkUp r k) s = .next s) ∧
  (∀ s (r : Rein) (k : LinkFound), (s.port r).up = true → ∃ t, exec (.linkRecovery r k) s = .next t ∧ (t.port r).recoveries = satAdd 32 (s.port r).recoveries 1 ∧
    (t.port r).recRound = satAdd 16 (s.port r).recRound 1 ∧ (t.port r).rate = k.rate ∧ (t.port r).width = min k.width s.fullWidth ∧ (t.port r).flit = (k.flit || decide (k.rate = 6)) ∧
    (t.port r).replays = satAdd 32 (s.port r).replays k.replays ∧ (t.port r).corrErrors = satAdd 32 (s.port r).corrErrors k.corrErrors ∧
    (t.port r).uncorrErrors = satAdd 32 (s.port r).uncorrErrors k.uncorrErrors ∧ (k.rate ≠ 0 → (t.port r).health = s.healthOf (t.port r)) ∧
    t.port r.other = s.port r.other ∧ SameData s t) ∧
  (∀ s (r : Rein) e, (s.port r).up = true → (s.port r).testRound + 65536 ≤ s.obs.rounds → ∃ t, exec (.reinSelfTestPeriodic r e) s = .next t ∧
    (t.port r).selftest = s.eyeResult (s.port r).width e ∧ (t.port r).eyeWidth = e.width ∧ (t.port r).eyeHeight = e.height ∧ (t.port r).testRound = s.obs.rounds ∧
    t.port r.other = s.port r.other ∧ SameData s t) ∧
  (∀ s (r : Rein) e, s.obs.rounds < (s.port r).testRound + 65536 → exec (.reinSelfTestPeriodic r e) s = .next s) ∧
  (∀ s (r : Rein), (s.port r).up = true → ∃ t, exec (.malformedTlp r) s = .next t ∧ t.port r = { s.port r with uncorrErrors := satAdd 32 (s.port r).uncorrErrors 1 } ∧
    t.port r.other = s.port r.other ∧ SameData s t) ∧
  (∀ s (r : Rein), (s.port r).up = false → exec (.malformedTlp r) s = .next s ∧ (∀ k, exec (.linkRecovery r k) s = .next s) ∧ exec (.hotReset r) s = .next s ∧ exec (.linkDown r) s = .next s) ∧
  (∀ (p : ReinPort) l, p.reinReset l = { p with link := l, rate := 0, width := 0, flit := false, ptm := false, aspmL1 := false, vfs := 0, health := 0, selftest := 0, lastDownWt := 0, eyeWidth := [], eyeHeight := [] }) ∧
  (∀ s (r : Rein), s.reinExists r = true → (s.port r).perst = false → ∃ t, exec (.perstAssert r) s = .next t ∧
    t.port r = { (s.port r).reinReset 4 with perst := true, hbeat := false, fencedLease := (t.port r).fencedLease } ∧
    (∀ c, s.sharedCtrl = true ∨ c / 64 = r.num → (t.ctrl c).en r = false) ∧ t.port r.other = { s.port r.other with fencedLease := (t.port r.other).fencedLease } ∧
    t.wheel.wt = s.wheel.wt ∧ t.wheel.lt = s.wheel.lt ∧ t.wheel.mode = s.wheel.mode ∧ t.plan = s.plan) ∧
  (∀ s (r : Rein), s.reinExists r = true → (s.port r).perst = true → ∃ t, exec (.perstRelease r) s = .next t ∧ t.port r = { s.port r with perst := false, link := 1 } ∧
    { t with rein := s.rein } = s ∧ t.port r.other = s.port r.other) ∧
  (∀ s (r : Rein), (s.port r).perst = false → exec (.perstRelease r) s = .next s) ∧
  (∀ s (r : Rein), (s.port r).perst = true → exec (.perstAssert r) s = .next s) ∧
  (∀ s (r : Rein), (s.port r).up = true → ∃ t, exec (.hotReset r) s = .next t ∧
    t.port r = { (s.port r).reinReset 1 with fencedLease := (t.port r).fencedLease } ∧
    (∀ c, s.sharedCtrl = true ∨ c / 64 = r.num → (t.ctrl c).en r = false) ∧ t.port r.other = { s.port r.other with fencedLease := (t.port r.other).fencedLease } ∧
    t.wheel.wt = s.wheel.wt ∧ t.wheel.lt = s.wheel.lt ∧ t.wheel.mode = s.wheel.mode) ∧
  (∀ s (r : Rein), (s.port r).up = true → ∃ t, exec (.linkDown r) s = .next t ∧
    t.port r = { s.port r with link := 0, rate := 0, width := 0, flit := false, linkDowns := satAdd 32 (s.port r).linkDowns 1, lastDownWt := s.wheel.wt % 2 ^ 48 } ∧
    (∀ c, t.ctrl c = s.ctrl c) ∧ t.port r.other = s.port r.other) ∧
  (∀ s (p : Port), s.portOk p = true → ∃ t, exec (.functionLevelReset p) s = .next t ∧ (t.ctrl (s.ctrlOf p)).en p.rein = false ∧
    (p.func ≠ 0 → (∀ c, c ≠ s.ctrlOf p → t.ctrl c = s.ctrl c) ∧ ∀ r, t.port r = { s.port r with fencedLease := (t.port r).fencedLease }) ∧
    (p.func = 0 → (t.port p.rein).vfs = 0 ∧ (∀ f, f ≤ (s.port p.rein).vfs → (t.ctrl (s.ctrlOf ⟨p.rein, f⟩)).en p.rein = false) ∧
      ∀ c, (∀ f, f ≤ (s.port p.rein).vfs → c ≠ s.ctrlOf ⟨p.rein, f⟩) → t.ctrl c = s.ctrl c)) ∧
  (∀ (s : State) (p : Port), s.portOk p = true → s.reinExists p.rein = true ∧ (s.port p.rein).up = true ∧ p.func < 64 ∧ p.func ≤ (s.port p.rein).vfs) ∧
  (∀ s (p : Port), s.portOk p = false → exec (.functionLevelReset p) s = .next s)

/-- Setting CC.EN enables the controller on its rein and creates its admin queues of the sizes AQA gives, at most 64; where a shutdown dump stands restart begins at its step 1. Clearing
it disables that controller's rein and keeps AQA, ASQ and ACQ. CC.SHN 01b or 10b starts the shutdown dump (CAUSE 1) where one can be written and sets SHST to 01b, else to 10b at once;
00b only sets the field. AQA, ASQ and ACQ are written while disabled, else ignored and counted; a reserved AMS or CSS keeps its old value and counts (the reserved CSS values are NVMe's: log 7); the PF's VF enable sets how many VFs may be used; INTMS and INTMC set and clear mask
bits; PTM and ASPM enables are the rein's. In fault stop writes to CC, AQA, ASQ and ACQ are ignored and counted; a reserved SHN 11b too. On a function that does not exist nothing changes. -/
def Obligations.ControllersEnableAndShutDown : Prop :=
  (∀ s (p : Port), s.portOk p = true → s.fault.stop = none → (s.ctrl (s.ctrlOf p)).en p.rein = false → ∃ t q d, exec (.ccEnSet p) s = .next t ∧
    (t.ctrl (s.ctrlOf p)).en p.rein = true ∧ (∀ c, c ≠ s.ctrlOf p → t.ctrl c = s.ctrl c) ∧ t.sq (s.sqKey p 0) = some q ∧ q.admin = true ∧ q.ctrl = s.ctrlOf p ∧
    q.qsize = min 64 (bitField (natAt ((s.ctrl (s.ctrlOf p)).regs p.rein) 0) 0 12 + 1) ∧ t.cq (s.cqKey p 0) = some d ∧
    d.size = min 64 (bitField (natAt ((s.ctrl (s.ctrlOf p)).regs p.rein) 0) 16 12 + 1) ∧ d.used = 0 ∧ t.media = s.media ∧
    (s.dump.shutdown = false → t.dump = s.dump) ∧ (s.dump.shutdown = true → t.dump.step = 1 ∧ t.dump.since = false ∧ t.dump.shutdown = false ∧ t.fe.admits = false)) ∧
  (∀ s (p : Port), s.portOk p = true → s.fault.stop = none → (s.ctrl (s.ctrlOf p)).en p.rein = true → exec (.ccEnSet p) s = .next s ∧
    ∃ t, exec (.ccEnClear p) s = .next t ∧ (t.ctrl (s.ctrlOf p)).en p.rein = false ∧ (t.ctrl (s.ctrlOf p)).regs p.rein = (s.ctrl (s.ctrlOf p)).regs p.rein ∧
      (∀ c, c ≠ s.ctrlOf p → t.ctrl c = s.ctrl c) ∧ ∀ r, t.port r = { s.port r with fencedLease := (t.port r).fencedLease }) ∧
  (∀ s (p : Port), s.portOk p = true → s.fault.stop = none → (s.ctrl (s.ctrlOf p)).en p.rein = false → exec (.ccEnClear p) s = .next s) ∧
  (∀ s (p : Port) v, s.portOk p = true → s.fault.stop = none → v < 3 → ∃ t, exec (.ccShnWrite p v) s = .next t ∧ (t.ctrl (s.ctrlOf p)).shn = v ∧
    (v = 0 ∨ s.dump.since = true → t = s.modCtrl (s.ctrlOf p) fun x => { x with shn := v }) ∧
    (v ≠ 0 → s.dump.since = false → s.dump.active = none → t.fe.shst = 2 ∧ t.dump = s.dump) ∧
    (v ≠ 0 → s.dump.since = false → s.dump.active.isSome → ∃ d, t.fe.shst = 1 ∧ t.dump.run = some d ∧ d.cause = 1 ∧ d.boundaryScan = false ∧ t.dump.since = true)) ∧
  (∀ s (p : Port) i v, s.portOk p = true → (i = .ccShnWrite p v ∧ 3 ≤ v) ∨ (s.fault.stop.isSome ∧ (i = .ccShnWrite p v ∨ i = .ccEnSet p ∨ i = .ccEnClear p ∨
      ∃ reg ∈ [HostReg.aqa, .asq, .acq, .cc], i = .registerWrite p reg v)) → ∃ t, exec i s = .next t ∧ t.fe.ctrls = s.fe.ctrls ∧ SameFrame s t ∧ SameData s t) ∧
  (∀ s (p : Port) reg v, s.portOk p = true → s.fault.stop = none → ∃ t, exec (.registerWrite p reg v) s = .next t ∧ (reg ≠ .vfEnable → SameData s t) ∧
    (∀ i, (reg = .aqa ∧ i = 0) ∨ (reg = .asq ∧ i = 1) ∨ (reg = .acq ∧ i = 2) →
      ((s.ctrl (s.ctrlOf p)).en p.rein = true → t.fe.ctrls = s.fe.ctrls ∧ t.rein = s.rein) ∧
      ((s.ctrl (s.ctrlOf p)).en p.rein = false → (t.ctrl (s.ctrlOf p)).regs p.rein = ((s.ctrl (s.ctrlOf p)).regs p.rein).set i v)) ∧
    (reg = .cc → ∃ cc, (p.rein = .a → (t.ctrl (s.ctrlOf p)).ccA = cc) ∧ (p.rein = .b → (t.ctrl (s.ctrlOf p)).ccB = cc) ∧ bitField cc 7 4 = bitField v 7 4 ∧
      bitField cc 16 8 = bitField v 16 8 ∧ (bitField v 11 3 = 0 → bitField cc 11 3 = 0) ∧
      bitField cc 4 3 = bitField (if 1 ≤ bitField v 4 3 ∧ bitField v 4 3 ≤ 5 then (match p.rein with | .a => (s.ctrl (s.ctrlOf p)).ccA | .b => (s.ctrl (s.ctrlOf p)).ccB) else v) 4 3) ∧
    (reg = .vfEnable → p.func = 0 → (t.port p.rein).vfs = min v 63) ∧ (reg = .vfEnable → p.func ≠ 0 → t = s) ∧
    (reg = .intms → (t.ctrl (s.ctrlOf p)).intMask = (s.ctrl (s.ctrlOf p)).intMask ||| v % 4294967296) ∧
    (reg = .intmc → (t.ctrl (s.ctrlOf p)).intMask = (s.ctrl (s.ctrlOf p)).intMask &&& (4294967295 - v % 4294967296)) ∧
    (reg = .ptmEnable → t.port p.rein = { s.port p.rein with ptm := decide (v % 2 = 1) } ∧ t.fe = s.fe) ∧
    (reg = .aspmL1 → t.port p.rein = { s.port p.rein with aspmL1 := decide (v % 2 = 1) } ∧ t.fe = s.fe) ∧
    (reg = .readOnly → t = s)) ∧
  (∀ s (p : Port) v reg, s.portOk p = false → exec (.ccEnSet p) s = .next s ∧ exec (.ccEnClear p) s = .next s ∧ exec (.ccShnWrite p v) s = .next s ∧ exec (.registerWrite p reg v) s = .next s)

/-- A keeper ball's change starts its filter; at the filter's end a low ball fences its rein and a high one frees it, when the image uses that keeper. A fence ends the rein's commands of
the write class that have not begun with 7:C2h, DNR 0. A lease starts when its START_WT has come and frees the rein of its lease fence; it ends when its end has come, and the rein is
fenced when LEASE_ENFORCE stands. An accepted packet sets the epoch at once; once its command's completion has been posted its action takes effect, and a grant gives each rein of its
mask its lease, whose end counts from the WT of acceptance; the checks come in the order 3 to 6 of R256 with their reasons.
Where nothing is due nothing changes. -/
def Obligations.KeepersAndLeasesFenceWrites : Prop :=
  (∀ s (r : Rein) level, ∃ t, exec (.keeperBallChange r level) s = .next t ∧ t.port r = { s.port r with keeperTiming := some level } ∧ t.pkg.keeper r = level ∧
    t.pkg.keeper r.other = s.pkg.keeper r.other ∧ t.port r.other = s.port r.other ∧ { t with rein := s.rein, pkg := s.pkg } = s) ∧
  (∀ s (r : Rein), (s.port r).keeperTiming = none → exec (.keeperFilterExpire r) s = .next s) ∧
  (∀ s (r : Rein) l, (s.port r).keeperTiming = some l → s.reinExists r = false ∨ s.img.keeperUse r = false → ∃ t, exec (.keeperFilterExpire r) s = .next t ∧
    t.port r = { s.port r with keeperTiming := none } ∧ { t with rein := s.rein } = s) ∧
  (∀ s (r : Rein) l, (s.port r).keeperTiming = some l → s.reinExists r = true → s.img.keeperUse r = true → ∃ t, exec (.keeperFilterExpire r) s = .next t ∧
    (t.port r).keeperTiming = none ∧ (t.port r).fencedKeeper = !l ∧ (t.port r).fencedLease = (s.port r).fencedLease ∧ t.port r.other = s.port r.other) ∧
  (∀ (s : State) (r : Rein) cause tag c, s.cmd tag = some c → c.port.rein = r → c.result = none → c.started = false → isWriteClass c.admin c.entry = true →
    ∃ d, (s.setFence r cause true).cmd tag = some d ∧ d.result = some leaseFenced ∧ leaseFenced.dnr = false) ∧
  (∀ s (r : Rein) l, (s.port r).lease = some l → l.live = false → l.startWt ≤ s.wheel.wt → ∃ t, exec (.leaseStart r) s = .next t ∧
    (t.port r).lease = some { l with live := true } ∧ (t.port r).fencedLease = false ∧ t.port r.other = s.port r.other ∧ t.rein.twin = s.rein.twin) ∧
  (∀ s (r : Rein), (∀ l, (s.port r).lease = some l → l.live = true ∨ s.wheel.wt < l.startWt) → exec (.leaseStart r) s = .next s) ∧
  (∀ s (r : Rein) l, (s.port r).lease = some l → l.endWt ≤ s.wheel.wt → ∃ t, exec (.leaseEnd r) s = .next t ∧ (t.port r).lease = none ∧
    (t.port r).fencedLease = s.rein.twin.enforce ∧ t.port r.other = s.port r.other ∧ t.rein.twin = s.rein.twin) ∧
  (∀ s (r : Rein), (∀ l, (s.port r).lease = some l → s.wheel.wt < l.endWt) → exec (.leaseEnd r) s = .next s) ∧
  (∀ (s : State) tag c p, s.cmd tag = some c → c.result = none → s.leaseCheck p = none → ∃ d, (s.leasePacket tag p true).cmd tag = some d ∧ d.result = some ok ∧
    (s.leasePacket tag p true).rein.twin.epoch = pktEpoch p ∧ (∀ r, (s.leasePacket tag p true).port r = s.port r) ∧
    (s.leasePacket tag p true).fe.leases = s.fe.leases ++ [{ tag := tag, pkt := p, wt := s.wheel.wt, liveA := s.rein.a.leaseLive, liveB := s.rein.b.leaseLive, posted := false }]) ∧
  (∀ s : State, (∀ l ∈ s.fe.leases, l.posted = false) → s.leasesDue = { s with fe := { s.fe with leases := s.fe.leases.filter fun l => (s.cmd l.tag).isSome } }) ∧
  (∀ (s : State) l, s.fe.leases = [l] → l.posted = true → s.leasesDue = (({ s with fe := { s.fe with leases := [] } } : State).leaseAct l).postAll) ∧
  (∀ (s : State) l, pktAction l.pkt = 0 → ∀ r : Rein, (pktMask l.pkt).testBit r.num = true → ∃ x, ((s.leaseAct l).port r).lease = some x ∧ x.startWt = pktStart l.pkt ∧
    x.endWt = leaseEndAt l.wt l.pkt ∧ x.epoch = pktEpoch l.pkt ∧ x.live = ((match r with | .a => l.liveA | .b => l.liveB) || decide (pktStart l.pkt ≤ s.wheel.wt))) ∧
  (∀ (s : State) p, (s.leaseCheck p = none → bitField p.toNat 192 64 = driveId ∧ s.rein.twin.epoch < pktEpoch p) ∧
    (bitField p.toNat 192 64 ≠ driveId → s.leaseCheck p = some { stat 7 0xC2 with dnr := true, dw0 := 3 }) ∧
    (bitField p.toNat 192 64 = driveId → pktEpoch p ≤ s.rein.twin.epoch → s.leaseCheck p = some { stat 7 0xC2 with dnr := true, dw0 := 2 }) ∧
    (bitField p.toNat 192 64 = driveId → s.rein.twin.epoch < pktEpoch p → pktStart p ≠ 0 → s.wheel.mode ≠ .locked → s.wheel.mode ≠ .acquire →
      s.leaseCheck p = some { stat 7 0xC6 with dw0 := 5 }) ∧
    (bitField p.toNat 192 64 = driveId → s.rein.twin.epoch < pktEpoch p → s.wheel.mode = .locked → pktAction p = 0 → s.leaseEnd p ≤ s.wheel.wt →
      s.leaseCheck p = some { stat 7 0xC2 with dnr := true, dw0 := 4 }))

/-- A valid tail doorbell advances T of that side of the queue by (v - T) mod QSIZE and changes nothing else. A valid head doorbell sets the head of the completion queue and frees as
many slots as it passes: their entries leave from the front. A doorbell of a queue or side that does not exist, of a value at or beyond the size, or of one that passes more than the
queue holds, and one of a DETACHED side, moves no queue; the same in fault stop. A side in twin mode that is behind E and has not advanced for LAG_TEETH teeth becomes DETACHED; its
positions and the other side stand, and commands that move to a fenced rein meet its fence. Where none of this holds, or on a function that does not exist, nothing changes. -/
def Obligations.DoorbellsMoveTailAndHead : Prop :=
  (∀ s (p : Port) qid v q x, s.portOk p = true → s.fault.stop = none → s.sq (s.sqKey p qid) = some q → q.side p.rein = some x → x.attached = true → v < q.qsize →
    (x.tail - x.fetch).toNat + (v + q.qsize - x.tail.toNat % q.qsize) % q.qsize ≤ q.qsize - 1 → ∃ t, exec (.sqTailDoorbell p qid v) s = .next t ∧
      t.sq (s.sqKey p qid) = some (q.setSide p.rein (some { x with tail := x.tail + BitVec.ofNat 32 ((v + q.qsize - x.tail.toNat % q.qsize) % q.qsize) })) ∧
      (∀ n, n ≠ s.sqKey p qid → t.sq n = s.sq n) ∧ { t with fe := s.fe } = s ∧ { t.fe with sqs := s.fe.sqs } = s.fe) ∧
  (∀ s (p : Port) qid v, s.portOk p = true → s.fault.stop.isSome ∨ s.sq (s.sqKey p qid) = none ∨ (∃ q, s.sq (s.sqKey p qid) = some q ∧ (q.side p.rein = none ∨
      ∃ x, q.side p.rein = some x ∧ (x.attached = false ∨ q.qsize ≤ v ∨ q.qsize - 1 < (x.tail - x.fetch).toNat + (v + q.qsize - x.tail.toNat % q.qsize) % q.qsize))) →
    ∃ t, exec (.sqTailDoorbell p qid v) s = .next t ∧ t.fe.sqs = s.fe.sqs ∧ SameFrame s t ∧ SameData s t) ∧
  (∀ s (p : Port) qid v q, s.portOk p = true → s.fault.stop = none → s.cq (s.cqKey p qid) = some q → v < q.size → (v + q.size - q.head % q.size) % q.size ≤ q.used →
    ∃ u : State, exec (.cqHeadDoorbell p qid v) s = .next u.settleFront.leasesDue ∧ u.cq (s.cqKey p qid) =
      some { q with head := v, used := q.used - (v + q.size - q.head % q.size) % q.size, entries := q.entries.drop ((v + q.size - q.head % q.size) % q.size) } ∧
      (∀ n, n ≠ s.cqKey p qid → u.cq n = s.cq n) ∧ { u with fe := s.fe } = s ∧ { u.fe with cqs := s.fe.cqs } = s.fe) ∧
  (∀ s (p : Port) qid v, s.portOk p = true → s.fault.stop.isSome ∨ s.cq (s.cqKey p qid) = none ∨
      (∃ q, s.cq (s.cqKey p qid) = some q ∧ (q.size ≤ v ∨ q.used < (v + q.size - q.head % q.size) % q.size)) →
    ∃ u : State, exec (.cqHeadDoorbell p qid v) s = .next u.settleFront ∧ u.fe.cqs = s.fe.cqs ∧ u.fe.sqs = s.fe.sqs ∧ SameFrame s u ∧ SameData s u) ∧
  (∀ s (p : Port) qid v, s.portOk p = false → exec (.sqTailDoorbell p qid v) s = .next s ∧ exec (.cqHeadDoorbell p qid v) s = .next s) ∧
  (∀ s ctrl qid (r : Rein) q x, s.sq (ctrl * 131072 + qid) = some q → q.side r = some x → s.twinMode = true → qid ≠ 0 → x.attached = true → posLt x.fetch q.exec = true →
    x.advanced + s.rein.twin.lagTeeth ≤ s.wheel.wt → ∃ t, exec (.twinLagExpire ctrl qid r) s = .next t ∧
      t.sq (ctrl * 131072 + qid) = some (q.setSide r (some { x with attached := false })) ∧ (∀ n, n ≠ ctrl * 131072 + qid → t.sq n = s.sq n) ∧ SameFrame s t ∧
      SameData { s with wb := t.wb } t ∧ ((s.port r.other).fenced = false → t.wb = s.wb)) ∧
  (∀ s ctrl qid (r : Rein), (∀ q x, s.sq (ctrl * 131072 + qid) = some q → q.side r = some x → s.twinMode = false ∨ qid = 0 ∨ x.attached = false ∨ posLt x.fetch q.exec = false ∨
      s.wheel.wt < x.advanced + s.rein.twin.lagTeeth) → exec (.twinLagExpire ctrl qid r) s = .next s)

/-- Where fetching is on, the side is ATTACHED and F is below T: at F = E with a free tag the entry takes the next tag, F and E advance, its hash is recorded, it owes its completion to
every ATTACHED side, and it is held while PS4 is left; a command that passes every check then waits. Behind E the copy does not execute: an equal hash gives the side its CID, an unequal
one drops what the side was owed, counts once and queues 7:0xC1 for that side alone. With no free tag, F at T, a DETACHED side, another queue's turn, or fetching off, nothing
changes. Admin queues go first; I/O queues take turns in round robin by number, of at most a burst each (log 72). The first failing
check of R285 fixes the status: halter mode 0:0Ch, reserved fields 0:02h, an SGL type 0:11h, a PRP offset 0:13h, a namespace 0:0Bh, more than 2 MiB 0:02h, the range 0:80h, a CID in use
0:03h, a fence of its rein 7:C2h. What the rows' statuses are is NVMe's (log 7). -/
def Obligations.EntriesAreFetchedAndCompared : Prop :=
  (∀ s (p : Port) qid e q x, s.portOk p = true → s.fetches = true → (s.ctrl (s.ctrlOf p)).en p.rein = true → s.sq (s.sqKey p qid) = some q → q.side p.rein = some x →
    x.attached = true → posLt x.fetch x.tail = true → s.mayFetch (s.sqKey p qid) q.admin = true →
    (x.fetch = q.exec → s.tagsUsed (s.sqKey p qid) < q.tags → ∃ (u : State) (y : Sq) (c d : Cmd), exec (.entryFetch p qid e) s = .next (u.entryChecks s.fe.nextTag c).settleFront ∧
      u.fe.nextTag = s.fe.nextTag + 1 ∧ u.cmd s.fe.nextTag = some d ∧ c = { d with owed := c.owed } ∧ c.entry = e ∧ c.started = false ∧ c.result = none ∧ c.port = p ∧ c.sq = s.sqKey p qid ∧
      c.held = decide (s.fe.ps4 ≠ 0) ∧ (p.rein, sqeCid e) ∈ d.owed ∧ u.sq (s.sqKey p qid) = some y ∧ y.exec = q.exec + 1 ∧ y.qsize = q.qsize ∧
      (∃ z, y.side p.rein = some z ∧ z.fetch = x.fetch + 1 ∧ z.tail = x.tail ∧ z.cq = x.cq ∧ z.advanced = s.wheel.wt) ∧
      (∀ n, n ≠ s.sqKey p qid → u.sq n = s.sq n) ∧ SameFrame s u ∧ SameData { s with wb := u.wb } u ∧ ((s.port p.rein).fenced = false → u.wb = s.wb)) ∧
    (x.fetch = q.exec → q.tags ≤ s.tagsUsed (s.sqKey p qid) → exec (.entryFetch p qid e) s = .next s) ∧
    (x.fetch ≠ q.exec → ∃ (u : State) (y : Sq), exec (.entryFetch p qid e) s = .next u.settleFront ∧ u.sq (s.sqKey p qid) = some y ∧ y.exec = q.exec ∧
      (∃ z, y.side p.rein = some z ∧ z.fetch = x.fetch + 1 ∧ z.tail = x.tail) ∧ u.fe.nextTag = s.fe.nextTag ∧ SameFrame s u ∧ SameData s u ∧
      ((q.hashes.find? fun h => h.1 = x.fetch).map (·.2) = some (entryHash e) → u.fe.mismatches = s.fe.mismatches ∧ ∀ t c, s.cmd t = some c → c.sq = s.sqKey p qid → c.pos = x.fetch →
        ∃ d, u.cmd t = some d ∧ d.owed = c.owed.map fun o => if o = (p.rein, noCid) then (p.rein, sqeCid e) else o) ∧
      ((q.hashes.find? fun h => h.1 = x.fetch).map (·.2) ≠ some (entryHash e) →
        u.fe.mismatches = s.fe.mismatches ++ [(s.sqKey p qid, p.rein, x.fetch, { dw0 := 0, dw1 := 0, sqHead := 0, sqid := q.qid, cid := sqeCid e, sct := 7, sc := 0xC1, dnr := true })] ∧
        ∀ t c, s.cmd t = some c → c.sq = s.sqKey p qid → c.pos = x.fetch → ∃ d, u.cmd t = some d ∧ d.owed = c.owed.filter (·.1 ≠ p.rein)))) ∧
  (∀ s (p : Port) qid e, s.portOk p = false ∨ s.fetches = false ∨ (s.ctrl (s.ctrlOf p)).en p.rein = false ∨ (∀ q x, s.sq (s.sqKey p qid) = some q → q.side p.rein = some x →
    x.attached = false ∨ posLt x.fetch x.tail = false ∨ s.mayFetch (s.sqKey p qid) q.admin = false) → exec (.entryFetch p qid e) s = .next s) ∧
  (∀ (s : State) k, s.mayFetch k true = true ∧ (s.adminWaits = true → s.mayFetch k false = false) ∧ (s.mayFetch k false = true → k ∈ s.ioWaiting) ∧
    (s.adminWaits = false → s.fe.turn ∈ s.ioWaiting → s.burstLeft (s.fe.turn / 131072) = true → (s.mayFetch k false = true ↔ k = s.fe.turn)) ∧
    (s.adminWaits = false → s.ioWaiting ≠ [] → ∃ n ∈ s.ioWaiting, s.mayFetch n false = true)) ∧
  (∀ (s : State) tag c, s.cmd tag = some c → c.result = none → ∃ d, (s.entryChecks tag c).cmd tag = some d ∧ (d.result = none → s.entryChecks tag c = s) ∧ d.result =
    if c.supported = false then none
    else if s.ts.mode = 2 ∧ c.inHalter = false then some sequenceError
    else if sqeFuse c.entry ≠ 0 ∨ c.reservedOk = false then some invalidField
    else if c.badSgl = true then some (stat 0 0x11)
    else if c.badPrp = true then some (stat 0 0x13)
    else if s.badSpace c = true then some (stat 0 0x0B)
    else if 2097152 < s.transferBytes c then some invalidField
    else if s.beyondEnd c = true then some (stat 0 0x80)
    else if s.cidTaken tag c = true then some (stat 0 0x03)
    else if (s.port c.port.rein).fenced = true ∧ isWriteClass c.admin c.entry = true then some leaseFenced
    else none)

/-- CREATE_IO_CQ: PC 0 ends with 0:02h, a QID beyond the grant or in use with 1:01h, a size outside 2 to 1,024 with 1:02h, a vector beyond the function's with 1:08h; else the queue stands
empty. DELETE_IO_CQ: a queue that does not exist ends with 1:01h, one a submission queue of that rein is bound to with 1:0Ch; else it is gone. CREATE_IO_SQ: PC 0, QID, size, and a completion
queue that does not exist (1:00h) in that order; a new queue has F = T = E = 0, a side of a queue the other rein has takes F = T = E, and DW0 returns E; a size or priority that
differs from the other side's ends with 0:02h. DELETE_IO_SQ of a side that exists ends it, and the queue with its last side; else 1:01h. An opcode that is not supported ends with 0:01h;
a supported one is left alone by those rows. The statuses are NVMe's (log 7). -/
def Obligations.QueuesAreCreatedAndDeleted : Prop :=
  ∀ s tag c q x cq cid, AtHand s tag c q x cq cid →
    (c.waits true 0x05 = true → ∃ t, exec (.createIoCq tag) s = .next t ∧ ∀ k grant, k = s.cqKey c.port (qcQid c) → grant = qcQidOk c (s.ctrl c.ctrl).grantCq (s.fe.cqs.filter fun z => z.1 % 65536 ≠ 0).length →
      (qcContiguous c = false → Served s t tag q x cq cid invalidField c.out) ∧
      (qcContiguous c = true → grant = false ∨ (s.cq k).isSome → Served s t tag q x cq cid (stat 1 0x01) c.out) ∧
      (qcContiguous c = true → grant = true → s.cq k = none → qcSizeOk c = false → Served s t tag q x cq cid (stat 1 0x02) c.out) ∧
      (qcContiguous c = true → grant = true → s.cq k = none → qcSizeOk c = true → bitField (dw c.entry 11) 1 1 = 1 → (if c.port.func = 0 then 2048 else 64) ≤ qcHigh c →
        Served s t tag q x cq cid (stat 1 0x08) c.out) ∧
      (qcContiguous c = true → grant = true → s.cq k = none → qcSizeOk c = true → bitField (dw c.entry 11) 1 1 ≠ 1 ∨ qcHigh c < (if c.port.func = 0 then 2048 else 64) →
        Served (s.setCq k { size := qcSize c, head := 0, tail := 0, entries := [], used := 0 }) t tag q x cq cid ok c.out)) ∧
    (c.waits true 0x04 = true → ∃ t, exec (.deleteIoCq tag) s = .next t ∧ ∀ k, k = s.cqKey c.port (qcQid c) →
      (qcQid c = 0 ∨ s.cq k = none → Served s t tag q x cq cid (stat 1 0x01) c.out) ∧
      (qcQid c ≠ 0 → (s.cq k).isSome → (∃ z ∈ s.fe.sqs, z.2.admin = false ∧ ∃ y, z.2.side c.port.rein = some y ∧ y.cq = k) → Served s t tag q x cq cid (stat 1 0x0C) c.out) ∧
      (qcQid c ≠ 0 → (s.cq k).isSome → x.cq ≠ k → (∀ z ∈ s.fe.sqs, z.2.admin = false → ∀ y, z.2.side c.port.rein = some y → y.cq ≠ k) →
        Served { s with fe := { s.fe with cqs := Table.del s.fe.cqs k } } t tag q x cq cid ok c.out ∧ t.cq k = none)) ∧
    (c.waits true 0x01 = true → ∃ t, exec (.createIoSq tag) s = .next t ∧ ∀ k used, k = s.sqKey c.port (qcQid c) → used = (s.fe.sqs.filter fun z => !z.2.admin).length →
      (qcContiguous c = false → Served s t tag q x cq cid invalidField c.out) ∧
      (qcContiguous c = true → (∀ w, s.sq k = some w → w.side c.port.rein.other = none) → qcQidOk c (s.ctrl c.ctrl).grantSq used = false → Served s t tag q x cq cid (stat 1 0x01) c.out) ∧
      (qcContiguous c = true → (∃ w y, s.sq k = some w ∧ w.side c.port.rein = some y ∧ y.attached = true) → Served s t tag q x cq cid (stat 1 0x01) c.out) ∧
      (qcContiguous c = true → k ≠ c.sq → (∀ w, s.sq k = some w → w.side c.port.rein.other = none ∧ ∀ y, w.side c.port.rein = some y → y.attached = false) → qcQidOk c (s.ctrl c.ctrl).grantSq used = true →
        (qcSizeOk c = false → Served s t tag q x cq cid (stat 1 0x02) c.out) ∧
        (qcSizeOk c = true → qcHigh c = 0 ∨ s.cq (s.cqKey c.port (qcHigh c)) = none → Served s t tag q x cq cid (stat 1 0x00) c.out) ∧
        (qcSizeOk c = true → qcHigh c ≠ 0 → (s.cq (s.cqKey c.port (qcHigh c))).isSome → ∃ w : Sq, w.ctrl = c.ctrl ∧ w.qid = qcQid c ∧ w.admin = false ∧ w.qsize = qcSize c ∧ w.exec = 0 ∧
          w.side c.port.rein = some { attached := true, tail := 0, fetch := 0, cq := s.cqKey c.port (qcHigh c), advanced := s.wheel.wt } ∧ w.side c.port.rein.other = none ∧
          Served (s.setSq k w) t tag q x cq cid (okDw0 0) c.out)) ∧
      (∀ w y, qcContiguous c = true → k ≠ c.sq → s.sq k = some w → (∀ z, w.side c.port.rein = some z → z.attached = false) → w.side c.port.rein.other = some y → qcQidOk c (s.ctrl c.ctrl).grantSq 0 = true →
        qcSizeOk c = true → qcHigh c ≠ 0 → (s.cq (s.cqKey c.port (qcHigh c))).isSome →
        (w.qsize ≠ qcSize c ∨ w.prio ≠ bitField (dw c.entry 11) 1 2 → Served s t tag q x cq cid invalidField c.out) ∧
        (w.qsize = qcSize c → w.prio = bitField (dw c.entry 11) 1 2 → Served (s.setSq k (w.setSide c.port.rein (some
          { attached := true, tail := w.exec, fetch := w.exec, cq := s.cqKey c.port (qcHigh c), advanced := s.wheel.wt }))) t tag q x cq cid (okDw0 w.exec.toNat) c.out))) ∧
    (c.waits true 0x00 = true → ∃ t, exec (.deleteIoSq tag) s = .next t ∧ ∀ k, k = s.sqKey c.port (qcQid c) →
      (qcQid c = 0 ∨ (∀ w, s.sq k = some w → w.side c.port.rein = none) → Served s t tag q x cq cid (stat 1 0x01) c.out) ∧
      (∀ w y, qcQid c ≠ 0 → k ≠ c.sq → s.sq k = some w → w.side c.port.rein = some y → (∃ u : State, t = u.postAll.arrayPump ∧ ∃ d, u.cmd tag = some d ∧ d.result = some ok) ∧ SameFrame s t ∧
        SameData { s with wb := t.wb } t ∧ ((s.port c.port.rein.other).fenced = false → t.wb = s.wb) ∧ t.sq k = (if (w.side c.port.rein.other).isSome then some (w.setSide c.port.rein none) else none) ∧ ∀ n, n ≠ k → t.sq n = s.sq n)) ∧
    (c.started = false → c.supported = false → c.admin = true → ∃ t, exec (.unsupportedAdminCommand tag) s = .next t ∧ Served s t tag q x cq cid (stat 0 0x01) c.out) ∧
    (c.started = false → c.supported = false → c.admin = false → ∃ t, exec (.unsupportedIoCommand tag) s = .next t ∧ Served s t tag q x cq cid (stat 0 0x01) c.out) ∧
    (c.supported = true → exec (.unsupportedAdminCommand tag) s = .next s ∧ exec (.unsupportedIoCommand tag) s = .next s)

/-- ABORT with four earlier ones waiting ends with 1:03h; where the CID names no command of the queue, or one whose completion has a slot, with DW0 1; an already marked one with DW0 0; else
the command takes the mark and 0:07h, its units that have not passed leave, and the Abort succeeds with DW0 0. ASYNC_EVENT_REQUEST: the ninth on a controller's rein ends with 1:05h (log 8);
one that finds no waiting event stays outstanding, posting nothing; one that finds an event of its controller and rein that is not masked completes with it in DW0, the event leaves and its
page is masked. HOST_MEMORY_ERROR ends a command that has no status with 0:04h, its units not yet passed leave, and the rein's uncorrectable errors rise by one; on a command with a
status, an orphan, or no command it changes nothing. -/
def Obligations.AbortsEventsAndMemoryErrors : Prop :=
  (∀ s tag c q x cq cid, AtHand s tag c q x cq cid → c.waits true 0x08 = true → ∃ t, exec (.abort tag) s = .next t ∧
    ∀ few, few = decide ((s.fe.cmds.filter fun z => decide (z.1 < tag) && z.2.admin && decide (z.2.ctrl = c.ctrl) && decide (sqeOpc z.2.entry = 0x08)).length < 4) →
      (few = false → Served s t tag q x cq cid (stat 1 0x03) c.out) ∧
      (few = true → (∀ z ∈ s.fe.cmds, z.2.admin = true ∨ z.2.orphan = true ∨ z.2.sq ≠ s.sqKey c.port (bitField (dw c.entry 10) 0 16) ∨ z.2.execCid ≠ bitField (dw c.entry 10) 16 16) →
        Served s t tag q x cq cid (okDw0 1) c.out) ∧
      (∀ n y, few = true → n ≠ tag → s.cmd n = some y → s.fe.cmds.find? (fun z => decide (z.2.sq = s.sqKey c.port (bitField (dw c.entry 10) 0 16)) && !z.2.admin && !z.2.orphan &&
          decide (z.2.execCid = bitField (dw c.entry 10) 16 16)) = some (n, y) →
        (bitField (dw c.entry 10) 0 16 = 0 ∨ y.reserved = true → Served s t tag q x cq cid (okDw0 1) c.out) ∧
        (bitField (dw c.entry 10) 0 16 ≠ 0 → y.reserved = false → y.aborted = true → Served s t tag q x cq cid ok c.out) ∧
        (bitField (dw c.entry 10) 0 16 ≠ 0 → y.reserved = false → y.aborted = false → ∃ u : State, t = u.postAll.arrayPump ∧
          (∃ d, u.cmd n = some d ∧ d.aborted = true ∧ d.result = some (stat 0 0x07)) ∧ (∃ d, u.cmd tag = some d ∧ d.result = some ok) ∧
          (∀ j ∈ y.units, u.job j = none) ∧ SameFrame s t))) ∧
  (∀ s tag c q x cq cid, AtHand s tag c q x cq cid → c.waits true 0x0C = true → ∃ t, exec (.asyncEventRequest tag) s = .next t ∧
    ∀ mine, mine = s.fe.aers.filter (fun a => decide (a.ctrl = c.ctrl) && decide (a.rein = c.port.rein)) →
      (8 ≤ mine.length → Served s t tag q x cq cid (stat 1 0x05) c.out) ∧
      (mine.length < 8 → (∀ e ∈ s.fe.events, e.1 = c.ctrl → e.2.1 = c.port.rein → s.fe.isMasked c.ctrl c.port.rein e.2.2.page = true) → t.cmd tag = some { c with started := true } ∧
        t.fe.aers = s.fe.aers ++ [⟨tag, c.ctrl, c.port.rein⟩] ∧ t.fe.cqs = s.fe.cqs ∧ t.fe.events = s.fe.events ∧ SameFrame s t ∧ SameData s t) ∧
      (∀ e, mine = [] → s.fe.events.find? (fun z => decide (z.1 = c.ctrl) && decide (z.2.1 = c.port.rein) && !s.fe.isMasked c.ctrl c.port.rein z.2.2.page) = some e →
        Answered t tag q x cq cid (okDw0 e.2.2.dw0) c.out ∧ t.fe.events = s.fe.events.erase e ∧ t.fe.masked = (c.ctrl, c.port.rein, e.2.2.page) :: s.fe.masked ∧
        t.fe.aers = s.fe.aers ∧ SameFrame s t ∧ SameData s t)) ∧
  (∀ s tag addr c, s.cmd tag = some c → c.result = none → c.orphan = false → c.supported = true → ∃ (u : State) (d : Cmd), exec (.hostMemoryError tag addr) s = .next u.settle ∧
    u.cmd tag = some d ∧ d.result = some (stat 0 0x04) ∧ (u.port c.port.rein).uncorrErrors = satAdd 32 (s.port c.port.rein).uncorrErrors 1 ∧ u.port c.port.rein.other = s.port c.port.rein.other ∧
    (∀ j ∈ c.units, u.job j = none) ∧ SameData { s with wb := u.wb } u) ∧
  (∀ s tag addr, (∀ c, s.cmd tag = some c → c.result.isSome ∨ c.orphan = true ∨ c.supported = false) → exec (.hostMemoryError tag addr) s = .next s)

/-- A conversion gives every die sensor its reading, one without a reading keeps its last; a die sensor breaks on a reading outside -60 to 150 C or after ten conversions that differ from
its group, or when it gave no reading for 1 ms, and works again when a good reading has stood; an NVMe sensor is broken exactly when its source is. The level is the larger of the old one
and what the readings give. Critical Warning bit 1 is whether a temperature has reached a threshold of feature 0x04. Two readings in a row at a domain's TRIP threshold set the trip: the
dump of cause 2 starts where one can, otherwise the main domain is held; a single one, or a trip that stands, changes nothing beyond the counts. A rise to a throttle level starts its
grace timer, or enforces at once where the grace is 0. The user's data and the wheel stand as they were up to a trip. A command that is not due changes nothing. -/
def Obligations.SensorsGiveTheThermalLevel : Prop :=
  (∀ s rs, s.ts.bootStep ≠ 0 → ∃ u : State, exec (.sensorConversion rs) s = .next u.tempCheck.tripStep.settleFront ∧
    (∀ i, i < 52 → u.therm.reading i = match (readingList rs).getD i none with | some x => some x | none => s.therm.reading i) ∧
    (∀ i, i ∈ u.therm.silent ↔ i < 52 ∧ (readingList rs).getD i none = none) ∧
    (∀ i, i < 52 → (u.therm.isBroken i = true ↔ s.therm.isBroken i = true ∨ ∃ x, u.therm.reading i = some x ∧ (inSpan x = false ∨ 10 ≤ Table.getD u.therm.differs i 0))) ∧
    (∀ n, 1 ≤ n → n ≤ 8 → (n ∈ u.therm.broken ↔ u.sourceBroken n = true)) ∧ u.therm.level = max s.therm.level u.levelNow ∧
    (u.levelNow ≤ s.therm.level → u.therm.below = if u.belowLevel then s.therm.below + 1 else 0) ∧
    (∀ x, u.therm.isBroken 49 = false → u.therm.reading 49 = some x → u.therm.reserveGood = some x) ∧ SameFrame { s with therm := u.therm } u ∧ SameData s u) ∧
  (∀ s rs, s.ts.bootStep = 0 → exec (.sensorConversion rs) s = .next s) ∧
  (∀ s i, i < 52 → i ∈ s.therm.silent → ∃ u : State, exec (.sensorNoConversion i) s = .next u.tempCheck.settleFront ∧ u.therm.isBroken i = true ∧
    (∀ j, j ≠ i → u.therm.isBroken j = s.therm.isBroken j) ∧ (∀ n, 1 ≤ n → n ≤ 8 → (n ∈ u.therm.broken ↔ u.sourceBroken n = true)) ∧
    u.therm.level = max s.therm.level u.levelNow ∧ SameFrame { s with therm := u.therm } u ∧ SameData s u) ∧
  (∀ s i, 52 ≤ i ∨ i ∉ s.therm.silent → exec (.sensorNoConversion i) s = .next s) ∧
  (∀ s i x, s.therm.isBroken i = true → s.therm.reading i = some x → inSpan x = true → i ∉ s.therm.silent → Table.getD s.therm.differs i 0 = 0 →
    ∃ u : State, exec (.sensorWorksAgain i) s = .next u.tempCheck.settleFront ∧ u.therm.brokenDie = s.therm.brokenDie.filter (· ≠ i) ∧ u.therm.level = s.therm.level ∧
      (∀ n, 1 ≤ n → n ≤ 8 → (n ∈ u.therm.broken ↔ u.sourceBroken n = true)) ∧ SameFrame { s with therm := u.therm } u ∧ SameData s u) ∧
  (∀ s i, s.therm.isBroken i = false ∨ i ∈ s.therm.silent ∨ Table.getD s.therm.differs i 0 ≠ 0 ∨ (∀ x, s.therm.reading i = some x → inSpan x = false) → exec (.sensorWorksAgain i) s = .next s) ∧
  (∀ s : State, s.tempCheck.therm = { s.therm with tempWarn := s.tempWarning } ∧ SameData s s.tempCheck) ∧
  (∀ (s : State) l, l = 2 ∨ l = 3 → ∀ g, g = (if l = 2 then s.therm.grace else s.therm.grace2) →
    (g ≠ 0 → (s.ask l).therm = if l = 2 then { s.therm with ask1 := some (g * 10000) } else { s.therm with ask2 := some (g * 10000) }) ∧
    (g = 0 → (s.ask l).therm.enforced = max s.therm.enforced l ∧
      (s.therm.enforced < l → (s.ask l).therm.floor = max s.therm.floor (if l = 2 then s.img.floor1 else s.img.floor2)))) ∧
  (∀ s : State, s.therm.tripped = true ∨ (∀ d, d < 3 → s.atTrip d = false ∨ natAt s.therm.tripRun d = 0) → { s.tripStep with therm := s.therm } = s ∧
    s.tripStep.therm.tripped = s.therm.tripped ∧ s.tripStep.therm.level = s.therm.level ∧ ∀ d, d < 3 → natAt s.tripStep.therm.tripRun d = if s.atTrip d then min 2 (natAt s.therm.tripRun d + 1) else 0) ∧
  (∀ (s : State) d, d < 3 → s.therm.tripped = false → s.atTrip d = true → natAt s.therm.tripRun d ≠ 0 → s.tripStep.therm.tripped = true ∧ s.tripStep.therm.coolFor = 0 ∧ s.tripStep.media = s.media ∧
    (s.dump.active.isSome → s.dump.since = false → ∃ r, s.tripStep.dump.run = some r ∧ r.cause = 2 ∧ s.tripStep.dump.since = true) ∧
    (s.dump.active = none ∨ s.dump.since = true → s.dump.run = none → s.dump.inReset = false → s.tripStep.dump.inReset = true ∧ s.tripStep.dump.holds = [2]))

/-- When every domain has stayed below the level less HYST for 1 s (10,000 conversions), the level falls to what the readings give; the floor and the timers above it end with it. A grace timer that expires ends and
raises the floor to the image's FLOOR1 or FLOOR2, counting the transition, unless that level or a higher one is enforced. Once sensor 1 has worked and been below RESUME for 10 s
(100,000 conversions), the trip ends: its hold is released; the last hold released brings the power-on reset, which leaves flash as it was, and a shutdown's hold left alone leaves
shutdown complete. The reserve domain's terms are the image's tables at the last good reading. Where nothing
is due, nothing changes. -/
def Obligations.ThermalLevelsFallAndResume : Prop :=
  (∀ s, s.therm.level ≠ 0 → 10000 ≤ s.therm.below → s.levelNow < s.therm.level → ∃ t e, exec .thermalLevelFall s = .next t ∧
    e = (if s.levelNow < 2 then 0 else min s.therm.enforced s.levelNow) ∧
    t.therm = { s.therm with level := s.levelNow, below := 0, enforced := e, floor := if e = 0 then 0 else min s.therm.floor (if s.levelNow = 2 then s.img.floor1 else s.img.floor2), ask1 := if s.levelNow < 2 then none else s.therm.ask1, ask2 := if s.levelNow < 3 then none else s.therm.ask2 } ∧
    SameFrame { s with therm := t.therm } t ∧ SameData s t) ∧
  (∀ s, s.therm.level = 0 ∨ s.therm.below < 10000 ∨ s.therm.level ≤ s.levelNow → exec .thermalLevelFall s = .next s) ∧
  (∀ s b l f, l = (if b then 3 else 2) → f = (if b then s.img.floor2 else s.img.floor1) → (if b then s.therm.ask2 else s.therm.ask1) = some 0 → ∃ t, exec (.graceExpire b) s = .next t ∧
    (b = true → t.therm.ask2 = none ∧ t.therm.ask1 = s.therm.ask1) ∧ (b = false → t.therm.ask1 = none ∧ t.therm.ask2 = s.therm.ask2) ∧ t.therm.level = s.therm.level ∧
    (s.therm.enforced < l → t.therm.enforced = l ∧ t.therm.floor = max s.therm.floor f ∧ t.therm.tmt1 + t.therm.tmt2 = s.therm.tmt1 + s.therm.tmt2 + 1) ∧
    (l ≤ s.therm.enforced → t.therm.enforced = s.therm.enforced ∧ t.therm.floor = s.therm.floor) ∧ SameFrame { s with therm := t.therm } t ∧ SameData s t) ∧
  (∀ s, s.therm.ask2 ≠ some 0 → exec (.graceExpire true) s = .next s) ∧ (∀ s, s.therm.ask1 ≠ some 0 → exec (.graceExpire false) s = .next s) ∧
  (∀ s, s.therm.tripped = true → 2 ∈ s.dump.holds → s.coolEnough = true → 100000 ≤ s.therm.coolFor → ∃ t, exec .tripResume s = .next t ∧ t.therm.tripped = false ∧ t.media = s.media ∧ t.pending = s.pending ∧
    ((∀ h ∈ s.dump.holds, h = 2) → t.ts.bootStep = 0 ∧ t.dump.holds = [] ∧ t.dump.inReset = false) ∧
    ((∃ h ∈ s.dump.holds, h ≠ 2) → s.dump.holds.filter (· ≠ 2) ≠ [5] → t.dump = { s.dump with holds := s.dump.holds.filter (· ≠ 2) } ∧
      t.wheel = s.wheel ∧ t.map = s.map) ∧
    (s.dump.holds.filter (· ≠ 2) = [5] → t.fe.shst = 2 ∧ t.dump.shutdown = true ∧ t.dump.holds = [5] ∧ t.dump.inReset = false)) ∧
  (∀ s, s.therm.tripped = false ∨ 2 ∉ s.dump.holds ∨ s.coolEnough = false ∨ s.therm.coolFor < 100000 → exec .tripResume s = .next s) ∧
  (∀ s x, s.therm.reserveGood = some x → exec .reserveCompUpdate s =
    .next { s with therm := { s.therm with resvTerm := interpolate s.img.resvComp x, vrefTerm := interpolate s.img.vrefComp x } }) ∧
  (∀ s, s.therm.reserveGood = none → exec .reserveCompUpdate s = .next s) ∧
  (∀ (l : List Int) (k : Nat), k < 32 → interpolate l (20 * (k : Int) - 160) = intAt l k) ∧ (∀ (l : List Int) x, 480 ≤ x → interpolate l x = intAt l 32) ∧
  (∀ (l : List Int) x, x ≤ -160 → interpolate l x = intAt l 0)

/-- A report of severity 2 or 3 that finds the sequencer free is in hand; with one in hand it joins the queue of 16, and one of a higher severity than it is marked to preempt. With 16
waiting, the newest of the lowest severity gives way to a higher report, otherwise the new one is lost: LOST rises, the dropped severity stands, and the overflow report is latched. A report
of severity 4 that is taken begins fatal handling: its code stands, the front end stops, event requests are gone, and every command in hand has a status or keeps the one reserved. A second
one during fatal handling enters fault stop by path 1; one lost by overflow enters it by path 2. During a dump the first of severity 4 is kept and the others queue. Code 0x0E09 of severity
4 before step 7 of start-up enters halter mode. A severity outside 2 to 4, fault stop, or a main domain in reset: nothing changes. -/
def Obligations.FaultReportsArriveAndQueue : Prop :=
  (∀ s code sev, sev < 2 ∨ 4 < sev ∨ s.fault.stop.isSome ∨ s.dump.inReset = true → exec (.faultReport code sev) s = .next s) ∧
  (∀ s, s.fault.stop = none → s.dump.inReset = false → s.ts.bootStep < 7 → ∃ u : State, exec (.faultReport 0x0E09 4) s = .next u.settleFront ∧
    u.ts.mode = 2 ∧ u.ts.halterReason = 8 ∧ u.ts.bootStep = 9 ∧ u.fault.stop = none ∧ SameData s u) ∧
  (∀ s code sev, 2 ≤ sev → sev ≤ 4 → s.fault.stop = none → s.dump.inReset = false → (code ≠ 0x0E09 ∨ sev ≠ 4 ∨ 7 ≤ s.ts.bootStep) →
    ∃ u : State, exec (.faultReport code sev) s = .next u.settle ∧ ∀ r : Report, r = { code := code, sev := sev, steps := 0 } →
    (s.dump.run = none → s.fault.fatal = none → s.fault.inHand = none → s.fault.queue = [] → s.fault.preempted = [] → s.fault.overflow = false →
      (sev ≠ 4 → u.fault = { s.fault with made := s.fault.made.erase (code, sev), inHand := some r, preempt := false } ∧ u.fe = s.fe ∧ SameFrame s u ∧ SameData s u) ∧
      (sev = 4 → u.fault.fatal = some code ∧ u.fault.inHand = some { r with steps := 2 } ∧ u.fault.count4 = satAdd 32 s.fault.count4 1 ∧ u.fault.stop = none ∧ u.fe.stopped = true ∧ u.fe.aers = [] ∧
        ∀ n d, u.cmd n = some d → d.reserved = true ∨ d.result.isSome)) ∧
    (∀ h, s.dump.run = none → s.fault.fatal = none → s.fault.inHand = some h → s.fault.queue.length < 16 → u.fault.queue = s.fault.queue ++ [r] ∧ u.fault.inHand = some h ∧
      (h.sev < sev → u.fault.preempt = true) ∧ u.fault.lost = s.fault.lost ∧ u.fe = s.fe ∧ SameFrame s u ∧ SameData s u) ∧
    (∀ h low, s.dump.run = none → s.fault.fatal = none → s.fault.inHand = some h → s.fault.queue.length = 16 → low = (s.fault.queue.map (·.sev)).foldl min 4 →
      (low < sev → u.fault.queue = dropNewest low s.fault.queue ++ [r] ∧ u.fault.lastDropped = low) ∧ (sev ≤ low → sev ≠ 4 → u.fault.queue = s.fault.queue ∧ u.fault.lastDropped = sev) ∧
      (low < sev ∨ sev ≠ 4 → u.fault.lost = satAdd 32 s.fault.lost 1 ∧ u.fault.overflow = true ∧ u.fault.inHand = some h ∧ SameFrame s u ∧ SameData s u) ∧
      (sev ≤ low → sev = 4 → ∃ f, u.fault.stop = some f ∧ f.path = 2 ∧ f.cause = code)) ∧
    (s.dump.run = none → s.fault.fatal.isSome → sev = 4 → ∃ f, u.fault.stop = some f ∧ f.path = 1 ∧ f.cause = code ∧ u.fe.stopped = true ∧ u.fault.fatal = none) ∧
    (s.dump.run.isSome → (sev = 4 → u.fault.dumpFatal = s.fault.dumpFatal.or (some code) ∧ u.fault.queue = s.fault.queue) ∧
      (sev ≠ 4 → s.fault.queue.length < 16 → u.fault.queue = s.fault.queue ++ [r] ∧ u.fault.dumpFatal = s.fault.dumpFatal)))

/-- At the end of a step the report in hand has one step more: step 1 counts it at its severity, step 3 of severity 3 sets the degraded warning. A handling of two steps (severity 2) or
five (severity 3) then ends, and the highest waiting report is taken, or none; before that a report of higher severity preempts, the one in hand keeping its steps. The end of 0x0102's
handling releases its latch. With nothing in hand, during a dump, in fatal handling or fault stop, nothing changes. The end of fatal handling enters fault stop by path 0 with its first code; a crystal that
stops and a stalled main domain enter it by path 3: CFS is set, the front end stands, the ring is frozen, queue and report in hand are gone, and the first cause keeps its record. A fall
of VDD_IO brings the power-on reset, which leaves flash as it was. -/
def Obligations.HandlingStepsAndFaultStop : Prop :=
  (∀ s, s.fault.stop.isSome ∨ s.fault.fatal.isSome ∨ s.dump.run.isSome ∨ s.dump.inReset = true ∨ s.fault.inHand = none → exec .faultStepDone s = .next s) ∧
  (∀ s (r : Report), s.fault.stop = none → s.fault.fatal = none → s.dump.run = none → s.dump.inReset = false → s.fault.inHand = some r →
    (r.steps + 1 < r.allSteps → s.fault.topSev ≤ r.sev → ∃ u : State, exec .faultStepDone s = .next u.settleFront ∧ u.fault.inHand = some { r with steps := r.steps + 1 } ∧
      u.fault.queue = s.fault.queue ∧ (r.steps = 0 → r.sev = 2 → u.fault.count2 = satAdd 32 s.fault.count2 1 ∧ u.fault.count3 = s.fault.count3) ∧
      (r.steps = 0 → r.sev ≠ 2 → u.fault.count3 = satAdd 32 s.fault.count3 1 ∧ u.fault.count2 = s.fault.count2) ∧ (r.steps ≠ 0 → u.fault.count2 = s.fault.count2 ∧ u.fault.count3 = s.fault.count3) ∧
      (r.steps = 2 → u.fault.degraded = true) ∧ (r.steps ≠ 2 → u.fault.degraded = s.fault.degraded) ∧ SameFrame s u ∧ SameData s u) ∧
    (r.allSteps ≤ r.steps + 1 → r.code ≠ 0x0102 → s.fault.topSev = 0 → ∃ u : State, exec .faultStepDone s = .next u.settle ∧ u.fault.inHand = none ∧ SameFrame s u ∧ SameData s u) ∧
    (r.allSteps ≤ r.steps + 1 → r.code = 0x0102 → s.fault.queue = [] → s.fault.preempted = [] → ∃ u : State, exec .faultStepDone s = .next u.settle ∧ u.fault.inHand = none ∧ u.fault.overflow = false) ∧
    (∀ x f, r.allSteps ≤ r.steps + 1 → r.code ≠ 0x0102 → s.fault.overflow = false → s.fault.next = some (x, f) → x.sev ≠ 4 → ∃ u : State, exec .faultStepDone s = .next u.settle ∧
      u.fault.inHand = some x ∧ u.fault.queue = f.queue ∧ u.fault.preempted = f.preempted ∧ u.fault.preempt = false ∧ (∀ y ∈ s.fault.queue ++ s.fault.preempted, y.sev ≤ x.sev)) ∧
    (∀ x f, r.steps + 1 < r.allSteps → r.sev < s.fault.topSev → s.fault.next = some (x, f) → x.sev ≠ 4 → s.fault.overflow = false → ∃ u : State, exec .faultStepDone s = .next u.settle ∧
      u.fault.inHand = some x ∧ r.sev < x.sev ∧ { r with steps := r.steps + 1 } ∈ u.fault.preempted ∧ u.fault.queue = f.queue)) ∧
  (∀ s c, s.fault.fatal = some c → s.fault.stop = none → ∃ t f, exec .fatalCompletionsWritten s = .next t ∧ t.fault.stop = some f ∧ f.cause = c ∧ f.path = 0 ∧ t.fault.fatal = none ∧
    t.fe.cfs = true ∧ t.fe.stopped = true ∧ t.fe.ready = [] ∧ t.obs.frozen = true ∧ t.fault.queue = [] ∧ t.fault.inHand = none ∧ t.media = s.media ∧ t.map = s.map ∧
    (∀ p, (t.port p).hbeat = false) ∧ (∀ n k, Table.find t.cipher.slots n = some k → k.current = none ∧ k.previous = none)) ∧
  (∀ s, s.fault.fatal = none ∨ s.fault.stop.isSome → exec .fatalCompletionsWritten s = .next s) ∧
  (∀ s, s.wheel.stopped = false → s.ts.bootStep ≠ 0 → s.dump.inReset = false → ∃ t, exec .crystalStopDetect s = .next t ∧ t.wheel.stopped = true ∧ t.wheel.wt = s.wheel.wt ∧ t.media = s.media ∧
    (s.fault.stop = none → ∃ f, t.fault.stop = some f ∧ f.cause = 0x020A ∧ f.path = 3 ∧ t.fe.cfs = true ∧ t.fe.stopped = true) ∧ (s.fault.stop.isSome → t.fault = s.fault ∧ t.fe = s.fe)) ∧
  (∀ s, s.wheel.stopped = true ∨ s.ts.bootStep = 0 ∨ s.dump.inReset = true → exec .crystalStopDetect s = .next s) ∧
  (∀ s, s.teethPass = true → ∃ t f, exec .mainDomainStall s = .next t ∧ t.fault.stop = some f ∧ f.cause = 0x0103 ∧ f.path = 3 ∧ t.fe.cfs = true ∧ t.fe.stopped = true ∧ t.media = s.media) ∧
  (∀ s, s.teethPass = false → exec .mainDomainStall s = .next s) ∧
  (∀ s, s.pkg.vddIo = true → ∃ t, exec .vddIoFall s = .next t ∧ t.ts.bootStep = 0 ∧ t.pkg.vddIo = false ∧ t.pkg.straps = ⟨true, false⟩ ∧ t.media = s.media ∧ t.pending = s.pending ∧ t.fe.cmds = [] ∧
    t.dump.holds = [] ∧ t.dump.inReset = false ∧ s.wheel.dumpedWt ≤ t.wheel.dumpedWt) ∧
  (∀ s, s.pkg.vddIo = false → exec .vddIoFall s = .next s)

/-- CREATE: a format or protection that does not exist ends with 1:0Ah, a bad size or handle with 0:02h, directories that do not fit with 1:15h, no free NSX or NSID with 1:16h; else DW0
returns the lowest free NSID and the namespace stands, unattached, on the lowest free NSX, whose empty key slot takes a DATA label. DELETE: an NSID without a namespace ends with 0:0Bh;
else the namespace is gone, its units in work fail, its self-test ends, its segments return, and every other stays; the broadcast NSID deletes every one. ATTACH and DETACH: no namespace
0:0Bh, a bad list 1:1Ch, already attached 1:18h, not attached 1:1Ah; else only the list of controllers changes. GET_LBA_STATUS answers the units whose entry has UNC set within the range,
one descriptor each. Statuses and layouts are NVMe's (log 7), the choice of NSID the model's (log 41). -/
def Obligations.NamespacesAreManaged : Prop :=
  ∀ s tag c q x cq cid, AtHand s tag c q x cq cid →
    (∀ spec : NsCreate, c.waits true 0x0D = true → bitField (dw c.entry 10) 0 4 = 0 → ∃ t, exec (.namespaceCreate tag spec) s = .next t ∧
      ∀ shape fits, shape = (decide (spec.piType ≤ 3) && decide (spec.nsze ≠ 0) && decide (spec.handles.length ≤ 4) && spec.handles.all fun h => decide (h ≤ 3)) →
        fits = s.dirsFit 0 (dirEntries spec.nsze spec.flbas) →
      (formatOk (spec.flbas % 16) spec.piType = false → Served s t tag q x cq cid (stat 1 0x0A) c.out) ∧
      (formatOk (spec.flbas % 16) spec.piType = true → shape = false → Served s t tag q x cq cid invalidField c.out) ∧
      (formatOk (spec.flbas % 16) spec.piType = true → shape = true → fits = false → Served s t tag q x cq cid (stat 1 0x15) c.out) ∧
      (formatOk (spec.flbas % 16) spec.piType = true → shape = true → fits = true → s.freeNsx = none ∨ s.freeNsid = none → Served s t tag q x cq cid (stat 1 0x16) c.out) ∧
      (∀ nsx nsid, formatOk (spec.flbas % 16) spec.piType = true → shape = true → fits = true → s.freeNsx = some nsx → s.freeNsid = some nsid → Answered t tag q x cq cid (okDw0 nsid) c.out ∧
        Table.find t.fe.spaces nsid = some { nsx := nsx, nsze := spec.nsze, flbas := spec.flbas % 32, piType := spec.piType, handles := spec.handles, attached := [], slot := nsx, padMode := 0 } ∧
        (∀ n, n ≠ nsid → Table.find t.fe.spaces n = Table.find s.fe.spaces n) ∧ Table.find s.fe.spaces nsid = none ∧ 1 ≤ nsid ∧ nsid ≤ 1024 ∧ (∀ n, 1 ≤ n → n < nsid → (Table.find s.fe.spaces n).isSome) ∧
        ((s.keySlot nsx).kind = 0 → (s.keySlot nsx).revoking = false → (t.keySlot nsx).kind = 1 ∧ (t.keySlot nsx).purpose = 1) ∧ (∀ k, k ≠ nsx → t.keySlot k = s.keySlot k) ∧
        SameFrame s t ∧ SameData { s with cipher := t.cipher } t)) ∧
    (c.waits true 0x0D = true → bitField (dw c.entry 10) 0 4 = 1 →
      (sqeNsid c.entry ≠ broadcast → Table.find s.fe.spaces (sqeNsid c.entry) = none → ∃ t, exec (.namespaceDelete tag) s = .next t ∧ Served s t tag q x cq cid (stat 0 0x0B) c.out) ∧
      (∀ n, sqeNsid c.entry ≠ broadcast → Table.find s.fe.spaces (sqeNsid c.entry) = some n → (∀ z ∈ s.fe.jobs, z.2.tag ≠ some tag) → ∃ (u : State) (d : Cmd),
        exec (.namespaceDelete tag) s = .next u.settle.postAll.arrayPump ∧ u.cmd tag = some d ∧ d.result = some ok ∧ Table.find u.fe.spaces (sqeNsid c.entry) = none ∧
        (∀ m, m ≠ sqeNsid c.entry → Table.find u.fe.spaces m = Table.find s.fe.spaces m) ∧ (∀ t y, u.job t = some y → y.tag.isSome → y.nsx ≠ n.nsx) ∧
        (∀ y, s.fe.test = some y → if y.nsid = sqeNsid c.entry then u.fe.test = none else u.fe.test = some y) ∧ (∀ v ∈ u.fe.lbaStatus, v / 2 ^ 38 ≠ n.nsx) ∧ SameFrame s u ∧ u.media = s.media) ∧
      (sqeNsid c.entry = broadcast → ∃ u : State, exec (.namespaceDelete tag) s = .next u.settle.postAll.arrayPump ∧ (∀ m, Table.find u.fe.spaces m = none) ∧ SameFrame s u ∧ u.media = s.media)) ∧
    (∀ ctrls, c.waits true 0x15 = true → bitField (dw c.entry 10) 0 4 = 0 → ∃ t, exec (.namespaceAttach tag ctrls) s = .next t ∧
      (Table.find s.fe.spaces (sqeNsid c.entry) = none → Served s t tag q x cq cid (stat 0 0x0B) c.out) ∧
      (∀ n, Table.find s.fe.spaces (sqeNsid c.entry) = some n →
        (ctrls = [] ∨ (∃ k ∈ ctrls, k ∉ s.controllers) → Served s t tag q x cq cid (stat 1 0x1C) c.out) ∧
        (ctrls ≠ [] → (∀ k ∈ ctrls, k ∈ s.controllers) → (∃ k ∈ ctrls, k ∈ n.attached) → Served s t tag q x cq cid (stat 1 0x18) c.out) ∧
        (ctrls ≠ [] → (∀ k ∈ ctrls, k ∈ s.controllers ∧ k ∉ n.attached) → ∃ xs, (∀ k, k ∈ xs ↔ k ∈ n.attached ∨ k ∈ ctrls) ∧
          Served { s with fe := { s.fe with spaces := Table.set s.fe.spaces (sqeNsid c.entry) { n with attached := xs } } } t tag q x cq cid ok c.out))) ∧
    (∀ ctrls, c.waits true 0x15 = true → bitField (dw c.entry 10) 0 4 = 1 → ∃ t, exec (.namespaceDetach tag ctrls) s = .next t ∧
      (Table.find s.fe.spaces (sqeNsid c.entry) = none → Served s t tag q x cq cid (stat 0 0x0B) c.out) ∧
      (∀ n, Table.find s.fe.spaces (sqeNsid c.entry) = some n →
        (ctrls = [] ∨ (∃ k ∈ ctrls, k ∉ s.controllers) → Served s t tag q x cq cid (stat 1 0x1C) c.out) ∧
        (ctrls ≠ [] → (∀ k ∈ ctrls, k ∈ s.controllers) → (∃ k ∈ ctrls, k ∉ n.attached) → Served s t tag q x cq cid (stat 1 0x1A) c.out) ∧
        (ctrls ≠ [] → (∀ k ∈ ctrls, k ∈ s.controllers ∧ k ∈ n.attached) → ∃ xs, (∀ k, k ∈ xs ↔ k ∈ n.attached ∧ k ∉ ctrls) ∧
          Served { s with fe := { s.fe with spaces := Table.set s.fe.spaces (sqeNsid c.entry) { n with attached := xs } } } t tag q x cq cid ok c.out))) ∧
    (c.waits true 0x86 = true → ∃ t, exec (.getLbaStatus tag) s = .next t ∧
      (s.attachedSpace c.ctrl (sqeNsid c.entry) = none → Served s t tag q x cq cid (stat 0 0x0B) c.out) ∧
      (∀ n slba room len, s.attachedSpace c.ctrl (sqeNsid c.entry) = some n → slba = dw c.entry 10 + 2 ^ 32 * dw c.entry 11 → room = 4 * (dw c.entry 12 + 1) → len = bitField (dw c.entry 13) 0 16 →
        (n.nsze ≤ slba → Served s t tag q x cq cid (stat 0 0x80) c.out) ∧
        (slba < n.nsze → ∃ us : List Nat, us.length ≤ (room - 8) / 16 ∧ (∀ u ∈ us, u ∈ s.uncUnitsOf n.nsx ∧ slba < (u + 1) * n.perUnit ∧ (len = 0 ∨ u * n.perUnit < slba + len)) ∧
          ∃ more, Served s t tag q x cq cid ok ((toBytes 8 (us.length + 2 ^ 32 * (if more then 1 else 2)) ++ us.flatMap fun u => toBytes 16 (u * n.perUnit + 2 ^ 64 * n.perUnit)).take room) ∧
            (more = false → ∀ u ∈ s.uncUnitsOf n.nsx, slba < (u + 1) * n.perUnit → u * n.perUnit < (if len = 0 then n.nsze else min n.nsze (slba + len)) → u ∈ us))))

/-- A self-test begins at segment 1 element 0 and the command succeeds; one that runs answers 1:1Dh, a wrong NSID 0:0Bh; abort ends a running test with result 1 and always succeeds. FORMAT:
a namespace that does not exist 0:0Bh, a sanitize in progress 0:0Ch, a format that does not exist 1:0Ah, no room 1:15h; an accepted one ends the self-test, ends the namespaces' units in
work, changes their format, and waits: for the blocks to erase (SES 0, 1), or for their slots to be erased and derived again (SES 2; an unwrapped slot is refused with 0:02h). SANITIZE:
one in progress 0:0Ch; block erase and crypto erase end the self-test and the units in work, set SSTAT to in progress and stand with what is left to erase, and the command succeeds; exit
failure clears the failed state, overwrite ends with 0:02h. Statuses are NVMe's (log 7). -/
def Obligations.SelfTestsFormatsAndSanitizes : Prop :=
  ∀ s tag c q x cq cid, AtHand s tag c q x cq cid →
    (∀ i ext, (i = .selfTestShort tag ∧ ext = false) ∨ (i = .selfTestExtended tag ∧ ext = true) → c.waits true 0x14 = true → bitField (dw c.entry 10) 0 4 = (if ext then 2 else 1) →
      ∃ t, exec i s = .next t ∧ ∀ known, known = (decide (sqeNsid c.entry = 0) || decide (sqeNsid c.entry = broadcast) || (s.attachedSpace c.ctrl (sqeNsid c.entry)).isSome) →
      (s.fe.test.isSome → Served s t tag q x cq cid (stat 1 0x1D) c.out) ∧ (s.fe.test = none → known = false → Served s t tag q x cq cid (stat 0 0x0B) c.out) ∧
      (s.fe.test = none → known = true → Served { s with fe := { s.fe with test := some { extended := ext, ctrl := c.ctrl, rein := c.port.rein, nsid := sqeNsid c.entry, segment := 1, element := 0 } } } t tag q x cq cid ok c.out)) ∧
    ((∃ t, exec (.selfTestShort tag) s = .next t) ∧ ∃ t, exec (.selfTestExtended tag) s = .next t) ∧
    (c.waits true 0x14 = true → bitField (dw c.entry 10) 0 4 = 15 → ∃ t, exec (.selfTestAbort tag) s = .next t ∧ (s.fe.test = none → Served s t tag q x cq cid ok c.out) ∧
      (∀ y, s.fe.test = some y → Served { s with fe := { s.fe with test := none, results := ({ result := 1, extended := y.extended, segment := y.segment, nsid := y.nsid, wt := s.wheel.wt } :: s.fe.results).take 20 } } t tag q x cq cid ok c.out)) ∧
    (∀ i erase, (i = .formatNvmErase tag ∧ erase = true ∧ fmtSes c ≤ 1) ∨ (i = .formatNvmCrypto tag ∧ erase = false ∧ fmtSes c = 2) → c.waits true 0x80 = true →
      ∃ t, exec i s = .next t ∧ ∀ xs, xs = s.formatSpaces c → ∀ fits, fits = s.dirsFit (xs.map fun z => dirEntries z.2.nsze z.2.flbas).sum (xs.map fun z => dirEntries z.2.nsze (fmtFlbas c)).sum →
      (xs = [] → sqeNsid c.entry ≠ broadcast → Served s t tag q x cq cid (stat 0 0x0B) c.out) ∧
      ((xs ≠ [] ∨ sqeNsid c.entry = broadcast) →
        (s.fe.sanitize.isSome → Served s t tag q x cq cid sequenceError c.out) ∧
        (s.fe.sanitize = none → formatOk (fmtLbaf c) (fmtPi c) = false → Served s t tag q x cq cid (stat 1 0x0A) c.out) ∧
        (s.fe.sanitize = none → formatOk (fmtLbaf c) (fmtPi c) = true → 3 < fmtPi c → Served s t tag q x cq cid invalidField c.out) ∧
        (s.fe.sanitize = none → formatOk (fmtLbaf c) (fmtPi c) = true → fmtPi c ≤ 3 → fits = false → Served s t tag q x cq cid (stat 1 0x15) c.out) ∧
        (s.fe.sanitize = none → formatOk (fmtLbaf c) (fmtPi c) = true → fmtPi c ≤ 3 → fits = true →
          (erase = false → (∃ z ∈ xs, (s.keySlot z.2.slot).kind = 2 ∨ 4096 ≤ z.2.slot) → Served s t tag q x cq cid invalidField c.out) ∧
          (erase = true ∨ (∀ z ∈ xs, (s.keySlot z.2.slot).kind ≠ 2 ∧ z.2.slot < 4096) → ∃ (u : State) (r : FormatRun), t = u.settle.postAll.arrayPump ∧
            u.fe.formats = s.fe.formats ++ [r] ∧ r.tag = tag ∧ r.crypto = !erase ∧ (erase = true → r.slots = []) ∧ (erase = false → r.blocks = [] ∧ ∀ z ∈ xs, z.2.slot ∈ r.slots) ∧ u.fe.test = none ∧
            (∀ z ∈ xs, ∃ n, Table.find u.fe.spaces z.1 = some n ∧ n.flbas = fmtFlbas c ∧ n.piType = fmtPi c) ∧ (∀ m, (∀ z ∈ xs, z.1 ≠ m) → Table.find u.fe.spaces m = Table.find s.fe.spaces m) ∧
            (∀ g y, u.job g = some y → y.tag.isSome → ∀ z ∈ xs, y.nsx ≠ z.2.nsx) ∧ SameFrame s u ∧ u.media = s.media)))) ∧
    ((∃ t, exec (.formatNvmErase tag) s = .next t) ∧ ∃ t, exec (.formatNvmCrypto tag) s = .next t) ∧
    (∀ i crypto, (i = .sanitizeBlockErase tag ∧ crypto = false ∧ bitField (dw c.entry 10) 0 3 = 2) ∨ (i = .sanitizeCryptoErase tag ∧ crypto = true ∧ bitField (dw c.entry 10) 0 3 = 4) →
      c.waits true 0x84 = true → ∃ t, exec i s = .next t ∧ (s.fe.sanitize.isSome → Served s t tag q x cq cid sequenceError c.out) ∧
      (s.fe.sanitize = none → ∃ (u : State) (r : SanitizeRun), t = u.settle.postAll.arrayPump ∧ u.fe.sanitize = some r ∧ r.crypto = crypto ∧ r.failed = false ∧ u.fe.sanitizeStatus = 2 ∧ u.fe.test = none ∧
        (crypto = true → 0x1FFF ∈ r.left ∧ (∀ k ∈ s.dataSlots, k ∈ r.left) ∧ u.cipher.owner = none) ∧ u.fe.spaces = s.fe.spaces ∧ SameFrame s u ∧ u.media = s.media)) ∧
    ((∃ t, exec (.sanitizeBlockErase tag) s = .next t) ∧ ∃ t, exec (.sanitizeCryptoErase tag) s = .next t) ∧
    (c.waits true 0x84 = true → bitField (dw c.entry 10) 0 3 = 1 → ∃ t, exec (.sanitizeExitFailure tag) s = .next t ∧ (s.fe.sanitize.isSome → Served s t tag q x cq cid sequenceError c.out) ∧
      (s.fe.sanitize = none → Served { s with fe := { s.fe with sanitizeFailed := false, sanitizeStatus := if s.fe.sanitizeFailed then 0 else s.fe.sanitizeStatus } } t tag q x cq cid ok c.out)) ∧
    (c.waits true 0x84 = true → bitField (dw c.entry 10) 0 3 = 3 → ∃ t, exec (.sanitizeOverwrite tag) s = .next t ∧ Served s t tag q x cq cid invalidField c.out)

/-- FLUSH succeeds at once. WRITE, whose data is fetched only while the window has room (it stays waiting otherwise, R15; log 88): write protection ends with 0:20h, a placement handle the namespace has not with 0:02h, a key that does not serve with 7:C3h (0:02h for another purpose,
log 44), a failed protection check of any block with 2:82h to 2:84h before a unit is admitted; else every 4 KiB unit of the range stands as a job with its part of the data, the tag
record of its block and the stream of its placement handle: whole units for the skiver, parts for a merge. WRITE_ZEROES with PRACT in a format with protection information takes zero-filled
units with the command's tags, otherwise it discards: whole units are unmapped, parts are written as zeros. The spans of a range are its units in order, within the unit, and as long as
the range together. A namespace that is not attached ends with 0:0Bh. -/
def Obligations.WritesTakeTheirUnits : Prop :=
  (∀ s tag c q x cq cid, AtHand s tag c q x cq cid →
    (c.waits false 0x00 = true → ∃ t, exec (.flush tag) s = .next t ∧ Served s t tag q x cq cid ok c.out) ∧
    (∀ data pi, c.waits false 0x01 = true → s.writeWaits c = true → exec (.write tag data pi) s = .next s) ∧
    (∀ data pi, c.waits false 0x01 = true → s.writeWaits c = false → ∃ t, exec (.write tag data pi) s = .next t ∧ (s.cmdSpace c = none → Served s t tag q x cq cid (stat 0 0x0B) c.out) ∧
      ∀ n, s.cmdSpace c = some n →
      (s.writeProtected = true → Served s t tag q x cq cid (stat 0 0x20) c.out) ∧
      (s.writeProtected = false → s.placeStream n c = none → Served (s.fdpEvent 0x03 (n.handles.getD 0 0)) t tag q x cq cid invalidField c.out) ∧
      (∀ stream, s.writeProtected = false → s.placeStream n c = some stream →
        (∀ r, s.keyServes n = some r → Served s t tag q x cq cid r c.out ∧ (r = stat 7 0xC3 ∨ r = invalidField)) ∧
        (∀ i r, s.keyServes n = none → writeCheck n c data pi = some (i, r) → Served s t tag q x cq cid r c.out ∧ i < sqeNlb c.entry) ∧
        (s.keyServes n = none → writeCheck n c data pi = none → ∃ u : State, t = u.settle.postAll.arrayPump ∧ UnitsTaken s u tag c ((unitSpans n (sqeSlba c.entry) (sqeNlb c.entry)).map
          (writeJob tag n data stream fun k => writeTags n c (k - sqeSlba c.entry) (pi.getD (k - sqeSlba c.entry) default)))))) ∧
    (c.waits false 0x08 = true → ∃ t, exec (.writeZeroes tag) s = .next t ∧ (s.cmdSpace c = none → Served s t tag q x cq cid (stat 0 0x0B) c.out) ∧
      ∀ n spans, s.cmdSpace c = some n → spans = unitSpans n (sqeSlba c.entry) (sqeNlb c.entry) →
      (s.writeProtected = true → Served s t tag q x cq cid (stat 0 0x20) c.out) ∧
      (∀ r, s.writeProtected = false → s.keyServes n = some r → Served s t tag q x cq cid r c.out) ∧
      (s.writeProtected = false → s.keyServes n = none → ∃ u : State, t = u.settle.postAll.arrayPump ∧
        (n.hasTags = true → cmdPract c = true → UnitsTaken s u tag c (spans.map (writeJob tag n [] (s.handle0 n) fun k => tagRecord (n.flbas % 16) (cmdApp c) (cmdRef n c (k - sqeSlba c.entry))))) ∧
        (n.hasTags = false ∨ cmdPract c = false → UnitsTaken s u tag c (spans.flatMap (discardJobs tag n (s.handle0 n) false)))))) ∧
  (∀ n slba nlb i z, (unitSpans n slba nlb)[i]? = some z → z.1 = slba / n.perUnit + i ∧ 0 < z.2.2.1 ∧ z.2.1 + z.2.2.1 ≤ n.perUnit * n.lbaBytes) ∧
  (∀ n slba nlb, ((unitSpans n slba nlb).map (·.2.2.1)).sum = nlb * n.lbaBytes) ∧
  (∀ (s : State) n, s.keyServes n = none ↔ (s.keySlot n.slot).kind ≠ 0 ∧ (s.keySlot n.slot).revoking = false ∧ (s.keySlot n.slot).purpose = 1) ∧
  (∀ n c data pi, n.hasTags = false ∨ n.piType = 0 ∨ cmdPract c = true → writeCheck n c data pi = none) ∧
  (∀ (s : State) c, s.writeWaits c = true ↔ (s.windowGran ≤ s.wb.dirty ∨ ∃ x ∈ s.fe.jobs, x.2.stage = .admission ∧ x.2.kind = .write ∧ s.windowTakes x.2 = false) ∧ s.writeProtected = false ∧
    ∃ n, s.cmdSpace c = some n ∧ s.keyServes n = none ∧ ∃ stream, s.placeStream n c = some stream)

/-- READ, COMPARE and VERIFY at hand: a namespace that is not attached ends with 0:0Bh, a key that does not serve with its status; otherwise each unit of the range waits as a job for its
lookup, a compare's with its part of the host's data, a read's with the place its data and its metadata take in the data returned: interleaved when extended, after all the data when
separate (log 43), none with PRACT. A read's data starts as zeros of its length. Nothing else changes. -/
def Obligations.ReadsTakeTheirUnits : Prop :=
  ∀ s tag c q x cq cid, AtHand s tag c q x cq cid →
    (c.waits false 0x02 = true → ∃ t, exec (.read tag) s = .next t ∧ (s.cmdSpace c = none → Served s t tag q x cq cid (stat 0 0x0B) c.out) ∧
      ∀ n, s.cmdSpace c = some n →
      (∀ r, s.keyServes n = some r → Served s t tag q x cq cid r (List.replicate (readBytes n c) 0#8)) ∧
      (s.keyServes n = none → ∃ u : State, t = u.settle.postAll.arrayPump ∧
        UnitsTaken s u tag { c with out := List.replicate (readBytes n c) 0#8 } ((unitSpans n (sqeSlba c.entry) (sqeNlb c.entry)).map (readJob tag c n .read [])))) ∧
    (∀ data, c.waits false 0x05 = true → ∃ t, exec (.compare tag data) s = .next t ∧ (s.cmdSpace c = none → Served s t tag q x cq cid (stat 0 0x0B) c.out) ∧
      ∀ n, s.cmdSpace c = some n → (∀ r, s.keyServes n = some r → Served s t tag q x cq cid r c.out) ∧
      (s.keyServes n = none → ∃ u : State, t = u.settle.postAll.arrayPump ∧ UnitsTaken s u tag c ((unitSpans n (sqeSlba c.entry) (sqeNlb c.entry)).map (readJob tag c n .compare data)))) ∧
    (c.waits false 0x0C = true → ∃ t, exec (.verify tag) s = .next t ∧ (s.cmdSpace c = none → Served s t tag q x cq cid (stat 0 0x0B) c.out) ∧
      ∀ n, s.cmdSpace c = some n → (∀ r, s.keyServes n = some r → Served s t tag q x cq cid r c.out) ∧
      (s.keyServes n = none → ∃ u : State, t = u.settle.postAll.arrayPump ∧ UnitsTaken s u tag c ((unitSpans n (sqeSlba c.entry) (sqeNlb c.entry)).map (readJob tag c n .verify [])))) ∧
    (∀ n (d : Cmd) i, (n.hasTags = false ∨ (n.piType ≠ 0 ∧ cmdPract d = true) → readLayout n d i = (i * n.lbaBytes, none)) ∧
      (∀ at_, (readLayout n d i).2 = some at_ → i < sqeNlb d.entry → at_ + n.metaBytes ≤ readBytes n d))

/-- DSM with AD: a range beyond NSZE ends with 0:80h, else the units of the ranges, those of length 0 ignored, are discarded, and one without units succeeds; without AD it succeeds.
SECURE_DISCARD: write protection 0:20h, a range beyond NSZE 0:80h, sixteen jobs open or due 0:21h, else its job waits with the units of each range and every unit is marked.
IO_MGMT_RECEIVE and RUH_UPDATE end with 0:02h while FDP is disabled; the status has one 32-byte descriptor for each placement handle, cut to the length asked (free bytes, log 9); an
update of an identifier the namespace has not ends with 0:02h and FDP event 03h, else it ends the sets of the handles named and waits for their girths. A namespace that is not attached
ends with 0:0Bh. Layouts are NVMe's (log 7). -/
def Obligations.DiscardsAndHandlesAreServed : Prop :=
  ∀ s tag c q x cq cid, AtHand s tag c q x cq cid →
    (∀ ranges, c.waits false 0x09 = true → bitField (dw c.entry 11) 2 1 = 1 → ∃ t, exec (.dsmDeallocate tag ranges) s = .next t ∧ (s.cmdSpace c = none → Served s t tag q x cq cid (stat 0 0x0B) c.out) ∧
      ∀ n rs, s.cmdSpace c = some n → rs = cmdRanges c ranges → (rangesBeyond n rs = true → Served s t tag q x cq cid (stat 0 0x80) c.out) ∧
      (rangesBeyond n rs = false → (∃ u : State, t = (u.cmdStep tag).settle.postAll.arrayPump ∧
        UnitsTaken s u tag c (rs.flatMap fun r => (unitSpans n r.slba r.nlb).flatMap (discardJobs tag n (s.handle0 n) false))))) ∧
    (∀ (u : State) d, u.cmd tag = some d → d.result = none → Table.find u.fe.late tag = none → (d.units = [] → ∃ e, (u.cmdStep tag).cmd tag = some e ∧ e.result = some ok) ∧ (d.units ≠ [] → u.cmdStep tag = u)) ∧
    (c.waits false 0x09 = true → bitField (dw c.entry 11) 2 1 = 0 → (∃ t, exec (.dsmNoDeallocate tag) s = .next t ∧ (s.cmdSpace c = none → Served s t tag q x cq cid (stat 0 0x0B) c.out) ∧
      ∀ n, s.cmdSpace c = some n → Served s t tag q x cq cid ok c.out)) ∧
    (∀ ranges, c.waits false 0x89 = true → ∃ t, exec (.secureDiscard tag ranges) s = .next t ∧ (s.cmdSpace c = none → Served s t tag q x cq cid (stat 0 0x0B) c.out) ∧
      ∀ n rs, s.cmdSpace c = some n → rs = cmdRanges c ranges → (s.writeProtected = true → Served s t tag q x cq cid (stat 0 0x20) c.out) ∧
      (s.writeProtected = false → rangesBeyond n rs = true → Served s t tag q x cq cid (stat 0 0x80) c.out) ∧
      (s.writeProtected = false → rangesBeyond n rs = false → 16 ≤ s.jobsTaken → Served s t tag q x cq cid (stat 0 0x21) c.out) ∧
      (s.writeProtected = false → rangesBeyond n rs = false → s.jobsTaken < 16 → ∃ u : State, t = u.settle.postAll.arrayPump ∧
        Table.find u.fe.late tag = some (.discard n.nsx (rs.map (rangeUnits n))) ∧
        UnitsTaken s u tag c (rs.flatMap fun r => (unitSpans n r.slba r.nlb).flatMap (discardJobs tag n (s.handle0 n) true)))) ∧
    (c.waits false 0x12 = true → ∃ t, exec (.ioMgmtReceive tag) s = .next t ∧ (s.cmdSpace c = none → Served s t tag q x cq cid (stat 0 0x0B) c.out) ∧
      ∀ n hs, s.cmdSpace c = some n → hs = (if n.handles = [] then [0] else n.handles) → (s.map.fdp = false → Served s t tag q x cq cid invalidField c.out) ∧
      (s.map.fdp = true → ∃ body : List Byte, body.length = 16 + 32 * hs.length ∧ (∀ i h k, hs[i]? = some h → k < 4 → body[16 + 32 * i + k]? = (toBytes 4 (i + 65536 * h))[k]?) ∧
        Served s t tag q x cq cid ok (body.take (4 * (dw c.entry 11 + 1))))) ∧
    (∀ ids, c.waits false 0x1D = true → ∃ t, exec (.ruhUpdate tag ids) s = .next t ∧ (s.cmdSpace c = none → Served s t tag q x cq cid (stat 0 0x0B) c.out) ∧
      ∀ n hs taken, s.cmdSpace c = some n → hs = (if n.handles = [] then [0] else n.handles) → taken = ids.take (bitField (dw c.entry 10) 16 16 + 1) →
      (s.map.fdp = false → Served s t tag q x cq cid invalidField c.out) ∧
      (s.map.fdp = true → (∃ i ∈ taken, hs.length ≤ i) → Served (s.fdpEvent 0x03 (n.handles.getD 0 0)) t tag q x cq cid invalidField c.out) ∧
      (s.map.fdp = true → (∀ i ∈ taken, i < hs.length) → ∃ (u : State) (gs : List Nat), t = u.settle.postAll.arrayPump ∧ Table.find u.fe.late tag = some (.handles gs) ∧
        (∀ g y, (g, y) ∈ s.girth.girths → (∃ i ∈ taken, hs[i]? = some y.stream) → g ∈ gs) ∧ (∃ d, u.cmd tag = some d ∧ d.started = true ∧ d.result = none) ∧ SameFrame s u ∧ u.media = s.media))

/-- While an earlier command of the context has no status the command waits. At hand it is refused by R329's checks in order, or it runs: the engine works the input of CDW11 bytes, continuing
the context (a fresh one with START), and the command completes with the bytes written in DW0 and taken in DW1: success, 7:C7h where the chain ran out, 7:C8h at the limit, 0:02h on a
coding error with its offset. The context goes on after success without an end and after 7:C7h, and is gone otherwise. The output never passes the chain's room, nor a START run's total the
limit; a skive that ran to the end of its input took all of it, and carries less than a window; a FINAL one ends. With DEST 1 the output goes to whole blocks of the namespace from its SLBA, at
most as many as CDW13 gives, and the command waits for them. -/
def Obligations.StreamsRunTheirWindows : Prop :=
  (∀ s tag c input chain, s.cmd tag = some c → (∃ n d, (n, d) ∈ s.fe.cmds ∧ n < tag ∧ d.result = none ∧ d.ctx? = some (skCtx c)) →
    exec (.skiveStream tag input chain) s = .next s ∧ exec (.unskiveStream tag input chain) s = .next s) ∧
  (∀ i s tag c q x cq cid input chain decode, (i = .skiveStream tag input chain ∧ decode = false ∧ c.waits false 0x83 = true) ∨ (i = .unskiveStream tag input chain ∧ decode = true ∧ c.waits false 0x87 = true) →
    AtHand s tag c q x cq cid → (∀ n d, (n, d) ∈ s.fe.cmds → n < tag → d.result = none → d.ctx? ≠ some (skCtx c)) → ∃ t, exec i s = .next t ∧
    (∀ r, s.streamRefused c decode chain = some r → Served s t tag q x cq cid r c.out) ∧
    (s.streamRefused c decode chain = none → ∃ (r : StreamRun) (room : Nat), (skDest c = false → room = (chainRoom 256 chain).getD 0) ∧ r.out.length ≤ room ∧
      (∀ start : StreamRun, start = { ctx := s.streamCtx c decode, rest := padTo (dw c.entry 11) (input.take (dw c.entry 11)), out := [], taken := 0, stop := .none } →
        r = (if decode then unskiveRun room (s.skLimit c) (skFlush c) (start.rest.length + start.ctx.carry.length + 2) start
             else skiveRun s.skv.cfg.resetPct (start.ctx.wmax - 9) room (s.skLimit c) (skFlush c) (start.rest.length + 2) start)) ∧
      (skStart c = true → s.skLimit c ≠ 0 → r.ctx.total ≤ s.skLimit c) ∧ (decode = false → r.stop = .none → r.taken = dw c.entry 11 ∧ r.ctx.carry.length < 256) ∧
      (decode = false → skFlush c = 2 → r.stop ≠ .none) ∧
      (skDest c = false → Served { s with skv := { s.skv with ctxs := if (r.ends decode).2 then Table.set s.skv.ctxs (skCtx c) r.ctx else Table.del s.skv.ctxs (skCtx c) } } t tag q x cq cid (r.ends decode).1 r.out) ∧
      (∀ n, skDest c = true → s.cmdSpace c = some n → ∃ (u : State) (row : Cmd) (res : CmdResult) (keep : Bool) (nlb : Nat), t = u.settle.postAll.arrayPump ∧ nlb = min (ceilDiv r.out.length n.lbaBytes) (dw c.entry 13 + 1) ∧
        Table.find u.fe.late tag = some (.stream (skCtx c) res keep) ∧ (nlb = ceilDiv r.out.length n.lbaBytes → res = (r.ends decode).1 ∧ keep = (r.ends decode).2) ∧
        (nlb < ceilDiv r.out.length n.lbaBytes → res = streamResult (stat 7 0xC7) (nlb * n.lbaBytes) r.taken ∧ keep = true) ∧ Table.find u.skv.ctxs (skCtx c) = some r.ctx ∧
        u.cmd tag = some row ∧ row.started = true ∧ row.result = none ∧ row.units.length = c.units.length + (unitSpans n (dw c.entry 14 + 2 ^ 32 * dw c.entry 15) nlb).length ∧
        (∀ k z, (unitSpans n (dw c.entry 14 + 2 ^ 32 * dw c.entry 15) nlb)[k]? = some z → ∃ j, u.job (s.fe.nextJob + k) = some j ∧ j.unit = z.1 ∧ j.kind = .write ∧ j.nsx = n.nsx ∧
          j.data = padTo z.2.2.1 (sliceBytes r.out z.2.2.2 z.2.2.1)) ∧ SameFrame s u ∧ SameData { s with skv := u.skv } u))) ∧
  (∀ (r : StreamRun) decode, ((r.ends decode).2 = true ↔ r.stop = .none ∨ r.stop = .chain) ∧ ((r.ends decode).1.sct = 0 ∧ (r.ends decode).1.sc = 0 ↔ r.stop = .none ∨ r.stop = .ended) ∧
    (r.stop = .chain → (r.ends decode).1.sct = 7 ∧ (r.ends decode).1.sc = 0xC7) ∧ (r.stop = .limit → (r.ends decode).1.sct = 7 ∧ (r.ends decode).1.sc = 0xC8) ∧
    (r.stop = .none ∨ r.stop = .ended ∨ r.stop = .chain ∨ r.stop = .limit → (r.ends decode).1.dw0 = r.out.length ∧ (r.ends decode).1.dw1 = r.taken)) ∧
  (∀ (s : State) c decode chain r, s.streamRefused c decode chain = some r →
    (skDest c = true ∧ (skStart c = false ∨ skFlush c ≠ 2) → r = invalidField) ∧
    (skDest c = false → skStart c = false → Table.find s.skv.ctxs (skCtx c) = none → r = sequenceError))

/-- A burst of fitted DRAM whose rank has no retired lane: without a bad symbol nothing is counted; 1 to 4 bad symbols count one corrected burst and every lane of theirs once, and a lane that
reaches RETIRE_CNT is retired; 5 to 12 count one uncorrectable burst, and the region answers: a map block's segment is not restored and restored first, a granule takes its poison bit and the reads of its
slot fail, voltages are no longer valid, a set record takes its state of the ledger (R188). With a retired lane a burst decodes clean (DEDUCED, log 55). More than 12 bad symbols may be miscorrected: free. The scrubber does the same at its
cursor, which moves on and wraps, when the bank's queue is empty, without the region's answer. Every RETIRE_ROUNDS rounds the lane counters clear. Otherwise nothing changes. -/
def Obligations.DramBurstsDecodeAndScrub : Prop :=
  (∀ s a bad place, s.dramBytes ≤ a → exec (.dramBurstDecode a bad place) s = .next s) ∧
  (∀ s a bad place (b : List Nat) k, a < s.dramBytes → b = (bad.filter (· < 80)).eraseDups → k = rankKey (s.img.dramAt a).ch (s.img.dramAt a).rank →
    ((s.rank k).retired.isSome ∨ b = [] → ∃ t, exec (.dramBurstDecode a bad place) s = .next t ∧ t.dram.corrected = s.dram.corrected ∧ t.dram.uncorrectable = s.dram.uncorrectable ∧
      (t.rank k).lanes = (s.rank k).lanes ∧ SameFrame { s with dram := t.dram } t ∧ SameData s t ∧ t.fe = s.fe) ∧
    ((s.rank k).retired = none → b ≠ [] → b.length ≤ 4 → (s.rank k).lanes.length = 5 → ∃ u : State, exec (.dramBurstDecode a bad place) s = .next u.settle ∧
      u.dram.corrected = satAdd 32 s.dram.corrected 1 ∧ u.dram.uncorrectable = s.dram.uncorrectable ∧
      (∀ l, l < 5 → natAt (u.rank k).lanes l = if ∃ x ∈ b, laneOf x = l then min 255 (natAt (s.rank k).lanes l + 1) else natAt (s.rank k).lanes l) ∧
      (∀ l, (∀ x ∈ b, laneOf x = l) → (u.rank k).retired = if natAt (s.rank k).lanes l + 1 = s.img.retireCnt then some l else none) ∧
      SameFrame { s with dram := u.dram } u ∧ SameData s u) ∧
    ((s.rank k).retired = none → 5 ≤ b.length → b.length ≤ 12 → ∃ u : State, exec (.dramBurstDecode a bad place) s = .next u.settle ∧
      u.dram.uncorrectable = satAdd 32 s.dram.uncorrectable 1 ∧ u.dram.corrected = s.dram.corrected ∧
      (∀ sg blk, place = .segmentPool sg blk → (s.seg sg).alloc = true → (u.seg sg).restored = false ∧ (s.map.background = some sg ∨ sg ∈ u.map.onDemand)) ∧
      (∀ g, place = .writeBuffer g → g ∈ u.dram.poison ∧ ∀ z w n j, s.slotAt g = some (z, w) → s.job n = some j → j.reads = some z → u.job n = none) ∧
      (∀ g, place = .vtGroup g → (u.vtGroup g).valid = false) ∧ (∀ n, place = .setRec n → SameData { s with girth := { s.girth with sets := u.girth.sets } } u ∧ (∀ j, j ≠ n → u.setRec j = s.setRec j) ∧
        ∀ r, (Table.find s.girth.sets n).isSome → Table.find (((s.pagesInOrder.flatMap fun p => p.entries ++ p.refresh) ++ s.girth.ledgerNew).foldl LedgerView.take {}).sets n = some r →
          u.setRec n = { s.setRec n with state := if (s.setRec n).state = 3 then 3 else r.state }) ∧ (u.plan = s.plan ∨ ∃ n, place = .plan n) ∧ u.wheel = s.wheel ∧ u.rein = s.rein)) ∧
  (∀ s bad a x, a = s.dram.scrub * 64 → x = s.img.dramAt a →
    (s.dramBytes ≤ a ∨ s.dram.changing = true ∨ (∃ y ∈ s.waitingReads ++ s.waitingWrites, s.inBank x.ch x.rank x.bank y = true) → exec (.dramScrubRead bad) s = .next s) ∧
    (a < s.dramBytes → s.dram.changing = false → (∀ y ∈ s.waitingReads ++ s.waitingWrites, s.inBank x.ch x.rank x.bank y = false) → ∃ t, exec (.dramScrubRead bad) s = .next t ∧
      t.dram.scrub = (if a + 64 < s.dramBytes then s.dram.scrub + 1 else 0) ∧ SameFrame { s with dram := t.dram } t ∧ SameData s t ∧
      ∀ b : List Nat, b = (bad.filter (· < 80)).eraseDups → (s.rank (rankKey x.ch x.rank)).retired = none →
        (b = [] → t.dram.corrected = s.dram.corrected ∧ t.dram.uncorrectable = s.dram.uncorrectable) ∧ (b ≠ [] → b.length ≤ 4 → t.dram.corrected = satAdd 32 s.dram.corrected 1) ∧
        (5 ≤ b.length → b.length ≤ 12 → t.dram.uncorrectable = satAdd 32 s.dram.uncorrectable 1 ∧ t.dram.corrected = s.dram.corrected))) ∧
  (∀ s, s.dram.gib ≠ 0 → s.dram.laneRound + s.img.retireRounds ≤ s.obs.rounds → ∃ t, exec .laneCounterWindow s = .next t ∧ t.dram.laneRound = s.obs.rounds ∧
    (∀ k, Table.find t.dram.ranks k = (Table.find s.dram.ranks k).map fun r => { r with lanes := [0, 0, 0, 0, 0] }) ∧ { t with dram := s.dram } = s) ∧
  (∀ s, s.dram.gib = 0 ∨ s.obs.rounds < s.dram.laneRound + s.img.retireRounds → exec .laneCounterWindow s = .next s)

/-- A refresh that is due is postponed while a read waits in its bank's queue and fewer than four are; otherwise it issues with those postponed and closes the bank's row. A rank in self-refresh
takes none. A scheduled neighbour refresh issues and counts once, and with RFM leaves the rest of its bank's list; with adjacent rows it activates the row before and the row after, each
drawing its pattern. A quiet rank enters power-down after PD_IDLE and, in PS 4, self-refresh after 100 us only. The other ranks stand as they were; what is not due changes nothing. -/
def Obligations.DramRefreshesAndPowersDown : Prop :=
  (∀ s ch rank bank k, k = rankKey ch rank →
    (s.bankFitted ch rank bank = false ∨ (s.rank k).power = 2 ∨ s.dram.changing = true → exec (.dramRefreshDue ch rank bank) s = .next s) ∧
    (s.bankFitted ch rank bank = true → (s.rank k).power ≠ 2 → s.dram.changing = false → ∃ t, exec (.dramRefreshDue ch rank bank) s = .next t ∧ { t with dram := s.dram } = s ∧
      { t.dram with ranks := s.dram.ranks } = s.dram ∧ (∀ j, j ≠ k → t.rank j = s.rank j) ∧
      ((∃ y ∈ s.waitingReads, s.inBank ch rank bank y = true) → natAt (s.rank k).postponed bank < 4 → t.rank k = { s.rank k with postponed := updAt (s.rank k).postponed bank (· + 1) }) ∧
      ((∀ y ∈ s.waitingReads, s.inBank ch rank bank y = false) ∨ 4 ≤ natAt (s.rank k).postponed bank →
        t.rank k = { s.rank k with postponed := updAt (s.rank k).postponed bank fun _ => 0, rows := Table.del (s.rank k).rows bank, power := 0 })) ∧
    (s.bankFitted ch rank bank = false ∨ Table.getD (s.rank k).neighbour bank [] = [] → exec (.neighbourRefresh ch rank bank) s = .next s) ∧
    (∀ row rest, s.bankFitted ch rank bank = true → Table.getD (s.rank k).neighbour bank [] = row :: rest → ∃ t, exec (.neighbourRefresh ch rank bank) s = .next t ∧
      t.dram.neighbours = satAdd 32 s.dram.neighbours 1 ∧ Table.find (t.rank k).rows bank = none ∧ (t.rank k).power = 0 ∧ (∀ j, j ≠ k → t.rank j = s.rank j) ∧
      (∃ drawn, Table.getD (t.rank k).neighbour bank [] = rest ++ drawn ∧ (∀ x ∈ drawn, x + 1 = row ∨ x = row + 1) ∧ (s.img.adjMode = true → drawn = [])) ∧
      (s.img.adjMode = true → t.dram.lfsr = s.dram.lfsr) ∧ SameFrame { s with dram := t.dram } t ∧ SameData s t)) ∧
  (∀ s ch rank idle k quiet, k = rankKey ch rank → quiet = (decide (∀ y ∈ s.waitingReads ++ s.waitingWrites, s.inRank ch rank y = false) && decide (∀ n ∈ (s.rank k).postponed, n = 0) &&
      decide ((s.rank k).neighbour = [])) →
    (s.bankFitted ch rank 0 = true → quiet = true → s.fe.ps4 ≠ 2 → s.img.pdIdle ≤ idle → (s.rank k).power = 0 →
      exec (.rankPowerDown ch rank idle) s = .next (s.modRank k fun r => { r with power := 1, rows := [] })) ∧
    (s.bankFitted ch rank 0 = true → quiet = true → s.fe.ps4 = 2 → 100000 ≤ idle → exec (.rankPowerDown ch rank idle) s = .next (s.modRank k fun r => { r with power := 2, rows := [] })) ∧
    (s.bankFitted ch rank 0 = false ∨ quiet = false ∨ (s.fe.ps4 ≠ 2 ∧ (idle < s.img.pdIdle ∨ (s.rank k).power ≠ 0)) ∨ (s.fe.ps4 = 2 ∧ idle < 100000) →
      exec (.rankPowerDown ch rank idle) s = .next s))

/-- A fill with a good CRC installs its line in the way the tree names, where the victim is not dirty or the write-back buffer has room, and the miss register is free; with a dirty victim and
a full buffer it waits. A bad CRC installs nothing: the line's segment is not restored. The oldest write of the buffer completes first. A disabled bank drains: it is disabled at once, with its lines
dropped, when it holds no dirty line and no write, else it is draining; a frequency change pauses a drain; a bank that is already off stays. An enabled bank serves again, unless it is out of service. Errors of two symbols or
two copies count toward the 16 that take the bank out. Other banks stand as they were. -/
def Obligations.MapCacheFillsAndDrains : Prop :=
  (∀ s b ok err, 32 ≤ b → exec (.mcFillDone b ok err) s = .next s) ∧
  (∀ s b ok m err, (s.bank b).miss = some m → (s.bank b).fillWaits m = true → (s.bank b).en = true → exec (.mcFillDone b ok err) s = .next s) ∧
  (∀ s b ok, b < 32 → (s.bank b).miss = none → exec (.mcFillDone b ok .none) s = .next s.settle) ∧
  (∀ s b m, b < 32 → (s.bank b).miss = some m → (s.bank b).queue = [] → (s.bank b).draining = false → ((s.bank b).en = true → (s.bank b).fillWaits m = false) →
    (∃ u : State, exec (.mcFillDone b true .none) s = .next u.settle ∧ (u.bank b).miss = none ∧ (u.bank b).queue = [] ∧ ((s.bank b).en = true → (u.bank b).holds m.la = true ∧
        (∀ w, Table.find (s.bank b).tags (setOfLa m.la * 16 + plruVictim (Table.getD (s.bank b).plru (setOfLa m.la) 0)) = some w → w.valid = true → w.dirty = true →
          laOfTag b (setOfLa m.la) w.tag ∈ (u.bank b).wbb)) ∧ ((s.bank b).en = false → (u.bank b).tags = (s.bank b).tags) ∧ (∀ j, j ≠ b → u.bank j = s.bank j) ∧ u.map = s.map ∧ u.media = s.media) ∧
    (∃ u : State, exec (.mcFillDone b false .none) s = .next u.settle ∧ (u.bank b).miss = none ∧ ((s.seg (m.la / 65536)).alloc = true → (u.seg (m.la / 65536)).restored = false) ∧
      ((s.seg (m.la / 65536)).alloc = false → u.map = s.map ∧ (u.bank b).tags = (s.bank b).tags))) ∧
  (∀ s b, (s.bank b).wbb = [] → exec (.mcWritebackDone b) s = .next s) ∧
  (∀ s b la rest, (s.bank b).wbb = la :: rest → ∃ t, exec (.mcWritebackDone b) s = .next t ∧ ((s.bank b).draining = false → (s.bank b).queue = [] → t.bank b = { s.bank b with wbb := rest }) ∧
    ((s.bank b).draining = true → s.dram.changing = false → (s.bank b).queue = [] → rest = [] → (s.bank b).dirtyLines b = [] → (t.bank b).en = false ∧ (t.bank b).draining = false ∧ (t.bank b).tags = []) ∧
    (∀ j, j ≠ b → t.bank j = s.bank j) ∧ t.map = s.map ∧ t.wheel = s.wheel) ∧
  (∀ s banks, ∃ t, exec (.mcDisableRequest banks) s = .next t ∧ (∀ b ∈ banks, b < 32 → (t.bank b).en = false ∨ (t.bank b).draining = true) ∧
    (∀ b, b ∉ banks ∨ 32 ≤ b ∨ (s.bank b).en = false → t.bank b = s.bank b) ∧
    (∀ b ∈ banks, b < 32 → (s.bank b).en = true → (s.bank b).draining = false → s.dram.changing = false → (s.bank b).wbb = [] → (s.bank b).dirtyLines b = [] → (t.bank b).en = false ∧ (t.bank b).tags = [] ∧ (t.bank b).draining = false) ∧
    SameFrame s t ∧ SameData { s with mc := t.mc } t) ∧
  (∀ s banks, ∃ t, exec (.mcEnableRequest banks) s = .next t ∧ (∀ b ∈ banks, b < 32 → (s.bank b).out = false → t.bank b = { s.bank b with draining := false, en := true }) ∧
    (∀ b, b ∉ banks ∨ 32 ≤ b ∨ (s.bank b).out = true → t.bank b = s.bank b) ∧ { t with mc := s.mc } = s ∧ { t.mc with banks := s.mc.banks } = s.mc) ∧
  (∀ (s : State) b set, (s.cacheError b (.oneSymbol set)).mc = { s.mc with corrected := satAdd 32 s.mc.corrected 1 } ∧
    ((s.cacheError b (.tagBothCopies set)).bank b).events = (s.bank b).events + 1 ∧ ((s.bank b).events + 1 = 16 → ((s.cacheError b (.tagBothCopies set)).bank b).out = true)) ∧
  (∀ (s : State) b la, bankOf la = b → (s.bank b).holds la = true → (s.bank b).isDirty la = true → ((s.cacheError b (.twoSymbols la)).seg (la / 65536)).restored = false ∧
    (s.cacheError b (.twoSymbols la)).mc.uncorrectable = satAdd 32 s.mc.uncorrectable 1)

/-- An owner's descriptor joins the tail of its channel's ring while it holds fewer than 8. The burst granted adds its bytes to DONE; the last one completes the descriptor with result 0, a poisoned DRAM read
with POISON; a paced one fills its FIFO and holds the channel at HIGH; draining to LOW or below releases it. PAUSE is set and released by each holder for itself, the fault sequencer never releases, and
a channel is paused while any holds it. An abort drops the ring, with ABORTED and DONE as it stood for the one in progress, clears ERROR and the owner's PAUSE only, and waits for a burst
already granted. The arbiter grants a ready channel whose descriptor is valid, of the highest priority but at each STARVE_PERIOD-th grant; while a burst is granted it grants none. Channels
60 to 63 take nothing. -/
def Obligations.DmaRunsItsDescriptors : Prop :=
  (∀ s ch d, ch < 60 → (s.dmaCh ch).ring.length < 8 → (s.dmaCh ch).aborting = false → ∃ u : State, exec (.dmaDescAppend ch d) s = .next u.dmaGrant.settleFront ∧
    u.dmaCh ch = { s.dmaCh ch with ring := (s.dmaCh ch).ring ++ [d], done := if (s.dmaCh ch).ring = [] then 0 else (s.dmaCh ch).done } ∧ (∀ c, c ≠ ch → u.dmaCh c = s.dmaCh c) ∧
    { u with dma := s.dma } = s ∧ { u.dma with chans := s.dma.chans } = s.dma) ∧
  (∀ s ch d, 60 ≤ ch ∨ 8 ≤ (s.dmaCh ch).ring.length ∨ (s.dmaCh ch).aborting = true → exec (.dmaDescAppend ch d) s = .next s) ∧
  (∀ s p, s.dma.granted = none → exec (.dmaBurstDone p) s = .next s) ∧
  (∀ s p c d ds bytes, s.dma.granted = some c → (s.dmaCh c).ring = d :: ds → (s.dmaCh c).aborting = false → bytes = min 512 (descLength d - (s.dmaCh c).done) → ∃ u : State,
    exec (.dmaBurstDone p) s = .next u.dmaGrant.settleFront ∧ u.dma.granted = none ∧ (u.dmaCh c).bursts = satAdd 32 (s.dmaCh c).bursts 1 ∧ (∀ j, j ≠ c → u.dmaCh j = s.dmaCh j) ∧
    (p = true → descSrcSpace d = 0 → (u.dmaCh c).ring = ds ∧ (u.dmaCh c).result = 2 ∧ (u.dmaCh c).done = 0) ∧
    (p = false ∨ descSrcSpace d ≠ 0 → (s.dmaCh c).done + bytes < descLength d → (u.dmaCh c).ring = d :: ds ∧ (u.dmaCh c).done = (s.dmaCh c).done + 512) ∧
    (p = false ∨ descSrcSpace d ≠ 0 → descLength d ≤ (s.dmaCh c).done + bytes → (u.dmaCh c).ring = ds ∧ (u.dmaCh c).result = 0 ∧ (u.dmaCh c).done = 0 ∧
      (u.dmaCh c).head = ((s.dmaCh c).head + 1) % 8 ∧ (u.dmaCh c).notified = (s.dmaCh c).notified + bit (descNotify d)) ∧
    (descPaced d = true → Table.getD u.dma.fifo (descDst d) 0 = Table.getD s.dma.fifo (descDst d) 0 + 1 ∧
      (descHigh d ≤ Table.getD s.dma.fifo (descDst d) 0 + 1 → (u.dmaCh c).held = some (descDst d, descLow d)) ∧ (Table.getD s.dma.fifo (descDst d) 0 + 1 < descHigh d → (u.dmaCh c).held = (s.dmaCh c).held)) ∧
    (descPaced d = false → u.dma.fifo = s.dma.fifo ∧ (u.dmaCh c).held = (s.dmaCh c).held) ∧ SameFrame { s with dma := u.dma } u ∧ SameData s u) ∧
  (∀ s p c d ds, s.dma.granted = some c → (s.dmaCh c).ring = d :: ds → (s.dmaCh c).aborting = true → ∃ u : State, exec (.dmaBurstDone p) s = .next u.dmaGrant.settleFront ∧
    (u.dmaCh c).ring = [] ∧ (u.dmaCh c).aborting = false ∧ (u.dmaCh c).error = false ∧ (u.dmaCh c).pauseOwner = false ∧ (u.dmaCh c).pauseFault = (s.dmaCh c).pauseFault) ∧
  (∀ s f n, n ≤ Table.getD s.dma.fifo f 0 → ∃ u : State, exec (.dmaFifoDrained f n) s = .next u.dmaGrant.settleFront ∧ Table.getD u.dma.fifo f 0 = n ∧ (∀ g, g ≠ f → Table.find u.dma.fifo g = Table.find s.dma.fifo g) ∧
    (∀ c x, Table.find s.dma.chans c = some x → Table.find u.dma.chans c = some (match x.held with | some (g, low) => if g = f ∧ n ≤ low then { x with held := none } else x | none => x)) ∧ { u with dma := s.dma } = s) ∧
  (∀ s f n, Table.getD s.dma.fifo f 0 < n → exec (.dmaFifoDrained f n) s = .next s) ∧
  (∀ x : DmaCh, x.paused = (x.pauseOwner || x.pauseFault || x.pauseFreq)) ∧
  (∀ s ch h, ch < 60 ∨ (h ≠ .owner ∧ ch < 64) → ∃ t, exec (.dmaPause ch h) s = .next t ∧ (t.dmaCh ch).paused = true ∧ (t.dmaCh ch).ring = (s.dmaCh ch).ring ∧ (t.dmaCh ch).done = (s.dmaCh ch).done ∧
    (t.dmaCh ch).pauseOwner = ((s.dmaCh ch).pauseOwner || decide (h = .owner)) ∧ (t.dmaCh ch).pauseFault = ((s.dmaCh ch).pauseFault || decide (h = .faultSequencer)) ∧
    (t.dmaCh ch).pauseFreq = ((s.dmaCh ch).pauseFreq || decide (h = .freqChange)) ∧ t.dma.granted = s.dma.granted ∧ (∀ c, c ≠ ch → t.dmaCh c = s.dmaCh c) ∧ { t with dma := s.dma } = s) ∧
  (∀ s ch h, 64 ≤ ch ∨ (h = .owner ∧ 60 ≤ ch) → exec (.dmaPause ch h) s = .next s) ∧
  (∀ s ch, ch < 64 → (∃ u : State, exec (.dmaRelease ch .owner) s = .next u.dmaGrant.settleFront ∧ u.dmaCh ch = { s.dmaCh ch with pauseOwner := false } ∧ ∀ c, c ≠ ch → u.dmaCh c = s.dmaCh c) ∧
    exec (.dmaRelease ch .faultSequencer) s = .next s ∧
    ∃ u : State, exec (.dmaRelease ch .freqChange) s = .next u.dmaGrant.settleFront ∧ u.dmaCh ch = { s.dmaCh ch with pauseFreq := false } ∧ (∀ c, c ≠ ch → u.dmaCh c = s.dmaCh c) ∧
      ((∀ c x, (c, x) ∈ u.dma.chans → x.pauseFreq = false) → u.dram.changing = false)) ∧
  (∀ s ch h, 64 ≤ ch → exec (.dmaRelease ch h) s = .next s) ∧ (∀ s ch, 60 ≤ ch → exec (.dmaAbort ch) s = .next s) ∧
  (∀ s ch, ch < 60 → s.dma.granted = some ch → ∃ t, exec (.dmaAbort ch) s = .next t ∧ t.dmaCh ch = { s.dmaCh ch with aborting := true } ∧ t.dma.granted = some ch ∧ ∀ c, c ≠ ch → t.dmaCh c = s.dmaCh c) ∧
  (∀ s ch, ch < 60 → s.dma.granted ≠ some ch → ∃ u : State, exec (.dmaAbort ch) s = .next u.dmaGrant.settleFront ∧ (u.dmaCh ch).ring = [] ∧ (u.dmaCh ch).done = (s.dmaCh ch).done ∧
    (u.dmaCh ch).result = (if (s.dmaCh ch).ring = [] then (s.dmaCh ch).result else 1) ∧ (u.dmaCh ch).error = false ∧ (u.dmaCh ch).pauseOwner = false ∧ (u.dmaCh ch).held = none ∧
    (u.dmaCh ch).pauseFault = (s.dmaCh ch).pauseFault ∧ (u.dmaCh ch).pauseFreq = (s.dmaCh ch).pauseFreq ∧ ∀ c, c ≠ ch → u.dmaCh c = s.dmaCh c) ∧
  (∀ s : State, (s.dma.granted.isSome → s.dmaGrant = s) ∧ (s.dma.granted = none → s.dmaGrant.dma.granted = none → ∀ c, s.dmaGrant.dma.ready c = false) ∧
    ∀ c, s.dma.granted = none → s.dmaGrant.dma.granted = some c → s.dmaGrant.dma.ready c = true ∧ c < 60 ∧ (∃ d ds, (s.dmaGrant.dmaCh c).ring = d :: ds ∧ descValid d = true) ∧
      (s.dma.grants + 1 ≠ max 1 s.img.starvePeriod → ∀ j, s.dmaGrant.dma.ready j = true → s.img.dmaPrio j ≤ s.img.dmaPrio c) ∧
      (s.dma.grants + 1 = max 1 s.img.starvePeriod → ∀ j, s.dmaGrant.dma.ready j = true → s.img.dmaPrio c ≤ s.img.dmaPrio j))

/-- An Identify at hand with a namespace CNS completes at once. CNS 00h with the broadcast NSID gives what is common to all namespaces; CNS 00h, 03h, 05h and
08h of a namespace attached to the controller, and CNS 11h of one that exists, succeed with 4,096 bytes of its structure; the lists of CNS 02h and 10h succeed
with the NSIDs above the one named. Another NSID ends with 0:0Bh, and CNS 05h with a CSI other than 0 with 0:02h. Nothing but the command's row, its completion
queue, the Error Information log, counters and records changes. The NSX stands in bits [9:0] of bytes 3,840 and 3,841. Bytes that the spec gives no value are
free (log 9); the layouts are NVMe's (log 7). -/
def Obligations.IdentifyNamespaceCommandsAnswer : Prop :=
  ∀ s tag c q x cq cid, AtHand s tag c q x cq cid → c.waits true 0x06 = true →
    (idCns c = 0x00 →
      (sqeNsid c.entry = broadcast → ∃ t, exec (.identifyNamespace tag) s = .next t ∧
        Served s t tag q x cq cid ok (pageOver (Config.identifyByte 0x00 broadcast) commonSpacePage 0 4096)) ∧
      (sqeNsid c.entry ≠ broadcast → ∀ n, s.attachedSpace c.ctrl (sqeNsid c.entry) = some n → ∃ t, exec (.identifyNamespace tag) s = .next t ∧
        Served s t tag q x cq cid ok (pageOver (Config.identifyByte 0x00 (sqeNsid c.entry)) (s.spacePage n) 0 4096)) ∧
      (sqeNsid c.entry ≠ broadcast → s.attachedSpace c.ctrl (sqeNsid c.entry) = none → ∃ t, exec (.identifyNamespace tag) s = .next t ∧
        Served s t tag q x cq cid (stat 0 0x0B) c.out)) ∧
    (idCns c = 0x02 →
      (sqeNsid c.entry < 0xFFFFFFFE → ∃ t, exec (.identifyActiveNsList tag) s = .next t ∧ Served s t tag q x cq cid ok
        (pageSlice [(0, nsidList ((s.spaces.filter fun (_, n) => n.attached.contains c.ctrl).map (·.1)) (sqeNsid c.entry))] 0 4096)) ∧
      (0xFFFFFFFE ≤ sqeNsid c.entry → ∃ t, exec (.identifyActiveNsList tag) s = .next t ∧ Served s t tag q x cq cid (stat 0 0x0B) c.out)) ∧
    (idCns c = 0x10 →
      (sqeNsid c.entry < 0xFFFFFFFE → ∃ t, exec (.identifyAllocatedNsList tag) s = .next t ∧ Served s t tag q x cq cid ok
        (pageSlice [(0, nsidList (s.spaces.map (·.1)) (sqeNsid c.entry))] 0 4096)) ∧
      (0xFFFFFFFE ≤ sqeNsid c.entry → ∃ t, exec (.identifyAllocatedNsList tag) s = .next t ∧ Served s t tag q x cq cid (stat 0 0x0B) c.out)) ∧
    (idCns c = 0x11 →
      (∀ n, Table.find s.spaces (sqeNsid c.entry) = some n → ∃ t, exec (.identifyAllocatedNamespace tag) s = .next t ∧
        Served s t tag q x cq cid ok (pageOver (Config.identifyByte 0x00 (sqeNsid c.entry)) (s.spacePage n) 0 4096)) ∧
      (Table.find s.spaces (sqeNsid c.entry) = none → ∃ t, exec (.identifyAllocatedNamespace tag) s = .next t ∧
        Served s t tag q x cq cid (stat 0 0x0B) c.out)) ∧
    (idCns c = 0x03 →
      ((s.attachedSpace c.ctrl (sqeNsid c.entry)).isSome → ∃ t, exec (.identifyNsIdDescriptors tag) s = .next t ∧
        Served s t tag q x cq cid ok (pageOver (Config.identifyByte 0x03 (sqeNsid c.entry)) [part 0 5 0x0000000104] 0 4096)) ∧
      (s.attachedSpace c.ctrl (sqeNsid c.entry) = none → ∃ t, exec (.identifyNsIdDescriptors tag) s = .next t ∧
        Served s t tag q x cq cid (stat 0 0x0B) c.out)) ∧
    (idCns c = 0x05 →
      (idCsi c ≠ 0 → ∃ t, exec (.identifyCssNamespace tag) s = .next t ∧ Served s t tag q x cq cid invalidField c.out) ∧
      (idCsi c = 0 → (s.attachedSpace c.ctrl (sqeNsid c.entry)).isSome → ∃ t, exec (.identifyCssNamespace tag) s = .next t ∧
        Served s t tag q x cq cid ok (pageOver (Config.identifyByte 0x05 (sqeNsid c.entry))
          [part 12 4 0, part 16 4 0, part 20 4 0, part 24 4 0x100] 0 4096)) ∧
      (idCsi c = 0 → s.attachedSpace c.ctrl (sqeNsid c.entry) = none → ∃ t, exec (.identifyCssNamespace tag) s = .next t ∧
        Served s t tag q x cq cid (stat 0 0x0B) c.out)) ∧
    (idCns c = 0x08 →
      ((s.attachedSpace c.ctrl (sqeNsid c.entry)).isSome → ∃ t, exec (.identifyCssIndependentNs tag) s = .next t ∧
        Served s t tag q x cq cid ok (pageOver (Config.identifyByte 0x08 (sqeNsid c.entry)) [] 0 4096)) ∧
      (s.attachedSpace c.ctrl (sqeNsid c.entry) = none → ∃ t, exec (.identifyCssIndependentNs tag) s = .next t ∧
        Served s t tag q x cq cid (stat 0 0x0B) c.out)) ∧
    (∀ n, n.nsx < 1024 → ∀ f : Nat → Byte, (pageOver f (s.spacePage n) 0 4096)[3840]? = some (BitVec.ofNat 8 n.nsx) ∧
      (pageOver f (s.spacePage n) 0 4096)[3841]? = some (BitVec.ofNat 8 (n.nsx / 256)))

/-- An Identify at hand with a controller CNS completes at once with 4,096 bytes: CNS 01h the controller's structure, CNS 06h (CSI 0; another CSI ends with
0:02h), CNS 12h the controllers a namespace is attached to (0:0Bh for an NSID that names none), CNS 13h every controller at or above CNTID, CNS 14h, CNS 15h and
CNS 1Ch. A CNS that is not listed ends with 0:02h. In halter mode Identify Controller reports NN = 0. Nothing but the command's row, its completion queue, the
Error Information log, counters and records changes. Bytes that the spec gives no value are free (log 9); the layouts are NVMe's (log 7). -/
def Obligations.IdentifyControllerCommandsAnswer : Prop :=
  ∀ s tag c q x cq cid, AtHand s tag c q x cq cid → c.waits true 0x06 = true →
    (idCns c = 0x01 → ∃ t, exec (.identifyController tag) s = .next t ∧
      Served s t tag q x cq cid ok (pageOver (Config.identifyByte 0x01 c.ctrl) (s.controllerPage c.ctrl) 0 4096)) ∧
    (s.ts.mode = 2 → part 516 4 0 ∈ s.controllerPage c.ctrl) ∧
    (idCns c = 0x06 →
      (idCsi c ≠ 0 → ∃ t, exec (.identifyCssController tag) s = .next t ∧ Served s t tag q x cq cid invalidField c.out) ∧
      (idCsi c = 0 → ∃ t, exec (.identifyCssController tag) s = .next t ∧
        Served s t tag q x cq cid ok (pageOver (Config.identifyByte 0x06 c.ctrl) [] 0 4096))) ∧
    (idCns c = 0x12 →
      (∀ n, Table.find s.spaces (sqeNsid c.entry) = some n → ∃ t, exec (.identifyAttachedCtrlList tag) s = .next t ∧
        Served s t tag q x cq cid ok (pageSlice [(0, ctrlList (s.controllers.filter n.attached.contains) (idCntid c))] 0 4096)) ∧
      (Table.find s.spaces (sqeNsid c.entry) = none → ∃ t, exec (.identifyAttachedCtrlList tag) s = .next t ∧
        Served s t tag q x cq cid (stat 0 0x0B) c.out)) ∧
    (idCns c = 0x13 → ∃ t, exec (.identifyControllerList tag) s = .next t ∧
      Served s t tag q x cq cid ok (pageSlice [(0, ctrlList s.controllers (idCntid c))] 0 4096)) ∧
    (idCns c = 0x14 → ∃ t, exec (.identifyPrimaryCtrlCaps tag) s = .next t ∧
      Served s t tag q x cq cid ok (pageOver (Config.identifyByte 0x14 c.ctrl) [part 0 2 (c.ctrl / 64 * 64)] 0 4096)) ∧
    (idCns c = 0x15 → ∃ t, exec (.identifySecondaryCtrlList tag) s = .next t ∧
      Served s t tag q x cq cid ok (pageOver (Config.identifyByte 0x15 c.ctrl) (secondaryPage (c.ctrl / 64 * 64) (idCntid c)) 0 4096)) ∧
    (idCns c = 0x1C → ∃ t, exec (.identifyIoCmdSet tag) s = .next t ∧ Served s t tag q x cq cid ok (pageSlice [(0, toBytes 8 1)] 0 4096)) ∧
    (idCns c ∉ [0x00, 0x01, 0x02, 0x03, 0x05, 0x06, 0x08, 0x10, 0x11, 0x12, 0x13, 0x14, 0x15, 0x1C] →
      ∃ t, exec (.identifyUnsupportedCns tag) s = .next t ∧ Served s t tag q x cq cid invalidField c.out)

/-- A Get Log Page at hand for a standard page (00h Supported Log Pages, 01h Error Information, 02h SMART, 03h Firmware Slot, 05h Commands Supported and Effects,
06h Device Self-test, 09h Endurance Group, 0Eh LBA Status, 20h to 23h FDP, 81h Sanitize Status) completes at once: at an offset below the page's length with the
bytes asked for, at or beyond it with 0:02h, and an identifier that is not served with 1:09h. With RAE 0 a success clears the page's events of that controller
and no others. Nothing else changes but the command's row, its completion queue, the Error Information log, counters and records. Bytes that the spec gives no
value are free (log 9); the layouts of standard pages are NVMe's (log 7). SMART byte 0 holds the warnings of spare, temperature, degradation, read-only and
backup in bits 0 to 4. -/
def Obligations.StandardLogPagesAreReturned : Prop :=
  ∀ s tag c q x cq cid, AtHand s tag c q x cq cid → c.waits true 0x02 = true →
    (logLid c = 0x00 → ∃ t, exec (.getLogSupportedPages tag) s = .next t ∧ LogAnswered s t tag c q x cq cid 1024 (fun i => Config.logByte 0x00 i s.free)
      (supportedDwords 0 [0x00, 0x01, 0x02, 0x03, 0x05, 0x06, 0x09, 0x0E, 0x20, 0x21, 0x22, 0x23, 0x81, 0xC0, 0xC1, 0xC2, 0xC3, 0xC4, 0xC5, 0xC6]
        fun i => Config.logByte 0x00 i s.free)) ∧
    (logLid c = 0x01 → ∃ t, exec (.getLogErrorInfo tag) s = .next t ∧ LogAnswered s t tag c q x cq cid 4096 (fun _ => 0#8) (s.errorPage c.ctrl)) ∧
    (logLid c = 0x02 → ∃ t, exec (.getLogSmart tag) s = .next t ∧
      LogAnswered s t tag c q x cq cid 512 (fun i => Config.logByte 0x02 i s.free) (s.smartPage c.ctrl)) ∧
    (part 0 1 (bit s.blk.spareLow + 2 * bit s.therm.tempWarn + 4 * bit s.fault.degraded + 8 * bit (s.blk.readOnly || s.girth.noSets) + 16 * bit s.backupWarning)
      ∈ s.smartPage c.ctrl ∧ part 3 1 s.blk.avail ∈ s.smartPage c.ctrl ∧ part 5 1 s.percentUsed ∈ s.smartPage c.ctrl) ∧
    (logLid c = 0x03 → ∃ t, exec (.getLogFwSlot tag) s = .next t ∧ LogAnswered s t tag c q x cq cid 512 (fun _ => 0#8) [part 0 1 1, (8, s.img.fr)]) ∧
    (logLid c = 0x05 → ∃ t, exec (.getLogCmdEffects tag) s = .next t ∧
      LogAnswered s t tag c q x cq cid 4096 (fun i => Config.logByte 0x05 i s.free) (effectsPage fun i => Config.logByte 0x05 i s.free)) ∧
    (logLid c = 0x06 → ∃ t, exec (.getLogSelfTest tag) s = .next t ∧
      LogAnswered s t tag c q x cq cid 564 (fun i => Config.logByte 0x06 i s.free) s.selfTestPage) ∧
    (logLid c = 0x09 → ∃ t, exec (.getLogEndurance tag) s = .next t ∧
      LogAnswered s t tag c q x cq cid 512 (fun i => Config.logByte 0x09 i s.free) [part 5 1 s.percentUsed]) ∧
    (logLid c = 0x0E → ∃ t, exec (.getLogLbaStatus tag) s = .next t ∧
      LogAnswered s t tag c q x cq cid (16 + (s.lbaElements.flatMap id).length) (fun i => Config.logByte 0x0E i s.free) s.lbaStatusPage) ∧
    (logLid c = 0x20 → ∃ t, exec (.getLogFdpConfigs tag) s = .next t ∧
      LogAnswered s t tag c q x cq cid 96 (fun i => Config.logByte 0x20 i s.free) s.fdpConfigsPage) ∧
    (logLid c = 0x21 → ∃ t, exec (.getLogRuhUsage tag) s = .next t ∧
      LogAnswered s t tag c q x cq cid 40 (fun i => Config.logByte 0x21 i s.free) s.ruhUsagePage) ∧
    (logLid c = 0x22 → ∃ t, exec (.getLogFdpStats tag) s = .next t ∧ LogAnswered s t tag c q x cq cid 64 (fun i => Config.logByte 0x22 i s.free)
      [part 0 16 (s.fe.hostGran * 512), part 16 16 (s.fe.mediaGran * 512)]) ∧
    (logLid c = 0x23 → ∃ t, exec (.getLogFdpEvents tag) s = .next t ∧ LogAnswered s t tag c q x cq cid (64 + 64 * (s.fdpEventsFor c).length)
      (fun i => Config.logByte 0x23 i s.free) (fdpEventsPage (s.fdpEventsFor c))) ∧
    (logLid c = 0x81 → ∃ t, exec (.getLogSanitizeStatus tag) s = .next t ∧
      LogAnswered s t tag c q x cq cid 512 (fun i => Config.logByte 0x81 i s.free) s.sanitizePage) ∧
    (logLid c ∉ [0x00, 0x01, 0x02, 0x03, 0x05, 0x06, 0x09, 0x0E, 0x20, 0x21, 0x22, 0x23, 0x81, 0xC0, 0xC1, 0xC2, 0xC3, 0xC4, 0xC5, 0xC6] →
      ∃ t, exec (.getLogUnsupportedPage tag) s = .next t ∧ Served s t tag q x cq cid (stat 1 0x09) c.out) ∧
    (logRae c = true → s.logRead c = s) ∧
    (logRae c = false → ∀ m, m ∈ (s.logRead c).fe.masked ↔ m ∈ s.fe.masked ∧ ¬ (m.1 = c.ctrl ∧ m.2.2 = logLid c)) ∧
    (logRae c = false → ∀ e, e ∈ (s.logRead c).fe.events ↔ e ∈ s.fe.events ∧ ¬ (e.1 = c.ctrl ∧ e.2.2.page = logLid c))

/-- A Get Log Page at hand for a vendor page completes at once with the bytes asked for (at or beyond the page's end with 0:02h): C0h wheel and plan, C1h girth
health, C2h event counters, C4h identity, C5h secure-discard progress, C6h rein health. C2h with LSP bit 0 answers the counters as they stood and then clears the
value and SAT of every enabled one. C3h with LSP 0 or 1 captures SB_STATUS and the ring, with LSP 2 the persisted records, and its transfer runs until
SADDLEBAG_TRANSFER_END; LSP 3 ends with 0:02h. While the transfer runs new records are held. At its end the transfer is gone, RELEASE_POS rises to the captured
WRITE_POS when LSP was 1 and never falls, and with no other transfer of a started ring the holding ends; the command then succeeds. -/
def Obligations.VendorLogPagesAreReturned : Prop :=
  (∀ s tag c q x cq cid, AtHand s tag c q x cq cid → c.waits true 0x02 = true →
    (logLid c = 0xC0 → ∃ t, exec (.getLogWheelPlan tag) s = .next t ∧
      LogAnswered s t tag c q x cq cid 128 (fun _ => 0#8) [part 0 64 s.wheel.status, part 64 64 s.plan.status]) ∧
    (logLid c = 0xC1 → ∃ t, exec (.getLogGirthHealth tag) s = .next t ∧ LogAnswered s t tag c q x cq cid 16896 (fun _ => 0#8) s.girthHealthPage) ∧
    (logLid c = 0xC2 → logLsp c % 2 = 0 → ∃ t, exec (.getLogEventCounters tag) s = .next t ∧
      LogAnswered s t tag c q x cq cid 2240 (fun _ => 0#8) s.countersPage ∧ t.obs.lastClearWt = s.obs.lastClearWt) ∧
    (logLid c = 0xC2 → logLsp c % 2 = 1 → logOff c < 2240 → ∃ t, exec (.getLogEventCountersClear tag) s = .next t ∧
      LogAnswered s t tag c q x cq cid 2240 (fun _ => 0#8) s.countersPage ∧ t.obs.lastClearWt = s.wheel.wt ∧
      t.obs.counters = s.obs.counters.map (fun k => if k.enable then { k with value := 0, sat := false } else k)) ∧
    (logLid c = 0xC2 → logLsp c % 2 = 1 → 2240 ≤ logOff c → ∃ t, exec (.getLogEventCountersClear tag) s = .next t ∧
      Served s t tag q x cq cid invalidField c.out ∧ t.obs.counters = s.obs.counters) ∧
    (logLid c = 0xC4 → ∃ t, exec (.getLogIdentity tag) s = .next t ∧ LogAnswered s t tag c q x cq cid 256 (fun _ => 0#8) s.identityPage) ∧
    (logLid c = 0xC5 → ∃ t, exec (.getLogSecureDiscard tag) s = .next t ∧ LogAnswered s t tag c q x cq cid 1024 (fun _ => 0#8) s.discardPage) ∧
    (logLid c = 0xC6 → ∃ t, exec (.getLogReinHealth tag) s = .next t ∧ LogAnswered s t tag c q x cq cid 1024 (fun _ => 0#8)
      [part 0 512 (s.rein.a.health8 s.rein.twin.merged), part 512 512 (s.rein.b.health8 false)]) ∧
    (logLid c = 0xC3 → logLsp c % 4 = 0 → logOff c < 8388672 → ∃ t, exec (.getLogSaddlebagRing tag) s = .next t ∧ SameFrame s t ∧ SameData s t ∧
      t.obs = { s.obs with transfers := s.obs.transfers ++ [⟨tag, s.obs.writePos, false⟩] } ∧
      t.cmd tag = some { c with started := true, out := logSlice c 8388672 (fun _ => 0#8) s.ringPage } ∧ t.fe.cqs = s.fe.cqs) ∧
    (logLid c = 0xC3 → logLsp c % 4 = 1 → logOff c < 8388672 → ∃ t, exec (.getLogSaddlebagRelease tag) s = .next t ∧ SameFrame s t ∧ SameData s t ∧
      t.obs = { s.obs with transfers := s.obs.transfers ++ [⟨tag, s.obs.writePos, true⟩] } ∧
      t.cmd tag = some { c with started := true, out := logSlice c 8388672 (fun _ => 0#8) s.ringPage } ∧ t.fe.cqs = s.fe.cqs) ∧
    (logLid c = 0xC3 → logLsp c % 4 = 2 → logOff c < 64 + s.persistedBytes.length → ∃ t, exec (.getLogSaddlebagPersisted tag) s = .next t ∧
      SameFrame s t ∧ SameData s t ∧ t.obs = { s.obs with transfers := s.obs.transfers ++ [⟨tag, s.obs.writePos, false⟩] } ∧
      t.cmd tag = some { c with started := true, out := logSlice c (64 + s.persistedBytes.length) (fun _ => 0#8) s.persistedPage } ∧ t.fe.cqs = s.fe.cqs) ∧
    (logLid c = 0xC3 → logLsp c % 4 = 3 → ∃ t, exec (.getLogSaddlebagPersisted tag) s = .next t ∧ Served s t tag q x cq cid invalidField c.out)) ∧
  (∀ s tag u, s.obs.transfers.find? (fun k => k.tag = tag) = some u → ∃ t, exec (.saddlebagTransferEnd tag) s = .next t ∧
    t.obs.transfers = s.obs.transfers.filter (fun k => k.tag ≠ tag) ∧
    t.obs.releasePos = (if u.release then max s.obs.releasePos u.captured else s.obs.releasePos) ∧
    (s.obs.ringOn = true → t.obs.transfers = [] → t.obs.holding = []) ∧ SameFrame s t ∧ SameData s t)

/-- A Set Features at hand for a standard feature takes the setting of CDW11 or CDW12 and completes, and nothing else changes: 01h, 08h, 09h (per vector) and 0Bh
(bits 31 and 9 to 0) per controller; 02h with PS 0 to 3, in force at once, or kept for the end of PS 4 entry, or for the return; with PS 4, entry begins; above 4
0:02h; 07h the queues asked for, limited to 256 and to the pool; 1Dh with configuration 0 alone; 1Eh each event type of the handle named. 04h sets the threshold
of each sensor that TMPSEL names and answers at once when the warning bit does not change. PS4_ENTRY_END and PS4_EXIT_DONE move the state on as R279 says: entry commands L1 on each rein in L0 whose host permits it where PS_TABLE does, the return ends it.
Field places are NVMe's (log 7). -/
def Obligations.SetFeaturesOfStandardIdentifiers : Prop :=
  (∀ s tag c q x cq cid, AtHand s tag c q x cq cid → c.waits true 0x09 = true →
    (featId c = 0x01 → ∃ t, exec (.setFeaturesArbitration tag) s = .next t ∧ Served (s.setFeat 0x01 c.ctrl 0 (dw c.entry 11)) t tag q x cq cid ok c.out) ∧
    (featId c = 0x08 → ∃ t, exec (.setFeaturesIntCoalescing tag) s = .next t ∧
      Served (s.setFeat 0x08 c.ctrl 0 (dw c.entry 11 % 65536)) t tag q x cq cid ok c.out) ∧
    (featId c = 0x09 → ∃ t, exec (.setFeaturesIntVectorCfg tag) s = .next t ∧
      Served (s.setFeat 0x09 c.ctrl (dw c.entry 11 % 65536) (dw c.entry 11 % 131072)) t tag q x cq cid ok c.out) ∧
    (featId c = 0x0B → ∃ t, exec (.setFeaturesAsyncEventCfg tag) s = .next t ∧
      Served (s.setFeat 0x0B c.ctrl 0 (aecMask (dw c.entry 11))) t tag q x cq cid ok c.out) ∧
    (featId c = 0x02 → psOf11 c < 4 → ∃ t, exec (.setFeaturesPsOperational tag) s = .next t ∧ ∃ ps last next,
      Served { s with fe := { s.fe with ps := ps, lastPs := last, ps4Next := next } } t tag q x cq cid ok c.out ∧
      (s.fe.ps4 = 0 → ps = psOf11 c ∧ last = psOf11 c ∧ next = s.fe.ps4Next) ∧
      (s.fe.ps4 = 1 → ps = s.fe.ps ∧ last = s.fe.lastPs ∧ next = some (psOf11 c)) ∧
      (2 ≤ s.fe.ps4 → ps = s.fe.ps ∧ last = psOf11 c ∧ next = none)) ∧
    (featId c = 0x02 → 4 < psOf11 c → ∃ t, exec (.setFeaturesPsOperational tag) s = .next t ∧ Served s t tag q x cq cid invalidField c.out) ∧
    (featId c = 0x02 → psOf11 c = 4 → s.fe.ps4 = 0 → ∃ t, exec (.setFeaturesPs4 tag) s = .next t ∧
      Served { s with fe := { s.fe with lastPs := if s.fe.ps = 4 then s.fe.lastPs else s.fe.ps, ps := 4, ps4 := 1, ps4Exit := false, ps4Next := none } } t
        tag q x cq cid ok c.out) ∧
    (featId c = 0x02 → psOf11 c = 4 → s.fe.ps4 ≠ 0 → ∃ t, exec (.setFeaturesPs4 tag) s = .next t ∧
      Served { s with fe := { s.fe with ps4Next := some 4 } } t tag q x cq cid ok c.out) ∧
    (featId c = 0x07 → ∃ t sq gc, exec (.setFeaturesNumQueues tag) s = .next t ∧
      sq = min (dw c.entry 11 % 65536 + 1) (min 256 (s.freeSqs + (s.ctrl c.ctrl).grantSq)) ∧
      gc = min (dw c.entry 11 / 65536 + 1) (min 256 (s.freeCqs + (s.ctrl c.ctrl).grantCq)) ∧
      Served (s.modCtrl c.ctrl fun k => { k with grantSq := sq, grantCq := gc }) t tag q x cq cid (okDw0 ((sq - 1) + 65536 * (gc - 1))) c.out) ∧
    (featId c = 0x1D → ∃ t, exec (.setFeaturesFdp tag) s = .next t ∧
      if bitField (dw c.entry 12) 8 8 ≠ 0 then Served s t tag q x cq cid invalidField c.out
      else Served { s with map := { s.map with fdp := decide (dw c.entry 12 % 2 = 1) } } t tag q x cq cid ok c.out) ∧
    (featId c = 0x1E → ∀ types : List Byte, (∃ h, s.fdpHandle c = some h ∧ bitField (dw c.entry 11) 16 8 ≤ types.length ∧
        ∀ b ∈ types.take (bitField (dw c.entry 11) 16 8), b.toNat ∈ [0x00, 0x02, 0x03, 0x80, 0x81]) →
      ∃ t h u, exec (.setFeaturesFdpEvents tag types) s = .next t ∧ s.fdpHandle c = some h ∧ Served u t tag q x cq cid ok c.out ∧
        { u with fe := { u.fe with features := s.fe.features } } = s ∧
        ∀ n, u.feat 0x1E 0 (256 * h + n) = if (BitVec.ofNat 8 n) ∈ types.take (bitField (dw c.entry 11) 16 8) ∧ n < 256 then dw c.entry 12 % 2
          else s.feat 0x1E 0 (256 * h + n)) ∧
    (featId c = 0x1E → ∀ types : List Byte, s.fdpHandle c = none → ∃ t, exec (.setFeaturesFdpEvents tag types) s = .next t ∧
      Served s t tag q x cq cid invalidField c.out) ∧
    (featId c = 0x04 → (8 < tmpSel c ∧ tmpSel c ≠ 15) ∨ 1 < thSel c → ∃ t, exec (.setFeaturesTempThreshold tag) s = .next t ∧
      Served s t tag q x cq cid invalidField c.out) ∧
    (featId c = 0x04 → tmpSel c ≤ 8 → thSel c = 0 → ∃ t u, exec (.setFeaturesTempThreshold tag) s = .next t ∧
      u = { s with therm := { s.therm with overTemp := Table.set s.therm.overTemp (tmpSel c) (dw c.entry 11 % 65536) } } ∧
      t.therm = { u.therm with tempWarn := u.tempWarning } ∧ (u.tempWarning = s.therm.tempWarn → Served u t tag q x cq cid ok c.out)) ∧
    (featId c = 0x04 → tmpSel c ≤ 8 → thSel c = 1 → ∃ t u, exec (.setFeaturesTempThreshold tag) s = .next t ∧
      u = { s with therm := { s.therm with underTemp := Table.set s.therm.underTemp (tmpSel c) (dw c.entry 11 % 65536) } } ∧
      t.therm = { u.therm with tempWarn := u.tempWarning } ∧ (u.tempWarning = s.therm.tempWarn → Served u t tag q x cq cid ok c.out))) ∧
  (∀ s, s.fe.ps4 = 1 → s.plan.ps = 4 → s.plan.pendingNo = none → ∃ t, exec .ps4EntryEnd s = .next t ∧
    t = { s with rein := t.rein, fe := (match s.fe.ps4Next with
      | some p => if p = 4 then { s.fe with ps4 := 2 } else { s.fe with ps4 := 2, ps := p, lastPs := p, ps4Next := none }
      | none => { s.fe with ps4 := 2 }) } ∧ { t.rein with a := s.rein.a, b := s.rein.b } = s.rein ∧
    ∀ r, t.port r = if s.img.psL1 4 = true ∧ (s.port r).link = 2 ∧ (s.port r).aspmL1 = true then { s.port r with link := 3 } else s.port r) ∧
  (∀ s, s.fe.ps4 = 2 → s.fe.ps4Exit = true → ∃ t : State, exec .ps4ExitDone s = .next t.leasesDue ∧ SameFrame { s with rein := t.rein } t ∧ SameData s t ∧ t.fe.ps4Exit = false ∧
    (∀ r, t.port r = { s.port r with link := if (s.port r).link = 3 then 2 else (s.port r).link }) ∧
    (s.fe.ps4Next ≠ some 4 → t.fe.ps4 = 0 ∧ t.fe.ps = s.fe.lastPs ∧ t.fe.ps4Next = none) ∧
    (s.fe.ps4Next = some 4 → t.fe.ps4 = 1 ∧ t.fe.ps = 4 ∧ t.fe.ps4Next = none))

/-- A Set Features at hand for a vendor feature whose 32-byte buffer holds a field outside its range ends with 0:02h and changes nothing. Otherwise the setting is
taken: C0h keeps SOURCE, PACE_MODE, TOOTH_CYCLES, STATION and PHASE_STRIDE for the next local round boundary and puts the others in force (with REF_ARM at
SOURCE XTAL in FREE or HOLDOVER it ends with 7:C6h, with a TOOTH_CYCLES that a plan does not meet with 7:C9h); C1h (refused with 7:C2h, DNR 1, where it would drop
an enforced lease or change its slot) sets TWIN_CFG and the lease fences that follow from it; C2h the graces, C3h the selection of the counter named, C4h the
configured window, C5h SKIVER_CFG. With SV 0 the command succeeds, with SV 1 it waits for its FEATURE record; nothing else changes. -/
def Obligations.SetFeaturesOfVendorIdentifiers : Prop :=
  ∀ s tag c q x cq cid (buf : BitVec 256), AtHand s tag c q x cq cid → c.waits true 0x09 = true →
    (featId c = 0xC0 → ∃ t, exec (.setFeaturesWheelCfg tag buf) s = .next t ∧
      ((wheelCfgOf buf.toNat).inRange = false → Served s t tag q x cq cid invalidField c.out) ∧
      ((wheelCfgOf buf.toNat).inRange = true → refArmOf buf.toNat = true → s.wheel.cfg.source = 0 → s.wheel.mode = .free ∨ s.wheel.mode = .holdover →
        Served s t tag q x cq cid (stat 7 0xC6) c.out) ∧
      ((wheelCfgOf buf.toNat).inRange = true → ¬ (refArmOf buf.toNat = true ∧ s.wheel.cfg.source = 0 ∧ (s.wheel.mode = .free ∨ s.wheel.mode = .holdover)) →
        (wheelCfgOf buf.toNat).toothCycles = s.wheel.cfgSet.toothCycles ∨ s.toothFail (wheelCfgOf buf.toNat).toothCycles = none →
        FeatureTaken (s.setWheel (wheelCfgOf buf.toNat) (refArmOf buf.toNat)) t tag c q x cq cid 0xC0 0 buf) ∧
      ((wheelCfgOf buf.toNat).inRange = true → ¬ (refArmOf buf.toNat = true ∧ s.wheel.cfg.source = 0 ∧ (s.wheel.mode = .free ∨ s.wheel.mode = .holdover)) →
        (wheelCfgOf buf.toNat).toothCycles ≠ s.wheel.cfgSet.toothCycles → (s.toothFail (wheelCfgOf buf.toNat).toothCycles).isSome →
        Answered t tag q x cq cid (stat 7 0xC9) c.out ∧ SameFrame s t ∧ SameData s t)) ∧
    (∀ w arm, (s.setWheel w arm).wheel.cfg.source = s.wheel.cfg.source ∧ (s.setWheel w arm).wheel.cfg.toothCycles = s.wheel.cfg.toothCycles ∧
      (s.setWheel w arm).wheel.cfg.station = s.wheel.cfg.station ∧ (s.setWheel w arm).wheel.cfg.phaseStride = s.wheel.cfg.phaseStride ∧
      (s.setWheel w arm).wheel.cfg.paceMode = s.wheel.cfg.paceMode ∧ (s.setWheel w arm).wheel.cfgSet = w ∧
      (s.setWheel w arm).wheel.cfg.guardTeeth = w.guardTeeth ∧ (s.setWheel w arm).wheel.cfg.slewMax = w.slewMax ∧
      (s.setWheel w arm).wheel.cfg.stepThreshold = w.stepThreshold ∧ (s.setWheel w arm).wheel.cfg.lockWindow = w.lockWindow ∧
      (s.setWheel w arm).wheel.refArm = (s.wheel.refArm || arm)) ∧
    (featId c = 0xC1 → ∃ t, exec (.setFeaturesTwinRein tag buf) s = .next t ∧
      ((s.rein.twin.set buf.toNat).inRange = false → Served s t tag q x cq cid invalidField c.out) ∧
      ((s.rein.twin.set buf.toNat).inRange = true → s.rein.twin.enforce = true →
        (s.rein.twin.set buf.toNat).enforce = false ∨ (s.rein.twin.set buf.toNat).slot ≠ s.rein.twin.slot →
        Served s t tag q x cq cid { stat 7 0xC2 with dnr := true } c.out) ∧
      ((s.rein.twin.set buf.toNat).inRange = true →
        ¬ (s.rein.twin.enforce = true ∧ ((s.rein.twin.set buf.toNat).enforce = false ∨ (s.rein.twin.set buf.toNat).slot ≠ s.rein.twin.slot)) →
        t.rein.twin = s.rein.twin.set buf.toNat ∧
        (∀ r, (t.port r).fencedLease = ((s.rein.twin.set buf.toNat).enforce && !(s.port r).leaseLive)) ∧
        ((∀ r, (s.port r).fencedLease = ((s.rein.twin.set buf.toNat).enforce && !(s.port r).leaseLive)) →
          FeatureTaken { s with rein := { s.rein with twin := s.rein.twin.set buf.toNat } } t tag c q x cq cid 0xC1 0 buf))) ∧
    (featId c = 0xC2 → ∃ t, exec (.setFeaturesThrottleGrace tag buf) s = .next t ∧
      if bitField buf.toNat 0 6 ≤ 60 ∧ bitField buf.toNat 8 4 ≤ 10 then
        FeatureTaken { s with therm := { s.therm with grace := bitField buf.toNat 0 6, grace2 := bitField buf.toNat 8 4 } } t tag c q x cq cid 0xC2 0 buf
      else Served s t tag q x cq cid invalidField c.out) ∧
    (featId c = 0xC3 → ∃ t, exec (.setFeaturesCounterSelect tag buf) s = .next t ∧
      if bitField (dw c.entry 11) 6 26 = 0 ∧ (counterOf buf.toNat).inRange = true then
        FeatureTaken s t tag c q x cq cid 0xC3 (bitField (dw c.entry 11) 0 6) buf ∧
        t.obs.counters = updAt s.obs.counters (bitField (dw c.entry 11) 0 6) fun k => k.select (counterOf buf.toNat) (counterClearOf buf.toNat)
      else Served s t tag q x cq cid invalidField c.out) ∧
    (featId c = 0xC4 → ∃ t, exec (.setFeaturesDirtyWindow tag buf) s = .next t ∧
      if 64 ≤ bitField buf.toNat 0 16 ∧ bitField buf.toNat 0 16 ≤ 2048 ∧ bitField buf.toNat 0 16 % 64 = 0 then
        FeatureTaken { s with wb := { s.wb with dwMib := bitField buf.toNat 0 16 } } t tag c q x cq cid 0xC4 0 buf
      else Served s t tag q x cq cid invalidField c.out) ∧
    (featId c = 0xC5 → ∃ t, exec (.setFeaturesSkiver tag buf) s = .next t ∧
      if 50 ≤ bitField buf.toNat 8 8 ∧ bitField buf.toNat 8 8 ≤ 100 then
        FeatureTaken { s with skv := { s.skv with cfg := skiverCfgOf buf.toNat } } t tag c q x cq cid 0xC5 0 buf
      else Served s t tag q x cq cid invalidField c.out)

/-- A Get Features at hand completes at once and changes nothing but its row, its completion queue, the Error Information log, counters and records. A standard
feature answers in DW0: SEL 0 the setting in force, SEL 1 and 2 the default (a free value where the spec gives none), SEL 3 the capabilities. A vendor feature
answers 32 bytes: SEL 0 what is in force (C0h as last set), SEL 1 its default, SEL 2 its saved value, SEL 3 capabilities. FDP Events answers two bytes for each
event type. A SEL above 3, a sensor above 8, another CDW11 bit of C3h, an identifier not supported, and an operation of C6h not listed for the command end with
0:02h. -/
def Obligations.GetFeaturesAnswersTheSettings : Prop :=
  ∀ s tag c q x cq cid, AtHand s tag c q x cq cid →
    (c.waits true 0x0A = true →
      (featId c = 0x01 → ∃ t, exec (.getFeaturesArbitration tag) s = .next t ∧
        Dw0Answered s t tag c q x cq cid (s.feat 0x01 c.ctrl 0) (Config.defaultFeature 0x01) 4) ∧
      (featId c = 0x02 → ∃ t, exec (.getFeaturesPowerMgmt tag) s = .next t ∧ Dw0Answered s t tag c q x cq cid (s.fe.ps4Next.getD s.fe.ps) 0 4) ∧
      (featId c = 0x07 → ∃ t, exec (.getFeaturesNumQueues tag) s = .next t ∧
        Dw0Answered s t tag c q x cq cid (queuesDw0 (s.ctrl c.ctrl)) (Config.defaultFeature 0x07) 4) ∧
      (featId c = 0x08 → ∃ t, exec (.getFeaturesIntCoalescing tag) s = .next t ∧
        Dw0Answered s t tag c q x cq cid (s.feat 0x08 c.ctrl 0) (Config.defaultFeature 0x08) 4) ∧
      (featId c = 0x09 → ∃ t, exec (.getFeaturesIntVectorCfg tag) s = .next t ∧
        Dw0Answered s t tag c q x cq cid (s.feat 0x09 c.ctrl (dw c.entry 11 % 65536)) (Config.defaultFeature 0x09) 4) ∧
      (featId c = 0x0B → ∃ t, exec (.getFeaturesAsyncEventCfg tag) s = .next t ∧
        Dw0Answered s t tag c q x cq cid (s.feat 0x0B c.ctrl 0) (Config.defaultFeature 0x0B) 4) ∧
      (featId c = 0x1D → ∃ t, exec (.getFeaturesFdp tag) s = .next t ∧ Dw0Answered s t tag c q x cq cid (bit s.map.fdp) 0 4) ∧
      (featId c = 0x1E → ∃ t, exec (.getFeaturesFdpEvents tag) s = .next t ∧
        (3 < getSel c → Served s t tag q x cq cid invalidField c.out) ∧ (getSel c = 3 → Served s t tag q x cq cid (okDw0 6) c.out) ∧
        (getSel c < 3 → s.fdpHandle c = none → Served s t tag q x cq cid invalidField c.out) ∧
        (getSel c = 0 → ∀ h, s.fdpHandle c = some h → Served s t tag q x cq cid (okDw0 (min (bitField (dw c.entry 11) 16 8) 5))
          (([0x00, 0x02, 0x03, 0x80, 0x81].take (bitField (dw c.entry 11) 16 8)).flatMap fun e => toBytes 1 e ++ toBytes 1 (bit (s.fdpEnabled h e))))) ∧
      (featId c = 0x04 → ∃ t, exec (.getFeaturesTempThreshold tag) s = .next t ∧
        (8 < tmpSel c ∨ 1 < thSel c → Served s t tag q x cq cid invalidField c.out) ∧
        (tmpSel c ≤ 8 → thSel c = 0 → Dw0Answered s t tag c q x cq cid (s.overOf (tmpSel c)) s.wctemp 4) ∧
        (tmpSel c ≤ 8 → thSel c = 1 → Dw0Answered s t tag c q x cq cid (s.underOf (tmpSel c)) 273 4)) ∧
      (featId c = 0xC0 → ∃ t d, exec (.getFeaturesWheelCfg tag) s = .next t ∧ d = (wheelCfgOf (s.featDefault 0 ({} : WheelCfg).pack)).pack ∧
        BufferAnswered s t tag c q x cq cid s.wheel.cfgSet.pack d (wheelCfgOf (s.featSaved 0xC0 0 d)).pack) ∧
      (featId c = 0xC1 → ∃ t d, exec (.getFeaturesTwinRein tag) s = .next t ∧ d = (({} : TwinCfg).set (s.featDefault 1 ({} : TwinCfg).pack)).pack ∧
        BufferAnswered s t tag c q x cq cid s.rein.twin.pack d (({} : TwinCfg).set (s.featSaved 0xC1 0 d)).pack) ∧
      (featId c = 0xC2 → ∃ t d, exec (.getFeaturesThrottleGrace tag) s = .next t ∧ d = graceBits (graceOf (s.featDefault 2 (graceBits (10, 2)))) ∧
        BufferAnswered s t tag c q x cq cid s.throttlePack d (graceBits (graceOf (s.featSaved 0xC2 0 d)))) ∧
      (featId c = 0xC3 → ∃ t i d, exec (.getFeaturesCounterSelect tag) s = .next t ∧ i = bitField (dw c.entry 11) 0 6 ∧
        d = (counterOf (s.featDefault (4 + i) (packFields [fld 32 11 0x7FF]))).pack ∧
        if bitField (dw c.entry 11) 6 26 = 0 then
          BufferAnswered s t tag c q x cq cid (s.obs.counters.getD i {}).pack d (counterOf (s.featSaved 0xC3 i d)).pack
        else Served s t tag q x cq cid invalidField c.out) ∧
      (featId c = 0xC4 → ∃ t, exec (.getFeaturesDirtyWindow tag) s = .next t ∧
        BufferAnswered s t tag c q x cq cid s.wb.pack s.img.dwDefault (dwOf (s.featSaved 0xC4 0 s.img.dwDefault))) ∧
      (featId c = 0xC5 → ∃ t d, exec (.getFeaturesSkiver tag) s = .next t ∧ d = skiverBits (skiverCfgOf (s.featDefault 3 (skiverBits {}))) ∧
        BufferAnswered s t tag c q x cq cid s.skv.pack d (skiverBits (skiverCfgOf (s.featSaved 0xC5 0 d)))) ∧
      ((if featId c = 0xC6 then cipherOp c ∉ [0, 4] else featId c ∉ [0x01, 0x02, 0x04, 0x07, 0x08, 0x09, 0x0B, 0x1D, 0x1E, 0xC0, 0xC1, 0xC2, 0xC3, 0xC4, 0xC5]) →
        ∃ t, exec (.featuresUnsupportedId tag) s = .next t ∧ Served s t tag q x cq cid invalidField c.out)) ∧
    (c.waits true 0x09 = true →
      (if featId c = 0xC6 then cipherOp c ∉ [0, 1, 2, 3]
        else featId c ∉ [0x01, 0x02, 0x04, 0x07, 0x08, 0x09, 0x0B, 0x1D, 0x1E, 0xC0, 0xC1, 0xC2, 0xC3, 0xC4, 0xC5]) →
      ∃ t, exec (.featuresUnsupportedId tag) s = .next t ∧ Served s t tag q x cq cid invalidField c.out)

/-- A Tree Store Access at hand completes at once. OP 0 answers TS_STATUS, OP 1 the shadow's bytes (0:0Ch in bareback or halter mode), OP 2 opens staging of the length given, OP 3
copies its buffer into the caller's staging, OP 5 discards it. A refusal of R424 is its reason in DW0 of 7:C5h; operands outside their range and an OP above 11 end with 0:02h, a wrong
state with 0:0Ch; staging stands as it was then. An Error Information entry is made for each (log 7). -/
def Obligations.TreeStoreReadsAndStages : Prop :=
  ∀ s tag c q x cq cid, AtHand s tag c q x cq cid → c.waits true 0xC5 = true →
    (tsOp c = 0 → ∃ t, exec (.tsStatus tag) s = .next t ∧ Served s t tag q x cq cid ok (toBytes 64 s.tsStatus)) ∧
    (tsOp c = 1 → ∃ t, exec (.tsReadImage tag) s = .next t ∧
      (s.ts.mode ≠ 0 → Served s t tag q x cq cid sequenceError c.out) ∧
      (s.ts.mode = 0 → dw c.entry 11 % 16 ≠ 0 ∨ dw c.entry 12 % 16 ≠ 0 ∨ s.ts.shadowLen < dw c.entry 11 + dw c.entry 12 →
        Served s t tag q x cq cid invalidField c.out) ∧
      (s.ts.mode = 0 → dw c.entry 11 % 16 = 0 → dw c.entry 12 % 16 = 0 → dw c.entry 11 + dw c.entry 12 ≤ s.ts.shadowLen →
        Served s t tag q x cq cid ok (blankBytes s.ts.shadow (dw c.entry 11) (dw c.entry 12)))) ∧
    (tsOp c = 2 → ∃ t, exec (.tsUpdBegin tag) s = .next t ∧
      (dw c.entry 11 % 16 ≠ 0 ∨ dw c.entry 11 < 64 ∨ 50331648 < dw c.entry 11 → Served s t tag q x cq cid invalidField c.out) ∧
      (dw c.entry 11 % 16 = 0 → 64 ≤ dw c.entry 11 → dw c.entry 11 ≤ 50331648 →
        (∀ r, s.updReason c.ctrl = some r → UpdateRefused s t tag c q x cq cid r 0) ∧
        (s.updReason c.ctrl = none → Served s t tag q x cq cid ok c.out ∧ t.ts.updState = 1 ∧ t.ts.updLen = dw c.entry 11 ∧
          t.ts.staging = some { ctrl := c.ctrl, len := dw c.entry 11, bytes := [], covered := [] }))) ∧
    (tsOp c = 3 → ∀ data : List Byte, ∃ t, exec (.tsUpdData tag data) s = .next t ∧
      (s.ts.staging = none → Served s t tag q x cq cid sequenceError c.out) ∧
      (∀ g, s.ts.staging = some g → g.ctrl ≠ c.ctrl → Served s t tag q x cq cid sequenceError c.out) ∧
      (∀ g, s.ts.staging = some g → g.ctrl = c.ctrl →
        dw c.entry 11 % 16 ≠ 0 ∨ dw c.entry 12 % 16 ≠ 0 ∨ 2097152 < dw c.entry 12 ∨ g.len < dw c.entry 11 + dw c.entry 12 →
        Served s t tag q x cq cid invalidField c.out ∧ t.ts.staging = some g) ∧
      (∀ g, s.ts.staging = some g → g.ctrl = c.ctrl → dw c.entry 11 % 16 = 0 → dw c.entry 12 % 16 = 0 → dw c.entry 12 ≤ 2097152 →
        dw c.entry 11 + dw c.entry 12 ≤ g.len → dw c.entry 12 ≤ data.length → Served s t tag q x cq cid ok c.out ∧
        t.ts.staging = some { g with bytes := programBytes g.bytes (dw c.entry 11) (data.take (dw c.entry 12)),
                                     covered := g.covered ++ [(dw c.entry 11, dw c.entry 12)] })) ∧
    (tsOp c = 5 → ∃ t, exec (.tsUpdCancel tag) s = .next t ∧
      (s.ts.writing.isSome → Served s t tag q x cq cid sequenceError c.out) ∧
      (s.ts.writing = none → Served s t tag q x cq cid ok c.out ∧
        t.ts.staging = (match s.ts.staging with | some g => if g.ctrl = c.ctrl then none else some g | none => none))) ∧
    (12 ≤ tsOp c → ∃ t, exec (.tsAccessUnlistedOp tag) s = .next t ∧ Served s t tag q x cq cid invalidField c.out)

/-- A Tree Store Access at hand with CDW13 = 3C5AA5C3h: OP 4 with staging covered and valid starts the write and completes (R424's reason in 7:C5h otherwise); OP 6 and 10 program the option
block, OP 7 and 8 write a LOCK record (8 in halter mode with reason STRAP alone), OP 9 erases the sectors of the slot that are not blank: these wait until they are durable; OP 11 rewrites the
slot from the shadow. A wrong state ends with 0:0Ch. Without that value in CDW13 each ends with 0:02h and the tree store stands as it was. -/
def Obligations.TreeStoreProgramsAndUpdates : Prop :=
  ∀ s tag c q x cq cid, AtHand s tag c q x cq cid → c.waits true 0xC5 = true →
    (tsOp c = 4 → dw c.entry 13 = 0x3C5AA5C3 → ∃ t, exec (.tsUpdCommit tag) s = .next t ∧
      (∀ r, s.updReason c.ctrl = some r → UpdateRefused s t tag c q x cq cid r 0) ∧
      (s.updReason c.ctrl = none → s.ts.staging = none → Served s t tag q x cq cid sequenceError c.out) ∧
      (∀ g, s.updReason c.ctrl = none → s.ts.staging = some g → coveredTo g.covered g.covered.length 0 < g.len → UpdateRefused s t tag c q x cq cid 8 0) ∧
      (∀ g, s.updReason c.ctrl = none → s.ts.staging = some g → g.len ≤ coveredTo g.covered g.covered.length 0 →
        (∀ f, imageFail g.bytes (some g.len) s.ts = some f → f.check ≠ 12 → UpdateRefused s t tag c q x cq cid (if f.check = 9 then 7 else 9) f.dw1) ∧
        (∀ f, imageFail g.bytes (some g.len) s.ts = some f → f.check = 12 → Answered t tag q x cq cid { stat 7 0xC9 with dw1 := f.dw1 } c.out ∧
          t.ts.staging = some g ∧ t.ts.image = s.ts.image ∧ t.ts.writing = s.ts.writing) ∧
        (imageFail g.bytes (some g.len) s.ts = none → Served s t tag q x cq cid ok c.out ∧ t.ts.staging = none ∧ t.ts.updState = 3 ∧ t.ts.updDone = 0 ∧
          t.ts.writing = some (g.len, g.bytes) ∧ t.ts = (s.updStart g.len g.bytes).ts.pump))) ∧
    (tsOp c = 6 → dw c.entry 13 = 0x3C5AA5C3 → ∀ data : List Byte, 48 ≤ data.length → ∃ t, exec (.tsSetKey tag data) s = .next t ∧
      (s.ts.ownerLock = true → Served s t tag q x cq cid sequenceError c.out) ∧
      (s.ts.ownerLock = false → (∀ i < 4, s.ts.optionBlank (0x100 + 64 * i) 48 = false) → Served s t tag q x cq cid sequenceError c.out) ∧
      (∀ i < 4, s.ts.ownerLock = false → s.ts.optionValid = true → s.ts.optionBlank (0x100 + 64 * i) 48 = true →
        (∀ j < i, s.ts.optionBlank (0x100 + 64 * j) 48 = false) →
        Parked { s with ts := { s.ts with queue := s.ts.queue ++ [⟨6, .option (0x100 + 64 * i) (data.take 48)⟩] } } t tag c (optionKey (0x100 + 64 * i)))) ∧
    (tsOp c = 7 → dw c.entry 13 = 0x3C5AA5C3 → ∃ t, exec (.tsLock tag) s = .next t ∧ Parked (s.writeRec .optionLog (.optLock true)) t tag c lockKey) ∧
    (tsOp c = 8 → dw c.entry 13 = 0x3C5AA5C3 → ∃ t, exec (.tsUnlock tag) s = .next t ∧
      if s.ts.mode = 2 ∧ s.ts.halterReason = 1 then Parked (s.writeRec .optionLog (.optLock false)) t tag c lockKey
      else Served s t tag q x cq cid sequenceError c.out) ∧
    (tsOp c = 9 → dw c.entry 13 = 0x3C5AA5C3 → ∃ t, exec (.tsEraseImage tag) s = .next t ∧
      (s.ts.ownerLock = true → ¬ (s.ts.mode = 2 ∧ s.ts.halterReason = 1) → Served s t tag q x cq cid sequenceError c.out) ∧
      (s.ts.ownerLock = false ∨ (s.ts.mode = 2 ∧ s.ts.halterReason = 1) →
        (s.ts.usedSectors = [] → Served s t tag q x cq cid ok c.out) ∧
        (s.ts.usedSectors ≠ [] → Parked { s with ts := { s.ts with
          queue := s.ts.queue ++ s.ts.usedSectors.map (fun n => ⟨7, .erase n 0⟩), erasing := true, written := true } } t tag c eraseKey))) ∧
    (tsOp c = 10 → dw c.entry 13 = 0x3C5AA5C3 → ∀ data : List Byte, 72 ≤ data.length → ∃ t, exec (.tsSetId tag data) s = .next t ∧
      (s.ts.optionBlank 0x10 32 = false → s.ts.optionBlank 0x30 48 = false → Served s t tag q x cq cid ok c.out) ∧
      (s.ts.optionBlank 0x10 32 = true → s.ts.optionBlank 0x30 48 = true → s.ts.optionValid = true → Parked { s with ts := { s.ts with queue := s.ts.queue ++
        [⟨6, .option 0x10 (data.take 20 ++ List.replicate 12 0#8)⟩, ⟨6, .option 0x30 (sliceBytes data 32 40 ++ List.replicate 8 0#8)⟩] } } t tag c
        (optionKey 0x30))) ∧
    (tsOp c = 11 → dw c.entry 13 = 0x3C5AA5C3 → ∃ t, exec (.tsRefresh tag) s = .next t ∧
      (s.ts.mode ≠ 0 ∨ s.ts.written = true → Served s t tag q x cq cid sequenceError c.out) ∧
      (s.ts.mode = 0 → s.ts.written = false →
        (∀ r, s.updReason c.ctrl = some r → UpdateRefused s t tag c q x cq cid r 0) ∧
        (s.updReason c.ctrl = none → Served s t tag q x cq cid ok c.out ∧ t.ts = (s.updStart s.ts.shadowLen s.ts.shadow).ts.pump))) ∧
    (dw c.entry 13 ≠ 0x3C5AA5C3 → ∀ i data, (i = .tsUpdCommit tag ∧ tsOp c = 4) ∨ (i = .tsSetKey tag data ∧ tsOp c = 6) ∨ (i = .tsLock tag ∧ tsOp c = 7) ∨
        (i = .tsUnlock tag ∧ tsOp c = 8) ∨ (i = .tsEraseImage tag ∧ tsOp c = 9) ∨ (i = .tsSetId tag data ∧ tsOp c = 10) ∨ (i = .tsRefresh tag ∧ tsOp c = 11) →
      ∃ t, exec i s = .next t ∧ Served s t tag q x cq cid invalidField c.out ∧ t.ts = s.ts.pump)

/-- When the running array operation ends well, the array holds what it programs or erases: a WT_RES record stands newest in its ring, an option word in the option
block, a sector's erase goes on to its next stage. A failed record or a word programmed before is burnt and the operation stands first in the queue again (an
option word ends its command with 0:06h); a failed erase makes its sector BAD. The device then goes on with what can start. The scrub, once shadowing has ended,
moves its cursor past the word: a clean one changes nothing else, a corrected one counts and a live record is written again, an uncorrectable one in the image
sets IMAGE_FAULT and leaves the image as it is. -/
def Obligations.TreeStoreOperationsEndAndScrub : Prop :=
  (∀ s cls top, s.ts.running = some ⟨cls, .append .wtRes (.wtRes top)⟩ → ∃ u : State, exec (.tsOpDone .ok) s = .next u.settle ∧
    u = { s with ts := ({ s.ts with running := none, unlock := 0 } : TsState).append .wtRes (.wtRes top) } ∧
    ((({ s.ts with running := none, unlock := 0 } : TsState).ready .wtRes (.wtRes top)).ring .wtRes ≠ [] →
      (u.ts.records .wtRes).getLast? = some (.wtRes top))) ∧
  (∀ s cls top, s.ts.running = some ⟨cls, .append .wtRes (.wtRes top)⟩ → 1 ≤ s.ts.headRoom .wtRes → ∃ u : State, exec (.tsOpDone .failed) s = .next u.settle ∧
    u.ts.running = none ∧ u.ts.queue.head? = some ⟨cls, .append .wtRes (.wtRes top)⟩ ∧ u.ts.records .wtRes = s.ts.records .wtRes ∧
    u.fault.made = s.fault.made ++ [(0x0209, 2)]) ∧
  (∀ s cls r rec_, s.ts.running = some ⟨cls, .append r rec_⟩ → ∃ u : State, exec (.tsOpDone .doubleProgram) s = .next u.settle ∧
    u.ts.queue.head? = some ⟨cls, .append r rec_⟩ ∧ u.fault.made = s.fault.made ++ [(0x1106, 2)]) ∧
  (∀ s cls off bytes, s.ts.running = some ⟨cls, .option off bytes⟩ → ∃ u : State, exec (.tsOpDone .ok) s = .next u.settle ∧
    u.ts = { s.ts with running := none, unlock := 0, option := programBytes s.ts.option off bytes } ∧ SameFrame s u ∧ SameData s u) ∧
  (∀ s cls sector, s.ts.running = some ⟨cls, .erase sector 1⟩ → ∃ u : State, exec (.tsOpDone .ok) s = .next u.settle ∧
    u.ts.queue = ⟨cls, .erase sector 2⟩ :: s.ts.queue ∧
    (8 ≤ sector → sector ≤ 775 → u.ts.image = s.ts.image.filter (fun (a, _) => a / 65536 ≠ sector - 8) ∧ sector ∉ u.ts.imageUsed)) ∧
  (∀ s cls sector, s.ts.running = some ⟨cls, .erase sector 1⟩ → s.ts.writing = none → sector < 8 → ∃ u : State, exec (.tsOpDone .failed) s = .next u.settle ∧
    sector ∈ u.ts.bad) ∧
  (∀ s cls off, s.ts.running = some ⟨cls, .read off⟩ → ∃ u : State, exec (.tsOpDone .ok) s = .next u.settle ∧
    u = { s with ts := { s.ts with running := none, unlock := 0 } }) ∧
  (∀ s result, s.ts.running = none → exec (.tsOpDone result) s = .next s) ∧
  (∀ s, s.ts.accept = true → ∃ u : State, exec (.tsScrubRead .clean) s = .next u.settle ∧
    u = { s with ts := { s.ts with scrubAt := (s.ts.scrubAt + 16) % 67108864 } }) ∧
  (∀ s o, s.ts.accept = true → o < 67108864 → o % 16 = 0 → ∃ u : State, exec (.tsScrubRead (.corrected o)) s = .next u.settle ∧
    u.ts.scrubAt = (o + 16) % 67108864 ∧ u.ts.scrubCorrected = min (s.ts.scrubCorrected + 1) 4294967295 ∧ u.ts.image = s.ts.image) ∧
  (∀ s o, s.ts.accept = true → 524288 ≤ o → o < 50855936 → o % 16 = 0 → ∃ u : State, exec (.tsScrubRead (.uncorrectable o)) s = .next u.settle ∧
    u.ts.scrubAt = (o + 16) % 67108864 ∧ u.ts.scrubUncorr = min (s.ts.scrubUncorr + 1) 4294967295 ∧ u.ts.imageFault = true ∧ u.ts.image = s.ts.image ∧
    u.fault.made = s.fault.made ++ [(0x1104, 3)])

/-- For every command and state, a step with the command at the front of the queue is the command's effect on the state with the queue's rest; on an empty queue the state stands as it was. That
commands wait in one queue and that the block idles on an empty one are the model's choice (log 2). No word spells a command, since the table gives no row a field. -/
def Obligations.StepTakesTheFrontCommand : Prop :=
  (∀ i rest (s : State), step { s with pending := i :: rest } = exec i { s with pending := rest }) ∧ (∀ s : State, s.pending = [] → step s = .next s) ∧
  (∀ nbits w, decodeTableWord nbits w = none) ∧ (∀ (s : State) nbits w, s.withFetchWord nbits w = s)

/-- From every state every command answers a next state: no fault and no refusal ends a run. Its effect leaves the queue as it was, a power-on reset's too; so a step on a queue that is not
empty takes exactly its first command off, and n steps on a queue of n commands end with an empty one. -/
def Obligations.EveryCommandCompletesAndKeepsTheQueue : Prop :=
  (∀ i s, ∃ t, exec i s = .next t ∧ t.pending = s.pending) ∧
  (∀ i rest s, s.pending = i :: rest → ∃ t, step s = .next t ∧ t.pending = rest) ∧
  (∀ s, ∃ run : Nat → State, run 0 = s ∧ (∀ n, step (run n) = .next (run (n + 1))) ∧ ∀ n, (run n).pending = s.pending.drop n)

/-- From every state whose wheel is within its bounds, whatever command stands in front, a step leaves the wheel within its bounds: LT and SYS_PHASE name a tooth of the round, FREQ_CORR
stays within 200 ppm, the count of good edges at 8, the rounds at the clamp and the window of the mean at 64, and a phase step inserts less than a round of filler teeth. -/
def Obligations.WheelStaysWithinItsBounds : Prop :=
  ∀ s t, s.wheel.Bounded → step s = .next t → t.wheel.Bounded

/-- A command that is not among those named leaves the tables in force, the thermal controller, the DMA, the plan selector or the wheel exactly as it was, in every state. No host command of an
I/O queue is among those of any of the five. -/
def Obligations.EnginesChangeByTheirOwnCommands : Prop :=
  ∀ i s t, exec i s = .next t →
    (changesImage i = false → t.img = s.img) ∧ (changesThermal i = false → t.therm = s.therm) ∧ (changesDma i = false → t.dma = s.dma) ∧
    (changesPlan i = false → t.plan = s.plan) ∧ (changesWheel i = false → t.wheel = s.wheel)

/-- The meaning of a host command acts on its row of the command table alone while that row waits: with no such row, with one that has begun or has its status, and on a front end that has stopped
(a dump, fatal handling, fault stop) for a row of a queue, the state stands as it was. The first status of a command therefore stands. That such a command changes nothing is the model's
reading (log 1). -/
def Obligations.HostCommandsActOnTheirWaitingRow : Prop :=
  ∀ i s tag, hostTag i = some tag → (∀ c, s.cmd tag = some c → c.started = true ∨ c.result.isSome ∨ (s.fe.stopped = true ∧ c.tunnelled = false)) → exec i s = .next s

/-- The reset state's wheel is within its bounds (the invariant of WheelStaysWithinItsBounds), at tooth 0 and WT 0 with no correction and no filler tooth. Right after reset every field whose Reset is Image holds its bareback value: the wheel runs from the crystal (SOURCE 0, TOOTH_CYCLES 2,000, SLEW_MAX 50, STEP_THRESHOLD 2, GUARD_TEETH 4,
LOCK_WINDOW 100) in FREE, the graces are 10 s and 2 s, twin mode is off. Each of the 64 counters is disabled, for every instance, at 0. Both heartbeats are low and no link is up. The fault
sequencer holds no report, the front end admits nothing, the JTAG port selects IDCODE. No command waits and no free value has been drawn (the model's own fields, logs 2 and 5); what is kept over resets is as
in a device that has never run (log 3). -/
def Obligations.ResetLeavesTheStatedValues : Prop :=
  State.reset.wheel.Bounded ∧ State.reset.wheel.lt = 0 ∧ State.reset.wheel.wt = 0 ∧ State.reset.wheel.freqCorr = 0 ∧ State.reset.wheel.filler = 0 ∧
  (State.reset.wheel.cfg.source = 0 ∧ State.reset.wheel.cfg.toothCycles = 2000 ∧ State.reset.wheel.cfg.slewMax = 50 ∧ State.reset.wheel.cfg.stepThreshold = 2 ∧
    State.reset.wheel.cfg.guardTeeth = 4 ∧ State.reset.wheel.cfg.lockWindow = 100 ∧ State.reset.wheel.cfg.failover = false ∧ State.reset.wheel.mode = .free ∧ State.reset.wheel.missed = 0) ∧
  (State.reset.therm.grace = 10 ∧ State.reset.therm.grace2 = 2 ∧ State.reset.therm.level = 0 ∧ State.reset.therm.floor = 0) ∧ State.reset.rein.twin.mode = 0 ∧
  (State.reset.obs.counters.length = 64 ∧ ∀ k ∈ State.reset.obs.counters, k.enable = false ∧ k.inst = 0x7FF ∧ k.value = 0 ∧ k.sat = false) ∧
  (∀ p, (State.reset.port p).hbeat = false ∧ (State.reset.port p).up = false ∧ (State.reset.port p).linkDowns = 0 ∧ (State.reset.port p).recoveries = 0) ∧
  (State.reset.dram.corrected = 0 ∧ State.reset.dram.uncorrectable = 0 ∧ State.reset.dram.neighbours = 0 ∧ State.reset.dram.freqChanges = 0) ∧
  (State.reset.fault.queue = [] ∧ State.reset.fault.inHand = none ∧ State.reset.fault.stop = none ∧ State.reset.fault.fatal = none ∧ State.reset.fault.degraded = false ∧ State.reset.fault.lost = 0) ∧
  (State.reset.fe.admits = false ∧ State.reset.fe.cmds = [] ∧ State.reset.fe.sqs = [] ∧ State.reset.fe.cqs = []) ∧ State.reset.pkg.jtag = .idcode ∧
  State.reset.pkg.jtagOut = (List.range 32).map (Nat.testBit 0x296041B3) ∧ State.reset.ts.bootStep = 0 ∧ State.reset.dump.run = none ∧ State.reset.dump.holds = [] ∧
  State.reset.pending = [] ∧ State.reset.free = 0 ∧ State.reset.media.items = []
end

