-- ==== Sys2Proof/Laws/Frame.lean ====
section
/-! SUPPORT. What a record update, a choice and a fold leave unchanged, component by component: the lemmas from which the frame of every
shared operation and of every command follows by rewriting. -/
namespace Sys2Proof.Machine
/-- The fields that the wheel's bounds speak of. -/
def WheelState.pins (w : WheelState) : Nat × Nat × Int × Nat × Nat × Nat × Nat := (w.lt, w.sysPhase, w.freqCorr, w.clampRounds, w.good, w.integHist.length, w.filler)
@[simp] theorem pins_resTop (w : WheelState) (x : Nat) : ({ w with resTop := x } : WheelState).pins = w.pins := rfl
@[simp] theorem pins_wt_resTop (w : WheelState) (t x : Nat) : ({ w with wt := t, resTop := x } : WheelState).pins = w.pins := rfl
@[simp] theorem pins_stopped (w : WheelState) (x : Bool) : ({ w with stopped := x } : WheelState).pins = w.pins := rfl
@[simp] theorem pins_cfg (w : WheelState) (x : WheelCfg) (y : Option WheelCfg) (z : Bool) : ({ w with cfg := x, next := y, refArm := z } : WheelState).pins = w.pins := rfl
@[simp] theorem pins_dumped (w : WheelState) (x : Nat) : ({ w with dumpedWt := x } : WheelState).pins = w.pins := rfl
@[simp] theorem ite_pins (c : Prop) [Decidable c] (a b : WheelState) : (if c then a else b).pins = if c then a.pins else b.pins := by split <;> rfl
theorem fold_left {β : Type} (p : State → β) {α : Type} (g : State → α → State) (h : ∀ s a, p (g s a) = p s) (l : List α) (s : State) : p (l.foldl g s) = p s := by
  induction l generalizing s with
  | nil => rfl
  | cons a l ih => rw [List.foldl_cons, ih, h]
theorem fold_right {β : Type} (p : State → β) {α : Type} (g : α → State → State) (h : ∀ a s, p (g a s) = p s) (l : List α) (s : State) : p (l.foldr g s) = p s := by
  induction l generalizing s with
  | nil => rfl
  | cons a l ih => rw [List.foldr_cons, h, ih]
theorem fold_pair {γ : Type} (p : State → γ) {α β : Type} (g : β × State → α → β × State) (h : ∀ c a, p (g c a).2 = p c.2) (l : List α) (c : β × State) :
    p (l.foldl g c).2 = p c.2 := by
  induction l generalizing c with
  | nil => rfl
  | cons a l ih => rw [List.foldl_cons, ih, h]
@[simp] theorem ite_pending (c : Prop) [Decidable c] (a b : State) : (if c then a else b).pending = if c then a.pending else b.pending := by split <;> rfl
@[simp] theorem foldl_pending {α : Type} (g : State → α → State) (h : ∀ s a, (g s a).pending = s.pending) (l : List α) (s : State) : (l.foldl g s).pending = s.pending := fold_left (fun s => s.pending) g h l s
@[simp] theorem foldr_pending {α : Type} (g : α → State → State) (h : ∀ a s, (g a s).pending = s.pending) (l : List α) (s : State) : (l.foldr g s).pending = s.pending := fold_right (fun s => s.pending) g h l s
@[simp] theorem ite_wheel (c : Prop) [Decidable c] (a b : State) : (if c then a else b).wheel = if c then a.wheel else b.wheel := by split <;> rfl
@[simp] theorem foldl_wheel {α : Type} (g : State → α → State) (h : ∀ s a, (g s a).wheel = s.wheel) (l : List α) (s : State) : (l.foldl g s).wheel = s.wheel := fold_left (fun s => s.wheel) g h l s
@[simp] theorem foldr_wheel {α : Type} (g : α → State → State) (h : ∀ a s, (g a s).wheel = s.wheel) (l : List α) (s : State) : (l.foldr g s).wheel = s.wheel := fold_right (fun s => s.wheel) g h l s
@[simp] theorem ite_plan (c : Prop) [Decidable c] (a b : State) : (if c then a else b).plan = if c then a.plan else b.plan := by split <;> rfl
@[simp] theorem foldl_plan {α : Type} (g : State → α → State) (h : ∀ s a, (g s a).plan = s.plan) (l : List α) (s : State) : (l.foldl g s).plan = s.plan := fold_left (fun s => s.plan) g h l s
@[simp] theorem foldr_plan {α : Type} (g : α → State → State) (h : ∀ a s, (g a s).plan = s.plan) (l : List α) (s : State) : (l.foldr g s).plan = s.plan := fold_right (fun s => s.plan) g h l s
@[simp] theorem ite_rein (c : Prop) [Decidable c] (a b : State) : (if c then a else b).rein = if c then a.rein else b.rein := by split <;> rfl
@[simp] theorem foldl_rein {α : Type} (g : State → α → State) (h : ∀ s a, (g s a).rein = s.rein) (l : List α) (s : State) : (l.foldl g s).rein = s.rein := fold_left (fun s => s.rein) g h l s
@[simp] theorem foldr_rein {α : Type} (g : α → State → State) (h : ∀ a s, (g a s).rein = s.rein) (l : List α) (s : State) : (l.foldr g s).rein = s.rein := fold_right (fun s => s.rein) g h l s
@[simp] theorem ite_dram (c : Prop) [Decidable c] (a b : State) : (if c then a else b).dram = if c then a.dram else b.dram := by split <;> rfl
@[simp] theorem foldl_dram {α : Type} (g : State → α → State) (h : ∀ s a, (g s a).dram = s.dram) (l : List α) (s : State) : (l.foldl g s).dram = s.dram := fold_left (fun s => s.dram) g h l s
@[simp] theorem foldr_dram {α : Type} (g : α → State → State) (h : ∀ a s, (g a s).dram = s.dram) (l : List α) (s : State) : (l.foldr g s).dram = s.dram := fold_right (fun s => s.dram) g h l s
@[simp] theorem ite_dma (c : Prop) [Decidable c] (a b : State) : (if c then a else b).dma = if c then a.dma else b.dma := by split <;> rfl
@[simp] theorem foldl_dma {α : Type} (g : State → α → State) (h : ∀ s a, (g s a).dma = s.dma) (l : List α) (s : State) : (l.foldl g s).dma = s.dma := fold_left (fun s => s.dma) g h l s
@[simp] theorem foldr_dma {α : Type} (g : α → State → State) (h : ∀ a s, (g a s).dma = s.dma) (l : List α) (s : State) : (l.foldr g s).dma = s.dma := fold_right (fun s => s.dma) g h l s
@[simp] theorem ite_therm (c : Prop) [Decidable c] (a b : State) : (if c then a else b).therm = if c then a.therm else b.therm := by split <;> rfl
@[simp] theorem foldl_therm {α : Type} (g : State → α → State) (h : ∀ s a, (g s a).therm = s.therm) (l : List α) (s : State) : (l.foldl g s).therm = s.therm := fold_left (fun s => s.therm) g h l s
@[simp] theorem foldr_therm {α : Type} (g : α → State → State) (h : ∀ a s, (g a s).therm = s.therm) (l : List α) (s : State) : (l.foldr g s).therm = s.therm := fold_right (fun s => s.therm) g h l s
@[simp] theorem ite_img (c : Prop) [Decidable c] (a b : State) : (if c then a else b).img = if c then a.img else b.img := by split <;> rfl
@[simp] theorem foldl_img {α : Type} (g : State → α → State) (h : ∀ s a, (g s a).img = s.img) (l : List α) (s : State) : (l.foldl g s).img = s.img := fold_left (fun s => s.img) g h l s
@[simp] theorem foldr_img {α : Type} (g : α → State → State) (h : ∀ a s, (g a s).img = s.img) (l : List α) (s : State) : (l.foldr g s).img = s.img := fold_right (fun s => s.img) g h l s
@[simp] theorem ite_awl (c : Prop) [Decidable c] (a b : State) : (if c then a else b).awl = if c then a.awl else b.awl := by split <;> rfl
@[simp] theorem foldl_awl {α : Type} (g : State → α → State) (h : ∀ s a, (g s a).awl = s.awl) (l : List α) (s : State) : (l.foldl g s).awl = s.awl := fold_left (fun s => s.awl) g h l s
@[simp] theorem foldr_awl {α : Type} (g : α → State → State) (h : ∀ a s, (g a s).awl = s.awl) (l : List α) (s : State) : (l.foldr g s).awl = s.awl := fold_right (fun s => s.awl) g h l s
@[simp] theorem ite_codec (c : Prop) [Decidable c] (a b : State) : (if c then a else b).codec = if c then a.codec else b.codec := by split <;> rfl
@[simp] theorem foldl_codec {α : Type} (g : State → α → State) (h : ∀ s a, (g s a).codec = s.codec) (l : List α) (s : State) : (l.foldl g s).codec = s.codec := fold_left (fun s => s.codec) g h l s
@[simp] theorem foldr_codec {α : Type} (g : α → State → State) (h : ∀ a s, (g a s).codec = s.codec) (l : List α) (s : State) : (l.foldr g s).codec = s.codec := fold_right (fun s => s.codec) g h l s
@[simp] theorem ite_map (c : Prop) [Decidable c] (a b : State) : (if c then a else b).map = if c then a.map else b.map := by split <;> rfl
@[simp] theorem foldl_map {α : Type} (g : State → α → State) (h : ∀ s a, (g s a).map = s.map) (l : List α) (s : State) : (l.foldl g s).map = s.map := fold_left (fun s => s.map) g h l s
@[simp] theorem foldr_map {α : Type} (g : α → State → State) (h : ∀ a s, (g a s).map = s.map) (l : List α) (s : State) : (l.foldr g s).map = s.map := fold_right (fun s => s.map) g h l s
@[simp] theorem ite_blk (c : Prop) [Decidable c] (a b : State) : (if c then a else b).blk = if c then a.blk else b.blk := by split <;> rfl
@[simp] theorem foldl_blk {α : Type} (g : State → α → State) (h : ∀ s a, (g s a).blk = s.blk) (l : List α) (s : State) : (l.foldl g s).blk = s.blk := fold_left (fun s => s.blk) g h l s
@[simp] theorem foldr_blk {α : Type} (g : α → State → State) (h : ∀ a s, (g a s).blk = s.blk) (l : List α) (s : State) : (l.foldr g s).blk = s.blk := fold_right (fun s => s.blk) g h l s
@[simp] theorem ite_girth (c : Prop) [Decidable c] (a b : State) : (if c then a else b).girth = if c then a.girth else b.girth := by split <;> rfl
@[simp] theorem foldl_girth {α : Type} (g : State → α → State) (h : ∀ s a, (g s a).girth = s.girth) (l : List α) (s : State) : (l.foldl g s).girth = s.girth := fold_left (fun s => s.girth) g h l s
@[simp] theorem foldr_girth {α : Type} (g : α → State → State) (h : ∀ a s, (g a s).girth = s.girth) (l : List α) (s : State) : (l.foldr g s).girth = s.girth := fold_right (fun s => s.girth) g h l s
@[simp] theorem ite_wb (c : Prop) [Decidable c] (a b : State) : (if c then a else b).wb = if c then a.wb else b.wb := by split <;> rfl
@[simp] theorem foldl_wb {α : Type} (g : State → α → State) (h : ∀ s a, (g s a).wb = s.wb) (l : List α) (s : State) : (l.foldl g s).wb = s.wb := fold_left (fun s => s.wb) g h l s
@[simp] theorem foldr_wb {α : Type} (g : α → State → State) (h : ∀ a s, (g a s).wb = s.wb) (l : List α) (s : State) : (l.foldr g s).wb = s.wb := fold_right (fun s => s.wb) g h l s
@[simp] theorem ite_dump (c : Prop) [Decidable c] (a b : State) : (if c then a else b).dump = if c then a.dump else b.dump := by split <;> rfl
@[simp] theorem foldl_dump {α : Type} (g : State → α → State) (h : ∀ s a, (g s a).dump = s.dump) (l : List α) (s : State) : (l.foldl g s).dump = s.dump := fold_left (fun s => s.dump) g h l s
@[simp] theorem foldr_dump {α : Type} (g : α → State → State) (h : ∀ a s, (g a s).dump = s.dump) (l : List α) (s : State) : (l.foldr g s).dump = s.dump := fold_right (fun s => s.dump) g h l s
@[simp] theorem ite_cipher (c : Prop) [Decidable c] (a b : State) : (if c then a else b).cipher = if c then a.cipher else b.cipher := by split <;> rfl
@[simp] theorem foldl_cipher {α : Type} (g : State → α → State) (h : ∀ s a, (g s a).cipher = s.cipher) (l : List α) (s : State) : (l.foldl g s).cipher = s.cipher := fold_left (fun s => s.cipher) g h l s
@[simp] theorem foldr_cipher {α : Type} (g : α → State → State) (h : ∀ a s, (g a s).cipher = s.cipher) (l : List α) (s : State) : (l.foldr g s).cipher = s.cipher := fold_right (fun s => s.cipher) g h l s
@[simp] theorem ite_skv (c : Prop) [Decidable c] (a b : State) : (if c then a else b).skv = if c then a.skv else b.skv := by split <;> rfl
@[simp] theorem foldl_skv {α : Type} (g : State → α → State) (h : ∀ s a, (g s a).skv = s.skv) (l : List α) (s : State) : (l.foldl g s).skv = s.skv := fold_left (fun s => s.skv) g h l s
@[simp] theorem foldr_skv {α : Type} (g : α → State → State) (h : ∀ a s, (g a s).skv = s.skv) (l : List α) (s : State) : (l.foldr g s).skv = s.skv := fold_right (fun s => s.skv) g h l s
@[simp] theorem ite_mc (c : Prop) [Decidable c] (a b : State) : (if c then a else b).mc = if c then a.mc else b.mc := by split <;> rfl
@[simp] theorem foldl_mc {α : Type} (g : State → α → State) (h : ∀ s a, (g s a).mc = s.mc) (l : List α) (s : State) : (l.foldl g s).mc = s.mc := fold_left (fun s => s.mc) g h l s
@[simp] theorem foldr_mc {α : Type} (g : α → State → State) (h : ∀ a s, (g a s).mc = s.mc) (l : List α) (s : State) : (l.foldr g s).mc = s.mc := fold_right (fun s => s.mc) g h l s
@[simp] theorem ite_media (c : Prop) [Decidable c] (a b : State) : (if c then a else b).media = if c then a.media else b.media := by split <;> rfl
@[simp] theorem foldl_media {α : Type} (g : State → α → State) (h : ∀ s a, (g s a).media = s.media) (l : List α) (s : State) : (l.foldl g s).media = s.media := fold_left (fun s => s.media) g h l s
@[simp] theorem foldr_media {α : Type} (g : α → State → State) (h : ∀ a s, (g a s).media = s.media) (l : List α) (s : State) : (l.foldr g s).media = s.media := fold_right (fun s => s.media) g h l s
@[simp] theorem ite_wheel_pins (c : Prop) [Decidable c] (a b : State) : (if c then a else b).wheel.pins = if c then a.wheel.pins else b.wheel.pins := by split <;> rfl
@[simp] theorem foldl_wheel_pins {α : Type} (g : State → α → State) (h : ∀ s a, (g s a).wheel.pins = s.wheel.pins) (l : List α) (s : State) : (l.foldl g s).wheel.pins = s.wheel.pins := fold_left (fun s => s.wheel.pins) g h l s
@[simp] theorem foldr_wheel_pins {α : Type} (g : α → State → State) (h : ∀ a s, (g a s).wheel.pins = s.wheel.pins) (l : List α) (s : State) : (l.foldr g s).wheel.pins = s.wheel.pins := fold_right (fun s => s.wheel.pins) g h l s
end Sys2Proof.Machine
end

