-- ==== Sys2Proof/Laws/KeptObserve.lean ====
section
/-! SUPPORT. What each function of Sys2Proof/Machine/Observe.lean leaves unchanged: one lemma a function. -/
set_option linter.unusedTactic false
set_option linter.unreachableTactic false
set_option linter.unusedSimpArgs false
namespace Sys2Proof.Machine

@[simp] theorem State.count_kept (s : State) (src : Nat) (inst : Nat) (n : Nat) :
    (State.count s src inst n).pending = s.pending ∧ (State.count s src inst n).wheel = s.wheel ∧ (State.count s src inst n).plan = s.plan ∧ (State.count s src inst n).rein = s.rein ∧ (State.count s src inst n).dram = s.dram ∧ (State.count s src inst n).dma = s.dma ∧ (State.count s src inst n).therm = s.therm ∧ (State.count s src inst n).img = s.img ∧ (State.count s src inst n).awl = s.awl ∧ (State.count s src inst n).codec = s.codec ∧ (State.count s src inst n).map = s.map ∧ (State.count s src inst n).blk = s.blk ∧ (State.count s src inst n).girth = s.girth ∧ (State.count s src inst n).wb = s.wb ∧ (State.count s src inst n).dump = s.dump ∧ (State.count s src inst n).cipher = s.cipher ∧ (State.count s src inst n).skv = s.skv ∧ (State.count s src inst n).mc = s.mc ∧ (State.count s src inst n).media = s.media := by
  simp [State.count]
@[simp] theorem State.count1_kept (s : State) (src : Nat) :
    (State.count1 s src).pending = s.pending ∧ (State.count1 s src).wheel = s.wheel ∧ (State.count1 s src).plan = s.plan ∧ (State.count1 s src).rein = s.rein ∧ (State.count1 s src).dram = s.dram ∧ (State.count1 s src).dma = s.dma ∧ (State.count1 s src).therm = s.therm ∧ (State.count1 s src).img = s.img ∧ (State.count1 s src).awl = s.awl ∧ (State.count1 s src).codec = s.codec ∧ (State.count1 s src).map = s.map ∧ (State.count1 s src).blk = s.blk ∧ (State.count1 s src).girth = s.girth ∧ (State.count1 s src).wb = s.wb ∧ (State.count1 s src).dump = s.dump ∧ (State.count1 s src).cipher = s.cipher ∧ (State.count1 s src).skv = s.skv ∧ (State.count1 s src).mc = s.mc ∧ (State.count1 s src).media = s.media := by
  simp [State.count1]
@[simp] theorem State.putRecord_kept (s : State) (r : SbRec) :
    (State.putRecord s r).pending = s.pending ∧ (State.putRecord s r).wheel = s.wheel ∧ (State.putRecord s r).plan = s.plan ∧ (State.putRecord s r).rein = s.rein ∧ (State.putRecord s r).dram = s.dram ∧ (State.putRecord s r).dma = s.dma ∧ (State.putRecord s r).therm = s.therm ∧ (State.putRecord s r).img = s.img ∧ (State.putRecord s r).awl = s.awl ∧ (State.putRecord s r).codec = s.codec ∧ (State.putRecord s r).map = s.map ∧ (State.putRecord s r).blk = s.blk ∧ (State.putRecord s r).girth = s.girth ∧ (State.putRecord s r).wb = s.wb ∧ (State.putRecord s r).dump = s.dump ∧ (State.putRecord s r).cipher = s.cipher ∧ (State.putRecord s r).skv = s.skv ∧ (State.putRecord s r).mc = s.mc ∧ (State.putRecord s r).media = s.media := by
  simp [State.putRecord]
@[simp] theorem State.recordEvent_kept (s : State) (code : Nat) (sev : Nat) (fields : List Nat) :
    (State.recordEvent s code sev fields).pending = s.pending ∧ (State.recordEvent s code sev fields).wheel = s.wheel ∧ (State.recordEvent s code sev fields).plan = s.plan ∧ (State.recordEvent s code sev fields).rein = s.rein ∧ (State.recordEvent s code sev fields).dram = s.dram ∧ (State.recordEvent s code sev fields).dma = s.dma ∧ (State.recordEvent s code sev fields).therm = s.therm ∧ (State.recordEvent s code sev fields).img = s.img ∧ (State.recordEvent s code sev fields).awl = s.awl ∧ (State.recordEvent s code sev fields).codec = s.codec ∧ (State.recordEvent s code sev fields).map = s.map ∧ (State.recordEvent s code sev fields).blk = s.blk ∧ (State.recordEvent s code sev fields).girth = s.girth ∧ (State.recordEvent s code sev fields).wb = s.wb ∧ (State.recordEvent s code sev fields).dump = s.dump ∧ (State.recordEvent s code sev fields).cipher = s.cipher ∧ (State.recordEvent s code sev fields).skv = s.skv ∧ (State.recordEvent s code sev fields).mc = s.mc ∧ (State.recordEvent s code sev fields).media = s.media := by
  simp [State.recordEvent]
@[simp] theorem State.leave_kept (s : State) (code : Nat) (sev : Nat) (fields : List Nat) :
    (State.leave s code sev fields).pending = s.pending ∧ (State.leave s code sev fields).wheel = s.wheel ∧ (State.leave s code sev fields).plan = s.plan ∧ (State.leave s code sev fields).rein = s.rein ∧ (State.leave s code sev fields).dram = s.dram ∧ (State.leave s code sev fields).dma = s.dma ∧ (State.leave s code sev fields).therm = s.therm ∧ (State.leave s code sev fields).img = s.img ∧ (State.leave s code sev fields).awl = s.awl ∧ (State.leave s code sev fields).codec = s.codec ∧ (State.leave s code sev fields).map = s.map ∧ (State.leave s code sev fields).blk = s.blk ∧ (State.leave s code sev fields).girth = s.girth ∧ (State.leave s code sev fields).wb = s.wb ∧ (State.leave s code sev fields).dump = s.dump ∧ (State.leave s code sev fields).cipher = s.cipher ∧ (State.leave s code sev fields).skv = s.skv ∧ (State.leave s code sev fields).mc = s.mc ∧ (State.leave s code sev fields).media = s.media := by
  simp [State.leave]
@[simp] theorem State.endHolding_kept (s : State) :
    (State.endHolding s).pending = s.pending ∧ (State.endHolding s).wheel = s.wheel ∧ (State.endHolding s).plan = s.plan ∧ (State.endHolding s).rein = s.rein ∧ (State.endHolding s).dram = s.dram ∧ (State.endHolding s).dma = s.dma ∧ (State.endHolding s).therm = s.therm ∧ (State.endHolding s).img = s.img ∧ (State.endHolding s).awl = s.awl ∧ (State.endHolding s).codec = s.codec ∧ (State.endHolding s).map = s.map ∧ (State.endHolding s).blk = s.blk ∧ (State.endHolding s).girth = s.girth ∧ (State.endHolding s).wb = s.wb ∧ (State.endHolding s).dump = s.dump ∧ (State.endHolding s).cipher = s.cipher ∧ (State.endHolding s).skv = s.skv ∧ (State.endHolding s).mc = s.mc ∧ (State.endHolding s).media = s.media := by
  simp [State.endHolding]
@[simp] theorem State.leaveSaturations_kept (s : State) :
    (State.leaveSaturations s).pending = s.pending ∧ (State.leaveSaturations s).wheel = s.wheel ∧ (State.leaveSaturations s).plan = s.plan ∧ (State.leaveSaturations s).rein = s.rein ∧ (State.leaveSaturations s).dram = s.dram ∧ (State.leaveSaturations s).dma = s.dma ∧ (State.leaveSaturations s).therm = s.therm ∧ (State.leaveSaturations s).img = s.img ∧ (State.leaveSaturations s).awl = s.awl ∧ (State.leaveSaturations s).codec = s.codec ∧ (State.leaveSaturations s).map = s.map ∧ (State.leaveSaturations s).blk = s.blk ∧ (State.leaveSaturations s).girth = s.girth ∧ (State.leaveSaturations s).wb = s.wb ∧ (State.leaveSaturations s).dump = s.dump ∧ (State.leaveSaturations s).cipher = s.cipher ∧ (State.leaveSaturations s).skv = s.skv ∧ (State.leaveSaturations s).mc = s.mc ∧ (State.leaveSaturations s).media = s.media := by
  simp [State.leaveSaturations]

end Sys2Proof.Machine
end

