-- ==== Sys2Proof/Laws/KeptArray.lean ====
section
/-! SUPPORT. What each function of Sys2Proof/Machine/Array.lean leaves unchanged: one lemma a function. -/
set_option linter.unusedTactic false
set_option linter.unreachableTactic false
set_option linter.unusedSimpArgs false
namespace Sys2Proof.Machine

@[simp] theorem State.writeRec_kept (s : State) (r : Region) (rec : TsRec) :
    (State.writeRec s r rec).pending = s.pending ∧ (State.writeRec s r rec).wheel = s.wheel ∧ (State.writeRec s r rec).plan = s.plan ∧ (State.writeRec s r rec).rein = s.rein ∧ (State.writeRec s r rec).dram = s.dram ∧ (State.writeRec s r rec).dma = s.dma ∧ (State.writeRec s r rec).therm = s.therm ∧ (State.writeRec s r rec).img = s.img ∧ (State.writeRec s r rec).awl = s.awl ∧ (State.writeRec s r rec).codec = s.codec ∧ (State.writeRec s r rec).map = s.map ∧ (State.writeRec s r rec).blk = s.blk ∧ (State.writeRec s r rec).girth = s.girth ∧ (State.writeRec s r rec).wb = s.wb ∧ (State.writeRec s r rec).dump = s.dump ∧ (State.writeRec s r rec).cipher = s.cipher ∧ (State.writeRec s r rec).skv = s.skv ∧ (State.writeRec s r rec).mc = s.mc ∧ (State.writeRec s r rec).media = s.media := by
  simp [State.writeRec]
@[simp] theorem State.arrayPump_kept (s : State) :
    (State.arrayPump s).pending = s.pending ∧ (State.arrayPump s).wheel = s.wheel ∧ (State.arrayPump s).plan = s.plan ∧ (State.arrayPump s).rein = s.rein ∧ (State.arrayPump s).dram = s.dram ∧ (State.arrayPump s).dma = s.dma ∧ (State.arrayPump s).therm = s.therm ∧ (State.arrayPump s).img = s.img ∧ (State.arrayPump s).awl = s.awl ∧ (State.arrayPump s).codec = s.codec ∧ (State.arrayPump s).map = s.map ∧ (State.arrayPump s).blk = s.blk ∧ (State.arrayPump s).girth = s.girth ∧ (State.arrayPump s).wb = s.wb ∧ (State.arrayPump s).dump = s.dump ∧ (State.arrayPump s).cipher = s.cipher ∧ (State.arrayPump s).skv = s.skv ∧ (State.arrayPump s).mc = s.mc ∧ (State.arrayPump s).media = s.media := by
  simp [State.arrayPump]

end Sys2Proof.Machine
end

