-- ==== Sys2Proof/Laws/KeptHost.lean ====
section
/-! SUPPORT. What each function of Sys2Proof/Machine/Host.lean leaves unchanged: one lemma a function. -/
set_option linter.unusedTactic false
set_option linter.unreachableTactic false
set_option linter.unusedSimpArgs false
namespace Sys2Proof.Machine

@[simp] theorem State.modPort_kept (s : State) (x : Sys2Proof.Rein) (f : ReinPort → ReinPort) :
    (State.modPort s x f).pending = s.pending ∧ (State.modPort s x f).wheel = s.wheel ∧ (State.modPort s x f).plan = s.plan ∧ (State.modPort s x f).dram = s.dram ∧ (State.modPort s x f).dma = s.dma ∧ (State.modPort s x f).therm = s.therm ∧ (State.modPort s x f).img = s.img ∧ (State.modPort s x f).awl = s.awl ∧ (State.modPort s x f).codec = s.codec ∧ (State.modPort s x f).map = s.map ∧ (State.modPort s x f).blk = s.blk ∧ (State.modPort s x f).girth = s.girth ∧ (State.modPort s x f).wb = s.wb ∧ (State.modPort s x f).dump = s.dump ∧ (State.modPort s x f).cipher = s.cipher ∧ (State.modPort s x f).skv = s.skv ∧ (State.modPort s x f).mc = s.mc ∧ (State.modPort s x f).media = s.media := by
  simp [State.modPort]
@[simp] theorem State.modCtrl_kept (s : State) (c : Nat) (f : Ctrl → Ctrl) :
    (State.modCtrl s c f).pending = s.pending ∧ (State.modCtrl s c f).wheel = s.wheel ∧ (State.modCtrl s c f).plan = s.plan ∧ (State.modCtrl s c f).rein = s.rein ∧ (State.modCtrl s c f).dram = s.dram ∧ (State.modCtrl s c f).dma = s.dma ∧ (State.modCtrl s c f).therm = s.therm ∧ (State.modCtrl s c f).img = s.img ∧ (State.modCtrl s c f).awl = s.awl ∧ (State.modCtrl s c f).codec = s.codec ∧ (State.modCtrl s c f).map = s.map ∧ (State.modCtrl s c f).blk = s.blk ∧ (State.modCtrl s c f).girth = s.girth ∧ (State.modCtrl s c f).wb = s.wb ∧ (State.modCtrl s c f).dump = s.dump ∧ (State.modCtrl s c f).cipher = s.cipher ∧ (State.modCtrl s c f).skv = s.skv ∧ (State.modCtrl s c f).mc = s.mc ∧ (State.modCtrl s c f).media = s.media := by
  simp [State.modCtrl]
@[simp] theorem State.setSq_kept (s : State) (k : Nat) (q : Sq) :
    (State.setSq s k q).pending = s.pending ∧ (State.setSq s k q).wheel = s.wheel ∧ (State.setSq s k q).plan = s.plan ∧ (State.setSq s k q).rein = s.rein ∧ (State.setSq s k q).dram = s.dram ∧ (State.setSq s k q).dma = s.dma ∧ (State.setSq s k q).therm = s.therm ∧ (State.setSq s k q).img = s.img ∧ (State.setSq s k q).awl = s.awl ∧ (State.setSq s k q).codec = s.codec ∧ (State.setSq s k q).map = s.map ∧ (State.setSq s k q).blk = s.blk ∧ (State.setSq s k q).girth = s.girth ∧ (State.setSq s k q).wb = s.wb ∧ (State.setSq s k q).dump = s.dump ∧ (State.setSq s k q).cipher = s.cipher ∧ (State.setSq s k q).skv = s.skv ∧ (State.setSq s k q).mc = s.mc ∧ (State.setSq s k q).media = s.media := by
  simp [State.setSq]
@[simp] theorem State.setCq_kept (s : State) (k : Nat) (q : Cq) :
    (State.setCq s k q).pending = s.pending ∧ (State.setCq s k q).wheel = s.wheel ∧ (State.setCq s k q).plan = s.plan ∧ (State.setCq s k q).rein = s.rein ∧ (State.setCq s k q).dram = s.dram ∧ (State.setCq s k q).dma = s.dma ∧ (State.setCq s k q).therm = s.therm ∧ (State.setCq s k q).img = s.img ∧ (State.setCq s k q).awl = s.awl ∧ (State.setCq s k q).codec = s.codec ∧ (State.setCq s k q).map = s.map ∧ (State.setCq s k q).blk = s.blk ∧ (State.setCq s k q).girth = s.girth ∧ (State.setCq s k q).wb = s.wb ∧ (State.setCq s k q).dump = s.dump ∧ (State.setCq s k q).cipher = s.cipher ∧ (State.setCq s k q).skv = s.skv ∧ (State.setCq s k q).mc = s.mc ∧ (State.setCq s k q).media = s.media := by
  simp [State.setCq]
@[simp] theorem State.setCmd_kept (s : State) (tag : Nat) (c : Cmd) :
    (State.setCmd s tag c).pending = s.pending ∧ (State.setCmd s tag c).wheel = s.wheel ∧ (State.setCmd s tag c).plan = s.plan ∧ (State.setCmd s tag c).rein = s.rein ∧ (State.setCmd s tag c).dram = s.dram ∧ (State.setCmd s tag c).dma = s.dma ∧ (State.setCmd s tag c).therm = s.therm ∧ (State.setCmd s tag c).img = s.img ∧ (State.setCmd s tag c).awl = s.awl ∧ (State.setCmd s tag c).codec = s.codec ∧ (State.setCmd s tag c).map = s.map ∧ (State.setCmd s tag c).blk = s.blk ∧ (State.setCmd s tag c).girth = s.girth ∧ (State.setCmd s tag c).wb = s.wb ∧ (State.setCmd s tag c).dump = s.dump ∧ (State.setCmd s tag c).cipher = s.cipher ∧ (State.setCmd s tag c).skv = s.skv ∧ (State.setCmd s tag c).mc = s.mc ∧ (State.setCmd s tag c).media = s.media := by
  simp [State.setCmd]
@[simp] theorem State.modCmd_kept (s : State) (tag : Nat) (f : Cmd → Cmd) :
    (State.modCmd s tag f).pending = s.pending ∧ (State.modCmd s tag f).wheel = s.wheel ∧ (State.modCmd s tag f).plan = s.plan ∧ (State.modCmd s tag f).rein = s.rein ∧ (State.modCmd s tag f).dram = s.dram ∧ (State.modCmd s tag f).dma = s.dma ∧ (State.modCmd s tag f).therm = s.therm ∧ (State.modCmd s tag f).img = s.img ∧ (State.modCmd s tag f).awl = s.awl ∧ (State.modCmd s tag f).codec = s.codec ∧ (State.modCmd s tag f).map = s.map ∧ (State.modCmd s tag f).blk = s.blk ∧ (State.modCmd s tag f).girth = s.girth ∧ (State.modCmd s tag f).wb = s.wb ∧ (State.modCmd s tag f).dump = s.dump ∧ (State.modCmd s tag f).cipher = s.cipher ∧ (State.modCmd s tag f).skv = s.skv ∧ (State.modCmd s tag f).mc = s.mc ∧ (State.modCmd s tag f).media = s.media := by
  simp [State.modCmd]
@[simp] theorem State.smartCount_kept (s : State) (c : Cmd) (ok : Bool) :
    (State.smartCount s c ok).pending = s.pending ∧ (State.smartCount s c ok).wheel = s.wheel ∧ (State.smartCount s c ok).plan = s.plan ∧ (State.smartCount s c ok).rein = s.rein ∧ (State.smartCount s c ok).dram = s.dram ∧ (State.smartCount s c ok).dma = s.dma ∧ (State.smartCount s c ok).therm = s.therm ∧ (State.smartCount s c ok).img = s.img ∧ (State.smartCount s c ok).awl = s.awl ∧ (State.smartCount s c ok).codec = s.codec ∧ (State.smartCount s c ok).map = s.map ∧ (State.smartCount s c ok).blk = s.blk ∧ (State.smartCount s c ok).girth = s.girth ∧ (State.smartCount s c ok).wb = s.wb ∧ (State.smartCount s c ok).dump = s.dump ∧ (State.smartCount s c ok).cipher = s.cipher ∧ (State.smartCount s c ok).skv = s.skv ∧ (State.smartCount s c ok).mc = s.mc ∧ (State.smartCount s c ok).media = s.media := by
  simp [State.smartCount]
@[simp] theorem State.countCompleted_kept (s : State) (c : Cmd) :
    (State.countCompleted s c).pending = s.pending ∧ (State.countCompleted s c).wheel = s.wheel ∧ (State.countCompleted s c).plan = s.plan ∧ (State.countCompleted s c).rein = s.rein ∧ (State.countCompleted s c).dram = s.dram ∧ (State.countCompleted s c).dma = s.dma ∧ (State.countCompleted s c).therm = s.therm ∧ (State.countCompleted s c).img = s.img ∧ (State.countCompleted s c).awl = s.awl ∧ (State.countCompleted s c).codec = s.codec ∧ (State.countCompleted s c).map = s.map ∧ (State.countCompleted s c).blk = s.blk ∧ (State.countCompleted s c).girth = s.girth ∧ (State.countCompleted s c).wb = s.wb ∧ (State.countCompleted s c).dump = s.dump ∧ (State.countCompleted s c).cipher = s.cipher ∧ (State.countCompleted s c).skv = s.skv ∧ (State.countCompleted s c).mc = s.mc ∧ (State.countCompleted s c).media = s.media := by
  simp [State.countCompleted]
@[simp] theorem State.addError_kept (s : State) (ctrl : Nat) (sqid : Nat) (cid : Nat) (status : Nat) (nsid : Nat) (lba : Nat) (vendor : Nat) :
    (State.addError s ctrl sqid cid status nsid lba vendor).pending = s.pending ∧ (State.addError s ctrl sqid cid status nsid lba vendor).wheel = s.wheel ∧ (State.addError s ctrl sqid cid status nsid lba vendor).plan = s.plan ∧ (State.addError s ctrl sqid cid status nsid lba vendor).rein = s.rein ∧ (State.addError s ctrl sqid cid status nsid lba vendor).dram = s.dram ∧ (State.addError s ctrl sqid cid status nsid lba vendor).dma = s.dma ∧ (State.addError s ctrl sqid cid status nsid lba vendor).therm = s.therm ∧ (State.addError s ctrl sqid cid status nsid lba vendor).img = s.img ∧ (State.addError s ctrl sqid cid status nsid lba vendor).awl = s.awl ∧ (State.addError s ctrl sqid cid status nsid lba vendor).codec = s.codec ∧ (State.addError s ctrl sqid cid status nsid lba vendor).map = s.map ∧ (State.addError s ctrl sqid cid status nsid lba vendor).blk = s.blk ∧ (State.addError s ctrl sqid cid status nsid lba vendor).girth = s.girth ∧ (State.addError s ctrl sqid cid status nsid lba vendor).wb = s.wb ∧ (State.addError s ctrl sqid cid status nsid lba vendor).dump = s.dump ∧ (State.addError s ctrl sqid cid status nsid lba vendor).cipher = s.cipher ∧ (State.addError s ctrl sqid cid status nsid lba vendor).skv = s.skv ∧ (State.addError s ctrl sqid cid status nsid lba vendor).mc = s.mc ∧ (State.addError s ctrl sqid cid status nsid lba vendor).media = s.media := by
  simp [State.addError]
@[simp] theorem State.leasePosted_kept (s : State) (tag : Nat) :
    (State.leasePosted s tag).pending = s.pending ∧ (State.leasePosted s tag).wheel = s.wheel ∧ (State.leasePosted s tag).plan = s.plan ∧ (State.leasePosted s tag).rein = s.rein ∧ (State.leasePosted s tag).dram = s.dram ∧ (State.leasePosted s tag).dma = s.dma ∧ (State.leasePosted s tag).therm = s.therm ∧ (State.leasePosted s tag).img = s.img ∧ (State.leasePosted s tag).awl = s.awl ∧ (State.leasePosted s tag).codec = s.codec ∧ (State.leasePosted s tag).map = s.map ∧ (State.leasePosted s tag).blk = s.blk ∧ (State.leasePosted s tag).girth = s.girth ∧ (State.leasePosted s tag).wb = s.wb ∧ (State.leasePosted s tag).dump = s.dump ∧ (State.leasePosted s tag).cipher = s.cipher ∧ (State.leasePosted s tag).skv = s.skv ∧ (State.leasePosted s tag).mc = s.mc ∧ (State.leasePosted s tag).media = s.media := by
  simp [State.leasePosted]
@[simp] theorem State.postSide_kept (s : State) (tag : Nat) (r : CmdResult) (owed : Sys2Proof.Rein × Nat) :
    (State.postSide s tag r owed).pending = s.pending ∧ (State.postSide s tag r owed).wheel = s.wheel ∧ (State.postSide s tag r owed).plan = s.plan ∧ (State.postSide s tag r owed).rein = s.rein ∧ (State.postSide s tag r owed).dram = s.dram ∧ (State.postSide s tag r owed).dma = s.dma ∧ (State.postSide s tag r owed).therm = s.therm ∧ (State.postSide s tag r owed).img = s.img ∧ (State.postSide s tag r owed).awl = s.awl ∧ (State.postSide s tag r owed).codec = s.codec ∧ (State.postSide s tag r owed).map = s.map ∧ (State.postSide s tag r owed).blk = s.blk ∧ (State.postSide s tag r owed).girth = s.girth ∧ (State.postSide s tag r owed).wb = s.wb ∧ (State.postSide s tag r owed).dump = s.dump ∧ (State.postSide s tag r owed).cipher = s.cipher ∧ (State.postSide s tag r owed).skv = s.skv ∧ (State.postSide s tag r owed).mc = s.mc ∧ (State.postSide s tag r owed).media = s.media := by
  unfold State.postSide; (repeat' split) <;> simp
@[simp] theorem State.tunnelEnds_kept (s : State) (c : Cmd) (r : CmdResult) :
    (State.tunnelEnds s c r).pending = s.pending ∧ (State.tunnelEnds s c r).wheel = s.wheel ∧ (State.tunnelEnds s c r).plan = s.plan ∧ (State.tunnelEnds s c r).rein = s.rein ∧ (State.tunnelEnds s c r).dram = s.dram ∧ (State.tunnelEnds s c r).dma = s.dma ∧ (State.tunnelEnds s c r).therm = s.therm ∧ (State.tunnelEnds s c r).img = s.img ∧ (State.tunnelEnds s c r).awl = s.awl ∧ (State.tunnelEnds s c r).codec = s.codec ∧ (State.tunnelEnds s c r).map = s.map ∧ (State.tunnelEnds s c r).blk = s.blk ∧ (State.tunnelEnds s c r).girth = s.girth ∧ (State.tunnelEnds s c r).wb = s.wb ∧ (State.tunnelEnds s c r).dump = s.dump ∧ (State.tunnelEnds s c r).cipher = s.cipher ∧ (State.tunnelEnds s c r).skv = s.skv ∧ (State.tunnelEnds s c r).mc = s.mc ∧ (State.tunnelEnds s c r).media = s.media := by
  simp [State.tunnelEnds]
@[simp] theorem State.freeIfDone_kept (s : State) (tag : Nat) :
    (State.freeIfDone s tag).pending = s.pending ∧ (State.freeIfDone s tag).wheel = s.wheel ∧ (State.freeIfDone s tag).plan = s.plan ∧ (State.freeIfDone s tag).rein = s.rein ∧ (State.freeIfDone s tag).dram = s.dram ∧ (State.freeIfDone s tag).dma = s.dma ∧ (State.freeIfDone s tag).therm = s.therm ∧ (State.freeIfDone s tag).img = s.img ∧ (State.freeIfDone s tag).awl = s.awl ∧ (State.freeIfDone s tag).codec = s.codec ∧ (State.freeIfDone s tag).map = s.map ∧ (State.freeIfDone s tag).blk = s.blk ∧ (State.freeIfDone s tag).girth = s.girth ∧ (State.freeIfDone s tag).wb = s.wb ∧ (State.freeIfDone s tag).dump = s.dump ∧ (State.freeIfDone s tag).cipher = s.cipher ∧ (State.freeIfDone s tag).skv = s.skv ∧ (State.freeIfDone s tag).mc = s.mc ∧ (State.freeIfDone s tag).media = s.media := by
  unfold State.freeIfDone; split <;> simp
@[simp] theorem State.postCmd_kept (s : State) (tag : Nat) :
    (State.postCmd s tag).pending = s.pending ∧ (State.postCmd s tag).wheel = s.wheel ∧ (State.postCmd s tag).plan = s.plan ∧ (State.postCmd s tag).rein = s.rein ∧ (State.postCmd s tag).dram = s.dram ∧ (State.postCmd s tag).dma = s.dma ∧ (State.postCmd s tag).therm = s.therm ∧ (State.postCmd s tag).img = s.img ∧ (State.postCmd s tag).awl = s.awl ∧ (State.postCmd s tag).codec = s.codec ∧ (State.postCmd s tag).map = s.map ∧ (State.postCmd s tag).blk = s.blk ∧ (State.postCmd s tag).girth = s.girth ∧ (State.postCmd s tag).wb = s.wb ∧ (State.postCmd s tag).dump = s.dump ∧ (State.postCmd s tag).cipher = s.cipher ∧ (State.postCmd s tag).skv = s.skv ∧ (State.postCmd s tag).mc = s.mc ∧ (State.postCmd s tag).media = s.media := by
  unfold State.postCmd; (repeat' split) <;> simp
@[simp] theorem State.postMismatch_kept (s : State) (m : Nat × Sys2Proof.Rein × BitVec 32 × CqEntry) :
    (State.postMismatch s m).pending = s.pending ∧ (State.postMismatch s m).wheel = s.wheel ∧ (State.postMismatch s m).plan = s.plan ∧ (State.postMismatch s m).rein = s.rein ∧ (State.postMismatch s m).dram = s.dram ∧ (State.postMismatch s m).dma = s.dma ∧ (State.postMismatch s m).therm = s.therm ∧ (State.postMismatch s m).img = s.img ∧ (State.postMismatch s m).awl = s.awl ∧ (State.postMismatch s m).codec = s.codec ∧ (State.postMismatch s m).map = s.map ∧ (State.postMismatch s m).blk = s.blk ∧ (State.postMismatch s m).girth = s.girth ∧ (State.postMismatch s m).wb = s.wb ∧ (State.postMismatch s m).dump = s.dump ∧ (State.postMismatch s m).cipher = s.cipher ∧ (State.postMismatch s m).skv = s.skv ∧ (State.postMismatch s m).mc = s.mc ∧ (State.postMismatch s m).media = s.media := by
  unfold State.postMismatch; (repeat' split) <;> simp
@[simp] theorem State.postAll_kept (s : State) :
    (State.postAll s).pending = s.pending ∧ (State.postAll s).wheel = s.wheel ∧ (State.postAll s).plan = s.plan ∧ (State.postAll s).rein = s.rein ∧ (State.postAll s).dram = s.dram ∧ (State.postAll s).dma = s.dma ∧ (State.postAll s).therm = s.therm ∧ (State.postAll s).img = s.img ∧ (State.postAll s).awl = s.awl ∧ (State.postAll s).codec = s.codec ∧ (State.postAll s).map = s.map ∧ (State.postAll s).blk = s.blk ∧ (State.postAll s).girth = s.girth ∧ (State.postAll s).wb = s.wb ∧ (State.postAll s).dump = s.dump ∧ (State.postAll s).cipher = s.cipher ∧ (State.postAll s).skv = s.skv ∧ (State.postAll s).mc = s.mc ∧ (State.postAll s).media = s.media := by
  simp [State.postAll]
@[simp] theorem State.finishCode_kept (s : State) (tag : Nat) (r : CmdResult) (code : Nat) :
    (State.finishCode s tag r code).pending = s.pending ∧ (State.finishCode s tag r code).wheel = s.wheel ∧ (State.finishCode s tag r code).plan = s.plan ∧ (State.finishCode s tag r code).rein = s.rein ∧ (State.finishCode s tag r code).dram = s.dram ∧ (State.finishCode s tag r code).dma = s.dma ∧ (State.finishCode s tag r code).therm = s.therm ∧ (State.finishCode s tag r code).img = s.img ∧ (State.finishCode s tag r code).awl = s.awl ∧ (State.finishCode s tag r code).codec = s.codec ∧ (State.finishCode s tag r code).map = s.map ∧ (State.finishCode s tag r code).blk = s.blk ∧ (State.finishCode s tag r code).girth = s.girth ∧ (State.finishCode s tag r code).wb = s.wb ∧ (State.finishCode s tag r code).dump = s.dump ∧ (State.finishCode s tag r code).cipher = s.cipher ∧ (State.finishCode s tag r code).skv = s.skv ∧ (State.finishCode s tag r code).mc = s.mc ∧ (State.finishCode s tag r code).media = s.media := by
  unfold State.finishCode; split <;> simp
@[simp] theorem State.finish_kept (s : State) (tag : Nat) (r : CmdResult) :
    (State.finish s tag r).pending = s.pending ∧ (State.finish s tag r).wheel = s.wheel ∧ (State.finish s tag r).plan = s.plan ∧ (State.finish s tag r).rein = s.rein ∧ (State.finish s tag r).dram = s.dram ∧ (State.finish s tag r).dma = s.dma ∧ (State.finish s tag r).therm = s.therm ∧ (State.finish s tag r).img = s.img ∧ (State.finish s tag r).awl = s.awl ∧ (State.finish s tag r).codec = s.codec ∧ (State.finish s tag r).map = s.map ∧ (State.finish s tag r).blk = s.blk ∧ (State.finish s tag r).girth = s.girth ∧ (State.finish s tag r).wb = s.wb ∧ (State.finish s tag r).dump = s.dump ∧ (State.finish s tag r).cipher = s.cipher ∧ (State.finish s tag r).skv = s.skv ∧ (State.finish s tag r).mc = s.mc ∧ (State.finish s tag r).media = s.media := by
  simp [State.finish]
@[simp] theorem State.answer_kept (s : State) (tag : Nat) (data : List Sys2Proof.Byte) :
    (State.answer s tag data).pending = s.pending ∧ (State.answer s tag data).wheel = s.wheel ∧ (State.answer s tag data).plan = s.plan ∧ (State.answer s tag data).rein = s.rein ∧ (State.answer s tag data).dram = s.dram ∧ (State.answer s tag data).dma = s.dma ∧ (State.answer s tag data).therm = s.therm ∧ (State.answer s tag data).img = s.img ∧ (State.answer s tag data).awl = s.awl ∧ (State.answer s tag data).codec = s.codec ∧ (State.answer s tag data).map = s.map ∧ (State.answer s tag data).blk = s.blk ∧ (State.answer s tag data).girth = s.girth ∧ (State.answer s tag data).wb = s.wb ∧ (State.answer s tag data).dump = s.dump ∧ (State.answer s tag data).cipher = s.cipher ∧ (State.answer s tag data).skv = s.skv ∧ (State.answer s tag data).mc = s.mc ∧ (State.answer s tag data).media = s.media := by
  simp [State.answer]
@[simp] theorem State.malformed_kept (s : State) (tag : Nat) (c : Cmd) (r : CmdResult) :
    (State.malformed s tag c r).pending = s.pending ∧ (State.malformed s tag c r).wheel = s.wheel ∧ (State.malformed s tag c r).plan = s.plan ∧ (State.malformed s tag c r).rein = s.rein ∧ (State.malformed s tag c r).dram = s.dram ∧ (State.malformed s tag c r).dma = s.dma ∧ (State.malformed s tag c r).therm = s.therm ∧ (State.malformed s tag c r).img = s.img ∧ (State.malformed s tag c r).awl = s.awl ∧ (State.malformed s tag c r).codec = s.codec ∧ (State.malformed s tag c r).map = s.map ∧ (State.malformed s tag c r).blk = s.blk ∧ (State.malformed s tag c r).girth = s.girth ∧ (State.malformed s tag c r).wb = s.wb ∧ (State.malformed s tag c r).dump = s.dump ∧ (State.malformed s tag c r).cipher = s.cipher ∧ (State.malformed s tag c r).skv = s.skv ∧ (State.malformed s tag c r).mc = s.mc ∧ (State.malformed s tag c r).media = s.media := by
  simp [State.malformed]
@[simp] theorem State.tunnelIn_kept (s : State) (key : Nat) (entry : BitVec 512) :
    (State.tunnelIn s key entry).2.pending = s.pending ∧ (State.tunnelIn s key entry).2.wheel = s.wheel ∧ (State.tunnelIn s key entry).2.plan = s.plan ∧ (State.tunnelIn s key entry).2.rein = s.rein ∧ (State.tunnelIn s key entry).2.dram = s.dram ∧ (State.tunnelIn s key entry).2.dma = s.dma ∧ (State.tunnelIn s key entry).2.therm = s.therm ∧ (State.tunnelIn s key entry).2.img = s.img ∧ (State.tunnelIn s key entry).2.awl = s.awl ∧ (State.tunnelIn s key entry).2.codec = s.codec ∧ (State.tunnelIn s key entry).2.map = s.map ∧ (State.tunnelIn s key entry).2.blk = s.blk ∧ (State.tunnelIn s key entry).2.girth = s.girth ∧ (State.tunnelIn s key entry).2.wb = s.wb ∧ (State.tunnelIn s key entry).2.dump = s.dump ∧ (State.tunnelIn s key entry).2.cipher = s.cipher ∧ (State.tunnelIn s key entry).2.skv = s.skv ∧ (State.tunnelIn s key entry).2.mc = s.mc ∧ (State.tunnelIn s key entry).2.media = s.media := by
  simp [State.tunnelIn]
theorem State.tunnelIn_fwd {s : State} {key : Nat} {entry : BitVec 512} {z : _} {z2 : State} (hz : State.tunnelIn s key entry = (z, z2)) : z2.pending = s.pending ∧ z2.wheel = s.wheel ∧ z2.plan = s.plan ∧ z2.rein = s.rein ∧ z2.dram = s.dram ∧ z2.dma = s.dma ∧ z2.therm = s.therm ∧ z2.img = s.img ∧ z2.awl = s.awl ∧ z2.codec = s.codec ∧ z2.map = s.map ∧ z2.blk = s.blk ∧ z2.girth = s.girth ∧ z2.wb = s.wb ∧ z2.dump = s.dump ∧ z2.cipher = s.cipher ∧ z2.skv = s.skv ∧ z2.mc = s.mc ∧ z2.media = s.media := by
  have h := State.tunnelIn_kept s key entry
  rw [hz] at h; exact h
@[simp] theorem State.tunnelStopped_kept (s : State) (key : Nat) (entry : BitVec 512) :
    (State.tunnelStopped s key entry).pending = s.pending ∧ (State.tunnelStopped s key entry).wheel = s.wheel ∧ (State.tunnelStopped s key entry).plan = s.plan ∧ (State.tunnelStopped s key entry).rein = s.rein ∧ (State.tunnelStopped s key entry).dram = s.dram ∧ (State.tunnelStopped s key entry).dma = s.dma ∧ (State.tunnelStopped s key entry).therm = s.therm ∧ (State.tunnelStopped s key entry).img = s.img ∧ (State.tunnelStopped s key entry).awl = s.awl ∧ (State.tunnelStopped s key entry).codec = s.codec ∧ (State.tunnelStopped s key entry).map = s.map ∧ (State.tunnelStopped s key entry).blk = s.blk ∧ (State.tunnelStopped s key entry).girth = s.girth ∧ (State.tunnelStopped s key entry).wb = s.wb ∧ (State.tunnelStopped s key entry).dump = s.dump ∧ (State.tunnelStopped s key entry).cipher = s.cipher ∧ (State.tunnelStopped s key entry).skv = s.skv ∧ (State.tunnelStopped s key entry).mc = s.mc ∧ (State.tunnelStopped s key entry).media = s.media := by
  simp [State.tunnelStopped]
@[simp] theorem State.eventOn_kept (s : State) (c : Nat) (r : Sys2Proof.Rein) (e : Event) :
    (State.eventOn s c r e).pending = s.pending ∧ (State.eventOn s c r e).wheel = s.wheel ∧ (State.eventOn s c r e).plan = s.plan ∧ (State.eventOn s c r e).rein = s.rein ∧ (State.eventOn s c r e).dram = s.dram ∧ (State.eventOn s c r e).dma = s.dma ∧ (State.eventOn s c r e).therm = s.therm ∧ (State.eventOn s c r e).img = s.img ∧ (State.eventOn s c r e).awl = s.awl ∧ (State.eventOn s c r e).codec = s.codec ∧ (State.eventOn s c r e).map = s.map ∧ (State.eventOn s c r e).blk = s.blk ∧ (State.eventOn s c r e).girth = s.girth ∧ (State.eventOn s c r e).wb = s.wb ∧ (State.eventOn s c r e).dump = s.dump ∧ (State.eventOn s c r e).cipher = s.cipher ∧ (State.eventOn s c r e).skv = s.skv ∧ (State.eventOn s c r e).mc = s.mc ∧ (State.eventOn s c r e).media = s.media := by
  unfold State.eventOn; (repeat' split) <;> simp
@[simp] theorem State.event_kept (s : State) (e : Event) :
    (State.event s e).pending = s.pending ∧ (State.event s e).wheel = s.wheel ∧ (State.event s e).plan = s.plan ∧ (State.event s e).rein = s.rein ∧ (State.event s e).dram = s.dram ∧ (State.event s e).dma = s.dma ∧ (State.event s e).therm = s.therm ∧ (State.event s e).img = s.img ∧ (State.event s e).awl = s.awl ∧ (State.event s e).codec = s.codec ∧ (State.event s e).map = s.map ∧ (State.event s e).blk = s.blk ∧ (State.event s e).girth = s.girth ∧ (State.event s e).wb = s.wb ∧ (State.event s e).dump = s.dump ∧ (State.event s e).cipher = s.cipher ∧ (State.event s e).skv = s.skv ∧ (State.event s e).mc = s.mc ∧ (State.event s e).media = s.media := by
  simp [State.event]
@[simp] theorem State.ctrlEvent_kept (s : State) (c : Nat) (e : Event) :
    (State.ctrlEvent s c e).pending = s.pending ∧ (State.ctrlEvent s c e).wheel = s.wheel ∧ (State.ctrlEvent s c e).plan = s.plan ∧ (State.ctrlEvent s c e).rein = s.rein ∧ (State.ctrlEvent s c e).dram = s.dram ∧ (State.ctrlEvent s c e).dma = s.dma ∧ (State.ctrlEvent s c e).therm = s.therm ∧ (State.ctrlEvent s c e).img = s.img ∧ (State.ctrlEvent s c e).awl = s.awl ∧ (State.ctrlEvent s c e).codec = s.codec ∧ (State.ctrlEvent s c e).map = s.map ∧ (State.ctrlEvent s c e).blk = s.blk ∧ (State.ctrlEvent s c e).girth = s.girth ∧ (State.ctrlEvent s c e).wb = s.wb ∧ (State.ctrlEvent s c e).dump = s.dump ∧ (State.ctrlEvent s c e).cipher = s.cipher ∧ (State.ctrlEvent s c e).skv = s.skv ∧ (State.ctrlEvent s c e).mc = s.mc ∧ (State.ctrlEvent s c e).media = s.media := by
  simp [State.ctrlEvent]
@[simp] theorem State.vendorEvent_kept (s : State) (info : Nat) (page : Nat) :
    (State.vendorEvent s info page).pending = s.pending ∧ (State.vendorEvent s info page).wheel = s.wheel ∧ (State.vendorEvent s info page).plan = s.plan ∧ (State.vendorEvent s info page).rein = s.rein ∧ (State.vendorEvent s info page).dram = s.dram ∧ (State.vendorEvent s info page).dma = s.dma ∧ (State.vendorEvent s info page).therm = s.therm ∧ (State.vendorEvent s info page).img = s.img ∧ (State.vendorEvent s info page).awl = s.awl ∧ (State.vendorEvent s info page).codec = s.codec ∧ (State.vendorEvent s info page).map = s.map ∧ (State.vendorEvent s info page).blk = s.blk ∧ (State.vendorEvent s info page).girth = s.girth ∧ (State.vendorEvent s info page).wb = s.wb ∧ (State.vendorEvent s info page).dump = s.dump ∧ (State.vendorEvent s info page).cipher = s.cipher ∧ (State.vendorEvent s info page).skv = s.skv ∧ (State.vendorEvent s info page).mc = s.mc ∧ (State.vendorEvent s info page).media = s.media := by
  simp [State.vendorEvent]
@[simp] theorem State.setFeat_kept (s : State) (fid : Nat) (ctrl : Nat) (n : Nat) (v : Nat) :
    (State.setFeat s fid ctrl n v).pending = s.pending ∧ (State.setFeat s fid ctrl n v).wheel = s.wheel ∧ (State.setFeat s fid ctrl n v).plan = s.plan ∧ (State.setFeat s fid ctrl n v).rein = s.rein ∧ (State.setFeat s fid ctrl n v).dram = s.dram ∧ (State.setFeat s fid ctrl n v).dma = s.dma ∧ (State.setFeat s fid ctrl n v).therm = s.therm ∧ (State.setFeat s fid ctrl n v).img = s.img ∧ (State.setFeat s fid ctrl n v).awl = s.awl ∧ (State.setFeat s fid ctrl n v).codec = s.codec ∧ (State.setFeat s fid ctrl n v).map = s.map ∧ (State.setFeat s fid ctrl n v).blk = s.blk ∧ (State.setFeat s fid ctrl n v).girth = s.girth ∧ (State.setFeat s fid ctrl n v).wb = s.wb ∧ (State.setFeat s fid ctrl n v).dump = s.dump ∧ (State.setFeat s fid ctrl n v).cipher = s.cipher ∧ (State.setFeat s fid ctrl n v).skv = s.skv ∧ (State.setFeat s fid ctrl n v).mc = s.mc ∧ (State.setFeat s fid ctrl n v).media = s.media := by
  simp [State.setFeat]
@[simp] theorem State.fdpEvent_kept (s : State) (event : Nat) (handle : Nat) :
    (State.fdpEvent s event handle).pending = s.pending ∧ (State.fdpEvent s event handle).wheel = s.wheel ∧ (State.fdpEvent s event handle).plan = s.plan ∧ (State.fdpEvent s event handle).rein = s.rein ∧ (State.fdpEvent s event handle).dram = s.dram ∧ (State.fdpEvent s event handle).dma = s.dma ∧ (State.fdpEvent s event handle).therm = s.therm ∧ (State.fdpEvent s event handle).img = s.img ∧ (State.fdpEvent s event handle).awl = s.awl ∧ (State.fdpEvent s event handle).codec = s.codec ∧ (State.fdpEvent s event handle).map = s.map ∧ (State.fdpEvent s event handle).blk = s.blk ∧ (State.fdpEvent s event handle).girth = s.girth ∧ (State.fdpEvent s event handle).wb = s.wb ∧ (State.fdpEvent s event handle).dump = s.dump ∧ (State.fdpEvent s event handle).cipher = s.cipher ∧ (State.fdpEvent s event handle).skv = s.skv ∧ (State.fdpEvent s event handle).mc = s.mc ∧ (State.fdpEvent s event handle).media = s.media := by
  simp [State.fdpEvent]
@[simp] theorem State.smartEvent_kept (s : State) (b : Nat) (info : Nat) :
    (State.smartEvent s b info).pending = s.pending ∧ (State.smartEvent s b info).wheel = s.wheel ∧ (State.smartEvent s b info).plan = s.plan ∧ (State.smartEvent s b info).rein = s.rein ∧ (State.smartEvent s b info).dram = s.dram ∧ (State.smartEvent s b info).dma = s.dma ∧ (State.smartEvent s b info).therm = s.therm ∧ (State.smartEvent s b info).img = s.img ∧ (State.smartEvent s b info).awl = s.awl ∧ (State.smartEvent s b info).codec = s.codec ∧ (State.smartEvent s b info).map = s.map ∧ (State.smartEvent s b info).blk = s.blk ∧ (State.smartEvent s b info).girth = s.girth ∧ (State.smartEvent s b info).wb = s.wb ∧ (State.smartEvent s b info).dump = s.dump ∧ (State.smartEvent s b info).cipher = s.cipher ∧ (State.smartEvent s b info).skv = s.skv ∧ (State.smartEvent s b info).mc = s.mc ∧ (State.smartEvent s b info).media = s.media := by
  simp [State.smartEvent]
@[simp] theorem State.clearEvents_kept (s : State) (c : Nat) (page : Nat) :
    (State.clearEvents s c page).pending = s.pending ∧ (State.clearEvents s c page).wheel = s.wheel ∧ (State.clearEvents s c page).plan = s.plan ∧ (State.clearEvents s c page).rein = s.rein ∧ (State.clearEvents s c page).dram = s.dram ∧ (State.clearEvents s c page).dma = s.dma ∧ (State.clearEvents s c page).therm = s.therm ∧ (State.clearEvents s c page).img = s.img ∧ (State.clearEvents s c page).awl = s.awl ∧ (State.clearEvents s c page).codec = s.codec ∧ (State.clearEvents s c page).map = s.map ∧ (State.clearEvents s c page).blk = s.blk ∧ (State.clearEvents s c page).girth = s.girth ∧ (State.clearEvents s c page).wb = s.wb ∧ (State.clearEvents s c page).dump = s.dump ∧ (State.clearEvents s c page).cipher = s.cipher ∧ (State.clearEvents s c page).skv = s.skv ∧ (State.clearEvents s c page).mc = s.mc ∧ (State.clearEvents s c page).media = s.media := by
  simp [State.clearEvents]
@[simp] theorem State.dropOwed_kept (s : State) (k : Nat) (r : Sys2Proof.Rein) :
    (State.dropOwed s k r).pending = s.pending ∧ (State.dropOwed s k r).wheel = s.wheel ∧ (State.dropOwed s k r).plan = s.plan ∧ (State.dropOwed s k r).rein = s.rein ∧ (State.dropOwed s k r).dram = s.dram ∧ (State.dropOwed s k r).dma = s.dma ∧ (State.dropOwed s k r).therm = s.therm ∧ (State.dropOwed s k r).img = s.img ∧ (State.dropOwed s k r).awl = s.awl ∧ (State.dropOwed s k r).codec = s.codec ∧ (State.dropOwed s k r).map = s.map ∧ (State.dropOwed s k r).blk = s.blk ∧ (State.dropOwed s k r).girth = s.girth ∧ (State.dropOwed s k r).wb = s.wb ∧ (State.dropOwed s k r).dump = s.dump ∧ (State.dropOwed s k r).cipher = s.cipher ∧ (State.dropOwed s k r).skv = s.skv ∧ (State.dropOwed s k r).mc = s.mc ∧ (State.dropOwed s k r).media = s.media := by
  simp [State.dropOwed]
@[simp] theorem State.moveCmd_kept (s : State) (dest : Sys2Proof.Rein) (tag : Nat) :
    (State.moveCmd s dest tag).pending = s.pending ∧ (State.moveCmd s dest tag).wheel = s.wheel ∧ (State.moveCmd s dest tag).plan = s.plan ∧ (State.moveCmd s dest tag).rein = s.rein ∧ (State.moveCmd s dest tag).dram = s.dram ∧ (State.moveCmd s dest tag).dma = s.dma ∧ (State.moveCmd s dest tag).therm = s.therm ∧ (State.moveCmd s dest tag).img = s.img ∧ (State.moveCmd s dest tag).awl = s.awl ∧ (State.moveCmd s dest tag).codec = s.codec ∧ (State.moveCmd s dest tag).map = s.map ∧ (State.moveCmd s dest tag).blk = s.blk ∧ (State.moveCmd s dest tag).girth = s.girth ∧ (State.moveCmd s dest tag).wb = s.wb ∧ (State.moveCmd s dest tag).dump = s.dump ∧ (State.moveCmd s dest tag).cipher = s.cipher ∧ (State.moveCmd s dest tag).skv = s.skv ∧ (State.moveCmd s dest tag).mc = s.mc ∧ (State.moveCmd s dest tag).media = s.media := by
  unfold State.moveCmd; split <;> simp
@[simp] theorem State.orphanCmds_kept (s : State) (k : Nat) :
    (State.orphanCmds s k).pending = s.pending ∧ (State.orphanCmds s k).wheel = s.wheel ∧ (State.orphanCmds s k).plan = s.plan ∧ (State.orphanCmds s k).rein = s.rein ∧ (State.orphanCmds s k).dram = s.dram ∧ (State.orphanCmds s k).dma = s.dma ∧ (State.orphanCmds s k).therm = s.therm ∧ (State.orphanCmds s k).img = s.img ∧ (State.orphanCmds s k).awl = s.awl ∧ (State.orphanCmds s k).codec = s.codec ∧ (State.orphanCmds s k).map = s.map ∧ (State.orphanCmds s k).blk = s.blk ∧ (State.orphanCmds s k).girth = s.girth ∧ (State.orphanCmds s k).wb = s.wb ∧ (State.orphanCmds s k).dump = s.dump ∧ (State.orphanCmds s k).cipher = s.cipher ∧ (State.orphanCmds s k).skv = s.skv ∧ (State.orphanCmds s k).mc = s.mc ∧ (State.orphanCmds s k).media = s.media := by
  simp [State.orphanCmds]
@[simp] theorem State.detachSide_kept (s : State) (k : Nat) (r : Sys2Proof.Rein) (reason : Nat) :
    (State.detachSide s k r reason).pending = s.pending ∧ (State.detachSide s k r reason).wheel = s.wheel ∧ (State.detachSide s k r reason).plan = s.plan ∧ (State.detachSide s k r reason).rein = s.rein ∧ (State.detachSide s k r reason).dram = s.dram ∧ (State.detachSide s k r reason).dma = s.dma ∧ (State.detachSide s k r reason).therm = s.therm ∧ (State.detachSide s k r reason).img = s.img ∧ (State.detachSide s k r reason).awl = s.awl ∧ (State.detachSide s k r reason).codec = s.codec ∧ (State.detachSide s k r reason).map = s.map ∧ (State.detachSide s k r reason).blk = s.blk ∧ (State.detachSide s k r reason).girth = s.girth ∧ (State.detachSide s k r reason).wb = s.wb ∧ (State.detachSide s k r reason).dump = s.dump ∧ (State.detachSide s k r reason).cipher = s.cipher ∧ (State.detachSide s k r reason).skv = s.skv ∧ (State.detachSide s k r reason).mc = s.mc ∧ (State.detachSide s k r reason).media = s.media := by
  unfold State.detachSide; (repeat' split) <;> simp
@[simp] theorem State.begin_pending (s : State) (tag : Nat) (admin : Bool) (opc : Nat) (sel : Cmd → Bool) (f : State → Cmd → State) (h : ∀ x0 x1, (f x0 x1).pending = x0.pending) :
    (State.begin s tag admin opc sel f).pending = s.pending := by
  unfold State.begin; split <;> simp [h]
@[simp] theorem State.begin_wheel (s : State) (tag : Nat) (admin : Bool) (opc : Nat) (sel : Cmd → Bool) (f : State → Cmd → State) (h : ∀ x0 x1, (f x0 x1).wheel = x0.wheel) :
    (State.begin s tag admin opc sel f).wheel = s.wheel := by
  unfold State.begin; split <;> simp [h]
@[simp] theorem State.begin_plan (s : State) (tag : Nat) (admin : Bool) (opc : Nat) (sel : Cmd → Bool) (f : State → Cmd → State) (h : ∀ x0 x1, (f x0 x1).plan = x0.plan) :
    (State.begin s tag admin opc sel f).plan = s.plan := by
  unfold State.begin; split <;> simp [h]
@[simp] theorem State.begin_rein (s : State) (tag : Nat) (admin : Bool) (opc : Nat) (sel : Cmd → Bool) (f : State → Cmd → State) (h : ∀ x0 x1, (f x0 x1).rein = x0.rein) :
    (State.begin s tag admin opc sel f).rein = s.rein := by
  unfold State.begin; split <;> simp [h]
@[simp] theorem State.begin_dram (s : State) (tag : Nat) (admin : Bool) (opc : Nat) (sel : Cmd → Bool) (f : State → Cmd → State) (h : ∀ x0 x1, (f x0 x1).dram = x0.dram) :
    (State.begin s tag admin opc sel f).dram = s.dram := by
  unfold State.begin; split <;> simp [h]
@[simp] theorem State.begin_dma (s : State) (tag : Nat) (admin : Bool) (opc : Nat) (sel : Cmd → Bool) (f : State → Cmd → State) (h : ∀ x0 x1, (f x0 x1).dma = x0.dma) :
    (State.begin s tag admin opc sel f).dma = s.dma := by
  unfold State.begin; split <;> simp [h]
@[simp] theorem State.begin_therm (s : State) (tag : Nat) (admin : Bool) (opc : Nat) (sel : Cmd → Bool) (f : State → Cmd → State) (h : ∀ x0 x1, (f x0 x1).therm = x0.therm) :
    (State.begin s tag admin opc sel f).therm = s.therm := by
  unfold State.begin; split <;> simp [h]
@[simp] theorem State.begin_img (s : State) (tag : Nat) (admin : Bool) (opc : Nat) (sel : Cmd → Bool) (f : State → Cmd → State) (h : ∀ x0 x1, (f x0 x1).img = x0.img) :
    (State.begin s tag admin opc sel f).img = s.img := by
  unfold State.begin; split <;> simp [h]
@[simp] theorem State.begin_awl (s : State) (tag : Nat) (admin : Bool) (opc : Nat) (sel : Cmd → Bool) (f : State → Cmd → State) (h : ∀ x0 x1, (f x0 x1).awl = x0.awl) :
    (State.begin s tag admin opc sel f).awl = s.awl := by
  unfold State.begin; split <;> simp [h]
@[simp] theorem State.begin_codec (s : State) (tag : Nat) (admin : Bool) (opc : Nat) (sel : Cmd → Bool) (f : State → Cmd → State) (h : ∀ x0 x1, (f x0 x1).codec = x0.codec) :
    (State.begin s tag admin opc sel f).codec = s.codec := by
  unfold State.begin; split <;> simp [h]
@[simp] theorem State.begin_map (s : State) (tag : Nat) (admin : Bool) (opc : Nat) (sel : Cmd → Bool) (f : State → Cmd → State) (h : ∀ x0 x1, (f x0 x1).map = x0.map) :
    (State.begin s tag admin opc sel f).map = s.map := by
  unfold State.begin; split <;> simp [h]
@[simp] theorem State.begin_blk (s : State) (tag : Nat) (admin : Bool) (opc : Nat) (sel : Cmd → Bool) (f : State → Cmd → State) (h : ∀ x0 x1, (f x0 x1).blk = x0.blk) :
    (State.begin s tag admin opc sel f).blk = s.blk := by
  unfold State.begin; split <;> simp [h]
@[simp] theorem State.begin_girth (s : State) (tag : Nat) (admin : Bool) (opc : Nat) (sel : Cmd → Bool) (f : State → Cmd → State) (h : ∀ x0 x1, (f x0 x1).girth = x0.girth) :
    (State.begin s tag admin opc sel f).girth = s.girth := by
  unfold State.begin; split <;> simp [h]
@[simp] theorem State.begin_wb (s : State) (tag : Nat) (admin : Bool) (opc : Nat) (sel : Cmd → Bool) (f : State → Cmd → State) (h : ∀ x0 x1, (f x0 x1).wb = x0.wb) :
    (State.begin s tag admin opc sel f).wb = s.wb := by
  unfold State.begin; split <;> simp [h]
@[simp] theorem State.begin_dump (s : State) (tag : Nat) (admin : Bool) (opc : Nat) (sel : Cmd → Bool) (f : State → Cmd → State) (h : ∀ x0 x1, (f x0 x1).dump = x0.dump) :
    (State.begin s tag admin opc sel f).dump = s.dump := by
  unfold State.begin; split <;> simp [h]
@[simp] theorem State.begin_cipher (s : State) (tag : Nat) (admin : Bool) (opc : Nat) (sel : Cmd → Bool) (f : State → Cmd → State) (h : ∀ x0 x1, (f x0 x1).cipher = x0.cipher) :
    (State.begin s tag admin opc sel f).cipher = s.cipher := by
  unfold State.begin; split <;> simp [h]
@[simp] theorem State.begin_skv (s : State) (tag : Nat) (admin : Bool) (opc : Nat) (sel : Cmd → Bool) (f : State → Cmd → State) (h : ∀ x0 x1, (f x0 x1).skv = x0.skv) :
    (State.begin s tag admin opc sel f).skv = s.skv := by
  unfold State.begin; split <;> simp [h]
@[simp] theorem State.begin_mc (s : State) (tag : Nat) (admin : Bool) (opc : Nat) (sel : Cmd → Bool) (f : State → Cmd → State) (h : ∀ x0 x1, (f x0 x1).mc = x0.mc) :
    (State.begin s tag admin opc sel f).mc = s.mc := by
  unfold State.begin; split <;> simp [h]
@[simp] theorem State.begin_media (s : State) (tag : Nat) (admin : Bool) (opc : Nat) (sel : Cmd → Bool) (f : State → Cmd → State) (h : ∀ x0 x1, (f x0 x1).media = x0.media) :
    (State.begin s tag admin opc sel f).media = s.media := by
  unfold State.begin; split <;> simp [h]
@[simp] theorem State.begin_wheel_pins (s : State) (tag : Nat) (admin : Bool) (opc : Nat) (sel : Cmd → Bool) (f : State → Cmd → State) (h : ∀ x0 x1, (f x0 x1).wheel.pins = x0.wheel.pins) :
    (State.begin s tag admin opc sel f).wheel.pins = s.wheel.pins := by
  unfold State.begin; split <;> simp [h]

end Sys2Proof.Machine
end

