-- ==== Sys2Proof/Laws/KeptGeometry.lean ====
section
/-! SUPPORT. What each function of Sys2Proof/Machine/Geometry.lean leaves unchanged: one lemma a function. -/
set_option linter.unusedTactic false
set_option linter.unreachableTactic false
set_option linter.unusedSimpArgs false
namespace Sys2Proof.Machine

@[simp] theorem State.setDie_kept (s : State) (d : Nat) (x : Die) :
    (State.setDie s d x).pending = s.pending ∧ (State.setDie s d x).wheel = s.wheel ∧ (State.setDie s d x).plan = s.plan ∧ (State.setDie s d x).rein = s.rein ∧ (State.setDie s d x).dram = s.dram ∧ (State.setDie s d x).dma = s.dma ∧ (State.setDie s d x).therm = s.therm ∧ (State.setDie s d x).img = s.img := by
  simp [State.setDie]
@[simp] theorem State.modDie_kept (s : State) (d : Nat) (f : Die → Die) :
    (State.modDie s d f).pending = s.pending ∧ (State.modDie s d f).wheel = s.wheel ∧ (State.modDie s d f).plan = s.plan ∧ (State.modDie s d f).rein = s.rein ∧ (State.modDie s d f).dram = s.dram ∧ (State.modDie s d f).dma = s.dma ∧ (State.modDie s d f).therm = s.therm ∧ (State.modDie s d f).img = s.img := by
  simp [State.modDie]
@[simp] theorem State.setChan_kept (s : State) (c : Nat) (x : Channel) :
    (State.setChan s c x).pending = s.pending ∧ (State.setChan s c x).wheel = s.wheel ∧ (State.setChan s c x).plan = s.plan ∧ (State.setChan s c x).rein = s.rein ∧ (State.setChan s c x).dram = s.dram ∧ (State.setChan s c x).dma = s.dma ∧ (State.setChan s c x).therm = s.therm ∧ (State.setChan s c x).img = s.img := by
  simp [State.setChan]
@[simp] theorem State.modChan_kept (s : State) (c : Nat) (f : Channel → Channel) :
    (State.modChan s c f).pending = s.pending ∧ (State.modChan s c f).wheel = s.wheel ∧ (State.modChan s c f).plan = s.plan ∧ (State.modChan s c f).rein = s.rein ∧ (State.modChan s c f).dram = s.dram ∧ (State.modChan s c f).dma = s.dma ∧ (State.modChan s c f).therm = s.therm ∧ (State.modChan s c f).img = s.img := by
  simp [State.modChan]
@[simp] theorem State.setBlk_kept (s : State) (b : Nat) (r : BlockRec) :
    (State.setBlk s b r).pending = s.pending ∧ (State.setBlk s b r).wheel = s.wheel ∧ (State.setBlk s b r).plan = s.plan ∧ (State.setBlk s b r).rein = s.rein ∧ (State.setBlk s b r).dram = s.dram ∧ (State.setBlk s b r).dma = s.dma ∧ (State.setBlk s b r).therm = s.therm ∧ (State.setBlk s b r).img = s.img := by
  simp [State.setBlk]
@[simp] theorem State.modBlk_kept (s : State) (b : Nat) (f : BlockRec → BlockRec) :
    (State.modBlk s b f).pending = s.pending ∧ (State.modBlk s b f).wheel = s.wheel ∧ (State.modBlk s b f).plan = s.plan ∧ (State.modBlk s b f).rein = s.rein ∧ (State.modBlk s b f).dram = s.dram ∧ (State.modBlk s b f).dma = s.dma ∧ (State.modBlk s b f).therm = s.therm ∧ (State.modBlk s b f).img = s.img := by
  simp [State.modBlk]
@[simp] theorem State.newId_kept (s : State) :
    (State.newId s).2.pending = s.pending ∧ (State.newId s).2.wheel = s.wheel ∧ (State.newId s).2.plan = s.plan ∧ (State.newId s).2.rein = s.rein ∧ (State.newId s).2.dram = s.dram ∧ (State.newId s).2.dma = s.dma ∧ (State.newId s).2.therm = s.therm ∧ (State.newId s).2.img = s.img := by
  simp [State.newId]
theorem State.newId_fwd {s : State} {z : _} {z2 : State} (hz : State.newId s = (z, z2)) : z2.pending = s.pending ∧ z2.wheel = s.wheel ∧ z2.plan = s.plan ∧ z2.rein = s.rein ∧ z2.dram = s.dram ∧ z2.dma = s.dma ∧ z2.therm = s.therm ∧ z2.img = s.img := by
  have h := State.newId_kept s
  rw [hz] at h; exact h
@[simp] theorem State.modVt_kept (s : State) (g : Nat) (f : VtGroup → VtGroup) :
    (State.modVt s g f).pending = s.pending ∧ (State.modVt s g f).wheel = s.wheel ∧ (State.modVt s g f).plan = s.plan ∧ (State.modVt s g f).rein = s.rein ∧ (State.modVt s g f).dram = s.dram ∧ (State.modVt s g f).dma = s.dma ∧ (State.modVt s g f).therm = s.therm ∧ (State.modVt s g f).img = s.img := by
  simp [State.modVt]

end Sys2Proof.Machine
end

