-- ==== Sys2Proof/Laws/KeptPins.lean ====
section
/-! SUPPORT. What each function of Sys2Proof/Machine/Pins.lean leaves unchanged: one lemma a function. -/
set_option linter.unusedTactic false
set_option linter.unreachableTactic false
set_option linter.unusedSimpArgs false
namespace Sys2Proof.Machine

@[simp] theorem State.ca_kept (s : State) (die : Nat) (hostRead : Bool) (cycles : List CaCycle) :
    (State.ca s die hostRead cycles).pending = s.pending ∧ (State.ca s die hostRead cycles).wheel = s.wheel ∧ (State.ca s die hostRead cycles).plan = s.plan ∧ (State.ca s die hostRead cycles).rein = s.rein ∧ (State.ca s die hostRead cycles).dram = s.dram ∧ (State.ca s die hostRead cycles).dma = s.dma ∧ (State.ca s die hostRead cycles).therm = s.therm ∧ (State.ca s die hostRead cycles).img = s.img := by
  simp [State.ca]
@[simp] theorem State.sendCa_kept (s : State) :
    (State.sendCa s).pending = s.pending ∧ (State.sendCa s).wheel = s.wheel ∧ (State.sendCa s).plan = s.plan ∧ (State.sendCa s).rein = s.rein ∧ (State.sendCa s).dram = s.dram ∧ (State.sendCa s).dma = s.dma ∧ (State.sendCa s).therm = s.therm ∧ (State.sendCa s).img = s.img := by
  simp [State.sendCa]

end Sys2Proof.Machine
end

