-- ==== Sys2Proof/Laws/KeptCache.lean ====
section
/-! SUPPORT. What each function of Sys2Proof/Machine/Cache.lean leaves unchanged: one lemma a function. -/
set_option linter.unusedTactic false
set_option linter.unreachableTactic false
set_option linter.unusedSimpArgs false
namespace Sys2Proof.Machine

@[simp] theorem State.setBank_kept (s : State) (b : Nat) (x : McBank) :
    (State.setBank s b x).pending = s.pending ∧ (State.setBank s b x).wheel = s.wheel ∧ (State.setBank s b x).plan = s.plan ∧ (State.setBank s b x).rein = s.rein ∧ (State.setBank s b x).dram = s.dram ∧ (State.setBank s b x).dma = s.dma ∧ (State.setBank s b x).therm = s.therm ∧ (State.setBank s b x).img = s.img := by
  simp [State.setBank]
@[simp] theorem State.serveBank_kept (s : State) (b : Nat) (n : Nat) :
    (State.serveBank s b n).pending = s.pending ∧ (State.serveBank s b n).wheel = s.wheel ∧ (State.serveBank s b n).plan = s.plan ∧ (State.serveBank s b n).rein = s.rein ∧ (State.serveBank s b n).dram = s.dram ∧ (State.serveBank s b n).dma = s.dma ∧ (State.serveBank s b n).therm = s.therm ∧ (State.serveBank s b n).img = s.img := by
  induction n generalizing s with
  | zero => simp [State.serveBank]
  | succ n_ ih =>
    unfold State.serveBank
    refine ⟨?_, ?_, ?_, ?_, ?_, ?_, ?_, ?_⟩ <;> (repeat' (first | (simp [-List.reduceReplicate, ih]; done) | split | dsimp only | simp [-List.reduceReplicate, ih]))
@[simp] theorem State.mcRequest_kept (s : State) (r : McReq) :
    (State.mcRequest s r).pending = s.pending ∧ (State.mcRequest s r).wheel = s.wheel ∧ (State.mcRequest s r).plan = s.plan ∧ (State.mcRequest s r).rein = s.rein ∧ (State.mcRequest s r).dram = s.dram ∧ (State.mcRequest s r).dma = s.dma ∧ (State.mcRequest s r).therm = s.therm ∧ (State.mcRequest s r).img = s.img := by
  simp [State.mcRequest]
@[simp] theorem State.mcAccess_kept (s : State) (seg : Nat) (block : Nat) (write : Bool) (hint : Nat) (source : Nat) :
    (State.mcAccess s seg block write hint source).pending = s.pending ∧ (State.mcAccess s seg block write hint source).wheel = s.wheel ∧ (State.mcAccess s seg block write hint source).plan = s.plan ∧ (State.mcAccess s seg block write hint source).rein = s.rein ∧ (State.mcAccess s seg block write hint source).dram = s.dram ∧ (State.mcAccess s seg block write hint source).dma = s.dma ∧ (State.mcAccess s seg block write hint source).therm = s.therm ∧ (State.mcAccess s seg block write hint source).img = s.img := by
  simp [State.mcAccess]
@[simp] theorem State.mcMaintain_kept (s : State) (b : Nat) (kind : Nat) (las : List Nat) :
    (State.mcMaintain s b kind las).pending = s.pending ∧ (State.mcMaintain s b kind las).wheel = s.wheel ∧ (State.mcMaintain s b kind las).plan = s.plan ∧ (State.mcMaintain s b kind las).rein = s.rein ∧ (State.mcMaintain s b kind las).dram = s.dram ∧ (State.mcMaintain s b kind las).dma = s.dma ∧ (State.mcMaintain s b kind las).therm = s.therm ∧ (State.mcMaintain s b kind las).img = s.img := by
  simp [State.mcMaintain]
@[simp] theorem State.mcInvalidateSegment_kept (s : State) (seg : Nat) :
    (State.mcInvalidateSegment s seg).pending = s.pending ∧ (State.mcInvalidateSegment s seg).wheel = s.wheel ∧ (State.mcInvalidateSegment s seg).plan = s.plan ∧ (State.mcInvalidateSegment s seg).rein = s.rein ∧ (State.mcInvalidateSegment s seg).dram = s.dram ∧ (State.mcInvalidateSegment s seg).dma = s.dma ∧ (State.mcInvalidateSegment s seg).therm = s.therm ∧ (State.mcInvalidateSegment s seg).img = s.img := by
  simp [State.mcInvalidateSegment]
@[simp] theorem State.flushBank_kept (s : State) (b : Nat) :
    (State.flushBank s b).pending = s.pending ∧ (State.flushBank s b).wheel = s.wheel ∧ (State.flushBank s b).plan = s.plan ∧ (State.flushBank s b).rein = s.rein ∧ (State.flushBank s b).dram = s.dram ∧ (State.flushBank s b).dma = s.dma ∧ (State.flushBank s b).therm = s.therm ∧ (State.flushBank s b).img = s.img := by
  simp [State.flushBank]
@[simp] theorem State.drainStep_kept (s : State) (b : Nat) :
    (State.drainStep s b).pending = s.pending ∧ (State.drainStep s b).wheel = s.wheel ∧ (State.drainStep s b).plan = s.plan ∧ (State.drainStep s b).rein = s.rein ∧ (State.drainStep s b).dram = s.dram ∧ (State.drainStep s b).dma = s.dma ∧ (State.drainStep s b).therm = s.therm ∧ (State.drainStep s b).img = s.img := by
  simp [State.drainStep]
@[simp] theorem State.disableBank_kept (s : State) (b : Nat) :
    (State.disableBank s b).pending = s.pending ∧ (State.disableBank s b).wheel = s.wheel ∧ (State.disableBank s b).plan = s.plan ∧ (State.disableBank s b).rein = s.rein ∧ (State.disableBank s b).dram = s.dram ∧ (State.disableBank s b).dma = s.dma ∧ (State.disableBank s b).therm = s.therm ∧ (State.disableBank s b).img = s.img := by
  simp [State.disableBank]

end Sys2Proof.Machine
end

