-- ==== Sys2Proof/Laws/KeptMapOps.lean ====
section
/-! SUPPORT. What each function of Sys2Proof/Machine/MapOps.lean leaves unchanged: one lemma a function. -/
set_option linter.unusedTactic false
set_option linter.unreachableTactic false
set_option linter.unusedSimpArgs false
namespace Sys2Proof.Machine

@[simp] theorem State.setSeg_kept (s : State) (n : Nat) (d : SegDesc) :
    (State.setSeg s n d).pending = s.pending ∧ (State.setSeg s n d).wheel = s.wheel ∧ (State.setSeg s n d).plan = s.plan ∧ (State.setSeg s n d).rein = s.rein ∧ (State.setSeg s n d).dram = s.dram ∧ (State.setSeg s n d).dma = s.dma ∧ (State.setSeg s n d).therm = s.therm ∧ (State.setSeg s n d).img = s.img := by
  simp [State.setSeg]
@[simp] theorem State.modSeg_kept (s : State) (n : Nat) (f : SegDesc → SegDesc) :
    (State.modSeg s n f).pending = s.pending ∧ (State.modSeg s n f).wheel = s.wheel ∧ (State.modSeg s n f).plan = s.plan ∧ (State.modSeg s n f).rein = s.rein ∧ (State.modSeg s n f).dram = s.dram ∧ (State.modSeg s n f).dma = s.dma ∧ (State.modSeg s n f).therm = s.therm ∧ (State.modSeg s n f).img = s.img := by
  simp [State.modSeg]
@[simp] theorem State.needSeg_kept (s : State) (seg : Nat) :
    (State.needSeg s seg).pending = s.pending ∧ (State.needSeg s seg).wheel = s.wheel ∧ (State.needSeg s seg).plan = s.plan ∧ (State.needSeg s seg).rein = s.rein ∧ (State.needSeg s seg).dram = s.dram ∧ (State.needSeg s seg).dma = s.dma ∧ (State.needSeg s seg).therm = s.therm ∧ (State.needSeg s seg).img = s.img := by
  simp [State.needSeg]
@[simp] theorem State.checkBlock_kept (s : State) (seg : Nat) (block : Nat) :
    (State.checkBlock s seg block).pending = s.pending ∧ (State.checkBlock s seg block).wheel = s.wheel ∧ (State.checkBlock s seg block).plan = s.plan ∧ (State.checkBlock s seg block).rein = s.rein ∧ (State.checkBlock s seg block).dram = s.dram ∧ (State.checkBlock s seg block).dma = s.dma ∧ (State.checkBlock s seg block).therm = s.therm ∧ (State.checkBlock s seg block).img = s.img := by
  simp [State.checkBlock]
@[simp] theorem State.checkUnit_kept (s : State) (nsx : Nat) (unit : Nat) :
    (State.checkUnit s nsx unit).pending = s.pending ∧ (State.checkUnit s nsx unit).wheel = s.wheel ∧ (State.checkUnit s nsx unit).plan = s.plan ∧ (State.checkUnit s nsx unit).rein = s.rein ∧ (State.checkUnit s nsx unit).dram = s.dram ∧ (State.checkUnit s nsx unit).dma = s.dma ∧ (State.checkUnit s nsx unit).therm = s.therm ∧ (State.checkUnit s nsx unit).img = s.img := by
  unfold State.checkUnit; refine ⟨?_, ?_, ?_, ?_, ?_, ?_, ?_, ?_⟩ <;> (repeat' (first | (simp; done) | split | dsimp only | simp))
@[simp] theorem State.needUnit_kept (s : State) (nsx : Nat) (unit : Nat) (g : Nat) :
    (State.needUnit s nsx unit g).pending = s.pending ∧ (State.needUnit s nsx unit g).wheel = s.wheel ∧ (State.needUnit s nsx unit g).plan = s.plan ∧ (State.needUnit s nsx unit g).rein = s.rein ∧ (State.needUnit s nsx unit g).dram = s.dram ∧ (State.needUnit s nsx unit g).dma = s.dma ∧ (State.needUnit s nsx unit g).therm = s.therm ∧ (State.needUnit s nsx unit g).img = s.img := by
  simp [State.needUnit]
@[simp] theorem State.addBuffered_kept (s : State) (nsx : Nat) (unit : Nat) (up : Bool) :
    (State.addBuffered s nsx unit up).pending = s.pending ∧ (State.addBuffered s nsx unit up).wheel = s.wheel ∧ (State.addBuffered s nsx unit up).plan = s.plan ∧ (State.addBuffered s nsx unit up).rein = s.rein ∧ (State.addBuffered s nsx unit up).dram = s.dram ∧ (State.addBuffered s nsx unit up).dma = s.dma ∧ (State.addBuffered s nsx unit up).therm = s.therm ∧ (State.addBuffered s nsx unit up).img = s.img := by
  unfold State.addBuffered; refine ⟨?_, ?_, ?_, ?_, ?_, ?_, ?_, ?_⟩ <;> (repeat' (first | (simp; done) | split | dsimp only | simp))
@[simp] theorem State.sumDirty_kept (s : State) :
    (State.sumDirty s).pending = s.pending ∧ (State.sumDirty s).wheel = s.wheel ∧ (State.sumDirty s).plan = s.plan ∧ (State.sumDirty s).rein = s.rein ∧ (State.sumDirty s).dram = s.dram ∧ (State.sumDirty s).dma = s.dma ∧ (State.sumDirty s).therm = s.therm ∧ (State.sumDirty s).img = s.img := by
  simp [State.sumDirty]
@[simp] theorem State.wbiRelease_kept (s : State) (nsx : Nat) (unit : Nat) :
    (State.wbiRelease s nsx unit).pending = s.pending ∧ (State.wbiRelease s nsx unit).wheel = s.wheel ∧ (State.wbiRelease s nsx unit).plan = s.plan ∧ (State.wbiRelease s nsx unit).rein = s.rein ∧ (State.wbiRelease s nsx unit).dram = s.dram ∧ (State.wbiRelease s nsx unit).dma = s.dma ∧ (State.wbiRelease s nsx unit).therm = s.therm ∧ (State.wbiRelease s nsx unit).img = s.img := by
  unfold State.wbiRelease; split <;> simp
@[simp] theorem State.wbiInsert_kept (s : State) (nsx : Nat) (unit : Nat) (gran : Nat) (glen : Nat) :
    (State.wbiInsert s nsx unit gran glen).pending = s.pending ∧ (State.wbiInsert s nsx unit gran glen).wheel = s.wheel ∧ (State.wbiInsert s nsx unit gran glen).plan = s.plan ∧ (State.wbiInsert s nsx unit gran glen).rein = s.rein ∧ (State.wbiInsert s nsx unit gran glen).dram = s.dram ∧ (State.wbiInsert s nsx unit gran glen).dma = s.dma ∧ (State.wbiInsert s nsx unit gran glen).therm = s.therm ∧ (State.wbiInsert s nsx unit gran glen).img = s.img := by
  unfold State.wbiInsert; split <;> simp
@[simp] theorem State.vcRemove_kept (s : State) (b : Nat) :
    (State.vcRemove s b).pending = s.pending ∧ (State.vcRemove s b).wheel = s.wheel ∧ (State.vcRemove s b).plan = s.plan ∧ (State.vcRemove s b).rein = s.rein ∧ (State.vcRemove s b).dram = s.dram ∧ (State.vcRemove s b).dma = s.dma ∧ (State.vcRemove s b).therm = s.therm ∧ (State.vcRemove s b).img = s.img := by
  simp [State.vcRemove]
@[simp] theorem State.vcAdd_kept (s : State) (b : Nat) :
    (State.vcAdd s b).pending = s.pending ∧ (State.vcAdd s b).wheel = s.wheel ∧ (State.vcAdd s b).plan = s.plan ∧ (State.vcAdd s b).rein = s.rein ∧ (State.vcAdd s b).dram = s.dram ∧ (State.vcAdd s b).dma = s.dma ∧ (State.vcAdd s b).therm = s.therm ∧ (State.vcAdd s b).img = s.img := by
  simp [State.vcAdd]
@[simp] theorem State.setValid_kept (s : State) (b : Nat) (valid : Nat) :
    (State.setValid s b valid).pending = s.pending ∧ (State.setValid s b valid).wheel = s.wheel ∧ (State.setValid s b valid).plan = s.plan ∧ (State.setValid s b valid).rein = s.rein ∧ (State.setValid s b valid).dram = s.dram ∧ (State.setValid s b valid).dma = s.dma ∧ (State.setValid s b valid).therm = s.therm ∧ (State.setValid s b valid).img = s.img := by
  simp [State.setValid]
@[simp] theorem State.validRun_kept (s : State) (gaddr : Nat) (glen : Nat) :
    (State.validRun s gaddr glen).pending = s.pending ∧ (State.validRun s gaddr glen).wheel = s.wheel ∧ (State.validRun s gaddr glen).plan = s.plan ∧ (State.validRun s gaddr glen).rein = s.rein ∧ (State.validRun s gaddr glen).dram = s.dram ∧ (State.validRun s gaddr glen).dma = s.dma ∧ (State.validRun s gaddr glen).therm = s.therm ∧ (State.validRun s gaddr glen).img = s.img := by
  simp [State.validRun]
@[simp] theorem State.freeRun_kept (s : State) (gaddr : Nat) (glen : Nat) :
    (State.freeRun s gaddr glen).pending = s.pending ∧ (State.freeRun s gaddr glen).wheel = s.wheel ∧ (State.freeRun s gaddr glen).plan = s.plan ∧ (State.freeRun s gaddr glen).rein = s.rein ∧ (State.freeRun s gaddr glen).dram = s.dram ∧ (State.freeRun s gaddr glen).dma = s.dma ∧ (State.freeRun s gaddr glen).therm = s.therm ∧ (State.freeRun s gaddr glen).img = s.img := by
  simp [State.freeRun]
@[simp] theorem State.modStream_kept (s : State) (n : Nat) (f : Stream → Stream) :
    (State.modStream s n f).pending = s.pending ∧ (State.modStream s n f).wheel = s.wheel ∧ (State.modStream s n f).plan = s.plan ∧ (State.modStream s n f).rein = s.rein ∧ (State.modStream s n f).dram = s.dram ∧ (State.modStream s n f).dma = s.dma ∧ (State.modStream s n f).therm = s.therm ∧ (State.modStream s n f).img = s.img := by
  simp [State.modStream]
@[simp] theorem State.queuePayload_kept (s : State) (n : Nat) (p : Payload) :
    (State.queuePayload s n p).pending = s.pending ∧ (State.queuePayload s n p).wheel = s.wheel ∧ (State.queuePayload s n p).plan = s.plan ∧ (State.queuePayload s n p).rein = s.rein ∧ (State.queuePayload s n p).dram = s.dram ∧ (State.queuePayload s n p).dma = s.dma ∧ (State.queuePayload s n p).therm = s.therm ∧ (State.queuePayload s n p).img = s.img := by
  simp [State.queuePayload]
@[simp] theorem State.writeRootFrame_kept (s : State) :
    (State.writeRootFrame s).pending = s.pending ∧ (State.writeRootFrame s).wheel = s.wheel ∧ (State.writeRootFrame s).plan = s.plan ∧ (State.writeRootFrame s).rein = s.rein ∧ (State.writeRootFrame s).dram = s.dram ∧ (State.writeRootFrame s).dma = s.dma ∧ (State.writeRootFrame s).therm = s.therm ∧ (State.writeRootFrame s).img = s.img := by
  simp [State.writeRootFrame]
@[simp] theorem State.rootRec_kept (s : State) (r : RootRec) :
    (State.rootRec s r).pending = s.pending ∧ (State.rootRec s r).wheel = s.wheel ∧ (State.rootRec s r).plan = s.plan ∧ (State.rootRec s r).rein = s.rein ∧ (State.rootRec s r).dram = s.dram ∧ (State.rootRec s r).dma = s.dma ∧ (State.rootRec s r).therm = s.therm ∧ (State.rootRec s r).img = s.img := by
  simp [State.rootRec]
@[simp] theorem State.writeRunOnly_kept (s : State) (seg : Nat) :
    (State.writeRunOnly s seg).pending = s.pending ∧ (State.writeRunOnly s seg).wheel = s.wheel ∧ (State.writeRunOnly s seg).plan = s.plan ∧ (State.writeRunOnly s seg).rein = s.rein ∧ (State.writeRunOnly s seg).dram = s.dram ∧ (State.writeRunOnly s seg).dma = s.dma ∧ (State.writeRunOnly s seg).therm = s.therm ∧ (State.writeRunOnly s seg).img = s.img := by
  simp [State.writeRunOnly]
@[simp] theorem State.awaitOne_kept (s : State) (k : Nat × Nat) :
    (State.awaitOne s k).pending = s.pending ∧ (State.awaitOne s k).wheel = s.wheel ∧ (State.awaitOne s k).plan = s.plan ∧ (State.awaitOne s k).rein = s.rein ∧ (State.awaitOne s k).dram = s.dram ∧ (State.awaitOne s k).dma = s.dma ∧ (State.awaitOne s k).therm = s.therm ∧ (State.awaitOne s k).img = s.img := by
  simp [State.awaitOne]
@[simp] theorem State.startCkpt_kept (s : State) (seg : Nat) :
    (State.startCkpt s seg).pending = s.pending ∧ (State.startCkpt s seg).wheel = s.wheel ∧ (State.startCkpt s seg).plan = s.plan ∧ (State.startCkpt s seg).rein = s.rein ∧ (State.startCkpt s seg).dram = s.dram ∧ (State.startCkpt s seg).dma = s.dma ∧ (State.startCkpt s seg).therm = s.therm ∧ (State.startCkpt s seg).img = s.img := by
  simp [State.startCkpt]
@[simp] theorem State.writeRun_kept (s : State) (seg : Nat) (awaited : Bool) :
    (State.writeRun s seg awaited).pending = s.pending ∧ (State.writeRun s seg awaited).wheel = s.wheel ∧ (State.writeRun s seg awaited).plan = s.plan ∧ (State.writeRun s seg awaited).rein = s.rein ∧ (State.writeRun s seg awaited).dram = s.dram ∧ (State.writeRun s seg awaited).dma = s.dma ∧ (State.writeRun s seg awaited).therm = s.therm ∧ (State.writeRun s seg awaited).img = s.img := by
  simp [State.writeRun]
@[simp] theorem State.journal_kept (s : State) (seg : Nat) (r : JrnlRec) :
    (State.journal s seg r).pending = s.pending ∧ (State.journal s seg r).wheel = s.wheel ∧ (State.journal s seg r).plan = s.plan ∧ (State.journal s seg r).rein = s.rein ∧ (State.journal s seg r).dram = s.dram ∧ (State.journal s seg r).dma = s.dma ∧ (State.journal s seg r).therm = s.therm ∧ (State.journal s seg r).img = s.img := by
  simp [State.journal]
@[simp] theorem State.awaitFlush_kept (s : State) (b : Nat) (k : Nat × Nat) :
    (State.awaitFlush s b k).pending = s.pending ∧ (State.awaitFlush s b k).wheel = s.wheel ∧ (State.awaitFlush s b k).plan = s.plan ∧ (State.awaitFlush s b k).rein = s.rein ∧ (State.awaitFlush s b k).dram = s.dram ∧ (State.awaitFlush s b k).dma = s.dma ∧ (State.awaitFlush s b k).therm = s.therm ∧ (State.awaitFlush s b k).img = s.img := by
  simp [State.awaitFlush]
@[simp] theorem State.awaitRun_kept (s : State) (b : Nat) (seg : Nat) :
    (State.awaitRun s b seg).pending = s.pending ∧ (State.awaitRun s b seg).wheel = s.wheel ∧ (State.awaitRun s b seg).plan = s.plan ∧ (State.awaitRun s b seg).rein = s.rein ∧ (State.awaitRun s b seg).dram = s.dram ∧ (State.awaitRun s b seg).dma = s.dma ∧ (State.awaitRun s b seg).therm = s.therm ∧ (State.awaitRun s b seg).img = s.img := by
  simp [State.awaitRun]
@[simp] theorem State.writeEntry_kept (s : State) (seg : Nat) (idx : Nat) (e : MapEntry) (hint : Nat) (source : Nat) :
    (State.writeEntry s seg idx e hint source).pending = s.pending ∧ (State.writeEntry s seg idx e hint source).wheel = s.wheel ∧ (State.writeEntry s seg idx e hint source).plan = s.plan ∧ (State.writeEntry s seg idx e hint source).rein = s.rein ∧ (State.writeEntry s seg idx e hint source).dram = s.dram ∧ (State.writeEntry s seg idx e hint source).dma = s.dma ∧ (State.writeEntry s seg idx e hint source).therm = s.therm ∧ (State.writeEntry s seg idx e hint source).img = s.img := by
  simp [State.writeEntry]
@[simp] theorem State.setEntry_kept (s : State) (seg : Nat) (idx : Nat) (e : MapEntry) (hint : Nat) (source : Nat) :
    (State.setEntry s seg idx e hint source).pending = s.pending ∧ (State.setEntry s seg idx e hint source).wheel = s.wheel ∧ (State.setEntry s seg idx e hint source).plan = s.plan ∧ (State.setEntry s seg idx e hint source).rein = s.rein ∧ (State.setEntry s seg idx e hint source).dram = s.dram ∧ (State.setEntry s seg idx e hint source).dma = s.dma ∧ (State.setEntry s seg idx e hint source).therm = s.therm ∧ (State.setEntry s seg idx e hint source).img = s.img := by
  simp [State.setEntry]
@[simp] theorem State.setTag_kept (s : State) (seg : Nat) (idx : Nat) (v : Nat) (hint : Nat) (source : Nat) :
    (State.setTag s seg idx v hint source).pending = s.pending ∧ (State.setTag s seg idx v hint source).wheel = s.wheel ∧ (State.setTag s seg idx v hint source).plan = s.plan ∧ (State.setTag s seg idx v hint source).rein = s.rein ∧ (State.setTag s seg idx v hint source).dram = s.dram ∧ (State.setTag s seg idx v hint source).dma = s.dma ∧ (State.setTag s seg idx v hint source).therm = s.therm ∧ (State.setTag s seg idx v hint source).img = s.img := by
  simp [State.setTag]
theorem State.takeSeg_fwd {s : State} {z : Nat × State} (hz : State.takeSeg s = some z) : z.2.pending = s.pending ∧ z.2.wheel = s.wheel ∧ z.2.plan = s.plan ∧ z.2.rein = s.rein ∧ z.2.dram = s.dram ∧ z.2.dma = s.dma ∧ z.2.therm = s.therm ∧ z.2.img = s.img := by
  unfold State.takeSeg at hz
  repeat' (first | contradiction | (simp only [Option.some.injEq, reduceCtorEq] at hz; subst hz; refine ⟨?_, ?_, ?_, ?_, ?_, ?_, ?_, ?_⟩ <;> (repeat' (first | (simp; done) | split | dsimp only | simp)); done) | split at hz | (dsimp only at hz))
@[simp] theorem State.allocSeg_kept (s : State) (nsx : Nat) (tag : Bool) (unit : Nat) :
    (State.allocSeg s nsx tag unit).2.pending = s.pending ∧ (State.allocSeg s nsx tag unit).2.wheel = s.wheel ∧ (State.allocSeg s nsx tag unit).2.plan = s.plan ∧ (State.allocSeg s nsx tag unit).2.rein = s.rein ∧ (State.allocSeg s nsx tag unit).2.dram = s.dram ∧ (State.allocSeg s nsx tag unit).2.dma = s.dma ∧ (State.allocSeg s nsx tag unit).2.therm = s.therm ∧ (State.allocSeg s nsx tag unit).2.img = s.img := by
  unfold State.allocSeg; refine ⟨?_, ?_, ?_, ?_, ?_, ?_, ?_, ?_⟩ <;> (repeat' (first | (simp; done) | split | dsimp only | simp | grind only [→ State.takeSeg_fwd]))
theorem State.allocSeg_fwd {s : State} {nsx : Nat} {tag : Bool} {unit : Nat} {z : _} {z2 : State} (hz : State.allocSeg s nsx tag unit = (z, z2)) : z2.pending = s.pending ∧ z2.wheel = s.wheel ∧ z2.plan = s.plan ∧ z2.rein = s.rein ∧ z2.dram = s.dram ∧ z2.dma = s.dma ∧ z2.therm = s.therm ∧ z2.img = s.img := by
  have h := State.allocSeg_kept s nsx tag unit
  rw [hz] at h; exact h
@[simp] theorem State.freeChain_kept (s : State) (d : SegDesc) (below : Nat) :
    (State.freeChain s d below).pending = s.pending ∧ (State.freeChain s d below).wheel = s.wheel ∧ (State.freeChain s d below).plan = s.plan ∧ (State.freeChain s d below).rein = s.rein ∧ (State.freeChain s d below).dram = s.dram ∧ (State.freeChain s d below).dma = s.dma ∧ (State.freeChain s d below).therm = s.therm ∧ (State.freeChain s d below).img = s.img := by
  unfold State.freeChain; refine ⟨?_, ?_, ?_, ?_, ?_, ?_, ?_, ?_⟩ <;> (repeat' (first | (simp [-List.reduceReplicate]; done) | (with_reducible refine Eq.trans (foldl_pending _ (fun s a => ?_) _ _) ?_) | (with_reducible refine Eq.trans (foldl_wheel _ (fun s a => ?_) _ _) ?_) | (with_reducible refine Eq.trans (foldl_plan _ (fun s a => ?_) _ _) ?_) | (with_reducible refine Eq.trans (foldl_rein _ (fun s a => ?_) _ _) ?_) | (with_reducible refine Eq.trans (foldl_dram _ (fun s a => ?_) _ _) ?_) | (with_reducible refine Eq.trans (foldl_dma _ (fun s a => ?_) _ _) ?_) | (with_reducible refine Eq.trans (foldl_therm _ (fun s a => ?_) _ _) ?_) | (with_reducible refine Eq.trans (foldl_img _ (fun s a => ?_) _ _) ?_) | (with_reducible refine Eq.trans (foldr_pending _ (fun a s => ?_) _ _) ?_) | (with_reducible refine Eq.trans (foldr_wheel _ (fun a s => ?_) _ _) ?_) | (with_reducible refine Eq.trans (foldr_plan _ (fun a s => ?_) _ _) ?_) | (with_reducible refine Eq.trans (foldr_rein _ (fun a s => ?_) _ _) ?_) | (with_reducible refine Eq.trans (foldr_dram _ (fun a s => ?_) _ _) ?_) | (with_reducible refine Eq.trans (foldr_dma _ (fun a s => ?_) _ _) ?_) | (with_reducible refine Eq.trans (foldr_therm _ (fun a s => ?_) _ _) ?_) | (with_reducible refine Eq.trans (foldr_img _ (fun a s => ?_) _ _) ?_) | split | dsimp only | simp [-List.reduceReplicate] | (rename_i heq; split at heq <;> cases heq <;> simp)))
@[simp] theorem State.dropRuns_kept (s : State) (g : Nat) :
    (State.dropRuns s g).pending = s.pending ∧ (State.dropRuns s g).wheel = s.wheel ∧ (State.dropRuns s g).plan = s.plan ∧ (State.dropRuns s g).rein = s.rein ∧ (State.dropRuns s g).dram = s.dram ∧ (State.dropRuns s g).dma = s.dma ∧ (State.dropRuns s g).therm = s.therm ∧ (State.dropRuns s g).img = s.img := by
  simp [State.dropRuns]
@[simp] theorem State.returnSeg_kept (s : State) (g : Nat) :
    (State.returnSeg s g).pending = s.pending ∧ (State.returnSeg s g).wheel = s.wheel ∧ (State.returnSeg s g).plan = s.plan ∧ (State.returnSeg s g).rein = s.rein ∧ (State.returnSeg s g).dram = s.dram ∧ (State.returnSeg s g).dma = s.dma ∧ (State.returnSeg s g).therm = s.therm ∧ (State.returnSeg s g).img = s.img := by
  simp [State.returnSeg]
@[simp] theorem State.returnIfEmpty_kept (s : State) (g : Nat) :
    (State.returnIfEmpty s g).pending = s.pending ∧ (State.returnIfEmpty s g).wheel = s.wheel ∧ (State.returnIfEmpty s g).plan = s.plan ∧ (State.returnIfEmpty s g).rein = s.rein ∧ (State.returnIfEmpty s g).dram = s.dram ∧ (State.returnIfEmpty s g).dma = s.dma ∧ (State.returnIfEmpty s g).therm = s.therm ∧ (State.returnIfEmpty s g).img = s.img := by
  simp [State.returnIfEmpty]
@[simp] theorem State.returnUnitSegs_kept (s : State) (nsx : Nat) (unit : Nat) :
    (State.returnUnitSegs s nsx unit).pending = s.pending ∧ (State.returnUnitSegs s nsx unit).wheel = s.wheel ∧ (State.returnUnitSegs s nsx unit).plan = s.plan ∧ (State.returnUnitSegs s nsx unit).rein = s.rein ∧ (State.returnUnitSegs s nsx unit).dram = s.dram ∧ (State.returnUnitSegs s nsx unit).dma = s.dma ∧ (State.returnUnitSegs s nsx unit).therm = s.therm ∧ (State.returnUnitSegs s nsx unit).img = s.img := by
  unfold State.returnUnitSegs; refine ⟨?_, ?_, ?_, ?_, ?_, ?_, ?_, ?_⟩ <;> (repeat' (first | (simp; done) | split | dsimp only | simp))
@[simp] theorem State.returnSpace_kept (s : State) (nsx : Nat) :
    (State.returnSpace s nsx).pending = s.pending ∧ (State.returnSpace s nsx).wheel = s.wheel ∧ (State.returnSpace s nsx).plan = s.plan ∧ (State.returnSpace s nsx).rein = s.rein ∧ (State.returnSpace s nsx).dram = s.dram ∧ (State.returnSpace s nsx).dma = s.dma ∧ (State.returnSpace s nsx).therm = s.therm ∧ (State.returnSpace s nsx).img = s.img := by
  simp [State.returnSpace]
@[simp] theorem State.touchMap_kept (s : State) (nsx : Nat) (unit : Nat) (hint : Nat) (source : Nat) :
    (State.touchMap s nsx unit hint source).pending = s.pending ∧ (State.touchMap s nsx unit hint source).wheel = s.wheel ∧ (State.touchMap s nsx unit hint source).plan = s.plan ∧ (State.touchMap s nsx unit hint source).rein = s.rein ∧ (State.touchMap s nsx unit hint source).dram = s.dram ∧ (State.touchMap s nsx unit hint source).dma = s.dma ∧ (State.touchMap s nsx unit hint source).therm = s.therm ∧ (State.touchMap s nsx unit hint source).img = s.img := by
  unfold State.touchMap; split <;> simp
@[simp] theorem State.discardUnit_kept (s : State) (nsx : Nat) (unit : Nat) (sdp : Bool) (source : Nat) :
    (State.discardUnit s nsx unit sdp source).pending = s.pending ∧ (State.discardUnit s nsx unit sdp source).wheel = s.wheel ∧ (State.discardUnit s nsx unit sdp source).plan = s.plan ∧ (State.discardUnit s nsx unit sdp source).rein = s.rein ∧ (State.discardUnit s nsx unit sdp source).dram = s.dram ∧ (State.discardUnit s nsx unit sdp source).dma = s.dma ∧ (State.discardUnit s nsx unit sdp source).therm = s.therm ∧ (State.discardUnit s nsx unit sdp source).img = s.img := by
  unfold State.discardUnit; refine ⟨?_, ?_, ?_, ?_, ?_, ?_, ?_, ?_⟩ <;> (repeat' (first | (simp; done) | split | dsimp only | simp))
@[simp] theorem State.markSdp_kept (s : State) (nsx : Nat) (unit : Nat) :
    (State.markSdp s nsx unit).pending = s.pending ∧ (State.markSdp s nsx unit).wheel = s.wheel ∧ (State.markSdp s nsx unit).plan = s.plan ∧ (State.markSdp s nsx unit).rein = s.rein ∧ (State.markSdp s nsx unit).dram = s.dram ∧ (State.markSdp s nsx unit).dma = s.dma ∧ (State.markSdp s nsx unit).therm = s.therm ∧ (State.markSdp s nsx unit).img = s.img := by
  unfold State.markSdp; split <;> simp

end Sys2Proof.Machine
end

