-- ==== Sys2Proof/Laws/KeptBlock.lean ====
section
/-! SUPPORT. What each function of Sys2Proof/Machine/Block.lean leaves unchanged: one lemma a function. -/
set_option linter.unusedTactic false
set_option linter.unreachableTactic false
set_option linter.unusedSimpArgs false
namespace Sys2Proof.Machine

@[simp] theorem State.ledger_kept (s : State) (e : LedgerEntry) (waits : Bool) :
    (State.ledger s e waits).pending = s.pending ∧ (State.ledger s e waits).wheel = s.wheel ∧ (State.ledger s e waits).plan = s.plan ∧ (State.ledger s e waits).rein = s.rein ∧ (State.ledger s e waits).dram = s.dram ∧ (State.ledger s e waits).dma = s.dma ∧ (State.ledger s e waits).therm = s.therm ∧ (State.ledger s e waits).img = s.img := by
  simp [State.ledger]
@[simp] theorem State.modLists_kept (s : State) (die : Nat) (f : DieLists → DieLists) :
    (State.modLists s die f).pending = s.pending ∧ (State.modLists s die f).wheel = s.wheel ∧ (State.modLists s die f).plan = s.plan ∧ (State.modLists s die f).rein = s.rein ∧ (State.modLists s die f).dram = s.dram ∧ (State.modLists s die f).dma = s.dma ∧ (State.modLists s die f).therm = s.therm ∧ (State.modLists s die f).img = s.img := by
  simp [State.modLists]
theorem State.takeNormal_fwd {s : State} {die : Nat} {highest : Bool} {z : Nat × State} (hz : State.takeNormal s die highest = some z) : z.2.pending = s.pending ∧ z.2.wheel = s.wheel ∧ z.2.plan = s.plan ∧ z.2.rein = s.rein ∧ z.2.dram = s.dram ∧ z.2.dma = s.dma ∧ z.2.therm = s.therm ∧ z.2.img = s.img := by
  unfold State.takeNormal at hz
  repeat' (first | contradiction | (simp only [Option.some.injEq, reduceCtorEq] at hz; subst hz; refine ⟨?_, ?_, ?_, ?_, ?_, ?_, ?_, ?_⟩ <;> (repeat' (first | (simp; done) | split | dsimp only | simp)); done) | split at hz | (dsimp only at hz))
theorem State.takeFast_fwd {s : State} {die : Nat} {z : Nat × State} (hz : State.takeFast s die = some z) : z.2.pending = s.pending ∧ z.2.wheel = s.wheel ∧ z.2.plan = s.plan ∧ z.2.rein = s.rein ∧ z.2.dram = s.dram ∧ z.2.dma = s.dma ∧ z.2.therm = s.therm ∧ z.2.img = s.img := by
  unfold State.takeFast at hz
  repeat' (first | contradiction | (simp only [Option.some.injEq, reduceCtorEq] at hz; subst hz; refine ⟨?_, ?_, ?_, ?_, ?_, ?_, ?_, ?_⟩ <;> (repeat' (first | (simp; done) | split | dsimp only | simp)); done) | split at hz | (dsimp only at hz))
theorem State.takeBlock_fwd {s : State} {die : Nat} {fc : Bool} {highest : Bool} {z : Nat × Bool × State} (hz : State.takeBlock s die fc highest = some z) : z.2.2.pending = s.pending ∧ z.2.2.wheel = s.wheel ∧ z.2.2.plan = s.plan ∧ z.2.2.rein = s.rein ∧ z.2.2.dram = s.dram ∧ z.2.2.dma = s.dma ∧ z.2.2.therm = s.therm ∧ z.2.2.img = s.img := by
  unfold State.takeBlock at hz
  split at hz <;> split at hz
  · cases hz; rename_i heq; exact State.takeFast_fwd heq
  · simp only [Option.map_eq_some_iff] at hz; obtain ⟨⟨_, _⟩, hm, rfl⟩ := hz; exact State.takeNormal_fwd hm
  · cases hz; rename_i heq; exact State.takeNormal_fwd heq
  · simp only [Option.map_eq_some_iff] at hz; obtain ⟨⟨_, _⟩, hm, rfl⟩ := hz; exact State.takeFast_fwd hm
@[simp] theorem State.freeBlock_kept (s : State) (b : Nat) :
    (State.freeBlock s b).pending = s.pending ∧ (State.freeBlock s b).wheel = s.wheel ∧ (State.freeBlock s b).plan = s.plan ∧ (State.freeBlock s b).rein = s.rein ∧ (State.freeBlock s b).dram = s.dram ∧ (State.freeBlock s b).dma = s.dma ∧ (State.freeBlock s b).therm = s.therm ∧ (State.freeBlock s b).img = s.img := by
  simp [State.freeBlock]
@[simp] theorem State.closedAdd_kept (s : State) (b : Nat) :
    (State.closedAdd s b).pending = s.pending ∧ (State.closedAdd s b).wheel = s.wheel ∧ (State.closedAdd s b).plan = s.plan ∧ (State.closedAdd s b).rein = s.rein ∧ (State.closedAdd s b).dram = s.dram ∧ (State.closedAdd s b).dma = s.dma ∧ (State.closedAdd s b).therm = s.therm ∧ (State.closedAdd s b).img = s.img := by
  simp [State.closedAdd]
@[simp] theorem State.closedRemove_kept (s : State) (b : Nat) :
    (State.closedRemove s b).pending = s.pending ∧ (State.closedRemove s b).wheel = s.wheel ∧ (State.closedRemove s b).plan = s.plan ∧ (State.closedRemove s b).rein = s.rein ∧ (State.closedRemove s b).dram = s.dram ∧ (State.closedRemove s b).dma = s.dma ∧ (State.closedRemove s b).therm = s.therm ∧ (State.closedRemove s b).img = s.img := by
  simp [State.closedRemove]
@[simp] theorem State.unforce_kept (s : State) (b : Nat) :
    (State.unforce s b).pending = s.pending ∧ (State.unforce s b).wheel = s.wheel ∧ (State.unforce s b).plan = s.plan ∧ (State.unforce s b).rein = s.rein ∧ (State.unforce s b).dram = s.dram ∧ (State.unforce s b).dma = s.dma ∧ (State.unforce s b).therm = s.therm ∧ (State.unforce s b).img = s.img := by
  simp [State.unforce]
@[simp] theorem State.force_kept (s : State) (b : Nat) (list : Nat) :
    (State.force s b list).pending = s.pending ∧ (State.force s b list).wheel = s.wheel ∧ (State.force s b list).plan = s.plan ∧ (State.force s b list).rein = s.rein ∧ (State.force s b list).dram = s.dram ∧ (State.force s b list).dma = s.dma ∧ (State.force s b list).therm = s.therm ∧ (State.force s b list).img = s.img := by
  simp [State.force]
@[simp] theorem State.refresh_kept (s : State) (b : Nat) :
    (State.refresh s b).pending = s.pending ∧ (State.refresh s b).wheel = s.wheel ∧ (State.refresh s b).plan = s.plan ∧ (State.refresh s b).rein = s.rein ∧ (State.refresh s b).dram = s.dram ∧ (State.refresh s b).dma = s.dma ∧ (State.refresh s b).therm = s.therm ∧ (State.refresh s b).img = s.img := by
  simp [State.refresh]
@[simp] theorem State.reachRung3_kept (s : State) (gran : Nat) :
    (State.reachRung3 s gran).pending = s.pending ∧ (State.reachRung3 s gran).wheel = s.wheel ∧ (State.reachRung3 s gran).plan = s.plan ∧ (State.reachRung3 s gran).rein = s.rein ∧ (State.reachRung3 s gran).dram = s.dram ∧ (State.reachRung3 s gran).dma = s.dma ∧ (State.reachRung3 s gran).therm = s.therm ∧ (State.reachRung3 s gran).img = s.img := by
  simp [State.reachRung3]
@[simp] theorem State.unlist_kept (s : State) (b : Nat) :
    (State.unlist s b).pending = s.pending ∧ (State.unlist s b).wheel = s.wheel ∧ (State.unlist s b).plan = s.plan ∧ (State.unlist s b).rein = s.rein ∧ (State.unlist s b).dram = s.dram ∧ (State.unlist s b).dma = s.dma ∧ (State.unlist s b).therm = s.therm ∧ (State.unlist s b).img = s.img := by
  simp [State.unlist]
@[simp] theorem State.closeBlock_kept (s : State) (b : Nat) :
    (State.closeBlock s b).pending = s.pending ∧ (State.closeBlock s b).wheel = s.wheel ∧ (State.closeBlock s b).plan = s.plan ∧ (State.closeBlock s b).rein = s.rein ∧ (State.closeBlock s b).dram = s.dram ∧ (State.closeBlock s b).dma = s.dma ∧ (State.closeBlock s b).therm = s.therm ∧ (State.closeBlock s b).img = s.img := by
  simp [State.closeBlock]
@[simp] theorem State.modSet_kept (s : State) (n : Nat) (f : SetRec → SetRec) :
    (State.modSet s n f).pending = s.pending ∧ (State.modSet s n f).wheel = s.wheel ∧ (State.modSet s n f).plan = s.plan ∧ (State.modSet s n f).rein = s.rein ∧ (State.modSet s n f).dram = s.dram ∧ (State.modSet s n f).dma = s.dma ∧ (State.modSet s n f).therm = s.therm ∧ (State.modSet s n f).img = s.img := by
  simp [State.modSet]
@[simp] theorem State.releaseSet_kept (s : State) (n : Nat) :
    (State.releaseSet s n).pending = s.pending ∧ (State.releaseSet s n).wheel = s.wheel ∧ (State.releaseSet s n).plan = s.plan ∧ (State.releaseSet s n).rein = s.rein ∧ (State.releaseSet s n).dram = s.dram ∧ (State.releaseSet s n).dma = s.dma ∧ (State.releaseSet s n).therm = s.therm ∧ (State.releaseSet s n).img = s.img := by
  simp [State.releaseSet]
@[simp] theorem State.leaveSet_kept (s : State) (b : Nat) :
    (State.leaveSet s b).pending = s.pending ∧ (State.leaveSet s b).wheel = s.wheel ∧ (State.leaveSet s b).plan = s.plan ∧ (State.leaveSet s b).rein = s.rein ∧ (State.leaveSet s b).dram = s.dram ∧ (State.leaveSet s b).dma = s.dma ∧ (State.leaveSet s b).therm = s.therm ∧ (State.leaveSet s b).img = s.img := by
  unfold State.leaveSet; split <;> simp
@[simp] theorem State.rebuildCheck_kept (s : State) :
    (State.rebuildCheck s).pending = s.pending ∧ (State.rebuildCheck s).wheel = s.wheel ∧ (State.rebuildCheck s).plan = s.plan ∧ (State.rebuildCheck s).rein = s.rein ∧ (State.rebuildCheck s).dram = s.dram ∧ (State.rebuildCheck s).dma = s.dma ∧ (State.rebuildCheck s).therm = s.therm ∧ (State.rebuildCheck s).img = s.img := by
  unfold State.rebuildCheck; split <;> simp
@[simp] theorem State.modJob_kept (s : State) (j : Nat) (f : SdJob → SdJob) :
    (State.modJob s j f).pending = s.pending ∧ (State.modJob s j f).wheel = s.wheel ∧ (State.modJob s j f).plan = s.plan ∧ (State.modJob s j f).rein = s.rein ∧ (State.modJob s j f).dram = s.dram ∧ (State.modJob s j f).dma = s.dma ∧ (State.modJob s j f).therm = s.therm ∧ (State.modJob s j f).img = s.img := by
  simp [State.modJob]
@[simp] theorem State.markNow_kept (s : State) (nsx : Nat) (unit : Nat) (lost : Nat) :
    (State.markNow s nsx unit lost).pending = s.pending ∧ (State.markNow s nsx unit lost).wheel = s.wheel ∧ (State.markNow s nsx unit lost).plan = s.plan ∧ (State.markNow s nsx unit lost).rein = s.rein ∧ (State.markNow s nsx unit lost).dram = s.dram ∧ (State.markNow s nsx unit lost).dma = s.dma ∧ (State.markNow s nsx unit lost).therm = s.therm ∧ (State.markNow s nsx unit lost).img = s.img := by
  unfold State.markNow; split <;> simp
@[simp] theorem State.markUnit_kept (s : State) (nsx : Nat) (unit : Nat) (lost : Nat) :
    (State.markUnit s nsx unit lost).pending = s.pending ∧ (State.markUnit s nsx unit lost).wheel = s.wheel ∧ (State.markUnit s nsx unit lost).plan = s.plan ∧ (State.markUnit s nsx unit lost).rein = s.rein ∧ (State.markUnit s nsx unit lost).dram = s.dram ∧ (State.markUnit s nsx unit lost).dma = s.dma ∧ (State.markUnit s nsx unit lost).therm = s.therm ∧ (State.markUnit s nsx unit lost).img = s.img := by
  unfold State.markUnit; (repeat' split) <;> simp
@[simp] theorem State.stepMarks_kept (s : State) :
    (State.stepMarks s).pending = s.pending ∧ (State.stepMarks s).wheel = s.wheel ∧ (State.stepMarks s).plan = s.plan ∧ (State.stepMarks s).rein = s.rein ∧ (State.stepMarks s).dram = s.dram ∧ (State.stepMarks s).dma = s.dma ∧ (State.stepMarks s).therm = s.therm ∧ (State.stepMarks s).img = s.img := by
  simp [State.stepMarks]
@[simp] theorem State.clearSdp_kept (s : State) (nsx : Nat) (unit : Nat) :
    (State.clearSdp s nsx unit).pending = s.pending ∧ (State.clearSdp s nsx unit).wheel = s.wheel ∧ (State.clearSdp s nsx unit).plan = s.plan ∧ (State.clearSdp s nsx unit).rein = s.rein ∧ (State.clearSdp s nsx unit).dram = s.dram ∧ (State.clearSdp s nsx unit).dma = s.dma ∧ (State.clearSdp s nsx unit).therm = s.therm ∧ (State.clearSdp s nsx unit).img = s.img := by
  simp [State.clearSdp]
@[simp] theorem State.sdCheck_kept (s : State) (n : Nat) :
    (State.sdCheck s n).pending = s.pending ∧ (State.sdCheck s n).wheel = s.wheel ∧ (State.sdCheck s n).plan = s.plan ∧ (State.sdCheck s n).rein = s.rein ∧ (State.sdCheck s n).dram = s.dram ∧ (State.sdCheck s n).dma = s.dma ∧ (State.sdCheck s n).therm = s.therm ∧ (State.sdCheck s n).img = s.img := by
  unfold State.sdCheck; split <;> simp
@[simp] theorem State.sdErased_kept (s : State) (b : Nat) :
    (State.sdErased s b).pending = s.pending ∧ (State.sdErased s b).wheel = s.wheel ∧ (State.sdErased s b).plan = s.plan ∧ (State.sdErased s b).rein = s.rein ∧ (State.sdErased s b).dram = s.dram ∧ (State.sdErased s b).dma = s.dma ∧ (State.sdErased s b).therm = s.therm ∧ (State.sdErased s b).img = s.img := by
  simp [State.sdErased]
@[simp] theorem State.sdResidue_kept (s : State) (b : Nat) :
    (State.sdResidue s b).pending = s.pending ∧ (State.sdResidue s b).wheel = s.wheel ∧ (State.sdResidue s b).plan = s.plan ∧ (State.sdResidue s b).rein = s.rein ∧ (State.sdResidue s b).dram = s.dram ∧ (State.sdResidue s b).dma = s.dma ∧ (State.sdResidue s b).therm = s.therm ∧ (State.sdResidue s b).img = s.img := by
  simp [State.sdResidue]
@[simp] theorem State.queueErase_kept (s : State) (b : Nat) (fc : Bool) (use : WorkUse) :
    (State.queueErase s b fc use).pending = s.pending ∧ (State.queueErase s b fc use).wheel = s.wheel ∧ (State.queueErase s b fc use).plan = s.plan ∧ (State.queueErase s b fc use).rein = s.rein ∧ (State.queueErase s b fc use).dram = s.dram ∧ (State.queueErase s b fc use).dma = s.dma ∧ (State.queueErase s b fc use).therm = s.therm ∧ (State.queueErase s b fc use).img = s.img := by
  simp [State.queueErase]
@[simp] theorem State.sdScan_kept (s : State) (n : Nat) (b : Nat) :
    (State.sdScan s n b).pending = s.pending ∧ (State.sdScan s n b).wheel = s.wheel ∧ (State.sdScan s n b).plan = s.plan ∧ (State.sdScan s n b).rein = s.rein ∧ (State.sdScan s n b).dram = s.dram ∧ (State.sdScan s n b).dma = s.dma ∧ (State.sdScan s n b).therm = s.therm ∧ (State.sdScan s n b).img = s.img := by
  unfold State.sdScan; split <;> simp
@[simp] theorem State.sdStep_kept (s : State) :
    (State.sdStep s).pending = s.pending ∧ (State.sdStep s).wheel = s.wheel ∧ (State.sdStep s).plan = s.plan ∧ (State.sdStep s).rein = s.rein ∧ (State.sdStep s).dram = s.dram ∧ (State.sdStep s).dma = s.dma ∧ (State.sdStep s).therm = s.therm ∧ (State.sdStep s).img = s.img := by
  simp [State.sdStep]
@[simp] theorem State.openJob_kept (s : State) (n : Nat) (nsx : Nat) (ranges : List (Nat × Nat)) :
    (State.openJob s n nsx ranges).pending = s.pending ∧ (State.openJob s n nsx ranges).wheel = s.wheel ∧ (State.openJob s n nsx ranges).plan = s.plan ∧ (State.openJob s n nsx ranges).rein = s.rein ∧ (State.openJob s n nsx ranges).dram = s.dram ∧ (State.openJob s n nsx ranges).dma = s.dma ∧ (State.openJob s n nsx ranges).therm = s.therm ∧ (State.openJob s n nsx ranges).img = s.img := by
  simp [State.openJob]
@[simp] theorem State.retire_kept (s : State) (b : Nat) (reason : Nat) :
    (State.retire s b reason).pending = s.pending ∧ (State.retire s b reason).wheel = s.wheel ∧ (State.retire s b reason).plan = s.plan ∧ (State.retire s b reason).rein = s.rein ∧ (State.retire s b reason).dram = s.dram ∧ (State.retire s b reason).dma = s.dma ∧ (State.retire s b reason).therm = s.therm ∧ (State.retire s b reason).img = s.img := by
  simp [State.retire]
@[simp] theorem State.awaitKey_kept (s : State) (k : Nat × Nat) :
    (State.awaitKey s k).pending = s.pending ∧ (State.awaitKey s k).wheel = s.wheel ∧ (State.awaitKey s k).plan = s.plan ∧ (State.awaitKey s k).rein = s.rein ∧ (State.awaitKey s k).dram = s.dram ∧ (State.awaitKey s k).dma = s.dma ∧ (State.awaitKey s k).therm = s.therm ∧ (State.awaitKey s k).img = s.img := by
  simp [State.awaitKey]
@[simp] theorem State.requestRuns_kept (s : State) (b : Nat) :
    (State.requestRuns s b).pending = s.pending ∧ (State.requestRuns s b).wheel = s.wheel ∧ (State.requestRuns s b).plan = s.plan ∧ (State.requestRuns s b).rein = s.rein ∧ (State.requestRuns s b).dram = s.dram ∧ (State.requestRuns s b).dma = s.dma ∧ (State.requestRuns s b).therm = s.therm ∧ (State.requestRuns s b).img = s.img := by
  simp [State.requestRuns]
@[simp] theorem State.victimDone_kept (s : State) (b : Nat) :
    (State.victimDone s b).pending = s.pending ∧ (State.victimDone s b).wheel = s.wheel ∧ (State.victimDone s b).plan = s.plan ∧ (State.victimDone s b).rein = s.rein ∧ (State.victimDone s b).dram = s.dram ∧ (State.victimDone s b).dma = s.dma ∧ (State.victimDone s b).therm = s.therm ∧ (State.victimDone s b).img = s.img := by
  simp [State.victimDone]
@[simp] theorem State.wipe_kept (s : State) (b : Nat) :
    (State.wipe s b).pending = s.pending ∧ (State.wipe s b).wheel = s.wheel ∧ (State.wipe s b).plan = s.plan ∧ (State.wipe s b).rein = s.rein ∧ (State.wipe s b).dram = s.dram ∧ (State.wipe s b).dma = s.dma ∧ (State.wipe s b).therm = s.therm ∧ (State.wipe s b).img = s.img := by
  simp [State.wipe]
@[simp] theorem State.eraseOk_kept (s : State) (b : Nat) (fc : Bool) (modeErase : Bool) :
    (State.eraseOk s b fc modeErase).pending = s.pending ∧ (State.eraseOk s b fc modeErase).wheel = s.wheel ∧ (State.eraseOk s b fc modeErase).plan = s.plan ∧ (State.eraseOk s b fc modeErase).rein = s.rein ∧ (State.eraseOk s b fc modeErase).dram = s.dram ∧ (State.eraseOk s b fc modeErase).dma = s.dma ∧ (State.eraseOk s b fc modeErase).therm = s.therm ∧ (State.eraseOk s b fc modeErase).img = s.img := by
  simp [State.eraseOk]
@[simp] theorem State.eraseBad_kept (s : State) (b : Nat) :
    (State.eraseBad s b).pending = s.pending ∧ (State.eraseBad s b).wheel = s.wheel ∧ (State.eraseBad s b).plan = s.plan ∧ (State.eraseBad s b).rein = s.rein ∧ (State.eraseBad s b).dram = s.dram ∧ (State.eraseBad s b).dma = s.dma ∧ (State.eraseBad s b).therm = s.therm ∧ (State.eraseBad s b).img = s.img := by
  simp [State.eraseBad]
@[simp] theorem State.suspect_kept (s : State) (b : Nat) (wl : Nat) :
    (State.suspect s b wl).pending = s.pending ∧ (State.suspect s b wl).wheel = s.wheel ∧ (State.suspect s b wl).plan = s.plan ∧ (State.suspect s b wl).rein = s.rein ∧ (State.suspect s b wl).dram = s.dram ∧ (State.suspect s b wl).dma = s.dma ∧ (State.suspect s b wl).therm = s.therm ∧ (State.suspect s b wl).img = s.img := by
  simp [State.suspect]

end Sys2Proof.Machine
end

