-- ==== Sys2Proof/Laws/KeptPlace.lean ====
section
/-! SUPPORT. What each function of Sys2Proof/Machine/Place.lean leaves unchanged: one lemma a function. -/
set_option linter.unusedTactic false
set_option linter.unreachableTactic false
set_option linter.unusedSimpArgs false
namespace Sys2Proof.Machine

@[simp] theorem State.setGirth_kept (s : State) (n : Nat) (g : Girth) :
    (State.setGirth s n g).pending = s.pending ∧ (State.setGirth s n g).wheel = s.wheel ∧ (State.setGirth s n g).plan = s.plan ∧ (State.setGirth s n g).rein = s.rein ∧ (State.setGirth s n g).dram = s.dram ∧ (State.setGirth s n g).dma = s.dma ∧ (State.setGirth s n g).therm = s.therm ∧ (State.setGirth s n g).img = s.img := by
  simp [State.setGirth]
@[simp] theorem State.modGirth_kept (s : State) (n : Nat) (f : Girth → Girth) :
    (State.modGirth s n f).pending = s.pending ∧ (State.modGirth s n f).wheel = s.wheel ∧ (State.modGirth s n f).plan = s.plan ∧ (State.modGirth s n f).rein = s.rein ∧ (State.modGirth s n f).dram = s.dram ∧ (State.modGirth s n f).dma = s.dma ∧ (State.modGirth s n f).therm = s.therm ∧ (State.modGirth s n f).img = s.img := by
  simp [State.modGirth]
@[simp] theorem State.addressed_kept (s : State) (p : Payload) (a : Nat) :
    (State.addressed s p a).pending = s.pending ∧ (State.addressed s p a).wheel = s.wheel ∧ (State.addressed s p a).plan = s.plan ∧ (State.addressed s p a).rein = s.rein ∧ (State.addressed s p a).dram = s.dram ∧ (State.addressed s p a).dma = s.dma ∧ (State.addressed s p a).therm = s.therm ∧ (State.addressed s p a).img = s.img := by
  unfold State.addressed; split <;> simp
theorem State.placeIn_fwd {s : State} {n : Nat} {g : Girth} {p : Payload} {z : State} (hz : State.placeIn s n g p = some z) : z.pending = s.pending ∧ z.wheel = s.wheel ∧ z.plan = s.plan ∧ z.rein = s.rein ∧ z.dram = s.dram ∧ z.dma = s.dma ∧ z.therm = s.therm ∧ z.img = s.img := by
  unfold State.placeIn at hz
  repeat' (first | contradiction | (simp only [Option.some.injEq, reduceCtorEq] at hz; subst hz; refine ⟨?_, ?_, ?_, ?_, ?_, ?_, ?_, ?_⟩ <;> (repeat' (first | (simp; done) | split | dsimp only | simp)); done) | split at hz | (dsimp only at hz))
@[simp] theorem State.openGirth_kept (s : State) (n : Nat) :
    (State.openGirth s n).pending = s.pending ∧ (State.openGirth s n).wheel = s.wheel ∧ (State.openGirth s n).plan = s.plan ∧ (State.openGirth s n).rein = s.rein ∧ (State.openGirth s n).dram = s.dram ∧ (State.openGirth s n).dma = s.dma ∧ (State.openGirth s n).therm = s.therm ∧ (State.openGirth s n).img = s.img := by
  unfold State.openGirth; refine ⟨?_, ?_, ?_, ?_, ?_, ?_, ?_, ?_⟩ <;> (repeat' (first | (simp; done) | split | dsimp only | simp))
@[simp] theorem State.placeList_kept (s : State) (n : Nat) (a0 : List Payload) :
    (State.placeList s n a0).pending = s.pending ∧ (State.placeList s n a0).wheel = s.wheel ∧ (State.placeList s n a0).plan = s.plan ∧ (State.placeList s n a0).rein = s.rein ∧ (State.placeList s n a0).dram = s.dram ∧ (State.placeList s n a0).dma = s.dma ∧ (State.placeList s n a0).therm = s.therm ∧ (State.placeList s n a0).img = s.img := by
  induction a0 generalizing s with
  | nil => simp [State.placeList]
  | cons p ps ih =>
    unfold State.placeList
    refine ⟨?_, ?_, ?_, ?_, ?_, ?_, ?_, ?_⟩ <;> (repeat' (first | (simp [-List.reduceReplicate, ih]; done) | split | dsimp only | simp [-List.reduceReplicate, ih] | grind only [→ State.placeIn_fwd]))
@[simp] theorem State.place_kept (s : State) :
    (State.place s).pending = s.pending ∧ (State.place s).wheel = s.wheel ∧ (State.place s).plan = s.plan ∧ (State.place s).rein = s.rein ∧ (State.place s).dram = s.dram ∧ (State.place s).dma = s.dma ∧ (State.place s).therm = s.therm ∧ (State.place s).img = s.img := by
  simp [State.place]
@[simp] theorem State.endSet_kept (s : State) (k : Nat) (reason : Nat) :
    (State.endSet s k reason).pending = s.pending ∧ (State.endSet s k reason).wheel = s.wheel ∧ (State.endSet s k reason).plan = s.plan ∧ (State.endSet s k reason).rein = s.rein ∧ (State.endSet s k reason).dram = s.dram ∧ (State.endSet s k reason).dma = s.dma ∧ (State.endSet s k reason).therm = s.therm ∧ (State.endSet s k reason).img = s.img := by
  simp [State.endSet]
@[simp] theorem State.queueMember_kept (s : State) (n : Nat) (g : Girth) (pos : Nat) :
    (State.queueMember s n g pos).pending = s.pending ∧ (State.queueMember s n g pos).wheel = s.wheel ∧ (State.queueMember s n g pos).plan = s.plan ∧ (State.queueMember s n g pos).rein = s.rein ∧ (State.queueMember s n g pos).dram = s.dram ∧ (State.queueMember s n g pos).dma = s.dma ∧ (State.queueMember s n g pos).therm = s.therm ∧ (State.queueMember s n g pos).img = s.img := by
  simp [State.queueMember]
@[simp] theorem State.joinRebuild_kept (s : State) (k : Nat) :
    (State.joinRebuild s k).pending = s.pending ∧ (State.joinRebuild s k).wheel = s.wheel ∧ (State.joinRebuild s k).plan = s.plan ∧ (State.joinRebuild s k).rein = s.rein ∧ (State.joinRebuild s k).dram = s.dram ∧ (State.joinRebuild s k).dma = s.dma ∧ (State.joinRebuild s k).therm = s.therm ∧ (State.joinRebuild s k).img = s.img := by
  unfold State.joinRebuild; (repeat' split) <;> simp
@[simp] theorem State.memberLost_kept (s : State) (k : Nat) (pos : Nat) (wl : Nat) :
    (State.memberLost s k pos wl).pending = s.pending ∧ (State.memberLost s k pos wl).wheel = s.wheel ∧ (State.memberLost s k pos wl).plan = s.plan ∧ (State.memberLost s k pos wl).rein = s.rein ∧ (State.memberLost s k pos wl).dram = s.dram ∧ (State.memberLost s k pos wl).dma = s.dma ∧ (State.memberLost s k pos wl).therm = s.therm ∧ (State.memberLost s k pos wl).img = s.img := by
  unfold State.memberLost; split <;> simp
@[simp] theorem State.addJob_kept (s : State) (j : UnitJob) :
    (State.addJob s j).2.pending = s.pending ∧ (State.addJob s j).2.wheel = s.wheel ∧ (State.addJob s j).2.plan = s.plan ∧ (State.addJob s j).2.rein = s.rein ∧ (State.addJob s j).2.dram = s.dram ∧ (State.addJob s j).2.dma = s.dma ∧ (State.addJob s j).2.therm = s.therm ∧ (State.addJob s j).2.img = s.img ∧ (State.addJob s j).2.awl = s.awl ∧ (State.addJob s j).2.codec = s.codec ∧ (State.addJob s j).2.map = s.map ∧ (State.addJob s j).2.blk = s.blk ∧ (State.addJob s j).2.girth = s.girth ∧ (State.addJob s j).2.wb = s.wb ∧ (State.addJob s j).2.dump = s.dump ∧ (State.addJob s j).2.cipher = s.cipher ∧ (State.addJob s j).2.skv = s.skv ∧ (State.addJob s j).2.mc = s.mc ∧ (State.addJob s j).2.media = s.media := by
  simp [State.addJob]
theorem State.addJob_fwd {s : State} {j : UnitJob} {z : _} {z2 : State} (hz : State.addJob s j = (z, z2)) : z2.pending = s.pending ∧ z2.wheel = s.wheel ∧ z2.plan = s.plan ∧ z2.rein = s.rein ∧ z2.dram = s.dram ∧ z2.dma = s.dma ∧ z2.therm = s.therm ∧ z2.img = s.img ∧ z2.awl = s.awl ∧ z2.codec = s.codec ∧ z2.map = s.map ∧ z2.blk = s.blk ∧ z2.girth = s.girth ∧ z2.wb = s.wb ∧ z2.dump = s.dump ∧ z2.cipher = s.cipher ∧ z2.skv = s.skv ∧ z2.mc = s.mc ∧ z2.media = s.media := by
  have h := State.addJob_kept s j
  rw [hz] at h; exact h
@[simp] theorem State.replace_kept (s : State) (n : Nat) (p : Payload) :
    (State.replace s n p).pending = s.pending ∧ (State.replace s n p).wheel = s.wheel ∧ (State.replace s n p).plan = s.plan ∧ (State.replace s n p).rein = s.rein ∧ (State.replace s n p).dram = s.dram ∧ (State.replace s n p).dma = s.dma ∧ (State.replace s n p).therm = s.therm ∧ (State.replace s n p).img = s.img := by
  unfold State.replace; split <;> simp
@[simp] theorem State.programmedItems_kept (s : State) (g : Girth) (pos : Nat) :
    (State.programmedItems s g pos).pending = s.pending ∧ (State.programmedItems s g pos).wheel = s.wheel ∧ (State.programmedItems s g pos).plan = s.plan ∧ (State.programmedItems s g pos).rein = s.rein ∧ (State.programmedItems s g pos).dram = s.dram ∧ (State.programmedItems s g pos).dma = s.dma ∧ (State.programmedItems s g pos).therm = s.therm ∧ (State.programmedItems s g pos).img = s.img := by
  simp [State.programmedItems]
@[simp] theorem State.girthStep_kept (s : State) (n : Nat) :
    (State.girthStep s n).pending = s.pending ∧ (State.girthStep s n).wheel = s.wheel ∧ (State.girthStep s n).plan = s.plan ∧ (State.girthStep s n).rein = s.rein ∧ (State.girthStep s n).dram = s.dram ∧ (State.girthStep s n).dma = s.dma ∧ (State.girthStep s n).therm = s.therm ∧ (State.girthStep s n).img = s.img := by
  unfold State.girthStep; split <;> simp
@[simp] theorem State.memberEnd_kept (s : State) (n : Nat) (pos : Nat) (ok : Bool) :
    (State.memberEnd s n pos ok).pending = s.pending ∧ (State.memberEnd s n pos ok).wheel = s.wheel ∧ (State.memberEnd s n pos ok).plan = s.plan ∧ (State.memberEnd s n pos ok).rein = s.rein ∧ (State.memberEnd s n pos ok).dram = s.dram ∧ (State.memberEnd s n pos ok).dma = s.dma ∧ (State.memberEnd s n pos ok).therm = s.therm ∧ (State.memberEnd s n pos ok).img = s.img := by
  unfold State.memberEnd; split <;> simp
@[simp] theorem State.stopFilling_kept (s : State) (id : Nat) :
    (State.stopFilling s id).pending = s.pending ∧ (State.stopFilling s id).wheel = s.wheel ∧ (State.stopFilling s id).plan = s.plan ∧ (State.stopFilling s id).rein = s.rein ∧ (State.stopFilling s id).dram = s.dram ∧ (State.stopFilling s id).dma = s.dma ∧ (State.stopFilling s id).therm = s.therm ∧ (State.stopFilling s id).img = s.img := by
  unfold State.stopFilling; split <;> simp
@[simp] theorem State.closeSetBlocks_kept (s : State) (k : Nat) :
    (State.closeSetBlocks s k).pending = s.pending ∧ (State.closeSetBlocks s k).wheel = s.wheel ∧ (State.closeSetBlocks s k).plan = s.plan ∧ (State.closeSetBlocks s k).rein = s.rein ∧ (State.closeSetBlocks s k).dram = s.dram ∧ (State.closeSetBlocks s k).dma = s.dma ∧ (State.closeSetBlocks s k).therm = s.therm ∧ (State.closeSetBlocks s k).img = s.img := by
  simp [State.closeSetBlocks]
@[simp] theorem State.endSetNow_kept (s : State) (k : Nat) (reason : Nat) :
    (State.endSetNow s k reason).pending = s.pending ∧ (State.endSetNow s k reason).wheel = s.wheel ∧ (State.endSetNow s k reason).plan = s.plan ∧ (State.endSetNow s k reason).rein = s.rein ∧ (State.endSetNow s k reason).dram = s.dram ∧ (State.endSetNow s k reason).dma = s.dma ∧ (State.endSetNow s k reason).therm = s.therm ∧ (State.endSetNow s k reason).img = s.img := by
  simp [State.endSetNow]
@[simp] theorem State.closeUnit_kept (s : State) (g : Girth) (p : Placed) :
    (State.closeUnit s g p).pending = s.pending ∧ (State.closeUnit s g p).wheel = s.wheel ∧ (State.closeUnit s g p).plan = s.plan ∧ (State.closeUnit s g p).rein = s.rein ∧ (State.closeUnit s g p).dram = s.dram ∧ (State.closeUnit s g p).dma = s.dma ∧ (State.closeUnit s g p).therm = s.therm ∧ (State.closeUnit s g p).img = s.img := by
  unfold State.closeUnit; split <;> simp
@[simp] theorem State.girthClosed_kept (s : State) (k : Nat) (wl : Nat) :
    (State.girthClosed s k wl).pending = s.pending ∧ (State.girthClosed s k wl).wheel = s.wheel ∧ (State.girthClosed s k wl).plan = s.plan ∧ (State.girthClosed s k wl).rein = s.rein ∧ (State.girthClosed s k wl).dram = s.dram ∧ (State.girthClosed s k wl).dma = s.dma ∧ (State.girthClosed s k wl).therm = s.therm ∧ (State.girthClosed s k wl).img = s.img := by
  unfold State.girthClosed; split <;> simp
@[simp] theorem State.setRootPtr_kept (s : State) (kind : Nat) (a : Nat) :
    (State.setRootPtr s kind a).pending = s.pending ∧ (State.setRootPtr s kind a).wheel = s.wheel ∧ (State.setRootPtr s kind a).plan = s.plan ∧ (State.setRootPtr s kind a).rein = s.rein ∧ (State.setRootPtr s kind a).dram = s.dram ∧ (State.setRootPtr s kind a).dma = s.dma ∧ (State.setRootPtr s kind a).therm = s.therm ∧ (State.setRootPtr s kind a).img = s.img := by
  simp [State.setRootPtr]
@[simp] theorem State.rename6_kept (s : State) (p : Payload) (a : Nat) :
    (State.rename6 s p a).pending = s.pending ∧ (State.rename6 s p a).wheel = s.wheel ∧ (State.rename6 s p a).plan = s.plan ∧ (State.rename6 s p a).rein = s.rein ∧ (State.rename6 s p a).dram = s.dram ∧ (State.rename6 s p a).dma = s.dma ∧ (State.rename6 s p a).therm = s.therm ∧ (State.rename6 s p a).img = s.img := by
  unfold State.rename6; split <;> simp
@[simp] theorem State.ckptDone_kept (s : State) (seg : Nat) :
    (State.ckptDone s seg).pending = s.pending ∧ (State.ckptDone s seg).wheel = s.wheel ∧ (State.ckptDone s seg).plan = s.plan ∧ (State.ckptDone s seg).rein = s.rein ∧ (State.ckptDone s seg).dram = s.dram ∧ (State.ckptDone s seg).dma = s.dma ∧ (State.ckptDone s seg).therm = s.therm ∧ (State.ckptDone s seg).img = s.img := by
  simp [State.ckptDone]
@[simp] theorem State.snapDone_kept (s : State) :
    (State.snapDone s).pending = s.pending ∧ (State.snapDone s).wheel = s.wheel ∧ (State.snapDone s).plan = s.plan ∧ (State.snapDone s).rein = s.rein ∧ (State.snapDone s).dram = s.dram ∧ (State.snapDone s).dma = s.dma ∧ (State.snapDone s).therm = s.therm ∧ (State.snapDone s).img = s.img := by
  simp [State.snapDone]
@[simp] theorem State.snapFrameSafe_kept (s : State) (epoch : Nat) (key : Nat) (a : Nat) :
    (State.snapFrameSafe s epoch key a).pending = s.pending ∧ (State.snapFrameSafe s epoch key a).wheel = s.wheel ∧ (State.snapFrameSafe s epoch key a).plan = s.plan ∧ (State.snapFrameSafe s epoch key a).rein = s.rein ∧ (State.snapFrameSafe s epoch key a).dram = s.dram ∧ (State.snapFrameSafe s epoch key a).dma = s.dma ∧ (State.snapFrameSafe s epoch key a).therm = s.therm ∧ (State.snapFrameSafe s epoch key a).img = s.img := by
  simp [State.snapFrameSafe]
@[simp] theorem State.runSafe_kept (s : State) (seg : Nat) (seq : Nat) :
    (State.runSafe s seg seq).pending = s.pending ∧ (State.runSafe s seg seq).wheel = s.wheel ∧ (State.runSafe s seg seq).plan = s.plan ∧ (State.runSafe s seg seq).rein = s.rein ∧ (State.runSafe s seg seq).dram = s.dram ∧ (State.runSafe s seg seq).dma = s.dma ∧ (State.runSafe s seg seq).therm = s.therm ∧ (State.runSafe s seg seq).img = s.img := by
  simp [State.runSafe]
@[simp] theorem State.changeUnit_kept (s : State) (d : UnitDesc) (e : MapEntry) (tag : Nat) (hint : Nat) (source : Nat) :
    (State.changeUnit s d e tag hint source).pending = s.pending ∧ (State.changeUnit s d e tag hint source).wheel = s.wheel ∧ (State.changeUnit s d e tag hint source).plan = s.plan ∧ (State.changeUnit s d e tag hint source).rein = s.rein ∧ (State.changeUnit s d e tag hint source).dram = s.dram ∧ (State.changeUnit s d e tag hint source).dma = s.dma ∧ (State.changeUnit s d e tag hint source).therm = s.therm ∧ (State.changeUnit s d e tag hint source).img = s.img := by
  unfold State.changeUnit; refine ⟨?_, ?_, ?_, ?_, ?_, ?_, ?_, ?_⟩ <;> (repeat' (first | (simp; done) | split | dsimp only | simp))
@[simp] theorem State.applyClosed_kept (s : State) (p : Placed) :
    (State.applyClosed s p).2.pending = s.pending ∧ (State.applyClosed s p).2.wheel = s.wheel ∧ (State.applyClosed s p).2.plan = s.plan ∧ (State.applyClosed s p).2.rein = s.rein ∧ (State.applyClosed s p).2.dram = s.dram ∧ (State.applyClosed s p).2.dma = s.dma ∧ (State.applyClosed s p).2.therm = s.therm ∧ (State.applyClosed s p).2.img = s.img := by
  unfold State.applyClosed; refine ⟨?_, ?_, ?_, ?_, ?_, ?_, ?_, ?_⟩ <;> (repeat' (first | (simp; done) | split | dsimp only | simp))
theorem State.applyClosed_fwd {s : State} {p : Placed} {z : _} {z2 : State} (hz : State.applyClosed s p = (z, z2)) : z2.pending = s.pending ∧ z2.wheel = s.wheel ∧ z2.plan = s.plan ∧ z2.rein = s.rein ∧ z2.dram = s.dram ∧ z2.dma = s.dma ∧ z2.therm = s.therm ∧ z2.img = s.img := by
  have h := State.applyClosed_kept s p
  rw [hz] at h; exact h
@[simp] theorem State.applyClosing_kept (s : State) :
    (State.applyClosing s).pending = s.pending ∧ (State.applyClosing s).wheel = s.wheel ∧ (State.applyClosing s).plan = s.plan ∧ (State.applyClosing s).rein = s.rein ∧ (State.applyClosing s).dram = s.dram ∧ (State.applyClosing s).dma = s.dma ∧ (State.applyClosing s).therm = s.therm ∧ (State.applyClosing s).img = s.img := by
  simp [State.applyClosing]
@[simp] theorem State.walk_kept (s : State) (b : Nat) :
    (State.walk s b).pending = s.pending ∧ (State.walk s b).wheel = s.wheel ∧ (State.walk s b).plan = s.plan ∧ (State.walk s b).rein = s.rein ∧ (State.walk s b).dram = s.dram ∧ (State.walk s b).dma = s.dma ∧ (State.walk s b).therm = s.therm ∧ (State.walk s b).img = s.img := by
  simp [State.walk]
@[simp] theorem State.againCkpt_kept (s : State) (seg : Nat) :
    (State.againCkpt s seg).pending = s.pending ∧ (State.againCkpt s seg).wheel = s.wheel ∧ (State.againCkpt s seg).plan = s.plan ∧ (State.againCkpt s seg).rein = s.rein ∧ (State.againCkpt s seg).dram = s.dram ∧ (State.againCkpt s seg).dma = s.dma ∧ (State.againCkpt s seg).therm = s.therm ∧ (State.againCkpt s seg).img = s.img := by
  simp [State.againCkpt]
@[simp] theorem State.evacuateItem_kept (s : State) (b : Nat) (a : Nat) (p : Payload) :
    (State.evacuateItem s b a p).pending = s.pending ∧ (State.evacuateItem s b a p).wheel = s.wheel ∧ (State.evacuateItem s b a p).plan = s.plan ∧ (State.evacuateItem s b a p).rein = s.rein ∧ (State.evacuateItem s b a p).dram = s.dram ∧ (State.evacuateItem s b a p).dma = s.dma ∧ (State.evacuateItem s b a p).therm = s.therm ∧ (State.evacuateItem s b a p).img = s.img := by
  unfold State.evacuateItem; split <;> simp
@[simp] theorem State.evacuateMap_kept (s : State) (b : Nat) :
    (State.evacuateMap s b).pending = s.pending ∧ (State.evacuateMap s b).wheel = s.wheel ∧ (State.evacuateMap s b).plan = s.plan ∧ (State.evacuateMap s b).rein = s.rein ∧ (State.evacuateMap s b).dram = s.dram ∧ (State.evacuateMap s b).dma = s.dma ∧ (State.evacuateMap s b).therm = s.therm ∧ (State.evacuateMap s b).img = s.img := by
  simp [State.evacuateMap]
@[simp] theorem State.evacuateBlock_kept (s : State) (b : Nat) :
    (State.evacuateBlock s b).pending = s.pending ∧ (State.evacuateBlock s b).wheel = s.wheel ∧ (State.evacuateBlock s b).plan = s.plan ∧ (State.evacuateBlock s b).rein = s.rein ∧ (State.evacuateBlock s b).dram = s.dram ∧ (State.evacuateBlock s b).dma = s.dma ∧ (State.evacuateBlock s b).therm = s.therm ∧ (State.evacuateBlock s b).img = s.img := by
  simp [State.evacuateBlock]
@[simp] theorem State.evacuateSet_kept (s : State) (k : Nat) :
    (State.evacuateSet s k).pending = s.pending ∧ (State.evacuateSet s k).wheel = s.wheel ∧ (State.evacuateSet s k).plan = s.plan ∧ (State.evacuateSet s k).rein = s.rein ∧ (State.evacuateSet s k).dram = s.dram ∧ (State.evacuateSet s k).dma = s.dma ∧ (State.evacuateSet s k).therm = s.therm ∧ (State.evacuateSet s k).img = s.img := by
  simp [State.evacuateSet]
@[simp] theorem State.settleBlocks_kept (s : State) :
    (State.settleBlocks s).pending = s.pending ∧ (State.settleBlocks s).wheel = s.wheel ∧ (State.settleBlocks s).plan = s.plan ∧ (State.settleBlocks s).rein = s.rein ∧ (State.settleBlocks s).dram = s.dram ∧ (State.settleBlocks s).dma = s.dma ∧ (State.settleBlocks s).therm = s.therm ∧ (State.settleBlocks s).img = s.img := by
  simp [State.settleBlocks]

end Sys2Proof.Machine
end

