-- ==== Sys2Proof/Laws/KeptDegraded.lean ====
section
/-! SUPPORT. What each function of Sys2Proof/Machine/Degraded.lean leaves unchanged: one lemma a function. -/
set_option linter.unusedTactic false
set_option linter.unreachableTactic false
set_option linter.unusedSimpArgs false
namespace Sys2Proof.Machine

@[simp] theorem State.setJob_kept (s : State) (t : Nat) (j : UnitJob) :
    (State.setJob s t j).pending = s.pending ∧ (State.setJob s t j).wheel = s.wheel ∧ (State.setJob s t j).plan = s.plan ∧ (State.setJob s t j).rein = s.rein ∧ (State.setJob s t j).dram = s.dram ∧ (State.setJob s t j).dma = s.dma ∧ (State.setJob s t j).therm = s.therm ∧ (State.setJob s t j).img = s.img ∧ (State.setJob s t j).awl = s.awl ∧ (State.setJob s t j).codec = s.codec ∧ (State.setJob s t j).map = s.map ∧ (State.setJob s t j).blk = s.blk ∧ (State.setJob s t j).girth = s.girth ∧ (State.setJob s t j).wb = s.wb ∧ (State.setJob s t j).dump = s.dump ∧ (State.setJob s t j).cipher = s.cipher ∧ (State.setJob s t j).skv = s.skv ∧ (State.setJob s t j).mc = s.mc ∧ (State.setJob s t j).media = s.media := by
  simp [State.setJob]
@[simp] theorem State.slotRead_kept (s : State) (gran : Nat) :
    (State.slotRead s gran).pending = s.pending ∧ (State.slotRead s gran).wheel = s.wheel ∧ (State.slotRead s gran).plan = s.plan ∧ (State.slotRead s gran).rein = s.rein ∧ (State.slotRead s gran).dram = s.dram ∧ (State.slotRead s gran).dma = s.dma ∧ (State.slotRead s gran).therm = s.therm ∧ (State.slotRead s gran).img = s.img := by
  simp [State.slotRead]
@[simp] theorem State.jobLeavesSlot_kept (s : State) (t : Nat) :
    (State.jobLeavesSlot s t).pending = s.pending ∧ (State.jobLeavesSlot s t).wheel = s.wheel ∧ (State.jobLeavesSlot s t).plan = s.plan ∧ (State.jobLeavesSlot s t).rein = s.rein ∧ (State.jobLeavesSlot s t).dram = s.dram ∧ (State.jobLeavesSlot s t).dma = s.dma ∧ (State.jobLeavesSlot s t).therm = s.therm ∧ (State.jobLeavesSlot s t).img = s.img := by
  unfold State.jobLeavesSlot; split <;> simp
@[simp] theorem State.dropJob_kept (s : State) (t : Nat) :
    (State.dropJob s t).pending = s.pending ∧ (State.dropJob s t).wheel = s.wheel ∧ (State.dropJob s t).plan = s.plan ∧ (State.dropJob s t).rein = s.rein ∧ (State.dropJob s t).dram = s.dram ∧ (State.dropJob s t).dma = s.dma ∧ (State.dropJob s t).therm = s.therm ∧ (State.dropJob s t).img = s.img := by
  unfold State.dropJob; refine ⟨?_, ?_, ?_, ?_, ?_, ?_, ?_, ?_⟩ <;> (repeat' (first | (simp; done) | split | dsimp only | simp))
@[simp] theorem State.jobFails_kept (s : State) (t : Nat) (r : CmdResult) :
    (State.jobFails s t r).pending = s.pending ∧ (State.jobFails s t r).wheel = s.wheel ∧ (State.jobFails s t r).plan = s.plan ∧ (State.jobFails s t r).rein = s.rein ∧ (State.jobFails s t r).dram = s.dram ∧ (State.jobFails s t r).dma = s.dma ∧ (State.jobFails s t r).therm = s.therm ∧ (State.jobFails s t r).img = s.img := by
  unfold State.jobFails; split <;> simp
@[simp] theorem State.enterRead_kept (s : State) (r : ReadReq) :
    (State.enterRead s r).pending = s.pending ∧ (State.enterRead s r).wheel = s.wheel ∧ (State.enterRead s r).plan = s.plan ∧ (State.enterRead s r).rein = s.rein ∧ (State.enterRead s r).dram = s.dram ∧ (State.enterRead s r).dma = s.dma ∧ (State.enterRead s r).therm = s.therm ∧ (State.enterRead s r).img = s.img := by
  simp [State.enterRead]
@[simp] theorem State.issueRead_kept (s : State) (kind : ReadKind) (use : ReadUse) (gran : Nat) (glen : Nat) (rung : Nat) (step : Nat) (job : Option Nat) :
    (State.issueRead s kind use gran glen rung step job).pending = s.pending ∧ (State.issueRead s kind use gran glen rung step job).wheel = s.wheel ∧ (State.issueRead s kind use gran glen rung step job).plan = s.plan ∧ (State.issueRead s kind use gran glen rung step job).rein = s.rein ∧ (State.issueRead s kind use gran glen rung step job).dram = s.dram ∧ (State.issueRead s kind use gran glen rung step job).dma = s.dma ∧ (State.issueRead s kind use gran glen rung step job).therm = s.therm ∧ (State.issueRead s kind use gran glen rung step job).img = s.img := by
  simp [State.issueRead]
@[simp] theorem State.issueFrames_kept (s : State) (kind : ReadKind) (use : ReadUse) (gran : Nat) (glen : Nat) :
    (State.issueFrames s kind use gran glen).pending = s.pending ∧ (State.issueFrames s kind use gran glen).wheel = s.wheel ∧ (State.issueFrames s kind use gran glen).plan = s.plan ∧ (State.issueFrames s kind use gran glen).rein = s.rein ∧ (State.issueFrames s kind use gran glen).dram = s.dram ∧ (State.issueFrames s kind use gran glen).dma = s.dma ∧ (State.issueFrames s kind use gran glen).therm = s.therm ∧ (State.issueFrames s kind use gran glen).img = s.img := by
  simp [State.issueFrames]
@[simp] theorem State.readGone_kept (s : State) (gran : Nat) :
    (State.readGone s gran).pending = s.pending ∧ (State.readGone s gran).wheel = s.wheel ∧ (State.readGone s gran).plan = s.plan ∧ (State.readGone s gran).rein = s.rein ∧ (State.readGone s gran).dram = s.dram ∧ (State.readGone s gran).dma = s.dma ∧ (State.readGone s gran).therm = s.therm ∧ (State.readGone s gran).img = s.img := by
  simp [State.readGone]
@[simp] theorem State.openRun_kept (s : State) (q : ReadReq) :
    (State.openRun s q).pending = s.pending ∧ (State.openRun s q).wheel = s.wheel ∧ (State.openRun s q).plan = s.plan ∧ (State.openRun s q).rein = s.rein ∧ (State.openRun s q).dram = s.dram ∧ (State.openRun s q).dma = s.dma ∧ (State.openRun s q).therm = s.therm ∧ (State.openRun s q).img = s.img := by
  simp [State.openRun]
@[simp] theorem State.frameEnd_kept (s : State) (q : ReadReq) (lost : Bool) :
    (State.frameEnd s q lost).2.pending = s.pending ∧ (State.frameEnd s q lost).2.wheel = s.wheel ∧ (State.frameEnd s q lost).2.plan = s.plan ∧ (State.frameEnd s q lost).2.rein = s.rein ∧ (State.frameEnd s q lost).2.dram = s.dram ∧ (State.frameEnd s q lost).2.dma = s.dma ∧ (State.frameEnd s q lost).2.therm = s.therm ∧ (State.frameEnd s q lost).2.img = s.img := by
  unfold State.frameEnd; (repeat' split) <;> simp
theorem State.frameEnd_fwd {s : State} {q : ReadReq} {lost : Bool} {z : _} {z2 : State} (hz : State.frameEnd s q lost = (z, z2)) : z2.pending = s.pending ∧ z2.wheel = s.wheel ∧ z2.plan = s.plan ∧ z2.rein = s.rein ∧ z2.dram = s.dram ∧ z2.dma = s.dma ∧ z2.therm = s.therm ∧ z2.img = s.img := by
  have h := State.frameEnd_kept s q lost
  rw [hz] at h; exact h
@[simp] theorem State.ageCheck_kept (s : State) (g : Nat) :
    (State.ageCheck s g).pending = s.pending ∧ (State.ageCheck s g).wheel = s.wheel ∧ (State.ageCheck s g).plan = s.plan ∧ (State.ageCheck s g).rein = s.rein ∧ (State.ageCheck s g).dram = s.dram ∧ (State.ageCheck s g).dma = s.dma ∧ (State.ageCheck s g).therm = s.therm ∧ (State.ageCheck s g).img = s.img := by
  simp [State.ageCheck]
@[simp] theorem State.visitEnd_kept (s : State) (g : Nat) :
    (State.visitEnd s g).pending = s.pending ∧ (State.visitEnd s g).wheel = s.wheel ∧ (State.visitEnd s g).plan = s.plan ∧ (State.visitEnd s g).rein = s.rein ∧ (State.visitEnd s g).dram = s.dram ∧ (State.visitEnd s g).dma = s.dma ∧ (State.visitEnd s g).therm = s.therm ∧ (State.visitEnd s g).img = s.img := by
  simp [State.visitEnd]
@[simp] theorem State.sampleEnd_kept (s : State) (g : Nat) :
    (State.sampleEnd s g).pending = s.pending ∧ (State.sampleEnd s g).wheel = s.wheel ∧ (State.sampleEnd s g).plan = s.plan ∧ (State.sampleEnd s g).rein = s.rein ∧ (State.sampleEnd s g).dram = s.dram ∧ (State.sampleEnd s g).dma = s.dma ∧ (State.sampleEnd s g).therm = s.therm ∧ (State.sampleEnd s g).img = s.img := by
  unfold State.sampleEnd; split <;> simp
@[simp] theorem State.modRecal_kept (s : State) (g : Nat) (f : Recal → Recal) :
    (State.modRecal s g f).pending = s.pending ∧ (State.modRecal s g f).wheel = s.wheel ∧ (State.modRecal s g f).plan = s.plan ∧ (State.modRecal s g f).rein = s.rein ∧ (State.modRecal s g f).dram = s.dram ∧ (State.modRecal s g f).dma = s.dma ∧ (State.modRecal s g f).therm = s.therm ∧ (State.modRecal s g f).img = s.img := by
  simp [State.modRecal]
@[simp] theorem State.endRecal_kept (s : State) (g : Nat) :
    (State.endRecal s g).pending = s.pending ∧ (State.endRecal s g).wheel = s.wheel ∧ (State.endRecal s g).plan = s.plan ∧ (State.endRecal s g).rein = s.rein ∧ (State.endRecal s g).dram = s.dram ∧ (State.endRecal s g).dma = s.dma ∧ (State.endRecal s g).therm = s.therm ∧ (State.endRecal s g).img = s.img := by
  simp [State.endRecal]
@[simp] theorem State.abandonRecal_kept (s : State) (g : Nat) :
    (State.abandonRecal s g).pending = s.pending ∧ (State.abandonRecal s g).wheel = s.wheel ∧ (State.abandonRecal s g).plan = s.plan ∧ (State.abandonRecal s g).rein = s.rein ∧ (State.abandonRecal s g).dram = s.dram ∧ (State.abandonRecal s g).dma = s.dma ∧ (State.abandonRecal s g).therm = s.therm ∧ (State.abandonRecal s g).img = s.img := by
  unfold State.abandonRecal; split <;> simp
@[simp] theorem State.setUncOf_kept (s : State) (nsx : Nat) (unit : Nat) (lost : Nat) :
    (State.setUncOf s nsx unit lost).pending = s.pending ∧ (State.setUncOf s nsx unit lost).wheel = s.wheel ∧ (State.setUncOf s nsx unit lost).plan = s.plan ∧ (State.setUncOf s nsx unit lost).rein = s.rein ∧ (State.setUncOf s nsx unit lost).dram = s.dram ∧ (State.setUncOf s nsx unit lost).dma = s.dma ∧ (State.setUncOf s nsx unit lost).therm = s.therm ∧ (State.setUncOf s nsx unit lost).img = s.img := by
  unfold State.setUncOf; split <;> simp
@[simp] theorem State.setUnc_kept (s : State) (nsx : Nat) (unit : Nat) :
    (State.setUnc s nsx unit).pending = s.pending ∧ (State.setUnc s nsx unit).wheel = s.wheel ∧ (State.setUnc s nsx unit).plan = s.plan ∧ (State.setUnc s nsx unit).rein = s.rein ∧ (State.setUnc s nsx unit).dram = s.dram ∧ (State.setUnc s nsx unit).dma = s.dma ∧ (State.setUnc s nsx unit).therm = s.therm ∧ (State.setUnc s nsx unit).img = s.img := by
  simp [State.setUnc]
@[simp] theorem State.lost6_kept (s : State) (p : Payload) :
    (State.lost6 s p).pending = s.pending ∧ (State.lost6 s p).wheel = s.wheel ∧ (State.lost6 s p).plan = s.plan ∧ (State.lost6 s p).rein = s.rein ∧ (State.lost6 s p).dram = s.dram ∧ (State.lost6 s p).dma = s.dma ∧ (State.lost6 s p).therm = s.therm ∧ (State.lost6 s p).img = s.img := by
  unfold State.lost6; refine ⟨?_, ?_, ?_, ?_, ?_, ?_, ?_, ?_⟩ <;> (repeat' (first | (simp; done) | split | dsimp only | simp))
@[simp] theorem State.readLost_kept (s : State) (r : ReadReq) :
    (State.readLost s r).pending = s.pending ∧ (State.readLost s r).wheel = s.wheel ∧ (State.readLost s r).plan = s.plan ∧ (State.readLost s r).rein = s.rein ∧ (State.readLost s r).dram = s.dram ∧ (State.readLost s r).dma = s.dma ∧ (State.readLost s r).therm = s.therm ∧ (State.readLost s r).img = s.img := by
  unfold State.readLost; split <;> simp
@[simp] theorem State.unrecoverable_kept (s : State) (r : ReadReq) :
    (State.unrecoverable s r).pending = s.pending ∧ (State.unrecoverable s r).wheel = s.wheel ∧ (State.unrecoverable s r).plan = s.plan ∧ (State.unrecoverable s r).rein = s.rein ∧ (State.unrecoverable s r).dram = s.dram ∧ (State.unrecoverable s r).dma = s.dma ∧ (State.unrecoverable s r).therm = s.therm ∧ (State.unrecoverable s r).img = s.img := by
  unfold State.unrecoverable; refine ⟨?_, ?_, ?_, ?_, ?_, ?_, ?_, ?_⟩ <;> (repeat' (first | (simp; done) | split | dsimp only | simp))
@[simp] theorem State.modRecon_kept (s : State) (n : Nat) (f : Recon → Recon) :
    (State.modRecon s n f).pending = s.pending ∧ (State.modRecon s n f).wheel = s.wheel ∧ (State.modRecon s n f).plan = s.plan ∧ (State.modRecon s n f).rein = s.rein ∧ (State.modRecon s n f).dram = s.dram ∧ (State.modRecon s n f).dma = s.dma ∧ (State.modRecon s n f).therm = s.therm ∧ (State.modRecon s n f).img = s.img := by
  simp [State.modRecon]
@[simp] theorem State.dropRecon_kept (s : State) (n : Nat) :
    (State.dropRecon s n).pending = s.pending ∧ (State.dropRecon s n).wheel = s.wheel ∧ (State.dropRecon s n).plan = s.plan ∧ (State.dropRecon s n).rein = s.rein ∧ (State.dropRecon s n).dram = s.dram ∧ (State.dropRecon s n).dma = s.dma ∧ (State.dropRecon s n).therm = s.therm ∧ (State.dropRecon s n).img = s.img := by
  simp [State.dropRecon]
@[simp] theorem State.giveEngines_kept (s : State) :
    (State.giveEngines s).pending = s.pending ∧ (State.giveEngines s).wheel = s.wheel ∧ (State.giveEngines s).plan = s.plan ∧ (State.giveEngines s).rein = s.rein ∧ (State.giveEngines s).dram = s.dram ∧ (State.giveEngines s).dma = s.dma ∧ (State.giveEngines s).therm = s.therm ∧ (State.giveEngines s).img = s.img := by
  simp [State.giveEngines]
@[simp] theorem State.readMembers_kept (s : State) (n : Nat) (r : Recon) (ps : List Nat) :
    (State.readMembers s n r ps).pending = s.pending ∧ (State.readMembers s n r ps).wheel = s.wheel ∧ (State.readMembers s n r ps).plan = s.plan ∧ (State.readMembers s n r ps).rein = s.rein ∧ (State.readMembers s n r ps).dram = s.dram ∧ (State.readMembers s n r ps).dma = s.dma ∧ (State.readMembers s n r ps).therm = s.therm ∧ (State.readMembers s n r ps).img = s.img := by
  simp [State.readMembers]
@[simp] theorem State.degrade_kept (s : State) (q : ReadReq) :
    (State.degrade s q).pending = s.pending ∧ (State.degrade s q).wheel = s.wheel ∧ (State.degrade s q).plan = s.plan ∧ (State.degrade s q).rein = s.rein ∧ (State.degrade s q).dram = s.dram ∧ (State.degrade s q).dma = s.dma ∧ (State.degrade s q).therm = s.therm ∧ (State.degrade s q).img = s.img := by
  unfold State.degrade; refine ⟨?_, ?_, ?_, ?_, ?_, ?_, ?_, ?_⟩ <;> (repeat' (first | (simp; done) | split | dsimp only | simp))
@[simp] theorem State.degradeRun_kept (s : State) (q : ReadReq) :
    (State.degradeRun s q).pending = s.pending ∧ (State.degradeRun s q).wheel = s.wheel ∧ (State.degradeRun s q).plan = s.plan ∧ (State.degradeRun s q).rein = s.rein ∧ (State.degradeRun s q).dram = s.dram ∧ (State.degradeRun s q).dma = s.dma ∧ (State.degradeRun s q).therm = s.therm ∧ (State.degradeRun s q).img = s.img := by
  simp [State.degradeRun]
@[simp] theorem State.memberRead_kept (s : State) (n : Nat) (gran : Nat) (ok : Bool) :
    (State.memberRead s n gran ok).pending = s.pending ∧ (State.memberRead s n gran ok).wheel = s.wheel ∧ (State.memberRead s n gran ok).plan = s.plan ∧ (State.memberRead s n gran ok).rein = s.rein ∧ (State.memberRead s n gran ok).dram = s.dram ∧ (State.memberRead s n gran ok).dma = s.dma ∧ (State.memberRead s n gran ok).therm = s.therm ∧ (State.memberRead s n gran ok).img = s.img := by
  unfold State.memberRead; split <;> simp

end Sys2Proof.Machine
end

