-- ==== Sys2Proof/Laws/KeptAwl.lean ====
section
/-! SUPPORT. What each function of Sys2Proof/Machine/Awl.lean leaves unchanged: one lemma a function. -/
set_option linter.unusedTactic false
set_option linter.unreachableTactic false
set_option linter.unusedSimpArgs false
namespace Sys2Proof.Machine

@[simp] theorem State.fillDies_kept (s : State) :
    (State.fillDies s).pending = s.pending ∧ (State.fillDies s).wheel = s.wheel ∧ (State.fillDies s).plan = s.plan ∧ (State.fillDies s).rein = s.rein ∧ (State.fillDies s).dram = s.dram ∧ (State.fillDies s).dma = s.dma ∧ (State.fillDies s).therm = s.therm ∧ (State.fillDies s).img = s.img := by
  simp [State.fillDies]
@[simp] theorem State.groupRead_kept (s : State) (gran : Nat) :
    (State.groupRead s gran).pending = s.pending ∧ (State.groupRead s gran).wheel = s.wheel ∧ (State.groupRead s gran).plan = s.plan ∧ (State.groupRead s gran).rein = s.rein ∧ (State.groupRead s gran).dram = s.dram ∧ (State.groupRead s gran).dma = s.dma ∧ (State.groupRead s gran).therm = s.therm ∧ (State.groupRead s gran).img = s.img := by
  simp [State.groupRead]
@[simp] theorem State.refuseRead_kept (s : State) (r : ReadReq) :
    (State.refuseRead s r).pending = s.pending ∧ (State.refuseRead s r).wheel = s.wheel ∧ (State.refuseRead s r).plan = s.plan ∧ (State.refuseRead s r).rein = s.rein ∧ (State.refuseRead s r).dram = s.dram ∧ (State.refuseRead s r).dma = s.dma ∧ (State.refuseRead s r).therm = s.therm ∧ (State.refuseRead s r).img = s.img := by
  unfold State.refuseRead; split <;> simp
@[simp] theorem State.sendRead_kept (s : State) (d : Nat) (r : ReadReq) :
    (State.sendRead s d r).pending = s.pending ∧ (State.sendRead s d r).wheel = s.wheel ∧ (State.sendRead s d r).plan = s.plan ∧ (State.sendRead s d r).rein = s.rein ∧ (State.sendRead s d r).dram = s.dram ∧ (State.sendRead s d r).dma = s.dma ∧ (State.sendRead s d r).therm = s.therm ∧ (State.sendRead s d r).img = s.img := by
  simp [State.sendRead]
@[simp] theorem State.startRead_kept (s : State) (d : Nat) (r : ReadReq) :
    (State.startRead s d r).pending = s.pending ∧ (State.startRead s d r).wheel = s.wheel ∧ (State.startRead s d r).plan = s.plan ∧ (State.startRead s d r).rein = s.rein ∧ (State.startRead s d r).dram = s.dram ∧ (State.startRead s d r).dma = s.dma ∧ (State.startRead s d r).therm = s.therm ∧ (State.startRead s d r).img = s.img := by
  simp [State.startRead]
@[simp] theorem State.softNext_kept (s : State) (r : ReadReq) :
    (State.softNext s r).2.pending = s.pending ∧ (State.softNext s r).2.wheel = s.wheel ∧ (State.softNext s r).2.plan = s.plan ∧ (State.softNext s r).2.rein = s.rein ∧ (State.softNext s r).2.dram = s.dram ∧ (State.softNext s r).2.dma = s.dma ∧ (State.softNext s r).2.therm = s.therm ∧ (State.softNext s r).2.img = s.img := by
  unfold State.softNext; split <;> simp
theorem State.softNext_fwd {s : State} {r : ReadReq} {z : _} {z2 : State} (hz : State.softNext s r = (z, z2)) : z2.pending = s.pending ∧ z2.wheel = s.wheel ∧ z2.plan = s.plan ∧ z2.rein = s.rein ∧ z2.dram = s.dram ∧ z2.dma = s.dma ∧ z2.therm = s.therm ∧ z2.img = s.img := by
  have h := State.softNext_kept s r
  rw [hz] at h; exact h
@[simp] theorem State.startHost_kept (s : State) (d : Nat) (n : Nat) :
    (State.startHost s d n).pending = s.pending ∧ (State.startHost s d n).wheel = s.wheel ∧ (State.startHost s d n).plan = s.plan ∧ (State.startHost s d n).rein = s.rein ∧ (State.startHost s d n).dram = s.dram ∧ (State.startHost s d n).dma = s.dma ∧ (State.startHost s d n).therm = s.therm ∧ (State.startHost s d n).img = s.img := by
  induction n generalizing s with
  | zero => simp [State.startHost]
  | succ n_ ih =>
    unfold State.startHost
    refine ⟨?_, ?_, ?_, ?_, ?_, ?_, ?_, ?_⟩ <;> (repeat' (first | (simp [-List.reduceReplicate, ih]; done) | split | dsimp only | simp [-List.reduceReplicate, ih] | grind only [→ State.softNext_fwd]))
@[simp] theorem State.startInternal_kept (s : State) (d : Nat) (cls : Nat) (n : Nat) :
    (State.startInternal s d cls n).pending = s.pending ∧ (State.startInternal s d cls n).wheel = s.wheel ∧ (State.startInternal s d cls n).plan = s.plan ∧ (State.startInternal s d cls n).rein = s.rein ∧ (State.startInternal s d cls n).dram = s.dram ∧ (State.startInternal s d cls n).dma = s.dma ∧ (State.startInternal s d cls n).therm = s.therm ∧ (State.startInternal s d cls n).img = s.img := by
  induction n generalizing s with
  | zero => simp [State.startInternal]
  | succ n_ ih =>
    unfold State.startInternal
    refine ⟨?_, ?_, ?_, ?_, ?_, ?_, ?_, ?_⟩ <;> (repeat' (first | (simp [-List.reduceReplicate, ih]; done) | split | dsimp only | simp [-List.reduceReplicate, ih] | grind only [→ State.softNext_fwd]))
@[simp] theorem State.suspendOp_kept (s : State) (d : Nat) (why : Suspended) :
    (State.suspendOp s d why).pending = s.pending ∧ (State.suspendOp s d why).wheel = s.wheel ∧ (State.suspendOp s d why).plan = s.plan ∧ (State.suspendOp s d why).rein = s.rein ∧ (State.suspendOp s d why).dram = s.dram ∧ (State.suspendOp s d why).dma = s.dma ∧ (State.suspendOp s d why).therm = s.therm ∧ (State.suspendOp s d why).img = s.img := by
  unfold State.suspendOp; split <;> simp
@[simp] theorem State.resumeOp_kept (s : State) (d : Nat) :
    (State.resumeOp s d).pending = s.pending ∧ (State.resumeOp s d).wheel = s.wheel ∧ (State.resumeOp s d).plan = s.plan ∧ (State.resumeOp s d).rein = s.rein ∧ (State.resumeOp s d).dram = s.dram ∧ (State.resumeOp s d).dma = s.dma ∧ (State.resumeOp s d).therm = s.therm ∧ (State.resumeOp s d).img = s.img := by
  unfold State.resumeOp; refine ⟨?_, ?_, ?_, ?_, ?_, ?_, ?_, ?_⟩ <;> (repeat' (first | (simp; done) | split | dsimp only | simp))
@[simp] theorem State.sendWork_kept (s : State) (d : Nat) (w : WorkReq) :
    (State.sendWork s d w).pending = s.pending ∧ (State.sendWork s d w).wheel = s.wheel ∧ (State.sendWork s d w).plan = s.plan ∧ (State.sendWork s d w).rein = s.rein ∧ (State.sendWork s d w).dram = s.dram ∧ (State.sendWork s d w).dma = s.dma ∧ (State.sendWork s d w).therm = s.therm ∧ (State.sendWork s d w).img = s.img := by
  simp [State.sendWork]
@[simp] theorem State.startWork_kept (s : State) (d : Nat) :
    (State.startWork s d).pending = s.pending ∧ (State.startWork s d).wheel = s.wheel ∧ (State.startWork s d).plan = s.plan ∧ (State.startWork s d).rein = s.rein ∧ (State.startWork s d).dram = s.dram ∧ (State.startWork s d).dma = s.dma ∧ (State.startWork s d).therm = s.therm ∧ (State.startWork s d).img = s.img := by
  unfold State.startWork; refine ⟨?_, ?_, ?_, ?_, ?_, ?_, ?_, ?_⟩ <;> (repeat' (first | (simp; done) | split | dsimp only | simp))
@[simp] theorem State.dispatch_kept (s : State) (d : Nat) :
    (State.dispatch s d).pending = s.pending ∧ (State.dispatch s d).wheel = s.wheel ∧ (State.dispatch s d).plan = s.plan ∧ (State.dispatch s d).rein = s.rein ∧ (State.dispatch s d).dram = s.dram ∧ (State.dispatch s d).dma = s.dma ∧ (State.dispatch s d).therm = s.therm ∧ (State.dispatch s d).img = s.img := by
  simp [State.dispatch]
@[simp] theorem State.startFrame_kept (s : State) (c : Nat) (d : Nat) (id : Nat) :
    (State.startFrame s c d id).pending = s.pending ∧ (State.startFrame s c d id).wheel = s.wheel ∧ (State.startFrame s c d id).plan = s.plan ∧ (State.startFrame s c d id).rein = s.rein ∧ (State.startFrame s c d id).dram = s.dram ∧ (State.startFrame s c d id).dma = s.dma ∧ (State.startFrame s c d id).therm = s.therm ∧ (State.startFrame s c d id).img = s.img := by
  unfold State.startFrame; split <;> simp
@[simp] theorem State.startPage_kept (s : State) (c : Nat) (d : Nat) :
    (State.startPage s c d).pending = s.pending ∧ (State.startPage s c d).wheel = s.wheel ∧ (State.startPage s c d).plan = s.plan ∧ (State.startPage s c d).rein = s.rein ∧ (State.startPage s c d).dram = s.dram ∧ (State.startPage s c d).dma = s.dma ∧ (State.startPage s c d).therm = s.therm ∧ (State.startPage s c d).img = s.img := by
  unfold State.startPage; split <;> simp
@[simp] theorem State.pumpChannel_kept (s : State) (c : Nat) :
    (State.pumpChannel s c).pending = s.pending ∧ (State.pumpChannel s c).wheel = s.wheel ∧ (State.pumpChannel s c).plan = s.plan ∧ (State.pumpChannel s c).rein = s.rein ∧ (State.pumpChannel s c).dram = s.dram ∧ (State.pumpChannel s c).dma = s.dma ∧ (State.pumpChannel s c).therm = s.therm ∧ (State.pumpChannel s c).img = s.img := by
  unfold State.pumpChannel; refine ⟨?_, ?_, ?_, ?_, ?_, ?_, ?_, ?_⟩ <;> (repeat' (first | (simp; done) | split | dsimp only | simp))
@[simp] theorem State.pumpChannels_kept (s : State) :
    (State.pumpChannels s).pending = s.pending ∧ (State.pumpChannels s).wheel = s.wheel ∧ (State.pumpChannels s).plan = s.plan ∧ (State.pumpChannels s).rein = s.rein ∧ (State.pumpChannels s).dram = s.dram ∧ (State.pumpChannels s).dma = s.dma ∧ (State.pumpChannels s).therm = s.therm ∧ (State.pumpChannels s).img = s.img := by
  simp [State.pumpChannels]
@[simp] theorem State.dispatchAll_kept (s : State) :
    (State.dispatchAll s).pending = s.pending ∧ (State.dispatchAll s).wheel = s.wheel ∧ (State.dispatchAll s).plan = s.plan ∧ (State.dispatchAll s).rein = s.rein ∧ (State.dispatchAll s).dram = s.dram ∧ (State.dispatchAll s).dma = s.dma ∧ (State.dispatchAll s).therm = s.therm ∧ (State.dispatchAll s).img = s.img := by
  simp [State.dispatchAll]
@[simp] theorem State.countBlocked_kept (s : State) (d : Nat) :
    (State.countBlocked s d).pending = s.pending ∧ (State.countBlocked s d).wheel = s.wheel ∧ (State.countBlocked s d).plan = s.plan ∧ (State.countBlocked s d).rein = s.rein ∧ (State.countBlocked s d).dram = s.dram ∧ (State.countBlocked s d).dma = s.dma ∧ (State.countBlocked s d).therm = s.therm ∧ (State.countBlocked s d).img = s.img ∧ (State.countBlocked s d).awl = s.awl ∧ (State.countBlocked s d).codec = s.codec ∧ (State.countBlocked s d).map = s.map ∧ (State.countBlocked s d).blk = s.blk ∧ (State.countBlocked s d).girth = s.girth ∧ (State.countBlocked s d).wb = s.wb ∧ (State.countBlocked s d).dump = s.dump ∧ (State.countBlocked s d).cipher = s.cipher ∧ (State.countBlocked s d).skv = s.skv ∧ (State.countBlocked s d).mc = s.mc ∧ (State.countBlocked s d).media = s.media := by
  simp [State.countBlocked]
@[simp] theorem State.dieTooth_kept (s : State) (d : Nat) :
    (State.dieTooth s d).pending = s.pending ∧ (State.dieTooth s d).wheel = s.wheel ∧ (State.dieTooth s d).plan = s.plan ∧ (State.dieTooth s d).rein = s.rein ∧ (State.dieTooth s d).dram = s.dram ∧ (State.dieTooth s d).dma = s.dma ∧ (State.dieTooth s d).therm = s.therm ∧ (State.dieTooth s d).img = s.img := by
  unfold State.dieTooth; refine ⟨?_, ?_, ?_, ?_, ?_, ?_, ?_, ?_⟩ <;> (repeat' (first | (simp; done) | split | dsimp only | simp))
@[simp] theorem State.awlTooth_kept (s : State) :
    (State.awlTooth s).pending = s.pending ∧ (State.awlTooth s).wheel = s.wheel ∧ (State.awlTooth s).plan = s.plan ∧ (State.awlTooth s).rein = s.rein ∧ (State.awlTooth s).dram = s.dram ∧ (State.awlTooth s).dma = s.dma ∧ (State.awlTooth s).therm = s.therm ∧ (State.awlTooth s).img = s.img := by
  simp [State.awlTooth]
@[simp] theorem State.hrqArrived_kept (s : State) (d : Nat) :
    (State.hrqArrived s d).pending = s.pending ∧ (State.hrqArrived s d).wheel = s.wheel ∧ (State.hrqArrived s d).plan = s.plan ∧ (State.hrqArrived s d).rein = s.rein ∧ (State.hrqArrived s d).dram = s.dram ∧ (State.hrqArrived s d).dma = s.dma ∧ (State.hrqArrived s d).therm = s.therm ∧ (State.hrqArrived s d).img = s.img := by
  unfold State.hrqArrived; split <;> simp

end Sys2Proof.Machine
end

