-- ==== Sys2Proof/Laws/KeptLedger.lean ====
section
/-! SUPPORT. What each function of Sys2Proof/Machine/Ledger.lean leaves unchanged: one lemma a function. -/
set_option linter.unusedTactic false
set_option linter.unreachableTactic false
set_option linter.unusedSimpArgs false
namespace Sys2Proof.Machine

theorem State.nextDie_fwd {s : State} {c : Nat} {z : Nat × State} (hz : State.nextDie s c = some z) : z.2.pending = s.pending ∧ z.2.wheel = s.wheel ∧ z.2.plan = s.plan ∧ z.2.rein = s.rein ∧ z.2.dram = s.dram ∧ z.2.dma = s.dma ∧ z.2.therm = s.therm ∧ z.2.img = s.img := by
  unfold State.nextDie at hz
  repeat' (first | contradiction | (simp only [Option.some.injEq, reduceCtorEq] at hz; subst hz; refine ⟨?_, ?_, ?_, ?_, ?_, ?_, ?_, ?_⟩ <;> (repeat' (first | (simp; done) | split | dsimp only | simp)); done) | split at hz | (dsimp only at hz))
@[simp] theorem State.openBlock_kept (s : State) (b : Nat) (stream : Nat) (fc : Bool) (erase : Bool) :
    (State.openBlock s b stream fc erase).pending = s.pending ∧ (State.openBlock s b stream fc erase).wheel = s.wheel ∧ (State.openBlock s b stream fc erase).plan = s.plan ∧ (State.openBlock s b stream fc erase).rein = s.rein ∧ (State.openBlock s b stream fc erase).dram = s.dram ∧ (State.openBlock s b stream fc erase).dma = s.dma ∧ (State.openBlock s b stream fc erase).therm = s.therm ∧ (State.openBlock s b stream fc erase).img = s.img := by
  simp [State.openBlock]
@[simp] theorem State.openPair_kept (s : State) :
    (State.openPair s).pending = s.pending ∧ (State.openPair s).wheel = s.wheel ∧ (State.openPair s).plan = s.plan ∧ (State.openPair s).rein = s.rein ∧ (State.openPair s).dram = s.dram ∧ (State.openPair s).dma = s.dma ∧ (State.openPair s).therm = s.therm ∧ (State.openPair s).img = s.img := by
  unfold State.openPair; refine ⟨?_, ?_, ?_, ?_, ?_, ?_, ?_, ?_⟩ <;> (repeat' (first | (simp; done) | split | dsimp only | simp | grind only [→ State.takeBlock_fwd, → State.nextDie_fwd]))
@[simp] theorem State.beginCycle_kept (s : State) (at_ : Nat × Nat × Nat) :
    (State.beginCycle s at_).pending = s.pending ∧ (State.beginCycle s at_).wheel = s.wheel ∧ (State.beginCycle s at_).plan = s.plan ∧ (State.beginCycle s at_).rein = s.rein ∧ (State.beginCycle s at_).dram = s.dram ∧ (State.beginCycle s at_).dma = s.dma ∧ (State.beginCycle s at_).therm = s.therm ∧ (State.beginCycle s at_).img = s.img := by
  unfold State.beginCycle; refine ⟨?_, ?_, ?_, ?_, ?_, ?_, ?_, ?_⟩ <;> (repeat' (first | (simp; done) | split | dsimp only | simp))
@[simp] theorem State.queuePage_kept (s : State) (p : LedgerPage) :
    (State.queuePage s p).pending = s.pending ∧ (State.queuePage s p).wheel = s.wheel ∧ (State.queuePage s p).plan = s.plan ∧ (State.queuePage s p).rein = s.rein ∧ (State.queuePage s p).dram = s.dram ∧ (State.queuePage s p).dma = s.dma ∧ (State.queuePage s p).therm = s.therm ∧ (State.queuePage s p).img = s.img := by
  simp [State.queuePage]
@[simp] theorem State.beginsAt_kept (s : State) (at_ : Nat × Nat × Nat) (e : LedgerEntry) :
    (State.beginsAt s at_ e).pending = s.pending ∧ (State.beginsAt s at_ e).wheel = s.wheel ∧ (State.beginsAt s at_ e).plan = s.plan ∧ (State.beginsAt s at_ e).rein = s.rein ∧ (State.beginsAt s at_ e).dram = s.dram ∧ (State.beginsAt s at_ e).dma = s.dma ∧ (State.beginsAt s at_ e).therm = s.therm ∧ (State.beginsAt s at_ e).img = s.img := by
  unfold State.beginsAt; split <;> simp
@[simp] theorem State.writePage_kept (s : State) (a : Nat) (b : Nat) (page : Nat) (new : List LedgerEntry) (refresh : List LedgerEntry) :
    (State.writePage s a b page new refresh).pending = s.pending ∧ (State.writePage s a b page new refresh).wheel = s.wheel ∧ (State.writePage s a b page new refresh).plan = s.plan ∧ (State.writePage s a b page new refresh).rein = s.rein ∧ (State.writePage s a b page new refresh).dram = s.dram ∧ (State.writePage s a b page new refresh).dma = s.dma ∧ (State.writePage s a b page new refresh).therm = s.therm ∧ (State.writePage s a b page new refresh).img = s.img := by
  simp [State.writePage]
@[simp] theorem State.owesLink_kept (s : State) (a : Nat) (b : Nat) (page : Nat) :
    (State.owesLink s a b page).pending = s.pending ∧ (State.owesLink s a b page).wheel = s.wheel ∧ (State.owesLink s a b page).plan = s.plan ∧ (State.owesLink s a b page).rein = s.rein ∧ (State.owesLink s a b page).dram = s.dram ∧ (State.owesLink s a b page).dma = s.dma ∧ (State.owesLink s a b page).therm = s.therm ∧ (State.owesLink s a b page).img = s.img := by
  simp [State.owesLink]
@[simp] theorem State.writeLink_kept (s : State) (a : Nat) (b : Nat) (page : Nat) (na : Nat) (nb : Nat) :
    (State.writeLink s a b page na nb).pending = s.pending ∧ (State.writeLink s a b page na nb).wheel = s.wheel ∧ (State.writeLink s a b page na nb).plan = s.plan ∧ (State.writeLink s a b page na nb).rein = s.rein ∧ (State.writeLink s a b page na nb).dram = s.dram ∧ (State.writeLink s a b page na nb).dma = s.dma ∧ (State.writeLink s a b page na nb).therm = s.therm ∧ (State.writeLink s a b page na nb).img = s.img := by
  simp [State.writeLink]
@[simp] theorem State.replacePair_kept (s : State) :
    (State.replacePair s).pending = s.pending ∧ (State.replacePair s).wheel = s.wheel ∧ (State.replacePair s).plan = s.plan ∧ (State.replacePair s).rein = s.rein ∧ (State.replacePair s).dram = s.dram ∧ (State.replacePair s).dma = s.dma ∧ (State.replacePair s).therm = s.therm ∧ (State.replacePair s).img = s.img := by
  unfold State.replacePair; split <;> simp
@[simp] theorem State.ledgerPage_kept (s : State) :
    (State.ledgerPage s).pending = s.pending ∧ (State.ledgerPage s).wheel = s.wheel ∧ (State.ledgerPage s).plan = s.plan ∧ (State.ledgerPage s).rein = s.rein ∧ (State.ledgerPage s).dram = s.dram ∧ (State.ledgerPage s).dma = s.dma ∧ (State.ledgerPage s).therm = s.therm ∧ (State.ledgerPage s).img = s.img := by
  unfold State.ledgerPage; refine ⟨?_, ?_, ?_, ?_, ?_, ?_, ?_, ?_⟩ <;> (repeat' (first | (simp; done) | split | dsimp only | simp))
@[simp] theorem State.releaseBehind_kept (s : State) (b : Nat) :
    (State.releaseBehind s b).pending = s.pending ∧ (State.releaseBehind s b).wheel = s.wheel ∧ (State.releaseBehind s b).plan = s.plan ∧ (State.releaseBehind s b).rein = s.rein ∧ (State.releaseBehind s b).dram = s.dram ∧ (State.releaseBehind s b).dma = s.dma ∧ (State.releaseBehind s b).therm = s.therm ∧ (State.releaseBehind s b).img = s.img := by
  simp [State.releaseBehind]
@[simp] theorem State.entryDurable_kept (s : State) (e : LedgerEntry) :
    (State.entryDurable s e).pending = s.pending ∧ (State.entryDurable s e).wheel = s.wheel ∧ (State.entryDurable s e).plan = s.plan ∧ (State.entryDurable s e).rein = s.rein ∧ (State.entryDurable s e).dram = s.dram ∧ (State.entryDurable s e).dma = s.dma ∧ (State.entryDurable s e).therm = s.therm ∧ (State.entryDurable s e).img = s.img := by
  unfold State.entryDurable; split <;> simp
@[simp] theorem State.pageDurable_kept (s : State) (p : LedgerPage) :
    (State.pageDurable s p).pending = s.pending ∧ (State.pageDurable s p).wheel = s.wheel ∧ (State.pageDurable s p).plan = s.plan ∧ (State.pageDurable s p).rein = s.rein ∧ (State.pageDurable s p).dram = s.dram ∧ (State.pageDurable s p).dma = s.dma ∧ (State.pageDurable s p).therm = s.therm ∧ (State.pageDurable s p).img = s.img := by
  unfold State.pageDurable; refine ⟨?_, ?_, ?_, ?_, ?_, ?_, ?_, ?_⟩ <;> (repeat' (first | (simp; done) | split | dsimp only | simp))
@[simp] theorem State.rewritePage_kept (s : State) (p : LedgerPage) :
    (State.rewritePage s p).pending = s.pending ∧ (State.rewritePage s p).wheel = s.wheel ∧ (State.rewritePage s p).plan = s.plan ∧ (State.rewritePage s p).rein = s.rein ∧ (State.rewritePage s p).dram = s.dram ∧ (State.rewritePage s p).dma = s.dma ∧ (State.rewritePage s p).therm = s.therm ∧ (State.rewritePage s p).img = s.img := by
  unfold State.rewritePage; split <;> simp
@[simp] theorem State.pageFailed_kept (s : State) (p : LedgerPage) (a : Bool) (b : Bool) :
    (State.pageFailed s p a b).pending = s.pending ∧ (State.pageFailed s p a b).wheel = s.wheel ∧ (State.pageFailed s p a b).plan = s.plan ∧ (State.pageFailed s p a b).rein = s.rein ∧ (State.pageFailed s p a b).dram = s.dram ∧ (State.pageFailed s p a b).dma = s.dma ∧ (State.pageFailed s p a b).therm = s.therm ∧ (State.pageFailed s p a b).img = s.img := by
  unfold State.pageFailed; refine ⟨?_, ?_, ?_, ?_, ?_, ?_, ?_, ?_⟩ <;> (repeat' (first | (simp; done) | split | dsimp only | simp))
@[simp] theorem State.ledgerEnd_kept (s : State) (seq : Nat) (isB : Bool) (ok : Bool) :
    (State.ledgerEnd s seq isB ok).pending = s.pending ∧ (State.ledgerEnd s seq isB ok).wheel = s.wheel ∧ (State.ledgerEnd s seq isB ok).plan = s.plan ∧ (State.ledgerEnd s seq isB ok).rein = s.rein ∧ (State.ledgerEnd s seq isB ok).dram = s.dram ∧ (State.ledgerEnd s seq isB ok).dma = s.dma ∧ (State.ledgerEnd s seq isB ok).therm = s.therm ∧ (State.ledgerEnd s seq isB ok).img = s.img := by
  unfold State.ledgerEnd; refine ⟨?_, ?_, ?_, ?_, ?_, ?_, ?_, ?_⟩ <;> (repeat' (first | (simp; done) | split | dsimp only | simp))
@[simp] theorem State.anchorDurable_kept (s : State) (a : Nat) :
    (State.anchorDurable s a).pending = s.pending ∧ (State.anchorDurable s a).wheel = s.wheel ∧ (State.anchorDurable s a).plan = s.plan ∧ (State.anchorDurable s a).rein = s.rein ∧ (State.anchorDurable s a).dram = s.dram ∧ (State.anchorDurable s a).dma = s.dma ∧ (State.anchorDurable s a).therm = s.therm ∧ (State.anchorDurable s a).img = s.img := by
  simp [State.anchorDurable]
@[simp] theorem State.rebuildSet_kept (s : State) (k : Nat) :
    (State.rebuildSet s k).pending = s.pending ∧ (State.rebuildSet s k).wheel = s.wheel ∧ (State.rebuildSet s k).plan = s.plan ∧ (State.rebuildSet s k).rein = s.rein ∧ (State.rebuildSet s k).dram = s.dram ∧ (State.rebuildSet s k).dma = s.dma ∧ (State.rebuildSet s k).therm = s.therm ∧ (State.rebuildSet s k).img = s.img := by
  unfold State.rebuildSet; refine ⟨?_, ?_, ?_, ?_, ?_, ?_, ?_, ?_⟩ <;> (repeat' (first | (simp; done) | split | dsimp only | simp))
@[simp] theorem State.workEnd_kept (s : State) (w : WorkReq) (ok : Bool) :
    (State.workEnd s w ok).pending = s.pending ∧ (State.workEnd s w ok).wheel = s.wheel ∧ (State.workEnd s w ok).plan = s.plan ∧ (State.workEnd s w ok).rein = s.rein ∧ (State.workEnd s w ok).dram = s.dram ∧ (State.workEnd s w ok).dma = s.dma ∧ (State.workEnd s w ok).therm = s.therm ∧ (State.workEnd s w ok).img = s.img := by
  unfold State.workEnd; split <;> simp

end Sys2Proof.Machine
end

