-- ==== Sys2Proof/Laws/KeptIsolate.lean ====
section
/-! SUPPORT. What each function of Sys2Proof/Machine/Isolate.lean leaves unchanged: one lemma a function. -/
set_option linter.unusedTactic false
set_option linter.unreachableTactic false
set_option linter.unusedSimpArgs false
namespace Sys2Proof.Machine

@[simp] theorem State.checkLayout_kept (s : State) (reason : Nat) :
    (State.checkLayout s reason).pending = s.pending ∧ (State.checkLayout s reason).wheel = s.wheel ∧ (State.checkLayout s reason).plan = s.plan ∧ (State.checkLayout s reason).rein = s.rein ∧ (State.checkLayout s reason).dram = s.dram ∧ (State.checkLayout s reason).dma = s.dma ∧ (State.checkLayout s reason).therm = s.therm ∧ (State.checkLayout s reason).img = s.img := by
  simp [State.checkLayout]
@[simp] theorem State.redirect_kept (s : State) (r : ReadReq) :
    (State.redirect s r).pending = s.pending ∧ (State.redirect s r).wheel = s.wheel ∧ (State.redirect s r).plan = s.plan ∧ (State.redirect s r).rein = s.rein ∧ (State.redirect s r).dram = s.dram ∧ (State.redirect s r).dma = s.dma ∧ (State.redirect s r).therm = s.therm ∧ (State.redirect s r).img = s.img := by
  unfold State.redirect; split <;> simp
@[simp] theorem State.deadWork_kept (s : State) (w : WorkReq) :
    (State.deadWork s w).pending = s.pending ∧ (State.deadWork s w).wheel = s.wheel ∧ (State.deadWork s w).plan = s.plan ∧ (State.deadWork s w).rein = s.rein ∧ (State.deadWork s w).dram = s.dram ∧ (State.deadWork s w).dma = s.dma ∧ (State.deadWork s w).therm = s.therm ∧ (State.deadWork s w).img = s.img := by
  simp [State.deadWork]
@[simp] theorem State.drainDie_kept (s : State) (d : Nat) :
    (State.drainDie s d).pending = s.pending ∧ (State.drainDie s d).wheel = s.wheel ∧ (State.drainDie s d).plan = s.plan ∧ (State.drainDie s d).rein = s.rein ∧ (State.drainDie s d).dram = s.dram ∧ (State.drainDie s d).dma = s.dma ∧ (State.drainDie s d).therm = s.therm ∧ (State.drainDie s d).img = s.img := by
  simp [State.drainDie]
@[simp] theorem State.drainRetired_kept (s : State) (d : Nat) :
    (State.drainRetired s d).pending = s.pending ∧ (State.drainRetired s d).wheel = s.wheel ∧ (State.drainRetired s d).plan = s.plan ∧ (State.drainRetired s d).rein = s.rein ∧ (State.drainRetired s d).dram = s.dram ∧ (State.drainRetired s d).dma = s.dma ∧ (State.drainRetired s d).therm = s.therm ∧ (State.drainRetired s d).img = s.img := by
  simp [State.drainRetired]
@[simp] theorem State.refuseWork_kept (s : State) (w : WorkReq) :
    (State.refuseWork s w).pending = s.pending ∧ (State.refuseWork s w).wheel = s.wheel ∧ (State.refuseWork s w).plan = s.plan ∧ (State.refuseWork s w).rein = s.rein ∧ (State.refuseWork s w).dram = s.dram ∧ (State.refuseWork s w).dma = s.dma ∧ (State.refuseWork s w).therm = s.therm ∧ (State.refuseWork s w).img = s.img := by
  simp [State.refuseWork]
@[simp] theorem State.refuseWorks_kept (s : State) (d : Nat) :
    (State.refuseWorks s d).pending = s.pending ∧ (State.refuseWorks s d).wheel = s.wheel ∧ (State.refuseWorks s d).plan = s.plan ∧ (State.refuseWorks s d).rein = s.rein ∧ (State.refuseWorks s d).dram = s.dram ∧ (State.refuseWorks s d).dma = s.dma ∧ (State.refuseWorks s d).therm = s.therm ∧ (State.refuseWorks s d).img = s.img := by
  simp [State.refuseWorks]
@[simp] theorem State.refuseReads_kept (s : State) (d : Nat) :
    (State.refuseReads s d).pending = s.pending ∧ (State.refuseReads s d).wheel = s.wheel ∧ (State.refuseReads s d).plan = s.plan ∧ (State.refuseReads s d).rein = s.rein ∧ (State.refuseReads s d).dram = s.dram ∧ (State.refuseReads s d).dma = s.dma ∧ (State.refuseReads s d).therm = s.therm ∧ (State.refuseReads s d).img = s.img := by
  simp [State.refuseReads]
@[simp] theorem State.drainDead_kept (s : State) :
    (State.drainDead s).pending = s.pending ∧ (State.drainDead s).wheel = s.wheel ∧ (State.drainDead s).plan = s.plan ∧ (State.drainDead s).rein = s.rein ∧ (State.drainDead s).dram = s.dram ∧ (State.drainDead s).dma = s.dma ∧ (State.drainDead s).therm = s.therm ∧ (State.drainDead s).img = s.img := by
  simp [State.drainDead]
@[simp] theorem State.unlistDie_kept (s : State) (d : Nat) :
    (State.unlistDie s d).pending = s.pending ∧ (State.unlistDie s d).wheel = s.wheel ∧ (State.unlistDie s d).plan = s.plan ∧ (State.unlistDie s d).rein = s.rein ∧ (State.unlistDie s d).dram = s.dram ∧ (State.unlistDie s d).dma = s.dma ∧ (State.unlistDie s d).therm = s.therm ∧ (State.unlistDie s d).img = s.img := by
  simp [State.unlistDie]
@[simp] theorem State.loseSets_kept (s : State) (d : Nat) (name : Nat) :
    (State.loseSets s d name).pending = s.pending ∧ (State.loseSets s d name).wheel = s.wheel ∧ (State.loseSets s d name).plan = s.plan ∧ (State.loseSets s d name).rein = s.rein ∧ (State.loseSets s d name).dram = s.dram ∧ (State.loseSets s d name).dma = s.dma ∧ (State.loseSets s d name).therm = s.therm ∧ (State.loseSets s d name).img = s.img := by
  simp [State.loseSets]
@[simp] theorem State.deselect_kept (s : State) (d : Nat) :
    (State.deselect s d).pending = s.pending ∧ (State.deselect s d).wheel = s.wheel ∧ (State.deselect s d).plan = s.plan ∧ (State.deselect s d).rein = s.rein ∧ (State.deselect s d).dram = s.dram ∧ (State.deselect s d).dma = s.dma ∧ (State.deselect s d).therm = s.therm ∧ (State.deselect s d).img = s.img := by
  simp [State.deselect]
@[simp] theorem State.isolateCore_kept (s : State) (d : Nat) (cause : Nat) (name : Nat) :
    (State.isolateCore s d cause name).pending = s.pending ∧ (State.isolateCore s d cause name).wheel = s.wheel ∧ (State.isolateCore s d cause name).plan = s.plan ∧ (State.isolateCore s d cause name).rein = s.rein ∧ (State.isolateCore s d cause name).dram = s.dram ∧ (State.isolateCore s d cause name).dma = s.dma ∧ (State.isolateCore s d cause name).therm = s.therm ∧ (State.isolateCore s d cause name).img = s.img := by
  simp [State.isolateCore]
@[simp] theorem State.isolateChannel_kept (s : State) (c : Nat) (crit : Nat) :
    (State.isolateChannel s c crit).pending = s.pending ∧ (State.isolateChannel s c crit).wheel = s.wheel ∧ (State.isolateChannel s c crit).plan = s.plan ∧ (State.isolateChannel s c crit).rein = s.rein ∧ (State.isolateChannel s c crit).dram = s.dram ∧ (State.isolateChannel s c crit).dma = s.dma ∧ (State.isolateChannel s c crit).therm = s.therm ∧ (State.isolateChannel s c crit).img = s.img := by
  simp [State.isolateChannel]
@[simp] theorem State.isolateDie_kept (s : State) (d : Nat) (crit : Nat) :
    (State.isolateDie s d crit).pending = s.pending ∧ (State.isolateDie s d crit).wheel = s.wheel ∧ (State.isolateDie s d crit).plan = s.plan ∧ (State.isolateDie s d crit).rein = s.rein ∧ (State.isolateDie s d crit).dram = s.dram ∧ (State.isolateDie s d crit).dma = s.dma ∧ (State.isolateDie s d crit).therm = s.therm ∧ (State.isolateDie s d crit).img = s.img := by
  simp [State.isolateDie]
@[simp] theorem State.statusFail_kept (s : State) (d : Nat) (block : Nat) :
    (State.statusFail s d block).pending = s.pending ∧ (State.statusFail s d block).wheel = s.wheel ∧ (State.statusFail s d block).plan = s.plan ∧ (State.statusFail s d block).rein = s.rein ∧ (State.statusFail s d block).dram = s.dram ∧ (State.statusFail s d block).dma = s.dma ∧ (State.statusFail s d block).therm = s.therm ∧ (State.statusFail s d block).img = s.img := by
  simp [State.statusFail]
@[simp] theorem State.opStatus_kept (s : State) (d : Nat) (planes : List Nat) :
    (State.opStatus s d planes).pending = s.pending ∧ (State.opStatus s d planes).wheel = s.wheel ∧ (State.opStatus s d planes).plan = s.plan ∧ (State.opStatus s d planes).rein = s.rein ∧ (State.opStatus s d planes).dram = s.dram ∧ (State.opStatus s d planes).dma = s.dma ∧ (State.opStatus s d planes).therm = s.therm ∧ (State.opStatus s d planes).img = s.img := by
  unfold State.opStatus; split <;> simp
@[simp] theorem State.opTimeout_kept (s : State) (d : Nat) :
    (State.opTimeout s d).pending = s.pending ∧ (State.opTimeout s d).wheel = s.wheel ∧ (State.opTimeout s d).plan = s.plan ∧ (State.opTimeout s d).rein = s.rein ∧ (State.opTimeout s d).dram = s.dram ∧ (State.opTimeout s d).dma = s.dma ∧ (State.opTimeout s d).therm = s.therm ∧ (State.opTimeout s d).img = s.img := by
  unfold State.opTimeout; split <;> simp
@[simp] theorem State.badFrame_kept (s : State) (gran : Nat) :
    (State.badFrame s gran).pending = s.pending ∧ (State.badFrame s gran).wheel = s.wheel ∧ (State.badFrame s gran).plan = s.plan ∧ (State.badFrame s gran).rein = s.rein ∧ (State.badFrame s gran).dram = s.dram ∧ (State.badFrame s gran).dma = s.dma ∧ (State.badFrame s gran).therm = s.therm ∧ (State.badFrame s gran).img = s.img := by
  simp [State.badFrame]
@[simp] theorem State.goodFrame_kept (s : State) (gran : Nat) :
    (State.goodFrame s gran).pending = s.pending ∧ (State.goodFrame s gran).wheel = s.wheel ∧ (State.goodFrame s gran).plan = s.plan ∧ (State.goodFrame s gran).rein = s.rein ∧ (State.goodFrame s gran).dram = s.dram ∧ (State.goodFrame s gran).dma = s.dma ∧ (State.goodFrame s gran).therm = s.therm ∧ (State.goodFrame s gran).img = s.img := by
  simp [State.goodFrame]

end Sys2Proof.Machine
end

