-- ==== Sys2Proof/Laws/KeptUnit.lean ====
section
/-! SUPPORT. What each function of Sys2Proof/Machine/Unit.lean leaves unchanged: one lemma a function. -/
set_option linter.unusedTactic false
set_option linter.unreachableTactic false
set_option linter.unusedSimpArgs false
namespace Sys2Proof.Machine

@[simp] theorem State.modSlot_kept (s : State) (n : Nat) (f : KeySlot → KeySlot) :
    (State.modSlot s n f).pending = s.pending ∧ (State.modSlot s n f).wheel = s.wheel ∧ (State.modSlot s n f).plan = s.plan ∧ (State.modSlot s n f).rein = s.rein ∧ (State.modSlot s n f).dram = s.dram ∧ (State.modSlot s n f).dma = s.dma ∧ (State.modSlot s n f).therm = s.therm ∧ (State.modSlot s n f).img = s.img := by
  simp [State.modSlot]
@[simp] theorem State.cipherAsk_kept (s : State) (work : CipherWork) (slot : Nat) (keys : Option KeySet) (read : Bool) :
    (State.cipherAsk s work slot keys read).pending = s.pending ∧ (State.cipherAsk s work slot keys read).wheel = s.wheel ∧ (State.cipherAsk s work slot keys read).plan = s.plan ∧ (State.cipherAsk s work slot keys read).rein = s.rein ∧ (State.cipherAsk s work slot keys read).dram = s.dram ∧ (State.cipherAsk s work slot keys read).dma = s.dma ∧ (State.cipherAsk s work slot keys read).therm = s.therm ∧ (State.cipherAsk s work slot keys read).img = s.img := by
  simp [State.cipherAsk]
@[simp] theorem State.pumpPairs_kept (s : State) :
    (State.pumpPairs s).pending = s.pending ∧ (State.pumpPairs s).wheel = s.wheel ∧ (State.pumpPairs s).plan = s.plan ∧ (State.pumpPairs s).rein = s.rein ∧ (State.pumpPairs s).dram = s.dram ∧ (State.pumpPairs s).dma = s.dma ∧ (State.pumpPairs s).therm = s.therm ∧ (State.pumpPairs s).img = s.img := by
  unfold State.pumpPairs; refine ⟨?_, ?_, ?_, ?_, ?_, ?_, ?_, ?_⟩ <;> (repeat' (first | (simp [-List.reduceReplicate]; done) | (with_reducible refine Eq.trans (foldl_pending _ (fun s a => ?_) _ _) ?_) | (with_reducible refine Eq.trans (foldl_wheel _ (fun s a => ?_) _ _) ?_) | (with_reducible refine Eq.trans (foldl_plan _ (fun s a => ?_) _ _) ?_) | (with_reducible refine Eq.trans (foldl_rein _ (fun s a => ?_) _ _) ?_) | (with_reducible refine Eq.trans (foldl_dram _ (fun s a => ?_) _ _) ?_) | (with_reducible refine Eq.trans (foldl_dma _ (fun s a => ?_) _ _) ?_) | (with_reducible refine Eq.trans (foldl_therm _ (fun s a => ?_) _ _) ?_) | (with_reducible refine Eq.trans (foldl_img _ (fun s a => ?_) _ _) ?_) | (with_reducible refine Eq.trans (foldr_pending _ (fun a s => ?_) _ _) ?_) | (with_reducible refine Eq.trans (foldr_wheel _ (fun a s => ?_) _ _) ?_) | (with_reducible refine Eq.trans (foldr_plan _ (fun a s => ?_) _ _) ?_) | (with_reducible refine Eq.trans (foldr_rein _ (fun a s => ?_) _ _) ?_) | (with_reducible refine Eq.trans (foldr_dram _ (fun a s => ?_) _ _) ?_) | (with_reducible refine Eq.trans (foldr_dma _ (fun a s => ?_) _ _) ?_) | (with_reducible refine Eq.trans (foldr_therm _ (fun a s => ?_) _ _) ?_) | (with_reducible refine Eq.trans (foldr_img _ (fun a s => ?_) _ _) ?_) | split | dsimp only | simp [-List.reduceReplicate] | (rename_i heq; split at heq <;> cases heq <;> simp)))
@[simp] theorem State.cmdStep_kept (s : State) (tag : Nat) :
    (State.cmdStep s tag).pending = s.pending ∧ (State.cmdStep s tag).wheel = s.wheel ∧ (State.cmdStep s tag).plan = s.plan ∧ (State.cmdStep s tag).rein = s.rein ∧ (State.cmdStep s tag).dram = s.dram ∧ (State.cmdStep s tag).dma = s.dma ∧ (State.cmdStep s tag).therm = s.therm ∧ (State.cmdStep s tag).img = s.img ∧ (State.cmdStep s tag).awl = s.awl ∧ (State.cmdStep s tag).codec = s.codec ∧ (State.cmdStep s tag).map = s.map ∧ (State.cmdStep s tag).blk = s.blk ∧ (State.cmdStep s tag).girth = s.girth ∧ (State.cmdStep s tag).wb = s.wb ∧ (State.cmdStep s tag).dump = s.dump ∧ (State.cmdStep s tag).cipher = s.cipher ∧ (State.cmdStep s tag).skv = s.skv ∧ (State.cmdStep s tag).mc = s.mc ∧ (State.cmdStep s tag).media = s.media := by
  unfold State.cmdStep; split <;> simp
@[simp] theorem State.endUnit_kept (s : State) (t : Nat) :
    (State.endUnit s t).pending = s.pending ∧ (State.endUnit s t).wheel = s.wheel ∧ (State.endUnit s t).plan = s.plan ∧ (State.endUnit s t).rein = s.rein ∧ (State.endUnit s t).dram = s.dram ∧ (State.endUnit s t).dma = s.dma ∧ (State.endUnit s t).therm = s.therm ∧ (State.endUnit s t).img = s.img := by
  unfold State.endUnit; split <;> simp
@[simp] theorem State.unitData_kept (s : State) (t : Nat) (data : List Sys2Proof.Byte) (mapped : Bool) :
    (State.unitData s t data mapped).pending = s.pending ∧ (State.unitData s t data mapped).wheel = s.wheel ∧ (State.unitData s t data mapped).plan = s.plan ∧ (State.unitData s t data mapped).rein = s.rein ∧ (State.unitData s t data mapped).dram = s.dram ∧ (State.unitData s t data mapped).dma = s.dma ∧ (State.unitData s t data mapped).therm = s.therm ∧ (State.unitData s t data mapped).img = s.img := by
  unfold State.unitData; (repeat' split) <;> simp
@[simp] theorem State.checkFailed_kept (s : State) (t : Nat) (j : UnitJob) :
    (State.checkFailed s t j).pending = s.pending ∧ (State.checkFailed s t j).wheel = s.wheel ∧ (State.checkFailed s t j).plan = s.plan ∧ (State.checkFailed s t j).rein = s.rein ∧ (State.checkFailed s t j).dram = s.dram ∧ (State.checkFailed s t j).dma = s.dma ∧ (State.checkFailed s t j).therm = s.therm ∧ (State.checkFailed s t j).img = s.img := by
  simp [State.checkFailed]
@[simp] theorem State.askDecrypt_kept (s : State) (t : Nat) :
    (State.askDecrypt s t).pending = s.pending ∧ (State.askDecrypt s t).wheel = s.wheel ∧ (State.askDecrypt s t).plan = s.plan ∧ (State.askDecrypt s t).rein = s.rein ∧ (State.askDecrypt s t).dram = s.dram ∧ (State.askDecrypt s t).dma = s.dma ∧ (State.askDecrypt s t).therm = s.therm ∧ (State.askDecrypt s t).img = s.img := by
  unfold State.askDecrypt; refine ⟨?_, ?_, ?_, ?_, ?_, ?_, ?_, ?_⟩ <;> (repeat' (first | (simp; done) | split | dsimp only | simp))
@[simp] theorem State.readSlot_kept (s : State) (t : Nat) (j : UnitJob) (gran : Nat) :
    (State.readSlot s t j gran).pending = s.pending ∧ (State.readSlot s t j gran).wheel = s.wheel ∧ (State.readSlot s t j gran).plan = s.plan ∧ (State.readSlot s t j gran).rein = s.rein ∧ (State.readSlot s t j gran).dram = s.dram ∧ (State.readSlot s t j gran).dma = s.dma ∧ (State.readSlot s t j gran).therm = s.therm ∧ (State.readSlot s t j gran).img = s.img := by
  unfold State.readSlot; split <;> simp [-List.reduceReplicate]
@[simp] theorem State.lookRead_kept (s : State) (t : Nat) (j : UnitJob) :
    (State.lookRead s t j).pending = s.pending ∧ (State.lookRead s t j).wheel = s.wheel ∧ (State.lookRead s t j).plan = s.plan ∧ (State.lookRead s t j).rein = s.rein ∧ (State.lookRead s t j).dram = s.dram ∧ (State.lookRead s t j).dma = s.dma ∧ (State.lookRead s t j).therm = s.therm ∧ (State.lookRead s t j).img = s.img := by
  unfold State.lookRead; refine ⟨?_, ?_, ?_, ?_, ?_, ?_, ?_, ?_⟩ <;> (repeat' (first | (simp [-List.reduceReplicate]; done) | split | dsimp only | simp [-List.reduceReplicate]))
@[simp] theorem State.lookCopy_kept (s : State) (t : Nat) (j : UnitJob) :
    (State.lookCopy s t j).pending = s.pending ∧ (State.lookCopy s t j).wheel = s.wheel ∧ (State.lookCopy s t j).plan = s.plan ∧ (State.lookCopy s t j).rein = s.rein ∧ (State.lookCopy s t j).dram = s.dram ∧ (State.lookCopy s t j).dma = s.dma ∧ (State.lookCopy s t j).therm = s.therm ∧ (State.lookCopy s t j).img = s.img := by
  unfold State.lookCopy; refine ⟨?_, ?_, ?_, ?_, ?_, ?_, ?_, ?_⟩ <;> (repeat' (first | (simp; done) | split | dsimp only | simp))
@[simp] theorem State.lookDiscard_kept (s : State) (t : Nat) (j : UnitJob) :
    (State.lookDiscard s t j).pending = s.pending ∧ (State.lookDiscard s t j).wheel = s.wheel ∧ (State.lookDiscard s t j).plan = s.plan ∧ (State.lookDiscard s t j).rein = s.rein ∧ (State.lookDiscard s t j).dram = s.dram ∧ (State.lookDiscard s t j).dma = s.dma ∧ (State.lookDiscard s t j).therm = s.therm ∧ (State.lookDiscard s t j).img = s.img := by
  unfold State.lookDiscard; split <;> simp
@[simp] theorem State.jobStep_kept (s : State) (t : Nat) :
    (State.jobStep s t).pending = s.pending ∧ (State.jobStep s t).wheel = s.wheel ∧ (State.jobStep s t).plan = s.plan ∧ (State.jobStep s t).rein = s.rein ∧ (State.jobStep s t).dram = s.dram ∧ (State.jobStep s t).dma = s.dma ∧ (State.jobStep s t).therm = s.therm ∧ (State.jobStep s t).img = s.img := by
  unfold State.jobStep; (repeat' split) <;> simp
@[simp] theorem State.stepJobs_kept (s : State) :
    (State.stepJobs s).pending = s.pending ∧ (State.stepJobs s).wheel = s.wheel ∧ (State.stepJobs s).plan = s.plan ∧ (State.stepJobs s).rein = s.rein ∧ (State.stepJobs s).dram = s.dram ∧ (State.stepJobs s).dma = s.dma ∧ (State.stepJobs s).therm = s.therm ∧ (State.stepJobs s).img = s.img := by
  simp [State.stepJobs]
@[simp] theorem State.afterCount_kept (s : State) (slot : Nat) :
    (State.afterCount s slot).pending = s.pending ∧ (State.afterCount s slot).wheel = s.wheel ∧ (State.afterCount s slot).plan = s.plan ∧ (State.afterCount s slot).rein = s.rein ∧ (State.afterCount s slot).dram = s.dram ∧ (State.afterCount s slot).dma = s.dma ∧ (State.afterCount s slot).therm = s.therm ∧ (State.afterCount s slot).img = s.img := by
  simp [State.afterCount]
@[simp] theorem State.rollStart_kept (s : State) (slot : Nat) :
    (State.rollStart s slot).pending = s.pending ∧ (State.rollStart s slot).wheel = s.wheel ∧ (State.rollStart s slot).plan = s.plan ∧ (State.rollStart s slot).rein = s.rein ∧ (State.rollStart s slot).dram = s.dram ∧ (State.rollStart s slot).dma = s.dma ∧ (State.rollStart s slot).therm = s.therm ∧ (State.rollStart s slot).img = s.img := by
  simp [State.rollStart]
@[simp] theorem State.countEnds_kept (s : State) (slot : Nat) :
    (State.countEnds s slot).pending = s.pending ∧ (State.countEnds s slot).wheel = s.wheel ∧ (State.countEnds s slot).plan = s.plan ∧ (State.countEnds s slot).rein = s.rein ∧ (State.countEnds s slot).dram = s.dram ∧ (State.countEnds s slot).dma = s.dma ∧ (State.countEnds s slot).therm = s.therm ∧ (State.countEnds s slot).img = s.img := by
  simp [State.countEnds]
@[simp] theorem State.askEncrypt_kept (s : State) (t : Nat) :
    (State.askEncrypt s t).pending = s.pending ∧ (State.askEncrypt s t).wheel = s.wheel ∧ (State.askEncrypt s t).plan = s.plan ∧ (State.askEncrypt s t).rein = s.rein ∧ (State.askEncrypt s t).dram = s.dram ∧ (State.askEncrypt s t).dma = s.dma ∧ (State.askEncrypt s t).therm = s.therm ∧ (State.askEncrypt s t).img = s.img := by
  unfold State.askEncrypt; split <;> simp
@[simp] theorem State.stepValues_kept (s : State) :
    (State.stepValues s).pending = s.pending ∧ (State.stepValues s).wheel = s.wheel ∧ (State.stepValues s).plan = s.plan ∧ (State.stepValues s).rein = s.rein ∧ (State.stepValues s).dram = s.dram ∧ (State.stepValues s).dma = s.dma ∧ (State.stepValues s).therm = s.therm ∧ (State.stepValues s).img = s.img := by
  simp [State.stepValues]
@[simp] theorem State.sweepSlot_kept (s : State) (slot : Nat) :
    (State.sweepSlot s slot).pending = s.pending ∧ (State.sweepSlot s slot).wheel = s.wheel ∧ (State.sweepSlot s slot).plan = s.plan ∧ (State.sweepSlot s slot).rein = s.rein ∧ (State.sweepSlot s slot).dram = s.dram ∧ (State.sweepSlot s slot).dma = s.dma ∧ (State.sweepSlot s slot).therm = s.therm ∧ (State.sweepSlot s slot).img = s.img := by
  unfold State.sweepSlot; split <;> simp
@[simp] theorem State.sweeps_kept (s : State) :
    (State.sweeps s).pending = s.pending ∧ (State.sweeps s).wheel = s.wheel ∧ (State.sweeps s).plan = s.plan ∧ (State.sweeps s).rein = s.rein ∧ (State.sweeps s).dram = s.dram ∧ (State.sweeps s).dma = s.dma ∧ (State.sweeps s).therm = s.therm ∧ (State.sweeps s).img = s.img := by
  simp [State.sweeps]
theorem State.takeSlot_fwd {s : State} {n : Nat} {glen : Nat} {z : Nat × State} (hz : State.takeSlot s n glen = some z) : z.2.pending = s.pending ∧ z.2.wheel = s.wheel ∧ z.2.plan = s.plan ∧ z.2.rein = s.rein ∧ z.2.dram = s.dram ∧ z.2.dma = s.dma ∧ z.2.therm = s.therm ∧ z.2.img = s.img := by
  unfold State.takeSlot at hz
  split at hz
  · split at hz
    · cases hz; simp
    · simp only [Option.map_eq_some_iff] at hz; obtain ⟨⟨_, _⟩, hm, rfl⟩ := hz; simp
  · simp only [Option.map_eq_some_iff] at hz; obtain ⟨⟨_, _⟩, hm, rfl⟩ := hz; simp
@[simp] theorem State.sweepBuffer_kept (s : State) :
    (State.sweepBuffer s).pending = s.pending ∧ (State.sweepBuffer s).wheel = s.wheel ∧ (State.sweepBuffer s).plan = s.plan ∧ (State.sweepBuffer s).rein = s.rein ∧ (State.sweepBuffer s).dram = s.dram ∧ (State.sweepBuffer s).dma = s.dma ∧ (State.sweepBuffer s).therm = s.therm ∧ (State.sweepBuffer s).img = s.img := by
  simp [State.sweepBuffer]
@[simp] theorem State.copyOut_kept (s : State) (t : Nat) (j : UnitJob) :
    (State.copyOut s t j).pending = s.pending ∧ (State.copyOut s t j).wheel = s.wheel ∧ (State.copyOut s t j).plan = s.plan ∧ (State.copyOut s t j).rein = s.rein ∧ (State.copyOut s t j).dram = s.dram ∧ (State.copyOut s t j).dma = s.dma ∧ (State.copyOut s t j).therm = s.therm ∧ (State.copyOut s t j).img = s.img := by
  simp [State.copyOut]
@[simp] theorem State.copyRead_kept (s : State) (t : Nat) (j : UnitJob) (p : Payload) :
    (State.copyRead s t j p).pending = s.pending ∧ (State.copyRead s t j p).wheel = s.wheel ∧ (State.copyRead s t j p).plan = s.plan ∧ (State.copyRead s t j p).rein = s.rein ∧ (State.copyRead s t j p).dram = s.dram ∧ (State.copyRead s t j p).dma = s.dma ∧ (State.copyRead s t j p).therm = s.therm ∧ (State.copyRead s t j p).img = s.img := by
  unfold State.copyRead; refine ⟨?_, ?_, ?_, ?_, ?_, ?_, ?_, ?_⟩ <;> (repeat' (first | (simp; done) | split | dsimp only | simp))
@[simp] theorem State.flashData_kept (s : State) (q : ReadReq) :
    (State.flashData s q).pending = s.pending ∧ (State.flashData s q).wheel = s.wheel ∧ (State.flashData s q).plan = s.plan ∧ (State.flashData s q).rein = s.rein ∧ (State.flashData s q).dram = s.dram ∧ (State.flashData s q).dma = s.dma ∧ (State.flashData s q).therm = s.therm ∧ (State.flashData s q).img = s.img := by
  unfold State.flashData; refine ⟨?_, ?_, ?_, ?_, ?_, ?_, ?_, ?_⟩ <;> (repeat' (first | (simp; done) | split | dsimp only | simp))
@[simp] theorem State.frameGood_kept (s : State) (q : ReadReq) :
    (State.frameGood s q).pending = s.pending ∧ (State.frameGood s q).wheel = s.wheel ∧ (State.frameGood s q).plan = s.plan ∧ (State.frameGood s q).rein = s.rein ∧ (State.frameGood s q).dram = s.dram ∧ (State.frameGood s q).dma = s.dma ∧ (State.frameGood s q).therm = s.therm ∧ (State.frameGood s q).img = s.img := by
  unfold State.frameGood; refine ⟨?_, ?_, ?_, ?_, ?_, ?_, ?_, ?_⟩ <;> (repeat' (first | (simp; done) | split | dsimp only | simp | grind only [→ State.frameEnd_fwd]))

end Sys2Proof.Machine
end

