-- ==== Sys2Proof/Laws/KeptCodec.lean ====
section
/-! SUPPORT. What each function of Sys2Proof/Machine/Codec.lean leaves unchanged: one lemma a function. -/
set_option linter.unusedTactic false
set_option linter.unreachableTactic false
set_option linter.unusedSimpArgs false
namespace Sys2Proof.Machine

@[simp] theorem State.setFjob_kept (s : State) (n : Nat) (j : FrameJob) :
    (State.setFjob s n j).pending = s.pending ∧ (State.setFjob s n j).wheel = s.wheel ∧ (State.setFjob s n j).plan = s.plan ∧ (State.setFjob s n j).rein = s.rein ∧ (State.setFjob s n j).dram = s.dram ∧ (State.setFjob s n j).dma = s.dma ∧ (State.setFjob s n j).therm = s.therm ∧ (State.setFjob s n j).img = s.img := by
  simp [State.setFjob]
@[simp] theorem State.dropFjob_kept (s : State) (n : Nat) :
    (State.dropFjob s n).pending = s.pending ∧ (State.dropFjob s n).wheel = s.wheel ∧ (State.dropFjob s n).plan = s.plan ∧ (State.dropFjob s n).rein = s.rein ∧ (State.dropFjob s n).dram = s.dram ∧ (State.dropFjob s n).dma = s.dma ∧ (State.dropFjob s n).therm = s.therm ∧ (State.dropFjob s n).img = s.img := by
  simp [State.dropFjob]
@[simp] theorem State.frameIn_kept (s : State) (d : Nat) (q : ReadReq) :
    (State.frameIn s d q).pending = s.pending ∧ (State.frameIn s d q).wheel = s.wheel ∧ (State.frameIn s d q).plan = s.plan ∧ (State.frameIn s d q).rein = s.rein ∧ (State.frameIn s d q).dram = s.dram ∧ (State.frameIn s d q).dma = s.dma ∧ (State.frameIn s d q).therm = s.therm ∧ (State.frameIn s d q).img = s.img := by
  unfold State.frameIn; refine ⟨?_, ?_, ?_, ?_, ?_, ?_, ?_, ?_⟩ <;> (repeat' (first | (simp; done) | split | dsimp only | simp))
@[simp] theorem State.giveDecoders_kept (s : State) (soft : Bool) (n : Nat) :
    (State.giveDecoders s soft n).pending = s.pending ∧ (State.giveDecoders s soft n).wheel = s.wheel ∧ (State.giveDecoders s soft n).plan = s.plan ∧ (State.giveDecoders s soft n).rein = s.rein ∧ (State.giveDecoders s soft n).dram = s.dram ∧ (State.giveDecoders s soft n).dma = s.dma ∧ (State.giveDecoders s soft n).therm = s.therm ∧ (State.giveDecoders s soft n).img = s.img := by
  induction n generalizing s with
  | zero => simp [State.giveDecoders]
  | succ n_ ih =>
    unfold State.giveDecoders
    refine ⟨?_, ?_, ?_, ?_, ?_, ?_, ?_, ?_⟩ <;> (repeat' (first | (simp [-List.reduceReplicate, ih]; done) | split | dsimp only | simp [-List.reduceReplicate, ih]))
@[simp] theorem State.decoders_kept (s : State) :
    (State.decoders s).pending = s.pending ∧ (State.decoders s).wheel = s.wheel ∧ (State.decoders s).plan = s.plan ∧ (State.decoders s).rein = s.rein ∧ (State.decoders s).dram = s.dram ∧ (State.decoders s).dma = s.dma ∧ (State.decoders s).therm = s.therm ∧ (State.decoders s).img = s.img := by
  simp [State.decoders]
@[simp] theorem State.hint_kept (s : State) (gran : Nat) :
    (State.hint s gran).pending = s.pending ∧ (State.hint s gran).wheel = s.wheel ∧ (State.hint s gran).plan = s.plan ∧ (State.hint s gran).rein = s.rein ∧ (State.hint s gran).dram = s.dram ∧ (State.hint s gran).dma = s.dma ∧ (State.hint s gran).therm = s.therm ∧ (State.hint s gran).img = s.img := by
  simp [State.hint]
@[simp] theorem State.trials_kept (s : State) (c : Recal) :
    (State.trials s c).pending = s.pending ∧ (State.trials s c).wheel = s.wheel ∧ (State.trials s c).plan = s.plan ∧ (State.trials s c).rein = s.rein ∧ (State.trials s c).dram = s.dram ∧ (State.trials s c).dma = s.dma ∧ (State.trials s c).therm = s.therm ∧ (State.trials s c).img = s.img := by
  simp [State.trials]
@[simp] theorem State.rowSwitch_kept (s : State) (c : Recal) (row : List Int) :
    (State.rowSwitch s c row).pending = s.pending ∧ (State.rowSwitch s c row).wheel = s.wheel ∧ (State.rowSwitch s c row).plan = s.plan ∧ (State.rowSwitch s c row).rein = s.rein ∧ (State.rowSwitch s c row).dram = s.dram ∧ (State.rowSwitch s c row).dma = s.dma ∧ (State.rowSwitch s c row).therm = s.therm ∧ (State.rowSwitch s c row).img = s.img := by
  simp [State.rowSwitch]
@[simp] theorem State.trialEnd_kept (s : State) (g : Nat) (k : Nat) (res : Option Nat) :
    (State.trialEnd s g k res).pending = s.pending ∧ (State.trialEnd s g k res).wheel = s.wheel ∧ (State.trialEnd s g k res).plan = s.plan ∧ (State.trialEnd s g k res).rein = s.rein ∧ (State.trialEnd s g k res).dram = s.dram ∧ (State.trialEnd s g k res).dma = s.dma ∧ (State.trialEnd s g k res).therm = s.therm ∧ (State.trialEnd s g k res).img = s.img := by
  unfold State.trialEnd; refine ⟨?_, ?_, ?_, ?_, ?_, ?_, ?_, ?_⟩ <;> (repeat' (first | (simp; done) | split | dsimp only | simp))
@[simp] theorem State.judge_kept (s : State) (q : ReadReq) (rung : Option Nat) (cbc : Nat) :
    (State.judge s q rung cbc).pending = s.pending ∧ (State.judge s q rung cbc).wheel = s.wheel ∧ (State.judge s q rung cbc).plan = s.plan ∧ (State.judge s q rung cbc).rein = s.rein ∧ (State.judge s q rung cbc).dram = s.dram ∧ (State.judge s q rung cbc).dma = s.dma ∧ (State.judge s q rung cbc).therm = s.therm ∧ (State.judge s q rung cbc).img = s.img := by
  unfold State.judge; split <;> simp
@[simp] theorem State.retryRead_kept (s : State) (q : ReadReq) (rung : Nat) (step : Nat) :
    (State.retryRead s q rung step).pending = s.pending ∧ (State.retryRead s q rung step).wheel = s.wheel ∧ (State.retryRead s q rung step).plan = s.plan ∧ (State.retryRead s q rung step).rein = s.rein ∧ (State.retryRead s q rung step).dram = s.dram ∧ (State.retryRead s q rung step).dma = s.dma ∧ (State.retryRead s q rung step).therm = s.therm ∧ (State.retryRead s q rung step).img = s.img := by
  simp [State.retryRead]
@[simp] theorem State.rung3_kept (s : State) (q : ReadReq) :
    (State.rung3 s q).pending = s.pending ∧ (State.rung3 s q).wheel = s.wheel ∧ (State.rung3 s q).plan = s.plan ∧ (State.rung3 s q).rein = s.rein ∧ (State.rung3 s q).dram = s.dram ∧ (State.rung3 s q).dma = s.dma ∧ (State.rung3 s q).therm = s.therm ∧ (State.rung3 s q).img = s.img := by
  simp [State.rung3]
@[simp] theorem State.rungFail_kept (s : State) (n : Nat) (j : FrameJob) :
    (State.rungFail s n j).pending = s.pending ∧ (State.rungFail s n j).wheel = s.wheel ∧ (State.rungFail s n j).plan = s.plan ∧ (State.rungFail s n j).rein = s.rein ∧ (State.rungFail s n j).dram = s.dram ∧ (State.rungFail s n j).dma = s.dma ∧ (State.rungFail s n j).therm = s.therm ∧ (State.rungFail s n j).img = s.img := by
  unfold State.rungFail; refine ⟨?_, ?_, ?_, ?_, ?_, ?_, ?_, ?_⟩ <;> (repeat' (first | (simp; done) | split | dsimp only | simp))
@[simp] theorem State.rungOk_kept (s : State) (n : Nat) (j : FrameJob) (corrected : Nat) :
    (State.rungOk s n j corrected).pending = s.pending ∧ (State.rungOk s n j corrected).wheel = s.wheel ∧ (State.rungOk s n j corrected).plan = s.plan ∧ (State.rungOk s n j corrected).rein = s.rein ∧ (State.rungOk s n j corrected).dram = s.dram ∧ (State.rungOk s n j corrected).dma = s.dma ∧ (State.rungOk s n j corrected).therm = s.therm ∧ (State.rungOk s n j corrected).img = s.img := by
  unfold State.rungOk; refine ⟨?_, ?_, ?_, ?_, ?_, ?_, ?_, ?_⟩ <;> (repeat' (first | (simp; done) | split | dsimp only | simp))
@[simp] theorem State.decodeDone_kept (s : State) (n : Nat) (converged : Bool) (corrected : Nat) :
    (State.decodeDone s n converged corrected).pending = s.pending ∧ (State.decodeDone s n converged corrected).wheel = s.wheel ∧ (State.decodeDone s n converged corrected).plan = s.plan ∧ (State.decodeDone s n converged corrected).rein = s.rein ∧ (State.decodeDone s n converged corrected).dram = s.dram ∧ (State.decodeDone s n converged corrected).dma = s.dma ∧ (State.decodeDone s n converged corrected).therm = s.therm ∧ (State.decodeDone s n converged corrected).img = s.img := by
  unfold State.decodeDone; split <;> simp
@[simp] theorem State.frameOut_kept (s : State) (d : Nat) (run : ReadRun) :
    (State.frameOut s d run).pending = s.pending ∧ (State.frameOut s d run).wheel = s.wheel ∧ (State.frameOut s d run).plan = s.plan ∧ (State.frameOut s d run).rein = s.rein ∧ (State.frameOut s d run).dram = s.dram ∧ (State.frameOut s d run).dma = s.dma ∧ (State.frameOut s d run).therm = s.therm ∧ (State.frameOut s d run).img = s.img := by
  simp [State.frameOut]
@[simp] theorem State.dataOut_kept (s : State) (d : Nat) (id : Nat) :
    (State.dataOut s d id).pending = s.pending ∧ (State.dataOut s d id).wheel = s.wheel ∧ (State.dataOut s d id).plan = s.plan ∧ (State.dataOut s d id).rein = s.rein ∧ (State.dataOut s d id).dram = s.dram ∧ (State.dataOut s d id).dma = s.dma ∧ (State.dataOut s d id).therm = s.therm ∧ (State.dataOut s d id).img = s.img := by
  unfold State.dataOut; refine ⟨?_, ?_, ?_, ?_, ?_, ?_, ?_, ?_⟩ <;> (repeat' (first | (simp; done) | split | dsimp only | simp))
@[simp] theorem State.misplaced_kept (s : State) (q : ReadReq) (info : Nat) :
    (State.misplaced s q info).pending = s.pending ∧ (State.misplaced s q info).wheel = s.wheel ∧ (State.misplaced s q info).plan = s.plan ∧ (State.misplaced s q info).rein = s.rein ∧ (State.misplaced s q info).dram = s.dram ∧ (State.misplaced s q info).dma = s.dma ∧ (State.misplaced s q info).therm = s.therm ∧ (State.misplaced s q info).img = s.img := by
  unfold State.misplaced; refine ⟨?_, ?_, ?_, ?_, ?_, ?_, ?_, ?_⟩ <;> (repeat' (first | (simp; done) | split | dsimp only | simp))
@[simp] theorem State.rebuilt_kept (s : State) (n : Nat) :
    (State.rebuilt s n).pending = s.pending ∧ (State.rebuilt s n).wheel = s.wheel ∧ (State.rebuilt s n).plan = s.plan ∧ (State.rebuilt s n).rein = s.rein ∧ (State.rebuilt s n).dram = s.dram ∧ (State.rebuilt s n).dma = s.dma ∧ (State.rebuilt s n).therm = s.therm ∧ (State.rebuilt s n).img = s.img := by
  unfold State.rebuilt; refine ⟨?_, ?_, ?_, ?_, ?_, ?_, ?_, ?_⟩ <;> (repeat' (first | (simp; done) | split | dsimp only | simp))

end Sys2Proof.Machine
end

