-- ==== Sys2Proof/Laws/KeptHold.lean ====
section
/-! SUPPORT. What each function of Sys2Proof/Machine/Hold.lean leaves unchanged: one lemma a function. -/
set_option linter.unusedTactic false
set_option linter.unreachableTactic false
set_option linter.unusedSimpArgs false
namespace Sys2Proof.Machine

@[simp] theorem State.holdErase_kept (s : State) (b : Nat) :
    (State.holdErase s b).pending = s.pending ∧ (State.holdErase s b).wheel = s.wheel ∧ (State.holdErase s b).plan = s.plan ∧ (State.holdErase s b).rein = s.rein ∧ (State.holdErase s b).dram = s.dram ∧ (State.holdErase s b).dma = s.dma ∧ (State.holdErase s b).therm = s.therm ∧ (State.holdErase s b).img = s.img := by
  simp [State.holdErase]
theorem State.takeHold_fwd {s : State} {die : Nat} {z : Nat × State} (hz : State.takeHold s die = some z) : z.2.pending = s.pending ∧ z.2.wheel = s.wheel ∧ z.2.plan = s.plan ∧ z.2.rein = s.rein ∧ z.2.dram = s.dram ∧ z.2.dma = s.dma ∧ z.2.therm = s.therm ∧ z.2.img = s.img := by
  unfold State.takeHold at hz
  split at hz
  · contradiction
  · cases hz; rename_i heq; have hf := State.takeBlock_fwd heq; dsimp only at hf; simp [hf]
@[simp] theorem State.mendHold_kept (s : State) (a0 : List Nat) :
    (State.mendHold s a0).2.pending = s.pending ∧ (State.mendHold s a0).2.wheel = s.wheel ∧ (State.mendHold s a0).2.plan = s.plan ∧ (State.mendHold s a0).2.rein = s.rein ∧ (State.mendHold s a0).2.dram = s.dram ∧ (State.mendHold s a0).2.dma = s.dma ∧ (State.mendHold s a0).2.therm = s.therm ∧ (State.mendHold s a0).2.img = s.img := by
  induction a0 generalizing s with
  | nil => simp [State.mendHold]
  | cons b bs ih =>
    unfold State.mendHold
    split
    · split
      · rename_i heq
        split at heq
        · have hf := State.takeHold_fwd heq; dsimp only at hf; simp [ih, hf]
        · contradiction
      · simp [ih]
    · simp [ih]
theorem State.mendHold_fwd {s : State} {a0 : List Nat} {z : _} {z2 : State} (hz : State.mendHold s a0 = (z, z2)) : z2.pending = s.pending ∧ z2.wheel = s.wheel ∧ z2.plan = s.plan ∧ z2.rein = s.rein ∧ z2.dram = s.dram ∧ z2.dma = s.dma ∧ z2.therm = s.therm ∧ z2.img = s.img := by
  have h := State.mendHold_kept s a0
  rw [hz] at h; exact h
@[simp] theorem State.holdCheck_kept (s : State) :
    (State.holdCheck s).pending = s.pending ∧ (State.holdCheck s).wheel = s.wheel ∧ (State.holdCheck s).plan = s.plan ∧ (State.holdCheck s).rein = s.rein ∧ (State.holdCheck s).dram = s.dram ∧ (State.holdCheck s).dma = s.dma ∧ (State.holdCheck s).therm = s.therm ∧ (State.holdCheck s).img = s.img := by
  simp [State.holdCheck]
@[simp] theorem State.writeHold_kept (s : State) :
    (State.writeHold s).pending = s.pending ∧ (State.writeHold s).wheel = s.wheel ∧ (State.writeHold s).plan = s.plan ∧ (State.writeHold s).rein = s.rein ∧ (State.writeHold s).dram = s.dram ∧ (State.writeHold s).dma = s.dma ∧ (State.writeHold s).therm = s.therm ∧ (State.writeHold s).img = s.img ∧ (State.writeHold s).awl = s.awl ∧ (State.writeHold s).codec = s.codec ∧ (State.writeHold s).map = s.map ∧ (State.writeHold s).blk = s.blk ∧ (State.writeHold s).girth = s.girth ∧ (State.writeHold s).wb = s.wb ∧ (State.writeHold s).dump = s.dump ∧ (State.writeHold s).cipher = s.cipher ∧ (State.writeHold s).skv = s.skv ∧ (State.writeHold s).mc = s.mc ∧ (State.writeHold s).media = s.media := by
  simp [State.writeHold]

end Sys2Proof.Machine
end

