-- ==== Sys2Proof/Laws/KeptPurge.lean ====
section
/-! SUPPORT. What each function of Sys2Proof/Machine/Purge.lean leaves unchanged: one lemma a function. -/
set_option linter.unusedTactic false
set_option linter.unreachableTactic false
set_option linter.unusedSimpArgs false
namespace Sys2Proof.Machine

@[simp] theorem State.dropPlacement_kept (s : State) (p : Nat → Bool) (blocks : List Nat) :
    (State.dropPlacement s p blocks).pending = s.pending ∧ (State.dropPlacement s p blocks).wheel = s.wheel ∧ (State.dropPlacement s p blocks).plan = s.plan ∧ (State.dropPlacement s p blocks).rein = s.rein ∧ (State.dropPlacement s p blocks).dram = s.dram ∧ (State.dropPlacement s p blocks).dma = s.dma ∧ (State.dropPlacement s p blocks).therm = s.therm ∧ (State.dropPlacement s p blocks).img = s.img := by
  simp [State.dropPlacement]
@[simp] theorem State.eraseForce_kept (s : State) (blocks : List Nat) :
    (State.eraseForce s blocks).pending = s.pending ∧ (State.eraseForce s blocks).wheel = s.wheel ∧ (State.eraseForce s blocks).plan = s.plan ∧ (State.eraseForce s blocks).rein = s.rein ∧ (State.eraseForce s blocks).dram = s.dram ∧ (State.eraseForce s blocks).dma = s.dma ∧ (State.eraseForce s blocks).therm = s.therm ∧ (State.eraseForce s blocks).img = s.img := by
  simp [State.eraseForce]
@[simp] theorem State.resetU0_kept (s : State) :
    (State.resetU0 s).pending = s.pending ∧ (State.resetU0 s).wheel = s.wheel ∧ (State.resetU0 s).plan = s.plan ∧ (State.resetU0 s).rein = s.rein ∧ (State.resetU0 s).dram = s.dram ∧ (State.resetU0 s).dma = s.dma ∧ (State.resetU0 s).therm = s.therm ∧ (State.resetU0 s).img = s.img := by
  simp [State.resetU0]
@[simp] theorem State.unmapSpace_kept (s : State) (nsx : Nat) :
    (State.unmapSpace s nsx).pending = s.pending ∧ (State.unmapSpace s nsx).wheel = s.wheel ∧ (State.unmapSpace s nsx).plan = s.plan ∧ (State.unmapSpace s nsx).rein = s.rein ∧ (State.unmapSpace s nsx).dram = s.dram ∧ (State.unmapSpace s nsx).dma = s.dma ∧ (State.unmapSpace s nsx).therm = s.therm ∧ (State.unmapSpace s nsx).img = s.img := by
  simp [State.unmapSpace]
@[simp] theorem State.unmapSlot_kept (s : State) (slot : Nat) :
    (State.unmapSlot s slot).pending = s.pending ∧ (State.unmapSlot s slot).wheel = s.wheel ∧ (State.unmapSlot s slot).plan = s.plan ∧ (State.unmapSlot s slot).rein = s.rein ∧ (State.unmapSlot s slot).dram = s.dram ∧ (State.unmapSlot s slot).dma = s.dma ∧ (State.unmapSlot s slot).therm = s.therm ∧ (State.unmapSlot s slot).img = s.img := by
  simp [State.unmapSlot]
@[simp] theorem State.stepFormat_kept (s : State) (r : FormatRun) :
    (State.stepFormat s r).pending = s.pending ∧ (State.stepFormat s r).wheel = s.wheel ∧ (State.stepFormat s r).plan = s.plan ∧ (State.stepFormat s r).rein = s.rein ∧ (State.stepFormat s r).dram = s.dram ∧ (State.stepFormat s r).dma = s.dma ∧ (State.stepFormat s r).therm = s.therm ∧ (State.stepFormat s r).img = s.img := by
  simp [State.stepFormat]
@[simp] theorem State.endJobs_kept (s : State) :
    (State.endJobs s).pending = s.pending ∧ (State.endJobs s).wheel = s.wheel ∧ (State.endJobs s).plan = s.plan ∧ (State.endJobs s).rein = s.rein ∧ (State.endJobs s).dram = s.dram ∧ (State.endJobs s).dma = s.dma ∧ (State.endJobs s).therm = s.therm ∧ (State.endJobs s).img = s.img := by
  simp [State.endJobs]
@[simp] theorem State.clearPersisted_kept (s : State) :
    (State.clearPersisted s).pending = s.pending ∧ (State.clearPersisted s).wheel = s.wheel ∧ (State.clearPersisted s).plan = s.plan ∧ (State.clearPersisted s).rein = s.rein ∧ (State.clearPersisted s).dram = s.dram ∧ (State.clearPersisted s).dma = s.dma ∧ (State.clearPersisted s).therm = s.therm ∧ (State.clearPersisted s).img = s.img ∧ (State.clearPersisted s).awl = s.awl ∧ (State.clearPersisted s).codec = s.codec ∧ (State.clearPersisted s).map = s.map ∧ (State.clearPersisted s).blk = s.blk ∧ (State.clearPersisted s).girth = s.girth ∧ (State.clearPersisted s).wb = s.wb ∧ (State.clearPersisted s).dump = s.dump ∧ (State.clearPersisted s).cipher = s.cipher ∧ (State.clearPersisted s).skv = s.skv ∧ (State.clearPersisted s).mc = s.mc ∧ (State.clearPersisted s).media = s.media := by
  simp [State.clearPersisted]
@[simp] theorem State.stepSanitize_kept (s : State) :
    (State.stepSanitize s).pending = s.pending ∧ (State.stepSanitize s).wheel = s.wheel ∧ (State.stepSanitize s).plan = s.plan ∧ (State.stepSanitize s).rein = s.rein ∧ (State.stepSanitize s).dram = s.dram ∧ (State.stepSanitize s).dma = s.dma ∧ (State.stepSanitize s).therm = s.therm ∧ (State.stepSanitize s).img = s.img := by
  unfold State.stepSanitize; split <;> simp
@[simp] theorem State.stepErases_kept (s : State) :
    (State.stepErases s).pending = s.pending ∧ (State.stepErases s).wheel = s.wheel ∧ (State.stepErases s).plan = s.plan ∧ (State.stepErases s).rein = s.rein ∧ (State.stepErases s).dram = s.dram ∧ (State.stepErases s).dma = s.dma ∧ (State.stepErases s).therm = s.therm ∧ (State.stepErases s).img = s.img := by
  simp [State.stepErases]
@[simp] theorem State.lateEnd_kept (s : State) (tag : Nat) (e : LateEnd) :
    (State.lateEnd s tag e).pending = s.pending ∧ (State.lateEnd s tag e).wheel = s.wheel ∧ (State.lateEnd s tag e).plan = s.plan ∧ (State.lateEnd s tag e).rein = s.rein ∧ (State.lateEnd s tag e).dram = s.dram ∧ (State.lateEnd s tag e).dma = s.dma ∧ (State.lateEnd s tag e).therm = s.therm ∧ (State.lateEnd s tag e).img = s.img := by
  unfold State.lateEnd; (repeat' split) <;> simp
@[simp] theorem State.stepLate_kept (s : State) :
    (State.stepLate s).pending = s.pending ∧ (State.stepLate s).wheel = s.wheel ∧ (State.stepLate s).plan = s.plan ∧ (State.stepLate s).rein = s.rein ∧ (State.stepLate s).dram = s.dram ∧ (State.stepLate s).dma = s.dma ∧ (State.stepLate s).therm = s.therm ∧ (State.stepLate s).img = s.img := by
  simp [State.stepLate]

end Sys2Proof.Machine
end

