-- ==== Sys2Proof/Laws/KeptSettle.lean ====
section
/-! SUPPORT. What each function of Sys2Proof/Machine/Settle.lean leaves unchanged: one lemma a function. -/
set_option linter.unusedTactic false
set_option linter.unreachableTactic false
set_option linter.unusedSimpArgs false
namespace Sys2Proof.Machine

@[simp] theorem State.bucketWaits_kept (s : State) :
    (State.bucketWaits s).pending = s.pending ∧ (State.bucketWaits s).wheel = s.wheel ∧ (State.bucketWaits s).plan = s.plan ∧ (State.bucketWaits s).rein = s.rein ∧ (State.bucketWaits s).dram = s.dram ∧ (State.bucketWaits s).dma = s.dma ∧ (State.bucketWaits s).therm = s.therm ∧ (State.bucketWaits s).img = s.img ∧ (State.bucketWaits s).awl = s.awl ∧ (State.bucketWaits s).codec = s.codec ∧ (State.bucketWaits s).map = s.map ∧ (State.bucketWaits s).blk = s.blk ∧ (State.bucketWaits s).girth = s.girth ∧ (State.bucketWaits s).wb = s.wb ∧ (State.bucketWaits s).dump = s.dump ∧ (State.bucketWaits s).cipher = s.cipher ∧ (State.bucketWaits s).skv = s.skv ∧ (State.bucketWaits s).mc = s.mc ∧ (State.bucketWaits s).media = s.media := by
  simp [State.bucketWaits]
@[simp] theorem State.settleUnits_kept (s : State) :
    (State.settleUnits s).pending = s.pending ∧ (State.settleUnits s).wheel = s.wheel ∧ (State.settleUnits s).plan = s.plan ∧ (State.settleUnits s).rein = s.rein ∧ (State.settleUnits s).dram = s.dram ∧ (State.settleUnits s).dma = s.dma ∧ (State.settleUnits s).therm = s.therm ∧ (State.settleUnits s).img = s.img := by
  simp [State.settleUnits]
@[simp] theorem State.settleMap_kept (s : State) :
    (State.settleMap s).pending = s.pending ∧ (State.settleMap s).wheel = s.wheel ∧ (State.settleMap s).plan = s.plan ∧ (State.settleMap s).rein = s.rein ∧ (State.settleMap s).dram = s.dram ∧ (State.settleMap s).dma = s.dma ∧ (State.settleMap s).therm = s.therm ∧ (State.settleMap s).img = s.img := by
  simp [State.settleMap]
@[simp] theorem State.settleFlash_kept (s : State) :
    (State.settleFlash s).pending = s.pending ∧ (State.settleFlash s).wheel = s.wheel ∧ (State.settleFlash s).plan = s.plan ∧ (State.settleFlash s).rein = s.rein ∧ (State.settleFlash s).dram = s.dram ∧ (State.settleFlash s).dma = s.dma ∧ (State.settleFlash s).therm = s.therm ∧ (State.settleFlash s).img = s.img := by
  simp [State.settleFlash]
@[simp] theorem State.settle_kept (s : State) :
    (State.settle s).pending = s.pending ∧ (State.settle s).wheel = s.wheel ∧ (State.settle s).plan = s.plan ∧ (State.settle s).rein = s.rein ∧ (State.settle s).dram = s.dram ∧ (State.settle s).dma = s.dma ∧ (State.settle s).therm = s.therm ∧ (State.settle s).img = s.img := by
  simp [State.settle]
@[simp] theorem State.settleFront_kept (s : State) :
    (State.settleFront s).pending = s.pending ∧ (State.settleFront s).wheel = s.wheel ∧ (State.settleFront s).plan = s.plan ∧ (State.settleFront s).rein = s.rein ∧ (State.settleFront s).dram = s.dram ∧ (State.settleFront s).dma = s.dma ∧ (State.settleFront s).therm = s.therm ∧ (State.settleFront s).img = s.img ∧ (State.settleFront s).awl = s.awl ∧ (State.settleFront s).codec = s.codec ∧ (State.settleFront s).map = s.map ∧ (State.settleFront s).blk = s.blk ∧ (State.settleFront s).girth = s.girth ∧ (State.settleFront s).wb = s.wb ∧ (State.settleFront s).dump = s.dump ∧ (State.settleFront s).cipher = s.cipher ∧ (State.settleFront s).skv = s.skv ∧ (State.settleFront s).mc = s.mc ∧ (State.settleFront s).media = s.media := by
  simp [State.settleFront]

end Sys2Proof.Machine
end

