-- ==== Sys2Proof/Laws/KeptKeys.lean ====
section
/-! SUPPORT. What each function of Sys2Proof/Machine/Keys.lean leaves unchanged: one lemma a function. -/
set_option linter.unusedTactic false
set_option linter.unreachableTactic false
set_option linter.unusedSimpArgs false
namespace Sys2Proof.Machine

@[simp] theorem State.drawSalt_kept (s : State) :
    (State.drawSalt s).2.pending = s.pending ∧ (State.drawSalt s).2.wheel = s.wheel ∧ (State.drawSalt s).2.plan = s.plan ∧ (State.drawSalt s).2.rein = s.rein ∧ (State.drawSalt s).2.dram = s.dram ∧ (State.drawSalt s).2.dma = s.dma ∧ (State.drawSalt s).2.therm = s.therm ∧ (State.drawSalt s).2.img = s.img := by
  simp [State.drawSalt]
theorem State.drawSalt_fwd {s : State} {z : _} {z2 : State} (hz : State.drawSalt s = (z, z2)) : z2.pending = s.pending ∧ z2.wheel = s.wheel ∧ z2.plan = s.plan ∧ z2.rein = s.rein ∧ z2.dram = s.dram ∧ z2.dma = s.dma ∧ z2.therm = s.therm ∧ z2.img = s.img := by
  have h := State.drawSalt_kept s
  rw [hz] at h; exact h
@[simp] theorem State.deriveSlot_kept (s : State) (n : Nat) :
    (State.deriveSlot s n).pending = s.pending ∧ (State.deriveSlot s n).wheel = s.wheel ∧ (State.deriveSlot s n).plan = s.plan ∧ (State.deriveSlot s n).rein = s.rein ∧ (State.deriveSlot s n).dram = s.dram ∧ (State.deriveSlot s n).dma = s.dma ∧ (State.deriveSlot s n).therm = s.therm ∧ (State.deriveSlot s n).img = s.img := by
  simp [State.deriveSlot]
@[simp] theorem State.startContext_kept (s : State) (n : Nat) :
    (State.startContext s n).pending = s.pending ∧ (State.startContext s n).wheel = s.wheel ∧ (State.startContext s n).plan = s.plan ∧ (State.startContext s n).rein = s.rein ∧ (State.startContext s n).dram = s.dram ∧ (State.startContext s n).dma = s.dma ∧ (State.startContext s n).therm = s.therm ∧ (State.startContext s n).img = s.img := by
  simp [State.startContext]
@[simp] theorem State.installLabel_kept (s : State) (n : Nat) (l : BitVec 256) :
    (State.installLabel s n l).pending = s.pending ∧ (State.installLabel s n l).wheel = s.wheel ∧ (State.installLabel s n l).plan = s.plan ∧ (State.installLabel s n l).rein = s.rein ∧ (State.installLabel s n l).dram = s.dram ∧ (State.installLabel s n l).dma = s.dma ∧ (State.installLabel s n l).therm = s.therm ∧ (State.installLabel s n l).img = s.img := by
  simp [State.installLabel]
@[simp] theorem State.labelEmpty_kept (s : State) (n : Nat) (l : BitVec 256) :
    (State.labelEmpty s n l).pending = s.pending ∧ (State.labelEmpty s n l).wheel = s.wheel ∧ (State.labelEmpty s n l).plan = s.plan ∧ (State.labelEmpty s n l).rein = s.rein ∧ (State.labelEmpty s n l).dram = s.dram ∧ (State.labelEmpty s n l).dma = s.dma ∧ (State.labelEmpty s n l).therm = s.therm ∧ (State.labelEmpty s n l).img = s.img := by
  simp [State.labelEmpty]
@[simp] theorem State.pendLabel_kept (s : State) (n : Nat) (l : BitVec 256) (tag : Nat) :
    (State.pendLabel s n l tag).pending = s.pending ∧ (State.pendLabel s n l tag).wheel = s.wheel ∧ (State.pendLabel s n l tag).plan = s.plan ∧ (State.pendLabel s n l tag).rein = s.rein ∧ (State.pendLabel s n l tag).dram = s.dram ∧ (State.pendLabel s n l tag).dma = s.dma ∧ (State.pendLabel s n l tag).therm = s.therm ∧ (State.pendLabel s n l tag).img = s.img := by
  simp [State.pendLabel]
@[simp] theorem State.pendKeys_kept (s : State) (n : Nat) (ks : KeySet) (blob : List Sys2Proof.Byte) (tag : Nat) :
    (State.pendKeys s n ks blob tag).pending = s.pending ∧ (State.pendKeys s n ks blob tag).wheel = s.wheel ∧ (State.pendKeys s n ks blob tag).plan = s.plan ∧ (State.pendKeys s n ks blob tag).rein = s.rein ∧ (State.pendKeys s n ks blob tag).dram = s.dram ∧ (State.pendKeys s n ks blob tag).dma = s.dma ∧ (State.pendKeys s n ks blob tag).therm = s.therm ∧ (State.pendKeys s n ks blob tag).img = s.img := by
  simp [State.pendKeys]
@[simp] theorem State.installKeys_kept (s : State) (n : Nat) (ks : KeySet) (blob : List Sys2Proof.Byte) (purpose : Nat) :
    (State.installKeys s n ks blob purpose).pending = s.pending ∧ (State.installKeys s n ks blob purpose).wheel = s.wheel ∧ (State.installKeys s n ks blob purpose).plan = s.plan ∧ (State.installKeys s n ks blob purpose).rein = s.rein ∧ (State.installKeys s n ks blob purpose).dram = s.dram ∧ (State.installKeys s n ks blob purpose).dma = s.dma ∧ (State.installKeys s n ks blob purpose).therm = s.therm ∧ (State.installKeys s n ks blob purpose).img = s.img := by
  simp [State.installKeys]
@[simp] theorem State.installPending_kept (s : State) (n : Nat) :
    (State.installPending s n).pending = s.pending ∧ (State.installPending s n).wheel = s.wheel ∧ (State.installPending s n).plan = s.plan ∧ (State.installPending s n).rein = s.rein ∧ (State.installPending s n).dram = s.dram ∧ (State.installPending s n).dma = s.dma ∧ (State.installPending s n).therm = s.therm ∧ (State.installPending s n).img = s.img := by
  unfold State.installPending; refine ⟨?_, ?_, ?_, ?_, ?_, ?_, ?_, ?_⟩ <;> (repeat' (first | (simp; done) | split | dsimp only | simp))
@[simp] theorem State.rollKeys_kept (s : State) (n : Nat) (ks : KeySet) (blob : List Sys2Proof.Byte) :
    (State.rollKeys s n ks blob).pending = s.pending ∧ (State.rollKeys s n ks blob).wheel = s.wheel ∧ (State.rollKeys s n ks blob).plan = s.plan ∧ (State.rollKeys s n ks blob).rein = s.rein ∧ (State.rollKeys s n ks blob).dram = s.dram ∧ (State.rollKeys s n ks blob).dma = s.dma ∧ (State.rollKeys s n ks blob).therm = s.therm ∧ (State.rollKeys s n ks blob).img = s.img := by
  simp [State.rollKeys]
@[simp] theorem State.setRoot_kept (s : State) (root : Option (BitVec 256)) :
    (State.setRoot s root).pending = s.pending ∧ (State.setRoot s root).wheel = s.wheel ∧ (State.setRoot s root).plan = s.plan ∧ (State.setRoot s root).rein = s.rein ∧ (State.setRoot s root).dram = s.dram ∧ (State.setRoot s root).dma = s.dma ∧ (State.setRoot s root).therm = s.therm ∧ (State.setRoot s root).img = s.img := by
  simp [State.setRoot]
@[simp] theorem State.eraseEnds_kept (s : State) (e : EraseRun) :
    (State.eraseEnds s e).pending = s.pending ∧ (State.eraseEnds s e).wheel = s.wheel ∧ (State.eraseEnds s e).plan = s.plan ∧ (State.eraseEnds s e).rein = s.rein ∧ (State.eraseEnds s e).dram = s.dram ∧ (State.eraseEnds s e).dma = s.dma ∧ (State.eraseEnds s e).therm = s.therm ∧ (State.eraseEnds s e).img = s.img := by
  unfold State.eraseEnds; (repeat' split) <;> simp
@[simp] theorem State.failRequest_kept (s : State) (w : CipherWork) :
    (State.failRequest s w).pending = s.pending ∧ (State.failRequest s w).wheel = s.wheel ∧ (State.failRequest s w).plan = s.plan ∧ (State.failRequest s w).rein = s.rein ∧ (State.failRequest s w).dram = s.dram ∧ (State.failRequest s w).dma = s.dma ∧ (State.failRequest s w).therm = s.therm ∧ (State.failRequest s w).img = s.img := by
  unfold State.failRequest; (repeat' split) <;> simp
@[simp] theorem State.revoke_kept (s : State) (n : Nat) (tags : List Nat) (again : Option (BitVec 256)) :
    (State.revoke s n tags again).pending = s.pending ∧ (State.revoke s n tags again).wheel = s.wheel ∧ (State.revoke s n tags again).plan = s.plan ∧ (State.revoke s n tags again).rein = s.rein ∧ (State.revoke s n tags again).dram = s.dram ∧ (State.revoke s n tags again).dma = s.dma ∧ (State.revoke s n tags again).therm = s.therm ∧ (State.revoke s n tags again).img = s.img := by
  unfold State.revoke; refine ⟨?_, ?_, ?_, ?_, ?_, ?_, ?_, ?_⟩ <;> (repeat' (first | (simp; done) | split | dsimp only | simp))
@[simp] theorem State.keySectorErased_kept (s : State) (sector : Nat) :
    (State.keySectorErased s sector).pending = s.pending ∧ (State.keySectorErased s sector).wheel = s.wheel ∧ (State.keySectorErased s sector).plan = s.plan ∧ (State.keySectorErased s sector).rein = s.rein ∧ (State.keySectorErased s sector).dram = s.dram ∧ (State.keySectorErased s sector).dma = s.dma ∧ (State.keySectorErased s sector).therm = s.therm ∧ (State.keySectorErased s sector).img = s.img := by
  simp [State.keySectorErased]
@[simp] theorem State.endFenced_kept (s : State) (r : Sys2Proof.Rein) :
    (State.endFenced s r).pending = s.pending ∧ (State.endFenced s r).wheel = s.wheel ∧ (State.endFenced s r).plan = s.plan ∧ (State.endFenced s r).rein = s.rein ∧ (State.endFenced s r).dram = s.dram ∧ (State.endFenced s r).dma = s.dma ∧ (State.endFenced s r).therm = s.therm ∧ (State.endFenced s r).img = s.img := by
  simp [State.endFenced]
@[simp] theorem State.fenceMoved_kept (s : State) (r : Sys2Proof.Rein) :
    (State.fenceMoved s r).pending = s.pending ∧ (State.fenceMoved s r).wheel = s.wheel ∧ (State.fenceMoved s r).plan = s.plan ∧ (State.fenceMoved s r).rein = s.rein ∧ (State.fenceMoved s r).dram = s.dram ∧ (State.fenceMoved s r).dma = s.dma ∧ (State.fenceMoved s r).therm = s.therm ∧ (State.fenceMoved s r).img = s.img := by
  simp [State.fenceMoved]
@[simp] theorem State.setFence_kept (s : State) (r : Sys2Proof.Rein) (cause : Nat) (on : Bool) :
    (State.setFence s r cause on).pending = s.pending ∧ (State.setFence s r cause on).wheel = s.wheel ∧ (State.setFence s r cause on).plan = s.plan ∧ (State.setFence s r cause on).dram = s.dram ∧ (State.setFence s r cause on).dma = s.dma ∧ (State.setFence s r cause on).therm = s.therm ∧ (State.setFence s r cause on).img = s.img := by
  simp [State.setFence]
@[simp] theorem State.leaseFence_kept (s : State) (r : Sys2Proof.Rein) :
    (State.leaseFence s r).pending = s.pending ∧ (State.leaseFence s r).wheel = s.wheel ∧ (State.leaseFence s r).plan = s.plan ∧ (State.leaseFence s r).dram = s.dram ∧ (State.leaseFence s r).dma = s.dma ∧ (State.leaseFence s r).therm = s.therm ∧ (State.leaseFence s r).img = s.img := by
  simp [State.leaseFence]
@[simp] theorem State.leaseOn_kept (s : State) (l : LeaseDue) (r : Sys2Proof.Rein) :
    (State.leaseOn s l r).pending = s.pending ∧ (State.leaseOn s l r).wheel = s.wheel ∧ (State.leaseOn s l r).plan = s.plan ∧ (State.leaseOn s l r).dram = s.dram ∧ (State.leaseOn s l r).dma = s.dma ∧ (State.leaseOn s l r).therm = s.therm ∧ (State.leaseOn s l r).img = s.img := by
  unfold State.leaseOn; split <;> simp
@[simp] theorem State.leaseAct_kept (s : State) (l : LeaseDue) :
    (State.leaseAct s l).pending = s.pending ∧ (State.leaseAct s l).wheel = s.wheel ∧ (State.leaseAct s l).plan = s.plan ∧ (State.leaseAct s l).dram = s.dram ∧ (State.leaseAct s l).dma = s.dma ∧ (State.leaseAct s l).therm = s.therm ∧ (State.leaseAct s l).img = s.img := by
  simp [State.leaseAct]
@[simp] theorem State.leasesDue_kept (s : State) :
    (State.leasesDue s).pending = s.pending ∧ (State.leasesDue s).wheel = s.wheel ∧ (State.leasesDue s).plan = s.plan ∧ (State.leasesDue s).dram = s.dram ∧ (State.leasesDue s).dma = s.dma ∧ (State.leasesDue s).therm = s.therm ∧ (State.leasesDue s).img = s.img := by
  simp [State.leasesDue]
@[simp] theorem State.leaseAccept_kept (s : State) (tag : Nat) (p : BitVec 512) :
    (State.leaseAccept s tag p).pending = s.pending ∧ (State.leaseAccept s tag p).wheel = s.wheel ∧ (State.leaseAccept s tag p).plan = s.plan ∧ (State.leaseAccept s tag p).dram = s.dram ∧ (State.leaseAccept s tag p).dma = s.dma ∧ (State.leaseAccept s tag p).therm = s.therm ∧ (State.leaseAccept s tag p).img = s.img ∧ (State.leaseAccept s tag p).awl = s.awl ∧ (State.leaseAccept s tag p).codec = s.codec ∧ (State.leaseAccept s tag p).map = s.map ∧ (State.leaseAccept s tag p).blk = s.blk ∧ (State.leaseAccept s tag p).girth = s.girth ∧ (State.leaseAccept s tag p).wb = s.wb ∧ (State.leaseAccept s tag p).dump = s.dump ∧ (State.leaseAccept s tag p).cipher = s.cipher ∧ (State.leaseAccept s tag p).skv = s.skv ∧ (State.leaseAccept s tag p).mc = s.mc ∧ (State.leaseAccept s tag p).media = s.media := by
  simp [State.leaseAccept]
@[simp] theorem State.leasePacket_kept (s : State) (tag : Nat) (p : BitVec 512) (macOk : Bool) :
    (State.leasePacket s tag p macOk).pending = s.pending ∧ (State.leasePacket s tag p macOk).wheel = s.wheel ∧ (State.leasePacket s tag p macOk).plan = s.plan ∧ (State.leasePacket s tag p macOk).dram = s.dram ∧ (State.leasePacket s tag p macOk).dma = s.dma ∧ (State.leasePacket s tag p macOk).therm = s.therm ∧ (State.leasePacket s tag p macOk).img = s.img ∧ (State.leasePacket s tag p macOk).awl = s.awl ∧ (State.leasePacket s tag p macOk).codec = s.codec ∧ (State.leasePacket s tag p macOk).map = s.map ∧ (State.leasePacket s tag p macOk).blk = s.blk ∧ (State.leasePacket s tag p macOk).girth = s.girth ∧ (State.leasePacket s tag p macOk).wb = s.wb ∧ (State.leasePacket s tag p macOk).dump = s.dump ∧ (State.leasePacket s tag p macOk).cipher = s.cipher ∧ (State.leasePacket s tag p macOk).skv = s.skv ∧ (State.leasePacket s tag p macOk).mc = s.mc ∧ (State.leasePacket s tag p macOk).media = s.media := by
  unfold State.leasePacket; (repeat' split) <;> simp
@[simp] theorem State.macEnds_kept (s : State) (tag : Nat) (keys : KeySet) :
    (State.macEnds s tag keys).pending = s.pending ∧ (State.macEnds s tag keys).wheel = s.wheel ∧ (State.macEnds s tag keys).plan = s.plan ∧ (State.macEnds s tag keys).dram = s.dram ∧ (State.macEnds s tag keys).dma = s.dma ∧ (State.macEnds s tag keys).therm = s.therm ∧ (State.macEnds s tag keys).img = s.img ∧ (State.macEnds s tag keys).awl = s.awl ∧ (State.macEnds s tag keys).codec = s.codec ∧ (State.macEnds s tag keys).map = s.map ∧ (State.macEnds s tag keys).blk = s.blk ∧ (State.macEnds s tag keys).girth = s.girth ∧ (State.macEnds s tag keys).wb = s.wb ∧ (State.macEnds s tag keys).dump = s.dump ∧ (State.macEnds s tag keys).cipher = s.cipher ∧ (State.macEnds s tag keys).skv = s.skv ∧ (State.macEnds s tag keys).mc = s.mc ∧ (State.macEnds s tag keys).media = s.media := by
  unfold State.macEnds; split <;> simp

end Sys2Proof.Machine
end

