-- ==== Sys2Proof/Laws/KeptWritePath.lean ====
section
/-! SUPPORT. What each function of Sys2Proof/Machine/WritePath.lean leaves unchanged: one lemma a function. -/
set_option linter.unusedTactic false
set_option linter.unreachableTactic false
set_option linter.unusedSimpArgs false
namespace Sys2Proof.Machine

@[simp] theorem State.storeRaw_kept (s : State) (t : Nat) (j : UnitJob) :
    (State.storeRaw s t j).pending = s.pending ∧ (State.storeRaw s t j).wheel = s.wheel ∧ (State.storeRaw s t j).plan = s.plan ∧ (State.storeRaw s t j).rein = s.rein ∧ (State.storeRaw s t j).dram = s.dram ∧ (State.storeRaw s t j).dma = s.dma ∧ (State.storeRaw s t j).therm = s.therm ∧ (State.storeRaw s t j).img = s.img := by
  simp [State.storeRaw]
@[simp] theorem State.skiverLost_kept (s : State) (kind : Nat) (engine : Nat) :
    (State.skiverLost s kind engine).pending = s.pending ∧ (State.skiverLost s kind engine).wheel = s.wheel ∧ (State.skiverLost s kind engine).plan = s.plan ∧ (State.skiverLost s kind engine).rein = s.rein ∧ (State.skiverLost s kind engine).dram = s.dram ∧ (State.skiverLost s kind engine).dma = s.dma ∧ (State.skiverLost s kind engine).therm = s.therm ∧ (State.skiverLost s kind engine).img = s.img := by
  simp [State.skiverLost]
@[simp] theorem State.compMismatch_kept (s : State) (engine : Nat) :
    (State.compMismatch s engine).pending = s.pending ∧ (State.compMismatch s engine).wheel = s.wheel ∧ (State.compMismatch s engine).plan = s.plan ∧ (State.compMismatch s engine).rein = s.rein ∧ (State.compMismatch s engine).dram = s.dram ∧ (State.compMismatch s engine).dma = s.dma ∧ (State.compMismatch s engine).therm = s.therm ∧ (State.compMismatch s engine).img = s.img := by
  simp [State.compMismatch]
@[simp] theorem State.skiverUnit_kept (s : State) (t : Nat) (engine : Nat) (checkOk : Bool) (j : UnitJob) :
    (State.skiverUnit s t engine checkOk j).pending = s.pending ∧ (State.skiverUnit s t engine checkOk j).wheel = s.wheel ∧ (State.skiverUnit s t engine checkOk j).plan = s.plan ∧ (State.skiverUnit s t engine checkOk j).rein = s.rein ∧ (State.skiverUnit s t engine checkOk j).dram = s.dram ∧ (State.skiverUnit s t engine checkOk j).dma = s.dma ∧ (State.skiverUnit s t engine checkOk j).therm = s.therm ∧ (State.skiverUnit s t engine checkOk j).img = s.img := by
  simp [State.skiverUnit]
theorem execSkiverUnitDone_kept (unit : Nat) (engine : Nat) (checkOk : Bool) (s : State) :
    ∃ t, execSkiverUnitDone unit engine checkOk s = .next t ∧ t.pending = s.pending ∧ t.wheel = s.wheel ∧ t.plan = s.plan ∧ t.rein = s.rein ∧ t.dram = s.dram ∧ t.dma = s.dma ∧ t.therm = s.therm ∧ t.img = s.img := by
  unfold execSkiverUnitDone; (repeat' split) <;> (refine ⟨_, rfl, ?_⟩; simp)
@[simp] theorem State.plainUnit_kept (s : State) (t : Nat) (j : UnitJob) (plain : List Sys2Proof.Byte) :
    (State.plainUnit s t j plain).pending = s.pending ∧ (State.plainUnit s t j plain).wheel = s.wheel ∧ (State.plainUnit s t j plain).plan = s.plan ∧ (State.plainUnit s t j plain).rein = s.rein ∧ (State.plainUnit s t j plain).dram = s.dram ∧ (State.plainUnit s t j plain).dma = s.dma ∧ (State.plainUnit s t j plain).therm = s.therm ∧ (State.plainUnit s t j plain).img = s.img := by
  unfold State.plainUnit; (repeat' split) <;> simp
@[simp] theorem State.cipherEnds_kept (s : State) (w : CipherWork) (keys : KeySet) :
    (State.cipherEnds s w keys).pending = s.pending ∧ (State.cipherEnds s w keys).wheel = s.wheel ∧ (State.cipherEnds s w keys).plan = s.plan ∧ (State.cipherEnds s w keys).dram = s.dram ∧ (State.cipherEnds s w keys).dma = s.dma ∧ (State.cipherEnds s w keys).therm = s.therm ∧ (State.cipherEnds s w keys).img = s.img := by
  unfold State.cipherEnds; (repeat' split) <;> simp
@[simp] theorem State.cipherFails_kept (s : State) (w : CipherWork) :
    (State.cipherFails s w).pending = s.pending ∧ (State.cipherFails s w).wheel = s.wheel ∧ (State.cipherFails s w).plan = s.plan ∧ (State.cipherFails s w).rein = s.rein ∧ (State.cipherFails s w).dram = s.dram ∧ (State.cipherFails s w).dma = s.dma ∧ (State.cipherFails s w).therm = s.therm ∧ (State.cipherFails s w).img = s.img := by
  unfold State.cipherFails; split <;> simp
@[simp] theorem State.pairLost_kept (s : State) (pair : Nat) :
    (State.pairLost s pair).pending = s.pending ∧ (State.pairLost s pair).wheel = s.wheel ∧ (State.pairLost s pair).plan = s.plan ∧ (State.pairLost s pair).rein = s.rein ∧ (State.pairLost s pair).dram = s.dram ∧ (State.pairLost s pair).dma = s.dma ∧ (State.pairLost s pair).therm = s.therm ∧ (State.pairLost s pair).img = s.img := by
  simp [State.pairLost]
@[simp] theorem State.pairMismatch_kept (s : State) (n : Nat) (pair : Nat) (r : CipherReq) :
    (State.pairMismatch s n pair r).pending = s.pending ∧ (State.pairMismatch s n pair r).wheel = s.wheel ∧ (State.pairMismatch s n pair r).plan = s.plan ∧ (State.pairMismatch s n pair r).rein = s.rein ∧ (State.pairMismatch s n pair r).dram = s.dram ∧ (State.pairMismatch s n pair r).dma = s.dma ∧ (State.pairMismatch s n pair r).therm = s.therm ∧ (State.pairMismatch s n pair r).img = s.img := by
  simp [State.pairMismatch]
@[simp] theorem State.needSegs_kept (s : State) (nsx : Nat) (unit : Nat) :
    (State.needSegs s nsx unit).2.pending = s.pending ∧ (State.needSegs s nsx unit).2.wheel = s.wheel ∧ (State.needSegs s nsx unit).2.plan = s.plan ∧ (State.needSegs s nsx unit).2.rein = s.rein ∧ (State.needSegs s nsx unit).2.dram = s.dram ∧ (State.needSegs s nsx unit).2.dma = s.dma ∧ (State.needSegs s nsx unit).2.therm = s.therm ∧ (State.needSegs s nsx unit).2.img = s.img := by
  unfold State.needSegs; refine ⟨?_, ?_, ?_, ?_, ?_, ?_, ?_, ?_⟩ <;> (repeat' (first | (simp; done) | split | dsimp only | simp | grind only [→ State.allocSeg_fwd]))
theorem State.needSegs_fwd {s : State} {nsx : Nat} {unit : Nat} {z : _} {z2 : State} (hz : State.needSegs s nsx unit = (z, z2)) : z2.pending = s.pending ∧ z2.wheel = s.wheel ∧ z2.plan = s.plan ∧ z2.rein = s.rein ∧ z2.dram = s.dram ∧ z2.dma = s.dma ∧ z2.therm = s.therm ∧ z2.img = s.img := by
  have h := State.needSegs_kept s nsx unit
  rw [hz] at h; exact h
@[simp] theorem State.admitUnit_kept (s : State) (t : Nat) (j : UnitJob) :
    (State.admitUnit s t j).pending = s.pending ∧ (State.admitUnit s t j).wheel = s.wheel ∧ (State.admitUnit s t j).plan = s.plan ∧ (State.admitUnit s t j).rein = s.rein ∧ (State.admitUnit s t j).dram = s.dram ∧ (State.admitUnit s t j).dma = s.dma ∧ (State.admitUnit s t j).therm = s.therm ∧ (State.admitUnit s t j).img = s.img := by
  unfold State.admitUnit; refine ⟨?_, ?_, ?_, ?_, ?_, ?_, ?_, ?_⟩ <;> (repeat' (first | (simp; done) | split | dsimp only | simp | grind only [→ State.takeSlot_fwd, → State.needSegs_fwd]))
theorem execUnitAdmit_kept (unit : Nat) (s : State) :
    ∃ t, execUnitAdmit unit s = .next t ∧ t.pending = s.pending ∧ t.wheel = s.wheel ∧ t.plan = s.plan ∧ t.rein = s.rein ∧ t.dram = s.dram ∧ t.dma = s.dma ∧ t.therm = s.therm ∧ t.img = s.img := by
  unfold execUnitAdmit; (repeat' split) <;> (refine ⟨_, rfl, ?_⟩; simp)

end Sys2Proof.Machine
end

