-- ==== Sys2Proof/Laws/KeptReclaim.lean ====
section
/-! SUPPORT. What each function of Sys2Proof/Machine/Reclaim.lean leaves unchanged: one lemma a function. -/
set_option linter.unusedTactic false
set_option linter.unreachableTactic false
set_option linter.unusedSimpArgs false
namespace Sys2Proof.Machine

@[simp] theorem State.floorWait_kept (s : State) (n : Nat) (d : Nat) :
    (State.floorWait s n d).pending = s.pending ∧ (State.floorWait s n d).wheel = s.wheel ∧ (State.floorWait s n d).plan = s.plan ∧ (State.floorWait s n d).rein = s.rein ∧ (State.floorWait s n d).dram = s.dram ∧ (State.floorWait s n d).dma = s.dma ∧ (State.floorWait s n d).therm = s.therm ∧ (State.floorWait s n d).img = s.img := by
  simp [State.floorWait]
@[simp] theorem State.takeMember_kept (s : State) (n : Nat) (d : Nat) :
    (State.takeMember s n d).pending = s.pending ∧ (State.takeMember s n d).wheel = s.wheel ∧ (State.takeMember s n d).plan = s.plan ∧ (State.takeMember s n d).rein = s.rein ∧ (State.takeMember s n d).dram = s.dram ∧ (State.takeMember s n d).dma = s.dma ∧ (State.takeMember s n d).therm = s.therm ∧ (State.takeMember s n d).img = s.img := by
  unfold State.takeMember; refine ⟨?_, ?_, ?_, ?_, ?_, ?_, ?_, ?_⟩ <;> (repeat' (first | (simp; done) | split | dsimp only | simp | grind only [→ State.takeBlock_fwd]))
@[simp] theorem State.setStands_kept (s : State) (n : Nat) :
    (State.setStands s n).pending = s.pending ∧ (State.setStands s n).wheel = s.wheel ∧ (State.setStands s n).plan = s.plan ∧ (State.setStands s n).rein = s.rein ∧ (State.setStands s n).dram = s.dram ∧ (State.setStands s n).dma = s.dma ∧ (State.setStands s n).therm = s.therm ∧ (State.setStands s n).img = s.img := by
  unfold State.setStands; refine ⟨?_, ?_, ?_, ?_, ?_, ?_, ?_, ?_⟩ <;> (repeat' (first | (simp [-List.reduceReplicate]; done) | (with_reducible refine Eq.trans (foldl_pending _ (fun s a => ?_) _ _) ?_) | (with_reducible refine Eq.trans (foldl_wheel _ (fun s a => ?_) _ _) ?_) | (with_reducible refine Eq.trans (foldl_plan _ (fun s a => ?_) _ _) ?_) | (with_reducible refine Eq.trans (foldl_rein _ (fun s a => ?_) _ _) ?_) | (with_reducible refine Eq.trans (foldl_dram _ (fun s a => ?_) _ _) ?_) | (with_reducible refine Eq.trans (foldl_dma _ (fun s a => ?_) _ _) ?_) | (with_reducible refine Eq.trans (foldl_therm _ (fun s a => ?_) _ _) ?_) | (with_reducible refine Eq.trans (foldl_img _ (fun s a => ?_) _ _) ?_) | (with_reducible refine Eq.trans (foldr_pending _ (fun a s => ?_) _ _) ?_) | (with_reducible refine Eq.trans (foldr_wheel _ (fun a s => ?_) _ _) ?_) | (with_reducible refine Eq.trans (foldr_plan _ (fun a s => ?_) _ _) ?_) | (with_reducible refine Eq.trans (foldr_rein _ (fun a s => ?_) _ _) ?_) | (with_reducible refine Eq.trans (foldr_dram _ (fun a s => ?_) _ _) ?_) | (with_reducible refine Eq.trans (foldr_dma _ (fun a s => ?_) _ _) ?_) | (with_reducible refine Eq.trans (foldr_therm _ (fun a s => ?_) _ _) ?_) | (with_reducible refine Eq.trans (foldr_img _ (fun a s => ?_) _ _) ?_) | split | dsimp only | simp [-List.reduceReplicate] | (rename_i heq; split at heq <;> cases heq <;> simp)))
@[simp] theorem State.takeMembers_kept (s : State) (n : Nat) (k : Nat) :
    (State.takeMembers s n k).pending = s.pending ∧ (State.takeMembers s n k).wheel = s.wheel ∧ (State.takeMembers s n k).plan = s.plan ∧ (State.takeMembers s n k).rein = s.rein ∧ (State.takeMembers s n k).dram = s.dram ∧ (State.takeMembers s n k).dma = s.dma ∧ (State.takeMembers s n k).therm = s.therm ∧ (State.takeMembers s n k).img = s.img := by
  induction k generalizing s with
  | zero => simp [State.takeMembers]
  | succ n_ ih =>
    unfold State.takeMembers
    refine ⟨?_, ?_, ?_, ?_, ?_, ?_, ?_, ?_⟩ <;> (repeat' (first | (simp [-List.reduceReplicate, ih]; done) | split | dsimp only | simp [-List.reduceReplicate, ih] | grind only [→ State.nextDie_fwd]))
theorem execSetOpen_kept (stream : Nat) (s : State) :
    ∃ t, execSetOpen stream s = .next t ∧ t.pending = s.pending ∧ t.wheel = s.wheel ∧ t.plan = s.plan ∧ t.rein = s.rein ∧ t.dram = s.dram ∧ t.dma = s.dma ∧ t.therm = s.therm ∧ t.img = s.img := by
  unfold execSetOpen; (repeat' split) <;> (refine ⟨_, rfl, ?_⟩; simp)
theorem execHostGirthOpenWaitEnd_kept (stream : Nat) (s : State) :
    ∃ t, execHostGirthOpenWaitEnd stream s = .next t ∧ t.pending = s.pending ∧ t.wheel = s.wheel ∧ t.plan = s.plan ∧ t.rein = s.rein ∧ t.dram = s.dram ∧ t.dma = s.dma ∧ t.therm = s.therm ∧ t.img = s.img := by
  unfold execHostGirthOpenWaitEnd; (repeat' split) <;> (refine ⟨_, rfl, ?_⟩; simp)
theorem execGirthCloseStart_kept (stream : Nat) (s : State) :
    ∃ t, execGirthCloseStart stream s = .next t ∧ t.pending = s.pending ∧ t.wheel = s.wheel ∧ t.plan = s.plan ∧ t.rein = s.rein ∧ t.dram = s.dram ∧ t.dma = s.dma ∧ t.therm = s.therm ∧ t.img = s.img := by
  unfold execGirthCloseStart; (repeat' split) <;> (refine ⟨_, rfl, ?_⟩; simp)
theorem execGirthCloseAge_kept (stream : Nat) (s : State) :
    ∃ t, execGirthCloseAge stream s = .next t ∧ t.pending = s.pending ∧ t.wheel = s.wheel ∧ t.plan = s.plan ∧ t.rein = s.rein ∧ t.dram = s.dram ∧ t.dma = s.dma ∧ t.therm = s.therm ∧ t.img = s.img := by
  unfold execGirthCloseAge; (repeat' split) <;> (refine ⟨_, rfl, ?_⟩; simp)
theorem execLedgerPageWrite_kept (s : State) :
    ∃ t, execLedgerPageWrite s = .next t ∧ t.pending = s.pending ∧ t.wheel = s.wheel ∧ t.plan = s.plan ∧ t.rein = s.rein ∧ t.dram = s.dram ∧ t.dma = s.dma ∧ t.therm = s.therm ∧ t.img = s.img := by
  unfold execLedgerPageWrite; (repeat' split) <;> (refine ⟨_, rfl, ?_⟩; simp)
@[simp] theorem State.takeVictim_kept (s : State) (b : Nat) :
    (State.takeVictim s b).pending = s.pending ∧ (State.takeVictim s b).wheel = s.wheel ∧ (State.takeVictim s b).plan = s.plan ∧ (State.takeVictim s b).rein = s.rein ∧ (State.takeVictim s b).dram = s.dram ∧ (State.takeVictim s b).dma = s.dma ∧ (State.takeVictim s b).therm = s.therm ∧ (State.takeVictim s b).img = s.img := by
  simp [State.takeVictim]
theorem execVictimTake_kept (s : State) :
    ∃ t, execVictimTake s = .next t ∧ t.pending = s.pending ∧ t.wheel = s.wheel ∧ t.plan = s.plan ∧ t.rein = s.rein ∧ t.dram = s.dram ∧ t.dma = s.dma ∧ t.therm = s.therm ∧ t.img = s.img := by
  unfold execVictimTake; (repeat' split) <;> (refine ⟨_, rfl, ?_⟩; simp)
theorem execEraseGateOpen_kept (block : Nat) (s : State) :
    ∃ t, execEraseGateOpen block s = .next t ∧ t.pending = s.pending ∧ t.wheel = s.wheel ∧ t.plan = s.plan ∧ t.rein = s.rein ∧ t.dram = s.dram ∧ t.dma = s.dma ∧ t.therm = s.therm ∧ t.img = s.img := by
  unfold execEraseGateOpen; (repeat' split) <;> (refine ⟨_, rfl, ?_⟩; simp)
theorem execRebuildTake_kept (s : State) :
    ∃ t, execRebuildTake s = .next t ∧ t.pending = s.pending ∧ t.wheel = s.wheel ∧ t.plan = s.plan ∧ t.rein = s.rein ∧ t.dram = s.dram ∧ t.dma = s.dma ∧ t.therm = s.therm ∧ t.img = s.img := by
  unfold execRebuildTake; (repeat' split) <;> (refine ⟨_, rfl, ?_⟩; simp)
theorem execJournalStageAge_kept (seg : Nat) (s : State) :
    ∃ t, execJournalStageAge seg s = .next t ∧ t.pending = s.pending ∧ t.wheel = s.wheel ∧ t.plan = s.plan ∧ t.rein = s.rein ∧ t.dram = s.dram ∧ t.dma = s.dma ∧ t.therm = s.therm ∧ t.img = s.img := by
  unfold execJournalStageAge; (repeat' split) <;> (refine ⟨_, rfl, ?_⟩; simp)
@[simp] theorem State.rootSnapshot_kept (s : State) :
    (State.rootSnapshot s).pending = s.pending ∧ (State.rootSnapshot s).wheel = s.wheel ∧ (State.rootSnapshot s).plan = s.plan ∧ (State.rootSnapshot s).rein = s.rein ∧ (State.rootSnapshot s).dram = s.dram ∧ (State.rootSnapshot s).dma = s.dma ∧ (State.rootSnapshot s).therm = s.therm ∧ (State.rootSnapshot s).img = s.img := by
  simp [State.rootSnapshot]
theorem execRootSnapshot_kept (s : State) :
    ∃ t, execRootSnapshot s = .next t ∧ t.pending = s.pending ∧ t.wheel = s.wheel ∧ t.plan = s.plan ∧ t.rein = s.rein ∧ t.dram = s.dram ∧ t.dma = s.dma ∧ t.therm = s.therm ∧ t.img = s.img := by
  unfold execRootSnapshot; (repeat' split) <;> (refine ⟨_, rfl, ?_⟩; simp)

end Sys2Proof.Machine
end

