-- ==== Sys2Proof/Laws/KeptDump.lean ====
section
/-! SUPPORT. What each function of Sys2Proof/Machine/Dump.lean leaves unchanged: one lemma a function. -/
set_option linter.unusedTactic false
set_option linter.unreachableTactic false
set_option linter.unusedSimpArgs false
namespace Sys2Proof.Machine

@[simp] theorem State.energyTooth_kept (s : State) (code : Nat) :
    (State.energyTooth s code).pending = s.pending ∧ (State.energyTooth s code).wheel = s.wheel ∧ (State.energyTooth s code).plan = s.plan ∧ (State.energyTooth s code).rein = s.rein ∧ (State.energyTooth s code).dram = s.dram ∧ (State.energyTooth s code).dma = s.dma ∧ (State.energyTooth s code).therm = s.therm ∧ (State.energyTooth s code).img = s.img := by
  simp [State.energyTooth]
theorem execBackupFailEnter_kept (s : State) :
    ∃ t, execBackupFailEnter s = .next t ∧ t.pending = s.pending ∧ t.wheel = s.wheel ∧ t.plan = s.plan ∧ t.rein = s.rein ∧ t.dram = s.dram ∧ t.dma = s.dma ∧ t.therm = s.therm ∧ t.img = s.img := by
  unfold execBackupFailEnter; (repeat' split) <;> (refine ⟨_, rfl, ?_⟩; simp)
theorem execBackupFailEnd_kept (s : State) :
    ∃ t, execBackupFailEnd s = .next t ∧ t.pending = s.pending ∧ t.wheel = s.wheel ∧ t.plan = s.plan ∧ t.rein = s.rein ∧ t.dram = s.dram ∧ t.dma = s.dma ∧ t.therm = s.therm ∧ t.img = s.img := by
  unfold execBackupFailEnd; (repeat' split) <;> (refine ⟨_, rfl, ?_⟩; simp)
@[simp] theorem State.heartbeatsLow_kept (s : State) :
    (State.heartbeatsLow s).pending = s.pending ∧ (State.heartbeatsLow s).wheel = s.wheel ∧ (State.heartbeatsLow s).plan = s.plan ∧ (State.heartbeatsLow s).dram = s.dram ∧ (State.heartbeatsLow s).dma = s.dma ∧ (State.heartbeatsLow s).therm = s.therm ∧ (State.heartbeatsLow s).img = s.img ∧ (State.heartbeatsLow s).awl = s.awl ∧ (State.heartbeatsLow s).codec = s.codec ∧ (State.heartbeatsLow s).map = s.map ∧ (State.heartbeatsLow s).blk = s.blk ∧ (State.heartbeatsLow s).girth = s.girth ∧ (State.heartbeatsLow s).wb = s.wb ∧ (State.heartbeatsLow s).dump = s.dump ∧ (State.heartbeatsLow s).cipher = s.cipher ∧ (State.heartbeatsLow s).skv = s.skv ∧ (State.heartbeatsLow s).mc = s.mc ∧ (State.heartbeatsLow s).media = s.media := by
  simp [State.heartbeatsLow]
@[simp] theorem State.stopFront_kept (s : State) :
    (State.stopFront s).pending = s.pending ∧ (State.stopFront s).wheel = s.wheel ∧ (State.stopFront s).plan = s.plan ∧ (State.stopFront s).rein = s.rein ∧ (State.stopFront s).dram = s.dram ∧ (State.stopFront s).dma = s.dma ∧ (State.stopFront s).therm = s.therm ∧ (State.stopFront s).img = s.img := by
  simp [State.stopFront]
@[simp] theorem State.startDump_kept (s : State) (cause : Nat) (boundaryScan : Bool) :
    (State.startDump s cause boundaryScan).pending = s.pending ∧ (State.startDump s cause boundaryScan).dram = s.dram ∧ (State.startDump s cause boundaryScan).dma = s.dma ∧ (State.startDump s cause boundaryScan).therm = s.therm ∧ (State.startDump s cause boundaryScan).img = s.img ∧ (State.startDump s cause boundaryScan).wheel.pins = s.wheel.pins := by
  unfold State.startDump; split <;> simp
@[simp] theorem State.zeroize_kept (s : State) :
    (State.zeroize s).pending = s.pending ∧ (State.zeroize s).wheel = s.wheel ∧ (State.zeroize s).plan = s.plan ∧ (State.zeroize s).rein = s.rein ∧ (State.zeroize s).dram = s.dram ∧ (State.zeroize s).dma = s.dma ∧ (State.zeroize s).therm = s.therm ∧ (State.zeroize s).img = s.img := by
  simp [State.zeroize]
@[simp] theorem State.endTest_kept (s : State) (result : Nat) :
    (State.endTest s result).pending = s.pending ∧ (State.endTest s result).wheel = s.wheel ∧ (State.endTest s result).plan = s.plan ∧ (State.endTest s result).rein = s.rein ∧ (State.endTest s result).dram = s.dram ∧ (State.endTest s result).dma = s.dma ∧ (State.endTest s result).therm = s.therm ∧ (State.endTest s result).img = s.img ∧ (State.endTest s result).awl = s.awl ∧ (State.endTest s result).codec = s.codec ∧ (State.endTest s result).map = s.map ∧ (State.endTest s result).blk = s.blk ∧ (State.endTest s result).girth = s.girth ∧ (State.endTest s result).wb = s.wb ∧ (State.endTest s result).dump = s.dump ∧ (State.endTest s result).cipher = s.cipher ∧ (State.endTest s result).skv = s.skv ∧ (State.endTest s result).mc = s.mc ∧ (State.endTest s result).media = s.media := by
  unfold State.endTest; split <;> simp
@[simp] theorem State.pauseDma_kept (s : State) :
    (State.pauseDma s).pending = s.pending ∧ (State.pauseDma s).wheel = s.wheel ∧ (State.pauseDma s).plan = s.plan ∧ (State.pauseDma s).rein = s.rein ∧ (State.pauseDma s).dram = s.dram ∧ (State.pauseDma s).therm = s.therm ∧ (State.pauseDma s).img = s.img ∧ (State.pauseDma s).awl = s.awl ∧ (State.pauseDma s).codec = s.codec ∧ (State.pauseDma s).map = s.map ∧ (State.pauseDma s).blk = s.blk ∧ (State.pauseDma s).girth = s.girth ∧ (State.pauseDma s).wb = s.wb ∧ (State.pauseDma s).dump = s.dump ∧ (State.pauseDma s).cipher = s.cipher ∧ (State.pauseDma s).skv = s.skv ∧ (State.pauseDma s).mc = s.mc ∧ (State.pauseDma s).media = s.media := by
  simp [State.pauseDma]
@[simp] theorem State.holdMain_kept (s : State) (holds : List Nat) :
    (State.holdMain s holds).pending = s.pending ∧ (State.holdMain s holds).wheel = s.wheel ∧ (State.holdMain s holds).plan = s.plan ∧ (State.holdMain s holds).dma = s.dma ∧ (State.holdMain s holds).therm = s.therm ∧ (State.holdMain s holds).img = s.img := by
  simp [State.holdMain]
@[simp] theorem State.enterFaultStop_kept (s : State) (cause : Nat) (path : Nat) :
    (State.enterFaultStop s cause path).pending = s.pending ∧ (State.enterFaultStop s cause path).therm = s.therm ∧ (State.enterFaultStop s cause path).img = s.img ∧ (State.enterFaultStop s cause path).wheel.pins = s.wheel.pins := by
  simp [State.enterFaultStop]
@[simp] theorem State.powerOnReset_kept (s : State) (supplyLost : Bool) :
    (State.powerOnReset s supplyLost).pending = s.pending := by
  simp [State.powerOnReset]
@[simp] theorem State.takeBalls_kept (s : State) :
    (State.takeBalls s).pending = s.pending ∧ (State.takeBalls s).wheel = s.wheel ∧ (State.takeBalls s).plan = s.plan ∧ (State.takeBalls s).rein = s.rein ∧ (State.takeBalls s).dram = s.dram ∧ (State.takeBalls s).dma = s.dma ∧ (State.takeBalls s).therm = s.therm ∧ (State.takeBalls s).img = s.img ∧ (State.takeBalls s).awl = s.awl ∧ (State.takeBalls s).codec = s.codec ∧ (State.takeBalls s).map = s.map ∧ (State.takeBalls s).blk = s.blk ∧ (State.takeBalls s).girth = s.girth ∧ (State.takeBalls s).wb = s.wb ∧ (State.takeBalls s).dump = s.dump ∧ (State.takeBalls s).cipher = s.cipher ∧ (State.takeBalls s).skv = s.skv ∧ (State.takeBalls s).mc = s.mc ∧ (State.takeBalls s).media = s.media := by
  unfold State.takeBalls; split <;> simp
@[simp] theorem State.holdAll_kept (s : State) (scan : Bool) (holds : List Nat) :
    (State.holdAll s scan holds).pending = s.pending ∧ (State.holdAll s scan holds).wheel = s.wheel ∧ (State.holdAll s scan holds).plan = s.plan ∧ (State.holdAll s scan holds).dma = s.dma ∧ (State.holdAll s scan holds).therm = s.therm ∧ (State.holdAll s scan holds).img = s.img := by
  simp [State.holdAll]
@[simp] theorem State.shutDown_kept (s : State) :
    (State.shutDown s).pending = s.pending ∧ (State.shutDown s).wheel = s.wheel ∧ (State.shutDown s).plan = s.plan ∧ (State.shutDown s).rein = s.rein ∧ (State.shutDown s).dma = s.dma ∧ (State.shutDown s).therm = s.therm ∧ (State.shutDown s).img = s.img := by
  simp [State.shutDown]
@[simp] theorem State.afterDump_kept (s : State) (d : DumpRun) :
    (State.afterDump s d).pending = s.pending := by
  simp [State.afterDump]
@[simp] theorem State.answerWaiting_kept (s : State) :
    (State.answerWaiting s).pending = s.pending ∧ (State.answerWaiting s).wheel = s.wheel ∧ (State.answerWaiting s).plan = s.plan ∧ (State.answerWaiting s).rein = s.rein ∧ (State.answerWaiting s).dram = s.dram ∧ (State.answerWaiting s).dma = s.dma ∧ (State.answerWaiting s).therm = s.therm ∧ (State.answerWaiting s).img = s.img ∧ (State.answerWaiting s).awl = s.awl ∧ (State.answerWaiting s).codec = s.codec ∧ (State.answerWaiting s).map = s.map ∧ (State.answerWaiting s).blk = s.blk ∧ (State.answerWaiting s).girth = s.girth ∧ (State.answerWaiting s).wb = s.wb ∧ (State.answerWaiting s).dump = s.dump ∧ (State.answerWaiting s).cipher = s.cipher ∧ (State.answerWaiting s).skv = s.skv ∧ (State.answerWaiting s).mc = s.mc ∧ (State.answerWaiting s).media = s.media := by
  unfold State.answerWaiting; refine ⟨?_, ?_, ?_, ?_, ?_, ?_, ?_, ?_, ?_, ?_, ?_, ?_, ?_, ?_, ?_, ?_, ?_, ?_, ?_⟩ <;> (repeat' (first | (simp [-List.reduceReplicate]; done) | (with_reducible refine Eq.trans (foldl_pending _ (fun s a => ?_) _ _) ?_) | (with_reducible refine Eq.trans (foldl_wheel _ (fun s a => ?_) _ _) ?_) | (with_reducible refine Eq.trans (foldl_plan _ (fun s a => ?_) _ _) ?_) | (with_reducible refine Eq.trans (foldl_rein _ (fun s a => ?_) _ _) ?_) | (with_reducible refine Eq.trans (foldl_dram _ (fun s a => ?_) _ _) ?_) | (with_reducible refine Eq.trans (foldl_dma _ (fun s a => ?_) _ _) ?_) | (with_reducible refine Eq.trans (foldl_therm _ (fun s a => ?_) _ _) ?_) | (with_reducible refine Eq.trans (foldl_img _ (fun s a => ?_) _ _) ?_) | (with_reducible refine Eq.trans (foldl_awl _ (fun s a => ?_) _ _) ?_) | (with_reducible refine Eq.trans (foldl_codec _ (fun s a => ?_) _ _) ?_) | (with_reducible refine Eq.trans (foldl_map _ (fun s a => ?_) _ _) ?_) | (with_reducible refine Eq.trans (foldl_blk _ (fun s a => ?_) _ _) ?_) | (with_reducible refine Eq.trans (foldl_girth _ (fun s a => ?_) _ _) ?_) | (with_reducible refine Eq.trans (foldl_wb _ (fun s a => ?_) _ _) ?_) | (with_reducible refine Eq.trans (foldl_dump _ (fun s a => ?_) _ _) ?_) | (with_reducible refine Eq.trans (foldl_cipher _ (fun s a => ?_) _ _) ?_) | (with_reducible refine Eq.trans (foldl_skv _ (fun s a => ?_) _ _) ?_) | (with_reducible refine Eq.trans (foldl_mc _ (fun s a => ?_) _ _) ?_) | (with_reducible refine Eq.trans (foldl_media _ (fun s a => ?_) _ _) ?_) | (with_reducible refine Eq.trans (foldr_pending _ (fun a s => ?_) _ _) ?_) | (with_reducible refine Eq.trans (foldr_wheel _ (fun a s => ?_) _ _) ?_) | (with_reducible refine Eq.trans (foldr_plan _ (fun a s => ?_) _ _) ?_) | (with_reducible refine Eq.trans (foldr_rein _ (fun a s => ?_) _ _) ?_) | (with_reducible refine Eq.trans (foldr_dram _ (fun a s => ?_) _ _) ?_) | (with_reducible refine Eq.trans (foldr_dma _ (fun a s => ?_) _ _) ?_) | (with_reducible refine Eq.trans (foldr_therm _ (fun a s => ?_) _ _) ?_) | (with_reducible refine Eq.trans (foldr_img _ (fun a s => ?_) _ _) ?_) | (with_reducible refine Eq.trans (foldr_awl _ (fun a s => ?_) _ _) ?_) | (with_reducible refine Eq.trans (foldr_codec _ (fun a s => ?_) _ _) ?_) | (with_reducible refine Eq.trans (foldr_map _ (fun a s => ?_) _ _) ?_) | (with_reducible refine Eq.trans (foldr_blk _ (fun a s => ?_) _ _) ?_) | (with_reducible refine Eq.trans (foldr_girth _ (fun a s => ?_) _ _) ?_) | (with_reducible refine Eq.trans (foldr_wb _ (fun a s => ?_) _ _) ?_) | (with_reducible refine Eq.trans (foldr_dump _ (fun a s => ?_) _ _) ?_) | (with_reducible refine Eq.trans (foldr_cipher _ (fun a s => ?_) _ _) ?_) | (with_reducible refine Eq.trans (foldr_skv _ (fun a s => ?_) _ _) ?_) | (with_reducible refine Eq.trans (foldr_mc _ (fun a s => ?_) _ _) ?_) | (with_reducible refine Eq.trans (foldr_media _ (fun a s => ?_) _ _) ?_) | split | dsimp only | simp [-List.reduceReplicate] | (rename_i heq; split at heq <;> cases heq <;> simp)))
@[simp] theorem State.dumpOver_kept (s : State) (d : DumpRun) :
    (State.dumpOver s d).pending = s.pending ∧ (State.dumpOver s d).therm = s.therm ∧ (State.dumpOver s d).img = s.img ∧ (State.dumpOver s d).wheel.pins = s.wheel.pins := by
  unfold State.dumpOver; refine ⟨?_, ?_, ?_, ?_⟩ <;> (repeat' (first | (simp; done) | split | dsimp only | simp))
@[simp] theorem State.dumpEnds_kept (s : State) :
    (State.dumpEnds s).pending = s.pending := by
  unfold State.dumpEnds; split <;> simp
@[simp] theorem State.releaseHold_kept (s : State) (h : Nat) :
    (State.releaseHold s h).pending = s.pending := by
  unfold State.releaseHold; (repeat' split) <;> simp
theorem execPwrfailNFall_kept (s : State) :
    ∃ t, execPwrfailNFall s = .next t ∧ t.pending = s.pending ∧ t.wheel = s.wheel ∧ t.plan = s.plan ∧ t.rein = s.rein ∧ t.dram = s.dram ∧ t.dma = s.dma ∧ t.therm = s.therm ∧ t.img = s.img := by
  unfold execPwrfailNFall; (repeat' split) <;> (refine ⟨_, rfl, ?_⟩; simp)
theorem execPwrfailFilterExpire_kept (s : State) :
    ∃ t, execPwrfailFilterExpire s = .next t ∧ t.pending = s.pending ∧ t.dram = s.dram ∧ t.dma = s.dma ∧ t.therm = s.therm ∧ t.img = s.img ∧ t.wheel.pins = s.wheel.pins := by
  unfold execPwrfailFilterExpire; (repeat' split) <;> (refine ⟨_, rfl, ?_⟩; simp)
theorem execPwrfailNRise_kept (s : State) :
    ∃ t, execPwrfailNRise s = .next t ∧ t.pending = s.pending ∧ t.wheel = s.wheel ∧ t.plan = s.plan ∧ t.rein = s.rein ∧ t.dram = s.dram ∧ t.dma = s.dma ∧ t.therm = s.therm ∧ t.img = s.img := by
  unfold execPwrfailNRise; (repeat' split) <;> (refine ⟨_, rfl, ?_⟩; simp)
theorem execPwrfailNHighFilterExpire_kept (s : State) :
    ∃ t, execPwrfailNHighFilterExpire s = .next t ∧ t.pending = s.pending := by
  unfold execPwrfailNHighFilterExpire; (repeat' split) <;> (refine ⟨_, rfl, ?_⟩; simp)
@[simp] theorem State.dumpUnitEnd_kept (s : State) (d : DumpRun) (girth : Nat) (member : Nat) (ok : Bool) :
    (State.dumpUnitEnd s d girth member ok).pending = s.pending ∧ (State.dumpUnitEnd s d girth member ok).wheel = s.wheel ∧ (State.dumpUnitEnd s d girth member ok).plan = s.plan ∧ (State.dumpUnitEnd s d girth member ok).rein = s.rein ∧ (State.dumpUnitEnd s d girth member ok).dram = s.dram ∧ (State.dumpUnitEnd s d girth member ok).dma = s.dma ∧ (State.dumpUnitEnd s d girth member ok).therm = s.therm ∧ (State.dumpUnitEnd s d girth member ok).img = s.img := by
  simp [State.dumpUnitEnd]
theorem execDumpUnitProgramDone_kept (girth : Nat) (member : Nat) (ok : Bool) (s : State) :
    ∃ t, execDumpUnitProgramDone girth member ok s = .next t ∧ t.pending = s.pending ∧ t.wheel = s.wheel ∧ t.plan = s.plan ∧ t.rein = s.rein ∧ t.dram = s.dram ∧ t.dma = s.dma ∧ t.therm = s.therm ∧ t.img = s.img := by
  unfold execDumpUnitProgramDone; dsimp only; (repeat' split) <;> (refine ⟨_, rfl, ?_⟩; simp)
theorem execDumpRowStep_kept (s : State) :
    ∃ t, execDumpRowStep s = .next t ∧ t.pending = s.pending ∧ t.wheel = s.wheel ∧ t.plan = s.plan ∧ t.rein = s.rein ∧ t.dram = s.dram ∧ t.dma = s.dma ∧ t.therm = s.therm ∧ t.img = s.img := by
  unfold execDumpRowStep; (repeat' split) <;> (refine ⟨_, rfl, ?_⟩; simp)

end Sys2Proof.Machine
end

