-- ==== Sys2Proof/Laws/KeptRestart.lean ====
section
/-! SUPPORT. What each function of Sys2Proof/Machine/Restart.lean leaves unchanged: one lemma a function. -/
set_option linter.unusedTactic false
set_option linter.unreachableTactic false
set_option linter.unusedSimpArgs false
namespace Sys2Proof.Machine

@[simp] theorem State.formLedger_kept (s : State) :
    (State.formLedger s).pending = s.pending ∧ (State.formLedger s).wheel = s.wheel ∧ (State.formLedger s).plan = s.plan ∧ (State.formLedger s).rein = s.rein ∧ (State.formLedger s).dram = s.dram ∧ (State.formLedger s).dma = s.dma ∧ (State.formLedger s).therm = s.therm ∧ (State.formLedger s).img = s.img := by
  simp [State.formLedger]
@[simp] theorem State.formWidth_kept (s : State) :
    (State.formWidth s).pending = s.pending ∧ (State.formWidth s).wheel = s.wheel ∧ (State.formWidth s).plan = s.plan ∧ (State.formWidth s).rein = s.rein ∧ (State.formWidth s).dram = s.dram ∧ (State.formWidth s).dma = s.dma ∧ (State.formWidth s).therm = s.therm ∧ (State.formWidth s).img = s.img := by
  simp [State.formWidth]
@[simp] theorem State.isolateNamed_kept (s : State) (d : Nat) (cause : Nat) :
    (State.isolateNamed s d cause).pending = s.pending ∧ (State.isolateNamed s d cause).wheel = s.wheel ∧ (State.isolateNamed s d cause).plan = s.plan ∧ (State.isolateNamed s d cause).rein = s.rein ∧ (State.isolateNamed s d cause).dram = s.dram ∧ (State.isolateNamed s d cause).dma = s.dma ∧ (State.isolateNamed s d cause).therm = s.therm ∧ (State.isolateNamed s d cause).img = s.img := by
  simp [State.isolateNamed]
@[simp] theorem State.isolateLedger_kept (s : State) :
    (State.isolateLedger s).pending = s.pending ∧ (State.isolateLedger s).wheel = s.wheel ∧ (State.isolateLedger s).plan = s.plan ∧ (State.isolateLedger s).rein = s.rein ∧ (State.isolateLedger s).dram = s.dram ∧ (State.isolateLedger s).dma = s.dma ∧ (State.isolateLedger s).therm = s.therm ∧ (State.isolateLedger s).img = s.img := by
  simp [State.isolateLedger]
@[simp] theorem State.formRoot_kept (s : State) :
    (State.formRoot s).pending = s.pending ∧ (State.formRoot s).wheel = s.wheel ∧ (State.formRoot s).plan = s.plan ∧ (State.formRoot s).rein = s.rein ∧ (State.formRoot s).dram = s.dram ∧ (State.formRoot s).dma = s.dma ∧ (State.formRoot s).therm = s.therm ∧ (State.formRoot s).img = s.img := by
  simp [State.formRoot]
@[simp] theorem State.formVt_kept (s : State) :
    (State.formVt s).pending = s.pending ∧ (State.formVt s).wheel = s.wheel ∧ (State.formVt s).plan = s.plan ∧ (State.formVt s).rein = s.rein ∧ (State.formVt s).dram = s.dram ∧ (State.formVt s).dma = s.dma ∧ (State.formVt s).therm = s.therm ∧ (State.formVt s).img = s.img := by
  simp [State.formVt]
@[simp] theorem State.scanTag_kept (s : State) (a : Nat) (d : UnitDesc) :
    (State.scanTag s a d).pending = s.pending ∧ (State.scanTag s a d).wheel = s.wheel ∧ (State.scanTag s a d).plan = s.plan ∧ (State.scanTag s a d).rein = s.rein ∧ (State.scanTag s a d).dram = s.dram ∧ (State.scanTag s a d).dma = s.dma ∧ (State.scanTag s a d).therm = s.therm ∧ (State.scanTag s a d).img = s.img := by
  unfold State.scanTag; refine ⟨?_, ?_, ?_, ?_, ?_, ?_, ?_, ?_⟩ <;> (repeat' (first | (simp; done) | split | dsimp only | simp | grind only [→ State.allocSeg_fwd]))
@[simp] theorem State.scanUnit_kept (s : State) (set : Table Nat) (a : Nat) (d : UnitDesc) :
    (State.scanUnit s set a d).2.pending = s.pending ∧ (State.scanUnit s set a d).2.wheel = s.wheel ∧ (State.scanUnit s set a d).2.plan = s.plan ∧ (State.scanUnit s set a d).2.rein = s.rein ∧ (State.scanUnit s set a d).2.dram = s.dram ∧ (State.scanUnit s set a d).2.dma = s.dma ∧ (State.scanUnit s set a d).2.therm = s.therm ∧ (State.scanUnit s set a d).2.img = s.img := by
  unfold State.scanUnit; refine ⟨?_, ?_, ?_, ?_, ?_, ?_, ?_, ?_⟩ <;> (repeat' (first | (simp; done) | split | dsimp only | simp | grind only [→ State.allocSeg_fwd]))
theorem State.scanUnit_fwd {s : State} {set : Table Nat} {a : Nat} {d : UnitDesc} {z : _} {z2 : State} (hz : State.scanUnit s set a d = (z, z2)) : z2.pending = s.pending ∧ z2.wheel = s.wheel ∧ z2.plan = s.plan ∧ z2.rein = s.rein ∧ z2.dram = s.dram ∧ z2.dma = s.dma ∧ z2.therm = s.therm ∧ z2.img = s.img := by
  have h := State.scanUnit_kept s set a d
  rw [hz] at h; exact h
@[simp] theorem State.readsAt_kept (s : State) (as : List Nat) :
    (State.readsAt s as).pending = s.pending ∧ (State.readsAt s as).wheel = s.wheel ∧ (State.readsAt s as).plan = s.plan ∧ (State.readsAt s as).rein = s.rein ∧ (State.readsAt s as).dram = s.dram ∧ (State.readsAt s as).dma = s.dma ∧ (State.readsAt s as).therm = s.therm ∧ (State.readsAt s as).img = s.img := by
  simp [State.readsAt]
@[simp] theorem State.scanGirths_kept (s : State) (closes : List (Nat × Nat)) :
    (State.scanGirths s closes).2.pending = s.pending ∧ (State.scanGirths s closes).2.wheel = s.wheel ∧ (State.scanGirths s closes).2.plan = s.plan ∧ (State.scanGirths s closes).2.rein = s.rein ∧ (State.scanGirths s closes).2.dram = s.dram ∧ (State.scanGirths s closes).2.dma = s.dma ∧ (State.scanGirths s closes).2.therm = s.therm ∧ (State.scanGirths s closes).2.img = s.img := by
  unfold State.scanGirths
  refine ⟨?_, ?_, ?_, ?_, ?_, ?_, ?_, ?_⟩
  · exact (fold_pair (fun s => s.pending) _ (fun c a => fold_pair (fun s => s.pending) _ (fun c a => by simp) _ _) _ _).trans (by simp)
  · exact (fold_pair (fun s => s.wheel) _ (fun c a => fold_pair (fun s => s.wheel) _ (fun c a => by simp) _ _) _ _).trans (by simp)
  · exact (fold_pair (fun s => s.plan) _ (fun c a => fold_pair (fun s => s.plan) _ (fun c a => by simp) _ _) _ _).trans (by simp)
  · exact (fold_pair (fun s => s.rein) _ (fun c a => fold_pair (fun s => s.rein) _ (fun c a => by simp) _ _) _ _).trans (by simp)
  · exact (fold_pair (fun s => s.dram) _ (fun c a => fold_pair (fun s => s.dram) _ (fun c a => by simp) _ _) _ _).trans (by simp)
  · exact (fold_pair (fun s => s.dma) _ (fun c a => fold_pair (fun s => s.dma) _ (fun c a => by simp) _ _) _ _).trans (by simp)
  · exact (fold_pair (fun s => s.therm) _ (fun c a => fold_pair (fun s => s.therm) _ (fun c a => by simp) _ _) _ _).trans (by simp)
  · exact (fold_pair (fun s => s.img) _ (fun c a => fold_pair (fun s => s.img) _ (fun c a => by simp) _ _) _ _).trans (by simp)
theorem State.scanGirths_fwd {s : State} {closes : List (Nat × Nat)} {z : _} {z2 : State} (hz : State.scanGirths s closes = (z, z2)) : z2.pending = s.pending ∧ z2.wheel = s.wheel ∧ z2.plan = s.plan ∧ z2.rein = s.rein ∧ z2.dram = s.dram ∧ z2.dma = s.dma ∧ z2.therm = s.therm ∧ z2.img = s.img := by
  have h := State.scanGirths_kept s closes
  rw [hz] at h; exact h
@[simp] theorem State.scanNow_kept (s : State) :
    (State.scanNow s).2.pending = s.pending ∧ (State.scanNow s).2.wheel = s.wheel ∧ (State.scanNow s).2.plan = s.plan ∧ (State.scanNow s).2.rein = s.rein ∧ (State.scanNow s).2.dram = s.dram ∧ (State.scanNow s).2.dma = s.dma ∧ (State.scanNow s).2.therm = s.therm ∧ (State.scanNow s).2.img = s.img := by
  unfold State.scanNow
  split <;> simp
theorem State.scanNow_fwd {s : State} {z : _} {z2 : State} (hz : State.scanNow s = (z, z2)) : z2.pending = s.pending ∧ z2.wheel = s.wheel ∧ z2.plan = s.plan ∧ z2.rein = s.rein ∧ z2.dram = s.dram ∧ z2.dma = s.dma ∧ z2.therm = s.therm ∧ z2.img = s.img := by
  have h := State.scanNow_kept s
  rw [hz] at h; exact h
@[simp] theorem State.formWear_kept (s : State) (bad : List (Nat × Nat)) :
    (State.formWear s bad).pending = s.pending ∧ (State.formWear s bad).wheel = s.wheel ∧ (State.formWear s bad).plan = s.plan ∧ (State.formWear s bad).rein = s.rein ∧ (State.formWear s bad).dram = s.dram ∧ (State.formWear s bad).dma = s.dma ∧ (State.formWear s bad).therm = s.therm ∧ (State.formWear s bad).img = s.img := by
  simp [State.formWear]
@[simp] theorem State.listBlock_kept (s : State) (b : Nat) :
    (State.listBlock s b).pending = s.pending ∧ (State.listBlock s b).wheel = s.wheel ∧ (State.listBlock s b).plan = s.plan ∧ (State.listBlock s b).rein = s.rein ∧ (State.listBlock s b).dram = s.dram ∧ (State.listBlock s b).dma = s.dma ∧ (State.listBlock s b).therm = s.therm ∧ (State.listBlock s b).img = s.img := by
  unfold State.listBlock; refine ⟨?_, ?_, ?_, ?_, ?_, ?_, ?_, ?_⟩ <;> (repeat' (first | (simp; done) | split | dsimp only | simp))
@[simp] theorem State.countChain_kept (s : State) (d : SegDesc) :
    (State.countChain s d).pending = s.pending ∧ (State.countChain s d).wheel = s.wheel ∧ (State.countChain s d).plan = s.plan ∧ (State.countChain s d).rein = s.rein ∧ (State.countChain s d).dram = s.dram ∧ (State.countChain s d).dma = s.dma ∧ (State.countChain s d).therm = s.therm ∧ (State.countChain s d).img = s.img := by
  unfold State.countChain; refine ⟨?_, ?_, ?_, ?_, ?_, ?_, ?_, ?_⟩ <;> (repeat' (first | (simp [-List.reduceReplicate]; done) | (with_reducible refine Eq.trans (foldl_pending _ (fun s a => ?_) _ _) ?_) | (with_reducible refine Eq.trans (foldl_wheel _ (fun s a => ?_) _ _) ?_) | (with_reducible refine Eq.trans (foldl_plan _ (fun s a => ?_) _ _) ?_) | (with_reducible refine Eq.trans (foldl_rein _ (fun s a => ?_) _ _) ?_) | (with_reducible refine Eq.trans (foldl_dram _ (fun s a => ?_) _ _) ?_) | (with_reducible refine Eq.trans (foldl_dma _ (fun s a => ?_) _ _) ?_) | (with_reducible refine Eq.trans (foldl_therm _ (fun s a => ?_) _ _) ?_) | (with_reducible refine Eq.trans (foldl_img _ (fun s a => ?_) _ _) ?_) | (with_reducible refine Eq.trans (foldr_pending _ (fun a s => ?_) _ _) ?_) | (with_reducible refine Eq.trans (foldr_wheel _ (fun a s => ?_) _ _) ?_) | (with_reducible refine Eq.trans (foldr_plan _ (fun a s => ?_) _ _) ?_) | (with_reducible refine Eq.trans (foldr_rein _ (fun a s => ?_) _ _) ?_) | (with_reducible refine Eq.trans (foldr_dram _ (fun a s => ?_) _ _) ?_) | (with_reducible refine Eq.trans (foldr_dma _ (fun a s => ?_) _ _) ?_) | (with_reducible refine Eq.trans (foldr_therm _ (fun a s => ?_) _ _) ?_) | (with_reducible refine Eq.trans (foldr_img _ (fun a s => ?_) _ _) ?_) | split | dsimp only | simp [-List.reduceReplicate] | (rename_i heq; split at heq <;> cases heq <;> simp)))
@[simp] theorem State.countNames_kept (s : State) :
    (State.countNames s).pending = s.pending ∧ (State.countNames s).wheel = s.wheel ∧ (State.countNames s).plan = s.plan ∧ (State.countNames s).rein = s.rein ∧ (State.countNames s).dram = s.dram ∧ (State.countNames s).dma = s.dma ∧ (State.countNames s).therm = s.therm ∧ (State.countNames s).img = s.img := by
  simp [State.countNames]
@[simp] theorem State.foldOrder_kept (s : State) :
    (State.foldOrder s).pending = s.pending ∧ (State.foldOrder s).wheel = s.wheel ∧ (State.foldOrder s).plan = s.plan ∧ (State.foldOrder s).rein = s.rein ∧ (State.foldOrder s).dram = s.dram ∧ (State.foldOrder s).dma = s.dma ∧ (State.foldOrder s).therm = s.therm ∧ (State.foldOrder s).img = s.img := by
  simp [State.foldOrder]
@[simp] theorem State.formRecs_kept (s : State) :
    (State.formRecs s).pending = s.pending ∧ (State.formRecs s).wheel = s.wheel ∧ (State.formRecs s).plan = s.plan ∧ (State.formRecs s).rein = s.rein ∧ (State.formRecs s).dram = s.dram ∧ (State.formRecs s).dma = s.dma ∧ (State.formRecs s).therm = s.therm ∧ (State.formRecs s).img = s.img := by
  simp [State.formRecs]
@[simp] theorem State.endOpenSets_kept (s : State) :
    (State.endOpenSets s).pending = s.pending ∧ (State.endOpenSets s).wheel = s.wheel ∧ (State.endOpenSets s).plan = s.plan ∧ (State.endOpenSets s).rein = s.rein ∧ (State.endOpenSets s).dram = s.dram ∧ (State.endOpenSets s).dma = s.dma ∧ (State.endOpenSets s).therm = s.therm ∧ (State.endOpenSets s).img = s.img := by
  simp [State.endOpenSets]
@[simp] theorem State.formRebuild_kept (s : State) :
    (State.formRebuild s).pending = s.pending ∧ (State.formRebuild s).wheel = s.wheel ∧ (State.formRebuild s).plan = s.plan ∧ (State.formRebuild s).rein = s.rein ∧ (State.formRebuild s).dram = s.dram ∧ (State.formRebuild s).dma = s.dma ∧ (State.formRebuild s).therm = s.therm ∧ (State.formRebuild s).img = s.img := by
  simp [State.formRebuild]
@[simp] theorem State.formBlocks_kept (s : State) :
    (State.formBlocks s).pending = s.pending ∧ (State.formBlocks s).wheel = s.wheel ∧ (State.formBlocks s).plan = s.plan ∧ (State.formBlocks s).rein = s.rein ∧ (State.formBlocks s).dram = s.dram ∧ (State.formBlocks s).dma = s.dma ∧ (State.formBlocks s).therm = s.therm ∧ (State.formBlocks s).img = s.img := by
  simp [State.formBlocks]
@[simp] theorem State.clearVolatile_kept (s : State) :
    (State.clearVolatile s).pending = s.pending ∧ (State.clearVolatile s).wheel = s.wheel ∧ (State.clearVolatile s).plan = s.plan ∧ (State.clearVolatile s).rein = s.rein ∧ (State.clearVolatile s).dram = s.dram ∧ (State.clearVolatile s).dma = s.dma ∧ (State.clearVolatile s).therm = s.therm ∧ (State.clearVolatile s).img = s.img := by
  simp [State.clearVolatile]
@[simp] theorem State.insertUnit_kept (s : State) (w : WbSlot) :
    (State.insertUnit s w).pending = s.pending ∧ (State.insertUnit s w).wheel = s.wheel ∧ (State.insertUnit s w).plan = s.plan ∧ (State.insertUnit s w).rein = s.rein ∧ (State.insertUnit s w).dram = s.dram ∧ (State.insertUnit s w).dma = s.dma ∧ (State.insertUnit s w).therm = s.therm ∧ (State.insertUnit s w).img = s.img := by
  unfold State.insertUnit; refine ⟨?_, ?_, ?_, ?_, ?_, ?_, ?_, ?_⟩ <;> (repeat' (first | (simp; done) | split | dsimp only | simp | grind only [→ State.takeSlot_fwd]))
@[simp] theorem State.loseUnit_kept (s : State) (w : WbSlot) :
    (State.loseUnit s w).pending = s.pending ∧ (State.loseUnit s w).wheel = s.wheel ∧ (State.loseUnit s w).plan = s.plan ∧ (State.loseUnit s w).rein = s.rein ∧ (State.loseUnit s w).dram = s.dram ∧ (State.loseUnit s w).dma = s.dma ∧ (State.loseUnit s w).therm = s.therm ∧ (State.loseUnit s w).img = s.img := by
  unfold State.loseUnit; refine ⟨?_, ?_, ?_, ?_, ?_, ?_, ?_, ?_⟩ <;> (repeat' (first | (simp; done) | split | dsimp only | simp | grind only [→ State.allocSeg_fwd]))
@[simp] theorem State.loadUnits_kept (s : State) :
    (State.loadUnits s).pending = s.pending ∧ (State.loadUnits s).wheel = s.wheel ∧ (State.loadUnits s).plan = s.plan ∧ (State.loadUnits s).rein = s.rein ∧ (State.loadUnits s).dram = s.dram ∧ (State.loadUnits s).dma = s.dma ∧ (State.loadUnits s).therm = s.therm ∧ (State.loadUnits s).img = s.img := by
  unfold State.loadUnits; split <;> simp
@[simp] theorem State.loadMeta_kept (s : State) :
    (State.loadMeta s).pending = s.pending ∧ (State.loadMeta s).wheel = s.wheel ∧ (State.loadMeta s).plan = s.plan ∧ (State.loadMeta s).rein = s.rein ∧ (State.loadMeta s).dram = s.dram ∧ (State.loadMeta s).dma = s.dma ∧ (State.loadMeta s).therm = s.therm ∧ (State.loadMeta s).img = s.img := by
  unfold State.loadMeta; split <;> simp
@[simp] theorem State.startRing_kept (s : State) :
    (State.startRing s).pending = s.pending ∧ (State.startRing s).wheel = s.wheel ∧ (State.startRing s).plan = s.plan ∧ (State.startRing s).rein = s.rein ∧ (State.startRing s).dram = s.dram ∧ (State.startRing s).dma = s.dma ∧ (State.startRing s).therm = s.therm ∧ (State.startRing s).img = s.img ∧ (State.startRing s).awl = s.awl ∧ (State.startRing s).codec = s.codec ∧ (State.startRing s).map = s.map ∧ (State.startRing s).blk = s.blk ∧ (State.startRing s).girth = s.girth ∧ (State.startRing s).wb = s.wb ∧ (State.startRing s).dump = s.dump ∧ (State.startRing s).cipher = s.cipher ∧ (State.startRing s).skv = s.skv ∧ (State.startRing s).mc = s.mc ∧ (State.startRing s).media = s.media := by
  simp [State.startRing]
@[simp] theorem State.restartCodes_kept (s : State) (girths : Nat) :
    (State.restartCodes s girths).pending = s.pending ∧ (State.restartCodes s girths).wheel = s.wheel ∧ (State.restartCodes s girths).plan = s.plan ∧ (State.restartCodes s girths).rein = s.rein ∧ (State.restartCodes s girths).dram = s.dram ∧ (State.restartCodes s girths).dma = s.dma ∧ (State.restartCodes s girths).therm = s.therm ∧ (State.restartCodes s girths).img = s.img := by
  simp [State.restartCodes]
@[simp] theorem State.resumeAt_kept (s : State) (n : Nat) (g : Nat) (at_ : Nat) (top : Nat) :
    (State.resumeAt s n g at_ top).pending = s.pending ∧ (State.resumeAt s n g at_ top).wheel = s.wheel ∧ (State.resumeAt s n g at_ top).plan = s.plan ∧ (State.resumeAt s n g at_ top).rein = s.rein ∧ (State.resumeAt s n g at_ top).dram = s.dram ∧ (State.resumeAt s n g at_ top).dma = s.dma ∧ (State.resumeAt s n g at_ top).therm = s.therm ∧ (State.resumeAt s n g at_ top).img = s.img := by
  simp [State.resumeAt]
@[simp] theorem State.resumeCounter_kept (s : State) (n : Nat) :
    (State.resumeCounter s n).pending = s.pending ∧ (State.resumeCounter s n).wheel = s.wheel ∧ (State.resumeCounter s n).plan = s.plan ∧ (State.resumeCounter s n).rein = s.rein ∧ (State.resumeCounter s n).dram = s.dram ∧ (State.resumeCounter s n).dma = s.dma ∧ (State.resumeCounter s n).therm = s.therm ∧ (State.resumeCounter s n).img = s.img := by
  simp [State.resumeCounter]
@[simp] theorem State.firstHold_kept (s : State) :
    (State.firstHold s).pending = s.pending ∧ (State.firstHold s).wheel = s.wheel ∧ (State.firstHold s).plan = s.plan ∧ (State.firstHold s).rein = s.rein ∧ (State.firstHold s).dram = s.dram ∧ (State.firstHold s).dma = s.dma ∧ (State.firstHold s).therm = s.therm ∧ (State.firstHold s).img = s.img := by
  unfold State.firstHold; refine ⟨?_, ?_, ?_, ?_, ?_, ?_, ?_, ?_⟩ <;> (repeat' (first | (simp [-List.reduceReplicate]; done) | (with_reducible refine Eq.trans (foldl_pending _ (fun s a => ?_) _ _) ?_) | (with_reducible refine Eq.trans (foldl_wheel _ (fun s a => ?_) _ _) ?_) | (with_reducible refine Eq.trans (foldl_plan _ (fun s a => ?_) _ _) ?_) | (with_reducible refine Eq.trans (foldl_rein _ (fun s a => ?_) _ _) ?_) | (with_reducible refine Eq.trans (foldl_dram _ (fun s a => ?_) _ _) ?_) | (with_reducible refine Eq.trans (foldl_dma _ (fun s a => ?_) _ _) ?_) | (with_reducible refine Eq.trans (foldl_therm _ (fun s a => ?_) _ _) ?_) | (with_reducible refine Eq.trans (foldl_img _ (fun s a => ?_) _ _) ?_) | (with_reducible refine Eq.trans (foldr_pending _ (fun a s => ?_) _ _) ?_) | (with_reducible refine Eq.trans (foldr_wheel _ (fun a s => ?_) _ _) ?_) | (with_reducible refine Eq.trans (foldr_plan _ (fun a s => ?_) _ _) ?_) | (with_reducible refine Eq.trans (foldr_rein _ (fun a s => ?_) _ _) ?_) | (with_reducible refine Eq.trans (foldr_dram _ (fun a s => ?_) _ _) ?_) | (with_reducible refine Eq.trans (foldr_dma _ (fun a s => ?_) _ _) ?_) | (with_reducible refine Eq.trans (foldr_therm _ (fun a s => ?_) _ _) ?_) | (with_reducible refine Eq.trans (foldr_img _ (fun a s => ?_) _ _) ?_) | split | dsimp only | simp [-List.reduceReplicate] | (rename_i heq; split at heq <;> cases heq <;> simp) | grind only [→ State.takeHold_fwd]))
@[simp] theorem State.beginHold_kept (s : State) :
    (State.beginHold s).pending = s.pending ∧ (State.beginHold s).wheel = s.wheel ∧ (State.beginHold s).plan = s.plan ∧ (State.beginHold s).rein = s.rein ∧ (State.beginHold s).dram = s.dram ∧ (State.beginHold s).dma = s.dma ∧ (State.beginHold s).therm = s.therm ∧ (State.beginHold s).img = s.img := by
  simp [State.beginHold]
@[simp] theorem State.restoreJobs_kept (s : State) :
    (State.restoreJobs s).pending = s.pending ∧ (State.restoreJobs s).wheel = s.wheel ∧ (State.restoreJobs s).plan = s.plan ∧ (State.restoreJobs s).rein = s.rein ∧ (State.restoreJobs s).dram = s.dram ∧ (State.restoreJobs s).dma = s.dma ∧ (State.restoreJobs s).therm = s.therm ∧ (State.restoreJobs s).img = s.img := by
  simp [State.restoreJobs]
@[simp] theorem State.emptyBlock_kept (s : State) (b : Nat) :
    (State.emptyBlock s b).pending = s.pending ∧ (State.emptyBlock s b).wheel = s.wheel ∧ (State.emptyBlock s b).plan = s.plan ∧ (State.emptyBlock s b).rein = s.rein ∧ (State.emptyBlock s b).dram = s.dram ∧ (State.emptyBlock s b).dma = s.dma ∧ (State.emptyBlock s b).therm = s.therm ∧ (State.emptyBlock s b).img = s.img := by
  simp [State.emptyBlock]
@[simp] theorem State.restoreEnds_kept (s : State) :
    (State.restoreEnds s).pending = s.pending ∧ (State.restoreEnds s).wheel = s.wheel ∧ (State.restoreEnds s).plan = s.plan ∧ (State.restoreEnds s).rein = s.rein ∧ (State.restoreEnds s).dram = s.dram ∧ (State.restoreEnds s).dma = s.dma ∧ (State.restoreEnds s).therm = s.therm ∧ (State.restoreEnds s).img = s.img := by
  simp [State.restoreEnds]
@[simp] theorem State.nextRestore_kept (s : State) :
    (State.nextRestore s).pending = s.pending ∧ (State.nextRestore s).wheel = s.wheel ∧ (State.nextRestore s).plan = s.plan ∧ (State.nextRestore s).rein = s.rein ∧ (State.nextRestore s).dram = s.dram ∧ (State.nextRestore s).dma = s.dma ∧ (State.nextRestore s).therm = s.therm ∧ (State.nextRestore s).img = s.img := by
  unfold State.nextRestore; refine ⟨?_, ?_, ?_, ?_, ?_, ?_, ?_, ?_⟩ <;> (repeat' (first | (simp; done) | split | dsimp only | simp))
@[simp] theorem State.repeatErases_kept (s : State) :
    (State.repeatErases s).pending = s.pending ∧ (State.repeatErases s).wheel = s.wheel ∧ (State.repeatErases s).plan = s.plan ∧ (State.repeatErases s).rein = s.rein ∧ (State.repeatErases s).dram = s.dram ∧ (State.repeatErases s).dma = s.dma ∧ (State.repeatErases s).therm = s.therm ∧ (State.repeatErases s).img = s.img := by
  simp [State.repeatErases]
@[simp] theorem State.admission_kept (s : State) :
    (State.admission s).pending = s.pending ∧ (State.admission s).wheel = s.wheel ∧ (State.admission s).plan = s.plan ∧ (State.admission s).rein = s.rein ∧ (State.admission s).dram = s.dram ∧ (State.admission s).dma = s.dma ∧ (State.admission s).therm = s.therm ∧ (State.admission s).img = s.img := by
  simp [State.admission]
@[simp] theorem State.consume_kept (s : State) :
    (State.consume s).pending = s.pending ∧ (State.consume s).wheel = s.wheel ∧ (State.consume s).plan = s.plan ∧ (State.consume s).rein = s.rein ∧ (State.consume s).dram = s.dram ∧ (State.consume s).dma = s.dma ∧ (State.consume s).therm = s.therm ∧ (State.consume s).img = s.img := by
  simp [State.consume]
@[simp] theorem State.scanAndLoad_kept (s : State) :
    (State.scanAndLoad s).pending = s.pending ∧ (State.scanAndLoad s).wheel = s.wheel ∧ (State.scanAndLoad s).plan = s.plan ∧ (State.scanAndLoad s).rein = s.rein ∧ (State.scanAndLoad s).dram = s.dram ∧ (State.scanAndLoad s).dma = s.dma ∧ (State.scanAndLoad s).therm = s.therm ∧ (State.scanAndLoad s).img = s.img := by
  simp [State.scanAndLoad]
@[simp] theorem State.readDump_kept (s : State) (found : Sys2Proof.RestartFound) :
    (State.readDump s found).pending = s.pending ∧ (State.readDump s found).wheel = s.wheel ∧ (State.readDump s found).plan = s.plan ∧ (State.readDump s found).rein = s.rein ∧ (State.readDump s found).dram = s.dram ∧ (State.readDump s found).dma = s.dma ∧ (State.readDump s found).therm = s.therm ∧ (State.readDump s found).img = s.img := by
  unfold State.readDump; split <;> simp
theorem execRestartStepDone_kept (found : Sys2Proof.RestartFound) (s : State) :
    ∃ t, execRestartStepDone found s = .next t ∧ t.pending = s.pending ∧ t.wheel = s.wheel ∧ t.plan = s.plan ∧ t.rein = s.rein ∧ t.dram = s.dram ∧ t.dma = s.dma ∧ t.therm = s.therm ∧ t.img = s.img := by
  unfold execRestartStepDone; (repeat' split) <;> (refine ⟨_, rfl, ?_⟩; simp)
theorem execSegmentRestoreDone_kept (seg : Nat) (lost : List Nat) (s : State) :
    ∃ t, execSegmentRestoreDone seg lost s = .next t ∧ t.pending = s.pending ∧ t.wheel = s.wheel ∧ t.plan = s.plan ∧ t.rein = s.rein ∧ t.dram = s.dram ∧ t.dma = s.dma ∧ t.therm = s.therm ∧ t.img = s.img := by
  unfold execSegmentRestoreDone; (repeat' split) <;> (refine ⟨_, rfl, ?_⟩; simp)

end Sys2Proof.Machine
end

