-- ==== Sys2Proof/Laws/KeptWheel.lean ====
section
/-! SUPPORT. What each function of Sys2Proof/Machine/Wheel.lean leaves unchanged: one lemma a function. -/
set_option linter.unusedTactic false
set_option linter.unreachableTactic false
set_option linter.unusedSimpArgs false
namespace Sys2Proof.Machine

@[simp] theorem State.wheelTo_kept (s : State) (m : WheelMode) (code : Nat) (sev : Nat) :
    (State.wheelTo s m code sev).pending = s.pending ∧ (State.wheelTo s m code sev).plan = s.plan ∧ (State.wheelTo s m code sev).rein = s.rein ∧ (State.wheelTo s m code sev).dram = s.dram ∧ (State.wheelTo s m code sev).dma = s.dma ∧ (State.wheelTo s m code sev).therm = s.therm ∧ (State.wheelTo s m code sev).img = s.img ∧ (State.wheelTo s m code sev).awl = s.awl ∧ (State.wheelTo s m code sev).codec = s.codec ∧ (State.wheelTo s m code sev).map = s.map ∧ (State.wheelTo s m code sev).blk = s.blk ∧ (State.wheelTo s m code sev).girth = s.girth ∧ (State.wheelTo s m code sev).wb = s.wb ∧ (State.wheelTo s m code sev).dump = s.dump ∧ (State.wheelTo s m code sev).cipher = s.cipher ∧ (State.wheelTo s m code sev).skv = s.skv ∧ (State.wheelTo s m code sev).mc = s.mc ∧ (State.wheelTo s m code sev).media = s.media := by
  simp [State.wheelTo]
@[simp] theorem State.toHoldover_kept (s : State) (code : Nat) :
    (State.toHoldover s code).pending = s.pending ∧ (State.toHoldover s code).plan = s.plan ∧ (State.toHoldover s code).rein = s.rein ∧ (State.toHoldover s code).dram = s.dram ∧ (State.toHoldover s code).dma = s.dma ∧ (State.toHoldover s code).therm = s.therm ∧ (State.toHoldover s code).img = s.img ∧ (State.toHoldover s code).awl = s.awl ∧ (State.toHoldover s code).codec = s.codec ∧ (State.toHoldover s code).map = s.map ∧ (State.toHoldover s code).blk = s.blk ∧ (State.toHoldover s code).girth = s.girth ∧ (State.toHoldover s code).wb = s.wb ∧ (State.toHoldover s code).dump = s.dump ∧ (State.toHoldover s code).cipher = s.cipher ∧ (State.toHoldover s code).skv = s.skv ∧ (State.toHoldover s code).mc = s.mc ∧ (State.toHoldover s code).media = s.media := by
  simp [State.toHoldover]
@[simp] theorem State.toLocked_kept (s : State) :
    (State.toLocked s).pending = s.pending ∧ (State.toLocked s).plan = s.plan ∧ (State.toLocked s).rein = s.rein ∧ (State.toLocked s).dram = s.dram ∧ (State.toLocked s).dma = s.dma ∧ (State.toLocked s).therm = s.therm ∧ (State.toLocked s).img = s.img ∧ (State.toLocked s).awl = s.awl ∧ (State.toLocked s).codec = s.codec ∧ (State.toLocked s).map = s.map ∧ (State.toLocked s).blk = s.blk ∧ (State.toLocked s).girth = s.girth ∧ (State.toLocked s).wb = s.wb ∧ (State.toLocked s).dump = s.dump ∧ (State.toLocked s).cipher = s.cipher ∧ (State.toLocked s).skv = s.skv ∧ (State.toLocked s).mc = s.mc ∧ (State.toLocked s).media = s.media := by
  simp [State.toLocked]
@[simp] theorem State.wheelSource_kept (s : State) :
    (State.wheelSource s).pending = s.pending ∧ (State.wheelSource s).plan = s.plan ∧ (State.wheelSource s).rein = s.rein ∧ (State.wheelSource s).dram = s.dram ∧ (State.wheelSource s).dma = s.dma ∧ (State.wheelSource s).therm = s.therm ∧ (State.wheelSource s).img = s.img ∧ (State.wheelSource s).awl = s.awl ∧ (State.wheelSource s).codec = s.codec ∧ (State.wheelSource s).map = s.map ∧ (State.wheelSource s).blk = s.blk ∧ (State.wheelSource s).girth = s.girth ∧ (State.wheelSource s).wb = s.wb ∧ (State.wheelSource s).dump = s.dump ∧ (State.wheelSource s).cipher = s.cipher ∧ (State.wheelSource s).skv = s.skv ∧ (State.wheelSource s).mc = s.mc ∧ (State.wheelSource s).media = s.media := by
  simp [State.wheelSource]
@[simp] theorem State.startWheel_kept (s : State) (c : WheelCfg) :
    (State.startWheel s c).pending = s.pending ∧ (State.startWheel s c).plan = s.plan ∧ (State.startWheel s c).rein = s.rein ∧ (State.startWheel s c).dram = s.dram ∧ (State.startWheel s c).dma = s.dma ∧ (State.startWheel s c).therm = s.therm ∧ (State.startWheel s c).img = s.img ∧ (State.startWheel s c).awl = s.awl ∧ (State.startWheel s c).codec = s.codec ∧ (State.startWheel s c).map = s.map ∧ (State.startWheel s c).blk = s.blk ∧ (State.startWheel s c).girth = s.girth ∧ (State.startWheel s c).wb = s.wb ∧ (State.startWheel s c).dump = s.dump ∧ (State.startWheel s c).cipher = s.cipher ∧ (State.startWheel s c).skv = s.skv ∧ (State.startWheel s c).mc = s.mc ∧ (State.startWheel s c).media = s.media := by
  simp [State.startWheel]
@[simp] theorem State.missedEdge_kept (s : State) :
    (State.missedEdge s).pending = s.pending ∧ (State.missedEdge s).plan = s.plan ∧ (State.missedEdge s).rein = s.rein ∧ (State.missedEdge s).dram = s.dram ∧ (State.missedEdge s).dma = s.dma ∧ (State.missedEdge s).therm = s.therm ∧ (State.missedEdge s).img = s.img ∧ (State.missedEdge s).awl = s.awl ∧ (State.missedEdge s).codec = s.codec ∧ (State.missedEdge s).map = s.map ∧ (State.missedEdge s).blk = s.blk ∧ (State.missedEdge s).girth = s.girth ∧ (State.missedEdge s).wb = s.wb ∧ (State.missedEdge s).dump = s.dump ∧ (State.missedEdge s).cipher = s.cipher ∧ (State.missedEdge s).skv = s.skv ∧ (State.missedEdge s).mc = s.mc ∧ (State.missedEdge s).media = s.media := by
  simp [State.missedEdge]
@[simp] theorem State.fastEdge_kept (s : State) :
    (State.fastEdge s).pending = s.pending ∧ (State.fastEdge s).plan = s.plan ∧ (State.fastEdge s).rein = s.rein ∧ (State.fastEdge s).dram = s.dram ∧ (State.fastEdge s).dma = s.dma ∧ (State.fastEdge s).therm = s.therm ∧ (State.fastEdge s).img = s.img ∧ (State.fastEdge s).awl = s.awl ∧ (State.fastEdge s).codec = s.codec ∧ (State.fastEdge s).map = s.map ∧ (State.fastEdge s).blk = s.blk ∧ (State.fastEdge s).girth = s.girth ∧ (State.fastEdge s).wb = s.wb ∧ (State.fastEdge s).dump = s.dump ∧ (State.fastEdge s).cipher = s.cipher ∧ (State.fastEdge s).skv = s.skv ∧ (State.fastEdge s).mc = s.mc ∧ (State.fastEdge s).media = s.media := by
  simp [State.fastEdge]
@[simp] theorem State.phaseLoop_kept (s : State) (err : Int) :
    (State.phaseLoop s err).pending = s.pending ∧ (State.phaseLoop s err).plan = s.plan ∧ (State.phaseLoop s err).rein = s.rein ∧ (State.phaseLoop s err).dram = s.dram ∧ (State.phaseLoop s err).dma = s.dma ∧ (State.phaseLoop s err).therm = s.therm ∧ (State.phaseLoop s err).img = s.img ∧ (State.phaseLoop s err).awl = s.awl ∧ (State.phaseLoop s err).codec = s.codec ∧ (State.phaseLoop s err).map = s.map ∧ (State.phaseLoop s err).blk = s.blk ∧ (State.phaseLoop s err).girth = s.girth ∧ (State.phaseLoop s err).wb = s.wb ∧ (State.phaseLoop s err).dump = s.dump ∧ (State.phaseLoop s err).cipher = s.cipher ∧ (State.phaseLoop s err).skv = s.skv ∧ (State.phaseLoop s err).mc = s.mc ∧ (State.phaseLoop s err).media = s.media := by
  simp [State.phaseLoop]
@[simp] theorem State.goodEdge_kept (s : State) (t : Nat) (masterNs : Nat) :
    (State.goodEdge s t masterNs).pending = s.pending ∧ (State.goodEdge s t masterNs).plan = s.plan ∧ (State.goodEdge s t masterNs).rein = s.rein ∧ (State.goodEdge s t masterNs).dram = s.dram ∧ (State.goodEdge s t masterNs).dma = s.dma ∧ (State.goodEdge s t masterNs).therm = s.therm ∧ (State.goodEdge s t masterNs).img = s.img ∧ (State.goodEdge s t masterNs).awl = s.awl ∧ (State.goodEdge s t masterNs).codec = s.codec ∧ (State.goodEdge s t masterNs).map = s.map ∧ (State.goodEdge s t masterNs).blk = s.blk ∧ (State.goodEdge s t masterNs).girth = s.girth ∧ (State.goodEdge s t masterNs).wb = s.wb ∧ (State.goodEdge s t masterNs).dump = s.dump ∧ (State.goodEdge s t masterNs).cipher = s.cipher ∧ (State.goodEdge s t masterNs).skv = s.skv ∧ (State.goodEdge s t masterNs).mc = s.mc ∧ (State.goodEdge s t masterNs).media = s.media := by
  unfold State.goodEdge; refine ⟨?_, ?_, ?_, ?_, ?_, ?_, ?_, ?_, ?_, ?_, ?_, ?_, ?_, ?_, ?_, ?_, ?_, ?_⟩ <;> (repeat' (first | (simp; done) | split | dsimp only | simp))
@[simp] theorem State.edge_kept (s : State) (t : Nat) (masterNs : Nat) (mayBeFast : Bool) :
    (State.edge s t masterNs mayBeFast).pending = s.pending ∧ (State.edge s t masterNs mayBeFast).plan = s.plan ∧ (State.edge s t masterNs mayBeFast).rein = s.rein ∧ (State.edge s t masterNs mayBeFast).dram = s.dram ∧ (State.edge s t masterNs mayBeFast).dma = s.dma ∧ (State.edge s t masterNs mayBeFast).therm = s.therm ∧ (State.edge s t masterNs mayBeFast).img = s.img ∧ (State.edge s t masterNs mayBeFast).awl = s.awl ∧ (State.edge s t masterNs mayBeFast).codec = s.codec ∧ (State.edge s t masterNs mayBeFast).map = s.map ∧ (State.edge s t masterNs mayBeFast).blk = s.blk ∧ (State.edge s t masterNs mayBeFast).girth = s.girth ∧ (State.edge s t masterNs mayBeFast).wb = s.wb ∧ (State.edge s t masterNs mayBeFast).dump = s.dump ∧ (State.edge s t masterNs mayBeFast).cipher = s.cipher ∧ (State.edge s t masterNs mayBeFast).skv = s.skv ∧ (State.edge s t masterNs mayBeFast).mc = s.mc ∧ (State.edge s t masterNs mayBeFast).media = s.media := by
  unfold State.edge; refine ⟨?_, ?_, ?_, ?_, ?_, ?_, ?_, ?_, ?_, ?_, ?_, ?_, ?_, ?_, ?_, ?_, ?_, ?_⟩ <;> (repeat' (first | (simp; done) | split | dsimp only | simp))
theorem execPaceEdge_kept (time : Nat) (highNs : Nat) (s : State) :
    ∃ t, execPaceEdge time highNs s = .next t ∧ t.pending = s.pending ∧ t.plan = s.plan ∧ t.rein = s.rein ∧ t.dram = s.dram ∧ t.dma = s.dma ∧ t.therm = s.therm ∧ t.img = s.img ∧ t.awl = s.awl ∧ t.codec = s.codec ∧ t.map = s.map ∧ t.blk = s.blk ∧ t.girth = s.girth ∧ t.wb = s.wb ∧ t.dump = s.dump ∧ t.cipher = s.cipher ∧ t.skv = s.skv ∧ t.mc = s.mc ∧ t.media = s.media := by
  unfold execPaceEdge; (repeat' split) <;> (refine ⟨_, rfl, ?_⟩; simp)
theorem execPtmExchangeDone_kept (rein : Sys2Proof.Rein) (completed : Bool) (time : Nat) (masterNs : Nat) (s : State) :
    ∃ t, execPtmExchangeDone rein completed time masterNs s = .next t ∧ t.pending = s.pending ∧ t.plan = s.plan ∧ t.dram = s.dram ∧ t.dma = s.dma ∧ t.therm = s.therm ∧ t.img = s.img ∧ t.awl = s.awl ∧ t.codec = s.codec ∧ t.map = s.map ∧ t.blk = s.blk ∧ t.girth = s.girth ∧ t.wb = s.wb ∧ t.dump = s.dump ∧ t.cipher = s.cipher ∧ t.skv = s.skv ∧ t.mc = s.mc ∧ t.media = s.media := by
  unfold execPtmExchangeDone; dsimp only; (repeat' split) <;> (refine ⟨_, rfl, ?_⟩; simp)
theorem execEdgeWindowClose_kept (s : State) :
    ∃ t, execEdgeWindowClose s = .next t ∧ t.pending = s.pending ∧ t.plan = s.plan ∧ t.rein = s.rein ∧ t.dram = s.dram ∧ t.dma = s.dma ∧ t.therm = s.therm ∧ t.img = s.img ∧ t.awl = s.awl ∧ t.codec = s.codec ∧ t.map = s.map ∧ t.blk = s.blk ∧ t.girth = s.girth ∧ t.wb = s.wb ∧ t.dump = s.dump ∧ t.cipher = s.cipher ∧ t.skv = s.skv ∧ t.mc = s.mc ∧ t.media = s.media := by
  unfold execEdgeWindowClose; (repeat' split) <;> (refine ⟨_, rfl, ?_⟩; simp)
theorem execHoldoverGuardExceeded_kept (s : State) :
    ∃ t, execHoldoverGuardExceeded s = .next t ∧ t.pending = s.pending ∧ t.plan = s.plan ∧ t.rein = s.rein ∧ t.dram = s.dram ∧ t.dma = s.dma ∧ t.therm = s.therm ∧ t.img = s.img ∧ t.awl = s.awl ∧ t.codec = s.codec ∧ t.map = s.map ∧ t.blk = s.blk ∧ t.girth = s.girth ∧ t.wb = s.wb ∧ t.dump = s.dump ∧ t.cipher = s.cipher ∧ t.skv = s.skv ∧ t.mc = s.mc ∧ t.media = s.media := by
  unfold execHoldoverGuardExceeded; (repeat' split) <;> (refine ⟨_, rfl, ?_⟩; simp)
theorem execFreqClampPersist_kept (s : State) :
    ∃ t, execFreqClampPersist s = .next t ∧ t.pending = s.pending ∧ t.plan = s.plan ∧ t.rein = s.rein ∧ t.dram = s.dram ∧ t.dma = s.dma ∧ t.therm = s.therm ∧ t.img = s.img ∧ t.awl = s.awl ∧ t.codec = s.codec ∧ t.map = s.map ∧ t.blk = s.blk ∧ t.girth = s.girth ∧ t.wb = s.wb ∧ t.dump = s.dump ∧ t.cipher = s.cipher ∧ t.skv = s.skv ∧ t.mc = s.mc ∧ t.media = s.media := by
  unfold execFreqClampPersist; (repeat' split) <;> (refine ⟨_, rfl, ?_⟩; simp)
@[simp] theorem State.reserveWt_kept (s : State) :
    (State.reserveWt s).pending = s.pending ∧ (State.reserveWt s).plan = s.plan ∧ (State.reserveWt s).rein = s.rein ∧ (State.reserveWt s).dram = s.dram ∧ (State.reserveWt s).dma = s.dma ∧ (State.reserveWt s).therm = s.therm ∧ (State.reserveWt s).img = s.img ∧ (State.reserveWt s).wheel.pins = s.wheel.pins ∧ (State.reserveWt s).awl = s.awl ∧ (State.reserveWt s).codec = s.codec ∧ (State.reserveWt s).map = s.map ∧ (State.reserveWt s).blk = s.blk ∧ (State.reserveWt s).girth = s.girth ∧ (State.reserveWt s).wb = s.wb ∧ (State.reserveWt s).dump = s.dump ∧ (State.reserveWt s).cipher = s.cipher ∧ (State.reserveWt s).skv = s.skv ∧ (State.reserveWt s).mc = s.mc ∧ (State.reserveWt s).media = s.media := by
  simp [State.reserveWt]
theorem execWtReserve_kept (s : State) :
    ∃ t, execWtReserve s = .next t ∧ t.pending = s.pending ∧ t.plan = s.plan ∧ t.rein = s.rein ∧ t.dram = s.dram ∧ t.dma = s.dma ∧ t.therm = s.therm ∧ t.img = s.img ∧ t.wheel.pins = s.wheel.pins ∧ t.awl = s.awl ∧ t.codec = s.codec ∧ t.map = s.map ∧ t.blk = s.blk ∧ t.girth = s.girth ∧ t.wb = s.wb ∧ t.dump = s.dump ∧ t.cipher = s.cipher ∧ t.skv = s.skv ∧ t.mc = s.mc ∧ t.media = s.media := by
  unfold execWtReserve; (repeat' split) <;> (refine ⟨_, rfl, ?_⟩; simp)
theorem execWheelStatus_kept (tag : Nat) (s : State) :
    ∃ t, execWheelStatus tag s = .next t ∧ t.pending = s.pending ∧ t.wheel = s.wheel ∧ t.plan = s.plan ∧ t.rein = s.rein ∧ t.dram = s.dram ∧ t.dma = s.dma ∧ t.therm = s.therm ∧ t.img = s.img ∧ t.awl = s.awl ∧ t.codec = s.codec ∧ t.map = s.map ∧ t.blk = s.blk ∧ t.girth = s.girth ∧ t.wb = s.wb ∧ t.dump = s.dump ∧ t.cipher = s.cipher ∧ t.skv = s.skv ∧ t.mc = s.mc ∧ t.media = s.media := by
  refine ⟨_, rfl, ?_⟩; simp

end Sys2Proof.Machine
end

