-- ==== Sys2Proof/Laws/KeptCipher.lean ====
section
/-! SUPPORT. What each function of Sys2Proof/Machine/Cipher.lean leaves unchanged: one lemma a function. -/
set_option linter.unusedTactic false
set_option linter.unreachableTactic false
set_option linter.unusedSimpArgs false
namespace Sys2Proof.Machine

@[simp] theorem State.getBuffer_kept (s : State) (tag : Nat) (c : Cmd) (current : Nat) (bareback : Nat) (saved : Nat) (caps : Nat) :
    (State.getBuffer s tag c current bareback saved caps).pending = s.pending ∧ (State.getBuffer s tag c current bareback saved caps).wheel = s.wheel ∧ (State.getBuffer s tag c current bareback saved caps).plan = s.plan ∧ (State.getBuffer s tag c current bareback saved caps).rein = s.rein ∧ (State.getBuffer s tag c current bareback saved caps).dram = s.dram ∧ (State.getBuffer s tag c current bareback saved caps).dma = s.dma ∧ (State.getBuffer s tag c current bareback saved caps).therm = s.therm ∧ (State.getBuffer s tag c current bareback saved caps).img = s.img ∧ (State.getBuffer s tag c current bareback saved caps).awl = s.awl ∧ (State.getBuffer s tag c current bareback saved caps).codec = s.codec ∧ (State.getBuffer s tag c current bareback saved caps).map = s.map ∧ (State.getBuffer s tag c current bareback saved caps).blk = s.blk ∧ (State.getBuffer s tag c current bareback saved caps).girth = s.girth ∧ (State.getBuffer s tag c current bareback saved caps).wb = s.wb ∧ (State.getBuffer s tag c current bareback saved caps).dump = s.dump ∧ (State.getBuffer s tag c current bareback saved caps).cipher = s.cipher ∧ (State.getBuffer s tag c current bareback saved caps).skv = s.skv ∧ (State.getBuffer s tag c current bareback saved caps).mc = s.mc ∧ (State.getBuffer s tag c current bareback saved caps).media = s.media := by
  unfold State.getBuffer; split <;> simp
@[simp] theorem State.cipherCmd_pending (s : State) (tag : Nat) (c : Cmd) (slotOk : Bool) (f : State) (h : f.pending = s.pending) :
    (State.cipherCmd s tag c slotOk f).pending = s.pending := by
  unfold State.cipherCmd; split
  · exact h
  · simp
@[simp] theorem State.cipherCmd_wheel (s : State) (tag : Nat) (c : Cmd) (slotOk : Bool) (f : State) (h : f.wheel = s.wheel) :
    (State.cipherCmd s tag c slotOk f).wheel = s.wheel := by
  unfold State.cipherCmd; split
  · exact h
  · simp
@[simp] theorem State.cipherCmd_plan (s : State) (tag : Nat) (c : Cmd) (slotOk : Bool) (f : State) (h : f.plan = s.plan) :
    (State.cipherCmd s tag c slotOk f).plan = s.plan := by
  unfold State.cipherCmd; split
  · exact h
  · simp
@[simp] theorem State.cipherCmd_rein (s : State) (tag : Nat) (c : Cmd) (slotOk : Bool) (f : State) (h : f.rein = s.rein) :
    (State.cipherCmd s tag c slotOk f).rein = s.rein := by
  unfold State.cipherCmd; split
  · exact h
  · simp
@[simp] theorem State.cipherCmd_dram (s : State) (tag : Nat) (c : Cmd) (slotOk : Bool) (f : State) (h : f.dram = s.dram) :
    (State.cipherCmd s tag c slotOk f).dram = s.dram := by
  unfold State.cipherCmd; split
  · exact h
  · simp
@[simp] theorem State.cipherCmd_dma (s : State) (tag : Nat) (c : Cmd) (slotOk : Bool) (f : State) (h : f.dma = s.dma) :
    (State.cipherCmd s tag c slotOk f).dma = s.dma := by
  unfold State.cipherCmd; split
  · exact h
  · simp
@[simp] theorem State.cipherCmd_therm (s : State) (tag : Nat) (c : Cmd) (slotOk : Bool) (f : State) (h : f.therm = s.therm) :
    (State.cipherCmd s tag c slotOk f).therm = s.therm := by
  unfold State.cipherCmd; split
  · exact h
  · simp
@[simp] theorem State.cipherCmd_img (s : State) (tag : Nat) (c : Cmd) (slotOk : Bool) (f : State) (h : f.img = s.img) :
    (State.cipherCmd s tag c slotOk f).img = s.img := by
  unfold State.cipherCmd; split
  · exact h
  · simp
@[simp] theorem State.cipherCmd_awl (s : State) (tag : Nat) (c : Cmd) (slotOk : Bool) (f : State) (h : f.awl = s.awl) :
    (State.cipherCmd s tag c slotOk f).awl = s.awl := by
  unfold State.cipherCmd; split
  · exact h
  · simp
@[simp] theorem State.cipherCmd_codec (s : State) (tag : Nat) (c : Cmd) (slotOk : Bool) (f : State) (h : f.codec = s.codec) :
    (State.cipherCmd s tag c slotOk f).codec = s.codec := by
  unfold State.cipherCmd; split
  · exact h
  · simp
@[simp] theorem State.cipherCmd_map (s : State) (tag : Nat) (c : Cmd) (slotOk : Bool) (f : State) (h : f.map = s.map) :
    (State.cipherCmd s tag c slotOk f).map = s.map := by
  unfold State.cipherCmd; split
  · exact h
  · simp
@[simp] theorem State.cipherCmd_blk (s : State) (tag : Nat) (c : Cmd) (slotOk : Bool) (f : State) (h : f.blk = s.blk) :
    (State.cipherCmd s tag c slotOk f).blk = s.blk := by
  unfold State.cipherCmd; split
  · exact h
  · simp
@[simp] theorem State.cipherCmd_girth (s : State) (tag : Nat) (c : Cmd) (slotOk : Bool) (f : State) (h : f.girth = s.girth) :
    (State.cipherCmd s tag c slotOk f).girth = s.girth := by
  unfold State.cipherCmd; split
  · exact h
  · simp
@[simp] theorem State.cipherCmd_wb (s : State) (tag : Nat) (c : Cmd) (slotOk : Bool) (f : State) (h : f.wb = s.wb) :
    (State.cipherCmd s tag c slotOk f).wb = s.wb := by
  unfold State.cipherCmd; split
  · exact h
  · simp
@[simp] theorem State.cipherCmd_dump (s : State) (tag : Nat) (c : Cmd) (slotOk : Bool) (f : State) (h : f.dump = s.dump) :
    (State.cipherCmd s tag c slotOk f).dump = s.dump := by
  unfold State.cipherCmd; split
  · exact h
  · simp
@[simp] theorem State.cipherCmd_cipher (s : State) (tag : Nat) (c : Cmd) (slotOk : Bool) (f : State) (h : f.cipher = s.cipher) :
    (State.cipherCmd s tag c slotOk f).cipher = s.cipher := by
  unfold State.cipherCmd; split
  · exact h
  · simp
@[simp] theorem State.cipherCmd_skv (s : State) (tag : Nat) (c : Cmd) (slotOk : Bool) (f : State) (h : f.skv = s.skv) :
    (State.cipherCmd s tag c slotOk f).skv = s.skv := by
  unfold State.cipherCmd; split
  · exact h
  · simp
@[simp] theorem State.cipherCmd_mc (s : State) (tag : Nat) (c : Cmd) (slotOk : Bool) (f : State) (h : f.mc = s.mc) :
    (State.cipherCmd s tag c slotOk f).mc = s.mc := by
  unfold State.cipherCmd; split
  · exact h
  · simp
@[simp] theorem State.cipherCmd_media (s : State) (tag : Nat) (c : Cmd) (slotOk : Bool) (f : State) (h : f.media = s.media) :
    (State.cipherCmd s tag c slotOk f).media = s.media := by
  unfold State.cipherCmd; split
  · exact h
  · simp
@[simp] theorem State.bindSet_kept (s : State) (tag : Nat) (c : Cmd) (buf : Nat) :
    (State.bindSet s tag c buf).pending = s.pending ∧ (State.bindSet s tag c buf).wheel = s.wheel ∧ (State.bindSet s tag c buf).plan = s.plan ∧ (State.bindSet s tag c buf).rein = s.rein ∧ (State.bindSet s tag c buf).dram = s.dram ∧ (State.bindSet s tag c buf).dma = s.dma ∧ (State.bindSet s tag c buf).therm = s.therm ∧ (State.bindSet s tag c buf).img = s.img ∧ (State.bindSet s tag c buf).awl = s.awl ∧ (State.bindSet s tag c buf).codec = s.codec ∧ (State.bindSet s tag c buf).map = s.map ∧ (State.bindSet s tag c buf).blk = s.blk ∧ (State.bindSet s tag c buf).girth = s.girth ∧ (State.bindSet s tag c buf).wb = s.wb ∧ (State.bindSet s tag c buf).dump = s.dump ∧ (State.bindSet s tag c buf).cipher = s.cipher ∧ (State.bindSet s tag c buf).skv = s.skv ∧ (State.bindSet s tag c buf).mc = s.mc ∧ (State.bindSet s tag c buf).media = s.media := by
  unfold State.bindSet; refine ⟨?_, ?_, ?_, ?_, ?_, ?_, ?_, ?_, ?_, ?_, ?_, ?_, ?_, ?_, ?_, ?_, ?_, ?_, ?_⟩ <;> (repeat' (first | (simp; done) | split | dsimp only | simp))
@[simp] theorem State.blobRefused_kept (s : State) (tag : Nat) (slot : Nat) (reason : Nat) :
    (State.blobRefused s tag slot reason).pending = s.pending ∧ (State.blobRefused s tag slot reason).wheel = s.wheel ∧ (State.blobRefused s tag slot reason).plan = s.plan ∧ (State.blobRefused s tag slot reason).rein = s.rein ∧ (State.blobRefused s tag slot reason).dram = s.dram ∧ (State.blobRefused s tag slot reason).dma = s.dma ∧ (State.blobRefused s tag slot reason).therm = s.therm ∧ (State.blobRefused s tag slot reason).img = s.img ∧ (State.blobRefused s tag slot reason).awl = s.awl ∧ (State.blobRefused s tag slot reason).codec = s.codec ∧ (State.blobRefused s tag slot reason).map = s.map ∧ (State.blobRefused s tag slot reason).blk = s.blk ∧ (State.blobRefused s tag slot reason).girth = s.girth ∧ (State.blobRefused s tag slot reason).wb = s.wb ∧ (State.blobRefused s tag slot reason).dump = s.dump ∧ (State.blobRefused s tag slot reason).cipher = s.cipher ∧ (State.blobRefused s tag slot reason).skv = s.skv ∧ (State.blobRefused s tag slot reason).mc = s.mc ∧ (State.blobRefused s tag slot reason).media = s.media := by
  simp [State.blobRefused]
@[simp] theorem State.blobWhole_kept (s : State) (tag : Nat) (slot : Nat) (blob : List Sys2Proof.Byte) :
    (State.blobWhole s tag slot blob).pending = s.pending ∧ (State.blobWhole s tag slot blob).wheel = s.wheel ∧ (State.blobWhole s tag slot blob).plan = s.plan ∧ (State.blobWhole s tag slot blob).rein = s.rein ∧ (State.blobWhole s tag slot blob).dram = s.dram ∧ (State.blobWhole s tag slot blob).dma = s.dma ∧ (State.blobWhole s tag slot blob).therm = s.therm ∧ (State.blobWhole s tag slot blob).img = s.img := by
  unfold State.blobWhole; split <;> simp
@[simp] theorem State.blobPart_kept (s : State) (tag : Nat) (c : Cmd) (buf : Nat) :
    (State.blobPart s tag c buf).pending = s.pending ∧ (State.blobPart s tag c buf).wheel = s.wheel ∧ (State.blobPart s tag c buf).plan = s.plan ∧ (State.blobPart s tag c buf).rein = s.rein ∧ (State.blobPart s tag c buf).dram = s.dram ∧ (State.blobPart s tag c buf).dma = s.dma ∧ (State.blobPart s tag c buf).therm = s.therm ∧ (State.blobPart s tag c buf).img = s.img := by
  simp [State.blobPart]
@[simp] theorem State.labelSet_kept (s : State) (tag : Nat) (slot : Nat) (l : BitVec 256) :
    (State.labelSet s tag slot l).pending = s.pending ∧ (State.labelSet s tag slot l).wheel = s.wheel ∧ (State.labelSet s tag slot l).plan = s.plan ∧ (State.labelSet s tag slot l).rein = s.rein ∧ (State.labelSet s tag slot l).dram = s.dram ∧ (State.labelSet s tag slot l).dma = s.dma ∧ (State.labelSet s tag slot l).therm = s.therm ∧ (State.labelSet s tag slot l).img = s.img := by
  simp [State.labelSet]
@[simp] theorem State.eraseSlot_kept (s : State) (tag : Nat) (slot : Nat) :
    (State.eraseSlot s tag slot).pending = s.pending ∧ (State.eraseSlot s tag slot).wheel = s.wheel ∧ (State.eraseSlot s tag slot).plan = s.plan ∧ (State.eraseSlot s tag slot).rein = s.rein ∧ (State.eraseSlot s tag slot).dram = s.dram ∧ (State.eraseSlot s tag slot).dma = s.dma ∧ (State.eraseSlot s tag slot).therm = s.therm ∧ (State.eraseSlot s tag slot).img = s.img := by
  simp [State.eraseSlot]
theorem execCipherRequestDone_kept (request : Nat) (pair : Nat) (outputsMatch : Bool) (s : State) :
    ∃ t, execCipherRequestDone request pair outputsMatch s = .next t ∧ t.pending = s.pending ∧ t.wheel = s.wheel ∧ t.plan = s.plan ∧ t.dram = s.dram ∧ t.dma = s.dma ∧ t.therm = s.therm ∧ t.img = s.img := by
  unfold execCipherRequestDone; (repeat' split) <;> (refine ⟨_, rfl, ?_⟩; simp)
theorem execSlotRewriteInstall_kept (slot : Nat) (s : State) :
    ∃ t, execSlotRewriteInstall slot s = .next t ∧ t.pending = s.pending ∧ t.wheel = s.wheel ∧ t.plan = s.plan ∧ t.rein = s.rein ∧ t.dram = s.dram ∧ t.dma = s.dma ∧ t.therm = s.therm ∧ t.img = s.img := by
  unfold execSlotRewriteInstall; (repeat' split) <;> (refine ⟨_, rfl, ?_⟩; simp)
theorem execCipherBindSet_kept (tag : Nat) (buf : BitVec 256) (s : State) :
    ∃ t, execCipherBindSet tag buf s = .next t ∧ t.pending = s.pending ∧ t.wheel = s.wheel ∧ t.plan = s.plan ∧ t.rein = s.rein ∧ t.dram = s.dram ∧ t.dma = s.dma ∧ t.therm = s.therm ∧ t.img = s.img ∧ t.awl = s.awl ∧ t.codec = s.codec ∧ t.map = s.map ∧ t.blk = s.blk ∧ t.girth = s.girth ∧ t.wb = s.wb ∧ t.dump = s.dump ∧ t.cipher = s.cipher ∧ t.skv = s.skv ∧ t.mc = s.mc ∧ t.media = s.media := by
  refine ⟨_, rfl, ?_⟩; simp
@[simp] theorem State.bindGet_kept (s : State) (tag : Nat) (c : Cmd) :
    (State.bindGet s tag c).pending = s.pending ∧ (State.bindGet s tag c).wheel = s.wheel ∧ (State.bindGet s tag c).plan = s.plan ∧ (State.bindGet s tag c).rein = s.rein ∧ (State.bindGet s tag c).dram = s.dram ∧ (State.bindGet s tag c).dma = s.dma ∧ (State.bindGet s tag c).therm = s.therm ∧ (State.bindGet s tag c).img = s.img ∧ (State.bindGet s tag c).awl = s.awl ∧ (State.bindGet s tag c).codec = s.codec ∧ (State.bindGet s tag c).map = s.map ∧ (State.bindGet s tag c).blk = s.blk ∧ (State.bindGet s tag c).girth = s.girth ∧ (State.bindGet s tag c).wb = s.wb ∧ (State.bindGet s tag c).dump = s.dump ∧ (State.bindGet s tag c).cipher = s.cipher ∧ (State.bindGet s tag c).skv = s.skv ∧ (State.bindGet s tag c).mc = s.mc ∧ (State.bindGet s tag c).media = s.media := by
  unfold State.bindGet; split <;> simp
theorem execCipherBindGet_kept (tag : Nat) (s : State) :
    ∃ t, execCipherBindGet tag s = .next t ∧ t.pending = s.pending ∧ t.wheel = s.wheel ∧ t.plan = s.plan ∧ t.rein = s.rein ∧ t.dram = s.dram ∧ t.dma = s.dma ∧ t.therm = s.therm ∧ t.img = s.img ∧ t.awl = s.awl ∧ t.codec = s.codec ∧ t.map = s.map ∧ t.blk = s.blk ∧ t.girth = s.girth ∧ t.wb = s.wb ∧ t.dump = s.dump ∧ t.cipher = s.cipher ∧ t.skv = s.skv ∧ t.mc = s.mc ∧ t.media = s.media := by
  refine ⟨_, rfl, ?_⟩; simp
theorem execCipherBlobPart_kept (tag : Nat) (buf : BitVec 256) (s : State) :
    ∃ t, execCipherBlobPart tag buf s = .next t ∧ t.pending = s.pending ∧ t.wheel = s.wheel ∧ t.plan = s.plan ∧ t.rein = s.rein ∧ t.dram = s.dram ∧ t.dma = s.dma ∧ t.therm = s.therm ∧ t.img = s.img := by
  refine ⟨_, rfl, ?_⟩; simp
theorem execCipherErase_kept (tag : Nat) (s : State) :
    ∃ t, execCipherErase tag s = .next t ∧ t.pending = s.pending ∧ t.wheel = s.wheel ∧ t.plan = s.plan ∧ t.rein = s.rein ∧ t.dram = s.dram ∧ t.dma = s.dma ∧ t.therm = s.therm ∧ t.img = s.img := by
  refine ⟨_, rfl, ?_⟩; simp
theorem execCipherLabel_kept (tag : Nat) (buf : BitVec 256) (s : State) :
    ∃ t, execCipherLabel tag buf s = .next t ∧ t.pending = s.pending ∧ t.wheel = s.wheel ∧ t.plan = s.plan ∧ t.rein = s.rein ∧ t.dram = s.dram ∧ t.dma = s.dma ∧ t.therm = s.therm ∧ t.img = s.img := by
  refine ⟨_, rfl, ?_⟩; simp
theorem execCipherStatus_kept (tag : Nat) (s : State) :
    ∃ t, execCipherStatus tag s = .next t ∧ t.pending = s.pending ∧ t.wheel = s.wheel ∧ t.plan = s.plan ∧ t.rein = s.rein ∧ t.dram = s.dram ∧ t.dma = s.dma ∧ t.therm = s.therm ∧ t.img = s.img ∧ t.awl = s.awl ∧ t.codec = s.codec ∧ t.map = s.map ∧ t.blk = s.blk ∧ t.girth = s.girth ∧ t.wb = s.wb ∧ t.dump = s.dump ∧ t.cipher = s.cipher ∧ t.skv = s.skv ∧ t.mc = s.mc ∧ t.media = s.media := by
  refine ⟨_, rfl, ?_⟩; simp
@[simp] theorem State.keyedCheck_kept (s : State) (tag : Nat) (c : Cmd) (data : List Sys2Proof.Byte) :
    (State.keyedCheck s tag c data).pending = s.pending ∧ (State.keyedCheck s tag c data).wheel = s.wheel ∧ (State.keyedCheck s tag c data).plan = s.plan ∧ (State.keyedCheck s tag c data).rein = s.rein ∧ (State.keyedCheck s tag c data).dram = s.dram ∧ (State.keyedCheck s tag c data).dma = s.dma ∧ (State.keyedCheck s tag c data).therm = s.therm ∧ (State.keyedCheck s tag c data).img = s.img := by
  simp [State.keyedCheck]
theorem execKeyedCheckCompute_kept (tag : Nat) (data : List Sys2Proof.Byte) (s : State) :
    ∃ t, execKeyedCheckCompute tag data s = .next t ∧ t.pending = s.pending ∧ t.wheel = s.wheel ∧ t.plan = s.plan ∧ t.rein = s.rein ∧ t.dram = s.dram ∧ t.dma = s.dma ∧ t.therm = s.therm ∧ t.img = s.img := by
  refine ⟨_, rfl, ?_⟩; simp
theorem execKeyedCheckVerify_kept (tag : Nat) (data : List Sys2Proof.Byte) (s : State) :
    ∃ t, execKeyedCheckVerify tag data s = .next t ∧ t.pending = s.pending ∧ t.wheel = s.wheel ∧ t.plan = s.plan ∧ t.rein = s.rein ∧ t.dram = s.dram ∧ t.dma = s.dma ∧ t.therm = s.therm ∧ t.img = s.img := by
  refine ⟨_, rfl, ?_⟩; simp
@[simp] theorem State.tackLease_kept (s : State) (tag : Nat) (packet : BitVec 512) :
    (State.tackLease s tag packet).pending = s.pending ∧ (State.tackLease s tag packet).wheel = s.wheel ∧ (State.tackLease s tag packet).plan = s.plan ∧ (State.tackLease s tag packet).dram = s.dram ∧ (State.tackLease s tag packet).dma = s.dma ∧ (State.tackLease s tag packet).therm = s.therm ∧ (State.tackLease s tag packet).img = s.img := by
  simp [State.tackLease]
theorem execTackLease_kept (tag : Nat) (packet : BitVec 512) (s : State) :
    ∃ t, execTackLease tag packet s = .next t ∧ t.pending = s.pending ∧ t.wheel = s.wheel ∧ t.plan = s.plan ∧ t.dram = s.dram ∧ t.dma = s.dma ∧ t.therm = s.therm ∧ t.img = s.img := by
  refine ⟨_, rfl, ?_⟩; simp

end Sys2Proof.Machine
end

