-- ==== Sys2Proof/Laws/KeptBoot.lean ====
section
/-! SUPPORT. What each function of Sys2Proof/Machine/Boot.lean leaves unchanged: one lemma a function. -/
set_option linter.unusedTactic false
set_option linter.unreachableTactic false
set_option linter.unusedSimpArgs false
namespace Sys2Proof.Machine

theorem execPowerOnReset_kept (straps : Sys2Proof.Straps) (s : State) :
    ∃ t, execPowerOnReset straps s = .next t ∧ t.pending = s.pending := by
  refine ⟨_, rfl, ?_⟩; simp
@[simp] theorem State.enterHalter_kept (s : State) (reason : Nat) :
    (State.enterHalter s reason).pending = s.pending ∧ (State.enterHalter s reason).wheel = s.wheel ∧ (State.enterHalter s reason).plan = s.plan ∧ (State.enterHalter s reason).rein = s.rein ∧ (State.enterHalter s reason).dram = s.dram ∧ (State.enterHalter s reason).dma = s.dma ∧ (State.enterHalter s reason).therm = s.therm ∧ (State.enterHalter s reason).awl = s.awl ∧ (State.enterHalter s reason).codec = s.codec ∧ (State.enterHalter s reason).map = s.map ∧ (State.enterHalter s reason).blk = s.blk ∧ (State.enterHalter s reason).girth = s.girth ∧ (State.enterHalter s reason).wb = s.wb ∧ (State.enterHalter s reason).dump = s.dump ∧ (State.enterHalter s reason).cipher = s.cipher ∧ (State.enterHalter s reason).skv = s.skv ∧ (State.enterHalter s reason).mc = s.mc ∧ (State.enterHalter s reason).media = s.media := by
  simp [State.enterHalter]
@[simp] theorem State.halterReady_kept (s : State) :
    (State.halterReady s).pending = s.pending ∧ (State.halterReady s).wheel = s.wheel ∧ (State.halterReady s).plan = s.plan ∧ (State.halterReady s).rein = s.rein ∧ (State.halterReady s).dram = s.dram ∧ (State.halterReady s).dma = s.dma ∧ (State.halterReady s).therm = s.therm ∧ (State.halterReady s).img = s.img ∧ (State.halterReady s).awl = s.awl ∧ (State.halterReady s).codec = s.codec ∧ (State.halterReady s).map = s.map ∧ (State.halterReady s).blk = s.blk ∧ (State.halterReady s).girth = s.girth ∧ (State.halterReady s).wb = s.wb ∧ (State.halterReady s).dump = s.dump ∧ (State.halterReady s).cipher = s.cipher ∧ (State.halterReady s).skv = s.skv ∧ (State.halterReady s).mc = s.mc ∧ (State.halterReady s).media = s.media := by
  simp [State.halterReady]
@[simp] theorem State.enterHalterLate_kept (s : State) (reason : Nat) :
    (State.enterHalterLate s reason).pending = s.pending ∧ (State.enterHalterLate s reason).plan = s.plan ∧ (State.enterHalterLate s reason).rein = s.rein ∧ (State.enterHalterLate s reason).dram = s.dram ∧ (State.enterHalterLate s reason).dma = s.dma ∧ (State.enterHalterLate s reason).therm = s.therm ∧ (State.enterHalterLate s reason).awl = s.awl ∧ (State.enterHalterLate s reason).codec = s.codec ∧ (State.enterHalterLate s reason).map = s.map ∧ (State.enterHalterLate s reason).blk = s.blk ∧ (State.enterHalterLate s reason).girth = s.girth ∧ (State.enterHalterLate s reason).wb = s.wb ∧ (State.enterHalterLate s reason).dump = s.dump ∧ (State.enterHalterLate s reason).cipher = s.cipher ∧ (State.enterHalterLate s reason).skv = s.skv ∧ (State.enterHalterLate s reason).mc = s.mc ∧ (State.enterHalterLate s reason).media = s.media := by
  simp [State.enterHalterLate]
@[simp] theorem State.keeperFence_kept (s : State) (r : Sys2Proof.Rein) :
    (State.keeperFence s r).pending = s.pending ∧ (State.keeperFence s r).wheel = s.wheel ∧ (State.keeperFence s r).plan = s.plan ∧ (State.keeperFence s r).dram = s.dram ∧ (State.keeperFence s r).dma = s.dma ∧ (State.keeperFence s r).therm = s.therm ∧ (State.keeperFence s r).img = s.img := by
  simp [State.keeperFence]
@[simp] theorem State.loadFeatures_kept (s : State) (defaults : Option Nat) (savedWheel : Bool) :
    (State.loadFeatures s defaults savedWheel).pending = s.pending ∧ (State.loadFeatures s defaults savedWheel).plan = s.plan ∧ (State.loadFeatures s defaults savedWheel).dram = s.dram ∧ (State.loadFeatures s defaults savedWheel).dma = s.dma ∧ (State.loadFeatures s defaults savedWheel).img = s.img := by
  simp [State.loadFeatures]
@[simp] theorem State.takeImage_kept (s : State) :
    (State.takeImage s).pending = s.pending ∧ (State.takeImage s).plan = s.plan ∧ (State.takeImage s).dram = s.dram ∧ (State.takeImage s).dma = s.dma := by
  unfold State.takeImage; refine ⟨?_, ?_, ?_, ?_⟩ <;> (repeat' (first | (simp; done) | split | dsimp only | simp))
@[simp] theorem State.endShadow_kept (s : State) :
    (State.endShadow s).pending = s.pending ∧ (State.endShadow s).plan = s.plan ∧ (State.endShadow s).rein = s.rein ∧ (State.endShadow s).dram = s.dram ∧ (State.endShadow s).dma = s.dma ∧ (State.endShadow s).therm = s.therm ∧ (State.endShadow s).img = s.img ∧ (State.endShadow s).wheel.pins = s.wheel.pins ∧ (State.endShadow s).awl = s.awl ∧ (State.endShadow s).codec = s.codec ∧ (State.endShadow s).map = s.map ∧ (State.endShadow s).blk = s.blk ∧ (State.endShadow s).girth = s.girth ∧ (State.endShadow s).wb = s.wb ∧ (State.endShadow s).dump = s.dump ∧ (State.endShadow s).cipher = s.cipher ∧ (State.endShadow s).skv = s.skv ∧ (State.endShadow s).mc = s.mc ∧ (State.endShadow s).media = s.media := by
  simp [State.endShadow]
@[simp] theorem State.bootImage_kept (s : State) (found : Sys2Proof.BootFound) :
    (State.bootImage s found).pending = s.pending ∧ (State.bootImage s found).plan = s.plan ∧ (State.bootImage s found).dram = s.dram ∧ (State.bootImage s found).dma = s.dma := by
  unfold State.bootImage; (repeat' split) <;> simp
@[simp] theorem State.seedDram_kept (s : State) :
    (State.seedDram s).pending = s.pending ∧ (State.seedDram s).wheel = s.wheel ∧ (State.seedDram s).plan = s.plan ∧ (State.seedDram s).rein = s.rein ∧ (State.seedDram s).dma = s.dma ∧ (State.seedDram s).therm = s.therm ∧ (State.seedDram s).img = s.img := by
  simp [State.seedDram]
@[simp] theorem State.bootDram_kept (s : State) (found : Sys2Proof.BootFound) :
    (State.bootDram s found).pending = s.pending ∧ (State.bootDram s found).plan = s.plan ∧ (State.bootDram s found).rein = s.rein ∧ (State.bootDram s found).dma = s.dma ∧ (State.bootDram s found).therm = s.therm := by
  unfold State.bootDram; refine ⟨?_, ?_, ?_, ?_, ?_⟩ <;> (repeat' (first | (simp; done) | split | dsimp only | simp))
@[simp] theorem State.loadPlans_kept (s : State) :
    (State.loadPlans s).pending = s.pending ∧ (State.loadPlans s).wheel = s.wheel ∧ (State.loadPlans s).rein = s.rein ∧ (State.loadPlans s).dram = s.dram ∧ (State.loadPlans s).dma = s.dma ∧ (State.loadPlans s).therm = s.therm ∧ (State.loadPlans s).awl = s.awl ∧ (State.loadPlans s).codec = s.codec ∧ (State.loadPlans s).map = s.map ∧ (State.loadPlans s).blk = s.blk ∧ (State.loadPlans s).girth = s.girth ∧ (State.loadPlans s).wb = s.wb ∧ (State.loadPlans s).dump = s.dump ∧ (State.loadPlans s).cipher = s.cipher ∧ (State.loadPlans s).skv = s.skv ∧ (State.loadPlans s).mc = s.mc ∧ (State.loadPlans s).media = s.media := by
  simp [State.loadPlans]
@[simp] theorem State.unwrapSlot_kept (s : State) (n : Nat) :
    (State.unwrapSlot s n).pending = s.pending ∧ (State.unwrapSlot s n).wheel = s.wheel ∧ (State.unwrapSlot s n).plan = s.plan ∧ (State.unwrapSlot s n).rein = s.rein ∧ (State.unwrapSlot s n).dram = s.dram ∧ (State.unwrapSlot s n).dma = s.dma ∧ (State.unwrapSlot s n).therm = s.therm ∧ (State.unwrapSlot s n).img = s.img := by
  unfold State.unwrapSlot; split <;> simp
@[simp] theorem State.bootKeys_kept (s : State) (unreadable : List Nat) :
    (State.bootKeys s unreadable).pending = s.pending ∧ (State.bootKeys s unreadable).wheel = s.wheel ∧ (State.bootKeys s unreadable).plan = s.plan ∧ (State.bootKeys s unreadable).rein = s.rein ∧ (State.bootKeys s unreadable).dram = s.dram ∧ (State.bootKeys s unreadable).dma = s.dma ∧ (State.bootKeys s unreadable).therm = s.therm ∧ (State.bootKeys s unreadable).img = s.img := by
  unfold State.bootKeys; refine ⟨?_, ?_, ?_, ?_, ?_, ?_, ?_, ?_⟩ <;> (repeat' (first | (simp; done) | split | dsimp only | simp))
@[simp] theorem State.bootLabels_kept (s : State) :
    (State.bootLabels s).pending = s.pending ∧ (State.bootLabels s).wheel = s.wheel ∧ (State.bootLabels s).plan = s.plan ∧ (State.bootLabels s).rein = s.rein ∧ (State.bootLabels s).dram = s.dram ∧ (State.bootLabels s).dma = s.dma ∧ (State.bootLabels s).therm = s.therm ∧ (State.bootLabels s).img = s.img := by
  simp [State.bootLabels]
@[simp] theorem State.bootEngines_kept (s : State) (found : Sys2Proof.BootFound) :
    (State.bootEngines s found).pending = s.pending ∧ (State.bootEngines s found).wheel = s.wheel ∧ (State.bootEngines s found).plan = s.plan ∧ (State.bootEngines s found).rein = s.rein ∧ (State.bootEngines s found).dram = s.dram ∧ (State.bootEngines s found).dma = s.dma ∧ (State.bootEngines s found).therm = s.therm ∧ (State.bootEngines s found).img = s.img := by
  simp [State.bootEngines]
@[simp] theorem State.startDies_kept (s : State) :
    (State.startDies s).pending = s.pending ∧ (State.startDies s).wheel = s.wheel ∧ (State.startDies s).plan = s.plan ∧ (State.startDies s).rein = s.rein ∧ (State.startDies s).dram = s.dram ∧ (State.startDies s).dma = s.dma ∧ (State.startDies s).therm = s.therm ∧ (State.startDies s).img = s.img := by
  unfold State.startDies; refine ⟨?_, ?_, ?_, ?_, ?_, ?_, ?_, ?_⟩ <;> (repeat' (first | (simp [-List.reduceReplicate]; done) | (with_reducible refine Eq.trans (foldl_pending _ (fun s a => ?_) _ _) ?_) | (with_reducible refine Eq.trans (foldl_wheel _ (fun s a => ?_) _ _) ?_) | (with_reducible refine Eq.trans (foldl_plan _ (fun s a => ?_) _ _) ?_) | (with_reducible refine Eq.trans (foldl_rein _ (fun s a => ?_) _ _) ?_) | (with_reducible refine Eq.trans (foldl_dram _ (fun s a => ?_) _ _) ?_) | (with_reducible refine Eq.trans (foldl_dma _ (fun s a => ?_) _ _) ?_) | (with_reducible refine Eq.trans (foldl_therm _ (fun s a => ?_) _ _) ?_) | (with_reducible refine Eq.trans (foldl_img _ (fun s a => ?_) _ _) ?_) | (with_reducible refine Eq.trans (foldr_pending _ (fun a s => ?_) _ _) ?_) | (with_reducible refine Eq.trans (foldr_wheel _ (fun a s => ?_) _ _) ?_) | (with_reducible refine Eq.trans (foldr_plan _ (fun a s => ?_) _ _) ?_) | (with_reducible refine Eq.trans (foldr_rein _ (fun a s => ?_) _ _) ?_) | (with_reducible refine Eq.trans (foldr_dram _ (fun a s => ?_) _ _) ?_) | (with_reducible refine Eq.trans (foldr_dma _ (fun a s => ?_) _ _) ?_) | (with_reducible refine Eq.trans (foldr_therm _ (fun a s => ?_) _ _) ?_) | (with_reducible refine Eq.trans (foldr_img _ (fun a s => ?_) _ _) ?_) | split | dsimp only | simp [-List.reduceReplicate] | (rename_i heq; split at heq <;> cases heq <;> simp)))
@[simp] theorem State.startChannels_kept (s : State) :
    (State.startChannels s).pending = s.pending ∧ (State.startChannels s).wheel = s.wheel ∧ (State.startChannels s).plan = s.plan ∧ (State.startChannels s).rein = s.rein ∧ (State.startChannels s).dram = s.dram ∧ (State.startChannels s).dma = s.dma ∧ (State.startChannels s).therm = s.therm ∧ (State.startChannels s).img = s.img := by
  simp [State.startChannels]
@[simp] theorem State.restoreChan_kept (s : State) (c : Nat) :
    (State.restoreChan s c).pending = s.pending ∧ (State.restoreChan s c).wheel = s.wheel ∧ (State.restoreChan s c).plan = s.plan ∧ (State.restoreChan s c).rein = s.rein ∧ (State.restoreChan s c).dram = s.dram ∧ (State.restoreChan s c).dma = s.dma ∧ (State.restoreChan s c).therm = s.therm ∧ (State.restoreChan s c).img = s.img := by
  simp [State.restoreChan]
@[simp] theorem State.beginStep_kept (s : State) (c : Nat) (k : Nat) :
    (State.beginStep s c k).pending = s.pending ∧ (State.beginStep s c k).wheel = s.wheel ∧ (State.beginStep s c k).plan = s.plan ∧ (State.beginStep s c k).rein = s.rein ∧ (State.beginStep s c k).dram = s.dram ∧ (State.beginStep s c k).dma = s.dma ∧ (State.beginStep s c k).therm = s.therm ∧ (State.beginStep s c k).img = s.img := by
  simp [State.beginStep]
@[simp] theorem State.reachStep_kept (s : State) (c : Nat) (k : Nat) :
    (State.reachStep s c k).pending = s.pending ∧ (State.reachStep s c k).wheel = s.wheel ∧ (State.reachStep s c k).plan = s.plan ∧ (State.reachStep s c k).rein = s.rein ∧ (State.reachStep s c k).dram = s.dram ∧ (State.reachStep s c k).dma = s.dma ∧ (State.reachStep s c k).therm = s.therm ∧ (State.reachStep s c k).img = s.img := by
  simp [State.reachStep]
@[simp] theorem State.failTargets_kept (s : State) (c : Nat) (ts : List Nat) :
    (State.failTargets s c ts).pending = s.pending ∧ (State.failTargets s c ts).wheel = s.wheel ∧ (State.failTargets s c ts).plan = s.plan ∧ (State.failTargets s c ts).rein = s.rein ∧ (State.failTargets s c ts).dram = s.dram ∧ (State.failTargets s c ts).dma = s.dma ∧ (State.failTargets s c ts).therm = s.therm ∧ (State.failTargets s c ts).img = s.img := by
  simp [State.failTargets]
@[simp] theorem State.rateReached_kept (s : State) (c : Nat) (r : Nat) :
    (State.rateReached s c r).pending = s.pending ∧ (State.rateReached s c r).wheel = s.wheel ∧ (State.rateReached s c r).plan = s.plan ∧ (State.rateReached s c r).rein = s.rein ∧ (State.rateReached s c r).dram = s.dram ∧ (State.rateReached s c r).dma = s.dma ∧ (State.rateReached s c r).therm = s.therm ∧ (State.rateReached s c r).img = s.img := by
  simp [State.rateReached]
@[simp] theorem State.channelUp_kept (s : State) (found : Sys2Proof.BootFound) (c : Nat) :
    (State.channelUp s found c).pending = s.pending ∧ (State.channelUp s found c).wheel = s.wheel ∧ (State.channelUp s found c).plan = s.plan ∧ (State.channelUp s found c).rein = s.rein ∧ (State.channelUp s found c).dram = s.dram ∧ (State.channelUp s found c).dma = s.dma ∧ (State.channelUp s found c).therm = s.therm ∧ (State.channelUp s found c).img = s.img := by
  unfold State.channelUp; (repeat' split) <;> simp
@[simp] theorem State.barebackPage_kept (s : State) (found : Sys2Proof.BootFound) :
    (State.barebackPage s found).pending = s.pending ∧ (State.barebackPage s found).wheel = s.wheel ∧ (State.barebackPage s found).rein = s.rein ∧ (State.barebackPage s found).dram = s.dram ∧ (State.barebackPage s found).dma = s.dma ∧ (State.barebackPage s found).therm = s.therm := by
  simp [State.barebackPage]
@[simp] theorem State.bootChannels_kept (s : State) (found : Sys2Proof.BootFound) :
    (State.bootChannels s found).pending = s.pending ∧ (State.bootChannels s found).wheel = s.wheel ∧ (State.bootChannels s found).rein = s.rein ∧ (State.bootChannels s found).dram = s.dram ∧ (State.bootChannels s found).dma = s.dma ∧ (State.bootChannels s found).therm = s.therm := by
  simp [State.bootChannels]
theorem execBootStepDone_kept (found : Sys2Proof.BootFound) (s : State) :
    ∃ t, execBootStepDone found s = .next t ∧ t.pending = s.pending ∧ t.dma = s.dma := by
  unfold execBootStepDone; (repeat' split) <;> (refine ⟨_, rfl, ?_⟩; simp)
theorem execChannelStartupStepTimeout_kept (ch : Nat) (step : Nat) (targets : List Nat) (trainedAtLower : Option Nat) (s : State) :
    ∃ t, execChannelStartupStepTimeout ch step targets trainedAtLower s = .next t ∧ t.pending = s.pending ∧ t.wheel = s.wheel ∧ t.plan = s.plan ∧ t.rein = s.rein ∧ t.dram = s.dram ∧ t.dma = s.dma ∧ t.therm = s.therm ∧ t.img = s.img := by
  unfold execChannelStartupStepTimeout; (repeat' split) <;> (refine ⟨_, rfl, ?_⟩; simp)
theorem execFlashRateTraining_kept (ch : Nat) (rate : Nat) (passed : Bool) (s : State) :
    ∃ t, execFlashRateTraining ch rate passed s = .next t ∧ t.pending = s.pending ∧ t.wheel = s.wheel ∧ t.plan = s.plan ∧ t.rein = s.rein ∧ t.dram = s.dram ∧ t.dma = s.dma ∧ t.therm = s.therm ∧ t.img = s.img := by
  unfold execFlashRateTraining; dsimp only; (repeat' split) <;> (refine ⟨_, rfl, ?_⟩; simp)

end Sys2Proof.Machine
end

