-- ==== Sys2Proof/Laws/KeptTreeStore.lean ====
section
/-! SUPPORT. What each function of Sys2Proof/Machine/TreeStore.lean leaves unchanged: one lemma a function. -/
set_option linter.unusedTactic false
set_option linter.unreachableTactic false
set_option linter.unusedSimpArgs false
namespace Sys2Proof.Machine

@[simp] theorem State.awaitSave_kept (s : State) (key : Nat) (tag : Nat) :
    (State.awaitSave s key tag).pending = s.pending ∧ (State.awaitSave s key tag).wheel = s.wheel ∧ (State.awaitSave s key tag).plan = s.plan ∧ (State.awaitSave s key tag).rein = s.rein ∧ (State.awaitSave s key tag).dram = s.dram ∧ (State.awaitSave s key tag).dma = s.dma ∧ (State.awaitSave s key tag).therm = s.therm ∧ (State.awaitSave s key tag).img = s.img ∧ (State.awaitSave s key tag).awl = s.awl ∧ (State.awaitSave s key tag).codec = s.codec ∧ (State.awaitSave s key tag).map = s.map ∧ (State.awaitSave s key tag).blk = s.blk ∧ (State.awaitSave s key tag).girth = s.girth ∧ (State.awaitSave s key tag).wb = s.wb ∧ (State.awaitSave s key tag).dump = s.dump ∧ (State.awaitSave s key tag).cipher = s.cipher ∧ (State.awaitSave s key tag).skv = s.skv ∧ (State.awaitSave s key tag).mc = s.mc ∧ (State.awaitSave s key tag).media = s.media := by
  simp [State.awaitSave]
@[simp] theorem State.endSave_kept (s : State) (key : Nat) (r : CmdResult) :
    (State.endSave s key r).pending = s.pending ∧ (State.endSave s key r).wheel = s.wheel ∧ (State.endSave s key r).plan = s.plan ∧ (State.endSave s key r).rein = s.rein ∧ (State.endSave s key r).dram = s.dram ∧ (State.endSave s key r).dma = s.dma ∧ (State.endSave s key r).therm = s.therm ∧ (State.endSave s key r).img = s.img ∧ (State.endSave s key r).awl = s.awl ∧ (State.endSave s key r).codec = s.codec ∧ (State.endSave s key r).map = s.map ∧ (State.endSave s key r).blk = s.blk ∧ (State.endSave s key r).girth = s.girth ∧ (State.endSave s key r).wb = s.wb ∧ (State.endSave s key r).dump = s.dump ∧ (State.endSave s key r).cipher = s.cipher ∧ (State.endSave s key r).skv = s.skv ∧ (State.endSave s key r).mc = s.mc ∧ (State.endSave s key r).media = s.media := by
  unfold State.endSave; split <;> simp
@[simp] theorem State.updTo_kept (s : State) (n : Nat) :
    (State.updTo s n).pending = s.pending ∧ (State.updTo s n).wheel = s.wheel ∧ (State.updTo s n).plan = s.plan ∧ (State.updTo s n).rein = s.rein ∧ (State.updTo s n).dram = s.dram ∧ (State.updTo s n).dma = s.dma ∧ (State.updTo s n).therm = s.therm ∧ (State.updTo s n).img = s.img ∧ (State.updTo s n).awl = s.awl ∧ (State.updTo s n).codec = s.codec ∧ (State.updTo s n).map = s.map ∧ (State.updTo s n).blk = s.blk ∧ (State.updTo s n).girth = s.girth ∧ (State.updTo s n).wb = s.wb ∧ (State.updTo s n).dump = s.dump ∧ (State.updTo s n).cipher = s.cipher ∧ (State.updTo s n).skv = s.skv ∧ (State.updTo s n).mc = s.mc ∧ (State.updTo s n).media = s.media := by
  simp [State.updTo]
@[simp] theorem State.updFails_kept (s : State) :
    (State.updFails s).pending = s.pending ∧ (State.updFails s).wheel = s.wheel ∧ (State.updFails s).plan = s.plan ∧ (State.updFails s).rein = s.rein ∧ (State.updFails s).dram = s.dram ∧ (State.updFails s).dma = s.dma ∧ (State.updFails s).therm = s.therm ∧ (State.updFails s).img = s.img ∧ (State.updFails s).awl = s.awl ∧ (State.updFails s).codec = s.codec ∧ (State.updFails s).map = s.map ∧ (State.updFails s).blk = s.blk ∧ (State.updFails s).girth = s.girth ∧ (State.updFails s).wb = s.wb ∧ (State.updFails s).dump = s.dump ∧ (State.updFails s).cipher = s.cipher ∧ (State.updFails s).skv = s.skv ∧ (State.updFails s).mc = s.mc ∧ (State.updFails s).media = s.media := by
  simp [State.updFails]
@[simp] theorem State.imageAt_kept (s : State) (off : Nat) :
    (State.imageAt s off).pending = s.pending ∧ (State.imageAt s off).wheel = s.wheel ∧ (State.imageAt s off).plan = s.plan ∧ (State.imageAt s off).rein = s.rein ∧ (State.imageAt s off).dram = s.dram ∧ (State.imageAt s off).dma = s.dma ∧ (State.imageAt s off).therm = s.therm ∧ (State.imageAt s off).img = s.img ∧ (State.imageAt s off).awl = s.awl ∧ (State.imageAt s off).codec = s.codec ∧ (State.imageAt s off).map = s.map ∧ (State.imageAt s off).blk = s.blk ∧ (State.imageAt s off).girth = s.girth ∧ (State.imageAt s off).wb = s.wb ∧ (State.imageAt s off).dump = s.dump ∧ (State.imageAt s off).cipher = s.cipher ∧ (State.imageAt s off).skv = s.skv ∧ (State.imageAt s off).mc = s.mc ∧ (State.imageAt s off).media = s.media := by
  unfold State.imageAt; split <;> simp
@[simp] theorem State.updErase_kept (s : State) :
    (State.updErase s).pending = s.pending ∧ (State.updErase s).wheel = s.wheel ∧ (State.updErase s).plan = s.plan ∧ (State.updErase s).rein = s.rein ∧ (State.updErase s).dram = s.dram ∧ (State.updErase s).dma = s.dma ∧ (State.updErase s).therm = s.therm ∧ (State.updErase s).img = s.img ∧ (State.updErase s).awl = s.awl ∧ (State.updErase s).codec = s.codec ∧ (State.updErase s).map = s.map ∧ (State.updErase s).blk = s.blk ∧ (State.updErase s).girth = s.girth ∧ (State.updErase s).wb = s.wb ∧ (State.updErase s).dump = s.dump ∧ (State.updErase s).cipher = s.cipher ∧ (State.updErase s).skv = s.skv ∧ (State.updErase s).mc = s.mc ∧ (State.updErase s).media = s.media := by
  unfold State.updErase
  generalize s.ts.usedSectors = l
  cases l <;> simp
@[simp] theorem State.updStart_kept (s : State) (len : Nat) (bytes : List Host.Cell) :
    (State.updStart s len bytes).pending = s.pending ∧ (State.updStart s len bytes).wheel = s.wheel ∧ (State.updStart s len bytes).plan = s.plan ∧ (State.updStart s len bytes).rein = s.rein ∧ (State.updStart s len bytes).dram = s.dram ∧ (State.updStart s len bytes).dma = s.dma ∧ (State.updStart s len bytes).therm = s.therm ∧ (State.updStart s len bytes).img = s.img ∧ (State.updStart s len bytes).awl = s.awl ∧ (State.updStart s len bytes).codec = s.codec ∧ (State.updStart s len bytes).map = s.map ∧ (State.updStart s len bytes).blk = s.blk ∧ (State.updStart s len bytes).girth = s.girth ∧ (State.updStart s len bytes).wb = s.wb ∧ (State.updStart s len bytes).dump = s.dump ∧ (State.updStart s len bytes).cipher = s.cipher ∧ (State.updStart s len bytes).skv = s.skv ∧ (State.updStart s len bytes).mc = s.mc ∧ (State.updStart s len bytes).media = s.media := by
  simp [State.updStart]
@[simp] theorem State.imageProgrammed_kept (s : State) (off : Nat) :
    (State.imageProgrammed s off).pending = s.pending ∧ (State.imageProgrammed s off).wheel = s.wheel ∧ (State.imageProgrammed s off).plan = s.plan ∧ (State.imageProgrammed s off).rein = s.rein ∧ (State.imageProgrammed s off).dram = s.dram ∧ (State.imageProgrammed s off).dma = s.dma ∧ (State.imageProgrammed s off).therm = s.therm ∧ (State.imageProgrammed s off).img = s.img ∧ (State.imageProgrammed s off).awl = s.awl ∧ (State.imageProgrammed s off).codec = s.codec ∧ (State.imageProgrammed s off).map = s.map ∧ (State.imageProgrammed s off).blk = s.blk ∧ (State.imageProgrammed s off).girth = s.girth ∧ (State.imageProgrammed s off).wb = s.wb ∧ (State.imageProgrammed s off).dump = s.dump ∧ (State.imageProgrammed s off).cipher = s.cipher ∧ (State.imageProgrammed s off).skv = s.skv ∧ (State.imageProgrammed s off).mc = s.mc ∧ (State.imageProgrammed s off).media = s.media := by
  unfold State.imageProgrammed; split <;> simp
@[simp] theorem State.imageVerified_kept (s : State) (sector : Nat) :
    (State.imageVerified s sector).pending = s.pending ∧ (State.imageVerified s sector).wheel = s.wheel ∧ (State.imageVerified s sector).plan = s.plan ∧ (State.imageVerified s sector).rein = s.rein ∧ (State.imageVerified s sector).dram = s.dram ∧ (State.imageVerified s sector).dma = s.dma ∧ (State.imageVerified s sector).therm = s.therm ∧ (State.imageVerified s sector).img = s.img ∧ (State.imageVerified s sector).awl = s.awl ∧ (State.imageVerified s sector).codec = s.codec ∧ (State.imageVerified s sector).map = s.map ∧ (State.imageVerified s sector).blk = s.blk ∧ (State.imageVerified s sector).girth = s.girth ∧ (State.imageVerified s sector).wb = s.wb ∧ (State.imageVerified s sector).dump = s.dump ∧ (State.imageVerified s sector).cipher = s.cipher ∧ (State.imageVerified s sector).skv = s.skv ∧ (State.imageVerified s sector).mc = s.mc ∧ (State.imageVerified s sector).media = s.media := by
  unfold State.imageVerified; split <;> simp
@[simp] theorem State.updEnds_kept (s : State) :
    (State.updEnds s).pending = s.pending ∧ (State.updEnds s).wheel = s.wheel ∧ (State.updEnds s).plan = s.plan ∧ (State.updEnds s).rein = s.rein ∧ (State.updEnds s).dram = s.dram ∧ (State.updEnds s).dma = s.dma ∧ (State.updEnds s).therm = s.therm ∧ (State.updEnds s).img = s.img ∧ (State.updEnds s).awl = s.awl ∧ (State.updEnds s).codec = s.codec ∧ (State.updEnds s).map = s.map ∧ (State.updEnds s).blk = s.blk ∧ (State.updEnds s).girth = s.girth ∧ (State.updEnds s).wb = s.wb ∧ (State.updEnds s).dump = s.dump ∧ (State.updEnds s).cipher = s.cipher ∧ (State.updEnds s).skv = s.skv ∧ (State.updEnds s).mc = s.mc ∧ (State.updEnds s).media = s.media := by
  unfold State.updEnds; split <;> simp
@[simp] theorem State.genDurable_kept (s : State) (n : Nat) (g : Nat) (sweeping : Bool) :
    (State.genDurable s n g sweeping).pending = s.pending ∧ (State.genDurable s n g sweeping).wheel = s.wheel ∧ (State.genDurable s n g sweeping).plan = s.plan ∧ (State.genDurable s n g sweeping).rein = s.rein ∧ (State.genDurable s n g sweeping).dram = s.dram ∧ (State.genDurable s n g sweeping).dma = s.dma ∧ (State.genDurable s n g sweeping).therm = s.therm ∧ (State.genDurable s n g sweeping).img = s.img := by
  simp [State.genDurable]
@[simp] theorem State.ctrDurable_kept (s : State) (n : Nat) (g : Nat) (top : Nat) :
    (State.ctrDurable s n g top).pending = s.pending ∧ (State.ctrDurable s n g top).wheel = s.wheel ∧ (State.ctrDurable s n g top).plan = s.plan ∧ (State.ctrDurable s n g top).rein = s.rein ∧ (State.ctrDurable s n g top).dram = s.dram ∧ (State.ctrDurable s n g top).dma = s.dma ∧ (State.ctrDurable s n g top).therm = s.therm ∧ (State.ctrDurable s n g top).img = s.img := by
  simp [State.ctrDurable]
@[simp] theorem State.recDurable_kept (s : State) (r : TsRec) :
    (State.recDurable s r).pending = s.pending := by
  unfold State.recDurable; split <;> simp
@[simp] theorem State.sectorErased_kept (s : State) (sector : Nat) :
    (State.sectorErased s sector).pending = s.pending ∧ (State.sectorErased s sector).wheel = s.wheel ∧ (State.sectorErased s sector).plan = s.plan ∧ (State.sectorErased s sector).rein = s.rein ∧ (State.sectorErased s sector).dram = s.dram ∧ (State.sectorErased s sector).dma = s.dma ∧ (State.sectorErased s sector).therm = s.therm ∧ (State.sectorErased s sector).img = s.img := by
  simp [State.sectorErased]
@[simp] theorem State.opOk_kept (s : State) (op : ArrayOp) :
    (State.opOk s op).pending = s.pending := by
  unfold State.opOk; split <;> simp
@[simp] theorem State.appendCode_kept (s : State) (r : Region) (rec_ : TsRec) (double : Bool) :
    (State.appendCode s r rec_ double).pending = s.pending ∧ (State.appendCode s r rec_ double).wheel = s.wheel ∧ (State.appendCode s r rec_ double).plan = s.plan ∧ (State.appendCode s r rec_ double).rein = s.rein ∧ (State.appendCode s r rec_ double).dram = s.dram ∧ (State.appendCode s r rec_ double).dma = s.dma ∧ (State.appendCode s r rec_ double).therm = s.therm ∧ (State.appendCode s r rec_ double).img = s.img ∧ (State.appendCode s r rec_ double).awl = s.awl ∧ (State.appendCode s r rec_ double).codec = s.codec ∧ (State.appendCode s r rec_ double).map = s.map ∧ (State.appendCode s r rec_ double).blk = s.blk ∧ (State.appendCode s r rec_ double).girth = s.girth ∧ (State.appendCode s r rec_ double).wb = s.wb ∧ (State.appendCode s r rec_ double).dump = s.dump ∧ (State.appendCode s r rec_ double).cipher = s.cipher ∧ (State.appendCode s r rec_ double).skv = s.skv ∧ (State.appendCode s r rec_ double).mc = s.mc ∧ (State.appendCode s r rec_ double).media = s.media := by
  unfold State.appendCode; (repeat' split) <;> simp
@[simp] theorem State.again_kept (s : State) (op : ArrayOp) :
    (State.again s op).pending = s.pending ∧ (State.again s op).wheel = s.wheel ∧ (State.again s op).plan = s.plan ∧ (State.again s op).rein = s.rein ∧ (State.again s op).dram = s.dram ∧ (State.again s op).dma = s.dma ∧ (State.again s op).therm = s.therm ∧ (State.again s op).img = s.img ∧ (State.again s op).awl = s.awl ∧ (State.again s op).codec = s.codec ∧ (State.again s op).map = s.map ∧ (State.again s op).blk = s.blk ∧ (State.again s op).girth = s.girth ∧ (State.again s op).wb = s.wb ∧ (State.again s op).dump = s.dump ∧ (State.again s op).cipher = s.cipher ∧ (State.again s op).skv = s.skv ∧ (State.again s op).mc = s.mc ∧ (State.again s op).media = s.media := by
  simp [State.again]
@[simp] theorem State.opFailed_kept (s : State) (op : ArrayOp) (double : Bool) :
    (State.opFailed s op double).pending = s.pending ∧ (State.opFailed s op double).wheel = s.wheel ∧ (State.opFailed s op double).plan = s.plan ∧ (State.opFailed s op double).rein = s.rein ∧ (State.opFailed s op double).dram = s.dram ∧ (State.opFailed s op double).dma = s.dma ∧ (State.opFailed s op double).therm = s.therm ∧ (State.opFailed s op double).img = s.img := by
  unfold State.opFailed; split <;> simp
theorem execTsOpDone_kept (result : Sys2Proof.ArrayResult) (s : State) :
    ∃ t, execTsOpDone result s = .next t ∧ t.pending = s.pending := by
  unfold execTsOpDone; (repeat' split) <;> (refine ⟨_, rfl, ?_⟩; simp)
@[simp] theorem State.scrubOne_kept (s : State) (offset : Nat) :
    (State.scrubOne s offset).pending = s.pending ∧ (State.scrubOne s offset).wheel = s.wheel ∧ (State.scrubOne s offset).plan = s.plan ∧ (State.scrubOne s offset).rein = s.rein ∧ (State.scrubOne s offset).dram = s.dram ∧ (State.scrubOne s offset).dma = s.dma ∧ (State.scrubOne s offset).therm = s.therm ∧ (State.scrubOne s offset).img = s.img ∧ (State.scrubOne s offset).awl = s.awl ∧ (State.scrubOne s offset).codec = s.codec ∧ (State.scrubOne s offset).map = s.map ∧ (State.scrubOne s offset).blk = s.blk ∧ (State.scrubOne s offset).girth = s.girth ∧ (State.scrubOne s offset).wb = s.wb ∧ (State.scrubOne s offset).dump = s.dump ∧ (State.scrubOne s offset).cipher = s.cipher ∧ (State.scrubOne s offset).skv = s.skv ∧ (State.scrubOne s offset).mc = s.mc ∧ (State.scrubOne s offset).media = s.media := by
  unfold State.scrubOne; refine ⟨?_, ?_, ?_, ?_, ?_, ?_, ?_, ?_, ?_, ?_, ?_, ?_, ?_, ?_, ?_, ?_, ?_, ?_, ?_⟩ <;> (repeat' (first | (simp; done) | split | dsimp only | simp))
@[simp] theorem State.scrubLost_kept (s : State) (offset : Nat) :
    (State.scrubLost s offset).pending = s.pending ∧ (State.scrubLost s offset).wheel = s.wheel ∧ (State.scrubLost s offset).plan = s.plan ∧ (State.scrubLost s offset).rein = s.rein ∧ (State.scrubLost s offset).dram = s.dram ∧ (State.scrubLost s offset).dma = s.dma ∧ (State.scrubLost s offset).therm = s.therm ∧ (State.scrubLost s offset).img = s.img ∧ (State.scrubLost s offset).awl = s.awl ∧ (State.scrubLost s offset).codec = s.codec ∧ (State.scrubLost s offset).map = s.map ∧ (State.scrubLost s offset).blk = s.blk ∧ (State.scrubLost s offset).girth = s.girth ∧ (State.scrubLost s offset).wb = s.wb ∧ (State.scrubLost s offset).dump = s.dump ∧ (State.scrubLost s offset).cipher = s.cipher ∧ (State.scrubLost s offset).skv = s.skv ∧ (State.scrubLost s offset).mc = s.mc ∧ (State.scrubLost s offset).media = s.media := by
  unfold State.scrubLost; refine ⟨?_, ?_, ?_, ?_, ?_, ?_, ?_, ?_, ?_, ?_, ?_, ?_, ?_, ?_, ?_, ?_, ?_, ?_, ?_⟩ <;> (repeat' (first | (simp; done) | split | dsimp only | simp))
theorem execTsScrubRead_kept (found : Sys2Proof.ScrubFound) (s : State) :
    ∃ t, execTsScrubRead found s = .next t ∧ t.pending = s.pending ∧ t.wheel = s.wheel ∧ t.plan = s.plan ∧ t.rein = s.rein ∧ t.dram = s.dram ∧ t.dma = s.dma ∧ t.therm = s.therm ∧ t.img = s.img := by
  unfold execTsScrubRead; (repeat' split) <;> (refine ⟨_, rfl, ?_⟩; simp)
@[simp] theorem State.tsAccess_pending (s : State) (tag : Nat) (op : Nat) (u : Bool) (f : State → Cmd → State) (h : ∀ x0 x1, (f x0 x1).pending = x0.pending) :
    (State.tsAccess s tag op u f).pending = s.pending := by
  simp [State.tsAccess, h]
@[simp] theorem State.tsAccess_wheel (s : State) (tag : Nat) (op : Nat) (u : Bool) (f : State → Cmd → State) (h : ∀ x0 x1, (f x0 x1).wheel = x0.wheel) :
    (State.tsAccess s tag op u f).wheel = s.wheel := by
  simp [State.tsAccess, h]
@[simp] theorem State.tsAccess_plan (s : State) (tag : Nat) (op : Nat) (u : Bool) (f : State → Cmd → State) (h : ∀ x0 x1, (f x0 x1).plan = x0.plan) :
    (State.tsAccess s tag op u f).plan = s.plan := by
  simp [State.tsAccess, h]
@[simp] theorem State.tsAccess_rein (s : State) (tag : Nat) (op : Nat) (u : Bool) (f : State → Cmd → State) (h : ∀ x0 x1, (f x0 x1).rein = x0.rein) :
    (State.tsAccess s tag op u f).rein = s.rein := by
  simp [State.tsAccess, h]
@[simp] theorem State.tsAccess_dram (s : State) (tag : Nat) (op : Nat) (u : Bool) (f : State → Cmd → State) (h : ∀ x0 x1, (f x0 x1).dram = x0.dram) :
    (State.tsAccess s tag op u f).dram = s.dram := by
  simp [State.tsAccess, h]
@[simp] theorem State.tsAccess_dma (s : State) (tag : Nat) (op : Nat) (u : Bool) (f : State → Cmd → State) (h : ∀ x0 x1, (f x0 x1).dma = x0.dma) :
    (State.tsAccess s tag op u f).dma = s.dma := by
  simp [State.tsAccess, h]
@[simp] theorem State.tsAccess_therm (s : State) (tag : Nat) (op : Nat) (u : Bool) (f : State → Cmd → State) (h : ∀ x0 x1, (f x0 x1).therm = x0.therm) :
    (State.tsAccess s tag op u f).therm = s.therm := by
  simp [State.tsAccess, h]
@[simp] theorem State.tsAccess_img (s : State) (tag : Nat) (op : Nat) (u : Bool) (f : State → Cmd → State) (h : ∀ x0 x1, (f x0 x1).img = x0.img) :
    (State.tsAccess s tag op u f).img = s.img := by
  simp [State.tsAccess, h]
@[simp] theorem State.tsAccess_awl (s : State) (tag : Nat) (op : Nat) (u : Bool) (f : State → Cmd → State) (h : ∀ x0 x1, (f x0 x1).awl = x0.awl) :
    (State.tsAccess s tag op u f).awl = s.awl := by
  simp [State.tsAccess, h]
@[simp] theorem State.tsAccess_codec (s : State) (tag : Nat) (op : Nat) (u : Bool) (f : State → Cmd → State) (h : ∀ x0 x1, (f x0 x1).codec = x0.codec) :
    (State.tsAccess s tag op u f).codec = s.codec := by
  simp [State.tsAccess, h]
@[simp] theorem State.tsAccess_map (s : State) (tag : Nat) (op : Nat) (u : Bool) (f : State → Cmd → State) (h : ∀ x0 x1, (f x0 x1).map = x0.map) :
    (State.tsAccess s tag op u f).map = s.map := by
  simp [State.tsAccess, h]
@[simp] theorem State.tsAccess_blk (s : State) (tag : Nat) (op : Nat) (u : Bool) (f : State → Cmd → State) (h : ∀ x0 x1, (f x0 x1).blk = x0.blk) :
    (State.tsAccess s tag op u f).blk = s.blk := by
  simp [State.tsAccess, h]
@[simp] theorem State.tsAccess_girth (s : State) (tag : Nat) (op : Nat) (u : Bool) (f : State → Cmd → State) (h : ∀ x0 x1, (f x0 x1).girth = x0.girth) :
    (State.tsAccess s tag op u f).girth = s.girth := by
  simp [State.tsAccess, h]
@[simp] theorem State.tsAccess_wb (s : State) (tag : Nat) (op : Nat) (u : Bool) (f : State → Cmd → State) (h : ∀ x0 x1, (f x0 x1).wb = x0.wb) :
    (State.tsAccess s tag op u f).wb = s.wb := by
  simp [State.tsAccess, h]
@[simp] theorem State.tsAccess_dump (s : State) (tag : Nat) (op : Nat) (u : Bool) (f : State → Cmd → State) (h : ∀ x0 x1, (f x0 x1).dump = x0.dump) :
    (State.tsAccess s tag op u f).dump = s.dump := by
  simp [State.tsAccess, h]
@[simp] theorem State.tsAccess_cipher (s : State) (tag : Nat) (op : Nat) (u : Bool) (f : State → Cmd → State) (h : ∀ x0 x1, (f x0 x1).cipher = x0.cipher) :
    (State.tsAccess s tag op u f).cipher = s.cipher := by
  simp [State.tsAccess, h]
@[simp] theorem State.tsAccess_skv (s : State) (tag : Nat) (op : Nat) (u : Bool) (f : State → Cmd → State) (h : ∀ x0 x1, (f x0 x1).skv = x0.skv) :
    (State.tsAccess s tag op u f).skv = s.skv := by
  simp [State.tsAccess, h]
@[simp] theorem State.tsAccess_mc (s : State) (tag : Nat) (op : Nat) (u : Bool) (f : State → Cmd → State) (h : ∀ x0 x1, (f x0 x1).mc = x0.mc) :
    (State.tsAccess s tag op u f).mc = s.mc := by
  simp [State.tsAccess, h]
@[simp] theorem State.tsAccess_media (s : State) (tag : Nat) (op : Nat) (u : Bool) (f : State → Cmd → State) (h : ∀ x0 x1, (f x0 x1).media = x0.media) :
    (State.tsAccess s tag op u f).media = s.media := by
  simp [State.tsAccess, h]
@[simp] theorem State.tsAccess_wheel_pins (s : State) (tag : Nat) (op : Nat) (u : Bool) (f : State → Cmd → State) (h : ∀ x0 x1, (f x0 x1).wheel.pins = x0.wheel.pins) :
    (State.tsAccess s tag op u f).wheel.pins = s.wheel.pins := by
  simp [State.tsAccess, h]
theorem execTsStatus_kept (tag : Nat) (s : State) :
    ∃ t, execTsStatus tag s = .next t ∧ t.pending = s.pending ∧ t.wheel = s.wheel ∧ t.plan = s.plan ∧ t.rein = s.rein ∧ t.dram = s.dram ∧ t.dma = s.dma ∧ t.therm = s.therm ∧ t.img = s.img ∧ t.awl = s.awl ∧ t.codec = s.codec ∧ t.map = s.map ∧ t.blk = s.blk ∧ t.girth = s.girth ∧ t.wb = s.wb ∧ t.dump = s.dump ∧ t.cipher = s.cipher ∧ t.skv = s.skv ∧ t.mc = s.mc ∧ t.media = s.media := by
  refine ⟨_, rfl, ?_⟩; simp
theorem execTsReadImage_kept (tag : Nat) (s : State) :
    ∃ t, execTsReadImage tag s = .next t ∧ t.pending = s.pending ∧ t.wheel = s.wheel ∧ t.plan = s.plan ∧ t.rein = s.rein ∧ t.dram = s.dram ∧ t.dma = s.dma ∧ t.therm = s.therm ∧ t.img = s.img ∧ t.awl = s.awl ∧ t.codec = s.codec ∧ t.map = s.map ∧ t.blk = s.blk ∧ t.girth = s.girth ∧ t.wb = s.wb ∧ t.dump = s.dump ∧ t.cipher = s.cipher ∧ t.skv = s.skv ∧ t.mc = s.mc ∧ t.media = s.media := by
  refine ⟨_, rfl, ?_⟩; simp
@[simp] theorem State.updRefused_kept (s : State) (tag : Nat) (reason : Nat) (dw1 : Nat) :
    (State.updRefused s tag reason dw1).pending = s.pending ∧ (State.updRefused s tag reason dw1).wheel = s.wheel ∧ (State.updRefused s tag reason dw1).plan = s.plan ∧ (State.updRefused s tag reason dw1).rein = s.rein ∧ (State.updRefused s tag reason dw1).dram = s.dram ∧ (State.updRefused s tag reason dw1).dma = s.dma ∧ (State.updRefused s tag reason dw1).therm = s.therm ∧ (State.updRefused s tag reason dw1).img = s.img ∧ (State.updRefused s tag reason dw1).awl = s.awl ∧ (State.updRefused s tag reason dw1).codec = s.codec ∧ (State.updRefused s tag reason dw1).map = s.map ∧ (State.updRefused s tag reason dw1).blk = s.blk ∧ (State.updRefused s tag reason dw1).girth = s.girth ∧ (State.updRefused s tag reason dw1).wb = s.wb ∧ (State.updRefused s tag reason dw1).dump = s.dump ∧ (State.updRefused s tag reason dw1).cipher = s.cipher ∧ (State.updRefused s tag reason dw1).skv = s.skv ∧ (State.updRefused s tag reason dw1).mc = s.mc ∧ (State.updRefused s tag reason dw1).media = s.media := by
  simp [State.updRefused]
theorem execTsUpdBegin_kept (tag : Nat) (s : State) :
    ∃ t, execTsUpdBegin tag s = .next t ∧ t.pending = s.pending ∧ t.wheel = s.wheel ∧ t.plan = s.plan ∧ t.rein = s.rein ∧ t.dram = s.dram ∧ t.dma = s.dma ∧ t.therm = s.therm ∧ t.img = s.img ∧ t.awl = s.awl ∧ t.codec = s.codec ∧ t.map = s.map ∧ t.blk = s.blk ∧ t.girth = s.girth ∧ t.wb = s.wb ∧ t.dump = s.dump ∧ t.cipher = s.cipher ∧ t.skv = s.skv ∧ t.mc = s.mc ∧ t.media = s.media := by
  unfold execTsUpdBegin; (repeat' (first | (refine ⟨_, rfl, ?_, ?_, ?_, ?_, ?_, ?_, ?_, ?_, ?_, ?_, ?_, ?_, ?_, ?_, ?_, ?_, ?_, ?_, ?_⟩ <;> (repeat' (first | (simp; done) | (with_reducible refine State.tsAccess_pending _ _ _ _ _ (fun y0 y1 => ?_)) | (with_reducible refine State.tsAccess_wheel _ _ _ _ _ (fun y0 y1 => ?_)) | (with_reducible refine State.tsAccess_plan _ _ _ _ _ (fun y0 y1 => ?_)) | (with_reducible refine State.tsAccess_rein _ _ _ _ _ (fun y0 y1 => ?_)) | (with_reducible refine State.tsAccess_dram _ _ _ _ _ (fun y0 y1 => ?_)) | (with_reducible refine State.tsAccess_dma _ _ _ _ _ (fun y0 y1 => ?_)) | (with_reducible refine State.tsAccess_therm _ _ _ _ _ (fun y0 y1 => ?_)) | (with_reducible refine State.tsAccess_img _ _ _ _ _ (fun y0 y1 => ?_)) | (with_reducible refine State.tsAccess_awl _ _ _ _ _ (fun y0 y1 => ?_)) | (with_reducible refine State.tsAccess_codec _ _ _ _ _ (fun y0 y1 => ?_)) | (with_reducible refine State.tsAccess_map _ _ _ _ _ (fun y0 y1 => ?_)) | (with_reducible refine State.tsAccess_blk _ _ _ _ _ (fun y0 y1 => ?_)) | (with_reducible refine State.tsAccess_girth _ _ _ _ _ (fun y0 y1 => ?_)) | (with_reducible refine State.tsAccess_wb _ _ _ _ _ (fun y0 y1 => ?_)) | (with_reducible refine State.tsAccess_dump _ _ _ _ _ (fun y0 y1 => ?_)) | (with_reducible refine State.tsAccess_cipher _ _ _ _ _ (fun y0 y1 => ?_)) | (with_reducible refine State.tsAccess_skv _ _ _ _ _ (fun y0 y1 => ?_)) | (with_reducible refine State.tsAccess_mc _ _ _ _ _ (fun y0 y1 => ?_)) | (with_reducible refine State.tsAccess_media _ _ _ _ _ (fun y0 y1 => ?_)) | split | dsimp only | simp)); done) | split | dsimp only))
theorem execTsUpdData_kept (tag : Nat) (data : List Sys2Proof.Byte) (s : State) :
    ∃ t, execTsUpdData tag data s = .next t ∧ t.pending = s.pending ∧ t.wheel = s.wheel ∧ t.plan = s.plan ∧ t.rein = s.rein ∧ t.dram = s.dram ∧ t.dma = s.dma ∧ t.therm = s.therm ∧ t.img = s.img ∧ t.awl = s.awl ∧ t.codec = s.codec ∧ t.map = s.map ∧ t.blk = s.blk ∧ t.girth = s.girth ∧ t.wb = s.wb ∧ t.dump = s.dump ∧ t.cipher = s.cipher ∧ t.skv = s.skv ∧ t.mc = s.mc ∧ t.media = s.media := by
  unfold execTsUpdData; (repeat' (first | (refine ⟨_, rfl, ?_, ?_, ?_, ?_, ?_, ?_, ?_, ?_, ?_, ?_, ?_, ?_, ?_, ?_, ?_, ?_, ?_, ?_, ?_⟩ <;> (repeat' (first | (simp; done) | (with_reducible refine State.tsAccess_pending _ _ _ _ _ (fun y0 y1 => ?_)) | (with_reducible refine State.tsAccess_wheel _ _ _ _ _ (fun y0 y1 => ?_)) | (with_reducible refine State.tsAccess_plan _ _ _ _ _ (fun y0 y1 => ?_)) | (with_reducible refine State.tsAccess_rein _ _ _ _ _ (fun y0 y1 => ?_)) | (with_reducible refine State.tsAccess_dram _ _ _ _ _ (fun y0 y1 => ?_)) | (with_reducible refine State.tsAccess_dma _ _ _ _ _ (fun y0 y1 => ?_)) | (with_reducible refine State.tsAccess_therm _ _ _ _ _ (fun y0 y1 => ?_)) | (with_reducible refine State.tsAccess_img _ _ _ _ _ (fun y0 y1 => ?_)) | (with_reducible refine State.tsAccess_awl _ _ _ _ _ (fun y0 y1 => ?_)) | (with_reducible refine State.tsAccess_codec _ _ _ _ _ (fun y0 y1 => ?_)) | (with_reducible refine State.tsAccess_map _ _ _ _ _ (fun y0 y1 => ?_)) | (with_reducible refine State.tsAccess_blk _ _ _ _ _ (fun y0 y1 => ?_)) | (with_reducible refine State.tsAccess_girth _ _ _ _ _ (fun y0 y1 => ?_)) | (with_reducible refine State.tsAccess_wb _ _ _ _ _ (fun y0 y1 => ?_)) | (with_reducible refine State.tsAccess_dump _ _ _ _ _ (fun y0 y1 => ?_)) | (with_reducible refine State.tsAccess_cipher _ _ _ _ _ (fun y0 y1 => ?_)) | (with_reducible refine State.tsAccess_skv _ _ _ _ _ (fun y0 y1 => ?_)) | (with_reducible refine State.tsAccess_mc _ _ _ _ _ (fun y0 y1 => ?_)) | (with_reducible refine State.tsAccess_media _ _ _ _ _ (fun y0 y1 => ?_)) | split | dsimp only | simp)); done) | split | dsimp only))
theorem execTsUpdCommit_kept (tag : Nat) (s : State) :
    ∃ t, execTsUpdCommit tag s = .next t ∧ t.pending = s.pending ∧ t.wheel = s.wheel ∧ t.plan = s.plan ∧ t.rein = s.rein ∧ t.dram = s.dram ∧ t.dma = s.dma ∧ t.therm = s.therm ∧ t.img = s.img ∧ t.awl = s.awl ∧ t.codec = s.codec ∧ t.map = s.map ∧ t.blk = s.blk ∧ t.girth = s.girth ∧ t.wb = s.wb ∧ t.dump = s.dump ∧ t.cipher = s.cipher ∧ t.skv = s.skv ∧ t.mc = s.mc ∧ t.media = s.media := by
  unfold execTsUpdCommit; (repeat' (first | (refine ⟨_, rfl, ?_, ?_, ?_, ?_, ?_, ?_, ?_, ?_, ?_, ?_, ?_, ?_, ?_, ?_, ?_, ?_, ?_, ?_, ?_⟩ <;> (repeat' (first | (simp; done) | (with_reducible refine State.tsAccess_pending _ _ _ _ _ (fun y0 y1 => ?_)) | (with_reducible refine State.tsAccess_wheel _ _ _ _ _ (fun y0 y1 => ?_)) | (with_reducible refine State.tsAccess_plan _ _ _ _ _ (fun y0 y1 => ?_)) | (with_reducible refine State.tsAccess_rein _ _ _ _ _ (fun y0 y1 => ?_)) | (with_reducible refine State.tsAccess_dram _ _ _ _ _ (fun y0 y1 => ?_)) | (with_reducible refine State.tsAccess_dma _ _ _ _ _ (fun y0 y1 => ?_)) | (with_reducible refine State.tsAccess_therm _ _ _ _ _ (fun y0 y1 => ?_)) | (with_reducible refine State.tsAccess_img _ _ _ _ _ (fun y0 y1 => ?_)) | (with_reducible refine State.tsAccess_awl _ _ _ _ _ (fun y0 y1 => ?_)) | (with_reducible refine State.tsAccess_codec _ _ _ _ _ (fun y0 y1 => ?_)) | (with_reducible refine State.tsAccess_map _ _ _ _ _ (fun y0 y1 => ?_)) | (with_reducible refine State.tsAccess_blk _ _ _ _ _ (fun y0 y1 => ?_)) | (with_reducible refine State.tsAccess_girth _ _ _ _ _ (fun y0 y1 => ?_)) | (with_reducible refine State.tsAccess_wb _ _ _ _ _ (fun y0 y1 => ?_)) | (with_reducible refine State.tsAccess_dump _ _ _ _ _ (fun y0 y1 => ?_)) | (with_reducible refine State.tsAccess_cipher _ _ _ _ _ (fun y0 y1 => ?_)) | (with_reducible refine State.tsAccess_skv _ _ _ _ _ (fun y0 y1 => ?_)) | (with_reducible refine State.tsAccess_mc _ _ _ _ _ (fun y0 y1 => ?_)) | (with_reducible refine State.tsAccess_media _ _ _ _ _ (fun y0 y1 => ?_)) | split | dsimp only | simp)); done) | split | dsimp only))
theorem execTsUpdCancel_kept (tag : Nat) (s : State) :
    ∃ t, execTsUpdCancel tag s = .next t ∧ t.pending = s.pending ∧ t.wheel = s.wheel ∧ t.plan = s.plan ∧ t.rein = s.rein ∧ t.dram = s.dram ∧ t.dma = s.dma ∧ t.therm = s.therm ∧ t.img = s.img ∧ t.awl = s.awl ∧ t.codec = s.codec ∧ t.map = s.map ∧ t.blk = s.blk ∧ t.girth = s.girth ∧ t.wb = s.wb ∧ t.dump = s.dump ∧ t.cipher = s.cipher ∧ t.skv = s.skv ∧ t.mc = s.mc ∧ t.media = s.media := by
  refine ⟨_, rfl, ?_⟩; simp
@[simp] theorem State.programOption_kept (s : State) (tag : Nat) (parts : List (Nat × List Sys2Proof.Byte)) :
    (State.programOption s tag parts).pending = s.pending ∧ (State.programOption s tag parts).wheel = s.wheel ∧ (State.programOption s tag parts).plan = s.plan ∧ (State.programOption s tag parts).rein = s.rein ∧ (State.programOption s tag parts).dram = s.dram ∧ (State.programOption s tag parts).dma = s.dma ∧ (State.programOption s tag parts).therm = s.therm ∧ (State.programOption s tag parts).img = s.img ∧ (State.programOption s tag parts).awl = s.awl ∧ (State.programOption s tag parts).codec = s.codec ∧ (State.programOption s tag parts).map = s.map ∧ (State.programOption s tag parts).blk = s.blk ∧ (State.programOption s tag parts).girth = s.girth ∧ (State.programOption s tag parts).wb = s.wb ∧ (State.programOption s tag parts).dump = s.dump ∧ (State.programOption s tag parts).cipher = s.cipher ∧ (State.programOption s tag parts).skv = s.skv ∧ (State.programOption s tag parts).mc = s.mc ∧ (State.programOption s tag parts).media = s.media := by
  unfold State.programOption; refine ⟨?_, ?_, ?_, ?_, ?_, ?_, ?_, ?_, ?_, ?_, ?_, ?_, ?_, ?_, ?_, ?_, ?_, ?_, ?_⟩ <;> (repeat' (first | (simp; done) | split | dsimp only | simp))
theorem execTsSetKey_kept (tag : Nat) (data : List Sys2Proof.Byte) (s : State) :
    ∃ t, execTsSetKey tag data s = .next t ∧ t.pending = s.pending ∧ t.wheel = s.wheel ∧ t.plan = s.plan ∧ t.rein = s.rein ∧ t.dram = s.dram ∧ t.dma = s.dma ∧ t.therm = s.therm ∧ t.img = s.img ∧ t.awl = s.awl ∧ t.codec = s.codec ∧ t.map = s.map ∧ t.blk = s.blk ∧ t.girth = s.girth ∧ t.wb = s.wb ∧ t.dump = s.dump ∧ t.cipher = s.cipher ∧ t.skv = s.skv ∧ t.mc = s.mc ∧ t.media = s.media := by
  unfold execTsSetKey; (repeat' (first | (refine ⟨_, rfl, ?_, ?_, ?_, ?_, ?_, ?_, ?_, ?_, ?_, ?_, ?_, ?_, ?_, ?_, ?_, ?_, ?_, ?_, ?_⟩ <;> (repeat' (first | (simp; done) | (with_reducible refine State.tsAccess_pending _ _ _ _ _ (fun y0 y1 => ?_)) | (with_reducible refine State.tsAccess_wheel _ _ _ _ _ (fun y0 y1 => ?_)) | (with_reducible refine State.tsAccess_plan _ _ _ _ _ (fun y0 y1 => ?_)) | (with_reducible refine State.tsAccess_rein _ _ _ _ _ (fun y0 y1 => ?_)) | (with_reducible refine State.tsAccess_dram _ _ _ _ _ (fun y0 y1 => ?_)) | (with_reducible refine State.tsAccess_dma _ _ _ _ _ (fun y0 y1 => ?_)) | (with_reducible refine State.tsAccess_therm _ _ _ _ _ (fun y0 y1 => ?_)) | (with_reducible refine State.tsAccess_img _ _ _ _ _ (fun y0 y1 => ?_)) | (with_reducible refine State.tsAccess_awl _ _ _ _ _ (fun y0 y1 => ?_)) | (with_reducible refine State.tsAccess_codec _ _ _ _ _ (fun y0 y1 => ?_)) | (with_reducible refine State.tsAccess_map _ _ _ _ _ (fun y0 y1 => ?_)) | (with_reducible refine State.tsAccess_blk _ _ _ _ _ (fun y0 y1 => ?_)) | (with_reducible refine State.tsAccess_girth _ _ _ _ _ (fun y0 y1 => ?_)) | (with_reducible refine State.tsAccess_wb _ _ _ _ _ (fun y0 y1 => ?_)) | (with_reducible refine State.tsAccess_dump _ _ _ _ _ (fun y0 y1 => ?_)) | (with_reducible refine State.tsAccess_cipher _ _ _ _ _ (fun y0 y1 => ?_)) | (with_reducible refine State.tsAccess_skv _ _ _ _ _ (fun y0 y1 => ?_)) | (with_reducible refine State.tsAccess_mc _ _ _ _ _ (fun y0 y1 => ?_)) | (with_reducible refine State.tsAccess_media _ _ _ _ _ (fun y0 y1 => ?_)) | split | dsimp only | simp)); done) | split | dsimp only))
theorem execTsLock_kept (tag : Nat) (s : State) :
    ∃ t, execTsLock tag s = .next t ∧ t.pending = s.pending ∧ t.wheel = s.wheel ∧ t.plan = s.plan ∧ t.rein = s.rein ∧ t.dram = s.dram ∧ t.dma = s.dma ∧ t.therm = s.therm ∧ t.img = s.img ∧ t.awl = s.awl ∧ t.codec = s.codec ∧ t.map = s.map ∧ t.blk = s.blk ∧ t.girth = s.girth ∧ t.wb = s.wb ∧ t.dump = s.dump ∧ t.cipher = s.cipher ∧ t.skv = s.skv ∧ t.mc = s.mc ∧ t.media = s.media := by
  refine ⟨_, rfl, ?_⟩; simp
theorem execTsUnlock_kept (tag : Nat) (s : State) :
    ∃ t, execTsUnlock tag s = .next t ∧ t.pending = s.pending ∧ t.wheel = s.wheel ∧ t.plan = s.plan ∧ t.rein = s.rein ∧ t.dram = s.dram ∧ t.dma = s.dma ∧ t.therm = s.therm ∧ t.img = s.img ∧ t.awl = s.awl ∧ t.codec = s.codec ∧ t.map = s.map ∧ t.blk = s.blk ∧ t.girth = s.girth ∧ t.wb = s.wb ∧ t.dump = s.dump ∧ t.cipher = s.cipher ∧ t.skv = s.skv ∧ t.mc = s.mc ∧ t.media = s.media := by
  refine ⟨_, rfl, ?_⟩; simp
theorem execTsEraseImage_kept (tag : Nat) (s : State) :
    ∃ t, execTsEraseImage tag s = .next t ∧ t.pending = s.pending ∧ t.wheel = s.wheel ∧ t.plan = s.plan ∧ t.rein = s.rein ∧ t.dram = s.dram ∧ t.dma = s.dma ∧ t.therm = s.therm ∧ t.img = s.img ∧ t.awl = s.awl ∧ t.codec = s.codec ∧ t.map = s.map ∧ t.blk = s.blk ∧ t.girth = s.girth ∧ t.wb = s.wb ∧ t.dump = s.dump ∧ t.cipher = s.cipher ∧ t.skv = s.skv ∧ t.mc = s.mc ∧ t.media = s.media := by
  refine ⟨_, rfl, ?_⟩; simp
theorem execTsSetId_kept (tag : Nat) (data : List Sys2Proof.Byte) (s : State) :
    ∃ t, execTsSetId tag data s = .next t ∧ t.pending = s.pending ∧ t.wheel = s.wheel ∧ t.plan = s.plan ∧ t.rein = s.rein ∧ t.dram = s.dram ∧ t.dma = s.dma ∧ t.therm = s.therm ∧ t.img = s.img ∧ t.awl = s.awl ∧ t.codec = s.codec ∧ t.map = s.map ∧ t.blk = s.blk ∧ t.girth = s.girth ∧ t.wb = s.wb ∧ t.dump = s.dump ∧ t.cipher = s.cipher ∧ t.skv = s.skv ∧ t.mc = s.mc ∧ t.media = s.media := by
  refine ⟨_, rfl, ?_⟩; simp
theorem execTsRefresh_kept (tag : Nat) (s : State) :
    ∃ t, execTsRefresh tag s = .next t ∧ t.pending = s.pending ∧ t.wheel = s.wheel ∧ t.plan = s.plan ∧ t.rein = s.rein ∧ t.dram = s.dram ∧ t.dma = s.dma ∧ t.therm = s.therm ∧ t.img = s.img ∧ t.awl = s.awl ∧ t.codec = s.codec ∧ t.map = s.map ∧ t.blk = s.blk ∧ t.girth = s.girth ∧ t.wb = s.wb ∧ t.dump = s.dump ∧ t.cipher = s.cipher ∧ t.skv = s.skv ∧ t.mc = s.mc ∧ t.media = s.media := by
  unfold execTsRefresh; (repeat' (first | (refine ⟨_, rfl, ?_, ?_, ?_, ?_, ?_, ?_, ?_, ?_, ?_, ?_, ?_, ?_, ?_, ?_, ?_, ?_, ?_, ?_, ?_⟩ <;> (repeat' (first | (simp; done) | (with_reducible refine State.tsAccess_pending _ _ _ _ _ (fun y0 y1 => ?_)) | (with_reducible refine State.tsAccess_wheel _ _ _ _ _ (fun y0 y1 => ?_)) | (with_reducible refine State.tsAccess_plan _ _ _ _ _ (fun y0 y1 => ?_)) | (with_reducible refine State.tsAccess_rein _ _ _ _ _ (fun y0 y1 => ?_)) | (with_reducible refine State.tsAccess_dram _ _ _ _ _ (fun y0 y1 => ?_)) | (with_reducible refine State.tsAccess_dma _ _ _ _ _ (fun y0 y1 => ?_)) | (with_reducible refine State.tsAccess_therm _ _ _ _ _ (fun y0 y1 => ?_)) | (with_reducible refine State.tsAccess_img _ _ _ _ _ (fun y0 y1 => ?_)) | (with_reducible refine State.tsAccess_awl _ _ _ _ _ (fun y0 y1 => ?_)) | (with_reducible refine State.tsAccess_codec _ _ _ _ _ (fun y0 y1 => ?_)) | (with_reducible refine State.tsAccess_map _ _ _ _ _ (fun y0 y1 => ?_)) | (with_reducible refine State.tsAccess_blk _ _ _ _ _ (fun y0 y1 => ?_)) | (with_reducible refine State.tsAccess_girth _ _ _ _ _ (fun y0 y1 => ?_)) | (with_reducible refine State.tsAccess_wb _ _ _ _ _ (fun y0 y1 => ?_)) | (with_reducible refine State.tsAccess_dump _ _ _ _ _ (fun y0 y1 => ?_)) | (with_reducible refine State.tsAccess_cipher _ _ _ _ _ (fun y0 y1 => ?_)) | (with_reducible refine State.tsAccess_skv _ _ _ _ _ (fun y0 y1 => ?_)) | (with_reducible refine State.tsAccess_mc _ _ _ _ _ (fun y0 y1 => ?_)) | (with_reducible refine State.tsAccess_media _ _ _ _ _ (fun y0 y1 => ?_)) | split | dsimp only | simp)); done) | split | dsimp only))
theorem execTsAccessUnlistedOp_kept (tag : Nat) (s : State) :
    ∃ t, execTsAccessUnlistedOp tag s = .next t ∧ t.pending = s.pending ∧ t.wheel = s.wheel ∧ t.plan = s.plan ∧ t.rein = s.rein ∧ t.dram = s.dram ∧ t.dma = s.dma ∧ t.therm = s.therm ∧ t.img = s.img ∧ t.awl = s.awl ∧ t.codec = s.codec ∧ t.map = s.map ∧ t.blk = s.blk ∧ t.girth = s.girth ∧ t.wb = s.wb ∧ t.dump = s.dump ∧ t.cipher = s.cipher ∧ t.skv = s.skv ∧ t.mc = s.mc ∧ t.media = s.media := by
  refine ⟨_, rfl, ?_⟩; simp

end Sys2Proof.Machine
end

