-- ==== Sys2Proof/Laws/KeptThermal.lean ====
section
/-! SUPPORT. What each function of Sys2Proof/Machine/Thermal.lean leaves unchanged: one lemma a function. -/
set_option linter.unusedTactic false
set_option linter.unreachableTactic false
set_option linter.unusedSimpArgs false
namespace Sys2Proof.Machine

@[simp] theorem State.nvmeCheck_kept (s : State) (n : Nat) :
    (State.nvmeCheck s n).pending = s.pending ∧ (State.nvmeCheck s n).wheel = s.wheel ∧ (State.nvmeCheck s n).plan = s.plan ∧ (State.nvmeCheck s n).rein = s.rein ∧ (State.nvmeCheck s n).dram = s.dram ∧ (State.nvmeCheck s n).dma = s.dma ∧ (State.nvmeCheck s n).img = s.img ∧ (State.nvmeCheck s n).awl = s.awl ∧ (State.nvmeCheck s n).codec = s.codec ∧ (State.nvmeCheck s n).map = s.map ∧ (State.nvmeCheck s n).blk = s.blk ∧ (State.nvmeCheck s n).girth = s.girth ∧ (State.nvmeCheck s n).wb = s.wb ∧ (State.nvmeCheck s n).dump = s.dump ∧ (State.nvmeCheck s n).cipher = s.cipher ∧ (State.nvmeCheck s n).skv = s.skv ∧ (State.nvmeCheck s n).mc = s.mc ∧ (State.nvmeCheck s n).media = s.media := by
  simp [State.nvmeCheck]
@[simp] theorem State.nvmeChecks_kept (s : State) :
    (State.nvmeChecks s).pending = s.pending ∧ (State.nvmeChecks s).wheel = s.wheel ∧ (State.nvmeChecks s).plan = s.plan ∧ (State.nvmeChecks s).rein = s.rein ∧ (State.nvmeChecks s).dram = s.dram ∧ (State.nvmeChecks s).dma = s.dma ∧ (State.nvmeChecks s).img = s.img ∧ (State.nvmeChecks s).awl = s.awl ∧ (State.nvmeChecks s).codec = s.codec ∧ (State.nvmeChecks s).map = s.map ∧ (State.nvmeChecks s).blk = s.blk ∧ (State.nvmeChecks s).girth = s.girth ∧ (State.nvmeChecks s).wb = s.wb ∧ (State.nvmeChecks s).dump = s.dump ∧ (State.nvmeChecks s).cipher = s.cipher ∧ (State.nvmeChecks s).skv = s.skv ∧ (State.nvmeChecks s).mc = s.mc ∧ (State.nvmeChecks s).media = s.media := by
  simp [State.nvmeChecks]
@[simp] theorem State.dieBreaks_kept (s : State) (i : Nat) (cause : Nat) :
    (State.dieBreaks s i cause).pending = s.pending ∧ (State.dieBreaks s i cause).wheel = s.wheel ∧ (State.dieBreaks s i cause).plan = s.plan ∧ (State.dieBreaks s i cause).rein = s.rein ∧ (State.dieBreaks s i cause).dram = s.dram ∧ (State.dieBreaks s i cause).dma = s.dma ∧ (State.dieBreaks s i cause).img = s.img ∧ (State.dieBreaks s i cause).awl = s.awl ∧ (State.dieBreaks s i cause).codec = s.codec ∧ (State.dieBreaks s i cause).map = s.map ∧ (State.dieBreaks s i cause).blk = s.blk ∧ (State.dieBreaks s i cause).girth = s.girth ∧ (State.dieBreaks s i cause).wb = s.wb ∧ (State.dieBreaks s i cause).dump = s.dump ∧ (State.dieBreaks s i cause).cipher = s.cipher ∧ (State.dieBreaks s i cause).skv = s.skv ∧ (State.dieBreaks s i cause).mc = s.mc ∧ (State.dieBreaks s i cause).media = s.media := by
  simp [State.dieBreaks]
@[simp] theorem State.judgeSensors_kept (s : State) :
    (State.judgeSensors s).pending = s.pending ∧ (State.judgeSensors s).wheel = s.wheel ∧ (State.judgeSensors s).plan = s.plan ∧ (State.judgeSensors s).rein = s.rein ∧ (State.judgeSensors s).dram = s.dram ∧ (State.judgeSensors s).dma = s.dma ∧ (State.judgeSensors s).img = s.img ∧ (State.judgeSensors s).awl = s.awl ∧ (State.judgeSensors s).codec = s.codec ∧ (State.judgeSensors s).map = s.map ∧ (State.judgeSensors s).blk = s.blk ∧ (State.judgeSensors s).girth = s.girth ∧ (State.judgeSensors s).wb = s.wb ∧ (State.judgeSensors s).dump = s.dump ∧ (State.judgeSensors s).cipher = s.cipher ∧ (State.judgeSensors s).skv = s.skv ∧ (State.judgeSensors s).mc = s.mc ∧ (State.judgeSensors s).media = s.media := by
  unfold State.judgeSensors; refine ⟨?_, ?_, ?_, ?_, ?_, ?_, ?_, ?_, ?_, ?_, ?_, ?_, ?_, ?_, ?_, ?_, ?_, ?_⟩ <;> (repeat' (first | (simp [-List.reduceReplicate]; done) | (with_reducible refine Eq.trans (foldl_pending _ (fun s a => ?_) _ _) ?_) | (with_reducible refine Eq.trans (foldl_wheel _ (fun s a => ?_) _ _) ?_) | (with_reducible refine Eq.trans (foldl_plan _ (fun s a => ?_) _ _) ?_) | (with_reducible refine Eq.trans (foldl_rein _ (fun s a => ?_) _ _) ?_) | (with_reducible refine Eq.trans (foldl_dram _ (fun s a => ?_) _ _) ?_) | (with_reducible refine Eq.trans (foldl_dma _ (fun s a => ?_) _ _) ?_) | (with_reducible refine Eq.trans (foldl_img _ (fun s a => ?_) _ _) ?_) | (with_reducible refine Eq.trans (foldl_awl _ (fun s a => ?_) _ _) ?_) | (with_reducible refine Eq.trans (foldl_codec _ (fun s a => ?_) _ _) ?_) | (with_reducible refine Eq.trans (foldl_map _ (fun s a => ?_) _ _) ?_) | (with_reducible refine Eq.trans (foldl_blk _ (fun s a => ?_) _ _) ?_) | (with_reducible refine Eq.trans (foldl_girth _ (fun s a => ?_) _ _) ?_) | (with_reducible refine Eq.trans (foldl_wb _ (fun s a => ?_) _ _) ?_) | (with_reducible refine Eq.trans (foldl_dump _ (fun s a => ?_) _ _) ?_) | (with_reducible refine Eq.trans (foldl_cipher _ (fun s a => ?_) _ _) ?_) | (with_reducible refine Eq.trans (foldl_skv _ (fun s a => ?_) _ _) ?_) | (with_reducible refine Eq.trans (foldl_mc _ (fun s a => ?_) _ _) ?_) | (with_reducible refine Eq.trans (foldl_media _ (fun s a => ?_) _ _) ?_) | (with_reducible refine Eq.trans (foldr_pending _ (fun a s => ?_) _ _) ?_) | (with_reducible refine Eq.trans (foldr_wheel _ (fun a s => ?_) _ _) ?_) | (with_reducible refine Eq.trans (foldr_plan _ (fun a s => ?_) _ _) ?_) | (with_reducible refine Eq.trans (foldr_rein _ (fun a s => ?_) _ _) ?_) | (with_reducible refine Eq.trans (foldr_dram _ (fun a s => ?_) _ _) ?_) | (with_reducible refine Eq.trans (foldr_dma _ (fun a s => ?_) _ _) ?_) | (with_reducible refine Eq.trans (foldr_img _ (fun a s => ?_) _ _) ?_) | (with_reducible refine Eq.trans (foldr_awl _ (fun a s => ?_) _ _) ?_) | (with_reducible refine Eq.trans (foldr_codec _ (fun a s => ?_) _ _) ?_) | (with_reducible refine Eq.trans (foldr_map _ (fun a s => ?_) _ _) ?_) | (with_reducible refine Eq.trans (foldr_blk _ (fun a s => ?_) _ _) ?_) | (with_reducible refine Eq.trans (foldr_girth _ (fun a s => ?_) _ _) ?_) | (with_reducible refine Eq.trans (foldr_wb _ (fun a s => ?_) _ _) ?_) | (with_reducible refine Eq.trans (foldr_dump _ (fun a s => ?_) _ _) ?_) | (with_reducible refine Eq.trans (foldr_cipher _ (fun a s => ?_) _ _) ?_) | (with_reducible refine Eq.trans (foldr_skv _ (fun a s => ?_) _ _) ?_) | (with_reducible refine Eq.trans (foldr_mc _ (fun a s => ?_) _ _) ?_) | (with_reducible refine Eq.trans (foldr_media _ (fun a s => ?_) _ _) ?_) | split | dsimp only | simp [-List.reduceReplicate] | (rename_i heq; split at heq <;> cases heq <;> simp)))
@[simp] theorem State.goodReadings_kept (s : State) :
    (State.goodReadings s).pending = s.pending ∧ (State.goodReadings s).wheel = s.wheel ∧ (State.goodReadings s).plan = s.plan ∧ (State.goodReadings s).rein = s.rein ∧ (State.goodReadings s).dram = s.dram ∧ (State.goodReadings s).dma = s.dma ∧ (State.goodReadings s).img = s.img ∧ (State.goodReadings s).awl = s.awl ∧ (State.goodReadings s).codec = s.codec ∧ (State.goodReadings s).map = s.map ∧ (State.goodReadings s).blk = s.blk ∧ (State.goodReadings s).girth = s.girth ∧ (State.goodReadings s).wb = s.wb ∧ (State.goodReadings s).dump = s.dump ∧ (State.goodReadings s).cipher = s.cipher ∧ (State.goodReadings s).skv = s.skv ∧ (State.goodReadings s).mc = s.mc ∧ (State.goodReadings s).media = s.media := by
  simp [State.goodReadings]
@[simp] theorem State.enforce_kept (s : State) (l : Nat) :
    (State.enforce s l).pending = s.pending ∧ (State.enforce s l).wheel = s.wheel ∧ (State.enforce s l).plan = s.plan ∧ (State.enforce s l).rein = s.rein ∧ (State.enforce s l).dram = s.dram ∧ (State.enforce s l).dma = s.dma ∧ (State.enforce s l).img = s.img ∧ (State.enforce s l).awl = s.awl ∧ (State.enforce s l).codec = s.codec ∧ (State.enforce s l).map = s.map ∧ (State.enforce s l).blk = s.blk ∧ (State.enforce s l).girth = s.girth ∧ (State.enforce s l).wb = s.wb ∧ (State.enforce s l).dump = s.dump ∧ (State.enforce s l).cipher = s.cipher ∧ (State.enforce s l).skv = s.skv ∧ (State.enforce s l).mc = s.mc ∧ (State.enforce s l).media = s.media := by
  simp [State.enforce]
@[simp] theorem State.ask_kept (s : State) (l : Nat) :
    (State.ask s l).pending = s.pending ∧ (State.ask s l).wheel = s.wheel ∧ (State.ask s l).plan = s.plan ∧ (State.ask s l).rein = s.rein ∧ (State.ask s l).dram = s.dram ∧ (State.ask s l).dma = s.dma ∧ (State.ask s l).img = s.img ∧ (State.ask s l).awl = s.awl ∧ (State.ask s l).codec = s.codec ∧ (State.ask s l).map = s.map ∧ (State.ask s l).blk = s.blk ∧ (State.ask s l).girth = s.girth ∧ (State.ask s l).wb = s.wb ∧ (State.ask s l).dump = s.dump ∧ (State.ask s l).cipher = s.cipher ∧ (State.ask s l).skv = s.skv ∧ (State.ask s l).mc = s.mc ∧ (State.ask s l).media = s.media := by
  simp [State.ask]
@[simp] theorem State.levelRises_kept (s : State) (new : Nat) :
    (State.levelRises s new).pending = s.pending ∧ (State.levelRises s new).wheel = s.wheel ∧ (State.levelRises s new).plan = s.plan ∧ (State.levelRises s new).rein = s.rein ∧ (State.levelRises s new).dram = s.dram ∧ (State.levelRises s new).dma = s.dma ∧ (State.levelRises s new).img = s.img ∧ (State.levelRises s new).awl = s.awl ∧ (State.levelRises s new).codec = s.codec ∧ (State.levelRises s new).map = s.map ∧ (State.levelRises s new).blk = s.blk ∧ (State.levelRises s new).girth = s.girth ∧ (State.levelRises s new).wb = s.wb ∧ (State.levelRises s new).dump = s.dump ∧ (State.levelRises s new).cipher = s.cipher ∧ (State.levelRises s new).skv = s.skv ∧ (State.levelRises s new).mc = s.mc ∧ (State.levelRises s new).media = s.media := by
  simp [State.levelRises]
@[simp] theorem State.levelFalls_kept (s : State) :
    (State.levelFalls s).pending = s.pending ∧ (State.levelFalls s).wheel = s.wheel ∧ (State.levelFalls s).plan = s.plan ∧ (State.levelFalls s).rein = s.rein ∧ (State.levelFalls s).dram = s.dram ∧ (State.levelFalls s).dma = s.dma ∧ (State.levelFalls s).img = s.img ∧ (State.levelFalls s).awl = s.awl ∧ (State.levelFalls s).codec = s.codec ∧ (State.levelFalls s).map = s.map ∧ (State.levelFalls s).blk = s.blk ∧ (State.levelFalls s).girth = s.girth ∧ (State.levelFalls s).wb = s.wb ∧ (State.levelFalls s).dump = s.dump ∧ (State.levelFalls s).cipher = s.cipher ∧ (State.levelFalls s).skv = s.skv ∧ (State.levelFalls s).mc = s.mc ∧ (State.levelFalls s).media = s.media := by
  simp [State.levelFalls]
@[simp] theorem State.levelRise_kept (s : State) :
    (State.levelRise s).pending = s.pending ∧ (State.levelRise s).wheel = s.wheel ∧ (State.levelRise s).plan = s.plan ∧ (State.levelRise s).rein = s.rein ∧ (State.levelRise s).dram = s.dram ∧ (State.levelRise s).dma = s.dma ∧ (State.levelRise s).img = s.img ∧ (State.levelRise s).awl = s.awl ∧ (State.levelRise s).codec = s.codec ∧ (State.levelRise s).map = s.map ∧ (State.levelRise s).blk = s.blk ∧ (State.levelRise s).girth = s.girth ∧ (State.levelRise s).wb = s.wb ∧ (State.levelRise s).dump = s.dump ∧ (State.levelRise s).cipher = s.cipher ∧ (State.levelRise s).skv = s.skv ∧ (State.levelRise s).mc = s.mc ∧ (State.levelRise s).media = s.media := by
  simp [State.levelRise]
@[simp] theorem State.levelStep_kept (s : State) :
    (State.levelStep s).pending = s.pending ∧ (State.levelStep s).wheel = s.wheel ∧ (State.levelStep s).plan = s.plan ∧ (State.levelStep s).rein = s.rein ∧ (State.levelStep s).dram = s.dram ∧ (State.levelStep s).dma = s.dma ∧ (State.levelStep s).img = s.img ∧ (State.levelStep s).awl = s.awl ∧ (State.levelStep s).codec = s.codec ∧ (State.levelStep s).map = s.map ∧ (State.levelStep s).blk = s.blk ∧ (State.levelStep s).girth = s.girth ∧ (State.levelStep s).wb = s.wb ∧ (State.levelStep s).dump = s.dump ∧ (State.levelStep s).cipher = s.cipher ∧ (State.levelStep s).skv = s.skv ∧ (State.levelStep s).mc = s.mc ∧ (State.levelStep s).media = s.media := by
  simp [State.levelStep]
@[simp] theorem State.tempCheck_kept (s : State) :
    (State.tempCheck s).pending = s.pending ∧ (State.tempCheck s).wheel = s.wheel ∧ (State.tempCheck s).plan = s.plan ∧ (State.tempCheck s).rein = s.rein ∧ (State.tempCheck s).dram = s.dram ∧ (State.tempCheck s).dma = s.dma ∧ (State.tempCheck s).img = s.img ∧ (State.tempCheck s).awl = s.awl ∧ (State.tempCheck s).codec = s.codec ∧ (State.tempCheck s).map = s.map ∧ (State.tempCheck s).blk = s.blk ∧ (State.tempCheck s).girth = s.girth ∧ (State.tempCheck s).wb = s.wb ∧ (State.tempCheck s).dump = s.dump ∧ (State.tempCheck s).cipher = s.cipher ∧ (State.tempCheck s).skv = s.skv ∧ (State.tempCheck s).mc = s.mc ∧ (State.tempCheck s).media = s.media := by
  simp [State.tempCheck]
@[simp] theorem State.trip_kept (s : State) (d : Nat) :
    (State.trip s d).pending = s.pending ∧ (State.trip s d).dma = s.dma ∧ (State.trip s d).img = s.img ∧ (State.trip s d).wheel.pins = s.wheel.pins := by
  simp [State.trip]
@[simp] theorem State.tripStep_kept (s : State) :
    (State.tripStep s).pending = s.pending ∧ (State.tripStep s).dma = s.dma ∧ (State.tripStep s).img = s.img ∧ (State.tripStep s).wheel.pins = s.wheel.pins := by
  unfold State.tripStep; refine ⟨?_, ?_, ?_, ?_⟩ <;> (repeat' (first | (simp; done) | split | dsimp only | simp))
theorem execSensorConversion_kept (readings : Sys2Proof.SensorReadings) (s : State) :
    ∃ t, execSensorConversion readings s = .next t ∧ t.pending = s.pending ∧ t.dma = s.dma ∧ t.img = s.img ∧ t.wheel.pins = s.wheel.pins := by
  unfold execSensorConversion; (repeat' split) <;> (refine ⟨_, rfl, ?_⟩; simp)
theorem execSensorNoConversion_kept (sensor : Nat) (s : State) :
    ∃ t, execSensorNoConversion sensor s = .next t ∧ t.pending = s.pending ∧ t.wheel = s.wheel ∧ t.plan = s.plan ∧ t.rein = s.rein ∧ t.dram = s.dram ∧ t.dma = s.dma ∧ t.img = s.img ∧ t.awl = s.awl ∧ t.codec = s.codec ∧ t.map = s.map ∧ t.blk = s.blk ∧ t.girth = s.girth ∧ t.wb = s.wb ∧ t.dump = s.dump ∧ t.cipher = s.cipher ∧ t.skv = s.skv ∧ t.mc = s.mc ∧ t.media = s.media := by
  unfold execSensorNoConversion; (repeat' split) <;> (refine ⟨_, rfl, ?_⟩; simp)
theorem execSensorWorksAgain_kept (sensor : Nat) (s : State) :
    ∃ t, execSensorWorksAgain sensor s = .next t ∧ t.pending = s.pending ∧ t.wheel = s.wheel ∧ t.plan = s.plan ∧ t.rein = s.rein ∧ t.dram = s.dram ∧ t.dma = s.dma ∧ t.img = s.img ∧ t.awl = s.awl ∧ t.codec = s.codec ∧ t.map = s.map ∧ t.blk = s.blk ∧ t.girth = s.girth ∧ t.wb = s.wb ∧ t.dump = s.dump ∧ t.cipher = s.cipher ∧ t.skv = s.skv ∧ t.mc = s.mc ∧ t.media = s.media := by
  unfold execSensorWorksAgain; dsimp only; (repeat' split) <;> (refine ⟨_, rfl, ?_⟩; simp)
theorem execThermalLevelFall_kept (s : State) :
    ∃ t, execThermalLevelFall s = .next t ∧ t.pending = s.pending ∧ t.wheel = s.wheel ∧ t.plan = s.plan ∧ t.rein = s.rein ∧ t.dram = s.dram ∧ t.dma = s.dma ∧ t.img = s.img ∧ t.awl = s.awl ∧ t.codec = s.codec ∧ t.map = s.map ∧ t.blk = s.blk ∧ t.girth = s.girth ∧ t.wb = s.wb ∧ t.dump = s.dump ∧ t.cipher = s.cipher ∧ t.skv = s.skv ∧ t.mc = s.mc ∧ t.media = s.media := by
  unfold execThermalLevelFall; (repeat' split) <;> (refine ⟨_, rfl, ?_⟩; simp)
theorem execGraceExpire_kept (second : Bool) (s : State) :
    ∃ t, execGraceExpire second s = .next t ∧ t.pending = s.pending ∧ t.wheel = s.wheel ∧ t.plan = s.plan ∧ t.rein = s.rein ∧ t.dram = s.dram ∧ t.dma = s.dma ∧ t.img = s.img ∧ t.awl = s.awl ∧ t.codec = s.codec ∧ t.map = s.map ∧ t.blk = s.blk ∧ t.girth = s.girth ∧ t.wb = s.wb ∧ t.dump = s.dump ∧ t.cipher = s.cipher ∧ t.skv = s.skv ∧ t.mc = s.mc ∧ t.media = s.media := by
  unfold execGraceExpire; (repeat' split) <;> (refine ⟨_, rfl, ?_⟩; simp)
theorem execTripResume_kept (s : State) :
    ∃ t, execTripResume s = .next t ∧ t.pending = s.pending := by
  unfold execTripResume; (repeat' split) <;> (refine ⟨_, rfl, ?_⟩; simp)
theorem execReserveCompUpdate_kept (s : State) :
    ∃ t, execReserveCompUpdate s = .next t ∧ t.pending = s.pending ∧ t.wheel = s.wheel ∧ t.plan = s.plan ∧ t.rein = s.rein ∧ t.dram = s.dram ∧ t.dma = s.dma ∧ t.img = s.img ∧ t.awl = s.awl ∧ t.codec = s.codec ∧ t.map = s.map ∧ t.blk = s.blk ∧ t.girth = s.girth ∧ t.wb = s.wb ∧ t.dump = s.dump ∧ t.cipher = s.cipher ∧ t.skv = s.skv ∧ t.mc = s.mc ∧ t.media = s.media := by
  unfold execReserveCompUpdate; (repeat' split) <;> (refine ⟨_, rfl, ?_⟩; simp)
theorem execSetFeaturesTempThreshold_kept (tag : Nat) (s : State) :
    ∃ t, execSetFeaturesTempThreshold tag s = .next t ∧ t.pending = s.pending ∧ t.wheel = s.wheel ∧ t.plan = s.plan ∧ t.rein = s.rein ∧ t.dram = s.dram ∧ t.dma = s.dma ∧ t.img = s.img ∧ t.awl = s.awl ∧ t.codec = s.codec ∧ t.map = s.map ∧ t.blk = s.blk ∧ t.girth = s.girth ∧ t.wb = s.wb ∧ t.dump = s.dump ∧ t.cipher = s.cipher ∧ t.skv = s.skv ∧ t.mc = s.mc ∧ t.media = s.media := by
  refine ⟨_, rfl, ?_⟩; simp
theorem execGetFeaturesTempThreshold_kept (tag : Nat) (s : State) :
    ∃ t, execGetFeaturesTempThreshold tag s = .next t ∧ t.pending = s.pending ∧ t.wheel = s.wheel ∧ t.plan = s.plan ∧ t.rein = s.rein ∧ t.dram = s.dram ∧ t.dma = s.dma ∧ t.therm = s.therm ∧ t.img = s.img ∧ t.awl = s.awl ∧ t.codec = s.codec ∧ t.map = s.map ∧ t.blk = s.blk ∧ t.girth = s.girth ∧ t.wb = s.wb ∧ t.dump = s.dump ∧ t.cipher = s.cipher ∧ t.skv = s.skv ∧ t.mc = s.mc ∧ t.media = s.media := by
  refine ⟨_, rfl, ?_⟩; simp

end Sys2Proof.Machine
end

