-- ==== Sys2Proof/Laws/KeptFeatures.lean ====
section
/-! SUPPORT. What each function of Sys2Proof/Machine/Features.lean leaves unchanged: one lemma a function. -/
set_option linter.unusedTactic false
set_option linter.unreachableTactic false
set_option linter.unusedSimpArgs false
namespace Sys2Proof.Machine

@[simp] theorem State.setFeature_pending (s : State) (tag : Nat) (fid : Nat) (f : State → Cmd → State) (h : ∀ x0 x1, (f x0 x1).pending = x0.pending) :
    (State.setFeature s tag fid f).pending = s.pending := by
  simp [State.setFeature, h]
@[simp] theorem State.setFeature_wheel (s : State) (tag : Nat) (fid : Nat) (f : State → Cmd → State) (h : ∀ x0 x1, (f x0 x1).wheel = x0.wheel) :
    (State.setFeature s tag fid f).wheel = s.wheel := by
  simp [State.setFeature, h]
@[simp] theorem State.setFeature_plan (s : State) (tag : Nat) (fid : Nat) (f : State → Cmd → State) (h : ∀ x0 x1, (f x0 x1).plan = x0.plan) :
    (State.setFeature s tag fid f).plan = s.plan := by
  simp [State.setFeature, h]
@[simp] theorem State.setFeature_rein (s : State) (tag : Nat) (fid : Nat) (f : State → Cmd → State) (h : ∀ x0 x1, (f x0 x1).rein = x0.rein) :
    (State.setFeature s tag fid f).rein = s.rein := by
  simp [State.setFeature, h]
@[simp] theorem State.setFeature_dram (s : State) (tag : Nat) (fid : Nat) (f : State → Cmd → State) (h : ∀ x0 x1, (f x0 x1).dram = x0.dram) :
    (State.setFeature s tag fid f).dram = s.dram := by
  simp [State.setFeature, h]
@[simp] theorem State.setFeature_dma (s : State) (tag : Nat) (fid : Nat) (f : State → Cmd → State) (h : ∀ x0 x1, (f x0 x1).dma = x0.dma) :
    (State.setFeature s tag fid f).dma = s.dma := by
  simp [State.setFeature, h]
@[simp] theorem State.setFeature_therm (s : State) (tag : Nat) (fid : Nat) (f : State → Cmd → State) (h : ∀ x0 x1, (f x0 x1).therm = x0.therm) :
    (State.setFeature s tag fid f).therm = s.therm := by
  simp [State.setFeature, h]
@[simp] theorem State.setFeature_img (s : State) (tag : Nat) (fid : Nat) (f : State → Cmd → State) (h : ∀ x0 x1, (f x0 x1).img = x0.img) :
    (State.setFeature s tag fid f).img = s.img := by
  simp [State.setFeature, h]
@[simp] theorem State.setFeature_awl (s : State) (tag : Nat) (fid : Nat) (f : State → Cmd → State) (h : ∀ x0 x1, (f x0 x1).awl = x0.awl) :
    (State.setFeature s tag fid f).awl = s.awl := by
  simp [State.setFeature, h]
@[simp] theorem State.setFeature_codec (s : State) (tag : Nat) (fid : Nat) (f : State → Cmd → State) (h : ∀ x0 x1, (f x0 x1).codec = x0.codec) :
    (State.setFeature s tag fid f).codec = s.codec := by
  simp [State.setFeature, h]
@[simp] theorem State.setFeature_map (s : State) (tag : Nat) (fid : Nat) (f : State → Cmd → State) (h : ∀ x0 x1, (f x0 x1).map = x0.map) :
    (State.setFeature s tag fid f).map = s.map := by
  simp [State.setFeature, h]
@[simp] theorem State.setFeature_blk (s : State) (tag : Nat) (fid : Nat) (f : State → Cmd → State) (h : ∀ x0 x1, (f x0 x1).blk = x0.blk) :
    (State.setFeature s tag fid f).blk = s.blk := by
  simp [State.setFeature, h]
@[simp] theorem State.setFeature_girth (s : State) (tag : Nat) (fid : Nat) (f : State → Cmd → State) (h : ∀ x0 x1, (f x0 x1).girth = x0.girth) :
    (State.setFeature s tag fid f).girth = s.girth := by
  simp [State.setFeature, h]
@[simp] theorem State.setFeature_wb (s : State) (tag : Nat) (fid : Nat) (f : State → Cmd → State) (h : ∀ x0 x1, (f x0 x1).wb = x0.wb) :
    (State.setFeature s tag fid f).wb = s.wb := by
  simp [State.setFeature, h]
@[simp] theorem State.setFeature_dump (s : State) (tag : Nat) (fid : Nat) (f : State → Cmd → State) (h : ∀ x0 x1, (f x0 x1).dump = x0.dump) :
    (State.setFeature s tag fid f).dump = s.dump := by
  simp [State.setFeature, h]
@[simp] theorem State.setFeature_cipher (s : State) (tag : Nat) (fid : Nat) (f : State → Cmd → State) (h : ∀ x0 x1, (f x0 x1).cipher = x0.cipher) :
    (State.setFeature s tag fid f).cipher = s.cipher := by
  simp [State.setFeature, h]
@[simp] theorem State.setFeature_skv (s : State) (tag : Nat) (fid : Nat) (f : State → Cmd → State) (h : ∀ x0 x1, (f x0 x1).skv = x0.skv) :
    (State.setFeature s tag fid f).skv = s.skv := by
  simp [State.setFeature, h]
@[simp] theorem State.setFeature_mc (s : State) (tag : Nat) (fid : Nat) (f : State → Cmd → State) (h : ∀ x0 x1, (f x0 x1).mc = x0.mc) :
    (State.setFeature s tag fid f).mc = s.mc := by
  simp [State.setFeature, h]
@[simp] theorem State.setFeature_media (s : State) (tag : Nat) (fid : Nat) (f : State → Cmd → State) (h : ∀ x0 x1, (f x0 x1).media = x0.media) :
    (State.setFeature s tag fid f).media = s.media := by
  simp [State.setFeature, h]
@[simp] theorem State.setFeature_wheel_pins (s : State) (tag : Nat) (fid : Nat) (f : State → Cmd → State) (h : ∀ x0 x1, (f x0 x1).wheel.pins = x0.wheel.pins) :
    (State.setFeature s tag fid f).wheel.pins = s.wheel.pins := by
  simp [State.setFeature, h]
@[simp] theorem State.getFeature_pending (s : State) (tag : Nat) (fid : Nat) (f : State → Cmd → State) (h : ∀ x0 x1, (f x0 x1).pending = x0.pending) :
    (State.getFeature s tag fid f).pending = s.pending := by
  simp [State.getFeature, h]
@[simp] theorem State.getFeature_wheel (s : State) (tag : Nat) (fid : Nat) (f : State → Cmd → State) (h : ∀ x0 x1, (f x0 x1).wheel = x0.wheel) :
    (State.getFeature s tag fid f).wheel = s.wheel := by
  simp [State.getFeature, h]
@[simp] theorem State.getFeature_plan (s : State) (tag : Nat) (fid : Nat) (f : State → Cmd → State) (h : ∀ x0 x1, (f x0 x1).plan = x0.plan) :
    (State.getFeature s tag fid f).plan = s.plan := by
  simp [State.getFeature, h]
@[simp] theorem State.getFeature_rein (s : State) (tag : Nat) (fid : Nat) (f : State → Cmd → State) (h : ∀ x0 x1, (f x0 x1).rein = x0.rein) :
    (State.getFeature s tag fid f).rein = s.rein := by
  simp [State.getFeature, h]
@[simp] theorem State.getFeature_dram (s : State) (tag : Nat) (fid : Nat) (f : State → Cmd → State) (h : ∀ x0 x1, (f x0 x1).dram = x0.dram) :
    (State.getFeature s tag fid f).dram = s.dram := by
  simp [State.getFeature, h]
@[simp] theorem State.getFeature_dma (s : State) (tag : Nat) (fid : Nat) (f : State → Cmd → State) (h : ∀ x0 x1, (f x0 x1).dma = x0.dma) :
    (State.getFeature s tag fid f).dma = s.dma := by
  simp [State.getFeature, h]
@[simp] theorem State.getFeature_therm (s : State) (tag : Nat) (fid : Nat) (f : State → Cmd → State) (h : ∀ x0 x1, (f x0 x1).therm = x0.therm) :
    (State.getFeature s tag fid f).therm = s.therm := by
  simp [State.getFeature, h]
@[simp] theorem State.getFeature_img (s : State) (tag : Nat) (fid : Nat) (f : State → Cmd → State) (h : ∀ x0 x1, (f x0 x1).img = x0.img) :
    (State.getFeature s tag fid f).img = s.img := by
  simp [State.getFeature, h]
@[simp] theorem State.getFeature_awl (s : State) (tag : Nat) (fid : Nat) (f : State → Cmd → State) (h : ∀ x0 x1, (f x0 x1).awl = x0.awl) :
    (State.getFeature s tag fid f).awl = s.awl := by
  simp [State.getFeature, h]
@[simp] theorem State.getFeature_codec (s : State) (tag : Nat) (fid : Nat) (f : State → Cmd → State) (h : ∀ x0 x1, (f x0 x1).codec = x0.codec) :
    (State.getFeature s tag fid f).codec = s.codec := by
  simp [State.getFeature, h]
@[simp] theorem State.getFeature_map (s : State) (tag : Nat) (fid : Nat) (f : State → Cmd → State) (h : ∀ x0 x1, (f x0 x1).map = x0.map) :
    (State.getFeature s tag fid f).map = s.map := by
  simp [State.getFeature, h]
@[simp] theorem State.getFeature_blk (s : State) (tag : Nat) (fid : Nat) (f : State → Cmd → State) (h : ∀ x0 x1, (f x0 x1).blk = x0.blk) :
    (State.getFeature s tag fid f).blk = s.blk := by
  simp [State.getFeature, h]
@[simp] theorem State.getFeature_girth (s : State) (tag : Nat) (fid : Nat) (f : State → Cmd → State) (h : ∀ x0 x1, (f x0 x1).girth = x0.girth) :
    (State.getFeature s tag fid f).girth = s.girth := by
  simp [State.getFeature, h]
@[simp] theorem State.getFeature_wb (s : State) (tag : Nat) (fid : Nat) (f : State → Cmd → State) (h : ∀ x0 x1, (f x0 x1).wb = x0.wb) :
    (State.getFeature s tag fid f).wb = s.wb := by
  simp [State.getFeature, h]
@[simp] theorem State.getFeature_dump (s : State) (tag : Nat) (fid : Nat) (f : State → Cmd → State) (h : ∀ x0 x1, (f x0 x1).dump = x0.dump) :
    (State.getFeature s tag fid f).dump = s.dump := by
  simp [State.getFeature, h]
@[simp] theorem State.getFeature_cipher (s : State) (tag : Nat) (fid : Nat) (f : State → Cmd → State) (h : ∀ x0 x1, (f x0 x1).cipher = x0.cipher) :
    (State.getFeature s tag fid f).cipher = s.cipher := by
  simp [State.getFeature, h]
@[simp] theorem State.getFeature_skv (s : State) (tag : Nat) (fid : Nat) (f : State → Cmd → State) (h : ∀ x0 x1, (f x0 x1).skv = x0.skv) :
    (State.getFeature s tag fid f).skv = s.skv := by
  simp [State.getFeature, h]
@[simp] theorem State.getFeature_mc (s : State) (tag : Nat) (fid : Nat) (f : State → Cmd → State) (h : ∀ x0 x1, (f x0 x1).mc = x0.mc) :
    (State.getFeature s tag fid f).mc = s.mc := by
  simp [State.getFeature, h]
@[simp] theorem State.getFeature_media (s : State) (tag : Nat) (fid : Nat) (f : State → Cmd → State) (h : ∀ x0 x1, (f x0 x1).media = x0.media) :
    (State.getFeature s tag fid f).media = s.media := by
  simp [State.getFeature, h]
@[simp] theorem State.getFeature_wheel_pins (s : State) (tag : Nat) (fid : Nat) (f : State → Cmd → State) (h : ∀ x0 x1, (f x0 x1).wheel.pins = x0.wheel.pins) :
    (State.getFeature s tag fid f).wheel.pins = s.wheel.pins := by
  simp [State.getFeature, h]
@[simp] theorem State.getDw0_kept (s : State) (tag : Nat) (c : Cmd) (current : Nat) (dflt : Nat) :
    (State.getDw0 s tag c current dflt).pending = s.pending ∧ (State.getDw0 s tag c current dflt).wheel = s.wheel ∧ (State.getDw0 s tag c current dflt).plan = s.plan ∧ (State.getDw0 s tag c current dflt).rein = s.rein ∧ (State.getDw0 s tag c current dflt).dram = s.dram ∧ (State.getDw0 s tag c current dflt).dma = s.dma ∧ (State.getDw0 s tag c current dflt).therm = s.therm ∧ (State.getDw0 s tag c current dflt).img = s.img ∧ (State.getDw0 s tag c current dflt).awl = s.awl ∧ (State.getDw0 s tag c current dflt).codec = s.codec ∧ (State.getDw0 s tag c current dflt).map = s.map ∧ (State.getDw0 s tag c current dflt).blk = s.blk ∧ (State.getDw0 s tag c current dflt).girth = s.girth ∧ (State.getDw0 s tag c current dflt).wb = s.wb ∧ (State.getDw0 s tag c current dflt).dump = s.dump ∧ (State.getDw0 s tag c current dflt).cipher = s.cipher ∧ (State.getDw0 s tag c current dflt).skv = s.skv ∧ (State.getDw0 s tag c current dflt).mc = s.mc ∧ (State.getDw0 s tag c current dflt).media = s.media := by
  unfold State.getDw0; split <;> simp
@[simp] theorem State.saveFeature_kept (s : State) (tag : Nat) (c : Cmd) (fid : Nat) (sel : Nat) (buf : BitVec 256) :
    (State.saveFeature s tag c fid sel buf).pending = s.pending ∧ (State.saveFeature s tag c fid sel buf).wheel = s.wheel ∧ (State.saveFeature s tag c fid sel buf).plan = s.plan ∧ (State.saveFeature s tag c fid sel buf).rein = s.rein ∧ (State.saveFeature s tag c fid sel buf).dram = s.dram ∧ (State.saveFeature s tag c fid sel buf).dma = s.dma ∧ (State.saveFeature s tag c fid sel buf).therm = s.therm ∧ (State.saveFeature s tag c fid sel buf).img = s.img ∧ (State.saveFeature s tag c fid sel buf).awl = s.awl ∧ (State.saveFeature s tag c fid sel buf).codec = s.codec ∧ (State.saveFeature s tag c fid sel buf).map = s.map ∧ (State.saveFeature s tag c fid sel buf).blk = s.blk ∧ (State.saveFeature s tag c fid sel buf).girth = s.girth ∧ (State.saveFeature s tag c fid sel buf).wb = s.wb ∧ (State.saveFeature s tag c fid sel buf).dump = s.dump ∧ (State.saveFeature s tag c fid sel buf).cipher = s.cipher ∧ (State.saveFeature s tag c fid sel buf).skv = s.skv ∧ (State.saveFeature s tag c fid sel buf).mc = s.mc ∧ (State.saveFeature s tag c fid sel buf).media = s.media := by
  simp [State.saveFeature]
theorem execSetFeaturesArbitration_kept (tag : Nat) (s : State) :
    ∃ t, execSetFeaturesArbitration tag s = .next t ∧ t.pending = s.pending ∧ t.wheel = s.wheel ∧ t.plan = s.plan ∧ t.rein = s.rein ∧ t.dram = s.dram ∧ t.dma = s.dma ∧ t.therm = s.therm ∧ t.img = s.img ∧ t.awl = s.awl ∧ t.codec = s.codec ∧ t.map = s.map ∧ t.blk = s.blk ∧ t.girth = s.girth ∧ t.wb = s.wb ∧ t.dump = s.dump ∧ t.cipher = s.cipher ∧ t.skv = s.skv ∧ t.mc = s.mc ∧ t.media = s.media := by
  refine ⟨_, rfl, ?_⟩; simp
theorem execGetFeaturesArbitration_kept (tag : Nat) (s : State) :
    ∃ t, execGetFeaturesArbitration tag s = .next t ∧ t.pending = s.pending ∧ t.wheel = s.wheel ∧ t.plan = s.plan ∧ t.rein = s.rein ∧ t.dram = s.dram ∧ t.dma = s.dma ∧ t.therm = s.therm ∧ t.img = s.img ∧ t.awl = s.awl ∧ t.codec = s.codec ∧ t.map = s.map ∧ t.blk = s.blk ∧ t.girth = s.girth ∧ t.wb = s.wb ∧ t.dump = s.dump ∧ t.cipher = s.cipher ∧ t.skv = s.skv ∧ t.mc = s.mc ∧ t.media = s.media := by
  refine ⟨_, rfl, ?_⟩; simp
theorem execSetFeaturesIntCoalescing_kept (tag : Nat) (s : State) :
    ∃ t, execSetFeaturesIntCoalescing tag s = .next t ∧ t.pending = s.pending ∧ t.wheel = s.wheel ∧ t.plan = s.plan ∧ t.rein = s.rein ∧ t.dram = s.dram ∧ t.dma = s.dma ∧ t.therm = s.therm ∧ t.img = s.img ∧ t.awl = s.awl ∧ t.codec = s.codec ∧ t.map = s.map ∧ t.blk = s.blk ∧ t.girth = s.girth ∧ t.wb = s.wb ∧ t.dump = s.dump ∧ t.cipher = s.cipher ∧ t.skv = s.skv ∧ t.mc = s.mc ∧ t.media = s.media := by
  refine ⟨_, rfl, ?_⟩; simp
theorem execGetFeaturesIntCoalescing_kept (tag : Nat) (s : State) :
    ∃ t, execGetFeaturesIntCoalescing tag s = .next t ∧ t.pending = s.pending ∧ t.wheel = s.wheel ∧ t.plan = s.plan ∧ t.rein = s.rein ∧ t.dram = s.dram ∧ t.dma = s.dma ∧ t.therm = s.therm ∧ t.img = s.img ∧ t.awl = s.awl ∧ t.codec = s.codec ∧ t.map = s.map ∧ t.blk = s.blk ∧ t.girth = s.girth ∧ t.wb = s.wb ∧ t.dump = s.dump ∧ t.cipher = s.cipher ∧ t.skv = s.skv ∧ t.mc = s.mc ∧ t.media = s.media := by
  refine ⟨_, rfl, ?_⟩; simp
theorem execSetFeaturesIntVectorCfg_kept (tag : Nat) (s : State) :
    ∃ t, execSetFeaturesIntVectorCfg tag s = .next t ∧ t.pending = s.pending ∧ t.wheel = s.wheel ∧ t.plan = s.plan ∧ t.rein = s.rein ∧ t.dram = s.dram ∧ t.dma = s.dma ∧ t.therm = s.therm ∧ t.img = s.img ∧ t.awl = s.awl ∧ t.codec = s.codec ∧ t.map = s.map ∧ t.blk = s.blk ∧ t.girth = s.girth ∧ t.wb = s.wb ∧ t.dump = s.dump ∧ t.cipher = s.cipher ∧ t.skv = s.skv ∧ t.mc = s.mc ∧ t.media = s.media := by
  refine ⟨_, rfl, ?_⟩; simp
theorem execGetFeaturesIntVectorCfg_kept (tag : Nat) (s : State) :
    ∃ t, execGetFeaturesIntVectorCfg tag s = .next t ∧ t.pending = s.pending ∧ t.wheel = s.wheel ∧ t.plan = s.plan ∧ t.rein = s.rein ∧ t.dram = s.dram ∧ t.dma = s.dma ∧ t.therm = s.therm ∧ t.img = s.img ∧ t.awl = s.awl ∧ t.codec = s.codec ∧ t.map = s.map ∧ t.blk = s.blk ∧ t.girth = s.girth ∧ t.wb = s.wb ∧ t.dump = s.dump ∧ t.cipher = s.cipher ∧ t.skv = s.skv ∧ t.mc = s.mc ∧ t.media = s.media := by
  refine ⟨_, rfl, ?_⟩; simp
theorem execSetFeaturesAsyncEventCfg_kept (tag : Nat) (s : State) :
    ∃ t, execSetFeaturesAsyncEventCfg tag s = .next t ∧ t.pending = s.pending ∧ t.wheel = s.wheel ∧ t.plan = s.plan ∧ t.rein = s.rein ∧ t.dram = s.dram ∧ t.dma = s.dma ∧ t.therm = s.therm ∧ t.img = s.img ∧ t.awl = s.awl ∧ t.codec = s.codec ∧ t.map = s.map ∧ t.blk = s.blk ∧ t.girth = s.girth ∧ t.wb = s.wb ∧ t.dump = s.dump ∧ t.cipher = s.cipher ∧ t.skv = s.skv ∧ t.mc = s.mc ∧ t.media = s.media := by
  refine ⟨_, rfl, ?_⟩; simp
theorem execGetFeaturesAsyncEventCfg_kept (tag : Nat) (s : State) :
    ∃ t, execGetFeaturesAsyncEventCfg tag s = .next t ∧ t.pending = s.pending ∧ t.wheel = s.wheel ∧ t.plan = s.plan ∧ t.rein = s.rein ∧ t.dram = s.dram ∧ t.dma = s.dma ∧ t.therm = s.therm ∧ t.img = s.img ∧ t.awl = s.awl ∧ t.codec = s.codec ∧ t.map = s.map ∧ t.blk = s.blk ∧ t.girth = s.girth ∧ t.wb = s.wb ∧ t.dump = s.dump ∧ t.cipher = s.cipher ∧ t.skv = s.skv ∧ t.mc = s.mc ∧ t.media = s.media := by
  refine ⟨_, rfl, ?_⟩; simp
@[simp] theorem State.enterPs4_kept (s : State) :
    (State.enterPs4 s).pending = s.pending ∧ (State.enterPs4 s).wheel = s.wheel ∧ (State.enterPs4 s).plan = s.plan ∧ (State.enterPs4 s).rein = s.rein ∧ (State.enterPs4 s).dram = s.dram ∧ (State.enterPs4 s).dma = s.dma ∧ (State.enterPs4 s).therm = s.therm ∧ (State.enterPs4 s).img = s.img ∧ (State.enterPs4 s).awl = s.awl ∧ (State.enterPs4 s).codec = s.codec ∧ (State.enterPs4 s).map = s.map ∧ (State.enterPs4 s).blk = s.blk ∧ (State.enterPs4 s).girth = s.girth ∧ (State.enterPs4 s).wb = s.wb ∧ (State.enterPs4 s).dump = s.dump ∧ (State.enterPs4 s).cipher = s.cipher ∧ (State.enterPs4 s).skv = s.skv ∧ (State.enterPs4 s).mc = s.mc ∧ (State.enterPs4 s).media = s.media := by
  simp [State.enterPs4]
theorem execSetFeaturesPsOperational_kept (tag : Nat) (s : State) :
    ∃ t, execSetFeaturesPsOperational tag s = .next t ∧ t.pending = s.pending ∧ t.wheel = s.wheel ∧ t.plan = s.plan ∧ t.rein = s.rein ∧ t.dram = s.dram ∧ t.dma = s.dma ∧ t.therm = s.therm ∧ t.img = s.img ∧ t.awl = s.awl ∧ t.codec = s.codec ∧ t.map = s.map ∧ t.blk = s.blk ∧ t.girth = s.girth ∧ t.wb = s.wb ∧ t.dump = s.dump ∧ t.cipher = s.cipher ∧ t.skv = s.skv ∧ t.mc = s.mc ∧ t.media = s.media := by
  unfold execSetFeaturesPsOperational; (repeat' (first | (refine ⟨_, rfl, ?_, ?_, ?_, ?_, ?_, ?_, ?_, ?_, ?_, ?_, ?_, ?_, ?_, ?_, ?_, ?_, ?_, ?_, ?_⟩ <;> (repeat' (first | (simp; done) | (with_reducible refine State.begin_pending _ _ _ _ _ _ (fun y0 y1 => ?_)) | (with_reducible refine State.begin_wheel _ _ _ _ _ _ (fun y0 y1 => ?_)) | (with_reducible refine State.begin_plan _ _ _ _ _ _ (fun y0 y1 => ?_)) | (with_reducible refine State.begin_rein _ _ _ _ _ _ (fun y0 y1 => ?_)) | (with_reducible refine State.begin_dram _ _ _ _ _ _ (fun y0 y1 => ?_)) | (with_reducible refine State.begin_dma _ _ _ _ _ _ (fun y0 y1 => ?_)) | (with_reducible refine State.begin_therm _ _ _ _ _ _ (fun y0 y1 => ?_)) | (with_reducible refine State.begin_img _ _ _ _ _ _ (fun y0 y1 => ?_)) | (with_reducible refine State.begin_awl _ _ _ _ _ _ (fun y0 y1 => ?_)) | (with_reducible refine State.begin_codec _ _ _ _ _ _ (fun y0 y1 => ?_)) | (with_reducible refine State.begin_map _ _ _ _ _ _ (fun y0 y1 => ?_)) | (with_reducible refine State.begin_blk _ _ _ _ _ _ (fun y0 y1 => ?_)) | (with_reducible refine State.begin_girth _ _ _ _ _ _ (fun y0 y1 => ?_)) | (with_reducible refine State.begin_wb _ _ _ _ _ _ (fun y0 y1 => ?_)) | (with_reducible refine State.begin_dump _ _ _ _ _ _ (fun y0 y1 => ?_)) | (with_reducible refine State.begin_cipher _ _ _ _ _ _ (fun y0 y1 => ?_)) | (with_reducible refine State.begin_skv _ _ _ _ _ _ (fun y0 y1 => ?_)) | (with_reducible refine State.begin_mc _ _ _ _ _ _ (fun y0 y1 => ?_)) | (with_reducible refine State.begin_media _ _ _ _ _ _ (fun y0 y1 => ?_)) | split | dsimp only | simp)); done) | split | dsimp only))
theorem execSetFeaturesPs4_kept (tag : Nat) (s : State) :
    ∃ t, execSetFeaturesPs4 tag s = .next t ∧ t.pending = s.pending ∧ t.wheel = s.wheel ∧ t.plan = s.plan ∧ t.rein = s.rein ∧ t.dram = s.dram ∧ t.dma = s.dma ∧ t.therm = s.therm ∧ t.img = s.img ∧ t.awl = s.awl ∧ t.codec = s.codec ∧ t.map = s.map ∧ t.blk = s.blk ∧ t.girth = s.girth ∧ t.wb = s.wb ∧ t.dump = s.dump ∧ t.cipher = s.cipher ∧ t.skv = s.skv ∧ t.mc = s.mc ∧ t.media = s.media := by
  refine ⟨_, rfl, ?_⟩; simp
@[simp] theorem State.sleepLinks_kept (s : State) :
    (State.sleepLinks s).pending = s.pending ∧ (State.sleepLinks s).wheel = s.wheel ∧ (State.sleepLinks s).plan = s.plan ∧ (State.sleepLinks s).dram = s.dram ∧ (State.sleepLinks s).dma = s.dma ∧ (State.sleepLinks s).therm = s.therm ∧ (State.sleepLinks s).img = s.img ∧ (State.sleepLinks s).awl = s.awl ∧ (State.sleepLinks s).codec = s.codec ∧ (State.sleepLinks s).map = s.map ∧ (State.sleepLinks s).blk = s.blk ∧ (State.sleepLinks s).girth = s.girth ∧ (State.sleepLinks s).wb = s.wb ∧ (State.sleepLinks s).dump = s.dump ∧ (State.sleepLinks s).cipher = s.cipher ∧ (State.sleepLinks s).skv = s.skv ∧ (State.sleepLinks s).mc = s.mc ∧ (State.sleepLinks s).media = s.media := by
  simp [State.sleepLinks]
@[simp] theorem State.wakeLinks_kept (s : State) :
    (State.wakeLinks s).pending = s.pending ∧ (State.wakeLinks s).wheel = s.wheel ∧ (State.wakeLinks s).plan = s.plan ∧ (State.wakeLinks s).dram = s.dram ∧ (State.wakeLinks s).dma = s.dma ∧ (State.wakeLinks s).therm = s.therm ∧ (State.wakeLinks s).img = s.img ∧ (State.wakeLinks s).awl = s.awl ∧ (State.wakeLinks s).codec = s.codec ∧ (State.wakeLinks s).map = s.map ∧ (State.wakeLinks s).blk = s.blk ∧ (State.wakeLinks s).girth = s.girth ∧ (State.wakeLinks s).wb = s.wb ∧ (State.wakeLinks s).dump = s.dump ∧ (State.wakeLinks s).cipher = s.cipher ∧ (State.wakeLinks s).skv = s.skv ∧ (State.wakeLinks s).mc = s.mc ∧ (State.wakeLinks s).media = s.media := by
  simp [State.wakeLinks]
theorem execPs4EntryEnd_kept (s : State) :
    ∃ t, execPs4EntryEnd s = .next t ∧ t.pending = s.pending ∧ t.wheel = s.wheel ∧ t.plan = s.plan ∧ t.dram = s.dram ∧ t.dma = s.dma ∧ t.therm = s.therm ∧ t.img = s.img ∧ t.awl = s.awl ∧ t.codec = s.codec ∧ t.map = s.map ∧ t.blk = s.blk ∧ t.girth = s.girth ∧ t.wb = s.wb ∧ t.dump = s.dump ∧ t.cipher = s.cipher ∧ t.skv = s.skv ∧ t.mc = s.mc ∧ t.media = s.media := by
  unfold execPs4EntryEnd; dsimp only; (repeat' split) <;> (refine ⟨_, rfl, ?_⟩; simp)
theorem execPs4ExitDone_kept (s : State) :
    ∃ t, execPs4ExitDone s = .next t ∧ t.pending = s.pending ∧ t.wheel = s.wheel ∧ t.plan = s.plan ∧ t.dram = s.dram ∧ t.dma = s.dma ∧ t.therm = s.therm ∧ t.img = s.img := by
  unfold execPs4ExitDone; (repeat' split) <;> (refine ⟨_, rfl, ?_⟩; simp)
theorem execGetFeaturesPowerMgmt_kept (tag : Nat) (s : State) :
    ∃ t, execGetFeaturesPowerMgmt tag s = .next t ∧ t.pending = s.pending ∧ t.wheel = s.wheel ∧ t.plan = s.plan ∧ t.rein = s.rein ∧ t.dram = s.dram ∧ t.dma = s.dma ∧ t.therm = s.therm ∧ t.img = s.img ∧ t.awl = s.awl ∧ t.codec = s.codec ∧ t.map = s.map ∧ t.blk = s.blk ∧ t.girth = s.girth ∧ t.wb = s.wb ∧ t.dump = s.dump ∧ t.cipher = s.cipher ∧ t.skv = s.skv ∧ t.mc = s.mc ∧ t.media = s.media := by
  refine ⟨_, rfl, ?_⟩; simp
theorem execSetFeaturesNumQueues_kept (tag : Nat) (s : State) :
    ∃ t, execSetFeaturesNumQueues tag s = .next t ∧ t.pending = s.pending ∧ t.wheel = s.wheel ∧ t.plan = s.plan ∧ t.rein = s.rein ∧ t.dram = s.dram ∧ t.dma = s.dma ∧ t.therm = s.therm ∧ t.img = s.img ∧ t.awl = s.awl ∧ t.codec = s.codec ∧ t.map = s.map ∧ t.blk = s.blk ∧ t.girth = s.girth ∧ t.wb = s.wb ∧ t.dump = s.dump ∧ t.cipher = s.cipher ∧ t.skv = s.skv ∧ t.mc = s.mc ∧ t.media = s.media := by
  refine ⟨_, rfl, ?_⟩; simp
theorem execGetFeaturesNumQueues_kept (tag : Nat) (s : State) :
    ∃ t, execGetFeaturesNumQueues tag s = .next t ∧ t.pending = s.pending ∧ t.wheel = s.wheel ∧ t.plan = s.plan ∧ t.rein = s.rein ∧ t.dram = s.dram ∧ t.dma = s.dma ∧ t.therm = s.therm ∧ t.img = s.img ∧ t.awl = s.awl ∧ t.codec = s.codec ∧ t.map = s.map ∧ t.blk = s.blk ∧ t.girth = s.girth ∧ t.wb = s.wb ∧ t.dump = s.dump ∧ t.cipher = s.cipher ∧ t.skv = s.skv ∧ t.mc = s.mc ∧ t.media = s.media := by
  refine ⟨_, rfl, ?_⟩; simp
theorem execSetFeaturesFdp_kept (tag : Nat) (s : State) :
    ∃ t, execSetFeaturesFdp tag s = .next t ∧ t.pending = s.pending ∧ t.wheel = s.wheel ∧ t.plan = s.plan ∧ t.rein = s.rein ∧ t.dram = s.dram ∧ t.dma = s.dma ∧ t.therm = s.therm ∧ t.img = s.img := by
  refine ⟨_, rfl, ?_⟩; simp
theorem execGetFeaturesFdp_kept (tag : Nat) (s : State) :
    ∃ t, execGetFeaturesFdp tag s = .next t ∧ t.pending = s.pending ∧ t.wheel = s.wheel ∧ t.plan = s.plan ∧ t.rein = s.rein ∧ t.dram = s.dram ∧ t.dma = s.dma ∧ t.therm = s.therm ∧ t.img = s.img ∧ t.awl = s.awl ∧ t.codec = s.codec ∧ t.map = s.map ∧ t.blk = s.blk ∧ t.girth = s.girth ∧ t.wb = s.wb ∧ t.dump = s.dump ∧ t.cipher = s.cipher ∧ t.skv = s.skv ∧ t.mc = s.mc ∧ t.media = s.media := by
  refine ⟨_, rfl, ?_⟩; simp
theorem execSetFeaturesFdpEvents_kept (tag : Nat) (types : List Sys2Proof.Byte) (s : State) :
    ∃ t, execSetFeaturesFdpEvents tag types s = .next t ∧ t.pending = s.pending ∧ t.wheel = s.wheel ∧ t.plan = s.plan ∧ t.rein = s.rein ∧ t.dram = s.dram ∧ t.dma = s.dma ∧ t.therm = s.therm ∧ t.img = s.img ∧ t.awl = s.awl ∧ t.codec = s.codec ∧ t.map = s.map ∧ t.blk = s.blk ∧ t.girth = s.girth ∧ t.wb = s.wb ∧ t.dump = s.dump ∧ t.cipher = s.cipher ∧ t.skv = s.skv ∧ t.mc = s.mc ∧ t.media = s.media := by
  unfold execSetFeaturesFdpEvents; (repeat' (first | (refine ⟨_, rfl, ?_, ?_, ?_, ?_, ?_, ?_, ?_, ?_, ?_, ?_, ?_, ?_, ?_, ?_, ?_, ?_, ?_, ?_, ?_⟩ <;> (repeat' (first | (simp; done) | (with_reducible refine State.setFeature_pending _ _ _ _ (fun y0 y1 => ?_)) | (with_reducible refine State.setFeature_wheel _ _ _ _ (fun y0 y1 => ?_)) | (with_reducible refine State.setFeature_plan _ _ _ _ (fun y0 y1 => ?_)) | (with_reducible refine State.setFeature_rein _ _ _ _ (fun y0 y1 => ?_)) | (with_reducible refine State.setFeature_dram _ _ _ _ (fun y0 y1 => ?_)) | (with_reducible refine State.setFeature_dma _ _ _ _ (fun y0 y1 => ?_)) | (with_reducible refine State.setFeature_therm _ _ _ _ (fun y0 y1 => ?_)) | (with_reducible refine State.setFeature_img _ _ _ _ (fun y0 y1 => ?_)) | (with_reducible refine State.setFeature_awl _ _ _ _ (fun y0 y1 => ?_)) | (with_reducible refine State.setFeature_codec _ _ _ _ (fun y0 y1 => ?_)) | (with_reducible refine State.setFeature_map _ _ _ _ (fun y0 y1 => ?_)) | (with_reducible refine State.setFeature_blk _ _ _ _ (fun y0 y1 => ?_)) | (with_reducible refine State.setFeature_girth _ _ _ _ (fun y0 y1 => ?_)) | (with_reducible refine State.setFeature_wb _ _ _ _ (fun y0 y1 => ?_)) | (with_reducible refine State.setFeature_dump _ _ _ _ (fun y0 y1 => ?_)) | (with_reducible refine State.setFeature_cipher _ _ _ _ (fun y0 y1 => ?_)) | (with_reducible refine State.setFeature_skv _ _ _ _ (fun y0 y1 => ?_)) | (with_reducible refine State.setFeature_mc _ _ _ _ (fun y0 y1 => ?_)) | (with_reducible refine State.setFeature_media _ _ _ _ (fun y0 y1 => ?_)) | split | dsimp only | simp)); done) | split | dsimp only))
theorem execGetFeaturesFdpEvents_kept (tag : Nat) (s : State) :
    ∃ t, execGetFeaturesFdpEvents tag s = .next t ∧ t.pending = s.pending ∧ t.wheel = s.wheel ∧ t.plan = s.plan ∧ t.rein = s.rein ∧ t.dram = s.dram ∧ t.dma = s.dma ∧ t.therm = s.therm ∧ t.img = s.img ∧ t.awl = s.awl ∧ t.codec = s.codec ∧ t.map = s.map ∧ t.blk = s.blk ∧ t.girth = s.girth ∧ t.wb = s.wb ∧ t.dump = s.dump ∧ t.cipher = s.cipher ∧ t.skv = s.skv ∧ t.mc = s.mc ∧ t.media = s.media := by
  unfold execGetFeaturesFdpEvents; (repeat' (first | (refine ⟨_, rfl, ?_, ?_, ?_, ?_, ?_, ?_, ?_, ?_, ?_, ?_, ?_, ?_, ?_, ?_, ?_, ?_, ?_, ?_, ?_⟩ <;> (repeat' (first | (simp; done) | (with_reducible refine State.getFeature_pending _ _ _ _ (fun y0 y1 => ?_)) | (with_reducible refine State.getFeature_wheel _ _ _ _ (fun y0 y1 => ?_)) | (with_reducible refine State.getFeature_plan _ _ _ _ (fun y0 y1 => ?_)) | (with_reducible refine State.getFeature_rein _ _ _ _ (fun y0 y1 => ?_)) | (with_reducible refine State.getFeature_dram _ _ _ _ (fun y0 y1 => ?_)) | (with_reducible refine State.getFeature_dma _ _ _ _ (fun y0 y1 => ?_)) | (with_reducible refine State.getFeature_therm _ _ _ _ (fun y0 y1 => ?_)) | (with_reducible refine State.getFeature_img _ _ _ _ (fun y0 y1 => ?_)) | (with_reducible refine State.getFeature_awl _ _ _ _ (fun y0 y1 => ?_)) | (with_reducible refine State.getFeature_codec _ _ _ _ (fun y0 y1 => ?_)) | (with_reducible refine State.getFeature_map _ _ _ _ (fun y0 y1 => ?_)) | (with_reducible refine State.getFeature_blk _ _ _ _ (fun y0 y1 => ?_)) | (with_reducible refine State.getFeature_girth _ _ _ _ (fun y0 y1 => ?_)) | (with_reducible refine State.getFeature_wb _ _ _ _ (fun y0 y1 => ?_)) | (with_reducible refine State.getFeature_dump _ _ _ _ (fun y0 y1 => ?_)) | (with_reducible refine State.getFeature_cipher _ _ _ _ (fun y0 y1 => ?_)) | (with_reducible refine State.getFeature_skv _ _ _ _ (fun y0 y1 => ?_)) | (with_reducible refine State.getFeature_mc _ _ _ _ (fun y0 y1 => ?_)) | (with_reducible refine State.getFeature_media _ _ _ _ (fun y0 y1 => ?_)) | split | dsimp only | simp)); done) | split | dsimp only))
@[simp] theorem State.setWheel_kept (s : State) (w : WheelCfg) (arm : Bool) :
    (State.setWheel s w arm).pending = s.pending ∧ (State.setWheel s w arm).plan = s.plan ∧ (State.setWheel s w arm).rein = s.rein ∧ (State.setWheel s w arm).dram = s.dram ∧ (State.setWheel s w arm).dma = s.dma ∧ (State.setWheel s w arm).therm = s.therm ∧ (State.setWheel s w arm).img = s.img ∧ (State.setWheel s w arm).wheel.pins = s.wheel.pins ∧ (State.setWheel s w arm).awl = s.awl ∧ (State.setWheel s w arm).codec = s.codec ∧ (State.setWheel s w arm).map = s.map ∧ (State.setWheel s w arm).blk = s.blk ∧ (State.setWheel s w arm).girth = s.girth ∧ (State.setWheel s w arm).wb = s.wb ∧ (State.setWheel s w arm).dump = s.dump ∧ (State.setWheel s w arm).cipher = s.cipher ∧ (State.setWheel s w arm).skv = s.skv ∧ (State.setWheel s w arm).mc = s.mc ∧ (State.setWheel s w arm).media = s.media := by
  simp [State.setWheel]
theorem execSetFeaturesWheelCfg_kept (tag : Nat) (buf : BitVec 256) (s : State) :
    ∃ t, execSetFeaturesWheelCfg tag buf s = .next t ∧ t.pending = s.pending ∧ t.plan = s.plan ∧ t.rein = s.rein ∧ t.dram = s.dram ∧ t.dma = s.dma ∧ t.therm = s.therm ∧ t.img = s.img ∧ t.wheel.pins = s.wheel.pins ∧ t.awl = s.awl ∧ t.codec = s.codec ∧ t.map = s.map ∧ t.blk = s.blk ∧ t.girth = s.girth ∧ t.wb = s.wb ∧ t.dump = s.dump ∧ t.cipher = s.cipher ∧ t.skv = s.skv ∧ t.mc = s.mc ∧ t.media = s.media := by
  unfold execSetFeaturesWheelCfg; (repeat' (first | (refine ⟨_, rfl, ?_, ?_, ?_, ?_, ?_, ?_, ?_, ?_, ?_, ?_, ?_, ?_, ?_, ?_, ?_, ?_, ?_, ?_, ?_⟩ <;> (repeat' (first | (simp; done) | (with_reducible refine State.setFeature_pending _ _ _ _ (fun y0 y1 => ?_)) | (with_reducible refine State.setFeature_plan _ _ _ _ (fun y0 y1 => ?_)) | (with_reducible refine State.setFeature_rein _ _ _ _ (fun y0 y1 => ?_)) | (with_reducible refine State.setFeature_dram _ _ _ _ (fun y0 y1 => ?_)) | (with_reducible refine State.setFeature_dma _ _ _ _ (fun y0 y1 => ?_)) | (with_reducible refine State.setFeature_therm _ _ _ _ (fun y0 y1 => ?_)) | (with_reducible refine State.setFeature_img _ _ _ _ (fun y0 y1 => ?_)) | (with_reducible refine State.setFeature_wheel_pins _ _ _ _ (fun y0 y1 => ?_)) | (with_reducible refine State.setFeature_awl _ _ _ _ (fun y0 y1 => ?_)) | (with_reducible refine State.setFeature_codec _ _ _ _ (fun y0 y1 => ?_)) | (with_reducible refine State.setFeature_map _ _ _ _ (fun y0 y1 => ?_)) | (with_reducible refine State.setFeature_blk _ _ _ _ (fun y0 y1 => ?_)) | (with_reducible refine State.setFeature_girth _ _ _ _ (fun y0 y1 => ?_)) | (with_reducible refine State.setFeature_wb _ _ _ _ (fun y0 y1 => ?_)) | (with_reducible refine State.setFeature_dump _ _ _ _ (fun y0 y1 => ?_)) | (with_reducible refine State.setFeature_cipher _ _ _ _ (fun y0 y1 => ?_)) | (with_reducible refine State.setFeature_skv _ _ _ _ (fun y0 y1 => ?_)) | (with_reducible refine State.setFeature_mc _ _ _ _ (fun y0 y1 => ?_)) | (with_reducible refine State.setFeature_media _ _ _ _ (fun y0 y1 => ?_)) | split | dsimp only | simp)); done) | split | dsimp only))
theorem execGetFeaturesWheelCfg_kept (tag : Nat) (s : State) :
    ∃ t, execGetFeaturesWheelCfg tag s = .next t ∧ t.pending = s.pending ∧ t.wheel = s.wheel ∧ t.plan = s.plan ∧ t.rein = s.rein ∧ t.dram = s.dram ∧ t.dma = s.dma ∧ t.therm = s.therm ∧ t.img = s.img ∧ t.awl = s.awl ∧ t.codec = s.codec ∧ t.map = s.map ∧ t.blk = s.blk ∧ t.girth = s.girth ∧ t.wb = s.wb ∧ t.dump = s.dump ∧ t.cipher = s.cipher ∧ t.skv = s.skv ∧ t.mc = s.mc ∧ t.media = s.media := by
  refine ⟨_, rfl, ?_⟩; simp
theorem execSetFeaturesTwinRein_kept (tag : Nat) (buf : BitVec 256) (s : State) :
    ∃ t, execSetFeaturesTwinRein tag buf s = .next t ∧ t.pending = s.pending ∧ t.wheel = s.wheel ∧ t.plan = s.plan ∧ t.dram = s.dram ∧ t.dma = s.dma ∧ t.therm = s.therm ∧ t.img = s.img := by
  refine ⟨_, rfl, ?_⟩; simp
theorem execGetFeaturesTwinRein_kept (tag : Nat) (s : State) :
    ∃ t, execGetFeaturesTwinRein tag s = .next t ∧ t.pending = s.pending ∧ t.wheel = s.wheel ∧ t.plan = s.plan ∧ t.rein = s.rein ∧ t.dram = s.dram ∧ t.dma = s.dma ∧ t.therm = s.therm ∧ t.img = s.img ∧ t.awl = s.awl ∧ t.codec = s.codec ∧ t.map = s.map ∧ t.blk = s.blk ∧ t.girth = s.girth ∧ t.wb = s.wb ∧ t.dump = s.dump ∧ t.cipher = s.cipher ∧ t.skv = s.skv ∧ t.mc = s.mc ∧ t.media = s.media := by
  refine ⟨_, rfl, ?_⟩; simp
theorem execSetFeaturesThrottleGrace_kept (tag : Nat) (buf : BitVec 256) (s : State) :
    ∃ t, execSetFeaturesThrottleGrace tag buf s = .next t ∧ t.pending = s.pending ∧ t.wheel = s.wheel ∧ t.plan = s.plan ∧ t.rein = s.rein ∧ t.dram = s.dram ∧ t.dma = s.dma ∧ t.img = s.img ∧ t.awl = s.awl ∧ t.codec = s.codec ∧ t.map = s.map ∧ t.blk = s.blk ∧ t.girth = s.girth ∧ t.wb = s.wb ∧ t.dump = s.dump ∧ t.cipher = s.cipher ∧ t.skv = s.skv ∧ t.mc = s.mc ∧ t.media = s.media := by
  refine ⟨_, rfl, ?_⟩; simp
theorem execGetFeaturesThrottleGrace_kept (tag : Nat) (s : State) :
    ∃ t, execGetFeaturesThrottleGrace tag s = .next t ∧ t.pending = s.pending ∧ t.wheel = s.wheel ∧ t.plan = s.plan ∧ t.rein = s.rein ∧ t.dram = s.dram ∧ t.dma = s.dma ∧ t.therm = s.therm ∧ t.img = s.img ∧ t.awl = s.awl ∧ t.codec = s.codec ∧ t.map = s.map ∧ t.blk = s.blk ∧ t.girth = s.girth ∧ t.wb = s.wb ∧ t.dump = s.dump ∧ t.cipher = s.cipher ∧ t.skv = s.skv ∧ t.mc = s.mc ∧ t.media = s.media := by
  refine ⟨_, rfl, ?_⟩; simp
theorem execSetFeaturesCounterSelect_kept (tag : Nat) (buf : BitVec 256) (s : State) :
    ∃ t, execSetFeaturesCounterSelect tag buf s = .next t ∧ t.pending = s.pending ∧ t.wheel = s.wheel ∧ t.plan = s.plan ∧ t.rein = s.rein ∧ t.dram = s.dram ∧ t.dma = s.dma ∧ t.therm = s.therm ∧ t.img = s.img ∧ t.awl = s.awl ∧ t.codec = s.codec ∧ t.map = s.map ∧ t.blk = s.blk ∧ t.girth = s.girth ∧ t.wb = s.wb ∧ t.dump = s.dump ∧ t.cipher = s.cipher ∧ t.skv = s.skv ∧ t.mc = s.mc ∧ t.media = s.media := by
  refine ⟨_, rfl, ?_⟩; simp
theorem execGetFeaturesCounterSelect_kept (tag : Nat) (s : State) :
    ∃ t, execGetFeaturesCounterSelect tag s = .next t ∧ t.pending = s.pending ∧ t.wheel = s.wheel ∧ t.plan = s.plan ∧ t.rein = s.rein ∧ t.dram = s.dram ∧ t.dma = s.dma ∧ t.therm = s.therm ∧ t.img = s.img ∧ t.awl = s.awl ∧ t.codec = s.codec ∧ t.map = s.map ∧ t.blk = s.blk ∧ t.girth = s.girth ∧ t.wb = s.wb ∧ t.dump = s.dump ∧ t.cipher = s.cipher ∧ t.skv = s.skv ∧ t.mc = s.mc ∧ t.media = s.media := by
  refine ⟨_, rfl, ?_⟩; simp
theorem execSetFeaturesDirtyWindow_kept (tag : Nat) (buf : BitVec 256) (s : State) :
    ∃ t, execSetFeaturesDirtyWindow tag buf s = .next t ∧ t.pending = s.pending ∧ t.wheel = s.wheel ∧ t.plan = s.plan ∧ t.rein = s.rein ∧ t.dram = s.dram ∧ t.dma = s.dma ∧ t.therm = s.therm ∧ t.img = s.img := by
  refine ⟨_, rfl, ?_⟩; simp
theorem execGetFeaturesDirtyWindow_kept (tag : Nat) (s : State) :
    ∃ t, execGetFeaturesDirtyWindow tag s = .next t ∧ t.pending = s.pending ∧ t.wheel = s.wheel ∧ t.plan = s.plan ∧ t.rein = s.rein ∧ t.dram = s.dram ∧ t.dma = s.dma ∧ t.therm = s.therm ∧ t.img = s.img ∧ t.awl = s.awl ∧ t.codec = s.codec ∧ t.map = s.map ∧ t.blk = s.blk ∧ t.girth = s.girth ∧ t.wb = s.wb ∧ t.dump = s.dump ∧ t.cipher = s.cipher ∧ t.skv = s.skv ∧ t.mc = s.mc ∧ t.media = s.media := by
  refine ⟨_, rfl, ?_⟩; simp
theorem execSetFeaturesSkiver_kept (tag : Nat) (buf : BitVec 256) (s : State) :
    ∃ t, execSetFeaturesSkiver tag buf s = .next t ∧ t.pending = s.pending ∧ t.wheel = s.wheel ∧ t.plan = s.plan ∧ t.rein = s.rein ∧ t.dram = s.dram ∧ t.dma = s.dma ∧ t.therm = s.therm ∧ t.img = s.img := by
  refine ⟨_, rfl, ?_⟩; simp
theorem execGetFeaturesSkiver_kept (tag : Nat) (s : State) :
    ∃ t, execGetFeaturesSkiver tag s = .next t ∧ t.pending = s.pending ∧ t.wheel = s.wheel ∧ t.plan = s.plan ∧ t.rein = s.rein ∧ t.dram = s.dram ∧ t.dma = s.dma ∧ t.therm = s.therm ∧ t.img = s.img ∧ t.awl = s.awl ∧ t.codec = s.codec ∧ t.map = s.map ∧ t.blk = s.blk ∧ t.girth = s.girth ∧ t.wb = s.wb ∧ t.dump = s.dump ∧ t.cipher = s.cipher ∧ t.skv = s.skv ∧ t.mc = s.mc ∧ t.media = s.media := by
  refine ⟨_, rfl, ?_⟩; simp
theorem execFeaturesUnsupportedId_kept (tag : Nat) (s : State) :
    ∃ t, execFeaturesUnsupportedId tag s = .next t ∧ t.pending = s.pending ∧ t.wheel = s.wheel ∧ t.plan = s.plan ∧ t.rein = s.rein ∧ t.dram = s.dram ∧ t.dma = s.dma ∧ t.therm = s.therm ∧ t.img = s.img ∧ t.awl = s.awl ∧ t.codec = s.codec ∧ t.map = s.map ∧ t.blk = s.blk ∧ t.girth = s.girth ∧ t.wb = s.wb ∧ t.dump = s.dump ∧ t.cipher = s.cipher ∧ t.skv = s.skv ∧ t.mc = s.mc ∧ t.media = s.media := by
  refine ⟨_, rfl, ?_⟩; simp
@[simp] theorem State.restoreFeatures_kept (s : State) :
    (State.restoreFeatures s).pending = s.pending ∧ (State.restoreFeatures s).plan = s.plan ∧ (State.restoreFeatures s).dram = s.dram ∧ (State.restoreFeatures s).dma = s.dma ∧ (State.restoreFeatures s).img = s.img ∧ (State.restoreFeatures s).wheel.pins = s.wheel.pins := by
  simp [State.restoreFeatures]

end Sys2Proof.Machine
end

