-- ==== Sys2Proof/Laws/KeptIdentify.lean ====
section
/-! SUPPORT. What each function of Sys2Proof/Machine/Identify.lean leaves unchanged: one lemma a function. -/
set_option linter.unusedTactic false
set_option linter.unreachableTactic false
set_option linter.unusedSimpArgs false
namespace Sys2Proof.Machine

@[simp] theorem State.identify_pending (s : State) (tag : Nat) (cns : Nat) (f : State → Cmd → State) (h : ∀ x0 x1, (f x0 x1).pending = x0.pending) :
    (State.identify s tag cns f).pending = s.pending := by
  simp [State.identify, h]
@[simp] theorem State.identify_wheel (s : State) (tag : Nat) (cns : Nat) (f : State → Cmd → State) (h : ∀ x0 x1, (f x0 x1).wheel = x0.wheel) :
    (State.identify s tag cns f).wheel = s.wheel := by
  simp [State.identify, h]
@[simp] theorem State.identify_plan (s : State) (tag : Nat) (cns : Nat) (f : State → Cmd → State) (h : ∀ x0 x1, (f x0 x1).plan = x0.plan) :
    (State.identify s tag cns f).plan = s.plan := by
  simp [State.identify, h]
@[simp] theorem State.identify_rein (s : State) (tag : Nat) (cns : Nat) (f : State → Cmd → State) (h : ∀ x0 x1, (f x0 x1).rein = x0.rein) :
    (State.identify s tag cns f).rein = s.rein := by
  simp [State.identify, h]
@[simp] theorem State.identify_dram (s : State) (tag : Nat) (cns : Nat) (f : State → Cmd → State) (h : ∀ x0 x1, (f x0 x1).dram = x0.dram) :
    (State.identify s tag cns f).dram = s.dram := by
  simp [State.identify, h]
@[simp] theorem State.identify_dma (s : State) (tag : Nat) (cns : Nat) (f : State → Cmd → State) (h : ∀ x0 x1, (f x0 x1).dma = x0.dma) :
    (State.identify s tag cns f).dma = s.dma := by
  simp [State.identify, h]
@[simp] theorem State.identify_therm (s : State) (tag : Nat) (cns : Nat) (f : State → Cmd → State) (h : ∀ x0 x1, (f x0 x1).therm = x0.therm) :
    (State.identify s tag cns f).therm = s.therm := by
  simp [State.identify, h]
@[simp] theorem State.identify_img (s : State) (tag : Nat) (cns : Nat) (f : State → Cmd → State) (h : ∀ x0 x1, (f x0 x1).img = x0.img) :
    (State.identify s tag cns f).img = s.img := by
  simp [State.identify, h]
@[simp] theorem State.identify_awl (s : State) (tag : Nat) (cns : Nat) (f : State → Cmd → State) (h : ∀ x0 x1, (f x0 x1).awl = x0.awl) :
    (State.identify s tag cns f).awl = s.awl := by
  simp [State.identify, h]
@[simp] theorem State.identify_codec (s : State) (tag : Nat) (cns : Nat) (f : State → Cmd → State) (h : ∀ x0 x1, (f x0 x1).codec = x0.codec) :
    (State.identify s tag cns f).codec = s.codec := by
  simp [State.identify, h]
@[simp] theorem State.identify_map (s : State) (tag : Nat) (cns : Nat) (f : State → Cmd → State) (h : ∀ x0 x1, (f x0 x1).map = x0.map) :
    (State.identify s tag cns f).map = s.map := by
  simp [State.identify, h]
@[simp] theorem State.identify_blk (s : State) (tag : Nat) (cns : Nat) (f : State → Cmd → State) (h : ∀ x0 x1, (f x0 x1).blk = x0.blk) :
    (State.identify s tag cns f).blk = s.blk := by
  simp [State.identify, h]
@[simp] theorem State.identify_girth (s : State) (tag : Nat) (cns : Nat) (f : State → Cmd → State) (h : ∀ x0 x1, (f x0 x1).girth = x0.girth) :
    (State.identify s tag cns f).girth = s.girth := by
  simp [State.identify, h]
@[simp] theorem State.identify_wb (s : State) (tag : Nat) (cns : Nat) (f : State → Cmd → State) (h : ∀ x0 x1, (f x0 x1).wb = x0.wb) :
    (State.identify s tag cns f).wb = s.wb := by
  simp [State.identify, h]
@[simp] theorem State.identify_dump (s : State) (tag : Nat) (cns : Nat) (f : State → Cmd → State) (h : ∀ x0 x1, (f x0 x1).dump = x0.dump) :
    (State.identify s tag cns f).dump = s.dump := by
  simp [State.identify, h]
@[simp] theorem State.identify_cipher (s : State) (tag : Nat) (cns : Nat) (f : State → Cmd → State) (h : ∀ x0 x1, (f x0 x1).cipher = x0.cipher) :
    (State.identify s tag cns f).cipher = s.cipher := by
  simp [State.identify, h]
@[simp] theorem State.identify_skv (s : State) (tag : Nat) (cns : Nat) (f : State → Cmd → State) (h : ∀ x0 x1, (f x0 x1).skv = x0.skv) :
    (State.identify s tag cns f).skv = s.skv := by
  simp [State.identify, h]
@[simp] theorem State.identify_mc (s : State) (tag : Nat) (cns : Nat) (f : State → Cmd → State) (h : ∀ x0 x1, (f x0 x1).mc = x0.mc) :
    (State.identify s tag cns f).mc = s.mc := by
  simp [State.identify, h]
@[simp] theorem State.identify_media (s : State) (tag : Nat) (cns : Nat) (f : State → Cmd → State) (h : ∀ x0 x1, (f x0 x1).media = x0.media) :
    (State.identify s tag cns f).media = s.media := by
  simp [State.identify, h]
@[simp] theorem State.identify_wheel_pins (s : State) (tag : Nat) (cns : Nat) (f : State → Cmd → State) (h : ∀ x0 x1, (f x0 x1).wheel.pins = x0.wheel.pins) :
    (State.identify s tag cns f).wheel.pins = s.wheel.pins := by
  simp [State.identify, h]
@[simp] theorem State.giveIdentify_kept (s : State) (tag : Nat) (cns : Nat) (sel : Nat) (pg : Page) :
    (State.giveIdentify s tag cns sel pg).pending = s.pending ∧ (State.giveIdentify s tag cns sel pg).wheel = s.wheel ∧ (State.giveIdentify s tag cns sel pg).plan = s.plan ∧ (State.giveIdentify s tag cns sel pg).rein = s.rein ∧ (State.giveIdentify s tag cns sel pg).dram = s.dram ∧ (State.giveIdentify s tag cns sel pg).dma = s.dma ∧ (State.giveIdentify s tag cns sel pg).therm = s.therm ∧ (State.giveIdentify s tag cns sel pg).img = s.img ∧ (State.giveIdentify s tag cns sel pg).awl = s.awl ∧ (State.giveIdentify s tag cns sel pg).codec = s.codec ∧ (State.giveIdentify s tag cns sel pg).map = s.map ∧ (State.giveIdentify s tag cns sel pg).blk = s.blk ∧ (State.giveIdentify s tag cns sel pg).girth = s.girth ∧ (State.giveIdentify s tag cns sel pg).wb = s.wb ∧ (State.giveIdentify s tag cns sel pg).dump = s.dump ∧ (State.giveIdentify s tag cns sel pg).cipher = s.cipher ∧ (State.giveIdentify s tag cns sel pg).skv = s.skv ∧ (State.giveIdentify s tag cns sel pg).mc = s.mc ∧ (State.giveIdentify s tag cns sel pg).media = s.media := by
  simp [State.giveIdentify]
@[simp] theorem State.giveList_kept (s : State) (tag : Nat) (bs : List Sys2Proof.Byte) :
    (State.giveList s tag bs).pending = s.pending ∧ (State.giveList s tag bs).wheel = s.wheel ∧ (State.giveList s tag bs).plan = s.plan ∧ (State.giveList s tag bs).rein = s.rein ∧ (State.giveList s tag bs).dram = s.dram ∧ (State.giveList s tag bs).dma = s.dma ∧ (State.giveList s tag bs).therm = s.therm ∧ (State.giveList s tag bs).img = s.img ∧ (State.giveList s tag bs).awl = s.awl ∧ (State.giveList s tag bs).codec = s.codec ∧ (State.giveList s tag bs).map = s.map ∧ (State.giveList s tag bs).blk = s.blk ∧ (State.giveList s tag bs).girth = s.girth ∧ (State.giveList s tag bs).wb = s.wb ∧ (State.giveList s tag bs).dump = s.dump ∧ (State.giveList s tag bs).cipher = s.cipher ∧ (State.giveList s tag bs).skv = s.skv ∧ (State.giveList s tag bs).mc = s.mc ∧ (State.giveList s tag bs).media = s.media := by
  simp [State.giveList]
@[simp] theorem State.badNsid_kept (s : State) (tag : Nat) (c : Cmd) :
    (State.badNsid s tag c).pending = s.pending ∧ (State.badNsid s tag c).wheel = s.wheel ∧ (State.badNsid s tag c).plan = s.plan ∧ (State.badNsid s tag c).rein = s.rein ∧ (State.badNsid s tag c).dram = s.dram ∧ (State.badNsid s tag c).dma = s.dma ∧ (State.badNsid s tag c).therm = s.therm ∧ (State.badNsid s tag c).img = s.img ∧ (State.badNsid s tag c).awl = s.awl ∧ (State.badNsid s tag c).codec = s.codec ∧ (State.badNsid s tag c).map = s.map ∧ (State.badNsid s tag c).blk = s.blk ∧ (State.badNsid s tag c).girth = s.girth ∧ (State.badNsid s tag c).wb = s.wb ∧ (State.badNsid s tag c).dump = s.dump ∧ (State.badNsid s tag c).cipher = s.cipher ∧ (State.badNsid s tag c).skv = s.skv ∧ (State.badNsid s tag c).mc = s.mc ∧ (State.badNsid s tag c).media = s.media := by
  simp [State.badNsid]
theorem execIdentifyNamespace_kept (tag : Nat) (s : State) :
    ∃ t, execIdentifyNamespace tag s = .next t ∧ t.pending = s.pending ∧ t.wheel = s.wheel ∧ t.plan = s.plan ∧ t.rein = s.rein ∧ t.dram = s.dram ∧ t.dma = s.dma ∧ t.therm = s.therm ∧ t.img = s.img ∧ t.awl = s.awl ∧ t.codec = s.codec ∧ t.map = s.map ∧ t.blk = s.blk ∧ t.girth = s.girth ∧ t.wb = s.wb ∧ t.dump = s.dump ∧ t.cipher = s.cipher ∧ t.skv = s.skv ∧ t.mc = s.mc ∧ t.media = s.media := by
  unfold execIdentifyNamespace; (repeat' (first | (refine ⟨_, rfl, ?_, ?_, ?_, ?_, ?_, ?_, ?_, ?_, ?_, ?_, ?_, ?_, ?_, ?_, ?_, ?_, ?_, ?_, ?_⟩ <;> (repeat' (first | (simp; done) | (with_reducible refine State.identify_pending _ _ _ _ (fun y0 y1 => ?_)) | (with_reducible refine State.identify_wheel _ _ _ _ (fun y0 y1 => ?_)) | (with_reducible refine State.identify_plan _ _ _ _ (fun y0 y1 => ?_)) | (with_reducible refine State.identify_rein _ _ _ _ (fun y0 y1 => ?_)) | (with_reducible refine State.identify_dram _ _ _ _ (fun y0 y1 => ?_)) | (with_reducible refine State.identify_dma _ _ _ _ (fun y0 y1 => ?_)) | (with_reducible refine State.identify_therm _ _ _ _ (fun y0 y1 => ?_)) | (with_reducible refine State.identify_img _ _ _ _ (fun y0 y1 => ?_)) | (with_reducible refine State.identify_awl _ _ _ _ (fun y0 y1 => ?_)) | (with_reducible refine State.identify_codec _ _ _ _ (fun y0 y1 => ?_)) | (with_reducible refine State.identify_map _ _ _ _ (fun y0 y1 => ?_)) | (with_reducible refine State.identify_blk _ _ _ _ (fun y0 y1 => ?_)) | (with_reducible refine State.identify_girth _ _ _ _ (fun y0 y1 => ?_)) | (with_reducible refine State.identify_wb _ _ _ _ (fun y0 y1 => ?_)) | (with_reducible refine State.identify_dump _ _ _ _ (fun y0 y1 => ?_)) | (with_reducible refine State.identify_cipher _ _ _ _ (fun y0 y1 => ?_)) | (with_reducible refine State.identify_skv _ _ _ _ (fun y0 y1 => ?_)) | (with_reducible refine State.identify_mc _ _ _ _ (fun y0 y1 => ?_)) | (with_reducible refine State.identify_media _ _ _ _ (fun y0 y1 => ?_)) | split | dsimp only | simp)); done) | split | dsimp only))
theorem execIdentifyAllocatedNamespace_kept (tag : Nat) (s : State) :
    ∃ t, execIdentifyAllocatedNamespace tag s = .next t ∧ t.pending = s.pending ∧ t.wheel = s.wheel ∧ t.plan = s.plan ∧ t.rein = s.rein ∧ t.dram = s.dram ∧ t.dma = s.dma ∧ t.therm = s.therm ∧ t.img = s.img ∧ t.awl = s.awl ∧ t.codec = s.codec ∧ t.map = s.map ∧ t.blk = s.blk ∧ t.girth = s.girth ∧ t.wb = s.wb ∧ t.dump = s.dump ∧ t.cipher = s.cipher ∧ t.skv = s.skv ∧ t.mc = s.mc ∧ t.media = s.media := by
  unfold execIdentifyAllocatedNamespace; (repeat' (first | (refine ⟨_, rfl, ?_, ?_, ?_, ?_, ?_, ?_, ?_, ?_, ?_, ?_, ?_, ?_, ?_, ?_, ?_, ?_, ?_, ?_, ?_⟩ <;> (repeat' (first | (simp; done) | (with_reducible refine State.identify_pending _ _ _ _ (fun y0 y1 => ?_)) | (with_reducible refine State.identify_wheel _ _ _ _ (fun y0 y1 => ?_)) | (with_reducible refine State.identify_plan _ _ _ _ (fun y0 y1 => ?_)) | (with_reducible refine State.identify_rein _ _ _ _ (fun y0 y1 => ?_)) | (with_reducible refine State.identify_dram _ _ _ _ (fun y0 y1 => ?_)) | (with_reducible refine State.identify_dma _ _ _ _ (fun y0 y1 => ?_)) | (with_reducible refine State.identify_therm _ _ _ _ (fun y0 y1 => ?_)) | (with_reducible refine State.identify_img _ _ _ _ (fun y0 y1 => ?_)) | (with_reducible refine State.identify_awl _ _ _ _ (fun y0 y1 => ?_)) | (with_reducible refine State.identify_codec _ _ _ _ (fun y0 y1 => ?_)) | (with_reducible refine State.identify_map _ _ _ _ (fun y0 y1 => ?_)) | (with_reducible refine State.identify_blk _ _ _ _ (fun y0 y1 => ?_)) | (with_reducible refine State.identify_girth _ _ _ _ (fun y0 y1 => ?_)) | (with_reducible refine State.identify_wb _ _ _ _ (fun y0 y1 => ?_)) | (with_reducible refine State.identify_dump _ _ _ _ (fun y0 y1 => ?_)) | (with_reducible refine State.identify_cipher _ _ _ _ (fun y0 y1 => ?_)) | (with_reducible refine State.identify_skv _ _ _ _ (fun y0 y1 => ?_)) | (with_reducible refine State.identify_mc _ _ _ _ (fun y0 y1 => ?_)) | (with_reducible refine State.identify_media _ _ _ _ (fun y0 y1 => ?_)) | split | dsimp only | simp)); done) | split | dsimp only))
theorem execIdentifyActiveNsList_kept (tag : Nat) (s : State) :
    ∃ t, execIdentifyActiveNsList tag s = .next t ∧ t.pending = s.pending ∧ t.wheel = s.wheel ∧ t.plan = s.plan ∧ t.rein = s.rein ∧ t.dram = s.dram ∧ t.dma = s.dma ∧ t.therm = s.therm ∧ t.img = s.img ∧ t.awl = s.awl ∧ t.codec = s.codec ∧ t.map = s.map ∧ t.blk = s.blk ∧ t.girth = s.girth ∧ t.wb = s.wb ∧ t.dump = s.dump ∧ t.cipher = s.cipher ∧ t.skv = s.skv ∧ t.mc = s.mc ∧ t.media = s.media := by
  refine ⟨_, rfl, ?_⟩; simp
theorem execIdentifyAllocatedNsList_kept (tag : Nat) (s : State) :
    ∃ t, execIdentifyAllocatedNsList tag s = .next t ∧ t.pending = s.pending ∧ t.wheel = s.wheel ∧ t.plan = s.plan ∧ t.rein = s.rein ∧ t.dram = s.dram ∧ t.dma = s.dma ∧ t.therm = s.therm ∧ t.img = s.img ∧ t.awl = s.awl ∧ t.codec = s.codec ∧ t.map = s.map ∧ t.blk = s.blk ∧ t.girth = s.girth ∧ t.wb = s.wb ∧ t.dump = s.dump ∧ t.cipher = s.cipher ∧ t.skv = s.skv ∧ t.mc = s.mc ∧ t.media = s.media := by
  refine ⟨_, rfl, ?_⟩; simp
theorem execIdentifyNsIdDescriptors_kept (tag : Nat) (s : State) :
    ∃ t, execIdentifyNsIdDescriptors tag s = .next t ∧ t.pending = s.pending ∧ t.wheel = s.wheel ∧ t.plan = s.plan ∧ t.rein = s.rein ∧ t.dram = s.dram ∧ t.dma = s.dma ∧ t.therm = s.therm ∧ t.img = s.img ∧ t.awl = s.awl ∧ t.codec = s.codec ∧ t.map = s.map ∧ t.blk = s.blk ∧ t.girth = s.girth ∧ t.wb = s.wb ∧ t.dump = s.dump ∧ t.cipher = s.cipher ∧ t.skv = s.skv ∧ t.mc = s.mc ∧ t.media = s.media := by
  unfold execIdentifyNsIdDescriptors; (repeat' (first | (refine ⟨_, rfl, ?_, ?_, ?_, ?_, ?_, ?_, ?_, ?_, ?_, ?_, ?_, ?_, ?_, ?_, ?_, ?_, ?_, ?_, ?_⟩ <;> (repeat' (first | (simp; done) | (with_reducible refine State.identify_pending _ _ _ _ (fun y0 y1 => ?_)) | (with_reducible refine State.identify_wheel _ _ _ _ (fun y0 y1 => ?_)) | (with_reducible refine State.identify_plan _ _ _ _ (fun y0 y1 => ?_)) | (with_reducible refine State.identify_rein _ _ _ _ (fun y0 y1 => ?_)) | (with_reducible refine State.identify_dram _ _ _ _ (fun y0 y1 => ?_)) | (with_reducible refine State.identify_dma _ _ _ _ (fun y0 y1 => ?_)) | (with_reducible refine State.identify_therm _ _ _ _ (fun y0 y1 => ?_)) | (with_reducible refine State.identify_img _ _ _ _ (fun y0 y1 => ?_)) | (with_reducible refine State.identify_awl _ _ _ _ (fun y0 y1 => ?_)) | (with_reducible refine State.identify_codec _ _ _ _ (fun y0 y1 => ?_)) | (with_reducible refine State.identify_map _ _ _ _ (fun y0 y1 => ?_)) | (with_reducible refine State.identify_blk _ _ _ _ (fun y0 y1 => ?_)) | (with_reducible refine State.identify_girth _ _ _ _ (fun y0 y1 => ?_)) | (with_reducible refine State.identify_wb _ _ _ _ (fun y0 y1 => ?_)) | (with_reducible refine State.identify_dump _ _ _ _ (fun y0 y1 => ?_)) | (with_reducible refine State.identify_cipher _ _ _ _ (fun y0 y1 => ?_)) | (with_reducible refine State.identify_skv _ _ _ _ (fun y0 y1 => ?_)) | (with_reducible refine State.identify_mc _ _ _ _ (fun y0 y1 => ?_)) | (with_reducible refine State.identify_media _ _ _ _ (fun y0 y1 => ?_)) | split | dsimp only | simp)); done) | split | dsimp only))
theorem execIdentifyCssNamespace_kept (tag : Nat) (s : State) :
    ∃ t, execIdentifyCssNamespace tag s = .next t ∧ t.pending = s.pending ∧ t.wheel = s.wheel ∧ t.plan = s.plan ∧ t.rein = s.rein ∧ t.dram = s.dram ∧ t.dma = s.dma ∧ t.therm = s.therm ∧ t.img = s.img ∧ t.awl = s.awl ∧ t.codec = s.codec ∧ t.map = s.map ∧ t.blk = s.blk ∧ t.girth = s.girth ∧ t.wb = s.wb ∧ t.dump = s.dump ∧ t.cipher = s.cipher ∧ t.skv = s.skv ∧ t.mc = s.mc ∧ t.media = s.media := by
  unfold execIdentifyCssNamespace; (repeat' (first | (refine ⟨_, rfl, ?_, ?_, ?_, ?_, ?_, ?_, ?_, ?_, ?_, ?_, ?_, ?_, ?_, ?_, ?_, ?_, ?_, ?_, ?_⟩ <;> (repeat' (first | (simp; done) | (with_reducible refine State.identify_pending _ _ _ _ (fun y0 y1 => ?_)) | (with_reducible refine State.identify_wheel _ _ _ _ (fun y0 y1 => ?_)) | (with_reducible refine State.identify_plan _ _ _ _ (fun y0 y1 => ?_)) | (with_reducible refine State.identify_rein _ _ _ _ (fun y0 y1 => ?_)) | (with_reducible refine State.identify_dram _ _ _ _ (fun y0 y1 => ?_)) | (with_reducible refine State.identify_dma _ _ _ _ (fun y0 y1 => ?_)) | (with_reducible refine State.identify_therm _ _ _ _ (fun y0 y1 => ?_)) | (with_reducible refine State.identify_img _ _ _ _ (fun y0 y1 => ?_)) | (with_reducible refine State.identify_awl _ _ _ _ (fun y0 y1 => ?_)) | (with_reducible refine State.identify_codec _ _ _ _ (fun y0 y1 => ?_)) | (with_reducible refine State.identify_map _ _ _ _ (fun y0 y1 => ?_)) | (with_reducible refine State.identify_blk _ _ _ _ (fun y0 y1 => ?_)) | (with_reducible refine State.identify_girth _ _ _ _ (fun y0 y1 => ?_)) | (with_reducible refine State.identify_wb _ _ _ _ (fun y0 y1 => ?_)) | (with_reducible refine State.identify_dump _ _ _ _ (fun y0 y1 => ?_)) | (with_reducible refine State.identify_cipher _ _ _ _ (fun y0 y1 => ?_)) | (with_reducible refine State.identify_skv _ _ _ _ (fun y0 y1 => ?_)) | (with_reducible refine State.identify_mc _ _ _ _ (fun y0 y1 => ?_)) | (with_reducible refine State.identify_media _ _ _ _ (fun y0 y1 => ?_)) | split | dsimp only | simp)); done) | split | dsimp only))
theorem execIdentifyCssController_kept (tag : Nat) (s : State) :
    ∃ t, execIdentifyCssController tag s = .next t ∧ t.pending = s.pending ∧ t.wheel = s.wheel ∧ t.plan = s.plan ∧ t.rein = s.rein ∧ t.dram = s.dram ∧ t.dma = s.dma ∧ t.therm = s.therm ∧ t.img = s.img ∧ t.awl = s.awl ∧ t.codec = s.codec ∧ t.map = s.map ∧ t.blk = s.blk ∧ t.girth = s.girth ∧ t.wb = s.wb ∧ t.dump = s.dump ∧ t.cipher = s.cipher ∧ t.skv = s.skv ∧ t.mc = s.mc ∧ t.media = s.media := by
  refine ⟨_, rfl, ?_⟩; simp
theorem execIdentifyCssIndependentNs_kept (tag : Nat) (s : State) :
    ∃ t, execIdentifyCssIndependentNs tag s = .next t ∧ t.pending = s.pending ∧ t.wheel = s.wheel ∧ t.plan = s.plan ∧ t.rein = s.rein ∧ t.dram = s.dram ∧ t.dma = s.dma ∧ t.therm = s.therm ∧ t.img = s.img ∧ t.awl = s.awl ∧ t.codec = s.codec ∧ t.map = s.map ∧ t.blk = s.blk ∧ t.girth = s.girth ∧ t.wb = s.wb ∧ t.dump = s.dump ∧ t.cipher = s.cipher ∧ t.skv = s.skv ∧ t.mc = s.mc ∧ t.media = s.media := by
  unfold execIdentifyCssIndependentNs; (repeat' (first | (refine ⟨_, rfl, ?_, ?_, ?_, ?_, ?_, ?_, ?_, ?_, ?_, ?_, ?_, ?_, ?_, ?_, ?_, ?_, ?_, ?_, ?_⟩ <;> (repeat' (first | (simp; done) | (with_reducible refine State.identify_pending _ _ _ _ (fun y0 y1 => ?_)) | (with_reducible refine State.identify_wheel _ _ _ _ (fun y0 y1 => ?_)) | (with_reducible refine State.identify_plan _ _ _ _ (fun y0 y1 => ?_)) | (with_reducible refine State.identify_rein _ _ _ _ (fun y0 y1 => ?_)) | (with_reducible refine State.identify_dram _ _ _ _ (fun y0 y1 => ?_)) | (with_reducible refine State.identify_dma _ _ _ _ (fun y0 y1 => ?_)) | (with_reducible refine State.identify_therm _ _ _ _ (fun y0 y1 => ?_)) | (with_reducible refine State.identify_img _ _ _ _ (fun y0 y1 => ?_)) | (with_reducible refine State.identify_awl _ _ _ _ (fun y0 y1 => ?_)) | (with_reducible refine State.identify_codec _ _ _ _ (fun y0 y1 => ?_)) | (with_reducible refine State.identify_map _ _ _ _ (fun y0 y1 => ?_)) | (with_reducible refine State.identify_blk _ _ _ _ (fun y0 y1 => ?_)) | (with_reducible refine State.identify_girth _ _ _ _ (fun y0 y1 => ?_)) | (with_reducible refine State.identify_wb _ _ _ _ (fun y0 y1 => ?_)) | (with_reducible refine State.identify_dump _ _ _ _ (fun y0 y1 => ?_)) | (with_reducible refine State.identify_cipher _ _ _ _ (fun y0 y1 => ?_)) | (with_reducible refine State.identify_skv _ _ _ _ (fun y0 y1 => ?_)) | (with_reducible refine State.identify_mc _ _ _ _ (fun y0 y1 => ?_)) | (with_reducible refine State.identify_media _ _ _ _ (fun y0 y1 => ?_)) | split | dsimp only | simp)); done) | split | dsimp only))
theorem execIdentifyController_kept (tag : Nat) (s : State) :
    ∃ t, execIdentifyController tag s = .next t ∧ t.pending = s.pending ∧ t.wheel = s.wheel ∧ t.plan = s.plan ∧ t.rein = s.rein ∧ t.dram = s.dram ∧ t.dma = s.dma ∧ t.therm = s.therm ∧ t.img = s.img ∧ t.awl = s.awl ∧ t.codec = s.codec ∧ t.map = s.map ∧ t.blk = s.blk ∧ t.girth = s.girth ∧ t.wb = s.wb ∧ t.dump = s.dump ∧ t.cipher = s.cipher ∧ t.skv = s.skv ∧ t.mc = s.mc ∧ t.media = s.media := by
  refine ⟨_, rfl, ?_⟩; simp
theorem execIdentifyAttachedCtrlList_kept (tag : Nat) (s : State) :
    ∃ t, execIdentifyAttachedCtrlList tag s = .next t ∧ t.pending = s.pending ∧ t.wheel = s.wheel ∧ t.plan = s.plan ∧ t.rein = s.rein ∧ t.dram = s.dram ∧ t.dma = s.dma ∧ t.therm = s.therm ∧ t.img = s.img ∧ t.awl = s.awl ∧ t.codec = s.codec ∧ t.map = s.map ∧ t.blk = s.blk ∧ t.girth = s.girth ∧ t.wb = s.wb ∧ t.dump = s.dump ∧ t.cipher = s.cipher ∧ t.skv = s.skv ∧ t.mc = s.mc ∧ t.media = s.media := by
  unfold execIdentifyAttachedCtrlList; (repeat' (first | (refine ⟨_, rfl, ?_, ?_, ?_, ?_, ?_, ?_, ?_, ?_, ?_, ?_, ?_, ?_, ?_, ?_, ?_, ?_, ?_, ?_, ?_⟩ <;> (repeat' (first | (simp; done) | (with_reducible refine State.identify_pending _ _ _ _ (fun y0 y1 => ?_)) | (with_reducible refine State.identify_wheel _ _ _ _ (fun y0 y1 => ?_)) | (with_reducible refine State.identify_plan _ _ _ _ (fun y0 y1 => ?_)) | (with_reducible refine State.identify_rein _ _ _ _ (fun y0 y1 => ?_)) | (with_reducible refine State.identify_dram _ _ _ _ (fun y0 y1 => ?_)) | (with_reducible refine State.identify_dma _ _ _ _ (fun y0 y1 => ?_)) | (with_reducible refine State.identify_therm _ _ _ _ (fun y0 y1 => ?_)) | (with_reducible refine State.identify_img _ _ _ _ (fun y0 y1 => ?_)) | (with_reducible refine State.identify_awl _ _ _ _ (fun y0 y1 => ?_)) | (with_reducible refine State.identify_codec _ _ _ _ (fun y0 y1 => ?_)) | (with_reducible refine State.identify_map _ _ _ _ (fun y0 y1 => ?_)) | (with_reducible refine State.identify_blk _ _ _ _ (fun y0 y1 => ?_)) | (with_reducible refine State.identify_girth _ _ _ _ (fun y0 y1 => ?_)) | (with_reducible refine State.identify_wb _ _ _ _ (fun y0 y1 => ?_)) | (with_reducible refine State.identify_dump _ _ _ _ (fun y0 y1 => ?_)) | (with_reducible refine State.identify_cipher _ _ _ _ (fun y0 y1 => ?_)) | (with_reducible refine State.identify_skv _ _ _ _ (fun y0 y1 => ?_)) | (with_reducible refine State.identify_mc _ _ _ _ (fun y0 y1 => ?_)) | (with_reducible refine State.identify_media _ _ _ _ (fun y0 y1 => ?_)) | split | dsimp only | simp)); done) | split | dsimp only))
theorem execIdentifyControllerList_kept (tag : Nat) (s : State) :
    ∃ t, execIdentifyControllerList tag s = .next t ∧ t.pending = s.pending ∧ t.wheel = s.wheel ∧ t.plan = s.plan ∧ t.rein = s.rein ∧ t.dram = s.dram ∧ t.dma = s.dma ∧ t.therm = s.therm ∧ t.img = s.img ∧ t.awl = s.awl ∧ t.codec = s.codec ∧ t.map = s.map ∧ t.blk = s.blk ∧ t.girth = s.girth ∧ t.wb = s.wb ∧ t.dump = s.dump ∧ t.cipher = s.cipher ∧ t.skv = s.skv ∧ t.mc = s.mc ∧ t.media = s.media := by
  refine ⟨_, rfl, ?_⟩; simp
theorem execIdentifyPrimaryCtrlCaps_kept (tag : Nat) (s : State) :
    ∃ t, execIdentifyPrimaryCtrlCaps tag s = .next t ∧ t.pending = s.pending ∧ t.wheel = s.wheel ∧ t.plan = s.plan ∧ t.rein = s.rein ∧ t.dram = s.dram ∧ t.dma = s.dma ∧ t.therm = s.therm ∧ t.img = s.img ∧ t.awl = s.awl ∧ t.codec = s.codec ∧ t.map = s.map ∧ t.blk = s.blk ∧ t.girth = s.girth ∧ t.wb = s.wb ∧ t.dump = s.dump ∧ t.cipher = s.cipher ∧ t.skv = s.skv ∧ t.mc = s.mc ∧ t.media = s.media := by
  refine ⟨_, rfl, ?_⟩; simp
theorem execIdentifySecondaryCtrlList_kept (tag : Nat) (s : State) :
    ∃ t, execIdentifySecondaryCtrlList tag s = .next t ∧ t.pending = s.pending ∧ t.wheel = s.wheel ∧ t.plan = s.plan ∧ t.rein = s.rein ∧ t.dram = s.dram ∧ t.dma = s.dma ∧ t.therm = s.therm ∧ t.img = s.img ∧ t.awl = s.awl ∧ t.codec = s.codec ∧ t.map = s.map ∧ t.blk = s.blk ∧ t.girth = s.girth ∧ t.wb = s.wb ∧ t.dump = s.dump ∧ t.cipher = s.cipher ∧ t.skv = s.skv ∧ t.mc = s.mc ∧ t.media = s.media := by
  refine ⟨_, rfl, ?_⟩; simp
theorem execIdentifyIoCmdSet_kept (tag : Nat) (s : State) :
    ∃ t, execIdentifyIoCmdSet tag s = .next t ∧ t.pending = s.pending ∧ t.wheel = s.wheel ∧ t.plan = s.plan ∧ t.rein = s.rein ∧ t.dram = s.dram ∧ t.dma = s.dma ∧ t.therm = s.therm ∧ t.img = s.img ∧ t.awl = s.awl ∧ t.codec = s.codec ∧ t.map = s.map ∧ t.blk = s.blk ∧ t.girth = s.girth ∧ t.wb = s.wb ∧ t.dump = s.dump ∧ t.cipher = s.cipher ∧ t.skv = s.skv ∧ t.mc = s.mc ∧ t.media = s.media := by
  refine ⟨_, rfl, ?_⟩; simp
theorem execIdentifyUnsupportedCns_kept (tag : Nat) (s : State) :
    ∃ t, execIdentifyUnsupportedCns tag s = .next t ∧ t.pending = s.pending ∧ t.wheel = s.wheel ∧ t.plan = s.plan ∧ t.rein = s.rein ∧ t.dram = s.dram ∧ t.dma = s.dma ∧ t.therm = s.therm ∧ t.img = s.img ∧ t.awl = s.awl ∧ t.codec = s.codec ∧ t.map = s.map ∧ t.blk = s.blk ∧ t.girth = s.girth ∧ t.wb = s.wb ∧ t.dump = s.dump ∧ t.cipher = s.cipher ∧ t.skv = s.skv ∧ t.mc = s.mc ∧ t.media = s.media := by
  refine ⟨_, rfl, ?_⟩; simp

end Sys2Proof.Machine
end

