-- ==== Sys2Proof/Laws/KeptLogs.lean ====
section
/-! SUPPORT. What each function of Sys2Proof/Machine/Logs.lean leaves unchanged: one lemma a function. -/
set_option linter.unusedTactic false
set_option linter.unreachableTactic false
set_option linter.unusedSimpArgs false
namespace Sys2Proof.Machine

@[simp] theorem State.getLog_pending (s : State) (tag : Nat) (lid : Nat) (sel : Cmd → Bool) (f : State → Cmd → State) (h : ∀ x0 x1, (f x0 x1).pending = x0.pending) :
    (State.getLog s tag lid sel f).pending = s.pending := by
  simp [State.getLog, h]
@[simp] theorem State.getLog_wheel (s : State) (tag : Nat) (lid : Nat) (sel : Cmd → Bool) (f : State → Cmd → State) (h : ∀ x0 x1, (f x0 x1).wheel = x0.wheel) :
    (State.getLog s tag lid sel f).wheel = s.wheel := by
  simp [State.getLog, h]
@[simp] theorem State.getLog_plan (s : State) (tag : Nat) (lid : Nat) (sel : Cmd → Bool) (f : State → Cmd → State) (h : ∀ x0 x1, (f x0 x1).plan = x0.plan) :
    (State.getLog s tag lid sel f).plan = s.plan := by
  simp [State.getLog, h]
@[simp] theorem State.getLog_rein (s : State) (tag : Nat) (lid : Nat) (sel : Cmd → Bool) (f : State → Cmd → State) (h : ∀ x0 x1, (f x0 x1).rein = x0.rein) :
    (State.getLog s tag lid sel f).rein = s.rein := by
  simp [State.getLog, h]
@[simp] theorem State.getLog_dram (s : State) (tag : Nat) (lid : Nat) (sel : Cmd → Bool) (f : State → Cmd → State) (h : ∀ x0 x1, (f x0 x1).dram = x0.dram) :
    (State.getLog s tag lid sel f).dram = s.dram := by
  simp [State.getLog, h]
@[simp] theorem State.getLog_dma (s : State) (tag : Nat) (lid : Nat) (sel : Cmd → Bool) (f : State → Cmd → State) (h : ∀ x0 x1, (f x0 x1).dma = x0.dma) :
    (State.getLog s tag lid sel f).dma = s.dma := by
  simp [State.getLog, h]
@[simp] theorem State.getLog_therm (s : State) (tag : Nat) (lid : Nat) (sel : Cmd → Bool) (f : State → Cmd → State) (h : ∀ x0 x1, (f x0 x1).therm = x0.therm) :
    (State.getLog s tag lid sel f).therm = s.therm := by
  simp [State.getLog, h]
@[simp] theorem State.getLog_img (s : State) (tag : Nat) (lid : Nat) (sel : Cmd → Bool) (f : State → Cmd → State) (h : ∀ x0 x1, (f x0 x1).img = x0.img) :
    (State.getLog s tag lid sel f).img = s.img := by
  simp [State.getLog, h]
@[simp] theorem State.getLog_awl (s : State) (tag : Nat) (lid : Nat) (sel : Cmd → Bool) (f : State → Cmd → State) (h : ∀ x0 x1, (f x0 x1).awl = x0.awl) :
    (State.getLog s tag lid sel f).awl = s.awl := by
  simp [State.getLog, h]
@[simp] theorem State.getLog_codec (s : State) (tag : Nat) (lid : Nat) (sel : Cmd → Bool) (f : State → Cmd → State) (h : ∀ x0 x1, (f x0 x1).codec = x0.codec) :
    (State.getLog s tag lid sel f).codec = s.codec := by
  simp [State.getLog, h]
@[simp] theorem State.getLog_map (s : State) (tag : Nat) (lid : Nat) (sel : Cmd → Bool) (f : State → Cmd → State) (h : ∀ x0 x1, (f x0 x1).map = x0.map) :
    (State.getLog s tag lid sel f).map = s.map := by
  simp [State.getLog, h]
@[simp] theorem State.getLog_blk (s : State) (tag : Nat) (lid : Nat) (sel : Cmd → Bool) (f : State → Cmd → State) (h : ∀ x0 x1, (f x0 x1).blk = x0.blk) :
    (State.getLog s tag lid sel f).blk = s.blk := by
  simp [State.getLog, h]
@[simp] theorem State.getLog_girth (s : State) (tag : Nat) (lid : Nat) (sel : Cmd → Bool) (f : State → Cmd → State) (h : ∀ x0 x1, (f x0 x1).girth = x0.girth) :
    (State.getLog s tag lid sel f).girth = s.girth := by
  simp [State.getLog, h]
@[simp] theorem State.getLog_wb (s : State) (tag : Nat) (lid : Nat) (sel : Cmd → Bool) (f : State → Cmd → State) (h : ∀ x0 x1, (f x0 x1).wb = x0.wb) :
    (State.getLog s tag lid sel f).wb = s.wb := by
  simp [State.getLog, h]
@[simp] theorem State.getLog_dump (s : State) (tag : Nat) (lid : Nat) (sel : Cmd → Bool) (f : State → Cmd → State) (h : ∀ x0 x1, (f x0 x1).dump = x0.dump) :
    (State.getLog s tag lid sel f).dump = s.dump := by
  simp [State.getLog, h]
@[simp] theorem State.getLog_cipher (s : State) (tag : Nat) (lid : Nat) (sel : Cmd → Bool) (f : State → Cmd → State) (h : ∀ x0 x1, (f x0 x1).cipher = x0.cipher) :
    (State.getLog s tag lid sel f).cipher = s.cipher := by
  simp [State.getLog, h]
@[simp] theorem State.getLog_skv (s : State) (tag : Nat) (lid : Nat) (sel : Cmd → Bool) (f : State → Cmd → State) (h : ∀ x0 x1, (f x0 x1).skv = x0.skv) :
    (State.getLog s tag lid sel f).skv = s.skv := by
  simp [State.getLog, h]
@[simp] theorem State.getLog_mc (s : State) (tag : Nat) (lid : Nat) (sel : Cmd → Bool) (f : State → Cmd → State) (h : ∀ x0 x1, (f x0 x1).mc = x0.mc) :
    (State.getLog s tag lid sel f).mc = s.mc := by
  simp [State.getLog, h]
@[simp] theorem State.getLog_media (s : State) (tag : Nat) (lid : Nat) (sel : Cmd → Bool) (f : State → Cmd → State) (h : ∀ x0 x1, (f x0 x1).media = x0.media) :
    (State.getLog s tag lid sel f).media = s.media := by
  simp [State.getLog, h]
@[simp] theorem State.getLog_wheel_pins (s : State) (tag : Nat) (lid : Nat) (sel : Cmd → Bool) (f : State → Cmd → State) (h : ∀ x0 x1, (f x0 x1).wheel.pins = x0.wheel.pins) :
    (State.getLog s tag lid sel f).wheel.pins = s.wheel.pins := by
  simp [State.getLog, h]
@[simp] theorem State.logRead_kept (s : State) (c : Cmd) :
    (State.logRead s c).pending = s.pending ∧ (State.logRead s c).wheel = s.wheel ∧ (State.logRead s c).plan = s.plan ∧ (State.logRead s c).rein = s.rein ∧ (State.logRead s c).dram = s.dram ∧ (State.logRead s c).dma = s.dma ∧ (State.logRead s c).therm = s.therm ∧ (State.logRead s c).img = s.img ∧ (State.logRead s c).awl = s.awl ∧ (State.logRead s c).codec = s.codec ∧ (State.logRead s c).map = s.map ∧ (State.logRead s c).blk = s.blk ∧ (State.logRead s c).girth = s.girth ∧ (State.logRead s c).wb = s.wb ∧ (State.logRead s c).dump = s.dump ∧ (State.logRead s c).cipher = s.cipher ∧ (State.logRead s c).skv = s.skv ∧ (State.logRead s c).mc = s.mc ∧ (State.logRead s c).media = s.media := by
  simp [State.logRead]
@[simp] theorem State.giveFree_kept (s : State) (tag : Nat) (c : Cmd) (length : Nat) (pg : Page) :
    (State.giveFree s tag c length pg).pending = s.pending ∧ (State.giveFree s tag c length pg).wheel = s.wheel ∧ (State.giveFree s tag c length pg).plan = s.plan ∧ (State.giveFree s tag c length pg).rein = s.rein ∧ (State.giveFree s tag c length pg).dram = s.dram ∧ (State.giveFree s tag c length pg).dma = s.dma ∧ (State.giveFree s tag c length pg).therm = s.therm ∧ (State.giveFree s tag c length pg).img = s.img ∧ (State.giveFree s tag c length pg).awl = s.awl ∧ (State.giveFree s tag c length pg).codec = s.codec ∧ (State.giveFree s tag c length pg).map = s.map ∧ (State.giveFree s tag c length pg).blk = s.blk ∧ (State.giveFree s tag c length pg).girth = s.girth ∧ (State.giveFree s tag c length pg).wb = s.wb ∧ (State.giveFree s tag c length pg).dump = s.dump ∧ (State.giveFree s tag c length pg).cipher = s.cipher ∧ (State.giveFree s tag c length pg).skv = s.skv ∧ (State.giveFree s tag c length pg).mc = s.mc ∧ (State.giveFree s tag c length pg).media = s.media := by
  simp [State.giveFree]
@[simp] theorem State.givePage_kept (s : State) (tag : Nat) (c : Cmd) (length : Nat) (pg : Page) :
    (State.givePage s tag c length pg).pending = s.pending ∧ (State.givePage s tag c length pg).wheel = s.wheel ∧ (State.givePage s tag c length pg).plan = s.plan ∧ (State.givePage s tag c length pg).rein = s.rein ∧ (State.givePage s tag c length pg).dram = s.dram ∧ (State.givePage s tag c length pg).dma = s.dma ∧ (State.givePage s tag c length pg).therm = s.therm ∧ (State.givePage s tag c length pg).img = s.img ∧ (State.givePage s tag c length pg).awl = s.awl ∧ (State.givePage s tag c length pg).codec = s.codec ∧ (State.givePage s tag c length pg).map = s.map ∧ (State.givePage s tag c length pg).blk = s.blk ∧ (State.givePage s tag c length pg).girth = s.girth ∧ (State.givePage s tag c length pg).wb = s.wb ∧ (State.givePage s tag c length pg).dump = s.dump ∧ (State.givePage s tag c length pg).cipher = s.cipher ∧ (State.givePage s tag c length pg).skv = s.skv ∧ (State.givePage s tag c length pg).mc = s.mc ∧ (State.givePage s tag c length pg).media = s.media := by
  simp [State.givePage]
theorem execGetLogSupportedPages_kept (tag : Nat) (s : State) :
    ∃ t, execGetLogSupportedPages tag s = .next t ∧ t.pending = s.pending ∧ t.wheel = s.wheel ∧ t.plan = s.plan ∧ t.rein = s.rein ∧ t.dram = s.dram ∧ t.dma = s.dma ∧ t.therm = s.therm ∧ t.img = s.img ∧ t.awl = s.awl ∧ t.codec = s.codec ∧ t.map = s.map ∧ t.blk = s.blk ∧ t.girth = s.girth ∧ t.wb = s.wb ∧ t.dump = s.dump ∧ t.cipher = s.cipher ∧ t.skv = s.skv ∧ t.mc = s.mc ∧ t.media = s.media := by
  refine ⟨_, rfl, ?_⟩; simp
theorem execGetLogErrorInfo_kept (tag : Nat) (s : State) :
    ∃ t, execGetLogErrorInfo tag s = .next t ∧ t.pending = s.pending ∧ t.wheel = s.wheel ∧ t.plan = s.plan ∧ t.rein = s.rein ∧ t.dram = s.dram ∧ t.dma = s.dma ∧ t.therm = s.therm ∧ t.img = s.img ∧ t.awl = s.awl ∧ t.codec = s.codec ∧ t.map = s.map ∧ t.blk = s.blk ∧ t.girth = s.girth ∧ t.wb = s.wb ∧ t.dump = s.dump ∧ t.cipher = s.cipher ∧ t.skv = s.skv ∧ t.mc = s.mc ∧ t.media = s.media := by
  refine ⟨_, rfl, ?_⟩; simp
theorem execGetLogSmart_kept (tag : Nat) (s : State) :
    ∃ t, execGetLogSmart tag s = .next t ∧ t.pending = s.pending ∧ t.wheel = s.wheel ∧ t.plan = s.plan ∧ t.rein = s.rein ∧ t.dram = s.dram ∧ t.dma = s.dma ∧ t.therm = s.therm ∧ t.img = s.img ∧ t.awl = s.awl ∧ t.codec = s.codec ∧ t.map = s.map ∧ t.blk = s.blk ∧ t.girth = s.girth ∧ t.wb = s.wb ∧ t.dump = s.dump ∧ t.cipher = s.cipher ∧ t.skv = s.skv ∧ t.mc = s.mc ∧ t.media = s.media := by
  refine ⟨_, rfl, ?_⟩; simp
theorem execGetLogFwSlot_kept (tag : Nat) (s : State) :
    ∃ t, execGetLogFwSlot tag s = .next t ∧ t.pending = s.pending ∧ t.wheel = s.wheel ∧ t.plan = s.plan ∧ t.rein = s.rein ∧ t.dram = s.dram ∧ t.dma = s.dma ∧ t.therm = s.therm ∧ t.img = s.img ∧ t.awl = s.awl ∧ t.codec = s.codec ∧ t.map = s.map ∧ t.blk = s.blk ∧ t.girth = s.girth ∧ t.wb = s.wb ∧ t.dump = s.dump ∧ t.cipher = s.cipher ∧ t.skv = s.skv ∧ t.mc = s.mc ∧ t.media = s.media := by
  refine ⟨_, rfl, ?_⟩; simp
theorem execGetLogCmdEffects_kept (tag : Nat) (s : State) :
    ∃ t, execGetLogCmdEffects tag s = .next t ∧ t.pending = s.pending ∧ t.wheel = s.wheel ∧ t.plan = s.plan ∧ t.rein = s.rein ∧ t.dram = s.dram ∧ t.dma = s.dma ∧ t.therm = s.therm ∧ t.img = s.img ∧ t.awl = s.awl ∧ t.codec = s.codec ∧ t.map = s.map ∧ t.blk = s.blk ∧ t.girth = s.girth ∧ t.wb = s.wb ∧ t.dump = s.dump ∧ t.cipher = s.cipher ∧ t.skv = s.skv ∧ t.mc = s.mc ∧ t.media = s.media := by
  refine ⟨_, rfl, ?_⟩; simp
theorem execGetLogSelfTest_kept (tag : Nat) (s : State) :
    ∃ t, execGetLogSelfTest tag s = .next t ∧ t.pending = s.pending ∧ t.wheel = s.wheel ∧ t.plan = s.plan ∧ t.rein = s.rein ∧ t.dram = s.dram ∧ t.dma = s.dma ∧ t.therm = s.therm ∧ t.img = s.img ∧ t.awl = s.awl ∧ t.codec = s.codec ∧ t.map = s.map ∧ t.blk = s.blk ∧ t.girth = s.girth ∧ t.wb = s.wb ∧ t.dump = s.dump ∧ t.cipher = s.cipher ∧ t.skv = s.skv ∧ t.mc = s.mc ∧ t.media = s.media := by
  refine ⟨_, rfl, ?_⟩; simp
theorem execGetLogEndurance_kept (tag : Nat) (s : State) :
    ∃ t, execGetLogEndurance tag s = .next t ∧ t.pending = s.pending ∧ t.wheel = s.wheel ∧ t.plan = s.plan ∧ t.rein = s.rein ∧ t.dram = s.dram ∧ t.dma = s.dma ∧ t.therm = s.therm ∧ t.img = s.img ∧ t.awl = s.awl ∧ t.codec = s.codec ∧ t.map = s.map ∧ t.blk = s.blk ∧ t.girth = s.girth ∧ t.wb = s.wb ∧ t.dump = s.dump ∧ t.cipher = s.cipher ∧ t.skv = s.skv ∧ t.mc = s.mc ∧ t.media = s.media := by
  refine ⟨_, rfl, ?_⟩; simp
theorem execGetLogLbaStatus_kept (tag : Nat) (s : State) :
    ∃ t, execGetLogLbaStatus tag s = .next t ∧ t.pending = s.pending ∧ t.wheel = s.wheel ∧ t.plan = s.plan ∧ t.rein = s.rein ∧ t.dram = s.dram ∧ t.dma = s.dma ∧ t.therm = s.therm ∧ t.img = s.img ∧ t.awl = s.awl ∧ t.codec = s.codec ∧ t.map = s.map ∧ t.blk = s.blk ∧ t.girth = s.girth ∧ t.wb = s.wb ∧ t.dump = s.dump ∧ t.cipher = s.cipher ∧ t.skv = s.skv ∧ t.mc = s.mc ∧ t.media = s.media := by
  refine ⟨_, rfl, ?_⟩; simp
theorem execGetLogFdpConfigs_kept (tag : Nat) (s : State) :
    ∃ t, execGetLogFdpConfigs tag s = .next t ∧ t.pending = s.pending ∧ t.wheel = s.wheel ∧ t.plan = s.plan ∧ t.rein = s.rein ∧ t.dram = s.dram ∧ t.dma = s.dma ∧ t.therm = s.therm ∧ t.img = s.img ∧ t.awl = s.awl ∧ t.codec = s.codec ∧ t.map = s.map ∧ t.blk = s.blk ∧ t.girth = s.girth ∧ t.wb = s.wb ∧ t.dump = s.dump ∧ t.cipher = s.cipher ∧ t.skv = s.skv ∧ t.mc = s.mc ∧ t.media = s.media := by
  refine ⟨_, rfl, ?_⟩; simp
theorem execGetLogRuhUsage_kept (tag : Nat) (s : State) :
    ∃ t, execGetLogRuhUsage tag s = .next t ∧ t.pending = s.pending ∧ t.wheel = s.wheel ∧ t.plan = s.plan ∧ t.rein = s.rein ∧ t.dram = s.dram ∧ t.dma = s.dma ∧ t.therm = s.therm ∧ t.img = s.img ∧ t.awl = s.awl ∧ t.codec = s.codec ∧ t.map = s.map ∧ t.blk = s.blk ∧ t.girth = s.girth ∧ t.wb = s.wb ∧ t.dump = s.dump ∧ t.cipher = s.cipher ∧ t.skv = s.skv ∧ t.mc = s.mc ∧ t.media = s.media := by
  refine ⟨_, rfl, ?_⟩; simp
theorem execGetLogFdpStats_kept (tag : Nat) (s : State) :
    ∃ t, execGetLogFdpStats tag s = .next t ∧ t.pending = s.pending ∧ t.wheel = s.wheel ∧ t.plan = s.plan ∧ t.rein = s.rein ∧ t.dram = s.dram ∧ t.dma = s.dma ∧ t.therm = s.therm ∧ t.img = s.img ∧ t.awl = s.awl ∧ t.codec = s.codec ∧ t.map = s.map ∧ t.blk = s.blk ∧ t.girth = s.girth ∧ t.wb = s.wb ∧ t.dump = s.dump ∧ t.cipher = s.cipher ∧ t.skv = s.skv ∧ t.mc = s.mc ∧ t.media = s.media := by
  refine ⟨_, rfl, ?_⟩; simp
theorem execGetLogFdpEvents_kept (tag : Nat) (s : State) :
    ∃ t, execGetLogFdpEvents tag s = .next t ∧ t.pending = s.pending ∧ t.wheel = s.wheel ∧ t.plan = s.plan ∧ t.rein = s.rein ∧ t.dram = s.dram ∧ t.dma = s.dma ∧ t.therm = s.therm ∧ t.img = s.img ∧ t.awl = s.awl ∧ t.codec = s.codec ∧ t.map = s.map ∧ t.blk = s.blk ∧ t.girth = s.girth ∧ t.wb = s.wb ∧ t.dump = s.dump ∧ t.cipher = s.cipher ∧ t.skv = s.skv ∧ t.mc = s.mc ∧ t.media = s.media := by
  refine ⟨_, rfl, ?_⟩; simp
theorem execGetLogSanitizeStatus_kept (tag : Nat) (s : State) :
    ∃ t, execGetLogSanitizeStatus tag s = .next t ∧ t.pending = s.pending ∧ t.wheel = s.wheel ∧ t.plan = s.plan ∧ t.rein = s.rein ∧ t.dram = s.dram ∧ t.dma = s.dma ∧ t.therm = s.therm ∧ t.img = s.img ∧ t.awl = s.awl ∧ t.codec = s.codec ∧ t.map = s.map ∧ t.blk = s.blk ∧ t.girth = s.girth ∧ t.wb = s.wb ∧ t.dump = s.dump ∧ t.cipher = s.cipher ∧ t.skv = s.skv ∧ t.mc = s.mc ∧ t.media = s.media := by
  refine ⟨_, rfl, ?_⟩; simp
theorem execGetLogWheelPlan_kept (tag : Nat) (s : State) :
    ∃ t, execGetLogWheelPlan tag s = .next t ∧ t.pending = s.pending ∧ t.wheel = s.wheel ∧ t.plan = s.plan ∧ t.rein = s.rein ∧ t.dram = s.dram ∧ t.dma = s.dma ∧ t.therm = s.therm ∧ t.img = s.img ∧ t.awl = s.awl ∧ t.codec = s.codec ∧ t.map = s.map ∧ t.blk = s.blk ∧ t.girth = s.girth ∧ t.wb = s.wb ∧ t.dump = s.dump ∧ t.cipher = s.cipher ∧ t.skv = s.skv ∧ t.mc = s.mc ∧ t.media = s.media := by
  refine ⟨_, rfl, ?_⟩; simp
theorem execGetLogGirthHealth_kept (tag : Nat) (s : State) :
    ∃ t, execGetLogGirthHealth tag s = .next t ∧ t.pending = s.pending ∧ t.wheel = s.wheel ∧ t.plan = s.plan ∧ t.rein = s.rein ∧ t.dram = s.dram ∧ t.dma = s.dma ∧ t.therm = s.therm ∧ t.img = s.img ∧ t.awl = s.awl ∧ t.codec = s.codec ∧ t.map = s.map ∧ t.blk = s.blk ∧ t.girth = s.girth ∧ t.wb = s.wb ∧ t.dump = s.dump ∧ t.cipher = s.cipher ∧ t.skv = s.skv ∧ t.mc = s.mc ∧ t.media = s.media := by
  refine ⟨_, rfl, ?_⟩; simp
theorem execGetLogEventCounters_kept (tag : Nat) (s : State) :
    ∃ t, execGetLogEventCounters tag s = .next t ∧ t.pending = s.pending ∧ t.wheel = s.wheel ∧ t.plan = s.plan ∧ t.rein = s.rein ∧ t.dram = s.dram ∧ t.dma = s.dma ∧ t.therm = s.therm ∧ t.img = s.img ∧ t.awl = s.awl ∧ t.codec = s.codec ∧ t.map = s.map ∧ t.blk = s.blk ∧ t.girth = s.girth ∧ t.wb = s.wb ∧ t.dump = s.dump ∧ t.cipher = s.cipher ∧ t.skv = s.skv ∧ t.mc = s.mc ∧ t.media = s.media := by
  refine ⟨_, rfl, ?_⟩; simp
theorem execGetLogEventCountersClear_kept (tag : Nat) (s : State) :
    ∃ t, execGetLogEventCountersClear tag s = .next t ∧ t.pending = s.pending ∧ t.wheel = s.wheel ∧ t.plan = s.plan ∧ t.rein = s.rein ∧ t.dram = s.dram ∧ t.dma = s.dma ∧ t.therm = s.therm ∧ t.img = s.img ∧ t.awl = s.awl ∧ t.codec = s.codec ∧ t.map = s.map ∧ t.blk = s.blk ∧ t.girth = s.girth ∧ t.wb = s.wb ∧ t.dump = s.dump ∧ t.cipher = s.cipher ∧ t.skv = s.skv ∧ t.mc = s.mc ∧ t.media = s.media := by
  refine ⟨_, rfl, ?_⟩; simp
@[simp] theorem State.startTransfer_kept (s : State) (tag : Nat) (c : Cmd) (length : Nat) (pg : Page) (release : Bool) :
    (State.startTransfer s tag c length pg release).pending = s.pending ∧ (State.startTransfer s tag c length pg release).wheel = s.wheel ∧ (State.startTransfer s tag c length pg release).plan = s.plan ∧ (State.startTransfer s tag c length pg release).rein = s.rein ∧ (State.startTransfer s tag c length pg release).dram = s.dram ∧ (State.startTransfer s tag c length pg release).dma = s.dma ∧ (State.startTransfer s tag c length pg release).therm = s.therm ∧ (State.startTransfer s tag c length pg release).img = s.img ∧ (State.startTransfer s tag c length pg release).awl = s.awl ∧ (State.startTransfer s tag c length pg release).codec = s.codec ∧ (State.startTransfer s tag c length pg release).map = s.map ∧ (State.startTransfer s tag c length pg release).blk = s.blk ∧ (State.startTransfer s tag c length pg release).girth = s.girth ∧ (State.startTransfer s tag c length pg release).wb = s.wb ∧ (State.startTransfer s tag c length pg release).dump = s.dump ∧ (State.startTransfer s tag c length pg release).cipher = s.cipher ∧ (State.startTransfer s tag c length pg release).skv = s.skv ∧ (State.startTransfer s tag c length pg release).mc = s.mc ∧ (State.startTransfer s tag c length pg release).media = s.media := by
  simp [State.startTransfer]
theorem execGetLogSaddlebagRing_kept (tag : Nat) (s : State) :
    ∃ t, execGetLogSaddlebagRing tag s = .next t ∧ t.pending = s.pending ∧ t.wheel = s.wheel ∧ t.plan = s.plan ∧ t.rein = s.rein ∧ t.dram = s.dram ∧ t.dma = s.dma ∧ t.therm = s.therm ∧ t.img = s.img ∧ t.awl = s.awl ∧ t.codec = s.codec ∧ t.map = s.map ∧ t.blk = s.blk ∧ t.girth = s.girth ∧ t.wb = s.wb ∧ t.dump = s.dump ∧ t.cipher = s.cipher ∧ t.skv = s.skv ∧ t.mc = s.mc ∧ t.media = s.media := by
  refine ⟨_, rfl, ?_⟩; simp
theorem execGetLogSaddlebagRelease_kept (tag : Nat) (s : State) :
    ∃ t, execGetLogSaddlebagRelease tag s = .next t ∧ t.pending = s.pending ∧ t.wheel = s.wheel ∧ t.plan = s.plan ∧ t.rein = s.rein ∧ t.dram = s.dram ∧ t.dma = s.dma ∧ t.therm = s.therm ∧ t.img = s.img ∧ t.awl = s.awl ∧ t.codec = s.codec ∧ t.map = s.map ∧ t.blk = s.blk ∧ t.girth = s.girth ∧ t.wb = s.wb ∧ t.dump = s.dump ∧ t.cipher = s.cipher ∧ t.skv = s.skv ∧ t.mc = s.mc ∧ t.media = s.media := by
  refine ⟨_, rfl, ?_⟩; simp
theorem execGetLogSaddlebagPersisted_kept (tag : Nat) (s : State) :
    ∃ t, execGetLogSaddlebagPersisted tag s = .next t ∧ t.pending = s.pending ∧ t.wheel = s.wheel ∧ t.plan = s.plan ∧ t.rein = s.rein ∧ t.dram = s.dram ∧ t.dma = s.dma ∧ t.therm = s.therm ∧ t.img = s.img ∧ t.awl = s.awl ∧ t.codec = s.codec ∧ t.map = s.map ∧ t.blk = s.blk ∧ t.girth = s.girth ∧ t.wb = s.wb ∧ t.dump = s.dump ∧ t.cipher = s.cipher ∧ t.skv = s.skv ∧ t.mc = s.mc ∧ t.media = s.media := by
  refine ⟨_, rfl, ?_⟩; simp
@[simp] theorem State.holdingOver_kept (s : State) :
    (State.holdingOver s).pending = s.pending ∧ (State.holdingOver s).wheel = s.wheel ∧ (State.holdingOver s).plan = s.plan ∧ (State.holdingOver s).rein = s.rein ∧ (State.holdingOver s).dram = s.dram ∧ (State.holdingOver s).dma = s.dma ∧ (State.holdingOver s).therm = s.therm ∧ (State.holdingOver s).img = s.img ∧ (State.holdingOver s).awl = s.awl ∧ (State.holdingOver s).codec = s.codec ∧ (State.holdingOver s).map = s.map ∧ (State.holdingOver s).blk = s.blk ∧ (State.holdingOver s).girth = s.girth ∧ (State.holdingOver s).wb = s.wb ∧ (State.holdingOver s).dump = s.dump ∧ (State.holdingOver s).cipher = s.cipher ∧ (State.holdingOver s).skv = s.skv ∧ (State.holdingOver s).mc = s.mc ∧ (State.holdingOver s).media = s.media := by
  simp [State.holdingOver]
theorem execSaddlebagTransferEnd_kept (tag : Nat) (s : State) :
    ∃ t, execSaddlebagTransferEnd tag s = .next t ∧ t.pending = s.pending ∧ t.wheel = s.wheel ∧ t.plan = s.plan ∧ t.rein = s.rein ∧ t.dram = s.dram ∧ t.dma = s.dma ∧ t.therm = s.therm ∧ t.img = s.img ∧ t.awl = s.awl ∧ t.codec = s.codec ∧ t.map = s.map ∧ t.blk = s.blk ∧ t.girth = s.girth ∧ t.wb = s.wb ∧ t.dump = s.dump ∧ t.cipher = s.cipher ∧ t.skv = s.skv ∧ t.mc = s.mc ∧ t.media = s.media := by
  unfold execSaddlebagTransferEnd; (repeat' split) <;> (refine ⟨_, rfl, ?_⟩; simp)
theorem execGetLogIdentity_kept (tag : Nat) (s : State) :
    ∃ t, execGetLogIdentity tag s = .next t ∧ t.pending = s.pending ∧ t.wheel = s.wheel ∧ t.plan = s.plan ∧ t.rein = s.rein ∧ t.dram = s.dram ∧ t.dma = s.dma ∧ t.therm = s.therm ∧ t.img = s.img ∧ t.awl = s.awl ∧ t.codec = s.codec ∧ t.map = s.map ∧ t.blk = s.blk ∧ t.girth = s.girth ∧ t.wb = s.wb ∧ t.dump = s.dump ∧ t.cipher = s.cipher ∧ t.skv = s.skv ∧ t.mc = s.mc ∧ t.media = s.media := by
  refine ⟨_, rfl, ?_⟩; simp
theorem execGetLogSecureDiscard_kept (tag : Nat) (s : State) :
    ∃ t, execGetLogSecureDiscard tag s = .next t ∧ t.pending = s.pending ∧ t.wheel = s.wheel ∧ t.plan = s.plan ∧ t.rein = s.rein ∧ t.dram = s.dram ∧ t.dma = s.dma ∧ t.therm = s.therm ∧ t.img = s.img ∧ t.awl = s.awl ∧ t.codec = s.codec ∧ t.map = s.map ∧ t.blk = s.blk ∧ t.girth = s.girth ∧ t.wb = s.wb ∧ t.dump = s.dump ∧ t.cipher = s.cipher ∧ t.skv = s.skv ∧ t.mc = s.mc ∧ t.media = s.media := by
  refine ⟨_, rfl, ?_⟩; simp
theorem execGetLogReinHealth_kept (tag : Nat) (s : State) :
    ∃ t, execGetLogReinHealth tag s = .next t ∧ t.pending = s.pending ∧ t.wheel = s.wheel ∧ t.plan = s.plan ∧ t.rein = s.rein ∧ t.dram = s.dram ∧ t.dma = s.dma ∧ t.therm = s.therm ∧ t.img = s.img ∧ t.awl = s.awl ∧ t.codec = s.codec ∧ t.map = s.map ∧ t.blk = s.blk ∧ t.girth = s.girth ∧ t.wb = s.wb ∧ t.dump = s.dump ∧ t.cipher = s.cipher ∧ t.skv = s.skv ∧ t.mc = s.mc ∧ t.media = s.media := by
  refine ⟨_, rfl, ?_⟩; simp
theorem execGetLogUnsupportedPage_kept (tag : Nat) (s : State) :
    ∃ t, execGetLogUnsupportedPage tag s = .next t ∧ t.pending = s.pending ∧ t.wheel = s.wheel ∧ t.plan = s.plan ∧ t.rein = s.rein ∧ t.dram = s.dram ∧ t.dma = s.dma ∧ t.therm = s.therm ∧ t.img = s.img ∧ t.awl = s.awl ∧ t.codec = s.codec ∧ t.map = s.map ∧ t.blk = s.blk ∧ t.girth = s.girth ∧ t.wb = s.wb ∧ t.dump = s.dump ∧ t.cipher = s.cipher ∧ t.skv = s.skv ∧ t.mc = s.mc ∧ t.media = s.media := by
  refine ⟨_, rfl, ?_⟩; simp

end Sys2Proof.Machine
end

