-- ==== Sys2Proof/Laws/KeptLink.lean ====
section
/-! SUPPORT. What each function of Sys2Proof/Machine/Link.lean leaves unchanged: one lemma a function. -/
set_option linter.unusedTactic false
set_option linter.unreachableTactic false
set_option linter.unusedSimpArgs false
namespace Sys2Proof.Machine

@[simp] theorem State.healthCheck_kept (s : State) (r : Sys2Proof.Rein) :
    (State.healthCheck s r).pending = s.pending ∧ (State.healthCheck s r).wheel = s.wheel ∧ (State.healthCheck s r).plan = s.plan ∧ (State.healthCheck s r).dram = s.dram ∧ (State.healthCheck s r).dma = s.dma ∧ (State.healthCheck s r).therm = s.therm ∧ (State.healthCheck s r).img = s.img ∧ (State.healthCheck s r).awl = s.awl ∧ (State.healthCheck s r).codec = s.codec ∧ (State.healthCheck s r).map = s.map ∧ (State.healthCheck s r).blk = s.blk ∧ (State.healthCheck s r).girth = s.girth ∧ (State.healthCheck s r).wb = s.wb ∧ (State.healthCheck s r).dump = s.dump ∧ (State.healthCheck s r).cipher = s.cipher ∧ (State.healthCheck s r).skv = s.skv ∧ (State.healthCheck s r).mc = s.mc ∧ (State.healthCheck s r).media = s.media := by
  simp [State.healthCheck]
@[simp] theorem State.reinTest_kept (s : State) (r : Sys2Proof.Rein) (e : Sys2Proof.EyeFound) :
    (State.reinTest s r e).pending = s.pending ∧ (State.reinTest s r e).wheel = s.wheel ∧ (State.reinTest s r e).plan = s.plan ∧ (State.reinTest s r e).dram = s.dram ∧ (State.reinTest s r e).dma = s.dma ∧ (State.reinTest s r e).therm = s.therm ∧ (State.reinTest s r e).img = s.img ∧ (State.reinTest s r e).awl = s.awl ∧ (State.reinTest s r e).codec = s.codec ∧ (State.reinTest s r e).map = s.map ∧ (State.reinTest s r e).blk = s.blk ∧ (State.reinTest s r e).girth = s.girth ∧ (State.reinTest s r e).wb = s.wb ∧ (State.reinTest s r e).dump = s.dump ∧ (State.reinTest s r e).cipher = s.cipher ∧ (State.reinTest s r e).skv = s.skv ∧ (State.reinTest s r e).mc = s.mc ∧ (State.reinTest s r e).media = s.media := by
  simp [State.reinTest]
theorem execLinkUp_kept (rein : Sys2Proof.Rein) (link : Sys2Proof.LinkFound) (s : State) :
    ∃ t, execLinkUp rein link s = .next t ∧ t.pending = s.pending ∧ t.wheel = s.wheel ∧ t.plan = s.plan ∧ t.dram = s.dram ∧ t.dma = s.dma ∧ t.therm = s.therm ∧ t.img = s.img ∧ t.awl = s.awl ∧ t.codec = s.codec ∧ t.map = s.map ∧ t.blk = s.blk ∧ t.girth = s.girth ∧ t.wb = s.wb ∧ t.dump = s.dump ∧ t.cipher = s.cipher ∧ t.skv = s.skv ∧ t.mc = s.mc ∧ t.media = s.media := by
  unfold execLinkUp; dsimp only; (repeat' split) <;> (refine ⟨_, rfl, ?_⟩; simp)
theorem execLinkRecovery_kept (rein : Sys2Proof.Rein) (link : Sys2Proof.LinkFound) (s : State) :
    ∃ t, execLinkRecovery rein link s = .next t ∧ t.pending = s.pending ∧ t.wheel = s.wheel ∧ t.plan = s.plan ∧ t.dram = s.dram ∧ t.dma = s.dma ∧ t.therm = s.therm ∧ t.img = s.img ∧ t.awl = s.awl ∧ t.codec = s.codec ∧ t.map = s.map ∧ t.blk = s.blk ∧ t.girth = s.girth ∧ t.wb = s.wb ∧ t.dump = s.dump ∧ t.cipher = s.cipher ∧ t.skv = s.skv ∧ t.mc = s.mc ∧ t.media = s.media := by
  unfold execLinkRecovery; (repeat' split) <;> (refine ⟨_, rfl, ?_⟩; simp)
theorem execReinSelfTestPeriodic_kept (rein : Sys2Proof.Rein) (eyes : Sys2Proof.EyeFound) (s : State) :
    ∃ t, execReinSelfTestPeriodic rein eyes s = .next t ∧ t.pending = s.pending ∧ t.wheel = s.wheel ∧ t.plan = s.plan ∧ t.dram = s.dram ∧ t.dma = s.dma ∧ t.therm = s.therm ∧ t.img = s.img ∧ t.awl = s.awl ∧ t.codec = s.codec ∧ t.map = s.map ∧ t.blk = s.blk ∧ t.girth = s.girth ∧ t.wb = s.wb ∧ t.dump = s.dump ∧ t.cipher = s.cipher ∧ t.skv = s.skv ∧ t.mc = s.mc ∧ t.media = s.media := by
  unfold execReinSelfTestPeriodic; (repeat' split) <;> (refine ⟨_, rfl, ?_⟩; simp)
theorem execMalformedTlp_kept (rein : Sys2Proof.Rein) (s : State) :
    ∃ t, execMalformedTlp rein s = .next t ∧ t.pending = s.pending ∧ t.wheel = s.wheel ∧ t.plan = s.plan ∧ t.dram = s.dram ∧ t.dma = s.dma ∧ t.therm = s.therm ∧ t.img = s.img ∧ t.awl = s.awl ∧ t.codec = s.codec ∧ t.map = s.map ∧ t.blk = s.blk ∧ t.girth = s.girth ∧ t.wb = s.wb ∧ t.dump = s.dump ∧ t.cipher = s.cipher ∧ t.skv = s.skv ∧ t.mc = s.mc ∧ t.media = s.media := by
  unfold execMalformedTlp; (repeat' split) <;> (refine ⟨_, rfl, ?_⟩; simp)
@[simp] theorem State.endCtx_kept (s : State) (n : Nat) :
    (State.endCtx s n).pending = s.pending ∧ (State.endCtx s n).wheel = s.wheel ∧ (State.endCtx s n).plan = s.plan ∧ (State.endCtx s n).rein = s.rein ∧ (State.endCtx s n).dram = s.dram ∧ (State.endCtx s n).dma = s.dma ∧ (State.endCtx s n).therm = s.therm ∧ (State.endCtx s n).img = s.img := by
  simp [State.endCtx]
@[simp] theorem State.cutQueue_kept (s : State) (k : Nat) :
    (State.cutQueue s k).pending = s.pending ∧ (State.cutQueue s k).wheel = s.wheel ∧ (State.cutQueue s k).plan = s.plan ∧ (State.cutQueue s k).rein = s.rein ∧ (State.cutQueue s k).dram = s.dram ∧ (State.cutQueue s k).dma = s.dma ∧ (State.cutQueue s k).therm = s.therm ∧ (State.cutQueue s k).img = s.img ∧ (State.cutQueue s k).awl = s.awl ∧ (State.cutQueue s k).codec = s.codec ∧ (State.cutQueue s k).map = s.map ∧ (State.cutQueue s k).blk = s.blk ∧ (State.cutQueue s k).girth = s.girth ∧ (State.cutQueue s k).wb = s.wb ∧ (State.cutQueue s k).dump = s.dump ∧ (State.cutQueue s k).cipher = s.cipher ∧ (State.cutQueue s k).skv = s.skv ∧ (State.cutQueue s k).mc = s.mc ∧ (State.cutQueue s k).media = s.media := by
  simp [State.cutQueue]
@[simp] theorem State.dropAers_kept (s : State) (c : Nat) (r : Sys2Proof.Rein) :
    (State.dropAers s c r).pending = s.pending ∧ (State.dropAers s c r).wheel = s.wheel ∧ (State.dropAers s c r).plan = s.plan ∧ (State.dropAers s c r).rein = s.rein ∧ (State.dropAers s c r).dram = s.dram ∧ (State.dropAers s c r).dma = s.dma ∧ (State.dropAers s c r).therm = s.therm ∧ (State.dropAers s c r).img = s.img ∧ (State.dropAers s c r).awl = s.awl ∧ (State.dropAers s c r).codec = s.codec ∧ (State.dropAers s c r).map = s.map ∧ (State.dropAers s c r).blk = s.blk ∧ (State.dropAers s c r).girth = s.girth ∧ (State.dropAers s c r).wb = s.wb ∧ (State.dropAers s c r).dump = s.dump ∧ (State.dropAers s c r).cipher = s.cipher ∧ (State.dropAers s c r).skv = s.skv ∧ (State.dropAers s c r).mc = s.mc ∧ (State.dropAers s c r).media = s.media := by
  simp [State.dropAers]
@[simp] theorem State.controllerReset_kept (s : State) (c : Nat) :
    (State.controllerReset s c).pending = s.pending ∧ (State.controllerReset s c).plan = s.plan ∧ (State.controllerReset s c).dram = s.dram ∧ (State.controllerReset s c).dma = s.dma ∧ (State.controllerReset s c).img = s.img ∧ (State.controllerReset s c).wheel.pins = s.wheel.pins := by
  simp [State.controllerReset]
@[simp] theorem State.dropSide_kept (s : State) (c : Nat) (r : Sys2Proof.Rein) :
    (State.dropSide s c r).pending = s.pending ∧ (State.dropSide s c r).wheel = s.wheel ∧ (State.dropSide s c r).plan = s.plan ∧ (State.dropSide s c r).rein = s.rein ∧ (State.dropSide s c r).dram = s.dram ∧ (State.dropSide s c r).dma = s.dma ∧ (State.dropSide s c r).therm = s.therm ∧ (State.dropSide s c r).img = s.img ∧ (State.dropSide s c r).awl = s.awl ∧ (State.dropSide s c r).codec = s.codec ∧ (State.dropSide s c r).map = s.map ∧ (State.dropSide s c r).blk = s.blk ∧ (State.dropSide s c r).girth = s.girth ∧ (State.dropSide s c r).wb = s.wb ∧ (State.dropSide s c r).dump = s.dump ∧ (State.dropSide s c r).cipher = s.cipher ∧ (State.dropSide s c r).skv = s.skv ∧ (State.dropSide s c r).mc = s.mc ∧ (State.dropSide s c r).media = s.media := by
  simp [State.dropSide]
@[simp] theorem State.endTestOf_kept (s : State) (c : Nat) (r : Sys2Proof.Rein) :
    (State.endTestOf s c r).pending = s.pending ∧ (State.endTestOf s c r).wheel = s.wheel ∧ (State.endTestOf s c r).plan = s.plan ∧ (State.endTestOf s c r).rein = s.rein ∧ (State.endTestOf s c r).dram = s.dram ∧ (State.endTestOf s c r).dma = s.dma ∧ (State.endTestOf s c r).therm = s.therm ∧ (State.endTestOf s c r).img = s.img ∧ (State.endTestOf s c r).awl = s.awl ∧ (State.endTestOf s c r).codec = s.codec ∧ (State.endTestOf s c r).map = s.map ∧ (State.endTestOf s c r).blk = s.blk ∧ (State.endTestOf s c r).girth = s.girth ∧ (State.endTestOf s c r).wb = s.wb ∧ (State.endTestOf s c r).dump = s.dump ∧ (State.endTestOf s c r).cipher = s.cipher ∧ (State.endTestOf s c r).skv = s.skv ∧ (State.endTestOf s c r).mc = s.mc ∧ (State.endTestOf s c r).media = s.media := by
  unfold State.endTestOf; split <;> simp
@[simp] theorem State.resetSide_kept (s : State) (c : Nat) (r : Sys2Proof.Rein) (keepRegs : Bool) :
    (State.resetSide s c r keepRegs).pending = s.pending ∧ (State.resetSide s c r keepRegs).plan = s.plan ∧ (State.resetSide s c r keepRegs).dram = s.dram ∧ (State.resetSide s c r keepRegs).dma = s.dma ∧ (State.resetSide s c r keepRegs).img = s.img ∧ (State.resetSide s c r keepRegs).wheel.pins = s.wheel.pins := by
  simp [State.resetSide]
@[simp] theorem State.leaveService_kept (s : State) (r : Sys2Proof.Rein) (cause : Nat) (func : Option Nat) :
    (State.leaveService s r cause func).pending = s.pending ∧ (State.leaveService s r cause func).plan = s.plan ∧ (State.leaveService s r cause func).dram = s.dram ∧ (State.leaveService s r cause func).dma = s.dma ∧ (State.leaveService s r cause func).img = s.img ∧ (State.leaveService s r cause func).wheel.pins = s.wheel.pins := by
  simp [State.leaveService]
theorem execPerstAssert_kept (rein : Sys2Proof.Rein) (s : State) :
    ∃ t, execPerstAssert rein s = .next t ∧ t.pending = s.pending ∧ t.plan = s.plan ∧ t.dram = s.dram ∧ t.dma = s.dma ∧ t.img = s.img ∧ t.wheel.pins = s.wheel.pins := by
  unfold execPerstAssert; (repeat' split) <;> (refine ⟨_, rfl, ?_⟩; simp)
theorem execPerstRelease_kept (rein : Sys2Proof.Rein) (s : State) :
    ∃ t, execPerstRelease rein s = .next t ∧ t.pending = s.pending ∧ t.wheel = s.wheel ∧ t.plan = s.plan ∧ t.dram = s.dram ∧ t.dma = s.dma ∧ t.therm = s.therm ∧ t.img = s.img ∧ t.awl = s.awl ∧ t.codec = s.codec ∧ t.map = s.map ∧ t.blk = s.blk ∧ t.girth = s.girth ∧ t.wb = s.wb ∧ t.dump = s.dump ∧ t.cipher = s.cipher ∧ t.skv = s.skv ∧ t.mc = s.mc ∧ t.media = s.media := by
  unfold execPerstRelease; (repeat' split) <;> (refine ⟨_, rfl, ?_⟩; simp)
theorem execHotReset_kept (rein : Sys2Proof.Rein) (s : State) :
    ∃ t, execHotReset rein s = .next t ∧ t.pending = s.pending ∧ t.plan = s.plan ∧ t.dram = s.dram ∧ t.dma = s.dma ∧ t.img = s.img ∧ t.wheel.pins = s.wheel.pins := by
  unfold execHotReset; (repeat' split) <;> (refine ⟨_, rfl, ?_⟩; simp)
theorem execLinkDown_kept (rein : Sys2Proof.Rein) (s : State) :
    ∃ t, execLinkDown rein s = .next t ∧ t.pending = s.pending ∧ t.plan = s.plan ∧ t.dram = s.dram ∧ t.dma = s.dma ∧ t.img = s.img ∧ t.wheel.pins = s.wheel.pins := by
  unfold execLinkDown; (repeat' split) <;> (refine ⟨_, rfl, ?_⟩; simp)
@[simp] theorem State.setVfs_kept (s : State) (r : Sys2Proof.Rein) (n : Nat) :
    (State.setVfs s r n).pending = s.pending ∧ (State.setVfs s r n).plan = s.plan ∧ (State.setVfs s r n).dram = s.dram ∧ (State.setVfs s r n).dma = s.dma ∧ (State.setVfs s r n).img = s.img ∧ (State.setVfs s r n).wheel.pins = s.wheel.pins := by
  simp [State.setVfs]
theorem execFunctionLevelReset_kept (port : Sys2Proof.Port) (s : State) :
    ∃ t, execFunctionLevelReset port s = .next t ∧ t.pending = s.pending ∧ t.plan = s.plan ∧ t.dram = s.dram ∧ t.dma = s.dma ∧ t.img = s.img ∧ t.wheel.pins = s.wheel.pins := by
  unfold execFunctionLevelReset; (repeat' split) <;> (refine ⟨_, rfl, ?_⟩; simp)
@[simp] theorem State.regError_kept (s : State) :
    (State.regError s).pending = s.pending ∧ (State.regError s).wheel = s.wheel ∧ (State.regError s).plan = s.plan ∧ (State.regError s).rein = s.rein ∧ (State.regError s).dram = s.dram ∧ (State.regError s).dma = s.dma ∧ (State.regError s).therm = s.therm ∧ (State.regError s).img = s.img ∧ (State.regError s).awl = s.awl ∧ (State.regError s).codec = s.codec ∧ (State.regError s).map = s.map ∧ (State.regError s).blk = s.blk ∧ (State.regError s).girth = s.girth ∧ (State.regError s).wb = s.wb ∧ (State.regError s).dump = s.dump ∧ (State.regError s).cipher = s.cipher ∧ (State.regError s).skv = s.skv ∧ (State.regError s).mc = s.mc ∧ (State.regError s).media = s.media := by
  simp [State.regError]
@[simp] theorem State.openAdmin_kept (s : State) (p : Sys2Proof.Port) :
    (State.openAdmin s p).pending = s.pending ∧ (State.openAdmin s p).wheel = s.wheel ∧ (State.openAdmin s p).plan = s.plan ∧ (State.openAdmin s p).rein = s.rein ∧ (State.openAdmin s p).dram = s.dram ∧ (State.openAdmin s p).dma = s.dma ∧ (State.openAdmin s p).therm = s.therm ∧ (State.openAdmin s p).img = s.img ∧ (State.openAdmin s p).awl = s.awl ∧ (State.openAdmin s p).codec = s.codec ∧ (State.openAdmin s p).map = s.map ∧ (State.openAdmin s p).blk = s.blk ∧ (State.openAdmin s p).girth = s.girth ∧ (State.openAdmin s p).wb = s.wb ∧ (State.openAdmin s p).dump = s.dump ∧ (State.openAdmin s p).cipher = s.cipher ∧ (State.openAdmin s p).skv = s.skv ∧ (State.openAdmin s p).mc = s.mc ∧ (State.openAdmin s p).media = s.media := by
  simp [State.openAdmin]
@[simp] theorem State.restartFromDump_kept (s : State) :
    (State.restartFromDump s).pending = s.pending ∧ (State.restartFromDump s).rein = s.rein ∧ (State.restartFromDump s).dram = s.dram ∧ (State.restartFromDump s).dma = s.dma ∧ (State.restartFromDump s).therm = s.therm ∧ (State.restartFromDump s).img = s.img ∧ (State.restartFromDump s).wheel.pins = s.wheel.pins := by
  simp [State.restartFromDump]
theorem execCcEnSet_kept (port : Sys2Proof.Port) (s : State) :
    ∃ t, execCcEnSet port s = .next t ∧ t.pending = s.pending ∧ t.rein = s.rein ∧ t.dram = s.dram ∧ t.dma = s.dma ∧ t.therm = s.therm ∧ t.img = s.img ∧ t.wheel.pins = s.wheel.pins := by
  unfold execCcEnSet; (repeat' split) <;> (refine ⟨_, rfl, ?_⟩; simp)
theorem execCcEnClear_kept (port : Sys2Proof.Port) (s : State) :
    ∃ t, execCcEnClear port s = .next t ∧ t.pending = s.pending ∧ t.plan = s.plan ∧ t.dram = s.dram ∧ t.dma = s.dma ∧ t.img = s.img ∧ t.wheel.pins = s.wheel.pins := by
  unfold execCcEnClear; (repeat' split) <;> (refine ⟨_, rfl, ?_⟩; simp)
theorem execCcShnWrite_kept (port : Sys2Proof.Port) (value : Nat) (s : State) :
    ∃ t, execCcShnWrite port value s = .next t ∧ t.pending = s.pending ∧ t.dram = s.dram ∧ t.dma = s.dma ∧ t.therm = s.therm ∧ t.img = s.img ∧ t.wheel.pins = s.wheel.pins := by
  unfold execCcShnWrite; dsimp only; (repeat' split) <;> (refine ⟨_, rfl, ?_⟩; simp)
theorem execRegisterWrite_kept (port : Sys2Proof.Port) (reg : Sys2Proof.HostReg) (value : Nat) (s : State) :
    ∃ t, execRegisterWrite port reg value s = .next t ∧ t.pending = s.pending ∧ t.plan = s.plan ∧ t.dram = s.dram ∧ t.dma = s.dma ∧ t.img = s.img ∧ t.wheel.pins = s.wheel.pins := by
  unfold execRegisterWrite; (repeat' split) <;> (refine ⟨_, rfl, ?_⟩; simp)
theorem execKeeperBallChange_kept (rein : Sys2Proof.Rein) (level : Bool) (s : State) :
    ∃ t, execKeeperBallChange rein level s = .next t ∧ t.pending = s.pending ∧ t.wheel = s.wheel ∧ t.plan = s.plan ∧ t.dram = s.dram ∧ t.dma = s.dma ∧ t.therm = s.therm ∧ t.img = s.img ∧ t.awl = s.awl ∧ t.codec = s.codec ∧ t.map = s.map ∧ t.blk = s.blk ∧ t.girth = s.girth ∧ t.wb = s.wb ∧ t.dump = s.dump ∧ t.cipher = s.cipher ∧ t.skv = s.skv ∧ t.mc = s.mc ∧ t.media = s.media := by
  unfold execKeeperBallChange; (repeat' split) <;> (refine ⟨_, rfl, ?_⟩; simp)
theorem execKeeperFilterExpire_kept (rein : Sys2Proof.Rein) (s : State) :
    ∃ t, execKeeperFilterExpire rein s = .next t ∧ t.pending = s.pending ∧ t.wheel = s.wheel ∧ t.plan = s.plan ∧ t.dram = s.dram ∧ t.dma = s.dma ∧ t.therm = s.therm ∧ t.img = s.img := by
  unfold execKeeperFilterExpire; dsimp only; (repeat' split) <;> (refine ⟨_, rfl, ?_⟩; simp)
theorem execLeaseStart_kept (rein : Sys2Proof.Rein) (s : State) :
    ∃ t, execLeaseStart rein s = .next t ∧ t.pending = s.pending ∧ t.wheel = s.wheel ∧ t.plan = s.plan ∧ t.dram = s.dram ∧ t.dma = s.dma ∧ t.therm = s.therm ∧ t.img = s.img := by
  unfold execLeaseStart; (repeat' split) <;> (refine ⟨_, rfl, ?_⟩; simp)
theorem execLeaseEnd_kept (rein : Sys2Proof.Rein) (s : State) :
    ∃ t, execLeaseEnd rein s = .next t ∧ t.pending = s.pending ∧ t.wheel = s.wheel ∧ t.plan = s.plan ∧ t.dram = s.dram ∧ t.dma = s.dma ∧ t.therm = s.therm ∧ t.img = s.img := by
  unfold execLeaseEnd; (repeat' split) <;> (refine ⟨_, rfl, ?_⟩; simp)

end Sys2Proof.Machine
end

