-- ==== Sys2Proof/Laws/KeptQueues.lean ====
section
/-! SUPPORT. What each function of Sys2Proof/Machine/Queues.lean leaves unchanged: one lemma a function. -/
set_option linter.unusedTactic false
set_option linter.unreachableTactic false
set_option linter.unusedSimpArgs false
namespace Sys2Proof.Machine

@[simp] theorem State.badDoorbell_kept (s : State) (p : Sys2Proof.Port) (qid : Nat) (value : Nat) (info : Nat) :
    (State.badDoorbell s p qid value info).pending = s.pending ∧ (State.badDoorbell s p qid value info).wheel = s.wheel ∧ (State.badDoorbell s p qid value info).plan = s.plan ∧ (State.badDoorbell s p qid value info).rein = s.rein ∧ (State.badDoorbell s p qid value info).dram = s.dram ∧ (State.badDoorbell s p qid value info).dma = s.dma ∧ (State.badDoorbell s p qid value info).therm = s.therm ∧ (State.badDoorbell s p qid value info).img = s.img ∧ (State.badDoorbell s p qid value info).awl = s.awl ∧ (State.badDoorbell s p qid value info).codec = s.codec ∧ (State.badDoorbell s p qid value info).map = s.map ∧ (State.badDoorbell s p qid value info).blk = s.blk ∧ (State.badDoorbell s p qid value info).girth = s.girth ∧ (State.badDoorbell s p qid value info).wb = s.wb ∧ (State.badDoorbell s p qid value info).dump = s.dump ∧ (State.badDoorbell s p qid value info).cipher = s.cipher ∧ (State.badDoorbell s p qid value info).skv = s.skv ∧ (State.badDoorbell s p qid value info).mc = s.mc ∧ (State.badDoorbell s p qid value info).media = s.media := by
  simp [State.badDoorbell]
theorem execSqTailDoorbell_kept (port : Sys2Proof.Port) (qid : Nat) (value : Nat) (s : State) :
    ∃ t, execSqTailDoorbell port qid value s = .next t ∧ t.pending = s.pending ∧ t.wheel = s.wheel ∧ t.plan = s.plan ∧ t.rein = s.rein ∧ t.dram = s.dram ∧ t.dma = s.dma ∧ t.therm = s.therm ∧ t.img = s.img ∧ t.awl = s.awl ∧ t.codec = s.codec ∧ t.map = s.map ∧ t.blk = s.blk ∧ t.girth = s.girth ∧ t.wb = s.wb ∧ t.dump = s.dump ∧ t.cipher = s.cipher ∧ t.skv = s.skv ∧ t.mc = s.mc ∧ t.media = s.media := by
  unfold execSqTailDoorbell; dsimp only; (repeat' split) <;> (refine ⟨_, rfl, ?_⟩; simp)
theorem execCqHeadDoorbell_kept (port : Sys2Proof.Port) (cqid : Nat) (value : Nat) (s : State) :
    ∃ t, execCqHeadDoorbell port cqid value s = .next t ∧ t.pending = s.pending ∧ t.wheel = s.wheel ∧ t.plan = s.plan ∧ t.dram = s.dram ∧ t.dma = s.dma ∧ t.therm = s.therm ∧ t.img = s.img := by
  unfold execCqHeadDoorbell; dsimp only; (repeat' split) <;> (refine ⟨_, rfl, ?_⟩; simp)
@[simp] theorem State.entryChecks_kept (s : State) (tag : Nat) (c : Cmd) :
    (State.entryChecks s tag c).pending = s.pending ∧ (State.entryChecks s tag c).wheel = s.wheel ∧ (State.entryChecks s tag c).plan = s.plan ∧ (State.entryChecks s tag c).rein = s.rein ∧ (State.entryChecks s tag c).dram = s.dram ∧ (State.entryChecks s tag c).dma = s.dma ∧ (State.entryChecks s tag c).therm = s.therm ∧ (State.entryChecks s tag c).img = s.img ∧ (State.entryChecks s tag c).awl = s.awl ∧ (State.entryChecks s tag c).codec = s.codec ∧ (State.entryChecks s tag c).map = s.map ∧ (State.entryChecks s tag c).blk = s.blk ∧ (State.entryChecks s tag c).girth = s.girth ∧ (State.entryChecks s tag c).wb = s.wb ∧ (State.entryChecks s tag c).dump = s.dump ∧ (State.entryChecks s tag c).cipher = s.cipher ∧ (State.entryChecks s tag c).skv = s.skv ∧ (State.entryChecks s tag c).mc = s.mc ∧ (State.entryChecks s tag c).media = s.media := by
  simp [State.entryChecks]
@[simp] theorem State.fetchNew_kept (s : State) (k : Nat) (q : Sq) (port : Sys2Proof.Port) (x : SqSide) (entry : BitVec 512) :
    (State.fetchNew s k q port x entry).pending = s.pending ∧ (State.fetchNew s k q port x entry).wheel = s.wheel ∧ (State.fetchNew s k q port x entry).plan = s.plan ∧ (State.fetchNew s k q port x entry).rein = s.rein ∧ (State.fetchNew s k q port x entry).dram = s.dram ∧ (State.fetchNew s k q port x entry).dma = s.dma ∧ (State.fetchNew s k q port x entry).therm = s.therm ∧ (State.fetchNew s k q port x entry).img = s.img := by
  simp [State.fetchNew]
@[simp] theorem State.fetchCopy_kept (s : State) (k : Nat) (q : Sq) (port : Sys2Proof.Port) (x : SqSide) (entry : BitVec 512) :
    (State.fetchCopy s k q port x entry).pending = s.pending ∧ (State.fetchCopy s k q port x entry).wheel = s.wheel ∧ (State.fetchCopy s k q port x entry).plan = s.plan ∧ (State.fetchCopy s k q port x entry).rein = s.rein ∧ (State.fetchCopy s k q port x entry).dram = s.dram ∧ (State.fetchCopy s k q port x entry).dma = s.dma ∧ (State.fetchCopy s k q port x entry).therm = s.therm ∧ (State.fetchCopy s k q port x entry).img = s.img ∧ (State.fetchCopy s k q port x entry).awl = s.awl ∧ (State.fetchCopy s k q port x entry).codec = s.codec ∧ (State.fetchCopy s k q port x entry).map = s.map ∧ (State.fetchCopy s k q port x entry).blk = s.blk ∧ (State.fetchCopy s k q port x entry).girth = s.girth ∧ (State.fetchCopy s k q port x entry).wb = s.wb ∧ (State.fetchCopy s k q port x entry).dump = s.dump ∧ (State.fetchCopy s k q port x entry).cipher = s.cipher ∧ (State.fetchCopy s k q port x entry).skv = s.skv ∧ (State.fetchCopy s k q port x entry).mc = s.mc ∧ (State.fetchCopy s k q port x entry).media = s.media := by
  simp [State.fetchCopy]
@[simp] theorem State.turnTaken_kept (s : State) (k : Nat) (admin : Bool) :
    (State.turnTaken s k admin).pending = s.pending ∧ (State.turnTaken s k admin).wheel = s.wheel ∧ (State.turnTaken s k admin).plan = s.plan ∧ (State.turnTaken s k admin).rein = s.rein ∧ (State.turnTaken s k admin).dram = s.dram ∧ (State.turnTaken s k admin).dma = s.dma ∧ (State.turnTaken s k admin).therm = s.therm ∧ (State.turnTaken s k admin).img = s.img ∧ (State.turnTaken s k admin).awl = s.awl ∧ (State.turnTaken s k admin).codec = s.codec ∧ (State.turnTaken s k admin).map = s.map ∧ (State.turnTaken s k admin).blk = s.blk ∧ (State.turnTaken s k admin).girth = s.girth ∧ (State.turnTaken s k admin).wb = s.wb ∧ (State.turnTaken s k admin).dump = s.dump ∧ (State.turnTaken s k admin).cipher = s.cipher ∧ (State.turnTaken s k admin).skv = s.skv ∧ (State.turnTaken s k admin).mc = s.mc ∧ (State.turnTaken s k admin).media = s.media := by
  simp [State.turnTaken]
theorem execEntryFetch_kept (port : Sys2Proof.Port) (qid : Nat) (entry : BitVec 512) (s : State) :
    ∃ t, execEntryFetch port qid entry s = .next t ∧ t.pending = s.pending ∧ t.wheel = s.wheel ∧ t.plan = s.plan ∧ t.rein = s.rein ∧ t.dram = s.dram ∧ t.dma = s.dma ∧ t.therm = s.therm ∧ t.img = s.img := by
  unfold execEntryFetch; dsimp only; (repeat' split) <;> (refine ⟨_, rfl, ?_⟩; simp)
theorem execTwinLagExpire_kept (ctrl : Nat) (qid : Nat) (side : Sys2Proof.Rein) (s : State) :
    ∃ t, execTwinLagExpire ctrl qid side s = .next t ∧ t.pending = s.pending ∧ t.wheel = s.wheel ∧ t.plan = s.plan ∧ t.rein = s.rein ∧ t.dram = s.dram ∧ t.dma = s.dma ∧ t.therm = s.therm ∧ t.img = s.img := by
  unfold execTwinLagExpire; dsimp only; (repeat' split) <;> (refine ⟨_, rfl, ?_⟩; simp)
theorem execCreateIoCq_kept (tag : Nat) (s : State) :
    ∃ t, execCreateIoCq tag s = .next t ∧ t.pending = s.pending ∧ t.wheel = s.wheel ∧ t.plan = s.plan ∧ t.rein = s.rein ∧ t.dram = s.dram ∧ t.dma = s.dma ∧ t.therm = s.therm ∧ t.img = s.img ∧ t.awl = s.awl ∧ t.codec = s.codec ∧ t.map = s.map ∧ t.blk = s.blk ∧ t.girth = s.girth ∧ t.wb = s.wb ∧ t.dump = s.dump ∧ t.cipher = s.cipher ∧ t.skv = s.skv ∧ t.mc = s.mc ∧ t.media = s.media := by
  refine ⟨_, rfl, ?_⟩; simp
theorem execDeleteIoCq_kept (tag : Nat) (s : State) :
    ∃ t, execDeleteIoCq tag s = .next t ∧ t.pending = s.pending ∧ t.wheel = s.wheel ∧ t.plan = s.plan ∧ t.rein = s.rein ∧ t.dram = s.dram ∧ t.dma = s.dma ∧ t.therm = s.therm ∧ t.img = s.img ∧ t.awl = s.awl ∧ t.codec = s.codec ∧ t.map = s.map ∧ t.blk = s.blk ∧ t.girth = s.girth ∧ t.wb = s.wb ∧ t.dump = s.dump ∧ t.cipher = s.cipher ∧ t.skv = s.skv ∧ t.mc = s.mc ∧ t.media = s.media := by
  refine ⟨_, rfl, ?_⟩; simp
@[simp] theorem State.attachSq_kept (s : State) (tag : Nat) (c : Cmd) (k : Nat) (other : Option Sq) :
    (State.attachSq s tag c k other).pending = s.pending ∧ (State.attachSq s tag c k other).wheel = s.wheel ∧ (State.attachSq s tag c k other).plan = s.plan ∧ (State.attachSq s tag c k other).rein = s.rein ∧ (State.attachSq s tag c k other).dram = s.dram ∧ (State.attachSq s tag c k other).dma = s.dma ∧ (State.attachSq s tag c k other).therm = s.therm ∧ (State.attachSq s tag c k other).img = s.img ∧ (State.attachSq s tag c k other).awl = s.awl ∧ (State.attachSq s tag c k other).codec = s.codec ∧ (State.attachSq s tag c k other).map = s.map ∧ (State.attachSq s tag c k other).blk = s.blk ∧ (State.attachSq s tag c k other).girth = s.girth ∧ (State.attachSq s tag c k other).wb = s.wb ∧ (State.attachSq s tag c k other).dump = s.dump ∧ (State.attachSq s tag c k other).cipher = s.cipher ∧ (State.attachSq s tag c k other).skv = s.skv ∧ (State.attachSq s tag c k other).mc = s.mc ∧ (State.attachSq s tag c k other).media = s.media := by
  simp [State.attachSq]
theorem execCreateIoSq_kept (tag : Nat) (s : State) :
    ∃ t, execCreateIoSq tag s = .next t ∧ t.pending = s.pending ∧ t.wheel = s.wheel ∧ t.plan = s.plan ∧ t.rein = s.rein ∧ t.dram = s.dram ∧ t.dma = s.dma ∧ t.therm = s.therm ∧ t.img = s.img ∧ t.awl = s.awl ∧ t.codec = s.codec ∧ t.map = s.map ∧ t.blk = s.blk ∧ t.girth = s.girth ∧ t.wb = s.wb ∧ t.dump = s.dump ∧ t.cipher = s.cipher ∧ t.skv = s.skv ∧ t.mc = s.mc ∧ t.media = s.media := by
  refine ⟨_, rfl, ?_⟩; simp
@[simp] theorem State.removeSide_kept (s : State) (k : Nat) (r : Sys2Proof.Rein) (q : Sq) :
    (State.removeSide s k r q).pending = s.pending ∧ (State.removeSide s k r q).wheel = s.wheel ∧ (State.removeSide s k r q).plan = s.plan ∧ (State.removeSide s k r q).rein = s.rein ∧ (State.removeSide s k r q).dram = s.dram ∧ (State.removeSide s k r q).dma = s.dma ∧ (State.removeSide s k r q).therm = s.therm ∧ (State.removeSide s k r q).img = s.img := by
  simp [State.removeSide]
theorem execDeleteIoSq_kept (tag : Nat) (s : State) :
    ∃ t, execDeleteIoSq tag s = .next t ∧ t.pending = s.pending ∧ t.wheel = s.wheel ∧ t.plan = s.plan ∧ t.rein = s.rein ∧ t.dram = s.dram ∧ t.dma = s.dma ∧ t.therm = s.therm ∧ t.img = s.img := by
  unfold execDeleteIoSq; (repeat' (first | (refine ⟨_, rfl, ?_, ?_, ?_, ?_, ?_, ?_, ?_, ?_⟩ <;> (repeat' (first | (simp; done) | (with_reducible refine State.begin_pending _ _ _ _ _ _ (fun y0 y1 => ?_)) | (with_reducible refine State.begin_wheel _ _ _ _ _ _ (fun y0 y1 => ?_)) | (with_reducible refine State.begin_plan _ _ _ _ _ _ (fun y0 y1 => ?_)) | (with_reducible refine State.begin_rein _ _ _ _ _ _ (fun y0 y1 => ?_)) | (with_reducible refine State.begin_dram _ _ _ _ _ _ (fun y0 y1 => ?_)) | (with_reducible refine State.begin_dma _ _ _ _ _ _ (fun y0 y1 => ?_)) | (with_reducible refine State.begin_therm _ _ _ _ _ _ (fun y0 y1 => ?_)) | (with_reducible refine State.begin_img _ _ _ _ _ _ (fun y0 y1 => ?_)) | split | dsimp only | simp)); done) | split | dsimp only))
@[simp] theorem State.abortCmd_kept (s : State) (t : Nat) (c : Cmd) :
    (State.abortCmd s t c).pending = s.pending ∧ (State.abortCmd s t c).wheel = s.wheel ∧ (State.abortCmd s t c).plan = s.plan ∧ (State.abortCmd s t c).rein = s.rein ∧ (State.abortCmd s t c).dram = s.dram ∧ (State.abortCmd s t c).dma = s.dma ∧ (State.abortCmd s t c).therm = s.therm ∧ (State.abortCmd s t c).img = s.img := by
  unfold State.abortCmd; split <;> simp
theorem execAbort_kept (tag : Nat) (s : State) :
    ∃ t, execAbort tag s = .next t ∧ t.pending = s.pending ∧ t.wheel = s.wheel ∧ t.plan = s.plan ∧ t.rein = s.rein ∧ t.dram = s.dram ∧ t.dma = s.dma ∧ t.therm = s.therm ∧ t.img = s.img := by
  unfold execAbort; (repeat' (first | (refine ⟨_, rfl, ?_, ?_, ?_, ?_, ?_, ?_, ?_, ?_⟩ <;> (repeat' (first | (simp; done) | (with_reducible refine State.begin_pending _ _ _ _ _ _ (fun y0 y1 => ?_)) | (with_reducible refine State.begin_wheel _ _ _ _ _ _ (fun y0 y1 => ?_)) | (with_reducible refine State.begin_plan _ _ _ _ _ _ (fun y0 y1 => ?_)) | (with_reducible refine State.begin_rein _ _ _ _ _ _ (fun y0 y1 => ?_)) | (with_reducible refine State.begin_dram _ _ _ _ _ _ (fun y0 y1 => ?_)) | (with_reducible refine State.begin_dma _ _ _ _ _ _ (fun y0 y1 => ?_)) | (with_reducible refine State.begin_therm _ _ _ _ _ _ (fun y0 y1 => ?_)) | (with_reducible refine State.begin_img _ _ _ _ _ _ (fun y0 y1 => ?_)) | split | dsimp only | simp)); done) | split | dsimp only))
@[simp] theorem State.deliverEvent_kept (s : State) (ctrl : Nat) (r : Sys2Proof.Rein) :
    (State.deliverEvent s ctrl r).pending = s.pending ∧ (State.deliverEvent s ctrl r).wheel = s.wheel ∧ (State.deliverEvent s ctrl r).plan = s.plan ∧ (State.deliverEvent s ctrl r).rein = s.rein ∧ (State.deliverEvent s ctrl r).dram = s.dram ∧ (State.deliverEvent s ctrl r).dma = s.dma ∧ (State.deliverEvent s ctrl r).therm = s.therm ∧ (State.deliverEvent s ctrl r).img = s.img ∧ (State.deliverEvent s ctrl r).awl = s.awl ∧ (State.deliverEvent s ctrl r).codec = s.codec ∧ (State.deliverEvent s ctrl r).map = s.map ∧ (State.deliverEvent s ctrl r).blk = s.blk ∧ (State.deliverEvent s ctrl r).girth = s.girth ∧ (State.deliverEvent s ctrl r).wb = s.wb ∧ (State.deliverEvent s ctrl r).dump = s.dump ∧ (State.deliverEvent s ctrl r).cipher = s.cipher ∧ (State.deliverEvent s ctrl r).skv = s.skv ∧ (State.deliverEvent s ctrl r).mc = s.mc ∧ (State.deliverEvent s ctrl r).media = s.media := by
  unfold State.deliverEvent; split <;> simp
theorem execAsyncEventRequest_kept (tag : Nat) (s : State) :
    ∃ t, execAsyncEventRequest tag s = .next t ∧ t.pending = s.pending ∧ t.wheel = s.wheel ∧ t.plan = s.plan ∧ t.rein = s.rein ∧ t.dram = s.dram ∧ t.dma = s.dma ∧ t.therm = s.therm ∧ t.img = s.img ∧ t.awl = s.awl ∧ t.codec = s.codec ∧ t.map = s.map ∧ t.blk = s.blk ∧ t.girth = s.girth ∧ t.wb = s.wb ∧ t.dump = s.dump ∧ t.cipher = s.cipher ∧ t.skv = s.skv ∧ t.mc = s.mc ∧ t.media = s.media := by
  refine ⟨_, rfl, ?_⟩; simp
theorem execUnsupportedAdminCommand_kept (tag : Nat) (s : State) :
    ∃ t, execUnsupportedAdminCommand tag s = .next t ∧ t.pending = s.pending ∧ t.wheel = s.wheel ∧ t.plan = s.plan ∧ t.rein = s.rein ∧ t.dram = s.dram ∧ t.dma = s.dma ∧ t.therm = s.therm ∧ t.img = s.img ∧ t.awl = s.awl ∧ t.codec = s.codec ∧ t.map = s.map ∧ t.blk = s.blk ∧ t.girth = s.girth ∧ t.wb = s.wb ∧ t.dump = s.dump ∧ t.cipher = s.cipher ∧ t.skv = s.skv ∧ t.mc = s.mc ∧ t.media = s.media := by
  refine ⟨_, rfl, ?_⟩; simp
theorem execUnsupportedIoCommand_kept (tag : Nat) (s : State) :
    ∃ t, execUnsupportedIoCommand tag s = .next t ∧ t.pending = s.pending ∧ t.wheel = s.wheel ∧ t.plan = s.plan ∧ t.rein = s.rein ∧ t.dram = s.dram ∧ t.dma = s.dma ∧ t.therm = s.therm ∧ t.img = s.img ∧ t.awl = s.awl ∧ t.codec = s.codec ∧ t.map = s.map ∧ t.blk = s.blk ∧ t.girth = s.girth ∧ t.wb = s.wb ∧ t.dump = s.dump ∧ t.cipher = s.cipher ∧ t.skv = s.skv ∧ t.mc = s.mc ∧ t.media = s.media := by
  refine ⟨_, rfl, ?_⟩; simp
theorem execHostMemoryError_kept (tag : Nat) (addr : Nat) (s : State) :
    ∃ t, execHostMemoryError tag addr s = .next t ∧ t.pending = s.pending ∧ t.wheel = s.wheel ∧ t.plan = s.plan ∧ t.dram = s.dram ∧ t.dma = s.dma ∧ t.therm = s.therm ∧ t.img = s.img := by
  unfold execHostMemoryError; (repeat' split) <;> (refine ⟨_, rfl, ?_⟩; simp)

end Sys2Proof.Machine
end

