-- ==== Sys2Proof/Laws/KeptDma.lean ====
section
/-! SUPPORT. What each function of Sys2Proof/Machine/Dma.lean leaves unchanged: one lemma a function. -/
set_option linter.unusedTactic false
set_option linter.unreachableTactic false
set_option linter.unusedSimpArgs false
namespace Sys2Proof.Machine

@[simp] theorem State.modDma_kept (s : State) (c : Nat) (f : DmaCh → DmaCh) :
    (State.modDma s c f).pending = s.pending ∧ (State.modDma s c f).wheel = s.wheel ∧ (State.modDma s c f).plan = s.plan ∧ (State.modDma s c f).rein = s.rein ∧ (State.modDma s c f).dram = s.dram ∧ (State.modDma s c f).therm = s.therm ∧ (State.modDma s c f).img = s.img ∧ (State.modDma s c f).awl = s.awl ∧ (State.modDma s c f).codec = s.codec ∧ (State.modDma s c f).map = s.map ∧ (State.modDma s c f).blk = s.blk ∧ (State.modDma s c f).girth = s.girth ∧ (State.modDma s c f).wb = s.wb ∧ (State.modDma s c f).dump = s.dump ∧ (State.modDma s c f).cipher = s.cipher ∧ (State.modDma s c f).skv = s.skv ∧ (State.modDma s c f).mc = s.mc ∧ (State.modDma s c f).media = s.media := by
  simp [State.modDma]
@[simp] theorem State.dmaCheck_kept (s : State) (c : Nat) :
    (State.dmaCheck s c).pending = s.pending ∧ (State.dmaCheck s c).wheel = s.wheel ∧ (State.dmaCheck s c).plan = s.plan ∧ (State.dmaCheck s c).rein = s.rein ∧ (State.dmaCheck s c).dram = s.dram ∧ (State.dmaCheck s c).therm = s.therm ∧ (State.dmaCheck s c).img = s.img ∧ (State.dmaCheck s c).awl = s.awl ∧ (State.dmaCheck s c).codec = s.codec ∧ (State.dmaCheck s c).map = s.map ∧ (State.dmaCheck s c).blk = s.blk ∧ (State.dmaCheck s c).girth = s.girth ∧ (State.dmaCheck s c).wb = s.wb ∧ (State.dmaCheck s c).dump = s.dump ∧ (State.dmaCheck s c).cipher = s.cipher ∧ (State.dmaCheck s c).skv = s.skv ∧ (State.dmaCheck s c).mc = s.mc ∧ (State.dmaCheck s c).media = s.media := by
  unfold State.dmaCheck; refine ⟨?_, ?_, ?_, ?_, ?_, ?_, ?_, ?_, ?_, ?_, ?_, ?_, ?_, ?_, ?_, ?_, ?_, ?_⟩ <;> (repeat' (first | (simp; done) | split | dsimp only | simp))
@[simp] theorem State.dmaGrant_kept (s : State) :
    (State.dmaGrant s).pending = s.pending ∧ (State.dmaGrant s).wheel = s.wheel ∧ (State.dmaGrant s).plan = s.plan ∧ (State.dmaGrant s).rein = s.rein ∧ (State.dmaGrant s).dram = s.dram ∧ (State.dmaGrant s).therm = s.therm ∧ (State.dmaGrant s).img = s.img ∧ (State.dmaGrant s).awl = s.awl ∧ (State.dmaGrant s).codec = s.codec ∧ (State.dmaGrant s).map = s.map ∧ (State.dmaGrant s).blk = s.blk ∧ (State.dmaGrant s).girth = s.girth ∧ (State.dmaGrant s).wb = s.wb ∧ (State.dmaGrant s).dump = s.dump ∧ (State.dmaGrant s).cipher = s.cipher ∧ (State.dmaGrant s).skv = s.skv ∧ (State.dmaGrant s).mc = s.mc ∧ (State.dmaGrant s).media = s.media := by
  unfold State.dmaGrant; refine ⟨?_, ?_, ?_, ?_, ?_, ?_, ?_, ?_, ?_, ?_, ?_, ?_, ?_, ?_, ?_, ?_, ?_, ?_⟩ <;> (repeat' (first | (simp; done) | split | dsimp only | simp))
theorem execDmaDescAppend_kept (ch : Nat) (desc : BitVec 256) (s : State) :
    ∃ t, execDmaDescAppend ch desc s = .next t ∧ t.pending = s.pending ∧ t.wheel = s.wheel ∧ t.plan = s.plan ∧ t.rein = s.rein ∧ t.dram = s.dram ∧ t.therm = s.therm ∧ t.img = s.img ∧ t.awl = s.awl ∧ t.codec = s.codec ∧ t.map = s.map ∧ t.blk = s.blk ∧ t.girth = s.girth ∧ t.wb = s.wb ∧ t.dump = s.dump ∧ t.cipher = s.cipher ∧ t.skv = s.skv ∧ t.mc = s.mc ∧ t.media = s.media := by
  unfold execDmaDescAppend; (repeat' split) <;> (refine ⟨_, rfl, ?_⟩; simp)
@[simp] theorem State.dmaPace_kept (s : State) (c : Nat) (d : BitVec 256) :
    (State.dmaPace s c d).pending = s.pending ∧ (State.dmaPace s c d).wheel = s.wheel ∧ (State.dmaPace s c d).plan = s.plan ∧ (State.dmaPace s c d).rein = s.rein ∧ (State.dmaPace s c d).dram = s.dram ∧ (State.dmaPace s c d).therm = s.therm ∧ (State.dmaPace s c d).img = s.img ∧ (State.dmaPace s c d).awl = s.awl ∧ (State.dmaPace s c d).codec = s.codec ∧ (State.dmaPace s c d).map = s.map ∧ (State.dmaPace s c d).blk = s.blk ∧ (State.dmaPace s c d).girth = s.girth ∧ (State.dmaPace s c d).wb = s.wb ∧ (State.dmaPace s c d).dump = s.dump ∧ (State.dmaPace s c d).cipher = s.cipher ∧ (State.dmaPace s c d).skv = s.skv ∧ (State.dmaPace s c d).mc = s.mc ∧ (State.dmaPace s c d).media = s.media := by
  simp [State.dmaPace]
@[simp] theorem State.dmaBurst_kept (s : State) (c : Nat) (poisoned : Bool) :
    (State.dmaBurst s c poisoned).pending = s.pending ∧ (State.dmaBurst s c poisoned).wheel = s.wheel ∧ (State.dmaBurst s c poisoned).plan = s.plan ∧ (State.dmaBurst s c poisoned).rein = s.rein ∧ (State.dmaBurst s c poisoned).dram = s.dram ∧ (State.dmaBurst s c poisoned).therm = s.therm ∧ (State.dmaBurst s c poisoned).img = s.img ∧ (State.dmaBurst s c poisoned).awl = s.awl ∧ (State.dmaBurst s c poisoned).codec = s.codec ∧ (State.dmaBurst s c poisoned).map = s.map ∧ (State.dmaBurst s c poisoned).blk = s.blk ∧ (State.dmaBurst s c poisoned).girth = s.girth ∧ (State.dmaBurst s c poisoned).wb = s.wb ∧ (State.dmaBurst s c poisoned).dump = s.dump ∧ (State.dmaBurst s c poisoned).cipher = s.cipher ∧ (State.dmaBurst s c poisoned).skv = s.skv ∧ (State.dmaBurst s c poisoned).mc = s.mc ∧ (State.dmaBurst s c poisoned).media = s.media := by
  unfold State.dmaBurst; split <;> simp
theorem execDmaBurstDone_kept (poisoned : Bool) (s : State) :
    ∃ t, execDmaBurstDone poisoned s = .next t ∧ t.pending = s.pending ∧ t.wheel = s.wheel ∧ t.plan = s.plan ∧ t.rein = s.rein ∧ t.dram = s.dram ∧ t.therm = s.therm ∧ t.img = s.img ∧ t.awl = s.awl ∧ t.codec = s.codec ∧ t.map = s.map ∧ t.blk = s.blk ∧ t.girth = s.girth ∧ t.wb = s.wb ∧ t.dump = s.dump ∧ t.cipher = s.cipher ∧ t.skv = s.skv ∧ t.mc = s.mc ∧ t.media = s.media := by
  unfold execDmaBurstDone; (repeat' split) <;> (refine ⟨_, rfl, ?_⟩; simp)
theorem execDmaFifoDrained_kept (fifo : Nat) (fill : Nat) (s : State) :
    ∃ t, execDmaFifoDrained fifo fill s = .next t ∧ t.pending = s.pending ∧ t.wheel = s.wheel ∧ t.plan = s.plan ∧ t.rein = s.rein ∧ t.dram = s.dram ∧ t.therm = s.therm ∧ t.img = s.img ∧ t.awl = s.awl ∧ t.codec = s.codec ∧ t.map = s.map ∧ t.blk = s.blk ∧ t.girth = s.girth ∧ t.wb = s.wb ∧ t.dump = s.dump ∧ t.cipher = s.cipher ∧ t.skv = s.skv ∧ t.mc = s.mc ∧ t.media = s.media := by
  unfold execDmaFifoDrained; (repeat' split) <;> (refine ⟨_, rfl, ?_⟩; simp)
theorem execDmaPause_kept (ch : Nat) (holder : Sys2Proof.DmaHolder) (s : State) :
    ∃ t, execDmaPause ch holder s = .next t ∧ t.pending = s.pending ∧ t.wheel = s.wheel ∧ t.plan = s.plan ∧ t.rein = s.rein ∧ t.dram = s.dram ∧ t.therm = s.therm ∧ t.img = s.img ∧ t.awl = s.awl ∧ t.codec = s.codec ∧ t.map = s.map ∧ t.blk = s.blk ∧ t.girth = s.girth ∧ t.wb = s.wb ∧ t.dump = s.dump ∧ t.cipher = s.cipher ∧ t.skv = s.skv ∧ t.mc = s.mc ∧ t.media = s.media := by
  unfold execDmaPause; (repeat' split) <;> (refine ⟨_, rfl, ?_⟩; simp)
@[simp] theorem State.freqEnds_kept (s : State) :
    (State.freqEnds s).pending = s.pending ∧ (State.freqEnds s).wheel = s.wheel ∧ (State.freqEnds s).plan = s.plan ∧ (State.freqEnds s).rein = s.rein ∧ (State.freqEnds s).dma = s.dma ∧ (State.freqEnds s).therm = s.therm ∧ (State.freqEnds s).img = s.img := by
  simp [State.freqEnds]
theorem execDmaRelease_kept (ch : Nat) (holder : Sys2Proof.DmaHolder) (s : State) :
    ∃ t, execDmaRelease ch holder s = .next t ∧ t.pending = s.pending ∧ t.wheel = s.wheel ∧ t.plan = s.plan ∧ t.rein = s.rein ∧ t.therm = s.therm ∧ t.img = s.img := by
  unfold execDmaRelease; (repeat' split) <;> (refine ⟨_, rfl, ?_⟩; simp)
theorem execDmaAbort_kept (ch : Nat) (s : State) :
    ∃ t, execDmaAbort ch s = .next t ∧ t.pending = s.pending ∧ t.wheel = s.wheel ∧ t.plan = s.plan ∧ t.rein = s.rein ∧ t.dram = s.dram ∧ t.therm = s.therm ∧ t.img = s.img ∧ t.awl = s.awl ∧ t.codec = s.codec ∧ t.map = s.map ∧ t.blk = s.blk ∧ t.girth = s.girth ∧ t.wb = s.wb ∧ t.dump = s.dump ∧ t.cipher = s.cipher ∧ t.skv = s.skv ∧ t.mc = s.mc ∧ t.media = s.media := by
  unfold execDmaAbort; (repeat' split) <;> (refine ⟨_, rfl, ?_⟩; simp)
@[simp] theorem State.dmaFreqPause_kept (s : State) :
    (State.dmaFreqPause s).pending = s.pending ∧ (State.dmaFreqPause s).wheel = s.wheel ∧ (State.dmaFreqPause s).plan = s.plan ∧ (State.dmaFreqPause s).rein = s.rein ∧ (State.dmaFreqPause s).therm = s.therm ∧ (State.dmaFreqPause s).img = s.img ∧ (State.dmaFreqPause s).awl = s.awl ∧ (State.dmaFreqPause s).codec = s.codec ∧ (State.dmaFreqPause s).map = s.map ∧ (State.dmaFreqPause s).blk = s.blk ∧ (State.dmaFreqPause s).girth = s.girth ∧ (State.dmaFreqPause s).wb = s.wb ∧ (State.dmaFreqPause s).dump = s.dump ∧ (State.dmaFreqPause s).cipher = s.cipher ∧ (State.dmaFreqPause s).skv = s.skv ∧ (State.dmaFreqPause s).mc = s.mc ∧ (State.dmaFreqPause s).media = s.media := by
  simp [State.dmaFreqPause]

end Sys2Proof.Machine
end

