-- ==== Sys2Proof/Laws/KeptPlans.lean ====
section
/-! SUPPORT. What each function of Sys2Proof/Machine/Plans.lean leaves unchanged: one lemma a function. -/
set_option linter.unusedTactic false
set_option linter.unreachableTactic false
set_option linter.unusedSimpArgs false
namespace Sys2Proof.Machine

@[simp] theorem State.planLoadFails_kept (s : State) :
    (State.planLoadFails s).pending = s.pending ∧ (State.planLoadFails s).wheel = s.wheel ∧ (State.planLoadFails s).rein = s.rein ∧ (State.planLoadFails s).dram = s.dram ∧ (State.planLoadFails s).dma = s.dma ∧ (State.planLoadFails s).therm = s.therm ∧ (State.planLoadFails s).img = s.img ∧ (State.planLoadFails s).awl = s.awl ∧ (State.planLoadFails s).codec = s.codec ∧ (State.planLoadFails s).map = s.map ∧ (State.planLoadFails s).blk = s.blk ∧ (State.planLoadFails s).girth = s.girth ∧ (State.planLoadFails s).wb = s.wb ∧ (State.planLoadFails s).dump = s.dump ∧ (State.planLoadFails s).cipher = s.cipher ∧ (State.planLoadFails s).skv = s.skv ∧ (State.planLoadFails s).mc = s.mc ∧ (State.planLoadFails s).media = s.media := by
  simp [State.planLoadFails]
theorem execPlanSample_kept (s : State) :
    ∃ t, execPlanSample s = .next t ∧ t.pending = s.pending ∧ t.wheel = s.wheel ∧ t.rein = s.rein ∧ t.dram = s.dram ∧ t.dma = s.dma ∧ t.therm = s.therm ∧ t.img = s.img ∧ t.awl = s.awl ∧ t.codec = s.codec ∧ t.map = s.map ∧ t.blk = s.blk ∧ t.girth = s.girth ∧ t.wb = s.wb ∧ t.dump = s.dump ∧ t.cipher = s.cipher ∧ t.skv = s.skv ∧ t.mc = s.mc ∧ t.media = s.media := by
  unfold execPlanSample; dsimp only; (repeat' split) <;> (refine ⟨_, rfl, ?_⟩; simp)
theorem execPlanLoadDone_kept (poisoned : Bool) (s : State) :
    ∃ t, execPlanLoadDone poisoned s = .next t ∧ t.pending = s.pending ∧ t.wheel = s.wheel ∧ t.rein = s.rein ∧ t.dram = s.dram ∧ t.dma = s.dma ∧ t.therm = s.therm ∧ t.img = s.img ∧ t.awl = s.awl ∧ t.codec = s.codec ∧ t.map = s.map ∧ t.blk = s.blk ∧ t.girth = s.girth ∧ t.wb = s.wb ∧ t.dump = s.dump ∧ t.cipher = s.cipher ∧ t.skv = s.skv ∧ t.mc = s.mc ∧ t.media = s.media := by
  unfold execPlanLoadDone; (repeat' split) <;> (refine ⟨_, rfl, ?_⟩; simp)
theorem execPlanShadowReloadDone_kept (s : State) :
    ∃ t, execPlanShadowReloadDone s = .next t ∧ t.pending = s.pending ∧ t.wheel = s.wheel ∧ t.rein = s.rein ∧ t.dram = s.dram ∧ t.dma = s.dma ∧ t.therm = s.therm ∧ t.img = s.img ∧ t.awl = s.awl ∧ t.codec = s.codec ∧ t.map = s.map ∧ t.blk = s.blk ∧ t.girth = s.girth ∧ t.wb = s.wb ∧ t.dump = s.dump ∧ t.cipher = s.cipher ∧ t.skv = s.skv ∧ t.mc = s.mc ∧ t.media = s.media := by
  unfold execPlanShadowReloadDone; (repeat' split) <;> (refine ⟨_, rfl, ?_⟩; simp)
@[simp] theorem State.planSwap_kept (s : State) :
    (State.planSwap s).pending = s.pending ∧ (State.planSwap s).wheel = s.wheel ∧ (State.planSwap s).rein = s.rein ∧ (State.planSwap s).dram = s.dram ∧ (State.planSwap s).dma = s.dma ∧ (State.planSwap s).therm = s.therm ∧ (State.planSwap s).img = s.img ∧ (State.planSwap s).awl = s.awl ∧ (State.planSwap s).codec = s.codec ∧ (State.planSwap s).map = s.map ∧ (State.planSwap s).blk = s.blk ∧ (State.planSwap s).girth = s.girth ∧ (State.planSwap s).wb = s.wb ∧ (State.planSwap s).dump = s.dump ∧ (State.planSwap s).cipher = s.cipher ∧ (State.planSwap s).skv = s.skv ∧ (State.planSwap s).mc = s.mc ∧ (State.planSwap s).media = s.media := by
  unfold State.planSwap; refine ⟨?_, ?_, ?_, ?_, ?_, ?_, ?_, ?_, ?_, ?_, ?_, ?_, ?_, ?_, ?_, ?_, ?_, ?_⟩ <;> (repeat' (first | (simp; done) | split | dsimp only | simp))

end Sys2Proof.Machine
end

