-- ==== Sys2Proof/Laws/KeptDram.lean ====
section
/-! SUPPORT. What each function of Sys2Proof/Machine/Dram.lean leaves unchanged: one lemma a function. -/
set_option linter.unusedTactic false
set_option linter.unreachableTactic false
set_option linter.unusedSimpArgs false
namespace Sys2Proof.Machine

@[simp] theorem State.modRank_kept (s : State) (k : Nat) (f : Rank → Rank) :
    (State.modRank s k f).pending = s.pending ∧ (State.modRank s k f).wheel = s.wheel ∧ (State.modRank s k f).plan = s.plan ∧ (State.modRank s k f).rein = s.rein ∧ (State.modRank s k f).dma = s.dma ∧ (State.modRank s k f).therm = s.therm ∧ (State.modRank s k f).img = s.img ∧ (State.modRank s k f).awl = s.awl ∧ (State.modRank s k f).codec = s.codec ∧ (State.modRank s k f).map = s.map ∧ (State.modRank s k f).blk = s.blk ∧ (State.modRank s k f).girth = s.girth ∧ (State.modRank s k f).wb = s.wb ∧ (State.modRank s k f).dump = s.dump ∧ (State.modRank s k f).cipher = s.cipher ∧ (State.modRank s k f).skv = s.skv ∧ (State.modRank s k f).mc = s.mc ∧ (State.modRank s k f).media = s.media := by
  simp [State.modRank]
@[simp] theorem State.activate_kept (s : State) (ch : Nat) (rank : Nat) (bank : Nat) (row : Nat) :
    (State.activate s ch rank bank row).pending = s.pending ∧ (State.activate s ch rank bank row).wheel = s.wheel ∧ (State.activate s ch rank bank row).plan = s.plan ∧ (State.activate s ch rank bank row).rein = s.rein ∧ (State.activate s ch rank bank row).dma = s.dma ∧ (State.activate s ch rank bank row).therm = s.therm ∧ (State.activate s ch rank bank row).img = s.img ∧ (State.activate s ch rank bank row).awl = s.awl ∧ (State.activate s ch rank bank row).codec = s.codec ∧ (State.activate s ch rank bank row).map = s.map ∧ (State.activate s ch rank bank row).blk = s.blk ∧ (State.activate s ch rank bank row).girth = s.girth ∧ (State.activate s ch rank bank row).wb = s.wb ∧ (State.activate s ch rank bank row).dump = s.dump ∧ (State.activate s ch rank bank row).cipher = s.cipher ∧ (State.activate s ch rank bank row).skv = s.skv ∧ (State.activate s ch rank bank row).mc = s.mc ∧ (State.activate s ch rank bank row).media = s.media := by
  simp [State.activate]
@[simp] theorem State.dramIssue_kept (s : State) (a : Nat) :
    (State.dramIssue s a).pending = s.pending ∧ (State.dramIssue s a).wheel = s.wheel ∧ (State.dramIssue s a).plan = s.plan ∧ (State.dramIssue s a).rein = s.rein ∧ (State.dramIssue s a).dma = s.dma ∧ (State.dramIssue s a).therm = s.therm ∧ (State.dramIssue s a).img = s.img ∧ (State.dramIssue s a).awl = s.awl ∧ (State.dramIssue s a).codec = s.codec ∧ (State.dramIssue s a).map = s.map ∧ (State.dramIssue s a).blk = s.blk ∧ (State.dramIssue s a).girth = s.girth ∧ (State.dramIssue s a).wb = s.wb ∧ (State.dramIssue s a).dump = s.dump ∧ (State.dramIssue s a).cipher = s.cipher ∧ (State.dramIssue s a).skv = s.skv ∧ (State.dramIssue s a).mc = s.mc ∧ (State.dramIssue s a).media = s.media := by
  unfold State.dramIssue; refine ⟨?_, ?_, ?_, ?_, ?_, ?_, ?_, ?_, ?_, ?_, ?_, ?_, ?_, ?_, ?_, ?_, ?_, ?_⟩ <;> (repeat' (first | (simp; done) | split | dsimp only | simp))
@[simp] theorem State.catchUp_kept (s : State) :
    (State.catchUp s).pending = s.pending ∧ (State.catchUp s).wheel = s.wheel ∧ (State.catchUp s).plan = s.plan ∧ (State.catchUp s).rein = s.rein ∧ (State.catchUp s).dma = s.dma ∧ (State.catchUp s).therm = s.therm ∧ (State.catchUp s).img = s.img ∧ (State.catchUp s).awl = s.awl ∧ (State.catchUp s).codec = s.codec ∧ (State.catchUp s).map = s.map ∧ (State.catchUp s).blk = s.blk ∧ (State.catchUp s).girth = s.girth ∧ (State.catchUp s).wb = s.wb ∧ (State.catchUp s).dump = s.dump ∧ (State.catchUp s).cipher = s.cipher ∧ (State.catchUp s).skv = s.skv ∧ (State.catchUp s).mc = s.mc ∧ (State.catchUp s).media = s.media := by
  simp [State.catchUp]
theorem execDramRefreshDue_kept (ch : Nat) (rank : Nat) (bank : Nat) (s : State) :
    ∃ t, execDramRefreshDue ch rank bank s = .next t ∧ t.pending = s.pending ∧ t.wheel = s.wheel ∧ t.plan = s.plan ∧ t.rein = s.rein ∧ t.dma = s.dma ∧ t.therm = s.therm ∧ t.img = s.img ∧ t.awl = s.awl ∧ t.codec = s.codec ∧ t.map = s.map ∧ t.blk = s.blk ∧ t.girth = s.girth ∧ t.wb = s.wb ∧ t.dump = s.dump ∧ t.cipher = s.cipher ∧ t.skv = s.skv ∧ t.mc = s.mc ∧ t.media = s.media := by
  unfold execDramRefreshDue; dsimp only; (repeat' split) <;> (refine ⟨_, rfl, ?_⟩; simp)
theorem execNeighbourRefresh_kept (ch : Nat) (rank : Nat) (bank : Nat) (s : State) :
    ∃ t, execNeighbourRefresh ch rank bank s = .next t ∧ t.pending = s.pending ∧ t.wheel = s.wheel ∧ t.plan = s.plan ∧ t.rein = s.rein ∧ t.dma = s.dma ∧ t.therm = s.therm ∧ t.img = s.img ∧ t.awl = s.awl ∧ t.codec = s.codec ∧ t.map = s.map ∧ t.blk = s.blk ∧ t.girth = s.girth ∧ t.wb = s.wb ∧ t.dump = s.dump ∧ t.cipher = s.cipher ∧ t.skv = s.skv ∧ t.mc = s.mc ∧ t.media = s.media := by
  unfold execNeighbourRefresh; dsimp only; (repeat' split) <;> (refine ⟨_, rfl, ?_⟩; simp)
theorem execRankPowerDown_kept (ch : Nat) (rank : Nat) (idleNs : Nat) (s : State) :
    ∃ t, execRankPowerDown ch rank idleNs s = .next t ∧ t.pending = s.pending ∧ t.wheel = s.wheel ∧ t.plan = s.plan ∧ t.rein = s.rein ∧ t.dma = s.dma ∧ t.therm = s.therm ∧ t.img = s.img ∧ t.awl = s.awl ∧ t.codec = s.codec ∧ t.map = s.map ∧ t.blk = s.blk ∧ t.girth = s.girth ∧ t.wb = s.wb ∧ t.dump = s.dump ∧ t.cipher = s.cipher ∧ t.skv = s.skv ∧ t.mc = s.mc ∧ t.media = s.media := by
  unfold execRankPowerDown; dsimp only; (repeat' split) <;> (refine ⟨_, rfl, ?_⟩; simp)
@[simp] theorem State.retireLane_kept (s : State) (ch : Nat) (rank : Nat) (lane : Nat) :
    (State.retireLane s ch rank lane).pending = s.pending ∧ (State.retireLane s ch rank lane).wheel = s.wheel ∧ (State.retireLane s ch rank lane).plan = s.plan ∧ (State.retireLane s ch rank lane).rein = s.rein ∧ (State.retireLane s ch rank lane).dma = s.dma ∧ (State.retireLane s ch rank lane).therm = s.therm ∧ (State.retireLane s ch rank lane).img = s.img ∧ (State.retireLane s ch rank lane).awl = s.awl ∧ (State.retireLane s ch rank lane).codec = s.codec ∧ (State.retireLane s ch rank lane).map = s.map ∧ (State.retireLane s ch rank lane).blk = s.blk ∧ (State.retireLane s ch rank lane).girth = s.girth ∧ (State.retireLane s ch rank lane).wb = s.wb ∧ (State.retireLane s ch rank lane).dump = s.dump ∧ (State.retireLane s ch rank lane).cipher = s.cipher ∧ (State.retireLane s ch rank lane).skv = s.skv ∧ (State.retireLane s ch rank lane).mc = s.mc ∧ (State.retireLane s ch rank lane).media = s.media := by
  simp [State.retireLane]
@[simp] theorem State.countLane_kept (s : State) (ch : Nat) (rank : Nat) (lane : Nat) :
    (State.countLane s ch rank lane).pending = s.pending ∧ (State.countLane s ch rank lane).wheel = s.wheel ∧ (State.countLane s ch rank lane).plan = s.plan ∧ (State.countLane s ch rank lane).rein = s.rein ∧ (State.countLane s ch rank lane).dma = s.dma ∧ (State.countLane s ch rank lane).therm = s.therm ∧ (State.countLane s ch rank lane).img = s.img ∧ (State.countLane s ch rank lane).awl = s.awl ∧ (State.countLane s ch rank lane).codec = s.codec ∧ (State.countLane s ch rank lane).map = s.map ∧ (State.countLane s ch rank lane).blk = s.blk ∧ (State.countLane s ch rank lane).girth = s.girth ∧ (State.countLane s ch rank lane).wb = s.wb ∧ (State.countLane s ch rank lane).dump = s.dump ∧ (State.countLane s ch rank lane).cipher = s.cipher ∧ (State.countLane s ch rank lane).skv = s.skv ∧ (State.countLane s ch rank lane).mc = s.mc ∧ (State.countLane s ch rank lane).media = s.media := by
  simp [State.countLane]
theorem execLaneCounterWindow_kept (s : State) :
    ∃ t, execLaneCounterWindow s = .next t ∧ t.pending = s.pending ∧ t.wheel = s.wheel ∧ t.plan = s.plan ∧ t.rein = s.rein ∧ t.dma = s.dma ∧ t.therm = s.therm ∧ t.img = s.img ∧ t.awl = s.awl ∧ t.codec = s.codec ∧ t.map = s.map ∧ t.blk = s.blk ∧ t.girth = s.girth ∧ t.wb = s.wb ∧ t.dump = s.dump ∧ t.cipher = s.cipher ∧ t.skv = s.skv ∧ t.mc = s.mc ∧ t.media = s.media := by
  unfold execLaneCounterWindow; (repeat' split) <;> (refine ⟨_, rfl, ?_⟩; simp)
@[simp] theorem State.burstCorrected_kept (s : State) (a : Nat) (lanes : List Nat) :
    (State.burstCorrected s a lanes).pending = s.pending ∧ (State.burstCorrected s a lanes).wheel = s.wheel ∧ (State.burstCorrected s a lanes).plan = s.plan ∧ (State.burstCorrected s a lanes).rein = s.rein ∧ (State.burstCorrected s a lanes).dma = s.dma ∧ (State.burstCorrected s a lanes).therm = s.therm ∧ (State.burstCorrected s a lanes).img = s.img ∧ (State.burstCorrected s a lanes).awl = s.awl ∧ (State.burstCorrected s a lanes).codec = s.codec ∧ (State.burstCorrected s a lanes).map = s.map ∧ (State.burstCorrected s a lanes).blk = s.blk ∧ (State.burstCorrected s a lanes).girth = s.girth ∧ (State.burstCorrected s a lanes).wb = s.wb ∧ (State.burstCorrected s a lanes).dump = s.dump ∧ (State.burstCorrected s a lanes).cipher = s.cipher ∧ (State.burstCorrected s a lanes).skv = s.skv ∧ (State.burstCorrected s a lanes).mc = s.mc ∧ (State.burstCorrected s a lanes).media = s.media := by
  simp [State.burstCorrected]
@[simp] theorem State.burstLost_kept (s : State) (a : Nat) (region : Nat) :
    (State.burstLost s a region).pending = s.pending ∧ (State.burstLost s a region).wheel = s.wheel ∧ (State.burstLost s a region).plan = s.plan ∧ (State.burstLost s a region).rein = s.rein ∧ (State.burstLost s a region).dma = s.dma ∧ (State.burstLost s a region).therm = s.therm ∧ (State.burstLost s a region).img = s.img ∧ (State.burstLost s a region).awl = s.awl ∧ (State.burstLost s a region).codec = s.codec ∧ (State.burstLost s a region).map = s.map ∧ (State.burstLost s a region).blk = s.blk ∧ (State.burstLost s a region).girth = s.girth ∧ (State.burstLost s a region).wb = s.wb ∧ (State.burstLost s a region).dump = s.dump ∧ (State.burstLost s a region).cipher = s.cipher ∧ (State.burstLost s a region).skv = s.skv ∧ (State.burstLost s a region).mc = s.mc ∧ (State.burstLost s a region).media = s.media := by
  simp [State.burstLost]
@[simp] theorem State.blockLost_kept (s : State) (seg : Nat) (block : Nat) :
    (State.blockLost s seg block).pending = s.pending ∧ (State.blockLost s seg block).wheel = s.wheel ∧ (State.blockLost s seg block).plan = s.plan ∧ (State.blockLost s seg block).rein = s.rein ∧ (State.blockLost s seg block).dram = s.dram ∧ (State.blockLost s seg block).dma = s.dma ∧ (State.blockLost s seg block).therm = s.therm ∧ (State.blockLost s seg block).img = s.img := by
  simp [State.blockLost]
@[simp] theorem State.slotPoisoned_kept (s : State) (g : Nat) :
    (State.slotPoisoned s g).pending = s.pending ∧ (State.slotPoisoned s g).wheel = s.wheel ∧ (State.slotPoisoned s g).plan = s.plan ∧ (State.slotPoisoned s g).rein = s.rein ∧ (State.slotPoisoned s g).dma = s.dma ∧ (State.slotPoisoned s g).therm = s.therm ∧ (State.slotPoisoned s g).img = s.img := by
  unfold State.slotPoisoned; refine ⟨?_, ?_, ?_, ?_, ?_, ?_, ?_⟩ <;> (repeat' (first | (simp; done) | split | dsimp only | simp))
@[simp] theorem State.placeAnswer_kept (s : State) (a : Nat) (a0 : Sys2Proof.DramPlace) :
    (State.placeAnswer s a a0).pending = s.pending ∧ (State.placeAnswer s a a0).wheel = s.wheel ∧ (State.placeAnswer s a a0).rein = s.rein ∧ (State.placeAnswer s a a0).dma = s.dma ∧ (State.placeAnswer s a a0).therm = s.therm ∧ (State.placeAnswer s a a0).img = s.img := by
  unfold State.placeAnswer; split <;> simp
theorem execDramBurstDecode_kept (addr : Nat) (badSymbols : List Nat) (place : Sys2Proof.DramPlace) (s : State) :
    ∃ t, execDramBurstDecode addr badSymbols place s = .next t ∧ t.pending = s.pending ∧ t.wheel = s.wheel ∧ t.rein = s.rein ∧ t.dma = s.dma ∧ t.therm = s.therm ∧ t.img = s.img := by
  unfold execDramBurstDecode; dsimp only; (repeat' split) <;> (refine ⟨_, rfl, ?_⟩; simp)
theorem execDramScrubRead_kept (badSymbols : List Nat) (s : State) :
    ∃ t, execDramScrubRead badSymbols s = .next t ∧ t.pending = s.pending ∧ t.wheel = s.wheel ∧ t.plan = s.plan ∧ t.rein = s.rein ∧ t.dma = s.dma ∧ t.therm = s.therm ∧ t.img = s.img ∧ t.awl = s.awl ∧ t.codec = s.codec ∧ t.map = s.map ∧ t.blk = s.blk ∧ t.girth = s.girth ∧ t.wb = s.wb ∧ t.dump = s.dump ∧ t.cipher = s.cipher ∧ t.skv = s.skv ∧ t.mc = s.mc ∧ t.media = s.media := by
  unfold execDramScrubRead; dsimp only; (repeat' split) <;> (refine ⟨_, rfl, ?_⟩; simp)
@[simp] theorem State.bankEvent_kept (s : State) (b : Nat) :
    (State.bankEvent s b).pending = s.pending ∧ (State.bankEvent s b).wheel = s.wheel ∧ (State.bankEvent s b).plan = s.plan ∧ (State.bankEvent s b).rein = s.rein ∧ (State.bankEvent s b).dram = s.dram ∧ (State.bankEvent s b).dma = s.dma ∧ (State.bankEvent s b).therm = s.therm ∧ (State.bankEvent s b).img = s.img := by
  simp [State.bankEvent]
@[simp] theorem State.cacheError_kept (s : State) (b : Nat) (a0 : Sys2Proof.CacheError) :
    (State.cacheError s b a0).pending = s.pending ∧ (State.cacheError s b a0).wheel = s.wheel ∧ (State.cacheError s b a0).plan = s.plan ∧ (State.cacheError s b a0).rein = s.rein ∧ (State.cacheError s b a0).dram = s.dram ∧ (State.cacheError s b a0).dma = s.dma ∧ (State.cacheError s b a0).therm = s.therm ∧ (State.cacheError s b a0).img = s.img := by
  unfold State.cacheError; split <;> simp
theorem execMcFillDone_kept (bank : Nat) (crcOk : Bool) (err : Sys2Proof.CacheError) (s : State) :
    ∃ t, execMcFillDone bank crcOk err s = .next t ∧ t.pending = s.pending ∧ t.wheel = s.wheel ∧ t.plan = s.plan ∧ t.rein = s.rein ∧ t.dma = s.dma ∧ t.therm = s.therm ∧ t.img = s.img := by
  unfold execMcFillDone; dsimp only; (repeat' split) <;> (refine ⟨_, rfl, ?_⟩; simp)
theorem execMcWritebackDone_kept (bank : Nat) (s : State) :
    ∃ t, execMcWritebackDone bank s = .next t ∧ t.pending = s.pending ∧ t.wheel = s.wheel ∧ t.plan = s.plan ∧ t.rein = s.rein ∧ t.dma = s.dma ∧ t.therm = s.therm ∧ t.img = s.img := by
  unfold execMcWritebackDone; dsimp only; (repeat' split) <;> (refine ⟨_, rfl, ?_⟩; simp)
theorem execMcDisableRequest_kept (banks : List Nat) (s : State) :
    ∃ t, execMcDisableRequest banks s = .next t ∧ t.pending = s.pending ∧ t.wheel = s.wheel ∧ t.plan = s.plan ∧ t.rein = s.rein ∧ t.dram = s.dram ∧ t.dma = s.dma ∧ t.therm = s.therm ∧ t.img = s.img := by
  refine ⟨_, rfl, ?_⟩; simp
@[simp] theorem State.enableBank_kept (s : State) (b : Nat) :
    (State.enableBank s b).pending = s.pending ∧ (State.enableBank s b).wheel = s.wheel ∧ (State.enableBank s b).plan = s.plan ∧ (State.enableBank s b).rein = s.rein ∧ (State.enableBank s b).dram = s.dram ∧ (State.enableBank s b).dma = s.dma ∧ (State.enableBank s b).therm = s.therm ∧ (State.enableBank s b).img = s.img := by
  simp [State.enableBank]
theorem execMcEnableRequest_kept (banks : List Nat) (s : State) :
    ∃ t, execMcEnableRequest banks s = .next t ∧ t.pending = s.pending ∧ t.wheel = s.wheel ∧ t.plan = s.plan ∧ t.rein = s.rein ∧ t.dram = s.dram ∧ t.dma = s.dma ∧ t.therm = s.therm ∧ t.img = s.img := by
  refine ⟨_, rfl, ?_⟩; simp
@[simp] theorem State.freqChange_kept (s : State) (rate : Nat) :
    (State.freqChange s rate).pending = s.pending ∧ (State.freqChange s rate).wheel = s.wheel ∧ (State.freqChange s rate).plan = s.plan ∧ (State.freqChange s rate).rein = s.rein ∧ (State.freqChange s rate).therm = s.therm ∧ (State.freqChange s rate).img = s.img ∧ (State.freqChange s rate).awl = s.awl ∧ (State.freqChange s rate).codec = s.codec ∧ (State.freqChange s rate).map = s.map ∧ (State.freqChange s rate).blk = s.blk ∧ (State.freqChange s rate).girth = s.girth ∧ (State.freqChange s rate).wb = s.wb ∧ (State.freqChange s rate).dump = s.dump ∧ (State.freqChange s rate).cipher = s.cipher ∧ (State.freqChange s rate).skv = s.skv ∧ (State.freqChange s rate).mc = s.mc ∧ (State.freqChange s rate).media = s.media := by
  simp [State.freqChange]

end Sys2Proof.Machine
end

