-- ==== Sys2Proof/Laws/KeptRounds.lean ====
section
/-! SUPPORT. What each function of Sys2Proof/Machine/Rounds.lean leaves unchanged: one lemma a function. -/
set_option linter.unusedTactic false
set_option linter.unreachableTactic false
set_option linter.unusedSimpArgs false
namespace Sys2Proof.Machine

@[simp] theorem State.testBank_kept (s : State) (t : SelfTest) :
    (State.testBank s t).2.pending = s.pending ∧ (State.testBank s t).2.wheel = s.wheel ∧ (State.testBank s t).2.plan = s.plan ∧ (State.testBank s t).2.rein = s.rein ∧ (State.testBank s t).2.dram = s.dram ∧ (State.testBank s t).2.dma = s.dma ∧ (State.testBank s t).2.therm = s.therm ∧ (State.testBank s t).2.img = s.img := by
  unfold State.testBank; refine ⟨?_, ?_, ?_, ?_, ?_, ?_, ?_, ?_⟩ <;> (repeat' (first | (simp; done) | split | dsimp only | simp))
theorem State.testBank_fwd {s : State} {t : SelfTest} {z : _} {z2 : State} (hz : State.testBank s t = (z, z2)) : z2.pending = s.pending ∧ z2.wheel = s.wheel ∧ z2.plan = s.plan ∧ z2.rein = s.rein ∧ z2.dram = s.dram ∧ z2.dma = s.dma ∧ z2.therm = s.therm ∧ z2.img = s.img := by
  have h := State.testBank_kept s t
  rw [hz] at h; exact h
@[simp] theorem State.testRein_kept (s : State) (r : Sys2Proof.Rein) (e : Sys2Proof.EyeFound) :
    (State.testRein s r e).2.pending = s.pending ∧ (State.testRein s r e).2.wheel = s.wheel ∧ (State.testRein s r e).2.plan = s.plan ∧ (State.testRein s r e).2.dram = s.dram ∧ (State.testRein s r e).2.dma = s.dma ∧ (State.testRein s r e).2.therm = s.therm ∧ (State.testRein s r e).2.img = s.img ∧ (State.testRein s r e).2.awl = s.awl ∧ (State.testRein s r e).2.codec = s.codec ∧ (State.testRein s r e).2.map = s.map ∧ (State.testRein s r e).2.blk = s.blk ∧ (State.testRein s r e).2.girth = s.girth ∧ (State.testRein s r e).2.wb = s.wb ∧ (State.testRein s r e).2.dump = s.dump ∧ (State.testRein s r e).2.cipher = s.cipher ∧ (State.testRein s r e).2.skv = s.skv ∧ (State.testRein s r e).2.mc = s.mc ∧ (State.testRein s r e).2.media = s.media := by
  unfold State.testRein; split <;> simp
theorem State.testRein_fwd {s : State} {r : Sys2Proof.Rein} {e : Sys2Proof.EyeFound} {z : _} {z2 : State} (hz : State.testRein s r e = (z, z2)) : z2.pending = s.pending ∧ z2.wheel = s.wheel ∧ z2.plan = s.plan ∧ z2.dram = s.dram ∧ z2.dma = s.dma ∧ z2.therm = s.therm ∧ z2.img = s.img ∧ z2.awl = s.awl ∧ z2.codec = s.codec ∧ z2.map = s.map ∧ z2.blk = s.blk ∧ z2.girth = s.girth ∧ z2.wb = s.wb ∧ z2.dump = s.dump ∧ z2.cipher = s.cipher ∧ z2.skv = s.skv ∧ z2.mc = s.mc ∧ z2.media = s.media := by
  have h := State.testRein_kept s r e
  rw [hz] at h; exact h
@[simp] theorem State.testEngines_kept (s : State) (f : Sys2Proof.TestFound) :
    (State.testEngines s f).pending = s.pending ∧ (State.testEngines s f).wheel = s.wheel ∧ (State.testEngines s f).plan = s.plan ∧ (State.testEngines s f).rein = s.rein ∧ (State.testEngines s f).dram = s.dram ∧ (State.testEngines s f).dma = s.dma ∧ (State.testEngines s f).therm = s.therm ∧ (State.testEngines s f).img = s.img := by
  simp [State.testEngines]
@[simp] theorem State.testElement_kept (s : State) (t : SelfTest) (f : TestFound) :
    (s.testElement t f).next.pending = s.pending ∧ (s.testElement t f).next.wheel = s.wheel ∧ (s.testElement t f).next.plan = s.plan ∧ (s.testElement t f).next.dram = s.dram ∧ (s.testElement t f).next.dma = s.dma ∧ (s.testElement t f).next.therm = s.therm ∧ (s.testElement t f).next.img = s.img := by
  unfold State.testElement
  refine ⟨?_, ?_, ?_, ?_, ?_, ?_, ?_⟩ <;> (repeat' (first | (simp; done) | split | dsimp only))
@[simp] theorem State.selfTest_kept (s : State) (f : Sys2Proof.TestFound) :
    (State.selfTest s f).pending = s.pending ∧ (State.selfTest s f).wheel = s.wheel ∧ (State.selfTest s f).plan = s.plan ∧ (State.selfTest s f).dram = s.dram ∧ (State.selfTest s f).dma = s.dma ∧ (State.selfTest s f).therm = s.therm ∧ (State.selfTest s f).img = s.img := by
  unfold State.selfTest; split <;> simp
@[simp] theorem State.countWaits_kept (s : State) :
    (State.countWaits s).pending = s.pending ∧ (State.countWaits s).wheel = s.wheel ∧ (State.countWaits s).plan = s.plan ∧ (State.countWaits s).rein = s.rein ∧ (State.countWaits s).dram = s.dram ∧ (State.countWaits s).dma = s.dma ∧ (State.countWaits s).therm = s.therm ∧ (State.countWaits s).img = s.img := by
  simp [State.countWaits]
@[simp] theorem State.ptmRequest_kept (s : State) :
    (State.ptmRequest s).pending = s.pending ∧ (State.ptmRequest s).wheel = s.wheel ∧ (State.ptmRequest s).plan = s.plan ∧ (State.ptmRequest s).dram = s.dram ∧ (State.ptmRequest s).dma = s.dma ∧ (State.ptmRequest s).therm = s.therm ∧ (State.ptmRequest s).img = s.img ∧ (State.ptmRequest s).awl = s.awl ∧ (State.ptmRequest s).codec = s.codec ∧ (State.ptmRequest s).map = s.map ∧ (State.ptmRequest s).blk = s.blk ∧ (State.ptmRequest s).girth = s.girth ∧ (State.ptmRequest s).wb = s.wb ∧ (State.ptmRequest s).dump = s.dump ∧ (State.ptmRequest s).cipher = s.cipher ∧ (State.ptmRequest s).skv = s.skv ∧ (State.ptmRequest s).mc = s.mc ∧ (State.ptmRequest s).media = s.media := by
  simp [State.ptmRequest]
@[simp] theorem State.senseTooth_kept (s : State) (code : Nat) :
    (State.senseTooth s code).pending = s.pending ∧ (State.senseTooth s code).wheel = s.wheel ∧ (State.senseTooth s code).plan = s.plan ∧ (State.senseTooth s code).rein = s.rein ∧ (State.senseTooth s code).dram = s.dram ∧ (State.senseTooth s code).dma = s.dma ∧ (State.senseTooth s code).therm = s.therm ∧ (State.senseTooth s code).img = s.img := by
  simp [State.senseTooth]
theorem execToothBoundary_kept (senseCode : Nat) (test : Sys2Proof.TestFound) (s : State) :
    ∃ t, execToothBoundary senseCode test s = .next t ∧ t.pending = s.pending ∧ t.plan = s.plan ∧ t.dram = s.dram ∧ t.dma = s.dma ∧ t.therm = s.therm ∧ t.img = s.img := by
  unfold execToothBoundary; (repeat' split) <;> (refine ⟨_, rfl, ?_⟩; simp)
@[simp] theorem State.wheelApply_kept (s : State) :
    (State.wheelApply s).pending = s.pending ∧ (State.wheelApply s).plan = s.plan ∧ (State.wheelApply s).rein = s.rein ∧ (State.wheelApply s).dram = s.dram ∧ (State.wheelApply s).dma = s.dma ∧ (State.wheelApply s).therm = s.therm ∧ (State.wheelApply s).img = s.img ∧ (State.wheelApply s).awl = s.awl ∧ (State.wheelApply s).codec = s.codec ∧ (State.wheelApply s).map = s.map ∧ (State.wheelApply s).blk = s.blk ∧ (State.wheelApply s).girth = s.girth ∧ (State.wheelApply s).wb = s.wb ∧ (State.wheelApply s).dump = s.dump ∧ (State.wheelApply s).cipher = s.cipher ∧ (State.wheelApply s).skv = s.skv ∧ (State.wheelApply s).mc = s.mc ∧ (State.wheelApply s).media = s.media := by
  unfold State.wheelApply; split <;> simp
@[simp] theorem State.phaseStep_kept (s : State) :
    (State.phaseStep s).pending = s.pending ∧ (State.phaseStep s).plan = s.plan ∧ (State.phaseStep s).rein = s.rein ∧ (State.phaseStep s).dram = s.dram ∧ (State.phaseStep s).dma = s.dma ∧ (State.phaseStep s).therm = s.therm ∧ (State.phaseStep s).img = s.img ∧ (State.phaseStep s).awl = s.awl ∧ (State.phaseStep s).codec = s.codec ∧ (State.phaseStep s).map = s.map ∧ (State.phaseStep s).blk = s.blk ∧ (State.phaseStep s).girth = s.girth ∧ (State.phaseStep s).wb = s.wb ∧ (State.phaseStep s).dump = s.dump ∧ (State.phaseStep s).cipher = s.cipher ∧ (State.phaseStep s).skv = s.skv ∧ (State.phaseStep s).mc = s.mc ∧ (State.phaseStep s).media = s.media := by
  simp [State.phaseStep]
@[simp] theorem State.wheelComp_kept (s : State) :
    (State.wheelComp s).pending = s.pending ∧ (State.wheelComp s).plan = s.plan ∧ (State.wheelComp s).rein = s.rein ∧ (State.wheelComp s).dram = s.dram ∧ (State.wheelComp s).dma = s.dma ∧ (State.wheelComp s).therm = s.therm ∧ (State.wheelComp s).img = s.img ∧ (State.wheelComp s).awl = s.awl ∧ (State.wheelComp s).codec = s.codec ∧ (State.wheelComp s).map = s.map ∧ (State.wheelComp s).blk = s.blk ∧ (State.wheelComp s).girth = s.girth ∧ (State.wheelComp s).wb = s.wb ∧ (State.wheelComp s).dump = s.dump ∧ (State.wheelComp s).cipher = s.cipher ∧ (State.wheelComp s).skv = s.skv ∧ (State.wheelComp s).mc = s.mc ∧ (State.wheelComp s).media = s.media := by
  simp [State.wheelComp]
@[simp] theorem State.heartbeat_kept (s : State) (r : Sys2Proof.Rein) :
    (State.heartbeat s r).pending = s.pending ∧ (State.heartbeat s r).wheel = s.wheel ∧ (State.heartbeat s r).plan = s.plan ∧ (State.heartbeat s r).dram = s.dram ∧ (State.heartbeat s r).dma = s.dma ∧ (State.heartbeat s r).therm = s.therm ∧ (State.heartbeat s r).img = s.img ∧ (State.heartbeat s r).awl = s.awl ∧ (State.heartbeat s r).codec = s.codec ∧ (State.heartbeat s r).map = s.map ∧ (State.heartbeat s r).blk = s.blk ∧ (State.heartbeat s r).girth = s.girth ∧ (State.heartbeat s r).wb = s.wb ∧ (State.heartbeat s r).dump = s.dump ∧ (State.heartbeat s r).cipher = s.cipher ∧ (State.heartbeat s r).skv = s.skv ∧ (State.heartbeat s r).mc = s.mc ∧ (State.heartbeat s r).media = s.media := by
  simp [State.heartbeat]
@[simp] theorem State.reinRound_kept (s : State) (r : Sys2Proof.Rein) :
    (State.reinRound s r).pending = s.pending ∧ (State.reinRound s r).wheel = s.wheel ∧ (State.reinRound s r).plan = s.plan ∧ (State.reinRound s r).dram = s.dram ∧ (State.reinRound s r).dma = s.dma ∧ (State.reinRound s r).therm = s.therm ∧ (State.reinRound s r).img = s.img ∧ (State.reinRound s r).awl = s.awl ∧ (State.reinRound s r).codec = s.codec ∧ (State.reinRound s r).map = s.map ∧ (State.reinRound s r).blk = s.blk ∧ (State.reinRound s r).girth = s.girth ∧ (State.reinRound s r).wb = s.wb ∧ (State.reinRound s r).dump = s.dump ∧ (State.reinRound s r).cipher = s.cipher ∧ (State.reinRound s r).skv = s.skv ∧ (State.reinRound s r).mc = s.mc ∧ (State.reinRound s r).media = s.media := by
  simp [State.reinRound]
@[simp] theorem State.mr4Read_kept (s : State) (m : Sys2Proof.Mr4Reading) :
    (State.mr4Read s m).pending = s.pending ∧ (State.mr4Read s m).wheel = s.wheel ∧ (State.mr4Read s m).plan = s.plan ∧ (State.mr4Read s m).rein = s.rein ∧ (State.mr4Read s m).dma = s.dma ∧ (State.mr4Read s m).therm = s.therm ∧ (State.mr4Read s m).img = s.img ∧ (State.mr4Read s m).awl = s.awl ∧ (State.mr4Read s m).codec = s.codec ∧ (State.mr4Read s m).map = s.map ∧ (State.mr4Read s m).blk = s.blk ∧ (State.mr4Read s m).girth = s.girth ∧ (State.mr4Read s m).wb = s.wb ∧ (State.mr4Read s m).dump = s.dump ∧ (State.mr4Read s m).cipher = s.cipher ∧ (State.mr4Read s m).skv = s.skv ∧ (State.mr4Read s m).mc = s.mc ∧ (State.mr4Read s m).media = s.media := by
  simp [State.mr4Read]
@[simp] theorem State.dqRound_kept (s : State) :
    (State.dqRound s).pending = s.pending ∧ (State.dqRound s).wheel = s.wheel ∧ (State.dqRound s).plan = s.plan ∧ (State.dqRound s).rein = s.rein ∧ (State.dqRound s).dma = s.dma ∧ (State.dqRound s).therm = s.therm ∧ (State.dqRound s).img = s.img ∧ (State.dqRound s).awl = s.awl ∧ (State.dqRound s).codec = s.codec ∧ (State.dqRound s).map = s.map ∧ (State.dqRound s).blk = s.blk ∧ (State.dqRound s).girth = s.girth ∧ (State.dqRound s).wb = s.wb ∧ (State.dqRound s).dump = s.dump ∧ (State.dqRound s).cipher = s.cipher ∧ (State.dqRound s).skv = s.skv ∧ (State.dqRound s).mc = s.mc ∧ (State.dqRound s).media = s.media := by
  simp [State.dqRound]
@[simp] theorem State.dramRound_kept (s : State) :
    (State.dramRound s).pending = s.pending ∧ (State.dramRound s).wheel = s.wheel ∧ (State.dramRound s).plan = s.plan ∧ (State.dramRound s).rein = s.rein ∧ (State.dramRound s).therm = s.therm ∧ (State.dramRound s).img = s.img ∧ (State.dramRound s).awl = s.awl ∧ (State.dramRound s).codec = s.codec ∧ (State.dramRound s).map = s.map ∧ (State.dramRound s).blk = s.blk ∧ (State.dramRound s).girth = s.girth ∧ (State.dramRound s).wb = s.wb ∧ (State.dramRound s).dump = s.dump ∧ (State.dramRound s).cipher = s.cipher ∧ (State.dramRound s).skv = s.skv ∧ (State.dramRound s).mc = s.mc ∧ (State.dramRound s).media = s.media := by
  simp [State.dramRound]
@[simp] theorem State.flashRound_kept (s : State) (c : Nat) :
    (State.flashRound s c).pending = s.pending ∧ (State.flashRound s c).wheel = s.wheel ∧ (State.flashRound s c).plan = s.plan ∧ (State.flashRound s c).rein = s.rein ∧ (State.flashRound s c).dram = s.dram ∧ (State.flashRound s c).dma = s.dma ∧ (State.flashRound s c).therm = s.therm ∧ (State.flashRound s c).img = s.img := by
  simp [State.flashRound]
@[simp] theorem State.flashRates_kept (s : State) :
    (State.flashRates s).pending = s.pending ∧ (State.flashRates s).wheel = s.wheel ∧ (State.flashRates s).plan = s.plan ∧ (State.flashRates s).rein = s.rein ∧ (State.flashRates s).dram = s.dram ∧ (State.flashRates s).dma = s.dma ∧ (State.flashRates s).therm = s.therm ∧ (State.flashRates s).img = s.img := by
  simp [State.flashRates]
@[simp] theorem State.vcoreRound_kept (s : State) (pass : Nat) :
    (State.vcoreRound s pass).pending = s.pending ∧ (State.vcoreRound s pass).wheel = s.wheel ∧ (State.vcoreRound s pass).plan = s.plan ∧ (State.vcoreRound s pass).rein = s.rein ∧ (State.vcoreRound s pass).dram = s.dram ∧ (State.vcoreRound s pass).dma = s.dma ∧ (State.vcoreRound s pass).therm = s.therm ∧ (State.vcoreRound s pass).img = s.img ∧ (State.vcoreRound s pass).awl = s.awl ∧ (State.vcoreRound s pass).codec = s.codec ∧ (State.vcoreRound s pass).map = s.map ∧ (State.vcoreRound s pass).blk = s.blk ∧ (State.vcoreRound s pass).girth = s.girth ∧ (State.vcoreRound s pass).wb = s.wb ∧ (State.vcoreRound s pass).dump = s.dump ∧ (State.vcoreRound s pass).cipher = s.cipher ∧ (State.vcoreRound s pass).skv = s.skv ∧ (State.vcoreRound s pass).mc = s.mc ∧ (State.vcoreRound s pass).media = s.media := by
  simp [State.vcoreRound]
@[simp] theorem State.freeBand_kept (s : State) :
    (State.freeBand s).pending = s.pending ∧ (State.freeBand s).wheel = s.wheel ∧ (State.freeBand s).plan = s.plan ∧ (State.freeBand s).rein = s.rein ∧ (State.freeBand s).dram = s.dram ∧ (State.freeBand s).dma = s.dma ∧ (State.freeBand s).therm = s.therm ∧ (State.freeBand s).img = s.img := by
  simp [State.freeBand]
@[simp] theorem State.fcRound_kept (s : State) :
    (State.fcRound s).pending = s.pending ∧ (State.fcRound s).wheel = s.wheel ∧ (State.fcRound s).plan = s.plan ∧ (State.fcRound s).rein = s.rein ∧ (State.fcRound s).dram = s.dram ∧ (State.fcRound s).dma = s.dma ∧ (State.fcRound s).therm = s.therm ∧ (State.fcRound s).img = s.img := by
  simp [State.fcRound]
@[simp] theorem State.spareCheck_kept (s : State) :
    (State.spareCheck s).pending = s.pending ∧ (State.spareCheck s).wheel = s.wheel ∧ (State.spareCheck s).plan = s.plan ∧ (State.spareCheck s).rein = s.rein ∧ (State.spareCheck s).dram = s.dram ∧ (State.spareCheck s).dma = s.dma ∧ (State.spareCheck s).therm = s.therm ∧ (State.spareCheck s).img = s.img := by
  simp [State.spareCheck]
@[simp] theorem State.wearVictim_kept (s : State) (d : Nat) :
    (State.wearVictim s d).pending = s.pending ∧ (State.wearVictim s d).wheel = s.wheel ∧ (State.wearVictim s d).plan = s.plan ∧ (State.wearVictim s d).rein = s.rein ∧ (State.wearVictim s d).dram = s.dram ∧ (State.wearVictim s d).dma = s.dma ∧ (State.wearVictim s d).therm = s.therm ∧ (State.wearVictim s d).img = s.img := by
  unfold State.wearVictim; refine ⟨?_, ?_, ?_, ?_, ?_, ?_, ?_, ?_⟩ <;> (repeat' (first | (simp; done) | split | dsimp only | simp))
@[simp] theorem State.wearVictims_kept (s : State) :
    (State.wearVictims s).pending = s.pending ∧ (State.wearVictims s).wheel = s.wheel ∧ (State.wearVictims s).plan = s.plan ∧ (State.wearVictims s).rein = s.rein ∧ (State.wearVictims s).dram = s.dram ∧ (State.wearVictims s).dma = s.dma ∧ (State.wearVictims s).therm = s.therm ∧ (State.wearVictims s).img = s.img := by
  simp [State.wearVictims]
@[simp] theorem State.untake_kept (s : State) (b : Nat) :
    (State.untake s b).pending = s.pending ∧ (State.untake s b).wheel = s.wheel ∧ (State.untake s b).plan = s.plan ∧ (State.untake s b).rein = s.rein ∧ (State.untake s b).dram = s.dram ∧ (State.untake s b).dma = s.dma ∧ (State.untake s b).therm = s.therm ∧ (State.untake s b).img = s.img := by
  simp [State.untake]
@[simp] theorem State.dropTaking_kept (s : State) (n : Nat) :
    (State.dropTaking s n).pending = s.pending ∧ (State.dropTaking s n).wheel = s.wheel ∧ (State.dropTaking s n).plan = s.plan ∧ (State.dropTaking s n).rein = s.rein ∧ (State.dropTaking s n).dram = s.dram ∧ (State.dropTaking s n).dma = s.dma ∧ (State.dropTaking s n).therm = s.therm ∧ (State.dropTaking s n).img = s.img := by
  simp [State.dropTaking]
@[simp] theorem State.layoutRound_kept (s : State) :
    (State.layoutRound s).pending = s.pending ∧ (State.layoutRound s).wheel = s.wheel ∧ (State.layoutRound s).plan = s.plan ∧ (State.layoutRound s).rein = s.rein ∧ (State.layoutRound s).dram = s.dram ∧ (State.layoutRound s).dma = s.dma ∧ (State.layoutRound s).therm = s.therm ∧ (State.layoutRound s).img = s.img := by
  unfold State.layoutRound; split <;> simp
@[simp] theorem State.dieRounds_kept (s : State) :
    (State.dieRounds s).pending = s.pending ∧ (State.dieRounds s).wheel = s.wheel ∧ (State.dieRounds s).plan = s.plan ∧ (State.dieRounds s).rein = s.rein ∧ (State.dieRounds s).dram = s.dram ∧ (State.dieRounds s).dma = s.dma ∧ (State.dieRounds s).therm = s.therm ∧ (State.dieRounds s).img = s.img := by
  simp [State.dieRounds]
@[simp] theorem State.floorLinks_kept (s : State) :
    (State.floorLinks s).pending = s.pending ∧ (State.floorLinks s).wheel = s.wheel ∧ (State.floorLinks s).plan = s.plan ∧ (State.floorLinks s).dram = s.dram ∧ (State.floorLinks s).dma = s.dma ∧ (State.floorLinks s).therm = s.therm ∧ (State.floorLinks s).img = s.img ∧ (State.floorLinks s).awl = s.awl ∧ (State.floorLinks s).codec = s.codec ∧ (State.floorLinks s).map = s.map ∧ (State.floorLinks s).blk = s.blk ∧ (State.floorLinks s).girth = s.girth ∧ (State.floorLinks s).wb = s.wb ∧ (State.floorLinks s).dump = s.dump ∧ (State.floorLinks s).cipher = s.cipher ∧ (State.floorLinks s).skv = s.skv ∧ (State.floorLinks s).mc = s.mc ∧ (State.floorLinks s).media = s.media := by
  simp [State.floorLinks]
@[simp] theorem State.mediaRound_kept (s : State) :
    (State.mediaRound s).pending = s.pending ∧ (State.mediaRound s).wheel = s.wheel ∧ (State.mediaRound s).therm = s.therm ∧ (State.mediaRound s).img = s.img := by
  simp [State.mediaRound]
theorem execLocalRoundBoundary_kept (mr4 : List Sys2Proof.Mr4Reading) (vcorePass : Nat) (s : State) :
    ∃ t, execLocalRoundBoundary mr4 vcorePass s = .next t ∧ t.pending = s.pending ∧ t.therm = s.therm ∧ t.img = s.img := by
  unfold execLocalRoundBoundary; dsimp only; (repeat' split) <;> (refine ⟨_, rfl, ?_⟩; simp)

end Sys2Proof.Machine
end

