-- ==== Sys2Proof/Laws/KeptSpaces.lean ====
section
/-! SUPPORT. What each function of Sys2Proof/Machine/Spaces.lean leaves unchanged: one lemma a function. -/
set_option linter.unusedTactic false
set_option linter.unreachableTactic false
set_option linter.unusedSimpArgs false
namespace Sys2Proof.Machine

@[simp] theorem State.failSpaceUnits_kept (s : State) (nsx : Nat) (r : CmdResult) :
    (State.failSpaceUnits s nsx r).pending = s.pending ∧ (State.failSpaceUnits s nsx r).wheel = s.wheel ∧ (State.failSpaceUnits s nsx r).plan = s.plan ∧ (State.failSpaceUnits s nsx r).rein = s.rein ∧ (State.failSpaceUnits s nsx r).dram = s.dram ∧ (State.failSpaceUnits s nsx r).dma = s.dma ∧ (State.failSpaceUnits s nsx r).therm = s.therm ∧ (State.failSpaceUnits s nsx r).img = s.img := by
  simp [State.failSpaceUnits]
@[simp] theorem State.labelNew_kept (s : State) (n : Nat) :
    (State.labelNew s n).pending = s.pending ∧ (State.labelNew s n).wheel = s.wheel ∧ (State.labelNew s n).plan = s.plan ∧ (State.labelNew s n).rein = s.rein ∧ (State.labelNew s n).dram = s.dram ∧ (State.labelNew s n).dma = s.dma ∧ (State.labelNew s n).therm = s.therm ∧ (State.labelNew s n).img = s.img := by
  simp [State.labelNew]
theorem execNamespaceCreate_kept (tag : Nat) (spec : Sys2Proof.NsCreate) (s : State) :
    ∃ t, execNamespaceCreate tag spec s = .next t ∧ t.pending = s.pending ∧ t.wheel = s.wheel ∧ t.plan = s.plan ∧ t.rein = s.rein ∧ t.dram = s.dram ∧ t.dma = s.dma ∧ t.therm = s.therm ∧ t.img = s.img := by
  unfold execNamespaceCreate; (repeat' (first | (refine ⟨_, rfl, ?_, ?_, ?_, ?_, ?_, ?_, ?_, ?_⟩ <;> (repeat' (first | (simp; done) | (with_reducible refine State.begin_pending _ _ _ _ _ _ (fun y0 y1 => ?_)) | (with_reducible refine State.begin_wheel _ _ _ _ _ _ (fun y0 y1 => ?_)) | (with_reducible refine State.begin_plan _ _ _ _ _ _ (fun y0 y1 => ?_)) | (with_reducible refine State.begin_rein _ _ _ _ _ _ (fun y0 y1 => ?_)) | (with_reducible refine State.begin_dram _ _ _ _ _ _ (fun y0 y1 => ?_)) | (with_reducible refine State.begin_dma _ _ _ _ _ _ (fun y0 y1 => ?_)) | (with_reducible refine State.begin_therm _ _ _ _ _ _ (fun y0 y1 => ?_)) | (with_reducible refine State.begin_img _ _ _ _ _ _ (fun y0 y1 => ?_)) | split | dsimp only | simp)); done) | split | dsimp only))
@[simp] theorem State.deleteSpace_kept (s : State) (nsid : Nat) (n : Namespace) :
    (State.deleteSpace s nsid n).pending = s.pending ∧ (State.deleteSpace s nsid n).wheel = s.wheel ∧ (State.deleteSpace s nsid n).plan = s.plan ∧ (State.deleteSpace s nsid n).rein = s.rein ∧ (State.deleteSpace s nsid n).dram = s.dram ∧ (State.deleteSpace s nsid n).dma = s.dma ∧ (State.deleteSpace s nsid n).therm = s.therm ∧ (State.deleteSpace s nsid n).img = s.img := by
  simp [State.deleteSpace]
theorem execNamespaceDelete_kept (tag : Nat) (s : State) :
    ∃ t, execNamespaceDelete tag s = .next t ∧ t.pending = s.pending ∧ t.wheel = s.wheel ∧ t.plan = s.plan ∧ t.rein = s.rein ∧ t.dram = s.dram ∧ t.dma = s.dma ∧ t.therm = s.therm ∧ t.img = s.img := by
  unfold execNamespaceDelete; (repeat' (first | (refine ⟨_, rfl, ?_, ?_, ?_, ?_, ?_, ?_, ?_, ?_⟩ <;> (repeat' (first | (simp; done) | (with_reducible refine State.begin_pending _ _ _ _ _ _ (fun y0 y1 => ?_)) | (with_reducible refine State.begin_wheel _ _ _ _ _ _ (fun y0 y1 => ?_)) | (with_reducible refine State.begin_plan _ _ _ _ _ _ (fun y0 y1 => ?_)) | (with_reducible refine State.begin_rein _ _ _ _ _ _ (fun y0 y1 => ?_)) | (with_reducible refine State.begin_dram _ _ _ _ _ _ (fun y0 y1 => ?_)) | (with_reducible refine State.begin_dma _ _ _ _ _ _ (fun y0 y1 => ?_)) | (with_reducible refine State.begin_therm _ _ _ _ _ _ (fun y0 y1 => ?_)) | (with_reducible refine State.begin_img _ _ _ _ _ _ (fun y0 y1 => ?_)) | split | dsimp only | simp)); done) | split | dsimp only))
@[simp] theorem State.attachCmd_pending (s : State) (tag : Nat) (sel : Nat) (ctrls : List Nat) (f : Nat → Namespace → State → State) (h : ∀ x0 x1 x2, (f x0 x1 x2).pending = x2.pending) :
    (State.attachCmd s tag sel ctrls f).pending = s.pending := by
  unfold State.attachCmd; (repeat' (first | (simp [h]; done) | (with_reducible refine State.begin_pending _ _ _ _ _ _ (fun y0 y1 => ?_)) | split | dsimp only | simp [h]))
@[simp] theorem State.attachCmd_wheel (s : State) (tag : Nat) (sel : Nat) (ctrls : List Nat) (f : Nat → Namespace → State → State) (h : ∀ x0 x1 x2, (f x0 x1 x2).wheel = x2.wheel) :
    (State.attachCmd s tag sel ctrls f).wheel = s.wheel := by
  unfold State.attachCmd; (repeat' (first | (simp [h]; done) | (with_reducible refine State.begin_wheel _ _ _ _ _ _ (fun y0 y1 => ?_)) | split | dsimp only | simp [h]))
@[simp] theorem State.attachCmd_plan (s : State) (tag : Nat) (sel : Nat) (ctrls : List Nat) (f : Nat → Namespace → State → State) (h : ∀ x0 x1 x2, (f x0 x1 x2).plan = x2.plan) :
    (State.attachCmd s tag sel ctrls f).plan = s.plan := by
  unfold State.attachCmd; (repeat' (first | (simp [h]; done) | (with_reducible refine State.begin_plan _ _ _ _ _ _ (fun y0 y1 => ?_)) | split | dsimp only | simp [h]))
@[simp] theorem State.attachCmd_rein (s : State) (tag : Nat) (sel : Nat) (ctrls : List Nat) (f : Nat → Namespace → State → State) (h : ∀ x0 x1 x2, (f x0 x1 x2).rein = x2.rein) :
    (State.attachCmd s tag sel ctrls f).rein = s.rein := by
  unfold State.attachCmd; (repeat' (first | (simp [h]; done) | (with_reducible refine State.begin_rein _ _ _ _ _ _ (fun y0 y1 => ?_)) | split | dsimp only | simp [h]))
@[simp] theorem State.attachCmd_dram (s : State) (tag : Nat) (sel : Nat) (ctrls : List Nat) (f : Nat → Namespace → State → State) (h : ∀ x0 x1 x2, (f x0 x1 x2).dram = x2.dram) :
    (State.attachCmd s tag sel ctrls f).dram = s.dram := by
  unfold State.attachCmd; (repeat' (first | (simp [h]; done) | (with_reducible refine State.begin_dram _ _ _ _ _ _ (fun y0 y1 => ?_)) | split | dsimp only | simp [h]))
@[simp] theorem State.attachCmd_dma (s : State) (tag : Nat) (sel : Nat) (ctrls : List Nat) (f : Nat → Namespace → State → State) (h : ∀ x0 x1 x2, (f x0 x1 x2).dma = x2.dma) :
    (State.attachCmd s tag sel ctrls f).dma = s.dma := by
  unfold State.attachCmd; (repeat' (first | (simp [h]; done) | (with_reducible refine State.begin_dma _ _ _ _ _ _ (fun y0 y1 => ?_)) | split | dsimp only | simp [h]))
@[simp] theorem State.attachCmd_therm (s : State) (tag : Nat) (sel : Nat) (ctrls : List Nat) (f : Nat → Namespace → State → State) (h : ∀ x0 x1 x2, (f x0 x1 x2).therm = x2.therm) :
    (State.attachCmd s tag sel ctrls f).therm = s.therm := by
  unfold State.attachCmd; (repeat' (first | (simp [h]; done) | (with_reducible refine State.begin_therm _ _ _ _ _ _ (fun y0 y1 => ?_)) | split | dsimp only | simp [h]))
@[simp] theorem State.attachCmd_img (s : State) (tag : Nat) (sel : Nat) (ctrls : List Nat) (f : Nat → Namespace → State → State) (h : ∀ x0 x1 x2, (f x0 x1 x2).img = x2.img) :
    (State.attachCmd s tag sel ctrls f).img = s.img := by
  unfold State.attachCmd; (repeat' (first | (simp [h]; done) | (with_reducible refine State.begin_img _ _ _ _ _ _ (fun y0 y1 => ?_)) | split | dsimp only | simp [h]))
@[simp] theorem State.attachCmd_awl (s : State) (tag : Nat) (sel : Nat) (ctrls : List Nat) (f : Nat → Namespace → State → State) (h : ∀ x0 x1 x2, (f x0 x1 x2).awl = x2.awl) :
    (State.attachCmd s tag sel ctrls f).awl = s.awl := by
  unfold State.attachCmd; (repeat' (first | (simp [h]; done) | (with_reducible refine State.begin_awl _ _ _ _ _ _ (fun y0 y1 => ?_)) | split | dsimp only | simp [h]))
@[simp] theorem State.attachCmd_codec (s : State) (tag : Nat) (sel : Nat) (ctrls : List Nat) (f : Nat → Namespace → State → State) (h : ∀ x0 x1 x2, (f x0 x1 x2).codec = x2.codec) :
    (State.attachCmd s tag sel ctrls f).codec = s.codec := by
  unfold State.attachCmd; (repeat' (first | (simp [h]; done) | (with_reducible refine State.begin_codec _ _ _ _ _ _ (fun y0 y1 => ?_)) | split | dsimp only | simp [h]))
@[simp] theorem State.attachCmd_map (s : State) (tag : Nat) (sel : Nat) (ctrls : List Nat) (f : Nat → Namespace → State → State) (h : ∀ x0 x1 x2, (f x0 x1 x2).map = x2.map) :
    (State.attachCmd s tag sel ctrls f).map = s.map := by
  unfold State.attachCmd; (repeat' (first | (simp [h]; done) | (with_reducible refine State.begin_map _ _ _ _ _ _ (fun y0 y1 => ?_)) | split | dsimp only | simp [h]))
@[simp] theorem State.attachCmd_blk (s : State) (tag : Nat) (sel : Nat) (ctrls : List Nat) (f : Nat → Namespace → State → State) (h : ∀ x0 x1 x2, (f x0 x1 x2).blk = x2.blk) :
    (State.attachCmd s tag sel ctrls f).blk = s.blk := by
  unfold State.attachCmd; (repeat' (first | (simp [h]; done) | (with_reducible refine State.begin_blk _ _ _ _ _ _ (fun y0 y1 => ?_)) | split | dsimp only | simp [h]))
@[simp] theorem State.attachCmd_girth (s : State) (tag : Nat) (sel : Nat) (ctrls : List Nat) (f : Nat → Namespace → State → State) (h : ∀ x0 x1 x2, (f x0 x1 x2).girth = x2.girth) :
    (State.attachCmd s tag sel ctrls f).girth = s.girth := by
  unfold State.attachCmd; (repeat' (first | (simp [h]; done) | (with_reducible refine State.begin_girth _ _ _ _ _ _ (fun y0 y1 => ?_)) | split | dsimp only | simp [h]))
@[simp] theorem State.attachCmd_wb (s : State) (tag : Nat) (sel : Nat) (ctrls : List Nat) (f : Nat → Namespace → State → State) (h : ∀ x0 x1 x2, (f x0 x1 x2).wb = x2.wb) :
    (State.attachCmd s tag sel ctrls f).wb = s.wb := by
  unfold State.attachCmd; (repeat' (first | (simp [h]; done) | (with_reducible refine State.begin_wb _ _ _ _ _ _ (fun y0 y1 => ?_)) | split | dsimp only | simp [h]))
@[simp] theorem State.attachCmd_dump (s : State) (tag : Nat) (sel : Nat) (ctrls : List Nat) (f : Nat → Namespace → State → State) (h : ∀ x0 x1 x2, (f x0 x1 x2).dump = x2.dump) :
    (State.attachCmd s tag sel ctrls f).dump = s.dump := by
  unfold State.attachCmd; (repeat' (first | (simp [h]; done) | (with_reducible refine State.begin_dump _ _ _ _ _ _ (fun y0 y1 => ?_)) | split | dsimp only | simp [h]))
@[simp] theorem State.attachCmd_cipher (s : State) (tag : Nat) (sel : Nat) (ctrls : List Nat) (f : Nat → Namespace → State → State) (h : ∀ x0 x1 x2, (f x0 x1 x2).cipher = x2.cipher) :
    (State.attachCmd s tag sel ctrls f).cipher = s.cipher := by
  unfold State.attachCmd; (repeat' (first | (simp [h]; done) | (with_reducible refine State.begin_cipher _ _ _ _ _ _ (fun y0 y1 => ?_)) | split | dsimp only | simp [h]))
@[simp] theorem State.attachCmd_skv (s : State) (tag : Nat) (sel : Nat) (ctrls : List Nat) (f : Nat → Namespace → State → State) (h : ∀ x0 x1 x2, (f x0 x1 x2).skv = x2.skv) :
    (State.attachCmd s tag sel ctrls f).skv = s.skv := by
  unfold State.attachCmd; (repeat' (first | (simp [h]; done) | (with_reducible refine State.begin_skv _ _ _ _ _ _ (fun y0 y1 => ?_)) | split | dsimp only | simp [h]))
@[simp] theorem State.attachCmd_mc (s : State) (tag : Nat) (sel : Nat) (ctrls : List Nat) (f : Nat → Namespace → State → State) (h : ∀ x0 x1 x2, (f x0 x1 x2).mc = x2.mc) :
    (State.attachCmd s tag sel ctrls f).mc = s.mc := by
  unfold State.attachCmd; (repeat' (first | (simp [h]; done) | (with_reducible refine State.begin_mc _ _ _ _ _ _ (fun y0 y1 => ?_)) | split | dsimp only | simp [h]))
@[simp] theorem State.attachCmd_media (s : State) (tag : Nat) (sel : Nat) (ctrls : List Nat) (f : Nat → Namespace → State → State) (h : ∀ x0 x1 x2, (f x0 x1 x2).media = x2.media) :
    (State.attachCmd s tag sel ctrls f).media = s.media := by
  unfold State.attachCmd; (repeat' (first | (simp [h]; done) | (with_reducible refine State.begin_media _ _ _ _ _ _ (fun y0 y1 => ?_)) | split | dsimp only | simp [h]))
@[simp] theorem State.attachCmd_wheel_pins (s : State) (tag : Nat) (sel : Nat) (ctrls : List Nat) (f : Nat → Namespace → State → State) (h : ∀ x0 x1 x2, (f x0 x1 x2).wheel.pins = x2.wheel.pins) :
    (State.attachCmd s tag sel ctrls f).wheel.pins = s.wheel.pins := by
  unfold State.attachCmd; (repeat' (first | (simp [h]; done) | (with_reducible refine State.begin_wheel_pins _ _ _ _ _ _ (fun y0 y1 => ?_)) | split | dsimp only | simp [h]))
@[simp] theorem State.setAttached_kept (s : State) (nsid : Nat) (n : Namespace) (xs : List Nat) :
    (State.setAttached s nsid n xs).pending = s.pending ∧ (State.setAttached s nsid n xs).wheel = s.wheel ∧ (State.setAttached s nsid n xs).plan = s.plan ∧ (State.setAttached s nsid n xs).rein = s.rein ∧ (State.setAttached s nsid n xs).dram = s.dram ∧ (State.setAttached s nsid n xs).dma = s.dma ∧ (State.setAttached s nsid n xs).therm = s.therm ∧ (State.setAttached s nsid n xs).img = s.img ∧ (State.setAttached s nsid n xs).awl = s.awl ∧ (State.setAttached s nsid n xs).codec = s.codec ∧ (State.setAttached s nsid n xs).map = s.map ∧ (State.setAttached s nsid n xs).blk = s.blk ∧ (State.setAttached s nsid n xs).girth = s.girth ∧ (State.setAttached s nsid n xs).wb = s.wb ∧ (State.setAttached s nsid n xs).dump = s.dump ∧ (State.setAttached s nsid n xs).cipher = s.cipher ∧ (State.setAttached s nsid n xs).skv = s.skv ∧ (State.setAttached s nsid n xs).mc = s.mc ∧ (State.setAttached s nsid n xs).media = s.media := by
  simp [State.setAttached]
theorem execNamespaceAttach_kept (tag : Nat) (ctrls : List Nat) (s : State) :
    ∃ t, execNamespaceAttach tag ctrls s = .next t ∧ t.pending = s.pending ∧ t.wheel = s.wheel ∧ t.plan = s.plan ∧ t.rein = s.rein ∧ t.dram = s.dram ∧ t.dma = s.dma ∧ t.therm = s.therm ∧ t.img = s.img ∧ t.awl = s.awl ∧ t.codec = s.codec ∧ t.map = s.map ∧ t.blk = s.blk ∧ t.girth = s.girth ∧ t.wb = s.wb ∧ t.dump = s.dump ∧ t.cipher = s.cipher ∧ t.skv = s.skv ∧ t.mc = s.mc ∧ t.media = s.media := by
  refine ⟨_, rfl, ?_⟩; simp
theorem execNamespaceDetach_kept (tag : Nat) (ctrls : List Nat) (s : State) :
    ∃ t, execNamespaceDetach tag ctrls s = .next t ∧ t.pending = s.pending ∧ t.wheel = s.wheel ∧ t.plan = s.plan ∧ t.rein = s.rein ∧ t.dram = s.dram ∧ t.dma = s.dma ∧ t.therm = s.therm ∧ t.img = s.img ∧ t.awl = s.awl ∧ t.codec = s.codec ∧ t.map = s.map ∧ t.blk = s.blk ∧ t.girth = s.girth ∧ t.wb = s.wb ∧ t.dump = s.dump ∧ t.cipher = s.cipher ∧ t.skv = s.skv ∧ t.mc = s.mc ∧ t.media = s.media := by
  refine ⟨_, rfl, ?_⟩; simp
@[simp] theorem State.beginTest_kept (s : State) (tag : Nat) (extended : Bool) :
    (State.beginTest s tag extended).pending = s.pending ∧ (State.beginTest s tag extended).wheel = s.wheel ∧ (State.beginTest s tag extended).plan = s.plan ∧ (State.beginTest s tag extended).rein = s.rein ∧ (State.beginTest s tag extended).dram = s.dram ∧ (State.beginTest s tag extended).dma = s.dma ∧ (State.beginTest s tag extended).therm = s.therm ∧ (State.beginTest s tag extended).img = s.img ∧ (State.beginTest s tag extended).awl = s.awl ∧ (State.beginTest s tag extended).codec = s.codec ∧ (State.beginTest s tag extended).map = s.map ∧ (State.beginTest s tag extended).blk = s.blk ∧ (State.beginTest s tag extended).girth = s.girth ∧ (State.beginTest s tag extended).wb = s.wb ∧ (State.beginTest s tag extended).dump = s.dump ∧ (State.beginTest s tag extended).cipher = s.cipher ∧ (State.beginTest s tag extended).skv = s.skv ∧ (State.beginTest s tag extended).mc = s.mc ∧ (State.beginTest s tag extended).media = s.media := by
  simp [State.beginTest]
theorem execSelfTestShort_kept (tag : Nat) (s : State) :
    ∃ t, execSelfTestShort tag s = .next t ∧ t.pending = s.pending ∧ t.wheel = s.wheel ∧ t.plan = s.plan ∧ t.rein = s.rein ∧ t.dram = s.dram ∧ t.dma = s.dma ∧ t.therm = s.therm ∧ t.img = s.img ∧ t.awl = s.awl ∧ t.codec = s.codec ∧ t.map = s.map ∧ t.blk = s.blk ∧ t.girth = s.girth ∧ t.wb = s.wb ∧ t.dump = s.dump ∧ t.cipher = s.cipher ∧ t.skv = s.skv ∧ t.mc = s.mc ∧ t.media = s.media := by
  refine ⟨_, rfl, ?_⟩; simp
theorem execSelfTestExtended_kept (tag : Nat) (s : State) :
    ∃ t, execSelfTestExtended tag s = .next t ∧ t.pending = s.pending ∧ t.wheel = s.wheel ∧ t.plan = s.plan ∧ t.rein = s.rein ∧ t.dram = s.dram ∧ t.dma = s.dma ∧ t.therm = s.therm ∧ t.img = s.img ∧ t.awl = s.awl ∧ t.codec = s.codec ∧ t.map = s.map ∧ t.blk = s.blk ∧ t.girth = s.girth ∧ t.wb = s.wb ∧ t.dump = s.dump ∧ t.cipher = s.cipher ∧ t.skv = s.skv ∧ t.mc = s.mc ∧ t.media = s.media := by
  refine ⟨_, rfl, ?_⟩; simp
theorem execSelfTestAbort_kept (tag : Nat) (s : State) :
    ∃ t, execSelfTestAbort tag s = .next t ∧ t.pending = s.pending ∧ t.wheel = s.wheel ∧ t.plan = s.plan ∧ t.rein = s.rein ∧ t.dram = s.dram ∧ t.dma = s.dma ∧ t.therm = s.therm ∧ t.img = s.img ∧ t.awl = s.awl ∧ t.codec = s.codec ∧ t.map = s.map ∧ t.blk = s.blk ∧ t.girth = s.girth ∧ t.wb = s.wb ∧ t.dump = s.dump ∧ t.cipher = s.cipher ∧ t.skv = s.skv ∧ t.mc = s.mc ∧ t.media = s.media := by
  refine ⟨_, rfl, ?_⟩; simp
@[simp] theorem State.setFormats_kept (s : State) (c : Cmd) (xs : Table Namespace) :
    (State.setFormats s c xs).pending = s.pending ∧ (State.setFormats s c xs).wheel = s.wheel ∧ (State.setFormats s c xs).plan = s.plan ∧ (State.setFormats s c xs).rein = s.rein ∧ (State.setFormats s c xs).dram = s.dram ∧ (State.setFormats s c xs).dma = s.dma ∧ (State.setFormats s c xs).therm = s.therm ∧ (State.setFormats s c xs).img = s.img ∧ (State.setFormats s c xs).awl = s.awl ∧ (State.setFormats s c xs).codec = s.codec ∧ (State.setFormats s c xs).map = s.map ∧ (State.setFormats s c xs).blk = s.blk ∧ (State.setFormats s c xs).girth = s.girth ∧ (State.setFormats s c xs).wb = s.wb ∧ (State.setFormats s c xs).dump = s.dump ∧ (State.setFormats s c xs).cipher = s.cipher ∧ (State.setFormats s c xs).skv = s.skv ∧ (State.setFormats s c xs).mc = s.mc ∧ (State.setFormats s c xs).media = s.media := by
  simp [State.setFormats]
@[simp] theorem State.formatCmd_pending (s : State) (tag : Nat) (c : Cmd) (f : Table Namespace → State → State) (h : ∀ x0 x1, (f x0 x1).pending = x1.pending) :
    (State.formatCmd s tag c f).pending = s.pending := by
  simp [State.formatCmd, h]
@[simp] theorem State.formatCmd_wheel (s : State) (tag : Nat) (c : Cmd) (f : Table Namespace → State → State) (h : ∀ x0 x1, (f x0 x1).wheel = x1.wheel) :
    (State.formatCmd s tag c f).wheel = s.wheel := by
  simp [State.formatCmd, h]
@[simp] theorem State.formatCmd_plan (s : State) (tag : Nat) (c : Cmd) (f : Table Namespace → State → State) (h : ∀ x0 x1, (f x0 x1).plan = x1.plan) :
    (State.formatCmd s tag c f).plan = s.plan := by
  simp [State.formatCmd, h]
@[simp] theorem State.formatCmd_rein (s : State) (tag : Nat) (c : Cmd) (f : Table Namespace → State → State) (h : ∀ x0 x1, (f x0 x1).rein = x1.rein) :
    (State.formatCmd s tag c f).rein = s.rein := by
  simp [State.formatCmd, h]
@[simp] theorem State.formatCmd_dram (s : State) (tag : Nat) (c : Cmd) (f : Table Namespace → State → State) (h : ∀ x0 x1, (f x0 x1).dram = x1.dram) :
    (State.formatCmd s tag c f).dram = s.dram := by
  simp [State.formatCmd, h]
@[simp] theorem State.formatCmd_dma (s : State) (tag : Nat) (c : Cmd) (f : Table Namespace → State → State) (h : ∀ x0 x1, (f x0 x1).dma = x1.dma) :
    (State.formatCmd s tag c f).dma = s.dma := by
  simp [State.formatCmd, h]
@[simp] theorem State.formatCmd_therm (s : State) (tag : Nat) (c : Cmd) (f : Table Namespace → State → State) (h : ∀ x0 x1, (f x0 x1).therm = x1.therm) :
    (State.formatCmd s tag c f).therm = s.therm := by
  simp [State.formatCmd, h]
@[simp] theorem State.formatCmd_img (s : State) (tag : Nat) (c : Cmd) (f : Table Namespace → State → State) (h : ∀ x0 x1, (f x0 x1).img = x1.img) :
    (State.formatCmd s tag c f).img = s.img := by
  simp [State.formatCmd, h]
@[simp] theorem State.formatCmd_awl (s : State) (tag : Nat) (c : Cmd) (f : Table Namespace → State → State) (h : ∀ x0 x1, (f x0 x1).awl = x1.awl) :
    (State.formatCmd s tag c f).awl = s.awl := by
  simp [State.formatCmd, h]
@[simp] theorem State.formatCmd_codec (s : State) (tag : Nat) (c : Cmd) (f : Table Namespace → State → State) (h : ∀ x0 x1, (f x0 x1).codec = x1.codec) :
    (State.formatCmd s tag c f).codec = s.codec := by
  simp [State.formatCmd, h]
@[simp] theorem State.formatCmd_map (s : State) (tag : Nat) (c : Cmd) (f : Table Namespace → State → State) (h : ∀ x0 x1, (f x0 x1).map = x1.map) :
    (State.formatCmd s tag c f).map = s.map := by
  simp [State.formatCmd, h]
@[simp] theorem State.formatCmd_blk (s : State) (tag : Nat) (c : Cmd) (f : Table Namespace → State → State) (h : ∀ x0 x1, (f x0 x1).blk = x1.blk) :
    (State.formatCmd s tag c f).blk = s.blk := by
  simp [State.formatCmd, h]
@[simp] theorem State.formatCmd_girth (s : State) (tag : Nat) (c : Cmd) (f : Table Namespace → State → State) (h : ∀ x0 x1, (f x0 x1).girth = x1.girth) :
    (State.formatCmd s tag c f).girth = s.girth := by
  simp [State.formatCmd, h]
@[simp] theorem State.formatCmd_wb (s : State) (tag : Nat) (c : Cmd) (f : Table Namespace → State → State) (h : ∀ x0 x1, (f x0 x1).wb = x1.wb) :
    (State.formatCmd s tag c f).wb = s.wb := by
  simp [State.formatCmd, h]
@[simp] theorem State.formatCmd_dump (s : State) (tag : Nat) (c : Cmd) (f : Table Namespace → State → State) (h : ∀ x0 x1, (f x0 x1).dump = x1.dump) :
    (State.formatCmd s tag c f).dump = s.dump := by
  simp [State.formatCmd, h]
@[simp] theorem State.formatCmd_cipher (s : State) (tag : Nat) (c : Cmd) (f : Table Namespace → State → State) (h : ∀ x0 x1, (f x0 x1).cipher = x1.cipher) :
    (State.formatCmd s tag c f).cipher = s.cipher := by
  simp [State.formatCmd, h]
@[simp] theorem State.formatCmd_skv (s : State) (tag : Nat) (c : Cmd) (f : Table Namespace → State → State) (h : ∀ x0 x1, (f x0 x1).skv = x1.skv) :
    (State.formatCmd s tag c f).skv = s.skv := by
  simp [State.formatCmd, h]
@[simp] theorem State.formatCmd_mc (s : State) (tag : Nat) (c : Cmd) (f : Table Namespace → State → State) (h : ∀ x0 x1, (f x0 x1).mc = x1.mc) :
    (State.formatCmd s tag c f).mc = s.mc := by
  simp [State.formatCmd, h]
@[simp] theorem State.formatCmd_media (s : State) (tag : Nat) (c : Cmd) (f : Table Namespace → State → State) (h : ∀ x0 x1, (f x0 x1).media = x1.media) :
    (State.formatCmd s tag c f).media = s.media := by
  simp [State.formatCmd, h]
@[simp] theorem State.formatCmd_wheel_pins (s : State) (tag : Nat) (c : Cmd) (f : Table Namespace → State → State) (h : ∀ x0 x1, (f x0 x1).wheel.pins = x1.wheel.pins) :
    (State.formatCmd s tag c f).wheel.pins = s.wheel.pins := by
  simp [State.formatCmd, h]
@[simp] theorem State.formatBegins_kept (s : State) (c : Cmd) (xs : Table Namespace) (r : CmdResult) :
    (State.formatBegins s c xs r).pending = s.pending ∧ (State.formatBegins s c xs r).wheel = s.wheel ∧ (State.formatBegins s c xs r).plan = s.plan ∧ (State.formatBegins s c xs r).rein = s.rein ∧ (State.formatBegins s c xs r).dram = s.dram ∧ (State.formatBegins s c xs r).dma = s.dma ∧ (State.formatBegins s c xs r).therm = s.therm ∧ (State.formatBegins s c xs r).img = s.img := by
  simp [State.formatBegins]
theorem execFormatNvmErase_kept (tag : Nat) (s : State) :
    ∃ t, execFormatNvmErase tag s = .next t ∧ t.pending = s.pending ∧ t.wheel = s.wheel ∧ t.plan = s.plan ∧ t.rein = s.rein ∧ t.dram = s.dram ∧ t.dma = s.dma ∧ t.therm = s.therm ∧ t.img = s.img := by
  refine ⟨_, rfl, ?_⟩; simp
@[simp] theorem State.freshSlot_kept (s : State) (slot : Nat) (again : Option (BitVec 256)) :
    (State.freshSlot s slot again).pending = s.pending ∧ (State.freshSlot s slot again).wheel = s.wheel ∧ (State.freshSlot s slot again).plan = s.plan ∧ (State.freshSlot s slot again).rein = s.rein ∧ (State.freshSlot s slot again).dram = s.dram ∧ (State.freshSlot s slot again).dma = s.dma ∧ (State.freshSlot s slot again).therm = s.therm ∧ (State.freshSlot s slot again).img = s.img := by
  simp [State.freshSlot]
theorem execFormatNvmCrypto_kept (tag : Nat) (s : State) :
    ∃ t, execFormatNvmCrypto tag s = .next t ∧ t.pending = s.pending ∧ t.wheel = s.wheel ∧ t.plan = s.plan ∧ t.rein = s.rein ∧ t.dram = s.dram ∧ t.dma = s.dma ∧ t.therm = s.therm ∧ t.img = s.img := by
  refine ⟨_, rfl, ?_⟩; simp
@[simp] theorem State.beginSanitize_pending (s : State) (tag : Nat) (act : Nat) (r : CmdResult) (f : State → State) (h : ∀ x0, (f x0).pending = x0.pending) :
    (State.beginSanitize s tag act r f).pending = s.pending := by
  simp [State.beginSanitize, h]
@[simp] theorem State.beginSanitize_wheel (s : State) (tag : Nat) (act : Nat) (r : CmdResult) (f : State → State) (h : ∀ x0, (f x0).wheel = x0.wheel) :
    (State.beginSanitize s tag act r f).wheel = s.wheel := by
  simp [State.beginSanitize, h]
@[simp] theorem State.beginSanitize_plan (s : State) (tag : Nat) (act : Nat) (r : CmdResult) (f : State → State) (h : ∀ x0, (f x0).plan = x0.plan) :
    (State.beginSanitize s tag act r f).plan = s.plan := by
  simp [State.beginSanitize, h]
@[simp] theorem State.beginSanitize_rein (s : State) (tag : Nat) (act : Nat) (r : CmdResult) (f : State → State) (h : ∀ x0, (f x0).rein = x0.rein) :
    (State.beginSanitize s tag act r f).rein = s.rein := by
  simp [State.beginSanitize, h]
@[simp] theorem State.beginSanitize_dram (s : State) (tag : Nat) (act : Nat) (r : CmdResult) (f : State → State) (h : ∀ x0, (f x0).dram = x0.dram) :
    (State.beginSanitize s tag act r f).dram = s.dram := by
  simp [State.beginSanitize, h]
@[simp] theorem State.beginSanitize_dma (s : State) (tag : Nat) (act : Nat) (r : CmdResult) (f : State → State) (h : ∀ x0, (f x0).dma = x0.dma) :
    (State.beginSanitize s tag act r f).dma = s.dma := by
  simp [State.beginSanitize, h]
@[simp] theorem State.beginSanitize_therm (s : State) (tag : Nat) (act : Nat) (r : CmdResult) (f : State → State) (h : ∀ x0, (f x0).therm = x0.therm) :
    (State.beginSanitize s tag act r f).therm = s.therm := by
  simp [State.beginSanitize, h]
@[simp] theorem State.beginSanitize_img (s : State) (tag : Nat) (act : Nat) (r : CmdResult) (f : State → State) (h : ∀ x0, (f x0).img = x0.img) :
    (State.beginSanitize s tag act r f).img = s.img := by
  simp [State.beginSanitize, h]
@[simp] theorem State.beginSanitize_wheel_pins (s : State) (tag : Nat) (act : Nat) (r : CmdResult) (f : State → State) (h : ∀ x0, (f x0).wheel.pins = x0.wheel.pins) :
    (State.beginSanitize s tag act r f).wheel.pins = s.wheel.pins := by
  simp [State.beginSanitize, h]
theorem execSanitizeBlockErase_kept (tag : Nat) (s : State) :
    ∃ t, execSanitizeBlockErase tag s = .next t ∧ t.pending = s.pending ∧ t.wheel = s.wheel ∧ t.plan = s.plan ∧ t.rein = s.rein ∧ t.dram = s.dram ∧ t.dma = s.dma ∧ t.therm = s.therm ∧ t.img = s.img := by
  refine ⟨_, rfl, ?_⟩; simp
@[simp] theorem State.dropRoot_kept (s : State) :
    (State.dropRoot s).pending = s.pending ∧ (State.dropRoot s).wheel = s.wheel ∧ (State.dropRoot s).plan = s.plan ∧ (State.dropRoot s).rein = s.rein ∧ (State.dropRoot s).dram = s.dram ∧ (State.dropRoot s).dma = s.dma ∧ (State.dropRoot s).therm = s.therm ∧ (State.dropRoot s).img = s.img := by
  simp [State.dropRoot]
theorem execSanitizeCryptoErase_kept (tag : Nat) (s : State) :
    ∃ t, execSanitizeCryptoErase tag s = .next t ∧ t.pending = s.pending ∧ t.wheel = s.wheel ∧ t.plan = s.plan ∧ t.rein = s.rein ∧ t.dram = s.dram ∧ t.dma = s.dma ∧ t.therm = s.therm ∧ t.img = s.img := by
  refine ⟨_, rfl, ?_⟩; simp
theorem execSanitizeExitFailure_kept (tag : Nat) (s : State) :
    ∃ t, execSanitizeExitFailure tag s = .next t ∧ t.pending = s.pending ∧ t.wheel = s.wheel ∧ t.plan = s.plan ∧ t.rein = s.rein ∧ t.dram = s.dram ∧ t.dma = s.dma ∧ t.therm = s.therm ∧ t.img = s.img ∧ t.awl = s.awl ∧ t.codec = s.codec ∧ t.map = s.map ∧ t.blk = s.blk ∧ t.girth = s.girth ∧ t.wb = s.wb ∧ t.dump = s.dump ∧ t.cipher = s.cipher ∧ t.skv = s.skv ∧ t.mc = s.mc ∧ t.media = s.media := by
  refine ⟨_, rfl, ?_⟩; simp
theorem execSanitizeOverwrite_kept (tag : Nat) (s : State) :
    ∃ t, execSanitizeOverwrite tag s = .next t ∧ t.pending = s.pending ∧ t.wheel = s.wheel ∧ t.plan = s.plan ∧ t.rein = s.rein ∧ t.dram = s.dram ∧ t.dma = s.dma ∧ t.therm = s.therm ∧ t.img = s.img ∧ t.awl = s.awl ∧ t.codec = s.codec ∧ t.map = s.map ∧ t.blk = s.blk ∧ t.girth = s.girth ∧ t.wb = s.wb ∧ t.dump = s.dump ∧ t.cipher = s.cipher ∧ t.skv = s.skv ∧ t.mc = s.mc ∧ t.media = s.media := by
  refine ⟨_, rfl, ?_⟩; simp
theorem execGetLbaStatus_kept (tag : Nat) (s : State) :
    ∃ t, execGetLbaStatus tag s = .next t ∧ t.pending = s.pending ∧ t.wheel = s.wheel ∧ t.plan = s.plan ∧ t.rein = s.rein ∧ t.dram = s.dram ∧ t.dma = s.dma ∧ t.therm = s.therm ∧ t.img = s.img ∧ t.awl = s.awl ∧ t.codec = s.codec ∧ t.map = s.map ∧ t.blk = s.blk ∧ t.girth = s.girth ∧ t.wb = s.wb ∧ t.dump = s.dump ∧ t.cipher = s.cipher ∧ t.skv = s.skv ∧ t.mc = s.mc ∧ t.media = s.media := by
  unfold execGetLbaStatus; (repeat' (first | (refine ⟨_, rfl, ?_, ?_, ?_, ?_, ?_, ?_, ?_, ?_, ?_, ?_, ?_, ?_, ?_, ?_, ?_, ?_, ?_, ?_, ?_⟩ <;> (repeat' (first | (simp; done) | (with_reducible refine State.begin_pending _ _ _ _ _ _ (fun y0 y1 => ?_)) | (with_reducible refine State.begin_wheel _ _ _ _ _ _ (fun y0 y1 => ?_)) | (with_reducible refine State.begin_plan _ _ _ _ _ _ (fun y0 y1 => ?_)) | (with_reducible refine State.begin_rein _ _ _ _ _ _ (fun y0 y1 => ?_)) | (with_reducible refine State.begin_dram _ _ _ _ _ _ (fun y0 y1 => ?_)) | (with_reducible refine State.begin_dma _ _ _ _ _ _ (fun y0 y1 => ?_)) | (with_reducible refine State.begin_therm _ _ _ _ _ _ (fun y0 y1 => ?_)) | (with_reducible refine State.begin_img _ _ _ _ _ _ (fun y0 y1 => ?_)) | (with_reducible refine State.begin_awl _ _ _ _ _ _ (fun y0 y1 => ?_)) | (with_reducible refine State.begin_codec _ _ _ _ _ _ (fun y0 y1 => ?_)) | (with_reducible refine State.begin_map _ _ _ _ _ _ (fun y0 y1 => ?_)) | (with_reducible refine State.begin_blk _ _ _ _ _ _ (fun y0 y1 => ?_)) | (with_reducible refine State.begin_girth _ _ _ _ _ _ (fun y0 y1 => ?_)) | (with_reducible refine State.begin_wb _ _ _ _ _ _ (fun y0 y1 => ?_)) | (with_reducible refine State.begin_dump _ _ _ _ _ _ (fun y0 y1 => ?_)) | (with_reducible refine State.begin_cipher _ _ _ _ _ _ (fun y0 y1 => ?_)) | (with_reducible refine State.begin_skv _ _ _ _ _ _ (fun y0 y1 => ?_)) | (with_reducible refine State.begin_mc _ _ _ _ _ _ (fun y0 y1 => ?_)) | (with_reducible refine State.begin_media _ _ _ _ _ _ (fun y0 y1 => ?_)) | split | dsimp only | simp)); done) | split | dsimp only))

end Sys2Proof.Machine
end

