-- ==== Sys2Proof/Laws/KeptFaults.lean ====
section
/-! SUPPORT. What each function of Sys2Proof/Machine/Faults.lean leaves unchanged: one lemma a function. -/
set_option linter.unusedTactic false
set_option linter.unreachableTactic false
set_option linter.unusedSimpArgs false
namespace Sys2Proof.Machine

@[simp] theorem State.fatalCmd_kept (s : State) (tag : Nat) :
    (State.fatalCmd s tag).pending = s.pending ∧ (State.fatalCmd s tag).wheel = s.wheel ∧ (State.fatalCmd s tag).plan = s.plan ∧ (State.fatalCmd s tag).rein = s.rein ∧ (State.fatalCmd s tag).dram = s.dram ∧ (State.fatalCmd s tag).dma = s.dma ∧ (State.fatalCmd s tag).therm = s.therm ∧ (State.fatalCmd s tag).img = s.img := by
  unfold State.fatalCmd; (repeat' split) <;> simp
@[simp] theorem State.beginFatal_kept (s : State) (r : Report) :
    (State.beginFatal s r).pending = s.pending ∧ (State.beginFatal s r).therm = s.therm ∧ (State.beginFatal s r).img = s.img ∧ (State.beginFatal s r).wheel.pins = s.wheel.pins := by
  unfold State.beginFatal; refine ⟨?_, ?_, ?_, ?_⟩ <;> (repeat' (first | (simp; done) | split | dsimp only | simp))
@[simp] theorem State.takeReport_kept (s : State) :
    (State.takeReport s).pending = s.pending ∧ (State.takeReport s).therm = s.therm ∧ (State.takeReport s).img = s.img ∧ (State.takeReport s).wheel.pins = s.wheel.pins := by
  unfold State.takeReport; split <;> simp
@[simp] theorem State.reportStep_kept (s : State) (r : Report) (step : Nat) :
    (State.reportStep s r step).pending = s.pending ∧ (State.reportStep s r step).wheel = s.wheel ∧ (State.reportStep s r step).plan = s.plan ∧ (State.reportStep s r step).rein = s.rein ∧ (State.reportStep s r step).dram = s.dram ∧ (State.reportStep s r step).dma = s.dma ∧ (State.reportStep s r step).therm = s.therm ∧ (State.reportStep s r step).img = s.img ∧ (State.reportStep s r step).awl = s.awl ∧ (State.reportStep s r step).codec = s.codec ∧ (State.reportStep s r step).map = s.map ∧ (State.reportStep s r step).blk = s.blk ∧ (State.reportStep s r step).girth = s.girth ∧ (State.reportStep s r step).wb = s.wb ∧ (State.reportStep s r step).dump = s.dump ∧ (State.reportStep s r step).cipher = s.cipher ∧ (State.reportStep s r step).skv = s.skv ∧ (State.reportStep s r step).mc = s.mc ∧ (State.reportStep s r step).media = s.media := by
  unfold State.reportStep; split <;> simp
@[simp] theorem State.reportEnds_kept (s : State) (r : Report) :
    (State.reportEnds s r).pending = s.pending ∧ (State.reportEnds s r).therm = s.therm ∧ (State.reportEnds s r).img = s.img ∧ (State.reportEnds s r).wheel.pins = s.wheel.pins := by
  simp [State.reportEnds]
theorem execFaultStepDone_kept (s : State) :
    ∃ t, execFaultStepDone s = .next t ∧ t.pending = s.pending ∧ t.therm = s.therm ∧ t.img = s.img ∧ t.wheel.pins = s.wheel.pins := by
  unfold execFaultStepDone; dsimp only; (repeat' split) <;> (refine ⟨_, rfl, ?_⟩; simp)
@[simp] theorem State.loseReport_kept (s : State) (r : Report) :
    (State.loseReport s r).pending = s.pending ∧ (State.loseReport s r).therm = s.therm ∧ (State.loseReport s r).img = s.img ∧ (State.loseReport s r).wheel.pins = s.wheel.pins := by
  simp [State.loseReport]
@[simp] theorem State.queueReport_kept (s : State) (r : Report) :
    (State.queueReport s r).pending = s.pending ∧ (State.queueReport s r).therm = s.therm ∧ (State.queueReport s r).img = s.img ∧ (State.queueReport s r).wheel.pins = s.wheel.pins := by
  unfold State.queueReport; refine ⟨?_, ?_, ?_, ?_⟩ <;> (repeat' (first | (simp; done) | split | dsimp only | simp))
@[simp] theorem State.arrive_kept (s : State) (r : Report) :
    (State.arrive s r).pending = s.pending ∧ (State.arrive s r).therm = s.therm ∧ (State.arrive s r).img = s.img ∧ (State.arrive s r).wheel.pins = s.wheel.pins := by
  unfold State.arrive; refine ⟨?_, ?_, ?_, ?_⟩ <;> (repeat' (first | (simp; done) | split | dsimp only | simp))
theorem execFaultReport_kept (code : Nat) (sev : Nat) (s : State) :
    ∃ t, execFaultReport code sev s = .next t ∧ t.pending = s.pending ∧ t.therm = s.therm := by
  unfold execFaultReport; dsimp only; (repeat' split) <;> (refine ⟨_, rfl, ?_⟩; simp)
theorem execFatalCompletionsWritten_kept (s : State) :
    ∃ t, execFatalCompletionsWritten s = .next t ∧ t.pending = s.pending ∧ t.therm = s.therm ∧ t.img = s.img ∧ t.wheel.pins = s.wheel.pins := by
  unfold execFatalCompletionsWritten; (repeat' split) <;> (refine ⟨_, rfl, ?_⟩; simp)
theorem execCrystalStopDetect_kept (s : State) :
    ∃ t, execCrystalStopDetect s = .next t ∧ t.pending = s.pending ∧ t.therm = s.therm ∧ t.img = s.img ∧ t.wheel.pins = s.wheel.pins := by
  unfold execCrystalStopDetect; (repeat' split) <;> (refine ⟨_, rfl, ?_⟩; simp)
theorem execMainDomainStall_kept (s : State) :
    ∃ t, execMainDomainStall s = .next t ∧ t.pending = s.pending ∧ t.therm = s.therm ∧ t.img = s.img ∧ t.wheel.pins = s.wheel.pins := by
  unfold execMainDomainStall; (repeat' split) <;> (refine ⟨_, rfl, ?_⟩; simp)
theorem execVddIoFall_kept (s : State) :
    ∃ t, execVddIoFall s = .next t ∧ t.pending = s.pending := by
  unfold execVddIoFall; (repeat' split) <;> (refine ⟨_, rfl, ?_⟩; simp)

end Sys2Proof.Machine
end

