-- ==== Sys2Proof/Laws/KeptFlash.lean ====
section
/-! SUPPORT. What each function of Sys2Proof/Machine/Flash.lean leaves unchanged: one lemma a function. -/
set_option linter.unusedTactic false
set_option linter.unreachableTactic false
set_option linter.unusedSimpArgs false
namespace Sys2Proof.Machine

theorem execHrqEntry_kept (die : Nat) (s : State) :
    ∃ t, execHrqEntry die s = .next t ∧ t.pending = s.pending ∧ t.wheel = s.wheel ∧ t.plan = s.plan ∧ t.rein = s.rein ∧ t.dram = s.dram ∧ t.dma = s.dma ∧ t.therm = s.therm ∧ t.img = s.img := by
  unfold execHrqEntry; dsimp only; (repeat' split) <;> (refine ⟨_, rfl, ?_⟩; simp)
theorem execSuspendLatencyDone_kept (die : Nat) (s : State) :
    ∃ t, execSuspendLatencyDone die s = .next t ∧ t.pending = s.pending ∧ t.wheel = s.wheel ∧ t.plan = s.plan ∧ t.rein = s.rein ∧ t.dram = s.dram ∧ t.dma = s.dma ∧ t.therm = s.therm ∧ t.img = s.img := by
  unfold execSuspendLatencyDone; (repeat' split) <;> (refine ⟨_, rfl, ?_⟩; simp)
theorem execArrayReadDone_kept (die : Nat) (read : Nat) (s : State) :
    ∃ t, execArrayReadDone die read s = .next t ∧ t.pending = s.pending ∧ t.wheel = s.wheel ∧ t.plan = s.plan ∧ t.rein = s.rein ∧ t.dram = s.dram ∧ t.dma = s.dma ∧ t.therm = s.therm ∧ t.img = s.img := by
  unfold execArrayReadDone; (repeat' split) <;> (refine ⟨_, rfl, ?_⟩; simp)
theorem execFrameDataOutDone_kept (die : Nat) (read : Nat) (s : State) :
    ∃ t, execFrameDataOutDone die read s = .next t ∧ t.pending = s.pending ∧ t.wheel = s.wheel ∧ t.plan = s.plan ∧ t.rein = s.rein ∧ t.dram = s.dram ∧ t.dma = s.dma ∧ t.therm = s.therm ∧ t.img = s.img := by
  unfold execFrameDataOutDone; (repeat' split) <;> (refine ⟨_, rfl, ?_⟩; simp)
theorem execDataInPageDone_kept (die : Nat) (s : State) :
    ∃ t, execDataInPageDone die s = .next t ∧ t.pending = s.pending ∧ t.wheel = s.wheel ∧ t.plan = s.plan ∧ t.rein = s.rein ∧ t.dram = s.dram ∧ t.dma = s.dma ∧ t.therm = s.therm ∧ t.img = s.img := by
  unfold execDataInPageDone; dsimp only; (repeat' split) <;> (refine ⟨_, rfl, ?_⟩; simp)
@[simp] theorem State.poll_kept (s : State) (die : Nat) :
    (State.poll s die).pending = s.pending ∧ (State.poll s die).wheel = s.wheel ∧ (State.poll s die).plan = s.plan ∧ (State.poll s die).rein = s.rein ∧ (State.poll s die).dram = s.dram ∧ (State.poll s die).dma = s.dma ∧ (State.poll s die).therm = s.therm ∧ (State.poll s die).img = s.img := by
  simp [State.poll]
theorem execStatusPoll_kept (die : Nat) (ready : Bool) (failPlanes : List Nat) (writeProtected : Bool) (s : State) :
    ∃ t, execStatusPoll die ready failPlanes writeProtected s = .next t ∧ t.pending = s.pending ∧ t.wheel = s.wheel ∧ t.plan = s.plan ∧ t.rein = s.rein ∧ t.dram = s.dram ∧ t.dma = s.dma ∧ t.therm = s.therm ∧ t.img = s.img := by
  unfold execStatusPoll; (repeat' split) <;> (refine ⟨_, rfl, ?_⟩; simp)
theorem execOperationTimeout_kept (die : Nat) (s : State) :
    ∃ t, execOperationTimeout die s = .next t ∧ t.pending = s.pending ∧ t.wheel = s.wheel ∧ t.plan = s.plan ∧ t.rein = s.rein ∧ t.dram = s.dram ∧ t.dma = s.dma ∧ t.therm = s.therm ∧ t.img = s.img := by
  unfold execOperationTimeout; (repeat' split) <;> (refine ⟨_, rfl, ?_⟩; simp)
theorem execResetLunDone_kept (die : Nat) (ready : Bool) (s : State) :
    ∃ t, execResetLunDone die ready s = .next t ∧ t.pending = s.pending ∧ t.wheel = s.wheel ∧ t.plan = s.plan ∧ t.rein = s.rein ∧ t.dram = s.dram ∧ t.dma = s.dma ∧ t.therm = s.therm ∧ t.img = s.img := by
  unfold execResetLunDone; (repeat' split) <;> (refine ⟨_, rfl, ?_⟩; simp)
theorem execZqCalShort_kept (ch : Nat) (target : Nat) (passed : Bool) (s : State) :
    ∃ t, execZqCalShort ch target passed s = .next t ∧ t.pending = s.pending ∧ t.wheel = s.wheel ∧ t.plan = s.plan ∧ t.rein = s.rein ∧ t.dram = s.dram ∧ t.dma = s.dma ∧ t.therm = s.therm ∧ t.img = s.img := by
  unfold execZqCalShort; dsimp only; (repeat' split) <;> (refine ⟨_, rfl, ?_⟩; simp)
theorem execFrameDecodeDone_kept (job : Nat) (converged : Bool) (corrected : Nat) (s : State) :
    ∃ t, execFrameDecodeDone job converged corrected s = .next t ∧ t.pending = s.pending ∧ t.wheel = s.wheel ∧ t.plan = s.plan ∧ t.rein = s.rein ∧ t.dram = s.dram ∧ t.dma = s.dma ∧ t.therm = s.therm ∧ t.img = s.img := by
  unfold execFrameDecodeDone; (repeat' split) <;> (refine ⟨_, rfl, ?_⟩; simp)
@[simp] theorem State.startRecal_kept (s : State) (g : Nat) (hinted : Option Nat) :
    (State.startRecal s g hinted).pending = s.pending ∧ (State.startRecal s g hinted).wheel = s.wheel ∧ (State.startRecal s g hinted).plan = s.plan ∧ (State.startRecal s g hinted).rein = s.rein ∧ (State.startRecal s g hinted).dram = s.dram ∧ (State.startRecal s g hinted).dma = s.dma ∧ (State.startRecal s g hinted).therm = s.therm ∧ (State.startRecal s g hinted).img = s.img := by
  unfold State.startRecal; split <;> simp
theorem execRecalStart_kept (s : State) :
    ∃ t, execRecalStart s = .next t ∧ t.pending = s.pending ∧ t.wheel = s.wheel ∧ t.plan = s.plan ∧ t.rein = s.rein ∧ t.dram = s.dram ∧ t.dma = s.dma ∧ t.therm = s.therm ∧ t.img = s.img := by
  unfold execRecalStart; dsimp only; (repeat' split) <;> (refine ⟨_, rfl, ?_⟩; simp)
@[simp] theorem State.sampleBlock_kept (s : State) (g : Nat) (b : Nat) :
    (State.sampleBlock s g b).pending = s.pending ∧ (State.sampleBlock s g b).wheel = s.wheel ∧ (State.sampleBlock s g b).plan = s.plan ∧ (State.sampleBlock s g b).rein = s.rein ∧ (State.sampleBlock s g b).dram = s.dram ∧ (State.sampleBlock s g b).dma = s.dma ∧ (State.sampleBlock s g b).therm = s.therm ∧ (State.sampleBlock s g b).img = s.img := by
  simp [State.sampleBlock]
@[simp] theorem State.nextGroup_kept (s : State) :
    (State.nextGroup s).2.pending = s.pending ∧ (State.nextGroup s).2.wheel = s.wheel ∧ (State.nextGroup s).2.plan = s.plan ∧ (State.nextGroup s).2.rein = s.rein ∧ (State.nextGroup s).2.dram = s.dram ∧ (State.nextGroup s).2.dma = s.dma ∧ (State.nextGroup s).2.therm = s.therm ∧ (State.nextGroup s).2.img = s.img := by
  unfold State.nextGroup; split <;> simp
theorem State.nextGroup_fwd {s : State} {z : _} {z2 : State} (hz : State.nextGroup s = (z, z2)) : z2.pending = s.pending ∧ z2.wheel = s.wheel ∧ z2.plan = s.plan ∧ z2.rein = s.rein ∧ z2.dram = s.dram ∧ z2.dma = s.dma ∧ z2.therm = s.therm ∧ z2.img = s.img := by
  have h := State.nextGroup_kept s
  rw [hz] at h; exact h
@[simp] theorem State.visitGroup_kept (s : State) (g : Nat) :
    (State.visitGroup s g).pending = s.pending ∧ (State.visitGroup s g).wheel = s.wheel ∧ (State.visitGroup s g).plan = s.plan ∧ (State.visitGroup s g).rein = s.rein ∧ (State.visitGroup s g).dram = s.dram ∧ (State.visitGroup s g).dma = s.dma ∧ (State.visitGroup s g).therm = s.therm ∧ (State.visitGroup s g).img = s.img := by
  simp [State.visitGroup]
theorem execPatrolVisit_kept (s : State) :
    ∃ t, execPatrolVisit s = .next t ∧ t.pending = s.pending ∧ t.wheel = s.wheel ∧ t.plan = s.plan ∧ t.rein = s.rein ∧ t.dram = s.dram ∧ t.dma = s.dma ∧ t.therm = s.therm ∧ t.img = s.img := by
  unfold execPatrolVisit; dsimp only; (repeat' split) <;> (refine ⟨_, rfl, ?_⟩; simp)
theorem execReconstructDone_kept (job : Nat) (s : State) :
    ∃ t, execReconstructDone job s = .next t ∧ t.pending = s.pending ∧ t.wheel = s.wheel ∧ t.plan = s.plan ∧ t.rein = s.rein ∧ t.dram = s.dram ∧ t.dma = s.dma ∧ t.therm = s.therm ∧ t.img = s.img := by
  unfold execReconstructDone; (repeat' split) <;> (refine ⟨_, rfl, ?_⟩; simp)

end Sys2Proof.Machine
end

