-- ==== Sys2Proof/Laws/KeptPackage.lean ====
section
/-! SUPPORT. What each function of Sys2Proof/Machine/Package.lean leaves unchanged: one lemma a function. -/
set_option linter.unusedTactic false
set_option linter.unreachableTactic false
set_option linter.unusedSimpArgs false
namespace Sys2Proof.Machine

@[simp] theorem State.jtagLoad_kept (s : State) (i : JtagInstr) (out : List Bool) :
    (State.jtagLoad s i out).pending = s.pending ∧ (State.jtagLoad s i out).wheel = s.wheel ∧ (State.jtagLoad s i out).plan = s.plan ∧ (State.jtagLoad s i out).rein = s.rein ∧ (State.jtagLoad s i out).dram = s.dram ∧ (State.jtagLoad s i out).dma = s.dma ∧ (State.jtagLoad s i out).therm = s.therm ∧ (State.jtagLoad s i out).img = s.img := by
  simp [State.jtagLoad]
@[simp] theorem State.jtagStep_pending (s : State) (f : State → State) (h : ∀ x0, (f x0).pending = x0.pending) :
    (State.jtagStep s f).pending = s.pending := by
  simp [State.jtagStep, h]
@[simp] theorem State.jtagStep_wheel (s : State) (f : State → State) (h : ∀ x0, (f x0).wheel = x0.wheel) :
    (State.jtagStep s f).wheel = s.wheel := by
  simp [State.jtagStep, h]
@[simp] theorem State.jtagStep_plan (s : State) (f : State → State) (h : ∀ x0, (f x0).plan = x0.plan) :
    (State.jtagStep s f).plan = s.plan := by
  simp [State.jtagStep, h]
@[simp] theorem State.jtagStep_rein (s : State) (f : State → State) (h : ∀ x0, (f x0).rein = x0.rein) :
    (State.jtagStep s f).rein = s.rein := by
  simp [State.jtagStep, h]
@[simp] theorem State.jtagStep_dram (s : State) (f : State → State) (h : ∀ x0, (f x0).dram = x0.dram) :
    (State.jtagStep s f).dram = s.dram := by
  simp [State.jtagStep, h]
@[simp] theorem State.jtagStep_dma (s : State) (f : State → State) (h : ∀ x0, (f x0).dma = x0.dma) :
    (State.jtagStep s f).dma = s.dma := by
  simp [State.jtagStep, h]
@[simp] theorem State.jtagStep_therm (s : State) (f : State → State) (h : ∀ x0, (f x0).therm = x0.therm) :
    (State.jtagStep s f).therm = s.therm := by
  simp [State.jtagStep, h]
@[simp] theorem State.jtagStep_img (s : State) (f : State → State) (h : ∀ x0, (f x0).img = x0.img) :
    (State.jtagStep s f).img = s.img := by
  simp [State.jtagStep, h]
@[simp] theorem State.jtagStep_awl (s : State) (f : State → State) (h : ∀ x0, (f x0).awl = x0.awl) :
    (State.jtagStep s f).awl = s.awl := by
  simp [State.jtagStep, h]
@[simp] theorem State.jtagStep_codec (s : State) (f : State → State) (h : ∀ x0, (f x0).codec = x0.codec) :
    (State.jtagStep s f).codec = s.codec := by
  simp [State.jtagStep, h]
@[simp] theorem State.jtagStep_map (s : State) (f : State → State) (h : ∀ x0, (f x0).map = x0.map) :
    (State.jtagStep s f).map = s.map := by
  simp [State.jtagStep, h]
@[simp] theorem State.jtagStep_blk (s : State) (f : State → State) (h : ∀ x0, (f x0).blk = x0.blk) :
    (State.jtagStep s f).blk = s.blk := by
  simp [State.jtagStep, h]
@[simp] theorem State.jtagStep_girth (s : State) (f : State → State) (h : ∀ x0, (f x0).girth = x0.girth) :
    (State.jtagStep s f).girth = s.girth := by
  simp [State.jtagStep, h]
@[simp] theorem State.jtagStep_wb (s : State) (f : State → State) (h : ∀ x0, (f x0).wb = x0.wb) :
    (State.jtagStep s f).wb = s.wb := by
  simp [State.jtagStep, h]
@[simp] theorem State.jtagStep_dump (s : State) (f : State → State) (h : ∀ x0, (f x0).dump = x0.dump) :
    (State.jtagStep s f).dump = s.dump := by
  simp [State.jtagStep, h]
@[simp] theorem State.jtagStep_cipher (s : State) (f : State → State) (h : ∀ x0, (f x0).cipher = x0.cipher) :
    (State.jtagStep s f).cipher = s.cipher := by
  simp [State.jtagStep, h]
@[simp] theorem State.jtagStep_skv (s : State) (f : State → State) (h : ∀ x0, (f x0).skv = x0.skv) :
    (State.jtagStep s f).skv = s.skv := by
  simp [State.jtagStep, h]
@[simp] theorem State.jtagStep_mc (s : State) (f : State → State) (h : ∀ x0, (f x0).mc = x0.mc) :
    (State.jtagStep s f).mc = s.mc := by
  simp [State.jtagStep, h]
@[simp] theorem State.jtagStep_media (s : State) (f : State → State) (h : ∀ x0, (f x0).media = x0.media) :
    (State.jtagStep s f).media = s.media := by
  simp [State.jtagStep, h]
@[simp] theorem State.jtagStep_wheel_pins (s : State) (f : State → State) (h : ∀ x0, (f x0).wheel.pins = x0.wheel.pins) :
    (State.jtagStep s f).wheel.pins = s.wheel.pins := by
  simp [State.jtagStep, h]
theorem execJtagTapReset_kept (s : State) :
    ∃ t, execJtagTapReset s = .next t ∧ t.pending = s.pending ∧ t.wheel = s.wheel ∧ t.plan = s.plan ∧ t.rein = s.rein ∧ t.dram = s.dram ∧ t.dma = s.dma ∧ t.therm = s.therm ∧ t.img = s.img := by
  refine ⟨_, rfl, ?_⟩; simp
theorem execJtagBypass_kept (s : State) :
    ∃ t, execJtagBypass s = .next t ∧ t.pending = s.pending ∧ t.wheel = s.wheel ∧ t.plan = s.plan ∧ t.rein = s.rein ∧ t.dram = s.dram ∧ t.dma = s.dma ∧ t.therm = s.therm ∧ t.img = s.img := by
  refine ⟨_, rfl, ?_⟩; simp
theorem execJtagIdcode_kept (s : State) :
    ∃ t, execJtagIdcode s = .next t ∧ t.pending = s.pending ∧ t.wheel = s.wheel ∧ t.plan = s.plan ∧ t.rein = s.rein ∧ t.dram = s.dram ∧ t.dma = s.dma ∧ t.therm = s.therm ∧ t.img = s.img := by
  refine ⟨_, rfl, ?_⟩; simp
theorem execJtagSamplePreload_kept (cells : List Bool) (s : State) :
    ∃ t, execJtagSamplePreload cells s = .next t ∧ t.pending = s.pending ∧ t.wheel = s.wheel ∧ t.plan = s.plan ∧ t.rein = s.rein ∧ t.dram = s.dram ∧ t.dma = s.dma ∧ t.therm = s.therm ∧ t.img = s.img := by
  refine ⟨_, rfl, ?_⟩; simp
@[simp] theorem State.takeScan_kept (s : State) (i : JtagInstr) (out : List Bool) :
    (State.takeScan s i out).pending = s.pending ∧ (State.takeScan s i out).dma = s.dma ∧ (State.takeScan s i out).therm = s.therm ∧ (State.takeScan s i out).img = s.img ∧ (State.takeScan s i out).wheel.pins = s.wheel.pins := by
  simp [State.takeScan]
theorem execJtagExtest_kept (s : State) :
    ∃ t, execJtagExtest s = .next t ∧ t.pending = s.pending ∧ t.dma = s.dma ∧ t.therm = s.therm ∧ t.img = s.img ∧ t.wheel.pins = s.wheel.pins := by
  refine ⟨_, rfl, ?_⟩; simp
theorem execJtagClamp_kept (s : State) :
    ∃ t, execJtagClamp s = .next t ∧ t.pending = s.pending ∧ t.dma = s.dma ∧ t.therm = s.therm ∧ t.img = s.img ∧ t.wheel.pins = s.wheel.pins := by
  refine ⟨_, rfl, ?_⟩; simp
theorem execJtagHighz_kept (s : State) :
    ∃ t, execJtagHighz s = .next t ∧ t.pending = s.pending ∧ t.dma = s.dma ∧ t.therm = s.therm ∧ t.img = s.img ∧ t.wheel.pins = s.wheel.pins := by
  refine ⟨_, rfl, ?_⟩; simp
@[simp] theorem State.tunnelRun_kept (s : State) (key : Nat) (e : BitVec 512) :
    (State.tunnelRun s key e).pending = s.pending ∧ (State.tunnelRun s key e).wheel = s.wheel ∧ (State.tunnelRun s key e).plan = s.plan ∧ (State.tunnelRun s key e).rein = s.rein ∧ (State.tunnelRun s key e).dram = s.dram ∧ (State.tunnelRun s key e).dma = s.dma ∧ (State.tunnelRun s key e).therm = s.therm ∧ (State.tunnelRun s key e).img = s.img ∧ (State.tunnelRun s key e).awl = s.awl ∧ (State.tunnelRun s key e).codec = s.codec ∧ (State.tunnelRun s key e).map = s.map ∧ (State.tunnelRun s key e).blk = s.blk ∧ (State.tunnelRun s key e).girth = s.girth ∧ (State.tunnelRun s key e).wb = s.wb ∧ (State.tunnelRun s key e).dump = s.dump ∧ (State.tunnelRun s key e).cipher = s.cipher ∧ (State.tunnelRun s key e).skv = s.skv ∧ (State.tunnelRun s key e).mc = s.mc ∧ (State.tunnelRun s key e).media = s.media := by
  unfold State.tunnelRun; refine ⟨?_, ?_, ?_, ?_, ?_, ?_, ?_, ?_, ?_, ?_, ?_, ?_, ?_, ?_, ?_, ?_, ?_, ?_, ?_⟩ <;> (repeat' (first | (simp; done) | split | dsimp only | simp | grind only [→ State.tunnelIn_fwd]))
@[simp] theorem State.sbTunnel_kept (s : State) (e : BitVec 512) :
    (State.sbTunnel s e).pending = s.pending ∧ (State.sbTunnel s e).wheel = s.wheel ∧ (State.sbTunnel s e).plan = s.plan ∧ (State.sbTunnel s e).rein = s.rein ∧ (State.sbTunnel s e).dram = s.dram ∧ (State.sbTunnel s e).dma = s.dma ∧ (State.sbTunnel s e).therm = s.therm ∧ (State.sbTunnel s e).img = s.img ∧ (State.sbTunnel s e).awl = s.awl ∧ (State.sbTunnel s e).codec = s.codec ∧ (State.sbTunnel s e).map = s.map ∧ (State.sbTunnel s e).blk = s.blk ∧ (State.sbTunnel s e).girth = s.girth ∧ (State.sbTunnel s e).wb = s.wb ∧ (State.sbTunnel s e).dump = s.dump ∧ (State.sbTunnel s e).cipher = s.cipher ∧ (State.sbTunnel s e).skv = s.skv ∧ (State.sbTunnel s e).mc = s.mc ∧ (State.sbTunnel s e).media = s.media := by
  simp [State.sbTunnel]
theorem execSidebandMiCommand_kept (request : Sys2Proof.MiRequest) (s : State) :
    ∃ t, execSidebandMiCommand request s = .next t ∧ t.pending = s.pending ∧ t.wheel = s.wheel ∧ t.plan = s.plan ∧ t.rein = s.rein ∧ t.dram = s.dram ∧ t.dma = s.dma ∧ t.therm = s.therm ∧ t.img = s.img ∧ t.awl = s.awl ∧ t.codec = s.codec ∧ t.map = s.map ∧ t.blk = s.blk ∧ t.girth = s.girth ∧ t.wb = s.wb ∧ t.dump = s.dump ∧ t.cipher = s.cipher ∧ t.skv = s.skv ∧ t.mc = s.mc ∧ t.media = s.media := by
  unfold execSidebandMiCommand; (repeat' split) <;> (refine ⟨_, rfl, ?_⟩; simp)
theorem execNvmeMiSend_kept (tag : Nat) (request : Sys2Proof.MiRequest) (s : State) :
    ∃ t, execNvmeMiSend tag request s = .next t ∧ t.pending = s.pending ∧ t.wheel = s.wheel ∧ t.plan = s.plan ∧ t.rein = s.rein ∧ t.dram = s.dram ∧ t.dma = s.dma ∧ t.therm = s.therm ∧ t.img = s.img ∧ t.awl = s.awl ∧ t.codec = s.codec ∧ t.map = s.map ∧ t.blk = s.blk ∧ t.girth = s.girth ∧ t.wb = s.wb ∧ t.dump = s.dump ∧ t.cipher = s.cipher ∧ t.skv = s.skv ∧ t.mc = s.mc ∧ t.media = s.media := by
  unfold execNvmeMiSend; (repeat' (first | (refine ⟨_, rfl, ?_, ?_, ?_, ?_, ?_, ?_, ?_, ?_, ?_, ?_, ?_, ?_, ?_, ?_, ?_, ?_, ?_, ?_, ?_⟩ <;> (repeat' (first | (simp; done) | (with_reducible refine State.begin_pending _ _ _ _ _ _ (fun y0 y1 => ?_)) | (with_reducible refine State.begin_wheel _ _ _ _ _ _ (fun y0 y1 => ?_)) | (with_reducible refine State.begin_plan _ _ _ _ _ _ (fun y0 y1 => ?_)) | (with_reducible refine State.begin_rein _ _ _ _ _ _ (fun y0 y1 => ?_)) | (with_reducible refine State.begin_dram _ _ _ _ _ _ (fun y0 y1 => ?_)) | (with_reducible refine State.begin_dma _ _ _ _ _ _ (fun y0 y1 => ?_)) | (with_reducible refine State.begin_therm _ _ _ _ _ _ (fun y0 y1 => ?_)) | (with_reducible refine State.begin_img _ _ _ _ _ _ (fun y0 y1 => ?_)) | (with_reducible refine State.begin_awl _ _ _ _ _ _ (fun y0 y1 => ?_)) | (with_reducible refine State.begin_codec _ _ _ _ _ _ (fun y0 y1 => ?_)) | (with_reducible refine State.begin_map _ _ _ _ _ _ (fun y0 y1 => ?_)) | (with_reducible refine State.begin_blk _ _ _ _ _ _ (fun y0 y1 => ?_)) | (with_reducible refine State.begin_girth _ _ _ _ _ _ (fun y0 y1 => ?_)) | (with_reducible refine State.begin_wb _ _ _ _ _ _ (fun y0 y1 => ?_)) | (with_reducible refine State.begin_dump _ _ _ _ _ _ (fun y0 y1 => ?_)) | (with_reducible refine State.begin_cipher _ _ _ _ _ _ (fun y0 y1 => ?_)) | (with_reducible refine State.begin_skv _ _ _ _ _ _ (fun y0 y1 => ?_)) | (with_reducible refine State.begin_mc _ _ _ _ _ _ (fun y0 y1 => ?_)) | (with_reducible refine State.begin_media _ _ _ _ _ _ (fun y0 y1 => ?_)) | split | dsimp only | simp)); done) | split | dsimp only))
theorem execNvmeMiReceive_kept (tag : Nat) (s : State) :
    ∃ t, execNvmeMiReceive tag s = .next t ∧ t.pending = s.pending ∧ t.wheel = s.wheel ∧ t.plan = s.plan ∧ t.rein = s.rein ∧ t.dram = s.dram ∧ t.dma = s.dma ∧ t.therm = s.therm ∧ t.img = s.img ∧ t.awl = s.awl ∧ t.codec = s.codec ∧ t.map = s.map ∧ t.blk = s.blk ∧ t.girth = s.girth ∧ t.wb = s.wb ∧ t.dump = s.dump ∧ t.cipher = s.cipher ∧ t.skv = s.skv ∧ t.mc = s.mc ∧ t.media = s.media := by
  unfold execNvmeMiReceive; (repeat' (first | (refine ⟨_, rfl, ?_, ?_, ?_, ?_, ?_, ?_, ?_, ?_, ?_, ?_, ?_, ?_, ?_, ?_, ?_, ?_, ?_, ?_, ?_⟩ <;> (repeat' (first | (simp; done) | (with_reducible refine State.begin_pending _ _ _ _ _ _ (fun y0 y1 => ?_)) | (with_reducible refine State.begin_wheel _ _ _ _ _ _ (fun y0 y1 => ?_)) | (with_reducible refine State.begin_plan _ _ _ _ _ _ (fun y0 y1 => ?_)) | (with_reducible refine State.begin_rein _ _ _ _ _ _ (fun y0 y1 => ?_)) | (with_reducible refine State.begin_dram _ _ _ _ _ _ (fun y0 y1 => ?_)) | (with_reducible refine State.begin_dma _ _ _ _ _ _ (fun y0 y1 => ?_)) | (with_reducible refine State.begin_therm _ _ _ _ _ _ (fun y0 y1 => ?_)) | (with_reducible refine State.begin_img _ _ _ _ _ _ (fun y0 y1 => ?_)) | (with_reducible refine State.begin_awl _ _ _ _ _ _ (fun y0 y1 => ?_)) | (with_reducible refine State.begin_codec _ _ _ _ _ _ (fun y0 y1 => ?_)) | (with_reducible refine State.begin_map _ _ _ _ _ _ (fun y0 y1 => ?_)) | (with_reducible refine State.begin_blk _ _ _ _ _ _ (fun y0 y1 => ?_)) | (with_reducible refine State.begin_girth _ _ _ _ _ _ (fun y0 y1 => ?_)) | (with_reducible refine State.begin_wb _ _ _ _ _ _ (fun y0 y1 => ?_)) | (with_reducible refine State.begin_dump _ _ _ _ _ _ (fun y0 y1 => ?_)) | (with_reducible refine State.begin_cipher _ _ _ _ _ _ (fun y0 y1 => ?_)) | (with_reducible refine State.begin_skv _ _ _ _ _ _ (fun y0 y1 => ?_)) | (with_reducible refine State.begin_mc _ _ _ _ _ _ (fun y0 y1 => ?_)) | (with_reducible refine State.begin_media _ _ _ _ _ _ (fun y0 y1 => ?_)) | split | dsimp only | simp)); done) | split | dsimp only))
theorem execI3cBroadcast_kept (s : State) :
    ∃ t, execI3cBroadcast s = .next t ∧ t.pending = s.pending ∧ t.wheel = s.wheel ∧ t.plan = s.plan ∧ t.rein = s.rein ∧ t.dram = s.dram ∧ t.dma = s.dma ∧ t.therm = s.therm ∧ t.img = s.img ∧ t.awl = s.awl ∧ t.codec = s.codec ∧ t.map = s.map ∧ t.blk = s.blk ∧ t.girth = s.girth ∧ t.wb = s.wb ∧ t.dump = s.dump ∧ t.cipher = s.cipher ∧ t.skv = s.skv ∧ t.mc = s.mc ∧ t.media = s.media := by
  unfold execI3cBroadcast; (repeat' split) <;> (refine ⟨_, rfl, ?_⟩; simp)
theorem execI3cResetAction_kept (s : State) :
    ∃ t, execI3cResetAction s = .next t ∧ t.pending = s.pending ∧ t.wheel = s.wheel ∧ t.plan = s.plan ∧ t.rein = s.rein ∧ t.dram = s.dram ∧ t.dma = s.dma ∧ t.therm = s.therm ∧ t.img = s.img ∧ t.awl = s.awl ∧ t.codec = s.codec ∧ t.map = s.map ∧ t.blk = s.blk ∧ t.girth = s.girth ∧ t.wb = s.wb ∧ t.dump = s.dump ∧ t.cipher = s.cipher ∧ t.skv = s.skv ∧ t.mc = s.mc ∧ t.media = s.media := by
  unfold execI3cResetAction; (repeat' split) <;> (refine ⟨_, rfl, ?_⟩; simp)

end Sys2Proof.Machine
end

