-- ==== Sys2Proof/Laws/KeptIo.lean ====
section
/-! SUPPORT. What each function of Sys2Proof/Machine/Io.lean leaves unchanged: one lemma a function. -/
set_option linter.unusedTactic false
set_option linter.unreachableTactic false
set_option linter.unusedSimpArgs false
namespace Sys2Proof.Machine

@[simp] theorem State.addUnit_kept (s : State) (tag : Nat) (j : UnitJob) :
    (State.addUnit s tag j).pending = s.pending ∧ (State.addUnit s tag j).wheel = s.wheel ∧ (State.addUnit s tag j).plan = s.plan ∧ (State.addUnit s tag j).rein = s.rein ∧ (State.addUnit s tag j).dram = s.dram ∧ (State.addUnit s tag j).dma = s.dma ∧ (State.addUnit s tag j).therm = s.therm ∧ (State.addUnit s tag j).img = s.img ∧ (State.addUnit s tag j).awl = s.awl ∧ (State.addUnit s tag j).codec = s.codec ∧ (State.addUnit s tag j).map = s.map ∧ (State.addUnit s tag j).blk = s.blk ∧ (State.addUnit s tag j).girth = s.girth ∧ (State.addUnit s tag j).wb = s.wb ∧ (State.addUnit s tag j).dump = s.dump ∧ (State.addUnit s tag j).cipher = s.cipher ∧ (State.addUnit s tag j).skv = s.skv ∧ (State.addUnit s tag j).mc = s.mc ∧ (State.addUnit s tag j).media = s.media := by
  simp [State.addUnit]
@[simp] theorem State.addWrite_kept (s : State) (tag : Nat) (nsx : Nat) (unit : Nat) (first : Nat) (data : List Sys2Proof.Byte) (tagRec : Nat) (stream : Nat) :
    (State.addWrite s tag nsx unit first data tagRec stream).pending = s.pending ∧ (State.addWrite s tag nsx unit first data tagRec stream).wheel = s.wheel ∧ (State.addWrite s tag nsx unit first data tagRec stream).plan = s.plan ∧ (State.addWrite s tag nsx unit first data tagRec stream).rein = s.rein ∧ (State.addWrite s tag nsx unit first data tagRec stream).dram = s.dram ∧ (State.addWrite s tag nsx unit first data tagRec stream).dma = s.dma ∧ (State.addWrite s tag nsx unit first data tagRec stream).therm = s.therm ∧ (State.addWrite s tag nsx unit first data tagRec stream).img = s.img ∧ (State.addWrite s tag nsx unit first data tagRec stream).awl = s.awl ∧ (State.addWrite s tag nsx unit first data tagRec stream).codec = s.codec ∧ (State.addWrite s tag nsx unit first data tagRec stream).map = s.map ∧ (State.addWrite s tag nsx unit first data tagRec stream).blk = s.blk ∧ (State.addWrite s tag nsx unit first data tagRec stream).girth = s.girth ∧ (State.addWrite s tag nsx unit first data tagRec stream).wb = s.wb ∧ (State.addWrite s tag nsx unit first data tagRec stream).dump = s.dump ∧ (State.addWrite s tag nsx unit first data tagRec stream).cipher = s.cipher ∧ (State.addWrite s tag nsx unit first data tagRec stream).skv = s.skv ∧ (State.addWrite s tag nsx unit first data tagRec stream).mc = s.mc ∧ (State.addWrite s tag nsx unit first data tagRec stream).media = s.media := by
  simp [State.addWrite]
@[simp] theorem State.addWrites_kept (s : State) (tag : Nat) (n : Namespace) (slba : Nat) (nlb : Nat) (data : List Sys2Proof.Byte) (stream : Nat) (tags : Nat → Nat) :
    (State.addWrites s tag n slba nlb data stream tags).pending = s.pending ∧ (State.addWrites s tag n slba nlb data stream tags).wheel = s.wheel ∧ (State.addWrites s tag n slba nlb data stream tags).plan = s.plan ∧ (State.addWrites s tag n slba nlb data stream tags).rein = s.rein ∧ (State.addWrites s tag n slba nlb data stream tags).dram = s.dram ∧ (State.addWrites s tag n slba nlb data stream tags).dma = s.dma ∧ (State.addWrites s tag n slba nlb data stream tags).therm = s.therm ∧ (State.addWrites s tag n slba nlb data stream tags).img = s.img ∧ (State.addWrites s tag n slba nlb data stream tags).awl = s.awl ∧ (State.addWrites s tag n slba nlb data stream tags).codec = s.codec ∧ (State.addWrites s tag n slba nlb data stream tags).map = s.map ∧ (State.addWrites s tag n slba nlb data stream tags).blk = s.blk ∧ (State.addWrites s tag n slba nlb data stream tags).girth = s.girth ∧ (State.addWrites s tag n slba nlb data stream tags).wb = s.wb ∧ (State.addWrites s tag n slba nlb data stream tags).dump = s.dump ∧ (State.addWrites s tag n slba nlb data stream tags).cipher = s.cipher ∧ (State.addWrites s tag n slba nlb data stream tags).skv = s.skv ∧ (State.addWrites s tag n slba nlb data stream tags).mc = s.mc ∧ (State.addWrites s tag n slba nlb data stream tags).media = s.media := by
  simp [State.addWrites]
@[simp] theorem State.onSpace_pending (s : State) (tag : Nat) (opc : Nat) (sel : Cmd → Bool) (f : State → Cmd → Namespace → State) (h : ∀ x0 x1 x2, (f x0 x1 x2).pending = x0.pending) :
    (State.onSpace s tag opc sel f).pending = s.pending := by
  unfold State.onSpace; (repeat' (first | (simp [h]; done) | (with_reducible refine State.begin_pending _ _ _ _ _ _ (fun y0 y1 => ?_)) | split | dsimp only | simp [h]))
@[simp] theorem State.onSpace_wheel (s : State) (tag : Nat) (opc : Nat) (sel : Cmd → Bool) (f : State → Cmd → Namespace → State) (h : ∀ x0 x1 x2, (f x0 x1 x2).wheel = x0.wheel) :
    (State.onSpace s tag opc sel f).wheel = s.wheel := by
  unfold State.onSpace; (repeat' (first | (simp [h]; done) | (with_reducible refine State.begin_wheel _ _ _ _ _ _ (fun y0 y1 => ?_)) | split | dsimp only | simp [h]))
@[simp] theorem State.onSpace_plan (s : State) (tag : Nat) (opc : Nat) (sel : Cmd → Bool) (f : State → Cmd → Namespace → State) (h : ∀ x0 x1 x2, (f x0 x1 x2).plan = x0.plan) :
    (State.onSpace s tag opc sel f).plan = s.plan := by
  unfold State.onSpace; (repeat' (first | (simp [h]; done) | (with_reducible refine State.begin_plan _ _ _ _ _ _ (fun y0 y1 => ?_)) | split | dsimp only | simp [h]))
@[simp] theorem State.onSpace_rein (s : State) (tag : Nat) (opc : Nat) (sel : Cmd → Bool) (f : State → Cmd → Namespace → State) (h : ∀ x0 x1 x2, (f x0 x1 x2).rein = x0.rein) :
    (State.onSpace s tag opc sel f).rein = s.rein := by
  unfold State.onSpace; (repeat' (first | (simp [h]; done) | (with_reducible refine State.begin_rein _ _ _ _ _ _ (fun y0 y1 => ?_)) | split | dsimp only | simp [h]))
@[simp] theorem State.onSpace_dram (s : State) (tag : Nat) (opc : Nat) (sel : Cmd → Bool) (f : State → Cmd → Namespace → State) (h : ∀ x0 x1 x2, (f x0 x1 x2).dram = x0.dram) :
    (State.onSpace s tag opc sel f).dram = s.dram := by
  unfold State.onSpace; (repeat' (first | (simp [h]; done) | (with_reducible refine State.begin_dram _ _ _ _ _ _ (fun y0 y1 => ?_)) | split | dsimp only | simp [h]))
@[simp] theorem State.onSpace_dma (s : State) (tag : Nat) (opc : Nat) (sel : Cmd → Bool) (f : State → Cmd → Namespace → State) (h : ∀ x0 x1 x2, (f x0 x1 x2).dma = x0.dma) :
    (State.onSpace s tag opc sel f).dma = s.dma := by
  unfold State.onSpace; (repeat' (first | (simp [h]; done) | (with_reducible refine State.begin_dma _ _ _ _ _ _ (fun y0 y1 => ?_)) | split | dsimp only | simp [h]))
@[simp] theorem State.onSpace_therm (s : State) (tag : Nat) (opc : Nat) (sel : Cmd → Bool) (f : State → Cmd → Namespace → State) (h : ∀ x0 x1 x2, (f x0 x1 x2).therm = x0.therm) :
    (State.onSpace s tag opc sel f).therm = s.therm := by
  unfold State.onSpace; (repeat' (first | (simp [h]; done) | (with_reducible refine State.begin_therm _ _ _ _ _ _ (fun y0 y1 => ?_)) | split | dsimp only | simp [h]))
@[simp] theorem State.onSpace_img (s : State) (tag : Nat) (opc : Nat) (sel : Cmd → Bool) (f : State → Cmd → Namespace → State) (h : ∀ x0 x1 x2, (f x0 x1 x2).img = x0.img) :
    (State.onSpace s tag opc sel f).img = s.img := by
  unfold State.onSpace; (repeat' (first | (simp [h]; done) | (with_reducible refine State.begin_img _ _ _ _ _ _ (fun y0 y1 => ?_)) | split | dsimp only | simp [h]))
@[simp] theorem State.onSpace_awl (s : State) (tag : Nat) (opc : Nat) (sel : Cmd → Bool) (f : State → Cmd → Namespace → State) (h : ∀ x0 x1 x2, (f x0 x1 x2).awl = x0.awl) :
    (State.onSpace s tag opc sel f).awl = s.awl := by
  unfold State.onSpace; (repeat' (first | (simp [h]; done) | (with_reducible refine State.begin_awl _ _ _ _ _ _ (fun y0 y1 => ?_)) | split | dsimp only | simp [h]))
@[simp] theorem State.onSpace_codec (s : State) (tag : Nat) (opc : Nat) (sel : Cmd → Bool) (f : State → Cmd → Namespace → State) (h : ∀ x0 x1 x2, (f x0 x1 x2).codec = x0.codec) :
    (State.onSpace s tag opc sel f).codec = s.codec := by
  unfold State.onSpace; (repeat' (first | (simp [h]; done) | (with_reducible refine State.begin_codec _ _ _ _ _ _ (fun y0 y1 => ?_)) | split | dsimp only | simp [h]))
@[simp] theorem State.onSpace_map (s : State) (tag : Nat) (opc : Nat) (sel : Cmd → Bool) (f : State → Cmd → Namespace → State) (h : ∀ x0 x1 x2, (f x0 x1 x2).map = x0.map) :
    (State.onSpace s tag opc sel f).map = s.map := by
  unfold State.onSpace; (repeat' (first | (simp [h]; done) | (with_reducible refine State.begin_map _ _ _ _ _ _ (fun y0 y1 => ?_)) | split | dsimp only | simp [h]))
@[simp] theorem State.onSpace_blk (s : State) (tag : Nat) (opc : Nat) (sel : Cmd → Bool) (f : State → Cmd → Namespace → State) (h : ∀ x0 x1 x2, (f x0 x1 x2).blk = x0.blk) :
    (State.onSpace s tag opc sel f).blk = s.blk := by
  unfold State.onSpace; (repeat' (first | (simp [h]; done) | (with_reducible refine State.begin_blk _ _ _ _ _ _ (fun y0 y1 => ?_)) | split | dsimp only | simp [h]))
@[simp] theorem State.onSpace_girth (s : State) (tag : Nat) (opc : Nat) (sel : Cmd → Bool) (f : State → Cmd → Namespace → State) (h : ∀ x0 x1 x2, (f x0 x1 x2).girth = x0.girth) :
    (State.onSpace s tag opc sel f).girth = s.girth := by
  unfold State.onSpace; (repeat' (first | (simp [h]; done) | (with_reducible refine State.begin_girth _ _ _ _ _ _ (fun y0 y1 => ?_)) | split | dsimp only | simp [h]))
@[simp] theorem State.onSpace_wb (s : State) (tag : Nat) (opc : Nat) (sel : Cmd → Bool) (f : State → Cmd → Namespace → State) (h : ∀ x0 x1 x2, (f x0 x1 x2).wb = x0.wb) :
    (State.onSpace s tag opc sel f).wb = s.wb := by
  unfold State.onSpace; (repeat' (first | (simp [h]; done) | (with_reducible refine State.begin_wb _ _ _ _ _ _ (fun y0 y1 => ?_)) | split | dsimp only | simp [h]))
@[simp] theorem State.onSpace_dump (s : State) (tag : Nat) (opc : Nat) (sel : Cmd → Bool) (f : State → Cmd → Namespace → State) (h : ∀ x0 x1 x2, (f x0 x1 x2).dump = x0.dump) :
    (State.onSpace s tag opc sel f).dump = s.dump := by
  unfold State.onSpace; (repeat' (first | (simp [h]; done) | (with_reducible refine State.begin_dump _ _ _ _ _ _ (fun y0 y1 => ?_)) | split | dsimp only | simp [h]))
@[simp] theorem State.onSpace_cipher (s : State) (tag : Nat) (opc : Nat) (sel : Cmd → Bool) (f : State → Cmd → Namespace → State) (h : ∀ x0 x1 x2, (f x0 x1 x2).cipher = x0.cipher) :
    (State.onSpace s tag opc sel f).cipher = s.cipher := by
  unfold State.onSpace; (repeat' (first | (simp [h]; done) | (with_reducible refine State.begin_cipher _ _ _ _ _ _ (fun y0 y1 => ?_)) | split | dsimp only | simp [h]))
@[simp] theorem State.onSpace_skv (s : State) (tag : Nat) (opc : Nat) (sel : Cmd → Bool) (f : State → Cmd → Namespace → State) (h : ∀ x0 x1 x2, (f x0 x1 x2).skv = x0.skv) :
    (State.onSpace s tag opc sel f).skv = s.skv := by
  unfold State.onSpace; (repeat' (first | (simp [h]; done) | (with_reducible refine State.begin_skv _ _ _ _ _ _ (fun y0 y1 => ?_)) | split | dsimp only | simp [h]))
@[simp] theorem State.onSpace_mc (s : State) (tag : Nat) (opc : Nat) (sel : Cmd → Bool) (f : State → Cmd → Namespace → State) (h : ∀ x0 x1 x2, (f x0 x1 x2).mc = x0.mc) :
    (State.onSpace s tag opc sel f).mc = s.mc := by
  unfold State.onSpace; (repeat' (first | (simp [h]; done) | (with_reducible refine State.begin_mc _ _ _ _ _ _ (fun y0 y1 => ?_)) | split | dsimp only | simp [h]))
@[simp] theorem State.onSpace_media (s : State) (tag : Nat) (opc : Nat) (sel : Cmd → Bool) (f : State → Cmd → Namespace → State) (h : ∀ x0 x1 x2, (f x0 x1 x2).media = x0.media) :
    (State.onSpace s tag opc sel f).media = s.media := by
  unfold State.onSpace; (repeat' (first | (simp [h]; done) | (with_reducible refine State.begin_media _ _ _ _ _ _ (fun y0 y1 => ?_)) | split | dsimp only | simp [h]))
@[simp] theorem State.onSpace_wheel_pins (s : State) (tag : Nat) (opc : Nat) (sel : Cmd → Bool) (f : State → Cmd → Namespace → State) (h : ∀ x0 x1 x2, (f x0 x1 x2).wheel.pins = x0.wheel.pins) :
    (State.onSpace s tag opc sel f).wheel.pins = s.wheel.pins := by
  unfold State.onSpace; (repeat' (first | (simp [h]; done) | (with_reducible refine State.begin_wheel_pins _ _ _ _ _ _ (fun y0 y1 => ?_)) | split | dsimp only | simp [h]))
@[simp] theorem State.badHandle_kept (s : State) (tag : Nat) (n : Namespace) :
    (State.badHandle s tag n).pending = s.pending ∧ (State.badHandle s tag n).wheel = s.wheel ∧ (State.badHandle s tag n).plan = s.plan ∧ (State.badHandle s tag n).rein = s.rein ∧ (State.badHandle s tag n).dram = s.dram ∧ (State.badHandle s tag n).dma = s.dma ∧ (State.badHandle s tag n).therm = s.therm ∧ (State.badHandle s tag n).img = s.img ∧ (State.badHandle s tag n).awl = s.awl ∧ (State.badHandle s tag n).codec = s.codec ∧ (State.badHandle s tag n).map = s.map ∧ (State.badHandle s tag n).blk = s.blk ∧ (State.badHandle s tag n).girth = s.girth ∧ (State.badHandle s tag n).wb = s.wb ∧ (State.badHandle s tag n).dump = s.dump ∧ (State.badHandle s tag n).cipher = s.cipher ∧ (State.badHandle s tag n).skv = s.skv ∧ (State.badHandle s tag n).mc = s.mc ∧ (State.badHandle s tag n).media = s.media := by
  simp [State.badHandle]
theorem execFlush_kept (tag : Nat) (s : State) :
    ∃ t, execFlush tag s = .next t ∧ t.pending = s.pending ∧ t.wheel = s.wheel ∧ t.plan = s.plan ∧ t.rein = s.rein ∧ t.dram = s.dram ∧ t.dma = s.dma ∧ t.therm = s.therm ∧ t.img = s.img ∧ t.awl = s.awl ∧ t.codec = s.codec ∧ t.map = s.map ∧ t.blk = s.blk ∧ t.girth = s.girth ∧ t.wb = s.wb ∧ t.dump = s.dump ∧ t.cipher = s.cipher ∧ t.skv = s.skv ∧ t.mc = s.mc ∧ t.media = s.media := by
  refine ⟨_, rfl, ?_⟩; simp
theorem execWrite_kept (tag : Nat) (data : List Sys2Proof.Byte) (pi : List Sys2Proof.ProtInfo) (s : State) :
    ∃ t, execWrite tag data pi s = .next t ∧ t.pending = s.pending ∧ t.wheel = s.wheel ∧ t.plan = s.plan ∧ t.rein = s.rein ∧ t.dram = s.dram ∧ t.dma = s.dma ∧ t.therm = s.therm ∧ t.img = s.img := by
  unfold execWrite; (repeat' (first | (refine ⟨_, rfl, ?_, ?_, ?_, ?_, ?_, ?_, ?_, ?_⟩ <;> (repeat' (first | (simp; done) | (with_reducible refine State.onSpace_pending _ _ _ _ _ (fun y0 y1 y2 => ?_)) | (with_reducible refine State.onSpace_wheel _ _ _ _ _ (fun y0 y1 y2 => ?_)) | (with_reducible refine State.onSpace_plan _ _ _ _ _ (fun y0 y1 y2 => ?_)) | (with_reducible refine State.onSpace_rein _ _ _ _ _ (fun y0 y1 y2 => ?_)) | (with_reducible refine State.onSpace_dram _ _ _ _ _ (fun y0 y1 y2 => ?_)) | (with_reducible refine State.onSpace_dma _ _ _ _ _ (fun y0 y1 y2 => ?_)) | (with_reducible refine State.onSpace_therm _ _ _ _ _ (fun y0 y1 y2 => ?_)) | (with_reducible refine State.onSpace_img _ _ _ _ _ (fun y0 y1 y2 => ?_)) | split | dsimp only | simp)); done) | split | dsimp only))
@[simp] theorem State.readUnits_kept (s : State) (tag : Nat) (c : Cmd) (n : Namespace) (kind : UnitKind) (data : List Sys2Proof.Byte) :
    (State.readUnits s tag c n kind data).pending = s.pending ∧ (State.readUnits s tag c n kind data).wheel = s.wheel ∧ (State.readUnits s tag c n kind data).plan = s.plan ∧ (State.readUnits s tag c n kind data).rein = s.rein ∧ (State.readUnits s tag c n kind data).dram = s.dram ∧ (State.readUnits s tag c n kind data).dma = s.dma ∧ (State.readUnits s tag c n kind data).therm = s.therm ∧ (State.readUnits s tag c n kind data).img = s.img := by
  unfold State.readUnits; split <;> simp
theorem execRead_kept (tag : Nat) (s : State) :
    ∃ t, execRead tag s = .next t ∧ t.pending = s.pending ∧ t.wheel = s.wheel ∧ t.plan = s.plan ∧ t.rein = s.rein ∧ t.dram = s.dram ∧ t.dma = s.dma ∧ t.therm = s.therm ∧ t.img = s.img := by
  refine ⟨_, rfl, ?_⟩; simp
theorem execCompare_kept (tag : Nat) (data : List Sys2Proof.Byte) (s : State) :
    ∃ t, execCompare tag data s = .next t ∧ t.pending = s.pending ∧ t.wheel = s.wheel ∧ t.plan = s.plan ∧ t.rein = s.rein ∧ t.dram = s.dram ∧ t.dma = s.dma ∧ t.therm = s.therm ∧ t.img = s.img := by
  refine ⟨_, rfl, ?_⟩; simp
theorem execVerify_kept (tag : Nat) (s : State) :
    ∃ t, execVerify tag s = .next t ∧ t.pending = s.pending ∧ t.wheel = s.wheel ∧ t.plan = s.plan ∧ t.rein = s.rein ∧ t.dram = s.dram ∧ t.dma = s.dma ∧ t.therm = s.therm ∧ t.img = s.img := by
  refine ⟨_, rfl, ?_⟩; simp
@[simp] theorem State.addDiscards_kept (s : State) (tag : Nat) (n : Namespace) (slba : Nat) (nlb : Nat) (sdp : Bool) :
    (State.addDiscards s tag n slba nlb sdp).pending = s.pending ∧ (State.addDiscards s tag n slba nlb sdp).wheel = s.wheel ∧ (State.addDiscards s tag n slba nlb sdp).plan = s.plan ∧ (State.addDiscards s tag n slba nlb sdp).rein = s.rein ∧ (State.addDiscards s tag n slba nlb sdp).dram = s.dram ∧ (State.addDiscards s tag n slba nlb sdp).dma = s.dma ∧ (State.addDiscards s tag n slba nlb sdp).therm = s.therm ∧ (State.addDiscards s tag n slba nlb sdp).img = s.img ∧ (State.addDiscards s tag n slba nlb sdp).awl = s.awl ∧ (State.addDiscards s tag n slba nlb sdp).codec = s.codec ∧ (State.addDiscards s tag n slba nlb sdp).map = s.map ∧ (State.addDiscards s tag n slba nlb sdp).blk = s.blk ∧ (State.addDiscards s tag n slba nlb sdp).girth = s.girth ∧ (State.addDiscards s tag n slba nlb sdp).wb = s.wb ∧ (State.addDiscards s tag n slba nlb sdp).dump = s.dump ∧ (State.addDiscards s tag n slba nlb sdp).cipher = s.cipher ∧ (State.addDiscards s tag n slba nlb sdp).skv = s.skv ∧ (State.addDiscards s tag n slba nlb sdp).mc = s.mc ∧ (State.addDiscards s tag n slba nlb sdp).media = s.media := by
  simp [State.addDiscards]
theorem execWriteZeroes_kept (tag : Nat) (s : State) :
    ∃ t, execWriteZeroes tag s = .next t ∧ t.pending = s.pending ∧ t.wheel = s.wheel ∧ t.plan = s.plan ∧ t.rein = s.rein ∧ t.dram = s.dram ∧ t.dma = s.dma ∧ t.therm = s.therm ∧ t.img = s.img := by
  unfold execWriteZeroes; (repeat' (first | (refine ⟨_, rfl, ?_, ?_, ?_, ?_, ?_, ?_, ?_, ?_⟩ <;> (repeat' (first | (simp; done) | (with_reducible refine State.onSpace_pending _ _ _ _ _ (fun y0 y1 y2 => ?_)) | (with_reducible refine State.onSpace_wheel _ _ _ _ _ (fun y0 y1 y2 => ?_)) | (with_reducible refine State.onSpace_plan _ _ _ _ _ (fun y0 y1 y2 => ?_)) | (with_reducible refine State.onSpace_rein _ _ _ _ _ (fun y0 y1 y2 => ?_)) | (with_reducible refine State.onSpace_dram _ _ _ _ _ (fun y0 y1 y2 => ?_)) | (with_reducible refine State.onSpace_dma _ _ _ _ _ (fun y0 y1 y2 => ?_)) | (with_reducible refine State.onSpace_therm _ _ _ _ _ (fun y0 y1 y2 => ?_)) | (with_reducible refine State.onSpace_img _ _ _ _ _ (fun y0 y1 y2 => ?_)) | split | dsimp only | simp)); done) | split | dsimp only))
theorem execDsmDeallocate_kept (tag : Nat) (ranges : List Sys2Proof.LbaRange) (s : State) :
    ∃ t, execDsmDeallocate tag ranges s = .next t ∧ t.pending = s.pending ∧ t.wheel = s.wheel ∧ t.plan = s.plan ∧ t.rein = s.rein ∧ t.dram = s.dram ∧ t.dma = s.dma ∧ t.therm = s.therm ∧ t.img = s.img := by
  refine ⟨_, rfl, ?_⟩; simp
theorem execDsmNoDeallocate_kept (tag : Nat) (s : State) :
    ∃ t, execDsmNoDeallocate tag s = .next t ∧ t.pending = s.pending ∧ t.wheel = s.wheel ∧ t.plan = s.plan ∧ t.rein = s.rein ∧ t.dram = s.dram ∧ t.dma = s.dma ∧ t.therm = s.therm ∧ t.img = s.img ∧ t.awl = s.awl ∧ t.codec = s.codec ∧ t.map = s.map ∧ t.blk = s.blk ∧ t.girth = s.girth ∧ t.wb = s.wb ∧ t.dump = s.dump ∧ t.cipher = s.cipher ∧ t.skv = s.skv ∧ t.mc = s.mc ∧ t.media = s.media := by
  refine ⟨_, rfl, ?_⟩; simp
theorem execSecureDiscard_kept (tag : Nat) (ranges : List Sys2Proof.LbaRange) (s : State) :
    ∃ t, execSecureDiscard tag ranges s = .next t ∧ t.pending = s.pending ∧ t.wheel = s.wheel ∧ t.plan = s.plan ∧ t.rein = s.rein ∧ t.dram = s.dram ∧ t.dma = s.dma ∧ t.therm = s.therm ∧ t.img = s.img := by
  refine ⟨_, rfl, ?_⟩; simp
theorem execIoMgmtReceive_kept (tag : Nat) (s : State) :
    ∃ t, execIoMgmtReceive tag s = .next t ∧ t.pending = s.pending ∧ t.wheel = s.wheel ∧ t.plan = s.plan ∧ t.rein = s.rein ∧ t.dram = s.dram ∧ t.dma = s.dma ∧ t.therm = s.therm ∧ t.img = s.img ∧ t.awl = s.awl ∧ t.codec = s.codec ∧ t.map = s.map ∧ t.blk = s.blk ∧ t.girth = s.girth ∧ t.wb = s.wb ∧ t.dump = s.dump ∧ t.cipher = s.cipher ∧ t.skv = s.skv ∧ t.mc = s.mc ∧ t.media = s.media := by
  refine ⟨_, rfl, ?_⟩; simp
@[simp] theorem State.endHandle_kept (s : State) (h : Nat) :
    (State.endHandle s h).pending = s.pending ∧ (State.endHandle s h).wheel = s.wheel ∧ (State.endHandle s h).plan = s.plan ∧ (State.endHandle s h).rein = s.rein ∧ (State.endHandle s h).dram = s.dram ∧ (State.endHandle s h).dma = s.dma ∧ (State.endHandle s h).therm = s.therm ∧ (State.endHandle s h).img = s.img := by
  unfold State.endHandle; split <;> simp
theorem execRuhUpdate_kept (tag : Nat) (handles : List Nat) (s : State) :
    ∃ t, execRuhUpdate tag handles s = .next t ∧ t.pending = s.pending ∧ t.wheel = s.wheel ∧ t.plan = s.plan ∧ t.rein = s.rein ∧ t.dram = s.dram ∧ t.dma = s.dma ∧ t.therm = s.therm ∧ t.img = s.img := by
  refine ⟨_, rfl, ?_⟩; simp

end Sys2Proof.Machine
end

