-- ==== Sys2Proof/Laws/KeptStreams.lean ====
section
/-! SUPPORT. What each function of Sys2Proof/Machine/Streams.lean leaves unchanged: one lemma a function. -/
set_option linter.unusedTactic false
set_option linter.unreachableTactic false
set_option linter.unusedSimpArgs false
namespace Sys2Proof.Machine

@[simp] theorem State.streamEnds_kept (s : State) (tag : Nat) (ctx : Nat) (r : StreamRun) (decode : Bool) :
    (State.streamEnds s tag ctx r decode).pending = s.pending ∧ (State.streamEnds s tag ctx r decode).wheel = s.wheel ∧ (State.streamEnds s tag ctx r decode).plan = s.plan ∧ (State.streamEnds s tag ctx r decode).rein = s.rein ∧ (State.streamEnds s tag ctx r decode).dram = s.dram ∧ (State.streamEnds s tag ctx r decode).dma = s.dma ∧ (State.streamEnds s tag ctx r decode).therm = s.therm ∧ (State.streamEnds s tag ctx r decode).img = s.img := by
  unfold State.streamEnds; (repeat' split) <;> simp
@[simp] theorem State.streamToSpace_kept (s : State) (tag : Nat) (c : Cmd) (n : Namespace) (r : StreamRun) (decode : Bool) :
    (State.streamToSpace s tag c n r decode).pending = s.pending ∧ (State.streamToSpace s tag c n r decode).wheel = s.wheel ∧ (State.streamToSpace s tag c n r decode).plan = s.plan ∧ (State.streamToSpace s tag c n r decode).rein = s.rein ∧ (State.streamToSpace s tag c n r decode).dram = s.dram ∧ (State.streamToSpace s tag c n r decode).dma = s.dma ∧ (State.streamToSpace s tag c n r decode).therm = s.therm ∧ (State.streamToSpace s tag c n r decode).img = s.img := by
  unfold State.streamToSpace; (repeat' split) <;> simp
@[simp] theorem State.streamCmd_kept (s : State) (tag : Nat) (opc : Nat) (decode : Bool) (input : List Sys2Proof.Byte) (chain : List (BitVec 128)) :
    (State.streamCmd s tag opc decode input chain).pending = s.pending ∧ (State.streamCmd s tag opc decode input chain).wheel = s.wheel ∧ (State.streamCmd s tag opc decode input chain).plan = s.plan ∧ (State.streamCmd s tag opc decode input chain).rein = s.rein ∧ (State.streamCmd s tag opc decode input chain).dram = s.dram ∧ (State.streamCmd s tag opc decode input chain).dma = s.dma ∧ (State.streamCmd s tag opc decode input chain).therm = s.therm ∧ (State.streamCmd s tag opc decode input chain).img = s.img := by
  unfold State.streamCmd; refine ⟨?_, ?_, ?_, ?_, ?_, ?_, ?_, ?_⟩ <;> (repeat' (first | (simp; done) | (with_reducible refine State.begin_pending _ _ _ _ _ _ (fun y0 y1 => ?_)) | (with_reducible refine State.begin_wheel _ _ _ _ _ _ (fun y0 y1 => ?_)) | (with_reducible refine State.begin_plan _ _ _ _ _ _ (fun y0 y1 => ?_)) | (with_reducible refine State.begin_rein _ _ _ _ _ _ (fun y0 y1 => ?_)) | (with_reducible refine State.begin_dram _ _ _ _ _ _ (fun y0 y1 => ?_)) | (with_reducible refine State.begin_dma _ _ _ _ _ _ (fun y0 y1 => ?_)) | (with_reducible refine State.begin_therm _ _ _ _ _ _ (fun y0 y1 => ?_)) | (with_reducible refine State.begin_img _ _ _ _ _ _ (fun y0 y1 => ?_)) | split | dsimp only | simp))
theorem execSkiveStream_kept (tag : Nat) (input : List Sys2Proof.Byte) (chain : List (BitVec 128)) (s : State) :
    ∃ t, execSkiveStream tag input chain s = .next t ∧ t.pending = s.pending ∧ t.wheel = s.wheel ∧ t.plan = s.plan ∧ t.rein = s.rein ∧ t.dram = s.dram ∧ t.dma = s.dma ∧ t.therm = s.therm ∧ t.img = s.img := by
  refine ⟨_, rfl, ?_⟩; simp
theorem execUnskiveStream_kept (tag : Nat) (input : List Sys2Proof.Byte) (chain : List (BitVec 128)) (s : State) :
    ∃ t, execUnskiveStream tag input chain s = .next t ∧ t.pending = s.pending ∧ t.wheel = s.wheel ∧ t.plan = s.plan ∧ t.rein = s.rein ∧ t.dram = s.dram ∧ t.dma = s.dma ∧ t.therm = s.therm ∧ t.img = s.img := by
  refine ⟨_, rfl, ?_⟩; simp

end Sys2Proof.Machine
end

