-- ==== Sys2Proof/Laws/Tables.lean ====
section
/-! SUPPORT. Reads of finite tables after their updates. -/
namespace Sys2Proof.Machine
variable {α : Type}

@[simp] theorem Table.find_set_self (t : Table α) (k : Nat) (v : α) : Table.find (Table.set t k v) k = some v := by
  induction t with
  | nil => simp [Table.set, Table.find]
  | cons p t ih =>
    obtain ⟨j, w⟩ := p
    unfold Table.set
    split
    · simp [Table.find]
    · split
      · simp [Table.find]
      · simp [Table.find, *]

theorem Table.find_set_ne (t : Table α) (k j : Nat) (v : α) (h : j ≠ k) : Table.find (Table.set t k v) j = Table.find t j := by
  induction t with
  | nil => simp [Table.set, Table.find, h]
  | cons p t ih =>
    obtain ⟨i, w⟩ := p
    unfold Table.set
    split
    · simp [Table.find, h]
    · split
      · rename_i hk; subst hk; simp [Table.find, h]
      · simp [Table.find, ih]

@[simp] theorem Table.find_del_self (t : Table α) (k : Nat) : Table.find (Table.del t k) k = none := by
  induction t with
  | nil => rfl
  | cons p t ih =>
    obtain ⟨j, w⟩ := p
    unfold Table.del
    split
    · exact ih
    · simp [Table.find, *]

theorem Table.find_del_ne (t : Table α) (k j : Nat) (h : j ≠ k) : Table.find (Table.del t k) j = Table.find t j := by
  induction t with
  | nil => rfl
  | cons p t ih =>
    obtain ⟨i, w⟩ := p
    unfold Table.del
    split
    · rename_i hk; subst hk; simp [Table.find, h, ih]
    · simp [Table.find, ih]

theorem Table.find_modify_self (t : Table α) (k : Nat) (f : α → α) : Table.find (Table.modify t k f) k = (Table.find t k).map f := by
  unfold Table.modify
  split
  · rename_i v hv; simp [hv]
  · rename_i hv; simp [hv]

theorem Table.find_modify_ne (t : Table α) (k j : Nat) (f : α → α) (h : j ≠ k) : Table.find (Table.modify t k f) j = Table.find t j := by
  unfold Table.modify
  split
  · exact Table.find_set_ne _ _ _ _ h
  · rfl

@[simp] theorem Table.getD_set_self (t : Table α) (k : Nat) (v d : α) : Table.getD (Table.set t k v) k d = v := by
  simp [Table.getD]

theorem Table.getD_set_ne (t : Table α) (k j : Nat) (v d : α) (h : j ≠ k) : Table.getD (Table.set t k v) j d = Table.getD t j d := by
  simp [Table.getD, Table.find_set_ne t k j v h]

end Sys2Proof.Machine
end

