-- ==== Sys2Proof/Laws/Front.lean ====
section
/-! SUPPORT. The life of a host command's completion: what finishing does to the command table, how one waiting completion is posted, and the
answer of a command at hand. -/
namespace Sys2Proof.Machine

/-! ### The front end's tables through the operations that do not touch them -/

@[simp] theorem State.count_fe (s : State) (a b n : Nat) : (s.count a b n).fe = s.fe := rfl
@[simp] theorem State.count1_fe (s : State) (a : Nat) : (s.count1 a).fe = s.fe := rfl
@[simp] theorem State.arrayPump_fe (s : State) : s.arrayPump.fe = s.fe := rfl
@[simp] theorem State.recordEvent_fe (s : State) (a b : Nat) (xs : List Nat) : (s.recordEvent a b xs).fe = s.fe := by
  unfold State.recordEvent State.putRecord; split
  · rfl
  · split <;> rfl
@[simp] theorem State.leave_fe (s : State) (a b : Nat) (xs : List Nat) : (s.leave a b xs).fe = s.fe := by simp [State.leave]
@[simp] theorem State.writeRec_fe (s : State) (r : Region) (x : TsRec) : (s.writeRec r x).fe = s.fe := rfl

@[simp] theorem State.modCmd_cmd (s : State) (tag : Nat) (f : Cmd → Cmd) : (s.modCmd tag f).cmd tag = (s.cmd tag).map f := Table.find_modify_self _ _ _
@[simp] theorem State.modCmd_sq (s : State) (tag k : Nat) (f : Cmd → Cmd) : (s.modCmd tag f).sq k = s.sq k := rfl
@[simp] theorem State.modCmd_cq (s : State) (tag k : Nat) (f : Cmd → Cmd) : (s.modCmd tag f).cq k = s.cq k := rfl
@[simp] theorem State.leasePosted_cmd (s : State) (t k : Nat) : (s.leasePosted t).cmd k = s.cmd k := rfl
@[simp] theorem State.leasePosted_cq (s : State) (t k : Nat) : (s.leasePosted t).cq k = s.cq k := rfl
@[simp] theorem State.setCq_cmd (s : State) (k t : Nat) (q : Cq) : (s.setCq k q).cmd t = s.cmd t := rfl
@[simp] theorem State.setCq_cq (s : State) (k : Nat) (q : Cq) : (s.setCq k q).cq k = some q := Table.find_set_self _ _ _

theorem State.smartCount_tables (s : State) (c : Cmd) (b : Bool) :
    (s.smartCount c b).fe.cmds = s.fe.cmds ∧ (s.smartCount c b).fe.sqs = s.fe.sqs ∧ (s.smartCount c b).fe.cqs = s.fe.cqs ∧ (s.smartCount c b).fe.ready = s.fe.ready
      ∧ (s.smartCount c b).fe.mismatches = s.fe.mismatches := by
  unfold State.smartCount; split
  · simp
  · split <;> simp

theorem State.countCompleted_tables (s : State) (c : Cmd) :
    (s.countCompleted c).fe.cmds = s.fe.cmds ∧ (s.countCompleted c).fe.sqs = s.fe.sqs ∧ (s.countCompleted c).fe.cqs = s.fe.cqs
      ∧ (s.countCompleted c).fe.ready = s.fe.ready ∧ (s.countCompleted c).fe.mismatches = s.fe.mismatches := by
  unfold State.countCompleted
  split
  · simp
  · dsimp only
    split
    · simpa using s.smartCount_tables c _
    · split
      · simpa using s.smartCount_tables c _
      · exact s.smartCount_tables c _

theorem State.countCompleted_leases (s : State) (c : Cmd) : (s.countCompleted c).fe.leases = s.fe.leases := by
  unfold State.countCompleted State.smartCount; (repeat' split) <;> rfl

@[simp] theorem State.countCompleted_cmd (s : State) (c : Cmd) (t : Nat) : (s.countCompleted c).cmd t = s.cmd t := by
  simp [State.cmd, (s.countCompleted_tables c).1]

/-! ### Posting -/

/-- The one side that owes a completion posts it. -/
theorem State.postSide_one {s : State} {tag cid : Nat} {d : Cmd} {q : Sq} {x : SqSide} {cq : Cq} {r : CmdResult}
    (hc : s.cmd tag = some d) (hq : s.sq d.sq = some q) (hx : q.side d.port.rein = some x) (hcq : s.cq x.cq = some cq)
    (hid : cid < noCid) (hroom : cq.room = true) (hd : s.dump.since = false) :
    (s.postSide tag r (d.port.rein, cid)).cmd tag = some { d with reserved := true, owed := d.owed.filter (· ≠ (d.port.rein, cid)) }
      ∧ (s.postSide tag r (d.port.rein, cid)).cq x.cq = some (cq.post (sideEntry q x cid r d.out)) := by
  have hp : s.dumpPosts d r d.port.rein = true := by simp [State.dumpPosts, hd]
  unfold State.postSide
  simp only [hc, hq, hx, hcq, hid, hroom, hp, and_self, if_true]
  split <;> simp [hc]

/-- The only completion that waits is posted, and its tag is freed. -/
theorem State.postAll_one {s : State} {tag cid : Nat} {d : Cmd} {q : Sq} {x : SqSide} {cq : Cq} {r : CmdResult}
    (hready : s.fe.ready = [tag]) (hmis : s.fe.mismatches = []) (hc : s.cmd tag = some d) (hr : d.result = some r) (hheld : d.held = false)
    (howed : d.owed = [(d.port.rein, cid)]) (hq : s.sq d.sq = some q) (hx : q.side d.port.rein = some x) (hcq : s.cq x.cq = some cq)
    (hid : cid < noCid) (hroom : cq.room = true) (hd : s.dump.since = false) (htun : d.tunnelled = false) :
    Answered s.postAll tag q x cq cid r d.out := by
  obtain ⟨h1, h2⟩ := State.postSide_one (r := r) hc hq hx hcq hid hroom hd
  have hl : d.owed.filter (· ≠ (d.port.rein, cid)) = [] := by simp [howed]
  rw [hl] at h1
  have ht : d.sq ≠ sidebandKey ∧ d.sq ≠ inBandKey := by simpa [Cmd.tunnelled] using htun
  unfold State.postAll Answered
  simp only [hd, Bool.false_eq_true, if_false, hmis, List.foldl_nil, hready, List.foldl_cons]
  unfold State.postCmd
  simp only [hc, hr, hheld, howed, List.foldl_cons, List.foldl_nil, Bool.false_eq_true, if_false]
  unfold State.freeIfDone
  simp only [h1, hr, Option.isSome_some, and_self, if_true]
  refine ⟨?_, ?_⟩
  · simp [State.cmd]
  · unfold State.tunnelEnds
    simp only [ht.1, ht.2, if_false, Cmd.tunnelled, decide_false, Bool.or_self, Bool.false_eq_true]
    exact h2

/-- What posting the only waiting completion leaves: the state with its entry posted and its row gone. -/
theorem State.postAll_state {s : State} {tag cid : Nat} {d : Cmd} {q : Sq} {x : SqSide} {cq : Cq} {r : CmdResult}
    (hready : s.fe.ready = [tag]) (hmis : s.fe.mismatches = []) (hc : s.cmd tag = some d) (hr : d.result = some r) (hheld : d.held = false)
    (howed : d.owed = [(d.port.rein, cid)]) (hq : s.sq d.sq = some q) (hx : q.side d.port.rein = some x) (hcq : s.cq x.cq = some cq)
    (hid : cid < noCid) (hroom : cq.room = true) (hd : s.dump.since = false) (htun : d.tunnelled = false) :
    ∃ f : Cmd → Cmd, s.postAll = { s with
      obs := (if d.reserved then s else s.countCompleted d).obs,
      fe := { (if d.reserved then s else s.countCompleted d).fe with
        cqs := Table.set s.fe.cqs x.cq (cq.post (sideEntry q x cid r d.out)), cmds := Table.del (Table.modify s.fe.cmds tag f) tag, ready := [],
        leases := postLeases tag s.fe.leases } } := by
  have hl : d.owed.filter (· ≠ (d.port.rein, cid)) = [] := by simp [howed]
  obtain ⟨h1, -⟩ := State.postSide_one (r := r) hc hq hx hcq hid hroom hd
  rw [hl] at h1
  have ht : d.sq ≠ sidebandKey ∧ d.sq ≠ inBandKey := by simpa [Cmd.tunnelled] using htun
  have hcount : ∀ u : State, u.countCompleted d = { u with obs := (u.countCompleted d).obs, fe := (u.countCompleted d).fe } := by
    intro u; unfold State.countCompleted State.smartCount State.count; (repeat' split) <;> rfl
  refine ⟨fun c => { c with reserved := true, owed := c.owed.filter (· ≠ (d.port.rein, cid)) }, ?_⟩
  unfold State.postAll
  simp only [hd, Bool.false_eq_true, if_false, hmis, List.foldl_nil, hready, List.foldl_cons]
  unfold State.postCmd
  simp only [hc, hr, hheld, howed, List.foldl_cons, List.foldl_nil, Bool.false_eq_true, if_false]
  unfold State.freeIfDone
  simp only [h1, hr, Option.isSome_some, and_self, if_true]
  unfold State.tunnelEnds
  simp only [ht.1, ht.2, if_false, Cmd.tunnelled, decide_false, Bool.or_self, Bool.false_eq_true]
  have hp : s.dumpPosts d r d.port.rein = true := by simp [State.dumpPosts, hd]
  unfold State.postSide
  simp only [hc, hq, hx, hcq, hid, hroom, hp, and_self, if_true]
  split
  · simp [State.modCmd, State.setCq, State.leasePosted, hready]
  · obtain ⟨e1, e2, e3, e4, e5⟩ := s.countCompleted_tables d
    rw [hcount s]
    simp [State.modCmd, State.setCq, State.leasePosted, State.countCompleted_leases, e1, e3, e4, hready]

/-! ### Finishing -/

theorem State.addError_tables (s : State) (a b c d e f g : Nat) :
    (s.addError a b c d e f g).fe.cmds = s.fe.cmds ∧ (s.addError a b c d e f g).fe.sqs = s.fe.sqs ∧ (s.addError a b c d e f g).fe.cqs = s.fe.cqs
      ∧ (s.addError a b c d e f g).fe.ready = s.fe.ready ∧ (s.addError a b c d e f g).fe.mismatches = s.fe.mismatches := by
  simp [State.addError]

/-- A command that has no status yet gets one, and joins the completions that are due. -/
theorem State.finishCode_spec {s : State} {tag : Nat} {d : Cmd} {r : CmdResult} {code : Nat} (hc : s.cmd tag = some d) (hn : d.result = none) :
    (s.finishCode tag r code).cmd tag = some { d with result := some r, started := true }
      ∧ (s.finishCode tag r code).fe.ready = s.fe.ready ++ [tag] ∧ (s.finishCode tag r code).fe.sqs = s.fe.sqs
      ∧ (s.finishCode tag r code).fe.cqs = s.fe.cqs ∧ (s.finishCode tag r code).fe.mismatches = s.fe.mismatches := by
  have hm : Table.find (Table.modify s.fe.cmds tag fun c => { c with result := some r, started := true }) tag = some { d with result := some r, started := true } := by
    rw [Table.find_modify_self]; simp only [State.cmd] at hc; rw [hc]; rfl
  unfold State.finishCode
  simp only [hc, hn, Option.isSome_none, Bool.false_eq_true, if_false]
  split
  · exact ⟨hm, rfl, rfl, rfl, rfl⟩
  · refine ⟨?_, rfl, rfl, rfl, rfl⟩
    exact hm

/-! ### A command at hand and its answer -/

/-- What a meaning `f` must have done for its command to be answered: the command's row has the status and the data, and nothing else of the tables
that posting reads has changed. -/
structure Proposed (s u : State) (tag : Nat) (c : Cmd) (r : CmdResult) (data : List Byte) : Prop where
  row : u.cmd tag = some { c with started := true, result := some r, out := data }
  ready : u.fe.ready = [tag]
  mismatches : u.fe.mismatches = []
  sqs : u.fe.sqs = s.fe.sqs
  cqs : u.fe.cqs = s.fe.cqs
  awake : u.dump.since = false

theorem Proposed.answered {s u : State} {tag cid : Nat} {c : Cmd} {q : Sq} {x : SqSide} {cq : Cq} {r : CmdResult} {data : List Byte}
    (h : AtHand s tag c q x cq cid) (p : Proposed s u tag c r data) : Answered u.postAll tag q x cq cid r data := by
  have hq : u.sq c.sq = some q := by rw [State.sq, p.sqs]; exact h.queue
  have hcq : u.cq x.cq = some cq := by rw [State.cq, p.cqs]; exact h.place
  exact State.postAll_one p.ready p.mismatches p.row rfl h.fresh.2.2 h.owes hq h.side hcq h.fetched h.room p.awake h.queued

/-- A command at hand whose row waits for this meaning begins. -/
theorem AtHand.begin {s : State} {tag cid : Nat} {c : Cmd} {q : Sq} {x : SqSide} {cq : Cq} (h : AtHand s tag c q x cq cid) {admin : Bool} {opc : Nat}
    {sel : Cmd → Bool} {f : State → Cmd → State} (hw : c.waits admin opc = true) (hs : sel c = true) :
    s.begin tag admin opc sel f = ((f (s.modCmd tag fun c => { c with started := true }) c).postAll).arrayPump := by
  unfold State.begin
  simp [h.row, hw, hs, h.runs]

/-- The state in which the meaning of a command at hand runs. -/
theorem AtHand.started {s : State} {tag cid : Nat} {c : Cmd} {q : Sq} {x : SqSide} {cq : Cq} (h : AtHand s tag c q x cq cid) :
    (s.modCmd tag fun c => { c with started := true }).cmd tag = some { c with started := true } := by simp [h.row]

/-- The meaning ends with `finishCode`, after changes that leave the command table, the queues and the completions due as they are. -/
theorem AtHand.finished {s u : State} {tag cid : Nat} {c : Cmd} {q : Sq} {x : SqSide} {cq : Cq} (h : AtHand s tag c q x cq cid) {r : CmdResult} {code : Nat}
    {data : List Byte} (hrow : u.cmd tag = some { c with started := true, out := data }) (hready : u.fe.ready = s.fe.ready)
    (hm : u.fe.mismatches = s.fe.mismatches) (hsq : u.fe.sqs = s.fe.sqs) (hcq : u.fe.cqs = s.fe.cqs)
    (hd : u.dump.since = false) : Proposed s (u.finishCode tag r code) tag c r data := by
  obtain ⟨h1, h2, h3, h4, h5⟩ := State.finishCode_spec (r := r) (code := code) hrow h.fresh.2.1
  refine ⟨?_, ?_, ?_, ?_, ?_, ?_⟩
  · rw [h1]
  · rw [h2, hready, h.alone.1]; rfl
  · rw [h5, hm, h.alone.2]
  · rw [h3, hsq]
  · rw [h4, hcq]
  · simpa using hd

/-- A command at hand that answers with data, in a state whose front end is the one the command began in, is answered so. -/
theorem AtHand.answer {s u : State} {tag cid : Nat} {c : Cmd} {q : Sq} {x : SqSide} {cq : Cq} (h : AtHand s tag c q x cq cid) (data : List Byte)
    (hu : u.fe = (s.modCmd tag fun c => { c with started := true }).fe) (hd : u.dump.since = false) : Answered (u.answer tag data).postAll.arrayPump tag q x cq cid ok data := by
  have hrow : (u.modCmd tag fun c => { c with out := data }).cmd tag = some { c with started := true, out := data } := by
    have hs := h.started
    rw [State.modCmd_cmd]
    simp only [State.cmd] at hs ⊢
    rw [hu, hs]; rfl
  have hfe : ∀ {α : Type} (p : FeState → α), p (u.modCmd tag fun c => { c with out := data }).fe = p { (s.modCmd tag fun c => { c with started := true }).fe with
      cmds := Table.modify (s.modCmd tag fun c => { c with started := true }).fe.cmds tag fun c => { c with out := data } } := by
    intro α p; simp only [State.modCmd, hu]
  exact (h.finished (code := 0) (r := ok) hrow (hfe FeState.ready) (hfe FeState.mismatches) (hfe FeState.sqs) (hfe FeState.cqs) hd).answered h

/-- A command at hand that ends with a status, in a state whose front end is the one the command began in, is answered so. -/
theorem AtHand.finish {s u : State} {tag cid : Nat} {c : Cmd} {q : Sq} {x : SqSide} {cq : Cq} (h : AtHand s tag c q x cq cid) (r : CmdResult) (code : Nat)
    (hu : u.fe = (s.modCmd tag fun c => { c with started := true }).fe) (hd : u.dump.since = false) :
    Answered (u.finishCode tag r code).postAll.arrayPump tag q x cq cid r c.out := by
  have hrow : u.cmd tag = some { c with started := true, out := c.out } := by
    have := h.started
    simp only [State.cmd] at this ⊢
    rw [hu, this]
  exact (h.finished (code := code) (r := r) hrow (by rw [hu]; rfl) (by rw [hu]; rfl) (by rw [hu]; rfl) (by rw [hu]; rfl) hd).answered h

/-! ### Commands that only answer -/

/-- The state of a meaning that has changed nothing yet but the row of its command. -/
structure Begun (s u : State) (tag : Nat) : Prop where
  fe : u.fe = (s.modCmd tag fun c => { c with started := true }).fe
  frame : SameFrame s u
  data : SameData s u
  pkg : u.pkg = s.pkg
  fault : u.fault = s.fault

theorem Begun.self (s : State) (tag : Nat) : Begun s (s.modCmd tag fun c => { c with started := true }) tag :=
  ⟨rfl, by simp [SameFrame], by simp [SameData], rfl, rfl⟩

/-- What posting a proposed completion does when the meaning has been quiet. -/
theorem AtHand.served {s u : State} {tag cid : Nat} {c : Cmd} {q : Sq} {x : SqSide} {cq : Cq} {r : CmdResult} {data : List Byte}
    (h : AtHand s tag c q x cq cid) (p : Proposed s u tag c r data) (hf : SameFrame s u) (hd : SameData s u) (hk : u.pkg = s.pkg) (hl : u.fault = s.fault)
    (hrows : ∀ n, n ≠ tag → u.cmd n = s.cmd n)
    (hrest : { u.fe with cmds := s.fe.cmds, ready := s.fe.ready, errors := s.fe.errors, errorCount := s.fe.errorCount } = s.fe) :
    Served s u.postAll.arrayPump tag q x cq cid r data := by
  have hq : u.sq c.sq = some q := by rw [State.sq, p.sqs]; exact h.queue
  have hcq : u.cq x.cq = some cq := by rw [State.cq, p.cqs]; exact h.place
  obtain ⟨f, hs⟩ := State.postAll_state p.ready p.mismatches p.row rfl h.fresh.2.2 h.owes hq h.side hcq h.fetched h.room p.awake h.queued
  refine ⟨p.answered h, ?_, ?_, ⟨?_, ?_, ?_, ?_⟩, ?_, ?_⟩
  · simpa [SameFrame] using hf
  · simpa [SameData] using hd
  · intro n hn
    have : (u.postAll.arrayPump).cmd n = u.cmd n := by
      rw [hs]; simp only [State.cmd, State.arrayPump]
      rw [Table.find_del_ne _ _ _ hn, Table.find_modify_ne _ _ _ _ hn]
    rw [this, hrows n hn]
  · intro n hn
    have : (u.postAll.arrayPump).cq n = u.cq n := by
      rw [hs]; simp only [State.cq, State.arrayPump]
      rw [Table.find_set_ne _ _ _ _ hn]
    rw [this, State.cq, p.cqs]; rfl
  · have e := congrArg FeState.ready hrest
    have key : ∀ v : State, (v = u ∨ v = u.countCompleted { c with started := true, result := some r, out := data }) →
        { v.fe with cmds := s.fe.cmds, cqs := s.fe.cqs, ready := s.fe.ready, errors := s.fe.errors, errorCount := s.fe.errorCount, hostReads := s.fe.hostReads,
                    hostWrites := s.fe.hostWrites, unitsRead := s.fe.unitsRead, unitsWritten := s.fe.unitsWritten, leases := s.fe.leases } = s.fe := by
      have base :
        { u.fe with cmds := s.fe.cmds, cqs := s.fe.cqs, ready := s.fe.ready, errors := s.fe.errors, errorCount := s.fe.errorCount, hostReads := s.fe.hostReads,
                    hostWrites := s.fe.hostWrites, unitsRead := s.fe.unitsRead, unitsWritten := s.fe.unitsWritten, leases := s.fe.leases } = s.fe := by
        have := congrArg (fun g : FeState => { g with cqs := s.fe.cqs, hostReads := s.fe.hostReads, hostWrites := s.fe.hostWrites, unitsRead := s.fe.unitsRead, unitsWritten := s.fe.unitsWritten, leases := s.fe.leases }) hrest
        exact this
      intro v hv
      rcases hv with rfl | rfl
      · exact base
      · unfold State.countCompleted State.smartCount State.count
        (repeat' split) <;> exact base
    rw [hs]
    have hr : s.fe.ready = [] := h.alone.1
    split
    · have := key u (.inl rfl); rw [hr] at this; simpa [State.arrayPump] using this
    · have := key _ (.inr rfl); rw [hr] at this; simpa [State.arrayPump] using this
  · rw [hs]
    have := congrArg FeState.leases hrest
    exact congrArg (postLeases tag) this
  · rw [hs]; exact hk
  · rw [hs]; exact hl

theorem Begun.rows {s u : State} {tag : Nat} (b : Begun s u tag) (n : Nat) (hn : n ≠ tag) : u.cmd n = s.cmd n := by
  simp only [State.cmd, b.fe, State.modCmd]; exact Table.find_modify_ne _ _ _ _ hn

theorem State.finishCode_rows (s : State) (tag : Nat) (r : CmdResult) (code n : Nat) (hn : n ≠ tag) : (s.finishCode tag r code).cmd n = s.cmd n := by
  have h : ∀ f : Cmd → Cmd, Table.find (Table.modify s.fe.cmds tag f) n = Table.find s.fe.cmds n := fun f => Table.find_modify_ne _ _ _ _ hn
  unfold State.finishCode
  split
  · rfl
  · split
    · rfl
    · dsimp only; split <;> exact h _

theorem State.finishCode_rest (s : State) (tag : Nat) (r : CmdResult) (code : Nat) :
    { (s.finishCode tag r code).fe with cmds := s.fe.cmds, ready := s.fe.ready, errors := s.fe.errors, errorCount := s.fe.errorCount } = s.fe := by
  unfold State.finishCode
  split
  · rfl
  · split
    · rfl
    · dsimp only; split <;> rfl

theorem State.finishCode_pkg (s : State) (tag : Nat) (r : CmdResult) (code : Nat) : (s.finishCode tag r code).pkg = s.pkg ∧ (s.finishCode tag r code).fault = s.fault := by
  unfold State.finishCode
  split
  · simp
  · split
    · simp
    · dsimp only; split <;> simp [State.addError, State.modCmd]

/-- A meaning that leaves the user's data alone begins no dump. -/
theorem AtHand.stays_awake {s u : State} {tag cid : Nat} {c : Cmd} {q : Sq} {x : SqSide} {cq : Cq} (h : AtHand s tag c q x cq cid) (hd : SameData s u) :
    u.dump.since = false := by
  rw [hd.2.2.2.2.2.2.1]; exact h.awake

/-- A command at hand whose meaning has filled its data, and left the rest of the front end alone, is served with its status. -/
theorem AtHand.served_code {s u : State} {tag cid : Nat} {c : Cmd} {q : Sq} {x : SqSide} {cq : Cq} (h : AtHand s tag c q x cq cid) (r : CmdResult) (code : Nat)
    {data : List Byte} (hrow : u.cmd tag = some { c with started := true, out := data }) (hrows : ∀ n, n ≠ tag → u.cmd n = s.cmd n)
    (hfe : { u.fe with cmds := s.fe.cmds } = s.fe) (hf : SameFrame s u) (hd : SameData s u) (hk : u.pkg = s.pkg) (hl : u.fault = s.fault) :
    Served s (u.finishCode tag r code).postAll.arrayPump tag q x cq cid r data := by
  have hp : Proposed s (u.finishCode tag r code) tag c r data :=
    h.finished hrow (congrArg FeState.ready hfe :) (congrArg FeState.mismatches hfe :) (congrArg FeState.sqs hfe :) (congrArg FeState.cqs hfe :)
      (h.stays_awake hd)
  refine h.served hp ?_ ?_ ?_ ?_ ?_ ?_
  · simpa [SameFrame] using hf
  · simpa [SameData] using hd
  · rw [(u.finishCode_pkg tag r code).1, hk]
  · rw [(u.finishCode_pkg tag r code).2, hl]
  · intro n hn; rw [u.finishCode_rows tag r code n hn, hrows n hn]
  · have e' := congrArg (fun g : FeState => { g with cmds := s.fe.cmds, ready := s.fe.ready, errors := s.fe.errors, errorCount := s.fe.errorCount })
      (u.finishCode_rest tag r code)
    refine e'.trans ?_
    exact congrArg (fun g : FeState => { g with ready := s.fe.ready, errors := s.fe.errors, errorCount := s.fe.errorCount }) hfe

/-- A command at hand whose meaning only ends with a status is served so. -/
theorem AtHand.served_finish {s u : State} {tag cid : Nat} {c : Cmd} {q : Sq} {x : SqSide} {cq : Cq} (h : AtHand s tag c q x cq cid) (r : CmdResult) (code : Nat)
    (b : Begun s u tag) : Served s (u.finishCode tag r code).postAll.arrayPump tag q x cq cid r c.out := by
  refine h.served_code r code ?_ b.rows (by rw [b.fe]; rfl) b.frame b.data b.pkg b.fault
  have := h.started
  simp only [State.cmd] at this ⊢
  rw [b.fe, this]

/-- A command at hand whose meaning only answers with data is served so. -/
theorem AtHand.served_answer {s u : State} {tag cid : Nat} {c : Cmd} {q : Sq} {x : SqSide} {cq : Cq} (h : AtHand s tag c q x cq cid) (data : List Byte)
    (b : Begun s u tag) : Served s (u.answer tag data).postAll.arrayPump tag q x cq cid ok data := by
  refine h.served_code (u := u.modCmd tag fun c => { c with out := data }) ok 0 ?_ ?_ ?_ ?_ ?_ b.pkg b.fault
  · have hs := h.started
    rw [State.modCmd_cmd]
    simp only [State.cmd] at hs ⊢
    rw [b.fe, hs]; rfl
  · intro n hn
    rw [← b.rows n hn]; exact Table.find_modify_ne _ _ _ _ hn
  · simp only [State.modCmd, b.fe]
  · simpa [SameFrame] using b.frame
  · simpa [SameData] using b.data

/-- A malformed command at hand is served with its status. -/
theorem AtHand.served_malformed {s u : State} {tag cid : Nat} {c : Cmd} {q : Sq} {x : SqSide} {cq : Cq} (h : AtHand s tag c q x cq cid) (d : Cmd) (r : CmdResult)
    (b : Begun s u tag) : Served s (u.malformed tag d r).postAll.arrayPump tag q x cq cid r c.out := by
  unfold State.malformed
  refine h.served_finish r 0x0B02 ⟨?_, ?_, ?_, ?_, ?_⟩
  · simpa using b.fe
  · simpa [SameFrame] using b.frame
  · simpa [SameData] using b.data
  · rw [← b.pkg]; unfold State.leave State.recordEvent State.putRecord; (repeat' split) <;> rfl
  · rw [← b.fault]; unfold State.leave State.recordEvent State.putRecord; (repeat' split) <;> simp [reportOf, State.count]

/-- A command at hand that waits for a meaning which only answers: what it comes to. -/
theorem AtHand.begin_served {s : State} {tag cid : Nat} {c : Cmd} {q : Sq} {x : SqSide} {cq : Cq} (h : AtHand s tag c q x cq cid) {admin : Bool} {opc : Nat}
    {sel : Cmd → Bool} {f : State → Cmd → State} {r : CmdResult} {data : List Byte} (hw : c.waits admin opc = true) (hs : sel c = true)
    (hf : Served s (f (s.modCmd tag fun c => { c with started := true }) c).postAll.arrayPump tag q x cq cid r data) :
    Served s (s.begin tag admin opc sel f) tag q x cq cid r data := by
  rw [h.begin hw hs]; exact hf

/-- Posting an admin command's completion counts nothing and leaves no record. -/
theorem AtHand.posted_obs {s u : State} {tag cid : Nat} {c : Cmd} {q : Sq} {x : SqSide} {cq : Cq} {r : CmdResult} {data : List Byte}
    (h : AtHand s tag c q x cq cid) (ha : c.admin = true) (p : Proposed s u tag c r data) : u.postAll.arrayPump.obs = u.obs := by
  have hq : u.sq c.sq = some q := by rw [State.sq, p.sqs]; exact h.queue
  have hcq : u.cq x.cq = some cq := by rw [State.cq, p.cqs]; exact h.place
  obtain ⟨f, hs⟩ := State.postAll_state p.ready p.mismatches p.row rfl h.fresh.2.2 h.owes hq h.side hcq h.fetched h.room p.awake h.queued
  rw [hs]
  simp [State.arrayPump, State.countCompleted, ha]

theorem State.finishCode_obs (s : State) (tag : Nat) (r : CmdResult) (code : Nat) : (s.finishCode tag r code).obs = s.obs := by
  unfold State.finishCode
  split
  · rfl
  · split
    · rfl
    · dsimp only; split <;> rfl

/-- The row, the completions due and the queues once a command at hand has its status: what `served_code` posts. -/
theorem AtHand.proposed {s u : State} {tag cid : Nat} {c : Cmd} {q : Sq} {x : SqSide} {cq : Cq} (h : AtHand s tag c q x cq cid) (r : CmdResult) (code : Nat)
    {data : List Byte} (hrow : u.cmd tag = some { c with started := true, out := data }) (hfe : { u.fe with cmds := s.fe.cmds } = s.fe) (hd : u.dump.since = false) :
    Proposed s (u.finishCode tag r code) tag c r data :=
  h.finished hrow (congrArg FeState.ready hfe :) (congrArg FeState.mismatches hfe :) (congrArg FeState.sqs hfe :) (congrArg FeState.cqs hfe :) hd

theorem Begun.row {s u : State} {tag cid : Nat} {c : Cmd} {q : Sq} {x : SqSide} {cq : Cq} (b : Begun s u tag) (h : AtHand s tag c q x cq cid) :
    u.cmd tag = some { c with started := true } := by
  have := h.started
  simp only [State.cmd] at this ⊢
  rw [b.fe, this]

/-- The records and counters after an admin command that only ends with a status, or only answers. -/
theorem AtHand.finish_obs {s u : State} {tag cid : Nat} {c : Cmd} {q : Sq} {x : SqSide} {cq : Cq} (h : AtHand s tag c q x cq cid) (ha : c.admin = true)
    (r : CmdResult) (code : Nat) (b : Begun s u tag) : (u.finishCode tag r code).postAll.arrayPump.obs = u.obs := by
  rw [h.posted_obs ha (h.proposed r code (data := c.out) (b.row h) (by rw [b.fe]; rfl) (h.stays_awake b.data)), State.finishCode_obs]
theorem AtHand.answer_obs {s u : State} {tag cid : Nat} {c : Cmd} {q : Sq} {x : SqSide} {cq : Cq} (h : AtHand s tag c q x cq cid) (ha : c.admin = true)
    (data : List Byte) (b : Begun s u tag) : (u.answer tag data).postAll.arrayPump.obs = u.obs := by
  have hrow : (u.modCmd tag fun c => { c with out := data }).cmd tag = some { c with started := true, out := data } := by
    rw [State.modCmd_cmd, b.row h]; rfl
  have e := h.posted_obs ha (h.proposed (u := u.modCmd tag fun c => { c with out := data }) ok 0 hrow (by simp only [State.modCmd, b.fe]) (h.stays_awake b.data))
  refine e.trans ?_
  rw [State.finishCode_obs]; rfl

theorem State.postAll_idle {s : State} (h1 : s.fe.ready = []) (h2 : s.fe.mismatches = []) : s.postAll = s := by
  unfold State.postAll; simp [h1, h2]

/-- What the checks of a row that waits say of it. -/
theorem Cmd.waits_eq {c : Cmd} {admin : Bool} {opc : Nat} (h : c.waits admin opc = true) :
    c.started = false ∧ c.result = none ∧ c.admin = admin ∧ sqeOpc c.entry = opc := by
  simp [Cmd.waits] at h; exact ⟨h.1.1.1, h.1.1.2, h.1.2, h.2⟩

end Sys2Proof.Machine
end

