-- ==== Sys2Proof/Laws/LogPages.lean ====
section
/-! SUPPORT. Get Log Page: what answering a page says once for every page. -/
namespace Sys2Proof.Machine

theorem AtHand.logRead {s : State} {tag cid : Nat} {c : Cmd} {q : Sq} {x : SqSide} {cq : Cq} (h : AtHand s tag c q x cq cid) :
    AtHand (s.logRead c) tag c q x cq cid := by
  unfold State.logRead; split
  · exact h
  · exact ⟨h.row, h.fresh, h.owes, h.fetched, h.queue, h.side, h.place, h.room, h.alone, h.runs, h.awake, h.queued⟩

theorem Begun.logRead {s u : State} {tag : Nat} (b : Begun s u tag) (c : Cmd) : Begun (s.logRead c) (u.logRead c) tag := by
  obtain ⟨b1, b2, b3, b4, b5⟩ := b
  unfold State.logRead
  split
  · exact ⟨b1, b2, b3, b4, b5⟩
  · exact ⟨by simp only [State.clearEvents, State.modCmd, b1], b2, b3, b4, b5⟩

/-- A page whose other bytes are 0. -/
theorem AtHand.givePage {s u : State} {tag cid : Nat} {c : Cmd} {q : Sq} {x : SqSide} {cq : Cq} (h : AtHand s tag c q x cq cid) (b : Begun s u tag)
    (len : Nat) (pg : Page) : LogAnswered s (u.givePage tag c len pg).postAll.arrayPump tag c q x cq cid len (fun _ => 0#8) pg := by
  unfold LogAnswered State.givePage
  split
  · exact h.served_finish _ _ b
  · exact h.logRead.served_answer _ (b.logRead c)

/-- A page whose other bytes are free. -/
theorem AtHand.giveFree {s u : State} {tag cid : Nat} {c : Cmd} {q : Sq} {x : SqSide} {cq : Cq} (h : AtHand s tag c q x cq cid) (b : Begun s u tag)
    {lid : Nat} (hl : logLid c = lid) (hf : u.free = s.free) (len : Nat) (pg : Page) :
    LogAnswered s (u.giveFree tag c len pg).postAll.arrayPump tag c q x cq cid len (fun i => Config.logByte lid i s.free) pg := by
  subst hl
  unfold LogAnswered State.giveFree
  split
  · exact h.served_finish _ _ b
  · rw [hf]
    refine h.logRead.served_answer _ (Begun.logRead (u := { u with free := s.free + 1 }) ?_ c)
    exact ⟨b.fe, b.frame, b.data, b.pkg, b.fault⟩

/-- The records and counters after a page without free bytes. -/
theorem AtHand.givePage_obs {s u : State} {tag cid : Nat} {c : Cmd} {q : Sq} {x : SqSide} {cq : Cq} (h : AtHand s tag c q x cq cid) (ha : c.admin = true)
    (b : Begun s u tag) (len : Nat) (pg : Page) : (u.givePage tag c len pg).postAll.arrayPump.obs = u.obs := by
  unfold State.givePage
  split
  · exact h.finish_obs ha _ _ b
  · rw [h.logRead.answer_obs ha _ (b.logRead c)]
    unfold State.logRead; split <;> rfl

/-- A Get Log Page at hand begins. -/
theorem AtHand.getLog {s : State} {tag cid : Nat} {c : Cmd} {q : Sq} {x : SqSide} {cq : Cq} (h : AtHand s tag c q x cq cid) {lid : Nat}
    (hw : c.waits true 0x02 = true) (e : logLid c = lid) {sel : Cmd → Bool} (hs : sel c = true) {f : State → Cmd → State} :
    s.getLog tag lid sel f = ((f (s.modCmd tag fun c => { c with started := true }) c).postAll).arrayPump := by
  unfold State.getLog
  exact h.begin hw (by simp [e, hs])

end Sys2Proof.Machine
end

