-- ==== Sys2Proof/Laws/Memory.lean ====
section
/-! SUPPORT. Sparse areas: the image slot, the option block, the staging area and the shadow SRAM. Every operation on them keeps
the one form, a byte reads as it was last programmed, and no other byte changes. -/
namespace Sys2Proof.Machine

theorem Table.wf_tail {α : Type} {p : Nat × α} {t : Table α} (h : Table.wf (p :: t) = true) : Table.wf t = true := by
  cases t with
  | nil => rfl
  | cons q t => obtain ⟨i, v⟩ := p; obtain ⟨j, w⟩ := q; simp only [Table.wf, Bool.and_eq_true] at h; exact h.2

/-- A table is in its form exactly when its head lies below every later key and its tail is in that form. -/
theorem Table.wf_cons {α : Type} (k : Nat) (v : α) (t : Table α) :
    Table.wf ((k, v) :: t) = true ↔ (∀ p ∈ t, k < p.1) ∧ Table.wf t = true := by
  induction t generalizing k v with
  | nil => simp [Table.wf]
  | cons p t ih =>
    obtain ⟨j, w⟩ := p
    constructor
    · intro h
      have ht : Table.wf ((j, w) :: t) = true := Table.wf_tail h
      have hk : k < j := by simp only [Table.wf, Bool.and_eq_true, decide_eq_true_eq] at h; exact h.1
      refine ⟨fun q hq => ?_, ht⟩
      rcases List.mem_cons.mp hq with rfl | hq
      · exact hk
      · exact Nat.lt_trans hk ((ih j w).mp ht |>.1 q hq)
    · rintro ⟨h, ht⟩
      simp only [Table.wf, Bool.and_eq_true, decide_eq_true_eq]
      exact ⟨h (j, w) (by simp), ht⟩

theorem Table.mem_set {α : Type} (t : Table α) (k : Nat) (v : α) {p : Nat × α} (h : p ∈ Table.set t k v) : p = (k, v) ∨ p ∈ t := by
  induction t with
  | nil => simpa [Table.set] using h
  | cons q t ih =>
    obtain ⟨j, w⟩ := q
    unfold Table.set at h
    split at h
    · simpa using h
    · split at h
      · rcases List.mem_cons.mp h with rfl | h
        · exact .inl rfl
        · exact .inr (by simp [h])
      · rcases List.mem_cons.mp h with rfl | h
        · exact .inr (by simp)
        · rcases ih h with rfl | h
          · exact .inl rfl
          · exact .inr (by simp [h])

theorem Table.wf_set {α : Type} (t : Table α) (k : Nat) (v : α) (h : Table.wf t = true) : Table.wf (Table.set t k v) = true := by
  induction t with
  | nil => rfl
  | cons q t ih =>
    obtain ⟨j, w⟩ := q
    obtain ⟨hj, ht⟩ := (Table.wf_cons j w t).mp h
    unfold Table.set
    split
    · rename_i hk
      refine (Table.wf_cons _ _ _).mpr ⟨fun p hp => ?_, h⟩
      rcases List.mem_cons.mp hp with rfl | hp
      · exact hk
      · exact Nat.lt_trans hk (hj p hp)
    · split
      · rename_i hk; subst hk; exact (Table.wf_cons _ _ _).mpr ⟨hj, ht⟩
      · refine (Table.wf_cons _ _ _).mpr ⟨fun p hp => ?_, ih ht⟩
        rcases Table.mem_set t k v hp with rfl | hp
        · show j < k; omega
        · exact hj p hp

theorem Table.mem_del {α : Type} (t : Table α) (k : Nat) {p : Nat × α} (h : p ∈ Table.del t k) : p ∈ t := by
  induction t with
  | nil => simp [Table.del] at h
  | cons q t ih =>
    obtain ⟨j, w⟩ := q
    unfold Table.del at h
    split at h
    · exact List.mem_cons_of_mem _ (ih h)
    · rcases List.mem_cons.mp h with rfl | h
      · simp
      · exact List.mem_cons_of_mem _ (ih h)

theorem Table.wf_del {α : Type} (t : Table α) (k : Nat) (h : Table.wf t = true) : Table.wf (Table.del t k) = true := by
  induction t with
  | nil => rfl
  | cons q t ih =>
    obtain ⟨j, w⟩ := q
    obtain ⟨hj, ht⟩ := (Table.wf_cons j w t).mp h
    unfold Table.del
    split
    · exact ih ht
    · exact (Table.wf_cons _ _ _).mpr ⟨fun p hp => hj p (Table.mem_del t k hp), ih ht⟩

theorem Table.wf_filter {α : Type} (t : Table α) (f : Nat × α → Bool) (h : Table.wf t = true) : Table.wf (t.filter f) = true := by
  induction t with
  | nil => rfl
  | cons q t ih =>
    obtain ⟨j, w⟩ := q
    obtain ⟨hj, ht⟩ := (Table.wf_cons j w t).mp h
    rw [List.filter_cons]
    split
    · exact (Table.wf_cons _ _ _).mpr ⟨fun p hp => hj p (List.mem_filter.mp hp).1, ih ht⟩
    · exact ih ht

theorem Memory.wf_iff (m : List Host.Cell) : Memory.wf m = true ↔ Table.wf m = true ∧ ∀ p ∈ m, p.2 ≠ 0xFF#8 := by
  simp only [Memory.wf, Bool.and_eq_true, List.all_eq_true, decide_eq_true_eq]

theorem Memory.wf_nil : Memory.wf [] = true := rfl

/-- Programming one byte keeps the form. -/
theorem Memory.wf_put (m : List Host.Cell) (k : Nat) (b : Byte) (h : Memory.wf m = true) : Memory.wf (Table.put 0xFF#8 m k b) = true := by
  obtain ⟨ht, hb⟩ := (Memory.wf_iff m).mp h
  refine (Memory.wf_iff _).mpr ?_
  unfold Table.put
  split
  · exact ⟨Table.wf_del m k ht, fun p hp => hb p (Table.mem_del m k hp)⟩
  · rename_i hn
    refine ⟨Table.wf_set m k b ht, fun p hp => ?_⟩
    rcases Table.mem_set m k b hp with rfl | hp
    · exact hn
    · exact hb p hp

/-- Programming bytes keeps the form. -/
theorem Memory.wf_programBytes (m : List Host.Cell) (off : Nat) (bs : List Byte) (h : Memory.wf m = true) :
    Memory.wf (programBytes m off bs) = true := by
  induction bs generalizing m off with
  | nil => exact h
  | cons b bs ih => exact ih _ _ (Memory.wf_put m off b h)

/-- An erase, which leaves out the bytes of a sector, keeps the form. -/
theorem Memory.wf_filter (m : List Host.Cell) (f : Host.Cell → Bool) (h : Memory.wf m = true) : Memory.wf (m.filter f) = true := by
  obtain ⟨ht, hb⟩ := (Memory.wf_iff m).mp h
  exact (Memory.wf_iff _).mpr ⟨Table.wf_filter m f ht, fun p hp => hb p (List.mem_filter.mp hp).1⟩

/-- The erase of any sector keeps the image slot's form and leaves the option block alone. -/
theorem TsState.eraseSector_wf (t : TsState) (sector : Nat) (h : Memory.wf t.image = true) :
    Memory.wf (t.eraseSector sector).image = true ∧ (t.eraseSector sector).option = t.option := by
  unfold TsState.eraseSector
  split
  · refine ⟨?_, ?_⟩ <;> (unfold TsState.setRing; simp [h])
  · split
    · exact ⟨Memory.wf_filter _ _ h, rfl⟩
    · exact ⟨h, rfl⟩

/-- At reset every sparse area is blank. -/
theorem State.reset_memory_wf : Memory.wf State.reset.ts.image = true ∧ Memory.wf State.reset.ts.option = true ∧ Memory.wf State.reset.ts.shadow = true := ⟨rfl, rfl, rfl⟩

/-- A byte just programmed reads as programmed. -/
@[simp] theorem blankByte_put_self (m : List Host.Cell) (k : Nat) (b : Byte) : blankByte (Table.put 0xFF#8 m k b) k = b := by
  unfold blankByte Table.put Table.getD
  split
  · simp_all
  · simp

/-- Every other byte reads as before. -/
theorem blankByte_put_ne (m : List Host.Cell) (k a : Nat) (b : Byte) (h : a ≠ k) : blankByte (Table.put 0xFF#8 m k b) a = blankByte m a := by
  unfold blankByte Table.put Table.getD
  split
  · rw [Table.find_del_ne _ _ _ h]
  · rw [Table.find_set_ne _ _ _ _ h]

/-- Bytes outside the programmed span read as before. -/
theorem blankByte_programBytes_out (m : List Host.Cell) (off a : Nat) (bs : List Byte) (h : a < off ∨ off + bs.length ≤ a) :
    blankByte (programBytes m off bs) a = blankByte m a := by
  induction bs generalizing m off with
  | nil => rfl
  | cons b bs ih =>
    simp only [List.length_cons] at h
    have ha : a ≠ off := by omega
    unfold programBytes
    rw [ih _ _ (by omega), blankByte_put_ne _ _ _ _ ha]

/-- Bytes of the programmed span read as programmed. -/
theorem blankByte_programBytes_in (m : List Host.Cell) (off i : Nat) (bs : List Byte) (h : i < bs.length) :
    blankByte (programBytes m off bs) (off + i) = bs[i] := by
  induction bs generalizing m off i with
  | nil => simp at h
  | cons b bs ih =>
    unfold programBytes
    cases i with
    | zero =>
      show blankByte (programBytes (Table.put 0xFF#8 m off b) (off + 1) bs) off = b
      rw [blankByte_programBytes_out _ _ _ _ (.inl (by omega)), blankByte_put_self]
    | succ i =>
      have := ih (Table.put 0xFF#8 m off b) (off + 1) i (by simpa using h)
      rw [Nat.add_right_comm, Nat.add_assoc] at this
      simpa [Nat.add_assoc, Nat.add_comm 1 i] using this

end Sys2Proof.Machine
end

