-- ==== Sys2Proof/Laws/Pages.lean ====
section
/-! SUPPORT. The bytes of a page of parts: a part's bytes stand at its place unless a later part covers them. -/
namespace Sys2Proof.Machine

@[simp] theorem patch_length (bs : List Byte) (n : Nat) (xs : List Byte) : (patch bs n xs).length = bs.length := by
  induction bs generalizing n xs with
  | nil => cases n <;> cases xs <;> rfl
  | cons b bs ih =>
    cases xs with
    | nil => cases n <;> rfl
    | cons x xs => cases n <;> simp [patch, ih]

/-- A byte within what was put over reads as put. -/
theorem patch_get_in (bs : List Byte) (n : Nat) (xs : List Byte) (i : Nat) (hi : i < xs.length) (h : n + i < bs.length) : (patch bs n xs)[n + i]? = xs[i]? := by
  induction bs generalizing n xs i with
  | nil => simp at h
  | cons b bs ih =>
    cases xs with
    | nil => simp at hi
    | cons x xs =>
      cases n with
      | zero =>
        cases i with
        | zero => simp [patch]
        | succ i =>
          simp only [patch, List.length_cons] at *
          have := ih 0 xs i (by omega) (by omega)
          simp only [Nat.zero_add, List.getElem?_cons_succ] at *
          exact this
      | succ n =>
        simp only [patch, List.length_cons] at *
        have := ih n (x :: xs) i (by simpa using hi) (by omega)
        rw [show n + 1 + i = (n + i) + 1 by omega, List.getElem?_cons_succ]
        exact this

@[simp] theorem pageOver_length (base : Nat → Byte) (pg : Page) (off len : Nat) : (pageOver base pg off len).length = len := by
  unfold pageOver
  generalize hl : (List.range len).map (fun i => base (off + i)) = l
  have hlen : l.length = len := by rw [← hl]; simp
  clear hl
  induction pg generalizing l with
  | nil => simpa using hlen
  | cons p pg ih =>
    rw [List.foldl_cons]
    apply ih
    obtain ⟨a, bs⟩ := p
    dsimp only
    split
    · exact hlen
    · split <;> simp [hlen]

theorem pageOver_append (base : Nat → Byte) (pg : Page) (a : Nat) (bs : List Byte) (len : Nat) :
    pageOver base (pg ++ [(a, bs)]) 0 len = if a + bs.length ≤ 0 ∨ 0 + len ≤ a then pageOver base pg 0 len else patch (pageOver base pg 0 len) a bs := by
  unfold pageOver
  rw [List.foldl_append]
  simp only [List.foldl_cons, List.foldl_nil, Nat.zero_le, if_true, Nat.sub_zero]

/-- The last part's bytes stand at its place. -/
theorem pageOver_last (base : Nat → Byte) (pg : Page) (a : Nat) (bs : List Byte) (len i : Nat) (hi : i < bs.length) (h : a + i < len) :
    (pageOver base (pg ++ [(a, bs)]) 0 len)[a + i]? = bs[i]? := by
  rw [pageOver_append, if_neg (by omega)]
  exact patch_get_in _ _ _ _ hi (by simpa using h)

end Sys2Proof.Machine
end

