-- ==== Sys2Proof/Laws/Records.lean ====
section
/-! SUPPORT. What counting, leaving a record and posting leave of the saddlebag's bookkeeping (R396, R401 to R404): the transfers, the positions the host has
released, whether the ring is started; and, while the ring may be written, the holding buffer. -/
namespace Sys2Proof.Machine

/-- The saddlebag's bookkeeping. -/
def ObsState.book (o : ObsState) : List SbTransfer × Nat × Bool × Bool × Nat × Nat := (o.transfers, o.releasePos, o.ringOn, o.frozen, o.lastClearWt, o.rounds)

@[simp] theorem ObsState.count_book (o : ObsState) (a b n : Nat) : (o.count a b n).book = o.book := rfl
@[simp] theorem ObsState.count_holding (o : ObsState) (a b n : Nat) : (o.count a b n).holding = o.holding := rfl
@[simp] theorem ObsState.ringWrite_book (o : ObsState) (r : SbRec) : (o.ringWrite r).book = o.book := by unfold ObsState.ringWrite; dsimp only; split <;> rfl
@[simp] theorem ObsState.ringWrite_holding (o : ObsState) (r : SbRec) : (o.ringWrite r).holding = o.holding := by unfold ObsState.ringWrite; dsimp only; split <;> rfl
theorem ObsState.ringWrites_same (l : List (Nat × SbRec)) (o : ObsState) :
    (l.foldl (fun o x => o.ringWrite x.2) o).book = o.book ∧ (l.foldl (fun o x => o.ringWrite x.2) o).holding = o.holding := by
  induction l generalizing o with
  | nil => exact ⟨rfl, rfl⟩
  | cons x l ih => rw [List.foldl_cons]; exact ⟨(ih _).1.trans (ObsState.ringWrite_book _ _), (ih _).2.trans (ObsState.ringWrite_holding _ _)⟩
@[simp] theorem ObsState.ringInsert_book (o : ObsState) (r : SbRec) : (o.ringInsert r).book = o.book := by
  unfold ObsState.ringInsert; dsimp only; split
  · simp
  · rw [(ObsState.ringWrites_same _ _).1, ObsState.ringWrite_book]; rfl
@[simp] theorem ObsState.ringInsert_holding (o : ObsState) (r : SbRec) : (o.ringInsert r).holding = o.holding := by
  unfold ObsState.ringInsert; dsimp only; split
  · simp
  · rw [(ObsState.ringWrites_same _ _).2, ObsState.ringWrite_holding]
@[simp] theorem ObsState.put_book (o : ObsState) (r : SbRec) : (o.put r).book = o.book := by
  unfold ObsState.put ObsState.holdRecord; split
  · split <;> rfl
  · simp
theorem ObsState.put_holding {o : ObsState} (h : o.holds = false) (r : SbRec) : (o.put r).holding = o.holding := by
  unfold ObsState.put; simp [h]
@[simp] theorem ObsState.take_book (o : ObsState) (c v : Nat) : (o.take c v).book = o.book := by unfold ObsState.take; split <;> rfl
@[simp] theorem ObsState.take_holding (o : ObsState) (c v : Nat) : (o.take c v).holding = o.holding := by unfold ObsState.take; split <;> rfl

@[simp] theorem State.count_book (s : State) (a b n : Nat) : (s.count a b n).obs.book = s.obs.book := rfl
@[simp] theorem State.count1_book (s : State) (a : Nat) : (s.count1 a).obs.book = s.obs.book := rfl

theorem State.putRecord_book (s : State) (r : SbRec) : (s.putRecord r).obs.book = s.obs.book := by
  have := s.obs.put_book r
  simpa [State.putRecord, ObsState.book] using this

@[simp] theorem State.leave_book (s : State) (code sev : Nat) (xs : List Nat) : (s.leave code sev xs).obs.book = s.obs.book := by
  unfold State.leave State.recordEvent
  split
  · rfl
  · split
    · dsimp only; rw [ObsState.take_book, State.putRecord_book]
    · rfl

/-- While the ring may be written a record leaves the holding buffer as it is. -/
theorem State.leave_holding {s : State} (h : s.obs.holds = false) (code sev : Nat) (xs : List Nat) : (s.leave code sev xs).obs.holding = s.obs.holding := by
  unfold State.leave State.recordEvent
  split
  · rfl
  · split
    · simp [State.putRecord, ObsState.put_holding h]
    · rfl

theorem ObsState.holds_of_book {o p : ObsState} (h : p.book = o.book) : p.holds = o.holds := by
  simp only [ObsState.book, Prod.mk.injEq] at h
  simp [ObsState.holds, h.1, h.2.2.1]

@[simp] theorem State.leaveSaturations_book (s : State) : s.leaveSaturations.obs.book = s.obs.book := by
  unfold State.leaveSaturations
  exact fold_left (fun s => s.obs.book) _ (fun _ _ => State.leave_book _ _ _ _) _ _

theorem leaves_holding {α : Type} (g : State → α → State) (hb : ∀ s a, (g s a).obs.book = s.obs.book)
    (hg : ∀ s a, s.obs.holds = false → (g s a).obs.holding = s.obs.holding) (l : List α) (s : State) (h : s.obs.holds = false) :
    (l.foldl g s).obs.holding = s.obs.holding := by
  induction l generalizing s with
  | nil => rfl
  | cons a l ih => rw [List.foldl_cons, ih _ (by rw [ObsState.holds_of_book (hb s a)]; exact h), hg s a h]

theorem State.leaveSaturations_holding {s : State} (h : s.obs.holds = false) : s.leaveSaturations.obs.holding = s.obs.holding := by
  unfold State.leaveSaturations
  exact leaves_holding _ (fun _ _ => State.leave_book _ _ _ _) (fun _ _ h => State.leave_holding h _ _ _) _ _ h

theorem State.countCompleted_book (s : State) (c : Cmd) : (s.countCompleted c).obs.book = s.obs.book ∧ (s.countCompleted c).obs.holding = s.obs.holding := by
  unfold State.countCompleted State.smartCount
  (repeat' split) <;> exact ⟨rfl, rfl⟩

theorem State.postSide_book (s : State) (tag : Nat) (r : CmdResult) (o : Rein × Nat) :
    (s.postSide tag r o).obs.book = s.obs.book ∧ (s.postSide tag r o).obs.holding = s.obs.holding := by
  unfold State.postSide
  (repeat' split) <;> first | exact ⟨rfl, rfl⟩ | exact s.countCompleted_book _

theorem State.freeIfDone_book (s : State) (tag : Nat) : (s.freeIfDone tag).obs.book = s.obs.book ∧ (s.freeIfDone tag).obs.holding = s.obs.holding := by
  unfold State.freeIfDone State.tunnelEnds
  (repeat' split) <;> exact ⟨rfl, rfl⟩

theorem State.postCmd_book (s : State) (tag : Nat) : (s.postCmd tag).obs.book = s.obs.book ∧ (s.postCmd tag).obs.holding = s.obs.holding := by
  have hfold : ∀ (l : List (Rein × Nat)) (r : CmdResult) (u : State), (l.foldl (fun s o => s.postSide tag r o) u).obs.book = u.obs.book
      ∧ (l.foldl (fun s o => s.postSide tag r o) u).obs.holding = u.obs.holding := fun l r u =>
    ⟨fold_left (fun s => s.obs.book) _ (fun s a => (s.postSide_book tag r a).1) l u, fold_left (fun s => s.obs.holding) _ (fun s a => (s.postSide_book tag r a).2) l u⟩
  unfold State.postCmd
  split
  · split
    · split
      · exact ⟨rfl, rfl⟩
      · exact ⟨(State.freeIfDone_book _ _).1.trans (hfold _ _ _).1, (State.freeIfDone_book _ _).2.trans (hfold _ _ _).2⟩
    · exact ⟨rfl, rfl⟩
  · exact s.freeIfDone_book tag

theorem State.postMismatch_obs (s : State) (m : Nat × Rein × BitVec 32 × CqEntry) : (s.postMismatch m).obs = s.obs := by
  unfold State.postMismatch
  (repeat' split) <;> rfl

/-- Posting completions leaves the bookkeeping and the holding buffer. -/
@[simp] theorem State.postAll_book (s : State) : s.postAll.obs.book = s.obs.book ∧ s.postAll.obs.holding = s.obs.holding := by
  have h : (if s.dump.since then s else s.fe.mismatches.foldl State.postMismatch s).obs = s.obs := by
    split
    · rfl
    · exact fold_left (fun s => s.obs) _ State.postMismatch_obs _ _
  unfold State.postAll
  exact ⟨(fold_left (fun s => s.obs.book) _ (fun s a => (s.postCmd_book a).1) _ _).trans (congrArg ObsState.book h),
    (fold_left (fun s => s.obs.holding) _ (fun s a => (s.postCmd_book a).2) _ _).trans (congrArg ObsState.holding h)⟩

@[simp] theorem State.settleFront_book (s : State) : s.settleFront.obs.book = s.obs.book := by
  unfold State.settleFront
  show (s.leaveSaturations.postAll).obs.book = _
  rw [(State.postAll_book _).1, State.leaveSaturations_book]
theorem State.settleFront_holding {s : State} (h : s.obs.holds = false) : s.settleFront.obs.holding = s.obs.holding := by
  unfold State.settleFront
  show (s.leaveSaturations.postAll).obs.holding = _
  rw [(State.postAll_book _).2, State.leaveSaturations_holding h]

end Sys2Proof.Machine
end

