-- ==== Sys2Proof/Laws/State.lean ====
section
/-! SUPPORT. Field by field, what each primitive update of State leaves as it was, and what a table then reads at the key written and at every other one.
What the larger operations leave unchanged stands in Sys2Proof/Laws/Kept*.lean. -/
namespace Sys2Proof.Machine

@[simp] theorem State.modPort_pending (s : State) (x : Rein) (f : ReinPort → ReinPort) : (s.modPort x f).pending = s.pending := rfl
@[simp] theorem State.modPort_free (s : State) (x : Rein) (f : ReinPort → ReinPort) : (s.modPort x f).free = s.free := rfl
@[simp] theorem State.modPort_wheel (s : State) (x : Rein) (f : ReinPort → ReinPort) : (s.modPort x f).wheel = s.wheel := rfl
@[simp] theorem State.modPort_plan (s : State) (x : Rein) (f : ReinPort → ReinPort) : (s.modPort x f).plan = s.plan := rfl
@[simp] theorem State.modPort_awl (s : State) (x : Rein) (f : ReinPort → ReinPort) : (s.modPort x f).awl = s.awl := rfl
@[simp] theorem State.modPort_codec (s : State) (x : Rein) (f : ReinPort → ReinPort) : (s.modPort x f).codec = s.codec := rfl
@[simp] theorem State.modPort_map (s : State) (x : Rein) (f : ReinPort → ReinPort) : (s.modPort x f).map = s.map := rfl
@[simp] theorem State.modPort_blk (s : State) (x : Rein) (f : ReinPort → ReinPort) : (s.modPort x f).blk = s.blk := rfl
@[simp] theorem State.modPort_girth (s : State) (x : Rein) (f : ReinPort → ReinPort) : (s.modPort x f).girth = s.girth := rfl
@[simp] theorem State.modPort_wb (s : State) (x : Rein) (f : ReinPort → ReinPort) : (s.modPort x f).wb = s.wb := rfl
@[simp] theorem State.modPort_dump (s : State) (x : Rein) (f : ReinPort → ReinPort) : (s.modPort x f).dump = s.dump := rfl
@[simp] theorem State.modPort_fe (s : State) (x : Rein) (f : ReinPort → ReinPort) : (s.modPort x f).fe = s.fe := rfl
@[simp] theorem State.modPort_cipher (s : State) (x : Rein) (f : ReinPort → ReinPort) : (s.modPort x f).cipher = s.cipher := rfl
@[simp] theorem State.modPort_skv (s : State) (x : Rein) (f : ReinPort → ReinPort) : (s.modPort x f).skv = s.skv := rfl
@[simp] theorem State.modPort_dram (s : State) (x : Rein) (f : ReinPort → ReinPort) : (s.modPort x f).dram = s.dram := rfl
@[simp] theorem State.modPort_mc (s : State) (x : Rein) (f : ReinPort → ReinPort) : (s.modPort x f).mc = s.mc := rfl
@[simp] theorem State.modPort_dma (s : State) (x : Rein) (f : ReinPort → ReinPort) : (s.modPort x f).dma = s.dma := rfl
@[simp] theorem State.modPort_therm (s : State) (x : Rein) (f : ReinPort → ReinPort) : (s.modPort x f).therm = s.therm := rfl
@[simp] theorem State.modPort_obs (s : State) (x : Rein) (f : ReinPort → ReinPort) : (s.modPort x f).obs = s.obs := rfl
@[simp] theorem State.modPort_ts (s : State) (x : Rein) (f : ReinPort → ReinPort) : (s.modPort x f).ts = s.ts := rfl
@[simp] theorem State.modPort_img (s : State) (x : Rein) (f : ReinPort → ReinPort) : (s.modPort x f).img = s.img := rfl
@[simp] theorem State.modPort_fault (s : State) (x : Rein) (f : ReinPort → ReinPort) : (s.modPort x f).fault = s.fault := rfl
@[simp] theorem State.modPort_pkg (s : State) (x : Rein) (f : ReinPort → ReinPort) : (s.modPort x f).pkg = s.pkg := rfl
@[simp] theorem State.modPort_media (s : State) (x : Rein) (f : ReinPort → ReinPort) : (s.modPort x f).media = s.media := rfl

@[simp] theorem State.modCtrl_pending (s : State) (c : Nat) (f : Ctrl → Ctrl) : (s.modCtrl c f).pending = s.pending := rfl
@[simp] theorem State.modCtrl_free (s : State) (c : Nat) (f : Ctrl → Ctrl) : (s.modCtrl c f).free = s.free := rfl
@[simp] theorem State.modCtrl_wheel (s : State) (c : Nat) (f : Ctrl → Ctrl) : (s.modCtrl c f).wheel = s.wheel := rfl
@[simp] theorem State.modCtrl_plan (s : State) (c : Nat) (f : Ctrl → Ctrl) : (s.modCtrl c f).plan = s.plan := rfl
@[simp] theorem State.modCtrl_awl (s : State) (c : Nat) (f : Ctrl → Ctrl) : (s.modCtrl c f).awl = s.awl := rfl
@[simp] theorem State.modCtrl_codec (s : State) (c : Nat) (f : Ctrl → Ctrl) : (s.modCtrl c f).codec = s.codec := rfl
@[simp] theorem State.modCtrl_map (s : State) (c : Nat) (f : Ctrl → Ctrl) : (s.modCtrl c f).map = s.map := rfl
@[simp] theorem State.modCtrl_blk (s : State) (c : Nat) (f : Ctrl → Ctrl) : (s.modCtrl c f).blk = s.blk := rfl
@[simp] theorem State.modCtrl_girth (s : State) (c : Nat) (f : Ctrl → Ctrl) : (s.modCtrl c f).girth = s.girth := rfl
@[simp] theorem State.modCtrl_wb (s : State) (c : Nat) (f : Ctrl → Ctrl) : (s.modCtrl c f).wb = s.wb := rfl
@[simp] theorem State.modCtrl_dump (s : State) (c : Nat) (f : Ctrl → Ctrl) : (s.modCtrl c f).dump = s.dump := rfl
@[simp] theorem State.modCtrl_rein (s : State) (c : Nat) (f : Ctrl → Ctrl) : (s.modCtrl c f).rein = s.rein := rfl
@[simp] theorem State.modCtrl_cipher (s : State) (c : Nat) (f : Ctrl → Ctrl) : (s.modCtrl c f).cipher = s.cipher := rfl
@[simp] theorem State.modCtrl_skv (s : State) (c : Nat) (f : Ctrl → Ctrl) : (s.modCtrl c f).skv = s.skv := rfl
@[simp] theorem State.modCtrl_dram (s : State) (c : Nat) (f : Ctrl → Ctrl) : (s.modCtrl c f).dram = s.dram := rfl
@[simp] theorem State.modCtrl_mc (s : State) (c : Nat) (f : Ctrl → Ctrl) : (s.modCtrl c f).mc = s.mc := rfl
@[simp] theorem State.modCtrl_dma (s : State) (c : Nat) (f : Ctrl → Ctrl) : (s.modCtrl c f).dma = s.dma := rfl
@[simp] theorem State.modCtrl_therm (s : State) (c : Nat) (f : Ctrl → Ctrl) : (s.modCtrl c f).therm = s.therm := rfl
@[simp] theorem State.modCtrl_obs (s : State) (c : Nat) (f : Ctrl → Ctrl) : (s.modCtrl c f).obs = s.obs := rfl
@[simp] theorem State.modCtrl_ts (s : State) (c : Nat) (f : Ctrl → Ctrl) : (s.modCtrl c f).ts = s.ts := rfl
@[simp] theorem State.modCtrl_img (s : State) (c : Nat) (f : Ctrl → Ctrl) : (s.modCtrl c f).img = s.img := rfl
@[simp] theorem State.modCtrl_fault (s : State) (c : Nat) (f : Ctrl → Ctrl) : (s.modCtrl c f).fault = s.fault := rfl
@[simp] theorem State.modCtrl_pkg (s : State) (c : Nat) (f : Ctrl → Ctrl) : (s.modCtrl c f).pkg = s.pkg := rfl
@[simp] theorem State.modCtrl_media (s : State) (c : Nat) (f : Ctrl → Ctrl) : (s.modCtrl c f).media = s.media := rfl

@[simp] theorem State.setSq_pending (s : State) (k : Nat) (q : Sq) : (s.setSq k q).pending = s.pending := rfl
@[simp] theorem State.setSq_free (s : State) (k : Nat) (q : Sq) : (s.setSq k q).free = s.free := rfl
@[simp] theorem State.setSq_wheel (s : State) (k : Nat) (q : Sq) : (s.setSq k q).wheel = s.wheel := rfl
@[simp] theorem State.setSq_plan (s : State) (k : Nat) (q : Sq) : (s.setSq k q).plan = s.plan := rfl
@[simp] theorem State.setSq_awl (s : State) (k : Nat) (q : Sq) : (s.setSq k q).awl = s.awl := rfl
@[simp] theorem State.setSq_codec (s : State) (k : Nat) (q : Sq) : (s.setSq k q).codec = s.codec := rfl
@[simp] theorem State.setSq_map (s : State) (k : Nat) (q : Sq) : (s.setSq k q).map = s.map := rfl
@[simp] theorem State.setSq_blk (s : State) (k : Nat) (q : Sq) : (s.setSq k q).blk = s.blk := rfl
@[simp] theorem State.setSq_girth (s : State) (k : Nat) (q : Sq) : (s.setSq k q).girth = s.girth := rfl
@[simp] theorem State.setSq_wb (s : State) (k : Nat) (q : Sq) : (s.setSq k q).wb = s.wb := rfl
@[simp] theorem State.setSq_dump (s : State) (k : Nat) (q : Sq) : (s.setSq k q).dump = s.dump := rfl
@[simp] theorem State.setSq_rein (s : State) (k : Nat) (q : Sq) : (s.setSq k q).rein = s.rein := rfl
@[simp] theorem State.setSq_cipher (s : State) (k : Nat) (q : Sq) : (s.setSq k q).cipher = s.cipher := rfl
@[simp] theorem State.setSq_skv (s : State) (k : Nat) (q : Sq) : (s.setSq k q).skv = s.skv := rfl
@[simp] theorem State.setSq_dram (s : State) (k : Nat) (q : Sq) : (s.setSq k q).dram = s.dram := rfl
@[simp] theorem State.setSq_mc (s : State) (k : Nat) (q : Sq) : (s.setSq k q).mc = s.mc := rfl
@[simp] theorem State.setSq_dma (s : State) (k : Nat) (q : Sq) : (s.setSq k q).dma = s.dma := rfl
@[simp] theorem State.setSq_therm (s : State) (k : Nat) (q : Sq) : (s.setSq k q).therm = s.therm := rfl
@[simp] theorem State.setSq_obs (s : State) (k : Nat) (q : Sq) : (s.setSq k q).obs = s.obs := rfl
@[simp] theorem State.setSq_ts (s : State) (k : Nat) (q : Sq) : (s.setSq k q).ts = s.ts := rfl
@[simp] theorem State.setSq_img (s : State) (k : Nat) (q : Sq) : (s.setSq k q).img = s.img := rfl
@[simp] theorem State.setSq_fault (s : State) (k : Nat) (q : Sq) : (s.setSq k q).fault = s.fault := rfl
@[simp] theorem State.setSq_pkg (s : State) (k : Nat) (q : Sq) : (s.setSq k q).pkg = s.pkg := rfl
@[simp] theorem State.setSq_media (s : State) (k : Nat) (q : Sq) : (s.setSq k q).media = s.media := rfl

@[simp] theorem State.setCq_pending (s : State) (k : Nat) (q : Cq) : (s.setCq k q).pending = s.pending := rfl
@[simp] theorem State.setCq_free (s : State) (k : Nat) (q : Cq) : (s.setCq k q).free = s.free := rfl
@[simp] theorem State.setCq_wheel (s : State) (k : Nat) (q : Cq) : (s.setCq k q).wheel = s.wheel := rfl
@[simp] theorem State.setCq_plan (s : State) (k : Nat) (q : Cq) : (s.setCq k q).plan = s.plan := rfl
@[simp] theorem State.setCq_awl (s : State) (k : Nat) (q : Cq) : (s.setCq k q).awl = s.awl := rfl
@[simp] theorem State.setCq_codec (s : State) (k : Nat) (q : Cq) : (s.setCq k q).codec = s.codec := rfl
@[simp] theorem State.setCq_map (s : State) (k : Nat) (q : Cq) : (s.setCq k q).map = s.map := rfl
@[simp] theorem State.setCq_blk (s : State) (k : Nat) (q : Cq) : (s.setCq k q).blk = s.blk := rfl
@[simp] theorem State.setCq_girth (s : State) (k : Nat) (q : Cq) : (s.setCq k q).girth = s.girth := rfl
@[simp] theorem State.setCq_wb (s : State) (k : Nat) (q : Cq) : (s.setCq k q).wb = s.wb := rfl
@[simp] theorem State.setCq_dump (s : State) (k : Nat) (q : Cq) : (s.setCq k q).dump = s.dump := rfl
@[simp] theorem State.setCq_rein (s : State) (k : Nat) (q : Cq) : (s.setCq k q).rein = s.rein := rfl
@[simp] theorem State.setCq_cipher (s : State) (k : Nat) (q : Cq) : (s.setCq k q).cipher = s.cipher := rfl
@[simp] theorem State.setCq_skv (s : State) (k : Nat) (q : Cq) : (s.setCq k q).skv = s.skv := rfl
@[simp] theorem State.setCq_dram (s : State) (k : Nat) (q : Cq) : (s.setCq k q).dram = s.dram := rfl
@[simp] theorem State.setCq_mc (s : State) (k : Nat) (q : Cq) : (s.setCq k q).mc = s.mc := rfl
@[simp] theorem State.setCq_dma (s : State) (k : Nat) (q : Cq) : (s.setCq k q).dma = s.dma := rfl
@[simp] theorem State.setCq_therm (s : State) (k : Nat) (q : Cq) : (s.setCq k q).therm = s.therm := rfl
@[simp] theorem State.setCq_obs (s : State) (k : Nat) (q : Cq) : (s.setCq k q).obs = s.obs := rfl
@[simp] theorem State.setCq_ts (s : State) (k : Nat) (q : Cq) : (s.setCq k q).ts = s.ts := rfl
@[simp] theorem State.setCq_img (s : State) (k : Nat) (q : Cq) : (s.setCq k q).img = s.img := rfl
@[simp] theorem State.setCq_fault (s : State) (k : Nat) (q : Cq) : (s.setCq k q).fault = s.fault := rfl
@[simp] theorem State.setCq_pkg (s : State) (k : Nat) (q : Cq) : (s.setCq k q).pkg = s.pkg := rfl
@[simp] theorem State.setCq_media (s : State) (k : Nat) (q : Cq) : (s.setCq k q).media = s.media := rfl

@[simp] theorem State.setCmd_pending (s : State) (n : Nat) (c : Cmd) : (s.setCmd n c).pending = s.pending := rfl
@[simp] theorem State.setCmd_free (s : State) (n : Nat) (c : Cmd) : (s.setCmd n c).free = s.free := rfl
@[simp] theorem State.setCmd_wheel (s : State) (n : Nat) (c : Cmd) : (s.setCmd n c).wheel = s.wheel := rfl
@[simp] theorem State.setCmd_plan (s : State) (n : Nat) (c : Cmd) : (s.setCmd n c).plan = s.plan := rfl
@[simp] theorem State.setCmd_awl (s : State) (n : Nat) (c : Cmd) : (s.setCmd n c).awl = s.awl := rfl
@[simp] theorem State.setCmd_codec (s : State) (n : Nat) (c : Cmd) : (s.setCmd n c).codec = s.codec := rfl
@[simp] theorem State.setCmd_map (s : State) (n : Nat) (c : Cmd) : (s.setCmd n c).map = s.map := rfl
@[simp] theorem State.setCmd_blk (s : State) (n : Nat) (c : Cmd) : (s.setCmd n c).blk = s.blk := rfl
@[simp] theorem State.setCmd_girth (s : State) (n : Nat) (c : Cmd) : (s.setCmd n c).girth = s.girth := rfl
@[simp] theorem State.setCmd_wb (s : State) (n : Nat) (c : Cmd) : (s.setCmd n c).wb = s.wb := rfl
@[simp] theorem State.setCmd_dump (s : State) (n : Nat) (c : Cmd) : (s.setCmd n c).dump = s.dump := rfl
@[simp] theorem State.setCmd_rein (s : State) (n : Nat) (c : Cmd) : (s.setCmd n c).rein = s.rein := rfl
@[simp] theorem State.setCmd_cipher (s : State) (n : Nat) (c : Cmd) : (s.setCmd n c).cipher = s.cipher := rfl
@[simp] theorem State.setCmd_skv (s : State) (n : Nat) (c : Cmd) : (s.setCmd n c).skv = s.skv := rfl
@[simp] theorem State.setCmd_dram (s : State) (n : Nat) (c : Cmd) : (s.setCmd n c).dram = s.dram := rfl
@[simp] theorem State.setCmd_mc (s : State) (n : Nat) (c : Cmd) : (s.setCmd n c).mc = s.mc := rfl
@[simp] theorem State.setCmd_dma (s : State) (n : Nat) (c : Cmd) : (s.setCmd n c).dma = s.dma := rfl
@[simp] theorem State.setCmd_therm (s : State) (n : Nat) (c : Cmd) : (s.setCmd n c).therm = s.therm := rfl
@[simp] theorem State.setCmd_obs (s : State) (n : Nat) (c : Cmd) : (s.setCmd n c).obs = s.obs := rfl
@[simp] theorem State.setCmd_ts (s : State) (n : Nat) (c : Cmd) : (s.setCmd n c).ts = s.ts := rfl
@[simp] theorem State.setCmd_img (s : State) (n : Nat) (c : Cmd) : (s.setCmd n c).img = s.img := rfl
@[simp] theorem State.setCmd_fault (s : State) (n : Nat) (c : Cmd) : (s.setCmd n c).fault = s.fault := rfl
@[simp] theorem State.setCmd_pkg (s : State) (n : Nat) (c : Cmd) : (s.setCmd n c).pkg = s.pkg := rfl
@[simp] theorem State.setCmd_media (s : State) (n : Nat) (c : Cmd) : (s.setCmd n c).media = s.media := rfl

@[simp] theorem State.modCmd_pending (s : State) (n : Nat) (f : Cmd → Cmd) : (s.modCmd n f).pending = s.pending := rfl
@[simp] theorem State.modCmd_free (s : State) (n : Nat) (f : Cmd → Cmd) : (s.modCmd n f).free = s.free := rfl
@[simp] theorem State.modCmd_wheel (s : State) (n : Nat) (f : Cmd → Cmd) : (s.modCmd n f).wheel = s.wheel := rfl
@[simp] theorem State.modCmd_plan (s : State) (n : Nat) (f : Cmd → Cmd) : (s.modCmd n f).plan = s.plan := rfl
@[simp] theorem State.modCmd_awl (s : State) (n : Nat) (f : Cmd → Cmd) : (s.modCmd n f).awl = s.awl := rfl
@[simp] theorem State.modCmd_codec (s : State) (n : Nat) (f : Cmd → Cmd) : (s.modCmd n f).codec = s.codec := rfl
@[simp] theorem State.modCmd_map (s : State) (n : Nat) (f : Cmd → Cmd) : (s.modCmd n f).map = s.map := rfl
@[simp] theorem State.modCmd_blk (s : State) (n : Nat) (f : Cmd → Cmd) : (s.modCmd n f).blk = s.blk := rfl
@[simp] theorem State.modCmd_girth (s : State) (n : Nat) (f : Cmd → Cmd) : (s.modCmd n f).girth = s.girth := rfl
@[simp] theorem State.modCmd_wb (s : State) (n : Nat) (f : Cmd → Cmd) : (s.modCmd n f).wb = s.wb := rfl
@[simp] theorem State.modCmd_dump (s : State) (n : Nat) (f : Cmd → Cmd) : (s.modCmd n f).dump = s.dump := rfl
@[simp] theorem State.modCmd_rein (s : State) (n : Nat) (f : Cmd → Cmd) : (s.modCmd n f).rein = s.rein := rfl
@[simp] theorem State.modCmd_cipher (s : State) (n : Nat) (f : Cmd → Cmd) : (s.modCmd n f).cipher = s.cipher := rfl
@[simp] theorem State.modCmd_skv (s : State) (n : Nat) (f : Cmd → Cmd) : (s.modCmd n f).skv = s.skv := rfl
@[simp] theorem State.modCmd_dram (s : State) (n : Nat) (f : Cmd → Cmd) : (s.modCmd n f).dram = s.dram := rfl
@[simp] theorem State.modCmd_mc (s : State) (n : Nat) (f : Cmd → Cmd) : (s.modCmd n f).mc = s.mc := rfl
@[simp] theorem State.modCmd_dma (s : State) (n : Nat) (f : Cmd → Cmd) : (s.modCmd n f).dma = s.dma := rfl
@[simp] theorem State.modCmd_therm (s : State) (n : Nat) (f : Cmd → Cmd) : (s.modCmd n f).therm = s.therm := rfl
@[simp] theorem State.modCmd_obs (s : State) (n : Nat) (f : Cmd → Cmd) : (s.modCmd n f).obs = s.obs := rfl
@[simp] theorem State.modCmd_ts (s : State) (n : Nat) (f : Cmd → Cmd) : (s.modCmd n f).ts = s.ts := rfl
@[simp] theorem State.modCmd_img (s : State) (n : Nat) (f : Cmd → Cmd) : (s.modCmd n f).img = s.img := rfl
@[simp] theorem State.modCmd_fault (s : State) (n : Nat) (f : Cmd → Cmd) : (s.modCmd n f).fault = s.fault := rfl
@[simp] theorem State.modCmd_pkg (s : State) (n : Nat) (f : Cmd → Cmd) : (s.modCmd n f).pkg = s.pkg := rfl
@[simp] theorem State.modCmd_media (s : State) (n : Nat) (f : Cmd → Cmd) : (s.modCmd n f).media = s.media := rfl

@[simp] theorem State.setFeat_pending (s : State) (a b c v : Nat) : (s.setFeat a b c v).pending = s.pending := rfl
@[simp] theorem State.setFeat_free (s : State) (a b c v : Nat) : (s.setFeat a b c v).free = s.free := rfl
@[simp] theorem State.setFeat_wheel (s : State) (a b c v : Nat) : (s.setFeat a b c v).wheel = s.wheel := rfl
@[simp] theorem State.setFeat_plan (s : State) (a b c v : Nat) : (s.setFeat a b c v).plan = s.plan := rfl
@[simp] theorem State.setFeat_awl (s : State) (a b c v : Nat) : (s.setFeat a b c v).awl = s.awl := rfl
@[simp] theorem State.setFeat_codec (s : State) (a b c v : Nat) : (s.setFeat a b c v).codec = s.codec := rfl
@[simp] theorem State.setFeat_map (s : State) (a b c v : Nat) : (s.setFeat a b c v).map = s.map := rfl
@[simp] theorem State.setFeat_blk (s : State) (a b c v : Nat) : (s.setFeat a b c v).blk = s.blk := rfl
@[simp] theorem State.setFeat_girth (s : State) (a b c v : Nat) : (s.setFeat a b c v).girth = s.girth := rfl
@[simp] theorem State.setFeat_wb (s : State) (a b c v : Nat) : (s.setFeat a b c v).wb = s.wb := rfl
@[simp] theorem State.setFeat_dump (s : State) (a b c v : Nat) : (s.setFeat a b c v).dump = s.dump := rfl
@[simp] theorem State.setFeat_rein (s : State) (a b c v : Nat) : (s.setFeat a b c v).rein = s.rein := rfl
@[simp] theorem State.setFeat_cipher (s : State) (a b c v : Nat) : (s.setFeat a b c v).cipher = s.cipher := rfl
@[simp] theorem State.setFeat_skv (s : State) (a b c v : Nat) : (s.setFeat a b c v).skv = s.skv := rfl
@[simp] theorem State.setFeat_dram (s : State) (a b c v : Nat) : (s.setFeat a b c v).dram = s.dram := rfl
@[simp] theorem State.setFeat_mc (s : State) (a b c v : Nat) : (s.setFeat a b c v).mc = s.mc := rfl
@[simp] theorem State.setFeat_dma (s : State) (a b c v : Nat) : (s.setFeat a b c v).dma = s.dma := rfl
@[simp] theorem State.setFeat_therm (s : State) (a b c v : Nat) : (s.setFeat a b c v).therm = s.therm := rfl
@[simp] theorem State.setFeat_obs (s : State) (a b c v : Nat) : (s.setFeat a b c v).obs = s.obs := rfl
@[simp] theorem State.setFeat_ts (s : State) (a b c v : Nat) : (s.setFeat a b c v).ts = s.ts := rfl
@[simp] theorem State.setFeat_img (s : State) (a b c v : Nat) : (s.setFeat a b c v).img = s.img := rfl
@[simp] theorem State.setFeat_fault (s : State) (a b c v : Nat) : (s.setFeat a b c v).fault = s.fault := rfl
@[simp] theorem State.setFeat_pkg (s : State) (a b c v : Nat) : (s.setFeat a b c v).pkg = s.pkg := rfl
@[simp] theorem State.setFeat_media (s : State) (a b c v : Nat) : (s.setFeat a b c v).media = s.media := rfl

@[simp] theorem State.setJob_pending (s : State) (n : Nat) (j : UnitJob) : (s.setJob n j).pending = s.pending := rfl
@[simp] theorem State.setJob_free (s : State) (n : Nat) (j : UnitJob) : (s.setJob n j).free = s.free := rfl
@[simp] theorem State.setJob_wheel (s : State) (n : Nat) (j : UnitJob) : (s.setJob n j).wheel = s.wheel := rfl
@[simp] theorem State.setJob_plan (s : State) (n : Nat) (j : UnitJob) : (s.setJob n j).plan = s.plan := rfl
@[simp] theorem State.setJob_awl (s : State) (n : Nat) (j : UnitJob) : (s.setJob n j).awl = s.awl := rfl
@[simp] theorem State.setJob_codec (s : State) (n : Nat) (j : UnitJob) : (s.setJob n j).codec = s.codec := rfl
@[simp] theorem State.setJob_map (s : State) (n : Nat) (j : UnitJob) : (s.setJob n j).map = s.map := rfl
@[simp] theorem State.setJob_blk (s : State) (n : Nat) (j : UnitJob) : (s.setJob n j).blk = s.blk := rfl
@[simp] theorem State.setJob_girth (s : State) (n : Nat) (j : UnitJob) : (s.setJob n j).girth = s.girth := rfl
@[simp] theorem State.setJob_wb (s : State) (n : Nat) (j : UnitJob) : (s.setJob n j).wb = s.wb := rfl
@[simp] theorem State.setJob_dump (s : State) (n : Nat) (j : UnitJob) : (s.setJob n j).dump = s.dump := rfl
@[simp] theorem State.setJob_rein (s : State) (n : Nat) (j : UnitJob) : (s.setJob n j).rein = s.rein := rfl
@[simp] theorem State.setJob_cipher (s : State) (n : Nat) (j : UnitJob) : (s.setJob n j).cipher = s.cipher := rfl
@[simp] theorem State.setJob_skv (s : State) (n : Nat) (j : UnitJob) : (s.setJob n j).skv = s.skv := rfl
@[simp] theorem State.setJob_dram (s : State) (n : Nat) (j : UnitJob) : (s.setJob n j).dram = s.dram := rfl
@[simp] theorem State.setJob_mc (s : State) (n : Nat) (j : UnitJob) : (s.setJob n j).mc = s.mc := rfl
@[simp] theorem State.setJob_dma (s : State) (n : Nat) (j : UnitJob) : (s.setJob n j).dma = s.dma := rfl
@[simp] theorem State.setJob_therm (s : State) (n : Nat) (j : UnitJob) : (s.setJob n j).therm = s.therm := rfl
@[simp] theorem State.setJob_obs (s : State) (n : Nat) (j : UnitJob) : (s.setJob n j).obs = s.obs := rfl
@[simp] theorem State.setJob_ts (s : State) (n : Nat) (j : UnitJob) : (s.setJob n j).ts = s.ts := rfl
@[simp] theorem State.setJob_img (s : State) (n : Nat) (j : UnitJob) : (s.setJob n j).img = s.img := rfl
@[simp] theorem State.setJob_fault (s : State) (n : Nat) (j : UnitJob) : (s.setJob n j).fault = s.fault := rfl
@[simp] theorem State.setJob_pkg (s : State) (n : Nat) (j : UnitJob) : (s.setJob n j).pkg = s.pkg := rfl
@[simp] theorem State.setJob_media (s : State) (n : Nat) (j : UnitJob) : (s.setJob n j).media = s.media := rfl

@[simp] theorem State.setDie_pending (s : State) (d : Nat) (x : Die) : (s.setDie d x).pending = s.pending := rfl
@[simp] theorem State.setDie_free (s : State) (d : Nat) (x : Die) : (s.setDie d x).free = s.free := rfl
@[simp] theorem State.setDie_wheel (s : State) (d : Nat) (x : Die) : (s.setDie d x).wheel = s.wheel := rfl
@[simp] theorem State.setDie_plan (s : State) (d : Nat) (x : Die) : (s.setDie d x).plan = s.plan := rfl
@[simp] theorem State.setDie_codec (s : State) (d : Nat) (x : Die) : (s.setDie d x).codec = s.codec := rfl
@[simp] theorem State.setDie_map (s : State) (d : Nat) (x : Die) : (s.setDie d x).map = s.map := rfl
@[simp] theorem State.setDie_blk (s : State) (d : Nat) (x : Die) : (s.setDie d x).blk = s.blk := rfl
@[simp] theorem State.setDie_girth (s : State) (d : Nat) (x : Die) : (s.setDie d x).girth = s.girth := rfl
@[simp] theorem State.setDie_wb (s : State) (d : Nat) (x : Die) : (s.setDie d x).wb = s.wb := rfl
@[simp] theorem State.setDie_dump (s : State) (d : Nat) (x : Die) : (s.setDie d x).dump = s.dump := rfl
@[simp] theorem State.setDie_rein (s : State) (d : Nat) (x : Die) : (s.setDie d x).rein = s.rein := rfl
@[simp] theorem State.setDie_fe (s : State) (d : Nat) (x : Die) : (s.setDie d x).fe = s.fe := rfl
@[simp] theorem State.setDie_cipher (s : State) (d : Nat) (x : Die) : (s.setDie d x).cipher = s.cipher := rfl
@[simp] theorem State.setDie_skv (s : State) (d : Nat) (x : Die) : (s.setDie d x).skv = s.skv := rfl
@[simp] theorem State.setDie_dram (s : State) (d : Nat) (x : Die) : (s.setDie d x).dram = s.dram := rfl
@[simp] theorem State.setDie_mc (s : State) (d : Nat) (x : Die) : (s.setDie d x).mc = s.mc := rfl
@[simp] theorem State.setDie_dma (s : State) (d : Nat) (x : Die) : (s.setDie d x).dma = s.dma := rfl
@[simp] theorem State.setDie_therm (s : State) (d : Nat) (x : Die) : (s.setDie d x).therm = s.therm := rfl
@[simp] theorem State.setDie_obs (s : State) (d : Nat) (x : Die) : (s.setDie d x).obs = s.obs := rfl
@[simp] theorem State.setDie_ts (s : State) (d : Nat) (x : Die) : (s.setDie d x).ts = s.ts := rfl
@[simp] theorem State.setDie_img (s : State) (d : Nat) (x : Die) : (s.setDie d x).img = s.img := rfl
@[simp] theorem State.setDie_fault (s : State) (d : Nat) (x : Die) : (s.setDie d x).fault = s.fault := rfl
@[simp] theorem State.setDie_pkg (s : State) (d : Nat) (x : Die) : (s.setDie d x).pkg = s.pkg := rfl
@[simp] theorem State.setDie_media (s : State) (d : Nat) (x : Die) : (s.setDie d x).media = s.media := rfl

@[simp] theorem State.modDie_pending (s : State) (d : Nat) (f : Die → Die) : (s.modDie d f).pending = s.pending := rfl
@[simp] theorem State.modDie_free (s : State) (d : Nat) (f : Die → Die) : (s.modDie d f).free = s.free := rfl
@[simp] theorem State.modDie_wheel (s : State) (d : Nat) (f : Die → Die) : (s.modDie d f).wheel = s.wheel := rfl
@[simp] theorem State.modDie_plan (s : State) (d : Nat) (f : Die → Die) : (s.modDie d f).plan = s.plan := rfl
@[simp] theorem State.modDie_codec (s : State) (d : Nat) (f : Die → Die) : (s.modDie d f).codec = s.codec := rfl
@[simp] theorem State.modDie_map (s : State) (d : Nat) (f : Die → Die) : (s.modDie d f).map = s.map := rfl
@[simp] theorem State.modDie_blk (s : State) (d : Nat) (f : Die → Die) : (s.modDie d f).blk = s.blk := rfl
@[simp] theorem State.modDie_girth (s : State) (d : Nat) (f : Die → Die) : (s.modDie d f).girth = s.girth := rfl
@[simp] theorem State.modDie_wb (s : State) (d : Nat) (f : Die → Die) : (s.modDie d f).wb = s.wb := rfl
@[simp] theorem State.modDie_dump (s : State) (d : Nat) (f : Die → Die) : (s.modDie d f).dump = s.dump := rfl
@[simp] theorem State.modDie_rein (s : State) (d : Nat) (f : Die → Die) : (s.modDie d f).rein = s.rein := rfl
@[simp] theorem State.modDie_fe (s : State) (d : Nat) (f : Die → Die) : (s.modDie d f).fe = s.fe := rfl
@[simp] theorem State.modDie_cipher (s : State) (d : Nat) (f : Die → Die) : (s.modDie d f).cipher = s.cipher := rfl
@[simp] theorem State.modDie_skv (s : State) (d : Nat) (f : Die → Die) : (s.modDie d f).skv = s.skv := rfl
@[simp] theorem State.modDie_dram (s : State) (d : Nat) (f : Die → Die) : (s.modDie d f).dram = s.dram := rfl
@[simp] theorem State.modDie_mc (s : State) (d : Nat) (f : Die → Die) : (s.modDie d f).mc = s.mc := rfl
@[simp] theorem State.modDie_dma (s : State) (d : Nat) (f : Die → Die) : (s.modDie d f).dma = s.dma := rfl
@[simp] theorem State.modDie_therm (s : State) (d : Nat) (f : Die → Die) : (s.modDie d f).therm = s.therm := rfl
@[simp] theorem State.modDie_obs (s : State) (d : Nat) (f : Die → Die) : (s.modDie d f).obs = s.obs := rfl
@[simp] theorem State.modDie_ts (s : State) (d : Nat) (f : Die → Die) : (s.modDie d f).ts = s.ts := rfl
@[simp] theorem State.modDie_img (s : State) (d : Nat) (f : Die → Die) : (s.modDie d f).img = s.img := rfl
@[simp] theorem State.modDie_fault (s : State) (d : Nat) (f : Die → Die) : (s.modDie d f).fault = s.fault := rfl
@[simp] theorem State.modDie_pkg (s : State) (d : Nat) (f : Die → Die) : (s.modDie d f).pkg = s.pkg := rfl
@[simp] theorem State.modDie_media (s : State) (d : Nat) (f : Die → Die) : (s.modDie d f).media = s.media := rfl

@[simp] theorem State.setChan_pending (s : State) (c : Nat) (x : Channel) : (s.setChan c x).pending = s.pending := rfl
@[simp] theorem State.setChan_free (s : State) (c : Nat) (x : Channel) : (s.setChan c x).free = s.free := rfl
@[simp] theorem State.setChan_wheel (s : State) (c : Nat) (x : Channel) : (s.setChan c x).wheel = s.wheel := rfl
@[simp] theorem State.setChan_plan (s : State) (c : Nat) (x : Channel) : (s.setChan c x).plan = s.plan := rfl
@[simp] theorem State.setChan_codec (s : State) (c : Nat) (x : Channel) : (s.setChan c x).codec = s.codec := rfl
@[simp] theorem State.setChan_map (s : State) (c : Nat) (x : Channel) : (s.setChan c x).map = s.map := rfl
@[simp] theorem State.setChan_blk (s : State) (c : Nat) (x : Channel) : (s.setChan c x).blk = s.blk := rfl
@[simp] theorem State.setChan_girth (s : State) (c : Nat) (x : Channel) : (s.setChan c x).girth = s.girth := rfl
@[simp] theorem State.setChan_wb (s : State) (c : Nat) (x : Channel) : (s.setChan c x).wb = s.wb := rfl
@[simp] theorem State.setChan_dump (s : State) (c : Nat) (x : Channel) : (s.setChan c x).dump = s.dump := rfl
@[simp] theorem State.setChan_rein (s : State) (c : Nat) (x : Channel) : (s.setChan c x).rein = s.rein := rfl
@[simp] theorem State.setChan_fe (s : State) (c : Nat) (x : Channel) : (s.setChan c x).fe = s.fe := rfl
@[simp] theorem State.setChan_cipher (s : State) (c : Nat) (x : Channel) : (s.setChan c x).cipher = s.cipher := rfl
@[simp] theorem State.setChan_skv (s : State) (c : Nat) (x : Channel) : (s.setChan c x).skv = s.skv := rfl
@[simp] theorem State.setChan_dram (s : State) (c : Nat) (x : Channel) : (s.setChan c x).dram = s.dram := rfl
@[simp] theorem State.setChan_mc (s : State) (c : Nat) (x : Channel) : (s.setChan c x).mc = s.mc := rfl
@[simp] theorem State.setChan_dma (s : State) (c : Nat) (x : Channel) : (s.setChan c x).dma = s.dma := rfl
@[simp] theorem State.setChan_therm (s : State) (c : Nat) (x : Channel) : (s.setChan c x).therm = s.therm := rfl
@[simp] theorem State.setChan_obs (s : State) (c : Nat) (x : Channel) : (s.setChan c x).obs = s.obs := rfl
@[simp] theorem State.setChan_ts (s : State) (c : Nat) (x : Channel) : (s.setChan c x).ts = s.ts := rfl
@[simp] theorem State.setChan_img (s : State) (c : Nat) (x : Channel) : (s.setChan c x).img = s.img := rfl
@[simp] theorem State.setChan_fault (s : State) (c : Nat) (x : Channel) : (s.setChan c x).fault = s.fault := rfl
@[simp] theorem State.setChan_pkg (s : State) (c : Nat) (x : Channel) : (s.setChan c x).pkg = s.pkg := rfl
@[simp] theorem State.setChan_media (s : State) (c : Nat) (x : Channel) : (s.setChan c x).media = s.media := rfl

@[simp] theorem State.modChan_pending (s : State) (c : Nat) (f : Channel → Channel) : (s.modChan c f).pending = s.pending := rfl
@[simp] theorem State.modChan_free (s : State) (c : Nat) (f : Channel → Channel) : (s.modChan c f).free = s.free := rfl
@[simp] theorem State.modChan_wheel (s : State) (c : Nat) (f : Channel → Channel) : (s.modChan c f).wheel = s.wheel := rfl
@[simp] theorem State.modChan_plan (s : State) (c : Nat) (f : Channel → Channel) : (s.modChan c f).plan = s.plan := rfl
@[simp] theorem State.modChan_codec (s : State) (c : Nat) (f : Channel → Channel) : (s.modChan c f).codec = s.codec := rfl
@[simp] theorem State.modChan_map (s : State) (c : Nat) (f : Channel → Channel) : (s.modChan c f).map = s.map := rfl
@[simp] theorem State.modChan_blk (s : State) (c : Nat) (f : Channel → Channel) : (s.modChan c f).blk = s.blk := rfl
@[simp] theorem State.modChan_girth (s : State) (c : Nat) (f : Channel → Channel) : (s.modChan c f).girth = s.girth := rfl
@[simp] theorem State.modChan_wb (s : State) (c : Nat) (f : Channel → Channel) : (s.modChan c f).wb = s.wb := rfl
@[simp] theorem State.modChan_dump (s : State) (c : Nat) (f : Channel → Channel) : (s.modChan c f).dump = s.dump := rfl
@[simp] theorem State.modChan_rein (s : State) (c : Nat) (f : Channel → Channel) : (s.modChan c f).rein = s.rein := rfl
@[simp] theorem State.modChan_fe (s : State) (c : Nat) (f : Channel → Channel) : (s.modChan c f).fe = s.fe := rfl
@[simp] theorem State.modChan_cipher (s : State) (c : Nat) (f : Channel → Channel) : (s.modChan c f).cipher = s.cipher := rfl
@[simp] theorem State.modChan_skv (s : State) (c : Nat) (f : Channel → Channel) : (s.modChan c f).skv = s.skv := rfl
@[simp] theorem State.modChan_dram (s : State) (c : Nat) (f : Channel → Channel) : (s.modChan c f).dram = s.dram := rfl
@[simp] theorem State.modChan_mc (s : State) (c : Nat) (f : Channel → Channel) : (s.modChan c f).mc = s.mc := rfl
@[simp] theorem State.modChan_dma (s : State) (c : Nat) (f : Channel → Channel) : (s.modChan c f).dma = s.dma := rfl
@[simp] theorem State.modChan_therm (s : State) (c : Nat) (f : Channel → Channel) : (s.modChan c f).therm = s.therm := rfl
@[simp] theorem State.modChan_obs (s : State) (c : Nat) (f : Channel → Channel) : (s.modChan c f).obs = s.obs := rfl
@[simp] theorem State.modChan_ts (s : State) (c : Nat) (f : Channel → Channel) : (s.modChan c f).ts = s.ts := rfl
@[simp] theorem State.modChan_img (s : State) (c : Nat) (f : Channel → Channel) : (s.modChan c f).img = s.img := rfl
@[simp] theorem State.modChan_fault (s : State) (c : Nat) (f : Channel → Channel) : (s.modChan c f).fault = s.fault := rfl
@[simp] theorem State.modChan_pkg (s : State) (c : Nat) (f : Channel → Channel) : (s.modChan c f).pkg = s.pkg := rfl
@[simp] theorem State.modChan_media (s : State) (c : Nat) (f : Channel → Channel) : (s.modChan c f).media = s.media := rfl

@[simp] theorem State.setBlk_pending (s : State) (b : Nat) (r : BlockRec) : (s.setBlk b r).pending = s.pending := rfl
@[simp] theorem State.setBlk_free (s : State) (b : Nat) (r : BlockRec) : (s.setBlk b r).free = s.free := rfl
@[simp] theorem State.setBlk_wheel (s : State) (b : Nat) (r : BlockRec) : (s.setBlk b r).wheel = s.wheel := rfl
@[simp] theorem State.setBlk_plan (s : State) (b : Nat) (r : BlockRec) : (s.setBlk b r).plan = s.plan := rfl
@[simp] theorem State.setBlk_awl (s : State) (b : Nat) (r : BlockRec) : (s.setBlk b r).awl = s.awl := rfl
@[simp] theorem State.setBlk_codec (s : State) (b : Nat) (r : BlockRec) : (s.setBlk b r).codec = s.codec := rfl
@[simp] theorem State.setBlk_map (s : State) (b : Nat) (r : BlockRec) : (s.setBlk b r).map = s.map := rfl
@[simp] theorem State.setBlk_girth (s : State) (b : Nat) (r : BlockRec) : (s.setBlk b r).girth = s.girth := rfl
@[simp] theorem State.setBlk_wb (s : State) (b : Nat) (r : BlockRec) : (s.setBlk b r).wb = s.wb := rfl
@[simp] theorem State.setBlk_dump (s : State) (b : Nat) (r : BlockRec) : (s.setBlk b r).dump = s.dump := rfl
@[simp] theorem State.setBlk_rein (s : State) (b : Nat) (r : BlockRec) : (s.setBlk b r).rein = s.rein := rfl
@[simp] theorem State.setBlk_fe (s : State) (b : Nat) (r : BlockRec) : (s.setBlk b r).fe = s.fe := rfl
@[simp] theorem State.setBlk_cipher (s : State) (b : Nat) (r : BlockRec) : (s.setBlk b r).cipher = s.cipher := rfl
@[simp] theorem State.setBlk_skv (s : State) (b : Nat) (r : BlockRec) : (s.setBlk b r).skv = s.skv := rfl
@[simp] theorem State.setBlk_dram (s : State) (b : Nat) (r : BlockRec) : (s.setBlk b r).dram = s.dram := rfl
@[simp] theorem State.setBlk_mc (s : State) (b : Nat) (r : BlockRec) : (s.setBlk b r).mc = s.mc := rfl
@[simp] theorem State.setBlk_dma (s : State) (b : Nat) (r : BlockRec) : (s.setBlk b r).dma = s.dma := rfl
@[simp] theorem State.setBlk_therm (s : State) (b : Nat) (r : BlockRec) : (s.setBlk b r).therm = s.therm := rfl
@[simp] theorem State.setBlk_obs (s : State) (b : Nat) (r : BlockRec) : (s.setBlk b r).obs = s.obs := rfl
@[simp] theorem State.setBlk_ts (s : State) (b : Nat) (r : BlockRec) : (s.setBlk b r).ts = s.ts := rfl
@[simp] theorem State.setBlk_img (s : State) (b : Nat) (r : BlockRec) : (s.setBlk b r).img = s.img := rfl
@[simp] theorem State.setBlk_fault (s : State) (b : Nat) (r : BlockRec) : (s.setBlk b r).fault = s.fault := rfl
@[simp] theorem State.setBlk_pkg (s : State) (b : Nat) (r : BlockRec) : (s.setBlk b r).pkg = s.pkg := rfl
@[simp] theorem State.setBlk_media (s : State) (b : Nat) (r : BlockRec) : (s.setBlk b r).media = s.media := rfl

@[simp] theorem State.modBlk_pending (s : State) (b : Nat) (f : BlockRec → BlockRec) : (s.modBlk b f).pending = s.pending := rfl
@[simp] theorem State.modBlk_free (s : State) (b : Nat) (f : BlockRec → BlockRec) : (s.modBlk b f).free = s.free := rfl
@[simp] theorem State.modBlk_wheel (s : State) (b : Nat) (f : BlockRec → BlockRec) : (s.modBlk b f).wheel = s.wheel := rfl
@[simp] theorem State.modBlk_plan (s : State) (b : Nat) (f : BlockRec → BlockRec) : (s.modBlk b f).plan = s.plan := rfl
@[simp] theorem State.modBlk_awl (s : State) (b : Nat) (f : BlockRec → BlockRec) : (s.modBlk b f).awl = s.awl := rfl
@[simp] theorem State.modBlk_codec (s : State) (b : Nat) (f : BlockRec → BlockRec) : (s.modBlk b f).codec = s.codec := rfl
@[simp] theorem State.modBlk_map (s : State) (b : Nat) (f : BlockRec → BlockRec) : (s.modBlk b f).map = s.map := rfl
@[simp] theorem State.modBlk_girth (s : State) (b : Nat) (f : BlockRec → BlockRec) : (s.modBlk b f).girth = s.girth := rfl
@[simp] theorem State.modBlk_wb (s : State) (b : Nat) (f : BlockRec → BlockRec) : (s.modBlk b f).wb = s.wb := rfl
@[simp] theorem State.modBlk_dump (s : State) (b : Nat) (f : BlockRec → BlockRec) : (s.modBlk b f).dump = s.dump := rfl
@[simp] theorem State.modBlk_rein (s : State) (b : Nat) (f : BlockRec → BlockRec) : (s.modBlk b f).rein = s.rein := rfl
@[simp] theorem State.modBlk_fe (s : State) (b : Nat) (f : BlockRec → BlockRec) : (s.modBlk b f).fe = s.fe := rfl
@[simp] theorem State.modBlk_cipher (s : State) (b : Nat) (f : BlockRec → BlockRec) : (s.modBlk b f).cipher = s.cipher := rfl
@[simp] theorem State.modBlk_skv (s : State) (b : Nat) (f : BlockRec → BlockRec) : (s.modBlk b f).skv = s.skv := rfl
@[simp] theorem State.modBlk_dram (s : State) (b : Nat) (f : BlockRec → BlockRec) : (s.modBlk b f).dram = s.dram := rfl
@[simp] theorem State.modBlk_mc (s : State) (b : Nat) (f : BlockRec → BlockRec) : (s.modBlk b f).mc = s.mc := rfl
@[simp] theorem State.modBlk_dma (s : State) (b : Nat) (f : BlockRec → BlockRec) : (s.modBlk b f).dma = s.dma := rfl
@[simp] theorem State.modBlk_therm (s : State) (b : Nat) (f : BlockRec → BlockRec) : (s.modBlk b f).therm = s.therm := rfl
@[simp] theorem State.modBlk_obs (s : State) (b : Nat) (f : BlockRec → BlockRec) : (s.modBlk b f).obs = s.obs := rfl
@[simp] theorem State.modBlk_ts (s : State) (b : Nat) (f : BlockRec → BlockRec) : (s.modBlk b f).ts = s.ts := rfl
@[simp] theorem State.modBlk_img (s : State) (b : Nat) (f : BlockRec → BlockRec) : (s.modBlk b f).img = s.img := rfl
@[simp] theorem State.modBlk_fault (s : State) (b : Nat) (f : BlockRec → BlockRec) : (s.modBlk b f).fault = s.fault := rfl
@[simp] theorem State.modBlk_pkg (s : State) (b : Nat) (f : BlockRec → BlockRec) : (s.modBlk b f).pkg = s.pkg := rfl
@[simp] theorem State.modBlk_media (s : State) (b : Nat) (f : BlockRec → BlockRec) : (s.modBlk b f).media = s.media := rfl

@[simp] theorem State.modLists_pending (s : State) (d : Nat) (f : DieLists → DieLists) : (s.modLists d f).pending = s.pending := rfl
@[simp] theorem State.modLists_free (s : State) (d : Nat) (f : DieLists → DieLists) : (s.modLists d f).free = s.free := rfl
@[simp] theorem State.modLists_wheel (s : State) (d : Nat) (f : DieLists → DieLists) : (s.modLists d f).wheel = s.wheel := rfl
@[simp] theorem State.modLists_plan (s : State) (d : Nat) (f : DieLists → DieLists) : (s.modLists d f).plan = s.plan := rfl
@[simp] theorem State.modLists_awl (s : State) (d : Nat) (f : DieLists → DieLists) : (s.modLists d f).awl = s.awl := rfl
@[simp] theorem State.modLists_codec (s : State) (d : Nat) (f : DieLists → DieLists) : (s.modLists d f).codec = s.codec := rfl
@[simp] theorem State.modLists_map (s : State) (d : Nat) (f : DieLists → DieLists) : (s.modLists d f).map = s.map := rfl
@[simp] theorem State.modLists_girth (s : State) (d : Nat) (f : DieLists → DieLists) : (s.modLists d f).girth = s.girth := rfl
@[simp] theorem State.modLists_wb (s : State) (d : Nat) (f : DieLists → DieLists) : (s.modLists d f).wb = s.wb := rfl
@[simp] theorem State.modLists_dump (s : State) (d : Nat) (f : DieLists → DieLists) : (s.modLists d f).dump = s.dump := rfl
@[simp] theorem State.modLists_rein (s : State) (d : Nat) (f : DieLists → DieLists) : (s.modLists d f).rein = s.rein := rfl
@[simp] theorem State.modLists_fe (s : State) (d : Nat) (f : DieLists → DieLists) : (s.modLists d f).fe = s.fe := rfl
@[simp] theorem State.modLists_cipher (s : State) (d : Nat) (f : DieLists → DieLists) : (s.modLists d f).cipher = s.cipher := rfl
@[simp] theorem State.modLists_skv (s : State) (d : Nat) (f : DieLists → DieLists) : (s.modLists d f).skv = s.skv := rfl
@[simp] theorem State.modLists_dram (s : State) (d : Nat) (f : DieLists → DieLists) : (s.modLists d f).dram = s.dram := rfl
@[simp] theorem State.modLists_mc (s : State) (d : Nat) (f : DieLists → DieLists) : (s.modLists d f).mc = s.mc := rfl
@[simp] theorem State.modLists_dma (s : State) (d : Nat) (f : DieLists → DieLists) : (s.modLists d f).dma = s.dma := rfl
@[simp] theorem State.modLists_therm (s : State) (d : Nat) (f : DieLists → DieLists) : (s.modLists d f).therm = s.therm := rfl
@[simp] theorem State.modLists_obs (s : State) (d : Nat) (f : DieLists → DieLists) : (s.modLists d f).obs = s.obs := rfl
@[simp] theorem State.modLists_ts (s : State) (d : Nat) (f : DieLists → DieLists) : (s.modLists d f).ts = s.ts := rfl
@[simp] theorem State.modLists_img (s : State) (d : Nat) (f : DieLists → DieLists) : (s.modLists d f).img = s.img := rfl
@[simp] theorem State.modLists_fault (s : State) (d : Nat) (f : DieLists → DieLists) : (s.modLists d f).fault = s.fault := rfl
@[simp] theorem State.modLists_pkg (s : State) (d : Nat) (f : DieLists → DieLists) : (s.modLists d f).pkg = s.pkg := rfl
@[simp] theorem State.modLists_media (s : State) (d : Nat) (f : DieLists → DieLists) : (s.modLists d f).media = s.media := rfl

@[simp] theorem State.modVt_pending (s : State) (g : Nat) (f : VtGroup → VtGroup) : (s.modVt g f).pending = s.pending := rfl
@[simp] theorem State.modVt_free (s : State) (g : Nat) (f : VtGroup → VtGroup) : (s.modVt g f).free = s.free := rfl
@[simp] theorem State.modVt_wheel (s : State) (g : Nat) (f : VtGroup → VtGroup) : (s.modVt g f).wheel = s.wheel := rfl
@[simp] theorem State.modVt_plan (s : State) (g : Nat) (f : VtGroup → VtGroup) : (s.modVt g f).plan = s.plan := rfl
@[simp] theorem State.modVt_awl (s : State) (g : Nat) (f : VtGroup → VtGroup) : (s.modVt g f).awl = s.awl := rfl
@[simp] theorem State.modVt_map (s : State) (g : Nat) (f : VtGroup → VtGroup) : (s.modVt g f).map = s.map := rfl
@[simp] theorem State.modVt_blk (s : State) (g : Nat) (f : VtGroup → VtGroup) : (s.modVt g f).blk = s.blk := rfl
@[simp] theorem State.modVt_girth (s : State) (g : Nat) (f : VtGroup → VtGroup) : (s.modVt g f).girth = s.girth := rfl
@[simp] theorem State.modVt_wb (s : State) (g : Nat) (f : VtGroup → VtGroup) : (s.modVt g f).wb = s.wb := rfl
@[simp] theorem State.modVt_dump (s : State) (g : Nat) (f : VtGroup → VtGroup) : (s.modVt g f).dump = s.dump := rfl
@[simp] theorem State.modVt_rein (s : State) (g : Nat) (f : VtGroup → VtGroup) : (s.modVt g f).rein = s.rein := rfl
@[simp] theorem State.modVt_fe (s : State) (g : Nat) (f : VtGroup → VtGroup) : (s.modVt g f).fe = s.fe := rfl
@[simp] theorem State.modVt_cipher (s : State) (g : Nat) (f : VtGroup → VtGroup) : (s.modVt g f).cipher = s.cipher := rfl
@[simp] theorem State.modVt_skv (s : State) (g : Nat) (f : VtGroup → VtGroup) : (s.modVt g f).skv = s.skv := rfl
@[simp] theorem State.modVt_dram (s : State) (g : Nat) (f : VtGroup → VtGroup) : (s.modVt g f).dram = s.dram := rfl
@[simp] theorem State.modVt_mc (s : State) (g : Nat) (f : VtGroup → VtGroup) : (s.modVt g f).mc = s.mc := rfl
@[simp] theorem State.modVt_dma (s : State) (g : Nat) (f : VtGroup → VtGroup) : (s.modVt g f).dma = s.dma := rfl
@[simp] theorem State.modVt_therm (s : State) (g : Nat) (f : VtGroup → VtGroup) : (s.modVt g f).therm = s.therm := rfl
@[simp] theorem State.modVt_obs (s : State) (g : Nat) (f : VtGroup → VtGroup) : (s.modVt g f).obs = s.obs := rfl
@[simp] theorem State.modVt_ts (s : State) (g : Nat) (f : VtGroup → VtGroup) : (s.modVt g f).ts = s.ts := rfl
@[simp] theorem State.modVt_img (s : State) (g : Nat) (f : VtGroup → VtGroup) : (s.modVt g f).img = s.img := rfl
@[simp] theorem State.modVt_fault (s : State) (g : Nat) (f : VtGroup → VtGroup) : (s.modVt g f).fault = s.fault := rfl
@[simp] theorem State.modVt_pkg (s : State) (g : Nat) (f : VtGroup → VtGroup) : (s.modVt g f).pkg = s.pkg := rfl
@[simp] theorem State.modVt_media (s : State) (g : Nat) (f : VtGroup → VtGroup) : (s.modVt g f).media = s.media := rfl

@[simp] theorem State.setFjob_pending (s : State) (n : Nat) (j : FrameJob) : (s.setFjob n j).pending = s.pending := rfl
@[simp] theorem State.setFjob_free (s : State) (n : Nat) (j : FrameJob) : (s.setFjob n j).free = s.free := rfl
@[simp] theorem State.setFjob_wheel (s : State) (n : Nat) (j : FrameJob) : (s.setFjob n j).wheel = s.wheel := rfl
@[simp] theorem State.setFjob_plan (s : State) (n : Nat) (j : FrameJob) : (s.setFjob n j).plan = s.plan := rfl
@[simp] theorem State.setFjob_awl (s : State) (n : Nat) (j : FrameJob) : (s.setFjob n j).awl = s.awl := rfl
@[simp] theorem State.setFjob_map (s : State) (n : Nat) (j : FrameJob) : (s.setFjob n j).map = s.map := rfl
@[simp] theorem State.setFjob_blk (s : State) (n : Nat) (j : FrameJob) : (s.setFjob n j).blk = s.blk := rfl
@[simp] theorem State.setFjob_girth (s : State) (n : Nat) (j : FrameJob) : (s.setFjob n j).girth = s.girth := rfl
@[simp] theorem State.setFjob_wb (s : State) (n : Nat) (j : FrameJob) : (s.setFjob n j).wb = s.wb := rfl
@[simp] theorem State.setFjob_dump (s : State) (n : Nat) (j : FrameJob) : (s.setFjob n j).dump = s.dump := rfl
@[simp] theorem State.setFjob_rein (s : State) (n : Nat) (j : FrameJob) : (s.setFjob n j).rein = s.rein := rfl
@[simp] theorem State.setFjob_fe (s : State) (n : Nat) (j : FrameJob) : (s.setFjob n j).fe = s.fe := rfl
@[simp] theorem State.setFjob_cipher (s : State) (n : Nat) (j : FrameJob) : (s.setFjob n j).cipher = s.cipher := rfl
@[simp] theorem State.setFjob_skv (s : State) (n : Nat) (j : FrameJob) : (s.setFjob n j).skv = s.skv := rfl
@[simp] theorem State.setFjob_dram (s : State) (n : Nat) (j : FrameJob) : (s.setFjob n j).dram = s.dram := rfl
@[simp] theorem State.setFjob_mc (s : State) (n : Nat) (j : FrameJob) : (s.setFjob n j).mc = s.mc := rfl
@[simp] theorem State.setFjob_dma (s : State) (n : Nat) (j : FrameJob) : (s.setFjob n j).dma = s.dma := rfl
@[simp] theorem State.setFjob_therm (s : State) (n : Nat) (j : FrameJob) : (s.setFjob n j).therm = s.therm := rfl
@[simp] theorem State.setFjob_obs (s : State) (n : Nat) (j : FrameJob) : (s.setFjob n j).obs = s.obs := rfl
@[simp] theorem State.setFjob_ts (s : State) (n : Nat) (j : FrameJob) : (s.setFjob n j).ts = s.ts := rfl
@[simp] theorem State.setFjob_img (s : State) (n : Nat) (j : FrameJob) : (s.setFjob n j).img = s.img := rfl
@[simp] theorem State.setFjob_fault (s : State) (n : Nat) (j : FrameJob) : (s.setFjob n j).fault = s.fault := rfl
@[simp] theorem State.setFjob_pkg (s : State) (n : Nat) (j : FrameJob) : (s.setFjob n j).pkg = s.pkg := rfl
@[simp] theorem State.setFjob_media (s : State) (n : Nat) (j : FrameJob) : (s.setFjob n j).media = s.media := rfl

@[simp] theorem State.dropFjob_pending (s : State) (n : Nat) : (s.dropFjob n).pending = s.pending := rfl
@[simp] theorem State.dropFjob_free (s : State) (n : Nat) : (s.dropFjob n).free = s.free := rfl
@[simp] theorem State.dropFjob_wheel (s : State) (n : Nat) : (s.dropFjob n).wheel = s.wheel := rfl
@[simp] theorem State.dropFjob_plan (s : State) (n : Nat) : (s.dropFjob n).plan = s.plan := rfl
@[simp] theorem State.dropFjob_awl (s : State) (n : Nat) : (s.dropFjob n).awl = s.awl := rfl
@[simp] theorem State.dropFjob_map (s : State) (n : Nat) : (s.dropFjob n).map = s.map := rfl
@[simp] theorem State.dropFjob_blk (s : State) (n : Nat) : (s.dropFjob n).blk = s.blk := rfl
@[simp] theorem State.dropFjob_girth (s : State) (n : Nat) : (s.dropFjob n).girth = s.girth := rfl
@[simp] theorem State.dropFjob_wb (s : State) (n : Nat) : (s.dropFjob n).wb = s.wb := rfl
@[simp] theorem State.dropFjob_dump (s : State) (n : Nat) : (s.dropFjob n).dump = s.dump := rfl
@[simp] theorem State.dropFjob_rein (s : State) (n : Nat) : (s.dropFjob n).rein = s.rein := rfl
@[simp] theorem State.dropFjob_fe (s : State) (n : Nat) : (s.dropFjob n).fe = s.fe := rfl
@[simp] theorem State.dropFjob_cipher (s : State) (n : Nat) : (s.dropFjob n).cipher = s.cipher := rfl
@[simp] theorem State.dropFjob_skv (s : State) (n : Nat) : (s.dropFjob n).skv = s.skv := rfl
@[simp] theorem State.dropFjob_dram (s : State) (n : Nat) : (s.dropFjob n).dram = s.dram := rfl
@[simp] theorem State.dropFjob_mc (s : State) (n : Nat) : (s.dropFjob n).mc = s.mc := rfl
@[simp] theorem State.dropFjob_dma (s : State) (n : Nat) : (s.dropFjob n).dma = s.dma := rfl
@[simp] theorem State.dropFjob_therm (s : State) (n : Nat) : (s.dropFjob n).therm = s.therm := rfl
@[simp] theorem State.dropFjob_obs (s : State) (n : Nat) : (s.dropFjob n).obs = s.obs := rfl
@[simp] theorem State.dropFjob_ts (s : State) (n : Nat) : (s.dropFjob n).ts = s.ts := rfl
@[simp] theorem State.dropFjob_img (s : State) (n : Nat) : (s.dropFjob n).img = s.img := rfl
@[simp] theorem State.dropFjob_fault (s : State) (n : Nat) : (s.dropFjob n).fault = s.fault := rfl
@[simp] theorem State.dropFjob_pkg (s : State) (n : Nat) : (s.dropFjob n).pkg = s.pkg := rfl
@[simp] theorem State.dropFjob_media (s : State) (n : Nat) : (s.dropFjob n).media = s.media := rfl

@[simp] theorem State.modRecal_pending (s : State) (g : Nat) (f : Recal → Recal) : (s.modRecal g f).pending = s.pending := rfl
@[simp] theorem State.modRecal_free (s : State) (g : Nat) (f : Recal → Recal) : (s.modRecal g f).free = s.free := rfl
@[simp] theorem State.modRecal_wheel (s : State) (g : Nat) (f : Recal → Recal) : (s.modRecal g f).wheel = s.wheel := rfl
@[simp] theorem State.modRecal_plan (s : State) (g : Nat) (f : Recal → Recal) : (s.modRecal g f).plan = s.plan := rfl
@[simp] theorem State.modRecal_awl (s : State) (g : Nat) (f : Recal → Recal) : (s.modRecal g f).awl = s.awl := rfl
@[simp] theorem State.modRecal_map (s : State) (g : Nat) (f : Recal → Recal) : (s.modRecal g f).map = s.map := rfl
@[simp] theorem State.modRecal_blk (s : State) (g : Nat) (f : Recal → Recal) : (s.modRecal g f).blk = s.blk := rfl
@[simp] theorem State.modRecal_girth (s : State) (g : Nat) (f : Recal → Recal) : (s.modRecal g f).girth = s.girth := rfl
@[simp] theorem State.modRecal_wb (s : State) (g : Nat) (f : Recal → Recal) : (s.modRecal g f).wb = s.wb := rfl
@[simp] theorem State.modRecal_dump (s : State) (g : Nat) (f : Recal → Recal) : (s.modRecal g f).dump = s.dump := rfl
@[simp] theorem State.modRecal_rein (s : State) (g : Nat) (f : Recal → Recal) : (s.modRecal g f).rein = s.rein := rfl
@[simp] theorem State.modRecal_fe (s : State) (g : Nat) (f : Recal → Recal) : (s.modRecal g f).fe = s.fe := rfl
@[simp] theorem State.modRecal_cipher (s : State) (g : Nat) (f : Recal → Recal) : (s.modRecal g f).cipher = s.cipher := rfl
@[simp] theorem State.modRecal_skv (s : State) (g : Nat) (f : Recal → Recal) : (s.modRecal g f).skv = s.skv := rfl
@[simp] theorem State.modRecal_dram (s : State) (g : Nat) (f : Recal → Recal) : (s.modRecal g f).dram = s.dram := rfl
@[simp] theorem State.modRecal_mc (s : State) (g : Nat) (f : Recal → Recal) : (s.modRecal g f).mc = s.mc := rfl
@[simp] theorem State.modRecal_dma (s : State) (g : Nat) (f : Recal → Recal) : (s.modRecal g f).dma = s.dma := rfl
@[simp] theorem State.modRecal_therm (s : State) (g : Nat) (f : Recal → Recal) : (s.modRecal g f).therm = s.therm := rfl
@[simp] theorem State.modRecal_obs (s : State) (g : Nat) (f : Recal → Recal) : (s.modRecal g f).obs = s.obs := rfl
@[simp] theorem State.modRecal_ts (s : State) (g : Nat) (f : Recal → Recal) : (s.modRecal g f).ts = s.ts := rfl
@[simp] theorem State.modRecal_img (s : State) (g : Nat) (f : Recal → Recal) : (s.modRecal g f).img = s.img := rfl
@[simp] theorem State.modRecal_fault (s : State) (g : Nat) (f : Recal → Recal) : (s.modRecal g f).fault = s.fault := rfl
@[simp] theorem State.modRecal_pkg (s : State) (g : Nat) (f : Recal → Recal) : (s.modRecal g f).pkg = s.pkg := rfl
@[simp] theorem State.modRecal_media (s : State) (g : Nat) (f : Recal → Recal) : (s.modRecal g f).media = s.media := rfl

@[simp] theorem State.endRecal_pending (s : State) (g : Nat) : (s.endRecal g).pending = s.pending := rfl
@[simp] theorem State.endRecal_free (s : State) (g : Nat) : (s.endRecal g).free = s.free := rfl
@[simp] theorem State.endRecal_wheel (s : State) (g : Nat) : (s.endRecal g).wheel = s.wheel := rfl
@[simp] theorem State.endRecal_plan (s : State) (g : Nat) : (s.endRecal g).plan = s.plan := rfl
@[simp] theorem State.endRecal_awl (s : State) (g : Nat) : (s.endRecal g).awl = s.awl := rfl
@[simp] theorem State.endRecal_map (s : State) (g : Nat) : (s.endRecal g).map = s.map := rfl
@[simp] theorem State.endRecal_blk (s : State) (g : Nat) : (s.endRecal g).blk = s.blk := rfl
@[simp] theorem State.endRecal_girth (s : State) (g : Nat) : (s.endRecal g).girth = s.girth := rfl
@[simp] theorem State.endRecal_wb (s : State) (g : Nat) : (s.endRecal g).wb = s.wb := rfl
@[simp] theorem State.endRecal_dump (s : State) (g : Nat) : (s.endRecal g).dump = s.dump := rfl
@[simp] theorem State.endRecal_rein (s : State) (g : Nat) : (s.endRecal g).rein = s.rein := rfl
@[simp] theorem State.endRecal_fe (s : State) (g : Nat) : (s.endRecal g).fe = s.fe := rfl
@[simp] theorem State.endRecal_cipher (s : State) (g : Nat) : (s.endRecal g).cipher = s.cipher := rfl
@[simp] theorem State.endRecal_skv (s : State) (g : Nat) : (s.endRecal g).skv = s.skv := rfl
@[simp] theorem State.endRecal_dram (s : State) (g : Nat) : (s.endRecal g).dram = s.dram := rfl
@[simp] theorem State.endRecal_mc (s : State) (g : Nat) : (s.endRecal g).mc = s.mc := rfl
@[simp] theorem State.endRecal_dma (s : State) (g : Nat) : (s.endRecal g).dma = s.dma := rfl
@[simp] theorem State.endRecal_therm (s : State) (g : Nat) : (s.endRecal g).therm = s.therm := rfl
@[simp] theorem State.endRecal_obs (s : State) (g : Nat) : (s.endRecal g).obs = s.obs := rfl
@[simp] theorem State.endRecal_ts (s : State) (g : Nat) : (s.endRecal g).ts = s.ts := rfl
@[simp] theorem State.endRecal_img (s : State) (g : Nat) : (s.endRecal g).img = s.img := rfl
@[simp] theorem State.endRecal_fault (s : State) (g : Nat) : (s.endRecal g).fault = s.fault := rfl
@[simp] theorem State.endRecal_pkg (s : State) (g : Nat) : (s.endRecal g).pkg = s.pkg := rfl
@[simp] theorem State.endRecal_media (s : State) (g : Nat) : (s.endRecal g).media = s.media := rfl

@[simp] theorem State.setSeg_pending (s : State) (n : Nat) (d : SegDesc) : (s.setSeg n d).pending = s.pending := rfl
@[simp] theorem State.setSeg_free (s : State) (n : Nat) (d : SegDesc) : (s.setSeg n d).free = s.free := rfl
@[simp] theorem State.setSeg_wheel (s : State) (n : Nat) (d : SegDesc) : (s.setSeg n d).wheel = s.wheel := rfl
@[simp] theorem State.setSeg_plan (s : State) (n : Nat) (d : SegDesc) : (s.setSeg n d).plan = s.plan := rfl
@[simp] theorem State.setSeg_awl (s : State) (n : Nat) (d : SegDesc) : (s.setSeg n d).awl = s.awl := rfl
@[simp] theorem State.setSeg_codec (s : State) (n : Nat) (d : SegDesc) : (s.setSeg n d).codec = s.codec := rfl
@[simp] theorem State.setSeg_blk (s : State) (n : Nat) (d : SegDesc) : (s.setSeg n d).blk = s.blk := rfl
@[simp] theorem State.setSeg_girth (s : State) (n : Nat) (d : SegDesc) : (s.setSeg n d).girth = s.girth := rfl
@[simp] theorem State.setSeg_wb (s : State) (n : Nat) (d : SegDesc) : (s.setSeg n d).wb = s.wb := rfl
@[simp] theorem State.setSeg_dump (s : State) (n : Nat) (d : SegDesc) : (s.setSeg n d).dump = s.dump := rfl
@[simp] theorem State.setSeg_rein (s : State) (n : Nat) (d : SegDesc) : (s.setSeg n d).rein = s.rein := rfl
@[simp] theorem State.setSeg_fe (s : State) (n : Nat) (d : SegDesc) : (s.setSeg n d).fe = s.fe := rfl
@[simp] theorem State.setSeg_cipher (s : State) (n : Nat) (d : SegDesc) : (s.setSeg n d).cipher = s.cipher := rfl
@[simp] theorem State.setSeg_skv (s : State) (n : Nat) (d : SegDesc) : (s.setSeg n d).skv = s.skv := rfl
@[simp] theorem State.setSeg_dram (s : State) (n : Nat) (d : SegDesc) : (s.setSeg n d).dram = s.dram := rfl
@[simp] theorem State.setSeg_mc (s : State) (n : Nat) (d : SegDesc) : (s.setSeg n d).mc = s.mc := rfl
@[simp] theorem State.setSeg_dma (s : State) (n : Nat) (d : SegDesc) : (s.setSeg n d).dma = s.dma := rfl
@[simp] theorem State.setSeg_therm (s : State) (n : Nat) (d : SegDesc) : (s.setSeg n d).therm = s.therm := rfl
@[simp] theorem State.setSeg_obs (s : State) (n : Nat) (d : SegDesc) : (s.setSeg n d).obs = s.obs := rfl
@[simp] theorem State.setSeg_ts (s : State) (n : Nat) (d : SegDesc) : (s.setSeg n d).ts = s.ts := rfl
@[simp] theorem State.setSeg_img (s : State) (n : Nat) (d : SegDesc) : (s.setSeg n d).img = s.img := rfl
@[simp] theorem State.setSeg_fault (s : State) (n : Nat) (d : SegDesc) : (s.setSeg n d).fault = s.fault := rfl
@[simp] theorem State.setSeg_pkg (s : State) (n : Nat) (d : SegDesc) : (s.setSeg n d).pkg = s.pkg := rfl
@[simp] theorem State.setSeg_media (s : State) (n : Nat) (d : SegDesc) : (s.setSeg n d).media = s.media := rfl

@[simp] theorem State.modSeg_pending (s : State) (n : Nat) (f : SegDesc → SegDesc) : (s.modSeg n f).pending = s.pending := rfl
@[simp] theorem State.modSeg_free (s : State) (n : Nat) (f : SegDesc → SegDesc) : (s.modSeg n f).free = s.free := rfl
@[simp] theorem State.modSeg_wheel (s : State) (n : Nat) (f : SegDesc → SegDesc) : (s.modSeg n f).wheel = s.wheel := rfl
@[simp] theorem State.modSeg_plan (s : State) (n : Nat) (f : SegDesc → SegDesc) : (s.modSeg n f).plan = s.plan := rfl
@[simp] theorem State.modSeg_awl (s : State) (n : Nat) (f : SegDesc → SegDesc) : (s.modSeg n f).awl = s.awl := rfl
@[simp] theorem State.modSeg_codec (s : State) (n : Nat) (f : SegDesc → SegDesc) : (s.modSeg n f).codec = s.codec := rfl
@[simp] theorem State.modSeg_blk (s : State) (n : Nat) (f : SegDesc → SegDesc) : (s.modSeg n f).blk = s.blk := rfl
@[simp] theorem State.modSeg_girth (s : State) (n : Nat) (f : SegDesc → SegDesc) : (s.modSeg n f).girth = s.girth := rfl
@[simp] theorem State.modSeg_wb (s : State) (n : Nat) (f : SegDesc → SegDesc) : (s.modSeg n f).wb = s.wb := rfl
@[simp] theorem State.modSeg_dump (s : State) (n : Nat) (f : SegDesc → SegDesc) : (s.modSeg n f).dump = s.dump := rfl
@[simp] theorem State.modSeg_rein (s : State) (n : Nat) (f : SegDesc → SegDesc) : (s.modSeg n f).rein = s.rein := rfl
@[simp] theorem State.modSeg_fe (s : State) (n : Nat) (f : SegDesc → SegDesc) : (s.modSeg n f).fe = s.fe := rfl
@[simp] theorem State.modSeg_cipher (s : State) (n : Nat) (f : SegDesc → SegDesc) : (s.modSeg n f).cipher = s.cipher := rfl
@[simp] theorem State.modSeg_skv (s : State) (n : Nat) (f : SegDesc → SegDesc) : (s.modSeg n f).skv = s.skv := rfl
@[simp] theorem State.modSeg_dram (s : State) (n : Nat) (f : SegDesc → SegDesc) : (s.modSeg n f).dram = s.dram := rfl
@[simp] theorem State.modSeg_mc (s : State) (n : Nat) (f : SegDesc → SegDesc) : (s.modSeg n f).mc = s.mc := rfl
@[simp] theorem State.modSeg_dma (s : State) (n : Nat) (f : SegDesc → SegDesc) : (s.modSeg n f).dma = s.dma := rfl
@[simp] theorem State.modSeg_therm (s : State) (n : Nat) (f : SegDesc → SegDesc) : (s.modSeg n f).therm = s.therm := rfl
@[simp] theorem State.modSeg_obs (s : State) (n : Nat) (f : SegDesc → SegDesc) : (s.modSeg n f).obs = s.obs := rfl
@[simp] theorem State.modSeg_ts (s : State) (n : Nat) (f : SegDesc → SegDesc) : (s.modSeg n f).ts = s.ts := rfl
@[simp] theorem State.modSeg_img (s : State) (n : Nat) (f : SegDesc → SegDesc) : (s.modSeg n f).img = s.img := rfl
@[simp] theorem State.modSeg_fault (s : State) (n : Nat) (f : SegDesc → SegDesc) : (s.modSeg n f).fault = s.fault := rfl
@[simp] theorem State.modSeg_pkg (s : State) (n : Nat) (f : SegDesc → SegDesc) : (s.modSeg n f).pkg = s.pkg := rfl
@[simp] theorem State.modSeg_media (s : State) (n : Nat) (f : SegDesc → SegDesc) : (s.modSeg n f).media = s.media := rfl

@[simp] theorem State.modJob_pending (s : State) (n : Nat) (f : SdJob → SdJob) : (s.modJob n f).pending = s.pending := rfl
@[simp] theorem State.modJob_free (s : State) (n : Nat) (f : SdJob → SdJob) : (s.modJob n f).free = s.free := rfl
@[simp] theorem State.modJob_wheel (s : State) (n : Nat) (f : SdJob → SdJob) : (s.modJob n f).wheel = s.wheel := rfl
@[simp] theorem State.modJob_plan (s : State) (n : Nat) (f : SdJob → SdJob) : (s.modJob n f).plan = s.plan := rfl
@[simp] theorem State.modJob_awl (s : State) (n : Nat) (f : SdJob → SdJob) : (s.modJob n f).awl = s.awl := rfl
@[simp] theorem State.modJob_codec (s : State) (n : Nat) (f : SdJob → SdJob) : (s.modJob n f).codec = s.codec := rfl
@[simp] theorem State.modJob_blk (s : State) (n : Nat) (f : SdJob → SdJob) : (s.modJob n f).blk = s.blk := rfl
@[simp] theorem State.modJob_girth (s : State) (n : Nat) (f : SdJob → SdJob) : (s.modJob n f).girth = s.girth := rfl
@[simp] theorem State.modJob_wb (s : State) (n : Nat) (f : SdJob → SdJob) : (s.modJob n f).wb = s.wb := rfl
@[simp] theorem State.modJob_dump (s : State) (n : Nat) (f : SdJob → SdJob) : (s.modJob n f).dump = s.dump := rfl
@[simp] theorem State.modJob_rein (s : State) (n : Nat) (f : SdJob → SdJob) : (s.modJob n f).rein = s.rein := rfl
@[simp] theorem State.modJob_fe (s : State) (n : Nat) (f : SdJob → SdJob) : (s.modJob n f).fe = s.fe := rfl
@[simp] theorem State.modJob_cipher (s : State) (n : Nat) (f : SdJob → SdJob) : (s.modJob n f).cipher = s.cipher := rfl
@[simp] theorem State.modJob_skv (s : State) (n : Nat) (f : SdJob → SdJob) : (s.modJob n f).skv = s.skv := rfl
@[simp] theorem State.modJob_dram (s : State) (n : Nat) (f : SdJob → SdJob) : (s.modJob n f).dram = s.dram := rfl
@[simp] theorem State.modJob_mc (s : State) (n : Nat) (f : SdJob → SdJob) : (s.modJob n f).mc = s.mc := rfl
@[simp] theorem State.modJob_dma (s : State) (n : Nat) (f : SdJob → SdJob) : (s.modJob n f).dma = s.dma := rfl
@[simp] theorem State.modJob_therm (s : State) (n : Nat) (f : SdJob → SdJob) : (s.modJob n f).therm = s.therm := rfl
@[simp] theorem State.modJob_obs (s : State) (n : Nat) (f : SdJob → SdJob) : (s.modJob n f).obs = s.obs := rfl
@[simp] theorem State.modJob_ts (s : State) (n : Nat) (f : SdJob → SdJob) : (s.modJob n f).ts = s.ts := rfl
@[simp] theorem State.modJob_img (s : State) (n : Nat) (f : SdJob → SdJob) : (s.modJob n f).img = s.img := rfl
@[simp] theorem State.modJob_fault (s : State) (n : Nat) (f : SdJob → SdJob) : (s.modJob n f).fault = s.fault := rfl
@[simp] theorem State.modJob_pkg (s : State) (n : Nat) (f : SdJob → SdJob) : (s.modJob n f).pkg = s.pkg := rfl
@[simp] theorem State.modJob_media (s : State) (n : Nat) (f : SdJob → SdJob) : (s.modJob n f).media = s.media := rfl

@[simp] theorem State.modStream_pending (s : State) (n : Nat) (f : Stream → Stream) : (s.modStream n f).pending = s.pending := rfl
@[simp] theorem State.modStream_free (s : State) (n : Nat) (f : Stream → Stream) : (s.modStream n f).free = s.free := rfl
@[simp] theorem State.modStream_wheel (s : State) (n : Nat) (f : Stream → Stream) : (s.modStream n f).wheel = s.wheel := rfl
@[simp] theorem State.modStream_plan (s : State) (n : Nat) (f : Stream → Stream) : (s.modStream n f).plan = s.plan := rfl
@[simp] theorem State.modStream_awl (s : State) (n : Nat) (f : Stream → Stream) : (s.modStream n f).awl = s.awl := rfl
@[simp] theorem State.modStream_codec (s : State) (n : Nat) (f : Stream → Stream) : (s.modStream n f).codec = s.codec := rfl
@[simp] theorem State.modStream_map (s : State) (n : Nat) (f : Stream → Stream) : (s.modStream n f).map = s.map := rfl
@[simp] theorem State.modStream_blk (s : State) (n : Nat) (f : Stream → Stream) : (s.modStream n f).blk = s.blk := rfl
@[simp] theorem State.modStream_wb (s : State) (n : Nat) (f : Stream → Stream) : (s.modStream n f).wb = s.wb := rfl
@[simp] theorem State.modStream_dump (s : State) (n : Nat) (f : Stream → Stream) : (s.modStream n f).dump = s.dump := rfl
@[simp] theorem State.modStream_rein (s : State) (n : Nat) (f : Stream → Stream) : (s.modStream n f).rein = s.rein := rfl
@[simp] theorem State.modStream_fe (s : State) (n : Nat) (f : Stream → Stream) : (s.modStream n f).fe = s.fe := rfl
@[simp] theorem State.modStream_cipher (s : State) (n : Nat) (f : Stream → Stream) : (s.modStream n f).cipher = s.cipher := rfl
@[simp] theorem State.modStream_skv (s : State) (n : Nat) (f : Stream → Stream) : (s.modStream n f).skv = s.skv := rfl
@[simp] theorem State.modStream_dram (s : State) (n : Nat) (f : Stream → Stream) : (s.modStream n f).dram = s.dram := rfl
@[simp] theorem State.modStream_mc (s : State) (n : Nat) (f : Stream → Stream) : (s.modStream n f).mc = s.mc := rfl
@[simp] theorem State.modStream_dma (s : State) (n : Nat) (f : Stream → Stream) : (s.modStream n f).dma = s.dma := rfl
@[simp] theorem State.modStream_therm (s : State) (n : Nat) (f : Stream → Stream) : (s.modStream n f).therm = s.therm := rfl
@[simp] theorem State.modStream_obs (s : State) (n : Nat) (f : Stream → Stream) : (s.modStream n f).obs = s.obs := rfl
@[simp] theorem State.modStream_ts (s : State) (n : Nat) (f : Stream → Stream) : (s.modStream n f).ts = s.ts := rfl
@[simp] theorem State.modStream_img (s : State) (n : Nat) (f : Stream → Stream) : (s.modStream n f).img = s.img := rfl
@[simp] theorem State.modStream_fault (s : State) (n : Nat) (f : Stream → Stream) : (s.modStream n f).fault = s.fault := rfl
@[simp] theorem State.modStream_pkg (s : State) (n : Nat) (f : Stream → Stream) : (s.modStream n f).pkg = s.pkg := rfl
@[simp] theorem State.modStream_media (s : State) (n : Nat) (f : Stream → Stream) : (s.modStream n f).media = s.media := rfl

@[simp] theorem State.setGirth_pending (s : State) (n : Nat) (g : Girth) : (s.setGirth n g).pending = s.pending := rfl
@[simp] theorem State.setGirth_free (s : State) (n : Nat) (g : Girth) : (s.setGirth n g).free = s.free := rfl
@[simp] theorem State.setGirth_wheel (s : State) (n : Nat) (g : Girth) : (s.setGirth n g).wheel = s.wheel := rfl
@[simp] theorem State.setGirth_plan (s : State) (n : Nat) (g : Girth) : (s.setGirth n g).plan = s.plan := rfl
@[simp] theorem State.setGirth_awl (s : State) (n : Nat) (g : Girth) : (s.setGirth n g).awl = s.awl := rfl
@[simp] theorem State.setGirth_codec (s : State) (n : Nat) (g : Girth) : (s.setGirth n g).codec = s.codec := rfl
@[simp] theorem State.setGirth_map (s : State) (n : Nat) (g : Girth) : (s.setGirth n g).map = s.map := rfl
@[simp] theorem State.setGirth_blk (s : State) (n : Nat) (g : Girth) : (s.setGirth n g).blk = s.blk := rfl
@[simp] theorem State.setGirth_wb (s : State) (n : Nat) (g : Girth) : (s.setGirth n g).wb = s.wb := rfl
@[simp] theorem State.setGirth_dump (s : State) (n : Nat) (g : Girth) : (s.setGirth n g).dump = s.dump := rfl
@[simp] theorem State.setGirth_rein (s : State) (n : Nat) (g : Girth) : (s.setGirth n g).rein = s.rein := rfl
@[simp] theorem State.setGirth_fe (s : State) (n : Nat) (g : Girth) : (s.setGirth n g).fe = s.fe := rfl
@[simp] theorem State.setGirth_cipher (s : State) (n : Nat) (g : Girth) : (s.setGirth n g).cipher = s.cipher := rfl
@[simp] theorem State.setGirth_skv (s : State) (n : Nat) (g : Girth) : (s.setGirth n g).skv = s.skv := rfl
@[simp] theorem State.setGirth_dram (s : State) (n : Nat) (g : Girth) : (s.setGirth n g).dram = s.dram := rfl
@[simp] theorem State.setGirth_mc (s : State) (n : Nat) (g : Girth) : (s.setGirth n g).mc = s.mc := rfl
@[simp] theorem State.setGirth_dma (s : State) (n : Nat) (g : Girth) : (s.setGirth n g).dma = s.dma := rfl
@[simp] theorem State.setGirth_therm (s : State) (n : Nat) (g : Girth) : (s.setGirth n g).therm = s.therm := rfl
@[simp] theorem State.setGirth_obs (s : State) (n : Nat) (g : Girth) : (s.setGirth n g).obs = s.obs := rfl
@[simp] theorem State.setGirth_ts (s : State) (n : Nat) (g : Girth) : (s.setGirth n g).ts = s.ts := rfl
@[simp] theorem State.setGirth_img (s : State) (n : Nat) (g : Girth) : (s.setGirth n g).img = s.img := rfl
@[simp] theorem State.setGirth_fault (s : State) (n : Nat) (g : Girth) : (s.setGirth n g).fault = s.fault := rfl
@[simp] theorem State.setGirth_pkg (s : State) (n : Nat) (g : Girth) : (s.setGirth n g).pkg = s.pkg := rfl
@[simp] theorem State.setGirth_media (s : State) (n : Nat) (g : Girth) : (s.setGirth n g).media = s.media := rfl

@[simp] theorem State.modGirth_pending (s : State) (n : Nat) (f : Girth → Girth) : (s.modGirth n f).pending = s.pending := rfl
@[simp] theorem State.modGirth_free (s : State) (n : Nat) (f : Girth → Girth) : (s.modGirth n f).free = s.free := rfl
@[simp] theorem State.modGirth_wheel (s : State) (n : Nat) (f : Girth → Girth) : (s.modGirth n f).wheel = s.wheel := rfl
@[simp] theorem State.modGirth_plan (s : State) (n : Nat) (f : Girth → Girth) : (s.modGirth n f).plan = s.plan := rfl
@[simp] theorem State.modGirth_awl (s : State) (n : Nat) (f : Girth → Girth) : (s.modGirth n f).awl = s.awl := rfl
@[simp] theorem State.modGirth_codec (s : State) (n : Nat) (f : Girth → Girth) : (s.modGirth n f).codec = s.codec := rfl
@[simp] theorem State.modGirth_map (s : State) (n : Nat) (f : Girth → Girth) : (s.modGirth n f).map = s.map := rfl
@[simp] theorem State.modGirth_blk (s : State) (n : Nat) (f : Girth → Girth) : (s.modGirth n f).blk = s.blk := rfl
@[simp] theorem State.modGirth_wb (s : State) (n : Nat) (f : Girth → Girth) : (s.modGirth n f).wb = s.wb := rfl
@[simp] theorem State.modGirth_dump (s : State) (n : Nat) (f : Girth → Girth) : (s.modGirth n f).dump = s.dump := rfl
@[simp] theorem State.modGirth_rein (s : State) (n : Nat) (f : Girth → Girth) : (s.modGirth n f).rein = s.rein := rfl
@[simp] theorem State.modGirth_fe (s : State) (n : Nat) (f : Girth → Girth) : (s.modGirth n f).fe = s.fe := rfl
@[simp] theorem State.modGirth_cipher (s : State) (n : Nat) (f : Girth → Girth) : (s.modGirth n f).cipher = s.cipher := rfl
@[simp] theorem State.modGirth_skv (s : State) (n : Nat) (f : Girth → Girth) : (s.modGirth n f).skv = s.skv := rfl
@[simp] theorem State.modGirth_dram (s : State) (n : Nat) (f : Girth → Girth) : (s.modGirth n f).dram = s.dram := rfl
@[simp] theorem State.modGirth_mc (s : State) (n : Nat) (f : Girth → Girth) : (s.modGirth n f).mc = s.mc := rfl
@[simp] theorem State.modGirth_dma (s : State) (n : Nat) (f : Girth → Girth) : (s.modGirth n f).dma = s.dma := rfl
@[simp] theorem State.modGirth_therm (s : State) (n : Nat) (f : Girth → Girth) : (s.modGirth n f).therm = s.therm := rfl
@[simp] theorem State.modGirth_obs (s : State) (n : Nat) (f : Girth → Girth) : (s.modGirth n f).obs = s.obs := rfl
@[simp] theorem State.modGirth_ts (s : State) (n : Nat) (f : Girth → Girth) : (s.modGirth n f).ts = s.ts := rfl
@[simp] theorem State.modGirth_img (s : State) (n : Nat) (f : Girth → Girth) : (s.modGirth n f).img = s.img := rfl
@[simp] theorem State.modGirth_fault (s : State) (n : Nat) (f : Girth → Girth) : (s.modGirth n f).fault = s.fault := rfl
@[simp] theorem State.modGirth_pkg (s : State) (n : Nat) (f : Girth → Girth) : (s.modGirth n f).pkg = s.pkg := rfl
@[simp] theorem State.modGirth_media (s : State) (n : Nat) (f : Girth → Girth) : (s.modGirth n f).media = s.media := rfl

@[simp] theorem State.modSet_pending (s : State) (n : Nat) (f : SetRec → SetRec) : (s.modSet n f).pending = s.pending := rfl
@[simp] theorem State.modSet_free (s : State) (n : Nat) (f : SetRec → SetRec) : (s.modSet n f).free = s.free := rfl
@[simp] theorem State.modSet_wheel (s : State) (n : Nat) (f : SetRec → SetRec) : (s.modSet n f).wheel = s.wheel := rfl
@[simp] theorem State.modSet_plan (s : State) (n : Nat) (f : SetRec → SetRec) : (s.modSet n f).plan = s.plan := rfl
@[simp] theorem State.modSet_awl (s : State) (n : Nat) (f : SetRec → SetRec) : (s.modSet n f).awl = s.awl := rfl
@[simp] theorem State.modSet_codec (s : State) (n : Nat) (f : SetRec → SetRec) : (s.modSet n f).codec = s.codec := rfl
@[simp] theorem State.modSet_map (s : State) (n : Nat) (f : SetRec → SetRec) : (s.modSet n f).map = s.map := rfl
@[simp] theorem State.modSet_blk (s : State) (n : Nat) (f : SetRec → SetRec) : (s.modSet n f).blk = s.blk := rfl
@[simp] theorem State.modSet_wb (s : State) (n : Nat) (f : SetRec → SetRec) : (s.modSet n f).wb = s.wb := rfl
@[simp] theorem State.modSet_dump (s : State) (n : Nat) (f : SetRec → SetRec) : (s.modSet n f).dump = s.dump := rfl
@[simp] theorem State.modSet_rein (s : State) (n : Nat) (f : SetRec → SetRec) : (s.modSet n f).rein = s.rein := rfl
@[simp] theorem State.modSet_fe (s : State) (n : Nat) (f : SetRec → SetRec) : (s.modSet n f).fe = s.fe := rfl
@[simp] theorem State.modSet_cipher (s : State) (n : Nat) (f : SetRec → SetRec) : (s.modSet n f).cipher = s.cipher := rfl
@[simp] theorem State.modSet_skv (s : State) (n : Nat) (f : SetRec → SetRec) : (s.modSet n f).skv = s.skv := rfl
@[simp] theorem State.modSet_dram (s : State) (n : Nat) (f : SetRec → SetRec) : (s.modSet n f).dram = s.dram := rfl
@[simp] theorem State.modSet_mc (s : State) (n : Nat) (f : SetRec → SetRec) : (s.modSet n f).mc = s.mc := rfl
@[simp] theorem State.modSet_dma (s : State) (n : Nat) (f : SetRec → SetRec) : (s.modSet n f).dma = s.dma := rfl
@[simp] theorem State.modSet_therm (s : State) (n : Nat) (f : SetRec → SetRec) : (s.modSet n f).therm = s.therm := rfl
@[simp] theorem State.modSet_obs (s : State) (n : Nat) (f : SetRec → SetRec) : (s.modSet n f).obs = s.obs := rfl
@[simp] theorem State.modSet_ts (s : State) (n : Nat) (f : SetRec → SetRec) : (s.modSet n f).ts = s.ts := rfl
@[simp] theorem State.modSet_img (s : State) (n : Nat) (f : SetRec → SetRec) : (s.modSet n f).img = s.img := rfl
@[simp] theorem State.modSet_fault (s : State) (n : Nat) (f : SetRec → SetRec) : (s.modSet n f).fault = s.fault := rfl
@[simp] theorem State.modSet_pkg (s : State) (n : Nat) (f : SetRec → SetRec) : (s.modSet n f).pkg = s.pkg := rfl
@[simp] theorem State.modSet_media (s : State) (n : Nat) (f : SetRec → SetRec) : (s.modSet n f).media = s.media := rfl

@[simp] theorem State.modRecon_pending (s : State) (n : Nat) (f : Recon → Recon) : (s.modRecon n f).pending = s.pending := rfl
@[simp] theorem State.modRecon_free (s : State) (n : Nat) (f : Recon → Recon) : (s.modRecon n f).free = s.free := rfl
@[simp] theorem State.modRecon_wheel (s : State) (n : Nat) (f : Recon → Recon) : (s.modRecon n f).wheel = s.wheel := rfl
@[simp] theorem State.modRecon_plan (s : State) (n : Nat) (f : Recon → Recon) : (s.modRecon n f).plan = s.plan := rfl
@[simp] theorem State.modRecon_awl (s : State) (n : Nat) (f : Recon → Recon) : (s.modRecon n f).awl = s.awl := rfl
@[simp] theorem State.modRecon_codec (s : State) (n : Nat) (f : Recon → Recon) : (s.modRecon n f).codec = s.codec := rfl
@[simp] theorem State.modRecon_map (s : State) (n : Nat) (f : Recon → Recon) : (s.modRecon n f).map = s.map := rfl
@[simp] theorem State.modRecon_blk (s : State) (n : Nat) (f : Recon → Recon) : (s.modRecon n f).blk = s.blk := rfl
@[simp] theorem State.modRecon_wb (s : State) (n : Nat) (f : Recon → Recon) : (s.modRecon n f).wb = s.wb := rfl
@[simp] theorem State.modRecon_dump (s : State) (n : Nat) (f : Recon → Recon) : (s.modRecon n f).dump = s.dump := rfl
@[simp] theorem State.modRecon_rein (s : State) (n : Nat) (f : Recon → Recon) : (s.modRecon n f).rein = s.rein := rfl
@[simp] theorem State.modRecon_fe (s : State) (n : Nat) (f : Recon → Recon) : (s.modRecon n f).fe = s.fe := rfl
@[simp] theorem State.modRecon_cipher (s : State) (n : Nat) (f : Recon → Recon) : (s.modRecon n f).cipher = s.cipher := rfl
@[simp] theorem State.modRecon_skv (s : State) (n : Nat) (f : Recon → Recon) : (s.modRecon n f).skv = s.skv := rfl
@[simp] theorem State.modRecon_dram (s : State) (n : Nat) (f : Recon → Recon) : (s.modRecon n f).dram = s.dram := rfl
@[simp] theorem State.modRecon_mc (s : State) (n : Nat) (f : Recon → Recon) : (s.modRecon n f).mc = s.mc := rfl
@[simp] theorem State.modRecon_dma (s : State) (n : Nat) (f : Recon → Recon) : (s.modRecon n f).dma = s.dma := rfl
@[simp] theorem State.modRecon_therm (s : State) (n : Nat) (f : Recon → Recon) : (s.modRecon n f).therm = s.therm := rfl
@[simp] theorem State.modRecon_obs (s : State) (n : Nat) (f : Recon → Recon) : (s.modRecon n f).obs = s.obs := rfl
@[simp] theorem State.modRecon_ts (s : State) (n : Nat) (f : Recon → Recon) : (s.modRecon n f).ts = s.ts := rfl
@[simp] theorem State.modRecon_img (s : State) (n : Nat) (f : Recon → Recon) : (s.modRecon n f).img = s.img := rfl
@[simp] theorem State.modRecon_fault (s : State) (n : Nat) (f : Recon → Recon) : (s.modRecon n f).fault = s.fault := rfl
@[simp] theorem State.modRecon_pkg (s : State) (n : Nat) (f : Recon → Recon) : (s.modRecon n f).pkg = s.pkg := rfl
@[simp] theorem State.modRecon_media (s : State) (n : Nat) (f : Recon → Recon) : (s.modRecon n f).media = s.media := rfl

@[simp] theorem State.dropRecon_pending (s : State) (n : Nat) : (s.dropRecon n).pending = s.pending := rfl
@[simp] theorem State.dropRecon_free (s : State) (n : Nat) : (s.dropRecon n).free = s.free := rfl
@[simp] theorem State.dropRecon_wheel (s : State) (n : Nat) : (s.dropRecon n).wheel = s.wheel := rfl
@[simp] theorem State.dropRecon_plan (s : State) (n : Nat) : (s.dropRecon n).plan = s.plan := rfl
@[simp] theorem State.dropRecon_awl (s : State) (n : Nat) : (s.dropRecon n).awl = s.awl := rfl
@[simp] theorem State.dropRecon_codec (s : State) (n : Nat) : (s.dropRecon n).codec = s.codec := rfl
@[simp] theorem State.dropRecon_map (s : State) (n : Nat) : (s.dropRecon n).map = s.map := rfl
@[simp] theorem State.dropRecon_blk (s : State) (n : Nat) : (s.dropRecon n).blk = s.blk := rfl
@[simp] theorem State.dropRecon_wb (s : State) (n : Nat) : (s.dropRecon n).wb = s.wb := rfl
@[simp] theorem State.dropRecon_dump (s : State) (n : Nat) : (s.dropRecon n).dump = s.dump := rfl
@[simp] theorem State.dropRecon_rein (s : State) (n : Nat) : (s.dropRecon n).rein = s.rein := rfl
@[simp] theorem State.dropRecon_fe (s : State) (n : Nat) : (s.dropRecon n).fe = s.fe := rfl
@[simp] theorem State.dropRecon_cipher (s : State) (n : Nat) : (s.dropRecon n).cipher = s.cipher := rfl
@[simp] theorem State.dropRecon_skv (s : State) (n : Nat) : (s.dropRecon n).skv = s.skv := rfl
@[simp] theorem State.dropRecon_dram (s : State) (n : Nat) : (s.dropRecon n).dram = s.dram := rfl
@[simp] theorem State.dropRecon_mc (s : State) (n : Nat) : (s.dropRecon n).mc = s.mc := rfl
@[simp] theorem State.dropRecon_dma (s : State) (n : Nat) : (s.dropRecon n).dma = s.dma := rfl
@[simp] theorem State.dropRecon_therm (s : State) (n : Nat) : (s.dropRecon n).therm = s.therm := rfl
@[simp] theorem State.dropRecon_obs (s : State) (n : Nat) : (s.dropRecon n).obs = s.obs := rfl
@[simp] theorem State.dropRecon_ts (s : State) (n : Nat) : (s.dropRecon n).ts = s.ts := rfl
@[simp] theorem State.dropRecon_img (s : State) (n : Nat) : (s.dropRecon n).img = s.img := rfl
@[simp] theorem State.dropRecon_fault (s : State) (n : Nat) : (s.dropRecon n).fault = s.fault := rfl
@[simp] theorem State.dropRecon_pkg (s : State) (n : Nat) : (s.dropRecon n).pkg = s.pkg := rfl
@[simp] theorem State.dropRecon_media (s : State) (n : Nat) : (s.dropRecon n).media = s.media := rfl

@[simp] theorem State.modSlot_pending (s : State) (n : Nat) (f : KeySlot → KeySlot) : (s.modSlot n f).pending = s.pending := rfl
@[simp] theorem State.modSlot_free (s : State) (n : Nat) (f : KeySlot → KeySlot) : (s.modSlot n f).free = s.free := rfl
@[simp] theorem State.modSlot_wheel (s : State) (n : Nat) (f : KeySlot → KeySlot) : (s.modSlot n f).wheel = s.wheel := rfl
@[simp] theorem State.modSlot_plan (s : State) (n : Nat) (f : KeySlot → KeySlot) : (s.modSlot n f).plan = s.plan := rfl
@[simp] theorem State.modSlot_awl (s : State) (n : Nat) (f : KeySlot → KeySlot) : (s.modSlot n f).awl = s.awl := rfl
@[simp] theorem State.modSlot_codec (s : State) (n : Nat) (f : KeySlot → KeySlot) : (s.modSlot n f).codec = s.codec := rfl
@[simp] theorem State.modSlot_map (s : State) (n : Nat) (f : KeySlot → KeySlot) : (s.modSlot n f).map = s.map := rfl
@[simp] theorem State.modSlot_blk (s : State) (n : Nat) (f : KeySlot → KeySlot) : (s.modSlot n f).blk = s.blk := rfl
@[simp] theorem State.modSlot_girth (s : State) (n : Nat) (f : KeySlot → KeySlot) : (s.modSlot n f).girth = s.girth := rfl
@[simp] theorem State.modSlot_wb (s : State) (n : Nat) (f : KeySlot → KeySlot) : (s.modSlot n f).wb = s.wb := rfl
@[simp] theorem State.modSlot_dump (s : State) (n : Nat) (f : KeySlot → KeySlot) : (s.modSlot n f).dump = s.dump := rfl
@[simp] theorem State.modSlot_rein (s : State) (n : Nat) (f : KeySlot → KeySlot) : (s.modSlot n f).rein = s.rein := rfl
@[simp] theorem State.modSlot_fe (s : State) (n : Nat) (f : KeySlot → KeySlot) : (s.modSlot n f).fe = s.fe := rfl
@[simp] theorem State.modSlot_skv (s : State) (n : Nat) (f : KeySlot → KeySlot) : (s.modSlot n f).skv = s.skv := rfl
@[simp] theorem State.modSlot_dram (s : State) (n : Nat) (f : KeySlot → KeySlot) : (s.modSlot n f).dram = s.dram := rfl
@[simp] theorem State.modSlot_mc (s : State) (n : Nat) (f : KeySlot → KeySlot) : (s.modSlot n f).mc = s.mc := rfl
@[simp] theorem State.modSlot_dma (s : State) (n : Nat) (f : KeySlot → KeySlot) : (s.modSlot n f).dma = s.dma := rfl
@[simp] theorem State.modSlot_therm (s : State) (n : Nat) (f : KeySlot → KeySlot) : (s.modSlot n f).therm = s.therm := rfl
@[simp] theorem State.modSlot_obs (s : State) (n : Nat) (f : KeySlot → KeySlot) : (s.modSlot n f).obs = s.obs := rfl
@[simp] theorem State.modSlot_ts (s : State) (n : Nat) (f : KeySlot → KeySlot) : (s.modSlot n f).ts = s.ts := rfl
@[simp] theorem State.modSlot_img (s : State) (n : Nat) (f : KeySlot → KeySlot) : (s.modSlot n f).img = s.img := rfl
@[simp] theorem State.modSlot_fault (s : State) (n : Nat) (f : KeySlot → KeySlot) : (s.modSlot n f).fault = s.fault := rfl
@[simp] theorem State.modSlot_pkg (s : State) (n : Nat) (f : KeySlot → KeySlot) : (s.modSlot n f).pkg = s.pkg := rfl
@[simp] theorem State.modSlot_media (s : State) (n : Nat) (f : KeySlot → KeySlot) : (s.modSlot n f).media = s.media := rfl

@[simp] theorem State.modRank_pending (s : State) (k : Nat) (f : Rank → Rank) : (s.modRank k f).pending = s.pending := rfl
@[simp] theorem State.modRank_free (s : State) (k : Nat) (f : Rank → Rank) : (s.modRank k f).free = s.free := rfl
@[simp] theorem State.modRank_wheel (s : State) (k : Nat) (f : Rank → Rank) : (s.modRank k f).wheel = s.wheel := rfl
@[simp] theorem State.modRank_plan (s : State) (k : Nat) (f : Rank → Rank) : (s.modRank k f).plan = s.plan := rfl
@[simp] theorem State.modRank_awl (s : State) (k : Nat) (f : Rank → Rank) : (s.modRank k f).awl = s.awl := rfl
@[simp] theorem State.modRank_codec (s : State) (k : Nat) (f : Rank → Rank) : (s.modRank k f).codec = s.codec := rfl
@[simp] theorem State.modRank_map (s : State) (k : Nat) (f : Rank → Rank) : (s.modRank k f).map = s.map := rfl
@[simp] theorem State.modRank_blk (s : State) (k : Nat) (f : Rank → Rank) : (s.modRank k f).blk = s.blk := rfl
@[simp] theorem State.modRank_girth (s : State) (k : Nat) (f : Rank → Rank) : (s.modRank k f).girth = s.girth := rfl
@[simp] theorem State.modRank_wb (s : State) (k : Nat) (f : Rank → Rank) : (s.modRank k f).wb = s.wb := rfl
@[simp] theorem State.modRank_dump (s : State) (k : Nat) (f : Rank → Rank) : (s.modRank k f).dump = s.dump := rfl
@[simp] theorem State.modRank_rein (s : State) (k : Nat) (f : Rank → Rank) : (s.modRank k f).rein = s.rein := rfl
@[simp] theorem State.modRank_fe (s : State) (k : Nat) (f : Rank → Rank) : (s.modRank k f).fe = s.fe := rfl
@[simp] theorem State.modRank_cipher (s : State) (k : Nat) (f : Rank → Rank) : (s.modRank k f).cipher = s.cipher := rfl
@[simp] theorem State.modRank_skv (s : State) (k : Nat) (f : Rank → Rank) : (s.modRank k f).skv = s.skv := rfl
@[simp] theorem State.modRank_mc (s : State) (k : Nat) (f : Rank → Rank) : (s.modRank k f).mc = s.mc := rfl
@[simp] theorem State.modRank_dma (s : State) (k : Nat) (f : Rank → Rank) : (s.modRank k f).dma = s.dma := rfl
@[simp] theorem State.modRank_therm (s : State) (k : Nat) (f : Rank → Rank) : (s.modRank k f).therm = s.therm := rfl
@[simp] theorem State.modRank_obs (s : State) (k : Nat) (f : Rank → Rank) : (s.modRank k f).obs = s.obs := rfl
@[simp] theorem State.modRank_ts (s : State) (k : Nat) (f : Rank → Rank) : (s.modRank k f).ts = s.ts := rfl
@[simp] theorem State.modRank_img (s : State) (k : Nat) (f : Rank → Rank) : (s.modRank k f).img = s.img := rfl
@[simp] theorem State.modRank_fault (s : State) (k : Nat) (f : Rank → Rank) : (s.modRank k f).fault = s.fault := rfl
@[simp] theorem State.modRank_pkg (s : State) (k : Nat) (f : Rank → Rank) : (s.modRank k f).pkg = s.pkg := rfl
@[simp] theorem State.modRank_media (s : State) (k : Nat) (f : Rank → Rank) : (s.modRank k f).media = s.media := rfl

@[simp] theorem State.setBank_pending (s : State) (b : Nat) (x : McBank) : (s.setBank b x).pending = s.pending := rfl
@[simp] theorem State.setBank_free (s : State) (b : Nat) (x : McBank) : (s.setBank b x).free = s.free := rfl
@[simp] theorem State.setBank_wheel (s : State) (b : Nat) (x : McBank) : (s.setBank b x).wheel = s.wheel := rfl
@[simp] theorem State.setBank_plan (s : State) (b : Nat) (x : McBank) : (s.setBank b x).plan = s.plan := rfl
@[simp] theorem State.setBank_awl (s : State) (b : Nat) (x : McBank) : (s.setBank b x).awl = s.awl := rfl
@[simp] theorem State.setBank_codec (s : State) (b : Nat) (x : McBank) : (s.setBank b x).codec = s.codec := rfl
@[simp] theorem State.setBank_map (s : State) (b : Nat) (x : McBank) : (s.setBank b x).map = s.map := rfl
@[simp] theorem State.setBank_blk (s : State) (b : Nat) (x : McBank) : (s.setBank b x).blk = s.blk := rfl
@[simp] theorem State.setBank_girth (s : State) (b : Nat) (x : McBank) : (s.setBank b x).girth = s.girth := rfl
@[simp] theorem State.setBank_wb (s : State) (b : Nat) (x : McBank) : (s.setBank b x).wb = s.wb := rfl
@[simp] theorem State.setBank_dump (s : State) (b : Nat) (x : McBank) : (s.setBank b x).dump = s.dump := rfl
@[simp] theorem State.setBank_rein (s : State) (b : Nat) (x : McBank) : (s.setBank b x).rein = s.rein := rfl
@[simp] theorem State.setBank_fe (s : State) (b : Nat) (x : McBank) : (s.setBank b x).fe = s.fe := rfl
@[simp] theorem State.setBank_cipher (s : State) (b : Nat) (x : McBank) : (s.setBank b x).cipher = s.cipher := rfl
@[simp] theorem State.setBank_skv (s : State) (b : Nat) (x : McBank) : (s.setBank b x).skv = s.skv := rfl
@[simp] theorem State.setBank_dram (s : State) (b : Nat) (x : McBank) : (s.setBank b x).dram = s.dram := rfl
@[simp] theorem State.setBank_dma (s : State) (b : Nat) (x : McBank) : (s.setBank b x).dma = s.dma := rfl
@[simp] theorem State.setBank_therm (s : State) (b : Nat) (x : McBank) : (s.setBank b x).therm = s.therm := rfl
@[simp] theorem State.setBank_obs (s : State) (b : Nat) (x : McBank) : (s.setBank b x).obs = s.obs := rfl
@[simp] theorem State.setBank_ts (s : State) (b : Nat) (x : McBank) : (s.setBank b x).ts = s.ts := rfl
@[simp] theorem State.setBank_img (s : State) (b : Nat) (x : McBank) : (s.setBank b x).img = s.img := rfl
@[simp] theorem State.setBank_fault (s : State) (b : Nat) (x : McBank) : (s.setBank b x).fault = s.fault := rfl
@[simp] theorem State.setBank_pkg (s : State) (b : Nat) (x : McBank) : (s.setBank b x).pkg = s.pkg := rfl
@[simp] theorem State.setBank_media (s : State) (b : Nat) (x : McBank) : (s.setBank b x).media = s.media := rfl

@[simp] theorem State.modDma_pending (s : State) (c : Nat) (f : DmaCh → DmaCh) : (s.modDma c f).pending = s.pending := rfl
@[simp] theorem State.modDma_free (s : State) (c : Nat) (f : DmaCh → DmaCh) : (s.modDma c f).free = s.free := rfl
@[simp] theorem State.modDma_wheel (s : State) (c : Nat) (f : DmaCh → DmaCh) : (s.modDma c f).wheel = s.wheel := rfl
@[simp] theorem State.modDma_plan (s : State) (c : Nat) (f : DmaCh → DmaCh) : (s.modDma c f).plan = s.plan := rfl
@[simp] theorem State.modDma_awl (s : State) (c : Nat) (f : DmaCh → DmaCh) : (s.modDma c f).awl = s.awl := rfl
@[simp] theorem State.modDma_codec (s : State) (c : Nat) (f : DmaCh → DmaCh) : (s.modDma c f).codec = s.codec := rfl
@[simp] theorem State.modDma_map (s : State) (c : Nat) (f : DmaCh → DmaCh) : (s.modDma c f).map = s.map := rfl
@[simp] theorem State.modDma_blk (s : State) (c : Nat) (f : DmaCh → DmaCh) : (s.modDma c f).blk = s.blk := rfl
@[simp] theorem State.modDma_girth (s : State) (c : Nat) (f : DmaCh → DmaCh) : (s.modDma c f).girth = s.girth := rfl
@[simp] theorem State.modDma_wb (s : State) (c : Nat) (f : DmaCh → DmaCh) : (s.modDma c f).wb = s.wb := rfl
@[simp] theorem State.modDma_dump (s : State) (c : Nat) (f : DmaCh → DmaCh) : (s.modDma c f).dump = s.dump := rfl
@[simp] theorem State.modDma_rein (s : State) (c : Nat) (f : DmaCh → DmaCh) : (s.modDma c f).rein = s.rein := rfl
@[simp] theorem State.modDma_fe (s : State) (c : Nat) (f : DmaCh → DmaCh) : (s.modDma c f).fe = s.fe := rfl
@[simp] theorem State.modDma_cipher (s : State) (c : Nat) (f : DmaCh → DmaCh) : (s.modDma c f).cipher = s.cipher := rfl
@[simp] theorem State.modDma_skv (s : State) (c : Nat) (f : DmaCh → DmaCh) : (s.modDma c f).skv = s.skv := rfl
@[simp] theorem State.modDma_dram (s : State) (c : Nat) (f : DmaCh → DmaCh) : (s.modDma c f).dram = s.dram := rfl
@[simp] theorem State.modDma_mc (s : State) (c : Nat) (f : DmaCh → DmaCh) : (s.modDma c f).mc = s.mc := rfl
@[simp] theorem State.modDma_therm (s : State) (c : Nat) (f : DmaCh → DmaCh) : (s.modDma c f).therm = s.therm := rfl
@[simp] theorem State.modDma_obs (s : State) (c : Nat) (f : DmaCh → DmaCh) : (s.modDma c f).obs = s.obs := rfl
@[simp] theorem State.modDma_ts (s : State) (c : Nat) (f : DmaCh → DmaCh) : (s.modDma c f).ts = s.ts := rfl
@[simp] theorem State.modDma_img (s : State) (c : Nat) (f : DmaCh → DmaCh) : (s.modDma c f).img = s.img := rfl
@[simp] theorem State.modDma_fault (s : State) (c : Nat) (f : DmaCh → DmaCh) : (s.modDma c f).fault = s.fault := rfl
@[simp] theorem State.modDma_pkg (s : State) (c : Nat) (f : DmaCh → DmaCh) : (s.modDma c f).pkg = s.pkg := rfl
@[simp] theorem State.modDma_media (s : State) (c : Nat) (f : DmaCh → DmaCh) : (s.modDma c f).media = s.media := rfl

@[simp] theorem State.count_pending (s : State) (a b n : Nat) : (s.count a b n).pending = s.pending := rfl
@[simp] theorem State.count_free (s : State) (a b n : Nat) : (s.count a b n).free = s.free := rfl
@[simp] theorem State.count_wheel (s : State) (a b n : Nat) : (s.count a b n).wheel = s.wheel := rfl
@[simp] theorem State.count_plan (s : State) (a b n : Nat) : (s.count a b n).plan = s.plan := rfl
@[simp] theorem State.count_awl (s : State) (a b n : Nat) : (s.count a b n).awl = s.awl := rfl
@[simp] theorem State.count_codec (s : State) (a b n : Nat) : (s.count a b n).codec = s.codec := rfl
@[simp] theorem State.count_map (s : State) (a b n : Nat) : (s.count a b n).map = s.map := rfl
@[simp] theorem State.count_blk (s : State) (a b n : Nat) : (s.count a b n).blk = s.blk := rfl
@[simp] theorem State.count_girth (s : State) (a b n : Nat) : (s.count a b n).girth = s.girth := rfl
@[simp] theorem State.count_wb (s : State) (a b n : Nat) : (s.count a b n).wb = s.wb := rfl
@[simp] theorem State.count_dump (s : State) (a b n : Nat) : (s.count a b n).dump = s.dump := rfl
@[simp] theorem State.count_rein (s : State) (a b n : Nat) : (s.count a b n).rein = s.rein := rfl
@[simp] theorem State.count_cipher (s : State) (a b n : Nat) : (s.count a b n).cipher = s.cipher := rfl
@[simp] theorem State.count_skv (s : State) (a b n : Nat) : (s.count a b n).skv = s.skv := rfl
@[simp] theorem State.count_dram (s : State) (a b n : Nat) : (s.count a b n).dram = s.dram := rfl
@[simp] theorem State.count_mc (s : State) (a b n : Nat) : (s.count a b n).mc = s.mc := rfl
@[simp] theorem State.count_dma (s : State) (a b n : Nat) : (s.count a b n).dma = s.dma := rfl
@[simp] theorem State.count_therm (s : State) (a b n : Nat) : (s.count a b n).therm = s.therm := rfl
@[simp] theorem State.count_ts (s : State) (a b n : Nat) : (s.count a b n).ts = s.ts := rfl
@[simp] theorem State.count_img (s : State) (a b n : Nat) : (s.count a b n).img = s.img := rfl
@[simp] theorem State.count_fault (s : State) (a b n : Nat) : (s.count a b n).fault = s.fault := rfl
@[simp] theorem State.count_pkg (s : State) (a b n : Nat) : (s.count a b n).pkg = s.pkg := rfl
@[simp] theorem State.count_media (s : State) (a b n : Nat) : (s.count a b n).media = s.media := rfl

@[simp] theorem State.writeRec_pending (s : State) (r : Region) (x : TsRec) : (s.writeRec r x).pending = s.pending := rfl
@[simp] theorem State.writeRec_free (s : State) (r : Region) (x : TsRec) : (s.writeRec r x).free = s.free := rfl
@[simp] theorem State.writeRec_wheel (s : State) (r : Region) (x : TsRec) : (s.writeRec r x).wheel = s.wheel := rfl
@[simp] theorem State.writeRec_plan (s : State) (r : Region) (x : TsRec) : (s.writeRec r x).plan = s.plan := rfl
@[simp] theorem State.writeRec_awl (s : State) (r : Region) (x : TsRec) : (s.writeRec r x).awl = s.awl := rfl
@[simp] theorem State.writeRec_codec (s : State) (r : Region) (x : TsRec) : (s.writeRec r x).codec = s.codec := rfl
@[simp] theorem State.writeRec_map (s : State) (r : Region) (x : TsRec) : (s.writeRec r x).map = s.map := rfl
@[simp] theorem State.writeRec_blk (s : State) (r : Region) (x : TsRec) : (s.writeRec r x).blk = s.blk := rfl
@[simp] theorem State.writeRec_girth (s : State) (r : Region) (x : TsRec) : (s.writeRec r x).girth = s.girth := rfl
@[simp] theorem State.writeRec_wb (s : State) (r : Region) (x : TsRec) : (s.writeRec r x).wb = s.wb := rfl
@[simp] theorem State.writeRec_dump (s : State) (r : Region) (x : TsRec) : (s.writeRec r x).dump = s.dump := rfl
@[simp] theorem State.writeRec_rein (s : State) (r : Region) (x : TsRec) : (s.writeRec r x).rein = s.rein := rfl
@[simp] theorem State.writeRec_cipher (s : State) (r : Region) (x : TsRec) : (s.writeRec r x).cipher = s.cipher := rfl
@[simp] theorem State.writeRec_skv (s : State) (r : Region) (x : TsRec) : (s.writeRec r x).skv = s.skv := rfl
@[simp] theorem State.writeRec_dram (s : State) (r : Region) (x : TsRec) : (s.writeRec r x).dram = s.dram := rfl
@[simp] theorem State.writeRec_mc (s : State) (r : Region) (x : TsRec) : (s.writeRec r x).mc = s.mc := rfl
@[simp] theorem State.writeRec_dma (s : State) (r : Region) (x : TsRec) : (s.writeRec r x).dma = s.dma := rfl
@[simp] theorem State.writeRec_therm (s : State) (r : Region) (x : TsRec) : (s.writeRec r x).therm = s.therm := rfl
@[simp] theorem State.writeRec_obs (s : State) (r : Region) (x : TsRec) : (s.writeRec r x).obs = s.obs := rfl
@[simp] theorem State.writeRec_img (s : State) (r : Region) (x : TsRec) : (s.writeRec r x).img = s.img := rfl
@[simp] theorem State.writeRec_fault (s : State) (r : Region) (x : TsRec) : (s.writeRec r x).fault = s.fault := rfl
@[simp] theorem State.writeRec_pkg (s : State) (r : Region) (x : TsRec) : (s.writeRec r x).pkg = s.pkg := rfl
@[simp] theorem State.writeRec_media (s : State) (r : Region) (x : TsRec) : (s.writeRec r x).media = s.media := rfl

@[simp] theorem State.arrayPump_pending (s : State) : (s.arrayPump).pending = s.pending := rfl
@[simp] theorem State.arrayPump_free (s : State) : (s.arrayPump).free = s.free := rfl
@[simp] theorem State.arrayPump_wheel (s : State) : (s.arrayPump).wheel = s.wheel := rfl
@[simp] theorem State.arrayPump_plan (s : State) : (s.arrayPump).plan = s.plan := rfl
@[simp] theorem State.arrayPump_awl (s : State) : (s.arrayPump).awl = s.awl := rfl
@[simp] theorem State.arrayPump_codec (s : State) : (s.arrayPump).codec = s.codec := rfl
@[simp] theorem State.arrayPump_map (s : State) : (s.arrayPump).map = s.map := rfl
@[simp] theorem State.arrayPump_blk (s : State) : (s.arrayPump).blk = s.blk := rfl
@[simp] theorem State.arrayPump_girth (s : State) : (s.arrayPump).girth = s.girth := rfl
@[simp] theorem State.arrayPump_wb (s : State) : (s.arrayPump).wb = s.wb := rfl
@[simp] theorem State.arrayPump_dump (s : State) : (s.arrayPump).dump = s.dump := rfl
@[simp] theorem State.arrayPump_rein (s : State) : (s.arrayPump).rein = s.rein := rfl
@[simp] theorem State.arrayPump_cipher (s : State) : (s.arrayPump).cipher = s.cipher := rfl
@[simp] theorem State.arrayPump_skv (s : State) : (s.arrayPump).skv = s.skv := rfl
@[simp] theorem State.arrayPump_dram (s : State) : (s.arrayPump).dram = s.dram := rfl
@[simp] theorem State.arrayPump_mc (s : State) : (s.arrayPump).mc = s.mc := rfl
@[simp] theorem State.arrayPump_dma (s : State) : (s.arrayPump).dma = s.dma := rfl
@[simp] theorem State.arrayPump_therm (s : State) : (s.arrayPump).therm = s.therm := rfl
@[simp] theorem State.arrayPump_obs (s : State) : (s.arrayPump).obs = s.obs := rfl
@[simp] theorem State.arrayPump_img (s : State) : (s.arrayPump).img = s.img := rfl
@[simp] theorem State.arrayPump_fault (s : State) : (s.arrayPump).fault = s.fault := rfl
@[simp] theorem State.arrayPump_pkg (s : State) : (s.arrayPump).pkg = s.pkg := rfl
@[simp] theorem State.arrayPump_media (s : State) : (s.arrayPump).media = s.media := rfl

/-! ### Reading after writing -/

@[simp] theorem State.setSq_sq (s : State) (k : Nat) (q : Sq) : (s.setSq k q).sq k = some q := Table.find_set_self _ _ _
theorem State.setSq_sq_ne (s : State) (k n : Nat) (q : Sq) (h : n ≠ k) : (s.setSq k q).sq n = s.sq n := Table.find_set_ne _ _ _ _ h
theorem State.setCq_cq_ne (s : State) (k n : Nat) (q : Cq) (h : n ≠ k) : (s.setCq k q).cq n = s.cq n := Table.find_set_ne _ _ _ _ h
@[simp] theorem State.setCmd_cmd (s : State) (k : Nat) (q : Cmd) : (s.setCmd k q).cmd k = some q := Table.find_set_self _ _ _
theorem State.setCmd_cmd_ne (s : State) (k n : Nat) (q : Cmd) (h : n ≠ k) : (s.setCmd k q).cmd n = s.cmd n := Table.find_set_ne _ _ _ _ h
@[simp] theorem State.setJob_job (s : State) (k : Nat) (q : UnitJob) : (s.setJob k q).job k = some q := Table.find_set_self _ _ _
theorem State.setJob_job_ne (s : State) (k n : Nat) (q : UnitJob) (h : n ≠ k) : (s.setJob k q).job n = s.job n := Table.find_set_ne _ _ _ _ h
@[simp] theorem State.setFjob_fjob (s : State) (k : Nat) (q : FrameJob) : (s.setFjob k q).fjob k = some q := Table.find_set_self _ _ _
theorem State.setFjob_fjob_ne (s : State) (k n : Nat) (q : FrameJob) (h : n ≠ k) : (s.setFjob k q).fjob n = s.fjob n := Table.find_set_ne _ _ _ _ h
@[simp] theorem State.setGirth_girthRec (s : State) (k : Nat) (q : Girth) : (s.setGirth k q).girthRec k = some q := Table.find_set_self _ _ _
theorem State.setGirth_girthRec_ne (s : State) (k n : Nat) (q : Girth) (h : n ≠ k) : (s.setGirth k q).girthRec n = s.girthRec n := Table.find_set_ne _ _ _ _ h
@[simp] theorem State.setDie_die (s : State) (k : Nat) (q : Die) : (s.setDie k q).die k = q := Table.getD_set_self _ _ _ _
theorem State.setDie_die_ne (s : State) (k n : Nat) (q : Die) (h : n ≠ k) : (s.setDie k q).die n = s.die n := Table.getD_set_ne _ _ _ _ _ h
@[simp] theorem State.setChan_chan (s : State) (k : Nat) (q : Channel) : (s.setChan k q).chan k = q := Table.getD_set_self _ _ _ _
theorem State.setChan_chan_ne (s : State) (k n : Nat) (q : Channel) (h : n ≠ k) : (s.setChan k q).chan n = s.chan n := Table.getD_set_ne _ _ _ _ _ h
@[simp] theorem State.setBlk_blkRec (s : State) (k : Nat) (q : BlockRec) : (s.setBlk k q).blkRec k = q := Table.getD_set_self _ _ _ _
theorem State.setBlk_blkRec_ne (s : State) (k n : Nat) (q : BlockRec) (h : n ≠ k) : (s.setBlk k q).blkRec n = s.blkRec n := Table.getD_set_ne _ _ _ _ _ h
@[simp] theorem State.setSeg_seg (s : State) (k : Nat) (q : SegDesc) : (s.setSeg k q).seg k = q := Table.getD_set_self _ _ _ _
theorem State.setSeg_seg_ne (s : State) (k n : Nat) (q : SegDesc) (h : n ≠ k) : (s.setSeg k q).seg n = s.seg n := Table.getD_set_ne _ _ _ _ _ h
@[simp] theorem State.modDie_die (s : State) (k : Nat) (f : Die → Die) : (s.modDie k f).die k = f (s.die k) := Table.getD_set_self _ _ _ _
theorem State.modDie_die_ne (s : State) (k n : Nat) (f : Die → Die) (h : n ≠ k) : (s.modDie k f).die n = s.die n := Table.getD_set_ne _ _ _ _ _ h
@[simp] theorem State.modChan_chan (s : State) (k : Nat) (f : Channel → Channel) : (s.modChan k f).chan k = f (s.chan k) := Table.getD_set_self _ _ _ _
theorem State.modChan_chan_ne (s : State) (k n : Nat) (f : Channel → Channel) (h : n ≠ k) : (s.modChan k f).chan n = s.chan n := Table.getD_set_ne _ _ _ _ _ h
@[simp] theorem State.modBlk_blkRec (s : State) (k : Nat) (f : BlockRec → BlockRec) : (s.modBlk k f).blkRec k = f (s.blkRec k) := Table.getD_set_self _ _ _ _
theorem State.modBlk_blkRec_ne (s : State) (k n : Nat) (f : BlockRec → BlockRec) (h : n ≠ k) : (s.modBlk k f).blkRec n = s.blkRec n := Table.getD_set_ne _ _ _ _ _ h
@[simp] theorem State.modSeg_seg (s : State) (k : Nat) (f : SegDesc → SegDesc) : (s.modSeg k f).seg k = f (s.seg k) := Table.getD_set_self _ _ _ _
theorem State.modSeg_seg_ne (s : State) (k n : Nat) (f : SegDesc → SegDesc) (h : n ≠ k) : (s.modSeg k f).seg n = s.seg n := Table.getD_set_ne _ _ _ _ _ h
@[simp] theorem State.modCtrl_ctrl (s : State) (k : Nat) (f : Ctrl → Ctrl) : (s.modCtrl k f).ctrl k = f (s.ctrl k) := Table.getD_set_self _ _ _ _
theorem State.modCtrl_ctrl_ne (s : State) (k n : Nat) (f : Ctrl → Ctrl) (h : n ≠ k) : (s.modCtrl k f).ctrl n = s.ctrl n := Table.getD_set_ne _ _ _ _ _ h
@[simp] theorem State.modLists_lists (s : State) (k : Nat) (f : DieLists → DieLists) : (s.modLists k f).lists k = f (s.lists k) := Table.getD_set_self _ _ _ _
theorem State.modLists_lists_ne (s : State) (k n : Nat) (f : DieLists → DieLists) (h : n ≠ k) : (s.modLists k f).lists n = s.lists n := Table.getD_set_ne _ _ _ _ _ h
@[simp] theorem State.modVt_vtGroup (s : State) (k : Nat) (f : VtGroup → VtGroup) : (s.modVt k f).vtGroup k = f (s.vtGroup k) := Table.getD_set_self _ _ _ _
theorem State.modVt_vtGroup_ne (s : State) (k n : Nat) (f : VtGroup → VtGroup) (h : n ≠ k) : (s.modVt k f).vtGroup n = s.vtGroup n := Table.getD_set_ne _ _ _ _ _ h
@[simp] theorem State.modSlot_keySlot (s : State) (k : Nat) (f : KeySlot → KeySlot) : (s.modSlot k f).keySlot k = f (s.keySlot k) := Table.getD_set_self _ _ _ _
theorem State.modSlot_keySlot_ne (s : State) (k n : Nat) (f : KeySlot → KeySlot) (h : n ≠ k) : (s.modSlot k f).keySlot n = s.keySlot n := Table.getD_set_ne _ _ _ _ _ h
@[simp] theorem State.modRank_rank (s : State) (k : Nat) (f : Rank → Rank) : (s.modRank k f).rank k = f (s.rank k) := Table.getD_set_self _ _ _ _
theorem State.modRank_rank_ne (s : State) (k n : Nat) (f : Rank → Rank) (h : n ≠ k) : (s.modRank k f).rank n = s.rank n := Table.getD_set_ne _ _ _ _ _ h
@[simp] theorem State.modDma_dmaCh (s : State) (k : Nat) (f : DmaCh → DmaCh) : (s.modDma k f).dmaCh k = f (s.dmaCh k) := Table.getD_set_self _ _ _ _
theorem State.modDma_dmaCh_ne (s : State) (k n : Nat) (f : DmaCh → DmaCh) (h : n ≠ k) : (s.modDma k f).dmaCh n = s.dmaCh n := Table.getD_set_ne _ _ _ _ _ h
@[simp] theorem State.setBank_bank (s : State) (k : Nat) (q : McBank) : (s.setBank k q).bank k = q := Table.getD_set_self _ _ _ _
theorem State.setBank_bank_ne (s : State) (k n : Nat) (q : McBank) (h : n ≠ k) : (s.setBank k q).bank n = s.bank n := Table.getD_set_ne _ _ _ _ _ h
theorem State.modCmd_cmd_ne (s : State) (k n : Nat) (f : Cmd → Cmd) (h : n ≠ k) : (s.modCmd k f).cmd n = s.cmd n := Table.find_modify_ne _ _ _ _ h
@[simp] theorem State.modGirth_girthRec (s : State) (k : Nat) (f : Girth → Girth) : (s.modGirth k f).girthRec k = (s.girthRec k).map f := Table.find_modify_self _ _ _
theorem State.modGirth_girthRec_ne (s : State) (k n : Nat) (f : Girth → Girth) (h : n ≠ k) : (s.modGirth k f).girthRec n = s.girthRec n := Table.find_modify_ne _ _ _ _ h
@[simp] theorem State.dropFjob_fjob (s : State) (k : Nat) : (s.dropFjob k).fjob k = none := Table.find_del_self _ _
theorem State.dropFjob_fjob_ne (s : State) (k n : Nat) (h : n ≠ k) : (s.dropFjob k).fjob n = s.fjob n := Table.find_del_ne _ _ _ h
@[simp] theorem State.modPort_port (s : State) (x : Rein) (f : ReinPort → ReinPort) : (s.modPort x f).port x = f (s.port x) := by cases x <;> rfl
theorem State.modPort_port_ne (s : State) (x y : Rein) (f : ReinPort → ReinPort) (h : y ≠ x) : (s.modPort x f).port y = s.port y := by cases x <;> cases y <;> first | rfl | exact absurd rfl h
@[simp] theorem State.setFeat_feat (s : State) (a b c v : Nat) : (s.setFeat a b c v).feat a b c = v := Table.getD_set_self _ _ _ _

end Sys2Proof.Machine
end

