-- ==== Sys2Proof/Tests/Slice0.lean ====
section
/-! SUPPORT. The model's own tests: each check of WellFormed refuses an ill-formed operand; for each statement with hypotheses, states and operands that
meet them, clause by clause; and a few values of the manual's own examples. -/
namespace Sys2Proof.Tests
open Sys2Proof Sys2Proof.Machine
set_option Elab.async false

/-! ### Small states -/

/-- Reset, at a step of the boot order. -/
def boot (n : Nat) : State := { State.reset with ts := { State.reset.ts with bootStep := n } }
/-- Reset, with restart at a step. -/
def restart (n : Nat) : State := { State.reset with dump := { State.reset.dump with step := n } }
/-- A dump that runs. -/
def dumpRun : DumpRun := default
def dumping : State := { State.reset with dump := { State.reset.dump with run := some dumpRun } }
/-- Past start-up, admitting commands, with the wheel and the dies at work. -/
def up : State := { boot 9 with plan := { running := some ⟨0, []⟩ }, dump := { State.reset.dump with step := 9 }, fe := { State.reset.fe with admits := true } }
/-- A wheel put in place of reset's. -/
def wheeled (w : WheelState) : State := { up with wheel := w }

/-- A submission entry with the given opcode, CID 7, namespace 1 and dwords 10 to 15. -/
def entry (opc : Nat) (dws : List (Nat × Nat)) : BitVec 512 :=
  BitVec.ofNat 512 (opc + 7 * 65536 + 2 ^ 32 + (dws.map fun x => x.2 * 2 ^ (32 * x.1)).sum)
/-- The command row of that entry, fetched from rein A by function 0: the admin queue, or I/O queue 1. -/
def row (admin : Bool) (e : BitVec 512) : Cmd :=
  { sq := if admin then 0 else 1, pos := 0, ctrl := 0, admin := admin, port := ⟨.a, 0⟩, entry := e, started := false, aborted := false, orphan := false, result := none,
    reserved := false, owed := [(.a, 7)], units := [], input := [], out := [], held := false }
def side : SqSide := { attached := true, tail := 1, fetch := 1, cq := 0, advanced := 0 }
def queue (admin : Bool) : Sq :=
  { ctrl := 0, qid := if admin then 0 else 1, admin := admin, qsize := 16, prio := 0, exec := 1, sideA := some side, sideB := none, hashes := [] }
def slotQueue : Cq := { size := 16, head := 0, tail := 0, entries := [], used := 0 }
/-- A state with one command in hand, at tag 0. -/
def hand (s : State) (admin : Bool) (e : BitVec 512) : State :=
  { s with fe := { s.fe with cmds := [(0, row admin e)], nextTag := 1, sqs := [(if admin then 0 else 1, queue admin)], cqs := [(0, slotQueue)], ready := [], mismatches := [],
                             stopped := false }, dump := { s.dump with since := false } }

theorem hand_atHand (s : State) (admin : Bool) (e : BitVec 512) : AtHand (hand s admin e) 0 (row admin e) (queue admin) side slotQueue 7 where
  row := rfl
  fresh := ⟨rfl, rfl, rfl⟩
  owes := rfl
  fetched := by decide
  queue := by cases admin <;> rfl
  side := rfl
  place := rfl
  room := by decide
  alone := ⟨rfl, rfl⟩
  runs := rfl
  queued := by cases admin <;> rfl
  awake := rfl

/-- A command in hand waits with this opcode, in a state and with a row that meet `P`. -/
def Hand (admin : Bool) (opc : Nat) (P : State → Cmd → Prop) : Prop :=
  ∃ s tag c q x cq cid, AtHand s tag c q x cq cid ∧ c.waits admin opc = true ∧ P s c

theorem hand_meets (s : State) {admin : Bool} {opc : Nat} (e : BitVec 512) {P : State → Cmd → Prop} (w : (row admin e).waits admin opc = true)
    (h : P (hand s admin e) (row admin e)) : Hand admin opc P := ⟨_, _, _, _, _, _, _, hand_atHand s admin e, w, h⟩

/-! ### Hypotheses that can be met -/

theorem jtag_hyps : ∃ s : State, s.pkg.vddIo = true ∧ s.dump.run = none ∧ s.dump.active = none := ⟨State.reset, by decide⟩

theorem scan_hyps : (∃ s : State, s.pkg.vddIo = false) ∧ (∃ s : State, s.pkg.vddIo = true ∧ s.dump.run.isSome) ∧
    (∃ s : State, s.pkg.vddIo = true ∧ s.dump.run = none ∧ s.dump.active.isSome ∧ s.dump.since = false) ∧
    (∃ s : State, s.pkg.vddIo = true ∧ s.dump.run = none ∧ s.dump.active = none ∧ s.ts.bootStep = 0) ∧
    (∃ s : State, s.pkg.vddIo = true ∧ s.dump.run = none ∧ s.dump.since = true ∧ s.ts.bootStep ≠ 0) :=
  ⟨⟨{ State.reset with pkg := { State.reset.pkg with vddIo := false } }, by decide⟩, ⟨dumping, by decide⟩,
   ⟨{ State.reset with dump := { State.reset.dump with active := some true } }, by decide⟩, ⟨State.reset, by decide⟩,
   ⟨{ boot 1 with dump := { State.reset.dump with active := some true, since := true } }, by decide⟩⟩

theorem sideband_hyps : (∃ s : State, s.pkg.vddIo = true ∧ s.ts.bootStep ≠ 0 ∧ s.fault.stop.isSome ∧ s.dump.run = none ∧ servedInStop 0 = false) ∧
    (∃ (s : State) (e : BitVec 512), s.pkg.vddIo = true ∧ s.ts.bootStep ≠ 0 ∧ s.dump.run.isSome ∧ servedInStop e = true) ∧ (∃ s : State, s.ts.bootStep = 0) ∧
    Hand true 0x1D (fun _ _ => ∀ e, MiRequest.identity ≠ .tunnel e) ∧ Hand true 0x1E (fun s _ => s.pkg.miReady = []) ∧ Hand true 0x1E (fun s _ => s.pkg.miReady = [[1]]) :=
  ⟨⟨{ boot 1 with fault := { State.reset.fault with stop := some default } }, by decide +kernel⟩,
   ⟨{ boot 1 with dump := dumping.dump }, entry 0x02 [(10, 0x02)], by decide +kernel⟩, ⟨State.reset, by decide⟩,
   hand_meets up (entry 0x1D []) (by decide +kernel) (fun _ h => by cases h), hand_meets up (entry 0x1E []) (by decide +kernel) rfl,
   hand_meets { up with pkg := { up.pkg with miReady := [[1]] } } (entry 0x1E []) (by decide +kernel) rfl⟩

/-- The image clause of step 3 is not among these: an image that passes every check has more bytes than the kernel can be asked to read here. -/
theorem startUp_hyps : (∃ s : State, s.ts.bootStep = 0) ∧ (∃ s : State, s.ts.bootStep ≠ 0 ∧ s.ts.wtTop = none) ∧ (∃ s : State, s.ts.bootStep = 1) ∧ (∃ s : State, s.ts.bootStep = 2) ∧
    (∃ s : State, s.ts.bootStep = 3 ∧ s.imageChoice false = .halter 1 none) ∧ (∃ s : State, s.ts.bootStep = 3 ∧ s.imageChoice false = .bareback) ∧
    (∃ s : State, s.ts.bootStep = 4 ∧ s.ts.mode = 2) ∧ (∃ s : State, s.ts.bootStep = 4 ∧ s.ts.mode ≠ 2) ∧
    (∃ f : BootFound, (boot 5).ts.bootStep = 5 ∧ (boot 5).hasSection 0x0D = false ∧ (boot 5).trainBest f = none) ∧
    (∃ f : BootFound, (boot 5).trainBest f = some 0 ∧ 8 * f.dramGiB.foldl min ((f.dramGiB.head?).getD 0) < 64) ∧
    (∃ f : BootFound, (boot 5).trainBest f = some 3 ∧ 64 ≤ 8 * f.dramGiB.foldl min ((f.dramGiB.head?).getD 0)) ∧
    (∃ s : State, s.ts.bootStep = 6) ∧ (∃ s : State, s.ts.bootStep = 7) ∧ (∃ s : State, 8 ≤ s.ts.bootStep) :=
  ⟨⟨boot 0, by decide⟩, ⟨boot 9, by decide⟩, ⟨boot 1, by decide⟩, ⟨boot 2, by decide⟩,
   ⟨{ boot 3 with pkg := { State.reset.pkg with straps := ⟨false, false⟩ } }, by decide⟩, ⟨boot 3, by decide⟩,
   ⟨{ boot 4 with ts := { (boot 4).ts with mode := 2 } }, by decide⟩, ⟨boot 4, by decide⟩, ⟨{ (default : BootFound) with dramRanks := 1, dramTrainFails := [(4, 7, 0), (0, 7, 0), (3, 7, 0)] }, by decide +kernel⟩,
   ⟨{ (default : BootFound) with dramRanks := 1, dramGiB := [8, 7] }, by decide +kernel⟩,
   ⟨{ (default : BootFound) with dramRanks := 1, dramTrainFails := [(2, 7, 0)], dramGiB := [8, 8] }, by decide +kernel⟩,
   ⟨boot 6, by decide⟩, ⟨boot 7, by decide⟩, ⟨boot 8, by decide⟩⟩

/-- Channel 31 and target 7, the last of each; the lowest rate code that is below the ceiling. -/
def training : State := { up with awl := { up.awl with chans := [(31, { step := 7 })] }, img := { up.img with psTable := [3 * 2251799813685248] } }
/-- Step 7 of the boot order with one part on target 7 of channel 31. -/
def starting (x : Channel) : State :=
  { boot 7 with awl := { dies := [(1023, {})], chans := [(31, x)] }, img := { State.reset.img with geom := barebackGeom ⟨4, 3, 1, false, 16, 64, 2, 0, 4, 50000, 1000000, 500000, 5000000, 3000⟩ [1023] } }
theorem channels_hyps : (∃ s : State, s.ts.bootStep = 7 ∧ (s.chan 31).step ≤ 2 ∧ (s.chan 31).isolated = 0) ∧
    (∃ s : State, s.ts.bootStep = 7 ∧ (s.chan 31).step ≤ 5 ∧ (s.chan 31).isolated = 0 ∧ 1 < (s.chan 31).rate) ∧ (∃ s : State, s.ts.bootStep = 7 ∧ 4 < (s.chan 31).step) ∧
    (∃ s : State, s.ts.bootStep = 7 ∧ (s.chan 31).isolated ≠ 0) ∧ (∃ s : State, s.targetsOfChan 31 = [7] ∧ (s.chan 31).isolated = 0) ∧ (∃ s : State, 4 ∈ (s.chan 31).failed) ∧ (∃ s : State, s.ts.bootStep ≠ 7) ∧
    (∃ (s : State) (ch rate : Nat), ch < 32 ∧ (s.chan ch).step = 7 ∧ (s.chan ch).isolated = 0 ∧ rate < (s.chan ch).ceiling ∧ (∃ n < 5, s.img.psFlashRate n = rate) ∧
      rate ∉ (s.chan ch).trained ∧ rate ∉ (s.chan ch).failed ∧ (s.chan ch).busy = none) ∧
    (∃ (s : State) (ch rate : Nat), rate ∈ (s.chan ch).trained) :=
  ⟨⟨starting { step := 2 }, by decide⟩, ⟨starting { step := 1, rate := 4 }, by decide⟩, ⟨starting { step := 5 }, by decide⟩, ⟨starting { isolated := 3 }, by decide⟩,
   ⟨starting {}, by decide +kernel⟩, ⟨starting { failed := [4] }, by decide⟩, ⟨boot 0, by decide⟩, ⟨training, 31, 3, by decide⟩,
   ⟨{ up with awl := { up.awl with chans := [(31, { trained := [1] })] } }, 31, 1, by decide⟩⟩

/-- Records 1 HOLD, 2 BEGUN, 3 DONE of the dump anchor, each with its set, serial and WT. -/
def anchored (rs : List TsRec) : TsState := { State.reset.ts with rings := [(.dumpAnchor, [{ sector := 800, sseq := 1, fill := 9, recs := rs.zipIdx.map fun x => (x.2 + 1, x.1) }])] }
theorem restart_hyps : (∃ s : State, ∃ m : DumpImage, s.dump.step = 3 ∧ s.dump.image = some m) ∧ (∃ s : State, s.dump.step = 6 ∧ s.dump.case = 4 ∧ s.ts.anchor 2 = some (1, 4, 8)) ∧ (∃ s : State, s.dump.step = 1) ∧ (∃ s : State, s.dump.step = 2) ∧ (∃ s : State, s.dump.step = 3) ∧ (∃ s : State, s.dump.step = 4) ∧
    (∃ s : State, s.dump.step = 5) ∧ (∃ s : State, s.dump.step = 6 ∧ s.dump.case = 3) ∧ (∃ s : State, s.dump.step = 7 ∧ s.dump.holdSafe = false) ∧
    (∃ s : State, s.dump.step = 7 ∧ s.dump.holdSafe = true) ∧ (∃ s : State, s.dump.step = 8 ∧ s.mayConsume = true) ∧
    (∃ s : State, s.dump.step = 8 ∧ s.mayConsume = false) ∧ (∃ s : State, s.dump.step = 0) ∧ (∃ s : State, 8 < s.dump.step) :=
  ⟨⟨{ restart 3 with dump := { (restart 3).dump with image := some default } }, default, by decide⟩,
   ⟨{ restart 6 with dump := { (restart 6).dump with case := 4 }, ts := anchored [.dumpAnchor 2 1 4 0 8] }, by decide⟩, ⟨restart 1, by decide⟩, ⟨restart 2, by decide⟩, ⟨restart 3, by decide⟩, ⟨restart 4, by decide⟩, ⟨restart 5, by decide⟩,
   ⟨{ restart 6 with dump := { (restart 6).dump with case := 3 } }, by decide⟩, ⟨restart 7, by decide⟩,
   ⟨{ restart 7 with dump := { (restart 7).dump with holdSafe := true } }, by decide⟩,
   ⟨restart 8, by decide⟩, ⟨{ restart 8 with dump := { (restart 8).dump with consumeRoot := some 3 } }, by decide⟩, ⟨restart 0, by decide⟩, ⟨restart 9, by decide⟩⟩

theorem restartCase_hyps : (anchored []).anchor 1 = none ∧ (anchored []).anchor 2 = none ∧ (anchored []).anchor 3 = none ∧
    (anchored [.dumpAnchor 1 0 5 0 9]).anchor 1 = some (0, 5, 9) ∧ (anchored [.dumpAnchor 1 0 5 0 9]).anchor 2 = none ∧
    (anchored [.dumpAnchor 2 1 4 0 8, .dumpAnchor 1 0 5 0 9]).anchor 2 = some (1, 4, 8) ∧
    (anchored [.dumpAnchor 2 1 4 0 9, .dumpAnchor 1 0 5 0 9]).anchor 2 = some (1, 4, 9) ∧ (anchored [.dumpAnchor 2 1 4 0 9, .dumpAnchor 1 0 5 0 9]).lastAnchor = 1 ∧
    (anchored [.dumpAnchor 1 0 5 0 9, .dumpAnchor 2 1 4 0 9]).lastAnchor = 2 ∧ (anchored [.dumpAnchor 1 1 4 0 8, .dumpAnchor 2 1 5 0 9, .dumpAnchor 3 1 5 0 9]).anchor 3 = some (1, 5, 9) :=
  by decide

def restoring : State :=
  { up with map := { up.map with segs := [(122879, { alloc := true })], background := some 122879, onDemand := [122878] } }
theorem segmentRestore_hyps : (∃ (s : State) (g : Nat), (s.seg g).alloc = true ∧ s.map.background = some g) ∧ (∃ (s : State) (g : Nat), (s.seg g).alloc = false) ∧
    (∃ (s : State) (g : Nat), s.map.background ≠ some g ∧ g ∉ s.map.onDemand) :=
  ⟨⟨restoring, 122879, by decide⟩, ⟨restoring, 122878, by decide⟩, ⟨restoring, 0, by decide⟩⟩

theorem slew_hyps : (∃ w : WheelState, w.filler = 0 ∧ w.slewing = true ∧ w.slewAcc + w.cfg.slewMax < 1000000 ∧ w.distance = 2) ∧
    (∃ w : WheelState, w.filler = 0 ∧ w.slewing = true ∧ 1000000 ≤ w.slewAcc + w.cfg.slewMax ∧ w.distance = 1) ∧ (∃ w : WheelState, 0 < w.filler) ∧ (∃ w : WheelState, w.cfg.stepThreshold < w.distance) ∧
    (∃ w : WheelState, w.distance ≤ w.cfg.stepThreshold) ∧
    (∃ s : State, ∃ c : WheelCfg, s.teethPass = true ∧ s.wheel.roundDue = true ∧ s.wheel.next = some c ∧ c.source ≠ s.wheel.cfg.source ∧ c.station = s.wheel.cfg.station ∧ c.phaseStride = s.wheel.cfg.phaseStride) ∧
    (∃ s : State, ∃ c : WheelCfg, s.teethPass = true ∧ s.wheel.roundDue = true ∧ s.wheel.next = some c ∧ c.station ≠ s.wheel.cfg.station ∧ c.stepThreshold < ({ s.wheel with cfg := c } : WheelState).distance) ∧
    (∃ s : State, ∃ c : WheelCfg, s.teethPass = true ∧ s.wheel.roundDue = true ∧ s.wheel.next = some c ∧ c.phaseStride ≠ s.wheel.cfg.phaseStride ∧
      ({ s.wheel with cfg := c } : WheelState).distance ≤ c.stepThreshold) ∧
    (∃ s : State, s.teethPass = true ∧ s.wheel.roundDue = true ∧ s.wheel.next = none ∧ s.wheel.mode ≠ .locked ∧ s.wheel.slewing = false ∧ s.wheel.keepCorr = true) :=
  ⟨⟨{ slewing := true, lt := 2 }, by decide⟩, ⟨{ slewing := true, lt := 1023, slewAcc := 999950 }, by decide⟩, ⟨{ filler := 1 }, by decide⟩, ⟨{ lt := 3 }, by decide⟩, ⟨{ lt := 1022 }, by decide⟩,
   ⟨wheeled { roundDue := true, next := some { source := 1 } }, { source := 1 }, by decide⟩,
   ⟨wheeled { roundDue := true, next := some { station := 3, phaseStride := 1 } }, { station := 3, phaseStride := 1 }, by decide⟩,
   ⟨wheeled { roundDue := true, next := some { phaseStride := 5 } }, { phaseStride := 5 }, by decide⟩, ⟨wheeled { roundDue := true, keepCorr := true }, by decide⟩⟩

theorem tooth_hyps : (∃ s : State, s.teethPass = true ∧ s.wheel.roundDue = false ∧ s.fe.test = none ∧ s.wheel.lt = 511 ∧ s.wheel.filler = 0 ∧ s.wheel.sourceInUse = 2 + Rein.a.num ∧
      (s.port .a).ptm = true ∧ (s.port .a).up = true) ∧ (∃ s : State, s.teethPass = false) ∧
    (∃ s : State, s.teethPass = true ∧ s.wheel.roundDue = true ∧ s.wheel.next = none ∧ s.wheel.stepDue = true ∧ s.wheel.mode = .free) ∧
    (∃ s : State, s.teethPass = true ∧ s.wheel.roundDue = true ∧ s.wheel.next = none ∧ s.wheel.stepDue = false ∧ s.wheel.mode = .locked) ∧
    (∃ s : State, s.teethPass = true ∧ s.wheel.roundDue = true ∧ s.wheel.next = some { toothCycles := 1000 }) ∧
    (∃ (s : State) (n : Nat) (p : Plan), s.teethPass = true ∧ s.wheel.roundDue = true ∧ s.wheelRuns = true ∧ 7 < s.ts.bootStep ∧ s.plan.loading = false ∧ s.plan.loaded = true ∧
      s.plan.pendingNo = some n ∧ s.plan.inactive = some p) :=
  ⟨⟨{ wheeled { lt := 511, sourceInUse := 2 } with rein := { a := { link := 3, perst := false, ptm := true } } }, by decide⟩, ⟨boot 0, by decide⟩,
   ⟨wheeled { roundDue := true, stepDue := true }, by decide⟩, ⟨wheeled { roundDue := true, mode := .locked }, by decide⟩,
   ⟨wheeled { roundDue := true, next := some { toothCycles := 1000 } }, by decide⟩,
   ⟨{ wheeled { roundDue := true, mode := .locked } with plan := { running := some ⟨0, []⟩, loaded := true, pendingNo := some 1, inactive := some ⟨0, []⟩ } }, 1, ⟨0, []⟩, by decide⟩⟩

def goodPlan : Plan := { hdr := 0, slots := [] }
theorem plan_hyps : (∃ s : State, s.wheelRuns = true ∧ s.wheel.lt = 1016 ∧ s.plan.sampled = false) ∧ (∃ s : State, s.wheel.lt ≠ 1016) ∧
    (∃ s : State, s.plan.loading = true ∧ s.plan.pendingNo = none) ∧ (∃ s : State, s.plan.loading = false) ∧ (∃ s : State, s.plan.reloading = true) ∧ (∃ s : State, s.plan.reloading = false) :=
  ⟨⟨wheeled { lt := 1016 }, by decide⟩, ⟨wheeled { lt := 1015 }, by decide⟩, ⟨{ up with plan := { loading := true } }, by decide⟩, ⟨up, by decide⟩,
   ⟨{ up with plan := { reloading := true } }, by decide⟩, ⟨up, by decide⟩⟩

/-- An edge 4 halves past three quarters of the period, one before it, and one outside the window. -/
theorem edges_hyps : (∃ s : State, s.wheel.sourceInUse ≠ 1) ∧ (∃ s : State, s.wheel.sourceInUse = 1) ∧ (∃ s : State, (s.port .b).ptmBusy = true) ∧ (∃ s : State, (s.port .a).ptmBusy = false) ∧
    (∃ s : State, s.wheel.predicted = none) ∧
    (∃ s : State, s.wheel.predicted = some 1000 ∧ s.wheel.lastEdge = some 100 ∧ 4 * 100 < 4 * 100 + 3 * s.wheel.cfg.period ∧ 16 ≤ s.wheel.fastRound ∧ s.wheel.mode = .locked ∧ s.wheel.sourceInUse = 1) ∧
    (∃ s : State, s.wheel.predicted = some 1000000000000 ∧ nearest 1000000000000 ≤ 1000 + s.wheel.halfWidth ∧ s.wheel.mode = .locked) ∧
    (∃ s : State, ∃ time : Nat, s.wheel.predicted = some 1000000000000 ∧ nearest 1000000000000 + s.wheel.halfWidth < time ∧ nearest 1000000000000 ≤ time + s.wheel.cfg.period / 2) ∧
    (∃ s : State, s.wheel.predicted = some 100000000000000000 ∧ 0 + s.wheel.halfWidth < nearest 100000000000000000 ∧ 0 + s.wheel.cfg.period / 2 < nearest 100000000000000000) ∧
    (∃ s : State, s.wheel.mode ≠ .locked ∧ 7 ≤ s.wheel.good) ∧ (∃ s : State, s.wheel.mode ≠ .locked ∧ s.wheel.good < 7) ∧
    (∃ s : State, 1 ≤ s.wheel.missRun ∧ s.wheel.mode = .locked ∧ s.wheel.sourceInUse < 2) ∧
    (∃ s : State, 1 ≤ s.wheel.missRun ∧ s.wheel.mode = .locked ∧ 2 ≤ s.wheel.sourceInUse ∧ s.wheel.cfg.failover = true) ∧ (∃ s : State, s.wheel.missRun = 0) :=
  ⟨⟨up, by decide⟩, ⟨wheeled { sourceInUse := 1 }, by decide⟩, ⟨{ up with rein := { b := { ptmBusy := true } } }, by decide⟩, ⟨up, by decide⟩, ⟨up, by decide⟩,
   ⟨wheeled { predicted := some 1000, lastEdge := some 100, fastRound := 16, mode := .locked, sourceInUse := 1 }, by decide⟩,
   ⟨wheeled { predicted := some 1000000000000, mode := .locked }, by decide⟩, ⟨wheeled { predicted := some 1000000000000 }, 1000000000, by decide⟩, ⟨wheeled { predicted := some 100000000000000000 }, by decide⟩, ⟨wheeled { good := 7 }, by decide⟩, ⟨up, by decide⟩,
   ⟨wheeled { missRun := 1, mode := .locked }, by decide⟩, ⟨wheeled { missRun := 1, mode := .locked, sourceInUse := 2, cfg := { failover := true } }, by decide⟩, ⟨up, by decide⟩⟩

theorem wheelGuard_hyps : (∃ s : State, s.wheel.sourceInUse ≠ 0 ∧ s.wheel.predicted.isSome) ∧ (∃ s : State, s.wheel.sourceInUse = 0) ∧
    (∃ s : State, s.wheel.guardPs < s.wheel.errBoundPs ∧ s.wheel.mode = .acquire ∧ s.wheel.failedOver = true) ∧ (∃ s : State, s.wheel.errBoundPs ≤ s.wheel.guardPs) ∧
    (∃ s : State, s.wheel.clampRounds = 64) ∧ (∃ s : State, s.wheel.clampRounds < 64) ∧ (∃ s : State, s.ts.accept = true ∧ s.wheel.resTop ≤ s.wheel.wt) ∧
    (∃ s : State, s.wheel.wt < s.wheel.resTop) ∧ Hand true 0xC2 (fun _ _ => True) :=
  ⟨⟨wheeled { sourceInUse := 1, predicted := some 5 }, by decide⟩, ⟨up, by decide⟩, ⟨wheeled { errBoundPs := 10 ^ 12, mode := .acquire, failedOver := true }, by decide⟩, ⟨up, by decide⟩,
   ⟨wheeled { clampRounds := 64 }, by decide⟩, ⟨wheeled { clampRounds := 63 }, by decide⟩, ⟨{ up with ts := { up.ts with accept := true } }, by decide⟩,
   ⟨wheeled { resTop := 1 }, by decide⟩, hand_meets up (entry 0xC2 []) (by decide +kernel) trivial⟩

/-- A part of two dies, 0 and 1,023, both in service, of 4 planes of 16 blocks with 16 pages; its slot class in a tooth is the running plan's. -/
def page : ParamPage := ⟨4, 3, 1, false, 16, 64, 2, 0, 4, 50000, 1000000, 500000, 5000000, 3000⟩
def flash : State :=
  { up with img := { up.img with geom := barebackGeom page [0, 1023] }, awl := { dies := [(0, { mode := .active }), (1023, { mode := .watch })], chans := [(31, {})] } }
def onDie (x : Die) : State := { flash with awl := { flash.awl with dies := [(1023, { x with mode := .active })] } }
/-- The first granule of die 1,023. -/
def gran : Nat := flash.img.granAt (1023 * 65536) 0
def hostRead : ReadReq := { id := 3, job := 0, kind := .host, use := .unit 0, gran := gran, glen := 1, rung := 0, step := 0, entered := 0 }
def program : WorkReq := { id := 4, op := 1, cls := flash.slotClass 1023, fc := true, block := 1023 * 65536 + 15, wl := 3, pages := 4, use := .member 0 0, since := 0 }
def runningOp : DieOp := { work := program, state := .running, thisTooth := false, atLimit := false, latency := false }

theorem dies_hyps : (∃ s : State, ∃ (die : Nat) (r : ReadReq), (s.die die).feList = [r] ∧ s.underCap (chOfDie die) r = true ∧ (s.die die).hrq.length < 4 ∧ s.dieServes die = true ∧
      (s.die die).op = none ∧ (s.die die).resetting = false ∧ (s.die die).hrq = [] ∧ (s.die die).irq = [] ∧ (s.die die).reads = [] ∧ (s.die die).wkq = [] ∧ (s.die die).loaded = 0 ∧
      (s.chan (chOfDie die)).busy ≠ some (.page die) ∧ s.dump.run = none ∧ s.slotClass die < 6 ∧ s.addressFault r.gran = false) ∧
    (∃ s : State, ∃ (o : DieOp) (r : ReadReq), (s.die 1023).op = some o ∧ o.latency = true ∧ (s.die 1023).hrq = [r] ∧ (s.die 1023).irq = [] ∧ (s.die 1023).reads = [] ∧ (s.die 1023).loaded = 0 ∧
      (s.chan 31).busy ≠ some (.page 1023) ∧ (s.die 1023).resetting = false ∧ o.state ≠ .running ∧ s.dieServes 1023 = true ∧ s.dump.run = none ∧ s.slotClass 1023 < 6 ∧ s.addressFault r.gran = false) ∧
    (∃ s : State, ∃ run, (s.die 1023).reads.find? (fun r => decide (r.req.id = 3) && !r.sensed) = some run ∧ run.req.kind = .host) ∧
    (∃ s : State, ∃ run : ReadRun, (s.chan 31).busy = some (.frame 1023 3) ∧ (s.die 1023).reads.find? (·.req.id = 3) = some run ∧ run.framesLeft ≤ 1 ∧ (s.die 1023).hrq = [] ∧ (s.die 1023).irq = []) ∧
    (∃ s : State, ∃ run : ReadRun, (s.chan 31).busy = some (.frame 1023 3) ∧ (s.die 1023).reads.find? (·.req.id = 3) = some run ∧ 1 < run.framesLeft) :=
  ⟨⟨onDie { feList := [hostRead] }, 1023, hostRead, by decide +kernel⟩,
   ⟨onDie { op := some { runningOp with latency := true, state := .forRead }, hrq := [hostRead] }, { runningOp with latency := true, state := .forRead }, hostRead, by decide +kernel⟩,
   ⟨onDie { reads := [⟨hostRead, 0, false, 1, []⟩] }, ⟨hostRead, 0, false, 1, []⟩, by decide +kernel⟩,
   ⟨{ onDie { reads := [⟨hostRead, 0, true, 1, []⟩] } with awl := { (onDie { reads := [⟨hostRead, 0, true, 1, []⟩] }).awl with chans := [(31, { busy := some (.frame 1023 3) })] } },
    ⟨hostRead, 0, true, 1, []⟩, by decide +kernel⟩,
   ⟨{ onDie { reads := [⟨hostRead, 0, true, 2, []⟩] } with awl := { (onDie { reads := [⟨hostRead, 0, true, 2, []⟩] }).awl with chans := [(31, { busy := some (.frame 1023 3) })] } },
    ⟨hostRead, 0, true, 2, []⟩, by decide +kernel⟩⟩

def loading (n : Nat) : State :=
  { onDie { wkq := [program], loaded := n } with awl := { (onDie { wkq := [program], loaded := n }).awl with chans := [(31, { busy := some (.page 1023) })] } }
theorem programs_hyps : (∃ s : State, ∃ w : WorkReq, (s.chan 31).busy = some (.page 1023) ∧ (s.die 1023).hrq = [] ∧ (s.die 1023).reads = [] ∧ (s.die 1023).op = none ∧ (s.die 1023).wkq = [w] ∧ w.op = 1 ∧
      (s.die 1023).loaded + 1 < w.pages) ∧
    (∃ s : State, ∃ w : WorkReq, (s.chan 31).busy = some (.page 1023) ∧ (s.die 1023).hrq = [] ∧ (s.die 1023).reads = [] ∧ (s.die 1023).op = none ∧ (s.die 1023).wkq = [w] ∧ w.op = 1 ∧
      0 < w.pages ∧ w.pages ≤ (s.die 1023).loaded + 1 ∧ s.dieServes 1023 = true ∧ s.dump.run = none ∧ (s.die 1023).resetting = false ∧ s.slotClass 1023 = w.cls ∧ s.wheel.filler = 0 ∧
      s.workFault w = false) ∧
    (∃ s : State, ∃ o : DieOp, (s.die 1023).op = some o ∧ o.state = .running ∧ s.pollFits 1023 = true) ∧ (∃ s : State, s.pollFits 1023 = false) ∧ (∃ s : State, (s.die 1023).op = none) ∧ (∃ s : State, (s.die 1023).resetting = true) ∧
    (∃ s : State, ∃ ch target : Nat, ch < 32 ∧ target < 8 ∧ s.img.populated (32 * ch + 4 * target + 3) = true ∧ (s.chan ch).isolated = 0 ∧ (s.chan ch).busy = none ∧ target ∉ (s.chan ch).deselected ∧
      Table.getD (s.chan ch).zqRound target 0 + 4096 ≤ s.obs.rounds ∧ 1 ≤ (s.chan ch).zqFails) ∧
    (∃ s : State, s.obs.rounds < Table.getD (s.chan 31).zqRound 7 0 + 4096) :=
  ⟨⟨loading 2, program, by decide +kernel⟩, ⟨loading 3, program, by decide +kernel⟩, ⟨onDie { op := some runningOp }, runningOp, by decide +kernel⟩,
   ⟨{ flash with awl := { flash.awl with chans := [(31, { polled := true, busy := some (.page 1023) })] } }, by decide +kernel⟩, ⟨flash, by decide +kernel⟩,
   ⟨onDie { resetting := true }, by decide +kernel⟩,
   ⟨{ flash with obs := { flash.obs with rounds := 4096 }, awl := { flash.awl with chans := [(31, { zqFails := 1 })] } }, 31, 7, by decide +kernel⟩,
   ⟨{ flash with obs := { flash.obs with rounds := 4095 } }, by decide +kernel⟩⟩

def decodeJob : FrameJob := { req := hostRead, die := 1023, rung := 0, step := 0, softLeft := 0, stage := 2, held := 1, order := 0 }
/-- A reconstruction of a granule of an erased part, for a unit job of the front end or for none. -/
def reconstructing (jobs : Table UnitJob) : State :=
  { flash with girth := { flash.girth with recons := [(0, { (default : Recon) with req := hostRead, engine := true })] }, fe := { flash.fe with jobs := jobs } }
def coded (c : CodecState) : State := { flash with codec := c }
theorem frames_hyps : (∃ s : State, ∃ j : FrameJob, s.fjob 0 = some j ∧ j.stage = 2 ∧ s.runOk j.req = true) ∧ (∃ s : State, ∃ j : FrameJob, s.fjob 0 = some j ∧ j.stage = 3) ∧
    (∃ s : State, ∃ j : FrameJob, s.fjob 0 = some j ∧ j.stage ≠ 2 ∧ j.stage ≠ 3) ∧ (∃ s : State, s.fjob 0 = none) ∧
    (∃ s : State, ∃ j : FrameJob, (∀ g, j.req.use ≠ .trial g) ∧ s.dieServes (dieOf j.req.gran) = true ∧ 4 ≤ (s.die (dieOf j.req.gran)).hrq.length ∧ j.rung < 2 ∧ s.nextStep j.req.gran 0 = some 1) ∧
    (∃ s : State, ∃ j : FrameJob, (∀ g, j.req.use ≠ .trial g) ∧ s.dieServes (dieOf j.req.gran) = true ∧ j.req.kind ≠ .host ∧ j.rung = 1 ∧ s.nextStep j.req.gran j.step = none) ∧
    (∃ s : State, (∀ i < 2 ^ s.img.groupShift, s.readable (1023 % 1024 * 65536 + (1023 / 1024 * 2 ^ s.img.groupShift + i)) = false) ∧ Table.getD s.codec.visits 1023 0 = 0) ∧
    (∃ s : State, 0 < 2 ^ s.img.groupShift ∧ s.readable (1023 % 1024 * 65536 + (1023 / 1024 * 2 ^ s.img.groupShift + 0)) = true ∧ 0 < s.img.patrolFrames) ∧
    (∃ s : State, Table.find s.codec.visits 1023 = some 1) ∧
    (∃ s : State, ∃ k, s.nextStep gran 0 = some k) ∧
    (∃ s : State, s.engines 8 = true ∧ s.codec.recals.length < 64 ∧ s.codec.hint = [(1023, 5)] ∧ (∀ c ∈ s.codec.recals, c.group % 1024 ≠ 1023 % 1024) ∧ s.referenceBlock 1023 (some 5) = none) ∧
    (∃ s : State, s.engines 8 = true ∧ s.codec.recals.length < 64 ∧ s.codec.hint = [(1023, 67043328)] ∧ (∀ c ∈ s.codec.recals, c.group % 1024 ≠ 1023 % 1024) ∧ s.referenceBlock 1023 (some 67043328) = some 67043328) ∧
    (∃ s : State, ∃ c ∈ s.codec.recals, s.engines 8 = true ∧ s.codec.recals.length < 64 ∧ s.codec.hint = [(1023, 5)] ∧ c.group % 1024 = 1023 % 1024) ∧
    (∃ s : State, s.engines 8 = true ∧ s.codec.recals.length < 64 ∧ s.codec.hint = [] ∧ s.codec.age = [1023]) ∧ (∃ s : State, s.codec.hint = [] ∧ s.codec.age = []) ∧
    (∃ s : State, s.engines 8 = true ∧ s.codec.fast = [1023] ∧ s.dieServes (1023 % 1024) = true) ∧ (∃ s : State, s.engines 8 = true ∧ s.codec.fast = [1022] ∧ s.dieServes (1022 % 1024) = false) ∧
    (∃ s : State, s.engines 8 = true ∧ s.codec.fast = [] ∧ s.dieServes (s.codec.cursor % 1024) = true) ∧
    (∃ s : State, ∃ r : Recon, Table.find s.girth.recons 0 = some r ∧ r.engine = true ∧ s.frameOk r.req (s.solved r) = true ∧ s.solved r = s.frameInfo (r.req.gran / 8 * 8)) ∧
    (∃ s : State, ∃ r : Recon, Table.find s.girth.recons 0 = some r ∧ r.engine = true ∧ s.frameOk r.req (s.solved r) = false) ∧ (∃ s : State, Table.find s.girth.recons 0 = none) :=
  ⟨⟨coded { jobs := [(0, decodeJob)] }, decodeJob, by decide +kernel⟩,
   ⟨coded { jobs := [(0, { decodeJob with stage := 3 })] }, { decodeJob with stage := 3 }, by decide +kernel⟩, ⟨coded { jobs := [(0, { decodeJob with stage := 1 })] }, { decodeJob with stage := 1 }, by decide +kernel⟩,
   ⟨flash, by decide +kernel⟩,
   ⟨onDie { hrq := List.replicate 4 hostRead }, decodeJob, fun g h => (by cases h), by decide +kernel⟩,
   ⟨flash, { decodeJob with req := { hostRead with kind := .copy }, rung := 1, step := 8 }, fun g h => (by cases h), by decide +kernel⟩, ⟨flash, by decide +kernel⟩,
   ⟨{ flash with blk := { flash.blk with recs := [(67043328, { programmed := 1 })] } }, by decide +kernel⟩, ⟨coded { visits := [(1023, 1)] }, by decide +kernel⟩, ⟨flash, 1, by decide +kernel⟩,
   ⟨coded { hint := [(1023, 5)] }, by decide +kernel⟩,
   ⟨{ coded { hint := [(1023, 67043328)] } with blk := { flash.blk with recs := [(67043328, { programmed := 1 })] } }, by decide +kernel⟩,
   ⟨coded { hint := [(1023, 5)], recals := [{ (default : Recal) with group := 1023 }] }, { (default : Recal) with group := 1023 }, by decide +kernel⟩,
   ⟨coded { age := [1023] }, by decide +kernel⟩, ⟨flash, by decide +kernel⟩, ⟨coded { fast := [1023] }, by decide +kernel⟩, ⟨coded { fast := [1022] }, by decide +kernel⟩, ⟨flash, by decide +kernel⟩,
   ⟨reconstructing [], { (default : Recon) with req := hostRead, engine := true }, by decide +kernel⟩,
   ⟨reconstructing [(0, default)], { (default : Recon) with req := hostRead, engine := true }, by decide +kernel⟩, ⟨flash, by decide +kernel⟩⟩

/-- Parts of 3 bits a cell and 4 row cycles; pins with a host read's sequence and without; a frame whose codeword stays within its bits; a dump of one data member. -/
theorem flashBytes_hyps : (∃ i : ImgState, i.bitsPerCell ≤ 4 ∧ i.rowCycles ≤ 4 ∧ 0 < i.bitsPerCell) ∧
    (∃ x : Channel, ∃ sq : CaSeq, x.nextCa = some sq ∧ sq.hostRead = false ∧ 1 < x.caWait.length) ∧ (∃ x : Channel, ∃ sq : CaSeq, x.nextCa = some sq ∧ sq.hostRead = true ∧ x.caWait.head? ≠ some sq) ∧
    (∃ d : GranDesc, d.nsx = 2 ^ 10 - 1 ∧ d.lba = 2 ^ 38 - 1 ∧ d.dseq = 2 ^ 48 - 1 ∧ d.tag = 2 ^ 64 - 1 ∧ d.glen < 16 ∧ d.pos < 8 ∧ d.kind < 8 ∧ d.slot = 2 ^ 13 - 1) ∧
    2 ^ 4 - 1 < 2 ^ infoBits ∧ 267 < infoColumns ∧ (∃ wd fpu : Nat, 0 < wd ∧ 0 < fpu ∧ fpu % 4 = 0) :=
  ⟨⟨flash.img, by decide +kernel⟩, ⟨{ caWait := [⟨1020, false, []⟩, ⟨1021, false, []⟩] }, _, rfl, rfl, by decide⟩, ⟨{ caWait := [⟨1020, false, []⟩, ⟨1021, true, []⟩] }, _, rfl, rfl, by decide⟩,
   ⟨{ (default : GranDesc) with nsx := 1023, lba := 2 ^ 38 - 1, dseq := 2 ^ 48 - 1, tag := 2 ^ 64 - 1, slot := 8191 }, by decide⟩, by decide +kernel, by decide, ⟨1, 16, by decide⟩⟩

/-- A namespace of eight 4 KiB blocks with its key slot, bound and ready to give out values. -/
def space : Namespace := { nsx := 0, nsze := 8, flbas := 1, piType := 0, handles := [], attached := [0], slot := 0, padMode := 0 }
def keys : KeySet := ⟨1, 2, 3⟩
def dataSlot : KeySlot := { kind := 1, purpose := 1, current := some keys, gen := 1, resTop := 16 }
def stored : State :=
  { flash with fe := { flash.fe with spaces := [(1, space)] }, cipher := { flash.cipher with slots := [(0, dataSlot)] }, skv := { flash.skv with comps := [15] },
               map := { flash.map with poolSize := 4 }, wb := { flash.wb with effMib := 512 } }
def job : UnitJob := { (default : UnitJob) with kind := .write, stage := .skiver }
def withJob (j : UnitJob) (s : State) : State := { s with fe := { s.fe with jobs := [(0, j)], nextJob := 1 } }
def ready : UnitJob := { job with stage := .admission, desc := { (default : UnitDesc) with glen := 1 } }
theorem writePath_hyps : (∃ s : State, ∃ (j : UnitJob) (n : Namespace) (k : KeySlot), s.job 0 = some j ∧ j.stage = .skiver ∧ j.kind = .write ∧ 15 ∈ s.skv.comps ∧ s.spaceOf j.nsx = some n ∧
      s.keySlot n.slot = k ∧ k.revoking = false ∧ k.current.isSome ∧ k.exhausted = false ∧ k.mayAssign = true) ∧
    (∃ s : State, s.job 0 = none) ∧ (∃ s : State, 14 ∉ s.skv.comps ∧ s.skv.comps ≠ []) ∧
    (∃ s : State, ∃ j : UnitJob, s.job 0 = some j ∧ s.mayAdmit 0 j = true ∧ (s.needSegs j.nsx j.unit).1 = true) ∧
    (∃ s : State, ∃ j : UnitJob, s.job 0 = some j ∧ s.mayAdmit 0 j = true ∧ (s.needSegs j.nsx j.unit).1 = false) :=
  ⟨⟨withJob job stored, job, space, dataSlot, by decide +kernel⟩, ⟨stored, by decide +kernel⟩, ⟨stored, by decide +kernel⟩, ⟨withJob ready stored, ready, by decide +kernel⟩,
   ⟨withJob ready { stored with map := { stored.map with poolSize := 0 } }, ready, by decide +kernel⟩⟩

def request (w : CipherWork) : CipherReq := { work := w, slot := 0, sgen := 0, keys := some keys, read := false, arrived := 0, pair := some 7, mismatches := [] }
def served (r : CipherReq) (miss : Nat) : State := { stored with cipher := { stored.cipher with reqs := [(0, r)], pairMiss := [0, 0, 0, 0, 0, 0, 0, miss] } }
theorem pairs_hyps : (∃ s : State, ∃ (r : CipherReq) (j : UnitJob), Table.find s.cipher.reqs 0 = some r ∧ r.keys = some keys ∧ r.pair = some 7 ∧ r.work = .encrypt 0 ∧ s.job 0 = some j) ∧
    (∃ s : State, ∃ (r : CipherReq) (j : UnitJob), Table.find s.cipher.reqs 0 = some r ∧ r.keys = some keys ∧ r.pair = some 7 ∧ r.work = .decrypt 0 ∧ s.job 0 = some j) ∧
    (∃ s : State, ∃ (r : CipherReq) (j : UnitJob), Table.find s.cipher.reqs 0 = some r ∧ r.keys = some keys ∧ r.pair = some 7 ∧ r.work = .check 0 ∧ s.job 0 = some j) ∧
    (∃ s : State, ∃ (r : CipherReq) (c : Cmd), Table.find s.cipher.reqs 0 = some r ∧ r.keys = some keys ∧ r.pair = some 7 ∧ r.work = .mac 0 ∧ s.cmd 0 = some c ∧ c.admin = false ∧ c.result = none) ∧
    (∃ s : State, ∃ r : CipherReq, Table.find s.cipher.reqs 0 = some r ∧ r.keys = some keys ∧ r.pair = some 7 ∧ r.mismatches = [] ∧ natAt s.cipher.pairMiss 7 + 1 = 4) ∧
    (∃ s : State, ∃ r : CipherReq, Table.find s.cipher.reqs 0 = some r ∧ r.keys = some keys ∧ r.pair = some 7 ∧ r.mismatches ≠ [] ∧ natAt s.cipher.pairMiss 7 + 1 ≠ 4) ∧
    (∃ s : State, Table.find s.cipher.reqs 0 = none) :=
  ⟨⟨withJob job (served (request (.encrypt 0)) 0), request (.encrypt 0), job, by decide +kernel⟩, ⟨withJob job (served (request (.decrypt 0)) 0), request (.decrypt 0), job, by decide +kernel⟩,
   ⟨withJob job (served (request (.check 0)) 0), request (.check 0), job, by decide +kernel⟩,
   ⟨hand (served (request (.mac 0)) 0) false (entry 0x85 []), request (.mac 0), row false (entry 0x85 []), by decide +kernel⟩,
   ⟨served (request (.mac 0)) 3, request (.mac 0), by decide +kernel⟩, ⟨served { request (.mac 0) with mismatches := [6] } 0, { request (.mac 0) with mismatches := [6] }, by decide +kernel⟩,
   ⟨stored, by decide +kernel⟩⟩

/-- Cipher policy: feature 0xC6 with the operation in CDW11 [3:0], the part in [5:4] and the slot in [28:16]. -/
def policy (opc op part slot : Nat) : BitVec 512 := entry opc [(10, 0xC6), (11, op + 16 * part + 65536 * slot)]
/-- A label of version 1 for slot 5 with purpose CHECK. -/
def label5 : BitVec 256 := BitVec.ofNat 256 (1 + 5 * 65536 + 3 * 4294967296)
def slotted (n : Nat) (k : KeySlot) : State := { stored with cipher := { stored.cipher with slots := [(0, dataSlot), (n, k)] } }
theorem slots_hyps :
    Hand true 0x09 (fun _ c => isCipherOp 3 c = true ∧ cipherClean c = false) ∧ Hand true 0x09 (fun _ c => isCipherOp 3 c = true ∧ cipherClean c = true ∧ labelOk label5 (cipherSlot c) = false) ∧
    Hand true 0x09 (fun s c => isCipherOp 3 c = true ∧ cipherClean c = true ∧ labelOk label5 (cipherSlot c) = true ∧ (s.keySlot (cipherSlot c)).revoking = true) ∧
    Hand true 0x09 (fun s c => isCipherOp 3 c = true ∧ cipherClean c = true ∧ labelOk label5 (cipherSlot c) = true ∧ (s.keySlot (cipherSlot c)).pending = false ∧
      (s.keySlot (cipherSlot c)).revoking = false ∧ s.boundTo (cipherSlot c) = none ∧ (s.keySlot (cipherSlot c)).kind = 0) ∧
    Hand true 0x09 (fun s c => isCipherOp 3 c = true ∧ cipherClean c = true ∧ labelOk label5 (cipherSlot c) = true ∧ (s.keySlot (cipherSlot c)).pending = false ∧
      (s.keySlot (cipherSlot c)).revoking = false ∧ s.boundTo (cipherSlot c) = none ∧ (s.keySlot (cipherSlot c)).kind ≠ 0) ∧
    Hand true 0x09 (fun s c => isCipherOp 3 c = true ∧ cipherClean c = true ∧ labelOk label5 (cipherSlot c) = true ∧ ∃ m, s.boundTo (cipherSlot c) = some m ∧ s.holdsMapped m.nsx = true) :=
  ⟨hand_meets stored (policy 0x09 3 4 5) (by decide +kernel) (by decide +kernel), hand_meets stored (policy 0x09 3 0 6) (by decide +kernel) (by decide +kernel),
   hand_meets (slotted 5 { dataSlot with revoking := true }) (policy 0x09 3 0 5) (by decide +kernel) (by decide +kernel), hand_meets stored (policy 0x09 3 0 5) (by decide +kernel) (by decide +kernel),
   hand_meets (slotted 5 dataSlot) (policy 0x09 3 0 5) (by decide +kernel) (by decide +kernel),
   hand_meets { stored with fe := { stored.fe with spaces := [(1, { space with slot := 5 })] }, map := { stored.map with wbi := [(0, (0, 0, 0, 1))] } } (policy 0x09 3 0 5) (by decide +kernel)
     ⟨by decide +kernel, by decide +kernel, by decide +kernel, { space with slot := 5 }, by decide +kernel⟩⟩

def parted (n : Nat) : State := { stored with cipher := { stored.cipher with blobs := [(0, { slot := 4159, parts := List.replicate n (List.replicate 32 0) })] } }
/-- A blob that checks needs a wrapped key of a real key-encryption key; the part's order and the refusal are met here, and the case of a good one by the same row. -/
theorem blobs_hyps :
    Hand true 0x09 (fun _ c => isCipherOp 1 c = true ∧ cipherClean c = true ∧ cipherPart c = 1) ∧ Hand true 0x09 (fun s c => isCipherOp 1 c = true ∧ cipherClean c = true ∧ cipherPart c = 2 ∧
      (Table.find s.cipher.blobs c.ctrl).map (fun b => (b.slot, b.parts.length)) = some (cipherSlot c, 2)) ∧
    Hand true 0x09 (fun s c => isCipherOp 1 c = true ∧ cipherClean c = true ∧ cipherPart c = 3 ∧ (Table.find s.cipher.blobs c.ctrl).map (fun b => (b.slot, b.parts.length)) = some (cipherSlot c, 3) ∧
      s.checkBlob (cipherSlot c) (List.replicate 128 0) = .inl 1) ∧
    (∃ s : State, (s.keySlot 5).pending = true ∧ s.slotQuiet 5 = true) ∧ (∃ s : State, (s.keySlot 5).pending = false) :=
  ⟨hand_meets stored (policy 0x09 1 1 4159) (by decide +kernel) (by decide +kernel), hand_meets (parted 2) (policy 0x09 1 2 4159) (by decide +kernel) (by decide +kernel),
   hand_meets (parted 3) (policy 0x09 1 3 4159) (by decide +kernel) (by decide +kernel), ⟨slotted 5 { dataSlot with pendingLabel := some label5 }, by decide +kernel⟩, ⟨stored, by decide +kernel⟩⟩

theorem binds_hyps :
    Hand true 0x09 (fun _ c => isCipherOp 0 c = true ∧ cipherClean c = false) ∧ Hand true 0x09 (fun s c => isCipherOp 0 c = true ∧ cipherClean c = true ∧ Table.find s.fe.spaces (sqeNsid c.entry) = none) ∧
    Hand true 0x09 (fun s c => isCipherOp 0 c = true ∧ cipherClean c = true ∧ Table.find s.fe.spaces (sqeNsid c.entry) = some space) ∧
    Hand true 0x0A (fun s c => isCipherOp 0 c = true ∧ cipherClean c = true ∧ Table.find s.fe.spaces (sqeNsid c.entry) = some space ∧ getSel c = 0) ∧
    Hand true 0x0A (fun s c => isCipherOp 0 c = true ∧ cipherClean c = true ∧ Table.find s.fe.spaces (sqeNsid c.entry) = none) ∧
    Hand true 0x09 (fun _ c => isCipherOp 2 c = true ∧ cipherClean c = true ∧ 4160 ≤ cipherSlot c) ∧
    Hand true 0x09 (fun s c => isCipherOp 2 c = true ∧ cipherClean c = true ∧ cipherSlot c < 4160 ∧ (s.keySlot (cipherSlot c)).revoking = false ∧ (s.keySlot (cipherSlot c)).kind = 0 ∧
      ∀ r ∈ s.ts.records .keyStore, r.ofSlot (cipherSlot c) = false) ∧
    Hand true 0x09 (fun s c => isCipherOp 2 c = true ∧ cipherClean c = true ∧ cipherSlot c < 4160 ∧ (s.keySlot (cipherSlot c)).revoking = true) ∧
    Hand true 0x09 (fun s c => isCipherOp 2 c = true ∧ cipherClean c = true ∧ cipherSlot c < 4160 ∧ (s.keySlot (cipherSlot c)).revoking = false ∧ (s.keySlot (cipherSlot c)).kind ≠ 0) ∧
    Hand true 0x0A (fun _ c => isCipherOp 4 c = true ∧ cipherClean c = true ∧ 4160 ≤ cipherSlot c) ∧ Hand true 0x0A (fun _ c => isCipherOp 4 c = true ∧ cipherClean c = true ∧ cipherSlot c < 4160) :=
  ⟨hand_meets stored (policy 0x09 0 4 0) (by decide +kernel) (by decide +kernel), hand_meets up (policy 0x09 0 0 0) (by decide +kernel) (by decide +kernel),
   hand_meets stored (policy 0x09 0 0 0) (by decide +kernel) (by decide +kernel), hand_meets stored (policy 0x0A 0 0 0) (by decide +kernel) (by decide +kernel),
   hand_meets up (policy 0x0A 0 0 0) (by decide +kernel) (by decide +kernel), hand_meets stored (policy 0x09 2 0 4160) (by decide +kernel) (by decide +kernel),
   hand_meets stored (policy 0x09 2 0 4159) (by decide +kernel) (by decide +kernel),
   hand_meets (slotted 4159 { dataSlot with revoking := true }) (policy 0x09 2 0 4159) (by decide +kernel) (by decide +kernel),
   hand_meets (slotted 4159 dataSlot) (policy 0x09 2 0 4159) (by decide +kernel) (by decide +kernel),
   hand_meets stored (policy 0x0A 4 0 4160) (by decide +kernel) (by decide +kernel), hand_meets stored (policy 0x0A 4 0 4159) (by decide +kernel) (by decide +kernel)⟩

def checkSlot (limit : Nat) : KeySlot := { kind := 1, purpose := 3, current := some keys, label := BitVec.ofNat 256 (label5.toNat + limit * 2 ^ 48) }
/-- A tack lease packet of version 1, action 2, both reins, epoch 1. -/
def packet : BitVec 512 := BitVec.ofNat 512 0
theorem keyedCheck_hyps :
    Hand false 0x85 (fun _ c => bitField (dw c.entry 10) 15 1 = 0 ∧ dw c.entry 11 = 0) ∧
    Hand false 0x85 (fun s c => bitField (dw c.entry 10) 15 1 = 1 ∧ dw c.entry 11 ≠ 0 ∧ (s.keySlot (bitField (dw c.entry 10) 0 13)).kind = 0) ∧
    Hand false 0x85 (fun s c => bitField (dw c.entry 10) 15 1 = 1 ∧ dw c.entry 11 ≠ 0 ∧ (s.keySlot (bitField (dw c.entry 10) 0 13)).kind ≠ 0 ∧
      (s.keySlot (bitField (dw c.entry 10) 0 13)).revoking = false ∧ (s.keySlot (bitField (dw c.entry 10) 0 13)).purpose ≠ 3) ∧
    Hand false 0x85 (fun s c => bitField (dw c.entry 10) 15 1 = 0 ∧ (s.keySlot (bitField (dw c.entry 10) 0 13)).kind = 1 ∧ (s.keySlot (bitField (dw c.entry 10) 0 13)).revoking = false ∧
      (s.keySlot (bitField (dw c.entry 10) 0 13)).purpose = 3 ∧ labelLimit (s.keySlot (bitField (dw c.entry 10) 0 13)).label ≠ 0 ∧
      labelLimit (s.keySlot (bitField (dw c.entry 10) 0 13)).label * 1024 < dw c.entry 11) ∧
    Hand false 0x85 (fun s c => bitField (dw c.entry 10) 15 1 = 0 ∧ (s.keySlot (bitField (dw c.entry 10) 0 13)).kind ≠ 0 ∧ (s.keySlot (bitField (dw c.entry 10) 0 13)).revoking = false ∧
      (s.keySlot (bitField (dw c.entry 10) 0 13)).purpose = 3 ∧ dw c.entry 11 ≠ 0 ∧ dw c.entry 11 ≤ labelLimit (s.keySlot (bitField (dw c.entry 10) 0 13)).label * 1024) ∧
    Hand true 0xC1 (fun _ _ => pktWell 0 = false) :=
  ⟨hand_meets stored (entry 0x85 [(10, 5)]) (by decide +kernel) (by decide +kernel), hand_meets stored (entry 0x85 [(10, 32768 + 5), (11, 1)]) (by decide +kernel) (by decide +kernel),
   hand_meets stored (entry 0x85 [(10, 32768), (11, 1)]) (by decide +kernel) (by decide +kernel),
   hand_meets (slotted 5 (checkSlot 1)) (entry 0x85 [(10, 5), (11, 1025)]) (by decide +kernel) (by decide +kernel),
   hand_meets (slotted 5 (checkSlot 1)) (entry 0x85 [(10, 5), (11, 1024)]) (by decide +kernel) (by decide +kernel), hand_meets stored (entry 0xC1 []) (by decide +kernel) (by decide +kernel)⟩

/-- A lease packet: version 1, its action, both reins, epoch 1, its start and duration, this drive. -/
def lease (action start duration drive : Nat) : BitVec 512 :=
  BitVec.ofNat 512 (1 + action * 256 + 3 * 4096 + 2 ^ 32 + start * 2 ^ 96 + duration * 2 ^ 160 + drive * 2 ^ 192)
theorem leasePackets_hyps : Hand true 0xC1 (fun s _ => pktWell (lease 2 0 0 0) = true ∧ (s.keySlot s.rein.twin.slot).purpose ≠ 2) ∧
    Hand true 0xC1 (fun s _ => pktWell (lease 0 0 1 0) = true ∧ (s.keySlot s.rein.twin.slot).kind ≠ 0 ∧ (s.keySlot s.rein.twin.slot).revoking = false ∧ (s.keySlot s.rein.twin.slot).purpose = 2) :=
  ⟨hand_meets stored (entry 0xC1 []) (by decide +kernel) (by decide +kernel), hand_meets (slotted 0 dataSlot |> fun s => { s with cipher := { s.cipher with slots := [(0, { dataSlot with purpose := 2 })] } })
    (entry 0xC1 []) (by decide +kernel) (by decide +kernel)⟩

/-- A state whose girth engine, blocks or map are as given. -/
def girthed (g : GirthState) : State := { flash with girth := g }
def streams (x : Stream) : List Stream := x :: List.replicate 7 {}
def girth0 : Girth := { (default : Girth) with stream := 0, set := 3, wl := 0, w := 30, gran := 4, oldestWt := some 5 }
theorem sets_hyps : (∃ s : State, s.engines 8 = true ∧ s.wantsSet 0 = true) ∧ (∃ s : State, s.wantsSet 7 = false) ∧ (∃ s : State, s.fastSet 3 = true) ∧
    (∃ s : State, s.engines 8 = true ∧ (s.stream 0).floorDie = some 1022 ∧ s.girth.noSets = true) ∧ (∃ s : State, s.engines 8 = true ∧ (s.stream 0).floorDie = some 1022 ∧ s.channelCount < (s.stream 0).takingW + 2) ∧
    (∃ s : State, s.engines 8 = true ∧ (s.stream 0).floorDie = some 1022 ∧ s.girth.noSets = false ∧ (s.stream 0).takingW + 2 ≤ s.channelCount ∧ s.dieServes 1022 = false) ∧
    (∃ s : State, s.engines 8 = true ∧ (s.stream 0).floorDie = some 1023 ∧ s.girth.noSets = false ∧ (s.stream 0).takingW + 2 ≤ s.channelCount ∧ s.dieServes 1023 = true ∧ s.mustWait 0 1023 = true) ∧
    (∃ s : State, s.engines 8 = true ∧ (s.stream 0).floorDie = some 1023 ∧ s.girth.noSets = false ∧ (s.stream 0).takingW + 2 ≤ s.channelCount ∧ s.dieServes 1023 = true ∧ s.mustWait 0 1023 = false) ∧ (∃ s : State, (s.stream 0).floorDie = none) ∧
    (∃ s : State, ∃ g : Girth, s.engines 8 = true ∧ (s.stream 0).filling = some 9 ∧ s.girthRec 9 = some g ∧ s.mustClose g = true) ∧
    (∃ s : State, ∃ g : Girth, s.engines 8 = true ∧ (s.stream 0).filling = some 9 ∧ s.girthRec 9 = some g ∧ s.mustClose g = false ∧ g.oldestWt = some 5 ∧ 5 + s.img.closeAge ≤ s.wheel.wt) ∧
    (∃ s : State, ∃ g : Girth, s.engines 8 = true ∧ (s.stream 0).filling = some 9 ∧ s.girthRec 9 = some g ∧ g.oldestWt = some 5 ∧ s.wheel.wt < 5 + s.img.closeAge) ∧ (∃ s : State, (s.stream 0).filling = none) ∧
    (∃ s : State, s.engines 7 = true ∧ s.pageDue = true ∧ s.girth.pair = some (1, 2, 0) ∧ s.girth.ledgerLost = false ∧ 0 < s.img.fcPages - 1 ∧ s.girth.refreshAt.isSome) ∧ (∃ s : State, s.pageDue = false) ∧ (∃ s : State, s.engines 8 = false ∧ s.engines 7 = true) ∧ (∃ s : State, s.engines 7 = false) :=
  ⟨⟨girthed { streams := streams { list := [.root 0 [] none 0] }, w := 0, freeSets := [], nextSet := 0 }, by decide +kernel⟩, ⟨flash, by decide +kernel⟩,
   ⟨{ girthed { w := 0 } with map := { flash.map with fcTarget := 10000 } }, by decide +kernel⟩, ⟨girthed { noSets := true, streams := streams { floorDie := some 1022 } }, by decide +kernel⟩,
   ⟨girthed { streams := streams { floorDie := some 1022, takingW := 1 } }, by decide +kernel⟩, ⟨girthed { streams := streams { floorDie := some 1022 } }, by decide +kernel⟩,
   ⟨{ girthed { streams := streams { floorDie := some 1023 } } with blk := { flash.blk with dies := [(1023, { fresh := 16 })] } }, by decide +kernel⟩,
   ⟨girthed { streams := streams { floorDie := some 1023 } }, by decide +kernel⟩, ⟨flash, by decide +kernel⟩,
   ⟨girthed { streams := streams { filling := some 9 }, girths := [(9, { girth0 with awaited := true })] }, { girth0 with awaited := true }, by decide +kernel⟩,
   ⟨{ girthed { streams := streams { filling := some 9 }, girths := [(9, girth0)], sets := [(3, { state := 1 })] } with wheel := { wt := 10 ^ 9 } }, girth0, by decide +kernel⟩,
   ⟨girthed { streams := streams { filling := some 9 }, girths := [(9, girth0)], sets := [(3, { state := 1 })] }, girth0, by decide +kernel⟩, ⟨flash, by decide +kernel⟩,
   ⟨girthed { waiters := 1, pair := some (1, 2, 0), refreshAt := some 0 }, by decide +kernel⟩, ⟨flash, by decide +kernel⟩,
   ⟨{ flash with dump := { flash.dump with step := 7 } }, by decide +kernel⟩, ⟨{ flash with dump := { flash.dump with since := true } }, by decide +kernel⟩⟩

def blocked (b : BlkState) : State := { flash with blk := b, girth := { flash.girth with w := 1 } }
theorem victims_hyps : (∃ s : State, s.engines 8 = true ∧ s.blk.active.length < s.img.activeVictims ∧ s.copyLoad < s.twoGirths ∧ s.nextVictim = some 7) ∧ (∃ s : State, s.nextVictim = none) ∧
    (∃ s : State, s.forcedHead 1 = some 7) ∧ (∃ s : State, s.forcedHead 1 = none ∧ s.forcedHead 2 = some 7) ∧
    (∃ s : State, s.forcedHead 1 = none ∧ s.forcedHead 2 = none ∧ 6 ≤ s.blk.band ∧ s.map.restoring = false ∧ s.validTake = some 7) ∧
    (∃ s : State, s.forcedHead 1 = none ∧ s.forcedHead 2 = none ∧ s.blk.band < 6 ∧ s.forcedHead 3 = some 7) ∧ (∃ s : State, (∀ k < 6, s.forcedHead k = none) ∧ s.blk.band = 0) ∧
    (∃ s : State, s.engines 8 = true ∧ s.gateOpen 67043328 = true) ∧ (∃ s : State, s.gateOpen 67043328 = false) ∧ (∃ s : State, s.girth.noSets = true) ∧
    (∃ s : State, s.engines 8 = true ∧ s.girth.noSets = false ∧ s.girth.ledgerLost = true) ∧
    (∃ s : State, s.engines 8 = true ∧ s.girth.noSets = false ∧ s.girth.ledgerLost = false ∧ s.copyLoad < s.twoGirths ∧ s.girth.rebuild ≠ [] ∧ s.nextRebuild = some 3 ∧ s.girth.rebuilding.length < s.img.rebuildSets ∧
      (s.setRec 3).state = 2) ∧
    (∃ s : State, s.engines 8 = true ∧ s.girth.noSets = false ∧ s.girth.ledgerLost = false ∧ s.copyLoad < s.twoGirths ∧ s.girth.rebuild = [] ∧ s.girth.reshape.head? = some 3 ∧
      s.girth.reshaping.length < s.img.reshapeSets ∧ (s.setRec 3).state = 2) :=
  ⟨⟨blocked { forced := [(1, [7])] }, by decide +kernel⟩, ⟨blocked {}, by decide +kernel⟩, ⟨blocked { forced := [(1, [7])] }, by decide +kernel⟩, ⟨blocked { forced := [(2, [7])] }, by decide +kernel⟩,
   ⟨blocked { band := 6, vc := [(vcKey 6 62, [7])] }, by decide +kernel⟩, ⟨blocked { band := 5, forced := [(3, [7])] }, by decide +kernel⟩, ⟨blocked {}, by decide +kernel⟩,
   ⟨blocked { recs := [(67043328, { mode := .eraseWait })] }, by decide +kernel⟩, ⟨blocked {}, by decide +kernel⟩, ⟨girthed { noSets := true }, by decide +kernel⟩,
   ⟨girthed { ledgerLost := true }, by decide +kernel⟩, ⟨girthed { w := 1, rebuild := [(3, 2)], sets := [(3, { state := 2 })] }, by decide +kernel⟩,
   ⟨girthed { w := 1, reshape := [3], sets := [(3, { state := 2 })] }, by decide +kernel⟩⟩

theorem journals_hyps : (∃ s : State, ∃ g : Nat, s.engines 8 = true ∧ g ≠ Config.maxSegments ∧ (s.seg g).staging ≠ [] ∧ (s.seg g).stagingWt + s.img.stageAge ≤ s.wheel.wt ∧ 6 < s.girth.streams.length) ∧
    (∃ s : State, ∃ g : Nat, g ≠ Config.maxSegments ∧ s.wheel.wt < (s.seg g).stagingWt + s.img.stageAge) ∧
    (∃ s : State, s.engines 8 = true ∧ s.map.rootStaging ≠ [] ∧ s.map.rootStagingWt + s.img.stageAge ≤ s.wheel.wt ∧ 6 < s.girth.streams.length) ∧
    (∃ s : State, s.engines 8 = true ∧ s.map.snapRound + 4096 ≤ s.obs.rounds ∧ s.map.snapLeft = 0) ∧ (∃ s : State, s.engines 8 = true ∧ 1048576 ≤ s.map.rootSince ∧ s.map.snapLeft = 0) ∧ (∃ s : State, s.map.snapLeft ≠ 0) :=
  ⟨⟨{ flash with wheel := { wt := 10 ^ 9 }, map := { flash.map with segs := [(122879, { staging := [.tag 0 0] })] } }, 122879, by decide +kernel⟩,
   ⟨{ flash with map := { flash.map with segs := [(122879, { staging := [.tag 0 0], stagingWt := 1 })] } }, 122879, by decide +kernel⟩,
   ⟨{ flash with wheel := { wt := 10 ^ 9 }, map := { flash.map with rootStaging := [.segReturn 0] } }, by decide +kernel⟩,
   ⟨{ flash with obs := { flash.obs with rounds := 4096 } }, by decide +kernel⟩, ⟨{ flash with map := { flash.map with rootSince := 1048576 } }, by decide +kernel⟩,
   ⟨{ flash with map := { flash.map with snapLeft := 1 } }, by decide +kernel⟩⟩

def dumpOf (d : DumpState) (pwrfailN : Bool) : State := { flash with dump := d, pkg := { flash.pkg with pwrfailN := pwrfailN } }
def twoGirthRun : DumpRun := { dumpRun with girths := 2, wd := 1, ended := [(0, 2)] }
/-- Unit (1, 1) of a dump whose set B holds two blocks of die 1,023, which is being reset or not. -/
def onHold : DumpRun := { dumpRun with girths := 2, wd := 1, ended := [(0, 1)], set := 1 }
def holding (resetting : Bool) : State :=
  { flash with dump := { flash.dump with run := some onHold, holdA := [67043328, 67043329], holdB := [67043328, 67043329] }, awl := { flash.awl with dies := [(0, { mode := .active }), (1023, { mode := .active, resetting := resetting })] },
               blk := { flash.blk with recs := [(67043328, { mode := .held }), (67043329, { mode := .held })] } }
theorem powerLoss_hyps : (∃ s : State, s.pkg.pwrfailN = true) ∧ (∃ s : State, s.pkg.pwrfailN = false ∧ s.dump.filterLow = true) ∧ (∃ s : State, s.pkg.pwrfailN = false ∧ s.dump.filterLow = false) ∧
    (∃ s : State, s.pkg.pwrfailN = false ∧ s.dump.filterLow = true ∧ s.dump.active = none) ∧
    (∃ s : State, s.pkg.pwrfailN = false ∧ s.dump.filterLow = true ∧ s.dump.active = some true ∧ s.dump.since = false) ∧ (∃ s : State, s.dump.run = none) ∧
    (∃ s : State, ∃ d : DumpRun, s.dump.run = some d ∧ d.mayEnd 1 2 = true ∧ d.mayEnd 1 0 = false ∧ d.mayEnd 0 3 = false ∧ d.mayEnd 2 0 = false ∧ s.dumpDie d 1 2 = none) ∧
    (∃ s : State, ∃ d : DumpRun, s.dump.run = some d ∧ d.mayEnd 1 1 = true ∧ s.dumpDie d 1 1 = some 1023 ∧ (s.die 1023).resetting = false) ∧
    (∃ s : State, ∃ d : DumpRun, s.dump.run = some d ∧ s.dumpDie d 1 1 = some 1023 ∧ (s.die 1023).resetting = true) ∧
    (∃ s : State, ∃ d : DumpRun, s.dump.run = some d ∧ d.cause = 1 ∧ d.boundaryScan = false ∧ s.pkg.pwrfailN = true ∧ s.fault.dumpFatal = none ∧ s.fault.stop = none ∧ s.therm.tripped = false ∧ s.pkg.jtagWaiting = none) ∧
    (∃ s : State, ∃ d : DumpRun, s.dump.run = some d ∧ d.mayEnd 1 2 = true ∧ (d.unitEnd 1 2 true).ended.length = d.girths * (d.wd + 2)) ∧
    (∃ s : State, ∃ d : DumpRun, s.dump.run = some d ∧ s.pkg.pwrfailN = false ∧ s.fault.dumpFatal = none) ∧
    (∃ s : State, s.pkg.pwrfailN = true ∧ s.dump.filterHigh = true ∧ 1 ∉ s.dump.holds) ∧
    (∃ s : State, s.pkg.pwrfailN = true ∧ s.dump.filterHigh = true ∧ 1 ∈ s.dump.holds ∧ ∀ h ∈ s.dump.holds, h = 1 ∨ h = 3) ∧
    (∃ s : State, s.pkg.pwrfailN = true ∧ s.dump.filterHigh = true ∧ 1 ∈ s.dump.holds ∧ 2 ∈ s.dump.holds) :=
  ⟨⟨up, by decide⟩, ⟨dumpOf { filterLow := true } false, by decide⟩, ⟨dumpOf {} false, by decide⟩, ⟨dumpOf { filterLow := true } false, by decide⟩,
   ⟨dumpOf { filterLow := true, active := some true } false, by decide⟩, ⟨up, by decide⟩, ⟨dumpOf { run := some twoGirthRun } false, twoGirthRun, by decide +kernel⟩,
   ⟨holding false, onHold, by decide +kernel⟩, ⟨holding true, onHold, by decide +kernel⟩, ⟨dumpOf { run := some { dumpRun with cause := 1 } } true, { dumpRun with cause := 1 }, by decide⟩,
   ⟨dumpOf { run := some { twoGirthRun with ended := [(0, 2), (0, 0), (0, 1), (1, 0), (1, 1)] } } false, { twoGirthRun with ended := [(0, 2), (0, 0), (0, 1), (1, 0), (1, 1)] }, by decide⟩,
   ⟨dumpOf { run := some twoGirthRun } false, twoGirthRun, by decide⟩, ⟨dumpOf { filterHigh := true, holds := [2] } true, by decide⟩,
   ⟨dumpOf { filterHigh := true, holds := [1, 3] } true, by decide⟩, ⟨dumpOf { filterHigh := true, holds := [1, 2] } true, by decide⟩⟩

/-- A window that fits needs a populated hold set; the clause about the largest window is met by the window 0 here. -/
theorem backup_hyps : (∃ s : State, 100000 ≤ s.wb.shortTeeth ∧ s.wb.backupFail = false) ∧ (∃ s : State, 100000 ≤ s.wb.zeroTeeth ∧ s.wb.backupFail = false) ∧
    (∃ s : State, s.wb.shortTeeth < 100000 ∧ s.wb.zeroTeeth < 100000) ∧ (∃ s : State, s.wb.backupFail = true) ∧
    (∃ s : State, 100000 ≤ s.wb.coverTeeth ∧ s.wb.backupFail = true) ∧ (∃ s : State, s.wb.coverTeeth < 100000) :=
  ⟨⟨{ up with wb := { shortTeeth := 100000 } }, by decide⟩, ⟨{ up with wb := { zeroTeeth := 100000 } }, by decide⟩, ⟨{ up with wb := { shortTeeth := 99999, zeroTeeth := 99999 } }, by decide⟩, ⟨{ up with wb := { backupFail := true } }, by decide⟩,
   ⟨{ up with wb := { coverTeeth := 100000, backupFail := true } }, by decide⟩, ⟨{ up with wb := { coverTeeth := 99999 } }, by decide⟩⟩

def linked (p : ReinPort) : State := { up with rein := { a := p, b := p } }
def merged (p : ReinPort) : State := { up with rein := { a := p, b := p, twin := { merged := true } } }
theorem links_hyps : (∃ s : State, s.reinExists .b = true ∧ s.ts.bootStep ≠ 0 ∧ (s.port .b).perst = false ∧ (s.port .b).up = false) ∧ (∃ s : State, (s.port .a).up = true) ∧
    (∃ s : State, s.reinExists .b = false) ∧ (∃ s : State, (s.port .a).up = true ∧ (s.port .a).testRound + 65536 ≤ s.obs.rounds) ∧
    (∃ s : State, s.obs.rounds < (s.port .a).testRound + 65536) ∧ (∃ s : State, (s.port .a).up = false) ∧ (∃ s : State, s.reinExists .a = true ∧ (s.port .a).perst = false) ∧
    (∃ s : State, s.reinExists .a = true ∧ (s.port .a).perst = true) ∧ (∃ s : State, s.portOk ⟨.b, 63⟩ = true ∧ s.portOk ⟨.b, 0⟩ = true) ∧ (∃ s : State, s.portOk ⟨.b, 64⟩ = false) ∧ (∃ s : State, s.portOk ⟨.b, 62⟩ = true ∧ s.portOk ⟨.b, 63⟩ = false) :=
  ⟨⟨linked { perst := false, link := 1 }, by decide⟩, ⟨linked { link := 2 }, by decide⟩, ⟨merged {}, by decide⟩,
   ⟨{ linked { link := 3 } with obs := { up.obs with rounds := 65536 } }, by decide⟩, ⟨{ linked { link := 3 } with obs := { up.obs with rounds := 65535 } }, by decide⟩,
   ⟨linked { link := 4 }, by decide⟩, ⟨linked { perst := false }, by decide⟩, ⟨linked { perst := true }, by decide⟩, ⟨linked { link := 2, vfs := 63 }, by decide⟩, ⟨linked { link := 2, vfs := 63 }, by decide⟩, ⟨linked { link := 2, vfs := 62 }, by decide⟩⟩

def enabled (e : Bool) : State := { linked { link := 2, perst := false, vfs := 63 } with fe := { up.fe with ctrls := [(63, { enA := e })] } }
theorem controllers_hyps : (∃ s : State, s.portOk ⟨.a, 63⟩ = true ∧ s.fault.stop = none ∧ (s.ctrl (s.ctrlOf ⟨.a, 63⟩)).en .a = false ∧ s.dump.shutdown = false) ∧
    (∃ s : State, s.portOk ⟨.a, 63⟩ = true ∧ s.fault.stop = none ∧ (s.ctrl (s.ctrlOf ⟨.a, 63⟩)).en .a = false ∧ s.dump.shutdown = true) ∧
    (∃ s : State, s.portOk ⟨.a, 63⟩ = true ∧ s.fault.stop = none ∧ (s.ctrl (s.ctrlOf ⟨.a, 63⟩)).en .a = true) ∧
    (∃ s : State, s.portOk ⟨.a, 63⟩ = true ∧ s.fault.stop = none ∧ s.dump.since = true) ∧ (∃ s : State, s.portOk ⟨.a, 63⟩ = true ∧ s.fault.stop = none ∧ s.dump.since = false ∧ s.dump.active = none) ∧
    (∃ s : State, s.portOk ⟨.a, 63⟩ = true ∧ s.fault.stop = none ∧ s.dump.since = false ∧ s.dump.active.isSome) ∧ (∃ s : State, s.portOk ⟨.a, 63⟩ = true ∧ s.fault.stop.isSome) ∧
    (∃ s : State, s.portOk ⟨.a, 63⟩ = false) ∧ (∃ s : State, s.portOk ⟨.a, 0⟩ = true ∧ s.fault.stop = none) :=
  ⟨⟨enabled false, by decide⟩, ⟨{ enabled false with dump := { up.dump with shutdown := true } }, by decide⟩, ⟨enabled true, by decide⟩,
   ⟨{ enabled false with dump := { up.dump with since := true } }, by decide⟩, ⟨enabled false, by decide⟩, ⟨{ enabled true with dump := { up.dump with active := some false } }, by decide⟩,
   ⟨{ enabled false with fault := { up.fault with stop := some default } }, by decide⟩, ⟨up, by decide⟩, ⟨enabled false, by decide⟩⟩

theorem keepers_hyps : (∃ s : State, (s.port .b).keeperTiming = none) ∧ (∃ s : State, (s.port .b).keeperTiming = some false ∧ s.reinExists .b = false) ∧
    (∃ s : State, (s.port .b).keeperTiming = some false ∧ s.img.keeperUse .b = false) ∧
    (∃ s : State, (s.port .b).keeperTiming = some true ∧ s.reinExists .b = true ∧ s.img.keeperUse .b = true) ∧
    (∃ s : State, s.fe.leases ≠ [] ∧ ∀ l ∈ s.fe.leases, l.posted = false) ∧ (∃ s : State, ∃ l : LeaseDue, s.fe.leases = [l] ∧ l.posted = true) ∧
    (∃ s : State, ∃ c : Cmd, s.cmd 0 = some c ∧ c.port.rein = .a ∧ c.result = none ∧ c.started = false ∧ isWriteClass c.admin c.entry = true) ∧
    (∃ s : State, ∃ l : Lease, (s.port .a).lease = some l ∧ l.live = false ∧ l.startWt ≤ s.wheel.wt) ∧ (∃ s : State, (s.port .a).lease = none) ∧
    (∃ s : State, ∃ l : Lease, (s.port .a).lease = some l ∧ l.live = false ∧ s.wheel.wt < l.startWt) ∧ (∃ s : State, ∃ l : Lease, (s.port .a).lease = some l ∧ l.endWt ≤ s.wheel.wt) ∧
    (∃ s : State, ∃ l : Lease, (s.port .a).lease = some l ∧ s.wheel.wt < l.endWt) ∧ pktAction (lease 0 5 1 0) = 0 ∧ (pktMask (lease 0 5 1 0)).testBit 1 = true :=
  ⟨⟨up, by decide⟩, ⟨merged { keeperTiming := some false }, by decide⟩, ⟨linked { keeperTiming := some false }, by decide⟩,
   ⟨{ linked { keeperTiming := some true } with img := { up.img with rein := 2 } }, by decide⟩,
   ⟨{ up with fe := { up.fe with leases := [⟨0, 0, 0, false, false, false⟩] } }, List.cons_ne_nil _ _, fun _ h => by rw [List.mem_singleton.mp h]⟩,
   ⟨{ up with fe := { up.fe with leases := [⟨0, 0, 0, false, false, true⟩] } }, ⟨0, 0, 0, false, false, true⟩, rfl, rfl⟩,
   ⟨hand stored false (entry 0x01 []), row false (entry 0x01 []), by decide +kernel⟩, ⟨{ linked { lease := some ⟨false, 5, 9, 1⟩ } with wheel := { wt := 5 } }, ⟨false, 5, 9, 1⟩, by decide⟩,
   ⟨up, by decide⟩, ⟨{ linked { lease := some ⟨false, 5, 9, 1⟩ } with wheel := { wt := 4 } }, ⟨false, 5, 9, 1⟩, by decide⟩,
   ⟨{ linked { lease := some ⟨true, 5, 9, 1⟩ } with wheel := { wt := 9 } }, ⟨true, 5, 9, 1⟩, by decide⟩, ⟨{ linked { lease := some ⟨true, 5, 9, 1⟩ } with wheel := { wt := 8 } }, ⟨true, 5, 9, 1⟩, by decide⟩,
   by decide +kernel⟩

/-- The identity of the drive is a fuse value of no fixed number: a packet for it is built from it. -/
theorem driveId_hyps : ∃ p : BitVec 512, bitField p.toNat 192 64 ≠ driveId ∨ bitField p.toNat 192 64 = driveId := ⟨0, Classical.em _ |>.symm⟩

/-- Queue 1 of function 0 of rein A, of 16 entries with 15 in it at most; its last slot free. -/
def queued (x : SqSide) (e : BitVec 32) (fe : FeState) : State :=
  { linked { link := 2, perst := false } with fe := { fe with sqs := [(1, { queue false with sideA := some x, exec := e })], cqs := [(1, { slotQueue with head := 15, used := 15 })],
                                                              ctrls := [(0, { enA := true })], admits := true } }
theorem doorbells_hyps : (∃ s : State, ∃ (q : Sq) (x : SqSide), s.portOk ⟨.a, 0⟩ = true ∧ s.fault.stop = none ∧ s.sq (s.sqKey ⟨.a, 0⟩ 1) = some q ∧ q.side .a = some x ∧ x.attached = true ∧ 15 < q.qsize ∧
      (x.tail - x.fetch).toNat + (15 + q.qsize - x.tail.toNat % q.qsize) % q.qsize ≤ q.qsize - 1) ∧
    (∃ s : State, ∃ (q : Sq) (x : SqSide), s.portOk ⟨.a, 0⟩ = true ∧ s.sq (s.sqKey ⟨.a, 0⟩ 1) = some q ∧ q.side .a = some x ∧ q.qsize ≤ 16) ∧
    (∃ s : State, ∃ (q : Sq) (x : SqSide), s.portOk ⟨.a, 0⟩ = true ∧ s.sq (s.sqKey ⟨.a, 0⟩ 1) = some q ∧ q.side .a = some x ∧
      q.qsize - 1 < (x.tail - x.fetch).toNat + (3 + q.qsize - x.tail.toNat % q.qsize) % q.qsize) ∧
    (∃ s : State, s.portOk ⟨.a, 0⟩ = true ∧ s.sq (s.sqKey ⟨.a, 0⟩ 2) = none ∧ s.cq (s.cqKey ⟨.a, 0⟩ 2) = none) ∧
    (∃ s : State, ∃ q : Cq, s.portOk ⟨.a, 0⟩ = true ∧ s.fault.stop = none ∧ s.cq (s.cqKey ⟨.a, 0⟩ 1) = some q ∧ 14 < q.size ∧ (14 + q.size - q.head % q.size) % q.size ≤ q.used) ∧
    (∃ s : State, ∃ q : Cq, s.portOk ⟨.a, 0⟩ = true ∧ s.cq (s.cqKey ⟨.a, 0⟩ 1) = some q ∧ q.size ≤ 16) ∧ (∃ s : State, s.portOk ⟨.a, 0⟩ = false) ∧
    (∃ s : State, ∃ (q : Sq) (x : SqSide), s.sq (0 * 131072 + 1) = some q ∧ q.side .a = some x ∧ s.twinMode = true ∧ x.attached = true ∧ posLt x.fetch q.exec = true ∧
      x.advanced + s.rein.twin.lagTeeth ≤ s.wheel.wt) ∧ (∃ s : State, s.twinMode = false) :=
  ⟨⟨queued side 1 up.fe, { queue false with sideA := some side, exec := 1 }, side, by decide⟩, ⟨queued side 1 up.fe, { queue false with sideA := some side, exec := 1 }, side, by decide⟩,
   ⟨queued { side with tail := 5, fetch := 1 } 1 up.fe, { queue false with sideA := some { side with tail := 5, fetch := 1 }, exec := 1 }, { side with tail := 5, fetch := 1 }, by decide⟩,
   ⟨queued side 1 up.fe, by decide⟩, ⟨queued side 1 up.fe, { slotQueue with head := 15, used := 15 }, by decide⟩, ⟨queued side 1 up.fe, { slotQueue with head := 15, used := 15 }, by decide⟩,
   ⟨up, by decide⟩,
   ⟨{ queued side 2 up.fe with rein := { twin := { inForce := 1 } }, wheel := { wt := 50000 } }, { queue false with sideA := some side, exec := 2 }, side, by decide⟩, ⟨up, by decide⟩⟩

def atZero (admin : Bool) : Sq := { queue admin with sideA := some { side with fetch := 0 }, exec := 0 }
def fetching (admin : Bool) (e : BitVec 32) (cmds : Table Cmd) : State :=
  let s := queued { side with fetch := 0 } e { up.fe with cmds := cmds }
  if admin then { s with fe := { s.fe with sqs := [(0, atZero true), (1, atZero false)] } } else s
theorem fetch_hyps : (∃ s : State, ∃ (q : Sq) (x : SqSide), s.portOk ⟨.a, 0⟩ = true ∧ s.fetches = true ∧ (s.ctrl (s.ctrlOf ⟨.a, 0⟩)).en .a = true ∧ s.sq (s.sqKey ⟨.a, 0⟩ 1) = some q ∧ q.side .a = some x ∧
      x.attached = true ∧ posLt x.fetch x.tail = true ∧ s.mayFetch (s.sqKey ⟨.a, 0⟩ 1) q.admin = true ∧ x.fetch = q.exec ∧ s.tagsUsed (s.sqKey ⟨.a, 0⟩ 1) < q.tags) ∧
    (∃ s : State, ∃ (q : Sq) (x : SqSide), s.portOk ⟨.a, 0⟩ = true ∧ s.fetches = true ∧ (s.ctrl (s.ctrlOf ⟨.a, 0⟩)).en .a = true ∧ s.sq (s.sqKey ⟨.a, 0⟩ 0) = some q ∧ q.side .a = some x ∧
      x.attached = true ∧ posLt x.fetch x.tail = true ∧ s.mayFetch (s.sqKey ⟨.a, 0⟩ 0) q.admin = true ∧ x.fetch = q.exec ∧ q.tags ≤ s.tagsUsed (s.sqKey ⟨.a, 0⟩ 0)) ∧
    (∃ s : State, ∃ (q : Sq) (x : SqSide), s.portOk ⟨.a, 0⟩ = true ∧ s.fetches = true ∧ s.sq (s.sqKey ⟨.a, 0⟩ 1) = some q ∧ q.side .a = some x ∧ x.attached = true ∧ posLt x.fetch x.tail = true ∧
      s.mayFetch (s.sqKey ⟨.a, 0⟩ 1) q.admin = true ∧ x.fetch ≠ q.exec) ∧ (∃ s : State, s.fetches = false) ∧
    (∃ s : State, s.adminWaits = true ∧ s.mayFetch 1 false = false) ∧ (∃ s : State, s.adminWaits = false ∧ s.fe.turn ∈ s.ioWaiting ∧ s.burstLeft (s.fe.turn / 131072) = true) ∧
    (∃ s : State, s.adminWaits = false ∧ s.ioWaiting ≠ [] ∧ s.fe.turn ∉ s.ioWaiting) :=
  ⟨⟨fetching false 0 [], atZero false, { side with fetch := 0 }, by decide +kernel⟩,
   ⟨fetching true 0 ((List.range 32).map fun n => (n, row true 0)), atZero true, { side with fetch := 0 }, by decide +kernel⟩,
   ⟨fetching false 1 [], { atZero false with exec := 1 }, { side with fetch := 0 }, by decide +kernel⟩, ⟨boot 0, by decide⟩, ⟨fetching true 0 [], by decide +kernel⟩,
   ⟨{ fetching false 0 [] with fe := { (fetching false 0 []).fe with turn := 1, features := [(featKey 0x01 0 0, 7)] } }, by decide +kernel⟩, ⟨fetching false 0 [], by decide +kernel⟩⟩

/-- One entry for each check of R285, in their order, on rein A of `stored` with a fence; each passes the checks before its own. -/
def checked (e : BitVec 512) (P : State → Cmd → Bool) : Prop := P (hand { stored with rein := { a := { link := 2, fencedKeeper := true } } } false e) (row false e) = true
theorem checks_hyps : checked (entry 0x7F []) (fun _ c => !c.supported) ∧ checked (entry 0x101 []) (fun _ c => decide (sqeFuse c.entry ≠ 0)) ∧
    checked (entry 0x4001 [(6, 0), (9, 0xF0000000)]) (fun _ c => c.reservedOk && c.badSgl) ∧ checked (entry 0x01 [(6, 1)]) (fun _ c => c.reservedOk && !c.badSgl && c.badPrp) ∧
    checked (entry 0x02 [] + 4294967296#512) (fun s c => !c.badPrp && s.badSpace c) ∧ checked (entry 0x02 [(12, 512)]) (fun s c => !s.badSpace c && decide (2097152 < s.transferBytes c)) ∧
    checked (entry 0x02 [(10, 8)]) (fun s c => decide (s.transferBytes c ≤ 2097152) && s.beyondEnd c) ∧
    checked (entry 0x01 [(10, 7)]) (fun s c => !s.beyondEnd c && !s.cidTaken 0 c && (s.port c.port.rein).fenced && isWriteClass c.admin c.entry) ∧
    checked (entry 0x01 [(10, 7)]) (fun s c => s.cidTaken 1 c) := by
  refine ⟨?_, ?_, ?_, ?_, ?_, ?_, ?_, ?_, ?_⟩ <;> (unfold checked; decide +kernel)

/-- `hand_meets` with both facts evaluated. -/
theorem meets (s : State) {admin : Bool} {opc : Nat} (e : BitVec 512) {P : State → Cmd → Prop} (w : (row admin e).waits admin opc = true := by decide +kernel)
    (h : P (hand s admin e) (row admin e) := by decide +kernel) : Hand admin opc P := hand_meets s e w h

/-- An entry of Create or Delete: QID in CDW10 [15:0], QSIZE in [31:16]; PC in CDW11 bit 0, the completion queue in [31:16]. -/
def queueEntry (opc qid size11 cdw11 : Nat) : BitVec 512 := entry opc [(10, qid + 65536 * size11), (11, cdw11)]
/-- Queue 5 with side B alone; completion queue 5 of rein A. -/
def halfQueue : Sq := { queue false with qid := 5, sideA := none, sideB := some side, exec := 9 }
def withQueues (s : State) : State :=
  { s with fe := { s.fe with sqs := [(1, queue false), (5, halfQueue)], cqs := [(0, slotQueue), (5, { slotQueue with used := 1 })] } }
/-- A state whose admin command is at hand beside the queues given. -/
def handQ (e : BitVec 512) : State := { withQueues stored with fe := { (withQueues stored).fe with cmds := [(0, row true e)], sqs := [(0, queue true), (1, queue false), (5, halfQueue)] } }
theorem handQ_atHand (e : BitVec 512) : AtHand (handQ e) 0 (row true e) (queue true) side slotQueue 7 where
  row := rfl
  fresh := ⟨rfl, rfl, rfl⟩
  owes := rfl
  fetched := by decide
  queue := rfl
  side := rfl
  place := rfl
  room := by decide
  alone := ⟨rfl, rfl⟩
  runs := rfl
  queued := rfl
  awake := rfl
theorem meetsQ {opc : Nat} (e : BitVec 512) {P : State → Cmd → Prop} (w : (row true e).waits true opc = true := by decide +kernel)
    (h : P (handQ e) (row true e) := by decide +kernel) : Hand true opc P := ⟨_, _, _, _, _, _, _, handQ_atHand e, w, h⟩
def usedSqs (s : State) : Nat := (s.fe.sqs.filter fun z => !z.2.admin).length
def usedCqs (s : State) : Nat := (s.fe.cqs.filter fun z => z.1 % 65536 ≠ 0).length
theorem queues_hyps :
    Hand true 0x05 (fun _ c => qcContiguous c = false) ∧ Hand true 0x05 (fun s c => qcContiguous c = true ∧ qcQidOk c (s.ctrl c.ctrl).grantCq (usedCqs s) = false) ∧
    Hand true 0x05 (fun s c => qcContiguous c = true ∧ qcQidOk c (s.ctrl c.ctrl).grantCq (usedCqs s) = true ∧ s.cq (s.cqKey c.port (qcQid c)) = none ∧ qcSizeOk c = false) ∧
    Hand true 0x05 (fun s c => qcContiguous c = true ∧ qcQidOk c (s.ctrl c.ctrl).grantCq (usedCqs s) = true ∧ s.cq (s.cqKey c.port (qcQid c)) = none ∧ qcSizeOk c = true ∧
      bitField (dw c.entry 11) 1 1 = 1 ∧ c.port.func = 0 ∧ qcHigh c = 2048) ∧
    Hand true 0x05 (fun s c => qcContiguous c = true ∧ qcQidOk c (s.ctrl c.ctrl).grantCq (usedCqs s) = true ∧ s.cq (s.cqKey c.port (qcQid c)) = none ∧ qcSizeOk c = true ∧ qcSize c = 1024 ∧
      qcHigh c = 2047) ∧
    Hand true 0x04 (fun _ c => qcQid c = 0) ∧ Hand true 0x04 (fun s c => qcQid c ≠ 0 ∧ (s.cq (s.cqKey c.port (qcQid c))).isSome ∧ ∀ z ∈ s.fe.sqs, z.2.admin = false → z.2.side c.port.rein = none ∨ z.2.sideA = some side) ∧
    Hand true 0x01 (fun _ c => qcContiguous c = false) ∧
    Hand true 0x01 (fun s c => qcContiguous c = true ∧ ((s.sq (s.sqKey c.port (qcQid c))).bind fun w => w.side c.port.rein.other) = none ∧ qcQidOk c (s.ctrl c.ctrl).grantSq (usedSqs s) = false) ∧
    Hand true 0x01 (fun s c => qcContiguous c = true ∧ ((s.sq (s.sqKey c.port (qcQid c))).bind fun w => w.side c.port.rein) = some side ∧ side.attached = true) ∧
    Hand true 0x01 (fun s c => qcContiguous c = true ∧ s.sq (s.sqKey c.port (qcQid c)) = none ∧ qcQidOk c (s.ctrl c.ctrl).grantSq (usedSqs s) = true ∧ qcSizeOk c = false) ∧
    Hand true 0x01 (fun s c => qcContiguous c = true ∧ s.sq (s.sqKey c.port (qcQid c)) = none ∧ qcQidOk c (s.ctrl c.ctrl).grantSq (usedSqs s) = true ∧ qcSizeOk c = true ∧ qcHigh c = 0) ∧
    Hand true 0x01 (fun s c => qcContiguous c = true ∧ s.sq (s.sqKey c.port (qcQid c)) = none ∧ qcQidOk c (s.ctrl c.ctrl).grantSq (usedSqs s) = true ∧ qcSizeOk c = true ∧ qcHigh c ≠ 0 ∧
      (s.cq (s.cqKey c.port (qcHigh c))).isSome) ∧
    Hand true 0x01 (fun s c => qcContiguous c = true ∧ s.sqKey c.port (qcQid c) ≠ c.sq ∧ s.sq (s.sqKey c.port (qcQid c)) = some halfQueue ∧ qcQidOk c (s.ctrl c.ctrl).grantSq 0 = true ∧ qcSizeOk c = true ∧
      qcHigh c ≠ 0 ∧ (s.cq (s.cqKey c.port (qcHigh c))).isSome ∧ halfQueue.qsize ≠ qcSize c) ∧
    Hand true 0x01 (fun s c => qcContiguous c = true ∧ s.sqKey c.port (qcQid c) ≠ c.sq ∧ s.sq (s.sqKey c.port (qcQid c)) = some halfQueue ∧ qcQidOk c (s.ctrl c.ctrl).grantSq 0 = true ∧ qcSizeOk c = true ∧
      qcHigh c ≠ 0 ∧ (s.cq (s.cqKey c.port (qcHigh c))).isSome ∧ halfQueue.qsize = qcSize c ∧ halfQueue.prio = bitField (dw c.entry 11) 1 2) ∧
    Hand true 0x00 (fun _ c => qcQid c = 0) ∧ Hand true 0x00 (fun s c => qcQid c ≠ 0 ∧ s.sqKey c.port (qcQid c) ≠ c.sq ∧ ((s.sq (s.sqKey c.port (qcQid c))).bind fun w => w.side c.port.rein) = some side) ∧
    ((row true (entry 0x7F [])).started = false ∧ (row true (entry 0x7F [])).supported = false) ∧ ((row false (entry 0x7F [])).started = false ∧ (row false (entry 0x7F [])).supported = false) ∧
    (row true (entry 0x00 [])).supported = true :=
  ⟨meetsQ (queueEntry 0x05 9 3 0), meetsQ (queueEntry 0x05 0 3 1), meetsQ (queueEntry 0x05 9 1024 1), meetsQ (queueEntry 0x05 9 3 (3 + 2048 * 65536)), meetsQ (queueEntry 0x05 9 1023 (3 + 2047 * 65536)),
   meetsQ (queueEntry 0x04 0 0 0), meetsQ (queueEntry 0x04 5 0 0), meetsQ (queueEntry 0x01 9 3 0), meetsQ (queueEntry 0x01 0 3 1), meetsQ (queueEntry 0x01 1 15 1),
   meetsQ (queueEntry 0x01 9 0 1), meetsQ (queueEntry 0x01 9 1 1), meetsQ (queueEntry 0x01 9 1 (1 + 5 * 65536)), meetsQ (queueEntry 0x01 5 14 (1 + 5 * 65536)), meetsQ (queueEntry 0x01 5 15 (1 + 5 * 65536)),
   meetsQ (queueEntry 0x00 0 0 0), meetsQ (queueEntry 0x00 1 0 0), by decide +kernel, by decide +kernel, by decide +kernel⟩

/-- An Abort of CID 9 on I/O queue 1, beside the commands given. -/
def abortState (cs : Table Cmd) : State := { hand stored true (entry 0x08 [(10, 1 + 9 * 65536)]) with fe := { (hand stored true (entry 0x08 [(10, 1 + 9 * 65536)])).fe with cmds := (0, row true (entry 0x08 [(10, 1 + 9 * 65536)])) :: cs } }
theorem abort_atHand (cs : Table Cmd) : AtHand (abortState cs) 0 (row true (entry 0x08 [(10, 1 + 9 * 65536)])) (queue true) side slotQueue 7 where
  row := rfl
  fresh := ⟨rfl, rfl, rfl⟩
  owes := rfl
  fetched := by decide
  queue := rfl
  side := rfl
  place := rfl
  room := by decide
  alone := ⟨rfl, rfl⟩
  runs := rfl
  queued := rfl
  awake := rfl
def victim : Cmd := { row false (entry 0x02 []) with owed := [(.a, 9)], started := true }
theorem aborts_hyps : (row true (entry 0x08 [(10, 1 + 9 * 65536)])).waits true 0x08 = true ∧
    ((abortState []).fe.cmds.all fun z => z.2.admin || z.2.orphan || decide (z.2.execCid ≠ 9)) = true ∧
    (∃ s : State, ∃ y : Cmd, s.cmd 1 = some y ∧ s.sqKey y.port 1 = y.sq ∧ y.execCid = 9 ∧ y.reserved = true) ∧
    (∃ s : State, ∃ y : Cmd, s.cmd 1 = some y ∧ s.sqKey y.port 1 = y.sq ∧ y.execCid = 9 ∧ y.reserved = false ∧ y.aborted = true) ∧
    (∃ s : State, ∃ y : Cmd, s.cmd 1 = some y ∧ s.sqKey y.port 1 = y.sq ∧ y.execCid = 9 ∧ y.reserved = false ∧ y.aborted = false) ∧
    Hand true 0x0C (fun s _ => s.fe.aers = []) ∧ Hand true 0x0C (fun s c => (s.fe.aers.filter fun a => decide (a.ctrl = c.ctrl) && decide (a.rein = c.port.rein)).length = 8) ∧
    Hand true 0x0C (fun s c => s.fe.aers = [] ∧ s.fe.events = [(0, .a, ⟨2, 0, 0xC3⟩)] ∧ s.fe.isMasked c.ctrl c.port.rein 0xC3 = false) ∧
    (∃ s : State, ∃ c : Cmd, s.cmd 1 = some c ∧ c.result = none ∧ c.orphan = false ∧ c.supported = true) ∧ (∃ s : State, s.cmd 2 = none) :=
  ⟨by decide +kernel, by decide +kernel, ⟨abortState [(1, { victim with reserved := true })], { victim with reserved := true }, by decide +kernel⟩,
   ⟨abortState [(1, { victim with aborted := true })], { victim with aborted := true }, by decide +kernel⟩, ⟨abortState [(1, victim)], victim, by decide +kernel⟩,
   meets stored (entry 0x0C []), meets { stored with fe := { stored.fe with aers := (List.range 8).map fun n => ⟨n + 5, 0, .a⟩ } } (entry 0x0C []),
   meets { stored with fe := { stored.fe with events := [(0, .a, ⟨2, 0, 0xC3⟩)] } } (entry 0x0C []), ⟨abortState [(1, victim)], victim, by decide +kernel⟩, ⟨abortState [(1, victim)], by decide +kernel⟩⟩

def warm (t : ThermState) : State := { stored with therm := t }
/-- Sixteen sensors of the controller at a reading of quarters of a degree. -/
def controllerAt (x : Int) : ThermState := { ctrl := List.replicate 16 (some x), osc := some x, reserve := some x, reinA := some x, reinB := some x, chan := List.replicate 32 (some x) }
theorem sensors_hyps : (∃ s : State, s.ts.bootStep ≠ 0) ∧ (∃ s : State, s.ts.bootStep = 0) ∧ (∃ s : State, 51 ∈ s.therm.silent) ∧ (∃ s : State, 51 ∉ s.therm.silent) ∧
    (∃ s : State, s.therm.isBroken 49 = false ∧ s.therm.reading 49 = some (-240)) ∧
    (∃ s : State, ∃ x : Int, s.therm.isBroken 0 = true ∧ s.therm.reading 0 = some x ∧ inSpan x = true ∧ 0 ∉ s.therm.silent ∧ Table.getD s.therm.differs 0 0 = 0) ∧
    (∃ s : State, s.therm.isBroken 0 = false) ∧ (∃ s : State, s.therm.grace ≠ 0 ∧ s.therm.grace2 ≠ 0) ∧ (∃ s : State, s.therm.grace = 0 ∧ s.therm.enforced < 2) ∧
    (∃ s : State, s.therm.tripped = true) ∧ (∃ s : State, s.therm.tripped = false ∧ s.atTrip 0 = true ∧ natAt s.therm.tripRun 0 ≠ 0 ∧ s.dump.active.isSome ∧ s.dump.since = false) ∧
    (∃ s : State, s.therm.tripped = false ∧ s.atTrip 0 = true ∧ natAt s.therm.tripRun 0 ≠ 0 ∧ s.dump.active = none ∧ s.dump.run = none ∧ s.dump.inReset = false) ∧
    (∃ s : State, s.therm.tripped = false ∧ s.atTrip 0 = false ∧ s.atTrip 1 = false ∧ s.atTrip 2 = false) :=
  ⟨⟨stored, by decide⟩, ⟨State.reset, by decide⟩, ⟨warm { silent := [51] }, by decide⟩, ⟨stored, by decide⟩, ⟨warm (controllerAt (-240)), by decide⟩,
   ⟨warm { controllerAt 600 with brokenDie := [0] }, 600, by decide⟩, ⟨stored, by decide⟩, ⟨stored, by decide⟩, ⟨warm { grace := 0 }, by decide⟩, ⟨warm { tripped := true }, by decide⟩,
   ⟨{ warm { controllerAt 600 with tripRun := [1, 0, 0] } with dump := { stored.dump with active := some true } }, by decide +kernel⟩,
   ⟨warm { controllerAt 600 with tripRun := [1, 0, 0] }, by decide +kernel⟩, ⟨warm (controllerAt 100), by decide +kernel⟩⟩

/-- A trip whose sensors have been cool for 10 s, with these holds on the main domain. -/
def cooled (holds : List Nat) : State := { warm { controllerAt 0 with tripped := true, coolFor := 100000 } with dump := { stored.dump with holds := holds } }
theorem levels_hyps : (∃ s : State, s.therm.level ≠ 0 ∧ 10000 ≤ s.therm.below ∧ s.levelNow < s.therm.level) ∧ (∃ s : State, s.therm.level = 0) ∧ (∃ s : State, s.therm.below < 10000) ∧
    (∃ s : State, s.therm.ask1 = some 0 ∧ s.therm.enforced < 2) ∧ (∃ s : State, s.therm.ask2 = some 0 ∧ s.therm.enforced < 3) ∧ (∃ s : State, s.therm.ask1 = some 0 ∧ 2 ≤ s.therm.enforced) ∧
    (∃ s : State, s.therm.ask1 ≠ some 0 ∧ s.therm.ask2 ≠ some 0) ∧
    (∃ s : State, s.therm.tripped = true ∧ 2 ∈ s.dump.holds ∧ s.coolEnough = true ∧ 100000 ≤ s.therm.coolFor ∧ ∀ h ∈ s.dump.holds, h = 2) ∧
    (∃ s : State, s.therm.tripped = true ∧ 2 ∈ s.dump.holds ∧ s.coolEnough = true ∧ 100000 ≤ s.therm.coolFor ∧ 1 ∈ s.dump.holds ∧ s.dump.holds.filter (· ≠ 2) ≠ [5]) ∧
    (∃ s : State, s.therm.tripped = true ∧ 2 ∈ s.dump.holds ∧ s.coolEnough = true ∧ 100000 ≤ s.therm.coolFor ∧ s.dump.holds.filter (· ≠ 2) = [5]) ∧ (∃ s : State, s.therm.tripped = false) ∧
    (∃ s : State, s.therm.coolFor < 100000) ∧
    (∃ s : State, s.therm.reserveGood = some (-160)) ∧ (∃ s : State, s.therm.reserveGood = none) :=
  ⟨⟨warm { controllerAt 100 with level := 3, below := 10000 }, by decide +kernel⟩, ⟨stored, by decide⟩, ⟨stored, by decide⟩, ⟨warm { ask1 := some 0 }, by decide⟩, ⟨warm { ask2 := some 0, enforced := 2 }, by decide⟩,
   ⟨warm { ask1 := some 0, enforced := 2 }, by decide⟩, ⟨warm { ask1 := some 1 }, by decide⟩,
   ⟨cooled [2], by decide +kernel⟩, ⟨cooled [1, 2], by decide +kernel⟩, ⟨cooled [2, 5], by decide +kernel⟩, ⟨stored, by decide⟩, ⟨stored, by decide⟩,
   ⟨warm { reserveGood := some (-160) }, by decide⟩, ⟨stored, by decide⟩⟩

def faulty (f : FaultState) : State := { stored with fault := f }
def report (sev steps : Nat) : Report := ⟨0x0201, sev, steps⟩
theorem reports_hyps : (∃ s : State, s.fault.stop.isSome) ∧ (∃ s : State, s.fault.stop = none ∧ s.dump.inReset = false ∧ s.ts.bootStep = 6) ∧
    (∃ s : State, s.fault.stop = none ∧ s.dump.inReset = false ∧ 7 ≤ s.ts.bootStep ∧ s.dump.run = none ∧ s.fault.fatal = none ∧ s.fault.inHand = none ∧ s.fault.queue = [] ∧ s.fault.preempted = [] ∧
      s.fault.overflow = false) ∧
    (∃ s : State, s.fault.stop = none ∧ s.dump.run = none ∧ s.fault.fatal = none ∧ s.fault.inHand = some (report 2 0) ∧ s.fault.queue.length = 15) ∧
    (∃ s : State, s.fault.stop = none ∧ s.dump.run = none ∧ s.fault.fatal = none ∧ s.fault.inHand = some (report 2 0) ∧ s.fault.queue.length = 16 ∧ (s.fault.queue.map (·.sev)).foldl min 4 = 2) ∧
    (∃ s : State, s.fault.stop = none ∧ s.dump.run = none ∧ s.fault.fatal = none ∧ s.fault.inHand = some (report 2 0) ∧ s.fault.queue.length = 16 ∧ (s.fault.queue.map (·.sev)).foldl min 4 = 4) ∧
    (∃ s : State, s.fault.stop = none ∧ s.dump.inReset = false ∧ s.dump.run = none ∧ s.fault.fatal.isSome) ∧
    (∃ s : State, s.fault.stop = none ∧ s.dump.inReset = false ∧ s.dump.run.isSome ∧ s.fault.queue.length < 16) :=
  ⟨⟨faulty { stop := some default }, by decide⟩, ⟨{ stored with ts := { stored.ts with bootStep := 6 } }, by decide⟩, ⟨stored, by decide⟩,
   ⟨faulty { inHand := some (report 2 0), queue := List.replicate 15 (report 2 0) }, by decide⟩, ⟨faulty { inHand := some (report 2 0), queue := List.replicate 16 (report 2 0) }, by decide⟩,
   ⟨faulty { inHand := some (report 2 0), queue := List.replicate 16 (report 4 0) }, by decide⟩, ⟨faulty { fatal := some 0x0201 }, by decide⟩,
   ⟨{ stored with dump := { stored.dump with run := some dumpRun } }, by decide⟩⟩

def inHand (r : Report) (f : FaultState) : State := faulty { f with inHand := some r }
theorem steps_hyps : (∃ s : State, s.fault.inHand = none) ∧
    (∃ s : State, ∃ r : Report, s.fault.stop = none ∧ s.fault.fatal = none ∧ s.dump.run = none ∧ s.dump.inReset = false ∧ s.fault.inHand = some r ∧ r.steps + 1 < r.allSteps ∧ s.fault.topSev ≤ r.sev ∧
      r.steps = 2) ∧
    (∃ s : State, ∃ r : Report, s.fault.stop = none ∧ s.fault.fatal = none ∧ s.dump.run = none ∧ s.dump.inReset = false ∧ s.fault.inHand = some r ∧ r.allSteps ≤ r.steps + 1 ∧ r.code ≠ 0x0102 ∧
      s.fault.topSev = 0) ∧
    (∃ s : State, ∃ r : Report, s.fault.stop = none ∧ s.fault.fatal = none ∧ s.dump.run = none ∧ s.fault.inHand = some r ∧ r.allSteps ≤ r.steps + 1 ∧ r.code = 0x0102 ∧ s.fault.queue = [] ∧
      s.fault.preempted = []) ∧
    (∃ s : State, ∃ r x : Report, ∃ f : FaultState, s.fault.inHand = some r ∧ r.allSteps ≤ r.steps + 1 ∧ r.code ≠ 0x0102 ∧ s.fault.overflow = false ∧ s.fault.next = some (x, f) ∧ x.sev ≠ 4) ∧
    (∃ s : State, ∃ r x : Report, ∃ f : FaultState, s.fault.inHand = some r ∧ r.steps + 1 < r.allSteps ∧ r.sev < s.fault.topSev ∧ s.fault.next = some (x, f) ∧ x.sev ≠ 4 ∧ s.fault.overflow = false) ∧
    (∃ s : State, s.fault.fatal = some 0x0E09 ∧ s.fault.stop = none) ∧ (∃ s : State, s.fault.fatal = none) ∧
    (∃ s : State, s.wheel.stopped = false ∧ s.ts.bootStep ≠ 0 ∧ s.dump.inReset = false ∧ s.fault.stop = none) ∧
    (∃ s : State, s.wheel.stopped = false ∧ s.ts.bootStep ≠ 0 ∧ s.dump.inReset = false ∧ s.fault.stop.isSome) ∧ (∃ s : State, s.wheel.stopped = true) ∧ (∃ s : State, s.teethPass = true) ∧
    (∃ s : State, s.teethPass = false) ∧ (∃ s : State, s.pkg.vddIo = true) ∧ (∃ s : State, s.pkg.vddIo = false) :=
  ⟨⟨stored, by decide⟩, ⟨inHand (report 3 2) {}, report 3 2, by decide⟩, ⟨inHand (report 2 1) {}, report 2 1, by decide⟩, ⟨inHand ⟨0x0102, 2, 1⟩ { overflow := true }, ⟨0x0102, 2, 1⟩, by decide⟩,
   ⟨inHand (report 2 1) { queue := [report 3 0] }, report 2 1, report 3 0, { inHand := some (report 2 1) }, by decide⟩,
   ⟨inHand (report 2 0) { queue := [report 3 0] }, report 2 0, report 3 0, { inHand := some (report 2 0) }, by decide⟩,
   ⟨faulty { fatal := some 0x0E09 }, by decide⟩, ⟨stored, by decide⟩, ⟨stored, by decide⟩, ⟨faulty { stop := some default }, by decide⟩, ⟨{ stored with wheel := { stopped := true } }, by decide⟩,
   ⟨stored, by decide⟩, ⟨State.reset, by decide⟩, ⟨stored, by decide⟩, ⟨{ stored with pkg := { stored.pkg with vddIo := false } }, by decide⟩⟩
/-- A creation that fits, and an entry of a namespace command with its SEL. -/
def creation : NsCreate := { nsze := 8, flbas := 1, piType := 0, handles := [] }
def second (s : State) : State := { s with fe := { s.fe with spaces := [(1, space), (2, { space with nsx := 1, attached := [] })] } }
theorem namespaces_hyps : Hand true 0x0D (fun s c => bitField (dw c.entry 10) 0 4 = 0 ∧ formatOk (creation.flbas % 16) creation.piType = true ∧ s.dirsFit 0 (dirEntries creation.nsze creation.flbas) = true ∧
      s.freeNsx = some 1 ∧ s.freeNsid = some 2 ∧ (s.keySlot 1).kind = 0 ∧ (s.keySlot 1).revoking = false) ∧
    formatOk 4 0 = false ∧ formatOk 1 1 = false ∧ formatOk 2 1 = true ∧ (stored.dirsFit 0 1048577) = false ∧
    Hand true 0x0D (fun s c => bitField (dw c.entry 10) 0 4 = 1 ∧ sqeNsid c.entry ≠ broadcast ∧ Table.find s.fe.spaces (sqeNsid c.entry) = none) ∧
    Hand true 0x0D (fun s c => bitField (dw c.entry 10) 0 4 = 1 ∧ Table.find s.fe.spaces (sqeNsid c.entry) = some space ∧ s.fe.jobs = []) ∧
    Hand true 0x0D (fun _ c => bitField (dw c.entry 10) 0 4 = 1 ∧ sqeNsid c.entry = broadcast) ∧
    Hand true 0x15 (fun s c => bitField (dw c.entry 10) 0 4 = 0 ∧ Table.find s.fe.spaces (sqeNsid c.entry) = none) ∧
    Hand true 0x15 (fun s c => bitField (dw c.entry 10) 0 4 = 0 ∧ Table.find s.fe.spaces (sqeNsid c.entry) = some space ∧ 128 ∉ s.controllers ∧ 0 ∈ s.controllers ∧ 0 ∈ space.attached ∧ 1 ∈ s.controllers ∧ 1 ∉ space.attached) ∧
    Hand true 0x15 (fun s c => bitField (dw c.entry 10) 0 4 = 1 ∧ Table.find s.fe.spaces (sqeNsid c.entry) = some space ∧ 0 ∈ s.controllers ∧ 0 ∈ space.attached) ∧
    Hand true 0x86 (fun s c => s.attachedSpace c.ctrl (sqeNsid c.entry) = none) ∧ Hand true 0x86 (fun s c => s.attachedSpace c.ctrl (sqeNsid c.entry) = some space ∧ space.nsze ≤ dw c.entry 10) ∧
    Hand true 0x86 (fun s c => s.attachedSpace c.ctrl (sqeNsid c.entry) = some space ∧ dw c.entry 10 + 2 ^ 32 * dw c.entry 11 = 7 ∧ 7 < space.nsze) :=
  ⟨meets stored (entry 0x0D []), by decide, by decide, by decide, by decide +kernel, meets stored (entry 0x0D [(10, 1), (1, 1)]), meets stored (entry 0x0D [(10, 1)]),
   meets stored (entry 0x0D [(10, 1), (1, 0xFFFFFFFE)]), meets stored (entry 0x15 [(1, 1)]), meets stored (entry 0x15 []), meets stored (entry 0x15 [(10, 1)]), meets (second stored) (entry 0x86 [(1, 1)]),
   meets stored (entry 0x86 [(10, 8)]), meets stored (entry 0x86 [(10, 7)])⟩

theorem tests_hyps : Hand true 0x14 (fun s c => bitField (dw c.entry 10) 0 4 = 1 ∧ s.fe.test.isSome) ∧ Hand true 0x14 (fun s c => bitField (dw c.entry 10) 0 4 = 1 ∧ s.fe.test = none ∧ (s.attachedSpace c.ctrl (sqeNsid c.entry)).isSome) ∧
    Hand true 0x14 (fun s c => bitField (dw c.entry 10) 0 4 = 2 ∧ s.fe.test = none ∧ sqeNsid c.entry = broadcast) ∧ Hand true 0x14 (fun s c => bitField (dw c.entry 10) 0 4 = 2 ∧ s.fe.test = none ∧ sqeNsid c.entry ≠ 0 ∧ sqeNsid c.entry ≠ broadcast ∧ s.attachedSpace c.ctrl (sqeNsid c.entry) = none) ∧
    Hand true 0x14 (fun s c => bitField (dw c.entry 10) 0 4 = 15 ∧ s.fe.test = none) ∧ Hand true 0x14 (fun s c => bitField (dw c.entry 10) 0 4 = 15 ∧ s.fe.test = some default) ∧
    Hand true 0x80 (fun s c => fmtSes c = 1 ∧ s.formatSpaces c = [] ∧ sqeNsid c.entry ≠ broadcast) ∧ Hand true 0x80 (fun s c => fmtSes c = 0 ∧ s.formatSpaces c = [(1, space)] ∧ s.fe.sanitize.isSome) ∧
    Hand true 0x80 (fun s c => fmtSes c = 0 ∧ s.formatSpaces c = [(1, space)] ∧ s.fe.sanitize = none ∧ formatOk (fmtLbaf c) (fmtPi c) = false) ∧
    Hand true 0x80 (fun s c => fmtSes c = 0 ∧ s.formatSpaces c = [(1, space)] ∧ s.fe.sanitize = none ∧ formatOk (fmtLbaf c) (fmtPi c) = true ∧ fmtPi c = 4) ∧
    Hand true 0x80 (fun s c => fmtSes c = 1 ∧ s.formatSpaces c = [(1, space)] ∧ s.fe.sanitize = none ∧ formatOk (fmtLbaf c) (fmtPi c) = true ∧ fmtPi c = 3 ∧
      s.dirsFit (dirEntries space.nsze space.flbas) (dirEntries space.nsze (fmtFlbas c)) = true) ∧
    Hand true 0x80 (fun s c => fmtSes c = 2 ∧ s.formatSpaces c = [(1, space)] ∧ s.fe.sanitize = none ∧ formatOk (fmtLbaf c) (fmtPi c) = true ∧ fmtPi c = 0 ∧ (s.keySlot space.slot).kind = 2) ∧
    Hand true 0x80 (fun s c => fmtSes c = 2 ∧ s.formatSpaces c = [(1, space)] ∧ s.fe.sanitize = none ∧ formatOk (fmtLbaf c) (fmtPi c) = true ∧ fmtPi c = 0 ∧ (s.keySlot space.slot).kind ≠ 2 ∧ space.slot < 4096) ∧
    Hand true 0x84 (fun s c => bitField (dw c.entry 10) 0 3 = 2 ∧ s.fe.sanitize.isSome) ∧ Hand true 0x84 (fun s c => bitField (dw c.entry 10) 0 3 = 2 ∧ s.fe.sanitize = none) ∧
    Hand true 0x84 (fun s c => bitField (dw c.entry 10) 0 3 = 4 ∧ s.fe.sanitize = none) ∧ Hand true 0x84 (fun s c => bitField (dw c.entry 10) 0 3 = 1 ∧ s.fe.sanitize = none) ∧
    Hand true 0x84 (fun _ c => bitField (dw c.entry 10) 0 3 = 3) :=
  ⟨meets { stored with fe := { stored.fe with test := some default } } (entry 0x14 [(10, 1)]), meets stored (entry 0x14 [(10, 1)]), meets stored (entry 0x14 [(10, 2), (1, 0xFFFFFFFE)]), meets stored (entry 0x14 [(10, 2), (1, 1)]),
   meets stored (entry 0x14 [(10, 15)]), meets { stored with fe := { stored.fe with test := some default } } (entry 0x14 [(10, 15)]), meets stored (entry 0x80 [(10, 512), (1, 1)]),
   meets { stored with fe := { stored.fe with sanitize := some ⟨false, [], false⟩ } } (entry 0x80 []), meets stored (entry 0x80 [(10, 4)]), meets stored (entry 0x80 [(10, 2 + 4 * 32)]), meets stored (entry 0x80 [(10, 2 + 3 * 32 + 512)]),
   meets { stored with cipher := { stored.cipher with slots := [(0, { dataSlot with kind := 2 })] } } (entry 0x80 [(10, 1 + 1024)]), meets stored (entry 0x80 [(10, 1 + 1024)]),
   meets { stored with fe := { stored.fe with sanitize := some ⟨false, [], false⟩ } } (entry 0x84 [(10, 2)]), meets stored (entry 0x84 [(10, 2)]), meets stored (entry 0x84 [(10, 4)]), meets stored (entry 0x84 [(10, 1)]),
   meets stored (entry 0x84 [(10, 3)])⟩

/-- The namespace with 512-byte blocks and protection type 1 on metadata of 8 bytes. -/
def guarded : Namespace := { space with flbas := 2, piType := 1 }
def guardedState : State := { stored with fe := { stored.fe with spaces := [(1, guarded)] } }
def readOnly : State := { stored with blk := { stored.blk with readOnly := true } }
def placed : State := { stored with map := { stored.map with fdp := true }, fe := { stored.fe with spaces := [(1, { space with handles := [3, 1] })] } }
def keyless : State := { stored with cipher := { stored.cipher with slots := [] } }
def purposed : State := { stored with cipher := { stored.cipher with slots := [(0, { dataSlot with purpose := 3 })] } }
/-- A window that is full. -/
def full : State := { stored with wb := { stored.wb with dirty := stored.windowGran } }
theorem writes_hyps : Hand false 0x00 (fun _ _ => True) ∧ Hand false 0x01 (fun s c => s.writeWaits c = true) ∧ Hand false 0x01 (fun s c => s.writeWaits c = false ∧ s.cmdSpace c = none) ∧
    Hand false 0x01 (fun s c => s.writeWaits c = false ∧ s.cmdSpace c = some space ∧ s.writeProtected = true) ∧
    Hand false 0x01 (fun s c => s.writeWaits c = false ∧ (s.cmdSpace c).bind (s.placeStream · c) = none ∧ (s.cmdSpace c).isSome ∧ s.writeProtected = false) ∧
    Hand false 0x01 (fun s c => s.writeWaits c = false ∧ (s.cmdSpace c).bind (s.placeStream · c) = some 1 ∧ s.writeProtected = false) ∧
    Hand false 0x01 (fun s c => s.writeWaits c = false ∧ s.cmdSpace c = some space ∧ s.writeProtected = false ∧ s.placeStream space c = some 0 ∧ s.keyServes space = some (stat 7 0xC3)) ∧
    Hand false 0x01 (fun s c => s.writeWaits c = false ∧ s.cmdSpace c = some space ∧ s.writeProtected = false ∧ s.placeStream space c = some 0 ∧ s.keyServes space = some invalidField) ∧
    Hand false 0x01 (fun s c => s.writeWaits c = false ∧ s.cmdSpace c = some guarded ∧ s.writeProtected = false ∧ s.placeStream guarded c = some 0 ∧ s.keyServes guarded = none ∧ (writeCheck guarded c [] []).isSome) ∧
    Hand false 0x01 (fun s c => s.writeWaits c = false ∧ s.cmdSpace c = some space ∧ s.writeProtected = false ∧ s.placeStream space c = some 0 ∧ s.keyServes space = none ∧ writeCheck space c [] [] = none) ∧
    Hand false 0x08 (fun s c => s.cmdSpace c = none) ∧ Hand false 0x08 (fun s c => s.cmdSpace c = some space ∧ s.writeProtected = true) ∧
    Hand false 0x08 (fun s c => s.cmdSpace c = some space ∧ s.writeProtected = false ∧ s.keyServes space = some (stat 7 0xC3)) ∧
    Hand false 0x08 (fun s c => s.cmdSpace c = some guarded ∧ s.writeProtected = false ∧ s.keyServes guarded = none ∧ guarded.hasTags = true ∧ cmdPract c = true) ∧
    Hand false 0x08 (fun s c => s.cmdSpace c = some guarded ∧ s.writeProtected = false ∧ s.keyServes guarded = none ∧ cmdPract c = false) ∧
    (∃ z, (unitSpans space 7 1)[0]? = some z) :=
  ⟨meets stored (entry 0x00 []), meets full (entry 0x01 []), meets stored (entry 0x01 [(1, 1)]), meets readOnly (entry 0x01 []), meets placed (entry 0x01 [(12, 0x200000), (13, 0x20000)]), meets placed (entry 0x01 [(12, 0x200000), (13, 0x10000)]),
   meets keyless (entry 0x01 []), meets purposed (entry 0x01 []), meets guardedState (entry 0x01 [(12, 0x08000000), (15, 0xFFFF0001)]), meets stored (entry 0x01 [(10, 7)]), meets stored (entry 0x08 [(1, 1)]), meets readOnly (entry 0x08 []),
   meets keyless (entry 0x08 []), meets guardedState (entry 0x08 [(12, 0x20000000)]), meets guardedState (entry 0x08 []), _, rfl⟩

theorem reads_hyps : Hand false 0x02 (fun s c => s.cmdSpace c = none) ∧ Hand false 0x02 (fun s c => s.cmdSpace c = some space ∧ s.keyServes space = some (stat 7 0xC3)) ∧
    Hand false 0x02 (fun s c => s.cmdSpace c = some space ∧ s.keyServes space = none) ∧ Hand false 0x05 (fun s c => s.cmdSpace c = none) ∧
    Hand false 0x05 (fun s c => s.cmdSpace c = some space ∧ s.keyServes space = some invalidField) ∧ Hand false 0x05 (fun s c => s.cmdSpace c = some space ∧ s.keyServes space = none) ∧
    Hand false 0x0C (fun s c => s.cmdSpace c = none) ∧ Hand false 0x0C (fun s c => s.cmdSpace c = some space ∧ s.keyServes space = some (stat 7 0xC3)) ∧
    Hand false 0x0C (fun s c => s.cmdSpace c = some space ∧ s.keyServes space = none) ∧ space.hasTags = false ∧
    (∃ at_, (readLayout guarded (row false (entry 0x02 [])) 0).2 = some at_ ∧ 0 < sqeNlb (row false (entry 0x02 [])).entry) :=
  ⟨meets stored (entry 0x02 [(1, 1)]), meets keyless (entry 0x02 []), meets stored (entry 0x02 []), meets stored (entry 0x05 [(1, 1)]), meets purposed (entry 0x05 []), meets stored (entry 0x05 []),
   meets stored (entry 0x0C [(1, 1)]), meets keyless (entry 0x0C []), meets stored (entry 0x0C []), by decide, 4096, by decide +kernel⟩

def handles2 : Namespace := { space with handles := [3, 1] }
theorem discards_hyps : Hand false 0x09 (fun s c => bitField (dw c.entry 11) 2 1 = 1 ∧ s.cmdSpace c = none) ∧
    Hand false 0x09 (fun s c => bitField (dw c.entry 11) 2 1 = 1 ∧ s.cmdSpace c = some space ∧ rangesBeyond space (cmdRanges c [⟨7, 2⟩]) = true ∧ rangesBeyond space (cmdRanges c [⟨7, 1⟩]) = false) ∧
    (∃ u : State, ∃ d : Cmd, u.cmd 0 = some d ∧ d.result = none ∧ Table.find u.fe.late 0 = none ∧ d.units = []) ∧
    (∃ u : State, ∃ d : Cmd, u.cmd 0 = some d ∧ d.result = none ∧ Table.find u.fe.late 0 = none ∧ d.units = [3]) ∧
    Hand false 0x09 (fun s c => bitField (dw c.entry 11) 2 1 = 0 ∧ s.cmdSpace c = none) ∧ Hand false 0x09 (fun s c => bitField (dw c.entry 11) 2 1 = 0 ∧ s.cmdSpace c = some space) ∧
    Hand false 0x89 (fun s c => s.cmdSpace c = none) ∧ Hand false 0x89 (fun s c => s.cmdSpace c = some space ∧ s.writeProtected = true) ∧
    Hand false 0x89 (fun s c => s.cmdSpace c = some space ∧ s.writeProtected = false ∧ rangesBeyond space (cmdRanges c [⟨8, 1⟩]) = true) ∧
    Hand false 0x89 (fun s c => s.cmdSpace c = some space ∧ s.writeProtected = false ∧ rangesBeyond space (cmdRanges c [⟨7, 1⟩]) = false ∧ s.jobsTaken = 16) ∧
    Hand false 0x89 (fun s c => s.cmdSpace c = some space ∧ s.writeProtected = false ∧ rangesBeyond space (cmdRanges c [⟨7, 1⟩]) = false ∧ s.jobsTaken = 15) ∧
    Hand false 0x12 (fun s c => s.cmdSpace c = none) ∧ Hand false 0x12 (fun s c => s.cmdSpace c = some space ∧ s.map.fdp = false) ∧ Hand false 0x12 (fun s c => s.cmdSpace c = some handles2 ∧ s.map.fdp = true) ∧
    Hand false 0x1D (fun s c => s.cmdSpace c = none) ∧ Hand false 0x1D (fun s c => s.cmdSpace c = some space ∧ s.map.fdp = false) ∧
    Hand false 0x1D (fun s c => s.cmdSpace c = some handles2 ∧ s.map.fdp = true ∧ bitField (dw c.entry 10) 16 16 + 1 = 2) :=
  ⟨meets stored (entry 0x09 [(11, 4), (1, 1)]), meets stored (entry 0x09 [(11, 4)]), ⟨hand stored false (entry 0x09 []), row false (entry 0x09 []), by decide +kernel⟩,
   ⟨abortState [] |> fun s => { s with fe := { s.fe with cmds := [(0, { row false (entry 0x09 []) with units := [3] })] } }, { row false (entry 0x09 []) with units := [3] }, by decide +kernel⟩,
   meets stored (entry 0x09 [(1, 1)]), meets stored (entry 0x09 []), meets stored (entry 0x89 [(1, 1)]), meets readOnly (entry 0x89 []), meets stored (entry 0x89 []),
   meets { stored with fe := { stored.fe with late := (List.range 16).map fun i => (i + 8, .discard 0 []) } } (entry 0x89 []),
   meets { stored with fe := { stored.fe with late := (List.range 15).map fun i => (i + 8, .discard 0 []) } } (entry 0x89 []), meets stored (entry 0x12 [(1, 1)]), meets stored (entry 0x12 []),
   meets placed (entry 0x12 []), meets stored (entry 0x1D [(1, 1)]), meets stored (entry 0x1D []), meets placed (entry 0x1D [(10, 65536)])⟩

def skiving (k : SkiverState) : State := { stored with skv := k }
def context : SkiveCtx := { (default : SkiveCtx) with ctrl := 0, decode := false, wmax := 268 }
/-- A chain of one descriptor of 4,096 bytes, the last. -/
def chain : List (BitVec 128) := [BitVec.ofNat 128 (4096 * 2 ^ 64 + 2 ^ 97)]
theorem streams_hyps : (∃ s : State, ∃ c d : Cmd, s.cmd 1 = some c ∧ (0, d) ∈ s.fe.cmds ∧ d.result = none ∧ d.ctx? = some (skCtx c)) ∧
    Hand false 0x83 (fun s c => (s.streamRefused c false []) = some sequenceError) ∧ Hand false 0x83 (fun s c => (s.streamRefused c false chain) = none ∧ skDest c = false ∧ skStart c = true) ∧
    Hand false 0x83 (fun s c => (s.streamRefused c false []) = none ∧ skDest c = true ∧ s.cmdSpace c = some space) ∧ Hand false 0x83 (fun s c => (s.streamRefused c false []) = some invalidField ∧ skDest c = true) ∧
    Hand false 0x87 (fun s c => (s.streamRefused c true chain) = none ∧ skDest c = false ∧ skStart c = true) ∧ Hand false 0x87 (fun s c => (s.streamRefused c true []) = some sequenceError ∧ skStart c = false) :=
  ⟨⟨hand (abortState [(1, row false (entry 0x83 [(10, 15)]))]) false (entry 0x83 [(10, 15)]) |> fun s => { s with fe := { s.fe with cmds := s.fe.cmds ++ [(1, row false (entry 0x83 [(10, 15)]))] } },
    row false (entry 0x83 [(10, 15)]), row false (entry 0x83 [(10, 15)]), by decide +kernel⟩,
   meets (skiving { comps := [0] }) (entry 0x83 []), meets (skiving { comps := [0] }) (entry 0x83 [(10, 1024 + 7 * 4096)]), meets (skiving { comps := [0] }) (entry 0x83 [(10, 2048 + 1024 + 512 + 7 * 4096)]),
   meets (skiving { comps := [0] }) (entry 0x83 [(10, 2048)]), meets (skiving { decomps := [0] }) (entry 0x87 [(10, 1024)]), meets (skiving { decomps := [0] }) (entry 0x87 [])⟩

def dramOf (d : DramState) : State := { stored with dram := d }
/-- Eight channels of one rank each, 64 GiB. -/
def fitted : DramState := { gib := 64, ranksPer := 1 }
def rank0 (r : Rank) : DramState := { fitted with ranks := [(rankKey (stored.img.dramAt 0).ch (stored.img.dramAt 0).rank, r)] }
def held : McReq := ⟨0, 0, 0, 0⟩
theorem bursts_hyps : (∃ s : State, s.dramBytes ≤ 0) ∧ (∃ s : State, 0 < s.dramBytes ∧ (s.rank (rankKey (s.img.dramAt 0).ch (s.img.dramAt 0).rank)).retired.isSome) ∧
    (∃ s : State, ∃ b : List Nat, 0 < s.dramBytes ∧ b = ([79, 79, 3, 80].filter (· < 80)).eraseDups ∧ b ≠ [] ∧ b.length ≤ 4 ∧ (s.rank (rankKey (s.img.dramAt 0).ch (s.img.dramAt 0).rank)).retired = none ∧
      (s.rank (rankKey (s.img.dramAt 0).ch (s.img.dramAt 0).rank)).lanes.length = 5) ∧
    (∃ s : State, ∃ b : List Nat, 0 < s.dramBytes ∧ b = ([0, 4, 8, 12].filter (· < 80)).eraseDups ∧ b.length = 4 ∧ ∀ x ∈ b, laneOf x = 0) ∧
    ((List.range 5).filter (· < 80)).eraseDups.length = 5 ∧ ((List.range 12).filter (· < 80)).eraseDups.length = 12 ∧
    (∃ s : State, ∃ g : Nat, (s.seg g).alloc = true) ∧
    (∃ s : State, ∃ r : SetRec, (Table.find s.girth.sets 3).isSome ∧
      Table.find (((s.pagesInOrder.flatMap fun p => p.entries ++ p.refresh) ++ s.girth.ledgerNew).foldl LedgerView.take {}).sets 3 = some r) ∧
    (∃ s : State, s.dram.scrub * 64 < s.dramBytes ∧ s.dram.changing = false ∧ s.waitingReads ++ s.waitingWrites = []) ∧ (∃ s : State, s.dram.changing = true) ∧
    (∃ s : State, s.dram.scrub * 64 + 64 = s.dramBytes) ∧ (∃ s : State, s.dram.gib ≠ 0 ∧ s.dram.laneRound + s.img.retireRounds ≤ s.obs.rounds) ∧ (∃ s : State, s.dram.gib = 0) :=
  ⟨⟨dramOf {}, by decide⟩, ⟨dramOf (rank0 { retired := some 4 }), by decide +kernel⟩, ⟨dramOf fitted, [79, 3], by decide +kernel⟩, ⟨dramOf fitted, [0, 4, 8, 12], by decide +kernel⟩, by decide, by decide,
   ⟨{ stored with map := { stored.map with segs := [(3, { alloc := true })] } }, 3, by decide⟩, ⟨{ stored with girth := { stored.girth with sets := [(3, { state := 1 })], ledgerNew := [.setOpen 3 { state := 1 }] } }, _, rfl, rfl⟩,
   ⟨dramOf fitted, by decide +kernel⟩, ⟨dramOf { changing := true }, by decide⟩,
   ⟨dramOf { fitted with scrub := 1073741823 }, by decide +kernel⟩, ⟨{ dramOf fitted with obs := { stored.obs with rounds := 10 ^ 12 } }, by decide +kernel⟩, ⟨dramOf {}, by decide⟩⟩

/-- A geometry of 17 row bits; a miss register holds line 0 of the map cache. -/
def missing (d : DramState) : State := { dramOf d with img := { stored.img with dram := barebackDram false 17 }, mc := { banks := [(0, { miss := some held })] } }
theorem refreshes_hyps : (∃ s : State, s.bankFitted 7 0 15 = true ∧ (s.rank (rankKey 7 0)).power ≠ 2 ∧ s.dram.changing = false ∧ ∀ y ∈ s.waitingReads, s.inBank 7 0 15 y = false) ∧
    (∃ s : State, ∃ ch rank bank : Nat, s.bankFitted ch rank bank = true ∧ (∃ y ∈ s.waitingReads, s.inBank ch rank bank y = true) ∧ natAt (s.rank (rankKey ch rank)).postponed bank < 4) ∧
    (∃ s : State, s.bankFitted 8 0 15 = false) ∧ (∃ s : State, s.bankFitted 7 0 15 = true ∧ Table.getD (s.rank (rankKey 7 0)).neighbour 15 [] = [5, 7]) ∧
    (∃ s : State, s.bankFitted 7 0 15 = true ∧ (s.rank (rankKey 7 0)).neighbour = []) ∧
    (∃ s : State, s.bankFitted 7 0 0 = true ∧ s.waitingReads ++ s.waitingWrites = [] ∧ (∀ n ∈ (s.rank 14).postponed, n = 0) ∧ s.fe.ps4 ≠ 2 ∧ (s.rank 14).power = 0) ∧
    (∃ s : State, s.bankFitted 7 0 0 = true ∧ s.waitingReads ++ s.waitingWrites = [] ∧ s.fe.ps4 = 2) ∧ (∃ s : State, s.fe.ps4 ≠ 2 ∧ 0 < s.img.pdIdle) :=
  ⟨⟨dramOf fitted, by decide +kernel⟩,
   ⟨missing fitted, ((missing fitted).img.dramAt (lineAddr 0)).ch, 0, ((missing fitted).img.dramAt (lineAddr 0)).bank, by decide +kernel⟩,
   ⟨dramOf fitted, by decide +kernel⟩, ⟨dramOf { fitted with ranks := [(14, { neighbour := [(15, [5, 7])] })] }, by decide +kernel⟩, ⟨dramOf fitted, by decide +kernel⟩, ⟨dramOf fitted, by decide +kernel⟩,
   ⟨{ dramOf fitted with fe := { stored.fe with ps4 := 2 } }, by decide +kernel⟩, ⟨dramOf fitted, by decide +kernel⟩⟩

def cached (k : McBank) : State := { stored with mc := { banks := [(0, k)] } }
theorem cache_hyps : (∃ s : State, (s.bank 0).miss = some held ∧ (s.bank 0).fillWaits held = true ∧ (s.bank 0).en = true) ∧ (∃ s : State, (s.bank 0).miss = none) ∧
    (∃ s : State, (s.bank 0).miss = some held ∧ (s.bank 0).queue = [] ∧ (s.bank 0).draining = false ∧ (s.bank 0).en = true ∧ (s.bank 0).fillWaits held = false) ∧
    (∃ s : State, (s.bank 0).miss = some held ∧ (s.bank 0).queue = [] ∧ (s.bank 0).draining = false ∧ (s.bank 0).en = false) ∧
    (∃ s : State, (s.bank 0).wbb = []) ∧ (∃ s : State, (s.bank 0).wbb = [7, 8] ∧ (s.bank 0).draining = false ∧ (s.bank 0).queue = []) ∧ (∃ s : State, (s.bank 0).wbb = [7] ∧ (s.bank 0).draining = true ∧ s.dram.changing = false ∧ (s.bank 0).queue = [] ∧ (s.bank 0).dirtyLines 0 = []) ∧
    (∃ s : State, (s.bank 0).en = true ∧ (s.bank 0).draining = false ∧ s.dram.changing = false ∧ (s.bank 0).wbb = [] ∧ (s.bank 0).dirtyLines 0 = []) ∧ (∃ s : State, (s.bank 0).en = false) ∧ (∃ s : State, (s.bank 0).out = true) ∧
    (∃ s : State, (s.bank 0).events + 1 = 16) ∧ bankOf 0 = 0 ∧ (∃ s : State, (s.bank 0).holds 0 = true ∧ (s.bank 0).isDirty 0 = true) :=
  ⟨⟨cached { miss := some held, tags := (List.range 16).map fun w => (w, ⟨w + 1, true, true⟩), wbb := [1, 2, 3, 4, 5, 6, 7, 8] }, by decide +kernel⟩, ⟨stored, by decide⟩, ⟨cached { miss := some held }, by decide +kernel⟩,
   ⟨cached { miss := some held, en := false }, by decide +kernel⟩, ⟨stored, by decide⟩, ⟨cached { wbb := [7, 8] }, by decide⟩, ⟨cached { wbb := [7], draining := true }, by decide +kernel⟩, ⟨stored, by decide +kernel⟩,
   ⟨cached { en := false }, by decide⟩, ⟨cached { out := true }, by decide⟩, ⟨cached { events := 15 }, by decide⟩, by decide +kernel, ⟨cached { tags := [(5, ⟨0, true, true⟩)] }, by decide +kernel⟩⟩

/-- A descriptor: source space and address 0, destination space and address, length, HIGH 16, LOW 15. -/
def desc (srcSpace dst dstSpace : Nat) (paced : Bool) (len : Nat) : BitVec 256 :=
  BitVec.ofNat 256 (srcSpace * 2 ^ 40 + dst * 2 ^ 48 + dstSpace * 2 ^ 88 + (if paced then 2 ^ 90 else 0) + len * 2 ^ 96 + 16 * 2 ^ 120 + 15 * 2 ^ 125)
def dma (ds : DmaState) : State := { stored with dma := ds }
def granted (c : DmaCh) : State := dma { chans := [(59, c)], granted := some 59 }
theorem dma_hyps : (∃ s : State, (s.dmaCh 59).ring.length = 7 ∧ (s.dmaCh 59).aborting = false) ∧ (∃ s : State, (s.dmaCh 59).ring.length = 8) ∧ (∃ s : State, s.dma.granted = none) ∧
    (∃ s : State, s.dma.granted = some 59 ∧ (s.dmaCh 59).ring = [desc 0 0 0 false 512] ∧ (s.dmaCh 59).aborting = false ∧ (s.dmaCh 59).done = 0 ∧ descLength (desc 0 0 0 false 512) ≤ 0 + 512 ∧
      descSrcSpace (desc 0 0 0 false 512) = 0 ∧ descPaced (desc 0 0 0 false 512) = false) ∧
    (∃ s : State, s.dma.granted = some 59 ∧ (s.dmaCh 59).ring = [desc 1 3 3 true 576] ∧ (s.dmaCh 59).aborting = false ∧ (s.dmaCh 59).done + 512 < descLength (desc 1 3 3 true 576) ∧
      descSrcSpace (desc 1 3 3 true 576) ≠ 0 ∧ descPaced (desc 1 3 3 true 576) = true ∧ descHigh (desc 1 3 3 true 576) ≤ Table.getD s.dma.fifo 3 0 + 1) ∧
    (∃ s : State, s.dma.granted = some 59 ∧ (s.dmaCh 59).ring = [desc 0 0 0 false 512] ∧ (s.dmaCh 59).aborting = true) ∧ (∃ s : State, 15 ≤ Table.getD s.dma.fifo 3 0) ∧
    (∃ s : State, s.dma.granted = some 59) ∧ (∃ s : State, s.dma.granted ≠ some 59) ∧
    (∃ s : State, s.dma.granted = none ∧ s.dmaGrant.dma.granted = some 59 ∧ s.dma.grants + 1 ≠ max 1 s.img.starvePeriod) ∧
    (∃ s : State, s.dma.granted = none ∧ s.dmaGrant.dma.granted = some 59 ∧ s.dma.grants + 1 = max 1 s.img.starvePeriod) ∧ (∃ s : State, s.dma.granted = none ∧ s.dmaGrant.dma.granted = none) :=
  ⟨⟨dma { chans := [(59, { ring := List.replicate 7 (desc 0 0 0 false 512) })] }, by decide +kernel⟩, ⟨dma { chans := [(59, { ring := List.replicate 8 (desc 0 0 0 false 512) })] }, by decide +kernel⟩, ⟨stored, by decide⟩,
   ⟨granted { ring := [desc 0 0 0 false 512] }, by decide +kernel⟩, ⟨{ granted { ring := [desc 1 3 3 true 576] } with dma := { chans := [(59, { ring := [desc 1 3 3 true 576] })], granted := some 59, fifo := [(3, 15)] } }, by decide +kernel⟩,
   ⟨granted { ring := [desc 0 0 0 false 512], aborting := true }, by decide +kernel⟩, ⟨dma { fifo := [(3, 15)] }, by decide⟩, ⟨granted {}, by decide⟩, ⟨stored, by decide⟩,
   ⟨dma { chans := [(59, { ring := [desc 0 0 0 false 512] })] }, by decide +kernel⟩,
   ⟨dma { chans := [(59, { ring := [desc 0 0 0 false 512] })], grants := max 1 stored.img.starvePeriod - 1 }, by decide +kernel⟩, ⟨stored, by decide +kernel⟩⟩
/-- The same for each number of a list. -/
theorem hands (s : State) {admin : Bool} {opc : Nat} (f : Nat → BitVec 512) {l : List Nat} {P : Nat → State → Cmd → Prop}
    (h : ∀ n ∈ l, (row admin (f n)).waits admin opc = true ∧ P n (hand s admin (f n)) (row admin (f n)) := by decide +kernel) : ∀ n ∈ l, Hand admin opc (P n) :=
  fun n k => hand_meets s (f n) (h n k).1 (h n k).2

theorem identify_hyps : (∀ n ∈ [0x01, 0x03, 0x05, 0x08, 0x11, 0x12, 0x13, 0x14, 0x15, 0x1C, 0x00], Hand true 0x06 (fun s c => idCns c = n ∧ idCsi c = 0 ∧ s.attachedSpace c.ctrl (sqeNsid c.entry) = some space)) ∧
    (∀ n ∈ [0x00, 0x03, 0x05, 0x08, 0x11, 0x12], Hand true 0x06 (fun s c => idCns c = n ∧ idCsi c = 0 ∧ sqeNsid c.entry ≠ broadcast ∧ Table.find s.spaces (sqeNsid c.entry) = none)) ∧
    (∀ n ∈ [0x05, 0x06], Hand true 0x06 (fun _ c => idCns c = n ∧ idCsi c = 1)) ∧ Hand true 0x06 (fun _ c => idCns c = 0x06 ∧ idCsi c = 0) ∧ Hand true 0x06 (fun _ c => idCns c = 0x00 ∧ sqeNsid c.entry = broadcast) ∧
    (∀ n ∈ [0x02, 0x10], Hand true 0x06 (fun _ c => idCns c = n ∧ sqeNsid c.entry = 0xFFFFFFFD)) ∧ (∀ n ∈ [0x02, 0x10], Hand true 0x06 (fun _ c => idCns c = n ∧ sqeNsid c.entry = 0xFFFFFFFE)) ∧
    Hand true 0x06 (fun s c => idCns c = 0x01 ∧ s.ts.mode = 2) ∧
    (∀ n ∈ [0x04, 0x07, 0x16, 0xFF], Hand true 0x06 (fun _ c => idCns c ∉ [0x00, 0x01, 0x02, 0x03, 0x05, 0x06, 0x08, 0x10, 0x11, 0x12, 0x13, 0x14, 0x15, 0x1C])) ∧ space.nsx < 1024 :=
  ⟨hands stored fun n => entry 0x06 [(10, n)], hands stored fun n => entry 0x06 [(10, n), (1, 1)], hands stored fun n => entry 0x06 [(10, n), (11, 2 ^ 24)], meets stored (entry 0x06 [(10, 6)]),
   meets stored (entry 0x06 [(1, 0xFFFFFFFE)]), hands stored fun n => entry 0x06 [(10, n), (1, 0xFFFFFFFC)], hands stored fun n => entry 0x06 [(10, n), (1, 0xFFFFFFFD)],
   meets { stored with ts := { stored.ts with mode := 2 } } (entry 0x06 [(10, 1)]), hands stored fun n => entry 0x06 [(10, n)], by decide⟩

theorem logs_hyps : (∀ n ∈ [0x00, 0x01, 0x02, 0x03, 0x05, 0x06, 0x09, 0x0E, 0x20, 0x21, 0x22, 0x23, 0x81, 0xC0, 0xC1, 0xC2, 0xC3, 0xC4, 0xC5, 0xC6],
      Hand true 0x02 (fun _ c => logLid c = n ∧ logLsp c = 0 ∧ logOff c = 0 ∧ logRae c = false)) ∧
    (∀ n ∈ [0x04, 0x82, 0xC7], Hand true 0x02 (fun _ c => logLid c ∉ [0x00, 0x01, 0x02, 0x03, 0x05, 0x06, 0x09, 0x0E, 0x20, 0x21, 0x22, 0x23, 0x81, 0xC0, 0xC1, 0xC2, 0xC3, 0xC4, 0xC5, 0xC6])) ∧
    Hand true 0x02 (fun _ c => logRae c = true) ∧ Hand true 0x02 (fun _ c => logLid c = 0xC2 ∧ logLsp c % 2 = 1 ∧ logOff c = 2236) ∧ Hand true 0x02 (fun _ c => logLid c = 0xC2 ∧ logLsp c % 2 = 1 ∧ logOff c = 2240) ∧
    (∀ n ∈ [0, 1, 2, 3], Hand true 0x02 (fun s c => logLid c = 0xC3 ∧ logLsp c % 4 = n ∧ logOff c < 8388672 ∧ logOff c < 64 + s.persistedBytes.length)) ∧
    (∃ s : State, ∃ u : SbTransfer, s.obs.transfers.find? (fun k => k.tag = 0) = some u ∧ u.release = true ∧ s.obs.ringOn = true) :=
  ⟨hands stored fun n => entry 0x02 [(10, n)], hands stored fun n => entry 0x02 [(10, n)], meets stored (entry 0x02 [(10, 32768)]), meets stored (entry 0x02 [(10, 0x1C2), (12, 2236)]),
   meets stored (entry 0x02 [(10, 0x1C2), (12, 2240)]), hands stored fun n => entry 0x02 [(10, 0xC3 + 256 * n)],
   { stored with obs := { stored.obs with transfers := [⟨0, 16, true⟩], ringOn := true } }, ⟨0, 16, true⟩, by decide⟩

def psAt (ps4 : Nat) : State := { stored with fe := { stored.fe with ps4 := ps4 } }
theorem features_hyps : (∀ n ∈ [0x01, 0x08, 0x09, 0x0B, 0x07, 0x1D], Hand true 0x09 (fun _ c => featId c = n)) ∧ (∀ n ∈ [0, 1, 2, 3], Hand true 0x09 (fun s c => featId c = 0x02 ∧ psOf11 c < 4 ∧ s.fe.ps4 = 0 ∧ psOf11 c = n)) ∧
    Hand true 0x09 (fun s c => featId c = 0x02 ∧ psOf11 c = 3 ∧ s.fe.ps4 = 1) ∧ Hand true 0x09 (fun s c => featId c = 0x02 ∧ psOf11 c = 3 ∧ s.fe.ps4 = 2) ∧ Hand true 0x09 (fun _ c => featId c = 0x02 ∧ psOf11 c = 5) ∧
    Hand true 0x09 (fun s c => featId c = 0x02 ∧ psOf11 c = 4 ∧ s.fe.ps4 = 0) ∧ Hand true 0x09 (fun s c => featId c = 0x02 ∧ psOf11 c = 4 ∧ s.fe.ps4 = 1) ∧ Hand true 0x09 (fun _ c => featId c = 0x1D ∧ bitField (dw c.entry 12) 8 8 = 1) ∧
    Hand true 0x09 (fun s c => featId c = 0x1E ∧ s.fdpHandle c = some 1 ∧ bitField (dw c.entry 11) 16 8 = 2 ∧ [0x00#8, 0x81#8].all fun b => [0x00, 0x02, 0x03, 0x80, 0x81].contains b.toNat) ∧
    Hand true 0x09 (fun s c => featId c = 0x1E ∧ s.fdpHandle c = none) ∧ Hand true 0x09 (fun _ c => featId c = 0x04 ∧ tmpSel c = 9) ∧ Hand true 0x09 (fun _ c => featId c = 0x04 ∧ tmpSel c = 15 ∧ thSel c = 2) ∧
    Hand true 0x09 (fun _ c => featId c = 0x04 ∧ tmpSel c = 8 ∧ thSel c = 0) ∧ Hand true 0x09 (fun _ c => featId c = 0x04 ∧ tmpSel c = 0 ∧ thSel c = 1) ∧
    (∃ s : State, s.fe.ps4 = 1 ∧ s.plan.ps = 4 ∧ s.plan.pendingNo = none) ∧
    (∃ s : State, s.fe.ps4 = 1 ∧ s.plan.ps = 4 ∧ s.plan.pendingNo = none ∧ s.img.psL1 4 = true ∧ (s.port .b).link = 2 ∧ (s.port .b).aspmL1 = true) ∧ (∃ s : State, s.fe.ps4 = 2 ∧ s.fe.ps4Exit = true ∧ (s.port .b).link = 3) ∧ (∃ s : State, s.fe.ps4 = 2 ∧ s.fe.ps4Exit = true ∧ s.fe.ps4Next ≠ some 4) ∧ (∃ s : State, s.fe.ps4 = 2 ∧ s.fe.ps4Exit = true ∧ s.fe.ps4Next = some 4) :=
  ⟨hands stored fun n => entry 0x09 [(10, n)], hands stored fun n => entry 0x09 [(10, 2), (11, n)], meets (psAt 1) (entry 0x09 [(10, 2), (11, 3)]), meets (psAt 2) (entry 0x09 [(10, 2), (11, 3)]), meets stored (entry 0x09 [(10, 2), (11, 5)]),
   meets stored (entry 0x09 [(10, 2), (11, 4)]), meets (psAt 1) (entry 0x09 [(10, 2), (11, 4)]), meets stored (entry 0x09 [(10, 0x1D), (12, 256)]), meets placed (entry 0x09 [(10, 0x1E), (11, 1 + 2 * 65536)]),
   meets placed (entry 0x09 [(10, 0x1E), (11, 2)]), meets stored (entry 0x09 [(10, 4), (11, 9 * 65536)]), meets stored (entry 0x09 [(10, 4), (11, 15 * 65536 + 2 * 2 ^ 20)]), meets stored (entry 0x09 [(10, 4), (11, 8 * 65536 + 300)]),
   meets stored (entry 0x09 [(10, 4), (11, 2 ^ 20 + 300)]), ⟨{ psAt 1 with plan := { stored.plan with ps := 4 } }, by decide⟩,
   ⟨{ psAt 1 with plan := { stored.plan with ps := 4 }, rein := { stored.rein with b := { link := 2, perst := false, aspmL1 := true } }, img := { stored.img with psTable := barebackPs } }, by decide +kernel⟩,
   ⟨{ stored with fe := { stored.fe with ps4 := 2, ps4Exit := true }, rein := { stored.rein with b := { link := 3, perst := false } } }, by decide⟩, ⟨{ stored with fe := { stored.fe with ps4 := 2, ps4Exit := true } }, by decide⟩,
   ⟨{ stored with fe := { stored.fe with ps4 := 2, ps4Exit := true, ps4Next := some 4 } }, by decide⟩⟩

/-- WHEEL_CFG with its bareback values, another TOOTH_CYCLES and REF_ARM. -/
def wheelCfg (tooth arm : Nat) : BitVec 256 := BitVec.ofNat 256 (({ toothCycles := tooth } : WheelCfg).pack + arm * 2 ^ 176)
def bareback : State := { stored with ts := { stored.ts with mode := 1 } }
def twinned (t : TwinCfg) : State := { stored with rein := { stored.rein with twin := t } }
def twinCfg (mode enforce lag : Nat) : BitVec 256 := BitVec.ofNat 256 (mode + 32 * enforce + lag * 2 ^ 32)
theorem vendorFeatures_hyps : Hand true 0x09 (fun _ c => featId c = 0xC0 ∧ (wheelCfgOf (wheelCfg 499 0).toNat).inRange = false) ∧
    Hand true 0x09 (fun s c => featId c = 0xC0 ∧ (wheelCfgOf (wheelCfg 2000 1).toNat).inRange = true ∧ refArmOf (wheelCfg 2000 1).toNat = true ∧ s.wheel.cfg.source = 0 ∧ s.wheel.mode = .free) ∧
    Hand true 0x09 (fun s c => featId c = 0xC0 ∧ (wheelCfgOf (wheelCfg 2000 0).toNat).inRange = true ∧ refArmOf (wheelCfg 2000 0).toNat = false ∧ (wheelCfgOf (wheelCfg 2000 0).toNat).toothCycles = s.wheel.cfgSet.toothCycles) ∧
    Hand true 0x09 (fun s c => featId c = 0xC0 ∧ (wheelCfgOf (wheelCfg 1000 0).toNat).inRange = true ∧ refArmOf (wheelCfg 1000 0).toNat = false ∧ s.toothFail 1000 = none) ∧
    Hand true 0x09 (fun s c => featId c = 0xC0 ∧ (wheelCfgOf (wheelCfg 999 0).toNat).inRange = true ∧ refArmOf (wheelCfg 999 0).toNat = false ∧ 999 ≠ s.wheel.cfgSet.toothCycles ∧ (s.toothFail 999).isSome) ∧
    Hand true 0x09 (fun s c => featId c = 0xC1 ∧ (s.rein.twin.set (twinCfg 2 0 1024).toNat).inRange = false) ∧
    Hand true 0x09 (fun s c => featId c = 0xC1 ∧ (s.rein.twin.set (twinCfg 1 0 1024).toNat).inRange = true ∧ s.rein.twin.enforce = true ∧ (s.rein.twin.set (twinCfg 1 0 1024).toNat).enforce = false) ∧
    Hand true 0x09 (fun s c => featId c = 0xC1 ∧ (s.rein.twin.set (twinCfg 1 0 1024).toNat).inRange = true ∧ s.rein.twin.enforce = false ∧
      ∀ r ∈ [Rein.a, Rein.b], (s.port r).fencedLease = ((s.rein.twin.set (twinCfg 1 0 1024).toNat).enforce && !(s.port r).leaseLive)) ∧
    (∀ n ∈ [0xC2, 0xC3, 0xC4, 0xC5], Hand true 0x09 (fun _ c => featId c = n ∧ bitField (dw c.entry 11) 6 26 = 0)) ∧ Hand true 0x09 (fun _ c => featId c = 0xC3 ∧ bitField (dw c.entry 11) 6 26 = 1) ∧
    (counterOf (BitVec.ofNat 256 (0x7FF * 2 ^ 32 + 1)).toNat).inRange = true :=
  ⟨meets stored (entry 0x09 [(10, 0xC0)]), meets stored (entry 0x09 [(10, 0xC0)]), meets stored (entry 0x09 [(10, 0xC0)]), meets bareback (entry 0x09 [(10, 0xC0)]), meets bareback (entry 0x09 [(10, 0xC0)]),
   meets stored (entry 0x09 [(10, 0xC1)]), meets (twinned { enforce := true }) (entry 0x09 [(10, 0xC1)]), meets stored (entry 0x09 [(10, 0xC1)]), hands stored fun n => entry 0x09 [(10, n)],
   meets stored (entry 0x09 [(10, 0xC3), (11, 64)]), by decide +kernel⟩

theorem getFeatures_hyps : (∀ n ∈ [0x01, 0x02, 0x07, 0x08, 0x09, 0x0B, 0x1D, 0x1E, 0xC0, 0xC1, 0xC2, 0xC3, 0xC4, 0xC5], Hand true 0x0A (fun _ c => featId c = n ∧ getSel c = 0 ∧ bitField (dw c.entry 11) 6 26 = 0)) ∧
    (∀ n ∈ [1, 2, 3, 4], Hand true 0x0A (fun _ c => featId c = 0x01 ∧ getSel c = n)) ∧ Hand true 0x0A (fun s c => featId c = 0x1E ∧ getSel c = 0 ∧ s.fdpHandle c = some 3) ∧ Hand true 0x0A (fun s c => featId c = 0x1E ∧ getSel c = 2 ∧ s.fdpHandle c = none) ∧
    Hand true 0x0A (fun _ c => featId c = 0x04 ∧ tmpSel c = 9) ∧ Hand true 0x0A (fun _ c => featId c = 0x04 ∧ tmpSel c = 8 ∧ thSel c = 0) ∧ Hand true 0x0A (fun _ c => featId c = 0x04 ∧ tmpSel c = 8 ∧ thSel c = 1) ∧
    Hand true 0x0A (fun _ c => featId c = 0xC3 ∧ bitField (dw c.entry 11) 6 26 = 1) ∧
    (∀ n ∈ [0x03, 0x0C, 0xC7], Hand true 0x0A (fun _ c => if featId c = 0xC6 then cipherOp c ∉ [0, 4] else featId c ∉ [0x01, 0x02, 0x04, 0x07, 0x08, 0x09, 0x0B, 0x1D, 0x1E, 0xC0, 0xC1, 0xC2, 0xC3, 0xC4, 0xC5])) ∧
    Hand true 0x0A (fun _ c => featId c = 0xC6 ∧ cipherOp c ∉ [0, 4]) ∧ Hand true 0x09 (fun _ c => featId c = 0xC6 ∧ cipherOp c ∉ [0, 1, 2, 3]) ∧
    Hand true 0x09 (fun _ c => featId c ≠ 0xC6 ∧ featId c ∉ [0x01, 0x02, 0x04, 0x07, 0x08, 0x09, 0x0B, 0x1D, 0x1E, 0xC0, 0xC1, 0xC2, 0xC3, 0xC4, 0xC5]) :=
  ⟨hands stored fun n => entry 0x0A [(10, n)], hands stored fun n => entry 0x0A [(10, 1 + 256 * n)], meets placed (entry 0x0A [(10, 0x1E)]), meets stored (entry 0x0A [(10, 0x21E)]),
   meets stored (entry 0x0A [(10, 4), (11, 9 * 65536)]), meets stored (entry 0x0A [(10, 4), (11, 8 * 65536)]), meets stored (entry 0x0A [(10, 4), (11, 8 * 65536 + 2 ^ 20)]), meets stored (entry 0x0A [(10, 0xC3), (11, 64)]),
   hands stored fun n => entry 0x0A [(10, n)], meets stored (policy 0x0A 1 0 0), meets stored (policy 0x09 4 0 0), meets stored (entry 0x09 [(10, 0x0C)])⟩

/-- An entry of Tree Store Access: OP in CDW10, OFFSET or LENGTH in CDW11 and CDW12, the unlock value in CDW13. -/
def access (op a b : Nat) : BitVec 512 := entry 0xC5 [(10, op), (11, a), (12, b), (13, 0x3C5AA5C3)]
/-- Stored, with the energy of an update. -/
def powered : State := { stored with wb := { stored.wb with eAvail := 10 ^ 9 } }
def treed (t : TsState) : State := { powered with ts := t }
/-- Staging of 64 bytes by controller 0 or 1, covered or not. -/
def staged (ctrl : Nat) (covered : List (Nat × Nat)) : TsState := { stored.ts with staging := some { ctrl := ctrl, len := 64, bytes := [], covered := covered } }
def lockedTs (mode reason : Nat) : TsState := { stored.ts with mode := mode, halterReason := reason, rings := [(.optionLog, [⟨900, 1, 2, [(1, .optLock true)]⟩])] }
/-- The option block's header. -/
def optioned (more : List Host.Cell) : TsState := { stored.ts with option := [(0, 0xA7), (1, 0xB0), (2, 0x01), (3, 0x00)] ++ more }
theorem treeStore_hyps : (∀ n ∈ [0, 1, 2, 3, 4, 5, 6, 7, 8, 9, 10, 11, 12, 15], Hand true 0xC5 (fun _ c => tsOp c = n ∧ dw c.entry 13 = 0x3C5AA5C3)) ∧ Hand true 0xC5 (fun s c => tsOp c = 1 ∧ s.ts.mode = 1) ∧
    Hand true 0xC5 (fun s c => tsOp c = 1 ∧ s.ts.mode = 0 ∧ s.ts.shadowLen < dw c.entry 11 + dw c.entry 12) ∧ Hand true 0xC5 (fun s c => tsOp c = 1 ∧ s.ts.mode = 0 ∧ dw c.entry 11 + dw c.entry 12 = s.ts.shadowLen) ∧
    (∀ n ∈ [48, 65, 50331664], Hand true 0xC5 (fun _ c => tsOp c = 2 ∧ (dw c.entry 11 % 16 ≠ 0 ∨ dw c.entry 11 < 64 ∨ 50331648 < dw c.entry 11))) ∧
    (∀ n ∈ [64, 50331648], Hand true 0xC5 (fun s c => tsOp c = 2 ∧ dw c.entry 11 = n ∧ s.updReason c.ctrl = none)) ∧ Hand true 0xC5 (fun s c => tsOp c = 2 ∧ dw c.entry 11 = 64 ∧ s.updReason c.ctrl = some 1) ∧
    Hand true 0xC5 (fun s c => tsOp c = 3 ∧ s.ts.staging = none) ∧ Hand true 0xC5 (fun s c => tsOp c = 3 ∧ (s.ts.staging.map (·.ctrl)) = some 1 ∧ c.ctrl = 0) ∧
    Hand true 0xC5 (fun s c => tsOp c = 3 ∧ (s.ts.staging.map fun g => (g.ctrl, g.len)) = some (0, 64) ∧ dw c.entry 11 = 48 ∧ dw c.entry 12 = 32) ∧
    Hand true 0xC5 (fun s c => tsOp c = 3 ∧ (s.ts.staging.map fun g => (g.ctrl, g.len)) = some (0, 64) ∧ dw c.entry 11 = 48 ∧ dw c.entry 12 = 16) ∧
    Hand true 0xC5 (fun s c => tsOp c = 4 ∧ s.updReason c.ctrl = none ∧ s.ts.staging = none) ∧
    Hand true 0xC5 (fun s c => tsOp c = 4 ∧ s.updReason c.ctrl = none ∧ (s.ts.staging.map fun g => decide (coveredTo g.covered g.covered.length 0 < g.len)) = some true) ∧
    Hand true 0xC5 (fun s c => tsOp c = 4 ∧ s.updReason c.ctrl = none ∧ (s.ts.staging.map fun g => decide (g.len ≤ coveredTo g.covered g.covered.length 0) && (imageFail g.bytes (some g.len) s.ts).isSome) = some true) ∧
    Hand true 0xC5 (fun s c => tsOp c = 5 ∧ s.ts.writing.isSome) ∧ Hand true 0xC5 (fun s c => tsOp c = 6 ∧ s.ts.ownerLock = true) ∧
    Hand true 0xC5 (fun s c => tsOp c = 6 ∧ s.ts.ownerLock = false ∧ ∀ i < 4, s.ts.optionBlank (0x100 + 64 * i) 48 = false) ∧
    Hand true 0xC5 (fun s c => tsOp c = 6 ∧ s.ts.ownerLock = false ∧ s.ts.optionValid = true ∧ s.ts.optionBlank 0x140 48 = true ∧ s.ts.optionBlank 0x100 48 = false) ∧
    Hand true 0xC5 (fun s c => tsOp c = 8 ∧ s.ts.mode = 2 ∧ s.ts.halterReason = 1) ∧ Hand true 0xC5 (fun s c => tsOp c = 9 ∧ s.ts.ownerLock = true ∧ ¬ (s.ts.mode = 2 ∧ s.ts.halterReason = 1)) ∧
    Hand true 0xC5 (fun s c => tsOp c = 9 ∧ s.ts.ownerLock = false ∧ s.ts.usedSectors = []) ∧ Hand true 0xC5 (fun s c => tsOp c = 9 ∧ s.ts.ownerLock = false ∧ s.ts.usedSectors = [775]) ∧
    Hand true 0xC5 (fun s c => tsOp c = 10 ∧ s.ts.optionBlank 0x10 32 = false ∧ s.ts.optionBlank 0x30 48 = false) ∧ Hand true 0xC5 (fun s c => tsOp c = 10 ∧ s.ts.optionBlank 0x10 32 = true ∧ s.ts.optionBlank 0x30 48 = true ∧ s.ts.optionValid = true) ∧
    Hand true 0xC5 (fun s c => tsOp c = 11 ∧ s.ts.mode = 0 ∧ s.ts.written = true) ∧ Hand true 0xC5 (fun s c => tsOp c = 11 ∧ s.ts.mode = 0 ∧ s.ts.written = false ∧ s.updReason c.ctrl = none) ∧
    (∀ n ∈ [4, 6, 7, 8, 9, 10, 11], Hand true 0xC5 (fun _ c => tsOp c = n ∧ dw c.entry 13 ≠ 0x3C5AA5C3)) ∧ (∃ data : List Byte, 72 ≤ data.length) :=
  ⟨hands stored fun n => access n 0 0, meets bareback (access 1 0 0), meets stored (access 1 16 0), meets stored (access 1 0 0), hands stored fun n => access 2 n 0, hands powered fun n => access 2 n 0,
   meets (treed (lockedTs 0 0)) (access 2 64 0), meets stored (access 3 0 0), meets (treed (staged 1 [])) (access 3 0 0), meets (treed (staged 0 [])) (access 3 48 32), meets (treed (staged 0 [])) (access 3 48 16), meets powered (access 4 0 0),
   meets (treed (staged 0 [(0, 48)])) (access 4 0 0), meets (treed (staged 0 [(32, 32), (0, 32)])) (access 4 0 0), meets (treed { stored.ts with writing := some (64, []) }) (access 5 0 0), meets (treed (lockedTs 0 0)) (access 6 0 0),
   meets (treed (optioned [(0x100, 0), (0x140, 0), (0x180, 0), (0x1EF, 0)])) (access 6 0 0), meets (treed (optioned [(0x12F, 0)])) (access 6 0 0), meets (treed (lockedTs 2 1)) (access 8 0 0), meets (treed (lockedTs 2 2)) (access 9 0 0),
   meets stored (access 9 0 0), meets (treed { stored.ts with imageUsed := [775] }) (access 9 0 0), meets (treed (optioned [(0x10, 0), (0x30, 0)])) (access 10 0 0), meets (treed (optioned [])) (access 10 0 0),
   meets (treed { stored.ts with written := true }) (access 11 0 0), meets powered (access 11 0 0), hands stored fun n => entry 0xC5 [(10, n)], List.replicate 72 0, by decide⟩

def runningTs (k : ArrayKind) (more : TsState) : State := treed { more with running := some ⟨3, k⟩ }
theorem arrayOps_hyps : (∃ s : State, s.ts.running = some ⟨3, .append .wtRes (.wtRes 9)⟩ ∧ 1 ≤ s.ts.headRoom .wtRes) ∧ (∃ s : State, s.ts.running = some ⟨3, .option 0x100 [1]⟩) ∧
    (∃ s : State, s.ts.running = some ⟨3, .erase 8 1⟩) ∧ (∃ s : State, s.ts.running = some ⟨3, .erase 7 1⟩ ∧ s.ts.writing = none) ∧ (∃ s : State, s.ts.running = some ⟨3, .read 0⟩) ∧ (∃ s : State, s.ts.running = none) ∧
    (∃ s : State, s.ts.accept = true) ∧
    (∃ s : State, ∃ cls top, s.ts.running = some ⟨cls, .append .wtRes (.wtRes top)⟩ ∧ ((({ s.ts with running := none, unlock := 0 } : TsState).ready .wtRes (.wtRes top)).ring .wtRes ≠ [])) :=
  ⟨⟨runningTs (.append .wtRes (.wtRes 9)) { stored.ts with rings := [(.wtRes, [⟨800, 1, 4095, []⟩])] }, by decide +kernel⟩, ⟨runningTs (.option 0x100 [1]) stored.ts, by decide⟩, ⟨runningTs (.erase 8 1) stored.ts, by decide⟩,
   ⟨runningTs (.erase 7 1) stored.ts, by decide⟩, ⟨runningTs (.read 0) stored.ts, by decide⟩, ⟨stored, by decide⟩, ⟨treed { stored.ts with accept := true }, by decide⟩,
   ⟨runningTs (.append .wtRes (.wtRes 9)) { stored.ts with rings := [(.wtRes, [⟨800, 1, 4095, []⟩])] }, 3, 9, by decide +kernel⟩⟩

/-- A step from reset with a command in front, and a wheel within its bounds. -/
theorem wheelBounds_hyps : ∃ s t : State, s.wheel.Bounded ∧ step s = .next t :=
  ⟨{ State.reset with pending := [.ps4EntryEnd] }, State.reset, ⟨by decide, by decide, by decide, by decide, by decide, by decide, by decide⟩, by rfl⟩
theorem hostRows_hyps : (∃ s : State, s.cmd 0 = none) ∧ (∃ s : State, (s.cmd 0).map (·.started) = some true) ∧ (∃ s : State, (s.cmd 0).map (fun c => c.result.isSome) = some true) ∧
    (∃ s : State, s.fe.stopped = true ∧ (s.cmd 0).map (·.tunnelled) = some false) :=
  ⟨⟨stored, by decide⟩, ⟨{ stored with fe := { stored.fe with cmds := [(0, { row false 0 with started := true })] } }, by decide⟩,
   ⟨{ stored with fe := { stored.fe with cmds := [(0, { row false 0 with result := some ok })] } }, by decide⟩, ⟨{ stored with fe := { stored.fe with cmds := [(0, row false 0)], stopped := true } }, by decide⟩⟩
theorem queue_hyps : (∃ s : State, s.pending = []) ∧ (∃ s : State, s.pending = [.ps4EntryEnd]) := ⟨⟨stored, by decide⟩, ⟨{ stored with pending := [.ps4EntryEnd] }, by decide⟩⟩
theorem engines_hyps : (∃ t, exec .ps4EntryEnd stored = .next t) ∧ changesImage .ps4EntryEnd = false ∧ changesThermal .ps4EntryEnd = false ∧ changesDma .ps4EntryEnd = false ∧ changesPlan .ps4EntryEnd = false ∧
    changesWheel .ps4EntryEnd = false := ⟨⟨stored, by rfl⟩, by decide⟩

/-! ### WellFormed: an ill-formed command for each check, refused -/

def noEyes : EyeFound := ⟨[], [], false⟩
theorem test_illFormed_die : Instr.wellFormed (.hrqEntry 1024) = false := by decide
theorem test_illFormed_channel : Instr.wellFormed (.flashRateTraining 32 0 true) = false := by decide
theorem test_illFormed_target : Instr.wellFormed (.zqCalShort 0 8 true) = false := by decide
theorem test_illFormed_plane : Instr.wellFormed (.statusPoll 0 true [8] false) = false := by decide
theorem test_illFormed_flashRate : Instr.wellFormed (.flashRateTraining 0 5 true) = false := by decide
theorem test_illFormed_startupStep : Instr.wellFormed (.channelStartupStepTimeout 0 8 [] none) = false := by decide
theorem test_illFormed_stream : Instr.wellFormed (.setOpen 8) = false := by decide
theorem test_illFormed_member : Instr.wellFormed (.dumpUnitProgramDone 0 32 true) = false := by decide
theorem test_illFormed_segment : Instr.wellFormed (.segmentRestoreDone 122880 []) = false := by decide
theorem test_illFormed_entry : Instr.wellFormed (.segmentRestoreDone 0 [655360]) = false := by decide
theorem test_illFormed_staging : Instr.wellFormed (.journalStageAge 122881) = false ∧ Instr.wellFormed (.journalStageAge 122880) = true := by decide
theorem test_illFormed_slot : Instr.wellFormed (.slotRewriteInstall 4160) = false := by decide
theorem test_illFormed_pair : Instr.wellFormed (.cipherRequestDone 0 8 true) = false := by decide
theorem test_illFormed_compressor : Instr.wellFormed (.skiverUnitDone 0 16 true) = false := by decide
theorem test_illFormed_decompressor : (⟨true, true, noEyes, noEyes, [], [24], []⟩ : TestFound).wellFormed = false := by decide
theorem test_illFormed_dramChannel : Instr.wellFormed (.dramRefreshDue 8 0 0) = false := by decide
theorem test_illFormed_rank : Instr.wellFormed (.rankPowerDown 0 2 0) = false := by decide
theorem test_illFormed_dramBank : Instr.wellFormed (.neighbourRefresh 0 0 16) = false := by decide
theorem test_illFormed_symbol : Instr.wellFormed (.dramScrubRead [80]) = false := by decide
theorem test_illFormed_dramPlace : Instr.wellFormed (.dramBurstDecode 0 [] (.segmentPool 0 65536)) = false ∧ Instr.wellFormed (.dramBurstDecode 0 [] (.writeBuffer (2 ^ 32))) = false ∧
    Instr.wellFormed (.dramBurstDecode 0 [] (.plan 64)) = false := by decide
theorem test_illFormed_cacheBank : Instr.wellFormed (.mcWritebackDone 32) = false := by decide
theorem test_illFormed_cacheError : Instr.wellFormed (.mcFillDone 0 true (.oneSymbol 2048)) = false ∧ Instr.wellFormed (.mcFillDone 0 true (.twoSymbols (122880 * 65536))) = false := by decide
theorem test_illFormed_dmaChannel : Instr.wellFormed (.dmaAbort 64) = false := by decide
theorem test_illFormed_sensor : Instr.wellFormed (.sensorNoConversion 52) = false := by decide
theorem test_illFormed_port : Instr.wellFormed (.ccEnSet ⟨.a, 64⟩) = false := by decide
theorem test_illFormed_storeWord : Instr.wellFormed (.tsScrubRead (.corrected 67108864)) = false ∧ Instr.wellFormed (.tsScrubRead (.uncorrectable 8)) = false := by decide
theorem test_illFormed_sense : Instr.wellFormed (.toothBoundary 4096 default) = false := by decide
theorem test_illFormed_vcore : Instr.wellFormed (.localRoundBoundary [] 32) = false := by decide
theorem test_illFormed_mr4 : Instr.wellFormed (.localRoundBoundary [⟨8, 0, false, 0⟩] 0) = false := by decide
theorem test_illFormed_code : Instr.wellFormed (.faultReport 65536 2) = false := by decide
theorem test_illFormed_severity : Instr.wellFormed (.faultReport 0x0102 1) = false ∧ Instr.wellFormed (.faultReport 0x0102 5) = false := by decide
theorem test_illFormed_hostAddress : Instr.wellFormed (.hostMemoryError 0 (2 ^ 64)) = false := by decide
theorem test_illFormed_dword : Instr.wellFormed (.sqTailDoorbell ⟨.a, 0⟩ 0 (2 ^ 32)) = false := by decide
theorem test_illFormed_qid : Instr.wellFormed (.cqHeadDoorbell ⟨.a, 0⟩ 65536 0) = false := by decide
theorem test_illFormed_shn : Instr.wellFormed (.ccShnWrite ⟨.a, 0⟩ 4) = false := by decide
theorem test_illFormed_link : Instr.wellFormed (.linkUp .a ⟨7, 16, false, noEyes, 0, 0, 0⟩) = false ∧ Instr.wellFormed (.linkUp .a ⟨6, 3, false, noEyes, 0, 0, 0⟩) = false := by decide
theorem test_illFormed_eyes : Instr.wellFormed (.reinSelfTestPeriodic .a ⟨[300], [], false⟩) = false := by decide
theorem test_illFormed_readings : Instr.wellFormed (.sensorConversion ⟨[], [], none, none, none, none⟩) = false := by decide
theorem test_illFormed_page : (⟨9, 3, 1, false, 16, 64, 2, 0, 4, 50000, 1000000, 500000, 5000000, 3000⟩ : ParamPage).wellFormed = false := by decide
theorem test_illFormed_boot : Instr.wellFormed (.bootStepDone { (default : BootFound) with dramRanks := 3 }) = false := by decide
theorem test_illFormed_restart : Instr.wellFormed (.restartStepDone ⟨true, true, [], [(1024, 0)]⟩) = false := by decide
theorem test_illFormed_create : Instr.wellFormed (.namespaceCreate 0 ⟨2 ^ 64, 0, 0, []⟩) = false := by decide
theorem test_illFormed_range : Instr.wellFormed (.dsmDeallocate 0 [⟨0, 2 ^ 32⟩]) = false := by decide
theorem test_illFormed_ranges : Instr.wellFormed (.secureDiscard 0 (List.replicate 257 ⟨0, 0⟩)) = false := by decide +kernel
theorem test_illFormed_tags : Instr.wellFormed (.write 0 [] [⟨2 ^ 64, 0, 0⟩]) = false ∧ Instr.wellFormed (.write 0 [] [⟨0, 65536, 0⟩]) = false ∧ Instr.wellFormed (.write 0 [] [⟨65536, 0, 2 ^ 48⟩]) = false ∧
    Instr.wellFormed (.write 0 [] [⟨2 ^ 64 - 1, 65535, 2 ^ 48 - 1⟩]) = true := by decide
theorem test_wellFormed : Instr.wellFormed (.faultReport 0x0102 4) = true ∧ Instr.wellFormed (.hrqEntry 1023) = true ∧ Instr.wellFormed (.read 0) = true := by decide

/-! ### The manual's worked examples -/

/-- 00_scope: die 12.5.2 is index 406, die 31.7.3 is 1,023. -/
theorem test_die_index : chOfDie 406 = 12 ∧ tgtOfDie 406 = 5 ∧ lunOfDie 406 = 2 ∧ chOfDie 1023 = 31 ∧ tgtOfDie 1023 = 7 ∧ lunOfDie 1023 = 3 := by decide
/-- 01_architecture, after R23: PS 1, BAND 2, RB 0 is entry 20; PS 0 is entry 4. -/
theorem test_plan_index : planIndex 1 2 false = 20 ∧ planIndex 0 2 false = 4 := by decide
/-- 06_map, after R145: entries 6 and 7 are 394 and 360. -/
theorem test_fc_target : barebackFcTarget[6]? = some 394 ∧ barebackFcTarget[7]? = some 360 ∧ barebackFcTarget[0]? = some 600 ∧ barebackFcTarget[16]? = some 50 := by decide
/-- 08_girths, R185's table: the powers of g and the products of the data members; P and Q at one byte offset. -/
def members6 : List Byte := [0x11#8, 0x22#8, 0x33#8, 0x44#8, 0x55#8, 0x66#8]
theorem test_girth_parity : (List.range 6).map (fun j => gfMul (gfPow j) (members6.getD j 0#8)) = [0x11#8, 0x44#8, 0xCC#8, 0x1A#8, 0x39#8, 0x5C#8] ∧
    members6.foldl (· ^^^ ·) 0#8 = 0x77#8 ∧ ((List.range 6).map fun j => gfMul (gfPow j) (members6.getD j 0#8)).foldl (· ^^^ ·) 0#8 = 0xE6#8 := by decide +kernel
/-- The same example: 5Eh divided by 12h is 22h. -/
theorem test_girth_divide : gfMul 0x5E#8 (gfInv 0x12#8) = 0x22#8 ∧ gfMul 0x10#8 0x77#8 = 0x23#8 := by decide +kernel
/-- 14_dram_and_map_cache, after R357: block 12,345 of segment 4,711 lies in bank 30, set 274, tag 1267h, at 32 GiB + 308,752,441 × 64. -/
theorem test_cache_line : laOf 4711 12345 = 308752441 ∧ laHash 308752441 = 0x225E ∧ bankOf 308752441 = 30 ∧ setOfLa 308752441 = 274 ∧ tagOfLa 308752441 = 0x1267 ∧ laOfTag 30 274 0x1267 = 308752441 := by
  decide +kernel
/-- 13_skiver, after R322: 32 zero bytes with WMAX 16 make a stream of 17 bytes. -/
theorem test_skive_zeros : skiveHeader 7 false ++ (encodeWindow 16 false [] (List.replicate 32 0#8)).1 ++ [endByte] =
    [0xD5#8, 0x71#8, 0x00#8, 0x00#8, 0x00#8, 0x00#8, 0x04#8, 0x0E#8, 0x24#8, 0x58#8, 0xD0#8, 0xE0#8, 0x41#8, 0x82#8, 0x00#8, 0x01#8, 0x02#8] := by decide +kernel
/-- 13_skiver: 1,700 bytes under PAD_MODE ZERO take 4 granules (12_cipher, after R300), under FULL 8 and raw. -/
theorem test_unit_length : unitLength 0 true 1700 = (4, false) ∧ unitLength 2 true 1700 = (8, true) ∧ unitLength 0 true 3585 = (8, true) := by decide
/-- 09_write_buffer_and_power_loss, R215's example: a sense of 875 mV is 35,000 mV of bank voltage and 2,055.4 mJ; 875 mV converts as 2,986 of 4,095 (log 34). -/
theorem test_e_avail : stored.eAvailOf 2986 / 10 = 205 := by decide +kernel
/-- The policy that the same example runs at: 70 W, a margin of 25 percent, 4,700 uF, 85 percent, a cut at 14 V, a divider of 40. -/
theorem test_bareback_holdup : stored.img.pDump = 700 ∧ stored.img.marginPct = 25 ∧ stored.img.cBank = 4700 ∧ stored.img.effPct = 85 ∧ stored.img.vCut = 14000 ∧ stored.img.senseRatio = 10240 := by decide +kernel
/-- 21_package_and_identity R464: IDCODE 296041B3h is shifted out lowest bit first. -/
theorem test_idcode : State.reset.pkg.jtagOut.take 8 = [true, true, false, false, true, true, false, true] := by decide
/-- 16_thermal_and_power R379: readings in quarters of a degree; the span is -60 to 150 degrees. -/
theorem test_span : inSpan (-240) = true ∧ inSpan (-241) = false ∧ inSpan 600 = true ∧ inSpan 601 = false := by decide
/-- 17_observability: bareback buckets 16, 16, 32 and 64, refills of 64, 16, 4 and 1 rounds. -/
theorem test_buckets : [0, 1, 2, 3].map stored.img.burst = [16, 16, 32, 64] ∧ [0, 1, 2, 3].map stored.img.refill = [64, 16, 4, 1] := by decide +kernel
/-- 07_reclaim_and_wear, after R172: bareback limits 4 and 5 are 600 and 400, the hysteresis 50. -/
theorem test_band_limits : stored.img.bandLimit 4 = 600 ∧ stored.img.bandLimit 5 = 400 ∧ stored.img.bandHyst = 50 := by decide +kernel
/-- 05_frames_and_ldpc R108: the entries of columns 0 and 5, of parity columns 268 and 292, and a shift, by hand; R104: the seed of row 0, frame 0. -/
theorem test_base_matrix : ((List.range 25).filter (baseEntry · 0)) = [0, 1, 2, 3] ∧ ((List.range 25).filter (baseEntry · 5)) = [5, 11, 17, 23] ∧ ((List.range 25).filter (baseEntry · 268)) = [0, 1] ∧
    ((List.range 25).filter (baseEntry · 292)) = [24] ∧ baseShift 2 3 = 95 ∧ stored.img.seedOf 0 = 0x5A5A5A5A := by decide +kernel
/-- A checksum every CRC-32C gives for the digits 1 to 9 (the polynomial's check value). -/
theorem test_crc32c : crc32c ((List.range 9).map fun i => BitVec.ofNat 8 (49 + i)) = 0xE3069283 := by decide +kernel
end Sys2Proof.Tests
end

section
/-! The engines' frame (O58): which commands may change the tables in force, the thermal controller, the DMA, the plan selector and the wheel. -/
namespace Sys2Proof.Machine

/-- A link loss is no reset (R251): no feature is restored, and so the wheel, the thermal controller and the reins' fences stand. -/
theorem State.leaveService_linkDown_kept (s : State) (r : Rein) (func : Option Nat) :
    (s.leaveService r 2 func).wheel = s.wheel ∧ (s.leaveService r 2 func).therm = s.therm ∧ (s.leaveService r 2 func).rein = s.rein := by
  simp [State.leaveService]

theorem execLinkDown_enginesKept (rein : Rein) (s : State) :
    ∃ t, execLinkDown rein s = .next t ∧ t.pending = s.pending ∧ t.wheel = s.wheel ∧ t.plan = s.plan ∧ t.dma = s.dma ∧ t.therm = s.therm ∧ t.img = s.img := by
  unfold execLinkDown
  split
  · exact ⟨_, rfl, by simp [State.leaveService_linkDown_kept]⟩
  · exact ⟨s, rfl, rfl, rfl, rfl, rfl, rfl, rfl⟩

/-- Each engine that the lists do not let the command change is the same in both states. -/
structure EnginesKept (i : Instr) (s t : State) : Prop where
  img : changesImage i = false → t.img = s.img
  therm : changesThermal i = false → t.therm = s.therm
  dma : changesDma i = false → t.dma = s.dma
  plan : changesPlan i = false → t.plan = s.plan
  wheel : changesWheel i = false → t.wheel = s.wheel

theorem EnginesKept.all {i : Instr} {s t : State} (hwheel : t.wheel = s.wheel) (hplan : t.plan = s.plan) (hdma : t.dma = s.dma) (htherm : t.therm = s.therm)
    (himg : t.img = s.img) : EnginesKept i s t :=
  ⟨fun _ => himg, fun _ => htherm, fun _ => hdma, fun _ => hplan, fun _ => hwheel⟩

/-- An outcome of a command: a next state with the same queue, and the engines as the lists say. -/
def Keeps (i : Instr) (s : State) (o : Host.Outcome State Fault Refusal) : Prop := ∃ t, o = .next t ∧ t.pending = s.pending ∧ EnginesKept i s t

/-- From what a meaning leaves unchanged to the engines it keeps. -/
theorem Keeps.of {i : Instr} {s : State} {o : Host.Outcome State Fault Refusal} {P : State → Prop} (h : ∃ t, o = .next t ∧ t.pending = s.pending ∧ P t)
    (kept : ∀ t, P t → EnginesKept i s t) : Keeps i s o := by
  obtain ⟨t, ho, hpending, hP⟩ := h
  exact ⟨t, ho, hpending, kept t hP⟩

/-- A command that every list names. -/
theorem Keeps.named {i : Instr} {s : State} {o : Host.Outcome State Fault Refusal} (h : ∃ t, o = .next t ∧ t.pending = s.pending)
    (kept : ∀ t, EnginesKept i s t) : Keeps i s o := by
  obtain ⟨t, ho, hpending⟩ := h
  exact ⟨t, ho, hpending, kept t⟩

/-- A meaning that leaves every engine as it was. -/
theorem Keeps.engines {i : Instr} {s : State} {o : Host.Outcome State Fault Refusal}
    (h : ∃ t, o = .next t ∧ t.pending = s.pending ∧ t.wheel = s.wheel ∧ t.plan = s.plan ∧ t.rein = s.rein ∧ t.dram = s.dram ∧ t.dma = s.dma ∧ t.therm = s.therm ∧
      t.img = s.img) : Keeps i s o :=
  .of h fun _ ⟨hwheel, hplan, _, _, hdma, htherm, himg⟩ => .all hwheel hplan hdma htherm himg

/-- A meaning that leaves every engine as it was, and the user's data too. -/
theorem Keeps.frame {i : Instr} {s : State} {o : Host.Outcome State Fault Refusal} {P : State → Prop}
    (h : ∃ t, o = .next t ∧ t.pending = s.pending ∧ t.wheel = s.wheel ∧ t.plan = s.plan ∧ t.rein = s.rein ∧ t.dram = s.dram ∧ t.dma = s.dma ∧ t.therm = s.therm ∧
      t.img = s.img ∧ P t) : Keeps i s o :=
  .of h fun _ ⟨hwheel, hplan, _, _, hdma, htherm, himg, _⟩ => .all hwheel hplan hdma htherm himg

/-- Every command answers a next state, leaves the queue as it was, and keeps each engine whose list does not name it: row by row, what the command's meaning
leaves unchanged, and where the row's command is named, nothing to show. -/
theorem exec_keeps (i : Instr) (s : State) : Keeps i s (exec i s) := by
  cases i with
  | powerOnReset straps => exact .named (execPowerOnReset_kept straps s) fun _ => ⟨nofun, nofun, nofun, nofun, nofun⟩
  | bootStepDone found => exact .of (execBootStepDone_kept found s) fun _ hdma => ⟨nofun, nofun, fun _ => hdma, nofun, nofun⟩
  | restartStepDone found => exact .engines (execRestartStepDone_kept found s)
  | segmentRestoreDone seg lost => exact .engines (execSegmentRestoreDone_kept seg lost s)
  | channelStartupStepTimeout ch step targets trainedAtLower => exact .engines (execChannelStartupStepTimeout_kept ch step targets trainedAtLower s)
  | flashRateTraining ch rate passed => exact .engines (execFlashRateTraining_kept ch rate passed s)
  | toothBoundary senseCode test => exact .of (execToothBoundary_kept senseCode test s) fun _ ⟨hplan, _, hdma, htherm, himg⟩ => ⟨fun _ => himg, fun _ => htherm, fun _ => hdma, fun _ => hplan, nofun⟩
  | localRoundBoundary mr4 vcorePass => exact .of (execLocalRoundBoundary_kept mr4 vcorePass s) fun _ ⟨htherm, himg⟩ => ⟨fun _ => himg, fun _ => htherm, nofun, nofun, nofun⟩
  | planSample => exact .of (execPlanSample_kept s) fun _ ⟨hwheel, _, _, hdma, htherm, himg, _⟩ => ⟨fun _ => himg, fun _ => htherm, fun _ => hdma, nofun, fun _ => hwheel⟩
  | planLoadDone poisoned => exact .of (execPlanLoadDone_kept poisoned s) fun _ ⟨hwheel, _, _, hdma, htherm, himg, _⟩ => ⟨fun _ => himg, fun _ => htherm, fun _ => hdma, nofun, fun _ => hwheel⟩
  | planShadowReloadDone => exact .of (execPlanShadowReloadDone_kept s) fun _ ⟨hwheel, _, _, hdma, htherm, himg, _⟩ => ⟨fun _ => himg, fun _ => htherm, fun _ => hdma, nofun, fun _ => hwheel⟩
  | paceEdge time highNs => exact .of (execPaceEdge_kept time highNs s) fun _ ⟨hplan, _, _, hdma, htherm, himg, _⟩ => ⟨fun _ => himg, fun _ => htherm, fun _ => hdma, fun _ => hplan, nofun⟩
  | ptmExchangeDone rein completed time masterNs => exact .of (execPtmExchangeDone_kept rein completed time masterNs s) fun _ ⟨hplan, _, hdma, htherm, himg, _⟩ => ⟨fun _ => himg, fun _ => htherm, fun _ => hdma, fun _ => hplan, nofun⟩
  | edgeWindowClose => exact .of (execEdgeWindowClose_kept s) fun _ ⟨hplan, _, _, hdma, htherm, himg, _⟩ => ⟨fun _ => himg, fun _ => htherm, fun _ => hdma, fun _ => hplan, nofun⟩
  | holdoverGuardExceeded => exact .of (execHoldoverGuardExceeded_kept s) fun _ ⟨hplan, _, _, hdma, htherm, himg, _⟩ => ⟨fun _ => himg, fun _ => htherm, fun _ => hdma, fun _ => hplan, nofun⟩
  | freqClampPersist => exact .of (execFreqClampPersist_kept s) fun _ ⟨hplan, _, _, hdma, htherm, himg, _⟩ => ⟨fun _ => himg, fun _ => htherm, fun _ => hdma, fun _ => hplan, nofun⟩
  | crystalStopDetect => exact .of (execCrystalStopDetect_kept s) fun _ ⟨htherm, himg, _⟩ => ⟨fun _ => himg, fun _ => htherm, nofun, nofun, nofun⟩
  | wtReserve => exact .of (execWtReserve_kept s) fun _ ⟨hplan, _, _, hdma, htherm, himg, _⟩ => ⟨fun _ => himg, fun _ => htherm, fun _ => hdma, fun _ => hplan, nofun⟩
  | hrqEntry die => exact .engines (execHrqEntry_kept die s)
  | suspendLatencyDone die => exact .engines (execSuspendLatencyDone_kept die s)
  | arrayReadDone die read => exact .engines (execArrayReadDone_kept die read s)
  | frameDataOutDone die read => exact .engines (execFrameDataOutDone_kept die read s)
  | dataInPageDone die => exact .engines (execDataInPageDone_kept die s)
  | statusPoll die ready failPlanes writeProtected => exact .engines (execStatusPoll_kept die ready failPlanes writeProtected s)
  | operationTimeout die => exact .engines (execOperationTimeout_kept die s)
  | resetLunDone die ready => exact .engines (execResetLunDone_kept die ready s)
  | zqCalShort ch target passed => exact .engines (execZqCalShort_kept ch target passed s)
  | frameDecodeDone job converged corrected => exact .engines (execFrameDecodeDone_kept job converged corrected s)
  | recalStart => exact .engines (execRecalStart_kept s)
  | patrolVisit => exact .engines (execPatrolVisit_kept s)
  | reconstructDone job => exact .engines (execReconstructDone_kept job s)
  | unitAdmit unit => exact .engines (execUnitAdmit_kept unit s)
  | skiverUnitDone unit engine checkOk => exact .engines (execSkiverUnitDone_kept unit engine checkOk s)
  | cipherRequestDone request pair outputsMatch => exact .of (execCipherRequestDone_kept request pair outputsMatch s) fun _ ⟨hwheel, hplan, _, hdma, htherm, himg⟩ => .all hwheel hplan hdma htherm himg
  | slotRewriteInstall slot => exact .engines (execSlotRewriteInstall_kept slot s)
  | girthCloseStart stream => exact .engines (execGirthCloseStart_kept stream s)
  | girthCloseAge stream => exact .engines (execGirthCloseAge_kept stream s)
  | setOpen stream => exact .engines (execSetOpen_kept stream s)
  | hostGirthOpenWaitEnd stream => exact .engines (execHostGirthOpenWaitEnd_kept stream s)
  | ledgerPageWrite => exact .engines (execLedgerPageWrite_kept s)
  | rebuildTake => exact .engines (execRebuildTake_kept s)
  | victimTake => exact .engines (execVictimTake_kept s)
  | eraseGateOpen block => exact .engines (execEraseGateOpen_kept block s)
  | journalStageAge seg => exact .engines (execJournalStageAge_kept seg s)
  | rootSnapshot => exact .engines (execRootSnapshot_kept s)
  | backupFailEnter => exact .engines (execBackupFailEnter_kept s)
  | backupFailEnd => exact .engines (execBackupFailEnd_kept s)
  | pwrfailNFall => exact .engines (execPwrfailNFall_kept s)
  | pwrfailFilterExpire => exact .of (execPwrfailFilterExpire_kept s) fun _ ⟨_, hdma, htherm, himg, _⟩ => ⟨fun _ => himg, fun _ => htherm, fun _ => hdma, nofun, nofun⟩
  | pwrfailNRise => exact .engines (execPwrfailNRise_kept s)
  | dumpUnitProgramDone girth member ok => exact .engines (execDumpUnitProgramDone_kept girth member ok s)
  | perstAssert rein => exact .of (execPerstAssert_kept rein s) fun _ ⟨hplan, _, hdma, himg, _⟩ => ⟨fun _ => himg, nofun, fun _ => hdma, fun _ => hplan, nofun⟩
  | perstRelease rein => exact .of (execPerstRelease_kept rein s) fun _ ⟨hwheel, hplan, _, hdma, htherm, himg, _⟩ => .all hwheel hplan hdma htherm himg
  | hotReset rein => exact .of (execHotReset_kept rein s) fun _ ⟨hplan, _, hdma, himg, _⟩ => ⟨fun _ => himg, nofun, fun _ => hdma, fun _ => hplan, nofun⟩
  | linkDown rein => exact .of (execLinkDown_enginesKept rein s) fun _ ⟨hwheel, hplan, hdma, htherm, himg⟩ => .all hwheel hplan hdma htherm himg
  | linkUp rein link => exact .of (execLinkUp_kept rein link s) fun _ ⟨hwheel, hplan, _, hdma, htherm, himg, _⟩ => .all hwheel hplan hdma htherm himg
  | linkRecovery rein link => exact .of (execLinkRecovery_kept rein link s) fun _ ⟨hwheel, hplan, _, hdma, htherm, himg, _⟩ => .all hwheel hplan hdma htherm himg
  | functionLevelReset port => exact .of (execFunctionLevelReset_kept port s) fun _ ⟨hplan, _, hdma, himg, _⟩ => ⟨fun _ => himg, nofun, fun _ => hdma, fun _ => hplan, nofun⟩
  | ccEnSet port => exact .of (execCcEnSet_kept port s) fun _ ⟨_, _, hdma, htherm, himg, _⟩ => ⟨fun _ => himg, fun _ => htherm, fun _ => hdma, nofun, nofun⟩
  | ccEnClear port => exact .of (execCcEnClear_kept port s) fun _ ⟨hplan, _, hdma, himg, _⟩ => ⟨fun _ => himg, nofun, fun _ => hdma, fun _ => hplan, nofun⟩
  | ccShnWrite port value => exact .of (execCcShnWrite_kept port value s) fun _ ⟨_, hdma, htherm, himg, _⟩ => ⟨fun _ => himg, fun _ => htherm, fun _ => hdma, nofun, nofun⟩
  | sqTailDoorbell port qid value => exact .frame (execSqTailDoorbell_kept port qid value s)
  | cqHeadDoorbell port cqid value => exact .of (execCqHeadDoorbell_kept port cqid value s) fun _ ⟨hwheel, hplan, _, hdma, htherm, himg⟩ => .all hwheel hplan hdma htherm himg
  | registerWrite port reg value => exact .of (execRegisterWrite_kept port reg value s) fun _ ⟨hplan, _, hdma, himg, _⟩ => ⟨fun _ => himg, nofun, fun _ => hdma, fun _ => hplan, nofun⟩
  | entryFetch port qid entry => exact .engines (execEntryFetch_kept port qid entry s)
  | twinLagExpire ctrl qid side => exact .engines (execTwinLagExpire_kept ctrl qid side s)
  | keeperFilterExpire rein => exact .of (execKeeperFilterExpire_kept rein s) fun _ ⟨hwheel, hplan, _, hdma, htherm, himg⟩ => .all hwheel hplan hdma htherm himg
  | leaseStart rein => exact .of (execLeaseStart_kept rein s) fun _ ⟨hwheel, hplan, _, hdma, htherm, himg⟩ => .all hwheel hplan hdma htherm himg
  | leaseEnd rein => exact .of (execLeaseEnd_kept rein s) fun _ ⟨hwheel, hplan, _, hdma, htherm, himg⟩ => .all hwheel hplan hdma htherm himg
  | reinSelfTestPeriodic rein eyes => exact .of (execReinSelfTestPeriodic_kept rein eyes s) fun _ ⟨hwheel, hplan, _, hdma, htherm, himg, _⟩ => .all hwheel hplan hdma htherm himg
  | deleteIoSq tag => exact .engines (execDeleteIoSq_kept tag s)
  | createIoSq tag => exact .frame (execCreateIoSq_kept tag s)
  | deleteIoCq tag => exact .frame (execDeleteIoCq_kept tag s)
  | createIoCq tag => exact .frame (execCreateIoCq_kept tag s)
  | abort tag => exact .engines (execAbort_kept tag s)
  | asyncEventRequest tag => exact .frame (execAsyncEventRequest_kept tag s)
  | identifyNamespace tag => exact .frame (execIdentifyNamespace_kept tag s)
  | identifyController tag => exact .frame (execIdentifyController_kept tag s)
  | identifyActiveNsList tag => exact .frame (execIdentifyActiveNsList_kept tag s)
  | identifyNsIdDescriptors tag => exact .frame (execIdentifyNsIdDescriptors_kept tag s)
  | identifyCssNamespace tag => exact .frame (execIdentifyCssNamespace_kept tag s)
  | identifyCssController tag => exact .frame (execIdentifyCssController_kept tag s)
  | identifyCssIndependentNs tag => exact .frame (execIdentifyCssIndependentNs_kept tag s)
  | identifyAllocatedNsList tag => exact .frame (execIdentifyAllocatedNsList_kept tag s)
  | identifyAllocatedNamespace tag => exact .frame (execIdentifyAllocatedNamespace_kept tag s)
  | identifyAttachedCtrlList tag => exact .frame (execIdentifyAttachedCtrlList_kept tag s)
  | identifyControllerList tag => exact .frame (execIdentifyControllerList_kept tag s)
  | identifyPrimaryCtrlCaps tag => exact .frame (execIdentifyPrimaryCtrlCaps_kept tag s)
  | identifySecondaryCtrlList tag => exact .frame (execIdentifySecondaryCtrlList_kept tag s)
  | identifyIoCmdSet tag => exact .frame (execIdentifyIoCmdSet_kept tag s)
  | getLogSupportedPages tag => exact .frame (execGetLogSupportedPages_kept tag s)
  | getLogErrorInfo tag => exact .frame (execGetLogErrorInfo_kept tag s)
  | getLogSmart tag => exact .frame (execGetLogSmart_kept tag s)
  | getLogFwSlot tag => exact .frame (execGetLogFwSlot_kept tag s)
  | getLogCmdEffects tag => exact .frame (execGetLogCmdEffects_kept tag s)
  | getLogSelfTest tag => exact .frame (execGetLogSelfTest_kept tag s)
  | getLogEndurance tag => exact .frame (execGetLogEndurance_kept tag s)
  | getLogLbaStatus tag => exact .frame (execGetLogLbaStatus_kept tag s)
  | getLogFdpConfigs tag => exact .frame (execGetLogFdpConfigs_kept tag s)
  | getLogRuhUsage tag => exact .frame (execGetLogRuhUsage_kept tag s)
  | getLogFdpStats tag => exact .frame (execGetLogFdpStats_kept tag s)
  | getLogFdpEvents tag => exact .frame (execGetLogFdpEvents_kept tag s)
  | getLogSanitizeStatus tag => exact .frame (execGetLogSanitizeStatus_kept tag s)
  | getLogWheelPlan tag => exact .frame (execGetLogWheelPlan_kept tag s)
  | getLogGirthHealth tag => exact .frame (execGetLogGirthHealth_kept tag s)
  | getLogEventCounters tag => exact .frame (execGetLogEventCounters_kept tag s)
  | getLogEventCountersClear tag => exact .frame (execGetLogEventCountersClear_kept tag s)
  | getLogSaddlebagRing tag => exact .frame (execGetLogSaddlebagRing_kept tag s)
  | getLogSaddlebagRelease tag => exact .frame (execGetLogSaddlebagRelease_kept tag s)
  | getLogSaddlebagPersisted tag => exact .frame (execGetLogSaddlebagPersisted_kept tag s)
  | saddlebagTransferEnd tag => exact .frame (execSaddlebagTransferEnd_kept tag s)
  | getLogIdentity tag => exact .frame (execGetLogIdentity_kept tag s)
  | getLogSecureDiscard tag => exact .frame (execGetLogSecureDiscard_kept tag s)
  | getLogReinHealth tag => exact .frame (execGetLogReinHealth_kept tag s)
  | setFeaturesArbitration tag => exact .frame (execSetFeaturesArbitration_kept tag s)
  | getFeaturesArbitration tag => exact .frame (execGetFeaturesArbitration_kept tag s)
  | setFeaturesPsOperational tag => exact .frame (execSetFeaturesPsOperational_kept tag s)
  | setFeaturesPs4 tag => exact .frame (execSetFeaturesPs4_kept tag s)
  | ps4EntryEnd => exact .of (execPs4EntryEnd_kept s) fun _ ⟨hwheel, hplan, _, hdma, htherm, himg, _⟩ => .all hwheel hplan hdma htherm himg
  | ps4ExitDone => exact .of (execPs4ExitDone_kept s) fun _ ⟨hwheel, hplan, _, hdma, htherm, himg⟩ => .all hwheel hplan hdma htherm himg
  | getFeaturesPowerMgmt tag => exact .frame (execGetFeaturesPowerMgmt_kept tag s)
  | setFeaturesTempThreshold tag => exact .of (execSetFeaturesTempThreshold_kept tag s) fun _ ⟨hwheel, hplan, _, _, hdma, himg, _⟩ => ⟨fun _ => himg, nofun, fun _ => hdma, fun _ => hplan, fun _ => hwheel⟩
  | getFeaturesTempThreshold tag => exact .frame (execGetFeaturesTempThreshold_kept tag s)
  | setFeaturesNumQueues tag => exact .frame (execSetFeaturesNumQueues_kept tag s)
  | getFeaturesNumQueues tag => exact .frame (execGetFeaturesNumQueues_kept tag s)
  | setFeaturesIntCoalescing tag => exact .frame (execSetFeaturesIntCoalescing_kept tag s)
  | getFeaturesIntCoalescing tag => exact .frame (execGetFeaturesIntCoalescing_kept tag s)
  | setFeaturesIntVectorCfg tag => exact .frame (execSetFeaturesIntVectorCfg_kept tag s)
  | getFeaturesIntVectorCfg tag => exact .frame (execGetFeaturesIntVectorCfg_kept tag s)
  | setFeaturesAsyncEventCfg tag => exact .frame (execSetFeaturesAsyncEventCfg_kept tag s)
  | getFeaturesAsyncEventCfg tag => exact .frame (execGetFeaturesAsyncEventCfg_kept tag s)
  | setFeaturesFdp tag => exact .engines (execSetFeaturesFdp_kept tag s)
  | getFeaturesFdp tag => exact .frame (execGetFeaturesFdp_kept tag s)
  | setFeaturesFdpEvents tag types => exact .frame (execSetFeaturesFdpEvents_kept tag types s)
  | getFeaturesFdpEvents tag => exact .frame (execGetFeaturesFdpEvents_kept tag s)
  | setFeaturesWheelCfg tag buf => exact .of (execSetFeaturesWheelCfg_kept tag buf s) fun _ ⟨hplan, _, _, hdma, htherm, himg, _⟩ => ⟨fun _ => himg, fun _ => htherm, fun _ => hdma, fun _ => hplan, nofun⟩
  | getFeaturesWheelCfg tag => exact .frame (execGetFeaturesWheelCfg_kept tag s)
  | setFeaturesTwinRein tag buf => exact .of (execSetFeaturesTwinRein_kept tag buf s) fun _ ⟨hwheel, hplan, _, hdma, htherm, himg⟩ => .all hwheel hplan hdma htherm himg
  | getFeaturesTwinRein tag => exact .frame (execGetFeaturesTwinRein_kept tag s)
  | setFeaturesThrottleGrace tag buf => exact .of (execSetFeaturesThrottleGrace_kept tag buf s) fun _ ⟨hwheel, hplan, _, _, hdma, himg, _⟩ => ⟨fun _ => himg, nofun, fun _ => hdma, fun _ => hplan, fun _ => hwheel⟩
  | getFeaturesThrottleGrace tag => exact .frame (execGetFeaturesThrottleGrace_kept tag s)
  | setFeaturesCounterSelect tag buf => exact .frame (execSetFeaturesCounterSelect_kept tag buf s)
  | getFeaturesCounterSelect tag => exact .frame (execGetFeaturesCounterSelect_kept tag s)
  | setFeaturesDirtyWindow tag buf => exact .engines (execSetFeaturesDirtyWindow_kept tag buf s)
  | getFeaturesDirtyWindow tag => exact .frame (execGetFeaturesDirtyWindow_kept tag s)
  | setFeaturesSkiver tag buf => exact .engines (execSetFeaturesSkiver_kept tag buf s)
  | getFeaturesSkiver tag => exact .frame (execGetFeaturesSkiver_kept tag s)
  | cipherBindSet tag buf => exact .frame (execCipherBindSet_kept tag buf s)
  | cipherBindGet tag => exact .frame (execCipherBindGet_kept tag s)
  | cipherBlobPart tag buf => exact .engines (execCipherBlobPart_kept tag buf s)
  | cipherErase tag => exact .engines (execCipherErase_kept tag s)
  | cipherLabel tag buf => exact .engines (execCipherLabel_kept tag buf s)
  | cipherStatus tag => exact .frame (execCipherStatus_kept tag s)
  | namespaceCreate tag spec => exact .engines (execNamespaceCreate_kept tag spec s)
  | namespaceDelete tag => exact .engines (execNamespaceDelete_kept tag s)
  | namespaceAttach tag ctrls => exact .frame (execNamespaceAttach_kept tag ctrls s)
  | namespaceDetach tag ctrls => exact .frame (execNamespaceDetach_kept tag ctrls s)
  | selfTestShort tag => exact .frame (execSelfTestShort_kept tag s)
  | selfTestExtended tag => exact .frame (execSelfTestExtended_kept tag s)
  | selfTestAbort tag => exact .frame (execSelfTestAbort_kept tag s)
  | nvmeMiSend tag request => exact .frame (execNvmeMiSend_kept tag request s)
  | nvmeMiReceive tag => exact .frame (execNvmeMiReceive_kept tag s)
  | formatNvmErase tag => exact .engines (execFormatNvmErase_kept tag s)
  | formatNvmCrypto tag => exact .engines (execFormatNvmCrypto_kept tag s)
  | sanitizeBlockErase tag => exact .engines (execSanitizeBlockErase_kept tag s)
  | sanitizeCryptoErase tag => exact .engines (execSanitizeCryptoErase_kept tag s)
  | sanitizeExitFailure tag => exact .frame (execSanitizeExitFailure_kept tag s)
  | sanitizeOverwrite tag => exact .frame (execSanitizeOverwrite_kept tag s)
  | getLbaStatus tag => exact .frame (execGetLbaStatus_kept tag s)
  | unsupportedAdminCommand tag => exact .frame (execUnsupportedAdminCommand_kept tag s)
  | tackLease tag packet => exact .of (execTackLease_kept tag packet s) fun _ ⟨hwheel, hplan, _, hdma, htherm, himg⟩ => .all hwheel hplan hdma htherm himg
  | wheelStatus tag => exact .frame (execWheelStatus_kept tag s)
  | tsStatus tag => exact .frame (execTsStatus_kept tag s)
  | tsReadImage tag => exact .frame (execTsReadImage_kept tag s)
  | tsUpdBegin tag => exact .frame (execTsUpdBegin_kept tag s)
  | tsUpdData tag data => exact .frame (execTsUpdData_kept tag data s)
  | tsUpdCommit tag => exact .frame (execTsUpdCommit_kept tag s)
  | tsUpdCancel tag => exact .frame (execTsUpdCancel_kept tag s)
  | tsSetKey tag data => exact .frame (execTsSetKey_kept tag data s)
  | tsLock tag => exact .frame (execTsLock_kept tag s)
  | tsUnlock tag => exact .frame (execTsUnlock_kept tag s)
  | tsEraseImage tag => exact .frame (execTsEraseImage_kept tag s)
  | tsSetId tag data => exact .frame (execTsSetId_kept tag data s)
  | tsRefresh tag => exact .frame (execTsRefresh_kept tag s)
  | flush tag => exact .frame (execFlush_kept tag s)
  | write tag data pi => exact .engines (execWrite_kept tag data pi s)
  | read tag => exact .engines (execRead_kept tag s)
  | compare tag data => exact .engines (execCompare_kept tag data s)
  | writeZeroes tag => exact .engines (execWriteZeroes_kept tag s)
  | dsmDeallocate tag ranges => exact .engines (execDsmDeallocate_kept tag ranges s)
  | dsmNoDeallocate tag => exact .frame (execDsmNoDeallocate_kept tag s)
  | verify tag => exact .engines (execVerify_kept tag s)
  | ioMgmtReceive tag => exact .frame (execIoMgmtReceive_kept tag s)
  | ruhUpdate tag handles => exact .engines (execRuhUpdate_kept tag handles s)
  | skiveStream tag input chain => exact .engines (execSkiveStream_kept tag input chain s)
  | unskiveStream tag input chain => exact .engines (execUnskiveStream_kept tag input chain s)
  | keyedCheckCompute tag data => exact .engines (execKeyedCheckCompute_kept tag data s)
  | keyedCheckVerify tag data => exact .engines (execKeyedCheckVerify_kept tag data s)
  | secureDiscard tag ranges => exact .engines (execSecureDiscard_kept tag ranges s)
  | unsupportedIoCommand tag => exact .frame (execUnsupportedIoCommand_kept tag s)
  | dramBurstDecode addr badSymbols place => exact .of (execDramBurstDecode_kept addr badSymbols place s) fun _ ⟨hwheel, _, hdma, htherm, himg⟩ => ⟨fun _ => himg, fun _ => htherm, fun _ => hdma, nofun, fun _ => hwheel⟩
  | laneCounterWindow => exact .of (execLaneCounterWindow_kept s) fun _ ⟨hwheel, hplan, _, hdma, htherm, himg, _⟩ => .all hwheel hplan hdma htherm himg
  | dramScrubRead badSymbols => exact .of (execDramScrubRead_kept badSymbols s) fun _ ⟨hwheel, hplan, _, hdma, htherm, himg, _⟩ => .all hwheel hplan hdma htherm himg
  | dramRefreshDue ch rank bank => exact .of (execDramRefreshDue_kept ch rank bank s) fun _ ⟨hwheel, hplan, _, hdma, htherm, himg, _⟩ => .all hwheel hplan hdma htherm himg
  | neighbourRefresh ch rank bank => exact .of (execNeighbourRefresh_kept ch rank bank s) fun _ ⟨hwheel, hplan, _, hdma, htherm, himg, _⟩ => .all hwheel hplan hdma htherm himg
  | rankPowerDown ch rank idleNs => exact .of (execRankPowerDown_kept ch rank idleNs s) fun _ ⟨hwheel, hplan, _, hdma, htherm, himg, _⟩ => .all hwheel hplan hdma htherm himg
  | mcFillDone bank crcOk err => exact .of (execMcFillDone_kept bank crcOk err s) fun _ ⟨hwheel, hplan, _, hdma, htherm, himg⟩ => .all hwheel hplan hdma htherm himg
  | mcWritebackDone bank => exact .of (execMcWritebackDone_kept bank s) fun _ ⟨hwheel, hplan, _, hdma, htherm, himg⟩ => .all hwheel hplan hdma htherm himg
  | mcDisableRequest banks => exact .engines (execMcDisableRequest_kept banks s)
  | mcEnableRequest banks => exact .engines (execMcEnableRequest_kept banks s)
  | dmaDescAppend ch desc => exact .of (execDmaDescAppend_kept ch desc s) fun _ ⟨hwheel, hplan, _, _, htherm, himg, _⟩ => ⟨fun _ => himg, fun _ => htherm, nofun, fun _ => hplan, fun _ => hwheel⟩
  | dmaBurstDone poisoned => exact .of (execDmaBurstDone_kept poisoned s) fun _ ⟨hwheel, hplan, _, _, htherm, himg, _⟩ => ⟨fun _ => himg, fun _ => htherm, nofun, fun _ => hplan, fun _ => hwheel⟩
  | dmaFifoDrained fifo fill => exact .of (execDmaFifoDrained_kept fifo fill s) fun _ ⟨hwheel, hplan, _, _, htherm, himg, _⟩ => ⟨fun _ => himg, fun _ => htherm, nofun, fun _ => hplan, fun _ => hwheel⟩
  | dmaPause ch holder => exact .of (execDmaPause_kept ch holder s) fun _ ⟨hwheel, hplan, _, _, htherm, himg, _⟩ => ⟨fun _ => himg, fun _ => htherm, nofun, fun _ => hplan, fun _ => hwheel⟩
  | dmaRelease ch holder => exact .of (execDmaRelease_kept ch holder s) fun _ ⟨hwheel, hplan, _, htherm, himg⟩ => ⟨fun _ => himg, fun _ => htherm, nofun, fun _ => hplan, fun _ => hwheel⟩
  | dmaAbort ch => exact .of (execDmaAbort_kept ch s) fun _ ⟨hwheel, hplan, _, _, htherm, himg, _⟩ => ⟨fun _ => himg, fun _ => htherm, nofun, fun _ => hplan, fun _ => hwheel⟩
  | sensorConversion readings => exact .of (execSensorConversion_kept readings s) fun _ ⟨hdma, himg, _⟩ => ⟨fun _ => himg, nofun, fun _ => hdma, nofun, nofun⟩
  | sensorNoConversion sensor => exact .of (execSensorNoConversion_kept sensor s) fun _ ⟨hwheel, hplan, _, _, hdma, himg, _⟩ => ⟨fun _ => himg, nofun, fun _ => hdma, fun _ => hplan, fun _ => hwheel⟩
  | sensorWorksAgain sensor => exact .of (execSensorWorksAgain_kept sensor s) fun _ ⟨hwheel, hplan, _, _, hdma, himg, _⟩ => ⟨fun _ => himg, nofun, fun _ => hdma, fun _ => hplan, fun _ => hwheel⟩
  | thermalLevelFall => exact .of (execThermalLevelFall_kept s) fun _ ⟨hwheel, hplan, _, _, hdma, himg, _⟩ => ⟨fun _ => himg, nofun, fun _ => hdma, fun _ => hplan, fun _ => hwheel⟩
  | graceExpire second => exact .of (execGraceExpire_kept second s) fun _ ⟨hwheel, hplan, _, _, hdma, himg, _⟩ => ⟨fun _ => himg, nofun, fun _ => hdma, fun _ => hplan, fun _ => hwheel⟩
  | tripResume => exact .named (execTripResume_kept s) fun _ => ⟨nofun, nofun, nofun, nofun, nofun⟩
  | reserveCompUpdate => exact .of (execReserveCompUpdate_kept s) fun _ ⟨hwheel, hplan, _, _, hdma, himg, _⟩ => ⟨fun _ => himg, nofun, fun _ => hdma, fun _ => hplan, fun _ => hwheel⟩
  | tsOpDone result => exact .named (execTsOpDone_kept result s) fun _ => ⟨nofun, nofun, nofun, nofun, nofun⟩
  | tsScrubRead found => exact .engines (execTsScrubRead_kept found s)
  | faultReport code sev => exact .of (execFaultReport_kept code sev s) fun _ htherm => ⟨nofun, fun _ => htherm, nofun, nofun, nofun⟩
  | faultStepDone => exact .of (execFaultStepDone_kept s) fun _ ⟨htherm, himg, _⟩ => ⟨fun _ => himg, fun _ => htherm, nofun, nofun, nofun⟩
  | fatalCompletionsWritten => exact .of (execFatalCompletionsWritten_kept s) fun _ ⟨htherm, himg, _⟩ => ⟨fun _ => himg, fun _ => htherm, nofun, nofun, nofun⟩
  | mainDomainStall => exact .of (execMainDomainStall_kept s) fun _ ⟨htherm, himg, _⟩ => ⟨fun _ => himg, fun _ => htherm, nofun, nofun, nofun⟩
  | vddIoFall => exact .named (execVddIoFall_kept s) fun _ => ⟨nofun, nofun, nofun, nofun, nofun⟩
  | jtagTapReset => exact .engines (execJtagTapReset_kept s)
  | jtagBypass => exact .engines (execJtagBypass_kept s)
  | jtagIdcode => exact .engines (execJtagIdcode_kept s)
  | jtagSamplePreload cells => exact .engines (execJtagSamplePreload_kept cells s)
  | jtagExtest => exact .of (execJtagExtest_kept s) fun _ ⟨hdma, htherm, himg, _⟩ => ⟨fun _ => himg, fun _ => htherm, fun _ => hdma, nofun, nofun⟩
  | jtagClamp => exact .of (execJtagClamp_kept s) fun _ ⟨hdma, htherm, himg, _⟩ => ⟨fun _ => himg, fun _ => htherm, fun _ => hdma, nofun, nofun⟩
  | jtagHighz => exact .of (execJtagHighz_kept s) fun _ ⟨hdma, htherm, himg, _⟩ => ⟨fun _ => himg, fun _ => htherm, fun _ => hdma, nofun, nofun⟩
  | sidebandMiCommand request => exact .frame (execSidebandMiCommand_kept request s)
  | i3cBroadcast => exact .frame (execI3cBroadcast_kept s)
  | keeperBallChange rein level => exact .of (execKeeperBallChange_kept rein level s) fun _ ⟨hwheel, hplan, _, hdma, htherm, himg, _⟩ => .all hwheel hplan hdma htherm himg
  | pwrfailNHighFilterExpire => exact .named (execPwrfailNHighFilterExpire_kept s) fun _ => ⟨nofun, nofun, nofun, nofun, nofun⟩
  | i3cResetAction => exact .frame (execI3cResetAction_kept s)
  | dumpRowStep => exact .engines (execDumpRowStep_kept s)
  | hostMemoryError tag addr => exact .of (execHostMemoryError_kept tag addr s) fun _ ⟨hwheel, hplan, _, hdma, htherm, himg⟩ => .all hwheel hplan hdma htherm himg
  | malformedTlp rein => exact .of (execMalformedTlp_kept rein s) fun _ ⟨hwheel, hplan, _, hdma, htherm, himg, _⟩ => .all hwheel hplan hdma htherm himg
  | identifyUnsupportedCns tag => exact .frame (execIdentifyUnsupportedCns_kept tag s)
  | getLogUnsupportedPage tag => exact .frame (execGetLogUnsupportedPage_kept tag s)
  | featuresUnsupportedId tag => exact .frame (execFeaturesUnsupportedId_kept tag s)
  | tsAccessUnlistedOp tag => exact .frame (execTsAccessUnlistedOp_kept tag s)

/-- Settles O58: each command's own frame, and the lists. -/
theorem enginesChangeByTheirOwnCommands : Obligations.EnginesChangeByTheirOwnCommands := by
  intro i s t h
  obtain ⟨u, hu, -, kept⟩ := exec_keeps i s
  obtain rfl : u = t := Host.Outcome.next.inj (hu.symm.trans h)
  exact ⟨kept.img, kept.therm, kept.dma, kept.plan, kept.wheel⟩

end Sys2Proof.Machine
end

section
/-! The reset state (O60). A field that `State.reset` does not set holds its default, and only the tables in force are set. -/
namespace Sys2Proof.Machine

theorem reset_wheel_bounded : State.reset.wheel.Bounded := by
  unfold WheelState.Bounded
  decide

/-- Every counter is at its default, disabled and restricted to no instance (R393). -/
theorem reset_counters : State.reset.obs.counters = List.replicate 64 {} := rfl

/-- Both reins are as at power-on: PERST low, no link, counters at 0 (R254). -/
theorem reset_port (r : Rein) : State.reset.port r = {} := by cases r <;> rfl

/-- Settles O60: the reset state field by field. -/
theorem resetLeavesTheStatedValues : Obligations.ResetLeavesTheStatedValues := by
  unfold Obligations.ResetLeavesTheStatedValues
  refine ⟨reset_wheel_bounded, rfl, rfl, rfl, rfl, ?wheel, ?thermal, rfl, ?counters, ?ports, ?dram, ?fault, ?front, rfl, ?idcode, rfl, rfl, rfl, rfl, rfl, rfl⟩
  case wheel => decide
  case thermal => decide
  case counters =>
    rw [reset_counters]
    refine ⟨List.length_replicate, fun k hk => ?_⟩
    rw [List.eq_of_mem_replicate hk]
    exact ⟨rfl, rfl, rfl, rfl⟩
  case ports =>
    intro r
    rw [reset_port]
    exact ⟨rfl, rfl, rfl, rfl⟩
  case dram => decide
  case fault => decide
  case front => decide
  case idcode => decide

end Sys2Proof.Machine
end

section
/-! The controllers' table through the operations of the front end: which of them leave every controller as it is. Only `modCtrl` writes the table. -/
namespace Sys2Proof.Machine

@[simp] theorem ite_ctrls (c : Prop) [Decidable c] (a b : State) : (if c then a else b).fe.ctrls = if c then a.fe.ctrls else b.fe.ctrls := by split <;> rfl
theorem foldl_ctrls {α : Type} (g : State → α → State) (h : ∀ s a, (g s a).fe.ctrls = s.fe.ctrls) (l : List α) (s : State) : (l.foldl g s).fe.ctrls = s.fe.ctrls :=
  fold_left (fun s => s.fe.ctrls) g h l s

/-! ### Completions -/

@[simp] theorem State.modCmd_ctrls (s : State) (tag : Nat) (f : Cmd → Cmd) : (s.modCmd tag f).fe.ctrls = s.fe.ctrls := rfl
@[simp] theorem State.setSq_ctrls (s : State) (k : Nat) (q : Sq) : (s.setSq k q).fe.ctrls = s.fe.ctrls := rfl
@[simp] theorem State.setCq_ctrls (s : State) (k : Nat) (q : Cq) : (s.setCq k q).fe.ctrls = s.fe.ctrls := rfl
@[simp] theorem State.leasePosted_ctrls (s : State) (tag : Nat) : (s.leasePosted tag).fe.ctrls = s.fe.ctrls := rfl
@[simp] theorem State.addError_ctrls (s : State) (a b c d e f g : Nat) : (s.addError a b c d e f g).fe.ctrls = s.fe.ctrls := rfl
@[simp] theorem State.smartCount_ctrls (s : State) (c : Cmd) (ok : Bool) : (s.smartCount c ok).fe.ctrls = s.fe.ctrls := by simp [State.smartCount]
@[simp] theorem State.countCompleted_ctrls (s : State) (c : Cmd) : (s.countCompleted c).fe.ctrls = s.fe.ctrls := by simp [State.countCompleted]
@[simp] theorem State.tunnelEnds_ctrls (s : State) (c : Cmd) (r : CmdResult) : (s.tunnelEnds c r).fe.ctrls = s.fe.ctrls := by simp [State.tunnelEnds]
@[simp] theorem State.postSide_ctrls (s : State) (tag : Nat) (r : CmdResult) (o : Rein × Nat) : (s.postSide tag r o).fe.ctrls = s.fe.ctrls := by
  unfold State.postSide; (repeat' split) <;> simp
@[simp] theorem State.freeIfDone_ctrls (s : State) (tag : Nat) : (s.freeIfDone tag).fe.ctrls = s.fe.ctrls := by
  unfold State.freeIfDone; split <;> simp
@[simp] theorem State.postCmd_ctrls (s : State) (tag : Nat) : (s.postCmd tag).fe.ctrls = s.fe.ctrls := by
  unfold State.postCmd; (repeat' split) <;> simp [foldl_ctrls]
@[simp] theorem State.postMismatch_ctrls (s : State) (m : Nat × Rein × BitVec 32 × CqEntry) : (s.postMismatch m).fe.ctrls = s.fe.ctrls := by
  unfold State.postMismatch; (repeat' split) <;> simp
@[simp] theorem State.postAll_ctrls (s : State) : s.postAll.fe.ctrls = s.fe.ctrls := by simp [State.postAll, foldl_ctrls]
@[simp] theorem State.finishCode_ctrls (s : State) (tag : Nat) (r : CmdResult) (code : Nat) : (s.finishCode tag r code).fe.ctrls = s.fe.ctrls := by
  unfold State.finishCode; split <;> simp
@[simp] theorem State.finish_ctrls (s : State) (tag : Nat) (r : CmdResult) : (s.finish tag r).fe.ctrls = s.fe.ctrls := by simp [State.finish]
@[simp] theorem State.leaveSaturations_ctrls (s : State) : s.leaveSaturations.fe.ctrls = s.fe.ctrls := by simp [State.leaveSaturations, foldl_ctrls]
@[simp] theorem State.settleFront_ctrls (s : State) : s.settleFront.fe.ctrls = s.fe.ctrls := by simp [State.settleFront]

/-! ### Sides that leave, jobs that end, and fences -/

@[simp] theorem State.dropOwed_ctrls (s : State) (k : Nat) (r : Rein) : (s.dropOwed k r).fe.ctrls = s.fe.ctrls := rfl
@[simp] theorem State.orphanCmds_ctrls (s : State) (k : Nat) : (s.orphanCmds k).fe.ctrls = s.fe.ctrls := rfl
@[simp] theorem State.moveCmd_ctrls (s : State) (r : Rein) (tag : Nat) : (s.moveCmd r tag).fe.ctrls = s.fe.ctrls := by
  unfold State.moveCmd; split <;> simp
@[simp] theorem State.detachSide_ctrls (s : State) (k : Nat) (r : Rein) (reason : Nat) : (s.detachSide k r reason).fe.ctrls = s.fe.ctrls := by
  unfold State.detachSide; (repeat' split) <;> simp [foldl_ctrls]
@[simp] theorem State.slotRead_ctrls (s : State) (g : Nat) : (s.slotRead g).fe.ctrls = s.fe.ctrls := rfl
@[simp] theorem State.jobLeavesSlot_ctrls (s : State) (t : Nat) : (s.jobLeavesSlot t).fe.ctrls = s.fe.ctrls := by
  unfold State.jobLeavesSlot; split <;> simp
@[simp] theorem State.dropJob_ctrls (s : State) (t : Nat) : (s.dropJob t).fe.ctrls = s.fe.ctrls := by
  unfold State.dropJob; dsimp only; split <;> simp
@[simp] theorem State.endFenced_ctrls (s : State) (r : Rein) : (s.endFenced r).fe.ctrls = s.fe.ctrls := by simp [State.endFenced, foldl_ctrls]
@[simp] theorem State.fenceMoved_ctrls (s : State) (r : Rein) : (s.fenceMoved r).fe.ctrls = s.fe.ctrls := by simp [State.fenceMoved]
@[simp] theorem State.setFence_ctrls (s : State) (r : Rein) (cause : Nat) (on : Bool) : (s.setFence r cause on).fe.ctrls = s.fe.ctrls := by simp [State.setFence]
@[simp] theorem State.leaseFence_ctrls (s : State) (r : Rein) : (s.leaseFence r).fe.ctrls = s.fe.ctrls := by simp [State.leaseFence]

/-! ### What a controller's reset does to the rest of the front end -/

@[simp] theorem State.cutQueue_ctrls (s : State) (k : Nat) : (s.cutQueue k).fe.ctrls = s.fe.ctrls := by simp [State.cutQueue]
@[simp] theorem State.dropAers_ctrls (s : State) (c : Nat) (r : Rein) : (s.dropAers c r).fe.ctrls = s.fe.ctrls := by simp [State.dropAers]
@[simp] theorem State.dropSide_ctrls (s : State) (c : Nat) (r : Rein) : (s.dropSide c r).fe.ctrls = s.fe.ctrls := rfl
@[simp] theorem State.endTest_ctrls (s : State) (result : Nat) : (s.endTest result).fe.ctrls = s.fe.ctrls := by
  unfold State.endTest; split <;> simp
@[simp] theorem State.endTestOf_ctrls (s : State) (c : Nat) (r : Rein) : (s.endTestOf c r).fe.ctrls = s.fe.ctrls := by
  unfold State.endTestOf; split <;> simp
@[simp] theorem State.endCtx_ctrls (s : State) (n : Nat) : (s.endCtx n).fe.ctrls = s.fe.ctrls := by simp [State.endCtx]
@[simp] theorem State.fdpEvent_ctrls (s : State) (event handle : Nat) : (s.fdpEvent event handle).fe.ctrls = s.fe.ctrls := by simp [State.fdpEvent]
@[simp] theorem State.restoreFeatures_ctrls (s : State) : s.restoreFeatures.fe.ctrls = s.fe.ctrls := by
  simp [State.restoreFeatures, State.setWheel]

end Sys2Proof.Machine
end

section
/-! The reins' ports through the shared operations: what a reset of controllers leaves of them, and of the controllers it does not reach (R9, R251). -/
namespace Sys2Proof.Machine

theorem Rein.other_ne (r : Rein) : r.other ≠ r := by cases r <;> decide
@[simp] theorem State.modPort_port_other (s : State) (r : Rein) (f : ReinPort → ReinPort) : (s.modPort r f).port r.other = s.port r.other :=
  State.modPort_port_ne s r r.other f (Rein.other_ne r)
@[simp] theorem State.modPort_twin (s : State) (r : Rein) (f : ReinPort → ReinPort) : (s.modPort r f).rein.twin = s.rein.twin := by cases r <;> rfl
@[simp] theorem State.modPort_sharedCtrl (s : State) (r : Rein) (f : ReinPort → ReinPort) : (s.modPort r f).sharedCtrl = s.sharedCtrl := by cases r <;> rfl
@[simp] theorem State.leave_port (s : State) (a b : Nat) (xs : List Nat) (r : Rein) : (s.leave a b xs).port r = s.port r := by simp [State.port]
@[simp] theorem State.settleFront_port (s : State) (r : Rein) : s.settleFront.port r = s.port r := by simp [State.port]
@[simp] theorem State.settleFront_ctrl (s : State) (c : Nat) : s.settleFront.ctrl c = s.ctrl c := by simp [State.ctrl]
@[simp] theorem State.modPort_ctrl (s : State) (r : Rein) (f : ReinPort → ReinPort) (c : Nat) : (s.modPort r f).ctrl c = s.ctrl c := rfl

/-! ### What a controller's reset leaves of the reins and of the wheel -/

/-- The reins stand as they were but for their lease fences, functions share controllers as before, and the wheel keeps its time and its mode. -/
structure StandsButFence (s t : State) : Prop where
  port : ∀ r, ∃ on, t.port r = { s.port r with fencedLease := on }
  shared : t.sharedCtrl = s.sharedCtrl
  time : t.wheel.wt = s.wheel.wt ∧ t.wheel.lt = s.wheel.lt ∧ t.wheel.mode = s.wheel.mode

theorem StandsButFence.of_kept {s t : State} (hrein : t.rein = s.rein) (hwheel : t.wheel = s.wheel) : StandsButFence s t where
  port r := ⟨(s.port r).fencedLease, by simp [State.port, hrein]⟩
  shared := by simp [State.sharedCtrl, State.twinMode, hrein]
  time := by simp [hwheel]

theorem StandsButFence.trans {s t u : State} (h : StandsButFence s t) (k : StandsButFence t u) : StandsButFence s u where
  port r := by
    obtain ⟨on, hport⟩ := k.port r
    obtain ⟨was, hbefore⟩ := h.port r
    exact ⟨on, by rw [hport, hbefore]⟩
  shared := k.shared.trans h.shared
  time := ⟨k.time.1.trans h.time.1, k.time.2.1.trans h.time.2.1, k.time.2.2.trans h.time.2.2⟩

theorem StandsButFence.foldl {α : Type} {g : State → α → State} (h : ∀ s a, StandsButFence s (g s a)) (l : List α) (s : State) : StandsButFence s (l.foldl g s) := by
  induction l generalizing s with
  | nil => exact .of_kept rfl rfl
  | cons a l ih => exact (h s a).trans (ih _)

/-- The port of such a state, with its own fence. -/
theorem StandsButFence.port_eq {s t : State} (h : StandsButFence s t) (r : Rein) : t.port r = { s.port r with fencedLease := (t.port r).fencedLease } := by
  obtain ⟨on, hport⟩ := h.port r
  rw [hport]

/-- The two ports after a change of one and what leaves them standing. -/
theorem StandsButFence.ports_of_modPort {s t : State} {r : Rein} {f : ReinPort → ReinPort} (h : StandsButFence (s.modPort r f) t) :
    t.port r = { f (s.port r) with fencedLease := (t.port r).fencedLease } ∧
      t.port r.other = { s.port r.other with fencedLease := (t.port r.other).fencedLease } := by
  have hport := h.port_eq r
  have hother := h.port_eq r.other
  rw [State.modPort_port] at hport
  rw [State.modPort_port_other] at hother
  exact ⟨hport, hother⟩

theorem StandsButFence.ctrlOf {s t : State} (h : StandsButFence s t) (p : Port) : t.ctrlOf p = s.ctrlOf p := by simp [State.ctrlOf, h.shared]

theorem State.modPort_fence_stands (s : State) (r : Rein) (on : Bool) : StandsButFence s (s.modPort r fun p => { p with fencedLease := on }) where
  port y := by
    by_cases hy : y = r
    · subst hy; exact ⟨on, State.modPort_port s y _⟩
    · exact ⟨(s.port y).fencedLease, State.modPort_port_ne s r y _ hy⟩
  shared := s.modPort_sharedCtrl r _
  time := ⟨rfl, rfl, rfl⟩

theorem State.leaseFence_stands (s : State) (r : Rein) : StandsButFence s (s.leaseFence r) := by
  have hset : ∀ on, StandsButFence s (s.setFence r 1 on) := fun on =>
    (s.modPort_fence_stands r on).trans (.of_kept (by simp [State.setFence]) (by simp [State.setFence]))
  unfold State.leaseFence
  dsimp only
  split
  · exact .of_kept rfl rfl
  · exact hset _

/-- The features a reset restores leave the mode in force and the strap of the reins, and the wheel's time and mode (R9, R38). -/
theorem State.restoreFeatures_stands (s : State) : StandsButFence s s.restoreFeatures := by
  unfold State.restoreFeatures
  refine .trans ?_ (State.leaseFence_stands _ .b)
  refine .trans ?_ (State.leaseFence_stands _ .a)
  exact ⟨fun r => ⟨(s.port r).fencedLease, by cases r <;> rfl⟩, rfl, rfl, rfl, rfl⟩

theorem State.controllerReset_stands (s : State) (c : Nat) : StandsButFence s (s.controllerReset c) := by
  unfold State.controllerReset
  refine .trans ?_ (.foldl (fun s t => .of_kept (by simp) (by simp)) _ _)
  refine .trans ?_ (.foldl (fun s h => .of_kept (by simp) (by simp)) _ _)
  refine .trans ?_ (State.restoreFeatures_stands _)
  exact .of_kept (by simp) (by simp)

theorem State.resetSide_stands (s : State) (c : Nat) (r : Rein) (keepRegs : Bool) : StandsButFence s (s.resetSide c r keepRegs) := by
  unfold State.resetSide
  extract_lets cut off
  have hoff : StandsButFence s off := .of_kept (by simp [off, cut]) (by simp [off, cut])
  split
  · exact hoff
  · exact hoff.trans (State.controllerReset_stands off c)

/-! ### What a reset does to the controllers -/

theorem Table.find_eq_none_of_not_mem {α : Type} (t : Table α) (k : Nat) (h : k ∉ t.map (·.1)) : Table.find t k = none := by
  induction t with
  | nil => rfl
  | cons p t ih =>
    obtain ⟨hp, ht⟩ : k ≠ p.1 ∧ k ∉ t.map (·.1) := by simpa using h
    simp [Table.find, hp, ih ht]

/-- A controller that the table does not list is as at reset. -/
theorem State.ctrl_of_not_listed (s : State) (c : Nat) (h : c ∉ s.fe.ctrls.map (·.1)) : s.ctrl c = {} := by
  simp [State.ctrl, Table.getD, Table.find_eq_none_of_not_mem _ _ h]

theorem Ctrl.sideReset_en (x : Ctrl) (r : Rein) (keepRegs : Bool) : (x.sideReset r keepRegs).en r = false := by
  cases r <;> cases keepRegs <;> rfl

theorem State.controllerReset_ctrls (s : State) (c : Nat) :
    (s.controllerReset c).fe.ctrls = Table.set s.fe.ctrls c { s.ctrl c with grantSq := 0, grantCq := 0, intMask := 0 } := by
  simp [State.controllerReset, foldl_ctrls, State.modCtrl, State.ctrl]

theorem State.controllerReset_ctrl_en (s : State) (c : Nat) (r : Rein) : ((s.controllerReset c).ctrl c).en r = (s.ctrl c).en r := by
  rw [State.ctrl, State.controllerReset_ctrls, Table.getD_set_self]
  cases r <;> rfl

theorem State.controllerReset_ctrl_ne (s : State) {c n : Nat} (h : n ≠ c) : (s.controllerReset c).ctrl n = s.ctrl n := by
  rw [State.ctrl, State.controllerReset_ctrls, Table.getD_set_ne _ _ _ _ _ h, State.ctrl]

/-- A side's reset disables its controller on the rein and leaves every other controller. -/
theorem State.resetSide_ctrl (s : State) (c : Nat) (r : Rein) (keepRegs : Bool) :
    ((s.resetSide c r keepRegs).ctrl c).en r = false ∧ ∀ n, n ≠ c → (s.resetSide c r keepRegs).ctrl n = s.ctrl n := by
  unfold State.resetSide
  extract_lets cut off
  have hoff : off.fe.ctrls = Table.set s.fe.ctrls c ((s.ctrl c).sideReset r keepRegs) := by
    simp [off, cut, State.modCtrl, State.ctrl, foldl_ctrls]
  have hself : (off.ctrl c).en r = false := by rw [State.ctrl, hoff, Table.getD_set_self, Ctrl.sideReset_en]
  have hne : ∀ n, n ≠ c → off.ctrl n = s.ctrl n := fun n hn => by rw [State.ctrl, hoff, Table.getD_set_ne _ _ _ _ _ hn, State.ctrl]
  split
  · exact ⟨hself, hne⟩
  · exact ⟨(off.controllerReset_ctrl_en c r).trans hself, fun n hn => (off.controllerReset_ctrl_ne hn).trans (hne n hn)⟩

/-- The sides of a list of controllers are reset one after another. -/
def State.resetSides (s : State) (r : Rein) (keepRegs : Bool) (l : List Nat) : State := l.foldl (fun s c => s.resetSide c r keepRegs) s

theorem State.resetSides_ctrl_of_not_mem (s : State) (r : Rein) (keepRegs : Bool) {l : List Nat} {c : Nat} (h : c ∉ l) :
    (s.resetSides r keepRegs l).ctrl c = s.ctrl c := by
  induction l generalizing s with
  | nil => rfl
  | cons d l ih =>
    obtain ⟨hd, hl⟩ := List.ne_and_not_mem_of_not_mem_cons h
    exact (ih _ hl).trans ((s.resetSide_ctrl d r keepRegs).2 c hd)

/-- A controller of the list is disabled on the rein, and one that was disabled there stays so. -/
theorem State.resetSides_ctrl_en (s : State) (r : Rein) (keepRegs : Bool) {l : List Nat} {c : Nat} (h : c ∈ l ∨ (s.ctrl c).en r = false) :
    ((s.resetSides r keepRegs l).ctrl c).en r = false := by
  induction l generalizing s with
  | nil => simpa [State.resetSides] using h
  | cons d l ih =>
    obtain ⟨hself, hne⟩ := s.resetSide_ctrl d r keepRegs
    refine ih _ ?_
    by_cases hc : c = d
    · subst hc; exact .inr hself
    · rw [hne c hc]; simpa [hc] using h

/-! ### A rein, or a function of it, leaves service (R251) -/

/-- The controllers that a loss of service reaches: the function's, or every one of the rein. -/
def State.reaches (s : State) (r : Rein) : Option Nat → Nat → Bool
  | some f, c => decide (c = s.ctrlOf ⟨r, f⟩)
  | none, c => s.sharedCtrl || decide (c / 64 = r.num)

/-- Leaving service is a first part that touches neither reins, wheel nor controllers, then, but for a link loss, the resets, and the record. -/
theorem State.leaveService_eq (s : State) (r : Rein) (cause : Nat) (func : Option Nat) :
    ∃ (u : State) (xs : List Nat), u.rein = s.rein ∧ u.wheel = s.wheel ∧ u.fe.ctrls = s.fe.ctrls ∧ s.leaveService r cause func =
      (if cause = 2 then u else u.resetSides r (decide (cause = 3)) ((u.fe.ctrls.map (·.1)).filter (s.reaches r func))).leave 0x0A02 2 xs := by
  unfold State.leaveService
  extract_lets hit qs cut freed aers dropped reset
  refine ⟨dropped, [r.num, cause] ++ (if cause = 4 then [func.getD 0] else []), by simp [dropped, freed, cut], by simp [dropped, freed, cut], by simp [dropped, freed, cut, foldl_ctrls], ?_⟩
  have hhit : hit = s.reaches r func := by cases func <;> rfl
  simp only [reset, hhit, State.resetSides]

theorem State.leaveService_stands (s : State) (r : Rein) (cause : Nat) (func : Option Nat) : StandsButFence s (s.leaveService r cause func) := by
  obtain ⟨u, xs, hrein, hwheel, -, heq⟩ := s.leaveService_eq r cause func
  have hu : StandsButFence s u := .of_kept hrein hwheel
  have hleave : ∀ v : State, StandsButFence v (v.leave 0x0A02 2 xs) := fun v => .of_kept (by simp) (by simp)
  rw [heq]
  split
  · exact hu.trans (hleave _)
  · exact (hu.trans (.foldl (fun s c => s.resetSide_stands c r _) _ _)).trans (hleave _)

theorem State.leave_ctrl (s : State) (a b : Nat) (xs : List Nat) (c : Nat) : (s.leave a b xs).ctrl c = s.ctrl c := by simp [State.ctrl]

/-- But for a link loss, every controller reached is disabled on the rein. -/
theorem State.leaveService_disables (s : State) (r : Rein) {cause : Nat} {func : Option Nat} {c : Nat} (hcause : cause ≠ 2) (hc : s.reaches r func c = true) :
    ((s.leaveService r cause func).ctrl c).en r = false := by
  obtain ⟨u, xs, -, -, hctrls, heq⟩ := s.leaveService_eq r cause func
  rw [heq, if_neg hcause, State.leave_ctrl]
  refine u.resetSides_ctrl_en r _ ?_
  by_cases hlisted : c ∈ u.fe.ctrls.map (·.1)
  · exact .inl (List.mem_filter.mpr ⟨hlisted, hc⟩)
  · rw [u.ctrl_of_not_listed c hlisted]; cases r <;> exact .inr rfl

/-- A link loss, and a loss of service that does not reach it, leave a controller as it is. -/
theorem State.leaveService_ctrl (s : State) (r : Rein) {cause : Nat} {func : Option Nat} {c : Nat} (h : cause = 2 ∨ s.reaches r func c = false) :
    (s.leaveService r cause func).ctrl c = s.ctrl c := by
  obtain ⟨u, xs, -, -, hctrls, heq⟩ := s.leaveService_eq r cause func
  have hu : u.ctrl c = s.ctrl c := by simp [State.ctrl, hctrls]
  rw [heq, State.leave_ctrl]
  split
  · exact hu
  · next hcause =>
    have hreach : s.reaches r func c = false := h.resolve_left hcause
    rw [u.resetSides_ctrl_of_not_mem r _ (by simp [hreach]), hu]

end Sys2Proof.Machine
end

section
/-! The rein commands (O24): what each does to its own rein, to the other one, and to the controllers (R237, R251 to R254). -/
namespace Sys2Proof.Machine

/-! ### The self-test and the health check -/

/-- A port whose lanes a self-test has measured (R252). -/
def State.tested (s : State) (e : EyeFound) (p : ReinPort) : ReinPort :=
  { p with selftest := s.eyeResult p.width e, eyeWidth := e.width, eyeHeight := e.height, testRound := s.obs.rounds }

/-- A port whose health has been checked: it changes only while the rein is trained (R253). -/
def State.checked (s : State) (p : ReinPort) : ReinPort := { p with health := if p.rate = 0 then p.health else s.healthOf p }

theorem State.checked_health (s : State) {p : ReinPort} (h : p.rate ≠ 0) : (s.checked p).health = s.healthOf (s.checked p) := by
  unfold State.checked
  rw [if_neg h]
  rfl

theorem State.healthOf_congr {s t : State} (htwin : t.rein.twin = s.rein.twin) (himg : t.img = s.img) (p : ReinPort) : t.healthOf p = s.healthOf p := by
  unfold State.healthOf State.fullWidth
  rw [htwin, himg]

theorem State.checked_congr {s t : State} (htwin : t.rein.twin = s.rein.twin) (himg : t.img = s.img) (p : ReinPort) : t.checked p = s.checked p := by
  unfold State.checked
  rw [State.healthOf_congr htwin himg]

theorem State.tested_congr {s t : State} (himg : t.img = s.img) (hrounds : t.obs.rounds = s.obs.rounds) (e : EyeFound) (p : ReinPort) :
    t.tested e p = s.tested e p := by
  unfold State.tested State.eyeResult
  rw [himg, hrounds]

theorem State.leave_rounds (s : State) (a b : Nat) (xs : List Nat) : (s.leave a b xs).obs.rounds = s.obs.rounds :=
  congrArg (fun x => x.2.2.2.2.2) (s.leave_book a b xs)

theorem State.vendorEvent_port (s : State) (a b : Nat) (r : Rein) : (s.vendorEvent a b).port r = s.port r := by simp [State.port]

theorem State.healthCheck_port (s : State) (r : Rein) : (s.healthCheck r).port r = s.checked (s.port r) := by
  unfold State.healthCheck State.checked
  dsimp only
  by_cases hrate : (s.port r).rate = 0
  · rw [if_pos (.inl hrate), if_pos hrate]
  · by_cases hsame : s.healthOf (s.port r) = (s.port r).health
    · rw [if_pos (.inr hsame), hsame, ite_self]
    · rw [if_neg (not_or.mpr ⟨hrate, hsame⟩), State.vendorEvent_port, State.leave_port, State.modPort_port, if_neg hrate]

theorem State.healthCheck_port_other (s : State) (r : Rein) : (s.healthCheck r).port r.other = s.port r.other := by
  unfold State.healthCheck
  dsimp only
  split
  · rfl
  · rw [State.vendorEvent_port, State.leave_port, State.modPort_port_other]

theorem State.reinTest_port (s : State) (r : Rein) (e : EyeFound) : (s.reinTest r e).port r = s.tested e (s.port r) := State.modPort_port _ _ _
theorem State.reinTest_port_other (s : State) (r : Rein) (e : EyeFound) : (s.reinTest r e).port r.other = s.port r.other := State.modPort_port_other _ _ _

/-! ### The link -/

theorem execLinkUp_of_down {s : State} {r : Rein} (k : LinkFound) (hexists : s.reinExists r = true) (hboot : s.ts.bootStep ≠ 0) (hperst : (s.port r).perst = false)
    (hdown : (s.port r).up = false) : ∃ t, execLinkUp r k s = .next t ∧ t.port r = s.checked (s.tested k.eyes { s.trained k (s.port r) with link := 2 }) ∧
      t.port r.other = s.port r.other := by
  unfold execLinkUp
  simp only [hexists, hboot, hperst, hdown, ne_eq, not_false_eq_true, Bool.not_false, and_self, if_true]
  refine ⟨_, rfl, ?_, ?_⟩
  · rw [State.settleFront_port, State.healthCheck_port, State.reinTest_port, State.leave_port, State.modPort_port]
    rw [State.tested_congr (s := s) (by simp) (by rw [State.leave_rounds]; rfl), State.checked_congr (s := s) (by simp [State.reinTest]) (by simp)]
  · rw [State.settleFront_port, State.healthCheck_port_other, State.reinTest_port_other, State.leave_port, State.modPort_port_other]

theorem execLinkUp_of_not_down {s : State} {r : Rein} (k : LinkFound) (h : (s.port r).up = true ∨ (s.port r).perst = true ∨ s.reinExists r = false) :
    execLinkUp r k s = .next s := by
  unfold execLinkUp
  obtain h | h | h := h <;> simp [h]

theorem execLinkRecovery_of_up {s : State} {r : Rein} (k : LinkFound) (hup : (s.port r).up = true) : ∃ t, execLinkRecovery r k s = .next t ∧
    t.port r = s.checked { s.trained k (s.port r) with recoveries := satAdd 32 (s.port r).recoveries 1, recRound := satAdd 16 (s.port r).recRound 1 } ∧
    t.port r.other = s.port r.other := by
  unfold execLinkRecovery
  rw [if_pos hup]
  refine ⟨_, rfl, ?_, ?_⟩
  · rw [State.settleFront_port, State.healthCheck_port, State.modPort_port, State.checked_congr (s := s) (by simp) (by simp)]
  · rw [State.settleFront_port, State.healthCheck_port_other, State.modPort_port_other]

theorem execReinSelfTestPeriodic_of_due {s : State} {r : Rein} (e : EyeFound) (hup : (s.port r).up = true) (hdue : (s.port r).testRound + 65536 ≤ s.obs.rounds) :
    ∃ t, execReinSelfTestPeriodic r e s = .next t ∧ t.port r = s.checked (s.tested e (s.port r)) ∧ t.port r.other = s.port r.other := by
  unfold execReinSelfTestPeriodic
  rw [if_pos ⟨hup, hdue⟩]
  refine ⟨_, rfl, ?_, ?_⟩
  · rw [State.settleFront_port, State.healthCheck_port, State.reinTest_port, State.checked_congr (s := s) (by simp [State.reinTest]) (by simp)]
  · rw [State.settleFront_port, State.healthCheck_port_other, State.reinTest_port_other]

theorem execReinSelfTestPeriodic_of_not_due {s : State} {r : Rein} (e : EyeFound) (h : s.obs.rounds < (s.port r).testRound + 65536) :
    execReinSelfTestPeriodic r e s = .next s := if_neg fun ⟨_, hdue⟩ => absurd h (Nat.not_lt.mpr hdue)

theorem execMalformedTlp_of_up {s : State} {r : Rein} (hup : (s.port r).up = true) : ∃ t, execMalformedTlp r s = .next t ∧
    t.port r = { s.port r with uncorrErrors := satAdd 32 (s.port r).uncorrErrors 1 } ∧ t.port r.other = s.port r.other := by
  unfold execMalformedTlp
  rw [if_pos hup]
  have hcount : ∀ (u : State) (y : Rein), (u.count 0x01B r.num 1).port y = u.port y := fun _ _ => rfl
  exact ⟨_, rfl, by simp [hcount], by simp [hcount]⟩

/-! ### A rein leaves service -/

/-- What PERST, a hot reset and a link loss share: the port changes by `f`, then the rein leaves service. -/
theorem State.leaveService_modPort (s : State) (r : Rein) (f : ReinPort → ReinPort) (cause : Nat) :
    StandsButFence (s.modPort r f) ((s.modPort r f).leaveService r cause none).settleFront :=
  ((s.modPort r f).leaveService_stands r cause none).trans (.of_kept (by simp) (by simp))

/-- A reset of a whole rein disables every controller of it: all where its functions are shared with the other rein, else those of its own numbers (R240, R251). -/
theorem State.leaveService_disables_rein (s : State) (r : Rein) {f : ReinPort → ReinPort} {cause c : Nat} (hcause : cause ≠ 2)
    (hc : s.sharedCtrl = true ∨ c / 64 = r.num) : ((((s.modPort r f).leaveService r cause none).settleFront).ctrl c).en r = false := by
  rw [State.settleFront_ctrl]
  exact State.leaveService_disables _ _ hcause (by simpa [State.reaches] using hc)

theorem execPerstAssert_of_high {s : State} {r : Rein} (hexists : s.reinExists r = true) (hperst : (s.port r).perst = false) : ∃ t, execPerstAssert r s = .next t ∧
    StandsButFence (s.modPort r fun p => { p.reinReset 4 with perst := true, hbeat := false }) t ∧ ∀ c, s.sharedCtrl = true ∨ c / 64 = r.num → (t.ctrl c).en r = false := by
  unfold execPerstAssert
  rw [if_pos ⟨hexists, by simp [hperst]⟩]
  exact ⟨_, rfl, s.leaveService_modPort r _ 0, fun c hc => s.leaveService_disables_rein r (by decide) hc⟩

theorem execHotReset_of_up {s : State} {r : Rein} (hup : (s.port r).up = true) : ∃ t, execHotReset r s = .next t ∧
    StandsButFence (s.modPort r fun p => p.reinReset 1) t ∧ ∀ c, s.sharedCtrl = true ∨ c / 64 = r.num → (t.ctrl c).en r = false := by
  unfold execHotReset
  rw [if_pos hup]
  exact ⟨_, rfl, s.leaveService_modPort r _ 1, fun c hc => s.leaveService_disables_rein r (by decide) hc⟩

theorem execLinkDown_of_up {s : State} {r : Rein} (hup : (s.port r).up = true) : ∃ t, execLinkDown r s = .next t ∧
    t.port r = { (s.port r).untrained 0 with linkDowns := satAdd 32 (s.port r).linkDowns 1, lastDownWt := s.wheel.wt % 2 ^ 48 } ∧
    t.port r.other = s.port r.other ∧ ∀ c, t.ctrl c = s.ctrl c := by
  unfold execLinkDown
  rw [if_pos hup]
  have hport : ∀ (u : State) (y : Rein), (u.leaveService r 2 none).port y = u.port y := fun u y => by simp [State.port, State.leaveService_linkDown_kept]
  refine ⟨_, rfl, ?_, ?_, fun c => ?_⟩
  · rw [State.settleFront_port, hport, State.modPort_port]
  · rw [State.settleFront_port, hport, State.modPort_port_other]
  · rw [State.settleFront_ctrl, State.leaveService_ctrl _ _ (.inl rfl), State.modPort_ctrl]

/-! ### A function leaves service -/

/-- The functions of a rein leave service one after another, each as at a function level reset. -/
def State.leaveFuncs (s : State) (r : Rein) (fs : List Nat) : State := fs.foldl (fun s f => s.leaveService r 4 (some f)) s

/-- A controller of none of the functions stands. -/
theorem State.leaveFuncs_ctrl (s : State) (r : Rein) {fs : List Nat} {c : Nat} (h : ∀ f ∈ fs, c ≠ s.ctrlOf ⟨r, f⟩) : (s.leaveFuncs r fs).ctrl c = s.ctrl c := by
  induction fs generalizing s with
  | nil => rfl
  | cons f fs ih =>
    have hctrl := (s.leaveService_stands r 4 (some f)).ctrlOf
    have hhead : (s.leaveService r 4 (some f)).ctrl c = s.ctrl c := s.leaveService_ctrl r (.inr (by simp [State.reaches, h f]))
    exact (ih _ fun g hg => by rw [hctrl]; exact h g (List.mem_cons_of_mem f hg)).trans hhead

/-- The controller of each function is disabled on the rein. -/
theorem State.leaveFuncs_disables (s : State) (r : Rein) {fs : List Nat} {f : Nat} (h : f ∈ fs ∨ (s.ctrl (s.ctrlOf ⟨r, f⟩)).en r = false) :
    ((s.leaveFuncs r fs).ctrl (s.ctrlOf ⟨r, f⟩)).en r = false := by
  induction fs generalizing s with
  | nil => simpa [State.leaveFuncs] using h
  | cons g fs ih =>
    have hctrl := (s.leaveService_stands r 4 (some g)).ctrlOf
    have hrest := ih (s.leaveService r 4 (some g))
    rw [hctrl] at hrest
    refine hrest ?_
    by_cases hg : s.ctrlOf ⟨r, f⟩ = s.ctrlOf ⟨r, g⟩
    · exact .inr (s.leaveService_disables r (by decide) (by simp [State.reaches, hg]))
    · have hne : f ≠ g := fun hfg => hg (by rw [hfg])
      rw [s.leaveService_ctrl r (.inr (by simp [State.reaches, hg]))]
      simpa [hne] using h

/-- The functions that a reset of the PF takes out of service are the PF and the `n` VFs enabled. -/
theorem mem_pfAndVfs_iff (n f : Nat) : f ∈ 0 :: (List.range n).map (0 + 1 + ·) ↔ f ≤ n := by
  simp only [List.mem_cons, List.mem_map, List.mem_range]
  constructor
  · rintro (rfl | ⟨k, hk, rfl⟩) <;> omega
  · intro hf
    obtain rfl | hpos := Nat.eq_zero_or_pos f
    · exact .inl rfl
    · exact .inr ⟨f - 1, by omega, by omega⟩

/-- A reset of the PF takes it and its VFs out of service and disables the VFs (log 7). -/
theorem execFunctionLevelReset_of_pf {s : State} {p : Port} (hok : s.portOk p = true) (hpf : p.func = 0) : execFunctionLevelReset p s =
    .next (((s.leaveFuncs p.rein (0 :: (List.range (s.port p.rein).vfs).map (0 + 1 + ·))).modPort p.rein fun q => { q with vfs := 0 }).settleFront) := by
  have hvfs : ((s.leaveService p.rein 4 (some 0)).port p.rein).vfs = (s.port p.rein).vfs := by
    rw [(s.leaveService_stands p.rein 4 (some 0)).port_eq p.rein]
  simp only [execFunctionLevelReset, State.setVfs, hok, hpf, hvfs, if_true]
  rfl

theorem execFunctionLevelReset_of_vf {s : State} {p : Port} (hok : s.portOk p = true) (hvf : p.func ≠ 0) :
    execFunctionLevelReset p s = .next (s.leaveService p.rein 4 (some p.func)).settleFront := by
  simp only [execFunctionLevelReset, hok, hvf, if_true, if_false]

/-- The controller of a function that is reset is disabled on its rein; one of a VF is the only controller reached, and no rein's field changes but a lease
fence; one of the PF reaches the VFs' controllers, and no more, and leaves no VF enabled. -/
theorem execFunctionLevelReset_of_ok {s : State} {p : Port} (hok : s.portOk p = true) : ∃ t, execFunctionLevelReset p s = .next t ∧
    (t.ctrl (s.ctrlOf p)).en p.rein = false ∧
    (p.func ≠ 0 → (∀ c, c ≠ s.ctrlOf p → t.ctrl c = s.ctrl c) ∧ StandsButFence s t) ∧
    (p.func = 0 → (t.port p.rein).vfs = 0 ∧ (∀ f, f ≤ (s.port p.rein).vfs → (t.ctrl (s.ctrlOf ⟨p.rein, f⟩)).en p.rein = false) ∧
      ∀ c, (∀ f, f ≤ (s.port p.rein).vfs → c ≠ s.ctrlOf ⟨p.rein, f⟩) → t.ctrl c = s.ctrl c) := by
  by_cases hpf : p.func = 0
  · have hoff : ∀ f, f ≤ (s.port p.rein).vfs →
        ((s.leaveFuncs p.rein (0 :: (List.range (s.port p.rein).vfs).map (0 + 1 + ·))).ctrl (s.ctrlOf ⟨p.rein, f⟩)).en p.rein = false :=
      fun f hf => s.leaveFuncs_disables p.rein (.inl ((mem_pfAndVfs_iff _ f).mpr hf))
    refine ⟨_, execFunctionLevelReset_of_pf hok hpf, ?_, fun h => absurd hpf h, fun _ => ⟨?_, fun f hf => ?_, fun c hc => ?_⟩⟩
    · rw [State.settleFront_ctrl, State.modPort_ctrl, show p = ⟨p.rein, 0⟩ from hpf ▸ rfl]
      exact hoff 0 (Nat.zero_le _)
    · rw [State.settleFront_port, State.modPort_port]
    · rw [State.settleFront_ctrl, State.modPort_ctrl]
      exact hoff f hf
    · rw [State.settleFront_ctrl, State.modPort_ctrl]
      exact s.leaveFuncs_ctrl p.rein fun f hf => hc f ((mem_pfAndVfs_iff _ f).mp hf)
  · refine ⟨_, execFunctionLevelReset_of_vf hok hpf, ?_, fun _ => ⟨fun c hc => ?_, ?_⟩, fun h => absurd h hpf⟩
    · rw [State.settleFront_ctrl]
      exact s.leaveService_disables p.rein (by decide) (by simp [State.reaches])
    · rw [State.settleFront_ctrl]
      exact s.leaveService_ctrl p.rein (.inr (by simpa [State.reaches] using hc))
    · exact (s.leaveService_stands p.rein 4 (some p.func)).trans (.of_kept (by simp) (by simp))

/-! ### What each command leaves of the user's data -/

/-- The state that a meaning answers has the user's data as it was, where the meaning's frame says so. -/
theorem SameData.of_kept {s t : State} {o : Host.Outcome State Fault Refusal} (ho : o = .next t)
    (h : ∃ u, o = .next u ∧ u.pending = s.pending ∧ u.wheel = s.wheel ∧ u.plan = s.plan ∧ u.dram = s.dram ∧ u.dma = s.dma ∧ u.therm = s.therm ∧ u.img = s.img ∧ SameData s u) :
    SameData s t := by
  obtain ⟨u, hu, -, -, -, -, -, -, -, hdata⟩ := h
  obtain rfl : u = t := Host.Outcome.next.inj (hu.symm.trans ho)
  exact hdata

theorem State.portOk_iff (s : State) (p : Port) :
    s.portOk p = true ↔ s.reinExists p.rein = true ∧ (s.port p.rein).up = true ∧ p.func < 64 ∧ p.func ≤ (s.port p.rein).vfs := by
  unfold State.portOk
  simp only [Bool.and_eq_true, decide_eq_true_eq]
  tauto

/-- Settles O24: command by command, the port that it leaves, the other rein, and the controllers. -/
theorem reinLinksTrainAndReset : Obligations.ReinLinksTrainAndReset := by
  unfold Obligations.ReinLinksTrainAndReset
  refine ⟨?linkUp, ?linkUpNone, ?recovery, ?selfTest, ?selfTestNone, ?malformed, ?down, fun _ _ => rfl, ?perst, ?release, ?releaseNone, ?perstNone, ?hot, ?linkDown,
    ?function, fun s p => (s.portOk_iff p).mp, ?functionNone⟩
  case linkUp =>
    intro s r k hexists hboot hperst hdown
    obtain ⟨t, ht, hport, hother⟩ := execLinkUp_of_down k hexists hboot hperst hdown
    have hhealth : k.rate ≠ 0 → (t.port r).health = s.healthOf (t.port r) := fun hrate => by rw [hport]; exact s.checked_health hrate
    refine ⟨t, ht, ?_, ?_, ?_, ?_, ?_, ?_, ?_, ?_, ?_, hhealth, hother, .of_kept ht (execLinkUp_kept r k s)⟩
    all_goals rw [hport]; rfl
  case linkUpNone => exact fun s r k h => execLinkUp_of_not_down k h
  case recovery =>
    intro s r k hup
    obtain ⟨t, ht, hport, hother⟩ := execLinkRecovery_of_up k hup
    have hhealth : k.rate ≠ 0 → (t.port r).health = s.healthOf (t.port r) := fun hrate => by rw [hport]; exact s.checked_health hrate
    refine ⟨t, ht, ?_, ?_, ?_, ?_, ?_, ?_, ?_, ?_, hhealth, hother, .of_kept ht (execLinkRecovery_kept r k s)⟩
    all_goals rw [hport]; rfl
  case selfTest =>
    intro s r e hup hdue
    obtain ⟨t, ht, hport, hother⟩ := execReinSelfTestPeriodic_of_due e hup hdue
    refine ⟨t, ht, ?_, ?_, ?_, ?_, hother, .of_kept ht (execReinSelfTestPeriodic_kept r e s)⟩
    all_goals rw [hport]; rfl
  case selfTestNone => exact fun s r e h => execReinSelfTestPeriodic_of_not_due e h
  case malformed =>
    intro s r hup
    obtain ⟨t, ht, hport, hother⟩ := execMalformedTlp_of_up hup
    exact ⟨t, ht, hport, hother, .of_kept ht (execMalformedTlp_kept r s)⟩
  case down =>
    intro s r hdown
    have hnot : ¬ (s.port r).up = true := by simp [hdown]
    exact ⟨if_neg hnot, fun k => if_neg hnot, if_neg hnot, if_neg hnot⟩
  case perst =>
    intro s r hexists hhigh
    obtain ⟨t, ht, stands, hoff⟩ := execPerstAssert_of_high hexists hhigh
    obtain ⟨u, hu, -, hplan, -⟩ := execPerstAssert_kept r s
    obtain rfl : u = t := Host.Outcome.next.inj (hu.symm.trans ht)
    obtain ⟨hport, hother⟩ := stands.ports_of_modPort
    exact ⟨u, ht, hport, hoff, hother, stands.time.1, stands.time.2.1, stands.time.2.2, hplan⟩
  case release =>
    intro s r hexists hlow
    exact ⟨_, if_pos ⟨hexists, hlow⟩, State.modPort_port s r _, rfl, State.modPort_port_other s r _⟩
  case releaseNone => exact fun s r hhigh => if_neg (by simp [hhigh])
  case perstNone => exact fun s r hlow => if_neg (by simp [hlow])
  case hot =>
    intro s r hup
    obtain ⟨t, ht, stands, hoff⟩ := execHotReset_of_up hup
    obtain ⟨hport, hother⟩ := stands.ports_of_modPort
    exact ⟨t, ht, hport, hoff, hother, stands.time⟩
  case linkDown =>
    intro s r hup
    obtain ⟨t, ht, hport, hother, hctrl⟩ := execLinkDown_of_up hup
    exact ⟨t, ht, hport, hctrl, hother⟩
  case function =>
    intro s p hok
    obtain ⟨t, ht, hself, hvf, hpf⟩ := execFunctionLevelReset_of_ok hok
    exact ⟨t, ht, hself, fun h => ⟨(hvf h).1, (hvf h).2.port_eq⟩, hpf⟩
  case functionNone => exact fun s p h => if_neg (by simp [h])

end Sys2Proof.Machine
end

section
/-! The plan selector's commands (O10): the sample at tooth 1,016, the end of a load, and the reload from the shadow (R20, R22, R23, R72, R74). -/
namespace Sys2Proof.Machine

/-- PLAN_INDEX of a sample taken now. -/
def State.sampleIndex (s : State) : Nat := planIndex s.effPs s.blk.band s.girth.rb
/-- The plan number that the sample selects. -/
def State.sampleChoice (s : State) : Nat := natAt s.img.planSelect s.sampleIndex
/-- The selector once it has sampled. -/
def State.sampledPlan (s : State) : PlanState :=
  { s.plan with sampled := true, ps := s.effPs, band := s.blk.band, rb := s.girth.rb, lastIndex := s.sampleIndex, loaded := false }

theorem execPlanSample_of_due {s : State} (hruns : s.wheelRuns = true) (hlt : s.wheel.lt = 1016) (hdue : s.plan.sampled = false) :
    execPlanSample s = if s.sampleChoice = s.plan.runningNo ∨ s.plan.reloading = true then .next { s with plan := s.sampledPlan }
      else .next { s with plan := { s.sampledPlan with
        loading := true, pendingNo := some s.sampleChoice, deferRun := if s.plan.pendingNo = some s.sampleChoice then s.plan.deferRun else 0 } } :=
  if_pos ⟨hruns, hlt, by rw [hdue]; rfl⟩

theorem execPlanSample_of_not_due {s : State} (h : s.wheelRuns = false ∨ s.wheel.lt ≠ 1016 ∨ s.plan.sampled = true) : execPlanSample s = .next s := by
  refine if_neg ?_
  rintro ⟨hruns, hlt, hdue⟩
  rcases h with h | h | h <;> simp_all

/-- The plan that a load in progress brings, when the pending plan stands in DRAM with a right SLOT_CRC. -/
theorem execPlanLoadDone_of_good {s : State} {n : Nat} {p : Plan} (hload : s.plan.loading = true) (hpend : s.plan.pendingNo = some n)
    (hfind : Table.find s.plan.dram n = some p) (hcrc : p.crcOk = true) :
    execPlanLoadDone false s = .next { s with plan := { s.plan with loading := false, loaded := true, inactive := some p, deferRun := 0 } } := by
  simp [execPlanLoadDone, hload, hpend, hfind, hcrc]

theorem execPlanLoadDone_of_bad {s : State} {poisoned : Bool} (hload : s.plan.loading = true)
    (hbad : ∀ n p, s.plan.pendingNo = some n → Table.find s.plan.dram n = some p → p.crcOk = true → poisoned = true) :
    execPlanLoadDone poisoned s = .next s.planLoadFails.settleFront := by
  unfold execPlanLoadDone
  rw [if_pos hload]
  split
  case h_2 => rfl
  case h_1 p hp =>
    obtain ⟨n, hpend, hfind⟩ := Option.bind_eq_some_iff.mp hp
    refine if_neg ?_
    rintro ⟨hclean, hcrc⟩
    simp [hbad n p hpend hfind hcrc] at hclean

/-- A failed load counts as deferred; the third in a row of one plan starts a reload. -/
theorem State.planLoadFails_plan (s : State) : s.planLoadFails.plan = { s.plan with
    loading := false, loaded := false, deferRun := min 3 (s.plan.deferRun + 1), deferred := satAdd 32 s.plan.deferred 1,
    reloading := s.plan.reloading || decide (2 ≤ s.plan.deferRun) } := by
  have hthird : min 3 (s.plan.deferRun + 1) = 3 ↔ 2 ≤ s.plan.deferRun := by omega
  by_cases h : 2 ≤ s.plan.deferRun <;> simp [State.planLoadFails, hthird, h]

/-- Settles O10: each command's branches, and what a failed load leaves. -/
theorem planIsSampledAndLoaded : Obligations.PlanIsSampledAndLoaded := by
  unfold Obligations.PlanIsSampledAndLoaded
  refine ⟨?sample, fun s h => execPlanSample_of_not_due h, fun s n p hload hpend hfind hcrc => execPlanLoadDone_of_good hload hpend hfind hcrc, ?fails,
    fun s poisoned h => if_neg (by simp [h]), fun s h => if_pos h, fun s h => if_neg (by simp [h])⟩
  case sample =>
    intro s hruns hlt hdue
    have hexec := execPlanSample_of_due hruns hlt hdue
    by_cases h : s.sampleChoice = s.plan.runningNo ∨ s.plan.reloading = true
    · refine ⟨_, s.sampleIndex, s.sampleChoice, hexec.trans (if_pos h), rfl, rfl, rfl, fun _ => rfl, fun hne hno => ?_⟩
      exact absurd h (not_or.mpr ⟨hne, by simp [hno]⟩)
    · exact ⟨_, s.sampleIndex, s.sampleChoice, hexec.trans (if_neg h), rfl, rfl, rfl, fun h' => absurd h' h, fun _ _ => rfl⟩
  case fails =>
    intro s poisoned hload hbad
    refine ⟨_, execPlanLoadDone_of_bad hload hbad, ?_, ?_, ?_, ?_, ?_⟩
    · simp [State.planLoadFails_plan]
    · simp [SameData]
    all_goals simp

end Sys2Proof.Machine
end

section
/-! A command that takes its units into work: the jobs that join it, one by one, and the command at hand on its namespace (R14, R139, R140). -/
namespace Sys2Proof.Machine

/-! ### One job joins its command -/

@[simp] theorem State.addUnit_nextJob (s : State) (tag : Nat) (j : UnitJob) : (s.addUnit tag j).fe.nextJob = s.fe.nextJob + 1 := rfl
@[simp] theorem State.addUnit_job (s : State) (tag : Nat) (j : UnitJob) : (s.addUnit tag j).job s.fe.nextJob = some j := Table.find_set_self _ _ _
theorem State.addUnit_job_ne (s : State) (tag : Nat) (j : UnitJob) {k : Nat} (h : k ≠ s.fe.nextJob) : (s.addUnit tag j).job k = s.job k :=
  Table.find_set_ne _ _ _ _ h
@[simp] theorem State.addUnit_cmd (s : State) (tag : Nat) (j : UnitJob) :
    (s.addUnit tag j).cmd tag = (s.cmd tag).map fun c => { c with units := c.units ++ [s.fe.nextJob] } := Table.find_modify_self _ _ _
theorem State.addUnit_cmd_ne (s : State) (tag : Nat) (j : UnitJob) {k : Nat} (h : k ≠ tag) : (s.addUnit tag j).cmd k = s.cmd k :=
  Table.find_modify_ne _ _ _ _ h

/-! ### A list of jobs joins its command -/

/-- The jobs join the command in order. -/
def State.addUnits (s : State) (tag : Nat) (js : List UnitJob) : State := js.foldl (fun s j => s.addUnit tag j) s

@[simp] theorem State.addUnits_nil (s : State) (tag : Nat) : s.addUnits tag [] = s := rfl
@[simp] theorem State.addUnits_cons (s : State) (tag : Nat) (j : UnitJob) (js : List UnitJob) : s.addUnits tag (j :: js) = (s.addUnit tag j).addUnits tag js := rfl
theorem State.addUnits_append (s : State) (tag : Nat) (js ks : List UnitJob) : s.addUnits tag (js ++ ks) = (s.addUnits tag js).addUnits tag ks :=
  List.foldl_append

theorem State.addUnits_cmd (s : State) (tag : Nat) (js : List UnitJob) :
    (s.addUnits tag js).cmd tag = (s.cmd tag).map fun c => { c with units := c.units ++ (List.range js.length).map (s.fe.nextJob + ·) } := by
  induction js generalizing s with
  | nil => simp
  | cons j js ih =>
    have hnumber : ∀ i, s.fe.nextJob + 1 + i = s.fe.nextJob + (i + 1) := fun i => by omega
    simp [ih, hnumber, List.range_succ_eq_map, Function.comp_def]

theorem State.addUnits_cmd_ne (s : State) (tag : Nat) (js : List UnitJob) {k : Nat} (h : k ≠ tag) : (s.addUnits tag js).cmd k = s.cmd k :=
  fold_left (fun s => s.cmd k) _ (fun s j => s.addUnit_cmd_ne tag j h) js s

theorem State.addUnits_job_ne (s : State) (tag : Nat) (js : List UnitJob) {k : Nat} (h : k < s.fe.nextJob ∨ s.fe.nextJob + js.length ≤ k) :
    (s.addUnits tag js).job k = s.job k := by
  induction js generalizing s with
  | nil => rfl
  | cons j js ih =>
    rw [List.length_cons] at h
    rw [State.addUnits_cons, ih _ (by rw [State.addUnit_nextJob]; omega), State.addUnit_job_ne _ _ _ (by omega)]

theorem State.addUnits_job (s : State) (tag : Nat) (js : List UnitJob) {i : Nat} {j : UnitJob} (h : js[i]? = some j) :
    (s.addUnits tag js).job (s.fe.nextJob + i) = some j := by
  induction js generalizing s i with
  | nil => simp at h
  | cons a js ih =>
    cases i with
    | zero =>
      obtain rfl : a = j := by simpa using h
      rw [State.addUnits_cons, Nat.add_zero, State.addUnits_job_ne _ _ _ (.inl (by simp)), State.addUnit_job]
    | succ i =>
      have := ih (s.addUnit tag a) (i := i) (by simpa using h)
      rwa [State.addUnit_nextJob, Nat.add_assoc, Nat.add_comm 1 i] at this

theorem State.addUnits_queues (s : State) (tag : Nat) (js : List UnitJob) : (s.addUnits tag js).fe.cqs = s.fe.cqs ∧ (s.addUnits tag js).fe.ready = s.fe.ready :=
  ⟨fold_left (fun s => s.fe.cqs) (fun s j => s.addUnit tag j) (fun _ _ => rfl) js s, fold_left (fun s => s.fe.ready) (fun s j => s.addUnit tag j) (fun _ _ => rfl) js s⟩
theorem State.addUnits_frame (s : State) (tag : Nat) (js : List UnitJob) : SameFrame s (s.addUnits tag js) := by simp [SameFrame, State.addUnits]
theorem State.addUnits_data (s : State) (tag : Nat) (js : List UnitJob) : SameData s (s.addUnits tag js) := by simp [SameData, State.addUnits]

theorem SameFrame.trans {s t u : State} (h : SameFrame s t) (k : SameFrame t u) : SameFrame s u := by simp_all [SameFrame]
theorem SameData.trans {s t u : State} (h : SameData s t) (k : SameData t u) : SameData s u := by simp_all [SameData]

/-! ### The state in which a command's meaning acts -/

/-- `v` is `s` with the command begun and `out` as the data that it returns so far: its row is all of the front end that differs. -/
structure Opened (s v : State) (tag : Nat) (c : Cmd) (out : List Byte) : Prop where
  row : v.cmd tag = some { c with started := true, out := out }
  rows : ∀ n, n ≠ tag → v.cmd n = s.cmd n
  fe : { v.fe with cmds := s.fe.cmds } = s.fe
  frame : SameFrame s v
  data : SameData s v
  pkg : v.pkg = s.pkg
  fault : v.fault = s.fault

section AtHand
variable {s v : State} {tag cid : Nat} {c : Cmd} {q : Sq} {x : SqSide} {cq : Cq} {out : List Byte}

theorem AtHand.opened (h : AtHand s tag c q x cq cid) (b : Begun s v tag) : Opened s v tag c c.out where
  row := b.row h
  rows := b.rows
  fe := by rw [b.fe]; rfl
  frame := b.frame
  data := b.data
  pkg := b.pkg
  fault := b.fault

/-- The data that a command returns is filled in, from what its row says. -/
theorem Opened.fill (o : Opened s v tag c out) (data : Cmd → List Byte) :
    Opened s (v.modCmd tag fun c => { c with out := data c }) tag c (data { c with started := true, out := out }) where
  row := by rw [State.modCmd_cmd, o.row]; rfl
  rows n hn := (Table.find_modify_ne _ _ _ _ hn).trans (o.rows n hn)
  fe := o.fe
  frame := o.frame.trans (by simp [SameFrame])
  data := o.data.trans (by simp [SameData])
  pkg := o.pkg
  fault := o.fault

/-- A code of severity 0 is left: a record, and no report to the fault sequencer. -/
theorem Begun.leave (b : Begun s v tag) (code : Nat) (xs : List Nat) : Begun s (v.leave code 0 xs) tag where
  fe := by rw [State.leave_fe]; exact b.fe
  frame := b.frame.trans (by simp [SameFrame])
  data := b.data.trans (by simp [SameData])
  pkg := by rw [← b.pkg]; unfold State.leave State.recordEvent State.putRecord; split; · rfl
            split <;> rfl
  fault := by rw [← b.fault]; simp [State.leave, reportOf]

theorem Opened.finish (o : Opened s v tag c out) (h : AtHand s tag c q x cq cid) (r : CmdResult) (code : Nat) :
    Served s (v.finishCode tag r code).postAll.arrayPump tag q x cq cid r out :=
  h.served_code r code o.row o.rows o.fe o.frame o.data o.pkg o.fault

/-- The command's units are taken into work. -/
theorem Opened.take (o : Opened s v tag c out) (js : List UnitJob) : UnitsTaken s (v.addUnits tag js) tag { c with out := out } js := by
  have hnext : v.fe.nextJob = s.fe.nextJob := (congrArg FeState.nextJob o.fe :)
  have hjob : ∀ k, v.job k = s.job k := fun k => (congrArg (fun f : FeState => Table.find f.jobs k) o.fe :)
  obtain ⟨hcqs, hready⟩ := v.addUnits_queues tag js
  refine ⟨?_, fun i j hj => ?_, fun k hk => ?_, fun k hk => ?_, ?_, ?_, o.frame.trans (v.addUnits_frame tag js), o.data.trans (v.addUnits_data tag js)⟩
  · rw [State.addUnits_cmd, o.row, hnext]; rfl
  · rw [← hnext]; exact v.addUnits_job tag js hj
  · rw [← hnext] at hk; rw [v.addUnits_job_ne tag js hk, hjob]
  · rw [v.addUnits_cmd_ne tag js hk, o.rows k hk]
  · exact hcqs.trans (congrArg FeState.cqs o.fe :)
  · exact hready.trans (congrArg FeState.ready o.fe :)

/-! ### A command at hand on its namespace -/

variable {opc : Nat} {sel : Cmd → Bool} {f : State → Cmd → Namespace → State}

theorem AtHand.onSpace_of_some (h : AtHand s tag c q x cq cid) (hw : c.waits false opc = true) (hs : sel c = true) {n : Namespace} (hn : s.cmdSpace c = some n) :
    s.onSpace tag opc sel f = (f (s.modCmd tag fun c => { c with started := true }) c n).postAll.arrayPump := by
  have hn' : (s.modCmd tag fun c => { c with started := true }).cmdSpace c = some n := hn
  rw [State.onSpace, h.begin hw hs, hn']

/-- A command on a namespace that is not attached ends with 0:0x0B. -/
theorem AtHand.onSpace_of_none (h : AtHand s tag c q x cq cid) (hw : c.waits false opc = true) (hs : sel c = true) (hn : s.cmdSpace c = none) :
    Served s (s.onSpace tag opc sel f) tag q x cq cid (stat 0 0x0B) c.out := by
  have hn' : (s.modCmd tag fun c => { c with started := true }).cmdSpace c = none := hn
  rw [State.onSpace, h.begin hw hs, hn']
  exact h.served_malformed c _ (Begun.self s tag)

end AtHand

end Sys2Proof.Machine
end

section
/-! Read, Compare and Verify (O38): one job a unit of the range, with the place of its data and metadata (R16, R17, R142, R264). -/
namespace Sys2Proof.Machine

theorem State.readUnits_of_refused {s : State} {n : Namespace} {r : CmdResult} (hkey : s.keyServes n = some r) (tag : Nat) (c : Cmd) (kind : UnitKind)
    (data : List Byte) : s.readUnits tag c n kind data = s.finish tag r := by
  simp [State.readUnits, hkey]

theorem State.readUnits_of_serves {s : State} {n : Namespace} (hkey : s.keyServes n = none) (tag : Nat) (c : Cmd) (kind : UnitKind) (data : List Byte) :
    s.readUnits tag c n kind data =
      (s.addUnits tag ((unitSpans n (sqeSlba c.entry) (sqeNlb c.entry)).map (readJob tag c n kind data))).settle := by
  simp only [State.readUnits, hkey, State.addUnits, List.foldl_map]
  rfl

/-- What a command that reads units comes to, in a state where it has begun. -/
theorem Opened.readUnits {s v : State} {tag cid : Nat} {c : Cmd} {q : Sq} {x : SqSide} {cq : Cq} {out : List Byte} (o : Opened s v tag c out)
    (h : AtHand s tag c q x cq cid) (hkeys : ∀ n, v.keyServes n = s.keyServes n) (n : Namespace) (kind : UnitKind) (data : List Byte) :
    (∀ r, s.keyServes n = some r → Served s (v.readUnits tag c n kind data).postAll.arrayPump tag q x cq cid r out) ∧
    (s.keyServes n = none → ∃ u : State, (v.readUnits tag c n kind data).postAll.arrayPump = u.settle.postAll.arrayPump ∧
      UnitsTaken s u tag { c with out := out } ((unitSpans n (sqeSlba c.entry) (sqeNlb c.entry)).map (readJob tag c n kind data))) := by
  refine ⟨fun r hr => ?_, fun hnone => ?_⟩
  · rw [State.readUnits_of_refused ((hkeys n).trans hr)]
    exact o.finish h r 0
  · rw [State.readUnits_of_serves ((hkeys n).trans hnone)]
    exact ⟨_, rfl, o.take _⟩

/-- PRACT strips the metadata, and a format without protection information has none. -/
theorem readLayout_of_bare {n : Namespace} {c : Cmd} (h : n.hasTags = false ∨ (n.piType ≠ 0 ∧ cmdPract c = true)) (i : Nat) :
    readLayout n c i = (i * n.lbaBytes, none) :=
  if_pos (by simpa using h)

/-- The metadata of each block of the range stands within the data returned, extended or separate. -/
theorem readLayout_within {n : Namespace} {c : Cmd} {i place : Nat} (hplace : (readLayout n c i).2 = some place) (hi : i < sqeNlb c.entry) :
    place + n.metaBytes ≤ readBytes n c := by
  by_cases hbare : n.hasTags = false ∨ (n.piType ≠ 0 ∧ cmdPract c = true)
  · simp [readLayout_of_bare hbare] at hplace
  · obtain ⟨htags, hpract⟩ := not_or.mp hbare
    have hbytes : readBytes n c = sqeNlb c.entry * (n.lbaBytes + n.metaBytes) := by
      rw [readBytes, if_pos ⟨by simpa using htags, by simpa [imp_iff_not_or] using hpract⟩]
    unfold readLayout at hplace
    rw [if_neg (by simpa using hbare)] at hplace
    rw [hbytes]
    split at hplace
    case isTrue =>
      obtain rfl : i * (n.lbaBytes + n.metaBytes) + n.lbaBytes = place := by simpa using hplace
      calc i * (n.lbaBytes + n.metaBytes) + n.lbaBytes + n.metaBytes = (i + 1) * (n.lbaBytes + n.metaBytes) := by ring
        _ ≤ sqeNlb c.entry * (n.lbaBytes + n.metaBytes) := Nat.mul_le_mul_right _ hi
    case isFalse =>
      obtain rfl : sqeNlb c.entry * n.lbaBytes + i * n.metaBytes = place := by simpa using hplace
      calc sqeNlb c.entry * n.lbaBytes + i * n.metaBytes + n.metaBytes = sqeNlb c.entry * n.lbaBytes + (i + 1) * n.metaBytes := by ring
        _ ≤ sqeNlb c.entry * n.lbaBytes + sqeNlb c.entry * n.metaBytes := Nat.add_le_add_left (Nat.mul_le_mul_right _ hi) _
        _ = sqeNlb c.entry * (n.lbaBytes + n.metaBytes) := by ring

@[simp] theorem State.modCmd_keyServes (s : State) (tag : Nat) (f : Cmd → Cmd) (n : Namespace) : (s.modCmd tag f).keyServes n = s.keyServes n := rfl

/-- Settles O38: the three commands differ in the data that their row or their jobs hold. -/
theorem readsTakeTheirUnits : Obligations.ReadsTakeTheirUnits := by
  unfold Obligations.ReadsTakeTheirUnits
  intro s tag c q x cq cid h
  have begun := h.opened (Begun.self s tag)
  refine ⟨?read, ?compare, ?verify, fun n d i => ⟨fun hbare => readLayout_of_bare hbare i, fun place hplace hi => readLayout_within hplace hi⟩⟩
  case read =>
    intro hw
    refine ⟨_, rfl, fun hn => h.onSpace_of_none hw rfl hn, fun n hn => ?_⟩
    rw [h.onSpace_of_some hw rfl hn]
    exact (begun.fill fun c => List.replicate (readBytes n c) 0#8).readUnits h (fun n => by simp) n .read []
  case compare =>
    intro data hw
    refine ⟨_, rfl, fun hn => h.onSpace_of_none hw rfl hn, fun n hn => ?_⟩
    rw [h.onSpace_of_some hw rfl hn]
    exact begun.readUnits h (fun n => by simp) n .compare data
  case verify =>
    intro hw
    refine ⟨_, rfl, fun hn => h.onSpace_of_none hw rfl hn, fun n hn => ?_⟩
    rw [h.onSpace_of_some hw rfl hn]
    exact begun.readUnits h (fun n => by simp) n .verify []

end Sys2Proof.Machine
end

section
/-! Flush, Write and Write Zeroes (O37): the units of a range, the jobs that a write and a discard take, and each refusal in its order (R14, R15, R139, R140,
R144, R147, R176, R205, R264, R293). -/
namespace Sys2Proof.Machine

/-! ### The units of a range -/

theorem Namespace.perUnit_pos (n : Namespace) : 0 < n.perUnit := by
  unfold Namespace.perUnit Namespace.lbaBytes
  split <;> decide
theorem Namespace.lbaBytes_pos (n : Namespace) : 0 < n.lbaBytes := by
  unfold Namespace.lbaBytes
  split <;> decide

/-- The blocks of a range that lie in unit `u` stand between these two. -/
def spanLo (n : Namespace) (slba u : Nat) : Nat := max slba (u * n.perUnit)
def spanHi (n : Namespace) (slba nlb u : Nat) : Nat := min (slba + nlb) ((u + 1) * n.perUnit)

theorem unitSpans_of_pos (n : Namespace) (slba : Nat) {nlb : Nat} (h : nlb ≠ 0) :
    unitSpans n slba nlb = (List.range ((slba + nlb - 1) / n.perUnit - slba / n.perUnit + 1)).map fun k =>
      (slba / n.perUnit + k, (spanLo n slba (slba / n.perUnit + k) - (slba / n.perUnit + k) * n.perUnit) * n.lbaBytes,
        (spanHi n slba nlb (slba / n.perUnit + k) - spanLo n slba (slba / n.perUnit + k)) * n.lbaBytes,
        (spanLo n slba (slba / n.perUnit + k) - slba) * n.lbaBytes) := if_neg h

/-- Each unit between the first and the last of a range holds a block of it, and its part lies within the unit. -/
theorem span_bounds (n : Namespace) {slba nlb u : Nat} (hnlb : nlb ≠ 0) (hfirst : slba / n.perUnit ≤ u) (hlast : u ≤ (slba + nlb - 1) / n.perUnit) :
    spanLo n slba u < spanHi n slba nlb u ∧ u * n.perUnit ≤ spanLo n slba u ∧ spanHi n slba nlb u ≤ u * n.perUnit + n.perUnit := by
  have hp := n.perUnit_pos
  have hbegin : u * n.perUnit ≤ slba + nlb - 1 := (Nat.le_div_iff_mul_le hp).mp hlast
  have hend : slba < (u + 1) * n.perUnit := (Nat.div_lt_iff_lt_mul hp).mp (Nat.lt_succ_of_le hfirst)
  have hnext : (u + 1) * n.perUnit = u * n.perUnit + n.perUnit := Nat.succ_mul _ _
  unfold spanLo spanHi
  omega

theorem unitSpans_get {n : Namespace} {slba nlb i : Nat} {z : Nat × Nat × Nat × Nat} (h : (unitSpans n slba nlb)[i]? = some z) :
    z.1 = slba / n.perUnit + i ∧ 0 < z.2.2.1 ∧ z.2.1 + z.2.2.1 ≤ n.perUnit * n.lbaBytes := by
  by_cases hnlb : nlb = 0
  · simp [unitSpans, hnlb] at h
  · rw [unitSpans_of_pos n slba hnlb, List.getElem?_map, Option.map_eq_some_iff] at h
    obtain ⟨k, hk, rfl⟩ := h
    obtain ⟨hi, rfl⟩ := List.getElem?_eq_some_iff.mp hk
    rw [List.length_range] at hi
    have hmono : slba / n.perUnit ≤ (slba + nlb - 1) / n.perUnit := Nat.div_le_div_right (by omega)
    rw [List.getElem_range]
    obtain ⟨hne, hlo, hhi⟩ := span_bounds n hnlb (slba := slba) (u := slba / n.perUnit + i) (by omega) (by omega)
    refine ⟨rfl, Nat.mul_pos (by omega) n.lbaBytes_pos, ?_⟩
    rw [← Nat.add_mul]
    exact Nat.mul_le_mul_right _ (by omega)

/-- The first `m` units of a range hold its blocks up to the end of the last of them. -/
theorem spans_sum (n : Namespace) (slba nlb m : Nat) :
    ((List.range m).map fun k => (spanHi n slba nlb (slba / n.perUnit + k) - spanLo n slba (slba / n.perUnit + k)) * n.lbaBytes).sum
      = (min (slba + nlb) ((slba / n.perUnit + m) * n.perUnit) - slba) * n.lbaBytes := by
  induction m with
  | zero =>
    have := Nat.div_mul_le_self slba n.perUnit
    simp [Nat.sub_eq_zero_of_le (le_trans (Nat.min_le_right (slba + nlb) _) this)]
  | succ m ih =>
    rw [List.sum_range_succ, ih, ← Nat.add_mul]
    have hnext : (slba / n.perUnit + m + 1) * n.perUnit = (slba / n.perUnit + m) * n.perUnit + n.perUnit := Nat.succ_mul _ _
    have hlen : min (slba + nlb) ((slba / n.perUnit + m) * n.perUnit) - slba
        + (spanHi n slba nlb (slba / n.perUnit + m) - spanLo n slba (slba / n.perUnit + m))
        = min (slba + nlb) ((slba / n.perUnit + m + 1) * n.perUnit) - slba := by
      unfold spanHi spanLo
      omega
    rw [hlen, Nat.add_assoc]

theorem unitSpans_sum (n : Namespace) (slba nlb : Nat) : ((unitSpans n slba nlb).map (·.2.2.1)).sum = nlb * n.lbaBytes := by
  by_cases h : nlb = 0
  · simp [unitSpans, h]
  · have hlast : slba + nlb ≤ ((slba + nlb - 1) / n.perUnit + 1) * n.perUnit := by
      have := Nat.lt_div_mul_add n.perUnit_pos (a := slba + nlb - 1)
      rw [Nat.succ_mul]
      omega
    have hmono : slba / n.perUnit ≤ (slba + nlb - 1) / n.perUnit := Nat.div_le_div_right (by omega)
    rw [unitSpans_of_pos n slba h, List.map_map, Function.comp_def, spans_sum, ← Nat.add_assoc, Nat.add_sub_cancel' hmono, Nat.min_eq_left hlast,
      Nat.add_sub_cancel_left]

/-! ### The jobs of writes and discards -/

@[simp] theorem padTo_sliceBytes_length (len off : Nat) (data : List Byte) : (padTo len (sliceBytes data off len)).length = len := by
  simp only [padTo, sliceBytes, List.length_append, List.length_replicate, List.length_take]
  omega

theorem State.addWrites_eq (s : State) (tag : Nat) (n : Namespace) (slba nlb : Nat) (data : List Byte) (stream : Nat) (tags : Nat → Nat) :
    s.addWrites tag n slba nlb data stream tags = s.addUnits tag ((unitSpans n slba nlb).map (writeJob tag n data stream tags)) := by
  rw [State.addWrites, State.addUnits, List.foldl_map]
  congr 1
  funext s x
  obtain ⟨u, first, len, off⟩ := x
  simp [State.addWrite, writeJob]

/-- Steps that each add jobs, which the jobs added before do not change, add them all. -/
theorem State.foldl_addUnits {α : Type} {tag : Nat} {g : State → α → State} {js : State → α → List UnitJob}
    (hg : ∀ s a, g s a = s.addUnits tag (js s a)) (hjs : ∀ s ks a, js (s.addUnits tag ks) a = js s a) (l : List α) (s : State) :
    l.foldl g s = s.addUnits tag (l.flatMap (js s)) := by
  induction l generalizing s with
  | nil => rfl
  | cons a l ih => rw [List.foldl_cons, ih, hg, funext (hjs s (js s a)), List.flatMap_cons, State.addUnits_append]

@[simp] theorem State.addUnits_handle0 (s : State) (tag : Nat) (js : List UnitJob) (n : Namespace) : (s.addUnits tag js).handle0 n = s.handle0 n := by
  obtain ⟨-, -, hmap, -⟩ := s.addUnits_data tag js
  rw [State.handle0, State.handle0, hmap]

theorem State.addDiscards_eq (s : State) (tag : Nat) (n : Namespace) (slba nlb : Nat) (sdp : Bool) :
    s.addDiscards tag n slba nlb sdp = s.addUnits tag ((unitSpans n slba nlb).flatMap (discardJobs tag n (s.handle0 n) sdp)) := by
  refine State.foldl_addUnits (js := fun s => discardJobs tag n (s.handle0 n) sdp) (fun s x => ?_) (fun s ks a => by simp) _ s
  obtain ⟨u, first, len, off⟩ := x
  by_cases hwhole : len = 4096
  · simp [discardJobs, hwhole]
  · cases sdp <;> simp [discardJobs, hwhole, State.handle0]

/-! ### The checks before a write -/

@[simp] theorem State.modCmd_writeProtected (s : State) (tag : Nat) (f : Cmd → Cmd) : (s.modCmd tag f).writeProtected = s.writeProtected := rfl
@[simp] theorem State.modCmd_placeStream (s : State) (tag : Nat) (f : Cmd → Cmd) (n : Namespace) (c : Cmd) :
    (s.modCmd tag f).placeStream n c = s.placeStream n c := rfl

theorem State.keyServes_eq_none_iff (s : State) (n : Namespace) :
    s.keyServes n = none ↔ (s.keySlot n.slot).kind ≠ 0 ∧ (s.keySlot n.slot).revoking = false ∧ (s.keySlot n.slot).purpose = 1 := by
  simp only [State.keyServes]
  split
  case isTrue h => rcases h with h | h <;> simp [h]
  case isFalse h => split <;> simp_all

theorem State.keyServes_status {s : State} {n : Namespace} {r : CmdResult} (h : s.keyServes n = some r) : r = stat 7 0xC3 ∨ r = invalidField := by
  simp only [State.keyServes] at h
  split at h
  · exact .inl (Option.some.inj h).symm
  · split at h
    · exact .inr (Option.some.inj h).symm
    · cases h

theorem writeCheck_lt {n : Namespace} {c : Cmd} {data : List Byte} {pi : List ProtInfo} {i : Nat} {r : CmdResult} (h : writeCheck n c data pi = some (i, r)) :
    i < sqeNlb c.entry := by
  obtain ⟨k, hk, hfail⟩ := List.exists_of_findSome?_eq_some h
  obtain ⟨r', -, hpair⟩ := Option.map_eq_some_iff.mp hfail
  obtain ⟨rfl, -⟩ := Prod.mk.inj hpair
  exact List.mem_range.mp hk

theorem writeCheck_of_bare {n : Namespace} {c : Cmd} (data : List Byte) (pi : List ProtInfo) (h : n.hasTags = false ∨ n.piType = 0 ∨ cmdPract c = true) :
    writeCheck n c data pi = none := by
  have hpass : ∀ i d p, writeFailure n c i d p = none := fun i d p => if_pos (by simp; tauto)
  simp [writeCheck, hpass]

theorem State.writeWaits_iff (s : State) (c : Cmd) : s.writeWaits c = true ↔
    (s.windowGran ≤ s.wb.dirty ∨ ∃ x ∈ s.fe.jobs, x.2.stage = .admission ∧ x.2.kind = .write ∧ s.windowTakes x.2 = false) ∧ s.writeProtected = false ∧
      ∃ n, s.cmdSpace c = some n ∧ s.keyServes n = none ∧ ∃ stream, s.placeStream n c = some stream := by
  have hstops : s.fetchStops = true ↔
      s.windowGran ≤ s.wb.dirty ∨ ∃ x ∈ s.fe.jobs, x.2.stage = .admission ∧ x.2.kind = .write ∧ s.windowTakes x.2 = false := by
    simp [State.fetchStops, and_assoc]
  unfold State.writeWaits
  cases s.cmdSpace c with
  | none => simp
  | some n =>
    simp only [Bool.and_eq_true, hstops, Bool.not_eq_true', Option.isSome_iff_exists, Option.isNone_iff_eq_none, Option.some.injEq, exists_eq_left', and_assoc,
      and_comm (a := s.keyServes n = none)]

/-! ### A command at hand that writes -/

theorem AtHand.begin_of_not_sel {s : State} {tag cid : Nat} {c : Cmd} {q : Sq} {x : SqSide} {cq : Cq} (h : AtHand s tag c q x cq cid) {admin : Bool} {opc : Nat}
    {sel : Cmd → Bool} (hs : sel c = false) (f : State → Cmd → State) : s.begin tag admin opc sel f = s := by
  simp [State.begin, h.row, hs]

theorem State.fdpEvent_modCmd (s : State) (tag : Nat) (f : Cmd → Cmd) (event handle : Nat) :
    (s.modCmd tag f).fdpEvent event handle = (s.fdpEvent event handle).modCmd tag f := by
  unfold State.fdpEvent
  by_cases hon : s.map.fdp = true ∧ s.fdpEnabled handle event = true
  · rw [if_pos hon]; exact if_pos hon
  · rw [if_neg hon]; exact if_neg hon

theorem AtHand.fdpEvent {s : State} {tag cid : Nat} {c : Cmd} {q : Sq} {x : SqSide} {cq : Cq} (h : AtHand s tag c q x cq cid) (event handle : Nat) :
    AtHand (s.fdpEvent event handle) tag c q x cq cid := by
  unfold State.fdpEvent
  split
  · exact ⟨h.row, h.fresh, h.owes, h.fetched, h.queue, h.side, h.place, h.room, h.alone, h.runs, h.awake, h.queued⟩
  · exact h

/-- A placement handle that the namespace has not ends the command, with its FDP event. -/
theorem AtHand.served_badHandle {s : State} {tag cid : Nat} {c : Cmd} {q : Sq} {x : SqSide} {cq : Cq} (h : AtHand s tag c q x cq cid) (n : Namespace) :
    Served (s.fdpEvent 0x03 (n.handles.getD 0 0)) ((s.modCmd tag fun c => { c with started := true }).badHandle tag n).postAll.arrayPump tag q x cq cid
      invalidField c.out := by
  rw [State.badHandle, State.fdpEvent_modCmd]
  exact (h.fdpEvent _ _).served_finish invalidField 0 (Begun.self _ tag)

/-- What a write at hand comes to on its namespace. -/
theorem AtHand.write {s : State} {tag cid : Nat} {c : Cmd} {q : Sq} {x : SqSide} {cq : Cq} (h : AtHand s tag c q x cq cid) (hw : c.waits false 0x01 = true)
    (hgo : s.writeWaits c = false) {n : Namespace} (hn : s.cmdSpace c = some n) (data : List Byte) (pi : List ProtInfo) :
    ∃ t, execWrite tag data pi s = .next t ∧
      (s.writeProtected = true → Served s t tag q x cq cid (stat 0 0x20) c.out) ∧
      (s.writeProtected = false → s.placeStream n c = none → Served (s.fdpEvent 0x03 (n.handles.getD 0 0)) t tag q x cq cid invalidField c.out) ∧
      (∀ stream, s.writeProtected = false → s.placeStream n c = some stream →
        (∀ r, s.keyServes n = some r → Served s t tag q x cq cid r c.out) ∧
        (∀ i r, s.keyServes n = none → writeCheck n c data pi = some (i, r) → Served s t tag q x cq cid r c.out) ∧
        (s.keyServes n = none → writeCheck n c data pi = none → ∃ u : State, t = u.settle.postAll.arrayPump ∧
          UnitsTaken s u tag c ((unitSpans n (sqeSlba c.entry) (sqeNlb c.entry)).map
            (writeJob tag n data stream fun k => writeTags n c (k - sqeSlba c.entry) (pi.getD (k - sqeSlba c.entry) default))))) := by
  have begun := Begun.self s tag
  refine ⟨_, rfl, ?_⟩
  rw [h.onSpace_of_some hw (by simp [hgo]) hn]
  refine ⟨fun hprot => ?_, fun hprot hplace => ?_, fun stream hprot hplace =>
    ⟨fun r hkey => ?_, fun i r hkey hcheck => ?_, fun hkey hcheck => ?_⟩⟩ <;>
    simp only [State.modCmd_writeProtected, State.modCmd_placeStream, State.modCmd_keyServes, Bool.false_eq_true, if_true, if_false, *]
  · exact h.served_finish _ 0 begun
  · exact h.served_badHandle n
  · exact h.served_finish r 0 begun
  · exact h.served_finish r 0x0607 (begun.leave 0x0607 _)
  · exact ⟨_, rfl, by rw [State.addWrites_eq]; exact (h.opened begun).take _⟩

/-- What a Write Zeroes at hand comes to on its namespace. -/
theorem AtHand.writeZeroes {s : State} {tag cid : Nat} {c : Cmd} {q : Sq} {x : SqSide} {cq : Cq} (h : AtHand s tag c q x cq cid)
    (hw : c.waits false 0x08 = true) {n : Namespace} (hn : s.cmdSpace c = some n) : ∃ t, execWriteZeroes tag s = .next t ∧
      (s.writeProtected = true → Served s t tag q x cq cid (stat 0 0x20) c.out) ∧
      (∀ r, s.writeProtected = false → s.keyServes n = some r → Served s t tag q x cq cid r c.out) ∧
      (s.writeProtected = false → s.keyServes n = none → ∃ u : State, t = u.settle.postAll.arrayPump ∧
        (n.hasTags = true → cmdPract c = true → UnitsTaken s u tag c ((unitSpans n (sqeSlba c.entry) (sqeNlb c.entry)).map
          (writeJob tag n [] (s.handle0 n) fun k => tagRecord (n.flbas % 16) (cmdApp c) (cmdRef n c (k - sqeSlba c.entry))))) ∧
        (n.hasTags = false ∨ cmdPract c = false →
          UnitsTaken s u tag c ((unitSpans n (sqeSlba c.entry) (sqeNlb c.entry)).flatMap (discardJobs tag n (s.handle0 n) false)))) := by
  have begun := Begun.self s tag
  refine ⟨_, rfl, ?_⟩
  rw [h.onSpace_of_some hw rfl hn]
  refine ⟨fun hprot => ?_, fun r hprot hkey => ?_, fun hprot hkey => ?_⟩ <;>
    simp only [State.modCmd_writeProtected, State.modCmd_keyServes, Bool.false_eq_true, if_true, if_false, *]
  · exact h.served_finish _ 0 begun
  · exact h.served_finish r 0 begun
  · by_cases hpract : n.hasTags = true ∧ cmdPract c = true
    · rw [if_pos hpract, State.addWrites_eq]
      exact ⟨_, rfl, fun _ _ => (h.opened begun).take _, fun hno => by simp [hpract] at hno⟩
    · rw [if_neg hpract, State.addDiscards_eq]
      exact ⟨_, rfl, fun htags hp => absurd ⟨htags, hp⟩ hpract, fun _ => (h.opened begun).take _⟩

/-- Settles O37: the refusals and the units of each command, and what a range's units are. -/
theorem writesTakeTheirUnits : Obligations.WritesTakeTheirUnits := by
  unfold Obligations.WritesTakeTheirUnits
  refine ⟨fun s tag c q x cq cid h => ⟨?flush, ?waits, ?write, ?zeroes⟩, fun n slba nlb i z hz => unitSpans_get hz, unitSpans_sum, State.keyServes_eq_none_iff,
    fun n c data pi => writeCheck_of_bare data pi, State.writeWaits_iff⟩
  case flush =>
    intro hw
    exact ⟨_, rfl, h.begin_served hw rfl (h.served_finish ok 0 (Begun.self s tag))⟩
  case waits =>
    intro data pi hw hwait
    exact congrArg Host.Outcome.next (h.begin_of_not_sel (by simp [hwait]) _)
  case write =>
    intro data pi hw hgo
    refine ⟨_, rfl, fun hn => h.onSpace_of_none hw (by simp [hgo]) hn, fun n hn => ?_⟩
    obtain ⟨t, ht, hprot, hhandle, hplaced⟩ := h.write hw hgo hn data pi
    rw [Host.Outcome.next.inj ht]
    refine ⟨hprot, hhandle, fun stream hp hs => ?_⟩
    obtain ⟨hkey, hcheck, htaken⟩ := hplaced stream hp hs
    exact ⟨fun r hr => ⟨hkey r hr, State.keyServes_status hr⟩, fun i r hk hr => ⟨hcheck i r hk hr, writeCheck_lt hr⟩, htaken⟩
  case zeroes =>
    intro hw
    refine ⟨_, rfl, fun hn => h.onSpace_of_none hw rfl hn, fun n spans hn hspans => ?_⟩
    obtain ⟨t, ht, hrest⟩ := h.writeZeroes hw hn
    rw [Host.Outcome.next.inj ht, hspans]
    exact hrest

end Sys2Proof.Machine
end

section
/-! The thermal level's fall, the grace timers, the end of a trip, and the reserve domain's terms (O32): R21, R49, R381, R383, R386, R390. -/
namespace Sys2Proof.Machine

/-! ### What settling a front-end command leaves of the tree store's boot and of the shutdown status -/

/-- The tree store and SHST. -/
def State.standing (s : State) : TsState × Nat := (s.ts, s.fe.shst)

theorem State.countCompleted_standing (s : State) (c : Cmd) : (s.countCompleted c).standing = s.standing := by
  unfold State.countCompleted State.smartCount
  (repeat' split) <;> rfl
theorem State.postSide_standing (s : State) (tag : Nat) (r : CmdResult) (o : Rein × Nat) : (s.postSide tag r o).standing = s.standing := by
  unfold State.postSide
  (repeat' split) <;> first | rfl | exact s.countCompleted_standing _
theorem State.freeIfDone_standing (s : State) (tag : Nat) : (s.freeIfDone tag).standing = s.standing := by
  unfold State.freeIfDone State.tunnelEnds
  (repeat' split) <;> rfl
theorem State.postCmd_standing (s : State) (tag : Nat) : (s.postCmd tag).standing = s.standing := by
  unfold State.postCmd
  split
  · split
    · split
      · rfl
      · exact (State.freeIfDone_standing _ _).trans (fold_left State.standing _ (fun s o => s.postSide_standing tag _ o) _ s)
    · rfl
  · exact s.freeIfDone_standing tag
theorem State.postMismatch_standing (s : State) (m : Nat × Rein × BitVec 32 × CqEntry) : (s.postMismatch m).standing = s.standing := by
  unfold State.postMismatch
  (repeat' split) <;> rfl
theorem State.postAll_standing (s : State) : s.postAll.standing = s.standing := by
  refine (fold_left State.standing _ State.postCmd_standing _ _).trans ?_
  split
  · rfl
  · exact fold_left State.standing _ State.postMismatch_standing _ s

theorem TsState.pump_bootStep (t : TsState) : t.pump.bootStep = t.bootStep := by
  unfold TsState.pump
  (repeat' split) <;> rfl
theorem State.leave_bootStep (s : State) (code sev : Nat) (xs : List Nat) : (s.leave code sev xs).ts.bootStep = s.ts.bootStep := by
  unfold State.leave State.recordEvent State.putRecord
  (repeat' split) <;> rfl
theorem State.leaveSaturations_bootStep (s : State) : s.leaveSaturations.ts.bootStep = s.ts.bootStep :=
  fold_left (fun s => s.ts.bootStep) _ (fun s _ => s.leave_bootStep _ _ _) _ _
theorem State.leaveSaturations_shst (s : State) : s.leaveSaturations.fe.shst = s.fe.shst :=
  fold_left (fun s => s.fe.shst) _ (fun s _ => congrArg FeState.shst (s.leave_fe _ _ _)) _ _

@[simp] theorem State.settleFront_bootStep (s : State) : s.settleFront.ts.bootStep = s.ts.bootStep := by
  have hpost := congrArg (fun x : TsState × Nat => x.1.bootStep) s.leaveSaturations.postAll_standing
  exact (TsState.pump_bootStep _).trans (hpost.trans s.leaveSaturations_bootStep)
@[simp] theorem State.settleFront_shst (s : State) : s.settleFront.fe.shst = s.fe.shst := by
  have hpost := congrArg Prod.snd s.leaveSaturations.postAll_standing
  exact hpost.trans s.leaveSaturations_shst

/-! ### The level's fall -/

/-- What is still enforced at the level that the readings give. -/
def State.fallenEnforced (s : State) : Nat := if s.levelNow < 2 then 0 else min s.therm.enforced s.levelNow

theorem State.levelFalls_therm (s : State) : s.levelFalls.therm = { s.therm with
    level := s.levelNow, below := 0, enforced := s.fallenEnforced,
    floor := if s.fallenEnforced = 0 then 0 else min s.therm.floor (if s.levelNow = 2 then s.img.floor1 else s.img.floor2),
    ask1 := if s.levelNow < 2 then none else s.therm.ask1, ask2 := if s.levelNow < 3 then none else s.therm.ask2 } := by
  unfold State.levelFalls
  simp only [State.leave_kept]
  rfl

/-! ### The expiry of a grace timer -/

/-- The timer of THROTTLE1, or (`second`) that of THROTTLE2, has ended. -/
def ThermState.expired (t : ThermState) (second : Bool) : ThermState := if second then { t with ask2 := none } else { t with ask1 := none }

theorem execGraceExpire_of_zero {s : State} {second : Bool} (h : (if second then s.therm.ask2 else s.therm.ask1) = some 0) :
    execGraceExpire second s = .next (({ s with therm := s.therm.expired second } : State).enforce (if second then 3 else 2)).settleFront := by
  cases second
  · exact if_pos h
  · exact if_pos h

theorem execGraceExpire_of_not_zero {s : State} {second : Bool} (h : (if second then s.therm.ask2 else s.therm.ask1) ≠ some 0) :
    execGraceExpire second s = .next s := by
  cases second
  · exact if_neg h
  · exact if_neg h

/-- A level that is not yet enforced raises the floor and counts its transition; another changes nothing. -/
theorem State.enforce_therm (s : State) (l : Nat) : (s.enforce l).therm = if s.therm.enforced < l then { s.therm with
    floor := max s.therm.floor (if l = 2 then s.img.floor1 else s.img.floor2), enforced := l,
    tmt1 := if l = 2 then s.therm.tmt1 + 1 else s.therm.tmt1, tmt2 := if l = 3 then s.therm.tmt2 + 1 else s.therm.tmt2 } else s.therm := by
  unfold State.enforce
  split <;> simp

/-! ### The end of a trip -/

/-- The trip is over; the temperature of sensor 1 is kept for its record. -/
def State.tripOver (s : State) : State := { s with therm := { s.therm with tripped := false, resumed := some (s.sensorField 64 1) } }

theorem execTripResume_of_due {s : State} (htrip : s.therm.tripped = true) (hhold : 2 ∈ s.dump.holds) (hcool : s.coolEnough = true)
    (htime : 100000 ≤ s.therm.coolFor) : execTripResume s = .next (s.tripOver.releaseHold 2).settleFront :=
  if_pos ⟨htrip, by simpa using hhold, hcool, htime⟩

/-- The trip's hold is the last one: the power-on reset follows. -/
theorem State.releaseHold_trip_last {s : State} {found : Nat} (hhold : 2 ∈ s.dump.holds) (hleft : s.dump.holds.filter (· ≠ 2) = [])
    (hfound : s.therm.resumed = some found) : s.releaseHold 2 = (s.powerOnReset false).leave 0x1006 0 [found] := by
  simp_all [State.releaseHold]
/-- A shutdown's hold alone is left: the shutdown is complete. -/
theorem State.releaseHold_trip_shutdown {s : State} (hhold : 2 ∈ s.dump.holds) (hleft : s.dump.holds.filter (· ≠ 2) = [5]) : s.releaseHold 2 = s.shutDown := by
  simp_all [State.releaseHold]
/-- Other holds are left: they stand. -/
theorem State.releaseHold_trip_others {s : State} (hhold : 2 ∈ s.dump.holds) (hsome : s.dump.holds.filter (· ≠ 2) ≠ []) (hleft : s.dump.holds.filter (· ≠ 2) ≠ [5]) :
    s.releaseHold 2 = { s with dump := { s.dump with holds := s.dump.holds.filter (· ≠ 2) } } := by
  simp_all [State.releaseHold]

/-! ### Tables over temperature -/

/-- At a temperature of the table its entry is read. -/
theorem interpolate_at_entry (l : List Int) {k : Nat} (hk : k < 32) : interpolate l (20 * (k : Int) - 160) = intAt l k := by
  rcases Nat.eq_zero_or_pos k with rfl | hpos
  · rfl
  · have hx : (20 * (k : Int)).toNat = 20 * k := by omega
    rw [interpolate, if_neg (by omega), if_neg (by omega)]
    simp [hx]
/-- Above the table its last entry holds, below it its first. -/
theorem interpolate_above (l : List Int) {x : Int} (h : 480 ≤ x) : interpolate l x = intAt l 32 := by
  rw [interpolate, if_neg (by omega), if_pos h]
theorem interpolate_below (l : List Int) {x : Int} (h : x ≤ -160) : interpolate l x = intAt l 0 := if_pos h

/-- Settles O32: each command's due case and its others. -/
theorem thermalLevelsFallAndResume : Obligations.ThermalLevelsFallAndResume := by
  unfold Obligations.ThermalLevelsFallAndResume
  refine ⟨?fall, fun s h => if_neg (by omega), ?grace, fun s h => execGraceExpire_of_not_zero (second := true) h,
    fun s h => execGraceExpire_of_not_zero (second := false) h, ?resume, ?resumeNone, ?reserve, ?reserveNone, fun l k hk => interpolate_at_entry l hk,
    fun l x h => interpolate_above l h, fun l x h => interpolate_below l h⟩
  case fall =>
    intro s hlevel hbelow hnow
    exact ⟨_, s.fallenEnforced, if_pos ⟨hlevel, hbelow, hnow⟩, rfl, by simp [State.levelFalls_therm], by simp [SameFrame], by simp [SameData]⟩
  case grace =>
    intro s b l f hl hf hzero
    refine ⟨_, execGraceExpire_of_zero hzero, ?_⟩
    subst hl hf
    cases b
    case false => by_cases hrise : s.therm.enforced < 2 <;> simp [State.enforce_therm, ThermState.expired, SameFrame, SameData, hrise]; all_goals omega
    case true => by_cases hrise : s.therm.enforced < 3 <;> simp [State.enforce_therm, ThermState.expired, SameFrame, SameData, hrise]; all_goals omega
  case resume =>
    intro s htrip hhold hcool htime
    refine ⟨_, execTripResume_of_due htrip hhold hcool htime, ?_⟩
    have hhold' : 2 ∈ s.tripOver.dump.holds := hhold
    have honly : s.dump.holds.filter (· ≠ 2) = [] ↔ ∀ h ∈ s.dump.holds, h = 2 := by simp [List.filter_eq_nil_iff]
    by_cases hnone : s.dump.holds.filter (· ≠ 2) = []
    · rw [State.releaseHold_trip_last hhold' hnone rfl]
      refine ⟨by simp; rfl, by simp; rfl, by simp; rfl, fun _ => ⟨by simp [State.leave_bootStep]; rfl, by simp; rfl, by simp; rfl⟩, fun ⟨h, hmem, hne⟩ => ?_, fun hshut => ?_⟩
      · exact absurd (honly.mp hnone h hmem) hne
      · cases hnone.symm.trans hshut
    · by_cases hshut : s.dump.holds.filter (· ≠ 2) = [5]
      · rw [State.releaseHold_trip_shutdown hhold' hshut]
        refine ⟨by simp; rfl, by simp; rfl, by simp; rfl, fun hall => absurd (honly.mpr hall) hnone, fun _ hother => absurd hshut hother, fun _ => ?_⟩
        simp [State.shutDown]
      · rw [State.releaseHold_trip_others hhold' hnone hshut]
        refine ⟨by simp; rfl, by simp; rfl, by simp; rfl, fun hall => absurd (honly.mpr hall) hnone, fun _ _ => ?_, fun h => absurd h hshut⟩
        simp [State.tripOver]
  case resumeNone =>
    intro s h
    refine if_neg ?_
    rintro ⟨htrip, hhold, hcool, htime⟩
    rcases h with h | h | h | h
    · simp [h] at htrip
    · exact h (by simpa using hhold)
    · simp [h] at hcool
    · omega
  case reserve =>
    intro s x hx
    show execReserveCompUpdate s = _
    rw [execReserveCompUpdate, hx]
  case reserveNone =>
    intro s hx
    show execReserveCompUpdate s = _
    rw [execReserveCompUpdate, hx]

end Sys2Proof.Machine
end

section
/-! The write path of a unit, from the skiver to the engine (O16): its stored bytes and length, and the value that its context gives it (R299, R302, R323, R324). -/
namespace Sys2Proof.Machine

/-! ### The value that a key context gives out -/

/-- A context that gives a unit its DSEQ at once. -/
structure KeySlot.Gives (k : KeySlot) : Prop where
  standing : k.revoking = false
  keyed : k.current.isSome
  left : k.exhausted = false
  assigns : k.mayAssign = true

@[simp] theorem State.setJob_keySlot (s : State) (t : Nat) (j : UnitJob) (n : Nat) : (s.setJob t j).keySlot n = s.keySlot n := rfl
@[simp] theorem State.cipherAsk_keySlot (s : State) (w : CipherWork) (slot : Nat) (keys : Option KeySet) (read : Bool) (n : Nat) :
    (s.cipherAsk w slot keys read).keySlot n = s.keySlot n := rfl
@[simp] theorem State.cipherAsk_skv (s : State) (w : CipherWork) (slot : Nat) (keys : Option KeySet) (read : Bool) :
    (s.cipherAsk w slot keys read).skv = s.skv := rfl
@[simp] theorem State.leave_keySlot (s : State) (code sev : Nat) (xs : List Nat) (n : Nat) : (s.leave code sev xs).keySlot n = s.keySlot n := by
  simp [State.keySlot]
@[simp] theorem State.vendorEvent_keySlot (s : State) (info page n : Nat) : (s.vendorEvent info page).keySlot n = s.keySlot n := by
  simp [State.keySlot]
@[simp] theorem State.writeRec_keySlot (s : State) (r : Region) (x : TsRec) (n : Nat) : (s.writeRec r x).keySlot n = s.keySlot n := rfl

/-- What R303 and R305 watch leaves the counter as it is. -/
theorem State.afterCount_counter (s : State) (n : Nat) : ((s.afterCount n).keySlot n).counter = (s.keySlot n).counter := by
  unfold State.afterCount
  dsimp only
  split <;> split <;> simp
/-- So does the end of a generation (R306, R309). -/
theorem State.countEnds_counter (s : State) (n : Nat) : ((s.countEnds n).keySlot n).counter = (s.keySlot n).counter := by
  unfold State.countEnds State.rollStart
  dsimp only
  (repeat' split) <;> simp

theorem State.afterCount_skv (s : State) (n : Nat) : (s.afterCount n).skv = s.skv := by
  unfold State.afterCount
  dsimp only
  split <;> split <;> simp
theorem State.countEnds_skv (s : State) (n : Nat) : (s.countEnds n).skv = s.skv := by
  unfold State.countEnds State.rollStart
  dsimp only
  (repeat' split) <;> simp

/-- A unit whose context gives out a value takes COUNTER as its DSEQ, and waits for the engine. -/
theorem State.askEncrypt_of_gives {s : State} {t : Nat} {j : UnitJob} {n : Namespace} (hjob : s.job t = some j) (hspace : s.spaceOf j.nsx = some n)
    (hgives : (s.keySlot n.slot).Gives) : s.askEncrypt t =
      ((((s.modSlot n.slot fun k => { k with counter := k.counter + 1 }).afterCount n.slot).countEnds n.slot).setJob t { j with
        desc := { j.desc with nsx := j.nsx, unit := j.unit, dseq := (s.keySlot n.slot).counter, slot := n.slot, kgen := (s.keySlot n.slot).kgen },
        stage := .cipher, slot := some 0 }).cipherAsk (if j.kind = .copy then .rekey t else .encrypt t) n.slot (s.keySlot n.slot).current false := by
  obtain ⟨hstanding, hkeyed, hleft, hassigns⟩ := hgives
  have hnone : (s.keySlot n.slot).current.isNone = false := by simpa using hkeyed
  simp [State.askEncrypt, hjob, hspace, hstanding, hnone, hleft, hassigns]

/-- A unit with its stored bytes and their length. -/
def UnitJob.storing (j : UnitJob) (stored : List Byte) (raw : Bool) (glen : Nat) : UnitJob :=
  { j with stored := stored, desc := { j.desc with raw := raw, glen := glen } }

/-- A unit that has been coded, or stored raw, as step 3 of the write path leaves it. -/
structure Sealable (u : State) (t : Nat) (j : UnitJob) (n : Namespace) (k : KeySlot) (stored : List Byte) (raw : Bool) (glen : Nat) (v : UnitJob) : Prop where
  job : u.job t = some v
  stored : v.stored = stored
  raw : v.desc.raw = raw
  glen : v.desc.glen = glen
  stage : v.stage = .cipher
  nsx : v.desc.nsx = j.nsx
  unit : v.desc.unit = j.unit
  dseq : v.desc.dseq = k.counter
  slot : v.desc.slot = n.slot
  kgen : v.desc.kgen = k.kgen
  counter : (u.keySlot n.slot).counter = k.counter + 1

theorem State.askEncrypt_sealable {s : State} {t : Nat} {j : UnitJob} {n : Namespace} (hspace : s.spaceOf j.nsx = some n) (hgives : (s.keySlot n.slot).Gives)
    (stored : List Byte) (raw : Bool) (glen : Nat) :
    ∃ v, Sealable ((s.setJob t (j.storing stored raw glen)).askEncrypt t) t j n (s.keySlot n.slot) stored raw glen v := by
  have hjob : (s.setJob t (j.storing stored raw glen)).job t = some (j.storing stored raw glen) := Table.find_set_self _ _ _
  rw [State.askEncrypt_of_gives hjob hspace hgives]
  exact ⟨_, Table.find_set_self _ _ _, rfl, rfl, rfl, rfl, rfl, rfl, rfl, rfl, rfl, by
    simp only [State.cipherAsk_keySlot, State.setJob_keySlot, State.countEnds_counter, State.afterCount_counter, State.modSlot_keySlot]⟩

theorem State.askEncrypt_skv {s : State} {t : Nat} {j : UnitJob} {n : Namespace} (hjob : s.job t = some j) (hspace : s.spaceOf j.nsx = some n)
    (hgives : (s.keySlot n.slot).Gives) : (s.askEncrypt t).skv = s.skv := by
  rw [State.askEncrypt_of_gives hjob hspace hgives, State.cipherAsk_skv, State.setJob_skv, State.countEnds_skv, State.afterCount_skv, State.modSlot_skv]

/-! ### The skiver -/

theorem State.compMismatch_fe (s : State) (engine : Nat) : (s.compMismatch engine).fe = s.fe := by
  unfold State.compMismatch State.skiverLost
  dsimp only
  (repeat' split) <;> simp_all
theorem State.compMismatch_cipher (s : State) (engine : Nat) : (s.compMismatch engine).cipher = s.cipher := by
  unfold State.compMismatch State.skiverLost
  dsimp only
  (repeat' split) <;> simp_all
/-- The mismatch counts on its compressor. -/
theorem State.compMismatch_count (s : State) (engine : Nat) :
    Table.getD (s.compMismatch engine).skv.compMiss engine 0 = Table.getD s.skv.compMiss engine 0 + 1 := by
  unfold State.compMismatch State.skiverLost
  dsimp only
  (repeat' split) <;> simp_all

/-- GLEN and RAW of a unit at the skiver (R323). -/
def State.skiverLength (s : State) (j : UnitJob) : Nat × Bool :=
  unitLength (s.padMode j.nsx) (s.skv.cfg.inlineEn && decide (s.skv.comps ≠ [])) (encodeInline j.data).length

/-- The state in which the unit is stored: counted where it is stored raw, and its compressor's mismatch counted. -/
def State.skived (s : State) (engine : Nat) (checkOk : Bool) (j : UnitJob) : State :=
  if (s.skiverLength j).2 then s.count1 0x090 else if checkOk then s else (s.compMismatch engine).count1 0x090

/-- The unit as it is stored: coded and padded, or raw where it does not shrink or the check decoder disagrees. -/
def State.storedUnit (s : State) (checkOk : Bool) (j : UnitJob) : UnitJob :=
  if (s.skiverLength j).2 = true ∨ checkOk = false then j.storing (padTo 4096 j.data) true 8
  else j.storing (padTo ((s.skiverLength j).1 * 512) (encodeInline j.data)) false (s.skiverLength j).1

theorem State.skiverUnit_eq (s : State) (t engine : Nat) (checkOk : Bool) (j : UnitJob) :
    s.skiverUnit t engine checkOk j = ((s.skived engine checkOk j).setJob t (s.storedUnit checkOk j)).askEncrypt t := by
  have hbranch : s.skiverUnit t engine checkOk j =
      if (s.skiverLength j).2 then s.storeRaw t j
      else if checkOk then (s.setJob t (j.storing (padTo ((s.skiverLength j).1 * 512) (encodeInline j.data)) false (s.skiverLength j).1)).askEncrypt t
      else (s.compMismatch engine).storeRaw t j := rfl
  rw [hbranch, State.skived, State.storedUnit]
  cases (s.skiverLength j).2 <;> cases checkOk <;> rfl

theorem State.skived_fe (s : State) (engine : Nat) (checkOk : Bool) (j : UnitJob) : (s.skived engine checkOk j).fe = s.fe := by
  unfold State.skived
  (repeat' split) <;> simp [State.compMismatch_fe]
theorem State.skived_cipher (s : State) (engine : Nat) (checkOk : Bool) (j : UnitJob) : (s.skived engine checkOk j).cipher = s.cipher := by
  unfold State.skived
  (repeat' split) <;> simp [State.compMismatch_cipher]

theorem State.skived_spaceOf (s : State) (engine : Nat) (checkOk : Bool) (j : UnitJob) (nsx : Nat) :
    (s.skived engine checkOk j).spaceOf nsx = s.spaceOf nsx := by
  rw [State.spaceOf, State.skived_fe]
  rfl
theorem State.skived_keySlot (s : State) (engine : Nat) (checkOk : Bool) (j : UnitJob) (n : Nat) :
    (s.skived engine checkOk j).keySlot n = s.keySlot n := by
  rw [State.keySlot, State.skived_cipher]
  rfl

theorem execSkiverUnitDone_of_skiver {s : State} {unit engine : Nat} {j : UnitJob} (hjob : s.job unit = some j) (hstage : j.stage = .skiver)
    (hkind : j.kind = .write) (hserves : engine ∈ s.skv.comps ∨ s.skv.comps = []) (checkOk : Bool) :
    execSkiverUnitDone unit engine checkOk s = .next (s.skiverUnit unit engine checkOk j).settle := by
  have hserves' : s.skv.comps.contains engine = true ∨ s.skv.comps = [] := by simpa using hserves
  simp only [execSkiverUnitDone, hjob]
  exact if_pos ⟨hstage, hkind, hserves'⟩

theorem execSkiverUnitDone_of_other {s : State} {unit engine : Nat} (checkOk : Bool)
    (h : (∀ j, s.job unit = some j → j.stage ≠ .skiver ∨ j.kind ≠ .write) ∨ (engine ∉ s.skv.comps ∧ s.skv.comps ≠ [])) :
    execSkiverUnitDone unit engine checkOk s = .next s := by
  unfold execSkiverUnitDone
  split
  case h_2 => rfl
  case h_1 j hjob =>
    refine if_neg ?_
    rintro ⟨hstage, hkind, hserves⟩
    rcases h with h | ⟨hout, hsome⟩
    · exact (h j hjob).elim (· hstage) (· hkind)
    · exact hserves.elim (fun hin => hout (by simpa using hin)) hsome

/-- The unit at the skiver: its stored bytes, its descriptor, its value, and the count of a disagreement. -/
theorem State.skiverUnit_sealable {s : State} {t : Nat} {j : UnitJob} {n : Namespace} (hspace : s.spaceOf j.nsx = some n) (hgives : (s.keySlot n.slot).Gives)
    (engine : Nat) (checkOk : Bool) : ∃ v,
    ((s.skiverLength j).2 = true ∨ checkOk = false →
      Sealable (s.skiverUnit t engine checkOk j) t j n (s.keySlot n.slot) (padTo 4096 j.data) true 8 v) ∧
    ((s.skiverLength j).2 = false → checkOk = true → Sealable (s.skiverUnit t engine checkOk j) t j n (s.keySlot n.slot)
      (padTo ((s.skiverLength j).1 * 512) (encodeInline j.data)) false (s.skiverLength j).1 v) := by
  have hspace' := (s.skived_spaceOf engine checkOk j j.nsx).trans hspace
  have hkey := s.skived_keySlot engine checkOk j n.slot
  rw [State.skiverUnit_eq, State.storedUnit, ← hkey]
  by_cases hraw : (s.skiverLength j).2 = true ∨ checkOk = false
  · rw [if_pos hraw]
    obtain ⟨v, hv⟩ := State.askEncrypt_sealable (t := t) hspace' (hkey ▸ hgives) (padTo 4096 j.data) true 8
    exact ⟨v, fun _ => hv, fun hno hok => by simp [hno, hok] at hraw⟩
  · rw [if_neg hraw]
    obtain ⟨v, hv⟩ := State.askEncrypt_sealable (t := t) hspace' (hkey ▸ hgives) (padTo ((s.skiverLength j).1 * 512) (encodeInline j.data)) false
      (s.skiverLength j).1
    exact ⟨v, fun h => absurd h hraw, fun _ _ => hv⟩

theorem State.skiverUnit_miss {s : State} {t : Nat} {j : UnitJob} {n : Namespace} (hspace : s.spaceOf j.nsx = some n) (hgives : (s.keySlot n.slot).Gives)
    (engine : Nat) (hraw : (s.skiverLength j).2 = false) :
    Table.getD (s.skiverUnit t engine false j).skv.compMiss engine 0 = Table.getD s.skv.compMiss engine 0 + 1 := by
  have hspace' := (s.skived_spaceOf engine false j j.nsx).trans hspace
  have hkey := s.skived_keySlot engine false j n.slot
  have hunit : s.storedUnit false j = j.storing (padTo 4096 j.data) true 8 := if_pos (.inr rfl)
  have hstate : s.skived engine false j = (s.compMismatch engine).count1 0x090 := by simp [State.skived, hraw]
  rw [State.skiverUnit_eq, hunit, State.askEncrypt_skv (j := j.storing (padTo 4096 j.data) true 8) (State.setJob_job _ _ _) hspace' (hkey ▸ hgives), State.setJob_skv, hstate]
  exact s.compMismatch_count engine

end Sys2Proof.Machine
end

section
/-! The admission of a unit (O16): what the segments it needs leave of the buffer, the slot it takes, and its index entry (R15, R132, R135, R209 to R211). -/
namespace Sys2Proof.Machine

/-! ### What the map's operations leave of the index and of the streams' chunks -/

theorem updAt_getD_of_keeps {α β : Type} {f : α → α} {p : α → β} (hf : ∀ x, p (f x) = p x) (l : List α) (m n : Nat) (d : α) :
    p ((updAt l m f).getD n d) = p (l.getD n d) := by
  induction l generalizing m n with
  | nil => rfl
  | cons x l ih =>
    cases m <;> cases n
    case zero.zero => exact hf x
    case zero.succ => rfl
    case succ.zero => rfl
    case succ.succ m n => exact ih m n

@[simp] theorem State.queuePayload_chunk (s : State) (m : Nat) (p : Payload) (n : Nat) : ((s.queuePayload m p).stream n).chunk = (s.stream n).chunk :=
  updAt_getD_of_keeps (f := fun x : Stream => { x with list := x.list ++ [p] }) (p := Stream.chunk) (fun _ => rfl) _ _ _ _

/-- The write-buffer index, the write buffer, and the chunk that each stream fills. -/
def State.buffering (s : State) : Table (Nat × Nat × Nat × Nat) × WbState × (Nat → Option (Nat × Nat)) := (s.map.wbi, s.wb, fun n => (s.stream n).chunk)

theorem State.writeRootFrame_buffering (s : State) : s.writeRootFrame.buffering = s.buffering := by
  unfold State.writeRootFrame
  split
  · rfl
  · simp only [State.buffering, Prod.mk.injEq]
    exact ⟨rfl, rfl, funext fun n => s.queuePayload_chunk 6 _ n⟩
theorem State.rootRec_buffering (s : State) (r : RootRec) : (s.rootRec r).buffering = s.buffering := by
  unfold State.rootRec
  dsimp only
  split
  · exact State.writeRootFrame_buffering _
  · rfl
theorem State.takeSeg_buffering {s t : State} {g : Nat} (h : s.takeSeg = some (g, t)) : t.buffering = s.buffering := by
  unfold State.takeSeg at h
  split at h
  · obtain ⟨-, rfl⟩ := Prod.mk.inj (Option.some.inj h)
    rfl
  · split at h
    · obtain ⟨-, rfl⟩ := Prod.mk.inj (Option.some.inj h)
      rfl
    · cases h
theorem State.allocSeg_buffering (s : State) (nsx : Nat) (tag : Bool) (unit : Nat) : (s.allocSeg nsx tag unit).2.buffering = s.buffering := by
  unfold State.allocSeg
  split
  · rfl
  · split
    · dsimp only
      split
      · rfl
      · simp [State.buffering, State.stream]
    · next g t htake =>
      dsimp only
      rw [State.rootRec_buffering, State.rootRec_buffering, ← State.takeSeg_buffering htake]
      rfl
theorem State.needSegs_buffering (s : State) (nsx unit : Nat) : (s.needSegs nsx unit).2.buffering = s.buffering := by
  unfold State.needSegs
  dsimp only
  split
  · exact s.allocSeg_buffering nsx false unit
  · split
    · exact (State.allocSeg_buffering _ nsx true unit).trans (s.allocSeg_buffering nsx false unit)
    · exact s.allocSeg_buffering nsx false unit

/-! ### Marking a unit for secure discard leaves the index -/

@[simp] theorem State.setValid_map (s : State) (b valid : Nat) : (s.setValid b valid).map = s.map := by
  simp [State.setValid, State.vcAdd, State.vcRemove]
@[simp] theorem State.freeRun_map (s : State) (gaddr glen : Nat) : (s.freeRun gaddr glen).map = s.map := by simp [State.freeRun]
@[simp] theorem State.validRun_map (s : State) (gaddr glen : Nat) : (s.validRun gaddr glen).map = s.map := by simp [State.validRun]
@[simp] theorem State.serveBank_map (s : State) (b n : Nat) : (s.serveBank b n).map = s.map := by
  induction n generalizing s with
  | zero => rfl
  | succ n ih =>
    unfold State.serveBank
    dsimp only
    split
    · rfl
    · split
      · rfl
      · rw [ih]
        split <;> rfl
@[simp] theorem State.mcAccess_map (s : State) (seg block : Nat) (write : Bool) (hint source : Nat) : (s.mcAccess seg block write hint source).map = s.map := by
  simp [State.mcAccess, State.mcRequest]

/-- The places of the write-buffer index. -/
def State.index (s : State) : Table (Nat × Nat × Nat × Nat) := s.map.wbi

@[simp] theorem ite_index (c : Prop) [Decidable c] (a b : State) : (if c then a else b).index = if c then a.index else b.index := by split <;> rfl
theorem foldl_index {α : Type} (g : State → α → State) (h : ∀ s a, (g s a).index = s.index) (l : List α) (s : State) : (l.foldl g s).index = s.index :=
  fold_left State.index g h l s
theorem State.index_of_map {s t : State} (h : t.map = s.map) : t.index = s.index := congrArg MapState.wbi h
@[simp] theorem State.setSeg_index (s : State) (n : Nat) (d : SegDesc) : (s.setSeg n d).index = s.index := rfl
@[simp] theorem State.modSeg_index (s : State) (n : Nat) (f : SegDesc → SegDesc) : (s.modSeg n f).index = s.index := rfl
@[simp] theorem State.queuePayload_index (s : State) (n : Nat) (p : Payload) : (s.queuePayload n p).index = s.index := rfl
@[simp] theorem State.awaitOne_index (s : State) (k : Nat × Nat) : (s.awaitOne k).index = s.index := rfl
@[simp] theorem State.writeRunOnly_index (s : State) (seg : Nat) : (s.writeRunOnly seg).index = s.index := by simp [State.writeRunOnly]
@[simp] theorem State.startCkpt_index (s : State) (seg : Nat) : (s.startCkpt seg).index = s.index := by
  simp only [State.startCkpt]
  rw [foldl_index _ (fun _ _ => State.queuePayload_index _ _ _)]
  simp
@[simp] theorem State.writeRun_index (s : State) (seg : Nat) (awaited : Bool) : (s.writeRun seg awaited).index = s.index := by simp [State.writeRun]
@[simp] theorem State.journal_index (s : State) (seg : Nat) (r : JrnlRec) : (s.journal seg r).index = s.index := by simp [State.journal]
@[simp] theorem State.freeRun_index (s : State) (gaddr glen : Nat) : (s.freeRun gaddr glen).index = s.index := State.index_of_map (s.freeRun_map gaddr glen)
@[simp] theorem State.validRun_index (s : State) (gaddr glen : Nat) : (s.validRun gaddr glen).index = s.index := State.index_of_map (s.validRun_map gaddr glen)
@[simp] theorem State.awaitRun_index (s : State) (b seg : Nat) : (s.awaitRun b seg).index = s.index := rfl
@[simp] theorem State.mcAccess_index (s : State) (seg block : Nat) (write : Bool) (hint source : Nat) :
    (s.mcAccess seg block write hint source).index = s.index := State.index_of_map (s.mcAccess_map seg block write hint source)
@[simp] theorem State.writeEntry_index (s : State) (seg idx : Nat) (e : MapEntry) (hint source : Nat) : (s.writeEntry seg idx e hint source).index = s.index := by
  simp only [State.writeEntry, State.journal_index, State.mcAccess_index, ite_index, State.validRun_index, State.awaitRun_index, State.freeRun_index,
    State.modSeg_index, ite_self]
  rfl
@[simp] theorem State.setEntry_index (s : State) (seg idx : Nat) (e : MapEntry) (hint source : Nat) : (s.setEntry seg idx e hint source).index = s.index := by
  simp [State.setEntry]
@[simp] theorem State.markSdp_index (s : State) (nsx unit : Nat) : (s.markSdp nsx unit).index = s.index := by
  unfold State.markSdp
  split <;> simp

/-! ### The slot that a unit takes -/

/-- Whether a slot can be had depends on the stream's chunk and on the write buffer alone. -/
theorem State.takeSlot_isSome_congr {s t : State} (h : t.buffering = s.buffering) (n glen : Nat) : (t.takeSlot n glen).isSome = (s.takeSlot n glen).isSome := by
  simp only [State.buffering, Prod.mk.injEq] at h
  obtain ⟨-, hwb, hchunk⟩ := h
  have hn : (t.stream n).chunk = (s.stream n).chunk := congrFun hchunk n
  unfold State.takeSlot
  rw [hn, hwb]
  split
  · split <;> simp
  · simp

theorem State.takeSlot_map {s t : State} {n glen gran : Nat} (h : s.takeSlot n glen = some (gran, t)) : t.map = s.map := by
  unfold State.takeSlot at h
  split at h
  · split at h
    · obtain ⟨-, rfl⟩ := Prod.mk.inj (Option.some.inj h)
      rfl
    · obtain ⟨x, -, hx⟩ := Option.map_eq_some_iff.mp h
      obtain ⟨-, rfl⟩ := Prod.mk.inj hx
      rfl
  · obtain ⟨x, -, hx⟩ := Option.map_eq_some_iff.mp h
    obtain ⟨-, rfl⟩ := Prod.mk.inj hx
    rfl

/-! ### The index entry -/

/-- The entry at a place of the index, when it is the unit's. -/
def MapState.hitAt (m : MapState) (nsx unit place : Nat) : Option (Nat × Nat × Nat) :=
  match Table.find m.wbi place with
  | some (n, u, g, l) => if n = nsx ∧ u = unit then some (place, g, l) else none
  | none => none

theorem MapState.wbiFind_eq (m : MapState) (nsx unit : Nat) :
    m.wbiFind nsx unit = (List.range 8).findSome? fun i => m.hitAt nsx unit (bucketOf nsx unit * 8 + i) := by
  rw [MapState.wbiFind, MapState.bucket, List.findSome?_map]
  rfl

/-- The unit's place is one of its bucket's, and no place of the bucket before it holds an entry of the unit. -/
theorem MapState.wbiPlace_spec {m : MapState} {nsx unit place : Nat} (h : m.wbiPlace nsx unit = some place) :
    ∃ l₁ i l₂, List.range 8 = l₁ ++ i :: l₂ ∧ place = bucketOf nsx unit * 8 + i ∧ ∀ x ∈ l₁, m.hitAt nsx unit (bucketOf nsx unit * 8 + x) = none := by
  unfold MapState.wbiPlace at h
  split at h
  · next k g l hfind =>
    rw [MapState.wbiFind_eq, List.findSome?_eq_some_iff] at hfind
    obtain ⟨l₁, i, l₂, hrange, hit, hbefore⟩ := hfind
    refine ⟨l₁, i, l₂, hrange, ?_, hbefore⟩
    obtain rfl : k = place := Option.some.inj h
    unfold MapState.hitAt at hit
    split at hit
    · split at hit
      · exact (congrArg Prod.fst (Option.some.inj hit)).symm
      · cases hit
    · cases hit
  · next hnone =>
    rw [MapState.wbiFind_eq, List.findSome?_eq_none_iff] at hnone
    obtain ⟨⟨k, e⟩, hfree, rfl⟩ := Option.map_eq_some_iff.mp h
    obtain ⟨i, hi, hpair⟩ := List.mem_map.mp (List.mem_of_find?_eq_some hfree)
    obtain ⟨rfl, -⟩ := Prod.mk.inj hpair
    obtain ⟨l₁, l₂, hrange⟩ := List.append_of_mem hi
    exact ⟨l₁, i, l₂, hrange, rfl, fun x hx => hnone x (by rw [hrange]; exact List.mem_append_left _ hx)⟩

/-- Once a unit's entry stands at its place it is found there. -/
theorem MapState.wbiFind_of_set {m m' : MapState} {nsx unit place gran glen : Nat} (h : m.wbiPlace nsx unit = some place)
    (hset : m'.wbi = Table.set m.wbi place (nsx, unit, gran, glen)) : m'.wbiFind nsx unit = some (place, gran, glen) := by
  obtain ⟨l₁, i, l₂, hrange, rfl, hbefore⟩ := MapState.wbiPlace_spec h
  rw [MapState.wbiFind_eq, List.findSome?_eq_some_iff]
  refine ⟨l₁, i, l₂, hrange, ?_, fun x hx => ?_⟩
  · simp [MapState.hitAt, hset]
  · have hnodup : (l₁ ++ i :: l₂).Nodup := hrange ▸ List.nodup_range
    have hne : x ≠ i := fun hxi => (List.nodup_middle.mp hnodup).notMem (List.mem_append_left _ (hxi ▸ hx))
    have := hbefore x hx
    rw [MapState.hitAt, hset, Table.find_set_ne _ _ _ _ (by omega)]
    exact this

@[simp] theorem State.addBuffered_index (s : State) (nsx unit : Nat) (up : Bool) : (s.addBuffered nsx unit up).index = s.index := by
  refine fold_left State.index _ (fun s tag => ?_) _ s
  split <;> rfl
theorem State.addBuffered_wb (s : State) (nsx unit : Nat) (up : Bool) : (s.addBuffered nsx unit up).wb = s.wb := by
  refine fold_left (fun s => s.wb) _ (fun s tag => ?_) _ s
  split <;> rfl


/-- The entry of an inserted unit is found, and DIRTY is the sum over the index. -/
theorem State.wbiInsert_spec {s : State} {nsx unit place gran glen : Nat} (h : s.map.wbiPlace nsx unit = some place) :
    (s.wbiInsert nsx unit gran glen).map.wbiFind nsx unit = some (place, gran, glen) ∧ (s.wbiInsert nsx unit gran glen).wb.slots = s.wb.slots ∧
      (s.wbiInsert nsx unit gran glen).wb.dirty = ((s.wbiInsert nsx unit gran glen).map.wbi.map fun (_, (_, _, _, l)) => l).sum := by
  unfold State.wbiInsert
  rw [h]
  refine ⟨MapState.wbiFind_of_set h ?_, ?_, rfl⟩
  · have hindex : (if (s.map.wbiFind nsx unit).isSome then s else s.addBuffered nsx unit true).index = s.index := by simp
    exact congrArg (Table.set · place (nsx, unit, gran, glen)) hindex
  · have hwb : (if (s.map.wbiFind nsx unit).isSome then s else s.addBuffered nsx unit true).wb = s.wb := by simp [State.addBuffered_wb]
    show (State.sumDirty _).wb.slots = s.wb.slots
    exact (congrArg WbState.slots hwb :)

/-! ### The end of a unit -/

theorem State.finish_jobs (s : State) (tag : Nat) (r : CmdResult) : (s.finish tag r).fe.jobs = s.fe.jobs := (congrArg FeState.jobs (s.finishCode_rest tag r 0) :)
theorem State.cmdStep_jobs (s : State) (tag : Nat) : (s.cmdStep tag).fe.jobs = s.fe.jobs := by
  unfold State.cmdStep
  split
  · split
    · exact s.finish_jobs tag ok
    · rfl
  · rfl
theorem State.dropJob_job (s : State) (t : Nat) : (s.dropJob t).job t = none := by
  unfold State.dropJob
  dsimp only
  split <;> exact Table.find_del_self _ _
theorem State.endUnit_job (s : State) (t : Nat) : (s.endUnit t).job t = none := by
  unfold State.endUnit
  split
  · rw [State.job, State.cmdStep_jobs]
    exact s.dropJob_job t
  · exact s.dropJob_job t

/-- What the buffer holds of a unit, whoever reads it. -/
def WbSlot.content (w : WbSlot) : UnitDesc × Nat × List Byte := (w.desc, w.tags, w.data)

/-- A job's end may end its read of a slot; the contents of the slots, DIRTY and the map stand. -/
theorem State.dropJob_buffer (s : State) (t : Nat) : (s.dropJob t).map = s.map ∧ (s.dropJob t).wb.dirty = s.wb.dirty ∧
    ∀ g, (Table.find (s.dropJob t).wb.slots g).map WbSlot.content = (Table.find s.wb.slots g).map WbSlot.content := by
  have hleaves : (s.jobLeavesSlot t).map = s.map ∧ (s.jobLeavesSlot t).wb.dirty = s.wb.dirty ∧
      ∀ g, (Table.find (s.jobLeavesSlot t).wb.slots g).map WbSlot.content = (Table.find s.wb.slots g).map WbSlot.content := by
    unfold State.jobLeavesSlot
    split
    · next gran _ =>
      refine ⟨rfl, rfl, fun g => ?_⟩
      simp only [State.slotRead]
      by_cases hg : g = gran
      · rw [hg, Table.find_modify_self, Option.map_map]
        rfl
      · rw [Table.find_modify_ne _ _ _ _ hg]
    · exact ⟨rfl, rfl, fun _ => rfl⟩
  unfold State.dropJob
  dsimp only
  split <;> exact hleaves

theorem State.endUnit_buffer (s : State) (t : Nat) : (s.endUnit t).map = s.map ∧ (s.endUnit t).wb.dirty = s.wb.dirty ∧
    ∀ g, (Table.find (s.endUnit t).wb.slots g).map WbSlot.content = (Table.find s.wb.slots g).map WbSlot.content := by
  unfold State.endUnit
  split
  · simpa using s.dropJob_buffer t
  · exact s.dropJob_buffer t

/-! ### Admission -/

theorem execUnitAdmit_of_may {s : State} {unit : Nat} {j : UnitJob} (hjob : s.job unit = some j) (hmay : s.mayAdmit unit j = true) :
    execUnitAdmit unit s = .next (s.admitUnit unit j).settle := by
  simp only [execUnitAdmit, hjob, hmay, if_true]

theorem execUnitAdmit_of_not {s : State} {unit : Nat} (h : ∀ j, s.job unit = some j → s.mayAdmit unit j = false) : execUnitAdmit unit s = .next s := by
  unfold execUnitAdmit
  split
  · next j hjob => simp [h j hjob]
  · rfl

/-- What admission asks of a unit. -/
theorem State.mayAdmit_iff (s : State) (t : Nat) (j : UnitJob) : s.mayAdmit t j = true ↔ j.stage = .admission ∧ j.kind = .write ∧ s.earlierWrite t j = false ∧
    s.windowTakes j = true ∧ (s.map.wbiPlace j.nsx j.unit).isSome ∧ (s.takeSlot j.stream j.desc.glen).isSome ∧ s.chainTakes j = true ∧ s.dump.run = none := by
  simp [State.mayAdmit, and_assoc]

/-- The pool has no segment for the unit. -/
theorem State.admitUnit_of_full {s : State} {t : Nat} {j : UnitJob} (hsegs : (s.needSegs j.nsx j.unit).1 = false) :
    s.admitUnit t j = (s.needSegs j.nsx j.unit).2.jobFails t (stat 0 0x81) := by
  simp [State.admitUnit, hsegs]

/-- The slot of an admitted unit, before anyone reads it. -/
def UnitJob.slotOf (j : UnitJob) : WbSlot := { desc := j.desc, tags := j.tagRec, data := j.stored, readers := 0 }

/-- The unit's slot stands in the buffer, and no index entry names it yet. -/
def State.slotFilled (s : State) (gran : Nat) (j : UnitJob) : State :=
  { s with wb := { s.wb with slots := Table.set s.wb.slots gran j.slotOf }, fe := { s.fe with hostGran := s.fe.hostGran + ceilDiv j.len 512 } }

/-- An admitted unit: its segments, its slot, its index entry, its place with its stream, its end. -/
theorem State.admitUnit_of_room {s t : State} {unit gran : Nat} {j : UnitJob} (hsegs : (s.needSegs j.nsx j.unit).1 = true)
    (hslot : (s.needSegs j.nsx j.unit).2.takeSlot j.stream j.desc.glen = some (gran, t)) : s.admitUnit unit j =
      ((((((if j.secure then t.markSdp j.nsx j.unit else t).slotFilled gran j).wbiInsert j.nsx j.unit gran j.desc.glen).queuePayload j.stream
        (.buffered gran j.desc j.tagRec j.stored)).count1 0x014).endUnit unit) := by
  simp [State.admitUnit, hsegs, hslot, State.slotFilled, UnitJob.slotOf]

/-- The unit's place in the index depends on the index alone. -/
theorem State.wbiPlace_congr {s t : State} (h : t.index = s.index) (nsx unit : Nat) : t.map.wbiPlace nsx unit = s.map.wbiPlace nsx unit := by
  have hwbi : t.map.wbi = s.map.wbi := h
  simp only [MapState.wbiPlace, MapState.wbiFind, MapState.bucket, hwbi]

/-- What an admitted unit leaves: it has ended, a slot holds its bytes and its descriptor, the index names that slot, and DIRTY is the sum over the index. -/
structure Admitted (u : State) (unit gran : Nat) (j : UnitJob) (w : WbSlot) : Prop where
  ended : u.job unit = none
  slot : Table.find u.wb.slots gran = some w
  data : w.data = j.stored
  desc : w.desc = j.desc
  tags : w.tags = j.tagRec
  found : ∃ p, u.map.wbiFind j.nsx j.unit = some (p, gran, j.desc.glen)
  dirty : u.wb.dirty = (u.map.wbi.map fun (_, (_, _, _, l)) => l).sum

/-- A filled slot that is named, handed to its stream and counted admits its unit. -/
theorem State.slotFilled_admitted {s : State} {unit gran place : Nat} {j : UnitJob} (hplace : s.map.wbiPlace j.nsx j.unit = some place) :
    ∃ w, Admitted (((((s.slotFilled gran j).wbiInsert j.nsx j.unit gran j.desc.glen).queuePayload j.stream
      (.buffered gran j.desc j.tagRec j.stored)).count1 0x014).endUnit unit) unit gran j w := by
  obtain ⟨hfind, hslots, hdirty⟩ := State.wbiInsert_spec (s := s.slotFilled gran j) (gran := gran) (glen := j.desc.glen) hplace
  generalize (s.slotFilled gran j).wbiInsert j.nsx j.unit gran j.desc.glen = v at hfind hslots hdirty
  have hheld : Table.find v.wb.slots gran = some j.slotOf := by
    rw [hslots]
    exact Table.find_set_self _ _ _
  obtain ⟨hmap, hsum, hcontent⟩ := State.endUnit_buffer ((v.queuePayload j.stream (.buffered gran j.desc j.tagRec j.stored)).count1 0x014) unit
  have hslot := (hcontent gran).trans (congrArg (Option.map WbSlot.content) hheld)
  obtain ⟨w, hw, hsame⟩ := Option.map_eq_some_iff.mp hslot
  simp only [WbSlot.content, UnitJob.slotOf, Prod.mk.injEq] at hsame
  obtain ⟨hdesc, htags, hdata⟩ := hsame
  refine ⟨w, State.endUnit_job _ _, hw, hdata, hdesc, htags, ⟨place, ?_⟩, ?_⟩
  · rw [hmap]
    exact hfind
  · rw [hmap, hsum]
    exact hdirty

theorem State.admitUnit_admitted {s : State} {unit : Nat} {j : UnitJob} (hmay : s.mayAdmit unit j = true) (hsegs : (s.needSegs j.nsx j.unit).1 = true) :
    ∃ gran w, Admitted (s.admitUnit unit j) unit gran j w := by
  obtain ⟨-, -, -, -, hplace, hroom, -, -⟩ := (s.mayAdmit_iff unit j).mp hmay
  have hbuffering := s.needSegs_buffering j.nsx j.unit
  obtain ⟨⟨gran, t⟩, hslot⟩ := Option.isSome_iff_exists.mp ((State.takeSlot_isSome_congr hbuffering j.stream j.desc.glen).trans hroom)
  obtain ⟨place, hplace⟩ := Option.isSome_iff_exists.mp hplace
  have htaken : t.index = s.index := (State.index_of_map (State.takeSlot_map hslot)).trans (congrArg Prod.fst hbuffering)
  have hindex : (if j.secure then t.markSdp j.nsx j.unit else t).index = s.index := by simp [htaken]
  rw [State.admitUnit_of_room hsegs hslot]
  exact ⟨gran, State.slotFilled_admitted ((State.wbiPlace_congr hindex _ _).trans hplace)⟩

/-! ### The obligation -/

/-- A write unit at the skiver, under a context that gives it its value. -/
theorem execSkiverUnitDone_seals {s : State} {unit engine : Nat} {j : UnitJob} {n : Namespace} (checkOk : Bool) (hjob : s.job unit = some j)
    (hstage : j.stage = .skiver) (hkind : j.kind = .write) (hserves : engine ∈ s.skv.comps ∨ s.skv.comps = []) (hspace : s.spaceOf j.nsx = some n)
    (hgives : (s.keySlot n.slot).Gives) :
    ∃ (u : State) (v : UnitJob) (glen : Nat) (raw : Bool), exec (.skiverUnitDone unit engine checkOk) s = .next u.settle ∧ u.job unit = some v ∧
      (glen, raw) = unitLength n.padMode (s.skv.cfg.inlineEn && decide (s.skv.comps ≠ [])) (encodeInline j.data).length ∧
      (raw = true ∨ checkOk = false → v.stored = padTo 4096 j.data ∧ v.desc.raw = true ∧ v.desc.glen = 8) ∧
      (raw = false → checkOk = true → v.stored = padTo (glen * 512) (encodeInline j.data) ∧ v.desc.raw = false ∧ v.desc.glen = glen) ∧
      (raw = false → checkOk = false → (Table.getD u.skv.compMiss engine 0) = Table.getD s.skv.compMiss engine 0 + 1) ∧
      v.stage = .cipher ∧ v.desc.nsx = j.nsx ∧ v.desc.unit = j.unit ∧ v.desc.dseq = (s.keySlot n.slot).counter ∧ v.desc.slot = n.slot ∧
      v.desc.kgen = (s.keySlot n.slot).kgen ∧ (u.keySlot n.slot).counter = (s.keySlot n.slot).counter + 1 := by
  have hlength : s.skiverLength j = unitLength n.padMode (s.skv.cfg.inlineEn && decide (s.skv.comps ≠ [])) (encodeInline j.data).length := by
    simp [State.skiverLength, State.padMode, hspace]
  have hmiss := State.skiverUnit_miss (t := unit) hspace hgives engine
  obtain ⟨v, hstored, hcoded⟩ := State.skiverUnit_sealable (t := unit) hspace hgives engine checkOk
  refine ⟨s.skiverUnit unit engine checkOk j, v, (s.skiverLength j).1, (s.skiverLength j).2,
    execSkiverUnitDone_of_skiver hjob hstage hkind hserves checkOk, ?_⟩
  by_cases hraw : (s.skiverLength j).2 = true ∨ checkOk = false
  · have hv := hstored hraw
    refine ⟨hv.job, hlength, fun _ => ⟨hv.stored, hv.raw, hv.glen⟩, fun hno hok => ?_, fun hno hbad => ?_,
      hv.stage, hv.nsx, hv.unit, hv.dseq, hv.slot, hv.kgen, hv.counter⟩
    · simp [hno, hok] at hraw
    · subst hbad
      exact hmiss hno
  · obtain ⟨hno, hok⟩ : (s.skiverLength j).2 = false ∧ checkOk = true := by simpa using hraw
    have hv := hcoded hno hok
    refine ⟨hv.job, hlength, fun h => absurd h hraw, fun _ _ => ⟨hv.stored, hv.raw, hv.glen⟩, fun _ hbad => ?_,
      hv.stage, hv.nsx, hv.unit, hv.dseq, hv.slot, hv.kgen, hv.counter⟩
    simp [hok] at hbad

/-- Settles O16: a unit at the skiver is stored and takes its value, and `UNIT_ADMIT` is split by what admission asks and by the segments the pool has. -/
theorem unitsPassTheWritePath : Obligations.UnitsPassTheWritePath := by
  unfold Obligations.UnitsPassTheWritePath
  refine ⟨?_, ?_, ?_, ?_, ?_, ?_⟩
  · intro s unit engine checkOk j n k hjob hstage hkind hserves hspace hk hstanding hkeyed hleft hassigns
    subst hk
    exact execSkiverUnitDone_seals checkOk hjob hstage hkind hserves hspace ⟨hstanding, hkeyed, hleft, hassigns⟩
  · exact fun _ _ _ checkOk => execSkiverUnitDone_of_other checkOk
  · intro s unit j hjob hmay hsegs
    obtain ⟨gran, w, hw⟩ := State.admitUnit_admitted hmay hsegs
    exact ⟨_, gran, w, execUnitAdmit_of_may hjob hmay, hw.ended, hw.slot, hw.data, hw.desc, hw.tags, hw.found, hw.dirty⟩
  · exact fun s unit j hjob hmay hsegs => ⟨_, execUnitAdmit_of_may hjob hmay, State.admitUnit_of_full hsegs⟩
  · exact fun _ _ => execUnitAdmit_of_not
  · intro s unit j hmay
    obtain ⟨-, -, hturn, hwindow, -, -, -, hdump⟩ := (s.mayAdmit_iff unit j).mp hmay
    obtain ⟨hnow, hthen⟩ : s.wb.dirty ≤ s.windowGran ∧ s.wb.dirty - s.oldGlen j.nsx j.unit + j.desc.glen ≤ s.windowGran := by
      simpa [State.windowTakes] using hwindow
    exact ⟨hnow, hthen, hdump, hturn⟩

end Sys2Proof.Machine
end

section
/-! The wheel through its own operations: what each leaves of `WheelState`, for the statements on edges, guards, boundaries and bounds (02_wheel R30 to R54). -/
namespace Sys2Proof.Machine

/-! ### The phase and the correction -/

theorem WheelState.lag_lt (w : WheelState) : w.lag < 1024 := Nat.mod_lt _ (by omega)
theorem WheelState.target_lt (w : WheelState) : w.target < 1024 := Nat.mod_lt _ (by omega)

theorem clampFreq_natAbs_le (x : Int) : (clampFreq x).natAbs ≤ 200000 := by
  unfold clampFreq clampInt
  omega

theorem WheelState.slewCorr_of_still {w : WheelState} (h : w.slewing = false) : w.slewCorr = 0 := by simp [WheelState.slewCorr, h]

/-! ### The wheel's states -/

/-- A change of state sets the mode and starts the counts of good and missed edges anew. -/
def WheelState.moved (w : WheelState) (m : WheelMode) : WheelState := { w with mode := m, good := 0, missRun := 0 }
@[simp] theorem State.wheelTo_wheel (s : State) (m : WheelMode) (code sev : Nat) : (s.wheelTo m code sev).wheel = s.wheel.moved m := by
  simp [State.wheelTo, WheelState.moved]

/-- The wheel in HOLDOVER: FREQ_CORR is comp(T) plus the mean of INTEG, without a slew (R48). -/
def WheelState.fallen (w : WheelState) : WheelState :=
  ((({ w with integ := meanInteg w.integHist, holdNs := 0, errBoundPs := w.phaseErr.natAbs * 1000, errGrows := true } : WheelState).slew false).correct
    (w.comp + meanInteg w.integHist)).moved .holdover

/-- LOCKED falls to HOLDOVER, and with FAILOVER a PTM source on to ACQUIRE on the other rein (R44, R48). -/
def WheelState.heldOver (w : WheelState) : WheelState :=
  if 2 ≤ w.sourceInUse ∧ w.cfg.failover then ({ w.fallen with sourceInUse := 5 - w.sourceInUse, failedOver := true, predicted := none } : WheelState).moved .acquire
  else w.fallen
@[simp] theorem State.toHoldover_wheel (s : State) (code : Nat) : (s.toHoldover code).wheel = s.wheel.heldOver := by
  unfold State.toHoldover WheelState.heldOver
  dsimp only
  split <;> simp [WheelState.fallen]

/-- The wheel that has locked, LT compared with TARGET (R45). -/
def WheelState.lockedIn (w : WheelState) : WheelState :=
  ({ w.moved .locked with good := 8, errGrows := false, failedOver := false, keepCorr := false, holdNs := 0, errBoundPs := 0 } : WheelState).comparePhase
@[simp] theorem State.toLocked_wheel (s : State) : s.toLocked.wheel = s.wheel.lockedIn := by simp [State.toLocked, WheelState.lockedIn]

/-! ### Edges -/

/-- A missed edge as it is counted (R43). -/
def WheelState.missedOne (w : WheelState) : WheelState :=
  { w with missed := satAdd 32 w.missed 1, missRun := w.missRun + 1, good := 0, predicted := w.predicted.map (· + w.periodNow) }
/-- The second missed edge in a row takes LOCKED to HOLDOVER. -/
theorem State.missedEdge_wheel (s : State) :
    s.missedEdge.wheel = if s.wheel.mode = .locked ∧ 1 ≤ s.wheel.missRun then s.wheel.missedOne.heldOver else s.wheel.missedOne := by
  simp [State.missedEdge, WheelState.missedOne]

/-- A fast edge as it is counted (R43). -/
def WheelState.fastOne (w : WheelState) : WheelState :=
  { w with fast := satAdd 32 w.fast 1, fastRound := w.fastRound + 1, good := if w.mode = .holdover then 0 else w.good }
/-- The seventeenth fast edge in a round takes LOCKED to HOLDOVER, and starts the count of ACQUIRE anew. -/
theorem State.fastEdge_wheel (s : State) : s.fastEdge.wheel =
    if 16 ≤ s.wheel.fastRound then
      if s.wheel.mode = .locked then s.wheel.fastOne.heldOver
      else if s.wheel.mode = .acquire then { s.wheel.fastOne with good := 0 } else s.wheel.fastOne
    else s.wheel.fastOne := by
  simp [State.fastEdge, WheelState.fastOne]

/-- The state once the phase loop has taken an edge in LOCKED (R42). -/
def State.measured (s : State) (t : Nat) : State :=
  match s.wheel.mode, s.wheel.predicted with
  | .locked, some p => s.phaseLoop ((t : Int) - nearest p)
  | _, _ => s
theorem State.measured_of_locked {s : State} {p : Nat} (hmode : s.wheel.mode = .locked) (hp : s.wheel.predicted = some p) (t : Nat) :
    s.measured t = s.phaseLoop ((t : Int) - nearest p) := by simp [State.measured, hmode, hp]
theorem State.measured_of_unlocked {s : State} (hmode : s.wheel.mode ≠ .locked) (t : Nat) : s.measured t = s := by
  unfold State.measured
  split
  · next hlocked _ => exact absurd hlocked hmode
  · rfl

/-- The time predicted for the edge after an accepted one (R39). -/
def WheelState.nextEdge (w : WheelState) (t : Nat) : Nat :=
  match w.mode, w.predicted with
  | .locked, some p => p + w.periodNow
  | _, _ => t * 1000000000 + w.periodNow
/-- An edge is accepted. -/
def WheelState.accepted (w : WheelState) (t : Nat) : WheelState :=
  { w with lastEdge := some t, predicted := some (w.nextEdge t), missRun := 0, good := min 8 (w.good + 1) }
/-- A good edge: the loop, the reference's phase, the acceptance; the eighth in a row locks. -/
theorem State.goodEdge_eq (s : State) (t masterNs : Nat) : s.goodEdge t masterNs =
    (let u : State := { s.measured t with wheel := ((s.measured t).wheel.edgePhase t masterNs).accepted t }
     if u.wheel.mode ≠ .locked ∧ 8 ≤ u.wheel.good then u.toLocked else u) := rfl
theorem State.goodEdge_wheel (s : State) (t masterNs : Nat) : (s.goodEdge t masterNs).wheel =
    (let w := ((s.measured t).wheel.edgePhase t masterNs).accepted t
     if w.mode ≠ .locked ∧ 8 ≤ w.good then w.lockedIn else w) := by
  simp [State.goodEdge_eq]

/-- An edge under three quarters of a period after the last accepted one (R43). -/
def WheelState.early (w : WheelState) (t : Nat) : Prop := ∃ l, w.lastEdge = some l ∧ 4 * t < 4 * l + 3 * w.cfg.period

/-- An edge while none is predicted is the anchor; then it is fast, good, stray where its window has closed, or missed (R39, R43). -/
theorem State.edge_of_none {s : State} (h : s.wheel.predicted = none) (t masterNs : Nat) (mayBeFast : Bool) : s.edge t masterNs mayBeFast = s.goodEdge t masterNs := by
  simp [State.edge, h]
theorem State.edge_of_early {s : State} {x t : Nat} (h : s.wheel.predicted = some x) (hearly : s.wheel.early t) (masterNs : Nat) :
    s.edge t masterNs true = s.fastEdge := by
  obtain ⟨l, hl, hsoon⟩ := hearly
  simp [State.edge, h, hl, hsoon]
theorem State.edge_of_timely {s : State} {x t : Nat} {mayBeFast : Bool} (h : s.wheel.predicted = some x) (htimely : mayBeFast = true → ¬ s.wheel.early t) (masterNs : Nat) :
    s.edge t masterNs mayBeFast = if nearest x ≤ t + s.wheel.halfWidth ∧ t ≤ nearest x + s.wheel.halfWidth then s.goodEdge t masterNs
      else if t + s.wheel.cfg.period / 2 < nearest x then s.count1 0x023 else (s.count1 0x023).missedEdge := by
  simp only [State.edge, h]
  refine if_neg fun hfast => ?_
  obtain ⟨hmay, hsoon⟩ := (Bool.and_eq_true _ _).mp hfast
  refine htimely hmay ?_
  cases hl : s.wheel.lastEdge with
  | none => simp [hl] at hsoon
  | some l => exact ⟨l, hl, by simpa [hl] using hsoon⟩

/-- What an edge of the source in use can be. -/
theorem State.edge_cases (s : State) (t masterNs : Nat) (mayBeFast : Bool) :
    s.edge t masterNs mayBeFast = s.goodEdge t masterNs ∨ s.edge t masterNs mayBeFast = s.fastEdge ∨ s.edge t masterNs mayBeFast = s.count1 0x023 ∨
      s.edge t masterNs mayBeFast = (s.count1 0x023).missedEdge := by
  cases hx : s.wheel.predicted with
  | none => exact .inl (State.edge_of_none hx t masterNs mayBeFast)
  | some x =>
    by_cases hfast : mayBeFast = true ∧ s.wheel.early t
    · obtain ⟨rfl, hearly⟩ := hfast
      exact .inr (.inl (State.edge_of_early hx hearly masterNs))
    · rw [State.edge_of_timely hx (fun hmay hearly => hfast ⟨hmay, hearly⟩)]
      split_ifs <;> simp

end Sys2Proof.Machine
end

section
/-! The wheel's bounds (O57): every operation on the wheel keeps them, and every other command leaves the wheel as it was. -/
namespace Sys2Proof.Machine

namespace WheelState

/-- The bounds speak of the fields of `pins` alone. -/
theorem Bounded.of_pins {v w : WheelState} (h : w.pins = v.pins) (hv : v.Bounded) : w.Bounded := by
  simp only [pins, Prod.mk.injEq] at h
  obtain ⟨hlt, hphase, hcorr, hclamp, hgood, hhist, hfiller⟩ := h
  simpa only [Bounded, hlt, hphase, hcorr, hclamp, hgood, hhist, hfiller] using hv

/-! ### Operations on the wheel -/

theorem Bounded.steer {w : WheelState} (h : w.Bounded) : w.steer.Bounded := by
  obtain ⟨hlt, hphase, -, hrest⟩ := h
  exact ⟨hlt, hphase, clampFreq_natAbs_le _, hrest⟩
theorem Bounded.correct {w : WheelState} (h : w.Bounded) (base : Int) : (w.correct base).Bounded := Bounded.steer h
theorem Bounded.slew {w : WheelState} (h : w.Bounded) (on : Bool) : (w.slew on).Bounded := Bounded.steer h
theorem Bounded.comparePhase {w : WheelState} (h : w.Bounded) : w.comparePhase.Bounded := Bounded.slew h _

theorem Bounded.withPhase {w : WheelState} (h : w.Bounded) {n : Nat} (hn : n < 1024) : ({ w with sysPhase := n } : WheelState).Bounded := by
  obtain ⟨hlt, -, hrest⟩ := h
  exact ⟨hlt, hn, hrest⟩
theorem Bounded.withTooth {w : WheelState} (h : w.Bounded) {n : Nat} (hn : n < 1024) : ({ w with lt := n } : WheelState).Bounded := by
  obtain ⟨-, hrest⟩ := h
  exact ⟨hn, hrest⟩
theorem Bounded.withGood {w : WheelState} (h : w.Bounded) {n : Nat} (hn : n ≤ 8) : ({ w with good := n } : WheelState).Bounded := by
  obtain ⟨hlt, hphase, hcorr, -, hrest⟩ := h
  exact ⟨hlt, hphase, hcorr, hn, hrest⟩
theorem Bounded.withFiller {w : WheelState} (h : w.Bounded) {n : Nat} (hn : n < 1024) : ({ w with filler := n } : WheelState).Bounded := by
  obtain ⟨hlt, hphase, hcorr, hgood, hclamp, hhist, -⟩ := h
  exact ⟨hlt, hphase, hcorr, hgood, hclamp, hhist, hn⟩
theorem Bounded.withClampRounds {w : WheelState} (h : w.Bounded) {n : Nat} (hn : n ≤ 64) : ({ w with clampRounds := n } : WheelState).Bounded := by
  obtain ⟨hlt, hphase, hcorr, hgood, -, hrest⟩ := h
  exact ⟨hlt, hphase, hcorr, hgood, hn, hrest⟩
theorem Bounded.withHist {w : WheelState} (h : w.Bounded) {xs : List Int} (hn : xs.length ≤ 64) : ({ w with integHist := xs } : WheelState).Bounded := by
  obtain ⟨hlt, hphase, hcorr, hgood, hclamp, -, hfiller⟩ := h
  exact ⟨hlt, hphase, hcorr, hgood, hclamp, hn, hfiller⟩

theorem Bounded.moved {w : WheelState} (h : w.Bounded) (m : WheelMode) : (w.moved m).Bounded := (h.withGood (n := 0) (by omega) :)
theorem Bounded.fallen {w : WheelState} (h : w.Bounded) : w.fallen.Bounded := by
  have hinteg : ({ w with integ := meanInteg w.integHist, holdNs := 0, errBoundPs := w.phaseErr.natAbs * 1000, errGrows := true } : WheelState).Bounded := h
  exact ((hinteg.slew false).correct _).moved _

theorem Bounded.heldOver {w : WheelState} (h : w.Bounded) : w.heldOver.Bounded := by
  unfold WheelState.heldOver
  split
  · have hother : ({ w.fallen with sourceInUse := 5 - w.sourceInUse, failedOver := true, predicted := none } : WheelState).Bounded := h.fallen
    exact hother.moved _
  · exact h.fallen

theorem Bounded.lockedIn {w : WheelState} (h : w.Bounded) : w.lockedIn.Bounded := by
  have height : ({ w.moved .locked with good := 8, errGrows := false, failedOver := false, keepCorr := false, holdNs := 0, errBoundPs := 0 } : WheelState).Bounded :=
    (h.moved .locked).withGood (by omega)
  exact height.comparePhase

theorem Bounded.takePhase {w : WheelState} (h : w.Bounded) {n : Nat} (hn : n < 1024) : (w.takePhase n).Bounded := by
  unfold WheelState.takePhase
  split
  · exact h
  · dsimp only
    split
    · exact (h.withPhase hn).slew _
    · exact h.withPhase hn

theorem Bounded.edgePhase {w : WheelState} (h : w.Bounded) (t masterNs : Nat) : (w.edgePhase t masterNs).Bounded := by
  have hmod : ∀ n, n % 1024 < 1024 := fun n => Nat.mod_lt n (by omega)
  unfold WheelState.edgePhase
  dsimp only
  split
  · refine Bounded.takePhase ?_ ?_
    · exact h
    (repeat' split) <;> first | exact hmod _ | omega
  · exact Bounded.takePhase h (hmod _)

theorem Bounded.accepted {w : WheelState} (h : w.Bounded) (t : Nat) : (w.accepted t).Bounded := by
  obtain ⟨hlt, hphase, hcorr, -, hrest⟩ := h
  exact ⟨hlt, hphase, hcorr, Nat.min_le_left _ _, hrest⟩

theorem Bounded.slewTooth {w : WheelState} (h : w.Bounded) : w.slewTooth.Bounded := by
  unfold WheelState.slewTooth
  split
  · extract_lets acc phase
    split
    · exact Bounded.slew h _
    · obtain ⟨hlt, hphase, hrest⟩ := h
      have hnext : phase < 1024 := by
        unfold phase
        (repeat' split) <;> omega
      have hmoved : ({ w with slewAcc := acc - 1000000, sysPhase := phase } : WheelState).Bounded := ⟨hlt, hnext, hrest⟩
      exact hmoved.slew _
  · exact h

theorem Bounded.tick {w : WheelState} (h : w.Bounded) : w.tick.Bounded := by
  have hphase : ({ w with wt := w.wt + 1, sysPhase := (w.sysPhase + 1) % 1024 } : WheelState).Bounded := h.withPhase (Nat.mod_lt _ (by omega))
  obtain ⟨hlt, -, -, -, -, -, hfiller⟩ := h
  unfold WheelState.tick
  extract_lets w'
  split
  · exact Bounded.withTooth (Bounded.withFiller (n := w.filler - 1) hphase (by omega)) (n := 0) (by omega)
  · split
    · have hround : ({ w' with lt := 0, roundDue := true } : WheelState).Bounded := hphase.withTooth (by omega)
      exact hround.slewTooth
    · next hlast =>
      have hnext : w.lt + 1 < 1024 := by
        have : w.lt ≠ 1023 := hlast
        omega
      have htooth : ({ w' with lt := w.lt + 1 } : WheelState).Bounded := hphase.withTooth hnext
      exact htooth.slewTooth

theorem Bounded.holdOn {w : WheelState} (h : w.Bounded) : w.holdOn.Bounded := by
  unfold WheelState.holdOn
  split <;> exact h

end WheelState

/-! ### Operations on the state -/

theorem State.wheelSource_bounded {s : State} (h : s.wheel.Bounded) : s.wheelSource.wheel.Bounded := by
  unfold State.wheelSource
  dsimp only
  split <;> rw [State.wheelTo_wheel] <;> refine WheelState.Bounded.moved ?_ _ <;> exact h

theorem State.startWheel_bounded {s : State} (h : s.wheel.Bounded) (c : WheelCfg) : (s.startWheel c).wheel.Bounded :=
  (h.withTooth (WheelState.target_lt _) :)

theorem State.missedEdge_bounded {s : State} (h : s.wheel.Bounded) : s.missedEdge.wheel.Bounded := by
  have hone : s.wheel.missedOne.Bounded := (h.withGood (n := 0) (by omega) :)
  rw [State.missedEdge_wheel]
  split
  · exact hone.heldOver
  · exact hone

theorem State.fastEdge_bounded {s : State} (h : s.wheel.Bounded) : s.fastEdge.wheel.Bounded := by
  have hone : s.wheel.fastOne.Bounded := by
    obtain ⟨-, -, -, hgood, -⟩ := id h
    exact (h.withGood (n := if s.wheel.mode = .holdover then 0 else s.wheel.good) (by split <;> omega) :)
  rw [State.fastEdge_wheel]
  split_ifs
  · exact hone.heldOver
  · exact hone.withGood (by omega)
  · exact hone
  · exact hone

theorem State.phaseLoop_bounded {s : State} (h : s.wheel.Bounded) (err : Int) : (s.phaseLoop err).wheel.Bounded := WheelState.Bounded.correct h _

theorem State.measured_bounded {s : State} (h : s.wheel.Bounded) (t : Nat) : (s.measured t).wheel.Bounded := by
  unfold State.measured
  split
  · exact State.phaseLoop_bounded h _
  · exact h

theorem State.goodEdge_bounded {s : State} (h : s.wheel.Bounded) (t masterNs : Nat) : (s.goodEdge t masterNs).wheel.Bounded := by
  have haccepted := ((State.measured_bounded h t).edgePhase t masterNs).accepted t
  rw [State.goodEdge_wheel]
  dsimp only
  split
  · exact haccepted.lockedIn
  · exact haccepted

theorem State.edge_bounded {s : State} (h : s.wheel.Bounded) (t masterNs : Nat) (mayBeFast : Bool) : (s.edge t masterNs mayBeFast).wheel.Bounded := by
  obtain heq | heq | heq | heq := s.edge_cases t masterNs mayBeFast <;> rw [heq]
  · exact State.goodEdge_bounded h _ _
  · exact State.fastEdge_bounded h
  · exact h
  · exact State.missedEdge_bounded h

theorem State.wheelApply_bounded {s : State} (h : s.wheel.Bounded) : s.wheelApply.wheel.Bounded := by
  unfold State.wheelApply
  split
  · exact h
  · extract_lets o v taken sourced
    have htaken : taken.wheel.Bounded := h
    have hsourced : sourced.wheel.Bounded := by
      unfold sourced
      split
      · exact State.wheelSource_bounded htaken
      · exact htaken
    split
    · exact hsourced.comparePhase
    · exact hsourced

theorem State.wheelComp_bounded {s : State} (h : s.wheel.Bounded) : s.wheelComp.wheel.Bounded := by
  unfold State.wheelComp
  extract_lets comp v read clamped steered
  have hclamped : clamped.Bounded := by
    obtain ⟨hlt, hphase, hcorr, hgood, -, hrest⟩ := h
    refine ⟨hlt, hphase, hcorr, hgood, ?_, hrest⟩
    show (if _ then min 64 (read.clampRounds + 1) else 0) ≤ 64
    split
    · exact Nat.min_le_left _ _
    · exact Nat.zero_le _
  suffices hsteered : steered.Bounded from hsteered
  unfold steered
  split
  · exact hclamped.withHist (List.length_take_le _ _)
  · split
    · exact hclamped.steer
    · exact hclamped.correct _

theorem State.phaseStep_bounded {s : State} (h : s.wheel.Bounded) : s.phaseStep.wheel.Bounded := by
  unfold State.phaseStep
  split
  · have hfilled : ({ s.wheel with stepDue := false, filler := s.wheel.lag, fillerLast := s.wheel.lag } : WheelState).Bounded := h.withFiller s.wheel.lag_lt
    simpa using hfilled
  · exact h

/-- A power-on reset starts the wheel at tooth 0 with no correction. -/
theorem State.powerOnReset_bounded (s : State) (supplyLost : Bool) : (s.powerOnReset supplyLost).wheel.Bounded := by
  exact .of_pins (v := State.reset.wheel) rfl reset_wheel_bounded

/-! ### Start-up, holds and dumps -/

theorem State.loadFeatures_bounded {s : State} (h : s.wheel.Bounded) (defaults : Option Nat) (savedWheel : Bool) :
    (s.loadFeatures defaults savedWheel).wheel.Bounded := by
  unfold State.loadFeatures
  dsimp only
  simp only [State.keeperFence_kept, State.leaseFence_kept]
  exact State.startWheel_bounded (by exact h) _

theorem State.takeImage_bounded {s : State} (h : s.wheel.Bounded) : s.takeImage.wheel.Bounded := by
  unfold State.takeImage
  dsimp only
  refine State.loadFeatures_bounded ?_ _ _
  split
  · simpa using h
  · exact h

theorem State.endShadow_bounded {s : State} (h : s.wheel.Bounded) : s.endShadow.wheel.Bounded := .of_pins (by simp) h

theorem State.bootImage_bounded {s : State} (h : s.wheel.Bounded) (found : BootFound) : (s.bootImage found).wheel.Bounded := by
  unfold State.bootImage
  split
  · next reason f _ =>
    refine State.endShadow_bounded (State.loadFeatures_bounded ?_ _ _)
    cases f with
    | none => simpa using h
    | some f => dsimp only; split <;> simpa using h
  · exact State.endShadow_bounded (State.loadFeatures_bounded (by simpa using h) _ _)
  · exact State.endShadow_bounded (State.takeImage_bounded h)

theorem State.enterHalterLate_bounded {s : State} (h : s.wheel.Bounded) (reason : Nat) : (s.enterHalterLate reason).wheel.Bounded := by
  unfold State.enterHalterLate
  extract_lets v c halted
  have hhalted : halted.wheel.Bounded := by simpa [halted] using h
  rw [(State.halterReady_kept _).2.1]
  split
  · exact hhalted
  · exact State.startWheel_bounded hhalted _

theorem State.bootDram_bounded {s : State} (h : s.wheel.Bounded) (found : BootFound) : (s.bootDram found).wheel.Bounded := by
  unfold State.bootDram
  extract_lets i drammed small gib ranks lanes rankOf seeded m d k sized mixed
  have hmixed : mixed.wheel = s.wheel := by simp [mixed, sized, seeded, drammed]
  split
  · exact State.enterHalterLate_bounded (by simpa [hmixed] using h) 8
  · extract_lets lowered x trained
    have htrained : trained.wheel = s.wheel := by simp [trained, lowered, hmixed]
    split
    · exact State.enterHalterLate_bounded (htrained ▸ h) 7
    · exact htrained ▸ h

theorem State.releaseHold_bounded {s : State} (h : s.wheel.Bounded) (hold : Nat) : (s.releaseHold hold).wheel.Bounded := by
  unfold State.releaseHold
  dsimp only
  split
  · split
    · split
      · simpa using s.powerOnReset_bounded false
      · exact s.powerOnReset_bounded false
    · split
      · simpa using h
      · exact h
  · exact h

theorem State.afterDump_bounded {s : State} (h : s.wheel.Bounded) (d : DumpRun) : (s.afterDump d).wheel.Bounded := by
  unfold State.afterDump
  split
  · exact s.powerOnReset_bounded false
  · split <;> simpa using h

theorem State.dumpEnds_bounded {s : State} (h : s.wheel.Bounded) : s.dumpEnds.wheel.Bounded := by
  unfold State.dumpEnds
  split
  · exact h
  · exact State.afterDump_bounded (.of_pins (by simp) h) _

theorem State.recDurable_bounded {s : State} (h : s.wheel.Bounded) (r : TsRec) : (s.recDurable r).wheel.Bounded := by
  unfold State.recDurable
  split
  case h_8 => exact State.dumpEnds_bounded h
  all_goals simpa using h

theorem State.opOk_bounded {s : State} (h : s.wheel.Bounded) (op : ArrayOp) : (s.opOk op).wheel.Bounded := by
  unfold State.opOk
  split
  · exact State.recDurable_bounded (by exact h) _
  all_goals simpa using h

/-! ### Each command -/

/-- An outcome of a command: a next state whose wheel is within its bounds if it was before. -/
def KeepsBounds (s : State) (o : Host.Outcome State Fault Refusal) : Prop := ∃ t, o = .next t ∧ (s.wheel.Bounded → t.wheel.Bounded)

theorem KeepsBounds.of_pins {s : State} {o : Host.Outcome State Fault Refusal} {P : State → Prop} (h : ∃ t, o = .next t ∧ P t)
    (hpins : ∀ t, P t → t.wheel.pins = s.wheel.pins) : KeepsBounds s o := by
  obtain ⟨t, ho, hP⟩ := h
  exact ⟨t, ho, .of_pins (hpins t hP)⟩

theorem KeepsBounds.self (s : State) : KeepsBounds s (.next s) := ⟨s, rfl, id⟩

theorem execPowerOnReset_bounded (straps : Straps) (s : State) : KeepsBounds s (execPowerOnReset straps s) := by
  refine ⟨_, rfl, fun h => ?_⟩
  show (if s.ts.bootStep = 0 then s else s.powerOnReset true).wheel.Bounded
  split
  · exact h
  · exact s.powerOnReset_bounded true

theorem execBootStepDone_bounded (found : BootFound) (s : State) : KeepsBounds s (execBootStepDone found s) := by
  unfold execBootStepDone
  split
  case h_3 => exact ⟨_, rfl, fun h => State.bootImage_bounded h found⟩
  case h_5 => exact ⟨_, rfl, fun h => State.bootDram_bounded h found⟩
  all_goals exact ⟨_, rfl, fun h => .of_pins (by simp) h⟩

theorem execToothBoundary_bounded (code : Nat) (found : TestFound) (s : State) : KeepsBounds s (execToothBoundary code found s) := by
  unfold execToothBoundary
  split
  · exact ⟨_, rfl, fun h => by simpa using h.tick.holdOn⟩
  · exact .self s

theorem execLocalRoundBoundary_bounded (mr4 : List Mr4Reading) (pass : Nat) (s : State) : KeepsBounds s (execLocalRoundBoundary mr4 pass s) := by
  unfold execLocalRoundBoundary
  split
  · extract_lets v o m begun counted o' refilled worked beaten judged moved
    have hworked : s.wheel.Bounded → worked.wheel.Bounded := fun h => State.phaseStep_bounded (State.wheelComp_bounded (State.wheelApply_bounded h))
    have hmoved : moved.wheel = worked.wheel := by simp [moved, judged, beaten]
    split <;> exact ⟨_, rfl, fun h => by simpa [hmoved] using hworked h⟩
  · exact .self s

theorem execPaceEdge_bounded (time high : Nat) (s : State) : KeepsBounds s (execPaceEdge time high s) := by
  unfold execPaceEdge
  split
  · exact ⟨_, rfl, fun h => by simpa using h⟩
  · split
    · exact ⟨_, rfl, fun h => by simpa using State.edge_bounded h _ _ _⟩
    · exact .self s

theorem execPtmExchangeDone_bounded (rein : Rein) (done : Bool) (time master : Nat) (s : State) : KeepsBounds s (execPtmExchangeDone rein done time master s) := by
  unfold execPtmExchangeDone
  dsimp only
  split
  · have hidle : s.wheel.Bounded → (s.modPort rein fun p => { p with ptmBusy := false }).wheel.Bounded := id
    split
    · split
      · exact ⟨_, rfl, fun h => by simpa using State.edge_bounded (hidle h) _ _ _⟩
      · exact ⟨_, rfl, fun h => by simpa using State.missedEdge_bounded (hidle h)⟩
    · exact ⟨_, rfl, hidle⟩
  · exact .self s

theorem execEdgeWindowClose_bounded (s : State) : KeepsBounds s (execEdgeWindowClose s) := by
  unfold execEdgeWindowClose
  split
  · exact ⟨_, rfl, fun h => by simpa using State.missedEdge_bounded h⟩
  · exact .self s

theorem execHoldoverGuardExceeded_bounded (s : State) : KeepsBounds s (execHoldoverGuardExceeded s) := by
  unfold execHoldoverGuardExceeded
  split
  · exact ⟨_, rfl, fun h => by simpa using h.moved _⟩
  · exact .self s

theorem execFreqClampPersist_bounded (s : State) : KeepsBounds s (execFreqClampPersist s) := by
  unfold execFreqClampPersist
  split
  · exact ⟨_, rfl, fun h => by simpa using h.withClampRounds (n := 0) (by omega)⟩
  · exact .self s

theorem execTripResume_bounded (s : State) : KeepsBounds s (execTripResume s) := by
  unfold execTripResume
  split
  · refine ⟨_, rfl, fun h => ?_⟩
    rw [(State.settleFront_kept _).2.1]
    exact State.releaseHold_bounded (by exact h) 2
  · exact .self s

theorem execTsOpDone_bounded (result : ArrayResult) (s : State) : KeepsBounds s (execTsOpDone result s) := by
  unfold execTsOpDone
  split
  · exact .self s
  · next op _ =>
    extract_lets o freed
    have hok : s.wheel.Bounded → (freed.opOk op).wheel.Bounded := fun h => State.opOk_bounded (show freed.wheel.Bounded from h) op
    refine ⟨_, rfl, fun h => ?_⟩
    rw [(State.settle_kept _).2.1]
    split
    · exact hok h
    · simpa using h
    · simpa using h
    · split
      · simpa using h
      · simpa using h
      · exact hok h

theorem execFaultReport_bounded (code sev : Nat) (s : State) : KeepsBounds s (execFaultReport code sev s) := by
  unfold execFaultReport
  split
  · exact .self s
  · extract_lets o told
    split
    · exact ⟨_, rfl, fun h => by simpa using State.enterHalterLate_bounded (s := told) h 8⟩
    · exact ⟨_, rfl, .of_pins (by simp [told])⟩

theorem execVddIoFall_bounded (s : State) : KeepsBounds s (execVddIoFall s) := by
  unfold execVddIoFall
  split
  · exact ⟨_, rfl, fun _ => s.powerOnReset_bounded true⟩
  · exact .self s

theorem execPwrfailNHighFilterExpire_bounded (s : State) : KeepsBounds s (execPwrfailNHighFilterExpire s) := by
  unfold execPwrfailNHighFilterExpire
  split
  · exact ⟨_, rfl, fun h => State.releaseHold_bounded (by exact h) 1⟩
  · exact .self s

/-- Every command keeps the bounds: the commands that may change the wheel one by one, and the others leave it as it was. -/
theorem exec_keepsBounds (i : Instr) (s : State) : KeepsBounds s (exec i s) := by
  cases hchanges : changesWheel i with
  | false =>
    obtain ⟨t, ht, -, kept⟩ := exec_keeps i s
    exact ⟨t, ht, fun h => kept.wheel hchanges ▸ h⟩
  | true =>
    cases i
    case powerOnReset straps => exact execPowerOnReset_bounded straps s
    case bootStepDone found => exact execBootStepDone_bounded found s
    case toothBoundary code found => exact execToothBoundary_bounded code found s
    case localRoundBoundary mr4 pass => exact execLocalRoundBoundary_bounded mr4 pass s
    case paceEdge time high => exact execPaceEdge_bounded time high s
    case ptmExchangeDone rein done time master => exact execPtmExchangeDone_bounded rein done time master s
    case edgeWindowClose => exact execEdgeWindowClose_bounded s
    case holdoverGuardExceeded => exact execHoldoverGuardExceeded_bounded s
    case freqClampPersist => exact execFreqClampPersist_bounded s
    case tripResume => exact execTripResume_bounded s
    case tsOpDone result => exact execTsOpDone_bounded result s
    case faultReport code sev => exact execFaultReport_bounded code sev s
    case vddIoFall => exact execVddIoFall_bounded s
    case pwrfailNHighFilterExpire => exact execPwrfailNHighFilterExpire_bounded s
    case crystalStopDetect => exact .of_pins (execCrystalStopDetect_kept s) fun _ ⟨_, _, _, hpins⟩ => hpins
    case wtReserve => exact .of_pins (execWtReserve_kept s) fun _ ⟨_, _, _, _, _, _, _, hpins, _⟩ => hpins
    case pwrfailFilterExpire => exact .of_pins (execPwrfailFilterExpire_kept s) fun _ ⟨_, _, _, _, _, hpins⟩ => hpins
    case functionLevelReset port => exact .of_pins (execFunctionLevelReset_kept port s) fun _ ⟨_, _, _, _, _, hpins⟩ => hpins
    case perstAssert rein => exact .of_pins (execPerstAssert_kept rein s) fun _ ⟨_, _, _, _, _, hpins⟩ => hpins
    case hotReset rein => exact .of_pins (execHotReset_kept rein s) fun _ ⟨_, _, _, _, _, hpins⟩ => hpins
    case ccEnClear port => exact .of_pins (execCcEnClear_kept port s) fun _ ⟨_, _, _, _, _, hpins⟩ => hpins
    case registerWrite port reg value => exact .of_pins (execRegisterWrite_kept port reg value s) fun _ ⟨_, _, _, _, _, hpins⟩ => hpins
    case ccEnSet port => exact .of_pins (execCcEnSet_kept port s) fun _ ⟨_, _, _, _, _, _, hpins⟩ => hpins
    case ccShnWrite port value => exact .of_pins (execCcShnWrite_kept port value s) fun _ ⟨_, _, _, _, _, hpins⟩ => hpins
    case setFeaturesWheelCfg tag buf => exact .of_pins (execSetFeaturesWheelCfg_kept tag buf s) fun _ ⟨_, _, _, _, _, _, _, hpins, _⟩ => hpins
    case sensorConversion readings => exact .of_pins (execSensorConversion_kept readings s) fun _ ⟨_, _, _, hpins⟩ => hpins
    case faultStepDone => exact .of_pins (execFaultStepDone_kept s) fun _ ⟨_, _, _, hpins⟩ => hpins
    case fatalCompletionsWritten => exact .of_pins (execFatalCompletionsWritten_kept s) fun _ ⟨_, _, _, hpins⟩ => hpins
    case mainDomainStall => exact .of_pins (execMainDomainStall_kept s) fun _ ⟨_, _, _, hpins⟩ => hpins
    case jtagExtest => exact .of_pins (execJtagExtest_kept s) fun _ ⟨_, _, _, _, hpins⟩ => hpins
    case jtagClamp => exact .of_pins (execJtagClamp_kept s) fun _ ⟨_, _, _, _, hpins⟩ => hpins
    case jtagHighz => exact .of_pins (execJtagHighz_kept s) fun _ ⟨_, _, _, _, hpins⟩ => hpins
    all_goals exact absurd hchanges Bool.false_ne_true

/-- Settles O57: a step takes the front command on the same wheel, or idles. -/
theorem wheelStaysWithinItsBounds : Obligations.WheelStaysWithinItsBounds := by
  intro s t h hstep
  unfold step at hstep
  split at hstep
  · obtain rfl : s = t := Host.Outcome.next.inj hstep
    exact h
  · next c rest _ =>
    obtain ⟨u, hu, hbounded⟩ := exec_keepsBounds c { s with pending := rest }
    obtain rfl : u = t := Host.Outcome.next.inj (hu.symm.trans hstep)
    exact hbounded h

end Sys2Proof.Machine
end

section
/-! Wheel time (O8). The statement's second clause fails at CC_EN_SET: a restart from a shutdown dump resumes WT above the dumped one (R51, R236), without a
tooth boundary and without a power cycle. -/
namespace Sys2Proof.Machine

/-- A device that has shut down (R226 item 5): its dump stands, taken at WT 41, and rein A's link is up. -/
def shutDownAt41 : State :=
  { State.reset with
    wheel := { wt := 41, dumpedWt := 41 }
    dump := { State.reset.dump with serial := 1, since := true, shutdown := true, holds := [5] }
    rein := { State.reset.rein with a := { link := 2 } } }

/-- CC.EN of the physical function goes to 1: WT resumes at 42, while no tooth has passed. -/
theorem execCcEnSet_shutDownAt41 : ∃ t, exec (.ccEnSet ⟨.a, 0⟩) shutDownAt41 = .next t ∧ t.wheel.wt = 42 := ⟨_, rfl, rfl⟩

/-- Refutes O8: CC_EN_SET is no tooth boundary, is not among the commands that bring a power-on reset, and moves WT from 41 to 42 on the state above. -/
theorem not_wheelTimeCountsEveryTooth : ¬ Obligations.WheelTimeCountsEveryTooth := by
  intro ⟨_, hmoves⟩
  obtain ⟨t, ht, hwt⟩ := execCcEnSet_shutDownAt41
  have hwas : shutDownAt41.wheel.wt = 41 := rfl
  rcases hmoves _ _ t ht with hkept | ⟨_, _, htooth, -⟩ | ⟨hpower, -⟩
  · omega
  · cases htooth
  · cases hpower

end Sys2Proof.Machine
end

section
/-! The wheel's guards, the reservation of wheel time and its status (O12): 02_wheel R31, R39, R40, R51, R54. -/
namespace Sys2Proof.Machine

/-! ### Fields of a packed structure -/

/-- The fields of a structure stand one above the other, none below bit `lo`, and end at bit `hi`. -/
def Ascending : Nat → List Field → Prop
  | _, [] => True
  | lo, f :: fs => lo ≤ f.lo ∧ Ascending (f.lo + f.width) fs

theorem Ascending.mono {lo lo' : Nat} (h : lo' ≤ lo) {fs : List Field} (ha : Ascending lo fs) : Ascending lo' fs := by
  cases fs with
  | nil => trivial
  | cons f fs => exact ⟨h.trans ha.1, ha.2⟩

theorem Ascending.pow_dvd {lo : Nat} {fs : List Field} (h : Ascending lo fs) : 2 ^ lo ∣ packFields fs := by
  induction fs generalizing lo with
  | nil => exact dvd_zero _
  | cons f fs ih =>
    obtain ⟨hlo, hrest⟩ := h
    exact dvd_add (Dvd.dvd.mul_left (pow_dvd_pow 2 hlo) _) (ih (hrest.mono (hlo.trans (Nat.le_add_right _ _))))

/-- A field that stands below every other one reads its own value. -/
theorem bitField_packFields_head {f : Field} {fs : List Field} (h : Ascending (f.lo + f.width) fs) :
    bitField (packFields (f :: fs)) f.lo f.width = f.value % 2 ^ f.width := by
  obtain ⟨k, hk⟩ := h.pow_dvd
  have hpos : 0 < 2 ^ f.lo := Nat.two_pow_pos _
  have hsplit : packFields (f :: fs) = (f.value % 2 ^ f.width + 2 ^ f.width * k) * 2 ^ f.lo := by
    rw [packFields, hk, pow_add]; ring
  rw [bitField, hsplit, Nat.mul_div_cancel _ hpos, Nat.add_mul_mod_self_left, Nat.mod_mod]

/-- What is read above the first field is what the others hold there. -/
theorem bitField_packFields_tail {f : Field} {fs : List Field} (h : Ascending (f.lo + f.width) fs) {lo : Nat} (width : Nat) (hlo : f.lo + f.width ≤ lo) :
    bitField (packFields (f :: fs)) lo width = bitField (packFields fs) lo width := by
  obtain ⟨k, hk⟩ := h.pow_dvd
  obtain ⟨n, rfl⟩ := Nat.exists_eq_add_of_le hlo
  have hlow : f.value % 2 ^ f.width * 2 ^ f.lo < 2 ^ (f.lo + f.width) := by
    rw [pow_add, Nat.mul_comm]
    exact Nat.mul_lt_mul_of_pos_left (Nat.mod_lt _ (Nat.two_pow_pos _)) (Nat.two_pow_pos _)
  have hpos : 0 < 2 ^ (f.lo + f.width) := Nat.two_pow_pos _
  have hdrop : packFields (f :: fs) / 2 ^ (f.lo + f.width) = packFields fs / 2 ^ (f.lo + f.width) := by
    rw [packFields, hk, Nat.add_mul_div_left _ _ hpos, Nat.div_eq_of_lt hlow, Nat.mul_div_cancel_left _ hpos, Nat.zero_add]
  rw [bitField, bitField, pow_add _ (f.lo + f.width), ← Nat.div_div_eq_div_mul, ← Nat.div_div_eq_div_mul, hdrop]

theorem Ascending.le_of_mem {lo : Nat} {fs : List Field} (h : Ascending lo fs) {f : Field} (hf : f ∈ fs) : lo ≤ f.lo := by
  induction fs generalizing lo with
  | nil => cases hf
  | cons g fs ih =>
    obtain ⟨hlo, hrest⟩ := h
    rcases List.mem_cons.mp hf with rfl | hf
    · exact hlo
    · exact hlo.trans ((Nat.le_add_right _ _).trans (ih hrest hf))

/-- Each field of a structure reads its own value. -/
theorem bitField_packFields {lo : Nat} {fs : List Field} (h : Ascending lo fs) {f : Field} (hf : f ∈ fs) :
    bitField (packFields fs) f.lo f.width = f.value % 2 ^ f.width := by
  induction fs generalizing lo with
  | nil => cases hf
  | cons g fs ih =>
    obtain ⟨-, hrest⟩ := h
    rcases List.mem_cons.mp hf with rfl | hf
    · exact bitField_packFields_head hrest
    · exact (bitField_packFields_tail hrest _ (hrest.le_of_mem hf)).trans (ih hrest hf)

theorem WheelState.status_fields (w : WheelState) : bitField w.status 0 2 = w.mode.num ∧ bitField w.status 2 3 = w.sourceInUse % 8 ∧
    bitField w.status 16 10 = w.sysPhase % 1024 ∧ bitField w.status 32 10 = w.lt % 1024 ∧ bitField w.status 64 64 = w.wt % 2 ^ 64 := by
  have hmode : w.mode.num % 2 ^ 2 = w.mode.num := by cases w.mode <;> rfl
  unfold WheelState.status
  extract_lets held
  generalize hfs : [fld 0 2 w.mode.num, _, _, _, _, _, _, _, _, _, _, _, _] = fs
  have hasc : Ascending 0 fs := by simp [← hfs, Ascending, fld]
  exact ⟨(bitField_packFields hasc (f := fld 0 2 w.mode.num) (by simp [← hfs])).trans hmode,
    bitField_packFields hasc (f := fld 2 3 w.sourceInUse) (by simp [← hfs]), bitField_packFields hasc (f := fld 16 10 w.sysPhase) (by simp [← hfs]),
    bitField_packFields hasc (f := fld 32 10 w.lt) (by simp [← hfs]), bitField_packFields hasc (f := fld 64 64 w.wt) (by simp [← hfs])⟩

/-! ### The commands -/

theorem execEdgeWindowClose_of_due {s : State} (hsource : s.wheel.sourceInUse ≠ 0) (hdue : s.wheel.predicted.isSome) :
    execEdgeWindowClose s = .next s.missedEdge.settleFront := if_pos ⟨hsource, hdue⟩

theorem execEdgeWindowClose_of_idle {s : State} (h : s.wheel.sourceInUse = 0 ∨ s.wheel.predicted = none) : execEdgeWindowClose s = .next s := by
  refine if_neg fun ⟨hsource, hdue⟩ => ?_
  rcases h with hnone | hnone
  · exact hsource hnone
  · simp [hnone] at hdue

theorem execHoldoverGuardExceeded_of_passed {s : State} (hpassed : s.wheel.guardPs < s.wheel.errBoundPs)
    (hmode : s.wheel.mode = .holdover ∨ (s.wheel.mode = .acquire ∧ s.wheel.failedOver = true)) :
    execHoldoverGuardExceeded s = .next (s.wheelTo .free 0x0206 2).settleFront := if_pos ⟨hpassed, hmode⟩

theorem execHoldoverGuardExceeded_of_within {s : State} (h : s.wheel.errBoundPs ≤ s.wheel.guardPs) : execHoldoverGuardExceeded s = .next s :=
  if_neg fun ⟨hpassed, _⟩ => absurd hpassed (Nat.not_lt.mpr h)

theorem execFreqClampPersist_of_long {s : State} (h : 64 ≤ s.wheel.clampRounds) :
    execFreqClampPersist s = .next (({ s with wheel := { s.wheel with clampRounds := 0 } } : State).leave 0x020C 2 []).settleFront := if_pos h

theorem execFreqClampPersist_of_short {s : State} (h : s.wheel.clampRounds < 64) : execFreqClampPersist s = .next s := if_neg (Nat.not_le.mpr h)

theorem execWtReserve_of_reached {s : State} (haccept : s.ts.accept = true) (hreached : s.wheel.resTop ≤ s.wheel.wt) :
    execWtReserve s = .next s.reserveWt.arrayPump := if_pos ⟨haccept, hreached⟩

theorem execWtReserve_of_below {s : State} (h : s.wheel.wt < s.wheel.resTop) : execWtReserve s = .next s :=
  if_neg fun ⟨_, hreached⟩ => absurd h (Nat.not_lt.mpr hreached)

/-- Settles O12: each command's due case and its others, and the fields of WHEEL_STATUS. -/
theorem wheelGuardsAndReservation : Obligations.WheelGuardsAndReservation := by
  unfold Obligations.WheelGuardsAndReservation
  refine ⟨?close, fun _ => execEdgeWindowClose_of_idle, ?guard, fun _ => execHoldoverGuardExceeded_of_within, ?clamp, fun _ => execFreqClampPersist_of_short,
    ?reserve, fun _ => execWtReserve_of_below, ?status, WheelState.status_fields⟩
  case close =>
    intro s hsource hdue
    exact ⟨_, execEdgeWindowClose_of_due hsource hdue, by simp, by simp, by simp, by simp [SameData]⟩
  case guard =>
    intro s hpassed hmode
    exact ⟨_, execHoldoverGuardExceeded_of_passed hpassed hmode, by simp [WheelState.moved], by simp, by simp, by simp [SameData]⟩
  case clamp =>
    intro s hlong
    exact ⟨_, execFreqClampPersist_of_long hlong, by simp, by simp, by simp, by simp [SameData]⟩
  case reserve =>
    intro s haccept hreached
    exact ⟨_, execWtReserve_of_reached haccept hreached, rfl, rfl, rfl, by simp [SameData]⟩
  case status =>
    intro s tag c q x cq cid hand hwaits
    exact ⟨_, rfl, hand.begin_served hwaits rfl (hand.served_answer _ (Begun.self s tag))⟩

end Sys2Proof.Machine
end

section
/-! Edges (O11): what a good, fast, stray or missed edge does to the wheel (02_wheel R33, R35, R36, R39 to R45, R48). -/
namespace Sys2Proof.Machine

/-! ### FREQ_CORR without a slew -/

/-- While nothing is slewed FREQ_CORR is the correction within the clamp. -/
def WheelState.Steered (w : WheelState) : Prop := w.slewing = false → w.freqCorr = clampFreq w.baseCorr

theorem WheelState.steer_steered (w : WheelState) : w.steer.Steered := by
  intro hstill
  have hnone : w.slewCorr = 0 := WheelState.slewCorr_of_still hstill
  show clampFreq (w.baseCorr + w.slewCorr) = clampFreq w.baseCorr
  rw [hnone, Int.add_zero]
theorem WheelState.correct_steered (w : WheelState) (base : Int) : (w.correct base).Steered := WheelState.steer_steered _
theorem WheelState.slew_steered (w : WheelState) (on : Bool) : (w.slew on).Steered := WheelState.steer_steered _

theorem WheelState.Steered.takePhase {w : WheelState} (h : w.Steered) (phase : Nat) : (w.takePhase phase).Steered := by
  unfold WheelState.takePhase
  split
  · exact h
  · dsimp only
    split
    · exact WheelState.slew_steered _ _
    · exact h

/-! ### The phase of the reference -/

/-- What taking the reference's phase leaves of the wheel. -/
structure SameButPhase (v w : WheelState) : Prop where
  mode : w.mode = v.mode
  good : w.good = v.good
  phaseErr : w.phaseErr = v.phaseErr
  integ : w.integ = v.integ
  baseCorr : w.baseCorr = v.baseCorr
  steered : v.Steered → w.Steered

theorem WheelState.takePhase_same (w : WheelState) (phase : Nat) : SameButPhase w (w.takePhase phase) := by
  suffices h : (w.takePhase phase).mode = w.mode ∧ (w.takePhase phase).good = w.good ∧ (w.takePhase phase).phaseErr = w.phaseErr ∧
      (w.takePhase phase).integ = w.integ ∧ (w.takePhase phase).baseCorr = w.baseCorr by
    obtain ⟨hmode, hgood, herr, hinteg, hbase⟩ := h
    exact ⟨hmode, hgood, herr, hinteg, hbase, fun h => h.takePhase phase⟩
  unfold WheelState.takePhase
  split
  · exact ⟨rfl, rfl, rfl, rfl, rfl⟩
  · dsimp only
    split <;> exact ⟨rfl, rfl, rfl, rfl, rfl⟩

theorem WheelState.edgePhase_same (w : WheelState) (t masterNs : Nat) : SameButPhase w (w.edgePhase t masterNs) := by
  unfold WheelState.edgePhase
  extract_lets p n load second chosen phase
  split
  · obtain ⟨hmode, hgood, herr, hinteg, hbase, hsteered⟩ :=
      ({ w with refSecondS := some chosen, refArm := false, refPhase := phase } : WheelState).takePhase_same phase
    exact ⟨hmode, hgood, herr, hinteg, hbase, hsteered⟩
  · exact w.takePhase_same _

/-! ### An edge reads the wheel and the tables alone -/

theorem State.missedEdge_wheel_congr {s u : State} (h : u.wheel = s.wheel) : u.missedEdge.wheel = s.missedEdge.wheel := by
  simp only [State.missedEdge_wheel, h]
theorem State.fastEdge_wheel_congr {s u : State} (h : u.wheel = s.wheel) : u.fastEdge.wheel = s.fastEdge.wheel := by
  simp only [State.fastEdge_wheel, h]
theorem State.measured_wheel_congr {s u : State} (h : u.wheel = s.wheel) (himg : u.img = s.img) (t : Nat) : (u.measured t).wheel = (s.measured t).wheel := by
  unfold State.measured
  rw [h]
  split
  · simp only [State.phaseLoop, h, himg]
  · exact h
theorem State.goodEdge_wheel_congr {s u : State} (h : u.wheel = s.wheel) (himg : u.img = s.img) (t masterNs : Nat) :
    (u.goodEdge t masterNs).wheel = (s.goodEdge t masterNs).wheel := by
  simp only [State.goodEdge_wheel, State.measured_wheel_congr h himg]
theorem State.edge_wheel_congr {s u : State} (h : u.wheel = s.wheel) (himg : u.img = s.img) (t masterNs : Nat) (mayBeFast : Bool) :
    (u.edge t masterNs mayBeFast).wheel = (s.edge t masterNs mayBeFast).wheel := by
  have hgood := State.goodEdge_wheel_congr h himg t masterNs
  cases hx : s.wheel.predicted with
  | none => rw [State.edge_of_none hx, State.edge_of_none (h ▸ hx), hgood]
  | some x =>
    by_cases hfast : mayBeFast = true ∧ s.wheel.early t
    · obtain ⟨rfl, hearly⟩ := hfast
      rw [State.edge_of_early hx hearly, State.edge_of_early (h ▸ hx) (h ▸ hearly), State.fastEdge_wheel_congr h]
    · have htimely : mayBeFast = true → ¬ s.wheel.early t := fun hmay hearly => hfast ⟨hmay, hearly⟩
      have hmissed : (u.count1 0x023).missedEdge.wheel = (s.count1 0x023).missedEdge.wheel := State.missedEdge_wheel_congr h
      rw [State.edge_of_timely hx htimely, State.edge_of_timely (h ▸ hx) (h ▸ htimely), h]
      simp only [ite_wheel, hgood, hmissed, State.count1_kept, h]

/-! ### A good edge -/

/-- What the phase loop makes of an error (R42); while the wheel slews, the slew stands in place of the proportional term. -/
theorem State.phaseLoop_spec (s : State) (err : Int) : (s.phaseLoop err).wheel.mode = s.wheel.mode ∧ (s.phaseLoop err).wheel.phaseErr = err * 5 / 2 ∧
    (s.phaseLoop err).wheel.integ = s.wheel.integ + Int.shiftRight err s.img.kiShift ∧ (s.phaseLoop err).wheel.Steered ∧
    (s.phaseLoop err).wheel.baseCorr = (let base := s.wheel.comp + (s.wheel.integ + Int.shiftRight err s.img.kiShift)
      if s.wheel.slewing then base
      else clampInt (base - s.wheel.cfg.slewMax * 1000) (base + s.wheel.cfg.slewMax * 1000) (base + Int.shiftRight err s.img.kpShift)) :=
  ⟨rfl, rfl, rfl, WheelState.correct_steered _ _, rfl⟩

theorem State.goodEdge_wheel_of_locked {s : State} {p : Nat} (hmode : s.wheel.mode = .locked) (hp : s.wheel.predicted = some p) (t masterNs : Nat) :
    (s.goodEdge t masterNs).wheel = ((s.phaseLoop ((t : Int) - nearest p)).wheel.edgePhase t masterNs).accepted t := by
  rw [State.goodEdge_wheel, State.measured_of_locked hmode hp]
  obtain ⟨hmodes, -⟩ := s.phaseLoop_spec ((t : Int) - nearest p)
  exact if_neg fun ⟨hunlocked, _⟩ => hunlocked ((WheelState.edgePhase_same _ t masterNs).mode.trans (hmodes.trans hmode))

/-- A good edge in LOCKED keeps what the loop made of its error. -/
theorem State.goodEdge_locked {s : State} {p : Nat} (hmode : s.wheel.mode = .locked) (hp : s.wheel.predicted = some p) (t masterNs : Nat) :
    ∃ err : Int, err = (t : Int) - nearest p ∧
    (s.goodEdge t masterNs).wheel.mode = .locked ∧ (s.goodEdge t masterNs).wheel.lastEdge = some t ∧ (s.goodEdge t masterNs).wheel.missRun = 0 ∧
    (s.goodEdge t masterNs).wheel.phaseErr = err * 5 / 2 ∧ (s.goodEdge t masterNs).wheel.integ = s.wheel.integ + Int.shiftRight err s.img.kiShift ∧
    ((s.goodEdge t masterNs).wheel.slewing = false → (s.goodEdge t masterNs).wheel.freqCorr = clampFreq (s.goodEdge t masterNs).wheel.baseCorr) ∧
    (s.goodEdge t masterNs).wheel.baseCorr = (let base := s.wheel.comp + (s.wheel.integ + Int.shiftRight err s.img.kiShift)
      if s.wheel.slewing then base
      else clampInt (base - s.wheel.cfg.slewMax * 1000) (base + s.wheel.cfg.slewMax * 1000) (base + Int.shiftRight err s.img.kpShift)) := by
  refine ⟨_, rfl, ?_⟩
  rw [State.goodEdge_wheel_of_locked hmode hp]
  generalize (t : Int) - nearest p = err
  obtain ⟨hmodes, herrs, hintegs, hlooped, hbases⟩ := s.phaseLoop_spec err
  obtain ⟨hstays, -, herr, hinteg, hbase, hsteered⟩ := (s.phaseLoop err).wheel.edgePhase_same t masterNs
  exact ⟨hstays.trans (hmodes.trans hmode), rfl, rfl, herr.trans herrs, hinteg.trans hintegs, hsteered hlooped, hbase.trans hbases⟩

/-- A good edge outside LOCKED counts, and the eighth in a row locks. -/
theorem State.goodEdge_unlocked {s : State} (hmode : s.wheel.mode ≠ .locked) (t masterNs : Nat) : (s.goodEdge t masterNs).wheel.lastEdge = some t ∧
    (s.wheel.good < 7 → (s.goodEdge t masterNs).wheel.mode = s.wheel.mode ∧ (s.goodEdge t masterNs).wheel.good = s.wheel.good + 1) ∧
    (7 ≤ s.wheel.good → (s.goodEdge t masterNs).wheel.mode = .locked ∧ (s.goodEdge t masterNs).wheel.errBoundPs = 0) := by
  obtain ⟨hkeeps, hgood, -⟩ := s.wheel.edgePhase_same t masterNs
  have hcount : ((s.wheel.edgePhase t masterNs).accepted t).good = min 8 (s.wheel.good + 1) := congrArg (fun n => min 8 (n + 1)) hgood
  rw [State.goodEdge_wheel, State.measured_of_unlocked hmode]
  dsimp only
  by_cases hlocks : 7 ≤ s.wheel.good
  · rw [if_pos ⟨fun hlocked => hmode (hkeeps.symm.trans hlocked), by omega⟩]
    exact ⟨rfl, fun _ => by omega, fun _ => ⟨rfl, rfl⟩⟩
  · rw [if_neg fun ⟨_, height⟩ => by omega]
    exact ⟨rfl, fun _ => ⟨hkeeps, by omega⟩, fun _ => by omega⟩

/-! ### LT against TARGET -/

theorem WheelState.comparePhase_steps {w : WheelState} (h : w.cfg.stepThreshold < w.distance) : w.comparePhase.stepDue = true ∧ w.comparePhase.slewing = false := by
  simp [WheelState.comparePhase, WheelState.slew, WheelState.steer, h]
theorem WheelState.comparePhase_slews {w : WheelState} (h : w.distance ≤ w.cfg.stepThreshold) :
    w.comparePhase.stepDue = false ∧ w.comparePhase.slewing = decide (w.lag ≠ 0) := by
  have hno : ¬ w.cfg.stepThreshold < w.distance := Nat.not_lt.mpr h
  simp only [WheelState.comparePhase, WheelState.slew, WheelState.steer, hno]
  exact ⟨rfl, rfl⟩

/-! ### Fast and missed edges -/

theorem WheelState.fallen_freqCorr (w : WheelState) : w.fallen.freqCorr = clampFreq (w.comp + meanInteg w.integHist) :=
  WheelState.correct_steered _ _ rfl

/-- The fall to HOLDOVER, or on to ACQUIRE on the other rein. -/
theorem WheelState.heldOver_spec (w : WheelState) : w.heldOver.freqCorr = clampFreq (w.comp + meanInteg w.integHist) ∧ w.heldOver.good = 0 ∧
    w.heldOver.missed = w.missed ∧ w.heldOver.fast = w.fast ∧ w.heldOver.lastEdge = w.lastEdge ∧
    (w.sourceInUse < 2 ∨ w.cfg.failover = false → w.heldOver.mode = .holdover) ∧
    (2 ≤ w.sourceInUse → w.cfg.failover = true → w.heldOver.mode = .acquire ∧ w.heldOver.sourceInUse = 5 - w.sourceInUse) := by
  have hcorr := w.fallen_freqCorr
  unfold WheelState.heldOver
  by_cases hother : 2 ≤ w.sourceInUse ∧ w.cfg.failover = true
  · rw [if_pos hother]
    refine ⟨hcorr, rfl, rfl, rfl, rfl, fun h => ?_, fun _ _ => ⟨rfl, rfl⟩⟩
    obtain ⟨hsource, hfail⟩ := hother
    rcases h with h | h
    · omega
    · simp [hfail] at h
  · rw [if_neg hother]
    exact ⟨hcorr, rfl, rfl, rfl, rfl, fun _ => rfl, fun hsource hfail => absurd ⟨hsource, hfail⟩ hother⟩

theorem State.fastEdge_spec (s : State) : s.fastEdge.wheel.lastEdge = s.wheel.lastEdge ∧ s.fastEdge.wheel.missed = s.wheel.missed ∧
    s.fastEdge.wheel.fast = satAdd 32 s.wheel.fast 1 ∧ (s.wheel.fastRound < 16 → s.fastEdge.wheel.mode = s.wheel.mode) ∧
    (16 ≤ s.wheel.fastRound → s.wheel.mode = .locked → s.wheel.sourceInUse = 1 → s.fastEdge.wheel.mode = .holdover) := by
  obtain ⟨-, -, hmissed, hfast, hlast, hholds, -⟩ := s.wheel.fastOne.heldOver_spec
  rw [State.fastEdge_wheel]
  by_cases hmany : 16 ≤ s.wheel.fastRound
  · rw [if_pos hmany]
    by_cases hlocked : s.wheel.mode = .locked
    · rw [if_pos hlocked]
      exact ⟨hlast, hmissed, hfast, fun h => by omega, fun _ _ hpace => hholds (.inl (by rw [WheelState.fastOne, hpace]; omega))⟩
    · rw [if_neg hlocked]
      split <;> exact ⟨rfl, rfl, rfl, fun h => by omega, fun _ h => absurd h hlocked⟩
  · rw [if_neg hmany]
    exact ⟨rfl, rfl, rfl, fun _ => rfl, fun h => absurd h hmany⟩

theorem State.missedEdge_spec (s : State) : s.missedEdge.wheel.missed = satAdd 32 s.wheel.missed 1 ∧ s.missedEdge.wheel.good = 0 ∧
    (s.wheel.missRun = 0 ∨ s.wheel.mode ≠ .locked → s.missedEdge.wheel.mode = s.wheel.mode) ∧
    (1 ≤ s.wheel.missRun → s.wheel.mode = .locked → s.missedEdge.wheel.freqCorr = clampFreq (s.wheel.comp + meanInteg s.wheel.integHist) ∧
      (s.wheel.sourceInUse < 2 ∨ s.wheel.cfg.failover = false → s.missedEdge.wheel.mode = .holdover) ∧
      (2 ≤ s.wheel.sourceInUse → s.wheel.cfg.failover = true → s.missedEdge.wheel.mode = .acquire ∧ s.missedEdge.wheel.sourceInUse = 5 - s.wheel.sourceInUse)) := by
  obtain ⟨hcorr, hgood, hmissed, -, -, hholds, hother⟩ := s.wheel.missedOne.heldOver_spec
  rw [State.missedEdge_wheel]
  by_cases hfalls : s.wheel.mode = .locked ∧ 1 ≤ s.wheel.missRun
  · rw [if_pos hfalls]
    obtain ⟨hlocked, hrun⟩ := hfalls
    refine ⟨hmissed, hgood, fun h => ?_, fun _ _ => ⟨hcorr, hholds, hother⟩⟩
    rcases h with h | h
    · omega
    · exact absurd hlocked h
  · rw [if_neg hfalls]
    exact ⟨rfl, rfl, fun _ => rfl, fun hrun hlocked => absurd ⟨hlocked, hrun⟩ hfalls⟩

/-! ### The commands -/

/-- A PTM exchange that was in progress on a rein has ended. -/
def State.exchangeEnds (s : State) (r : Rein) : State := s.modPort r fun p => { p with ptmBusy := false }

theorem execPtmExchangeDone_of_busy {s : State} {r : Rein} (hbusy : (s.port r).ptmBusy = true) (done : Bool) (time master : Nat) :
    execPtmExchangeDone r done time master s = .next
      (if s.wheel.sourceInUse = 2 + r.num then (if done = true then (s.exchangeEnds r).edge time master false else (s.exchangeEnds r).missedEdge).settleFront
       else s.exchangeEnds r) := by
  simp only [execPtmExchangeDone, hbusy, if_true]
  show (if s.wheel.sourceInUse = 2 + r.num then _ else _) = _
  split
  · split <;> rfl
  · rfl

/-- Settles O11: each command's cases, each kind of edge, and what each does to the wheel. -/
theorem edgesSteerTheWheel : Obligations.EdgesSteerTheWheel := by
  unfold Obligations.EdgesSteerTheWheel
  refine ⟨?short, ?other, ?edge, ?exchange, ?idle, ?anchor, ?fast, ?window, fun _ _ _ hmode _ hp => State.goodEdge_locked hmode hp _ _,
    fun _ _ _ hmode => State.goodEdge_unlocked hmode _ _, fun _ => ⟨WheelState.comparePhase_steps, WheelState.comparePhase_slews⟩, State.missedEdge_spec⟩
  case short =>
    intro s time high hshort
    exact ⟨_, if_pos hshort, by simp [SameFrame], by simp [SameData]⟩
  case other =>
    intro s time high hlong hother
    exact (if_neg (Nat.not_lt.mpr hlong)).trans (if_neg hother)
  case edge =>
    intro s time high hlong hpace
    exact ⟨_, (if_neg (Nat.not_lt.mpr hlong)).trans (if_pos hpace), by simp [SameData], by simp, by simp, by simp⟩
  case exchange =>
    intro s r done time master hbusy
    have hwheel : (s.exchangeEnds r).wheel = s.wheel := rfl
    have himg : (s.exchangeEnds r).img = s.img := rfl
    have hport : ((s.exchangeEnds r).port r).ptmBusy = false := by rw [State.exchangeEnds, State.modPort_port]
    refine ⟨_, execPtmExchangeDone_of_busy hbusy done time master, ?_⟩
    by_cases hsource : s.wheel.sourceInUse = 2 + r.num
    · rw [if_pos hsource]
      refine ⟨by simp [SameData, State.exchangeEnds], by simpa [State.port] using hport, fun h => absurd hsource h, fun _ => ?_⟩
      simp only [State.settleFront_kept, ite_wheel, State.edge_wheel_congr hwheel himg, State.missedEdge_wheel_congr hwheel]
    · rw [if_neg hsource]
      exact ⟨by simp [SameData, State.exchangeEnds], hport, fun _ => rfl, fun h => absurd h hsource⟩
  case idle =>
    intro s r done time master hidle
    exact if_neg (by simp [hidle])
  case anchor => exact fun s time master fast hnone => by rw [State.edge_of_none hnone]
  case fast =>
    intro s time master p l hp hl hsoon
    rw [State.edge_of_early hp ⟨l, hl, hsoon⟩]
    obtain ⟨hlast, hmissed, hfast, hkeeps, hholds⟩ := s.fastEdge_spec
    exact ⟨⟨hlast.trans hl, hmissed, hfast, hkeeps⟩, hholds⟩
  case window =>
    intro s time master x p fast hx hp htimely
    subst hp
    rw [State.edge_of_timely hx fun hfast ⟨l, hl, hsoon⟩ => absurd hsoon (Nat.not_lt.mpr (htimely hfast l hl))]
    refine ⟨fun hfrom hto => ?_, fun hout hnear => ?_, fun hbefore hfar => ?_⟩
    · rw [if_pos ⟨hfrom, hto⟩]
    · rw [if_neg (by omega), if_neg (Nat.not_lt.mpr hnear)]
      exact State.missedEdge_wheel_congr rfl
    · rw [if_neg (by omega), if_pos hfar]
      rfl

end Sys2Proof.Machine
end


section
/-! SUPPORT. VDD_CORE's requested code (R391) is moved at the local round boundary alone: what each operation of a round's work on the media leaves of it. -/
namespace Sys2Proof.Machine
@[simp] theorem ite_vcoreReq (c : Prop) [Decidable c] (a b : State) : (if c then a else b).pkg.vcoreReq = if c then a.pkg.vcoreReq else b.pkg.vcoreReq := by split <;> rfl
@[simp] theorem foldl_vcoreReq {α : Type} (g : State → α → State) (h : ∀ s a, (g s a).pkg.vcoreReq = s.pkg.vcoreReq) (l : List α) (s : State) :
    (l.foldl g s).pkg.vcoreReq = s.pkg.vcoreReq := fold_left (fun s => s.pkg.vcoreReq) g h l s
@[simp] theorem foldr_vcoreReq {α : Type} (g : α → State → State) (h : ∀ a s, (g a s).pkg.vcoreReq = s.pkg.vcoreReq) (l : List α) (s : State) :
    (l.foldr g s).pkg.vcoreReq = s.pkg.vcoreReq := fold_right (fun s => s.pkg.vcoreReq) g h l s

/-! ### Sys2Proof/Machine/Observe.lean -/

@[simp] theorem State.count1_vcoreReq (s : State) (src : Nat) : (s.count1 src).pkg.vcoreReq = s.pkg.vcoreReq := by simp [State.count1]
@[simp] theorem State.putRecord_vcoreReq (s : State) (r : SbRec) : (s.putRecord r).pkg.vcoreReq = s.pkg.vcoreReq := by simp [State.putRecord]
@[simp] theorem State.recordEvent_vcoreReq (s : State) (code sev : Nat) (fields : List Nat) : (s.recordEvent code sev fields).pkg.vcoreReq = s.pkg.vcoreReq :=
    by simp [State.recordEvent]
@[simp] theorem State.leave_vcoreReq (s : State) (code sev : Nat) (fields : List Nat) : (s.leave code sev fields).pkg.vcoreReq = s.pkg.vcoreReq := by simp [State.leave]
@[simp] theorem State.leaveSaturations_vcoreReq (s : State) : s.leaveSaturations.pkg.vcoreReq = s.pkg.vcoreReq := by simp [State.leaveSaturations]

/-! ### Sys2Proof/Machine/Host.lean -/

@[simp] theorem State.smartCount_vcoreReq (s : State) (c : Cmd) (ok : Bool) : (s.smartCount c ok).pkg.vcoreReq = s.pkg.vcoreReq := by simp [State.smartCount]
@[simp] theorem State.countCompleted_vcoreReq (s : State) (c : Cmd) : (s.countCompleted c).pkg.vcoreReq = s.pkg.vcoreReq := by simp [State.countCompleted]
@[simp] theorem State.addError_vcoreReq (s : State) (ctrl sqid cid status nsid lba vendor : Nat) : (s.addError ctrl sqid cid status nsid lba vendor).pkg.vcoreReq = s.pkg.vcoreReq :=
    by simp [State.addError]
@[simp] theorem State.leasePosted_vcoreReq (s : State) (tag : Nat) : (s.leasePosted tag).pkg.vcoreReq = s.pkg.vcoreReq := by simp [State.leasePosted]
@[simp] theorem State.postSide_vcoreReq (s : State) (tag : Nat) (r : CmdResult) (owed : Rein × Nat) : (s.postSide tag r owed).pkg.vcoreReq = s.pkg.vcoreReq := by
  unfold State.postSide
  (repeat' split) <;> simp
@[simp] theorem State.tunnelEnds_vcoreReq (s : State) (c : Cmd) (r : CmdResult) : (s.tunnelEnds c r).pkg.vcoreReq = s.pkg.vcoreReq := by simp [State.tunnelEnds]
@[simp] theorem State.freeIfDone_vcoreReq (s : State) (tag : Nat) : (s.freeIfDone tag).pkg.vcoreReq = s.pkg.vcoreReq := by
  unfold State.freeIfDone
  split <;> simp
@[simp] theorem State.postCmd_vcoreReq (s : State) (tag : Nat) : (s.postCmd tag).pkg.vcoreReq = s.pkg.vcoreReq := by
  unfold State.postCmd
  (repeat' split) <;> simp
@[simp] theorem State.postMismatch_vcoreReq (s : State) (m : Nat × Rein × BitVec 32 × CqEntry) : (s.postMismatch m).pkg.vcoreReq = s.pkg.vcoreReq := by
  unfold State.postMismatch
  (repeat' split) <;> simp
@[simp] theorem State.postAll_vcoreReq (s : State) : s.postAll.pkg.vcoreReq = s.pkg.vcoreReq := by simp [State.postAll]
@[simp] theorem State.finishCode_vcoreReq (s : State) (tag : Nat) (r : CmdResult) (code : Nat) : (s.finishCode tag r code).pkg.vcoreReq = s.pkg.vcoreReq := by
  unfold State.finishCode
  split <;> simp
@[simp] theorem State.finish_vcoreReq (s : State) (tag : Nat) (r : CmdResult) : (s.finish tag r).pkg.vcoreReq = s.pkg.vcoreReq := by simp [State.finish]
@[simp] theorem State.eventOn_vcoreReq (s : State) (c : Nat) (r : Rein) (e : Event) : (s.eventOn c r e).pkg.vcoreReq = s.pkg.vcoreReq := by
  unfold State.eventOn
  (repeat' split) <;> simp
@[simp] theorem State.event_vcoreReq (s : State) (e : Event) : (s.event e).pkg.vcoreReq = s.pkg.vcoreReq := by simp [State.event]
@[simp] theorem State.vendorEvent_vcoreReq (s : State) (info page : Nat) : (s.vendorEvent info page).pkg.vcoreReq = s.pkg.vcoreReq := by simp [State.vendorEvent]
@[simp] theorem State.fdpEvent_vcoreReq (s : State) (event handle : Nat) : (s.fdpEvent event handle).pkg.vcoreReq = s.pkg.vcoreReq := by simp [State.fdpEvent]
@[simp] theorem State.smartEvent_vcoreReq (s : State) (b info : Nat) : (s.smartEvent b info).pkg.vcoreReq = s.pkg.vcoreReq := by simp [State.smartEvent]

/-! ### Sys2Proof/Machine/Geometry.lean -/

@[simp] theorem State.newId_vcoreReq (s : State) : s.newId.2.pkg.vcoreReq = s.pkg.vcoreReq := by simp [State.newId]

/-! ### Sys2Proof/Machine/Pins.lean -/

@[simp] theorem State.ca_vcoreReq (s : State) (die : Nat) (hostRead : Bool) (cycles : List CaCycle) : (s.ca die hostRead cycles).pkg.vcoreReq = s.pkg.vcoreReq :=
    by simp [State.ca]
@[simp] theorem State.sendCa_vcoreReq (s : State) : s.sendCa.pkg.vcoreReq = s.pkg.vcoreReq := by simp [State.sendCa]

/-! ### Sys2Proof/Machine/Cache.lean -/

@[simp] theorem State.serveBank_vcoreReq (s : State) (b n : Nat) : (s.serveBank b n).pkg.vcoreReq = s.pkg.vcoreReq := by
  induction n generalizing s with
  | zero => rfl
  | succ n ih =>
    unfold State.serveBank
    dsimp only
    split
    · rfl
    · split
      · rfl
      · rw [ih]
        split <;> simp
@[simp] theorem State.mcRequest_vcoreReq (s : State) (r : McReq) : (s.mcRequest r).pkg.vcoreReq = s.pkg.vcoreReq := by simp [State.mcRequest]
@[simp] theorem State.mcAccess_vcoreReq (s : State) (seg block : Nat) (write : Bool) (hint source : Nat) : (s.mcAccess seg block write hint source).pkg.vcoreReq = s.pkg.vcoreReq :=
    by simp [State.mcAccess]
@[simp] theorem State.mcMaintain_vcoreReq (s : State) (b kind : Nat) (las : List Nat) : (s.mcMaintain b kind las).pkg.vcoreReq = s.pkg.vcoreReq :=
    by simp [State.mcMaintain]
@[simp] theorem State.mcInvalidateSegment_vcoreReq (s : State) (seg : Nat) : (s.mcInvalidateSegment seg).pkg.vcoreReq = s.pkg.vcoreReq :=
    by simp [State.mcInvalidateSegment]

/-! ### Sys2Proof/Machine/MapOps.lean -/

@[simp] theorem State.needSeg_vcoreReq (s : State) (seg : Nat) : (s.needSeg seg).pkg.vcoreReq = s.pkg.vcoreReq := by simp [State.needSeg]
@[simp] theorem State.checkBlock_vcoreReq (s : State) (seg block : Nat) : (s.checkBlock seg block).pkg.vcoreReq = s.pkg.vcoreReq := by simp [State.checkBlock]
@[simp] theorem State.checkUnit_vcoreReq (s : State) (nsx unit : Nat) : (s.checkUnit nsx unit).pkg.vcoreReq = s.pkg.vcoreReq := by
  unfold State.checkUnit
  exact foldl_vcoreReq _ (fun s a => by split <;> simp) _ s
@[simp] theorem State.needUnit_vcoreReq (s : State) (nsx unit g : Nat) : (s.needUnit nsx unit g).pkg.vcoreReq = s.pkg.vcoreReq := by simp [State.needUnit]
@[simp] theorem State.addBuffered_vcoreReq (s : State) (nsx unit : Nat) (up : Bool) : (s.addBuffered nsx unit up).pkg.vcoreReq = s.pkg.vcoreReq := by
  unfold State.addBuffered
  exact foldl_vcoreReq _ (fun s a => by split <;> simp) _ s
@[simp] theorem State.sumDirty_vcoreReq (s : State) : s.sumDirty.pkg.vcoreReq = s.pkg.vcoreReq := by simp [State.sumDirty]
@[simp] theorem State.wbiRelease_vcoreReq (s : State) (nsx unit : Nat) : (s.wbiRelease nsx unit).pkg.vcoreReq = s.pkg.vcoreReq := by
  unfold State.wbiRelease
  split <;> simp
@[simp] theorem State.vcRemove_vcoreReq (s : State) (b : Nat) : (s.vcRemove b).pkg.vcoreReq = s.pkg.vcoreReq := by simp [State.vcRemove]
@[simp] theorem State.vcAdd_vcoreReq (s : State) (b : Nat) : (s.vcAdd b).pkg.vcoreReq = s.pkg.vcoreReq := by simp [State.vcAdd]
@[simp] theorem State.setValid_vcoreReq (s : State) (b valid : Nat) : (s.setValid b valid).pkg.vcoreReq = s.pkg.vcoreReq := by simp [State.setValid]
@[simp] theorem State.validRun_vcoreReq (s : State) (gaddr glen : Nat) : (s.validRun gaddr glen).pkg.vcoreReq = s.pkg.vcoreReq := by simp [State.validRun]
@[simp] theorem State.freeRun_vcoreReq (s : State) (gaddr glen : Nat) : (s.freeRun gaddr glen).pkg.vcoreReq = s.pkg.vcoreReq := by simp [State.freeRun]
@[simp] theorem State.queuePayload_vcoreReq (s : State) (n : Nat) (p : Payload) : (s.queuePayload n p).pkg.vcoreReq = s.pkg.vcoreReq := by simp [State.queuePayload]
@[simp] theorem State.writeRootFrame_vcoreReq (s : State) : s.writeRootFrame.pkg.vcoreReq = s.pkg.vcoreReq := by simp [State.writeRootFrame]
@[simp] theorem State.rootRec_vcoreReq (s : State) (r : RootRec) : (s.rootRec r).pkg.vcoreReq = s.pkg.vcoreReq := by simp [State.rootRec]
@[simp] theorem State.writeRunOnly_vcoreReq (s : State) (seg : Nat) : (s.writeRunOnly seg).pkg.vcoreReq = s.pkg.vcoreReq := by simp [State.writeRunOnly]
@[simp] theorem State.awaitOne_vcoreReq (s : State) (k : Nat × Nat) : (s.awaitOne k).pkg.vcoreReq = s.pkg.vcoreReq := by simp [State.awaitOne]
@[simp] theorem State.startCkpt_vcoreReq (s : State) (seg : Nat) : (s.startCkpt seg).pkg.vcoreReq = s.pkg.vcoreReq := by simp [State.startCkpt]
@[simp] theorem State.writeRun_vcoreReq (s : State) (seg : Nat) (awaited : Bool) : (s.writeRun seg awaited).pkg.vcoreReq = s.pkg.vcoreReq := by simp [State.writeRun]
@[simp] theorem State.journal_vcoreReq (s : State) (seg : Nat) (r : JrnlRec) : (s.journal seg r).pkg.vcoreReq = s.pkg.vcoreReq := by simp [State.journal]
@[simp] theorem State.awaitFlush_vcoreReq (s : State) (b : Nat) (k : Nat × Nat) : (s.awaitFlush b k).pkg.vcoreReq = s.pkg.vcoreReq := by simp [State.awaitFlush]
@[simp] theorem State.awaitRun_vcoreReq (s : State) (b seg : Nat) : (s.awaitRun b seg).pkg.vcoreReq = s.pkg.vcoreReq := by simp [State.awaitRun]
@[simp] theorem State.writeEntry_vcoreReq (s : State) (seg idx : Nat) (e : MapEntry) (hint source : Nat) : (s.writeEntry seg idx e hint source).pkg.vcoreReq = s.pkg.vcoreReq :=
    by simp [State.writeEntry]
@[simp] theorem State.setEntry_vcoreReq (s : State) (seg idx : Nat) (e : MapEntry) (hint source : Nat) : (s.setEntry seg idx e hint source).pkg.vcoreReq = s.pkg.vcoreReq :=
    by simp [State.setEntry]
@[simp] theorem State.setTag_vcoreReq (s : State) (seg idx v hint source : Nat) : (s.setTag seg idx v hint source).pkg.vcoreReq = s.pkg.vcoreReq :=
    by simp [State.setTag]
@[simp] theorem State.freeChain_vcoreReq (s : State) (d : SegDesc) (below : Nat) : (s.freeChain d below).pkg.vcoreReq = s.pkg.vcoreReq := by
  unfold State.freeChain
  dsimp only
  rw [foldl_vcoreReq _ fun s a => ?_, foldl_vcoreReq _ fun s a => by simp]
  split
  · split <;> simp
  · rfl
@[simp] theorem State.dropRuns_vcoreReq (s : State) (g : Nat) : (s.dropRuns g).pkg.vcoreReq = s.pkg.vcoreReq := by simp [State.dropRuns]
@[simp] theorem State.returnSeg_vcoreReq (s : State) (g : Nat) : (s.returnSeg g).pkg.vcoreReq = s.pkg.vcoreReq := by simp [State.returnSeg]
@[simp] theorem State.returnIfEmpty_vcoreReq (s : State) (g : Nat) : (s.returnIfEmpty g).pkg.vcoreReq = s.pkg.vcoreReq := by simp [State.returnIfEmpty]
@[simp] theorem State.returnUnitSegs_vcoreReq (s : State) (nsx unit : Nat) : (s.returnUnitSegs nsx unit).pkg.vcoreReq = s.pkg.vcoreReq := by
  unfold State.returnUnitSegs
  dsimp only
  (repeat' split) <;> simp
@[simp] theorem State.returnSpace_vcoreReq (s : State) (nsx : Nat) : (s.returnSpace nsx).pkg.vcoreReq = s.pkg.vcoreReq := by simp [State.returnSpace]
@[simp] theorem State.touchMap_vcoreReq (s : State) (nsx unit hint source : Nat) : (s.touchMap nsx unit hint source).pkg.vcoreReq = s.pkg.vcoreReq := by
  unfold State.touchMap
  split <;> simp
@[simp] theorem State.discardUnit_vcoreReq (s : State) (nsx unit : Nat) (sdp : Bool) (source : Nat) : (s.discardUnit nsx unit sdp source).pkg.vcoreReq = s.pkg.vcoreReq := by
  unfold State.discardUnit
  dsimp only
  (repeat' split) <;> simp
@[simp] theorem State.markSdp_vcoreReq (s : State) (nsx unit : Nat) : (s.markSdp nsx unit).pkg.vcoreReq = s.pkg.vcoreReq := by
  unfold State.markSdp
  split <;> simp

/-! ### Sys2Proof/Machine/Block.lean -/

@[simp] theorem State.ledger_vcoreReq (s : State) (e : LedgerEntry) (waits : Bool) : (s.ledger e waits).pkg.vcoreReq = s.pkg.vcoreReq := by simp [State.ledger]
theorem State.takeNormal_vcoreReq {s : State} {die : Nat} {highest : Bool} {z : Nat × State} (h : s.takeNormal die highest = some z) :
    z.2.pkg.vcoreReq = s.pkg.vcoreReq := by
  unfold State.takeNormal at h
  split at h
  · contradiction
  · dsimp only at h
    split at h
    · cases h; simp
    · split at h
      · cases h; simp
      · contradiction
theorem State.takeFast_vcoreReq {s : State} {die : Nat} {z : Nat × State} (h : s.takeFast die = some z) : z.2.pkg.vcoreReq = s.pkg.vcoreReq := by
  unfold State.takeFast at h
  split at h
  · cases h; simp
  · contradiction
theorem State.takeBlock_vcoreReq {s : State} {die : Nat} {fc highest : Bool} {z : Nat × Bool × State} (h : s.takeBlock die fc highest = some z) :
    z.2.2.pkg.vcoreReq = s.pkg.vcoreReq := by
  unfold State.takeBlock at h
  split at h <;> split at h
  · next heq => cases h; exact State.takeFast_vcoreReq heq
  · obtain ⟨_, heq, rfl⟩ := Option.map_eq_some_iff.mp h; exact State.takeNormal_vcoreReq heq
  · next heq => cases h; exact State.takeNormal_vcoreReq heq
  · obtain ⟨_, heq, rfl⟩ := Option.map_eq_some_iff.mp h; exact State.takeFast_vcoreReq heq
@[simp] theorem State.freeBlock_vcoreReq (s : State) (b : Nat) : (s.freeBlock b).pkg.vcoreReq = s.pkg.vcoreReq := by simp [State.freeBlock]
@[simp] theorem State.closedAdd_vcoreReq (s : State) (b : Nat) : (s.closedAdd b).pkg.vcoreReq = s.pkg.vcoreReq := by simp [State.closedAdd]
@[simp] theorem State.closedRemove_vcoreReq (s : State) (b : Nat) : (s.closedRemove b).pkg.vcoreReq = s.pkg.vcoreReq := by simp [State.closedRemove]
@[simp] theorem State.unforce_vcoreReq (s : State) (b : Nat) : (s.unforce b).pkg.vcoreReq = s.pkg.vcoreReq := by simp [State.unforce]
@[simp] theorem State.force_vcoreReq (s : State) (b list : Nat) : (s.force b list).pkg.vcoreReq = s.pkg.vcoreReq := by simp [State.force]
@[simp] theorem State.refresh_vcoreReq (s : State) (b : Nat) : (s.refresh b).pkg.vcoreReq = s.pkg.vcoreReq := by simp [State.refresh]
@[simp] theorem State.reachRung3_vcoreReq (s : State) (gran : Nat) : (s.reachRung3 gran).pkg.vcoreReq = s.pkg.vcoreReq := by simp [State.reachRung3]
@[simp] theorem State.unlist_vcoreReq (s : State) (b : Nat) : (s.unlist b).pkg.vcoreReq = s.pkg.vcoreReq := by simp [State.unlist]
@[simp] theorem State.closeBlock_vcoreReq (s : State) (b : Nat) : (s.closeBlock b).pkg.vcoreReq = s.pkg.vcoreReq := by simp [State.closeBlock]
@[simp] theorem State.releaseSet_vcoreReq (s : State) (n : Nat) : (s.releaseSet n).pkg.vcoreReq = s.pkg.vcoreReq := by simp [State.releaseSet]
@[simp] theorem State.leaveSet_vcoreReq (s : State) (b : Nat) : (s.leaveSet b).pkg.vcoreReq = s.pkg.vcoreReq := by
  unfold State.leaveSet
  split <;> simp
@[simp] theorem State.rebuildCheck_vcoreReq (s : State) : s.rebuildCheck.pkg.vcoreReq = s.pkg.vcoreReq := by
  unfold State.rebuildCheck
  split <;> simp
@[simp] theorem State.markNow_vcoreReq (s : State) (nsx unit lost : Nat) : (s.markNow nsx unit lost).pkg.vcoreReq = s.pkg.vcoreReq := by
  unfold State.markNow
  split <;> simp
@[simp] theorem State.markUnit_vcoreReq (s : State) (nsx unit lost : Nat) : (s.markUnit nsx unit lost).pkg.vcoreReq = s.pkg.vcoreReq := by
  unfold State.markUnit
  (repeat' split) <;> simp
@[simp] theorem State.stepMarks_vcoreReq (s : State) : s.stepMarks.pkg.vcoreReq = s.pkg.vcoreReq := by simp [State.stepMarks]
@[simp] theorem State.clearSdp_vcoreReq (s : State) (nsx unit : Nat) : (s.clearSdp nsx unit).pkg.vcoreReq = s.pkg.vcoreReq := by simp [State.clearSdp]
@[simp] theorem State.sdCheck_vcoreReq (s : State) (n : Nat) : (s.sdCheck n).pkg.vcoreReq = s.pkg.vcoreReq := by
  unfold State.sdCheck
  split <;> simp
@[simp] theorem State.sdErased_vcoreReq (s : State) (b : Nat) : (s.sdErased b).pkg.vcoreReq = s.pkg.vcoreReq := by simp [State.sdErased]
@[simp] theorem State.sdResidue_vcoreReq (s : State) (b : Nat) : (s.sdResidue b).pkg.vcoreReq = s.pkg.vcoreReq := by simp [State.sdResidue]
@[simp] theorem State.queueErase_vcoreReq (s : State) (b : Nat) (fc : Bool) (use : WorkUse) : (s.queueErase b fc use).pkg.vcoreReq = s.pkg.vcoreReq :=
    by simp [State.queueErase]
@[simp] theorem State.sdScan_vcoreReq (s : State) (n b : Nat) : (s.sdScan n b).pkg.vcoreReq = s.pkg.vcoreReq := by
  unfold State.sdScan
  split <;> simp
@[simp] theorem State.sdStep_vcoreReq (s : State) : s.sdStep.pkg.vcoreReq = s.pkg.vcoreReq := by simp [State.sdStep]
@[simp] theorem State.openJob_vcoreReq (s : State) (n nsx : Nat) (ranges : List (Nat × Nat)) : (s.openJob n nsx ranges).pkg.vcoreReq = s.pkg.vcoreReq :=
    by simp [State.openJob]
@[simp] theorem State.retire_vcoreReq (s : State) (b reason : Nat) : (s.retire b reason).pkg.vcoreReq = s.pkg.vcoreReq := by simp [State.retire]
@[simp] theorem State.awaitKey_vcoreReq (s : State) (k : Nat × Nat) : (s.awaitKey k).pkg.vcoreReq = s.pkg.vcoreReq := by simp [State.awaitKey]
@[simp] theorem State.requestRuns_vcoreReq (s : State) (b : Nat) : (s.requestRuns b).pkg.vcoreReq = s.pkg.vcoreReq := by simp [State.requestRuns]
@[simp] theorem State.victimDone_vcoreReq (s : State) (b : Nat) : (s.victimDone b).pkg.vcoreReq = s.pkg.vcoreReq := by simp [State.victimDone]
@[simp] theorem State.wipe_vcoreReq (s : State) (b : Nat) : (s.wipe b).pkg.vcoreReq = s.pkg.vcoreReq := by simp [State.wipe]
@[simp] theorem State.eraseOk_vcoreReq (s : State) (b : Nat) (fc modeErase : Bool) : (s.eraseOk b fc modeErase).pkg.vcoreReq = s.pkg.vcoreReq := by simp [State.eraseOk]
@[simp] theorem State.eraseBad_vcoreReq (s : State) (b : Nat) : (s.eraseBad b).pkg.vcoreReq = s.pkg.vcoreReq := by simp [State.eraseBad]
@[simp] theorem State.suspect_vcoreReq (s : State) (b wl : Nat) : (s.suspect b wl).pkg.vcoreReq = s.pkg.vcoreReq := by simp [State.suspect]

/-! ### Sys2Proof/Machine/Place.lean -/

@[simp] theorem State.addressed_vcoreReq (s : State) (p : Payload) (a : Nat) : (s.addressed p a).pkg.vcoreReq = s.pkg.vcoreReq := by
  unfold State.addressed
  split <;> simp
theorem State.placeIn_vcoreReq {s : State} {n : Nat} {g : Girth} {p : Payload} {z : State} (h : s.placeIn n g p = some z) : z.pkg.vcoreReq = s.pkg.vcoreReq := by
  unfold State.placeIn at h
  split at h
  · contradiction
  · cases h; simp
@[simp] theorem State.openGirth_vcoreReq (s : State) (n : Nat) : (s.openGirth n).pkg.vcoreReq = s.pkg.vcoreReq := by
  unfold State.openGirth
  dsimp only
  (repeat' split) <;> simp
@[simp] theorem State.placeList_vcoreReq (s : State) (n : Nat) (xs : List Payload) : (s.placeList n xs).pkg.vcoreReq = s.pkg.vcoreReq := by
  induction xs generalizing s with
  | nil => simp [State.placeList]
  | cons p ps ih =>
    unfold State.placeList
    split
    · simp
    · simp
    · split
      · simp
      · split
        · next hput => rw [ih, State.placeIn_vcoreReq hput]
        · simp
@[simp] theorem State.place_vcoreReq (s : State) : s.place.pkg.vcoreReq = s.pkg.vcoreReq := by simp [State.place]
@[simp] theorem State.endSet_vcoreReq (s : State) (k reason : Nat) : (s.endSet k reason).pkg.vcoreReq = s.pkg.vcoreReq := by simp [State.endSet]
@[simp] theorem State.queueMember_vcoreReq (s : State) (n : Nat) (g : Girth) (pos : Nat) : (s.queueMember n g pos).pkg.vcoreReq = s.pkg.vcoreReq :=
    by simp [State.queueMember]
@[simp] theorem State.joinRebuild_vcoreReq (s : State) (k : Nat) : (s.joinRebuild k).pkg.vcoreReq = s.pkg.vcoreReq := by
  unfold State.joinRebuild
  (repeat' split) <;> simp
@[simp] theorem State.memberLost_vcoreReq (s : State) (k pos wl : Nat) : (s.memberLost k pos wl).pkg.vcoreReq = s.pkg.vcoreReq := by
  unfold State.memberLost
  split <;> simp
@[simp] theorem State.addJob_vcoreReq (s : State) (j : UnitJob) : (s.addJob j).2.pkg.vcoreReq = s.pkg.vcoreReq := by simp [State.addJob]
@[simp] theorem State.replace_vcoreReq (s : State) (n : Nat) (p : Payload) : (s.replace n p).pkg.vcoreReq = s.pkg.vcoreReq := by
  unfold State.replace
  split <;> simp
@[simp] theorem State.programmedItems_vcoreReq (s : State) (g : Girth) (pos : Nat) : (s.programmedItems g pos).pkg.vcoreReq = s.pkg.vcoreReq :=
    by simp [State.programmedItems]
@[simp] theorem State.girthStep_vcoreReq (s : State) (n : Nat) : (s.girthStep n).pkg.vcoreReq = s.pkg.vcoreReq := by
  unfold State.girthStep
  split <;> simp
@[simp] theorem State.memberEnd_vcoreReq (s : State) (n pos : Nat) (ok : Bool) : (s.memberEnd n pos ok).pkg.vcoreReq = s.pkg.vcoreReq := by
  unfold State.memberEnd
  split <;> simp
@[simp] theorem State.closeSetBlocks_vcoreReq (s : State) (k : Nat) : (s.closeSetBlocks k).pkg.vcoreReq = s.pkg.vcoreReq := by simp [State.closeSetBlocks]
@[simp] theorem State.endSetNow_vcoreReq (s : State) (k reason : Nat) : (s.endSetNow k reason).pkg.vcoreReq = s.pkg.vcoreReq := by simp [State.endSetNow]
@[simp] theorem State.closeUnit_vcoreReq (s : State) (g : Girth) (p : Placed) : (s.closeUnit g p).pkg.vcoreReq = s.pkg.vcoreReq := by
  unfold State.closeUnit
  split <;> simp
@[simp] theorem State.girthClosed_vcoreReq (s : State) (k wl : Nat) : (s.girthClosed k wl).pkg.vcoreReq = s.pkg.vcoreReq := by
  unfold State.girthClosed
  split <;> simp
@[simp] theorem State.setRootPtr_vcoreReq (s : State) (kind a : Nat) : (s.setRootPtr kind a).pkg.vcoreReq = s.pkg.vcoreReq := by simp [State.setRootPtr]
@[simp] theorem State.rename6_vcoreReq (s : State) (p : Payload) (a : Nat) : (s.rename6 p a).pkg.vcoreReq = s.pkg.vcoreReq := by
  unfold State.rename6
  split <;> simp
@[simp] theorem State.ckptDone_vcoreReq (s : State) (seg : Nat) : (s.ckptDone seg).pkg.vcoreReq = s.pkg.vcoreReq := by simp [State.ckptDone]
@[simp] theorem State.snapDone_vcoreReq (s : State) : s.snapDone.pkg.vcoreReq = s.pkg.vcoreReq := by simp [State.snapDone]
@[simp] theorem State.snapFrameSafe_vcoreReq (s : State) (epoch key a : Nat) : (s.snapFrameSafe epoch key a).pkg.vcoreReq = s.pkg.vcoreReq :=
    by simp [State.snapFrameSafe]
@[simp] theorem State.runSafe_vcoreReq (s : State) (seg seq : Nat) : (s.runSafe seg seq).pkg.vcoreReq = s.pkg.vcoreReq := by simp [State.runSafe]
@[simp] theorem State.changeUnit_vcoreReq (s : State) (d : UnitDesc) (e : MapEntry) (tag hint source : Nat) : (s.changeUnit d e tag hint source).pkg.vcoreReq = s.pkg.vcoreReq := by
  unfold State.changeUnit
  dsimp only
  (repeat' split) <;> simp
@[simp] theorem State.applyClosed_vcoreReq (s : State) (p : Placed) : (s.applyClosed p).2.pkg.vcoreReq = s.pkg.vcoreReq := by
  unfold State.applyClosed
  dsimp only
  (repeat' split) <;> simp
@[simp] theorem State.applyClosing_vcoreReq (s : State) : s.applyClosing.pkg.vcoreReq = s.pkg.vcoreReq := by simp [State.applyClosing]
@[simp] theorem State.walk_vcoreReq (s : State) (b : Nat) : (s.walk b).pkg.vcoreReq = s.pkg.vcoreReq := by simp [State.walk]
@[simp] theorem State.againCkpt_vcoreReq (s : State) (seg : Nat) : (s.againCkpt seg).pkg.vcoreReq = s.pkg.vcoreReq := by simp [State.againCkpt]
@[simp] theorem State.evacuateItem_vcoreReq (s : State) (b a : Nat) (p : Payload) : (s.evacuateItem b a p).pkg.vcoreReq = s.pkg.vcoreReq := by
  unfold State.evacuateItem
  split <;> simp
@[simp] theorem State.evacuateMap_vcoreReq (s : State) (b : Nat) : (s.evacuateMap b).pkg.vcoreReq = s.pkg.vcoreReq := by simp [State.evacuateMap]
@[simp] theorem State.evacuateBlock_vcoreReq (s : State) (b : Nat) : (s.evacuateBlock b).pkg.vcoreReq = s.pkg.vcoreReq := by simp [State.evacuateBlock]
@[simp] theorem State.evacuateSet_vcoreReq (s : State) (k : Nat) : (s.evacuateSet k).pkg.vcoreReq = s.pkg.vcoreReq := by simp [State.evacuateSet]
@[simp] theorem State.settleBlocks_vcoreReq (s : State) : s.settleBlocks.pkg.vcoreReq = s.pkg.vcoreReq := by simp [State.settleBlocks]

/-! ### Sys2Proof/Machine/Degraded.lean -/

@[simp] theorem State.slotRead_vcoreReq (s : State) (gran : Nat) : (s.slotRead gran).pkg.vcoreReq = s.pkg.vcoreReq := by simp [State.slotRead]
@[simp] theorem State.jobLeavesSlot_vcoreReq (s : State) (t : Nat) : (s.jobLeavesSlot t).pkg.vcoreReq = s.pkg.vcoreReq := by
  unfold State.jobLeavesSlot
  split <;> simp
@[simp] theorem State.dropJob_vcoreReq (s : State) (t : Nat) : (s.dropJob t).pkg.vcoreReq = s.pkg.vcoreReq := by
  unfold State.dropJob
  dsimp only
  (repeat' split) <;> simp
@[simp] theorem State.jobFails_vcoreReq (s : State) (t : Nat) (r : CmdResult) : (s.jobFails t r).pkg.vcoreReq = s.pkg.vcoreReq := by
  unfold State.jobFails
  split <;> simp
@[simp] theorem State.enterRead_vcoreReq (s : State) (r : ReadReq) : (s.enterRead r).pkg.vcoreReq = s.pkg.vcoreReq := by simp [State.enterRead]
@[simp] theorem State.issueRead_vcoreReq (s : State) (kind : ReadKind) (use : ReadUse) (gran glen rung step : Nat) (job : Option Nat) : (s.issueRead kind use gran glen rung step job).pkg.vcoreReq = s.pkg.vcoreReq :=
    by simp [State.issueRead]
@[simp] theorem State.issueFrames_vcoreReq (s : State) (kind : ReadKind) (use : ReadUse) (gran glen : Nat) : (s.issueFrames kind use gran glen).pkg.vcoreReq = s.pkg.vcoreReq :=
    by simp [State.issueFrames]
@[simp] theorem State.readGone_vcoreReq (s : State) (gran : Nat) : (s.readGone gran).pkg.vcoreReq = s.pkg.vcoreReq := by simp [State.readGone]
@[simp] theorem State.openRun_vcoreReq (s : State) (q : ReadReq) : (s.openRun q).pkg.vcoreReq = s.pkg.vcoreReq := by simp [State.openRun]
@[simp] theorem State.frameEnd_vcoreReq (s : State) (q : ReadReq) (lost : Bool) : (s.frameEnd q lost).2.pkg.vcoreReq = s.pkg.vcoreReq := by
  unfold State.frameEnd
  (repeat' split) <;> simp
@[simp] theorem State.ageCheck_vcoreReq (s : State) (g : Nat) : (s.ageCheck g).pkg.vcoreReq = s.pkg.vcoreReq := by simp [State.ageCheck]
@[simp] theorem State.visitEnd_vcoreReq (s : State) (g : Nat) : (s.visitEnd g).pkg.vcoreReq = s.pkg.vcoreReq := by simp [State.visitEnd]
@[simp] theorem State.sampleEnd_vcoreReq (s : State) (g : Nat) : (s.sampleEnd g).pkg.vcoreReq = s.pkg.vcoreReq := by
  unfold State.sampleEnd
  split <;> simp
@[simp] theorem State.abandonRecal_vcoreReq (s : State) (g : Nat) : (s.abandonRecal g).pkg.vcoreReq = s.pkg.vcoreReq := by
  unfold State.abandonRecal
  split <;> simp
@[simp] theorem State.setUncOf_vcoreReq (s : State) (nsx unit lost : Nat) : (s.setUncOf nsx unit lost).pkg.vcoreReq = s.pkg.vcoreReq := by
  unfold State.setUncOf
  split <;> simp
@[simp] theorem State.setUnc_vcoreReq (s : State) (nsx unit : Nat) : (s.setUnc nsx unit).pkg.vcoreReq = s.pkg.vcoreReq := by simp [State.setUnc]
@[simp] theorem State.lost6_vcoreReq (s : State) (p : Payload) : (s.lost6 p).pkg.vcoreReq = s.pkg.vcoreReq := by
  unfold State.lost6
  dsimp only
  (repeat' split) <;> simp
@[simp] theorem State.readLost_vcoreReq (s : State) (r : ReadReq) : (s.readLost r).pkg.vcoreReq = s.pkg.vcoreReq := by
  unfold State.readLost
  split <;> simp
@[simp] theorem State.unrecoverable_vcoreReq (s : State) (r : ReadReq) : (s.unrecoverable r).pkg.vcoreReq = s.pkg.vcoreReq := by
  unfold State.unrecoverable
  dsimp only
  (repeat' split) <;> simp
@[simp] theorem State.giveEngines_vcoreReq (s : State) : s.giveEngines.pkg.vcoreReq = s.pkg.vcoreReq := by
  unfold State.giveEngines
  exact foldl_vcoreReq _ (fun s a => by simp) _ s
@[simp] theorem State.readMembers_vcoreReq (s : State) (n : Nat) (r : Recon) (ps : List Nat) : (s.readMembers n r ps).pkg.vcoreReq = s.pkg.vcoreReq :=
    by simp [State.readMembers]
@[simp] theorem State.degrade_vcoreReq (s : State) (q : ReadReq) : (s.degrade q).pkg.vcoreReq = s.pkg.vcoreReq := by
  unfold State.degrade
  dsimp only
  (repeat' split) <;> simp
@[simp] theorem State.degradeRun_vcoreReq (s : State) (q : ReadReq) : (s.degradeRun q).pkg.vcoreReq = s.pkg.vcoreReq := by simp [State.degradeRun]
@[simp] theorem State.memberRead_vcoreReq (s : State) (n gran : Nat) (ok : Bool) : (s.memberRead n gran ok).pkg.vcoreReq = s.pkg.vcoreReq := by
  unfold State.memberRead
  split <;> simp

/-! ### Sys2Proof/Machine/Awl.lean -/

@[simp] theorem State.fillDies_vcoreReq (s : State) : s.fillDies.pkg.vcoreReq = s.pkg.vcoreReq := by simp [State.fillDies]
@[simp] theorem State.groupRead_vcoreReq (s : State) (gran : Nat) : (s.groupRead gran).pkg.vcoreReq = s.pkg.vcoreReq := by simp [State.groupRead]
@[simp] theorem State.refuseRead_vcoreReq (s : State) (r : ReadReq) : (s.refuseRead r).pkg.vcoreReq = s.pkg.vcoreReq := by
  unfold State.refuseRead
  split <;> simp
@[simp] theorem State.sendRead_vcoreReq (s : State) (d : Nat) (r : ReadReq) : (s.sendRead d r).pkg.vcoreReq = s.pkg.vcoreReq := by simp [State.sendRead]
@[simp] theorem State.startRead_vcoreReq (s : State) (d : Nat) (r : ReadReq) : (s.startRead d r).pkg.vcoreReq = s.pkg.vcoreReq := by simp [State.startRead]
@[simp] theorem State.softNext_vcoreReq (s : State) (r : ReadReq) : (s.softNext r).2.pkg.vcoreReq = s.pkg.vcoreReq := by
  unfold State.softNext
  split <;> simp
@[simp] theorem State.startHost_vcoreReq (s : State) (d n : Nat) : (s.startHost d n).pkg.vcoreReq = s.pkg.vcoreReq := by
  induction n generalizing s with
  | zero => rfl
  | succ n ih =>
    unfold State.startHost
    dsimp only
    split
    · rfl
    · split
      · split <;> simp [ih]
      · rfl
@[simp] theorem State.startInternal_vcoreReq (s : State) (d cls n : Nat) : (s.startInternal d cls n).pkg.vcoreReq = s.pkg.vcoreReq := by
  induction n generalizing s with
  | zero => rfl
  | succ n ih =>
    unfold State.startInternal
    dsimp only
    split
    · rfl
    · split
      · simp [ih]
      · rfl
@[simp] theorem State.suspendOp_vcoreReq (s : State) (d : Nat) (why : Suspended) : (s.suspendOp d why).pkg.vcoreReq = s.pkg.vcoreReq := by
  unfold State.suspendOp
  split <;> simp
@[simp] theorem State.resumeOp_vcoreReq (s : State) (d : Nat) : (s.resumeOp d).pkg.vcoreReq = s.pkg.vcoreReq := by
  unfold State.resumeOp
  dsimp only
  (repeat' split) <;> simp
@[simp] theorem State.sendWork_vcoreReq (s : State) (d : Nat) (w : WorkReq) : (s.sendWork d w).pkg.vcoreReq = s.pkg.vcoreReq := by simp [State.sendWork]
@[simp] theorem State.startWork_vcoreReq (s : State) (d : Nat) : (s.startWork d).pkg.vcoreReq = s.pkg.vcoreReq := by
  unfold State.startWork
  dsimp only
  (repeat' split) <;> simp
@[simp] theorem State.dispatch_vcoreReq (s : State) (d : Nat) : (s.dispatch d).pkg.vcoreReq = s.pkg.vcoreReq := by simp [State.dispatch]
@[simp] theorem State.startFrame_vcoreReq (s : State) (c d id : Nat) : (s.startFrame c d id).pkg.vcoreReq = s.pkg.vcoreReq := by
  unfold State.startFrame
  split <;> simp
@[simp] theorem State.startPage_vcoreReq (s : State) (c d : Nat) : (s.startPage c d).pkg.vcoreReq = s.pkg.vcoreReq := by
  unfold State.startPage
  split <;> simp
@[simp] theorem State.pumpChannel_vcoreReq (s : State) (c : Nat) : (s.pumpChannel c).pkg.vcoreReq = s.pkg.vcoreReq := by
  unfold State.pumpChannel
  dsimp only
  (repeat' split) <;> simp
@[simp] theorem State.pumpChannels_vcoreReq (s : State) : s.pumpChannels.pkg.vcoreReq = s.pkg.vcoreReq := by simp [State.pumpChannels]
@[simp] theorem State.dispatchAll_vcoreReq (s : State) : s.dispatchAll.pkg.vcoreReq = s.pkg.vcoreReq := by simp [State.dispatchAll]
@[simp] theorem State.countBlocked_vcoreReq (s : State) (d : Nat) : (s.countBlocked d).pkg.vcoreReq = s.pkg.vcoreReq := by simp [State.countBlocked]
@[simp] theorem State.dieTooth_vcoreReq (s : State) (d : Nat) : (s.dieTooth d).pkg.vcoreReq = s.pkg.vcoreReq := by
  unfold State.dieTooth
  dsimp only
  (repeat' split) <;> simp
@[simp] theorem State.awlTooth_vcoreReq (s : State) : s.awlTooth.pkg.vcoreReq = s.pkg.vcoreReq := by simp [State.awlTooth]

/-! ### Sys2Proof/Machine/Ledger.lean -/

theorem State.nextDie_vcoreReq {s : State} {c : Nat} {z : Nat × State} (h : s.nextDie c = some z) : z.2.pkg.vcoreReq = s.pkg.vcoreReq := by
  unfold State.nextDie at h
  dsimp only at h
  split at h
  · cases h; simp
  · contradiction
@[simp] theorem State.openBlock_vcoreReq (s : State) (b stream : Nat) (fc erase : Bool) : (s.openBlock b stream fc erase).pkg.vcoreReq = s.pkg.vcoreReq :=
    by simp [State.openBlock]
@[simp] theorem State.openPair_vcoreReq (s : State) : s.openPair.pkg.vcoreReq = s.pkg.vcoreReq := by
  unfold State.openPair
  dsimp only
  split
  · rfl
  · split
    · rfl
    · next hda =>
      split
      · exact State.nextDie_vcoreReq hda
      · next ha =>
        have hone := (State.takeBlock_vcoreReq ha).trans (State.nextDie_vcoreReq hda)
        split
        · exact hone
        · next hdb =>
          have htwo := (State.nextDie_vcoreReq hdb).trans hone
          split
          · exact htwo
          · next hb => simpa using (State.takeBlock_vcoreReq hb).trans htwo
@[simp] theorem State.queuePage_vcoreReq (s : State) (p : LedgerPage) : (s.queuePage p).pkg.vcoreReq = s.pkg.vcoreReq := by simp [State.queuePage]
@[simp] theorem State.beginsAt_vcoreReq (s : State) (at_ : Nat × Nat × Nat) (e : LedgerEntry) : (s.beginsAt at_ e).pkg.vcoreReq = s.pkg.vcoreReq := by
  unfold State.beginsAt
  split <;> simp
@[simp] theorem State.writePage_vcoreReq (s : State) (a b page : Nat) (new refresh : List LedgerEntry) : (s.writePage a b page new refresh).pkg.vcoreReq = s.pkg.vcoreReq :=
    by simp [State.writePage]
@[simp] theorem State.owesLink_vcoreReq (s : State) (a b page : Nat) : (s.owesLink a b page).pkg.vcoreReq = s.pkg.vcoreReq := by simp [State.owesLink]
@[simp] theorem State.writeLink_vcoreReq (s : State) (a b page na nb : Nat) : (s.writeLink a b page na nb).pkg.vcoreReq = s.pkg.vcoreReq := by simp [State.writeLink]
@[simp] theorem State.releaseBehind_vcoreReq (s : State) (b : Nat) : (s.releaseBehind b).pkg.vcoreReq = s.pkg.vcoreReq := by simp [State.releaseBehind]
@[simp] theorem State.entryDurable_vcoreReq (s : State) (e : LedgerEntry) : (s.entryDurable e).pkg.vcoreReq = s.pkg.vcoreReq := by
  unfold State.entryDurable
  split <;> simp
@[simp] theorem State.pageDurable_vcoreReq (s : State) (p : LedgerPage) : (s.pageDurable p).pkg.vcoreReq = s.pkg.vcoreReq := by
  unfold State.pageDurable
  dsimp only
  (repeat' split) <;> simp
@[simp] theorem State.rewritePage_vcoreReq (s : State) (p : LedgerPage) : (s.rewritePage p).pkg.vcoreReq = s.pkg.vcoreReq := by
  unfold State.rewritePage
  split <;> simp
@[simp] theorem State.pageFailed_vcoreReq (s : State) (p : LedgerPage) (a b : Bool) : (s.pageFailed p a b).pkg.vcoreReq = s.pkg.vcoreReq := by
  unfold State.pageFailed
  dsimp only
  (repeat' split) <;> simp
@[simp] theorem State.ledgerEnd_vcoreReq (s : State) (seq : Nat) (isB ok : Bool) : (s.ledgerEnd seq isB ok).pkg.vcoreReq = s.pkg.vcoreReq := by
  unfold State.ledgerEnd
  dsimp only
  (repeat' split) <;> simp
@[simp] theorem State.workEnd_vcoreReq (s : State) (w : WorkReq) (ok : Bool) : (s.workEnd w ok).pkg.vcoreReq = s.pkg.vcoreReq := by
  unfold State.workEnd
  split <;> simp

/-! ### Sys2Proof/Machine/Isolate.lean -/

@[simp] theorem State.redirect_vcoreReq (s : State) (r : ReadReq) : (s.redirect r).pkg.vcoreReq = s.pkg.vcoreReq := by
  unfold State.redirect
  split <;> simp
@[simp] theorem State.deadWork_vcoreReq (s : State) (w : WorkReq) : (s.deadWork w).pkg.vcoreReq = s.pkg.vcoreReq := by simp [State.deadWork]
@[simp] theorem State.drainDie_vcoreReq (s : State) (d : Nat) : (s.drainDie d).pkg.vcoreReq = s.pkg.vcoreReq := by simp [State.drainDie]
@[simp] theorem State.drainRetired_vcoreReq (s : State) (d : Nat) : (s.drainRetired d).pkg.vcoreReq = s.pkg.vcoreReq := by simp [State.drainRetired]
@[simp] theorem State.refuseWork_vcoreReq (s : State) (w : WorkReq) : (s.refuseWork w).pkg.vcoreReq = s.pkg.vcoreReq := by simp [State.refuseWork]
@[simp] theorem State.refuseWorks_vcoreReq (s : State) (d : Nat) : (s.refuseWorks d).pkg.vcoreReq = s.pkg.vcoreReq := by simp [State.refuseWorks]
@[simp] theorem State.refuseReads_vcoreReq (s : State) (d : Nat) : (s.refuseReads d).pkg.vcoreReq = s.pkg.vcoreReq := by simp [State.refuseReads]
@[simp] theorem State.drainDead_vcoreReq (s : State) : s.drainDead.pkg.vcoreReq = s.pkg.vcoreReq := by simp [State.drainDead]

/-! ### Sys2Proof/Machine/Unit.lean -/

@[simp] theorem State.cipherAsk_vcoreReq (s : State) (work : CipherWork) (slot : Nat) (keys : Option KeySet) (read : Bool) : (s.cipherAsk work slot keys read).pkg.vcoreReq = s.pkg.vcoreReq :=
    by simp [State.cipherAsk]
@[simp] theorem State.pumpPairs_vcoreReq (s : State) : s.pumpPairs.pkg.vcoreReq = s.pkg.vcoreReq := by
  unfold State.pumpPairs
  refine foldl_vcoreReq _ (fun s a => ?_) _ s
  split
  · rfl
  · split <;> rfl
@[simp] theorem State.cmdStep_vcoreReq (s : State) (tag : Nat) : (s.cmdStep tag).pkg.vcoreReq = s.pkg.vcoreReq := by
  unfold State.cmdStep
  split <;> simp
@[simp] theorem State.endUnit_vcoreReq (s : State) (t : Nat) : (s.endUnit t).pkg.vcoreReq = s.pkg.vcoreReq := by
  unfold State.endUnit
  split <;> simp
@[simp] theorem State.unitData_vcoreReq (s : State) (t : Nat) (data : List Byte) (mapped : Bool) : (s.unitData t data mapped).pkg.vcoreReq = s.pkg.vcoreReq := by
  unfold State.unitData
  (repeat' split) <;> simp
@[simp] theorem State.checkFailed_vcoreReq (s : State) (t : Nat) (j : UnitJob) : (s.checkFailed t j).pkg.vcoreReq = s.pkg.vcoreReq := by simp [State.checkFailed]
@[simp] theorem State.askDecrypt_vcoreReq (s : State) (t : Nat) : (s.askDecrypt t).pkg.vcoreReq = s.pkg.vcoreReq := by
  unfold State.askDecrypt
  dsimp only
  (repeat' split) <;> simp
@[simp] theorem State.readSlot_vcoreReq (s : State) (t : Nat) (j : UnitJob) (gran : Nat) : (s.readSlot t j gran).pkg.vcoreReq = s.pkg.vcoreReq := by
  unfold State.readSlot; split <;> simp [-List.reduceReplicate]
@[simp] theorem State.lookRead_vcoreReq (s : State) (t : Nat) (j : UnitJob) : (s.lookRead t j).pkg.vcoreReq = s.pkg.vcoreReq := by
  unfold State.lookRead
  dsimp only
  (repeat' split) <;> simp [-List.reduceReplicate]
@[simp] theorem State.lookCopy_vcoreReq (s : State) (t : Nat) (j : UnitJob) : (s.lookCopy t j).pkg.vcoreReq = s.pkg.vcoreReq := by
  unfold State.lookCopy
  dsimp only
  (repeat' split) <;> simp
@[simp] theorem State.lookDiscard_vcoreReq (s : State) (t : Nat) (j : UnitJob) : (s.lookDiscard t j).pkg.vcoreReq = s.pkg.vcoreReq := by
  unfold State.lookDiscard
  split <;> simp
@[simp] theorem State.jobStep_vcoreReq (s : State) (t : Nat) : (s.jobStep t).pkg.vcoreReq = s.pkg.vcoreReq := by
  unfold State.jobStep
  (repeat' split) <;> simp
@[simp] theorem State.stepJobs_vcoreReq (s : State) : s.stepJobs.pkg.vcoreReq = s.pkg.vcoreReq := by simp [State.stepJobs]
@[simp] theorem State.afterCount_vcoreReq (s : State) (slot : Nat) : (s.afterCount slot).pkg.vcoreReq = s.pkg.vcoreReq := by
  unfold State.afterCount
  dsimp only
  (repeat' split) <;> simp
@[simp] theorem State.rollStart_vcoreReq (s : State) (slot : Nat) : (s.rollStart slot).pkg.vcoreReq = s.pkg.vcoreReq := by simp [State.rollStart]
@[simp] theorem State.countEnds_vcoreReq (s : State) (slot : Nat) : (s.countEnds slot).pkg.vcoreReq = s.pkg.vcoreReq := by simp [State.countEnds]
@[simp] theorem State.askEncrypt_vcoreReq (s : State) (t : Nat) : (s.askEncrypt t).pkg.vcoreReq = s.pkg.vcoreReq := by
  unfold State.askEncrypt
  split <;> simp
@[simp] theorem State.stepValues_vcoreReq (s : State) : s.stepValues.pkg.vcoreReq = s.pkg.vcoreReq := by simp [State.stepValues]
@[simp] theorem State.sweepSlot_vcoreReq (s : State) (slot : Nat) : (s.sweepSlot slot).pkg.vcoreReq = s.pkg.vcoreReq := by
  unfold State.sweepSlot
  split <;> simp
@[simp] theorem State.sweeps_vcoreReq (s : State) : s.sweeps.pkg.vcoreReq = s.pkg.vcoreReq := by simp [State.sweeps]
@[simp] theorem State.sweepBuffer_vcoreReq (s : State) : s.sweepBuffer.pkg.vcoreReq = s.pkg.vcoreReq := by simp [State.sweepBuffer]

/-! ### Sys2Proof/Machine/Codec.lean -/

@[simp] theorem State.giveDecoders_vcoreReq (s : State) (soft : Bool) (n : Nat) : (s.giveDecoders soft n).pkg.vcoreReq = s.pkg.vcoreReq := by
  induction n generalizing s with
  | zero => rfl
  | succ n ih =>
    unfold State.giveDecoders
    dsimp only
    (repeat' split) <;> simp [ih]
@[simp] theorem State.decoders_vcoreReq (s : State) : s.decoders.pkg.vcoreReq = s.pkg.vcoreReq := by simp [State.decoders]

/-! ### Sys2Proof/Machine/Hold.lean -/

@[simp] theorem State.holdErase_vcoreReq (s : State) (b : Nat) : (s.holdErase b).pkg.vcoreReq = s.pkg.vcoreReq := by simp [State.holdErase]
theorem State.takeHold_vcoreReq {s : State} {die : Nat} {z : Nat × State} (h : s.takeHold die = some z) : z.2.pkg.vcoreReq = s.pkg.vcoreReq := by
  unfold State.takeHold at h
  split at h
  · contradiction
  · next heq => cases h; simpa using State.takeBlock_vcoreReq heq
@[simp] theorem State.mendHold_vcoreReq (s : State) (xs : List Nat) : (s.mendHold xs).2.pkg.vcoreReq = s.pkg.vcoreReq := by
  induction xs generalizing s with
  | nil => rfl
  | cons b bs ih =>
    unfold State.mendHold
    split
    · split
      · next htake =>
        split at htake
        · exact (ih _).trans (State.takeHold_vcoreReq htake)
        · contradiction
      · exact ih s
    · exact ih s
@[simp] theorem State.holdCheck_vcoreReq (s : State) : s.holdCheck.pkg.vcoreReq = s.pkg.vcoreReq := by simp [State.holdCheck]

/-! ### Sys2Proof/Machine/Purge.lean -/

@[simp] theorem State.eraseForce_vcoreReq (s : State) (blocks : List Nat) : (s.eraseForce blocks).pkg.vcoreReq = s.pkg.vcoreReq := by simp [State.eraseForce]
@[simp] theorem State.resetU0_vcoreReq (s : State) : s.resetU0.pkg.vcoreReq = s.pkg.vcoreReq := by simp [State.resetU0]
@[simp] theorem State.unmapSpace_vcoreReq (s : State) (nsx : Nat) : (s.unmapSpace nsx).pkg.vcoreReq = s.pkg.vcoreReq := by simp [State.unmapSpace]
@[simp] theorem State.unmapSlot_vcoreReq (s : State) (slot : Nat) : (s.unmapSlot slot).pkg.vcoreReq = s.pkg.vcoreReq := by simp [State.unmapSlot]
@[simp] theorem State.stepFormat_vcoreReq (s : State) (r : FormatRun) : (s.stepFormat r).pkg.vcoreReq = s.pkg.vcoreReq := by simp [State.stepFormat]
@[simp] theorem State.endJobs_vcoreReq (s : State) : s.endJobs.pkg.vcoreReq = s.pkg.vcoreReq := by simp [State.endJobs]
@[simp] theorem State.clearPersisted_vcoreReq (s : State) : s.clearPersisted.pkg.vcoreReq = s.pkg.vcoreReq := by simp [State.clearPersisted]
@[simp] theorem State.stepSanitize_vcoreReq (s : State) : s.stepSanitize.pkg.vcoreReq = s.pkg.vcoreReq := by
  unfold State.stepSanitize
  split <;> simp
@[simp] theorem State.stepErases_vcoreReq (s : State) : s.stepErases.pkg.vcoreReq = s.pkg.vcoreReq := by simp [State.stepErases]
@[simp] theorem State.lateEnd_vcoreReq (s : State) (tag : Nat) (e : LateEnd) : (s.lateEnd tag e).pkg.vcoreReq = s.pkg.vcoreReq := by
  unfold State.lateEnd
  (repeat' split) <;> simp
@[simp] theorem State.stepLate_vcoreReq (s : State) : s.stepLate.pkg.vcoreReq = s.pkg.vcoreReq := by simp [State.stepLate]

/-! ### Sys2Proof/Machine/Settle.lean -/

@[simp] theorem State.bucketWaits_vcoreReq (s : State) : s.bucketWaits.pkg.vcoreReq = s.pkg.vcoreReq := by simp [State.bucketWaits]
@[simp] theorem State.settleUnits_vcoreReq (s : State) : s.settleUnits.pkg.vcoreReq = s.pkg.vcoreReq := by simp [State.settleUnits]
@[simp] theorem State.settleMap_vcoreReq (s : State) : s.settleMap.pkg.vcoreReq = s.pkg.vcoreReq := by simp [State.settleMap]
@[simp] theorem State.settleFlash_vcoreReq (s : State) : s.settleFlash.pkg.vcoreReq = s.pkg.vcoreReq := by simp [State.settleFlash]
@[simp] theorem State.settle_vcoreReq (s : State) : s.settle.pkg.vcoreReq = s.pkg.vcoreReq := by simp [State.settle]

/-! ### Sys2Proof/Machine/Features.lean -/

@[simp] theorem State.sleepLinks_vcoreReq (s : State) : s.sleepLinks.pkg.vcoreReq = s.pkg.vcoreReq := by simp [State.sleepLinks]
@[simp] theorem State.wakeLinks_vcoreReq (s : State) : s.wakeLinks.pkg.vcoreReq = s.pkg.vcoreReq := by simp [State.wakeLinks]

/-! ### Sys2Proof/Machine/Link.lean -/

@[simp] theorem State.healthCheck_vcoreReq (s : State) (r : Rein) : (s.healthCheck r).pkg.vcoreReq = s.pkg.vcoreReq := by simp [State.healthCheck]

/-! ### Sys2Proof/Machine/Dma.lean -/

@[simp] theorem State.dmaFreqPause_vcoreReq (s : State) : s.dmaFreqPause.pkg.vcoreReq = s.pkg.vcoreReq := by simp [State.dmaFreqPause]

/-! ### Sys2Proof/Machine/Plans.lean -/

@[simp] theorem State.planLoadFails_vcoreReq (s : State) : s.planLoadFails.pkg.vcoreReq = s.pkg.vcoreReq := by simp [State.planLoadFails]
@[simp] theorem State.planSwap_vcoreReq (s : State) : s.planSwap.pkg.vcoreReq = s.pkg.vcoreReq := by
  unfold State.planSwap
  dsimp only
  (repeat' split) <;> simp

/-! ### Sys2Proof/Machine/Dram.lean -/

@[simp] theorem State.freqChange_vcoreReq (s : State) (rate : Nat) : (s.freqChange rate).pkg.vcoreReq = s.pkg.vcoreReq := by simp [State.freqChange]

/-! ### Sys2Proof/Machine/Rounds.lean -/

@[simp] theorem State.reinRound_vcoreReq (s : State) (r : Rein) : (s.reinRound r).pkg.vcoreReq = s.pkg.vcoreReq := by simp [State.reinRound]
@[simp] theorem State.mr4Read_vcoreReq (s : State) (m : Mr4Reading) : (s.mr4Read m).pkg.vcoreReq = s.pkg.vcoreReq := by simp [State.mr4Read]
@[simp] theorem State.dramRound_vcoreReq (s : State) : s.dramRound.pkg.vcoreReq = s.pkg.vcoreReq := by simp [State.dramRound]
@[simp] theorem State.flashRound_vcoreReq (s : State) (c : Nat) : (s.flashRound c).pkg.vcoreReq = s.pkg.vcoreReq := by simp [State.flashRound]
@[simp] theorem State.flashRates_vcoreReq (s : State) : s.flashRates.pkg.vcoreReq = s.pkg.vcoreReq := by simp [State.flashRates]
@[simp] theorem State.freeBand_vcoreReq (s : State) : s.freeBand.pkg.vcoreReq = s.pkg.vcoreReq := by simp [State.freeBand]
@[simp] theorem State.fcRound_vcoreReq (s : State) : s.fcRound.pkg.vcoreReq = s.pkg.vcoreReq := by simp [State.fcRound]
@[simp] theorem State.spareCheck_vcoreReq (s : State) : s.spareCheck.pkg.vcoreReq = s.pkg.vcoreReq := by simp [State.spareCheck]
@[simp] theorem State.wearVictim_vcoreReq (s : State) (d : Nat) : (s.wearVictim d).pkg.vcoreReq = s.pkg.vcoreReq := by
  unfold State.wearVictim
  dsimp only
  (repeat' split) <;> simp
@[simp] theorem State.wearVictims_vcoreReq (s : State) : s.wearVictims.pkg.vcoreReq = s.pkg.vcoreReq := by simp [State.wearVictims]
@[simp] theorem State.untake_vcoreReq (s : State) (b : Nat) : (s.untake b).pkg.vcoreReq = s.pkg.vcoreReq := by simp [State.untake]
@[simp] theorem State.dropTaking_vcoreReq (s : State) (n : Nat) : (s.dropTaking n).pkg.vcoreReq = s.pkg.vcoreReq := by simp [State.dropTaking]
@[simp] theorem State.layoutRound_vcoreReq (s : State) : s.layoutRound.pkg.vcoreReq = s.pkg.vcoreReq := by
  unfold State.layoutRound
  split <;> simp
@[simp] theorem State.floorLinks_vcoreReq (s : State) : s.floorLinks.pkg.vcoreReq = s.pkg.vcoreReq := by simp [State.floorLinks]
@[simp] theorem State.wheelTo_vcoreReq (s : State) (m : WheelMode) (code sev : Nat) : (s.wheelTo m code sev).pkg.vcoreReq = s.pkg.vcoreReq := by simp [State.wheelTo]
@[simp] theorem State.wheelSource_vcoreReq (s : State) : s.wheelSource.pkg.vcoreReq = s.pkg.vcoreReq := by simp [State.wheelSource]
@[simp] theorem State.wheelApply_vcoreReq (s : State) : s.wheelApply.pkg.vcoreReq = s.pkg.vcoreReq := by
  unfold State.wheelApply
  split <;> simp
@[simp] theorem State.wheelComp_vcoreReq (s : State) : s.wheelComp.pkg.vcoreReq = s.pkg.vcoreReq := rfl
@[simp] theorem State.phaseStep_vcoreReq (s : State) : s.phaseStep.pkg.vcoreReq = s.pkg.vcoreReq := by simp [State.phaseStep]
@[simp] theorem State.heartbeat_vcoreReq (s : State) (r : Rein) : (s.heartbeat r).pkg.vcoreReq = s.pkg.vcoreReq := rfl
@[simp] theorem State.dieRounds_vcoreReq (s : State) : s.dieRounds.pkg.vcoreReq = s.pkg.vcoreReq := rfl
@[simp] theorem State.dqRound_vcoreReq (s : State) : s.dqRound.pkg.vcoreReq = s.pkg.vcoreReq := by simp [State.dqRound]
@[simp] theorem State.settleFront_vcoreReq (s : State) : s.settleFront.pkg.vcoreReq = s.pkg.vcoreReq := by simp [State.settleFront]

end Sys2Proof.Machine
end


section
/-! The tooth (O9): how a tooth boundary moves WT, SYS_PHASE, LT and the reference that slews (R32, R33, R45, R46), and what opens at LT 512 (R238). -/
namespace Sys2Proof.Machine

namespace WheelState

theorem offset_lt (w : WheelState) : w.offset < 1024 := Nat.mod_lt _ (by omega)

/-! ### A slew, and one of its teeth -/

theorem slew_lag (w : WheelState) (on : Bool) : (w.slew on).lag = w.lag := rfl
theorem slew_distance (w : WheelState) (on : Bool) : (w.slew on).distance = w.distance := rfl
theorem slew_freqCorr (w : WheelState) (on : Bool) : (w.slew on).freqCorr = clampFreq (w.baseCorr + (w.slew on).slewCorr) := rfl
theorem slew_on_slewing (w : WheelState) : (w.slew true).slewing = decide (w.lag ≠ 0) := rfl

/-- SYS_PHASE with TARGET one tooth nearer to LT. -/
def nearer (w : WheelState) : Nat := if w.lag = 0 then w.sysPhase else if w.lag ≤ 512 then (w.sysPhase + 1) % 1024 else (w.sysPhase + 1023) % 1024
/-- The slew's accumulator after a tooth, in millionths of a tooth. -/
def drawn (w : WheelState) : Nat := w.slewAcc + w.cfg.slewMax
/-- The wheel with its reference one tooth nearer, and the rest of the accumulator. -/
def drawnNearer (w : WheelState) : WheelState := { w with slewAcc := w.drawn - 1000000, sysPhase := w.nearer }

theorem drawnNearer_distance (w : WheelState) : w.drawnNearer.distance = w.distance - 1 := by
  have hoffset := w.offset_lt
  have hlag : w.drawnNearer.lag = (w.lt + 1024 - (w.nearer + 1024 - w.offset) % 1024) % 1024 := rfl
  have hwas : w.lag = (w.lt + 1024 - (w.sysPhase + 1024 - w.offset) % 1024) % 1024 := rfl
  unfold distance
  rw [hlag]
  unfold nearer
  split_ifs <;> omega

theorem slewTooth_of_still {w : WheelState} (h : w.slewing = false) : w.slewTooth = w := by simp [slewTooth, h]
theorem slewTooth_of_part {w : WheelState} (h : w.slewing = true) (hpart : w.drawn < 1000000) : w.slewTooth = ({ w with slewAcc := w.drawn } : WheelState).slew true :=
  (if_pos h).trans (if_pos hpart)
theorem slewTooth_of_whole {w : WheelState} (h : w.slewing = true) (hwhole : 1000000 ≤ w.drawn) : w.slewTooth = w.drawnNearer.slew true :=
  (if_pos h).trans (if_neg (Nat.not_lt.mpr hwhole))

theorem slewTooth_sysPhase {w : WheelState} (h : w.slewing = false ∨ w.drawn < 1000000) : w.slewTooth.sysPhase = w.sysPhase := by
  cases hslew : w.slewing with
  | false => rw [slewTooth_of_still hslew]
  | true =>
    rw [slewTooth_of_part hslew (h.resolve_left (by simp [hslew]))]
    rfl

/-- A tooth of a slew: it ends where LT meets TARGET, and FREQ_CORR carries it. -/
theorem slewTooth_steers {w : WheelState} (h : w.slewing = true) :
    w.slewTooth.slewing = decide (w.slewTooth.lag ≠ 0) ∧ w.slewTooth.freqCorr = clampFreq (w.baseCorr + w.slewTooth.slewCorr) := by
  by_cases hpart : w.drawn < 1000000
  · rw [slewTooth_of_part h hpart, slew_lag]
    exact ⟨slew_on_slewing _, slew_freqCorr _ _⟩
  · rw [slewTooth_of_whole h (Nat.not_lt.mp hpart), slew_lag]
    exact ⟨slew_on_slewing _, slew_freqCorr _ _⟩

/-- What a tooth of a slew leaves of the wheel. -/
theorem slewTooth_keeps (w : WheelState) : w.slewTooth.lt = w.lt ∧ w.slewTooth.filler = w.filler ∧ w.slewTooth.roundDue = w.roundDue ∧
    w.slewTooth.sourceInUse = w.sourceInUse := by
  cases hslew : w.slewing with
  | false =>
    rw [slewTooth_of_still hslew]
    exact ⟨rfl, rfl, rfl, rfl⟩
  | true =>
    by_cases hpart : w.drawn < 1000000
    · rw [slewTooth_of_part hslew hpart]
      exact ⟨rfl, rfl, rfl, rfl⟩
    · rw [slewTooth_of_whole hslew (Nat.not_lt.mp hpart)]
      exact ⟨rfl, rfl, rfl, rfl⟩

/-! ### A tooth -/

/-- The wheel on the next tooth of the round, before the slew: the round boundary is due after tooth 1,023. -/
def onward (w : WheelState) : WheelState :=
  { w with wt := w.wt + 1, sysPhase := (w.sysPhase + 1) % 1024, lt := if w.lt = 1023 then 0 else w.lt + 1, roundDue := w.roundDue || decide (w.lt = 1023) }
/-- The wheel on the next filler tooth. -/
def filled (w : WheelState) : WheelState := { w with wt := w.wt + 1, sysPhase := (w.sysPhase + 1) % 1024, filler := w.filler - 1, lt := 0 }

theorem tick_of_filler {w : WheelState} (h : 0 < w.filler) : w.tick = w.filled := if_pos h
theorem tick_of_live {w : WheelState} (h : w.filler = 0) : w.tick = w.onward.slewTooth := by
  unfold tick onward
  simp only [h, Nat.lt_irrefl, if_false]
  split <;> simp [*]

/-- A tooth of the round moves LT and TARGET together. -/
theorem onward_lag (w : WheelState) : w.onward.lag = w.lag := by
  have hoffset := w.offset_lt
  show ((if w.lt = 1023 then 0 else w.lt + 1) + 1024 - ((w.sysPhase + 1) % 1024 + 1024 - w.offset) % 1024) % 1024 =
    (w.lt + 1024 - (w.sysPhase + 1024 - w.offset) % 1024) % 1024
  split <;> omega
theorem onward_distance (w : WheelState) : w.onward.distance = w.distance := by simp only [distance, onward_lag]

theorem tick_sysPhase {w : WheelState} (h : 0 < w.filler ∨ w.slewing = false ∨ w.drawn < 1000000) : w.tick.sysPhase = (w.sysPhase + 1) % 1024 := by
  rcases Nat.eq_zero_or_pos w.filler with hlive | hfiller
  · rw [tick_of_live hlive]
    exact slewTooth_sysPhase (w := w.onward) (h.resolve_left (by omega))
  · rw [tick_of_filler hfiller]
    rfl

theorem tick_slews {w : WheelState} (hlive : w.filler = 0) (hslew : w.slewing = true) :
    w.tick.slewing = decide (w.tick.lag ≠ 0) ∧ w.tick.freqCorr = clampFreq (w.baseCorr + w.tick.slewCorr) ∧
      (w.drawn < 1000000 → w.tick.distance = w.distance) ∧ (1000000 ≤ w.drawn → w.tick.distance = w.distance - 1) := by
  rw [tick_of_live hlive]
  obtain ⟨hends, hcorr⟩ := slewTooth_steers (w := w.onward) hslew
  refine ⟨hends, hcorr, fun hpart => ?_, fun hwhole => ?_⟩
  · rw [slewTooth_of_part (w := w.onward) hslew hpart]
    exact w.onward_distance
  · rw [slewTooth_of_whole (w := w.onward) hslew hwhole, slew_distance, drawnNearer_distance, onward_distance]

theorem tick_live {w : WheelState} (hlive : w.filler = 0) : w.tick.filler = 0 ∧ w.tick.lt = (if w.lt = 1023 then 0 else w.lt + 1) ∧
    w.tick.roundDue = (w.roundDue || decide (w.lt = 1023)) := by
  obtain ⟨hlt, hfiller, hdue, -⟩ := w.onward.slewTooth_keeps
  rw [tick_of_live hlive]
  exact ⟨hfiller.trans hlive, hlt, hdue⟩

theorem tick_sourceInUse (w : WheelState) : w.tick.sourceInUse = w.sourceInUse := by
  rcases Nat.eq_zero_or_pos w.filler with hlive | hfiller
  · obtain ⟨-, -, -, hsource⟩ := w.onward.slewTooth_keeps
    rw [tick_of_live hlive]
    exact hsource
  · rw [tick_of_filler hfiller]
    rfl

theorem holdOn_of_grows {w : WheelState} (h : w.errGrows = true) : w.holdOn.holdNs = w.holdNs + w.cfg.toothNs ∧ w.errBoundPs ≤ w.holdOn.errBoundPs := by
  unfold holdOn
  rw [if_pos h]
  exact ⟨rfl, Nat.le_add_right _ _⟩
theorem holdOn_of_not_grows {w : WheelState} (h : w.errGrows = false) : w.holdOn = w := by simp [holdOn, h]
theorem holdOn_keeps (w : WheelState) : w.holdOn.lt = w.lt ∧ w.holdOn.filler = w.filler ∧ w.holdOn.sourceInUse = w.sourceInUse := by
  unfold holdOn
  split <;> exact ⟨rfl, rfl, rfl⟩

end WheelState

/-! ### What a tooth does beside the wheel -/

@[simp] theorem State.countWaits_fe (s : State) : s.countWaits.fe = s.fe := by
  unfold State.countWaits
  have hfull : (s.fullWaits.foldl (fun s r => s.count 0x015 r.num 1) s).fe = s.fe := fold_left (fun s => s.fe) (fun s (r : Rein) => s.count 0x015 r.num 1) (fun _ _ => rfl) _ _
  dsimp only
  split_ifs <;> exact hfull
theorem State.ptmRequest_port {s : State} (hlt : s.wheel.lt = 512) (hfiller : s.wheel.filler = 0) {r : Rein} (hsource : s.wheel.sourceInUse = 2 + r.num)
    (hptm : (s.port r).ptm = true) (hup : (s.port r).up = true) : (s.ptmRequest.port r).ptmBusy = true := by
  have hrein : (if s.wheel.sourceInUse = 2 then Rein.a else Rein.b) = r := by cases r <;> simp [hsource, Rein.num]
  unfold State.ptmRequest
  rw [if_pos ⟨hlt, by omega, hfiller⟩]
  dsimp only
  rw [hrein, if_pos ⟨hptm, hup⟩, State.modPort_port]
@[simp] theorem State.ptmRequest_fe (s : State) : s.ptmRequest.fe = s.fe := by
  unfold State.ptmRequest
  dsimp only
  split_ifs <;> rfl
@[simp] theorem State.senseTooth_fe (s : State) (code : Nat) : (s.senseTooth code).fe = s.fe := by
  unfold State.senseTooth
  split <;> rfl
theorem State.selfTest_of_none {s : State} (h : s.fe.test = none) (f : TestFound) : s.selfTest f = s := by simp [State.selfTest, h]

/-- The state once a tooth has moved the wheel and has been counted. -/
def State.toothCounted (s : State) : State :=
  let u : State := ({ s with wheel := s.wheel.tick.holdOn } : State).count1 0x001
  if 0 < s.wheel.filler then u.count1 0x024 else u
/-- The tooth's own work: the waits, the PTM requester, the hold-up sample and the self-test. -/
def State.toothWorked (s : State) (code : Nat) (found : TestFound) : State := ((s.toothCounted.countWaits.ptmRequest).senseTooth code).selfTest found

theorem State.toothCounted_keeps (s : State) : s.toothCounted.wheel = s.wheel.tick.holdOn ∧ s.toothCounted.plan = s.plan ∧ s.toothCounted.rein = s.rein ∧
    s.toothCounted.fe = s.fe ∧ s.toothCounted.dram = s.dram ∧ s.toothCounted.dma = s.dma ∧ s.toothCounted.therm = s.therm ∧ s.toothCounted.img = s.img := by
  unfold State.toothCounted
  dsimp only
  split <;> exact ⟨rfl, rfl, rfl, rfl, rfl, rfl, rfl, rfl⟩

theorem execToothBoundary_of_due {s : State} (hpass : s.teethPass = true) (hdue : s.wheel.roundDue = false) (code : Nat) (found : TestFound) :
    execToothBoundary code found s = .next (if (s.toothWorked code found).wheel.roundDue ∨ (s.toothWorked code found).ts.mode = 2
      then (s.toothWorked code found).settle else (s.toothWorked code found).awlTooth.settle) := by
  unfold execToothBoundary
  rw [if_pos ⟨hpass, by simp [hdue]⟩]
  simp only [decide_eq_true_eq]
  rfl

theorem State.toothWorked_ptmBusy {s : State} (htest : s.fe.test = none) (hlt : s.wheel.lt = 511) (hfiller : s.wheel.filler = 0) {r : Rein}
    (hsource : s.wheel.sourceInUse = 2 + r.num) (hptm : (s.port r).ptm = true) (hup : (s.port r).up = true) (code : Nat) (found : TestFound) :
    ((s.toothWorked code found).port r).ptmBusy = true := by
  obtain ⟨hwheel, -, hrein, hfe, -⟩ := s.toothCounted_keeps
  obtain ⟨hheldLt, hheldFiller, hheldSource⟩ := s.wheel.tick.holdOn_keeps
  obtain ⟨hnoFiller, hnext, -⟩ := WheelState.tick_live hfiller
  have hport : s.toothCounted.countWaits.port r = s.port r := by simp [State.port, hrein]
  unfold State.toothWorked
  rw [State.selfTest_of_none (by simp [hfe, htest])]
  have hbusy : (s.toothCounted.countWaits.ptmRequest.port r).ptmBusy = true := by
    refine State.ptmRequest_port ?_ ?_ ?_ (by rw [hport, hptm]) (by rw [hport, hup])
    · simp [hwheel, hheldLt, hnext, hlt]
    · simp [hwheel, hheldFiller, hnoFiller]
    · simp [hwheel, hheldSource, WheelState.tick_sourceInUse, hsource]
  simpa [State.port] using hbusy

/-- A tooth boundary: the wheel ticks, and what a tooth does not move stays. -/
theorem execToothBoundary_spec {s : State} (hpass : s.teethPass = true) (hdue : s.wheel.roundDue = false) (code : Nat) (found : TestFound) :
    ∃ t, execToothBoundary code found s = .next t ∧ t.wheel = s.wheel.tick.holdOn ∧ t.plan = s.plan ∧ t.dram = s.dram ∧ t.dma = s.dma ∧ t.therm = s.therm ∧ t.img = s.img ∧
      t.rein = (s.toothWorked code found).rein := by
  obtain ⟨hwheel, hplan, -, -, hdram, hdma, htherm, himg⟩ := s.toothCounted_keeps
  refine ⟨_, execToothBoundary_of_due hpass hdue code found, ?_⟩
  split <;> simp [State.toothWorked, hwheel, hplan, hdram, hdma, htherm, himg]

theorem execToothBoundary_of_not_due {s : State} (h : s.teethPass = false ∨ s.wheel.roundDue = true) (code : Nat) (found : TestFound) :
    execToothBoundary code found s = .next s := by
  refine if_neg fun ⟨hpass, hdue⟩ => ?_
  rcases h with h | h <;> simp_all

end Sys2Proof.Machine
end


section
/-! The local round boundary (O9): the configuration that waits, comp(T), the phase step, heartbeats, VCORE_REQ and the plan swap (R38, R45 to R48, R261, R391, R22). -/
namespace Sys2Proof.Machine

/-! ### The wheel -/

namespace WheelState

/-- A change of source keeps FREQ_CORR and starts FREE or ACQUIRE (R38, R47). -/
def sourced (w : WheelState) : WheelState :=
  ({ w with sourceInUse := w.cfg.source, predicted := none, failedOver := false, errGrows := false, holdNs := 0, errBoundPs := 0,
            stepDue := false, slewing := false, slewAcc := 0, baseCorr := w.freqCorr, keepCorr := true } : WheelState).moved (if w.cfg.source = 0 then .free else .acquire)
/-- The configuration that waits is in force. -/
def configured (w : WheelState) (c : WheelCfg) : WheelState := { w with cfg := c, next := none }
/-- Another source, or other edges of the same one, starts the wheel anew; `o` is the configuration that ends. -/
def restarted (w : WheelState) (o c : WheelCfg) : WheelState :=
  if c.source ≠ o.source ∨ (c.source ≠ 0 ∧ (c.paceMode ≠ o.paceMode ∨ c.toothCycles ≠ o.toothCycles)) then w.sourced else w
/-- Another STATION or PHASE_STRIDE compares LT with TARGET. -/
def rephased (w : WheelState) (o c : WheelCfg) : WheelState := if c.station ≠ o.station ∨ c.phaseStride ≠ o.phaseStride then w.comparePhase else w
/-- The configuration that waits takes effect. -/
def applied (w : WheelState) : WheelState :=
  match w.next with
  | none => w
  | some c => ((w.configured c).restarted w.cfg c).rephased w.cfg c
/-- comp(T), the next reading, and the corrections that follow them. -/
def recomped (w : WheelState) (comp : Int) (temp : Option Int) : WheelState :=
  let v : WheelState := { w with comp := comp, fastRound := 0, oscTemp := temp,
                                 clampRounds := if w.mode = .locked ∧ w.clampedRound then min 64 (w.clampRounds + 1) else 0 }
  let v := if v.mode = .locked then { v with integHist := (v.integ :: v.integHist).take 64 } else if v.keepCorr then v.steer else v.correct (comp + v.integ)
  { v with clampedRound := decide (v.freqCorr.natAbs = 200000) }
/-- A phase step that is due inserts its filler teeth. -/
def stepped (w : WheelState) : WheelState := if w.stepDue then { w with stepDue := false, filler := w.lag, fillerLast := w.lag } else w
/-- The round boundary's work is no longer due. -/
def served (w : WheelState) : WheelState := { w with roundDue := false }
/-- The wheel's part of a round boundary. -/
def rounded (w : WheelState) (comp : Int) (temp : Option Int) : WheelState := (w.applied.recomped comp temp).stepped

/-- The tooth, the round and the configuration are the same in both. -/
structure OnSameTooth (v w : WheelState) : Prop where
  wt : w.wt = v.wt
  lt : w.lt = v.lt
  sysPhase : w.sysPhase = v.sysPhase
  roundDue : w.roundDue = v.roundDue
  stopped : w.stopped = v.stopped
  cfg : w.cfg = v.cfg
  next : w.next = v.next

theorem OnSameTooth.refl (w : WheelState) : OnSameTooth w w := ⟨rfl, rfl, rfl, rfl, rfl, rfl, rfl⟩
theorem OnSameTooth.trans {u v w : WheelState} (h : OnSameTooth u v) (g : OnSameTooth v w) : OnSameTooth u w :=
  ⟨g.wt.trans h.wt, g.lt.trans h.lt, g.sysPhase.trans h.sysPhase, g.roundDue.trans h.roundDue, g.stopped.trans h.stopped, g.cfg.trans h.cfg, g.next.trans h.next⟩
theorem OnSameTooth.lag {v w : WheelState} (h : OnSameTooth v w) : w.lag = v.lag := by simp only [WheelState.lag, target, offset, h.lt, h.sysPhase, h.cfg]
theorem OnSameTooth.distance {v w : WheelState} (h : OnSameTooth v w) : w.distance = v.distance := by simp only [WheelState.distance, h.lag]

theorem restarted_same (w : WheelState) (o c : WheelCfg) : OnSameTooth w (w.restarted o c) := by
  unfold restarted
  split
  · exact ⟨rfl, rfl, rfl, rfl, rfl, rfl, rfl⟩
  · exact .refl w
theorem rephased_same (w : WheelState) (o c : WheelCfg) : OnSameTooth w (w.rephased o c) := by
  unfold rephased
  split
  · exact ⟨rfl, rfl, rfl, rfl, rfl, rfl, rfl⟩
  · exact .refl w
theorem recomped_same (w : WheelState) (comp : Int) (temp : Option Int) : OnSameTooth w (w.recomped comp temp) := by
  unfold recomped
  dsimp only
  split_ifs <;> exact ⟨rfl, rfl, rfl, rfl, rfl, rfl, rfl⟩
theorem stepped_same (w : WheelState) : OnSameTooth w w.stepped := by
  unfold stepped
  split
  · exact ⟨rfl, rfl, rfl, rfl, rfl, rfl, rfl⟩
  · exact .refl w

theorem applied_of_none {w : WheelState} (h : w.next = none) : w.applied = w := by simp [applied, h]
theorem applied_of_some {w : WheelState} {c : WheelCfg} (h : w.next = some c) : w.applied = ((w.configured c).restarted w.cfg c).rephased w.cfg c := by simp [applied, h]
theorem applied_same_of_some {w : WheelState} {c : WheelCfg} (h : w.next = some c) : OnSameTooth (w.configured c) w.applied := by
  rw [applied_of_some h]
  exact (restarted_same _ _ _).trans (rephased_same _ _ _)
theorem applied_oscTemp (w : WheelState) : w.applied.oscTemp = w.oscTemp := by
  cases hnext : w.next with
  | none => rw [applied_of_none hnext]
  | some c =>
    rw [applied_of_some hnext]
    unfold rephased restarted
    split_ifs <;> rfl

/-- What the corrections of a round leave of the wheel's state, slew and step. -/
theorem recomped_keeps (w : WheelState) (comp : Int) (temp : Option Int) : (w.recomped comp temp).mode = w.mode ∧ (w.recomped comp temp).sourceInUse = w.sourceInUse ∧
    (w.recomped comp temp).slewing = w.slewing ∧ (w.recomped comp temp).stepDue = w.stepDue ∧ (w.recomped comp temp).filler = w.filler := by
  unfold recomped
  dsimp only
  split_ifs <;> exact ⟨rfl, rfl, rfl, rfl, rfl⟩
theorem recomped_of_locked {w : WheelState} (h : w.mode = .locked) (comp : Int) (temp : Option Int) : (w.recomped comp temp).freqCorr = w.freqCorr ∧
    (w.recomped comp temp).integHist = (w.integ :: w.integHist).take 64 := by
  unfold recomped
  dsimp only
  rw [if_pos h]
  exact ⟨rfl, rfl⟩
theorem recomped_of_unlocked {w : WheelState} (h : w.mode ≠ .locked) (hstill : w.slewing = false) (comp : Int) (temp : Option Int) :
    (w.recomped comp temp).freqCorr = clampFreq (if w.keepCorr then w.baseCorr else comp + w.integ) := by
  unfold recomped
  dsimp only
  rw [if_neg h]
  split <;> simp [steer, correct, slewCorr, hstill]

/-- What a phase step leaves of the wheel's state and correction. -/
theorem stepped_keeps (w : WheelState) : w.stepped.mode = w.mode ∧ w.stepped.sourceInUse = w.sourceInUse ∧ w.stepped.slewing = w.slewing ∧
    w.stepped.freqCorr = w.freqCorr ∧ w.stepped.integHist = w.integHist := by
  unfold stepped
  split <;> exact ⟨rfl, rfl, rfl, rfl, rfl⟩
theorem stepped_of_due {w : WheelState} (h : w.stepDue = true) : w.stepped = { w with stepDue := false, filler := w.lag, fillerLast := w.lag } := if_pos h
theorem stepped_of_not_due {w : WheelState} (h : w.stepDue = false) : w.stepped = w := by simp [stepped, h]

/-! ### The round boundary's clauses on the wheel -/

section
variable {w : WheelState} (comp : Int) (temp : Option Int)

theorem rounded_same_of_applied (w : WheelState) : OnSameTooth w.applied (w.rounded comp temp) :=
  (recomped_same _ _ _).trans (stepped_same _)

/-- No configuration waits: tooth, round and configuration stay. -/
theorem rounded_same_of_none (h : w.next = none) : OnSameTooth w (w.rounded comp temp) := by
  have hsame := rounded_same_of_applied comp temp w
  rwa [applied_of_none h] at hsame
/-- One waits: it is in force, on the same tooth. -/
theorem rounded_same_of_some {c : WheelCfg} (h : w.next = some c) : OnSameTooth (w.configured c) (w.rounded comp temp) :=
  (applied_same_of_some h).trans (rounded_same_of_applied comp temp w)

theorem rounded_tooth : (w.rounded comp temp).roundDue = w.roundDue ∧ (w.rounded comp temp).wt = w.wt ∧ (w.rounded comp temp).lt = w.lt ∧
    (w.rounded comp temp).sysPhase = w.sysPhase ∧ (w.rounded comp temp).next = none ∧ (w.rounded comp temp).stopped = w.stopped := by
  cases hnext : w.next with
  | none =>
    have hsame := rounded_same_of_none comp temp hnext
    exact ⟨hsame.roundDue, hsame.wt, hsame.lt, hsame.sysPhase, hsame.next.trans hnext, hsame.stopped⟩
  | some c =>
    have hsame := rounded_same_of_some comp temp hnext
    exact ⟨hsame.roundDue, hsame.wt, hsame.lt, hsame.sysPhase, hsame.next, hsame.stopped⟩

theorem rounded_of_none (h : w.next = none) : w.rounded comp temp = (w.recomped comp temp).stepped := by
  unfold rounded
  rw [applied_of_none h]

theorem rounded_steps (h : w.next = none) (hdue : w.stepDue = true) :
    (w.rounded comp temp).filler = w.lag ∧ (w.rounded comp temp).fillerLast = w.lag ∧ (w.rounded comp temp).stepDue = false := by
  obtain ⟨-, -, -, hstep, -⟩ := w.recomped_keeps comp temp
  have hlag := (w.recomped_same comp temp).lag
  rw [rounded_of_none comp temp h, stepped_of_due (hstep.trans hdue)]
  exact ⟨hlag, hlag, rfl⟩
theorem rounded_without_step (h : w.next = none) (hdue : w.stepDue = false) : (w.rounded comp temp).filler = w.filler := by
  obtain ⟨-, -, -, hstep, hfiller⟩ := w.recomped_keeps comp temp
  rw [rounded_of_none comp temp h, stepped_of_not_due (hstep.trans hdue)]
  exact hfiller
theorem rounded_of_unlocked (h : w.next = none) (hmode : w.mode ≠ .locked) (hstill : w.slewing = false) :
    (w.rounded comp temp).freqCorr = clampFreq (if w.keepCorr then w.baseCorr else comp + w.integ) := by
  obtain ⟨-, -, -, hcorr, -⟩ := (w.recomped comp temp).stepped_keeps
  rw [rounded_of_none comp temp h, hcorr]
  exact recomped_of_unlocked hmode hstill comp temp
theorem rounded_of_locked (h : w.next = none) (hmode : w.mode = .locked) :
    (w.rounded comp temp).freqCorr = w.freqCorr ∧ (w.rounded comp temp).integHist = (w.integ :: w.integHist).take 64 := by
  obtain ⟨-, -, -, hcorr, hhist⟩ := (w.recomped comp temp).stepped_keeps
  rw [rounded_of_none comp temp h, hcorr, hhist]
  exact recomped_of_locked hmode comp temp

/-- A change of SOURCE alone keeps FREQ_CORR (R47). -/
theorem rounded_of_source {c : WheelCfg} (h : w.next = some c) (hsource : c.source ≠ w.cfg.source) (hstation : c.station = w.cfg.station)
    (hstride : c.phaseStride = w.cfg.phaseStride) : (w.rounded comp temp).freqCorr = clampFreq w.freqCorr ∧
      (w.rounded comp temp).mode = (if c.source = 0 then .free else .acquire) ∧ (w.rounded comp temp).sourceInUse = c.source := by
  have happlied : w.applied = (w.configured c).sourced := by
    rw [applied_of_some h, rephased, if_neg (by simp [hstation, hstride]), restarted, if_pos (.inl hsource)]
  obtain ⟨hmode, huse, -⟩ := (w.configured c).sourced.recomped_keeps comp temp
  obtain ⟨hstepMode, hstepUse, -, hcorr, -⟩ := ((w.configured c).sourced.recomped comp temp).stepped_keeps
  have hunlocked : (if c.source = 0 then WheelMode.free else .acquire) ≠ .locked := by split <;> simp
  unfold rounded
  rw [happlied, hcorr, hstepMode, hmode, hstepUse, huse]
  exact ⟨recomped_of_unlocked (w := (w.configured c).sourced) hunlocked rfl comp temp, rfl, rfl⟩

/-- LT is compared with TARGET at a round boundary: a step takes place at once, a slew begins. -/
theorem compared_rounds (u : WheelState) :
    (u.cfg.stepThreshold < u.distance → (u.comparePhase.recomped comp temp).stepped.filler = u.lag ∧ (u.comparePhase.recomped comp temp).stepped.slewing = false) ∧
      (u.distance ≤ u.cfg.stepThreshold → (u.comparePhase.recomped comp temp).stepped.slewing = decide (u.lag ≠ 0)) := by
  obtain ⟨-, -, hslew, hstep, -⟩ := u.comparePhase.recomped_keeps comp temp
  obtain ⟨-, -, hstepSlew, -⟩ := (u.comparePhase.recomped comp temp).stepped_keeps
  refine ⟨fun hfar => ?_, fun hnear => ?_⟩
  · obtain ⟨hdue, hstill⟩ := u.comparePhase_steps hfar
    refine ⟨?_, by rw [hstepSlew, hslew, hstill]⟩
    rw [stepped_of_due (hstep.trans hdue)]
    exact (u.comparePhase.recomped_same comp temp).lag
  · obtain ⟨-, hslews⟩ := u.comparePhase_slews hnear
    rw [hstepSlew, hslew, hslews]
/-- A change of STATION or PHASE_STRIDE compares LT with the new TARGET: a step, or slewing (R45). -/
theorem rounded_of_phase {c : WheelCfg} (h : w.next = some c) (hphase : c.station ≠ w.cfg.station ∨ c.phaseStride ≠ w.cfg.phaseStride) :
    (c.stepThreshold < (w.configured c).distance → (w.rounded comp temp).filler = (w.configured c).lag ∧ (w.rounded comp temp).slewing = false) ∧
      ((w.configured c).distance ≤ c.stepThreshold → (w.rounded comp temp).slewing = decide ((w.configured c).lag ≠ 0)) := by
  have happlied : w.applied = ((w.configured c).restarted w.cfg c).comparePhase := by rw [applied_of_some h, rephased, if_pos hphase]
  have hsame := (w.configured c).restarted_same w.cfg c
  unfold rounded
  rw [happlied, ← hsame.lag, ← hsame.distance]
  have hround := compared_rounds comp temp ((w.configured c).restarted w.cfg c)
  rwa [show ((w.configured c).restarted w.cfg c).cfg = c from hsame.cfg] at hround

end
end WheelState

end Sys2Proof.Machine
end


section
/-! The work of the local round boundary on the rest of the part (O9), and the obligation on tooth and round boundaries. -/
namespace Sys2Proof.Machine

/-! ### The wheel of a round boundary's state -/

theorem State.wheelSource_wheel (s : State) : s.wheelSource.wheel = s.wheel.sourced := by
  unfold State.wheelSource WheelState.sourced
  dsimp only
  split <;> rw [State.wheelTo_wheel]
theorem State.wheelApply_wheel (s : State) : s.wheelApply.wheel = s.wheel.applied := by
  unfold State.wheelApply
  split
  · next hnext => exact (WheelState.applied_of_none hnext).symm
  · next c hnext =>
    rw [WheelState.applied_of_some hnext]
    unfold WheelState.rephased WheelState.restarted WheelState.configured
    dsimp only
    split_ifs <;> simp [State.wheelSource_wheel]
theorem State.wheelComp_wheel (s : State) :
    s.wheelComp.wheel = s.wheel.recomped s.compNow (if s.therm.brokenDie.contains 48 then s.wheel.oscTemp else s.therm.osc.or s.wheel.oscTemp) := rfl
theorem State.phaseStep_wheel (s : State) : s.phaseStep.wheel = s.wheel.stepped := by
  unfold State.phaseStep WheelState.stepped
  split <;> simp
theorem State.compNow_congr {s t : State} (htemp : t.wheel.oscTemp = s.wheel.oscTemp) (himg : t.img = s.img) : t.compNow = s.compNow := by
  unfold State.compNow
  rw [htemp, himg]

/-! ### What decides whether the wheel runs -/

/-- The fields besides the running plan by which the wheel runs, and the boot step. -/
def State.runsBy (s : State) : Nat × Nat × DumpState × Option FaultStop × Bool := (s.ts.bootStep, s.ts.mode, s.dump, s.fault.stop, s.wheel.stopped)
theorem State.wheelRuns_congr {s t : State} (h : t.runsBy = s.runsBy) (hplan : t.plan = s.plan) : t.wheelRuns = s.wheelRuns := by
  simp only [State.runsBy, Prod.mk.injEq] at h
  obtain ⟨-, hmode, hdump, hstop, hstopped⟩ := h
  simp only [State.wheelRuns, hmode, hdump, hstop, hstopped, hplan]
@[simp] theorem ite_runsBy (c : Prop) [Decidable c] (a b : State) : (if c then a else b).runsBy = if c then a.runsBy else b.runsBy := by split <;> rfl
@[simp] theorem foldl_runsBy {α : Type} (g : State → α → State) (h : ∀ s a, (g s a).runsBy = s.runsBy) (l : List α) (s : State) : (l.foldl g s).runsBy = s.runsBy :=
  fold_left State.runsBy g h l s

@[simp] theorem State.count1_runsBy (s : State) (src : Nat) : (s.count1 src).runsBy = s.runsBy := rfl
@[simp] theorem State.modPort_runsBy (s : State) (r : Rein) (f : ReinPort → ReinPort) : (s.modPort r f).runsBy = s.runsBy := rfl
@[simp] theorem State.modRank_runsBy (s : State) (k : Nat) (f : Rank → Rank) : (s.modRank k f).runsBy = s.runsBy := rfl
@[simp] theorem State.leave_runsBy (s : State) (code sev : Nat) (fields : List Nat) : (s.leave code sev fields).runsBy = s.runsBy := by
  unfold State.leave State.recordEvent State.putRecord
  (repeat' split) <;> rfl
@[simp] theorem State.finish_runsBy (s : State) (tag : Nat) (r : CmdResult) : (s.finish tag r).runsBy = s.runsBy := by
  unfold State.finish State.finishCode
  dsimp only
  (repeat' split) <;> rfl
@[simp] theorem State.eventOn_runsBy (s : State) (c : Nat) (r : Rein) (e : Event) : (s.eventOn c r e).runsBy = s.runsBy := by
  unfold State.eventOn
  split
  · rfl
  · split
    · exact State.finish_runsBy _ _ _
    · split <;> rfl
@[simp] theorem State.vendorEvent_runsBy (s : State) (info page : Nat) : (s.vendorEvent info page).runsBy = s.runsBy := by
  simp [State.vendorEvent, State.event]
@[simp] theorem State.wheelTo_runsBy (s : State) (m : WheelMode) (code sev : Nat) : (s.wheelTo m code sev).runsBy = s.runsBy :=
  (State.vendorEvent_runsBy _ _ _).trans (State.leave_runsBy _ _ _ _)
@[simp] theorem State.wheelSource_runsBy (s : State) : s.wheelSource.runsBy = s.runsBy := by
  unfold State.wheelSource
  dsimp only
  split <;> exact State.wheelTo_runsBy _ _ _ _
@[simp] theorem State.wheelApply_runsBy (s : State) : s.wheelApply.runsBy = s.runsBy := by
  have hphase : ∀ u : State, ({ u with wheel := u.wheel.comparePhase } : State).runsBy = u.runsBy := fun _ => rfl
  unfold State.wheelApply
  dsimp only
  split
  · rfl
  · split_ifs
    · exact (hphase _).trans (State.wheelSource_runsBy _)
    · rfl
    · exact State.wheelSource_runsBy _
    · rfl
@[simp] theorem State.wheelComp_runsBy (s : State) : s.wheelComp.runsBy = s.runsBy := by
  have hstopped := (s.wheel.recomped_same s.compNow (if s.therm.brokenDie.contains 48 then s.wheel.oscTemp else s.therm.osc.or s.wheel.oscTemp)).stopped
  rw [← State.wheelComp_wheel] at hstopped
  simp only [State.runsBy, hstopped]
  rfl
@[simp] theorem State.phaseStep_runsBy (s : State) : s.phaseStep.runsBy = s.runsBy := by
  unfold State.phaseStep
  split
  · exact State.leave_runsBy _ _ _ _
  · rfl
@[simp] theorem State.heartbeat_runsBy (s : State) (r : Rein) : (s.heartbeat r).runsBy = s.runsBy := rfl
@[simp] theorem State.dieRounds_runsBy (s : State) : s.dieRounds.runsBy = s.runsBy := rfl
@[simp] theorem State.healthCheck_runsBy (s : State) (r : Rein) : (s.healthCheck r).runsBy = s.runsBy := by simp [State.healthCheck]
@[simp] theorem State.reinRound_runsBy (s : State) (r : Rein) : (s.reinRound r).runsBy = s.runsBy := by simp [State.reinRound]
@[simp] theorem State.mr4Read_runsBy (s : State) (m : Mr4Reading) : (s.mr4Read m).runsBy = s.runsBy := by simp [State.mr4Read]
@[simp] theorem State.dqRound_runsBy (s : State) : s.dqRound.runsBy = s.runsBy := by
  unfold State.dqRound
  split <;> rfl
@[simp] theorem State.vcoreRound_runsBy (s : State) (pass : Nat) : (s.vcoreRound pass).runsBy = s.runsBy := rfl

/-! ### Heartbeats (R261) -/

theorem State.modPort_hbeat (s : State) (x r : Rein) {f : ReinPort → ReinPort} (hf : ∀ p, (f p).hbeat = p.hbeat) : ((s.modPort x f).port r).hbeat = (s.port r).hbeat := by
  by_cases h : r = x
  · rw [h, State.modPort_port, hf]
  · rw [State.modPort_port_ne _ _ _ _ h]
theorem State.heartbeats (s : State) (r : Rein) : (((s.heartbeat .a).heartbeat .b).port r).hbeat =
    if (s.port r).perst ∨ s.ts.mode = 2 ∨ !s.reinExists r then false else !(s.port r).hbeat := by
  unfold State.heartbeat
  cases r with
  | a => rw [State.modPort_port_ne _ _ _ _ (by decide), State.modPort_port]
  | b =>
    rw [State.modPort_port, State.modPort_port_ne _ _ _ _ (by decide)]
    rfl
theorem State.healthCheck_hbeat (s : State) (x r : Rein) : ((s.healthCheck x).port r).hbeat = (s.port r).hbeat := by
  have hhealth : ((s.modPort x fun p => { p with health := s.healthOf (s.port x) }).port r).hbeat = (s.port r).hbeat := s.modPort_hbeat x r fun _ => rfl
  unfold State.healthCheck
  dsimp only
  split
  · rfl
  · simpa [State.port] using hhealth
theorem State.reinRound_hbeat (s : State) (x r : Rein) : ((s.reinRound x).port r).hbeat = (s.port r).hbeat :=
  (State.healthCheck_hbeat _ _ _).trans (s.modPort_hbeat x r fun _ => rfl)
theorem ReinPort.sleep_hbeat (p : ReinPort) : p.sleep.hbeat = p.hbeat := by
  unfold ReinPort.sleep
  split <;> rfl
theorem ReinPort.wake_hbeat (p : ReinPort) : p.wake.hbeat = p.hbeat := by
  unfold ReinPort.wake
  split <;> rfl
theorem State.floorLinks_hbeat (s : State) (r : Rein) : (s.floorLinks.port r).hbeat = (s.port r).hbeat := by
  unfold State.floorLinks State.sleepLinks State.wakeLinks
  split_ifs
  · exact (State.modPort_hbeat _ _ _ ReinPort.sleep_hbeat).trans (s.modPort_hbeat _ _ ReinPort.sleep_hbeat)
  · rfl
  · exact (State.modPort_hbeat _ _ _ ReinPort.wake_hbeat).trans (s.modPort_hbeat _ _ ReinPort.wake_hbeat)
  · rfl

/-! ### The state of a round boundary up to its work on the media -/

/-- The round is counted, and its budgets are filled again. -/
def State.roundOpened (s : State) : State :=
  let u : State := ({ s with wheel := s.wheel.served, obs := { s.obs with rounds := s.obs.rounds + 1 }, map := { s.map with poolTold := false } } : State).count1 0x002
  { u with obs := { u.obs with spent := refillTokens u.img u.obs.rounds u.obs.spent } }
/-- The wheel's part. -/
def State.roundWheeled (s : State) : State := (s.roundOpened.wheelApply.wheelComp).phaseStep
/-- Heartbeats and the dies' rounds. -/
def State.roundBeaten (s : State) : State := ((s.roundWheeled.heartbeat .a).heartbeat .b).dieRounds
/-- The reins' health. -/
def State.roundJudged (s : State) : State :=
  if s.roundBeaten.reinExists .b then (s.roundBeaten.reinRound .a).reinRound .b else s.roundBeaten.reinRound .a
/-- DRAM's readings. -/
def State.roundRead (s : State) (mr4 : List Mr4Reading) : State := (mr4.foldl State.mr4Read s.roundJudged).dqRound
/-- VDD_CORE's request. -/
def State.roundMoved (s : State) (mr4 : List Mr4Reading) (pass : Nat) : State := (s.roundRead mr4).vcoreRound pass
/-- The work on the plan, the rates and the blocks, where the wheel runs, and the end of the command. -/
def State.roundSettled (s : State) : State := if s.wheelRuns ∧ 7 < s.ts.bootStep then (s.mediaRound.awlTooth).settle else s.settleFront

theorem execLocalRoundBoundary_of_due {s : State} (hpass : s.teethPass = true) (hdue : s.wheel.roundDue = true) (mr4 : List Mr4Reading) (pass : Nat) :
    execLocalRoundBoundary mr4 pass s = .next (s.roundMoved mr4 pass).roundSettled := by
  unfold execLocalRoundBoundary
  rw [if_pos ⟨hpass, hdue⟩]
  exact (apply_ite Host.Outcome.next _ _ _).symm
theorem execLocalRoundBoundary_of_not_due {s : State} (h : s.teethPass = false ∨ s.wheel.roundDue = false) (mr4 : List Mr4Reading) (pass : Nat) :
    execLocalRoundBoundary mr4 pass s = .next s := by
  refine if_neg fun ⟨hpass, hdue⟩ => ?_
  rcases h with h | h <;> simp_all

theorem State.roundWheeled_wheel (s : State) : ∃ temp, s.roundWheeled.wheel = s.wheel.served.rounded s.compNow temp := by
  have htemp : s.roundOpened.wheelApply.wheel.oscTemp = s.wheel.oscTemp := by
    rw [State.wheelApply_wheel, WheelState.applied_oscTemp]
    rfl
  have hcomp : s.roundOpened.wheelApply.compNow = s.compNow := State.compNow_congr htemp (by simp [State.roundOpened])
  unfold State.roundWheeled WheelState.rounded
  rw [State.phaseStep_wheel, State.wheelComp_wheel, hcomp, State.wheelApply_wheel]
  exact ⟨_, rfl⟩

section
variable (s : State) (mr4 : List Mr4Reading) (pass : Nat)

theorem State.roundWheeled_keeps : s.roundWheeled.rein = s.rein ∧ s.roundWheeled.runsBy = s.runsBy ∧ s.roundWheeled.plan = s.plan ∧ s.roundWheeled.therm = s.therm ∧
    s.roundWheeled.img = s.img := by
  have hopened : s.roundOpened.runsBy = s.runsBy := rfl
  refine ⟨?_, by simp [State.roundWheeled, hopened], ?_, ?_, ?_⟩ <;> simp [State.roundWheeled, State.roundOpened]

theorem State.roundJudged_keeps : s.roundJudged.wheel = s.roundWheeled.wheel ∧ s.roundJudged.plan = s.roundWheeled.plan ∧ s.roundJudged.therm = s.roundWheeled.therm ∧
    s.roundJudged.img = s.roundWheeled.img ∧ s.roundJudged.runsBy = s.roundWheeled.runsBy ∧ s.roundJudged.pkg.vcoreReq = s.roundWheeled.pkg.vcoreReq := by
  unfold State.roundJudged
  split <;> simp [State.roundBeaten]

theorem State.roundMoved_keeps : (s.roundMoved mr4 pass).wheel = s.roundWheeled.wheel ∧ (s.roundMoved mr4 pass).plan = s.plan ∧
    (s.roundMoved mr4 pass).therm = s.therm ∧ (s.roundMoved mr4 pass).img = s.img ∧ (s.roundMoved mr4 pass).runsBy = s.runsBy := by
  obtain ⟨-, hruns, hplan, htherm, himg⟩ := s.roundWheeled_keeps
  obtain ⟨hwheelJ, hplanJ, hthermJ, himgJ, hrunsJ, -⟩ := s.roundJudged_keeps
  simp [State.roundMoved, State.roundRead, hwheelJ, hplanJ, hthermJ, himgJ, hrunsJ, hruns, hplan, htherm, himg]

theorem State.roundMoved_hbeat (r : Rein) : ((s.roundMoved mr4 pass).port r).hbeat =
    if (s.port r).perst ∨ s.ts.mode = 2 ∨ !s.reinExists r then false else !(s.port r).hbeat := by
  obtain ⟨hrein, hruns, -⟩ := s.roundWheeled_keeps
  have hport : s.roundWheeled.port r = s.port r := congrArg (·.port r) hrein
  have hexists : s.roundWheeled.reinExists r = s.reinExists r := by simp only [State.reinExists, hrein]
  have hmode : s.roundWheeled.ts.mode = s.ts.mode := congrArg (·.2.1) hruns
  have hbeaten : (s.roundBeaten.port r).hbeat = if (s.port r).perst ∨ s.ts.mode = 2 ∨ !s.reinExists r then false else !(s.port r).hbeat := by
    rw [← hport, ← hexists, ← hmode]
    exact s.roundWheeled.heartbeats r
  have hmoved : (s.roundMoved mr4 pass).port r = s.roundJudged.port r := by simp [State.roundMoved, State.roundRead, State.port]
  rw [hmoved, ← hbeaten]
  unfold State.roundJudged
  split
  · rw [State.reinRound_hbeat, State.reinRound_hbeat]
  · rw [State.reinRound_hbeat]

/-- VCORE_REQ as the round's speed monitors move it (R391). -/
theorem State.roundMoved_vcoreReq : (s.roundMoved mr4 pass).pkg.vcoreReq = if s.therm.broken.contains 1 ∨ s.ts.bootStep < 7 then 20
    else if s.pkg.vcoreReq < min 20 pass then s.pkg.vcoreReq + 1 else if min 20 pass < s.pkg.vcoreReq then s.pkg.vcoreReq - 1 else s.pkg.vcoreReq := by
  obtain ⟨-, hruns, -, htherm, -⟩ := s.roundWheeled_keeps
  obtain ⟨-, -, hthermJ, -, hrunsJ, hreqJ⟩ := s.roundJudged_keeps
  have hbefore : (s.roundRead mr4).pkg.vcoreReq = s.pkg.vcoreReq := by simp [State.roundRead, hreqJ, State.roundWheeled, State.roundOpened]
  have hsteps : (s.roundRead mr4).runsBy = s.runsBy := by simp [State.roundRead, hrunsJ, hruns]
  have hboot : (s.roundRead mr4).ts.bootStep = s.ts.bootStep := congrArg (·.1) hsteps
  have hbroken : (s.roundRead mr4).therm = s.therm := by simp [State.roundRead, hthermJ, htherm]
  unfold State.roundMoved State.vcoreRound
  simp only [hbefore, hboot, hbroken]

end

/-! ### The work on the media leaves the wheel, the heartbeats and VCORE_REQ, and swaps the plan -/

theorem State.roundSettled_keeps (s : State) : s.roundSettled.wheel = s.wheel ∧ s.roundSettled.therm = s.therm ∧ s.roundSettled.img = s.img ∧
    s.roundSettled.pkg.vcoreReq = s.pkg.vcoreReq := by
  unfold State.roundSettled
  split
  · simp [State.mediaRound]
  · simp
theorem State.roundSettled_hbeat (s : State) (r : Rein) : (s.roundSettled.port r).hbeat = (s.port r).hbeat := by
  have hlinks : ((((s.dramRound.flashRates).planSwap).floorLinks).port r).hbeat = (s.port r).hbeat := by
    rw [State.floorLinks_hbeat]
    simp [State.port]
  rw [← hlinks]
  unfold State.roundSettled State.mediaRound
  split
  · simp [State.port]
  · rw [hlinks]
    simp [State.port]

/-- A loaded plan swaps with the running one (R22). -/
theorem State.planSwap_plan {s : State} {n : Nat} (hidle : s.plan.loading = false) (hloaded : s.plan.loaded = true) (hpending : s.plan.pendingNo = some n) :
    s.planSwap.plan = { s.plan with sampled := false, running := s.plan.inactive, inactive := s.plan.running, runningNo := n, loaded := false, pendingNo := none,
                                    swaps := satAdd 32 s.plan.swaps 1, lastSwapWt := s.wheel.wt } := by
  simp [State.planSwap, hidle, hloaded, hpending]
theorem State.roundSettled_plan {s : State} (hruns : s.wheelRuns = true) (hboot : 7 < s.ts.bootStep) {n : Nat} (hidle : s.plan.loading = false)
    (hloaded : s.plan.loaded = true) (hpending : s.plan.pendingNo = some n) :
    s.roundSettled.plan = { s.plan with sampled := false, running := s.plan.inactive, inactive := s.plan.running, runningNo := n, loaded := false, pendingNo := none,
                                        swaps := satAdd 32 s.plan.swaps 1, lastSwapWt := s.wheel.wt } := by
  have hkept : s.dramRound.flashRates.plan = s.plan ∧ s.dramRound.flashRates.wheel = s.wheel := by simp
  obtain ⟨hplan, hwheel⟩ := hkept
  have hswap := State.planSwap_plan (s := s.dramRound.flashRates) (n := n) (by rw [hplan, hidle]) (by rw [hplan, hloaded]) (by rw [hplan, hpending])
  rw [hplan, hwheel] at hswap
  unfold State.roundSettled State.mediaRound
  rw [if_pos ⟨hruns, hboot⟩]
  simp [hswap]

/-! ### The obligation -/

/-- Settles O9: a tooth is `tick` and then `holdOn` of the wheel, and a round boundary is `rounded` of it; the rest of the round's work moves neither the wheel, the heartbeats
nor VCORE_REQ again. -/
theorem toothAndRoundBoundaries : Obligations.ToothAndRoundBoundaries := by
  unfold Obligations.ToothAndRoundBoundaries
  refine ⟨?tooth, ?tick, fun _ _ _ h => execToothBoundary_of_not_due h _ _, ?round, fun _ _ _ h => execLocalRoundBoundary_of_not_due h _ _⟩
  case tooth =>
    intro s code found hpass hdue
    obtain ⟨t, ht, hwheel, hplan, hdram, hdma, htherm, himg, hrein⟩ := execToothBoundary_spec hpass hdue code found
    refine ⟨t, ht, hwheel, hplan, hdram, hdma, htherm, himg, fun htest hlt hfiller r hsource hptm hup => ?_⟩
    rw [show t.port r = (s.toothWorked code found).port r from congrArg (·.port r) hrein]
    exact State.toothWorked_ptmBusy htest hlt hfiller hsource hptm hup code found
  case tick =>
    intro w
    refine ⟨WheelState.tick_sysPhase, WheelState.tick_slews, fun hfiller => ?_, WheelState.tick_live, WheelState.holdOn_of_grows, WheelState.holdOn_of_not_grows⟩
    rw [WheelState.tick_of_filler hfiller]
    exact ⟨rfl, rfl, rfl⟩
  case round =>
    intro s mr4 pass hpass hdue
    obtain ⟨temp, hrounded⟩ := s.roundWheeled_wheel
    obtain ⟨hmovedWheel, hmovedPlan, hmovedTherm, hmovedImg, hmovedRuns⟩ := s.roundMoved_keeps mr4 pass
    obtain ⟨hsettledWheel, hsettledTherm, hsettledImg, hsettledReq⟩ := (s.roundMoved mr4 pass).roundSettled_keeps
    obtain ⟨hserved, hwt, hlt, hphase, hnone, -⟩ := WheelState.rounded_tooth (w := s.wheel.served) s.compNow temp
    have hwheel : (s.roundMoved mr4 pass).roundSettled.wheel = s.wheel.served.rounded s.compNow temp := hsettledWheel.trans (hmovedWheel.trans hrounded)
    refine ⟨_, execLocalRoundBoundary_of_due hpass hdue mr4 pass, ?_⟩
    rw [hwheel, hsettledTherm, hmovedTherm, hsettledImg, hmovedImg, hsettledReq]
    refine ⟨hserved, hwt, hlt, hphase, hnone, rfl, rfl, fun c hc => (WheelState.rounded_same_of_some (w := s.wheel.served) _ _ hc).cfg,
      fun hn => (WheelState.rounded_same_of_none (w := s.wheel.served) _ _ hn).cfg,
      WheelState.rounded_steps (w := s.wheel.served) _ _, WheelState.rounded_without_step (w := s.wheel.served) _ _, WheelState.rounded_of_unlocked (w := s.wheel.served) _ _,
      fun _ => WheelState.rounded_of_source (w := s.wheel.served) _ _, ?compared,
      WheelState.rounded_of_locked (w := s.wheel.served) _ _, fun r => ((s.roundMoved mr4 pass).roundSettled_hbeat r).trans (s.roundMoved_hbeat mr4 pass r),
      s.roundMoved_vcoreReq mr4 pass, ?swap⟩
    case compared =>
      rintro c w hc rfl hother
      exact WheelState.rounded_of_phase (w := s.wheel.served) s.compNow temp hc hother
    case swap =>
      intro n p hruns hboot hidle hloaded hpending hinactive
      have hbootMoved : (s.roundMoved mr4 pass).ts.bootStep = s.ts.bootStep := congrArg (·.1) hmovedRuns
      have hwtMoved : (s.roundMoved mr4 pass).wheel.wt = s.wheel.wt := by rw [hmovedWheel, hrounded]; exact hwt
      rw [State.roundSettled_plan ((State.wheelRuns_congr hmovedRuns hmovedPlan).trans hruns) (by rwa [hbootMoved]) (by rw [hmovedPlan, hidle]) (by rw [hmovedPlan, hloaded])
        (by rw [hmovedPlan, hpending]), hmovedPlan, hwtMoved]
      exact ⟨hinactive, rfl, rfl, rfl, rfl, rfl⟩

end Sys2Proof.Machine
end


section
/-! A die's reads and operations (O13): what each shared step of the awl does to its die, and the steps of the reads (R59, R62, R66, R67, R69, R89). -/
namespace Sys2Proof.Machine

/-! ### What leaves the dies or the channels as they are -/

theorem State.die_congr {s t : State} (h : t.awl.dies = s.awl.dies) (d : Nat) : t.die d = s.die d := by simp only [State.die, h]

@[simp] theorem State.setChan_die (s : State) (c d : Nat) (x : Channel) : (s.setChan c x).die d = s.die d := rfl
@[simp] theorem State.modChan_die (s : State) (c d : Nat) (f : Channel → Channel) : (s.modChan c f).die d = s.die d := rfl
@[simp] theorem State.ca_die (s : State) (d k : Nat) (host : Bool) (cycles : List CaCycle) : (s.ca k host cycles).die d = s.die d := rfl
@[simp] theorem State.count_die (s : State) (src inst n d : Nat) : (s.count src inst n).die d = s.die d := rfl
@[simp] theorem State.readGone_die (s : State) (gran d : Nat) : (s.readGone gran).die d = s.die d := rfl
@[simp] theorem State.setDie_chan (s : State) (c d : Nat) (x : Die) : (s.setDie d x).chan c = s.chan c := rfl

@[simp] theorem State.groupRead_die (s : State) (gran d : Nat) : (s.groupRead gran).die d = s.die d := by
  apply State.die_congr
  unfold State.groupRead
  dsimp only
  split <;> rfl

@[simp] theorem State.softNext_die (s : State) (r : ReadReq) (d : Nat) : (s.softNext r).2.die d = s.die d := by
  apply State.die_congr
  unfold State.softNext
  split <;> rfl

theorem State.softNext_of_hard (s : State) {r : ReadReq} (h : r.rung ≠ 2) : s.softNext r = ([], s) := by simp [State.softNext, h]

/-- The read that follows one of the group counts on its block, and an address stays as good as it was. -/
theorem State.softNext_addressFault (s : State) (r : ReadReq) (gran : Nat) : (s.softNext r).2.addressFault gran = s.addressFault gran := by
  have hfc : ∀ b, ((s.softNext r).2.blkRec b).fc = (s.blkRec b).fc := by
    intro b
    unfold State.softNext
    split
    · change ((s.newId.2.modBlk (s.img.blkOf r.gran) fun b => { b with inflight := satAdd 16 b.inflight 1 }).blkRec b).fc = _
      by_cases hb : b = s.img.blkOf r.gran
      · subst hb
        rw [State.modBlk_blkRec]
        rfl
      · rw [State.modBlk_blkRec_ne _ _ _ _ hb]
        rfl
    · rfl
  simp [State.addressFault, hfc]

@[simp] theorem State.sendWork_die (s : State) (d k : Nat) (w : WorkReq) : (s.sendWork k w).die d = s.die d := by
  unfold State.sendWork
  split
  · exact fold_left (State.die · d) (fun t p => t.ca k false (t.img.eraseCa w.fc w.block p)) (fun _ _ => rfl) (List.range s.img.planes) s
  · rfl

@[simp] theorem State.openRun_die (s : State) (q : ReadReq) (d : Nat) : (s.openRun q).die d = s.die d := by
  unfold State.openRun
  split <;> rfl

@[simp] theorem State.frameIn_die (s : State) (q : ReadReq) (d k : Nat) : (s.frameIn k q).die d = s.die d := by
  unfold State.frameIn
  dsimp only
  split
  · split <;> rfl
  · split <;> rfl

@[simp] theorem State.giveDecoders_die (s : State) (soft : Bool) (n d : Nat) : (s.giveDecoders soft n).die d = s.die d := by
  induction n generalizing s with
  | zero => rfl
  | succ n ih =>
    unfold State.giveDecoders
    cases soft <;> simp only [Bool.false_eq_true, if_false, if_true]
    all_goals
      split
      · split
        · exact ih _
        · rfl
      · rfl

@[simp] theorem State.decoders_die (s : State) (d : Nat) : s.decoders.die d = s.die d := by simp [State.decoders]

@[simp] theorem State.startFrame_die (s : State) (c k id d : Nat) : (s.startFrame c k id).die d = s.die d := by
  unfold State.startFrame
  split <;> rfl

@[simp] theorem State.startPage_die (s : State) (c k d : Nat) : (s.startPage c k).die d = s.die d := by
  unfold State.startPage
  split <;> rfl

@[simp] theorem State.pumpChannel_die (s : State) (c d : Nat) : (s.pumpChannel c).die d = s.die d := by
  unfold State.pumpChannel
  dsimp only
  split
  · rfl
  · split
    · split <;> simp
    · split
      · split <;> simp
      · split <;> simp

/-! ### The heads of a die's queues (R62) -/

theorem State.startHost_of_empty {s : State} {d : Nat} (h : (s.die d).hrq = []) (n : Nat) : s.startHost d n = s := by
  cases n with
  | zero => rfl
  | succ n => simp [State.startHost, h]

theorem State.startInternal_of_held {s : State} {d : Nat} (h : (s.die d).irq = [] ∨ (s.die d).loaded ≠ 0) (cls n : Nat) : s.startInternal d cls n = s := by
  cases n with
  | zero => rfl
  | succ n =>
    unfold State.startInternal
    dsimp only
    split
    · rfl
    · next hirq =>
      obtain h | h := h
      · rw [hirq] at h; cases h
      · exact if_neg fun ⟨_, hloaded, _⟩ => h hloaded

/-- An array read as it starts, unsensed and with all its frames to move. -/
def State.runBegun (s : State) (r : ReadReq) : ReadRun :=
  { req := r, plane := s.img.planeOf r.gran, sensed := false, framesLeft := framesOf r.gran r.glen, row := s.readRow r }

theorem State.startRead_die {s : State} {r : ReadReq} (hfault : s.addressFault r.gran = false) (d : Nat) :
    (s.startRead d r).die d = { s.die d with reads := (s.die d).reads ++ [s.runBegun r] } := by
  rw [State.startRead, if_neg (by simp [hfault]), State.groupRead_die, State.count_die, State.modDie_die]
  rfl

/-- HRQ's head has left it for its plane; of a soft group the next read stands there. -/
def State.headTaken (s : State) (d : Nat) (r : ReadReq) (rest : List ReadReq) : State :=
  (s.softNext r).2.modDie d fun x => { x with hrq := (s.softNext r).1 ++ rest, hrqOpen := x.hrqOpen - (1 - (s.softNext r).1.length) }

/-- A die at rest with one host read in HRQ and nothing else to read. -/
structure Die.AwaitsOne (x : Die) (r : ReadReq) : Prop where
  ready : x.ready = true
  hrq : x.hrq = [r]
  irq : x.irq = []
  reads : x.reads = []
  loaded : x.loaded = 0

/-- The one read of HRQ starts on a die at rest (R62). -/
theorem State.startHost_single {s : State} {d : Nat} {r : ReadReq} (h : (s.die d).AwaitsOne r) (hpage : s.pageMoves d = false) (hfault : s.addressFault r.gran = false) :
    ∃ run : ReadRun, run.req = r ∧ run.sensed = false ∧ ((s.startHost d 1).die d).reads = [run] ∧ ((s.startHost d 1).die d).irq = [] ∧
      ((s.startHost d 1).die d).hrq = (s.softNext r).1 := by
  have hplane : s.planeFree (s.die d) r.gran = true := by simp [State.planeFree, h.reads]
  have hstart : s.startHost d 1 = (s.headTaken d r []).startRead d r := by
    simp [State.startHost, State.headTaken, h.hrq, h.ready, hpage, hplane, h.loaded]
  have hhead : (s.headTaken d r []).die d = { s.die d with hrq := (s.softNext r).1 ++ [], hrqOpen := (s.die d).hrqOpen - (1 - (s.softNext r).1.length) } := by simp [State.headTaken]
  have hsound : (s.headTaken d r []).addressFault r.gran = false := (s.softNext_addressFault r r.gran).trans hfault
  refine ⟨(s.headTaken d r []).runBegun r, rfl, rfl, ?_⟩
  rw [hstart, State.startRead_die hsound, hhead, h.reads, List.append_nil]
  exact ⟨rfl, h.irq, rfl⟩

/-- A resumption changes nothing on its die but the operation's state (R66). -/
theorem State.resumeOp_die (s : State) (d : Nat) : ∃ op, op.isSome = (s.die d).op.isSome ∧ (s.resumeOp d).die d = { s.die d with op := op } := by
  unfold State.resumeOp
  dsimp only
  split
  · next o hop =>
    split
    · exact ⟨some { o with state := .running }, by simp [hop], by simp⟩
    · exact ⟨some o, by simp [hop], by rw [← hop]⟩
  · next hop => exact ⟨none, by simp [hop], by rw [← hop]⟩

theorem State.resumeOp_of_idle {s : State} {d : Nat} (h : (s.die d).op = none) : s.resumeOp d = s := by simp [State.resumeOp, h]
theorem State.resumeOp_of_reading {s : State} {d : Nat} (h : (s.die d).reads ≠ []) : s.resumeOp d = s := by
  unfold State.resumeOp
  dsimp only
  split
  · exact if_neg fun ⟨_, _, _, hreads, _⟩ => h hreads
  · rfl

theorem State.startWork_of_running {s : State} {d : Nat} (h : (s.die d).op.isSome = true) : s.startWork d = s := by
  obtain ⟨o, ho⟩ := Option.isSome_iff_exists.mp h
  simp [State.startWork, ho]

theorem State.startWork_of_reading {s : State} {d : Nat} (h : (s.die d).reads ≠ []) : s.startWork d = s := by
  unfold State.startWork
  dsimp only
  split
  · exact if_neg fun ⟨_, hreads, _⟩ => h hreads
  · rfl

theorem State.startWork_of_unloaded {s : State} {d : Nat} {w : WorkReq} {rest : List WorkReq} (hwkq : (s.die d).wkq = w :: rest) (hop : w.op = 1)
    (hloaded : (s.die d).loaded < w.pages) : s.startWork d = s := by
  unfold State.startWork
  dsimp only
  split
  · next hhead =>
    obtain ⟨rfl, -⟩ := List.cons.inj (hhead.symm.trans hwkq)
    exact if_neg fun ⟨_, _, _, _, hready, _⟩ => by omega
  · rfl

@[simp] theorem State.startWork_reads (s : State) (d : Nat) : ((s.startWork d).die d).reads = (s.die d).reads := by
  unfold State.startWork
  dsimp only
  split
  · split
    · simp [Die.fill]
    · rfl
  · rfl

/-- An operation as it starts (R61). -/
def DieOp.begun (w : WorkReq) : DieOp := { work := w, state := .running, thisTooth := false, atLimit := false, latency := false }

/-- A program all of whose pages are loaded starts in a slot of its class (R65). -/
theorem State.startWork_of_loaded {s : State} {d : Nat} {w : WorkReq} {rest : List WorkReq} (hop : (s.die d).op = none) (hwkq : (s.die d).wkq = w :: rest)
    (hreset : (s.die d).resetting = false) (hreads : (s.die d).reads = []) (hslot : s.slotClass d = w.cls) (hfiller : s.wheel.filler = 0) (hpages : 0 < w.pages)
    (hloaded : w.pages ≤ (s.die d).loaded) (hfault : s.workFault w = false) :
    ((s.startWork d).die d).op = some (DieOp.begun w) ∧ ((s.startWork d).die d).loaded = 0 := by
  simp [State.startWork, hop, hwkq, hreset, hreads, hslot, hfiller, hpages, hloaded, hfault, DieOp.begun]

/-! ### A die's dispatch (R62) -/

/-- With no host read in HRQ and none of IRQ's free to start, a dispatch resumes the operation or starts work. -/
theorem State.dispatch_of_no_reads {s : State} {d : Nat} (hhrq : (s.die d).hrq = []) (hirq : (s.die d).irq = [] ∨ (s.die d).loaded ≠ 0) :
    s.dispatch d = if !s.dieServes d ∨ s.dump.run.isSome then s else (s.resumeOp d).startWork d := by
  simp only [State.dispatch, State.startHost_of_empty hhrq, State.startInternal_of_held hirq]

theorem State.dispatch_keeps_reads {s : State} {d : Nat} (hhrq : (s.die d).hrq = []) (hirq : (s.die d).irq = []) : ((s.dispatch d).die d).reads = (s.die d).reads := by
  obtain ⟨op, -, hdie⟩ := s.resumeOp_die d
  rw [State.dispatch_of_no_reads hhrq (.inl hirq)]
  split
  · rfl
  · rw [State.startWork_reads, hdie]

/-- The operation of a die goes on and nothing is loaded or discarded, with no read in the queues. -/
theorem State.dispatch_keeps_loaded {s : State} {d : Nat} (hhrq : (s.die d).hrq = []) (hirq : (s.die d).irq = []) (hop : (s.die d).op.isSome = true) :
    ((s.dispatch d).die d).loaded = (s.die d).loaded := by
  obtain ⟨op, hsome, hdie⟩ := s.resumeOp_die d
  rw [State.dispatch_of_no_reads hhrq (.inl hirq)]
  split
  · rfl
  · rw [State.startWork_of_running (by rw [hdie]; exact hsome.trans hop), hdie]

/-- The one host read that waits on a die at rest starts, and nothing else does (R62). -/
theorem State.dispatch_starts_host {s : State} {d : Nat} {r : ReadReq} (hserves : s.dieServes d = true) (hdump : s.dump.run = none) (hslot : s.slotClass d < 6)
    (h : (s.die d).AwaitsOne r) (hpage : s.pageMoves d = false) (hfault : s.addressFault r.gran = false) :
    ∃ run : ReadRun, ((s.dispatch d).die d).reads = [run] ∧ run.req = r ∧ run.sensed = false ∧ (r.rung ≠ 2 → ((s.dispatch d).die d).hrq = []) := by
  obtain ⟨run, hreq, hsensed, hnow, hirq, hhrq⟩ := State.startHost_single h hpage hfault
  have hone : (s.die d).startable (s.slotClass d) = 1 := by
    rw [Die.startable, if_neg (by omega), if_neg (by omega), h.hrq]
    rfl
  have hreading : ((s.startHost d 1).die d).reads ≠ [] := by simp [hnow]
  have hdispatch : s.dispatch d = s.startHost d 1 := by
    simp only [State.dispatch, hserves, hdump, hone, State.startInternal_of_held (.inl hirq), State.resumeOp_of_reading hreading, State.startWork_of_reading hreading]
    simp
  rw [hdispatch]
  exact ⟨run, hnow, hreq, hsensed, fun hrung => by rw [hhrq, s.softNext_of_hard hrung]⟩

/-! ### Reads enter, wait, and are sensed -/

/-- The head of the front end's list has moved into HRQ, a retry read to its head (R59, R113). -/
def State.hrqTaken (s : State) (d : Nat) (r : ReadReq) (rest : List ReadReq) : State :=
  (s.modChan (chOfDie d) fun y => { y with hostFrames := y.hostFrames + r.moves }).setDie d
    { s.die d with feList := rest, hrq := if r.rung = 0 then (s.die d).hrq ++ [r] else r :: (s.die d).hrq, hrqOpen := if r.rung = 0 then (s.die d).hrqOpen else 0 }

theorem execHrqEntry_of_room {s : State} {d : Nat} {r : ReadReq} {rest : List ReadReq} (hlist : (s.die d).feList = r :: rest) (hcap : s.underCap (chOfDie d) r = true)
    (hroom : (s.die d).hrq.length < 4) (hserves : s.dieServes d = true) : execHrqEntry d s = .next ((s.hrqTaken d r rest).hrqArrived d).settle := by
  simp [execHrqEntry, State.hrqTaken, hlist, hcap, hroom, hserves]

theorem execHrqEntry_of_empty {s : State} {d : Nat} (h : (s.die d).feList = []) : execHrqEntry d s = .next s := by simp [execHrqEntry, h]

theorem State.hrqArrived_of_idle {s : State} {d : Nat} (h : (s.die d).op = none) : s.hrqArrived d = s.dispatch d := by simp [State.hrqArrived, h]

theorem State.pageMoves_congr {s t : State} {d : Nat} (h : (t.chan (chOfDie d)).busy = (s.chan (chOfDie d)).busy) : t.pageMoves d = s.pageMoves d := by
  simp only [State.pageMoves, h]
theorem State.pageMoves_of_ne {s : State} {d : Nat} (h : (s.chan (chOfDie d)).busy ≠ some (.page d)) : s.pageMoves d = false := decide_eq_false h

theorem State.dieServes_congr {s t : State} {d : Nat} (h : (t.die d).mode = (s.die d).mode) : t.dieServes d = s.dieServes d := by simp only [State.dieServes, h]

theorem Die.ready_of_idle {x : Die} (hop : x.op = none) (hreset : x.resetting = false) : x.ready = true := by simp [Die.ready, hop, hreset]
theorem Die.ready_of_suspended {x : Die} {o : DieOp} (hop : x.op = some o) (hstate : o.state ≠ .running) (hlatency : o.latency = false) (hreset : x.resetting = false) :
    x.ready = true := by simp [Die.ready, hop, hreset, hstate, hlatency]

/-- A read that comes to an idle die starts where its slot lets host reads start. -/
theorem State.hrqTaken_starts {s : State} {d : Nat} {r : ReadReq} {rest : List ReadReq} (hserves : s.dieServes d = true) (hop : (s.die d).op = none)
    (hreset : (s.die d).resetting = false) (hhrq : (s.die d).hrq = []) (hirq : (s.die d).irq = []) (hreads : (s.die d).reads = []) (hloaded : (s.die d).loaded = 0)
    (hpage : (s.chan (chOfDie d)).busy ≠ some (.page d)) (hdump : s.dump.run = none) (hslot : s.slotClass d < 6) (hfault : s.addressFault r.gran = false) :
    ∃ run : ReadRun, (((s.hrqTaken d r rest).hrqArrived d).die d).reads = [run] ∧ run.req = r ∧ run.sensed = false ∧
      (r.rung ≠ 2 → (((s.hrqTaken d r rest).hrqArrived d).die d).hrq = []) := by
  have hdie : (s.hrqTaken d r rest).die d =
      { s.die d with feList := rest, hrq := if r.rung = 0 then (s.die d).hrq ++ [r] else r :: (s.die d).hrq, hrqOpen := if r.rung = 0 then (s.die d).hrqOpen else 0 } :=
    State.setDie_die _ _ _
  have hbusy : ((s.hrqTaken d r rest).chan (chOfDie d)).busy = (s.chan (chOfDie d)).busy := by simp [State.hrqTaken]
  rw [State.hrqArrived_of_idle (by rw [hdie]; exact hop)]
  have hawaits : ((s.hrqTaken d r rest).die d).AwaitsOne r := by
    rw [hdie]
    exact ⟨Die.ready_of_idle hop hreset, by simp [hhrq], hirq, hreads, hloaded⟩
  exact State.dispatch_starts_host ((State.dieServes_congr (by rw [hdie])).trans hserves) hdump hslot hawaits ((State.pageMoves_congr hbusy).trans (State.pageMoves_of_ne hpage)) hfault

/-- tSUS has elapsed for the operation of a die. -/
def State.latencyOver (s : State) (d : Nat) (o : DieOp) : State := s.modDie d fun x => { x with op := some { o with latency := false } }

theorem execSuspendLatencyDone_of_latent {s : State} {d : Nat} {o : DieOp} (hop : (s.die d).op = some o) (hlatency : o.latency = true) :
    execSuspendLatencyDone d s = .next ((s.latencyOver d o).dispatch d).settle := by
  simp [execSuspendLatencyDone, State.latencyOver, hop, hlatency]

theorem execSuspendLatencyDone_of_not {s : State} {d : Nat} (h : ∀ o, (s.die d).op = some o → o.latency = false) : execSuspendLatencyDone d s = .next s := by
  unfold execSuspendLatencyDone
  split
  · next o hop => simp [h o hop]
  · rfl

/-- The read that waited for the suspension starts. -/
theorem State.suspended_starts {s : State} {d : Nat} {o : DieOp} {r : ReadReq} (hhrq : (s.die d).hrq = [r]) (hirq : (s.die d).irq = []) (hreads : (s.die d).reads = [])
    (hloaded : (s.die d).loaded = 0) (hreset : (s.die d).resetting = false) (hstate : o.state ≠ .running) (hpage : (s.chan (chOfDie d)).busy ≠ some (.page d))
    (hserves : s.dieServes d = true) (hdump : s.dump.run = none) (hslot : s.slotClass d < 6) (hfault : s.addressFault r.gran = false) :
    ∃ run : ReadRun, (((s.latencyOver d o).dispatch d).die d).reads = [run] ∧ run.req = r := by
  have hdie : (s.latencyOver d o).die d = { s.die d with op := some { o with latency := false } } := State.modDie_die _ _ _
  have hawaits : ((s.latencyOver d o).die d).AwaitsOne r := by
    rw [hdie]
    exact ⟨Die.ready_of_suspended rfl hstate rfl hreset, hhrq, hirq, hreads, hloaded⟩
  obtain ⟨run, hnow, hreq, -, -⟩ := State.dispatch_starts_host (s := s.latencyOver d o) ((State.dieServes_congr (by rw [hdie])).trans hserves) hdump hslot hawaits (State.pageMoves_of_ne hpage) hfault
  exact ⟨run, hnow, hreq⟩

/-- A read has been sensed, and its frames wait for data-out on the list of its kind (R69). -/
def State.sensed (s : State) (d id : Nat) (run : ReadRun) : State :=
  (s.modDie d fun x => { x with reads := x.reads.map fun r => if r.req.id = id then { r with sensed := true } else r }).setChan (chOfDie d)
    (if run.req.kind = .host then { s.chan (chOfDie d) with outHost := (s.chan (chOfDie d)).outHost ++ [(d, id)] }
     else { s.chan (chOfDie d) with outInternal := (s.chan (chOfDie d)).outInternal ++ [(d, id)] })

theorem State.sensed_die (s : State) (d id : Nat) (run : ReadRun) : (s.sensed d id run).die d =
    { s.die d with reads := (s.die d).reads.map fun r => if r.req.id = id then { r with sensed := true } else r } := by simp [State.sensed]

theorem execArrayReadDone_of_sensing {s : State} {d id : Nat} {run : ReadRun} (h : (s.die d).reads.find? (fun r => decide (r.req.id = id) && !r.sensed) = some run) :
    execArrayReadDone d id s = .next (s.sensed d id run).settle := by
  simp only [execArrayReadDone, h]
  rfl

theorem execArrayReadDone_of_sensed {s : State} {d id : Nat} (h : ∀ r ∈ (s.die d).reads, r.req.id = id → r.sensed = true) : execArrayReadDone d id s = .next s := by
  have hnone : (s.die d).reads.find? (fun r => decide (r.req.id = id) && !r.sensed) = none := by
    rw [List.find?_eq_none]
    intro r hr
    simpa using h r hr
  simp only [execArrayReadDone, hnone]

/-! ### A frame leaves (R69) -/

theorem execFrameDataOutDone_of_moving {s : State} {d id : Nat} (h : (s.chan (chOfDie d)).busy = some (.frame d id)) :
    execFrameDataOutDone d id s = .next (s.dataOut d id).settle := if_pos h
theorem execFrameDataOutDone_of_not {s : State} {d id : Nat} (h : (s.chan (chOfDie d)).busy ≠ some (.frame d id)) : execFrameDataOutDone d id s = .next s := if_neg h

/-- What a frame's arrival does to its die is what its leaving the channel does. -/
theorem State.dataOut_die {s : State} {d id : Nat} {run : ReadRun} (h : (s.die d).reads.find? (·.req.id = id) = some run) :
    ∃ t : State, t.die d = s.die d ∧ (s.dataOut d id).die d = (t.frameOut d run).die d := by
  refine ⟨((s.modChan (chOfDie d) fun x => { x with busy := none, polled := false }).openRun run.req).frameIn d run.nextFrame, by simp, ?_⟩
  simp only [State.dataOut, State.modChan_die, h, State.pumpChannel_die, State.decoders_die]

/-- One frame of the named read has moved. -/
def ReadRun.moved (id : Nat) (r : ReadRun) : ReadRun := if r.req.id = id then { r with framesLeft := r.framesLeft - 1 } else r

@[simp] theorem ReadRun.moved_req (id : Nat) (r : ReadRun) : (r.moved id).req = r.req := by
  unfold ReadRun.moved
  split <;> rfl

theorem find?_map_moved {reads : List ReadRun} {id : Nat} {run : ReadRun} (h : reads.find? (·.req.id = id) = some run) :
    (reads.map (ReadRun.moved id)).find? (·.req.id = id) = some { run with framesLeft := run.framesLeft - 1 } := by
  have hid : run.req.id = id := by simpa using List.find?_some h
  have hsame : (fun r : ReadRun => decide (r.req.id = id)) ∘ ReadRun.moved id = fun r => decide (r.req.id = id) := by
    funext r
    simp
  rw [List.find?_map, hsame, h, Option.map_some, ReadRun.moved, if_pos hid]

theorem State.frameOut_of_more {s : State} {d : Nat} {run : ReadRun} (h : 1 < run.framesLeft) :
    (s.frameOut d run).die d = { s.die d with reads := (s.die d).reads.map (ReadRun.moved run.req.id) } := by
  rw [State.frameOut, if_neg (by omega)]
  exact State.modDie_die _ _ _

/-- With its last frame a read ends. -/
theorem State.frameOut_of_last {s : State} {d : Nat} {run : ReadRun} (h : run.framesLeft ≤ 1) (hhrq : (s.die d).hrq = []) (hirq : (s.die d).irq = []) :
    ((s.frameOut d run).die d).reads = (s.die d).reads.filter (·.req.id ≠ run.req.id) := by
  rw [State.frameOut, if_pos h, State.dispatch_keeps_reads]
  · simp
  · simpa using hhrq
  · simpa using hirq

end Sys2Proof.Machine
end

section
/-! A die's programs, status reads, timeouts and resets, and the ZQ calibration of a channel (O13): R65, R82, R83, R88, R93, R94, R97, R98. -/
namespace Sys2Proof.Machine

/-! ### A page arrives (R65) -/

/-- A page has arrived: it counts towards a program that still waits for it. -/
def State.pageIn (s : State) (d : Nat) : State :=
  let t := s.modChan (chOfDie d) fun x => { x with busy := none, polled := false }
  let keep : Bool := decide ((s.die d).reads = []) && (s.die d).op.isNone && (match (s.die d).wkq with | w :: _ => decide (w.op = 1) | [] => false)
  if keep then t.modDie d fun x => { x with loaded := x.loaded + 1 } else t

theorem execDataInPageDone_of_moving {s : State} {d : Nat} (h : (s.chan (chOfDie d)).busy = some (.page d)) :
    execDataInPageDone d s = .next (((s.pageIn d).dispatch d).pumpChannel (chOfDie d)).settle := if_pos h
theorem execDataInPageDone_of_not {s : State} {d : Nat} (h : (s.chan (chOfDie d)).busy ≠ some (.page d)) : execDataInPageDone d s = .next s := if_neg h

/-- A die that reads nothing, with no operation in progress and a program at WKQ's head: the one that a page counts towards. -/
structure Die.TakesPages (x : Die) (w : WorkReq) (rest : List WorkReq) : Prop where
  hrq : x.hrq = []
  reads : x.reads = []
  op : x.op = none
  wkq : x.wkq = w :: rest
  program : w.op = 1

section
variable {s : State} {d : Nat} {w : WorkReq} {rest : List WorkReq}

theorem State.pageIn_of_waiting (h : (s.die d).TakesPages w rest) :
    s.pageIn d = (s.modChan (chOfDie d) fun x => { x with busy := none, polled := false }).modDie d fun x => { x with loaded := x.loaded + 1 } := by
  simp [State.pageIn, h.reads, h.op, h.wkq, h.program]

theorem State.pageIn_die_of_waiting (h : (s.die d).TakesPages w rest) : (s.pageIn d).die d = { s.die d with loaded := (s.die d).loaded + 1 } := by
  rw [State.pageIn_of_waiting h]
  exact State.modDie_die _ _ _

theorem State.pageIn_die_of_running (hop : (s.die d).op.isSome = true) : (s.pageIn d).die d = s.die d := by
  obtain ⟨o, ho⟩ := Option.isSome_iff_exists.mp hop
  simp [State.pageIn, ho]

/-- With a page loaded, a dispatch comes to WKQ's head alone. -/
theorem State.pageIn_dispatch (h : (s.die d).TakesPages w rest) :
    (s.pageIn d).dispatch d = if !s.dieServes d ∨ s.dump.run.isSome then s.pageIn d else (s.pageIn d).startWork d := by
  have hdie := State.pageIn_die_of_waiting h
  have hdump : (s.pageIn d).dump = s.dump := by rw [State.pageIn_of_waiting h]; rfl
  rw [State.dispatch_of_no_reads (by rw [hdie]; exact h.hrq) (.inr (by rw [hdie]; exact Nat.succ_ne_zero _)), State.resumeOp_of_idle (by rw [hdie]; exact h.op),
    State.dieServes_congr (s := s) (by rw [hdie]), hdump]

theorem State.pageIn_waits (h : (s.die d).TakesPages w rest) (hpages : (s.die d).loaded + 1 < w.pages) :
    (((s.pageIn d).dispatch d).die d).loaded = (s.die d).loaded + 1 ∧ (((s.pageIn d).dispatch d).die d).op = none := by
  have hdie := State.pageIn_die_of_waiting h
  have hsame : (s.pageIn d).dispatch d = s.pageIn d := by
    rw [State.pageIn_dispatch h, State.startWork_of_unloaded (by rw [hdie]; exact h.wkq) h.program (by rw [hdie]; exact hpages), ite_self]
  rw [hsame, hdie]
  exact ⟨rfl, h.op⟩

/-- With its last page the program starts. -/
theorem State.pageIn_starts (h : (s.die d).TakesPages w rest) (hsome : 0 < w.pages) (hpages : w.pages ≤ (s.die d).loaded + 1) (hserves : s.dieServes d = true)
    (hdump : s.dump.run = none) (hreset : (s.die d).resetting = false) (hslot : s.slotClass d = w.cls) (hfiller : s.wheel.filler = 0) (hfault : s.workFault w = false) :
    (((s.pageIn d).dispatch d).die d).op = some (DieOp.begun w) ∧ (((s.pageIn d).dispatch d).die d).loaded = 0 := by
  have hdie := State.pageIn_die_of_waiting h
  rw [State.pageIn_dispatch h, if_neg (by simp [hserves, hdump])]
  apply State.startWork_of_loaded (rest := rest) (hpages := hsome)
  case hop => rw [hdie]; exact h.op
  case hwkq => rw [hdie]; exact h.wkq
  case hreset => rw [hdie]; exact hreset
  case hreads => rw [hdie]; exact h.reads
  case hloaded => rw [hdie]; exact hpages
  all_goals rw [State.pageIn_of_waiting h]
  case hslot => exact hslot
  case hfiller => exact hfiller
  case hfault => exact hfault

/-- A page that arrives while an operation is in progress counts for nothing. -/
theorem State.pageIn_keeps_loaded (hhrq : (s.die d).hrq = []) (hirq : (s.die d).irq = []) (hop : (s.die d).op.isSome = true) :
    (((s.pageIn d).dispatch d).die d).loaded = (s.die d).loaded := by
  have hdie := State.pageIn_die_of_running hop
  rw [State.dispatch_keeps_loaded (by rw [hdie]; exact hhrq) (by rw [hdie]; exact hirq) (by rw [hdie]; exact hop), hdie]

end

/-! ### Status reads, timeouts and resets (R88, R93, R94) -/

theorem State.poll_wpHigh (s : State) (d : Nat) : ((s.poll d).chan (chOfDie d)).wpHigh = (s.chan (chOfDie d)).wpHigh := by simp [State.poll, State.ca]

theorem execStatusPoll_of_running {s : State} {d : Nat} {o : DieOp} (hop : (s.die d).op = some o) (hstate : o.state = .running) (hfits : s.pollFits d = true) (ready : Bool)
    (fails : List Nat) (wp : Bool) : execStatusPoll d ready fails wp s = .next (if ready then
      (s.poll d).opStatus d (if wp ∧ (s.chan (chOfDie d)).wpHigh then List.range s.img.planes else fails.filter (· < s.img.planes)) else s.poll d).settle := by
  have himg : (s.poll d).img = s.img := rfl
  simp only [execStatusPoll, hop, hstate, hfits, and_self, if_true, s.poll_wpHigh d, himg]

theorem execStatusPoll_of_taken {s : State} {d : Nat} (h : s.pollFits d = false) (ready : Bool) (fails : List Nat) (wp : Bool) : execStatusPoll d ready fails wp s = .next s := by
  unfold execStatusPoll
  split
  · simp [h]
  · rfl

theorem execStatusPoll_of_idle {s : State} {d : Nat} (h : (s.die d).op = none) (ready : Bool) (fails : List Nat) (wp : Bool) : execStatusPoll d ready fails wp s = .next s := by
  simp only [execStatusPoll, h]

theorem execOperationTimeout_of_running {s : State} {d : Nat} {o : DieOp} (hop : (s.die d).op = some o) (hstate : o.state = .running) :
    execOperationTimeout d s = .next (s.opTimeout d).settle := by
  simp only [execOperationTimeout, hop, hstate, if_true]

theorem execOperationTimeout_of_idle {s : State} {d : Nat} (h : (s.die d).op = none) : execOperationTimeout d s = .next s := by simp only [execOperationTimeout, h]

theorem execResetLunDone_of_resetting {s : State} {d : Nat} (h : (s.die d).resetting = true) (ready : Bool) : execResetLunDone d ready s = .next (if ready then
    ((s.modDie d fun x => { x with resetting := false }).leave 0x0404 1 [d]).dispatch d else (s.modDie d fun x => { x with resetting := false }).isolateDie d 1).settle := by
  rw [execResetLunDone, if_pos h]
  cases ready <;> rfl

theorem execResetLunDone_of_not {s : State} {d : Nat} (h : (s.die d).resetting = false) (ready : Bool) : execResetLunDone d ready s = .next s := by simp [execResetLunDone, h]

/-! ### ZQ calibration (R83, R98) -/

/-- A channel's target has been calibrated. -/
def State.zqDone (s : State) (ch target : Nat) (passed : Bool) : State :=
  (s.setChan ch { s.chan ch with zqRound := Table.set (s.chan ch).zqRound target s.obs.rounds, zqFails := if passed then 0 else (s.chan ch).zqFails + 1 }).ca (32 * ch + 4 * target) false
    (zqShortCa (32 * ch + 4 * target))

theorem State.zqDone_chan (s : State) (ch : Nat) {target : Nat} (h : target < 8) (passed : Bool) : (s.zqDone ch target passed).chan ch =
    { s.chan ch with zqRound := Table.set (s.chan ch).zqRound target s.obs.rounds, zqFails := if passed then 0 else (s.chan ch).zqFails + 1,
                     caWait := (s.chan ch).caWait ++ [⟨32 * ch + 4 * target, false, zqShortCa (32 * ch + 4 * target)⟩] } := by
  have hch : chOfDie (32 * ch + 4 * target) = ch := by unfold chOfDie; omega
  simp [State.zqDone, State.ca, hch]

theorem execZqCalShort_of_due {s : State} {ch target l : Nat} (hch : ch < 32) (htarget : target < 8) (hl : l < 4) (hfitted : s.img.populated (32 * ch + 4 * target + l) = true)
    (hserves : (s.chan ch).isolated = 0) (hfree : (s.chan ch).busy = none) (hselected : target ∉ (s.chan ch).deselected)
    (hdue : Table.getD (s.chan ch).zqRound target 0 + 4096 ≤ s.obs.rounds) (passed : Bool) : execZqCalShort ch target passed s = .next
      (if passed ∨ ((s.zqDone ch target passed).chan ch).zqFails < 2 then s.zqDone ch target passed else (s.zqDone ch target passed).isolateChannel ch 1).settle := by
  have hany : ((List.range 4).any fun l => s.img.populated (32 * ch + 4 * target + l)) = true := List.any_eq_true.mpr ⟨l, List.mem_range.mpr hl, hfitted⟩
  rw [execZqCalShort]
  exact if_pos ⟨hch, htarget, hany, hserves, by simp [hfree], by simpa using hselected, hdue⟩

theorem execZqCalShort_of_not_due {s : State} {ch target : Nat} (h : s.obs.rounds < Table.getD (s.chan ch).zqRound target 0 + 4096) (passed : Bool) :
    execZqCalShort ch target passed s = .next s := by
  rw [execZqCalShort]
  exact if_neg fun ⟨_, _, _, _, _, _, hdue⟩ => by omega

/-! ### The obligation -/

/-- Settles O13: a read starts by a dispatch that comes to it alone, a program by the page that completes it; the other steps end or hold what their die has in progress. -/
theorem dieOperationsRunTheirCourse : Obligations.DieOperationsRunTheirCourse := by
  unfold Obligations.DieOperationsRunTheirCourse
  refine ⟨?entry, fun _ _ h => execHrqEntry_of_empty h, ?latency, fun _ _ h => execSuspendLatencyDone_of_not h, ?sensed, fun _ _ _ h => execArrayReadDone_of_sensed h,
    ?frame, fun _ _ _ h => execFrameDataOutDone_of_not h, ?page, fun _ _ h => execDataInPageDone_of_not h, ?poll, fun _ _ _ _ _ h => execStatusPoll_of_taken h _ _ _,
    fun _ _ _ hop hstate => ⟨_, execOperationTimeout_of_running hop hstate, rfl⟩,
    fun _ _ h => ⟨execOperationTimeout_of_idle h, fun _ _ _ => execStatusPoll_of_idle h _ _ _⟩,
    fun _ _ h => ⟨⟨_, execResetLunDone_of_resetting h true, rfl⟩, ⟨_, execResetLunDone_of_resetting h false, rfl⟩⟩, fun _ _ _ h => execResetLunDone_of_not h _,
    ?zq, fun _ _ _ _ h => execZqCalShort_of_not_due h _⟩
  case entry =>
    intro s die r rest hlist hcap hroom hserves
    exact ⟨_, execHrqEntry_of_room hlist hcap hroom hserves, rfl, fun hop hreset hhrq hirq hreads _ hloaded hpage hdump hslot hfault =>
      State.hrqTaken_starts hserves hop hreset hhrq hirq hreads hloaded hpage hdump hslot hfault⟩
  case latency =>
    intro s die o hop hlatency
    exact ⟨_, execSuspendLatencyDone_of_latent hop hlatency, rfl, fun r hhrq hirq hreads hloaded hreset hstate hpage hserves hdump hslot hfault =>
      State.suspended_starts hhrq hirq hreads hloaded hreset hstate hpage hserves hdump hslot hfault⟩
  case sensed =>
    intro s die id run hfind
    refine ⟨_, execArrayReadDone_of_sensing hfind, s.sensed_die die id run, rfl, fun hhost => ?_, fun hinternal => ?_⟩
    · exact (State.setChan_chan _ _ _).trans (if_pos hhost)
    · exact (State.setChan_chan _ _ _).trans (if_neg hinternal)
  case frame =>
    intro s die id run hbusy hfind
    have hid : run.req.id = id := by simpa using List.find?_some hfind
    obtain ⟨t, ht, hdie⟩ := State.dataOut_die hfind
    refine ⟨_, execFrameDataOutDone_of_moving hbusy, fun hmore => ?_, fun hlast hhrq hirq => ?_⟩
    · rw [hdie, State.frameOut_of_more hmore, ht, hid]
      exact ⟨_, find?_map_moved hfind, rfl⟩
    · rw [hdie, State.frameOut_of_last hlast (by rw [ht]; exact hhrq) (by rw [ht]; exact hirq), ht, hid]
  case page =>
    intro s die hbusy hhrq
    refine ⟨_, execDataInPageDone_of_moving hbusy, fun w rest hreads hop hwkq hw => ?_, fun hop hirq => ?_⟩ <;> rw [State.pumpChannel_die]
    · have htakes : (s.die die).TakesPages w rest := ⟨hhrq, hreads, hop, hwkq, hw⟩
      refine ⟨State.pageIn_waits htakes, fun hsome hpages hserves hdump hreset hslot hfiller hfault => ?_⟩
      obtain ⟨hbegun, hloaded⟩ := State.pageIn_starts htakes hsome hpages hserves hdump hreset hslot hfiller hfault
      exact ⟨_, hbegun, rfl, rfl, hloaded⟩
    · exact State.pageIn_keeps_loaded hhrq hirq hop
  case poll =>
    intro s die o fails wp hop hstate hfits
    exact ⟨_, execStatusPoll_of_running hop hstate hfits true fails wp, execStatusPoll_of_running hop hstate hfits false fails wp, rfl⟩
  case zq =>
    intro s ch target passed l hch htarget hl hfitted hserves hfree hselected hdue
    have hchan := s.zqDone_chan ch htarget passed
    refine ⟨_, execZqCalShort_of_due hch htarget hl hfitted hserves hfree hselected hdue passed, fun hfine => ?_, fun hfailed hagain => ?_⟩
    · have hstays : passed = true ∨ ((s.zqDone ch target passed).chan ch).zqFails < 2 := hfine.imp id fun hnone => by
        rw [hchan]
        dsimp only
        split <;> omega
      rw [if_pos hstays, hchan]
    · subst hfailed
      refine ⟨s.zqDone ch target false, if_neg ?_, hchan⟩
      rw [hchan]
      simpa using Nat.one_le_iff_ne_zero.mp hagain

end Sys2Proof.Machine
end

section
/-! The frame code and the scrambler (O15): 05_frames_and_ldpc R103, R104, R108. -/
namespace Sys2Proof.Machine

/-! ### Blocks of a bit string -/

theorem codeBlock_lt (x j : Nat) : codeBlock x j < 2 ^ 128 := Nat.mod_lt _ (Nat.two_pow_pos _)

/-- Below bit 128 m, a bit string reads as what stands there. -/
theorem codeBlock_add_mul_low (x y : Nat) {m j : Nat} (h : j < m) : codeBlock (x + y * 2 ^ (128 * m)) j = codeBlock x j := by
  obtain ⟨n, rfl⟩ := Nat.exists_eq_add_of_lt h
  have hpow : 2 ^ (128 * (j + n + 1)) = 2 ^ (128 * j) * (2 ^ 128 * 2 ^ (128 * n)) := by rw [← pow_add, ← pow_add]; congr 1; omega
  rw [codeBlock, codeBlock, bitField, bitField, hpow, Nat.mul_left_comm, Nat.add_mul_div_left _ _ (Nat.two_pow_pos _), Nat.mul_left_comm, Nat.add_mul_mod_self_left]

/-- From bit 128 m on, a bit string reads as what was put there. -/
theorem codeBlock_add_mul_high {x m : Nat} (h : x < 2 ^ (128 * m)) (y j : Nat) : codeBlock (x + y * 2 ^ (128 * m)) (m + j) = codeBlock y j := by
  rw [codeBlock, codeBlock, bitField, bitField, Nat.mul_add, pow_add, ← Nat.div_div_eq_div_mul, Nat.add_mul_div_right _ _ (Nat.two_pow_pos _), Nat.div_eq_of_lt h, Nat.zero_add]

theorem add_mul_two_pow_lt {x y m n : Nat} (hx : x < 2 ^ m) (hy : y < 2 ^ n) : x + y * 2 ^ m < 2 ^ (m + n) :=
  calc x + y * 2 ^ m < (y + 1) * 2 ^ m := by rw [Nat.succ_mul]; omega
    _ ≤ 2 ^ n * 2 ^ m := Nat.mul_le_mul_right _ hy
    _ = 2 ^ (m + n) := by rw [← pow_add, Nat.add_comm]

/-! ### Shifted blocks and row sums -/

@[simp] theorem shiftBlock_zero (x : Nat) : shiftBlock 0 x = x := by simp [shiftBlock, Nat.mod_one]

/-- A shift keeps a block within its 128 bits. -/
theorem shiftBlock_lt {k x : Nat} (hk : k < 128) (hx : x < 2 ^ 128) : shiftBlock k x < 2 ^ 128 := by
  obtain ⟨n, hn⟩ := Nat.exists_eq_add_of_lt hk
  have hsplit : 2 ^ 128 = 2 ^ (128 - k) * 2 ^ k := by rw [← pow_add]; congr 1; omega
  have hlow : x / 2 ^ k < 2 ^ (128 - k) := Nat.div_lt_of_lt_mul (by rwa [Nat.mul_comm, ← hsplit])
  have hall := add_mul_two_pow_lt hlow (Nat.mod_lt x (Nat.two_pow_pos k))
  rwa [Nat.sub_add_cancel hk.le] at hall

theorem baseShift_lt (i j : Nat) : baseShift i j < 128 := Nat.mod_lt _ (by decide)

theorem rowSum_lt (info i : Nat) : rowSum info i < 2 ^ 128 := by
  refine List.foldlRecOn (motive := fun s => s < 2 ^ 128) _ _ (Nat.two_pow_pos _) fun s hs j _ => ?_
  split
  · exact Nat.xor_lt_two_pow hs (shiftBlock_lt (baseShift_lt i j) (codeBlock_lt info j))
  · exact hs

/-! ### Parity blocks -/

/-- p_(t-1), and 0 for t = 0: the parity block that stands before block t. -/
def parityBefore (info t : Nat) : Nat := (parityBlocks info t).2

@[simp] theorem parityBefore_zero (info : Nat) : parityBefore info 0 = 0 := rfl
theorem parityBefore_succ (info t : Nat) : parityBefore info (t + 1) = rowSum info t ^^^ parityBefore info t := rfl
theorem parityBlocks_succ (info t : Nat) : (parityBlocks info (t + 1)).1 = (parityBlocks info t).1 + parityBefore info (t + 1) * 2 ^ (128 * t) := rfl

theorem parityBefore_lt (info t : Nat) : parityBefore info t < 2 ^ 128 := by
  induction t with
  | zero => exact Nat.two_pow_pos _
  | succ t ih => exact Nat.xor_lt_two_pow (rowSum_lt info t) ih

theorem parityBlocks_lt (info n : Nat) : (parityBlocks info n).1 < 2 ^ (128 * n) := by
  induction n with
  | zero => exact Nat.two_pow_pos _
  | succ n ih => exact add_mul_two_pow_lt ih (parityBefore_lt info (n + 1))

theorem codeBlock_parityBlocks (info : Nat) {n t : Nat} (h : t < n) : codeBlock (parityBlocks info n).1 t = parityBefore info (t + 1) := by
  induction n with
  | zero => omega
  | succ n ih =>
    rw [parityBlocks_succ]
    rcases Nat.lt_succ_iff_lt_or_eq.mp h with hlt | rfl
    · rw [codeBlock_add_mul_low _ _ hlt, ih hlt]
    · have hfirst : codeBlock (parityBefore info (t + 1)) 0 = parityBefore info (t + 1) := by
        rw [codeBlock, bitField, Nat.mul_zero, Nat.pow_zero, Nat.div_one, Nat.mod_eq_of_lt (parityBefore_lt info _)]
      exact (codeBlock_add_mul_high (parityBlocks_lt info t) _ 0).trans hfirst

/-! ### The codeword -/

theorem infoBits_eq : infoBits = 128 * infoColumns := rfl
theorem codeBits_eq : codeBits = infoBits + 128 * baseRows := rfl

section
variable {info : Nat} (h : info < 2 ^ infoBits)
include h

theorem encode_eq : encode info = info + (parityBlocks info baseRows).1 * 2 ^ infoBits := by rw [encode, Nat.mod_eq_of_lt h]

theorem encode_lt : encode info < 2 ^ codeBits := by
  rw [encode_eq h, codeBits_eq]
  exact add_mul_two_pow_lt h (parityBlocks_lt info baseRows)

theorem encode_mod : encode info % 2 ^ infoBits = info := by
  rw [encode_eq h, Nat.add_mul_mod_self_right, Nat.mod_eq_of_lt h]

theorem codeBlock_encode_info {j : Nat} (hj : j < infoColumns) : codeBlock (encode info) j = codeBlock info j := by
  rw [encode_eq h, infoBits_eq, codeBlock_add_mul_low _ _ hj]

theorem codeBlock_encode_parity {t : Nat} (ht : t < baseRows) : codeBlock (encode info) (infoColumns + t) = parityBefore info (t + 1) := by
  have hlow : info < 2 ^ (128 * infoColumns) := by rwa [← infoBits_eq]
  rw [encode_eq h, infoBits_eq, codeBlock_add_mul_high hlow, codeBlock_parityBlocks info ht]

end

/-! ### The parity-check matrix -/

/-- A parity column has its diagonal entry and the one below it. -/
theorem baseEntry_parity (i t : Nat) : baseEntry i (infoColumns + t) = (decide (t = i) || decide (t + 1 = i)) := by
  simp [baseEntry]

/-- What the first n parity columns add to row i: block i - 1 once it is among them, and block i once it is too. -/
theorem parityColumns_sum (q : Nat → Nat) (hq : q 0 = 0) (i a n : Nat) :
    (List.range n).foldl (fun s t => if t = i ∨ t + 1 = i then s ^^^ q (t + 1) else s) a = if n < i then a else if n = i then a ^^^ q i else a ^^^ q i ^^^ q (i + 1) := by
  induction n with
  | zero =>
    rcases Nat.eq_zero_or_pos i with rfl | hi
    · simp [hq]
    · simp [hi]
  | succ n ih =>
    rw [List.range_succ, List.foldl_append, ih, List.foldl_cons, List.foldl_nil]
    rcases lt_trichotomy (n + 1) i with hlt | heq | hgt
    · rw [if_neg (by omega), if_pos (by omega), if_pos hlt]
    · subst heq
      simp
    · rcases Nat.lt_succ_iff_lt_or_eq.mp hgt with hlt | rfl
      · rw [if_neg (by omega), if_neg (by omega), if_neg (by omega), if_neg (by omega), if_neg (by omega)]
      · simp

/-- The information columns of row i add S_i, as they do in the encoder. -/
theorem infoColumns_sum {info : Nat} (h : info < 2 ^ infoBits) (i : Nat) :
    (List.range infoColumns).foldl (fun s j => if baseEntry i j then s ^^^ shiftBlock (if j < infoColumns then baseShift i j else 0) (codeBlock (encode info) j) else s) 0 =
      rowSum info i := by
  refine List.foldl_ext _ _ _ fun s j hj => ?_
  have hj : j < infoColumns := List.mem_range.mp hj
  rw [if_pos hj, codeBlock_encode_info h hj]

/-- R108: every row's product with a codeword is 0. Row i sums to S_i, p_(i-1) and p_i, and p_i is S_i with p_(i-1). -/
theorem syndrome_encode {info : Nat} (h : info < 2 ^ infoBits) {i : Nat} (hi : i < baseRows) : syndrome (encode info) i = 0 := by
  have hparity : (List.range baseRows).foldl (fun s t => if baseEntry i (infoColumns + t) then
        s ^^^ shiftBlock (if infoColumns + t < infoColumns then baseShift i (infoColumns + t) else 0) (codeBlock (encode info) (infoColumns + t)) else s) (rowSum info i) =
      (List.range baseRows).foldl (fun s t => if t = i ∨ t + 1 = i then s ^^^ parityBefore info (t + 1) else s) (rowSum info i) := by
    refine List.foldl_ext _ _ _ fun s t ht => ?_
    rw [codeBlock_encode_parity h (List.mem_range.mp ht), baseEntry_parity, if_neg (by omega : ¬ infoColumns + t < infoColumns), shiftBlock_zero]
    simp
  have hcolumns : (293 : Nat) = infoColumns + baseRows := rfl
  rw [syndrome, hcolumns, List.range_add, List.foldl_append, infoColumns_sum h, List.foldl_map, hparity, parityColumns_sum _ (parityBefore_zero info),
    if_neg (by omega), if_neg (by omega), parityBefore_succ, Nat.xor_self]

/-- The four entries of an information column stand in different rows: their distances are at most 18 rows of 25. -/
theorem infoRow_injective (j : Nat) {m n : Nat} (hm : m < 4) (hn : n < 4) (h : infoRow j m = infoRow j n) : m = n := by
  unfold infoRow at h
  have hstep : j % 6 < 6 := Nat.mod_lt _ (by decide)
  interval_cases j % 6 <;> omega

theorem baseEntry_info {i j : Nat} (hj : j < infoColumns) : baseEntry i j = true ↔ i ∈ (List.range 4).map (infoRow j) := by
  simp [baseEntry, hj]

/-- R108: an information column of the base matrix has four entries. -/
theorem baseEntry_count {j : Nat} (hj : j < infoColumns) : ((List.range baseRows).filter fun i => baseEntry i j).length = 4 := by
  have hrows : ((List.range 4).map (infoRow j)).Nodup :=
    List.Nodup.map_on (fun _ hm _ hn => infoRow_injective j (List.mem_range.mp hm) (List.mem_range.mp hn)) List.nodup_range
  have hperm : ((List.range baseRows).filter fun i => baseEntry i j).Perm ((List.range 4).map (infoRow j)) := by
    refine (List.perm_ext_iff_of_nodup (List.nodup_range.filter _) hrows).mpr fun i => ?_
    rw [List.mem_filter, baseEntry_info hj, and_iff_right_iff_imp, List.mem_map]
    rintro ⟨m, -, rfl⟩
    exact List.mem_range.mpr (Nat.mod_lt _ (by decide))
  rw [hperm.length_eq, List.length_map, List.length_range]

/-! ### Scrambling (R104) -/

theorem scramble_scramble (seed word : Nat) : scramble seed (scramble seed word) = word := Nat.xor_xor_cancel_right _ _

/-- A seed is a state of the 31-bit register other than 0. -/
theorem ImgState.seedOf_range (i : ImgState) (gran : Nat) : 0 < i.seedOf gran ∧ i.seedOf gran < 2 ^ 31 := by
  unfold ImgState.seedOf
  dsimp only
  split
  · exact ⟨Nat.one_pos, by decide⟩
  · next h => exact ⟨Nat.pos_of_ne_zero h, Nat.mod_lt _ (Nat.two_pow_pos _)⟩

end Sys2Proof.Machine
end

section
/-! The sequences on the CA pins, granule descriptors and the places of dump frames (O15): 04_awls R86 to R92, 05_frames_and_ldpc R105, 09_dump R222. -/
namespace Sys2Proof.Machine

/-! ### Lengths of sequences (R86, R89 to R92) -/

@[simp] theorem columnCa_length (column : Nat) : (columnCa column).length = 2 := rfl
@[simp] theorem ImgState.rowCa_length (i : ImgState) (row : Nat) : (i.rowCa row).length = max 3 i.rowCycles := by simp [ImgState.rowCa]
@[simp] theorem ImgState.lunCa_length (i : ImgState) (die : Nat) : (i.lunCa die).length = max 3 i.rowCycles := i.rowCa_length _

theorem ImgState.fcCa_length_le (i : ImgState) (fc : Bool) : (i.fcCa fc).length ≤ 1 := by cases fc <;> simp [ImgState.fcCa]

/-- An offset row takes its command and 2^BITS_PER_CELL - 1 bytes. -/
theorem ImgState.offsetCa_length_le (i : ImgState) (row : List Int) : (i.offsetCa row).length ≤ 2 ^ i.bitsPerCell := by
  have hpos : 0 < 2 ^ i.bitsPerCell := Nat.two_pow_pos _
  unfold ImgState.offsetCa
  dsimp only
  split
  · exact Nat.zero_le _
  · rw [List.length_cons, List.length_map, List.length_map, List.length_range]
    omega

/-- The parts whose sequences fit the sequencer: at most 4 bits a cell and 4 row cycles (R84). -/
structure ImgState.FitsPins (i : ImgState) : Prop where
  cells : i.bitsPerCell ≤ 4
  rows : i.rowCycles ≤ 4

namespace ImgState.FitsPins
variable {i : ImgState} (h : i.FitsPins)
include h

/-- A read takes the most: fast-cell command 1, offset row 16, 00h, column 2, row 4 and 30h. -/
theorem readCa_length_le (fc : Bool) (row : List Int) (gran : Nat) : (i.readCa fc row gran).length ≤ 25 := by
  have hfc := i.fcCa_length_le fc
  have hbytes : 2 ^ i.bitsPerCell ≤ 16 := Nat.pow_le_pow_right (by decide) h.cells
  have hoffset := (i.offsetCa_length_le row).trans hbytes
  have hrows := h.rows
  simp only [ImgState.readCa, List.length_append, List.length_singleton, columnCa_length, ImgState.rowCa_length]
  omega

theorem outCa_length_le (gran : Nat) : (i.outCa gran).length ≤ 25 := by
  have hrows := h.rows
  simp only [ImgState.outCa, List.length_append, List.length_singleton, columnCa_length, ImgState.rowCa_length]
  omega

theorem programCa_confirm_length_le (fc : Bool) (blk wl j : Nat) : (i.programCa fc blk wl j ++ confirmCa).length ≤ 25 := by
  have hrows := h.rows
  unfold ImgState.programCa
  extract_lets type plane opening close
  have hopening : opening.length ≤ 1 := by unfold opening; split_ifs <;> simp
  have hclose : close.length ≤ 1 := by unfold close; split_ifs <;> simp
  simp only [confirmCa, List.length_append, List.length_singleton, columnCa_length, ImgState.rowCa_length]
  omega

theorem eraseCa_length_le (fc : Bool) (blk plane : Nat) : (i.eraseCa fc blk plane).length ≤ 25 := by
  have hfc := i.fcCa_length_le fc
  have hrows := h.rows
  simp only [ImgState.eraseCa, List.length_append, List.length_singleton, ImgState.rowCa_length]
  omega

/-- Sequences that name a LUN: one command and its row cycles. -/
theorem lunCa_length_le (c : CaCycle) (die : Nat) : (c :: i.lunCa die).length ≤ 25 := by
  have hrows := h.rows
  rw [List.length_cons, ImgState.lunCa_length]
  omega

end ImgState.FitsPins

/-! ### The order of the pins (R88) -/

/-- The first host-read sequence that waits for the die whose turn is k places on. -/
def Channel.hostTurn (x : Channel) (k : Nat) : Option CaSeq := x.caWait.find? fun q => q.hostRead && decide (q.die % 32 = (x.caTurn + 1 + k) % 32)

theorem Channel.nextCa_eq (x : Channel) : x.nextCa = (((List.range 32).findSome? x.hostTurn).or x.caWait.head?) := by
  unfold Channel.nextCa
  change (match (List.range 32).findSome? x.hostTurn with | some q => some q | none => x.caWait.head?) = _
  cases (List.range 32).findSome? x.hostTurn <;> rfl

theorem Channel.mem_of_hostTurn {x : Channel} {k : Nat} {q : CaSeq} (h : x.hostTurn k = some q) : q ∈ x.caWait ∧ q.hostRead = true :=
  ⟨List.mem_of_find?_eq_some h, (Bool.and_eq_true _ _ ▸ List.find?_some h).1⟩

/-- Every die of the channel has its turn among the 32: where no turn finds a sequence, no host read waits. -/
theorem Channel.no_hostRead_of_turns {x : Channel} (h : (List.range 32).findSome? x.hostTurn = none) {r : CaSeq} (hr : r ∈ x.caWait) : r.hostRead = false := by
  have hturn : x.hostTurn ((r.die % 32 + 31 * (x.caTurn + 1)) % 32) = none := List.findSome?_eq_none_iff.mp h _ (List.mem_range.mpr (Nat.mod_lt _ (by decide)))
  have hnot := List.find?_eq_none.mp hturn r hr
  have hdie : r.die % 32 = (x.caTurn + 1 + (r.die % 32 + 31 * (x.caTurn + 1)) % 32) % 32 := by omega
  rw [← hdie] at hnot
  simpa using hnot

theorem Channel.nextCa_order {x : Channel} {sq : CaSeq} (h : x.nextCa = some sq) :
    sq ∈ x.caWait ∧ (sq.hostRead = false → (∀ r ∈ x.caWait, r.hostRead = false) ∧ x.caWait.head? = some sq) := by
  rw [Channel.nextCa_eq] at h
  cases hturns : (List.range 32).findSome? x.hostTurn with
  | some q =>
    rw [hturns, Option.some_or, Option.some_inj] at h
    subst h
    obtain ⟨k, -, hk⟩ := List.exists_of_findSome?_eq_some hturns
    obtain ⟨hmem, hhost⟩ := Channel.mem_of_hostTurn hk
    exact ⟨hmem, fun hnot => by simp [hhost] at hnot⟩
  | none =>
    rw [hturns, Option.none_or] at h
    exact ⟨List.mem_of_head? h, fun _ => ⟨fun _ => Channel.no_hostRead_of_turns hturns, h⟩⟩

theorem Channel.nextCa_isSome {x : Channel} (h : x.caWait ≠ []) : x.nextCa.isSome := by
  obtain ⟨q, rest, hwait⟩ := List.exists_cons_of_ne_nil h
  simp [Channel.nextCa_eq, hwait]

/-! ### Granule descriptors (R105) -/

/-- The 24 bytes of a descriptor with its reserved bits [175:171] as a field of their own, which is 0. -/
def GranDesc.fields (d : GranDesc) : List Field :=
  [fld 0 10 d.nsx, fld 10 38 d.lba, fld 48 48 d.dseq, fld 96 64 d.tag, fld 160 4 d.glen, fld 164 3 d.pos, fld 167 1 (bit d.raw),
    fld 168 3 d.kind, fld 171 5 0, fld 176 13 d.slot, fld 189 1 (bit d.kgen)]

theorem GranDesc.pack_eq (d : GranDesc) : d.pack = packFields d.fields := by simp [GranDesc.pack, GranDesc.fields, packFields, fld]
theorem GranDesc.fields_ascending (d : GranDesc) : Ascending 0 d.fields := by simp [GranDesc.fields, Ascending, fld]

theorem GranDesc.bitField_pack (d : GranDesc) {lo width value : Nat} (h : fld lo width value ∈ d.fields) : bitField d.pack lo width = value % 2 ^ width := by
  rw [d.pack_eq]
  exact bitField_packFields d.fields_ascending h

/-- Fields that end at or below bit `hi` make a number of `hi` bits. -/
theorem packFields_lt {hi lo : Nat} {fs : List Field} (h : Ascending lo fs) (hhi : ∀ f ∈ fs, f.lo + f.width ≤ hi) : packFields fs < 2 ^ hi := by
  induction fs generalizing lo with
  | nil => exact Nat.two_pow_pos _
  | cons f fs ih =>
    obtain ⟨-, hrest⟩ := h
    obtain ⟨hhead, htail⟩ := List.forall_mem_cons.mp hhi
    obtain ⟨n, rfl⟩ := Nat.exists_eq_add_of_le hhead
    obtain ⟨k, hk⟩ := hrest.pow_dvd
    have hvalue : 0 + f.value % 2 ^ f.width * 2 ^ f.lo < 2 ^ (f.lo + f.width) := add_mul_two_pow_lt (Nat.two_pow_pos _) (Nat.mod_lt _ (Nat.two_pow_pos _))
    have hk_lt : k < 2 ^ n := Nat.lt_of_mul_lt_mul_left (a := 2 ^ (f.lo + f.width)) (by rw [← hk, ← pow_add]; exact ih hrest htail)
    rw [Nat.zero_add] at hvalue
    rw [packFields, hk, Nat.mul_comm _ k]
    exact add_mul_two_pow_lt hvalue hk_lt

theorem bit_mod (b : Bool) : bit b % 2 ^ 1 = bit b := by cases b <;> rfl
theorem decide_bit_eq_one (b : Bool) : decide (bit b = 1) = b := by cases b <;> rfl

/-- The values of a descriptor fit their fields. -/
structure GranDesc.Fits (d : GranDesc) : Prop where
  nsx : d.nsx < 2 ^ 10
  lba : d.lba < 2 ^ 38
  dseq : d.dseq < 2 ^ 48
  tag : d.tag < 2 ^ 64
  glen : d.glen < 2 ^ 4
  pos : d.pos < 2 ^ 3
  kind : d.kind < 2 ^ 3
  slot : d.slot < 2 ^ 13

theorem GranDesc.ofBits_pack {d : GranDesc} (h : d.Fits) : GranDesc.ofBits d.pack = d := by
  have hread : ∀ {lo width value : Nat}, fld lo width value ∈ d.fields → value < 2 ^ width → bitField d.pack lo width = value :=
    fun hmem hfits => (d.bitField_pack hmem).trans (Nat.mod_eq_of_lt hfits)
  have hraw := (d.bitField_pack (lo := 167) (width := 1) (value := bit d.raw) (by simp [GranDesc.fields])).trans (bit_mod _)
  have hkgen := (d.bitField_pack (lo := 189) (width := 1) (value := bit d.kgen) (by simp [GranDesc.fields])).trans (bit_mod _)
  rw [GranDesc.ofBits, hread _ h.nsx, hread _ h.lba, hread _ h.dseq, hread _ h.tag, hread _ h.glen, hread _ h.pos, hread _ h.kind, hread _ h.slot, hraw, hkgen,
    decide_bit_eq_one, decide_bit_eq_one]
  all_goals simp [GranDesc.fields]

theorem GranDesc.pack_lt (d : GranDesc) : d.pack < 2 ^ 190 := by
  rw [d.pack_eq]
  exact packFields_lt d.fields_ascending (by simp [GranDesc.fields, fld])

theorem GranDesc.pack_reserved (d : GranDesc) : bitField d.pack 171 5 = 0 := d.bitField_pack (value := 0) (by simp [GranDesc.fields])

/-! ### The place of a dump frame (R222) -/

section
variable {wd fpu : Nat}

theorem dumpSpot_mem_lt (hwd : 0 < wd) (hfpu : 0 < fpu) (k : Nat) : (dumpSpot wd fpu k).mem < wd :=
  Nat.div_lt_of_lt_mul (Nat.mul_comm wd fpu ▸ Nat.mod_lt _ (Nat.mul_pos hwd hfpu))

/-- Plane and frame in page count the frames of a unit, four to a page. -/
theorem dumpSpot_plane_frame (hfour : fpu % 4 = 0) (k : Nat) : 4 * (dumpSpot wd fpu k).plane + (dumpSpot wd fpu k).frame = k % (wd * fpu) % fpu := by
  have hplane : (dumpSpot wd fpu k).plane = k % (wd * fpu) % fpu / 4 := rfl
  have hframe : (dumpSpot wd fpu k).frame = k % (wd * fpu) % fpu % 4 := (Nat.mod_mod_of_dvd _ (Nat.dvd_of_mod_eq_zero hfour)).symm
  omega

theorem dumpSpot_index (hfour : fpu % 4 = 0) (k : Nat) : (dumpSpot wd fpu k).index wd fpu = k := by
  have hunit := dumpSpot_plane_frame (wd := wd) hfour k
  have hmem : (dumpSpot wd fpu k).mem * fpu + k % (wd * fpu) % fpu = k % (wd * fpu) := Nat.div_add_mod' _ _
  have hgirth : (dumpSpot wd fpu k).girth * (wd * fpu) + k % (wd * fpu) = k := Nat.div_add_mod' _ _
  unfold DumpSpot.index
  omega

end

/-! ### The obligation -/

/-- Settles O15: sequences by their parts, the next sequence by the turns of the dies, descriptors field by field, the code row by row, and a dump frame's place by division. -/
theorem flashBytesFollowTheirLayouts : Obligations.FlashBytesFollowTheirLayouts := by
  unfold Obligations.FlashBytesFollowTheirLayouts
  refine ⟨?sequences, fun _ _ => Channel.nextCa_order, fun _ => Channel.nextCa_isSome, ?descriptors, fun _ h => ⟨encode_lt h, encode_mod h, fun _ => syndrome_encode h⟩,
    fun _ => baseEntry_count, scramble_scramble, ImgState.seedOf_range, ?places⟩
  case sequences =>
    intro i hcells hrows
    have h : i.FitsPins := ⟨hcells, hrows⟩
    exact ⟨h.readCa_length_le, h.outCa_length_le, h.programCa_confirm_length_le, h.eraseCa_length_le,
      fun _ die => ⟨h.lunCa_length_le _ die, h.lunCa_length_le _ die, h.lunCa_length_le _ die, h.lunCa_length_le _ die⟩⟩
  case descriptors =>
    intro d hnsx hlba hdseq htag hglen hpos hkind hslot
    exact ⟨GranDesc.ofBits_pack ⟨hnsx, hlba, hdseq, htag, hglen, hpos, hkind, hslot⟩, d.pack_lt, d.pack_reserved⟩
  case places =>
    rintro wd fpu k x hwd hfpu hfour rfl
    refine ⟨dumpSpot_index hfour k, dumpSpot_mem_lt hwd hfpu k, ?_, Nat.mod_lt _ (by decide)⟩
    rw [dumpSpot_plane_frame hfour]
    exact Nat.mod_lt _ hfpu

end Sys2Proof.Machine
end

section
/-! A channel's start-up and its training at lower rates (O5): 04_awls R80, R81, R97, R98, 16_thermal_and_power R389. -/
namespace Sys2Proof.Machine

/-! ### What the steps of a channel's start-up leave -/

/-- From s to t channel c has worked on its start-up: its rate and its service stand as they were, and so do the other channels, the dies and the tree store. -/
structure State.StartUpKeeps (c : Nat) (s t : State) : Prop where
  rate : (t.chan c).rate = (s.chan c).rate
  isolated : (t.chan c).isolated = (s.chan c).isolated
  others : ∀ k, k ≠ c → t.chan k = s.chan k
  dies : t.awl.dies = s.awl.dies
  ts : t.ts = s.ts

namespace State.StartUpKeeps
variable {c : Nat} {s t u : State}

theorem refl (s : State) : StartUpKeeps c s s := ⟨rfl, rfl, fun _ _ => rfl, rfl, rfl⟩

theorem trans (h : StartUpKeeps c s t) (h' : StartUpKeeps c t u) : StartUpKeeps c s u :=
  ⟨h'.rate.trans h.rate, h'.isolated.trans h.isolated, fun k hk => (h'.others k hk).trans (h.others k hk), h'.dies.trans h.dies, h'.ts.trans h.ts⟩

theorem foldl {α : Type} {g : State → α → State} {l : List α} (h : ∀ s, ∀ a ∈ l, StartUpKeeps c s (g s a)) (s : State) : StartUpKeeps c s (l.foldl g s) := by
  induction l generalizing s with
  | nil => exact refl s
  | cons a l ih => exact (h s a List.mem_cons_self).trans (ih (fun s b hb => h s b (List.mem_cons_of_mem _ hb)) (g s a))

theorem modChan {f : Channel → Channel} (hrate : (f (s.chan c)).rate = (s.chan c).rate) (hisolated : (f (s.chan c)).isolated = (s.chan c).isolated) :
    StartUpKeeps c s (s.modChan c f) :=
  ⟨by rwa [State.modChan_chan], by rwa [State.modChan_chan], fun k hk => State.modChan_chan_ne s c k f hk, rfl, rfl⟩

end State.StartUpKeeps

/-! ### Sequences to the targets -/

/-- The steps of R81 send their sequences to targets of the channel itself. -/
theorem chOfDie_target {c t : Nat} (h : t < 8) : chOfDie (32 * c + 4 * t) = c := by
  unfold chOfDie
  omega

theorem State.lt_of_mem_targetsOfChan {s : State} {c t : Nat} (h : t ∈ s.targetsOfChan c) : t < 8 := List.mem_range.mp (List.mem_filter.mp h).1

/-- A step's sequences for target t of channel c are formed. -/
def State.startupSends (c k : Nat) (s : State) (t : Nat) : State := (s.img.startupCa k (32 * c + 4 * t)).foldl (fun s q => s.ca (32 * c + 4 * t) false q) s

theorem State.startupSends_keeps (c k : Nat) (s : State) {t : Nat} (h : t < 8) : StartUpKeeps c s (State.startupSends c k s t) := by
  refine StartUpKeeps.foldl (fun s q _ => ?_) s
  rw [State.ca, chOfDie_target h]
  exact StartUpKeeps.modChan rfl rfl

/-- A sequence moves no channel to another step. -/
theorem State.ca_step (s : State) (d : Nat) (host : Bool) (cycles : List CaCycle) (c : Nat) : ((s.ca d host cycles).chan c).step = (s.chan c).step := by
  by_cases hc : c = chOfDie d
  · subst hc
    rw [State.ca, State.modChan_chan]
  · rw [State.ca, State.modChan_chan_ne _ _ _ _ hc]

theorem State.startupSends_step (c k : Nat) (s : State) (t : Nat) : ((State.startupSends c k s t).chan c).step = (s.chan c).step :=
  fold_left (fun s => (s.chan c).step) _ (fun s q => s.ca_step _ _ q c) _ s

/-! ### Steps of R81 before its end -/

/-- A step before the end begins: the channel is at it, and its targets, where the channel serves, are sent its sequences. -/
theorem State.beginStep_of_ne {k : Nat} (h : k ≠ 7) (s : State) (c : Nat) : s.beginStep c k = if (s.chan c).isolated ≠ 0 then s.modChan c fun x => { x with step := k }
    else (s.targetsOfChan c).foldl (State.startupSends c k)
      (s.modChan c fun x => { x with step := k, ceHigh := false, lpddr4 := decide (5 ≤ k), odt := decide (5 ≤ k), wpHigh := decide (k = 7) }) := by
  rw [State.beginStep, if_neg h]
  rfl

theorem State.beginStep_keeps {k : Nat} (h : k ≠ 7) (s : State) (c : Nat) : StartUpKeeps c s (s.beginStep c k) := by
  rw [State.beginStep_of_ne h]
  split
  · exact StartUpKeeps.modChan rfl rfl
  · exact (StartUpKeeps.modChan rfl rfl).trans (StartUpKeeps.foldl (fun u t ht => u.startupSends_keeps c k (State.lt_of_mem_targetsOfChan ht)) _)

theorem State.beginStep_step {k : Nat} (h : k ≠ 7) (s : State) (c : Nat) : ((s.beginStep c k).chan c).step = k := by
  rw [State.beginStep_of_ne h]
  split
  · rw [State.modChan_chan]
  · exact (fold_left (fun s => (s.chan c).step) _ (fun s t => State.startupSends_step c k s t) _ _).trans (by rw [State.modChan_chan])

/-- The steps that a channel at step n begins on its way to step k. -/
def stepsTo (n k : Nat) : List Nat := (List.range 8).filter fun j => decide (n < j) && decide (j ≤ k)

theorem State.reachStep_eq (s : State) (c k : Nat) : s.reachStep c k = (stepsTo (s.chan c).step k).foldl (fun s j => s.beginStep c j) s := rfl

theorem ne_end_of_mem_stepsTo {n k j : Nat} (hk : k < 7) (h : j ∈ stepsTo n k) : j ≠ 7 := by
  simp [stepsTo] at h
  omega

theorem State.reachStep_keeps {k : Nat} (hk : k < 7) (s : State) (c : Nat) : StartUpKeeps c s (s.reachStep c k) :=
  StartUpKeeps.foldl (fun s _ hj => s.beginStep_keeps (ne_end_of_mem_stepsTo hk hj) c) s

/-- After steps before the end a channel is at the last of them. -/
theorem State.beginSteps_step (c : Nat) {l : List Nat} (h : ∀ j ∈ l, j ≠ 7) (s : State) :
    ((l.foldl (fun s j => s.beginStep c j) s).chan c).step = l.foldl (fun _ j => j) (s.chan c).step := by
  induction l generalizing s with
  | nil => rfl
  | cons j l ih =>
    obtain ⟨hj, hl⟩ := List.forall_mem_cons.mp h
    rw [List.foldl_cons, List.foldl_cons, ih hl, State.beginStep_step hj]

theorem stepsTo_last : ∀ n ≤ 5, (stepsTo n 5).foldl (fun _ j => j) n = 5 := by decide

theorem State.reachStep_training_step {s : State} {c : Nat} (h : (s.chan c).step ≤ 5) : ((s.reachStep c 5).chan c).step = 5 := by
  rw [State.reachStep_eq, State.beginSteps_step c (fun _ => ne_end_of_mem_stepsTo (by decide)) s, stepsTo_last _ h]

/-! ### A lower rate (R80) -/

theorem State.rateReached_of_lower {s : State} {c r : Nat} (h : r < (s.chan c).rate) :
    s.rateReached c r = (s.setChan c { s.chan c with rate := r, ceiling := r }).leave 0x0407 2 [c, r] := if_pos h

theorem State.arrayPump_chan (s : State) (c : Nat) : s.arrayPump.chan c = s.chan c := rfl
/-- Channels stand as the awls do. -/
theorem State.chan_congr {s t : State} (h : t.awl = s.awl) (c : Nat) : t.chan c = s.chan c := by simp only [State.chan, h]

theorem State.leave_awl (s : State) (code sev : Nat) (fields : List Nat) : (s.leave code sev fields).awl = s.awl := by simp

theorem State.rateReached_chan {s : State} {c r : Nat} (h : r < (s.chan c).rate) : (s.rateReached c r).chan c = { s.chan c with rate := r, ceiling := r } := by
  rw [State.rateReached_of_lower h, State.chan_congr (State.leave_awl ..), State.setChan_chan]

theorem State.rateReached_chan_ne {s : State} {c r k : Nat} (h : r < (s.chan c).rate) (hk : k ≠ c) : (s.rateReached c r).chan k = s.chan k := by
  rw [State.rateReached_of_lower h, State.chan_congr (State.leave_awl ..), State.setChan_chan_ne _ _ _ _ hk]

theorem State.rateReached_dies {s : State} {c r : Nat} (h : r < (s.chan c).rate) : (s.rateReached c r).awl.dies = s.awl.dies := by
  rw [State.rateReached_of_lower h, State.leave_awl]
  rfl

theorem Channel.reaches_congr {x y : Channel} (h : x.rate = y.rate) (r : Nat) : x.reaches r = y.reaches r := by simp only [Channel.reaches, h]

/-! ### A step exceeds its bound (R81) -/

/-- A channel that serves and has not gone past step k, in step 7 of the boot order. -/
structure State.InStartUp (s : State) (c k : Nat) : Prop where
  boot : s.ts.bootStep = 7
  channel : c < 32
  step : (s.chan c).step ≤ k
  serves : (s.chan c).isolated = 0

section
variable {s : State} {c : Nat}

theorem execChannelStartupStepTimeout_of_dies {k : Nat} (h : s.InStartUp c k) (hfirst : 2 ≤ k) (hlast : k ≤ 4) (targets : List Nat) (lower : Option Nat) :
    execChannelStartupStepTimeout c k targets lower s = .next ((((s.reachStep c k).diesOfTargets c targets).foldl (fun s d => s.isolateDie d 4) (s.reachStep c k)).reachStep c (k + 1)).arrayPump := by
  rw [execChannelStartupStepTimeout, if_pos ⟨h.boot, h.channel, h.step, h.serves⟩, if_pos ⟨hfirst, hlast⟩]

theorem execChannelStartupStepTimeout_of_rate (h : s.InStartUp c 5) {r : Nat} (hr : 1 ≤ r) (targets : List Nat) :
    execChannelStartupStepTimeout c 5 targets (some r) s = .next ((s.reachStep c 5).rateReached c r).arrayPump := by
  rw [execChannelStartupStepTimeout, if_pos ⟨h.boot, h.channel, h.step, h.serves⟩, if_neg (by decide), if_pos rfl]
  dsimp only
  rw [if_pos hr]

theorem execChannelStartupStepTimeout_of_no_rate (h : s.InStartUp c 5) (targets : List Nat) : execChannelStartupStepTimeout c 5 targets none s =
    .next (((s.reachStep c 5).rateReached c (((s.reachStep c 5).chan c).reaches 1)).failTargets c targets).arrayPump := by
  rw [execChannelStartupStepTimeout, if_pos ⟨h.boot, h.channel, h.step, h.serves⟩, if_neg (by decide), if_pos rfl]

theorem execChannelStartupStepTimeout_of_not {k : Nat} (h : s.ts.bootStep ≠ 7 ∨ 32 ≤ c ∨ k < (s.chan c).step ∨ (s.chan c).isolated ≠ 0 ∨ k < 2 ∨ 5 < k) (targets : List Nat)
    (lower : Option Nat) : execChannelStartupStepTimeout c k targets lower s = .next s := by
  rw [execChannelStartupStepTimeout]
  split
  · next hdue =>
    obtain ⟨hboot, hchannel, hstep, hserves⟩ := hdue
    rw [if_neg (by omega), if_neg (by omega)]
  · rfl

/-- The dies that a step isolates: the list of isolated dies is the one that stood before the step. -/
theorem State.diesOfTargets_reachStep {k : Nat} (hk : k < 7) (targets : List Nat) : (s.reachStep c k).diesOfTargets c targets =
    ((s.reachStep c k).diesOfChan c).filter fun d => targets.contains (tgtOfDie d) && !s.listed d := by
  simp only [State.diesOfTargets, State.listed, (s.reachStep_keeps hk c).ts]

/-! ### Targets fail at MT1600 (R97, R98) -/

theorem State.failTargets_of_all {ts : List Nat} (hsome : s.targetsOfChan c ≠ []) (hserves : (s.chan c).isolated = 0) (h : ∀ t ∈ s.targetsOfChan c, t ∈ ts) :
    s.failTargets c ts = s.isolateChannel c 1 := by
  rw [State.failTargets, if_neg (by simp [hsome, hserves]), if_pos (by simpa using h)]

theorem State.failTargets_of_some {ts : List Nat} (hsome : s.targetsOfChan c ≠ []) (hserves : (s.chan c).isolated = 0) (h : ∃ t ∈ s.targetsOfChan c, t ∉ ts) :
    s.failTargets c ts = (s.diesOfTargets c ts).foldl (fun s d => s.isolateDie d 4) s := by
  rw [State.failTargets, if_neg (by simp [hsome, hserves]), if_neg (by simpa using h)]

/-! ### Training after start-up (R389) -/

/-- Training of a channel at a rate is due: the channel serves, has ended its start-up and moves nothing, and the rate is one below its ceiling that the power-state table
names and that has not been tried. -/
structure State.TrainingDue (s : State) (c rate : Nat) : Prop where
  channel : c < 32
  step : (s.chan c).step = 7
  serves : (s.chan c).isolated = 0
  below : rate < (s.chan c).ceiling
  named : ∃ n < 5, s.img.psFlashRate n = rate
  untrained : rate ∉ (s.chan c).trained
  unfailed : rate ∉ (s.chan c).failed
  free : (s.chan c).busy = none

theorem execFlashRateTraining_of_due {rate : Nat} (h : s.TrainingDue c rate) (passed : Bool) : execFlashRateTraining c rate passed s =
    if passed then .next (s.setChan c { s.chan c with trained := (s.chan c).trained ++ [rate] })
    else .next (((s.setChan c { s.chan c with failed := (s.chan c).failed ++ [rate] }).leave 0x0407 2 [c, (s.chan c).trained.foldl min (s.chan c).ceiling]).arrayPump) :=
  if_pos ⟨h.channel, h.step, h.serves, h.below, by simpa using h.named, by simpa using h.untrained, by simpa using h.unfailed, by simp [h.free]⟩

theorem execFlashRateTraining_of_tried {rate : Nat} (h : rate ∈ (s.chan c).trained ∨ rate ∈ (s.chan c).failed) (passed : Bool) :
    execFlashRateTraining c rate passed s = .next s := by
  refine if_neg fun ⟨_, _, _, _, _, htrained, hfailed, _⟩ => ?_
  rcases h with h | h
  · simp [h] at htrained
  · simp [h] at hfailed

end

/-! ### The obligation -/

/-- Settles O5: the steps of a start-up keep the channel's rate, the other channels and the dies, so that a time-out's own effects are all that is seen; training changes the channel's
own lists of rates. -/
theorem channelsTrainAndStepDown : Obligations.ChannelsTrainAndStepDown := by
  unfold Obligations.ChannelsTrainAndStepDown
  refine ⟨?timeout, fun _ _ _ targets lower h => execChannelStartupStepTimeout_of_not h targets lower,
    fun _ _ _ hsome hserves => ⟨State.failTargets_of_all hsome hserves, State.failTargets_of_some hsome hserves⟩, ?training,
    fun _ _ _ passed h => execFlashRateTraining_of_tried h passed⟩
  case timeout =>
    intro s ch step targets lower hboot hch hstep hserves
    have hkeeps : s.StartUpKeeps ch (s.reachStep ch 5) := s.reachStep_keeps (by decide) ch
    refine ⟨fun hfirst hlast => ?_, ?_, ?_⟩
    · refine ⟨_, execChannelStartupStepTimeout_of_dies ⟨hboot, hch, hstep, hserves⟩ hfirst hlast targets lower, ?_⟩
      rw [State.diesOfTargets_reachStep (by omega)]
    · rintro r rfl rfl hr hlower
      rw [← hkeeps.rate] at hlower
      refine ⟨_, execChannelStartupStepTimeout_of_rate ⟨hboot, hch, hstep, hserves⟩ hr targets, ?_⟩
      simp only [State.arrayPump_chan, State.arrayPump_awl, State.rateReached_chan hlower]
      exact ⟨trivial, trivial, State.reachStep_training_step hstep, fun k hk => (State.rateReached_chan_ne hlower hk).trans (hkeeps.others k hk),
        (State.rateReached_dies hlower).trans hkeeps.dies⟩
    · rintro rfl rfl
      refine ⟨_, execChannelStartupStepTimeout_of_no_rate ⟨hboot, hch, hstep, hserves⟩ targets, ?_⟩
      rw [Channel.reaches_congr hkeeps.rate]
  case training =>
    intro s ch rate hch hstep hserves hbelow hnamed huntrained hunfailed hfree
    have hdue : s.TrainingDue ch rate := ⟨hch, hstep, hserves, hbelow, hnamed, huntrained, hunfailed, hfree⟩
    refine ⟨⟨_, execFlashRateTraining_of_due hdue true, State.setChan_chan .., rfl, rfl, fun k hk => State.setChan_chan_ne _ _ _ _ hk⟩,
      _, execFlashRateTraining_of_due hdue false, ?_, ?_, ?_, fun k hk => ?_⟩
    · rw [State.arrayPump_chan, State.chan_congr (State.leave_awl ..), State.setChan_chan]
    · simp [SameFrame]
    · rw [State.arrayPump_awl, State.leave_awl]
      rfl
    · rw [State.arrayPump_chan, State.chan_congr (State.leave_awl ..), State.setChan_chan_ne _ _ _ _ hk]

end Sys2Proof.Machine
end


section
/-! SUPPORT. The count of degraded reads (R198) rises at the end of a reconstruction alone: what each operation that the answer to a good frame comes to leaves of the girth
engine, or of that count. -/
namespace Sys2Proof.Machine
@[simp] theorem foldl_degradedReads {α : Type} (g : State → α → State) (h : ∀ s a, (g s a).girth.degradedReads = s.girth.degradedReads) (l : List α) (s : State) :
    (l.foldl g s).girth.degradedReads = s.girth.degradedReads := fold_left (fun s => s.girth.degradedReads) g h l s
@[simp] theorem ite_degradedReads (c : Prop) [Decidable c] (a b : GirthState) : (if c then a else b).degradedReads = if c then a.degradedReads else b.degradedReads := by
  split <;> rfl

/-! ### Sys2Proof/Machine/Geometry.lean, Sys2Proof/Machine/Cache.lean -/

@[simp] theorem State.newId_girth (s : State) : s.newId.2.girth = s.girth := rfl
@[simp] theorem State.serveBank_girth (s : State) (b n : Nat) : (s.serveBank b n).girth = s.girth := by
  induction n generalizing s with
  | zero => rfl
  | succ n ih =>
    unfold State.serveBank
    dsimp only
    split
    · rfl
    · split
      · rfl
      · rw [ih]
        split <;> simp
@[simp] theorem State.mcRequest_girth (s : State) (r : McReq) : (s.mcRequest r).girth = s.girth := by simp [State.mcRequest]
@[simp] theorem State.mcAccess_girth (s : State) (seg block : Nat) (write : Bool) (hint source : Nat) : (s.mcAccess seg block write hint source).girth = s.girth := by
  simp [State.mcAccess]

/-! ### Sys2Proof/Machine/MapOps.lean -/

@[simp] theorem State.needSeg_girth (s : State) (seg : Nat) : (s.needSeg seg).girth = s.girth := by simp [State.needSeg]
@[simp] theorem State.checkBlock_girth (s : State) (seg block : Nat) : (s.checkBlock seg block).girth = s.girth := by simp [State.checkBlock]
@[simp] theorem State.checkUnit_girth (s : State) (nsx unit : Nat) : (s.checkUnit nsx unit).girth = s.girth := by
  unfold State.checkUnit
  exact foldl_girth _ (fun s a => by split <;> simp) _ s
@[simp] theorem State.needUnit_girth (s : State) (nsx unit g : Nat) : (s.needUnit nsx unit g).girth = s.girth := by simp [State.needUnit]
@[simp] theorem State.setValid_girth (s : State) (b valid : Nat) : (s.setValid b valid).girth = s.girth := by simp [State.setValid, State.vcAdd, State.vcRemove]
@[simp] theorem State.validRun_girth (s : State) (gaddr glen : Nat) : (s.validRun gaddr glen).girth = s.girth := by simp [State.validRun]
@[simp] theorem State.freeRun_girth (s : State) (gaddr glen : Nat) : (s.freeRun gaddr glen).girth = s.girth := by simp [State.freeRun]
@[simp] theorem State.awaitOne_girth (s : State) (k : Nat × Nat) : (s.awaitOne k).girth = s.girth := rfl
@[simp] theorem State.awaitRun_girth (s : State) (b seg : Nat) : (s.awaitRun b seg).girth = s.girth := rfl
@[simp] theorem State.queuePayload_degradedReads (s : State) (n : Nat) (p : Payload) : (s.queuePayload n p).girth.degradedReads = s.girth.degradedReads := by
  simp [State.queuePayload, State.modStream]
@[simp] theorem State.writeRunOnly_degradedReads (s : State) (seg : Nat) : (s.writeRunOnly seg).girth.degradedReads = s.girth.degradedReads := by simp [State.writeRunOnly]
@[simp] theorem State.startCkpt_degradedReads (s : State) (seg : Nat) : (s.startCkpt seg).girth.degradedReads = s.girth.degradedReads := by
  simp [State.startCkpt]
@[simp] theorem State.writeRun_degradedReads (s : State) (seg : Nat) (awaited : Bool) : (s.writeRun seg awaited).girth.degradedReads = s.girth.degradedReads := by
  simp [State.writeRun]
@[simp] theorem State.journal_degradedReads (s : State) (seg : Nat) (r : JrnlRec) : (s.journal seg r).girth.degradedReads = s.girth.degradedReads := by simp [State.journal]
@[simp] theorem State.setEntry_degradedReads (s : State) (seg idx : Nat) (e : MapEntry) (hint source : Nat) :
    (s.setEntry seg idx e hint source).girth.degradedReads = s.girth.degradedReads := by simp [State.setEntry, State.writeEntry]

/-! ### Sys2Proof/Machine/Block.lean -/

@[simp] theorem State.unforce_girth (s : State) (b : Nat) : (s.unforce b).girth = s.girth := by simp [State.unforce]
@[simp] theorem State.refresh_girth (s : State) (b : Nat) : (s.refresh b).girth = s.girth := by simp [State.refresh, State.force]
@[simp] theorem State.reachRung3_girth (s : State) (gran : Nat) : (s.reachRung3 gran).girth = s.girth := by simp [State.reachRung3]
/-- A unit set UNC keeps its segment, so that no chain of it is freed. -/
theorem State.markNow_degradedReads (s : State) (nsx unit : Nat) {lost : Nat} (h : 0 < lost) : (s.markNow nsx unit lost).girth.degradedReads = s.girth.degradedReads := by
  unfold State.markNow
  split <;> simp [h]
theorem State.markUnit_degradedReads (s : State) (nsx unit : Nat) {lost : Nat} (h : 0 < lost) : (s.markUnit nsx unit lost).girth.degradedReads = s.girth.degradedReads := by
  unfold State.markUnit
  split
  · exact s.markNow_degradedReads nsx unit h
  · split <;> simp

/-! ### Sys2Proof/Machine/Degraded.lean -/

@[simp] theorem State.dropJob_girth (s : State) (t : Nat) : (s.dropJob t).girth = s.girth := by
  unfold State.dropJob State.jobLeavesSlot
  dsimp only
  split <;> split <;> rfl
@[simp] theorem State.jobFails_girth (s : State) (t : Nat) (r : CmdResult) : (s.jobFails t r).girth = s.girth := by
  unfold State.jobFails
  split <;> simp
@[simp] theorem State.issueRead_girth (s : State) (kind : ReadKind) (use : ReadUse) (gran glen rung step : Nat) (job : Option Nat) :
    (s.issueRead kind use gran glen rung step job).girth = s.girth := by simp [State.issueRead, State.enterRead]
@[simp] theorem State.openRun_girth (s : State) (q : ReadReq) : (s.openRun q).girth = s.girth := by simp [State.openRun]
@[simp] theorem State.frameEnd_girth (s : State) (q : ReadReq) (lost : Bool) : (s.frameEnd q lost).2.girth = s.girth := by
  unfold State.frameEnd
  split
  · rfl
  · split <;> rfl
@[simp] theorem State.setUnc_degradedReads (s : State) (nsx unit : Nat) : (s.setUnc nsx unit).girth.degradedReads = s.girth.degradedReads := by
  unfold State.setUnc State.setUncOf
  split
  · exact s.markUnit_degradedReads nsx unit (by decide)
  · rfl
@[simp] theorem State.lost6_degradedReads (s : State) (p : Payload) : (s.lost6 p).girth.degradedReads = s.girth.degradedReads := by
  unfold State.lost6
  dsimp only
  split <;> simp
@[simp] theorem State.readLost_girth (s : State) (r : ReadReq) : (s.readLost r).girth = s.girth := by
  unfold State.readLost
  split <;> simp
@[simp] theorem State.unrecoverable_degradedReads (s : State) (r : ReadReq) : (s.unrecoverable r).girth.degradedReads = s.girth.degradedReads := by
  unfold State.unrecoverable
  dsimp only
  split
  · split <;> simp
  · simp
/-- Engines are given by what the reconstructions say alone: what their table does not move stays. -/
theorem State.giveEngines_left {β : Type} (p : State → β) (h : ∀ s n f, p (State.modRecon s n f) = p s) (s : State) : p s.giveEngines = p s := by
  unfold State.giveEngines
  exact fold_left p _ (fun s (n, _) => h s n _) _ s
@[simp] theorem State.giveEngines_degradedReads (s : State) : s.giveEngines.girth.degradedReads = s.girth.degradedReads :=
  State.giveEngines_left (fun s => s.girth.degradedReads) (fun _ _ _ => rfl) s
@[simp] theorem State.readMembers_girth (s : State) (n : Nat) (r : Recon) (ps : List Nat) : (s.readMembers n r ps).girth = s.girth := by simp [State.readMembers]
@[simp] theorem State.degrade_degradedReads (s : State) (q : ReadReq) : (s.degrade q).girth.degradedReads = s.girth.degradedReads := by
  unfold State.degrade
  dsimp only
  (repeat' split) <;> simp
@[simp] theorem State.degradeRun_degradedReads (s : State) (q : ReadReq) : (s.degradeRun q).girth.degradedReads = s.girth.degradedReads := by simp [State.degradeRun]

/-! ### Sys2Proof/Machine/Unit.lean -/

@[simp] theorem State.cipherAsk_girth (s : State) (work : CipherWork) (slot : Nat) (keys : Option KeySet) (read : Bool) : (s.cipherAsk work slot keys read).girth = s.girth := rfl
@[simp] theorem State.checkFailed_degradedReads (s : State) (t : Nat) (j : UnitJob) : (s.checkFailed t j).girth.degradedReads = s.girth.degradedReads := by
  simp [State.checkFailed]
@[simp] theorem State.askDecrypt_degradedReads (s : State) (t : Nat) : (s.askDecrypt t).girth.degradedReads = s.girth.degradedReads := by
  unfold State.askDecrypt
  dsimp only
  (repeat' split) <;> simp
@[simp] theorem State.copyOut_degradedReads (s : State) (t : Nat) (j : UnitJob) : (s.copyOut t j).girth.degradedReads = s.girth.degradedReads := by simp [State.copyOut]
@[simp] theorem State.copyRead_degradedReads (s : State) (t : Nat) (j : UnitJob) (p : Payload) : (s.copyRead t j p).girth.degradedReads = s.girth.degradedReads := by
  unfold State.copyRead
  dsimp only
  (repeat' split) <;> simp
@[simp] theorem State.flashData_degradedReads (s : State) (q : ReadReq) : (s.flashData q).girth.degradedReads = s.girth.degradedReads := by
  unfold State.flashData
  dsimp only
  (repeat' split) <;> simp
@[simp] theorem State.frameGood_degradedReads (s : State) (q : ReadReq) : (s.frameGood q).girth.degradedReads = s.girth.degradedReads := by
  have hend : (s.frameEnd q false).2.girth = s.girth := s.frameEnd_girth q false
  unfold State.frameGood
  dsimp only
  split
  · next h => simp only [h] at hend; simp [hend]
  · next h => simp only [h] at hend; rw [hend]

end Sys2Proof.Machine
end


section
/-! Frames that decode, groups that are recalibrated and visited, and reconstructions (O14): R112 to R114, R118, R121 to R125, R187, R198. -/
namespace Sys2Proof.Machine

/-! ### A rung fails (R112, R113) -/

theorem execFrameDecodeDone_of_decoding {s : State} {n : Nat} {j : FrameJob} (hjob : s.fjob n = some j) (hstage : j.stage = 2 ∨ j.stage = 3) (conv : Bool) (corrected : Nat) :
    execFrameDecodeDone n conv corrected s =
      .next (if conv = true ∧ s.runOk j.req = true then s.rungOk n j corrected else s.rungFail n j).decoders.settle := by
  have hnot : ¬ (j.stage ≠ 2 ∧ j.stage ≠ 3) := fun h => hstage.elim h.1 h.2
  simp only [execFrameDecodeDone, State.decodeDone, hjob, if_pos hstage, if_neg hnot, Bool.and_eq_true]
  split <;> rfl
theorem execFrameDecodeDone_of_stage {s : State} {n : Nat} {j : FrameJob} (hjob : s.fjob n = some j) (hhard : j.stage ≠ 2) (hsoft : j.stage ≠ 3) (conv : Bool) (corrected : Nat) :
    execFrameDecodeDone n conv corrected s = .next s := by simp [execFrameDecodeDone, hjob, hhard, hsoft]
theorem execFrameDecodeDone_of_none {s : State} {n : Nat} (hjob : s.fjob n = none) (conv : Bool) (corrected : Nat) :
    execFrameDecodeDone n conv corrected s = .next s := by simp [execFrameDecodeDone, hjob]

/-- The next step is the first above the last one that is not the group's LAST_RETRY. -/
theorem State.nextStep_eq_some {s : State} {gran st k : Nat} (h : s.nextStep gran st = some k) : st < k ∧ k ≤ s.img.retrySteps ∧ k ≤ 8 ∧ ∀ j, st < j → j < k →
    (s.blkRec (s.img.blkOf gran)).fc = false ∧ (s.vtGroup (s.groupOf (dieOf gran) (s.img.blockOf gran))).lastRetry = j := by
  unfold State.nextStep at h
  dsimp only at h
  generalize hretry : (if (s.blkRec (s.img.blkOf gran)).fc = true then 0 else (s.vtGroup (s.groupOf (dieOf gran) (s.img.blockOf gran))).lastRetry) = retry at h
  rw [List.find?_filter, List.find?_range_eq_some] at h
  simp only [decide_eq_true_eq, List.mem_range, Bool.not_eq_true', decide_eq_false_iff_not] at h
  obtain ⟨⟨⟨hst, hsteps⟩, -⟩, hlt, hbefore⟩ := h
  refine ⟨hst, hsteps, by omega, fun j hj hjk => ?_⟩
  have hskipped : retry = j ∧ retry ≠ 0 := by
    have := hbefore j hjk
    omega
  split at hretry
  · exact absurd hretry.symm hskipped.2
  · next hfc => exact ⟨Bool.eq_false_iff.mpr hfc, hretry.trans hskipped.1⟩

/-- The read of a rung that waits in a list of its die: nothing of the codec moves. -/
theorem State.retryRead_codec {s : State} {q : ReadReq} (hserves : s.dieServes (dieOf q.gran) = true) (hlist : q.kind ≠ .host ∨ 4 ≤ (s.die (dieOf q.gran)).hrq.length)
    (rung step : Nat) : (s.retryRead q rung step).codec = s.codec := by
  unfold State.retryRead
  dsimp only
  have hnew : s.newId.2.dieServes (dieOf q.gran) = true := (State.dieServes_congr rfl).trans hserves
  rw [if_neg (by simp [hnew])]
  split
  · next hhost =>
    have hfull : ¬ (s.die (dieOf q.gran)).hrq.length < 4 := Nat.not_lt.mpr (hlist.resolve_left (· hhost))
    split
    · next hfew => exact absurd hfew hfull
    · rfl
  · rfl

theorem State.rungFail_of_step {s : State} {j : FrameJob} {st : Nat} (htrial : ∀ g, j.req.use ≠ .trial g) (hrung : j.rung < 2)
    (hstep : s.nextStep j.req.gran (if j.rung = 0 then 0 else j.step) = some st) (n : Nat) :
    s.rungFail n j = (s.setFjob n { j with rung := 1, step := st, stage := 0, held := 1 }).retryRead j.req 1 st := by
  simp only [State.rungFail, if_neg (Nat.ne_of_lt hrung), hstep]
theorem State.rungFail_of_soft {s : State} {j : FrameJob} (htrial : ∀ g, j.req.use ≠ .trial g) (hrung : j.rung < 2)
    (hstep : s.nextStep j.req.gran (if j.rung = 0 then 0 else j.step) = none) (n : Nat) :
    s.rungFail n j = (s.setFjob n { j with rung := 2, step := 0, stage := 0, softLeft := 6, held := 1 }).retryRead j.req 2 0 := by
  simp only [State.rungFail, if_neg (Nat.ne_of_lt hrung), hstep, if_pos (Nat.le_of_lt_succ hrung)]

/-- The read that a rung asks for leaves the frame's job as the rung has set it. -/
theorem State.setFjob_retryRead_fjob {s : State} {q : ReadReq} (hserves : s.dieServes (dieOf q.gran) = true) (hlist : q.kind ≠ .host ∨ 4 ≤ (s.die (dieOf q.gran)).hrq.length)
    (n : Nat) (j : FrameJob) (rung step : Nat) : ((s.setFjob n j).retryRead q rung step).fjob n = some j := by
  rw [State.fjob, State.retryRead_codec (s := s.setFjob n j) ((State.dieServes_congr rfl).trans hserves) hlist]
  exact State.setFjob_fjob s n j

/-! ### A recalibration starts (R122) -/

@[simp] theorem State.issueRead_codec (s : State) (kind : ReadKind) (use : ReadUse) (gran glen rung step : Nat) (job : Option Nat) :
    (s.issueRead kind use gran glen rung step job).codec = s.codec := by simp [State.issueRead, State.enterRead, State.newId]
@[simp] theorem State.trials_codec (s : State) (c : Recal) : (s.trials c).codec = s.codec := by simp [State.trials]

theorem State.startRecal_of_none {s : State} {g : Nat} {hinted : Option Nat} (h : s.referenceBlock g hinted = none) :
    s.startRecal g hinted = s.modVt g fun v => { v with queued := false } := by simp only [State.startRecal, h]
theorem State.startRecal_of_some {s : State} {g b : Nat} {hinted : Option Nat} (h : s.referenceBlock g hinted = some b) :
    ∃ c : Recal, (s.startRecal g hinted).codec = { s.codec with recals := s.codec.recals ++ [c] } ∧ c.group = g ∧ c.block = b ∧ c.type = 0 ∧ c.pass = 0 := by
  simp only [State.startRecal, h, State.trials_codec]
  exact ⟨_, rfl, rfl, rfl, rfl, rfl⟩
/-- A recalibration takes nothing from the queues but the head that named it. -/
theorem State.startRecal_queues (s : State) (g : Nat) (hinted : Option Nat) :
    (s.startRecal g hinted).codec.hint = s.codec.hint ∧ (s.startRecal g hinted).codec.age = s.codec.age := by
  cases h : s.referenceBlock g hinted with
  | none => rw [State.startRecal_of_none h]; exact ⟨rfl, rfl⟩
  | some b =>
    obtain ⟨c, hcodec, -⟩ := State.startRecal_of_some h
    rw [hcodec]
    exact ⟨rfl, rfl⟩

/-- A recalibration runs on the die of a group. -/
def State.recalOn (s : State) (g : Nat) : Bool := s.codec.recals.any fun c => c.group % 1024 = g % 1024
theorem State.recalOn_of_mem {s : State} {g : Nat} (h : ∃ c ∈ s.codec.recals, c.group % 1024 = g % 1024) : s.recalOn g = true := by simpa [State.recalOn] using h
theorem State.recalOn_of_none {s : State} {g : Nat} (h : ∀ c ∈ s.codec.recals, c.group % 1024 ≠ g % 1024) : s.recalOn g = false := by simpa [State.recalOn] using h

/-- The hint queue once its head has been taken. -/
def State.hintTaken (s : State) (rest : List (Nat × Nat)) : State := { s with codec := { s.codec with hint := rest } }
theorem State.hintTaken_referenceBlock (s : State) (rest : List (Nat × Nat)) (g : Nat) (hinted : Option Nat) :
    (s.hintTaken rest).referenceBlock g hinted = s.referenceBlock g hinted := rfl

theorem execRecalStart_of_hint {s : State} {g b : Nat} {rest : List (Nat × Nat)} (hon : s.engines 8 = true) (hroom : s.codec.recals.length < 64)
    (hhint : s.codec.hint = (g, b) :: rest) : execRecalStart s =
      if s.recalOn g then .next s else .next ((s.hintTaken rest).startRecal g (some b)).settle := by
  simp [execRecalStart, hon, hroom, hhint, State.recalOn, State.hintTaken]
theorem execRecalStart_of_age {s : State} {g : Nat} {rest : List Nat} (hon : s.engines 8 = true) (hroom : s.codec.recals.length < 64) (hhint : s.codec.hint = [])
    (hage : s.codec.age = g :: rest) : execRecalStart s =
      if s.recalOn g then .next s else .next ({ s with codec := { s.codec with age := rest } }.startRecal g none).settle := by
  simp [execRecalStart, hon, hroom, hhint, hage, State.recalOn]
theorem execRecalStart_of_idle {s : State} (h : s.engines 8 = false ∨ 64 ≤ s.codec.recals.length ∨ (s.codec.hint = [] ∧ s.codec.age = [])) : execRecalStart s = .next s := by
  unfold execRecalStart
  dsimp only
  rcases h with hoff | hfull | ⟨hhint, hage⟩
  · simp [hoff]
  · simp [hfull]
  · simp [hhint, hage]

/-! ### A patrol visit (R123, R125) -/

theorem State.nextGroup_of_fast {s : State} {g : Nat} {rest : List Nat} (h : s.codec.fast = g :: rest) :
    s.nextGroup = (g, { s with codec := { s.codec with fast := rest } }) := by simp only [State.nextGroup, h]
theorem State.nextGroup_of_cursor {s : State} (h : s.codec.fast = []) : s.nextGroup = (s.codec.cursor,
    { s with codec := { s.codec with cursor := if s.codec.cursor + 1 < ceilDiv s.img.blocksPerPlane (2 ^ s.img.groupShift) * 1024 then s.codec.cursor + 1 else 0 } }) := by
  simp only [State.nextGroup, h]
theorem execPatrolVisit_of_off {s : State} (h : s.engines 8 = false) : execPatrolVisit s = .next s := by simp [execPatrolVisit, h]
theorem execPatrolVisit_of_on {s t : State} {g : Nat} (hon : s.engines 8 = true) (hnext : s.nextGroup = (g, t)) :
    execPatrolVisit s = if t.dieServes (g % 1024) then .next (t.visitGroup g).settle else .next t := by simp [execPatrolVisit, hon, hnext]

theorem State.ageCheck_vtGroup_ne (s : State) {g k : Nat} (h : k ≠ g) : (s.ageCheck g).vtGroup k = s.vtGroup k := by
  unfold State.ageCheck
  exact (apply_ite (fun t : State => t.vtGroup k) ..).trans (ite_eq_right_iff.mpr fun _ => State.modVt_vtGroup_ne s g k (fun v => { v with queued := true }) h)
theorem State.visitEnd_reads (s : State) (g : Nat) : ((s.visitEnd g).vtGroup g).reads = 0 := by rw [State.visitEnd, State.modVt_vtGroup]
theorem State.visitEnd_vtGroup_ne (s : State) {g k : Nat} (h : k ≠ g) : (s.visitEnd g).vtGroup k = s.vtGroup k :=
  (State.modVt_vtGroup_ne _ _ _ _ h).trans (s.ageCheck_vtGroup_ne h)

theorem State.sampleEnd_of_last {s : State} {g : Nat} (h : Table.find s.codec.visits g = some 1) :
    s.sampleEnd g = ({ s with codec := { s.codec with visits := Table.del s.codec.visits g } } : State).visitEnd g := by simp [State.sampleEnd, h]

@[simp] theorem State.sampleBlock_codec (s : State) (g b : Nat) : (s.sampleBlock g b).codec = s.codec := by simp [State.sampleBlock]

/-- The blocks of a group that a visit samples: those that hold programmed data and are not retired. -/
def State.sampled (s : State) (g : Nat) : List Nat :=
  ((List.range (2 ^ s.img.groupShift)).map fun i => g % 1024 * 65536 + g / 1024 * 2 ^ s.img.groupShift + i).filter s.readable
/-- Samples of a group that are to be judged once it has been visited. -/
def State.samples (s : State) (g : Nat) : Nat := (s.sampled g).length * s.img.patrolFrames + Table.getD s.codec.visits g 0

theorem State.sampled_eq_nil {s : State} {g : Nat} (h : ∀ i < 2 ^ s.img.groupShift, s.readable (g % 1024 * 65536 + (g / 1024 * 2 ^ s.img.groupShift + i)) = false) :
    s.sampled g = [] := by
  simpa [State.sampled, Nat.add_assoc] using h
theorem State.mem_sampled {s : State} {g i : Nat} (hi : i < 2 ^ s.img.groupShift) (h : s.readable (g % 1024 * 65536 + (g / 1024 * 2 ^ s.img.groupShift + i)) = true) :
    g % 1024 * 65536 + (g / 1024 * 2 ^ s.img.groupShift + i) ∈ s.sampled g := by
  simp only [State.sampled, List.mem_filter, List.mem_map, List.mem_range]
  exact ⟨⟨i, hi, Nat.add_assoc ..⟩, h⟩

theorem State.visitGroup_of_no_samples {s : State} {g : Nat} (h : s.samples g = 0) : s.visitGroup g = s.visitEnd g := if_pos h
theorem State.visitGroup_codec_of_samples {s : State} {g : Nat} (h : s.samples g ≠ 0) :
    (s.visitGroup g).codec = { s.codec with visits := Table.set s.codec.visits g (s.samples g) } := by
  have hvisit : s.visitGroup g = (s.sampled g).foldl (fun s b => s.sampleBlock g b) { s with codec := { s.codec with visits := Table.set s.codec.visits g (s.samples g) } } :=
    if_neg h
  rw [hvisit, foldl_codec _ fun s b => s.sampleBlock_codec g b]

/-! ### A reconstruction ends (R114, R187, R198) -/

/-- The frame of a reconstruction is good: the read counts as degraded, and its unit goes on. -/
def State.reconGood (s : State) (r : Recon) : State :=
  let s : State := { s with girth := { s.girth with degradedReads := satAdd 32 s.girth.degradedReads 1 } }
  let s := (s.count1 0x071).leave 0x0803 1 [r.req.gran, r.unknown.length]
  let s : State := match r.req.use with
    | .unit t => { s with fe := { s.fe with jobs := Table.modify s.fe.jobs t fun j => { j with rechecked := true } } }
    | .copy t => { s with fe := { s.fe with jobs := Table.modify s.fe.jobs t fun j => { j with rechecked := true } } }
    | _ => s
  s.frameGood r.req

theorem State.reconGood_degradedReads (s : State) (r : Recon) : (s.reconGood r).girth.degradedReads = satAdd 32 s.girth.degradedReads 1 := by
  unfold State.reconGood
  dsimp only
  rw [State.frameGood_degradedReads]
  split <;> simp

theorem State.frameOk_congr {s t : State} (hcodec : t.codec = s.codec) (hfe : t.fe = s.fe) (q : ReadReq) (info : Nat) : t.frameOk q info = s.frameOk q info := by
  simp only [State.frameOk, State.runOf, State.job, hcodec, hfe]
theorem State.frameInfo_congr {s t : State} (hmedia : t.media = s.media) (a : Nat) : t.frameInfo a = s.frameInfo a := by simp only [State.frameInfo, hmedia]

section
variable {s : State} {n : Nat} {r : Recon}

/-- The engine that a reconstruction gives back goes to another: what its frame is judged by stays. -/
theorem State.rebuilt_eq (hfind : Table.find s.girth.recons n = some r) (hengine : r.engine = true) : s.rebuilt n =
    if s.frameOk r.req (s.solved r) = true ∧ s.solved r = s.frameInfo (r.req.gran / 8 * 8) then ((s.dropRecon n).giveEngines).reconGood r
    else ((s.dropRecon n).giveEngines).misplaced r.req (s.solved r) := by
  have hcodec : (s.dropRecon n).giveEngines.codec = s.codec := State.giveEngines_left State.codec (fun _ _ _ => rfl) _
  have hfe : (s.dropRecon n).giveEngines.fe = s.fe := State.giveEngines_left State.fe (fun _ _ _ => rfl) _
  have hmedia : (s.dropRecon n).giveEngines.media = s.media := State.giveEngines_left State.media (fun _ _ _ => rfl) _
  unfold State.rebuilt
  simp only [hfind]
  rw [if_neg (by simp [hengine])]
  refine if_congr ?_ rfl rfl
  rw [State.frameOk_congr hcodec hfe, State.frameInfo_congr hmedia, Bool.and_eq_true, decide_eq_true_eq]

theorem State.rebuilt_of_good (hfind : Table.find s.girth.recons n = some r) (hengine : r.engine = true) (hok : s.frameOk r.req (s.solved r) = true)
    (hinfo : s.solved r = s.frameInfo (r.req.gran / 8 * 8)) : (s.rebuilt n).girth.degradedReads = satAdd 32 s.girth.degradedReads 1 := by
  rw [State.rebuilt_eq hfind hengine, if_pos ⟨hok, hinfo⟩, State.reconGood_degradedReads, State.giveEngines_degradedReads]
  rfl
theorem State.rebuilt_of_misplaced (hfind : Table.find s.girth.recons n = some r) (hengine : r.engine = true)
    (h : s.frameOk r.req (s.solved r) = false ∨ s.solved r ≠ s.frameInfo (r.req.gran / 8 * 8)) : s.rebuilt n = ((s.dropRecon n).giveEngines).misplaced r.req (s.solved r) := by
  rw [State.rebuilt_eq hfind hengine, if_neg]
  rintro ⟨hok, hinfo⟩
  rcases h with h | h
  · simp [hok] at h
  · exact h hinfo

theorem execReconstructDone_of_engine (hfind : Table.find s.girth.recons n = some r) (hengine : r.engine = true) : execReconstructDone n s = .next (s.rebuilt n).settle := by
  simp [execReconstructDone, hfind, hengine]
theorem execReconstructDone_of_none (h : ∀ r, Table.find s.girth.recons n = some r → r.engine = false) : execReconstructDone n s = .next s := by
  cases hfind : Table.find s.girth.recons n with
  | none => simp [execReconstructDone, hfind]
  | some r => simp [execReconstructDone, hfind, h r hfind]

end

/-! ### The obligation -/

/-- Settles O14: a decoder's end by its rung, a recalibration and a visit by the queue that names their group, and a reconstruction by the check of its frame. -/
theorem framesDecodeAndGroupsAreKept : Obligations.FramesDecodeAndGroupsAreKept := by
  unfold Obligations.FramesDecodeAndGroupsAreKept
  refine ⟨fun s n j conv corrected hjob hstage => ⟨_, execFrameDecodeDone_of_decoding hjob hstage conv corrected, rfl⟩,
    fun s n j conv corrected hjob hhard hsoft => execFrameDecodeDone_of_stage hjob hhard hsoft conv corrected,
    fun s n conv corrected hjob => execFrameDecodeDone_of_none hjob conv corrected, ?ladder, fun s gran st k h => State.nextStep_eq_some h, ?hint, ?age,
    fun s h => execRecalStart_of_idle h, ?fast, ?passed, fun s h => execPatrolVisit_of_off h, ?cursor, ?bare, ?sampled, ?judged, ?rebuilt,
    fun s n h => execReconstructDone_of_none h⟩
  case ladder =>
    intro s n j htrial hserves hlist
    refine ⟨fun st hrung hstep => ?_, fun hrung hstep => ?_⟩
    · rw [State.rungFail_of_step htrial hrung hstep]
      exact State.setFjob_retryRead_fjob hserves hlist ..
    · rw [State.rungFail_of_soft htrial hrung hstep]
      exact State.setFjob_retryRead_fjob hserves hlist ..
  case hint =>
    intro s g b rest hon hroom hhint
    have hexec := execRecalStart_of_hint hon hroom hhint
    refine ⟨fun hbusy => hexec.trans (if_pos (State.recalOn_of_mem hbusy)), fun hfree => ⟨_, hexec.trans (if_neg (by simp [State.recalOn_of_none hfree])), ?_⟩⟩
    obtain ⟨hrest, hage⟩ := (s.hintTaken rest).startRecal_queues g (some b)
    refine ⟨hrest, hage, fun hnone => ?_, fun blk hblk => ?_⟩
    · rw [State.startRecal_of_none ((s.hintTaken_referenceBlock ..).trans hnone)]
      exact ⟨by rw [State.modVt_vtGroup], rfl⟩
    · obtain ⟨c, hcodec, hc⟩ := State.startRecal_of_some ((s.hintTaken_referenceBlock rest ..).trans hblk)
      exact ⟨c, congrArg CodecState.recals hcodec, hc⟩
  case age =>
    intro s g rest hon hroom hhint hage hfree
    obtain ⟨hempty, hrest⟩ := State.startRecal_queues { s with codec := { s.codec with age := rest } } g none
    exact ⟨_, (execRecalStart_of_age hon hroom hhint hage).trans (if_neg (by simp [State.recalOn_of_none hfree])), hrest, hempty.trans hhint⟩
  case fast => exact fun s g rest hon hfast hserves => ⟨_, rfl, (execPatrolVisit_of_on hon (State.nextGroup_of_fast hfast)).trans (if_pos hserves)⟩
  case passed =>
    intro s g rest hon hfast hserves
    exact (execPatrolVisit_of_on hon (State.nextGroup_of_fast hfast)).trans (if_neg (Bool.eq_false_iff.mp hserves))
  case cursor => exact fun s hon hfast hserves => ⟨_, (execPatrolVisit_of_on hon (State.nextGroup_of_cursor hfast)).trans (if_pos hserves), rfl⟩
  case bare =>
    intro s g hbare hvisits
    have hsamples : s.samples g = 0 := by rw [State.samples, State.sampled_eq_nil hbare, hvisits]; simp
    rw [State.visitGroup_of_no_samples hsamples]
    exact ⟨s.visitEnd_reads g, fun k hk => s.visitEnd_vtGroup_ne hk⟩
  case sampled =>
    intro s g i hi hreadable hframes
    have hsamples : 0 < s.samples g :=
      Nat.add_pos_left (Nat.mul_pos (List.length_pos_of_mem (State.mem_sampled hi hreadable)) hframes) _
    rw [State.visitGroup_codec_of_samples hsamples.ne']
    exact ⟨rfl, by rwa [Table.getD_set_self]⟩
  case judged =>
    intro s g hlast
    rw [State.sampleEnd_of_last hlast]
    exact State.visitEnd_reads _ g
  case rebuilt =>
    intro s n r hfind hengine
    exact ⟨_, execReconstructDone_of_engine hfind hengine, rfl, State.rebuilt_of_good hfind hengine, State.rebuilt_of_misplaced hfind hengine⟩

end Sys2Proof.Machine
end

section
/-! Sets that open, girths that close and the ledger's pages (O20): R145, R163 to R165, R180, R181, R184, R190, R193. -/
namespace Sys2Proof.Machine

/-! ### The streams -/

theorem updAt_getD_self {α : Type} (f : α → α) (l : List α) {n : Nat} (h : n < l.length) (d : α) : (updAt l n f).getD n d = f (l.getD n d) := by
  induction l generalizing n with
  | nil => simp at h
  | cons x l ih =>
    cases n with
    | zero => rfl
    | succ n => exact ih (by simpa using h)

theorem State.modStream_stream {s : State} {n : Nat} (h : n < s.girth.streams.length) (f : Stream → Stream) : (s.modStream n f).stream n = f (s.stream n) :=
  updAt_getD_self f _ h _
theorem State.stream_of_length_le {s : State} {n : Nat} (h : s.girth.streams.length ≤ n) : s.stream n = {} := by
  simp [State.stream, h]
/-- A stream that has something stands in the table of streams. -/
theorem State.stream_lt {s : State} {n : Nat} (h : s.stream n ≠ {}) : n < s.girth.streams.length :=
  lt_of_not_ge fun hle => h (s.stream_of_length_le hle)

/-! ### The members of a set -/

/-- What a stream holds of the set it is opening: none stands, and its mode and width. -/
def Stream.opening (x : Stream) : Option Nat × Bool × Nat := (x.set, x.takingFc, x.takingW)

theorem State.modStream_opening {f : Stream → Stream} (hf : ∀ x, (f x).opening = x.opening) (s : State) (n : Nat) :
    ((s.modStream n f).stream n).opening = (s.stream n).opening := updAt_getD_of_keeps (p := Stream.opening) hf _ _ _ _

theorem State.stream_of_girth {s t : State} (h : t.girth = s.girth) (n : Nat) : t.stream n = s.stream n := by simp only [State.stream, h]

theorem State.leave_stream (s : State) (code sev : Nat) (xs : List Nat) (n : Nat) : (s.leave code sev xs).stream n = s.stream n :=
  State.stream_of_girth (by simp) n

theorem State.nextDie_girth {s t : State} {c d : Nat} (h : s.nextDie c = some (d, t)) : t.girth = s.girth := by
  simp only [State.nextDie] at h
  split at h
  · cases h; rfl
  · cases h

theorem State.takeNormal_girth {s t : State} {die b : Nat} {highest : Bool} (h : s.takeNormal die highest = some (b, t)) : t.girth = s.girth := by
  unfold State.takeNormal at h
  split at h
  · cases h
  · dsimp only at h
    split at h
    · cases h; rfl
    · split at h
      · cases h; rfl
      · cases h
theorem State.takeFast_girth {s t : State} {die b : Nat} (h : s.takeFast die = some (b, t)) : t.girth = s.girth := by
  unfold State.takeFast at h
  split at h
  · cases h; rfl
  · cases h
theorem State.takeBlock_girth {s t : State} {die b : Nat} {fc highest erase : Bool} (h : s.takeBlock die fc highest = some (b, erase, t)) : t.girth = s.girth := by
  unfold State.takeBlock at h
  split at h <;> split at h
  · next hfast => cases h; exact State.takeFast_girth hfast
  · obtain ⟨_, hnormal, hz⟩ := Option.map_eq_some_iff.mp h
    cases hz; exact State.takeNormal_girth hnormal
  · next hnormal => cases h; exact State.takeNormal_girth hnormal
  · obtain ⟨_, hfast, hz⟩ := Option.map_eq_some_iff.mp h
    cases hz; exact State.takeFast_girth hfast

/-- Opening a block leaves every stream, whichever intent it appends. -/
theorem State.openBlock_stream (s : State) (b m : Nat) (fc erase : Bool) (n : Nat) : (s.openBlock b m fc erase).stream n = s.stream n := by
  unfold State.openBlock
  dsimp only
  split
  · rfl
  · split <;> rfl

theorem State.floorWait_opening (s : State) (n d : Nat) : ((s.floorWait n d).stream n).opening = (s.stream n).opening := by
  have hmod := s.modStream_opening (f := fun x => { x with floorDie := some d }) (fun _ => rfl) n
  unfold State.floorWait
  dsimp only
  split
  · rw [State.leave_stream, hmod]
  · exact hmod
theorem State.takeMember_opening (s : State) (n d : Nat) : ((s.takeMember n d).stream n).opening = (s.stream n).opening := by
  unfold State.takeMember
  dsimp only
  split
  · next b erase t htake =>
    rw [State.modStream_opening (f := fun x => { x with taken := x.taken ++ [b], floorDie := none }) (fun _ => rfl), State.openBlock_stream,
      State.stream_of_girth (State.takeBlock_girth htake)]
  · exact s.floorWait_opening n d

/-- A set of this mode and width stands open for a stream under a SET_ID, with all its members. -/
def State.SetOpen (s : State) (n id : Nat) (fc : Bool) (w : Nat) : Prop :=
  ∃ r, Table.find s.girth.sets id = some r ∧ r.stream = n ∧ r.w = w ∧ r.fc = fc ∧ r.state = 1 ∧ w + 2 ≤ r.member.length

@[simp] theorem State.ledger_stream (s : State) (e : LedgerEntry) (waits : Bool) (n : Nat) : (s.ledger e waits).stream n = s.stream n := rfl

/-- The set that a stream is given is the one it names from then on. -/
theorem State.given_set {t : State} {n k id : Nat} {r : SetRec} {e : LedgerEntry} (hlt : n < t.girth.streams.length) (hfind : Table.find t.girth.sets k = some r)
    (h : (((t.modStream n fun x => { x with set := some k, nextWl := 0, taken := [] }).ledger e false).stream n).set = some id) :
    Table.find ((t.modStream n fun x => { x with set := some k, nextWl := 0, taken := [] }).ledger e false).girth.sets id = some r := by
  rw [State.ledger_stream, State.modStream_stream hlt] at h
  cases h
  exact hfind

theorem State.setStands_open {s : State} {n id : Nat} (hall : (s.stream n).takingW + 2 ≤ (s.stream n).taken.length)
    (h : ((s.setStands n).stream n).set = some id) : (s.setStands n).SetOpen n id (s.stream n).takingFc (s.stream n).takingW := by
  have hlt : n < s.girth.streams.length := State.stream_lt fun hempty => by simp [hempty] at hall
  unfold State.setStands at h ⊢
  dsimp only at h ⊢
  split at h <;> exact ⟨_, State.given_set hlt (Table.find_set_self _ _ _) h, rfl, rfl, rfl, rfl, hall⟩

/-- A stream that takes its members names a set only once that stands open. -/
theorem State.takeMembers_open {s : State} {n k id : Nat} (hnone : (s.stream n).set = none) (h : ((s.takeMembers n k).stream n).set = some id) :
    (s.takeMembers n k).SetOpen n id (s.stream n).takingFc (s.stream n).takingW := by
  have waits : ∀ {t : State}, (t.stream n).opening = (s.stream n).opening → (t.stream n).set ≠ some id := fun {t} hkept => by
    have hset : (t.stream n).set = (s.stream n).set := congrArg Prod.fst hkept
    simp [hset, hnone]
  induction k generalizing s with
  | zero => exact absurd h (waits rfl)
  | succ k ih =>
    generalize hu : s.takeMembers n (k + 1) = u at h ⊢
    rw [State.takeMembers] at hu
    split at hu
    case isTrue hall => subst hu; exact State.setStands_open hall h
    case isFalse =>
      split at hu
      case h_1 => subst hu; exact absurd h (waits rfl)
      case h_2 =>
        split at hu
        case h_1 => subst hu; exact absurd h (waits rfl)
        case h_2 d t hdie =>
          have hd : t.stream n = s.stream n := State.stream_of_girth (State.nextDie_girth hdie) n
          split at hu
          case isTrue => subst hu; exact absurd h (waits (by rw [State.floorWait_opening, hd]))
          case isFalse =>
            have hkept : ((t.takeMember n d).stream n).opening = (s.stream n).opening := by rw [State.takeMember_opening, hd]
            obtain ⟨hset, hfc, hw⟩ : _ ∧ _ ∧ _ := by simpa only [Stream.opening, Prod.mk.injEq] using hkept
            subst hu
            rw [← hfc, ← hw]
            exact ih (hset.trans hnone) h fun hkept' => waits (hkept'.trans hkept)

/-! ### SET_OPEN and the end of its wait -/

theorem State.wantsSet_stream {s : State} {n : Nat} (h : s.wantsSet n = true) : n < s.girth.streams.length ∧ (s.stream n).set = none := by
  simp only [State.wantsSet, Bool.and_eq_true, decide_eq_true_eq, Option.isNone_iff_eq_none] at h
  obtain ⟨⟨⟨⟨⟨⟨⟨-, hset⟩, -⟩, hlist⟩, -⟩, -⟩, -⟩, -⟩ := h
  exact ⟨State.stream_lt fun hempty => hlist (by rw [hempty]), hset⟩

theorem execSetOpen_of_wanted {s : State} {n : Nat} (hon : s.engines 8 = true) (hwants : s.wantsSet n = true) : execSetOpen n s =
    .next (((s.modStream n fun x => { x with takingFc := s.fastSet n, takingW := s.girth.w, takingNo := s.girth.opened }).takeMembers n (s.girth.w + 3)).settle) :=
  if_pos ⟨hon, hwants⟩
theorem execSetOpen_of_not {s : State} {n : Nat} (h : s.engines 8 = false ∨ s.wantsSet n = false) : execSetOpen n s = .next s :=
  if_neg (by rcases h with h | h <;> simp [h])

theorem State.fastSet_spec {s : State} {n : Nat} (h : s.fastSet n = true) : n ≤ 3 ∧ s.fcBlocks + s.girth.w + 2 ≤ s.fcTargetBlocks := by
  simpa [State.fastSet] using h

section Wait
variable {s : State} {n d : Nat}

theorem execHostGirthOpenWaitEnd_of_none (h : (s.stream n).floorDie = none) : execHostGirthOpenWaitEnd n s = .next s := by
  simp only [execHostGirthOpenWaitEnd, h]
theorem execHostGirthOpenWaitEnd_of_off (h : s.engines 8 = false) : execHostGirthOpenWaitEnd n s = .next s := by
  unfold execHostGirthOpenWaitEnd
  split <;> simp [h]
/-- What a wait comes to: nothing while sets do not open or channels are too few, else the next member, unless its die is still at the floor. -/
theorem execHostGirthOpenWaitEnd_of_some (hon : s.engines 8 = true) (h : (s.stream n).floorDie = some d) : execHostGirthOpenWaitEnd n s =
    if s.girth.noSets = true ∨ s.channelCount < (s.stream n).takingW + 2 then .next s
    else if s.dieServes d = false then .next ((s.modStream n fun x => { x with floorDie := none }).takeMembers n ((s.stream n).takingW + 3)).settle
    else if s.mustWait n d = true then .next s
    else .next ((s.takeMember n d).takeMembers n ((s.stream n).takingW + 3)).settle := by
  simp only [execHostGirthOpenWaitEnd, h, hon]
  simp

end Wait

/-! ### Girths stop filling -/

section Close
variable {s : State} {n id : Nat} {g : Girth}

theorem execGirthCloseStart_of_none (h : (s.stream n).filling = none) : execGirthCloseStart n s = .next s := by simp [execGirthCloseStart, h]
theorem execGirthCloseAge_of_none (h : (s.stream n).filling = none) : execGirthCloseAge n s = .next s := by simp [execGirthCloseAge, h]
theorem execGirthCloseStart_of_off (h : s.engines 8 = false) : execGirthCloseStart n s = .next s := by
  unfold execGirthCloseStart
  split <;> simp [h]
theorem execGirthCloseAge_of_off (h : s.engines 8 = false) : execGirthCloseAge n s = .next s := by
  unfold execGirthCloseAge
  split
  · split <;> simp [h]
  · rfl
theorem execGirthCloseStart_of_some (hfill : (s.stream n).filling = some id) (hgirth : s.girthRec id = some g) :
    execGirthCloseStart n s = if s.engines 8 = true ∧ s.mustClose g = true then .next (s.stopFilling id).settle else .next s := by
  simp [execGirthCloseStart, hfill, hgirth]
theorem execGirthCloseAge_of_some (hfill : (s.stream n).filling = some id) (hgirth : s.girthRec id = some g) {wt : Nat} (hold : g.oldestWt = some wt) :
    execGirthCloseAge n s = if s.engines 8 = true ∧ wt + s.img.closeAge ≤ s.wheel.wt then .next (s.stopFilling id).settle else .next s := by
  simp [execGirthCloseAge, hfill, hgirth, hold]

end Close

theorem Table.find_map_snd {α : Type} (f : α → α) (t : Table α) (k : Nat) : Table.find (t.map fun (n, a) => (n, f a)) k = (Table.find t k).map f := by
  induction t with
  | nil => rfl
  | cons p t ih =>
    obtain ⟨n, a⟩ := p
    by_cases h : k = n
    · subst h; simp [Table.find]
    · simpa [Table.find, h] using ih

/-- A girth of a set that ends is to close. -/
def Girth.setEnds (g : Girth) (k : Nat) : Girth := if g.set = k then { g with awaited := true } else g

/-- The end of a set leaves each girth where it is. -/
theorem State.endSet_girthRec {s : State} {id : Nat} {g : Girth} (h : s.girthRec id = some g) (k reason : Nat) :
    (s.endSet k reason).girthRec id = some g ∨ (s.endSet k reason).girthRec id = some (g.setEnds k) := by
  unfold State.endSet
  split
  · have hmap : Table.find (s.girth.girths.map fun (n, g) => (n, g.setEnds k)) id = some (g.setEnds k) := by
      rw [Table.find_map_snd fun g : Girth => g.setEnds k, show Table.find s.girth.girths id = some g from h]; rfl
    exact .inr hmap
  · exact .inl h
theorem Girth.setEnds_closing (g : Girth) (k : Nat) : (g.setEnds k).closing = g.closing := by
  unfold Girth.setEnds
  split <;> rfl

@[simp] theorem State.queueMember_girth (s : State) (n : Nat) (g : Girth) (pos : Nat) : (s.queueMember n g pos).girth = s.girth := by
  simp [State.queueMember]

/-- A girth that stops filling is closing. -/
theorem State.stopFilling_closing {s : State} {id : Nat} {g : Girth} (h : s.girthRec id = some g) :
    ∃ g', (s.stopFilling id).girthRec id = some g' ∧ g'.closing = true := by
  unfold State.stopFilling
  simp only [h]
  generalize hu : List.foldl _ _ _ = u
  have hclosing : ∃ g', u.girthRec id = some g' ∧ g'.closing = true := by
    subst hu
    simp only [State.girthRec]
    rw [foldl_girth _ (fun s p => State.queueMember_girth s id g p)]
    exact ⟨_, Table.find_set_self _ _ _, rfl⟩
  obtain ⟨g', hg', htrue⟩ := hclosing
  split
  · rcases State.endSet_girthRec hg' g.set 0 with hsame | hends
    · exact ⟨g', hsame, htrue⟩
    · exact ⟨_, hends, (g'.setEnds_closing g.set).trans htrue⟩
  · exact ⟨g', hg', htrue⟩

/-! ### The ledger's pages -/

/-- The girth engine but for the places of the last two CYCLE_BEGINs. -/
def State.paging (s : State) : GirthState := { s.girth with cycleAt := none, lastCycleAt := none }

theorem State.beginsAt_paging (s : State) (place : Nat × Nat × Nat) (e : LedgerEntry) : (s.beginsAt place e).paging = s.paging := by
  unfold State.beginsAt
  split
  · split
    · rfl
    · split <;> rfl
  · rfl
@[simp] theorem State.queuePage_girth (s : State) (p : LedgerPage) : (s.queuePage p).girth = s.girth := by simp [State.queuePage]

/-- The page that is written next to a pair. -/
def State.nextPage (s : State) (a b page : Nat) (new refresh : List LedgerEntry) : LedgerPage :=
  { seq := s.girth.lseq, copyA := a, copyB := b, page := page, wt := s.wheel.wt, entries := new, refresh := refresh, okA := false, okB := false }

theorem State.writePage_paging (s : State) (a b page : Nat) (new refresh : List LedgerEntry) : (s.writePage a b page new refresh).paging =
    { s.paging with lseq := s.girth.lseq + 16, ledgerBusy := s.girth.ledgerBusy ++ [(s.nextPage a b page new refresh, none, none)] } := by
  unfold State.writePage
  dsimp only
  rw [State.paging, State.queuePage_girth]
  exact fold_left State.paging _ (fun s e => s.beginsAt_paging (a, b, page) e) _ _

/-- The staging page as it goes to a page of the current pair, in a refresh cycle that runs. -/
def State.pageTaken (s : State) (a b p : Nat) : State :=
  { s with girth := { s.girth with ledgerNew := (splitEight s.girth.ledgerNew 0 0).2,
                                   ledgerWts := s.girth.ledgerWts.drop (splitEight s.girth.ledgerNew 0 0).1.length,
                                   waiters := (splitEight s.girth.ledgerNew 0 0).2.countP s.hasWaiter,
                                   refreshAt := (s.refreshEntries (s.girth.refreshAt.getD 0)).2, pair := some (a, b, p + 1) } }

theorem State.ledgerPage_of_pair {s : State} {a b p : Nat} (hpair : s.girth.pair = some (a, b, p)) (hlost : s.girth.ledgerLost = false)
    (hroom : p < s.img.fcPages - 1) (hcycle : s.girth.refreshAt.isSome) : s.ledgerPage =
      (s.pageTaken a b p).writePage a b p (splitEight s.girth.ledgerNew 0 0).1 (s.refreshEntries (s.girth.refreshAt.getD 0)).1 := by
  have hruns : s.girth.refreshAt.isNone = false := by simpa using hcycle
  simp only [State.ledgerPage, State.pageTaken, hpair, hlost, Nat.not_le.mpr hroom, hruns, Bool.false_eq_true, if_false]

theorem execLedgerPageWrite_of_due {s : State} (hon : s.engines 7 = true) (hdue : s.pageDue = true) : execLedgerPageWrite s = .next s.ledgerPage.settle :=
  if_pos ⟨hon, hdue⟩
theorem execLedgerPageWrite_of_not {s : State} (h : s.pageDue = false ∨ s.engines 7 = false) : execLedgerPageWrite s = .next s :=
  if_neg (by rcases h with h | h <;> simp [h])

/-! ### The obligation -/

/-- Settles O20: a set stands when its stream has taken the members it needs, a wait's end is split by its die, a girth stops by its reason or its age, and a
page by the pair that takes it. -/
theorem setsOpenAndGirthsClose : Obligations.SetsOpenAndGirthsClose := by
  unfold Obligations.SetsOpenAndGirthsClose
  refine ⟨?opens, fun s n h => execSetOpen_of_not (.inr h), fun s n h => State.fastSet_spec h, ?stays, ?goesOn,
    fun s n h => execHostGirthOpenWaitEnd_of_none h, ?closes, fun s n h => ⟨execGirthCloseStart_of_none h, execGirthCloseAge_of_none h⟩, ?page,
    fun s h => execLedgerPageWrite_of_not h, fun s h n => ⟨execSetOpen_of_not (.inl h), execHostGirthOpenWaitEnd_of_off h, execGirthCloseStart_of_off h,
      execGirthCloseAge_of_off h⟩⟩
  case opens =>
    intro s n hon hwants
    obtain ⟨hlt, hnone⟩ := State.wantsSet_stream hwants
    refine ⟨_, execSetOpen_of_wanted hon hwants, rfl, fun id hid => ?_⟩
    have hopen := State.takeMembers_open (by rw [State.modStream_stream hlt]; exact hnone) hid
    rwa [State.modStream_stream hlt] at hopen
  case stays =>
    intro s n d hon hfloor h
    exact (execHostGirthOpenWaitEnd_of_some hon hfloor).trans (if_pos h)
  case goesOn =>
    intro s n d hon hfloor hsets hchannels
    have hexec := (execHostGirthOpenWaitEnd_of_some hon hfloor).trans (if_neg (by simp [hsets, Nat.not_lt.mpr hchannels]))
    refine ⟨fun hleft => ⟨_, hexec.trans (if_pos hleft), rfl⟩, fun hserves hmust => ?_, fun hserves hmust => ⟨_, ?_, rfl⟩⟩
    · exact hexec.trans ((if_neg (by simp [hserves])).trans (if_pos hmust))
    · exact hexec.trans ((if_neg (by simp [hserves])).trans (if_neg (by simp [hmust])))
  case closes =>
    intro s n id g hon hfill hgirth
    have hstart := execGirthCloseStart_of_some hfill hgirth
    have hage := fun wt hold => execGirthCloseAge_of_some hfill hgirth (wt := wt) hold
    exact ⟨fun hmust => ⟨_, hstart.trans (if_pos ⟨hon, hmust⟩), rfl⟩, fun hmust => hstart.trans (if_neg (by simp [hmust])),
      fun wt hold hdue => ⟨_, (hage wt hold).trans (if_pos ⟨hon, hdue⟩), rfl⟩,
      fun wt hold hyoung => (hage wt hold).trans (if_neg (by simp [Nat.not_le.mpr hyoung])), State.stopFilling_closing hgirth⟩
  case page =>
    intro s hon hdue
    refine ⟨_, execLedgerPageWrite_of_due hon hdue, fun a b p hpair hlost hroom hcycle => ?_⟩
    rw [State.ledgerPage_of_pair hpair hlost hroom hcycle]
    have hgirth := (s.pageTaken a b p).writePage_paging a b p (splitEight s.girth.ledgerNew 0 0).1 (s.refreshEntries (s.girth.refreshAt.getD 0)).1
    exact ⟨(congrArg GirthState.pair hgirth :), (congrArg GirthState.lseq hgirth :), (congrArg GirthState.waiters hgirth :),
      (congrArg GirthState.ledgerNew hgirth :), _, (congrArg GirthState.ledgerBusy hgirth :), rfl, rfl, rfl, rfl, rfl⟩

end Sys2Proof.Machine
end

section
/-! Victims, erase intents, rebuilds, journal runs and root snapshots (O21): R154, R158, R168 to R171, R201, R202, R204. -/
namespace Sys2Proof.Machine

/-! ### Victims (R168 to R170) -/

theorem State.blkRec_of_recs {s t : State} (h : t.blk.recs = s.blk.recs) (b : Nat) : t.blkRec b = s.blkRec b := by simp only [State.blkRec, h]
theorem State.modBlk_blk_of_blk {s t : State} (h : t.blk = s.blk) (b : Nat) (f : BlockRec → BlockRec) : (t.modBlk b f).blk = (s.modBlk b f).blk := by
  simp only [State.modBlk, State.setBlk, State.blkRec, h]

theorem State.unforce_active (s : State) (b : Nat) : (s.unforce b).blk.active = s.blk.active := by
  unfold State.unforce
  dsimp only
  split <;> rfl
theorem State.unforce_mode (s : State) (b : Nat) : ((s.unforce b).blkRec b).mode = (s.blkRec b).mode := by
  unfold State.unforce
  dsimp only
  split
  · rfl
  · exact (congrArg BlockRec.mode (s.modBlk_blkRec b fun r => { r with forced := 0 }) :)
theorem State.unlist_active (s : State) (b : Nat) : (s.unlist b).blk.active = s.blk.active.filter (· ≠ b) := by
  rw [← s.unforce_active b]
  unfold State.unlist
  dsimp only
  split <;> rfl
theorem State.unlist_mode (s : State) (b : Nat) : ((s.unlist b).blkRec b).mode = (s.blkRec b).mode := by
  rw [← s.unforce_mode b]
  unfold State.unlist
  dsimp only
  split <;> rfl

/-- The walk of a block makes copy jobs, and marks the block. -/
theorem State.walk_blk (s : State) (b : Nat) : (s.walk b).blk = (s.modBlk b fun r => { r with walked := true }).blk := by
  unfold State.walk
  refine State.modBlk_blk_of_blk ?_ b _
  dsimp only
  split
  · exact fold_left (fun s => s.blk) _ (fun s (a, p) => by dsimp only; split <;> simp) _ s
  · exact fold_left (fun s => s.blk) _ (fun s (nsx, u, off) => by simp) _ s

/-- A block that is taken leaves the active list to join it anew; it becomes a victim, unless it is SUSPECT, and its walk is made. -/
theorem State.takeVictim_spec (s : State) (b : Nat) : (s.takeVictim b).blk.active = s.blk.active.filter (· ≠ b) ∧
    ((s.takeVictim b).blkRec b).mode = (if (s.blkRec b).mode = .suspect then .suspect else .victim) ∧ ((s.takeVictim b).blkRec b).walked = true := by
  unfold State.takeVictim
  dsimp only
  generalize hv : (if (s.blkRec b).stream ≤ 3 ∧ (s.blkRec b).valid ≠ 0 then s.fdpEvent 0x80 (s.blkRec b).stream else s) = v
  have hblk : v.blk = s.blk := by subst hv; split <;> simp
  have hactive : (v.unlist b).blk.active = s.blk.active.filter (· ≠ b) := by rw [State.unlist_active, hblk]
  have hmode : ((v.unlist b).blkRec b).mode = (s.blkRec b).mode := by rw [State.unlist_mode, State.blkRec_of_recs (congrArg BlkState.recs hblk)]
  refine ⟨?_, ?_, ?_⟩
  · rw [State.walk_blk]; exact hactive
  · rw [State.blkRec_of_recs (congrArg BlkState.recs (State.walk_blk _ b)), State.modBlk_blkRec, State.modBlk_blkRec]
    exact congrArg (fun m => if m = BlockMode.suspect then BlockMode.suspect else .victim) hmode
  · rw [State.blkRec_of_recs (congrArg BlkState.recs (State.walk_blk _ b)), State.modBlk_blkRec]

/-- A victim joins those being evacuated. -/
def State.joinActive (s : State) (b : Nat) : State := { s with blk := { s.blk with active := s.blk.active ++ [b] } }
theorem State.joinActive_active (s : State) (b : Nat) : (s.joinActive b).blk.active = s.blk.active ++ [b] := rfl
theorem State.joinActive_blkRec (s : State) (b c : Nat) : (s.joinActive b).blkRec c = s.blkRec c := State.blkRec_of_recs rfl c

theorem execVictimTake_of_some {s : State} {b : Nat} (hon : s.engines 8 = true) (hroom : s.blk.active.length < s.img.activeVictims)
    (hload : s.copyLoad < s.twoGirths) (hnext : s.nextVictim = some b) : execVictimTake s =
      .next (((s.count1 0x070).takeVictim b).joinActive b).settle := by
  simp only [execVictimTake, State.joinActive, hon, hroom, hload, hnext, and_self, if_true]
theorem execVictimTake_of_idle {s : State} (h : s.engines 8 = false ∨ s.img.activeVictims ≤ s.blk.active.length ∨ s.twoGirths ≤ s.copyLoad ∨ s.nextVictim = none) :
    execVictimTake s = .next s := by
  unfold execVictimTake
  split
  · next hgo =>
    obtain ⟨hon, hroom, hload⟩ := hgo
    have hnone : s.nextVictim = none := by
      rcases h with h | h | h | h
      · simp [hon] at h
      · omega
      · omega
      · exact h
    rw [hnone]
  · rfl

/-- The order of R168, row by row. -/
theorem State.nextVictim_rows (s : State) (b : Nat) : (s.forcedHead 1 = some b → s.nextVictim = some b) ∧
    (s.forcedHead 1 = none → s.forcedHead 2 = some b → s.nextVictim = some b) ∧
    (s.forcedHead 1 = none → s.forcedHead 2 = none → 6 ≤ s.blk.band → s.map.restoring = false → s.validTake = some b → s.nextVictim = some b) ∧
    (s.forcedHead 1 = none → s.forcedHead 2 = none → s.blk.band < 6 → s.forcedHead 3 = some b → s.nextVictim = some b) ∧
    ((∀ k < 6, s.forcedHead k = none) → s.blk.band = 0 → s.nextVictim = none) := by
  refine ⟨fun h1 => ?_, fun h1 h2 => ?_, fun h1 h2 hband hrestored hvalid => ?_, fun h1 h2 hband h3 => ?_, fun hnone hband => ?_⟩
  · simp [State.nextVictim, h1]
  · simp [State.nextVictim, h1, h2]
  · simp [State.nextVictim, h1, h2, hband, State.validRows, hrestored, hvalid]
  · simp [State.nextVictim, h1, h2, Nat.not_le.mpr hband, h3]
  · simp [State.nextVictim, hnone, hband]

/-! ### Erase intents (R171) -/

theorem execEraseGateOpen_of_open {s : State} {b : Nat} (hon : s.engines 8 = true) (hgate : s.gateOpen b = true) : execEraseGateOpen b s =
    .next (((s.modBlk b fun r => { r with intent := true }).ledger (.eraseIntent b (s.blkRec b).wantFc) true).settle) := if_pos ⟨hon, hgate⟩
theorem execEraseGateOpen_of_not {s : State} {b : Nat} (h : s.engines 8 = false ∨ s.gateOpen b = false) : execEraseGateOpen b s = .next s :=
  if_neg (by rcases h with h | h <;> simp [h])
theorem State.gateOpen_spec {s : State} {b : Nat} (h : s.gateOpen b = true) :
    (s.blkRec b).mode = .eraseWait ∧ (s.blkRec b).valid = 0 ∧ (s.blkRec b).inflight = 0 ∧ (s.blkRec b).intent = false := by
  simp only [State.gateOpen, Bool.and_eq_true, decide_eq_true_eq, Bool.not_eq_true'] at h
  obtain ⟨⟨⟨⟨⟨⟨hmode, hvalid⟩, -⟩, hinflight⟩, hintent⟩, -⟩, -⟩ := h
  exact ⟨hmode, hvalid, hinflight, hintent⟩

/-! ### A lost ledger copy (R201) -/

/-- The intents of a ledger pair's own blocks have no waiter. -/
theorem State.openBlock_waiters (s : State) (b : Nat) (fc erase : Bool) : (s.openBlock b 7 fc erase).girth.waiters = s.girth.waiters := by
  unfold State.openBlock
  dsimp only
  split
  · rfl
  · rfl
theorem State.openPair_waiters (s : State) : s.openPair.girth.waiters = s.girth.waiters := by
  unfold State.openPair
  dsimp only
  split
  case isTrue => rfl
  case isFalse =>
    split
    case h_1 => rfl
    case h_2 hdieA =>
      have hA := State.nextDie_girth hdieA
      split
      case h_1 => exact congrArg GirthState.waiters hA
      case h_2 htakeA =>
        have hA := (State.takeBlock_girth htakeA).trans hA
        split
        case h_1 => exact congrArg GirthState.waiters hA
        case h_2 hdieB =>
          have hB := (State.nextDie_girth hdieB).trans hA
          split
          case h_1 => exact congrArg GirthState.waiters hB
          case h_2 htakeB =>
            have hB := (State.takeBlock_girth htakeB).trans hB
            exact (State.openBlock_waiters ..).trans ((State.openBlock_waiters ..).trans (congrArg GirthState.waiters hB))

theorem State.leave_girth (s : State) (code sev : Nat) (xs : List Nat) : (s.leave code sev xs).girth = s.girth := by simp
theorem State.replacePair_spec (s : State) :
    s.replacePair.girth.ledgerLost = false ∧ s.replacePair.girth.refreshAt = none ∧ s.replacePair.girth.waiters = s.girth.waiters := by
  refine ⟨rfl, rfl, ?_⟩
  unfold State.replacePair
  refine (congrArg GirthState.waiters (State.leave_girth _ 0x0807 2 [])).trans ((State.openPair_waiters _).trans ?_)
  split
  · unfold State.owesLink
    split <;> rfl
  · rfl

/-! ### Sets in evacuation (R202) -/

/-- The girth engine but for the streams' lists. -/
def State.setBook (s : State) : GirthState := { s.girth with streams := [] }

theorem State.setBook_of_girth {s t : State} (h : t.girth = s.girth) : t.setBook = s.setBook := by simp only [State.setBook, h]
theorem State.queuePayload_setBook (s : State) (n : Nat) (p : Payload) : (s.queuePayload n p).setBook = s.setBook := rfl
theorem State.writeRunOnly_setBook (s : State) (seg : Nat) : (s.writeRunOnly seg).setBook = s.setBook := by
  unfold State.writeRunOnly
  dsimp only
  split <;> rfl
theorem State.startCkpt_setBook (s : State) (seg : Nat) : (s.startCkpt seg).setBook = s.setBook := by
  unfold State.startCkpt
  refine (fold_left State.setBook _ (fun s i => s.queuePayload_setBook 6 _) _ _).trans ?_
  split
  · rfl
  · exact s.writeRunOnly_setBook seg
theorem State.againCkpt_setBook (s : State) (seg : Nat) : (s.againCkpt seg).setBook = s.setBook := by
  unfold State.againCkpt
  split <;> rfl
theorem State.evacuateItem_setBook (s : State) (b a : Nat) (p : Payload) : (s.evacuateItem b a p).setBook = s.setBook := by
  unfold State.evacuateItem
  split
  · split
    · split
      · exact s.againCkpt_setBook _
      · rfl
    · exact s.startCkpt_setBook _
  · split
    · rfl
    · exact s.startCkpt_setBook _
  · rfl
theorem State.evacuateMap_setBook (s : State) (b : Nat) : (s.evacuateMap b).setBook = s.setBook := by
  unfold State.evacuateMap
  refine (fold_left State.setBook _ (fun s seg => s.againCkpt_setBook seg) _ _).trans (fold_left State.setBook _ (fun s (a, p) => ?_) _ s)
  dsimp only
  split
  · exact s.evacuateItem_setBook b a p
  · rfl
theorem State.walk_girth (s : State) (b : Nat) : (s.walk b).girth = s.girth := by simp [State.walk]
theorem State.unlist_girth (s : State) (b : Nat) : (s.unlist b).girth = s.girth := by
  rw [← s.unforce_girth b]
  unfold State.unlist
  dsimp only
  split <;> rfl
theorem State.evacuateBlock_setBook (s : State) (b : Nat) : (s.evacuateBlock b).setBook = s.setBook := by
  unfold State.evacuateBlock
  dsimp only
  split
  · rfl
  · split
    · split
      · rfl
      · split
        · exact s.evacuateMap_setBook b
        · exact State.setBook_of_girth (s.walk_girth b)
    · split
      · exact (State.evacuateMap_setBook _ b).trans (State.setBook_of_girth (s.unlist_girth b))
      · exact State.setBook_of_girth ((State.walk_girth _ b).trans (s.unlist_girth b))
/-- A set that evacuation takes changes its own state alone. -/
theorem State.evacuateSet_setBook (s : State) (k : Nat) :
    (s.evacuateSet k).setBook = (s.modSet k fun r => { r with state := if r.state = 2 then 3 else r.state }).setBook :=
  fold_left State.setBook State.evacuateBlock State.evacuateBlock_setBook _ _

/-- An ended set that evacuation takes is in evacuation. -/
theorem State.evacuateSet_state {s : State} {k : Nat} (h : (s.setRec k).state = 2) : ((s.evacuateSet k).setRec k).state = 3 := by
  have hsets : (s.evacuateSet k).girth.sets = Table.modify s.girth.sets k fun r => { r with state := if r.state = 2 then 3 else r.state } :=
    (congrArg GirthState.sets (s.evacuateSet_setBook k) :)
  obtain ⟨r, hr⟩ : ∃ r, Table.find s.girth.sets k = some r := by
    cases hfind : Table.find s.girth.sets k with
    | none => simp [State.setRec, Table.getD, hfind] at h
    | some r => exact ⟨r, rfl⟩
  simp only [State.setRec, Table.getD, hr, Option.getD_some] at h
  simp [State.setRec, Table.getD, hsets, Table.find_modify_self, hr, h]

section Rebuild
variable {s : State} {k : Nat}

theorem execRebuildTake_of_idle (h : s.engines 8 = false ∨ s.girth.noSets = true) : execRebuildTake s = .next s := if_pos (by simpa using h)
theorem execRebuildTake_of_lost (hon : s.engines 8 = true) (hsets : s.girth.noSets = false) (hlost : s.girth.ledgerLost = true) : execRebuildTake s =
    .next (State.settle { s.replacePair with girth := { s.replacePair.girth with waiters := s.replacePair.girth.waiters + 1 } }) := by
  simp [execRebuildTake, hon, hsets, hlost]

/-- A set leaves the rebuild list, and the reshape list where it stands on that too, for those in evacuation. -/
def State.takeRebuild (s : State) (k : Nat) : State :=
  { s with girth := { s.girth with rebuild := s.girth.rebuild.filter (·.1 ≠ k), reshape := s.girth.reshape.filter (· ≠ k), rebuilding := s.girth.rebuilding ++ [k] } }
/-- A set leaves the reshape list for those in evacuation. -/
def State.takeReshape (s : State) (k : Nat) : State :=
  { s with girth := { s.girth with reshape := s.girth.reshape.filter (· ≠ k), reshaping := s.girth.reshaping ++ [k] } }

theorem execRebuildTake_of_rebuild (hon : s.engines 8 = true) (hsets : s.girth.noSets = false) (hlost : s.girth.ledgerLost = false)
    (hload : s.copyLoad < s.twoGirths) (hlist : s.girth.rebuild ≠ []) (hnext : s.nextRebuild = some k) (hroom : s.girth.rebuilding.length < s.img.rebuildSets) :
    execRebuildTake s = .next ((s.takeRebuild k).evacuateSet k).settle := by
  obtain ⟨x, xs, hcons⟩ := List.exists_cons_of_ne_nil hlist
  simp [execRebuildTake, hon, hsets, hlost, hload, hcons, hnext, hroom, State.takeRebuild]
theorem execRebuildTake_of_reshape (hon : s.engines 8 = true) (hsets : s.girth.noSets = false) (hlost : s.girth.ledgerLost = false)
    (hload : s.copyLoad < s.twoGirths) (hlist : s.girth.rebuild = []) (hnext : s.girth.reshape.head? = some k) (hroom : s.girth.reshaping.length < s.img.reshapeSets) :
    execRebuildTake s = .next ((s.takeReshape k).evacuateSet k).settle := by
  simp [execRebuildTake, hon, hsets, hlost, hload, hlist, hnext, hroom, State.takeReshape]

end Rebuild

/-! ### Journal runs (R154) -/

/-- A payload that waits for placement goes on waiting while others join its stream. -/
theorem State.queuePayload_keeps {s : State} {n : Nat} {p : Payload} (h : p ∈ (s.stream n).list) (q : Payload) : p ∈ ((s.queuePayload n q).stream n).list := by
  have hlt : n < s.girth.streams.length := State.stream_lt fun hempty => by simp [hempty] at h
  rw [State.queuePayload, State.modStream_stream hlt]
  exact List.mem_append_left _ h
theorem State.queuePayload_mem {s : State} {n : Nat} (h : n < s.girth.streams.length) (p : Payload) : p ∈ ((s.queuePayload n p).stream n).list := by
  rw [State.queuePayload, State.modStream_stream h]
  exact List.mem_append_right _ (List.mem_singleton_self p)
theorem State.foldl_queuePayload_keeps {α : Type} {n : Nat} {p : Payload} (f : α → Payload) (l : List α) {s : State} (h : p ∈ (s.stream n).list) :
    p ∈ ((l.foldl (fun s a => s.queuePayload n (f a)) s).stream n).list := by
  induction l generalizing s with
  | nil => exact h
  | cons a l ih => exact ih (State.queuePayload_keeps h (f a))

theorem State.foldl_queuePayload_map {α : Type} (s : State) (n : Nat) (f : α → Payload) (l : List α) :
    (l.foldl (fun s a => s.queuePayload n (f a)) s).map = s.map := by
  refine fold_left (fun s => s.map) _ ?_ _ _
  exact fun _ _ => rfl

theorem State.writeRunOnly_of_ne {s : State} {seg : Nat} (h : (s.seg seg).staging ≠ []) : s.writeRunOnly seg =
    (s.queuePayload 6 (.run seg (s.seg seg).nextRun (s.seg seg).staging)).setSeg seg { s.seg seg with
      staging := [], nextRun := (s.seg seg).nextRun + 1, runs := (s.seg seg).runs ++ [((s.seg seg).nextRun, none)] } := if_neg h

/-- A checkpoint that starts with an empty staging run writes none. -/
theorem State.startCkpt_of_nil {s : State} {seg : Nat} (h : (s.seg seg).staging = []) : s.startCkpt seg =
    (List.range 22).foldl (fun t i => t.queuePayload 6 (.ckpt seg i (s.seg seg).nextRun [] []))
      (s.setSeg seg { s.seg seg with ckptBusy := true, ckptNew := [], ckptSafe := [], ckptNext := (s.seg seg).nextRun }) := by
  simp only [State.startCkpt, h, if_true]
theorem State.startCkpt_seg {s : State} {seg : Nat} (h : (s.seg seg).staging = []) :
    ((s.startCkpt seg).seg seg).staging = [] ∧ ((s.startCkpt seg).seg seg).nextRun = (s.seg seg).nextRun := by
  have hmap : (s.startCkpt seg).map = (s.setSeg seg { s.seg seg with ckptBusy := true, ckptNew := [], ckptSafe := [], ckptNext := (s.seg seg).nextRun }).map := by
    rw [State.startCkpt_of_nil h]
    exact State.foldl_queuePayload_map ..
  have hseg : (s.startCkpt seg).seg seg = { s.seg seg with ckptBusy := true, ckptNew := [], ckptSafe := [], ckptNext := (s.seg seg).nextRun } := by
    rw [State.seg, hmap]
    exact State.setSeg_seg ..
  rw [hseg]
  exact ⟨h, rfl⟩

/-- A staging run that is written waits for placement, and the next one starts empty. -/
theorem State.writeRun_spec {s : State} {seg : Nat} (h : (s.seg seg).staging ≠ []) : ((s.writeRun seg false).seg seg).staging = [] ∧
    ((s.writeRun seg false).seg seg).nextRun = (s.seg seg).nextRun + 1 ∧
    (6 < s.girth.streams.length → .run seg (s.seg seg).nextRun (s.seg seg).staging ∈ ((s.writeRun seg false).stream 6).list) := by
  have hseg : (s.writeRunOnly seg).seg seg = { s.seg seg with
      staging := [], nextRun := (s.seg seg).nextRun + 1, runs := (s.seg seg).runs ++ [((s.seg seg).nextRun, none)] } := by
    rw [State.writeRunOnly_of_ne h]
    exact State.setSeg_seg ..
  have hwaits : 6 < s.girth.streams.length → .run seg (s.seg seg).nextRun (s.seg seg).staging ∈ ((s.writeRunOnly seg).stream 6).list := fun hlt => by
    rw [State.writeRunOnly_of_ne h]
    exact State.queuePayload_mem hlt _
  unfold State.writeRun
  simp only [h, if_false, Bool.false_eq_true]
  split
  case isTrue =>
    obtain ⟨hstaging, hnext⟩ := State.startCkpt_seg (congrArg SegDesc.staging hseg)
    refine ⟨hstaging, hnext.trans (congrArg SegDesc.nextRun hseg), fun hlt => ?_⟩
    rw [State.startCkpt_of_nil (congrArg SegDesc.staging hseg)]
    exact State.foldl_queuePayload_keeps _ _ (hwaits hlt)
  case isFalse => rw [hseg]; exact ⟨rfl, rfl, hwaits⟩

section Stage
variable {s : State} {seg : Nat}

theorem execJournalStageAge_of_off (h : s.engines 8 = false) : execJournalStageAge seg s = .next s := if_pos (by simp [h])
theorem execJournalStageAge_of_seg (hon : s.engines 8 = true) (hseg : seg ≠ Config.maxSegments) (hstaging : (s.seg seg).staging ≠ [])
    (hage : (s.seg seg).stagingWt + s.img.stageAge ≤ s.wheel.wt) : execJournalStageAge seg s = .next (s.writeRun seg false).settle := by
  simp [execJournalStageAge, hon, hseg, hstaging, hage]
theorem execJournalStageAge_of_young (hseg : seg ≠ Config.maxSegments)
    (h : (s.seg seg).staging = [] ∨ s.wheel.wt < (s.seg seg).stagingWt + s.img.stageAge) : execJournalStageAge seg s = .next s := by
  have hyoung : ¬((s.seg seg).staging ≠ [] ∧ (s.seg seg).stagingWt + s.img.stageAge ≤ s.wheel.wt) :=
    fun ⟨hstaging, hage⟩ => h.elim hstaging (Nat.not_lt.mpr hage)
  simp only [execJournalStageAge, hseg, hyoung, if_false, ite_self]
theorem execJournalStageAge_of_root (hon : s.engines 8 = true) (hstaging : s.map.rootStaging ≠ []) (hage : s.map.rootStagingWt + s.img.stageAge ≤ s.wheel.wt) :
    execJournalStageAge Config.maxSegments s = .next s.writeRootFrame.settle := by
  simp [execJournalStageAge, hon, hstaging, hage]

end Stage

/-! ### The root (R158) -/

theorem State.writeRootFrame_of_ne {s : State} (h : s.map.rootStaging ≠ []) : s.writeRootFrame =
    { s.queuePayload 6 (.root s.map.rootFrames s.map.rootStaging s.map.rootLast s.map.epoch) with
      map := { s.map with rootStaging := [], rootFrames := s.map.rootFrames + 1 } } := if_neg h

/-- The root staging frame, where it holds records, goes before the snapshot. -/
def State.rootStaged (s : State) : State := if s.map.rootStaging = [] then s else s.writeRootFrame.awaitOne (rootFrameKey s.map.rootFrames)

/-- What the root staging frame's write leaves of the map, and of the sizes of the tables. -/
structure RootWritten (s t : State) : Prop where
  img : t.img = s.img
  obs : t.obs = s.obs
  map : { t.map with rootStaging := s.map.rootStaging, rootFrames := s.map.rootFrames, awaitedRuns := s.map.awaitedRuns } = s.map
  empty : t.map.rootStaging = []
  streams : t.girth.streams.length = s.girth.streams.length

theorem updAt_length {α : Type} (f : α → α) (l : List α) (n : Nat) : (updAt l n f).length = l.length := by
  induction l generalizing n with
  | nil => rfl
  | cons x l ih => cases n <;> simp [updAt, ih]

theorem State.rootStaged_spec (s : State) : RootWritten s s.rootStaged := by
  unfold State.rootStaged
  split
  case isTrue h => exact ⟨rfl, rfl, rfl, h, rfl⟩
  case isFalse h =>
    rw [State.writeRootFrame_of_ne h]
    exact ⟨rfl, rfl, rfl, rfl, updAt_length _ _ _⟩

/-- A snapshot's frames are counted by the tables, which the root staging frame does not move. -/
theorem RootWritten.snapshotFrames {s t : State} (h : RootWritten s t) : t.snapshotFrames = s.snapshotFrames := by
  have hnext : t.map.nextSeg = s.map.nextSeg := (congrArg MapState.nextSeg h.map :)
  have hdirs : t.map.dirs = s.map.dirs := (congrArg MapState.dirs h.map :)
  have hjobs : t.map.jobs = s.map.jobs := (congrArg MapState.jobs h.map :)
  simp only [State.snapshotFrames, State.rootParts, State.populatedDies, hnext, hdirs, hjobs, h.img]

/-- The next epoch begins, with all frames of its snapshot to come. -/
def State.beginEpoch (s : State) : State :=
  { s with map := { s.map with epoch := s.map.epoch + 1, rootSince := 0, snapRound := s.obs.rounds, snapNew := [], snapLeft := s.snapshotFrames.length + 1,
                               snapRoot := s.map.rootFrames } }

theorem State.rootSnapshot_eq (s : State) : s.rootSnapshot =
    s.rootStaged.snapshotFrames.foldl (fun t (k, i, p) => t.queuePayload 6 (.snapFrame (s.rootStaged.map.epoch + 1) k i p {}))
      (s.rootStaged.beginEpoch.queuePayload 6 (.snapshot (s.rootStaged.map.epoch + 1) s.rootStaged.map.rootFrames
        (s.rootStaged.snapshotFrames.map fun (k, i, _) => (k, i)))) := rfl

theorem State.rootSnapshot_map (s : State) : s.rootSnapshot.map = s.rootStaged.beginEpoch.map := by
  rw [State.rootSnapshot_eq]
  refine (fold_left (fun s => s.map) _ ?_ _ _).trans rfl
  exact fun _ _ => rfl
theorem State.rootSnapshot_index {s : State} (h : 6 < s.rootStaged.girth.streams.length) :
    .snapshot (s.rootStaged.map.epoch + 1) s.rootStaged.map.rootFrames (s.rootStaged.snapshotFrames.map fun (k, i, _) => (k, i)) ∈ (s.rootSnapshot.stream 6).list := by
  rw [State.rootSnapshot_eq]
  exact State.foldl_queuePayload_keeps (fun x : Nat × Nat × SnapPart => .snapFrame (s.rootStaged.map.epoch + 1) x.1 x.2.1 x.2.2 {}) _
    (State.queuePayload_mem h _)

theorem execRootSnapshot_of_due {s : State} (hon : s.engines 8 = true) (hdue : 1048576 ≤ s.map.rootSince ∨ s.map.snapRound + 4096 ≤ s.obs.rounds)
    (hnone : s.map.snapLeft = 0) : execRootSnapshot s = .next s.rootSnapshot.settle := if_pos ⟨hon, hdue, hnone⟩
theorem execRootSnapshot_of_not {s : State} (h : s.engines 8 = false ∨ s.map.snapLeft ≠ 0) : execRootSnapshot s = .next s :=
  if_neg (by rcases h with h | h <;> simp [h])

/-! ### The obligation -/

/-- Settles O21: a victim by the operations that list it and walk it, a set by what its evacuation leaves of the girth engine, and a run or a snapshot by the
payloads that join stream 6. -/
theorem victimsRebuildsAndErasesAreTaken : Obligations.VictimsRebuildsAndErasesAreTaken := by
  unfold Obligations.VictimsRebuildsAndErasesAreTaken
  refine ⟨?victim, fun s h => execVictimTake_of_idle (.inr h), State.nextVictim_rows, ?gate, fun s b h => execEraseGateOpen_of_not (.inr h),
    fun s b h => State.gateOpen_spec h, fun s h => execRebuildTake_of_idle (.inr h), ?lost, ?rebuild, ?reshape, ?run,
    fun s seg hseg h => execJournalStageAge_of_young hseg h, ?root, ?snapshot, fun s h => execRootSnapshot_of_not (.inr h), ?off⟩
  case victim =>
    intro s b hon hroom hload hnext
    obtain ⟨hactive, hmode, hwalked⟩ := (s.count1 0x070).takeVictim_spec b
    refine ⟨_, execVictimTake_of_some hon hroom hload hnext, ?_, ?_, ?_⟩
    · rw [State.joinActive_active, hactive]; rfl
    · rw [State.joinActive_blkRec, hmode]; rfl
    · rw [State.joinActive_blkRec, hwalked]
  case gate =>
    intro s b hon hgate
    exact ⟨_, execEraseGateOpen_of_open hon hgate,
      congrArg BlockRec.intent (s.modBlk_blkRec b fun r => { r with intent := true }), rfl, rfl, rfl, rfl⟩
  case lost =>
    intro s hon hsets hlost
    obtain ⟨hfound, hcycle, hwaiters⟩ := s.replacePair_spec
    exact ⟨_, execRebuildTake_of_lost hon hsets hlost, hfound, hcycle, congrArg (· + 1) hwaiters⟩
  case rebuild =>
    intro s k hon hsets hlost hload hlist hnext hroom
    have hbook := (s.takeRebuild k).evacuateSet_setBook k
    exact ⟨_, execRebuildTake_of_rebuild hon hsets hlost hload hlist hnext hroom, fun hended => State.evacuateSet_state hended,
      (congrArg GirthState.rebuilding hbook :), (congrArg GirthState.rebuild hbook :)⟩
  case reshape =>
    intro s k hon hsets hlost hload hlist hnext hroom
    have hbook := (s.takeReshape k).evacuateSet_setBook k
    exact ⟨_, execRebuildTake_of_reshape hon hsets hlost hload hlist hnext hroom, fun hended => State.evacuateSet_state hended,
      (congrArg GirthState.reshaping hbook :)⟩
  case run =>
    intro s seg hon hseg hstaging hage
    exact ⟨_, execJournalStageAge_of_seg hon hseg hstaging hage, State.writeRun_spec hstaging⟩
  case root =>
    intro s hon hstaging hage
    refine ⟨_, execJournalStageAge_of_root hon hstaging hage, ?_⟩
    rw [State.writeRootFrame_of_ne hstaging]
    exact ⟨rfl, rfl, fun hlt => State.queuePayload_mem hlt _⟩
  case snapshot =>
    intro s hon hdue hnone
    have hwritten := s.rootStaged_spec
    have hepoch : s.rootStaged.map.epoch = s.map.epoch := (congrArg MapState.epoch hwritten.map :)
    have hsegs : s.rootStaged.map.segs = s.map.segs := (congrArg MapState.segs hwritten.map :)
    refine ⟨_, execRootSnapshot_of_due hon hdue hnone, ?_⟩
    rw [State.rootSnapshot_map, ← hepoch, ← hsegs, ← hwritten.snapshotFrames, ← hwritten.obs]
    exact ⟨rfl, rfl, rfl, rfl, rfl, hwritten.empty, rfl, fun hlt => State.rootSnapshot_index (by rwa [hwritten.streams])⟩
  case off =>
    intro s h
    exact ⟨execVictimTake_of_idle (.inl h), fun b => execEraseGateOpen_of_not (.inl h), execRebuildTake_of_idle (.inl h),
      fun seg => execJournalStageAge_of_off h, execRootSnapshot_of_not (.inl h)⟩

end Sys2Proof.Machine
end

section
/-! What the girth engine and the map leave of the host's desk: the front end, the media and the keys stand as they were while sets and blocks end, runs,
checkpoints and root records are written (for O36 and O39). -/
namespace Sys2Proof.Machine

@[simp] theorem ite_fe (c : Prop) [Decidable c] (a b : State) : (if c then a else b).fe = if c then a.fe else b.fe := by split <;> rfl
@[simp] theorem foldl_fe {α : Type} (g : State → α → State) (h : ∀ s a, (g s a).fe = s.fe) (l : List α) (s : State) : (l.foldl g s).fe = s.fe :=
  fold_left (fun s => s.fe) g h l s

/-! ### Runs, checkpoints and the root (R154, R155, R158) -/

@[simp] theorem State.queuePayload_desk (s : State) (n : Nat) (p : Payload) : (s.queuePayload n p).fe = s.fe ∧ (s.queuePayload n p).media = s.media ∧ (s.queuePayload n p).cipher = s.cipher := by simp [State.queuePayload]
@[simp] theorem State.awaitOne_desk (s : State) (k : Nat × Nat) : (s.awaitOne k).fe = s.fe ∧ (s.awaitOne k).media = s.media ∧ (s.awaitOne k).cipher = s.cipher := by simp [State.awaitOne]
@[simp] theorem State.writeRootFrame_desk (s : State) : s.writeRootFrame.fe = s.fe ∧ s.writeRootFrame.media = s.media ∧ s.writeRootFrame.cipher = s.cipher := by simp [State.writeRootFrame]
@[simp] theorem State.rootRec_desk (s : State) (r : RootRec) : (s.rootRec r).fe = s.fe ∧ (s.rootRec r).media = s.media ∧ (s.rootRec r).cipher = s.cipher := by simp [State.rootRec]
@[simp] theorem State.writeRunOnly_desk (s : State) (seg : Nat) : (s.writeRunOnly seg).fe = s.fe ∧ (s.writeRunOnly seg).media = s.media ∧ (s.writeRunOnly seg).cipher = s.cipher := by simp [State.writeRunOnly]
@[simp] theorem State.startCkpt_desk (s : State) (seg : Nat) : (s.startCkpt seg).fe = s.fe ∧ (s.startCkpt seg).media = s.media ∧ (s.startCkpt seg).cipher = s.cipher := by simp [State.startCkpt]
@[simp] theorem State.writeRun_desk (s : State) (seg : Nat) (awaited : Bool) : (s.writeRun seg awaited).fe = s.fe ∧ (s.writeRun seg awaited).media = s.media ∧ (s.writeRun seg awaited).cipher = s.cipher := by simp [State.writeRun]
@[simp] theorem State.awaitKey_desk (s : State) (k : Nat × Nat) : (s.awaitKey k).fe = s.fe ∧ (s.awaitKey k).media = s.media ∧ (s.awaitKey k).cipher = s.cipher := by simp [State.awaitKey]
@[simp] theorem State.requestRuns_desk (s : State) (b : Nat) : (s.requestRuns b).fe = s.fe ∧ (s.requestRuns b).media = s.media ∧ (s.requestRuns b).cipher = s.cipher := by simp [State.requestRuns]

/-! ### Blocks and sets (R146, R168, R170, R180) -/

@[simp] theorem State.vcRemove_desk (s : State) (b : Nat) : (s.vcRemove b).fe = s.fe ∧ (s.vcRemove b).media = s.media ∧ (s.vcRemove b).cipher = s.cipher := by simp [State.vcRemove]
@[simp] theorem State.vcAdd_desk (s : State) (b : Nat) : (s.vcAdd b).fe = s.fe ∧ (s.vcAdd b).media = s.media ∧ (s.vcAdd b).cipher = s.cipher := by simp [State.vcAdd]
@[simp] theorem State.unforce_desk (s : State) (b : Nat) : (s.unforce b).fe = s.fe ∧ (s.unforce b).media = s.media ∧ (s.unforce b).cipher = s.cipher := by simp [State.unforce]
@[simp] theorem State.force_desk (s : State) (b list : Nat) : (s.force b list).fe = s.fe ∧ (s.force b list).media = s.media ∧ (s.force b list).cipher = s.cipher := by simp [State.force]
@[simp] theorem State.closedAdd_desk (s : State) (b : Nat) : (s.closedAdd b).fe = s.fe ∧ (s.closedAdd b).media = s.media ∧ (s.closedAdd b).cipher = s.cipher := by simp [State.closedAdd]
@[simp] theorem State.closedRemove_desk (s : State) (b : Nat) : (s.closedRemove b).fe = s.fe ∧ (s.closedRemove b).media = s.media ∧ (s.closedRemove b).cipher = s.cipher := by simp [State.closedRemove]
@[simp] theorem State.unlist_desk (s : State) (b : Nat) : (s.unlist b).fe = s.fe ∧ (s.unlist b).media = s.media ∧ (s.unlist b).cipher = s.cipher := by simp [State.unlist]
@[simp] theorem State.victimDone_desk (s : State) (b : Nat) : (s.victimDone b).fe = s.fe ∧ (s.victimDone b).media = s.media ∧ (s.victimDone b).cipher = s.cipher := by simp [State.victimDone]
@[simp] theorem State.closeBlock_desk (s : State) (b : Nat) : (s.closeBlock b).fe = s.fe ∧ (s.closeBlock b).media = s.media ∧ (s.closeBlock b).cipher = s.cipher := by simp [State.closeBlock]
@[simp] theorem State.ledger_desk (s : State) (e : LedgerEntry) (waits : Bool) : (s.ledger e waits).fe = s.fe ∧ (s.ledger e waits).media = s.media ∧ (s.ledger e waits).cipher = s.cipher := by simp [State.ledger]
@[simp] theorem State.endSet_desk (s : State) (k reason : Nat) : (s.endSet k reason).fe = s.fe ∧ (s.endSet k reason).media = s.media ∧ (s.endSet k reason).cipher = s.cipher := by simp [State.endSet]
@[simp] theorem State.closeSetBlocks_desk (s : State) (k : Nat) : (s.closeSetBlocks k).fe = s.fe ∧ (s.closeSetBlocks k).media = s.media ∧ (s.closeSetBlocks k).cipher = s.cipher := by simp [State.closeSetBlocks]
@[simp] theorem State.endSetNow_desk (s : State) (k reason : Nat) : (s.endSetNow k reason).fe = s.fe ∧ (s.endSetNow k reason).media = s.media ∧ (s.endSetNow k reason).cipher = s.cipher := by simp [State.endSetNow]

/-! ### A namespace's segments return, and its placements (R131, R138, R155) -/

@[simp] theorem State.serveBank_desk (s : State) (b n : Nat) : (s.serveBank b n).fe = s.fe ∧ (s.serveBank b n).media = s.media ∧ (s.serveBank b n).cipher = s.cipher := by
  induction n generalizing s with
  | zero => exact ⟨rfl, rfl, rfl⟩
  | succ n ih =>
    unfold State.serveBank
    dsimp only
    split
    · exact ⟨rfl, rfl, rfl⟩
    · split
      · exact ⟨rfl, rfl, rfl⟩
      · simp only [ih]
        split <;> simp
@[simp] theorem State.mcMaintain_desk (s : State) (b kind : Nat) (las : List Nat) : (s.mcMaintain b kind las).fe = s.fe ∧ (s.mcMaintain b kind las).media = s.media ∧ (s.mcMaintain b kind las).cipher = s.cipher := by simp [State.mcMaintain]
@[simp] theorem State.mcInvalidateSegment_desk (s : State) (seg : Nat) : (s.mcInvalidateSegment seg).fe = s.fe ∧ (s.mcInvalidateSegment seg).media = s.media ∧ (s.mcInvalidateSegment seg).cipher = s.cipher := by simp [State.mcInvalidateSegment]
@[simp] theorem State.addBuffered_desk (s : State) (nsx unit : Nat) (up : Bool) : (s.addBuffered nsx unit up).fe = s.fe ∧ (s.addBuffered nsx unit up).media = s.media ∧ (s.addBuffered nsx unit up).cipher = s.cipher := by
  unfold State.addBuffered
  refine ⟨foldl_fe _ (fun s a => ?_) _ s, foldl_media _ (fun s a => ?_) _ s, foldl_cipher _ (fun s a => ?_) _ s⟩ <;> split <;> rfl
@[simp] theorem State.sumDirty_desk (s : State) : s.sumDirty.fe = s.fe ∧ s.sumDirty.media = s.media ∧ s.sumDirty.cipher = s.cipher := by simp [State.sumDirty]
@[simp] theorem State.wbiRelease_desk (s : State) (nsx unit : Nat) : (s.wbiRelease nsx unit).fe = s.fe ∧ (s.wbiRelease nsx unit).media = s.media ∧ (s.wbiRelease nsx unit).cipher = s.cipher := by
  unfold State.wbiRelease
  split <;> simp
@[simp] theorem State.setValid_desk (s : State) (b valid : Nat) : (s.setValid b valid).fe = s.fe ∧ (s.setValid b valid).media = s.media ∧ (s.setValid b valid).cipher = s.cipher := by simp [State.setValid]
@[simp] theorem State.freeRun_desk (s : State) (gaddr glen : Nat) : (s.freeRun gaddr glen).fe = s.fe ∧ (s.freeRun gaddr glen).media = s.media ∧ (s.freeRun gaddr glen).cipher = s.cipher := by simp [State.freeRun]
@[simp] theorem State.freeChain_desk (s : State) (d : SegDesc) (below : Nat) : (s.freeChain d below).fe = s.fe ∧ (s.freeChain d below).media = s.media ∧ (s.freeChain d below).cipher = s.cipher := by
  unfold State.freeChain
  refine ⟨(foldl_fe _ (fun s a => ?_) _ _).trans (by simp), (foldl_media _ (fun s a => ?_) _ _).trans (by simp),
    (foldl_cipher _ (fun s a => ?_) _ _).trans (by simp)⟩ <;> (repeat' split) <;> simp
@[simp] theorem State.dropRuns_desk (s : State) (g : Nat) : (s.dropRuns g).fe = s.fe ∧ (s.dropRuns g).media = s.media ∧ (s.dropRuns g).cipher = s.cipher := by simp [State.dropRuns]
@[simp] theorem State.returnSeg_desk (s : State) (g : Nat) : (s.returnSeg g).fe = s.fe ∧ (s.returnSeg g).media = s.media ∧ (s.returnSeg g).cipher = s.cipher := by simp [State.returnSeg]
@[simp] theorem State.returnSpace_desk (s : State) (nsx : Nat) : (s.returnSpace nsx).fe = s.fe ∧ (s.returnSpace nsx).media = s.media ∧ (s.returnSpace nsx).cipher = s.cipher := by simp [State.returnSpace]
@[simp] theorem State.dropPlacement_desk (s : State) (p : Nat → Bool) (blocks : List Nat) : (s.dropPlacement p blocks).fe = s.fe ∧ (s.dropPlacement p blocks).media = s.media ∧ (s.dropPlacement p blocks).cipher = s.cipher := by simp [State.dropPlacement]

end Sys2Proof.Machine
end

section
/-! Dataset Management, Secure Discard, and the placement handles' commands (O39): R147 to R151, R264, R266. -/
namespace Sys2Proof.Machine

/-! ### Discards (R147 to R149) -/

/-- The discards of a list of ranges take the units of each range in turn. -/
theorem State.discardRanges_eq (s : State) (tag : Nat) (n : Namespace) (sdp : Bool) (rs : List LbaRange) :
    rs.foldl (fun s r => s.addDiscards tag n r.slba r.nlb sdp) s =
      s.addUnits tag (rs.flatMap fun r => (unitSpans n r.slba r.nlb).flatMap (discardJobs tag n (s.handle0 n) sdp)) :=
  State.foldl_addUnits (js := fun s r => (unitSpans n r.slba r.nlb).flatMap (discardJobs tag n (s.handle0 n) sdp))
    (fun s r => s.addDiscards_eq tag n r.slba r.nlb sdp) (fun s ks r => by simp) rs s

/-- A command without a unit left succeeds; one with units goes on. -/
theorem State.cmdStep_spec {u : State} {tag : Nat} {d : Cmd} (hrow : u.cmd tag = some d) (hopen : d.result = none) (hlate : Table.find u.fe.late tag = none) :
    (d.units = [] → ∃ e, (u.cmdStep tag).cmd tag = some e ∧ e.result = some ok) ∧ (d.units ≠ [] → u.cmdStep tag = u) := by
  refine ⟨fun hunits => ?_, fun hunits => ?_⟩
  · have hstep : u.cmdStep tag = u.finishCode tag ok 0 := by simp [State.cmdStep, State.finish, hrow, hopen, hlate, hunits]
    obtain ⟨hended, -⟩ := State.finishCode_spec (r := ok) (code := 0) hrow hopen
    exact ⟨_, hstep ▸ hended, rfl⟩
  · simp [State.cmdStep, hrow, hunits]

/-- A command waits for more than its units. -/
def State.waitsLate (s : State) (tag : Nat) (e : LateEnd) : State := { s with fe := { s.fe with late := Table.set s.fe.late tag e } }

theorem State.addUnits_late (s : State) (tag : Nat) (js : List UnitJob) : (s.addUnits tag js).fe.late = s.fe.late :=
  fold_left (fun s => s.fe.late) (fun s j => s.addUnit tag j) (fun _ _ => rfl) js s

/-- What a command waits for besides its units does not touch them. -/
theorem UnitsTaken.of_waitsLate {s u : State} {tag : Nat} {e : LateEnd} {row : Cmd} {js : List UnitJob} (h : UnitsTaken (s.waitsLate tag e) u tag row js) :
    UnitsTaken s u tag row js := h

section AtHand
variable {s : State} {tag cid : Nat} {c : Cmd} {q : Sq} {x : SqSide} {cq : Cq} {n : Namespace}

theorem AtHand.waitsLate (h : AtHand s tag c q x cq cid) (e : LateEnd) : AtHand (s.waitsLate tag e) tag c q x cq cid :=
  ⟨h.row, h.fresh, h.owes, h.fetched, h.queue, h.side, h.place, h.room, h.alone, h.runs, h.awake, h.queued⟩

/-- What a DSM with AD comes to on its namespace. -/
theorem AtHand.dsmDeallocate (h : AtHand s tag c q x cq cid) {ranges : List LbaRange} (hw : c.waits false 0x09 = true)
    (had : bitField (dw c.entry 11) 2 1 = 1) (hn : s.cmdSpace c = some n) : ∃ t, execDsmDeallocate tag ranges s = .next t ∧
      (rangesBeyond n (cmdRanges c ranges) = true → Served s t tag q x cq cid (stat 0 0x80) c.out) ∧
      (rangesBeyond n (cmdRanges c ranges) = false → ∃ u : State, t = (u.cmdStep tag).settle.postAll.arrayPump ∧
        UnitsTaken s u tag c ((cmdRanges c ranges).flatMap fun r => (unitSpans n r.slba r.nlb).flatMap (discardJobs tag n (s.handle0 n) false))) := by
  have begun := Begun.self s tag
  refine ⟨_, rfl, ?_⟩
  rw [h.onSpace_of_some hw (by simp [had]) hn]
  refine ⟨fun hbeyond => ?_, fun hbeyond => ?_⟩ <;> simp only [hbeyond, Bool.false_eq_true, if_true, if_false]
  · exact h.served_malformed c _ begun
  · exact ⟨_, rfl, by rw [State.discardRanges_eq]; exact (h.opened begun).take _⟩

/-- What a Secure Discard comes to on its namespace. -/
theorem AtHand.secureDiscard (h : AtHand s tag c q x cq cid) {ranges rs : List LbaRange} (hw : c.waits false 0x89 = true) (hn : s.cmdSpace c = some n)
    (hrs : rs = cmdRanges c ranges) : ∃ t, execSecureDiscard tag ranges s = .next t ∧
      (s.writeProtected = true → Served s t tag q x cq cid (stat 0 0x20) c.out) ∧
      (s.writeProtected = false → rangesBeyond n rs = true → Served s t tag q x cq cid (stat 0 0x80) c.out) ∧
      (s.writeProtected = false → rangesBeyond n rs = false → 16 ≤ s.jobsTaken → Served s t tag q x cq cid (stat 0 0x21) c.out) ∧
      (s.writeProtected = false → rangesBeyond n rs = false → s.jobsTaken < 16 → ∃ u : State, t = u.settle.postAll.arrayPump ∧
        Table.find u.fe.late tag = some (.discard n.nsx (rs.map (rangeUnits n))) ∧
        UnitsTaken s u tag c (rs.flatMap fun r => (unitSpans n r.slba r.nlb).flatMap (discardJobs tag n (s.handle0 n) true))) := by
  have begun := Begun.self s tag
  have htaken : (s.modCmd tag fun c => { c with started := true }).jobsTaken = s.jobsTaken := rfl
  refine ⟨_, rfl, ?_⟩
  rw [h.onSpace_of_some hw rfl hn]
  simp only [State.modCmd_writeProtected, htaken, ← hrs]
  clear hrs
  refine ⟨fun hprot => ?_, fun hprot hbeyond => ?_, fun hprot hbeyond hfull => ?_, fun hprot hbeyond hroom => ?_⟩ <;>
    simp only [Bool.false_eq_true, if_true, if_false, *]
  · exact h.served_finish _ 0 begun
  · exact h.served_malformed c _ begun
  · exact h.served_finish _ 0 begun
  · rw [if_neg (Nat.not_le.mpr hroom)]
    have late := (h.waitsLate (.discard n.nsx (rs.map (rangeUnits n)))).opened (Begun.self _ tag)
    refine ⟨_, rfl, ?_, UnitsTaken.of_waitsLate (e := .discard n.nsx (rs.map (rangeUnits n))) ?_⟩
    · rw [State.discardRanges_eq, State.addUnits_late]
      exact Table.find_set_self _ _ _
    · rw [State.discardRanges_eq]
      exact late.take _

end AtHand

/-! ### The bytes of a reclaim unit handle's descriptor (R5, R266) -/

theorem toBytes_length (len x : Nat) : (toBytes len x).length = len := by
  induction len generalizing x with
  | zero => rfl
  | succ len ih => simp [toBytes, ih]
theorem toBytes_take (len more x : Nat) : (toBytes (len + more) x).take len = toBytes len x := by
  induction len generalizing x with
  | zero => rfl
  | succ len ih => rw [Nat.succ_add]; simp [toBytes, ih]
/-- What stands above a number's bytes does not show in them. -/
theorem toBytes_add (len x z : Nat) : toBytes len (x + 256 ^ len * z) = toBytes len x := by
  induction len generalizing x with
  | zero => rfl
  | succ len ih =>
    have hrest : (x + 256 ^ (len + 1) * z) / 256 = x / 256 + 256 ^ len * z := by
      rw [pow_succ, mul_comm _ 256, mul_assoc, Nat.add_mul_div_left _ _ (by decide)]
    have hlow : BitVec.ofNat 8 (x + 256 ^ (len + 1) * z) = BitVec.ofNat 8 x := by
      refine BitVec.eq_of_toNat_eq ?_
      rw [BitVec.toNat_ofNat, BitVec.toNat_ofNat, pow_succ, mul_comm _ 256, mul_assoc]
      exact Nat.add_mul_mod_self_left _ _ _
    simp only [toBytes, hrest, hlow, ih]

/-- The first bytes of a longer structure are those of its low part. -/
theorem toBytes_low (len more x z : Nat) {k : Nat} (h : k < len) : (toBytes (len + more) (x + 256 ^ len * z))[k]? = (toBytes len x)[k]? := by
  rw [← toBytes_add len x z, ← toBytes_take len more, List.getElem?_take_of_lt h]

theorem flatMap_length_of_width {α β : Type} {f : α → List β} {w : Nat} (hw : ∀ a, (f a).length = w) (l : List α) : (l.flatMap f).length = w * l.length := by
  simp [List.length_flatMap, hw, mul_comm]
/-- Blocks of one width, one after the other: where the bytes of each stand. -/
theorem flatMap_getElem?_of_width {α β : Type} {f : α → List β} {w : Nat} (hw : ∀ a, (f a).length = w) {l : List α} {i k : Nat} {a : α} (ha : l[i]? = some a)
    (hk : k < w) : (l.flatMap f)[w * i + k]? = (f a)[k]? := by
  induction l generalizing i with
  | nil => simp at ha
  | cons b l ih =>
    rw [List.flatMap_cons]
    cases i with
    | zero =>
      obtain rfl : b = a := by simpa using ha
      rw [Nat.mul_zero, Nat.zero_add, List.getElem?_append_left (by rw [hw]; exact hk)]
    | succ i =>
      have hplace : w * (i + 1) + k = w + (w * i + k) := by ring
      rw [hplace, List.getElem?_append_right (by rw [hw]; omega), hw, Nat.add_sub_cancel_left]
      exact ih (by simpa using ha)

/-- The status of the placement handles: a header of 16 bytes, and 32 bytes for each. -/
def handleStatus (hs : List Nat) (free : Nat) : List Byte :=
  toBytes 16 (hs.length * 2 ^ 112) ++ hs.zipIdx.flatMap fun (h, i) => toBytes 32 (i + 2 ^ 16 * h + 2 ^ 64 * Config.ruhRoom h free)

theorem handleStatus_length (hs : List Nat) (free : Nat) : (handleStatus hs free).length = 16 + 32 * hs.length := by
  rw [handleStatus, List.length_append, toBytes_length, flatMap_length_of_width (fun (h, i) => toBytes_length 32 _), List.length_zipIdx]
theorem handleStatus_getElem? {hs : List Nat} {free i h k : Nat} (hi : hs[i]? = some h) (hk : k < 4) :
    (handleStatus hs free)[16 + 32 * i + k]? = (toBytes 4 (i + 65536 * h))[k]? := by
  have hpair : hs.zipIdx[i]? = some (h, i) := by simp [hi]
  have hparts : i + 2 ^ 16 * h + 2 ^ 64 * Config.ruhRoom h free = i + 65536 * h + 256 ^ 4 * (2 ^ 32 * Config.ruhRoom h free) := by ring
  rw [handleStatus, List.getElem?_append_right (by rw [toBytes_length]; omega), toBytes_length, Nat.add_assoc, Nat.add_sub_cancel_left,
    flatMap_getElem?_of_width (fun (h, i) => toBytes_length 32 _) hpair (by omega)]
  simp only [hparts]
  exact toBytes_low 4 28 _ _ hk

/-! ### Reclaim unit handles (R150, R151, R266) -/

/-- A value of the free environment is drawn. -/
theorem Begun.draw {s v : State} {tag : Nat} (b : Begun s v tag) (k : Nat) : Begun s { v with free := k } tag := ⟨b.fe, b.frame, b.data, b.pkg, b.fault⟩

@[simp] theorem State.endHandle_desk (s : State) (h : Nat) : (s.endHandle h).fe.cmds = s.fe.cmds ∧ (s.endHandle h).media = s.media := by
  unfold State.endHandle State.fdpEvent
  split
  · simp
  · split <;> simp

section AtHand
variable {s : State} {tag cid : Nat} {c : Cmd} {q : Sq} {x : SqSide} {cq : Cq} {n : Namespace} {hs : List Nat}

/-- What an I/O Management Receive comes to on its namespace. -/
theorem AtHand.ioMgmtReceive (h : AtHand s tag c q x cq cid) (hw : c.waits false 0x12 = true) (hn : s.cmdSpace c = some n)
    (hhs : hs = if n.handles = [] then [0] else n.handles) : ∃ t, execIoMgmtReceive tag s = .next t ∧
      (s.map.fdp = false → Served s t tag q x cq cid invalidField c.out) ∧
      (s.map.fdp = true → Served s t tag q x cq cid ok ((handleStatus hs s.free).take (4 * (dw c.entry 11 + 1)))) := by
  have hfdp : (s.modCmd tag fun c => { c with started := true }).map.fdp = s.map.fdp := rfl
  refine ⟨_, rfl, ?_⟩
  rw [h.onSpace_of_some hw rfl hn]
  simp only [hfdp, ← hhs]
  clear hhs
  refine ⟨fun hoff => ?_, fun hon => ?_⟩ <;> simp only [Bool.not_false, Bool.not_true, Bool.false_eq_true, if_true, if_false, *]
  · exact h.served_finish _ 0 (Begun.self s tag)
  · exact h.served_answer _ ((Begun.self s tag).draw _)

/-- The girths of the handles named. -/
def State.handleGirths (s : State) (hs : List Nat) : List Nat := hs.flatMap fun h => (s.girth.girths.filter fun (_, g) => decide (g.stream = h)).map (·.1)

theorem State.mem_handleGirths {s : State} {hs : List Nat} {g : Nat} {y : Girth} (hg : (g, y) ∈ s.girth.girths) (hy : y.stream ∈ hs) : g ∈ s.handleGirths hs := by
  simp only [State.handleGirths, List.mem_flatMap, List.mem_map, List.mem_filter, decide_eq_true_eq]
  exact ⟨_, hy, (g, y), ⟨hg, rfl⟩, rfl⟩

/-- The sets of the handles named end. -/
def State.endHandles (s : State) (hs : List Nat) : State := hs.foldl State.endHandle s

theorem State.endHandles_desk (s : State) (hs : List Nat) : (s.endHandles hs).fe.cmds = s.fe.cmds ∧ (s.endHandles hs).media = s.media :=
  ⟨fold_left (fun s => s.fe.cmds) State.endHandle (fun s h => by simp) hs s, fold_left (fun s => s.media) State.endHandle (fun s h => by simp) hs s⟩
theorem State.endHandles_frame (s : State) (hs : List Nat) : SameFrame s (s.endHandles hs) := by simp [SameFrame, State.endHandles]

/-- What a Reclaim Unit Handle Update comes to on its namespace. -/
theorem AtHand.ruhUpdate (h : AtHand s tag c q x cq cid) {ids taken : List Nat} (hw : c.waits false 0x1D = true) (hn : s.cmdSpace c = some n)
    (hhs : hs = if n.handles = [] then [0] else n.handles) (htaken : taken = ids.take (bitField (dw c.entry 10) 16 16 + 1)) :
    ∃ t, execRuhUpdate tag ids s = .next t ∧
      (s.map.fdp = false → Served s t tag q x cq cid invalidField c.out) ∧
      (s.map.fdp = true → (∃ i ∈ taken, hs.length ≤ i) → Served (s.fdpEvent 0x03 (n.handles.getD 0 0)) t tag q x cq cid invalidField c.out) ∧
      (s.map.fdp = true → (∀ i ∈ taken, i < hs.length) → t = (((s.modCmd tag fun c => { c with started := true }).endHandles
        (taken.filterMap fun i => hs[i]?).eraseDups).waitsLate tag (.handles (s.handleGirths (taken.filterMap fun i => hs[i]?).eraseDups))).settle.postAll.arrayPump) := by
  have hfdp : (s.modCmd tag fun c => { c with started := true }).map.fdp = s.map.fdp := rfl
  refine ⟨_, rfl, ?_⟩
  rw [h.onSpace_of_some hw rfl hn]
  simp only [hfdp, ← hhs, ← htaken]
  clear hhs htaken
  refine ⟨fun hoff => ?_, fun hon hbad => ?_, fun hon hgood => ?_⟩ <;> simp only [Bool.not_false, Bool.not_true, Bool.false_eq_true, if_true, if_false, *]
  · exact h.served_finish _ 0 (Begun.self s tag)
  · rw [if_pos (by simpa using hbad)]
    exact h.served_badHandle n
  · rw [if_neg (by simpa using hgood)]
    rfl

end AtHand

/-! ### The obligation -/

/-- Settles O39: what each command comes to on its namespace, from the jobs that its ranges take and the sets that its handles end. -/
theorem discardsAndHandlesAreServed : Obligations.DiscardsAndHandlesAreServed := by
  unfold Obligations.DiscardsAndHandlesAreServed
  intro s tag c q x cq cid h
  refine ⟨?dsm, fun u d hrow hopen hlate => State.cmdStep_spec hrow hopen hlate, ?none, ?secure, ?receive, ?update⟩
  case dsm =>
    intro ranges hw had
    refine ⟨_, rfl, fun hn => h.onSpace_of_none hw (by simp [had]) hn, ?_⟩
    rintro n rs hn rfl
    obtain ⟨t, ht, hspec⟩ := h.dsmDeallocate (ranges := ranges) hw had hn
    cases ht
    exact hspec
  case none =>
    intro hw had
    refine ⟨_, rfl, fun hn => h.onSpace_of_none hw (by simp [had]) hn, fun n hn => ?_⟩
    rw [h.onSpace_of_some hw (by simp [had]) hn]
    exact h.served_finish ok 0 (Begun.self s tag)
  case secure =>
    intro ranges hw
    refine ⟨_, rfl, fun hn => h.onSpace_of_none hw rfl hn, fun n rs hn hrs => ?_⟩
    obtain ⟨t, ht, hspec⟩ := h.secureDiscard hw hn hrs
    cases ht
    exact hspec
  case receive =>
    intro hw
    refine ⟨_, rfl, fun hn => h.onSpace_of_none hw rfl hn, fun n hs hn hhs => ?_⟩
    obtain ⟨t, ht, hoff, hon⟩ := h.ioMgmtReceive hw hn hhs
    cases ht
    exact ⟨hoff, fun hfdp => ⟨_, handleStatus_length hs s.free, fun i h k hi hk => handleStatus_getElem? hi hk, hon hfdp⟩⟩
  case update =>
    intro ids hw
    refine ⟨_, rfl, fun hn => h.onSpace_of_none hw rfl hn, fun n hs taken hn hhs htaken => ?_⟩
    obtain ⟨t, ht, hoff, hbad, hgood⟩ := h.ruhUpdate hw hn hhs htaken
    cases ht
    refine ⟨hoff, hbad, fun hon hall => ⟨_, _, hgood hon hall, Table.find_set_self _ _ _, fun g y hg hy => ?_, ⟨{ c with started := true }, ?_, rfl, h.fresh.2.1⟩, ?_, ?_⟩⟩
    · obtain ⟨i, hi, hstream⟩ := hy
      exact State.mem_handleGirths hg (by rw [List.mem_eraseDups, List.mem_filterMap]; exact ⟨i, hi, hstream⟩)
    · have hcmds := (State.endHandles_desk (s.modCmd tag fun c => { c with started := true }) (taken.filterMap fun i => hs[i]?).eraseDups).1
      exact (congrArg (fun t => Table.find t tag) hcmds).trans h.started
    · exact SameFrame.trans (t := s.modCmd tag fun c => { c with started := true }) (by simp [SameFrame]) (State.endHandles_frame _ _)
    · exact (State.endHandles_desk _ _).2

end Sys2Proof.Machine
end

section
/-! Units of work end (for O36): what a command's interruption, an erased namespace, a new key slot and a dropped root leave of the front end, and that none of
them brings a job. -/
namespace Sys2Proof.Machine

/-! ### The front end's settings -/

/-- The front end but for its work: the rows, the jobs, the completions due, the errors logged and the units whose LBA Status is kept. -/
def FeState.settings (f : FeState) : FeState := { f with cmds := [], jobs := [], ready := [], errors := [], errorCount := [], lbaStatus := [] }

/-- From `s` to `t` units of work may have ended, and their commands with them: no job has come, and the settings, the media and the owner's root key stand. -/
structure UnitsEnd (s t : State) : Prop where
  settings : t.fe.settings = s.fe.settings
  media : t.media = s.media
  owner : t.cipher.owner = s.cipher.owner
  jobs : ∀ g y, t.job g = some y → s.job g = some y

namespace UnitsEnd
variable {s t u : State}

theorem refl (s : State) : UnitsEnd s s := ⟨rfl, rfl, rfl, fun _ _ h => h⟩
theorem trans (h : UnitsEnd s t) (k : UnitsEnd t u) : UnitsEnd s u :=
  ⟨k.settings.trans h.settings, k.media.trans h.media, k.owner.trans h.owner, fun g y hy => h.jobs g y (k.jobs g y hy)⟩
theorem of_desk (h : t.fe = s.fe ∧ t.media = s.media ∧ t.cipher = s.cipher) : UnitsEnd s t := by
  obtain ⟨hfe, hmedia, hcipher⟩ := h
  exact ⟨by rw [hfe], hmedia, by rw [hcipher], fun g y hy => by rwa [State.job, hfe] at hy⟩
theorem foldl {α : Type} {g : State → α → State} (hg : ∀ s a, UnitsEnd s (g s a)) (l : List α) (s : State) : UnitsEnd s (l.foldl g s) := by
  induction l generalizing s with
  | nil => exact refl s
  | cons a l ih => exact (hg s a).trans (ih _)
/-- Keys and records of keys change, but for the owner's root key. -/
theorem withKeys (h : UnitsEnd s t) (ts : TsState) (cipher : CipherState) (howner : cipher.owner = t.cipher.owner) :
    UnitsEnd s { t with ts := ts, cipher := cipher } := ⟨h.settings, h.media, howner.trans h.owner, h.jobs⟩
theorem withCipher (h : UnitsEnd s t) (cipher : CipherState) (howner : cipher.owner = t.cipher.owner) : UnitsEnd s { t with cipher := cipher } :=
  h.withKeys t.ts cipher howner
theorem finish (h : UnitsEnd s t) (g : Nat) (r : CmdResult) : UnitsEnd s (t.finish g r) := by
  refine h.trans ⟨(congrArg FeState.settings (t.finishCode_rest g r 0) :), by simp, by simp, fun n y hy => ?_⟩
  rwa [State.job, State.finish_jobs] at hy
theorem leave (h : UnitsEnd s t) (code sev : Nat) (xs : List Nat) : UnitsEnd s (t.leave code sev xs) := h.trans (of_desk (by simp))

end UnitsEnd

/-! ### Jobs end (R14, R312) -/

theorem State.slotRead_desk (s : State) (g : Nat) : (s.slotRead g).fe = s.fe ∧ (s.slotRead g).media = s.media ∧ (s.slotRead g).cipher = s.cipher := ⟨rfl, rfl, rfl⟩
theorem State.jobLeavesSlot_desk (s : State) (t : Nat) :
    (s.jobLeavesSlot t).fe = s.fe ∧ (s.jobLeavesSlot t).media = s.media ∧ (s.jobLeavesSlot t).cipher = s.cipher := by
  unfold State.jobLeavesSlot
  split
  · exact s.slotRead_desk _
  · exact ⟨rfl, rfl, rfl⟩
/-- A job that is dropped leaves its command's row, and the table of jobs. -/
theorem State.dropJob_rest (s : State) (t : Nat) : { (s.dropJob t).fe with cmds := s.fe.cmds } = { s.fe with jobs := Table.del s.fe.jobs t } ∧
    (s.dropJob t).media = s.media ∧ (s.dropJob t).cipher = s.cipher := by
  obtain ⟨hfe, hmedia, hcipher⟩ := s.jobLeavesSlot_desk t
  have hjobs := congrArg (fun f : FeState => { f with cmds := s.fe.cmds, jobs := Table.del f.jobs t }) hfe
  unfold State.dropJob
  dsimp only
  split <;> exact ⟨hjobs, hmedia, hcipher⟩
theorem State.dropJob_jobs (s : State) (t : Nat) : (s.dropJob t).fe.jobs = Table.del s.fe.jobs t := (congrArg FeState.jobs (s.dropJob_rest t).1 :)
theorem State.dropJob_cipher (s : State) (t : Nat) : (s.dropJob t).cipher = s.cipher := (s.dropJob_rest t).2.2
theorem State.dropJob_unitsEnd (s : State) (t : Nat) : UnitsEnd s (s.dropJob t) := by
  obtain ⟨hfe, hmedia, hcipher⟩ := s.dropJob_rest t
  refine ⟨(congrArg FeState.settings hfe :), hmedia, congrArg CipherState.owner hcipher, fun g y hy => ?_⟩
  rw [State.job, State.dropJob_jobs] at hy
  by_cases h : g = t
  · rw [h, Table.find_del_self] at hy
    cases hy
  · rwa [Table.find_del_ne _ _ _ h] at hy

theorem State.jobFails_unitsEnd (s : State) (t : Nat) (r : CmdResult) : UnitsEnd s (s.jobFails t r) := by
  unfold State.jobFails
  split
  · exact (s.dropJob_unitsEnd t).finish _ r
  · exact s.dropJob_unitsEnd t
theorem State.jobFails_job (s : State) (t : Nat) (r : CmdResult) : (s.jobFails t r).job t = none := by
  have hdrop : (s.dropJob t).job t = none := by rw [State.job, State.dropJob_jobs, Table.find_del_self]
  unfold State.jobFails
  split
  · rwa [State.job, State.finish_jobs]
  · exact hdrop
theorem State.jobFails_cipher (s : State) (t : Nat) (r : CmdResult) : (s.jobFails t r).cipher = s.cipher := by
  unfold State.jobFails
  split
  · rw [← s.dropJob_cipher t]; simp
  · exact s.dropJob_cipher t

/-- A job among those that fail is gone at the end. -/
theorem State.foldl_jobFails_job {l : List Nat} {g : Nat} (h : g ∈ l) (r : CmdResult) (s : State) : (l.foldl (fun s t => s.jobFails t r) s).job g = none := by
  induction l generalizing s with
  | nil => cases h
  | cons t l ih =>
    rcases List.mem_cons.mp h with rfl | hl
    · have hgone : ∀ y, (s.jobFails g r).job g ≠ some y := fun y hy => by rw [State.jobFails_job] at hy; cases hy
      exact Option.eq_none_iff_forall_ne_some.mpr fun y hy => hgone y ((UnitsEnd.foldl (fun s t => s.jobFails_unitsEnd t r) l _).jobs g y hy)
    · exact ih hl _

theorem Table.mem_of_find {α : Type} {t : Table α} {k : Nat} {v : α} (h : Table.find t k = some v) : (k, v) ∈ t := by
  induction t with
  | nil => cases h
  | cons p t ih =>
    unfold Table.find at h
    split at h
    · next hk => rw [hk, Option.some.inj h.symm]; exact List.mem_cons_self
    · exact List.mem_cons_of_mem _ (ih h)

theorem State.failSpaceUnits_unitsEnd (s : State) (nsx : Nat) (r : CmdResult) : UnitsEnd s (s.failSpaceUnits nsx r) :=
  UnitsEnd.foldl (fun s t => s.jobFails_unitsEnd t r) _ s
theorem State.failSpaceUnits_cipher (s : State) (nsx : Nat) (r : CmdResult) : (s.failSpaceUnits nsx r).cipher = s.cipher :=
  fold_left (fun s => s.cipher) _ (fun s t => s.jobFails_cipher t r) _ s
/-- No unit of the namespace that a command takes is in work any more. -/
theorem State.failSpaceUnits_job {s : State} {nsx g : Nat} {r : CmdResult} {y : UnitJob} (h : (s.failSpaceUnits nsx r).job g = some y) (htag : y.tag.isSome) :
    y.nsx ≠ nsx := by
  intro hnsx
  have hbefore : s.job g = some y := (s.failSpaceUnits_unitsEnd nsx r).jobs g y h
  have hlisted : g ∈ (s.fe.jobs.filter fun (_, j) => j.tag.isSome && decide (j.nsx = nsx)).map (·.1) :=
    List.mem_map.mpr ⟨(g, y), List.mem_filter.mpr ⟨Table.mem_of_find hbefore, by simp [htag, hnsx]⟩, rfl⟩
  rw [State.failSpaceUnits, State.foldl_jobFails_job hlisted] at h
  cases h

/-! ### A namespace's map is dropped (R131, R138) -/

theorem State.unmapSpace_unitsEnd (s : State) (nsx : Nat) : UnitsEnd s (s.unmapSpace nsx) := by
  obtain ⟨hfe, hmedia, hcipher⟩ := s.returnSpace_desk nsx
  exact ⟨(congrArg FeState.settings hfe :), hmedia, congrArg CipherState.owner hcipher, fun g y hy => (UnitsEnd.of_desk (s.returnSpace_desk nsx)).jobs g y hy⟩
theorem State.dropPlacement_unitsEnd (s : State) (p : Nat → Bool) (blocks : List Nat) : UnitsEnd s (s.dropPlacement p blocks) :=
  UnitsEnd.of_desk (s.dropPlacement_desk p blocks)

/-! ### Key slots (R290, R311, R312) -/

theorem State.copyOut_unitsEnd (s : State) (t : Nat) (j : UnitJob) : UnitsEnd s (s.copyOut t j) :=
  (s.dropJob_unitsEnd t).trans (UnitsEnd.of_desk (State.queuePayload_desk _ _ _))
theorem State.failRequest_unitsEnd (s : State) (w : CipherWork) : UnitsEnd s (s.failRequest w) := by
  cases w with
  | encrypt t => exact s.jobFails_unitsEnd t _
  | decrypt t => exact s.jobFails_unitsEnd t _
  | rekey t => exact s.jobFails_unitsEnd t _
  | check t =>
    unfold State.failRequest
    dsimp only
    split
    · exact s.copyOut_unitsEnd t _
    · exact .refl s
  | mac g => exact (UnitsEnd.refl s).finish g _

theorem UnitsEnd.modSlot {s t : State} (h : UnitsEnd s t) (n : Nat) (f : KeySlot → KeySlot) : UnitsEnd s (t.modSlot n f) := ⟨h.settings, h.media, h.owner, h.jobs⟩
theorem UnitsEnd.writeRec {s t : State} (h : UnitsEnd s t) (r : Region) (x : TsRec) : UnitsEnd s (t.writeRec r x) := ⟨h.settings, h.media, h.owner, h.jobs⟩
theorem State.installLabel_unitsEnd (s : State) (n : Nat) (l : BitVec 256) : UnitsEnd s (s.installLabel n l) := by
  unfold State.installLabel
  refine UnitsEnd.leave (UnitsEnd.modSlot ?_ _ _) _ _ _
  split
  · exact ((((UnitsEnd.refl s).modSlot _ _).writeRec _ _).modSlot _ _).writeRec _ _
  · exact ((UnitsEnd.refl s).modSlot _ _).writeRec _ _
theorem State.labelEmpty_unitsEnd (s : State) (n : Nat) (l : BitVec 256) : UnitsEnd s (s.labelEmpty n l) :=
  (⟨rfl, rfl, rfl, fun _ _ h => h⟩ : UnitsEnd s s.drawSalt.2).trans (State.installLabel_unitsEnd _ _ _)
theorem State.eraseEnds_unitsEnd (s : State) (e : EraseRun) : UnitsEnd s (s.eraseEnds e) := by
  have hslot : UnitsEnd s (if e.slot < 4160 then s.modSlot e.slot fun k => { ({} : KeySlot) with sgen := k.sgen } else s) := by
    split
    · exact (UnitsEnd.refl s).modSlot _ _
    · exact .refl s
  unfold State.eraseEnds
  dsimp only
  generalize (if e.slot < 4160 then s.modSlot e.slot fun k => { ({} : KeySlot) with sgen := k.sgen } else s) = v at hslot ⊢
  have herased := hslot.withCipher { v.cipher with erasing := v.cipher.erasing.filter (·.slot ≠ e.slot) } rfl
  refine UnitsEnd.trans ?_ (UnitsEnd.foldl (fun s t => (UnitsEnd.refl s).finish t _) _ _)
  split
  · exact herased.trans (State.labelEmpty_unitsEnd _ _ _)
  · exact herased

/-- What a key slot holds once it is revoked: nothing but its number of generations (R311). -/
def KeySlot.revoked (k : KeySlot) : KeySlot :=
  { k with sgen := (k.sgen + 1) % 2 ^ 32, revoking := true, current := none, previous := none, pendingLabel := none, pendingKeys := none, pendingTag := none,
           rolling := false, sweep := false }
/-- A slot whose requests have been taken out of the pairs' queue. -/
def State.revokeSlot (s : State) (n : Nat) : State :=
  let s := s.modSlot n KeySlot.revoked
  { s with cipher := { s.cipher with reqs := s.cipher.reqs.filter fun (_, r) => r.slot ≠ n } }
/-- The requests of a revoked slot, and the command that waits for its keys, end. -/
def State.failRequests (s : State) (n : Nat) : State :=
  let t := (s.cipher.reqs.filter fun (_, r) => r.slot = n).foldl (fun s (_, r) => s.failRequest r.work) (s.revokeSlot n)
  match (s.keySlot n).pendingTag with | some g => t.finish g (stat 7 0xC3) | none => t

theorem State.revokeSlot_unitsEnd (s : State) (n : Nat) : UnitsEnd s (s.revokeSlot n) := ((UnitsEnd.refl s).modSlot n KeySlot.revoked).withCipher _ rfl
theorem State.failRequests_unitsEnd (s : State) (n : Nat) : UnitsEnd s (s.failRequests n) := by
  have hmine := (s.revokeSlot_unitsEnd n).trans
    (UnitsEnd.foldl (fun s (x : Nat × CipherReq) => s.failRequest_unitsEnd x.2.work) (s.cipher.reqs.filter fun (_, r) => r.slot = n) _)
  unfold State.failRequests
  dsimp only
  split
  · exact hmine.finish _ _
  · exact hmine

/-- The records of a revoked slot are erased from the key store's ring. -/
def State.eraseRecords (s : State) (n : Nat) (tags : List Nat) (again : Option (BitVec 256)) : State :=
  let t : TsState := { s.ts with queue := s.ts.queue.filter fun op => match op.kind with | .append _ r => !r.ofSlot n | _ => true }
  let (sectors, t) := t.purge n
  let e : EraseRun := { slot := n, tags := tags, left := sectors, total := sectors.length, again := again }
  let s : State := { s with ts := t, cipher := { s.cipher with erasing := s.cipher.erasing ++ [e] } }
  if sectors = [] then s.eraseEnds e else s

theorem State.eraseRecords_unitsEnd (s : State) (n : Nat) (tags : List Nat) (again : Option (BitVec 256)) : UnitsEnd s (s.eraseRecords n tags again) := by
  unfold State.eraseRecords
  dsimp only
  generalize TsState.purge _ n = z
  have herasing := (UnitsEnd.refl s).withKeys z.2
    { s.cipher with erasing := s.cipher.erasing ++ [{ slot := n, tags := tags, left := z.1, total := z.1.length, again := again }] } rfl
  split
  · exact herasing.trans (State.eraseEnds_unitsEnd _ _)
  · exact herasing

theorem State.revoke_eq (s : State) (n : Nat) (tags : List Nat) (again : Option (BitVec 256)) : s.revoke n tags again =
    ((s.failRequests n).leave 0x0C03 0 [n, (s.cipher.reqs.filter fun (_, r) => r.slot = n).length]).eraseRecords n tags again := by
  unfold State.revoke State.eraseRecords State.failRequests State.revokeSlot
  rfl
theorem State.revoke_unitsEnd (s : State) (n : Nat) (tags : List Nat) (again : Option (BitVec 256)) : UnitsEnd s (s.revoke n tags again) := by
  rw [State.revoke_eq]
  exact ((s.failRequests_unitsEnd n).leave _ _ _).trans (State.eraseRecords_unitsEnd _ n tags again)
theorem State.freshSlot_unitsEnd (s : State) (slot : Nat) (again : Option (BitVec 256)) : UnitsEnd s (s.freshSlot slot again) := by
  unfold State.freshSlot
  split
  · exact (UnitsEnd.refl s).withCipher _ rfl
  · exact s.revoke_unitsEnd slot [] again

end Sys2Proof.Machine
end

section
/-! Self-test, Format NVM and Sanitize (O36): R131, R139, R152, R262, R280 to R282, R312. -/
namespace Sys2Proof.Machine

/-! ### The self-test (R280, R281) -/

/-- The self-test that runs and its results. -/
def State.setTest (s : State) (test : Option SelfTest) (results : List TestResult) : State := { s with fe := { s.fe with test := test, results := results } }

theorem State.endTest_of_none {s : State} (h : s.fe.test = none) (result : Nat) : s.endTest result = s := by simp [State.endTest, h]
theorem State.endTest_of_some {s : State} {y : SelfTest} (h : s.fe.test = some y) (result : Nat) : s.endTest result =
    (s.leave 0x0B06 0 [if y.extended then 2 else 1, result]).setTest none
      (({ result := result, extended := y.extended, segment := y.segment, nsid := y.nsid, wt := s.wheel.wt } :: s.fe.results).take 20) := by
  simp [State.endTest, h, State.setTest]

/-- A self-test that ends leaves none, and only its result beside. -/
theorem State.endTest_fe (s : State) (result : Nat) :
    (s.endTest result).fe.test = none ∧ { (s.endTest result).fe with test := s.fe.test, results := s.fe.results } = s.fe := by
  cases h : s.fe.test with
  | none => rw [State.endTest_of_none h, ← h]; exact ⟨rfl, rfl⟩
  | some y =>
    rw [State.endTest_of_some h, ← h]
    exact ⟨rfl, (congrArg (fun f : FeState => { f with test := s.fe.test, results := s.fe.results }) (s.leave_fe 0x0B06 0 [if y.extended then 2 else 1, result]) :)⟩

section AtHand
variable {s : State} {tag cid : Nat} {c : Cmd} {q : Sq} {x : SqSide} {cq : Cq}

theorem AtHand.setTest (h : AtHand s tag c q x cq cid) (test : Option SelfTest) (results : List TestResult) : AtHand (s.setTest test results) tag c q x cq cid :=
  ⟨h.row, h.fresh, h.owes, h.fetched, h.queue, h.side, h.place, h.room, h.alone, h.runs, h.awake, h.queued⟩
theorem Begun.setTest {v : State} (b : Begun s v tag) (test : Option SelfTest) (results : List TestResult) :
    Begun (s.setTest test results) (v.setTest test results) tag :=
  ⟨(congrArg (fun f : FeState => { f with test := test, results := results }) b.fe :), b.frame, b.data, b.pkg, b.fault⟩

/-- Whether the self-test's namespace is one that the controller knows. -/
def State.testSpaceKnown (s : State) (c : Cmd) : Bool :=
  decide (sqeNsid c.entry = 0) || decide (sqeNsid c.entry = broadcast) || (s.attachedSpace c.ctrl (sqeNsid c.entry)).isSome

/-- What a self-test command comes to. -/
theorem AtHand.beginTest (h : AtHand s tag c q x cq cid) {extended : Bool} (hw : c.waits true 0x14 = true)
    (hstc : bitField (dw c.entry 10) 0 4 = if extended then 2 else 1) :
    (s.fe.test.isSome → Served s (s.beginTest tag extended) tag q x cq cid (stat 1 0x1D) c.out) ∧
    (s.fe.test = none → s.testSpaceKnown c = false → Served s (s.beginTest tag extended) tag q x cq cid (stat 0 0x0B) c.out) ∧
    (s.fe.test = none → s.testSpaceKnown c = true → Served (s.setTest
      (some { extended := extended, ctrl := c.ctrl, rein := c.port.rein, nsid := sqeNsid c.entry, segment := 1, element := 0 }) s.fe.results)
      (s.beginTest tag extended) tag q x cq cid ok c.out) := by
  have begun := Begun.self s tag
  have htest : (s.modCmd tag fun c => { c with started := true }).fe.test = s.fe.test := rfl
  have hunknown : (sqeNsid c.entry ≠ 0 ∧ sqeNsid c.entry ≠ broadcast ∧
      ((s.modCmd tag fun c => { c with started := true }).attachedSpace c.ctrl (sqeNsid c.entry)).isNone) ↔ s.testSpaceKnown c = false := by
    have hspace : (s.modCmd tag fun c => { c with started := true }).attachedSpace c.ctrl (sqeNsid c.entry) = s.attachedSpace c.ctrl (sqeNsid c.entry) := rfl
    simp [State.testSpaceKnown, hspace, and_assoc]
  rw [State.beginTest, h.begin hw (by simp [isStc, hstc])]
  simp only [htest, hunknown]
  refine ⟨fun hruns => ?_, fun hidle hno => ?_, fun hidle hyes => ?_⟩ <;> simp only [Option.isSome_none, Bool.false_eq_true, Bool.true_eq_false, if_true, if_false, *]
  · exact h.served_finish _ 0 begun
  · exact h.served_malformed c _ begun
  · exact (h.setTest _ _).served_finish ok 0 ((begun.setTest _ _).leave 0x0B06 _)

/-- What a self-test's abort comes to. -/
theorem AtHand.abortTest (h : AtHand s tag c q x cq cid) (hw : c.waits true 0x14 = true) (hstc : bitField (dw c.entry 10) 0 4 = 15) :
    ∃ t, execSelfTestAbort tag s = .next t ∧ (s.fe.test = none → Served s t tag q x cq cid ok c.out) ∧
      (∀ y, s.fe.test = some y → Served (s.setTest none
        (({ result := 1, extended := y.extended, segment := y.segment, nsid := y.nsid, wt := s.wheel.wt } :: s.fe.results).take 20)) t tag q x cq cid ok c.out) := by
  have begun := Begun.self s tag
  refine ⟨_, rfl, ?_⟩
  rw [h.begin hw (by simp [isStc, hstc])]
  refine ⟨fun hidle => ?_, fun y hy => ?_⟩
  · rw [State.endTest_of_none (s := s.modCmd tag fun c => { c with started := true }) hidle]
    exact h.served_finish ok 0 begun
  · rw [State.endTest_of_some (s := s.modCmd tag fun c => { c with started := true }) hy]
    exact (h.setTest _ _).served_finish ok 0 ((begun.leave 0x0B06 _).setTest _ _)

end AtHand

/-! ### A format begins (R131, R262) -/

/-- A namespace takes the command's format. -/
def State.setFormat (s : State) (c : Cmd) (z : Nat × Namespace) : State :=
  { s with fe := { s.fe with spaces := Table.set s.fe.spaces z.1 { z.2 with flbas := fmtFlbas c, piType := fmtPi c } } }
/-- A namespace has the command's format. -/
def Namespace.formatted (n : Namespace) (c : Cmd) : Prop := n.flbas = fmtFlbas c ∧ n.piType = fmtPi c

theorem State.setFormats_cons (s : State) (c : Cmd) (z : Nat × Namespace) (xs : Table Namespace) : s.setFormats c (z :: xs) = (s.setFormat c z).setFormats c xs := rfl
theorem State.setFormat_other (s : State) (c : Cmd) {z : Nat × Namespace} {m : Nat} (h : m ≠ z.1) :
    Table.find (s.setFormat c z).fe.spaces m = Table.find s.fe.spaces m := Table.find_set_ne _ _ _ _ h
theorem State.setFormat_self (s : State) (c : Cmd) (z : Nat × Namespace) : ∃ n, Table.find (s.setFormat c z).fe.spaces z.1 = some n ∧ n.formatted c :=
  ⟨_, Table.find_set_self _ _ _, rfl, rfl⟩

/-- Only the namespaces' records take part. -/
theorem State.setFormats_rest (s : State) (c : Cmd) (xs : Table Namespace) :
    { (s.setFormats c xs).fe with spaces := [] } = { s.fe with spaces := [] } ∧ (s.setFormats c xs).media = s.media := by
  induction xs generalizing s with
  | nil => exact ⟨rfl, rfl⟩
  | cons z xs ih => exact ih (s.setFormat c z)
theorem State.setFormats_other {m : Nat} {c : Cmd} {xs : Table Namespace} (s : State) (h : ∀ z ∈ xs, z.1 ≠ m) :
    Table.find (s.setFormats c xs).fe.spaces m = Table.find s.fe.spaces m := by
  induction xs generalizing s with
  | nil => rfl
  | cons z xs ih =>
    have hhead : m ≠ z.1 := fun heq => h z List.mem_cons_self heq.symm
    rw [State.setFormats_cons, ih _ fun y hy => h y (List.mem_cons_of_mem _ hy), State.setFormat_other _ _ hhead]
theorem State.setFormats_keeps {m : Nat} {c : Cmd} (xs : Table Namespace) {s : State} (h : ∃ n, Table.find s.fe.spaces m = some n ∧ n.formatted c) :
    ∃ n, Table.find (s.setFormats c xs).fe.spaces m = some n ∧ n.formatted c := by
  induction xs generalizing s with
  | nil => exact h
  | cons z xs ih =>
    refine ih (s := s.setFormat c z) ?_
    by_cases hz : m = z.1
    · exact hz ▸ s.setFormat_self c z
    · rwa [State.setFormat_other _ _ hz]
theorem State.setFormats_changed {z : Nat × Namespace} {c : Cmd} {xs : Table Namespace} (s : State) (h : z ∈ xs) :
    ∃ n, Table.find (s.setFormats c xs).fe.spaces z.1 = some n ∧ n.formatted c := by
  induction xs generalizing s with
  | nil => cases h
  | cons y xs ih =>
    rcases List.mem_cons.mp h with rfl | hxs
    · exact State.setFormats_keeps xs (s.setFormat_self c _)
    · exact ih (s.setFormat c y) hxs

/-- A format of the namespaces `xs` has begun in `u`. -/
structure FormatBegun (s u : State) (c : Cmd) (xs : Table Namespace) : Prop where
  formats : u.fe.formats = s.fe.formats
  test : u.fe.test = none
  changed : ∀ z ∈ xs, ∃ n, Table.find u.fe.spaces z.1 = some n ∧ n.formatted c
  others : ∀ m, (∀ z ∈ xs, z.1 ≠ m) → Table.find u.fe.spaces m = Table.find s.fe.spaces m
  interrupted : ∀ g y, u.job g = some y → y.tag.isSome → ∀ z ∈ xs, y.nsx ≠ z.2.nsx
  media : u.media = s.media

theorem FormatBegun.unitsEnd {s t u : State} {c : Cmd} {xs : Table Namespace} (b : FormatBegun s t c xs) (h : UnitsEnd t u) : FormatBegun s u c xs := by
  have hspaces : u.fe.spaces = t.fe.spaces := (congrArg FeState.spaces h.settings :)
  refine ⟨(congrArg FeState.formats h.settings :).trans b.formats, (congrArg FeState.test h.settings :).trans b.test, ?_, ?_,
    fun g y hy => b.interrupted g y (h.jobs g y hy), h.media.trans b.media⟩
  · rw [hspaces]
    exact b.changed
  · rw [hspaces]
    exact b.others

theorem State.failSpaces_unitsEnd (s : State) (xs : Table Namespace) (r : CmdResult) : UnitsEnd s (xs.foldl (fun s (_, n) => s.failSpaceUnits n.nsx r) s) :=
  UnitsEnd.foldl (fun s (z : Nat × Namespace) => s.failSpaceUnits_unitsEnd z.2.nsx r) xs s
theorem State.failSpaces_job {xs : Table Namespace} {r : CmdResult} {z : Nat × Namespace} {g : Nat} {y : UnitJob} (s : State) (hz : z ∈ xs)
    (hy : (xs.foldl (fun s (_, n) => s.failSpaceUnits n.nsx r) s).job g = some y) (htag : y.tag.isSome) : y.nsx ≠ z.2.nsx := by
  induction xs generalizing s with
  | nil => cases hz
  | cons w xs ih =>
    rcases List.mem_cons.mp hz with rfl | hxs
    · exact State.failSpaceUnits_job ((State.failSpaces_unitsEnd _ xs r).jobs g y hy) htag
    · exact ih _ hxs hy

theorem State.formatBegins_begun (s : State) (c : Cmd) (xs : Table Namespace) (r : CmdResult) : FormatBegun s (s.formatBegins c xs r) c xs := by
  obtain ⟨htest, hrest⟩ := s.endTest_fe 4
  have hunits := State.failSpaces_unitsEnd (s.endTest 4) xs r
  obtain ⟨hformats, hmedia⟩ := State.setFormats_rest (xs.foldl (fun s (_, n) => s.failSpaceUnits n.nsx r) (s.endTest 4)) c xs
  have hspaces : (xs.foldl (fun s (_, n) => s.failSpaceUnits n.nsx r) (s.endTest 4)).fe.spaces = s.fe.spaces :=
    (congrArg FeState.spaces hunits.settings :).trans (congrArg FeState.spaces hrest :)
  refine ⟨?_, ?_, fun z hz => State.setFormats_changed _ hz, fun m hm => ?_, fun g y hy htag z hz => ?_, hmedia.trans (hunits.media.trans (by simp))⟩
  · exact (congrArg FeState.formats hformats :).trans ((congrArg FeState.formats hunits.settings :).trans (congrArg FeState.formats hrest :))
  · exact (congrArg FeState.test hformats :).trans ((congrArg FeState.test hunits.settings :).trans htest)
  · exact (State.setFormats_other _ hm).trans (congrArg (fun t => Table.find t m) hspaces)
  · have hjobs := (congrArg FeState.jobs hformats :)
    exact State.failSpaces_job _ hz ((congrArg (fun t => Table.find t g) hjobs).symm.trans hy) htag

/-- The row of the command that has begun is no part of it. -/
theorem FormatBegun.of_modCmd {s u : State} {tag : Nat} {f : Cmd → Cmd} {c : Cmd} {xs : Table Namespace} (b : FormatBegun (s.modCmd tag f) u c xs) :
    FormatBegun s u c xs := ⟨b.formats, b.test, b.changed, b.others, b.interrupted, b.media⟩

/-! ### Format NVM (R131, R262, R312) -/

/-- A format's run waits for its blocks, or its slots. -/
def State.formatRuns (s : State) (r : FormatRun) : State := { s with fe := { s.fe with formats := s.fe.formats ++ [r] } }

/-- A format of the namespaces `xs` stands in `u` with its run. -/
def FormatStands (s u : State) (c : Cmd) (xs : Table Namespace) (r : FormatRun) : Prop :=
  u.fe.formats = s.fe.formats ++ [r] ∧ u.fe.test = none ∧ (∀ z ∈ xs, ∃ n, Table.find u.fe.spaces z.1 = some n ∧ n.formatted c) ∧
    (∀ m, (∀ z ∈ xs, z.1 ≠ m) → Table.find u.fe.spaces m = Table.find s.fe.spaces m) ∧ (∀ g y, u.job g = some y → y.tag.isSome → ∀ z ∈ xs, y.nsx ≠ z.2.nsx) ∧
    SameFrame s u ∧ u.media = s.media

theorem FormatBegun.stands {s t : State} {c : Cmd} {xs : Table Namespace} (b : FormatBegun s t c xs) (h : SameFrame s t) (r : FormatRun) :
    FormatStands s (t.formatRuns r) c xs r :=
  ⟨congrArg (· ++ [r]) b.formats, b.test, b.changed, b.others, b.interrupted, h, b.media⟩

section AtHand
variable {s : State} {tag cid : Nat} {c : Cmd} {q : Sq} {x : SqSide} {cq : Cq}

/-- What a format command is refused with, in order; otherwise its own meaning runs. -/
theorem AtHand.formatCmd (h : AtHand s tag c q x cq cid) {f : Table Namespace → State → State} {xs : Table Namespace} (hxs : xs = s.formatSpaces c) {t : State}
    (ht : t = ((s.modCmd tag fun c => { c with started := true }).formatCmd tag c f).postAll.arrayPump) {fits : Bool}
    (hfits : fits = s.dirsFit (xs.map fun z => dirEntries z.2.nsze z.2.flbas).sum (xs.map fun z => dirEntries z.2.nsze (fmtFlbas c)).sum) :
    (xs = [] → sqeNsid c.entry ≠ broadcast → Served s t tag q x cq cid (stat 0 0x0B) c.out) ∧ ((xs ≠ [] ∨ sqeNsid c.entry = broadcast) →
      (s.fe.sanitize.isSome → Served s t tag q x cq cid sequenceError c.out) ∧
      (s.fe.sanitize = none → formatOk (fmtLbaf c) (fmtPi c) = false → Served s t tag q x cq cid (stat 1 0x0A) c.out) ∧
      (s.fe.sanitize = none → formatOk (fmtLbaf c) (fmtPi c) = true → 3 < fmtPi c → Served s t tag q x cq cid invalidField c.out) ∧
      (s.fe.sanitize = none → formatOk (fmtLbaf c) (fmtPi c) = true → fmtPi c ≤ 3 → fits = false → Served s t tag q x cq cid (stat 1 0x15) c.out) ∧
      (s.fe.sanitize = none → formatOk (fmtLbaf c) (fmtPi c) = true → fmtPi c ≤ 3 → fits = true →
        t = (f xs (s.modCmd tag fun c => { c with started := true })).postAll.arrayPump)) := by
  have begun := Begun.self s tag
  have hspaces : (s.modCmd tag fun c => { c with started := true }).formatSpaces c = s.formatSpaces c := rfl
  have hdirs : ∀ a b, (s.modCmd tag fun c => { c with started := true }).dirsFit a b = s.dirsFit a b := fun _ _ => rfl
  have hsanitize : (s.modCmd tag fun c => { c with started := true }).fe.sanitize = s.fe.sanitize := rfl
  simp only [State.formatCmd, hspaces, hdirs, hsanitize, ← hxs, ← hfits] at ht
  clear hxs hfits
  subst ht
  refine ⟨fun hnone hone => ?_, fun hsome => ?_⟩
  · rw [if_pos ⟨hnone, hone⟩]
    exact h.served_malformed c _ begun
  · rw [if_neg (by tauto)]
    refine ⟨fun hbusy => ?_, fun hidle hform => ?_, fun hidle hform hpi => ?_, fun hidle hform hpi hroom => ?_, fun hidle hform hpi hroom => ?_⟩
    · rw [if_pos hbusy]
      exact h.served_finish _ 0 begun
    · simp only [hidle, hform, Option.isSome_none, Bool.not_false, Bool.false_eq_true, if_true, if_false]
      exact h.served_finish _ 0 begun
    · simp only [hidle, hform, hpi, Option.isSome_none, Bool.not_true, Bool.false_eq_true, if_true, if_false]
      exact h.served_malformed c _ begun
    · simp only [hidle, hform, Nat.not_lt.mpr hpi, hroom, Option.isSome_none, Bool.not_true, Bool.not_false, Bool.false_eq_true, if_true, if_false]
      exact h.served_finish _ 0 begun
    · simp only [hidle, hform, Nat.not_lt.mpr hpi, hroom, Option.isSome_none, Bool.not_true, Bool.false_eq_true, if_false]

end AtHand

/-- The units of the namespaces `xs` are unmapped, and their blocks closed for the erase. -/
def State.unmapSpaces (s : State) (xs : Table Namespace) (p : Nat → Bool) (blocks : List Nat) : State :=
  (xs.foldl (fun s (_, n) => s.unmapSpace n.nsx) s).dropPlacement p blocks
theorem State.unmapSpaces_unitsEnd (s : State) (xs : Table Namespace) (p : Nat → Bool) (blocks : List Nat) : UnitsEnd s (s.unmapSpaces xs p blocks) :=
  (UnitsEnd.foldl (fun s (z : Nat × Namespace) => s.unmapSpace_unitsEnd z.2.nsx) xs s).trans (State.dropPlacement_unitsEnd _ p blocks)
theorem State.unmapSpaces_frame (s : State) (xs : Table Namespace) (p : Nat → Bool) (blocks : List Nat) : SameFrame s (s.unmapSpaces xs p blocks) := by
  simp [SameFrame, State.unmapSpaces]

/-- The key slots listed are erased, each derived one again with the label that `again` gives it. -/
def State.freshSlots (s : State) (slots : List Nat) (again : State → Nat → Option (BitVec 256)) : State := slots.foldl (fun s k => s.freshSlot k (again s k)) s
theorem State.freshSlots_unitsEnd (s : State) (slots : List Nat) (again : State → Nat → Option (BitVec 256)) : UnitsEnd s (s.freshSlots slots again) :=
  UnitsEnd.foldl (fun s k => s.freshSlot_unitsEnd k (again s k)) slots s
theorem State.freshSlots_frame (s : State) (slots : List Nat) (again : State → Nat → Option (BitVec 256)) : SameFrame s (s.freshSlots slots again) := by
  simp [SameFrame, State.freshSlots]

theorem State.formatBegins_frame (s : State) (c : Cmd) (xs : Table Namespace) (r : CmdResult) : SameFrame s (s.formatBegins c xs r) := by simp [SameFrame]

/-- The slots of the namespaces `xs`. -/
def slotsOf (xs : Table Namespace) : List Nat := (xs.map fun (_, n) => n.slot).eraseDups
theorem mem_slotsOf {xs : Table Namespace} {z : Nat × Namespace} (h : z ∈ xs) : z.2.slot ∈ slotsOf xs := by
  rw [slotsOf, List.mem_eraseDups]
  exact List.mem_map.mpr ⟨z, h, rfl⟩

section Format
variable {s : State} (tag : Nat) (c : Cmd) (xs : Table Namespace)

/-- What an accepted format with SES 0 or 1 leaves. -/
theorem State.formatErase_stands (p : Nat → Bool) (r : CmdResult) (blocks : List Nat) (run : FormatRun) : FormatStands s
    ((((s.modCmd tag fun c => { c with started := true }).formatBegins c xs r).unmapSpaces xs p blocks).formatRuns run) c xs run := by
  refine (FormatBegun.of_modCmd (State.formatBegins_begun _ c xs r)).unitsEnd (State.unmapSpaces_unitsEnd _ xs p blocks) |>.stands ?_ run
  exact SameFrame.trans (t := s.modCmd tag fun c => { c with started := true }) (by simp [SameFrame])
    ((State.formatBegins_frame _ c xs r).trans (State.unmapSpaces_frame _ xs p blocks))
/-- What an accepted format with SES 2 leaves. -/
theorem State.formatCrypto_stands (r : CmdResult) (slots : List Nat) (again : State → Nat → Option (BitVec 256)) (run : FormatRun) : FormatStands s
    ((((s.modCmd tag fun c => { c with started := true }).formatBegins c xs r).freshSlots slots again).formatRuns run) c xs run := by
  refine (FormatBegun.of_modCmd (State.formatBegins_begun _ c xs r)).unitsEnd (State.freshSlots_unitsEnd _ slots again) |>.stands ?_ run
  exact SameFrame.trans (t := s.modCmd tag fun c => { c with started := true }) (by simp [SameFrame])
    ((State.formatBegins_frame _ c xs r).trans (State.freshSlots_frame _ slots again))

end Format

/-! ### Slots with a DATA key (R312) -/

theorem Table.mem_set_self {α : Type} (t : Table α) (k : Nat) (v : α) : (k, v) ∈ Table.set t k v := Table.mem_of_find (Table.find_set_self t k v)
/-- Setting an entry takes away at most the one that was found under its key. -/
theorem Table.mem_set_of_mem {α : Type} {t : Table α} {n : Nat} {v : α} {p : Nat × α} (h : p ∈ t) :
    p ∈ Table.set t n v ∨ (p.1 = n ∧ Table.find t n = some p.2) := by
  induction t with
  | nil => cases h
  | cons e t ih =>
    obtain ⟨k, a⟩ := e
    unfold Table.set Table.find
    by_cases hlt : n < k
    · rw [if_pos hlt]
      exact .inl (List.mem_cons_of_mem _ h)
    · rw [if_neg hlt]
      by_cases heq : n = k
      · rw [if_pos heq, if_pos heq]
        rcases List.mem_cons.mp h with rfl | ht
        · exact .inr ⟨heq.symm, rfl⟩
        · exact .inl (List.mem_cons_of_mem _ ht)
      · rw [if_neg heq, if_neg heq]
        rcases List.mem_cons.mp h with rfl | ht
        · exact .inl List.mem_cons_self
        · exact (ih ht).imp (List.mem_cons_of_mem _) id

theorem State.mem_dataSlots {s : State} {k : Nat} : k ∈ s.dataSlots ↔ ∃ r, (k, r) ∈ s.cipher.slots ∧ r.kind ≠ 0 ∧ r.purpose = 1 := by
  simp [State.dataSlots]
/-- A slot that is derived anew stays among those that hold a DATA key. -/
theorem State.deriveSlot_dataSlots {s : State} {k : Nat} (h : k ∈ s.dataSlots) (n : Nat) : k ∈ (s.deriveSlot n).dataSlots := by
  obtain ⟨r, hr, hkind, hpurpose⟩ := State.mem_dataSlots.mp h
  rw [State.mem_dataSlots]
  rcases Table.mem_set_of_mem (n := n) (v := ((s.deriveSlot n).keySlot n)) hr with hstays | ⟨rfl, hfound⟩
  · exact ⟨r, by simpa [State.deriveSlot, State.modSlot, State.keySlot] using hstays, hkind, hpurpose⟩
  · have hslot : s.keySlot k = r := by simp [State.keySlot, Table.getD, hfound]
    exact ⟨_, Table.mem_set_self _ _ _, by rwa [← hslot] at hkind, by rwa [← hslot] at hpurpose⟩
theorem State.foldl_deriveSlot_dataSlots {k : Nat} (l : List Nat) {s : State} (h : k ∈ s.dataSlots) : k ∈ (l.foldl State.deriveSlot s).dataSlots := by
  induction l generalizing s with
  | nil => exact h
  | cons n l ih => exact ih (State.deriveSlot_dataSlots h n)

theorem State.setRoot_desk (s : State) (root : Option (BitVec 256)) :
    (s.setRoot root).fe = s.fe ∧ (s.setRoot root).media = s.media ∧ (s.setRoot root).cipher.owner = root :=
  ⟨fold_left (fun s => s.fe) State.deriveSlot (fun _ _ => rfl) _ _, fold_left (fun s => s.media) State.deriveSlot (fun _ _ => rfl) _ _,
    fold_left (fun s => s.cipher.owner) State.deriveSlot (fun _ _ => rfl) _ _⟩

/-- A root that is dropped leaves the front end, the media, and the slots that hold a DATA key. -/
structure RootDropped (s t : State) : Prop where
  fe : t.fe = s.fe
  media : t.media = s.media
  owner : t.cipher.owner = none
  slots : ∀ k ∈ s.dataSlots, k ∈ t.dataSlots

theorem State.dropRoot_dropped (s : State) : RootDropped s s.dropRoot := by
  unfold State.dropRoot
  split
  case isTrue hnone => exact ⟨rfl, rfl, by simpa using hnone, fun _ hk => hk⟩
  case isFalse =>
    obtain ⟨hfe, hmedia, howner⟩ := s.setRoot_desk none
    dsimp only
    exact ⟨hfe, hmedia, howner, fun k hk => State.foldl_deriveSlot_dataSlots _ (s := { s with cipher := { s.cipher with owner := none } }) hk⟩
theorem State.dropRoot_frame (s : State) : SameFrame s s.dropRoot := by simp [SameFrame]

/-! ### Sanitize (R152, R262, R312) -/

/-- A sanitize begins: the self-test and the namespaces' units in work end. -/
def State.sanitizeBegins (s : State) (r : CmdResult) : State :=
  { s.fe.spaces.foldl (fun s (_, n) => s.failSpaceUnits n.nsx r) (s.endTest 9) with
    fe := { (s.fe.spaces.foldl (fun s (_, n) => s.failSpaceUnits n.nsx r) (s.endTest 9)).fe with sanitizeStatus := 2 } }

/-- A sanitize has begun in `u`. -/
structure SanitizeBegun (s u : State) : Prop where
  status : u.fe.sanitizeStatus = 2
  test : u.fe.test = none
  spaces : u.fe.spaces = s.fe.spaces
  frame : SameFrame s u
  media : u.media = s.media

theorem SanitizeBegun.of_settings {s t u : State} (b : SanitizeBegun s t) (hsettings : u.fe.settings = t.fe.settings) (hframe : SameFrame t u)
    (hmedia : u.media = t.media) : SanitizeBegun s u where
  status := (congrArg FeState.sanitizeStatus hsettings :).trans b.status
  test := (congrArg FeState.test hsettings :).trans b.test
  spaces := (congrArg FeState.spaces hsettings :).trans b.spaces
  frame := b.frame.trans hframe
  media := hmedia.trans b.media

theorem SanitizeBegun.of_modCmd {s u : State} {tag : Nat} {f : Cmd → Cmd} (b : SanitizeBegun (s.modCmd tag f) u) : SanitizeBegun s u :=
  ⟨b.status, b.test, b.spaces, b.frame, b.media⟩

/-- What is left to erase stands. -/
def State.sanitizeLeft (s : State) (r : SanitizeRun) : State := { s with fe := { s.fe with sanitize := some r } }

theorem SanitizeBegun.runs {s t : State} (b : SanitizeBegun s t) (tag : Nat) (r : SanitizeRun) :
    SanitizeBegun s ((t.sanitizeLeft r).finish tag ok) ∧ ((t.sanitizeLeft r).finish tag ok).fe.sanitize = some r ∧
      ((t.sanitizeLeft r).finish tag ok).cipher = t.cipher := by
  have stands : SanitizeBegun s (t.sanitizeLeft r) := ⟨b.status, b.test, b.spaces, b.frame, b.media⟩
  have hend := (UnitsEnd.refl (t.sanitizeLeft r)).finish tag ok
  exact ⟨stands.of_settings hend.settings (by simp [SameFrame]) hend.media, (congrArg FeState.sanitize hend.settings :), by simp [State.sanitizeLeft]⟩

theorem State.sanitizeBegins_begun (s : State) (r : CmdResult) : SanitizeBegun s (s.sanitizeBegins r) := by
  obtain ⟨htest, hrest⟩ := s.endTest_fe 9
  have hunits := State.failSpaces_unitsEnd (s.endTest 9) s.fe.spaces r
  refine ⟨rfl, (congrArg FeState.test hunits.settings :).trans htest, (congrArg FeState.spaces hunits.settings :).trans (congrArg FeState.spaces hrest :),
    by simp [SameFrame, State.sanitizeBegins], hunits.media.trans (by simp)⟩
theorem State.sanitizeBegins_cipher (s : State) (r : CmdResult) : (s.sanitizeBegins r).cipher = s.cipher :=
  (fold_left (fun s => s.cipher) _ (fun s (z : Nat × Namespace) => s.failSpaceUnits_cipher z.2.nsx r) s.fe.spaces (s.endTest 9)).trans (by simp)

section AtHand
variable {s : State} {tag cid : Nat} {c : Cmd} {q : Sq} {x : SqSide} {cq : Cq}

/-- What a sanitize comes to. -/
theorem AtHand.beginSanitize (h : AtHand s tag c q x cq cid) {act : Nat} {r : CmdResult} {f : State → State} (hw : c.waits true 0x84 = true)
    (hact : bitField (dw c.entry 10) 0 3 = act) : (s.fe.sanitize.isSome → Served s (s.beginSanitize tag act r f) tag q x cq cid sequenceError c.out) ∧
    (s.fe.sanitize = none → s.beginSanitize tag act r f =
      ((f ((s.modCmd tag fun c => { c with started := true }).sanitizeBegins r)).finish tag ok).settle.postAll.arrayPump) := by
  have hsanitize : (s.modCmd tag fun c => { c with started := true }).fe.sanitize = s.fe.sanitize := rfl
  rw [State.beginSanitize, h.begin hw (by simp [hact])]
  simp only [hsanitize]
  refine ⟨fun hbusy => ?_, fun hidle => ?_⟩
  · rw [if_pos hbusy]
    exact h.served_finish _ 0 (Begun.self s tag)
  · rw [if_neg (by simp [hidle])]
    rfl

/-- The failed state of the last sanitize, and its status. -/
theorem AtHand.setSanitize (h : AtHand s tag c q x cq cid) (failed : Bool) (status : Nat) :
    AtHand { s with fe := { s.fe with sanitizeFailed := failed, sanitizeStatus := status } } tag c q x cq cid :=
  ⟨h.row, h.fresh, h.owes, h.fetched, h.queue, h.side, h.place, h.room, h.alone, h.runs, h.awake, h.queued⟩

/-- What the end of the failed state comes to. -/
theorem AtHand.sanitizeExitFailure (h : AtHand s tag c q x cq cid) (hw : c.waits true 0x84 = true) (hact : bitField (dw c.entry 10) 0 3 = 1) :
    ∃ t, execSanitizeExitFailure tag s = .next t ∧ (s.fe.sanitize.isSome → Served s t tag q x cq cid sequenceError c.out) ∧ (s.fe.sanitize = none →
      Served { s with fe := { s.fe with sanitizeFailed := false, sanitizeStatus := if s.fe.sanitizeFailed then 0 else s.fe.sanitizeStatus } } t tag q x cq cid
        ok c.out) := by
  have hsanitize : (s.modCmd tag fun c => { c with started := true }).fe.sanitize = s.fe.sanitize := rfl
  refine ⟨_, rfl, ?_⟩
  rw [h.begin hw (by simp [hact])]
  dsimp only
  refine ⟨fun hbusy => ?_, fun hidle => ?_⟩
  · rw [if_pos (by rwa [hsanitize])]
    exact h.served_finish _ 0 (Begun.self s tag)
  · have hidle' : ¬(s.modCmd tag fun c => { c with started := true }).fe.sanitize.isSome = true := by simp [hsanitize, hidle]
    rw [if_neg hidle']
    exact (h.setSanitize false _).served_finish ok 0 (Begun.self _ tag)

end AtHand

/-- The label with which a slot is derived again: that of a derived one which serves a namespace. -/
def State.labelAgain (s : State) (k : Nat) : Option (BitVec 256) := if (s.keySlot k).kind = 1 ∧ (s.boundTo k).isSome then some (s.keySlot k).label else none

theorem execSanitizeBlockErase_eq (s : State) (tag : Nat) : execSanitizeBlockErase tag s = .next (s.beginSanitize tag 2 (stat 0 0x21) fun s =>
    (s.unmapSpaces s.fe.spaces (fun _ => true) s.dataBlocks).sanitizeLeft ⟨false, s.dataBlocks, false⟩) := rfl
theorem execSanitizeCryptoErase_eq (s : State) (tag : Nat) : execSanitizeCryptoErase tag s = .next (s.beginSanitize tag 4 (stat 7 0xC3) fun s =>
    (s.dropRoot.freshSlots s.dropRoot.dataSlots State.labelAgain).sanitizeLeft ⟨true, 0x1FFF :: s.dropRoot.dataSlots, false⟩) := rfl

/-- What a block erase leaves. -/
theorem State.sanitizeErase_begun (s : State) (tag : Nat) (r : CmdResult) (xs : Table Namespace) (p : Nat → Bool) (blocks : List Nat) :
    SanitizeBegun s (((s.modCmd tag fun c => { c with started := true }).sanitizeBegins r).unmapSpaces xs p blocks) := by
  have hend := State.unmapSpaces_unitsEnd ((s.modCmd tag fun c => { c with started := true }).sanitizeBegins r) xs p blocks
  have begun := SanitizeBegun.of_modCmd ((s.modCmd tag fun c => { c with started := true }).sanitizeBegins_begun r)
  exact begun.of_settings hend.settings (State.unmapSpaces_frame _ xs p blocks) hend.media

/-- What a crypto erase leaves: the root is gone. -/
theorem State.sanitizeCrypto_begun (s : State) (tag : Nat) (r : CmdResult) (slots : List Nat) (again : State → Nat → Option (BitVec 256)) :
    SanitizeBegun s (((s.modCmd tag fun c => { c with started := true }).sanitizeBegins r).dropRoot.freshSlots slots again) ∧
    (((s.modCmd tag fun c => { c with started := true }).sanitizeBegins r).dropRoot.freshSlots slots again).cipher.owner = none := by
  have dropped := State.dropRoot_dropped ((s.modCmd tag fun c => { c with started := true }).sanitizeBegins r)
  have hend := State.freshSlots_unitsEnd ((s.modCmd tag fun c => { c with started := true }).sanitizeBegins r).dropRoot slots again
  have begun := SanitizeBegun.of_modCmd ((s.modCmd tag fun c => { c with started := true }).sanitizeBegins_begun r)
  refine ⟨begun.of_settings (hend.settings.trans (congrArg FeState.settings dropped.fe)) ?_ (hend.media.trans dropped.media), hend.owner.trans dropped.owner⟩
  exact (State.dropRoot_frame _).trans (State.freshSlots_frame _ slots again)

/-! ### The obligation -/

/-- The slots that the namespaces `xs` share are not erased by a format: one is unwrapped, or no slot of the data. -/
theorem State.slotsRefused_iff (s : State) (tag : Nat) (f : Cmd → Cmd) (xs : Table Namespace) :
    (xs.any fun (_, n) => decide (((s.modCmd tag f).keySlot n.slot).kind = 2) || decide (4096 ≤ n.slot)) = true ↔
      ∃ z ∈ xs, (s.keySlot z.2.slot).kind = 2 ∨ 4096 ≤ z.2.slot := by
  have hslot : ∀ n, (s.modCmd tag f).keySlot n = s.keySlot n := fun _ => rfl
  simp [hslot]

/-- Settles O36: each command by what it is refused with, and by what an accepted one leaves of the front end, the jobs and the keys. -/
theorem selfTestsFormatsAndSanitizes : Obligations.SelfTestsFormatsAndSanitizes := by
  unfold Obligations.SelfTestsFormatsAndSanitizes
  intro s tag c q x cq cid h
  refine ⟨?test, ⟨⟨_, rfl⟩, _, rfl⟩, fun hw hstc => h.abortTest hw hstc, ?format, ⟨⟨_, rfl⟩, _, rfl⟩, ?sanitize, ⟨⟨_, rfl⟩, _, rfl⟩,
    fun hw hact => h.sanitizeExitFailure hw hact, ?overwrite⟩
  case test =>
    intro i ext hi hw hstc
    have hexec : exec i s = .next (s.beginTest tag ext) := by rcases hi with ⟨rfl, rfl⟩ | ⟨rfl, rfl⟩ <;> rfl
    refine ⟨_, hexec, ?_⟩
    rintro known rfl
    exact h.beginTest hw hstc
  case format =>
    rintro i erase (⟨rfl, rfl, hses⟩ | ⟨rfl, rfl, hses⟩) hw
    all_goals
      refine ⟨_, rfl, fun xs hxs fits hfits => ?_⟩
      rw [h.begin hw (by simp [hses])]
      obtain ⟨hnone, hsome⟩ := h.formatCmd hxs rfl hfits
      refine ⟨hnone, fun hany => ?_⟩
      obtain ⟨hbusy, hform, hpi, hroom, hgo⟩ := hsome hany
      refine ⟨hbusy, hform, hpi, hroom, fun hidle hok hle hfit => ?_⟩
      rw [hgo hidle hok hle hfit]
    · obtain ⟨hformats, hstands⟩ := State.formatErase_stands (s := s) tag c xs (fun nsx => xs.any fun (_, n) => n.nsx = nsx) (stat 0 0x21) _ _
      exact ⟨fun hno => (by cases hno), fun _ => ⟨_, _, rfl, hformats, rfl, rfl, fun _ => rfl, fun hno => (by cases hno), hstands⟩⟩
    · refine ⟨fun _ hbad => ?_, fun hgood => ?_⟩
      · rw [if_pos ((s.slotsRefused_iff tag _ xs).mpr hbad)]
        exact h.served_finish _ 0 (Begun.self s tag)
      · have hfine : ¬∃ z ∈ xs, (s.keySlot z.2.slot).kind = 2 ∨ 4096 ≤ z.2.slot := by
          rintro ⟨z, hz, hbad⟩
          obtain ⟨hkind, hslot⟩ := (hgood.resolve_left (by decide)) z hz
          exact hbad.elim hkind (Nat.not_le.mpr hslot)
        rw [if_neg (mt (s.slotsRefused_iff tag _ xs).mp hfine)]
        obtain ⟨hformats, hstands⟩ := State.formatCrypto_stands (s := s) tag c xs (stat 7 0xC3) (slotsOf xs)
          (fun s k => if (s.keySlot k).kind = 1 then some (s.keySlot k).label else none) ⟨tag, [], slotsOf xs, true⟩
        exact ⟨_, _, rfl, hformats, rfl, rfl, fun hno => (by cases hno), fun _ => ⟨rfl, fun z hz => mem_slotsOf hz⟩, hstands⟩
  case sanitize =>
    rintro i crypto (⟨rfl, rfl, hact⟩ | ⟨rfl, rfl, hact⟩) hw
    · obtain ⟨hbusy, hgo⟩ := h.beginSanitize hw hact
      refine ⟨_, execSanitizeBlockErase_eq s tag, hbusy, fun hidle => ?_⟩
      obtain ⟨begun, hruns, -⟩ := (s.sanitizeErase_begun tag (stat 0 0x21) _ (fun _ => true) _).runs tag ⟨false, _, false⟩
      exact ⟨_, _, hgo hidle, hruns, rfl, rfl, begun.status, begun.test, fun hno => (by cases hno), begun.spaces, begun.frame, begun.media⟩
    · obtain ⟨hbusy, hgo⟩ := h.beginSanitize hw hact
      refine ⟨_, execSanitizeCryptoErase_eq s tag, hbusy, fun hidle => ?_⟩
      have dropped := State.dropRoot_dropped ((s.modCmd tag fun c => { c with started := true }).sanitizeBegins (stat 7 0xC3))
      have hdata : ∀ k ∈ s.dataSlots, k ∈ ((s.modCmd tag fun c => { c with started := true }).sanitizeBegins (stat 7 0xC3)).dataSlots := fun k hk => by
        rw [State.dataSlots, State.sanitizeBegins_cipher]
        exact hk
      obtain ⟨hbegun, howner⟩ := s.sanitizeCrypto_begun tag (stat 7 0xC3) _ State.labelAgain
      obtain ⟨begun, hruns, hcipher⟩ := hbegun.runs tag _
      exact ⟨_, _, hgo hidle, hruns, rfl, rfl, begun.status, begun.test,
        fun _ => ⟨List.mem_cons_self, fun k hk => List.mem_cons_of_mem _ (dropped.slots k (hdata k hk)), (congrArg CipherState.owner hcipher).trans howner⟩,
        begun.spaces, begun.frame, begun.media⟩
  case overwrite =>
    intro hw hact
    exact ⟨_, rfl, h.begin_served hw (by simp [hact]) (h.served_finish invalidField 0 (Begun.self s tag))⟩

end Sys2Proof.Machine
end

section
/-! Every command completes and keeps the queue (O56). `exec_keeps` says of each command that it answers a next state with the queue as it was; a step and a run follow. -/
namespace Sys2Proof.Machine

theorem exec_keepsQueue (i : Instr) (s : State) : ∃ t, exec i s = .next t ∧ t.pending = s.pending := by
  obtain ⟨t, ht, hpending, -⟩ := exec_keeps i s
  exact ⟨t, ht, hpending⟩

theorem step_cons {i : Instr} {rest : List Instr} {s : State} (h : s.pending = i :: rest) : step s = exec i { s with pending := rest } := by
  unfold step
  rw [h]

theorem step_nil {s : State} (h : s.pending = []) : step s = .next s := by
  unfold step
  rw [h]

/-- A step answers a next state, whose queue is the old one without its first command. -/
theorem step_takesOne (s : State) : ∃ t, step s = .next t ∧ t.pending = s.pending.tail := by
  cases h : s.pending with
  | nil => exact ⟨s, step_nil h, h⟩
  | cons i rest =>
    obtain ⟨t, ht, hpending⟩ := exec_keepsQueue i { s with pending := rest }
    exact ⟨t, (step_cons h).trans ht, hpending⟩

/-- The state that a step answers. -/
def State.stepped (s : State) : State :=
  match step s with
  | .next t => t
  | _ => s

theorem step_eq_stepped (s : State) : step s = .next s.stepped := by
  obtain ⟨t, ht, -⟩ := step_takesOne s
  simp [State.stepped, ht]

theorem State.stepped_pending (s : State) : s.stepped.pending = s.pending.tail := by
  obtain ⟨t, ht, hpending⟩ := step_takesOne s
  simpa [State.stepped, ht] using hpending

theorem State.stepped_iterate_pending (s : State) (n : Nat) : (State.stepped^[n] s).pending = s.pending.drop n := by
  induction n with
  | zero => rfl
  | succ n ih => rw [Function.iterate_succ_apply', State.stepped_pending, ih, List.tail_drop]

/-- Settles O56: the frame of every command (`exec_keeps`), then the run that iterates `step`, by induction on its length. -/
theorem everyCommandCompletesAndKeepsTheQueue : Obligations.EveryCommandCompletesAndKeepsTheQueue := by
  refine ⟨exec_keepsQueue, fun i rest s h => ?_, fun s => ⟨fun n => State.stepped^[n] s, rfl, fun n => ?_, s.stepped_iterate_pending⟩⟩
  · obtain ⟨t, ht, hpending⟩ := step_takesOne s
    exact ⟨t, ht, by rw [hpending, h, List.tail_cons]⟩
  · simpa only [Function.iterate_succ_apply'] using step_eq_stepped (State.stepped^[n] s)

end Sys2Proof.Machine
end

section
/-! Host commands act on their waiting row alone (O59): the meaning of each is one `State.begin` on its tag, which leaves the state as it is while the row does not wait. -/
namespace Sys2Proof.Machine

/-- No command of this tag may begin: its row is missing, has begun or has its status, or the front end has stopped and the row came from a queue. -/
def State.Idle (s : State) (tag : Nat) : Prop :=
  ∀ c, s.cmd tag = some c → c.started = true ∨ c.result.isSome ∨ (s.fe.stopped = true ∧ c.tunnelled = false)

theorem State.Idle.begin_eq {s : State} {tag : Nat} (h : s.Idle tag) (admin : Bool) (opc : Nat) (sel : Cmd → Bool) (f : State → Cmd → State) :
    s.begin tag admin opc sel f = s := by
  unfold State.begin
  split
  · next c hc =>
    rcases h c hc with hstarted | hresult | ⟨hstopped, htunnelled⟩
    · simp [Cmd.waits, hstarted]
    · simp [Cmd.waits, Option.isNone_eq_false_iff.mpr hresult]
    · simp [hstopped, htunnelled]
  · rfl

theorem State.Idle.streamCmd_eq {s : State} {tag : Nat} (h : s.Idle tag) (opc : Nat) (decode : Bool) (input : List Byte) (chain : List (BitVec 128)) :
    s.streamCmd tag opc decode input chain = s := by
  unfold State.streamCmd
  split
  · rfl
  · exact h.begin_eq ..

/-- An unsupported feature identifier is looked for with Set Features, then with Get Features. -/
theorem State.Idle.featuresUnsupportedId {s : State} {tag : Nat} (h : s.Idle tag) : execFeaturesUnsupportedId tag s = .next s := by
  unfold execFeaturesUnsupportedId
  dsimp only
  rw [h.begin_eq, h.begin_eq]

/-- Settles O59: every host command's meaning unfolds to one `State.begin` on its tag; the two stream commands look at their context first, and the unsupported
feature identifier begins twice. -/
theorem hostCommandsActOnTheirWaitingRow : Obligations.HostCommandsActOnTheirWaitingRow := by
  intro i s tag hi h
  have idle : s.Idle tag := h
  cases i with
  | featuresUnsupportedId => cases hi; exact idle.featuresUnsupportedId
  | skiveStream => cases hi; exact congrArg Host.Outcome.next (idle.streamCmd_eq ..)
  | unskiveStream => cases hi; exact congrArg Host.Outcome.next (idle.streamCmd_eq ..)
  | _ => cases hi <;> exact congrArg Host.Outcome.next (idle.begin_eq ..)

end Sys2Proof.Machine
end

section
/-! PWRFAIL_N and the dump (O22): a dump that starts in three parts, the end of a dump unit, the dump's end by the holds in force, and the release of a power failure's hold. -/
namespace Sys2Proof.Machine

/-! ### The start of a dump -/

/-- A dump's first record, which ends the holding of records (R402). -/
def State.dumpAnnounced (s : State) (cause : Nat) : State :=
  if (s.leave 0x0901 0 [s.dump.serial + 1, cause, s.wb.dirty]).obs.ringOn then
    ({ s.leave 0x0901 0 [s.dump.serial + 1, cause, s.wb.dirty] with
        obs := { (s.leave 0x0901 0 [s.dump.serial + 1, cause, s.wb.dirty]).obs with transfers := [] } } : State).endHolding
  else s.leave 0x0901 0 [s.dump.serial + 1, cause, s.wb.dirty]

/-- The run of a dump that starts: its image, and its girths where at least one channel takes data. -/
def State.dumpRunOf (s : State) (cause serial : Nat) (set scan : Bool) : DumpRun :=
  let im := s.dumpImage cause serial (bit set)
  { cause := cause, serial := serial, set := bit set, image := im, girths := if s.dumpW = 0 then 0 else s.dumpGirths im.frames, wd := s.dumpW, ended := [], lost := [],
    row := 0, boundaryScan := scan }

/-- The main domain stands still and the run begins. -/
def State.dumpBegun (s : State) (r : DumpRun) (set : Bool) : State :=
  { s.stopFront.heartbeatsLow with
    awl := { s.awl with dies := s.awl.dies.map fun (n, d) => (n, d.dumped),
                        chans := s.awl.chans.map fun (n, c) => (n, { c with outHost := [], outInternal := [], busy := none }) },
    plan := { s.plan with running := s.plan.dump, loading := false, loaded := false, sampled := false },
    cipher := { s.cipher with reqs := [] },
    wheel := { s.wheel with dumpedWt := s.wheel.wt },
    dump := { s.dump with since := true, serial := r.serial, image := some r.image, lost := [],
                          dumped := Table.set s.dump.dumped (bit set) (r.image.units.map fun w => (w.desc.nsx, w.desc.unit)), run := some r } }

/-- The hold set's blocks count as programmed; BEGUN is written, and DONE at once where no girth is to come. -/
def State.dumpWritten (s : State) (r : DumpRun) (set : Bool) : State :=
  let t := ((s.dump.hold set).foldl (fun s b => s.modBlk b fun r => { r with programmed := 1 }) s)
  let t' := t.writeRec .dumpAnchor (.dumpAnchor 2 (bit set) r.serial t.chMask (t.wheel.wt % 2 ^ 48))
  if r.girths = 0 then t'.writeRec .dumpAnchor (.dumpAnchor 3 (bit set) r.serial t'.chMask (t'.wheel.wt % 2 ^ 48)) else t'

theorem State.startDump_eq {s : State} {set : Bool} (hactive : s.dump.active = some set) (hsince : s.dump.since = false) (cause : Nat) (scan : Bool) :
    s.startDump cause scan = ((s.dumpAnnounced cause).dumpBegun ((s.dumpAnnounced cause).dumpRunOf cause (s.dump.serial + 1) set scan) set).dumpWritten
      ((s.dumpAnnounced cause).dumpRunOf cause (s.dump.serial + 1) set scan) set := by
  unfold State.startDump
  simp only [hactive, hsince, Bool.false_eq_true, if_false]
  rfl

theorem State.dumpAnnounced_kept (s : State) (cause : Nat) : (s.dumpAnnounced cause).map = s.map ∧ (s.dumpAnnounced cause).wb = s.wb ∧ (s.dumpAnnounced cause).wheel = s.wheel ∧
    (s.dumpAnnounced cause).plan = s.plan ∧ (s.dumpAnnounced cause).dump = s.dump ∧ (s.dumpAnnounced cause).media = s.media := by
  unfold State.dumpAnnounced
  split <;> simp

theorem State.heartbeatsLow_hbeat (s : State) (p : Rein) : (s.heartbeatsLow.port p).hbeat = false := by
  cases p <;> rfl

theorem State.dumpWritten_kept (s : State) (r : DumpRun) (set : Bool) : (s.dumpWritten r set).map = s.map ∧ (s.dumpWritten r set).plan = s.plan ∧
    (s.dumpWritten r set).dump = s.dump ∧ (s.dumpWritten r set).media = s.media ∧ (s.dumpWritten r set).rein = s.rein ∧ (s.dumpWritten r set).fe = s.fe := by
  have hblocks := fold_left (fun t => (t.map, t.plan, t.dump, t.media, t.rein, t.fe)) (fun s b => s.modBlk b fun r => { r with programmed := 1 })
    (fun _ _ => rfl) (s.dump.hold set) s
  simp only [Prod.mk.injEq] at hblocks
  unfold State.dumpWritten
  dsimp only
  split <;> exact hblocks

theorem State.dumpUnits_congr {s t : State} (hmap : t.map = s.map) (hwb : t.wb = s.wb) : t.dumpUnits = s.dumpUnits := by
  unfold State.dumpUnits
  rw [hmap, hwb]

/-- The dump has started: the run, its image, and what stops with it. -/
theorem State.startDump_started {s : State} {set : Bool} (hactive : s.dump.active = some set) (hsince : s.dump.since = false) (cause : Nat) (scan : Bool) :
    ∃ r, (s.startDump cause scan).dump.run = some r ∧ r.cause = cause ∧ r.set = bit set ∧ r.serial = s.dump.serial + 1 ∧ r.ended = [] ∧ r.lost = [] ∧
      r.image.units = s.dumpUnits ∧ r.image.wt = s.wheel.wt ∧
    (s.startDump cause scan).dump.since = true ∧ (s.startDump cause scan).dump.filterLow = s.dump.filterLow ∧ (s.startDump cause scan).fe.stopped = true ∧
    (s.startDump cause scan).plan.running = s.plan.dump ∧ (∀ p, ((s.startDump cause scan).port p).hbeat = false) ∧ (s.startDump cause scan).media = s.media ∧
    (s.startDump cause scan).map = s.map := by
  obtain ⟨hmap, hwb, hwheel, hplan, hdump, hmedia⟩ := s.dumpAnnounced_kept cause
  rw [State.startDump_eq hactive hsince]
  generalize hr : (s.dumpAnnounced cause).dumpRunOf cause (s.dump.serial + 1) set scan = r
  obtain ⟨wmap, wplan, wdump, wmedia, wrein, wfe⟩ := ((s.dumpAnnounced cause).dumpBegun r set).dumpWritten_kept r set
  subst hr
  refine ⟨(s.dumpAnnounced cause).dumpRunOf cause (s.dump.serial + 1) set scan, by rw [wdump]; rfl, rfl, rfl, rfl, rfl, rfl, State.dumpUnits_congr hmap hwb,
    congrArg WheelState.wt hwheel, by rw [wdump]; rfl, ?_, by rw [wfe]; rfl, ?_, fun p => ?_, ?_, ?_⟩
  · rw [wdump, ← hdump]; rfl
  · rw [wplan, ← hplan]; rfl
  · unfold State.port
    rw [wrein]
    exact (s.dumpAnnounced cause).stopFront.heartbeatsLow_hbeat p
  · rw [wmedia, ← hmedia]; rfl
  · rw [wmap, ← hmap]; rfl

/-! ### A dump unit ends -/

theorem DumpRun.mayEnd_iff (d : DumpRun) (g m : Nat) : d.mayEnd g m = true ↔ g < d.girths ∧ m < d.wd + 2 ∧ (g, m) ∉ d.ended ∧ (0 < g → (g - 1, m) ∈ d.ended) := by
  rcases Nat.eq_zero_or_pos g with rfl | hg
  · simp [DumpRun.mayEnd, and_assoc]
  · simp [DumpRun.mayEnd, and_assoc, hg, Nat.ne_of_gt hg]

theorem DumpRun.unitEnd_mayEnd (d : DumpRun) (g m : Nat) (good : Bool) : (d.unitEnd g m good).mayEnd g m = false := by
  rw [← Bool.not_eq_true, DumpRun.mayEnd_iff]
  simp [DumpRun.unitEnd]

theorem execDumpUnitProgramDone_of_busy {s : State} {d : DumpRun} {g m : Nat} (hrun : s.dump.run = some d)
    (h : d.mayEnd g m = false ∨ ∃ x, s.dumpDie d g m = some x ∧ (s.die x).resetting = true) (good : Bool) : execDumpUnitProgramDone g m good s = .next s := by
  unfold execDumpUnitProgramDone
  rw [hrun]
  rcases h with hmay | ⟨x, hx, hresetting⟩
  · simp [hmay]
  · simp [hx, hresetting]

theorem execDumpUnitProgramDone_ends {s : State} {d : DumpRun} {g m : Nat} (hrun : s.dump.run = some d) (hmay : d.mayEnd g m = true)
    (hready : ∀ x, s.dumpDie d g m = some x → (s.die x).resetting = false) (good : Bool) : execDumpUnitProgramDone g m good s = .next (s.dumpUnitEnd d g m good) := by
  unfold execDumpUnitProgramDone
  rw [hrun]
  cases hdie : s.dumpDie d g m with
  | none => simp [hmay, hdie]
  | some x => simp [hmay, hdie, hready x hdie]

theorem State.dumpUnitEnd_dump (s : State) (d : DumpRun) (g m : Nat) (good : Bool) :
    (s.dumpUnitEnd d g m good).dump = { s.dump with run := some (d.unitEnd g m (good && (s.dumpDie d g m).isSome)) } := by
  unfold State.dumpUnitEnd
  dsimp only
  split <;> split <;> simp

theorem State.dumpUnitEnd_media (s : State) (d : DumpRun) (g m : Nat) (good : Bool) : (s.dumpUnitEnd d g m good).media = s.media := by
  unfold State.dumpUnitEnd
  dsimp only
  split <;> split <;> simp

/-- After the last good unit the DONE record is in the sequencer's hands. -/
theorem State.dumpUnitEnd_last {s : State} {d : DumpRun} {g m : Nat} (h : (d.unitEnd g m (s.dumpDie d g m).isSome).full = true) :
    (s.dumpUnitEnd d g m true).ts = (s.writeRec .dumpAnchor (.dumpAnchor 3 d.set d.serial s.chMask (d.image.wt % 2 ^ 48))).ts.pump := by
  unfold State.dumpUnitEnd
  simp only [Bool.true_and, h, if_true]
  rfl

/-! ### The dump's end and the holds -/

/-- What no answer to a waiting sideband request touches of the pins and of the faults. -/
def State.pinsAndFaults (s : State) : Bool × Option JtagInstr × Nat × FaultState := (s.pkg.pwrfailN, s.pkg.jtagWaiting, s.pkg.vcoreReq, s.fault)

theorem State.tunnelStopped_pinsAndFaults (s : State) (key : Nat) (e : BitVec 512) : (s.tunnelStopped key e).pinsAndFaults = s.pinsAndFaults := by
  unfold State.tunnelStopped
  dsimp only
  split
  · rfl
  · obtain ⟨hpkg, hfault⟩ := (s.tunnelIn key e).2.finishCode_pkg (s.tunnelIn key e).1 sequenceError 0
    unfold State.finish State.pinsAndFaults
    rw [hpkg, hfault]
    rfl

theorem State.answerWaiting_pinsAndFaults (s : State) : s.answerWaiting.pinsAndFaults = s.pinsAndFaults := by
  unfold State.answerWaiting
  refine (fold_left State.pinsAndFaults _ (fun s m => ?_) _ _).trans rfl
  split
  · exact s.tunnelStopped_pinsAndFaults _ _
  · rfl

/-- The state when a run has ended and the requests that waited are answered. -/
def State.dumpLeft (s : State) (d : DumpRun) : State := State.answerWaiting { s with dump := { s.dump with run := none, ended := some d.cause, lost := d.lost } }

theorem State.dumpLeft_pinsAndFaults (s : State) (d : DumpRun) : (s.dumpLeft d).pinsAndFaults = s.pinsAndFaults :=
  State.answerWaiting_pinsAndFaults _

theorem State.dumpLeft_kept (s : State) (d : DumpRun) : (s.dumpLeft d).media = s.media ∧ (s.dumpLeft d).therm = s.therm ∧ (s.dumpLeft d).dump.run = none := by
  simp [State.dumpLeft]

/-- With no fatal fault in waiting nothing but the holds follows. -/
theorem State.dumpEnds_eq {s : State} {d : DumpRun} (hrun : s.dump.run = some d) (hfatal : s.fault.dumpFatal = none) :
    s.dumpEnds = (s.dumpLeft d).afterDump d := by
  unfold State.dumpEnds State.dumpOver
  simp only [hrun, hfatal]
  rfl

theorem State.holdAll_takes (s : State) (scan : Bool) (holds : List Nat) : (s.holdAll scan holds).dump = { s.dump with inReset := true, holds := holds } ∧
    (s.holdAll scan holds).media = s.media ∧ (s.holdAll scan holds).pkg.vcoreReq = 20 := by
  unfold State.holdAll State.takeBalls State.holdMain
  split <;> split <;> exact ⟨rfl, rfl, rfl⟩

theorem State.holdsAfter_of_low {s : State} (hlow : s.pkg.pwrfailN = false) (d : DumpRun) : 1 ∈ s.holdsAfter d ∧ s.holdsAfter d ≠ [5] := by
  simp [State.holdsAfter, hlow]

/-- PWRFAIL_N is low at the dump's end: the main domain is held (R226). -/
theorem State.dumpEnds_held {s : State} {d : DumpRun} (hrun : s.dump.run = some d) (hlow : s.pkg.pwrfailN = false) (hfatal : s.fault.dumpFatal = none) :
    s.dumpEnds.dump.run = none ∧ s.dumpEnds.dump.inReset = true ∧ 1 ∈ s.dumpEnds.dump.holds ∧ s.dumpEnds.media = s.media ∧ s.dumpEnds.pkg.vcoreReq = 20 := by
  have hlow' : (s.dumpLeft d).pkg.pwrfailN = false := (congrArg Prod.fst (s.dumpLeft_pinsAndFaults d)).trans hlow
  obtain ⟨hone, hnot5⟩ := State.holdsAfter_of_low hlow' d
  obtain ⟨hmedia, -, hnone⟩ := s.dumpLeft_kept d
  obtain ⟨tdump, tmedia, tvcore⟩ := (s.dumpLeft d).holdAll_takes (d.boundaryScan || (s.dumpLeft d).pkg.jtagWaiting.isSome) ((s.dumpLeft d).holdsAfter d)
  rw [State.dumpEnds_eq hrun hfatal, State.afterDump, if_neg (List.ne_nil_of_mem hone), if_neg hnot5, tdump]
  exact ⟨hnone, rfl, hone, tmedia.trans hmedia, tvcore⟩

/-- A shutdown's dump with no other hold in force: shutdown is complete (R226 item 5). -/
theorem State.dumpEnds_shutDown {s : State} {d : DumpRun} (hrun : s.dump.run = some d) (hcause : d.cause = 1) (hscan : d.boundaryScan = false)
    (hhigh : s.pkg.pwrfailN = true) (hfatal : s.fault.dumpFatal = none) (hstop : s.fault.stop = none) (htrip : s.therm.tripped = false)
    (hjtag : s.pkg.jtagWaiting = none) : ∃ t : State, s.dumpEnds = t.shutDown ∧ t.media = s.media := by
  have hpins := s.dumpLeft_pinsAndFaults d
  simp only [State.pinsAndFaults, Prod.mk.injEq] at hpins
  obtain ⟨hpower, hwaits, -, hfault⟩ := hpins
  obtain ⟨hmedia, htherm, -⟩ := s.dumpLeft_kept d
  have hholds : (s.dumpLeft d).holdsAfter d = [5] := by
    simp [State.holdsAfter, hpower, hwaits, hfault, htherm, hhigh, hjtag, hstop, htrip, hcause, hscan]
  refine ⟨s.dumpLeft d, ?_, hmedia⟩
  rw [State.dumpEnds_eq hrun hfatal, State.afterDump, hholds]
  rfl

/-! ### PWRFAIL_N is high again -/

/-- The holds that outlast a power failure: with it, fault stop's ends. -/
def holdsPastPower (holds : List Nat) : List Nat := holds.filter fun h => decide (h ≠ 1) && !decide (h = 3)

theorem mem_holdsPastPower {h : Nat} {holds : List Nat} : h ∈ holdsPastPower holds ↔ h ∈ holds ∧ h ≠ 1 ∧ h ≠ 3 := by
  simp [holdsPastPower]

theorem holdsPastPower_eq_nil {holds : List Nat} : holdsPastPower holds = [] ↔ ∀ h ∈ holds, h = 1 ∨ h = 3 := by
  simp [holdsPastPower, List.filter_eq_nil_iff, or_iff_not_imp_left]

/-- The last hold is released: a power-on reset, after a trip with its record. -/
def State.resetByHolds (s : State) : State :=
  match s.therm.resumed with
  | some h => (s.powerOnReset false).leave 0x1006 0 [h]
  | none => s.powerOnReset false

theorem State.resetByHolds_reset (s : State) : s.resetByHolds.media = s.media ∧ s.resetByHolds.ts.bootStep = 0 ∧ s.resetByHolds.pending = s.pending ∧
    s.resetByHolds.dump.holds = [] ∧ s.resetByHolds.dump.inReset = false := by
  unfold State.resetByHolds
  split
  · simp only [State.leave_kept, State.leave_bootStep]
    exact ⟨rfl, rfl, rfl, rfl, rfl⟩
  · exact ⟨rfl, rfl, rfl, rfl, rfl⟩

theorem State.releaseHold_power {s : State} (hhold : 1 ∈ s.dump.holds) : s.releaseHold 1 =
    if holdsPastPower s.dump.holds = [] then s.resetByHolds else if holdsPastPower s.dump.holds = [5] then s.shutDown
    else { s with dump := { s.dump with holds := holdsPastPower s.dump.holds } } := by
  unfold State.releaseHold
  rw [if_pos (by simpa using hhold)]
  rfl

theorem State.releaseHold_of_not_held {s : State} {h : Nat} (hnot : h ∉ s.dump.holds) : s.releaseHold h = s := by
  simp [State.releaseHold, hnot]

/-- Any hold but a power failure's and fault stop's stands on. -/
theorem State.releaseHold_power_holds {s : State} (hhold : 1 ∈ s.dump.holds) {h : Nat} (hmem : h ∈ s.dump.holds) (hone : h ≠ 1) (hthree : h ≠ 3) :
    h ∈ (s.releaseHold 1).dump.holds ∧ 1 ∉ (s.releaseHold 1).dump.holds := by
  have hpast : h ∈ holdsPastPower s.dump.holds := mem_holdsPastPower.mpr ⟨hmem, hone, hthree⟩
  rw [State.releaseHold_power hhold, if_neg (List.ne_nil_of_mem hpast)]
  split
  · next hfive =>
    rw [hfive] at hpast
    simpa [State.shutDown] using hpast
  · simp [hpast, mem_holdsPastPower]

theorem State.releaseHold_power_media (s : State) : (s.releaseHold 1).media = s.media := by
  by_cases hhold : 1 ∈ s.dump.holds
  · rw [State.releaseHold_power hhold]
    split
    · exact s.resetByHolds_reset.1
    · split <;> rfl
  · rw [State.releaseHold_of_not_held hhold]

/-! ### The statement -/

theorem execPwrfailNHighFilterExpire_of_due {s : State} (hhigh : s.pkg.pwrfailN = true) (hfilter : s.dump.filterHigh = true) :
    execPwrfailNHighFilterExpire s = .next (({ s with dump := { s.dump with filterHigh := false } } : State).releaseHold 1) := if_pos ⟨hhigh, hfilter⟩

theorem execPwrfailFilterExpire_of_due {s : State} (hlow : s.pkg.pwrfailN = false) (hfilter : s.dump.filterLow = true) :
    execPwrfailFilterExpire s = .next (({ s with dump := { s.dump with filterLow := false } } : State).startDump 0 false).arrayPump := by
  unfold execPwrfailFilterExpire
  simp [hlow, hfilter]

/-- Without a hold set, or with a dump since the last restart, none starts. -/
theorem State.startDump_of_not {s : State} (h : s.dump.active = none ∨ s.dump.since = true) (cause : Nat) (scan : Bool) : s.startDump cause scan = s := by
  unfold State.startDump
  split
  · rfl
  · next hactive =>
    rw [hactive] at h
    rw [if_pos (h.resolve_left nofun)]

/-- Settles O22: the ball and its filters, the dump's start, its units and rows, its end, and the hold's release. -/
theorem powerLossStartsOneDump : Obligations.PowerLossStartsOneDump := by
  unfold Obligations.PowerLossStartsOneDump
  refine ⟨fun s h => if_pos h, fun s h => if_neg (by simp [h]), fun s h => if_pos h, ?rise, ?filterNone, ?noDump, ?starts, ?noRun, ?row, ?busy, ?unitEnds,
    fun d g m h => (d.mayEnd_iff g m).mp h, fun s d => State.dumpEnds_held, ?shutdown, ?highNone, ?high⟩
  case rise =>
    intro s hlow
    refine ⟨_, if_neg (by simp [hlow]), ?_⟩
    cases hfilter : s.dump.filterLow <;> simp [SameData, State.count1]
  case filterNone =>
    intro s h
    refine if_neg ?_
    rcases h with h | h <;> simp [h]
  case noDump =>
    intro s hlow hfilter hnone
    refine ⟨_, execPwrfailFilterExpire_of_due hlow hfilter, ?_⟩
    rw [State.startDump_of_not (s := { s with dump := { s.dump with filterLow := false } }) hnone]
    exact ⟨rfl, by simp [SameFrame], rfl⟩
  case starts =>
    intro s set hlow hfilter hactive hsince
    obtain ⟨r, started⟩ := State.startDump_started (s := { s with dump := { s.dump with filterLow := false } }) hactive hsince 0 false
    exact ⟨_, r, execPwrfailFilterExpire_of_due hlow hfilter, started⟩
  case noRun =>
    intro s hrun
    have hrow : execDumpRowStep s = .next s := by unfold execDumpRowStep; rw [hrun]
    have hunit (g m : Nat) (good : Bool) : execDumpUnitProgramDone g m good s = .next s := by unfold execDumpUnitProgramDone; rw [hrun]
    exact ⟨hrow, hunit⟩
  case row =>
    intro s d hrun
    show execDumpRowStep s = _
    unfold execDumpRowStep
    rw [hrun]
  case busy => exact fun s d g m good hrun h => execDumpUnitProgramDone_of_busy hrun h good
  case unitEnds =>
    intro s d g m good hrun hmay hready
    refine ⟨s.dumpUnitEnd d g m good, d.unitEnd g m (good && (s.dumpDie d g m).isSome), execDumpUnitProgramDone_ends hrun hmay hready good,
      s.dumpUnitEnd_dump d g m good, rfl, rfl, d.unitEnd_mayEnd g m _, s.dumpUnitEnd_media d g m good, ?_⟩
    rintro rfl hlast
    have hfull : (d.unitEnd g m (s.dumpDie d g m).isSome).full = true := by
      rw [Bool.true_and] at hlast
      simpa only [DumpRun.full, decide_eq_true_eq] using hlast
    exact State.dumpUnitEnd_last hfull
  case shutdown =>
    intro s d hrun hcause hscan hhigh hfatal hstop htrip hjtag
    obtain ⟨t, ht, hmedia⟩ := State.dumpEnds_shutDown hrun hcause hscan hhigh hfatal hstop htrip hjtag
    rw [ht]
    exact ⟨rfl, rfl, rfl, rfl, hmedia⟩
  case highNone =>
    intro s h
    refine if_neg ?_
    rcases h with h | h <;> simp [h]
  case high =>
    intro s hhigh hfilter
    refine ⟨_, execPwrfailNHighFilterExpire_of_due hhigh hfilter, State.releaseHold_power_media _, fun hnot => State.releaseHold_of_not_held hnot, fun hhold hall => ?_,
      fun h hmem hhold hone hthree => State.releaseHold_power_holds (s := { s with dump := { s.dump with filterHigh := false } }) hhold hmem hone hthree⟩
    rw [State.releaseHold_power (s := { s with dump := { s.dump with filterHigh := false } }) hhold, if_pos (holdsPastPower_eq_nil.mpr hall)]
    exact (State.resetByHolds_reset _).2

end Sys2Proof.Machine
end

section
/-! SUPPORT. The course of restart and admission (O6, O7): what the engines of map and flash, the front end's postings and the parts of restart leave of it, one lemma an operation. -/
namespace Sys2Proof.Machine

/-- What restart's steps alone decide of the dump: the step, the case, the active set, whether a dump has been taken since, and the set to become active. -/
def DumpState.course (d : DumpState) : Nat × Nat × Option Bool × Bool × Option Bool := (d.step, d.case, d.active, d.since, d.holdTarget)

@[simp] theorem course_consumeRuns (d : DumpState) (x : List (Nat × Nat)) : ({ d with consumeRuns := x } : DumpState).course = d.course := rfl
@[simp] theorem course_consumeRoot (d : DumpState) (x : Option Nat) : ({ d with consumeRoot := x } : DumpState).course = d.course := rfl
@[simp] theorem course_consumeLedger (d : DumpState) (x : List LedgerEntry) : ({ d with consumeLedger := x } : DumpState).course = d.course := rfl
@[simp] theorem course_holds (d : DumpState) (a b : List Nat) (x : Bool) : ({ d with holdA := a, holdB := b, holdDue := x } : DumpState).course = d.course := rfl
@[simp] theorem course_holdA (d : DumpState) (a : List Nat) : ({ d with holdA := a } : DumpState).course = d.course := rfl
@[simp] theorem course_holdB (d : DumpState) (b : List Nat) : ({ d with holdB := b } : DumpState).course = d.course := rfl
@[simp] theorem course_holdSerial (d : DumpState) (x : Bool) (n : Nat) : ({ d with holdDue := x, holdSerial := n } : DumpState).course = d.course := rfl
@[simp] theorem course_clean (d : DumpState) (x : Bool) : ({ d with clean := x } : DumpState).course = d.course := rfl

/-- Restart's course, admission, the tree store's records and the saddlebag ring's start are in `t` as they were in `s`. -/
@[simp] abbrev State.Stays (s t : State) : Prop :=
  t.dump.course = s.dump.course ∧ t.fe.admits = s.fe.admits ∧ t.fe.stopped = s.fe.stopped ∧ t.ts.rings = s.ts.rings ∧ t.obs.ringOn = s.obs.ringOn

theorem State.Stays.refl (s : State) : s.Stays s := ⟨rfl, rfl, rfl, rfl, rfl⟩
theorem State.Stays.trans {s t u : State} (h : s.Stays t) (h' : t.Stays u) : s.Stays u := by
  obtain ⟨hdump, hadmits, hstopped, hrings, hring⟩ := h
  obtain ⟨hdump', hadmits', hstopped', hrings', hring'⟩ := h'
  exact ⟨hdump'.trans hdump, hadmits'.trans hadmits, hstopped'.trans hstopped, hrings'.trans hrings, hring'.trans hring⟩

@[simp] theorem ite_course (c : Prop) [Decidable c] (a b : DumpState) : (if c then a else b).course = if c then a.course else b.course := by split <;> rfl
@[simp] theorem ite_admits (c : Prop) [Decidable c] (a b : FeState) : (if c then a else b).admits = if c then a.admits else b.admits := by split <;> rfl
@[simp] theorem ite_stopped (c : Prop) [Decidable c] (a b : FeState) : (if c then a else b).stopped = if c then a.stopped else b.stopped := by split <;> rfl
@[simp] theorem ite_ts (c : Prop) [Decidable c] (a b : State) : (if c then a else b).ts.rings = if c then a.ts.rings else b.ts.rings := by split <;> rfl
@[simp] theorem ite_ringOn (c : Prop) [Decidable c] (a b : State) : (if c then a else b).obs.ringOn = if c then a.obs.ringOn else b.obs.ringOn := by split <;> rfl
@[simp] theorem foldl_stays {α : Type} (g : State → α → State) (h : ∀ (s : State) (a : α), s.Stays (g s a)) (l : List α) (s : State) : s.Stays (l.foldl g s) := by
  induction l generalizing s with
  | nil => exact State.Stays.refl s
  | cons a l ih => exact State.Stays.trans (h s a) (ih _)
@[simp] theorem foldr_stays {α : Type} (g : α → State → State) (h : ∀ (a : α) (s : State), s.Stays (g a s)) (l : List α) (s : State) : s.Stays (l.foldr g s) := by
  induction l generalizing s with
  | nil => exact State.Stays.refl s
  | cons a l ih => exact State.Stays.trans (ih s) (h a _)

/-! ### The primitives that write these parts -/

@[simp] theorem ObsState.count_ringOn (o : ObsState) (src inst n : Nat) : (o.count src inst n).ringOn = o.ringOn := rfl
theorem ObsState.ringWrite_ringOn (o : ObsState) (r : SbRec) : (o.ringWrite r).ringOn = o.ringOn := by
  unfold ObsState.ringWrite
  dsimp only
  split <;> rfl
theorem ObsState.ringInsert_ringOn (o : ObsState) (r : SbRec) : (o.ringInsert r).ringOn = o.ringOn := by
  unfold ObsState.ringInsert
  dsimp only
  split
  · exact o.ringWrite_ringOn r
  · next p x rest _ =>
    refine (List.foldlRecOn (motive := fun o' : ObsState => o'.ringOn = o.ringOn) (((p, x) :: rest)) _ ?_ fun o' ih y _ => ?_)
    · exact ObsState.ringWrite_ringOn _ r
    · exact (o'.ringWrite_ringOn y.2).trans ih
theorem ObsState.holdRecord_ringOn (o : ObsState) (r : SbRec) : (o.holdRecord r).ringOn = o.ringOn := by
  unfold ObsState.holdRecord
  split <;> rfl
@[simp] theorem ObsState.put_ringOn (o : ObsState) (r : SbRec) : (o.put r).ringOn = o.ringOn := by
  unfold ObsState.put
  split
  · exact o.holdRecord_ringOn r
  · exact ObsState.ringInsert_ringOn _ r
@[simp] theorem ObsState.take_ringOn (o : ObsState) (code sev : Nat) : (o.take code sev).ringOn = o.ringOn := by
  unfold ObsState.take
  split <;> rfl
@[simp] theorem ObsState.endHolding_ringOn (o : ObsState) (wt : Nat) : (o.endHolding wt).ringOn = o.ringOn := by
  unfold ObsState.endHolding
  exact List.foldlRecOn (motive := fun o' : ObsState => o'.ringOn = o.ringOn) _ _ rfl fun o' ih r _ => (ObsState.ringWrite_ringOn _ r).trans ih
@[simp] theorem TsState.pump_rings (t : TsState) : t.pump.rings = t.rings := by
  unfold TsState.pump
  (repeat' split) <;> rfl
@[simp] theorem State.count_stays (s : State) (src inst n : Nat) : s.Stays (s.count src inst n) := ⟨rfl, rfl, rfl, rfl, rfl⟩
@[simp] theorem State.endHolding_stays (s : State) : s.Stays s.endHolding := ⟨rfl, rfl, rfl, rfl, s.obs.endHolding_ringOn _⟩
@[simp] theorem State.writeRec_stays (s : State) (r : Region) (x : TsRec) : s.Stays (s.writeRec r x) := ⟨rfl, rfl, rfl, rfl, rfl⟩
@[simp] theorem State.arrayPump_stays (s : State) : s.Stays s.arrayPump := ⟨rfl, rfl, rfl, s.ts.pump_rings, rfl⟩
@[simp] theorem State.setCq_stays (s : State) (k : Nat) (q : Cq) : s.Stays (s.setCq k q) := ⟨rfl, rfl, rfl, rfl, rfl⟩
@[simp] theorem State.modCmd_stays (s : State) (n : Nat) (f : Cmd → Cmd) : s.Stays (s.modCmd n f) := ⟨rfl, rfl, rfl, rfl, rfl⟩
@[simp] theorem State.setJob_stays (s : State) (t : Nat) (j : UnitJob) : s.Stays (s.setJob t j) := ⟨rfl, rfl, rfl, rfl, rfl⟩

/-! ### Sys2Proof/Machine/Observe.lean -/

@[simp] theorem State.count1_stays (s : State) (src : Nat) : s.Stays (s.count1 src) := by simp [State.count1]
@[simp] theorem State.putRecord_stays (s : State) (r : SbRec) : s.Stays (s.putRecord r) := by simp [State.putRecord]
@[simp] theorem State.recordEvent_stays (s : State) (code sev : Nat) (fields : List Nat) : s.Stays (s.recordEvent code sev fields) := by
  simp [State.recordEvent]
@[simp] theorem State.leave_stays (s : State) (code sev : Nat) (fields : List Nat) : s.Stays (s.leave code sev fields) := by simp [State.leave]
@[simp] theorem State.leaveSaturations_stays (s : State) : s.Stays s.leaveSaturations := by simp [State.leaveSaturations]

/-! ### Sys2Proof/Machine/Host.lean -/

@[simp] theorem State.smartCount_stays (s : State) (c : Cmd) (ok : Bool) : s.Stays (s.smartCount c ok) := by simp [State.smartCount]
@[simp] theorem State.countCompleted_stays (s : State) (c : Cmd) : s.Stays (s.countCompleted c) := by simp [State.countCompleted]
@[simp] theorem State.addError_stays (s : State) (ctrl sqid cid status nsid lba vendor : Nat) : s.Stays (s.addError ctrl sqid cid status nsid lba vendor) := by
  simp [State.addError]
@[simp] theorem State.leasePosted_stays (s : State) (tag : Nat) : s.Stays (s.leasePosted tag) := by simp [State.leasePosted]
@[simp] theorem State.postSide_stays (s : State) (tag : Nat) (r : CmdResult) (owed : Rein × Nat) : s.Stays (s.postSide tag r owed) := by
  unfold State.postSide
  (repeat' split) <;> simp
@[simp] theorem State.tunnelEnds_stays (s : State) (c : Cmd) (r : CmdResult) : s.Stays (s.tunnelEnds c r) := by simp [State.tunnelEnds]
@[simp] theorem State.freeIfDone_stays (s : State) (tag : Nat) : s.Stays (s.freeIfDone tag) := by
  unfold State.freeIfDone
  split <;> simp
@[simp] theorem State.postCmd_stays (s : State) (tag : Nat) : s.Stays (s.postCmd tag) := by
  unfold State.postCmd
  (repeat' split) <;> simp
@[simp] theorem State.postMismatch_stays (s : State) (m : Nat × Rein × BitVec 32 × CqEntry) : s.Stays (s.postMismatch m) := by
  unfold State.postMismatch
  (repeat' split) <;> simp
@[simp] theorem State.postAll_stays (s : State) : s.Stays s.postAll := by simp [State.postAll]
@[simp] theorem State.finishCode_stays (s : State) (tag : Nat) (r : CmdResult) (code : Nat) : s.Stays (s.finishCode tag r code) := by
  unfold State.finishCode
  split <;> simp
@[simp] theorem State.finish_stays (s : State) (tag : Nat) (r : CmdResult) : s.Stays (s.finish tag r) := by simp [State.finish]
@[simp] theorem State.eventOn_stays (s : State) (c : Nat) (r : Rein) (e : Event) : s.Stays (s.eventOn c r e) := by
  unfold State.eventOn
  (repeat' split) <;> simp
@[simp] theorem State.event_stays (s : State) (e : Event) : s.Stays (s.event e) := by simp [State.event]
@[simp] theorem State.vendorEvent_stays (s : State) (info page : Nat) : s.Stays (s.vendorEvent info page) := by simp [State.vendorEvent]
@[simp] theorem State.smartEvent_stays (s : State) (b info : Nat) : s.Stays (s.smartEvent b info) := by simp [State.smartEvent]

/-! ### Sys2Proof/Machine/Geometry.lean -/

@[simp] theorem State.newId_stays (s : State) : s.Stays s.newId.2 := by simp [State.newId]

/-! ### Sys2Proof/Machine/Pins.lean -/

@[simp] theorem State.ca_stays (s : State) (die : Nat) (hostRead : Bool) (cycles : List CaCycle) : s.Stays (s.ca die hostRead cycles) := by
  simp [State.ca]
@[simp] theorem State.sendCa_stays (s : State) : s.Stays s.sendCa := by simp [State.sendCa]

/-! ### Sys2Proof/Machine/Cache.lean -/

@[simp] theorem State.serveBank_stays (s : State) (b n : Nat) : s.Stays (s.serveBank b n) := by
  induction n generalizing s with
  | zero => exact State.Stays.refl s
  | succ n ih =>
    unfold State.serveBank
    dsimp only
    split
    · exact State.Stays.refl _
    · split
      · exact State.Stays.refl _
      · refine State.Stays.trans ?_ (ih _)
        split <;> simp
@[simp] theorem State.mcRequest_stays (s : State) (r : McReq) : s.Stays (s.mcRequest r) := by simp [State.mcRequest]
@[simp] theorem State.mcAccess_stays (s : State) (seg block : Nat) (write : Bool) (hint source : Nat) : s.Stays (s.mcAccess seg block write hint source) := by
  simp [State.mcAccess]
@[simp] theorem State.mcMaintain_stays (s : State) (b kind : Nat) (las : List Nat) : s.Stays (s.mcMaintain b kind las) := by
  simp [State.mcMaintain]
@[simp] theorem State.mcInvalidateSegment_stays (s : State) (seg : Nat) : s.Stays (s.mcInvalidateSegment seg) := by
  simp [State.mcInvalidateSegment]

/-! ### Sys2Proof/Machine/MapOps.lean -/

@[simp] theorem State.needSeg_stays (s : State) (seg : Nat) : s.Stays (s.needSeg seg) := by simp [State.needSeg]
@[simp] theorem State.checkBlock_stays (s : State) (seg block : Nat) : s.Stays (s.checkBlock seg block) := by simp [State.checkBlock]
@[simp] theorem State.checkUnit_stays (s : State) (nsx unit : Nat) : s.Stays (s.checkUnit nsx unit) := by
  unfold State.checkUnit
  refine foldl_stays _ (fun s a => ?_) _ s
  split <;> simp
@[simp] theorem State.needUnit_stays (s : State) (nsx unit g : Nat) : s.Stays (s.needUnit nsx unit g) := by simp [State.needUnit]
@[simp] theorem State.addBuffered_stays (s : State) (nsx unit : Nat) (up : Bool) : s.Stays (s.addBuffered nsx unit up) := by
  unfold State.addBuffered
  refine foldl_stays _ (fun s a => ?_) _ s
  split <;> simp
@[simp] theorem State.sumDirty_stays (s : State) : s.Stays s.sumDirty := by simp [State.sumDirty]
@[simp] theorem State.wbiRelease_stays (s : State) (nsx unit : Nat) : s.Stays (s.wbiRelease nsx unit) := by
  unfold State.wbiRelease
  split <;> simp
@[simp] theorem State.vcRemove_stays (s : State) (b : Nat) : s.Stays (s.vcRemove b) := by simp [State.vcRemove]
@[simp] theorem State.vcAdd_stays (s : State) (b : Nat) : s.Stays (s.vcAdd b) := by simp [State.vcAdd]
@[simp] theorem State.setValid_stays (s : State) (b valid : Nat) : s.Stays (s.setValid b valid) := by simp [State.setValid]
@[simp] theorem State.validRun_stays (s : State) (gaddr glen : Nat) : s.Stays (s.validRun gaddr glen) := by simp [State.validRun]
@[simp] theorem State.freeRun_stays (s : State) (gaddr glen : Nat) : s.Stays (s.freeRun gaddr glen) := by simp [State.freeRun]
@[simp] theorem State.queuePayload_stays (s : State) (n : Nat) (p : Payload) : s.Stays (s.queuePayload n p) := by simp [State.queuePayload]
@[simp] theorem State.writeRootFrame_stays (s : State) : s.Stays s.writeRootFrame := by simp [State.writeRootFrame]
@[simp] theorem State.rootRec_stays (s : State) (r : RootRec) : s.Stays (s.rootRec r) := by simp [State.rootRec]
@[simp] theorem State.writeRunOnly_stays (s : State) (seg : Nat) : s.Stays (s.writeRunOnly seg) := by simp [State.writeRunOnly]
@[simp] theorem State.awaitOne_stays (s : State) (k : Nat × Nat) : s.Stays (s.awaitOne k) := by simp [State.awaitOne]
@[simp] theorem State.startCkpt_stays (s : State) (seg : Nat) : s.Stays (s.startCkpt seg) := by simp [State.startCkpt]
@[simp] theorem State.writeRun_stays (s : State) (seg : Nat) (awaited : Bool) : s.Stays (s.writeRun seg awaited) := by simp [State.writeRun]
@[simp] theorem State.journal_stays (s : State) (seg : Nat) (r : JrnlRec) : s.Stays (s.journal seg r) := by simp [State.journal]
@[simp] theorem State.awaitFlush_stays (s : State) (b : Nat) (k : Nat × Nat) : s.Stays (s.awaitFlush b k) := by simp [State.awaitFlush]
@[simp] theorem State.awaitRun_stays (s : State) (b seg : Nat) : s.Stays (s.awaitRun b seg) := by simp [State.awaitRun]
@[simp] theorem State.writeEntry_stays (s : State) (seg idx : Nat) (e : MapEntry) (hint source : Nat) : s.Stays (s.writeEntry seg idx e hint source) := by
  simp [State.writeEntry]
@[simp] theorem State.setEntry_stays (s : State) (seg idx : Nat) (e : MapEntry) (hint source : Nat) : s.Stays (s.setEntry seg idx e hint source) := by
  simp [State.setEntry]
@[simp] theorem State.setTag_stays (s : State) (seg idx v hint source : Nat) : s.Stays (s.setTag seg idx v hint source) := by
  simp [State.setTag]
@[simp] theorem State.freeChain_stays (s : State) (d : SegDesc) (below : Nat) : s.Stays (s.freeChain d below) := by
  unfold State.freeChain
  dsimp only
  refine State.Stays.trans (foldl_stays _ (fun s a => by simp) _ s) (foldl_stays _ (fun s a => ?_) _ _)
  split
  · split <;> simp
  · exact State.Stays.refl _
@[simp] theorem State.dropRuns_stays (s : State) (g : Nat) : s.Stays (s.dropRuns g) := by simp [State.dropRuns]
@[simp] theorem State.returnSeg_stays (s : State) (g : Nat) : s.Stays (s.returnSeg g) := by simp [State.returnSeg]
@[simp] theorem State.returnIfEmpty_stays (s : State) (g : Nat) : s.Stays (s.returnIfEmpty g) := by simp [State.returnIfEmpty]
@[simp] theorem State.returnUnitSegs_stays (s : State) (nsx unit : Nat) : s.Stays (s.returnUnitSegs nsx unit) := by
  unfold State.returnUnitSegs
  dsimp only
  (repeat' split) <;> simp
@[simp] theorem State.returnSpace_stays (s : State) (nsx : Nat) : s.Stays (s.returnSpace nsx) := by simp [State.returnSpace]
@[simp] theorem State.touchMap_stays (s : State) (nsx unit hint source : Nat) : s.Stays (s.touchMap nsx unit hint source) := by
  unfold State.touchMap
  split <;> simp
@[simp] theorem State.discardUnit_stays (s : State) (nsx unit : Nat) (sdp : Bool) (source : Nat) : s.Stays (s.discardUnit nsx unit sdp source) := by
  unfold State.discardUnit
  dsimp only
  (repeat' split) <;> simp
@[simp] theorem State.markSdp_stays (s : State) (nsx unit : Nat) : s.Stays (s.markSdp nsx unit) := by
  unfold State.markSdp
  split <;> simp

/-! ### Sys2Proof/Machine/Block.lean -/

@[simp] theorem State.ledger_stays (s : State) (e : LedgerEntry) (waits : Bool) : s.Stays (s.ledger e waits) := by simp [State.ledger]
theorem State.takeNormal_stays {s : State} {die : Nat} {highest : Bool} {z : Nat × State} (h : s.takeNormal die highest = some z) :
    s.Stays z.2 := by
  unfold State.takeNormal at h
  split at h
  · contradiction
  · dsimp only at h
    split at h
    · cases h; simp
    · split at h
      · cases h; simp
      · contradiction
theorem State.takeFast_stays {s : State} {die : Nat} {z : Nat × State} (h : s.takeFast die = some z) : s.Stays z.2 := by
  unfold State.takeFast at h
  split at h
  · cases h; simp
  · contradiction
theorem State.takeBlock_stays {s : State} {die : Nat} {fc highest : Bool} {z : Nat × Bool × State} (h : s.takeBlock die fc highest = some z) :
    s.Stays z.2.2 := by
  unfold State.takeBlock at h
  split at h <;> split at h
  · next heq => cases h; exact State.takeFast_stays heq
  · obtain ⟨_, heq, rfl⟩ := Option.map_eq_some_iff.mp h; exact State.takeNormal_stays heq
  · next heq => cases h; exact State.takeNormal_stays heq
  · obtain ⟨_, heq, rfl⟩ := Option.map_eq_some_iff.mp h; exact State.takeFast_stays heq
@[simp] theorem State.freeBlock_stays (s : State) (b : Nat) : s.Stays (s.freeBlock b) := by simp [State.freeBlock]
@[simp] theorem State.closedAdd_stays (s : State) (b : Nat) : s.Stays (s.closedAdd b) := by simp [State.closedAdd]
@[simp] theorem State.closedRemove_stays (s : State) (b : Nat) : s.Stays (s.closedRemove b) := by simp [State.closedRemove]
@[simp] theorem State.unforce_stays (s : State) (b : Nat) : s.Stays (s.unforce b) := by simp [State.unforce]
@[simp] theorem State.force_stays (s : State) (b list : Nat) : s.Stays (s.force b list) := by simp [State.force]
@[simp] theorem State.refresh_stays (s : State) (b : Nat) : s.Stays (s.refresh b) := by simp [State.refresh]
@[simp] theorem State.reachRung3_stays (s : State) (gran : Nat) : s.Stays (s.reachRung3 gran) := by simp [State.reachRung3]
@[simp] theorem State.unlist_stays (s : State) (b : Nat) : s.Stays (s.unlist b) := by simp [State.unlist]
@[simp] theorem State.closeBlock_stays (s : State) (b : Nat) : s.Stays (s.closeBlock b) := by simp [State.closeBlock]
@[simp] theorem State.releaseSet_stays (s : State) (n : Nat) : s.Stays (s.releaseSet n) := by simp [State.releaseSet]
@[simp] theorem State.leaveSet_stays (s : State) (b : Nat) : s.Stays (s.leaveSet b) := by
  unfold State.leaveSet
  split <;> simp
@[simp] theorem State.rebuildCheck_stays (s : State) : s.Stays s.rebuildCheck := by
  unfold State.rebuildCheck
  split <;> simp
@[simp] theorem State.markNow_stays (s : State) (nsx unit lost : Nat) : s.Stays (s.markNow nsx unit lost) := by
  unfold State.markNow
  split <;> simp
@[simp] theorem State.markUnit_stays (s : State) (nsx unit lost : Nat) : s.Stays (s.markUnit nsx unit lost) := by
  unfold State.markUnit
  (repeat' split) <;> simp
@[simp] theorem State.stepMarks_stays (s : State) : s.Stays s.stepMarks := by simp [State.stepMarks]
@[simp] theorem State.clearSdp_stays (s : State) (nsx unit : Nat) : s.Stays (s.clearSdp nsx unit) := by simp [State.clearSdp]
@[simp] theorem State.sdCheck_stays (s : State) (n : Nat) : s.Stays (s.sdCheck n) := by
  unfold State.sdCheck
  split <;> simp
@[simp] theorem State.sdErased_stays (s : State) (b : Nat) : s.Stays (s.sdErased b) := by simp [State.sdErased]
@[simp] theorem State.sdResidue_stays (s : State) (b : Nat) : s.Stays (s.sdResidue b) := by simp [State.sdResidue]
@[simp] theorem State.queueErase_stays (s : State) (b : Nat) (fc : Bool) (use : WorkUse) : s.Stays (s.queueErase b fc use) := by
  simp [State.queueErase]
@[simp] theorem State.sdScan_stays (s : State) (n b : Nat) : s.Stays (s.sdScan n b) := by
  unfold State.sdScan
  split <;> simp
@[simp] theorem State.sdStep_stays (s : State) : s.Stays s.sdStep := by simp [State.sdStep]
@[simp] theorem State.openJob_stays (s : State) (n nsx : Nat) (ranges : List (Nat × Nat)) : s.Stays (s.openJob n nsx ranges) := by
  simp [State.openJob]
@[simp] theorem State.retire_stays (s : State) (b reason : Nat) : s.Stays (s.retire b reason) := by simp [State.retire]
@[simp] theorem State.awaitKey_stays (s : State) (k : Nat × Nat) : s.Stays (s.awaitKey k) := by simp [State.awaitKey]
@[simp] theorem State.requestRuns_stays (s : State) (b : Nat) : s.Stays (s.requestRuns b) := by simp [State.requestRuns]
@[simp] theorem State.victimDone_stays (s : State) (b : Nat) : s.Stays (s.victimDone b) := by simp [State.victimDone]
@[simp] theorem State.wipe_stays (s : State) (b : Nat) : s.Stays (s.wipe b) := by simp [State.wipe]
@[simp] theorem State.eraseOk_stays (s : State) (b : Nat) (fc modeErase : Bool) : s.Stays (s.eraseOk b fc modeErase) := by simp [State.eraseOk]
@[simp] theorem State.eraseBad_stays (s : State) (b : Nat) : s.Stays (s.eraseBad b) := by simp [State.eraseBad]
@[simp] theorem State.suspect_stays (s : State) (b wl : Nat) : s.Stays (s.suspect b wl) := by simp [State.suspect]

/-! ### Sys2Proof/Machine/Place.lean -/

@[simp] theorem State.addressed_stays (s : State) (p : Payload) (a : Nat) : s.Stays (s.addressed p a) := by
  unfold State.addressed
  split <;> simp
theorem State.placeIn_stays {s : State} {n : Nat} {g : Girth} {p : Payload} {z : State} (h : s.placeIn n g p = some z) : s.Stays z := by
  unfold State.placeIn at h
  split at h
  · contradiction
  · cases h; simp
@[simp] theorem State.openGirth_stays (s : State) (n : Nat) : s.Stays (s.openGirth n) := by
  unfold State.openGirth
  dsimp only
  (repeat' split) <;> simp
@[simp] theorem State.placeList_stays (s : State) (n : Nat) (xs : List Payload) : s.Stays (s.placeList n xs) := by
  induction xs generalizing s with
  | nil => simp [State.placeList]
  | cons p ps ih =>
    unfold State.placeList
    split
    · simp
    · simp
    · split
      · simp
      · split
        · next hput => exact State.Stays.trans (State.placeIn_stays hput) (ih _)
        · simp
@[simp] theorem State.place_stays (s : State) : s.Stays s.place := by simp [State.place]
@[simp] theorem State.endSet_stays (s : State) (k reason : Nat) : s.Stays (s.endSet k reason) := by simp [State.endSet]
@[simp] theorem State.queueMember_stays (s : State) (n : Nat) (g : Girth) (pos : Nat) : s.Stays (s.queueMember n g pos) := by
  simp [State.queueMember]
@[simp] theorem State.joinRebuild_stays (s : State) (k : Nat) : s.Stays (s.joinRebuild k) := by
  unfold State.joinRebuild
  (repeat' split) <;> simp
@[simp] theorem State.memberLost_stays (s : State) (k pos wl : Nat) : s.Stays (s.memberLost k pos wl) := by
  unfold State.memberLost
  split <;> simp
@[simp] theorem State.addJob_stays (s : State) (j : UnitJob) : s.Stays (s.addJob j).2 := by simp [State.addJob]
@[simp] theorem State.replace_stays (s : State) (n : Nat) (p : Payload) : s.Stays (s.replace n p) := by
  unfold State.replace
  split <;> simp
@[simp] theorem State.programmedItems_stays (s : State) (g : Girth) (pos : Nat) : s.Stays (s.programmedItems g pos) := by
  simp [State.programmedItems]
@[simp] theorem State.girthStep_stays (s : State) (n : Nat) : s.Stays (s.girthStep n) := by
  unfold State.girthStep
  split <;> simp
@[simp] theorem State.memberEnd_stays (s : State) (n pos : Nat) (ok : Bool) : s.Stays (s.memberEnd n pos ok) := by
  unfold State.memberEnd
  split <;> simp
@[simp] theorem State.closeSetBlocks_stays (s : State) (k : Nat) : s.Stays (s.closeSetBlocks k) := by simp [State.closeSetBlocks]
@[simp] theorem State.closeUnit_stays (s : State) (g : Girth) (p : Placed) : s.Stays (s.closeUnit g p) := by
  unfold State.closeUnit
  split <;> simp
@[simp] theorem State.girthClosed_stays (s : State) (k wl : Nat) : s.Stays (s.girthClosed k wl) := by
  unfold State.girthClosed
  split <;> simp
@[simp] theorem State.setRootPtr_stays (s : State) (kind a : Nat) : s.Stays (s.setRootPtr kind a) := by simp [State.setRootPtr]
@[simp] theorem State.rename6_stays (s : State) (p : Payload) (a : Nat) : s.Stays (s.rename6 p a) := by
  unfold State.rename6
  split <;> simp
@[simp] theorem State.ckptDone_stays (s : State) (seg : Nat) : s.Stays (s.ckptDone seg) := by simp [State.ckptDone]
@[simp] theorem State.snapDone_stays (s : State) : s.Stays s.snapDone := by simp [State.snapDone]
@[simp] theorem State.snapFrameSafe_stays (s : State) (epoch key a : Nat) : s.Stays (s.snapFrameSafe epoch key a) := by
  simp [State.snapFrameSafe]
@[simp] theorem State.runSafe_stays (s : State) (seg seq : Nat) : s.Stays (s.runSafe seg seq) := by simp [State.runSafe]
@[simp] theorem State.changeUnit_stays (s : State) (d : UnitDesc) (e : MapEntry) (tag hint source : Nat) : s.Stays (s.changeUnit d e tag hint source) := by
  unfold State.changeUnit
  dsimp only
  (repeat' split) <;> simp
@[simp] theorem State.applyClosed_stays (s : State) (p : Placed) : s.Stays (s.applyClosed p).2 := by
  unfold State.applyClosed
  dsimp only
  (repeat' split) <;> simp
@[simp] theorem State.applyClosing_stays (s : State) : s.Stays s.applyClosing := by simp [State.applyClosing]
@[simp] theorem State.walk_stays (s : State) (b : Nat) : s.Stays (s.walk b) := by simp [State.walk]
@[simp] theorem State.againCkpt_stays (s : State) (seg : Nat) : s.Stays (s.againCkpt seg) := by simp [State.againCkpt]
@[simp] theorem State.evacuateItem_stays (s : State) (b a : Nat) (p : Payload) : s.Stays (s.evacuateItem b a p) := by
  unfold State.evacuateItem
  split <;> simp
@[simp] theorem State.evacuateMap_stays (s : State) (b : Nat) : s.Stays (s.evacuateMap b) := by simp [State.evacuateMap]
@[simp] theorem State.evacuateBlock_stays (s : State) (b : Nat) : s.Stays (s.evacuateBlock b) := by simp [State.evacuateBlock]
@[simp] theorem State.evacuateSet_stays (s : State) (k : Nat) : s.Stays (s.evacuateSet k) := by simp [State.evacuateSet]
@[simp] theorem State.settleBlocks_stays (s : State) : s.Stays s.settleBlocks := by simp [State.settleBlocks]

/-! ### Sys2Proof/Machine/Degraded.lean -/

@[simp] theorem State.slotRead_stays (s : State) (gran : Nat) : s.Stays (s.slotRead gran) := by simp [State.slotRead]
@[simp] theorem State.jobLeavesSlot_stays (s : State) (t : Nat) : s.Stays (s.jobLeavesSlot t) := by
  unfold State.jobLeavesSlot
  split <;> simp
@[simp] theorem State.dropJob_stays (s : State) (t : Nat) : s.Stays (s.dropJob t) := by
  unfold State.dropJob
  dsimp only
  (repeat' split) <;> simp
@[simp] theorem State.jobFails_stays (s : State) (t : Nat) (r : CmdResult) : s.Stays (s.jobFails t r) := by
  unfold State.jobFails
  split <;> simp
@[simp] theorem State.enterRead_stays (s : State) (r : ReadReq) : s.Stays (s.enterRead r) := by simp [State.enterRead]
@[simp] theorem State.issueRead_stays (s : State) (kind : ReadKind) (use : ReadUse) (gran glen rung step : Nat) (job : Option Nat) : s.Stays (s.issueRead kind use gran glen rung step job) := by
  simp [State.issueRead]
@[simp] theorem State.issueFrames_stays (s : State) (kind : ReadKind) (use : ReadUse) (gran glen : Nat) : s.Stays (s.issueFrames kind use gran glen) := by
  simp [State.issueFrames]
@[simp] theorem State.readGone_stays (s : State) (gran : Nat) : s.Stays (s.readGone gran) := by simp [State.readGone]
@[simp] theorem State.openRun_stays (s : State) (q : ReadReq) : s.Stays (s.openRun q) := by simp [State.openRun]
@[simp] theorem State.frameEnd_stays (s : State) (q : ReadReq) (lost : Bool) : s.Stays (s.frameEnd q lost).2 := by
  unfold State.frameEnd
  (repeat' split) <;> simp
@[simp] theorem State.ageCheck_stays (s : State) (g : Nat) : s.Stays (s.ageCheck g) := by simp [State.ageCheck]
@[simp] theorem State.visitEnd_stays (s : State) (g : Nat) : s.Stays (s.visitEnd g) := by simp [State.visitEnd]
@[simp] theorem State.sampleEnd_stays (s : State) (g : Nat) : s.Stays (s.sampleEnd g) := by
  unfold State.sampleEnd
  split <;> simp
@[simp] theorem State.abandonRecal_stays (s : State) (g : Nat) : s.Stays (s.abandonRecal g) := by
  unfold State.abandonRecal
  split <;> simp
@[simp] theorem State.setUncOf_stays (s : State) (nsx unit lost : Nat) : s.Stays (s.setUncOf nsx unit lost) := by
  unfold State.setUncOf
  split <;> simp
@[simp] theorem State.setUnc_stays (s : State) (nsx unit : Nat) : s.Stays (s.setUnc nsx unit) := by simp [State.setUnc]
@[simp] theorem State.lost6_stays (s : State) (p : Payload) : s.Stays (s.lost6 p) := by
  unfold State.lost6
  dsimp only
  (repeat' split) <;> simp
@[simp] theorem State.readLost_stays (s : State) (r : ReadReq) : s.Stays (s.readLost r) := by
  unfold State.readLost
  split <;> simp
@[simp] theorem State.unrecoverable_stays (s : State) (r : ReadReq) : s.Stays (s.unrecoverable r) := by
  unfold State.unrecoverable
  dsimp only
  (repeat' split) <;> simp
@[simp] theorem State.giveEngines_stays (s : State) : s.Stays s.giveEngines := by
  unfold State.giveEngines
  exact foldl_stays _ (fun s a => by simp) _ s
@[simp] theorem State.readMembers_stays (s : State) (n : Nat) (r : Recon) (ps : List Nat) : s.Stays (s.readMembers n r ps) := by
  simp [State.readMembers]
@[simp] theorem State.degrade_stays (s : State) (q : ReadReq) : s.Stays (s.degrade q) := by
  unfold State.degrade
  dsimp only
  (repeat' split) <;> simp
@[simp] theorem State.degradeRun_stays (s : State) (q : ReadReq) : s.Stays (s.degradeRun q) := by simp [State.degradeRun]
@[simp] theorem State.memberRead_stays (s : State) (n gran : Nat) (ok : Bool) : s.Stays (s.memberRead n gran ok) := by
  unfold State.memberRead
  split <;> simp

/-! ### Sys2Proof/Machine/Awl.lean -/

@[simp] theorem State.fillDies_stays (s : State) : s.Stays s.fillDies := by simp [State.fillDies]
@[simp] theorem State.groupRead_stays (s : State) (gran : Nat) : s.Stays (s.groupRead gran) := by simp [State.groupRead]
@[simp] theorem State.refuseRead_stays (s : State) (r : ReadReq) : s.Stays (s.refuseRead r) := by
  unfold State.refuseRead
  split <;> simp
@[simp] theorem State.sendRead_stays (s : State) (d : Nat) (r : ReadReq) : s.Stays (s.sendRead d r) := by simp [State.sendRead]
@[simp] theorem State.startRead_stays (s : State) (d : Nat) (r : ReadReq) : s.Stays (s.startRead d r) := by simp [State.startRead]
@[simp] theorem State.softNext_stays (s : State) (r : ReadReq) : s.Stays (s.softNext r).2 := by
  unfold State.softNext
  split <;> simp
@[simp] theorem State.startHost_stays (s : State) (d n : Nat) : s.Stays (s.startHost d n) := by
  induction n generalizing s with
  | zero => exact State.Stays.refl s
  | succ n ih =>
    unfold State.startHost
    dsimp only
    split
    · exact State.Stays.refl _
    · split
      · split <;> simp [ih]
      · exact State.Stays.refl _
@[simp] theorem State.startInternal_stays (s : State) (d cls n : Nat) : s.Stays (s.startInternal d cls n) := by
  induction n generalizing s with
  | zero => exact State.Stays.refl s
  | succ n ih =>
    unfold State.startInternal
    dsimp only
    split
    · exact State.Stays.refl _
    · split
      · simp [ih]
      · exact State.Stays.refl _
@[simp] theorem State.resumeOp_stays (s : State) (d : Nat) : s.Stays (s.resumeOp d) := by
  unfold State.resumeOp
  dsimp only
  (repeat' split) <;> simp
@[simp] theorem State.sendWork_stays (s : State) (d : Nat) (w : WorkReq) : s.Stays (s.sendWork d w) := by simp [State.sendWork]
@[simp] theorem State.startWork_stays (s : State) (d : Nat) : s.Stays (s.startWork d) := by
  unfold State.startWork
  dsimp only
  (repeat' split) <;> simp
@[simp] theorem State.dispatch_stays (s : State) (d : Nat) : s.Stays (s.dispatch d) := by simp [State.dispatch]
@[simp] theorem State.startFrame_stays (s : State) (c d id : Nat) : s.Stays (s.startFrame c d id) := by
  unfold State.startFrame
  split <;> simp
@[simp] theorem State.startPage_stays (s : State) (c d : Nat) : s.Stays (s.startPage c d) := by
  unfold State.startPage
  split <;> simp
@[simp] theorem State.pumpChannel_stays (s : State) (c : Nat) : s.Stays (s.pumpChannel c) := by
  unfold State.pumpChannel
  dsimp only
  (repeat' split) <;> simp
@[simp] theorem State.pumpChannels_stays (s : State) : s.Stays s.pumpChannels := by simp [State.pumpChannels]
@[simp] theorem State.dispatchAll_stays (s : State) : s.Stays s.dispatchAll := by simp [State.dispatchAll]

/-! ### Sys2Proof/Machine/Ledger.lean -/

theorem State.nextDie_stays {s : State} {c : Nat} {z : Nat × State} (h : s.nextDie c = some z) : s.Stays z.2 := by
  unfold State.nextDie at h
  dsimp only at h
  split at h
  · cases h; simp
  · contradiction
@[simp] theorem State.openBlock_stays (s : State) (b stream : Nat) (fc erase : Bool) : s.Stays (s.openBlock b stream fc erase) := by
  simp [State.openBlock]
@[simp] theorem State.openPair_stays (s : State) : s.Stays s.openPair := by
  unfold State.openPair
  dsimp only
  split
  · exact State.Stays.refl _
  · split
    · exact State.Stays.refl _
    · next hda =>
      split
      · exact State.nextDie_stays hda
      · next ha =>
        have hone := State.Stays.trans (State.nextDie_stays hda) (State.takeBlock_stays ha)
        split
        · exact hone
        · next hdb =>
          have htwo := State.Stays.trans hone (State.nextDie_stays hdb)
          split
          · exact htwo
          · next hb => simpa using State.Stays.trans htwo (State.takeBlock_stays hb)
@[simp] theorem State.queuePage_stays (s : State) (p : LedgerPage) : s.Stays (s.queuePage p) := by simp [State.queuePage]
@[simp] theorem State.beginsAt_stays (s : State) (at_ : Nat × Nat × Nat) (e : LedgerEntry) : s.Stays (s.beginsAt at_ e) := by
  unfold State.beginsAt
  split <;> simp
@[simp] theorem State.writePage_stays (s : State) (a b page : Nat) (new refresh : List LedgerEntry) : s.Stays (s.writePage a b page new refresh) := by
  simp [State.writePage]
@[simp] theorem State.owesLink_stays (s : State) (a b page : Nat) : s.Stays (s.owesLink a b page) := by simp [State.owesLink]
@[simp] theorem State.writeLink_stays (s : State) (a b page na nb : Nat) : s.Stays (s.writeLink a b page na nb) := by simp [State.writeLink]
@[simp] theorem State.releaseBehind_stays (s : State) (b : Nat) : s.Stays (s.releaseBehind b) := by simp [State.releaseBehind]
@[simp] theorem State.entryDurable_stays (s : State) (e : LedgerEntry) : s.Stays (s.entryDurable e) := by
  unfold State.entryDurable
  split <;> simp
@[simp] theorem State.pageDurable_stays (s : State) (p : LedgerPage) : s.Stays (s.pageDurable p) := by
  unfold State.pageDurable
  dsimp only
  (repeat' split) <;> simp
@[simp] theorem State.rewritePage_stays (s : State) (p : LedgerPage) : s.Stays (s.rewritePage p) := by
  unfold State.rewritePage
  split <;> simp
@[simp] theorem State.pageFailed_stays (s : State) (p : LedgerPage) (a b : Bool) : s.Stays (s.pageFailed p a b) := by
  unfold State.pageFailed
  dsimp only
  (repeat' split) <;> simp
@[simp] theorem State.ledgerEnd_stays (s : State) (seq : Nat) (isB ok : Bool) : s.Stays (s.ledgerEnd seq isB ok) := by
  unfold State.ledgerEnd
  dsimp only
  (repeat' split) <;> simp
@[simp] theorem State.workEnd_stays (s : State) (w : WorkReq) (ok : Bool) : s.Stays (s.workEnd w ok) := by
  unfold State.workEnd
  split <;> simp

/-! ### Sys2Proof/Machine/Isolate.lean -/

@[simp] theorem State.redirect_stays (s : State) (r : ReadReq) : s.Stays (s.redirect r) := by
  unfold State.redirect
  split <;> simp
@[simp] theorem State.deadWork_stays (s : State) (w : WorkReq) : s.Stays (s.deadWork w) := by simp [State.deadWork]
@[simp] theorem State.drainDie_stays (s : State) (d : Nat) : s.Stays (s.drainDie d) := by simp [State.drainDie]
@[simp] theorem State.drainRetired_stays (s : State) (d : Nat) : s.Stays (s.drainRetired d) := by simp [State.drainRetired]
@[simp] theorem State.refuseWork_stays (s : State) (w : WorkReq) : s.Stays (s.refuseWork w) := by simp [State.refuseWork]
@[simp] theorem State.refuseWorks_stays (s : State) (d : Nat) : s.Stays (s.refuseWorks d) := by simp [State.refuseWorks]
@[simp] theorem State.refuseReads_stays (s : State) (d : Nat) : s.Stays (s.refuseReads d) := by simp [State.refuseReads]
@[simp] theorem State.drainDead_stays (s : State) : s.Stays s.drainDead := by simp [State.drainDead]

/-! ### Sys2Proof/Machine/Unit.lean -/

@[simp] theorem State.cipherAsk_stays (s : State) (work : CipherWork) (slot : Nat) (keys : Option KeySet) (read : Bool) : s.Stays (s.cipherAsk work slot keys read) := by
  simp [State.cipherAsk]
@[simp] theorem State.pumpPairs_stays (s : State) : s.Stays s.pumpPairs := by
  unfold State.pumpPairs
  refine foldl_stays _ (fun s a => ?_) _ s
  split
  · exact State.Stays.refl _
  · split <;> exact State.Stays.refl _
@[simp] theorem State.cmdStep_stays (s : State) (tag : Nat) : s.Stays (s.cmdStep tag) := by
  unfold State.cmdStep
  split <;> simp
@[simp] theorem State.endUnit_stays (s : State) (t : Nat) : s.Stays (s.endUnit t) := by
  unfold State.endUnit
  split <;> simp
@[simp] theorem State.unitData_stays (s : State) (t : Nat) (data : List Byte) (mapped : Bool) : s.Stays (s.unitData t data mapped) := by
  unfold State.unitData
  (repeat' split) <;> simp
@[simp] theorem State.checkFailed_stays (s : State) (t : Nat) (j : UnitJob) : s.Stays (s.checkFailed t j) := by simp [State.checkFailed]
@[simp] theorem State.askDecrypt_stays (s : State) (t : Nat) : s.Stays (s.askDecrypt t) := by
  unfold State.askDecrypt
  dsimp only
  (repeat' split) <;> simp
@[simp] theorem State.readSlot_stays (s : State) (t : Nat) (j : UnitJob) (gran : Nat) : s.Stays (s.readSlot t j gran) := by
  unfold State.readSlot; split <;> simp [-List.reduceReplicate]
@[simp] theorem State.lookRead_stays (s : State) (t : Nat) (j : UnitJob) : s.Stays (s.lookRead t j) := by
  unfold State.lookRead
  dsimp only
  (repeat' split) <;> simp [-List.reduceReplicate]
@[simp] theorem State.lookCopy_stays (s : State) (t : Nat) (j : UnitJob) : s.Stays (s.lookCopy t j) := by
  unfold State.lookCopy
  dsimp only
  (repeat' split) <;> simp
@[simp] theorem State.lookDiscard_stays (s : State) (t : Nat) (j : UnitJob) : s.Stays (s.lookDiscard t j) := by
  unfold State.lookDiscard
  split <;> simp
@[simp] theorem State.jobStep_stays (s : State) (t : Nat) : s.Stays (s.jobStep t) := by
  unfold State.jobStep
  (repeat' split) <;> simp
@[simp] theorem State.stepJobs_stays (s : State) : s.Stays s.stepJobs := by simp [State.stepJobs]
@[simp] theorem State.afterCount_stays (s : State) (slot : Nat) : s.Stays (s.afterCount slot) := by
  unfold State.afterCount
  dsimp only
  (repeat' split) <;> simp
@[simp] theorem State.rollStart_stays (s : State) (slot : Nat) : s.Stays (s.rollStart slot) := by simp [State.rollStart]
@[simp] theorem State.countEnds_stays (s : State) (slot : Nat) : s.Stays (s.countEnds slot) := by simp [State.countEnds]
@[simp] theorem State.askEncrypt_stays (s : State) (t : Nat) : s.Stays (s.askEncrypt t) := by
  unfold State.askEncrypt
  split <;> simp
@[simp] theorem State.stepValues_stays (s : State) : s.Stays s.stepValues := by simp [State.stepValues]
@[simp] theorem State.sweepSlot_stays (s : State) (slot : Nat) : s.Stays (s.sweepSlot slot) := by
  unfold State.sweepSlot
  split <;> simp
@[simp] theorem State.sweeps_stays (s : State) : s.Stays s.sweeps := by simp [State.sweeps]
@[simp] theorem State.sweepBuffer_stays (s : State) : s.Stays s.sweepBuffer := by simp [State.sweepBuffer]

/-! ### Sys2Proof/Machine/Codec.lean -/

@[simp] theorem State.giveDecoders_stays (s : State) (soft : Bool) (n : Nat) : s.Stays (s.giveDecoders soft n) := by
  induction n generalizing s with
  | zero => exact State.Stays.refl s
  | succ n ih =>
    unfold State.giveDecoders
    dsimp only
    (repeat' split) <;> simp [ih]
@[simp] theorem State.decoders_stays (s : State) : s.Stays s.decoders := by simp [State.decoders]

/-! ### Sys2Proof/Machine/Hold.lean -/

@[simp] theorem State.holdErase_stays (s : State) (b : Nat) : s.Stays (s.holdErase b) := by simp [State.holdErase]
theorem State.takeHold_stays {s : State} {die : Nat} {z : Nat × State} (h : s.takeHold die = some z) : s.Stays z.2 := by
  unfold State.takeHold at h
  split at h
  · contradiction
  · next heq => cases h; simpa using State.takeBlock_stays heq
@[simp] theorem State.mendHold_stays (s : State) (xs : List Nat) : s.Stays (s.mendHold xs).2 := by
  induction xs generalizing s with
  | nil => exact State.Stays.refl s
  | cons b bs ih =>
    unfold State.mendHold
    split
    · split
      · next htake =>
        split at htake
        · exact State.Stays.trans (State.takeHold_stays htake) (ih _)
        · contradiction
      · exact ih s
    · exact ih s
@[simp] theorem State.holdCheck_stays (s : State) : s.Stays s.holdCheck := by simp [State.holdCheck]

/-! ### Sys2Proof/Machine/Purge.lean -/

@[simp] theorem State.eraseForce_stays (s : State) (blocks : List Nat) : s.Stays (s.eraseForce blocks) := by simp [State.eraseForce]
@[simp] theorem State.resetU0_stays (s : State) : s.Stays s.resetU0 := by simp [State.resetU0]
@[simp] theorem State.unmapSpace_stays (s : State) (nsx : Nat) : s.Stays (s.unmapSpace nsx) := by simp [State.unmapSpace]
@[simp] theorem State.unmapSlot_stays (s : State) (slot : Nat) : s.Stays (s.unmapSlot slot) := by simp [State.unmapSlot]
@[simp] theorem State.stepFormat_stays (s : State) (r : FormatRun) : s.Stays (s.stepFormat r) := by simp [State.stepFormat]
@[simp] theorem State.endJobs_stays (s : State) : s.Stays s.endJobs := by simp [State.endJobs]
@[simp] theorem State.clearPersisted_stays (s : State) : s.Stays s.clearPersisted := by simp [State.clearPersisted]
@[simp] theorem State.stepSanitize_stays (s : State) : s.Stays s.stepSanitize := by
  unfold State.stepSanitize
  split <;> simp
@[simp] theorem State.stepErases_stays (s : State) : s.Stays s.stepErases := by simp [State.stepErases]
@[simp] theorem State.lateEnd_stays (s : State) (tag : Nat) (e : LateEnd) : s.Stays (s.lateEnd tag e) := by
  unfold State.lateEnd
  (repeat' split) <;> simp
@[simp] theorem State.stepLate_stays (s : State) : s.Stays s.stepLate := by simp [State.stepLate]

/-! ### Sys2Proof/Machine/Settle.lean -/

@[simp] theorem State.bucketWaits_stays (s : State) : s.Stays s.bucketWaits := by simp [State.bucketWaits]
@[simp] theorem State.settleUnits_stays (s : State) : s.Stays s.settleUnits := by simp [State.settleUnits]
@[simp] theorem State.settleMap_stays (s : State) : s.Stays s.settleMap := by simp [State.settleMap]
@[simp] theorem State.settleFlash_stays (s : State) : s.Stays s.settleFlash := by simp [State.settleFlash]
@[simp] theorem State.settle_stays (s : State) : s.Stays s.settle := by simp [State.settle]

/-! ### Sys2Proof/Machine/Features.lean -/

/-! ### Sys2Proof/Machine/Link.lean -/

/-! ### Sys2Proof/Machine/Dma.lean -/

/-! ### Sys2Proof/Machine/Plans.lean -/

/-! ### Sys2Proof/Machine/Dram.lean -/

/-! ### Sys2Proof/Machine/Rounds.lean -/

end Sys2Proof.Machine
end

section
/-! SUPPORT. The course through restart's own operations: the scan, the loads and what admission starts again. -/
namespace Sys2Proof.Machine

theorem foldl_pair_stays {α β : Type} (g : β × State → α → β × State) (h : ∀ (x : β × State) (a : α), x.2.Stays (g x a).2) (l : List α) (x : β × State) :
    x.2.Stays (l.foldl g x).2 := by
  induction l generalizing x with
  | nil => exact State.Stays.refl _
  | cons a l ih => exact State.Stays.trans (h x a) (ih _)

@[simp] theorem State.wbiInsert_stays (s : State) (nsx unit gran glen : Nat) : s.Stays (s.wbiInsert nsx unit gran glen) := by
  unfold State.wbiInsert
  split <;> simp

theorem State.takeSeg_stays {s : State} {z : Nat × State} (h : s.takeSeg = some z) : s.Stays z.2 := by
  unfold State.takeSeg at h
  split at h
  · cases h; simp
  · split at h <;> cases h
    simp

@[simp] theorem State.allocSeg_stays (s : State) (nsx : Nat) (tag : Bool) (unit : Nat) : s.Stays (s.allocSeg nsx tag unit).2 := by
  unfold State.allocSeg
  split
  · exact State.Stays.refl s
  · split
    · simp
    · next htake => simpa using State.takeSeg_stays htake

theorem State.stays_of_allocSeg {s : State} {nsx unit : Nat} {tag : Bool} {z : Option Nat × State} (h : s.allocSeg nsx tag unit = z) : s.Stays z.2 :=
  h ▸ s.allocSeg_stays nsx tag unit

theorem State.takeSlot_stays {s : State} {n glen : Nat} {z : Nat × State} (h : s.takeSlot n glen = some z) : s.Stays z.2 := by
  unfold State.takeSlot at h
  split at h
  · split at h
    · cases h; simp
    · obtain ⟨_, -, rfl⟩ := Option.map_eq_some_iff.mp h; simp
  · obtain ⟨_, -, rfl⟩ := Option.map_eq_some_iff.mp h; simp

@[simp] theorem State.deselect_stays (s : State) (d : Nat) : s.Stays (s.deselect d) := by simp [State.deselect]
@[simp] theorem State.checkLayout_stays (s : State) (n : Nat) : s.Stays (s.checkLayout n) := by
  unfold State.checkLayout
  (repeat' split) <;> simp

@[simp] theorem State.unlistDie_stays (s : State) (d : Nat) : s.Stays (s.unlistDie d) := by simp [State.unlistDie]
@[simp] theorem State.loseSets_stays (s : State) (d name : Nat) : s.Stays (s.loseSets d name) := by simp [State.loseSets]
@[simp] theorem State.isolateCore_stays (s : State) (d c e : Nat) : s.Stays (s.isolateCore d c e) := by simp [State.isolateCore]
@[simp] theorem State.isolateChannel_stays (s : State) (c cause : Nat) : s.Stays (s.isolateChannel c cause) := by simp [State.isolateChannel]
@[simp] theorem State.isolateNamed_stays (s : State) (d cause : Nat) : s.Stays (s.isolateNamed d cause) := by simp [State.isolateNamed]
@[simp] theorem State.isolateLedger_stays (s : State) : s.Stays s.isolateLedger := by simp [State.isolateLedger]
@[simp] theorem State.readsAt_stays (s : State) (as : List Nat) : s.Stays (s.readsAt as) := by simp [State.readsAt]
@[simp] theorem State.scanTag_stays (s : State) (a : Nat) (d : UnitDesc) : s.Stays (s.scanTag a d) := by
  unfold State.scanTag
  split
  · split
    · next halloc => exact State.stays_of_allocSeg halloc
    · next halloc => simpa using State.stays_of_allocSeg halloc
  · exact State.Stays.refl s

/-- A scanned descriptor takes its unit's map entry, where its segment can be had. -/
def State.scanTake (s : State) (set : Table Nat) (a : Nat) (d : UnitDesc) : Table Nat × State :=
  match s.allocSeg d.nsx false d.unit with
  | (none, s) => (set, s)
  | (some g, t) =>
    let e : MapEntry := { gaddr := a, glen := d.glen, raw := d.raw, unc := false, sdp := (s.entryOf d.nsx d.unit).sdp, kgen := d.kgen }
    let idx := indexIn false d.unit
    let u : State := { t with map := { t.map with entries := Table.put {} t.map.entries (entryKey g idx) e } }
    (Table.set set (d.nsx * 2 ^ 38 + d.unit) d.dseq, (u.journal g (.entry idx e)).scanTag a d)

theorem State.scanTake_stays (s : State) (set : Table Nat) (a : Nat) (d : UnitDesc) : s.Stays (s.scanTake set a d).2 := by
  unfold State.scanTake
  split
  · next halloc => exact State.stays_of_allocSeg halloc
  · next halloc => simpa using State.stays_of_allocSeg halloc

theorem State.scanUnit_eq (s : State) (set : Table Nat) (a : Nat) (d : UnitDesc) :
    ∃ wins : Bool, s.scanUnit set a d = if !wins ∨ s.beyondTop d then (set, s) else s.scanTake set a d := ⟨_, rfl⟩

@[simp] theorem State.scanUnit_stays (s : State) (set : Table Nat) (a : Nat) (d : UnitDesc) : s.Stays (s.scanUnit set a d).2 := by
  obtain ⟨wins, hscan⟩ := s.scanUnit_eq set a d
  rw [hscan]
  split
  · exact State.Stays.refl s
  · exact s.scanTake_stays set a d

@[simp] theorem State.scanGirths_stays (s : State) (closes : List (Nat × Nat)) : s.Stays (s.scanGirths closes).2 := by
  unfold State.scanGirths
  dsimp only
  refine State.Stays.trans ?reads (foldl_pair_stays _ (fun x k => ?girth) _ _)
  case reads => exact foldl_stays _ (fun s k => s.readsAt_stays _) _ s
  case girth =>
    refine foldl_pair_stays _ (fun y b => ?_) _ x
    exact y.2.scanUnit_stays y.1 b.1 b.2

@[simp] theorem State.scanNow_stays (s : State) : s.Stays s.scanNow.2 := by
  unfold State.scanNow
  split <;> simp

@[simp] theorem State.formWear_stays (s : State) (bad : List (Nat × Nat)) : s.Stays (s.formWear bad) := by simp [State.formWear]
@[simp] theorem State.listBlock_stays (s : State) (b : Nat) : s.Stays (s.listBlock b) := by
  unfold State.listBlock
  dsimp only
  (repeat' split) <;> simp

@[simp] theorem State.countChain_stays (s : State) (d : SegDesc) : s.Stays (s.countChain d) := by
  unfold State.countChain
  refine State.Stays.trans (foldl_stays _ (fun s a => by simp) _ s) (foldl_stays _ (fun s a => ?_) _ _)
  obtain ⟨_, _ | _⟩ := a <;> simp

@[simp] theorem State.countNames_stays (s : State) : s.Stays s.countNames := by simp [State.countNames]
@[simp] theorem State.foldOrder_stays (s : State) : s.Stays s.foldOrder := by simp [State.foldOrder]
@[simp] theorem State.formRecs_stays (s : State) : s.Stays s.formRecs := by simp [State.formRecs]
@[simp] theorem State.endOpenSets_stays (s : State) : s.Stays s.endOpenSets := by simp [State.endOpenSets]
@[simp] theorem State.formRebuild_stays (s : State) : s.Stays s.formRebuild := by simp [State.formRebuild]
@[simp] theorem State.formBlocks_stays (s : State) : s.Stays s.formBlocks := by simp [State.formBlocks]
@[simp] theorem State.insertUnit_stays (s : State) (w : WbSlot) : s.Stays (s.insertUnit w) := by
  unfold State.insertUnit
  dsimp only
  split
  · exact State.Stays.refl s
  · next h => simpa using State.takeSlot_stays h

@[simp] theorem State.loseUnit_stays (s : State) (w : WbSlot) : s.Stays (s.loseUnit w) := by
  unfold State.loseUnit
  split
  · next halloc => simpa using State.stays_of_allocSeg halloc
  · next halloc => exact State.stays_of_allocSeg halloc

@[simp] theorem State.loadUnits_stays (s : State) : s.Stays s.loadUnits := by
  unfold State.loadUnits
  (repeat' split) <;> simp

@[simp] theorem State.loadMeta_stays (s : State) : s.Stays s.loadMeta := by
  unfold State.loadMeta
  (repeat' split) <;> simp

@[simp] theorem State.restartCodes_stays (s : State) (n : Nat) : s.Stays (s.restartCodes n) := by simp [State.restartCodes]
@[simp] theorem State.resumeAt_stays (s : State) (n g a t : Nat) : s.Stays (s.resumeAt n g a t) := by simp [State.resumeAt]
@[simp] theorem State.resumeCounter_stays (s : State) (n : Nat) : s.Stays (s.resumeCounter n) := by simp [State.resumeCounter]
@[simp] theorem State.restoreJobs_stays (s : State) : s.Stays s.restoreJobs := by simp [State.restoreJobs]
@[simp] theorem State.emptyBlock_stays (s : State) (b : Nat) : s.Stays (s.emptyBlock b) := by simp [State.emptyBlock]
@[simp] theorem State.restoreEnds_stays (s : State) : s.Stays s.restoreEnds := by simp [State.restoreEnds]
@[simp] theorem State.nextRestore_stays (s : State) : s.Stays s.nextRestore := by
  unfold State.nextRestore
  dsimp only
  split <;> simp

@[simp] theorem State.repeatErases_stays (s : State) : s.Stays s.repeatErases := by simp [State.repeatErases]

end Sys2Proof.Machine
end

section
/-! Restart's steps (O6): the case by the records of the dump anchor, and what each step leaves. -/
namespace Sys2Proof.Machine

/-! ### Step 1: the case -/

namespace TsState
variable {t : TsState}

theorem restartCase_first (hhold : t.anchor 1 = none) (hbegun : t.anchor 2 = none) (hdone : t.anchor 3 = none) : t.restartCase = 1 := by
  unfold restartCase
  rw [hhold, hbegun, hdone]

theorem restartCase_hold_only {h : Nat × Nat × Nat} (hhold : t.anchor 1 = some h) (hbegun : t.anchor 2 = none) : t.restartCase = 2 := by
  unfold restartCase
  rw [hhold, hbegun]

/-- A HOLD record newer than BEGUN. -/
theorem restartCase_hold_newer {a n w b m v : Nat} (hhold : t.anchor 1 = some (a, n, w)) (hbegun : t.anchor 2 = some (b, m, v))
    (hnewer : v < w ∨ (v = w ∧ t.lastAnchor = 1)) : t.restartCase = 2 := by
  unfold restartCase
  rw [hhold, hbegun]
  simp [hnewer]

/-- No HOLD record is newer than BEGUN: the DONE record decides. -/
theorem restartCase_begun_newer {b m v : Nat} (hbegun : t.anchor 2 = some (b, m, v))
    (hnewer : ∀ a n w, t.anchor 1 = some (a, n, w) → w < v ∨ (w = v ∧ t.lastAnchor ≠ 1)) :
    t.restartCase = if (t.anchor 3).any (fun d => d.2.1 = m) then 3 else 4 := by
  unfold restartCase
  rw [hbegun]
  cases hhold : t.anchor 1 with
  | none => cases t.anchor 3 <;> simp
  | some h =>
    obtain ⟨a, n, w⟩ := h
    have hold : ¬(v < w ∨ (v = w ∧ t.lastAnchor = 1)) := by
      rcases hnewer a n w hhold with h | ⟨rfl, h⟩
      · omega
      · simp [h]
    cases t.anchor 3 <;> simp [hold]

end TsState

/-! ### Step 3: what of the dump is recovered -/

theorem execRestartStepDone_readDump {s : State} (hstep : s.dump.step = 3) (f : RestartFound) :
    execRestartStepDone f s = .next { s.readDump f with dump := { (s.readDump f).dump with step := 4 } } := by
  unfold execRestartStepDone
  rw [hstep]
  rfl

/-! ### Step 4: the tables -/

/-- No segment is restored and no buffered unit stands. -/
def State.Cleared (s : State) : Prop :=
  (∀ g d, Table.find s.map.segs g = some d → d.restored = false) ∧ s.wb.slots = [] ∧ s.wb.dirty = 0 ∧ s.map.wbi = []

theorem State.clearVolatile_cleared (s : State) : s.clearVolatile.Cleared := by
  refine ⟨fun g d hd => ?_, rfl, rfl, rfl⟩
  obtain ⟨x, -, hx⟩ := List.mem_map.mp (Table.mem_of_find hd)
  cases hx
  rfl

/-- The tables as step 4 forms them. -/
def State.tablesFormed (s : State) : State :=
  let s := s.clearVolatile
  (if s.dump.case = 1 then s else (if s.usesDump then s else s.formLedger.formRoot.clearVolatile).formVt).formWidth

/-- The course, flash and the ring arrays are as they were. -/
def State.Keeps (s t : State) : Prop := t.dump = s.dump ∧ t.media = s.media ∧ t.ts = s.ts

theorem State.Keeps.trans {s t u : State} (h : s.Keeps t) (h' : t.Keeps u) : s.Keeps u := by
  obtain ⟨hd, hm, ht⟩ := h
  obtain ⟨hd', hm', ht'⟩ := h'
  exact ⟨hd'.trans hd, hm'.trans hm, ht'.trans ht⟩

theorem State.clearVolatile_keeps (s : State) : s.Keeps s.clearVolatile := ⟨rfl, rfl, rfl⟩
theorem State.formLedger_keeps (s : State) : s.Keeps s.formLedger := ⟨rfl, rfl, rfl⟩
theorem State.formRoot_keeps (s : State) : s.Keeps s.formRoot := ⟨rfl, rfl, rfl⟩
theorem State.formVt_keeps (s : State) : s.Keeps s.formVt := ⟨rfl, rfl, rfl⟩
theorem State.formWidth_keeps (s : State) : s.Keeps s.formWidth := ⟨rfl, rfl, rfl⟩

theorem State.Cleared.formVt {s : State} (h : s.Cleared) : s.formVt.Cleared := h
theorem State.Cleared.formWidth {s : State} (h : s.Cleared) : s.formWidth.Cleared := h

theorem State.tablesFormed_cleared (s : State) : s.tablesFormed.Cleared := by
  unfold State.tablesFormed
  apply State.Cleared.formWidth
  split
  · exact s.clearVolatile_cleared
  · apply State.Cleared.formVt
    split
    · exact s.clearVolatile_cleared
    · exact State.clearVolatile_cleared _

theorem State.tablesFormed_keeps (s : State) : s.Keeps s.tablesFormed := by
  unfold State.tablesFormed
  refine .trans ?_ (State.formWidth_keeps _)
  refine s.clearVolatile_keeps.trans ?_
  split
  · exact ⟨rfl, rfl, rfl⟩
  · refine .trans ?_ (State.formVt_keeps _)
    split
    · exact ⟨rfl, rfl, rfl⟩
    · exact (State.formLedger_keeps _).trans ((State.formRoot_keeps _).trans (State.clearVolatile_keeps _))

theorem execRestartStepDone_tables {s : State} (hstep : s.dump.step = 4) (f : RestartFound) :
    execRestartStepDone f s = .next { s.tablesFormed with dump := { s.tablesFormed.dump with step := 5 } } := by
  unfold execRestartStepDone
  rw [hstep]
  rfl

/-! ### Steps 5 and 6 -/

theorem State.Stays.step {s t : State} (h : s.Stays t) : t.dump.step = s.dump.step := congrArg (·.1) h.1
theorem State.Stays.case {s t : State} (h : s.Stays t) : t.dump.case = s.dump.case := congrArg (·.2.1) h.1
theorem State.Stays.active {s t : State} (h : s.Stays t) : t.dump.active = s.dump.active := congrArg (·.2.2.1) h.1
theorem State.Stays.since {s t : State} (h : s.Stays t) : t.dump.since = s.dump.since := congrArg (·.2.2.2.1) h.1
theorem State.Stays.holdTarget {s t : State} (h : s.Stays t) : t.dump.holdTarget = s.dump.holdTarget := congrArg (·.2.2.2.2) h.1
theorem State.Stays.admits {s t : State} (h : s.Stays t) : t.fe.admits = s.fe.admits := h.2.1

/-- The wear fields as step 5 leaves them. -/
def State.wearFormed (s : State) (f : RestartFound) : State := if s.dump.case = 1 ∨ s.usesDump then s else s.formWear f.badWearDies

theorem State.wearFormed_stays (s : State) (f : RestartFound) : s.Stays (s.wearFormed f) := by
  unfold State.wearFormed
  split
  · exact State.Stays.refl s
  · exact s.formWear_stays _

theorem execRestartStepDone_blocks {s : State} (hstep : s.dump.step = 5) (f : RestartFound) :
    execRestartStepDone f s = .next ({ s.wearFormed f with dump := { (s.wearFormed f).dump with step := 6 } } : State).formBlocks := by
  unfold execRestartStepDone
  rw [hstep]
  rfl

/-- Step 5 ends: the blocks and sets are formed. -/
theorem execRestartStepDone_formed {s : State} (hstep : s.dump.step = 5) (f : RestartFound) :
    ∃ t, execRestartStepDone f s = .next t ∧ t.dump.step = 6 ∧ t.dump.case = s.dump.case ∧ t.fe.admits = s.fe.admits := by
  have hwear := s.wearFormed_stays f
  have heq := execRestartStepDone_blocks hstep f
  generalize s.wearFormed f = u at hwear heq
  obtain ⟨hcourse, hadmits, -⟩ := State.formBlocks_stays { u with dump := { u.dump with step := 6 } }
  generalize State.formBlocks _ = t at heq hcourse hadmits
  exact ⟨t, heq, congrArg (·.1) hcourse, (congrArg (·.2.1) hcourse).trans hwear.case, hadmits.trans hwear.admits⟩

theorem execRestartStepDone_ring {s : State} (hstep : s.dump.step = 6) (f : RestartFound) :
    execRestartStepDone f s = .next (({ s.scanAndLoad.isolateLedger with dump := { s.scanAndLoad.isolateLedger.dump with step := 7 } } : State).beginHold).arrayPump := by
  unfold execRestartStepDone
  rw [hstep]
  rfl

/-- The dumped units and the other parts are loaded. -/
def State.loaded (s : State) : State := s.scanNow.2.loadUnits.loadMeta

theorem State.loaded_stays (s : State) : s.Stays s.loaded := by simp [State.loaded]

theorem State.startRing_started (s : State) : s.startRing.dump = s.dump ∧ s.startRing.fe = s.fe ∧ s.startRing.ts.rings = s.ts.rings ∧ s.startRing.obs.ringOn = true := by
  unfold State.startRing
  exact ⟨rfl, rfl, rfl, ObsState.endHolding_ringOn _ _⟩

/-- Step 6 starts the ring and leaves the rest of the course. -/
theorem State.ringStarted (s : State) : s.scanAndLoad.isolateLedger.dump.course = s.dump.course ∧ s.scanAndLoad.isolateLedger.fe.admits = s.fe.admits ∧
    s.scanAndLoad.isolateLedger.ts.rings = s.ts.rings ∧ s.scanAndLoad.isolateLedger.obs.ringOn = true := by
  have hscan : s.scanAndLoad = s.loaded.startRing.restartCodes s.scanNow.1 := rfl
  obtain ⟨ldump, ladmits, -, lrings, -⟩ := s.loaded_stays
  obtain ⟨rdump, rfe, rrings, rring⟩ := s.loaded.startRing_started
  obtain ⟨cdump, cadmits, -, crings, cring⟩ := State.Stays.trans (s.loaded.startRing.restartCodes_stays s.scanNow.1) (State.isolateLedger_stays _)
  rw [hscan, cdump, cadmits, crings, cring, rdump, rfe, rrings, ldump, ladmits, lrings]
  exact ⟨rfl, rfl, rfl, rring⟩

theorem TsState.anchor_congr {t t' : TsState} (h : t'.rings = t.rings) (type : Nat) : t'.anchor type = t.anchor type := by
  unfold TsState.anchor TsState.newest TsState.records TsState.ring
  rw [h]

/-- The `i`th hold block of a die, where its pool has one. -/
def State.firstBlock (s : State) (d i : Nat) : State :=
  match s.takeHold d with
  | none => s
  | some (b, s) =>
    if i < 2 then { s with dump := { s.dump with holdA := s.dump.holdA ++ [b] } }
    else { s with dump := { s.dump with holdB := s.dump.holdB ++ [b] } }

theorem State.firstBlock_stays (s : State) (d i : Nat) : s.Stays (s.firstBlock d i) := by
  unfold State.firstBlock
  split
  · exact State.Stays.refl s
  · next htake =>
    have htaken := State.takeHold_stays htake
    split <;> exact htaken

/-- The first start: set A is to become active. -/
def State.aimsAtA (s : State) : State := { s with dump := { s.dump with holdDue := true, holdTarget := some false } }

/-- The four hold blocks of a die. -/
def State.firstBlocks (s : State) (d : Nat) : State := (List.range 4).foldl (fun s i => s.firstBlock d i) s

theorem State.firstBlocks_stays (s : State) (d : Nat) : s.Stays (s.firstBlocks d) := by
  unfold State.firstBlocks
  exact foldl_stays (fun s i => s.firstBlock d i) (fun s i => s.firstBlock_stays d i) _ s

theorem State.firstHold_eq (s : State) : s.firstHold = (s.populatedDies.filter s.dieServes).foldl State.firstBlocks s.aimsAtA := rfl

theorem State.firstHold_stays (s : State) : s.aimsAtA.Stays s.firstHold := by
  rw [s.firstHold_eq]
  exact foldl_stays State.firstBlocks State.firstBlocks_stays _ _

/-- Step 7's HOLD record is under way: the course is kept but for the set that is to become active. -/
theorem State.beginHold_begun (s : State) : ∃ set : Bool, ({ s with dump := { s.dump with holdTarget := some set } } : State).Stays s.beginHold ∧
    (s.dump.case ≠ 1 → set = s.nextHold) := by
  unfold State.beginHold
  split
  · next hcase =>
    exact ⟨false, State.Stays.trans s.firstHold_stays (State.holdCheck_stays _), fun h => absurd hcase h⟩
  · exact ⟨s.nextHold, by simp [State.writeHold], fun _ => rfl⟩

/-- After a dump the set that it did not use is to become active. -/
theorem State.nextHold_of_begun {s : State} (hcase : s.dump.case = 3 ∨ s.dump.case = 4) {b n w : Nat} (hbegun : s.ts.anchor 2 = some (b, n, w)) :
    s.nextHold = decide (b ≠ 1) := by
  have hother : s.dump.case ≠ 2 := by omega
  unfold State.nextHold
  rw [if_neg hother, hbegun]

/-- Step 6 begins step 7's HOLD record. -/
theorem execRestartStepDone_scanned {s : State} (hstep : s.dump.step = 6) (f : RestartFound) : ∃ t, execRestartStepDone f s = .next t ∧ t.dump.step = 7 ∧
    t.obs.ringOn = true ∧ t.fe.admits = s.fe.admits ∧ t.dump.active = s.dump.active ∧
    ∀ b n w, s.dump.case = 3 ∨ s.dump.case = 4 → s.ts.anchor 2 = some (b, n, w) → t.dump.holdTarget = some (decide (b ≠ 1)) := by
  obtain ⟨hcourse, hadmits, hrings, hring⟩ := s.ringStarted
  have hactive : s.scanAndLoad.isolateLedger.dump.active = s.dump.active := congrArg (·.2.2.1) hcourse
  have hsame : s.scanAndLoad.isolateLedger.dump.case = s.dump.case := congrArg (·.2.1) hcourse
  have heq := execRestartStepDone_ring hstep f
  generalize s.scanAndLoad.isolateLedger = u at heq hadmits hrings hring hactive hsame
  obtain ⟨set, hbegun, hset⟩ := State.beginHold_begun { u with dump := { u.dump with step := 7 } }
  have hend := State.Stays.trans hbegun (State.arrayPump_stays _)
  refine ⟨_, heq, hend.step, ?_, hend.admits.trans hadmits, hend.active.trans hactive, fun b n w hcase hanchor => hend.holdTarget.trans ?_⟩
  · exact hend.2.2.2.2.trans hring
  · have hused : u.dump.case = 3 ∨ u.dump.case = 4 := by rwa [hsame]
    have hnext := State.nextHold_of_begun (s := { u with dump := { u.dump with step := 7 } }) hused ((TsState.anchor_congr hrings 2).trans hanchor)
    rw [hset (by show u.dump.case ≠ 1; omega), hnext]

/-! ### Step 7: admission -/

/-- The write counters as step 7 resumes them, after the option log's record of a first start. -/
def State.resumed (s : State) : State :=
  let s := if s.dump.case = 1 ∧ s.blk.u0.isNone then ({ s with blk := { s.blk with u0 := some s.usable } } : State).writeRec .optionLog (.optU0 s.usable) else s
  (s.cipher.slots.map (·.1)).foldl State.resumeCounter s

theorem State.resumed_stays (s : State) : s.Stays s.resumed := by
  unfold State.resumed
  refine State.Stays.trans ?_ (foldl_stays _ State.resumeCounter_stays _ _)
  split <;> exact ⟨rfl, rfl, rfl, rfl, rfl⟩

/-- The part becomes active with its new hold set, and what step 8 waits for is noted. -/
def State.opened (s : State) : State :=
  let staged := s.stagingSegs.map fun (g, d) => (g, d.nextRun)
  { s with
    dump := { s.dump with active := s.dump.holdTarget, holdTarget := none, since := false, step := 8, shutdown := false, ended := none, holds := [], inReset := false,
                          consumeRuns := staged, consumeRoot := if s.map.rootStaging = [] then none else some s.map.rootFrames,
                          consumeLedger := if s.usesDump then (s.dump.image.map fun im => (im.ledgerPages.flatMap (·.entries)) ++ im.ledger).getD [] else [] },
    fe := { s.fe with admits := true, stopped := false, shst := 0 } }

/-- A hold block whose erase was due is erased. -/
def State.holdErased (s : State) (b : Nat) : State :=
  if (s.blkRec b).toHeld ∧ s.dieServes (dieOfBlk b) ∧ s.dump.case ≠ 1 ∧ !(s.girth.intents.any (·.1 = b)) then s.holdErase b else s

theorem State.holdErased_stays (s : State) (b : Nat) : s.Stays (s.holdErased b) := by simp [State.holdErased]

/-- The erases, jobs and restores that go on at admission. -/
def State.goesOn (s : State) : State := s.repeatErases.restoreJobs.nextRestore

theorem State.goesOn_stays (s : State) : s.Stays s.goesOn := by simp [State.goesOn]

theorem State.admission_eq (s : State) : s.admission =
    (s.resumed.opened.goesOn.dump.holdA ++ s.resumed.opened.goesOn.dump.holdB).foldl State.holdErased s.resumed.opened.goesOn := rfl

theorem State.admission_stays (s : State) : s.resumed.opened.Stays s.admission := by
  rw [s.admission_eq]
  exact State.Stays.trans (State.goesOn_stays _) (foldl_stays _ State.holdErased_stays _ _)

/-- Step 7 ends, its HOLD record durable: the set that it names is active and commands are admitted. -/
def State.admitted (s : State) : State :=
  { s.admission with dump := { s.admission.dump with holdSafe := false }, ts := { s.admission.ts with bootStep := 9 } }

theorem State.opened_course (s : State) : s.opened.dump.course = (8, s.dump.case, s.dump.holdTarget, false, none) ∧ s.opened.fe.admits = true ∧
    s.opened.fe.stopped = false := ⟨rfl, rfl, rfl⟩

theorem State.admitted_open (s : State) : s.admitted.dump.step = 8 ∧ s.admitted.dump.active = s.dump.holdTarget ∧ s.admitted.dump.since = false ∧
    s.admitted.fe.admits = true ∧ s.admitted.fe.stopped = false ∧ s.admitted.ts.bootStep = 9 := by
  obtain ⟨hcourse, hadmits, hstopped, -, -⟩ := s.admission_stays
  obtain ⟨hopen, hopens, hgoes⟩ := s.resumed.opened_course
  rw [hopen, s.resumed_stays.holdTarget] at hcourse
  rw [hopens] at hadmits
  rw [hgoes] at hstopped
  unfold State.admitted
  generalize s.admission = t at hcourse hadmits hstopped
  exact ⟨congrArg (·.1) hcourse, congrArg (·.2.2.1) hcourse, congrArg (·.2.2.2.1) hcourse, hadmits, hstopped, rfl⟩

theorem execRestartStepDone_admits {s : State} (hstep : s.dump.step = 7) (f : RestartFound) :
    execRestartStepDone f s = if s.dump.holdSafe then .next s.admitted.settle else .next s := by
  unfold execRestartStepDone
  rw [hstep]
  rfl

/-! ### Step 8 and the steps in order -/

theorem execRestartStepDone_consumes {s : State} (hstep : s.dump.step = 8) (f : RestartFound) :
    execRestartStepDone f s = if s.mayConsume then .next s.consume.settle else .next s := by
  unfold execRestartStepDone
  rw [hstep]
  rfl

theorem execRestartStepDone_case {s : State} (hstep : s.dump.step = 1) (f : RestartFound) :
    execRestartStepDone f s = .next { s with dump := { s.dump with case := s.ts.restartCase, step := 2 } } := by
  unfold execRestartStepDone
  rw [hstep]
  rfl

theorem execRestartStepDone_ledger {s : State} (hstep : s.dump.step = 2) (f : RestartFound) :
    execRestartStepDone f s = .next { s with dump := { s.dump with step := 3 } } := by
  unfold execRestartStepDone
  rw [hstep]
  rfl

/-- No restart step runs. -/
theorem execRestartStepDone_idle {s : State} (hstep : s.dump.step = 0 ∨ 8 < s.dump.step) (f : RestartFound) : execRestartStepDone f s = .next s := by
  unfold execRestartStepDone
  rcases hstep with hnone | hpast
  · rw [hnone]; rfl
  · obtain ⟨n, hn⟩ := Nat.exists_eq_add_of_le' hpast
    rw [hn]
    rfl

theorem exec_restartStepDone (f : RestartFound) (s : State) : exec (.restartStepDone f) s = execRestartStepDone f s := rfl

theorem State.readDump_of_none {s : State} (himage : s.dump.image = none) (f : RestartFound) :
    s.readDump f = { s with dump := { s.dump with partsOk := f.partsOk, unitsOk := f.partsOk || f.indexOk, lostSlots := f.lostSlots } } := by
  unfold State.readDump
  rw [himage]

theorem State.readDump_of_some {s : State} {im : DumpImage} (himage : s.dump.image = some im) (f : RestartFound) :
    s.readDump f = { s with dump := { s.dump with
      partsOk := f.partsOk && im.partsWhole s.fpu s.dump.lost
      unitsOk := (f.partsOk && im.partsWhole s.fpu s.dump.lost) || (f.indexOk && im.indexWhole s.fpu s.dump.lost)
      lostSlots := (f.lostSlots ++ im.slotsLost s.fpu s.dump.lost 0 0 im.units).eraseDups } } := by
  unfold State.readDump
  rw [himage]

/-- Settles O6: each step's equation, and of what the steps run in between only the course that they keep. -/
theorem restartTakesItsSteps : Obligations.RestartTakesItsSteps := by
  unfold Obligations.RestartTakesItsSteps
  simp only [exec_restartStepDone]
  refine ⟨fun s f hstep => execRestartStepDone_case hstep f, fun t => ⟨TsState.restartCase_first, fun h => TsState.restartCase_hold_only,
      fun a n w b m v hhold hbegun hnewer => TsState.restartCase_hold_newer hhold hbegun (.inl hnewer),
      fun a n w b m hhold hbegun hlast => TsState.restartCase_hold_newer hhold hbegun (.inr ⟨rfl, hlast⟩), fun b m v c k x hbegun hdone hnewer => ?complete,
      fun b m v hbegun hdone hnewer => ?part⟩,
    fun s f hstep => execRestartStepDone_ledger hstep f, fun s f hstep => ⟨fun himage => ?noDump, fun im himage => ?dump⟩, fun s f hstep => ?tables,
    fun s f hstep => execRestartStepDone_formed hstep f, fun s f hstep => execRestartStepDone_scanned hstep f, fun s f hstep => ⟨fun hsafe => ?waits, fun hsafe => ?admits⟩,
    fun s f hstep => ⟨fun hmay => ?holds, fun hmay => ?consumes⟩, fun s f hstep => execRestartStepDone_idle hstep f⟩
  case complete => rw [TsState.restartCase_begun_newer hbegun hnewer, hdone]; simp
  case part => rw [TsState.restartCase_begun_newer hbegun hnewer, hdone]; rfl
  case noDump => rw [execRestartStepDone_readDump hstep, State.readDump_of_none himage]
  case dump =>
    rw [execRestartStepDone_readDump hstep, State.readDump_of_some himage]
    exact ⟨_, rfl, rfl, rfl, rfl, rfl, fun i => by simp⟩
  case tables =>
    obtain ⟨hdump, hmedia, hts⟩ := s.tablesFormed_keeps
    obtain ⟨hsegs, hslots, hdirty, hwbi⟩ := s.tablesFormed_cleared
    exact ⟨_, execRestartStepDone_tables hstep f, by rw [hdump], hmedia, hts, hsegs, hslots, hdirty, hwbi⟩
  case waits => simp [execRestartStepDone_admits hstep, hsafe]
  case admits => exact ⟨s.admitted, by simp [execRestartStepDone_admits hstep, hsafe], s.admitted_open⟩
  case holds => simp [execRestartStepDone_consumes hstep, hmay]
  case consumes => exact ⟨s.consume, by simp [execRestartStepDone_consumes hstep, hmay], rfl, rfl⟩

end Sys2Proof.Machine
end

section
/-! A segment's restore (O7): where the segment's key stands twice in the table, the background restore takes the same segment again. -/
namespace Sys2Proof.Machine

/-- Before restart's step 7 the engines rest, and settling leaves the map as it is. -/
theorem State.settle_map_of_resting {s : State} (hstep : s.dump.step = 0) : s.settle.map = s.map := by
  have hunits : s.engines 8 = false := by simp [State.engines, hstep]
  have hmap : s.engines 7 = false := by simp [State.engines, hstep]
  have hfront : s.settle = s.settleFront := by simp [State.settle, State.settleFlash, State.settleMap, State.settleUnits, State.settleFront, hunits, hmap]
  rw [hfront]
  simp only [State.settleFront_kept]

/-- What settles to the same state from a resting one holds the same map. -/
theorem State.map_eq_of_settle_eq {s t : State} (hstep : s.dump.step = 0) (h : s.settle = t.settle) : s.map = t.map := by
  have hresting : t.dump.step = 0 := by rw [← t.settle_stays.step, ← h, s.settle_stays.step, hstep]
  rw [← State.settle_map_of_resting hstep, h, State.settle_map_of_resting hresting]

/-- The background restore works on segment 0, whose key stands twice in the table of segments. -/
def twiceListed : State :=
  { State.reset with map := { State.reset.map with segs := [(0, { alloc := true }), (0, { alloc := true })], background := some 0, restoring := true } }

/-- The first of the two is restored, and the second is the next segment to restore. -/
def twiceListedRestored : State :=
  (({ twiceListed.modSeg 0 (fun d => { d with restored := true }) with
      map := { (twiceListed.modSeg 0 fun d => { d with restored := true }).map with background := none } } : State)).nextRestore

theorem exec_twiceListed : exec (.segmentRestoreDone 0 []) twiceListed = .next twiceListedRestored.settle := by
  rfl

/-- Refutes O7: the statement takes every table of segments, not only one whose keys rise (`Table.wf`). In one that lists segment 0 twice the restore sets RESTORED
in the first of the two, the background restore finds the second, and segment 0 stands in it again. -/
theorem not_segmentRestoreMakesASegmentUsable : ¬ Obligations.SegmentRestoreMakesASegmentUsable := by
  unfold Obligations.SegmentRestoreMakesASegmentUsable
  rintro ⟨hrestored, -⟩
  obtain ⟨u, hexec, -, -, -, -, -, hbackground, -⟩ := hrestored twiceListed 0 [] rfl (.inl rfl)
  have hsettle : twiceListedRestored.settle = u.settle := Host.Outcome.next.inj (exec_twiceListed.symm.trans hexec)
  have hmap : twiceListedRestored.map = u.map := State.map_eq_of_settle_eq (by decide) hsettle
  have hagain : twiceListedRestored.map.background = some 0 := by decide
  exact hbackground (hmap ▸ hagain)

end Sys2Proof.Machine
end

section
/-! The status of a command's row through the operations of the front end, and the rows that meet a fence (R249, R260, R273, R274). -/
namespace Sys2Proof.Machine

/-- The status of a command's row: none where there is no row, `some none` where the row has no status yet. -/
def State.resultOf (s : State) (tag : Nat) : Option (Option CmdResult) := (s.cmd tag).map (·.result)

theorem State.resultOf_of_cmd {s : State} {tag : Nat} {c : Cmd} (h : s.cmd tag = some c) : s.resultOf tag = some c.result := by simp [State.resultOf, h]
theorem State.exists_cmd_of_resultOf {s : State} {tag : Nat} {x : Option CmdResult} (h : s.resultOf tag = some x) : ∃ d, s.cmd tag = some d ∧ d.result = x :=
  Option.map_eq_some_iff.mp h

/-! ### Operations that leave every status as it is -/

@[simp] theorem State.leave_resultOf (s : State) (code sev : Nat) (xs : List Nat) (n : Nat) : (s.leave code sev xs).resultOf n = s.resultOf n := by
  simp [State.resultOf, State.cmd]
theorem State.modCmd_resultOf (s : State) (tag n : Nat) {f : Cmd → Cmd} (h : ∀ c, (f c).result = c.result) : (s.modCmd tag f).resultOf n = s.resultOf n := by
  by_cases hn : n = tag
  · subst hn; simp [State.resultOf, Function.comp_def, h]
  · simp [State.resultOf, State.modCmd_cmd_ne _ _ _ _ hn]
theorem State.dropJob_resultOf (s : State) (t n : Nat) : (s.dropJob t).resultOf n = s.resultOf n := by
  have hjobs : ∀ u : State, u.fe = (s.jobLeavesSlot t).fe → ({ u with fe := { u.fe with jobs := Table.del u.fe.jobs t } } : State).resultOf n = s.resultOf n := by
    intro u hu
    simp [State.resultOf, State.cmd, hu, (s.jobLeavesSlot_desk t).1]
  unfold State.dropJob
  dsimp only
  split
  · refine (State.modCmd_resultOf _ _ _ ?_).trans (hjobs _ rfl)
    exact fun _ => rfl
  · exact hjobs _ rfl
theorem State.foldl_dropJob_resultOf (s : State) (l : List Nat) (n : Nat) : (l.foldl State.dropJob s).resultOf n = s.resultOf n :=
  fold_left (fun s => s.resultOf n) _ (fun s t => s.dropJob_resultOf t n) l s

/-! ### The end of a command: the first status stands -/

theorem State.finish_resultOf_ne (s : State) {tag n : Nat} (r : CmdResult) (h : n ≠ tag) : (s.finish tag r).resultOf n = s.resultOf n := by
  simp only [State.resultOf, State.finish, State.finishCode_rows _ _ _ _ _ h]
theorem State.finish_resultOf (s : State) (tag : Nat) (r : CmdResult) : (s.finish tag r).resultOf tag = (s.resultOf tag).map fun x => some (x.getD r) := by
  cases hrow : s.cmd tag with
  | none => simp [State.resultOf, State.finish, State.finishCode, hrow]
  | some c =>
    cases hresult : c.result with
    | none =>
      rw [State.finish, State.resultOf_of_cmd (State.finishCode_spec hrow hresult).1, State.resultOf_of_cmd hrow, hresult]
      rfl
    | some old => simp [State.resultOf, State.finish, State.finishCode, hrow, hresult]

/-! ### A fence -/

/-- A row that the fence of a rein ends: of the write class, without a status, and not yet begun or with units in work (R260). -/
abbrev Cmd.MeetsFence (c : Cmd) (r : Rein) : Prop :=
  c.port.rein = r ∧ c.result.isNone ∧ isWriteClass c.admin c.entry ∧ (!c.started ∨ (!c.admin ∧ c.units ≠ []))
/-- What a fence does with one row of the command table. -/
def State.fenceRow (r : Rein) (s : State) (x : Nat × Cmd) : State :=
  if x.2.MeetsFence r then (x.2.units.foldl State.dropJob s).finish x.1 leaseFenced else s

theorem State.endFenced_eq (s : State) (r : Rein) : s.endFenced r = s.fe.cmds.foldl (State.fenceRow r) s := rfl

theorem State.fenceRow_resultOf (r : Rein) (s : State) (x : Nat × Cmd) (tag : Nat) :
    (State.fenceRow r s x).resultOf tag = if x.1 = tag ∧ x.2.MeetsFence r then (s.resultOf tag).map fun y => some (y.getD leaseFenced) else s.resultOf tag := by
  unfold State.fenceRow
  by_cases hmeets : x.2.MeetsFence r
  · rw [if_pos hmeets]
    by_cases htag : x.1 = tag
    · subst htag; rw [if_pos ⟨rfl, hmeets⟩, State.finish_resultOf, State.foldl_dropJob_resultOf]
    · rw [if_neg fun h => htag h.1, State.finish_resultOf_ne _ _ (Ne.symm htag), State.foldl_dropJob_resultOf]
  · rw [if_neg hmeets, if_neg fun h => hmeets h.2]

theorem State.foldl_fenceRow_resultOf (r : Rein) (l : List (Nat × Cmd)) (s : State) (tag : Nat) :
    (l.foldl (State.fenceRow r) s).resultOf tag =
      if (∃ x ∈ l, x.1 = tag ∧ x.2.MeetsFence r) then (s.resultOf tag).map fun y => some (y.getD leaseFenced) else s.resultOf tag := by
  induction l generalizing s with
  | nil => simp
  | cons x l ih =>
    rw [List.foldl_cons, ih, State.fenceRow_resultOf]
    simp only [List.mem_cons, exists_eq_or_imp]
    by_cases hx : x.1 = tag ∧ x.2.MeetsFence r
    · rw [if_pos hx, if_pos (show _ ∨ _ from .inl hx)]
      split <;> simp [Function.comp_def]
    · rw [if_neg hx]
      simp only [hx, false_or]

/-- A fence gives its status to the row that it meets. -/
theorem State.endFenced_resultOf {s : State} {r : Rein} {tag : Nat} {c : Cmd} (hrow : s.cmd tag = some c) (hmeets : c.MeetsFence r) (hnew : c.result = none) :
    (s.endFenced r).resultOf tag = some (some leaseFenced) := by
  rw [State.endFenced_eq, State.foldl_fenceRow_resultOf, if_pos ⟨(tag, c), Table.mem_of_find hrow, rfl, hmeets⟩, State.resultOf_of_cmd hrow, hnew]
  rfl

end Sys2Proof.Machine
end

section
/-! Keeper balls, fences and leases (O26): what each step leaves of the two ports, and what an accepted packet does (R255 to R260). -/
namespace Sys2Proof.Machine

/-! ### The ports under a fence -/

@[simp] theorem State.settle_port (s : State) (r : Rein) : s.settle.port r = s.port r := by simp [State.port]
@[simp] theorem State.endFenced_port (s : State) (r y : Rein) : (s.endFenced r).port y = s.port y := by simp [State.port]

/-- A port with the fence of one cause, 0 keeper or 1 lease, set or lifted. -/
def ReinPort.withFence (p : ReinPort) (cause : Nat) (on : Bool) : ReinPort := if cause = 0 then { p with fencedKeeper := on } else { p with fencedLease := on }

/-- A fence changes the port, and then leaves the reins as they are. -/
theorem State.setFence_rein (s : State) (r : Rein) (cause : Nat) (on : Bool) :
    (s.setFence r cause on).rein = (s.modPort r fun p => p.withFence cause on).rein := by
  simp [State.setFence, ReinPort.withFence]
theorem State.setFence_port (s : State) (r : Rein) (cause : Nat) (on : Bool) : (s.setFence r cause on).port r = (s.port r).withFence cause on := by
  rw [State.port, State.setFence_rein]
  exact s.modPort_port r _
theorem State.setFence_port_other (s : State) (r : Rein) (cause : Nat) (on : Bool) : (s.setFence r cause on).port r.other = s.port r.other := by
  rw [State.port, State.setFence_rein]
  exact s.modPort_port_other r _
theorem State.setFence_twin (s : State) (r : Rein) (cause : Nat) (on : Bool) : (s.setFence r cause on).rein.twin = s.rein.twin := by
  rw [State.setFence_rein]
  exact s.modPort_twin r _

/-- The lease fence stands exactly where LEASE_ENFORCE asks for a lease that is not live (R258). -/
theorem State.leaseFence_port (s : State) (r : Rein) :
    (s.leaseFence r).port r = { s.port r with fencedLease := s.rein.twin.enforce && !(s.port r).leaseLive } := by
  unfold State.leaseFence
  dsimp only
  split
  · next h => rw [h]
  · rw [State.setFence_port]; rfl
theorem State.leaseFence_others (s : State) (r : Rein) : (s.leaseFence r).port r.other = s.port r.other ∧ (s.leaseFence r).rein.twin = s.rein.twin := by
  unfold State.leaseFence
  dsimp only
  split
  · exact ⟨rfl, rfl⟩
  · exact ⟨s.setFence_port_other r 1 _, s.setFence_twin r 1 _⟩

/-! ### The keeper's filter (R258) -/

@[simp] theorem State.modPort_reinExists (s : State) (r y : Rein) (f : ReinPort → ReinPort) : (s.modPort r f).reinExists y = s.reinExists y := by
  simp [State.reinExists]

theorem execKeeperBallChange_next (r : Rein) (level : Bool) (s : State) : ∃ t, execKeeperBallChange r level s = .next t ∧
    t.port r = { s.port r with keeperTiming := some level } ∧ t.pkg.keeper r = level ∧ t.pkg.keeper r.other = s.pkg.keeper r.other ∧
    t.port r.other = s.port r.other ∧ { t with rein := s.rein, pkg := s.pkg } = s := by
  cases r <;> exact ⟨_, rfl, rfl, rfl, rfl, rfl, rfl⟩

theorem execKeeperFilterExpire_idle {s : State} {r : Rein} (h : (s.port r).keeperTiming = none) : execKeeperFilterExpire r s = .next s := by
  simp [execKeeperFilterExpire, h]

theorem execKeeperFilterExpire_unused {s : State} {r : Rein} {l : Bool} (h : (s.port r).keeperTiming = some l) (hunused : s.reinExists r = false ∨ s.img.keeperUse r = false) :
    execKeeperFilterExpire r s = .next (s.modPort r fun p => { p with keeperTiming := none }) := by
  have hcond : (!(s.modPort r fun p => { p with keeperTiming := none }).reinExists r) = true ∨
      (!(s.modPort r fun p => { p with keeperTiming := none }).img.keeperUse r) = true := by
    simpa using hunused
  simp only [execKeeperFilterExpire, h, if_pos hcond]

/-- A keeper that the image uses: the filter ends, and the keeper's fence follows the ball. -/
theorem execKeeperFilterExpire_used {s : State} {r : Rein} {l : Bool} (h : (s.port r).keeperTiming = some l) (hexists : s.reinExists r = true) (huse : s.img.keeperUse r = true) :
    ∃ t, execKeeperFilterExpire r s = .next t ∧ t.port r = { s.port r with keeperTiming := none, fencedKeeper := !l } ∧ t.port r.other = s.port r.other := by
  have hcond : ¬((!(s.modPort r fun p => { p with keeperTiming := none }).reinExists r) = true ∨
      (!(s.modPort r fun p => { p with keeperTiming := none }).img.keeperUse r) = true) := by
    simp [hexists, huse]
  simp only [execKeeperFilterExpire, h, if_neg hcond]
  split
  · refine ⟨_, rfl, ?_, ?_⟩
    · rw [State.settle_port, State.setFence_port, State.modPort_port]; rfl
    · rw [State.settle_port, State.setFence_port_other, State.modPort_port_other]
  · next hlevel =>
    have hfence : (!l) = (s.port r).fencedKeeper := by
      rw [State.modPort_port] at hlevel
      exact (Bool.eq_not.mpr (Ne.symm hlevel)).symm
    refine ⟨_, rfl, ?_, State.modPort_port_other _ _ _⟩
    rw [State.modPort_port, hfence]

/-! ### A fence ends what has not begun (R260) -/

theorem State.setFence_ends {s : State} {r : Rein} {tag : Nat} {c : Cmd} (cause : Nat) (hrow : s.cmd tag = some c) (hrein : c.port.rein = r) (hresult : c.result = none)
    (hbegun : c.started = false) (hwrites : isWriteClass c.admin c.entry = true) : ∃ d, (s.setFence r cause true).cmd tag = some d ∧ d.result = some leaseFenced := by
  refine State.exists_cmd_of_resultOf (State.endFenced_resultOf (c := c) ?_ ⟨hrein, by simp [hresult], hwrites, .inl (by simp [hbegun])⟩ hresult)
  simpa [State.cmd] using hrow

/-! ### A lease starts and ends (R257) -/

theorem execLeaseStart_due {s : State} {r : Rein} {l : Lease} (h : (s.port r).lease = some l) (hlive : l.live = false) (hstart : l.startWt ≤ s.wheel.wt) :
    execLeaseStart r s = .next ((s.modPort r fun p => { p with lease := some { l with live := true } }).leaseFence r).settle := by
  simp [execLeaseStart, h, hlive, hstart]
theorem execLeaseStart_idle {s : State} {r : Rein} (h : ∀ l, (s.port r).lease = some l → l.live = true ∨ s.wheel.wt < l.startWt) : execLeaseStart r s = .next s := by
  unfold execLeaseStart
  split
  · next l hl =>
    refine if_neg fun ⟨hlive, hstart⟩ => ?_
    rcases h l hl with hon | hlater
    · simp [hon] at hlive
    · omega
  · rfl

theorem execLeaseEnd_due {s : State} {r : Rein} {l : Lease} (h : (s.port r).lease = some l) (hend : l.endWt ≤ s.wheel.wt) :
    execLeaseEnd r s = .next ((s.modPort r fun p => { p with lease := none }).leaseFence r).settle := by
  simp [execLeaseEnd, h, hend]
theorem execLeaseEnd_idle {s : State} {r : Rein} (h : ∀ l, (s.port r).lease = some l → s.wheel.wt < l.endWt) : execLeaseEnd r s = .next s := by
  unfold execLeaseEnd
  split
  · next l hl => exact if_neg (Nat.not_le.mpr (h l hl))
  · rfl

/-- A rein's lease changes, and its lease fence follows: what stands once that has settled. -/
theorem State.leaseFence_of_lease (s : State) (r : Rein) (x : Option Lease) (t : State) (ht : t = ((s.modPort r fun p => { p with lease := x }).leaseFence r).settle) :
    (t.port r).lease = x ∧ (t.port r).fencedLease = (s.rein.twin.enforce && !({ s.port r with lease := x } : ReinPort).leaseLive) ∧
      t.port r.other = s.port r.other ∧ t.rein.twin = s.rein.twin := by
  obtain ⟨hother, htwin⟩ := (s.modPort r fun p => { p with lease := x }).leaseFence_others r
  have hport := (s.modPort r fun p => { p with lease := x }).leaseFence_port r
  rw [State.modPort_port, State.modPort_twin] at hport
  subst ht
  refine ⟨?_, ?_, ?_, ?_⟩
  · rw [State.settle_port, hport]
  · rw [State.settle_port, hport]
  · rw [State.settle_port, hother, State.modPort_port_other]
  · rw [← State.modPort_twin s r, ← htwin]; simp

/-! ### An accepted packet (R256, R257) -/

theorem State.finish_leases (s : State) (tag : Nat) (r : CmdResult) : (s.finish tag r).fe.leases = s.fe.leases := (congrArg FeState.leases (s.finishCode_rest tag r 0) :)

theorem State.leasePacket_accepted {s : State} {tag : Nat} {p : BitVec 512} (h : s.leaseCheck p = none) :
    s.leasePacket tag p true = (s.finish tag ok).leaseAccept tag p := by
  simp [State.leasePacket, h]
theorem State.leaseAccept_resultOf (s : State) (tag n : Nat) (p : BitVec 512) : (s.leaseAccept tag p).resultOf n = s.resultOf n :=
  State.leave_resultOf _ _ _ _ _
theorem State.leaseAccept_rein (s : State) (tag : Nat) (p : BitVec 512) : (s.leaseAccept tag p).rein = { s.rein with twin := { s.rein.twin with epoch := pktEpoch p } } := by
  simp [State.leaseAccept]
theorem State.leaseAccept_leases (s : State) (tag : Nat) (p : BitVec 512) : (s.leaseAccept tag p).fe.leases =
    s.fe.leases ++ [{ tag := tag, pkt := p, wt := s.wheel.wt, liveA := s.rein.a.leaseLive, liveB := s.rein.b.leaseLive, posted := false }] := by
  simp [State.leaseAccept]

/-! ### Its action once the completion has been posted (R257) -/

theorem State.leasesDue_none {s : State} (h : ∀ l ∈ s.fe.leases, l.posted = false) :
    s.leasesDue = { s with fe := { s.fe with leases := s.fe.leases.filter fun l => (s.cmd l.tag).isSome } } := by
  have hdue : s.fe.leases.filter (·.posted) = [] := List.filter_eq_nil_iff.mpr fun l hl => by simp [h l hl]
  have hkept : (s.fe.leases.filter fun l => !l.posted && (s.cmd l.tag).isSome) = s.fe.leases.filter fun l => (s.cmd l.tag).isSome :=
    List.filter_congr fun l hl => by simp [h l hl]
  simp only [State.leasesDue, hdue, if_true, hkept]
theorem State.leasesDue_one {s : State} {l : LeaseDue} (h : s.fe.leases = [l]) (hposted : l.posted = true) :
    s.leasesDue = (({ s with fe := { s.fe with leases := [] } } : State).leaseAct l).postAll := by
  simp [State.leasesDue, h, hposted]

/-- The lease that a packet grants a rein, at a WT. -/
def LeaseDue.grant (l : LeaseDue) (wt : Nat) (r : Rein) : Lease :=
  { live := (match r with | .a => l.liveA | .b => l.liveB) || decide (pktStart l.pkt ≤ wt), startWt := pktStart l.pkt, endWt := leaseEndAt l.wt l.pkt, epoch := pktEpoch l.pkt }

theorem State.leaseOn_grants {s : State} {l : LeaseDue} (h : pktAction l.pkt = 0) (r : Rein) :
    ((s.leaseOn l r).port r).lease = some (l.grant s.wheel.wt r) ∧ (s.leaseOn l r).port r.other = s.port r.other := by
  have heq : s.leaseOn l r = (s.modPort r fun q => { q with lease := some (l.grant s.wheel.wt r) }).leaseFence r := by
    simp only [State.leaseOn, h]; rfl
  rw [heq, State.leaseFence_port, State.modPort_port, ((State.modPort _ _ _).leaseFence_others r).1, State.modPort_port_other]
  exact ⟨rfl, rfl⟩

theorem pktMask_lt (p : BitVec 512) : pktMask p < 4 := Nat.mod_lt _ (by decide)

/-- A grant gives each rein of its mask its lease. -/
theorem State.leaseAct_grants {s : State} {l : LeaseDue} (h : pktAction l.pkt = 0) {r : Rein} (hmask : (pktMask l.pkt).testBit r.num = true) :
    ((s.leaseAct l).port r).lease = some (l.grant s.wheel.wt r) := by
  have hlt := pktMask_lt l.pkt
  unfold State.leaseAct
  rw [if_neg (by omega)]
  dsimp only
  cases r with
  | a =>
    have hodd : pktMask l.pkt % 2 = 1 := by simpa [Nat.testBit_zero, Rein.num] using hmask
    rw [if_pos hodd]
    obtain ⟨hlease, -⟩ := State.leaseOn_grants (s := s) h .a
    split
    · obtain ⟨-, hother⟩ := State.leaseOn_grants (s := s.leaseOn l .a) h .b
      exact (congrArg ReinPort.lease hother).trans hlease
    · exact hlease
  | b =>
    have hhigh : 2 ≤ pktMask l.pkt := by
      by_contra hlow
      have hcases : pktMask l.pkt = 0 ∨ pktMask l.pkt = 1 := by omega
      rcases hcases with h0 | h0 <;> rw [h0] at hmask <;> exact absurd hmask (by decide)
    rw [if_pos hhigh, (State.leaseOn_grants h .b).1]
    split <;> simp

/-! ### The checks (R256) -/

theorem State.leaseCheck_cases (s : State) (p : BitVec 512) :
    (s.leaseCheck p = none → bitField p.toNat 192 64 = driveId ∧ s.rein.twin.epoch < pktEpoch p) ∧
    (bitField p.toNat 192 64 ≠ driveId → s.leaseCheck p = some { stat 7 0xC2 with dnr := true, dw0 := 3 }) ∧
    (bitField p.toNat 192 64 = driveId → pktEpoch p ≤ s.rein.twin.epoch → s.leaseCheck p = some { stat 7 0xC2 with dnr := true, dw0 := 2 }) ∧
    (bitField p.toNat 192 64 = driveId → s.rein.twin.epoch < pktEpoch p → pktStart p ≠ 0 → s.wheel.mode ≠ .locked → s.wheel.mode ≠ .acquire →
      s.leaseCheck p = some { stat 7 0xC6 with dw0 := 5 }) ∧
    (bitField p.toNat 192 64 = driveId → s.rein.twin.epoch < pktEpoch p → s.wheel.mode = .locked → pktAction p = 0 → s.leaseEnd p ≤ s.wheel.wt →
      s.leaseCheck p = some { stat 7 0xC2 with dnr := true, dw0 := 4 }) := by
  unfold State.leaseCheck
  dsimp only
  refine ⟨fun h => ?_, fun hid => if_pos hid, fun hid hepoch => ?_, fun hid hepoch hstart hlocked hacquire => ?_, fun hid hepoch hlocked haction hend => ?_⟩
  · split at h
    · cases h
    · next hid =>
      split at h
      · cases h
      · next hepoch => exact ⟨not_not.mp hid, Nat.not_le.mp hepoch⟩
  · rw [if_neg (not_not.mpr hid), if_pos hepoch]
  · rw [if_neg (not_not.mpr hid), if_neg (Nat.not_le.mpr hepoch), if_pos ⟨hstart, hlocked, hacquire⟩]
  · rw [if_neg (not_not.mpr hid), if_neg (Nat.not_le.mpr hepoch), if_neg (by simp [hlocked]), if_pos ⟨haction, hend⟩]

/-! ### The obligation -/

/-- Settles O26: each command by whether it is due, a fence by the row that it meets, and a packet by its checks, its acceptance and its action. -/
theorem keepersAndLeasesFenceWrites : Obligations.KeepersAndLeasesFenceWrites := by
  unfold Obligations.KeepersAndLeasesFenceWrites
  refine ⟨fun s r level => execKeeperBallChange_next r level s, fun s r hidle => execKeeperFilterExpire_idle hidle, ?unused, ?used, ?fence, ?starts, ?notStarted, ?ends, ?notEnded,
    ?accepted, fun s hunposted => State.leasesDue_none hunposted, fun s l hone hposted => State.leasesDue_one hone hposted, ?granted, State.leaseCheck_cases⟩
  case unused =>
    intro s r l htiming hunused
    exact ⟨_, execKeeperFilterExpire_unused htiming hunused, s.modPort_port r _, rfl⟩
  case used =>
    intro s r l htiming hexists huse
    obtain ⟨t, hexec, hport, hother⟩ := execKeeperFilterExpire_used htiming hexists huse
    exact ⟨t, hexec, by rw [hport], by rw [hport], by rw [hport], hother⟩
  case fence =>
    intro s r cause tag c hrow hrein hresult hbegun hwrites
    obtain ⟨d, hd, hfenced⟩ := State.setFence_ends cause hrow hrein hresult hbegun hwrites
    exact ⟨d, hd, hfenced, by decide⟩
  case starts =>
    intro s r l hlease hlive hstart
    obtain ⟨hnew, hfence, hother, htwin⟩ := s.leaseFence_of_lease r _ _ rfl
    exact ⟨_, execLeaseStart_due hlease hlive hstart, hnew, by simpa [ReinPort.leaseLive] using hfence, hother, htwin⟩
  case notStarted => exact fun s r hidle => execLeaseStart_idle hidle
  case ends =>
    intro s r l hlease hend
    obtain ⟨hnew, hfence, hother, htwin⟩ := s.leaseFence_of_lease r _ _ rfl
    exact ⟨_, execLeaseEnd_due hlease hend, hnew, by simpa [ReinPort.leaseLive] using hfence, hother, htwin⟩
  case notEnded => exact fun s r hidle => execLeaseEnd_idle hidle
  case accepted =>
    intro s tag c p hrow hresult hcheck
    rw [State.leasePacket_accepted hcheck]
    have hok : ((s.finish tag ok).leaseAccept tag p).resultOf tag = some (some ok) := by
      rw [State.leaseAccept_resultOf, State.finish_resultOf, State.resultOf_of_cmd hrow, hresult]; rfl
    obtain ⟨d, hd, hdone⟩ := State.exists_cmd_of_resultOf hok
    refine ⟨d, hd, hdone, ?_, fun r => ?_, ?_⟩
    · rw [State.leaseAccept_rein]
    · rw [State.port, State.leaseAccept_rein]; cases r <;> simp [ReinState.port, State.port]
    · rw [State.leaseAccept_leases, State.finish_leases]; simp
  case granted =>
    intro s l haction r hmask
    exact ⟨_, State.leaseAct_grants haction hmask, rfl, rfl, rfl, rfl⟩

end Sys2Proof.Machine
end

section
/-! Doorbells and the lag of a twin side (O27): what the front end's shared operations leave of the queues, and each step's cases (R244, R248, R273, R283, R453). -/
namespace Sys2Proof.Machine

/-! ### The submission queues through completions -/

@[simp] theorem State.postSide_sqs (s : State) (tag : Nat) (r : CmdResult) (o : Rein × Nat) : (s.postSide tag r o).fe.sqs = s.fe.sqs := by
  unfold State.postSide
  (repeat' split) <;> first | rfl | exact (s.countCompleted_tables _).2.1
@[simp] theorem State.freeIfDone_sqs (s : State) (tag : Nat) : (s.freeIfDone tag).fe.sqs = s.fe.sqs := by
  unfold State.freeIfDone State.tunnelEnds
  (repeat' split) <;> rfl
@[simp] theorem State.postCmd_sqs (s : State) (tag : Nat) : (s.postCmd tag).fe.sqs = s.fe.sqs := by
  unfold State.postCmd
  split
  · split
    · split
      · rfl
      · exact (State.freeIfDone_sqs _ _).trans (fold_left (fun s => s.fe.sqs) _ (fun s o => s.postSide_sqs tag _ o) _ s)
    · rfl
  · exact s.freeIfDone_sqs tag
@[simp] theorem State.postMismatch_sqs (s : State) (m : Nat × Rein × BitVec 32 × CqEntry) : (s.postMismatch m).fe.sqs = s.fe.sqs := by
  unfold State.postMismatch
  (repeat' split) <;> rfl
@[simp] theorem State.postAll_sqs (s : State) : s.postAll.fe.sqs = s.fe.sqs := by
  refine (fold_left (fun s => s.fe.sqs) _ State.postCmd_sqs _ _).trans ?_
  split
  · rfl
  · exact fold_left (fun s => s.fe.sqs) _ State.postMismatch_sqs _ s
@[simp] theorem State.leaveSaturations_sqs (s : State) : s.leaveSaturations.fe.sqs = s.fe.sqs :=
  fold_left (fun s => s.fe.sqs) _ (fun s _ => congrArg FeState.sqs (s.leave_fe _ _ _)) _ _
@[simp] theorem State.settleFront_sqs (s : State) : s.settleFront.fe.sqs = s.fe.sqs := (State.postAll_sqs _).trans s.leaveSaturations_sqs

/-! ### A doorbell that is not valid -/

/-- Both kinds of queues. -/
def State.queues (s : State) : Table Sq × Table Cq := (s.fe.sqs, s.fe.cqs)

theorem State.finish_queues (s : State) (tag : Nat) (r : CmdResult) : (s.finish tag r).queues = s.queues :=
  (congrArg (fun f : FeState => (f.sqs, f.cqs)) (s.finishCode_rest tag r 0) :)
theorem State.eventOn_queues (s : State) (c : Nat) (r : Rein) (e : Event) : (s.eventOn c r e).queues = s.queues := by
  unfold State.eventOn
  (repeat' split) <;> first | rfl | exact State.finish_queues _ _ _
theorem State.ctrlEvent_queues (s : State) (c : Nat) (e : Event) : (s.ctrlEvent c e).queues = s.queues := by
  unfold State.ctrlEvent
  split
  · rfl
  · exact fold_left State.queues _ (fun s (x : Nat × Rein) => s.eventOn_queues x.1 x.2 e) _ s

/-- From one state to the other no queue has moved, and neither the frame nor the user's data. -/
structure NoQueueMoved (s t : State) : Prop where
  queues : t.queues = s.queues
  frame : SameFrame s t
  data : SameData s t

theorem State.badDoorbell_noQueueMoved (s : State) (p : Port) (qid value info : Nat) : NoQueueMoved s (s.badDoorbell p qid value info) where
  queues := by
    unfold State.badDoorbell
    rw [State.ctrlEvent_queues]
    simp [State.queues]
  frame := by simp [SameFrame, State.badDoorbell]
  data := by simp [SameData, State.badDoorbell]
theorem State.count_noQueueMoved (s : State) (src inst n : Nat) : NoQueueMoved s (s.count src inst n) := ⟨rfl, by simp [SameFrame], by simp [SameData]⟩

/-- Settling a front-end command moves no submission queue, and neither the frame nor the user's data. -/
theorem NoQueueMoved.settled {s t : State} (h : NoQueueMoved s t) : t.settleFront.fe.sqs = s.fe.sqs ∧ SameFrame s t.settleFront ∧ SameData s t.settleFront := by
  refine ⟨?_, by simpa [SameFrame] using h.frame, by simpa [SameData] using h.data⟩
  rw [State.settleFront_sqs]
  exact congrArg Prod.fst h.queues

/-! ### The tail doorbell (R244) -/

/-- The entries that a tail doorbell's value adds (R244). -/
def Sq.tailStep (q : Sq) (x : SqSide) (v : Nat) : Nat := (v + q.qsize - x.tail.toNat % q.qsize) % q.qsize

/-- A doorbell that moves no submission queue: fault stop, no side of that queue, a DETACHED side, or a value that the queue cannot take. -/
def State.refusesTail (s : State) (p : Port) (qid v : Nat) : Prop :=
  s.fault.stop.isSome ∨ s.sq (s.sqKey p qid) = none ∨ ∃ q, s.sq (s.sqKey p qid) = some q ∧ (q.side p.rein = none ∨
    ∃ x, q.side p.rein = some x ∧ (x.attached = false ∨ q.qsize ≤ v ∨ q.qsize - 1 < (x.tail - x.fetch).toNat + q.tailStep x v))

theorem execSqTailDoorbell_valid {s : State} {p : Port} {qid v : Nat} {q : Sq} {x : SqSide} (hport : s.portOk p = true) (hruns : s.fault.stop = none)
    (hqueue : s.sq (s.sqKey p qid) = some q) (hside : q.side p.rein = some x) (hattached : x.attached = true) (hv : v < q.qsize)
    (hroom : (x.tail - x.fetch).toNat + q.tailStep x v ≤ q.qsize - 1) :
    execSqTailDoorbell p qid v s = .next (s.setSq (s.sqKey p qid) (q.setSide p.rein (some { x with tail := x.tail + BitVec.ofNat 32 (q.tailStep x v) }))) := by
  unfold Sq.tailStep at hroom ⊢
  have hvalid : ¬(q.qsize ≤ v ∨ q.qsize - 1 < (x.tail - x.fetch).toNat + (v + q.qsize - x.tail.toNat % q.qsize) % q.qsize) := by omega
  unfold execSqTailDoorbell
  rw [if_neg (by simp [hport]), if_neg (by simp [hruns])]
  simp only [hqueue, Option.bind_some, hside, Option.map_some]
  rw [if_neg (by simp [hattached]), if_neg hvalid]

theorem execSqTailDoorbell_refused {s : State} {p : Port} {qid v : Nat} (hport : s.portOk p = true) (h : s.refusesTail p qid v) :
    ∃ u, execSqTailDoorbell p qid v s = .next u.settleFront ∧ NoQueueMoved s u := by
  have hcount : NoQueueMoved s s.regError := s.count_noQueueMoved _ _ _
  unfold execSqTailDoorbell
  rw [if_neg (by simp [hport])]
  split
  · exact ⟨_, rfl, hcount⟩
  · next hruns =>
    dsimp only
    split
    · exact ⟨_, rfl, s.badDoorbell_noQueueMoved p qid v 0x00⟩
    · next q x hfound =>
      split
      · exact ⟨_, rfl, s.count_noQueueMoved _ _ _⟩
      · next hattached =>
        split
        · exact ⟨_, rfl, s.badDoorbell_noQueueMoved p qid v 0x01⟩
        · next hvalid =>
          obtain ⟨w, hw, hpair⟩ := Option.bind_eq_some_iff.mp hfound
          obtain ⟨y, hy, heq⟩ := Option.map_eq_some_iff.mp hpair
          cases heq
          rcases h with hstop | hnone | ⟨w', hw', hnone | ⟨y', hy', hbad⟩⟩
          · exact absurd hstop hruns
          · rw [hw] at hnone; cases hnone
          · rw [hw] at hw'; cases hw'; rw [hy] at hnone; cases hnone
          · rw [hw] at hw'; cases hw'; rw [hy] at hy'; cases hy'
            rcases hbad with hdetached | hvalue
            · simp [hdetached] at hattached
            · exact absurd hvalue hvalid

/-! ### The head doorbell (R273) -/

/-- The slots that a head doorbell's value frees (R273). -/
def Cq.headStep (q : Cq) (v : Nat) : Nat := (v + q.size - q.head % q.size) % q.size
/-- The completion queue with those slots free. -/
def Cq.freed (q : Cq) (v : Nat) : Cq := { q with head := v, used := q.used - q.headStep v, entries := q.entries.drop (q.headStep v) }

theorem execCqHeadDoorbell_valid {s : State} {p : Port} {qid v : Nat} {q : Cq} (hport : s.portOk p = true) (hruns : s.fault.stop = none)
    (hqueue : s.cq (s.cqKey p qid) = some q) (hv : v < q.size) (hused : q.headStep v ≤ q.used) :
    execCqHeadDoorbell p qid v s = .next (s.setCq (s.cqKey p qid) (q.freed v)).settleFront.leasesDue := by
  unfold Cq.headStep at hused
  have hvalid : ¬(q.size ≤ v ∨ q.used < (v + q.size - q.head % q.size) % q.size) := by omega
  simp [execCqHeadDoorbell, hport, hruns, hqueue, hvalid, Cq.freed, Cq.headStep]

theorem execCqHeadDoorbell_refused {s : State} {p : Port} {qid v : Nat} (hport : s.portOk p = true) (h : s.fault.stop.isSome ∨ s.cq (s.cqKey p qid) = none ∨
      ∃ q, s.cq (s.cqKey p qid) = some q ∧ (q.size ≤ v ∨ q.used < q.headStep v)) :
    ∃ u, execCqHeadDoorbell p qid v s = .next u.settleFront ∧ NoQueueMoved s u := by
  have hcount : NoQueueMoved s s.regError := s.count_noQueueMoved _ _ _
  unfold execCqHeadDoorbell
  rw [if_neg (by simp [hport])]
  split
  · exact ⟨_, rfl, hcount⟩
  · next hruns =>
    dsimp only
    split
    · exact ⟨_, rfl, s.badDoorbell_noQueueMoved p qid v 0x00⟩
    · next q hfound =>
      split
      · exact ⟨_, rfl, s.badDoorbell_noQueueMoved p qid v 0x01⟩
      · next hvalid =>
        rcases h with hstop | hnone | ⟨w, hw, hbad⟩
        · exact absurd hstop hruns
        · rw [hfound] at hnone; cases hnone
        · rw [hfound] at hw; cases hw; exact absurd hbad hvalid

/-! ### A side becomes DETACHED, and the commands that moved meet a fence (R248, R249, R260) -/

/-- The user's data but for the write buffer, whose slots a job leaves when it ends. -/
def State.stored (s : State) : AwlState × CodecState × MapState × BlkState × GirthState × DumpState × CipherState × SkiverState × McState × MediaState :=
  (s.awl, s.codec, s.map, s.blk, s.girth, s.dump, s.cipher, s.skv, s.mc, s.media)

theorem State.sameData_of_stored {s t : State} (h : t.stored = s.stored) : SameData { s with wb := t.wb } t := by
  simp only [State.stored, Prod.mk.injEq] at h
  obtain ⟨hawl, hcodec, hmap, hblk, hgirth, hdump, hcipher, hskv, hmc, hmedia⟩ := h
  exact ⟨hawl, hcodec, hmap, hblk, hgirth, rfl, hdump, hcipher, hskv, hmc, hmedia⟩

theorem State.dropJob_stored (s : State) (t : Nat) : (s.dropJob t).stored = s.stored := by
  have hslot : (s.jobLeavesSlot t).stored = s.stored := by
    unfold State.jobLeavesSlot
    split <;> rfl
  unfold State.dropJob
  dsimp only
  split <;> exact hslot
theorem State.finish_stored (s : State) (tag : Nat) (r : CmdResult) : (s.finish tag r).stored = s.stored := by simp [State.stored]

theorem State.dropJob_sqs (s : State) (t : Nat) : (s.dropJob t).fe.sqs = s.fe.sqs := (congrArg FeState.sqs (s.dropJob_rest t).1 :)
theorem State.finish_sqs (s : State) (tag : Nat) (r : CmdResult) : (s.finish tag r).fe.sqs = s.fe.sqs := congrArg Prod.fst (s.finish_queues tag r)

/-- A fence moves no submission queue, and of the user's data it can free slots of the write buffer alone. -/
theorem State.fenceRow_keeps (r : Rein) (s : State) (x : Nat × Cmd) : (State.fenceRow r s x).fe.sqs = s.fe.sqs ∧ (State.fenceRow r s x).stored = s.stored := by
  unfold State.fenceRow
  split
  · rw [State.finish_sqs, State.finish_stored]
    exact ⟨fold_left (fun s => s.fe.sqs) _ State.dropJob_sqs _ s, fold_left State.stored _ State.dropJob_stored _ s⟩
  · exact ⟨rfl, rfl⟩
theorem State.fenceMoved_keeps (s : State) (r : Rein) : (s.fenceMoved r).fe.sqs = s.fe.sqs ∧ (s.fenceMoved r).stored = s.stored := by
  unfold State.fenceMoved
  split
  · rw [State.endFenced_eq]
    exact ⟨fold_left (fun s => s.fe.sqs) _ (fun s x => (s.fenceRow_keeps r x).1) _ s, fold_left State.stored _ (fun s x => (s.fenceRow_keeps r x).2) _ s⟩
  · exact ⟨rfl, rfl⟩
theorem State.fenceMoved_of_free {s : State} {r : Rein} (h : (s.port r).fenced = false) : s.fenceMoved r = s := by simp [State.fenceMoved, h]

theorem State.moveCmd_sqs (s : State) (r : Rein) (tag : Nat) : (s.moveCmd r tag).fe.sqs = s.fe.sqs := by
  unfold State.moveCmd
  split
  · simp [State.modCmd]
  · rfl

theorem State.detachSide_sqs {s : State} {k : Nat} {r : Rein} {q : Sq} {x : SqSide} (reason : Nat) (hqueue : s.sq k = some q) (hside : q.side r = some x)
    (hattached : x.attached = true) : (s.detachSide k r reason).fe.sqs = Table.set s.fe.sqs k (q.setSide r (some { x with attached := false })) := by
  simp only [State.detachSide, hqueue, hside, hattached, if_true]
  rw [fold_left (fun s => s.fe.sqs) _ State.freeIfDone_sqs]
  refine Eq.trans (b := (ite _ _ _ : State).fe.sqs) rfl ?_
  split
  · rw [fold_left (fun s => s.fe.sqs) _ fun s t => s.moveCmd_sqs r.other t]
    simp [State.dropOwed, State.setSq]
  · simp [State.dropOwed, State.setSq]

/-- The lag of a side is judged (R248): twin mode, an I/O queue, a side that is ATTACHED and behind E, and no advance for LAG_TEETH teeth. -/
def State.lags (s : State) (qid : Nat) (q : Sq) (x : SqSide) : Prop :=
  s.twinMode = true ∧ qid ≠ 0 ∧ x.attached = true ∧ posLt x.fetch q.exec = true ∧ x.advanced + s.rein.twin.lagTeeth ≤ s.wheel.wt

theorem execTwinLagExpire_due {s : State} {ctrl qid : Nat} {r : Rein} {q : Sq} {x : SqSide} (hqueue : s.sq (ctrl * 131072 + qid) = some q) (hside : q.side r = some x)
    (h : s.lags qid q x) : execTwinLagExpire ctrl qid r s = .next ((s.detachSide (ctrl * 131072 + qid) r 1).fenceMoved r.other).settleFront := by
  unfold execTwinLagExpire
  simp only [hqueue, Option.bind_some, hside, Option.map_some]
  exact if_pos h
theorem execTwinLagExpire_idle {s : State} {ctrl qid : Nat} {r : Rein} (h : ∀ q x, s.sq (ctrl * 131072 + qid) = some q → q.side r = some x → ¬s.lags qid q x) :
    execTwinLagExpire ctrl qid r s = .next s := by
  unfold execTwinLagExpire
  dsimp only
  split
  · next q x hfound =>
    obtain ⟨w, hw, hpair⟩ := Option.bind_eq_some_iff.mp hfound
    obtain ⟨y, hy, heq⟩ := Option.map_eq_some_iff.mp hpair
    cases heq
    exact if_neg (h _ _ hw hy)
  · rfl

theorem State.not_lags {s : State} {qid : Nat} {q : Sq} {x : SqSide} (h : s.twinMode = false ∨ qid = 0 ∨ x.attached = false ∨ posLt x.fetch q.exec = false ∨
    s.wheel.wt < x.advanced + s.rein.twin.lagTeeth) : ¬s.lags qid q x := by
  rintro ⟨htwin, hqid, hattached, hbehind, hlag⟩
  rcases h with h | h | h | h | h
  · rw [htwin] at h; cases h
  · exact hqid h
  · rw [hattached] at h; cases h
  · rw [hbehind] at h; cases h
  · omega

/-- What a side's detachment leaves once the commands that moved have met a fence: the other queues and sides, the frame, and the user's data but for slots of the buffer. -/
theorem State.detached_keeps {s : State} {k : Nat} {r : Rein} {q : Sq} {x : SqSide} (hqueue : s.sq k = some q) (hside : q.side r = some x) (hattached : x.attached = true)
    {t : State} (ht : t = ((s.detachSide k r 1).fenceMoved r.other).settleFront) :
    t.sq k = some (q.setSide r (some { x with attached := false })) ∧ (∀ n, n ≠ k → t.sq n = s.sq n) ∧ SameFrame s t ∧ SameData { s with wb := t.wb } t ∧
      ((s.port r.other).fenced = false → t.wb = s.wb) := by
  obtain ⟨hfenceSqs, hfenceStored⟩ := (s.detachSide k r 1).fenceMoved_keeps r.other
  have hsqs : t.fe.sqs = Table.set s.fe.sqs k (q.setSide r (some { x with attached := false })) := by
    rw [ht, State.settleFront_sqs, hfenceSqs, State.detachSide_sqs 1 hqueue hside hattached]
  refine ⟨?_, fun n hn => ?_, ?_, State.sameData_of_stored ?_, fun hfree => ?_⟩
  · rw [State.sq, hsqs, Table.find_set_self]
  · rw [State.sq, hsqs, Table.find_set_ne _ _ _ _ hn, State.sq]
  · simp [ht, SameFrame]
  · have hsettle : ∀ u : State, u.settleFront.stored = u.stored := fun u => by simp [State.stored]
    rw [ht, hsettle, hfenceStored]
    simp [State.stored]
  · have hport : ((s.detachSide k r 1).port r.other).fenced = false := by simpa [State.port] using hfree
    rw [ht, State.fenceMoved_of_free hport]
    simp

/-! ### The obligation -/

/-- Settles O27: each doorbell by whether it is valid, and a lagging side by what its detachment leaves. -/
theorem doorbellsMoveTailAndHead : Obligations.DoorbellsMoveTailAndHead := by
  unfold Obligations.DoorbellsMoveTailAndHead
  refine ⟨?tailMoves, ?tailStays, ?headMoves, ?headStays, ?noFunction, ?lags, ?noLag⟩
  case tailMoves =>
    intro s p qid v q x hport hruns hqueue hside hattached hv hroom
    exact ⟨_, execSqTailDoorbell_valid hport hruns hqueue hside hattached hv hroom, State.setSq_sq _ _ _, fun n hn => State.setSq_sq_ne _ _ _ _ hn, rfl, rfl⟩
  case tailStays =>
    intro s p qid v hport hrefused
    obtain ⟨u, hexec, hstays⟩ := execSqTailDoorbell_refused hport hrefused
    exact ⟨_, hexec, hstays.settled⟩
  case headMoves =>
    intro s p qid v q hport hruns hqueue hv hused
    exact ⟨_, execCqHeadDoorbell_valid hport hruns hqueue hv hused, State.setCq_cq _ _ _, fun n hn => State.setCq_cq_ne _ _ _ _ hn, rfl, rfl⟩
  case headStays =>
    intro s p qid v hport hrefused
    obtain ⟨u, hexec, hqueues, hframe, hdata⟩ := execCqHeadDoorbell_refused hport hrefused
    exact ⟨u, hexec, congrArg Prod.snd hqueues, congrArg Prod.fst hqueues, hframe, hdata⟩
  case noFunction =>
    intro s p qid v hport
    exact ⟨if_pos (by simp [hport]), if_pos (by simp [hport])⟩
  case lags =>
    intro s ctrl qid r q x hqueue hside htwin hqid hattached hbehind hlag
    exact ⟨_, execTwinLagExpire_due hqueue hside ⟨htwin, hqid, hattached, hbehind, hlag⟩, State.detached_keeps hqueue hside hattached rfl⟩
  case noLag =>
    intro s ctrl qid r hnone
    exact execTwinLagExpire_idle fun q x hqueue hside => State.not_lags (hnone q x hqueue hside)

end Sys2Proof.Machine
end

section
/-! Queue creation and deletion (O29): where the table of commands lists one tag twice, a side's removal can end the Delete I/O Submission Queue itself with the status of
a fence (R245, R249, R260). -/
namespace Sys2Proof.Machine

/-! ### Posting keeps the status of a row until the row is free -/

/-- From one state to the other the row keeps its status, or leaves the table. -/
def State.StandsOrFreed (n : Nat) (s t : State) : Prop := t.resultOf n = s.resultOf n ∨ t.resultOf n = none

theorem State.StandsOrFreed.trans {n : Nat} {s t u : State} (h : State.StandsOrFreed n s t) (k : State.StandsOrFreed n t u) : State.StandsOrFreed n s u := by
  rcases k with hsame | hnone
  · rcases h with hstands | hfreed
    · exact .inl (hsame.trans hstands)
    · exact .inr (hsame.trans hfreed)
  · exact .inr hnone
theorem State.StandsOrFreed.foldl {n : Nat} {α : Type} {g : State → α → State} (h : ∀ s a, State.StandsOrFreed n s (g s a)) (l : List α) (s : State) :
    State.StandsOrFreed n s (l.foldl g s) := by
  induction l generalizing s with
  | nil => exact .inl rfl
  | cons a l ih => exact (h s a).trans (ih _)

theorem State.postSide_resultOf (s : State) (tag : Nat) (r : CmdResult) (o : Rein × Nat) (n : Nat) : (s.postSide tag r o).resultOf n = s.resultOf n := by
  have hposted : ∀ (u : State) (k : Nat) (q : Cq), u.resultOf n = s.resultOf n →
      (((u.setCq k q).modCmd tag fun c => { c with reserved := true, owed := c.owed.filter (· ≠ o) }).leasePosted tag).resultOf n = s.resultOf n := by
    intro u k q hu
    refine Eq.trans ?_ hu
    refine (State.modCmd_resultOf (u.setCq k q) tag n ?_ :)
    exact fun _ => rfl
  unfold State.postSide
  (repeat' split) <;> first | rfl | exact hposted _ _ _ rfl | exact hposted _ _ _ (by simp [State.resultOf])

theorem State.freeIfDone_standsOrFreed (s : State) (tag n : Nat) : State.StandsOrFreed n s (s.freeIfDone tag) := by
  have hdel : ∀ u : State, u.fe.cmds = Table.del s.fe.cmds tag → State.StandsOrFreed n s u := by
    intro u hu
    by_cases h : n = tag
    · right; simp [State.resultOf, State.cmd, hu, h]
    · left; simp [State.resultOf, State.cmd, hu, Table.find_del_ne _ _ _ h]
  unfold State.freeIfDone State.tunnelEnds
  (repeat' split) <;> first | exact .inl rfl | exact hdel _ rfl

theorem State.postCmd_standsOrFreed (s : State) (tag n : Nat) : State.StandsOrFreed n s (s.postCmd tag) := by
  unfold State.postCmd
  split
  · split
    · split
      · exact .inl rfl
      · refine .trans (.foldl (fun s o => .inl ?_) _ s) (State.freeIfDone_standsOrFreed _ tag n)
        exact s.postSide_resultOf _ _ o n
    · exact .inl rfl
  · exact s.freeIfDone_standsOrFreed tag n

theorem State.postMismatch_standsOrFreed (s : State) (m : Nat × Rein × BitVec 32 × CqEntry) (n : Nat) : State.StandsOrFreed n s (s.postMismatch m) := by
  unfold State.postMismatch
  (repeat' split) <;> exact .inl rfl

theorem State.postAll_standsOrFreed (s : State) (n : Nat) : State.StandsOrFreed n s s.postAll := by
  unfold State.postAll
  refine .trans ?_ (.foldl (fun s tag => s.postCmd_standsOrFreed tag n) _ _)
  split
  · exact .inl rfl
  · exact .foldl (fun s m => s.postMismatch_standsOrFreed m n) _ s

/-! ### A table of commands with one tag in two rows -/

/-- A Write of queue 1 that rein B executes. -/
def fencedWrite : Cmd :=
  { sq := 1, pos := 0, ctrl := 0, admin := false, port := ⟨.b, 0⟩, entry := 1, started := false, aborted := false, orphan := false, result := none,
    reserved := false, owed := [(.b, 9)], units := [], input := [], out := [], held := false }
/-- A Delete I/O Submission Queue of queue 1, from rein A's admin queue. -/
def deletesTwinQueue : Cmd :=
  { fencedWrite with sq := 0, admin := true, port := ⟨.a, 0⟩, entry := BitVec.ofNat 512 (2 ^ 320), owed := [(.a, 7)] }
def attachedSide : SqSide := { attached := true, tail := 1, fetch := 1, cq := 0, advanced := 0 }
def adminQueue : Sq := { ctrl := 0, qid := 0, admin := true, qsize := 16, prio := 0, exec := 1, sideA := some attachedSide, sideB := none, hashes := [] }
/-- Queue 1, with an ATTACHED side on each rein. -/
def twinQueue : Sq := { adminQueue with qid := 1, admin := false, sideB := some attachedSide }
/-- A completion queue with one free slot. -/
def oneSlotQueue : Cq := { size := 3, head := 0, tail := 1, entries := [], used := 1 }

/-- Rein B is fenced; tag 1 names the Delete first, and a Write of rein B too; all three rows complete to the queue with one slot. -/
def twiceRowed : State :=
  { State.reset with
    rein := { State.reset.rein with b := { State.reset.rein.b with fencedLease := true } }
    dump := { State.reset.dump with since := false }
    fe := { State.reset.fe with
      cmds := [(0, fencedWrite), (1, deletesTwinQueue), (1, fencedWrite)], sqs := [(0, adminQueue), (1, twinQueue)], cqs := [(0, oneSlotQueue)],
      ready := [], mismatches := [], stopped := false } }

theorem twiceRowed_atHand : AtHand twiceRowed 1 deletesTwinQueue adminQueue attachedSide oneSlotQueue 7 where
  row := rfl
  fresh := ⟨rfl, rfl, rfl⟩
  owes := rfl
  fetched := by decide
  queue := rfl
  side := rfl
  place := rfl
  room := by decide
  alone := ⟨rfl, rfl⟩
  runs := rfl
  awake := rfl
  queued := by decide

/-- What DELETE_IO_SQ does once its command has begun (R245). -/
def State.deleteSq (s : State) (tag : Nat) (c : Cmd) : State :=
  match s.sq (s.sqKey c.port (qcQid c)) with
  | some q => if qcQid c ≠ 0 ∧ (q.side c.port.rein).isSome then (s.removeSide (s.sqKey c.port (qcQid c)) c.port.rein q).finish tag ok else s.finish tag (stat 1 0x01)
  | none => s.finish tag (stat 1 0x01)

theorem exec_deleteIoSq (tag : Nat) (s : State) : exec (.deleteIoSq tag) s = .next (s.begin tag true 0x00 (fun _ => true) fun s c => s.deleteSq tag c) := rfl

/-- The state after the Delete. -/
def twiceRowedDeleted : State := twiceRowed.begin 1 true 0x00 (fun _ => true) fun s c => s.deleteSq 1 c

/-- The Write took the slot, and the row of the Delete waits for one with the fence's status. -/
theorem twiceRowedDeleted_resultOf : twiceRowedDeleted.resultOf 1 = some (some leaseFenced) := by decide +kernel

/-- Refutes O29: the statement takes every table of commands, not only one whose keys rise (`Table.wf`). Where a second row of the Delete's tag is a Write that moves to a fenced
rein, the fence ends the tag with 7:C2h, so that the success of the Delete comes too late. -/
theorem not_queuesAreCreatedAndDeleted : ¬ Obligations.QueuesAreCreatedAndDeleted := by
  unfold Obligations.QueuesAreCreatedAndDeleted
  intro h
  obtain ⟨-, -, -, hdelete, -⟩ := h _ _ _ _ _ _ _ twiceRowed_atHand
  obtain ⟨t, hexec, hcases⟩ := hdelete (by decide +kernel)
  obtain ⟨-, hside⟩ := hcases 1 (by decide +kernel)
  obtain ⟨⟨u, ht, d, hrow, hok⟩, -⟩ := hside twinQueue attachedSide (by decide +kernel) (by decide) rfl rfl
  have htwice : t = twiceRowedDeleted := Host.Outcome.next.inj (hexec.symm.trans (exec_deleteIoSq 1 twiceRowed))
  have hfenced : u.postAll.resultOf 1 = some (some leaseFenced) := by
    rw [← twiceRowedDeleted_resultOf, ← htwice, ht]; rfl
  have hsucceeded : u.resultOf 1 = some (some ok) := by rw [State.resultOf_of_cmd hrow, hok]
  rcases u.postAll_standsOrFreed 1 with hsame | hfreed
  · rw [hfenced, hsucceeded] at hsame
    exact absurd hsame (by decide)
  · rw [hfenced] at hfreed
    cases hfreed

end Sys2Proof.Machine
end

section
/-! Identify (O45, O46): every CNS answers its structure or its list, or ends with a status, and leaves the rest of the device (R262). -/
namespace Sys2Proof.Machine

/-! ### What a row's beginning leaves to Identify -/

@[simp] theorem State.modCmd_spaces (s : State) (tag : Nat) (f : Cmd → Cmd) : (s.modCmd tag f).spaces = s.spaces := rfl
@[simp] theorem State.modCmd_attachedSpace (s : State) (tag : Nat) (f : Cmd → Cmd) (ctrl nsid : Nat) :
    (s.modCmd tag f).attachedSpace ctrl nsid = s.attachedSpace ctrl nsid := rfl

section AtHand
variable {s : State} {tag cid : Nat} {c : Cmd} {q : Sq} {x : SqSide} {cq : Cq}

/-- An Identify at hand begins, and its meaning serves it. -/
theorem AtHand.identify (h : AtHand s tag c q x cq cid) (hw : c.waits true 0x06 = true) {cns : Nat} (hcns : idCns c = cns) {f : State → Cmd → State} {r : CmdResult}
    {data : List Byte} (hf : Served s (f (s.modCmd tag fun c => { c with started := true }) c).postAll.arrayPump tag q x cq cid r data) :
    Served s (s.identify tag cns f) tag q x cq cid r data :=
  h.begin_served hw (by simp [hcns]) hf

/-- A structure of 4,096 bytes is the answer. -/
theorem AtHand.giveIdentify (h : AtHand s tag c q x cq cid) (cns sel : Nat) (pg : Page) :
    Served s ((s.modCmd tag fun c => { c with started := true }).giveIdentify tag cns sel pg).postAll.arrayPump tag q x cq cid ok
      (pageOver (Config.identifyByte cns sel) pg 0 4096) :=
  h.served_answer _ (Begun.self s tag)
/-- A list, filled with zeros to 4,096 bytes, is the answer. -/
theorem AtHand.giveList (h : AtHand s tag c q x cq cid) (bs : List Byte) :
    Served s ((s.modCmd tag fun c => { c with started := true }).giveList tag bs).postAll.arrayPump tag q x cq cid ok (pageSlice [(0, bs)] 0 4096) :=
  h.served_answer _ (Begun.self s tag)
theorem AtHand.badNsid (h : AtHand s tag c q x cq cid) :
    Served s ((s.modCmd tag fun c => { c with started := true }).badNsid tag c).postAll.arrayPump tag q x cq cid (stat 0 0x0B) c.out :=
  h.served_malformed c _ (Begun.self s tag)
theorem AtHand.badField (h : AtHand s tag c q x cq cid) :
    Served s ((s.modCmd tag fun c => { c with started := true }).malformed tag c invalidField).postAll.arrayPump tag q x cq cid invalidField c.out :=
  h.served_malformed c _ (Begun.self s tag)

end AtHand

/-! ### The namespace's number in its structure (R262) -/

/-- The NSX is the structure's last part, and nothing is put over it. -/
theorem State.spacePage_nsx (s : State) (n : Namespace) (f : Nat → Byte) {i : Nat} (hi : i < 2) :
    (pageOver f (s.spacePage n) 0 4096)[3840 + i]? = (toBytes 2 n.nsx)[i]? := by
  have hlast : s.spacePage n = (commonSpacePage ++ [part 0 8 n.nsze, part 8 8 n.nsze, part 16 8 (min n.nsze (s.mappedOf n.nsx * n.perUnit)), part 26 1 n.flbas,
      part 29 1 n.piType]) ++ [part 3840 2 n.nsx] := by
    rw [List.append_assoc]; rfl
  rw [hlast]
  exact pageOver_last f _ 3840 (toBytes 2 n.nsx) 4096 i (by rwa [toBytes_length]) (by omega)

/-- Settles O45: the answer of each CNS by the namespace that the command names. -/
theorem identifyNamespaceCommandsAnswer : Obligations.IdentifyNamespaceCommandsAnswer := by
  unfold Obligations.IdentifyNamespaceCommandsAnswer
  intro s tag c q x cq cid h hw
  refine ⟨fun hcns => ⟨fun hall => ⟨_, rfl, h.identify hw hcns ?common⟩, fun hone n hn => ⟨_, rfl, h.identify hw hcns ?attached⟩,
      fun hone hn => ⟨_, rfl, h.identify hw hcns ?detached⟩⟩,
    fun hcns => ⟨fun hid => ⟨_, rfl, h.identify hw hcns ?active⟩, fun hid => ⟨_, rfl, h.identify hw hcns ?activeBad⟩⟩,
    fun hcns => ⟨fun hid => ⟨_, rfl, h.identify hw hcns ?allocated⟩, fun hid => ⟨_, rfl, h.identify hw hcns ?allocatedBad⟩⟩,
    fun hcns => ⟨fun n hn => ⟨_, rfl, h.identify hw hcns ?listed⟩, fun hn => ⟨_, rfl, h.identify hw hcns ?unlisted⟩⟩,
    fun hcns => ⟨fun hn => ⟨_, rfl, h.identify hw hcns ?descriptors⟩, fun hn => ⟨_, rfl, h.identify hw hcns ?noDescriptors⟩⟩,
    fun hcns => ⟨fun hcsi => ⟨_, rfl, h.identify hw hcns ?otherSet⟩, fun hcsi hn => ⟨_, rfl, h.identify hw hcns ?nvm⟩,
      fun hcsi hn => ⟨_, rfl, h.identify hw hcns ?noNvm⟩⟩,
    fun hcns => ⟨fun hn => ⟨_, rfl, h.identify hw hcns ?independent⟩, fun hn => ⟨_, rfl, h.identify hw hcns ?noIndependent⟩⟩,
    fun n _ f => ⟨s.spacePage_nsx n f (i := 0) (by omega), s.spacePage_nsx n f (i := 1) (by omega)⟩⟩
  case common => rw [if_pos hall]; exact h.giveIdentify _ _ _
  case attached => simp only [State.modCmd_attachedSpace, if_neg hone, hn]; exact h.giveIdentify _ _ _
  case detached => simp only [State.modCmd_attachedSpace, if_neg hone, hn]; exact h.badNsid
  case active => rw [if_neg (Nat.not_le.mpr hid)]; exact h.giveList _
  case activeBad => rw [if_pos hid]; exact h.badNsid
  case allocated => rw [if_neg (Nat.not_le.mpr hid)]; exact h.giveList _
  case allocatedBad => rw [if_pos hid]; exact h.badNsid
  case listed => simp only [State.modCmd_spaces, hn]; exact h.giveIdentify _ _ _
  case unlisted => simp only [State.modCmd_spaces, hn]; exact h.badNsid
  case descriptors =>
    obtain ⟨n, hn⟩ := Option.isSome_iff_exists.mp hn
    simp only [State.modCmd_attachedSpace, hn]; exact h.giveIdentify _ _ _
  case noDescriptors => simp only [State.modCmd_attachedSpace, hn]; exact h.badNsid
  case otherSet => rw [if_pos hcsi]; exact h.badField
  case nvm =>
    obtain ⟨n, hn⟩ := Option.isSome_iff_exists.mp hn
    simp only [State.modCmd_attachedSpace, if_neg (not_not.mpr hcsi), hn]; exact h.giveIdentify _ _ _
  case noNvm => simp only [State.modCmd_attachedSpace, if_neg (not_not.mpr hcsi), hn]; exact h.badNsid
  case independent =>
    obtain ⟨n, hn⟩ := Option.isSome_iff_exists.mp hn
    simp only [State.modCmd_attachedSpace, hn]; exact h.giveIdentify _ _ _
  case noIndependent => simp only [State.modCmd_attachedSpace, hn]; exact h.badNsid

/-! ### Controllers (R240, R262, R263) -/

/-- In halter mode NN is 0 (R263). -/
theorem State.controllerPage_nn {s : State} (h : s.ts.mode = 2) (ctrl : Nat) : part 516 4 0 ∈ s.controllerPage ctrl := by
  simp [State.controllerPage, h]

/-- Settles O46: the answer of each CNS, and of those that are not listed. -/
theorem identifyControllerCommandsAnswer : Obligations.IdentifyControllerCommandsAnswer := by
  unfold Obligations.IdentifyControllerCommandsAnswer
  intro s tag c q x cq cid h hw
  refine ⟨fun hcns => ⟨_, rfl, h.identify hw hcns (h.giveIdentify _ _ _)⟩, fun hmode => State.controllerPage_nn hmode _,
    fun hcns => ⟨fun hcsi => ⟨_, rfl, h.identify hw hcns ?otherSet⟩, fun hcsi => ⟨_, rfl, h.identify hw hcns ?nvm⟩⟩,
    fun hcns => ⟨fun n hn => ⟨_, rfl, h.identify hw hcns ?attached⟩, fun hn => ⟨_, rfl, h.identify hw hcns ?unlisted⟩⟩,
    fun hcns => ⟨_, rfl, h.identify hw hcns (h.giveList _)⟩, fun hcns => ⟨_, rfl, h.identify hw hcns (h.giveIdentify _ _ _)⟩,
    fun hcns => ⟨_, rfl, h.identify hw hcns (h.giveIdentify _ _ _)⟩, fun hcns => ⟨_, rfl, h.identify hw hcns (h.giveList _)⟩,
    fun hcns => ⟨_, rfl, h.begin_served hw ?notServed h.badField⟩⟩
  case otherSet => rw [if_pos hcsi]; exact h.badField
  case nvm => rw [if_neg (not_not.mpr hcsi)]; exact h.giveIdentify _ _ _
  case attached => simp only [State.modCmd_spaces, hn]; exact h.giveList _
  case unlisted => simp only [State.modCmd_spaces, hn]; exact h.badNsid
  case notServed => simpa [cnsServed] using hcns

end Sys2Proof.Machine
end

section
/-! Get Log Page of the standard pages (O47): each page at hand is answered by `State.giveFree` or `State.givePage`, and only the page's events are cleared (R269, R270). -/
namespace Sys2Proof.Machine

section AtHand
variable {s : State} {tag cid : Nat} {c : Cmd} {q : Sq} {x : SqSide} {cq : Cq}

/-- A page at hand whose other bytes are free; its length and its parts do not look at the command's row. -/
theorem AtHand.freePage (h : AtHand s tag c q x cq cid) {lid : Nat} (hw : c.waits true 0x02 = true) (hlid : logLid c = lid) {len : State → Cmd → Nat}
    {pg : State → Cmd → Page} (hlen : ∀ f, len (s.modCmd tag f) c = len s c) (hpg : ∀ f, pg (s.modCmd tag f) c = pg s c) :
    LogAnswered s (s.getLog tag lid (fun _ => true) fun s c => s.giveFree tag c (len s c) (pg s c)) tag c q x cq cid (len s c)
      (fun i => Config.logByte lid i s.free) (pg s c) := by
  rw [h.getLog hw hlid rfl, hlen, hpg]
  exact h.giveFree (Begun.self s tag) hlid rfl _ _

/-- A page at hand whose other bytes are 0. -/
theorem AtHand.zeroPage (h : AtHand s tag c q x cq cid) {lid : Nat} (hw : c.waits true 0x02 = true) (hlid : logLid c = lid) (len : Nat)
    {pg : State → Cmd → Page} (hpg : ∀ f, pg (s.modCmd tag f) c = pg s c) :
    LogAnswered s (s.getLog tag lid (fun _ => true) fun s c => s.givePage tag c len (pg s c)) tag c q x cq cid len (fun _ => 0#8) (pg s c) := by
  rw [h.getLog hw hlid rfl, hpg]
  exact h.givePage (Begun.self s tag) _ _

end AtHand

/-! ### The events of a page (R270) -/

theorem State.logRead_of_rae {s : State} {c : Cmd} (h : logRae c = true) : s.logRead c = s := if_pos h
theorem State.logRead_masked {s : State} {c : Cmd} (h : logRae c = false) (m : Nat × Rein × Nat) :
    m ∈ (s.logRead c).fe.masked ↔ m ∈ s.fe.masked ∧ ¬ (m.1 = c.ctrl ∧ m.2.2 = logLid c) := by
  simp [State.logRead, h, State.clearEvents, imp_iff_not_or]
theorem State.logRead_events {s : State} {c : Cmd} (h : logRae c = false) (e : Nat × Rein × Event) :
    e ∈ (s.logRead c).fe.events ↔ e ∈ s.fe.events ∧ ¬ (e.1 = c.ctrl ∧ e.2.2.page = logLid c) := by
  simp [State.logRead, h, State.clearEvents, imp_iff_not_or]

/-- Settles O47: every page by the form of its answer. -/
theorem standardLogPagesAreReturned : Obligations.StandardLogPagesAreReturned := by
  unfold Obligations.StandardLogPagesAreReturned
  intro s tag c q x cq cid h hw
  have free {lid : Nat} (hlid : logLid c = lid) {len : State → Cmd → Nat} {pg : State → Cmd → Page} := h.freePage hw hlid (len := len) (pg := pg)
  refine ⟨fun hlid => ⟨_, rfl, free hlid (fun _ => rfl) fun _ => rfl⟩, fun hlid => ⟨_, rfl, h.zeroPage hw hlid _ fun _ => rfl⟩,
    fun hlid => ⟨_, rfl, free hlid (fun _ => rfl) fun _ => rfl⟩, ?smart, fun hlid => ⟨_, rfl, h.zeroPage hw hlid _ fun _ => rfl⟩,
    fun hlid => ⟨_, rfl, free hlid (fun _ => rfl) fun _ => rfl⟩, fun hlid => ⟨_, rfl, free hlid (fun _ => rfl) fun _ => rfl⟩,
    fun hlid => ⟨_, rfl, free hlid (fun _ => rfl) fun _ => rfl⟩, fun hlid => ⟨_, rfl, free hlid (fun _ => rfl) fun _ => rfl⟩,
    fun hlid => ⟨_, rfl, free hlid (fun _ => rfl) fun _ => rfl⟩, fun hlid => ⟨_, rfl, free hlid (fun _ => rfl) fun _ => rfl⟩,
    fun hlid => ⟨_, rfl, free hlid (fun _ => rfl) fun _ => rfl⟩, fun hlid => ⟨_, rfl, free hlid (fun _ => rfl) fun _ => rfl⟩,
    fun hlid => ⟨_, rfl, free hlid (fun _ => rfl) fun _ => rfl⟩, fun hlid => ⟨_, rfl, h.begin_served hw ?notServed ?unsupported⟩,
    State.logRead_of_rae, State.logRead_masked, State.logRead_events⟩
  case smart => simp [State.smartPage, State.criticalWarning]
  case notServed => simpa [logServed] using hlid
  case unsupported => exact h.served_finish _ 0 (Begun.self s tag)

end Sys2Proof.Machine
end

section
/-! Get Features (O51): the value in force, the default, the saved value or the capabilities, by SEL, and nothing else changes (R262, R267, R268). -/
namespace Sys2Proof.Machine

/-- The lowest bits of a number. -/
theorem bitField_zero (x w : Nat) : bitField x 0 w = x % 2 ^ w := by simp [bitField]

section AtHand
variable {s v : State} {tag cid : Nat} {c : Cmd} {q : Sq} {x : SqSide} {cq : Cq}

/-! ### What each SEL answers -/

theorem AtHand.getDw0 (h : AtHand s tag c q x cq cid) (b : Begun s v tag) (current dflt : Nat) :
    Dw0Answered s (v.getDw0 tag c current dflt).postAll.arrayPump tag c q x cq cid current dflt 4 := by
  unfold Dw0Answered State.getDw0
  generalize getSel c = sel
  match sel with
  | 0 => exact h.served_finish _ 0 b
  | 1 => exact h.served_finish _ 0 b
  | 2 => exact h.served_finish _ 0 b
  | 3 => exact h.served_finish _ 0 b
  | _ + 4 => exact h.served_malformed c _ b

theorem AtHand.getBuffer (h : AtHand s tag c q x cq cid) (b : Begun s v tag) (current dflt saved : Nat) :
    BufferAnswered s (v.getBuffer tag c current dflt saved (featCaps true false true)).postAll.arrayPump tag c q x cq cid current dflt saved := by
  unfold BufferAnswered State.getBuffer
  generalize getSel c = sel
  match sel with
  | 0 => exact h.served_answer _ b
  | 1 => exact h.served_answer _ b
  | 2 => exact h.served_answer _ b
  | 3 => exact h.served_finish _ 0 b
  | _ + 4 => exact h.served_finish _ 0 b

/-! ### A Get Features at hand -/

theorem AtHand.getFeature (h : AtHand s tag c q x cq cid) (hw : c.waits true 0x0A = true) {fid : Nat} (hfid : featId c = fid) (f : State → Cmd → State) :
    s.getFeature tag fid f = (f (s.modCmd tag fun c => { c with started := true }) c).postAll.arrayPump :=
  h.begin hw (by simp [hfid])

/-- A standard feature, whose value does not look at the command's row. -/
theorem AtHand.dw0Feature (h : AtHand s tag c q x cq cid) (hw : c.waits true 0x0A = true) {fid : Nat} (hfid : featId c = fid) {current : State → Cmd → Nat} {dflt : Nat}
    (hcurrent : ∀ f, current (s.modCmd tag f) c = current s c) :
    Dw0Answered s (s.getFeature tag fid fun s c => s.getDw0 tag c (current s c) dflt) tag c q x cq cid (current s c) dflt 4 := by
  rw [h.getFeature hw hfid, hcurrent]
  exact h.getDw0 (Begun.self s tag) _ _

/-- A vendor feature, whose values do not look at the command's row. -/
theorem AtHand.bufferFeature (h : AtHand s tag c q x cq cid) (hw : c.waits true 0x0A = true) {fid : Nat} (hfid : featId c = fid) {current dflt saved : State → Nat}
    (hcurrent : ∀ f, current (s.modCmd tag f) = current s) (hdflt : ∀ f, dflt (s.modCmd tag f) = dflt s) (hsaved : ∀ f, saved (s.modCmd tag f) = saved s) :
    BufferAnswered s (s.getFeature tag fid fun s c => s.getBuffer tag c (current s) (dflt s) (saved s) (featCaps true false true)) tag c q x cq cid
      (current s) (dflt s) (saved s) := by
  rw [h.getFeature hw hfid, hcurrent, hdflt, hsaved]
  exact h.getBuffer (Begun.self s tag) _ _ _

/-! ### FDP events (R267) -/

/-- The two bytes of an event type: its number, and whether it is enabled for a handle. -/
def State.fdpDescriptor (s : State) (h e : Nat) : List Byte := toBytes 1 e ++ toBytes 1 (bit (s.fdpEnabled h e))

theorem AtHand.getFdpEvents (h : AtHand s tag c q x cq cid) (hw : c.waits true 0x0A = true) (hfid : featId c = 0x1E) : ∃ t, exec (.getFeaturesFdpEvents tag) s = .next t ∧
    (3 < getSel c → Served s t tag q x cq cid invalidField c.out) ∧ (getSel c = 3 → Served s t tag q x cq cid (okDw0 6) c.out) ∧
    (getSel c < 3 → s.fdpHandle c = none → Served s t tag q x cq cid invalidField c.out) ∧
    (getSel c = 0 → ∀ n, s.fdpHandle c = some n → Served s t tag q x cq cid (okDw0 (min (bitField (dw c.entry 11) 16 8) 5))
      ((fdpEventTypes.take (bitField (dw c.entry 11) 16 8)).flatMap (s.fdpDescriptor n))) := by
  have begun := Begun.self s tag
  have hhandle : (s.modCmd tag fun c => { c with started := true }).fdpHandle c = s.fdpHandle c := rfl
  refine ⟨_, rfl, ?_⟩
  rw [h.getFeature hw hfid]
  dsimp only
  rw [hhandle]
  refine ⟨fun hsel => ?reserved, fun hsel => ?caps, fun hsel hn => ?noHandle, fun hsel n hn => ?current⟩
  case reserved => rw [if_pos hsel]; exact h.served_malformed c _ begun
  case caps => rw [if_neg (by omega), if_pos hsel]; exact h.served_finish _ 0 begun
  case noHandle => rw [if_neg (by omega), if_neg (by omega), hn]; exact h.served_finish _ 0 begun
  case current =>
    rw [if_neg (by omega), if_neg (by omega), hn]
    have hlen : (fdpEventTypes.take (bitField (dw c.entry 11) 16 8)).length = min (bitField (dw c.entry 11) 16 8) 5 := by simp [fdpEventTypes]
    rw [← hlen]
    simp only [hsel, ↓reduceIte]
    exact ((h.opened begun).fill fun _ => (fdpEventTypes.take (bitField (dw c.entry 11) 16 8)).flatMap (s.fdpDescriptor n)).finish h _ 0

/-! ### The temperature thresholds (R385) -/

theorem AtHand.getTempThreshold (h : AtHand s tag c q x cq cid) (hw : c.waits true 0x0A = true) (hfid : featId c = 0x04) :
    ∃ t, exec (.getFeaturesTempThreshold tag) s = .next t ∧
      (8 < tmpSel c ∨ 1 < thSel c → Served s t tag q x cq cid invalidField c.out) ∧
      (tmpSel c ≤ 8 → thSel c = 0 → Dw0Answered s t tag c q x cq cid (s.overOf (tmpSel c)) s.wctemp 4) ∧
      (tmpSel c ≤ 8 → thSel c = 1 → Dw0Answered s t tag c q x cq cid (s.underOf (tmpSel c)) 273 4) := by
  have begun := Begun.self s tag
  refine ⟨_, rfl, ?_⟩
  rw [h.begin hw (by simp [hfid])]
  refine ⟨fun hbad => ?refused, fun hsensor hth => ?overTemp, fun hsensor hth => ?underTemp⟩
  case refused =>
    rw [if_pos (by omega)]
    exact h.served_malformed c _ begun
  all_goals
    unfold Dw0Answered
    rw [hth]
    generalize getSel c = sel
    match sel with
    | 0 => rw [if_neg (by omega)]; exact h.served_finish _ 0 begun
    | 1 => rw [if_neg (by omega)]; exact h.served_finish _ 0 begun
    | 2 => rw [if_neg (by omega)]; exact h.served_finish _ 0 begun
    | 3 => rw [if_neg (by omega)]; exact h.served_finish _ 0 begun
    | n + 4 => rw [if_pos (by omega)]; exact h.served_malformed c _ begun

/-! ### Identifiers that are not served -/

/-- A command that has been answered has no row for a second meaning to begin on. -/
theorem Answered.begin_eq {t : State} {r : CmdResult} {data : List Byte} (a : Answered t tag q x cq cid r data) (admin : Bool) (opc : Nat) (sel : Cmd → Bool)
    (f : State → Cmd → State) : t.begin tag admin opc sel f = t := by
  obtain ⟨hrow, -⟩ := a
  simp [State.begin, hrow]

theorem AtHand.begin_of_other_opcode (h : AtHand s tag c q x cq cid) {admin : Bool} {opc other : Nat} (hw : c.waits admin opc = true) (hother : opc ≠ other)
    (sel : Cmd → Bool) (f : State → Cmd → State) : s.begin tag admin other sel f = s := by
  obtain ⟨-, -, -, hopc⟩ := Cmd.waits_eq hw
  simp [State.begin, h.row, Cmd.waits, hopc, hother]

theorem AtHand.unsupportedGet (h : AtHand s tag c q x cq cid) (hw : c.waits true 0x0A = true)
    (hbad : (if featId c = 0xC6 then !cipherServed false (cipherOp c) else !featureServed (featId c)) = true) :
    ∃ t, exec (.featuresUnsupportedId tag) s = .next t ∧ Served s t tag q x cq cid invalidField c.out := by
  refine ⟨_, rfl, ?_⟩
  rw [h.begin_of_other_opcode hw (by decide)]
  exact h.begin_served hw hbad (h.served_malformed c _ (Begun.self s tag))

theorem AtHand.unsupportedSet (h : AtHand s tag c q x cq cid) (hw : c.waits true 0x09 = true)
    (hbad : (if featId c = 0xC6 then !cipherServed true (cipherOp c) else !featureServed (featId c)) = true) :
    ∃ t, exec (.featuresUnsupportedId tag) s = .next t ∧ Served s t tag q x cq cid invalidField c.out := by
  have served := h.begin_served (sel := fun c => if featId c = 0xC6 then !cipherServed true (cipherOp c) else !featureServed (featId c))
    (f := fun s c => s.malformed tag c invalidField) hw hbad (h.served_malformed c _ (Begun.self s tag))
  refine ⟨_, rfl, ?_⟩
  rw [served.1.begin_eq]
  exact served

end AtHand

/-- The power state that the host selected: the one asked for during PS 4, or the one in force (R278). -/
theorem execGetFeaturesPowerMgmt_eq (tag : Nat) (s : State) :
    exec (.getFeaturesPowerMgmt tag) s = .next (s.getFeature tag 0x02 fun s c => s.getDw0 tag c (s.fe.ps4Next.getD s.fe.ps) 0) := by
  refine congrArg (fun f => Host.Outcome.next (s.getFeature tag 0x02 f)) ?_
  funext s c
  cases s.fe.ps4Next <;> rfl

/-- Settles O51: each identifier by the form of its answer, and the identifiers that are not served. -/
theorem getFeaturesAnswersTheSettings : Obligations.GetFeaturesAnswersTheSettings := by
  unfold Obligations.GetFeaturesAnswersTheSettings
  intro s tag c q x cq cid h
  refine ⟨fun hw => ?gets, fun hw hbad => h.unsupportedSet hw ?setNotServed⟩
  case setNotServed =>
    by_cases hcipher : featId c = 0xC6
    · simpa [hcipher, cipherServed] using hbad
    · simpa [hcipher, featureServed] using hbad
  case gets =>
    have dw0 {fid : Nat} (hfid : featId c = fid) {current : State → Cmd → Nat} {dflt : Nat} := h.dw0Feature hw hfid (current := current) (dflt := dflt)
    have buffer {fid : Nat} (hfid : featId c = fid) {current dflt saved : State → Nat} :=
      h.bufferFeature hw hfid (current := current) (dflt := dflt) (saved := saved)
    refine ⟨fun hfid => ⟨_, rfl, dw0 hfid fun _ => rfl⟩, fun hfid => ⟨_, execGetFeaturesPowerMgmt_eq tag s, dw0 hfid fun _ => rfl⟩,
      fun hfid => ⟨_, rfl, dw0 hfid fun _ => rfl⟩, fun hfid => ⟨_, rfl, dw0 hfid fun _ => rfl⟩, fun hfid => ⟨_, rfl, ?vector⟩,
      fun hfid => ⟨_, rfl, dw0 hfid fun _ => rfl⟩, fun hfid => ⟨_, rfl, dw0 hfid fun _ => rfl⟩, fun hfid => h.getFdpEvents hw hfid,
      fun hfid => h.getTempThreshold hw hfid, fun hfid => ⟨_, _, rfl, rfl, buffer hfid (fun _ => rfl) (fun _ => rfl) fun _ => rfl⟩,
      fun hfid => ⟨_, _, rfl, rfl, buffer hfid (fun _ => rfl) (fun _ => rfl) fun _ => rfl⟩,
      fun hfid => ⟨_, _, rfl, rfl, buffer hfid (fun _ => rfl) (fun _ => rfl) fun _ => rfl⟩, fun hfid => ?counter,
      fun hfid => ⟨_, rfl, buffer hfid (fun _ => rfl) (fun _ => rfl) fun _ => rfl⟩,
      fun hfid => ⟨_, _, rfl, rfl, buffer hfid (fun _ => rfl) (fun _ => rfl) fun _ => rfl⟩, fun hbad => h.unsupportedGet hw ?getNotServed⟩
    case vector =>
      rw [← show bitField (dw c.entry 11) 0 16 = dw c.entry 11 % 65536 from bitField_zero _ _]
      exact dw0 hfid fun _ => rfl
    case counter =>
      refine ⟨_, _, _, rfl, rfl, rfl, ?_⟩
      rw [h.getFeature hw hfid]
      split
      case isTrue hclean =>
        rw [if_neg (by simp [counterClean, hclean])]
        exact h.getBuffer (Begun.self s tag) _ _ _
      case isFalse hclean =>
        rw [if_pos (by simp [counterClean, hclean])]
        exact h.served_malformed c _ (Begun.self s tag)
    case getNotServed =>
      by_cases hcipher : featId c = 0xC6
      · simpa [hcipher, cipherServed] using hbad
      · simpa [hcipher, featureServed] using hbad

end Sys2Proof.Machine
end

section
/-! Set Features of the standard identifiers (O49): the setting that each takes (R267, R241, R144, R385), and the entry to PS 4 and the return from it (R277 to R279). -/
namespace Sys2Proof.Machine

/-! ### A setting is taken -/

/-- What a command at hand looks at: the rows, the queues, the completions due, and whether the front end and posting run. -/
def State.desk (s : State) : Table Cmd × Table Sq × Table Cq × List Nat × List (Nat × Rein × BitVec 32 × CqEntry) × Bool × Bool :=
  (s.fe.cmds, s.fe.sqs, s.fe.cqs, s.fe.ready, s.fe.mismatches, s.fe.stopped, s.dump.since)

section AtHand
variable {s u : State} {tag cid : Nat} {c : Cmd} {q : Sq} {x : SqSide} {cq : Cq}

theorem AtHand.of_desk (h : AtHand s tag c q x cq cid) (hdesk : u.desk = s.desk) : AtHand u tag c q x cq cid := by
  simp only [State.desk, Prod.mk.injEq] at hdesk
  obtain ⟨hcmds, hsqs, hcqs, hready, hmismatches, hstopped, hsince⟩ := hdesk
  exact ⟨by rw [State.cmd, hcmds]; exact h.row, h.fresh, h.owes, h.fetched, by rw [State.sq, hsqs]; exact h.queue, h.side, by rw [State.cq, hcqs]; exact h.place,
    h.room, by rw [hready, hmismatches]; exact h.alone, by rw [hstopped]; exact h.runs, by rw [hsince]; exact h.awake, h.queued⟩

/-- A Set Features at hand puts the device into `u`, and ends from a state in which nothing else has changed but its row. -/
theorem AtHand.setEnds (h : AtHand s tag c q x cq cid) (hw : c.waits true 0x09 = true) {sel : Cmd → Bool} (hs : sel c = true) {f : State → Cmd → State} {v : State}
    {r : CmdResult} {code : Nat} (hdesk : u.desk = s.desk) (b : Begun u v tag)
    (hf : f (s.modCmd tag fun c => { c with started := true }) c = v.finishCode tag r code) : Served u (s.begin tag true 0x09 sel f) tag q x cq cid r c.out := by
  rw [h.begin hw hs, hf]
  exact (h.of_desk hdesk).served_finish r code b

/-- A Set Features at hand puts the device into `u`, and ends. -/
theorem AtHand.takes (h : AtHand s tag c q x cq cid) (hw : c.waits true 0x09 = true) {sel : Cmd → Bool} (hs : sel c = true) {f : State → Cmd → State} {r : CmdResult}
    (hdesk : u.desk = s.desk)
    (hf : f (s.modCmd tag fun c => { c with started := true }) c = (u.modCmd tag fun c => { c with started := true }).finish tag r) :
    Served u (s.begin tag true 0x09 sel f) tag q x cq cid r c.out :=
  h.setEnds hw hs hdesk (Begun.self u tag) hf

/-- A Set Features at hand of one identifier. -/
theorem AtHand.setFeature (h : AtHand s tag c q x cq cid) (hw : c.waits true 0x09 = true) {fid : Nat} (hfid : featId c = fid) {f : State → Cmd → State} {r : CmdResult}
    (hdesk : u.desk = s.desk)
    (hf : f (s.modCmd tag fun c => { c with started := true }) c = (u.modCmd tag fun c => { c with started := true }).finish tag r) :
    Served u (s.setFeature tag fid f) tag q x cq cid r c.out :=
  h.takes hw (by simp [hfid]) hdesk hf

/-- A Set Features at hand that is refused as malformed. -/
theorem AtHand.refusesSet (h : AtHand s tag c q x cq cid) (hw : c.waits true 0x09 = true) {sel : Cmd → Bool} (hs : sel c = true) {f : State → Cmd → State}
    (hf : f (s.modCmd tag fun c => { c with started := true }) c = (s.modCmd tag fun c => { c with started := true }).malformed tag c invalidField) :
    Served s (s.begin tag true 0x09 sel f) tag q x cq cid invalidField c.out := by
  rw [h.begin hw hs, hf]
  exact h.served_malformed c _ (Begun.self s tag)

end AtHand

/-! ### Power states (R278, R279) -/

/-- The power states of the front end. -/
def State.setPower (s : State) (ps last : Nat) (next : Option Nat) : State := { s with fe := { s.fe with ps := ps, lastPs := last, ps4Next := next } }

/-- PS 0 to 3 is in force at once; during PS 4 entry it waits for the entry's end, and after it for the return. -/
def State.selectPs (s : State) (p : Nat) : State :=
  s.setPower (if s.fe.ps4 = 0 then p else s.fe.ps) (if s.fe.ps4 = 1 then s.fe.lastPs else p)
    (if s.fe.ps4 = 0 then s.fe.ps4Next else if s.fe.ps4 = 1 then some p else none)

theorem execSetFeaturesPsOperational_eq (tag : Nat) (s : State) :
    exec (.setFeaturesPsOperational tag) s = .next (s.begin tag true 0x09 (fun c => decide (featId c = 0x02) && decide (psOf11 c ≠ 4)) fun s c =>
      if 4 < psOf11 c then s.malformed tag c invalidField else (s.selectPs (psOf11 c)).finish tag ok) := by
  refine congrArg (fun f => Host.Outcome.next (s.begin tag true 0x09 _ f)) ?_
  funext s c
  refine if_congr Iff.rfl rfl (congrArg (fun s => State.finish s tag ok) ?_)
  unfold State.selectPs
  split
  case h_1 h => simp [h, State.setPower]
  case h_2 h => simp [h, State.setPower]
  case h_3 h0 h1 => simp only [if_neg h0, if_neg h1]; rfl

section AtHand
variable {s u : State} {tag cid : Nat} {c : Cmd} {q : Sq} {x : SqSide} {cq : Cq}

theorem AtHand.setPsOperational (h : AtHand s tag c q x cq cid) (hw : c.waits true 0x09 = true) (hfid : featId c = 0x02) (hps : psOf11 c < 4) :
    ∃ t, exec (.setFeaturesPsOperational tag) s = .next t ∧ Served (s.selectPs (psOf11 c)) t tag q x cq cid ok c.out :=
  ⟨_, execSetFeaturesPsOperational_eq tag s, h.takes hw (by simp [hfid]; omega) rfl (if_neg (by omega))⟩

theorem AtHand.refusesPs (h : AtHand s tag c q x cq cid) (hw : c.waits true 0x09 = true) (hfid : featId c = 0x02) (hps : 4 < psOf11 c) :
    ∃ t, exec (.setFeaturesPsOperational tag) s = .next t ∧ Served s t tag q x cq cid invalidField c.out :=
  ⟨_, execSetFeaturesPsOperational_eq tag s, h.refusesSet hw (by simp [hfid]; omega) (if_pos hps)⟩

/-- PS 4 asked for: its entry begins, or follows the return. -/
theorem AtHand.setPs4 (h : AtHand s tag c q x cq cid) (hw : c.waits true 0x09 = true) (hfid : featId c = 0x02) (hps : psOf11 c = 4) :
    ∃ t, exec (.setFeaturesPs4 tag) s = .next t ∧
      (s.fe.ps4 = 0 → Served { s with fe := { s.fe with lastPs := if s.fe.ps = 4 then s.fe.lastPs else s.fe.ps, ps := 4, ps4 := 1, ps4Exit := false, ps4Next := none } } t
        tag q x cq cid ok c.out) ∧
      (s.fe.ps4 ≠ 0 → Served { s with fe := { s.fe with ps4Next := some 4 } } t tag q x cq cid ok c.out) := by
  have hsel : (decide (featId c = 0x02) && decide (psOf11 c = 4)) = true := by simp [hfid, hps]
  exact ⟨_, rfl, fun hout => h.setEnds hw hsel rfl ((Begun.self _ tag).leave 0x0B08 [4]) (congrArg (fun s => State.finish s tag ok) (if_pos hout)),
    fun hin => h.takes hw hsel rfl (congrArg (fun s => State.finish s tag ok) (if_neg hin))⟩

/-! ### The number of queues (R241) -/

theorem dw_lt (e : BitVec 512) (n : Nat) : dw e n < 4294967296 := Nat.mod_lt _ (by decide)

/-- The queues granted to a controller. -/
def Ctrl.granted (k : Ctrl) (sq cq : Nat) : Ctrl := { k with grantSq := sq, grantCq := cq }

theorem Ctrl.granted_dw0 (k : Ctrl) {sq cq : Nat} (hsq : sq ≤ 256) (hcq : cq ≤ 256) : queuesDw0 (k.granted sq cq) = (sq - 1) + 65536 * (cq - 1) := by
  simp only [queuesDw0, Ctrl.granted, packFields, fld]
  omega

theorem AtHand.setNumQueues (h : AtHand s tag c q x cq cid) (hw : c.waits true 0x09 = true) (hfid : featId c = 0x07) :
    ∃ t sq gc, exec (.setFeaturesNumQueues tag) s = .next t ∧
      sq = min (dw c.entry 11 % 65536 + 1) (min 256 (s.freeSqs + (s.ctrl c.ctrl).grantSq)) ∧
      gc = min (dw c.entry 11 / 65536 + 1) (min 256 (s.freeCqs + (s.ctrl c.ctrl).grantCq)) ∧
      Served (s.modCtrl c.ctrl fun k => { k with grantSq := sq, grantCq := gc }) t tag q x cq cid (okDw0 ((sq - 1) + 65536 * (gc - 1))) c.out := by
  have hlow : bitField (dw c.entry 11) 0 16 = dw c.entry 11 % 65536 := bitField_zero _ _
  have hhigh : bitField (dw c.entry 11) 16 16 = dw c.entry 11 / 65536 := Nat.mod_eq_of_lt (by have := dw_lt c.entry 11; omega)
  refine ⟨_, _, _, rfl, rfl, rfl, h.setFeature hw hfid rfl ?_⟩
  have hlimit : ∀ n k : Nat, min n (min 256 k) ≤ 256 := fun n k => (Nat.min_le_right _ _).trans (Nat.min_le_left _ _)
  rw [← (s.ctrl c.ctrl).granted_dw0 (hlimit _ _) (hlimit _ _)]
  simp only [hlow, hhigh]
  refine congrArg (fun k => State.finish _ tag (okDw0 (queuesDw0 k))) ?_
  exact State.modCtrl_ctrl _ c.ctrl fun k => k.granted _ _

/-! ### Flexible data placement (R144, R267) -/

theorem AtHand.setFdp (h : AtHand s tag c q x cq cid) (hw : c.waits true 0x09 = true) (hfid : featId c = 0x1D) : ∃ t, exec (.setFeaturesFdp tag) s = .next t ∧
    if bitField (dw c.entry 12) 8 8 ≠ 0 then Served s t tag q x cq cid invalidField c.out
    else Served { s with map := { s.map with fdp := decide (dw c.entry 12 % 2 = 1) } } t tag q x cq cid ok c.out := by
  refine ⟨_, rfl, ?_⟩
  split
  case isTrue hconfig => exact h.refusesSet hw (by simp [hfid]) (if_pos hconfig)
  case isFalse hconfig =>
    rw [← show bitField (dw c.entry 12) 0 1 = dw c.entry 12 % 2 from bitField_zero _ _]
    exact h.setFeature hw hfid rfl (if_neg hconfig)

end AtHand

/-- The event types of a list are set for a handle. -/
def State.setFdpEvents (s : State) (h v : Nat) (ts : List Nat) : State := ts.foldl (fun s t => s.setFeat 0x1E 0 (256 * h + t) v) s

theorem State.setFeat_feat_at (s : State) (fid ctrl n v m : Nat) : (s.setFeat fid ctrl n v).feat fid ctrl m = if m = n then v else s.feat fid ctrl m := by
  by_cases h : m = n
  · rw [if_pos h, h]; exact Table.getD_set_self _ _ _ _
  · rw [if_neg h]; exact Table.getD_set_ne _ _ _ _ _ fun hkey => h (Nat.add_left_cancel hkey)

theorem State.setFdpEvents_feat (s : State) (h v : Nat) (ts : List Nat) (n : Nat) :
    (s.setFdpEvents h v ts).feat 0x1E 0 (256 * h + n) = if n ∈ ts then v else s.feat 0x1E 0 (256 * h + n) := by
  induction ts generalizing s with
  | nil => rfl
  | cons t ts ih =>
    have hrest : (s.setFdpEvents h v (t :: ts)).feat 0x1E 0 (256 * h + n) = ((s.setFeat 0x1E 0 (256 * h + t) v).setFdpEvents h v ts).feat 0x1E 0 (256 * h + n) := rfl
    rw [hrest, ih, State.setFeat_feat_at]
    simp only [Nat.add_left_cancel_iff, List.mem_cons]
    split <;> simp_all

/-- Nothing but the features' values changes. -/
theorem State.setFdpEvents_rest (s : State) (h v : Nat) (ts : List Nat) :
    { s.setFdpEvents h v ts with fe := { (s.setFdpEvents h v ts).fe with features := s.fe.features } } = s := by
  have hset : ∀ (u : State) (t : Nat), ({ u.setFeat 0x1E 0 (256 * h + t) v with
      fe := { (u.setFeat 0x1E 0 (256 * h + t) v).fe with features := s.fe.features } } : State) = { u with fe := { u.fe with features := s.fe.features } } :=
    fun _ _ => rfl
  exact fold_left (fun u : State => ({ u with fe := { u.fe with features := s.fe.features } } : State)) _ hset ts s
theorem State.setFdpEvents_desk (s : State) (h v : Nat) (ts : List Nat) : (s.setFdpEvents h v ts).desk = s.desk :=
  fold_left State.desk (fun s t => s.setFeat 0x1E 0 (256 * h + t) v) (fun _ _ => rfl) ts s
theorem State.setFdpEvents_modCmd (s : State) (tag : Nat) (f : Cmd → Cmd) (h v : Nat) (ts : List Nat) :
    (s.modCmd tag f).setFdpEvents h v ts = (s.setFdpEvents h v ts).modCmd tag f := by
  induction ts generalizing s with
  | nil => rfl
  | cons t ts ih => exact ih (s.setFeat 0x1E 0 (256 * h + t) v)

/-- The event types that a buffer of bytes names. -/
theorem mem_map_toNat (l : List Byte) (n : Nat) : n ∈ l.map (·.toNat) ↔ BitVec.ofNat 8 n ∈ l ∧ n < 256 := by
  constructor
  · rintro hn
    obtain ⟨b, hb, rfl⟩ := List.mem_map.mp hn
    exact ⟨by simpa using hb, b.isLt⟩
  · rintro ⟨hb, hn⟩
    exact List.mem_map.mpr ⟨_, hb, by simpa using hn⟩

section AtHand
variable {s u : State} {tag cid : Nat} {c : Cmd} {q : Sq} {x : SqSide} {cq : Cq}

theorem AtHand.setFdpEvents (h : AtHand s tag c q x cq cid) (hw : c.waits true 0x09 = true) (hfid : featId c = 0x1E) {types : List Byte} {n : Nat}
    (hn : s.fdpHandle c = some n) (hlen : bitField (dw c.entry 11) 16 8 ≤ types.length)
    (hlisted : ∀ b ∈ types.take (bitField (dw c.entry 11) 16 8), b.toNat ∈ [0x00, 0x02, 0x03, 0x80, 0x81]) :
    ∃ t, exec (.setFeaturesFdpEvents tag types) s = .next t ∧
      Served (s.setFdpEvents n (dw c.entry 12 % 2) ((types.take (bitField (dw c.entry 11) 16 8)).map (·.toNat))) t tag q x cq cid ok c.out := by
  have hhandle : (s.modCmd tag fun c => { c with started := true }).fdpHandle c = s.fdpHandle c := rfl
  have hfits : ¬(((types.take (bitField (dw c.entry 11) 16 8)).map (·.toNat)).length < bitField (dw c.entry 11) 16 8 ∨
      ((types.take (bitField (dw c.entry 11) 16 8)).map (·.toNat)).any (fun t => !fdpEventTypes.contains t) = true) := by
    rintro (hshort | hother)
    · simp only [List.length_map, List.length_take, Nat.min_eq_left hlen, lt_irrefl] at hshort
    · obtain ⟨t, ht, hno⟩ := List.any_eq_true.mp hother
      obtain ⟨b, hb, rfl⟩ := List.mem_map.mp ht
      have hin : fdpEventTypes.contains b.toNat = true := List.contains_iff_mem.mpr (hlisted b hb)
      simp only [hin, Bool.not_true, Bool.false_eq_true] at hno
  refine ⟨_, rfl, h.setFeature hw hfid (s.setFdpEvents_desk _ _ _) ?_⟩
  simp only [hhandle, hn, if_neg hfits]
  rw [← State.setFdpEvents_modCmd, ← show bitField (dw c.entry 12) 0 1 = dw c.entry 12 % 2 from bitField_zero _ _]
  rfl

/-! ### The temperature thresholds (R385) -/

end AtHand

theorem State.tempCheck_therm (s : State) : s.tempCheck.therm = { s.therm with tempWarn := s.tempWarning } := by
  unfold State.tempCheck
  dsimp only
  split
  · simp
  · rfl
/-- Where the warning bit stands, the check changes nothing and raises no event. -/
theorem State.tempCheck_of_same {s : State} (h : s.tempWarning = s.therm.tempWarn) : s.tempCheck = s := by
  unfold State.tempCheck
  simp only [h, Bool.and_not_self, Bool.false_eq_true, if_false]

/-- The thresholds with one of a sensor set, over (THSEL 0) or under. -/
def State.setThreshold (s : State) (under : Bool) (n v : Nat) : State :=
  if under then { s with therm := { s.therm with underTemp := Table.set s.therm.underTemp n v } }
  else { s with therm := { s.therm with overTemp := Table.set s.therm.overTemp n v } }

section AtHand
variable {s u : State} {tag cid : Nat} {c : Cmd} {q : Sq} {x : SqSide} {cq : Cq}

/-- A Set Features at hand puts the thresholds as they stand in `u`, and the warning bit is checked. -/
theorem AtHand.checksTemp (h : AtHand s tag c q x cq cid) (hw : c.waits true 0x09 = true) {sel : Cmd → Bool} (hs : sel c = true) {f : State → Cmd → State}
    (hdesk : u.desk = s.desk)
    (hf : f (s.modCmd tag fun c => { c with started := true }) c = (u.modCmd tag fun c => { c with started := true }).tempCheck.finish tag ok) :
    (s.begin tag true 0x09 sel f).therm = { u.therm with tempWarn := u.tempWarning } ∧
      (u.tempWarning = u.therm.tempWarn → Served u (s.begin tag true 0x09 sel f) tag q x cq cid ok c.out) := by
  refine ⟨?_, fun hsame => h.takes hw hs hdesk (hf.trans ?_)⟩
  · rw [h.begin hw hs, hf]
    refine Eq.trans ?_ (State.tempCheck_therm (u.modCmd tag fun c => { c with started := true }))
    simp
  · exact congrArg (fun s => State.finish s tag ok) (State.tempCheck_of_same (s := u.modCmd tag fun c => { c with started := true }) hsame)

theorem AtHand.setTempThreshold (h : AtHand s tag c q x cq cid) (hw : c.waits true 0x09 = true) (hfid : featId c = 0x04) {under : Bool} (hsensor : tmpSel c ≤ 8)
    (hth : thSel c = if under then 1 else 0) : ∃ t, exec (.setFeaturesTempThreshold tag) s = .next t ∧
      t.therm = { (s.setThreshold under (tmpSel c) (dw c.entry 11 % 65536)).therm with tempWarn := (s.setThreshold under (tmpSel c) (dw c.entry 11 % 65536)).tempWarning } ∧
      ((s.setThreshold under (tmpSel c) (dw c.entry 11 % 65536)).tempWarning = s.therm.tempWarn →
        Served (s.setThreshold under (tmpSel c) (dw c.entry 11 % 65536)) t tag q x cq cid ok c.out) := by
  have hlow : bitField (dw c.entry 11) 0 16 = dw c.entry 11 % 65536 := bitField_zero _ _
  have hvalid : ¬((8 < tmpSel c ∧ tmpSel c ≠ 15) ∨ 1 < thSel c) := by split at hth <;> omega
  have hone : (if tmpSel c = 15 then List.range 9 else [tmpSel c]) = [tmpSel c] := if_neg (by omega)
  refine ⟨_, rfl, ?_⟩
  cases under with
  | false =>
    refine h.checksTemp (u := s.setThreshold false _ _) hw (by simp [hfid]) rfl ?_
    refine (if_neg hvalid).trans ?_
    simp only [hone, hth, hlow]
    rfl
  | true =>
    refine h.checksTemp (u := s.setThreshold true _ _) hw (by simp [hfid]) rfl ?_
    refine (if_neg hvalid).trans ?_
    simp only [hone, hth, hlow]
    rfl

theorem AtHand.refusesTempThreshold (h : AtHand s tag c q x cq cid) (hw : c.waits true 0x09 = true) (hfid : featId c = 0x04)
    (hbad : (8 < tmpSel c ∧ tmpSel c ≠ 15) ∨ 1 < thSel c) : ∃ t, exec (.setFeaturesTempThreshold tag) s = .next t ∧ Served s t tag q x cq cid invalidField c.out :=
  ⟨_, rfl, h.refusesSet hw (by simp [hfid]) (if_pos hbad)⟩

end AtHand

/-! ### The end of PS 4 entry, and the return (R277, R279) -/

theorem State.sleepLinks_eq (s : State) : s.sleepLinks = { s with rein := s.sleepLinks.rein } := by
  unfold State.sleepLinks; split <;> rfl
theorem State.sleepLinks_others (s : State) : { s.sleepLinks.rein with a := s.rein.a, b := s.rein.b } = s.rein := by
  unfold State.sleepLinks; split <;> rfl
theorem State.sleepLinks_port (s : State) (r : Rein) : s.sleepLinks.port r =
    if s.img.psL1 4 = true ∧ (s.port r).link = 2 ∧ (s.port r).aspmL1 = true then { s.port r with link := 3 } else s.port r := by
  unfold State.sleepLinks
  by_cases hallowed : s.img.psL1 4 = true
  · rw [if_pos hallowed]
    simp only [hallowed, true_and]
    cases r <;> rfl
  · rw [if_neg hallowed, if_neg fun hlink => hallowed hlink.1]

theorem State.wakeLinks_port (s : State) (r : Rein) : s.wakeLinks.port r = { s.port r with link := if (s.port r).link = 3 then 2 else (s.port r).link } := by
  have hwake : ∀ p : ReinPort, p.wake = { p with link := if p.link = 3 then 2 else p.link } := by
    intro p
    unfold ReinPort.wake
    split <;> rfl
  cases r <;> exact hwake _

/-- The state that a request during entry leads to. -/
def FeState.ps4Entered (f : FeState) : FeState :=
  match f.ps4Next with
  | some p => if p = 4 then { f with ps4 := 2 } else { f with ps4 := 2, ps := p, lastPs := p, ps4Next := none }
  | none => { f with ps4 := 2 }

theorem execPs4EntryEnd_due {s : State} (hentry : s.fe.ps4 = 1) (hplan : s.plan.ps = 4) (hnone : s.plan.pendingNo = none) :
    execPs4EntryEnd s = .next { s.sleepLinks with fe := s.fe.ps4Entered } := by
  have hfe : s.sleepLinks.fe = s.fe := by rw [State.sleepLinks_eq]
  unfold execPs4EntryEnd FeState.ps4Entered
  rw [if_pos ⟨hentry, hplan, by rw [hnone]; rfl⟩]
  cases hnext : s.fe.ps4Next with
  | none => simp only [hfe, hnext]
  | some p => by_cases hp : p = 4 <;> simp only [hfe, hnext, hp, if_true, if_false]

/-- The power states of the front end: the one in force, the last operational one, where PS 4 stands, whether a return is due, and the state asked for. -/
def FeState.power (f : FeState) : Nat × Nat × Nat × Bool × Option Nat := (f.ps, f.lastPs, f.ps4, f.ps4Exit, f.ps4Next)

theorem State.countCompleted_power (s : State) (c : Cmd) : (s.countCompleted c).fe.power = s.fe.power := by
  unfold State.countCompleted State.smartCount
  (repeat' split) <;> rfl
theorem State.postSide_power (s : State) (tag : Nat) (r : CmdResult) (o : Rein × Nat) : (s.postSide tag r o).fe.power = s.fe.power := by
  have hcounted : ∀ c : Cmd, (if c.reserved then s else s.countCompleted c).fe.power = s.fe.power := fun c => by
    split
    · rfl
    · exact s.countCompleted_power c
  unfold State.postSide
  split
  · rfl
  · split
    · rfl
    · split
      · rfl
      · split
        · rfl
        · split
          · exact hcounted _
          · rfl
theorem State.freeIfDone_power (s : State) (tag : Nat) : (s.freeIfDone tag).fe.power = s.fe.power := by
  unfold State.freeIfDone State.tunnelEnds
  (repeat' split) <;> rfl
theorem State.postCmd_power (s : State) (tag : Nat) : (s.postCmd tag).fe.power = s.fe.power := by
  unfold State.postCmd
  split
  · split
    · split
      · rfl
      · exact (State.freeIfDone_power _ _).trans (fold_left (fun s => s.fe.power) _ (fun s o => s.postSide_power tag _ o) _ s)
    · rfl
  · exact s.freeIfDone_power tag
theorem State.postMismatch_power (s : State) (m : Nat × Rein × BitVec 32 × CqEntry) : (s.postMismatch m).fe.power = s.fe.power := by
  unfold State.postMismatch
  (repeat' split) <;> rfl
theorem State.postAll_power (s : State) : s.postAll.fe.power = s.fe.power := by
  refine (fold_left (fun s => s.fe.power) _ State.postCmd_power _ _).trans ?_
  split
  · rfl
  · exact fold_left (fun s => s.fe.power) _ State.postMismatch_power _ s
/-- Posting what can be posted leaves the power states. -/
theorem State.settleFront_power (s : State) : s.settleFront.fe.power = s.fe.power :=
  (State.postAll_power _).trans (fold_left (fun s => s.fe.power) _ (fun s _ => congrArg FeState.power (s.leave_fe _ _ _)) _ _)

/-- The return from PS 4: the last operational state is in force, the held completions may be posted, and the links leave L1. -/
def State.ps4Returned (s : State) : State :=
  (({ s with fe := { s.fe with ps := s.fe.lastPs, ps4 := 0, ps4Exit := false, ps4Next := none,
                               cmds := s.fe.cmds.map fun (t, c) => (t, { c with held := false }) } } : State).wakeLinks).leave 0x0B08 0 [s.fe.lastPs]

theorem execPs4ExitDone_due {s : State} (hin : s.fe.ps4 = 2) (hexit : s.fe.ps4Exit = true) :
    execPs4ExitDone s = .next (if s.fe.ps4Next = some 4 then s.ps4Returned.enterPs4 else s.ps4Returned).settleFront.leasesDue := by
  unfold execPs4ExitDone
  rw [if_pos ⟨hin, hexit⟩]
  simp only [decide_eq_true_eq]
  rfl

theorem State.ps4Returned_power (s : State) : s.ps4Returned.fe.power = (s.fe.lastPs, s.fe.lastPs, 0, false, none) := by
  rw [State.ps4Returned, State.leave_fe]; rfl
theorem State.enterPs4_power (s : State) : s.enterPs4.fe.power = (4, if s.fe.ps = 4 then s.fe.lastPs else s.fe.ps, 1, false, none) := by
  rw [State.enterPs4, State.leave_fe]; rfl

/-- Of the frame only the reins may differ, and they as the links' wake says. -/
def State.Wakes (s t : State) : Prop :=
  SameFrame { s with rein := t.rein } t ∧ SameData s t ∧ ∀ r, t.port r = { s.port r with link := if (s.port r).link = 3 then 2 else (s.port r).link }

theorem State.ps4Returned_wakes (s : State) : s.Wakes s.ps4Returned := by
  refine ⟨by simp [SameFrame, State.ps4Returned, State.wakeLinks], by simp [SameData, State.ps4Returned, State.wakeLinks], fun r => ?_⟩
  have hrein : s.ps4Returned.rein = s.wakeLinks.rein := by simp only [State.ps4Returned, State.leave_kept]; rfl
  rw [State.port, hrein]
  exact s.wakeLinks_port r

theorem State.Wakes.of_same {s t u : State} (h : s.Wakes t) (hframe : SameFrame t u) (hdata : SameData t u) : s.Wakes u := by
  obtain ⟨hwakes, hsame, hport⟩ := h
  obtain ⟨-, -, -, hrein, -⟩ := id hframe
  refine ⟨?_, hsame.trans hdata, fun r => by rw [State.port, hrein]; exact hport r⟩
  rw [hrein]
  exact hwakes.trans hframe

/-- Settles O49: the setting of each identifier, and the two ends of PS 4. -/
theorem setFeaturesOfStandardIdentifiers : Obligations.SetFeaturesOfStandardIdentifiers := by
  unfold Obligations.SetFeaturesOfStandardIdentifiers
  refine ⟨fun s tag c q x cq cid h hw => ?sets, fun s hentry hplan hnone => ?entry, fun s hin hexit => ?exit⟩
  case sets =>
    have hvector (n : Nat) : bitField (dw c.entry 11) 0 n = dw c.entry 11 % 2 ^ n := bitField_zero _ n
    refine ⟨fun hfid => ⟨_, rfl, h.setFeature hw hfid rfl rfl⟩, fun hfid => ⟨_, rfl, ?coalescing⟩, fun hfid => ⟨_, rfl, ?vector⟩,
      fun hfid => ⟨_, rfl, h.setFeature hw hfid rfl rfl⟩, fun hfid hps => ?operational, fun hfid hps => h.refusesPs hw hfid hps, fun hfid hps hout => ?enters,
      fun hfid hps hin => ?again, fun hfid => h.setNumQueues hw hfid, fun hfid => h.setFdp hw hfid, fun hfid types hvalid => ?events, fun hfid types hn => ⟨_, rfl, ?noHandle⟩,
      fun hfid hbad => h.refusesTempThreshold hw hfid hbad, fun hfid hsensor hth => ?overTemp, fun hfid hsensor hth => ?underTemp⟩
    case coalescing => rw [← show _ = dw c.entry 11 % 65536 from hvector 16]; exact h.setFeature hw hfid rfl rfl
    case vector =>
      rw [← show _ = dw c.entry 11 % 65536 from hvector 16, ← show _ = dw c.entry 11 % 131072 from hvector 17]
      exact h.setFeature hw hfid rfl rfl
    case operational =>
      obtain ⟨t, hexec, served⟩ := h.setPsOperational hw hfid hps
      refine ⟨t, hexec, _, _, _, served, fun hout => ?_, fun hentry => ?_, fun hin => ?_⟩
      · simp [hout]
      · simp [hentry]
      · rw [if_neg (by omega), if_neg (by omega), if_neg (by omega), if_neg (by omega)]; exact ⟨rfl, rfl, rfl⟩
    case enters =>
      obtain ⟨t, hexec, henters, -⟩ := h.setPs4 hw hfid hps
      exact ⟨t, hexec, henters hout⟩
    case again =>
      obtain ⟨t, hexec, -, hagain⟩ := h.setPs4 hw hfid hps
      exact ⟨t, hexec, hagain hin⟩
    case events =>
      obtain ⟨⟨n, hn⟩, hlen, hlisted⟩ := exists_and_right.mp hvalid
      obtain ⟨t, hexec, served⟩ := h.setFdpEvents hw hfid hn hlen hlisted
      refine ⟨t, n, _, hexec, hn, served, s.setFdpEvents_rest _ _ _, fun m => ?_⟩
      simp only [State.setFdpEvents_feat, mem_map_toNat]
    case noHandle => exact h.setFeature hw hfid rfl (by simp only [show (s.modCmd tag fun c => { c with started := true }).fdpHandle c = none from hn])
    case overTemp =>
      obtain ⟨t, hexec, htherm, hserved⟩ := h.setTempThreshold hw hfid (under := false) hsensor hth
      exact ⟨t, s.setThreshold false _ _, hexec, rfl, htherm, hserved⟩
    case underTemp =>
      obtain ⟨t, hexec, htherm, hserved⟩ := h.setTempThreshold hw hfid (under := true) hsensor hth
      exact ⟨t, s.setThreshold true _ _, hexec, rfl, htherm, hserved⟩
  case entry =>
    refine ⟨_, execPs4EntryEnd_due hentry hplan hnone, ?_, s.sleepLinks_others, s.sleepLinks_port⟩
    rw [State.sleepLinks_eq]; rfl
  case exit =>
    by_cases hagain : s.fe.ps4Next = some 4
    · obtain ⟨hframe, hdata, hport⟩ := (s.ps4Returned_wakes.of_same (by simp [SameFrame]) (by simp [SameData]) : s.Wakes s.ps4Returned.enterPs4.settleFront)
      have hpower := s.ps4Returned.enterPs4.settleFront_power.trans s.ps4Returned.enterPs4_power
      simp only [FeState.power, Prod.mk.injEq] at hpower
      obtain ⟨hps, -, hps4, hdue, hnext⟩ := hpower
      exact ⟨_, (execPs4ExitDone_due hin hexit).trans (by rw [if_pos hagain]), hframe, hdata, hdue, hport, fun hother => absurd hagain hother, fun _ => ⟨hps4, hps, hnext⟩⟩
    · obtain ⟨hframe, hdata, hport⟩ := (s.ps4Returned_wakes.of_same (by simp [SameFrame]) (by simp [SameData]) : s.Wakes s.ps4Returned.settleFront)
      have hpower := s.ps4Returned.settleFront_power.trans s.ps4Returned_power
      simp only [FeState.power, Prod.mk.injEq] at hpower
      obtain ⟨hps, -, hps4, hdue, hnext⟩ := hpower
      exact ⟨_, (execPs4ExitDone_due hin hexit).trans (by rw [if_neg hagain]), hframe, hdata, hdue, hport, fun _ => ⟨hps4, hps, hnext⟩, fun hsame => absurd hsame hagain⟩

end Sys2Proof.Machine
end

section
/-! Set Features of the vendor identifiers (O50): a buffer with a field out of range is refused, a setting is taken, and with SV 1 the command waits for its FEATURE
record (R268, R415). -/
namespace Sys2Proof.Machine

/-! ### A setting is taken and saved (R37, R268, R415) -/

section AtHand
variable {s u : State} {tag cid : Nat} {c : Cmd} {q : Sq} {x : SqSide} {cq : Cq}

/-- While its record is on its way to the array, no completion is due. -/
theorem AtHand.postAll_awaitSave (h : AtHand u tag c q x cq cid) (f : Cmd → Cmd) (r : Region) (rec : TsRec) (key : Nat) :
    (((u.modCmd tag f).writeRec r rec).awaitSave key tag).postAll = ((u.modCmd tag f).writeRec r rec).awaitSave key tag :=
  State.postAll_idle h.alone.1 h.alone.2

theorem AtHand.saves (h : AtHand u tag c q x cq cid) (fid sel : Nat) (buf : BitVec 256) :
    FeatureTaken u ((u.modCmd tag fun c => { c with started := true }).saveFeature tag c fid sel buf).postAll.arrayPump tag c q x cq cid fid sel buf := by
  unfold FeatureTaken State.saveFeature
  split
  case isTrue =>
    rw [h.postAll_awaitSave]
    exact ⟨by simp [SameFrame, State.awaitSave, State.writeRec], by simp [SameData, State.awaitSave, State.writeRec], h.started, rfl, rfl, rfl⟩
  case isFalse => exact h.served_finish ok 0 (Begun.self u tag)

theorem AtHand.saves_obs (h : AtHand u tag c q x cq cid) (ha : c.admin = true) (fid sel : Nat) (buf : BitVec 256) :
    ((u.modCmd tag fun c => { c with started := true }).saveFeature tag c fid sel buf).postAll.arrayPump.obs = u.obs := by
  unfold State.saveFeature
  split
  case isTrue => rw [h.postAll_awaitSave]; rfl
  case isFalse => exact h.finish_obs ha ok 0 (Begun.self u tag)

theorem AtHand.setFeature_eq (h : AtHand s tag c q x cq cid) (hw : c.waits true 0x09 = true) {fid : Nat} (hfid : featId c = fid) {f : State → Cmd → State} {v : State}
    (hf : f (s.modCmd tag fun c => { c with started := true }) c = v) : s.setFeature tag fid f = v.postAll.arrayPump := by
  rw [State.setFeature, h.begin hw (by simp [hfid]), hf]

/-- A Set Features at hand of one identifier that puts the device into `u` and saves its buffer. -/
theorem AtHand.setsAndSaves (h : AtHand s tag c q x cq cid) (hw : c.waits true 0x09 = true) {fid sel : Nat} {buf : BitVec 256} (hfid : featId c = fid)
    {f : State → Cmd → State} (hdesk : u.desk = s.desk)
    (hf : f (s.modCmd tag fun c => { c with started := true }) c = (u.modCmd tag fun c => { c with started := true }).saveFeature tag c fid sel buf) :
    FeatureTaken u (s.setFeature tag fid f) tag c q x cq cid fid sel buf := by
  rw [h.setFeature_eq hw hfid hf]
  exact (h.of_desk hdesk).saves fid sel buf

theorem AtHand.refusesBuffer (h : AtHand s tag c q x cq cid) (hw : c.waits true 0x09 = true) {fid : Nat} (hfid : featId c = fid) {f : State → Cmd → State}
    (hf : f (s.modCmd tag fun c => { c with started := true }) c = (s.modCmd tag fun c => { c with started := true }).malformed tag c invalidField) :
    Served s (s.setFeature tag fid f) tag q x cq cid invalidField c.out :=
  h.refusesSet hw (by simp [hfid]) hf

end AtHand

/-! ### C0h: the wheel's configuration (R37, R38, R41, R76) -/

theorem State.setWheel_cfgSet (s : State) (w : WheelCfg) (arm : Bool) : (s.setWheel w arm).wheel.cfgSet = w := by
  unfold State.setWheel WheelState.cfgSet
  dsimp only
  split
  case isTrue hnow => exact hnow.symm
  case isFalse => rfl

/-- The wheel is in a mode in which REF_SECOND may not be armed from the crystal (R41). -/
abbrev State.armRefused (s : State) (arm : Bool) : Prop := arm = true ∧ s.wheel.cfg.source = 0 ∧ (s.wheel.mode = .free ∨ s.wheel.mode = .holdover)

/-- What a new TOOTH_CYCLES fails of R76. -/
def State.wheelFails (s : State) (w : WheelCfg) : Option (Nat × Nat) :=
  if w.toothCycles = s.wheel.cfgSet.toothCycles then none else s.toothFail w.toothCycles

@[simp] theorem State.modCmd_wheelFails (s : State) (tag : Nat) (f : Cmd → Cmd) (w : WheelCfg) : (s.modCmd tag f).wheelFails w = s.wheelFails w := rfl

/-- What a buffer whose fields are in range comes to. -/
def State.takeWheel (s : State) (tag : Nat) (c : Cmd) (w : WheelCfg) (buf : BitVec 256) : State :=
  match s.wheelFails w with
  | some (inv, pos) => (s.leave 0x0303 2 [pos, inv]).finish tag (stat 7 0xC9)
  | none => (s.setWheel w (refArmOf buf.toNat)).saveFeature tag c 0xC0 0 buf

theorem execSetFeaturesWheelCfg_eq (tag : Nat) (buf : BitVec 256) (s : State) :
    exec (.setFeaturesWheelCfg tag buf) s = .next (s.setFeature tag 0xC0 fun s c =>
      if !(wheelCfgOf buf.toNat).inRange then s.malformed tag c invalidField
      else if s.armRefused (refArmOf buf.toNat) then s.finish tag (stat 7 0xC6) else s.takeWheel tag c (wheelCfgOf buf.toNat) buf) := rfl

section AtHand
variable {s u : State} {tag cid : Nat} {c : Cmd} {q : Sq} {x : SqSide} {cq : Cq}

theorem AtHand.setWheelCfg (h : AtHand s tag c q x cq cid) (hw : c.waits true 0x09 = true) (hfid : featId c = 0xC0) (buf : BitVec 256) :
    ∃ t, exec (.setFeaturesWheelCfg tag buf) s = .next t ∧
      ((wheelCfgOf buf.toNat).inRange = false → Served s t tag q x cq cid invalidField c.out) ∧
      ((wheelCfgOf buf.toNat).inRange = true → s.armRefused (refArmOf buf.toNat) → Served s t tag q x cq cid (stat 7 0xC6) c.out) ∧
      ((wheelCfgOf buf.toNat).inRange = true → ¬ s.armRefused (refArmOf buf.toNat) → s.wheelFails (wheelCfgOf buf.toNat) = none →
        FeatureTaken (s.setWheel (wheelCfgOf buf.toNat) (refArmOf buf.toNat)) t tag c q x cq cid 0xC0 0 buf) ∧
      ((wheelCfgOf buf.toNat).inRange = true → ¬ s.armRefused (refArmOf buf.toNat) → (s.wheelFails (wheelCfgOf buf.toNat)).isSome →
        Answered t tag q x cq cid (stat 7 0xC9) c.out ∧ SameFrame s t ∧ SameData s t) := by
  refine ⟨_, execSetFeaturesWheelCfg_eq tag buf s, fun hrange => ?outOfRange, fun hrange harm => ?armed, fun hrange harm hpass => ?taken,
    fun hrange harm hfails => ?fails⟩
  case outOfRange => exact h.refusesBuffer hw hfid (if_pos (by simp [hrange]))
  case armed => exact h.setFeature hw hfid rfl ((if_neg (by simp [hrange])).trans (if_pos harm))
  case taken =>
    refine h.setsAndSaves hw hfid rfl ((if_neg (by simp [hrange])).trans ((if_neg harm).trans ?_))
    simp only [State.takeWheel, State.modCmd_wheelFails, hpass]
    rfl
  case fails =>
    obtain ⟨⟨inv, pos⟩, hfails⟩ := Option.isSome_iff_exists.mp hfails
    have htake : (s.modCmd tag fun c => { c with started := true }).takeWheel tag c (wheelCfgOf buf.toNat) buf =
        ((s.modCmd tag fun c => { c with started := true }).leave 0x0303 2 [pos, inv]).finish tag (stat 7 0xC9) := by
      simp only [State.takeWheel, State.modCmd_wheelFails, hfails]
    rw [h.setFeature_eq hw hfid ((if_neg (by simp [hrange])).trans ((if_neg harm).trans htake))]
    exact ⟨h.finish _ 0 (State.leave_fe _ _ _ _) (by simpa using h.awake), by simp [SameFrame], by simp [SameData]⟩

end AtHand

theorem State.wheelFails_of_same {s : State} {w : WheelCfg} (h : w.toothCycles = s.wheel.cfgSet.toothCycles ∨ s.toothFail w.toothCycles = none) :
    s.wheelFails w = none := by
  unfold State.wheelFails
  split
  case isTrue => rfl
  case isFalse hnew => exact h.resolve_left hnew
theorem State.wheelFails_of_new {s : State} {w : WheelCfg} (h : w.toothCycles ≠ s.wheel.cfgSet.toothCycles) : s.wheelFails w = s.toothFail w.toothCycles := if_neg h

/-! ### C1h: the twin rein (R242, R258) -/

/-- TWIN_CFG as a buffer sets it. -/
def State.setTwin (s : State) (buf : BitVec 256) : State := { s with rein := { s.rein with twin := s.rein.twin.set buf.toNat } }
/-- The lease fences of both reins follow. -/
def State.leaseFences (s : State) : State := (s.leaseFence .a).leaseFence .b

theorem State.leaseFences_fenced (s : State) (r : Rein) : (s.leaseFences.port r).fencedLease = (s.rein.twin.enforce && !(s.port r).leaseLive) := by
  obtain ⟨hb, htwin⟩ := s.leaseFence_others .a
  have hb : (s.leaseFence .a).port .b = s.port .b := hb
  cases r with
  | a =>
    have ha : s.leaseFences.port .a = (s.leaseFence .a).port .a := ((s.leaseFence .a).leaseFence_others .b).1
    rw [ha, State.leaseFence_port]
  | b => rw [State.leaseFences, State.leaseFence_port, htwin, hb]
theorem State.leaseFences_twin (s : State) : s.leaseFences.rein.twin = s.rein.twin :=
  ((s.leaseFence .a).leaseFence_others .b).2.trans (s.leaseFence_others .a).2

/-- Fences that stand as the leases say stay as they are. -/
theorem State.leaseFences_of_same {s : State} (h : ∀ r, (s.port r).fencedLease = (s.rein.twin.enforce && !(s.port r).leaseLive)) : s.leaseFences = s := by
  have hsame : ∀ r, s.leaseFence r = s := fun r => if_pos (h r).symm
  rw [State.leaseFences, hsame, hsame]

@[simp] theorem State.saveFeature_rein (s : State) (tag : Nat) (c : Cmd) (fid sel : Nat) (buf : BitVec 256) : (s.saveFeature tag c fid sel buf).rein = s.rein := by
  unfold State.saveFeature
  split
  · rfl
  · simp

/-- The configuration drops an enforced lease, or changes its slot. -/
abbrev TwinCfg.drops (old new : TwinCfg) : Prop := old.enforce = true ∧ (new.enforce = false ∨ new.slot ≠ old.slot)

section AtHand
variable {s u : State} {tag cid : Nat} {c : Cmd} {q : Sq} {x : SqSide} {cq : Cq}

theorem AtHand.setTwinRein (h : AtHand s tag c q x cq cid) (hw : c.waits true 0x09 = true) (hfid : featId c = 0xC1) (buf : BitVec 256) :
    ∃ t, exec (.setFeaturesTwinRein tag buf) s = .next t ∧
      ((s.rein.twin.set buf.toNat).inRange = false → Served s t tag q x cq cid invalidField c.out) ∧
      ((s.rein.twin.set buf.toNat).inRange = true → s.rein.twin.drops (s.rein.twin.set buf.toNat) →
        Served s t tag q x cq cid { stat 7 0xC2 with dnr := true } c.out) ∧
      ((s.rein.twin.set buf.toNat).inRange = true → ¬ s.rein.twin.drops (s.rein.twin.set buf.toNat) →
        t.rein.twin = s.rein.twin.set buf.toNat ∧
        (∀ r, (t.port r).fencedLease = ((s.rein.twin.set buf.toNat).enforce && !(s.port r).leaseLive)) ∧
        ((∀ r, (s.port r).fencedLease = ((s.rein.twin.set buf.toNat).enforce && !(s.port r).leaseLive)) →
          FeatureTaken (s.setTwin buf) t tag c q x cq cid 0xC1 0 buf)) := by
  have hdrops (new old : TwinCfg) : (old.enforce = true ∧ ((!new.enforce) = true ∨ new.slot ≠ old.slot)) ↔ old.drops new := by simp [TwinCfg.drops]
  refine ⟨_, rfl, fun hrange => ?outOfRange, fun hrange hdrop => ?dropped, fun hrange hkeep => ?taken⟩
  case outOfRange => exact h.refusesBuffer hw hfid (if_pos (by simp [hrange]))
  case dropped => exact h.setFeature hw hfid rfl ((if_neg (by simp [hrange])).trans (if_pos ((hdrops _ _).mpr hdrop)))
  case taken =>
    rw [h.setFeature_eq hw hfid (v := (((s.modCmd tag fun c => { c with started := true }).setTwin buf).leaseFences).saveFeature tag c 0xC1 0 buf)
      ((if_neg (by simp [hrange])).trans (if_neg (mt (hdrops _ _).mp hkeep)))]
    have hrein (w : State) : (w.saveFeature tag c 0xC1 0 buf).postAll.arrayPump.rein = w.rein := by simp
    refine ⟨?_, fun r => ?_, fun hstand => ?_⟩
    · rw [hrein, State.leaseFences_twin]; rfl
    · rw [State.port, hrein]; exact State.leaseFences_fenced _ r
    · rw [State.leaseFences_of_same hstand]
      exact (h.of_desk (u := s.setTwin buf) rfl).saves _ _ _

end AtHand

/-! ### C3h: the selection of a counter (R393, R394) -/

/-- The selection of a counter applies. -/
def State.selectCounter (s : State) (i : Nat) (buf : BitVec 256) : State :=
  { s with obs := { s.obs with counters := updAt s.obs.counters i fun k => k.select (counterOf buf.toNat) (counterClearOf buf.toNat) } }

/-- Saving neither looks at the counters nor changes them. -/
theorem State.saveFeature_selectCounter (s : State) (tag : Nat) (c : Cmd) (fid sel i : Nat) (buf : BitVec 256) :
    (s.saveFeature tag c fid sel buf).selectCounter i buf = (s.selectCounter i buf).saveFeature tag c fid sel buf := by
  have hrow : (s.selectCounter i buf).cmd tag = s.cmd tag := rfl
  unfold State.saveFeature State.finish State.finishCode
  rw [hrow]
  split
  · rfl
  · cases s.cmd tag with
    | none => rfl
    | some d =>
      dsimp only
      split <;> rfl

section AtHand
variable {s u : State} {tag cid : Nat} {c : Cmd} {q : Sq} {x : SqSide} {cq : Cq}

/-- An answer does not look at the counters. -/
theorem Served.of_selectCounter {i : Nat} {buf : BitVec 256} {r : CmdResult} {data : List Byte} (h : Served (s.selectCounter i buf) u tag q x cq cid r data) :
    Served s u tag q x cq cid r data := by
  obtain ⟨hanswered, hframe, hdata, ⟨hrows, hqueues, hrest, hleases⟩, hpkg, hfault⟩ := h
  exact ⟨hanswered, hframe, hdata, ⟨hrows, hqueues, hrest, hleases⟩, hpkg, hfault⟩
theorem FeatureTaken.of_selectCounter {i fid sel : Nat} {buf : BitVec 256} (h : FeatureTaken (s.selectCounter i buf) u tag c q x cq cid fid sel buf) :
    FeatureTaken s u tag c q x cq cid fid sel buf := by
  unfold FeatureTaken at h ⊢
  split at h
  case isTrue hsave => rw [if_pos hsave]; exact h
  case isFalse hsave => rw [if_neg hsave]; exact h.of_selectCounter

theorem AtHand.setCounterSelect (h : AtHand s tag c q x cq cid) (hw : c.waits true 0x09 = true) (hfid : featId c = 0xC3) (buf : BitVec 256) :
    ∃ t, exec (.setFeaturesCounterSelect tag buf) s = .next t ∧
      if bitField (dw c.entry 11) 6 26 = 0 ∧ (counterOf buf.toNat).inRange = true then
        FeatureTaken s t tag c q x cq cid 0xC3 (bitField (dw c.entry 11) 0 6) buf ∧
        t.obs.counters = updAt s.obs.counters (bitField (dw c.entry 11) 0 6) fun k => k.select (counterOf buf.toNat) (counterClearOf buf.toNat)
      else Served s t tag q x cq cid invalidField c.out := by
  have hadmin : c.admin = true := (Cmd.waits_eq hw).2.2.1
  refine ⟨_, rfl, ?_⟩
  split
  case isTrue hvalid =>
    obtain ⟨hclean, hrange⟩ := hvalid
    have atHand : AtHand (s.selectCounter (counterNo c) buf) tag c q x cq cid := h.of_desk rfl
    rw [h.setFeature_eq hw hfid ((if_neg (by simp [counterClean, hclean, hrange])).trans (State.saveFeature_selectCounter _ tag c 0xC3 _ _ buf))]
    exact ⟨(atHand.saves _ _ _).of_selectCounter, congrArg ObsState.counters (atHand.saves_obs hadmin _ _ _)⟩
  case isFalse hbad => exact h.refusesBuffer hw hfid (if_pos (by simpa [counterClean, imp_iff_not_or] using hbad))

end AtHand

/-! ### The ranges of C2h, C4h and C5h (R212, R327, R384) -/

theorem graceOf_inRange (b : Nat) : graceInRange (graceOf b) = true ↔ bitField b 0 6 ≤ 60 ∧ bitField b 8 4 ≤ 10 :=
  Bool.and_eq_true_iff.trans (and_congr decide_eq_true_iff decide_eq_true_iff)
theorem dwOf_inRange (b : Nat) : dwInRange (dwOf b) = true ↔ 64 ≤ bitField b 0 16 ∧ bitField b 0 16 ≤ 2048 ∧ bitField b 0 16 % 64 = 0 := by
  rw [dwInRange, Bool.and_eq_true_iff, Bool.and_eq_true_iff, decide_eq_true_iff, decide_eq_true_iff, decide_eq_true_iff, and_assoc]; rfl
theorem skiverCfgOf_inRange (b : Nat) : (skiverCfgOf b).inRange = true ↔ 50 ≤ bitField b 8 8 ∧ bitField b 8 8 ≤ 100 :=
  Bool.and_eq_true_iff.trans (and_congr decide_eq_true_iff decide_eq_true_iff)

/-- Settles O50: each identifier by the range of its fields and the setting that it takes. -/
theorem setFeaturesOfVendorIdentifiers : Obligations.SetFeaturesOfVendorIdentifiers := by
  unfold Obligations.SetFeaturesOfVendorIdentifiers
  intro s tag c q x cq cid buf h hw
  refine ⟨fun hfid => ?wheel, fun w arm => ⟨rfl, rfl, rfl, rfl, rfl, s.setWheel_cfgSet w arm, rfl, rfl, rfl, rfl, rfl⟩, fun hfid => ?twin,
    fun hfid => ⟨_, rfl, ?grace⟩, fun hfid => h.setCounterSelect hw hfid buf, fun hfid => ⟨_, rfl, ?window⟩, fun hfid => ⟨_, rfl, ?skiver⟩⟩
  case wheel =>
    obtain ⟨t, hexec, hrange, harmed, htaken, hfails⟩ := h.setWheelCfg hw hfid buf
    exact ⟨t, hexec, hrange, fun hr harm hsource hmode => harmed hr ⟨harm, hsource, hmode⟩, fun hr harm htooth => htaken hr harm (State.wheelFails_of_same htooth),
      fun hr harm hnew hsome => hfails hr harm (by rwa [State.wheelFails_of_new hnew])⟩
  case twin =>
    obtain ⟨t, hexec, hrange, hdropped, htaken⟩ := h.setTwinRein hw hfid buf
    exact ⟨t, hexec, hrange, fun hr henforce hdrop => hdropped hr ⟨henforce, hdrop⟩, htaken⟩
  case grace =>
    split
    case isTrue hrange => exact h.setsAndSaves hw hfid rfl (if_neg (by simp [(graceOf_inRange _).mpr hrange]))
    case isFalse hrange => exact h.refusesBuffer hw hfid (if_pos (by simpa using mt (graceOf_inRange _).mp hrange))
  case window =>
    split
    case isTrue hrange => exact h.setsAndSaves hw hfid rfl (if_neg (by simp [(dwOf_inRange _).mpr hrange]))
    case isFalse hrange => exact h.refusesBuffer hw hfid (if_pos (by simpa using mt (dwOf_inRange _).mp hrange))
  case skiver =>
    split
    case isTrue hrange => exact h.setsAndSaves hw hfid rfl (if_neg (by simp [(skiverCfgOf_inRange _).mpr hrange]))
    case isFalse hrange => exact h.refusesBuffer hw hfid (if_pos (by simpa using mt (skiverCfgOf_inRange _).mp hrange))

end Sys2Proof.Machine
end

section
/-! Abort, Asynchronous Event Request and host memory errors (O30): R262, R270, R275, R276, R283. -/
namespace Sys2Proof.Machine

/-! ### A command's units leave (R276, R283) -/

/-- The units that are dropped are gone. -/
theorem State.foldl_dropJob_job {l : List Nat} {g : Nat} (h : g ∈ l) (s : State) : (l.foldl State.dropJob s).job g = none := by
  induction l generalizing s with
  | nil => cases h
  | cons t l ih =>
    rcases List.mem_cons.mp h with rfl | hl
    · have hgone : ∀ y, (s.dropJob g).job g ≠ some y := fun y hy => by rw [State.dropJob_job] at hy; cases hy
      exact Option.eq_none_iff_forall_ne_some.mpr fun y hy => hgone y ((UnitsEnd.foldl State.dropJob_unitsEnd l _).jobs g y hy)
    · exact ih hl _

theorem State.foldl_dropJob_stored (l : List Nat) (s : State) : (l.foldl State.dropJob s).stored = s.stored :=
  fold_left State.stored State.dropJob State.dropJob_stored l s
theorem State.foldl_dropJob_port (l : List Nat) (s : State) (r : Rein) : (l.foldl State.dropJob s).port r = s.port r :=
  fold_left (fun u : State => u.port r) State.dropJob (fun u t => by simp [State.port]) l s

/-! ### What an Abort looks for (R275) -/

/-- Aborts of the controller under earlier tags. -/
def State.abortsBefore (s : State) (tag : Nat) (c : Cmd) : Nat :=
  (s.fe.cmds.filter fun z => decide (z.1 < tag) && z.2.admin && decide (z.2.ctrl = c.ctrl) && decide (sqeOpc z.2.entry = 0x08)).length
/-- The command that an Abort names. -/
def State.abortTarget (s : State) (c : Cmd) : Option (Nat × Cmd) :=
  s.fe.cmds.find? fun z => decide (z.2.sq = s.sqKey c.port (bitField (dw c.entry 10) 0 16)) && !z.2.admin && !z.2.orphan &&
    decide (z.2.execCid = bitField (dw c.entry 10) 16 16)

theorem exec_abort (tag : Nat) (s : State) : exec (.abort tag) s = .next (s.begin tag true 0x08 (fun _ => true) fun s c =>
    if 4 ≤ s.abortsBefore tag c then s.finish tag (stat 1 0x03)
    else
      match s.abortTarget c with
      | none => s.finish tag (okDw0 1)
      | some (n, y) => if bitField (dw c.entry 10) 0 16 = 0 ∨ y.reserved then s.finish tag (okDw0 1)
        else if y.aborted then s.finish tag ok else (s.abortCmd n y).finish tag ok) := rfl

/-- A row that a test passes over, before and after, is set: the rows that the test takes stand. -/
theorem Table.filter_set {α : Type} {p : Nat × α → Bool} {t : Table α} {k : Nat} {v : α} (hnew : p (k, v) = false) (hold : ∀ w, Table.find t k = some w → p (k, w) = false) :
    (Table.set t k v).filter p = t.filter p := by
  induction t with
  | nil => simp [Table.set, hnew]
  | cons z t ih =>
    obtain ⟨j, w⟩ := z
    unfold Table.set
    by_cases hlt : k < j
    · rw [if_pos hlt, List.filter_cons_of_neg (by simp [hnew])]
    · by_cases heq : k = j
      · subst heq
        rw [if_neg hlt, if_pos rfl, List.filter_cons_of_neg (by simp [hnew]), List.filter_cons_of_neg (by simp [hold w (by simp [Table.find])])]
      · rw [if_neg hlt, if_neg heq, List.filter_cons, List.filter_cons, ih fun x hx => hold x (by simpa [Table.find, heq] using hx)]

/-- The beginning of a row that a test passes over. -/
theorem State.modCmd_filter {s : State} {tag : Nat} {c : Cmd} {f : Cmd → Cmd} {p : Nat × Cmd → Bool} (hrow : s.cmd tag = some c) (hold : p (tag, c) = false)
    (hnew : p (tag, f c) = false) : (s.modCmd tag f).fe.cmds.filter p = s.fe.cmds.filter p := by
  have hset : (s.modCmd tag f).fe.cmds = Table.set s.fe.cmds tag (f c) := by
    unfold State.modCmd Table.modify
    rw [show Table.find s.fe.cmds tag = some c from hrow]
  rw [hset]
  exact Table.filter_set hnew fun w hw => by rw [show w = c from Option.some.inj (hw.symm.trans hrow)]; exact hold

section AtHand
variable {s : State} {tag cid : Nat} {c : Cmd} {q : Sq} {x : SqSide} {cq : Cq}

theorem AtHand.abortsBefore (h : AtHand s tag c q x cq cid) : (s.modCmd tag fun c => { c with started := true }).abortsBefore tag c = s.abortsBefore tag c :=
  congrArg List.length (State.modCmd_filter h.row (by simp) (by simp))
theorem AtHand.abortTarget (h : AtHand s tag c q x cq cid) (ha : c.admin = true) :
    (s.modCmd tag fun c => { c with started := true }).abortTarget c = s.abortTarget c := by
  unfold State.abortTarget
  rw [← List.head?_filter, ← List.head?_filter]
  exact congrArg List.head? (State.modCmd_filter h.row (by simp [ha]) (by simp [ha]))

end AtHand

/-! ### The abort mark (R276, R336) -/

/-- The command stops: its units leave, and what it asked of the cipher and of a stream context. -/
def State.abortStops (s : State) (t : Nat) (c : Cmd) : State :=
  let s := c.units.foldl State.dropJob s
  let s : State := { s with cipher := { s.cipher with reqs := s.cipher.reqs.filter fun (_, r) => r.work ≠ .mac t } }
  match c.ctx? with
  | some n => if ((Table.find s.skv.ctxs n).map (·.ctrl)) = some c.ctrl then s.endCtx n else s
  | none => s

theorem State.abortStops_fe (s : State) (t : Nat) (c : Cmd) : (s.abortStops t c).fe = (c.units.foldl State.dropJob s).fe := by
  unfold State.abortStops
  dsimp only
  split
  · split
    · exact State.leave_fe _ _ _ _
    · rfl
  · rfl

theorem State.abortStops_resultOf (s : State) (t n : Nat) (c : Cmd) : (s.abortStops t c).resultOf n = s.resultOf n := by
  rw [State.resultOf, State.cmd, State.abortStops_fe]
  exact s.foldl_dropJob_resultOf c.units n
theorem State.abortStops_job (s : State) (t : Nat) {c : Cmd} {j : Nat} (h : j ∈ c.units) : (s.abortStops t c).job j = none := by
  rw [State.job, State.abortStops_fe]
  exact State.foldl_dropJob_job h s

/-- The mark, and the status 0:0x07 in place of the command's own. -/
def State.abortMarks (s : State) (t : Nat) (c : Cmd) : State :=
  if c.result.isSome then s.modCmd t fun x => { x with aborted := true, result := some (stat 0 0x07) }
  else (s.modCmd t fun x => { x with aborted := true }).finishCode t (stat 0 0x07) 0x0B05

theorem State.abortCmd_eq (s : State) (t : Nat) (c : Cmd) :
    s.abortCmd t c = ((s.abortStops t c).leave 0x0B05 0 [((s.sq c.sq).map (·.qid)).getD 0, c.execCid]).abortMarks t c := rfl

theorem State.abortMarks_row {s : State} {t : Nat} {c : Cmd} (h : s.resultOf t = some c.result) :
    ∃ d, (s.abortMarks t c).cmd t = some d ∧ d.aborted = true ∧ d.result = some (stat 0 0x07) := by
  obtain ⟨d, hrow, hresult⟩ := State.exists_cmd_of_resultOf h
  unfold State.abortMarks
  split
  case isTrue => exact ⟨_, by rw [State.modCmd_cmd, hrow]; rfl, rfl, rfl⟩
  case isFalse hnone =>
    have hmarked : (s.modCmd t fun x => { x with aborted := true }).cmd t = some { d with aborted := true } := by rw [State.modCmd_cmd, hrow]; rfl
    exact ⟨_, (State.finishCode_spec hmarked (hresult.trans (by simpa using hnone))).1, rfl, rfl⟩
theorem State.abortMarks_row_ne (s : State) {t n : Nat} (c : Cmd) (h : n ≠ t) : (s.abortMarks t c).cmd n = s.cmd n := by
  unfold State.abortMarks
  split
  · exact State.modCmd_cmd_ne _ _ _ _ h
  · exact (State.finishCode_rows _ _ _ _ _ h).trans (State.modCmd_cmd_ne _ _ _ _ h)
theorem State.abortMarks_jobs (s : State) (t : Nat) (c : Cmd) : (s.abortMarks t c).fe.jobs = s.fe.jobs := by
  unfold State.abortMarks
  split
  · rfl
  · exact (congrArg FeState.jobs (State.finishCode_rest _ _ _ _) :)

/-- An Abort that marks its command ends well, and the command with it, without its units. -/
theorem State.abortCmd_finish {s : State} {tag n : Nat} {y : Cmd} (hne : n ≠ tag) (hown : s.resultOf tag = some none) (hrow : s.resultOf n = some y.result) :
    (∃ d, ((s.abortCmd n y).finish tag ok).cmd n = some d ∧ d.aborted = true ∧ d.result = some (stat 0 0x07)) ∧
    (∃ d, ((s.abortCmd n y).finish tag ok).cmd tag = some d ∧ d.result = some ok) ∧ ∀ j ∈ y.units, ((s.abortCmd n y).finish tag ok).job j = none := by
  rw [State.abortCmd_eq]
  generalize hstops : (s.abortStops n y).leave 0x0B05 0 [((s.sq y.sq).map (·.qid)).getD 0, y.execCid] = v
  have hresult : ∀ m, v.resultOf m = s.resultOf m := fun m => by rw [← hstops, State.leave_resultOf, State.abortStops_resultOf]
  refine ⟨?_, State.exists_cmd_of_resultOf ?_, fun j hj => ?_⟩
  · rw [State.finish, State.finishCode_rows _ _ _ _ _ hne]
    exact State.abortMarks_row ((hresult n).trans hrow)
  · rw [State.finish_resultOf, State.resultOf, State.abortMarks_row_ne _ _ hne.symm]
    exact congrArg (Option.map _) ((hresult tag).trans hown)
  · rw [State.job, State.finish_jobs, State.abortMarks_jobs, ← hstops, State.leave_fe]
    exact State.abortStops_job s n hj

section AtHand
variable {s : State} {tag cid : Nat} {c : Cmd} {q : Sq} {x : SqSide} {cq : Cq}

/-- What an Abort at hand comes to. -/
theorem AtHand.abort (h : AtHand s tag c q x cq cid) (hw : c.waits true 0x08 = true) : ∃ t, exec (.abort tag) s = .next t ∧
    (4 ≤ s.abortsBefore tag c → Served s t tag q x cq cid (stat 1 0x03) c.out) ∧
    (s.abortsBefore tag c < 4 → s.abortTarget c = none → Served s t tag q x cq cid (okDw0 1) c.out) ∧
    (∀ n y, s.abortsBefore tag c < 4 → n ≠ tag → s.cmd n = some y → s.abortTarget c = some (n, y) →
      (bitField (dw c.entry 10) 0 16 = 0 ∨ y.reserved = true → Served s t tag q x cq cid (okDw0 1) c.out) ∧
      (bitField (dw c.entry 10) 0 16 ≠ 0 → y.reserved = false → y.aborted = true → Served s t tag q x cq cid ok c.out) ∧
      (bitField (dw c.entry 10) 0 16 ≠ 0 → y.reserved = false → y.aborted = false → ∃ u : State, t = u.postAll.arrayPump ∧
        (∃ d, u.cmd n = some d ∧ d.aborted = true ∧ d.result = some (stat 0 0x07)) ∧ (∃ d, u.cmd tag = some d ∧ d.result = some ok) ∧
        (∀ j ∈ y.units, u.job j = none) ∧ SameFrame s t)) := by
  have begun := Begun.self s tag
  have hadmin : c.admin = true := (Cmd.waits_eq hw).2.2.1
  refine ⟨_, exec_abort tag s, ?_⟩
  rw [h.begin hw rfl, h.abortsBefore, h.abortTarget hadmin]
  refine ⟨fun hmany => ?many, fun hfew hnone => ?none, fun n y hfew hne hrow hfound => ⟨fun hlate => ?late, fun hqid hres hmark => ?marked, fun hqid hres hmark => ?marks⟩⟩
  case many => rw [if_pos hmany]; exact h.served_finish _ 0 begun
  case none => rw [if_neg (Nat.not_le.mpr hfew), hnone]; exact h.served_finish _ 0 begun
  case late => simp only [if_neg (Nat.not_le.mpr hfew), hfound, if_pos hlate]; exact h.served_finish _ 0 begun
  case marked =>
    have hopen : ¬(bitField (dw c.entry 10) 0 16 = 0 ∨ y.reserved = true) := by simp [hqid, hres]
    simp only [if_neg (Nat.not_le.mpr hfew), hfound, if_neg hopen, if_pos hmark]
    exact h.served_finish _ 0 begun
  case marks =>
    have hopen : ¬(bitField (dw c.entry 10) 0 16 = 0 ∨ y.reserved = true) := by simp [hqid, hres]
    have hrows : (s.modCmd tag fun c => { c with started := true }).resultOf n = some y.result :=
      State.resultOf_of_cmd ((State.modCmd_cmd_ne _ _ _ _ hne).trans hrow)
    have hown : (s.modCmd tag fun c => { c with started := true }).resultOf tag = some none := by
      rw [State.resultOf_of_cmd h.started, h.fresh.2.1]
    obtain ⟨hcmd, habort, hjobs⟩ := State.abortCmd_finish hne hown hrows
    simp only [if_neg (Nat.not_le.mpr hfew), hfound, if_neg hopen, hmark, Bool.false_eq_true, if_false]
    exact ⟨_, rfl, hcmd, habort, hjobs, by simp [SameFrame]⟩

end AtHand

/-! ### Asynchronous events (R262, R270) -/

/-- The requests outstanding on the rein that executes a command of its controller. -/
def State.aersOf (s : State) (c : Cmd) : List Aer := s.fe.aers.filter fun a => decide (a.ctrl = c.ctrl) && decide (a.rein = c.port.rein)
/-- The first event that waits for such a request and is not masked. -/
def State.eventFor (s : State) (c : Cmd) : Option (Nat × Rein × Event) :=
  s.fe.events.find? fun z => decide (z.1 = c.ctrl) && decide (z.2.1 = c.port.rein) && !s.fe.isMasked c.ctrl c.port.rein z.2.2.page
/-- The request joins those outstanding. -/
def State.withAer (s : State) (tag : Nat) (c : Cmd) : State := { s with fe := { s.fe with aers := s.fe.aers ++ [⟨tag, c.ctrl, c.port.rein⟩] } }
/-- An event leaves, and its page is masked. -/
def State.tookEvent (s : State) (c : Cmd) (e : Nat × Rein × Event) : State :=
  { s with fe := { s.fe with events := s.fe.events.erase e, masked := (c.ctrl, c.port.rein, e.2.2.page) :: s.fe.masked } }

theorem State.deliverEvent_of_none {s : State} {tag : Nat} {c : Cmd} (h : s.eventFor c = none) :
    (s.withAer tag c).deliverEvent c.ctrl c.port.rein = s.withAer tag c := by
  have hnone : (s.withAer tag c).eventFor c = none := h
  unfold State.deliverEvent
  unfold State.eventFor at hnone
  rw [hnone]

/-- An event that is not masked answers the first request that waits for it, and masks its page. -/
theorem State.eventOn_of_aer {s : State} {ctrl : Nat} {r : Rein} {e : Event} {a : Aer} (hopen : s.fe.isMasked ctrl r e.page = false)
    (hfirst : s.fe.aers.find? (fun a => decide (a.ctrl = ctrl) && decide (a.rein = r)) = some a) :
    s.eventOn ctrl r e = ({ s with fe := { s.fe with aers := s.fe.aers.erase a, masked := (ctrl, r, e.page) :: s.fe.masked } } : State).finish a.tag (okDw0 e.dw0) := by
  unfold State.eventOn
  rw [if_neg (by simp [hopen]), hfirst]

/-- Where no other request is outstanding, the request takes the event at once. -/
theorem State.deliverEvent_of_some {s : State} {tag : Nat} {c : Cmd} {e : Nat × Rein × Event} (hmine : s.aersOf c = []) (h : s.eventFor c = some e) :
    (s.withAer tag c).deliverEvent c.ctrl c.port.rein = (s.tookEvent c e).finish tag (okDw0 e.2.2.dw0) := by
  have hfound : (s.withAer tag c).eventFor c = some e := h
  have hopen : s.fe.isMasked c.ctrl c.port.rein e.2.2.page = false := by
    have := List.find?_some h
    simp only [Bool.and_eq_true, Bool.not_eq_true'] at this
    exact this.2
  have hfree : ∀ a ∈ s.fe.aers, ¬(decide (a.ctrl = c.ctrl) && decide (a.rein = c.port.rein)) = true := List.filter_eq_nil_iff.mp hmine
  have hnew : (⟨tag, c.ctrl, c.port.rein⟩ : Aer) ∉ s.fe.aers := fun hin => hfree _ hin (by simp)
  have hfirst : (s.fe.aers ++ [(⟨tag, c.ctrl, c.port.rein⟩ : Aer)]).find? (fun a : Aer => decide (a.ctrl = c.ctrl) && decide (a.rein = c.port.rein)) =
      some ⟨tag, c.ctrl, c.port.rein⟩ := by
    rw [List.find?_append, List.find?_eq_none.mpr hfree]; simp
  have herase : (s.fe.aers ++ [(⟨tag, c.ctrl, c.port.rein⟩ : Aer)]).erase ⟨tag, c.ctrl, c.port.rein⟩ = s.fe.aers := by
    rw [List.erase_append_right _ hnew]; simp
  unfold State.deliverEvent
  unfold State.eventFor at hfound
  rw [hfound]
  refine (State.eventOn_of_aer (by exact hopen) (by exact hfirst)).trans ?_
  dsimp only [State.withAer]
  rw [herase]
  rfl

theorem exec_asyncEventRequest (tag : Nat) (s : State) : exec (.asyncEventRequest tag) s = .next (s.begin tag true 0x0C (fun _ => true) fun s c =>
    if 8 ≤ (s.aersOf c).length then s.finish tag (stat 1 0x05) else (s.withAer tag c).deliverEvent c.ctrl c.port.rein) := rfl

section AtHand
variable {s : State} {tag cid : Nat} {c : Cmd} {q : Sq} {x : SqSide} {cq : Cq}

/-- What an Asynchronous Event Request at hand comes to. -/
theorem AtHand.asyncEventRequest (h : AtHand s tag c q x cq cid) (hw : c.waits true 0x0C = true) : ∃ t, exec (.asyncEventRequest tag) s = .next t ∧
    (8 ≤ (s.aersOf c).length → Served s t tag q x cq cid (stat 1 0x05) c.out) ∧
    ((s.aersOf c).length < 8 → s.eventFor c = none → t.cmd tag = some { c with started := true } ∧ t.fe.aers = s.fe.aers ++ [⟨tag, c.ctrl, c.port.rein⟩] ∧
      t.fe.cqs = s.fe.cqs ∧ t.fe.events = s.fe.events ∧ SameFrame s t ∧ SameData s t) ∧
    (∀ e, s.aersOf c = [] → s.eventFor c = some e → Served (s.tookEvent c e) t tag q x cq cid (okDw0 e.2.2.dw0) c.out) := by
  refine ⟨_, exec_asyncEventRequest tag s, ?_⟩
  rw [h.begin hw rfl]
  have hsame : (s.modCmd tag fun c => { c with started := true }).aersOf c = s.aersOf c := rfl
  rw [hsame]
  refine ⟨fun hfull => ?full, fun hroom hnone => ?waits, fun e hmine hfound => ?answers⟩
  case full => rw [if_pos hfull]; exact h.served_finish _ 0 (Begun.self s tag)
  case waits =>
    rw [if_neg (Nat.not_le.mpr hroom), State.deliverEvent_of_none (by exact hnone), State.postAll_idle (s := (s.modCmd tag fun c => { c with started := true }).withAer tag c) h.alone.1 h.alone.2]
    exact ⟨h.started, rfl, rfl, rfl, by simp [SameFrame, State.withAer], by simp [SameData, State.withAer]⟩
  case answers =>
    rw [if_neg (by simp [hmine]), State.deliverEvent_of_some (by exact hmine) (by exact hfound)]
    exact (h.of_desk (u := s.tookEvent c e) rfl).served_finish (okDw0 _) 0 (Begun.self _ tag)

end AtHand

/-! ### Host memory errors (R276, R283) -/

/-- A host memory error has reached a command: its units have left, and its rein has counted the error. -/
def State.hostErrorTaken (s : State) (c : Cmd) (addr : Nat) : State :=
  (((c.units.foldl State.dropJob s).modPort c.port.rein fun p => { p with uncorrErrors := satAdd 32 p.uncorrErrors 1 }).count 0x01A c.port.rein.num 1).leave 0x0B03 2
    [((((c.units.foldl State.dropJob s).modPort c.port.rein fun p => { p with uncorrErrors := satAdd 32 p.uncorrErrors 1 }).sq c.sq).map (·.qid)).getD 0, sqeCid c.entry, addr]

theorem execHostMemoryError_open {s : State} {tag addr : Nat} {c : Cmd} (hrow : s.cmd tag = some c) (hnone : c.result = none) (horphan : c.orphan = false)
    (hsup : c.supported = true) : execHostMemoryError tag addr s = .next ((s.hostErrorTaken c addr).finishCode tag (stat 0 0x04) 0x0B03).settle := by
  unfold execHostMemoryError
  rw [hrow]
  exact if_neg (by simp [hnone, horphan, hsup])
theorem execHostMemoryError_closed {s : State} {tag addr : Nat} (h : ∀ c, s.cmd tag = some c → c.result.isSome ∨ c.orphan = true ∨ c.supported = false) :
    execHostMemoryError tag addr s = .next s := by
  unfold execHostMemoryError
  split
  case h_1 c hrow => exact if_pos (by simpa using h c hrow)
  case h_2 => rfl

/-- Before the command ends, its units have left and its rein has counted the error; statuses, the other rein and what is stored stand. -/
theorem State.hostErrorTaken_spec (s : State) (c : Cmd) (addr : Nat) :
    ((s.hostErrorTaken c addr).port c.port.rein).uncorrErrors = satAdd 32 (s.port c.port.rein).uncorrErrors 1 ∧
    (s.hostErrorTaken c addr).port c.port.rein.other = s.port c.port.rein.other ∧ (∀ n, (s.hostErrorTaken c addr).resultOf n = s.resultOf n) ∧
    (∀ j ∈ c.units, (s.hostErrorTaken c addr).job j = none) ∧ (s.hostErrorTaken c addr).stored = s.stored := by
  unfold State.hostErrorTaken
  refine ⟨?uncorr, ?other, fun n => ?results, fun j hj => ?jobs, ?stored⟩
  case uncorr =>
    rw [State.leave_port, State.port, State.count_rein]
    exact (congrArg ReinPort.uncorrErrors (State.modPort_port _ _ _)).trans (by rw [State.foldl_dropJob_port])
  case other =>
    rw [State.leave_port, State.port, State.count_rein]
    exact (State.modPort_port_other _ _ _).trans (State.foldl_dropJob_port _ _ _)
  case results =>
    rw [State.leave_resultOf]
    exact State.foldl_dropJob_resultOf s c.units n
  case jobs =>
    rw [State.job, State.leave_fe]
    exact State.foldl_dropJob_job hj s
  case stored => exact Eq.trans (by simp [State.stored]) (State.foldl_dropJob_stored c.units s)

/-- A command that has no status ends with 0:0x04, and its units leave. -/
theorem exec_hostMemoryError_open {s : State} {tag addr : Nat} {c : Cmd} (hrow : s.cmd tag = some c) (hnone : c.result = none) (horphan : c.orphan = false)
    (hsup : c.supported = true) : ∃ (u : State) (d : Cmd), exec (.hostMemoryError tag addr) s = .next u.settle ∧ u.cmd tag = some d ∧ d.result = some (stat 0 0x04) ∧
      (u.port c.port.rein).uncorrErrors = satAdd 32 (s.port c.port.rein).uncorrErrors 1 ∧ u.port c.port.rein.other = s.port c.port.rein.other ∧
      (∀ j ∈ c.units, u.job j = none) ∧ SameData { s with wb := u.wb } u := by
  obtain ⟨huncorr, hother, hresults, hjobs, hstored⟩ := s.hostErrorTaken_spec c addr
  obtain ⟨d, hd, hopen⟩ := State.exists_cmd_of_resultOf ((hresults tag).trans ((State.resultOf_of_cmd hrow).trans (congrArg some hnone)))
  have hport : ∀ r, ((s.hostErrorTaken c addr).finishCode tag (stat 0 0x04) 0x0B03).port r = (s.hostErrorTaken c addr).port r := fun r => by simp [State.port]
  refine ⟨_, _, execHostMemoryError_open hrow hnone horphan hsup, (State.finishCode_spec hd hopen).1, rfl, ?uncorr, ?other, fun j hj => ?jobs, ?data⟩
  case uncorr => rw [hport]; exact huncorr
  case other => rw [hport]; exact hother
  case jobs => exact (congrArg (Table.find · j) (congrArg FeState.jobs (State.finishCode_rest _ _ _ _) :)).trans (hjobs j hj)
  case data => exact State.sameData_of_stored (Eq.trans (by simp [State.stored]) hstored)

/-! ### O30 -/

/-- Settles O30: the Abort's clauses are the branches of its meaning, with the beginning of its own row out of its sight; an event request that finds an event joins the others and is
taken off again in the same step; a host memory error ends its command after its units have left. -/
theorem abortsEventsAndMemoryErrors : Obligations.AbortsEventsAndMemoryErrors := by
  unfold Obligations.AbortsEventsAndMemoryErrors
  refine ⟨fun s tag c q x cq cid h hw => ?abort, fun s tag c q x cq cid h hw => ?event, fun s tag addr c => exec_hostMemoryError_open,
    fun s tag addr => execHostMemoryError_closed⟩
  case abort =>
    obtain ⟨t, ht, hmany, hnone, hfound⟩ := h.abort hw
    refine ⟨t, ht, fun few hfew => ?_⟩
    change few = decide (s.abortsBefore tag c < 4) at hfew
    subst hfew
    simp only [decide_eq_false_iff_not, decide_eq_true_eq, not_lt]
    refine ⟨hmany, fun hroom hall => hnone hroom (List.find?_eq_none.mpr fun z hz => ?_), fun n y hroom hne hrow => hfound n y hroom hne hrow⟩
    obtain hadmin | horphan | hsq | hcid := hall z hz <;> simp [*]
  case event =>
    obtain ⟨t, ht, hfull, hwaits, hanswers⟩ := h.asyncEventRequest hw
    refine ⟨t, ht, fun mine hmine => ?_⟩
    change mine = s.aersOf c at hmine
    subst hmine
    refine ⟨hfull, fun hroom hmasked => hwaits hroom (List.find?_eq_none.mpr fun z hz => ?_), fun e hmine hfound => ?_⟩
    · simpa [and_imp] using hmasked z hz
    · obtain ⟨hanswered, hframe, hdata, hdesk, -, -⟩ := hanswers e hmine hfound
      exact ⟨hanswered, (congrArg FeState.events hdesk.rest :), (congrArg FeState.masked hdesk.rest :), (congrArg FeState.aers hdesk.rest :), hframe, hdata⟩

end Sys2Proof.Machine
end

section
/-! Cipher policy commands and key slots (for O18 and O19): how an operation of feature 0xC6 begins, waits or is refused (R291), and what installing keys leaves of a slot
(R288, R310, R471). -/
namespace Sys2Proof.Machine

/-! ### A policy command begins (R291) -/

theorem State.cipherCmd_clean (s : State) (tag : Nat) {c : Cmd} {slotOk : Bool} (hclean : cipherClean c = true) (hslot : slotOk = true) (f : State) :
    s.cipherCmd tag c slotOk f = f := by simp [State.cipherCmd, hclean, hslot]
theorem State.cipherCmd_refused (s : State) (tag : Nat) {c : Cmd} {slotOk : Bool} (h : (cipherClean c && slotOk) = false) (f : State) :
    s.cipherCmd tag c slotOk f = s.finish tag invalidField := by simp [State.cipherCmd, h]

section AtHand
variable {s u : State} {tag cid opc op : Nat} {c : Cmd} {q : Sq} {x : SqSide} {cq : Cq} {slotOk : Cmd → Bool} {f : State → Cmd → State}

/-- A policy command whose CDW11 is well formed does its operation. -/
theorem AtHand.cipherOp (h : AtHand s tag c q x cq cid) (hw : c.waits true opc = true) (hop : isCipherOp op c = true) (hclean : cipherClean c = true)
    (hslot : slotOk c = true) : s.begin tag true opc (isCipherOp op) (fun s c => s.cipherCmd tag c (slotOk c) (f s c)) =
      (f (s.modCmd tag fun c => { c with started := true }) c).postAll.arrayPump := by
  rw [h.begin hw hop, State.cipherCmd_clean _ _ hclean hslot]

/-- A policy command that names reserved bits or no slot ends with 0:0x02. -/
theorem AtHand.refusesCipherOp (h : AtHand s tag c q x cq cid) (hw : c.waits true opc = true) (hop : isCipherOp op c = true)
    (hbad : (cipherClean c && slotOk c) = false) :
    Served s (s.begin tag true opc (isCipherOp op) fun s c => s.cipherCmd tag c (slotOk c) (f s c)) tag q x cq cid invalidField c.out := by
  refine h.begin_served hw hop ?_
  rw [State.cipherCmd_refused _ _ hbad]
  exact h.served_finish _ 0 (Begun.self s tag)

/-- A command that has begun and whose meaning leaves the front end alone waits: nothing is posted. -/
theorem AtHand.postAll_waits (h : AtHand s tag c q x cq cid) (hfe : u.fe = (s.modCmd tag fun c => { c with started := true }).fe) : u.postAll = u :=
  State.postAll_idle (by rw [hfe]; exact h.alone.1) (by rw [hfe]; exact h.alone.2)
theorem AtHand.waits_row (h : AtHand s tag c q x cq cid) (hfe : u.fe = (s.modCmd tag fun c => { c with started := true }).fe) :
    u.postAll.arrayPump.cmd tag = some { c with started := true } := by
  rw [h.postAll_waits hfe, State.cmd, State.arrayPump_fe, hfe]
  exact h.started
theorem AtHand.waits_cqs (h : AtHand s tag c q x cq cid) (hfe : u.fe = (s.modCmd tag fun c => { c with started := true }).fe) :
    u.postAll.arrayPump.fe.cqs = s.fe.cqs := by
  rw [h.postAll_waits hfe, State.arrayPump_fe, hfe]
  rfl

end AtHand

/-- Posting leaves the cipher engine alone. -/
theorem State.posted_cipher (s : State) : s.postAll.arrayPump.cipher = s.cipher := by simp
theorem State.posted_keySlot (s : State) (n : Nat) : s.postAll.arrayPump.keySlot n = s.keySlot n := by simp [State.keySlot]
theorem State.finish_keySlot (s : State) (tag : Nat) (r : CmdResult) (n : Nat) : (s.finish tag r).keySlot n = s.keySlot n := by simp [State.keySlot]

/-! ### Keys are installed in a slot (R288, R310, R471) -/

/-- From `s` to `t` keys have been installed in slot `n`: the front end, the dump, the requests and the other slots stand, and what is pending on the slot. -/
structure SlotInstalls (s t : State) (n : Nat) : Prop where
  fe : t.fe = s.fe
  dump : t.dump = s.dump
  reqs : t.cipher.reqs = s.cipher.reqs
  others : ∀ m, m ≠ n → t.keySlot m = s.keySlot m
  pending : (t.keySlot n).pending = (s.keySlot n).pending

namespace SlotInstalls
variable {s t : State} {n : Nat}

theorem refl (s : State) (n : Nat) : SlotInstalls s s n := ⟨rfl, rfl, rfl, fun _ _ => rfl, rfl⟩
theorem modSlot (h : SlotInstalls s t n) {f : KeySlot → KeySlot} (hf : ∀ k, (f k).pending = k.pending := by exact fun _ => rfl) : SlotInstalls s (t.modSlot n f) n where
  fe := h.fe
  dump := h.dump
  reqs := h.reqs
  others m hm := (t.modSlot_keySlot_ne n m f hm).trans (h.others m hm)
  pending := by rw [State.modSlot_keySlot, hf, h.pending]
theorem writeRec (h : SlotInstalls s t n) (r : Region) (x : TsRec) : SlotInstalls s (t.writeRec r x) n := ⟨h.fe, h.dump, h.reqs, h.others, h.pending⟩
theorem leave (h : SlotInstalls s t n) (code sev : Nat) (xs : List Nat) : SlotInstalls s (t.leave code sev xs) n where
  fe := (t.leave_fe code sev xs).trans h.fe
  dump := by rw [← h.dump]; simp
  reqs := by rw [← h.reqs]; simp
  others m hm := (t.leave_keySlot code sev xs m).trans (h.others m hm)
  pending := by rw [State.leave_keySlot, h.pending]
theorem startContext (h : SlotInstalls s t n) : SlotInstalls s (t.startContext n) n := by
  unfold State.startContext
  exact h.modSlot.writeRec _ _
theorem deriveSlot (h : SlotInstalls s t n) : SlotInstalls s (t.deriveSlot n) n := by
  unfold State.deriveSlot
  exact h.modSlot

end SlotInstalls

theorem State.installLabel_installs (s : State) (n : Nat) (l : BitVec 256) : SlotInstalls s (s.installLabel n l) n := by
  unfold State.installLabel
  refine SlotInstalls.leave (SlotInstalls.deriveSlot ?_) _ _ _
  split
  · exact ((SlotInstalls.refl s n).modSlot.writeRec _ _).startContext
  · exact (SlotInstalls.refl s n).modSlot.writeRec _ _
theorem State.installKeys_installs (s : State) (n : Nat) (ks : KeySet) (blob : List Byte) (purpose : Nat) : SlotInstalls s (s.installKeys n ks blob purpose) n := by
  unfold State.installKeys
  refine SlotInstalls.leave ?_ _ _ _
  split
  · exact ((SlotInstalls.refl s n).modSlot.writeRec _ _).startContext
  · exact (SlotInstalls.refl s n).modSlot.writeRec _ _

/-- What a slot serves: its kind, its purpose, its label and its keys. -/
def KeySlot.serves (k : KeySlot) : Nat × Nat × BitVec 256 × Option KeySet := (k.kind, k.purpose, k.label, k.current)

/-- A slot whose keys are derived serves as before, with a key set. -/
theorem State.deriveSlot_serves (s : State) (n : Nat) : ∃ ks, ((s.deriveSlot n).keySlot n).serves = ((s.keySlot n).kind, (s.keySlot n).purpose, (s.keySlot n).label, some ks) :=
  ⟨_, by rw [State.deriveSlot, State.modSlot_keySlot]; rfl⟩

theorem State.installLabel_serves (s : State) (n : Nat) (l : BitVec 256) : ∃ ks, ((s.installLabel n l).keySlot n).serves = (1, labelPurpose l, l, some ks) := by
  unfold State.installLabel
  dsimp only
  rw [State.leave_keySlot]
  generalize hv : (if labelPurpose l = 1 then _ else _ : State) = v
  have hserves : (v.keySlot n).kind = 1 ∧ (v.keySlot n).purpose = labelPurpose l ∧ (v.keySlot n).label = l := by
    subst hv
    split <;> simp [State.startContext]
  obtain ⟨hkind, hpurpose, hlabel⟩ := hserves
  obtain ⟨ks, hks⟩ := v.deriveSlot_serves n
  exact ⟨ks, by rw [hks, hkind, hpurpose, hlabel]⟩
theorem State.installKeys_serves (s : State) (n : Nat) (ks : KeySet) (blob : List Byte) (purpose : Nat) :
    ((s.installKeys n ks blob purpose).keySlot n).kind = 2 ∧ ((s.installKeys n ks blob purpose).keySlot n).current = some ks := by
  unfold State.installKeys
  dsimp only
  rw [State.leave_keySlot]
  split <;> simp [State.startContext]

theorem State.labelEmpty_installs (s : State) (n : Nat) (l : BitVec 256) : SlotInstalls s (s.labelEmpty n l) n := by
  obtain ⟨hfe, hdump, hreqs, hothers, hpending⟩ := s.drawSalt.2.installLabel_installs n (withSalt l (Config.randomSalt s.free))
  exact ⟨hfe, hdump, hreqs, hothers, hpending⟩

/-- The SALT lies above the PURPOSE of a label. -/
theorem labelPurpose_withSalt (l : BitVec 256) (salt : BitVec 64) : labelPurpose (withSalt l salt) = labelPurpose l := by
  have hsalt := salt.isLt
  unfold labelPurpose withSalt bitField
  rw [BitVec.toNat_ofNat]
  omega
theorem State.labelEmpty_serves (s : State) (n : Nat) (l : BitVec 256) :
    ∃ ks, ((s.labelEmpty n l).keySlot n).serves = (1, labelPurpose l, withSalt l (Config.randomSalt s.free), some ks) := by
  obtain ⟨ks, hks⟩ := s.drawSalt.2.installLabel_serves n (withSalt l (Config.randomSalt s.free))
  rw [labelPurpose_withSalt] at hks
  exact ⟨ks, hks⟩

end Sys2Proof.Machine
end

section
/-! CIPHER_LABEL, CIPHER_BLOB_PART and SLOT_REWRITE_INSTALL (O18): a slot is labelled at once, or rewritten once its old requests have finished (R288, R295, R296, R309, R310). -/
namespace Sys2Proof.Machine

/-! ### LABEL (R288, R310) -/

section AtHand
variable {s u : State} {tag cid : Nat} {c : Cmd} {q : Sq} {x : SqSide} {cq : Cq}

/-- The slot serves a namespace that holds a mapped unit. -/
def State.slotHeld (s : State) (n : Nat) : Bool := match s.boundTo n with | some m => s.holdsMapped m.nsx | none => false

theorem State.labelSet_eq (s : State) (tag n : Nat) (l : BitVec 256) : s.labelSet tag n l =
    if labelOk l n = false then s.finish tag invalidField
    else if s.slotHeld n = true ∨ (s.keySlot n).pending = true ∨ (s.keySlot n).revoking = true then s.finish tag sequenceError
    else if (s.keySlot n).kind = 0 then (s.labelEmpty n l).finish tag ok
    else s.drawSalt.2.pendLabel n (withSalt l (Config.randomSalt s.free)) tag := by
  unfold State.labelSet
  simp only [Bool.not_eq_true']
  rfl

/-- What a LABEL on a slot comes to, by the label and by what the slot holds. -/
theorem AtHand.labelSet (h : AtHand s tag c q x cq cid) (n : Nat) (l : BitVec 256) {t : State}
    (ht : t = ((s.modCmd tag fun c => { c with started := true }).labelSet tag n l).postAll.arrayPump) :
    (labelOk l n = false → Served s t tag q x cq cid invalidField c.out) ∧ (labelOk l n = true →
      (s.slotHeld n = true ∨ (s.keySlot n).pending = true ∨ (s.keySlot n).revoking = true → Served s t tag q x cq cid sequenceError c.out) ∧
      (s.slotHeld n = false → (s.keySlot n).pending = false → (s.keySlot n).revoking = false →
        ((s.keySlot n).kind = 0 → Answered t tag q x cq cid ok c.out ∧
          (∃ ks, (t.keySlot n).serves = (1, labelPurpose l, withSalt l (Config.randomSalt s.free), some ks)) ∧ ∀ m, m ≠ n → t.keySlot m = s.keySlot m) ∧
        ((s.keySlot n).kind ≠ 0 → t.cmd tag = some { c with started := true } ∧ t.fe.cqs = s.fe.cqs ∧
          t.keySlot n = { s.keySlot n with sgen := ((s.keySlot n).sgen + 1) % 2 ^ 32, pendingLabel := some (withSalt l (Config.randomSalt s.free)),
                                           pendingTag := some tag }))) := by
  have begun := Begun.self s tag
  have hslot : ∀ m, (s.modCmd tag fun c => { c with started := true }).keySlot m = s.keySlot m := fun _ => rfl
  have hheld : (s.modCmd tag fun c => { c with started := true }).slotHeld n = s.slotHeld n := rfl
  rw [State.labelSet_eq, hslot, hheld] at ht
  subst ht
  refine ⟨fun hbad => ?bad, fun hgood => ⟨fun hbusy => ?busy, fun hheld hpending hrevoking => ⟨fun hempty => ?empty, fun hrewrite => ?rewrite⟩⟩⟩
  case bad =>
    rw [if_pos hbad]
    exact h.served_finish _ 0 begun
  case busy =>
    rw [if_neg (by simp [hgood]), if_pos hbusy]
    exact h.served_finish _ 0 begun
  case empty =>
    rw [if_neg (by simp [hgood]), if_neg (by simp [hheld, hpending, hrevoking]), if_pos hempty]
    have installed := (s.modCmd tag fun c => { c with started := true }).labelEmpty_installs n l
    refine ⟨h.finish ok 0 installed.fe (by rw [installed.dump]; exact h.awake), ?_, fun m hm => ?_⟩
    · rw [State.posted_keySlot, State.finish_keySlot]
      exact State.labelEmpty_serves _ n l
    · rw [State.posted_keySlot, State.finish_keySlot]
      exact installed.others m hm
  case rewrite =>
    rw [if_neg (by simp [hgood]), if_neg (by simp [hheld, hpending, hrevoking]), if_neg hrewrite]
    exact ⟨h.waits_row rfl, h.waits_cqs rfl, by rw [State.posted_keySlot, State.pendLabel, State.modSlot_keySlot]; rfl⟩

end AtHand

/-! ### Parts of a blob (R295, R296, R309) -/

/-- The parts that a controller has given of a slot's blob. -/
def State.blobBefore (s : State) (ctrl slot : Nat) : List (List Byte) :=
  match Table.find s.cipher.blobs ctrl with
  | some b => if b.slot = slot then b.parts else []
  | none => []
def State.setBlobs (s : State) (blobs : Table BlobPart) : State := { s with cipher := { s.cipher with blobs := blobs } }

theorem State.blobPart_eq (s : State) (tag : Nat) (c : Cmd) (buf : Nat) : s.blobPart tag c buf =
    if cipherPart c ≠ 0 ∧ (s.blobBefore c.ctrl (cipherSlot c)).length ≠ cipherPart c then s.finish tag sequenceError
    else if cipherPart c = 3 then (s.setBlobs (Table.del s.cipher.blobs c.ctrl)).blobWhole tag (cipherSlot c)
      (if cipherPart c = 0 then [toBytes 32 buf] else s.blobBefore c.ctrl (cipherSlot c) ++ [toBytes 32 buf]).flatten
    else (s.setBlobs (Table.set s.cipher.blobs c.ctrl
      { slot := cipherSlot c, parts := if cipherPart c = 0 then [toBytes 32 buf] else s.blobBefore c.ctrl (cipherSlot c) ++ [toBytes 32 buf] })).finish tag ok := rfl

theorem State.blobWhole_of_refused {s : State} {slot reason : Nat} {blob : List Byte} (h : s.checkBlob slot blob = .inl reason) (tag : Nat) :
    s.blobWhole tag slot blob = s.blobRefused tag slot reason := by
  rw [State.blobWhole, h]
/-- A good blob for a slot that serves no namespace waits for the slot's old requests. -/
theorem State.blobWhole_of_unbound {s : State} {slot : Nat} {blob : List Byte} {ks : KeySet} (h : s.checkBlob slot blob = .inr ks) (hroot : slot ≠ 0x1FFF)
    (hpending : (s.keySlot slot).pending = false) (hrevoking : (s.keySlot slot).revoking = false) (hbound : s.boundTo slot = none) (tag : Nat) :
    s.blobWhole tag slot blob = s.pendKeys slot ks blob tag := by
  rw [State.blobWhole, h]
  simp [hroot, hpending, hrevoking, hbound]

section AtHand
variable {s u : State} {tag cid : Nat} {c : Cmd} {q : Sq} {x : SqSide} {cq : Cq}

/-- A blob that is refused leaves its code, and ends its command with the reason. -/
theorem AtHand.blobRefused (h : AtHand u tag c q x cq cid) {slot reason : Nat} {blob : List Byte} (hcheck : u.checkBlob slot blob = .inl reason) {t : State}
    (ht : t = ((u.modCmd tag fun c => { c with started := true }).blobWhole tag slot blob).postAll.arrayPump) :
    Answered t tag q x cq cid { invalidField with dw0 := reason } c.out ∧ t.cipher = u.cipher := by
  rw [State.blobWhole_of_refused (s := u.modCmd tag _) hcheck] at ht
  subst ht
  refine ⟨h.finish _ 0 (State.leave_fe _ _ _ _) ?_, ?_⟩
  · simpa using h.awake
  · rw [State.posted_cipher]
    simp

/-- A good blob for a slot that serves no namespace is pending, and its command waits. -/
theorem AtHand.blobPends (h : AtHand u tag c q x cq cid) {n : Nat} {ks : KeySet} {blob : List Byte} (hcheck : u.checkBlob n blob = .inr ks) (hroot : n ≠ 0x1FFF)
    (hpending : (u.keySlot n).pending = false) (hrevoking : (u.keySlot n).revoking = false) (hbound : u.boundTo n = none) {t : State}
    (ht : t = ((u.modCmd tag fun c => { c with started := true }).blobWhole tag n blob).postAll.arrayPump) :
    t.cmd tag = some { c with started := true } ∧ (t.keySlot n).pendingKeys = some ks ∧ (t.keySlot n).sgen = ((u.keySlot n).sgen + 1) % 2 ^ 32 ∧
      (t.keySlot n).pendingTag = some tag := by
  rw [State.blobWhole_of_unbound (s := u.modCmd tag _) hcheck hroot hpending hrevoking hbound] at ht
  subst ht
  rw [State.posted_keySlot, State.pendKeys, State.modSlot_keySlot]
  exact ⟨h.waits_row rfl, rfl, rfl, rfl⟩

/-- What a part of a blob comes to: it is out of order, kept, or the last one. -/
theorem AtHand.blobPart (h : AtHand s tag c q x cq cid) (buf : Nat) {before : List (List Byte)} (hbefore : before = s.blobBefore c.ctrl (cipherSlot c)) {t : State}
    (ht : t = ((s.modCmd tag fun c => { c with started := true }).blobPart tag c buf).postAll.arrayPump) :
    (cipherPart c ≠ 0 → before.length ≠ cipherPart c → Served s t tag q x cq cid sequenceError c.out) ∧
    (cipherPart c < 3 → cipherPart c = 0 ∨ before.length = cipherPart c →
      Served (s.setBlobs (Table.set s.cipher.blobs c.ctrl { slot := cipherSlot c, parts := (if cipherPart c = 0 then [] else before) ++ [toBytes 32 buf] }))
        t tag q x cq cid ok c.out) ∧
    (cipherPart c = 3 → before.length = 3 → t = (((s.setBlobs (Table.del s.cipher.blobs c.ctrl)).modCmd tag fun c => { c with started := true }).blobWhole tag (cipherSlot c)
      (before ++ [toBytes 32 buf]).flatten).postAll.arrayPump) := by
  have hstands : (s.modCmd tag fun c => { c with started := true }).blobBefore c.ctrl (cipherSlot c) = before := hbefore.symm
  rw [State.blobPart_eq, hstands] at ht
  subst ht
  refine ⟨fun hpart hlength => ?_, fun hpart hnext => ?_, fun hpart hlength => ?_⟩
  · rw [if_pos ⟨hpart, hlength⟩]
    exact h.served_finish _ 0 (Begun.self s tag)
  · rw [if_neg (not_and_not_right.mpr hnext.resolve_left), if_neg (Nat.ne_of_lt hpart), show (if cipherPart c = 0 then [toBytes 32 buf] else before ++ [toBytes 32 buf]) =
      (if cipherPart c = 0 then [] else before) ++ [toBytes 32 buf] by split <;> rfl]
    exact AtHand.served_finish (h.of_desk (by rfl)) ok 0 (Begun.self _ tag)
  · rw [if_neg (by omega), if_pos hpart, if_neg (by omega)]
    rfl

end AtHand

/-! ### SLOT_REWRITE_INSTALL (R310) -/

/-- The rewrite that waits is taken off its slot. -/
def State.takePending (s : State) (n : Nat) : State :=
  s.modSlot n fun k => { k with pendingLabel := none, pendingKeys := none, pendingTag := none, pendingBlob := [], pendingPurpose := 0 }
/-- The label or the keys that waited on slot `k` are installed. -/
def State.installRewrite (s : State) (n : Nat) (k : KeySlot) : State :=
  match k.pendingLabel, k.pendingKeys with
  | some l, _ => s.installLabel n l
  | none, some ks => s.installKeys n ks k.pendingBlob k.pendingPurpose
  | none, none => s
/-- A request that waits for a slot's keys takes them. -/
def CipherReq.handed (n : Nat) (keys : Option KeySet) (r : CipherReq) : CipherReq := if r.slot = n ∧ r.keys.isNone then { r with keys := keys } else r
def State.handKeys (s : State) (n : Nat) : State :=
  { s with cipher := { s.cipher with reqs := s.cipher.reqs.map fun (i, r) => (i, r.handed n (s.keySlot n).current) } }
/-- A rewrite has been installed, but for the end of its command. -/
def State.rewritten (s : State) (n : Nat) : State := ((s.takePending n).installRewrite n (s.keySlot n)).handKeys n

theorem State.installPending_eq (s : State) (n : Nat) :
    s.installPending n = (match (s.keySlot n).pendingTag with | some t => (s.rewritten n).finish t ok | none => s.rewritten n) := by
  unfold State.installPending State.rewritten State.handKeys State.installRewrite
  rfl

theorem State.installRewrite_installs (s : State) (n : Nat) (k : KeySlot) : SlotInstalls s (s.installRewrite n k) n := by
  unfold State.installRewrite
  split
  · exact s.installLabel_installs n _
  · exact s.installKeys_installs n _ _ _
  · exact .refl s n

/-- What a rewrite leaves: nothing pending, the front end as it was, and the requests with the new keys. -/
theorem State.rewritten_spec (s : State) (n : Nat) : (s.rewritten n).fe = s.fe ∧ ((s.rewritten n).keySlot n).pending = false ∧
    ∀ i, Table.find (s.rewritten n).cipher.reqs i = (Table.find s.cipher.reqs i).map (CipherReq.handed n ((s.rewritten n).keySlot n).current) := by
  have installed := (s.takePending n).installRewrite_installs n (s.keySlot n)
  refine ⟨installed.fe, installed.pending.trans ?_, fun i => ?_⟩
  · rw [State.takePending, State.modSlot_keySlot]
    rfl
  · refine (Table.find_map_snd _ _ i).trans ?_
    rw [installed.reqs]
    rfl
theorem State.rewritten_label {s : State} {n : Nat} {l : BitVec 256} (h : (s.keySlot n).pendingLabel = some l) :
    ∃ ks, ((s.rewritten n).keySlot n).serves = (1, labelPurpose l, l, some ks) := by
  have hinstall : (s.takePending n).installRewrite n (s.keySlot n) = (s.takePending n).installLabel n l := by simp only [State.installRewrite, h]
  rw [State.rewritten, hinstall]
  exact (s.takePending n).installLabel_serves n l
theorem State.rewritten_keys {s : State} {n : Nat} {ks : KeySet} (hlabel : (s.keySlot n).pendingLabel = none) (h : (s.keySlot n).pendingKeys = some ks) :
    ((s.rewritten n).keySlot n).kind = 2 ∧ ((s.rewritten n).keySlot n).current = some ks := by
  have hinstall : (s.takePending n).installRewrite n (s.keySlot n) =
      (s.takePending n).installKeys n ks (s.keySlot n).pendingBlob (s.keySlot n).pendingPurpose := by simp only [State.installRewrite, hlabel, h]
  rw [State.rewritten, hinstall]
  exact (s.takePending n).installKeys_serves n ks _ _

/-- The end of a rewrite's command leaves the cipher engine alone. -/
theorem State.installPending_cipher (s : State) (n : Nat) : (s.installPending n).cipher = (s.rewritten n).cipher := by
  rw [State.installPending_eq]
  split <;> simp
theorem State.installPending_keySlot (s : State) (n m : Nat) : (s.installPending n).keySlot m = (s.rewritten n).keySlot m := by
  rw [State.keySlot, State.installPending_cipher, State.keySlot]
/-- The rewrite's command ends with success. -/
theorem State.installPending_cmd {s : State} {n g : Nat} {c : Cmd} (htag : (s.keySlot n).pendingTag = some g) (hrow : s.cmd g = some c) (hopen : c.result = none) :
    (s.installPending n).cmd g = some { c with result := some ok, started := true } := by
  obtain ⟨hfe, -, -⟩ := s.rewritten_spec n
  have hnow : (s.rewritten n).cmd g = some c := by rw [State.cmd, hfe]; exact hrow
  rw [State.installPending_eq, htag]
  exact (State.finishCode_spec hnow hopen).1

theorem execSlotRewriteInstall_quiet {s : State} {n : Nat} (hpending : (s.keySlot n).pending = true) (hquiet : s.slotQuiet n = true) :
    exec (.slotRewriteInstall n) s = .next (s.installPending n).settle := by
  refine Eq.trans (b := execSlotRewriteInstall n s) rfl ?_
  simp [execSlotRewriteInstall, hpending, hquiet]
theorem execSlotRewriteInstall_idle {s : State} {n : Nat} (h : (s.keySlot n).pending = false ∨ s.slotQuiet n = false) : exec (.slotRewriteInstall n) s = .next s := by
  refine Eq.trans (b := execSlotRewriteInstall n s) rfl ?_
  rcases h with h | h <;> simp [execSlotRewriteInstall, h]

/-! ### O18 -/

/-- Settles O18: a LABEL and a part of a blob by what refuses them, what is kept and what waits; the install by what the rewrite leaves of its slot, of the
requests that wait for it, and of its command. -/
theorem slotsTakeLabelsAndBlobs : Obligations.SlotsTakeLabelsAndBlobs := by
  unfold Obligations.SlotsTakeLabelsAndBlobs
  refine ⟨fun s tag c q x cq cid buf h hw hop => ?label, fun s tag c q x cq cid buf h hw hop hclean => ?blob, fun s n hpending hquiet => ?install,
    fun s n => execSlotRewriteInstall_idle⟩
  case label =>
    refine ⟨fun hbad => ⟨_, rfl, h.refusesCipherOp hw hop (by simp [hbad])⟩, fun hclean n k hn hk => ?_⟩
    subst hn hk
    obtain ⟨hbad, hgood⟩ := h.labelSet (cipherSlot c) buf rfl
    have hexec := h.cipherOp (slotOk := fun _ => true) (f := fun s c => s.labelSet tag (cipherSlot c) buf) hw hop hclean rfl
    rw [← hexec] at hbad hgood
    refine ⟨fun hlabel => ⟨_, rfl, hbad hlabel⟩, fun hlabel hbusy => ⟨_, rfl, (hgood hlabel).1 (.inr hbusy)⟩, fun hlabel hheld => ⟨_, rfl, (hgood hlabel).1 (.inl ?_)⟩,
      fun hlabel hpending hrevoking hbound hempty => ⟨_, rfl, ?_⟩, fun hlabel hpending hrevoking hbound hkind => ⟨_, rfl, ?_⟩⟩
    · obtain ⟨m, hbound, hmapped⟩ := hheld
      rw [State.slotHeld, hbound]
      exact hmapped
    · obtain ⟨hanswered, ⟨ks, hserves⟩, hothers⟩ := ((hgood hlabel).2 (by rw [State.slotHeld, hbound]) hpending hrevoking).1 hempty
      simp only [KeySlot.serves, Prod.mk.injEq] at hserves
      obtain ⟨hkind, hpurpose, hlabelled, hkeys⟩ := hserves
      exact ⟨hanswered, hkind, hpurpose, hlabelled, by rw [hkeys]; rfl, hothers⟩
    · exact ((hgood hlabel).2 (by rw [State.slotHeld, hbound]) hpending hrevoking).2 hkind
  case blob =>
    intro n p before hn hp hbefore
    subst hn hp
    obtain ⟨horder, hkept, hlast⟩ := h.blobPart buf.toNat (before := before) hbefore rfl
    have hexec := h.cipherOp (slotOk := fun _ => true) (f := fun s c => s.blobPart tag c buf.toNat) hw hop hclean rfl
    rw [← hexec] at horder hkept hlast
    have hdesk := h.of_desk (u := s.setBlobs (Table.del s.cipher.blobs c.ctrl)) rfl
    refine ⟨fun hpart hlength => ⟨_, rfl, horder hpart hlength⟩, fun hpart hnext => ⟨_, rfl, hkept hpart hnext⟩, fun hpart hlength reason hcheck => ⟨_, rfl, ?_⟩,
      fun hpart hlength ks hcheck hroot hpending hrevoking hbound => ⟨_, rfl, ?_⟩⟩
    · obtain ⟨hanswered, hcipher⟩ := hdesk.blobRefused hcheck (hlast hpart hlength)
      exact ⟨hanswered, (congrArg CipherState.slots hcipher :), (congrArg (fun y : CipherState => Table.find y.blobs c.ctrl) hcipher).trans (Table.find_del_self _ _)⟩
    · exact hdesk.blobPends hcheck hroot hpending hrevoking hbound (hlast hpart hlength)
  case install =>
    obtain ⟨-, hnone, hreqs⟩ := s.rewritten_spec n
    refine ⟨_, execSlotRewriteInstall_quiet hpending hquiet, ?_⟩
    rw [State.installPending_keySlot, State.installPending_cipher]
    refine ⟨hnone, fun l hlabel => ?_, fun ks => State.rewritten_keys, fun i r hreq hslot hkeys => ?_, fun g c => State.installPending_cmd⟩
    · obtain ⟨ks, hserves⟩ := State.rewritten_label hlabel
      simp only [KeySlot.serves, Prod.mk.injEq] at hserves
      obtain ⟨hkind, hpurpose, hlabelled, -⟩ := hserves
      exact ⟨hkind, hlabelled, hpurpose⟩
    · rw [hreqs, hreq]
      simp [CipherReq.handed, hslot, hkeys]

end Sys2Proof.Machine
end

section
/-! CIPHER_BIND_SET, CIPHER_BIND_GET, CIPHER_ERASE and CIPHER_STATUS (O19): R292 to R294, R311. -/
namespace Sys2Proof.Machine

/-! ### BIND (R292, R293) -/

/-- A namespace takes a slot and a PAD_MODE. -/
def State.bindTo (s : State) (nsid : Nat) (n : Namespace) (buf : Nat) : State :=
  { s with fe := { s.fe with spaces := Table.set s.fe.spaces nsid { n with slot := bitField buf 0 13, padMode := bitField buf 14 2 } } }

/-- A namespace at hand in a BIND: what it holds and what the slot is decide. -/
theorem State.bindSet_of_some {s : State} {c : Cmd} {n : Namespace} (h : Table.find s.fe.spaces (sqeNsid c.entry) = some n) (tag buf : Nat) : s.bindSet tag c buf =
    if s.holdsMapped n.nsx = true ∨ (s.keySlot n.slot).sweep = true then s.finish tag sequenceError
    else if bitField buf 14 2 = 3 ∨ (s.keySlot (bitField buf 0 13)).kind = 0 ∨ (s.keySlot (bitField buf 0 13)).purpose ≠ 1 ∨
      (s.fe.spaces.any fun (i, m) => decide (i ≠ sqeNsid c.entry) && decide (m.slot = bitField buf 0 13)) = true then s.finish tag invalidField
    else (s.bindTo (sqeNsid c.entry) n buf).finish tag ok := by
  unfold State.bindSet
  dsimp only
  rw [h]
  rfl
theorem State.bindSet_of_none {s : State} {c : Cmd} (h : Table.find s.fe.spaces (sqeNsid c.entry) = none) (tag buf : Nat) :
    s.bindSet tag c buf = s.finish tag (stat 0 0x0B) := by
  rw [State.bindSet, h]
theorem State.bindGet_of_some {s : State} {c : Cmd} {n : Namespace} (h : Table.find s.fe.spaces (sqeNsid c.entry) = some n) (hsel : getSel c = 0) (tag : Nat) :
    s.bindGet tag c = s.answer tag (toBytes 32 (s.cipherNs n)) := by
  rw [State.bindGet, h]
  simp only [State.getBuffer, hsel]
theorem State.bindGet_of_none {s : State} {c : Cmd} (h : Table.find s.fe.spaces (sqeNsid c.entry) = none) (tag : Nat) :
    s.bindGet tag c = s.finish tag (stat 0 0x0B) := by
  rw [State.bindGet, h]

section AtHand
variable {s u : State} {tag cid : Nat} {c : Cmd} {q : Sq} {x : SqSide} {cq : Cq}

/-- What a BIND of a namespace comes to. -/
theorem AtHand.bindSet (h : AtHand s tag c q x cq cid) {n : Namespace} (hn : Table.find s.fe.spaces (sqeNsid c.entry) = some n) (buf : Nat) {t : State}
    (ht : t = ((s.modCmd tag fun c => { c with started := true }).bindSet tag c buf).postAll.arrayPump) :
    if s.holdsMapped n.nsx = true ∨ (s.keySlot n.slot).sweep = true then Served s t tag q x cq cid sequenceError c.out
    else if bitField buf 14 2 = 3 ∨ (s.keySlot (bitField buf 0 13)).kind = 0 ∨ (s.keySlot (bitField buf 0 13)).purpose ≠ 1 ∨
      (s.fe.spaces.any fun (i, m) => decide (i ≠ sqeNsid c.entry) && decide (m.slot = bitField buf 0 13)) = true then Served s t tag q x cq cid invalidField c.out
    else Served (s.bindTo (sqeNsid c.entry) n buf) t tag q x cq cid ok c.out := by
  have hslot : ∀ m, (s.modCmd tag fun c => { c with started := true }).keySlot m = s.keySlot m := fun _ => rfl
  have hmapped : ∀ m, (s.modCmd tag fun c => { c with started := true }).holdsMapped m = s.holdsMapped m := fun _ => rfl
  have hspaces : (s.modCmd tag fun c => { c with started := true }).fe.spaces = s.fe.spaces := rfl
  rw [State.bindSet_of_some (s := s.modCmd tag _) hn] at ht
  simp only [hslot, hmapped, hspaces] at ht
  subst ht
  split_ifs
  · exact h.served_finish _ 0 (Begun.self s tag)
  · exact h.served_finish _ 0 (Begun.self s tag)
  · exact AtHand.served_finish (h.of_desk (by rfl)) ok 0 (Begun.self _ tag)

end AtHand

/-! ### ERASE (R311) -/

/-- A slot has been revoked: both key sets are gone, SGEN is `sgen`, and no request of it is left. -/
structure SlotRevoked (t : State) (n sgen : Nat) : Prop where
  current : (t.keySlot n).current = none
  previous : (t.keySlot n).previous = none
  sgen : (t.keySlot n).sgen = sgen
  reqs : ∀ i r, Table.find t.cipher.reqs i = some r → r.slot ≠ n

theorem SlotRevoked.of_cipher {s t : State} {n sgen : Nat} (h : SlotRevoked s n sgen) (hcipher : t.cipher = s.cipher) : SlotRevoked t n sgen := by
  have hslot : t.keySlot n = s.keySlot n := by rw [State.keySlot, hcipher, State.keySlot]
  exact ⟨by rw [hslot, h.current], by rw [hslot, h.previous], by rw [hslot, h.sgen], by rw [hcipher]; exact h.reqs⟩

theorem State.revokeSlot_revoked (s : State) (n : Nat) : SlotRevoked (s.revokeSlot n) n (((s.keySlot n).sgen + 1) % 2 ^ 32) := by
  have hslot : (s.revokeSlot n).keySlot n = (s.keySlot n).revoked := s.modSlot_keySlot n KeySlot.revoked
  refine ⟨by rw [hslot]; rfl, by rw [hslot]; rfl, by rw [hslot]; rfl, fun i r hr => ?_⟩
  have hkept := List.mem_filter.mp (Table.mem_of_find hr)
  simpa using hkept.2

theorem State.copyOut_cipher (s : State) (t : Nat) (j : UnitJob) : (s.copyOut t j).cipher = s.cipher :=
  (State.queuePayload_desk _ _ _).2.2.trans (s.dropJob_cipher t)
/-- A request's failure ends its unit or its command, and leaves the cipher engine alone. -/
theorem State.failRequest_cipher (s : State) (w : CipherWork) : (s.failRequest w).cipher = s.cipher := by
  cases w with
  | encrypt t => exact s.jobFails_cipher t _
  | decrypt t => exact s.jobFails_cipher t _
  | rekey t => exact s.jobFails_cipher t _
  | check t =>
    unfold State.failRequest
    dsimp only
    split
    · exact s.copyOut_cipher t _
    · rfl
  | mac g => simp [State.failRequest]
theorem State.failRequests_cipher (s : State) (n : Nat) : (s.failRequests n).cipher = (s.revokeSlot n).cipher := by
  have hmine := fold_left (fun s => s.cipher) (fun s (x : Nat × CipherReq) => s.failRequest x.2.work) (fun s x => s.failRequest_cipher x.2.work)
    (s.cipher.reqs.filter fun (_, r) => r.slot = n) (s.revokeSlot n)
  unfold State.failRequests
  dsimp only
  split
  · simpa using hmine
  · exact hmine

/-- An erase that ends empties its slot, but for SGEN. -/
theorem SlotRevoked.eraseEnds {s : State} {n sgen : Nat} (h : SlotRevoked s n sgen) {e : EraseRun} (hslot : e.slot = n) (hn : n < 4160) (hagain : e.again = none) :
    SlotRevoked (s.eraseEnds e) n sgen := by
  subst hslot
  unfold State.eraseEnds
  rw [if_pos hn, hagain]
  refine SlotRevoked.of_cipher (s := { s.modSlot e.slot fun k => { ({} : KeySlot) with sgen := k.sgen } with
    cipher := { (s.modSlot e.slot fun k => { ({} : KeySlot) with sgen := k.sgen }).cipher with erasing := s.cipher.erasing.filter (·.slot ≠ e.slot) } }) ?_ ?_
  · have hempty := s.modSlot_keySlot e.slot fun k => { ({} : KeySlot) with sgen := k.sgen }
    exact ⟨congrArg KeySlot.current hempty, congrArg KeySlot.previous hempty, (congrArg KeySlot.sgen hempty).trans h.sgen, h.reqs⟩
  · exact fold_left (fun s => s.cipher) _ (fun s t => by simp) e.tags _
theorem SlotRevoked.eraseRecords {s : State} {n sgen : Nat} (h : SlotRevoked s n sgen) (hn : n < 4160) (tags : List Nat) :
    SlotRevoked (s.eraseRecords n tags none) n sgen := by
  unfold State.eraseRecords
  dsimp only
  generalize TsState.purge _ n = z
  have herasing : SlotRevoked { s with ts := z.2, cipher := { s.cipher with erasing := s.cipher.erasing ++
    [{ slot := n, tags := tags, left := z.1, total := z.1.length, again := none }] } } n sgen := ⟨h.current, h.previous, h.sgen, h.reqs⟩
  split
  · exact herasing.eraseEnds rfl hn rfl
  · exact herasing
/-- A slot that is revoked to stay empty holds no keys from the same step on. -/
theorem State.revoke_revoked (s : State) {n : Nat} (hn : n < 4160) (tags : List Nat) :
    SlotRevoked (s.revoke n tags none) n (((s.keySlot n).sgen + 1) % 2 ^ 32) := by
  rw [State.revoke_eq]
  exact (((s.revokeSlot_revoked n).of_cipher (s.failRequests_cipher n)).of_cipher (by simp)).eraseRecords hn tags

/-- A command joins the erases of its slot that run. -/
def EraseRun.joined (e : EraseRun) (n tag : Nat) : EraseRun := if e.slot = n then { e with tags := e.tags ++ [tag] } else e
def State.joinErase (s : State) (n tag : Nat) : State := { s with cipher := { s.cipher with erasing := s.cipher.erasing.map fun e => e.joined n tag } }

theorem State.eraseSlot_of_revoking {s : State} {n : Nat} (h : (s.keySlot n).revoking = true) (tag : Nat) : s.eraseSlot tag n = s.joinErase n tag := by
  unfold State.eraseSlot
  rw [if_pos h]
  rfl
theorem State.eraseSlot_of_empty {s : State} {n : Nat} (hrevoking : (s.keySlot n).revoking = false) (hkind : (s.keySlot n).kind = 0)
    (hrecords : ∀ r ∈ s.ts.records .keyStore, r.ofSlot n = false) (tag : Nat) : s.eraseSlot tag n = s.finish tag ok := by
  have hnone : ((s.ts.records .keyStore).any fun r => r.ofSlot n) = false := by simpa using hrecords
  unfold State.eraseSlot
  simp only [hrevoking, hkind, hnone]
  rfl
theorem State.eraseSlot_of_keyed {s : State} {n : Nat} (hrevoking : (s.keySlot n).revoking = false) (hkind : (s.keySlot n).kind ≠ 0) (tag : Nat) :
    s.eraseSlot tag n = s.revoke n [tag] none := by
  unfold State.eraseSlot
  simp [hrevoking, hkind]

section AtHand
variable {s u : State} {tag cid : Nat} {c : Cmd} {q : Sq} {x : SqSide} {cq : Cq}

/-- What an ERASE of a slot comes to. -/
theorem AtHand.eraseSlot (h : AtHand s tag c q x cq cid) {n : Nat} (hn : n < 4160) {t : State}
    (ht : t = ((s.modCmd tag fun c => { c with started := true }).eraseSlot tag n).postAll.arrayPump) :
    ((s.keySlot n).revoking = false → (s.keySlot n).kind = 0 → (∀ r ∈ s.ts.records .keyStore, r.ofSlot n = false) → Served s t tag q x cq cid ok c.out) ∧
    ((s.keySlot n).revoking = true → t.cmd tag = some { c with started := true } ∧ t.fe.cqs = s.fe.cqs ∧ t.cipher.slots = s.cipher.slots ∧
      ∀ e ∈ s.cipher.erasing, e.slot = n → { e with tags := e.tags ++ [tag] } ∈ t.cipher.erasing) ∧
    ((s.keySlot n).revoking = false → (s.keySlot n).kind ≠ 0 → SlotRevoked t n (((s.keySlot n).sgen + 1) % 2 ^ 32)) := by
  subst ht
  refine ⟨fun hrevoking hkind hrecords => ?empty, fun hrevoking => ?running, fun hrevoking hkind => ?keyed⟩
  case empty =>
    rw [State.eraseSlot_of_empty (s := s.modCmd tag _) hrevoking hkind hrecords]
    exact h.served_finish ok 0 (Begun.self s tag)
  case running =>
    rw [State.eraseSlot_of_revoking (s := s.modCmd tag _) hrevoking, State.posted_cipher]
    refine ⟨h.waits_row rfl, h.waits_cqs rfl, rfl, fun e he hslot => List.mem_map.mpr ⟨e, he, ?_⟩⟩
    rw [EraseRun.joined, if_pos hslot]
  case keyed =>
    rw [State.eraseSlot_of_keyed (s := s.modCmd tag _) hrevoking hkind]
    exact ((s.modCmd tag _).revoke_revoked hn [tag]).of_cipher (State.posted_cipher _)

end AtHand

/-! ### O19 -/

/-- Settles O19: a BIND by what it refuses and the namespace it leaves, an ERASE by whether its slot is empty, in erase or keyed, and the two Gets by what they
return. -/
theorem slotsAreBoundErasedAndRead : Obligations.SlotsAreBoundErasedAndRead := by
  unfold Obligations.SlotsAreBoundErasedAndRead
  intro s tag c q x cq cid h
  refine ⟨fun hw hop buf => ?bindSet, fun hw hop hclean => ?bindGet, fun hw hop hclean => ?erase, fun hw hop hclean => ?status⟩
  case bindSet =>
    have hexec := h.cipherOp (slotOk := fun _ => true) (f := fun s c => s.bindSet tag c buf.toNat) hw hop
    refine ⟨fun hbad => ⟨_, rfl, h.refusesCipherOp hw hop (by simp [hbad])⟩, fun hclean hnone => ⟨_, rfl, ?_⟩,
      fun hclean n hn => ⟨_, rfl, h.bindSet hn buf.toNat (hexec hclean rfl)⟩⟩
    rw [hexec hclean rfl]
    rw [State.bindSet_of_none (s := s.modCmd tag _) hnone]
    exact h.served_finish _ 0 (Begun.self s tag)
  case bindGet =>
    have hexec := h.cipherOp (slotOk := fun _ => true) (f := fun s c => s.bindGet tag c) hw hop hclean rfl
    refine ⟨fun n hn hsel => ⟨_, rfl, ?_⟩, fun hnone => ⟨_, rfl, ?_⟩⟩
    · rw [hexec]
      rw [State.bindGet_of_some (s := s.modCmd tag _) hn hsel]
      exact h.served_answer _ (Begun.self s tag)
    · rw [hexec]
      rw [State.bindGet_of_none (s := s.modCmd tag _) hnone]
      exact h.served_finish _ 0 (Begun.self s tag)
  case erase =>
    refine ⟨fun hslot => ⟨_, rfl, h.refusesCipherOp (slotOk := fun c => decide (cipherSlot c < 4160)) hw hop (by simp [hslot])⟩, fun hslot k hk => ?_⟩
    subst hk
    obtain ⟨hempty, hrunning, hkeyed⟩ := h.eraseSlot hslot (h.cipherOp (slotOk := fun c => decide (cipherSlot c < 4160))
      (f := fun s c => s.eraseSlot tag (cipherSlot c)) hw hop hclean (by simp [hslot]))
    refine ⟨fun hrevoking hkind hrecords => ⟨_, rfl, hempty hrevoking hkind hrecords⟩, fun hrevoking => ⟨_, rfl, hrunning hrevoking⟩,
      fun hrevoking hkind => ⟨_, rfl, ?_⟩⟩
    obtain ⟨hcurrent, hprevious, hsgen, hreqs⟩ := hkeyed hrevoking hkind
    exact ⟨hcurrent, hprevious, hsgen, hreqs⟩
  case status =>
    refine ⟨fun hslot => ⟨_, rfl, h.refusesCipherOp (slotOk := fun c => decide (cipherSlot c < 4160)) hw hop (by simp [hslot])⟩, fun hslot => ⟨_, rfl, ?_⟩⟩
    have hexec := h.cipherOp (slotOk := fun c => decide (cipherSlot c < 4160))
      (f := fun s c => s.getBuffer tag c (s.cipherSlotStatus (cipherSlot c)) 0 (s.cipherSlotStatus (cipherSlot c)) (featCaps true false true)) hw hop hclean (by simp [hslot])
    rw [hexec]
    exact h.getBuffer (Begun.self s tag) _ _ _

end Sys2Proof.Machine
end

section
/-! One step (O55) and the JTAG port (O1, O2): the front of the queue, the public instructions, and what a boundary-scan instruction does to the device (R464, R465). -/
namespace Sys2Proof.Machine

/-! ### A step (log 2) -/

/-- Settles O55: a step is `exec` on the queue's front, by the definitions of `step` and of the decoder. -/
theorem stepTakesTheFrontCommand : Obligations.StepTakesTheFrontCommand := by
  unfold Obligations.StepTakesTheFrontCommand
  refine ⟨fun i rest s => rfl, fun s h => ?_, fun nbits w => rfl, fun s nbits w => rfl⟩
  unfold step
  rw [h]

/-! ### Instructions that leave the balls alone (R464) -/

theorem State.jtagLoad_freed (s : State) (i : JtagInstr) (out : List Bool) : ScanFreed s (s.jtagLoad i out) i out := by
  refine ⟨rfl, rfl, rfl, fun hwaits => ?_⟩
  unfold State.jtagLoad
  simp only [hwaits, Option.isSome_none, Bool.or_false]
  split <;> next hrun => rw [← hrun]

theorem State.jtagStep_of_powered {s : State} (h : s.pkg.vddIo = true) (f : State → State) : s.jtagStep f = f s := if_pos h

/-- Loading an instruction, on a port that has its supply, frees the balls. -/
theorem State.jtagStep_freed {s : State} (h : s.pkg.vddIo = true) (i : JtagInstr) (out : List Bool) :
    ∃ t, Host.Outcome.next (ρ := Refusal) (φ := Fault) (s.jtagStep fun s => s.jtagLoad i out) = .next t ∧ ScanFreed s t i out :=
  ⟨s.jtagLoad i out, by rw [State.jtagStep_of_powered h], s.jtagLoad_freed i out⟩

/-! ### Boundary-scan instructions (R465) -/

/-- The instruction's data register is selected. -/
def State.scanShifts (s : State) (out : List Bool) : State := { s with pkg := { s.pkg with jtagOut := out } }
/-- The instruction waits for a dump. -/
def State.scanWaits (s : State) (i : JtagInstr) (out : List Bool) : State := { s with pkg := { s.pkg with jtagOut := out, jtagWaiting := some i } }
/-- The instruction takes the balls. -/
def State.scanTakes (s : State) (i : JtagInstr) (out : List Bool) : State := { s with pkg := { s.pkg with jtagOut := out, jtag := i, ballsTaken := true } }

theorem State.takeScan_of_running {s : State} (hrun : s.dump.run.isSome) (i : JtagInstr) (out : List Bool) : s.takeScan i out = s.scanWaits i out := by
  unfold State.takeScan
  exact if_pos hrun

theorem State.takeScan_of_startable {s : State} (hrun : s.dump.run = none) (hactive : s.dump.active.isSome) (hsince : s.dump.since = false) (i : JtagInstr) (out : List Bool) :
    s.takeScan i out = ((s.scanWaits i out).startDump 1 true).arrayPump := by
  unfold State.takeScan
  simp only [hrun, hactive, hsince]
  rfl

theorem State.takeScan_of_undumpable {s : State} (hrun : s.dump.run = none) (hnone : s.dump.active = none ∨ s.dump.since = true) (i : JtagInstr) (out : List Bool) :
    s.takeScan i out = if s.ts.bootStep = 0 then s.scanTakes i out
      else (s.scanTakes i out).stopFront.zeroize.holdMain (s.dump.holds.filter (· ≠ 4) ++ [4]) := by
  unfold State.takeScan
  rw [if_neg (by simp [hrun]), if_neg (by rcases hnone with h | h <;> simp [h])]
  rfl

theorem State.takeScan_taken {s : State} (hrun : s.dump.run = none) (hactive : s.dump.active = none) (i : JtagInstr) (out : List Bool) :
    (s.takeScan i out).pkg.jtag = i ∧ (s.takeScan i out).pkg.ballsTaken = true ∧ (s.takeScan i out).pkg.jtagOut = out := by
  rw [State.takeScan_of_undumpable hrun (.inl hactive)]
  split <;> exact ⟨rfl, rfl, rfl⟩

/-- Settles O1: the six public instructions. -/
theorem jtagPortRunsItsPublicInstructions : Obligations.JtagPortRunsItsPublicInstructions := by
  unfold Obligations.JtagPortRunsItsPublicInstructions
  refine ⟨fun s h => ⟨State.jtagStep_freed h .idcode idcodeBits, State.jtagStep_freed h .idcode idcodeBits, State.jtagStep_freed h .bypass [false],
    fun cells => State.jtagStep_freed h .samplePreload cells, fun hrun hactive => ?_⟩, by decide, by decide, fun i => by cases i <;> decide⟩
  have htaken (i : JtagInstr) (out : List Bool) := State.takeScan_taken hrun hactive i out
  refine ⟨⟨_, ?_, htaken .extest s.pkg.jtagOut⟩, ⟨_, ?_, htaken .clamp [false]⟩, ⟨_, ?_, htaken .highz [false]⟩⟩ <;>
    exact congrArg Host.Outcome.next (State.jtagStep_of_powered h _)

/-! ### A dump that starts leaves the package and the keys -/

theorem State.recordEvent_pkg (s : State) (code sev : Nat) (xs : List Nat) : (s.recordEvent code sev xs).pkg = s.pkg := by
  unfold State.recordEvent State.putRecord
  (repeat' split) <;> rfl
@[simp] theorem State.leave_pkg (s : State) (code sev : Nat) (xs : List Nat) : (s.leave code sev xs).pkg = s.pkg := s.recordEvent_pkg code sev xs

theorem State.dumpAnnounced_pkg (s : State) (cause : Nat) : (s.dumpAnnounced cause).pkg = s.pkg ∧ (s.dumpAnnounced cause).cipher = s.cipher := by
  unfold State.dumpAnnounced
  split
  · exact ⟨s.leave_pkg .., (State.leave_kept s ..).2.2.2.2.2.2.2.2.2.2.2.2.2.2.2.1⟩
  · simp

theorem State.dumpWritten_pkg (s : State) (r : DumpRun) (set : Bool) : (s.dumpWritten r set).pkg = s.pkg ∧ (s.dumpWritten r set).cipher = s.cipher := by
  have hblocks := fold_left (fun t => (t.pkg, t.cipher)) (fun s b => s.modBlk b fun r => { r with programmed := 1 }) (fun _ _ => rfl) (s.dump.hold set) s
  simp only [Prod.mk.injEq] at hblocks
  unfold State.dumpWritten
  dsimp only
  split <;> exact hblocks

/-- A dump that starts leaves the package, the key slots and the hold on reset as they were. -/
theorem State.startDump_pkg {s : State} {set : Bool} (hactive : s.dump.active = some set) (hsince : s.dump.since = false) (cause : Nat) (scan : Bool) :
    (s.startDump cause scan).pkg = s.pkg ∧ (s.startDump cause scan).cipher.slots = s.cipher.slots ∧ (s.startDump cause scan).dump.inReset = s.dump.inReset := by
  obtain ⟨-, -, -, -, hdump, -⟩ := s.dumpAnnounced_kept cause
  obtain ⟨hpkg, hcipher⟩ := s.dumpAnnounced_pkg cause
  rw [State.startDump_eq hactive hsince]
  generalize (s.dumpAnnounced cause).dumpRunOf cause (s.dump.serial + 1) set scan = r
  obtain ⟨-, -, wdump, -, -, -⟩ := ((s.dumpAnnounced cause).dumpBegun r set).dumpWritten_kept r set
  obtain ⟨wpkg, wcipher⟩ := ((s.dumpAnnounced cause).dumpBegun r set).dumpWritten_pkg r set
  refine ⟨by rw [wpkg, ← hpkg]; rfl, by rw [wcipher, ← hcipher]; rfl, ?_⟩
  rw [wdump, ← hdump]
  rfl

theorem zeroize_slot {s : State} {n : Nat} {k : KeySlot} (h : Table.find s.zeroize.cipher.slots n = some k) : k.current = none ∧ k.previous = none := by
  obtain ⟨k, -, rfl⟩ := Option.map_eq_some_iff.mp ((Table.find_map_snd (fun k : KeySlot => { k with current := none, previous := none }) s.cipher.slots n).symm.trans h)
  exact ⟨rfl, rfl⟩

/-- What a hold of the main domain changes beside DRAM and the heartbeats, and what it leaves (R226, R459). -/
theorem State.holdMain_leaves (s : State) (holds : List Nat) : (s.holdMain holds).pkg = { s.pkg with vcoreReq := 20 } ∧
    (s.holdMain holds).dump = { s.dump with inReset := true, holds := holds } ∧ (s.holdMain holds).fe = s.fe ∧ (s.holdMain holds).media = s.media ∧
    (s.holdMain holds).ts = s.ts ∧ (s.holdMain holds).cipher = s.cipher := by
  simp [State.holdMain, State.heartbeatsLow]

/-- A boundary-scan instruction's meaning is `takeScan` while VDD_IO stands. -/
def ScanRuns (s : State) (i : Instr) (j : JtagInstr) (out : List Bool) : Prop := exec i s = .next (if s.pkg.vddIo then s.takeScan j out else s)

theorem scanRuns {s : State} {i : Instr} {j : JtagInstr} {out : List Bool}
    (h : (i = .jtagExtest ∧ j = .extest ∧ out = s.pkg.jtagOut) ∨ (i = .jtagClamp ∧ j = .clamp ∧ out = [false]) ∨ (i = .jtagHighz ∧ j = .highz ∧ out = [false])) :
    ScanRuns s i j out := by
  rcases h with ⟨rfl, rfl, rfl⟩ | ⟨rfl, rfl, rfl⟩ | ⟨rfl, rfl, rfl⟩ <;> rfl

/-- Settles O2: by the dump that runs, the dump that can start, and neither. -/
theorem scanInstructionsHoldTheDevice : Obligations.ScanInstructionsHoldTheDevice := by
  unfold Obligations.ScanInstructionsHoldTheDevice
  intro s i j out hi
  have hruns : exec i s = .next (if s.pkg.vddIo then s.takeScan j out else s) := scanRuns hi
  rw [hruns]
  refine ⟨fun hdown => by rw [if_neg (by simp [hdown])], fun hup hrun => ?_, fun hup hrun hactive hsince => ?_, fun hup hrun hnone => ?_⟩ <;> rw [if_pos hup]
  · rw [State.takeScan_of_running hrun]
    rfl
  · rw [State.takeScan_of_startable hrun hactive hsince]
    obtain ⟨set, hset⟩ := Option.isSome_iff_exists.mp hactive
    obtain ⟨r, hr, hcause, -, hserial, -, -, -, -, hdumped, -, hstopped, -⟩ := State.startDump_started (s := s.scanWaits j out) hset hsince 1 true
    obtain ⟨hpkg, hslots, hreset⟩ := State.startDump_pkg (s := s.scanWaits j out) hset hsince 1 true
    exact ⟨_, r, rfl, hpkg, hstopped, hdumped, hr, hcause, hserial, hslots, hreset⟩
  · rw [State.takeScan_of_undumpable hrun hnone]
    refine ⟨fun hboot => by rw [if_pos hboot]; rfl, fun hboot => ⟨_, rfl, ?_⟩⟩
    rw [if_neg hboot]
    obtain ⟨hpkg, hdump, hfe, hmedia, hts, hcipher⟩ := State.holdMain_leaves (s.scanTakes j out).stopFront.zeroize (s.dump.holds.filter (· ≠ 4) ++ [4])
    rw [hpkg, hdump, hfe, hmedia, hts, hcipher]
    exact ⟨rfl, rfl, rfl, by simp, rfl, rfl, fun _ _ => zeroize_slot⟩

end Sys2Proof.Machine
end

section
/-! DRAM's refreshes and power states (O42): refreshes that are due or postponed, neighbour refreshes, power-down and self-refresh (R347 to R351). -/
namespace Sys2Proof.Machine

/-! ### Activates (R350) -/

/-- Activates in a bank of one rank: nothing but DRAM has changed, and of the rank its open rows and its power stand; neighbour refreshes of rows that satisfy
`P` may have joined the bank's list. -/
structure Activated (P : Nat → Prop) (s u : State) (k bank : Nat) : Prop where
  frame : ∃ d, u = { s with dram := d }
  count : u.dram.neighbours = s.dram.neighbours
  others : ∀ j, j ≠ k → u.rank j = s.rank j
  rows : (u.rank k).rows = (s.rank k).rows
  power : (u.rank k).power = (s.rank k).power
  drawn : ∃ drawn : List Nat, Table.getD (u.rank k).neighbour bank [] = Table.getD (s.rank k).neighbour bank [] ++ drawn ∧ ∀ x ∈ drawn, P x

theorem Activated.refl (P : Nat → Prop) (s : State) (k bank : Nat) : Activated P s s k bank :=
  ⟨⟨s.dram, rfl⟩, rfl, fun _ _ => rfl, rfl, rfl, [], (List.append_nil _).symm, nofun⟩

theorem Activated.trans {P : Nat → Prop} {s u v : State} {k bank : Nat} (h : Activated P s u k bank) (g : Activated P u v k bank) : Activated P s v k bank := by
  obtain ⟨d, rfl⟩ := h.frame
  obtain ⟨e, rfl⟩ := g.frame
  obtain ⟨xs, hxs, hP⟩ := h.drawn
  obtain ⟨ys, hys, hQ⟩ := g.drawn
  refine ⟨⟨e, rfl⟩, g.count.trans h.count, fun j hj => (g.others j hj).trans (h.others j hj), g.rows.trans h.rows, g.power.trans h.power, xs ++ ys, ?_, ?_⟩
  · rw [hys, hxs, List.append_assoc]
  · exact fun x hx => (List.mem_append.mp hx).elim (hP x) (hQ x)

theorem State.activate_activated {P : Nat → Prop} (s : State) (ch rank bank : Nat) {row : Nat} (h : P row) :
    Activated P s (s.activate ch rank bank row) (rankKey ch rank) bank := by
  unfold State.activate
  dsimp only
  split
  · refine ⟨⟨_, rfl⟩, rfl, fun j hj => State.modRank_rank_ne _ _ _ _ hj, by rw [State.modRank_rank]; rfl, by rw [State.modRank_rank]; rfl, [row], ?_, by simpa using h⟩
    rw [State.modRank_rank]
    exact Table.getD_set_self _ _ _ _
  · exact ⟨⟨_, rfl⟩, rfl, fun _ _ => rfl, rfl, rfl, [], (List.append_nil _).symm, nofun⟩

/-! ### A neighbour refresh (R350) -/

/-- A scheduled refresh leaves its bank's list and closes the bank's row. -/
def State.neighbourTaken (s : State) (k bank : Nat) (rest : List Nat) : State :=
  s.modRank k fun r => { r with neighbour := Table.put [] r.neighbour bank rest, rows := Table.del r.rows bank, power := 0 }

/-- The row before an activated one is activated. -/
def State.activateBefore (s : State) (ch rank bank row : Nat) : State := if 0 < row then s.activate ch rank bank (row - 1) else s
/-- The row after it. -/
def State.activateAfter (s : State) (ch rank bank row : Nat) : State := if row + 1 < 2 ^ s.img.rowBits then s.activate ch rank bank (row + 1) else s
/-- The rows beside an activated one are activated, where no RFM command stands for them. -/
def State.activateBeside (s : State) (ch rank bank row : Nat) : State :=
  if s.img.adjMode then s else (s.activateBefore ch rank bank row).activateAfter ch rank bank row

theorem State.activateBeside_activated (s : State) (ch rank bank row : Nat) :
    Activated (fun x => x + 1 = row ∨ x = row + 1) s (s.activateBeside ch rank bank row) (rankKey ch rank) bank := by
  have hbefore : Activated (fun x => x + 1 = row ∨ x = row + 1) s (s.activateBefore ch rank bank row) (rankKey ch rank) bank := by
    unfold State.activateBefore
    split
    · exact s.activate_activated ch rank bank (.inl (by omega))
    · exact .refl ..
  unfold State.activateBeside
  split
  · exact .refl ..
  · refine hbefore.trans ?_
    unfold State.activateAfter
    split
    · exact State.activate_activated _ ch rank bank (.inr rfl)
    · exact .refl ..

theorem execNeighbourRefresh_of_none {s : State} {ch rank bank : Nat} (h : s.bankFitted ch rank bank = false ∨ Table.getD (s.rank (rankKey ch rank)).neighbour bank [] = []) :
    execNeighbourRefresh ch rank bank s = .next s := by
  unfold execNeighbourRefresh
  dsimp only
  split
  · next hfit =>
    rw [h.resolve_left (by simp [hfit])]
  · rfl

/-- One more neighbour refresh has issued. -/
def State.neighbourCounted (s : State) (ch : Nat) : State :=
  (({ s with dram := { s.dram with neighbours := satAdd 32 s.dram.neighbours 1 } } : State).count 0x0A1 ch 1).settleFront

theorem execNeighbourRefresh_of_scheduled {s : State} {ch rank bank row : Nat} {rest : List Nat} (hfit : s.bankFitted ch rank bank = true)
    (hrow : Table.getD (s.rank (rankKey ch rank)).neighbour bank [] = row :: rest) :
    execNeighbourRefresh ch rank bank s = .next (((s.neighbourTaken (rankKey ch rank) bank rest).activateBeside ch rank bank row).neighbourCounted ch) := by
  unfold execNeighbourRefresh
  dsimp only
  rw [if_pos hfit, hrow]
  rfl

theorem State.neighbourCounted_dram (s : State) (ch : Nat) : (s.neighbourCounted ch).dram = { s.dram with neighbours := satAdd 32 s.dram.neighbours 1 } := by
  simp [State.neighbourCounted]

theorem State.neighbourCounted_rank (s : State) (ch j : Nat) : (s.neighbourCounted ch).rank j = s.rank j := by
  unfold State.rank
  rw [State.neighbourCounted_dram]

theorem Table.getD_put_self {α : Type} [DecidableEq α] (d : α) (t : Table α) (k : Nat) (v : α) : Table.getD (Table.put d t k v) k d = v := by
  unfold Table.put
  split
  · next h => simp [Table.getD, h]
  · exact Table.getD_set_self _ _ _ _

/-- What a neighbour refresh that issues leaves (R350). -/
theorem State.neighbourRefreshed {s : State} (ch rank bank row : Nat) (rest : List Nat) {t : State}
    (ht : t = ((s.neighbourTaken (rankKey ch rank) bank rest).activateBeside ch rank bank row).neighbourCounted ch) :
    t.dram.neighbours = satAdd 32 s.dram.neighbours 1 ∧ Table.find (t.rank (rankKey ch rank)).rows bank = none ∧ (t.rank (rankKey ch rank)).power = 0 ∧
      (∀ j, j ≠ rankKey ch rank → t.rank j = s.rank j) ∧
      (∃ drawn, Table.getD (t.rank (rankKey ch rank)).neighbour bank [] = rest ++ drawn ∧ (∀ x ∈ drawn, x + 1 = row ∨ x = row + 1) ∧ (s.img.adjMode = true → drawn = [])) ∧
      (s.img.adjMode = true → t.dram.lfsr = s.dram.lfsr) ∧ SameFrame { s with dram := t.dram } t ∧ SameData s t := by
  have htaken : (s.neighbourTaken (rankKey ch rank) bank rest).rank (rankKey ch rank) = _ := State.modRank_rank _ _ _
  have hother (j : Nat) (hj : j ≠ rankKey ch rank) : (s.neighbourTaken (rankKey ch rank) bank rest).rank j = s.rank j := State.modRank_rank_ne _ _ _ _ hj
  have hadj (h : s.img.adjMode = true) : (s.neighbourTaken (rankKey ch rank) bank rest).activateBeside ch rank bank row = s.neighbourTaken (rankKey ch rank) bank rest := if_pos h
  have hact := (s.neighbourTaken (rankKey ch rank) bank rest).activateBeside_activated ch rank bank row
  obtain ⟨d, hframe⟩ := hact.frame
  obtain ⟨drawn, hdrawn, hrows⟩ := hact.drawn
  have hlist : Table.getD ((s.neighbourTaken (rankKey ch rank) bank rest).rank (rankKey ch rank)).neighbour bank [] = rest := by
    rw [htaken]
    exact Table.getD_put_self _ _ _ _
  subst ht
  simp only [State.neighbourCounted_rank, State.neighbourCounted_dram]
  refine ⟨congrArg (satAdd 32 · 1) hact.count, ?_, ?_, fun j hj => (hact.others j hj).trans (hother j hj), ⟨drawn, by rw [hdrawn, hlist], hrows, fun h => ?_⟩,
    fun h => by rw [hadj h]; rfl, ?_, ?_⟩
  · rw [hact.rows, htaken]
    exact Table.find_del_self _ _
  · rw [hact.power, htaken]
  · rw [hadj h] at hdrawn
    simpa using hdrawn
  · rw [hframe]
    simp [SameFrame, State.neighbourCounted, State.neighbourTaken]
  · rw [hframe]
    simp [SameData, State.neighbourCounted, State.neighbourTaken]

/-! ### Refreshes that are due (R348, R351) -/

theorem execDramRefreshDue_of_not_due {s : State} {ch rank bank : Nat}
    (h : s.bankFitted ch rank bank = false ∨ (s.rank (rankKey ch rank)).power = 2 ∨ s.dram.changing = true) : execDramRefreshDue ch rank bank s = .next s := by
  unfold execDramRefreshDue
  refine if_neg fun ⟨hfit, hpower, hchanging⟩ => ?_
  rcases h with h | h | h <;> simp_all

theorem execDramRefreshDue_of_due {s : State} {ch rank bank : Nat} (hfit : s.bankFitted ch rank bank = true) (hpower : (s.rank (rankKey ch rank)).power ≠ 2)
    (hchanging : s.dram.changing = false) : execDramRefreshDue ch rank bank s =
      if s.waitingReads.any (s.inBank ch rank bank) ∧ natAt (s.rank (rankKey ch rank)).postponed bank < 4 then
        .next (s.modRank (rankKey ch rank) fun r => { r with postponed := updAt r.postponed bank (· + 1) })
      else .next (s.modRank (rankKey ch rank) fun r => { r with postponed := updAt r.postponed bank fun _ => 0, rows := Table.del r.rows bank, power := 0 }) := by
  unfold execDramRefreshDue
  exact if_pos ⟨hfit, hpower, by simp [hchanging]⟩

/-- A change of one rank leaves the others, and every other part of the device. -/
theorem State.modRank_frame (s : State) (k : Nat) (f : Rank → Rank) : { s.modRank k f with dram := s.dram } = s ∧
    { (s.modRank k f).dram with ranks := s.dram.ranks } = s.dram ∧ ∀ j, j ≠ k → (s.modRank k f).rank j = s.rank j :=
  ⟨rfl, rfl, fun _ hj => State.modRank_rank_ne _ _ _ _ hj⟩

/-! ### Power-down and self-refresh (R351) -/

/-- No request and no refresh waits for a rank. -/
def State.rankQuiet (s : State) (ch rank : Nat) : Bool :=
  decide (∀ y ∈ s.waitingReads ++ s.waitingWrites, s.inRank ch rank y = false) && decide (∀ n ∈ (s.rank (rankKey ch rank)).postponed, n = 0) &&
    decide ((s.rank (rankKey ch rank)).neighbour = [])

theorem execRankPowerDown_eq (s : State) (ch rank idle : Nat) : execRankPowerDown ch rank idle s =
    if s.bankFitted ch rank 0 ∧ s.rankQuiet ch rank then
      if s.fe.ps4 = 2 then
        if 100000 ≤ idle then .next (s.modRank (rankKey ch rank) fun r => { r with power := 2, rows := [] }) else .next s
      else if s.img.pdIdle ≤ idle ∧ (s.rank (rankKey ch rank)).power = 0 then .next (s.modRank (rankKey ch rank) fun r => { r with power := 1, rows := [] })
      else .next s
    else .next s := by
  have hquiet : (!(s.waitingReads.any (s.inRank ch rank)) && !(s.waitingWrites.any (s.inRank ch rank))
    && (s.rank (rankKey ch rank)).postponed.all (fun n => decide (n = 0)) && decide ((s.rank (rankKey ch rank)).neighbour = [])) = s.rankQuiet ch rank := by
    rw [Bool.eq_iff_iff]
    simp [State.rankQuiet, or_imp, forall_and, and_assoc]
  unfold execRankPowerDown
  dsimp only
  rw [hquiet]

theorem execRankPowerDown_of_quiet {s : State} {ch rank : Nat} (hfit : s.bankFitted ch rank 0 = true) (hquiet : s.rankQuiet ch rank = true) (idle : Nat) :
    execRankPowerDown ch rank idle s =
      if s.fe.ps4 = 2 then
        if 100000 ≤ idle then .next (s.modRank (rankKey ch rank) fun r => { r with power := 2, rows := [] }) else .next s
      else if s.img.pdIdle ≤ idle ∧ (s.rank (rankKey ch rank)).power = 0 then .next (s.modRank (rankKey ch rank) fun r => { r with power := 1, rows := [] })
      else .next s := by
  rw [execRankPowerDown_eq, if_pos ⟨hfit, hquiet⟩]

theorem execRankPowerDown_of_not {s : State} {ch rank idle : Nat} (h : s.bankFitted ch rank 0 = false ∨ s.rankQuiet ch rank = false ∨
    (s.fe.ps4 ≠ 2 ∧ (idle < s.img.pdIdle ∨ (s.rank (rankKey ch rank)).power ≠ 0)) ∨ (s.fe.ps4 = 2 ∧ idle < 100000)) : execRankPowerDown ch rank idle s = .next s := by
  rw [execRankPowerDown_eq]
  split
  · next hrun =>
    rcases h with h | h | ⟨hps, h⟩ | ⟨hps, h⟩
    · simp [h] at hrun
    · simp [h] at hrun
    · rw [if_neg hps, if_neg (by omega)]
    · rw [if_pos hps, if_neg (by omega)]
  · rfl

/-- Settles O42: refreshes postponed or issued, neighbour refreshes, and the power states of a quiet rank. -/
theorem dramRefreshesAndPowersDown : Obligations.DramRefreshesAndPowersDown := by
  unfold Obligations.DramRefreshesAndPowersDown
  refine ⟨?refresh, ?power⟩
  case refresh =>
    rintro s ch rank bank k rfl
    refine ⟨execDramRefreshDue_of_not_due, fun hfit hpower hchanging => ?_, execNeighbourRefresh_of_none, fun row rest hfit hrow =>
      ⟨_, execNeighbourRefresh_of_scheduled hfit hrow, State.neighbourRefreshed ch rank bank row rest rfl⟩⟩
    have hexec : exec (.dramRefreshDue ch rank bank) s = _ := execDramRefreshDue_of_due hfit hpower hchanging
    rw [hexec]
    split
    · next hwaits =>
      obtain ⟨hread, hfew⟩ := hwaits
      obtain ⟨hs, hdram, hothers⟩ := s.modRank_frame (rankKey ch rank) fun r => { r with postponed := updAt r.postponed bank (· + 1) }
      refine ⟨_, rfl, hs, hdram, hothers, fun _ _ => State.modRank_rank _ _ _, fun h => ?_⟩
      obtain ⟨y, hy, hin⟩ := List.any_eq_true.mp hread
      rcases h with h | h
      · simp [h y hy] at hin
      · omega
    · next hissues =>
      obtain ⟨hs, hdram, hothers⟩ := s.modRank_frame (rankKey ch rank) fun r => { r with postponed := updAt r.postponed bank fun _ => 0, rows := Table.del r.rows bank, power := 0 }
      exact ⟨_, rfl, hs, hdram, hothers, fun hread hfew => absurd ⟨List.any_eq_true.mpr hread, hfew⟩ hissues, fun _ => State.modRank_rank _ _ _⟩
  case power =>
    rintro s ch rank idle k quiet rfl rfl
    refine ⟨fun hfit hquiet hps hidle hpower => ?_, fun hfit hquiet hps hidle => ?_, execRankPowerDown_of_not⟩
    · exact (execRankPowerDown_of_quiet hfit hquiet idle).trans (by rw [if_neg hps, if_pos ⟨hidle, hpower⟩])
    · exact (execRankPowerDown_of_quiet hfit hquiet idle).trans (by rw [if_pos hps, if_pos hidle])

end Sys2Proof.Machine
end

section
/-! The map cache's fills, write-backs and drains (O43): one bank's work leaves the others and the rest of the device, and what a bank holds after it (R357 to R366). -/
namespace Sys2Proof.Machine

/-! ### Work on the cache's banks -/

/-- A code that is left changes the counters, the tree store's queue and the sequencer's reports alone. -/
theorem State.leave_frame (s : State) (code sev : Nat) (xs : List Nat) : ∃ obs ts fault, s.leave code sev xs = { s with obs := obs, ts := ts, fault := fault } := by
  refine ⟨(s.leave code sev xs).obs, (s.leave code sev xs).ts, (s.leave code sev xs).fault, ?_⟩
  unfold State.leave State.recordEvent State.putRecord
  (repeat' split) <;> rfl

/-- Only banks of which `B` holds have changed, with the counters and the records. -/
structure BankWork (B : Nat → Prop) (s u : State) : Prop where
  frame : ∃ banks obs ts fault, u = { s with mc := { s.mc with banks := banks }, obs := obs, ts := ts, fault := fault }
  others : ∀ j, ¬ B j → u.bank j = s.bank j

namespace BankWork
variable {B : Nat → Prop} {s u v : State}

theorem refl (B : Nat → Prop) (s : State) : BankWork B s s := ⟨⟨s.mc.banks, s.obs, s.ts, s.fault, rfl⟩, fun _ _ => rfl⟩

theorem trans (h : BankWork B s u) (g : BankWork B u v) : BankWork B s v := by
  obtain ⟨banks, obs, ts, fault, rfl⟩ := h.frame
  obtain ⟨banks', obs', ts', fault', rfl⟩ := g.frame
  exact ⟨⟨banks', obs', ts', fault', rfl⟩, fun j hj => (g.others j hj).trans (h.others j hj)⟩

theorem mono {C : Nat → Prop} (h : BankWork B s u) (hBC : ∀ j, B j → C j) : BankWork C s u := ⟨h.frame, fun j hj => h.others j fun hB => hj (hBC j hB)⟩

theorem fold {α : Type} {f : State → α → State} (hf : ∀ s a, BankWork B s (f s a)) (l : List α) (s : State) : BankWork B s (l.foldl f s) := by
  induction l generalizing s with
  | nil => exact refl B s
  | cons a l ih => exact (hf s a).trans (ih _)

theorem leave (B : Nat → Prop) (s : State) (code sev : Nat) (xs : List Nat) : BankWork B s (s.leave code sev xs) := by
  obtain ⟨obs, ts, fault, h⟩ := s.leave_frame code sev xs
  rw [h]
  exact ⟨⟨s.mc.banks, obs, ts, fault, rfl⟩, fun _ _ => rfl⟩

theorem setBank (s : State) (b : Nat) (x : McBank) : BankWork (· = b) s (s.setBank b x) :=
  ⟨⟨_, s.obs, s.ts, s.fault, rfl⟩, fun _ hj => State.setBank_bank_ne _ _ _ _ hj⟩

theorem count1 (B : Nat → Prop) (s : State) (n : Nat) : BankWork B s (s.count1 n) := ⟨⟨s.mc.banks, _, s.ts, s.fault, rfl⟩, fun _ _ => rfl⟩

theorem sameFrame (h : BankWork B s u) : SameFrame s u := by
  obtain ⟨banks, obs, ts, fault, rfl⟩ := h.frame
  exact ⟨rfl, rfl, rfl, rfl, rfl, rfl, rfl, rfl⟩

theorem sameData (h : BankWork B s u) : SameData { s with mc := u.mc } u := by
  obtain ⟨banks, obs, ts, fault, rfl⟩ := h.frame
  exact ⟨rfl, rfl, rfl, rfl, rfl, rfl, rfl, rfl, rfl, rfl, rfl⟩

theorem map (h : BankWork B s u) : u.map = s.map := h.sameData.2.2.1
theorem dram (h : BankWork B s u) : u.dram = s.dram := h.sameFrame.2.2.2.2.1

theorem seg (h : BankWork B s u) (n : Nat) : u.seg n = s.seg n := by
  unfold State.seg
  rw [h.map]

theorem counts (h : BankWork B s u) : u.mc.uncorrectable = s.mc.uncorrectable ∧ u.mc.corrected = s.mc.corrected := by
  obtain ⟨banks, obs, ts, fault, rfl⟩ := h.frame
  exact ⟨rfl, rfl⟩
end BankWork

theorem State.serveBank_work (s : State) (b n : Nat) : BankWork (· = b) s (s.serveBank b n) := by
  induction n generalizing s with
  | zero => exact .refl _ s
  | succ n ih =>
    unfold State.serveBank
    dsimp only
    split
    · exact .refl _ s
    · split
      · exact .refl _ s
      · refine BankWork.trans ?_ (ih _)
        split
        · exact (BankWork.setBank s b _).trans (.count1 _ _ _)
        · exact (BankWork.setBank s b _).trans (.count1 _ _ _)
        · exact .setBank s b _

theorem State.mcMaintain_work (s : State) (b kind : Nat) (las : List Nat) : BankWork (· = b) s (s.mcMaintain b kind las) :=
  (BankWork.setBank s b _).trans (State.serveBank_work _ _ _)

theorem State.mcInvalidateSegment_work (s : State) (seg : Nat) : BankWork (fun _ => True) s (s.mcInvalidateSegment seg) :=
  .fold (fun s _ => (s.mcMaintain_work _ _ _).mono fun _ _ => trivial) _ s

theorem State.drainStep_work (s : State) (b : Nat) : BankWork (· = b) s (s.drainStep b) := by
  unfold State.drainStep
  dsimp only
  split
  · split
    · exact (BankWork.setBank s b _).trans (.leave _ _ _ _ _)
    · exact .setBank s b _
  · exact .refl _ s

theorem State.disableBank_work (s : State) (b : Nat) : BankWork (· = b) s (s.disableBank b) := by
  unfold State.disableBank
  split
  · exact (BankWork.setBank s b _).trans (State.drainStep_work _ _)
  · exact .refl _ s

theorem State.bankEvent_work (s : State) (b : Nat) : BankWork (· = b) s (s.bankEvent b) := by
  unfold State.bankEvent
  dsimp only
  split
  · exact (((BankWork.setBank s b _).trans (.setBank _ b _)).trans (State.disableBank_work _ _)).trans (.leave _ _ _ _ _)
  · exact .setBank s b _

/-! ### Drains (R365) -/

theorem State.bank_leave (s : State) (code sev : Nat) (xs : List Nat) (b : Nat) : (s.leave code sev xs).bank b = s.bank b :=
  (BankWork.leave (fun _ => False) s code sev xs).others b not_false

theorem State.bank_settleFront (s : State) (b : Nat) : s.settleFront.bank b = s.bank b := by simp [State.bank]

/-- Marking a line or writing one back changes the tags and the write-back buffer alone. -/
theorem McBank.cleaned_frame (k : McBank) (las : List Nat) :
    ∃ tags wbb, las.foldl (fun k la => (k.setDirty la false).writeBack la) k = { k with tags := tags, wbb := wbb } := by
  induction las generalizing k with
  | nil => exact ⟨k.tags, k.wbb, rfl⟩
  | cons la las ih =>
    obtain ⟨tags, wbb, h⟩ := ih ((k.setDirty la false).writeBack la)
    refine ⟨tags, wbb, h.trans ?_⟩
    unfold McBank.setDirty McBank.writeBack
    (repeat' split) <;> rfl

theorem State.drainStep_of_idle {s : State} {b : Nat} (h : (s.bank b).draining = false) : s.drainStep b = s := by
  unfold State.drainStep
  simp [h]

/-- A draining bank with neither a dirty line nor a write is disabled, its lines dropped. -/
theorem State.drainStep_drained {s : State} {b : Nat} (hdraining : (s.bank b).draining = true) (hchanging : s.dram.changing = false) (hwbb : (s.bank b).wbb = [])
    (hclean : (s.bank b).dirtyLines b = []) : (s.drainStep b).bank b = { s.bank b with tags := [], en := false, draining := false } := by
  unfold State.drainStep
  simp [hdraining, hchanging, hwbb, hclean, State.bank_leave]

/-- A draining bank drains on or is disabled; what counts its errors stands. -/
theorem State.drainStep_bank (s : State) (b : Nat) : ((s.drainStep b).bank b).out = (s.bank b).out ∧ ((s.drainStep b).bank b).events = (s.bank b).events ∧
    ((s.bank b).draining = true → ((s.drainStep b).bank b).en = false ∨ ((s.drainStep b).bank b).draining = true) := by
  unfold State.drainStep
  dsimp only
  obtain ⟨tags, wbb, hcleaned⟩ := (s.bank b).cleaned_frame (((s.bank b).dirtyLines b).take (4 - (s.bank b).wbb.length))
  rw [hcleaned]
  split
  · next hrun =>
    split
    · simp [State.bank_leave]
    · simp [hrun.1]
  · exact ⟨rfl, rfl, .inr⟩

/-- A bank that is disabled or on its way there. -/
def McBank.isOff (k : McBank) : Prop := k.en = false ∨ k.draining = true

theorem State.disableBank_off (s : State) (b : Nat) : ((s.disableBank b).bank b).isOff := by
  unfold State.disableBank
  split
  · exact (State.drainStep_bank _ b).2.2 (by simp)
  · next h => simpa [McBank.isOff, or_iff_not_imp_left] using h

theorem State.disableBank_of_disabled {s : State} {b : Nat} (h : (s.bank b).en = false) : s.disableBank b = s := by
  unfold State.disableBank
  simp [h]

/-- A bank that holds no dirty line and no write is disabled at once. -/
theorem State.disableBank_clean {s : State} {b : Nat} (hen : (s.bank b).en = true) (hdraining : (s.bank b).draining = false) (hchanging : s.dram.changing = false)
    (hwbb : (s.bank b).wbb = []) (hclean : (s.bank b).dirtyLines b = []) :
    (s.disableBank b).bank b = { s.bank b with tags := [], en := false, draining := false } := by
  unfold State.disableBank
  rw [if_pos ⟨hen, by simp [hdraining]⟩, State.drainStep_drained] <;> simp [hchanging, hwbb]
  exact hclean

theorem State.disableBank_bank_ne (s : State) {b j : Nat} (h : j ≠ b) : (s.disableBank b).bank j = s.bank j := (s.disableBank_work b).others j h

/-- Banks that are not asked for, and those already disabled, stand. -/
theorem State.disableBanks_stay {bs : List Nat} {s : State} {b : Nat} (h : b ∉ bs ∨ (s.bank b).en = false) : (bs.foldl State.disableBank s).bank b = s.bank b := by
  induction bs generalizing s with
  | nil => rfl
  | cons c bs ih =>
    by_cases hbc : b = c
    · subst hbc
      have hen := h.resolve_left (by simp)
      rw [List.foldl_cons, State.disableBank_of_disabled hen]
      exact ih (.inr hen)
    · have hsame := s.disableBank_bank_ne hbc
      rw [List.foldl_cons, ih (by rw [hsame]; exact h.imp_left fun hnot hmem => hnot (List.mem_cons_of_mem c hmem)), hsame]

theorem State.disableBanks_off {bs : List Nat} {s : State} {b : Nat} (h : b ∈ bs ∨ (s.bank b).isOff) : ((bs.foldl State.disableBank s).bank b).isOff := by
  induction bs generalizing s with
  | nil => exact h.resolve_left (by simp)
  | cons c bs ih =>
    refine ih ?_
    by_cases hbc : b = c
    · exact .inr (hbc ▸ s.disableBank_off c)
    · rw [s.disableBank_bank_ne hbc]
      exact h.imp_left fun hmem => (List.mem_cons.mp hmem).resolve_left hbc

theorem State.disableBanks_clean {bs : List Nat} {s : State} {b : Nat} (hmem : b ∈ bs) (hen : (s.bank b).en = true) (hdraining : (s.bank b).draining = false)
    (hchanging : s.dram.changing = false) (hwbb : (s.bank b).wbb = []) (hclean : (s.bank b).dirtyLines b = []) :
    (bs.foldl State.disableBank s).bank b = { s.bank b with tags := [], en := false, draining := false } := by
  induction bs generalizing s with
  | nil => simp at hmem
  | cons c bs ih =>
    rw [List.foldl_cons]
    by_cases hbc : b = c
    · subst hbc
      have hoff := State.disableBank_clean hen hdraining hchanging hwbb hclean
      rw [State.disableBanks_stay (.inr (by rw [hoff])), hoff]
    · have hsame := s.disableBank_bank_ne hbc
      rw [ih ((List.mem_cons.mp hmem).resolve_left hbc), hsame] <;> simp_all

theorem State.disableBanks_work (bs : List Nat) (s : State) : BankWork (fun _ => True) s (bs.foldl State.disableBank s) :=
  .fold (fun s b => (s.disableBank_work b).mono fun _ _ => trivial) bs s

/-! ### Enable (R365, R366) -/

theorem State.enableBank_frame (s : State) (b : Nat) : { s.enableBank b with mc := s.mc } = s ∧ { (s.enableBank b).mc with banks := s.mc.banks } = s.mc := by
  unfold State.enableBank
  dsimp only
  split <;> exact ⟨rfl, rfl⟩

theorem State.enableBank_bank (s : State) (b : Nat) : (s.enableBank b).bank b = if (s.bank b).out then s.bank b else { s.bank b with draining := false, en := true } := by
  unfold State.enableBank
  dsimp only
  split
  · rfl
  · exact State.setBank_bank _ _ _

theorem State.enableBank_bank_ne (s : State) {b j : Nat} (h : j ≠ b) : (s.enableBank b).bank j = s.bank j := by
  unfold State.enableBank
  dsimp only
  split
  · rfl
  · exact State.setBank_bank_ne _ _ _ _ h

theorem State.enableBanks_frame (bs : List Nat) (s : State) : { bs.foldl State.enableBank s with mc := s.mc } = s ∧
    { (bs.foldl State.enableBank s).mc with banks := s.mc.banks } = s.mc := by
  have hstep (s : State) (b : Nat) : ∃ banks, s.enableBank b = { s with mc := { s.mc with banks := banks } } := by
    unfold State.enableBank
    dsimp only
    split <;> exact ⟨_, rfl⟩
  have hfold : ∃ banks, bs.foldl State.enableBank s = { s with mc := { s.mc with banks := banks } } := by
    induction bs generalizing s with
    | nil => exact ⟨s.mc.banks, rfl⟩
    | cons b bs ih =>
      obtain ⟨banks, h⟩ := hstep s b
      obtain ⟨banks', h'⟩ := ih (s.enableBank b)
      exact ⟨banks', by rw [List.foldl_cons, h', h]⟩
  obtain ⟨banks, h⟩ := hfold
  rw [h]
  exact ⟨rfl, rfl⟩

/-- A bank that is asked for serves again, unless it is out of service; any other stands. -/
theorem State.enableBanks_bank (bs : List Nat) (s : State) (b : Nat) : (bs.foldl State.enableBank s).bank b =
    if b ∈ bs ∧ (s.bank b).out = false then { s.bank b with draining := false, en := true } else s.bank b := by
  induction bs generalizing s with
  | nil => simp
  | cons c bs ih =>
    rw [List.foldl_cons, ih]
    by_cases hbc : b = c
    · subst hbc
      rw [State.enableBank_bank]
      cases hout : (s.bank b).out <;> simp [hout]
    · rw [s.enableBank_bank_ne hbc]
      simp [hbc]

end Sys2Proof.Machine
end

section
/-! The map cache's fills and errors (O43): a fill that is installed, one whose block cannot be read, and the errors that count toward a bank's end (R357 to R360, R366). -/
namespace Sys2Proof.Machine

/-! ### Installing a line (R357, R360) -/

theorem bitField_one_le (x n : Nat) : bitField x n 1 ≤ 1 := by
  unfold bitField
  omega

theorem plruVictim_lt (bits : Nat) : plruVictim bits < 16 := by
  unfold plruVictim
  dsimp only
  generalize hn0 : bitField bits 0 1 = b0
  have h0 : b0 ≤ 1 := hn0 ▸ bitField_one_le _ _
  have h1 := bitField_one_le bits (2 * 0 + 1 + b0)
  generalize bitField bits (2 * 0 + 1 + b0) 1 = b1 at h1 ⊢
  have h2 := bitField_one_le bits (2 * (2 * 0 + 1 + b0) + 1 + b1)
  generalize bitField bits (2 * (2 * 0 + 1 + b0) + 1 + b1) 1 = b2 at h2 ⊢
  have h3 := bitField_one_le bits (2 * (2 * (2 * 0 + 1 + b0) + 1 + b1) + 1 + b2)
  omega

/-- The place of the tag that the tree names for a line. -/
def McBank.victimAt (k : McBank) (la : Nat) : Nat := setOfLa la * 16 + plruVictim (Table.getD k.plru (setOfLa la) 0)

/-- The bank once a dirty victim's line is in the write-back buffer. -/
def McBank.victimSaved (k : McBank) (b la : Nat) : McBank :=
  match Table.find k.tags (k.victimAt la) with
  | some t => if t.valid ∧ t.dirty then k.writeBack (laOfTag b (setOfLa la) t.tag) else k
  | none => k

/-- The bank with the line's tag in the victim's place. -/
def McBank.victimReplaced (k : McBank) (b : Nat) (m : McReq) : McBank :=
  { k.victimSaved b m.la with tags := Table.set (k.victimSaved b m.la).tags (k.victimAt m.la) ⟨tagOfLa m.la, true, decide (m.kind = 1) && !(k.victimSaved b m.la).draining⟩ }

theorem McBank.install_eq (k : McBank) (b : Nat) (m : McReq) (streams : Bool) : k.install b m streams =
    if streams then k.victimReplaced b m else (k.victimReplaced b m).touch (setOfLa m.la) (plruVictim (Table.getD k.plru (setOfLa m.la) 0)) := rfl

theorem McBank.victimSaved_frame (k : McBank) (b la : Nat) : ∃ wbb, k.victimSaved b la = { k with wbb := wbb } := by
  unfold McBank.victimSaved McBank.writeBack
  (repeat' split) <;> exact ⟨_, rfl⟩

theorem McBank.install_frame (k : McBank) (b : Nat) (m : McReq) (streams : Bool) :
    ∃ tags plru wbb, k.install b m streams = { k with tags := tags, plru := plru, wbb := wbb } := by
  obtain ⟨wbb, h⟩ := k.victimSaved_frame b m.la
  rw [McBank.install_eq, McBank.victimReplaced, h]
  split <;> exact ⟨_, _, _, rfl⟩

theorem McBank.install_tags (k : McBank) (b : Nat) (m : McReq) (streams : Bool) : (k.install b m streams).tags = (k.victimReplaced b m).tags := by
  rw [McBank.install_eq]
  split <;> rfl

theorem McBank.install_wbb (k : McBank) (b : Nat) (m : McReq) (streams : Bool) : (k.install b m streams).wbb = (k.victimSaved b m.la).wbb := by
  rw [McBank.install_eq]
  split <;> rfl

theorem McBank.install_holds (k : McBank) (b : Nat) (m : McReq) (streams : Bool) : (k.install b m streams).holds m.la = true := by
  unfold McBank.holds McBank.wayOf
  rw [List.find?_isSome]
  refine ⟨plruVictim (Table.getD k.plru (setOfLa m.la) 0), List.mem_range.mpr (plruVictim_lt _), ?_⟩
  have hplace : setOfLa m.la * 16 + plruVictim (Table.getD k.plru (setOfLa m.la) 0) = k.victimAt m.la := rfl
  rw [k.install_tags b m streams, hplace]
  simp [McBank.victimReplaced]

/-- A dirty victim's line is in the write-back buffer, where that had room. -/
theorem McBank.install_saves {k : McBank} {b : Nat} {m : McReq} (hwaits : k.fillWaits m = false) (streams : Bool) {w : McTag} (hw : Table.find k.tags (k.victimAt m.la) = some w)
    (hvalid : w.valid = true) (hdirty : w.dirty = true) : laOfTag b (setOfLa m.la) w.tag ∈ (k.install b m streams).wbb := by
  have hroom : k.wbb.length < 4 := by
    unfold McBank.fillWaits at hwaits
    dsimp only at hwaits
    rw [show Table.find k.tags (setOfLa m.la * 16 + plruVictim (Table.getD k.plru (setOfLa m.la) 0)) = some w from hw] at hwaits
    simpa [hvalid, hdirty] using hwaits
  rw [k.install_wbb b m streams]
  unfold McBank.victimSaved McBank.writeBack
  rw [hw]
  simp only [hvalid, hdirty, and_self, if_true]
  split
  · exact List.mem_append_right _ (List.mem_singleton_self _)
  · next h => simpa [hroom] using h

/-! ### A block that cannot be read (R358, R363) -/

/-- A bank with nothing to do: no request, no pending miss, no drain. -/
def McBank.Idle (k : McBank) : Prop := k.queue = [] ∧ k.miss = none ∧ k.draining = false

theorem State.serveBank_of_empty {s : State} {b : Nat} (h : (s.bank b).queue = []) (n : Nat) : s.serveBank b n = s := by
  cases n with
  | zero => rfl
  | succ n => unfold State.serveBank; simp [h]

/-- A bank without a pending miss serves any number of INVALIDATEs, and has nothing to do then. -/
theorem State.serveBank_invalidates {n : Nat} {s : State} {b : Nat} (hmiss : (s.bank b).miss = none) (hdraining : (s.bank b).draining = false)
    (hkind : ∀ r ∈ (s.bank b).queue, r.kind = 3) (hlen : (s.bank b).queue.length ≤ n) : ((s.serveBank b n).bank b).Idle := by
  induction n generalizing s with
  | zero => exact ⟨List.length_eq_zero_iff.mp (Nat.le_zero.mp hlen), hmiss, hdraining⟩
  | succ n ih =>
    unfold State.serveBank
    dsimp only
    split
    · next hq => exact ⟨hq, hmiss, hdraining⟩
    · next r rest hq =>
      have hr : r.kind = 3 := hkind r (by simp [hq])
      have hgo : (s.bank b).headWaits r = false := by simp [McBank.headWaits, hmiss, hr]
      have hdrop (k : McBank) : ∃ tags, k.drop r.la = { k with tags := tags } := by
        unfold McBank.drop
        split <;> exact ⟨_, rfl⟩
      obtain ⟨tags, htags⟩ := hdrop { s.bank b with queue := rest }
      rw [if_neg (by simp [hgo])]
      simp only [McBank.serveHead, hr]
      refine ih ?_ ?_ ?_ ?_ <;> simp_all

theorem State.mcMaintain_idle {s : State} {b : Nat} (h : (s.bank b).Idle) (c : Nat) (las : List Nat) : ((s.mcMaintain c 3 las).bank b).Idle := by
  obtain ⟨hqueue, hmiss, hdraining⟩ := h
  by_cases hbc : b = c
  · subst hbc
    unfold State.mcMaintain
    dsimp only
    refine State.serveBank_invalidates ?_ ?_ ?_ ?_ <;> simp_all
  · rw [(s.mcMaintain_work c 3 las).others b hbc]
    exact ⟨hqueue, hmiss, hdraining⟩

theorem State.mcInvalidateSegment_idle {s : State} {b : Nat} (h : (s.bank b).Idle) (seg : Nat) : ((s.mcInvalidateSegment seg).bank b).Idle := by
  unfold State.mcInvalidateSegment
  generalize s.mc.banks = l
  induction l generalizing s with
  | nil => exact h
  | cons a l ih => exact ih (State.mcMaintain_idle h _ _)

theorem State.needSeg_frame (s : State) (seg : Nat) : (s.needSeg seg).mc = s.mc ∧ ∀ n, (s.needSeg seg).seg n = s.seg n := by
  unfold State.needSeg
  split <;> exact ⟨rfl, fun _ => rfl⟩

theorem State.checkBlock_mc (s : State) (seg block : Nat) : (s.checkBlock seg block).mc = s.mc := by
  unfold State.checkBlock
  split
  · simp
  · rfl

theorem State.checkBlock_bad {s : State} {seg block : Nat} (h : s.blockBad seg block = true) : ((s.checkBlock seg block).seg seg).restored = false := by
  unfold State.checkBlock
  split
  · simp [State.seg, State.modSeg, State.setSeg]
  · next hnot => simpa [h] using hnot

/-- A block that cannot be read leaves its segment not restored, and an idle bank idle. -/
theorem State.blockLost_idle {s : State} {b : Nat} (h : (s.bank b).Idle) (seg block : Nat) : ((s.blockLost seg block).bank b).Idle := by
  unfold State.blockLost
  split
  · show (McState.bank _ b).Idle
    rw [(State.needSeg_frame _ _).1]
    refine State.mcInvalidateSegment_idle ?_ seg
    show (McState.bank _ b).Idle
    rw [State.checkBlock_mc]
    exact h
  · exact h

theorem State.blockLost_restored {s : State} {seg : Nat} (h : (s.seg seg).alloc = true) (block : Nat) : ((s.blockLost seg block).seg seg).restored = false := by
  unfold State.blockLost
  rw [if_pos h, (State.needSeg_frame _ _).2, (State.mcInvalidateSegment_work _ _).seg]
  exact State.checkBlock_bad (by simp [State.blockBad])

theorem State.blockLost_of_unallocated {s : State} {seg : Nat} (h : (s.seg seg).alloc = false) (block : Nat) : s.blockLost seg block = s := if_neg (by simp [h])

/-! ### MC_FILL_DONE (R358 to R360) -/

/-- The fill is read from DRAM unless the write-back buffer holds the line. -/
def State.fillRead (s : State) (b la : Nat) : State := if (s.bank b).wbb.contains la then s else s.dramIssue (lineAddr la)
/-- The fill is one of a stream. -/
def State.fillStreams (s : State) (m : McReq) : Bool :=
  decide (m.hint = 1) || (s.mc.trackers.any fun t => decide (t.source = m.source) && decide (t.next = m.la + 1) && decide (s.img.streamRun ≤ t.run))
/-- The miss register is free, and the line installed or its block lost. -/
def State.fillTaken (s : State) (b : Nat) (m : McReq) (crcOk : Bool) : State :=
  if crcOk then (s.fillRead b m.la).setBank b (if (s.bank b).en then ({ s.bank b with miss := none } : McBank).install b m (s.fillStreams m) else { s.bank b with miss := none })
  else ((s.fillRead b m.la).setBank b { s.bank b with miss := none }).blockLost (m.la / 65536) (m.la % 65536)

theorem State.fillRead_kept (s : State) (b la : Nat) : (s.fillRead b la).mc = s.mc ∧ (s.fillRead b la).map = s.map ∧ (s.fillRead b la).media = s.media := by
  unfold State.fillRead
  split <;> simp

theorem execMcFillDone_of_waiting {s : State} {b : Nat} {m : McReq} (hmiss : (s.bank b).miss = some m) (hwaits : (s.bank b).fillWaits m = true) (hen : (s.bank b).en = true)
    (crcOk : Bool) (err : CacheError) : execMcFillDone b crcOk err s = .next s := by
  unfold execMcFillDone
  dsimp only
  split
  · rfl
  · simp only [hmiss, hwaits, hen, and_self, if_true]

theorem execMcFillDone_of_no_miss {s : State} {b : Nat} (hb : b < 32) (hmiss : (s.bank b).miss = none) (crcOk : Bool) : execMcFillDone b crcOk .none s = .next s.settle := by
  unfold execMcFillDone
  dsimp only
  rw [if_neg (by omega), hmiss]
  rfl

/-- A fill that does not wait, of a bank that has nothing else to do. -/
theorem execMcFillDone_of_idle {s : State} {b : Nat} {m : McReq} {crcOk : Bool} (hb : b < 32) (hmiss : (s.bank b).miss = some m)
    (hwaits : (s.bank b).en = true → (s.bank b).fillWaits m = false) (hidle : ((s.fillTaken b m crcOk).bank b).Idle) :
    execMcFillDone b crcOk .none s = .next (s.fillTaken b m crcOk).catchUp.settle := by
  obtain ⟨hqueue, -, hdraining⟩ := hidle
  have hexec : execMcFillDone b crcOk .none s =
      .next (((s.fillTaken b m crcOk).serveBank b (((s.fillTaken b m crcOk).bank b).queue.length + 1)).drainStep b).catchUp.settle := by
    unfold execMcFillDone
    dsimp only
    rw [if_neg (by omega), hmiss]
    dsimp only
    rw [if_neg fun h => by simp [hwaits h.2] at h]
    rfl
  rw [hexec, State.serveBank_of_empty hqueue, State.drainStep_of_idle hdraining]

theorem State.fillTaken_bad_idle {s : State} {b : Nat} (hqueue : (s.bank b).queue = []) (hdraining : (s.bank b).draining = false) (m : McReq) :
    ((s.fillTaken b m false).bank b).Idle :=
  State.blockLost_idle (by rw [State.setBank_bank]; exact ⟨hqueue, rfl, hdraining⟩) _ _

theorem State.fillTaken_good_bank (s : State) (b : Nat) (m : McReq) : (s.fillTaken b m true).bank b =
    if (s.bank b).en then ({ s.bank b with miss := none } : McBank).install b m (s.fillStreams m) else { s.bank b with miss := none } := State.setBank_bank _ _ _

theorem State.fillTaken_good_idle {s : State} {b : Nat} (hqueue : (s.bank b).queue = []) (hdraining : (s.bank b).draining = false) (m : McReq) :
    ((s.fillTaken b m true).bank b).Idle := by
  rw [State.fillTaken_good_bank]
  split
  · obtain ⟨tags, plru, wbb, h⟩ := McBank.install_frame { s.bank b with miss := none } b m (s.fillStreams m)
    rw [h]
    exact ⟨hqueue, rfl, hdraining⟩
  · exact ⟨hqueue, rfl, hdraining⟩

/-- Only the fill's bank has changed where the block was good. -/
theorem State.fillTaken_good_others (s : State) {b j : Nat} (m : McReq) (h : j ≠ b) : (s.fillTaken b m true).bank j = s.bank j := by
  refine (State.setBank_bank_ne _ _ _ _ h).trans ?_
  unfold State.bank
  rw [(s.fillRead_kept b m.la).1]

theorem State.fillTaken_bad_restored {s : State} {b : Nat} {m : McReq} (h : (s.seg (m.la / 65536)).alloc = true) :
    ((s.fillTaken b m false).seg (m.la / 65536)).restored = false := by
  refine State.blockLost_restored ?_ _
  show (Table.getD (s.fillRead b m.la).map.segs _ _).alloc = true
  rw [(s.fillRead_kept b m.la).2.1]
  exact h

/-- A lost block of a segment that is not allocated installs nothing and loses nothing. -/
theorem State.fillTaken_bad_unallocated {s : State} {b : Nat} {m : McReq} (h : (s.seg (m.la / 65536)).alloc = false) :
    (s.fillTaken b m false).map = s.map ∧ ((s.fillTaken b m false).bank b).tags = (s.bank b).tags := by
  have halloc : (((s.fillRead b m.la).setBank b { s.bank b with miss := none }).seg (m.la / 65536)).alloc = false := by
    show (Table.getD (s.fillRead b m.la).map.segs _ _).alloc = false
    rw [(s.fillRead_kept b m.la).2.1]
    exact h
  have htaken : s.fillTaken b m false = (s.fillRead b m.la).setBank b { s.bank b with miss := none } := State.blockLost_of_unallocated halloc _
  rw [htaken, State.setBank_bank]
  exact ⟨(s.fillRead_kept b m.la).2.1, rfl⟩

/-! ### MC_WRITEBACK_DONE (R360, R365) -/

/-- The oldest write of a bank's buffer has completed. -/
def State.wroteBack (s : State) (b la : Nat) (rest : List Nat) : State := (s.dramIssue (lineAddr la)).setBank b { s.bank b with wbb := rest }

theorem execMcWritebackDone_of_some {s : State} {b la : Nat} {rest : List Nat} (h : (s.bank b).wbb = la :: rest) : execMcWritebackDone b s =
    .next (((s.wroteBack b la rest).serveBank b ((s.bank b).queue.length + 1)).drainStep b).settleFront := by
  unfold execMcWritebackDone
  dsimp only
  rw [h]
  rfl

theorem execMcWritebackDone_of_none {s : State} {b : Nat} (h : (s.bank b).wbb = []) : execMcWritebackDone b s = .next s := by
  unfold execMcWritebackDone
  dsimp only
  rw [h]

theorem State.settleFront_map (s : State) : s.settleFront.map = s.map := by simp

theorem State.dramIssue_changing (s : State) (a : Nat) : (s.dramIssue a).dram.changing = s.dram.changing := by
  have hactivate (s : State) (ch rank bank row : Nat) : (s.activate ch rank bank row).dram.changing = s.dram.changing := by
    unfold State.activate
    dsimp only
    split <;> rfl
  unfold State.dramIssue
  dsimp only
  split
  · split
    · rfl
    · exact hactivate _ _ _ _ _
  · exact hactivate _ _ _ _ _

theorem State.dramIssue_bank (s : State) (a j : Nat) : (s.dramIssue a).bank j = s.bank j := by
  unfold State.bank
  simp

theorem State.wroteBack_bank (s : State) (b la : Nat) (rest : List Nat) : (s.wroteBack b la rest).bank b = { s.bank b with wbb := rest } := State.setBank_bank _ _ _

theorem State.wroteBack_others (s : State) {b j : Nat} (la : Nat) (rest : List Nat) (h : j ≠ b) : (s.wroteBack b la rest).bank j = s.bank j :=
  (State.setBank_bank_ne _ _ _ _ h).trans (s.dramIssue_bank _ _)

/-! ### Errors (R366) -/

theorem State.bankEvent_events (s : State) (b : Nat) : ((s.bankEvent b).bank b).events = (s.bank b).events + 1 ∧
    ((s.bank b).events + 1 = 16 → ((s.bankEvent b).bank b).out = true) := by
  have hdisable (s : State) : ((s.disableBank b).bank b).out = (s.bank b).out ∧ ((s.disableBank b).bank b).events = (s.bank b).events := by
    unfold State.disableBank
    split
    · obtain ⟨hout, hevents, -⟩ := State.drainStep_bank (s.setBank b { s.bank b with draining := true }) b
      rw [State.setBank_bank] at hout hevents
      exact ⟨hout, hevents⟩
    · exact ⟨rfl, rfl⟩
  unfold State.bankEvent
  dsimp only
  split
  · rw [State.bank_leave, (hdisable _).1, (hdisable _).2, State.setBank_bank, State.setBank_bank]
    exact ⟨rfl, fun _ => rfl⟩
  · next h =>
    rw [State.setBank_bank]
    exact ⟨rfl, fun h16 => absurd h16 h⟩

/-- A dirty line with two bad symbols is lost: its segment is not restored, and the loss is counted. -/
theorem State.cacheError_dirty {s : State} {b la : Nat} (hbank : bankOf la = b) (hholds : (s.bank b).holds la = true) (hdirty : (s.bank b).isDirty la = true) :
    ((s.cacheError b (.twoSymbols la)).seg (la / 65536)).restored = false ∧
      (s.cacheError b (.twoSymbols la)).mc.uncorrectable = satAdd 32 s.mc.uncorrectable 1 := by
  have hevent (u : State) : (u.bankEvent b).mc.uncorrectable = u.mc.uncorrectable := ((u.bankEvent_work b).counts).1
  have hinval (u : State) (n : Nat) : (u.mcInvalidateSegment n).mc.uncorrectable = u.mc.uncorrectable := (u.mcInvalidateSegment_work n).counts.1
  unfold State.cacheError
  dsimp only
  rw [if_pos ⟨hbank, hholds⟩, if_pos hdirty, (State.bankEvent_work _ b).seg, (State.needSeg_frame _ _).2, (State.mcInvalidateSegment_work _ _).seg,
    hevent, (State.needSeg_frame _ _).1, hinval]
  constructor
  · simp [State.seg, State.modSeg, State.setSeg]
  · simp [State.modSeg, State.setSeg, State.setBank, McState.setBank]

/-- Settles O43: each command of the cache, by the bank it works on. -/
theorem mapCacheFillsAndDrains : Obligations.MapCacheFillsAndDrains := by
  unfold Obligations.MapCacheFillsAndDrains
  refine ⟨fun s b ok err hb => if_pos hb, fun s b ok m err hmiss hwaits hen => execMcFillDone_of_waiting hmiss hwaits hen ok err,
    fun s b ok hb hmiss => execMcFillDone_of_no_miss hb hmiss ok, ?fill, fun s b => execMcWritebackDone_of_none, ?wrote, ?disable, ?enable, fun s b set => ⟨?_, ?_⟩,
    fun s b la => State.cacheError_dirty⟩
  case fill =>
    intro s b m hb hmiss hqueue hdraining hwaits
    refine ⟨⟨(s.fillTaken b m true).catchUp, execMcFillDone_of_idle hb hmiss hwaits (State.fillTaken_good_idle hqueue hdraining m), ?_⟩,
      (s.fillTaken b m false).catchUp, execMcFillDone_of_idle hb hmiss hwaits (State.fillTaken_bad_idle hqueue hdraining m), ?_⟩
    · obtain ⟨hq, hm, -⟩ := State.fillTaken_good_idle hqueue hdraining m
      obtain ⟨hmc, hmap, hmedia⟩ := s.fillRead_kept b m.la
      refine ⟨hm, hq, fun hen => ?_, fun hen => ?_, fun j hj => s.fillTaken_good_others m hj, hmap, hmedia⟩
      · have hbank : (s.fillTaken b m true).catchUp.bank b = _ := s.fillTaken_good_bank b m
        rw [hbank, if_pos hen]
        exact ⟨McBank.install_holds _ _ _ _, fun w hw hvalid hdirty => McBank.install_saves (k := { s.bank b with miss := none }) (hwaits hen) _ hw hvalid hdirty⟩
      · have hbank : (s.fillTaken b m true).catchUp.bank b = _ := s.fillTaken_good_bank b m
        rw [hbank, if_neg (by simp [hen])]
    · exact ⟨(State.fillTaken_bad_idle hqueue hdraining m).2.1, State.fillTaken_bad_restored, State.fillTaken_bad_unallocated⟩
  case wrote =>
    intro s b la rest hwbb
    refine ⟨_, execMcWritebackDone_of_some hwbb, fun hdraining hqueue => ?_, fun hdraining hchanging hqueue hrest hclean => ?_, fun j hj => ?_, ?_, ?_⟩
    · rw [State.bank_settleFront, State.serveBank_of_empty (by rw [State.wroteBack_bank]; exact hqueue),
        State.drainStep_of_idle (by rw [State.wroteBack_bank]; exact hdraining), State.wroteBack_bank]
    · have hoff := State.drainStep_drained (s := s.wroteBack b la rest) (b := b) (by rw [State.wroteBack_bank]; exact hdraining)
        ((s.dramIssue_changing _).trans hchanging) (by rw [State.wroteBack_bank]; exact hrest) (by rw [State.wroteBack_bank]; exact hclean)
      rw [State.bank_settleFront, State.serveBank_of_empty (by rw [State.wroteBack_bank]; exact hqueue), hoff]
      exact ⟨rfl, rfl, rfl⟩
    · rw [State.bank_settleFront, (State.drainStep_work _ b).others j hj, (State.serveBank_work _ b _).others j hj, s.wroteBack_others la rest hj]
    · rw [State.settleFront_map, (State.drainStep_work _ b).map, (State.serveBank_work _ b _).map]
      simp [State.wroteBack]
    · simp [State.wroteBack]
  case disable =>
    intro s banks
    have hwork := State.disableBanks_work (banks.filter (· < 32)) s
    refine ⟨_, rfl, fun b hmem hb => ?_, fun b hnot => ?_, fun b hmem hb hen hdraining hchanging hwbb hclean => ?_, hwork.sameFrame.trans (by simp [SameFrame]), ?_⟩
    · rw [State.bank_settleFront]
      exact State.disableBanks_off (.inl (by simp [hmem, hb]))
    · rw [State.bank_settleFront]
      refine State.disableBanks_stay ?_
      rcases hnot with h | h | h
      · exact .inl (by simp [h])
      · exact .inl (by simp [h])
      · exact .inr h
    · rw [State.bank_settleFront, State.disableBanks_clean (by simp [hmem, hb]) hen hdraining hchanging hwbb hclean]
      exact ⟨rfl, rfl, rfl⟩
    · simpa [SameData] using hwork.sameData
  case enable =>
    intro s banks
    refine ⟨_, rfl, fun b hmem hb hout => ?_, fun b hnot => ?_, State.enableBanks_frame _ s⟩
    · rw [State.enableBanks_bank, if_pos ⟨by simp [hmem, hb], hout⟩]
    · rw [State.enableBanks_bank, if_neg]
      rintro ⟨hmem, hout⟩
      simp only [List.mem_filter, decide_eq_true_eq] at hmem
      obtain ⟨hmem, hlt⟩ := hmem
      rcases hnot with h | h | h
      · exact h hmem
      · omega
      · simp [h] at hout
  · simp [State.cacheError]
  · obtain ⟨hevents, hout⟩ := (s.leave 0x0E0C 4 [b, set]).bankEvent_events b
    rw [State.bank_leave] at hevents hout
    exact ⟨hevents, hout⟩

end Sys2Proof.Machine
end

section
/-! The internal DMA (O44): a channel's work leaves the others, what a burst, a pause, an abort and a drained FIFO leave, and which channel the arbiter grants (R368 to R376). -/
namespace Sys2Proof.Machine

/-! ### Work on one channel -/

/-- Of the DMA only one channel and the FIFOs' fills have changed, with the counters and the records. -/
structure ChanWork (c : Nat) (s u : State) : Prop where
  frame : ∃ chans fifo obs ts fault, u = { s with dma := { s.dma with chans := chans, fifo := fifo }, obs := obs, ts := ts, fault := fault }
  others : ∀ j, j ≠ c → u.dmaCh j = s.dmaCh j

namespace ChanWork
variable {c : Nat} {s u v : State}

theorem refl (c : Nat) (s : State) : ChanWork c s s := ⟨⟨s.dma.chans, s.dma.fifo, s.obs, s.ts, s.fault, rfl⟩, fun _ _ => rfl⟩

theorem trans (h : ChanWork c s u) (g : ChanWork c u v) : ChanWork c s v := by
  obtain ⟨_, _, _, _, _, rfl⟩ := h.frame
  obtain ⟨_, _, _, _, _, rfl⟩ := g.frame
  exact ⟨⟨_, _, _, _, _, rfl⟩, fun j hj => (g.others j hj).trans (h.others j hj)⟩

theorem modDma (s : State) (c : Nat) (f : DmaCh → DmaCh) : ChanWork c s (s.modDma c f) :=
  ⟨⟨_, _, _, _, _, rfl⟩, fun _ hj => State.modDma_dmaCh_ne _ _ _ _ hj⟩

theorem count1 (c : Nat) (s : State) (n : Nat) : ChanWork c s (s.count1 n) := ⟨⟨_, _, _, _, _, rfl⟩, fun _ _ => rfl⟩

theorem leave (c : Nat) (s : State) (code sev : Nat) (xs : List Nat) : ChanWork c s (s.leave code sev xs) := by
  obtain ⟨obs, ts, fault, h⟩ := s.leave_frame code sev xs
  rw [h]
  exact ⟨⟨_, _, _, _, _, rfl⟩, fun _ _ => rfl⟩

theorem frames (h : ChanWork c s u) : SameFrame { s with dma := u.dma } u ∧ SameData s u := by
  obtain ⟨_, _, _, _, _, rfl⟩ := h.frame
  exact ⟨⟨rfl, rfl, rfl, rfl, rfl, rfl, rfl, rfl⟩, ⟨rfl, rfl, rfl, rfl, rfl, rfl, rfl, rfl, rfl, rfl, rfl⟩⟩

theorem arbiter (h : ChanWork c s u) : u.dma.granted = s.dma.granted ∧ u.dma.grants = s.dma.grants ∧ u.img = s.img := by
  obtain ⟨_, _, _, _, _, rfl⟩ := h.frame
  exact ⟨rfl, rfl, rfl⟩
end ChanWork

theorem State.dmaCh_count1 (s : State) (n c : Nat) : (s.count1 n).dmaCh c = s.dmaCh c := rfl

theorem State.dmaCh_leave (s : State) (code sev : Nat) (xs : List Nat) (c : Nat) : (s.leave code sev xs).dmaCh c = s.dmaCh c := by
  simp [State.dmaCh]

/-! ### A burst (R371, R372, R376) -/

/-- The FIFO that a paced descriptor writes holds one burst more. -/
def State.fifoFilled (s : State) (d : BitVec 256) : State :=
  if descPaced d then { s with dma := { s.dma with fifo := Table.set s.dma.fifo (descDst d) (Table.getD s.dma.fifo (descDst d) 0 + 1) } } else s

/-- What holds a channel after a burst: its FIFO at HIGH, or what held it (R372). -/
def State.heldBy (s : State) (d : BitVec 256) (held : Option (Nat × Nat)) : Option (Nat × Nat) :=
  if descPaced d ∧ descHigh d ≤ Table.getD s.dma.fifo (descDst d) 0 + 1 then some (descDst d, descLow d) else held

theorem State.dmaPace_eq (s : State) (c : Nat) (d : BitVec 256) : s.dmaPace c d =
    if descPaced d ∧ descHigh d ≤ Table.getD s.dma.fifo (descDst d) 0 + 1 then
      ((s.fifoFilled d).modDma c fun x => { x with held := some (descDst d, descLow d) }).count1 0x0B0 else s.fifoFilled d := by
  unfold State.dmaPace State.fifoFilled
  by_cases hpaced : descPaced d = true <;> simp [hpaced]

theorem State.fifoFilled_work (s : State) (c : Nat) (d : BitVec 256) : ChanWork c s (s.fifoFilled d) := by
  unfold State.fifoFilled
  split
  · exact ⟨⟨_, _, _, _, _, rfl⟩, fun _ _ => rfl⟩
  · exact .refl c s

theorem State.dmaPace_work (s : State) (c : Nat) (d : BitVec 256) : ChanWork c s (s.dmaPace c d) := by
  rw [State.dmaPace_eq]
  split
  · exact (s.fifoFilled_work c d).trans ((ChanWork.modDma _ _ _).trans (.count1 _ _ _))
  · exact s.fifoFilled_work c d

theorem State.fifoFilled_dmaCh (s : State) (d : BitVec 256) (c : Nat) : (s.fifoFilled d).dmaCh c = s.dmaCh c := by
  unfold State.fifoFilled
  split <;> rfl

/-- A paced burst that fills its FIFO to HIGH holds its channel; no other does (R372). -/
theorem State.dmaPace_dmaCh (s : State) (c : Nat) (d : BitVec 256) : (s.dmaPace c d).dmaCh c =
    { s.dmaCh c with held := s.heldBy d (s.dmaCh c).held } := by
  rw [State.dmaPace_eq, State.heldBy]
  split
  · rw [State.dmaCh_count1, State.modDma_dmaCh, State.fifoFilled_dmaCh]
  · exact s.fifoFilled_dmaCh d c

theorem State.dmaPace_fifo (s : State) (c : Nat) (d : BitVec 256) : (s.dmaPace c d).dma.fifo = (s.fifoFilled d).dma.fifo := by
  rw [State.dmaPace_eq]
  split <;> rfl

/-- The channel of a granted burst once its bytes are written, and its FIFO filled. -/
def State.burstWritten (s : State) (c : Nat) (d : BitVec 256) : State :=
  (s.modDma c fun x => { x with done := (s.dmaCh c).done + min 512 (descLength d - (s.dmaCh c).done), bursts := satAdd 32 x.bursts 1 }).dmaPace c d

/-- The descriptor completes where the burst was poisoned, or was its last one. -/
def State.burstCompleted (s t : State) (c : Nat) (d : BitVec 256) (poisoned : Bool) : State :=
  if poisoned ∧ descSrcSpace d = 0 then (t.modDma c fun x => x.completed 2).leave 0x0F02 2 [c, descSrc d + (s.dmaCh c).done]
  else if descLength d ≤ (s.dmaCh c).done + min 512 (descLength d - (s.dmaCh c).done) then
    t.modDma c fun x => { x.completed 0 with notified := if descNotify d then x.notified + 1 else x.notified }
  else t

theorem State.dmaBurst_eq {s : State} {c : Nat} {d : BitVec 256} {ds : List (BitVec 256)} (hring : (s.dmaCh c).ring = d :: ds) (poisoned : Bool) :
    s.dmaBurst c poisoned = if ((s.burstCompleted (s.burstWritten c d) c d poisoned).dmaCh c).aborting
      then (s.burstCompleted (s.burstWritten c d) c d poisoned).modDma c DmaCh.aborted else s.burstCompleted (s.burstWritten c d) c d poisoned := by
  unfold State.dmaBurst
  rw [hring]
  rfl

theorem State.burstWritten_work (s : State) (c : Nat) (d : BitVec 256) : ChanWork c s (s.burstWritten c d) := (ChanWork.modDma _ _ _).trans (State.dmaPace_work _ _ _)

theorem State.burstCompleted_work {s t : State} {c : Nat} (h : ChanWork c s t) (d : BitVec 256) (poisoned : Bool) : ChanWork c s (s.burstCompleted t c d poisoned) := by
  unfold State.burstCompleted
  split
  · exact h.trans ((ChanWork.modDma _ _ _).trans (.leave _ _ _ _ _))
  · split
    · exact h.trans (.modDma _ _ _)
    · exact h

theorem State.burstCompleted_fifo (s t : State) (c : Nat) (d : BitVec 256) (poisoned : Bool) : (s.burstCompleted t c d poisoned).dma.fifo = t.dma.fifo := by
  unfold State.burstCompleted
  split
  · simp [State.modDma]
  · split <;> rfl

/-- The channel after its burst: what stands of it as `burstWritten` leaves it, and the descriptor's end. -/
theorem State.burstCompleted_dmaCh (s t : State) (c : Nat) (d : BitVec 256) (poisoned : Bool) : (s.burstCompleted t c d poisoned).dmaCh c =
    if poisoned ∧ descSrcSpace d = 0 then (t.dmaCh c).completed 2
    else if descLength d ≤ (s.dmaCh c).done + min 512 (descLength d - (s.dmaCh c).done) then
      { (t.dmaCh c).completed 0 with notified := if descNotify d then (t.dmaCh c).notified + 1 else (t.dmaCh c).notified }
    else t.dmaCh c := by
  unfold State.burstCompleted
  split
  · rw [State.dmaCh_leave, State.modDma_dmaCh]
  · split
    · rw [State.modDma_dmaCh]
    · rfl

theorem State.burstWritten_dmaCh (s : State) (c : Nat) (d : BitVec 256) : (s.burstWritten c d).dmaCh c =
    { s.dmaCh c with
      done := (s.dmaCh c).done + min 512 (descLength d - (s.dmaCh c).done)
      bursts := satAdd 32 (s.dmaCh c).bursts 1
      held := s.heldBy d (s.dmaCh c).held } := by
  unfold State.burstWritten
  rw [State.dmaPace_dmaCh, State.modDma_dmaCh]
  rfl

theorem State.burstWritten_fifo (s : State) (c : Nat) (d : BitVec 256) : (s.burstWritten c d).dma.fifo = (s.fifoFilled d).dma.fifo := by
  unfold State.burstWritten
  rw [State.dmaPace_fifo]
  unfold State.fifoFilled
  split <;> rfl

theorem State.burstCompleted_stands (s : State) (c : Nat) (d : BitVec 256) (poisoned : Bool) :
    ((s.burstCompleted (s.burstWritten c d) c d poisoned).dmaCh c).aborting = (s.dmaCh c).aborting ∧
    ((s.burstCompleted (s.burstWritten c d) c d poisoned).dmaCh c).pauseFault = (s.dmaCh c).pauseFault ∧
    ((s.burstCompleted (s.burstWritten c d) c d poisoned).dmaCh c).bursts = satAdd 32 (s.dmaCh c).bursts 1 ∧
    ((s.burstCompleted (s.burstWritten c d) c d poisoned).dmaCh c).held = s.heldBy d (s.dmaCh c).held := by
  rw [State.burstCompleted_dmaCh, State.burstWritten_dmaCh]
  (repeat' split) <;> exact ⟨rfl, rfl, rfl, rfl⟩

/-! ### The arbiter (R370, R371) -/

theorem DmaState.ready_iff (m : DmaState) (c : Nat) : m.ready c = true ↔ c < 60 ∧ (Table.getD m.chans c {}).ring ≠ [] ∧ (Table.getD m.chans c {}).held = none ∧
    (Table.getD m.chans c {}).paused = false ∧ (Table.getD m.chans c {}).error = false := by
  simp [DmaState.ready, and_assoc]

/-- A channel that is ready has a valid descriptor at its head. -/
def State.headGood (s : State) (c : Nat) : Prop := s.dma.ready c = true → ∃ d ds, (s.dmaCh c).ring = d :: ds ∧ descValid d = true

theorem State.headGood_congr {s u : State} {c : Nat} (h : u.dmaCh c = s.dmaCh c) (hs : s.headGood c) : u.headGood c := by
  intro hready
  rw [h]
  refine hs ?_
  rw [DmaState.ready_iff] at hready ⊢
  have h' : Table.getD u.dma.chans c {} = Table.getD s.dma.chans c {} := h
  rwa [h'] at hready

theorem State.dmaCheck_work (s : State) (c : Nat) : ChanWork c s (s.dmaCheck c) := by
  unfold State.dmaCheck
  dsimp only
  split
  · split
    · split
      · exact .refl c s
      · exact (ChanWork.modDma _ _ _).trans (.leave _ _ _ _ _)
    · exact .refl c s
  · exact .refl c s

theorem State.dmaCheck_headGood (s : State) (c : Nat) : (s.dmaCheck c).headGood c := by
  unfold State.dmaCheck
  dsimp only
  split
  · next hready =>
    split
    · next d ds hring =>
      split
      · next hvalid => exact fun _ => ⟨d, ds, hring, hvalid⟩
      · intro h
        have herror := ((DmaState.ready_iff _ _).mp h).2.2.2.2
        have hch : Table.getD ((s.modDma c fun x => { x.completed 3 with error := true }).leave 0x0F01 2 [c, (s.dmaCh c).head]).dma.chans c {} = _ :=
          (State.dmaCh_leave _ _ _ _ _).trans (State.modDma_dmaCh _ _ _)
        rw [hch] at herror
        simp at herror
    · next hring => exact absurd hring ((DmaState.ready_iff _ _).mp hready).2.1
  · next hready => exact fun h => absurd h hready

/-- After the check of every channel that is listed, each ready one has a valid descriptor. -/
theorem State.dmaChecks_headGood {l : List Nat} {s : State} {c : Nat} (h : c ∈ l ∨ s.headGood c) : (l.foldl State.dmaCheck s).headGood c := by
  induction l generalizing s with
  | nil => exact h.resolve_left (by simp)
  | cons a l ih =>
    refine ih ?_
    by_cases hac : c = a
    · exact .inr (hac ▸ s.dmaCheck_headGood a)
    · exact h.imp (fun hmem => (List.mem_cons.mp hmem).resolve_left hac) (State.headGood_congr ((s.dmaCheck_work a).others c hac))

/-- The state with every listed channel's head checked. -/
def State.dmaChecked (s : State) : State := (s.dma.chans.map (·.1)).foldl State.dmaCheck s

theorem State.dmaChecked_headGood (s : State) (c : Nat) : s.dmaChecked.headGood c := by
  refine State.dmaChecks_headGood ?_
  by_cases hmem : c ∈ s.dma.chans.map (·.1)
  · exact .inl hmem
  · refine .inr fun hready => absurd ?_ ((DmaState.ready_iff _ _).mp hready).2.1
    simp [Table.getD, Table.find_eq_none_of_not_mem _ _ hmem]

theorem State.dmaChecked_arbiter (s : State) : s.dmaChecked.dma.granted = s.dma.granted ∧ s.dmaChecked.dma.grants = s.dma.grants ∧ s.dmaChecked.img = s.img := by
  unfold State.dmaChecked
  generalize s.dma.chans.map (·.1) = l
  induction l generalizing s with
  | nil => exact ⟨rfl, rfl, rfl⟩
  | cons a l ih =>
    obtain ⟨h1, h2, h3⟩ := (s.dmaCheck_work a).arbiter
    obtain ⟨g1, g2, g3⟩ := ih (s.dmaCheck a)
    exact ⟨g1.trans h1, g2.trans h2, g3.trans h3⟩

theorem nextAfter_mem {last : Option Nat} {cs : List Nat} {c : Nat} (h : nextAfter last cs = some c) : c ∈ cs := by
  unfold nextAfter at h
  split at h
  · exact List.mem_of_head? h
  · split at h
    · next hfind =>
      obtain rfl := Option.some.inj h
      exact List.mem_of_find?_eq_some hfind
    · exact List.mem_of_head? h

theorem nextAfter_eq_none {last : Option Nat} {cs : List Nat} (h : nextAfter last cs = none) : cs = [] := by
  unfold nextAfter at h
  (repeat' split at h) <;> simp_all

/-- The channels that may be granted a burst. -/
def State.readyChans (s : State) : List Nat := (List.range 60).filter s.dma.ready

theorem State.mem_readyChans {s : State} {c : Nat} : c ∈ s.readyChans ↔ s.dma.ready c = true := by
  simp only [State.readyChans, List.mem_filter, List.mem_range, and_iff_right_iff_imp]
  exact fun h => ((DmaState.ready_iff _ _).mp h).1

/-- The priority that the next grant takes: the highest, but the lowest at each STARVE_PERIOD-th grant. -/
def State.grantPrio (s : State) (p : Nat) (ps : List Nat) : Nat := if s.dma.grants + 1 = max 1 s.img.starvePeriod then ps.foldl min p else ps.foldl max p

theorem State.grantPrio_spec (s : State) (p : Nat) (ps : List Nat) : s.grantPrio p ps ∈ p :: ps ∧
    (s.dma.grants + 1 ≠ max 1 s.img.starvePeriod → ∀ x ∈ p :: ps, x ≤ s.grantPrio p ps) ∧ (s.dma.grants + 1 = max 1 s.img.starvePeriod → ∀ x ∈ p :: ps, s.grantPrio p ps ≤ x) := by
  have hmin := List.min?_eq_some_iff.mp (show (p :: ps).min? = some (ps.foldl min p) from rfl)
  have hmax := List.max?_eq_some_iff.mp (show (p :: ps).max? = some (ps.foldl max p) from rfl)
  unfold State.grantPrio
  split
  · next h => exact ⟨hmin.1, fun hn => absurd h hn, fun _ => hmin.2⟩
  · next h => exact ⟨hmax.1, fun _ => hmax.2, fun hn => absurd hn h⟩

theorem State.dmaChoice_eq (s : State) : s.dmaChoice = match s.readyChans.map s.img.dmaPrio with
    | [] => none
    | p :: ps => (nextAfter (Table.find s.dma.last (s.grantPrio p ps)) (s.readyChans.filter fun c => s.img.dmaPrio c = s.grantPrio p ps)).map fun c => (c, s.grantPrio p ps) := rfl

/-- No channel is chosen only where none is ready. -/
theorem State.dmaChoice_none {s : State} (h : s.dmaChoice = none) (c : Nat) : s.dma.ready c = false := by
  rw [← Bool.not_eq_true, ← State.mem_readyChans]
  rw [State.dmaChoice_eq] at h
  split at h
  · next hnil => simp [List.map_eq_nil_iff.mp hnil]
  · next p ps hps =>
    have hempty := nextAfter_eq_none (Option.map_eq_none_iff.mp h)
    have hmem := (s.grantPrio_spec p ps).1
    rw [← hps, List.mem_map] at hmem
    obtain ⟨j, hj, hprio⟩ := hmem
    have hj' : j ∈ s.readyChans.filter fun c => s.img.dmaPrio c = s.grantPrio p ps := List.mem_filter.mpr ⟨hj, decide_eq_true hprio⟩
    rw [hempty] at hj'
    simp at hj'

/-- The channel chosen is ready, and its priority is the one the grant takes. -/
theorem State.dmaChoice_some {s : State} {c q : Nat} (h : s.dmaChoice = some (c, q)) : s.dma.ready c = true ∧
    (s.dma.grants + 1 ≠ max 1 s.img.starvePeriod → ∀ j, s.dma.ready j = true → s.img.dmaPrio j ≤ s.img.dmaPrio c) ∧
    (s.dma.grants + 1 = max 1 s.img.starvePeriod → ∀ j, s.dma.ready j = true → s.img.dmaPrio c ≤ s.img.dmaPrio j) := by
  rw [State.dmaChoice_eq] at h
  split at h
  · simp at h
  · next p ps hps =>
    obtain ⟨c', hnext, heq⟩ := Option.map_eq_some_iff.mp h
    obtain ⟨rfl, rfl⟩ := Prod.mk.inj heq
    obtain ⟨hmem, hprio⟩ := List.mem_filter.mp (nextAfter_mem hnext)
    obtain ⟨-, hmax, hmin⟩ := s.grantPrio_spec p ps
    rw [← hps] at hmax hmin
    rw [of_decide_eq_true hprio]
    exact ⟨State.mem_readyChans.mp hmem, fun hn j hj => hmax hn _ (List.mem_map_of_mem (State.mem_readyChans.mpr hj)),
      fun he j hj => hmin he _ (List.mem_map_of_mem (State.mem_readyChans.mpr hj))⟩

/-- The state after a grant to a channel of a priority. -/
def State.dmaGranted (s : State) (c q : Nat) : State :=
  { s with dma := { s.dma with granted := some c, last := Table.set s.dma.last q c, grants := (s.dma.grants + 1) % max 1 s.img.starvePeriod } }

theorem State.dmaGrant_eq {s : State} (h : s.dma.granted = none) : s.dmaGrant = match s.dmaChecked.dmaChoice with
    | some (c, q) => s.dmaChecked.dmaGranted c q
    | none => s.dmaChecked := by
  unfold State.dmaGrant
  rw [if_neg (by simp [h])]
  rfl

theorem State.dmaGrant_none {s : State} (h : s.dma.granted = none) (hnone : s.dmaGrant.dma.granted = none) (c : Nat) : s.dmaGrant.dma.ready c = false := by
  rw [State.dmaGrant_eq h] at hnone ⊢
  cases hchoice : s.dmaChecked.dmaChoice with
  | none => exact State.dmaChoice_none hchoice c
  | some cq => simp [hchoice, State.dmaGranted] at hnone

theorem State.dmaGrant_some {s : State} {c : Nat} (h : s.dma.granted = none) (hc : s.dmaGrant.dma.granted = some c) : s.dmaGrant.dma.ready c = true ∧ c < 60 ∧
    (∃ d ds, (s.dmaGrant.dmaCh c).ring = d :: ds ∧ descValid d = true) ∧
    (s.dma.grants + 1 ≠ max 1 s.img.starvePeriod → ∀ j, s.dmaGrant.dma.ready j = true → s.img.dmaPrio j ≤ s.img.dmaPrio c) ∧
    (s.dma.grants + 1 = max 1 s.img.starvePeriod → ∀ j, s.dmaGrant.dma.ready j = true → s.img.dmaPrio c ≤ s.img.dmaPrio j) := by
  obtain ⟨hgranted, hgrants, himg⟩ := s.dmaChecked_arbiter
  rw [State.dmaGrant_eq h] at hc ⊢
  cases hchoice : s.dmaChecked.dmaChoice with
  | none => simp [hchoice, hgranted, h] at hc
  | some cq =>
    obtain ⟨c', q⟩ := cq
    rw [hchoice] at hc
    obtain rfl : c' = c := Option.some.inj hc
    obtain ⟨hready, hmax, hmin⟩ := State.dmaChoice_some hchoice
    rw [hgrants, himg] at hmax hmin
    exact ⟨hready, ((DmaState.ready_iff _ _).mp hready).1, s.dmaChecked_headGood c' hready, hmax, hmin⟩

/-! ### Pauses, releases and the abort (R373, R374, R375) -/

/-- A holder's PAUSE pauses the channel; its ring, DONE and the other holders' PAUSEs stand. -/
theorem DmaCh.pause_spec (x : DmaCh) (h : DmaHolder) : (x.pause h).paused = true ∧ (x.pause h).ring = x.ring ∧ (x.pause h).done = x.done ∧
    (x.pause h).pauseOwner = (x.pauseOwner || decide (h = .owner)) ∧ (x.pause h).pauseFault = (x.pauseFault || decide (h = .faultSequencer)) ∧
    (x.pause h).pauseFreq = (x.pauseFreq || decide (h = .freqChange)) := by
  have hcounted : ∃ pauses, (if x.paused then x else { x with pauses := satAdd 32 x.pauses 1 }) = { x with pauses := pauses } := by
    split
    · exact ⟨x.pauses, rfl⟩
    · exact ⟨_, rfl⟩
  obtain ⟨pauses, hcounted⟩ := hcounted
  unfold DmaCh.pause
  rw [hcounted]
  cases h <;> simp [DmaCh.paused]

/-- The end of a frequency change touches only the map cache's banks and the mark of the change. -/
theorem State.freqEnds_work (s : State) : ∃ changing, BankWork (fun _ => True) { s with dram := { s.dram with changing := changing } } s.freqEnds := by
  unfold State.freqEnds
  split
  · exact ⟨s.dram.changing, .refl _ _⟩
  · exact ⟨false, .fold (fun s b => (State.drainStep_work s b).mono fun _ _ => trivial) _ _⟩

theorem State.freqEnds_dma (s : State) : s.freqEnds.dma = s.dma := by
  obtain ⟨_, h⟩ := s.freqEnds_work
  obtain ⟨_, _, _, _, h⟩ := h.frame
  rw [h]

/-- A change in which no channel is paused any more has ended (R375). -/
theorem State.freqEnds_changing {s : State} (h : ∀ c x, (c, x) ∈ s.dma.chans → x.pauseFreq = false) : s.freqEnds.dram.changing = false := by
  unfold State.freqEnds
  split
  · next hany =>
    obtain ⟨⟨c, x⟩, hmem, hx⟩ := List.any_eq_true.mp hany
    simp [h c x hmem] at hx
  · exact congrArg DramState.changing (BankWork.fold (fun s b => (State.drainStep_work s b).mono fun _ _ => trivial) _ _).dram

/-! ### The commands -/

/-- The state after the granted burst's bytes, with the grant given back. -/
def State.ungranted (s : State) : State := { s with dma := { s.dma with granted := none } }

theorem State.ungranted_dmaBurst {s : State} {c : Nat} (hgranted : s.dma.granted = some c) (p : Bool) :
    exec (.dmaBurstDone p) s = .next (s.ungranted.dmaBurst c p).dmaGrant.settleFront := by
  show execDmaBurstDone p s = _
  unfold execDmaBurstDone
  rw [hgranted]
  rfl

/-- A burst of a channel that is not aborting ends with the channel as `burstCompleted` leaves it. -/
theorem State.dmaBurst_of_not_aborting {s : State} {c : Nat} {d : BitVec 256} {ds : List (BitVec 256)} (hring : (s.dmaCh c).ring = d :: ds) (h : (s.dmaCh c).aborting = false) (p : Bool) :
    s.dmaBurst c p = s.burstCompleted (s.burstWritten c d) c d p := by
  rw [State.dmaBurst_eq hring, (s.burstCompleted_stands c d p).1, h]
  rfl

theorem State.dmaBurst_of_aborting {s : State} {c : Nat} {d : BitVec 256} {ds : List (BitVec 256)} (hring : (s.dmaCh c).ring = d :: ds) (h : (s.dmaCh c).aborting = true) (p : Bool) :
    s.dmaBurst c p = (s.burstCompleted (s.burstWritten c d) c d p).modDma c DmaCh.aborted := by
  rw [State.dmaBurst_eq hring, (s.burstCompleted_stands c d p).1, if_pos h]

/-- What a granted burst leaves of its channel's descriptor (R371, R376). -/
theorem State.burstCompleted_descriptor {s : State} {c : Nat} {d : BitVec 256} {ds : List (BitVec 256)} {bytes : Nat} (hring : (s.dmaCh c).ring = d :: ds) (hbytes : bytes = min 512 (descLength d - (s.dmaCh c).done)) (p : Bool) {x : DmaCh}
    (hx : x = (s.burstCompleted (s.burstWritten c d) c d p).dmaCh c) :
    (p = true → descSrcSpace d = 0 → x.ring = ds ∧ x.result = 2 ∧ x.done = 0) ∧
    (p = false ∨ descSrcSpace d ≠ 0 → (s.dmaCh c).done + bytes < descLength d → x.ring = d :: ds ∧ x.done = (s.dmaCh c).done + 512) ∧
    (p = false ∨ descSrcSpace d ≠ 0 → descLength d ≤ (s.dmaCh c).done + bytes → x.ring = ds ∧ x.result = 0 ∧ x.done = 0 ∧
      x.head = ((s.dmaCh c).head + 1) % 8 ∧ x.notified = (s.dmaCh c).notified + bit (descNotify d)) := by
  rw [State.burstCompleted_dmaCh, State.burstWritten_dmaCh, ← hbytes] at hx
  refine ⟨fun hp hspace => ?_, fun hgood hmore => ?_, fun hgood hlast => ?_⟩
  · rw [if_pos ⟨hp, hspace⟩] at hx
    subst hx
    exact ⟨by simp [DmaCh.completed, hring], rfl, rfl⟩
  · rw [if_neg (by rintro ⟨hp, hspace⟩; simp [hp, hspace] at hgood), if_neg (by omega)] at hx
    subst hx
    exact ⟨hring, by show (s.dmaCh c).done + bytes = _; omega⟩
  · rw [if_neg (by rintro ⟨hp, hspace⟩; simp [hp, hspace] at hgood), if_pos hlast] at hx
    subst hx
    refine ⟨by simp [DmaCh.completed, hring], rfl, rfl, rfl, ?_⟩
    show (if descNotify d then (s.dmaCh c).notified + 1 else (s.dmaCh c).notified) = _
    cases descNotify d <;> rfl

/-- What a granted burst leaves of its FIFO and its channel's hold (R372). -/
theorem State.burstCompleted_pace (s : State) (c : Nat) (d : BitVec 256) (p : Bool) {u : State} (hu : u = s.burstCompleted (s.burstWritten c d) c d p) :
    (descPaced d = true → Table.getD u.dma.fifo (descDst d) 0 = Table.getD s.dma.fifo (descDst d) 0 + 1 ∧
      (descHigh d ≤ Table.getD s.dma.fifo (descDst d) 0 + 1 → (u.dmaCh c).held = some (descDst d, descLow d)) ∧ (Table.getD s.dma.fifo (descDst d) 0 + 1 < descHigh d → (u.dmaCh c).held = (s.dmaCh c).held)) ∧
    (descPaced d = false → u.dma.fifo = s.dma.fifo ∧ (u.dmaCh c).held = (s.dmaCh c).held) := by
  rw [hu, (s.burstCompleted_stands c d p).2.2.2, State.burstCompleted_fifo, State.burstWritten_fifo, State.fifoFilled, State.heldBy]
  refine ⟨fun hpaced => ⟨?_, fun hhigh => by rw [if_pos ⟨hpaced, hhigh⟩], fun hlow => by rw [if_neg (by omega)]⟩, fun hpaced => by simp [hpaced]⟩
  rw [if_pos hpaced]
  exact Table.getD_set_self _ _ _ _

/-- A drained FIFO releases a channel that it holds at LOW or above the fill (R372). -/
def DmaCh.drainedTo (x : DmaCh) (f n : Nat) : DmaCh := match x.held with
  | some (g, low) => if g = f ∧ n ≤ low then { x with held := none } else x
  | none => x

/-- Settles O44: each command through what it leaves of one channel, and the arbiter through its choice. -/
theorem dmaRunsItsDescriptors : Obligations.DmaRunsItsDescriptors := by
  unfold Obligations.DmaRunsItsDescriptors
  refine ⟨fun s ch d hch hroom haborting => ?_, fun s ch d hfull => ?_, fun s p hnone => ?_, fun s p c d ds bytes hgranted hring haborting hbytes => ?_, fun s p c d ds hgranted hring haborting => ?_,
    fun s f n hn => ?_, fun s f n hn => ?_, fun x => rfl, fun s ch h hch => ?_, fun s ch h hch => ?_, fun s ch hch => ?_, fun s ch h hch => ?_, fun s ch hch => ?_, fun s ch hch hgranted => ?_,
    fun s ch hch hgranted => ?_, fun s => ⟨fun h => if_pos h, fun h hnone => State.dmaGrant_none h hnone, fun c h hc => State.dmaGrant_some h hc⟩⟩
  · exact ⟨_, if_pos ⟨hch, hroom, by simp [haborting]⟩, State.modDma_dmaCh _ _ _, fun c hc => State.modDma_dmaCh_ne _ _ _ _ hc, rfl, rfl⟩
  · refine if_neg ?_
    rintro ⟨hch, hroom, haborting⟩
    obtain h | h | h := hfull
    · omega
    · omega
    · simp [h] at haborting
  · show execDmaBurstDone p s = _
    unfold execDmaBurstDone
    rw [hnone]
  · have hburst := State.ungranted_dmaBurst hgranted p
    rw [State.dmaBurst_of_not_aborting (s := s.ungranted) hring haborting] at hburst
    have hwork := State.burstCompleted_work (s.ungranted.burstWritten_work c d) d p
    obtain ⟨hpoison, hmore, hlast⟩ := State.burstCompleted_descriptor (s := s.ungranted) hring hbytes p rfl
    obtain ⟨hpaced, hunpaced⟩ := State.burstCompleted_pace s.ungranted c d p rfl
    exact ⟨_, hburst, hwork.arbiter.1, (s.ungranted.burstCompleted_stands c d p).2.2.1, hwork.others, hpoison, hmore, hlast, hpaced, hunpaced, hwork.frames⟩
  · have hburst := State.ungranted_dmaBurst hgranted p
    rw [State.dmaBurst_of_aborting (s := s.ungranted) hring haborting] at hburst
    refine ⟨_, hburst, ?_⟩
    rw [State.modDma_dmaCh]
    exact ⟨rfl, rfl, rfl, rfl, (s.ungranted.burstCompleted_stands c d p).2.1⟩
  · refine ⟨_, if_pos hn, Table.getD_set_self _ _ _ _, fun g hg => Table.find_set_ne _ _ _ _ hg, fun c x hx => ?_, rfl⟩
    exact (Table.find_map_snd (fun x : DmaCh => x.drainedTo f n) s.dma.chans c).trans (congrArg (Option.map _) hx)
  · exact if_neg (by omega)
  · refine ⟨_, if_pos hch, ?_⟩
    obtain ⟨h1, h2, h3, h4, h5, h6⟩ := (s.dmaCh ch).pause_spec h
    rw [State.modDma_dmaCh]
    exact ⟨h1, h2, h3, h4, h5, h6, rfl, fun c hc => State.modDma_dmaCh_ne _ _ _ _ hc, rfl⟩
  · refine if_neg ?_
    rintro (h' | ⟨howner, h'⟩)
    · omega
    · exact hch.elim (by omega) fun ⟨h, _⟩ => howner h
  · have hrelease : ∀ h, exec (.dmaRelease ch h) s = _ := fun h => if_neg (by omega : ¬ 64 ≤ ch)
    refine ⟨⟨_, hrelease .owner, State.modDma_dmaCh _ _ _, fun c hc => State.modDma_dmaCh_ne _ _ _ _ hc⟩, hrelease .faultSequencer, _, hrelease .freqChange, ?_⟩
    unfold State.dmaCh
    rw [State.freqEnds_dma]
    exact ⟨State.modDma_dmaCh _ _ _, fun c hc => State.modDma_dmaCh_ne _ _ _ _ hc, State.freqEnds_changing⟩
  · exact if_pos hch
  · exact if_pos hch
  · exact ⟨_, (if_neg (by omega)).trans (if_pos hgranted), State.modDma_dmaCh _ _ _, hgranted, fun c hc => State.modDma_dmaCh_ne _ _ _ _ hc⟩
  · refine ⟨_, (if_neg (by omega)).trans (if_neg hgranted), ?_⟩
    rw [State.modDma_dmaCh]
    exact ⟨rfl, rfl, rfl, rfl, rfl, rfl, rfl, rfl, fun c hc => State.modDma_dmaCh_ne _ _ _ _ hc⟩

end Sys2Proof.Machine
end

section
/-! The sensors and the thermal level (O31): which die and NVMe sensors a conversion leaves broken, the level's rise with its ask, and the trip (R379 to R386). -/
namespace Sys2Proof.Machine

/-! ### What the sensors' sources and the level read -/

/-- What the NVMe sensors' sources read stands as it was. -/
structure SensesKept (s u : State) : Prop where
  reading : u.therm.reading = s.therm.reading
  brokenDie : u.therm.brokenDie = s.therm.brokenDie
  awl : u.awl = s.awl
  dram : u.dram = s.dram
  img : u.img = s.img

namespace SensesKept
variable {s u v : State}

theorem trans (h : SensesKept s u) (g : SensesKept u v) : SensesKept s v :=
  ⟨g.reading.trans h.reading, g.brokenDie.trans h.brokenDie, g.awl.trans h.awl, g.dram.trans h.dram, g.img.trans h.img⟩

theorem isBroken (h : SensesKept s u) (i : Nat) : u.therm.isBroken i = s.therm.isBroken i := by
  unfold ThermState.isBroken
  rw [h.brokenDie]

theorem channelsInService (h : SensesKept s u) : u.channelsInService = s.channelsInService := by
  unfold State.channelsInService State.dieServes State.chan State.die
  rw [h.awl]

theorem sourceBroken (h : SensesKept s u) (n : Nat) : u.sourceBroken n = s.sourceBroken n := by
  simp only [State.sourceBroken, h.isBroken, h.channelsInService]

theorem sensorSource (h : SensesKept s u) (n : Nat) : u.sensorSource n = s.sensorSource n := by
  simp only [State.sensorSource, State.flashEstimates, ThermState.working, h.isBroken, h.channelsInService, h.reading, h.dram, h.img]

theorem domainTemp (h : SensesKept s u) (hbroken : u.therm.broken = s.therm.broken) (d : Nat) : u.domainTemp d = s.domainTemp d := by
  simp only [State.domainTemp, hbroken, h.sensorSource, h.img]

theorem levelNow (h : SensesKept s u) (hbroken : u.therm.broken = s.therm.broken) : u.levelNow = s.levelNow := by
  simp only [State.levelNow, State.domainLevel, h.domainTemp hbroken, h.img]

theorem belowLevel (h : SensesKept s u) (hbroken : u.therm.broken = s.therm.broken) (hlevel : u.therm.level = s.therm.level) : u.belowLevel = s.belowLevel := by
  simp only [State.belowLevel, h.domainTemp hbroken, h.img, hlevel]
end SensesKept

/-! ### Die sensors -/

/-- A die sensor's last reading says it is broken: out of range, or the tenth in a row that differs from its group. -/
def ThermState.bad (t : ThermState) (i : Nat) : Prop := ∃ x, t.reading i = some x ∧ (inSpan x = false ∨ 10 ≤ Table.getD t.differs i 0)

theorem State.dieBreaks_therm (s : State) (i cause : Nat) : ∃ bd, (s.dieBreaks i cause).therm = { s.therm with brokenDie := bd } ∧ ∀ j, j ∈ bd ↔ j ∈ s.therm.brokenDie ∨ j = i := by
  unfold State.dieBreaks
  split
  · next hbroken =>
    refine ⟨s.therm.brokenDie, rfl, fun j => (or_iff_left_of_imp ?_).symm⟩
    rintro rfl
    simpa [ThermState.isBroken] using hbroken
  · exact ⟨s.therm.brokenDie ++ [i], by simp, by simp⟩

/-- One die sensor judged after a conversion. -/
def State.judgeDie (s : State) (i : Nat) : State :=
  match s.therm.reading i with
  | some x => if !inSpan x then s.dieBreaks i 0 else if 10 ≤ Table.getD s.therm.differs i 0 then s.dieBreaks i 2 else s
  | none => s

theorem State.judgeSensors_eq (s : State) : s.judgeSensors = ((List.range 52).foldl State.judgeDie s).nvmeChecks := rfl

theorem State.judgeDie_therm (s : State) (i : Nat) : ∃ bd, (s.judgeDie i).therm = { s.therm with brokenDie := bd } ∧ ∀ j, j ∈ bd ↔ j ∈ s.therm.brokenDie ∨ (j = i ∧ s.therm.bad j) := by
  have hbreaks (hbad : s.therm.bad i) (cause : Nat) : ∃ bd, (s.dieBreaks i cause).therm = { s.therm with brokenDie := bd } ∧ ∀ j, j ∈ bd ↔ j ∈ s.therm.brokenDie ∨ (j = i ∧ s.therm.bad j) := by
    obtain ⟨bd, htherm, hmem⟩ := s.dieBreaks_therm i cause
    refine ⟨bd, htherm, fun j => (hmem j).trans (or_congr_right ?_)⟩
    constructor
    · rintro rfl
      exact ⟨rfl, hbad⟩
    · exact And.left
  have hstands (hgood : ¬ s.therm.bad i) : ∃ bd, s.therm = { s.therm with brokenDie := bd } ∧ ∀ j, j ∈ bd ↔ j ∈ s.therm.brokenDie ∨ (j = i ∧ s.therm.bad j) := by
    refine ⟨_, rfl, fun j => (or_iff_left ?_).symm⟩
    rintro ⟨rfl, hbad⟩
    exact hgood hbad
  unfold State.judgeDie
  split
  · next x hx =>
    split
    · next hspan => exact hbreaks ⟨x, hx, .inl (by simpa using hspan)⟩ 0
    · next hspan =>
      split
      · next hdiffers => exact hbreaks ⟨x, hx, .inr hdiffers⟩ 2
      · next hdiffers =>
        refine hstands ?_
        rintro ⟨y, hy, hbad⟩
        obtain rfl := Option.some.inj (hx.symm.trans hy)
        exact hbad.elim (by simpa using hspan) hdiffers
  · next hx =>
    refine hstands ?_
    rintro ⟨y, hy, -⟩
    simp [hx] at hy

theorem State.judgeDies_therm (l : List Nat) (s : State) : ∃ bd, (l.foldl State.judgeDie s).therm = { s.therm with brokenDie := bd } ∧ ∀ j, j ∈ bd ↔ j ∈ s.therm.brokenDie ∨ (j ∈ l ∧ s.therm.bad j) := by
  induction l generalizing s with
  | nil => exact ⟨_, rfl, by simp⟩
  | cons i l ih =>
    obtain ⟨bd, htherm, hmem⟩ := s.judgeDie_therm i
    obtain ⟨bd', htherm', hmem'⟩ := ih (s.judgeDie i)
    rw [htherm] at htherm' hmem'
    refine ⟨bd', htherm', fun j => (hmem' j).trans ?_⟩
    rw [hmem j, List.mem_cons, or_and_right, or_assoc]
    rfl

/-! ### NVMe sensors -/

theorem State.nvmeCheck_therm (s : State) (n : Nat) : ∃ br, (s.nvmeCheck n).therm = { s.therm with broken := br } ∧ ∀ m, m ∈ br ↔ if m = n then s.sourceBroken n = true else m ∈ s.therm.broken := by
  unfold State.nvmeCheck
  dsimp only
  split
  · next h =>
    have h := (Bool.and_eq_true _ _).mp h
    refine ⟨s.therm.broken ++ [n], by (repeat' split) <;> simp, fun m => ?_⟩
    by_cases hm : m = n <;> simp [hm, h.1]
  · split
    · next h =>
      have h := (Bool.and_eq_true _ _).mp h
      refine ⟨s.therm.broken.filter (· ≠ n), by simp, fun m => ?_⟩
      by_cases hm : m = n <;> simp_all
    · next hbreaks hworks =>
      refine ⟨_, rfl, fun m => ?_⟩
      by_cases hm : m = n
      · subst hm
        cases hnow : s.sourceBroken m <;> simp_all
      · simp [hm]

theorem SensesKept.of_broken {s u : State} {br : List Nat} (htherm : u.therm = { s.therm with broken := br }) (hawl : u.awl = s.awl) (hdram : u.dram = s.dram) (himg : u.img = s.img) : SensesKept s u :=
  ⟨by rw [htherm]; rfl, by rw [htherm], hawl, hdram, himg⟩

/-- After the check of every NVMe sensor that is listed, exactly those stand broken whose source is. -/
theorem State.nvmeCheckList_therm (l : List Nat) (s : State) : ∃ br, (l.foldl State.nvmeCheck s).therm = { s.therm with broken := br } ∧
    ∀ m, m ∈ br ↔ if m ∈ l then s.sourceBroken m = true else m ∈ s.therm.broken := by
  induction l generalizing s with
  | nil => exact ⟨_, rfl, by simp⟩
  | cons n l ih =>
    obtain ⟨br, htherm, hmem⟩ := s.nvmeCheck_therm n
    obtain ⟨br', htherm', hmem'⟩ := ih (s.nvmeCheck n)
    have hkept : SensesKept s (s.nvmeCheck n) := .of_broken htherm (by simp) (by simp) (by simp)
    rw [htherm] at htherm' hmem'
    refine ⟨br', htherm', fun m => (hmem' m).trans ?_⟩
    rw [hkept.sourceBroken]
    by_cases hl : m ∈ l
    · simp [hl]
    · by_cases hm : m = n <;> simp [hl, hm, hmem]

theorem State.nvmeChecks_therm (s : State) : ∃ br, s.nvmeChecks.therm = { s.therm with broken := br } ∧ ∀ n, 1 ≤ n → n ≤ 8 → (n ∈ br ↔ s.sourceBroken n = true) := by
  obtain ⟨br, htherm, hmem⟩ := State.nvmeCheckList_therm [1, 2, 3, 4, 5, 6, 7, 8] s
  refine ⟨br, htherm, fun n hlow hhigh => (hmem n).trans ?_⟩
  rw [if_pos]
  simp
  omega

/-! ### The level -/

/-- Work of the thermal level: of the temperatures only the level, its floor and its timers have changed. -/
structure LevelWork (s u : State) : Prop where
  therm : ∃ level floor enforced tmt1 tmt2 time1 time2 ask1 ask2 below, u.therm =
    { s.therm with level := level, floor := floor, enforced := enforced, tmt1 := tmt1, tmt2 := tmt2, tmtTime1 := time1, tmtTime2 := time2, ask1 := ask1, ask2 := ask2, below := below }
  awl : u.awl = s.awl
  dram : u.dram = s.dram
  img : u.img = s.img

namespace LevelWork
variable {s u v : State}

theorem refl (s : State) : LevelWork s s := ⟨⟨_, _, _, _, _, _, _, _, _, _, rfl⟩, rfl, rfl, rfl⟩

theorem trans (h : LevelWork s u) (g : LevelWork u v) : LevelWork s v := by
  obtain ⟨_, _, _, _, _, _, _, _, _, _, htherm⟩ := h.therm
  obtain ⟨_, _, _, _, _, _, _, _, _, _, gtherm⟩ := g.therm
  rw [htherm] at gtherm
  exact ⟨⟨_, _, _, _, _, _, _, _, _, _, gtherm⟩, g.awl.trans h.awl, g.dram.trans h.dram, g.img.trans h.img⟩

theorem senses (h : LevelWork s u) : SensesKept s u ∧ u.therm.broken = s.therm.broken ∧ u.therm.reserveGood = s.therm.reserveGood ∧ u.therm.silent = s.therm.silent ∧
    u.therm.differs = s.therm.differs := by
  obtain ⟨_, _, _, _, _, _, _, _, _, _, htherm⟩ := h.therm
  exact ⟨⟨by rw [htherm]; rfl, by rw [htherm], h.awl, h.dram, h.img⟩, by rw [htherm], by rw [htherm], by rw [htherm], by rw [htherm]⟩
end LevelWork

/-- The ask at a throttle level touches the floor and the timers only. -/
theorem State.ask_therm (s : State) (l : Nat) : (s.ask l).therm =
    if (if l = 2 then s.therm.grace else s.therm.grace2) = 0 then (s.enforce l).therm
    else if l = 2 then { s.therm with ask1 := some (s.therm.grace * 10000) } else { s.therm with ask2 := some (s.therm.grace2 * 10000) } := by
  unfold State.ask
  by_cases hl : l = 2 <;> by_cases hg : (if l = 2 then s.therm.grace else s.therm.grace2) = 0 <;> simp_all [State.enforce_therm]

theorem State.ask_work (s : State) (l : Nat) : LevelWork s (s.ask l) ∧ (s.ask l).therm.level = s.therm.level ∧ (s.ask l).therm.below = s.therm.below := by
  rw [State.ask_therm, State.enforce_therm]
  refine ⟨⟨?_, by simp, by simp, by simp⟩, ?_⟩
  · rw [State.ask_therm, State.enforce_therm]
    (repeat' split) <;> exact ⟨_, _, _, _, _, _, _, _, _, _, rfl⟩
  · (repeat' split) <;> exact ⟨rfl, rfl⟩

theorem State.levelRises_work (s : State) (new : Nat) : LevelWork s (s.levelRises new) ∧ (s.levelRises new).therm.level = new := by
  have hasks (l : List Nat) (old : Nat) (u : State) : LevelWork u (l.foldl (fun s l => if old < l ∧ l ≤ new then s.ask l else s) u) ∧
      (l.foldl (fun s l => if old < l ∧ l ≤ new then s.ask l else s) u).therm.level = u.therm.level := by
    induction l generalizing u with
    | nil => exact ⟨.refl u, rfl⟩
    | cons a l ih =>
      by_cases ha : old < a ∧ a ≤ new
      · simp only [List.foldl_cons, if_pos ha]
        obtain ⟨hwork, hlevel, -⟩ := u.ask_work a
        exact ⟨hwork.trans (ih _).1, (ih _).2.trans hlevel⟩
      · simp only [List.foldl_cons, if_neg ha]
        exact ih u
  unfold State.levelRises
  refine ⟨.trans ⟨?_, ?_, ?_, ?_⟩ (hasks _ _ _).1, (hasks _ _ _).2.trans ?_⟩ <;> simp

/-- The level is the larger of the old one and what the readings give; without a rise the time below it runs on while every domain stands below. -/
theorem State.levelRise_work (s : State) : LevelWork s s.levelRise ∧ s.levelRise.therm.level = max s.therm.level s.levelNow ∧
    (s.levelNow ≤ s.therm.level → s.levelRise.therm.below = if s.belowLevel then s.therm.below else 0) := by
  have hwork : LevelWork s { s with therm := { s.therm with below := if s.belowLevel then s.therm.below else 0 } } := ⟨⟨_, _, _, _, _, _, _, _, _, _, rfl⟩, rfl, rfl, rfl⟩
  have hnow := hwork.senses.1.levelNow rfl
  unfold State.levelRise
  dsimp only
  rw [hnow]
  split
  · next hrise =>
    obtain ⟨hrises, hlevel⟩ := State.levelRises_work { s with therm := { s.therm with below := if s.belowLevel then s.therm.below else 0 } } s.levelNow
    exact ⟨hwork.trans hrises, hlevel.trans (Nat.max_eq_right (Nat.le_of_lt hrise)).symm, fun h => absurd h (Nat.not_le.mpr hrise)⟩
  · next hrise => exact ⟨hwork, by show s.therm.level = _; omega, fun _ => rfl⟩

/-- Timers, floor times and the time below the level at a conversion. -/
def State.levelTicked (s : State) : State :=
  { s with therm := { s.therm with
      ask1 := s.therm.ask1.map (· - 1), ask2 := s.therm.ask2.map (· - 1)
      tmtTime1 := if s.therm.enforced = 2 then s.therm.tmtTime1 + 1 else s.therm.tmtTime1
      tmtTime2 := if s.therm.enforced = 3 then s.therm.tmtTime2 + 1 else s.therm.tmtTime2
      below := s.therm.below + 1 } }

theorem State.levelStep_eq (s : State) : s.levelStep = s.levelTicked.levelRise := rfl

theorem State.levelTicked_work (s : State) : LevelWork s s.levelTicked := ⟨⟨_, _, _, _, _, _, _, _, _, _, rfl⟩, rfl, rfl, rfl⟩

/-- At a conversion the level follows the readings upward, and the time below it goes on while every domain stands below. -/
theorem State.levelStep_work (s : State) : LevelWork s s.levelStep ∧ s.levelStep.therm.level = max s.therm.level s.levelStep.levelNow ∧
    (s.levelStep.levelNow ≤ s.therm.level → s.levelStep.therm.below = if s.levelStep.belowLevel then s.therm.below + 1 else 0) := by
  obtain ⟨hrise, hlevel, hbelow⟩ := s.levelTicked.levelRise_work
  have hwork := s.levelTicked_work.trans hrise
  obtain ⟨senses, hbroken, -⟩ := hrise.senses
  rw [State.levelStep_eq, senses.levelNow hbroken]
  refine ⟨hwork, hlevel, fun h => ?_⟩
  rw [hbelow h, senses.belowLevel hbroken (hlevel.trans (Nat.max_eq_left h))]
  rfl

/-! ### Trip -/

/-- What a trip reading in a row makes of each domain's count (R386). -/
def State.tripRuns (s : State) : List Nat := [0, 1, 2].map fun d => if s.atTrip d then min 2 (natAt s.therm.tripRun d + 1) else 0

/-- The state with its trip readings counted. -/
def State.tripCounted (s : State) : State :=
  { s with therm := { s.therm with tripRun := s.tripRuns, coolFor := if s.therm.tripped && s.coolEnough then s.therm.coolFor + 1 else 0 } }

theorem State.tripStep_eq (s : State) : s.tripStep = match [0, 1, 2].find? fun d => natAt s.tripRuns d = 2 with
    | some d => if s.therm.tripped then s.tripCounted else s.tripCounted.trip d
    | none => s.tripCounted := rfl

theorem State.natAt_tripRuns (s : State) {d : Nat} (hd : d < 3) : natAt s.tripRuns d = if s.atTrip d then min 2 (natAt s.therm.tripRun d + 1) else 0 := by
  interval_cases d <;> rfl

/-- A count stands at two exactly on a second trip reading in a row. -/
theorem State.natAt_tripRuns_eq_two (s : State) {d : Nat} (hd : d < 3) : natAt s.tripRuns d = 2 ↔ s.atTrip d = true ∧ natAt s.therm.tripRun d ≠ 0 := by
  rw [State.natAt_tripRuns s hd]
  split
  · next h =>
    rw [and_iff_right h]
    omega
  · next h => simp [h]

/-- Without a second trip reading in a row, or in a trip that stands, only the counts change. -/
theorem State.tripStep_counts {s : State} (h : s.therm.tripped = true ∨ ∀ d, d < 3 → s.atTrip d = false ∨ natAt s.therm.tripRun d = 0) : s.tripStep = s.tripCounted := by
  rw [State.tripStep_eq]
  split
  · next d hfind =>
    refine if_pos (h.resolve_right fun hquiet => ?_)
    have hd : d < 3 := by
      have hmem := List.mem_of_find?_eq_some hfind
      simp at hmem
      omega
    have htwo := List.find?_some hfind
    obtain ⟨hat, hrun⟩ := (s.natAt_tripRuns_eq_two hd).mp (of_decide_eq_true htwo)
    obtain h | h := hquiet d hd
    · simp [h] at hat
    · exact hrun h
  · rfl

theorem State.tripStep_trips {s : State} {d : Nat} (hd : d < 3) (htripped : s.therm.tripped = false) (hat : s.atTrip d = true) (hrun : natAt s.therm.tripRun d ≠ 0) :
    ∃ e, s.tripStep = s.tripCounted.trip e := by
  rw [State.tripStep_eq]
  split
  · next e _ => exact ⟨e, if_neg (by simp [htripped])⟩
  · next hnone =>
    have h := List.find?_eq_none.mp hnone d (by simp; omega)
    exact absurd (decide_eq_true ((s.natAt_tripRuns_eq_two hd).mpr ⟨hat, hrun⟩)) h

/-- The state in which a trip starts its dump: it stands, and code 0x1005 is left. -/
def State.tripLeft (s : State) (d : Nat) : State :=
  ({ s with therm := { s.therm with tripped := true, coolFor := 0 } } : State).leave 0x1005 3 [d + 1, ({ s with therm := { s.therm with tripped := true, coolFor := 0 } } : State).sensorField 64 (d + 1)]

theorem State.tripLeft_kept (s : State) (d : Nat) : (s.tripLeft d).therm = { s.therm with tripped := true, coolFor := 0 } ∧ (s.tripLeft d).dump = s.dump ∧ (s.tripLeft d).media = s.media := by
  simp [State.tripLeft]

/-- A trip whose dump can start waits for it. -/
theorem State.trip_of_startable {s : State} {set : Bool} (hactive : s.dump.active = some set) (hsince : s.dump.since = false) (d : Nat) :
    s.trip d = (s.tripLeft d).startDump 2 false ∧ (s.trip d).media = s.media ∧ ∃ r, (s.trip d).dump.run = some r ∧ r.cause = 2 ∧ (s.trip d).dump.since = true := by
  obtain ⟨-, hdump, hmedia⟩ := s.tripLeft_kept d
  obtain ⟨r, hr, hcause, -, -, -, -, -, -, hstarted, -, -, -, -, hflash, -⟩ := State.startDump_started (s := s.tripLeft d) (by rw [hdump]; exact hactive) (by rw [hdump]; exact hsince) 2 false
  have htrip : s.trip d = (s.tripLeft d).startDump 2 false := if_pos (show ((s.tripLeft d).startDump 2 false).dump.run.isSome = true by rw [hr]; rfl)
  rw [htrip]
  exact ⟨rfl, hflash.trans hmedia, r, hr, hcause, hstarted⟩

/-- A trip without a dump to start waits for the one that runs, joins the holds, or holds the main domain. -/
theorem State.trip_of_undumpable {s : State} (h : s.dump.active = none ∨ s.dump.since = true) (d : Nat) : s.trip d =
    if s.dump.run.isSome then s.tripLeft d
    else if s.dump.inReset then { s.tripLeft d with dump := { s.dump with holds := s.dump.holds ++ [2] } } else (s.tripLeft d).holdMain [2] := by
  have hdump := (s.tripLeft_kept d).2.1
  unfold State.trip
  dsimp only
  change (if ((s.tripLeft d).startDump 2 false).dump.run.isSome = true then (s.tripLeft d).startDump 2 false else if ((s.tripLeft d).startDump 2 false).dump.inReset = true then
    { (s.tripLeft d).startDump 2 false with dump := { ((s.tripLeft d).startDump 2 false).dump with holds := ((s.tripLeft d).startDump 2 false).dump.holds ++ [2] } }
    else ((s.tripLeft d).startDump 2 false).holdMain [2]) = _
  rw [State.startDump_of_not (by rw [hdump]; exact h), hdump]

/-- A trip stands from its start, and flash with it. -/
theorem State.trip_stands (s : State) (d : Nat) : (s.trip d).therm.tripped = true ∧ (s.trip d).therm.coolFor = 0 ∧ (s.trip d).media = s.media := by
  obtain ⟨htherm, -, hmedia⟩ := s.tripLeft_kept d
  by_cases h : s.dump.active = none ∨ s.dump.since = true
  · rw [State.trip_of_undumpable h]
    (repeat' split) <;> simp [State.holdMain, htherm, hmedia]
  · obtain ⟨hactive, hsince⟩ := not_or.mp h
    obtain ⟨set, hset⟩ := Option.ne_none_iff_exists'.mp hactive
    obtain ⟨htrip, hflash, -⟩ := State.trip_of_startable hset (by simpa using hsince) d
    refine ⟨?_, ?_, hflash⟩ <;> rw [htrip] <;> simp [htherm]

/-! ### The commands -/

theorem ThermState.isBroken_iff (t : ThermState) (i : Nat) : t.isBroken i = true ↔ i ∈ t.brokenDie := by
  unfold ThermState.isBroken
  exact List.contains_iff_mem

/-- Every die sensor takes its reading, and one without a reading keeps its last. -/
theorem ThermState.reading_takeReadings (t : ThermState) (rs : List (Option Int)) {i : Nat} (hi : i < 52) :
    (t.takeReadings rs).countDiffers.reading i = match rs.getD i none with | some x => some x | none => t.reading i := by
  show (t.takeReadings rs).reading i = _
  by_cases h16 : i < 16
  · rw [ThermState.reading, if_pos h16]
    simp [ThermState.takeReadings, h16] <;> rfl
  · by_cases h48 : i < 48
    · have hlane : i - 16 < 32 := by omega
      have hi : 16 + (i - 16) = i := by omega
      rw [ThermState.reading, if_neg h16, if_pos h48]
      simp [ThermState.takeReadings, hlane, hi] <;> rfl
    · interval_cases i <;> rfl

theorem ThermState.mem_silent_takeReadings (t : ThermState) (rs : List (Option Int)) (i : Nat) : i ∈ (t.takeReadings rs).countDiffers.silent ↔ i < 52 ∧ rs.getD i none = none := by
  simp [ThermState.takeReadings, ThermState.countDiffers]

theorem SensesKept.goodReadings (s : State) : SensesKept s s.goodReadings := ⟨rfl, rfl, rfl, rfl, rfl⟩

theorem State.goodReadings_therm (s : State) : ∃ good flash, s.goodReadings.therm = { s.therm with reserveGood := good, flashGood := flash } ∧
    ∀ x, s.therm.isBroken 49 = false → s.therm.reading 49 = some x → good = some x := by
  refine ⟨_, _, rfl, fun x hworks hx => ?_⟩
  simp [hworks, hx]

/-- A conversion judges the die sensors and the NVMe sensors they feed. -/
theorem State.judgeSensors_therm (s : State) : ∃ bd br, s.judgeSensors.therm = { s.therm with brokenDie := bd, broken := br } ∧ (∀ j, j ∈ bd ↔ j ∈ s.therm.brokenDie ∨ (j < 52 ∧ s.therm.bad j)) ∧
    ∀ n, 1 ≤ n → n ≤ 8 → (n ∈ br ↔ s.judgeSensors.sourceBroken n = true) := by
  obtain ⟨bd, hdies, hmem⟩ := State.judgeDies_therm (List.range 52) s
  obtain ⟨br, hnvme, hbroken⟩ := ((List.range 52).foldl State.judgeDie s).nvmeChecks_therm
  have hkept : SensesKept ((List.range 52).foldl State.judgeDie s) s.judgeSensors := .of_broken hnvme (by rw [State.judgeSensors_eq]; simp only [State.nvmeChecks_kept]) (by rw [State.judgeSensors_eq]; simp only [State.nvmeChecks_kept]) (by rw [State.judgeSensors_eq]; simp only [State.nvmeChecks_kept])
  refine ⟨bd, br, by rw [State.judgeSensors_eq, hnvme, hdies], by simpa using hmem, fun n hlow hhigh => ?_⟩
  rw [hkept.sourceBroken]
  exact hbroken n hlow hhigh

/-- The readings taken and compared, before the sensors are judged. -/
def State.converted (s : State) (rs : SensorReadings) : State := { s with therm := (s.therm.takeReadings (readingList rs)).countDiffers }

theorem execSensorConversion_of_on {s : State} (h : s.ts.bootStep ≠ 0) (rs : SensorReadings) :
    exec (.sensorConversion rs) s = .next ((s.converted rs).judgeSensors.goodReadings.levelStep.tempCheck.tripStep).settleFront := if_neg h

/-- What a conversion leaves of the sensors and the level, before the temperature warning and the trip. -/
theorem State.conversion_leaves (s : State) (rs : SensorReadings) {u : State} (hu : u = (s.converted rs).judgeSensors.goodReadings.levelStep) :
    (∀ i, i < 52 → u.therm.reading i = match (readingList rs).getD i none with | some x => some x | none => s.therm.reading i) ∧
    (∀ i, i ∈ u.therm.silent ↔ i < 52 ∧ (readingList rs).getD i none = none) ∧
    (∀ i, i < 52 → (u.therm.isBroken i = true ↔ s.therm.isBroken i = true ∨ u.therm.bad i)) ∧
    (∀ n, 1 ≤ n → n ≤ 8 → (n ∈ u.therm.broken ↔ u.sourceBroken n = true)) ∧ u.therm.level = max s.therm.level u.levelNow ∧
    (u.levelNow ≤ s.therm.level → u.therm.below = if u.belowLevel then s.therm.below + 1 else 0) ∧
    ∀ x, u.therm.isBroken 49 = false → u.therm.reading 49 = some x → u.therm.reserveGood = some x := by
  obtain ⟨bd, br, hjudged, hdies, hsources⟩ := (s.converted rs).judgeSensors_therm
  obtain ⟨good, flash, hgood, hreserve⟩ := (s.converted rs).judgeSensors.goodReadings_therm
  obtain ⟨hwork, hlevel, hbelow⟩ := (s.converted rs).judgeSensors.goodReadings.levelStep_work
  obtain ⟨senses, hbroken, hkeptGood, hsilent, hdiffers⟩ := hwork.senses
  have senses := (SensesKept.goodReadings _).trans senses
  have hbroken : u.therm.broken = br := by rw [hu, hbroken, hgood, hjudged]
  have hreading : u.therm.reading = (s.converted rs).therm.reading := by
    rw [hu, senses.reading, hjudged]
    rfl
  have hdiffers : u.therm.differs = (s.converted rs).therm.differs := by rw [hu, hdiffers, hgood, hjudged]
  have hbd : u.therm.brokenDie = bd := by rw [hu, senses.brokenDie, hjudged]
  have hbad (i : Nat) : u.therm.bad i ↔ (s.converted rs).therm.bad i := by
    unfold ThermState.bad
    rw [hreading, hdiffers]
  rw [← hu] at hlevel hbelow senses hkeptGood hsilent
  refine ⟨fun i hi => ?_, fun i => ?_, fun i hi => ?_, fun n hlow hhigh => ?_, ?_, ?_, fun x hworks hx => ?_⟩
  · rw [hreading]
    exact s.therm.reading_takeReadings _ hi
  · rw [hsilent, hgood, hjudged]
    exact s.therm.mem_silent_takeReadings _ i
  · rw [ThermState.isBroken_iff, ThermState.isBroken_iff, hbd, hdies, hbad, and_iff_right hi]
    rfl
  · rw [hbroken, senses.sourceBroken]
    exact hsources n hlow hhigh
  · rw [hlevel, hgood, hjudged]
    rfl
  · rw [hgood, hjudged] at hbelow
    exact hbelow
  · rw [hkeptGood, hgood]
    exact hreserve x (by rw [← senses.isBroken]; exact hworks) (by rw [← senses.reading]; exact hx)

/-- The NVMe sensors are checked and the level follows: what that leaves of a die sensor that has just broken. -/
theorem State.dieBreaks_leaves (s : State) (i cause : Nat) {u : State} (hu : u = (s.dieBreaks i cause).nvmeChecks.levelRise) : u.therm.isBroken i = true ∧
    (∀ j, j ≠ i → u.therm.isBroken j = s.therm.isBroken j) ∧ (∀ n, 1 ≤ n → n ≤ 8 → (n ∈ u.therm.broken ↔ u.sourceBroken n = true)) ∧ u.therm.level = max s.therm.level u.levelNow := by
  obtain ⟨bd, hdie, hmem⟩ := s.dieBreaks_therm i cause
  obtain ⟨br, hnvme, hsources⟩ := (s.dieBreaks i cause).nvmeChecks_therm
  obtain ⟨hwork, hlevel, -⟩ := (s.dieBreaks i cause).nvmeChecks.levelRise_work
  obtain ⟨senses, hbroken, -⟩ := hwork.senses
  have hnow := senses.levelNow hbroken
  have senses := SensesKept.trans (.of_broken hnvme (by simp) (by simp) (by simp)) senses
  rw [← hu] at hlevel senses hnow hbroken
  have hbd : u.therm.brokenDie = bd := by rw [senses.brokenDie, hdie]
  refine ⟨?_, fun j hj => ?_, fun n hlow hhigh => ?_, ?_⟩
  · rw [ThermState.isBroken_iff, hbd, hmem]
    exact .inr rfl
  · rw [Bool.eq_iff_iff, ThermState.isBroken_iff, ThermState.isBroken_iff, hbd, hmem, or_iff_left hj]
  · rw [hbroken, hnvme, senses.sourceBroken]
    exact hsources n hlow hhigh
  · rw [hlevel, hnow, hnvme, hdie]

/-- A working die sensor's number leaves the broken ones; the NVMe sensors follow their sources. -/
def State.dieWorks (s : State) (i : Nat) : State := ({ s with therm := { s.therm with brokenDie := s.therm.brokenDie.filter (· ≠ i) } } : State).leave 0x1004 0 [nvmeOf i]

theorem State.dieWorks_leaves (s : State) (i : Nat) {u : State} (hu : u = (s.dieWorks i).nvmeChecks) : u.therm.brokenDie = s.therm.brokenDie.filter (· ≠ i) ∧ u.therm.level = s.therm.level ∧
    ∀ n, 1 ≤ n → n ≤ 8 → (n ∈ u.therm.broken ↔ u.sourceBroken n = true) := by
  have hworks : (s.dieWorks i).therm = { s.therm with brokenDie := s.therm.brokenDie.filter (· ≠ i) } := by simp [State.dieWorks]
  obtain ⟨br, hnvme, hsources⟩ := (s.dieWorks i).nvmeChecks_therm
  have senses : SensesKept (s.dieWorks i) u := .of_broken (hu ▸ hnvme) (by simp [hu]) (by simp [hu]) (by simp [hu])
  refine ⟨by rw [senses.brokenDie, hworks], by rw [hu, hnvme, hworks], fun n hlow hhigh => ?_⟩
  rw [senses.sourceBroken, hu, hnvme]
  exact hsources n hlow hhigh

/-- A die sensor's last reading lies in the span of a working one. -/
def ThermState.readsGood (t : ThermState) (i : Nat) : Bool := match t.reading i with | some x => inSpan x | none => false

theorem execSensorWorksAgain_eq (s : State) (i : Nat) : exec (.sensorWorksAgain i) s =
    if s.therm.isBroken i ∧ s.therm.readsGood i ∧ !s.therm.silent.contains i ∧ Table.getD s.therm.differs i 0 = 0
    then .next (s.dieWorks i).nvmeChecks.tempCheck.settleFront else .next s := rfl

/-- Settles O31: the die sensors, the NVMe sensors and the level each by what a conversion leaves of them, and the trip by its counts. -/
theorem sensorsGiveTheThermalLevel : Obligations.SensorsGiveTheThermalLevel := by
  unfold Obligations.SensorsGiveTheThermalLevel
  refine ⟨fun s rs hon => ?_, fun s rs hoff => if_pos hoff, fun s i hi hsilent => ?_, fun s i hi => ?_, fun s i x hbroken hx hspan hheard hsame => ?_, fun s i h => ?_,
    fun s => ⟨s.tempCheck_therm, by simp [SameData]⟩, fun s l hl g hg => ⟨fun hgrace => ?_, fun hgrace => ?_⟩, fun s h => ?_, fun s d hd htripped hat hrun => ?_⟩
  · obtain ⟨hreading, hsilent, hbroken, hnvme, hlevel, hbelow, hreserve⟩ := s.conversion_leaves rs rfl
    refine ⟨_, execSensorConversion_of_on hon rs, hreading, hsilent, hbroken, hnvme, hlevel, hbelow, hreserve, ?_, ?_⟩ <;> simp [SameFrame, SameData, State.converted]
  · obtain ⟨hbroken, hothers, hnvme, hlevel⟩ := s.dieBreaks_leaves i 1 rfl
    refine ⟨_, if_pos ⟨hi, List.contains_iff_mem.mpr hsilent⟩, hbroken, hothers, hnvme, hlevel, ?_, ?_⟩ <;> simp [SameFrame, SameData]
  · refine if_neg ?_
    rintro ⟨hlt, hmem⟩
    exact hi.elim (by omega) (absurd (List.contains_iff_mem.mp hmem))
  · obtain ⟨hdies, hlevel, hnvme⟩ := s.dieWorks_leaves i rfl
    refine ⟨_, (execSensorWorksAgain_eq s i).trans (if_pos ⟨hbroken, by rw [ThermState.readsGood, hx]; exact hspan, by simpa using hheard, hsame⟩), hdies, hlevel, hnvme, ?_, ?_⟩ <;>
      simp [SameFrame, SameData, State.dieWorks]
  · rw [execSensorWorksAgain_eq]
    refine if_neg ?_
    rintro ⟨hbroken, hgood, hheard, hsame⟩
    obtain h | h | h | h := h
    · simp [h] at hbroken
    · simp [h] at hheard
    · exact h hsame
    · cases hx : s.therm.reading i with
      | none => simp [ThermState.readsGood, hx] at hgood
      | some x => simp [ThermState.readsGood, hx, h x hx] at hgood
  · rw [State.ask_therm, ← hg, if_neg hgrace]
    obtain rfl | rfl := hl <;> simp [hg]
  · rw [State.ask_therm, ← hg, if_pos hgrace, State.enforce_therm]
    split
    · next hrise => exact ⟨by show l = _; omega, fun _ => rfl⟩
    · next hrise => exact ⟨by omega, fun h => absurd h hrise⟩
  · rw [State.tripStep_counts h]
    exact ⟨rfl, rfl, rfl, fun d hd => s.natAt_tripRuns hd⟩
  · obtain ⟨e, htrip⟩ := State.tripStep_trips hd htripped hat hrun
    obtain ⟨hstands, hcool, hmedia⟩ := s.tripCounted.trip_stands e
    rw [htrip]
    refine ⟨hstands, hcool, hmedia, fun hactive hsince => ?_, fun hnone hidle hreset => ?_⟩
    · obtain ⟨set, hset⟩ := Option.isSome_iff_exists.mp hactive
      exact (State.trip_of_startable (s := s.tripCounted) hset hsince e).2.2
    · rw [State.trip_of_undumpable (s := s.tripCounted) hnone, if_neg (by simp [State.tripCounted, hidle]), if_neg (by simp [State.tripCounted, hreset])]
      simp [State.holdMain]

end Sys2Proof.Machine
end

section
/-! The fault sequencer (O33): a report's arrival, its queue and overflow, fatal handling, and what enters fault stop (R444 to R451). -/
namespace Sys2Proof.Machine

/-! ### What a dump's start and a self-test's end leave alone -/

theorem State.recordEvent_leaves (s : State) (code sev : Nat) (xs : List Nat) : (s.recordEvent code sev xs).fault = s.fault ∧ (s.recordEvent code sev xs).fe = s.fe ∧
    (s.recordEvent code sev xs).media = s.media ∧ (s.recordEvent code sev xs).map = s.map ∧ (s.recordEvent code sev xs).wheel = s.wheel := by
  unfold State.recordEvent State.putRecord
  (repeat' split) <;> exact ⟨rfl, rfl, rfl, rfl, rfl⟩

theorem State.dumpWritten_wheel (s : State) (r : DumpRun) (set : Bool) : (s.dumpWritten r set).wheel = s.wheel := by
  have hblocks := fold_left (fun t => t.wheel) (fun s b => s.modBlk b fun r => { r with programmed := 1 }) (fun _ _ => rfl) (s.dump.hold set) s
  unfold State.dumpWritten
  dsimp only
  split <;> exact hblocks

/-- A dump's start keeps flash, the map and the time of the wheel. -/
theorem State.startDump_leaves (s : State) (cause : Nat) (scan : Bool) : (s.startDump cause scan).media = s.media ∧ (s.startDump cause scan).map = s.map ∧
    (s.startDump cause scan).wheel.stopped = s.wheel.stopped ∧ (s.startDump cause scan).wheel.wt = s.wheel.wt := by
  by_cases h : s.dump.active = none ∨ s.dump.since = true
  · rw [State.startDump_of_not h]
    exact ⟨rfl, rfl, rfl, rfl⟩
  · obtain ⟨hactive, hsince⟩ := not_or.mp h
    obtain ⟨set, hset⟩ := Option.ne_none_iff_exists'.mp hactive
    obtain ⟨-, -, -, -, -, -, -, -, -, -, -, -, -, -, hmedia, hmap⟩ := State.startDump_started hset (by simpa using hsince) cause scan
    obtain ⟨-, -, hwheel, -, -, -⟩ := s.dumpAnnounced_kept cause
    refine ⟨hmedia, hmap, ?_⟩
    rw [State.startDump_eq hset (by simpa using hsince), State.dumpWritten_wheel, ← hwheel]
    exact ⟨rfl, rfl⟩

/-! ### Fault stop (R451) -/

/-- The fault-stop record's fields when it is entered. -/
def State.stopOf (s : State) (cause path : Nat) : FaultStop :=
  { cause := cause, path := path, dump := if s.dump.since then 2 else if s.dump.active.isSome then 1 else 0,
    pending := s.fault.queue.length + s.fault.preempted.length, lost := s.fault.lost, firstFatal := if path = 1 ∨ path = 2 then s.fault.fatal.getD 0 else 0 }

/-- The self-test has ended, and the record of fault stop is written. -/
def State.stopNoted (s : State) (f : FaultStop) : State :=
  { s.endTest 5 with
    obs := (s.endTest 5).obs.put ((s.endTest 5).record 0x0101 4 f.fields)
    ts := (s.endTest 5).ts.enqueue ⟨1, .append .persistence (.saddlebag ((s.endTest 5).record 0x0101 4 f.fields))⟩ }

/-- The front end stands, the ring is frozen, the keys are gone and the sequencer is empty. -/
def State.stopStands (s : State) (f : FaultStop) : State :=
  { s.zeroize.pauseDma.heartbeatsLow with
    fe := { s.fe with cfs := true, stopped := true, jobs := [], ready := [], mismatches := [] }
    obs := { s.obs with frozen := true }
    fault := { s.fault with stop := some f, inHand := none, queue := [], preempted := [], made := [], fatal := none } }

/-- Fault stop's dump starts where one can. -/
def State.stopDumped (s : State) (f : FaultStop) : State := if f.dump = 1 then (s.stopNoted f).startDump 3 false else s.stopNoted f

/-- Fault stop entered: it stands, and the main domain is held unless a dump runs. -/
theorem State.enterFaultStop_eq {s : State} (h : s.fault.stop = none) (cause path : Nat) : s.enterFaultStop cause path =
    if ((s.stopDumped (s.stopOf cause path)).stopStands (s.stopOf cause path)).dump.run.isNone then
      ((s.stopDumped (s.stopOf cause path)).stopStands (s.stopOf cause path)).holdMain
        (((s.stopDumped (s.stopOf cause path)).stopStands (s.stopOf cause path)).dump.holds.filter (· ≠ 3) ++ [3])
    else (s.stopDumped (s.stopOf cause path)).stopStands (s.stopOf cause path) := by
  unfold State.enterFaultStop
  rw [if_neg (by simp [h])]
  rfl

theorem State.enterFaultStop_of_stopped {s : State} (h : s.fault.stop.isSome) (cause path : Nat) : s.enterFaultStop cause path = s := if_pos h

theorem State.stopDumped_leaves (s : State) (f : FaultStop) : (s.stopDumped f).media = s.media ∧ (s.stopDumped f).map = s.map ∧
    (s.stopDumped f).wheel.stopped = s.wheel.stopped ∧ (s.stopDumped f).wheel.wt = s.wheel.wt := by
  have hnoted : (s.stopNoted f).media = s.media ∧ (s.stopNoted f).map = s.map ∧ (s.stopNoted f).wheel = s.wheel := by simp [State.stopNoted]
  obtain ⟨hmedia, hmap, hwheel⟩ := hnoted
  unfold State.stopDumped
  split
  · rw [← hmedia, ← hmap, ← hwheel]
    exact State.startDump_leaves _ _ _
  · rw [hwheel]
    exact ⟨hmedia, hmap, rfl, rfl⟩

/-- What fault stop leaves of the state it is entered in (R451): the record, the front end, the ring, the sequencer, the keys and the heartbeats. -/
structure StopEntered (s t : State) (f : FaultStop) : Prop where
  stop : t.fault.stop = some f
  sequencer : t.fault.fatal = none ∧ t.fault.queue = [] ∧ t.fault.inHand = none
  front : t.fe.cfs = true ∧ t.fe.stopped = true ∧ t.fe.ready = []
  frozen : t.obs.frozen = true
  hbeat : ∀ p, (t.port p).hbeat = false
  keys : ∀ n k, Table.find t.cipher.slots n = some k → k.current = none ∧ k.previous = none
  data : t.media = s.media ∧ t.map = s.map
  wheel : t.wheel.stopped = s.wheel.stopped ∧ t.wheel.wt = s.wheel.wt

theorem State.stopStands_front (v : State) (f : FaultStop) : (v.stopStands f).fault = { v.fault with stop := some f, inHand := none, queue := [], preempted := [], made := [], fatal := none } ∧
    (v.stopStands f).fe = { v.fe with cfs := true, stopped := true, jobs := [], ready := [], mismatches := [] } ∧ (v.stopStands f).obs = { v.obs with frozen := true } := ⟨rfl, rfl, rfl⟩

theorem State.stopStands_rest (v : State) (f : FaultStop) : (v.stopStands f).media = v.media ∧ (v.stopStands f).map = v.map ∧ (v.stopStands f).wheel = v.wheel ∧
    (v.stopStands f).cipher = v.zeroize.cipher ∧ (v.stopStands f).rein = v.heartbeatsLow.rein := by
  unfold State.stopStands
  generalize hw : v.zeroize.pauseDma = w
  have hkept : w.media = v.media ∧ w.map = v.map ∧ w.wheel = v.wheel ∧ w.cipher = v.zeroize.cipher ∧ w.rein = v.rein := by
    subst hw
    simp [State.zeroize]
  obtain ⟨hmedia, hmap, hwheel, hcipher, hrein⟩ := hkept
  have hbeats : w.heartbeatsLow.rein = v.heartbeatsLow.rein := by
    unfold State.heartbeatsLow State.modPort
    rw [hrein]
  simp [hmedia, hmap, hwheel, hcipher, hbeats]

theorem State.stopStands_entered {s v : State} (f : FaultStop) (hmedia : v.media = s.media) (hmap : v.map = s.map) (hstopped : v.wheel.stopped = s.wheel.stopped) (hwt : v.wheel.wt = s.wheel.wt) :
    StopEntered s (v.stopStands f) f := by
  obtain ⟨hfault, hfe, hobs⟩ := v.stopStands_front f
  obtain ⟨hmedia', hmap', hwheel, hcipher, hrein⟩ := v.stopStands_rest f
  refine ⟨by rw [hfault], by simp [hfault], by simp [hfe], by rw [hobs], fun p => ?_, fun n k h => ?_, by rw [hmedia', hmap']; exact ⟨hmedia, hmap⟩, by rw [hwheel]; exact ⟨hstopped, hwt⟩⟩
  · unfold State.port
    rw [hrein]
    exact v.heartbeatsLow_hbeat p
  · rw [hcipher] at h
    exact zeroize_slot h

theorem State.holdMain_rest (s : State) (holds : List Nat) : (s.holdMain holds).fault = s.fault ∧ (s.holdMain holds).obs = s.obs ∧ (s.holdMain holds).map = s.map ∧ (s.holdMain holds).wheel = s.wheel ∧
    (s.holdMain holds).rein = s.heartbeatsLow.rein := by
  simp [State.holdMain, State.heartbeatsLow]

theorem StopEntered.holdMain {s t : State} {f : FaultStop} (h : StopEntered s t f) (holds : List Nat) : StopEntered s (t.holdMain holds) f := by
  obtain ⟨hstop, hsequencer, hfront, hfrozen, hhbeat, hkeys, hdata, hwheel⟩ := h
  obtain ⟨hpkg, hdump, hfe, hmedia, hts, hcipher⟩ := t.holdMain_leaves holds
  obtain ⟨hfault, hobs, hmap, hwheel', hrein⟩ := t.holdMain_rest holds
  refine ⟨by rwa [hfault], by rwa [hfault], by rwa [hfe], by rwa [hobs], fun p => ?_, by rwa [hcipher], by rwa [hmedia, hmap], by rwa [hwheel']⟩
  unfold State.port
  rw [hrein]
  exact t.heartbeatsLow_hbeat p

/-- Fault stop is entered with the cause and the path given. -/
theorem State.enterFaultStop_entered {s : State} (h : s.fault.stop = none) (cause path : Nat) : StopEntered s (s.enterFaultStop cause path) (s.stopOf cause path) := by
  obtain ⟨hmedia, hmap, hstopped, hwt⟩ := s.stopDumped_leaves (s.stopOf cause path)
  have hstands := State.stopStands_entered (s.stopOf cause path) hmedia hmap hstopped hwt
  rw [State.enterFaultStop_eq h]
  split
  · exact hstands.holdMain _
  · exact hstands

/-! ### The next report (R447) -/

theorem foldl_max_map (l : List Report) (f : Report → Nat) (a : Nat) : a ≤ (l.map f).foldl max a ∧ (∀ x ∈ l, f x ≤ (l.map f).foldl max a) ∧
    ((l.map f).foldl max a = a ∨ ∃ x ∈ l, f x = (l.map f).foldl max a) := by
  have h := List.max?_eq_some_iff.mp (show (a :: l.map f).max? = some ((l.map f).foldl max a) from rfl)
  refine ⟨h.2 a (by simp), fun x hx => h.2 _ (by simp; exact .inr ⟨x, hx, rfl⟩), ?_⟩
  obtain h | h := List.mem_cons.mp h.1
  · exact .inl h
  · obtain ⟨x, hx, hmax⟩ := List.mem_map.mp h
    exact .inr ⟨x, hx, hmax⟩

/-- Without an overflow report that waits, the highest severity is that of a report of the queue or a preempted one. -/
theorem FaultState.topSev_of_clear {f : FaultState} (h : f.overflowWaits = false) : f.topSev = ((f.queue ++ f.preempted).map (·.sev)).foldl max 0 := by
  unfold FaultState.topSev
  simp [h]

theorem FaultState.sev_le_topSev (f : FaultState) {y : Report} (hy : y ∈ f.queue ++ f.preempted) : y.sev ≤ f.topSev :=
  (foldl_max_map (f.queue ++ f.preempted ++ if f.overflowWaits then [overflowReport] else []) (·.sev) 0).2.1 y (List.mem_append_left _ hy)

theorem FaultState.overflowWaits_of_none {f : FaultState} (h : f.overflow = false) : f.overflowWaits = false := by simp [FaultState.overflowWaits, h]

theorem FaultState.topSev_of_idle {f : FaultState} (hqueue : f.queue = []) (hpreempted : f.preempted = []) (hclear : f.overflow = false) : f.topSev = 0 := by
  rw [FaultState.topSev_of_clear (FaultState.overflowWaits_of_none hclear), hqueue, hpreempted]
  rfl

theorem FaultState.next_of_none {f : FaultState} (h : f.topSev = 0) : f.next = none := by
  unfold FaultState.next
  exact if_pos h

/-- What waits decides the next report: the queue, the preempted reports, and the overflow report. -/
theorem FaultState.next_of_waiting {f : FaultState} (htop : f.topSev ≠ 0) (hclear : f.overflowWaits = false) : f.next = match f.preempted.find? fun r => r.sev = f.topSev with
    | some r => some (r, { f with preempted := f.preempted.erase r })
    | none => (f.queue.find? fun r => r.sev = f.topSev).map fun r => (r, { f with queue := f.queue.erase r }) := by
  unfold FaultState.next
  exact (if_neg htop).trans (if_neg (by simp [hclear]))

theorem FaultState.next_of_one {f : FaultState} {r : Report} (hqueue : f.queue = [r]) (hpreempted : f.preempted = []) (hclear : f.overflow = false) (hsev : r.sev ≠ 0) :
    f.next = some (r, { f with queue := [] }) := by
  have hwaits := FaultState.overflowWaits_of_none hclear
  have htop : f.topSev = r.sev := by
    rw [FaultState.topSev_of_clear hwaits, hqueue, hpreempted]
    exact Nat.zero_max _
  rw [FaultState.next_of_waiting (by rwa [htop]) hwaits, hpreempted, hqueue, htop]
  simp

/-- A report that joins where nothing waits is the next one. -/
theorem FaultState.next_of_joined {f : FaultState} {r : Report} (hqueue : f.queue = []) (hpreempted : f.preempted = []) (hclear : f.overflow = false) (hsev : r.sev ≠ 0) :
    ({ f with queue := f.queue ++ [r] } : FaultState).next = some (r, f) :=
  (FaultState.next_of_one (f := { f with queue := f.queue ++ [r] }) (by simp [hqueue]) hpreempted hclear hsev).trans (congrArg (fun q => some (r, { f with queue := q })) hqueue.symm)

/-! ### The queue and its overflow (R447, R448) -/

theorem State.queueReport_of_room {s : State} (h : s.fault.queue.length < 16) (r : Report) : s.queueReport r = { s with fault := { s.fault with queue := s.fault.queue ++ [r] } } := if_pos h

/-- The least severity of the queue, as overflow takes it. -/
def FaultState.lowSev (f : FaultState) : Nat := (f.queue.map (·.sev)).foldl min 4

theorem FaultState.exists_lowSev {f : FaultState} (h : f.lowSev < 4) : ∃ x, f.queue.reverse.find? (fun x => x.sev = f.lowSev) = some x ∧ x.sev = f.lowSev := by
  have hmem := (List.min?_eq_some_iff.mp (show (4 :: f.queue.map (·.sev)).min? = some f.lowSev from rfl)).1
  have hmem := (List.mem_cons.mp hmem).resolve_left (by omega)
  obtain ⟨y, hy, hsev⟩ := List.mem_map.mp hmem
  obtain ⟨x, hx⟩ := Option.isSome_iff_exists.mp (List.find?_isSome.mpr ⟨y, List.mem_reverse.mpr hy, decide_eq_true hsev⟩ : (f.queue.reverse.find? fun x => x.sev = f.lowSev).isSome)
  have hfound := List.find?_some hx
  exact ⟨x, hx, of_decide_eq_true hfound⟩

theorem State.queueReport_of_higher {s : State} (hfull : s.fault.queue.length = 16) {r : Report} (hr : r.sev ≤ 4) (h : s.fault.lowSev < r.sev) : ∃ x, x.sev = s.fault.lowSev ∧
    s.queueReport r = ({ s with fault := { s.fault with queue := dropNewest s.fault.lowSev s.fault.queue ++ [r] } } : State).loseReport x := by
  obtain ⟨x, hx, hsev⟩ := FaultState.exists_lowSev (f := s.fault) (by omega)
  refine ⟨x, hsev, ?_⟩
  unfold State.queueReport
  dsimp only
  rw [if_neg (by omega)]
  refine (if_pos h).trans ?_
  change (match s.fault.queue.reverse.find? (fun x => x.sev = s.fault.lowSev) with | some x => _ | none => _) = _
  rw [hx]
  rfl

theorem State.queueReport_of_lower {s : State} (hfull : s.fault.queue.length = 16) {r : Report} (h : r.sev ≤ s.fault.lowSev) : s.queueReport r = s.loseReport r := by
  unfold State.queueReport
  dsimp only
  rw [if_neg (by omega)]
  exact if_neg (Nat.not_lt.mpr h)

/-- A lost report below severity 4 latches the overflow report. -/
theorem State.loseReport_latches {s : State} {r : Report} (hsev : r.sev ≠ 4) (hfatal : s.fault.fatal = none) : ∃ obs, s.loseReport r =
    { s with obs := obs, fault := { s.fault with lost := satAdd 32 s.fault.lost 1, lastDropped := r.sev, overflow := true } } := by
  refine ⟨(s.count1 0x0D3).obs, ?_⟩
  unfold State.loseReport
  refine if_neg ?_
  rintro (h | h)
  · exact hsev h
  · have hsome : s.fault.fatal.isSome = true := h
    simp [hfatal] at hsome

/-- A lost report of severity 4 enters fault stop by path 2. -/
theorem State.loseReport_stops {s : State} {r : Report} (hsev : r.sev = 4) (hstop : s.fault.stop = none) : ∃ f, (s.loseReport r).fault.stop = some f ∧ f.path = 2 ∧ f.cause = r.code := by
  have hentered := State.enterFaultStop_entered
    (s := ({ s with fault := { s.fault with lost := satAdd 32 s.fault.lost 1, lastDropped := r.sev } } : State).count1 0x0D3) hstop r.code 2
  have hlost : s.loseReport r = (({ s with fault := { s.fault with lost := satAdd 32 s.fault.lost 1, lastDropped := r.sev } } : State).count1 0x0D3).enterFaultStop r.code 2 :=
    if_pos (.inl hsev)
  rw [hlost]
  exact ⟨_, hentered.stop, rfl, rfl⟩

/-! ### Fatal handling (R450) -/

/-- Whether a command's row has a status, or a reserved slot; none where there is no row. -/
def State.endedOf (s : State) (n : Nat) : Option Bool := (s.cmd n).map fun d => d.reserved || d.result.isSome

theorem State.endedOf_of_cmd {s : State} {n : Nat} {d : Cmd} (h : s.cmd n = some d) : s.endedOf n = some (d.reserved || d.result.isSome) := by
  unfold State.endedOf
  rw [h]
  rfl

theorem State.modCmd_endedOf (s : State) (g n : Nat) {f : Cmd → Cmd} (h : ∀ c, (f c).reserved = c.reserved ∧ (f c).result = c.result) : (s.modCmd g f).endedOf n = s.endedOf n := by
  unfold State.endedOf
  by_cases hn : n = g
  · subst hn
    simp [Function.comp_def, h]
  · rw [State.modCmd_cmd_ne _ _ _ _ hn]

theorem State.dropJob_endedOf (s : State) (t n : Nat) : (s.dropJob t).endedOf n = s.endedOf n := by
  have hjobs : ({ s.jobLeavesSlot t with fe := { (s.jobLeavesSlot t).fe with jobs := Table.del (s.jobLeavesSlot t).fe.jobs t } } : State).endedOf n = s.endedOf n := by
    show ((Table.find (s.jobLeavesSlot t).fe.cmds n).map _) = _
    rw [(s.jobLeavesSlot_desk t).1]
    rfl
  unfold State.dropJob
  dsimp only
  split
  · refine (State.modCmd_endedOf _ _ _ ?_).trans hjobs
    exact fun _ => ⟨rfl, rfl⟩
  · exact hjobs

theorem State.finish_endedOf_ne (s : State) {tag n : Nat} (r : CmdResult) (h : n ≠ tag) : (s.finish tag r).endedOf n = s.endedOf n := by
  unfold State.endedOf State.finish
  rw [State.finishCode_rows _ _ _ _ _ h]

/-- Fatal handling gives a row its status, and leaves every other's. -/
theorem State.fatalCmd_endedOf (s : State) (tag n : Nat) : (s.fatalCmd tag).endedOf n = if n = tag then (s.endedOf n).map fun _ => true else s.endedOf n := by
  unfold State.fatalCmd
  split
  · next hnone =>
    split
    · next h =>
      subst h
      simp [State.endedOf, hnone]
    · rfl
  · next c hrow =>
    have hended (u : State) (hu : n ≠ tag → u.endedOf n = s.endedOf n) (htag : u.endedOf tag = some true) : u.endedOf n = if n = tag then (s.endedOf n).map fun _ => true else s.endedOf n := by
      split
      · next h =>
        subst h
        rw [htag, State.endedOf_of_cmd hrow]
        rfl
      · next h => exact hu h
    split
    · next hreserved => exact hended s (fun _ => rfl) (by rw [State.endedOf_of_cmd hrow, hreserved]; rfl)
    · split
      · next r hresult =>
        split
        · exact hended s (fun _ => rfl) (by rw [State.endedOf_of_cmd hrow, hresult]; simp)
        · refine hended _ (fun h => ?_) ?_
          · unfold State.endedOf
            rw [State.modCmd_cmd_ne _ _ _ _ h]
          · simp [State.endedOf, hrow]
      · next hresult =>
        have hdrops (m : Nat) : (c.units.foldl State.dropJob s).endedOf m = s.endedOf m := fold_left (fun s => s.endedOf m) _ (fun s t => s.dropJob_endedOf t m) c.units s
        refine hended _ (fun h => (State.finish_endedOf_ne _ _ h).trans (hdrops n)) ?_
        have hresults := State.finish_resultOf (c.units.foldl State.dropJob s) tag (stat 0 0x06)
        rw [State.foldl_dropJob_resultOf, State.resultOf_of_cmd hrow] at hresults
        obtain ⟨d, hd, hdone⟩ := State.exists_cmd_of_resultOf hresults
        rw [State.endedOf_of_cmd hd, hdone]
        simp

/-- After fatal handling of every command listed, none of them waits for a status. -/
theorem State.fatalCmds_endedOf (l : List Nat) (s : State) (n : Nat) (h : n ∈ l ∨ s.endedOf n ≠ some false) : (l.foldl State.fatalCmd s).endedOf n ≠ some false := by
  induction l generalizing s with
  | nil => exact h.resolve_left (by simp)
  | cons a l ih =>
    refine ih _ ?_
    rw [State.fatalCmd_endedOf]
    by_cases ha : n = a
    · refine .inr ?_
      rw [if_pos ha]
      cases s.endedOf n <;> simp
    · rw [if_neg ha]
      exact h.imp_left fun hmem => (List.mem_cons.mp hmem).resolve_left ha

theorem State.dropJob_desk (s : State) (t : Nat) : (s.dropJob t).fault = s.fault ∧ (s.dropJob t).fe.stopped = s.fe.stopped ∧ (s.dropJob t).fe.aers = s.fe.aers := by
  have hfe := (s.dropJob_rest t).1
  refine ⟨?_, (congrArg FeState.stopped hfe :), (congrArg FeState.aers hfe :)⟩
  unfold State.dropJob State.jobLeavesSlot
  dsimp only
  (repeat' split) <;> rfl

theorem State.finish_desk (s : State) (tag : Nat) (r : CmdResult) : (s.finish tag r).fault = s.fault ∧ (s.finish tag r).fe.stopped = s.fe.stopped ∧ (s.finish tag r).fe.aers = s.fe.aers :=
  ⟨(s.finishCode_pkg tag r 0).2, (congrArg FeState.stopped (s.finishCode_rest tag r 0) :), (congrArg FeState.aers (s.finishCode_rest tag r 0) :)⟩

/-- Fatal handling of a command leaves the sequencer, the front end's stop and the event requests. -/
theorem State.fatalCmd_desk (s : State) (tag : Nat) : (s.fatalCmd tag).fault = s.fault ∧ (s.fatalCmd tag).fe.stopped = s.fe.stopped ∧ (s.fatalCmd tag).fe.aers = s.fe.aers := by
  unfold State.fatalCmd
  split
  · exact ⟨rfl, rfl, rfl⟩
  · next c _ =>
    split
    · exact ⟨rfl, rfl, rfl⟩
    · split
      · split <;> exact ⟨rfl, rfl, rfl⟩
      · have hdrops := fold_left (fun s => (s.fault, s.fe.stopped, s.fe.aers)) State.dropJob
          (fun s t => by obtain ⟨h1, h2, h3⟩ := s.dropJob_desk t; simp only [h1, h2, h3]) c.units s
        simp only [Prod.mk.injEq] at hdrops
        obtain ⟨d1, d2, d3⟩ := hdrops
        obtain ⟨f1, f2, f3⟩ := (c.units.foldl State.dropJob s).finish_desk tag (stat 0 0x06)
        exact ⟨f1.trans d1, f2.trans d2, f3.trans d3⟩

/-- The state in which the commands take their status: the code stands, the front end stops, and code 0x0104 is left. -/
def State.fatalBegun (s : State) (r : Report) : State :=
  (({ s with fault := { s.fault with count4 := satAdd 32 s.fault.count4 1, fatal := some r.code, inHand := some { r with steps := 2 }, preempt := false },
             fe := { s.fe with stopped := true, aers := [] } } : State).count1 0x0D2).leave 0x0104 4 [r.code, s.fe.cmds.length]

/-- Fatal handling up to the statuses of the commands. -/
def State.fatalHandled (s : State) (r : Report) : State := ((s.fatalBegun r).fe.cmds.map (·.1)).foldl State.fatalCmd (s.fatalBegun r)

theorem State.beginFatal_eq (s : State) (r : Report) : s.beginFatal r = match (s.fatalHandled r).fault.next with
    | some (x, _) => if x.sev = 4 then (s.fatalHandled r).enterFaultStop x.code 1 else s.fatalHandled r
    | none => s.fatalHandled r := rfl

theorem State.fatalHandled_spec (s : State) (r : Report) :
    (∃ made, (s.fatalHandled r).fault = { s.fault with made := made, count4 := satAdd 32 s.fault.count4 1, fatal := some r.code, inHand := some { r with steps := 2 }, preempt := false }) ∧
    (s.fatalHandled r).fe.stopped = true ∧ (s.fatalHandled r).fe.aers = [] ∧ ∀ n d, (s.fatalHandled r).cmd n = some d → d.reserved = true ∨ d.result.isSome := by
  have hfold := fold_left (fun s => (s.fault, s.fe.stopped, s.fe.aers)) State.fatalCmd
    (fun s t => by obtain ⟨h1, h2, h3⟩ := s.fatalCmd_desk t; simp only [h1, h2, h3]) ((s.fatalBegun r).fe.cmds.map (·.1)) (s.fatalBegun r)
  simp only [Prod.mk.injEq] at hfold
  obtain ⟨hfault, hstopped, haers⟩ := hfold
  have hrecord := (State.recordEvent_leaves (({ s with fault := { s.fault with count4 := satAdd 32 s.fault.count4 1, fatal := some r.code, inHand := some { r with steps := 2 }, preempt := false }, fe := { s.fe with stopped := true, aers := [] } } : State).count1 0x0D2) 0x0104 4 [r.code, s.fe.cmds.length]).2.1
  refine ⟨⟨_, hfault⟩, hstopped.trans (congrArg FeState.stopped hrecord), haers.trans (congrArg FeState.aers hrecord), fun n d hd => ?_⟩
  have hended := State.fatalCmds_endedOf ((s.fatalBegun r).fe.cmds.map (·.1)) (s.fatalBegun r) n (by
    by_cases hmem : n ∈ (s.fatalBegun r).fe.cmds.map (·.1)
    · exact .inl hmem
    · refine .inr ?_
      simp [State.endedOf, State.cmd, Table.find_eq_none_of_not_mem _ _ hmem])
  rw [show ((s.fatalBegun r).fe.cmds.map (·.1)).foldl State.fatalCmd (s.fatalBegun r) = s.fatalHandled r from rfl, State.endedOf_of_cmd hd] at hended
  simpa [or_iff_not_imp_left, Option.isSome_iff_ne_none] using hended

/-! ### A report arrives (R444, R447, R448, R451) -/

/-- The report is no longer one that is made and has not arrived. -/
def State.unmade (s : State) (code sev : Nat) : State := { s with fault := { s.fault with made := s.fault.made.erase (code, sev) } }

theorem execFaultReport_refused {s : State} {code sev : Nat} (h : sev < 2 ∨ 4 < sev ∨ s.fault.stop.isSome ∨ s.dump.inReset = true) : exec (.faultReport code sev) s = .next s := if_pos h

theorem execFaultReport_accepted {s : State} {code sev : Nat} (hlow : 2 ≤ sev) (hhigh : sev ≤ 4) (hstop : s.fault.stop = none) (hreset : s.dump.inReset = false) : exec (.faultReport code sev) s =
    if code = 0x0E09 ∧ sev = 4 ∧ s.ts.bootStep < 7 then .next ((s.unmade code sev).enterHalterLate 8).settleFront
    else .next ((s.unmade code sev).arrive { code := code, sev := sev, steps := 0 }).settle := by
  refine if_neg ?_
  rintro (h | h | h | h)
  · omega
  · omega
  · simp [hstop] at h
  · simp [hreset] at h

/-- Halter mode entered late: the tree store's mode, the reason and the end of start-up; no report stops the device. -/
theorem State.enterHalterLate_halts (s : State) (reason : Nat) : (s.enterHalterLate reason).ts.mode = 2 ∧ (s.enterHalterLate reason).ts.halterReason = reason ∧
    (s.enterHalterLate reason).ts.bootStep = 9 ∧ (s.enterHalterLate reason).fault.stop = s.fault.stop := by
  have henter : (s.enterHalter reason).ts.mode = 2 ∧ (s.enterHalter reason).ts.halterReason = reason ∧ (s.enterHalter reason).fault.stop = s.fault.stop := by
    unfold State.enterHalter State.leave State.recordEvent State.putRecord
    dsimp only
    (repeat' split) <;> exact ⟨rfl, rfl, rfl⟩
  obtain ⟨cfg, hlate⟩ : ∃ cfg, s.enterHalterLate reason = (if (s.enterHalter reason).wheel.cfg = cfg then s.enterHalter reason else (s.enterHalter reason).startWheel cfg).halterReady := ⟨_, rfl⟩
  rw [hlate]
  split <;> exact ⟨henter.1, henter.2.1, rfl, henter.2.2⟩

/-- A report that arrives while no dump runs and the sequencer has a report in hand joins the queue, and may preempt. -/
theorem State.arrive_of_busy {s u : State} {r h : Report} (hrun : s.dump.run = none) (hfatal : s.fault.fatal = none) (hqueue : s.queueReport r = u) (hstop : u.fault.stop = none)
    (hfatal' : u.fault.fatal = none) (hin : u.fault.inHand = some h) : s.arrive r = { u with fault := { u.fault with preempt := decide (h.sev < u.fault.topSev) } } := by
  unfold State.arrive
  rw [if_neg (by simp [hrun]), if_neg (by simp [hfatal]), hqueue]
  dsimp only
  rw [if_neg (by simp [hstop, hfatal']), hin]

/-- A report that arrives while no dump runs and ends in fault stop changes nothing more. -/
theorem State.arrive_of_stopped {s : State} {r : Report} (hrun : s.dump.run = none) (hfatal : s.fault.fatal = none) (hstop : (s.queueReport r).fault.stop.isSome) : s.arrive r = s.queueReport r := by
  unfold State.arrive
  rw [if_neg (by simp [hrun]), if_neg (by simp [hfatal])]
  exact if_pos (.inl hstop)

/-- The sequencer, with what waits in `f`, has a report in hand. -/
def State.handed (s : State) (f : FaultState) (r : Report) : State := { s with fault := { f with inHand := some r, preempt := false } }

theorem State.takeReport_of_some {u : State} {r : Report} {f : FaultState} (h : u.fault.next = some (r, f)) : u.takeReport = if r.sev = 4 then (u.handed f r).beginFatal r else u.handed f r := by
  unfold State.takeReport
  rw [h]
  rfl

theorem State.takeReport_of_none {u : State} (h : u.fault.next = none) : u.takeReport = { u with fault := { u.fault with inHand := none, preempt := false } } := by
  unfold State.takeReport
  rw [h]

/-- A report that finds the sequencer free and nothing waiting is taken. -/
theorem State.arrive_of_free {s : State} {r : Report} (hrun : s.dump.run = none) (hstop : s.fault.stop = none) (hfatal : s.fault.fatal = none) (hin : s.fault.inHand = none) (hqueue : s.fault.queue = [])
    (hpreempted : s.fault.preempted = []) (hclear : s.fault.overflow = false) (hsev : r.sev ≠ 0) : s.arrive r =
      if r.sev = 4 then (s.handed s.fault r).beginFatal r else s.handed s.fault r := by
  have harrive : s.arrive r = ({ s with fault := { s.fault with queue := s.fault.queue ++ [r] } } : State).takeReport := by
    unfold State.arrive
    rw [if_neg (by simp [hrun]), if_neg (by simp [hfatal]), State.queueReport_of_room (by simp [hqueue])]
    dsimp only
    rw [if_neg (by simp [hstop, hfatal]), hin]
  rw [harrive, State.takeReport_of_some (FaultState.next_of_joined hqueue hpreempted hclear hsev)]
  rfl

/-- A severity-4 report that finds nothing waiting begins fatal handling and does not enter fault stop. -/
theorem State.beginFatal_of_alone {s : State} (r : Report) (hqueue : s.fault.queue = []) (hpreempted : s.fault.preempted = []) (hclear : s.fault.overflow = false) : s.beginFatal r = s.fatalHandled r := by
  obtain ⟨made, hfault⟩ := (s.fatalHandled_spec r).1
  have hnone : (s.fatalHandled r).fault.next = none := by
    rw [hfault]
    exact FaultState.next_of_none (FaultState.topSev_of_idle hqueue hpreempted hclear)
  rw [State.beginFatal_eq, hnone]

/-- A report that is queued leaves the rest of the device as it was: only the sequencer and the counters have changed. -/
structure Queued (s u : State) : Prop where
  fe : u.fe = s.fe
  frame : SameFrame s u
  data : SameData s u

theorem Queued.of_eq {s u : State} (h : ∃ fault obs, u = { s with fault := fault, obs := obs }) : Queued s u := by
  obtain ⟨_, _, rfl⟩ := h
  exact ⟨rfl, ⟨rfl, rfl, rfl, rfl, rfl, rfl, rfl, rfl⟩, ⟨rfl, rfl, rfl, rfl, rfl, rfl, rfl, rfl, rfl, rfl, rfl⟩⟩

/-- With room in the queue, a report joins its end behind the one in hand. -/
theorem State.arrive_joins {s : State} {r h : Report} (hrun : s.dump.run = none) (hstop : s.fault.stop = none) (hfatal : s.fault.fatal = none) (hin : s.fault.inHand = some h)
    (hroom : s.fault.queue.length < 16) : (s.arrive r).fault.queue = s.fault.queue ++ [r] ∧ (s.arrive r).fault.inHand = some h ∧ (h.sev < r.sev → (s.arrive r).fault.preempt = true) ∧
      (s.arrive r).fault.lost = s.fault.lost ∧ Queued s (s.arrive r) := by
  rw [State.arrive_of_busy hrun hfatal (State.queueReport_of_room hroom r) hstop hfatal hin]
  refine ⟨rfl, hin, fun hsev => ?_, rfl, .of_eq ⟨_, _, rfl⟩⟩
  have htop := FaultState.sev_le_topSev { s.fault with queue := s.fault.queue ++ [r] } (y := r) (by simp)
  exact decide_eq_true (Nat.lt_of_lt_of_le hsev htop)

/-- A report that overflows the queue latches the overflow report, whichever report is lost. -/
theorem State.arrive_overflows {s u : State} {r h x : Report} (hrun : s.dump.run = none) (hstop : s.fault.stop = none) (hfatal : s.fault.fatal = none) (hin : s.fault.inHand = some h)
    (hu : ∃ q, u = { s with fault := { s.fault with queue := q } }) (hqueue : s.queueReport r = u.loseReport x) (hx : x.sev ≠ 4) :
    (s.arrive r).fault.queue = u.fault.queue ∧ (s.arrive r).fault.lastDropped = x.sev ∧ (s.arrive r).fault.lost = satAdd 32 s.fault.lost 1 ∧ (s.arrive r).fault.overflow = true ∧
      (s.arrive r).fault.inHand = some h ∧ Queued s (s.arrive r) := by
  obtain ⟨q, rfl⟩ := hu
  obtain ⟨obs, hlost⟩ := State.loseReport_latches (s := { s with fault := { s.fault with queue := q } }) hx hfatal
  rw [State.arrive_of_busy hrun hfatal (hqueue.trans hlost) hstop hfatal hin]
  exact ⟨rfl, rfl, rfl, rfl, hin, .of_eq ⟨_, _, rfl⟩⟩

/-- A report above the queue's least severity takes the place of the newest of it. -/
theorem State.arrive_drops {s : State} {r h : Report} (hrun : s.dump.run = none) (hstop : s.fault.stop = none) (hfatal : s.fault.fatal = none) (hin : s.fault.inHand = some h)
    (hfull : s.fault.queue.length = 16) (hr : r.sev ≤ 4) (hlow : s.fault.lowSev < r.sev) :
    (s.arrive r).fault.queue = dropNewest s.fault.lowSev s.fault.queue ++ [r] ∧ (s.arrive r).fault.lastDropped = s.fault.lowSev ∧ (s.arrive r).fault.lost = satAdd 32 s.fault.lost 1 ∧
      (s.arrive r).fault.overflow = true ∧ (s.arrive r).fault.inHand = some h ∧ Queued s (s.arrive r) := by
  obtain ⟨x, hx, hqueue⟩ := State.queueReport_of_higher hfull hr hlow
  rw [← hx]
  rw [← hx] at hqueue
  exact State.arrive_overflows hrun hstop hfatal hin ⟨_, rfl⟩ hqueue (by omega)

/-- A report not above it is lost itself. -/
theorem State.arrive_lost {s : State} {r h : Report} (hrun : s.dump.run = none) (hstop : s.fault.stop = none) (hfatal : s.fault.fatal = none) (hin : s.fault.inHand = some h)
    (hfull : s.fault.queue.length = 16) (hlow : r.sev ≤ s.fault.lowSev) (hsev : r.sev ≠ 4) :
    (s.arrive r).fault.queue = s.fault.queue ∧ (s.arrive r).fault.lastDropped = r.sev ∧ (s.arrive r).fault.lost = satAdd 32 s.fault.lost 1 ∧
      (s.arrive r).fault.overflow = true ∧ (s.arrive r).fault.inHand = some h ∧ Queued s (s.arrive r) :=
  State.arrive_overflows hrun hstop hfatal hin ⟨_, rfl⟩ (State.queueReport_of_lower hfull hlow) hsev

/-- A severity-4 report lost by overflow enters fault stop by path 2. -/
theorem State.arrive_stops {s : State} {r : Report} (hrun : s.dump.run = none) (hstop : s.fault.stop = none) (hfatal : s.fault.fatal = none) (hfull : s.fault.queue.length = 16)
    (hlow : r.sev ≤ s.fault.lowSev) (hsev : r.sev = 4) : ∃ f, (s.arrive r).fault.stop = some f ∧ f.path = 2 ∧ f.cause = r.code := by
  obtain ⟨f, hf, hpath, hcause⟩ := State.loseReport_stops hsev hstop
  have hqueue := State.queueReport_of_lower hfull hlow
  rw [State.arrive_of_stopped hrun hfatal (by rw [hqueue, hf]; rfl), hqueue]
  exact ⟨f, hf, hpath, hcause⟩

/-- A second severity-4 report in fatal handling enters fault stop by path 1. -/
theorem State.arrive_second {s : State} {r : Report} (hrun : s.dump.run = none) (hstop : s.fault.stop = none) (hfatal : s.fault.fatal.isSome) (hsev : r.sev = 4) :
    ∃ f, (s.arrive r).fault.stop = some f ∧ f.path = 1 ∧ f.cause = r.code ∧ (s.arrive r).fe.stopped = true ∧ (s.arrive r).fault.fatal = none := by
  have hentered := State.enterFaultStop_entered hstop r.code 1
  have harrive : s.arrive r = s.enterFaultStop r.code 1 := by
    unfold State.arrive
    rw [if_neg (by simp [hrun]), if_pos ⟨hfatal, hsev⟩]
  rw [harrive]
  exact ⟨_, hentered.stop, rfl, rfl, hentered.front.2.1, hentered.sequencer.1⟩

/-- During a dump the first severity-4 report is kept, and the others queue. -/
theorem State.arrive_in_dump {s : State} (r : Report) (hrun : s.dump.run.isSome) : s.arrive r =
    if r.sev = 4 then { s with fault := { s.fault with dumpFatal := s.fault.dumpFatal.or (some r.code) } } else s.queueReport r := if_pos hrun

/-- Settles O33: a report's arrival by what the sequencer has in hand, what waits, and whether a dump runs. -/
theorem faultReportsArriveAndQueue : Obligations.FaultReportsArriveAndQueue := by
  unfold Obligations.FaultReportsArriveAndQueue
  refine ⟨fun s code sev h => execFaultReport_refused h, fun s hstop hreset hboot => ?_, fun s code sev hlow hhigh hstop hreset hmode => ?_⟩
  · obtain ⟨hmode, hreason, hstep, hstands⟩ := (s.unmade 0x0E09 4).enterHalterLate_halts 8
    refine ⟨_, (execFaultReport_accepted (by omega) le_rfl hstop hreset).trans (if_pos ⟨rfl, rfl, hboot⟩), hmode, hreason, hstep, hstands.trans hstop, ?_⟩
    simp [SameData, State.unmade]
  · refine ⟨_, (execFaultReport_accepted hlow hhigh hstop hreset).trans (if_neg (by omega)), ?_⟩
    rintro r rfl
    refine ⟨fun hrun hfatal hin hqueue hpreempted hclear => ?_, fun h hrun hfatal hin hroom => ?_, fun h low hrun hfatal hin hfull hleast => ?_,
      fun hrun hfatal hsev => State.arrive_second (s := s.unmade code sev) hrun hstop hfatal hsev, fun hrun => ?_⟩
    · rw [State.arrive_of_free (s := s.unmade code sev) hrun hstop hfatal hin hqueue hpreempted hclear (by show sev ≠ 0; omega)]
      refine ⟨fun hsev => ?_, fun hsev => ?_⟩
      · rw [if_neg hsev]
        exact ⟨rfl, rfl, ⟨rfl, rfl, rfl, rfl, rfl, rfl, rfl, rfl⟩, ⟨rfl, rfl, rfl, rfl, rfl, rfl, rfl, rfl, rfl, rfl, rfl⟩⟩
      · rw [if_pos hsev, State.beginFatal_of_alone (s := (s.unmade code sev).handed (s.unmade code sev).fault ⟨code, sev, 0⟩) _ hqueue hpreempted hclear]
        obtain ⟨⟨made, hfault⟩, hstopped, haers, hended⟩ := ((s.unmade code sev).handed (s.unmade code sev).fault ⟨code, sev, 0⟩).fatalHandled_spec ⟨code, sev, 0⟩
        rw [hfault]
        exact ⟨rfl, rfl, rfl, hstop, hstopped, haers, hended⟩
    · obtain ⟨hqueue, hhand, hpreempt, hlost, hkept⟩ := State.arrive_joins (s := s.unmade code sev) (r := ⟨code, sev, 0⟩) hrun hstop hfatal hin hroom
      exact ⟨hqueue, hhand, hpreempt, hlost, hkept.fe, hkept.frame, hkept.data⟩
    · subst hleast
      have hhigher := State.arrive_drops (s := s.unmade code sev) (r := ⟨code, sev, 0⟩) hrun hstop hfatal hin hfull hhigh
      have hlower := State.arrive_lost (s := s.unmade code sev) (r := ⟨code, sev, 0⟩) hrun hstop hfatal hin hfull
      refine ⟨fun h' => ?_, fun h' hsev => ?_, fun h' => ?_, fun h' hsev => State.arrive_stops (s := s.unmade code sev) (r := ⟨code, sev, 0⟩) hrun hstop hfatal hfull h' hsev⟩
      · obtain ⟨hqueue, hdropped, -⟩ := hhigher h'
        exact ⟨hqueue, hdropped⟩
      · obtain ⟨hqueue, hdropped, -⟩ := hlower h' hsev
        exact ⟨hqueue, hdropped⟩
      · by_cases hover : (s.unmade code sev).fault.lowSev < sev
        · obtain ⟨-, -, hlost, hlatched, hhand, hkept⟩ := hhigher hover
          exact ⟨hlost, hlatched, hhand, hkept.frame, hkept.data⟩
        · obtain ⟨-, -, hlost, hlatched, hhand, hkept⟩ := hlower (Nat.not_lt.mp hover) (h'.resolve_left hover)
          exact ⟨hlost, hlatched, hhand, hkept.frame, hkept.data⟩
    · rw [State.arrive_in_dump (s := s.unmade code sev) _ hrun]
      refine ⟨fun hsev => ?_, fun hsev hroom => ?_⟩
      · rw [if_pos hsev]
        exact ⟨rfl, rfl⟩
      · rw [if_neg hsev, State.queueReport_of_room (s := s.unmade code sev) hroom]
        exact ⟨rfl, rfl⟩

end Sys2Proof.Machine
end

section
/-! The handling of a report and the ways into fault stop (O34): its steps, its end, preemption, the reserve domain's detections and the fall of VDD_IO (R445 to R452, R463). -/
namespace Sys2Proof.Machine

/-! ### The step that ends (R445) -/

theorem State.eventOn_fault (s : State) (c : Nat) (r : Rein) (e : Event) : (s.eventOn c r e).fault = s.fault := by
  unfold State.eventOn
  split
  · rfl
  · split
    · exact (State.finish_desk _ _ _).1
    · split <;> rfl

theorem State.vendorEvent_fault (s : State) (info page : Nat) : (s.vendorEvent info page).fault = s.fault := by
  unfold State.vendorEvent State.event
  split
  · rfl
  · exact fold_left (fun s => s.fault) _ (fun u p => u.eventOn_fault _ _ _) _ s

theorem State.smartEvent_fault (s : State) (b info : Nat) : (s.smartEvent b info).fault = s.fault := by
  unfold State.smartEvent
  split
  · rfl
  · refine fold_left (fun s => s.fault) _ (fun u p => ?_) _ s
    dsimp only
    split
    · exact u.eventOn_fault _ _ _
    · rfl

theorem State.count1_fault (s : State) (src : Nat) : (s.count1 src).fault = s.fault := rfl

/-- What a step's end counts and sets: step 1 the report at its severity, step 3 the degraded warning. -/
theorem State.reportStep_fault (s : State) (r : Report) (step : Nat) : (s.reportStep r step).fault = { s.fault with
    count2 := if step = 1 ∧ r.sev = 2 then satAdd 32 s.fault.count2 1 else s.fault.count2
    count3 := if step = 1 ∧ r.sev ≠ 2 then satAdd 32 s.fault.count3 1 else s.fault.count3
    degraded := if step = 3 then true else s.fault.degraded } := by
  unfold State.reportStep
  split
  · by_cases hsev : r.sev = 2 <;> simp [hsev, State.count1_fault]
  · by_cases hdegraded : s.fault.degraded = true
    · simp only [hdegraded, if_true]
      exact congrArg (fun d => { s.fault with degraded := d }) hdegraded
    · simp [hdegraded, State.smartEvent_fault]
  · refine (fold_left (fun s => s.fault) _ (fun u c => ?_) _ s).trans (by simp)
    rfl
  · simp [State.vendorEvent_fault]
  · next h1 h3 _ _ =>
    have hfirst : ¬ step = 1 := h1
    have hthird : ¬ step = 3 := h3
    simp [hfirst, hthird]

/-! ### The report that is taken next (R447) -/

/-- Reports of lower severity that wait do not change the highest one. -/
theorem FaultState.topSev_extra {f g : FaultState} {extra : List Report} (hf : f.overflow = false) (hg : g.overflow = false) (hqueue : g.queue = f.queue) (hpreempted : g.preempted = f.preempted ++ extra)
    (hextra : ∀ y ∈ extra, y.sev < f.topSev) : g.topSev = f.topSev := by
  have hftop := FaultState.topSev_of_clear (FaultState.overflowWaits_of_none hf)
  have hgtop := FaultState.topSev_of_clear (FaultState.overflowWaits_of_none hg)
  obtain ⟨-, hfmax, hfattained⟩ := foldl_max_map (f.queue ++ f.preempted) (·.sev) 0
  obtain ⟨-, hgmax, hgattained⟩ := foldl_max_map (g.queue ++ g.preempted) (·.sev) 0
  rw [← hftop] at hfmax hfattained
  rw [← hgtop] at hgmax hgattained
  rw [hqueue, hpreempted, ← List.append_assoc] at hgmax hgattained
  apply Nat.le_antisymm
  · obtain h | ⟨y, hy, h⟩ := hgattained
    · omega
    · rw [← h]
      exact (List.mem_append.mp hy).elim (hfmax y) fun h => Nat.le_of_lt (hextra y h)
  · obtain h | ⟨y, hy, h⟩ := hfattained
    · omega
    · rw [← h]
      exact hgmax y (List.mem_append_left _ hy)

/-- The next report, and what waits behind it, do not depend on what else the sequencer holds, nor on reports of lower severity. -/
theorem FaultState.next_extra {f g h : FaultState} {x : Report} {extra : List Report} (hf : f.overflow = false) (hg : g.overflow = false) (hqueue : g.queue = f.queue)
    (hpreempted : g.preempted = f.preempted ++ extra) (hextra : ∀ y ∈ extra, y.sev < f.topSev) (hnext : f.next = some (x, h)) :
    x.sev = f.topSev ∧ g.next = some (x, { g with queue := h.queue, preempted := h.preempted ++ extra }) := by
  have htop := FaultState.topSev_extra hf hg hqueue hpreempted hextra
  have hnonzero : f.topSev ≠ 0 := by
    intro hzero
    simp [FaultState.next_of_none hzero] at hnext
  have hnone : extra.find? (fun r => r.sev = f.topSev) = none := List.find?_eq_none.mpr fun y hy => by simpa using Nat.ne_of_lt (hextra y hy)
  rw [FaultState.next_of_waiting hnonzero (FaultState.overflowWaits_of_none hf)] at hnext
  rw [FaultState.next_of_waiting (by rwa [htop]) (FaultState.overflowWaits_of_none hg), htop, hpreempted, hqueue, List.find?_append, hnone, Option.or_none]
  cases hfind : f.preempted.find? fun r => r.sev = f.topSev with
  | some y =>
    rw [hfind] at hnext
    obtain ⟨rfl, rfl⟩ := Prod.mk.inj (Option.some.inj hnext)
    have hsev := List.find?_some hfind
    refine ⟨of_decide_eq_true hsev, ?_⟩
    dsimp only
    rw [List.erase_append_left _ (List.mem_of_find?_eq_some hfind), ← hqueue]
  | none =>
    rw [hfind] at hnext
    obtain ⟨y, hy, heq⟩ := Option.map_eq_some_iff.mp hnext
    obtain ⟨rfl, rfl⟩ := Prod.mk.inj heq
    have hsev := List.find?_some hy
    refine ⟨of_decide_eq_true hsev, ?_⟩
    dsimp only
    rw [hy, ← hpreempted]
    rfl

/-! ### The end of a step -/

/-- The report in hand with one step more. -/
def Report.stepped (r : Report) : Report := { r with steps := r.steps + 1 }

/-- The state after the effect of the step that ends. -/
def State.reportStepped (s : State) (r : Report) : State := s.reportStep r (r.steps + 1)

theorem execFaultStepDone_idle {s : State} (h : s.fault.stop.isSome ∨ s.fault.fatal.isSome ∨ s.dump.run.isSome ∨ s.dump.inReset = true ∨ s.fault.inHand = none) : exec .faultStepDone s = .next s := by
  show execFaultStepDone s = _
  unfold execFaultStepDone
  split
  · rfl
  · next hfree =>
    have hin : s.fault.inHand = none := by
      simp only [not_or] at hfree
      obtain ⟨h1, h2, h3, h4⟩ := hfree
      exact (((h.resolve_left h1).resolve_left h2).resolve_left h3).resolve_left h4
    rw [hin]

theorem execFaultStepDone_of_inHand {s : State} {r : Report} (hstop : s.fault.stop = none) (hfatal : s.fault.fatal = none) (hrun : s.dump.run = none) (hreset : s.dump.inReset = false) (hin : s.fault.inHand = some r) :
    exec .faultStepDone s =
      if r.allSteps ≤ r.steps + 1 then .next ((s.reportStepped r).reportEnds r.stepped).settle
      else if r.sev < (s.reportStepped r).fault.topSev then
        .next ({ s.reportStepped r with fault := { (s.reportStepped r).fault with inHand := none, preempted := (s.reportStepped r).fault.preempted ++ [r.stepped] } } : State).takeReport.settle
      else .next ({ s.reportStepped r with fault := { (s.reportStepped r).fault with inHand := some r.stepped } } : State).settleFront := by
  show execFaultStepDone s = _
  unfold execFaultStepDone
  rw [if_neg (by simp [hstop, hfatal, hrun, hreset]), hin]
  rfl

theorem State.reportStepped_topSev (s : State) (r : Report) : (s.reportStepped r).fault.topSev = s.fault.topSev := by
  unfold State.reportStepped
  rw [State.reportStep_fault]
  rfl

/-- A step's end leaves what waits as it was. -/
theorem State.reportStepped_waits (s : State) (r : Report) : (s.reportStepped r).fault.queue = s.fault.queue ∧ (s.reportStepped r).fault.preempted = s.fault.preempted ∧ (s.reportStepped r).fault.overflow = s.fault.overflow := by
  unfold State.reportStepped
  rw [State.reportStep_fault]
  exact ⟨rfl, rfl, rfl⟩

theorem State.reportStepped_frames (s : State) (r : Report) : SameFrame s (s.reportStepped r) ∧ SameData s (s.reportStepped r) := by
  simp [State.reportStepped, SameFrame, SameData]

/-- The end of any other handling than the overflow report's frees the sequencer. -/
theorem State.reportEnds_of_other {s : State} {r : Report} (h : r.code ≠ 0x0102) : s.reportEnds r = ({ s with fault := { s.fault with inHand := none } } : State).takeReport := by
  unfold State.reportEnds
  exact if_neg h

/-- With nothing that waits, the end of a handling leaves the sequencer free. -/
theorem State.reportEnds_of_idle {s : State} {r x : Report} (hcode : r.code ≠ 0x0102) (hin : s.fault.inHand = some x) (hx : x.code ≠ 0x0102) (htop : s.fault.topSev = 0) :
    s.reportEnds r = { s with fault := { s.fault with inHand := none, preempt := false } } := by
  have htop' : ({ s.fault with inHand := none } : FaultState).topSev = 0 := by
    rw [← htop]
    unfold FaultState.topSev FaultState.overflowWaits
    simp [hin, hx]
  rw [State.reportEnds_of_other hcode, State.takeReport_of_none (FaultState.next_of_none htop')]

/-- With nothing that waits, the sequencer takes no report. -/
theorem State.takeReport_of_idle {u : State} (hqueue : u.fault.queue = []) (hpreempted : u.fault.preempted = []) (hclear : u.fault.overflow = false) :
    u.takeReport.fault.inHand = none ∧ u.takeReport.fault.overflow = false := by
  rw [State.takeReport_of_none (FaultState.next_of_none (FaultState.topSev_of_idle hqueue hpreempted hclear))]
  exact ⟨rfl, hclear⟩

/-- The overflow report's record is written, and its latch released. -/
def State.latchReleased (s : State) : State :=
  let u := ({ s with fault := { s.fault with inHand := none } } : State).recordEvent 0x0102 3 [s.fault.lost, s.fault.lastDropped]
  { u with fault := { u.fault with overflow := false } }

/-- The end of the overflow report's handling releases its latch. -/
theorem State.reportEnds_of_overflow {s : State} {r : Report} (hcode : r.code = 0x0102) (hqueue : s.fault.queue = []) (hpreempted : s.fault.preempted = []) :
    (s.reportEnds r).fault.inHand = none ∧ (s.reportEnds r).fault.overflow = false := by
  have hrecord := (({ s with fault := { s.fault with inHand := none } } : State).recordEvent_leaves 0x0102 3 [s.fault.lost, s.fault.lastDropped]).1
  have hends : s.reportEnds r = s.latchReleased.takeReport := if_pos hcode
  rw [hends]
  exact State.takeReport_of_idle ((congrArg FaultState.queue hrecord).trans hqueue) ((congrArg FaultState.preempted hrecord).trans hpreempted) rfl

/-! ### Fault stop's ways (R449 to R452) -/

theorem StopEntered.arrayPump {s t : State} {f : FaultStop} (h : StopEntered s t f) : StopEntered s t.arrayPump f :=
  ⟨h.stop, h.sequencer, h.front, h.frozen, h.hbeat, h.keys, h.data, h.wheel⟩

theorem State.teethPass_stop {s : State} (h : s.teethPass = true) : s.fault.stop = none := by
  simp [State.teethPass] at h
  exact h.1.2

/-- Settles O34: the step's effect and what is taken after it, and each way into fault stop. -/
theorem handlingStepsAndFaultStop : Obligations.HandlingStepsAndFaultStop := by
  unfold Obligations.HandlingStepsAndFaultStop
  refine ⟨fun s => execFaultStepDone_idle, fun s r hstop hfatal hrun hreset hin => ?_, fun s c hfatal hstop => ?_, fun s h => ?_, fun s hrunning hboot hreset => ?_, fun s h => if_pos h,
    fun s hpass => ?_, fun s hpass => if_neg (by simp [hpass]), fun s hup => ?_, fun s hdown => if_neg (by simp [hdown])⟩
  · have hexec := execFaultStepDone_of_inHand hstop hfatal hrun hreset hin
    obtain ⟨hframe, hdata⟩ := s.reportStepped_frames r
    obtain ⟨hqueue, hpreempted, hoverflow⟩ := s.reportStepped_waits r
    refine ⟨fun hmore htop => ?_, fun hlast hcode htop => ?_, fun hlast hcode hnone hnone' => ?_, fun x f hlast hcode hclear hnext hsev => ?_, fun x f hmore htop hnext hsev hclear => ?_⟩
    · rw [if_neg (by omega), if_neg (by rw [State.reportStepped_topSev]; omega)] at hexec
      have hfault := s.reportStep_fault r (r.steps + 1)
      refine ⟨_, hexec, rfl, hqueue, fun hfirst htwo => ?_, fun hfirst hother => ?_, fun hlater => ?_, fun hthird => ?_, fun hother => ?_, hframe, hdata⟩ <;>
        simp only [State.reportStepped, hfault] <;> simp [*]
    · rw [if_pos hlast] at hexec
      have hends := State.reportEnds_of_idle (s := s.reportStepped r) (r := r.stepped) (x := r) hcode (by unfold State.reportStepped; rw [State.reportStep_fault]; exact hin) hcode (by rwa [State.reportStepped_topSev])
      rw [hends] at hexec
      exact ⟨_, hexec, rfl, hframe, hdata⟩
    · rw [if_pos hlast] at hexec
      exact ⟨_, hexec, State.reportEnds_of_overflow (r := r.stepped) hcode (hqueue.trans hnone) (hpreempted.trans hnone')⟩
    · rw [if_pos hlast, State.reportEnds_of_other (show r.stepped.code ≠ 0x0102 from hcode)] at hexec
      obtain ⟨hx, htaken⟩ := FaultState.next_extra (g := { (s.reportStepped r).fault with inHand := none }) (extra := []) hclear (hoverflow.trans hclear) hqueue (by simpa using hpreempted) (by simp) hnext
      rw [State.takeReport_of_some (u := { s.reportStepped r with fault := { (s.reportStepped r).fault with inHand := none } }) htaken, if_neg hsev] at hexec
      refine ⟨_, hexec, rfl, rfl, List.append_nil _, rfl, fun y hy => ?_⟩
      rw [hx]
      exact s.fault.sev_le_topSev hy
    · rw [if_neg (by omega), if_pos (by rw [State.reportStepped_topSev]; exact htop)] at hexec
      obtain ⟨hx, htaken⟩ := FaultState.next_extra (g := { (s.reportStepped r).fault with inHand := none, preempted := (s.reportStepped r).fault.preempted ++ [r.stepped] }) (extra := [r.stepped]) hclear
        (hoverflow.trans hclear) hqueue (by rw [hpreempted]) (List.forall_mem_singleton.mpr htop) hnext
      rw [State.takeReport_of_some (u := { s.reportStepped r with fault := { (s.reportStepped r).fault with inHand := none, preempted := (s.reportStepped r).fault.preempted ++ [r.stepped] } }) htaken, if_neg hsev] at hexec
      exact ⟨_, hexec, rfl, by omega, List.mem_append_right _ (List.mem_singleton_self _), rfl⟩
  · have hentered := (State.enterFaultStop_entered hstop c 0).arrayPump
    have hexec : exec .fatalCompletionsWritten s = .next (s.enterFaultStop c 0).arrayPump := by
      show execFatalCompletionsWritten s = _
      unfold execFatalCompletionsWritten
      rw [hfatal, hstop]
      rfl
    obtain ⟨hcode, hqueue, hhand⟩ := hentered.sequencer
    obtain ⟨hcfs, hstopped, hready⟩ := hentered.front
    exact ⟨_, _, hexec, hentered.stop, rfl, rfl, hcode, hcfs, hstopped, hready, hentered.frozen, hqueue, hhand, hentered.data.1, hentered.data.2, hentered.hbeat, hentered.keys⟩
  · show execFatalCompletionsWritten s = _
    unfold execFatalCompletionsWritten
    obtain h | h := h
    · rw [h]
    · obtain ⟨f, hf⟩ := Option.isSome_iff_exists.mp h
      cases s.fault.fatal <;> simp [hf]
  · obtain ⟨hfault, hfe, hmedia, -, hwheel⟩ := s.recordEvent_leaves 0x020A 4 []
    have hwt := congrArg WheelState.wt hwheel
    refine ⟨_, if_neg (by simp [hrunning, hboot, hreset]), ?_⟩
    cases hstop : s.fault.stop with
    | none =>
      have hentered := (State.enterFaultStop_entered (s := { s.recordEvent 0x020A 4 [] with wheel := { (s.recordEvent 0x020A 4 []).wheel with stopped := true } }) (by rw [hfault]; exact hstop) 0x020A 3).arrayPump
      obtain ⟨hcfs, hstopped, -⟩ := hentered.front
      exact ⟨hentered.wheel.1, hentered.wheel.2.trans (by rw [hwheel]), hentered.data.1.trans hmedia, fun _ => ⟨_, hentered.stop, rfl, rfl, hcfs, hstopped⟩, by simp⟩
    | some f =>
      rw [State.enterFaultStop_of_stopped (by rw [hfault, hstop]; rfl)]
      exact ⟨rfl, hwt, hmedia, by simp, fun _ => ⟨hfault, hfe⟩⟩
  · obtain ⟨hfault, -, hmedia, -, -⟩ := s.recordEvent_leaves 0x0103 4 [s.wheel.lt]
    have hentered := (State.enterFaultStop_entered (s := s.recordEvent 0x0103 4 [s.wheel.lt]) (by rw [hfault]; exact State.teethPass_stop hpass) 0x0103 3).arrayPump
    obtain ⟨hcfs, hstopped, -⟩ := hentered.front
    exact ⟨_, _, if_pos hpass, hentered.stop, rfl, rfl, hcfs, hstopped, hentered.data.1.trans hmedia⟩
  · exact ⟨_, if_pos hup, rfl, rfl, rfl, rfl, rfl, rfl, rfl, rfl, le_rfl⟩

end Sys2Proof.Machine
end

section
/-! Tree Store Access (O52, O53): how an operation at hand begins, ends, waits or is refused, and what it leaves of the tree store (R421 to R426). -/
namespace Sys2Proof.Machine

/-! ### The tree store behind an answered command -/

theorem TsState.pump_update (t : TsState) : t.pump.staging = t.staging ∧ t.pump.writing = t.writing ∧ t.pump.image = t.image ∧ t.pump.updState = t.updState ∧ t.pump.updLen = t.updLen ∧
    t.pump.updDone = t.updDone ∧ t.pump.lastReason = t.lastReason := by
  unfold TsState.pump
  (repeat' split) <;> exact ⟨rfl, rfl, rfl, rfl, rfl, rfl, rfl⟩

theorem State.leave_ts (s : State) (code sev : Nat) (xs : List Nat) : ∃ queue, (s.leave code sev xs).ts = { s.ts with queue := queue } := by
  unfold State.leave State.recordEvent State.putRecord
  (repeat' split) <;> exact ⟨_, rfl⟩

theorem State.finishCode_ts (s : State) (tag : Nat) (r : CmdResult) (code : Nat) : (s.finishCode tag r code).ts = s.ts := by
  unfold State.finishCode
  split
  · rfl
  · split
    · rfl
    · dsimp only; split <;> rfl

/-- The state in which the meaning of a command runs: its row has begun. -/
def State.begins (s : State) (tag : Nat) : State := s.modCmd tag fun c => { c with started := true }

/-- The tree store of a state changes alone. -/
def State.withTs (s : State) (t : TsState) : State := { s with ts := t }

theorem Begun.withTs {s v : State} {tag : Nat} (b : Begun s v tag) (t : TsState) : Begun s (v.withTs t) tag := ⟨b.fe, b.frame, b.data, b.pkg, b.fault⟩

section AtHand
variable {s u : State} {tag cid op reason dw1 key : Nat} {c : Cmd} {q : Sq} {x : SqSide} {cq : Cq} {r : CmdResult} {unlock : Bool} {f : State → Cmd → State} {ts : TsState}

/-- Posting a command's completion leaves the tree store as its meaning left it, and starts what can start. -/
theorem AtHand.posted_ts (h : AtHand s tag c q x cq cid) (hfe : u.fe = (s.begins tag).fe) (hawake : u.dump.since = false) (r : CmdResult) : (u.finish tag r).postAll.arrayPump.ts = u.ts.pump := by
  have hrow : u.cmd tag = some { c with started := true, out := c.out } := by
    rw [State.cmd, hfe]
    exact h.started
  have p : Proposed s (u.finishCode tag r 0) tag c r c.out := h.proposed r 0 hrow (by rw [hfe]; rfl) hawake
  have hq : (u.finishCode tag r 0).sq c.sq = some q := by rw [State.sq, p.sqs]; exact h.queue
  have hcq : (u.finishCode tag r 0).cq x.cq = some cq := by rw [State.cq, p.cqs]; exact h.place
  obtain ⟨_, hs⟩ := State.postAll_state p.ready p.mismatches p.row rfl h.fresh.2.2 h.owes hq h.side hcq h.fetched h.room p.awake h.queued
  show ((u.finishCode tag r 0).postAll.ts).pump = _
  rw [hs]
  exact congrArg TsState.pump (u.finishCode_ts tag r 0)

/-! ### An operation begins (R421) -/

/-- An operation at hand that has its unlock value, or needs none, has its meaning. -/
theorem AtHand.tsBegins (h : AtHand s tag c q x cq cid) (hw : c.waits true 0xC5 = true) (hop : tsOp c = op) (hunlock : (unlock && !tsUnlocked c) = false) :
    s.tsAccess tag op unlock f = (f (s.begins tag) c).postAll.arrayPump := by
  unfold State.tsAccess
  rw [h.begin hw (by simp [hop]), if_neg (by simp [hunlock])]
  rfl

/-- Without the unlock value an operation that needs it ends with 0:0x02, and the tree store stands. -/
theorem AtHand.tsLocked (h : AtHand s tag c q x cq cid) (hw : c.waits true 0xC5 = true) (hop : tsOp c = op) (hunlock : (unlock && !tsUnlocked c) = true) :
    Served s (s.tsAccess tag op unlock f) tag q x cq cid invalidField c.out ∧ (s.tsAccess tag op unlock f).ts = s.ts.pump := by
  have hends : s.tsAccess tag op unlock f = ((s.begins tag).finish tag invalidField).postAll.arrayPump := by
    unfold State.tsAccess
    rw [h.begin hw (by simp [hop]), if_pos hunlock]
    rfl
  rw [hends]
  exact ⟨h.served_finish _ 0 (Begun.self s tag), h.posted_ts (u := s.begins tag) rfl h.awake _⟩

/-- An operation that changes the tree store alone, and ends, is served. -/
theorem AtHand.tsEnds (h : AtHand s tag c q x cq cid) (hw : c.waits true 0xC5 = true) (hop : tsOp c = op) (hunlock : (unlock && !tsUnlocked c) = false)
    (hf : f (s.begins tag) c = ((s.begins tag).withTs ts).finish tag r) :
    Served s (s.tsAccess tag op unlock f) tag q x cq cid r c.out ∧ (s.tsAccess tag op unlock f).ts = ts.pump := by
  rw [h.tsBegins hw hop hunlock, hf]
  exact ⟨h.served_finish _ 0 ((Begun.self s tag).withTs ts), h.posted_ts (u := (s.begins tag).withTs ts) rfl h.awake _⟩

/-- An operation that answers with data is served. -/
theorem AtHand.tsAnswers (h : AtHand s tag c q x cq cid) (hw : c.waits true 0xC5 = true) (hop : tsOp c = op) (hunlock : (unlock && !tsUnlocked c) = false) {data : List Byte}
    (hf : f (s.begins tag) c = (s.begins tag).answer tag data) : Served s (s.tsAccess tag op unlock f) tag q x cq cid ok data := by
  rw [h.tsBegins hw hop hunlock, hf]
  exact h.served_answer data (Begun.self s tag)

/-- A code of severity 2 is left, and the command ends: what of the tree store stands. -/
theorem AtHand.tsLeaves (h : AtHand s tag c q x cq cid) (hw : c.waits true 0xC5 = true) (hop : tsOp c = op) (hunlock : (unlock && !tsUnlocked c) = false) {code sev : Nat} {xs : List Nat}
    (hf : f (s.begins tag) c = (((s.begins tag).withTs ts).leave code sev xs).finish tag r) :
    Answered (s.tsAccess tag op unlock f) tag q x cq cid r c.out ∧ SameFrame s (s.tsAccess tag op unlock f) ∧ SameData s (s.tsAccess tag op unlock f) ∧
      ∃ queue, (s.tsAccess tag op unlock f).ts = ({ ts with queue := queue } : TsState).pump := by
  obtain ⟨queue, hts⟩ := ((s.begins tag).withTs ts).leave_ts code sev xs
  have hfe : (((s.begins tag).withTs ts).leave code sev xs).fe = (s.begins tag).fe := State.leave_fe _ _ _ _
  have hawake : (((s.begins tag).withTs ts).leave code sev xs).dump.since = false := by
    simp only [State.leave_kept]
    exact h.awake
  rw [h.tsBegins hw hop hunlock, hf]
  refine ⟨h.finish r 0 hfe hawake, ?_, ?_, queue, ?_⟩
  · simp [SameFrame, State.withTs, State.begins]
  · simp [SameData, State.withTs, State.begins]
  · rw [h.posted_ts hfe hawake, hts]
    rfl

/-- An update operation that R424 refuses. -/
theorem AtHand.tsRefuses (h : AtHand s tag c q x cq cid) (hw : c.waits true 0xC5 = true) (hop : tsOp c = op) (hunlock : (unlock && !tsUnlocked c) = false)
    (hf : f (s.begins tag) c = (s.begins tag).updRefused tag reason dw1) : UpdateRefused s (s.tsAccess tag op unlock f) tag c q x cq cid reason dw1 := by
  obtain ⟨hanswered, hframe, hdata, queue, hts⟩ := h.tsLeaves (ts := { s.ts with lastReason := reason }) (r := { stat 7 0xC5 with dw0 := reason, dw1 := dw1 }) (code := 0x1109) (sev := 2) (xs := [reason]) hw hop hunlock hf
  obtain ⟨hstaging, hwriting, himage, hstate, -, -, hreason⟩ := TsState.pump_update { s.ts with lastReason := reason, queue := queue }
  refine ⟨hanswered, hframe, hdata, ?_⟩
  rw [hts]
  exact ⟨hreason, hstaging, hwriting, himage, hstate⟩

/-- An operation whose effect is to become durable first: the command waits under a key, and nothing is posted. -/
theorem AtHand.tsParks (h : AtHand s tag c q x cq cid) (hw : c.waits true 0xC5 = true) (hop : tsOp c = op) (hunlock : (unlock && !tsUnlocked c) = false)
    (hf : f (s.begins tag) c = ((s.begins tag).withTs ts).awaitSave key tag) : Parked (s.withTs ts) (s.tsAccess tag op unlock f) tag c key := by
  have hidle : (((s.begins tag).withTs ts).awaitSave key tag).postAll = ((s.begins tag).withTs ts).awaitSave key tag := State.postAll_idle h.alone.1 h.alone.2
  rw [h.tsBegins hw hop hunlock, hf, hidle]
  exact ⟨by simp [SameFrame, State.awaitSave, State.withTs, State.begins], by simp [SameData, State.awaitSave, State.withTs, State.begins], h.started, rfl, rfl, rfl⟩

end AtHand

/-! ### The operations -/

section AtHand
variable {s : State} {tag cid : Nat} {c : Cmd} {q : Sq} {x : SqSide} {cq : Cq}

theorem AtHand.tsReadImage (h : AtHand s tag c q x cq cid) (hw : c.waits true 0xC5 = true) (hop : tsOp c = 1) : ∃ t, exec (.tsReadImage tag) s = .next t ∧
    (s.ts.mode ≠ 0 → Served s t tag q x cq cid sequenceError c.out) ∧
    (s.ts.mode = 0 → dw c.entry 11 % 16 ≠ 0 ∨ dw c.entry 12 % 16 ≠ 0 ∨ s.ts.shadowLen < dw c.entry 11 + dw c.entry 12 → Served s t tag q x cq cid invalidField c.out) ∧
    (s.ts.mode = 0 → dw c.entry 11 % 16 = 0 → dw c.entry 12 % 16 = 0 → dw c.entry 11 + dw c.entry 12 ≤ s.ts.shadowLen →
      Served s t tag q x cq cid ok (blankBytes s.ts.shadow (dw c.entry 11) (dw c.entry 12))) := by
  refine ⟨_, rfl, fun hmode => ?_, fun hmode hbad => ?_, fun hmode hoff hlen hfits => ?_⟩
  · exact (h.tsEnds (ts := s.ts) hw hop rfl (if_pos hmode)).1
  · exact (h.tsEnds (ts := s.ts) hw hop rfl ((if_neg (not_not.mpr hmode)).trans (if_pos hbad))).1
  · have hgood : ¬ (dw c.entry 11 % 16 ≠ 0 ∨ dw c.entry 12 % 16 ≠ 0 ∨ s.ts.shadowLen < dw c.entry 11 + dw c.entry 12) := by omega
    exact h.tsAnswers hw hop rfl ((if_neg (not_not.mpr hmode)).trans (if_neg hgood))

/-- Staging that an update has opened (R423 step 1). -/
def TsState.opened (t : TsState) (ctrl len : Nat) : TsState := { t with staging := some { ctrl := ctrl, len := len, bytes := [], covered := [] }, updState := 1, updLen := len }

theorem AtHand.tsUpdBegin (h : AtHand s tag c q x cq cid) (hw : c.waits true 0xC5 = true) (hop : tsOp c = 2) : ∃ t, exec (.tsUpdBegin tag) s = .next t ∧
    (dw c.entry 11 % 16 ≠ 0 ∨ dw c.entry 11 < 64 ∨ 50331648 < dw c.entry 11 → Served s t tag q x cq cid invalidField c.out) ∧
    (dw c.entry 11 % 16 = 0 → 64 ≤ dw c.entry 11 → dw c.entry 11 ≤ 50331648 → (∀ r, s.updReason c.ctrl = some r → UpdateRefused s t tag c q x cq cid r 0) ∧
      (s.updReason c.ctrl = none → Served s t tag q x cq cid ok c.out ∧ t.ts.updState = 1 ∧ t.ts.updLen = dw c.entry 11 ∧
        t.ts.staging = some { ctrl := c.ctrl, len := dw c.entry 11, bytes := [], covered := [] })) := by
  refine ⟨_, rfl, fun hbad => ?_, fun hoff hlow hhigh => ?_⟩
  · exact (h.tsEnds (ts := s.ts) hw hop rfl (if_pos hbad)).1
  · have hgood : ¬ (dw c.entry 11 % 16 ≠ 0 ∨ dw c.entry 11 < 64 ∨ 50331648 < dw c.entry 11) := by omega
    refine ⟨fun r hr => h.tsRefuses hw hop rfl ((if_neg hgood).trans ?_), fun hnone => And.imp_right (fun hts => ?_) (h.tsEnds (ts := s.ts.opened c.ctrl (dw c.entry 11)) hw hop rfl ((if_neg hgood).trans ?_))⟩
    · rw [show (s.begins tag).updReason c.ctrl = some r from hr]
    · obtain ⟨hstaging, -, -, hstate, hlen, -, -⟩ := (s.ts.opened c.ctrl (dw c.entry 11)).pump_update
      rw [hts]
      exact ⟨hstate, hlen, hstaging⟩
    · rw [show (s.begins tag).updReason c.ctrl = none from hnone]
      rfl

/-- Staging with a part of the image copied in. -/
def Staging.filled (g : Staging) (off len : Nat) (data : List Byte) : Staging :=
  { g with bytes := programBytes g.bytes off (data.take len), covered := g.covered ++ [(off, len)] }

theorem AtHand.tsUpdData (h : AtHand s tag c q x cq cid) (hw : c.waits true 0xC5 = true) (hop : tsOp c = 3) (data : List Byte) : ∃ t, exec (.tsUpdData tag data) s = .next t ∧
    (s.ts.staging = none → Served s t tag q x cq cid sequenceError c.out) ∧
    (∀ g, s.ts.staging = some g → g.ctrl ≠ c.ctrl → Served s t tag q x cq cid sequenceError c.out) ∧
    (∀ g, s.ts.staging = some g → g.ctrl = c.ctrl → dw c.entry 11 % 16 ≠ 0 ∨ dw c.entry 12 % 16 ≠ 0 ∨ 2097152 < dw c.entry 12 ∨ g.len < dw c.entry 11 + dw c.entry 12 →
      Served s t tag q x cq cid invalidField c.out ∧ t.ts.staging = some g) ∧
    (∀ g, s.ts.staging = some g → g.ctrl = c.ctrl → dw c.entry 11 % 16 = 0 → dw c.entry 12 % 16 = 0 → dw c.entry 12 ≤ 2097152 → dw c.entry 11 + dw c.entry 12 ≤ g.len →
      dw c.entry 12 ≤ data.length → Served s t tag q x cq cid ok c.out ∧ t.ts.staging = some (g.filled (dw c.entry 11) (dw c.entry 12) data)) := by
  refine ⟨_, rfl, fun hnone => (h.tsEnds (ts := s.ts) hw hop rfl ?_).1, fun g hg hother => (h.tsEnds (ts := s.ts) hw hop rfl ?_).1,
    fun g hg hmine hbad => And.imp_right (fun hts => ?_) (h.tsEnds (ts := s.ts) hw hop rfl ?_),
    fun g hg hmine hoff hlen hmax hfits hdata => And.imp_right (fun hts => ?_) (h.tsEnds (ts := { s.ts with staging := some (g.filled (dw c.entry 11) (dw c.entry 12) data) }) hw hop rfl ?_)⟩
  · rw [show (s.begins tag).ts.staging = none from hnone]
    rfl
  · rw [show (s.begins tag).ts.staging = some g from hg]
    exact if_pos hother
  · rw [hts, s.ts.pump_update.1, hg]
  · rw [show (s.begins tag).ts.staging = some g from hg]
    exact (if_neg (not_not.mpr hmine)).trans (if_pos (by omega))
  · rw [hts]
    exact (TsState.pump_update _).1
  · rw [show (s.begins tag).ts.staging = some g from hg]
    exact (if_neg (not_not.mpr hmine)).trans (if_neg (by omega))

/-- The caller's own staging, if any, discarded. -/
def TsState.cancelled (t : TsState) (ctrl : Nat) : TsState :=
  if (t.staging.map fun g => decide (g.ctrl = ctrl)).getD false then { t with staging := none, updState := 0, updLen := 0 } else t

theorem TsState.cancelled_staging (t : TsState) (ctrl : Nat) : (t.cancelled ctrl).staging = match t.staging with | some g => if g.ctrl = ctrl then none else some g | none => none := by
  unfold TsState.cancelled
  cases hg : t.staging with
  | none => simp [hg]
  | some g => by_cases hmine : g.ctrl = ctrl <;> simp [hg, hmine]

theorem AtHand.tsUpdCancel (h : AtHand s tag c q x cq cid) (hw : c.waits true 0xC5 = true) (hop : tsOp c = 5) : ∃ t, exec (.tsUpdCancel tag) s = .next t ∧
    (s.ts.writing.isSome → Served s t tag q x cq cid sequenceError c.out) ∧
    (s.ts.writing = none → Served s t tag q x cq cid ok c.out ∧ t.ts.staging = (s.ts.cancelled c.ctrl).staging) := by
  refine ⟨_, rfl, fun hwriting => (h.tsEnds (ts := s.ts) hw hop rfl (if_pos hwriting)).1, fun hidle => And.imp_right (fun hts => ?_) (h.tsEnds (ts := s.ts.cancelled c.ctrl) hw hop rfl ?_)⟩
  · rw [hts]
    exact (s.ts.cancelled c.ctrl).pump_update.1
  · refine (if_neg (by rw [show (s.begins tag).ts.writing = none from hidle]; simp)).trans (congrArg (fun u => State.finish u tag ok) ?_)
    unfold TsState.cancelled
    by_cases hmine : (s.ts.staging.map fun g => decide (g.ctrl = c.ctrl)).getD false = true
    · exact (if_pos hmine).trans (congrArg (s.begins tag).withTs (if_pos hmine).symm)
    · exact (if_neg hmine).trans (congrArg (s.begins tag).withTs (if_neg hmine).symm)

theorem AtHand.tsUnlisted (h : AtHand s tag c q x cq cid) (hw : c.waits true 0xC5 = true) (hop : 12 ≤ tsOp c) : ∃ t, exec (.tsAccessUnlistedOp tag) s = .next t ∧ Served s t tag q x cq cid invalidField c.out :=
  ⟨_, rfl, h.begin_served hw (by simp [hop]) (h.served_malformed c invalidField (Begun.self s tag))⟩

end AtHand

/-- Settles O52: each operation through how it ends from the state in which it began. -/
theorem treeStoreReadsAndStages : Obligations.TreeStoreReadsAndStages := by
  unfold Obligations.TreeStoreReadsAndStages
  intro s tag c q x cq cid h hw
  refine ⟨fun hop => ⟨_, rfl, h.tsAnswers hw hop rfl rfl⟩, fun hop => h.tsReadImage hw hop, fun hop => h.tsUpdBegin hw hop, fun hop data => h.tsUpdData hw hop data, fun hop => ?_, fun hop => h.tsUnlisted hw hop⟩
  obtain ⟨t, hexec, hbusy, hcancels⟩ := h.tsUpdCancel hw hop
  exact ⟨t, hexec, hbusy, fun hidle => (hcancels hidle).imp_right fun hts => hts.trans (s.ts.cancelled_staging c.ctrl)⟩

end Sys2Proof.Machine
end

section
/-! The operations of Tree Store Access that need the unlock value (O53): the commit of an update, keys, locks, erase, identity and refresh (R414, R415, R421, R423, R424). -/
namespace Sys2Proof.Machine

theorem tsUnlocked_of_value {c : Cmd} (h : dw c.entry 13 = 0x3C5AA5C3) : (true && !tsUnlocked c) = false := by simp [tsUnlocked, h]

/-- Words of a valid option block are queued for the array, and the command waits for the last of them. -/
theorem State.programOption_of_valid {s : State} (hvalid : s.ts.optionValid = true) (tag : Nat) {parts : List (Nat × List Byte)} {off : Nat} {bytes : List Byte} (hlast : parts.getLast? = some (off, bytes)) :
    s.programOption tag parts = (s.withTs { s.ts with queue := s.ts.queue ++ parts.map fun (o, bs) => ⟨6, .option o bs⟩ }).awaitSave (optionKey off) tag := by
  unfold State.programOption
  simp only [hvalid, Bool.true_or, if_true, hlast]
  rfl

/-- The lowest of the four key slots that is blank. -/
theorem find_first_of_four {p : Nat → Bool} {i : Nat} (hi : i < 4) (hp : p i = true) (hlower : ∀ j < i, p j = false) : [0, 1, 2, 3].find? p = some i := by
  refine List.find?_eq_some_iff_append.mpr ⟨hp, List.range i, (List.range' (i + 1) (3 - i)), ?_, fun j hj => by simpa using hlower j (by simpa using hj)⟩
  interval_cases i <;> rfl

section AtHand
variable {s : State} {tag cid : Nat} {c : Cmd} {q : Sq} {x : SqSide} {cq : Cq}

/-- The validation of staging that is covered whole: it fails with the check that ends it, or the write begins. -/
theorem AtHand.tsUpdCommit (h : AtHand s tag c q x cq cid) (hw : c.waits true 0xC5 = true) (hop : tsOp c = 4) (hvalue : dw c.entry 13 = 0x3C5AA5C3) : ∃ t, exec (.tsUpdCommit tag) s = .next t ∧
    (∀ r, s.updReason c.ctrl = some r → UpdateRefused s t tag c q x cq cid r 0) ∧
    (s.updReason c.ctrl = none → s.ts.staging = none → Served s t tag q x cq cid sequenceError c.out) ∧
    (∀ g, s.updReason c.ctrl = none → s.ts.staging = some g → coveredTo g.covered g.covered.length 0 < g.len → UpdateRefused s t tag c q x cq cid 8 0) ∧
    (∀ g, s.updReason c.ctrl = none → s.ts.staging = some g → g.len ≤ coveredTo g.covered g.covered.length 0 →
      (∀ f, imageFail g.bytes (some g.len) s.ts = some f → f.check ≠ 12 → UpdateRefused s t tag c q x cq cid (if f.check = 9 then 7 else 9) f.dw1) ∧
      (∀ f, imageFail g.bytes (some g.len) s.ts = some f → f.check = 12 → Answered t tag q x cq cid { stat 7 0xC9 with dw1 := f.dw1 } c.out ∧
        t.ts.staging = some g ∧ t.ts.image = s.ts.image ∧ t.ts.writing = s.ts.writing) ∧
      (imageFail g.bytes (some g.len) s.ts = none → Served s t tag q x cq cid ok c.out ∧ t.ts = (s.updStart g.len g.bytes).ts.pump)) := by
  have hunlock := tsUnlocked_of_value hvalue
  have hreason {o : Option Nat} (ho : s.updReason c.ctrl = o) : (s.begins tag).updReason c.ctrl = o := ho
  have hstaging {o : Option Staging} (ho : s.ts.staging = o) : (s.begins tag).ts.staging = o := ho
  have hcheck {g : Staging} {o : Option ImgFail} (ho : imageFail g.bytes (some g.len) s.ts = o) : imageFail g.bytes (some g.len) (s.begins tag).ts = o := ho
  refine ⟨_, rfl, fun r hr => h.tsRefuses hw hop hunlock ?_, fun hnone hempty => (h.tsEnds (ts := s.ts) hw hop hunlock ?_).1, fun g hnone hg hshort => h.tsRefuses hw hop hunlock ?_,
    fun g hnone hg hfull => ⟨fun f hf hother => h.tsRefuses hw hop hunlock ?_, fun f hf hcut => ?_, fun hgood => h.tsEnds (ts := (s.updStart g.len g.bytes).ts) hw hop hunlock ?_⟩⟩
  · rw [hreason hr]
  · rw [hreason hnone, hstaging hempty]
    rfl
  · rw [hreason hnone, hstaging hg]
    exact if_pos hshort
  · rw [hreason hnone, hstaging hg]
    refine (if_neg (by omega)).trans ?_
    rw [hcheck hf]
    refine (if_neg hother).trans ?_
    by_cases hkey : f.check = 9 <;> simp [hkey]
  · refine And.imp_right (fun hrest => ?_) (h.tsLeaves (ts := s.ts) (r := { stat 7 0xC9 with dw1 := f.dw1 }) (code := 0x0303) (sev := 2) (xs := [bitField f.dw1 16 6, bitField f.dw1 8 8]) hw hop hunlock ?_)
    · obtain ⟨-, -, queue, hts⟩ := hrest
      obtain ⟨hkept, hwriting, himage, -⟩ := TsState.pump_update { s.ts with queue := queue }
      rw [hts]
      exact ⟨hkept.trans hg, himage, hwriting⟩
    · rw [hreason hnone, hstaging hg]
      refine (if_neg (by omega)).trans ?_
      rw [hcheck hf]
      exact if_pos hcut
  · rw [hreason hnone, hstaging hg]
    refine (if_neg (by omega)).trans ?_
    rw [hcheck hgood]
    rfl

theorem AtHand.tsSetKey (h : AtHand s tag c q x cq cid) (hw : c.waits true 0xC5 = true) (hop : tsOp c = 6) (hvalue : dw c.entry 13 = 0x3C5AA5C3) {data : List Byte} (hdata : 48 ≤ data.length) :
    ∃ t, exec (.tsSetKey tag data) s = .next t ∧ (s.ts.ownerLock = true → Served s t tag q x cq cid sequenceError c.out) ∧
      (s.ts.ownerLock = false → (∀ i < 4, s.ts.optionBlank (0x100 + 64 * i) 48 = false) → Served s t tag q x cq cid sequenceError c.out) ∧
      (∀ i < 4, s.ts.ownerLock = false → s.ts.optionValid = true → s.ts.optionBlank (0x100 + 64 * i) 48 = true → (∀ j < i, s.ts.optionBlank (0x100 + 64 * j) 48 = false) →
        Parked (s.withTs { s.ts with queue := s.ts.queue ++ [⟨6, .option (0x100 + 64 * i) (data.take 48)⟩] }) t tag c (optionKey (0x100 + 64 * i))) := by
  have hunlock := tsUnlocked_of_value hvalue
  have hslot {o : Option Nat} (ho : [0, 1, 2, 3].find? (fun i => s.ts.optionBlank (0x100 + 64 * i) 48) = o) :
      [0, 1, 2, 3].find? (fun i => (s.begins tag).ts.optionBlank (0x100 + 64 * i) 48) = o := ho
  refine ⟨_, rfl, fun hlock => (h.tsEnds (ts := s.ts) hw hop hunlock ?_).1, fun hopen hfull => (h.tsEnds (ts := s.ts) hw hop hunlock ?_).1,
    fun i hi hopen hvalid hblank hlower => h.tsParks hw hop hunlock ?_⟩
  · exact (if_neg (by omega)).trans (if_pos hlock)
  · refine (if_neg (by omega)).trans ((if_neg (by rw [show (s.begins tag).ts.ownerLock = false from hopen]; simp)).trans ?_)
    rw [hslot (List.find?_eq_none.mpr fun i hi => by simp [hfull i (by simp at hi; omega)])]
    rfl
  · refine (if_neg (by omega)).trans ((if_neg (by rw [show (s.begins tag).ts.ownerLock = false from hopen]; simp)).trans ?_)
    rw [hslot (find_first_of_four hi hblank hlower)]
    exact State.programOption_of_valid (s := s.begins tag) hvalid tag rfl

theorem AtHand.tsUnlock (h : AtHand s tag c q x cq cid) (hw : c.waits true 0xC5 = true) (hop : tsOp c = 8) (hvalue : dw c.entry 13 = 0x3C5AA5C3) : ∃ t, exec (.tsUnlock tag) s = .next t ∧
    if s.ts.mode = 2 ∧ s.ts.halterReason = 1 then Parked (s.writeRec .optionLog (.optLock false)) t tag c lockKey else Served s t tag q x cq cid sequenceError c.out := by
  have hunlock := tsUnlocked_of_value hvalue
  refine ⟨_, rfl, ?_⟩
  split
  · next hstrap => exact h.tsParks hw hop hunlock (if_pos hstrap)
  · next hstrap => exact (h.tsEnds (ts := s.ts) hw hop hunlock (if_neg hstrap)).1

theorem AtHand.tsEraseImage (h : AtHand s tag c q x cq cid) (hw : c.waits true 0xC5 = true) (hop : tsOp c = 9) (hvalue : dw c.entry 13 = 0x3C5AA5C3) : ∃ t, exec (.tsEraseImage tag) s = .next t ∧
    (s.ts.ownerLock = true → ¬ (s.ts.mode = 2 ∧ s.ts.halterReason = 1) → Served s t tag q x cq cid sequenceError c.out) ∧
    (s.ts.ownerLock = false ∨ (s.ts.mode = 2 ∧ s.ts.halterReason = 1) → (s.ts.usedSectors = [] → Served s t tag q x cq cid ok c.out) ∧
      (s.ts.usedSectors ≠ [] → Parked (s.withTs { s.ts with queue := s.ts.queue ++ s.ts.usedSectors.map (fun n => ⟨7, .erase n 0⟩), erasing := true, written := true }) t tag c eraseKey)) := by
  have hunlock := tsUnlocked_of_value hvalue
  refine ⟨_, rfl, fun hlock hhalter => (h.tsEnds (ts := s.ts) hw hop hunlock (if_pos ?locked)).1, fun hopen => ?_⟩
  case locked =>
    refine ⟨hlock, ?_⟩
    have hhalter : ¬ ((s.begins tag).ts.mode = 2 ∧ (s.begins tag).ts.halterReason = 1) := hhalter
    simpa [not_and_or, imp_iff_not_or] using hhalter
  · have hfree : ¬ ((s.begins tag).ts.ownerLock = true ∧ (!(decide ((s.begins tag).ts.mode = 2) && decide ((s.begins tag).ts.halterReason = 1))) = true) := by
      rintro ⟨hlock, hhalter⟩
      obtain h' | ⟨hmode, hreason⟩ := hopen
      · exact absurd (hlock.symm.trans h') (by simp)
      · rw [show (s.begins tag).ts.mode = 2 from hmode, show (s.begins tag).ts.halterReason = 1 from hreason] at hhalter
        simp at hhalter
    refine ⟨fun hblank => (h.tsEnds (ts := s.ts) hw hop hunlock ((if_neg hfree).trans ?_)).1, fun hused => h.tsParks hw hop hunlock ((if_neg hfree).trans ?_)⟩
    · exact if_pos hblank
    · exact if_neg hused

theorem AtHand.tsSetId (h : AtHand s tag c q x cq cid) (hw : c.waits true 0xC5 = true) (hop : tsOp c = 10) (hvalue : dw c.entry 13 = 0x3C5AA5C3) {data : List Byte} (hdata : 72 ≤ data.length) :
    ∃ t, exec (.tsSetId tag data) s = .next t ∧ (s.ts.optionBlank 0x10 32 = false → s.ts.optionBlank 0x30 48 = false → Served s t tag q x cq cid ok c.out) ∧
      (s.ts.optionBlank 0x10 32 = true → s.ts.optionBlank 0x30 48 = true → s.ts.optionValid = true → Parked (s.withTs { s.ts with queue := s.ts.queue ++
        [⟨6, .option 0x10 (data.take 20 ++ List.replicate 12 0#8)⟩, ⟨6, .option 0x30 (sliceBytes data 32 40 ++ List.replicate 8 0#8)⟩] }) t tag c (optionKey 0x30)) := by
  have hunlock := tsUnlocked_of_value hvalue
  have hblank {off len : Nat} {b : Bool} (hb : s.ts.optionBlank off len = b) : (s.begins tag).ts.optionBlank off len = b := hb
  refine ⟨_, rfl, fun hsn hmn => (h.tsEnds (ts := s.ts) hw hop hunlock ?_).1, fun hsn hmn hvalid => h.tsParks hw hop hunlock ?_⟩
  · refine (if_neg (by omega)).trans ?_
    simp only [hblank hsn, hblank hmn]
    rfl
  · refine (if_neg (by omega)).trans ?_
    simp only [hblank hsn, hblank hmn]
    exact State.programOption_of_valid (s := s.begins tag) hvalid tag rfl

theorem AtHand.tsRefresh (h : AtHand s tag c q x cq cid) (hw : c.waits true 0xC5 = true) (hop : tsOp c = 11) (hvalue : dw c.entry 13 = 0x3C5AA5C3) : ∃ t, exec (.tsRefresh tag) s = .next t ∧
    (s.ts.mode ≠ 0 ∨ s.ts.written = true → Served s t tag q x cq cid sequenceError c.out) ∧
    (s.ts.mode = 0 → s.ts.written = false → (∀ r, s.updReason c.ctrl = some r → UpdateRefused s t tag c q x cq cid r 0) ∧
      (s.updReason c.ctrl = none → Served s t tag q x cq cid ok c.out ∧ t.ts = (s.updStart s.ts.shadowLen s.ts.shadow).ts.pump)) := by
  have hunlock := tsUnlocked_of_value hvalue
  refine ⟨_, rfl, fun hbad => (h.tsEnds (ts := s.ts) hw hop hunlock (if_pos hbad)).1, fun hmode hwritten => ?_⟩
  have hgood : ¬ ((s.begins tag).ts.mode ≠ 0 ∨ (s.begins tag).ts.written = true) := by
    rw [show (s.begins tag).ts.mode = 0 from hmode, show (s.begins tag).ts.written = false from hwritten]
    simp
  refine ⟨fun r hr => h.tsRefuses hw hop hunlock ((if_neg hgood).trans ?_), fun hnone => h.tsEnds (ts := (s.updStart s.ts.shadowLen s.ts.shadow).ts) hw hop hunlock ((if_neg hgood).trans ?_)⟩
  · rw [show (s.begins tag).updReason c.ctrl = some r from hr]
  · rw [show (s.begins tag).updReason c.ctrl = none from hnone]
    rfl

end AtHand

/-- Settles O53: each operation through its own lemma, and the missing unlock value once for all of them. -/
theorem treeStoreProgramsAndUpdates : Obligations.TreeStoreProgramsAndUpdates := by
  unfold Obligations.TreeStoreProgramsAndUpdates
  intro s tag c q x cq cid h hw
  refine ⟨fun hop hvalue => ?_, fun hop hvalue data hdata => h.tsSetKey hw hop hvalue hdata, fun hop hvalue => ⟨_, rfl, h.tsParks hw hop (tsUnlocked_of_value hvalue) rfl⟩,
    fun hop hvalue => h.tsUnlock hw hop hvalue, fun hop hvalue => h.tsEraseImage hw hop hvalue, fun hop hvalue data hdata => h.tsSetId hw hop hvalue hdata, fun hop hvalue => h.tsRefresh hw hop hvalue,
    fun hvalue i data hi => ?_⟩
  · obtain ⟨t, hexec, hrefused, hempty, hshort, hwhole⟩ := h.tsUpdCommit hw hop hvalue
    refine ⟨t, hexec, hrefused, hempty, hshort, fun g hnone hg hfull => ?_⟩
    obtain ⟨hfails, hcut, hgood⟩ := hwhole g hnone hg hfull
    refine ⟨hfails, hcut, fun hpass => (hgood hpass).imp_right fun hts => ?_⟩
    obtain ⟨hstaging, hwriting, -, hstate, -, hdone, -⟩ := (s.updStart g.len g.bytes).ts.pump_update
    rw [hts]
    exact ⟨hstaging, hstate, hdone, hwriting, rfl⟩
  · have hlocked : (true && !tsUnlocked c) = true := by simp [tsUnlocked, hvalue]
    obtain ⟨rfl, hop⟩ | ⟨rfl, hop⟩ | ⟨rfl, hop⟩ | ⟨rfl, hop⟩ | ⟨rfl, hop⟩ | ⟨rfl, hop⟩ | ⟨rfl, hop⟩ := hi <;> exact ⟨_, rfl, h.tsLocked hw hop hlocked⟩

end Sys2Proof.Machine
end

section
/-! Start-up (O4): what the steps of the boot order leave of the tree store's registers, the image and the channels (R418 to R420). -/
namespace Sys2Proof.Machine

/-! ### The registers of the boot order -/

/-- The tree store's registers that start-up moves: mode, reason for halter mode, the shadow's length, whether programs are accepted, and the step. -/
def State.bootRow (s : State) : Nat × Nat × Nat × Bool × Nat := (s.ts.mode, s.ts.halterReason, s.ts.shadowLen, s.ts.accept, s.ts.bootStep)

theorem State.bootRow_of_ts {s v : State} (h : v.ts = s.ts) : v.bootRow = s.bootRow := by rw [State.bootRow, h]; rfl

theorem State.arrayPump_bootRow (s : State) : s.arrayPump.bootRow = s.bootRow := by
  unfold State.arrayPump TsState.pump
  (repeat' split) <;> rfl

theorem State.leave_bootRow (s : State) (code sev : Nat) (xs : List Nat) : (s.leave code sev xs).bootRow = s.bootRow := by
  obtain ⟨queue, h⟩ := s.leave_ts code sev xs
  rw [State.bootRow, h]
  rfl

theorem State.dropJob_ts (s : State) (t : Nat) : (s.dropJob t).ts = s.ts := by
  have hslot : (s.jobLeavesSlot t).ts = s.ts := by
    unfold State.jobLeavesSlot
    split <;> rfl
  unfold State.dropJob
  dsimp only
  split <;> exact hslot

theorem State.endFenced_bootRow (s : State) (r : Rein) : (s.endFenced r).bootRow = s.bootRow := by
  refine fold_left State.bootRow _ (fun v row => ?_) _ _
  dsimp only
  split
  · exact (State.bootRow_of_ts (State.finishCode_ts _ _ _ _)).trans (fold_left State.bootRow _ (fun v t => State.bootRow_of_ts (v.dropJob_ts t)) _ _)
  · rfl

theorem State.setFence_bootRow (s : State) (r : Rein) (cause : Nat) (on : Bool) : (s.setFence r cause on).bootRow = s.bootRow := by
  unfold State.setFence
  have hport (f : ReinPort → ReinPort) : (s.modPort r f).bootRow = s.bootRow := rfl
  refine Eq.trans ?_ (hport fun p => if cause = 0 then { p with fencedKeeper := on } else { p with fencedLease := on })
  generalize (s.modPort r fun p => if cause = 0 then { p with fencedKeeper := on } else { p with fencedLease := on }) = v
  dsimp only
  split
  · exact (State.endFenced_bootRow _ _).trans (State.leave_bootRow _ _ _ _)
  · split
    · exact State.leave_bootRow _ _ _ _
    · rfl

theorem State.leaseFence_bootRow (s : State) (r : Rein) : (s.leaseFence r).bootRow = s.bootRow := by
  unfold State.leaseFence
  dsimp only
  split
  · rfl
  · exact s.setFence_bootRow _ _ _

theorem State.keeperFence_bootRow (s : State) (r : Rein) : (s.keeperFence r).bootRow = s.bootRow := by
  unfold State.keeperFence
  split
  · exact s.setFence_bootRow _ _ _
  · rfl

theorem State.startWheel_bootRow (s : State) (c : WheelCfg) : (s.startWheel c).bootRow = s.bootRow := rfl

/-- The features' values are loaded without a move of the boot order. -/
theorem State.loadFeatures_bootRow (s : State) (defaults : Option Nat) (savedWheel : Bool) : (s.loadFeatures defaults savedWheel).bootRow = s.bootRow := by
  obtain ⟨v, wheel, hts, hload⟩ : ∃ (v : State) (wheel : WheelCfg), v.ts = s.ts ∧
      s.loadFeatures defaults savedWheel = ((((v.startWheel wheel).leaseFence .a).leaseFence .b).keeperFence .a).keeperFence .b := by
    refine ⟨_, _, ?_, rfl⟩
    rfl
  rw [hload, State.keeperFence_bootRow, State.keeperFence_bootRow, State.leaseFence_bootRow, State.leaseFence_bootRow, State.startWheel_bootRow]
  exact State.bootRow_of_ts hts

theorem State.reserveWt_bootRow (s : State) : s.reserveWt.bootRow = s.bootRow := rfl

/-- Step 3 ends: programs and erases are accepted, and step 4 runs. -/
theorem State.endShadow_bootRow (s : State) : s.endShadow.bootRow = (s.ts.mode, s.ts.halterReason, s.ts.shadowLen, true, 4) := by
  obtain ⟨v, half, hv, hend⟩ : ∃ (v : State) (half : List Nat), v.bootRow = (s.ts.mode, s.ts.halterReason, s.ts.shadowLen, true, 4) ∧
      s.endShadow = (half.foldl (fun s x => s.leave 0x1101 0 [x]) v).reserveWt := by
    refine ⟨_, _, ?_, rfl⟩
    rfl
  rw [hend, State.reserveWt_bootRow]
  exact (fold_left State.bootRow _ (fun v x => v.leave_bootRow _ _ _) half v).trans hv

/-- Halter mode is entered: its mode and reason stand, and the image's revision names it. -/
theorem State.enterHalter_enters (s : State) (reason : Nat) : (s.enterHalter reason).bootRow = (2, reason, s.ts.shadowLen, s.ts.accept, s.ts.bootStep) ∧
    (s.enterHalter reason).img = { s.img with fr := asciiPadded "HALTER" 8 } := by
  unfold State.enterHalter
  exact ⟨State.leave_bootRow _ _ _ _, by simp⟩

/-! ### Step 3 -/

/-- What step 3 chose holds after the features are loaded and shadowing ends. -/
theorem State.shadowed_bootRow {s : State} {row : Nat × Nat × Nat × Bool × Nat} (h : s.bootRow = row) (defaults : Option Nat) (savedWheel : Bool) :
    ((s.loadFeatures defaults savedWheel).endShadow).arrayPump.bootRow = (row.1, row.2.1, row.2.2.1, true, 4) := by
  obtain rfl := h
  rw [State.arrayPump_bootRow, State.endShadow_bootRow]
  exact congrArg (fun row : Nat × Nat × Nat × Bool × Nat => (row.1, row.2.1, row.2.2.1, true, 4)) (s.loadFeatures_bootRow defaults savedWheel)

theorem State.shadowed_img (s : State) (defaults : Option Nat) (savedWheel : Bool) : ((s.loadFeatures defaults savedWheel).endShadow).arrayPump.img = s.img := by simp

theorem State.bootImage_of_halter {s : State} {f : BootFound} {r : Nat} {x : Option ImgFail} (h : s.imageChoice f.imageUnreadable = .halter r x) :
    (s.bootImage f).arrayPump.bootRow = (2, r, s.ts.shadowLen, true, 4) ∧ (s.bootImage f).arrayPump.img.fr = asciiPadded "HALTER" 8 := by
  obtain ⟨v, hv, hboot⟩ : ∃ v : State, v.bootRow = s.bootRow ∧ s.bootImage f = ((v.enterHalter r).loadFeatures none true).endShadow := by
    unfold State.bootImage
    rw [h]
    cases x with
    | none => exact ⟨s, rfl, rfl⟩
    | some fail =>
      dsimp only
      split
      · exact ⟨_, s.leave_bootRow _ _ _, rfl⟩
      · exact ⟨s, rfl, rfl⟩
  have hlen : v.ts.shadowLen = s.ts.shadowLen := congrArg (fun row => row.2.2.1) hv
  obtain ⟨hrow, himg⟩ := v.enterHalter_enters r
  rw [hboot]
  refine ⟨(State.shadowed_bootRow hrow none true).trans (by rw [hlen]), ?_⟩
  rw [State.shadowed_img, himg]

theorem State.bootImage_of_bareback {s : State} {f : BootFound} (h : s.imageChoice f.imageUnreadable = .bareback) :
    (s.bootImage f).arrayPump.bootRow = (1, s.ts.halterReason, s.ts.shadowLen, true, 4) ∧ (s.bootImage f).arrayPump.img = s.img := by
  unfold State.bootImage
  rw [h]
  exact ⟨State.shadowed_bootRow (State.leave_bootRow _ _ _ _) none true, (State.shadowed_img _ _ _).trans (by simp)⟩

theorem State.bootImage_of_image {s : State} {f : BootFound} (h : s.imageChoice f.imageUnreadable = .image) :
    (s.bootImage f).arrayPump.bootRow = (0, s.ts.halterReason, imgLen s.ts.image, true, 4) ∧ (s.bootImage f).arrayPump.img = imgTables s.ts.image := by
  obtain ⟨v, defaults, saved, hrow, himg, hboot⟩ : ∃ (v : State) (defaults : Option Nat) (saved : Bool),
      v.bootRow = (0, s.ts.halterReason, imgLen s.ts.image, s.ts.accept, s.ts.bootStep) ∧ v.img = imgTables s.ts.image ∧ s.bootImage f = (v.loadFeatures defaults saved).endShadow := by
    unfold State.bootImage State.takeImage
    rw [h]
    dsimp only
    split
    · exact ⟨_, _, _, State.leave_bootRow _ _ _ _, by simp, rfl⟩
    · exact ⟨_, _, _, rfl, rfl, rfl⟩
  rw [hboot]
  exact ⟨State.shadowed_bootRow hrow defaults saved, (State.shadowed_img _ _ _).trans himg⟩

theorem State.imageChoice_of_image {s : State} {u : Bool} (h : s.imageChoice u = .image) :
    u = false ∧ imageFail s.ts.image none s.ts = none ∧ ∀ k < 768, s.ts.halfErasedSector (8 + k) = false := by
  unfold State.imageChoice at h
  split at h; · cases h
  split at h; · cases h
  split at h; · cases h
  split at h; · cases h
  next hwhole =>
  split at h; · cases h
  next hreadable =>
  split at h
  · next hfail =>
    refine ⟨by simpa using hreadable, hfail, fun k hk => ?_⟩
    simpa using fun hhalf => hwhole (List.any_eq_true.mpr ⟨k, List.mem_range.mpr hk, hhalf⟩)
  · cases h

theorem State.imageChoice_of_strap {s : State} (h : s.pkg.straps.halterN = false) (u : Bool) : s.imageChoice u = .halter 1 none := by
  unfold State.imageChoice
  rw [h]
  rfl

theorem State.imageChoice_of_cut {s : State} (h : s.pkg.straps.halterN = true) (hcut : s.ts.updateCut = true) (u : Bool) : s.imageChoice u = .halter 2 none := by
  unfold State.imageChoice
  rw [h, hcut]
  rfl

theorem State.imageChoice_of_blank {s : State} (h : s.pkg.straps.halterN = true) (hcut : s.ts.updateCut = false) (hblank : 8 ∉ s.ts.imageUsed) (hhalf : s.ts.halfErasedSector 8 = false) (u : Bool) :
    s.imageChoice u = .bareback := by
  unfold State.imageChoice
  simp [h, hcut, hblank, hhalf]

/-! ### Step 5 -/

theorem State.trainBest_of_img {s v : State} (h : v.img = s.img) (f : BootFound) : v.trainBest f = s.trainBest f := by
  unfold State.trainBest State.trainRates State.trainFailing State.trainLoads
  rw [h]

theorem State.trainValues_of_img {s v : State} (h : v.img = s.img) (f : BootFound) : v.trainValues f = s.trainValues f := by
  unfold State.trainValues State.trainRates State.trainLoads
  rw [h]

/-- The effective RATE_MAX is a rate of the part at which, and below which, every channel trains (R353). -/
theorem State.trainBest_trains {s : State} {f : BootFound} {r : Nat} (h : s.trainBest f = some r) : r ∈ s.trainRates ∧ ∀ x ∈ s.trainRates, r ≤ x → s.trainFailing f x = [] := by
  refine ⟨List.mem_of_find?_eq_some h, fun x hx hle => ?_⟩
  have hall := List.find?_some h
  simp only [List.all_eq_true, Bool.or_eq_true, decide_eq_true_eq] at hall
  exact (hall x hx).resolve_left (by omega)

/-- The memory of a part: the size of R339 and the pool that follows from it. -/
def State.dramFound (u : State) (f : BootFound) : State :=
  let gib := 8 * f.dramGiB.foldl min ((f.dramGiB.head?).getD 0)
  let lanes := u.ts.lanes
  let rankOf (k : Nat) : Rank := { retired := (lanes.find? fun (c, r, _) => 2 * c + r = k).map fun (_, _, l) => l }
  let s := u.seedDram
  let s : State := { s with
    dram := { s.dram with gib := gib, ranksPer := f.dramRanks, ranks := (List.range 16).map fun k => (k, rankOf k) }
    mc := { s.mc with banks := (List.range 32).map fun b => (b, { en := s.img.cacheEn }) }
    map := { s.map with poolSize := min Config.maxSegments ((gib - 32) * 256) } }
  if f.dramGiB.any fun g => g ≠ f.dramGiB.foldl min ((f.dramGiB.head?).getD 0) then s.leave 0x0E07 2 [gib] else s

/-- The end of step 5 where the memory trains, by its size. -/
def State.dramEnds (s : State) (gib : Nat) : State := if gib < 64 then s.enterHalterLate 7 else { s with ts := { s.ts with bootStep := 6 } }

theorem State.enterHalterLate_admits (s : State) (reason : Nat) : (s.enterHalterLate reason).fe.admits = true := rfl

theorem State.dramEnds_spec (s : State) (gib : Nat) : (s.dramEnds gib).dram = s.dram ∧
    (gib < 64 → (s.dramEnds gib).ts.bootStep = 9 ∧ (s.dramEnds gib).ts.mode = 2 ∧ (s.dramEnds gib).ts.halterReason = 7 ∧ (s.dramEnds gib).fe.admits = true) ∧
    (64 ≤ gib → (s.dramEnds gib).ts.bootStep = 6 ∧ (s.dramEnds gib).ts.mode = s.ts.mode) := by
  unfold State.dramEnds
  split
  · next hsmall =>
    obtain ⟨hmode, hreason, hstep, -⟩ := s.enterHalterLate_halts 7
    exact ⟨by simp, fun _ => ⟨hstep, hmode, hreason, State.enterHalterLate_admits _ _⟩, fun h => absurd hsmall (by omega)⟩
  · next hfits => exact ⟨rfl, fun h => absurd h hfits, fun _ => ⟨rfl, rfl⟩⟩

/-- The end of step 5 by what trained. -/
def State.dramTrained (s : State) (f : BootFound) (gib : Nat) (best : Option Nat) : State :=
  match best with
  | none => (s.recordEvent 0x0E09 4 [s.trainLost f]).enterHalterLate 8
  | some best =>
    let s := if s.trainRates.head? ≠ some best then s.leave 0x0E08 2 [best] else s
    let s : State := { s with dram := { s.dram with train := s.trainValues f, rateMaxEff := best, rate := max best (s.img.psDramRate s.fe.ps) } }
    s.dramEnds gib

/-- The state in which step 5 judges: with the ROM's DRAM table where the image has none (R353). -/
def State.dramJudged (s : State) (f : BootFound) : State := if s.hasSection 0x0D then s else { s with img := { s.img with dram := barebackDram f.rfm f.rowBits } }

theorem ImgState.psDramRate_dram (i : ImgState) (x n : Nat) : ({ i with dram := x } : ImgState).psDramRate n = i.psDramRate n := rfl

theorem State.dramJudged_spec (s : State) (f : BootFound) : (s.dramJudged f).fe = s.fe ∧ (s.dramJudged f).ts = s.ts ∧ ∀ n, (s.dramJudged f).img.psDramRate n = s.img.psDramRate n := by
  unfold State.dramJudged
  split
  · exact ⟨rfl, rfl, fun _ => rfl⟩
  · exact ⟨rfl, rfl, fun n => s.img.psDramRate_dram _ n⟩

theorem State.bootDram_eq (s : State) (f : BootFound) : s.bootDram f =
    ((s.dramJudged f).dramFound f).dramTrained f (8 * f.dramGiB.foldl min ((f.dramGiB.head?).getD 0)) (((s.dramJudged f).dramFound f).trainBest f) := rfl

theorem State.dramFound_spec (u : State) (f : BootFound) : (u.dramFound f).img = u.img ∧ (u.dramFound f).fe = u.fe ∧ (u.dramFound f).ts.mode = u.ts.mode ∧
    (u.dramFound f).dram.gib = 8 * f.dramGiB.foldl min ((f.dramGiB.head?).getD 0) := by
  unfold State.dramFound
  dsimp only
  split
  · exact ⟨by simp [State.seedDram], by simp [State.seedDram], congrArg Prod.fst (State.leave_bootRow _ _ _ _), by simp⟩
  · exact ⟨rfl, rfl, rfl, rfl⟩

theorem State.dramTrained_of_none (s : State) (f : BootFound) (gib : Nat) : (s.dramTrained f gib none).dram = s.dram ∧ (s.dramTrained f gib none).ts.bootStep = 9 ∧ (s.dramTrained f gib none).ts.mode = 2 ∧
    (s.dramTrained f gib none).ts.halterReason = 8 ∧ (s.dramTrained f gib none).fe.admits = true := by
  unfold State.dramTrained
  dsimp only
  obtain ⟨hmode, hreason, hstep, -⟩ := (s.recordEvent 0x0E09 4 [s.trainLost f]).enterHalterLate_halts 8
  exact ⟨by simp, hstep, hmode, hreason, State.enterHalterLate_admits _ _⟩

theorem State.dramTrained_of_some (s : State) (f : BootFound) (gib r : Nat) :
    (s.dramTrained f gib (some r)).dram = { s.dram with train := s.trainValues f, rateMaxEff := r, rate := max r (s.img.psDramRate s.fe.ps) } ∧
    (gib < 64 → (s.dramTrained f gib (some r)).ts.bootStep = 9 ∧ (s.dramTrained f gib (some r)).ts.mode = 2 ∧ (s.dramTrained f gib (some r)).ts.halterReason = 7 ∧
      (s.dramTrained f gib (some r)).fe.admits = true) ∧
    (64 ≤ gib → (s.dramTrained f gib (some r)).ts.bootStep = 6 ∧ (s.dramTrained f gib (some r)).ts.mode = s.ts.mode) := by
  obtain ⟨v, hv, hdram, himg, hfe, hmode⟩ : ∃ v : State, s.dramTrained f gib (some r) =
      State.dramEnds { v with dram := { v.dram with train := v.trainValues f, rateMaxEff := r, rate := max r (v.img.psDramRate v.fe.ps) } } gib ∧
      v.dram = s.dram ∧ v.img = s.img ∧ v.fe = s.fe ∧ v.ts.mode = s.ts.mode := by
    refine ⟨if s.trainRates.head? ≠ some r then s.leave 0x0E08 2 [r] else s, rfl, ?_⟩
    split
    · exact ⟨by simp, by simp, by simp, congrArg Prod.fst (s.leave_bootRow _ _ _)⟩
    · exact ⟨rfl, rfl, rfl, rfl⟩
  obtain ⟨hends, hsmall, hfits⟩ := State.dramEnds_spec { v with dram := { v.dram with train := v.trainValues f, rateMaxEff := r, rate := max r (v.img.psDramRate v.fe.ps) } } gib
  rw [hv]
  refine ⟨hends.trans ?_, hsmall, fun h => ⟨(hfits h).1, (hfits h).2.trans hmode⟩⟩
  rw [State.trainValues_of_img himg, hdram, himg, hfe]

/-! ### Step 6 -/

/-- A channel begins step 1 of R81 at GEOM.RATE. -/
def State.startChan (s : State) (c : Nat) : State := s.setChan c { rate := s.img.geomRate, ceiling := s.img.geomRate, step := 1 }

theorem startChans_chan {l : List Nat} {c : Nat} (hc : c ∈ l) (s : State) : ((l.foldl State.startChan s).chan c).step = 1 ∧ ((l.foldl State.startChan s).chan c).rate = s.img.geomRate := by
  induction l using List.reverseRecOn with
  | nil => cases hc
  | append_singleton l d ih =>
    rw [List.foldl_append, List.foldl_cons, List.foldl_nil]
    by_cases hcd : c = d
    · subst hcd
      have himg : (l.foldl State.startChan s).img = s.img := fold_left (fun s => s.img) State.startChan (fun _ _ => rfl) l s
      rw [State.startChan, State.setChan_chan, himg]
      exact ⟨rfl, rfl⟩
    · rw [State.startChan, State.setChan_chan_ne _ _ _ _ hcd]
      exact ih (by simpa [hcd] using hc)

theorem State.startChannels_chan (s : State) {c : Nat} (hc : c < 32) : (s.startChannels.chan c).step = 1 ∧ (s.startChannels.chan c).rate = s.img.geomRate :=
  startChans_chan (List.mem_range.mpr hc) s

/-- Step 6 as one state: plans, keys, labels and engines are loaded, and the dies and channels start. -/
def State.enginesUp (s : State) (f : BootFound) : State := ((((s.loadPlans).bootKeys f.unreadableSlots).bootLabels).bootEngines f).startDies

theorem State.enginesUp_spec (s : State) (f : BootFound) : (s.enginesUp f).plan = s.loadPlans.plan ∧ (s.enginesUp f).img.geomRate = s.img.geomRate := by
  unfold State.enginesUp
  have himg : s.loadPlans.img.geomRate = s.img.geomRate := rfl
  refine ⟨by simp, Eq.trans ?_ himg⟩
  simp

/-- The boot order goes on to a step. -/
def State.stepTo (s : State) (k : Nat) : State := { s with ts := { s.ts with bootStep := k } }

theorem State.stepTo_spec (s : State) (k : Nat) : (s.stepTo k).arrayPump.ts.bootStep = k ∧ (s.stepTo k).arrayPump.plan = s.plan ∧ ∀ c, (s.stepTo k).arrayPump.chan c = s.chan c :=
  ⟨TsState.pump_bootStep _, rfl, fun _ => rfl⟩

/-! ### Step 7 -/

theorem State.bootChannels_ends (s : State) (f : BootFound) : (s.bootChannels f).arrayPump.ts.bootStep = 8 ∧ (s.bootChannels f).arrayPump.dump.step = 1 :=
  ⟨TsState.pump_bootStep _, rfl⟩

/-! ### POWER_ON_RESET -/

theorem State.resumedWt_reserved {s : State} {x : Nat} (h : s.ts.wtTop = some x) : x ≤ s.resumedWt ∧ s.wheel.dumpedWt < s.resumedWt := by
  unfold State.resumedWt
  rw [h, if_neg (by simp)]
  simp only [Option.getD_some]
  omega

/-- Step 1 of the boot order: what POWER_ON_RESET takes from the balls. -/
def State.poweredOn (s : State) (p : Straps) : State :=
  { s with
    ts := { s.ts with bootStep := 1 }
    pkg := { s.pkg with straps := p, identRec := identRec, fusesRead := true, vddIo := true }
    rein := { s.rein with
      a := { s.rein.a with keeperTiming := some s.pkg.keeperA }
      b := { s.rein.b with keeperTiming := some s.pkg.keeperB }
      twin := { s.rein.twin with merged := p.linkMerge } } }

theorem execPowerOnReset_off {s : State} (h : s.ts.bootStep = 0) (p : Straps) : exec (.powerOnReset p) s = .next (s.poweredOn p) := by
  show execPowerOnReset p s = _
  simp only [execPowerOnReset, if_pos h, State.poweredOn]

theorem execPowerOnReset_running {s : State} (h : s.ts.bootStep ≠ 0) (p : Straps) : exec (.powerOnReset p) s = .next ((s.powerOnReset true).poweredOn p) := by
  show execPowerOnReset p s = _
  simp only [execPowerOnReset, if_neg h, State.poweredOn]

/-! ### The statement -/

section Steps
variable (s : State) (f : BootFound)

theorem execBootStepDone_one (h : s.ts.bootStep = 1) : exec (.bootStepDone f) s = .next { s with ts := { s.ts with bootStep := 2 } } := by
  show execBootStepDone f s = _
  simp only [execBootStepDone, h]

theorem execBootStepDone_two (h : s.ts.bootStep = 2) : exec (.bootStepDone f) s = .next { s with ts := { s.ts with bootStep := 3 }, pkg := { s.pkg with factory := f.factory } } := by
  show execBootStepDone f s = _
  simp only [execBootStepDone, h]

theorem execBootStepDone_three (h : s.ts.bootStep = 3) : exec (.bootStepDone f) s = .next (s.bootImage f).arrayPump := by
  show execBootStepDone f s = _
  simp only [execBootStepDone, h]

theorem execBootStepDone_four (h : s.ts.bootStep = 4) : exec (.bootStepDone f) s =
    .next (if s.ts.mode = 2 then s.halterReady else { s with ts := { s.ts with bootStep := 5 } }).arrayPump := by
  show execBootStepDone f s = _
  simp only [execBootStepDone, h]

theorem execBootStepDone_five (h : s.ts.bootStep = 5) : exec (.bootStepDone f) s = .next (s.bootDram f).arrayPump := by
  show execBootStepDone f s = _
  simp only [execBootStepDone, h]

theorem execBootStepDone_six (h : s.ts.bootStep = 6) : exec (.bootStepDone f) s = .next ((s.enginesUp f).startChannels.stepTo 7).arrayPump := by
  show execBootStepDone f s = _
  simp only [execBootStepDone, h, State.enginesUp, State.stepTo]

theorem execBootStepDone_seven (h : s.ts.bootStep = 7) : exec (.bootStepDone f) s = .next (s.bootChannels f).arrayPump := by
  show execBootStepDone f s = _
  simp only [execBootStepDone, h]

theorem execBootStepDone_idle (h : s.ts.bootStep = 0 ∨ 8 ≤ s.ts.bootStep) : exec (.bootStepDone f) s = .next s := by
  show execBootStepDone f s = _
  unfold execBootStepDone
  split
  iterate 7 · omega
  · rfl

end Steps

/-- Settles O4: each step of the boot order by what it leaves of the mode, the image, the memory and the channels. -/
theorem startUpRunsTheBootOrder : Obligations.StartUpRunsTheBootOrder := by
  unfold Obligations.StartUpRunsTheBootOrder
  refine ⟨fun s p h => ?_, fun s p h => ?_, execBootStepDone_one, execBootStepDone_two, fun s f h => ?_, fun s u => ⟨fun h => State.imageChoice_of_strap h u,
    fun h hcut => State.imageChoice_of_cut h hcut u, fun h hcut hblank hhalf => State.imageChoice_of_blank h hcut hblank hhalf u, State.imageChoice_of_image⟩,
    fun s f h => ?_, fun s f r => State.trainBest_trains, fun s f u h hu => ?_, fun s f h => ?_, fun s f h => ⟨_, execBootStepDone_seven s f h, s.bootChannels_ends f⟩, execBootStepDone_idle⟩
  · exact execPowerOnReset_off h p
  · exact ⟨_, execPowerOnReset_running h p, rfl, rfl, rfl, rfl, rfl, rfl, rfl, fun x hx => State.resumedWt_reserved hx⟩
  · refine ⟨_, execBootStepDone_three s f h, ?_⟩
    cases hchoice : s.imageChoice f.imageUnreadable with
    | halter r x =>
      obtain ⟨hrow, hfr⟩ := State.bootImage_of_halter hchoice
      simp only [State.bootRow, Prod.mk.injEq] at hrow
      obtain ⟨hmode, hreason, -, haccept, hstep⟩ := hrow
      exact ⟨hstep, haccept, fun r' x' e => by cases e; exact ⟨hmode, hreason, hfr⟩, fun e => (by cases e), fun e => (by cases e)⟩
    | bareback =>
      obtain ⟨hrow, himg⟩ := State.bootImage_of_bareback hchoice
      simp only [State.bootRow, Prod.mk.injEq] at hrow
      obtain ⟨hmode, -, -, haccept, hstep⟩ := hrow
      exact ⟨hstep, haccept, fun r' x' e => (by cases e), fun _ => ⟨hmode, himg⟩, fun e => (by cases e)⟩
    | image =>
      obtain ⟨hrow, himg⟩ := State.bootImage_of_image hchoice
      simp only [State.bootRow, Prod.mk.injEq] at hrow
      obtain ⟨hmode, -, hlen, haccept, hstep⟩ := hrow
      exact ⟨hstep, haccept, fun r' x' e => (by cases e), fun e => (by cases e), fun _ => ⟨hmode, himg, hlen⟩⟩
  · refine ⟨_, execBootStepDone_four s f h, ?_⟩
    split
    · next hmode => exact ⟨by simp [SameFrame], by simp [SameData], fun _ => ⟨TsState.pump_bootStep _, rfl⟩, fun hne => absurd hmode hne⟩
    · next hmode => exact ⟨by simp [SameFrame], by simp [SameData], fun heq => absurd heq hmode, fun _ => ⟨TsState.pump_bootStep _, rfl⟩⟩
  · obtain rfl : u = s.dramJudged f := hu
    obtain ⟨himg, hfe, hmode, hgib⟩ := (s.dramJudged f).dramFound_spec f
    obtain ⟨hfe', hts, hps⟩ := s.dramJudged_spec f
    refine ⟨_, execBootStepDone_five s f h, ?_⟩
    rw [State.bootDram_eq, State.trainBest_of_img himg f]
    cases hbest : (s.dramJudged f).trainBest f with
    | none =>
      obtain ⟨hdram, hstep, hmode', hreason, hadmits⟩ := ((s.dramJudged f).dramFound f).dramTrained_of_none f (8 * f.dramGiB.foldl min ((f.dramGiB.head?).getD 0))
      have hpumped := State.arrayPump_bootRow (((s.dramJudged f).dramFound f).dramTrained f (8 * f.dramGiB.foldl min ((f.dramGiB.head?).getD 0)) none)
      simp only [State.bootRow, Prod.mk.injEq] at hpumped
      obtain ⟨hkeptMode, hkeptReason, -, -, hkeptStep⟩ := hpumped
      exact ⟨(congrArg DramState.gib hdram).trans hgib, fun _ => ⟨hkeptStep.trans hstep, hkeptMode.trans hmode', hkeptReason.trans hreason, hadmits⟩, fun r e => (by cases e), fun e => (by cases e), fun e => (by cases e)⟩
    | some r =>
      obtain ⟨hdram, hsmall, hfits⟩ := ((s.dramJudged f).dramFound f).dramTrained_of_some f (8 * f.dramGiB.foldl min ((f.dramGiB.head?).getD 0)) r
      have hpumped := State.arrayPump_bootRow (((s.dramJudged f).dramFound f).dramTrained f (8 * f.dramGiB.foldl min ((f.dramGiB.head?).getD 0)) (some r))
      simp only [State.bootRow, Prod.mk.injEq] at hpumped
      obtain ⟨hkeptMode, hkeptReason, -, -, hkeptStep⟩ := hpumped
      have hsize := (congrArg DramState.gib hdram).trans hgib
      refine ⟨hsize, fun e => (by cases e), fun r' e => ?_, fun _ hlow => ?_, fun _ hhigh => ?_⟩
      · obtain rfl : r = r' := by injection e
        refine ⟨congrArg DramState.rateMaxEff hdram, (congrArg DramState.rate hdram).trans ?_, (congrArg DramState.train hdram).trans (State.trainValues_of_img himg f)⟩
        show max r (((s.dramJudged f).dramFound f).img.psDramRate ((s.dramJudged f).dramFound f).fe.ps) = _
        rw [himg, hfe, hfe', hps]
      · obtain ⟨hstep, hmode', hreason, hadmits⟩ := hsmall (hsize ▸ hlow)
        exact ⟨hkeptStep.trans hstep, hkeptMode.trans hmode', hkeptReason.trans hreason, hadmits⟩
      · obtain ⟨hstep, hmode'⟩ := hfits (hsize ▸ hhigh)
        exact ⟨hkeptStep.trans hstep, hkeptMode.trans (hmode'.trans (hmode.trans (congrArg TsState.mode hts)))⟩
  · obtain ⟨hplan, hrate⟩ := s.enginesUp_spec f
    obtain ⟨hstep, hplan', hchan⟩ := (s.enginesUp f).startChannels.stepTo_spec 7
    have hplans : ((s.enginesUp f).startChannels.stepTo 7).arrayPump.plan = s.loadPlans.plan := hplan'.trans ((by simp : _ = (s.enginesUp f).plan).trans hplan)
    refine ⟨_, execBootStepDone_six s f h, hstep, by rw [hplans]; rfl, by rw [hplans]; rfl, fun c hc => ?_⟩
    obtain ⟨hbegun, hgeom⟩ := (s.enginesUp f).startChannels_chan hc
    rw [hchan c]
    exact ⟨hbegun, hgeom.trans hrate⟩

end Sys2Proof.Machine
end

section
/-! DRAM bursts (O41): an uncorrectable burst of a set record. The record is rebuilt from the ledger as a whole (R188), so fields other than its state change as well. -/
namespace Sys2Proof.Machine

/-! ### The burst is read -/

theorem State.activate_dram (s : State) (ch rank bank row : Nat) : ∃ d, s.activate ch rank bank row = { s with dram := d } := by
  unfold State.activate
  dsimp only
  split <;> exact ⟨_, rfl⟩

/-- A burst that issues changes DRAM's state alone. -/
theorem State.dramIssue_dram (s : State) (a : Nat) : ∃ d, s.dramIssue a = { s with dram := d } := by
  unfold State.dramIssue
  dsimp only
  split
  · split
    · exact ⟨_, rfl⟩
    · exact State.activate_dram _ _ _ _ _
  · exact State.activate_dram _ _ _ _ _

/-- The burst is read: its row is opened, and a free value is drawn. -/
def State.burstRead (s : State) (a : Nat) : State := ({ s with free := s.free + 1 } : State).dramIssue a

theorem State.burstRead_girth (s : State) (a : Nat) : (s.burstRead a).girth = s.girth := by
  obtain ⟨d, h⟩ := State.dramIssue_dram { s with free := s.free + 1 } a
  rw [State.burstRead, h]

/-- Five to twelve bad symbols of a rank with no retired lane are reported (R340). -/
theorem State.burstEnd_of_many {s : State} {a : Nat} {bad b : List Nat} (hb : b = (bad.filter (· < 80)).eraseDups)
    (hwhole : (s.rank (rankKey (s.img.dramAt a).ch (s.img.dramAt a).rank)).retired = none) (hmany : 5 ≤ b.length) (hmost : b.length ≤ 12) : s.burstEnd a bad = .uncorrectable := by
  subst hb
  unfold State.burstEnd
  dsimp only
  rw [if_neg (by rw [hwhole]; exact fun h => h.elim (fun h => by cases h) fun h => by rw [h] at hmany; simp at hmany), if_neg (by omega), if_pos (.inl hmost)]

theorem execDramBurstDecode_of_many {s : State} {a : Nat} {bad b : List Nat} (ha : a < s.dramBytes) (hb : b = (bad.filter (· < 80)).eraseDups)
    (hwhole : (s.rank (rankKey (s.img.dramAt a).ch (s.img.dramAt a).rank)).retired = none) (hmany : 5 ≤ b.length) (hmost : b.length ≤ 12) (place : DramPlace) :
    exec (.dramBurstDecode a bad place) s = .next (((s.burstRead a).burstLost a (placeRegion place)).placeAnswer a place).settle := by
  show execDramBurstDecode a bad place s = _
  unfold execDramBurstDecode
  rw [if_pos ha, State.burstEnd_of_many hb hwhole hmany hmost]
  rfl

/-! ### A set record is rebuilt (R188) -/

/-- A set's record as the DRAM copy of the ledger gives it. -/
def State.ledgerSet (s : State) (n : Nat) : Option SetRec :=
  Table.find (((s.pagesInOrder.flatMap fun p => p.entries ++ p.refresh) ++ s.girth.ledgerNew).foldl LedgerView.take {}).sets n

theorem State.ledgerSet_of_girth {s v : State} (h : v.girth = s.girth) (n : Nat) : v.ledgerSet n = s.ledgerSet n := by
  unfold State.ledgerSet State.pagesInOrder
  rw [h]

/-- The rebuilt record is the ledger's, but for the state of a set that is released. -/
theorem State.rebuildSet_setRec {s : State} {n : Nat} {old r : SetRec} (hold : Table.find s.girth.sets n = some old) (hr : s.ledgerSet n = some r) :
    (s.rebuildSet n).setRec n = { r with state := if old.state = 3 then 3 else r.state } := by
  have hrebuilt : s.rebuildSet n = match s.ledgerSet n with
    | some r => s.modSet n fun old => { r with state := if old.state = 3 then 3 else r.state }
    | none => s := rfl
  rw [hrebuilt, hr]
  show (Table.find (Table.modify s.girth.sets n _) n).getD {} = _
  rw [Table.find_modify_self, hold]
  rfl

theorem State.setRec_of_girth {s v : State} (h : v.girth = s.girth) (n : Nat) : v.setRec n = s.setRec n := by
  unfold State.setRec
  rw [h]

theorem State.placeAnswer_setRec (s : State) (a n : Nat) : (s.placeAnswer a (.setRec n)).girth = (s.rebuildSet n).girth ∧ (s.placeAnswer a (.setRec n)).dump = s.dump := by
  have hdump : (s.rebuildSet n).dump = s.dump := by
    unfold State.rebuildSet
    dsimp only
    split <;> rfl
  unfold State.placeAnswer
  exact ⟨by simp, by simp [hdump]⟩

/-- Before restart's step 7 what settles leaves the girths. -/
theorem State.settle_girth_of_early {s : State} (h : s.dump.step < 7) : s.settle.girth = s.girth := by
  have hoff (k : Nat) (hk : 7 ≤ k) : s.engines k = false := by simp [State.engines, show ¬ k ≤ s.dump.step by omega]
  have hmap : s.settleMap = s := by
    unfold State.settleMap State.settleUnits
    simp [hoff]
  have hflash : s.settleFlash = s := by
    unfold State.settleFlash
    simp [hoff]
  have hsettle : s.settle = s.settleFront := by
    unfold State.settle State.settleFront
    rw [hmap, hflash]
  rw [hsettle]
  simp

/-- A part at the start of its boot order, whose ledger holds set 3 as it was opened; the set's record has gone one word line further. -/
def setAhead : State :=
  { State.reset with
    dram := { State.reset.dram with gib := 64, ranksPer := 1 }
    girth := { State.reset.girth with sets := [(3, { state := 1, nextWl := 1 })], ledgerNew := [.setOpen 3 {}] } }

/-- Refutes O41: a set record's uncorrectable burst takes every field of the record from the ledger, NEXT_WL of `setAhead` too; the statement keeps all but STATE. -/
theorem not_dramBurstsDecodeAndScrub : ¬ Obligations.DramBurstsDecodeAndScrub := by
  unfold Obligations.DramBurstsDecodeAndScrub
  rintro ⟨-, hbursts, -⟩
  have hfit : 0 < setAhead.dramBytes := by decide
  have hwhole : (setAhead.rank (rankKey (setAhead.img.dramAt 0).ch (setAhead.img.dramAt 0).rank)).retired = none := rfl
  obtain ⟨-, -, hlost⟩ := hbursts setAhead 0 [0, 1, 2, 3, 4] (.setRec 3) [0, 1, 2, 3, 4] _ hfit (by decide) rfl
  obtain ⟨u, hexec, -, -, -, -, -, hset, -⟩ := hlost hwhole (by decide) (by decide)
  obtain ⟨hdata, -, hrec⟩ := hset 3 rfl
  have hclaimed : (u.setRec 3).nextWl = 1 := congrArg SetRec.nextWl (hrec _ rfl rfl)
  have hactual := hexec.symm.trans (execDramBurstDecode_of_many hfit (b := [0, 1, 2, 3, 4]) (by decide) hwhole (by decide) (by decide) (.setRec 3))
  injection hactual with hsettled
  -- the step's own state before it settles, with the record as it is rebuilt
  obtain ⟨w, hw⟩ : ∃ w, w = (setAhead.burstRead 0).burstLost 0 (placeRegion (.setRec 3)) := ⟨_, rfl⟩
  rw [← hw] at hsettled
  have hgirth : w.girth = setAhead.girth := by
    rw [hw]
    exact (by simp : _ = (setAhead.burstRead 0).girth).trans (setAhead.burstRead_girth 0)
  have hdump : w.dump = setAhead.dump := by
    rw [hw]
    simp [State.burstRead]
  obtain ⟨hanswered, hanswered'⟩ := w.placeAnswer_setRec 0 3
  have hrebuilt : (w.rebuildSet 3).setRec 3 = { state := 1 } :=
    State.rebuildSet_setRec (old := { state := 1, nextWl := 1 }) (r := { state := 1 }) (by rw [hgirth]; rfl) ((State.ledgerSet_of_girth hgirth 3).trans rfl)
  -- what settles leaves both girths
  obtain ⟨-, -, -, -, -, -, hudump, -⟩ := hdata
  have hugirth : u.girth = (w.rebuildSet 3).girth := by
    rw [← State.settle_girth_of_early (s := u) (by rw [hudump]; show setAhead.dump.step < 7; decide), hsettled, State.settle_girth_of_early (by rw [hanswered', hdump]; decide), hanswered]
  rw [State.setRec_of_girth hugirth, hrebuilt] at hclaimed
  exact absurd hclaimed (by decide)

end Sys2Proof.Machine
end

section
/-! Skive Stream and Unskive Stream (O40): the engines' runs by induction on their fuel, and the two ways in which a command of a stream ends (R328 to R336). -/
namespace Sys2Proof.Machine

/-! ### The room and the limit (R330, R334) -/

/-- The output lies in the room, and, for a stream that began in this command, the total within the limit. -/
def StreamRun.Fits (room limit : Nat) (fresh : Prop) (r : StreamRun) : Prop := r.out.length ≤ room ∧ (fresh → limit ≠ 0 → r.ctx.total ≤ limit)

/-- Output that nothing stops fits. -/
theorem StreamRun.Fits.wrote {room limit n : Nat} {fresh : Prop} {r r' : StreamRun} (h : r.Fits room limit fresh) (hgoes : outStops r room limit n = .none)
    (hout : r'.out.length = r.out.length + n) (htotal : r'.ctx.total = r.ctx.total + n) : r'.Fits room limit fresh := by
  unfold outStops at hgoes
  split at hgoes; · cases hgoes
  next hlimit =>
  split at hgoes; · cases hgoes
  next hroom => exact ⟨by omega, fun hfresh hne => by have := h.2 hfresh hne; omega⟩

theorem StreamRun.Fits.kept {room limit : Nat} {fresh : Prop} {r r' : StreamRun} (h : r.Fits room limit fresh) (hout : r'.out = r.out) (htotal : r'.ctx.total = r.ctx.total) :
    r'.Fits room limit fresh := by
  unfold StreamRun.Fits
  rw [hout, htotal]
  exact h

/-! ### Skive (R331, R332) -/

/-- The window of a step: what the context carries and the next bytes of the input, 256 at most. -/
def StreamRun.windowMore (r : StreamRun) : Nat := min (256 - r.ctx.carry.length) r.rest.length
def StreamRun.window (r : StreamRun) : List Byte := r.ctx.carry ++ r.rest.take r.windowMore
/-- The window is the last one of a FINAL command. -/
def StreamRun.windowLast (flush : Nat) (r : StreamRun) : Bool := decide (flush = 2) && decide (r.rest.length = r.windowMore)
/-- The window as the encoder gives it: bytes, dictionary, and whether it is stored. -/
def StreamRun.windowCoded (r : StreamRun) : List Byte × List (List Byte) × Bool := if r.window = [] then ([], r.ctx.entries, false) else skiveWindow r.ctx r.window
/-- What the window adds to the output: the header before the first, END after the last. -/
def StreamRun.windowPiece (wcode flush : Nat) (r : StreamRun) : List Byte :=
  (if r.ctx.header then skiveHeader wcode false else []) ++ r.windowCoded.1 ++ (if r.windowLast flush then [endByte] else [])
/-- The input waits for more in the context. -/
def StreamRun.carries (r : StreamRun) : StreamRun := { r with ctx := { r.ctx with carry := r.ctx.carry ++ r.rest }, rest := [], taken := r.taken + r.rest.length }
/-- The window has been written. -/
def StreamRun.writes (pct wcode flush : Nat) (r : StreamRun) : StreamRun :=
  { r with
    rest := r.rest.drop r.windowMore
    taken := r.taken + r.windowMore
    out := r.out ++ r.windowPiece wcode flush
    ctx := { r.ctx with entries := r.windowCoded.2.1, carry := [], total := r.ctx.total + (r.windowPiece wcode flush).length, header := false,
                        poor := r.windowCoded.2.2 || decide (r.window.length * pct < r.windowCoded.1.length * 100) } }
/-- The window stands in the context, and is not written. -/
def StreamRun.holds (r : StreamRun) (stop : StreamStop) : StreamRun :=
  { r with rest := r.rest.drop r.windowMore, taken := r.taken + r.windowMore, ctx := { r.ctx with carry := r.window }, stop := stop }

theorem skiveRun_succ (pct wcode room limit flush fuel : Nat) (r : StreamRun) : skiveRun pct wcode room limit flush (fuel + 1) r =
    if r.ctx.carry.length + r.rest.length < 256 ∧ flush = 0 ∨ (r.ctx.carry.length + r.rest.length = 0 ∧ flush ≠ 2) then r.carries
    else match outStops r room limit (r.windowPiece wcode flush).length with
      | .none => if r.windowLast flush then { r.writes pct wcode flush with stop := .ended } else skiveRun pct wcode room limit flush fuel (r.writes pct wcode flush)
      | stop => r.holds stop := by
  conv => lhs; unfold skiveRun
  rfl

/-- The ways in which a step of the skiver goes. -/
theorem skiveRun_cases (pct wcode room limit flush fuel : Nat) (r : StreamRun) {P : StreamRun → Prop}
    (hidle : r.ctx.carry.length + r.rest.length < 256 → flush ≠ 2 → P r.carries)
    (hholds : ∀ stop, stop ≠ .none → P (r.holds stop))
    (hends : outStops r room limit (r.windowPiece wcode flush).length = .none → P { r.writes pct wcode flush with stop := .ended })
    (hgoes : outStops r room limit (r.windowPiece wcode flush).length = .none → r.windowLast flush = false → (flush ≠ 2 → 0 < r.ctx.carry.length + r.rest.length) →
      P (skiveRun pct wcode room limit flush fuel (r.writes pct wcode flush))) : P (skiveRun pct wcode room limit flush (fuel + 1) r) := by
  rw [skiveRun_succ]
  split
  · next h => exact hidle (by omega) (by omega)
  · next hwork =>
    split
    · next hnone =>
      split
      · exact hends hnone
      · next hlast => exact hgoes hnone (by simpa using hlast) (by omega)
    · next hstop => exact hholds _ hstop

theorem skiveRun_fits (pct wcode room limit flush : Nat) {fresh : Prop} (fuel : Nat) (r : StreamRun) (h : r.Fits room limit fresh) :
    (skiveRun pct wcode room limit flush fuel r).Fits room limit fresh := by
  induction fuel generalizing r with
  | zero => exact h
  | succ fuel ih =>
    have hwrote (hnone : outStops r room limit (r.windowPiece wcode flush).length = .none) : (r.writes pct wcode flush).Fits room limit fresh :=
      h.wrote hnone List.length_append rfl
    refine skiveRun_cases (P := fun u => u.Fits room limit fresh) pct wcode room limit flush fuel r (fun _ _ => h.kept rfl rfl) (fun stop _ => h.kept rfl rfl)
      (fun hnone => (hwrote hnone).kept rfl rfl) fun hnone _ _ => ih _ (hwrote hnone)

/-- With fuel for every byte of input and one window of carried bytes, a skive that nothing stops takes its whole input, and is not a FINAL one. -/
theorem skiveRun_taken (pct wcode room limit flush : Nat) (fuel : Nat) (r : StreamRun) (hfuel : r.rest.length + (if r.ctx.carry = [] then 1 else 2) ≤ fuel)
    (hstop : (skiveRun pct wcode room limit flush fuel r).stop = .none) :
    (skiveRun pct wcode room limit flush fuel r).taken = r.taken + r.rest.length ∧ (skiveRun pct wcode room limit flush fuel r).ctx.carry.length < 256 ∧ flush ≠ 2 := by
  induction fuel generalizing r with
  | zero => split at hfuel <;> omega
  | succ fuel ih =>
    revert hstop
    refine skiveRun_cases (P := fun u => u.stop = .none → u.taken = r.taken + r.rest.length ∧ u.ctx.carry.length < 256 ∧ flush ≠ 2) pct wcode room limit flush fuel r
      (fun hless hflush _ => ⟨rfl, by simpa [StreamRun.carries] using hless, hflush⟩) (fun stop hne h => absurd h hne) (fun _ h => by cases h) fun _ hlast hsome h => ?_
    have hmore : r.windowMore ≤ r.rest.length := min_le_right _ _
    have hrest : (r.writes pct wcode flush).rest.length = r.rest.length - r.windowMore := List.length_drop
    -- a step with nothing carried takes a byte, or flushes nothing and is the last
    have hfuel' : (r.writes pct wcode flush).rest.length + (if (r.writes pct wcode flush).ctx.carry = [] then 1 else 2) ≤ fuel := by
      rw [if_pos (show (r.writes pct wcode flush).ctx.carry = [] from rfl), hrest]
      by_cases hcarry : r.ctx.carry = []
      · rw [if_pos hcarry] at hfuel
        have hbyte : 0 < r.rest.length := by
          by_contra hempty
          have hzero : r.rest.length = r.windowMore := by omega
          simp only [StreamRun.windowLast, hzero, decide_true, Bool.and_true, decide_eq_false_iff_not] at hlast
          have := hsome hlast
          rw [hcarry, List.length_nil] at this
          omega
        have : 0 < r.windowMore := by
          unfold StreamRun.windowMore
          rw [hcarry, List.length_nil]
          omega
        omega
      · rw [if_neg hcarry] at hfuel
        omega
    obtain ⟨htaken, hcarry, hflush⟩ := ih (r.writes pct wcode flush) hfuel' h
    refine ⟨?_, hcarry, hflush⟩
    rw [htaken, hrest]
    show r.taken + r.windowMore + _ = _
    omega

/-! ### Unskive (R333) -/

theorem unskiveRun_fits (room limit flush : Nat) {fresh : Prop} (fuel : Nat) (r : StreamRun) (h : r.Fits room limit fresh) : (unskiveRun room limit flush fuel r).Fits room limit fresh := by
  induction fuel generalizing r with
  | zero => exact h
  | succ fuel ih =>
    have hshort (bad : Nat) : (if flush = 2 then { r with stop := .format bad } else { r with ctx := { r.ctx with carry := r.ctx.carry ++ r.rest }, rest := [], taken := r.taken + r.rest.length } : StreamRun).Fits room limit fresh := by
      split <;> exact h.kept rfl rfl
    unfold unskiveRun
    dsimp only
    split
    · split
      · exact hshort _
      · split
        · exact ih _ (h.kept rfl rfl)
        · exact h.kept rfl rfl
    · split
      · exact hshort _
      · exact h.kept rfl rfl
      · exact h.kept rfl rfl
      · split
        · next hnone => exact ih _ (h.wrote hnone List.length_append rfl)
        · exact h.kept rfl rfl

/-! ### The command's run (R329 to R333) -/

/-- A command's run begins. -/
def State.streamStart (s : State) (c : Cmd) (decode : Bool) (input : List Byte) : StreamRun :=
  { ctx := s.streamCtx c decode, rest := padTo (dw c.entry 11) (input.take (dw c.entry 11)), out := [], taken := 0, stop := .none }

/-- A run of a command's engine from its start. -/
def State.streamRun (s : State) (c : Cmd) (decode : Bool) (room : Nat) (start : StreamRun) : StreamRun :=
  if decode then unskiveRun room (s.skLimit c) (skFlush c) (start.rest.length + start.ctx.carry.length + 2) start
  else skiveRun s.skv.cfg.resetPct (start.ctx.wmax - 9) room (s.skLimit c) (skFlush c) (start.rest.length + 2) start

theorem padTo_take_length (n : Nat) (bs : List Byte) : (padTo n (bs.take n)).length = n := by
  simp only [padTo, List.length_append, List.length_replicate, List.length_take]
  omega

theorem State.streamStart_fits (s : State) (c : Cmd) (decode : Bool) (input : List Byte) (room : Nat) : (s.streamStart c decode input).Fits room (s.skLimit c) (skStart c = true) := by
  refine ⟨Nat.zero_le _, fun hstart _ => ?_⟩
  show (s.streamCtx c decode).total ≤ _
  simp [State.streamCtx, hstart]

theorem State.streamRun_fits (s : State) (c : Cmd) (decode : Bool) (input : List Byte) (room : Nat) :
    (s.streamRun c decode room (s.streamStart c decode input)).Fits room (s.skLimit c) (skStart c = true) := by
  have hstart := s.streamStart_fits c decode input room
  unfold State.streamRun
  split
  · exact unskiveRun_fits _ _ _ _ _ hstart
  · exact skiveRun_fits _ _ _ _ _ _ _ hstart

theorem State.streamRun_taken (s : State) (c : Cmd) (input : List Byte) (room : Nat) (hstop : (s.streamRun c false room (s.streamStart c false input)).stop = .none) :
    (s.streamRun c false room (s.streamStart c false input)).taken = dw c.entry 11 ∧ (s.streamRun c false room (s.streamStart c false input)).ctx.carry.length < 256 ∧ skFlush c ≠ 2 := by
  have hlen : (s.streamStart c false input).rest.length = dw c.entry 11 := padTo_take_length _ _
  obtain ⟨htaken, hcarry, hflush⟩ := skiveRun_taken s.skv.cfg.resetPct ((s.streamStart c false input).ctx.wmax - 9) room (s.skLimit c) (skFlush c) ((s.streamStart c false input).rest.length + 2)
    (s.streamStart c false input) (by split <;> omega) hstop
  exact ⟨htaken.trans (by rw [hlen]; exact Nat.zero_add _), hcarry, hflush⟩

/-! ### The end of a command (R334, R335) -/

theorem StreamRun.ends_spec (r : StreamRun) (decode : Bool) : ((r.ends decode).2 = true ↔ r.stop = .none ∨ r.stop = .chain) ∧
    ((r.ends decode).1.sct = 0 ∧ (r.ends decode).1.sc = 0 ↔ r.stop = .none ∨ r.stop = .ended) ∧
    (r.stop = .chain → (r.ends decode).1.sct = 7 ∧ (r.ends decode).1.sc = 0xC7) ∧ (r.stop = .limit → (r.ends decode).1.sct = 7 ∧ (r.ends decode).1.sc = 0xC8) ∧
    (r.stop = .none ∨ r.stop = .ended ∨ r.stop = .chain ∨ r.stop = .limit → (r.ends decode).1.dw0 = r.out.length ∧ (r.ends decode).1.dw1 = r.taken) := by
  unfold StreamRun.ends
  cases hstop : r.stop with
  | format off => cases decode <;> simp [streamResult, invalidField, stat]
  | _ => simp [streamResult, ok, stat]

section Opened
variable {s v : State} {tag cid : Nat} {c : Cmd} {q : Sq} {x : SqSide} {cq : Cq} {out : List Byte}

/-- A code of severity 0 changes nothing that a command's completion tells. -/
theorem Opened.leave (o : Opened s v tag c out) (code : Nat) (xs : List Nat) : Opened s (v.leave code 0 xs) tag c out where
  row := by rw [State.cmd, State.leave_fe]; exact o.row
  rows n hn := by rw [State.cmd, State.leave_fe]; exact o.rows n hn
  fe := by rw [State.leave_fe]; exact o.fe
  frame := o.frame.trans (by simp [SameFrame])
  data := o.data.trans (by simp [SameData])
  pkg := by rw [State.leave_pkg, o.pkg]
  fault := by rw [← o.fault]; simp [State.leave, reportOf]

theorem Opened.count1 (o : Opened s v tag c out) (src : Nat) : Opened s (v.count1 src) tag c out :=
  ⟨o.row, o.rows, o.fe, o.frame.trans (by simp [SameFrame]), o.data.trans (by simp [SameData]), o.pkg, o.fault⟩

end Opened

/-- A command's context is kept as the run left it, or is gone. -/
def State.keepsCtx (s : State) (ctx : Nat) (keep : Bool) (x : SkiveCtx) : State :=
  { s with skv := { s.skv with ctxs := if keep then Table.set s.skv.ctxs ctx x else Table.del s.skv.ctxs ctx } }

section AtHand
variable {s : State} {tag cid opc : Nat} {c : Cmd} {q : Sq} {x : SqSide} {cq : Cq} {n : Namespace} {decode : Bool}

/-- A stream's command whose output goes to the host ends at once. -/
theorem AtHand.streamEnds (h : AtHand s tag c q x cq cid) (ctx : Nat) (r : StreamRun) (decode : Bool) :
    Served (s.keepsCtx ctx (r.ends decode).2 r.ctx) (((s.modCmd tag fun c => { c with started := true }).streamEnds tag ctx r decode).postAll.arrayPump) tag q x cq cid (r.ends decode).1 r.out := by
  have hhand : AtHand (s.keepsCtx ctx (r.ends decode).2 r.ctx) tag c q x cq cid := h.of_desk rfl
  have opened := (hhand.opened (Begun.self _ tag)).fill fun _ => r.out
  unfold State.streamEnds
  dsimp only
  split
  · exact (opened.count1 0x092).finish hhand _ 0
  · exact (opened.leave 0x0D04 _).finish hhand _ _
  · exact opened.finish hhand _ 0

/-- How a command ends whose output goes to the namespace: as its run, or short of blocks (R335). -/
def StreamRun.blockEnds (r : StreamRun) (decode : Bool) (blocks avail lba : Nat) : CmdResult × Bool :=
  if avail < blocks then (streamResult (stat 7 0xC7) (min blocks avail * lba) r.taken, true) else r.ends decode

theorem StreamRun.blockEnds_of_fits {r : StreamRun} {blocks avail : Nat} (h : min blocks avail = blocks) (decode : Bool) (lba : Nat) : r.blockEnds decode blocks avail lba = r.ends decode :=
  if_neg (by omega)

theorem StreamRun.blockEnds_of_short {r : StreamRun} {blocks avail : Nat} (h : min blocks avail < blocks) (decode : Bool) (lba : Nat) :
    r.blockEnds decode blocks avail lba = (streamResult (stat 7 0xC7) (min blocks avail * lba) r.taken, true) := if_pos (by omega)

/-- The command waits for its blocks, with the context as the run left it. -/
def State.streamWaits (s : State) (tag ctx : Nat) (x : SkiveCtx) (e : CmdResult × Bool) : State := (s.keepsCtx ctx true x).waitsLate tag (.stream ctx e.1 e.2)

/-- The writes of a stream's output are units of its command. -/
theorem AtHand.streamToSpace (h : AtHand s tag c q x cq cid) (n : Namespace) (r : StreamRun) (decode : Bool) :
    ∃ (u : State) (stream : Nat) (tags : Nat → Nat), (s.modCmd tag fun c => { c with started := true }).streamToSpace tag c n r decode = u.settle ∧
      Table.find u.fe.late tag = some (.stream (skCtx c) (r.blockEnds decode (ceilDiv r.out.length n.lbaBytes) (dw c.entry 13 + 1) n.lbaBytes).1
        (r.blockEnds decode (ceilDiv r.out.length n.lbaBytes) (dw c.entry 13 + 1) n.lbaBytes).2) ∧ Table.find u.skv.ctxs (skCtx c) = some r.ctx ∧
      UnitsTaken (s.streamWaits tag (skCtx c) r.ctx (r.blockEnds decode (ceilDiv r.out.length n.lbaBytes) (dw c.entry 13 + 1) n.lbaBytes)) u tag c
        ((unitSpans n (dw c.entry 14 + 2 ^ 32 * dw c.entry 15) (min (ceilDiv r.out.length n.lbaBytes) (dw c.entry 13 + 1))).map (writeJob tag n r.out stream tags)) := by
  obtain ⟨e, he⟩ : ∃ e, e = r.blockEnds decode (ceilDiv r.out.length n.lbaBytes) (dw c.entry 13 + 1) n.lbaBytes := ⟨_, rfl⟩
  rw [← he]
  have hhand : AtHand (s.streamWaits tag (skCtx c) r.ctx e) tag c q x cq cid := h.of_desk rfl
  have opened := hhand.opened (Begun.self _ tag)
  obtain ⟨v, hv, hlate⟩ : ∃ v, Opened (s.streamWaits tag (skCtx c) r.ctx e) v tag c c.out ∧
      ∃ (stream : Nat) (tags : Nat → Nat), (s.modCmd tag fun c => { c with started := true }).streamToSpace tag c n r decode =
        (v.addWrites tag n (dw c.entry 14 + 2 ^ 32 * dw c.entry 15) (min (ceilDiv r.out.length n.lbaBytes) (dw c.entry 13 + 1)) r.out stream tags).settle := by
    obtain ⟨v, hv, hmatch⟩ : ∃ v, Opened (s.streamWaits tag (skCtx c) r.ctx e) v tag c c.out ∧ v = match r.stop with
        | .format off => ((s.streamWaits tag (skCtx c) r.ctx e).modCmd tag fun c => { c with started := true }).leave 0x0D04 0 [skCtx c, off]
        | _ => if dw c.entry 13 + 1 < ceilDiv r.out.length n.lbaBytes then ((s.streamWaits tag (skCtx c) r.ctx e).modCmd tag fun c => { c with started := true }).count1 0x092
          else (s.streamWaits tag (skCtx c) r.ctx e).modCmd tag fun c => { c with started := true } := by
      refine ⟨_, ?_, rfl⟩
      split
      · exact opened.leave _ _
      · split
        · exact opened.count1 _
        · exact opened
    refine ⟨v, hv, ?_⟩
    rw [hmatch, he]
    exact ⟨_, _, rfl⟩
  obtain ⟨stream, tags, hspace⟩ := hlate
  refine ⟨_, stream, tags, hspace, ?_, ?_, ?_⟩
  · rw [State.addWrites_eq, State.addUnits_late]
    exact (congrArg (fun f : FeState => Table.find f.late tag) hv.fe).trans (Table.find_set_self _ _ _)
  · obtain ⟨-, -, -, -, -, -, -, -, hskv, -⟩ := hv.data.trans (v.addUnits_data tag ((unitSpans n (dw c.entry 14 + 2 ^ 32 * dw c.entry 15)
      (min (ceilDiv r.out.length n.lbaBytes) (dw c.entry 13 + 1))).map (writeJob tag n r.out stream tags)))
    rw [State.addWrites_eq, hskv]
    exact Table.find_set_self _ _ _
  · rw [State.addWrites_eq]
    exact hv.take _

/-! ### The command begins (R329) -/

theorem State.ctxBusy_of_earlier {c d : Cmd} {m : Nat} (hrow : s.cmd tag = some c) (hd : (m, d) ∈ s.fe.cmds) (hm : m < tag) (hopen : d.result = none) (hctx : d.ctx? = some (skCtx c)) :
    s.ctxBusy tag = true := by
  unfold State.ctxBusy
  rw [hrow]
  exact List.any_eq_true.mpr ⟨(m, d), hd, by simp [hm, hopen, hctx]⟩

theorem State.ctxBusy_of_none (hrow : s.cmd tag = some c) (h : ∀ m d, (m, d) ∈ s.fe.cmds → m < tag → d.result = none → d.ctx? ≠ some (skCtx c)) : s.ctxBusy tag = false := by
  unfold State.ctxBusy
  rw [hrow]
  refine List.any_eq_false.mpr fun ⟨m, d⟩ hd hall => ?_
  simp only [Bool.and_eq_true, decide_eq_true_eq, Option.isNone_iff_eq_none] at hall
  obtain ⟨⟨hm, hopen⟩, hctx⟩ := hall
  exact h m d hd hm hopen hctx

theorem State.streamCmd_of_busy (h : s.ctxBusy tag = true) (opc : Nat) (decode : Bool) (input : List Byte) (chain : List (BitVec 128)) : s.streamCmd tag opc decode input chain = s := if_pos h

/-- What a stream's command at hand comes to. -/
theorem AtHand.streamCmd (h : AtHand s tag c q x cq cid) (hw : c.waits false opc = true) (hfree : s.ctxBusy tag = false) (decode : Bool) (input : List Byte) (chain : List (BitVec 128)) :
    s.streamCmd tag opc decode input chain = (match s.streamRefused c decode chain with
      | some r => (s.modCmd tag fun c => { c with started := true }).finish tag r
      | none =>
        if skDest c then
          match s.cmdSpace c with
          | some n => (s.modCmd tag fun c => { c with started := true }).streamToSpace tag c n (s.streamRun c decode (2 ^ 64) (s.streamStart c decode input)) decode
          | none => (s.modCmd tag fun c => { c with started := true }).malformed tag c (stat 0 0x0B)
        else (s.modCmd tag fun c => { c with started := true }).streamEnds tag (skCtx c) (s.streamRun c decode ((chainRoom 256 chain).getD 0) (s.streamStart c decode input)) decode).postAll.arrayPump := by
  unfold State.streamCmd
  rw [if_neg (by simp [hfree]), h.begin hw rfl]
  rfl

end AtHand

/-- The checks come in order: DEST 1 without START and FINAL, then a context that is none of the command's (R329). -/
theorem State.streamRefused_first {s : State} {c : Cmd} {decode : Bool} {chain : List (BitVec 128)} {r : CmdResult} (h : s.streamRefused c decode chain = some r) :
    (skDest c = true ∧ (skStart c = false ∨ skFlush c ≠ 2) → r = invalidField) ∧
    (skDest c = false → skStart c = false → Table.find s.skv.ctxs (skCtx c) = none → r = sequenceError) := by
  unfold State.streamRefused at h
  refine ⟨fun ⟨hdest, hnot⟩ => ?_, fun hdest hstart hnone => ?_⟩
  · rw [if_pos ⟨hdest, by rcases hnot with hnot | hnot <;> simp [hnot]⟩] at h
    exact (Option.some.inj h).symm
  · rw [if_neg (by simp [hdest]), if_neg (by simp [hstart]), if_pos (by simp [hstart, hnone])] at h
    exact (Option.some.inj h).symm

/-- Settles O40: a command of either engine by its checks, its run and its two ends. -/
theorem streamsRunTheirWindows : Obligations.StreamsRunTheirWindows := by
  unfold Obligations.StreamsRunTheirWindows
  refine ⟨fun s tag c input chain hrow ⟨m, d, hd, hm, hopen, hctx⟩ => ?_, fun i s tag c q x cq cid input chain decode hi h hfree => ?_, StreamRun.ends_spec, fun s c decode chain r => State.streamRefused_first⟩
  · have hbusy := State.ctxBusy_of_earlier hrow hd hm hopen hctx
    exact ⟨congrArg Host.Outcome.next (State.streamCmd_of_busy hbusy _ _ _ _), congrArg Host.Outcome.next (State.streamCmd_of_busy hbusy _ _ _ _)⟩
  · have hfree := State.ctxBusy_of_none h.row hfree
    obtain ⟨opc, hw, hexec⟩ : ∃ opc, c.waits false opc = true ∧ exec i s = .next (s.streamCmd tag opc decode input chain) := by
      rcases hi with ⟨rfl, rfl, hw⟩ | ⟨rfl, rfl, hw⟩ <;> exact ⟨_, hw, rfl⟩
    refine ⟨_, hexec, fun r hr => ?_, fun hnone => ?_⟩
    · rw [h.streamCmd hw hfree, hr]
      exact h.served_finish r 0 (Begun.self s tag)
    · obtain ⟨room, hroom⟩ : ∃ room, room = if skDest c then 2 ^ 64 else (chainRoom 256 chain).getD 0 := ⟨_, rfl⟩
      obtain ⟨hfits, hlimit⟩ := s.streamRun_fits c decode input room
      refine ⟨s.streamRun c decode room (s.streamStart c decode input), room, fun hdest => by rw [hroom, if_neg (by simp [hdest])], hfits, ?_, hlimit, ?_, ?_, fun hdest => ?_, fun n hdest hn => ?_⟩
      · rintro start rfl
        rfl
      · rintro rfl hstop
        obtain ⟨htaken, hcarry, -⟩ := s.streamRun_taken c input room hstop
        exact ⟨htaken, hcarry⟩
      · rintro rfl hflush hstop
        obtain ⟨-, -, hne⟩ := s.streamRun_taken c input room hstop
        exact hne hflush
      · rw [if_neg (by simp [hdest])] at hroom
        subst hroom
        rw [h.streamCmd hw hfree, hnone]
        simp only [hdest, Bool.false_eq_true, if_false]
        exact h.streamEnds (skCtx c) _ decode
      · rw [if_pos hdest] at hroom
        subst hroom
        obtain ⟨u, stream, tags, hspace, hlate, hctx, hrow, hjobs, -, -, -, -, hframe, hdata⟩ := h.streamToSpace n (s.streamRun c decode (2 ^ 64) (s.streamStart c decode input)) decode
        refine ⟨u, _, _, _, _, ?_, rfl, hlate, fun hall => ?_, fun hshort => ?_, hctx, hrow, rfl, h.fresh.2.1, ?_, fun k z hz => ?_, hframe, ?_⟩
        · rw [h.streamCmd hw hfree, hnone]
          simp only [hdest, if_true, hn, hspace]
        · rw [StreamRun.blockEnds_of_fits hall]
          exact ⟨rfl, rfl⟩
        · rw [StreamRun.blockEnds_of_short hshort]
          exact ⟨rfl, rfl⟩
        · simp
        · refine ⟨_, hjobs k _ (by rw [List.getElem?_map, hz]; rfl), rfl, rfl, rfl, rfl⟩
        · obtain ⟨hawl, hcodec, hmap, hblk, hgirth, hwb, hdump, hcipher, -, hmc, hmedia⟩ := hdata
          exact ⟨hawl, hcodec, hmap, hblk, hgirth, hwb, hdump, hcipher, rfl, hmc, hmedia⟩

end Sys2Proof.Machine
end
